-- ==== Sys2Proof/Word.lean ====
section
/-!
DEFINITION. The words of the FMX4128: registers and register-mapped memories are 32-bit words, MRAM is bytes, and the
mailbox, interrupt and predicate sets are bit vectors. Numbers the manual never handles as bits are Nat or Int.
-/
namespace Sys2Proof

/-- A register or memory word of the device (R7: registers are 32 bits wide). -/
abbrev Word := BitVec 32

/-- One byte of MRAM. -/
abbrev Byte := BitVec 8

/-- A frame or message as the bytes on its medium, first byte first. -/
abbrev Bytes := List Byte

end Sys2Proof
end

