-- ==== Sys2Proof/Machine/Bits.lean ====
section
/-!
DEFINITION. Bit fields, signed readings, saturating counters, rounding and byte order: the small arithmetic every
family of commands uses.
-/
namespace Sys2Proof

/-- Bits [hi:lo] of a word, as a number (R1: bit ranges are inclusive). -/
def field (w : Word) (hi lo : Nat) : Nat := (w.toNat / 2 ^ lo) % 2 ^ (hi - lo + 1)

/-- Bit i of a word. -/
def bitAt (w : Word) (i : Nat) : Bool := w.getLsbD i

/-- A word with ones in bits [hi:lo]. -/
def maskOf (hi lo : Nat) : Word := BitVec.ofNat 32 ((2 ^ (hi - lo + 1) - 1) * 2 ^ lo)

/-- The word w with bits [hi:lo] replaced by v modulo the field's width. -/
def putField (w : Word) (hi lo : Nat) (v : Nat) : Word :=
  (w &&& ~~~ maskOf hi lo) ||| (BitVec.ofNat 32 (v % 2 ^ (hi - lo + 1) * 2 ^ lo))

/-- A Bool as a bit. -/
def b2n (b : Bool) : Nat := if b then 1 else 0

/-- The word that holds a number modulo 2^32. -/
def w32 (n : Nat) : Word := BitVec.ofNat 32 n

/-- The word that holds an integer in two's complement. -/
def wInt (i : Int) : Word := BitVec.ofInt 32 i

/-- An n-bit field read as two's complement. -/
def sext (n : Nat) (v : Nat) : Int :=
  let m := v % 2 ^ n
  if m < 2 ^ (n - 1) then (m : Int) else (m : Int) - (2 ^ n : Nat)

/-- An integer as an n-bit two's complement field. -/
def toField (n : Nat) (i : Int) : Nat := (i % ((2 ^ n : Nat) : Int)).toNat

/-- A count that stops at its largest value. -/
def satTo (m : Nat) (n : Nat) : Nat := if n > m then m else n

/-- The integer nearest to i within lo to hi. -/
def clampInt (lo hi i : Int) : Int := if i < lo then lo else if i > hi then hi else i

/-- A saturating n-bit two's complement value. -/
def satS (n : Nat) (i : Int) : Int := clampInt (-((2 ^ (n - 1) : Nat) : Int)) (((2 ^ (n - 1) : Nat) : Int) - 1) i

/-- Nearest integer to num / 2^sh, ties away from zero for positive and negative values alike: see `roundShift`
in the filter chain for the rule R83; this one rounds a quotient of integers (den > 0) half towards plus infinity. -/
def floorDiv (num : Int) (den : Nat) : Int := num / (den : Int)

/-- The four bytes of a word, lowest address first (little-endian, as R365 states for records). -/
def leBytes (w : Word) : Bytes := [w.extractLsb' 0 8, w.extractLsb' 8 8, w.extractLsb' 16 8, w.extractLsb' 24 8]

/-- A word from bytes, lowest address first; missing bytes count as 0. -/
def leWord (b : Bytes) : Word :=
  w32 ((b.getD 0 0).toNat + (b.getD 1 0).toNat * 256 + (b.getD 2 0).toNat * 65536 + (b.getD 3 0).toNat * 16777216)

/-- A number from bytes, first byte most significant (network order). -/
def beNat (b : Bytes) : Nat := b.foldl (fun a x => a * 256 + x.toNat) 0

/-- The n bytes of a number, most significant first. -/
def beBytes : Nat → Nat → Bytes
  | 0, _ => []
  | n + 1, v => BitVec.ofNat 8 (v / 256 ^ n) :: beBytes n v

/-- The indices below n at which p holds, ascending. -/
def idxWhere (n : Nat) (p : Nat → Bool) : List Nat := (List.range n).filter p

/-- Apply f for every index of a list in order. -/
def foldIdx {α : Type} (l : List Nat) (f : Nat → α → α) (a : α) : α := l.foldl (fun x i => f i x) a

/-- Replace entry i of a list. -/
def setAt {α : Type} (l : List α) (i : Nat) (x : α) : List α := l.set i x

/-- Bits of a word as a list, bit 0 first. -/
def bitsOf (n : Nat) (v : Nat) : List Bool := (List.range n).map (fun i => v.testBit i)

/-- The number whose bit i is p i, i below n. -/
def packBits (n : Nat) (p : Nat → Bool) : Nat := (List.range n).foldl (fun a i => if p i then a + 2 ^ i else a) 0

end Sys2Proof
end

