-- ==== Sys2Proof/Machine/Map.lean ====
section
/-!
DEFINITION. Sparse maps from a number to a value: a list of pairs in ascending order of key in which no entry holds the
value that an unlisted key reads as. Registers, memories and per-unit state are held in this form, so that two equal
states are equal data.
-/
namespace Sys2Proof

/-- A sparse map; what an unlisted key reads as is given by the reader. -/
abbrev SMap (α : Type) := List (Nat × α)

/-- The value at key k; d k where the map does not list it. -/
def SMap.get {α : Type} (d : Nat → α) : SMap α → Nat → α
  | [], k => d k
  | (a, v) :: m, k => if a = k then v else SMap.get d m k

/-- The map without key k. -/
def SMap.erase {α : Type} : SMap α → Nat → SMap α
  | [], _ => []
  | (a, v) :: m, k => if a = k then SMap.erase m k else (a, v) :: SMap.erase m k

/-- The map with (k, v) put before the first larger key. -/
def SMap.insert {α : Type} : SMap α → Nat → α → SMap α
  | [], k, v => [(k, v)]
  | (a, x) :: m, k, v => if k < a then (k, v) :: (a, x) :: m else (a, x) :: SMap.insert m k v

/-- The map with v at key k, in canonical form: the entry goes when v is what an unlisted key reads as. -/
def SMap.set {α : Type} [DecidableEq α] (d : Nat → α) (m : SMap α) (k : Nat) (v : α) : SMap α :=
  if v = d k then SMap.erase m k else SMap.insert (SMap.erase m k) k v

/-- Drop every entry whose key satisfies p: those keys read as unlisted again (a reset of a domain). -/
def SMap.drop {α : Type} (p : Nat → Bool) (m : SMap α) : SMap α := m.filter (fun e => ! p e.1)

/-- Keys strictly ascending from lo on. -/
def SMap.sortedFrom {α : Type} : Nat → SMap α → Bool
  | _, [] => true
  | lo, (a, _) :: m => decide (lo ≤ a) && SMap.sortedFrom (a + 1) m

/-- The canonical form: keys strictly ascending, and no entry equal to what its key reads as when unlisted. -/
def SMap.wf {α : Type} [DecidableEq α] (d : Nat → α) (m : SMap α) : Bool :=
  SMap.sortedFrom 0 m && m.all (fun e => decide (e.2 ≠ d e.1))

end Sys2Proof
end

