-- ==== Sys2Proof/Syntax/Payload.lean ====
section
/-!
DEFINITION. What the commands carry besides plain numbers: who sends a command, and the contents of frames, edges and
image requests. Whatever an analogue or external circuit decides (a CRC result, a level crossing) is such an operand.
-/
namespace Sys2Proof

/-- A requester of register accesses: the host (HBI or SPI) or one of the two supervisor cores (R556, R566). -/
inductive Req where
  | host
  | sup0
  | sup1
  deriving DecidableEq, Repr

/-- A function that accesses MRAM (R37, R38); the supervisor also loads images through it. -/
inductive MUser where
  | supervisor
  | host
  | lathe
  | tally
  | recorder
  deriving DecidableEq, Repr

/-- What a link's receiver judges of a frame (R15): its sequence number and whether its CRC passes. -/
structure RxFrame where
  seq : BitVec 8
  crcOk : Bool
  deriving DecidableEq, Repr

/-- A time value (R396) with its epoch: seconds, nanoseconds and epoch, as records and captures carry it. -/
structure Stamp where
  sec : Nat
  ns : Nat
  epoch : Nat
  deriving DecidableEq, Repr

/-- A core that executes Walso instructions: the element core of a cluster, a supervisor core, or the Lathe pair
(R158). -/
inductive CoreId where
  | elem (c : Fin 16)
  | sup (i : Fin 2)
  | lathe
  deriving DecidableEq, Repr

/-- A CAN frame as it stands on the bus: format, identifier (base in bits 28 to 18, extension in bits 17 to 0), data length
code and data bytes (R471, R476). -/
structure CanFrame where
  ide : Bool
  fdf : Bool
  brs : Bool
  esi : Bool
  rtr : Bool
  id : BitVec 29
  dlc : Fin 16
  data : Bytes
  deriving DecidableEq, Repr

/-- What a CAN controller detects on the bus: the error kinds of ISO 11898-1, a lost arbitration, or a protocol exception
(R481, R487). -/
inductive CanErr where
  | bit
  | stuff
  | form
  | crc
  | ack
  | arb
  | pxe
  deriving DecidableEq, Repr

/-- What a lost transmission carries beside its error (R473, R487): whether ISO 11898-1 exempts it from the count of TEC, the loop delay
where the frame reached the edge between FDF and res, and how many further errors its error or overload flag met. -/
structure CanLoss where
  noCount : Bool
  loop : Option (BitVec 7)
  more : Nat
  deriving DecidableEq, Repr

/-- An HB frame of the partner (R521): tick, role (4 RELEASING), flags, request (1 TAKE, 2 SWAP, 3 ACK) with its tick index, send
time and device ID. `kind` says what a SWAP is for (0 drill, 1 release, 2 demotion or hold-up, 3 drill revert): R526 and R543 need
it at the receiver, and R521 names no field for it. So with `rck`, the sender's rechuck switches and reverts, counted modulo 256 (R539). -/
structure PairHb where
  sec : Nat
  idx : Nat
  role : Nat
  pref : Bool
  sync : Bool
  svc : Bool
  holdup : Bool
  ready : Bool
  req : Nat
  reqIdx : Nat
  kind : Nat
  sentSec : Nat
  sentNs : Nat
  dev : Nat
  rck : Nat
  deriving DecidableEq, Repr

/-- A STATE frame (R534): its bytes, and the bytes of the copy regions in each cluster section, in the order of the sections. R534 gives a
section no length, and a receiver with another image does not have the sender's (log entry 196). -/
structure PairState where
  bytes : Bytes
  copies : List Nat
  deriving DecidableEq, Repr

/-- One line of a TL frame (R521): its number, STATE, breaker-failure state and count, end cause, and grant instant. -/
structure PairTl where
  n : Nat
  st : Nat
  bf : Nat
  cnt : Nat
  cause : Nat
  sec : Nat
  ns : Nat
  deriving DecidableEq, Repr

/-- A request for an export (R358, R359): the file type, 0 ASCII, 1 BINARY, 2 BINARY32, and the scale factor of the analogue channels as a
binary32 word. -/
structure ComReq where
  kind : Fin 3
  scale : Word
  deriving DecidableEq, Repr

/-- The pins sampled with the SPI strap at a release of the reset: PAIR_PREF's strap (R600) and TEST_EN (R625). -/
structure RstPins where
  pref : Bool
  testEn : Bool
  deriving DecidableEq, Repr

end Sys2Proof
end

