-- ==== Sys2Proof/Machine/Walso.lean ====
section
/-!
DEFINITION. The Walso instruction word (R167, R192 to R226, R300): its fields, the encodings of the formats, which words
are legal on which profile, and what each instruction needs to issue (R173, R174, R206).
-/
namespace Sys2Proof

/-! ### Words -/

/-- An instruction word: opcode, PN, PS and the 22 bits below (R167). -/
def wEnc (op : Nat) (pn : Bool) (ps : Fin 8) (low : BitVec 22) : Word :=
  BitVec.ofNat 6 op ++ (BitVec.ofBool pn ++ (BitVec.ofNat 3 ps.val ++ low))

def encR (op : Nat) (pn : Bool) (ps : Fin 8) (rd ra rb : BitVec 5) (fn : BitVec 7) : Word :=
  wEnc op pn ps (rd ++ (ra ++ (rb ++ fn)))
def encI (op : Nat) (pn : Bool) (ps : Fin 8) (rd ra : BitVec 5) (imm : BitVec 12) : Word :=
  wEnc op pn ps (rd ++ (ra ++ imm))
def encU (op : Nat) (pn : Bool) (ps : Fin 8) (rd : BitVec 5) (imm : BitVec 17) : Word := wEnc op pn ps (rd ++ imm)
def encZ (op : Nat) (pn : Bool) (ps : Fin 8) (zd za zb : BitVec 4) (ga fn : BitVec 5) : Word :=
  wEnc op pn ps (zd ++ (za ++ (zb ++ (ga ++ fn))))

/-- The opcode of a word. -/
def wOp (w : Word) : Nat := field w 31 26
/-- The predicate field of a word: PN and PS. -/
def wPn (w : Word) : Bool := bitAt w 25
def wPs (w : Word) : Nat := field w 24 22
def wRd (w : Word) : Nat := field w 21 17
def wRa (w : Word) : Nat := field w 16 12
def wRb (w : Word) : Nat := field w 11 7
def wFn (w : Word) : Nat := field w 6 0
def wImm (w : Word) : Nat := field w 11 0
/-- The complex fields of the Z format. -/
def zZd (w : Word) : Nat := field w 21 18
def zZa (w : Word) : Nat := field w 17 14
def zZb (w : Word) : Nat := field w 13 10
def zGa (w : Word) : Nat := field w 9 5
def zFn (w : Word) : Nat := field w 4 0

/-- Whether an instruction is unpredicated: PN = 0, PS = 0. -/
def wPlain (w : Word) : Bool := !wPn w && decide (wPs w = 0)

/-! ### Legality -/

/-- The instruction profiles (R157). -/
inductive Prof where
  | e | s | l
  deriving DecidableEq, Repr

def CoreId.prof : CoreId → Prof
  | .elem _ => .e
  | .sup _ => .s
  | .lathe => .l

/-- Number of a core in the state's map of cores. -/
def CoreId.num : CoreId → Nat
  | .elem c => c.val
  | .sup i => 16 + i.val
  | .lathe => 18

/-- The profiles that have an opcode (R192); none for a reserved opcode. -/
def opProfiles (op : Nat) : List Prof :=
  if op = 0 ∨ op = 0xF ∨ (0x19 ≤ op ∧ op ≤ 0x1F) ∨ (0x21 ≤ op ∧ op ≤ 0x23) ∨ op = 0x36 ∨ op = 0x37 ∨ op = 0x3F then []
  else if 0x24 ≤ op ∧ op ≤ 0x27 then [.s]
  else if 0x2C ≤ op ∧ op ≤ 0x2F then [.l]
  else if (0x28 ≤ op ∧ op ≤ 0x2B) ∨ 0x38 ≤ op ∨ op = 0x35 ∨ (0x14 ≤ op ∧ op ≤ 0x16) then [.e]
  else [.e, .s, .l]

/-- The control registers of R226. -/
def csrListed (n : Nat) : Bool :=
  decide (n ≤ 6) || (decide (0x10 ≤ n) && decide (n < 0x30)) || decide (n = 0x40) || decide (n = 0x41)

/-- Whether the fields of CPX that an operation does not use are 0 (R203). -/
def cpxOk (w : Word) : Bool :=
  let fn := zFn w
  if fn ≤ 5 then decide (zGa w = 0)
  else if fn = 6 then decide (zZb w = 0)
  else if fn = 7 ∨ fn = 0xE then decide (zZb w = 0 ∧ zGa w = 0)
  else if 8 ≤ fn ∧ fn ≤ 0xB then decide (zZd w = 0 ∧ zZb w = 0)
  else if fn = 0xC ∨ fn = 0xD then decide (zZa w = 0 ∧ zZb w = 0)
  else false

/-- Whether the fields of a word of a known opcode are legal: reserved values, fields marked 0 and function codes of
R192 to R226 and R300. -/
def wFields (prof : Prof) (w : Word) : Bool :=
  let op := wOp w
  let fn := wFn w
  let low0 : Bool := decide (field w 21 0 = 0)
  if op = 0x01 then decide (fn ≤ 0x0F) || (decide (fn ≤ 0x11) && decide (wRb w = 0))
  else if op = 0x06 then decide (field w 11 10 ≠ 3) && decide (field w 9 5 = 0)
  else if op = 0x08 then decide (field w 16 15 = 0)
  else if op = 0x09 then
    decide (field w 21 20 = 0) &&
      (decide (fn ≤ 5) || (decide (8 ≤ fn ∧ fn ≤ 0xB) && decide (wRa w < 8 ∧ wRb w < 8)) ||
        (decide (fn = 0xC) && decide (wRb w = 0)) || decide (fn = 0xD))
  else if op = 0x0B then
    decide (fn ≤ 0x0B) && (decide (fn ≤ 3) || decide (fn = 5) || decide (fn = 6) || decide (wRb w = 0))
  else if op = 0x0C then decide (field w 21 20 = 0) && decide (fn ≤ 3)
  else if op = 0x0E then
    decide (wRa w = 0) && (decide (fn = 0) || (decide (fn = 1) && decide (wRd w = 0)) ||
      (decide (fn = 2) && decide (wRb w < 4)) || decide (fn = 3))
  else if op = 0x12 ∨ op = 0x13 ∨ op = 0x16 then !bitAt w 21
  else if op = 0x17 then decide (fn / 16 = 0) && decide (fn / 4 < 3) && (decide (prof = .e) || decide (fn / 4 = 0))
  else if op = 0x18 then decide (fn < 4)
  else if op = 0x20 then cpxOk w
  else if op = 0x24 then csrListed (wImm w)
  else if 0x25 ≤ op ∧ op ≤ 0x27 then low0
  else if op = 0x28 then decide (field w 15 8 = 0) && (bitAt w 16 || decide (wRd w = 0))
  else if op = 0x29 then
    decide (field w 14 5 = 0) && (if field w 16 15 = 3 then decide (wRd w = 0) else decide (field w 4 0 = 0))
  else if op = 0x2B then
    decide (field w 16 15 ≠ 3) && decide (field w 14 9 = 0) && !bitAt w 4 &&
      (decide (field w 16 15 ≠ 0) || decide (field w 8 5 = 0))
  else if op = 0x2C then decide (field w 15 12 = 0)
  else if op = 0x2D then decide (field w 11 10 ≠ 3)
  else if op = 0x2F then low0 && wPlain w
  else if op = 0x31 then wPlain w
  else if op = 0x32 then decide (field w 8 0 = 0)
  else if op = 0x33 then decide (field w 21 17 = 0)
  else if op = 0x34 then low0
  else if op = 0x35 then low0 && wPlain w
  else if op = 0x39 then decide (field w 8 7 = 0) && decide (field w 6 0 < 64)
  else if op = 0x3A then !bitAt w 21 && decide (field w 10 0 = 0) && decide (field w 16 13 ≤ 13) && decide (field w 12 11 ≠ 3)
  else if op = 0x3B then decide (field w 13 0 = 0) && decide (field w 16 14 ≤ 4)
  else if op = 0x3C then decide (field w 4 0 = 0) && decide (field w 6 5 ≠ 3)
  else if op = 0x3D ∨ op = 0x3E then decide (field w 3 0 = 0) && decide (field w 5 4 ≠ 3)
  else true

/-- The cause that decoding a word raises on a profile: ILLEGAL (0x01), PROFILE (0x02), or none (R158, R179, R192). -/
def wCause (prof : Prof) (w : Word) : Option Nat :=
  let ps := opProfiles (wOp w)
  if ps = [] then some 1
  else if !ps.contains prof then some 2
  else if wPn w && decide (wPs w = 0) then some 1
  else if wFields prof w then none else some 1

/-! ### Issue -/

/-- What an instruction needs and does at issue (R174): resources it reads, resources it writes with their latency, units it
occupies with their cycles, its issue cost, and the latency at which its flags reach FSTAT, where it sets any. Resources: g
registers 0 to 31, z registers 32 to 47, predicates 48 to 55; units 64 divider, 65 CORDIC, 66 phasor port, 67 sequence unit, 68
curve unit, 69 comparator unit, 70 timer unit, 71 exchange port. -/
structure Issue where
  srcs : List Nat
  dsts : List (Nat × Nat)
  units : List (Nat × Nat)
  cost : Nat
  flags : Option Nat
  deriving DecidableEq, Repr

def gR (i : Nat) : Nat := i
def zR (i : Nat) : Nat := 32 + i
def pR (i : Nat) : Nat := 48 + i

/-- Class A, F and the like: sources, one destination with a latency, cost 1. -/
def iss (srcs : List Nat) (d lat : Nat) : Issue := { srcs := srcs, dsts := [(d, lat)], units := [], cost := 1, flags := none }

/-- As `iss`, setting flags with its result. -/
def issF (srcs : List Nat) (d lat : Nat) : Issue := { iss srcs d lat with flags := some lat }

/-- No destination. -/
def iss0 (srcs : List Nat) (cost : Nat) : Issue := { srcs := srcs, dsts := [], units := [], cost := cost, flags := none }

/-- The latency of a load by space: 0 DMEM, 1 windows, 2 phasor RAM (R173). -/
def loadLat (space : Nat) : Nat := if space = 0 then 2 else if space = 1 then 3 else 4

/-- The issue data of CPX by function (R203). -/
def cpxIssue (w : Word) : Issue :=
  let fn := zFn w
  let d := zR (zZd w)
  let a := zR (zZa w)
  let b := zR (zZb w)
  let g := gR (zGa w)
  if fn ≤ 3 then issF [a, b] d 5
  else if fn ≤ 5 then issF [d, a, b] d 5
  else if fn = 6 then issF [a, g] d 5
  else if fn = 7 ∨ fn = 0xE then iss [a] d 1
  else if fn = 8 ∨ fn = 9 then { issF [a] g 12 with units := [(65, 8)] }
  else if fn = 0xA ∨ fn = 0xB then iss [a] g 1
  else iss [d, g] d 1

/-- The issue data of a legal word, without its predicate (R173, R206, R300). -/
def wIssueBare (w : Word) : Issue :=
  let op := wOp w
  let rd := gR (wRd w)
  let ra := gR (wRa w)
  let rb := gR (wRb w)
  let pd := pR (field w 19 17)
  let fn := wFn w
  if op = 0x01 then iss [ra, rb] rd 1
  else if 0x02 ≤ op ∧ op ≤ 0x06 then iss [ra] rd 1
  else if op = 0x07 then iss [] rd 1
  else if op = 0x08 then iss [rd] rd 1
  else if op = 0x09 then
    if 8 ≤ fn ∧ fn ≤ 0xB then iss [pR (wRa w), pR (wRb w)] pd 1
    else if fn = 0xC ∨ fn = 0xD then iss [ra] pd 1
    else iss [ra, rb] pd 1
  else if op = 0x0A then iss [ra] pd 1
  else if op = 0x0B then
    if fn = 3 then { issF [ra, rb] rd 16 with units := [(64, 14)] }
    else if fn = 4 then { issF [ra] rd 16 with units := [(64, 14)] }
    else if fn = 7 ∨ fn = 8 then iss [ra] rd 1
    else if 9 ≤ fn then issF [ra] rd 4
    else issF [ra, rb] rd 4
  else if op = 0x0C then issF [ra, rb] pd 4
  else if op = 0x0D then issF [ra, rb, gR (fn / 4)] rd 5
  else if op = 0x0E then
    if fn = 1 then iss0 [] 1
    else if fn = 3 then iss [49, 50, 51, 52, 53, 54, 55] rd 1
    else iss [] rd 1
  else if op = 0x10 then iss [ra] rd 2
  else if op = 0x11 then iss0 [rd, ra] 1
  else if op = 0x12 then iss [ra] (zR (wRd w % 16)) 2
  else if op = 0x13 then iss0 [zR (wRd w % 16), ra] 1
  else if op = 0x14 then iss [ra] rd 3
  else if op = 0x15 then iss [ra] rd 4
  else if op = 0x16 then iss [ra] (zR (wRd w % 16)) 4
  else if op = 0x17 then iss [ra, rb] rd (loadLat (fn / 4 % 4))
  else if op = 0x18 then iss0 [rd, ra, rb] 1
  else if op = 0x20 then cpxIssue w
  else if op = 0x24 then iss [ra] rd 1
  else if op = 0x25 then iss0 [] 3
  else if op = 0x28 then iss0 (if bitAt w 16 then [rd] else []) 1
  else if op = 0x29 then iss0 [rd] 1
  else if op = 0x2A then iss0 [rd, ra] 1
  else if op = 0x2B then
    if field w 16 15 = 0 then iss0 [rd] 1
    else { iss [] rd 4 with units := [(71, 1)] }
  else if op = 0x2C then if bitAt w 16 then iss0 [rd] 1 else iss [] rd 3
  else if op = 0x2D then { iss [ra] rd 3 with units := [(70, 1)] }
  else if op = 0x2E then iss [ra] rd 2
  else if op = 0x32 then iss0 [rd] 3
  else if op = 0x33 ∨ op = 0x34 then iss0 [] 3
  else if op = 0x38 then { iss [] rd 3 with dsts := [(rd, 3), (zR (field w 16 13), 3)] }
  else if op = 0x39 then { iss [] rd 6 with dsts := [(rd, 6), (zR (field w 16 13), 6)], units := [(66, 2)] }
  else if op = 0x3A then
    let a := field w 16 13
    { iss [zR a, zR (a + 1), zR (a + 2)] (zR (field w 20 17)) 9 with units := [(67, 3)], flags := some 9 }
  else if op = 0x3B then iss [] rd 2
  else if op = 0x3C then { iss [ra] rd 10 with units := [(68, 4)] }
  else if op = 0x3D then { iss [ra] rd 4 with units := [(69, 1)] }
  else if op = 0x3E then { iss [ra] rd 3 with units := [(70, 1)] }
  else iss0 [] 1

/-- The issue data of a legal word: its predicate is a source too (R174). Writes to g0 and p0 are discarded and leave nothing
pending (R159). -/
def wIssue (w : Word) : Issue :=
  let i := wIssueBare w
  { i with srcs := pR (wPs w) :: i.srcs, dsts := i.dsts.filter (fun d => decide (d.1 ≠ 0) && decide (d.1 ≠ 48)) }

/-- Whether an instruction waits for the flags of all earlier ones (R200): RDFS and CLRFS. -/
def wWaitsFlags (w : Word) : Bool := decide (wOp w = 0x0E) && decide (wFn w ≤ 1)

/-- The timing state of R174 and R176: the cycle at which the next instruction may issue, ready and free cycles by resource,
and the cycle at which the last pending flags are set. -/
structure Timing where
  cyc : Nat
  ready : SMap Nat
  flagsAt : Nat
  deriving DecidableEq, Repr

def Timing.at_ (t : Timing) (r : Nat) : Nat := SMap.get (fun _ => 0) t.ready r

/-- The cycle in which an instruction issues (R174). -/
def Timing.issueAt (t : Timing) (i : Issue) (waits : Bool) : Nat :=
  let base := if waits then max t.cyc t.flagsAt else t.cyc
  (i.srcs ++ i.dsts.map (·.1) ++ i.units.map (·.1)).foldl (fun c r => max c (t.at_ r)) base

/-- The timing state after an instruction that issued in cycle c and took `cost` cycles of issue. -/
def Timing.after (t : Timing) (i : Issue) (c cost : Nat) : Timing :=
  let busy := (i.dsts ++ i.units).foldl (fun m d => SMap.set (fun _ => 0) m d.1 (c + d.2)) t.ready
  { cyc := c + cost, ready := busy, flagsAt := match i.flags with
      | some l => max t.flagsAt (c + l)
      | none => t.flagsAt }

end Sys2Proof
end

