-- ==== Sys2Proof/Syntax.lean ====
section
/-!
DEFINITION. The commands of the device: one constructor per row of spec/opcode_table.json, with the operands the row
carries. The rows that execute on a Walso core carry the core and the fields of the instruction.
-/
namespace Sys2Proof

/-- A step of the device: a register access, a bus or link event, an event of an analogue or timing circuit, or the
execution of one Walso instruction (spec/opcode_table.json). -/
inductive Instr where
  /-- AFL_FRAME (R16). A framed AFL link frame carrying 16 modulator periods of one AFE die arrives at the engine die and is checked by CRC and sequence number. -/
  | aflFrame (die : Fin 2) (seq : BitVec 8) (crcOk : Bool) (bits : List (BitVec 16))
  /-- DIE_LINK_DOWN (R18). The count of consecutive discarded frames of an AFL link reaches 4 and the link is declared down, so all 64 lanes of the die go INVALID. -/
  | dieLinkDown (die : Fin 2)
  /-- MRAM_ACCESS_REQUEST (R38). A function issues an MRAM access; a write into a range of which the function is not the writer is refused. -/
  | mramAccessRequest (fn : MUser) (via : Option Req) (write : Bool) (addr : BitVec 26) (len : Fin 65) (data : Bytes)
  /-- MPL_TRANSFER_END (R21). An MPL transfer completes; a failed check is repeated once, and a second failure returns an error and declares the link down. -/
  | mplTransferEnd (bank : Fin 8) (fn : MUser) (first : RxFrame) (second : RxFrame)
  /-- FLK_FRAME_TO_FIELD (R19). A complete FLK frame from the engine die reaches the field die, which applies the full command image and drops acknowledged edges from its buffer. -/
  | flkFrameToField (frame : RxFrame)
  /-- FLK_FRAME_FROM_FIELD (R19). A complete FLK frame from the field die reaches the engine die with input states, read-back, faults and edges, each edge number taken once. -/
  | flkFrameFromField (seq : BitVec 8) (crcOk : Bool)
  /-- FLK_DOWN (R20). The engine die receives no valid FLK frame for 100 µs, declares FLK down and raises interrupt 40. -/
  | flkDown
  /-- CLAIM_CMD_CLAIM (R42). A claim operation through CLAIM_CMD gives the resource to the requester when free or already its own run-time claim. -/
  | claimCmdClaim (req : Req) (res : BitVec 16)
  /-- CLAIM_CMD_RELEASE (R43). A release operation frees the resource when made by its owner and refuses it otherwise. -/
  | claimCmdRelease (req : Req) (res : BitVec 16)
  /-- CLAIM_CMD_QUERY (R48). A query operation returns the current owner and tag of a resource in CLAIM_RESULT. -/
  | claimCmdQuery (req : Req) (res : BitVec 16)
  /-- TICK_START (R53). The time base reaches the start instant of a tick and the tick grid advances. -/
  | tickStart
  /-- REGION_TICK_ARRIVAL (R55). A tick arrives at a region and its entry phase delivers PROT and TRK samples, runs the phasor engine, IFD, gauges and SV slots. -/
  | regionTickArrival (r : Fin 4) (skew : Nat)
  /-- ELEMENT_PHASE_START (R58). The entry phase ends and the element core starts its program at ENTRY with the initial registers of R162. -/
  | elementPhaseStart (c : Fin 16)
  /-- WTICK (R172). The element program issues WTICK, ending its work for the tick; the core idles until the next entry phase. -/
  | wtick (k : CoreId) (pn : Bool) (ps : Fin 8) (z : BitVec 22)
  /-- ELEMENT_DEADLINE (R59). At the first cycle of the exit phase the staged trip requests, flags, exchange entries and EVT records are posted and the standby snapshot taken. -/
  | elementDeadline (c : Fin 16)
  /-- CLUSTER_FAULT_CLEAR_WRITE (R73). Firmware or host writes 1 to OVR_STAT.CLUSTER_FAULT to request lifting the freeze. -/
  | clusterFaultClearWrite (c : Fin 16)
  /-- CLUSTER_FAULT_LIFT (R73). At the next entry phase the freeze is lifted, CONSEC restarts at 0 and CLUSTER_FAULT_CLEARED is recorded. -/
  | clusterFaultLift (c : Fin 16)
  /-- OVR_CFG_WRITE (R627). A write of OVR_CFG sets LIMIT, or is discarded with CMD_ERR when LIMIT is 0. -/
  | ovrCfgWrite (c : Fin 16) (v : Word)
  /-- TICK_IDX_READ (R76). A read of TICK_IDX latches the seconds of the same tick into TICK_SEC_LO and TICK_SEC_HI. -/
  | tickIdxRead (req : Req)
  /-- STITCH_SAMPLE (R86). The stitcher forms one stitch sample from the coarse and fine paths and applies its range selection. -/
  | stitchSample (ch : Fin 128)
  /-- COARSE_OVERLOAD (R92). The coarse overload detector fires, the modulator integrators reset and the data are replaced by full scale. -/
  | coarseOverload (ch : Fin 128) (ones : Bool) (run : Nat) (stretch : Nat)
  /-- AFE_PLL_UNLOCK (R81). The AFE clock PLL loses lock; all lanes go INVALID and the loss is reported once. -/
  | afePllUnlock
  /-- AFE_PLL_RELOCK (R81). The AFE clock PLL regains lock and all AFE-sourced lanes are due to restart and settle. -/
  | afePllRelock
  /-- AFE_RECHECK (R95). A write of AFE_CTRL_n.RECHECK starts the start-up check of an AFE die, or is ignored. -/
  | afeRecheck (die : Fin 2)
  /-- AFE_CHECK_DONE (R95). The start-up check of a die ends, its modulators reconnect, CHECK_DONE is set and its lanes restart. -/
  | afeCheckDone (die : Fin 2) (refOk : Bool) (lockOk : Bool) (fine : List Int) (coarse : List Int)
  /-- CAL_WINDOW_END (R98). A calibration window of W stitch samples ends and, if accepted, the gain, delay and offset errors are computed. -/
  | calWindowEnd (ch : Fin 128)
  /-- CAL_UPDATE (R99). At the first tick start after an accepted window the fine-path trims are updated. -/
  | calUpdate (ch : Fin 128)
  /-- CAL_CFG_WRITE (R100). A write of CAL_CFG sets calibration parameters; EN from 0 to 1 restarts calibration from the current trims. -/
  | calCfgWrite (ch : Fin 128) (v : Word)
  /-- TRIM_WRITE (R101). A host or firmware write to a TRIM_ register is held for the next tick start. -/
  | trimWrite (ch : Fin 128) (k : Fin 5) (v : Word)
  /-- TRIM_APPLY (R101). A written trim takes effect at the first stitch sample after the tick start and discards the window in progress. -/
  | trimApply (ch : Fin 128)
  /-- STC_CTRL_WRITE (R88). A write of STC_CTRL sets HOLD and OVL_RUN and requests a change of stitch MODE. -/
  | stcCtrlWrite (ch : Fin 128) (v : Word)
  /-- STC_MODE_APPLY (R88). A new stitch MODE takes effect after the next tick start with state FINE and H = 0. -/
  | stcModeApply (ch : Fin 128)
  /-- STC_THR_DN_WRITE (R107). A write of STC_THR_DN is ignored when it is not below 0.4 times STC_THR_UP. -/
  | stcThrDnWrite (ch : Fin 128) (v : Word)
  /-- CL_SRC_WRITE (R104). A write of CL_SRC requests a change of the cluster's lane source, slot or SV delay. -/
  | clSrcWrite (c : Fin 16) (v : Word)
  /-- SRC_CHANGE (R104). At the next tick start the new source or delay takes effect; a source change restarts and settles the eight lanes and the cluster. -/
  | srcChange (c : Fin 16)
  /-- REC_SAMPLE_COMPLETE (R129). A lane completes a REC sample (and with every third a PROT sample) for recording, resampling and Blaze predicates. -/
  | recSampleComplete (ch : Fin 128)
  /-- WB_SAMPLE (R119). A WB sample of a lane becomes available to the FPD, the wavefront logic and the wideband SRAM. -/
  | wbSample (ch : Fin 128)
  /-- FPD_STRETCH_END (R251). The FPD output returns to 0 after STRETCH samples without exceeding. -/
  | fpdStretchEnd (ch : Fin 128)
  /-- TRK_SAMPLE (R134). The Farrow resampler produces a TRK sample with its tag and advances its phase. -/
  | trkSample (c : Fin 16)
  /-- TRK_CYCLE_COMPLETE (R131). N_TRK samples of the reference lane complete a tracked cycle and the tracker updates its period estimate. -/
  | trkCycleComplete (c : Fin 16)
  /-- TRK_CFG_WRITE (R628). A write of TRK_CFG is accepted or discarded whole with CFG_DENY. -/
  | trkCfgWrite (c : Fin 16) (v : Word)
  /-- TRK_CFG_APPLY (R136). A change of N_TRK or REF_LANE takes effect at the next tick start with the phase reset to 3k. -/
  | trkCfgApply (c : Fin 16)
  /-- LANE_FADE_REQUEST (R145). A write of LANE_FADE with GO requests a coefficient bank cross-fade. -/
  | laneFadeRequest (ch : Fin 128) (v : Word)
  /-- LANE_FADE_START (R145). An accepted fade begins at the first stage output aligned at or after the next tick start. -/
  | laneFadeStart (ch : Fin 128)
  /-- LANE_FADE_END (R146). The last blended sample is produced, FADING clears and the new bank shows as active. -/
  | laneFadeEnd (ch : Fin 128)
  /-- COEF_WRITE (R148). A write to a coefficient bank succeeds, or is discarded with COEF_DENY when the bank is in use. -/
  | coefWrite (req : Req) (c : Fin 16) (off : BitVec 16) (v : Word)
  /-- LANE_STRUCT_WRITE (R151). A write of a lane's structural register is accepted only while the lane is stopped, else discarded with CFG_DENY. -/
  | laneStructWrite (ch : Fin 128) (k : Fin 25) (v : Word)
  /-- LANE_RUN_STOP (R152). Writing LANE_CTRL.RUN = 0 requests a stop of the lane at the next tick start. -/
  | laneRunStop (ch : Fin 128)
  /-- LANE_STOP_APPLY (R152). The lane stops at the tick start, discarding undelivered samples and delivering INVALID slots. -/
  | laneStopApply (ch : Fin 128)
  /-- LANE_RUN_START (R152). Writing LANE_CTRL.RUN = 1 requests a restart of the lane at the next tick start. -/
  | laneRunStart (ch : Fin 128)
  /-- LANE_RESTART_APPLY (R153). At the tick start the configuration is checked and the lane restarts and settles, or the restart is refused. -/
  | laneRestartApply (ch : Fin 128)
  /-- LANE_LOAD_DEF (R154). Writing LANE_CTRL.LOAD_DEF requests loading a default filter set, or is ignored with CFG_DENY. -/
  | laneLoadDef (ch : Fin 128) (sel : BitVec 2)
  /-- LOAD_DEF_APPLY (R154). At the next tick start the complete default set is loaded into the stopped lane. -/
  | loadDefApply (ch : Fin 128)
  /-- CHAIN_RESTART (R140). A chain restart after link up, PLL relock or check end takes effect at a tick start as a settling event. -/
  | chainRestart (ch : Fin 128)
  /-- LANE_SETTLE_END (R141). The count of settling slots of a lane reaches zero and valid delivery resumes. -/
  | laneSettleEnd (ch : Fin 128)
  /-- ALU (R194). An integer register operation selected by fn writes its result to g[rd]. -/
  | alu (k : CoreId) (pn : Bool) (ps : Fin 8) (rd ra rb : BitVec 5) (fn : BitVec 7)
  /-- ADDI (R195). Adds a sign-extended immediate to a register. -/
  | addi (k : CoreId) (pn : Bool) (ps : Fin 8) (rd ra : BitVec 5) (imm : BitVec 12)
  /-- ANDI (R195). ANDs a register with a zero-extended immediate. -/
  | andi (k : CoreId) (pn : Bool) (ps : Fin 8) (rd ra : BitVec 5) (imm : BitVec 12)
  /-- ORI (R195). ORs a register with a zero-extended immediate. -/
  | ori (k : CoreId) (pn : Bool) (ps : Fin 8) (rd ra : BitVec 5) (imm : BitVec 12)
  /-- XORI (R195). XORs a register with a zero-extended immediate. -/
  | xori (k : CoreId) (pn : Bool) (ps : Fin 8) (rd ra : BitVec 5) (imm : BitVec 12)
  /-- SHI (R195). Shifts a register by an immediate amount, logically or arithmetically. -/
  | shi (k : CoreId) (pn : Bool) (ps : Fin 8) (rd ra : BitVec 5) (imm : BitVec 12)
  /-- MOVL (R195). Loads a zero-extended 17-bit immediate into a register. -/
  | movl (k : CoreId) (pn : Bool) (ps : Fin 8) (rd : BitVec 5) (imm : BitVec 17)
  /-- MOVH (R195). Replaces the upper bits of a register with an immediate. -/
  | movh (k : CoreId) (pn : Bool) (ps : Fin 8) (rd : BitVec 5) (imm : BitVec 17)
  /-- CMP (R196). Compares registers or combines predicates and writes one predicate. -/
  | cmp (k : CoreId) (pn : Bool) (ps : Fin 8) (rd ra rb : BitVec 5) (fn : BitVec 7)
  /-- CMPI (R196). Compares a register with an immediate and writes one predicate. -/
  | cmpi (k : CoreId) (pn : Bool) (ps : Fin 8) (rd ra : BitVec 5) (imm : BitVec 12)
  /-- FPU (R197). A binary32 register operation selected by fn writes its result and sets FSTAT flags. -/
  | fpu (k : CoreId) (pn : Bool) (ps : Fin 8) (rd ra rb : BitVec 5) (fn : BitVec 7)
  /-- FCMP (R198). Compares two binary32 values and writes a predicate. -/
  | fcmp (k : CoreId) (pn : Bool) (ps : Fin 8) (rd ra rb : BitVec 5) (fn : BitVec 7)
  /-- FMA (R199). Computes a fused multiply-add variant rounded once. -/
  | fma (k : CoreId) (pn : Bool) (ps : Fin 8) (rd ra rb : BitVec 5) (fn : BitVec 7)
  /-- RDFS (R200). Reads FSTAT into a register once all earlier flags are set. -/
  | rdfs (k : CoreId) (pn : Bool) (ps : Fin 8) (rd ra rb : BitVec 5)
  /-- CLRFS (R200). Clears FSTAT once all earlier flags are set. -/
  | clrfs (k : CoreId) (pn : Bool) (ps : Fin 8) (rd ra rb : BitVec 5)
  /-- RDLC (R200). Reads the iteration index of a loop level. -/
  | rdlc (k : CoreId) (pn : Bool) (ps : Fin 8) (rd ra rb : BitVec 5)
  /-- RDP (R200). Reads the eight predicates into a register. -/
  | rdp (k : CoreId) (pn : Bool) (ps : Fin 8) (rd ra rb : BitVec 5)
  /-- LD (R201). Loads a word from DMEM after the address checks of R202. -/
  | ld (k : CoreId) (pn : Bool) (ps : Fin 8) (rd ra : BitVec 5) (off : BitVec 12)
  /-- ST (R201). Stores a word to DMEM after the address checks. -/
  | st (k : CoreId) (pn : Bool) (ps : Fin 8) (rd ra : BitVec 5) (off : BitVec 12)
  /-- LDZ (R201). Loads a complex value from DMEM. -/
  | ldz (k : CoreId) (pn : Bool) (ps : Fin 8) (rd ra : BitVec 5) (off : BitVec 12)
  /-- STZ (R201). Stores a complex value to DMEM. -/
  | stz (k : CoreId) (pn : Bool) (ps : Fin 8) (rd ra : BitVec 5) (off : BitVec 12)
  /-- LDW (R201). Loads a word from the lane windows, tags or WIN_HEAD. -/
  | ldw (k : CoreId) (pn : Bool) (ps : Fin 8) (rd ra : BitVec 5) (off : BitVec 12)
  /-- LDP (R201). Loads a word from the phasor RAM. -/
  | ldp (k : CoreId) (pn : Bool) (ps : Fin 8) (rd ra : BitVec 5) (off : BitVec 12)
  /-- LDZP (R201). Loads a complex value from the phasor RAM. -/
  | ldzp (k : CoreId) (pn : Bool) (ps : Fin 8) (rd ra : BitVec 5) (off : BitVec 12)
  /-- LDX (R201). Loads a word at a register-indexed address from the space fn selects. -/
  | ldx (k : CoreId) (pn : Bool) (ps : Fin 8) (rd ra rb : BitVec 5) (fn : BitVec 7)
  /-- STX (R201). Stores a word to DMEM at a register-indexed address. -/
  | stx (k : CoreId) (pn : Bool) (ps : Fin 8) (rd ra rb : BitVec 5) (fn : BitVec 7)
  /-- CPX (R203). A complex operation selected by fn, including CMAC, magnitude and ARG. -/
  | cpx (k : CoreId) (pn : Bool) (ps : Fin 8) (zd za zb : BitVec 4) (ga fn : BitVec 5)
  /-- CSR (R226). Reads and optionally writes a supervisor control register. -/
  | csr (k : CoreId) (pn : Bool) (ps : Fin 8) (rd ra : BitVec 5) (n : BitVec 12)
  /-- ERET (R226). Returns from a supervisor interrupt, restoring PC, IE and privilege. -/
  | eret (k : CoreId) (pn : Bool) (ps : Fin 8) (z : BitVec 22)
  /-- WFI (R226). Waits until an enabled interrupt is pending. -/
  | wfi (k : CoreId) (pn : Bool) (ps : Fin 8) (z : BitVec 22)
  /-- FENCE (R226). Waits until every earlier store has reached its target. -/
  | fence (k : CoreId) (pn : Bool) (ps : Fin 8) (z : BitVec 22)
  /-- SUP_INTERRUPT_ENTRY (R575). A supervisor core takes a pending enabled interrupt and clears its pending bit. -/
  | supInterruptEntry (i : Fin 2)
  /-- TRIPREQ (R220). Sets staged trip request bits under a mask. -/
  | tripreq (k : CoreId) (pn : Bool) (ps : Fin 8) (ra : BitVec 5) (x : BitVec 17)
  /-- FLAG_OR (R221). ORs a register into the staged element flags. -/
  | flagOr (k : CoreId) (pn : Bool) (ps : Fin 8) (ra : BitVec 5) (z : BitVec 10) (b : BitVec 5)
  /-- FLAG_ANDN (R221). Clears staged element flags named by a register. -/
  | flagAndn (k : CoreId) (pn : Bool) (ps : Fin 8) (ra : BitVec 5) (z : BitVec 10) (b : BitVec 5)
  /-- FLAG_MOV (R221). Replaces the staged element flags by a register. -/
  | flagMov (k : CoreId) (pn : Bool) (ps : Fin 8) (ra : BitVec 5) (z : BitVec 10) (b : BitVec 5)
  /-- FLAG_BIT (R221). Sets one staged element flag. -/
  | flagBit (k : CoreId) (pn : Bool) (ps : Fin 8) (ra : BitVec 5) (z : BitVec 10) (b : BitVec 5)
  /-- EVT (R222). Queues an element Tally record for posting at the deadline, or drops a ninth. -/
  | evt (k : CoreId) (pn : Bool) (ps : Fin 8) (ra rb : BitVec 5) (code : BitVec 12)
  /-- XCH_PUB (R224). Stages one slot of the cluster's exchange entry. -/
  | xchPub (k : CoreId) (pn : Bool) (ps : Fin 8) (rd : BitVec 5) (z : BitVec 6) (c : BitVec 4) (z1 : Bool) (slot : BitVec 4)
  /-- XCH_RD (R224). Reads a slot of another cluster's exchange entry. -/
  | xchRd (k : CoreId) (pn : Bool) (ps : Fin 8) (rd : BitVec 5) (z : BitVec 6) (c : BitVec 4) (z1 : Bool) (slot : BitVec 4)
  /-- XCH_TAG (R224). Reads the tag of a cluster's exchange entry. -/
  | xchTag (k : CoreId) (pn : Bool) (ps : Fin 8) (rd : BitVec 5) (z : BitVec 6) (c : BitVec 4) (z1 : Bool) (slot : BitVec 4)
  /-- BR (R168). Branches forward by an unsigned offset. -/
  | br (k : CoreId) (pn : Bool) (ps : Fin 8) (off : BitVec 22)
  /-- LOOP (R169). Runs the following body a fixed number of times. -/
  | loop (k : CoreId) (pn : Bool) (ps : Fin 8) (trip : BitVec 10) (len : BitVec 12)
  /-- JT (R170). Selects and executes one BR of a following table. -/
  | jt (k : CoreId) (pn : Bool) (ps : Fin 8) (ra : BitVec 5) (n : BitVec 8) (z : BitVec 9)
  /-- CALL (R171). Pushes the return address and transfers to a function. -/
  | call (k : CoreId) (pn : Bool) (ps : Fin 8) (z : BitVec 5) (target : BitVec 17)
  /-- RET (R171). Pops the return stack and returns. -/
  | ret (k : CoreId) (pn : Bool) (ps : Fin 8) (z : BitVec 22)
  /-- LDS (R209). Loads a lane sample by age as quality byte and pin-volt value. -/
  | lds (k : CoreId) (pn : Bool) (ps : Fin 8) (rd : BitVec 5) (zd : BitVec 4) (str : Bool) (lane : BitVec 3) (al : Bool) (age : BitVec 8)
  /-- PHS (R211). Reads a computed phasor and its window status. -/
  | phs (k : CoreId) (pn : Bool) (ps : Fin 8) (rd : BitVec 5) (zd : BitVec 4) (lane : BitVec 3) (w : Bool) (z : BitVec 2) (h : BitVec 7)
  /-- SEQ (R213). Computes a symmetrical component from three phasors. -/
  | seq (k : CoreId) (pn : Bool) (ps : Fin 8) (z1 : Bool) (zd za : BitVec 4) (kind : BitVec 2) (z : BitVec 11)
  /-- FRQ (R214). Reads the tracker's frequency, ROCOF, period or status. -/
  | frq (k : CoreId) (pn : Bool) (ps : Fin 8) (rd : BitVec 5) (sel : BitVec 3) (z : BitVec 14)
  /-- CRV_STEP (R234). Advances an inverse-time integrator by one tick with a multiple of setting. -/
  | crvStep (k : CoreId) (pn : Bool) (ps : Fin 8) (rd ra n : BitVec 5) (z : BitVec 5)
  /-- CRV_RESET (R215). Sets an integrator to 0 and counts as its step. -/
  | crvReset (k : CoreId) (pn : Bool) (ps : Fin 8) (rd ra n : BitVec 5) (z : BitVec 5)
  /-- CRV_READ (R215). Returns an integrator's integral. -/
  | crvRead (k : CoreId) (pn : Bool) (ps : Fin 8) (rd ra n : BitVec 5) (z : BitVec 5)
  /-- CMPH_EVAL (R241). Steps a comparator on an input with its pickup and dropout counts. -/
  | cmphEval (k : CoreId) (pn : Bool) (ps : Fin 8) (rd ra : BitVec 5) (n : BitVec 6) (z : BitVec 4)
  /-- CMPH_RESET (R216). Returns a comparator to dropped out with counters 0. -/
  | cmphReset (k : CoreId) (pn : Bool) (ps : Fin 8) (rd ra : BitVec 5) (n : BitVec 6) (z : BitVec 4)
  /-- CMPH_READ (R216). Returns a comparator's counters. -/
  | cmphRead (k : CoreId) (pn : Bool) (ps : Fin 8) (rd ra : BitVec 5) (n : BitVec 6) (z : BitVec 4)
  /-- TMR_STEP (R242). Sets a timer's input and steps it by one tick. -/
  | tmrStep (k : CoreId) (pn : Bool) (ps : Fin 8) (rd ra : BitVec 5) (n : BitVec 6) (z : BitVec 4)
  /-- TMR_RESET (R217). Clears a timer and counts as its step. -/
  | tmrReset (k : CoreId) (pn : Bool) (ps : Fin 8) (rd ra : BitVec 5) (n : BitVec 6) (z : BitVec 4)
  /-- TMR_READ (R217). Returns a timer's elapsed ticks. -/
  | tmrRead (k : CoreId) (pn : Bool) (ps : Fin 8) (rd ra : BitVec 5) (n : BitVec 6) (z : BitVec 4)
  /-- LIMG (R300). Reads a Lathe input-image word or writes an output-image word. -/
  | limg (k : CoreId) (pn : Bool) (ps : Fin 8) (rd : BitVec 5) (dir : Bool) (z : BitVec 4) (word : BitVec 12)
  /-- LTMR_STEP (R302). Sets a Lathe timer's input and re-evaluates its output. -/
  | ltmrStep (k : CoreId) (pn : Bool) (ps : Fin 8) (rd ra : BitVec 5) (n : BitVec 10)
  /-- LTMR_RESET (R300). Resets a Lathe timer. -/
  | ltmrReset (k : CoreId) (pn : Bool) (ps : Fin 8) (rd ra : BitVec 5) (n : BitVec 10)
  /-- LTMR_READ (R302). Returns a Lathe timer's elapsed µs. -/
  | ltmrRead (k : CoreId) (pn : Bool) (ps : Fin 8) (rd ra : BitVec 5) (n : BitVec 10)
  /-- LEDG (R303). Evaluates an edge memory against an input and returns RISE and FALL. -/
  | ledg (k : CoreId) (pn : Bool) (ps : Fin 8) (rd ra : BitVec 5) (n : BitVec 12)
  /-- WTURN (R292). The Lathe program ends its work for the turn. -/
  | wturn (k : CoreId) (pn : Bool) (ps : Fin 8) (z : BitVec 22)
  /-- CORE_LOAD_VALIDATE (R184). Starts loading an ELM image into the inactive IMEM bank and validating it. -/
  | coreLoadValidate (c : Fin 16)
  /-- CORE_VALIDATION_DONE (R182). Validation of an element image ends with VALID_PENDING or a refusal. -/
  | coreValidationDone (c : Fin 16)
  /-- CORE_ACTIVATE (R185). An ACTIVATE command is accepted as a live or stopped activation, or refused with CMD_ERR. -/
  | coreActivate (c : Fin 16)
  /-- CORE_ACTIVATION_APPLY (R186). A pending live activation takes effect at tick start t_a after its ALWAYS sections are written. -/
  | coreActivationApply (c : Fin 16)
  /-- CORE_REVERT (R187). A REVERT command re-activates the previous image as a live activation, or is refused. -/
  | coreRevert (c : Fin 16)
  /-- CORE_RUN_STOP (R188). Writing CORE_CTRL.RUN = 0 requests a stop of the core at the next tick start. -/
  | coreRunStop (c : Fin 16)
  /-- CORE_STOP_APPLY (R188). The core stops at the tick start; its requests and flags become 0. -/
  | coreStopApply (c : Fin 16)
  /-- CORE_RUN_START (R188). Writing CORE_CTRL.RUN = 1 requests a start of the core, or is refused without an image. -/
  | coreRunStart (c : Fin 16)
  /-- CORE_START_APPLY (R188). The core starts at the tick start with FIRST = 1. -/
  | coreStartApply (c : Fin 16)
  /-- CORE_ACT_AT_WRITE (R627). A write of CORE_ACT_AT is accepted or discarded whole when INDEX exceeds 4799. -/
  | coreActAtWrite (c : Fin 16) (v : Word)
  /-- CORE_DMEM_PORT_WRITE (R166). A second-port write to DMEM succeeds only while the core is stopped. -/
  | coreDmemPortWrite (req : Req) (c : Fin 16) (addr : BitVec 17) (v : Word)
  /-- CORE_IMEM_PORT_WRITE (R166). A second-port write to IMEM is always refused. -/
  | coreImemPortWrite (req : Req) (c : Fin 16) (addr : BitVec 17) (v : Word)
  /-- IFD_HOLD_EXPIRY (R246). T_G ticks pass without a true criterion and the IFD output falls. -/
  | ifdHoldExpiry (c : Fin 16)
  /-- CD_DROPOUT (R250). The breaker-failure current detector falls after DROP samples without current. -/
  | cdDropout (c : Fin 16)
  /-- IFD_KEY_WRITE (R248). A write of IFD_KEY advances, completes, cancels or breaks the unlock sequence. -/
  | ifdKeyWrite (c : Fin 16) (v : Word)
  /-- IFD_LOCKED_WRITE (R248). A write to a lockable IFD field is accepted only while unlocked and stopped. -/
  | ifdLockedWrite (c : Fin 16) (k : Fin 7) (v : Word)
  /-- IFD_RUN_STOP (R249). Writing IFD_CTRL.RUN = 0 requests a stop of the IFD. -/
  | ifdRunStop (c : Fin 16)
  /-- IFD_STOP_APPLY (R249). At the tick start the IFD stops, its output 0 and hold cleared. -/
  | ifdStopApply (c : Fin 16)
  /-- IFD_RUN_START (R249). Writing IFD_CTRL.RUN = 1 requests an IFD restart. -/
  | ifdRunStart (c : Fin 16)
  /-- IFD_RESTART_APPLY (R249). At the tick start the IFD restarts, relocks and writes IFD_RESTART. -/
  | ifdRestartApply (c : Fin 16)
  /-- LIGHT_INPUT_EDGE (R255). The raw state of the light channel reaches the coincidence logic and updates LW and COIN. -/
  | lightInputEdge (ch : Fin 48) (on : Bool)
  /-- COIN_WINDOW_EXPIRY (R256). A coincidence window W after the light or group bit falls runs out. -/
  | coinWindowExpiry (c : Fin 16) (light : Bool)
  /-- WF_POP (R259). Writing WF_CTRL.POP removes the head wavefront entry. -/
  | wfPop (c : Fin 16)
  /-- WF_FLUSH (R259). Writing WF_CTRL.FLUSH removes every wavefront entry. -/
  | wfFlush (c : Fin 16)
  /-- CL_ROLE_WRITE (R233). A write of CL_ROLE sets the role map or is discarded for a duplicated lane. -/
  | clRoleWrite (c : Fin 16) (v : Word)
  /-- AF_CFG_WRITE (R255). A write of AF_CFG is checked for range and, with EN = 1, for CFG ownership of the light channel. -/
  | afCfgWrite (c : Fin 16) (v : Word)
  /-- CRV_SETTING_WRITE (R238). A write of an integrator's curve settings is held for the next tick start or discarded. -/
  | crvSettingWrite (c : Fin 16) (n : Fin 32) (k : Fin 4) (v : Word)
  /-- USER_TABLE_WRITE (R238). A write to a user curve table is discarded while an integrator selects the table. -/
  | userTableWrite (c : Fin 16) (t : Fin 8) (w : Fin 65) (v : Word)
  /-- PRIM_CFG_WRITE (R629). A write to a comparator, timer or detector register is discarded whole when out of range. -/
  | primCfgWrite (c : Fin 16) (off : BitVec 20) (v : Word)
  /-- PRIM_SETTINGS_APPLY (R238). Written curve, comparator and timer settings take effect at the next tick start. -/
  | primSettingsApply (c : Fin 16)
  /-- TL_MIN_ELAPSED (R269). MIN elapses after a grant and the pulse may end by RELEASE or BO. -/
  | tlMinElapsed (n : Fin 64)
  /-- TL_MAX_ELAPSED (R269). Three seconds after the grant the pulse ends with cause MAX. -/
  | tlMaxElapsed (n : Fin 64)
  /-- BF_TIMER_EXPIRY (R277). The breaker-failure count reaches T_BF and the output to the backup line rises. -/
  | bfTimerExpiry (n : Fin 64)
  /-- TRIP_KEY_WRITE (R276). A write of TRIP_KEY advances or cancels the unguard key sequence of a line. -/
  | tripKeyWrite (req : Req) (v : Word)
  /-- TL_RUN_SET (R281). Setting a line's RUN bit checks the configuration and starts the line, or refuses it. -/
  | tlRunSet (req : Req) (n : Fin 64)
  /-- TL_RUN_CLEAR (R282). Clearing a line's RUN bit stops an idle line or is refused. -/
  | tlRunClear (req : Req) (n : Fin 64)
  /-- TL_CONFIG_WRITE (R280). A per-line configuration write is accepted only from the owner's requester while stopped. -/
  | tlConfigWrite (req : Req) (n : Fin 64) (k : Fin 9) (v : Word)
  /-- TURN_START (R291). A Lathe turn starts and the input image is latched, with timers advanced and station qualities set. -/
  | turnStart
  /-- LTH_PROGRAM_START (R290). At cycle 2400 of the turn the Lathe program starts from ENTRY. -/
  | lthProgramStart
  /-- TURN_DEADLINE (R293). At the commit point the output image is committed and the retained flush starts. -/
  | turnDeadline
  /-- LTH_HALT_CMD (R297). Writing LTH_CTRL.HALT halts the Lathe. -/
  | lthHaltCmd
  /-- LTH_LOCKSTEP_MISMATCH (R297). The lockstep pair disagrees and the Lathe halts. -/
  | lthLockstepMismatch
  /-- RETAINED_FLUSH_DONE (R305). A retained-partition flush into one MRAM copy completes with its header. -/
  | retainedFlushDone (fail : Option (BitVec 26))
  /-- LTH_START (R315). LTH_CTRL.START starts the Lathe warm or cold, or is refused under FORCE_WARM. -/
  | lthStart
  /-- LTH_LOAD_VALIDATE (R311). Starts loading an LTH image into the inactive half and validating it. -/
  | lthLoadValidate
  /-- LTH_VALIDATION_DONE (R311). Validation of a Lathe image ends with VALID_PENDING or RECHUCK_REFUSED. -/
  | lthValidationDone
  /-- LTH_ARM (R312). Arms a rechuck switch at a chosen turn. -/
  | lthArm
  /-- LTH_DISARM (R312). Cancels a pending ARM. -/
  | lthDisarm
  /-- LTH_REVERT (R314). Requests a revert to the previous image within the window. -/
  | lthRevert
  /-- REVERT_WINDOW_CLOSE (R314). 1000 turns after a switch the revert window closes and the old claims end. -/
  | revertWindowClose
  /-- METER_SNAPSHOT (R317). At the deadline of tick b + LAG − 1 the metering snapshot of pulse counts and exchange slots is taken. -/
  | meterSnapshot
  /-- LTH_CFG_WRITE (R319). A write of LTH_CFG is discarded when it names an alarm LTH does not own. -/
  | lthCfgWrite (v : Word)
  /-- METER_CFG_WRITE (R319). A write of METER_CFG is discarded when it names an alarm LTH does not own. -/
  | meterCfgWrite (v : Word)
  /-- LTH_TURN_LO_READ (R563). A read of LTH_TURN_LO latches the upper turn word. -/
  | lthTurnLoRead (req : Req)
  /-- REC_FRAME_WRITE (R325). A recorder instance writes the frame of a completed tick into its ring or continuation segment. -/
  | recFrameWrite (i : Fin 4) (ok : Bool)
  /-- REC_HOST_TRIGGER (R328). REC_CMD TRIGGER makes a host trigger at the instant of the write. -/
  | recHostTrigger (req : Req) (i : Fin 4)
  /-- REC_RELEASE (R335). REC_CMD RELEASE frees a closed record's segments or is refused. -/
  | recRelease (req : Req) (i : Fin 4)
  /-- REC_CLOSE (R334). A record whose window and WB copies have ended is closed. -/
  | recClose (i : Fin 4) (ok : Bool)
  /-- WB_FREEZE (R342). POST WB samples after acceptance the wideband SRAM of a cluster freezes and its copy begins. -/
  | wbFreeze (c : Fin 16)
  /-- WB_COPY_DONE (R342). A wideband copy ends with its header and the SRAM resumes. -/
  | wbCopyDone (c : Fin 16) (ok : Bool)
  /-- REC_RUN_START (R361). REC_CTRL.RUN = 1 checks the configuration and starts the instance's scan. -/
  | recRunStart (req : Req) (i : Fin 4)
  /-- REC_SCAN_DONE (R341). The scan of the partition ends and the ring is opened. -/
  | recScanDone (i : Fin 4)
  /-- REC_RUN_STOP (R361). REC_CTRL.RUN = 0 requests a stop at the next tick start. -/
  | recRunStop (req : Req) (i : Fin 4)
  /-- REC_STOP_APPLY (R361). The instance stops at the tick start, closing an open window as for a STOP. -/
  | recStopApply (i : Fin 4)
  /-- REC_CONFIG_WRITE (R360). A write of recorder or Blaze configuration is accepted only from the owner while stopped. -/
  | recConfigWrite (req : Req) (i : Fin 4) (off : Fin 0x300) (v : Word)
  /-- BLZ_RUN_START (R347). BLZ_CTRL.RUN = 1 claims edge taps and starts the sequencer at state 0, or is refused. -/
  | blzRunStart (req : Req) (i : Fin 4)
  /-- BLZ_RUN_STOP (R347). BLZ_CTRL.RUN = 0 stops the sequencer and releases its taps. -/
  | blzRunStop (req : Req) (i : Fin 4)
  /-- BLAZE_STEP (R351). A Blaze step is evaluated at the end of its REC window, running counters and rules A or B with their actions. -/
  | blazeStep (i : Fin 4)
  /-- BLZ_TIMER_EXPIRY (R350). A Blaze timer reaches its end instant. -/
  | blzTimerExpiry (i : Fin 4) (t : Fin 4)
  /-- BLZ_COUNTER_LIMIT (R349). A Blaze counter reaches its limit. -/
  | blzCounterLimit (i : Fin 4) (c : Fin 4)
  /-- GAUGE_ARM (R355). Writing GAUGE_g.ARM arms an enabled gauge. -/
  | gaugeArm (req : Req) (i : Fin 4) (g : Fin 8)
  /-- GAUGE_DISARM (R356). Writing GAUGE_g.DISARM disarms a gauge. -/
  | gaugeDisarm (req : Req) (i : Fin 4) (g : Fin 8)
  /-- GAUGE_VIOLATION (R356). NV consecutive violations make the gauge act as FLAG, TRIGGER or STOP. -/
  | gaugeViolation (i : Fin 4) (g : Fin 8)
  /-- GAUGE_TABLE_WRITE (R357). A write to a gauge table is discarded while an armed gauge names the channel. -/
  | gaugeTableWrite (req : Req) (c : Fin 16) (off : BitVec 14) (v : Word)
  /-- COMTRADE_EXPORT (R358). A mailbox request makes the supervisor export a closed record as COMTRADE files. -/
  | comtradeExport (i : Fin 4) (id : Word) (kind : ComReq) (cfg hdr dat : BitVec 26)
  /-- TALLY_RAISE (R374). A record is raised and enters the Tally queue after rate limiting, or is suppressed or dropped. -/
  | tallyRaise (code : BitVec 12) (sparam : Byte) (p0 : Word) (p1 : Word)
  /-- TALLY_SLOT_WRITE (R368). The writer writes the head record into the next slot and verifies it. -/
  | tallySlotWrite (verify : Bool) (verifyFault : Bool)
  /-- BUCKET_TOKEN_GAIN (R378). A rate-limit bucket gains a token after its period. -/
  | bucketTokenGain (b : Fin 256)
  /-- TALLY_POST (R376). A write of TALLY_PGO_s posts a firmware record into the queue, or is refused. -/
  | tallyPost (req : Req) (port : Fin 2)
  /-- TALLY_RESUME (R383). TALLY_CTRL.RESUME resumes writing after bad slots from MEDIA_STOP. -/
  | tallyResume
  /-- TALLY_SCAN_DONE (R384). The start-up scan of bank 2 ends with write pointer, sequence and state set. -/
  | tallyScanDone
  /-- TALLY_CLEAR_REQUEST (R385). A REQUEST draws a nonce for a clear or key revocation. -/
  | tallyClearRequest (req : Req) (key : Fin 4) (revoke : Bool)
  /-- TALLY_CLEAR_CONFIRM (R387). A CONFIRM with a correct response clears the log or revokes a key, or is refused. -/
  | tallyClearConfirm (req : Req)
  /-- TALLY_CLEAR_ABORT (R386). ABORT voids a nonce without a record. -/
  | tallyClearAbort (req : Req)
  /-- TALLY_NONCE_EXPIRY (R385). A nonce expires 10 s after the REQUEST. -/
  | tallyNonceExpiry
  /-- TALLY_LOCKOUT_END (R386). The 60 s lockout after three refused CONFIRMs ends. -/
  | tallyLockoutEnd
  /-- TALLY_ERASE_DONE (R387). The erase front reaches the last slot and DONE is set. -/
  | tallyEraseDone (bad : List (Fin 262144))
  /-- TALLY_LR_CLEAR (R382). Writing TALLY_LR_STAT.CLR empties the last-resort buffer. -/
  | tallyLrClear
  /-- TALLY_BUCKET_WRITE (R394). A bucket configuration write refills the bucket, or is discarded for zero values. -/
  | tallyBucketWrite (b : Fin 256) (cfg : Bool) (v : Word)
  /-- TB_CMD_START (R401). TB_CMD START from the boot service requests start of the time base. -/
  | tbCmdStart (req : Req)
  /-- TB_START (R401). At the first RTC second boundary the time base starts, the epoch advances and TB_START is recorded. -/
  | tbStart
  /-- TB_CMD_STEP (R410). TB_CMD STEP requests a time step, or is refused. -/
  | tbCmdStep (req : Req)
  /-- TIME_STEP_APPLY (R411). At the next tick start the time is stepped, the epoch advanced and the tick grid restarted. -/
  | timeStepApply
  /-- TB_CMD_AFE_SYNC (R418). TB_CMD AFE_SYNC requests re-alignment of the AFE clock phase. -/
  | tbCmdAfeSync (req : Req)
  /-- AFE_SYNC_APPLY (R418). At the tick start the AFE phase is re-aligned as a synchronising reset. -/
  | afeSyncApply
  /-- TB_CMD_RESET_I (R404). TB_CMD RESET_I sets the servo integral to 0 in AUTO. -/
  | tbCmdResetI (req : Req)
  /-- TB_MODE_WRITE (R404). A write of TB_CTRL changing MODE is held or refused while a step is pending. -/
  | tbModeWrite (v : Word)
  /-- TB_MODE_APPLY (R404). A MODE change takes effect at the next tick start. -/
  | tbModeApply
  /-- TB_ADDEND_COMMIT (R397). A write of TB_ADDEND_LO commits ADDEND, or is discarded out of range or in AUTO. -/
  | tbAddendCommit (req : Req) (lo : Word)
  /-- TB_OFFS_COMMIT (R405). A write of TB_OFFS_LO commits a firmware offset sample. -/
  | tbOffsCommit (req : Req) (lo : Word)
  /-- SERVO_HOLDOUT_EXPIRY (R409). HOLD_TO passes without a used sample and the servo enters HOLDOVER. -/
  | servoHoldoutExpiry
  /-- TB_SERVO_WRITE (R630). A write of TB_SERVO or TB_CTRL is discarded whole when out of range. -/
  | tbServoWrite (v : Word)
  /-- LEAP_APPLY (R400). At the end of the UTC day a pending leap changes the UTC offset. -/
  | leapApply
  /-- RTC_ALIGN (R402). Once per second while LOCKED the RTC is aligned to the time base. -/
  | rtcAlign
  /-- TB_TIME_FRAC_READ (R425). A read of TB_TIME_FRAC latches NS and SEC. -/
  | tbTimeFracRead (req : Req)
  /-- TB_CNT_LO_READ (R425). A read of TB_CNT_LO latches TB_CNT_HI. -/
  | tbCntLoRead (req : Req)
  /-- ALM_ARM (R415). Writing ALM_CTRL.ARM arms an alarm, or refuses it. -/
  | almArm (req : Req) (n : Fin 16) (v : Word)
  /-- ALM_DISARM (R413). Writing ALM_CTRL.DISARM disarms an alarm. -/
  | almDisarm (req : Req) (n : Fin 16) (v : Word)
  /-- ALM_WRITE (R413). A write of an alarm's instant or period is accepted only from the owner while disarmed. -/
  | almWrite (req : Req) (n : Fin 16) (k : Fin 5) (v : Word)
  /-- ALARM_FIRE (R414). The time reaches an armed alarm's instant and the alarm fires to its consumers. -/
  | alarmFire (n : Fin 16)
  /-- ALM_LAST_NS_READ (R426). A read of ALM_LAST_NS latches ALM_LAST_SEC. -/
  | almLastNsRead (req : Req) (n : Fin 16)
  /-- TIO_MODE_WRITE (R419). A write of TIO_CFG_n.MODE by the owner changes the pin mode. -/
  | tioModeWrite (req : Req) (n : Fin 4) (v : Word)
  /-- TIO_CAPTURE (R421). An edge at a capture pin is timestamped into its FIFO. -/
  | tioCapture (n : Fin 4) (rising : Bool) (sec : Nat) (ns : Fin 1000000000)
  /-- PPS_IN_EDGE (R422). A PPS_IN rising edge is accepted as a servo sample or ignored as a glitch. -/
  | ppsInEdge (n : Fin 4) (sec : Nat) (ns : Fin 1000000000)
  /-- TIO_PULSE_EDGE (R423). A pulse-train instant is reached and the pin becomes active or inactive. -/
  | tioPulseEdge (n : Fin 4)
  /-- TIO_CAP_NS_READ (R421). A read of TIO_CAP_NS removes the head capture and latches its seconds. -/
  | tioCapNsRead (req : Req) (n : Fin 4)
  /-- ETH_FRAME_RX (R437). A frame is received on a port and switched, filtered and checked for redundancy. -/
  | ethFrameRx (p : Fin 5) (frame : Bytes) (fcsOk : Bool) (sec : Nat) (ns : Fin 1000000000)
  /-- ETH_FRAME_EGRESS (R441). A frame leaves a port and a PTP event message is stamped. -/
  | ethFrameEgress (p : Fin 5) (sec : Nat) (ns : Fin 1000000000)
  /-- PRP_SUPERVISION_SEND (R433). Every LIFE_CHECK a PRP supervision frame is sent. -/
  | prpSupervisionSend
  /-- ADDRESS_AGEING (R437). A learned address entry ages out after 300 s. -/
  | addressAgeing (mac : BitVec 48)
  /-- ETH_LINK (R470). A port's link goes up or down and is reported. -/
  | ethLink (p : Fin 4) (up : Bool) (speed : Fin 3)
  /-- RED_PATH_LOST (R467). No valid trailer or tag for 3 × LIFE_CHECK and the redundancy path is lost. -/
  | redPathLost (p : Fin 2)
  /-- ETH_APPLY (R432). ETH_CTRL.APPLY applies RED and REDBOX now. -/
  | ethApply (req : Req) (v : Word)
  /-- SV_LOST (R449). Eight ticks without a used sample declare an SV slot lost. -/
  | svLost (n : Fin 16)
  /-- SV_PUB_FRAME_SEND (R452). A publication frame for an smpCnt pair is sent after the second sample is delivered. -/
  | svPubFrameSend (c : Fin 16)
  /-- GOOSE_EXPIRY (R455). A GOOSE entry's window ends without a frame and it expires. -/
  | gooseExpiry (e : Fin 128)
  /-- GPUB_COMMIT (R457). GPUB_CTRL.COMMIT loads the template and sends a state change, or is refused. -/
  | gpubCommit (req : Req) (g : Fin 8) (v : Word)
  /-- GOOSE_RETRANSMIT (R458). The retransmission gap expires and the slot sends with sqNum + 1. -/
  | gooseRetransmit (g : Fin 8)
  /-- SV_SLOT_WRITE (R448). A write to an SV slot's match, map or scale registers is refused while the slot is in use. -/
  | svSlotWrite (req : Req) (n : Fin 16) (k : Fin 16) (v : Word)
  /-- ETH_TXTS_NS_READ (R462). A read of ETH_TXTS_NS removes the head egress timestamp and latches its words. -/
  | ethTxtsNsRead (req : Req)
  /-- ETH_TBL_DATA_READ (R468). A read of ETH_TBL_DATA returns the selected table word and advances WORD. -/
  | ethTblDataRead (req : Req)
  /-- ETH_TBL_DATA_WRITE (R468). A write of ETH_TBL_DATA writes the selected table word and advances WORD. -/
  | ethTblDataWrite (req : Req) (v : Word)
  /-- CAN_INIT_SET (R474). Writing CAN_CTRL.INIT = 1 requests the configuration state. -/
  | canInitSet (req : Req) (c : Fin 4) (v : Word)
  /-- CAN_INIT_APPLY (R474). At the end of the bus frame the controller enters INIT, clearing TEC and REC. -/
  | canInitApply (c : Fin 4)
  /-- CAN_INIT_CLEAR (R472). Writing INIT = 0 checks the bit timing and leaves INIT, or is refused. -/
  | canInitClear (req : Req) (c : Fin 4) (v : Word)
  /-- CAN_BUS_JOIN (R474). After 11 recessive bits the controller joins the bus. -/
  | canBusJoin (c : Fin 4)
  /-- CAN_OCMD_QUEUE (R478). QUEUE makes a transmit object PENDING. -/
  | canOcmdQueue (req : Req) (c : Fin 4)
  /-- CAN_OCMD_CANCEL (R483). CANCEL acts on the object according to its state. -/
  | canOcmdCancel (req : Req) (c : Fin 4) (sofPassed : Bool)
  /-- CAN_OCMD_CLEAR_NEW (R489). CLEAR_NEW clears NEW and MSGLOST of the selected object. -/
  | canOcmdClearNew (req : Req) (c : Fin 4)
  /-- CAN_BUSOFF_RECOVER (R488). BUSOFF_RECOVER starts bus-off recovery. -/
  | canBusoffRecover (req : Req) (c : Fin 4)
  /-- CAN_RECOVERY_DONE (R488). 128 sequences of 11 recessive bits are counted and the controller is error-active. -/
  | canRecoveryDone (c : Fin 4)
  /-- CAN_FRAME_SELECT (R480). At the intermission point the highest-priority pending object is selected for transmission. -/
  | canFrameSelect (c : Fin 4)
  /-- CAN_FRAME_TX_DONE (R482). A transmitted frame completes and its object shows TX_DONE. -/
  | canFrameTxDone (c : Fin 4) (sec : Nat) (ns : Fin 1000000000) (loop : BitVec 7)
  /-- CAN_TX_LOST (R481). A transmission loses arbitration or meets an error; the object returns to PENDING or fails. -/
  | canTxLost (c : Fin 4) (why : CanErr) (noCount : CanLoss)
  /-- CAN_FRAME_RX (R484). A received frame is stored in the first matching receive object or discarded. -/
  | canFrameRx (c : Fin 4) (f : CanFrame) (sec : Nat) (ns : Fin 1000000000)
  /-- CAN_OWIN_W3_READ (R489). A window read of W3 latches the object's other words. -/
  | canOwinW3Read (req : Req) (c : Fin 4)
  /-- CAN_OWIN_WRITE (R476). A window write to an object is accepted from the owner's requester under the object's state. -/
  | canOwinWrite (req : Req) (c : Fin 4) (w : Fin 24) (v : Word)
  /-- FIO_INPUT_EDGE (R499). The raw state holds for FILT samples and the filtered state changes with a timestamped edge. -/
  | fioInputEdge (n : Fin 48) (on : Bool) (sec : Nat) (ns : Fin 1000000000)
  /-- FIO_EVT_NS_READ (R500). A read of FIO_EVT_NS removes the head edge and latches its words. -/
  | fioEvtNsRead (req : Req)
  /-- FIO_CFG_WRITE (R495). A write of FIO_CFG_n is accepted from the owner's requester or discarded with a cause. -/
  | fioCfgWrite (req : Req) (n : Fin 48) (v : Word)
  /-- FIO_DRV_WRITE (R504). A write of FIO_DRV sets direct drive of owned channels. -/
  | fioDrvWrite (req : Req) (hi : Bool) (v : Word)
  /-- FIO_GRP_WRITE (R506). A write of FIO_GRP_b forms or dissolves parallel groups. -/
  | fioGrpWrite (req : Req) (b : Fin 6) (v : Word)
  /-- FIO_MISMATCH (R507). The read-back differs from the drive for FILT samples after blanking and a fault flag rises. -/
  | fioMismatch (n : Fin 48)
  /-- FIO_OVERCURRENT (R508). The current limit is active for 10 µs and OVERCURRENT is flagged. -/
  | fioOvercurrent (n : Fin 48)
  /-- FIO_THERMAL_OFF (R509). A switch reaches 170 °C and turns off. -/
  | fioThermalOff (n : Fin 48)
  /-- FIO_THERMAL_ON (R509). A switch cools to 155 °C and turns back on while commanded. -/
  | fioThermalOn (n : Fin 48)
  /-- VFIELD_WARN (R510). VFIELD_b stays below 18 V for 100 µs and the warning is set. -/
  | vfieldWarn (b : Fin 6) (mv : BitVec 16)
  /-- VFIELD_WARN_CLEAR (R510). VFIELD_b stays above 19 V for 100 µs and the warning clears. -/
  | vfieldWarnClear (b : Fin 6) (mv : BitVec 16)
  /-- VFIELD_UVLO (R510). VFIELD_b falls below 9.5 V and every driver of the bank turns off. -/
  | vfieldUvlo (b : Fin 6) (mv : BitVec 16)
  /-- VFIELD_UVLO_RECOVER (R510). VFIELD_b stays above 11 V for 20 µs and outputs take their commands. -/
  | vfieldUvloRecover (b : Fin 6) (mv : BitVec 16)
  /-- FIELD_LOGIC_STOP (R511). The highest VFIELD falls below 9 V and the field die logic stops. -/
  | fieldLogicStop
  /-- FIELD_LOGIC_START (R511). The field die logic starts and holds outputs off until a valid frame. -/
  | fieldLogicStart (mv : BitVec 16)
  /-- FIELD_SILENCE (R514). The field die receives no valid frame for 100 µs, deasserts FIELD_OK and holds its outputs. -/
  | fieldSilence
  /-- FIO_PULSE_SNAPSHOT (R502). At A + FILT + 20 µs the pulse counts of the interval are snapshot, or marked stale. -/
  | fioPulseSnapshot
  /-- PAIR_HB_FRAME (R521). An HB frame from the partner arrives on a pair link. -/
  | pairHbFrame (l : Fin 2) (ok : Bool) (seq : BitVec 16) (h : PairHb) (toffs : BitVec 32) (tdly : BitVec 16)
  /-- PAIR_TL_FRAME (R537). A TL frame updates the sapwood's paired trip lines. -/
  | pairTlFrame (l : Fin 2) (ok : Bool) (seq : BitVec 16) (es : List PairTl)
  /-- PAIR_STATE_FRAME (R533). A STATE frame from the heartwood is received whole for application. -/
  | pairStateFrame (l : Fin 2) (ok : Bool) (seq : BitVec 16) (f : PairState)
  /-- PAIR_HB_PIN_TOGGLE (R525). PAIR_HB_IN toggles as a heartbeat of the partner. -/
  | pairHbPinToggle
  /-- PAIR_ROLE_IN_FALL (R526). PAIR_ROLE_IN falls, signalling the partner has left the heartwood role. -/
  | pairRoleInFall
  /-- PLINK_DOWN (R522). No valid frame for 50 µs declares a pair link down. -/
  | plinkDown (l : Fin 2)
  /-- PAIR_DECISION_POINT (R526). 3 µs after the own deadline the package judges heartbeats and evaluates its role transitions. -/
  | pairDecisionPoint (roleIn : Bool)
  /-- HANDOVER_ASSERT (R528). 2 µs after its decision point of tick s the sapwood asserts PAIR_ROLE_OUT and OUT_EN. -/
  | handoverAssert
  /-- PAIR_TL_FRAME_TIMEOUT (R537). No TL frame for 50 µs and paired lines continue under their own evaluation. -/
  | pairTlFrameTimeout
  /-- PAIR_TL_FRAME_SEND (R521). The heartwood sends a TL frame on a line change or every 20 µs. -/
  | pairTlFrameSend
  /-- PAIR_CMD_SWAP_DRILL (R543). SWAP_DRILL starts a drill handover, or is refused. -/
  | pairCmdSwapDrill (v : Word)
  /-- PAIR_CMD_RELEASE (R528). RELEASE requests a named-tick handover without checks. -/
  | pairCmdRelease (v : Word)
  /-- PAIR_CMD_RESYNC (R539). RESYNC requests a full Lathe copy. -/
  | pairCmdResync
  /-- DRILL_CHECK_END (R544). After DRILL_CHECK ticks the drill passes, or a failed check hands the role back. -/
  | drillCheckEnd (fieldOk : Bool) (fail : Option (Fin 48))
  /-- DRILL_DUE (R544). PAIR_DRILL_AGE passes DUE days and DRILL_DUE is set. -/
  | drillDue
  /-- PREF_DWELL_EXPIRY (R529). A preferred sapwood synchronised for PREF_DWELL requests TAKE. -/
  | prefDwellExpiry
  /-- START_WAIT_EXPIRY (R526). A non-preferred sapwood without a heartwood for START_WAIT takes the role. -/
  | startWaitExpiry (roleIn : Bool)
  /-- PAIR_CFG_WRITE (R545). A write of PAIR_CFG is discarded for PAIRED after PROTECTION_READY. -/
  | pairCfgWrite (v : Word)
  /-- REGISTER_WRITE (R549). A write to a register without a row of its own updates its fields under R5, or is ignored if narrow. -/
  | registerWrite (req : Req) (addr : BitVec 20) (be : BitVec 4) (v : Word)
  /-- ALIAS_WRITE (R557). A write at a SET, CLEAR or TOGGLE offset changes RW fields atomically, or is discarded without aliases. -/
  | aliasWrite (req : Req) (win : Fin 3) (addr : BitVec 18) (be : BitVec 4) (v : Word)
  /-- READ_CLEAR (R5). A read of an RC field returns and clears it. -/
  | readClear (req : Req) (addr : BitVec 20)
  /-- UNMAPPED_ACCESS (R555). An access above the blocks is reported as unmapped. -/
  | unmappedAccess (req : Req) (write : Bool) (addr : BitVec 20) (be : BitVec 4)
  /-- SPI_FRAME (R553). An SPI frame is taken with its header and words, or ignored for a bad header. -/
  | spiFrame (hdr : Word) (ws : List Word)
  /-- HBI_IND_ADDR_WRITE (R567). A write of HBI_IND_ADDR sets the indirect address and starts a prefetch in RD mode. -/
  | hbiIndAddrWrite (req : Req) (v : Word)
  /-- HBI_IND_CTRL_WRITE (R567). A write of HBI_IND_CTRL sets mode, width, count and step and restarts a prefetch. -/
  | hbiIndCtrlWrite (req : Req) (v : Word)
  /-- HBI_IND_DATA_READ (R568). A read of HBI_IND_DATA consumes a prefetched word or underruns. -/
  | hbiIndDataRead (req : Req)
  /-- HBI_IND_DATA_WRITE (R567). A write of HBI_IND_DATA queues a word for indirect writing. -/
  | hbiIndDataWrite (req : Req) (be : BitVec 4) (v : Word)
  /-- IND_PREFETCH_DONE (R567). A prefetch access completes and its words become ready. -/
  | indPrefetchDone (req : Req) (ok : Bool)
  /-- IND_QUEUED_WRITE_DONE (R567). A queued indirect write reaches its target or fails. -/
  | indQueuedWriteDone (req : Req) (ok : Bool)
  /-- INT_STAT_CLEAR (R572). Writing 1 to INT_STAT bits clears them and may release INT_N. -/
  | intStatClear (hi : Bool) (v : Word)
  /-- INT_FORCE (R574). Writing INT_FORCE raises sources as if their blocks had. -/
  | intForce (hi : Bool) (v : Word)
  /-- MBOX_S2H_WRITE (R575). The supervisor writes a mailbox to the host, raising its source. -/
  | mboxS2hWrite (req : Req) (n : Fin 4) (v : Word)
  /-- MBOX_H2S_WRITE (R575). The host writes a mailbox to the supervisor, raising its pending bit. -/
  | mboxH2sWrite (req : Req) (n : Fin 4) (v : Word)
  /-- MBOX_S2H_READ (R576). The host's read of MBOX_S2H clears S2H_FULL. -/
  | mboxS2hRead (req : Req) (n : Fin 4)
  /-- MBOX_H2S_READ (R576). The supervisor's read of MBOX_H2S clears H2S_FULL. -/
  | mboxH2sRead (req : Req) (n : Fin 4)
  /-- SYS_RST_SOFTWARE (R592). SYS_RST.SYS with the key resets PD_SYS and the dependent domains. -/
  | sysRstSoftware (v : Word)
  /-- SYS_RST_REGION (R594). SYS_RST.REGION with the key starts a per-region reset. -/
  | sysRstRegion (v : Word)
  /-- REGION_RESET_RELEASE (R594). PD_REG_r leaves reset: trims load, lanes hold F-LIN, cores are empty and the boot service re-applies. -/
  | regionResetRelease (r : Fin 4)
  /-- PWR_DOM_WRITE (R582). A write of PWR_DOM switches domains, refusing region changes whose condition fails. -/
  | pwrDomWrite (v : Word)
  /-- DOMAIN_SWITCH_DONE (R582). A domain switch-on or switch-off completes and is recorded. -/
  | domainSwitchDone (bit : Fin 7)
  /-- PWR_HALF_WRITE (R584). A write of PWR_HALF requests HALF mode for stopped regions, or is refused. -/
  | pwrHalfWrite (v : Word)
  /-- HALF_APPLY (R584). The region's cluster clock changes at the next tick start. -/
  | halfApply (r : Fin 4)
  /-- AVS_STEP (R583). Every 1 ms the PMU moves a region's voltage by one step. -/
  | avsStep (r : Fin 4) (m : Fin 3)
  /-- HOLDUP_START (R587). VIN stays below 8.5 V for 20 µs and hold-up begins from VHOLD. -/
  | holdupStart (vhold vin : BitVec 16)
  /-- PD_NET_SHED (R460). Last-gasp frames have left, or 2 ms passed, and PD_NET is shed. -/
  | pdNetShed
  /-- HOLDUP_STEP3 (R588). VHOLD falls below HOLD_END and flush, record closing and Tally writing begin. -/
  | holdupStep3 (vhold : BitVec 16)
  /-- HOLDUP_STEP4 (R588). Step 3 completes; outputs go off and the domains switch off. -/
  | holdupStep4
  /-- HOLDUP_END (R589). VIN returns above 9 V for 10 ms during step 1 or 2 and hold-up ends. -/
  | holdupEnd (vhold vin : BitVec 16)
  /-- VIN_OVERVOLTAGE (R610). VIN above 18 V for 5 µs disconnects VIN and starts hold-up. -/
  | vinOvervoltage (vhold vin : BitVec 16)
  /-- THERMAL_WARN (R590). A junction reading exceeds TWARN and is reported once. -/
  | thermalWarn (src : Fin 6) (t : BitVec 16)
  /-- THERMAL_SHUTDOWN (R590). A reading reaches TSHUT and steps 3 and 4 of hold-up run. -/
  | thermalShutdown (src : Fin 6) (t : BitVec 16)
  /-- THERMAL_RESTART (R590). Every reading falls below TWARN and the package powers on again. -/
  | thermalRestart
  /-- WDT_KICK (R591). A write of PWR_WDT_KICK advances or completes the service sequence. -/
  | wdtKick (v : Word)
  /-- WDT_WARN (R591). TO / 2 without service raises interrupt 57. -/
  | wdtWarn
  /-- WDT_TIMEOUT (R591). TO without service causes a watchdog reset. -/
  | wdtTimeout
  /-- POWER_ON_RESET (R592). VIN above 9 V for 10 ms powers on and resets every domain except PD_KEEP. -/
  | powerOnReset
  /-- RESET_N_ASSERT (R592). RESET_N low resets PD_SYS and the dependent domains. -/
  | resetNAssert
  /-- RESET_N_RELEASE (R600). The reset of PD_SYS is released, straps sampled, and the boot ROM starts. -/
  | resetNRelease (pref : RstPins) (spi : Bool)
  /-- MAIN_PLL_LOSS (R526). Loss of REFCLK or the main PLL drops PAIR_ROLE_OUT. -/
  | mainPllLoss
  /-- VKEEP_LOSS (R581). VKEEP falls below 1.8 V while needed and PD_KEEP content is lost. -/
  | vkeepLoss
  /-- BOOT_IMAGE_DONE (R601). Verification and loading of a directory entry ends with BOOT_IMAGE or BOOT_IMAGE_FAIL. -/
  | bootImageDone (e : Fin 20)
  /-- BOOT_CONTINUE (R601). BOOT_CMD CONTINUE repeats step 1 for the failed entries. -/
  | bootContinue (v : Word)
  /-- BOOT_RAISE_MIN (R597). BOOT_CMD RAISE_MIN programs the next anti-rollback row, or is refused. -/
  | bootRaiseMin (v : Word)
  /-- MISSED_OWN_DEADLINE (R526). The package's own element deadline fails to come, its heartbeat generator stops and PAIR_ROLE_OUT falls within 1 µs. -/
  | missedOwnDeadline
  /-- CAN_RX_BUS_ERROR (R487). While the controller is receiving, it detects a bit, stuff, form, CRC or protocol-exception error, counts it in REC and may change error state. -/
  | canRxBusError (c : Fin 4) (why : CanErr) (heavy : Bool)
  /-- THERMAL_WARN_CLEAR (R590). Every junction reading falls 5 °C below TWARN, which re-arms the single THERMAL warning. -/
  | thermalWarnClear
  /-- HOLD_OK_CHANGE (R586). VHOLD crosses 28.0 V, so PWR_STAT.HOLD_OK changes, which decides the hold-up path and the WAIT_HOLD condition of PROTECTION_READY. -/
  | holdOkChange (vhold : BitVec 16)
  /-- WDT_COUNT_CLEAR (R592). Once PROTECTION_READY has held for 60 s, the count of consecutive watchdog resets in PWR_RST returns to 0. -/
  | wdtCountClear
  /-- HBI_ACCESS_READY (R551). 50 µs after PD_SYS leaves reset, the HBI and the SPI slave begin to serve accesses; before that, writes are ignored and data are not driven. -/
  | hbiAccessReady
  /-- ILLEGAL_INSTRUCTION (R192). A core executes a word with a reserved opcode, function code or predicate encoding and raises ILLEGAL. -/
  | illegalInstruction (k : CoreId) (w : Word)
  deriving DecidableEq, Repr

end Sys2Proof
end

