-- ==== Sys2Proof/Decode.lean ====
section
/-!
DEFINITION. Decoding. No row of spec/opcode_table.json has bits. Walso instruction words have the encodings of chapter 06 and R300:
the word of each instruction, and the instruction each word stands for.
-/
namespace Sys2Proof

/-- The command that a word spells by the table's bits: the table gives no row any bits. -/
def decodeTableWord (_nbits _w : Nat) : Option Instr := none

/-- The core and the word of a command that executes an instruction (R167, R192 to R226, R300); none for every other command. -/
def Instr.walsoWord (i : Instr) : Option (CoreId × Word) :=
  match i with
  | .aflFrame _ _ _ _ => none
  | .dieLinkDown _ => none
  | .mramAccessRequest _ _ _ _ _ _ => none
  | .mplTransferEnd _ _ _ _ => none
  | .flkFrameToField _ => none
  | .flkFrameFromField _ _ => none
  | .flkDown => none
  | .claimCmdClaim _ _ => none
  | .claimCmdRelease _ _ => none
  | .claimCmdQuery _ _ => none
  | .tickStart => none
  | .regionTickArrival _ _ => none
  | .elementPhaseStart _ => none
  | .wtick k pn ps z => some (k, wEnc 0x35 pn ps z)
  | .elementDeadline _ => none
  | .clusterFaultClearWrite _ => none
  | .clusterFaultLift _ => none
  | .ovrCfgWrite _ _ => none
  | .tickIdxRead _ => none
  | .stitchSample _ => none
  | .coarseOverload _ _ _ _ => none
  | .afePllUnlock => none
  | .afePllRelock => none
  | .afeRecheck _ => none
  | .afeCheckDone _ _ _ _ _ => none
  | .calWindowEnd _ => none
  | .calUpdate _ => none
  | .calCfgWrite _ _ => none
  | .trimWrite _ _ _ => none
  | .trimApply _ => none
  | .stcCtrlWrite _ _ => none
  | .stcModeApply _ => none
  | .stcThrDnWrite _ _ => none
  | .clSrcWrite _ _ => none
  | .srcChange _ => none
  | .recSampleComplete _ => none
  | .wbSample _ => none
  | .fpdStretchEnd _ => none
  | .trkSample _ => none
  | .trkCycleComplete _ => none
  | .trkCfgWrite _ _ => none
  | .trkCfgApply _ => none
  | .laneFadeRequest _ _ => none
  | .laneFadeStart _ => none
  | .laneFadeEnd _ => none
  | .coefWrite _ _ _ _ => none
  | .laneStructWrite _ _ _ => none
  | .laneRunStop _ => none
  | .laneStopApply _ => none
  | .laneRunStart _ => none
  | .laneRestartApply _ => none
  | .laneLoadDef _ _ => none
  | .loadDefApply _ => none
  | .chainRestart _ => none
  | .laneSettleEnd _ => none
  | .alu k pn ps rd ra rb fn => some (k, wEnc 0x01 pn ps (rd ++ (ra ++ (rb ++ fn))))
  | .addi k pn ps rd ra imm => some (k, wEnc 0x02 pn ps (rd ++ (ra ++ imm)))
  | .andi k pn ps rd ra imm => some (k, wEnc 0x03 pn ps (rd ++ (ra ++ imm)))
  | .ori k pn ps rd ra imm => some (k, wEnc 0x04 pn ps (rd ++ (ra ++ imm)))
  | .xori k pn ps rd ra imm => some (k, wEnc 0x05 pn ps (rd ++ (ra ++ imm)))
  | .shi k pn ps rd ra imm => some (k, wEnc 0x06 pn ps (rd ++ (ra ++ imm)))
  | .movl k pn ps rd imm => some (k, wEnc 0x07 pn ps (rd ++ imm))
  | .movh k pn ps rd imm => some (k, wEnc 0x08 pn ps (rd ++ imm))
  | .cmp k pn ps rd ra rb fn => some (k, wEnc 0x09 pn ps (rd ++ (ra ++ (rb ++ fn))))
  | .cmpi k pn ps rd ra imm => some (k, wEnc 0x0A pn ps (rd ++ (ra ++ imm)))
  | .fpu k pn ps rd ra rb fn => some (k, wEnc 0x0B pn ps (rd ++ (ra ++ (rb ++ fn))))
  | .fcmp k pn ps rd ra rb fn => some (k, wEnc 0x0C pn ps (rd ++ (ra ++ (rb ++ fn))))
  | .fma k pn ps rd ra rb fn => some (k, wEnc 0x0D pn ps (rd ++ (ra ++ (rb ++ fn))))
  | .rdfs k pn ps rd ra rb => some (k, wEnc 0x0E pn ps (rd ++ (ra ++ (rb ++ 0#7))))
  | .clrfs k pn ps rd ra rb => some (k, wEnc 0x0E pn ps (rd ++ (ra ++ (rb ++ 1#7))))
  | .rdlc k pn ps rd ra rb => some (k, wEnc 0x0E pn ps (rd ++ (ra ++ (rb ++ 2#7))))
  | .rdp k pn ps rd ra rb => some (k, wEnc 0x0E pn ps (rd ++ (ra ++ (rb ++ 3#7))))
  | .ld k pn ps rd ra off => some (k, wEnc 0x10 pn ps (rd ++ (ra ++ off)))
  | .st k pn ps rd ra off => some (k, wEnc 0x11 pn ps (rd ++ (ra ++ off)))
  | .ldz k pn ps rd ra off => some (k, wEnc 0x12 pn ps (rd ++ (ra ++ off)))
  | .stz k pn ps rd ra off => some (k, wEnc 0x13 pn ps (rd ++ (ra ++ off)))
  | .ldw k pn ps rd ra off => some (k, wEnc 0x14 pn ps (rd ++ (ra ++ off)))
  | .ldp k pn ps rd ra off => some (k, wEnc 0x15 pn ps (rd ++ (ra ++ off)))
  | .ldzp k pn ps rd ra off => some (k, wEnc 0x16 pn ps (rd ++ (ra ++ off)))
  | .ldx k pn ps rd ra rb fn => some (k, wEnc 0x17 pn ps (rd ++ (ra ++ (rb ++ fn))))
  | .stx k pn ps rd ra rb fn => some (k, wEnc 0x18 pn ps (rd ++ (ra ++ (rb ++ fn))))
  | .cpx k pn ps zd za zb ga fn => some (k, wEnc 0x20 pn ps (zd ++ (za ++ (zb ++ (ga ++ fn)))))
  | .csr k pn ps rd ra n => some (k, wEnc 0x24 pn ps (rd ++ (ra ++ n)))
  | .eret k pn ps z => some (k, wEnc 0x25 pn ps z)
  | .wfi k pn ps z => some (k, wEnc 0x26 pn ps z)
  | .fence k pn ps z => some (k, wEnc 0x27 pn ps z)
  | .supInterruptEntry _ => none
  | .tripreq k pn ps ra x => some (k, wEnc 0x28 pn ps (ra ++ x))
  | .flagOr k pn ps ra z b => some (k, wEnc 0x29 pn ps (ra ++ (0#2 ++ (z ++ b))))
  | .flagAndn k pn ps ra z b => some (k, wEnc 0x29 pn ps (ra ++ (1#2 ++ (z ++ b))))
  | .flagMov k pn ps ra z b => some (k, wEnc 0x29 pn ps (ra ++ (2#2 ++ (z ++ b))))
  | .flagBit k pn ps ra z b => some (k, wEnc 0x29 pn ps (ra ++ (3#2 ++ (z ++ b))))
  | .evt k pn ps ra rb code => some (k, wEnc 0x2A pn ps (ra ++ (rb ++ code)))
  | .xchPub k pn ps rd z c z1 slot => some (k, wEnc 0x2B pn ps (rd ++ (0#2 ++ (z ++ (c ++ (BitVec.ofBool z1 ++ slot))))))
  | .xchRd k pn ps rd z c z1 slot => some (k, wEnc 0x2B pn ps (rd ++ (1#2 ++ (z ++ (c ++ (BitVec.ofBool z1 ++ slot))))))
  | .xchTag k pn ps rd z c z1 slot => some (k, wEnc 0x2B pn ps (rd ++ (2#2 ++ (z ++ (c ++ (BitVec.ofBool z1 ++ slot))))))
  | .br k pn ps off => some (k, wEnc 0x30 pn ps off)
  | .loop k pn ps trip len => some (k, wEnc 0x31 pn ps (trip ++ len))
  | .jt k pn ps ra n z => some (k, wEnc 0x32 pn ps (ra ++ (n ++ z)))
  | .call k pn ps z target => some (k, wEnc 0x33 pn ps (z ++ target))
  | .ret k pn ps z => some (k, wEnc 0x34 pn ps z)
  | .lds k pn ps rd zd str lane al age => some (k, wEnc 0x38 pn ps (rd ++ (zd ++ (BitVec.ofBool str ++ (lane ++ (BitVec.ofBool al ++ age))))))
  | .phs k pn ps rd zd lane w z h => some (k, wEnc 0x39 pn ps (rd ++ (zd ++ (lane ++ (BitVec.ofBool w ++ (z ++ h))))))
  | .seq k pn ps z1 zd za kind z => some (k, wEnc 0x3A pn ps (BitVec.ofBool z1 ++ (zd ++ (za ++ (kind ++ z)))))
  | .frq k pn ps rd sel z => some (k, wEnc 0x3B pn ps (rd ++ (sel ++ z)))
  | .crvStep k pn ps rd ra n z => some (k, wEnc 0x3C pn ps (rd ++ (ra ++ (n ++ (0#2 ++ z)))))
  | .crvReset k pn ps rd ra n z => some (k, wEnc 0x3C pn ps (rd ++ (ra ++ (n ++ (1#2 ++ z)))))
  | .crvRead k pn ps rd ra n z => some (k, wEnc 0x3C pn ps (rd ++ (ra ++ (n ++ (2#2 ++ z)))))
  | .cmphEval k pn ps rd ra n z => some (k, wEnc 0x3D pn ps (rd ++ (ra ++ (n ++ (0#2 ++ z)))))
  | .cmphReset k pn ps rd ra n z => some (k, wEnc 0x3D pn ps (rd ++ (ra ++ (n ++ (1#2 ++ z)))))
  | .cmphRead k pn ps rd ra n z => some (k, wEnc 0x3D pn ps (rd ++ (ra ++ (n ++ (2#2 ++ z)))))
  | .tmrStep k pn ps rd ra n z => some (k, wEnc 0x3E pn ps (rd ++ (ra ++ (n ++ (0#2 ++ z)))))
  | .tmrReset k pn ps rd ra n z => some (k, wEnc 0x3E pn ps (rd ++ (ra ++ (n ++ (1#2 ++ z)))))
  | .tmrRead k pn ps rd ra n z => some (k, wEnc 0x3E pn ps (rd ++ (ra ++ (n ++ (2#2 ++ z)))))
  | .limg k pn ps rd dir z word => some (k, wEnc 0x2C pn ps (rd ++ (BitVec.ofBool dir ++ (z ++ word))))
  | .ltmrStep k pn ps rd ra n => some (k, wEnc 0x2D pn ps (rd ++ (ra ++ (0#2 ++ n))))
  | .ltmrReset k pn ps rd ra n => some (k, wEnc 0x2D pn ps (rd ++ (ra ++ (1#2 ++ n))))
  | .ltmrRead k pn ps rd ra n => some (k, wEnc 0x2D pn ps (rd ++ (ra ++ (2#2 ++ n))))
  | .ledg k pn ps rd ra n => some (k, wEnc 0x2E pn ps (rd ++ (ra ++ n)))
  | .wturn k pn ps z => some (k, wEnc 0x2F pn ps z)
  | .coreLoadValidate _ => none
  | .coreValidationDone _ => none
  | .coreActivate _ => none
  | .coreActivationApply _ => none
  | .coreRevert _ => none
  | .coreRunStop _ => none
  | .coreStopApply _ => none
  | .coreRunStart _ => none
  | .coreStartApply _ => none
  | .coreActAtWrite _ _ => none
  | .coreDmemPortWrite _ _ _ _ => none
  | .coreImemPortWrite _ _ _ _ => none
  | .ifdHoldExpiry _ => none
  | .cdDropout _ => none
  | .ifdKeyWrite _ _ => none
  | .ifdLockedWrite _ _ _ => none
  | .ifdRunStop _ => none
  | .ifdStopApply _ => none
  | .ifdRunStart _ => none
  | .ifdRestartApply _ => none
  | .lightInputEdge _ _ => none
  | .coinWindowExpiry _ _ => none
  | .wfPop _ => none
  | .wfFlush _ => none
  | .clRoleWrite _ _ => none
  | .afCfgWrite _ _ => none
  | .crvSettingWrite _ _ _ _ => none
  | .userTableWrite _ _ _ _ => none
  | .primCfgWrite _ _ _ => none
  | .primSettingsApply _ => none
  | .tlMinElapsed _ => none
  | .tlMaxElapsed _ => none
  | .bfTimerExpiry _ => none
  | .tripKeyWrite _ _ => none
  | .tlRunSet _ _ => none
  | .tlRunClear _ _ => none
  | .tlConfigWrite _ _ _ _ => none
  | .turnStart => none
  | .lthProgramStart => none
  | .turnDeadline => none
  | .lthHaltCmd => none
  | .lthLockstepMismatch => none
  | .retainedFlushDone _ => none
  | .lthStart => none
  | .lthLoadValidate => none
  | .lthValidationDone => none
  | .lthArm => none
  | .lthDisarm => none
  | .lthRevert => none
  | .revertWindowClose => none
  | .meterSnapshot => none
  | .lthCfgWrite _ => none
  | .meterCfgWrite _ => none
  | .lthTurnLoRead _ => none
  | .recFrameWrite _ _ => none
  | .recHostTrigger _ _ => none
  | .recRelease _ _ => none
  | .recClose _ _ => none
  | .wbFreeze _ => none
  | .wbCopyDone _ _ => none
  | .recRunStart _ _ => none
  | .recScanDone _ => none
  | .recRunStop _ _ => none
  | .recStopApply _ => none
  | .recConfigWrite _ _ _ _ => none
  | .blzRunStart _ _ => none
  | .blzRunStop _ _ => none
  | .blazeStep _ => none
  | .blzTimerExpiry _ _ => none
  | .blzCounterLimit _ _ => none
  | .gaugeArm _ _ _ => none
  | .gaugeDisarm _ _ _ => none
  | .gaugeViolation _ _ => none
  | .gaugeTableWrite _ _ _ _ => none
  | .comtradeExport _ _ _ _ _ _ => none
  | .tallyRaise _ _ _ _ => none
  | .tallySlotWrite _ _ => none
  | .bucketTokenGain _ => none
  | .tallyPost _ _ => none
  | .tallyResume => none
  | .tallyScanDone => none
  | .tallyClearRequest _ _ _ => none
  | .tallyClearConfirm _ => none
  | .tallyClearAbort _ => none
  | .tallyNonceExpiry => none
  | .tallyLockoutEnd => none
  | .tallyEraseDone _ => none
  | .tallyLrClear => none
  | .tallyBucketWrite _ _ _ => none
  | .tbCmdStart _ => none
  | .tbStart => none
  | .tbCmdStep _ => none
  | .timeStepApply => none
  | .tbCmdAfeSync _ => none
  | .afeSyncApply => none
  | .tbCmdResetI _ => none
  | .tbModeWrite _ => none
  | .tbModeApply => none
  | .tbAddendCommit _ _ => none
  | .tbOffsCommit _ _ => none
  | .servoHoldoutExpiry => none
  | .tbServoWrite _ => none
  | .leapApply => none
  | .rtcAlign => none
  | .tbTimeFracRead _ => none
  | .tbCntLoRead _ => none
  | .almArm _ _ _ => none
  | .almDisarm _ _ _ => none
  | .almWrite _ _ _ _ => none
  | .alarmFire _ => none
  | .almLastNsRead _ _ => none
  | .tioModeWrite _ _ _ => none
  | .tioCapture _ _ _ _ => none
  | .ppsInEdge _ _ _ => none
  | .tioPulseEdge _ => none
  | .tioCapNsRead _ _ => none
  | .ethFrameRx _ _ _ _ _ => none
  | .ethFrameEgress _ _ _ => none
  | .prpSupervisionSend => none
  | .addressAgeing _ => none
  | .ethLink _ _ _ => none
  | .redPathLost _ => none
  | .ethApply _ _ => none
  | .svLost _ => none
  | .svPubFrameSend _ => none
  | .gooseExpiry _ => none
  | .gpubCommit _ _ _ => none
  | .gooseRetransmit _ => none
  | .svSlotWrite _ _ _ _ => none
  | .ethTxtsNsRead _ => none
  | .ethTblDataRead _ => none
  | .ethTblDataWrite _ _ => none
  | .canInitSet _ _ _ => none
  | .canInitApply _ => none
  | .canInitClear _ _ _ => none
  | .canBusJoin _ => none
  | .canOcmdQueue _ _ => none
  | .canOcmdCancel _ _ _ => none
  | .canOcmdClearNew _ _ => none
  | .canBusoffRecover _ _ => none
  | .canRecoveryDone _ => none
  | .canFrameSelect _ => none
  | .canFrameTxDone _ _ _ _ => none
  | .canTxLost _ _ _ => none
  | .canFrameRx _ _ _ _ => none
  | .canOwinW3Read _ _ => none
  | .canOwinWrite _ _ _ _ => none
  | .fioInputEdge _ _ _ _ => none
  | .fioEvtNsRead _ => none
  | .fioCfgWrite _ _ _ => none
  | .fioDrvWrite _ _ _ => none
  | .fioGrpWrite _ _ _ => none
  | .fioMismatch _ => none
  | .fioOvercurrent _ => none
  | .fioThermalOff _ => none
  | .fioThermalOn _ => none
  | .vfieldWarn _ _ => none
  | .vfieldWarnClear _ _ => none
  | .vfieldUvlo _ _ => none
  | .vfieldUvloRecover _ _ => none
  | .fieldLogicStop => none
  | .fieldLogicStart _ => none
  | .fieldSilence => none
  | .fioPulseSnapshot => none
  | .pairHbFrame _ _ _ _ _ _ => none
  | .pairTlFrame _ _ _ _ => none
  | .pairStateFrame _ _ _ _ => none
  | .pairHbPinToggle => none
  | .pairRoleInFall => none
  | .plinkDown _ => none
  | .pairDecisionPoint _ => none
  | .handoverAssert => none
  | .pairTlFrameTimeout => none
  | .pairTlFrameSend => none
  | .pairCmdSwapDrill _ => none
  | .pairCmdRelease _ => none
  | .pairCmdResync => none
  | .drillCheckEnd _ _ => none
  | .drillDue => none
  | .prefDwellExpiry => none
  | .startWaitExpiry _ => none
  | .pairCfgWrite _ => none
  | .registerWrite _ _ _ _ => none
  | .aliasWrite _ _ _ _ _ => none
  | .readClear _ _ => none
  | .unmappedAccess _ _ _ _ => none
  | .spiFrame _ _ => none
  | .hbiIndAddrWrite _ _ => none
  | .hbiIndCtrlWrite _ _ => none
  | .hbiIndDataRead _ => none
  | .hbiIndDataWrite _ _ _ => none
  | .indPrefetchDone _ _ => none
  | .indQueuedWriteDone _ _ => none
  | .intStatClear _ _ => none
  | .intForce _ _ => none
  | .mboxS2hWrite _ _ _ => none
  | .mboxH2sWrite _ _ _ => none
  | .mboxS2hRead _ _ => none
  | .mboxH2sRead _ _ => none
  | .sysRstSoftware _ => none
  | .sysRstRegion _ => none
  | .regionResetRelease _ => none
  | .pwrDomWrite _ => none
  | .domainSwitchDone _ => none
  | .pwrHalfWrite _ => none
  | .halfApply _ => none
  | .avsStep _ _ => none
  | .holdupStart _ _ => none
  | .pdNetShed => none
  | .holdupStep3 _ => none
  | .holdupStep4 => none
  | .holdupEnd _ _ => none
  | .vinOvervoltage _ _ => none
  | .thermalWarn _ _ => none
  | .thermalShutdown _ _ => none
  | .thermalRestart => none
  | .wdtKick _ => none
  | .wdtWarn => none
  | .wdtTimeout => none
  | .powerOnReset => none
  | .resetNAssert => none
  | .resetNRelease _ _ => none
  | .mainPllLoss => none
  | .vkeepLoss => none
  | .bootImageDone _ => none
  | .bootContinue _ => none
  | .bootRaiseMin _ => none
  | .missedOwnDeadline => none
  | .canRxBusError _ _ _ => none
  | .thermalWarnClear => none
  | .holdOkChange _ => none
  | .wdtCountClear => none
  | .hbiAccessReady => none
  | .illegalInstruction _ _ => none

/-- The instruction a legal word stands for, by its opcode and operation field. -/
def walsoLegal (k : CoreId) (w : Word) : Option Instr :=
  let pn := w.getLsbD 25
  let ps := Fin.ofNat 8 (w.extractLsb' 22 3).toNat
  match wOp w with
  | 0x01 => some (.alu k pn ps (w.extractLsb' 17 5) (w.extractLsb' 12 5) (w.extractLsb' 7 5) (w.extractLsb' 0 7))
  | 0x02 => some (.addi k pn ps (w.extractLsb' 17 5) (w.extractLsb' 12 5) (w.extractLsb' 0 12))
  | 0x03 => some (.andi k pn ps (w.extractLsb' 17 5) (w.extractLsb' 12 5) (w.extractLsb' 0 12))
  | 0x04 => some (.ori k pn ps (w.extractLsb' 17 5) (w.extractLsb' 12 5) (w.extractLsb' 0 12))
  | 0x05 => some (.xori k pn ps (w.extractLsb' 17 5) (w.extractLsb' 12 5) (w.extractLsb' 0 12))
  | 0x06 => some (.shi k pn ps (w.extractLsb' 17 5) (w.extractLsb' 12 5) (w.extractLsb' 0 12))
  | 0x07 => some (.movl k pn ps (w.extractLsb' 17 5) (w.extractLsb' 0 17))
  | 0x08 => some (.movh k pn ps (w.extractLsb' 17 5) (w.extractLsb' 0 17))
  | 0x09 => some (.cmp k pn ps (w.extractLsb' 17 5) (w.extractLsb' 12 5) (w.extractLsb' 7 5) (w.extractLsb' 0 7))
  | 0x0A => some (.cmpi k pn ps (w.extractLsb' 17 5) (w.extractLsb' 12 5) (w.extractLsb' 0 12))
  | 0x0B => some (.fpu k pn ps (w.extractLsb' 17 5) (w.extractLsb' 12 5) (w.extractLsb' 7 5) (w.extractLsb' 0 7))
  | 0x0C => some (.fcmp k pn ps (w.extractLsb' 17 5) (w.extractLsb' 12 5) (w.extractLsb' 7 5) (w.extractLsb' 0 7))
  | 0x0D => some (.fma k pn ps (w.extractLsb' 17 5) (w.extractLsb' 12 5) (w.extractLsb' 7 5) (w.extractLsb' 0 7))
  | 0x0E =>
    match (w.extractLsb' 0 7).toNat with
    | 0 => some (.rdfs k pn ps (w.extractLsb' 17 5) (w.extractLsb' 12 5) (w.extractLsb' 7 5))
    | 1 => some (.clrfs k pn ps (w.extractLsb' 17 5) (w.extractLsb' 12 5) (w.extractLsb' 7 5))
    | 2 => some (.rdlc k pn ps (w.extractLsb' 17 5) (w.extractLsb' 12 5) (w.extractLsb' 7 5))
    | _ => some (.rdp k pn ps (w.extractLsb' 17 5) (w.extractLsb' 12 5) (w.extractLsb' 7 5))
  | 0x10 => some (.ld k pn ps (w.extractLsb' 17 5) (w.extractLsb' 12 5) (w.extractLsb' 0 12))
  | 0x11 => some (.st k pn ps (w.extractLsb' 17 5) (w.extractLsb' 12 5) (w.extractLsb' 0 12))
  | 0x12 => some (.ldz k pn ps (w.extractLsb' 17 5) (w.extractLsb' 12 5) (w.extractLsb' 0 12))
  | 0x13 => some (.stz k pn ps (w.extractLsb' 17 5) (w.extractLsb' 12 5) (w.extractLsb' 0 12))
  | 0x14 => some (.ldw k pn ps (w.extractLsb' 17 5) (w.extractLsb' 12 5) (w.extractLsb' 0 12))
  | 0x15 => some (.ldp k pn ps (w.extractLsb' 17 5) (w.extractLsb' 12 5) (w.extractLsb' 0 12))
  | 0x16 => some (.ldzp k pn ps (w.extractLsb' 17 5) (w.extractLsb' 12 5) (w.extractLsb' 0 12))
  | 0x17 => some (.ldx k pn ps (w.extractLsb' 17 5) (w.extractLsb' 12 5) (w.extractLsb' 7 5) (w.extractLsb' 0 7))
  | 0x18 => some (.stx k pn ps (w.extractLsb' 17 5) (w.extractLsb' 12 5) (w.extractLsb' 7 5) (w.extractLsb' 0 7))
  | 0x20 => some (.cpx k pn ps (w.extractLsb' 18 4) (w.extractLsb' 14 4) (w.extractLsb' 10 4) (w.extractLsb' 5 5) (w.extractLsb' 0 5))
  | 0x24 => some (.csr k pn ps (w.extractLsb' 17 5) (w.extractLsb' 12 5) (w.extractLsb' 0 12))
  | 0x25 => some (.eret k pn ps (w.extractLsb' 0 22))
  | 0x26 => some (.wfi k pn ps (w.extractLsb' 0 22))
  | 0x27 => some (.fence k pn ps (w.extractLsb' 0 22))
  | 0x28 => some (.tripreq k pn ps (w.extractLsb' 17 5) (w.extractLsb' 0 17))
  | 0x29 =>
    match (w.extractLsb' 15 2).toNat with
    | 0 => some (.flagOr k pn ps (w.extractLsb' 17 5) (w.extractLsb' 5 10) (w.extractLsb' 0 5))
    | 1 => some (.flagAndn k pn ps (w.extractLsb' 17 5) (w.extractLsb' 5 10) (w.extractLsb' 0 5))
    | 2 => some (.flagMov k pn ps (w.extractLsb' 17 5) (w.extractLsb' 5 10) (w.extractLsb' 0 5))
    | _ => some (.flagBit k pn ps (w.extractLsb' 17 5) (w.extractLsb' 5 10) (w.extractLsb' 0 5))
  | 0x2A => some (.evt k pn ps (w.extractLsb' 17 5) (w.extractLsb' 12 5) (w.extractLsb' 0 12))
  | 0x2B =>
    match (w.extractLsb' 15 2).toNat with
    | 0 => some (.xchPub k pn ps (w.extractLsb' 17 5) (w.extractLsb' 9 6) (w.extractLsb' 5 4) (w.getLsbD 4) (w.extractLsb' 0 4))
    | 1 => some (.xchRd k pn ps (w.extractLsb' 17 5) (w.extractLsb' 9 6) (w.extractLsb' 5 4) (w.getLsbD 4) (w.extractLsb' 0 4))
    | _ => some (.xchTag k pn ps (w.extractLsb' 17 5) (w.extractLsb' 9 6) (w.extractLsb' 5 4) (w.getLsbD 4) (w.extractLsb' 0 4))
  | 0x2C => some (.limg k pn ps (w.extractLsb' 17 5) (w.getLsbD 16) (w.extractLsb' 12 4) (w.extractLsb' 0 12))
  | 0x2D =>
    match (w.extractLsb' 10 2).toNat with
    | 0 => some (.ltmrStep k pn ps (w.extractLsb' 17 5) (w.extractLsb' 12 5) (w.extractLsb' 0 10))
    | 1 => some (.ltmrReset k pn ps (w.extractLsb' 17 5) (w.extractLsb' 12 5) (w.extractLsb' 0 10))
    | _ => some (.ltmrRead k pn ps (w.extractLsb' 17 5) (w.extractLsb' 12 5) (w.extractLsb' 0 10))
  | 0x2E => some (.ledg k pn ps (w.extractLsb' 17 5) (w.extractLsb' 12 5) (w.extractLsb' 0 12))
  | 0x2F => some (.wturn k pn ps (w.extractLsb' 0 22))
  | 0x30 => some (.br k pn ps (w.extractLsb' 0 22))
  | 0x31 => some (.loop k pn ps (w.extractLsb' 12 10) (w.extractLsb' 0 12))
  | 0x32 => some (.jt k pn ps (w.extractLsb' 17 5) (w.extractLsb' 9 8) (w.extractLsb' 0 9))
  | 0x33 => some (.call k pn ps (w.extractLsb' 17 5) (w.extractLsb' 0 17))
  | 0x34 => some (.ret k pn ps (w.extractLsb' 0 22))
  | 0x35 => some (.wtick k pn ps (w.extractLsb' 0 22))
  | 0x38 => some (.lds k pn ps (w.extractLsb' 17 5) (w.extractLsb' 13 4) (w.getLsbD 12) (w.extractLsb' 9 3) (w.getLsbD 8) (w.extractLsb' 0 8))
  | 0x39 => some (.phs k pn ps (w.extractLsb' 17 5) (w.extractLsb' 13 4) (w.extractLsb' 10 3) (w.getLsbD 9) (w.extractLsb' 7 2) (w.extractLsb' 0 7))
  | 0x3A => some (.seq k pn ps (w.getLsbD 21) (w.extractLsb' 17 4) (w.extractLsb' 13 4) (w.extractLsb' 11 2) (w.extractLsb' 0 11))
  | 0x3B => some (.frq k pn ps (w.extractLsb' 17 5) (w.extractLsb' 14 3) (w.extractLsb' 0 14))
  | 0x3C =>
    match (w.extractLsb' 5 2).toNat with
    | 0 => some (.crvStep k pn ps (w.extractLsb' 17 5) (w.extractLsb' 12 5) (w.extractLsb' 7 5) (w.extractLsb' 0 5))
    | 1 => some (.crvReset k pn ps (w.extractLsb' 17 5) (w.extractLsb' 12 5) (w.extractLsb' 7 5) (w.extractLsb' 0 5))
    | _ => some (.crvRead k pn ps (w.extractLsb' 17 5) (w.extractLsb' 12 5) (w.extractLsb' 7 5) (w.extractLsb' 0 5))
  | 0x3D =>
    match (w.extractLsb' 4 2).toNat with
    | 0 => some (.cmphEval k pn ps (w.extractLsb' 17 5) (w.extractLsb' 12 5) (w.extractLsb' 6 6) (w.extractLsb' 0 4))
    | 1 => some (.cmphReset k pn ps (w.extractLsb' 17 5) (w.extractLsb' 12 5) (w.extractLsb' 6 6) (w.extractLsb' 0 4))
    | _ => some (.cmphRead k pn ps (w.extractLsb' 17 5) (w.extractLsb' 12 5) (w.extractLsb' 6 6) (w.extractLsb' 0 4))
  | 0x3E =>
    match (w.extractLsb' 4 2).toNat with
    | 0 => some (.tmrStep k pn ps (w.extractLsb' 17 5) (w.extractLsb' 12 5) (w.extractLsb' 6 6) (w.extractLsb' 0 4))
    | 1 => some (.tmrReset k pn ps (w.extractLsb' 17 5) (w.extractLsb' 12 5) (w.extractLsb' 6 6) (w.extractLsb' 0 4))
    | _ => some (.tmrRead k pn ps (w.extractLsb' 17 5) (w.extractLsb' 12 5) (w.extractLsb' 6 6) (w.extractLsb' 0 4))
  | _ => none

/-- The instruction that a core executes when it fetches a word; none where the word is not legal on its profile and raises ILLEGAL or
PROFILE in place of executing (R158, R192). -/
def walsoDecode (k : CoreId) (w : Word) : Option Instr :=
  if wCause k.prof w = none then walsoLegal k w else none

end Sys2Proof
end

