-- ==== Sys2Proof/Machine/UnitsLathe.lean ====
section
/-!
DEFINITION. Hidden state of the Lathe (chapter 09) and what it keeps of its images.
-/
namespace Sys2Proof

/-- A station of an image (R307): its GOOSE entries, receive map entries and transmit map entries. -/
structure Station where
  goose : List Nat
  rx : List Nat
  tx : List Nat
  deriving DecidableEq, Repr, Inhabited

/-- A CAN map entry (R291, R294, R307): controller, object, and the time-to-live in ms of a receive entry. -/
structure CanMap where
  ctl : Nat
  obj : Nat
  ttl : Nat
  deriving DecidableEq, Repr, Inhabited

/-- The station table, CAN maps and safe section of an LTH image: masks and values of output words 0 to 2 (R298). -/
structure LthTables where
  bytes : Nat
  stations : List Station
  rx : List CanMap
  tx : List CanMap
  safeMask : List Word
  safeVal : List Word
  deriving DecidableEq, Repr, Inhabited

/-- A carry table entry (R310): symbol, kind (1 DATA, 2 TIMER, 3 EDGE), type, location, length. -/
structure Carry where
  sym : Nat
  kind : Nat
  typ : Nat
  loc : Nat
  len : Nat
  deriving DecidableEq, Repr

/-- A timer table entry (R310): mode, RETAIN, presets in µs. -/
structure LTmrCfg where
  mode : Nat
  retain : Bool
  pOn : Nat
  pOff : Nat
  deriving DecidableEq, Repr

/-- A validated LTH image as the device keeps it (R180, R310, R311): data sections as offset and words. -/
structure LImage where
  ver : Nat
  turnP : Nat
  codeWords : Nat
  entry : Nat
  wcet : Nat
  pages : Nat
  digest : Bytes
  claims : List Nat
  secs : List (Nat × List Word)
  carry : List Carry
  timers : List LTmrCfg
  edges : Nat
  tables : LthTables
  deriving DecidableEq, Repr

/-- A Lathe timer (R302): input, output, and on and off counts in counter periods. -/
structure LTmr where
  inp : Bool
  out : Bool
  on : Nat
  off : Nat
  deriving DecidableEq, Repr

/-- An edge memory (R303): the INIT mark and the memory. -/
structure EdgeMem where
  fresh : Bool
  m : Bool
  deriving DecidableEq, Repr

/-- The phase of a turn (R290, R296). -/
inductive LPhase where
  | none | latched | program | skipped | past
  deriving DecidableEq, Repr

/-- A flush (R305): its copy (0 A, 1 B), the half, RET_PAGES and digest of the image it belongs to, the turn with its sequence number,
second and epoch, and its pages. -/
structure Flush where
  copy : Nat
  half : Nat
  ret : Nat
  digest : Bytes
  turn : Nat
  seq : Nat
  sec : Nat
  epoch : Nat
  pages : Nat
  deriving DecidableEq, Repr

/-- The Lathe: the phase of the turn, whether a turn has run since the start, the count of ticks run at which the next turn may
start, the turn number, whether the next turn is skipped (R296), PREV_OVR and the other flags of input word 3 waiting for a
latch, the elapsed count of the last latch, the tick and second of the turn's start; images by half, a validation in
progress, the tick on the running scale an ARM names, the turn of the last switch, the claims kept for the old image (R46); timers, edge memories
(key half × 4096 + number) and the status of timers stepped in the turn; dirty retained pages of this turn and the turn
before as bit sets, how many flushes still write every page, copies to rewrite whole, S0 of R304, the flush in progress and
the one that waits, with the pages that a copy still lacks because a waiting flush into it gave way to a later one (R306); the instant of the
last firing that aligns the turns (R289); station quality by station and the elapsed count, plus one, of each failure (R308) and of the start; pages dirty for
the pair (R538). -/
structure LatheU where
  phase : LPhase
  ran : Bool
  nextRun : Nat
  turn : Nat
  skip : Bool
  flags : Nat
  lastLatch : Option Nat
  startSec : Nat
  startIdx : Nat
  startEpoch : Nat
  imgs : SMap (Option LImage)
  loading : Bool
  loadBase : Nat
  armIdx : Option Nat
  swTurn : Nat
  oldClaims : List Nat
  timers : SMap LTmr
  edges : SMap EdgeMem
  tmrSt : SMap Nat
  dirty : Nat
  dirtyPrev : Nat
  flushAll : Nat
  rewrite : Nat
  seq0 : Nat
  flush : Option Flush
  waiting : Option Flush
  owed : SMap Nat
  alignAt : Option Nat
  quality : SMap Nat
  failAt : SMap Nat
  startAt : Nat
  pdirty : Nat
  deriving DecidableEq, Repr

def LTmr.init : LTmr := { inp := false, out := false, on := 0, off := 0 }
def EdgeMem.init : EdgeMem := { fresh := true, m := false }

def LatheU.init : LatheU :=
  { phase := .none, ran := false, nextRun := 0, turn := 0, skip := false, flags := 0, lastLatch := none, startSec := 0, startIdx := 0,
    startEpoch := 0, imgs := [], loading := false, loadBase := 0, armIdx := none, swTurn := 0, oldClaims := [], timers := [], edges := [],
    tmrSt := [], dirty := 0, dirtyPrev := 0, flushAll := 0, rewrite := 0, seq0 := 0, flush := none, waiting := none, owed := [], alignAt := none, quality := [],
    failAt := [], startAt := 0, pdirty := 0 }

end Sys2Proof
end

