-- ==== Sys2Proof/Machine/UnitsRec.lean ====
section
/-!
DEFINITION. Hidden state of the recorders, the wideband SRAM copies, the Blaze sequencers and the gauges (chapter 10).
-/
namespace Sys2Proof

/-- What a frame takes at its tick's start (R324): the count of ticks run, the tick, epoch, time quality, whether it is the
first after a time step, field states and energised lines. -/
structure TickSnap where
  no : Nat
  sec : Nat
  idx : Nat
  epoch : Nat
  tq : Nat
  step : Bool
  fio : List Word
  deriving DecidableEq, Repr

/-- A record not yet closed (R330 to R338): ID, number of its first frame and the first number after its window, its segments, the
number of the frame in slot 0 of the first of them and its SEG_FRAMES, retriggers, close flags, WB copies still to end and WB
segments held, both as (cluster, segment), and whether a header write of its failed, so that it stays unclosed (R327). Frames are numbered
from 0 at the start of the instance, failed ones included. -/
structure RecRec where
  id : Nat
  start : Nat
  stop : Nat
  chain : List Nat
  segOrd : Nat
  sf : Nat
  retrig : Nat
  flags : Nat
  wbWait : List (Nat × Nat)
  wbHeld : List (Nat × Nat)
  unclosed : Bool
  deriving DecidableEq, Repr

/-- A recorder instance: use of its segments (0 free, 1 ring, 2 record, 3 WB, 4 reserved), the ring segment with its OPEN_SEQ (none
while a window is open and between its end and the next frame), the number of the frame in slot 0 of the segment now written, the
next OPEN_SEQ, the count of ticks run of the next frame's tick, the next frame's number, the tick of the last frame, GAP for the
next frame, a pending stop with the count of ticks run when it was asked for, and whether a start waits behind it (R361), whether the ring's
header write failed, numbers of frames that failed, of those with GAP and of those with STEP, marks for frames not yet written, counts of ticks run whose
frame carries GAUGE, the record with an open window, records that wait for their close, and closed records as (ID, segments). -/
structure RecU where
  use : SMap Nat
  ring : Option Nat
  ringSeq : Nat
  segOrd : Nat
  openSeq : Nat
  next : Nat
  ord : Nat
  lastTick : Nat
  gap : Bool
  stopReq : Bool
  stopAt : Nat
  again : Bool
  ringBad : Bool
  fails : List Nat
  gaps : List Nat
  steps : List Nat
  marks : List (Nat × Nat)
  gaugeAt : List Nat
  cur : Option RecRec
  recs : List RecRec
  held : List (Nat × List Nat)
  deriving DecidableEq, Repr

/-- The wideband SRAM of a cluster (R342): whether it is frozen, with the time and time quality of its newest sample (R343); and the freeze
wanted or the copy in progress: instance, record ID, segment and the number of the first WB sample no longer written. -/
structure WbU where
  frozen : Bool
  at_ : Stamp
  tq : Nat
  copy : Option (Nat × Nat × Nat × Nat)
  deriving DecidableEq, Repr

/-- A gauge slot (R356): the run of violations; actions due as (event time in ns, its epoch, count of ticks run of its tick); flag events so
far, and the time in ns and epoch of the last. -/
structure GaugeU where
  run : Nat
  due : List (Nat × Nat × Nat)
  events : Nat
  at_ : Nat
  ep : Nat
  deriving DecidableEq, Repr

/-- A Blaze sequencer (R345 to R352): the number of the next step, what each predicate has seen, timers as (start, end) in ns by number, and signals received as (sender, step, instant, epoch). -/
structure BlzU where
  step : Nat
  seen : SMap Nat
  tmr : SMap (Option (Nat × Nat))
  inbox : List (Nat × Nat × Nat × Nat)
  deriving DecidableEq, Repr

/-- What the text of a COMTRADE file is made from (R358, R359): the file type, the channels in frame order, the factor a as a multiple of
244.140625 nV and the scale of the request in binary32 (b is 0), each channel's skew in ns, the first sample's tag less G_B and the trigger
instant, both in ns UTC, the time quality of each frame, the numbers of the samples that open a new time scale with their tags in ns,
and each sample's values, none for missing data, with its 112 status channels. The sampling rate is 14 400 Hz. -/
structure ComInfo where
  kind : Nat
  chans : List Nat
  mult : Nat
  scale : Word
  skew : List Int
  start : Int
  trigger : Int
  quality : List Nat
  steps : List (Nat × Nat)
  rows : List (List (Option Int) × List Word)
  deriving DecidableEq, Repr

def RecU.init : RecU :=
  { use := [], ring := none, ringSeq := 0, segOrd := 0, openSeq := 1, next := 0, ord := 0, lastTick := 0, gap := false,
    stopReq := false, stopAt := 0, again := false, ringBad := false, fails := [], gaps := [], steps := [], marks := [], gaugeAt := [], cur := none, recs := [], held := [] }
def WbU.init : WbU := { frozen := false, at_ := { sec := 0, ns := 0, epoch := 0 }, tq := 0, copy := none }
def GaugeU.init : GaugeU := { run := 0, due := [], events := 0, at_ := 0, ep := 0 }
def BlzU.init : BlzU := { step := 0, seen := [], tmr := [], inbox := [] }

end Sys2Proof
end

