-- ==== Sys2Proof/Config.lean ====
section
/-!
DEFINITION. Free values: what the manual leaves to OTP contents, to a hardware random source, to an analogue circuit or
to data that never arrived. Nothing can evaluate them, so a statement that holds does so for every value. Each is named in
the assumption log.
-/
namespace Sys2Proof.Config

/-- The modulator bit that stands in for one lost with a discarded frame (R17 gives it no value): lane, period, path. -/
opaque lostBit : Nat → Nat → Bool → Bool

/-- The hardware random source of R385, drawn number by draw number. -/
opaque randomWord : Nat → Word

/-- The slot the erase front has reached when the writer looks (R387 gives the order and an upper bound of its time only): draw. -/
opaque eraseFront : Nat → Nat

/-- Clear key k of OTP, as its 32 bytes (R385): provisioned per device, not given by the manual. -/
opaque clearKey : Nat → Bytes

/-- Whether the OTP record of a channel's trims fails its CRC (R94): a matter of the single device. -/
opaque otpTrimBad : Nat → Bool

/-- The memory error that the counter period n brings, if any (R165): the cluster, the key of the word, and whether it stands in two
bits. -/
opaque upset : Nat → Option (Fin 16 × Nat × Bool)

/-- A calibration error whose denominator is 0 (R98 divides by a sum that can be 0): numerator and factor. -/
opaque zeroQuotient : Int → Int → Int

/-- What a read of a FIFO head register returns while the FIFO is empty: register address and draw. -/
opaque emptyHead : Nat → Nat → Word

/-- The cause a CAN_CFG_DENY record carries where R492 lists none that fits: controller and write offset. -/
opaque canDenyCause : Nat → Nat → Nat

/-- REC after a reception while it stood above 127: ISO 11898-1 allows any value from 119 to 127 (R487). The draw is
taken modulo 9. -/
opaque canRecBack : Nat → Nat

/-- Whether a cancel written as a plain register write reaches the controller at or after the sample point of the SOF
(R483): draw. -/
opaque canSofPassed : Nat → Bool

/-- Whether another node's frame is on the bus: controller and elapsed count (R474, R490). -/
opaque canBusy : Nat → Nat → Bool

/-- Sequences of 11 recessive bits seen on the bus since recovery began: controller and elapsed count (R488). -/
opaque canRuns : Nat → Nat → Nat

/-- The root key hash in OTP slot 0 to 3; none for an empty or a revoked slot (R596): provisioned per device. -/
opaque rootKeyHash : Nat → Option Bytes

/-- The station table, CAN maps and safe section of an LTH image, from the bytes behind its timer table: chapter 09 names
these parts and their content, not their coding. -/
opaque lthTables : Bytes → LthTables

/-- The DETAIL that reason 0x24 of R311 shows: "table and index", whose coding the manual does not give. -/
opaque lthTableDetail : Nat → Nat → Nat

/-- The device's own MAC address: the manual gives none. -/
opaque ownMac : Nat

/-- The last octet of the PRP supervision multicast address (IEC 62439-3 leaves it to configuration). -/
opaque prpSupOctet : Byte

/-- The time-quality octet of a GOOSE t field, by time quality (R457 names the field, not its coding). -/
opaque gooseTimeQuality : Nat → Byte

/-- The cause an ETH_CFG_DENY record carries where R470 lists none that fits: write offset. -/
opaque ethDenyCause : Nat → Nat

/-- A value scaled by a binary32 factor that is not finite (R447, R450 state none): value and factor. -/
opaque svScale : Int → Word → Int

/-- What the table port reads where no table word lies: ETH_TBL_SEL. -/
opaque tblWord : Word → Word

/-- How far the delivered curve increment lies from the exactly rounded one (R234 allows at most 1): 0 below, 1 equal, 2
above; by curve, TMS word and multiple. -/
opaque crvError : Nat → Word → Word → Fin 3

/-- Text of a COMTRADE file that IEEE C37.111-2013 leaves to who writes it, or whose coding R358 and R359 do not give (log entry 88): 0
station and device; 1 channel identifiers, phase, circuit component and unit of a channel; 2 its range and ratio fields; 3 the fields of a
status channel; 4 line frequency; 5 local time code; 6 time quality and leap second codes, by the time qualities of the frames; 7 the ASCII
representation of missing data; 8 a factor whose scale is not a number; 9 the text of the header file. -/
opaque comField : Nat → List Nat → Bytes

/-- How far the field die's own oscillator has carried its counter away, in ns, since the counter was last reckoned in a silence (R512
bounds it by 200 ppm and states no value): draw. -/
opaque fieldDrift : Nat → Int

/-- A bank's VFIELD in mV as the field die measures it every 100 µs (R510): draw. -/
opaque bankVolt : Nat → BitVec 16

/-- The channels whose current limit still acts, of those where it did (R508 says when it begins to count, not when it ends): draw. -/
opaque limitOn : Nat → BitVec 48

/-- A temperature reading in 1/128 °C, of region 0 to 3 or AFE die 0 or 1 (4 and 5), by the millisecond it is taken in (R590). -/
opaque temp : Nat → Nat → BitVec 16

/-- VIN and VHOLD in mV as PWR_VMON shows them, by the 100 µs they are taken in (R604). -/
opaque vin : Nat → BitVec 16
opaque vhold : Nat → BitVec 16

/-- VKEEP in mV (R604 gives PWR_KEEP no refresh): elapsed count. -/
opaque vkeep : Nat → BitVec 16

/-- SYS_PART.EXT: which ordering code the part has (R626). -/
opaque partExt : Bool

/-- The small parameter of a THERMAL record for AFE die 0 or 1: R606 says "Region". -/
opaque thermSource : Nat → Nat

/-- The reason a BOOT_IMAGE_FAIL record carries where R182, R311 and R601 name none: 65536 × directory entry + number of the CFG
write its register refused; from 2^24 on the number among the writes step 5 makes. -/
opaque cfgFailReason : Nat → Nat

/-- What a byte address of a supervisor core's programs names, as (kind, offset): kind 1 the core's instruction memory, 2 its data
memory, 3 shared memory, 4 a direct register, 5 the Lathe's committed output words, anything else nothing. R157 gives the sizes; no rule gives the map. -/
opaque supPlace : Nat → Nat × Nat

/-- Whether a product 0 × ∞ beside a quiet NaN in one rounded expression sets FSTAT invalid: IEEE 754-2019 leaves it to the
implementation, and R160 names only the standard. -/
opaque zeroInfInvalid : Bool

end Sys2Proof.Config
end

