-- ==== Sys2Proof/Machine/Float.lean ====
section
/-!
DEFINITION. Binary32 as R160 defines it: round to nearest even, subnormal inputs and results as zeros, tininess after
rounding, one canonical NaN, sticky flags. Every operation is computed exactly and rounded once.
-/
namespace Sys2Proof

/-- A binary32 operand: a NaN (signaling or quiet), an infinity, or the exact value ± m × 2^e. -/
inductive Fl where
  | nan (signaling : Bool)
  | inf (neg : Bool)
  | fin (neg : Bool) (m : Nat) (e : Int)
  deriving DecidableEq, Repr

/-- A result and the FSTAT bits it sets: [3] invalid, [2] divide by zero, [1] overflow, [0] underflow (R159). -/
abbrev FRes := Word × BitVec 4

def fNone : BitVec 4 := 0
def fInvalid : BitVec 4 := 8
def fDivZero : BitVec 4 := 4
def fOverflow : BitVec 4 := 2
def fUnderflow : BitVec 4 := 1

/-- The canonical NaN of R160. -/
def fNaN : Word := 0x7FC00000

/-- An infinity and a zero of a sign. -/
def fInf (neg : Bool) : Word := if neg then 0xFF800000 else 0x7F800000
def fZero (neg : Bool) : Word := if neg then 0x80000000 else 0

/-- An operand as R160 reads it: a subnormal is a zero of its sign. -/
def flOf (w : Word) : Fl :=
  let ex := field w 30 23
  let mn := field w 22 0
  let s := bitAt w 31
  if ex = 255 then (if mn = 0 then .inf s else .nan (!bitAt w 22))
  else if ex = 0 then .fin s 0 0
  else .fin s (8388608 + mn) ((ex : Int) - 150)

/-- Round the magnitude m × 2^e (m > 0), or one strictly between m and m + 1 times 2^e when `more` is set, to binary32.
m has at least 25 bits when `more` is set. -/
def roundBits (neg : Bool) (m : Nat) (e : Int) (more : Bool) : FRes :=
  let sh := Nat.log2 m
  let (q, up, e') :=
    if sh ≤ 23 then (m * 2 ^ (23 - sh), false, e - ((23 - sh : Nat) : Int))
    else
      let d := sh - 23
      let q := m / 2 ^ d
      let r := m % 2 ^ d
      let h := 2 ^ (d - 1)
      (q, decide (h < r) || (decide (r = h) && (more || q % 2 = 1)), e + (d : Int))
  let q' := if up then q + 1 else q
  let (q'', e'') := if q' = 16777216 then (8388608, e' + 1) else (q', e')
  let ex := e'' + 150
  if 255 ≤ ex then (fInf neg, fOverflow)
  else if ex ≤ 0 then (fZero neg, fUnderflow)
  else (w32 ((if neg then 2147483648 else 0) + ex.toNat * 8388608 + (q'' - 8388608)), fNone)

/-- Round ± num / den to binary32 (den > 0). -/
def roundRat (neg : Bool) (num den : Nat) : FRes :=
  if num = 0 then (fZero neg, fNone)
  else
    let k := 30 + Nat.log2 den - Nat.log2 num
    let n := num * 2 ^ k
    roundBits neg (n / den) (-(k : Int)) (decide (n % den ≠ 0))

/-- The largest integer whose square is at most n: a bit-by-bit search from bit b down. -/
def sqrtBits : Nat → Nat → Nat → Nat
  | 0, _, acc => acc
  | b + 1, n, acc => if (acc + 2 ^ b) * (acc + 2 ^ b) ≤ n then sqrtBits b n (acc + 2 ^ b) else sqrtBits b n acc

/-- Integer square root, rounded down. -/
def natSqrt (n : Nat) : Nat := sqrtBits (Nat.log2 n / 2 + 1) n 0

/-- Round ± √(num / den) to binary32 (den > 0). -/
def roundSqrt (neg : Bool) (num den : Nat) : FRes :=
  if num = 0 then (fZero neg, fNone)
  else
    let k := 32 + (Nat.log2 den - Nat.log2 num) / 2 + 1
    let n := num * 2 ^ (2 * k)
    let r := natSqrt (n / den)
    roundBits neg r (-(k : Int)) (decide (r * r * den ≠ n))

/-- A dyadic value i × 2^e of a finite operand. -/
def flSigned (neg : Bool) (m : Nat) : Int := if neg then -(m : Int) else (m : Int)

/-- Round i × 2^e. A zero takes the sign given. -/
def roundDyadic (zeroNeg : Bool) (i : Int) (e : Int) : FRes :=
  if i = 0 then (fZero zeroNeg, fNone) else roundBits (decide (i < 0)) i.natAbs e false

/-- Exact product of two operands, and whether it is the invalid 0 × ∞. -/
def flMul : Fl → Fl → Fl × Bool
  | .nan a, .nan b => (.nan (a || b), false)
  | .nan a, _ => (.nan a, false)
  | _, .nan b => (.nan b, false)
  | .inf s, .inf t => (.inf (s != t), false)
  | .inf s, .fin t m _ => if m = 0 then (.nan false, true) else (.inf (s != t), false)
  | .fin s m _, .inf t => if m = 0 then (.nan false, true) else (.inf (s != t), false)
  | .fin s m e, .fin t n f => (.fin (s != t) (m * n) (e + f), false)

def Fl.negate : Fl → Fl
  | .nan a => .nan a
  | .inf s => .inf (!s)
  | .fin s m e => .fin (!s) m e

def Fl.isNan : Fl → Bool
  | .nan _ => true
  | _ => false

def Fl.signaling : Fl → Bool
  | .nan b => b
  | _ => false

def Fl.isNeg : Fl → Bool
  | .nan _ => false
  | .inf s => s
  | .fin s _ _ => s

def Fl.isZero : Fl → Bool
  | .fin _ m _ => m = 0
  | _ => false

def Fl.isInf : Fl → Bool
  | .inf _ => true
  | _ => false

/-- The least exponent among finite terms. -/
def minExp : List Fl → Int
  | [] => 0
  | [.fin _ _ e] => e
  | .fin _ m e :: ts => if m = 0 then minExp ts else if e < minExp ts then e else minExp ts
  | _ :: ts => minExp ts

/-- The exact sum of finite terms in units of 2^e, e at most every term's exponent. -/
def sumAt (e : Int) : List Fl → Int
  | [] => 0
  | .fin s m f :: ts => flSigned s m * ((2 ^ (f - e).toNat : Nat) : Int) + sumAt e ts
  | _ :: ts => sumAt e ts

/-- The exact sum of terms, rounded once (R204); `bad` counts the invalid products among them. Beside a quiet NaN, IEEE
754-2019 leaves open whether such a product signals invalid. -/
def sumRound (ts : List Fl) (bad : Nat) : FRes :=
  if ts.any Fl.isNan then
    let others := decide (bad < (ts.filter Fl.isNan).length)
    (fNaN, if ts.any Fl.signaling || (decide (0 < bad) && (!others || Config.zeroInfInvalid)) then fInvalid else fNone)
  else if ts.any (fun t => t.isInf && t.isNeg) && ts.any (fun t => t.isInf && !t.isNeg) then (fNaN, fInvalid)
  else if ts.any Fl.isInf then (fInf (ts.any (fun t => t.isInf && t.isNeg)), fNone)
  else
    let e := (ts.filter (fun t => !t.isZero)).foldl (fun (a : Int) t => match t with
      | .fin _ _ f => if f < a then f else a
      | _ => a) 10000
    roundDyadic (ts.all (fun t => t.isZero && t.isNeg)) (sumAt e (ts.filter (fun t => !t.isZero))) e

/-- A sum of products, rounded once. -/
def dotRound (prods : List (Fl × Fl)) (adds : List Fl) : FRes :=
  let ps := prods.map (fun p => flMul p.1 p.2)
  sumRound (adds ++ ps.map (·.1)) (ps.filter (·.2)).length

/-! ### The operations of R197 to R199 -/

def fAdd (a b : Word) : FRes := sumRound [flOf a, flOf b] 0
def fSub (a b : Word) : FRes := sumRound [flOf a, (flOf b).negate] 0
def fMul (a b : Word) : FRes := dotRound [(flOf a, flOf b)] []

def fDiv (a b : Word) : FRes :=
  match flOf a, flOf b with
  | .nan x, .nan y => (fNaN, if x || y then fInvalid else fNone)
  | .nan x, _ => (fNaN, if x then fInvalid else fNone)
  | _, .nan y => (fNaN, if y then fInvalid else fNone)
  | .inf _, .inf _ => (fNaN, fInvalid)
  | .inf s, .fin t _ _ => (fInf (s != t), fNone)
  | .fin s _ _, .inf t => (fZero (s != t), fNone)
  | .fin s m e, .fin t n f =>
    if n = 0 then (if m = 0 then (fNaN, fInvalid) else (fInf (s != t), fDivZero))
    else if m = 0 then (fZero (s != t), fNone)
    else roundRat (s != t) (m * 2 ^ (e - f).toNat) (n * 2 ^ (f - e).toNat)

def fSqrt (a : Word) : FRes :=
  match flOf a with
  | .nan x => (fNaN, if x then fInvalid else fNone)
  | .inf s => if s then (fNaN, fInvalid) else (fInf false, fNone)
  | .fin s m e =>
    if m = 0 then (fZero s, fNone)
    else if s then (fNaN, fInvalid)
    else roundSqrt false (m * 2 ^ e.toNat) (2 ^ (-e).toNat)

/-- A binary32 word as an operand delivers it: subnormals as zeros, NaN canonical. -/
def flush (a : Word) : Word :=
  match flOf a with
  | .nan _ => fNaN
  | .inf s => fInf s
  | .fin s m _ => if m = 0 then fZero s else a

/-- Order of two operands that are no NaN; `lt` is strict and puts −0 below +0 when `signed` is set. -/
def flLt (signed : Bool) : Fl → Fl → Bool
  | .nan _, _ => false
  | _, .nan _ => false
  | .inf s, .inf t => s && !t
  | .inf s, .fin _ _ _ => s
  | .fin _ _ _, .inf t => !t
  | .fin s m e, .fin t n f =>
    let a := flSigned s (m * 2 ^ (e - f).toNat)
    let b := flSigned t (n * 2 ^ (f - e).toNat)
    decide (a < b) || (signed && m = 0 && n = 0 && s && !t)

def flEq (a b : Fl) : Bool := !a.isNan && !b.isNan && !flLt false a b && !flLt false b a

/-- FMIN and FMAX (R197). -/
def fMinMax (max : Bool) (a b : Word) : FRes :=
  let x := flOf a
  let y := flOf b
  let sig := if x.signaling || y.signaling then fInvalid else fNone
  if x.isNan && y.isNan then (fNaN, fInvalid)
  else if x.isNan then (flush b, sig)
  else if y.isNan then (flush a, sig)
  else if flLt true x y != max then (flush a, fNone) else (flush b, fNone)

/-- FCVTI: toward zero, saturating; a NaN gives 0 (R160, R197). -/
def fToInt (a : Word) : FRes :=
  match flOf a with
  | .nan _ => (0, fInvalid)
  | .inf s => (if s then 0x80000000 else 0x7FFFFFFF, fInvalid)
  | .fin s m e =>
    let v := m * 2 ^ e.toNat / 2 ^ (-e).toNat
    if s then (if 2147483648 < v then (0x80000000, fInvalid) else (wInt (-(v : Int)), fNone))
    else if 2147483647 < v then (0x7FFFFFFF, fInvalid) else (w32 v, fNone)

/-- An integer to binary32, rounded. -/
def fOfInt (i : Int) : Word := (roundDyadic false i 0).1

/-- FMADD and its variants: ±(a × b) ± c, computed exactly and rounded once (R199). -/
def fFma (negProd negAdd : Bool) (a b c : Word) : FRes :=
  let x := if negProd then (flOf a).negate else flOf a
  dotRound [(x, flOf b)] [if negAdd then (flOf c).negate else flOf c]

/-! ### Complex values -/

/-- A complex value: (re, im), each binary32. -/
abbrev Cx := Word × Word

/-- A component with its flags joined to others. -/
def fJoin (a b : FRes) : Cx × BitVec 4 := ((a.1, b.1), a.2 ||| b.2)

def cAdd (a b : Cx) : Cx × BitVec 4 := fJoin (fAdd a.1 b.1) (fAdd a.2 b.2)
def cSub (a b : Cx) : Cx × BitVec 4 := fJoin (fSub a.1 b.1) (fSub a.2 b.2)

/-- d + a × b, or d + a × conj b, each component rounded once (R204); without d the product alone. -/
def cMac (conj : Bool) (d : Option Cx) (a b : Cx) : Cx × BitVec 4 :=
  let ar := flOf a.1
  let ai := flOf a.2
  let br := flOf b.1
  let bi := if conj then (flOf b.2).negate else flOf b.2
  let dr := match d with
    | some x => [flOf x.1]
    | none => []
  let di := match d with
    | some x => [flOf x.2]
    | none => []
  fJoin (dotRound [(ar, br), (ai.negate, bi)] dr) (dotRound [(ar, bi), (ai, br)] di)

def cScl (a : Cx) (g : Word) : Cx × BitVec 4 := fJoin (fMul a.1 g) (fMul a.2 g)

/-- |z|, correctly rounded without intermediate overflow or underflow (R205). -/
def cMag (a : Cx) : FRes :=
  match flOf a.1, flOf a.2 with
  | .nan _, _ => (fNaN, fInvalid)
  | _, .nan _ => (fNaN, fInvalid)
  | .inf _, _ => (fInf false, fNone)
  | _, .inf _ => (fInf false, fNone)
  | .fin _ m e, .fin _ n f =>
    let g := if m = 0 then f else if n = 0 then e else if e < f then e else f
    let x := (if m = 0 then 0 else m * 2 ^ (e - g).toNat)
    let y := (if n = 0 then 0 else n * 2 ^ (f - g).toNat)
    let sq := x * x + y * y
    roundSqrt false (sq * 2 ^ (2 * g).toNat) (2 ^ (-(2 * g)).toNat)

/-! ### The angle -/

/-- Fraction bits of the fixed-point angle computation. -/
def angBits : Nat := 320

/-- atan of t / 2^320 for 0 ≤ t ≤ 0.42 × 2^320 by its alternating series, k terms from term n: pow is t^(2n+1). -/
def atanSeries (t2 : Nat) : Nat → Nat → Nat → Int
  | 0, _, _ => 0
  | k + 1, n, pow =>
    let term : Int := pow / (2 * n + 1)
    let rest := atanSeries t2 k (n + 1) (pow * t2 / 2 ^ angBits)
    (if n % 2 = 0 then term else -term) + rest

/-- atan of a value t / 2^320 ≤ 0.42. -/
def atanSmall (t : Nat) : Int := atanSeries (t * t / 2 ^ angBits) 140 0 t

/-- π in 2^-320: 16 atan(1/5) − 4 atan(1/239). -/
def piFix : Int := 16 * atanSmall (2 ^ angBits / 5) - 4 * atanSmall (2 ^ angBits / 239)

/-- atan(y / x) for 0 < y ≤ x, in 2^-320. -/
def atanFix (y x : Nat) : Int :=
  if 5 * y ≤ 2 * x then atanSmall (y * 2 ^ angBits / x)
  else piFix / 4 - atanSmall ((x - y) * 2 ^ angBits / (x + y))

/-- π correctly rounded (R205). -/
def fPi : Word := 0x40490FDB

/-- A positive angle in 2^-320 as binary32 of a sign. -/
def angRound (neg : Bool) (a : Int) : FRes := roundBits neg a.toNat (-(angBits : Int)) true

/-- The angle of y / x for finite parts, y ≠ 0, x ≠ 0, as magnitudes on a common scale: correctly rounded. A ratio below
2^-60 has atan(t) between t and t × (1 − 2^-100), which rounds as the latter does. -/
def angFinite (xneg yneg : Bool) (x y : Nat) : FRes :=
  if y ≤ x then
    if y * 2 ^ 60 < x then
      if xneg then angRound yneg (piFix - 1) else roundRat yneg (y * (2 ^ 100 - 1)) (x * 2 ^ 100)
    else
      let a := atanFix y x
      angRound yneg (if xneg then piFix - a else a)
  else
    let a := if x * 2 ^ 60 < y then 1 else atanFix x y
    angRound yneg (if xneg then piFix / 2 + a else piFix / 2 - a)

/-- arg z in (−π, π], correctly rounded, with the special cases of R205. -/
def cArg (a : Cx) : FRes :=
  match flOf a.1, flOf a.2 with
  | .nan _, _ => (fNaN, fInvalid)
  | _, .nan _ => (fNaN, fInvalid)
  | .inf s, .inf t =>
    let q := piFix / 4
    angRound t (if s then 3 * q else q)
  | .inf s, .fin t _ _ => (if s then fPi else fZero t, fNone)
  | .fin _ _ _, .inf t => angRound t (piFix / 2)
  | .fin s m e, .fin t n f =>
    if n = 0 then
      if m = 0 then (fZero false, fNone) else (if s then fPi else fZero t, fNone)
    else if m = 0 then angRound t (piFix / 2)
    else angFinite s t (m * 2 ^ (e - f).toNat) (n * 2 ^ (f - e).toNat)

/-! ### Symmetrical components -/

/-- The constants s and c of R213. -/
def seqS : Word := 0x3F5DB3D7
def seqC : Word := 0x3EAAAAAB
def fHalf : Word := 0x3F000000

/-- a × X (sq = false) or a² × X (sq = true) of R213. -/
def seqRot (sq : Bool) (x : Cx) : Cx × BitVec 4 :=
  let h := (flOf fHalf).negate
  let s := if sq then (flOf seqS).negate else flOf seqS
  fJoin (dotRound [(h, flOf x.1), (s.negate, flOf x.2)] []) (dotRound [(s, flOf x.1), (h, flOf x.2)] [])

/-- A sequence component (R213): k = 0 zero, 1 positive, 2 negative. -/
def seqComp (k : Nat) (a b c : Cx) : Cx × BitVec 4 :=
  let (rb, f1) := if k = 0 then (b, fNone) else seqRot (decide (k = 2)) b
  let (rc, f2) := if k = 0 then (c, fNone) else seqRot (decide (k = 1)) c
  let (u, f3) := cAdd a rb
  let (v, f4) := cAdd u rc
  let (w, f5) := cScl v seqC
  (w, f1 ||| f2 ||| f3 ||| f4 ||| f5)

end Sys2Proof
end

