-- ==== Sys2Proof/Machine/RegAddr.lean ====
section
/-!
DEFINITION. The register addresses of the device, one function per register of the manual. A direct register is keyed
by its byte address (R555); a register or memory word behind the indirect window (R565) by 0x8000_0000 plus its indirect
address. Arguments are the instance numbers in the order of the manual (cluster, lane, instance, index).
-/
namespace Sys2Proof.Reg

/-- CLAIM_TAG (01_hierarchy.md, R47). -/
def CLAIM_TAG : Nat := 0x404
/-- CLAIM_CMD (01_hierarchy.md, R47). -/
def CLAIM_CMD : Nat := 0x400
/-- CLAIM_RESULT (01_hierarchy.md, R47). -/
def CLAIM_RESULT : Nat := 0x408
/-- CLAIM_STAT (01_hierarchy.md, R48). -/
def CLAIM_STAT : Nat := 0x40c
/-- CLAIM_LAST (01_hierarchy.md, R48). -/
def CLAIM_LAST : Nat := 0x410
/-- CLAIM_DENY_CNT (01_hierarchy.md, R48). -/
def CLAIM_DENY_CNT : Nat := 0x414
/-- DLK_STAT (01_hierarchy.md, R48). -/
def DLK_STAT : Nat := 0x420
/-- DLK_ERRCNT_n (01_hierarchy.md, R48). -/
def DLK_ERRCNT (a : Nat) : Nat := 0x440 + 0x4 * a
/-- REG_STAT_n (01_hierarchy.md, R48). -/
def REG_STAT (a : Nat) : Nat := 0x480 + 0x4 * a
/-- TICK_IDX (02_tick.md, R75). -/
def TICK_IDX : Nat := 0x500
/-- TICK_SEC_LO (02_tick.md, R76). -/
def TICK_SEC_LO : Nat := 0x504
/-- TICK_SEC_HI (02_tick.md, R76). -/
def TICK_SEC_HI : Nat := 0x508
/-- OVR_CFG (02_tick.md, R76). -/
def OVR_CFG (a : Nat) : Nat := 0x90000100 + 0x200000 * a
/-- OVR_STAT (02_tick.md, R76). -/
def OVR_STAT (a : Nat) : Nat := 0x90000104 + 0x200000 * a
/-- OVR_CNT (02_tick.md, R76). -/
def OVR_CNT (a : Nat) : Nat := 0x90000108 + 0x200000 * a
/-- CYC_LAST (02_tick.md, R76). -/
def CYC_LAST (a : Nat) : Nat := 0x9000010c + 0x200000 * a
/-- CYC_MAX (02_tick.md, R76). -/
def CYC_MAX (a : Nat) : Nat := 0x90000110 + 0x200000 * a
/-- STC_CTRL (03_stitched_acquisition.md, R106). -/
def STC_CTRL (a : Nat) (b : Nat) : Nat := 0x90050800 + 0x200000 * a + 0x1000 * b
/-- STC_STAT (03_stitched_acquisition.md, R106). -/
def STC_STAT (a : Nat) (b : Nat) : Nat := 0x90050804 + 0x200000 * a + 0x1000 * b
/-- STC_THR_UP (03_stitched_acquisition.md, R106). -/
def STC_THR_UP (a : Nat) (b : Nat) : Nat := 0x90050808 + 0x200000 * a + 0x1000 * b
/-- STC_THR_DN (03_stitched_acquisition.md, R106). -/
def STC_THR_DN (a : Nat) (b : Nat) : Nat := 0x9005080c + 0x200000 * a + 0x1000 * b
/-- TRIM_GC (03_stitched_acquisition.md, R107). -/
def TRIM_GC (a : Nat) (b : Nat) : Nat := 0x90050810 + 0x200000 * a + 0x1000 * b
/-- TRIM_OC (03_stitched_acquisition.md, R107). -/
def TRIM_OC (a : Nat) (b : Nat) : Nat := 0x90050814 + 0x200000 * a + 0x1000 * b
/-- TRIM_GF (03_stitched_acquisition.md, R107). -/
def TRIM_GF (a : Nat) (b : Nat) : Nat := 0x90050818 + 0x200000 * a + 0x1000 * b
/-- TRIM_OF (03_stitched_acquisition.md, R107). -/
def TRIM_OF (a : Nat) (b : Nat) : Nat := 0x9005081c + 0x200000 * a + 0x1000 * b
/-- TRIM_PF (03_stitched_acquisition.md, R107). -/
def TRIM_PF (a : Nat) (b : Nat) : Nat := 0x90050820 + 0x200000 * a + 0x1000 * b
/-- CAL_CFG (03_stitched_acquisition.md, R108). -/
def CAL_CFG (a : Nat) (b : Nat) : Nat := 0x90050850 + 0x200000 * a + 0x1000 * b
/-- CAL_STAT (03_stitched_acquisition.md, R108). -/
def CAL_STAT (a : Nat) (b : Nat) : Nat := 0x90050854 + 0x200000 * a + 0x1000 * b
/-- CAL_RESID (03_stitched_acquisition.md, R108). -/
def CAL_RESID (a : Nat) (b : Nat) : Nat := 0x90050858 + 0x200000 * a + 0x1000 * b
/-- CL_SRC (03_stitched_acquisition.md, R108). -/
def CL_SRC (a : Nat) : Nat := 0x90000200 + 0x200000 * a
/-- AFE_STAT_n (03_stitched_acquisition.md, R108). -/
def AFE_STAT (a : Nat) : Nat := 0x600 + 0x10 * a
/-- AFE_CTRL_n (03_stitched_acquisition.md, R108). -/
def AFE_CTRL (a : Nat) : Nat := 0x604 + 0x10 * a
/-- AFE_FAIL_LO_n (03_stitched_acquisition.md, R108). -/
def AFE_FAIL_LO (a : Nat) : Nat := 0x608 + 0x10 * a
/-- AFE_FAIL_HI_n (03_stitched_acquisition.md, R108). -/
def AFE_FAIL_HI (a : Nat) : Nat := 0x60c + 0x10 * a
/-- LANE_CTRL (04_filter_chain.md, R154). -/
def LANE_CTRL (a : Nat) (b : Nat) : Nat := 0x90050000 + 0x200000 * a + 0x1000 * b
/-- LANE_CFG (04_filter_chain.md, R154). -/
def LANE_CFG (a : Nat) (b : Nat) : Nat := 0x90050004 + 0x200000 * a + 0x1000 * b
/-- LANE_HB (04_filter_chain.md, R154). -/
def LANE_HB (a : Nat) (b : Nat) : Nat := 0x90050008 + 0x200000 * a + 0x1000 * b
/-- LANE_DELAY (04_filter_chain.md, R154). -/
def LANE_DELAY (a : Nat) (b : Nat) : Nat := 0x9005000c + 0x200000 * a + 0x1000 * b
/-- LANE_GD (04_filter_chain.md, R154). -/
def LANE_GD (a : Nat) (b : Nat) : Nat := 0x90050010 + 0x200000 * a + 0x1000 * b
/-- LANE_SETTLE (04_filter_chain.md, R154). -/
def LANE_SETTLE (a : Nat) (b : Nat) : Nat := 0x90050014 + 0x200000 * a + 0x1000 * b
/-- LANE_MIN (04_filter_chain.md, R154). -/
def LANE_MIN (a : Nat) (b : Nat) : Nat := 0x90050018 + 0x200000 * a + 0x1000 * b
/-- LANE_STAT (04_filter_chain.md, R154). -/
def LANE_STAT (a : Nat) (b : Nat) : Nat := 0x9005001c + 0x200000 * a + 0x1000 * b
/-- LANE_FADE (04_filter_chain.md, R154). -/
def LANE_FADE (a : Nat) (b : Nat) : Nat := 0x90050020 + 0x200000 * a + 0x1000 * b
/-- LANE_CNT (04_filter_chain.md, R154). -/
def LANE_CNT (a : Nat) (b : Nat) : Nat := 0x90050024 + 0x200000 * a + 0x1000 * b
/-- TRK_CFG (04_filter_chain.md, R155). -/
def TRK_CFG (a : Nat) : Nat := 0x90000300 + 0x200000 * a
/-- TRK_PER (04_filter_chain.md, R628). -/
def TRK_PER (a : Nat) : Nat := 0x90000304 + 0x200000 * a
/-- TRK_FREQ (04_filter_chain.md, R628). -/
def TRK_FREQ (a : Nat) : Nat := 0x90000308 + 0x200000 * a
/-- TRK_ROCOF (04_filter_chain.md, R628). -/
def TRK_ROCOF (a : Nat) : Nat := 0x9000030c + 0x200000 * a
/-- TRK_STAT (04_filter_chain.md, R628). -/
def TRK_STAT (a : Nat) : Nat := 0x90000310 + 0x200000 * a
/-- CORE_CTRL (05_walso_model.md, R190). -/
def CORE_CTRL (a : Nat) : Nat := 0x90000000 + 0x200000 * a
/-- CORE_CMD (05_walso_model.md, R190). -/
def CORE_CMD (a : Nat) : Nat := 0x90000004 + 0x200000 * a
/-- CORE_STAT (05_walso_model.md, R190). -/
def CORE_STAT (a : Nat) : Nat := 0x90000008 + 0x200000 * a
/-- CORE_IMG_ADDR (05_walso_model.md, R190). -/
def CORE_IMG_ADDR (a : Nat) : Nat := 0x9000000c + 0x200000 * a
/-- CORE_ACT_AT (05_walso_model.md, R190). -/
def CORE_ACT_AT (a : Nat) : Nat := 0x90000010 + 0x200000 * a
/-- CORE_WCET (05_walso_model.md, R190). -/
def CORE_WCET (a : Nat) : Nat := 0x90000014 + 0x200000 * a
/-- CORE_IMG_VER (05_walso_model.md, R190). -/
def CORE_IMG_VER (a : Nat) : Nat := 0x90000018 + 0x200000 * a
/-- CORE_LAYOUT (05_walso_model.md, R190). -/
def CORE_LAYOUT (a : Nat) : Nat := 0x9000001c + 0x200000 * a
/-- CORE_VAL (05_walso_model.md, R190). -/
def CORE_VAL (a : Nat) : Nat := 0x90000020 + 0x200000 * a
/-- CORE_VAL_WCET (05_walso_model.md, R190). -/
def CORE_VAL_WCET (a : Nat) : Nat := 0x90000024 + 0x200000 * a
/-- CORE_FAULT (05_walso_model.md, R190). -/
def CORE_FAULT (a : Nat) : Nat := 0x90000028 + 0x200000 * a
/-- CORE_FADDR (05_walso_model.md, R190). -/
def CORE_FADDR (a : Nat) : Nat := 0x9000002c + 0x200000 * a
/-- CORE_ECC (05_walso_model.md, R190). -/
def CORE_ECC (a : Nat) : Nat := 0x90000030 + 0x200000 * a
/-- EVT_STAT (06_walso_instructions.md, R226). -/
def EVT_STAT (a : Nat) : Nat := 0x90000034 + 0x200000 * a
/-- IFD_CTRL (07_protection_primitives.md, R260). -/
def IFD_CTRL (a : Nat) : Nat := 0x90080000 + 0x200000 * a
/-- IFD_KEY (07_protection_primitives.md, R260). -/
def IFD_KEY (a : Nat) : Nat := 0x90080004 + 0x200000 * a
/-- IFD_CFG (07_protection_primitives.md, R260). -/
def IFD_CFG (a : Nat) : Nat := 0x90080008 + 0x200000 * a
/-- IFD_THR_PH (07_protection_primitives.md, R260). -/
def IFD_THR_PH (a : Nat) : Nat := 0x9008000c + 0x200000 * a
/-- IFD_HOLD (07_protection_primitives.md, R261). -/
def IFD_HOLD (a : Nat) : Nat := 0x9008001c + 0x200000 * a
/-- IFD_STAT (07_protection_primitives.md, R261). -/
def IFD_STAT (a : Nat) : Nat := 0x90080020 + 0x200000 * a
/-- IFD_CNT (07_protection_primitives.md, R261). -/
def IFD_CNT (a : Nat) : Nat := 0x90080024 + 0x200000 * a
/-- CL_ROLE (07_protection_primitives.md, R261). -/
def CL_ROLE (a : Nat) : Nat := 0x90080028 + 0x200000 * a
/-- CD_CFG (07_protection_primitives.md, R261). -/
def CD_CFG (a : Nat) : Nat := 0x9008002c + 0x200000 * a
/-- FPD_CFG_l (07_protection_primitives.md, R261). -/
def FPD_CFG (a : Nat) (b : Nat) : Nat := 0x90080100 + 0x200000 * a + 0x4 * b
/-- FPD_GRP (07_protection_primitives.md, R261). -/
def FPD_GRP (a : Nat) : Nat := 0x90080120 + 0x200000 * a
/-- AF_CFG (07_protection_primitives.md, R261). -/
def AF_CFG (a : Nat) : Nat := 0x90080124 + 0x200000 * a
/-- FPD_STAT (07_protection_primitives.md, R261). -/
def FPD_STAT (a : Nat) : Nat := 0x90080128 + 0x200000 * a
/-- WF_STAT (07_protection_primitives.md, R261). -/
def WF_STAT (a : Nat) : Nat := 0x90080140 + 0x200000 * a
/-- WF_CTRL (07_protection_primitives.md, R261). -/
def WF_CTRL (a : Nat) : Nat := 0x90080144 + 0x200000 * a
/-- WF_H0 (07_protection_primitives.md, R261). -/
def WF_H0 (a : Nat) : Nat := 0x90080150 + 0x200000 * a
/-- WF_H1 (07_protection_primitives.md, R261). -/
def WF_H1 (a : Nat) : Nat := 0x90080154 + 0x200000 * a
/-- WF_H2 (07_protection_primitives.md, R261). -/
def WF_H2 (a : Nat) : Nat := 0x90080158 + 0x200000 * a
/-- WF_H3 (07_protection_primitives.md, R261). -/
def WF_H3 (a : Nat) : Nat := 0x9008015c + 0x200000 * a
/-- CRV_MODE_n (07_protection_primitives.md, R261). -/
def CRV_MODE (a : Nat) (b : Nat) : Nat := 0x90090000 + 0x200000 * a + 0x10 * b
/-- CRV_INT_n (07_protection_primitives.md, R262). -/
def CRV_INT (a : Nat) (b : Nat) : Nat := 0x90090200 + 0x200000 * a + 0x4 * b
/-- CMP_CNT_n (07_protection_primitives.md, R629). -/
def CMP_CNT (a : Nat) (b : Nat) : Nat := 0x9009100c + 0x200000 * a + 0x10 * b
/-- CMP_ST_n (07_protection_primitives.md, R629). -/
def CMP_ST (a : Nat) (b : Nat) : Nat := 0x90091700 + 0x200000 * a + 0x4 * b
/-- TMR_CFG_n (07_protection_primitives.md, R629). -/
def TMR_CFG (a : Nat) (b : Nat) : Nat := 0x90091400 + 0x200000 * a + 0x8 * b
/-- TMR_OFF_n (07_protection_primitives.md, R629). -/
def TMR_OFF (a : Nat) (b : Nat) : Nat := 0x90091404 + 0x200000 * a + 0x8 * b
/-- TMR_ST_n (07_protection_primitives.md, R629). -/
def TMR_ST (a : Nat) (b : Nat) : Nat := 0x90091600 + 0x200000 * a + 0x4 * b
/-- CRV_STAT (07_protection_primitives.md, R629). -/
def CRV_STAT (a : Nat) : Nat := 0x90091f00 + 0x200000 * a
/-- TL_SRC0_n (08_trip_lines.md, R284). -/
def TL_SRC0 (a : Nat) : Nat := 0x18000 + 0x4 * a
/-- TL_GUARD_n (08_trip_lines.md, R285). -/
def TL_GUARD (a : Nat) : Nat := 0x18400 + 0x4 * a
/-- TL_PULSE_n (08_trip_lines.md, R285). -/
def TL_PULSE (a : Nat) : Nat := 0x18500 + 0x4 * a
/-- TL_BF_n (08_trip_lines.md, R285). -/
def TL_BF (a : Nat) : Nat := 0x18600 + 0x4 * a
/-- TL_DST0_n (08_trip_lines.md, R285). -/
def TL_DST0 (a : Nat) : Nat := 0x18700 + 0x4 * a
/-- TL_DST1_n (08_trip_lines.md, R285). -/
def TL_DST1 (a : Nat) : Nat := 0x18800 + 0x4 * a
/-- TL_STAT_n (08_trip_lines.md, R285). -/
def TL_STAT (a : Nat) : Nat := 0x18900 + 0x4 * a
/-- TL_FLAG_n (08_trip_lines.md, R285). -/
def TL_FLAG (a : Nat) : Nat := 0x18a00 + 0x4 * a
/-- TL_CNT_n (08_trip_lines.md, R285). -/
def TL_CNT (a : Nat) : Nat := 0x18b00 + 0x4 * a
/-- TL_RUN_LO (08_trip_lines.md, R285). -/
def TL_RUN_LO : Nat := 0x18c00
/-- TRIP_KEY (08_trip_lines.md, R286). -/
def TRIP_KEY : Nat := 0x18c18
/-- TRIP_STAT (08_trip_lines.md, R286). -/
def TRIP_STAT : Nat := 0x18c1c
/-- LTH_CTRL (09_lathe.md, R318). -/
def LTH_CTRL : Nat := 0x14000
/-- LTH_CFG (09_lathe.md, R318). -/
def LTH_CFG : Nat := 0x14004
/-- LTH_STAT (09_lathe.md, R318). -/
def LTH_STAT : Nat := 0x14008
/-- LTH_HALT (09_lathe.md, R318). -/
def LTH_HALT : Nat := 0x1400c
/-- LTH_CMD (09_lathe.md, R318). -/
def LTH_CMD : Nat := 0x14010
/-- LTH_RCK (09_lathe.md, R318). -/
def LTH_RCK : Nat := 0x14014
/-- LTH_IMG_ADDR (09_lathe.md, R318). -/
def LTH_IMG_ADDR : Nat := 0x14018
/-- LTH_SW_AT (09_lathe.md, R318). -/
def LTH_SW_AT : Nat := 0x1401c
/-- LTH_TURN_LO (09_lathe.md, R318). -/
def LTH_TURN_LO : Nat := 0x14020
/-- LTH_TURN_HI (09_lathe.md, R318). -/
def LTH_TURN_HI : Nat := 0x14024
/-- LTH_OVR_CNT (09_lathe.md, R318). -/
def LTH_OVR_CNT : Nat := 0x14028
/-- LTH_CYC_LAST (09_lathe.md, R318). -/
def LTH_CYC_LAST : Nat := 0x1402c
/-- LTH_CYC_MAX (09_lathe.md, R318). -/
def LTH_CYC_MAX : Nat := 0x14030
/-- LTH_VAL (09_lathe.md, R318). -/
def LTH_VAL : Nat := 0x14034
/-- LTH_RET (09_lathe.md, R318). -/
def LTH_RET : Nat := 0x14038
/-- LTH_BITS (09_lathe.md, R318). -/
def LTH_BITS : Nat := 0x1403c
/-- METER_CFG (09_lathe.md, R318). -/
def METER_CFG : Nat := 0x14040
/-- METER_STAT (09_lathe.md, R318). -/
def METER_STAT : Nat := 0x14044
/-- REC_CTRL (10_blaze_recording.md, R361). -/
def REC_CTRL (a : Nat) : Nat := 0x34000 + 0x300 * a
/-- REC_CFG (10_blaze_recording.md, R361). -/
def REC_CFG (a : Nat) : Nat := 0x34004 + 0x300 * a
/-- REC_PART (10_blaze_recording.md, R362). -/
def REC_PART (a : Nat) : Nat := 0x34018 + 0x300 * a
/-- REC_WB (10_blaze_recording.md, R362). -/
def REC_WB (a : Nat) : Nat := 0x34028 + 0x300 * a
/-- REC_CMD (10_blaze_recording.md, R362). -/
def REC_CMD (a : Nat) : Nat := 0x3402c + 0x300 * a
/-- REC_ARG (10_blaze_recording.md, R362). -/
def REC_ARG (a : Nat) : Nat := 0x34030 + 0x300 * a
/-- REC_STAT (10_blaze_recording.md, R362). -/
def REC_STAT (a : Nat) : Nat := 0x34034 + 0x300 * a
/-- REC_SEG (10_blaze_recording.md, R362). -/
def REC_SEG (a : Nat) : Nat := 0x34038 + 0x300 * a
/-- REC_CNT (10_blaze_recording.md, R362). -/
def REC_CNT (a : Nat) : Nat := 0x3403c + 0x300 * a
/-- REC_LAST (10_blaze_recording.md, R362). -/
def REC_LAST (a : Nat) : Nat := 0x34040 + 0x300 * a
/-- BLZ_CTRL (10_blaze_recording.md, R362). -/
def BLZ_CTRL (a : Nat) : Nat := 0x34044 + 0x300 * a
/-- BLZ_STAT (10_blaze_recording.md, R362). -/
def BLZ_STAT (a : Nat) : Nat := 0x34048 + 0x300 * a
/-- GAUGE_g (10_blaze_recording.md, R363). -/
def GAUGE (a : Nat) (b : Nat) : Nat := 0x3408c + 0x300 * a + 0x4 * b
/-- BLZ_PRED_p (10_blaze_recording.md, R363). -/
def BLZ_PRED (a : Nat) (b : Nat) : Nat := 0x34100 + 0x300 * a + 0x4 * b
/-- BLZ_COND_q_r (10_blaze_recording.md, R363). -/
def BLZ_COND (a : Nat) (b : Nat) (c : Nat) : Nat := 0x34200 + 0x300 * a + 0x8 * b + 0x4 * c
/-- BLZ_ACT_q_r (10_blaze_recording.md, R363). -/
def BLZ_ACT (a : Nat) (b : Nat) (c : Nat) : Nat := 0x34280 + 0x300 * a + 0x8 * b + 0x4 * c
/-- STORE_USED_LO (10_blaze_recording.md, R363). -/
def STORE_USED_LO : Nat := 0x34c00
/-- STORE_USED_HI (10_blaze_recording.md, R363). -/
def STORE_USED_HI : Nat := 0x34c04
/-- STORE_MEDIA (10_blaze_recording.md, R363). -/
def STORE_MEDIA : Nat := 0x34c08
/-- TALLY_CTRL (11_tally.md, R388). -/
def TALLY_CTRL : Nat := 0xc000
/-- TALLY_STAT (11_tally.md, R388). -/
def TALLY_STAT : Nat := 0xc004
/-- TALLY_WPTR (11_tally.md, R388). -/
def TALLY_WPTR : Nat := 0xc008
/-- TALLY_SEQ_NEXT (11_tally.md, R388). -/
def TALLY_SEQ_NEXT : Nat := 0xc00c
/-- TALLY_DROP (11_tally.md, R388). -/
def TALLY_DROP : Nat := 0xc010
/-- TALLY_BAD_CNT (11_tally.md, R388). -/
def TALLY_BAD_CNT : Nat := 0xc014
/-- TALLY_CLR_CMD (11_tally.md, R390). -/
def TALLY_CLR_CMD : Nat := 0xc080
/-- TALLY_CLR_STAT (11_tally.md, R391). -/
def TALLY_CLR_STAT : Nat := 0xc0a4
/-- TALLY_LR_STAT (11_tally.md, R391). -/
def TALLY_LR_STAT : Nat := 0xc0b0
/-- TB_CTRL (12_time_base.md, R424). -/
def TB_CTRL : Nat := 0x8000
/-- TB_STAT (12_time_base.md, R424). -/
def TB_STAT : Nat := 0x8004
/-- TB_CMD (12_time_base.md, R424). -/
def TB_CMD : Nat := 0x8008
/-- TB_SERVO (12_time_base.md, R424). -/
def TB_SERVO : Nat := 0x8038
/-- ALM_CTRL_n (12_time_base.md, R425). -/
def ALM_CTRL (a : Nat) : Nat := 0x8100 + 0x20 * a
/-- TIO_CFG_n (12_time_base.md, R426). -/
def TIO_CFG (a : Nat) : Nat := 0x8400 + 0x40 * a
/-- ETH_CTRL (13_ethernet.md, R461). -/
def ETH_CTRL : Nat := 0x20000
/-- ETH_ISTAT (13_ethernet.md, R461). -/
def ETH_ISTAT : Nat := 0x20008
/-- CAN_CTRL (14_can_fd.md, R490). -/
def CAN_CTRL (a : Nat) : Nat := 0x24000 + 0x4000 * a
/-- CAN_STAT (14_can_fd.md, R490). -/
def CAN_STAT (a : Nat) : Nat := 0x24004 + 0x4000 * a
/-- CAN_NBT (14_can_fd.md, R490). -/
def CAN_NBT (a : Nat) : Nat := 0x24008 + 0x4000 * a
/-- CAN_DBT (14_can_fd.md, R490). -/
def CAN_DBT (a : Nat) : Nat := 0x2400c + 0x4000 * a
/-- CAN_TDC (14_can_fd.md, R490). -/
def CAN_TDC (a : Nat) : Nat := 0x24010 + 0x4000 * a
/-- CAN_ERR (14_can_fd.md, R490). -/
def CAN_ERR (a : Nat) : Nat := 0x24014 + 0x4000 * a
/-- FIO_CTRL (15_field_io.md, R516). -/
def FIO_CTRL : Nat := 0x1c000
/-- FIO_STAT (15_field_io.md, R516). -/
def FIO_STAT : Nat := 0x1c004
/-- FIO_FSTAT (15_field_io.md, R516). -/
def FIO_FSTAT : Nat := 0x1c008
/-- FIO_CFG_n (15_field_io.md, R517). -/
def FIO_CFG (a : Nat) : Nat := 0x1c100 + 0x4 * a
/-- FIO_GRP_b (15_field_io.md, R517). -/
def FIO_GRP (a : Nat) : Nat := 0x1c200 + 0x4 * a
/-- FIO_BANK_b (15_field_io.md, R517). -/
def FIO_BANK (a : Nat) : Nat := 0x1c220 + 0x4 * a
/-- FIO_FLT_n (15_field_io.md, R517). -/
def FIO_FLT (a : Nat) : Nat := 0x1c300 + 0x4 * a
/-- PAIR_CFG (16_pairing.md, R544). -/
def PAIR_CFG : Nat := 0x10000
/-- PAIR_CTRL (16_pairing.md, R544). -/
def PAIR_CTRL : Nat := 0x10004
/-- PAIR_CMD (16_pairing.md, R544). -/
def PAIR_CMD : Nat := 0x10008
/-- PAIR_STAT (16_pairing.md, R544). -/
def PAIR_STAT : Nat := 0x1000c
/-- PAIR_FLAG (16_pairing.md, R544). -/
def PAIR_FLAG : Nat := 0x10010
/-- SYS_PART (17_host_bus.md, R576). -/
def SYS_PART : Nat := 0x0
/-- SYS_DEVID (17_host_bus.md, R576). -/
def SYS_DEVID : Nat := 0x4
/-- SYS_RST (17_host_bus.md, R576). -/
def SYS_RST : Nat := 0x10
/-- HBI_STAT (17_host_bus.md, R578). -/
def HBI_STAT : Nat := 0x4000
/-- HBI_ERR_ADDR (17_host_bus.md, R578). -/
def HBI_ERR_ADDR : Nat := 0x4004
/-- HBI_IND_ADDR (17_host_bus.md, R578). -/
def HBI_IND_ADDR : Nat := 0x4010
/-- HBI_IND_DATA (17_host_bus.md, R578). -/
def HBI_IND_DATA : Nat := 0x4014
/-- HBI_IND_CTRL (17_host_bus.md, R578). -/
def HBI_IND_CTRL : Nat := 0x4018
/-- HBI_IND_STAT (17_host_bus.md, R578). -/
def HBI_IND_STAT : Nat := 0x401c
/-- HBI_SCRATCH (17_host_bus.md, R578). -/
def HBI_SCRATCH : Nat := 0x4020
/-- PWR_STAT (18_power_boot.md, R603). -/
def PWR_STAT : Nat := 0x38000
/-- PWR_DOM (18_power_boot.md, R603). -/
def PWR_DOM : Nat := 0x38004
/-- PWR_HALF (18_power_boot.md, R603). -/
def PWR_HALF : Nat := 0x38008
/-- PWR_HOLD (18_power_boot.md, R603). -/
def PWR_HOLD : Nat := 0x38020
/-- BOOT_STAT (18_power_boot.md, R604). -/
def BOOT_STAT : Nat := 0x38100
/-- BOOT_CFG (18_power_boot.md, R604). -/
def BOOT_CFG : Nat := 0x38104
/-- BOOT_CMD (18_power_boot.md, R604). -/
def BOOT_CMD : Nat := 0x38108
/-- INT_STAT_LO (17_host_bus.md, R577). -/
def INT_STAT_LO : Nat := 0x100
/-- INT_STAT_HI (17_host_bus.md, R577). -/
def INT_STAT_HI : Nat := 0x104
/-- INT_EN0_LO (17_host_bus.md, R577). -/
def INT_EN0_LO : Nat := 0x108
/-- INT_EN0_HI (17_host_bus.md, R577). -/
def INT_EN0_HI : Nat := 0x10c
/-- INT_EN1_LO (17_host_bus.md, R577). -/
def INT_EN1_LO : Nat := 0x110
/-- INT_EN1_HI (17_host_bus.md, R577). -/
def INT_EN1_HI : Nat := 0x114
/-- INT_FORCE_LO (17_host_bus.md, R577). -/
def INT_FORCE_LO : Nat := 0x118
/-- INT_FORCE_HI (17_host_bus.md, R577). -/
def INT_FORCE_HI : Nat := 0x11c
/-- INT_PIN (17_host_bus.md, R577). -/
def INT_PIN : Nat := 0x120
/-- MBOX_S2H_n (17_host_bus.md, R578). -/
def MBOX_S2H (a : Nat) : Nat := 0x140 + 0x8 * a
/-- MBOX_H2S_n (17_host_bus.md, R578). -/
def MBOX_H2S (a : Nat) : Nat := 0x144 + 0x8 * a
/-- MBOX_STAT (17_host_bus.md, R578). -/
def MBOX_STAT : Nat := 0x160
/-- TB_TIME_FRAC (12_time_base.md, R425). -/
def TB_TIME_FRAC : Nat := 0x800c
/-- TB_TIME_NS (12_time_base.md, R425). -/
def TB_TIME_NS : Nat := 0x8010
/-- TB_TIME_SEC_LO (12_time_base.md, R425). -/
def TB_TIME_SEC_LO : Nat := 0x8014
/-- TB_TIME_SEC_HI (12_time_base.md, R425). -/
def TB_TIME_SEC_HI : Nat := 0x8018
/-- TB_ADDEND_LO (12_time_base.md, R425). -/
def TB_ADDEND_LO : Nat := 0x801c
/-- TB_ADDEND_HI (12_time_base.md, R425). -/
def TB_ADDEND_HI : Nat := 0x8020
/-- TB_STEP_NS (12_time_base.md, R425). -/
def TB_STEP_NS : Nat := 0x8024
/-- TB_STEP_SEC_LO (12_time_base.md, R425). -/
def TB_STEP_SEC_LO : Nat := 0x8028
/-- TB_STEP_SEC_HI (12_time_base.md, R425). -/
def TB_STEP_SEC_HI : Nat := 0x802c
/-- TB_OFFS_LO (12_time_base.md, R425). -/
def TB_OFFS_LO : Nat := 0x8030
/-- TB_OFFS_HI (12_time_base.md, R425). -/
def TB_OFFS_HI : Nat := 0x8034
/-- TB_STEP_THR (12_time_base.md, R425). -/
def TB_STEP_THR : Nat := 0x803c
/-- TB_LOCK (12_time_base.md, R425). -/
def TB_LOCK : Nat := 0x8040
/-- TB_LAST_OFFS (12_time_base.md, R425). -/
def TB_LAST_OFFS : Nat := 0x8044
/-- TB_RATE (12_time_base.md, R425). -/
def TB_RATE : Nat := 0x8048
/-- TB_UTC (12_time_base.md, R425). -/
def TB_UTC : Nat := 0x804c
/-- TB_EPOCH (12_time_base.md, R425). -/
def TB_EPOCH : Nat := 0x8050
/-- TB_RTC_SEC_LO (12_time_base.md, R425). -/
def TB_RTC_SEC_LO : Nat := 0x8054
/-- TB_RTC_SEC_HI (12_time_base.md, R425). -/
def TB_RTC_SEC_HI : Nat := 0x8058
/-- TB_RTC_STAT (12_time_base.md, R425). -/
def TB_RTC_STAT : Nat := 0x805c
/-- TB_SAMP (12_time_base.md, R425). -/
def TB_SAMP : Nat := 0x8060
/-- TB_CNT_LO (12_time_base.md, R425). -/
def TB_CNT_LO : Nat := 0x8064
/-- TB_CNT_HI (12_time_base.md, R425). -/
def TB_CNT_HI : Nat := 0x8068
/-- ALM_SEC_LO_n (12_time_base.md, R426). -/
def ALM_SEC_LO (a : Nat) : Nat := 0x8104 + 0x20 * a
/-- ALM_SEC_HI_n (12_time_base.md, R426). -/
def ALM_SEC_HI (a : Nat) : Nat := 0x8108 + 0x20 * a
/-- ALM_NS_n (12_time_base.md, R426). -/
def ALM_NS (a : Nat) : Nat := 0x810c + 0x20 * a
/-- ALM_PER_n (12_time_base.md, R426). -/
def ALM_PER (a : Nat) : Nat := 0x8110 + 0x20 * a
/-- ALM_LAST_NS_n (12_time_base.md, R426). -/
def ALM_LAST_NS (a : Nat) : Nat := 0x8114 + 0x20 * a
/-- ALM_LAST_SEC_n (12_time_base.md, R426). -/
def ALM_LAST_SEC (a : Nat) : Nat := 0x8118 + 0x20 * a
/-- ALM_STAT_n (12_time_base.md, R426). -/
def ALM_STAT (a : Nat) : Nat := 0x811c + 0x20 * a
/-- TIO_START_SEC_LO_n (12_time_base.md, R427). -/
def TIO_START_SEC_LO (a : Nat) : Nat := 0x8404 + 0x40 * a
/-- TIO_START_SEC_HI_n (12_time_base.md, R427). -/
def TIO_START_SEC_HI (a : Nat) : Nat := 0x8408 + 0x40 * a
/-- TIO_START_NS_n (12_time_base.md, R427). -/
def TIO_START_NS (a : Nat) : Nat := 0x840c + 0x40 * a
/-- TIO_PERIOD_n (12_time_base.md, R427). -/
def TIO_PERIOD (a : Nat) : Nat := 0x8410 + 0x40 * a
/-- TIO_WIDTH_n (12_time_base.md, R427). -/
def TIO_WIDTH (a : Nat) : Nat := 0x8414 + 0x40 * a
/-- TIO_COUNT_n (12_time_base.md, R427). -/
def TIO_COUNT (a : Nat) : Nat := 0x8418 + 0x40 * a
/-- TIO_DLY_n (12_time_base.md, R427). -/
def TIO_DLY (a : Nat) : Nat := 0x841c + 0x40 * a
/-- TIO_CAP_NS_n (12_time_base.md, R427). -/
def TIO_CAP_NS (a : Nat) : Nat := 0x8420 + 0x40 * a
/-- TIO_CAP_SEC_LO_n (12_time_base.md, R427). -/
def TIO_CAP_SEC_LO (a : Nat) : Nat := 0x8424 + 0x40 * a
/-- TIO_CAP_SEC_HI_n (12_time_base.md, R427). -/
def TIO_CAP_SEC_HI (a : Nat) : Nat := 0x8428 + 0x40 * a
/-- TIO_STAT_n (12_time_base.md, R427). -/
def TIO_STAT (a : Nat) : Nat := 0x842c + 0x40 * a
/-- TALLY_BAD_n (11_tally.md, R389). -/
def TALLY_BAD (a : Nat) : Nat := 0xc100 + 0x4 * a
/-- TALLY_PHDR_s (11_tally.md, R390). -/
def TALLY_PHDR (a : Nat) : Nat := 0xc040 + 0x20 * a
/-- TALLY_PSP_s (11_tally.md, R390). -/
def TALLY_PSP (a : Nat) : Nat := 0xc044 + 0x20 * a
/-- TALLY_PP0_s (11_tally.md, R390). -/
def TALLY_PP0 (a : Nat) : Nat := 0xc048 + 0x20 * a
/-- TALLY_PP1_s (11_tally.md, R390). -/
def TALLY_PP1 (a : Nat) : Nat := 0xc04c + 0x20 * a
/-- TALLY_PGO_s (11_tally.md, R390). -/
def TALLY_PGO (a : Nat) : Nat := 0xc050 + 0x20 * a
/-- TALLY_NONCE_k (11_tally.md, R391). -/
def TALLY_NONCE (a : Nat) : Nat := 0xc084 + 0x4 * a
/-- TALLY_RESP_k (11_tally.md, R391). -/
def TALLY_RESP (a : Nat) : Nat := 0xc094 + 0x4 * a
/-- TALLY_CLR_SEQ (11_tally.md, R391). -/
def TALLY_CLR_SEQ : Nat := 0xc0a8
/-- TALLY_LR_r_w (11_tally.md, R392). -/
def TALLY_LR (a : Nat) (b : Nat) : Nat := 0xc200 + 0x20 * a + 0x4 * b
/-- TALLY_HWSEV_w (11_tally.md, R393). -/
def TALLY_HWSEV (a : Nat) : Nat := 0xc300 + 0x4 * a
/-- TALLY_BKT_RNG_b (11_tally.md, R394). -/
def TALLY_BKT_RNG (a : Nat) : Nat := 0xc400 + 0x4 * a
/-- TALLY_BKT_CFG_b (11_tally.md, R394). -/
def TALLY_BKT_CFG (a : Nat) : Nat := 0xc800 + 0x4 * a
/-- TALLY_BKT_SUP_b (11_tally.md, R394). -/
def TALLY_BKT_SUP (a : Nat) : Nat := 0xcc00 + 0x4 * a
/-- FACT_GC (03_stitched_acquisition.md, R108). -/
def FACT_GC (a : Nat) (b : Nat) : Nat := 0x90050830 + 0x200000 * a + 0x1000 * b
/-- FACT_OC (03_stitched_acquisition.md, R108). -/
def FACT_OC (a : Nat) (b : Nat) : Nat := 0x90050834 + 0x200000 * a + 0x1000 * b
/-- FACT_GF (03_stitched_acquisition.md, R108). -/
def FACT_GF (a : Nat) (b : Nat) : Nat := 0x90050838 + 0x200000 * a + 0x1000 * b
/-- FACT_OF (03_stitched_acquisition.md, R108). -/
def FACT_OF (a : Nat) (b : Nat) : Nat := 0x9005083c + 0x200000 * a + 0x1000 * b
/-- FACT_PF (03_stitched_acquisition.md, R108). -/
def FACT_PF (a : Nat) (b : Nat) : Nat := 0x90050840 + 0x200000 * a + 0x1000 * b
/-- IFD_THR_RES (07_protection_primitives.md, R261). -/
def IFD_THR_RES (a : Nat) : Nat := 0x90080010 + 0x200000 * a
/-- IFD_THR_DI (07_protection_primitives.md, R261). -/
def IFD_THR_DI (a : Nat) : Nat := 0x90080014 + 0x200000 * a
/-- IFD_THR_UV (07_protection_primitives.md, R261). -/
def IFD_THR_UV (a : Nat) : Nat := 0x90080018 + 0x200000 * a
/-- CRV_TMS_n (07_protection_primitives.md, R262). -/
def CRV_TMS (a : Nat) (b : Nat) : Nat := 0x90090004 + 0x200000 * a + 0x10 * b
/-- CRV_PU_n (07_protection_primitives.md, R262). -/
def CRV_PU (a : Nat) (b : Nat) : Nat := 0x90090008 + 0x200000 * a + 0x10 * b
/-- CRV_DR_n (07_protection_primitives.md, R262). -/
def CRV_DR (a : Nat) (b : Nat) : Nat := 0x9009000c + 0x200000 * a + 0x10 * b
/-- CMP_THR_n (07_protection_primitives.md, R264). -/
def CMP_THR (a : Nat) (b : Nat) : Nat := 0x90091000 + 0x200000 * a + 0x10 * b
/-- CMP_PKR_n (07_protection_primitives.md, R264). -/
def CMP_PKR (a : Nat) (b : Nat) : Nat := 0x90091004 + 0x200000 * a + 0x10 * b
/-- CMP_DOR_n (07_protection_primitives.md, R264). -/
def CMP_DOR (a : Nat) (b : Nat) : Nat := 0x90091008 + 0x200000 * a + 0x10 * b
/-- TL_SRC1_n (08_trip_lines.md, R285). -/
def TL_SRC1 (a : Nat) : Nat := 0x18100 + 0x4 * a
/-- TL_SRC2_n (08_trip_lines.md, R285). -/
def TL_SRC2 (a : Nat) : Nat := 0x18200 + 0x4 * a
/-- TL_SRC3_n (08_trip_lines.md, R285). -/
def TL_SRC3 (a : Nat) : Nat := 0x18300 + 0x4 * a
/-- TL_RUN_HI (08_trip_lines.md, R286). -/
def TL_RUN_HI : Nat := 0x18c04
/-- TL_ENERG_LO (08_trip_lines.md, R286). -/
def TL_ENERG_LO : Nat := 0x18c08
/-- TL_ENERG_HI (08_trip_lines.md, R286). -/
def TL_ENERG_HI : Nat := 0x18c0c
/-- TL_GOOSE_LO (08_trip_lines.md, R286). -/
def TL_GOOSE_LO : Nat := 0x18c10
/-- TL_GOOSE_HI (08_trip_lines.md, R286). -/
def TL_GOOSE_HI : Nat := 0x18c14
/-- REC_CHn (10_blaze_recording.md, R362). -/
def REC_CH (a : Nat) (b : Nat) : Nat := 0x34008 + 0x300 * a + 0x4 * b
/-- REC_PRE (10_blaze_recording.md, R362). -/
def REC_PRE (a : Nat) : Nat := 0x3401c + 0x300 * a
/-- REC_POST (10_blaze_recording.md, R362). -/
def REC_POST (a : Nat) : Nat := 0x34020 + 0x300 * a
/-- REC_MAXLEN (10_blaze_recording.md, R362). -/
def REC_MAXLEN (a : Nat) : Nat := 0x34024 + 0x300 * a
/-- BLZ_CCFG_c (10_blaze_recording.md, R363). -/
def BLZ_CCFG (a : Nat) (b : Nat) : Nat := 0x3404c + 0x300 * a + 0x4 * b
/-- BLZ_CLIM_c (10_blaze_recording.md, R363). -/
def BLZ_CLIM (a : Nat) (b : Nat) : Nat := 0x3405c + 0x300 * a + 0x4 * b
/-- BLZ_CVAL_c (10_blaze_recording.md, R363). -/
def BLZ_CVAL (a : Nat) (b : Nat) : Nat := 0x3406c + 0x300 * a + 0x4 * b
/-- BLZ_TPRE_t (10_blaze_recording.md, R363). -/
def BLZ_TPRE (a : Nat) (b : Nat) : Nat := 0x3407c + 0x300 * a + 0x4 * b
/-- BLZ_THR_k (10_blaze_recording.md, R363). -/
def BLZ_THR (a : Nat) (b : Nat) : Nat := 0x340c0 + 0x300 * a + 0x4 * b
/-- ETH_STAT (13_ethernet.md, R462). -/
def ETH_STAT : Nat := 0x20004
/-- ETH_RED_CFG (13_ethernet.md, R462). -/
def ETH_RED_CFG : Nat := 0x2000c
/-- ETH_PCP_MAP (13_ethernet.md, R462). -/
def ETH_PCP_MAP : Nat := 0x20010
/-- ETH_PTP (13_ethernet.md, R462). -/
def ETH_PTP : Nat := 0x20014
/-- ETH_PTP_CNT (13_ethernet.md, R462). -/
def ETH_PTP_CNT : Nat := 0x20018
/-- ETH_TXTS_NS (13_ethernet.md, R462). -/
def ETH_TXTS_NS : Nat := 0x20240
/-- ETH_TXTS_SEC (13_ethernet.md, R462). -/
def ETH_TXTS_SEC : Nat := 0x20244
/-- ETH_TXTS_TAG (13_ethernet.md, R462). -/
def ETH_TXTS_TAG : Nat := 0x20248
/-- ETH_TXTS_STAT (13_ethernet.md, R462). -/
def ETH_TXTS_STAT : Nat := 0x2024c
/-- ETH_PCFG_p (13_ethernet.md, R463). -/
def ETH_PCFG (a : Nat) : Nat := 0x20100 + 0x40 * a
/-- ETH_PSTAT_p (13_ethernet.md, R463). -/
def ETH_PSTAT (a : Nat) : Nat := 0x20104 + 0x40 * a
/-- ETH_TSADJ_p (13_ethernet.md, R463). -/
def ETH_TSADJ (a : Nat) : Nat := 0x20108 + 0x40 * a
/-- ETH_PDELAY_p (13_ethernet.md, R463). -/
def ETH_PDELAY (a : Nat) : Nat := 0x2010c + 0x40 * a
/-- ETH_RXCNT_p (13_ethernet.md, R463). -/
def ETH_RXCNT (a : Nat) : Nat := 0x20110 + 0x40 * a
/-- ETH_TXCNT_p (13_ethernet.md, R463). -/
def ETH_TXCNT (a : Nat) : Nat := 0x20114 + 0x40 * a
/-- ETH_DROP_p (13_ethernet.md, R463). -/
def ETH_DROP (a : Nat) : Nat := 0x20118 + 0x40 * a
/-- ETH_REDCNT_p (13_ethernet.md, R463). -/
def ETH_REDCNT (a : Nat) : Nat := 0x2011c + 0x40 * a
/-- ETH_VLAN_v (13_ethernet.md, R464). -/
def ETH_VLAN (a : Nat) : Nat := 0x20280 + 0x4 * a
/-- SVS_CTRL_s (13_ethernet.md, R465). -/
def SVS_CTRL (a : Nat) : Nat := 0x20300 + 0x40 * a
/-- SVS_MAC_LO_s (13_ethernet.md, R465). -/
def SVS_MAC_LO (a : Nat) : Nat := 0x20304 + 0x40 * a
/-- SVS_MAC_HI_s (13_ethernet.md, R465). -/
def SVS_MAC_HI (a : Nat) : Nat := 0x20308 + 0x40 * a
/-- SVS_ID_CRC_s (13_ethernet.md, R465). -/
def SVS_ID_CRC (a : Nat) : Nat := 0x2030c + 0x40 * a
/-- SVS_CONFREV_s (13_ethernet.md, R465). -/
def SVS_CONFREV (a : Nat) : Nat := 0x20310 + 0x40 * a
/-- SVS_MAP_s (13_ethernet.md, R465). -/
def SVS_MAP (a : Nat) : Nat := 0x20314 + 0x40 * a
/-- SVS_CNT_s (13_ethernet.md, R465). -/
def SVS_CNT (a : Nat) : Nat := 0x20318 + 0x40 * a
/-- SVS_LATE_s (13_ethernet.md, R465). -/
def SVS_LATE (a : Nat) : Nat := 0x2031c + 0x40 * a
/-- SVS_K_s_l (13_ethernet.md, R465). -/
def SVS_K (a : Nat) (b : Nat) : Nat := 0x20320 + 0x40 * a + 0x4 * b
/-- SVP_CTRL_c (13_ethernet.md, R466). -/
def SVP_CTRL (a : Nat) : Nat := 0x20700 + 0x20 * a
/-- SVP_MAC_LO_c (13_ethernet.md, R466). -/
def SVP_MAC_LO (a : Nat) : Nat := 0x20704 + 0x20 * a
/-- SVP_MAC_HI_c (13_ethernet.md, R466). -/
def SVP_MAC_HI (a : Nat) : Nat := 0x20708 + 0x20 * a
/-- SVP_VLAN_c (13_ethernet.md, R466). -/
def SVP_VLAN (a : Nat) : Nat := 0x2070c + 0x20 * a
/-- SVP_CONFREV_c (13_ethernet.md, R466). -/
def SVP_CONFREV (a : Nat) : Nat := 0x20710 + 0x20 * a
/-- SVP_K_I_c (13_ethernet.md, R466). -/
def SVP_K_I (a : Nat) : Nat := 0x20714 + 0x20 * a
/-- SVP_K_V_c (13_ethernet.md, R466). -/
def SVP_K_V (a : Nat) : Nat := 0x20718 + 0x20 * a
/-- SVP_CNT_c (13_ethernet.md, R466). -/
def SVP_CNT (a : Nat) : Nat := 0x2071c + 0x20 * a
/-- ETH_TBL_SEL (13_ethernet.md, R468). -/
def ETH_TBL_SEL : Nat := 0x20e00
/-- ETH_TBL_DATA (13_ethernet.md, R468). -/
def ETH_TBL_DATA : Nat := 0x20e04
/-- GPUB_CTRL_g (13_ethernet.md, R469). -/
def GPUB_CTRL (a : Nat) : Nat := 0x20900 + 0x20 * a
/-- GPUB_ADDR_g (13_ethernet.md, R469). -/
def GPUB_ADDR (a : Nat) : Nat := 0x20904 + 0x20 * a
/-- GPUB_LEN_g (13_ethernet.md, R469). -/
def GPUB_LEN (a : Nat) : Nat := 0x20908 + 0x20 * a
/-- GPUB_TL0_g (13_ethernet.md, R469). -/
def GPUB_TL0 (a : Nat) : Nat := 0x2090c + 0x20 * a
/-- GPUB_TL1_g (13_ethernet.md, R469). -/
def GPUB_TL1 (a : Nat) : Nat := 0x20910 + 0x20 * a
/-- GPUB_TIME_g (13_ethernet.md, R469). -/
def GPUB_TIME (a : Nat) : Nat := 0x20914 + 0x20 * a
/-- GPUB_ST_g (13_ethernet.md, R469). -/
def GPUB_ST (a : Nat) : Nat := 0x20918 + 0x20 * a
/-- GPUB_SQ_g (13_ethernet.md, R469). -/
def GPUB_SQ (a : Nat) : Nat := 0x2091c + 0x20 * a
/-- CAN_ECNT (14_can_fd.md, R491). -/
def CAN_ECNT (a : Nat) : Nat := 0x24018 + 0x4000 * a
/-- CAN_ECNT2 (14_can_fd.md, R491). -/
def CAN_ECNT2 (a : Nat) : Nat := 0x2401c + 0x4000 * a
/-- CAN_ISTAT (14_can_fd.md, R491). -/
def CAN_ISTAT (a : Nat) : Nat := 0x24020 + 0x4000 * a
/-- CAN_IEN (14_can_fd.md, R491). -/
def CAN_IEN (a : Nat) : Nat := 0x24024 + 0x4000 * a
/-- CAN_CMD (14_can_fd.md, R491). -/
def CAN_CMD (a : Nat) : Nat := 0x24028 + 0x4000 * a
/-- CAN_TSADJ (14_can_fd.md, R491). -/
def CAN_TSADJ (a : Nat) : Nat := 0x2402c + 0x4000 * a
/-- CAN_PEND_k (14_can_fd.md, R491). -/
def CAN_PEND (a : Nat) (b : Nat) : Nat := 0x24040 + 0x4000 * a + 0x4 * b
/-- CAN_NEW_k (14_can_fd.md, R491). -/
def CAN_NEW (a : Nat) (b : Nat) : Nat := 0x24050 + 0x4000 * a + 0x4 * b
/-- CAN_OSEL_s (14_can_fd.md, R491). -/
def CAN_OSEL (a : Nat) (b : Nat) : Nat := 0x24100 + 0x4000 * a + 0x80 * b
/-- CAN_OCMD_s (14_can_fd.md, R491). -/
def CAN_OCMD (a : Nat) (b : Nat) : Nat := 0x24104 + 0x4000 * a + 0x80 * b
/-- CAN_OWIN_s_w (14_can_fd.md, R491). -/
def CAN_OWIN (a : Nat) (b : Nat) (c : Nat) : Nat := 0x24120 + 0x4000 * a + 0x80 * b + 0x4 * c
/-- FIO_IN_LO (15_field_io.md, R517). -/
def FIO_IN_LO : Nat := 0x1c010
/-- FIO_IN_HI (15_field_io.md, R517). -/
def FIO_IN_HI : Nat := 0x1c014
/-- FIO_RAW_LO (15_field_io.md, R517). -/
def FIO_RAW_LO : Nat := 0x1c018
/-- FIO_RAW_HI (15_field_io.md, R517). -/
def FIO_RAW_HI : Nat := 0x1c01c
/-- FIO_CMD_LO (15_field_io.md, R517). -/
def FIO_CMD_LO : Nat := 0x1c020
/-- FIO_CMD_HI (15_field_io.md, R517). -/
def FIO_CMD_HI : Nat := 0x1c024
/-- FIO_DRV_LO (15_field_io.md, R517). -/
def FIO_DRV_LO : Nat := 0x1c028
/-- FIO_DRV_HI (15_field_io.md, R517). -/
def FIO_DRV_HI : Nat := 0x1c02c
/-- FIO_MM_LO (15_field_io.md, R517). -/
def FIO_MM_LO : Nat := 0x1c030
/-- FIO_MM_HI (15_field_io.md, R517). -/
def FIO_MM_HI : Nat := 0x1c034
/-- FIO_PCNT_n (15_field_io.md, R518). -/
def FIO_PCNT (a : Nat) : Nat := 0x1c400 + 0x4 * a
/-- FIO_PSNAP_n (15_field_io.md, R518). -/
def FIO_PSNAP (a : Nat) : Nat := 0x1c500 + 0x4 * a
/-- FIO_PSNAP_SEQ (15_field_io.md, R518). -/
def FIO_PSNAP_SEQ : Nat := 0x1c5c0
/-- FIO_EVT_NS (15_field_io.md, R518). -/
def FIO_EVT_NS : Nat := 0x1c040
/-- FIO_EVT_SEC (15_field_io.md, R518). -/
def FIO_EVT_SEC : Nat := 0x1c044
/-- FIO_EVT_TAG (15_field_io.md, R518). -/
def FIO_EVT_TAG : Nat := 0x1c048
/-- FIO_EVT_CH (15_field_io.md, R518). -/
def FIO_EVT_CH : Nat := 0x1c04c
/-- FIO_EVT_STAT (15_field_io.md, R518). -/
def FIO_EVT_STAT : Nat := 0x1c050
/-- PAIR_TOFFS (16_pairing.md, R545). -/
def PAIR_TOFFS : Nat := 0x10014
/-- PAIR_TDLY (16_pairing.md, R545). -/
def PAIR_TDLY : Nat := 0x10018
/-- PAIR_NOSYNC (16_pairing.md, R545). -/
def PAIR_NOSYNC : Nat := 0x1001c
/-- PAIR_SHARE (16_pairing.md, R545). -/
def PAIR_SHARE : Nat := 0x10020
/-- PAIR_CNT (16_pairing.md, R545). -/
def PAIR_CNT : Nat := 0x10024
/-- PAIR_LNK_A (16_pairing.md, R545). -/
def PAIR_LNK_A : Nat := 0x10028
/-- PAIR_LNK_B (16_pairing.md, R545). -/
def PAIR_LNK_B : Nat := 0x1002c
/-- PAIR_RTL_LO (16_pairing.md, R545). -/
def PAIR_RTL_LO : Nat := 0x10030
/-- PAIR_RTL_HI (16_pairing.md, R545). -/
def PAIR_RTL_HI : Nat := 0x10034
/-- PAIR_LAST (16_pairing.md, R545). -/
def PAIR_LAST : Nat := 0x10038
/-- PAIR_DRILL (16_pairing.md, R545). -/
def PAIR_DRILL : Nat := 0x1003c
/-- PAIR_DRILL_AGE (16_pairing.md, R545). -/
def PAIR_DRILL_AGE : Nat := 0x10040
/-- PWR_AVS_r (18_power_boot.md, R604). -/
def PWR_AVS (a : Nat) : Nat := 0x38010 + 0x4 * a
/-- PWR_VMON (18_power_boot.md, R604). -/
def PWR_VMON : Nat := 0x38024
/-- PWR_TEMP_r (18_power_boot.md, R604). -/
def PWR_TEMP (a : Nat) : Nat := 0x38030 + 0x4 * a
/-- PWR_TCFG (18_power_boot.md, R604). -/
def PWR_TCFG : Nat := 0x38040
/-- PWR_WDT (18_power_boot.md, R604). -/
def PWR_WDT : Nat := 0x38050
/-- PWR_WDT_KICK (18_power_boot.md, R604). -/
def PWR_WDT_KICK : Nat := 0x38054
/-- PWR_FLAG (18_power_boot.md, R604). -/
def PWR_FLAG : Nat := 0x38058
/-- PWR_RST (18_power_boot.md, R604). -/
def PWR_RST : Nat := 0x38060
/-- PWR_KEEP (18_power_boot.md, R604). -/
def PWR_KEEP : Nat := 0x38064
/-- BOOT_MINVER_k (18_power_boot.md, R605). -/
def BOOT_MINVER (a : Nat) : Nat := 0x38110 + 0x4 * a

end Sys2Proof.Reg
end

