-- ==== Sys2Proof/Machine/RegTable.lean ====
section
/-!
DEFINITION. The register table: for every register of the manual its address, instances, power domain, alias and width
rule (R7), the masks of its field types (R5) and its reset value, row by row from the bit tables of spec/.
-/
namespace Sys2Proof

/-- The reset a register obeys: PD_SYS, the PD_REG of its cluster, PD_KEEP (loss of VKEEP), or a power-on reset only
(PWR_HOLD). -/
inductive Dom where
  | sys | reg | keep | por
  deriving DecidableEq, Repr

/-- One register, or one row of equal registers: dims lists (count, stride) for each instance number, outermost first. -/
structure RegRow where
  name : String
  base : Nat
  dims : List (Nat × Nat)
  dom : Dom
  aliases : Bool
  bw : Bool
  rw : Nat
  w1c : Nat
  w1s : Nat
  rc : Nat
  wo : Nat
  ro : Nat
  lock : Nat
  reset : Nat
  deriving DecidableEq, Repr

/-- Registers of spec/01_hierarchy.md. -/
def regRows0 : List RegRow := [
  { name := "CLAIM_TAG", base := 0x404, dims := [], dom := .sys, aliases := true, bw := false, rw := 0xffff, w1c := 0x0, w1s := 0x0, rc := 0x0, wo := 0x0, ro := 0x0, lock := 0x0, reset := 0x0 },
  { name := "CLAIM_CMD", base := 0x400, dims := [], dom := .sys, aliases := false, bw := false, rw := 0x0, w1c := 0x0, w1s := 0x0, rc := 0x0, wo := 0xc000ffff, ro := 0x0, lock := 0x0, reset := 0x0 },
  { name := "CLAIM_RESULT", base := 0x408, dims := [], dom := .sys, aliases := false, bw := false, rw := 0x0, w1c := 0x0, w1s := 0x0, rc := 0x0, wo := 0x0, ro := 0xff03ffff, lock := 0x0, reset := 0x10000 },
  { name := "CLAIM_STAT", base := 0x40c, dims := [], dom := .sys, aliases := false, bw := false, rw := 0x0, w1c := 0x3, w1s := 0x0, rc := 0x0, wo := 0x0, ro := 0x0, lock := 0x0, reset := 0x0 },
  { name := "CLAIM_LAST", base := 0x410, dims := [], dom := .sys, aliases := false, bw := false, rw := 0x0, w1c := 0x0, w1s := 0x0, rc := 0x0, wo := 0x0, ro := 0xffffffff, lock := 0x0, reset := 0x0 },
  { name := "CLAIM_DENY_CNT", base := 0x414, dims := [], dom := .sys, aliases := false, bw := false, rw := 0x0, w1c := 0x0, w1s := 0x0, rc := 0x0, wo := 0x0, ro := 0xffffffff, lock := 0x0, reset := 0x0 },
  { name := "DLK_STAT", base := 0x420, dims := [], dom := .sys, aliases := false, bw := false, rw := 0x0, w1c := 0x7ff0000, w1s := 0x0, rc := 0x0, wo := 0x0, ro := 0x7ff, lock := 0x0, reset := 0x0 },
  { name := "DLK_ERRCNT_n", base := 0x440, dims := [(11, 0x4)], dom := .sys, aliases := false, bw := false, rw := 0x0, w1c := 0x0, w1s := 0x0, rc := 0xffffffff, wo := 0x0, ro := 0x0, lock := 0x0, reset := 0x0 },
  { name := "REG_STAT_n", base := 0x480, dims := [(4, 0x4)], dom := .sys, aliases := false, bw := false, rw := 0x0, w1c := 0x30000, w1s := 0x0, rc := 0xff00, wo := 0x0, ro := 0xc00ff, lock := 0x0, reset := 0x0 } ]

/-- Registers of spec/02_tick.md. -/
def regRows1 : List RegRow := [
  { name := "TICK_IDX", base := 0x500, dims := [], dom := .sys, aliases := false, bw := false, rw := 0x0, w1c := 0x0, w1s := 0x0, rc := 0x0, wo := 0x0, ro := 0xff001fff, lock := 0x0, reset := 0x0 },
  { name := "TICK_SEC_LO", base := 0x504, dims := [], dom := .sys, aliases := false, bw := false, rw := 0x0, w1c := 0x0, w1s := 0x0, rc := 0x0, wo := 0x0, ro := 0xffffffff, lock := 0x0, reset := 0x0 },
  { name := "TICK_SEC_HI", base := 0x508, dims := [], dom := .sys, aliases := false, bw := false, rw := 0x0, w1c := 0x0, w1s := 0x0, rc := 0x0, wo := 0x0, ro := 0xffffffff, lock := 0x0, reset := 0x0 },
  { name := "OVR_CFG", base := 0x90000100, dims := [(16, 0x200000)], dom := .reg, aliases := false, bw := false, rw := 0xff, w1c := 0x0, w1s := 0x0, rc := 0x0, wo := 0x0, ro := 0x0, lock := 0x0, reset := 0x3 },
  { name := "OVR_STAT", base := 0x90000104, dims := [(16, 0x200000)], dom := .reg, aliases := false, bw := false, rw := 0x0, w1c := 0x7, w1s := 0x0, rc := 0x0, wo := 0x0, ro := 0xff0000, lock := 0x0, reset := 0x0 },
  { name := "OVR_CNT", base := 0x90000108, dims := [(16, 0x200000)], dom := .reg, aliases := false, bw := false, rw := 0x0, w1c := 0x0, w1s := 0x0, rc := 0xffffffff, wo := 0x0, ro := 0x0, lock := 0x0, reset := 0x0 },
  { name := "CYC_LAST", base := 0x9000010c, dims := [(16, 0x200000)], dom := .reg, aliases := false, bw := false, rw := 0x0, w1c := 0x0, w1s := 0x0, rc := 0x0, wo := 0x0, ro := 0x1ffff, lock := 0x0, reset := 0x0 },
  { name := "CYC_MAX", base := 0x90000110, dims := [(16, 0x200000)], dom := .reg, aliases := false, bw := false, rw := 0x0, w1c := 0x0, w1s := 0x0, rc := 0x1ffff, wo := 0x0, ro := 0x0, lock := 0x0, reset := 0x0 } ]

/-- Registers of spec/03_stitched_acquisition.md. -/
def regRows2 : List RegRow := [
  { name := "STC_CTRL", base := 0x90050800, dims := [(16, 0x200000), (8, 0x1000)], dom := .reg, aliases := false, bw := false, rw := 0xffff1f03, w1c := 0x0, w1s := 0x0, rc := 0x0, wo := 0x0, ro := 0x0, lock := 0x0, reset := 0x24001800 },
  { name := "STC_STAT", base := 0x90050804, dims := [(16, 0x200000), (8, 0x1000)], dom := .reg, aliases := false, bw := false, rw := 0x0, w1c := 0x6, w1s := 0x0, rc := 0xffff0000, wo := 0x0, ro := 0x19, lock := 0x0, reset := 0x0 },
  { name := "STC_THR_UP", base := 0x90050808, dims := [(16, 0x200000), (8, 0x1000)], dom := .reg, aliases := false, bw := false, rw := 0x7ffffff, w1c := 0x0, w1s := 0x0, rc := 0x0, wo := 0x0, ro := 0x0, lock := 0x0, reset := 0x6666666 },
  { name := "STC_THR_DN", base := 0x9005080c, dims := [(16, 0x200000), (8, 0x1000)], dom := .reg, aliases := false, bw := false, rw := 0x7fffffff, w1c := 0x0, w1s := 0x0, rc := 0x0, wo := 0x0, ro := 0x0, lock := 0x0, reset := 0x2666666 },
  { name := "TRIM_GC", base := 0x90050810, dims := [(16, 0x200000), (8, 0x1000)], dom := .reg, aliases := false, bw := false, rw := 0xffffff, w1c := 0x0, w1s := 0x0, rc := 0x0, wo := 0x0, ro := 0x0, lock := 0x0, reset := 0x0 },
  { name := "TRIM_OC", base := 0x90050814, dims := [(16, 0x200000), (8, 0x1000)], dom := .reg, aliases := false, bw := false, rw := 0xfffff, w1c := 0x0, w1s := 0x0, rc := 0x0, wo := 0x0, ro := 0x0, lock := 0x0, reset := 0x0 },
  { name := "TRIM_GF", base := 0x90050818, dims := [(16, 0x200000), (8, 0x1000)], dom := .reg, aliases := false, bw := false, rw := 0xffffff, w1c := 0x0, w1s := 0x0, rc := 0x0, wo := 0x0, ro := 0x0, lock := 0x0, reset := 0x0 },
  { name := "TRIM_OF", base := 0x9005081c, dims := [(16, 0x200000), (8, 0x1000)], dom := .reg, aliases := false, bw := false, rw := 0xfffff, w1c := 0x0, w1s := 0x0, rc := 0x0, wo := 0x0, ro := 0x0, lock := 0x0, reset := 0x0 },
  { name := "TRIM_PF", base := 0x90050820, dims := [(16, 0x200000), (8, 0x1000)], dom := .reg, aliases := false, bw := false, rw := 0x3ff, w1c := 0x0, w1s := 0x0, rc := 0x0, wo := 0x0, ro := 0x0, lock := 0x0, reset := 0x0 },
  { name := "CAL_CFG", base := 0x90050850, dims := [(16, 0x200000), (8, 0x1000)], dom := .reg, aliases := false, bw := false, rw := 0xffff1ff1, w1c := 0x0, w1s := 0x0, rc := 0x0, wo := 0x0, ro := 0x0, lock := 0x0, reset := 0x8001441 },
  { name := "CAL_STAT", base := 0x90050854, dims := [(16, 0x200000), (8, 0x1000)], dom := .reg, aliases := false, bw := false, rw := 0x0, w1c := 0x2, w1s := 0x0, rc := 0xffff0000, wo := 0x0, ro := 0x5, lock := 0x0, reset := 0x0 },
  { name := "CAL_RESID", base := 0x90050858, dims := [(16, 0x200000), (8, 0x1000)], dom := .reg, aliases := false, bw := false, rw := 0x0, w1c := 0x0, w1s := 0x0, rc := 0x0, wo := 0x0, ro := 0x7fffffff, lock := 0x0, reset := 0x0 },
  { name := "CL_SRC", base := 0x90000200, dims := [(16, 0x200000)], dom := .reg, aliases := false, bw := false, rw := 0xf0f01, w1c := 0x40000000, w1s := 0x0, rc := 0x0, wo := 0x0, ro := 0x80000000, lock := 0x0, reset := 0x20000 },
  { name := "AFE_STAT_n", base := 0x600, dims := [(2, 0x10)], dom := .sys, aliases := false, bw := false, rw := 0x0, w1c := 0x0, w1s := 0x0, rc := 0x0, wo := 0x0, ro := 0xffff001f, lock := 0x0, reset := 0x0 },
  { name := "AFE_CTRL_n", base := 0x604, dims := [(2, 0x10)], dom := .sys, aliases := true, bw := false, rw := 0x0, w1c := 0x0, w1s := 0x0, rc := 0x0, wo := 0x1, ro := 0x0, lock := 0x0, reset := 0x0 },
  { name := "AFE_FAIL_LO_n", base := 0x608, dims := [(2, 0x10)], dom := .sys, aliases := false, bw := false, rw := 0x0, w1c := 0x0, w1s := 0x0, rc := 0x0, wo := 0x0, ro := 0xffffffff, lock := 0x0, reset := 0x0 },
  { name := "AFE_FAIL_HI_n", base := 0x60c, dims := [(2, 0x10)], dom := .sys, aliases := false, bw := false, rw := 0x0, w1c := 0x0, w1s := 0x0, rc := 0x0, wo := 0x0, ro := 0xffffffff, lock := 0x0, reset := 0x0 } ]

/-- Registers of spec/04_filter_chain.md. -/
def regRows3 : List RegRow := [
  { name := "LANE_CTRL", base := 0x90050000, dims := [(16, 0x200000), (8, 0x1000)], dom := .reg, aliases := false, bw := false, rw := 0x1, w1c := 0x0, w1s := 0x0, rc := 0x0, wo := 0x6, ro := 0x80000000, lock := 0x0, reset := 0x1 },
  { name := "LANE_CFG", base := 0x90050004, dims := [(16, 0x200000), (8, 0x1000)], dom := .reg, aliases := false, bw := false, rw := 0xffffffff, w1c := 0x0, w1s := 0x0, rc := 0x0, wo := 0x0, ro := 0x0, lock := 0x0, reset := 0x560b2a49 },
  { name := "LANE_HB", base := 0x90050008, dims := [(16, 0x200000), (8, 0x1000)], dom := .reg, aliases := false, bw := false, rw := 0x3ffff, w1c := 0x0, w1s := 0x0, rc := 0x0, wo := 0x0, ro := 0x0, lock := 0x0, reset := 0x26da },
  { name := "LANE_DELAY", base := 0x9005000c, dims := [(16, 0x200000), (8, 0x1000)], dom := .reg, aliases := false, bw := false, rw := 0xf, w1c := 0x0, w1s := 0x0, rc := 0x0, wo := 0x0, ro := 0x0, lock := 0x0, reset := 0x3 },
  { name := "LANE_GD", base := 0x90050010, dims := [(16, 0x200000), (8, 0x1000)], dom := .reg, aliases := false, bw := false, rw := 0xffffff, w1c := 0x0, w1s := 0x0, rc := 0x0, wo := 0x0, ro := 0x0, lock := 0x0, reset := 0x98968 },
  { name := "LANE_SETTLE", base := 0x90050014, dims := [(16, 0x200000), (8, 0x1000)], dom := .reg, aliases := false, bw := false, rw := 0xff, w1c := 0x0, w1s := 0x0, rc := 0x0, wo := 0x0, ro := 0x0, lock := 0x0, reset := 0x6 },
  { name := "LANE_MIN", base := 0x90050018, dims := [(16, 0x200000), (8, 0x1000)], dom := .reg, aliases := false, bw := false, rw := 0x0, w1c := 0x0, w1s := 0x0, rc := 0x0, wo := 0x0, ro := 0xffffffff, lock := 0x0, reset := 0x47fb306 },
  { name := "LANE_STAT", base := 0x9005001c, dims := [(16, 0x200000), (8, 0x1000)], dom := .reg, aliases := false, bw := false, rw := 0x0, w1c := 0x780, w1s := 0x0, rc := 0x0, wo := 0x0, ro := 0xff00007c, lock := 0x0, reset := 0x0 },
  { name := "LANE_FADE", base := 0x90050020, dims := [(16, 0x200000), (8, 0x1000)], dom := .reg, aliases := false, bw := false, rw := 0x0, w1c := 0x0, w1s := 0x0, rc := 0x0, wo := 0x800301ff, ro := 0x0, lock := 0x0, reset := 0x0 },
  { name := "LANE_CNT", base := 0x90050024, dims := [(16, 0x200000), (8, 0x1000)], dom := .reg, aliases := false, bw := false, rw := 0x0, w1c := 0x0, w1s := 0x0, rc := 0xffffffff, wo := 0x0, ro := 0x0, lock := 0x0, reset := 0x0 },
  { name := "TRK_CFG", base := 0x90000300, dims := [(16, 0x200000)], dom := .reg, aliases := false, bw := false, rw := 0xffff7137, w1c := 0x0, w1s := 0x0, rc := 0x0, wo := 0x0, ro := 0x0, lock := 0x0, reset := 0x1402014 },
  { name := "TRK_PER", base := 0x90000304, dims := [(16, 0x200000)], dom := .reg, aliases := false, bw := false, rw := 0x0, w1c := 0x0, w1s := 0x0, rc := 0x0, wo := 0x0, ro := 0xffffffff, lock := 0x0, reset := 0x48000000 },
  { name := "TRK_FREQ", base := 0x90000308, dims := [(16, 0x200000)], dom := .reg, aliases := false, bw := false, rw := 0x0, w1c := 0x0, w1s := 0x0, rc := 0x0, wo := 0x0, ro := 0xffffffff, lock := 0x0, reset := 0x32000000 },
  { name := "TRK_ROCOF", base := 0x9000030c, dims := [(16, 0x200000)], dom := .reg, aliases := false, bw := false, rw := 0x0, w1c := 0x0, w1s := 0x0, rc := 0x0, wo := 0x0, ro := 0xffffffff, lock := 0x0, reset := 0x0 },
  { name := "TRK_STAT", base := 0x90000310, dims := [(16, 0x200000)], dom := .reg, aliases := false, bw := false, rw := 0x0, w1c := 0xc, w1s := 0x0, rc := 0xffff0000, wo := 0x0, ro := 0x3, lock := 0x0, reset := 0x0 } ]

/-- Registers of spec/05_walso_model.md. -/
def regRows4 : List RegRow := [
  { name := "CORE_CTRL", base := 0x90000000, dims := [(16, 0x200000)], dom := .reg, aliases := false, bw := false, rw := 0x1, w1c := 0x0, w1s := 0x0, rc := 0x0, wo := 0x0, ro := 0x0, lock := 0x0, reset := 0x0 },
  { name := "CORE_CMD", base := 0x90000004, dims := [(16, 0x200000)], dom := .reg, aliases := false, bw := false, rw := 0x0, w1c := 0x0, w1s := 0x0, rc := 0x0, wo := 0xf0000000, ro := 0x0, lock := 0x0, reset := 0x0 },
  { name := "CORE_STAT", base := 0x90000008, dims := [(16, 0x200000)], dom := .reg, aliases := false, bw := false, rw := 0x0, w1c := 0x2e00, w1s := 0x0, rc := 0x0, wo := 0x0, ro := 0x11fa, lock := 0x0, reset := 0x2 },
  { name := "CORE_IMG_ADDR", base := 0x9000000c, dims := [(16, 0x200000)], dom := .reg, aliases := false, bw := false, rw := 0x7fffc0, w1c := 0x0, w1s := 0x0, rc := 0x0, wo := 0x0, ro := 0x0, lock := 0x0, reset := 0x0 },
  { name := "CORE_ACT_AT", base := 0x90000010, dims := [(16, 0x200000)], dom := .reg, aliases := false, bw := false, rw := 0x80001fff, w1c := 0x0, w1s := 0x0, rc := 0x0, wo := 0x0, ro := 0x0, lock := 0x0, reset := 0x0 },
  { name := "CORE_WCET", base := 0x90000014, dims := [(16, 0x200000)], dom := .reg, aliases := false, bw := false, rw := 0x0, w1c := 0x0, w1s := 0x0, rc := 0x0, wo := 0x0, ro := 0x1ffff, lock := 0x0, reset := 0x0 },
  { name := "CORE_IMG_VER", base := 0x90000018, dims := [(16, 0x200000)], dom := .reg, aliases := false, bw := false, rw := 0x0, w1c := 0x0, w1s := 0x0, rc := 0x0, wo := 0x0, ro := 0xffffffff, lock := 0x0, reset := 0x0 },
  { name := "CORE_LAYOUT", base := 0x9000001c, dims := [(16, 0x200000)], dom := .reg, aliases := false, bw := false, rw := 0x0, w1c := 0x0, w1s := 0x0, rc := 0x0, wo := 0x0, ro := 0xffffffff, lock := 0x0, reset := 0x0 },
  { name := "CORE_VAL", base := 0x90000020, dims := [(16, 0x200000)], dom := .reg, aliases := false, bw := false, rw := 0x0, w1c := 0x0, w1s := 0x0, rc := 0x0, wo := 0x0, ro := 0xffffffff, lock := 0x0, reset := 0x0 },
  { name := "CORE_VAL_WCET", base := 0x90000024, dims := [(16, 0x200000)], dom := .reg, aliases := false, bw := false, rw := 0x0, w1c := 0x0, w1s := 0x0, rc := 0x0, wo := 0x0, ro := 0x1ffff, lock := 0x0, reset := 0x0 },
  { name := "CORE_FAULT", base := 0x90000028, dims := [(16, 0x200000)], dom := .reg, aliases := false, bw := false, rw := 0x0, w1c := 0x0, w1s := 0x0, rc := 0x0, wo := 0x0, ro := 0xff003fff, lock := 0x0, reset := 0x0 },
  { name := "CORE_FADDR", base := 0x9000002c, dims := [(16, 0x200000)], dom := .reg, aliases := false, bw := false, rw := 0x0, w1c := 0x0, w1s := 0x0, rc := 0x0, wo := 0x0, ro := 0xffffffff, lock := 0x0, reset := 0x0 },
  { name := "CORE_ECC", base := 0x90000030, dims := [(16, 0x200000)], dom := .reg, aliases := false, bw := false, rw := 0x0, w1c := 0x0, w1s := 0x0, rc := 0xffffffff, wo := 0x0, ro := 0x0, lock := 0x0, reset := 0x0 } ]

/-- Registers of spec/06_walso_instructions.md. -/
def regRows5 : List RegRow := [
  { name := "EVT_STAT", base := 0x90000034, dims := [(16, 0x200000)], dom := .reg, aliases := false, bw := false, rw := 0x0, w1c := 0x0, w1s := 0x0, rc := 0xffff0000, wo := 0x0, ro := 0xf, lock := 0x0, reset := 0x0 } ]

/-- Registers of spec/07_protection_primitives.md. -/
def regRows6 : List RegRow := [
  { name := "IFD_CTRL", base := 0x90080000, dims := [(16, 0x200000)], dom := .reg, aliases := false, bw := false, rw := 0x1, w1c := 0x0, w1s := 0x0, rc := 0x0, wo := 0x0, ro := 0x80000006, lock := 0x1, reset := 0x3 },
  { name := "IFD_KEY", base := 0x90080004, dims := [(16, 0x200000)], dom := .reg, aliases := false, bw := false, rw := 0x0, w1c := 0x0, w1s := 0x0, rc := 0x0, wo := 0xffff, ro := 0x0, lock := 0x0, reset := 0x0 },
  { name := "IFD_CFG", base := 0x90080008, dims := [(16, 0x200000)], dom := .reg, aliases := false, bw := false, rw := 0x300003f, w1c := 0x0, w1s := 0x0, rc := 0x0, wo := 0x0, ro := 0x0, lock := 0x300003f, reset := 0x1000000 },
  { name := "IFD_THR_PH", base := 0x9008000c, dims := [(16, 0x200000)], dom := .reg, aliases := false, bw := false, rw := 0x7fffff, w1c := 0x0, w1s := 0x0, rc := 0x0, wo := 0x0, ro := 0x0, lock := 0x7fffff, reset := 0x7fffff },
  { name := "IFD_HOLD", base := 0x9008001c, dims := [(16, 0x200000)], dom := .reg, aliases := false, bw := false, rw := 0x3fff, w1c := 0x0, w1s := 0x0, rc := 0x0, wo := 0x0, ro := 0x0, lock := 0x3fff, reset := 0x960 },
  { name := "IFD_STAT", base := 0x90080020, dims := [(16, 0x200000)], dom := .reg, aliases := false, bw := false, rw := 0x0, w1c := 0x300, w1s := 0x0, rc := 0x0, wo := 0x0, ro := 0xfffc04f1, lock := 0x0, reset := 0x0 },
  { name := "IFD_CNT", base := 0x90080024, dims := [(16, 0x200000)], dom := .reg, aliases := false, bw := false, rw := 0x0, w1c := 0x0, w1s := 0x0, rc := 0xffffffff, wo := 0x0, ro := 0x0, lock := 0x0, reset := 0x0 },
  { name := "CL_ROLE", base := 0x90080028, dims := [(16, 0x200000)], dom := .reg, aliases := false, bw := false, rw := 0xffffffff, w1c := 0x0, w1s := 0x0, rc := 0x0, wo := 0x0, ro := 0x0, lock := 0xffffffff, reset := 0x76543210 },
  { name := "CD_CFG", base := 0x9008002c, dims := [(16, 0x200000)], dom := .reg, aliases := false, bw := false, rw := 0xff7fffff, w1c := 0x0, w1s := 0x0, rc := 0x0, wo := 0x0, ro := 0x0, lock := 0xff7fffff, reset := 0x187fffff },
  { name := "FPD_CFG_l", base := 0x90080100, dims := [(16, 0x200000), (8, 0x4)], dom := .reg, aliases := false, bw := false, rw := 0xffff7fff, w1c := 0x0, w1s := 0x0, rc := 0x0, wo := 0x0, ro := 0x0, lock := 0x0, reset := 0x7337fff },
  { name := "FPD_GRP", base := 0x90080120, dims := [(16, 0x200000)], dom := .reg, aliases := false, bw := false, rw := 0xff, w1c := 0x0, w1s := 0x0, rc := 0x0, wo := 0x0, ro := 0x0, lock := 0x0, reset := 0xf },
  { name := "AF_CFG", base := 0x90080124, dims := [(16, 0x200000)], dom := .reg, aliases := false, bw := false, rw := 0x803f07ff, w1c := 0x0, w1s := 0x0, rc := 0x0, wo := 0x0, ro := 0x0, lock := 0x0, reset := 0x0 },
  { name := "FPD_STAT", base := 0x90080128, dims := [(16, 0x200000)], dom := .reg, aliases := false, bw := false, rw := 0x0, w1c := 0xff000800, w1s := 0x0, rc := 0x0, wo := 0x0, ro := 0x7ff, lock := 0x0, reset := 0x0 },
  { name := "WF_STAT", base := 0x90080140, dims := [(16, 0x200000)], dom := .reg, aliases := false, bw := false, rw := 0x0, w1c := 0x0, w1s := 0x0, rc := 0xffff0000, wo := 0x0, ro := 0x1f, lock := 0x0, reset := 0x0 },
  { name := "WF_CTRL", base := 0x90080144, dims := [(16, 0x200000)], dom := .reg, aliases := false, bw := false, rw := 0x0, w1c := 0x0, w1s := 0x0, rc := 0x0, wo := 0x3, ro := 0x0, lock := 0x0, reset := 0x0 },
  { name := "WF_H0", base := 0x90080150, dims := [(16, 0x200000)], dom := .reg, aliases := false, bw := false, rw := 0x0, w1c := 0x0, w1s := 0x0, rc := 0x0, wo := 0x0, ro := 0xffffffff, lock := 0x0, reset := 0x0 },
  { name := "WF_H1", base := 0x90080154, dims := [(16, 0x200000)], dom := .reg, aliases := false, bw := false, rw := 0x0, w1c := 0x0, w1s := 0x0, rc := 0x0, wo := 0x0, ro := 0xffffffff, lock := 0x0, reset := 0x0 },
  { name := "WF_H2", base := 0x90080158, dims := [(16, 0x200000)], dom := .reg, aliases := false, bw := false, rw := 0x0, w1c := 0x0, w1s := 0x0, rc := 0x0, wo := 0x0, ro := 0xffff001f, lock := 0x0, reset := 0x0 },
  { name := "WF_H3", base := 0x9008015c, dims := [(16, 0x200000)], dom := .reg, aliases := false, bw := false, rw := 0x0, w1c := 0x0, w1s := 0x0, rc := 0x0, wo := 0x0, ro := 0xffffffff, lock := 0x0, reset := 0x0 },
  { name := "CRV_MODE_n", base := 0x90090000, dims := [(16, 0x200000), (32, 0x10)], dom := .reg, aliases := false, bw := false, rw := 0xffffff3f, w1c := 0x0, w1s := 0x0, rc := 0x0, wo := 0x0, ro := 0x0, lock := 0x0, reset := 0x0 },
  { name := "CRV_INT_n", base := 0x90090200, dims := [(16, 0x200000), (32, 0x4)], dom := .reg, aliases := false, bw := false, rw := 0x0, w1c := 0x0, w1s := 0x0, rc := 0x0, wo := 0x0, ro := 0xffffffff, lock := 0x0, reset := 0x0 },
  { name := "CMP_CNT_n", base := 0x9009100c, dims := [(16, 0x200000), (64, 0x10)], dom := .reg, aliases := false, bw := false, rw := 0xffff7fff, w1c := 0x0, w1s := 0x0, rc := 0x0, wo := 0x0, ro := 0x0, lock := 0x0, reset := 0x10001 },
  { name := "CMP_ST_n", base := 0x90091700, dims := [(16, 0x200000), (64, 0x4)], dom := .reg, aliases := false, bw := false, rw := 0x0, w1c := 0x0, w1s := 0x0, rc := 0x0, wo := 0x0, ro := 0xffff7fff, lock := 0x0, reset := 0x0 },
  { name := "TMR_CFG_n", base := 0x90091400, dims := [(16, 0x200000), (64, 0x8)], dom := .reg, aliases := false, bw := false, rw := 0xc0ffffff, w1c := 0x0, w1s := 0x0, rc := 0x0, wo := 0x0, ro := 0x0, lock := 0x0, reset := 0x0 } ]

/-- Registers of spec/07_protection_primitives.md. -/
def regRows7 : List RegRow := [
  { name := "TMR_OFF_n", base := 0x90091404, dims := [(16, 0x200000), (64, 0x8)], dom := .reg, aliases := false, bw := false, rw := 0xffffff, w1c := 0x0, w1s := 0x0, rc := 0x0, wo := 0x0, ro := 0x0, lock := 0x0, reset := 0x0 },
  { name := "TMR_ST_n", base := 0x90091600, dims := [(16, 0x200000), (64, 0x4)], dom := .reg, aliases := false, bw := false, rw := 0x0, w1c := 0x0, w1s := 0x0, rc := 0x0, wo := 0x0, ro := 0xc0ffffff, lock := 0x0, reset := 0x0 },
  { name := "CRV_STAT", base := 0x90091f00, dims := [(16, 0x200000)], dom := .reg, aliases := false, bw := false, rw := 0x0, w1c := 0x3, w1s := 0x0, rc := 0x0, wo := 0x0, ro := 0x0, lock := 0x0, reset := 0x0 } ]

/-- Registers of spec/08_trip_lines.md. -/
def regRows8 : List RegRow := [
  { name := "TL_SRC0_n", base := 0x18000, dims := [(64, 0x4)], dom := .sys, aliases := true, bw := false, rw := 0xffffffff, w1c := 0x0, w1s := 0x0, rc := 0x0, wo := 0x0, ro := 0x0, lock := 0x0, reset := 0x0 },
  { name := "TL_GUARD_n", base := 0x18400, dims := [(64, 0x4)], dom := .sys, aliases := true, bw := false, rw := 0xe000ffff, w1c := 0x0, w1s := 0x0, rc := 0x0, wo := 0x0, ro := 0x0, lock := 0xe0000000, reset := 0x0 },
  { name := "TL_PULSE_n", base := 0x18500, dims := [(64, 0x4)], dom := .sys, aliases := true, bw := false, rw := 0xffc003ff, w1c := 0x0, w1s := 0x0, rc := 0x0, wo := 0x0, ro := 0x0, lock := 0x0, reset := 0x0 },
  { name := "TL_BF_n", base := 0x18600, dims := [(64, 0x4)], dom := .sys, aliases := true, bw := false, rw := 0xbff01fff, w1c := 0x0, w1s := 0x0, rc := 0x0, wo := 0x0, ro := 0x0, lock := 0x0, reset := 0x1 },
  { name := "TL_DST0_n", base := 0x18700, dims := [(64, 0x4)], dom := .sys, aliases := true, bw := false, rw := 0xffffffff, w1c := 0x0, w1s := 0x0, rc := 0x0, wo := 0x0, ro := 0x0, lock := 0x0, reset := 0x0 },
  { name := "TL_DST1_n", base := 0x18800, dims := [(64, 0x4)], dom := .sys, aliases := true, bw := false, rw := 0xe1ffffff, w1c := 0x0, w1s := 0x0, rc := 0x0, wo := 0x0, ro := 0x0, lock := 0x0, reset := 0x0 },
  { name := "TL_STAT_n", base := 0x18900, dims := [(64, 0x4)], dom := .sys, aliases := false, bw := false, rw := 0x0, w1c := 0x0, w1s := 0x0, rc := 0x0, wo := 0x0, ro := 0xff001fff, lock := 0x0, reset := 0x0 },
  { name := "TL_FLAG_n", base := 0x18a00, dims := [(64, 0x4)], dom := .sys, aliases := false, bw := false, rw := 0x0, w1c := 0xf, w1s := 0x0, rc := 0x0, wo := 0x0, ro := 0x0, lock := 0x0, reset := 0x0 },
  { name := "TL_CNT_n", base := 0x18b00, dims := [(64, 0x4)], dom := .sys, aliases := false, bw := false, rw := 0x0, w1c := 0x0, w1s := 0x0, rc := 0xffffffff, wo := 0x0, ro := 0x0, lock := 0x0, reset := 0x0 },
  { name := "TL_RUN_LO", base := 0x18c00, dims := [], dom := .sys, aliases := true, bw := false, rw := 0xffffffff, w1c := 0x0, w1s := 0x0, rc := 0x0, wo := 0x0, ro := 0x0, lock := 0x0, reset := 0x0 },
  { name := "TRIP_KEY", base := 0x18c18, dims := [], dom := .sys, aliases := false, bw := false, rw := 0x0, w1c := 0x0, w1s := 0x0, rc := 0x0, wo := 0x3fffff, ro := 0x0, lock := 0x0, reset := 0x0 },
  { name := "TRIP_STAT", base := 0x18c1c, dims := [], dom := .sys, aliases := false, bw := false, rw := 0x0, w1c := 0x1f, w1s := 0x0, rc := 0x0, wo := 0x0, ro := 0x0, lock := 0x0, reset := 0x0 } ]

/-- Registers of spec/09_lathe.md. -/
def regRows9 : List RegRow := [
  { name := "LTH_CTRL", base := 0x14000, dims := [], dom := .sys, aliases := false, bw := false, rw := 0xc0000000, w1c := 0x0, w1s := 0x0, rc := 0x0, wo := 0x3, ro := 0x0, lock := 0x0, reset := 0x0 },
  { name := "LTH_CFG", base := 0x14004, dims := [], dom := .sys, aliases := true, bw := false, rw := 0xcf000000, w1c := 0x0, w1s := 0x0, rc := 0x0, wo := 0x0, ro := 0x0, lock := 0x0, reset := 0x0 },
  { name := "LTH_STAT", base := 0x14008, dims := [], dom := .sys, aliases := false, bw := false, rw := 0x0, w1c := 0x1e00000, w1s := 0x0, rc := 0x0, wo := 0x0, ro := 0xfe00ffff, lock := 0x0, reset := 0x0 },
  { name := "LTH_HALT", base := 0x1400c, dims := [], dom := .sys, aliases := false, bw := false, rw := 0x0, w1c := 0x0, w1s := 0x0, rc := 0x0, wo := 0x0, ro := 0xfff1ffff, lock := 0x0, reset := 0x0 },
  { name := "LTH_CMD", base := 0x14010, dims := [], dom := .sys, aliases := false, bw := false, rw := 0x0, w1c := 0x0, w1s := 0x0, rc := 0x0, wo := 0xf0000000, ro := 0x0, lock := 0x0, reset := 0x0 },
  { name := "LTH_RCK", base := 0x14014, dims := [], dom := .sys, aliases := false, bw := false, rw := 0x0, w1c := 0x20, w1s := 0x0, rc := 0x0, wo := 0x0, ro := 0xffc0001f, lock := 0x0, reset := 0x0 },
  { name := "LTH_IMG_ADDR", base := 0x14018, dims := [], dom := .sys, aliases := false, bw := false, rw := 0x7fffc0, w1c := 0x0, w1s := 0x0, rc := 0x0, wo := 0x0, ro := 0x0, lock := 0x0, reset := 0x0 },
  { name := "LTH_SW_AT", base := 0x1401c, dims := [], dom := .sys, aliases := false, bw := false, rw := 0x80001fff, w1c := 0x0, w1s := 0x0, rc := 0x0, wo := 0x0, ro := 0x0, lock := 0x0, reset := 0x0 },
  { name := "LTH_TURN_LO", base := 0x14020, dims := [], dom := .sys, aliases := false, bw := false, rw := 0x0, w1c := 0x0, w1s := 0x0, rc := 0x0, wo := 0x0, ro := 0xffffffff, lock := 0x0, reset := 0x0 },
  { name := "LTH_TURN_HI", base := 0x14024, dims := [], dom := .sys, aliases := false, bw := false, rw := 0x0, w1c := 0x0, w1s := 0x0, rc := 0x0, wo := 0x0, ro := 0xffffffff, lock := 0x0, reset := 0x0 },
  { name := "LTH_OVR_CNT", base := 0x14028, dims := [], dom := .sys, aliases := false, bw := false, rw := 0x0, w1c := 0x0, w1s := 0x0, rc := 0xffffffff, wo := 0x0, ro := 0x0, lock := 0x0, reset := 0x0 },
  { name := "LTH_CYC_LAST", base := 0x1402c, dims := [], dom := .sys, aliases := false, bw := false, rw := 0x0, w1c := 0x0, w1s := 0x0, rc := 0x0, wo := 0x0, ro := 0xffffffff, lock := 0x0, reset := 0x0 },
  { name := "LTH_CYC_MAX", base := 0x14030, dims := [], dom := .sys, aliases := false, bw := false, rw := 0x0, w1c := 0x0, w1s := 0x0, rc := 0xffffffff, wo := 0x0, ro := 0x0, lock := 0x0, reset := 0x0 },
  { name := "LTH_VAL", base := 0x14034, dims := [], dom := .sys, aliases := false, bw := false, rw := 0x0, w1c := 0x0, w1s := 0x0, rc := 0x0, wo := 0x0, ro := 0xffffffff, lock := 0x0, reset := 0x0 },
  { name := "LTH_RET", base := 0x14038, dims := [], dom := .sys, aliases := false, bw := false, rw := 0x0, w1c := 0x0, w1s := 0x0, rc := 0x0, wo := 0x0, ro := 0xffff0f, lock := 0x0, reset := 0x0 },
  { name := "LTH_BITS", base := 0x1403c, dims := [], dom := .sys, aliases := false, bw := false, rw := 0x0, w1c := 0x0, w1s := 0x0, rc := 0x0, wo := 0x0, ro := 0xffffffff, lock := 0x0, reset := 0x0 },
  { name := "METER_CFG", base := 0x14040, dims := [], dom := .sys, aliases := true, bw := false, rw := 0x8ff0ffff, w1c := 0x0, w1s := 0x0, rc := 0x0, wo := 0x0, ro := 0x0, lock := 0x0, reset := 0x600000 },
  { name := "METER_STAT", base := 0x14044, dims := [], dom := .sys, aliases := false, bw := false, rw := 0x0, w1c := 0x0, w1s := 0x0, rc := 0xffff0000, wo := 0x0, ro := 0xffff, lock := 0x0, reset := 0x0 } ]

/-- Registers of spec/10_blaze_recording.md. -/
def regRows10 : List RegRow := [
  { name := "REC_CTRL", base := 0x34000, dims := [(4, 0x300)], dom := .sys, aliases := true, bw := false, rw := 0x1, w1c := 0x0, w1s := 0x0, rc := 0x0, wo := 0x0, ro := 0x0, lock := 0x0, reset := 0x0 },
  { name := "REC_CFG", base := 0x34004, dims := [(4, 0x300)], dom := .sys, aliases := false, bw := false, rw := 0x80ffffff, w1c := 0x0, w1s := 0x0, rc := 0x0, wo := 0x0, ro := 0x0, lock := 0x0, reset := 0x80098968 },
  { name := "REC_PART", base := 0x34018, dims := [(4, 0x300)], dom := .sys, aliases := false, bw := false, rw := 0x3f003f, w1c := 0x0, w1s := 0x0, rc := 0x0, wo := 0x0, ro := 0x0, lock := 0x0, reset := 0x0 },
  { name := "REC_WB", base := 0x34028, dims := [(4, 0x300)], dom := .sys, aliases := false, bw := false, rw := 0xffffffff, w1c := 0x0, w1s := 0x0, rc := 0x0, wo := 0x0, ro := 0x0, lock := 0x0, reset := 0x0 },
  { name := "REC_CMD", base := 0x3402c, dims := [(4, 0x300)], dom := .sys, aliases := false, bw := false, rw := 0x0, w1c := 0x0, w1s := 0x0, rc := 0x0, wo := 0xf0000000, ro := 0x0, lock := 0x0, reset := 0x0 },
  { name := "REC_ARG", base := 0x34030, dims := [(4, 0x300)], dom := .sys, aliases := false, bw := false, rw := 0xffffffff, w1c := 0x0, w1s := 0x0, rc := 0x0, wo := 0x0, ro := 0x0, lock := 0x0, reset := 0x0 },
  { name := "REC_STAT", base := 0x34034, dims := [(4, 0x300)], dom := .sys, aliases := false, bw := false, rw := 0x0, w1c := 0x78, w1s := 0x0, rc := 0x0, wo := 0x0, ro := 0x386, lock := 0x0, reset := 0x0 },
  { name := "REC_SEG", base := 0x34038, dims := [(4, 0x300)], dom := .sys, aliases := false, bw := false, rw := 0x0, w1c := 0x0, w1s := 0x0, rc := 0x0, wo := 0x0, ro := 0xffff3f3f, lock := 0x0, reset := 0x0 },
  { name := "REC_CNT", base := 0x3403c, dims := [(4, 0x300)], dom := .sys, aliases := false, bw := false, rw := 0x0, w1c := 0x0, w1s := 0x0, rc := 0xffffffff, wo := 0x0, ro := 0x0, lock := 0x0, reset := 0x0 },
  { name := "REC_LAST", base := 0x34040, dims := [(4, 0x300)], dom := .sys, aliases := false, bw := false, rw := 0x0, w1c := 0x0, w1s := 0x0, rc := 0x0, wo := 0x0, ro := 0xffffffff, lock := 0x0, reset := 0x0 },
  { name := "BLZ_CTRL", base := 0x34044, dims := [(4, 0x300)], dom := .sys, aliases := true, bw := false, rw := 0x1, w1c := 0x0, w1s := 0x0, rc := 0x0, wo := 0x0, ro := 0x0, lock := 0x0, reset := 0x0 },
  { name := "BLZ_STAT", base := 0x34048, dims := [(4, 0x300)], dom := .sys, aliases := false, bw := false, rw := 0x0, w1c := 0x2000000, w1s := 0x0, rc := 0x0, wo := 0x0, ro := 0xfc0000ff, lock := 0x0, reset := 0x0 },
  { name := "GAUGE_g", base := 0x3408c, dims := [(4, 0x300), (8, 0x4)], dom := .sys, aliases := false, bw := false, rw := 0x1ff037f, w1c := 0x0, w1s := 0x0, rc := 0x0, wo := 0x60000000, ro := 0x80000000, lock := 0x0, reset := 0x10000 },
  { name := "BLZ_PRED_p", base := 0x34100, dims := [(4, 0x300), (64, 0x4)], dom := .sys, aliases := false, bw := false, rw := 0xffc003ff, w1c := 0x0, w1s := 0x0, rc := 0x0, wo := 0x0, ro := 0x0, lock := 0x0, reset := 0x0 },
  { name := "BLZ_COND_q_r", base := 0x34200, dims := [(4, 0x300), (16, 0x8), (2, 0x4)], dom := .sys, aliases := false, bw := false, rw := 0x3ffff, w1c := 0x0, w1s := 0x0, rc := 0x0, wo := 0x0, ro := 0x0, lock := 0x0, reset := 0xff },
  { name := "BLZ_ACT_q_r", base := 0x34280, dims := [(4, 0x300), (16, 0x8), (2, 0x4)], dom := .sys, aliases := false, bw := false, rw := 0xc01fffff, w1c := 0x0, w1s := 0x0, rc := 0x0, wo := 0x0, ro := 0x0, lock := 0x0, reset := 0x0 },
  { name := "STORE_USED_LO", base := 0x34c00, dims := [], dom := .sys, aliases := false, bw := false, rw := 0x0, w1c := 0x0, w1s := 0x0, rc := 0x0, wo := 0x0, ro := 0xffffffff, lock := 0x0, reset := 0x0 },
  { name := "STORE_USED_HI", base := 0x34c04, dims := [], dom := .sys, aliases := false, bw := false, rw := 0x0, w1c := 0x0, w1s := 0x0, rc := 0x0, wo := 0x0, ro := 0xff, lock := 0x0, reset := 0x0 },
  { name := "STORE_MEDIA", base := 0x34c08, dims := [], dom := .sys, aliases := false, bw := false, rw := 0x0, w1c := 0x0, w1s := 0x0, rc := 0xffffffff, wo := 0x0, ro := 0x0, lock := 0x0, reset := 0x0 } ]

/-- Registers of spec/11_tally.md. -/
def regRows11 : List RegRow := [
  { name := "TALLY_CTRL", base := 0xc000, dims := [], dom := .sys, aliases := false, bw := false, rw := 0x0, w1c := 0x0, w1s := 0x0, rc := 0x0, wo := 0x1, ro := 0x0, lock := 0x0, reset := 0x0 },
  { name := "TALLY_STAT", base := 0xc004, dims := [], dom := .sys, aliases := false, bw := false, rw := 0x0, w1c := 0x58, w1s := 0x0, rc := 0xffff0000, wo := 0x0, ro := 0x27, lock := 0x0, reset := 0x0 },
  { name := "TALLY_WPTR", base := 0xc008, dims := [], dom := .sys, aliases := false, bw := false, rw := 0x0, w1c := 0x0, w1s := 0x0, rc := 0x0, wo := 0x0, ro := 0x7ffff, lock := 0x0, reset := 0x0 },
  { name := "TALLY_SEQ_NEXT", base := 0xc00c, dims := [], dom := .sys, aliases := false, bw := false, rw := 0x0, w1c := 0x0, w1s := 0x0, rc := 0x0, wo := 0x0, ro := 0xffffffff, lock := 0x0, reset := 0x0 },
  { name := "TALLY_DROP", base := 0xc010, dims := [], dom := .keep, aliases := false, bw := false, rw := 0x0, w1c := 0x0, w1s := 0x0, rc := 0x0, wo := 0x0, ro := 0xffffffff, lock := 0x0, reset := 0x0 },
  { name := "TALLY_BAD_CNT", base := 0xc014, dims := [], dom := .sys, aliases := false, bw := false, rw := 0x0, w1c := 0x0, w1s := 0x0, rc := 0x0, wo := 0x0, ro := 0x3ffff, lock := 0x0, reset := 0x0 },
  { name := "TALLY_CLR_CMD", base := 0xc080, dims := [], dom := .sys, aliases := false, bw := false, rw := 0x0, w1c := 0x0, w1s := 0x0, rc := 0x0, wo := 0xf0000007, ro := 0x0, lock := 0x0, reset := 0x0 },
  { name := "TALLY_CLR_STAT", base := 0xc0a4, dims := [], dom := .sys, aliases := false, bw := false, rw := 0x0, w1c := 0xe, w1s := 0x0, rc := 0x0, wo := 0x0, ro := 0xfffff001, lock := 0x0, reset := 0x0 },
  { name := "TALLY_LR_STAT", base := 0xc0b0, dims := [], dom := .keep, aliases := false, bw := false, rw := 0x0, w1c := 0x0, w1s := 0x0, rc := 0x0, wo := 0x80000000, ro := 0xf, lock := 0x0, reset := 0x0 } ]

/-- Registers of spec/12_time_base.md. -/
def regRows12 : List RegRow := [
  { name := "TB_CTRL", base := 0x8000, dims := [], dom := .sys, aliases := false, bw := false, rw := 0xf33, w1c := 0x0, w1s := 0x0, rc := 0x0, wo := 0x0, ro := 0x0, lock := 0x0, reset := 0x800 },
  { name := "TB_STAT", base := 0x8004, dims := [], dom := .sys, aliases := false, bw := false, rw := 0x0, w1c := 0x2c0, w1s := 0x0, rc := 0x0, wo := 0x0, ro := 0xff000d3f, lock := 0x0, reset := 0xc },
  { name := "TB_CMD", base := 0x8008, dims := [], dom := .sys, aliases := false, bw := false, rw := 0x0, w1c := 0x0, w1s := 0x0, rc := 0x0, wo := 0xf0000000, ro := 0x0, lock := 0x0, reset := 0x0 },
  { name := "TB_SERVO", base := 0x8038, dims := [], dom := .sys, aliases := false, bw := false, rw := 0xff0f0f, w1c := 0x0, w1s := 0x0, rc := 0x0, wo := 0x0, ro := 0x0, lock := 0x0, reset := 0x1e0401 },
  { name := "ALM_CTRL_n", base := 0x8100, dims := [(16, 0x20)], dom := .sys, aliases := false, bw := false, rw := 0xf, w1c := 0x0, w1s := 0x0, rc := 0x0, wo := 0x60000000, ro := 0x80000000, lock := 0x0, reset := 0x0 },
  { name := "TIO_CFG_n", base := 0x8400, dims := [(4, 0x40)], dom := .sys, aliases := false, bw := false, rw := 0xf7, w1c := 0x0, w1s := 0x0, rc := 0x0, wo := 0x0, ro := 0x0, lock := 0x0, reset := 0x10 } ]

/-- Registers of spec/13_ethernet.md. -/
def regRows13 : List RegRow := [
  { name := "ETH_CTRL", base := 0x20000, dims := [], dom := .sys, aliases := true, bw := false, rw := 0x337, w1c := 0x0, w1s := 0x0, rc := 0x0, wo := 0x80000000, ro := 0x0, lock := 0x0, reset := 0x0 },
  { name := "ETH_ISTAT", base := 0x20008, dims := [], dom := .sys, aliases := false, bw := false, rw := 0x0, w1c := 0xff01f, w1s := 0x0, rc := 0x0, wo := 0x0, ro := 0x0, lock := 0x0, reset := 0x0 } ]

/-- Registers of spec/14_can_fd.md. -/
def regRows14 : List RegRow := [
  { name := "CAN_CTRL", base := 0x24000, dims := [(4, 0x4000)], dom := .sys, aliases := true, bw := false, rw := 0xfe000000, w1c := 0x0, w1s := 0x0, rc := 0x0, wo := 0x0, ro := 0x0, lock := 0x0, reset := 0x80000000 },
  { name := "CAN_STAT", base := 0x24004, dims := [(4, 0x4000)], dom := .sys, aliases := false, bw := false, rw := 0x0, w1c := 0x0, w1s := 0x0, rc := 0x0, wo := 0x0, ro := 0xfe0000ff, lock := 0x0, reset := 0x0 },
  { name := "CAN_NBT", base := 0x24008, dims := [(4, 0x4000)], dom := .sys, aliases := false, bw := false, rw := 0xfffffcff, w1c := 0x0, w1s := 0x0, rc := 0x0, wo := 0x0, ro := 0x0, lock := 0x0, reset := 0x1e3cf800 },
  { name := "CAN_DBT", base := 0x2400c, dims := [(4, 0x4000)], dom := .sys, aliases := false, bw := false, rw := 0xff1f1f, w1c := 0x0, w1s := 0x0, rc := 0x0, wo := 0x0, ro := 0x0, lock := 0x0, reset := 0x110600 },
  { name := "CAN_TDC", base := 0x24010, dims := [(4, 0x4000)], dom := .sys, aliases := false, bw := false, rw := 0x7f, w1c := 0x0, w1s := 0x0, rc := 0x0, wo := 0x0, ro := 0x7f000000, lock := 0x0, reset := 0x8 },
  { name := "CAN_ERR", base := 0x24014, dims := [(4, 0x4000)], dom := .sys, aliases := false, bw := false, rw := 0x0, w1c := 0x0, w1s := 0x0, rc := 0x0, wo := 0x0, ro := 0xff01ff, lock := 0x0, reset := 0x0 } ]

/-- Registers of spec/15_field_io.md. -/
def regRows15 : List RegRow := [
  { name := "FIO_CTRL", base := 0x1c000, dims := [], dom := .sys, aliases := true, bw := false, rw := 0x1, w1c := 0x0, w1s := 0x0, rc := 0x0, wo := 0x0, ro := 0x0, lock := 0x0, reset := 0x0 },
  { name := "FIO_STAT", base := 0x1c004, dims := [], dom := .sys, aliases := false, bw := false, rw := 0x0, w1c := 0x0, w1s := 0x0, rc := 0x0, wo := 0x0, ro := 0xf, lock := 0x0, reset := 0x0 },
  { name := "FIO_FSTAT", base := 0x1c008, dims := [], dom := .sys, aliases := false, bw := false, rw := 0x0, w1c := 0x1ff, w1s := 0x0, rc := 0x0, wo := 0x0, ro := 0x0, lock := 0x0, reset := 0x0 },
  { name := "FIO_CFG_n", base := 0x1c100, dims := [(48, 0x4)], dom := .sys, aliases := false, bw := false, rw := 0xfe007fff, w1c := 0x0, w1s := 0x0, rc := 0x0, wo := 0x0, ro := 0x0, lock := 0x0, reset := 0x3e8 },
  { name := "FIO_GRP_b", base := 0x1c200, dims := [(6, 0x4)], dom := .sys, aliases := false, bw := false, rw := 0x3f, w1c := 0x0, w1s := 0x0, rc := 0x0, wo := 0x0, ro := 0x0, lock := 0x0, reset := 0x0 },
  { name := "FIO_BANK_b", base := 0x1c220, dims := [(6, 0x4)], dom := .sys, aliases := false, bw := false, rw := 0x0, w1c := 0xc0000, w1s := 0x0, rc := 0x0, wo := 0x0, ro := 0x3ffff, lock := 0x0, reset := 0x0 },
  { name := "FIO_FLT_n", base := 0x1c300, dims := [(48, 0x4)], dom := .sys, aliases := false, bw := false, rw := 0x0, w1c := 0xf, w1s := 0x0, rc := 0xff000000, wo := 0x0, ro := 0x300, lock := 0x0, reset := 0x0 } ]

/-- Registers of spec/16_pairing.md. -/
def regRows16 : List RegRow := [
  { name := "PAIR_CFG", base := 0x10000, dims := [], dom := .sys, aliases := false, bw := false, rw := 0x80ffff3f, w1c := 0x0, w1s := 0x0, rc := 0x0, wo := 0x0, ro := 0x40000000, lock := 0x0, reset := 0xa0a0f },
  { name := "PAIR_CTRL", base := 0x10004, dims := [], dom := .sys, aliases := true, bw := false, rw := 0x1, w1c := 0x0, w1s := 0x0, rc := 0x0, wo := 0x0, ro := 0x0, lock := 0x0, reset := 0x0 },
  { name := "PAIR_CMD", base := 0x10008, dims := [], dom := .sys, aliases := false, bw := false, rw := 0x0, w1c := 0x0, w1s := 0x0, rc := 0x0, wo := 0xf0003fff, ro := 0x0, lock := 0x0, reset := 0x0 },
  { name := "PAIR_STAT", base := 0x1000c, dims := [], dom := .sys, aliases := false, bw := false, rw := 0x0, w1c := 0x0, w1s := 0x0, rc := 0x0, wo := 0x0, ro := 0xffffff07, lock := 0x0, reset := 0x7 },
  { name := "PAIR_FLAG", base := 0x10010, dims := [], dom := .sys, aliases := false, bw := false, rw := 0x0, w1c := 0xff, w1s := 0x0, rc := 0x0, wo := 0x0, ro := 0x0, lock := 0x0, reset := 0x0 } ]

/-- Registers of spec/17_host_bus.md. -/
def regRows17 : List RegRow := [
  { name := "SYS_PART", base := 0x0, dims := [], dom := .sys, aliases := false, bw := false, rw := 0x0, w1c := 0x0, w1s := 0x0, rc := 0x0, wo := 0x0, ro := 0xffffff01, lock := 0x0, reset := 0x41284100 },
  { name := "SYS_DEVID", base := 0x4, dims := [], dom := .sys, aliases := false, bw := false, rw := 0x0, w1c := 0x0, w1s := 0x0, rc := 0x0, wo := 0x0, ro := 0xffffffff, lock := 0x0, reset := 0x0 },
  { name := "SYS_RST", base := 0x10, dims := [], dom := .sys, aliases := false, bw := false, rw := 0x0, w1c := 0x0, w1s := 0x0, rc := 0x0, wo := 0xffff010f, ro := 0x0, lock := 0x0, reset := 0x0 },
  { name := "HBI_STAT", base := 0x4000, dims := [], dom := .sys, aliases := false, bw := false, rw := 0x0, w1c := 0x3e, w1s := 0x0, rc := 0x0, wo := 0x0, ro := 0x80000000, lock := 0x0, reset := 0x0 },
  { name := "HBI_ERR_ADDR", base := 0x4004, dims := [], dom := .sys, aliases := false, bw := false, rw := 0x0, w1c := 0x0, w1s := 0x0, rc := 0x0, wo := 0x0, ro := 0xff0ffffc, lock := 0x0, reset := 0x0 },
  { name := "HBI_IND_ADDR", base := 0x4010, dims := [], dom := .sys, aliases := false, bw := false, rw := 0xffffffff, w1c := 0x0, w1s := 0x0, rc := 0x0, wo := 0x0, ro := 0x0, lock := 0x0, reset := 0x0 },
  { name := "HBI_IND_DATA", base := 0x4014, dims := [], dom := .sys, aliases := false, bw := false, rw := 0xffffffff, w1c := 0x0, w1s := 0x0, rc := 0x0, wo := 0x0, ro := 0x0, lock := 0x0, reset := 0x0 },
  { name := "HBI_IND_CTRL", base := 0x4018, dims := [], dom := .sys, aliases := false, bw := false, rw := 0xb0ffffff, w1c := 0x0, w1s := 0x0, rc := 0x0, wo := 0x0, ro := 0x0, lock := 0x0, reset := 0x4 },
  { name := "HBI_IND_STAT", base := 0x401c, dims := [], dom := .sys, aliases := false, bw := false, rw := 0x0, w1c := 0x6, w1s := 0x0, rc := 0x0, wo := 0x0, ro := 0xf01f0f19, lock := 0x0, reset := 0x0 },
  { name := "HBI_SCRATCH", base := 0x4020, dims := [], dom := .sys, aliases := true, bw := true, rw := 0xffffffff, w1c := 0x0, w1s := 0x0, rc := 0x0, wo := 0x0, ro := 0x0, lock := 0x0, reset := 0x0 } ]

/-- Registers of spec/18_power_boot.md. -/
def regRows18 : List RegRow := [
  { name := "PWR_STAT", base := 0x38000, dims := [], dom := .sys, aliases := false, bw := false, rw := 0x0, w1c := 0x0, w1s := 0x0, rc := 0x0, wo := 0x0, ro := 0xffc7f, lock := 0x0, reset := 0x47f },
  { name := "PWR_DOM", base := 0x38004, dims := [], dom := .sys, aliases := true, bw := false, rw := 0x7f, w1c := 0x0, w1s := 0x0, rc := 0x0, wo := 0x0, ro := 0x0, lock := 0x0, reset := 0x7f },
  { name := "PWR_HALF", base := 0x38008, dims := [], dom := .sys, aliases := false, bw := false, rw := 0xf, w1c := 0x0, w1s := 0x0, rc := 0x0, wo := 0x0, ro := 0x0, lock := 0x0, reset := 0x0 },
  { name := "PWR_HOLD", base := 0x38020, dims := [], dom := .por, aliases := false, bw := false, rw := 0xffff0003, w1c := 0x0, w1s := 0x0, rc := 0x0, wo := 0x0, ro := 0x0, lock := 0x0, reset := 0x64320001 },
  { name := "BOOT_STAT", base := 0x38100, dims := [], dom := .sys, aliases := false, bw := false, rw := 0x0, w1c := 0x20000000, w1s := 0x0, rc := 0x0, wo := 0x0, ro := 0xde0fffff, lock := 0x0, reset := 0x0 },
  { name := "BOOT_CFG", base := 0x38104, dims := [], dom := .sys, aliases := true, bw := false, rw := 0x3, w1c := 0x0, w1s := 0x0, rc := 0x0, wo := 0x0, ro := 0x0, lock := 0x0, reset := 0x0 },
  { name := "BOOT_CMD", base := 0x38108, dims := [], dom := .sys, aliases := false, bw := false, rw := 0x0, w1c := 0x0, w1s := 0x0, rc := 0x0, wo := 0xf0000007, ro := 0x0, lock := 0x0, reset := 0x0 } ]

/-- Registers of spec/17_host_bus.md. -/
def regRows19 : List RegRow := [
  { name := "INT_STAT_LO", base := 0x100, dims := [], dom := .sys, aliases := false, bw := false, rw := 0x0, w1c := 0xffffffff, w1s := 0x0, rc := 0x0, wo := 0x0, ro := 0x0, lock := 0x0, reset := 0x0 },
  { name := "INT_STAT_HI", base := 0x104, dims := [], dom := .sys, aliases := false, bw := false, rw := 0x0, w1c := 0xffffffff, w1s := 0x0, rc := 0x0, wo := 0x0, ro := 0x0, lock := 0x0, reset := 0x0 },
  { name := "INT_EN0_LO", base := 0x108, dims := [], dom := .sys, aliases := true, bw := false, rw := 0xffffffff, w1c := 0x0, w1s := 0x0, rc := 0x0, wo := 0x0, ro := 0x0, lock := 0x0, reset := 0x0 },
  { name := "INT_EN0_HI", base := 0x10c, dims := [], dom := .sys, aliases := true, bw := false, rw := 0xffffffff, w1c := 0x0, w1s := 0x0, rc := 0x0, wo := 0x0, ro := 0x0, lock := 0x0, reset := 0x0 },
  { name := "INT_EN1_LO", base := 0x110, dims := [], dom := .sys, aliases := true, bw := false, rw := 0xffffffff, w1c := 0x0, w1s := 0x0, rc := 0x0, wo := 0x0, ro := 0x0, lock := 0x0, reset := 0x0 },
  { name := "INT_EN1_HI", base := 0x114, dims := [], dom := .sys, aliases := true, bw := false, rw := 0xffffffff, w1c := 0x0, w1s := 0x0, rc := 0x0, wo := 0x0, ro := 0x0, lock := 0x0, reset := 0x0 },
  { name := "INT_FORCE_LO", base := 0x118, dims := [], dom := .sys, aliases := false, bw := false, rw := 0x0, w1c := 0x0, w1s := 0x0, rc := 0x0, wo := 0xffffffff, ro := 0x0, lock := 0x0, reset := 0x0 },
  { name := "INT_FORCE_HI", base := 0x11c, dims := [], dom := .sys, aliases := false, bw := false, rw := 0x0, w1c := 0x0, w1s := 0x0, rc := 0x0, wo := 0xffffffff, ro := 0x0, lock := 0x0, reset := 0x0 },
  { name := "INT_PIN", base := 0x120, dims := [], dom := .sys, aliases := false, bw := false, rw := 0x0, w1c := 0x0, w1s := 0x0, rc := 0x0, wo := 0x0, ro := 0x3, lock := 0x0, reset := 0x0 },
  { name := "MBOX_S2H_n", base := 0x140, dims := [(4, 0x8)], dom := .sys, aliases := false, bw := false, rw := 0xffffffff, w1c := 0x0, w1s := 0x0, rc := 0x0, wo := 0x0, ro := 0x0, lock := 0x0, reset := 0x0 },
  { name := "MBOX_H2S_n", base := 0x144, dims := [(4, 0x8)], dom := .sys, aliases := false, bw := false, rw := 0xffffffff, w1c := 0x0, w1s := 0x0, rc := 0x0, wo := 0x0, ro := 0x0, lock := 0x0, reset := 0x0 },
  { name := "MBOX_STAT", base := 0x160, dims := [], dom := .sys, aliases := false, bw := false, rw := 0x0, w1c := 0xf00, w1s := 0x0, rc := 0x0, wo := 0x0, ro := 0xff, lock := 0x0, reset := 0x0 } ]

/-- Registers of spec/12_time_base.md. -/
def regRows20 : List RegRow := [
  { name := "TB_TIME_FRAC", base := 0x800c, dims := [], dom := .sys, aliases := false, bw := false, rw := 0x0, w1c := 0x0, w1s := 0x0, rc := 0x0, wo := 0x0, ro := 0xffffffff, lock := 0x0, reset := 0x0 },
  { name := "TB_TIME_NS", base := 0x8010, dims := [], dom := .sys, aliases := false, bw := false, rw := 0x0, w1c := 0x0, w1s := 0x0, rc := 0x0, wo := 0x0, ro := 0x3fffffff, lock := 0x0, reset := 0x0 },
  { name := "TB_TIME_SEC_LO", base := 0x8014, dims := [], dom := .sys, aliases := false, bw := false, rw := 0x0, w1c := 0x0, w1s := 0x0, rc := 0x0, wo := 0x0, ro := 0xffffffff, lock := 0x0, reset := 0x0 },
  { name := "TB_TIME_SEC_HI", base := 0x8018, dims := [], dom := .sys, aliases := false, bw := false, rw := 0x0, w1c := 0x0, w1s := 0x0, rc := 0x0, wo := 0x0, ro := 0xffffffff, lock := 0x0, reset := 0x0 },
  { name := "TB_ADDEND_LO", base := 0x801c, dims := [], dom := .sys, aliases := false, bw := false, rw := 0xffffffff, w1c := 0x0, w1s := 0x0, rc := 0x0, wo := 0x0, ro := 0x0, lock := 0x0, reset := 0x0 },
  { name := "TB_ADDEND_HI", base := 0x8020, dims := [], dom := .sys, aliases := false, bw := false, rw := 0xff, w1c := 0x0, w1s := 0x0, rc := 0x0, wo := 0x0, ro := 0x0, lock := 0x0, reset := 0x4 },
  { name := "TB_STEP_NS", base := 0x8024, dims := [], dom := .sys, aliases := false, bw := false, rw := 0x3fffffff, w1c := 0x0, w1s := 0x0, rc := 0x0, wo := 0x0, ro := 0x0, lock := 0x0, reset := 0x0 },
  { name := "TB_STEP_SEC_LO", base := 0x8028, dims := [], dom := .sys, aliases := false, bw := false, rw := 0xffffffff, w1c := 0x0, w1s := 0x0, rc := 0x0, wo := 0x0, ro := 0x0, lock := 0x0, reset := 0x0 },
  { name := "TB_STEP_SEC_HI", base := 0x802c, dims := [], dom := .sys, aliases := false, bw := false, rw := 0xffff, w1c := 0x0, w1s := 0x0, rc := 0x0, wo := 0x0, ro := 0x0, lock := 0x0, reset := 0x0 },
  { name := "TB_OFFS_LO", base := 0x8030, dims := [], dom := .sys, aliases := false, bw := false, rw := 0xffffffff, w1c := 0x0, w1s := 0x0, rc := 0x0, wo := 0x0, ro := 0x0, lock := 0x0, reset := 0x0 },
  { name := "TB_OFFS_HI", base := 0x8034, dims := [], dom := .sys, aliases := false, bw := false, rw := 0xffffffff, w1c := 0x0, w1s := 0x0, rc := 0x0, wo := 0x0, ro := 0x0, lock := 0x0, reset := 0x0 },
  { name := "TB_STEP_THR", base := 0x803c, dims := [], dom := .sys, aliases := false, bw := false, rw := 0xffffffff, w1c := 0x0, w1s := 0x0, rc := 0x0, wo := 0x0, ro := 0x0, lock := 0x0, reset := 0x3e8 },
  { name := "TB_LOCK", base := 0x8040, dims := [], dom := .sys, aliases := false, bw := false, rw := 0xffffffff, w1c := 0x0, w1s := 0x0, rc := 0x0, wo := 0x0, ro := 0x0, lock := 0x0, reset := 0x3e80064 },
  { name := "TB_LAST_OFFS", base := 0x8044, dims := [], dom := .sys, aliases := false, bw := false, rw := 0x0, w1c := 0x0, w1s := 0x0, rc := 0x0, wo := 0x0, ro := 0xffffffff, lock := 0x0, reset := 0x0 },
  { name := "TB_RATE", base := 0x8048, dims := [], dom := .sys, aliases := false, bw := false, rw := 0x0, w1c := 0x0, w1s := 0x0, rc := 0x0, wo := 0x0, ro := 0xffffffff, lock := 0x0, reset := 0x0 },
  { name := "TB_UTC", base := 0x804c, dims := [], dom := .sys, aliases := false, bw := false, rw := 0x8003ffff, w1c := 0x0, w1s := 0x0, rc := 0x0, wo := 0x0, ro := 0x0, lock := 0x0, reset := 0x0 },
  { name := "TB_EPOCH", base := 0x8050, dims := [], dom := .keep, aliases := false, bw := false, rw := 0x0, w1c := 0x0, w1s := 0x0, rc := 0x0, wo := 0x0, ro := 0xff, lock := 0x0, reset := 0x0 },
  { name := "TB_RTC_SEC_LO", base := 0x8054, dims := [], dom := .keep, aliases := false, bw := false, rw := 0x0, w1c := 0x0, w1s := 0x0, rc := 0x0, wo := 0x0, ro := 0xffffffff, lock := 0x0, reset := 0x0 },
  { name := "TB_RTC_SEC_HI", base := 0x8058, dims := [], dom := .keep, aliases := false, bw := false, rw := 0x0, w1c := 0x0, w1s := 0x0, rc := 0x0, wo := 0x0, ro := 0xffff, lock := 0x0, reset := 0x0 },
  { name := "TB_RTC_STAT", base := 0x805c, dims := [], dom := .keep, aliases := false, bw := false, rw := 0x0, w1c := 0x0, w1s := 0x0, rc := 0x0, wo := 0x0, ro := 0x1, lock := 0x0, reset := 0x0 },
  { name := "TB_SAMP", base := 0x8060, dims := [], dom := .sys, aliases := false, bw := false, rw := 0x0, w1c := 0x0, w1s := 0x0, rc := 0xffffffff, wo := 0x0, ro := 0x0, lock := 0x0, reset := 0x0 },
  { name := "TB_CNT_LO", base := 0x8064, dims := [], dom := .sys, aliases := false, bw := false, rw := 0x0, w1c := 0x0, w1s := 0x0, rc := 0x0, wo := 0x0, ro := 0xffffffff, lock := 0x0, reset := 0x0 },
  { name := "TB_CNT_HI", base := 0x8068, dims := [], dom := .sys, aliases := false, bw := false, rw := 0x0, w1c := 0x0, w1s := 0x0, rc := 0x0, wo := 0x0, ro := 0xffffffff, lock := 0x0, reset := 0x0 },
  { name := "ALM_SEC_LO_n", base := 0x8104, dims := [(16, 0x20)], dom := .sys, aliases := false, bw := false, rw := 0xffffffff, w1c := 0x0, w1s := 0x0, rc := 0x0, wo := 0x0, ro := 0x0, lock := 0x0, reset := 0x0 } ]

/-- Registers of spec/12_time_base.md. -/
def regRows21 : List RegRow := [
  { name := "ALM_SEC_HI_n", base := 0x8108, dims := [(16, 0x20)], dom := .sys, aliases := false, bw := false, rw := 0xffffffff, w1c := 0x0, w1s := 0x0, rc := 0x0, wo := 0x0, ro := 0x0, lock := 0x0, reset := 0x0 },
  { name := "ALM_NS_n", base := 0x810c, dims := [(16, 0x20)], dom := .sys, aliases := false, bw := false, rw := 0x3fffffff, w1c := 0x0, w1s := 0x0, rc := 0x0, wo := 0x0, ro := 0x0, lock := 0x0, reset := 0x0 },
  { name := "ALM_PER_n", base := 0x8110, dims := [(16, 0x20)], dom := .sys, aliases := false, bw := false, rw := 0xffffffff, w1c := 0x0, w1s := 0x0, rc := 0x0, wo := 0x0, ro := 0x0, lock := 0x0, reset := 0x0 },
  { name := "ALM_LAST_NS_n", base := 0x8114, dims := [(16, 0x20)], dom := .sys, aliases := false, bw := false, rw := 0x0, w1c := 0x0, w1s := 0x0, rc := 0x0, wo := 0x0, ro := 0x3fffffff, lock := 0x0, reset := 0x0 },
  { name := "ALM_LAST_SEC_n", base := 0x8118, dims := [(16, 0x20)], dom := .sys, aliases := false, bw := false, rw := 0x0, w1c := 0x0, w1s := 0x0, rc := 0x0, wo := 0x0, ro := 0xffffffff, lock := 0x0, reset := 0x0 },
  { name := "ALM_STAT_n", base := 0x811c, dims := [(16, 0x20)], dom := .sys, aliases := false, bw := false, rw := 0x0, w1c := 0xd, w1s := 0x0, rc := 0xffff0000, wo := 0x0, ro := 0x0, lock := 0x0, reset := 0x0 },
  { name := "TIO_START_SEC_LO_n", base := 0x8404, dims := [(4, 0x40)], dom := .sys, aliases := false, bw := false, rw := 0xffffffff, w1c := 0x0, w1s := 0x0, rc := 0x0, wo := 0x0, ro := 0x0, lock := 0x0, reset := 0x0 },
  { name := "TIO_START_SEC_HI_n", base := 0x8408, dims := [(4, 0x40)], dom := .sys, aliases := false, bw := false, rw := 0xffffffff, w1c := 0x0, w1s := 0x0, rc := 0x0, wo := 0x0, ro := 0x0, lock := 0x0, reset := 0x0 },
  { name := "TIO_START_NS_n", base := 0x840c, dims := [(4, 0x40)], dom := .sys, aliases := false, bw := false, rw := 0x3fffffff, w1c := 0x0, w1s := 0x0, rc := 0x0, wo := 0x0, ro := 0x0, lock := 0x0, reset := 0x0 },
  { name := "TIO_PERIOD_n", base := 0x8410, dims := [(4, 0x40)], dom := .sys, aliases := false, bw := false, rw := 0xffffffff, w1c := 0x0, w1s := 0x0, rc := 0x0, wo := 0x0, ro := 0x0, lock := 0x0, reset := 0x3b9aca00 },
  { name := "TIO_WIDTH_n", base := 0x8414, dims := [(4, 0x40)], dom := .sys, aliases := false, bw := false, rw := 0xffffffff, w1c := 0x0, w1s := 0x0, rc := 0x0, wo := 0x0, ro := 0x0, lock := 0x0, reset := 0x5f5e100 },
  { name := "TIO_COUNT_n", base := 0x8418, dims := [(4, 0x40)], dom := .sys, aliases := false, bw := false, rw := 0xffffffff, w1c := 0x0, w1s := 0x0, rc := 0x0, wo := 0x0, ro := 0x0, lock := 0x0, reset := 0x0 },
  { name := "TIO_DLY_n", base := 0x841c, dims := [(4, 0x40)], dom := .sys, aliases := false, bw := false, rw := 0xffffffff, w1c := 0x0, w1s := 0x0, rc := 0x0, wo := 0x0, ro := 0x0, lock := 0x0, reset := 0x0 },
  { name := "TIO_CAP_NS_n", base := 0x8420, dims := [(4, 0x40)], dom := .sys, aliases := false, bw := false, rw := 0x0, w1c := 0x0, w1s := 0x0, rc := 0x0, wo := 0x0, ro := 0xffffffff, lock := 0x0, reset := 0x0 },
  { name := "TIO_CAP_SEC_LO_n", base := 0x8424, dims := [(4, 0x40)], dom := .sys, aliases := false, bw := false, rw := 0x0, w1c := 0x0, w1s := 0x0, rc := 0x0, wo := 0x0, ro := 0xffffffff, lock := 0x0, reset := 0x0 },
  { name := "TIO_CAP_SEC_HI_n", base := 0x8428, dims := [(4, 0x40)], dom := .sys, aliases := false, bw := false, rw := 0x0, w1c := 0x0, w1s := 0x0, rc := 0x0, wo := 0x0, ro := 0xff00ffff, lock := 0x0, reset := 0x0 },
  { name := "TIO_STAT_n", base := 0x842c, dims := [(4, 0x40)], dom := .sys, aliases := false, bw := false, rw := 0x0, w1c := 0x10, w1s := 0x0, rc := 0xffffff00, wo := 0x0, ro := 0xf, lock := 0x0, reset := 0x0 } ]

/-- Registers of spec/11_tally.md. -/
def regRows22 : List RegRow := [
  { name := "TALLY_BAD_n", base := 0xc100, dims := [(32, 0x4)], dom := .sys, aliases := false, bw := false, rw := 0x0, w1c := 0x0, w1s := 0x0, rc := 0x0, wo := 0x0, ro := 0x3ffff, lock := 0x0, reset := 0x3ffff },
  { name := "TALLY_PHDR_s", base := 0xc040, dims := [(2, 0x20)], dom := .sys, aliases := false, bw := false, rw := 0xffffffff, w1c := 0x0, w1s := 0x0, rc := 0x0, wo := 0x0, ro := 0x0, lock := 0x0, reset := 0x0 },
  { name := "TALLY_PSP_s", base := 0xc044, dims := [(2, 0x20)], dom := .sys, aliases := false, bw := false, rw := 0xff, w1c := 0x0, w1s := 0x0, rc := 0x0, wo := 0x0, ro := 0x0, lock := 0x0, reset := 0x0 },
  { name := "TALLY_PP0_s", base := 0xc048, dims := [(2, 0x20)], dom := .sys, aliases := false, bw := false, rw := 0xffffffff, w1c := 0x0, w1s := 0x0, rc := 0x0, wo := 0x0, ro := 0x0, lock := 0x0, reset := 0x0 },
  { name := "TALLY_PP1_s", base := 0xc04c, dims := [(2, 0x20)], dom := .sys, aliases := false, bw := false, rw := 0xffffffff, w1c := 0x0, w1s := 0x0, rc := 0x0, wo := 0x0, ro := 0x0, lock := 0x0, reset := 0x0 },
  { name := "TALLY_PGO_s", base := 0xc050, dims := [(2, 0x20)], dom := .sys, aliases := false, bw := false, rw := 0x0, w1c := 0x0, w1s := 0x0, rc := 0x0, wo := 0x1, ro := 0x0, lock := 0x0, reset := 0x0 },
  { name := "TALLY_NONCE_k", base := 0xc084, dims := [(4, 0x4)], dom := .sys, aliases := false, bw := false, rw := 0x0, w1c := 0x0, w1s := 0x0, rc := 0x0, wo := 0x0, ro := 0xffffffff, lock := 0x0, reset := 0x0 },
  { name := "TALLY_RESP_k", base := 0xc094, dims := [(4, 0x4)], dom := .sys, aliases := false, bw := false, rw := 0x0, w1c := 0x0, w1s := 0x0, rc := 0x0, wo := 0xffffffff, ro := 0x0, lock := 0x0, reset := 0x0 },
  { name := "TALLY_CLR_SEQ", base := 0xc0a8, dims := [], dom := .sys, aliases := false, bw := false, rw := 0x0, w1c := 0x0, w1s := 0x0, rc := 0x0, wo := 0x0, ro := 0xffffffff, lock := 0x0, reset := 0x0 },
  { name := "TALLY_LR_r_w", base := 0xc200, dims := [(8, 0x20), (8, 0x4)], dom := .keep, aliases := false, bw := false, rw := 0x0, w1c := 0x0, w1s := 0x0, rc := 0x0, wo := 0x0, ro := 0xffffffff, lock := 0x0, reset := 0x0 },
  { name := "TALLY_HWSEV_w", base := 0xc300, dims := [(32, 0x4)], dom := .sys, aliases := false, bw := false, rw := 0xffffffff, w1c := 0x0, w1s := 0x0, rc := 0x0, wo := 0x0, ro := 0x0, lock := 0x0, reset := 0x0 },
  { name := "TALLY_BKT_RNG_b", base := 0xc400, dims := [(256, 0x4)], dom := .sys, aliases := false, bw := false, rw := 0xffffffff, w1c := 0x0, w1s := 0x0, rc := 0x0, wo := 0x0, ro := 0x0, lock := 0x0, reset := 0x0 },
  { name := "TALLY_BKT_CFG_b", base := 0xc800, dims := [(256, 0x4)], dom := .sys, aliases := false, bw := false, rw := 0xffffff00, w1c := 0x0, w1s := 0x0, rc := 0x0, wo := 0x0, ro := 0xff, lock := 0x0, reset := 0x644040 },
  { name := "TALLY_BKT_SUP_b", base := 0xcc00, dims := [(256, 0x4)], dom := .sys, aliases := false, bw := false, rw := 0x0, w1c := 0x0, w1s := 0x0, rc := 0x0, wo := 0x0, ro := 0xffffffff, lock := 0x0, reset := 0x0 } ]

/-- Registers of spec/03_stitched_acquisition.md. -/
def regRows23 : List RegRow := [
  { name := "FACT_GC", base := 0x90050830, dims := [(16, 0x200000), (8, 0x1000)], dom := .reg, aliases := false, bw := false, rw := 0x0, w1c := 0x0, w1s := 0x0, rc := 0x0, wo := 0x0, ro := 0xffffff, lock := 0x0, reset := 0x0 },
  { name := "FACT_OC", base := 0x90050834, dims := [(16, 0x200000), (8, 0x1000)], dom := .reg, aliases := false, bw := false, rw := 0x0, w1c := 0x0, w1s := 0x0, rc := 0x0, wo := 0x0, ro := 0xfffff, lock := 0x0, reset := 0x0 },
  { name := "FACT_GF", base := 0x90050838, dims := [(16, 0x200000), (8, 0x1000)], dom := .reg, aliases := false, bw := false, rw := 0x0, w1c := 0x0, w1s := 0x0, rc := 0x0, wo := 0x0, ro := 0xffffff, lock := 0x0, reset := 0x0 },
  { name := "FACT_OF", base := 0x9005083c, dims := [(16, 0x200000), (8, 0x1000)], dom := .reg, aliases := false, bw := false, rw := 0x0, w1c := 0x0, w1s := 0x0, rc := 0x0, wo := 0x0, ro := 0xfffff, lock := 0x0, reset := 0x0 },
  { name := "FACT_PF", base := 0x90050840, dims := [(16, 0x200000), (8, 0x1000)], dom := .reg, aliases := false, bw := false, rw := 0x0, w1c := 0x0, w1s := 0x0, rc := 0x0, wo := 0x0, ro := 0x3ff, lock := 0x0, reset := 0x0 } ]

/-- Registers of spec/07_protection_primitives.md. -/
def regRows24 : List RegRow := [
  { name := "IFD_THR_RES", base := 0x90080010, dims := [(16, 0x200000)], dom := .reg, aliases := false, bw := false, rw := 0x7fffff, w1c := 0x0, w1s := 0x0, rc := 0x0, wo := 0x0, ro := 0x0, lock := 0x7fffff, reset := 0x7fffff },
  { name := "IFD_THR_DI", base := 0x90080014, dims := [(16, 0x200000)], dom := .reg, aliases := false, bw := false, rw := 0x7fffff, w1c := 0x0, w1s := 0x0, rc := 0x0, wo := 0x0, ro := 0x0, lock := 0x7fffff, reset := 0x7fffff },
  { name := "IFD_THR_UV", base := 0x90080018, dims := [(16, 0x200000)], dom := .reg, aliases := false, bw := false, rw := 0x7fffff, w1c := 0x0, w1s := 0x0, rc := 0x0, wo := 0x0, ro := 0x0, lock := 0x7fffff, reset := 0x7fffff },
  { name := "CRV_TMS_n", base := 0x90090004, dims := [(16, 0x200000), (32, 0x10)], dom := .reg, aliases := false, bw := false, rw := 0xffffffff, w1c := 0x0, w1s := 0x0, rc := 0x0, wo := 0x0, ro := 0x0, lock := 0x0, reset := 0x3f800000 },
  { name := "CRV_PU_n", base := 0x90090008, dims := [(16, 0x200000), (32, 0x10)], dom := .reg, aliases := false, bw := false, rw := 0xffffffff, w1c := 0x0, w1s := 0x0, rc := 0x0, wo := 0x0, ro := 0x0, lock := 0x0, reset := 0x3f8ccccd },
  { name := "CRV_DR_n", base := 0x9009000c, dims := [(16, 0x200000), (32, 0x10)], dom := .reg, aliases := false, bw := false, rw := 0xffffffff, w1c := 0x0, w1s := 0x0, rc := 0x0, wo := 0x0, ro := 0x0, lock := 0x0, reset := 0x3f733333 },
  { name := "CMP_THR_n", base := 0x90091000, dims := [(16, 0x200000), (64, 0x10)], dom := .reg, aliases := false, bw := false, rw := 0xffffffff, w1c := 0x0, w1s := 0x0, rc := 0x0, wo := 0x0, ro := 0x0, lock := 0x0, reset := 0x7f800000 },
  { name := "CMP_PKR_n", base := 0x90091004, dims := [(16, 0x200000), (64, 0x10)], dom := .reg, aliases := false, bw := false, rw := 0xffffffff, w1c := 0x0, w1s := 0x0, rc := 0x0, wo := 0x0, ro := 0x0, lock := 0x0, reset := 0x3f800000 },
  { name := "CMP_DOR_n", base := 0x90091008, dims := [(16, 0x200000), (64, 0x10)], dom := .reg, aliases := false, bw := false, rw := 0xffffffff, w1c := 0x0, w1s := 0x0, rc := 0x0, wo := 0x0, ro := 0x0, lock := 0x0, reset := 0x3f733333 } ]

/-- Registers of spec/08_trip_lines.md. -/
def regRows25 : List RegRow := [
  { name := "TL_SRC1_n", base := 0x18100, dims := [(64, 0x4)], dom := .sys, aliases := true, bw := false, rw := 0xffffffff, w1c := 0x0, w1s := 0x0, rc := 0x0, wo := 0x0, ro := 0x0, lock := 0x0, reset := 0x0 },
  { name := "TL_SRC2_n", base := 0x18200, dims := [(64, 0x4)], dom := .sys, aliases := true, bw := false, rw := 0xffff, w1c := 0x0, w1s := 0x0, rc := 0x0, wo := 0x0, ro := 0x0, lock := 0x0, reset := 0x0 },
  { name := "TL_SRC3_n", base := 0x18300, dims := [(64, 0x4)], dom := .sys, aliases := true, bw := false, rw := 0xffffffff, w1c := 0x0, w1s := 0x0, rc := 0x0, wo := 0x0, ro := 0x0, lock := 0x0, reset := 0x0 },
  { name := "TL_RUN_HI", base := 0x18c04, dims := [], dom := .sys, aliases := true, bw := false, rw := 0xffffffff, w1c := 0x0, w1s := 0x0, rc := 0x0, wo := 0x0, ro := 0x0, lock := 0x0, reset := 0x0 },
  { name := "TL_ENERG_LO", base := 0x18c08, dims := [], dom := .sys, aliases := false, bw := false, rw := 0x0, w1c := 0x0, w1s := 0x0, rc := 0x0, wo := 0x0, ro := 0xffffffff, lock := 0x0, reset := 0x0 },
  { name := "TL_ENERG_HI", base := 0x18c0c, dims := [], dom := .sys, aliases := false, bw := false, rw := 0x0, w1c := 0x0, w1s := 0x0, rc := 0x0, wo := 0x0, ro := 0xffffffff, lock := 0x0, reset := 0x0 },
  { name := "TL_GOOSE_LO", base := 0x18c10, dims := [], dom := .sys, aliases := false, bw := false, rw := 0x0, w1c := 0x0, w1s := 0x0, rc := 0x0, wo := 0x0, ro := 0xffffffff, lock := 0x0, reset := 0x0 },
  { name := "TL_GOOSE_HI", base := 0x18c14, dims := [], dom := .sys, aliases := false, bw := false, rw := 0x0, w1c := 0x0, w1s := 0x0, rc := 0x0, wo := 0x0, ro := 0xffffffff, lock := 0x0, reset := 0x0 } ]

/-- Registers of spec/10_blaze_recording.md. -/
def regRows26 : List RegRow := [
  { name := "REC_CHn", base := 0x34008, dims := [(4, 0x300), (4, 0x4)], dom := .sys, aliases := false, bw := false, rw := 0xffffffff, w1c := 0x0, w1s := 0x0, rc := 0x0, wo := 0x0, ro := 0x0, lock := 0x0, reset := 0x0 },
  { name := "REC_PRE", base := 0x3401c, dims := [(4, 0x300)], dom := .sys, aliases := false, bw := false, rw := 0xffff, w1c := 0x0, w1s := 0x0, rc := 0x0, wo := 0x0, ro := 0x0, lock := 0x0, reset := 0x3c0 },
  { name := "REC_POST", base := 0x34020, dims := [(4, 0x300)], dom := .sys, aliases := false, bw := false, rw := 0x3ffff, w1c := 0x0, w1s := 0x0, rc := 0x0, wo := 0x0, ro := 0x0, lock := 0x0, reset := 0x960 },
  { name := "REC_MAXLEN", base := 0x34024, dims := [(4, 0x300)], dom := .sys, aliases := false, bw := false, rw := 0x3ffff, w1c := 0x0, w1s := 0x0, rc := 0x0, wo := 0x0, ro := 0x0, lock := 0x0, reset := 0x2580 },
  { name := "BLZ_CCFG_c", base := 0x3404c, dims := [(4, 0x300), (4, 0x4)], dom := .sys, aliases := false, bw := false, rw := 0x3f, w1c := 0x0, w1s := 0x0, rc := 0x0, wo := 0x0, ro := 0x80000000, lock := 0x0, reset := 0x0 },
  { name := "BLZ_CLIM_c", base := 0x3405c, dims := [(4, 0x300), (4, 0x4)], dom := .sys, aliases := false, bw := false, rw := 0xffffffff, w1c := 0x0, w1s := 0x0, rc := 0x0, wo := 0x0, ro := 0x0, lock := 0x0, reset := 0xffffffff },
  { name := "BLZ_CVAL_c", base := 0x3406c, dims := [(4, 0x300), (4, 0x4)], dom := .sys, aliases := false, bw := false, rw := 0x0, w1c := 0x0, w1s := 0x0, rc := 0x0, wo := 0x0, ro := 0xffffffff, lock := 0x0, reset := 0x0 },
  { name := "BLZ_TPRE_t", base := 0x3407c, dims := [(4, 0x300), (4, 0x4)], dom := .sys, aliases := false, bw := false, rw := 0xffffff, w1c := 0x0, w1s := 0x0, rc := 0x0, wo := 0x0, ro := 0x0, lock := 0x0, reset := 0x1 },
  { name := "BLZ_THR_k", base := 0x340c0, dims := [(4, 0x300), (16, 0x4)], dom := .sys, aliases := false, bw := false, rw := 0xffffff, w1c := 0x0, w1s := 0x0, rc := 0x0, wo := 0x0, ro := 0x0, lock := 0x0, reset := 0x0 } ]

/-- Registers of spec/13_ethernet.md. -/
def regRows27 : List RegRow := [
  { name := "ETH_STAT", base := 0x20004, dims := [], dom := .sys, aliases := false, bw := false, rw := 0x0, w1c := 0x0, w1s := 0x0, rc := 0x0, wo := 0x0, ro := 0x1f, lock := 0x0, reset := 0x0 },
  { name := "ETH_RED_CFG", base := 0x2000c, dims := [], dom := .sys, aliases := false, bw := false, rw := 0xffffffff, w1c := 0x0, w1s := 0x0, rc := 0x0, wo := 0x0, ro := 0x0, lock := 0x0, reset := 0x7d00190 },
  { name := "ETH_PCP_MAP", base := 0x20010, dims := [], dom := .sys, aliases := false, bw := false, rw := 0xffffff, w1c := 0x0, w1s := 0x0, rc := 0x0, wo := 0x0, ro := 0x0, lock := 0x0, reset := 0xfac688 },
  { name := "ETH_PTP", base := 0x20014, dims := [], dom := .sys, aliases := false, bw := false, rw := 0x1, w1c := 0x0, w1s := 0x0, rc := 0x0, wo := 0x0, ro := 0x0, lock := 0x0, reset := 0x1 },
  { name := "ETH_PTP_CNT", base := 0x20018, dims := [], dom := .sys, aliases := false, bw := false, rw := 0x0, w1c := 0x0, w1s := 0x0, rc := 0xffffffff, wo := 0x0, ro := 0x0, lock := 0x0, reset := 0x0 },
  { name := "ETH_TXTS_NS", base := 0x20240, dims := [], dom := .sys, aliases := false, bw := false, rw := 0x0, w1c := 0x0, w1s := 0x0, rc := 0x0, wo := 0x0, ro := 0x3fffffff, lock := 0x0, reset := 0x0 },
  { name := "ETH_TXTS_SEC", base := 0x20244, dims := [], dom := .sys, aliases := false, bw := false, rw := 0x0, w1c := 0x0, w1s := 0x0, rc := 0x0, wo := 0x0, ro := 0xffffffff, lock := 0x0, reset := 0x0 },
  { name := "ETH_TXTS_TAG", base := 0x20248, dims := [], dom := .sys, aliases := false, bw := false, rw := 0x0, w1c := 0x0, w1s := 0x0, rc := 0x0, wo := 0x0, ro := 0xffff0f07, lock := 0x0, reset := 0x0 },
  { name := "ETH_TXTS_STAT", base := 0x2024c, dims := [], dom := .sys, aliases := false, bw := false, rw := 0x0, w1c := 0x0, w1s := 0x0, rc := 0xffff0000, wo := 0x0, ro := 0x7f, lock := 0x0, reset := 0x0 },
  { name := "ETH_PCFG_p", base := 0x20100, dims := [(5, 0x40)], dom := .sys, aliases := false, bw := false, rw := 0xfff0707, w1c := 0x0, w1s := 0x0, rc := 0x0, wo := 0x0, ro := 0x0, lock := 0x0, reset := 0x10001 },
  { name := "ETH_PSTAT_p", base := 0x20104, dims := [(5, 0x40)], dom := .sys, aliases := false, bw := false, rw := 0x0, w1c := 0x0, w1s := 0x0, rc := 0x0, wo := 0x0, ro := 0xf, lock := 0x0, reset := 0x0 },
  { name := "ETH_TSADJ_p", base := 0x20108, dims := [(5, 0x40)], dom := .sys, aliases := false, bw := false, rw := 0xffffffff, w1c := 0x0, w1s := 0x0, rc := 0x0, wo := 0x0, ro := 0x0, lock := 0x0, reset := 0x0 },
  { name := "ETH_PDELAY_p", base := 0x2010c, dims := [(5, 0x40)], dom := .sys, aliases := false, bw := false, rw := 0xffffffff, w1c := 0x0, w1s := 0x0, rc := 0x0, wo := 0x0, ro := 0x0, lock := 0x0, reset := 0x0 },
  { name := "ETH_RXCNT_p", base := 0x20110, dims := [(5, 0x40)], dom := .sys, aliases := false, bw := false, rw := 0x0, w1c := 0x0, w1s := 0x0, rc := 0xffffffff, wo := 0x0, ro := 0x0, lock := 0x0, reset := 0x0 },
  { name := "ETH_TXCNT_p", base := 0x20114, dims := [(5, 0x40)], dom := .sys, aliases := false, bw := false, rw := 0x0, w1c := 0x0, w1s := 0x0, rc := 0xffffffff, wo := 0x0, ro := 0x0, lock := 0x0, reset := 0x0 },
  { name := "ETH_DROP_p", base := 0x20118, dims := [(5, 0x40)], dom := .sys, aliases := false, bw := false, rw := 0x0, w1c := 0x0, w1s := 0x0, rc := 0xffffffff, wo := 0x0, ro := 0x0, lock := 0x0, reset := 0x0 },
  { name := "ETH_REDCNT_p", base := 0x2011c, dims := [(5, 0x40)], dom := .sys, aliases := false, bw := false, rw := 0x0, w1c := 0x0, w1s := 0x0, rc := 0xffffffff, wo := 0x0, ro := 0x0, lock := 0x0, reset := 0x0 },
  { name := "ETH_VLAN_v", base := 0x20280, dims := [(32, 0x4)], dom := .sys, aliases := false, bw := false, rw := 0x83ff0fff, w1c := 0x0, w1s := 0x0, rc := 0x0, wo := 0x0, ro := 0x0, lock := 0x0, reset := 0x0 },
  { name := "SVS_CTRL_s", base := 0x20300, dims := [(16, 0x40)], dom := .sys, aliases := false, bw := false, rw := 0xf81fffff, w1c := 0x0, w1s := 0x0, rc := 0x0, wo := 0x0, ro := 0x0, lock := 0x0, reset := 0x50030000 },
  { name := "SVS_MAC_LO_s", base := 0x20304, dims := [(16, 0x40)], dom := .sys, aliases := false, bw := false, rw := 0xffffffff, w1c := 0x0, w1s := 0x0, rc := 0x0, wo := 0x0, ro := 0x0, lock := 0x0, reset := 0x0 },
  { name := "SVS_MAC_HI_s", base := 0x20308, dims := [(16, 0x40)], dom := .sys, aliases := false, bw := false, rw := 0xffff, w1c := 0x0, w1s := 0x0, rc := 0x0, wo := 0x0, ro := 0x0, lock := 0x0, reset := 0x0 },
  { name := "SVS_ID_CRC_s", base := 0x2030c, dims := [(16, 0x40)], dom := .sys, aliases := false, bw := false, rw := 0xffffffff, w1c := 0x0, w1s := 0x0, rc := 0x0, wo := 0x0, ro := 0x0, lock := 0x0, reset := 0x0 },
  { name := "SVS_CONFREV_s", base := 0x20310, dims := [(16, 0x40)], dom := .sys, aliases := false, bw := false, rw := 0xffffffff, w1c := 0x0, w1s := 0x0, rc := 0x0, wo := 0x0, ro := 0x0, lock := 0x0, reset := 0x0 },
  { name := "SVS_MAP_s", base := 0x20314, dims := [(16, 0x40)], dom := .sys, aliases := false, bw := false, rw := 0x77777777, w1c := 0x0, w1s := 0x0, rc := 0x0, wo := 0x0, ro := 0x0, lock := 0x0, reset := 0x76543210 } ]

/-- Registers of spec/13_ethernet.md. -/
def regRows28 : List RegRow := [
  { name := "SVS_CNT_s", base := 0x20318, dims := [(16, 0x40)], dom := .sys, aliases := false, bw := false, rw := 0x0, w1c := 0x0, w1s := 0x0, rc := 0xffffff, wo := 0x0, ro := 0x80000000, lock := 0x0, reset := 0x0 },
  { name := "SVS_LATE_s", base := 0x2031c, dims := [(16, 0x40)], dom := .sys, aliases := false, bw := false, rw := 0x0, w1c := 0x0, w1s := 0x0, rc := 0xffffffff, wo := 0x0, ro := 0x0, lock := 0x0, reset := 0x0 },
  { name := "SVS_K_s_l", base := 0x20320, dims := [(16, 0x40), (8, 0x4)], dom := .sys, aliases := false, bw := false, rw := 0xffffffff, w1c := 0x0, w1s := 0x0, rc := 0x0, wo := 0x0, ro := 0x0, lock := 0x0, reset := 0x3f800000 },
  { name := "SVP_CTRL_c", base := 0x20700, dims := [(16, 0x20)], dom := .sys, aliases := false, bw := false, rw := 0xff1fffff, w1c := 0x0, w1s := 0x0, rc := 0x0, wo := 0x0, ro := 0x0, lock := 0x0, reset := 0x23030000 },
  { name := "SVP_MAC_LO_c", base := 0x20704, dims := [(16, 0x20)], dom := .sys, aliases := false, bw := false, rw := 0xffffffff, w1c := 0x0, w1s := 0x0, rc := 0x0, wo := 0x0, ro := 0x0, lock := 0x0, reset := 0x0 },
  { name := "SVP_MAC_HI_c", base := 0x20708, dims := [(16, 0x20)], dom := .sys, aliases := false, bw := false, rw := 0xffff, w1c := 0x0, w1s := 0x0, rc := 0x0, wo := 0x0, ro := 0x0, lock := 0x0, reset := 0x0 },
  { name := "SVP_VLAN_c", base := 0x2070c, dims := [(16, 0x20)], dom := .sys, aliases := false, bw := false, rw := 0xefff, w1c := 0x0, w1s := 0x0, rc := 0x0, wo := 0x0, ro := 0x0, lock := 0x0, reset := 0x8000 },
  { name := "SVP_CONFREV_c", base := 0x20710, dims := [(16, 0x20)], dom := .sys, aliases := false, bw := false, rw := 0xffffffff, w1c := 0x0, w1s := 0x0, rc := 0x0, wo := 0x0, ro := 0x0, lock := 0x0, reset := 0x1 },
  { name := "SVP_K_I_c", base := 0x20714, dims := [(16, 0x20)], dom := .sys, aliases := false, bw := false, rw := 0xffffffff, w1c := 0x0, w1s := 0x0, rc := 0x0, wo := 0x0, ro := 0x0, lock := 0x0, reset := 0x3f800000 },
  { name := "SVP_K_V_c", base := 0x20718, dims := [(16, 0x20)], dom := .sys, aliases := false, bw := false, rw := 0xffffffff, w1c := 0x0, w1s := 0x0, rc := 0x0, wo := 0x0, ro := 0x0, lock := 0x0, reset := 0x3f800000 },
  { name := "SVP_CNT_c", base := 0x2071c, dims := [(16, 0x20)], dom := .sys, aliases := false, bw := false, rw := 0x0, w1c := 0x0, w1s := 0x0, rc := 0xffffffff, wo := 0x0, ro := 0x0, lock := 0x0, reset := 0x0 },
  { name := "ETH_TBL_SEL", base := 0x20e00, dims := [], dom := .sys, aliases := false, bw := false, rw := 0xffffffff, w1c := 0x0, w1s := 0x0, rc := 0x0, wo := 0x0, ro := 0x0, lock := 0x0, reset := 0x0 },
  { name := "ETH_TBL_DATA", base := 0x20e04, dims := [], dom := .sys, aliases := false, bw := false, rw := 0x0, w1c := 0x0, w1s := 0x0, rc := 0x0, wo := 0x0, ro := 0xffffffff, lock := 0x0, reset := 0x0 },
  { name := "GPUB_CTRL_g", base := 0x20900, dims := [(8, 0x20)], dom := .sys, aliases := false, bw := false, rw := 0xb01fff00, w1c := 0x0, w1s := 0x0, rc := 0x0, wo := 0x40000000, ro := 0x0, lock := 0x0, reset := 0x30000 },
  { name := "GPUB_ADDR_g", base := 0x20904, dims := [(8, 0x20)], dom := .sys, aliases := false, bw := false, rw := 0xfffffc, w1c := 0x0, w1s := 0x0, rc := 0x0, wo := 0x0, ro := 0x0, lock := 0x0, reset := 0x0 },
  { name := "GPUB_LEN_g", base := 0x20908, dims := [(8, 0x20)], dom := .sys, aliases := false, bw := false, rw := 0x7ff, w1c := 0x0, w1s := 0x0, rc := 0x0, wo := 0x0, ro := 0x0, lock := 0x0, reset := 0x0 },
  { name := "GPUB_TL0_g", base := 0x2090c, dims := [(8, 0x20)], dom := .sys, aliases := false, bw := false, rw := 0xbfffbfff, w1c := 0x0, w1s := 0x0, rc := 0x0, wo := 0x0, ro := 0x0, lock := 0x0, reset := 0x0 },
  { name := "GPUB_TL1_g", base := 0x20910, dims := [(8, 0x20)], dom := .sys, aliases := false, bw := false, rw := 0xbfffbfff, w1c := 0x0, w1s := 0x0, rc := 0x0, wo := 0x0, ro := 0x0, lock := 0x0, reset := 0x0 },
  { name := "GPUB_TIME_g", base := 0x20914, dims := [(8, 0x20)], dom := .sys, aliases := false, bw := false, rw := 0xffffffff, w1c := 0x0, w1s := 0x0, rc := 0x0, wo := 0x0, ro := 0x0, lock := 0x0, reset := 0x3e80002 },
  { name := "GPUB_ST_g", base := 0x20918, dims := [(8, 0x20)], dom := .sys, aliases := false, bw := false, rw := 0x0, w1c := 0x0, w1s := 0x0, rc := 0x0, wo := 0x0, ro := 0xffffffff, lock := 0x0, reset := 0x0 },
  { name := "GPUB_SQ_g", base := 0x2091c, dims := [(8, 0x20)], dom := .sys, aliases := false, bw := false, rw := 0x0, w1c := 0x0, w1s := 0x0, rc := 0x0, wo := 0x0, ro := 0xffffffff, lock := 0x0, reset := 0x0 } ]

/-- Registers of spec/14_can_fd.md. -/
def regRows29 : List RegRow := [
  { name := "CAN_ECNT", base := 0x24018, dims := [(4, 0x4000)], dom := .sys, aliases := false, bw := false, rw := 0x0, w1c := 0x0, w1s := 0x0, rc := 0xffffffff, wo := 0x0, ro := 0x0, lock := 0x0, reset := 0x0 },
  { name := "CAN_ECNT2", base := 0x2401c, dims := [(4, 0x4000)], dom := .sys, aliases := false, bw := false, rw := 0x0, w1c := 0x0, w1s := 0x0, rc := 0xffffffff, wo := 0x0, ro := 0x0, lock := 0x0, reset := 0x0 },
  { name := "CAN_ISTAT", base := 0x24020, dims := [(4, 0x4000)], dom := .sys, aliases := false, bw := false, rw := 0x0, w1c := 0xff, w1s := 0x0, rc := 0x0, wo := 0x0, ro := 0x0, lock := 0x0, reset := 0x0 },
  { name := "CAN_IEN", base := 0x24024, dims := [(4, 0x4000)], dom := .sys, aliases := false, bw := false, rw := 0xff, w1c := 0x0, w1s := 0x0, rc := 0x0, wo := 0x0, ro := 0x0, lock := 0x0, reset := 0x0 },
  { name := "CAN_CMD", base := 0x24028, dims := [(4, 0x4000)], dom := .sys, aliases := false, bw := false, rw := 0x0, w1c := 0x0, w1s := 0x0, rc := 0x0, wo := 0xf0000000, ro := 0x0, lock := 0x0, reset := 0x0 },
  { name := "CAN_TSADJ", base := 0x2402c, dims := [(4, 0x4000)], dom := .sys, aliases := false, bw := false, rw := 0xffff, w1c := 0x0, w1s := 0x0, rc := 0x0, wo := 0x0, ro := 0x0, lock := 0x0, reset := 0x0 },
  { name := "CAN_PEND_k", base := 0x24040, dims := [(4, 0x4000), (4, 0x4)], dom := .sys, aliases := false, bw := false, rw := 0x0, w1c := 0x0, w1s := 0x0, rc := 0x0, wo := 0x0, ro := 0xffffffff, lock := 0x0, reset := 0x0 },
  { name := "CAN_NEW_k", base := 0x24050, dims := [(4, 0x4000), (4, 0x4)], dom := .sys, aliases := false, bw := false, rw := 0x0, w1c := 0x0, w1s := 0x0, rc := 0x0, wo := 0x0, ro := 0xffffffff, lock := 0x0, reset := 0x0 },
  { name := "CAN_OSEL_s", base := 0x24100, dims := [(4, 0x4000), (2, 0x80)], dom := .sys, aliases := false, bw := false, rw := 0x7f, w1c := 0x0, w1s := 0x0, rc := 0x0, wo := 0x0, ro := 0x0, lock := 0x0, reset := 0x0 },
  { name := "CAN_OCMD_s", base := 0x24104, dims := [(4, 0x4000), (2, 0x80)], dom := .sys, aliases := false, bw := false, rw := 0x0, w1c := 0x0, w1s := 0x0, rc := 0x0, wo := 0xf0000000, ro := 0x0, lock := 0x0, reset := 0x0 },
  { name := "CAN_OWIN_s_w", base := 0x24120, dims := [(4, 0x4000), (2, 0x80), (24, 0x4)], dom := .sys, aliases := false, bw := false, rw := 0x0, w1c := 0x0, w1s := 0x0, rc := 0x0, wo := 0x0, ro := 0xffffffff, lock := 0x0, reset := 0x0 } ]

/-- Registers of spec/15_field_io.md. -/
def regRows30 : List RegRow := [
  { name := "FIO_IN_LO", base := 0x1c010, dims := [], dom := .sys, aliases := false, bw := false, rw := 0x0, w1c := 0x0, w1s := 0x0, rc := 0x0, wo := 0x0, ro := 0xffffffff, lock := 0x0, reset := 0x0 },
  { name := "FIO_IN_HI", base := 0x1c014, dims := [], dom := .sys, aliases := false, bw := false, rw := 0x0, w1c := 0x0, w1s := 0x0, rc := 0x0, wo := 0x0, ro := 0xffff, lock := 0x0, reset := 0x0 },
  { name := "FIO_RAW_LO", base := 0x1c018, dims := [], dom := .sys, aliases := false, bw := false, rw := 0x0, w1c := 0x0, w1s := 0x0, rc := 0x0, wo := 0x0, ro := 0xffffffff, lock := 0x0, reset := 0x0 },
  { name := "FIO_RAW_HI", base := 0x1c01c, dims := [], dom := .sys, aliases := false, bw := false, rw := 0x0, w1c := 0x0, w1s := 0x0, rc := 0x0, wo := 0x0, ro := 0xffff, lock := 0x0, reset := 0x0 },
  { name := "FIO_CMD_LO", base := 0x1c020, dims := [], dom := .sys, aliases := false, bw := false, rw := 0x0, w1c := 0x0, w1s := 0x0, rc := 0x0, wo := 0x0, ro := 0xffffffff, lock := 0x0, reset := 0x0 },
  { name := "FIO_CMD_HI", base := 0x1c024, dims := [], dom := .sys, aliases := false, bw := false, rw := 0x0, w1c := 0x0, w1s := 0x0, rc := 0x0, wo := 0x0, ro := 0xffff, lock := 0x0, reset := 0x0 },
  { name := "FIO_DRV_LO", base := 0x1c028, dims := [], dom := .sys, aliases := true, bw := false, rw := 0xffffffff, w1c := 0x0, w1s := 0x0, rc := 0x0, wo := 0x0, ro := 0x0, lock := 0x0, reset := 0x0 },
  { name := "FIO_DRV_HI", base := 0x1c02c, dims := [], dom := .sys, aliases := true, bw := false, rw := 0xffff, w1c := 0x0, w1s := 0x0, rc := 0x0, wo := 0x0, ro := 0x0, lock := 0x0, reset := 0x0 },
  { name := "FIO_MM_LO", base := 0x1c030, dims := [], dom := .sys, aliases := false, bw := false, rw := 0x0, w1c := 0x0, w1s := 0x0, rc := 0x0, wo := 0x0, ro := 0xffffffff, lock := 0x0, reset := 0x0 },
  { name := "FIO_MM_HI", base := 0x1c034, dims := [], dom := .sys, aliases := false, bw := false, rw := 0x0, w1c := 0x0, w1s := 0x0, rc := 0x0, wo := 0x0, ro := 0xffff, lock := 0x0, reset := 0x0 },
  { name := "FIO_PCNT_n", base := 0x1c400, dims := [(48, 0x4)], dom := .sys, aliases := false, bw := false, rw := 0x0, w1c := 0x0, w1s := 0x0, rc := 0x0, wo := 0x0, ro := 0xffffffff, lock := 0x0, reset := 0x0 },
  { name := "FIO_PSNAP_n", base := 0x1c500, dims := [(48, 0x4)], dom := .sys, aliases := false, bw := false, rw := 0x0, w1c := 0x0, w1s := 0x0, rc := 0x0, wo := 0x0, ro := 0xffffffff, lock := 0x0, reset := 0x0 },
  { name := "FIO_PSNAP_SEQ", base := 0x1c5c0, dims := [], dom := .sys, aliases := false, bw := false, rw := 0x0, w1c := 0x10000, w1s := 0x0, rc := 0x0, wo := 0x0, ro := 0xffff, lock := 0x0, reset := 0x0 },
  { name := "FIO_EVT_NS", base := 0x1c040, dims := [], dom := .sys, aliases := false, bw := false, rw := 0x0, w1c := 0x0, w1s := 0x0, rc := 0x0, wo := 0x0, ro := 0xffffffff, lock := 0x0, reset := 0x0 },
  { name := "FIO_EVT_SEC", base := 0x1c044, dims := [], dom := .sys, aliases := false, bw := false, rw := 0x0, w1c := 0x0, w1s := 0x0, rc := 0x0, wo := 0x0, ro := 0xffffffff, lock := 0x0, reset := 0x0 },
  { name := "FIO_EVT_TAG", base := 0x1c048, dims := [], dom := .sys, aliases := false, bw := false, rw := 0x0, w1c := 0x0, w1s := 0x0, rc := 0x0, wo := 0x0, ro := 0xffffffff, lock := 0x0, reset := 0x0 },
  { name := "FIO_EVT_CH", base := 0x1c04c, dims := [], dom := .sys, aliases := false, bw := false, rw := 0x0, w1c := 0x0, w1s := 0x0, rc := 0x0, wo := 0x0, ro := 0x3f, lock := 0x0, reset := 0x0 },
  { name := "FIO_EVT_STAT", base := 0x1c050, dims := [], dom := .sys, aliases := false, bw := false, rw := 0x0, w1c := 0x0, w1s := 0x0, rc := 0xffff0000, wo := 0x0, ro := 0x1ff, lock := 0x0, reset := 0x0 } ]

/-- Registers of spec/16_pairing.md. -/
def regRows31 : List RegRow := [
  { name := "PAIR_TOFFS", base := 0x10014, dims := [], dom := .sys, aliases := false, bw := false, rw := 0x0, w1c := 0x0, w1s := 0x0, rc := 0x0, wo := 0x0, ro := 0xffffffff, lock := 0x0, reset := 0x0 },
  { name := "PAIR_TDLY", base := 0x10018, dims := [], dom := .sys, aliases := false, bw := false, rw := 0x0, w1c := 0x0, w1s := 0x0, rc := 0x0, wo := 0x0, ro := 0xffff, lock := 0x0, reset := 0x0 },
  { name := "PAIR_NOSYNC", base := 0x1001c, dims := [], dom := .sys, aliases := false, bw := false, rw := 0x0, w1c := 0x0, w1s := 0x0, rc := 0x0, wo := 0x0, ro := 0xffff, lock := 0x0, reset := 0x0 },
  { name := "PAIR_SHARE", base := 0x10020, dims := [], dom := .sys, aliases := false, bw := false, rw := 0x0, w1c := 0x0, w1s := 0x0, rc := 0x0, wo := 0x0, ro := 0xffff00ff, lock := 0x0, reset := 0x0 },
  { name := "PAIR_CNT", base := 0x10024, dims := [], dom := .sys, aliases := false, bw := false, rw := 0x0, w1c := 0x0, w1s := 0x0, rc := 0xffffffff, wo := 0x0, ro := 0x0, lock := 0x0, reset := 0x0 },
  { name := "PAIR_LNK_A", base := 0x10028, dims := [], dom := .sys, aliases := false, bw := false, rw := 0x0, w1c := 0x0, w1s := 0x0, rc := 0xffff, wo := 0x0, ro := 0x80000000, lock := 0x0, reset := 0x0 },
  { name := "PAIR_LNK_B", base := 0x1002c, dims := [], dom := .sys, aliases := false, bw := false, rw := 0x0, w1c := 0x0, w1s := 0x0, rc := 0xffff, wo := 0x0, ro := 0x80000000, lock := 0x0, reset := 0x0 },
  { name := "PAIR_RTL_LO", base := 0x10030, dims := [], dom := .sys, aliases := false, bw := false, rw := 0x0, w1c := 0x0, w1s := 0x0, rc := 0x0, wo := 0x0, ro := 0xffffffff, lock := 0x0, reset := 0x0 },
  { name := "PAIR_RTL_HI", base := 0x10034, dims := [], dom := .sys, aliases := false, bw := false, rw := 0x0, w1c := 0x0, w1s := 0x0, rc := 0x0, wo := 0x0, ro := 0xffffffff, lock := 0x0, reset := 0x0 },
  { name := "PAIR_LAST", base := 0x10038, dims := [], dom := .sys, aliases := false, bw := false, rw := 0x0, w1c := 0x0, w1s := 0x0, rc := 0x0, wo := 0x0, ro := 0xf3001fff, lock := 0x0, reset := 0x0 },
  { name := "PAIR_DRILL", base := 0x1003c, dims := [], dom := .sys, aliases := false, bw := false, rw := 0xffffffff, w1c := 0x0, w1s := 0x0, rc := 0x0, wo := 0x0, ro := 0x0, lock := 0x0, reset := 0x1e01e0 },
  { name := "PAIR_DRILL_AGE", base := 0x10040, dims := [], dom := .keep, aliases := false, bw := false, rw := 0x0, w1c := 0x0, w1s := 0x0, rc := 0x0, wo := 0x0, ro := 0xffffffff, lock := 0x0, reset := 0x0 } ]

/-- Registers of spec/18_power_boot.md. -/
def regRows32 : List RegRow := [
  { name := "PWR_AVS_r", base := 0x38010, dims := [(4, 0x4)], dom := .sys, aliases := false, bw := false, rw := 0x800003ff, w1c := 0x0, w1s := 0x0, rc := 0x0, wo := 0x0, ro := 0x3ff0000, lock := 0x0, reset := 0x320 },
  { name := "PWR_VMON", base := 0x38024, dims := [], dom := .sys, aliases := false, bw := false, rw := 0x0, w1c := 0x0, w1s := 0x0, rc := 0x0, wo := 0x0, ro := 0xffffffff, lock := 0x0, reset := 0x0 },
  { name := "PWR_TEMP_r", base := 0x38030, dims := [(4, 0x4)], dom := .sys, aliases := false, bw := false, rw := 0x0, w1c := 0x0, w1s := 0x0, rc := 0x0, wo := 0x0, ro := 0xffff, lock := 0x0, reset := 0x0 },
  { name := "PWR_TCFG", base := 0x38040, dims := [], dom := .sys, aliases := false, bw := false, rw := 0xffffffff, w1c := 0x0, w1s := 0x0, rc := 0x0, wo := 0x0, ro := 0x0, lock := 0x0, reset := 0x73008c },
  { name := "PWR_WDT", base := 0x38050, dims := [], dom := .sys, aliases := false, bw := false, rw := 0xffff, w1c := 0x0, w1s := 0x80000000, rc := 0x0, wo := 0x0, ro := 0x0, lock := 0x0, reset := 0x3e8 },
  { name := "PWR_WDT_KICK", base := 0x38054, dims := [], dom := .sys, aliases := false, bw := false, rw := 0x0, w1c := 0x0, w1s := 0x0, rc := 0x0, wo := 0xffff, ro := 0x0, lock := 0x0, reset := 0x0 },
  { name := "PWR_FLAG", base := 0x38058, dims := [], dom := .sys, aliases := false, bw := false, rw := 0x0, w1c := 0x1f, w1s := 0x0, rc := 0x0, wo := 0x0, ro := 0x0, lock := 0x0, reset := 0x0 },
  { name := "PWR_RST", base := 0x38060, dims := [], dom := .keep, aliases := false, bw := false, rw := 0x0, w1c := 0x0, w1s := 0x0, rc := 0x0, wo := 0x0, ro := 0xff000007, lock := 0x0, reset := 0x0 },
  { name := "PWR_KEEP", base := 0x38064, dims := [], dom := .keep, aliases := false, bw := false, rw := 0x0, w1c := 0x10000, w1s := 0x0, rc := 0x0, wo := 0x0, ro := 0xffff, lock := 0x0, reset := 0x0 },
  { name := "BOOT_MINVER_k", base := 0x38110, dims := [(4, 0x4)], dom := .sys, aliases := false, bw := false, rw := 0x0, w1c := 0x0, w1s := 0x0, rc := 0x0, wo := 0x0, ro := 0xffffffff, lock := 0x0, reset := 0x0 } ]

/-- Every register of the device. -/
def regTable : List RegRow :=
  regRows0 ++
  regRows1 ++
  regRows2 ++
  regRows3 ++
  regRows4 ++
  regRows5 ++
  regRows6 ++
  regRows7 ++
  regRows8 ++
  regRows9 ++
  regRows10 ++
  regRows11 ++
  regRows12 ++
  regRows13 ++
  regRows14 ++
  regRows15 ++
  regRows16 ++
  regRows17 ++
  regRows18 ++
  regRows19 ++
  regRows20 ++
  regRows21 ++
  regRows22 ++
  regRows23 ++
  regRows24 ++
  regRows25 ++
  regRows26 ++
  regRows27 ++
  regRows28 ++
  regRows29 ++
  regRows30 ++
  regRows31 ++
  regRows32

/-- The value a normal write leaves in a register (R5): RW fields take the data, W1C bits with data 1 clear, W1S bits with
data 1 set, every other bit stays. -/
def RegRow.write (r : RegRow) (old v : Word) : Word :=
  let m (n : Nat) : Word := BitVec.ofNat 32 n
  ((old &&& ~~~ (m r.rw) &&& ~~~ (v &&& m r.w1c)) ||| (v &&& m r.rw)) ||| (v &&& m r.w1s)

end Sys2Proof
end

