-- ==== Sys2Proof/Machine/Defaults.lean ====
section
/-!
DEFINITION. What an unlisted register or memory word reads as: its reset value (the register table and the rules that
give a value per instance), or the word a memory holds after reset.
-/
namespace Sys2Proof

/-- Instance numbers of address offset off in a row of registers, none where no instance lies there. -/
def rowIdx : List (Nat × Nat) → Nat → Option (List Nat)
  | [], off => if off = 0 then some [] else none
  | (n, st) :: ds, off =>
    if off / st < n then (rowIdx ds (off % st)).map (fun l => off / st :: l) else none

/-- Whether a register row has an instance at address a. -/
def RegRow.covers (r : RegRow) (a : Nat) : Bool :=
  decide (r.base ≤ a) && (rowIdx r.dims (a - r.base)).isSome

/-- The register row with an instance at address a. -/
def regRow (a : Nat) : Option RegRow := regTable.find? (fun r => r.covers a)

/-- Key of the cluster window of cluster c at an offset (R565). -/
def clusterKey (c off : Nat) : Nat := 0x90000000 + c * 0x200000 + off

/-- Whether key a lies in a cluster window. -/
def inCluster (a : Nat) : Bool := decide (0x90000000 ≤ a) && decide (a < 0x92000000)

/-- The cluster and window offset of a key in a cluster window. -/
def clusterOf (a : Nat) : Nat := (a - 0x90000000) / 0x200000

/-- The offset of a key in its cluster window. -/
def clusterOff (a : Nat) : Nat := (a - 0x90000000) % 0x200000

/-- Taps 0 to 17 of the F-LIN compensating FIR (R124). -/
def flinCompHalf : List Int := [1, 5, 15, 35, 70, 126, 210, 330, 490, 690, 926, 1190, 1470, 1750, 2010, 2226, 2380, 2460]

/-- The F-LIN compensating FIR (R124: taps 18 to 35 mirror taps 17 to 0). -/
def flinComp : List Int := flinCompHalf ++ flinCompHalf.reverse

/-- Taps 0 to 10 of the F-MIN compensating FIR (R124). -/
def fminCompHalf : List Int := [64, 192, 384, 640, 960, 1344, 1792, 2304, 2688, 2944, 3072]

/-- The F-MIN compensating FIR. -/
def fminComp : List Int := fminCompHalf ++ fminCompHalf.reverse

/-- The F-LIN final FIR (R123). -/
def flinFin : List Int :=
  [-69042, -86303, 0, 517815, 1035631, 1398102, 1035631, 517815, 0, -86303, -69042]

/-- The F-MIN final FIR (R123). -/
def fminFin : List Int :=
  [160090, 502275, 1078338, 1299699, 1130119, 414252, -42707, -264069, -94488, -18981, 29776]

/-- A tap as its memory word: [23:0] two's complement, [31:24] reserved (R155). -/
def tapWord (i : Int) : Word := w32 (toField 24 i)

/-- The coefficient memory of a lane after a reset of its region: both banks of both FIRs hold F-LIN (R154). The
argument is the byte offset in the lane's 0x800 bytes. -/
def coefReset (o : Nat) : Word :=
  if o < 0x400 then tapWord (flinComp.getD (o % 0x200 / 4) 0) else tapWord (flinFin.getD (o % 0x200 / 4) 0)

/-- TALLY_HWSEV word w after reset (R393). -/
def hwsevReset (w : Nat) : Nat := if w = 2 then 0x84886684 else if w = 3 then 0x44444666 else 0x44444444

/-- TALLY_BKT_RNG_b after reset (R394). -/
def bktRngReset (b : Nat) : Nat :=
  if b = 253 then 0x0FFF0000 else if b = 254 then 0x7FFF1000 else if b = 255 then 0xFFFF8000 else 0x0000FFFF

/-- Nominal trims (R94), which a channel without a valid OTP record loads: GC, OC, GF, OF, PF. -/
def nominalTrim (k : Nat) : Nat := if k = 0 then 0x400000 else if k = 2 then 0x333333 else 0

/-- Key of an address of the E core's windows, tags and WIN_HEAD (R163), which no indirect address reaches. -/
def winKey (c addr : Nat) : Nat := 0xA4000000 + c * 0x10000 + (addr - 0x20000)

/-- Whether key a is a window word of some cluster. -/
def inWin (a : Nat) : Bool := decide (0xA4000000 ≤ a) && decide (a < 0xA4100000)

/-- What the register or memory word at key a holds after reset: the reset value of its register, the default set in
coefficient memory, the nominal trims where no OTP record is modelled, 0 elsewhere. -/
def regReset (a : Nat) : Word :=
  if 0xC300 ≤ a ∧ a < 0xC380 then w32 (hwsevReset ((a - 0xC300) / 4))
  else if 0xC400 ≤ a ∧ a < 0xC800 then w32 (bktRngReset ((a - 0xC400) / 4))
  else if 0xC800 ≤ a ∧ a < 0xCC00 then w32 0x00644040
  else if a = 0x20280 then w32 0x83FF0001
  else if a = 0x34018 then w32 40
  else if inWin a then (if (a - 0xA4000000) % 0x10000 < 0x4000 then 0x80 else 0)
  else if inCluster a then
    let o := clusterOff a
    if 0x60000 ≤ o ∧ o < 0x64000 then coefReset ((o - 0x60000) % 0x800)
    else if 0x50000 ≤ o ∧ o < 0x58000 ∧ 0x810 ≤ o % 0x1000 ∧ o % 0x1000 ≤ 0x840 then
      w32 (nominalTrim ((o % 0x1000 - 0x810) % 0x20 / 4))
    else if 0x90400 ≤ o ∧ o < 0x90C20 then 0x7F800000
    else if 0xA0000 ≤ o ∧ o < 0xA4000 then (if o / 4 % 2 = 0 then 0x7FFFFF else 0x800001)
    else if (0x10000 ≤ o ∧ o < 0x50000) ∨ 0xA0000 ≤ o ∨ (0x70000 ≤ o ∧ o < 0x80000) then 0
    else match regRow a with
      | some r => w32 r.reset
      | none => 0
  else match regRow a with
    | some r => w32 r.reset
    | none => 0

end Sys2Proof
end

