-- ==== Sys2Proof/Machine/Units.lean ====
section
/-!
DEFINITION. The state of the device's units that no register shows: queues, delay lines, pending requests and sequence
states. Everything here is plain data; what a register shows is held in the register map of State.
-/
namespace Sys2Proof

/-! ### Claims, links, host bus (chapters 01 and 17) -/

/-- The owner of a claimable resource and the stored tag (R39, R40, R42). -/
structure Claim where
  owner : Nat
  tag : Nat
  deriving DecidableEq, Repr

/-- The receiver of a die-to-die link (R15, R16, R22): expected sequence number, consecutive discards, and the elapsed
count at the declaration of down. -/
structure Link where
  seq : Nat
  consec : Nat
  downAt : Nat
  deriving DecidableEq, Repr

/-- A write of HBI_IND_ADDR or HBI_IND_CTRL held behind queued words, or a data word queued behind it (R570). -/
inductive HeldOp where
  | addr (v : Word)
  | ctrl (v : Word)
  | data (v : Word)
  deriving DecidableEq, Repr

/-- A word in the write queue with the address and width it was queued under (R567). -/
structure QWord where
  addr : Nat
  base : Nat
  width : Nat
  val : Word
  deriving DecidableEq, Repr

/-- The indirect interface of one requester (R566 to R570). `next` is the address of the next word to prefetch, `left`
the words the stream has yet to fetch (none: without end), `live` whether the stream still fetches, `base` the address as last set, from
which the present one advanced. -/
structure Ind where
  addr : Word
  base : Nat
  ctrl : Word
  cause : Nat
  err : Bool
  underrun : Bool
  pf : List Word
  next : Nat
  left : Option Nat
  live : Bool
  last : Word
  wq : List QWord
  held : List HeldOp
  deriving DecidableEq, Repr

/-! ### Tally (chapter 11) -/

/-- A record before it takes its sequence number: the fields of R366. -/
structure TRec where
  code : Nat
  source : Nat
  sev : Nat
  flags : Nat
  sparam : Nat
  p0 : Nat
  p1 : Nat
  at_ : Stamp
  tq : Nat
  deriving DecidableEq, Repr

/-- What a token bucket holds beside its registers: first and last suppressed code, and the elapsed count at which its
refill period began (R378, R379). -/
structure Bucket where
  first : Nat
  last : Nat
  since : Option Nat
  deriving DecidableEq, Repr

/-- An outstanding challenge of R385: who asked, for which key, whether for a revocation, and when it expires. -/
structure Nonce where
  req : Req
  key : Nat
  revoke : Bool
  expires : Nat
  deriving DecidableEq, Repr

/-- The writer, the queue and the clear state of Tally. `own` holds the records the writer itself makes ahead of the
queue (LOG_MEDIA_FAULT, DROPPED, MEDIA_RESUMED, TALLY_START); `last` is POWER_LOSS, which the writer takes when the queue is written
out, and `closed` says it has (R374); `tail` last entries of the queue came in the PD_SYS cycle `tailAt`, in the order of their SOURCE
(R374); `bads` are the bad slots of which TALLY_BAD_n lists the first 32 (R382); `front` is the slot the
erase front was last seen at while a clear runs (R387), `clrWait` the key of an accepted clear that waits for the scan (R384). -/
structure TallyU where
  own : List TRec
  queue : List TRec
  tail : Nat
  tailAt : Nat
  clrWait : Option Nat
  last : Option TRec
  bads : List Nat
  nonce : Option Nonce
  denied : Nat
  lockEnd : Option Nat
  front : Option Nat
  scanning : Bool
  closed : Bool
  deriving DecidableEq, Repr

/-! ### Time base (chapter 12) and tick (chapter 02) -/

/-- A pending time step: its Δ in nanoseconds and whether the servo's first-lock sample made it (R408, R410). -/
structure StepReq where
  delta : Int
  firstLock : Bool
  deriving DecidableEq, Repr

/-- The counter, the servo and the pending requests of the time base (R396 to R411). The integral and rate are in
2^-8 ppb (R407). `tqSet` says NOT_SET has ended (R402), `modeNow` is the mode in force (R404), `rtcSub` the counter periods
since the last RTC second boundary, `lastUsed` and `holdFrom` elapsed counts, `leapFrom` the second in which TB_UTC was last written
(R400). -/
structure TimeBase where
  sec : Nat
  ns : Nat
  frac : Nat
  cnt : Nat
  rtcSub : Nat
  startReq : Bool
  step : Option StepReq
  mode : Option Nat
  modeNow : Nat
  tqSet : Bool
  sync : Nat
  integ : Int
  rate : Int
  lastUsed : Option Nat
  holdFrom : Nat
  first : Bool
  fresh : Bool
  lockRun : Nat
  leapFrom : Option Nat
  deriving DecidableEq, Repr

/-- The tick grid (R53): the tick (sec, idx), whether it has started (otherwise it is the next to start), the seconds of
the tick TICK_IDX shows, how many ticks have run since the reset of PD_SYS, the regions that run the tick: those switched on and
out of reset at its start (R68), and, by epoch, what the count of ticks run exceeds the tick number by on the scale of that epoch. -/
structure TickU where
  energ : Word × Word
  sec : Nat
  idx : Nat
  running : Bool
  shownSec : Nat
  runs : Nat
  regs : List Nat
  scales : SMap (Option Int)
  deriving DecidableEq, Repr

/-- An alarm (R413 to R417): its next instant while armed, the last alarm instant with its epoch, and how often it has fired. -/
structure Alarm where
  next : Option (Nat × Nat)
  last : Nat × Nat
  lastEp : Nat
  fires : Nat
  deriving DecidableEq, Repr

/-- A time input or output pin's capture, as R420 describes. -/
structure Capture where
  at_ : Stamp
  tq : Nat
  deriving DecidableEq, Repr

/-- A time I/O pin (R419 to R424): captures, the last accepted PPS edge in ns, whether a pulse is active, the index of the
next or running pulse of its train and its active edge in ns (none: the train has ended), and whether the current
overflow has been reported. -/
structure TioPin where
  fifo : List Capture
  lastPps : Option Nat
  active : Bool
  pulse : Nat
  edgeAt : Option Nat
  overflowed : Bool
  deriving DecidableEq, Repr

/-! ### Region and cluster (chapters 01 to 04) -/

/-- The phase of a cluster's tick (R55). -/
inductive Phase where
  | idle
  | entry
  | element
  | exit
  deriving DecidableEq, Repr

/-- One modulator period of a lane: the two bits, whether the frame that carried it was discarded (R17, R110), and
whether the coarse overload detector's stretch replaced its coarse bit (R92, R113). -/
structure ModBit where
  coarse : Bool
  fine : Bool
  missing : Bool
  covl : Bool
  deriving DecidableEq, Repr

/-- A pair of compensating FIR outputs, unclamped (R113), with the fine and coarse overload marks of their support. -/
structure StSample where
  xc : Int
  xf : Int
  fineOvl : Bool
  coarseOvl : Bool
  deriving DecidableEq, Repr

/-- A REC sample (R118, R121): its number on the scale of an epoch (R408), the 32-bit lane output and the sample word. -/
structure RecSample where
  epoch : Nat
  m : Nat
  z : Int
  word : Word
  deriving DecidableEq, Repr

/-- A PROT sample waiting for its delivery tick: the slot index it belongs to and its word (R61). -/
structure Slot where
  idx : Nat
  word : Word
  deriving DecidableEq, Repr

/-- A set of TRK samples, one per lane (R134, R135): the tick its tag falls in on the running scale, the tag's second and phase,
whether its source is an SV subscription, the first tick its supports may reach, the reference lane whose sample still counts for the
tracked cycle, the words formed so far, its ring position once some lane's word has been delivered, and by lane whether its word has. -/
structure TrkSet where
  tick : Nat
  sec : Nat
  phi : Nat
  sv : Bool
  from_ : Nat
  ref : Option Nat
  words : SMap (Option Word)
  pos : Option Nat
  done : Nat
  deriving DecidableEq, Repr

/-- A cross-fade of one FIR stage (R145, R146): its length, the index of its first sample once it has begun, on the running scale (a
time step moves it with the indices, below 0 where need be), and the target bank. -/
structure Fade where
  len : Nat
  start : Option Int
  bank : Bool
  deriving DecidableEq, Repr

/-- A background-calibration window (R97, R98): stitch samples so far, whether it is still acceptable, the sums of e,
y_F, e·y_F, y_F², e² and, with D[n] = y_F[n+1] − y_F[n−1], of e·D, D and D²; the last two pairs (y_F, e), newest first, which may
come from the window before. D of a window's last sample is known with the first sample after the window. -/
structure CalWin where
  n : Nat
  ok : Bool
  se : Int
  sy : Int
  sey : Int
  syy : Int
  see : Int
  sed : Int
  sd : Int
  sdd : Int
  prev : List (Int × Int)
  deriving DecidableEq, Repr

/-- The errors of an accepted window as quotients (R98): gain, delay and offset. -/
structure CalErr where
  gNum : Int
  gDen : Int
  dNum : Int
  dDen : Int
  oNum : Int
  oDen : Int
  deriving DecidableEq, Repr

/-- A lane's path from modulator bits to delivered samples; delay lines hold the newest entry first. `per`, `stN`, `wbM`
and `recM` number the next modulator period, stitch, WB and REC sample on the running scale (period 3072 × tick number,
R111); the periods below `gap` are missing (R17, R18, R95). `wbPos` is the place of the next WB sample in the lane's SRAM. `reset` is the slot at which the last settling event took effect, `settleN` the settling slots it set, `syncD` the
slots before it that a synchronising reset also settles, `resetNo` the count of ticks run of that slot, and `stopTo` the slot below which a RUN restart delivers
stopped samples (R141, R152); `valid` says that a slot with INVALID = 0 has been delivered since that event (R603). The slots below `srcFrom` come from the source `srcOld`, as CL_SRC codes it (R141). `chainReq` holds
the cause of a restart waiting for a tick start, `trimHeld` the value still in force of each trim whose written value waits (R101),
`calFull` a calibration window that has ended. -/
structure Lane where
  bits : List ModBit
  per : Nat
  gap : Nat
  st : List StSample
  stN : Nat
  coarse : Bool
  hcount : Nat
  ovlLeft : Option (Bool × Nat)
  y : List Int
  marks : List Nat
  wbM : Nat
  wbPos : Nat
  biq : List (Int × Int × Int × Int)
  recM : Nat
  recs : List RecSample
  prot : List Slot
  reset : Nat
  settleN : Nat
  syncD : Nat
  resetNo : Nat
  valid : Bool
  stopTo : Nat
  srcOld : Word
  srcFrom : Nat
  lastSlot : Option Nat
  delay : Nat
  stopReq : Bool
  startReq : Bool
  loadReq : Option Nat
  chainReq : Option Nat
  fadeComp : Option Fade
  fadeFin : Option Fade
  modeReq : Bool
  modeNow : Nat
  starts : List Nat
  trimHeld : List (Nat × Word)
  cal : CalWin
  calFull : Option CalWin
  calErr : Option CalErr
  deriving DecidableEq, Repr

/-- A change of N_TRK or REF_LANE whose tick the tags have not reached yet (R136): the second and index of the tick, and N_TRK and
REF_LANE for the tags before it. -/
structure TrkCut where
  sec : Nat
  idx : Nat
  n : Nat
  ref : Nat
  deriving DecidableEq, Repr

/-- A cluster's tracker and resampler (R130 to R137): phase φ in 2^-32 REC periods with its second, whether the cluster's restart
still waits for a tick start (R164), whether φ is set anew at the next tick arrival and the tick, on the running scale, at which it
was last so set (R134), the changes of N_TRK and REF_LANE still ahead of the tags, the period in force for tags and the ones that take
over at a tick (R131), the last angle as a binary32 word, the words of the running
tracked cycle, the consecutive in-tolerance updates, the TRK sets of the last ticks, how many words each lane has had in the running
tick, the newest PROT words of an SV source by tick (R137), and TRK_PER, TRK_FREQ, TRK_ROCOF, TRK_STAT and TRK_CFG as they stood at the last entry phase (R214). -/
structure Tracker where
  phi : Nat
  sec : Nat
  restart : Bool
  align : Bool
  start : Nat
  cuts : List TrkCut
  per : Nat
  pers : List (Nat × Nat)
  theta : Option Word
  cycle : List Word
  run : Nat
  out : List TrkSet
  got : SMap Nat
  sv : List (Nat × List Word)
  shown : List Word
  deriving DecidableEq, Repr

/-! ### Detectors (chapter 07) -/

/-- The fast-path detector of a lane (R251): its last WB samples, newest first (none: missing), the samples in a row with
no excess among the last three, whether they were more than the STRETCH in force at the last of them (R252), how often it has operated
and the crossing time in ns of the last operate with its epoch (R252). -/
structure FpdU where
  recent : List (Option Int)
  quiet : Nat
  spent : Bool
  ops : Nat
  opAt : Nat
  opEp : Nat
  deriving DecidableEq, Repr

/-- A wavefront entry (R257, R258): the WB sample of its operate and its four words. -/
structure WfEntry where
  m : Nat
  words : List Word
  deriving DecidableEq, Repr

/-- The IFD, current detector, coincidence logic and wavefront FIFO of a cluster (R243 to R259): PROT history per lane,
newest first; ticks run and the last run in which a criterion was true; the criteria true this tick; samples in a row above and not
above CD_CFG.THR; whether 0xA5C3 was the last key; pending stop and restart; elapsed counts at the last fall of the light state
and of the OR of the FPD outputs, and that OR; the FIFO, and whether its present overflow is reported. -/
structure DetU where
  hist : SMap (List Slot)
  runs : Nat
  lastTrue : Option Nat
  crit : Nat
  above : Nat
  below : Nat
  key : Bool
  stopReq : Bool
  startReq : Bool
  lightFall : Option Nat
  gFall : Option Nat
  g : Bool
  wf : List WfEntry
  wfOver : Bool
  deriving DecidableEq, Repr

/-! ### Walso cores (chapters 05 and 06) -/

/-- An entered loop (R169): word index of the first body instruction, body length, trip count, iteration index, and the depth of
the return stack at its LOOP. -/
structure LoopFrame where
  start : Nat
  len : Nat
  trip : Nat
  idx : Nat
  depth : Nat
  deriving DecidableEq, Repr

/-- What a core does: nothing, executes, has issued WTICK or WTURN, has faulted, or cannot issue before its deadline
(R178). -/
inductive CoreRun where
  | idle
  | active
  | ended
  | faulted
  | late
  deriving DecidableEq, Repr

/-- The registers and control state of a core (R159, R169, R171) with its issue state (R174): `cyc` is the first cycle at
which the next instruction may issue, `ready` the cycle at which a register or unit is ready or free, by resource number,
`flagsAt` the cycle at which the last pending flags are set, `endCyc` the cycle in which WTICK or WTURN issued, `waiting`
a WFI that waits. -/
structure Core where
  g : Vector Word 32
  z : Vector (Word × Word) 16
  p : BitVec 8
  fstat : BitVec 4
  loops : List LoopFrame
  rets : List Nat
  pc : Nat
  run : CoreRun
  cyc : Nat
  ready : SMap Nat
  flagsAt : Nat
  endCyc : Nat
  waiting : Bool
  deriving DecidableEq, Repr

/-- A DMEM section of an image (R180): offset, its words or its length in words, and its kind (1 ALWAYS, 2 ON_LAYOUT,
3 ZERO_ON_LAYOUT). -/
structure DSec where
  off : Nat
  len : Nat
  kind : Nat
  data : List Word
  deriving DecidableEq, Repr

/-- A validated element image as the device keeps it (R180 to R187). -/
structure Image where
  ver : Nat
  layout : Nat
  codeWords : Nat
  entry : Nat
  wcet : Nat
  expect : Word
  claims : List Nat
  secs : List DSec
  copies : List (Nat × Nat)
  deriving DecidableEq, Repr

/-- An exchange entry (R29, R224): its words, the count of ticks run when it was posted, its tag; none = no entry. -/
structure XEntry where
  words : List Word
  posted : Nat
  epoch : Nat
  idx : Nat
  absent : Bool
  deriving DecidableEq, Repr

/-- An element cluster beside its core: posted outputs with the tick of the last deadline and, by flag, that of the flag's last change with its epoch, and staged ones (R59, R219 to R225), the exchange entry now latest and
the one before it (R65), which curves, comparators and timers have been stepped in the tick with the status of that step
(R208), reset counts and timer counts that no register shows, images and activation (R184 to R188) with the MRAM address of
the image being validated, and the flags of R162. `actWait` is
the number of tick starts still to pass before a pending activation, `actIdx` the tick index asked for (R186), `actKind` 1 live,
3 revert, `actSecs` whether its sections already stand in DMEM (R185). `errs` marks the words of its memories that hold an error, by key
(1 in one bit, 2 in two bits; in a window or the phasor RAM, any mark is a parity error), with the corrections made in IMEM and in DMEM
since the last reset (R165). -/
structure ElemU where
  posted : Nat
  postTick : Nat
  flags : Word
  flagAt : SMap Nat
  flagEp : SMap Nat
  req : Nat
  sflags : Word
  evts : List TRec
  xst : List Word
  xpub : Bool
  xcur : XEntry
  xprev : XEntry
  crvDone : Nat
  cmpDone : Nat
  tmrDone : Nat
  crvCnt : SMap Nat
  tmrOn : SMap Nat
  tmrOff : SMap Nat
  crvSt : SMap Nat
  cmpSt : SMap Nat
  tmrSt : SMap Nat
  active : Option Image
  other : Option Image
  pendingImg : Bool
  revertible : Bool
  lastLayout : Option Nat
  loading : Bool
  loadBase : Nat
  actWait : Option Nat
  actIdx : Option Nat
  actKind : Nat
  actSecs : Bool
  stopReq : Bool
  startReq : Bool
  first : Bool
  activated : Bool
  prevOvr : Bool
  clearReq : Bool
  errs : SMap Nat
  eccI : Nat
  eccD : Nat
  deriving DecidableEq, Repr

/-- A supervisor core's control registers (R226): SSTAT, EPC, CAUSE, VBASE, the two enables, the MPU words and the cycle
snapshot. -/
structure SupU where
  sstat : Word
  epc : Word
  cause : Word
  vbase : Word
  ien : BitVec 64
  mpu : SMap Word
  cycHi : Word
  deriving DecidableEq, Repr

end Sys2Proof
end

