-- ==== Sys2Proof/Machine/Init.lean ====
section
/-!
DEFINITION. The values the units hold right after a reset of their domain.
-/
namespace Sys2Proof

/-- A free resource (R40). -/
def Claim.free : Claim := { owner := 0, tag := 0 }

def Link.init : Link := { seq := 0, consec := 0, downAt := 0 }

/-- An indirect interface after a reset of PD_SYS: registers at their reset values, nothing prefetched or queued. -/
def Ind.init : Ind :=
  { addr := 0, base := 0, ctrl := 4, cause := 0, err := false, underrun := false, pf := [], next := 0, left := none, live := false,
    last := 0, wq := [], held := [] }

def Bucket.init : Bucket := { first := 0, last := 0, since := none }

def TallyU.init : TallyU :=
  { own := [], queue := [], tail := 0, tailAt := 0, clrWait := none, nonce := none, denied := 0, lockEnd := none, front := none, scanning := true,
    closed := false, last := none, bads := [] }

def TimeBase.init : TimeBase :=
  { sec := 0, ns := 0, frac := 0, cnt := 0, rtcSub := 0, startReq := false, step := none, mode := none, modeNow := 0,
    tqSet := false, sync := 0, integ := 0, rate := 0, lastUsed := none, holdFrom := 0, first := true, fresh := true,
    lockRun := 0, leapFrom := none }

def Alarm.init : Alarm := { next := none, last := (0, 0), lastEp := 0, fires := 0 }

def TickU.init : TickU := { energ := (0, 0), sec := 0, idx := 0, running := false, shownSec := 0, runs := 0, regs := [], scales := [] }

def TioPin.init : TioPin := { fifo := [], lastPps := none, active := false, pulse := 0, edgeAt := none, overflowed := false }

def CalWin.init : CalWin :=
  { n := 0, ok := true, se := 0, sy := 0, sey := 0, syy := 0, see := 0, sed := 0, sd := 0, sdd := 0, prev := [] }

/-- A lane after a reset of its region: F-LIN, running, waiting for its first complete data (R154). -/
def Lane.init : Lane :=
  { bits := [], per := 0, gap := 0, st := [], stN := 0, coarse := false, hcount := 0, ovlLeft := none, y := [], marks := [],
    wbM := 0, wbPos := 0, biq := [(0, 0, 0, 0), (0, 0, 0, 0), (0, 0, 0, 0), (0, 0, 0, 0)], recM := 0, recs := [], prot := [],
    reset := 0, settleN := 0, syncD := 0, resetNo := 0, valid := false, stopTo := 0, srcOld := 0x20000, srcFrom := 0, lastSlot := none, delay := 3, stopReq := false, startReq := false,
    loadReq := none, chainReq := none, fadeComp := none, fadeFin := none, modeReq := false, modeNow := 0, starts := [], trimHeld := [],
    cal := CalWin.init, calFull := none, calErr := none }

/-- A tracker after a reset of its region: its restart waits for a tick start (R130, R164). -/
def Tracker.init : Tracker :=
  { phi := 0, sec := 0, restart := true, align := true, start := 0, cuts := [], per := 0x48000000, pers := [], theta := none, cycle := [], run := 0, out := [], got := [], sv := [], shown := [] }

def FpdU.init : FpdU := { recent := [], quiet := 0, spent := false, ops := 0, opAt := 0, opEp := 0 }

def DetU.init : DetU :=
  { hist := [], runs := 0, lastTrue := none, crit := 0, above := 0, below := 0, key := false, stopReq := false, startReq := false,
    lightFall := none, gFall := none, g := false, wf := [], wfOver := false }

/-- A core that has not been started. -/
def Core.init : Core :=
  { g := Vector.replicate 32 0, z := Vector.replicate 16 (0, 0), p := 1, fstat := 0, loops := [], rets := [], pc := 0,
    run := .idle, cyc := 0, ready := [], flagsAt := 0, endCyc := 0, waiting := false }

/-- The empty exchange entry (R65, R224). -/
def XEntry.none : XEntry := { words := List.replicate 16 0, posted := 0, epoch := 0, idx := 0, absent := true }

def ElemU.init : ElemU :=
  { posted := 0, postTick := 0, flags := 0, flagAt := [], flagEp := [], req := 0, sflags := 0, evts := [], xst := List.replicate 16 0, xpub := false,
    xcur := XEntry.none, xprev := XEntry.none, crvDone := 0, cmpDone := 0, tmrDone := 0, crvCnt := [], tmrOn := [],
    tmrOff := [], crvSt := [], cmpSt := [], tmrSt := [], active := .none, other := .none, pendingImg := false, revertible := false, lastLayout := .none,
    loading := false, loadBase := 0, actWait := .none, actIdx := .none, actKind := 0, actSecs := false, stopReq := false, startReq := false, first := false,
    activated := false, prevOvr := false, clearReq := false, errs := [], eccI := 0, eccD := 0 }

/-- Supervisor control registers at reset: privileged, interrupts disabled (R226 gives no values). -/
def SupU.init : SupU := { sstat := 2, epc := 0, cause := 0, vbase := 0, ien := 0, mpu := [], cycHi := 0 }

end Sys2Proof
end

