-- ==== Sys2Proof/Machine/UnitsNet.lean ====
section
/-!
DEFINITION. Hidden state of the communication blocks: CAN controllers, the Ethernet switch with its subscriptions and
publications, the field die with the engine die's side of it, and the trip-line block.
-/
namespace Sys2Proof

/-- A CAN controller beside its registers (chapter 14): a request of INIT waiting for the end of the frame (R474), the object
in IN_TX with the frame it sends, a cancel that came too late (R483), a request that came during the frame (R478), writes
held until it ends (R479), whether it waits for 11 recessive bits after a protocol exception (R471), whether the last frame on the bus was
its own (R487), the elapsed count at which a recovery began (R488), and elapsed counts, plus one, of the last frame stored and the last
failure of each object and of the last entry into bus-off (R307, R308). -/
structure CanU where
  initReq : Bool
  cur : Option Nat
  out : Option CanFrame
  cancel : Bool
  requeue : Bool
  held : List (Nat × Word)
  integ : Bool
  mine : Bool
  recAt : Nat
  rxAt : SMap Nat
  failAt : SMap Nat
  offAt : Nat
  deriving DecidableEq, Repr

def CanU.init : CanU :=
  { initReq := false, cur := none, out := none, cancel := false, requeue := false, held := [], integ := false, mine := false, recAt := 0, rxAt := [], failAt := [],
    offAt := 0 }

/-! ### Ethernet (chapter 13) -/

/-- A frame in an egress queue as it will leave, FCS excluded: the port it came in by (5: made by the device), the elapsed
count, the correction in ns of its ingress stamp and that stamp in ns (R440, R441), and the publication slot and stNum of a GOOSE frame of
the device (R459). -/
structure EFrame where
  bytes : Bytes
  inPort : Nat
  inCnt : Nat
  inAdj : Int
  inAt : Nat
  goose : Option (Nat × Nat)
  deriving DecidableEq, Repr

/-- A stored Sync residence time (R442): egress port, sourcePortIdentity, sequenceId, the sum in 2^-16 ns, elapsed count. -/
structure FollowUp where
  port : Nat
  ident : Nat
  seq : Nat
  corr : Int
  cnt : Nat
  deriving DecidableEq, Repr

/-- An egress timestamp (R441). -/
structure TxStamp where
  sec : Nat
  ns : Nat
  port : Nat
  mtype : Nat
  seq : Nat
  deriving DecidableEq, Repr

/-- A row of the learned address table or of a duplicate table: MAC, port or sequence number, elapsed count. -/
structure MacRow where
  mac : Nat
  x : Nat
  cnt : Nat
  deriving DecidableEq, Repr

/-- A received SV sample waiting for its delivery: tick on the running scale, value and quality of each member, smpSynch. -/
structure SvSample where
  tick : Nat
  vals : List (Int × Nat)
  synch : Nat
  deriving DecidableEq, Repr

/-- An SV subscription slot: stored samples, the tick of the last used sample, delivered ticks in a row without one, the first tick index
from which on none has been used (R449, R470), and whether the last ASDU had the right confRev. -/
structure SvSlot where
  store : List SvSample
  lastTick : Nat
  miss : Nat
  since : Nat
  okSeen : Bool
  deriving DecidableEq, Repr

/-- A GOOSE filter entry: the end of its window in ns, whether the last matching frame was accepted, whether it has accepted
a simulated frame, its expiry in ns, and elapsed counts, plus one, of the last accepted frame and of the loss of its last
path. -/
structure GooseRx where
  endAt : Option Nat
  okSeen : Bool
  sim : Bool
  expiredAt : Nat
  rxAt : Nat
  downAt : Nat
  deriving DecidableEq, Repr

/-- A GOOSE publication slot: the loaded template (empty: none), the time of the last state change and its quality, the last gap in ms and
how many gaps have run, the elapsed count of the next retransmission, whether the last gasp has set its member, and whether the
transmission of the last state change has begun on any port (R459). -/
structure GoosePub where
  template : Bytes
  changed : Stamp
  tq : Nat
  gap : Nat
  gaps : Nat
  next : Option Nat
  gasp : Bool
  sent : Bool
  deriving DecidableEq, Repr

/-- A PROT sample set waiting for its publication frame: smpCnt, the tick index k of its samples with the epoch of its scale, value and
quality of each member. -/
structure SvPubSample where
  smpCnt : Nat
  idx : Nat
  epoch : Nat
  vals : List (Int × Nat)
  deriving DecidableEq, Repr

/-- The switch and its machinery (chapter 13): redundancy in force (R432), egress queues by 8 × port + queue, address and
duplicate tables, sequence numbers, the elapsed count from which the next supervision frame is due LIFE_CHECK later, the last frame with
a valid trailer or tag of each redundant port, stored Sync times, the egress FIFO, the last frame each port put on its wire, the ingress
timestamp (seconds, ns) passed with the internal port's when it is a PTP message, and the slots. -/
structure EthU where
  red : Nat
  redbox : Bool
  kind : Nat
  queues : SMap (List EFrame)
  fdb : List MacRow
  dup : List MacRow
  fwd : List MacRow
  seq : Nat
  supSeq : Nat
  supAt : Nat
  supStamp : Option (Nat × Nat)
  lastRed : SMap Nat
  fups : List FollowUp
  txts : List TxStamp
  wire : SMap Bytes
  svs : SMap SvSlot
  gse : SMap GooseRx
  gpub : SMap GoosePub
  svp : SMap (List SvPubSample)
  deriving DecidableEq, Repr

def SvSlot.init : SvSlot := { store := [], lastTick := 0, miss := 0, since := 0, okSeen := false }

def GooseRx.init : GooseRx := { endAt := none, okSeen := false, sim := false, expiredAt := 0, rxAt := 0, downAt := 0 }

def GoosePub.init : GoosePub :=
  { template := [], changed := { sec := 0, ns := 0, epoch := 0 }, tq := 0, gap := 0, gaps := 0, next := none, gasp := false, sent := false }

def EthU.init : EthU :=
  { red := 0, redbox := false, kind := 0, queues := [], fdb := [], dup := [], fwd := [], seq := 0, supSeq := 0, supAt := 0, supStamp := none, lastRed := [],
    fups := [], txts := [], wire := [], svs := [], gse := [], gpub := [], svp := [] }

/-! ### Field channels (chapter 15) -/

/-- An edge of a filtered state (R499, R500): channel, direction, time and time quality, its 16-bit number, whether it was
buffered in a silence, whether its channel is an output. -/
structure FEdge where
  ch : Nat
  rise : Bool
  at_ : Stamp
  tq : Nat
  num : Nat
  buffered : Bool
  output : Bool
  deriving DecidableEq, Repr

/-- What the field die reports in its frames beside states: a fault of a channel with its kind and the bank voltage (R508), or a
supply event of a bank with its kind and voltage (R510). -/
inductive FieldRep where
  | fault (n kind mv : Nat)
  | supply (b kind mv : Nat)
  deriving DecidableEq, Repr

/-- The run of equal raw samples a channel is in (R498, R499): the timestamp its edge would carry, the time quality at its first
sample, and that sample's elapsed count. -/
structure RawRun where
  at_ : Stamp
  tq : Nat
  cnt : Nat
  deriving DecidableEq, Repr

/-- The field die (chapter 15): logic running and whether it ever ran, the number it expects of the next frame (R15), raw and
filtered states with the runs of the raw states, the drift of its 1 µs counter in ns and the elapsed count it was reckoned at (R512), the
command image and the channel configurations applied, whether it waits for its first valid frame after a start, FIELD_OK, a silence
with its start, edges not acknowledged, the next edge number, edges buffered and discarded in the silence, edges discarded and not
yet shown, pulse counts, lockout, warning, thermal and current-limit states, the mismatches present, the elapsed counts to which comparison
is blanked and from which read-back and drive have differed (R507), bank voltages with the count of their last refresh, and
reports not yet carried across; `restart` holds the voltage of a restart not yet reported, `silence` an ended silence not yet
reported (µs, buffered, discarded). -/
structure FieldDie where
  up : Bool
  ran : Bool
  seq : Nat
  raw : BitVec 48
  runs : SMap (Option RawRun)
  filt : BitVec 48
  drift : Int
  driftAt : Nat
  cmd : BitVec 48
  cfg : SMap Word
  outEn : Bool
  hold : Bool
  ok : Bool
  silent : Option Nat
  buf : List FEdge
  nextNum : Nat
  buffered : Nat
  silDropped : Nat
  dropped : Nat
  counts : SMap Nat
  uvlo : BitVec 6
  warn : BitVec 6
  therm : BitVec 48
  limit : BitVec 48
  mm : BitVec 48
  blank : SMap Nat
  diff : SMap (Option Nat)
  mv : SMap Nat
  mvAt : Nat
  reports : List FieldRep
  restart : Option Nat
  silence : Option (Nat × Nat × Nat)
  deriving DecidableEq, Repr

/-- The engine die's side: the edge numbers taken and not yet acknowledged (R19), the edge log and whether its present
overflow is reported, edges since the last Lathe latch, edges for the Blaze taps with how many came before them, channels whose pulse
count a configuration set to 0 that the field die has not yet taken (R501), and the pulse snapshot in progress (R502, R503): alarm instant
in ns, counts, the channels still to be taken, and whether one was taken with the link down. -/
structure FioU where
  taken : List Nat
  log : List FEdge
  ovf : Bool
  rise : BitVec 48
  fall : BitVec 48
  taps : List FEdge
  tapNo : Nat
  pcRestart : BitVec 48
  snapAt : Option Nat
  snapBase : SMap Nat
  snapLeft : BitVec 48
  snapStale : Bool
  deriving DecidableEq, Repr

def FieldDie.init : FieldDie :=
  { up := false, ran := false, seq := 0, raw := 0, runs := [], filt := 0, drift := 0, driftAt := 0, cmd := 0, cfg := [], outEn := false,
    hold := true, ok := false, silent := none, buf := [], nextNum := 1, buffered := 0, silDropped := 0, dropped := 0, counts := [],
    uvlo := 0, warn := 0, therm := 0, limit := 0, mm := 0, blank := [], diff := [], mv := [], mvAt := 0, reports := [],
    restart := none, silence := none }

def FioU.init : FioU :=
  { taken := [], log := [], ovf := false, rise := 0, fall := 0, taps := [], tapNo := 0, pcRestart := 0, snapAt := none,
    snapBase := [], snapLeft := 0, snapStale := false }

/-! ### Trip lines (chapter 08) -/

/-- A trip line: elapsed counts of its grant and of its entry into WAIT, and its last end cause. -/
structure TripLine where
  grantAt : Nat
  waitAt : Nat
  cause : Nat
  deriving DecidableEq, Repr

def TripLine.init : TripLine := { grantAt := 0, waitAt := 0, cause := 0 }

/-! ### Metering snapshot (R317, R318) -/

/-- A closed metering interval waiting for its deadline: alarm instant, epoch, the tick on the running scale whose deadline
it awaits; and a complete snapshot waiting for a latch. -/
structure MeterU where
  req : Option (Nat × Nat × Nat × Nat)
  words : List Word
  ready : Bool
  deriving DecidableEq, Repr

def MeterU.init : MeterU := { req := none, words := [], ready := false }

end Sys2Proof
end

