-- ==== Sys2Proof/Machine/UnitsPair.lean ====
section
/-!
DEFINITION. Hidden state of the pair protocol (chapter 16).
-/
namespace Sys2Proof

/-- A handover asked for: TAKE (1) or SWAP (2), its tick index, what a SWAP is for, and whether the ACK has come. -/
structure PairReq where
  req : Nat
  idx : Nat
  kind : Nat
  acked : Bool
  deriving DecidableEq, Repr

/-- The checks of a drill in the new heartwood (R543): the tick of the handover and its elapsed count, whether FIELD_OK was asserted within
1 ms of it, and the first driven output that raised FAULT_LOW. -/
structure Drill where
  tick : Nat
  start : Nat
  ok : Bool
  low : Option Nat
  deriving DecidableEq, Repr

/-- The pair protocol: expected sequence number of each link (none before its first frame), discards since its last change, the
number of the next frame sent on it; the last HB frame, and those of this and later ticks as (tick on the running scale, whether it shows
HEARTWOOD); whether PAIR_HB_IN has toggled and PAIR_ROLE_IN fallen since the last decision point; heartbeats missed in a row; elapsed counts of the first decision
point after PROTECTION_READY, and since when PAIR_ROLE_IN has read 0; the own request; the index to acknowledge; the agreed
handover as (index, cause); whether HANDOVER_ASSERT is due; whether the heartbeat generator runs and the level of PAIR_HB_OUT;
elapsed count since which SYNC has held; whether the last full set and the last STATE frame were applied; a STATE frame waiting for
the deadline with its reason to be discarded (0 none); pages of the Lathe set being collected, whether the set is complete, its
turn, image version, period and start index and whether it is full, the number of the last STATE frame applied and whether a frame of the
set has been lost; the heartwood's turn last seen and the turn last applied; pages
queued for the partner, their turn, whether the queue is a full set, the turn last sent whole, the number of the next STATE frame, and the
own rechuck switches and reverts; HOLDUP to be sent; a handover to be asked for at the next own deadline, by what it is for (R532, R544); a
drill whose checks run here; whether a drill was started here; the last HB frame, STATE frame and TL frame sent. -/
structure PairU where
  seqRx : SMap (Option Nat)
  discs : SMap Nat
  seqTx : SMap Nat
  hb : Option PairHb
  hbTicks : List (Nat × Bool)
  toggled : Bool
  fell : Bool
  missed : Nat
  readyAt : Option Nat
  zeroAt : Option Nat
  req : Option PairReq
  ackTx : Option Nat
  hand : Option (Nat × Nat)
  drillIn : Bool
  assertDue : Bool
  hbRuns : Bool
  hbOut : Bool
  syncAt : Option Nat
  full : Bool
  applied : Bool
  rx : Option (PairState × Nat)
  set : SMap (Option Bytes)
  setDone : Bool
  setTurn : Nat
  setVer : Nat
  setP : Nat
  setStart : Nat
  setFull : Bool
  rxNo : Option Nat
  setBad : Bool
  hwTurn : Nat
  appTurn : Nat
  txq : Nat
  txTurn : Nat
  txFull : Bool
  txSent : Nat
  stNo : Nat
  rck : Nat
  holdup : Bool
  ask : Option Nat
  drill : Option Drill
  drillMine : Bool
  hbTx : Option PairHb
  stTx : Bytes
  tlTx : List PairTl
  deriving DecidableEq, Repr

def PairU.init : PairU :=
  { seqRx := [], discs := [], seqTx := [], hb := none, hbTicks := [], toggled := false, fell := false, missed := 2, readyAt := none,
    zeroAt := none, req := none, ackTx := none, hand := none, drillIn := false, assertDue := false, hbRuns := true, hbOut := false,
    syncAt := none, full := false, applied := false, rx := none, set := [], setDone := false, setTurn := 0, setVer := 0, setP := 0,
    setStart := 0, setFull := false, rxNo := none, setBad := false, hwTurn := 0, appTurn := 0, txq := 0, txTurn := 0, txFull := false, txSent := 0, stNo := 0, rck := 0, holdup := false,
    ask := none, drill := none, drillMine := false, hbTx := none, stTx := [], tlTx := [] }

end Sys2Proof
end

