-- ==== Sys2Proof/Machine/UnitsPower.lean ====
section
/-!
DEFINITION. Hidden state of power, resets, the watchdog and the boot ROM (chapter 18).
-/
namespace Sys2Proof

/-- The boot ROM's work (R600 to R603): directory entries still to do in order, entries loaded as a mask, the trip lines the CFG
image names as a mask, its writes of run bits kept for step 5, whether CFG is applied, the payload address of the applied CFG
image, the entry word of the SUP image, whether the AFE check and step 5 have been started, the version of the active image of each
kind, and the elapsed count at PROTECTION_READY. -/
structure BootU where
  todo : List Nat
  loaded : Nat
  lines : Nat
  later : List (Nat × Word)
  cfgDone : Bool
  cfgEnv : Nat
  supEntry : Option Nat
  checked : Bool
  started : Bool
  vers : SMap Nat
  readyAt : Option Nat
  deriving DecidableEq, Repr

/-- Power and reset: package switched off; the kind of the reset of PD_SYS now held, as PWR_RST codes it (0: released); the
elapsed count at that reset and at its release; whether PD_KEEP content has been lost unreported; a thermal shutdown and a warning
reported; PWR_DOM before its last change (R606); the watchdog's half sequence, last service and warning; the elapsed count at the start of hold-up; region resets asked
for and the elapsed count at which a held region was reset; the straps and TEST_EN; OTP rows used by kind (R597); the main PLL lost
(R613); the present hold-up entered by, or through, an overvoltage (R610); the elapsed count at which PWR_VMON, and each temperature
reading by source, last took a value an event brought, counted from 1 (0: never). -/
structure PowerU where
  off : Bool
  cause : Nat
  resetAt : Nat
  relAt : Nat
  keepLost : Bool
  thermal : Bool
  warned : Bool
  kick : Bool
  wdtAt : Nat
  wdtWarned : Bool
  holdAt : Nat
  regReq : List Nat
  heldAt : SMap Nat
  domOld : Word
  pref : Bool
  spi : Bool
  testEn : Bool
  otpRows : SMap Nat
  pllLost : Bool
  overVin : Bool
  vmonAt : Nat
  tempAt : SMap Nat
  boot : BootU
  deriving DecidableEq, Repr

def BootU.init : BootU :=
  { todo := [], loaded := 0, lines := 0, later := [], cfgDone := false, cfgEnv := 0, supEntry := none, checked := false,
    started := false, vers := [], readyAt := none }

/-- A package at its first power-on: the reset of PD_SYS held, PD_KEEP never held before. -/
def PowerU.init : PowerU :=
  { off := false, cause := 1, resetAt := 0, relAt := 0, keepLost := true, thermal := false, warned := false, kick := false,
    wdtAt := 0, wdtWarned := false, holdAt := 0, regReq := [], heldAt := [], domOld := 0x7F, pref := false, spi := false, testEn := false, otpRows := [],
    pllLost := false, overVin := false, vmonAt := 0, tempAt := [],
    boot := BootU.init }

end Sys2Proof
end

