-- ==== Sys2Proof/Machine/State.lean ====
section
/-!
DEFINITION. The state of the FMX4128, the reasons a step can stop, and the state after reset.
-/
namespace Sys2Proof.Machine
open Sys2Proof

/-- Why the device would stop with a fault. No command of this model faults: every access the spec describes completes,
and a refused access is the device's own report. The type is kept for the host's interface. -/
inductive Fault where
  /-- Raised by no command; safe. -/
  | none
  deriving DecidableEq, Repr

/-- Why a command is refused. -/
inductive Refusal where
  /-- Raised by a command that has no meaning yet, under its own name; safe. -/
  | notModelled (mnemonic : String)
  deriving DecidableEq, Repr

/-- The whole device. -/
structure State where
  /-- Every register and register-mapped memory word, by key (R555, R565); unlisted keys hold their reset value. -/
  regs : SMap Word
  /-- The 64 MB of MRAM, by indirect address (R37); an unlisted byte is 0. -/
  mram : List Host.Cell
  /-- Claims by resource ID (R39). -/
  claims : SMap Claim
  /-- Resources whose image claim has ended while a running line or a command still holds them (R283, R496). -/
  ended : List Nat
  /-- The value each requester's last read returned (0 host, 1 and 2 supervisor cores). -/
  rsp : SMap Word
  /-- The words the last SPI frame gave its master, in order (R553). -/
  spiOut : List Word
  /-- Snapshot words of each requester (R563), by requester and address. -/
  snaps : SMap Word
  /-- Holding registers of each requester (R564), by requester and address. -/
  holds : SMap Word
  /-- The indirect interfaces (R566). -/
  inds : SMap Ind
  /-- Whether the HBI and the SPI slave serve accesses yet (R551). -/
  hbiReady : Bool
  /-- Pending interrupt bits of the supervisor cores (R575). -/
  supPend : SMap (BitVec 64)
  /-- The die-to-die links' receivers (R16). -/
  links : SMap Link
  /-- The MRAM users whose last access failed (R21). -/
  mramErr : List MUser
  /-- The bytes the last MRAM read delivered (R37). -/
  mramOut : Bytes
  tally : TallyU
  /-- Token buckets' hidden state (R378). -/
  buckets : SMap Bucket
  tb : TimeBase
  /-- The alarms (R413 to R417). -/
  alms : SMap Alarm
  pins : SMap TioPin
  tick : TickU
  /-- Whether the next tick to start is the first after a time step (R134, R326). -/
  stepFlag : Bool
  /-- The phase each cluster is in (R55). -/
  phase : SMap Phase
  lanes : SMap Lane
  /-- CL_SRC as in force, by cluster (R104: a write waits for the next tick start). -/
  clSrc : SMap Word
  /-- LANE_EXPECT of each cluster's running image (R190). -/
  expect : SMap Word
  /-- Regions whose running tick was declared late (R34, R67). -/
  late : List Nat
  trk : SMap Tracker
  /-- Fast-path detectors, by channel; detectors of each cluster; and the raw state of the field channels as the coincidence
  logic sees it (R255). -/
  fpds : SMap FpdU
  dets : SMap DetU
  light : BitVec 48
  /-- Regions held in reset (R594). -/
  heldRegs : List Nat
  /-- Walso cores: element cores 0 to 15, supervisor cores 16 and 17, the Lathe pair 18. -/
  cores : SMap Core
  elems : SMap ElemU
  sups : SMap SupU
  /-- Settings in force of the curve unit, comparators and timers (R238, R241, R242), by register key. -/
  inForce : SMap Word
  /-- The CAN controllers (chapter 14). -/
  cans : SMap CanU
  /-- The Ethernet switch (chapter 13). -/
  eth : EthU
  /-- The field die (chapter 15). -/
  field_ : FieldDie
  /-- The engine die's field-channel block. -/
  fio : FioU
  /-- Trip lines (chapter 08), and the line of a key sequence in progress (R276). -/
  lines : SMap TripLine
  tripKey : Option Nat
  /-- The Lathe (chapter 09). -/
  lathe : LatheU
  /-- Ticks whose frames may still be written, newest first; recorders, wideband SRAMs by cluster, gauges by 8 × instance + slot,
  and Blaze sequencers (chapter 10). -/
  ticks : List TickSnap
  recs : SMap RecU
  wbs : SMap WbU
  gauges : SMap GaugeU
  blz : SMap BlzU
  /-- The pair protocol (chapter 16). -/
  pair : PairU
  /-- The metering snapshot (R317). -/
  meter : MeterU
  /-- Power, resets, watchdog and boot (chapter 18). -/
  power : PowerU
  /-- Values already drawn from a free source: the next draw's number. Model's own; rests on no rule. -/
  freeCtr : Nat
  /-- Commands waiting, first in, first out. -/
  pending : List Instr
  deriving DecidableEq, Repr

/-- The device in its first power-on reset, before the release: every domain reset, PD_KEEP included, MRAM never written, no access
served yet (R551, R592), and no command waiting. -/
def State.reset : State :=
  { regs := [], mram := [], claims := [], ended := [], rsp := [], spiOut := [], snaps := [], holds := [], inds := [], hbiReady := false,
    supPend := [], links := [], mramErr := [], mramOut := [], tally := TallyU.init, buckets := [], tb := TimeBase.init, alms := [],
    pins := [], tick := TickU.init, stepFlag := false, phase := [], lanes := [], clSrc := [], expect := [], late := [], trk := [], fpds := [], dets := [], light := 0, heldRegs := [], cores := [], elems := [], sups := [], inForce := [],
    cans := [], eth := EthU.init, field_ := FieldDie.init, fio := FioU.init, lines := [], tripKey := none,
    lathe := LatheU.init, ticks := [], recs := [], wbs := [], gauges := [], blz := [], pair := PairU.init, meter := MeterU.init, power := PowerU.init, freeCtr := 0, pending := [] }

end Sys2Proof.Machine
end

