-- ==== Sys2Proof/Machine/Ops.lean ====
section
/-!
DEFINITION. The named operations every family shares: register access by key, fields and flags, interrupts (R572), time
and stamps, Tally's queue and rate limit (R370 to R380), MRAM bytes, claims, and access to the per-unit states.
-/
namespace Sys2Proof

/-- The number of a requester in the per-requester maps. -/
def Req.num : Req → Nat
  | .host => 0
  | .sup0 => 1
  | .sup1 => 2

/-- The OWNER code of a requester's run-time claims (R40). -/
def Req.code : Req → Nat
  | .host => 0x04
  | _ => 0x01

/-- Whether the requester is the host. -/
def Req.isHost : Req → Bool
  | .host => true
  | _ => false

/-- The small parameter of MRAM_WRITE_DENIED for a user (R49). -/
def MUser.num : MUser → Nat
  | .supervisor => 1
  | .host => 2
  | .lathe => 3
  | .tally => 4
  | .recorder => 5

end Sys2Proof

namespace Sys2Proof.Machine
open Sys2Proof

/-! ### Registers and register-mapped words -/

/-- The word at a key. -/
def State.rd (s : State) (a : Nat) : Word := SMap.get regReset s.regs a

/-- The state with a word written at a key. -/
def State.wr (s : State) (a : Nat) (v : Word) : State := { s with regs := SMap.set regReset s.regs a v }

/-- Bits [hi:lo] of the word at a key. -/
def State.fld (s : State) (a hi lo : Nat) : Nat := field (s.rd a) hi lo

/-- Bit i of the word at a key. -/
def State.bit (s : State) (a i : Nat) : Bool := bitAt (s.rd a) i

/-- The state with bits [hi:lo] of a word replaced. -/
def State.put (s : State) (a hi lo v : Nat) : State := s.wr a (putField (s.rd a) hi lo v)

/-- The state with bit i of a word set to b. -/
def State.putBit (s : State) (a i : Nat) (b : Bool) : State := s.put a i i (b2n b)

/-- The state with a field advanced by n, stopping at its largest value: the saturating counters of the registers. -/
def State.count (s : State) (a hi lo n : Nat) : State := s.put a hi lo (satTo (2 ^ (hi - lo + 1) - 1) (s.fld a hi lo + n))

/-- An action taken only when a condition holds. -/
def when (b : Bool) (f : State → State) (s : State) : State := if b then f s else s

/-- A normal write of a register by its field types (R5). -/
def State.regWrite (s : State) (a : Nat) (v : Word) : State :=
  match regRow a with
  | some r => s.wr a (r.write (s.rd a) v)
  | none => s

/-- The canonical form of the word map and of MRAM: keys strictly rising, no entry equal to what its key reads as when unlisted. -/
def Memory.wf (s : State) : Bool := SMap.wf regReset s.regs && SMap.wf (fun _ => (0 : Byte)) s.mram

/-! ### Single fields -/

def State.tbMod (s : State) (f : TimeBase → TimeBase) : State := { s with tb := f s.tb }
def State.talMod (s : State) (f : TallyU → TallyU) : State := { s with tally := f s.tally }
def State.tickMod (s : State) (f : TickU → TickU) : State := { s with tick := f s.tick }
def State.fioMod (s : State) (f : FioU → FioU) : State := { s with fio := f s.fio }
def State.pairMod (s : State) (f : PairU → PairU) : State := { s with pair := f s.pair }
def State.meterMod (s : State) (f : MeterU → MeterU) : State := { s with meter := f s.meter }
def State.setStep (s : State) (x : Bool) : State := { s with stepFlag := x }
def State.setLate (s : State) (x : List Nat) : State := { s with late := x }
def State.setMramErr (s : State) (x : List MUser) : State := { s with mramErr := x }
def State.setMramOut (s : State) (x : Bytes) : State := { s with mramOut := x }
def State.setEnded (s : State) (x : List Nat) : State := { s with ended := x }
def State.setReady (s : State) (x : Bool) : State := { s with hbiReady := x }
def State.setSpiOut (s : State) (x : List Word) : State := { s with spiOut := x }
def State.setLight (s : State) (x : BitVec 48) : State := { s with light := x }
def State.setHeldRegs (s : State) (x : List Nat) : State := { s with heldRegs := x }
def State.setTicks (s : State) (x : List TickSnap) : State := { s with ticks := x }
def State.setTripKey (s : State) (x : Option Nat) : State := { s with tripKey := x }
def State.setForce (s : State) (x : SMap Word) : State := { s with inForce := x }
def State.setClSrc (s : State) (c : Nat) (w : Word) : State := { s with clSrc := SMap.set (fun _ => 0x20000#32) s.clSrc c w }
def State.setExpect (s : State) (c : Nat) (w : Word) : State := { s with expect := SMap.set (fun _ => (0 : Word)) s.expect c w }
/-- The keys p selects read as unlisted again. -/
def State.dropRegs (s : State) (p : Nat → Bool) : State := { s with regs := SMap.drop p s.regs }

/-! ### Per-unit states -/

def State.ind (s : State) (r : Nat) : Ind := SMap.get (fun _ => Ind.init) s.inds r
def State.setInd (s : State) (r : Nat) (x : Ind) : State := { s with inds := SMap.set (fun _ => Ind.init) s.inds r x }
def State.link (s : State) (n : Nat) : Link := SMap.get (fun _ => Link.init) s.links n
def State.setLink (s : State) (n : Nat) (x : Link) : State := { s with links := SMap.set (fun _ => Link.init) s.links n x }
def State.lane (s : State) (ch : Nat) : Lane := SMap.get (fun _ => Lane.init) s.lanes ch
def State.setLane (s : State) (ch : Nat) (x : Lane) : State := { s with lanes := SMap.set (fun _ => Lane.init) s.lanes ch x }
def State.tracker (s : State) (c : Nat) : Tracker := SMap.get (fun _ => Tracker.init) s.trk c
def State.setTracker (s : State) (c : Nat) (x : Tracker) : State :=
  { s with trk := SMap.set (fun _ => Tracker.init) s.trk c x }
def State.fpd (s : State) (ch : Nat) : FpdU := SMap.get (fun _ => FpdU.init) s.fpds ch
def State.setFpd (s : State) (ch : Nat) (x : FpdU) : State := { s with fpds := SMap.set (fun _ => FpdU.init) s.fpds ch x }
def State.det (s : State) (c : Nat) : DetU := SMap.get (fun _ => DetU.init) s.dets c
def State.setDet (s : State) (c : Nat) (x : DetU) : State := { s with dets := SMap.set (fun _ => DetU.init) s.dets c x }
/-- Change a cluster's detectors. -/
def State.detMod (s : State) (c : Nat) (f : DetU → DetU) : State := s.setDet c (f (s.det c))
/-- Change a cluster's tracker. -/
def State.trkMod (s : State) (c : Nat) (f : Tracker → Tracker) : State := s.setTracker c (f (s.tracker c))
def State.pin (s : State) (n : Nat) : TioPin := SMap.get (fun _ => TioPin.init) s.pins n
def State.setPin (s : State) (n : Nat) (x : TioPin) : State := { s with pins := SMap.set (fun _ => TioPin.init) s.pins n x }
def State.alm (s : State) (n : Nat) : Alarm := SMap.get (fun _ => Alarm.init) s.alms n
def State.setAlm (s : State) (n : Nat) (x : Alarm) : State := { s with alms := SMap.set (fun _ => Alarm.init) s.alms n x }
def State.bucket (s : State) (b : Nat) : Bucket := SMap.get (fun _ => Bucket.init) s.buckets b
def State.setBucket (s : State) (b : Nat) (x : Bucket) : State :=
  { s with buckets := SMap.set (fun _ => Bucket.init) s.buckets b x }
def State.clPhase (s : State) (c : Nat) : Phase := SMap.get (fun _ => Phase.idle) s.phase c
def State.setPhase (s : State) (c : Nat) (p : Phase) : State :=
  { s with phase := SMap.set (fun _ => Phase.idle) s.phase c p }
def State.claim (s : State) (res : Nat) : Claim := SMap.get (fun _ => Claim.free) s.claims res
def State.setClaim (s : State) (res : Nat) (x : Claim) : State :=
  { s with claims := SMap.set (fun _ => Claim.free) s.claims res x }

def State.can (s : State) (c : Nat) : CanU := SMap.get (fun _ => CanU.init) s.cans c
def State.setCan (s : State) (c : Nat) (x : CanU) : State := { s with cans := SMap.set (fun _ => CanU.init) s.cans c x }

def State.blzU (s : State) (i : Nat) : BlzU := SMap.get (fun _ => BlzU.init) s.blz i
def State.setBlz (s : State) (i : Nat) (x : BlzU) : State := { s with blz := SMap.set (fun _ => BlzU.init) s.blz i x }

/-- Change the switch's hidden state. -/
def State.ethMod (s : State) (f : EthU → EthU) : State := { s with eth := f s.eth }

def State.svSlot (s : State) (n : Nat) : SvSlot := SMap.get (fun _ => SvSlot.init) s.eth.svs n
def State.setSvSlot (s : State) (n : Nat) (x : SvSlot) : State :=
  s.ethMod (fun e => { e with svs := SMap.set (fun _ => SvSlot.init) e.svs n x })
def State.gse (s : State) (n : Nat) : GooseRx := SMap.get (fun _ => GooseRx.init) s.eth.gse n
def State.setGse (s : State) (n : Nat) (x : GooseRx) : State :=
  s.ethMod (fun e => { e with gse := SMap.set (fun _ => GooseRx.init) e.gse n x })
def State.gpub (s : State) (g : Nat) : GoosePub := SMap.get (fun _ => GoosePub.init) s.eth.gpub g
def State.setGpub (s : State) (g : Nat) (x : GoosePub) : State :=
  s.ethMod (fun e => { e with gpub := SMap.set (fun _ => GoosePub.init) e.gpub g x })

/-- The owner code of a resource, 0 when free (R40). -/
def State.owner (s : State) (res : Nat) : Nat := (s.claim res).owner

/-- Key of a requester's snapshot or holding word for a register. -/
def reqKey (r : Req) (a : Nat) : Nat := r.num * 0x100000000 + a

/-- Whether PD_SYS is powered and out of reset. -/
def State.sysRuns (s : State) : Bool := !s.power.off && decide (s.power.cause = 0)

/-- Whether a requester's accesses are served (R551). -/
def State.served (s : State) (r : Req) : Bool := if r.isHost then s.hbiReady else s.sysRuns

/-- An access of a requester: one that is not served has no effect (R551). -/
def State.access (s : State) (r : Req) (f : State → State) : Host.Outcome State Fault Refusal := .next (if s.served r then f s else s)

/-- Deliver a read's value to its requester. -/
def State.answer (s : State) (r : Req) (v : Word) : State := { s with rsp := SMap.set (fun _ => 0) s.rsp r.num v }

/-- The value the requester's last read returned. -/
def State.answered (s : State) (r : Req) : Word := SMap.get (fun _ => 0) s.rsp r.num

/-- Latch a word into the requester's snapshot (R563). -/
def State.latch (s : State) (r : Req) (a : Nat) (v : Word) : State :=
  { s with snaps := SMap.set (fun _ => 0) s.snaps (reqKey r a) v }

/-- The snapshot a requester reads for a latched word (R563). -/
def State.snap (s : State) (r : Req) (a : Nat) : Word := SMap.get (fun _ => 0) s.snaps (reqKey r a)

/-- Write a holding register of the requester (R564). -/
def State.hold (s : State) (r : Req) (a : Nat) (v : Word) : State :=
  { s with holds := SMap.set (fun k => regReset (k % 0x100000000)) s.holds (reqKey r a) v }

/-- A holding register's value; at first the register's reset value (R564). -/
def State.held (s : State) (r : Req) (a : Nat) : Word :=
  SMap.get (fun k => regReset (k % 0x100000000)) s.holds (reqKey r a)

/-! ### Interrupts -/

/-- Set a pending bit of one supervisor core (R575). -/
def State.setSupPend (s : State) (i : Nat) (v : BitVec 64) : State := { s with supPend := SMap.set (fun _ => 0) s.supPend i v }

/-- The pending bits of a supervisor core. -/
def State.supBits (s : State) (i : Nat) : BitVec 64 := SMap.get (fun _ => 0) s.supPend i

/-- Set source n in INT_STAT, as every raising does toward the host (R572). -/
def State.raiseHost (s : State) (n : Nat) : State :=
  if n < 32 then s.putBit Reg.INT_STAT_LO n true else s.putBit Reg.INT_STAT_HI (n - 32) true

/-- Set source n in the pending bits of both supervisor cores (R575). -/
def State.raiseSup (s : State) (n : Nat) : State :=
  let b := BitVec.ofNat 64 (2 ^ n)
  (s.setSupPend 0 (s.supBits 0 ||| b)).setSupPend 1 (s.supBits 1 ||| b)

/-- A block raises interrupt source n (R572, R575). -/
def State.irq (s : State) (n : Nat) : State := (s.raiseHost n).raiseSup n

/-- The interrupt pins as INT_PIN shows them: pin k is asserted while an enabled source is set (R572). -/
def State.intPin (s : State) : Word :=
  let on (lo hi : Nat) : Bool :=
    decide ((s.rd Reg.INT_STAT_LO &&& s.rd lo) ≠ 0) || decide ((s.rd Reg.INT_STAT_HI &&& s.rd hi) ≠ 0)
  w32 (b2n (on Reg.INT_EN0_LO Reg.INT_EN0_HI) + 2 * b2n (on Reg.INT_EN1_LO Reg.INT_EN1_HI))

/-! ### Memory errors (R165) -/

/-- The error the word at a key of cluster c's memories holds: 0 none, 1 in one bit, 2 in two bits. -/
def State.upset (s : State) (c key : Nat) : Nat := SMap.get (fun _ => 0) (SMap.get (fun _ => ElemU.init) s.elems c).errs key

def State.setUpset (s : State) (c key kind : Nat) : State :=
  let e := SMap.get (fun _ => ElemU.init) s.elems c
  { s with elems := SMap.set (fun _ => ElemU.init) s.elems c { e with errs := SMap.set (fun _ => 0) e.errs key kind } }

/-- The words of cluster c's memories for which `p` holds hold no error any more: they are written whole, or lost. -/
def State.dropUpsets (s : State) (c : Nat) (p : Nat → Bool) : State :=
  let e := SMap.get (fun _ => ElemU.init) s.elems c
  { s with elems := SMap.set (fun _ => ElemU.init) s.elems c { e with errs := SMap.drop p e.errs } }

/-- Write a word of a protected memory: it holds no error after. -/
def State.wrMem (s : State) (c key : Nat) (v : Word) : State := (s.wr key v).setUpset c key 0

/-- A word of a window or of the phasor RAM as it is read: 0x0000_0080 with a parity error. -/
def State.winWord (s : State) (c key : Nat) : Word := if s.upset c key = 0 then s.rd key else 0x80

/-- The words at the keys are read: a parity error among them sets CORE_STAT.WIN_PAR. -/
def State.winSeen (s : State) (c : Nat) (keys : List Nat) : State :=
  if keys.any (fun k => decide (s.upset c k ≠ 0)) then s.putBit (Reg.CORE_STAT c) 13 true else s

/-- Keys of the memories of a cluster (R163, R166): an error can stand in the two banks of IMEM, in DMEM, in the windows and their
tags, and in the phasor RAM. -/
def memKeyOk (c key : Nat) : Bool :=
  (decide (clusterKey c 0x10000 ≤ key) && decide (key < clusterKey c 0x50000)) ||
    (decide (winKey c 0x20000 ≤ key) && decide (key < winKey c 0x24400)) ||
    (decide (clusterKey c 0x70000 ≤ key) && decide (key < clusterKey c 0x78000))

/-- One counter period may bring one error into a memory of a cluster: a free value (log entry 133). -/
def State.upsetNow (s : State) : State :=
  match Config.upset s.tb.cnt with
  | some (c, key, two) => if memKeyOk c.val key then s.setUpset c.val key (if two then 2 else max 1 (s.upset c.val key)) else s
  | none => s

/-! ### Time -/

/-- The epoch in force (R403). -/
def State.epoch (s : State) : Nat := s.fld Reg.TB_EPOCH 7 0

/-- The time base's time as a stamp (R396). -/
def State.now (s : State) : Stamp := { sec := s.tb.sec, ns := s.tb.ns, epoch := s.epoch }

/-- The time quality in force (R369, R409). -/
def State.tq (s : State) : Nat := s.fld Reg.TB_STAT 3 2

/-- ADDEND in 2^-32 ns (R396, R397). -/
def State.addend (s : State) : Nat := s.fld Reg.TB_ADDEND_HI 7 0 * 4294967296 + (s.rd Reg.TB_ADDEND_LO).toNat

/-- Whether the time base runs (R401). -/
def State.started (s : State) : Bool := s.bit Reg.TB_STAT 5

/-- n counter periods pass: the elapsed count advances, the RTC and the drill age (R544) count
their seconds, and once the time base has been
started the time value advances by n × ADDEND (R396, R398, R402). -/
def State.pass (s : State) (n : Nat) : State :=
  let t := s.tb
  let x := t.ns * 4294967296 + t.frac + (if s.started then n * s.addend else 0)
  let sub := t.rtcSub + n
  let rtc := s.fld Reg.TB_RTC_SEC_HI 15 0 * 4294967296 + (s.rd Reg.TB_RTC_SEC_LO).toNat + sub / 250000000
  let s := if sub < 250000000 then s
    else (s.count Reg.PAIR_DRILL_AGE 31 0 (sub / 250000000) |>.wr Reg.TB_RTC_SEC_LO (w32 rtc)).put Reg.TB_RTC_SEC_HI 15 0 (rtc / 4294967296)
  s.tbMod (fun u => { u with
      cnt := t.cnt + n, rtcSub := sub % 250000000, sec := t.sec + x / 4294967296 / 1000000000,
      ns := x / 4294967296 % 1000000000, frac := x % 4294967296 })

/-- The elapsed count TB_CNT shows: counter periods since the last reset of PD_SYS (R398). -/
def State.cntShown (s : State) : Nat := s.tb.cnt - s.power.resetAt

/-- The elapsed count has reached c: an event at that count implies that the periods before it have passed. -/
def State.reachCnt (s : State) (c : Nat) : State := s.pass (c - s.tb.cnt)

/-- The time has reached t ns: the periods up to the first one at or after t have passed. -/
def State.reachTime (s : State) (t : Nat) : State :=
  let here := (s.tb.sec * 1000000000 + s.tb.ns) * 4294967296 + s.tb.frac
  let gap := t * 4294967296 - here
  if s.started then s.pass ((gap + s.addend - 1) / s.addend) else s

/-- Start of tick k after its second, in ns (R53). -/
def tickNs (k : Nat) : Nat := k * 625000 / 3

/-- The number of a tick on one running scale: 4800 per second. -/
def tickAbs (sec k : Nat) : Nat := sec * 4800 + k

/-- The current tick on the running scale. -/
def State.tickNo (s : State) : Nat := tickAbs s.tick.sec s.tick.idx

/-- A number of nanoseconds as a second and its nanoseconds. -/
def splitNs (t : Nat) : Nat × Nat := (t / 1000000000, t % 1000000000)

/-- A time value in ns. -/
def stampNs (t : Stamp) : Nat := t.sec * 1000000000 + t.ns

/-! ### Tally: severity, source, rate limit and queue -/

/-- The region of a channel. -/
def chRegion (ch : Nat) : Nat := ch / 32

/-- SOURCE of a hardware record (R371 and the chapters it names). -/
def hwSource (code sparam : Nat) : Nat :=
  if code < 0x110 then 0xA8
  else if code ≤ 0x113 ∨ code = 0x130 ∨ code = 0x143 ∨ code = 0x150 then 0x80
  else if code = 0x120 ∨ code = 0x121 then 0x81 + sparam
  else if code = 0x154 ∨ code = 0x155 ∨ code = 0x163 then 0x81 + sparam / 4
  else if 0x151 ≤ code ∧ code < 0x170 then 0x81 + chRegion sparam
  else if code = 0x184 then 0x90 + sparam / 8
  else if code < 0x190 then 0x90 + sparam
  else if code < 0x1A0 then 0xA0
  else if code < 0x1B0 then 0xA1
  else if code < 0x1C0 then 0xA4 + sparam
  else if code < 0x1D0 then 0xA9
  else if code < 0x1E0 then 0xAA
  else if code < 0x1F0 then 0xAB
  else if code < 0x200 then 0xAC
  else if code < 0x210 then 0xAD
  else if code < 0x220 then 0xAE
  else 0xAF

/-- Severity of a hardware record: fixed for Tally's own codes (R395), else the code group's in TALLY_HWSEV (R377). -/
def State.hwSev (s : State) (code : Nat) : Nat :=
  if 0x100 ≤ code ∧ code ≤ 0x10F then
    if code = 0x101 then 4 else if code = 0x104 ∨ code = 0x105 then 8 else if code = 0x106 then 2
    else if code = 0x107 then 6 else 10
  else
    let g := code / 16
    s.fld (Reg.TALLY_HWSEV (g / 8)) (4 * (g % 8) + 3) (4 * (g % 8))

/-- A hardware record at an event time (R373). -/
def State.hwRec (s : State) (code sparam p0 p1 : Nat) (t : Stamp) : TRec :=
  { code := code, source := hwSource code sparam, sev := s.hwSev code, flags := 0, sparam := sparam % 256,
    p0 := p0 % 4294967296, p1 := p1 % 4294967296, at_ := t, tq := s.tq }

/-- A queue with a record more: at its end, but ahead of those of a greater SOURCE among the last n entries, which came in the same PD_SYS
cycle (R374). -/
def queuePut (q : List TRec) (n : Nat) (r : TRec) : List TRec :=
  let k := q.length - n
  let t := q.drop k
  q.take k ++ t.takeWhile (fun x => decide (x.source ≤ r.source)) ++ r :: t.dropWhile (fun x => decide (x.source ≤ r.source))

/-- Put a record into the queue, whose 256 entries hold what they can (R374, R380); a queue closed by POWER_LOSS drops it. -/
def State.enqueue (s : State) (r : TRec) : State :=
  if s.tally.closed then s.count Reg.TALLY_DROP 31 0 1
  else
    let n := if s.tally.tailAt = s.tb.cnt then s.tally.tail else 0
    let q := queuePut s.tally.queue n r
    let s := s.talMod (fun t => { t with queue := q.take 256, tail := n + 1, tailAt := s.tb.cnt })
    if 256 < q.length then (s.count Reg.TALLY_DROP 31 0 1).putBit Reg.TALLY_STAT 4 true else s

/-- The lowest-numbered bucket that covers a code; codes 0x0100 to 0x010F are never limited (R378). -/
def State.bucketOf (s : State) (code : Nat) : Option Nat :=
  if 0x100 ≤ code ∧ code ≤ 0x10F then none
  else (List.range 256).find? (fun b =>
    decide (s.fld (Reg.TALLY_BKT_RNG b) 15 0 ≤ code) && decide (code ≤ s.fld (Reg.TALLY_BKT_RNG b) 31 16))

/-- A record suppressed in bucket b: its count and the first and last suppressed codes (R378). -/
def State.suppress (s : State) (b code : Nat) : State :=
  let x := s.bucket b
  let first := if s.rd (Reg.TALLY_BKT_SUP b) = 0 then code else x.first
  (s.setBucket b { x with first := first, last := code }).count (Reg.TALLY_BKT_SUP b) 31 0 1

/-- Take a token of bucket b; the refill period begins when the bucket first falls below its burst (R378). -/
def State.takeToken (s : State) (b : Nat) : State :=
  let x := s.bucket b
  let t := s.fld (Reg.TALLY_BKT_CFG b) 7 0
  let s := s.put (Reg.TALLY_BKT_CFG b) 7 0 (t - 1)
  if x.since = none then s.setBucket b { x with since := some s.tb.cnt } else s

/-- Raise a record: charge its bucket, then enter the queue or be suppressed (R374, R378). -/
def State.raiseRec (s : State) (r : TRec) : State :=
  match s.bucketOf r.code with
  | none => s.enqueue r
  | some b => if s.fld (Reg.TALLY_BKT_CFG b) 7 0 = 0 then s.suppress b r.code else (s.takeToken b).enqueue r

/-- Raise a hardware record with an event time of its own. -/
def State.tallyAt (s : State) (code sparam p0 p1 : Nat) (t : Stamp) : State := s.raiseRec (s.hwRec code sparam p0 p1 t)

/-- Raise a hardware record at the present time (R373). -/
def State.log (s : State) (code sparam p0 p1 : Nat) : State := s.tallyAt code sparam p0 p1 s.now

/-! ### MRAM -/

/-- One byte of MRAM. -/
def State.mb (s : State) (a : Nat) : Byte := SMap.get (fun _ => (0 : Byte)) s.mram a

/-- n bytes of MRAM from an address. -/
def State.mbs (s : State) : Nat → Nat → Bytes
  | 0, _ => []
  | n + 1, a => s.mb a :: s.mbs n (a + 1)

/-- Write bytes into MRAM; an address beyond its 64 MB has no byte. -/
def State.mwr (s : State) (a : Nat) : Bytes → State
  | [] => s
  | b :: bs =>
    let s' := if a < 0x4000000 then { s with mram := SMap.set (fun _ => (0 : Byte)) s.mram a b } else s
    s'.mwr (a + 1) bs

/-- A little-endian word of MRAM. -/
def State.mw (s : State) (a : Nat) : Word := leWord (s.mbs 4 a)

/-- Write a little-endian word of MRAM. -/
def State.mwrW (s : State) (a : Nat) (v : Word) : State := s.mwr a (leBytes v)

/-- Whether a user is a writer of the MRAM range that holds an address (R37). -/
def mramWriter (u : MUser) (a : Nat) : Bool :=
  if a < 0x800000 then u = .supervisor ∨ u = .host
  else if a < 0x820000 then u = .lathe
  else if a < 0x1000000 then u = .supervisor ∨ u = .host
  else if a < 0x1800000 then u = .tally
  else u = .recorder

/-- A refused MRAM write: interrupt 47 and its record (R38, R49). -/
def State.mramDenied (s : State) (u : MUser) (a : Nat) : State :=
  (s.irq 47).log 0x113 u.num a (a / 0x800000)

/-- An indirect access of a requester failed with a cause (R569). -/
def State.indFail (s : State) (r : Req) (cause : Nat) : State :=
  (s.setInd r.num { s.ind r.num with err := true, cause := cause }).irq 46

/-! ### Free values -/

/-- The state in which one more free value has been drawn. -/
def State.drew (s : State) : State := { s with freeCtr := s.freeCtr + 1 }
def State.drewN (s : State) (n : Nat) : State := { s with freeCtr := s.freeCtr + n }

/-- An entry is taken from the FIFO whose head register is a: the register's cell is 1 from then until its domain resets. -/
def State.headTaken (s : State) (a : Nat) : State := s.wr a 1

/-- A read of the head register of an empty FIFO: its reset value 0 while no entry has been taken since the reset, else a value the manual
does not state (log entry 136). -/
def State.emptyRead (s : State) (r : Req) (a : Nat) : State :=
  if s.rd a = 0 then s.answer r 0 else (s.answer r (Config.emptyHead a s.freeCtr)).drew

/-! ### Role of the package (chapter 16) -/

/-- Whether the package is a member of a pair (R51, R524). -/
def State.paired (s : State) : Bool := s.bit Reg.PAIR_CFG 31

/-- ROLE: 0 INIT, 1 SAPWOOD, 2 HEARTWOOD, 3 ISOLATED. -/
def State.role (s : State) : Nat := s.fld Reg.PAIR_STAT 31 29

/-- Whether the package acts as heartwood: a single package does (R51). -/
def State.heart (s : State) : Bool := !s.paired || decide (s.role = 2)

/-- Whether the package is a standby that drives nothing. -/
def State.sapwood (s : State) : Bool := !s.heart

/-! ### Regions -/

/-- Whether a region runs ticks: switched on and out of reset (R68). -/
def State.regionRuns (s : State) (r : Nat) : Bool := !s.bit (Reg.REG_STAT r) 19 && !s.heldRegs.contains r

/-- Whether a region runs the running tick: one that leaves reset or is switched on during it waits for the next (R68). -/
def State.tickHas (s : State) (r : Nat) : Bool := s.tick.regs.contains r && s.regionRuns r

/-- Whether some cluster still has its element deadline of the running tick before it. -/
def State.deadlinesLeft (s : State) : Bool := (List.range 16).any (fun i => s.tickHas (i / 4) && decide (s.clPhase i ≠ .exit))

/-- Whether some cluster has met its element deadline in the running tick. -/
def State.inExit (s : State) : Bool := (List.range 16).any (fun i => decide (s.clPhase i = .exit))

/-- Whether a region runs in HALF mode. -/
def State.halfMode (s : State) (r : Nat) : Bool := s.bit (Reg.REG_STAT r) 18

/-- The in-force setting of a register that takes effect later (R136, R233, R238 and others). -/
def State.eff (s : State) (a : Nat) : Word := SMap.get regReset s.inForce a

/-- Put a setting into force. -/
def State.setEff (s : State) (a : Nat) (v : Word) : State := { s with inForce := SMap.set regReset s.inForce a v }

/-! ### Access rights -/

/-- Whether a requester may write a register guarded by a resource's owner: the host where the host owns it, the
supervisor where any other owner does, nobody where it is free (R360, R495). -/
def State.mayWrite (s : State) (r : Req) (res : Nat) : Bool :=
  let o := s.owner res
  if o = 0x04 then r.isHost else if o = 0 then false else !r.isHost

/-- The same where the owner is one that R280 names: the host for itself, the supervisor for the owners 0x01 to 0x03, and no requester
for any other owner (R280, R413, R419, R448, R475). -/
def State.mayWrite280 (s : State) (r : Req) (res : Nat) : Bool := s.mayWrite r res && decide (s.owner res ≤ 0x04)

end Sys2Proof.Machine
end

