-- ==== Sys2Proof/Machine/Filter.lean ====
section
/-!
DEFINITION. The arithmetic of the acquisition and filter chain (chapters 03 and 04), as functions of histories: CIC,
compensating FIR, stitcher arithmetic, half-bands, final FIR, biquads, output rounding, Lagrange weights and the WB
branch. All products are exact; rounding and saturation follow R83.
-/
namespace Sys2Proof

/-- round(num / den) = floor(num / den + 1/2) for den > 0 (R83). -/
def roundQ (num : Int) (den : Nat) : Int := (2 * num + (den : Int)) / (2 * (den : Int))

/-- sat of R83: to −(2^31 − 1) … 2^31 − 1. -/
def sat32 (v : Int) : Int := clampInt (-2147483647) 2147483647 v

/-- The product of two polynomials given by their coefficients. -/
def polyMul (a b : List Int) : List Int :=
  (List.range (a.length + b.length - 1)).map (fun k =>
    (List.range (k + 1)).foldl (fun acc i => acc + a.getD i 0 * b.getD (k - i) 0) 0)

/-- The CIC kernel for decimation R: the coefficients of (1 + z^-1 + … + z^-(R-1))^5 (R112). -/
def cicKernel (r : Nat) : List Int :=
  let b : List Int := List.replicate r 1
  polyMul (polyMul (polyMul (polyMul b b) b) b) b

/-- A sum over the taps of a kernel: Σ_j h_j × f j. -/
def firSum (h : List Int) (f : Nat → Int) : Int :=
  (h.foldl (fun (p : Int × Nat) c => (p.1 + c * f p.2, p.2 + 1)) (0, 0)).1

/-- A modulator bit as ±1 (R110). -/
def bitSign (b : Bool) : Int := if b then 1 else -1

/-- The modulator period p of a lane, if its history holds it. -/
def Lane.modBit (l : Lane) (p : Nat) : Option ModBit := if p < l.per then l.bits[l.per - 1 - p]? else none

/-- The value of period p on one path; before the lane's history the chain holds zeros. -/
def Lane.sign (l : Lane) (fine : Bool) (p : Nat) : Int :=
  match l.modBit p with
  | some b => bitSign (if fine then b.fine else b.coarse)
  | none => 0

/-- The CIC output c[m] (R112). -/
def Lane.cicAt (l : Lane) (fine : Bool) (k : List Int) (r m : Nat) : Int :=
  firSum k (fun i => if i ≤ r * m then l.sign fine (r * m - i) else 0)

/-- Whether any period of an inclusive range satisfies p; the range runs n periods down from hi. -/
def Lane.anyPeriod (l : Lane) (p : ModBit → Bool) (hi n : Nat) : Bool :=
  (List.range (n + 1)).any (fun i => if i ≤ hi then (match l.modBit (hi - i) with
    | some b => p b
    | none => false) else false)

/-- Whether any period of an inclusive range is missing; the range runs n periods down from hi (R17, R121). -/
def Lane.missing (l : Lane) (hi n : Nat) : Bool :=
  decide (hi - n < l.gap) || l.anyPeriod (fun b => b.missing) hi n

/-- The length of the run of equal fine bits through period p: equal bits before and after it, within w. -/
def Lane.fineRun (l : Lane) (p w : Nat) : Nat :=
  match l.modBit p with
  | none => 0
  | some b =>
    let up := ((List.range w).map (fun i => l.modBit (p + 1 + i))).takeWhile
      (fun x => x.any (fun y => y.fine == b.fine))
    let dn := ((List.range w).map (fun i => if i < p then l.modBit (p - 1 - i) else none)).takeWhile
      (fun x => x.any (fun y => y.fine == b.fine))
    up.length + dn.length + 1

/-- Whether an overload run of the fine path touches the n periods down from hi (R86, R87). -/
def Lane.fineOvl (l : Lane) (run hi n : Nat) : Bool :=
  (List.range (n + 1)).any (fun i => if i ≤ hi then decide (run ≤ l.fineRun (hi - i) run) else false)

/-- A half-band kernel by its K field: shift q, centre, and side taps at odd offsets outward (R115). -/
def hbKernel (k : Nat) : Nat × Int × List Int :=
  match k with
  | 1 => (2, 2, [1])
  | 2 => (5, 16, [9, -1])
  | 3 => (9, 256, [150, -25, 3])
  | 4 => (12, 2048, [1225, -245, 49, -5])
  | _ => (17, 65536, [39690, -8820, 2268, -405, 35])

/-- One half-band output from the input history, newest first, aligned at input 2n (R115). -/
def hbOut (k : Nat) (h : List Int) : Int :=
  let (q, c, side) := hbKernel k
  let mid := 2 * side.length - 1
  let s := c * h.getD mid 0 + firSum side (fun i => h.getD (mid - (2 * i + 1)) 0 + h.getD (mid + (2 * i + 1)) 0)
  sat32 (roundQ s (2 ^ q))

/-- n outputs of a half-band stage, newest first, from its input history aligned at the newest output. -/
def hbStage (k : Nat) : Nat → List Int → List Int
  | 0, _ => []
  | n + 1, h => hbOut k h :: hbStage k n (h.drop 2)

/-- Inputs a stage needs for n outputs: 2(n − 1) + 4K − 1. -/
def hbNeed (k n : Nat) : Nat := 2 * (n - 1) + (4 * k - 1)

/-- The last n outputs of a cascade of stages from the stitcher history, newest first. -/
def cascade : List Nat → Nat → List Int → List Int
  | [], n, h => h.take n
  | ks, n, h =>
    let needs := ks.reverse.foldl (fun (acc : List Nat) k => hbNeed k (acc.headD n) :: acc) [n]
    ((ks.zip (needs.drop 1)).foldl (fun x p => hbStage p.1 p.2 x) h)

/-- The kernels of the used stages from LANE_HB (R115). -/
def hbList (hb : Word) (stages : Nat) : List Nat := (List.range stages).map (fun s => field hb (3 * s + 2) (3 * s))

/-- The structure of a lane from LANE_CFG: R, M, L_C, s, L_F, s_F. -/
structure ChainCfg where
  r : Nat
  m : Nat
  lc : Nat
  sc : Nat
  lf : Nat
  sf : Nat
  iir : Bool
  six : Bool
  deriving DecidableEq, Repr

def chainCfg (c : Word) : ChainCfg :=
  { r := 4 * 2 ^ field c 1 0, m := 2 ^ field c 3 2, lc := field c 10 4, sc := field c 15 11, lf := field c 23 16,
    sf := field c 28 24, iir := bitAt c 31, six := bitAt c 30 }

/-- fMOD periods per stitch sample. -/
def ChainCfg.p (c : ChainCfg) : Nat := c.r * c.m

/-- Half-band stages so that the cascade ends at 14.4 kS/s (R114). -/
def ChainCfg.stages (c : ChainCfg) : Nat := if c.p = 16 then 6 else if c.p = 32 then 5 else 4

/-- Stitch samples a REC sample is built from, before the newest (R121). -/
def stitchSpan (c : ChainCfg) (hb : Word) : Nat :=
  ((List.range c.stages).foldl (fun a s => a + (4 * field hb (3 * s + 2) (3 * s) - 2) * 2 ^ s) 0) +
    (c.lf - 1) * 2 ^ c.stages

/-- The support S in fMOD periods (R121, LANE_MIN.SUPPORT). -/
def supportOf (c : ChainCfg) (hb : Word) : Nat := 5 * (c.r - 1) + (c.lc - 1) * c.r + 4 * c.p + stitchSpan c hb * c.p

/-- D_MIN (R129) and N_MIN (R142) with S, as LANE_MIN shows them. -/
def laneMin (cfg hb : Word) : Word :=
  let c := chainCfg cfg
  let s := supportOf c hb
  w32 (s % 1048576 * 4096 + (if c.six then 3 else 2) * 256 + ((s + 3071) / 3072) % 256)

/-- Interpolation weights of R85 for a fraction μ in 1/1024, with 16 fraction bits. -/
def stitchWeights (mu : Int) : List Int :=
  let d : Nat := 1024 ^ 3
  let u := mu
  let o := 1024
  [roundQ (65536 * (-(u * (u - o) * (u - 2 * o)))) (6 * d), roundQ (65536 * ((u + o) * (u - o) * (u - 2 * o))) (2 * d),
   roundQ (65536 * (-((u + o) * u * (u - 2 * o)))) (2 * d), roundQ (65536 * ((u + o) * u * (u - o))) (6 * d)]

/-- The fine contribution y_F from the history of x_F, newest first (R85). -/
def yFine (xf : List Int) (gf : Nat) (ofs pf : Int) : Int :=
  let d := 2048 + pf
  let m := (d / 1024).toNat
  let mu := d % 1024
  let u (i : Nat) : Int := xf.getD i 0 - ofs
  let v := firSum (stitchWeights mu) (fun i => u (m + i - 1))
  sat32 (roundQ (v * gf) (2 ^ 16 * 2 ^ 23))

/-- The coarse product of R84 before its limit, times 2^22. -/
def coarseProduct (xc : Int) (gc : Nat) (oc : Int) : Int := (xc - oc) * 16 * gc

/-- The coarse contribution y_C from x_C[n − 2] (R84). -/
def yCoarse (xc : Int) (gc : Nat) (oc : Int) : Int := sat32 (roundQ (coarseProduct xc gc oc) (2 ^ 22))

/-- The limit of R113: x_C and x_F from the unclamped value. -/
def lim28 (v : Int) : Int := clampInt (-134217727) 134217727 v

/-- The blend of R146 for fade sample j of a fade of length K. -/
def fadeBlend (old new : Int) (j k : Nat) : Int :=
  if j ≥ k then new
  else
    let w := (j + 1) * 65536 / (k + 1)
    roundQ (old * (65536 - (w : Int)) + new * w) 65536

/-- One biquad step (R117): output and the state (x1, x2, w1, w2). -/
def biquadStep (b : List Int) (st : Int × Int × Int × Int) (x : Int) : Int × (Int × Int × Int × Int) :=
  let (x1, x2, w1, w2) := st
  let w := sat32 (roundQ (b.getD 0 0 * x + b.getD 1 0 * x1 + b.getD 2 0 * x2 - b.getD 3 0 * w1 - b.getD 4 0 * w2) (2 ^ 30))
  (w, (x, x1, w, w1))

/-- The 24-bit value of a 32-bit lane output (R118). -/
def out24 (z : Int) : Int := clampInt (-8388607) 8388607 (roundQ z 256)

/-- A sample word (R8, R9): VALUE is 0 where INVALID is set. -/
def sampleWord (v : Int) (invalid settling sat sv : Bool) (tick : Nat) : Word :=
  w32 ((if invalid then 0 else toField 24 v) * 256 + b2n invalid * 128 + b2n settling * 64 + b2n sat * 32 + b2n sv * 16 +
    tick % 16)

/-- The WB kernel (R119). -/
def wbKernel : List Int := [1, 2, 3, 4, 4, 4, 4, 4, 3, 2, 1]

/-- WB sample m of a lane (R119). -/
def Lane.wbAt (l : Lane) (m : Nat) : Int :=
  clampInt (-32767) 32767 (1280 * firSum wbKernel (fun i => if i ≤ 8 * m then l.sign false (8 * m - i) else 0))

/-- The Lagrange weight of point p over the points S at a fraction μ in 2^-16, rounded to 16 fraction bits (R135). -/
def lagrange (pts : List Int) (p : Int) (mu : Int) : Int :=
  let f := pts.foldl (fun (a : Int × Int) q => if q = p then a else (a.1 * (mu - q * 65536), a.2 * ((p - q) * 65536))) (1, 1)
  let num := if f.2 < 0 then -(65536 * f.1) else 65536 * f.1
  roundQ num f.2.natAbs

/-- The interpolation points of TRK_PTS (R135). -/
def farrowPts (six : Bool) : List Int := if six then [-2, -1, 0, 1, 2, 3] else [-1, 0, 1, 2]

end Sys2Proof
end

