-- ==== Sys2Proof/Machine/Lanes.lean ====
section
/-!
DEFINITION. The lanes (chapters 03 and 04): the stitcher's samples and range selection, calibration and trims, REC and
PROT samples, cross-fades and coefficient banks, stop, change and restart, settling, and the start-up check.
-/
namespace Sys2Proof.Machine
open Sys2Proof

/-! ### Where a lane's registers and memories lie -/

def clOf (ch : Nat) : Nat := ch / 8
def lnOf (ch : Nat) : Nat := ch % 8

/-- Key of a register of the lane block of a channel. -/
def laneKey (ch off : Nat) : Nat := clusterKey (clOf ch) (0x50000 + lnOf ch * 0x1000 + off)

def kCTRL (ch : Nat) : Nat := laneKey ch 0x000
def kCFG (ch : Nat) : Nat := laneKey ch 0x004
def kHB (ch : Nat) : Nat := laneKey ch 0x008
def kDELAY (ch : Nat) : Nat := laneKey ch 0x00C
def kGD (ch : Nat) : Nat := laneKey ch 0x010
def kSETTLE (ch : Nat) : Nat := laneKey ch 0x014
def kMIN (ch : Nat) : Nat := laneKey ch 0x018
def kSTAT (ch : Nat) : Nat := laneKey ch 0x01C
def kCNT (ch : Nat) : Nat := laneKey ch 0x024
def kSTC (ch : Nat) : Nat := laneKey ch 0x800
def kSST (ch : Nat) : Nat := laneKey ch 0x804
def kUP (ch : Nat) : Nat := laneKey ch 0x808
def kDN (ch : Nat) : Nat := laneKey ch 0x80C
/-- TRIM_ register k: 0 GC, 1 OC, 2 GF, 3 OF, 4 PF. -/
def kTRIM (ch k : Nat) : Nat := laneKey ch (0x810 + 4 * k)
def kFACT (ch k : Nat) : Nat := laneKey ch (0x830 + 4 * k)
def kCAL (ch : Nat) : Nat := laneKey ch 0x850
def kCST (ch : Nat) : Nat := laneKey ch 0x854
def kRES (ch : Nat) : Nat := laneKey ch 0x858

/-- Key of word j of a compensating (fin = false) or final FIR bank (R155). -/
def bankKey (ch : Nat) (fin bank : Bool) (j : Nat) : Nat :=
  clusterKey (clOf ch) (0x60000 + lnOf ch * 0x800 + b2n fin * 0x400 + b2n bank * 0x200 + 4 * j)

/-- The taps of a bank as integers (R155: [23:0] two's complement). -/
def State.taps (s : State) (ch : Nat) (fin bank : Bool) (n : Nat) : List Int :=
  (List.range n).map (fun j => sext 24 (s.rd (bankKey ch fin bank j)).toNat)

/-- The five coefficients of biquad q (R155). -/
def State.biquad (s : State) (ch q : Nat) : List Int :=
  (List.range 5).map (fun i => sext 32 (s.rd (clusterKey (clOf ch) (0x64000 + lnOf ch * 0x80 + q * 0x14 + 4 * i))).toNat)

/-- The word of a trim in force: a written value waits for the next tick start (R101). -/
def State.trimNow (s : State) (ch k : Nat) : Word :=
  (((s.lane ch).trimHeld.find? (fun p => decide (p.1 = k))).map (·.2)).getD (s.rd (kTRIM ch k))

/-- A trim in force as an integer: GC and GF unsigned, OC and OF 20-bit, PF 10-bit two's complement. -/
def State.trim (s : State) (ch k : Nat) : Int :=
  let v := (s.trimNow ch k).toNat
  if k = 0 ∨ k = 2 then ((v % 16777216 : Nat) : Int) else if k = 4 then sext 10 v else sext 20 v

def State.laneMod (s : State) (ch : Nat) (f : Lane → Lane) : State := s.setLane ch (f (s.lane ch))

/-- The interrupt of the lane's region (R156). -/
def State.irqRegion (s : State) (ch : Nat) : State := s.irq (16 + chRegion ch)

/-- CL_SRC as in force for a cluster. -/
def State.srcNow (s : State) (c : Nat) : Word := SMap.get (fun _ => 0x20000#32) s.clSrc c

/-- The source of slot k of a lane, as CL_SRC codes it: slots before the last change keep the source they had (R104, R141). -/
def State.slotSrc (s : State) (ch k : Nat) : Word := if k < (s.lane ch).srcFrom then (s.lane ch).srcOld else s.srcNow (clOf ch)

/-- Whether a cluster's lanes take an SV subscription (R104). -/
def State.isSv (s : State) (c : Nat) : Bool := bitAt (s.srcNow c) 0

def State.stopped (s : State) (ch : Nat) : Bool := s.bit (kSTAT ch) 2

/-- The AFE die of a channel. -/
def dieOf (ch : Nat) : Nat := ch / 64

/-- Whether the AFE part of a die is powered (PWR_STAT). -/
def State.dieOn (s : State) (die : Nat) : Bool := s.bit Reg.PWR_STAT (5 + die)

/-- Whether a channel's last check failed (R96): its bit of AFE_FAIL_LO or AFE_FAIL_HI, which a reset of its region leaves. -/
def State.chFailed (s : State) (ch : Nat) : Bool :=
  s.bit (if ch % 64 < 32 then Reg.AFE_FAIL_LO (dieOf ch) else Reg.AFE_FAIL_HI (dieOf ch)) (ch % 32)

/-- Whether a condition of the die or its link makes every sample of a lane INVALID: link down (R18), PLL unlocked (R81),
die off (R82), check running (R95) or the channel failed its check (R96). -/
def State.srcDown (s : State) (ch : Nat) : Bool :=
  !s.bit Reg.DLK_STAT (dieOf ch) || !s.bit (Reg.AFE_STAT (dieOf ch)) 0 || !s.dieOn (dieOf ch) ||
  s.bit (Reg.AFE_STAT (dieOf ch)) 3 || s.chFailed ch

/-- A word of an AFE-sourced lane as it is delivered: INVALID without SETTLING while the lane's source is down (R18, R81, R82, R95,
R96). A word computed before the condition began and delivered after is treated alike (log entry 143). -/
def State.downWord (s : State) (ch : Nat) (w : Word) : Word :=
  if s.srcDown ch then sampleWord 0 true false (bitAt w 5) false (field w 3 0) else w

/-! ### Stitcher -/

end Sys2Proof.Machine

namespace Sys2Proof

/-- Whether a fade of a stage has begun at index n, and the sample number within it. -/
def Fade.at (f : Option Fade) (n : Nat) : Option (Nat × Nat × Bool) :=
  match f with
  | some { len := k, start := some i, bank := b } => if i ≤ (n : Int) then some (((n : Int) - i).toNat, k, b) else none
  | _ => none

/-- Whether a stage's cross-fade takes place at modulator period t, for a stage whose outputs lie p periods apart (R146). A fade of K = 0
takes place at its first sample. -/
def Fade.active (f : Option Fade) (p t : Nat) : Bool :=
  match f with
  | some { len := k, start := some i, bank := _ } => decide (i * (p : Int) ≤ (t : Int)) && decide ((t : Int) < (i + (max k 1 : Nat)) * (p : Int))
  | _ => false

/-- The same fade on indices that a time step has moved by d (R74, R146). -/
def Fade.shift (f : Option Fade) (d : Int) : Option Fade := f.map (fun x => { x with start := x.start.map (fun i => i + d) })

end Sys2Proof

namespace Sys2Proof.Machine
open Sys2Proof

end Sys2Proof.Machine

namespace Sys2Proof

/-- The unclamped compensating FIR output of one path at index n with a bank's taps (R113). -/
def Lane.compAt (l : Lane) (c : ChainCfg) (taps kern : List Int) (fine : Bool) (n : Nat) : Int :=
  roundQ (5 * firSum taps (fun j => if j ≤ c.m * n then l.cicAt fine kern c.r (c.m * n - j) else 0)) (2 ^ c.sc)

end Sys2Proof

namespace Sys2Proof.Machine
open Sys2Proof

/-- The compensating FIR output with the running fade, if any (R145, R146). -/
def State.compOut (s : State) (ch : Nat) (l : Lane) (c : ChainCfg) (kern : List Int) (fine : Bool) (n : Nat) : Int :=
  let bank := s.bit (kSTAT ch) 4
  let old := l.compAt c (s.taps ch false bank c.lc) kern fine n
  match Fade.at l.fadeComp n with
  | none => old
  | some (j, k, b) => fadeBlend old (l.compAt c (s.taps ch false b c.lc) kern fine n) j k

end Sys2Proof.Machine

namespace Sys2Proof

/-- The newest pairs (y_F, e) with one more; D needs one on either side (R98). -/
def CalWin.seen (w : CalWin) (yf yc : Int) : List (Int × Int) := ((yf, yc - yf) :: w.prev).take 2

/-- The window with D of its newest sample, which the next y_F completes; before the lane's first sample y_F is 0 (R98). -/
def CalWin.follow (w : CalWin) (yf : Int) : CalWin :=
  if w.n = 0 then w
  else
    let e1 := (w.prev.getD 0 (0, 0)).2
    let d := yf - (w.prev.getD 1 (0, 0)).1
    { w with sed := w.sed + e1 * d, sd := w.sd + d, sdd := w.sdd + d * d }

/-- Accumulate one stitch sample into the calibration window (R97, R98). -/
def CalWin.add (w : CalWin) (yf yc : Int) (ok : Bool) : CalWin :=
  let e := yc - yf
  let p := w.seen yf yc
  let w := w.follow yf
  { w with n := w.n + 1, ok := w.ok && ok, se := w.se + e, sy := w.sy + yf, sey := w.sey + e * yf, syy := w.syy + yf * yf,
           see := w.see + e * e, prev := p }

/-- A lane's calibration takes one stitch sample: the first one after W samples ends the window and begins the next (R97, R98). -/
def Lane.calStep (l : Lane) (w : Nat) (yf yc : Int) (ok : Bool) : Lane :=
  if l.cal.n < w then { l with cal := l.cal.add yf yc ok }
  else { l with calFull := some (l.cal.follow yf), cal := { CalWin.init with prev := l.cal.prev }.add yf yc ok }

/-- The window in progress is discarded and the next one begins (R97, R101). -/
def Lane.calDrop (l : Lane) : Lane := { l with cal := { CalWin.init with prev := l.cal.prev } }

end Sys2Proof

namespace Sys2Proof.Machine
open Sys2Proof

/-- Whether background calibration runs on a lane: enabled, not stopped, trims not nominal by default (R94, R100). -/
def State.calRuns (s : State) (ch : Nat) : Bool :=
  s.bit (kCAL ch) 0 && !s.bit (kCST ch) 2 && !s.bit (kSST ch) 3

/-- The range selection of R86 and R88: whether y is the coarse value, and the next state and hold count. -/
def rangeSelect (mode : Nat) (coarse : Bool) (h hold : Nat) (up dn ovl : Bool) : Bool × Bool × Nat :=
  if mode = 2 then (true, true, 0)
  else if !coarse then
    if ovl || (mode == 0 && up) then (true, true, 0) else (false, false, 0)
  else if dn || up || ovl then (true, true, 0)
  else if h + 1 < hold then (true, true, h + 1)
  else (false, false, 0)

/-- Form stitch sample n of a lane once its support and the decision latency of R87 have passed (R84 to R91, R113). Under
FORCE_COARSE the range state is COARSE, and that switch is not counted (log entry 144). -/
def State.stitch (s : State) (ch : Nat) : State :=
  let l := s.lane ch
  let c := chainCfg (s.rd (kCFG ch))
  let n := l.stN
  if l.per ≤ c.p * n + 32 then s
  else
    let kern := cicKernel c.r
    let span := 5 * (c.r - 1) + (c.lc - 1) * c.r
    let smp : StSample := {
      xc := s.compOut ch l c kern false n, xf := s.compOut ch l c kern true n,
      fineOvl := l.fineOvl (s.fld (kSTC ch) 12 8) (c.p * n) span,
      coarseOvl := l.anyPeriod (fun b => b.covl) (c.p * n) span }
    let st := (smp :: l.st).take 8
    let xc2 := (st[2]?.map (·.xc)).getD 0
    let gc := (s.trim ch 0).toNat
    let oc := s.trim ch 1
    let yc := yCoarse (lim28 xc2) gc oc
    let yf := yFine (st.map (fun x => lim28 x.xf)) (s.trim ch 2).toNat (s.trim ch 3) (s.trim ch 4)
    let sat := decide ((2147483647 : Int) * 4194304 ≤ ((coarseProduct xc2 gc oc).natAbs : Int)) ||
      ((st[2]?.map (·.coarseOvl)).getD false)
    let up := decide (((s.rd (kUP ch)).toNat : Int) ≤ ((lim28 smp.xf).natAbs : Int))
    let dn := decide (((s.rd (kDN ch)).toNat : Int) ≤ ((yc.natAbs : Nat) : Int))
    let (useC, co, h) := rangeSelect l.modeNow l.coarse l.hcount (s.fld (kSTC ch) 31 16) up dn smp.fineOvl
    let y := if useC then yc else yf
    let calOk := !co && !l.coarse && l.modeNow == 0 && !smp.fineOvl && !sat && !Fade.active l.fadeComp c.p (c.p * n) && !Fade.active l.fadeFin 1024 (c.p * n) &&
      !(s.late.contains (chRegion ch))
    let w := 2 ^ s.fld (kCAL ch) 12 8
    let l0 := l
    let l := if s.calRuns ch then l.calStep w yf yc calOk else { l with cal := { l.cal with prev := l.cal.seen yf yc } }
    let s := s.setLane ch { l with
      st := st, stN := n + 1, coarse := co, hcount := h, y := (y :: l.y).take 16384,
      marks := (if sat then n :: l.marks else l.marks).take 16384 }
    let s := when (co != l0.coarse && l0.modeNow != 2) (fun t => t.count (kSST ch) 31 16 1) s
    let s := s.putBit (kSST ch) 0 co
    let s := when smp.fineOvl (fun t => t.putBit (kSST ch) 1 true) s
    let s := when sat (fun t => t.putBit (kSST ch) 2 true) s
    s.putBit (kCST ch) 0 (s.calRuns ch)

/-- STITCH_SAMPLE for a channel. -/
def execStitchSample (ch : Fin 128) (s : State) : Host.Outcome State Fault Refusal := .next (s.stitch ch.val)

/-- The coarse overload detector fires (R92, R113): the last `run` coarse bits and the next `stretch` ones carry full
scale with the polarity of the run. -/
def execCoarseOverload (ch : Fin 128) (ones : Bool) (run stretch : Nat) (s : State) : Host.Outcome State Fault Refusal :=
  .next (s.laneMod ch.val (fun l => { l with
    bits := (l.bits.take run).map (fun b => { b with coarse := ones, covl := true }) ++ l.bits.drop run,
    ovlLeft := some (ones, stretch) }))

/-! ### REC and PROT samples -/

/-- The final FIR output at REC sample m with a bank (R116); v is the cascade output, newest first. -/
def finOut (taps v : List Int) (sf : Nat) : Int := sat32 (roundQ (firSum taps (fun j => v.getD j 0)) (2 ^ sf))

/-- The IIR section (R117): four biquads in order. -/
def iirRun (coef : List (List Int)) (st : List (Int × Int × Int × Int)) (x : Int) : Int × List (Int × Int × Int × Int) :=
  (coef.zip st).foldl (fun (acc : Int × List (Int × Int × Int × Int)) p =>
    let (w, q) := biquadStep p.1 p.2 acc.1
    (w, acc.2 ++ [q])) (x, [])

/-- The quality of a REC or PROT sample number m: INVALID, SETTLING, SATURATED (R121, R141, R152). -/
def State.recFlags (s : State) (ch : Nat) (l : Lane) (c : ChainCfg) (hb : Word) (m : Nat) : Bool × Bool × Bool :=
  let k := m / 3
  let sup := supportOf c hb
  let sat := (List.range (stitchSpan c hb + 1)).any (fun i =>
    decide (i ≤ m * 2 ^ c.stages) && l.marks.contains (m * 2 ^ c.stages - i))
  if s.stopped ch then (true, false, false)
  else if s.srcDown ch then (true, false, sat)
  else if decide (l.reset ≤ k) && decide (k < l.reset + l.settleN) then (true, true, false)
  else if decide (l.reset ≤ k) && decide (1024 * m < sup + 3072 * l.reset) then (true, true, sat)
  else (l.missing (1024 * m) sup, false, sat)

/-- A lane completes REC sample m, and with every third a PROT sample (R116 to R118, R121, R129). While the source is an
SV subscription the REC slot is INVALID with SOURCE_SV and no PROT sample is formed (R106). -/
def State.recComplete (s : State) (ch : Nat) : State :=
  let l := s.lane ch
  let cw := s.rd (kCFG ch)
  let hb := s.rd (kHB ch)
  let c := chainCfg cw
  let m := l.recM
  let need := m * 2 ^ c.stages
  if l.stN ≤ need then s
  else
    let h := l.y.drop (l.stN - 1 - need)
    let v := cascade (hbList hb c.stages) c.lf h
    let bank := s.bit (kSTAT ch) 5
    let u0 := finOut (s.taps ch true bank c.lf) v c.sf
    let u := match Fade.at l.fadeFin m with
      | none => u0
      | some (j, k, b) => fadeBlend u0 (finOut (s.taps ch true b c.lf) v c.sf) j k
    let (inv, setl, sat) := s.recFlags ch l c hb m
    let (z, biq) := if c.iir && !(inv && !setl) then iirRun ((List.range 4).map (s.biquad ch)) l.biq u else (u, l.biq)
    let sv := bitAt (s.slotSrc ch (m / 3)) 0
    let w := if sv then sampleWord 0 true false false true (m / 3) else sampleWord (out24 z) inv setl sat false (m / 3)
    let l := { l with recM := m + 1, biq := biq, recs := (({ epoch := s.epoch, m := m, z := z, word := w } : RecSample) :: l.recs).take 4096 }
    let l := if m % 3 = 0 ∧ !sv then { l with prot := l.prot ++ [{ idx := m / 3, word := w }] } else l
    s.setLane ch l

/-- REC_SAMPLE_COMPLETE for a channel. -/
def execRecSampleComplete (ch : Fin 128) (s : State) : Host.Outcome State Fault Refusal := .next (s.recComplete ch.val)

/-- The count of ticks run of the running tick, or of the one to start. -/
def State.runNo (s : State) : Nat := if s.tick.running then s.tick.runs else s.tick.runs + 1

/-! ### Alignment and settling -/

/-- fMOD period number at a time (R80, R111): period 3072 × k of a second falls at t_k. -/
def periodAt (sec ns : Nat) : Nat := sec * 14745600 + ns * 14745600 / 1000000000

end Sys2Proof.Machine

namespace Sys2Proof

/-- A lane's chain emptied, its biquads at 0 (log entry 147), and aligned so that its next period is `per`: the next stitch, WB and
REC samples are the first whose index lies at or after it. The periods already taken keep their places before it (log entry 148). -/
def Lane.realign (l : Lane) (p per : Nat) : Lane :=
  { l with per := per, gap := per - (l.per - l.gap), st := [], stN := (per + p - 1) / p, coarse := false, hcount := 0, y := [],
           marks := [], wbM := (per + 7) / 8, biq := Lane.init.biq, recM := (per + 1023) / 1024,
           cal := { CalWin.init with ok := false } }

/-- The same where the periods before `per` are missing: after a link's return, a check or a reset of the region (R18, R95). -/
def Lane.lose (l : Lane) (p per : Nat) : Lane := { l.realign p per with bits := [], gap := per }

end Sys2Proof

namespace Sys2Proof.Machine
open Sys2Proof

/-- The period due at the present time, rounded down where the time lies within a period (log entry 177). -/
def State.periodNow (s : State) : Nat := periodAt s.tb.sec s.tb.ns

/-- A lane whose WB samples are numbered anew: a freeze of its cluster that waits still comes as many samples later as before (R342). -/
def State.laneMove (s : State) (ch : Nat) (f : Lane → Lane) : State :=
  let d : Int := ((f (s.lane ch)).wbM : Int) - (s.lane ch).wbM
  let s := s.laneMod ch f
  let w := SMap.get (fun _ => WbU.init) s.wbs (clOf ch)
  match w.copy with
  | some (i, id, seg, m) =>
    if lnOf ch ≠ 0 ∨ w.frozen then s
    else { s with wbs := SMap.set (fun _ => WbU.init) s.wbs (clOf ch) { w with copy := some (i, id, seg, ((m : Int) + d).toNat) } }
  | none => s

/-- A channel's modulators are aligned to the present time (R80): its data go on, or are lost up to there. -/
def State.alignLane (s : State) (ch : Nat) : State :=
  s.laneMove ch (fun l => l.realign (chainCfg (s.rd (kCFG ch))).p s.periodNow)
def State.loseLane (s : State) (ch : Nat) : State :=
  s.laneMove ch (fun l => l.lose (chainCfg (s.rd (kCFG ch))).p s.periodNow)

/-- The AFE clock PLL follows the time base from now on: the periods of every channel lie on its grid (R80). -/
def State.alignAll (s : State) : State := (List.range 128).foldl (fun t ch => t.alignLane ch) s

/-- A settling event takes effect on a running lane at the current tick (R140, R141): its slot, its counts, the record
LANE_RESTART with the cause and the region's interrupt. `back` is the number of slots before it that also settle. On a stopped lane
none is applied, a change of source included (R152, log entry 149). -/
def State.settleEvent (s : State) (ch cause back : Nat) : State :=
  if s.stopped ch then s
  else
    let n := s.fld (kSETTLE ch) 7 0
    let s := s.laneMod ch (fun l => { l with
      reset := s.tickNo, settleN := n, syncD := back, resetNo := s.runNo, valid := false, chainReq := none,
      cal := { l.cal with ok := false }, prot := if back = 0 then l.prot else [] })
    let s := (s.put (kSTAT ch) 31 24 (n + back)).putBit (kSTAT ch) 3 (decide (n + back ≠ 0))
    let s := s.count (kCNT ch) 15 0 1
    (s.irqRegion ch).log 0x162 ch cause s.tick.idx

/-- Note that a lane's chain restarts at the next tick start, for a cause (R140). -/
def State.requestChain (s : State) (ch cause : Nat) : State := s.laneMod ch (fun l => { l with chainReq := some cause })

/-- CHAIN_RESTART: the restart noted for a lane takes effect at the tick start (R18, R81, R95, R140). On a stopped lane it
is not applied (R152). Lanes of an SV-sourced cluster are not affected (R81). -/
def State.chainRestart (s : State) (ch : Nat) : State :=
  match (s.lane ch).chainReq with
  | none => s
  | some cause =>
    if s.stopped ch ∨ s.isSv (clOf ch) then s.laneMod ch (fun l => { l with chainReq := none })
    else s.settleEvent ch cause 0

def execChainRestart (ch : Fin 128) (s : State) : Host.Outcome State Fault Refusal := .next (s.chainRestart ch.val)

/-- LANE_SETTLE_END: the count of settling slots has reached zero; SETTLING clears (R141). -/
def State.settleEnd (s : State) (ch : Nat) : State :=
  if s.fld (kSTAT ch) 31 24 = 0 then s.putBit (kSTAT ch) 3 false else s

def execLaneSettleEnd (ch : Fin 128) (s : State) : Host.Outcome State Fault Refusal := .next (s.settleEnd ch.val)

/-! ### Calibration and trims -/

/-- The integer square root, rounded down. -/
def isqrt (n : Nat) : Nat := Nat.sqrt n

/-- CAL_WINDOW_END: W stitch samples have passed, and the one after them has completed d of the last; an accepted window leaves its
errors and CAL_RESID (R97, R98). -/
def State.calWindowEnd (s : State) (ch : Nat) : State :=
  match (s.lane ch).calFull with
  | none => s
  | some q =>
    let w := q.n
    let wi : Int := w
    let minRms : Int := s.fld (kCAL ch) 31 16 * 1024
    let acc := q.ok && decide (minRms * minRms * wi ≤ q.syy)
    let s := s.laneMod ch (fun l => { l with calFull := none })
    if !acc then s
    else
      let e : CalErr := {
        gNum := wi * q.sey - q.se * q.sy, gDen := wi * q.syy - q.sy * q.sy,
        dNum := 2 * (wi * q.sed - q.se * q.sd), dDen := wi * q.sdd, oNum := q.se, oDen := wi }
      let resid := (isqrt (4 * q.see.toNat / w) + 1) / 2
      (s.laneMod ch (fun l => { l with calErr := some e })).put (kRES ch) 30 0 resid

def execCalWindowEnd (ch : Fin 128) (s : State) : Host.Outcome State Fault Refusal := .next (s.calWindowEnd ch.val)

/-- What the OTP load after a reset of its region leaves for one channel (R94, R96): a failed record shows and is reported, and the
outcome of the last check stands. -/
def State.loadTrim (s : State) (ch : Nat) : State :=
  let s := s.putBit (kSST ch) 4 (s.chFailed ch)
  if Config.otpTrimBad ch then
    (((s.putBit (kSST ch) 3 true).putBit (Reg.AFE_STAT (dieOf ch)) 4 true).irqRegion ch).log 0x152 ch 0 0
  else s

/-- The trims of a region's 32 channels load from OTP (R94); registers already hold them (log entry 10). -/
def State.loadTrims (s : State) (r : Nat) : State := (List.range 32).foldl (fun t l => t.loadTrim (32 * r + l)) s

/-- A quotient num / den of a calibration error times a factor over 2^mu, rounded (R99); a zero denominator leaves a value
the manual does not give. -/
def calRound (num den : Int) (k : Int) (div : Nat) : Int :=
  if den = 0 then Config.zeroQuotient num k
  else
    let n := if den < 0 then -(k * num) else k * num
    roundQ n (den.natAbs * div)

/-- A trim limited to the bounds of R100 about its factory value, and whether it was limited. -/
def calBound (v fact bound : Int) : Int × Bool :=
  if v < fact - bound then (fact - bound, true) else if v > fact + bound then (fact + bound, true) else (v, false)

/-- The factory value of a trim as an integer. -/
def State.fact (s : State) (ch k : Nat) : Int :=
  let v := (s.rd (kFACT ch k)).toNat
  if k = 0 ∨ k = 2 then ((v % 16777216 : Nat) : Int) else if k = 4 then sext 10 v else sext 20 v

/-- The field width of a trim register. -/
def trimWidth (k : Nat) : Nat := if k = 0 ∨ k = 2 then 24 else if k = 4 then 10 else 20

/-- Put a trim into force. Where a written value waits, the register shows that one (R5, R101). -/
def State.setTrim (s : State) (ch k : Nat) (w : Word) : State :=
  if (s.lane ch).trimHeld.any (fun p => decide (p.1 = k)) then
    s.laneMod ch (fun l => { l with trimHeld := l.trimHeld.map (fun p => if p.1 = k then (k, w) else p) })
  else s.wr (kTRIM ch k) w

/-- One trim of an update: set to its new value or to the bound, which stops the calibration and is reported (R100). -/
def State.calSet (s : State) (ch k : Nat) (v bound : Int) (code : Nat) : State :=
  let (w, lim) := calBound v (s.fact ch k) bound
  let s := s.setTrim ch k (w32 (toField (trimWidth k) w))
  if lim then
    let s := ((s.putBit (kCST ch) 1 true).putBit (kCST ch) 2 true).putBit (kCST ch) 0 false
    (s.irqRegion ch).log 0x153 ch (code * 0x1000000) (toField 32 w)
  else s

/-- CAL_UPDATE: at the tick start after an accepted window the fine trims follow the errors (R99, R100). OF is divided by the GF from
before the update (log entry 145). -/
def State.calUpdate (s : State) (ch : Nat) : State :=
  match (s.lane ch).calErr with
  | none => s
  | some e =>
    let div := 2 ^ s.fld (kCAL ch) 7 4
    let gf := s.trim ch 2
    let ofs := s.trim ch 3 - (if gf = 0 then Config.zeroQuotient e.oNum 8388608
      else roundQ (8388608 * e.oNum) (e.oDen.natAbs * gf.natAbs * div))
    let g := gf + calRound e.gNum e.gDen gf div
    let pf := s.trim ch 4 - calRound e.dNum e.dDen 1024 div
    let s := s.laneMod ch (fun l => { l with calErr := none })
    let s := s.calSet ch 2 g (s.fact ch 2 / 512) 1
    let s := s.calSet ch 3 ofs 65536 2
    let s := s.calSet ch 4 pf 64 3
    s.count (kCST ch) 31 16 1

def execCalUpdate (ch : Fin 128) (s : State) : Host.Outcome State Fault Refusal := .next (s.calUpdate ch.val)

/-- CAL_CFG_WRITE: EN from 0 to 1 restarts the calibration from the current trims (R100); the lane's last y_F stays for d (R98). -/
def State.calCfgWrite (s : State) (ch : Nat) (v : Word) : State :=
  let was := s.bit (kCAL ch) 0
  let s1 := s.wr (kCAL ch) (v &&& 0xFFFF1FF1)
  if !was && bitAt v 0 then
    (s1.putBit (kCST ch) 2 false).laneMod ch (fun l => { l.calDrop with calFull := none, calErr := none })
  else s1

def execCalCfgWrite (ch : Fin 128) (v : Word) (s : State) : Host.Outcome State Fault Refusal :=
  .next (s.calCfgWrite ch.val v)

/-- TRIM_WRITE: the register shows the written value, which takes effect at the next tick start (R5, R101). -/
def State.trimWrite (s : State) (ch k : Nat) (v : Word) : State :=
  let old := s.trimNow ch k
  (s.laneMod ch (fun l => { l with trimHeld := (l.trimHeld.filter (fun p => decide (p.1 ≠ k))) ++ [(k, old)] })).wr
    (kTRIM ch k) (w32 (v.toNat % 2 ^ trimWidth k))

def execTrimWrite (ch : Fin 128) (k : Fin 5) (v : Word) (s : State) : Host.Outcome State Fault Refusal :=
  .next (s.trimWrite ch.val k.val v)

/-- TRIM_APPLY: an update due at the same tick start comes first, then the written trims take effect and the window in progress is
discarded (R101). -/
def State.trimApply (s : State) (ch : Nat) : State :=
  if (s.lane ch).trimHeld = [] then s
  else (s.calUpdate ch).laneMod ch (fun l => { l.calDrop with trimHeld := [] })

def execTrimApply (ch : Fin 128) (s : State) : Host.Outcome State Fault Refusal := .next (s.trimApply ch.val)

/-! ### Stitcher settings -/

/-- STC_CTRL_WRITE: HOLD and OVL_RUN at once, a change of MODE at the next tick start (R86, R88). -/
def State.stcCtrlWrite (s : State) (ch : Nat) (v : Word) : State :=
  let s1 := s.wr (kSTC ch) (v &&& 0xFFFF1F03)
  s1.laneMod ch (fun l => { l with modeReq := decide (field v 1 0 ≠ l.modeNow) })

def execStcCtrlWrite (ch : Fin 128) (v : Word) (s : State) : Host.Outcome State Fault Refusal :=
  .next (s.stcCtrlWrite ch.val v)

/-- STC_MODE_APPLY: the new MODE, with state FINE and H = 0 (R88). -/
def State.modeApply (s : State) (ch : Nat) : State :=
  if (s.lane ch).modeReq then
    (s.laneMod ch (fun l => { l with
      modeReq := false, modeNow := s.fld (kSTC ch) 1 0, coarse := false, hcount := 0, cal := { l.cal with ok := false } })).putBit
      (kSST ch) 0 false
  else s

def execStcModeApply (ch : Fin 128) (s : State) : Host.Outcome State Fault Refusal := .next (s.modeApply ch.val)

/-- STC_THR_DN_WRITE: ignored unless below 0.4 × STC_THR_UP (R107). -/
def State.stcThrDnWrite (s : State) (ch : Nat) (v : Word) : State :=
  let d := field v 30 0
  if 5 * d < 2 * s.fld (kUP ch) 26 0 then s.wr (kDN ch) (w32 d) else s

/-- A write of STC_THR_UP obeys the same relation (R107). -/
def State.stcThrUpWrite (s : State) (ch : Nat) (v : Word) : State :=
  if 5 * s.fld (kDN ch) 30 0 < 2 * field v 26 0 then s.wr (kUP ch) (w32 (field v 26 0)) else s

def execStcThrDnWrite (ch : Fin 128) (v : Word) (s : State) : Host.Outcome State Fault Refusal :=
  .next (s.stcThrDnWrite ch.val v)

/-! ### Cross-fades and coefficient banks -/

end Sys2Proof.Machine

namespace Sys2Proof

/-- Output samples a running fade still has to produce, over its stages: the larger of the two (R147's parameter). -/
def Lane.fadeLeft (l : Lane) : Nat :=
  let left (f : Option Fade) (n : Nat) : Nat := match f with
    | some { len := k, start := some i, bank := _ } => (i + (k : Int) - (n : Int)).toNat
    | some { len := k, start := none, bank := _ } => k
    | none => 0
  max (left l.fadeComp l.stN) (left l.fadeFin l.recM)

end Sys2Proof

namespace Sys2Proof.Machine
open Sys2Proof

/-- LANE_FADE_REQUEST: a write of LANE_FADE (R145, R147). A request in a stopped lane sets the banks at once. -/
def State.fadeRequest (s : State) (ch : Nat) (v : Word) : State :=
  if !bitAt v 31 then s
  else if s.bit (kSTAT ch) 6 then
    let s := (s.putBit (kSTAT ch) 7 true).count (kCNT ch) 31 16 1
    (s.irqRegion ch).log 0x160 ch (v.toNat % 4294967296) (s.lane ch).fadeLeft
  else
    let bank := bitAt v 8
    let comp := bitAt v 16
    let fin := bitAt v 17
    if s.stopped ch then
      let s := when comp (fun t => t.putBit (kSTAT ch) 4 bank) s
      when fin (fun t => t.putBit (kSTAT ch) 5 bank) s
    else if !comp && !fin then s
    else
      let f : Fade := { len := field v 7 0, start := none, bank := bank }
      (s.laneMod ch (fun l => { l with
        fadeComp := if comp then some f else none, fadeFin := if fin then some f else none })).putBit (kSTAT ch) 6 true

def execLaneFadeRequest (ch : Fin 128) (v : Word) (s : State) : Host.Outcome State Fault Refusal :=
  .next (s.fadeRequest ch.val v)

/-- LANE_FADE_START: each named stage's fade begins with its first output aligned at or after the tick start (R145). -/
def State.fadeStart (s : State) (ch : Nat) : State :=
  let p := (chainCfg (s.rd (kCFG ch))).p
  let go (f : Option Fade) (i : Nat) : Option Fade := f.map (fun x => if x.start.isNone then { x with start := some (i : Int) } else x)
  s.laneMod ch (fun l => { l with
    fadeComp := go l.fadeComp ((3072 * s.tickNo + p - 1) / p), fadeFin := go l.fadeFin (3 * s.tickNo) })

def execLaneFadeStart (ch : Fin 128) (s : State) : Host.Outcome State Fault Refusal := .next (s.fadeStart ch.val)

end Sys2Proof.Machine

namespace Sys2Proof

/-- Whether a stage's fade has produced its last blended sample by index n. -/
def Fade.over (f : Option Fade) (n : Nat) : Bool :=
  match f with
  | none => true
  | some { len := k, start := some i, bank := _ } => decide (i + (k : Int) ≤ (n : Int))
  | some { len := _, start := none, bank := _ } => false

end Sys2Proof

namespace Sys2Proof.Machine
open Sys2Proof

/-- LANE_FADE_END: the last blended sample of every named stage is out; FADING clears and the banks show (R146). -/
def State.fadeEnd (s : State) (ch : Nat) : State :=
  let l := s.lane ch
  if s.bit (kSTAT ch) 6 && Fade.over l.fadeComp l.stN && Fade.over l.fadeFin l.recM then
    let s := match l.fadeComp with
      | some f => s.putBit (kSTAT ch) 4 f.bank
      | none => s
    let s := match l.fadeFin with
      | some f => s.putBit (kSTAT ch) 5 f.bank
      | none => s
    (s.laneMod ch (fun l => { l with fadeComp := none, fadeFin := none })).putBit (kSTAT ch) 6 false
  else s

def execLaneFadeEnd (ch : Fin 128) (s : State) : Host.Outcome State Fault Refusal := .next (s.fadeEnd ch.val)

/-- Whether an offset in the coefficient window holds a word, and of which lane; biquads lie above 0x6_4000 (R155). -/
def coefPlace (off : Nat) : Option (Nat × Option (Bool × Bool)) :=
  if off < 0x60000 then none
  else if off < 0x64000 then
    let o := (off - 0x60000) % 0x800
    let lane := (off - 0x60000) / 0x800
    if o < 0x180 then some (lane, some (false, false))
    else if 0x200 ≤ o ∧ o < 0x380 then some (lane, some (false, true))
    else if 0x400 ≤ o ∧ o < 0x600 then some (lane, some (true, false))
    else if 0x600 ≤ o then some (lane, some (true, true))
    else none
  else if off < 0x64400 ∧ (off - 0x64000) % 0x80 < 0x50 then some ((off - 0x64000) / 0x80, none)
  else none

/-- Whether a bank of a lane is in use (R148): the active bank of a running lane, or either bank while its stage
fades, from the acceptance of the fade until all its stages have ended (log entry 180). -/
def State.bankInUse (s : State) (ch : Nat) (fin bank : Bool) : Bool :=
  !s.stopped ch && (s.bit (kSTAT ch) (if fin then 5 else 4) == bank ||
    (if fin then (s.lane ch).fadeFin.isSome else (s.lane ch).fadeComp.isSome))

/-- A write to coefficient memory at a window offset (R148, R151, R155): discarded when the bank is in use, or for a
biquad while the lane runs. -/
def State.coefWrite (s : State) (r : Req) (c off : Nat) (v : Word) : State :=
  match coefPlace (off / 4 * 4) with
  | none => s
  | some (lane, none) =>
    let ch := 8 * c + lane
    if s.stopped ch then s.wr (clusterKey c (off / 4 * 4)) v else s.putBit (kSTAT ch) 9 true
  | some (lane, some (fin, bank)) =>
    let ch := 8 * c + lane
    if s.bankInUse ch fin bank then
      let s := (s.putBit (kSTAT ch) 8 true).indFail r 3
      (s.irqRegion ch).log 0x164 ch (0x10000000 + c * 0x200000 + off) 0
    else s.wr (clusterKey c (off / 4 * 4)) (w32 (v.toNat % 16777216))

/-- COEF_WRITE: an indirect write into coefficient memory, at an offset from 0x6_0000 of the cluster window. -/
def execCoefWrite (r : Req) (c : Fin 16) (off : BitVec 16) (v : Word) (s : State) : Host.Outcome State Fault Refusal :=
  s.access r (fun s => s.coefWrite r c.val (0x60000 + off.toNat) v)

/-! ### Stop, change and restart -/

/-- The structural registers of R151 by number: CFG, HB, DELAY, GD, SETTLE, then the twenty biquad words. -/
def structKey (ch k : Nat) : Nat :=
  if k = 0 then kCFG ch else if k = 1 then kHB ch else if k = 2 then kDELAY ch else if k = 3 then kGD ch
  else if k = 4 then kSETTLE ch
  else clusterKey (clOf ch) (0x64000 + lnOf ch * 0x80 + 4 * (k - 5))

/-- The writable bits of a structural register. -/
def structMask (k : Nat) : Nat :=
  if k = 1 then 0x3FFFF else if k = 2 then 0xF else if k = 3 then 0xFFFFFF else if k = 4 then 0xFF else 0xFFFFFFFF

/-- LANE_STRUCT_WRITE: accepted only while the lane is stopped; LANE_MIN follows CFG and HB (R151, R153). -/
def State.structWrite (s : State) (ch k : Nat) (v : Word) : State :=
  if !s.stopped ch then s.putBit (kSTAT ch) 9 true
  else
    let s := s.wr (structKey ch k) (v &&& w32 (structMask k))
    if k ≤ 1 then s.wr (kMIN ch) (laneMin (s.rd (kCFG ch)) (s.rd (kHB ch))) else s

def execLaneStructWrite (ch : Fin 128) (k : Fin 25) (v : Word) (s : State) : Host.Outcome State Fault Refusal :=
  .next (s.structWrite ch.val k.val v)

/-- PENDING shows whether a stop, restart or LOAD_DEF still waits. -/
def State.lanePending (s : State) (ch : Nat) : State :=
  let l := s.lane ch
  s.putBit (kCTRL ch) 31 (l.stopReq || l.startReq || l.loadReq.isSome)

/-- LANE_RUN_STOP: RUN = 0 requests a stop at the next tick start (R152). On a stopped lane it withdraws a restart that still waits
(log entry 149). -/
def State.runStop (s : State) (ch : Nat) : State :=
  let s := s.putBit (kCTRL ch) 0 false
  if s.stopped ch then (s.laneMod ch (fun l => { l with startReq := false })).lanePending ch
  else (s.laneMod ch (fun l => { l with stopReq := true, startReq := false })).putBit (kCTRL ch) 31 true

def execLaneRunStop (ch : Fin 128) (s : State) : Host.Outcome State Fault Refusal := .next (s.runStop ch.val)

/-- LANE_STOP_APPLY: the lane stops at the tick start (R150, R152): undelivered samples are discarded, and a running
fade ends on the banks active before it. -/
def State.stopApply (s : State) (ch : Nat) : State :=
  if !(s.lane ch).stopReq then s
  else
    let s := s.laneMod ch (fun l => { l with
      stopReq := false, prot := [], fadeComp := none, fadeFin := none, settleN := 0, syncD := 0, chainReq := none,
      cal := { l.cal with ok := false } })
    let s := ((s.putBit (kSTAT ch) 6 false).putBit (kSTAT ch) 3 false).put (kSTAT ch) 31 24 0
    (s.putBit (kSTAT ch) 2 true).lanePending ch

def execLaneStopApply (ch : Fin 128) (s : State) : Host.Outcome State Fault Refusal := .next (s.stopApply ch.val)

/-- LANE_RUN_START: RUN = 1 requests a restart of a stopped lane at the next tick start (R152); it also withdraws a stop
that still waits. -/
def State.runStart (s : State) (ch : Nat) : State :=
  let s := s.putBit (kCTRL ch) 0 true
  if s.stopped ch then (s.laneMod ch (fun l => { l with startReq := true })).putBit (kCTRL ch) 31 true
  else (s.laneMod ch (fun l => { l with stopReq := false })).lanePending ch

def execLaneRunStart (ch : Fin 128) (s : State) : Host.Outcome State Fault Refusal := .next (s.runStart ch.val)

/-- The configuration check of R153; LANE_DELAY is the written one, under an SV source too (log entry 181). -/
def State.cfgOk (s : State) (ch : Nat) : Bool :=
  let c := chainCfg (s.rd (kCFG ch))
  let hb := s.rd (kHB ch)
  let mn := s.rd (kMIN ch)
  (c.p == 16 || c.p == 32 || c.p == 64) &&
  ((List.range 6).all (fun i =>
    let k := field hb (3 * i + 2) (3 * i)
    if i < c.stages then decide (1 ≤ k) && decide (k ≤ 5) else k == 0)) &&
  decide (1 ≤ c.lc) && decide (c.lc ≤ 96) && decide (1 ≤ c.lf) && decide (c.lf ≤ 128) &&
  decide (field mn 11 8 ≤ s.fld (kDELAY ch) 3 0) && decide (field mn 7 0 ≤ s.fld (kSETTLE ch) 7 0)

/-- The lanes of a cluster whose delay in force differs from what the running image expects (R190). -/
def State.expectDiff (s : State) (c : Nat) : Nat :=
  let e := SMap.get (fun _ => (0 : Word)) s.expect c
  packBits 8 (fun l =>
    let n := field e (4 * l + 3) (4 * l)
    decide (n ≠ 0) && decide (n ≠ (s.lane (8 * c + l)).delay))

/-- Set CORE_STAT.EXPECT_MISMATCH from the image's LANE_EXPECT nibbles, and raise the cluster's interrupt when a lane differs that is
not in `was`, the set of lanes that differed before (R190). The expectation nibbles of the running image lie in `expect`. -/
def State.expectCheck (s : State) (c was : Nat) : State :=
  let now := s.expectDiff c
  let s := s.putBit (Reg.CORE_STAT c) 12 (decide (now ≠ 0))
  when ((List.range 8).any (fun l => now.testBit l && !was.testBit l)) (fun t => t.irq c) s

/-- The delivery delay in force for a lane: SV_DELAY while the source is SV (R63). -/
def State.delayNow (s : State) (ch : Nat) : Nat :=
  if s.isSv (clOf ch) then field (s.srcNow (clOf ch)) 19 16 else s.fld (kDELAY ch) 3 0

/-- The group delay of a lane in ns: 0 while the source is SV (R63). -/
def State.laneGd (s : State) (ch : Nat) : Nat := if s.isSv (clOf ch) then 0 else s.fld (kGD ch) 23 0

/-- LANE_RESTART_APPLY: at the tick start the configuration is checked and the lane restarts, or stays stopped with
LANE_CFG_ERR (R152, R153). -/
def State.restartApply (s : State) (ch : Nat) : State :=
  if !(s.lane ch).startReq then s
  else
    let s := (s.laneMod ch (fun l => { l with startReq := false })).lanePending ch
    if !s.cfgOk ch then
      let s := (s.putBit (kCTRL ch) 0 false).putBit (kSTAT ch) 10 true
      (s.irqRegion ch).log 0x161 ch (s.rd (kCFG ch)).toNat
        (s.fld (kHB ch) 15 0 * 65536 + s.fld (kDELAY ch) 3 0 * 256 + s.fld (kSETTLE ch) 7 0)
    else
      let d := s.delayNow ch
      let was := s.expectDiff (clOf ch)
      let s := s.putBit (kSTAT ch) 2 false
      let s := s.laneMod ch (fun l => { l.realign (chainCfg (s.rd (kCFG ch))).p l.per with
        wbM := l.wbM, delay := d, stopTo := s.tickNo, prot := [], starts := (s.tick.runs :: l.starts).take 4096 })
      (s.settleEvent ch 1 0).expectCheck (clOf ch) was

def execLaneRestartApply (ch : Fin 128) (s : State) : Host.Outcome State Fault Refusal := .next (s.restartApply ch.val)

/-- LANE_LOAD_DEF: accepted while stopped with 0b01 or 0b10 (R154). -/
def State.loadDef (s : State) (ch sel : Nat) : State :=
  if sel = 0 then s
  else if s.stopped ch ∧ sel ≠ 3 then
    (s.laneMod ch (fun l => { l with loadReq := some sel })).putBit (kCTRL ch) 31 true
  else s.putBit (kSTAT ch) 9 true

def execLaneLoadDef (ch : Fin 128) (sel : BitVec 2) (s : State) : Host.Outcome State Fault Refusal :=
  .next (s.loadDef ch.val sel.toNat)

/-- Write a FIR bank: its taps, 0 beyond them. -/
def State.loadBank (s : State) (ch : Nat) (fin bank : Bool) (n : Nat) (taps : List Int) : State :=
  (List.range n).foldl (fun t j => t.wr (bankKey ch fin bank j) (tapWord (taps.getD j 0))) s

/-- The complete default set of R122: sel 1 F-LIN, 2 F-MIN. LANE_GD of F-MIN follows FNOM (R154). -/
def State.loadSet (s : State) (ch sel : Nat) : State :=
  let lin := sel = 1
  let s := s.loadBank ch false false 96 (if lin then flinComp else fminComp)
  let s := s.loadBank ch false true 96 (if lin then flinComp else fminComp)
  let s := s.loadBank ch true false 128 (if lin then flinFin else fminFin)
  let s := s.loadBank ch true true 128 (if lin then flinFin else fminFin)
  let s := s.wr (kCFG ch) (if lin then 0x560B2A49 else 0x360B2969)
  let s := s.wr (kHB ch) (if lin then 0x026DA else 0x01249)
  let s := s.wr (kDELAY ch) (if lin then 3 else 2)
  let s := s.wr (kGD ch) (w32 (if lin then 625000 else if s.bit (Reg.TRK_CFG (clOf ch)) 8 then 251285 else 251236))
  let s := s.wr (kSETTLE ch) (if lin then 6 else 10)
  s.wr (kMIN ch) (laneMin (s.rd (kCFG ch)) (s.rd (kHB ch)))

/-- LOAD_DEF_APPLY: the set is loaded at the tick start into the stopped lane (R154). Where a restart waits for the same tick start, the sender's
order decides; a lane that has restarted first is not loaded (log entry 182). -/
def State.loadApply (s : State) (ch : Nat) : State :=
  match (s.lane ch).loadReq with
  | none => s
  | some sel =>
    let s := s.laneMod ch (fun l => { l with loadReq := none })
    (if s.stopped ch then s.loadSet ch sel else s).lanePending ch

def execLoadDefApply (ch : Fin 128) (s : State) : Host.Outcome State Fault Refusal := .next (s.loadApply ch.val)

end Sys2Proof.Machine
end

