-- ==== Sys2Proof/Machine/Ber.lean ====
section
/-!
DEFINITION. Frames as bytes: Ethernet headers with VLAN tag, HSR tag and PRP trailer, PTP messages and their checksums, and
the BER of GOOSE and SV messages. The standards the manual refers to fix these layouts (PRESUMED where it does not).
-/
namespace Sys2Proof

/-! ### Bytes -/

/-- Replace the bytes at an offset. -/
def patch (l : Bytes) (off : Nat) (new : Bytes) : Bytes := l.take off ++ new ++ l.drop (off + new.length)

/-- The big-endian number of n bytes at an offset. -/
def beAt (l : Bytes) (off n : Nat) : Nat := beNat ((l.drop off).take n)

/-! ### BER -/

/-- The length octets of a BER item: how many octets, and the length. -/
def berLen (b : Bytes) : Option (Nat × Nat) :=
  match b with
  | [] => none
  | x :: xs =>
    let n := x.toNat
    if n < 128 then some (1, n)
    else if n = 129 ∧ 1 ≤ xs.length then some (2, beNat (xs.take 1))
    else if n = 130 ∧ 2 ≤ xs.length then some (3, beNat (xs.take 2))
    else none

/-- The items of a constructed BER value as (tag, content), as far as they decode, and whether all did. -/
def berItems : Nat → Bytes → List (Nat × Bytes) × Bool
  | 0, b => ([], b.isEmpty)
  | _ + 1, [] => ([], true)
  | n + 1, t :: b =>
    match berLen b with
    | none => ([], false)
    | some (k, len) =>
      if b.length < k + len then ([], false)
      else
        let (l, ok) := berItems n (b.drop (k + len))
        ((t.toNat, (b.drop k).take len) :: l, ok)

/-- The content of the first item with a tag. -/
def berGet (l : List (Nat × Bytes)) (tag : Nat) : Option Bytes := (l.find? (fun x => x.1 = tag)).map (·.2)

/-- Length octets for a length. -/
def berLenBytes (n : Nat) : Bytes :=
  if n < 128 then [BitVec.ofNat 8 n]
  else if n < 256 then [0x81, BitVec.ofNat 8 n]
  else 0x82 :: beBytes 2 n

/-- An item as bytes. -/
def berItem (tag : Nat) (c : Bytes) : Bytes := BitVec.ofNat 8 tag :: (berLenBytes c.length ++ c)

/-- The items as bytes. -/
def berJoin (l : List (Nat × Bytes)) : Bytes := l.flatMap (fun x => berItem x.1 x.2)

/-- How many octets an unsigned number below 2^64 takes as a minimal BER INTEGER. -/
def berUintLen (v : Nat) : Nat := (List.range 9).foldl (fun a i => if 2 ^ (8 * a - 1) ≤ v ∧ i < 8 then a + 1 else a) 1

/-- An unsigned number as a minimal BER INTEGER (R457). -/
def berUint (v : Nat) : Bytes := beBytes (berUintLen v) v

/-! ### Ethernet frames -/

/-- A frame taken apart: addresses, VLAN tag, the redundancy sequence number and LAN or path code it carried, EtherType and
what follows it. -/
structure Eth where
  dst : Nat
  src : Nat
  tag : Option (Nat × Nat)
  seq : Option Nat
  lan : Nat
  et : Nat
  body : Bytes
  deriving DecidableEq, Repr

/-- The VLAN tag at the head of what follows the addresses: PCP and VID, and the rest. -/
def ethTag (b : Bytes) : Option (Nat × Nat) × Bytes :=
  if beAt b 0 2 = 0x8100 ∧ 4 ≤ b.length then (some (beAt b 2 2 / 8192, beAt b 2 2 % 4096), b.drop 4) else (none, b)

/-- Take a frame apart. `hsr` looks for an HSR tag, `prp` for a redundancy control trailer. -/
def ethParse (hsr prp : Bool) (f : Bytes) : Eth :=
  let (tag, r) := ethTag (f.drop 12)
  let base : Eth := { dst := beAt f 0 6, src := beAt f 6 6, tag := tag, seq := none, lan := 0, et := beAt r 0 2, body := r.drop 2 }
  if hsr && decide (beAt r 0 2 = 0x892F) && decide (8 ≤ r.length) then
    { base with seq := some (beAt r 4 2), lan := beAt r 2 2 / 4096, et := beAt r 6 2, body := r.drop 8 }
  else
    let n := base.body.length
    let t := base.body.drop (n - 6)
    if prp && decide (6 ≤ n) && decide (beAt t 4 2 = 0x88FB) && decide (10 ≤ beAt t 2 2 / 4096 ∧ beAt t 2 2 / 4096 ≤ 11) then
      { base with seq := some (beAt t 0 2), lan := beAt t 2 2 / 4096, body := base.body.take (n - 6) }
    else base

/-- The header bytes of a frame, with its tag when one is given. -/
def ethHead (dst src : Nat) (tag : Option (Nat × Nat)) : Bytes :=
  beBytes 6 dst ++ beBytes 6 src ++
    (match tag with
     | some (pcp, vid) => beBytes 2 0x8100 ++ beBytes 2 (pcp * 8192 + vid)
     | none => [])

/-- A plain frame. -/
def Eth.plain (e : Eth) (tag : Option (Nat × Nat)) : Bytes := ethHead e.dst e.src tag ++ beBytes 2 e.et ++ e.body

/-- A frame with a redundancy control trailer (PRP): sequence number, LAN code and LSDU size. -/
def Eth.withRct (e : Eth) (tag : Option (Nat × Nat)) (seq lan : Nat) : Bytes :=
  e.plain tag ++ beBytes 2 seq ++ beBytes 2 (lan * 4096 + (e.body.length + 6) % 4096) ++ beBytes 2 0x88FB

/-- A frame with an HSR tag. -/
def Eth.withHsr (e : Eth) (tag : Option (Nat × Nat)) (seq path : Nat) : Bytes :=
  ethHead e.dst e.src tag ++ beBytes 2 0x892F ++ beBytes 2 (path * 4096 + (e.body.length + 6) % 4096) ++ beBytes 2 seq ++
    beBytes 2 e.et ++ e.body

/-! ### PTP -/

/-- Where a frame holds a PTP message: its offset and how it is carried (0 Ethernet, 1 UDP over IPv4, 2 UDP over IPv6). -/
def ptpAt (f : Bytes) : Option (Nat × Nat) :=
  let o := if beAt f 12 2 = 0x8100 then 16 else 12
  let o := if beAt f o 2 = 0x892F then o + 6 else o
  let et := beAt f o 2
  let ip := o + 2
  let port (x : Nat) : Bool := x = 319 ∨ x = 320
  if et = 0x88F7 then some (ip, 0)
  else if et = 0x0800 then
    let h := beAt f ip 1 % 16 * 4
    if beAt f (ip + 9) 1 = 17 ∧ port (beAt f (ip + h + 2) 2) then some (ip + h + 8, 1) else none
  else if et = 0x86DD then
    if beAt f (ip + 6) 1 = 17 ∧ port (beAt f (ip + 42) 2) then some (ip + 48, 2) else none
  else none

/-- A one's complement sum folded to 16 bits. -/
def fold16 (v : Nat) : Nat :=
  let a := v % 65536 + v / 65536
  a % 65536 + a / 65536

/-- The 16-bit words of an even number of bytes. -/
def words16 : Bytes → List Nat
  | a :: b :: l => (a.toNat * 256 + b.toNat) :: words16 l
  | _ => []

/-- Replace bytes of a PTP message and update the UDP checksum by RFC 1624 (R441, R443): a zero checksum over IPv4 stays
zero. `rel` is the even offset in the message. -/
def ptpPatch (f : Bytes) (off kind rel : Nat) (new : Bytes) : Bytes :=
  let old := (f.drop (off + rel)).take new.length
  let g := patch f (off + rel) new
  if kind = 0 then g
  else
    let hc := beAt f (off - 2) 2
    if kind = 1 ∧ hc = 0 then g
    else
      let sum := (words16 old).foldl (fun a m => a + (65535 - m)) ((words16 new).foldl (· + ·) (65535 - hc))
      let c := 65535 - fold16 sum
      patch g (off - 2) (beBytes 2 (if c = 0 then 65535 else c))

end Sys2Proof
end

