-- ==== Sys2Proof/Machine/Crypto.lean ====
section
/-!
DEFINITION. The published check functions the manual names: CRC-16 with polynomial 0x1021 (R367), the reflected CRC-32 of
IEEE 802.3 and of image checks, SHA-256 (FIPS 180-4) and HMAC-SHA-256 (RFC 2104).
-/
namespace Sys2Proof

/-- One bit of the CRC-16 of R367. -/
def crc16Bit (c : Nat) : Nat := if c ≥ 0x8000 then Nat.xor (c * 2 % 65536) 0x1021 else c * 2 % 65536

/-- n steps of a function. -/
def iter {α : Type} (f : α → α) : Nat → α → α
  | 0, a => a
  | n + 1, a => iter f n (f a)

/-- CRC-16 over bytes: initial 0xFFFF, no reflection, no final XOR (R367). -/
def crc16 (b : Bytes) : Nat := b.foldl (fun c x => iter crc16Bit 8 (Nat.xor c (x.toNat * 256))) 0xFFFF

/-- One bit of the reflected CRC-32. -/
def crc32Bit (c : Nat) : Nat := if c % 2 = 1 then Nat.xor (c / 2) 0xEDB88320 else c / 2

/-- CRC-32 of IEEE 802.3 over bytes. -/
def crc32 (b : Bytes) : Nat :=
  Nat.xor (b.foldl (fun c x => iter crc32Bit 8 (Nat.xor c x.toNat)) 0xFFFFFFFF) 0xFFFFFFFF

/-- Whether a number below 324 is prime: no smaller number up to 17 divides it. -/
def smallPrime (n : Nat) : Bool := decide (2 ≤ n) && (List.range 16).all (fun d => n % (d + 2) != 0 || n == d + 2)

/-- The largest number of 36 bits whose k-th power is at most n, found from its highest bit down. -/
def rootBelow (k n : Nat) : Nat :=
  (List.range 36).foldr (fun b r => if (r + 2 ^ b) ^ k ≤ n then r + 2 ^ b else r) 0

/-- The first 32 bits of the fraction of the k-th root of n. -/
def rootFraction (k n : Nat) : Nat := rootBelow k (n * 2 ^ (32 * k)) % 2 ^ 32

/-- The round constants of SHA-256, as FIPS 180-4 says what they are: from the cube roots of the first 64 primes. -/
def shaK : List Nat := ((List.range 312).filter smallPrime).map (rootFraction 3)

/-- The initial hash value of SHA-256: from the square roots of the first eight primes. -/
def shaH : List Word := ((List.range 20).filter smallPrime).map (fun p => w32 (rootFraction 2 p))

/-- Extend the message schedule, held newest word first, by n words. -/
def shaSchedule : Nat → List Word → List Word
  | 0, w => w
  | n + 1, w =>
    let a := w.getD 14 0
    let b := w.getD 1 0
    let s0 := a.rotateRight 7 ^^^ a.rotateRight 18 ^^^ (a >>> 3)
    let s1 := b.rotateRight 17 ^^^ b.rotateRight 19 ^^^ (b >>> 10)
    shaSchedule n ((w.getD 15 0 + s0 + w.getD 6 0 + s1) :: w)

/-- One round on the eight working words. -/
def shaRound (h : List Word) (k w : Word) : List Word :=
  let a := h.getD 0 0
  let b := h.getD 1 0
  let c := h.getD 2 0
  let e := h.getD 4 0
  let t1 := h.getD 7 0 + (e.rotateRight 6 ^^^ e.rotateRight 11 ^^^ e.rotateRight 25) +
    ((e &&& h.getD 5 0) ^^^ (~~~ e &&& h.getD 6 0)) + k + w
  let t2 := (a.rotateRight 2 ^^^ a.rotateRight 13 ^^^ a.rotateRight 22) + ((a &&& b) ^^^ (a &&& c) ^^^ (b &&& c))
  [t1 + t2, a, b, c, h.getD 3 0 + t1, e, h.getD 5 0, h.getD 6 0]

/-- One 64-byte block. -/
def shaBlock (h : List Word) (blk : Bytes) : List Word :=
  let ws := (List.range 16).map (fun i => w32 (beNat (blk.drop (4 * i) |>.take 4)))
  let sched := (shaSchedule 48 ws.reverse).reverse
  let r := (shaK.zip sched).foldl (fun x kw => shaRound x (w32 kw.1) kw.2) h
  (h.zip r).map (fun p => p.1 + p.2)

/-- n blocks of a padded message. -/
def shaBlocks : Nat → List Word → Bytes → List Word
  | 0, h, _ => h
  | n + 1, h, b => shaBlocks n (shaBlock h (b.take 64)) (b.drop 64)

/-- SHA-256 of a message. -/
def sha256 (m : Bytes) : Bytes :=
  let pad := (119 - m.length % 64) % 64
  let p := m ++ [0x80] ++ List.replicate pad 0 ++ beBytes 8 (m.length * 8)
  (shaBlocks (p.length / 64) shaH p).flatMap (fun w => beBytes 4 w.toNat)

/-- HMAC-SHA-256 with a key of at most 64 bytes. -/
def hmacSha256 (key msg : Bytes) : Bytes :=
  let k := key ++ List.replicate (64 - key.length) 0
  sha256 (k.map (fun b => b ^^^ 0x5C) ++ sha256 (k.map (fun b => b ^^^ 0x36) ++ msg))

end Sys2Proof
end

