-- ==== Sys2Proof/Machine/Eth.lean ====
section
/-!
DEFINITION. The switch (chapter 13): redundancy, VLANs, address learning, egress queues, timestamps and the transparent
clock, and the registers of the ETH block.
-/
namespace Sys2Proof.Machine
open Sys2Proof

/-! ### Flags and records -/

/-- A flag of ETH_ISTAT with interrupt 24 + p (R461). -/
def State.ethFlag (s : State) (i p : Nat) : State := (s.putBit Reg.ETH_ISTAT i true).irq (24 + p)

/-- A refused write: CFG_DENY, interrupt 24, ETH_CFG_DENY with the offset in the block and a cause (R448, R470). -/
def State.ethDeny (s : State) (off cause : Nat) : State := (s.ethFlag 4 0).log 0x1D8 0 off cause

/-- A refused write whose cause R470 does not list. -/
def State.ethDenyFree (s : State) (off : Nat) : State := s.ethDeny off (Config.ethDenyCause off)

/-- Whether PD_NET is on (ETH_STAT.NET_ON). -/
def State.netOn (s : State) : Bool := s.bit Reg.ETH_STAT 4

/-- Whether a port is up; the internal port is up while PD_NET is on. -/
def State.portUp (s : State) (p : Nat) : Bool := s.netOn && (p == 4 || s.bit Reg.ETH_STAT p)

/-- MODE of a port (R463). -/
def State.portMode (s : State) (p : Nat) : Nat := s.fld (Reg.ETH_PCFG p) 2 0

/-- Whether a port runs SGMII at 10 or 100 Mbit/s, which bars it from redundancy as ETH_0 or ETH_1 (R429). -/
def State.portSlow (s : State) (p : Nat) : Bool :=
  let m := s.portMode p
  decide (m = 4) || decide (m = 5) || (decide (m = 2) && s.bit Reg.ETH_STAT p && decide (s.fld (Reg.ETH_PSTAT p) 2 1 < 2))

/-! ### Egress queues (R439) -/

/-- The frames in queue q of port p. -/
def State.ethQ (s : State) (p q : Nat) : List EFrame := SMap.get (fun _ => []) s.eth.queues (8 * p + q)

def State.setEthQ (s : State) (p q : Nat) (l : List EFrame) : State :=
  s.ethMod (fun e => { e with queues := SMap.set (fun _ => []) e.queues (8 * p + q) l })

/-- Bytes a queue holds. -/
def queueBytes (l : List EFrame) : Nat := l.foldl (fun a f => a + f.bytes.length) 0

/-- Put a frame into the queue its PCP selects; one that finds it full is discarded and counted. -/
def State.ethPut (s : State) (p pcp : Nat) (f : EFrame) : State :=
  if !s.netOn then s
  else
    let q := s.fld Reg.ETH_PCP_MAP (3 * pcp + 2) (3 * pcp)
    if 24576 < queueBytes (s.ethQ p q) + f.bytes.length then
      if p = 4 then s else s.count (Reg.ETH_DROP p) 31 16 1
    else s.setEthQ p q (s.ethQ p q ++ [f])

/-! ### VLANs (R438) -/

/-- The enabled VLAN entry of a VID: its number. -/
def State.vlanOf (s : State) (vid : Nat) : Option Nat :=
  (List.range 32).find? (fun v => s.bit (Reg.ETH_VLAN v) 31 && decide (s.fld (Reg.ETH_VLAN v) 11 0 = vid))

/-- Member ports and untagged ports of a frame's VLAN; a VID without entry floods to every port when VLAN_OPEN admits it. -/
def State.vlanPorts (s : State) (vid : Nat) : Option (Nat × Nat) :=
  match s.vlanOf vid with
  | some v => some (s.fld (Reg.ETH_VLAN v) 20 16, s.fld (Reg.ETH_VLAN v) 25 21)
  | none => if s.bit Reg.ETH_CTRL 9 then some (31, 0) else none

/-! ### Redundancy tables (R433, R434) -/

/-- Elapsed counts in ENTRY_FORGET. -/
def State.forget (s : State) : Nat := s.fld Reg.ETH_RED_CFG 15 0 * 250000

/-- Whether a table holds (mac, seq) within ENTRY_FORGET. -/
def State.inTable (s : State) (l : List MacRow) (mac seq : Nat) : Bool :=
  l.any (fun r => r.mac = mac ∧ r.x = seq ∧ s.tb.cnt < r.cnt + s.forget)

/-- A table with (mac, seq) added; when full, the oldest entry is replaced. -/
def addRow (l : List MacRow) (mac seq cnt : Nat) (most : Nat) : List MacRow :=
  (if most ≤ l.length then l.drop (l.length + 1 - most) else l) ++ [{ mac := mac, x := seq, cnt := cnt }]

/-- Whether port p takes part in PRP or HSR (R429, R432); otherwise ETH_0 and ETH_1 are ordinary ports. -/
def State.redPort (s : State) (p : Nat) : Bool := decide (s.eth.red ≠ 0) && decide (p < 2) && !s.portSlow p

/-- Whether ports 0 and 1 form one redundant port. -/
def State.redundant (s : State) : Bool := s.redPort 0 && s.redPort 1

/-- Whether ETH_2 joins a PRP LAN to the ring (HSR-PRP, R435). -/
def State.hsrPrp (s : State) : Bool := decide (s.eth.red = 2) && s.eth.redbox && decide (s.eth.kind ≠ 0)

/-- The logical port of a port: both redundant ports are port 0. -/
def State.logPort (s : State) (p : Nat) : Nat := if s.redundant && p == 1 then 0 else p

/-- The physical ports of a logical port. -/
def State.physPorts (s : State) (p : Nat) : List Nat := if s.redundant && p == 0 then [0, 1] else [p]

/-- A frame with a valid trailer or tag keeps its path alive, or restores it (R467). -/
def State.redAlive (s : State) (p : Nat) : State :=
  let s := s.ethMod (fun e => { e with lastRed := SMap.set (fun _ => 0) e.lastRed p (s.tb.cnt + 1) })
  if s.bit (Reg.ETH_PSTAT p) 3 then s
  else ((s.putBit (Reg.ETH_PSTAT p) 3 true).ethFlag (16 + p) p).log 0x1D1 p 1 0

/-- RED_PATH_LOST on port p (R467). -/
def State.redPathLost (s : State) (p : Nat) : State :=
  let last := SMap.get (fun _ => 0) s.eth.lastRed p
  if !s.bit (Reg.ETH_PSTAT p) 3 then s
  else
    let s := s.reachCnt (last - 1 + 3 * s.fld Reg.ETH_RED_CFG 31 16 * 250000)
    ((s.putBit (Reg.ETH_PSTAT p) 3 false).ethFlag (16 + p) p).log 0x1D1 p 0 0

def execRedPathLost (p : Fin 2) (s : State) : Host.Outcome State Fault Refusal := .next (s.redPathLost p.val)

/-! ### Sending -/

/-- Whether a frame is a PTP message (R436). -/
def Eth.ptp (e : Eth) : Bool := (ptpAt (e.plain none)).isSome

/-- The form in which port p sends a frame with a tag and a number (R431, R433 to R436): a trailer in PRP and on the PRP side of an HSR-PRP
interlink, not for PTP; a tag on the ring, for PTP too; else plain. -/
def State.ethForm (s : State) (f : Eth) (tag : Option (Nat × Nat)) (seq p : Nat) : Bytes :=
  if s.redPort p && decide (s.eth.red = 2) then Eth.withHsr f tag seq p
  else if s.redPort p && !Eth.ptp f then Eth.withRct f tag seq (10 + p)
  else if s.hsrPrp && decide (p = 2) && !Eth.ptp f then Eth.withRct f tag seq (9 + s.eth.kind)
  else f.plain tag

/-- Whether a frame to logical ports needs a redundancy sequence number. -/
def State.ethNumbered (s : State) (f : Eth) (outs : List Nat) : Bool :=
  outs.any (fun lp => s.redPort lp && (decide (s.eth.red = 2) || !Eth.ptp f)) || (s.hsrPrp && outs.contains 2 && !Eth.ptp f)

/-- Put a frame into the queues of logical ports, in the form each port sends (R431, R433, R435, R438). `outs` are logical
ports, `untag` the untagged ports, `pcp` and `vid` its priority and VLAN. A frame that came with a number keeps it. -/
def State.ethSend (s : State) (f : Eth) (outs : List Nat) (untag pcp vid : Nat) (src : EFrame) : State :=
  let seq := f.seq.getD s.eth.seq
  let s := when (s.ethNumbered f outs && f.seq.isNone) (fun t => t.ethMod (fun e => { e with seq := (e.seq + 1) % 65536 })) s
  outs.foldl (fun t lp => (t.physPorts lp).foldl (fun u p =>
    u.ethPut p pcp { src with bytes := u.ethForm f (if untag.testBit p then none else some (pcp, vid)) seq p }) t) s

/-! ### Timestamps (R440) -/

/-- Egress latency added and ingress latency subtracted, in ns, by port mode and speed. -/
def State.portLat (s : State) (p : Nat) : Nat × Nat :=
  let m := s.portMode p
  let sp := s.fld (Reg.ETH_PSTAT p) 2 1
  if p = 4 ∨ m = 0 ∨ m = 1 ∨ m = 3 then (96, 152)
  else if m = 4 then (416, 1032)
  else if m = 5 then (3616, 9832)
  else if sp = 2 then (96, 152) else if sp = 1 then (416, 1032) else (3616, 9832)

/-- The correction of an ingress stamp at port p; the internal port has none. -/
def State.inAdj (s : State) (p : Nat) : Int :=
  if p = 4 then 0 else sext 16 (s.fld (Reg.ETH_TSADJ p) 15 0) - ((s.portLat p).2 : Int)

/-- The correction of an egress stamp at port p. -/
def State.outAdj (s : State) (p : Nat) : Int :=
  if p = 4 then 0 else ((s.portLat p).1 : Int) + sext 16 (s.fld (Reg.ETH_TSADJ p) 31 16)

/-! ### Egress (R441 to R443) -/

/-- The head of the highest queue of a port that holds a frame: its queue and the frame. -/
def State.ethHeadOf (s : State) (p : Nat) : Option (Nat × EFrame) :=
  (List.range 8).reverse.findSome? (fun q => (s.ethQ p q).head?.map (fun f => (q, f)))

/-- A sum in a correction field: it stops at its largest value (R443). -/
def corrAdd (old : Nat) (add : Int) : Nat × Bool :=
  let v := sext 64 old + add
  if old = 0x7FFFFFFFFFFFFFFF ∨ v > 0x7FFFFFFFFFFFFFFF then (0x7FFFFFFFFFFFFFFF, true) else (toField 64 v, false)

/-- Write a corrected correctionField into a message. -/
def State.corrPatch (s : State) (f : Bytes) (off kind : Nat) (add : Int) : State × Bytes :=
  let (v, sat) := corrAdd (beAt f (off + 8) 8) add
  (if sat then s.count Reg.ETH_PTP_CNT 15 0 1 else s, ptpPatch f off kind 8 (beBytes 8 v))

/-- The egress FIFO takes a stamp, or counts and reports it (R441). -/
def State.txPush (s : State) (x : TxStamp) : State :=
  let n := s.eth.txts.length
  if 64 ≤ n then (s.count Reg.ETH_TXTS_STAT 31 16 1).log 0x1D9 x.port x.seq x.mtype
  else
    let s := (s.ethMod (fun e => { e with txts := e.txts ++ [x] })).put Reg.ETH_TXTS_STAT 6 0 (n + 1)
    if n = 0 then s.irq 28 else s

/-- The residence time plus the link delay of the ingress port, in 2^-16 ns (R399, R442). -/
def State.residence (s : State) (f : EFrame) (p : Nat) : Int :=
  (((s.tb.cnt - f.inCnt) * s.addend / 65536 : Nat) : Int) + (s.outAdj p - f.inAdj) * 65536 +
    (s.rd (Reg.ETH_PDELAY f.inPort)).toNat * 256

/-- What a PTP message undergoes as it leaves port p at time (sec, ns). -/
def State.ptpEgress (s : State) (p sec ns : Nat) (f : EFrame) : State × Bytes :=
  match ptpAt f.bytes with
  | none => (s, f.bytes)
  | some (off, kind) =>
    let mt := beAt f.bytes off 1 % 16
    let twoStep := (beAt f.bytes (off + 6) 1).testBit 1
    let seq := beAt f.bytes (off + 30) 2
    let ident := beAt f.bytes (off + 20) 10
    if f.inPort ≥ 4 then
      if mt ≥ 4 then (s, f.bytes)
      else
        let (sc, n) := splitNs (((sec * 1000000000 + ns : Nat) : Int) + s.outAdj p).toNat
        if twoStep then (s.txPush { sec := sc, ns := n, port := p, mtype := mt, seq := seq }, f.bytes)
        else (s, ptpPatch f.bytes off kind 34 (beBytes 6 (sc % 2 ^ 48) ++ beBytes 4 n))
    else if !s.bit Reg.ETH_PTP 0 then (s, f.bytes)
    else if mt = 0 then
      let c := s.residence f p
      if twoStep then
        let kept := s.eth.fups.filter (fun u => !(u.port = p ∧ u.ident = ident ∧ u.seq = seq) && decide (s.tb.cnt < u.cnt + 25000000))
        let new : FollowUp := { port := p, ident := ident, seq := seq, corr := c, cnt := s.tb.cnt }
        (s.ethMod (fun e => { e with fups := kept ++ [new] }), f.bytes)
      else s.corrPatch f.bytes off kind c
    else if mt = 8 then
      match s.eth.fups.find? (fun u => u.port = p ∧ u.ident = ident ∧ u.seq = seq ∧ s.tb.cnt < u.cnt + 25000000) with
      | some u =>
        (s.ethMod (fun e => { e with fups := e.fups.filter (fun v => v ≠ u) })).corrPatch f.bytes off kind u.corr
      | none => (s.count Reg.ETH_PTP_CNT 31 16 1, f.bytes)
    else (s, f.bytes)

/-- What the internal port passes with a frame: the ingress timestamp of a PTP message, low 48 bits of its seconds and ns (R399, R441). -/
def supStampOf (f : EFrame) : Option (Nat × Nat) :=
  if (ptpAt f.bytes).isSome ∧ f.inPort < 4 then some (f.inAt / 1000000000 % 2 ^ 48, f.inAt % 1000000000) else none

/-- A publication frame begins to leave: with the slot's present stNum it begins the transmission of the slot's last change (R459). -/
def State.gpubBegun (s : State) (f : EFrame) : State :=
  match f.goose with
  | some (g, st) => when (decide (st = (s.rd (Reg.GPUB_ST g)).toNat)) (fun t => t.setGpub g { t.gpub g with sent := true }) s
  | none => s

/-- ETH_FRAME_EGRESS: the head of port p's highest queue leaves at (sec, ns). -/
def State.ethEgress (s : State) (p sec ns : Nat) : State :=
  if !s.portUp p then s
  else
    match s.ethHeadOf p with
    | none => s
    | some (q, f) =>
      let s := s.reachTime (sec * 1000000000 + ns)
      let s := s.setEthQ p q (s.ethQ p q).tail
      let (s, b) := if p = 4 then (s, f.bytes) else s.ptpEgress p sec ns f
      let s := s.ethMod (fun e => { e with wire := SMap.set (fun _ => []) e.wire p b })
      let s := s.gpubBegun f
      if p = 4 then s.ethMod (fun e => { e with supStamp := supStampOf f }) else s.count (Reg.ETH_TXCNT p) 31 0 1

def execEthFrameEgress (p : Fin 5) (sec : Nat) (ns : Fin 1000000000) (s : State) : Host.Outcome State Fault Refusal :=
  .next (s.ethEgress p.val sec ns.val)

/-! ### Forwarding of a received frame (R434, R437, R438, R442) -/

/-- Learn a source address; the table holds 4 096 (R437). -/
def State.learn (s : State) (mac lp : Nat) : State :=
  s.ethMod (fun e => { e with fdb := addRow (e.fdb.filter (fun r => r.mac ≠ mac)) mac lp s.tb.cnt 4096 })

/-- The logical port an address was learned on, as the ports stand now. -/
def State.lookup (s : State) (mac : Nat) : Option Nat := (s.eth.fdb.find? (fun r => r.mac = mac)).map (fun r => s.logPort r.x)

/-- Whether a PTP frame is a peer delay message, which the transparent clock does not forward (R442). -/
def pdelayMsg (f : Bytes) : Bool :=
  match ptpAt f with
  | some (off, _) => let m := beAt f off 1 % 16; m = 2 ∨ m = 3 ∨ m = 10
  | none => false

/-- The logical ports of a port mask. -/
def State.logPorts (s : State) (mask : Nat) : List Nat :=
  (idxWhere 5 (fun p => mask.testBit p || (s.redundant && p == 0 && mask.testBit 1))).filter (fun p => !(s.redundant && p == 1))

/-- Switch a frame received on port p at ta ns with its priority, VLAN and the VLAN's ports; one that VLAN_OPEN admits without an entry is
flooded (R438). `toSup` asks for a copy at the internal port whatever the VLAN says. -/
def State.forward (s : State) (p ta : Nat) (f : Eth) (pcp vid members untag : Nat) (toSup : Bool) : State :=
  let lp := s.logPort p
  let src : EFrame := { bytes := [], inPort := p, inCnt := s.tb.cnt, inAdj := s.inAdj p, inAt := ta, goose := none }
  let s := s.learn f.src lp
  let outs :=
    if s.bit Reg.ETH_PTP 0 && pdelayMsg (f.plain none) && p != 4 then [4]
    else
      let all := s.logPorts members
      let uni := decide (f.dst / 2 ^ 40 % 2 = 0) && (s.vlanOf vid).isSome
      match (if uni then s.lookup f.dst else none) with
      | some d => if all.contains d then [d] else []
      | none => all
  let outs := outs.filter (fun q => q ≠ lp)
  let outs := if toSup && !outs.contains 4 && lp ≠ 4 then outs ++ [4] else outs
  s.ethSend f outs untag pcp vid src

/-- Whether a source address is this device's or of a node behind it, so that its frames come from this device (R434): its own address, that
of a loaded publication template, or one learned on a port outside the ring. -/
def State.ownSrc (s : State) (mac : Nat) : Bool :=
  decide (mac = Config.ownMac) ||
  (List.range 8).any (fun g => !(s.gpub g).template.isEmpty && decide (beAt (s.gpub g).template 6 6 = mac)) ||
  (match s.lookup mac with
   | some lp => !s.redPort lp
   | none => false)

/-- Ring forwarding in HSR (R434): the frame goes on to the other ring port unless the device originated it or has forwarded
it within ENTRY_FORGET; the transparent clock keeps back peer delay messages (R442). -/
def State.ringForward (s : State) (p ta : Nat) (raw : Bytes) (f : Eth) (pcp : Nat) : State :=
  match f.seq with
  | none => s
  | some q =>
    if s.ownSrc f.src ∨ s.inTable s.eth.fwd f.src q ∨ (s.bit Reg.ETH_PTP 0 ∧ pdelayMsg raw) ∨ !s.redPort (1 - p) then s
    else
      let s := s.ethMod (fun e => { e with fwd := addRow e.fwd f.src q s.tb.cnt 1024 })
      s.ethPut (1 - p) pcp { bytes := raw, inPort := p, inCnt := s.tb.cnt, inAdj := s.inAdj p, inAt := ta, goose := none }

/-- Whether a redundant port's frame is a later copy, and the state that knows it (R433): count and discard. -/
def State.dupCheck (s : State) (p : Nat) (f : Eth) : State × Bool :=
  match f.seq with
  | none => (s, false)
  | some q =>
    if Eth.ptp f then (s, false)
    else if s.inTable s.eth.dup f.src q then (s.count (Reg.ETH_REDCNT p) 31 16 1, true)
    else (s.ethMod (fun e => { e with dup := addRow e.dup f.src q s.tb.cnt 1024 }), false)

/-! ### Address ageing, links, redundancy mode, supervision -/

/-- ADDRESS_AGEING: an entry 300 s old goes (R437). -/
def State.ageing (s : State) (mac : Nat) : State :=
  match s.eth.fdb.find? (fun r => r.mac = mac) with
  | none => s
  | some r => (s.reachCnt (r.cnt + 75000000000)).ethMod (fun e => { e with fdb := e.fdb.filter (fun x => x.mac ≠ mac) })

def execAddressAgeing (mac : BitVec 48) (s : State) : Host.Outcome State Fault Refusal := .next (s.ageing mac.toNat)

/-- ETH_CTRL's redundancy settings come into force (R432). The addresses learned on ETH_0 and ETH_1 are forgotten, so that traffic to them
floods until they are learned again (log entry 190). -/
def State.redApply (s : State) : State :=
  s.ethMod (fun e => { e with
    supAt := s.tb.cnt,
    red := s.fld Reg.ETH_CTRL 1 0, redbox := s.bit Reg.ETH_CTRL 2, kind := s.fld Reg.ETH_CTRL 5 4, dup := [], fwd := [],
    fdb := e.fdb.filter (fun r => decide (2 ≤ r.x)) })

/-- A write of ETH_CTRL (R432, R454, R461): reserved codings are refused; APPLY, or PD_NET off, brings the redundancy
settings into force; SIM = 0 forgets which entries have taken simulated frames. -/
def State.ethCtrlWrite (s : State) (v : Word) : State :=
  if field v 1 0 = 3 ∨ field v 5 4 = 3 then s.ethDeny 0 2
  else
    let s := s.wr Reg.ETH_CTRL (v &&& 0x337)
    let s := if bitAt v 8 then s
      else (List.range 128).foldl (fun t e => t.setGse e { t.gse e with sim := false }) s
    if bitAt v 31 || !s.netOn then s.redApply else s

def execEthApply (r : Req) (v : Word) (s : State) : Host.Outcome State Fault Refusal :=
  s.access r (fun s => s.ethCtrlWrite (v ||| 0x80000000))

/-- PRP_SUPERVISION_SEND: a supervision frame on both LANs, LIFE_CHECK after the one before or after PRP came into force (R433). -/
def State.prpSupervision (s : State) : State :=
  if s.eth.red ≠ 1 ∨ !s.netOn then s
  else
    let s := s.reachCnt (s.eth.supAt + s.fld Reg.ETH_RED_CFG 31 16 * 250000)
    let body := beBytes 2 1 ++ beBytes 2 s.eth.supSeq ++ [20, 6] ++ beBytes 6 Config.ownMac ++ [0, 0]
    let f : Eth := { dst := 0x01154E000100 + Config.prpSupOctet.toNat, src := Config.ownMac, tag := none, seq := none, lan := 0,
                     et := 0x88FB, body := body ++ List.replicate 26 0 }
    let s := s.ethMod (fun e => { e with supSeq := (e.supSeq + 1) % 65536, supAt := s.tb.cnt })
    s.ethSend f (if s.redundant then [0] else idxWhere 2 s.redPort) 31 0 0
      { bytes := [], inPort := 5, inCnt := s.tb.cnt, inAdj := 0, inAt := 0, goose := none }

def execPrpSupervisionSend (s : State) : Host.Outcome State Fault Refusal := .next s.prpSupervision

/-! ### Table port keys (R468) -/

/-- Key of word w of GOOSE filter entry e. -/
def gseKey (e w : Nat) : Nat := 0xA3200000 + e * 0x40 + 4 * w

/-- Key of word w of publication header c. -/
def hdrKey (c w : Nat) : Nat := 0xA3210000 + c * 0x80 + 4 * w

/-- Ports of GOOSE entry e whose link is down (R455); without PD_NET no port has one. -/
def State.pathsDown (s : State) (e : Nat) : Nat :=
  let ports := s.fld (gseKey e 0) 20 16
  packBits 5 (fun p => ports.testBit p && !s.portUp p)

/-- Entries whose last path has gone since the state `was`, or that were not enabled in it, are marked with the time (R308, R455). -/
def State.markPaths (s was : State) : State :=
  (List.range 128).foldl (fun t e =>
    let ports := t.fld (gseKey e 0) 20 16
    if t.bit (gseKey e 0) 31 && decide (ports ≠ 0) && decide (t.pathsDown e = ports) &&
        (decide (was.pathsDown e ≠ ports) || !was.bit (gseKey e 0) 31) then
      t.setGse e { t.gse e with downAt := t.tb.cnt + 1 }
    else t) s

/-- The speed of a link by MODE: only SGMII auto takes the partner's (R429, R463). -/
def portSpeed (mode partner : Nat) : Nat :=
  if mode = 1 ∨ mode = 3 then 2 else if mode = 4 then 1 else if mode = 5 then 0 else partner

/-- ETH_LINK: a port's link changes (R430, R470); a port that is off or without PD_NET has none. -/
def State.ethLink (s : State) (p : Nat) (up : Bool) (partner : Nat) : State :=
  let up := up && s.netOn && decide (s.portMode p ≠ 0)
  let speed := portSpeed (s.portMode p) partner
  if s.bit Reg.ETH_STAT p = up then s
  else
    let was := s
    let s := s.putBit Reg.ETH_STAT p up
    let s := (s.putBit (Reg.ETH_PSTAT p) 0 up).put (Reg.ETH_PSTAT p) 2 1 speed
    let s := (s.ethFlag (12 + p) p).log 0x1D0 p (b2n up + 2 * speed) 0
    if up then s else s.markPaths was

def execEthLink (p : Fin 4) (up : Bool) (speed : Fin 3) (s : State) : Host.Outcome State Fault Refusal :=
  .next (s.ethLink p.val up speed.val)

/-! ### Egress timestamp FIFO (R462) -/

/-- A read of ETH_TXTS_NS removes the head and latches its seconds and tag for the requester (R563). -/
def State.txtsRead (s : State) (r : Req) : State :=
  match s.eth.txts with
  | [] => s.emptyRead r Reg.ETH_TXTS_NS
  | x :: xs =>
    let s := (s.ethMod (fun e => { e with txts := xs })).put Reg.ETH_TXTS_STAT 6 0 xs.length
    let s := s.latch r Reg.ETH_TXTS_SEC (w32 x.sec)
    let s := s.latch r Reg.ETH_TXTS_TAG (w32 (x.seq * 65536 + x.mtype * 256 + x.port))
    (s.headTaken Reg.ETH_TXTS_NS).answer r (w32 x.ns)

def execEthTxtsNsRead (r : Req) (s : State) : Host.Outcome State Fault Refusal :=
  s.access r (fun s => s.txtsRead r)

end Sys2Proof.Machine
end

