-- ==== Sys2Proof/Machine/Sv.lean ====
section
/-!
DEFINITION. Sampled values (chapter 13): subscription slots as a lane source, and publication streams.
-/
namespace Sys2Proof

/-- The value ± m × 2^e times an integer, rounded half up and limited to ± lim (R83, R447). A factor that is not finite
gives a value the manual does not state. -/
def scaleSv (v : Int) (k : Word) (lim : Int) : Int :=
  match flOf k with
  | .fin neg m e =>
    let p := v * flSigned neg m
    clampInt (-lim) lim (if 0 ≤ e then p * ((2 ^ e.toNat : Nat) : Int) else roundQ p (2 ^ (-e).toNat))
  | _ => clampInt (-lim) lim (Config.svScale v k)

/-- The unlimited product, to tell whether the limit acted. -/
def scaleRaw (v : Int) (k : Word) : Int :=
  match flOf k with
  | .fin neg m e =>
    let p := v * flSigned neg m
    if 0 ≤ e then p * ((2 ^ e.toNat : Nat) : Int) else roundQ p (2 ^ (-e).toNat)
  | _ => Config.svScale v k

/-- An SV message: APPID and the items of each ASDU. -/
structure SvMsg where
  appid : Nat
  count : Nat
  asdus : List (List (Nat × Bytes))
  deriving DecidableEq, Repr

/-- Decode an SV message (IEC 61850-9-2): header of 8 bytes, savPdu 0x60 with noASDU 0x80 and seqASDU 0xA2. -/
def svDecode (body : Bytes) : Option SvMsg :=
  match (berItems 4 (body.drop 8)).1 with
  | (0x60, pdu) :: _ =>
    let items := (berItems 8 pdu).1
    match berGet items 0x80, berGet items 0xA2 with
    | some n, some seq =>
      some { appid := beAt body 0 2, count := beNat n,
             asdus := ((berItems 16 seq).1.filter (fun x => x.1 = 0x30)).map (fun x => (berItems 16 x.2).1) }
    | _, _ => none
  | _ => none

/-- The eight members of a dataset: INT32 and 32-bit quality. -/
def svMembers (b : Bytes) : List (Int × Nat) :=
  (List.range 8).map (fun i => (sext 32 (beAt b (8 * i) 4), beAt b (8 * i + 4) 4))

/-- Whether the format of an SV message is refused (R444). -/
def SvMsg.bad (m : SvMsg) : Bool :=
  m.count != 2 || m.asdus.length != 2 ||
    m.asdus.any (fun a => ((berGet a 0x87).getD []).length != 64 || decide (4800 ≤ beNat ((berGet a 0x82).getD [])))

end Sys2Proof

namespace Sys2Proof.Machine
open Sys2Proof

/-! ### Subscription (R444 to R449) -/

/-- The cluster whose lanes take slot n, by CL_SRC in force. -/
def State.svUser (s : State) (n : Nat) : Option Nat :=
  (List.range 16).find? (fun c => s.isSv c && decide (field (s.srcNow c) 11 8 = n))

/-- Whether slot n is the source of a cluster: the one in force, or the one CL_SRC names for the next tick start (R448, log entry 176). -/
def State.svHeld (s : State) (n : Nat) : Bool :=
  let names (w : Word) : Bool := bitAt w 0 && decide (field w 11 8 = n)
  (List.range 16).any (fun c => names (s.srcNow c) || names (s.rd (Reg.CL_SRC c)))

/-- SV_DELAY in force of a cluster. -/
def State.svDelay (s : State) (c : Nat) : Nat := field (s.srcNow c) 19 16

/-- A sample of a slot is used: a loss ends, with the number of ticks that had none (R449, R470). -/
def State.svUsed (s : State) (n tick : Nat) : State :=
  let x := s.svSlot n
  let lost := s.bit (Reg.SVS_CNT n) 31
  let s := s.setSvSlot n { x with lastTick := tick, miss := if lost then 0 else x.miss, since := max x.since (tick + 1) }
  if lost then ((s.putBit (Reg.SVS_CNT n) 31 false).irq 24).log 0x1D3 n (tick % 4800) (tick - x.since) else s

/-- One ASDU for slot n, received at time ta in ns (R445, R446). -/
def State.svAsdu (s : State) (n ta : Nat) (a : List (Nat × Bytes)) : State :=
  let cnt := beNat ((berGet a 0x82).getD [])
  let rev := beNat ((berGet a 0x83).getD [])
  let x := s.svSlot n
  if rev ≠ (s.rd (Reg.SVS_CONFREV n)).toNat then
    let s := s.count (Reg.SVS_CNT n) 23 16 1
    let s := s.setSvSlot n { x with okSeen := false }
    if x.okSeen then (s.ethFlag 1 0).log 0x1D4 n rev cnt else s
  else
    let s := s.setSvSlot n { x with okSeen := true }
    match s.svUser n with
    | none => s
    | some c =>
      let (sec, ns) := splitNs ta
      let s0 := if tickNs cnt ≤ ns then sec else sec - 1
      let tick := tickAbs s0 cnt
      let last := tick + s.svDelay c
      let lim := last / 4800 * 1000000000 + tickNs (last % 4800)
      if lim ≤ ta + 2000 then s.count (Reg.SVS_LATE n) 31 0 1
      else if (s.svSlot n).store.any (fun y => y.tick = tick) then s.count (Reg.SVS_CNT n) 7 0 1
      else
        let smp : SvSample := { tick := tick, vals := svMembers ((berGet a 0x87).getD []), synch := beNat ((berGet a 0x85).getD []) }
        let y := s.svSlot n
        (s.setSvSlot n { y with store := y.store ++ [smp] }).svUsed n tick

/-- Whether slot n takes an SV message from port p (R445). -/
def State.svMatch (s : State) (n p : Nat) (f : Eth) (m : SvMsg) : Bool :=
  let ctrl := Reg.SVS_CTRL n
  s.bit ctrl 31 && (s.fld ctrl 20 16).testBit p &&
    decide (f.dst = s.fld (Reg.SVS_MAC_HI n) 15 0 * 4294967296 + (s.rd (Reg.SVS_MAC_LO n)).toNat) &&
    decide (m.appid = s.fld ctrl 15 0) &&
    (match m.asdus with
     | a :: _ => (match berGet a 0x80 with
       | some id => decide (crc32 id = (s.rd (Reg.SVS_ID_CRC n)).toNat)
       | none => false)
     | [] => false)

/-- An SV frame serves every slot it matches (R445). -/
def State.svFrame (s : State) (p ta : Nat) (f : Eth) : State :=
  match svDecode f.body with
  | none => s
  | some m =>
    (List.range 16).foldl (fun t n =>
      if !t.svMatch n p f m then t
      else if m.bad then t.count (Reg.SVS_CNT n) 15 8 1
      else m.asdus.foldl (fun u a => u.svAsdu n ta a) t) s

/-- The sample word of lane l of cluster c from a member (R447, R451's codings: validity in quality [1:0], overflow [2],
test [11]). -/
def State.svWord (s : State) (n l : Nat) (smp : SvSample) : Word :=
  let (v, q) := smp.vals.getD (s.fld (Reg.SVS_MAP n) (4 * l + 2) (4 * l)) (0, 1)
  let ctrl := s.rd (Reg.SVS_CTRL n)
  let k := s.rd (Reg.SVS_K n l)
  let valid := q % 4
  let req := field ctrl 28 27
  let sync := req == 0 || smp.synch == 2 || (req == 1 && smp.synch == 1)
  let bad := valid == 1 || (q.testBit 11 && !bitAt ctrl 29) || !sync || (valid == 3 && bitAt ctrl 30)
  let sat := q.testBit 2 || decide (8388607 < (scaleRaw v k).natAbs)
  sampleWord (scaleSv v k 8388607) bad false sat true smp.tick

/-- The word delivered for slot index k of a lane of an SV-sourced cluster: the sample, or an absent one (R63). -/
def State.svSlotWord (s : State) (n l k : Nat) : Word :=
  match (s.svSlot n).store.find? (fun y => y.tick = k) with
  | some y => s.svWord n l y
  | none => sampleWord 0 true false false true k

/-- After the delivery of slot index k the slot's store drops it, and a tick without a used sample counts (R449). -/
def State.svDelivered (s : State) (n k : Nat) : State :=
  let x := s.svSlot n
  let had := x.store.any (fun y => y.tick = k)
  s.setSvSlot n { x with store := x.store.filter (fun y => decide (k < y.tick)), miss := if had then 0 else x.miss + 1 }

/-- SV_LOST for slot n: eight ticks in a row without a used sample (R449). -/
def State.svLost (s : State) (n : Nat) : State :=
  match s.svUser n with
  | none => s
  | some c =>
    let x := s.svSlot n
    if x.miss < 8 ∨ s.bit (Reg.SVS_CNT n) 31 then s
    else ((s.putBit (Reg.SVS_CNT n) 31 true).ethFlag 0 0).log 0x1D2 n (x.lastTick % 4800) c

def execSvLost (n : Fin 16) (s : State) : Host.Outcome State Fault Refusal := .next (s.svLost n.val)

/-- A write of register k of slot n (R448, R461, R465): the owner's requester only; a slot in use keeps its match, map and
scale registers and stays enabled. -/
def State.svsWrite (s : State) (r : Req) (n k : Nat) (v : Word) : State :=
  let off := 0x300 + 0x40 * n + 4 * k
  let a := 0x20000 + off
  if k = 6 ∨ k = 7 then s.regWrite a v
  else if !s.mayWrite280 r (0x7000 + n) then s.ethDenyFree off
  else if k = 0 ∧ field v 28 27 = 3 then s.ethDeny off 2
  else if s.svHeld n ∧ (k ≠ 0 ∨ (s.bit a 31 ∧ !bitAt v 31) ∨ field v 20 0 ≠ s.fld a 20 0) then s.ethDeny off 1
  else s.regWrite a v

def execSvSlotWrite (r : Req) (n : Fin 16) (k : Fin 16) (v : Word) (s : State) : Host.Outcome State Fault Refusal :=
  s.access r (fun s => s.svsWrite r n.val k.val v)

/-! ### Publication (R450 to R452) -/

/-- Value and quality of the member of lane l from its PROT word (R451). -/
def State.svpMember (s : State) (c l : Nat) (w : Word) : Int × Nat :=
  let sim := b2n (s.bit (Reg.SVP_CTRL c) 30) * 2048
  if bitAt w 7 then (0, 1 + sim)
  else (scaleSv (sext 24 (field w 31 8)) (if l < 4 then s.rd (Reg.SVP_K_I c) else s.rd (Reg.SVP_K_V c)) 2147483647,
    (if bitAt w 5 then 3 + 4 else 0) + sim)

/-- The members of a missing sample: every value 0, every validity invalid (R452). -/
def State.svpMissing (s : State) (c : Nat) : List (Int × Nat) :=
  List.replicate 8 (0, 1 + b2n (s.bit (Reg.SVP_CTRL c) 30) * 2048)

/-- The PROT sample of lane l of cluster c for slot k joins the sample set of tick k of the publication stream (R451); the members of lanes
with another delay join it as they are delivered (log entry 192). -/
def State.svpPush (s : State) (c l k : Nat) (w : Word) : State :=
  let ctrl := s.rd (Reg.SVP_CTRL c)
  if !bitAt ctrl 31 ∨ !s.netOn then s
  else
    let sets := SMap.get (fun _ => []) s.eth.svp c
    let mine (x : SvPubSample) : Bool := decide (x.idx = k) && decide (x.epoch = s.epoch)
    let new : SvPubSample := { smpCnt := (k + 4800 - field ctrl 27 24) % 4800, idx := k, epoch := s.epoch, vals := s.svpMissing c }
    let sets := (if sets.any mine then sets else sets ++ [new]).map (fun x =>
      if mine x then { x with vals := x.vals.set l (s.svpMember c l w) } else x)
    s.ethMod (fun e => { e with svp := SMap.set (fun _ => []) e.svp c sets })

/-- Whether a lane of cluster c has still to deliver its sample of tick k on the running scale (R452). -/
def State.svpWaits (s : State) (c k epoch : Nat) : Bool :=
  decide (epoch = s.epoch) && s.tickHas (c / 4) &&
    (List.range 8).any (fun l => (s.lane (8 * c + l)).lastSlot.all (fun x => decide (x < k)))

/-- The svID of stream c from the publication header table (R468). -/
def State.svpId (s : State) (c : Nat) : Bytes :=
  (List.range (s.fld (hdrKey c 0) 7 0)).map (fun i =>
    BitVec.ofNat 8 (s.fld (hdrKey c (1 + i / 4)) (8 * (i % 4) + 7) (8 * (i % 4))))

/-- The ASDU of smpCnt m; a missing sample has every value 0 and every validity invalid (R452). -/
def State.svpAsdu (s : State) (c m : Nat) (x : Option SvPubSample) : Bytes :=
  let ctrl := s.rd (Reg.SVP_CTRL c)
  let vals := match x with
    | some y => y.vals
    | none => s.svpMissing c
  let synch := if 2 ≤ s.tq then 0 else field ctrl 29 28
  berItem 0x30 (berItem 0x80 (s.svpId c) ++ berItem 0x82 (beBytes 2 m) ++ berItem 0x83 (beBytes 4 (s.rd (Reg.SVP_CONFREV c)).toNat) ++
    berItem 0x85 [BitVec.ofNat 8 synch] ++
    berItem 0x87 (vals.flatMap (fun v => beBytes 4 (toField 32 v.1) ++ beBytes 4 v.2)))

/-- SV_PUB_FRAME_SEND for stream c: the frame of the oldest pair, once every lane has delivered its second sample or never will (R452); a
standby sends none. -/
def State.svpSend (s : State) (c : Nat) : State :=
  let l := SMap.get (fun _ => []) s.eth.svp c
  match l with
  | [] => s
  | x :: _ =>
    let m := x.smpCnt / 2 * 2
    let pair := l.filter (fun y => y.smpCnt / 2 * 2 = m)
    let a := pair.find? (fun y => y.smpCnt = m)
    let b := pair.find? (fun y => y.smpCnt = m + 1)
    if s.svpWaits c (if x.smpCnt = m then x.idx + 1 else x.idx) x.epoch then s
    else
      let s := s.ethMod (fun e => { e with svp := SMap.set (fun _ => []) e.svp c (l.filter (fun y => y.smpCnt / 2 * 2 ≠ m)) })
      if s.sapwood ∨ !s.bit (Reg.SVP_CTRL c) 31 then s
      else
        let ctrl := s.rd (Reg.SVP_CTRL c)
        let pdu := berItem 0x60 (berItem 0x80 [2] ++ berItem 0xA2 (s.svpAsdu c m a ++ s.svpAsdu c (m + 1) b))
        let body := beBytes 2 (field ctrl 15 0) ++ beBytes 2 (pdu.length + 8) ++ beBytes 2 (b2n (bitAt ctrl 30) * 32768) ++ [0, 0] ++ pdu
        let f : Eth := { dst := s.fld (Reg.SVP_MAC_HI c) 15 0 * 4294967296 + (s.rd (Reg.SVP_MAC_LO c)).toNat, src := Config.ownMac,
                         tag := none, seq := none, lan := 0, et := 0x88BA, body := body }
        let s := s.ethSend f (s.logPorts (field ctrl 20 16)) 0 (s.fld (Reg.SVP_VLAN c) 15 13) (s.fld (Reg.SVP_VLAN c) 11 0)
          { bytes := [], inPort := 5, inCnt := s.tb.cnt, inAdj := 0, inAt := 0, goose := none }
        s.count (Reg.SVP_CNT c) 31 0 1

def execSvPubFrameSend (c : Fin 16) (s : State) : Host.Outcome State Fault Refusal := .next (s.svpSend c.val)

end Sys2Proof.Machine
end

