-- ==== Sys2Proof/Machine/Windows.lean ====
section
/-!
DEFINITION. The lane windows of a cluster (chapter 05, R163, R164): the rings of PROT and TRK words, the TRK tags and
WIN_HEAD, the delivery of PROT slots in the entry phase (chapters 02 and 04), and what a restart of the cluster does to them.
-/
namespace Sys2Proof.Machine
open Sys2Proof

/-! ### Rings (R163, R164) -/

/-- Core address of PROT word p of lane l, of TRK word p, of tag p, and of WIN_HEAD. -/
def protAddr (l p : Nat) : Nat := 0x20000 + l * 0x400 + 4 * p
def trkAddr (l p : Nat) : Nat := 0x22000 + l * 0x400 + 4 * p
def tagAddr (p : Nat) : Nat := 0x24000 + 4 * p
def winHead : Nat := 0x24400

/-- PROT_HEAD, TRK_HEAD and TRK_NEW of a cluster. -/
def State.protHead (s : State) (c : Nat) : Nat := s.fld (winKey c winHead) 7 0
def State.trkHead (s : State) (c : Nat) : Nat := s.fld (winKey c winHead) 15 8
def State.trkNew (s : State) (c : Nat) : Nat := s.fld (winKey c winHead) 17 16

/-- Keys of the PROT word and of the TRK word of a lane `age` places before the newest. -/
def State.protKey (s : State) (c l age : Nat) : Nat := winKey c (protAddr l ((s.protHead c + 256 - age % 256) % 256))
def State.trkKey (s : State) (c l age : Nat) : Nat := winKey c (trkAddr l ((s.trkHead c + 256 - age % 256) % 256))

/-- The PROT word and the TRK word of a lane `age` places before the newest. -/
def State.protWord (s : State) (c l age : Nat) : Word := s.winWord c (s.protKey c l age)
def State.trkWord (s : State) (c l age : Nat) : Word := s.winWord c (s.trkKey c l age)

/-- The eight PROT words of a tick enter the windows (R164). -/
def State.pushProt (s : State) (c : Nat) (words : List Word) : State :=
  let h := (s.protHead c + 1) % 256
  let s := s.put (winKey c winHead) 7 0 h
  (List.range 8).foldl (fun t l => t.wrMem c (winKey c (protAddr l h)) (words.getD l 0)) s

/-- A TRK set takes the next ring position, with its tag (R163, R164); its words are INVALID until a lane's own is written. -/
def State.openTrk (s : State) (c tick sec tag : Nat) (sv : Bool) : State :=
  let h := (s.trkHead c + 1) % 256
  let s := (s.put (winKey c winHead) 15 8 h).put (winKey c winHead) 17 16 (s.trkNew c + 1)
  let s := s.wrMem c (winKey c (tagAddr h)) (w32 (sec % 4 * 1073741824 + tag))
  (List.range 8).foldl (fun t l => t.wrMem c (winKey c (trkAddr l h)) (sampleWord 0 true false false sv tick)) s

/-- A restart of the cluster (R164): every window word reads INVALID and both heads are 0. -/
def State.clearWindows (s : State) (c : Nat) : State :=
  let base := winKey c 0x20000
  let words (k : Nat) : Bool := decide (base ≤ k) && decide (k < base + 0x4000)
  ((s.dropRegs words).dropUpsets c words).wr (winKey c winHead) 0

/-! ### Delivery of PROT slots (R61, R63, R141, R152) -/

/-- The slot index lane ch delivers in the running tick: tick − D, none before the first such index. -/
def State.slotDue (s : State) (ch : Nat) : Option Nat :=
  let d := (s.lane ch).delay
  if d ≤ s.tickNo then some (s.tickNo - d) else none

/-- The number whose low four bits are the TICK field of the slot due. -/
def State.slotTick (s : State) (ch : Nat) : Nat := s.tickNo + 4800 - (s.lane ch).delay

end Sys2Proof.Machine

namespace Sys2Proof

/-- Whether lane l settles in slot k (R141). -/
def Lane.settles (l : Lane) (k : Nat) : Bool := decide (l.reset ≤ k + l.syncD) && decide (k < l.reset + l.settleN)

end Sys2Proof

namespace Sys2Proof.Machine
open Sys2Proof

/-- The sample of slot k of lane ch, from the source the slot has (R63, R141). -/
def State.slotSample (s : State) (ch k t : Nat) : Word :=
  let l := s.lane ch
  let src := s.slotSrc ch k
  if bitAt src 0 then s.svSlotWord (field src 11 8) (lnOf ch) k
  else s.downWord ch (((l.prot.find? (fun x => x.idx = k)).map (·.word)).getD (sampleWord 0 true false false false t))

/-- The word lane ch delivers in the running tick, and whether it is a settling slot: a stopped slot, one delivered before, a settling
one, or the sample (R63, R104, R141, R152). -/
def State.slotWord (s : State) (ch : Nat) : Word × Bool :=
  let l := s.lane ch
  let sv := s.isSv (clOf ch)
  let t := s.slotTick ch
  let none_ := sampleWord 0 true false false sv t
  match s.slotDue ch with
  | none => (none_, false)
  | some k =>
    if s.stopped ch || decide (k < l.stopTo) || l.lastSlot.any (fun x => decide (k ≤ x)) then (none_, false)
    else if l.settles k then
      let w := sampleWord 0 true true false sv t
      (if sv then w else s.downWord ch w, true)
    else (s.slotSample ch k t, false)

/-- Lane ch delivers its slot: SETTLE_LEFT counts the settling slots (R141), samples up to it leave the delay line, and a valid one is
remembered (R603). -/
def State.slotDone (s : State) (ch : Nat) (o : Word × Bool) : State :=
  let s := if o.2 then s.put (kSTAT ch) 31 24 (s.fld (kSTAT ch) 31 24 - 1) else s
  match s.slotDue ch with
  | none => s
  | some k => s.laneMod ch (fun l => { l with
      lastSlot := some (max k (l.lastSlot.getD k)), valid := l.valid || (decide (l.reset ≤ k) && !bitAt o.1 7), prot := l.prot.filter (fun x => decide (k < x.idx)) })

/-- Whether the running tick repeats a slot index of lane ch (R141). -/
def State.slotAgain (s : State) (ch : Nat) : Bool :=
  (s.slotDue ch).any (fun k => (s.lane ch).lastSlot.any (fun x => decide (k ≤ x)))

/-- A delivered word enters the history the IFD keeps of a lane, by slot index; a repeated index does not (R243). -/
def State.ifdHist (s : State) (c l : Nat) (due : Option Nat) (w : Word) : State :=
  match due with
  | none => s
  | some k =>
    let old := SMap.get (fun _ => []) (s.det c).hist l
    if old.any (fun (x : Slot) => x.idx = k) then s
    else
      let x : Slot := { idx := k, word := w }
      s.detMod c (fun d => { d with hist := SMap.set (fun _ => []) d.hist l ((x :: old).take 128) })

/-- The PROT delivery of cluster c in its entry phase: one word per lane into the windows, the SV publication and the history
the IFD keeps (R57, R243). -/
def State.deliverProt (s : State) (c : Nat) : State :=
  let chs := (List.range 8).map (fun l => 8 * c + l)
  let out := chs.map (fun ch => s.slotWord ch)
  let due := chs.map (fun ch => s.slotDue ch)
  let again := chs.map (fun ch => s.slotAgain ch)
  let s := (s.pushProt c (out.map (·.1))).put (winKey c winHead) 17 16 0
  let s := (chs.zip out).foldl (fun t p => t.slotDone p.1 p.2) s
  let s := (List.range 8).foldl (fun t l => t.ifdHist c l (due.getD l none) (out.getD l (0, false)).1) s
  let s := (List.range 8).foldl (fun t l =>
    match due.getD l none with
    | some k => when (!again.getD l false) (fun u => u.svpPush c l k (out.getD l (0, false)).1) t
    | none => t) s
  match due.getD 0 none with
  | some k =>
    if again.getD 0 false then s
    else
      let src := s.slotSrc (8 * c) k
      let s := when (s.isSv c && bitAt src 0) (fun t => t.svDelivered (field src 11 8) k) s
      when (bitAt src 0) (fun t => t.trkMod c (fun u => { u with sv := ((k, out.map (·.1)) :: u.sv).take 16 })) s
  | none => s

end Sys2Proof.Machine
end

