-- ==== Sys2Proof/Machine/Phasor.lean ====
section
/-!
DEFINITION. The phasor engine (chapter 07, R227 to R232) and its RAM.
-/
namespace Sys2Proof

/-- round(2^30 × cos(2πj/128)), j = 0 to 32. -/
def cosQuarter : List Int := [
  1073741824, 1072448455, 1068571464, 1062120190, 1053110176, 1041563127, 1027506862, 1010975242,
  992008094, 970651112, 946955747, 920979082, 892783698, 862437520, 830013654, 795590213,
  759250125, 721080937, 681174602, 639627258, 596538995, 552013618, 506158392, 459083786,
  410903207, 361732726, 311690799, 260897982, 209476638, 157550647, 105245103, 52686014,
  0]

/-- round(2^30 × cos(2πj/128)) (R228); for N = 64 and 32 every second and fourth point. -/
def cosPoint (j : Nat) : Int :=
  let j := j % 128
  if j ≤ 32 then cosQuarter.getD j 0
  else if j ≤ 64 then -(cosQuarter.getD (64 - j) 0)
  else if j ≤ 96 then -(cosQuarter.getD (j - 64) 0)
  else cosQuarter.getD (128 - j) 0

/-- The twiddles c_j and s_j of a window of N samples. -/
def twCos (n j : Nat) : Int := cosPoint (j * (128 / n))
def twSin (n j : Nat) : Int := cosPoint (j * (128 / n) + 96)

/-- Σ x_i × f i over a window, oldest first. -/
def winSum (xs : List Int) (f : Nat → Int) : Int :=
  (xs.foldl (fun (p : Int × Nat) x => (p.1 + x * f p.2, p.2 + 1)) (0, 0)).1

/-- num × √k / den as binary32 (den > 0). -/
def scaledRoot (num : Int) (k den : Nat) : Word :=
  (roundSqrt (decide (num < 0)) (num.natAbs * num.natAbs * k) (den * den)).1

/-- The phasor of harmonic h over a window of samples, oldest first, of N per cycle; the factor of h ≥ 1 is √k (R228, R229). -/
def phasorOf (xs : List Int) (n h k : Nat) : Cx :=
  let den := n * 1073741824 * 4096000
  let cs := winSum xs (fun i => twCos n (h * i % n))
  if h = 0 then ((roundRat (decide (cs < 0)) cs.natAbs den).1, 0)
  else
    let ss := winSum xs (fun i => twSin n (h * i % n))
    (scaledRoot cs k den, scaledRoot (-ss) k den)

end Sys2Proof

namespace Sys2Proof.Machine
open Sys2Proof

/-- N_TRK of a cluster as in force (R136). -/
def State.nTrk (s : State) (c : Nat) : Nat := 32 * 2 ^ field (s.eff (Reg.TRK_CFG c)) 5 4

/-- Key of a word of the phasor RAM (R232). -/
def phasorKey (c off : Nat) : Nat := clusterKey c (0x70000 + off)

/-- The status of a window of words with the HOLD flag (R212, R231): [0] INVALID, [1] SATURATED, [2] SETTLING, [3] HOLD. -/
def windowStatus (ws : List Word) (hold : Bool) : Nat :=
  b2n (ws.any (fun w => bitAt w 7)) + 2 * b2n (ws.any (fun w => bitAt w 5)) + 4 * b2n (ws.any (fun w => bitAt w 6)) + 8 * b2n hold

/-- How many ring positions lie after the newest TRK word of lane l: those taken by sets whose word the lane has yet to deliver, because
its delay is longer than another's (log entry 150). -/
def State.trkLag (s : State) (c l : Nat) : Nat :=
  (((s.tracker c).out.filter (fun x => x.pos.isSome)).reverse.takeWhile (fun x => !x.done.testBit l)).length

/-- How many TRK words lane l has had in the running tick. -/
def State.trkGot (s : State) (c l : Nat) : Nat := SMap.get (fun _ => 0) (s.tracker c).got l

/-- The n newest TRK words of a lane, oldest first. -/
def State.trkWindow (s : State) (c l n : Nat) : List Word := (List.range n).map (fun i => s.trkWord c l (s.trkLag c l + (n - 1 - i)))

/-- VALUE of a sample word (R8). -/
def sampleValue (w : Word) : Int := sext 24 (field w 31 8)

/-- Write a phasor at an offset of the RAM. -/
def State.putPhasor (s : State) (c off : Nat) (z : Cx) : State := (s.wrMem c (phasorKey c off) z.1).wrMem c (phasorKey c (off + 4)) z.2

/-- The engine's work for one lane (R227 to R231). -/
def State.phasorLane (s : State) (c l : Nat) : State :=
  let n := s.nTrk c
  let hold := s.bit (Reg.TRK_STAT c) 1
  let full := s.trkWindow c l n
  let half := s.trkWindow c l (n / 2)
  let sf := windowStatus full hold
  let sh := windowStatus half hold
  let xf := full.map sampleValue
  let s := (List.range 64).foldl (fun t h =>
    t.putPhasor c (l * 0x200 + h * 8) (if h < n / 2 ∧ sf % 2 = 0 then phasorOf xf n h 2 else (0, 0))) s
  let s := s.putPhasor c (0x1000 + l * 8) (if sh % 2 = 0 then phasorOf (half.map sampleValue) n 1 8 else (0, 0))
  (s.wrMem c (phasorKey c (0x1040 + l * 4)) (w32 sf)).wrMem c (phasorKey c (0x1060 + l * 4)) (w32 sh)

/-- PHASOR_COMPUTE: all eight lanes and the words common to them (R232). -/
def State.phasors (s : State) (c : Nat) : State :=
  let n := s.nTrk c
  let s := s.winSeen c ((List.range 8).flatMap (fun l => (List.range n).map (fun i => s.trkKey c l (s.trkLag c l + i))))
  let s := (List.range 8).foldl (fun t l => t.phasorLane c l) s
  let tagKey (w : Nat) : Nat := winKey c (tagAddr ((s.trkHead c + 257 - w) % 256))
  let s := s.winSeen c [tagKey n, tagKey (n / 2)]
  let s := (s.wrMem c (phasorKey c 0x1080) (s.winWord c (tagKey n))).wrMem c (phasorKey c 0x1084) (s.winWord c (tagKey (n / 2)))
  s.wrMem c (phasorKey c 0x1088) (w32 (n + 256 * b2n (decide (s.trkNew c ≠ 0))))

end Sys2Proof.Machine
end

