-- ==== Sys2Proof/Machine/Claims.lean ====
section
/-!
DEFINITION. Claims (chapter 01, R39 to R48): the run-time claim, release and query made through CLAIM_CMD, what a refusal
reports, and what a resource does when its claim ends.
-/
namespace Sys2Proof.Machine
open Sys2Proof

/-- Whether a resource ID has an entry in the table of R39. -/
def resValid (res : Nat) : Bool :=
  let i := res % 4096
  match res / 4096 with
  | 1 => decide (i < 4)
  | 2 => decide (i < 16)
  | 3 => decide (i < 48)
  | 4 => decide (i < 64)
  | 5 => decide (i < 4)
  | 6 => decide (i < 512)
  | 7 => decide (i < 16)
  | 8 => decide (i < 48)
  | _ => false

/-- Bit n of a pair of registers LO, HI that hold n = 0 to 31 and 32 to 63. -/
def State.pairBit (s : State) (lo n : Nat) : Bool := if n < 32 then s.bit lo n else s.bit (lo + 4) (n - 32)

/-- Set bit n of such a pair. -/
def State.putPair (s : State) (lo n : Nat) (b : Bool) : State :=
  if n < 32 then s.putBit lo n b else s.putBit (lo + 4) (n - 32) b

/-- STATE of trip line n (TL_STAT_n): 0 STOPPED, 1 IDLE, 2 WAIT, 3 ENERGISED, 4 DONE. -/
def State.tlState (s : State) (n : Nat) : Nat := s.fld (Reg.TL_STAT n) 31 29

/-- Whether line n is running: it has been started and not stopped (R281, R282). -/
def State.tlRunning (s : State) (n : Nat) : Bool := s.pairBit Reg.TL_RUN_LO n || decide (s.tlState n ≠ 0)

/-- Whether line n names field channel k as a destination (TL_DST0, TL_DST1). -/
def State.tlDst (s : State) (n k : Nat) : Bool :=
  if k < 32 then s.bit (Reg.TL_DST0 n) k else s.bit (Reg.TL_DST1 n) (k - 32)

/-- Whether line n names channel k as its enabled breaker-open input. -/
def State.tlBo (s : State) (n k : Nat) : Bool :=
  s.bit (Reg.TL_PULSE n) 29 && decide (s.fld (Reg.TL_PULSE n) 27 22 = k)

/-- Whether a running line names channel k as destination or as BO_FIO (R495, R496). -/
def State.fioNamed (s : State) (k : Nat) : Bool :=
  (List.range 64).any (fun n => s.tlRunning n && (s.tlDst n k || s.tlBo n k))

/-- The command of channel k in the command image (R504). -/
def State.fioCmd (s : State) (k : Nat) : Bool := s.pairBit Reg.FIO_CMD_LO k

/-- The bits of FIO_GRP_b that name channel j of a bank: its pair bit and its quad bit (R506). -/
def grpMaskOf (j : Nat) : Word := w32 (2 ^ (j / 2) + 2 ^ (4 + j / 4))

/-- Channel k returns to its reset configuration, its direct drive to 0, and its group is dissolved (R496). -/
def State.fioRelease (s : State) (k : Nat) : State :=
  let g := Reg.FIO_GRP (k / 8)
  let s := s.wr (Reg.FIO_CFG k) (regReset (Reg.FIO_CFG k))
  let s := s.putPair Reg.FIO_DRV_LO k false
  s.wr g (s.rd g &&& ~~~ grpMaskOf (k % 8))

/-- What else happens to a resource when its claim ends by a release: a time I/O pin returns to OFF (R419), a field
channel to its reset values (R496). A number that names no resource changes nothing. -/
def State.released (s : State) (res : Nat) : State :=
  if !resValid res then s
  else if res / 4096 = 1 then (s.put (Reg.TIO_CFG (res % 4096)) 2 0 0).setPin (res % 4096)
    { s.pin (res % 4096) with active := false, edgeAt := none }
  else if res / 4096 = 3 then s.fioRelease (res % 4096)
  else s

/-- Whether a run-time release is refused though its requester owns the resource: a running trip line (R283), or a field
channel in use (R496). -/
def State.releaseBlocked (s : State) (res : Nat) : Bool :=
  let i := res % 4096
  (decide (res / 4096 = 4) && s.tlRunning i) ||
  (decide (res / 4096 = 3) && (s.fioNamed i || s.fioCmd i))

/-- CLAIM_RESULT shows an outcome (R48). -/
def State.claimResult (s : State) (owner status tag : Nat) : State :=
  s.wr Reg.CLAIM_RESULT (w32 (owner * 0x1000000 + status * 0x10000 + tag))

/-- A refused claim or release (R42): CLAIM_DENIED, CLAIM_LAST, the refusal count, interrupt 59 and the record; the
result shows the owner, STATUS denied and the tag of the request (the worked example of chapter 01). -/
def State.claimDenied (s : State) (op : Nat) (r : Req) (res : Nat) : State :=
  let holder := s.owner res
  let last := res * 0x10000 + r.code * 0x100 + holder
  let tag := s.fld Reg.CLAIM_TAG 15 0
  let s := s.claimResult holder 2 tag
  let s := s.putBit Reg.CLAIM_STAT 0 true
  let s := s.wr Reg.CLAIM_LAST (w32 last)
  let s := s.count Reg.CLAIM_DENY_CNT 31 0 1
  (s.irq 59).log 0x130 op last tag

/-- A CLAIM_CMD naming no resource of R39 (R48). -/
def State.claimBadId (s : State) : State := ((s.claimResult 0 3 0).putBit Reg.CLAIM_STAT 1 true).irq 59

/-- The claim operation: the resource goes to the requester when free or already its own run-time claim (R42). -/
def State.claimOp (s : State) (r : Req) (res : Nat) : State :=
  if !resValid res then s.claimBadId
  else
    let tag := s.fld Reg.CLAIM_TAG 15 0
    if s.owner res = 0 ∨ s.owner res = r.code then
      (s.setClaim res { owner := r.code, tag := tag }).claimResult r.code 1 tag
    else s.claimDenied 1 r res

/-- The release operation: by the owner only, and a release of a free resource completes (R43). -/
def State.releaseOp (s : State) (r : Req) (res : Nat) : State :=
  if !resValid res then s.claimBadId
  else if s.owner res = 0 then s.claimResult 0 1 0
  else if s.owner res = r.code ∧ !s.releaseBlocked res then
    ((s.setClaim res Claim.free).released res).claimResult 0 1 0
  else s.claimDenied 2 r res

/-- The query operation (R48). -/
def State.queryOp (s : State) (res : Nat) : State :=
  if !resValid res then s.claimBadId
  else s.claimResult (s.owner res) 1 (s.claim res).tag

/-- CLAIM_CMD with OP = query; the result is for whoever reads CLAIM_RESULT. -/
def execClaimCmdQuery (r : Req) (res : BitVec 16) (s : State) : Host.Outcome State Fault Refusal :=
  s.access r (fun s => s.queryOp res.toNat)

/-- The first resource of a list that another owner holds or that the list names twice (R41). -/
def State.claimCollision (s : State) (owner : Nat) (l : List Nat) : Option Nat :=
  match l with
  | [] => none
  | x :: xs => if (s.owner x ≠ 0 ∧ s.owner x ≠ owner) ∨ x ∈ xs then some x else s.claimCollision owner xs

/-- The end of one claim of an image owner: a resource still held by a running line or a command keeps its configuration and is noted
in `ended`; any other is released at once (R41, R283, R496). A resource that another owner holds is not touched. -/
def State.endClaim (s : State) (owner x : Nat) : State :=
  if s.owner x ≠ owner then s
  else
    let t := s.setClaim x Claim.free
    if s.releaseBlocked x then t.setEnded (t.ended ++ [x]) else t.released x

/-- The end of an image owner's claims on the resources of a list. -/
def State.endClaims (s : State) (owner : Nat) (l : List Nat) : State := l.foldl (fun t x => t.endClaim owner x) s

/-- The resources an owner holds, ascending. -/
def State.ownedBy (s : State) (owner : Nat) : List Nat := (s.claims.filter (fun e => e.2.owner = owner)).map (·.1)

/-- Take resources for an image owner, without tags (R41). -/
def State.takeClaims (s : State) (owner : Nat) : List Nat → State
  | [] => s
  | x :: xs => (s.setClaim x { owner := owner, tag := 0 }).takeClaims owner xs

/-- Field channels whose ended claim is no longer held return to their reset values (R496). -/
def State.settleEnded (s : State) : State :=
  let free := s.ended.filter (fun x => !s.releaseBlocked x)
  (free.foldl (fun t x => if t.owner x = 0 then t.released x else t) s) |> fun t =>
    t.setEnded (t.ended.filter (fun x => !(free.contains x)))

end Sys2Proof.Machine
end

