-- ==== Sys2Proof/Machine/Can.lean ====
section
/-!
DEFINITION. CAN FD controllers (chapter 14): configuration, message objects, queueing, selection and outcome of
transmissions, reception, error states and bus-off.
-/
namespace Sys2Proof

/-- Key of word w of message object m of controller c (R476). -/
def canObj (c m w : Nat) : Nat := 0xA3000000 + c * 0x8000 + m * 0x80 + 4 * w

/-- Key of latched word w of object window b of controller c (R489). -/
def canLatch (c b w : Nat) : Nat := 0xA3100000 + c * 0x1000 + b * 0x80 + 4 * w

/-- Resource ID of object m of controller c (R475). -/
def canRes (c m : Nat) : Nat := 0x6000 + c * 128 + m

/-- The bytes a DLC code stands for in classical and FD frames (R476). -/
def dlcBytes (fdf : Bool) (dlc : Nat) : Nat :=
  if dlc ≤ 8 then dlc
  else if !fdf then 8
  else if dlc ≤ 12 then 12 + 4 * (dlc - 9) else 32 + 16 * (dlc - 13)

/-- The object window of a requester (R489). -/
def Req.window (r : Req) : Nat := if r.isHost then 1 else 0

/-- The FAIL cause of a lost transmission (R476): arbitration 1, ACK 3, any other error 2. -/
def CanErr.fail : CanErr → Nat
  | .arb => 1
  | .ack => 3
  | _ => 2

/-- The identifier a frame stores: a base frame has no extension. -/
def CanFrame.ident (f : CanFrame) : Nat := if f.ide then f.id.toNat else f.id.toNat / 262144 * 262144

end Sys2Proof

namespace Sys2Proof.Machine
open Sys2Proof

/-! ### Registers, flags, records -/

/-- STATE of CAN_STAT: 0 INIT, 1 error-active, 2 error-passive, 3 bus-off, 4 recovering. -/
def State.canState (s : State) (c : Nat) : Nat := s.fld (Reg.CAN_STAT c) 31 29

/-- Whether the controller is bus-off or recovering. -/
def State.canOff (s : State) (c : Nat) : Bool := decide (3 ≤ s.canState c)

/-- Whether the controller is in restricted operation (ROM), or forced into it by the sapwood role or its remainder after a takeover: TEC
and REC stand still (R490). PRESUMED from ISO 11898-1. -/
def State.canFrozen (s : State) (c : Nat) : Bool := s.bit (Reg.CAN_CTRL c) 27 || s.bit (Reg.CAN_STAT c) 27 || s.sapwood

/-- Whether the controller sends no data or remote frame: bus monitoring or restricted operation (R490). -/
def State.canSilent (s : State) (c : Nat) : Bool := s.bit (Reg.CAN_CTRL c) 28 || s.canFrozen c

/-- Whether another node's frame is on the bus now: no command says so, so it is free (log entry 193). -/
def State.canBusBusy (s : State) (c : Nat) : Bool := Config.canBusy c s.tb.cnt

/-- The bus idle point: restricted operation left by a takeover ends (R490). -/
def State.canIdle (s : State) (c : Nat) : State := when (!s.sapwood) (fun t => t.putBit (Reg.CAN_STAT c) 27 false) s

/-- A bit of CAN_ISTAT is set; CAN_IEN lets it raise the interrupt (R491). -/
def State.canFlag (s : State) (c i : Nat) : State :=
  let s := s.putBit (Reg.CAN_ISTAT c) i true
  if s.bit (Reg.CAN_IEN c) i then s.irq (20 + c) else s

/-- A record of the controller: it raises interrupt 20 + c (R492). -/
def State.canLog (s : State) (c code p0 p1 : Nat) : State := (s.irq (20 + c)).log code c p0 p1

/-- A discarded write or command (R474, R489): CFG_DENY and CAN_CFG_DENY with the offset in the block. -/
def State.canDeny (s : State) (c off cause : Nat) : State := (s.canFlag c 7).canLog c 0x1E3 off cause

/-- A discarded write for which R492 lists no cause: the record's cause is a free value. -/
def State.canDenyFree (s : State) (c off : Nat) : State := s.canDeny c off (Config.canDenyCause c off)

/-- The CAN_STATE record of a change of error state. -/
def State.canLogState (s : State) (c : Nat) : State :=
  s.canLog c 0x1E0 (s.canState c) (s.fld (Reg.CAN_ERR c) 8 0 * 65536 + s.fld (Reg.CAN_ERR c) 23 16)

/-! ### Objects -/

/-- State of a transmit object (R477); the word of a receive object holds 0 there. -/
def State.objState (s : State) (c m : Nat) : Nat := s.fld (canObj c m 3) 31 29

/-- Put an object into a state; CAN_PEND shows PENDING, IN_TX and PENDING_BUSOFF. -/
def State.setObj (s : State) (c m st : Nat) : State :=
  (s.put (canObj c m 3) 31 29 st).putBit (Reg.CAN_PEND c (m / 32)) (m % 32) (decide (st = 1 ∨ st = 2 ∨ st = 6))

/-- Set or clear NEW, as CAN_NEW shows it. -/
def State.setNew (s : State) (c m : Nat) (b : Bool) : State :=
  (s.putBit (canObj c m 3) 27 b).putBit (Reg.CAN_NEW c (m / 32)) (m % 32) b

/-- Objects of a controller in a given state. -/
def State.objsIn (s : State) (c st : Nat) : List Nat := idxWhere 128 (fun m => decide (s.objState c m = st))

/-- Move every object of one state to another. -/
def State.moveObjs (s : State) (c a b : Nat) : State := (s.objsIn c a).foldl (fun t m => t.setObj c m b) s

/-- A queue request of object m (R478, R490). -/
def State.canQueue (s : State) (c m : Nat) : State :=
  if s.sapwood then s.count (Reg.CAN_ECNT2 c) 7 0 1
  else if !(s.bit (canObj c m 0) 31 && s.bit (canObj c m 0) 30) then s
  else
    let s := s.putBit (canObj c m 3) 28 false
    match s.objState c m with
    | 1 => s
    | 6 => s
    | 2 => s.setCan c { s.can c with requeue := true }
    | _ => s.setObj c m (if s.canOff c then 6 else 1)

/-- Write a data word of an object; an object in IN_TX holds it until the frame ends (R479). -/
def State.objData (s : State) (c m w : Nat) (v : Word) : State :=
  if (s.can c).cur = some m then s.setCan c { s.can c with held := (s.can c).held ++ [(w, v)] }
  else s.wr (canObj c m w) v

/-- The key by which the arbitration fields of two objects compare: lower wins (R480). -/
def State.objKey (s : State) (c m : Nat) : Nat :=
  let w := canObj c m 0
  let ide := s.bit w 29
  let rtr := s.bit w 26
  let id := s.fld (canObj c m 1) 28 0
  id / 262144 * 2097152 + b2n (ide || rtr) * 1048576 + b2n ide * 524288 +
    (if ide then id % 262144 * 2 + b2n rtr else 0)

/-- The PENDING object that wins: the least key, then the lower number (R480). -/
def State.canWinner (s : State) (c : Nat) : Option Nat :=
  (s.objsIn c 1).foldl (fun b m =>
    match b with
    | none => some m
    | some x => if s.objKey c m < s.objKey c x then some m else some x) none

/-- The first n data bytes of an object. -/
def State.objBytes (s : State) (c m n : Nat) : Bytes :=
  (List.range n).map (fun i => BitVec.ofNat 8 (s.fld (canObj c m (8 + i / 4)) (8 * (i % 4) + 7) (8 * (i % 4))))

/-- The frame an object sends with its present content (R479); an error-passive node sends ESI recessive. -/
def State.objFrame (s : State) (c m : Nat) : CanFrame :=
  let w := canObj c m 0
  let dlc := s.fld w 3 0
  let fdf := s.bit w 28
  let id := s.fld (canObj c m 1) 28 0
  { ide := s.bit w 29, fdf := fdf, brs := fdf && s.bit w 27, esi := fdf && decide (s.canState c = 2),
    rtr := !fdf && s.bit w 26, id := BitVec.ofNat 29 (if s.bit w 29 then id else id / 262144 * 262144),
    dlc := Fin.ofNat 16 dlc, data := if s.bit w 26 && !fdf then [] else s.objBytes c m (dlcBytes fdf dlc) }

/-- W3 [11:0] of the last frame of an object (R476). -/
def State.objFormat (s : State) (c m : Nat) (f : CanFrame) : State :=
  s.put (canObj c m 3) 11 0
    (b2n f.ide * 2048 + b2n f.fdf * 1024 + b2n f.brs * 512 + b2n f.esi * 256 + f.dlc.val)

/-- W4 to W6: the SOF's time less CAN_TSADJ, with time quality and epoch (R476, R486). -/
def State.objStamp (s : State) (c m sec ns : Nat) : State :=
  let t := ((sec * 1000000000 + ns : Nat) : Int) - sext 16 (s.fld (Reg.CAN_TSADJ c) 15 0)
  let (sc, n) := splitNs t.toNat
  let s := s.wr (canObj c m 4) (w32 (s.tq * 1073741824 + n))
  let s := s.wr (canObj c m 5) (w32 sc)
  s.wr (canObj c m 6) (w32 (s.epoch * 16777216 + sc / 4294967296 % 65536))

/-! ### Error counters and states (R487) -/

/-- The first error of each kind counts in CAN_ECNT and CAN_ECNT2 (R491). -/
def State.canErrCount (s : State) (c : Nat) (why : CanErr) : State :=
  match why with
  | .bit => s.count (Reg.CAN_ECNT c) 31 24 1
  | .stuff => s.count (Reg.CAN_ECNT c) 23 16 1
  | .form => s.count (Reg.CAN_ECNT c) 15 8 1
  | .crc => s.count (Reg.CAN_ECNT c) 7 0 1
  | .ack => s.count (Reg.CAN_ECNT2 c) 31 24 1
  | .pxe => (s.count (Reg.CAN_ECNT2 c) 23 16 1).canFlag c 5
  | .arb => s

/-- A failed transmission of an object: TX_FAIL with its cause, TX_EVT and CAN_TX_FAIL (R481, R487). -/
def State.objFail (s : State) (c m cause : Nat) : State :=
  let s := (s.setObj c m 4).put (canObj c m 3) 23 21 cause
  let s := s.setCan c { s.can c with failAt := SMap.set (fun _ => 0) (s.can c).failAt m (s.tb.cnt + 1) }
  (s.canFlag c 1).canLog c 0x1E1 m cause

/-- The frame on the bus has ended for its object: held writes land, TX_BUSY falls (R479). -/
def State.canEndFrame (s : State) (c : Nat) : State :=
  let u := s.can c
  let s : State := match u.cur with
    | some m => u.held.foldl (fun t h => t.wr (canObj c m h.1) h.2) s
    | none => s
  (s.setCan c { u with cur := none, out := none, cancel := false, requeue := false, held := [] }).putBit (Reg.CAN_STAT c) 26 false

/-- Whether object m is sent only once (R481). -/
def State.objOneShot (s : State) (c m : Nat) : Bool := s.bit (canObj c m 0) 25 || s.bit (Reg.CAN_CTRL c) 26

/-- The error state follows the counters: WARN, error-passive, bus-off (R487). Bus-off ends a request of INIT that waits (R488, log entry
193). -/
def State.canJudge (s : State) (c : Nat) : State :=
  let tec := s.fld (Reg.CAN_ERR c) 8 0
  let rec_ := s.fld (Reg.CAN_ERR c) 23 16
  let warn := decide (96 ≤ tec ∨ 96 ≤ rec_)
  let was := s.bit (Reg.CAN_STAT c) 28
  let s := s.putBit (Reg.CAN_STAT c) 28 warn
  let s := if warn && !was then s.canFlag c 2 else s
  let old := s.canState c
  let new := if tec > 255 then 3 else if 128 ≤ tec ∨ 128 ≤ rec_ then 2 else 1
  if (old = 1 ∨ old = 2) ∧ new ≠ old then
    let s := s.put (Reg.CAN_STAT c) 31 29 new
    let s := if new = 2 then s.canFlag c 3 else if new = 3 then s.canFlag c 4 else s
    let s := if new = 3 then s.setCan c { s.can c with offAt := s.tb.cnt + 1, initReq := false } else s
    (if new = 3 then s.moveObjs c 1 6 else s).canLogState c
  else s

/-- TEC changes, up to the largest value its field holds. -/
def State.tecAdd (s : State) (c n : Nat) : State := if s.canFrozen c then s else s.count (Reg.CAN_ERR c) 8 0 n

/-- REC changes, saturating at 255. -/
def State.recAdd (s : State) (c n : Nat) : State := if s.canFrozen c then s else s.count (Reg.CAN_ERR c) 23 16 n

/-- A successful reception lowers REC (ISO 11898-1): from above 127 to a value between 119 and 127. -/
def State.recDown (s : State) (c : Nat) : State :=
  let r := s.fld (Reg.CAN_ERR c) 23 16
  if s.canFrozen c then s
  else if r > 127 then (s.put (Reg.CAN_ERR c) 23 16 (119 + Config.canRecBack s.freeCtr % 9)).drew
  else s.put (Reg.CAN_ERR c) 23 16 (r - 1)

/-! ### INIT and bit timing (R472, R474) -/

/-- The mode bits that only INIT = 1 lets change: FD_EN, TDC_EN, MON, ROM, PXHD. -/
def canModeBits : Word := 0x7A000000

/-- Nominal bit time in periods of f_CAN (R472). -/
def State.canBit (s : State) (c : Nat) : Nat :=
  (s.fld (Reg.CAN_NBT c) 7 0 + 1) * (3 + s.fld (Reg.CAN_NBT c) 17 10 + s.fld (Reg.CAN_NBT c) 24 18)

/-- Whether the bit timing lets INIT be left (R472). -/
def State.canTimingOk (s : State) (c : Nat) : Bool :=
  let n := Reg.CAN_NBT c
  let d := Reg.CAN_DBT c
  let nt := s.canBit c
  let dt := (s.fld d 4 0 + 1) * (3 + s.fld d 12 8 + s.fld d 19 16)
  decide (80 ≤ nt) && decide (10 ≤ dt) && decide (dt ≤ nt) && decide (1 ≤ s.fld n 17 10) &&
    decide (s.fld n 31 25 ≤ s.fld n 24 18) && decide (s.fld d 23 20 ≤ s.fld d 19 16)

/-- INIT takes effect: counters 0, no transmission, objects as they stand (R474). -/
def State.canInitNow (s : State) (c : Nat) : State :=
  let s := s.putBit (Reg.CAN_CTRL c) 31 true
  let s := s.wr (Reg.CAN_ERR c) 0
  let s := (s.put (Reg.CAN_STAT c) 31 28 0)
  s.setCan c { s.can c with initReq := false, integ := false, mine := false }

/-- A write of CAN_CTRL (R474). INIT = 1 waits while a frame of this or of another node is on the bus; CAN_CTRL shows it at once, and a
write of INIT = 0 before takes it back (R5, log entry 193). -/
def State.canCtrlWrite (s : State) (c : Nat) (v : Word) : State :=
  let k := Reg.CAN_CTRL c
  let old := s.rd k
  if bitAt old 31 then
    let s := s.wr k ((v &&& 0x7E000000) ||| 0x80000000)
    if bitAt v 31 then s
    else if s.canTimingOk c then s.putBit k 31 false
    else s.canDeny c 0 2
  else if (old ^^^ v) &&& canModeBits ≠ 0 then s.canDeny c 0 3
  else if bitAt v 31 && s.canOff c then s.canDenyFree c 0
  else
    let s := s.putBit k 26 (bitAt v 26)
    let wait := bitAt v 31 && ((s.can c).cur.isSome || s.canBusBusy c)
    if bitAt v 31 && !wait then s.canInitNow c else s.setCan c { s.can c with initReq := wait }

/-- CAN_INIT_SET: a write of CAN_CTRL with INIT = 1. -/
def execCanInitSet (r : Req) (c : Fin 4) (v : Word) (s : State) : Host.Outcome State Fault Refusal :=
  s.access r (fun s => s.canCtrlWrite c.val (v ||| 0x80000000))

/-- CAN_INIT_CLEAR: a write of CAN_CTRL with INIT = 0. -/
def execCanInitClear (r : Req) (c : Fin 4) (v : Word) (s : State) : Host.Outcome State Fault Refusal :=
  s.access r (fun s => s.canCtrlWrite c.val (v &&& 0x7FFFFFFF))

/-- CAN_INIT_APPLY: the requested INIT takes effect at the end of the frame on the bus. -/
def State.canInitApply (s : State) (c : Nat) : State :=
  if (s.can c).initReq && (s.can c).cur.isNone then s.canInitNow c else s

def execCanInitApply (c : Fin 4) (s : State) : Host.Outcome State Fault Refusal := .next (s.canInitApply c.val)

/-- CAN_BUS_JOIN: 11 consecutive recessive bits after INIT = 0, where the controller becomes error-active (R474), or after a protocol
exception (R471). -/
def State.canJoin (s : State) (c : Nat) : State :=
  let s := when (s.can c).integ (fun t => t.setCan c { t.can c with integ := false }) s
  if s.canState c = 0 ∧ !s.bit (Reg.CAN_CTRL c) 31 then s.put (Reg.CAN_STAT c) 31 29 1 else s

def execCanBusJoin (c : Fin 4) (s : State) : Host.Outcome State Fault Refusal := .next (s.canJoin c.val)

/-- A write of CAN_NBT, CAN_DBT or CAN_TDC: only while INIT = 1 (R474). -/
def State.canTimingWrite (s : State) (c off : Nat) (v : Word) : State :=
  if s.bit (Reg.CAN_CTRL c) 31 then s.regWrite (0x24000 + 0x4000 * c + off) v else s.canDeny c off 3

/-! ### Object windows and commands (R475, R483, R489) -/

/-- The object window w of controller c has selected. -/
def State.canSel (s : State) (c b : Nat) : Nat := s.fld (Reg.CAN_OSEL c b) 6 0

/-- Whether a requester may configure or command object m (R475, R280). -/
def State.canMay (s : State) (r : Req) (c m : Nat) : Bool := s.mayWrite280 r (canRes c m)

/-- Cancel object m (R483). -/
def State.canCancel (s : State) (c m : Nat) (sofPassed : Bool) : State :=
  match s.objState c m with
  | 1 => s.setObj c m 5
  | 6 => s.setObj c m 5
  | 2 =>
    if sofPassed then s.setCan c { s.can c with cancel := true, requeue := false }
    else (s.canEndFrame c).setObj c m 5
  | _ => s

/-- An object command through window b (R489): OP 1 QUEUE, 2 CANCEL, 3 CLEAR_NEW. -/
def State.canOcmd (s : State) (r : Req) (c b op : Nat) (sofPassed : Bool) : State :=
  let m := s.canSel c b
  if op = 0 ∨ 3 < op then s
  else if !s.canMay r c m then s.canDeny c (0x104 + 0x80 * b) 1
  else if op = 1 then s.canQueue c m
  else if op = 2 then s.canCancel c m sofPassed
  else (s.setNew c m false).putBit (canObj c m 3) 26 false

def execCanOcmdQueue (r : Req) (c : Fin 4) (s : State) : Host.Outcome State Fault Refusal :=
  s.access r (fun s => s.canOcmd r c.val r.window 1 false)

def execCanOcmdCancel (r : Req) (c : Fin 4) (sofPassed : Bool) (s : State) : Host.Outcome State Fault Refusal :=
  s.access r (fun s => s.canOcmd r c.val r.window 2 sofPassed)

def execCanOcmdClearNew (r : Req) (c : Fin 4) (s : State) : Host.Outcome State Fault Refusal :=
  s.access r (fun s => s.canOcmd r c.val r.window 3 false)

/-- A write of word w of the object in window b (R475, R476, R479). W3 to W7 are read-only; an object made a receive object is in state 0
(R477). -/
def State.canOwinWrite (s : State) (r : Req) (c b w : Nat) (v : Word) : State :=
  let m := s.canSel c b
  let off := 0x120 + 0x80 * b + 4 * w
  if !s.canMay r c m then s.canDeny c off 1
  else if w ≤ 2 then
    if s.bit (canObj c m 0) 31 && !s.bit (Reg.CAN_CTRL c) 31 then s.canDeny c off 4
    else if w = 0 then
      if bitAt v 31 && bitAt v 28 && (bitAt v 26 || !s.bit (Reg.CAN_CTRL c) 30) then s.canDenyFree c off
      else when (!bitAt v 30) (fun t => t.setObj c m 0) (s.wr (canObj c m 0) (v &&& 0xFF00000F))
    else if w = 1 then s.wr (canObj c m 1) (v &&& 0x1FFFFFFF)
    else s.wr (canObj c m 2) (v &&& 0xDFFFFFFF)
  else if w ≤ 7 then s
  else s.objData c m w v

def execCanOwinWrite (r : Req) (c : Fin 4) (w : Fin 24) (v : Word) (s : State) : Host.Outcome State Fault Refusal :=
  s.access r (fun s => s.canOwinWrite r c.val r.window w.val v)

/-- A read of W3 through window b latches W4 to W23 of the same object (R489). -/
def State.canW3Read (s : State) (r : Req) (c b : Nat) : State :=
  let m := s.canSel c b
  let v := s.rd (canObj c m 3)
  ((List.range 20).foldl (fun t i => t.wr (canLatch c b (4 + i)) (s.rd (canObj c m (4 + i)))) s).answer r v

def execCanOwinW3Read (r : Req) (c : Fin 4) (s : State) : Host.Outcome State Fault Refusal :=
  s.access r (fun s => s.canW3Read r c.val r.window)

/-- Whether a CAN map of the active Lathe image names object m (R476). -/
def State.canMapped (s : State) (c m : Nat) : Bool :=
  match SMap.get (fun _ => none) s.lathe.imgs (s.fld Reg.LTH_STAT 25 25) with
  | some i => (i.tables.rx ++ i.tables.tx).any (fun x => decide (x.ctl = c) && decide (x.obj = m))
  | none => false

/-- What a read of word w through window b returns beside W3: W4 to W23 as latched (R489), MAPPED of W0 as the Lathe's maps stand. -/
def State.canOwin (s : State) (c b w : Nat) : Word :=
  let m := s.canSel c b
  if 4 ≤ w then s.rd (canLatch c b w)
  else if w = 0 then putField (s.rd (canObj c m 0)) 23 23 (b2n (s.canMapped c m))
  else s.rd (canObj c m w)

/-! ### Bus-off recovery (R488) -/

/-- CAN_CMD.OP = BUSOFF_RECOVER. -/
def State.canRecover (s : State) (c : Nat) : State :=
  if s.canState c = 3 then
    ((s.put (Reg.CAN_STAT c) 31 29 4).put (Reg.CAN_STAT c) 7 0 128).setCan c { s.can c with recAt := s.tb.cnt }
  else s.canDeny c 0x28 5

def execCanBusoffRecover (r : Req) (c : Fin 4) (s : State) : Host.Outcome State Fault Refusal :=
  s.access r (fun s => s.canRecover c.val)

/-- RECOVER_LEFT (R488): 128 less the sequences of 11 recessive bits seen, of which there are no more than the time since the recovery
began has room for. How many occur is free (log entry 194); f_CAN has 8 periods in 25 counts. -/
def State.canRecLeft (s : State) (c : Nat) : Nat :=
  128 - min 127 (min (Config.canRuns c s.tb.cnt) ((s.tb.cnt - (s.can c).recAt) * 8 / 25 / (11 * s.canBit c)))

/-- CAN_RECOVERY_DONE: RECOVER_LEFT has reached 0, 128 × 11 nominal bit times after the recovery began at the earliest. -/
def State.canRecovered (s : State) (c : Nat) : State :=
  if s.canState c ≠ 4 then s
  else
    let s := s.reachCnt ((s.can c).recAt + (1408 * s.canBit c * 25 + 7) / 8)
    let s := (s.wr (Reg.CAN_ERR c) 0).put (Reg.CAN_STAT c) 7 0 0
    let s := (s.put (Reg.CAN_STAT c) 31 29 1).putBit (Reg.CAN_STAT c) 28 false
    (s.moveObjs c 6 1).canLogState c

def execCanRecoveryDone (c : Fin 4) (s : State) : Host.Outcome State Fault Refusal := .next (s.canRecovered c.val)

/-! ### Transmission (R480 to R483) -/

/-- Whether the controller takes part in what is on the bus: it has joined, and waits for no bus integration (R471, R474). -/
def State.canLive (s : State) (c : Nat) : Bool := (decide (s.canState c = 1) || decide (s.canState c = 2)) && !(s.can c).integ

/-- CAN_FRAME_SELECT: the intermission has passed, and the winning PENDING object enters IN_TX (R480). A controller that has not joined the
bus, is bus-off, sends nothing in its mode, waits for INIT or already has a frame selects none. -/
def State.canSelect (s : State) (c : Nat) : State :=
  let s := s.canIdle c
  if s.canLive c ∧ !s.canSilent c ∧ (s.can c).cur.isNone ∧ !(s.can c).initReq then
    match s.canWinner c with
    | none => s
    | some m =>
      let s := s.setCan c { s.can c with cur := some m, out := some (s.objFrame c m), cancel := false, requeue := false }
      (s.setObj c m 2).putBit (Reg.CAN_STAT c) 26 true
  else s

def execCanFrameSelect (c : Fin 4) (s : State) : Host.Outcome State Fault Refusal := .next (s.canSelect c.val)

/-- TEC after an error of a transmitter: 8 for the error itself, and 8 for each further error that its flags meet (R487, ISO 11898-1). -/
def State.tecLost (s : State) (c : Nat) (why : CanErr) (x : CanLoss) : State :=
  if why = .arb then s else s.tecAdd c ((if x.noCount then 0 else 8) + 8 * x.more)

/-- TDCV takes the loop delay measured at an FD frame sent with BRS (R473). -/
def State.canTdcv (s : State) (c : Nat) (loop : Option (BitVec 7)) : State :=
  match loop, (s.can c).out with
  | some d, some f => when (f.brs && s.bit (Reg.CAN_CTRL c) 29) (fun t => t.put (Reg.CAN_TDC c) 30 24 d.toNat) s
  | _, _ => s

/-- The transmission of the object in IN_TX is lost (R473, R481, R483, R487). A transmitter detects no protocol exception. Without an object
in IN_TX it is an error in an overload flag behind the controller's own frame, which counts for a transmitter. -/
def State.canLost (s : State) (c : Nat) (why : CanErr) (x : CanLoss) : State :=
  if why = .pxe then s
  else
    match (s.can c).cur with
    | none =>
      if (s.can c).mine && s.canLive c && decide (why ≠ .arb) then ((s.canErrCount c why).tecLost c why x).canJudge c else s
    | some m =>
      let cancel := (s.can c).cancel
      let once := s.objOneShot c m
      let s := (s.canTdcv c x.loop).canErrCount c why
      let s := ((s.tecLost c why x).canEndFrame c).canJudge c
      let s := s.setCan c { s.can c with mine := decide (why ≠ .arb) }
      let off := s.canOff c
      let cause := if off then 4 else why.fail
      if cancel then (s.setObj c m 5).put (canObj c m 3) 23 21 cause
      else if once then s.objFail c m cause
      else s.setObj c m (if s.sapwood then 0 else if off then 6 else 1)

def execCanTxLost (c : Fin 4) (why : CanErr) (noCount : CanLoss) (s : State) : Host.Outcome State Fault Refusal :=
  .next (s.canLost c.val why noCount)

/-- The frame of the object in IN_TX completes (R473, R482, R483): `loop` is the loop delay measured at an FD frame with
BRS. A secondary sample point beyond 127 periods is a bit error. -/
def State.canDone (s : State) (c sec ns loop : Nat) : State :=
  match (s.can c).cur, (s.can c).out with
  | some m, some f =>
    let s := s.reachTime (sec * 1000000000 + ns)
    let tdc := f.brs && s.bit (Reg.CAN_CTRL c) 29
    let s := if tdc then s.put (Reg.CAN_TDC c) 30 24 loop else s
    if tdc && decide (127 < loop + s.fld (Reg.CAN_TDC c) 6 0) then s.canLost c .bit { noCount := false, loop := none, more := 0 }
    else
      let u := s.can c
      let s := if s.canFrozen c then s else s.put (Reg.CAN_ERR c) 8 0 (s.fld (Reg.CAN_ERR c) 8 0 - 1)
      let s := (s.objFormat c m f).objStamp c m sec ns
      let s := (s.putBit (canObj c m 3) 28 u.cancel)
      let s := (s.canEndFrame c).canJudge c
      let s := s.setCan c { s.can c with mine := true }
      (s.setObj c m (if u.requeue && !s.sapwood then 1 else 3)).canFlag c 1
  | _, _ => s

def execCanFrameTxDone (c : Fin 4) (sec : Nat) (ns : Fin 1000000000) (loop : BitVec 7) (s : State) :
    Host.Outcome State Fault Refusal :=
  .next (s.canDone c.val sec ns.val loop.toNat)

/-! ### Reception (R484 to R486) -/

/-- Whether a frame matches receive object m (R484): only identifier bits the frame has are compared. -/
def State.canMatch (s : State) (c m : Nat) (f : CanFrame) : Bool :=
  let w := canObj c m 0
  let k := s.rd (canObj c m 2)
  let bits : BitVec 29 := if f.ide then 0x1FFFFFFF else 0x1FFC0000
  s.bit w 31 && !s.bit w 30 &&
    decide ((f.id ^^^ BitVec.ofNat 29 (s.rd (canObj c m 1)).toNat) &&& BitVec.ofNat 29 k.toNat &&& bits = 0) &&
    (!bitAt k 31 || s.bit w 29 == f.ide) && (!bitAt k 30 || s.bit w 28 == f.fdf)

/-- The object that takes a frame: the lowest matching one that is free to take it (R484). -/
def State.canTaker (s : State) (c : Nat) (f : CanFrame) : Option Nat :=
  (List.range 128).find? (fun m => s.canMatch c m f && !(s.bit (canObj c m 3) 27 && s.bit (canObj c m 0) 24))

/-- Store a frame in object m (R485). -/
def State.canStore (s : State) (c m : Nat) (f : CanFrame) (sec ns : Nat) : State :=
  let n := if f.rtr && !f.fdf then 0 else dlcBytes f.fdf f.dlc.val
  let s := if s.bit (canObj c m 3) 27 then s.putBit (canObj c m 3) 26 true else s
  let s := (s.objFormat c m f).objStamp c m sec ns
  let s := s.wr (canObj c m 7) (w32 f.ident)
  let s := (List.range ((n + 3) / 4)).foldl (fun t i => t.wr (canObj c m (8 + i)) (leWord (((f.data.take n).drop (4 * i)).take 4))) s
  let s := s.setCan c { s.can c with rxAt := SMap.set (fun _ => 0) (s.can c).rxAt m (s.tb.cnt + 1) }
  (s.setNew c m true).canFlag c 0

/-- A frame that no object takes (R484). -/
def State.canRxLost (s : State) (c : Nat) (f : CanFrame) : State :=
  let s := (s.count (Reg.CAN_ECNT2 c) 15 8 1).canFlag c 6
  s.canLog c 0x1E2 f.ident (b2n f.ide * 2147483648 + b2n f.fdf * 1073741824 + f.dlc.val)

/-- An error of a receiver counts in REC (R487, ISO 11898-1). -/
def State.recError (s : State) (c : Nat) (why : CanErr) (heavy : Bool) : State :=
  ((s.canErrCount c why).recAdd c (if heavy then 8 else 1)).canJudge c

/-- A receive error (R487). A recessive res bit is a form error when PXHD = 1; else it is a protocol exception, which counts as such only, and
after which the controller waits for 11 recessive bits (R471). -/
def State.canRxError (s : State) (c : Nat) (why : CanErr) (heavy : Bool) : State :=
  if !s.canLive c ∨ (s.can c).cur.isSome then s
  else
    let s := s.setCan c { s.can c with mine := false }
    match why with
    | .arb => s
    | .ack => s
    | .pxe =>
      if s.bit (Reg.CAN_CTRL c) 25 then s.recError c .form heavy
      else (s.setCan c { s.can c with integ := true }).canErrCount c .pxe
    | w => s.recError c w heavy

def execCanRxBusError (c : Fin 4) (why : CanErr) (heavy : Bool) (s : State) : Host.Outcome State Fault Refusal :=
  .next (s.canRxError c.val why heavy)

/-- A frame ends on the bus without error (R471, R484, R485). An FD frame that FD_EN does not admit is a form error, or a
protocol exception where those are handled. -/
def State.canRx (s : State) (c : Nat) (f : CanFrame) (sec ns : Nat) : State :=
  if !s.canLive c ∨ (s.can c).cur.isSome then s
  else
    let s := s.reachTime (sec * 1000000000 + ns)
    if f.fdf && !s.bit (Reg.CAN_CTRL c) 30 then s.canRxError c .pxe false
    else
      let s := ((s.setCan c { s.can c with mine := false }).recDown c).canJudge c
      match s.canTaker c f with
      | some m => s.canStore c m f sec ns
      | none => s.canRxLost c f

def execCanFrameRx (c : Fin 4) (f : CanFrame) (sec : Nat) (ns : Fin 1000000000) (s : State) :
    Host.Outcome State Fault Refusal :=
  .next (s.canRx c.val f sec ns.val)

/-! ### Plain register writes of a controller's block -/

/-- A write at an offset of the block of CAN_c. -/
def State.canBlockWrite (s : State) (r : Req) (c off : Nat) (v : Word) : State :=
  let a := 0x24000 + 0x4000 * c + off
  if off = 0 then s.canCtrlWrite c v
  else if off = 0x8 ∨ off = 0xC ∨ off = 0x10 then s.canTimingWrite c off v
  else if off = 0x28 then if field v 31 28 = 1 then s.canRecover c else s
  else if off < 0x100 then s.regWrite a v
  else
    let b := (off - 0x100) / 0x80
    let o := (off - 0x100) % 0x80
    if o = 4 then (s.canOcmd r c b (field v 31 28) (Config.canSofPassed s.freeCtr)).drew
    else if o < 0x20 then s.regWrite a v
    else s.canOwinWrite r c b ((o - 0x20) / 4) v

/-- The role of the package changes (R490): in the sapwood CAN_STAT.SAPWOOD is set and no object stays pending, since a takeover starts with
the requests made from then on; at a takeover restricted operation ends at once on an idle bus, else at the next idle point. -/
def State.canRole (s : State) : State :=
  (List.range 4).foldl (fun t c =>
    if t.sapwood then ((t.putBit (Reg.CAN_STAT c) 27 true).moveObjs c 1 0).moveObjs c 6 0
    else when (!t.canBusBusy c) (fun u => u.canIdle c) t) s

/-- What CAN_CTRL shows: INIT as last written, while it waits too (R5). -/
def State.canCtrl (s : State) (c : Nat) : Word := s.rd (Reg.CAN_CTRL c) ||| (if (s.can c).initReq then 0x80000000 else 0)

/-- What CAN_STAT shows: RECOVER_LEFT as it counts down (R488), and RX_BUSY while the controller takes part and another node's frame is on the
bus. -/
def State.canStat (s : State) (c : Nat) : Word :=
  let v := s.rd (Reg.CAN_STAT c)
  let v := putField v 25 25 (b2n (s.canLive c && (s.can c).cur.isNone && s.canBusBusy c))
  if s.canState c = 4 then putField v 7 0 (s.canRecLeft c) else v

end Sys2Proof.Machine
end

