-- ==== Sys2Proof/Machine/Links.lean ====
section
/-!
DEFINITION. Die-to-die links and MRAM accesses (chapter 01): AFL frames and what a discard or a return to up does, the
declaration of down, the controller's refusal of writes, and the end of an MPL transfer.
-/
namespace Sys2Proof

/-- The modulator history kept: more than the largest filter support (R121). -/
def histMax : Nat := 262144

/-- Append one period to a lane: its two bits, the coarse one replaced while the overload stretch lasts (R92). -/
def Lane.addBit (l : Lane) (coarse fine missing : Bool) : Lane :=
  match l.ovlLeft with
  | some (p, n + 1) =>
    { l with bits := ({ coarse := p, fine := fine, missing := missing, covl := true } :: l.bits).take histMax,
             per := l.per + 1, ovlLeft := if n = 0 then none else some (p, n) }
  | _ =>
    { l with bits := ({ coarse := coarse, fine := fine, missing := missing, covl := false } :: l.bits).take histMax,
             per := l.per + 1, ovlLeft := none }

/-- Append the sixteen periods of a frame's two words for a lane, bit 0 first. -/
def Lane.addFrame (l : Lane) (wc wf : BitVec 16) : Lane :=
  (List.range 16).foldl (fun x i => x.addBit (wc.getLsbD i) (wf.getLsbD i) false) l

/-- Append sixteen lost periods (R17): their bits have no value of the manual's. -/
def Lane.addLost (l : Lane) (ch : Nat) : Lane :=
  (List.range 16).foldl (fun x _ => x.addBit (Config.lostBit ch x.per false) (Config.lostBit ch x.per true) true) l

end Sys2Proof

namespace Sys2Proof.Machine
open Sys2Proof

/-- The interrupt of a link (R22): AFL_0 sources 16 and 17, AFL_1 18 and 19, MPL 47, FLK 40. -/
def State.linkIrq (s : State) (n : Nat) : State :=
  if n = 0 then (s.irq 16).irq 17 else if n = 1 then (s.irq 18).irq 19 else if n = 10 then s.irq 40 else s.irq 47

/-- Whether a link is up (DLK_STAT). -/
def State.linkUp (s : State) (n : Nat) : Bool := s.bit Reg.DLK_STAT n

/-- A discard or failed transfer of a link that is up (R15, R22): count, ERR, interrupt and record. -/
def State.linkDiscard (s : State) (n : Nat) (crc : Bool) : State :=
  let s := if crc then s.count (Reg.DLK_ERRCNT n) 15 0 1 else s.count (Reg.DLK_ERRCNT n) 31 16 1
  let s := (s.putBit Reg.DLK_STAT (16 + n) true).linkIrq n
  (s.log 0x110 n (s.rd (Reg.DLK_ERRCNT n)).toNat 0).setLink n { s.link n with consec := (s.link n).consec + 1 }

/-- A link is declared down (R16, R22). -/
def State.linkDown (s : State) (n : Nat) : State :=
  let s := (s.putBit Reg.DLK_STAT n false).linkIrq n
  (s.log 0x111 n 0 0).setLink n { s.link n with downAt := s.tb.cnt }

/-- A link returns to up with the sequence number of its first good frame (R22); parameter 0 is the time down in µs. -/
def State.linkReturn (s : State) (n seq : Nat) : State :=
  let us := satTo 4294967295 ((s.tb.cnt - (s.link n).downAt) / 250)
  let s := (s.putBit Reg.DLK_STAT n true).linkIrq n
  (s.log 0x112 n us 0).setLink n { s.link n with seq := (seq + 1) % 256, consec := 0 }

/-- Apply a change to the 64 lanes of an AFE die, channel j of the die with its lane's state. -/
def State.dieLanes (s : State) (die : Nat) (f : Nat → State → State) : State :=
  (List.range 64).foldl (fun t j => f (64 * die + j) t) s

/-- The sixteen periods of an accepted frame reach the die's lanes: word 2j is the coarse modulator of the die's channel
j, word 2j + 1 its fine one. -/
def State.takeFrame (s : State) (die : Nat) (bits : List (BitVec 16)) : State :=
  s.dieLanes die (fun ch t => t.laneMod ch (fun l => l.addFrame (bits.getD (2 * (ch % 64)) 0) (bits.getD (2 * (ch % 64) + 1) 0)))

/-- The sixteen periods of a lost frame (R17). -/
def State.loseFrame (s : State) (die : Nat) : State := s.dieLanes die (fun ch t => t.laneMod ch (fun l => l.addLost ch))

/-- The lanes of a die are aligned to the present time: the first period of the next frame is the one due now, rounded down (R80, log
entry 177). -/
def State.alignDie (s : State) (die : Nat) : State := s.dieLanes die (fun ch t => t.loseLane ch)

/-- The number expected after a frame that was checked (log entry 140): one more than the number expected where the CRC failed, one
more than the number received otherwise. -/
def nextSeq (expected seq : Nat) (crcOk : Bool) : Nat := ((if crcOk then seq else expected) + 1) % 256

/-- An AFL frame arrives (R15 to R18, R22); what number is expected after a discard is the model's choice (log entry 140). -/
def State.aflFrame (s : State) (die seq : Nat) (crcOk : Bool) (bits : List (BitVec 16)) : State :=
  let k := s.link die
  if s.linkUp die then
    let t := s.setLink die { k with seq := nextSeq k.seq seq crcOk }
    if !crcOk then (t.linkDiscard die true).loseFrame die
    else if seq ≠ k.seq then (t.linkDiscard die false).loseFrame die
    else (t.setLink die { t.link die with consec := 0 }).takeFrame die bits
  else if !crcOk then s
  else
    let s := (s.linkReturn die seq).alignDie die
    (s.takeFrame die bits).dieLanes die (fun ch t => t.requestChain ch 4)

/-- AFL_FRAME from an AFE die. -/
def execAflFrame (die : Fin 2) (seq : BitVec 8) (crcOk : Bool) (bits : List (BitVec 16)) (s : State) :
    Host.Outcome State Fault Refusal :=
  .next (s.aflFrame die.val seq.toNat crcOk bits)

/-- DIE_LINK_DOWN: an AFL link that has discarded four frames in a row is declared down (R16, R18). -/
def execDieLinkDown (die : Fin 2) (s : State) : Host.Outcome State Fault Refusal :=
  .next (if s.linkUp die.val ∧ 4 ≤ (s.link die.val).consec then s.linkDown die.val else s)

/-! ### MRAM -/

/-- A requester's number for the indirect interface that made an access. -/
def State.viaError (s : State) (via : Option Req) (cause : Nat) : State :=
  match via with
  | some r => s.indFail r cause
  | none => s

/-- An MRAM access (R37, R38): a read delivers, a write by the range's writer stores the bytes, any other write is refused
with interrupt 47, its record and the error of the interface it came through. A write that reaches beyond the writer's range is
refused whole. The bytes stand in the MRAM from the request on, and stay there when the transfer and its repeat both fail (log entry
175). -/
def State.mramAccess (s : State) (fn : MUser) (via : Option Req) (write : Bool) (addr len : Nat) (data : Bytes) : State :=
  let s := s.setMramErr (s.mramErr.filter (fun u => decide (u ≠ fn)))
  if !write then s.setMramOut (s.mbs len addr)
  else if (List.range len).all (fun i => mramWriter fn (addr + i)) then s.mwr addr (data.take len)
  else (s.mramDenied fn addr).viaError via 3

/-- MRAM_ACCESS_REQUEST by a function, through an indirect interface or its own port. -/
def execMramAccessRequest (fn : MUser) (via : Option Req) (write : Bool) (addr : BitVec 26) (len : Fin 65) (data : Bytes)
    (s : State) : Host.Outcome State Fault Refusal :=
  .next (s.mramAccess fn via write addr.toNat len.val data)

/-- One attempt of a transfer on link n (R15, R16, R21, R22): whether it passes, with the link's next expected number, and a discard
counted as what it is while the link is up. A link that is down takes any number. -/
def State.mplTry (s : State) (n : Nat) (f : RxFrame) : State × Bool :=
  let k := s.link n
  if s.linkUp n then
    let s := s.setLink n { k with seq := nextSeq k.seq f.seq.toNat f.crcOk }
    if f.crcOk ∧ f.seq.toNat = k.seq then (s.setLink n { s.link n with consec := 0 }, true) else (s.linkDiscard n (!f.crcOk), false)
  else if f.crcOk then (s.linkReturn n f.seq.toNat, true) else (s, false)

/-- MPL_TRANSFER_END on bank b (R21, R22): the transfer's frame and, for when that fails its check, its repeat's. When the repeat fails
too, the access ends with an error to its function, interrupt 47, and the link is declared down. -/
def State.mplEnd (s : State) (b : Nat) (fn : MUser) (first second : RxFrame) : State :=
  let n := 2 + b
  let was := s.linkUp n
  let (s, ok1) := s.mplTry n first
  if ok1 then s
  else
    let (s, ok2) := s.mplTry n second
    if ok2 then s
    else
      let s := (s.irq 47).setMramErr (fn :: s.mramErr.filter (fun u => decide (u ≠ fn)))
      if was then s.linkDown n else s

def execMplTransferEnd (bank : Fin 8) (fn : MUser) (first second : RxFrame) (s : State) : Host.Outcome State Fault Refusal :=
  .next (s.mplEnd bank.val fn first second)

end Sys2Proof.Machine
end

