-- ==== Sys2Proof/Machine/Fio.lean ====
section
/-!
DEFINITION. The 24 V field channels (chapter 15) but for what moves a trip line: commands and drives, configuration, groups,
read-back faults, supplies, the edge log and pulse counts.
-/
namespace Sys2Proof

/-- Bit k of a set of channels replaced. -/
def chSet (v : BitVec 48) (k : Nat) (b : Bool) : BitVec 48 :=
  let m := BitVec.ofNat 48 (2 ^ k)
  if b then v ||| m else v &&& ~~~ m

/-- Key of word w of the Lathe's output image as committed or forced (R294, R298): field outputs in words 0 and 1. -/
def lthOutKey (w : Nat) : Nat := 0xA2020000 + 4 * w

/-- Edges in the order of their timestamps, channels ascending where these are equal (R500, R514); a new epoch follows the old one. -/
def edgeBefore (a b : FEdge) : Bool :=
  if a.at_.epoch = b.at_.epoch then
    decide (Machine.stampNs a.at_ < Machine.stampNs b.at_) || (decide (Machine.stampNs a.at_ = Machine.stampNs b.at_) && decide (a.ch < b.ch))
  else decide ((b.at_.epoch + 256 - a.at_.epoch) % 256 < 128)

/-- An edge takes its place in a list of edges, behind those that do not follow it. -/
def putEdge (e : FEdge) (l : List FEdge) : List FEdge :=
  l.filter (fun x => !edgeBefore e x) ++ e :: l.filter (fun x => edgeBefore e x)

/-- An edge takes its place among the 64 edges of the buffer (R514), with the next number (R19); a full buffer discards it and counts it. -/
def FieldDie.addEdge (d : FieldDie) (e : FEdge) : FieldDie :=
  let inSilence := b2n d.silent.isSome
  if d.buf.length < 64 then
    { d with buf := putEdge { e with num := d.nextNum } d.buf, nextNum := (d.nextNum + 1) % 65536, buffered := d.buffered + inSilence }
  else { d with dropped := d.dropped + 1, silDropped := d.silDropped + inSilence }

end Sys2Proof

namespace Sys2Proof.Machine
open Sys2Proof

/-- Resource of a field channel. -/
def fioRes (k : Nat) : Nat := 0x3000 + k

def State.fdMod (s : State) (f : FieldDie → FieldDie) : State := { s with field_ := f s.field_ }

/-- Whether the field link is up (R20). -/
def State.flkUp (s : State) : Bool := s.linkUp 10

/-- Whether channel k is an output. -/
def State.fioIsOut (s : State) (k : Nat) : Bool := s.bit (Reg.FIO_CFG k) 31

/-- Whether channel k is in its filtered state 1, as the engine die knows it (R498). -/
def State.fioIn (s : State) (k : Nat) : Bool := s.pairBit Reg.FIO_IN_LO k

/-! ### Groups and commands (R504, R506) -/

/-- The channels of the group that holds channel k; itself alone when it is in none. -/
def State.fioGroup (s : State) (k : Nat) : List Nat :=
  let b := k / 8
  let j := k % 8
  if s.bit (Reg.FIO_GRP b) (4 + j / 4) then (List.range 4).map (fun i => 8 * b + j / 4 * 4 + i)
  else if s.bit (Reg.FIO_GRP b) (j / 2) then [8 * b + j / 2 * 2, 8 * b + j / 2 * 2 + 1]
  else [k]

/-- Whether line n may drive channel k (R45): the channel is its owner's, or a claim on it has ended that the line still uses (R496). -/
def State.fioOfLine (s : State) (n k : Nat) : Bool :=
  let o := s.owner (fioRes k)
  decide (o = 0 ∨ o = s.owner (0x4000 + n))

/-- The command of channel k by itself (R504). -/
def State.fioWant (s : State) (k : Nat) : Bool :=
  let o := s.owner (fioRes k)
  (List.range 64).any (fun n => decide (s.tlState n = 3) && s.tlDst n k && s.fioOfLine n k) ||
  (decide (o = 0x02) && s.bit (lthOutKey (k / 32)) (k % 32)) ||
  (decide (o = 0x01 ∨ o = 0x04) && s.pairBit Reg.FIO_DRV_LO k)

/-- The command image: an output's command is the OR over its group (R504, R506). -/
def State.fioImage (s : State) : State :=
  let cmd := packBits 48 (fun k => s.fioIsOut k && (s.fioGroup k).any (fun j => s.fioWant j))
  (s.wr Reg.FIO_CMD_LO (w32 cmd)).wr Reg.FIO_CMD_HI (w32 (cmd / 4294967296))

/-- The command image follows its sources. A claim that ended on a channel still in use is settled when the use ends (R496). -/
def State.fioDrive (s : State) : State :=
  let s := s.fioImage
  if s.ended.isEmpty then s else s.settleEnded.fioImage

/-- Behind a claim command on resource `res`, whose owner was `was`: a field channel takes its command from its new owner's sources, and from
those lines that may still drive it (R45, R504). -/
def State.claimFollow (s : State) (was res : Nat) : State :=
  if (res / 4096 = 3 ∨ res / 4096 = 4) ∧ s.owner res ≠ was then s.fioDrive else s

/-- CLAIM_CMD with OP = claim or release. -/
def State.claimRun (s : State) (r : Req) (res : Nat) : State := (s.claimOp r res).claimFollow (s.owner res) res
def State.releaseRun (s : State) (r : Req) (res : Nat) : State := (s.releaseOp r res).claimFollow (s.owner res) res

/-- CLAIM_CMD with OP = claim. -/
def execClaimCmdClaim (r : Req) (res : BitVec 16) (s : State) : Host.Outcome State Fault Refusal :=
  s.access r (fun s => s.claimRun r res.toNat)

/-- CLAIM_CMD with OP = release. -/
def execClaimCmdRelease (r : Req) (res : BitVec 16) (s : State) : Host.Outcome State Fault Refusal :=
  s.access r (fun s => s.releaseRun r res.toNat)

/-- OUT_EN in the command image (R51, R504, R524): a single package past PROTECTION_READY, or what the pair protocol sets. -/
def State.outEnNow (s : State) : Bool := if s.paired then s.bit Reg.PAIR_STAT 24 else s.bit Reg.BOOT_STAT 31

/-- FIO_STAT.OUT_EN follows the role. -/
def State.fioRole (s : State) : State := s.putBit Reg.FIO_STAT 3 s.outEnNow

/-! ### Records -/

/-- A record of the chapter with interrupt 40 (R519). -/
def State.fioLog (s : State) (code sparam p0 p1 : Nat) : State := (s.irq 40).log code sparam p0 p1

/-- A discarded write (R495). -/
def State.fioDeny (s : State) (sparam off cause : Nat) : State :=
  (s.putBit Reg.FIO_FSTAT 6 true).fioLog 0x1F5 sparam off cause

/-! ### Configuration writes (R495, R506) -/

/-- Why a write of FIO_CFG_k is discarded, by R495's causes. -/
def State.fioCfgCause (s : State) (r : Req) (k : Nat) (v : Word) : Option Nat :=
  if !s.mayWrite r (fioRes k) then some 1
  else if bitAt v 31 ≠ s.fioIsOut k ∧ (s.fioCmd k ∨ s.fioGroup k ≠ [k] ∨ s.fioNamed k) then some 2
  else if field v 14 0 < 10 ∨ 20000 < field v 14 0 ∨ (bitAt v 27 ∧ 100 < field v 14 0) then some 3
  else none

/-- Whether a new configuration of a channel sets its pulse count to 0: PULSE set to 1, or PEDGE changed (R501). -/
def countRestarts (old new : Word) : Bool := (bitAt new 27 && !bitAt old 27) || bitAt new 26 != bitAt old 26

/-- A write of FIO_CFG_k: a count that restarts shows 0 at once (R501); the field die takes the configuration with its next frame. -/
def State.fioCfgWrite (s : State) (r : Req) (k : Nat) (v : Word) : State :=
  match s.fioCfgCause r k v with
  | some c => s.fioDeny k (0x100 + 4 * k) c
  | none =>
    let old := s.rd (Reg.FIO_CFG k)
    let s := s.wr (Reg.FIO_CFG k) (v &&& 0xFE007FFF)
    if countRestarts old v then (s.wr (Reg.FIO_PCNT k) 0).fioMod (fun u => { u with pcRestart := chSet u.pcRestart k true }) else s

/-- A write of FIO_DRV_LO or FIO_DRV_HI (R495, R504): channel by channel, of the bits that change. -/
def State.fioDrvWrite (s : State) (r : Req) (hi : Bool) (v : Word) : State :=
  let s := (List.range (if hi then 16 else 32)).foldl (fun t i =>
    let k := if hi then 32 + i else i
    if bitAt v i = t.pairBit Reg.FIO_DRV_LO k then t
    else if t.mayWrite r (fioRes k) then t.putPair Reg.FIO_DRV_LO k (bitAt v i)
    else t.fioDeny k (if hi then 0x2C else 0x28) 1) s
  s.fioDrive

def execFioDrvWrite (r : Req) (hi : Bool) (v : Word) (s : State) : Host.Outcome State Fault Refusal :=
  s.access r (fun s => s.fioDrvWrite r hi v)

/-- The members of group bit i of bank b: bits 0 to 3 pairs, 4 and 5 quads. -/
def grpMembers (b i : Nat) : List Nat :=
  if i < 4 then [8 * b + 2 * i, 8 * b + 2 * i + 1] else (List.range 4).map (fun j => 8 * b + 4 * (i - 4) + j)

/-- Whether group i overlaps a group of the other size in a group setting. -/
def grpOverlap (v : Word) (i : Nat) : Bool :=
  if i < 4 then bitAt v (4 + i / 2) else bitAt v (2 * (i - 4)) || bitAt v (2 * (i - 4) + 1)

/-- Why the change of group bit i of bank b is discarded (R495, R506): v is the setting as written, which may not hold the overlap
either. -/
def State.fioGrpCause (s : State) (r : Req) (b i : Nat) (v : Word) : Option Nat :=
  let ms := grpMembers b i
  if !ms.all (fun k => s.mayWrite r (fioRes k)) then some 1
  else if ms.any (fun k => s.fioCmd k) ∨
      (bitAt v i ∧ (!ms.all (fun k => s.fioIsOut k) ∨ !ms.all (fun k => s.owner (fioRes k) = s.owner (fioRes (8 * b + (ms.headD 0) % 8))) ∨
        grpOverlap v i ∨ grpOverlap (s.rd (Reg.FIO_GRP b)) i)) then some 4
  else none

/-- The change of group bit i of bank b to what a write holds, when it is a change to `on`. -/
def State.fioGrpBit (s : State) (r : Req) (b : Nat) (v : Word) (on : Bool) (i : Nat) : State :=
  let old := s.rd (Reg.FIO_GRP b)
  if bitAt v i = bitAt old i ∨ bitAt v i ≠ on then s
  else
    match s.fioGrpCause r b i v with
    | some c => s.fioDeny (0x80 + b) (0x200 + 4 * b) c
    | none => s.wr (Reg.FIO_GRP b) (putField old i i (b2n on))

/-- A write of FIO_GRP_b, group by group of the bits that change: those it dissolves, then those it forms, so that it is judged by the
setting it leaves (R495, R506). -/
def State.fioGrpWrite (s : State) (r : Req) (b : Nat) (v : Word) : State :=
  let s := (List.range 6).foldl (fun t i => t.fioGrpBit r b v false i) s
  ((List.range 6).foldl (fun t i => t.fioGrpBit r b v true i) s).fioDrive

def execFioGrpWrite (r : Req) (b : Fin 6) (v : Word) (s : State) : Host.Outcome State Fault Refusal :=
  s.access r (fun s => s.fioGrpWrite r b.val v)

/-! ### Edges at the engine die (R499 to R501) -/

/-- An edge enters the log in the order of its timestamp, or is discarded, counted and reported (R500). -/
def State.fioLogEdge (s : State) (e : FEdge) : State :=
  let u := s.fio
  let n := u.log.length
  if 256 ≤ n then
    let s := (s.count Reg.FIO_EVT_STAT 31 16 1).putBit Reg.FIO_FSTAT 5 true
    if u.ovf then s else (s.fioMod (fun u => { u with ovf := true })).fioLog 0x1F4 0 (s.rd Reg.FIO_EVT_STAT).toNat 0
  else
    let s := (s.fioMod (fun u => { u with log := putEdge e u.log })).put Reg.FIO_EVT_STAT 8 0 (n + 1)
    if n = 0 ∧ s.bit Reg.FIO_CTRL 0 then s.irq 40 else s

/-- The edges kept for the Blaze taps. -/
def tapMax : Nat := 1024

/-- The engine die takes an edge number once: log, the Lathe's edge words and the Blaze taps (R19, R500). -/
def State.fioTake (s : State) (e : FEdge) : State :=
  if s.fio.taken.contains e.num then s
  else
    let cfg := s.rd (Reg.FIO_CFG e.ch)
    let s := s.fioMod (fun u => { u with
      taken := e.num :: u.taken, rise := if e.rise then chSet u.rise e.ch true else u.rise,
      fall := if e.rise then u.fall else chSet u.fall e.ch true,
      taps := if tapMax ≤ u.taps.length then u.taps.tail ++ [e] else u.taps ++ [e],
      tapNo := if tapMax ≤ u.taps.length then u.tapNo + 1 else u.tapNo })
    if (e.rise && bitAt cfg 28) || (!e.rise && bitAt cfg 29) then s.fioLogEdge e else s

/-- The edge log's head is read (R500, R518): its seconds, tag and channel are latched for the requester. -/
def State.fioEvtRead (s : State) (r : Req) : State :=
  match s.fio.log with
  | [] => s.emptyRead r Reg.FIO_EVT_NS
  | e :: es =>
    let s := s.fioMod (fun u => { u with log := es, ovf := u.ovf && !es.isEmpty })
    let s := s.put Reg.FIO_EVT_STAT 8 0 es.length
    let s := s.latch r Reg.FIO_EVT_SEC (w32 e.at_.sec)
    let s := s.latch r Reg.FIO_EVT_TAG (w32 (e.at_.epoch % 256 * 16777216 + e.at_.sec / 4294967296 % 65536 * 256 +
      b2n e.buffered * 128 + b2n e.output * 64 + b2n e.rise * 32))
    let s := s.latch r Reg.FIO_EVT_CH (w32 e.ch)
    (s.headTaken Reg.FIO_EVT_NS).answer r (w32 (e.tq * 1073741824 + e.at_.ns))

def execFioEvtNsRead (r : Req) (s : State) : Host.Outcome State Fault Refusal :=
  s.access r (fun s => s.fioEvtRead r)

/-! ### Faults and supplies at the engine die (R508 to R510) -/

/-- Bit of FIO_FLT_n and FIO_FSTAT of a fault kind: 1 EXT_DRIVE, 2 FAULT_LOW, 3 OVERCURRENT, 4 THERMAL. -/
def fltBit (kind : Nat) : Nat := kind - 1

/-- FAULT_LOW on a driven output is noted while the checks of a drill run (R543). -/
def State.drillLow (s : State) (n kind : Nat) : State :=
  when (decide (kind = 2) && s.pairBit Reg.FIO_CMD_LO n)
    (fun t => t.pairMod (fun p => { p with drill := p.drill.map (fun d => { d with low := d.low <|> some n }) })) s

/-- A fault flag rises (R508): the record and interrupt 40 only from 0; a thermal shutdown counts each time (R509). -/
def State.fioFault (s : State) (n kind mv : Nat) : State :=
  let was := s.bit (Reg.FIO_FLT n) (fltBit kind)
  let s := (s.putBit (Reg.FIO_FLT n) (fltBit kind) true).putBit Reg.FIO_FSTAT (fltBit kind) true
  let s := if kind = 4 then s.count (Reg.FIO_FLT n) 31 24 1 else s
  let s := s.drillLow n kind
  if was then s else s.fioLog 0x1F0 n kind mv

/-- A supply event reaches the engine die (R510, R519): kind 1 warning, 2 warning cleared, 3 lockout, 4 recovered. The present
conditions come with the frame's states. -/
def State.fioSupply (s : State) (b kind mv : Nat) : State :=
  let s := if kind = 1 then s.putBit (Reg.FIO_BANK b) 18 true else if kind = 3 then s.putBit (Reg.FIO_BANK b) 19 true else s
  (s.irq 41).log 0x1F1 b kind mv

/-- A report of the field die reaches the engine die. EXT_DRIVE is masked on a PAIRED channel of a pair's member (R508). -/
def State.fieldReport (s : State) (x : FieldRep) : State :=
  match x with
  | .fault n k mv => if k = 1 ∧ s.bit (Reg.FIO_CFG n) 25 ∧ s.paired then s else s.fioFault n k mv
  | .supply b k mv => s.fioSupply b k mv

/-- The field die reports with its next valid frame (R19). -/
def State.report (s : State) (x : FieldRep) : State := s.fdMod (fun d => { d with reports := d.reports ++ [x] })

/-! ### The field die's outputs (R505 to R510) -/

/-- The configuration of channel k that the field die works by: that of its last valid frame (R19, R495, R511), before one the reset values. -/
def State.fdCfg (s : State) (k : Nat) : Word := SMap.get (fun _ => (1000 : Word)) s.field_.cfg k

/-- Whether channel k is an output on the field die. -/
def State.fdIsOut (s : State) (k : Nat) : Bool := bitAt (s.fdCfg k) 31

/-- Voltage of a bank in mV as the field die last measured it. -/
def State.bankMv (s : State) (b : Nat) : Nat := SMap.get (fun _ => 0) s.field_.mv b

/-- Whether the switch of channel k is driven: command and OUT_EN as applied, its bank not locked out, not in thermal
shutdown. -/
def State.fdDriven (s : State) (k : Nat) : Bool :=
  let d := s.field_
  d.up && d.outEn && d.cmd.getLsbD k && s.fdIsOut k && !d.uvlo.getLsbD (k / 8) && !d.therm.getLsbD k

/-- Whether the read-back of output k differs from its drive (R507). -/
def State.fdDiffers (s : State) (k : Nat) : Bool := s.field_.up && s.fdIsOut k && s.fdDriven k != s.field_.filt.getLsbD k

/-- The field die follows a change of drive or read-back: a current limit acts on a driven switch only, a mismatch lasts while read-back and
drive differ, and since when they have differed is kept (R507, R508). -/
def State.fdSettle (s : State) : State :=
  let d := s.field_
  s.fdMod (fun d0 => { d0 with
    limit := BitVec.ofNat 48 (packBits 48 (fun k => d.limit.getLsbD k && s.fdDriven k)),
    mm := BitVec.ofNat 48 (packBits 48 (fun k => d.mm.getLsbD k && s.fdDiffers k)),
    diff := (List.range 48).foldl (fun m k =>
      let since := SMap.get (fun _ => none) d.diff k
      SMap.set (fun _ => none) m k (if s.fdDiffers k then some (since.getD s.tb.cnt) else none)) [] })

/-- Comparison is blanked on the channels that p names: 20 µs on the fast class, 100 µs on the other banks (R507). -/
def State.fdBlank (s : State) (p : Nat → Bool) : State :=
  let m := (idxWhere 48 p).foldl (fun m k => SMap.set (fun _ => 0) m k (s.tb.cnt + if k < 16 then 5000 else 25000)) s.field_.blank
  s.fdMod (fun d => { d with blank := m })

/-- FIO_MISMATCH on channel n (R507, R508): read-back and drive have differed for FILT consecutive samples after the blanking. FAULT_LOW
needs a driven switch. -/
def State.fioMismatch (s : State) (n : Nat) : State :=
  match SMap.get (fun _ => none) s.field_.diff n with
  | none => s
  | some t =>
    if s.field_.mm.getLsbD n then s
    else
      let s := s.reachCnt (max t (SMap.get (fun _ => 0) s.field_.blank n) + (field (s.fdCfg n) 14 0 - 1) * 250)
      let s := s.fdMod (fun d => { d with mm := chSet d.mm n true })
      s.report (.fault n (if s.fdDriven n then 2 else 1) (s.bankMv (n / 8)))

def execFioMismatch (n : Fin 48) (s : State) : Host.Outcome State Fault Refusal := .next (s.fioMismatch n.val)

/-- FIO_OVERCURRENT on channel n: its current limit has acted for 10 µs (R508). -/
def State.fioOvercurrent (s : State) (n : Nat) : State :=
  if !s.fdDriven n then s
  else (s.fdMod (fun d => { d with limit := chSet d.limit n true })).report (.fault n 3 (s.bankMv (n / 8)))

def execFioOvercurrent (n : Fin 48) (s : State) : Host.Outcome State Fault Refusal := .next (s.fioOvercurrent n.val)

/-- FIO_THERMAL_OFF on channel n (R509). -/
def State.fioThermOff (s : State) (n : Nat) : State :=
  if !s.fdDriven n then s
  else ((s.fdMod (fun d => { d with therm := chSet d.therm n true })).report (.fault n 4 (s.bankMv (n / 8)))).fdSettle

def execFioThermalOff (n : Fin 48) (s : State) : Host.Outcome State Fault Refusal := .next (s.fioThermOff n.val)

/-- FIO_THERMAL_ON on channel n: cooled to 155 °C; it is on again while commanded (R509), and comparison is blanked anew (R507). -/
def State.fioThermOn (s : State) (n : Nat) : State :=
  if !s.field_.therm.getLsbD n then s
  else ((s.fdMod (fun d => { d with therm := chSet d.therm n false })).fdBlank (fun k => k == n)).fdSettle

def execFioThermalOn (n : Fin 48) (s : State) : Host.Outcome State Fault Refusal := .next (s.fioThermOn n.val)

/-- Bit b of a set of banks replaced. -/
def bankSet (v : BitVec 6) (b : Nat) (on : Bool) : BitVec 6 :=
  let m := BitVec.ofNat 6 (2 ^ b)
  if on then v ||| m else v &&& ~~~ m

/-- A supply condition of bank b at mv, when it applies (R510): kind 1 below 18 V, 2 above 19 V, 3 below 9.5 V, 4 above 11 V. -/
def State.vfield (s : State) (b kind mv : Nat) : State :=
  let d := s.field_
  let applies := d.up && (match kind with
    | 1 => !d.warn.getLsbD b && decide (mv < 18000)
    | 2 => d.warn.getLsbD b && decide (19000 < mv)
    | 3 => !d.uvlo.getLsbD b && decide (mv < 9500)
    | _ => d.uvlo.getLsbD b && decide (11000 < mv))
  if !applies then s
  else
    let s := s.fdMod (fun d => { d with
      warn := if kind = 1 then bankSet d.warn b true else if kind = 2 then bankSet d.warn b false else d.warn,
      uvlo := if kind = 3 then bankSet d.uvlo b true else if kind = 4 then bankSet d.uvlo b false else d.uvlo,
      mv := SMap.set (fun _ => 0) d.mv b mv })
    ((if kind = 4 then s.fdBlank (fun k => k / 8 == b) else s).report (.supply b kind mv)).fdSettle

def execVfieldWarn (b : Fin 6) (mv : BitVec 16) (s : State) : Host.Outcome State Fault Refusal :=
  .next (s.vfield b.val 1 mv.toNat)
def execVfieldWarnClear (b : Fin 6) (mv : BitVec 16) (s : State) : Host.Outcome State Fault Refusal :=
  .next (s.vfield b.val 2 mv.toNat)
def execVfieldUvlo (b : Fin 6) (mv : BitVec 16) (s : State) : Host.Outcome State Fault Refusal :=
  .next (s.vfield b.val 3 mv.toNat)
def execVfieldUvloRecover (b : Fin 6) (mv : BitVec 16) (s : State) : Host.Outcome State Fault Refusal :=
  .next (s.vfield b.val 4 mv.toNat)

/-! ### The field die's sampling (R498, R499, R512) -/

/-- The time quality of an edge (R499): HOLDOVER at best while the field link is down. -/
def State.edgeTq (s : State) : Nat := if s.flkUp && s.field_.silent.isNone then s.tq else max 1 s.tq

/-- The drift the die's counter can gather in n elapsed counts of 4 ns at 200 ppm, in ns (R512). -/
def driftMax (n : Nat) : Int := (n * 4 / 5000 : Nat)

/-- The field die reckons how far its counter has run away while no frame arrives: at most 200 ppm of the time since it last did
(R36, R512, log entry 185). -/
def State.drifted (s : State) : State :=
  let d := s.field_
  if d.silent.isNone then s
  else
    let m := driftMax (s.tb.cnt - d.driftAt)
    (s.fdMod (fun d => { d with drift := d.drift + max (-m) (min m (Config.fieldDrift s.freeCtr)), driftAt := s.tb.cnt })).drew

/-- The raw state of channel n becomes `on` at the first whole microsecond of the die's counter from t ns on. The run that begins keeps
the timestamp its edge will carry, 1.0 µs earlier, with the epoch and time quality in force (R498, R499). -/
def State.rawEdge (s : State) (n : Nat) (on : Bool) (t : Nat) : State :=
  if !s.field_.up ∨ s.field_.raw.getLsbD n = on then s
  else
    let s := s.drifted
    let now := s.tb.sec * 1000000000 + s.tb.ns
    let first := ((t + s.field_.drift).toNat + 999) / 1000 * 1000
    let (sc, ns) := splitNs (first - 1000)
    let run : RawRun := { at_ := { sec := sc, ns := ns, epoch := s.epoch }, tq := s.edgeTq,
                          cnt := ((4 * s.tb.cnt + first : Nat) - now - s.field_.drift).toNat / 4 }
    s.fdMod (fun d => { d with raw := chSet d.raw n on, runs := SMap.set (fun _ => none) d.runs n (some run) })

/-! ### The field die's logic, silences and frames to it (R511 to R515) -/

/-- FIELD_OK, and FIO_STAT.FIELD_OK, which is the same state (R513); a drill notes its rise within 1 ms of the handover (R543). -/
def State.fieldOk (s : State) (on : Bool) : State :=
  let s := (s.fdMod (fun d => { d with ok := on })).putBit Reg.FIO_STAT 2 on
  when on (fun t => t.pairMod (fun p => { p with
    drill := p.drill.map (fun d => { d with ok := d.ok || decide (t.tb.cnt ≤ d.start + 250000) }) })) s

/-- FIELD_LOGIC_STOP: the highest VFIELD falls below 9.0 V, so every bank lies below 9.0 V and is locked out; every output is off
(R494, R510, R511). -/
def State.fieldStop (s : State) : State :=
  if !s.field_.up then s
  else ((s.fdMod (fun d => { d with
    up := false, cmd := 0, outEn := false, hold := true, silent := none, uvlo := 63, limit := 0, mm := 0, diff := [],
    mv := (List.range 6).foldl (fun m b => SMap.set (fun _ => 0) m b (min 8999 (SMap.get (fun _ => 0) d.mv b))) [] })).fieldOk false)

def execFieldLogicStop (s : State) : Host.Outcome State Fault Refusal := .next s.fieldStop

/-- FIELD_LOGIC_START at the highest VFIELD, 9.0 V or more: outputs stay off until the first valid frame, the edge buffer is empty (R494, R511). -/
def State.fieldStart (s : State) (mv : Nat) : State :=
  if s.field_.up ∨ mv < 9000 then s
  else (s.fdMod (fun d => { d with
    up := true, ran := true, hold := true, cmd := 0, cfg := [], outEn := false, buf := [], dropped := 0, silent := none, therm := 0, limit := 0, mm := 0,
    blank := [], diff := [], restart := if d.ran then some mv else none, reports := [], silence := none, mvAt := 0 })).fieldOk false

def execFieldLogicStart (mv : BitVec 16) (s : State) : Host.Outcome State Fault Refusal := .next (s.fieldStart mv.toNat)

/-- FIELD_SILENCE: 100 µs without a valid frame (R20, R514): FIELD_OK falls, the outputs hold, and the counter has run on the die's own
oscillator since the last frame (R512). -/
def State.fieldSilence (s : State) : State :=
  if !s.field_.up ∨ s.field_.silent.isSome then s
  else (s.fdMod (fun d => { d with
    silent := some (s.tb.cnt - 25000), buffered := 0, silDropped := 0, drift := 0, driftAt := s.tb.cnt - 25000 })).fieldOk false

def execFieldSilence (s : State) : Host.Outcome State Fault Refusal := .next s.fieldSilence

/-- Whether the field die searches for a frame: after a start or in a silence it takes the first one whose CRC passes (R22, R511). -/
def State.fieldSearches (s : State) : Bool := s.field_.hold || s.field_.silent.isSome

/-- The pulse count of channel k after a frame that carries its configuration (R501, R503). -/
def State.fdCount (s : State) (k : Nat) : Nat :=
  let new := s.rd (Reg.FIO_CFG k)
  if s.field_.hold then (s.rd (Reg.FIO_PCNT k)).toNat
  else if s.fio.pcRestart.getLsbD k || countRestarts (s.fdCfg k) new then 0
  else SMap.get (fun _ => 0) s.field_.counts k

/-- A valid frame from the engine die brings the whole command image and the channel configurations, acknowledges the edges the engine die has taken, aligns
the counter, and ends a silence or the wait after a start (R19, R503, R507, R511 to R513, R515). -/
def State.fieldApply (s : State) : State :=
  let cmd := BitVec.ofNat 48 ((s.rd Reg.FIO_CMD_LO).toNat + (s.rd Reg.FIO_CMD_HI).toNat * 4294967296)
  let out := s.bit Reg.FIO_STAT 3
  let now := s.tb.cnt
  let old := s.field_
  let t := s.fdMod (fun d => { d with
    cmd := cmd, outEn := out, hold := false, silent := none, drift := 0,
    buf := if d.hold then [] else d.buf.filter (fun e => !s.fio.taken.contains e.num),
    cfg := (List.range 48).foldl (fun m k => SMap.set (fun _ => (1000 : Word)) m k (s.rd (Reg.FIO_CFG k))) [],
    counts := (List.range 48).foldl (fun m k => SMap.set (fun _ => 0) m k (s.fdCount k)) [],
    silence := match d.silent with
      | some t => some ((now - t) / 250, d.buffered, d.silDropped)
      | none => d.silence })
  let t := t.fioMod (fun u => { u with taken := [], pcRestart := 0 })
  ((t.fdBlank (fun k => (old.outEn && old.cmd.getLsbD k) != (out && cmd.getLsbD k))).fieldOk out).fdSettle

/-- FLK_FRAME_TO_FIELD: a frame from the engine die reaches the field die (R15, R16, R19, R22). One that fails its CRC or does not
carry the expected number is a discard, counted with the link's other direction (log entry 141). -/
def State.frameToField (s : State) (seq : Nat) (crcOk : Bool) : State :=
  if !s.field_.up then s
  else
    let old := s.field_.seq
    let good := crcOk && (s.fieldSearches || decide (seq = old))
    if !good && s.fieldSearches then s
    else
      let s := s.fdMod (fun d => { d with seq := nextSeq old seq crcOk })
      if good then s.fieldApply else if s.flkUp then s.linkDiscard 10 (!crcOk) else s

def execFlkFrameToField (frame : RxFrame) (s : State) : Host.Outcome State Fault Refusal :=
  .next (s.frameToField frame.seq.toNat frame.crcOk)

end Sys2Proof.Machine
end

