-- ==== Sys2Proof/Machine/Goose.lean ====
section
/-!
DEFINITION. GOOSE (chapter 13): the filter with its windows, publication with its retransmissions, the table port, and the
reception of a frame, which feeds switch, SV slots and GOOSE entries.
-/
namespace Sys2Proof

/-- A GOOSE message: APPID, the items of its PDU, and whether all of it decoded with every mandatory field. -/
structure GooseMsg where
  appid : Nat
  items : List (Nat × Bytes)
  data : List (Nat × Bytes)
  ok : Bool
  deriving DecidableEq, Repr

/-- Decode a GOOSE message (IEC 61850-8-1): header of 8 bytes, PDU 0x61. -/
def gooseDecode (body : Bytes) : Option GooseMsg :=
  match (berItems 4 (body.drop 8)).1 with
  | (0x61, pdu) :: _ =>
    let (items, ok) := berItems 16 pdu
    let (data, dok) := berItems 512 ((berGet items 0xAB).getD [])
    some { appid := beAt body 0 2, items := items, data := data,
           ok := ok && dok && [0x80, 0x81, 0x82, 0x84, 0x85, 0x86, 0x88, 0x8A, 0xAB].all (fun t => (berGet items t).isSome) }
  | _ => none

/-- An unsigned field of a message. -/
def GooseMsg.num (m : GooseMsg) (tag : Nat) : Nat := beNat ((berGet m.items tag).getD [])

/-- Whether a BOOLEAN field is TRUE. -/
def GooseMsg.flag (m : GooseMsg) (tag : Nat) : Bool := decide (m.num tag ≠ 0)

/-- An analogue word of the Lathe image (R456): a sign-extended INTEGER, the bits of a FLOAT32, else 0. -/
def gooseAna (d : Option (Nat × Bytes)) : Word :=
  match d with
  | some (0x85, b) => wInt (sext (8 * b.length) (beNat b))
  | some (0x87, b) => if b.length = 5 then w32 (beNat (b.drop 1)) else 0
  | _ => 0

/-- Put a BOOLEAN into member i of a dataset. -/
def setBool (l : List (Nat × Bytes)) (i : Nat) (b : Bool) : List (Nat × Bytes) :=
  match l[i]? with
  | some (0x83, _) => l.set i (0x83, [if b then 0xFF else 0])
  | _ => l

end Sys2Proof

namespace Sys2Proof.Machine
open Sys2Proof

/-! ### Subscription (R453 to R456) -/

/-- Whether a frame matches filter entry e (R453). -/
def State.gseMatch (s : State) (e p vid : Nat) (f : Eth) (m : GooseMsg) : Bool :=
  let w0 := s.rd (gseKey e 0)
  let w2 := s.rd (gseKey e 2)
  bitAt w0 31 && (field w0 20 16).testBit p && decide (f.dst = field w2 15 0 * 4294967296 + (s.rd (gseKey e 1)).toNat) &&
    decide (m.appid = field w0 15 0) && (decide (field w2 27 16 = 0) || decide (field w2 27 16 = vid)) &&
    (match berGet m.items 0x80 with
     | some ref => decide (crc32 ref = (s.rd (gseKey e 3)).toNat)
     | none => false)

/-- Why a matching frame is refused, with the value received: 1 confRev, 2 ndsCom, 3 numDatSetEntries, 4 decode (R453). -/
def State.gseRefuse (s : State) (e : Nat) (m : GooseMsg) : Option (Nat × Nat) :=
  let want := s.fld (gseKey e 5) 7 0
  if !m.ok then some (4, 0)
  else if m.num 0x88 ≠ (s.rd (gseKey e 4)).toNat then some (1, m.num 0x88)
  else if m.flag 0x89 then some (2, 1)
  else if want ≠ 0 ∧ m.num 0x8A ≠ want then some (3, m.num 0x8A)
  else none

/-- The window of entry e has ended (R455). -/
def State.gseExpire (s : State) (e : Nat) : State :=
  match (s.gse e).endAt with
  | none => s
  | some t =>
    let s := s.setGse e { s.gse e with endAt := none, expiredAt := t }
    let s := (s.putBit (gseKey e 6) 1 true).ethFlag 2 0
    s.log 0x1D5 e (s.rd (gseKey e 7)).toNat (s.rd (gseKey e 8)).toNat

/-- GOOSE_EXPIRY of entry e: the time reaches the end of its window. -/
def State.gooseExpiry (s : State) (e : Nat) : State :=
  match (s.gse e).endAt with
  | none => s
  | some t => (s.reachTime t).gseExpire e

def execGooseExpiry (e : Fin 128) (s : State) : Host.Outcome State Fault Refusal := .next (s.gooseExpiry e.val)

/-- An accepted frame: its words, window and counts (R455, R456). -/
def State.gseAccept (s : State) (e ta : Nat) (sim : Bool) (m : GooseMsg) : State :=
  let x := s.gse e
  let was := s.bit (gseKey e 6) 1
  let ms := satTo 4294967295 ((ta - x.expiredAt) / 1000000)
  let t := (berGet m.items 0x84).getD []
  let n := satTo 255 m.data.length
  let bools := packBits 32 (fun k => match m.data[k]? with
    | some (0x83, b) => decide (beNat b ≠ 0)
    | _ => false)
  let w0 := 1 + b2n sim * 4 + n * 256 + m.appid * 65536
  let ws := [w32 w0, w32 (m.num 0x85), w32 (m.num 0x86), w32 (beAt t 0 4), w32 (beAt t 4 4), w32 bools,
    gooseAna m.data[s.fld (gseKey e 5) 15 8]?, gooseAna m.data[s.fld (gseKey e 5) 23 16]?]
  let s := ws.zipIdx.foldl (fun u p => u.wr (gseKey e (6 + p.2)) p.1) s
  let s := s.count (gseKey e 14) 31 16 1
  let s := s.setGse e { x with endAt := some (ta + m.num 0x81 * 1000000), okSeen := true, sim := x.sim || sim, rxAt := s.tb.cnt + 1 }
  if was then (s.irq 24).log 0x1D6 e (m.num 0x85) ms else s

/-- A frame that matches entry e, received at ta (R453 to R455). The answer says whether it was accepted. -/
def State.gseTake (s : State) (e ta : Nat) (m : GooseMsg) : State × Bool :=
  let x := s.gse e
  let s := match x.endAt with
    | some t => if t ≤ ta then s.gseExpire e else s
    | none => s
  let sim := m.flag 0x87
  let on := s.bit Reg.ETH_CTRL 8
  if sim && !on then (s.count (gseKey e 14) 7 0 1, false)
  else if !sim && on && x.sim then (s, false)
  else
    match s.gseRefuse e m with
    | some (cause, v) =>
      let s := (s.count (gseKey e 14) 15 8 1).putBit (gseKey e 6) 3 true
      let s := s.setGse e { s.gse e with okSeen := false }
      (if x.okSeen then (s.ethFlag 3 0).log 0x1D7 e cause v else s, false)
    | none => (s.gseAccept e ta sim m, true)

/-- A GOOSE frame serves every entry it matches. -/
def State.gooseFrame (s : State) (p ta vid : Nat) (f : Eth) : State × Bool :=
  match gooseDecode f.body with
  | none => (s, false)
  | some m => (List.range 128).foldl (fun (t, b) e =>
      if t.gseMatch e p vid f m then (let (u, c) := t.gseTake e ta m; (u, b || c)) else (t, b)) (s, false)

/-! ### Reception (R433 to R438, R440) -/

/-- ETH_FRAME_RX: a frame on port p with its FCS outcome, its first octet stamped (sec, ns) at the MAC boundary. -/
def State.ethRx (s : State) (p : Nat) (raw : Bytes) (fcsOk : Bool) (sec ns : Nat) : State :=
  if !s.portUp p then s
  else
    let s := s.reachTime (sec * 1000000000 + ns)
    if !fcsOk then (if p = 4 then s else s.count (Reg.ETH_DROP p) 15 0 1)
    else
      let s := if p = 4 then s else s.count (Reg.ETH_RXCNT p) 31 0 1
      let ta := (((sec * 1000000000 + ns : Nat) : Int) + s.inAdj p).toNat
      let red := if s.redPort p then s.eth.red else 0
      let f := ethParse (decide (red = 2)) (decide (red = 1) || (p == 2 && s.hsrPrp)) raw
      let s := if red ≠ 0 ∧ f.seq.isSome then s.redAlive p else s
      let s := if red = 1 ∧ f.seq.isSome ∧ f.lan ≠ 10 + p then s.count (Reg.ETH_REDCNT p) 15 0 1 else s
      -- An untagged or priority-tagged frame takes the port's PVID and default PCP (R438).
      let (pcp, vid) := (f.tag.filter (fun t => decide (t.2 ≠ 0))).getD (s.fld (Reg.ETH_PCFG p) 10 8, s.fld (Reg.ETH_PCFG p) 27 16)
      let own := decide (red = 2) && s.ownSrc f.src
      let s := if red = 2 then s.ringForward p ta raw f pcp else s
      let (s, dup) := if red ≠ 0 ∧ !own then s.dupCheck p f else (s, own)
      if dup then s
      else
        match s.vlanPorts vid with
        | none => s
        | some (members, untag) =>
          if !members.testBit p then s
          else
            let s := if f.et = 0x88BA then s.svFrame p ta f else s
            let (s, sup) := if f.et = 0x88B8 then s.gooseFrame p ta vid f else (s, false)
            s.forward p ta f pcp vid members untag sup

def execEthFrameRx (p : Fin 5) (frame : Bytes) (fcsOk : Bool) (sec : Nat) (ns : Fin 1000000000) (s : State) :
    Host.Outcome State Fault Refusal :=
  .next (s.ethRx p.val frame fcsOk sec ns.val)

/-! ### Publication (R457 to R460) -/

/-- Supervisor shared memory: the key of byte address a's word. -/
def sharedKey (a : Nat) : Nat := 0xB0800000 + a / 4 * 4

/-- n bytes of supervisor shared memory from a byte address. -/
def State.sharedBytes (s : State) (a n : Nat) : Bytes :=
  (List.range n).map (fun i => BitVec.ofNat 8 (s.fld (sharedKey (a + i)) (8 * ((a + i) % 4) + 7) (8 * ((a + i) % 4))))

/-- Mapping k of slot g: enabled, line, member (R469). -/
def State.gpubMap (s : State) (g k : Nat) : Bool × Nat × Nat :=
  let v := s.fld (if k < 2 then Reg.GPUB_TL0 g else Reg.GPUB_TL1 g) (16 * (k % 2) + 15) (16 * (k % 2))
  (v.testBit 15, v / 256 % 64, v % 256)

/-- The GOOSE message of a template. -/
def tplMsg (t : Bytes) : Option (Eth × GooseMsg) :=
  let f := ethParse false false t
  if f.et ≠ 0x88B8 then none else (gooseDecode f.body).map (fun m => (f, m))

/-- Whether a template is accepted: it decodes, and every mapped member is a BOOLEAN (R457, R459). -/
def State.tplOk (s : State) (g : Nat) (t : Bytes) : Bool :=
  decide (64 ≤ t.length) && decide (t.length ≤ 1518) && (match tplMsg t with
    | none => false
    | some (_, m) => m.ok && (List.range 4).all (fun k =>
      let (en, _, i) := s.gpubMap g k
      !en || (match m.data[i]? with
        | some (0x83, _) => true
        | _ => false)))

/-- TL_GOOSE bit of line n (R286): 0 in the sapwood. -/
def State.tlGoose (s : State) (n : Nat) : Bool := s.pairBit Reg.TL_GOOSE_LO n

/-- The frame a slot sends now, with the gap to its next transmission in ms (R457). A template without the simulation flag, whose encoding
IEC 61850-8-1 leaves optional, gets it behind sqNum (log entry 191). -/
def State.gpubFrame (s : State) (g gapMs : Nat) : Option Eth :=
  let x := s.gpub g
  match tplMsg x.template with
  | none => none
  | some (f, m) =>
    let ctrl := s.rd (Reg.GPUB_CTRL g)
    let data := (List.range 4).foldl (fun d k =>
      let (en, n, i) := s.gpubMap g k
      if en then setBool d i (s.tlGoose n) else d) m.data
    let data := if x.gasp then setBool data (field ctrl 15 8) true else data
    let t := beBytes 4 x.changed.sec ++ beBytes 3 (x.changed.ns * 16777216 / 1000000000) ++ [Config.gooseTimeQuality x.tq]
    let sim : Nat × Bytes := (0x87, [if bitAt ctrl 28 then 0xFF else 0])
    let items := (if (berGet m.items 0x87).isSome then m.items
      else m.items.flatMap (fun it => if it.1 = 0x86 then [it, sim] else [it])).map (fun it =>
      if it.1 = 0x81 then (0x81, berUint (2 * gapMs))
      else if it.1 = 0x84 then (0x84, t)
      else if it.1 = 0x85 then (0x85, berUint (s.rd (Reg.GPUB_ST g)).toNat)
      else if it.1 = 0x86 then (0x86, berUint (s.rd (Reg.GPUB_SQ g)).toNat)
      else if it.1 = 0x87 then sim
      else if it.1 = 0xAB then (0xAB, berJoin data)
      else it)
    let pdu := berItem 0x61 (berJoin items)
    some { f with body := f.body.take 2 ++ beBytes 2 (pdu.length + 8) ++ (f.body.drop 4).take 4 ++ pdu }

/-- Queue a slot's frame at every port of PORTS (R457, R460); a standby sends none. -/
def State.gpubQueue (s : State) (g gapMs : Nat) : State :=
  match s.gpubFrame g gapMs with
  | none => s
  | some f =>
    let (pcp, vid) := f.tag.getD (0, 0)
    s.ethSend f (s.logPorts (s.fld (Reg.GPUB_CTRL g) 20 16)) (if f.tag.isSome then 0 else 31) pcp vid
      { bytes := [], inPort := 5, inCnt := s.tb.cnt, inAdj := 0, inAt := 0, goose := some (g, (s.rd (Reg.GPUB_ST g)).toNat) }

/-- Queued frames of slot g, over all ports. -/
def State.gpubWaiting (s : State) (g : Nat) : Nat :=
  s.eth.queues.foldl (fun a q => a + (q.2.filter (fun f => f.goose.any (fun x => decide (x.1 = g)))).length) 0

/-- Whether a queued frame carries the present stNum of slot g. -/
def State.gpubLast (s : State) (g : Nat) (f : EFrame) : Bool := decide (f.goose = some (g, (s.rd (Reg.GPUB_ST g)).toNat))

/-- Drop the queued frames of a slot's last change: a change that has not begun to leave is merged into the next (R459). -/
def State.gpubDrop (s : State) (g : Nat) : State :=
  s.ethMod (fun e => { e with
    queues := (e.queues.map (fun q => (q.1, q.2.filter (fun f => !s.gpubLast g f)))).filter (fun q => !q.2.isEmpty) })

/-- A counter of R458 advances by one, from 0xFFFF_FFFF to 1. -/
def nextSt (v : Word) : Word := if v = 0xFFFFFFFF then 1 else v + 1

/-- T_MIN and T_MAX of a slot in ms. -/
def State.gpubTimes (s : State) (g : Nat) : Nat × Nat := (s.fld (Reg.GPUB_TIME g) 15 0, s.fld (Reg.GPUB_TIME g) 31 16)

/-- Whether the transmission of slot g's last change waits and has not begun on any port (R459). -/
def State.gpubMerges (s : State) (g : Nat) : Bool :=
  decide (s.rd (Reg.GPUB_SQ g) = 0) && !(s.gpub g).sent && s.eth.queues.any (fun q => q.2.any (s.gpubLast g))

/-- A state change of slot g (R458, R459). One that comes before the transmission of the change before it has begun, on any
port, is merged into that transmission. -/
def State.gooseChange (s : State) (g : Nat) : State :=
  let x := s.gpub g
  if !s.bit (Reg.GPUB_CTRL g) 31 ∨ x.template = [] ∨ s.sapwood then s
  else
    let s := if s.gpubMerges g then s.gpubDrop g else s.wr (Reg.GPUB_ST g) (nextSt (s.rd (Reg.GPUB_ST g)))
    let s := s.wr (Reg.GPUB_SQ g) 0
    let tmin := (s.gpubTimes g).1
    let s := s.setGpub g { x with changed := s.now, tq := s.tq, gap := tmin, gaps := 1, next := some (s.tb.cnt + tmin * 250000), sent := false }
    s.gpubQueue g tmin

/-- GOOSE_RETRANSMIT of slot g: the gap has passed (R458). -/
def State.gooseRetransmit (s : State) (g : Nat) : State :=
  let x := s.gpub g
  match x.next with
  | none => s
  | some t =>
    if !s.bit (Reg.GPUB_CTRL g) 31 ∨ s.sapwood then s
    else
      let s := s.reachCnt t
      let (tmin, tmax) := s.gpubTimes g
      let gap := if x.gaps < 2 then tmin else min (2 * x.gap) tmax
      let s := s.wr (Reg.GPUB_SQ g) (nextSt (s.rd (Reg.GPUB_SQ g)))
      let s := s.setGpub g { x with gap := gap, gaps := x.gaps + 1, next := some (s.tb.cnt + gap * 250000) }
      s.gpubQueue g gap

def execGooseRetransmit (g : Fin 8) (s : State) : Host.Outcome State Fault Refusal := .next (s.gooseRetransmit g.val)

/-- A write of GPUB_CTRL_g (R457, R458): enabling sets stNum for a first change to 1; COMMIT, and enabling, load the template. -/
def State.gpubCtrlWrite (s : State) (g : Nat) (v : Word) : State :=
  let k := Reg.GPUB_CTRL g
  let was := s.bit k 31
  let off := 0x900 + 0x20 * g
  let s := s.wr k (v &&& 0xB01FFF00)
  if !bitAt v 31 then s.setGpub g { s.gpub g with next := none, template := [] }
  else if was && !bitAt v 30 then s
  else
    let t := s.sharedBytes (s.fld (Reg.GPUB_ADDR g) 23 2 * 4) (s.fld (Reg.GPUB_LEN g) 10 0)
    if !s.tplOk g t then s.ethDeny off 4
    else
      let s := if was then s else (s.wr (Reg.GPUB_ST g) 0).wr (Reg.GPUB_SQ g) 1
      let s := if was then s else s.setGpub g GoosePub.init
      (s.setGpub g { s.gpub g with template := t, gasp := false }).gooseChange g

def execGpubCommit (r : Req) (g : Fin 8) (v : Word) (s : State) : Host.Outcome State Fault Refusal :=
  s.access r (fun s => s.gpubCtrlWrite g.val (v ||| 0x40000000))

/-- TL_GOOSE bits in `lines` have changed: every slot that maps one of them has a state change (R278, R459). -/
def State.gooseLines (s : State) (lines : List Nat) : State :=
  (List.range 8).foldl (fun t g =>
    if (List.range 4).any (fun k => let (en, n, _) := t.gpubMap g k; en && lines.contains n) then t.gooseChange g else t) s

/-- The last gasp (R460): every enabled slot with LG sets its member and sends as a state change. -/
def State.lastGasp (s : State) : State :=
  (List.range 8).foldl (fun t g =>
    if t.bit (Reg.GPUB_CTRL g) 31 && t.bit (Reg.GPUB_CTRL g) 29 then
      (t.setGpub g { t.gpub g with gasp := true }).gooseChange g
    else t) s

/-- At takeover each enabled slot sends as a state change (R460). -/
def State.gooseTakeover (s : State) : State := (List.range 8).foldl (fun t g => t.gooseChange g) s

/-! ### Table port and plain registers (R461, R468) -/

/-- The key of the selected table word, and whether it may be written: none where no word lies. -/
def State.tblKey (s : State) : Option Nat :=
  let sel := s.rd Reg.ETH_TBL_SEL
  let e := field sel 27 8
  let w := field sel 7 0
  if field sel 31 28 = 1 ∧ e < 128 ∧ w < 16 then some (gseKey e w)
  else if field sel 31 28 = 2 ∧ e < 16 ∧ w < 17 then some (hdrKey e w)
  else none

/-- WORD advances by 1 (R468). -/
def State.tblNext (s : State) : State := s.put Reg.ETH_TBL_SEL 7 0 (s.fld Reg.ETH_TBL_SEL 7 0 + 1)

/-- A read of ETH_TBL_DATA (R468): word 14 of a filter entry clears, word 15 shows the paths down. -/
def State.tblRead (s : State) (r : Req) : State :=
  let sel := s.rd Reg.ETH_TBL_SEL
  let gse := decide (field sel 31 28 = 1)
  match s.tblKey with
  | none => (s.answer r (Config.tblWord sel)).tblNext
  | some k =>
    let v := if gse && field sel 7 0 == 15 then w32 (s.pathsDown (field sel 27 8) * 4194304) else s.rd k
    let s := if gse && field sel 7 0 == 14 then s.wr k 0 else s
    (s.answer r v).tblNext

def execEthTblDataRead (r : Req) (s : State) : Host.Outcome State Fault Refusal :=
  s.access r (fun s => s.tblRead r)

/-- A write of ETH_TBL_DATA (R461, R468). Clearing EN of a filter entry ends its window. -/
def State.tblWrite (s : State) (v : Word) : State :=
  let sel := s.rd Reg.ETH_TBL_SEL
  let e := field sel 27 8
  let w := field sel 7 0
  let s' := match s.tblKey with
    | none => s.ethDeny 0xE04 2
    | some k =>
      if field sel 31 28 = 2 then
        if w = 0 ∧ (field v 7 0 = 0 ∨ 64 < field v 7 0) then s.ethDeny 0xE04 2
        else s.wr k (if w = 0 then v &&& 0xFF else v)
      else if 6 ≤ w then s
      else if s.bit (gseKey e 0) 31 ∧ !(w = 0 ∧ !bitAt v 31) then s.ethDeny 0xE04 3
      else
        let m : Word := if w = 0 then 0x801FFFFF else if w = 2 then 0x0FFFFFFF else if w = 5 then 0x00FFFFFF else 0xFFFFFFFF
        let was := s
        let s := s.wr k (v &&& m)
        if w = 0 then (s.setGse e { s.gse e with endAt := none, okSeen := false, sim := false }).markPaths was else s
  s'.tblNext

def execEthTblDataWrite (r : Req) (v : Word) (s : State) : Host.Outcome State Fault Refusal :=
  s.access r (fun s => s.tblWrite v)

/-- A write of ETH_PCFG_p (R429, R461): MODE = 0 takes the port's link down. -/
def State.ethPcfgWrite (s : State) (p : Nat) (v : Word) : State :=
  if 6 ≤ field v 2 0 then s.ethDeny (0x100 + 0x40 * p) 2
  else when (decide (field v 2 0 = 0) && decide (p < 4)) (fun t => t.ethLink p false (t.fld (Reg.ETH_PSTAT p) 2 1)) (s.regWrite (Reg.ETH_PCFG p) v)

/-- Whether a table selection lies outside the ranges of R468. -/
def tblSelBad (v : Word) : Bool :=
  let e := field v 27 8
  let w := field v 7 0
  match field v 31 28 with
  | 0 => false
  | 1 => decide (127 < e) || decide (15 < w)
  | 2 => decide (15 < e) || decide (16 < w)
  | _ => true

/-- A write at an offset of the ETH block: the registers with rules of their own, then R461's ranges, then the field
types. The timestamp registers of port 4 read 0, so a write of them changes nothing (R463). -/
def State.ethWrite (s : State) (r : Req) (off : Nat) (v : Word) : State :=
  let a := 0x20000 + off
  if off = 0 then s.ethCtrlWrite v
  else if off = 0x0C then if field v 15 0 < 10 ∨ 10000 < field v 15 0 then s.ethDeny off 2 else s.regWrite a v
  else if off = 0x208 ∨ off = 0x20C then s
  else if 0x100 ≤ off ∧ off < 0x240 ∧ off % 0x40 = 0 then s.ethPcfgWrite ((off - 0x100) / 0x40) v
  else if 0x300 ≤ off ∧ off < 0x700 then s.svsWrite r ((off - 0x300) / 0x40) (off % 0x40 / 4) v
  else if 0x900 ≤ off ∧ off < 0xA00 then
    let g := (off - 0x900) / 0x20
    let o := off % 0x20
    if o = 0 then s.gpubCtrlWrite g v
    else if o = 8 ∧ (field v 10 0 < 64 ∨ 1518 < field v 10 0) then s.ethDeny off 2
    else if o = 0x14 ∧ (field v 15 0 = 0 ∨ 1000 < field v 15 0 ∨ field v 31 16 < field v 15 0 ∨ 60000 < field v 31 16) then
      s.ethDeny off 2
    else s.regWrite a v
  else if off = 0xE00 then if tblSelBad v then s.ethDeny off 2 else s.regWrite a v
  else if off = 0xE04 then s.tblWrite v
  else s.regWrite a v

/-! ### PD_NET (R430) -/

/-- PD_NET goes off: the queues and tables of the machinery are lost, every link reads down, subscriptions deliver missing samples and the
publication schedules stop. -/
def State.netDown (s : State) : State :=
  let was := s
  let s := s.putBit Reg.ETH_STAT 4 false
  let s := (List.range 4).foldl (fun t p => (t.putBit Reg.ETH_STAT p false).putBit (Reg.ETH_PSTAT p) 0 false) s
  let s := s.ethMod (fun e => { e with queues := [], fdb := [], dup := [], fwd := [], fups := [], svp := [] })
  let s := (List.range 16).foldl (fun t n => t.setSvSlot n { t.svSlot n with store := [] }) s
  let s := (List.range 8).foldl (fun t g => t.setGpub g { t.gpub g with next := none }) s
  s.markPaths was

/-- PD_NET comes on: the machinery starts from the register contents, and the schedule of an enabled slot begins again. -/
def State.netUp (s : State) : State :=
  let s := (s.putBit Reg.ETH_STAT 4 true).redApply
  (List.range 8).foldl (fun t g =>
    when (t.bit (Reg.GPUB_CTRL g) 31 && !(t.gpub g).template.isEmpty)
      (fun u => u.setGpub g { u.gpub g with gaps := 0, next := some u.tb.cnt }) t) s

end Sys2Proof.Machine
end

