-- ==== Sys2Proof/Machine/Trip.lean ====
section
/-!
DEFINITION. Trip lines (chapter 08): sources, guard, the evaluation step with its pulse rules, breaker failure, destinations,
configuration, start and stop.
-/
namespace Sys2Proof.Machine
open Sys2Proof

def State.line (s : State) (n : Nat) : TripLine := SMap.get (fun _ => TripLine.init) s.lines n
def State.setLine (s : State) (n : Nat) (x : TripLine) : State :=
  { s with lines := SMap.set (fun _ => TripLine.init) s.lines n x }
def State.elem (s : State) (c : Nat) : ElemU := SMap.get (fun _ => ElemU.init) s.elems c
def State.setElem (s : State) (c : Nat) (x : ElemU) : State := { s with elems := SMap.set (fun _ => ElemU.init) s.elems c x }

/-! ### Sources and guard (R266, R272, R277) -/

/-- IFD output, breaker-failure current detector, group bit and coincidence output of cluster c. -/
def State.ifdOut (s : State) (c : Nat) : Bool := s.bit (Reg.IFD_STAT c) 0
def State.cdOut (s : State) (c : Nat) : Bool := s.bit (Reg.IFD_STAT c) 10
def State.fpdGroup (s : State) (c : Nat) : Bool := s.bit (Reg.FPD_STAT c) 8
def State.coinOut (s : State) (c : Nat) : Bool := s.bit (Reg.FPD_STAT c) 10

/-- Source i of R266. -/
def State.tlSource (s : State) (i : Nat) : Bool :=
  if i < 64 then (s.elem (i / 4)).posted.testBit (i % 4)
  else if i < 80 then s.fpdGroup (i - 64)
  else s.bit Reg.LTH_BITS (i - 80)

/-- Whether line n selects source i. -/
def State.tlSelects (s : State) (n i : Nat) : Bool :=
  if i < 32 then s.bit (Reg.TL_SRC0 n) i
  else if i < 64 then s.bit (Reg.TL_SRC1 n) (i - 32)
  else if i < 80 then s.bit (Reg.TL_SRC2 n) (i - 64)
  else s.bit (Reg.TL_SRC3 n) (i - 80)

/-- State of a line's breaker-failure timer: 0 IDLE, 1 ARMED, 2 OPERATED. -/
def State.bfState (s : State) (n : Nat) : Nat := s.fld (Reg.TL_STAT n) 28 27

/-- The breaker-failure input of line n: an operated timer names it as backup (R277). -/
def State.bfInput (s : State) (n : Nat) : Bool :=
  (List.range 64).any (fun m => decide (s.bfState m = 2) && decide (s.fld (Reg.TL_BF m) 29 24 = n))

/-- The selected active source of least index of line n; 112 is the breaker-failure input, none no active source. -/
def State.tlActive (s : State) (n : Nat) : Option Nat :=
  match (List.range 112).find? (fun i => s.tlSelects n i && s.tlSource i) with
  | some i => some i
  | none => if s.bfInput n then some 112 else none

/-- Whether the guard of line n holds. -/
def State.tlGuard (s : State) (n : Nat) : Bool :=
  let g := s.rd (Reg.TL_GUARD n)
  let mask (f : Nat → Bool) : Bool := (List.range 16).any (fun c => bitAt g c && f c)
  let base := match field g 31 30 with
    | 0 => mask s.ifdOut
    | 1 => mask s.coinOut
    | 2 => true
    | _ => false
  base || (bitAt g 29 && (List.range 32).any (fun i => s.bit (Reg.TL_SRC3 n) i && s.bit Reg.LTH_BITS i))

/-- Whether the enabled breaker-open input of line n indicates open (R271): never while the field link is down. -/
def State.tlOpen (s : State) (n : Nat) : Bool :=
  let p := s.rd (Reg.TL_PULSE n)
  bitAt p 29 && s.flkUp && (s.fioIn (field p 27 22) != bitAt p 28)

/-! ### The evaluation step (R267 to R270, R275) -/

/-- Elapsed counts in the minimum pulse of line n. -/
def State.tlMin (s : State) (n : Nat) : Nat := s.fld (Reg.TL_PULSE n) 9 0 * 250000

/-- Elapsed counts in the 3 s maximum. -/
def tlMax : Nat := 750000000

/-- The end condition that holds for an energised line, by R269's order: 1 MAX, 2 BO, 3 RELEASE. -/
def State.tlEndCause (s : State) (n : Nat) (src : Bool) : Option Nat :=
  let t := s.tb.cnt - (s.line n).grantAt
  let past := decide (s.tlMin n ≤ t)
  let p := s.rd (Reg.TL_PULSE n)
  let held := match field p 31 30 with
    | 0 => src
    | 1 => true
    | _ => src || s.cdOut (s.fld (Reg.TL_BF n) 23 20)
  if tlMax ≤ t then some 1
  else if s.tlOpen n && past then some 2
  else if past && !held then some 3
  else none

/-- A record of the block with its interrupt (R287). -/
def State.tlLog (s : State) (code n p0 p1 : Nat) : State := (s.irq (if code = 0x190 then 39 else 38)).log code n p0 p1

def State.setTl (s : State) (n st : Nat) : State := s.put (Reg.TL_STAT n) 31 29 st

/-- Line n is refused and waits (R275). -/
def State.tlDeny (s : State) (n : Nat) : State :=
  let s := (s.setTl n 2).setLine n { s.line n with waitAt := s.tb.cnt }
  let s := (s.putBit (Reg.TL_FLAG n) 0 true).putBit Reg.TRIP_STAT 0 true
  let s := s.count (Reg.TL_CNT n) 31 16 1
  s.tlLog 0x190 n (s.rd (Reg.TL_GUARD n)).toNat ((s.tlActive n).getD 0)

/-- Line n is granted (R268, R275, R277): its count, record and breaker-failure timer. -/
def State.tlGrant (s : State) (n : Nat) (waited : Bool) : State :=
  let us := if waited then satTo 4294967295 ((s.tb.cnt - (s.line n).waitAt) / 250) else 0
  let s := (s.setTl n 3).setLine n { s.line n with grantAt := s.tb.cnt }
  let s := s.count (Reg.TL_CNT n) 15 0 1
  let s := if s.bit (Reg.TL_BF n) 31 && s.bfState n == 0 then (s.put (Reg.TL_STAT n) 28 27 1).put (Reg.TL_STAT n) 12 0 0 else s
  s.tlLog 0x191 n us ((s.tlActive n).getD 0)

/-- The pulse of line n ends with a cause (R269). -/
def State.tlEnd (s : State) (n cause : Nat) (src : Bool) : State :=
  let us := (s.tb.cnt - (s.line n).grantAt) / 250
  let s := (s.setTl n (if src then 4 else 1)).setLine n { s.line n with cause := cause }
  let s := if cause = 1 then s.putBit (Reg.TL_FLAG n) 3 true else if cause = 2 then s.putBit (Reg.TL_FLAG n) 2 true else s
  s.tlLog 0x192 n cause us

/-- An energised line ends when a condition of R269 holds; a line just granted that stays energised queues its CAN object
(R278) as long as it is the line owner's (R45), which the sapwood does not. -/
def State.tlRun (s : State) (n : Nat) (src fresh : Bool) : State :=
  match s.tlEndCause n src with
  | some c => s.tlEnd n c src
  | none =>
    let obj := s.fld (Reg.TL_DST1 n) 24 16
    if fresh && s.bit (Reg.TL_DST1 n) 29 && s.heart && decide (s.owner (0x6000 + obj) = s.owner (0x4000 + n)) then
      s.canQueue (obj / 128) (obj % 128)
    else s

/-- One line at an evaluation step. -/
def State.tlLine (s : State) (n : Nat) : State :=
  let st := s.tlState n
  if st = 0 then s
  else
    let src := (s.tlActive n).isSome
    let g := s.tlGuard n
    let s := (s.putBit (Reg.TL_STAT n) 24 src).putBit (Reg.TL_STAT n) 25 g
    match st with
    | 1 => if !src then s else if g then (s.tlGrant n false).tlRun n src true else s.tlDeny n
    | 2 => if !src then s.setTl n 1 else if g then (s.tlGrant n true).tlRun n src true else s
    | 3 => s.tlRun n src false
    | _ => if src then s else s.setTl n 1

/-- Line n stops (R282). -/
def State.tlStop (s : State) (n : Nat) : State :=
  let s := s.putPair Reg.TL_RUN_LO n false
  (s.put (Reg.TL_STAT n) 31 27 0).put (Reg.TL_STAT n) 25 24 0

/-- Lines whose image claim has ended stop at IDLE with the timer IDLE (R283). -/
def State.tlRetire (s : State) : State :=
  s.ended.foldl (fun t x =>
    let n := x % 4096
    if resValid x = true ∧ x / 4096 = 4 ∧ t.tlState n = 1 ∧ t.bfState n = 0 then t.tlStop n else t) s

/-- The outputs of the block follow the line states (R278, R279, R286): TL_ENERG, TL_GOOSE with its state changes, field
commands. -/
def State.tlDrive (s : State) : State :=
  let en := packBits 64 (fun n => decide (s.tlState n = 3))
  let go := if s.sapwood then 0 else packBits 64 (fun n => en.testBit n && s.bit (Reg.TL_DST1 n) 30)
  let changed := idxWhere 64 (fun n => go.testBit n != s.pairBit Reg.TL_GOOSE_LO n)
  let s := (s.wr Reg.TL_ENERG_LO (w32 en)).wr Reg.TL_ENERG_HI (w32 (en / 4294967296))
  let s := (s.wr Reg.TL_GOOSE_LO (w32 go)).wr Reg.TL_GOOSE_HI (w32 (go / 4294967296))
  (if changed.isEmpty then s else s.gooseLines changed).fioDrive

/-- One pass of the block: every line at once on the inputs as they stand, then the outputs. -/
def State.tlPass (s : State) : State := ((List.range 64).foldl (fun t n => t.tlLine n) s).tlRetire.tlDrive

/-! ### Arc-flash coincidence (R255, R256) and the group bit (R253) -/

/-- The light channel of a cluster, and the light state it gives: 0 for a channel configured as output (R255). -/
def State.lightOf (s : State) (c : Nat) : Bool :=
  let n := s.fld (Reg.AF_CFG c) 21 16
  s.light.getLsbD n && !s.fioIsOut n

/-- Whether a signal is 1 or fell less than WINDOW ago. -/
def State.afWindow (s : State) (c : Nat) (now : Bool) (fell : Option Nat) : Bool :=
  now || fell.any (fun t => decide (s.tb.cnt < t + s.fld (Reg.AF_CFG c) 10 0 * 250))

/-- The coincidence logic and the group bit follow the FPD outputs and the light state (R253, R256). -/
def State.afStep (s : State) (c : Nat) : State :=
  let a := Reg.FPD_STAT c
  let d := s.det c
  let g := decide (s.fld a 7 0 &&& s.fld (Reg.FPD_GRP c) 7 0 ≠ 0)
  let light := s.lightOf c
  let gf := if d.g && !g then some s.tb.cnt else d.gFall
  let lf := if s.bit a 9 && !light then some s.tb.cnt else d.lightFall
  let s := s.detMod c (fun d => { d with g := g, gFall := gf, lightFall := lf })
  let en := s.bit (Reg.AF_CFG c) 31
  let coin := en && ((g && s.afWindow c light lf) || (light && s.afWindow c g gf))
  let rise := coin && !s.coinOut c
  let s := ((s.putBit a 9 light).putBit a 10 coin).putBit a 8 (if en then coin else g)
  if rise then (s.irq (48 + c / 4)).log 0x185 c s.tb.ns s.tb.sec else s

/-- Clusters whose shown light state is not what their channel gives: its direction has changed (R255). -/
def State.lightStale (s : State) : List Nat := idxWhere 16 (fun c => s.bit (Reg.FPD_STAT c) 9 != s.lightOf c)

/-- One evaluation step of the block (R267). A field channel whose direction it changes gives its new light state at the next one. -/
def State.tlStep (s : State) : State :=
  let s := s.tlPass
  match s.lightStale with
  | [] => s
  | l => (l.foldl (fun t c => t.afStep c) s).tlPass

/-- The coincidence logic and the group bit follow their inputs; the trip lines evaluate. -/
def State.afUpdate (s : State) (c : Nat) : State := (s.afStep c).tlStep

/-- The level at a channel's ball reaches the coincidence logic of every cluster that names it (R255); the trip lines then evaluate
once, on all that changed (R267). -/
def State.lightLevel (s : State) (ch : Nat) (on : Bool) : State :=
  let b := BitVec.ofNat 48 (2 ^ ch)
  let s := s.setLight (if on then s.light ||| b else s.light &&& ~~~ b)
  let l := idxWhere 16 (fun c => s.fld (Reg.AF_CFG c) 21 16 == ch)
  if l.isEmpty then s else (l.foldl (fun t c => t.afStep c) s).tlStep

/-- LIGHT_INPUT_EDGE: the level at a channel's ball changes. Its raw state follows at the next whole microsecond (R498, log entry 107). -/
def State.lightEdge (s : State) (ch : Nat) (on : Bool) : State :=
  let s := if s.light.getLsbD ch = on then s else s.lightLevel ch on
  s.rawEdge ch on (s.tb.sec * 1000000000 + s.tb.ns)

/-- FIO_CFG_WRITE with what follows from a changed direction: the command image and the light state (R255, R504). -/
def State.fioCfgCmd (s : State) (r : Req) (n : Nat) (v : Word) : State :=
  let s := (s.fioCfgWrite r n v).fioDrive
  match s.lightStale with
  | [] => s
  | l => (l.foldl (fun t c => t.afStep c) s).tlStep

def execFioCfgWrite (r : Req) (n : Fin 48) (v : Word) (s : State) : Host.Outcome State Fault Refusal :=
  s.access r (fun s => s.fioCfgCmd r n.val v)

/-- TL_MIN_ELAPSED of line n: the minimum time has passed. -/
def State.tlMinElapsed (s : State) (n : Nat) : State :=
  if s.tlState n ≠ 3 then s else (s.reachCnt ((s.line n).grantAt + s.tlMin n)).tlStep

def execTlMinElapsed (n : Fin 64) (s : State) : Host.Outcome State Fault Refusal := .next (s.tlMinElapsed n.val)

/-- TL_MAX_ELAPSED of line n: 3 s have passed since the grant. -/
def State.tlMaxElapsed (s : State) (n : Nat) : State :=
  if s.tlState n ≠ 3 then s else (s.reachCnt ((s.line n).grantAt + tlMax)).tlStep

def execTlMaxElapsed (n : Fin 64) (s : State) : Host.Outcome State Fault Refusal := .next (s.tlMaxElapsed n.val)

/-! ### Breaker failure (R277) -/

/-- The count of line n at the end of an entry phase of its cluster's region: CD = 1 counts, CD = 0 clears. -/
def State.bfAdvance (s : State) (n : Nat) : State :=
  let cd := s.cdOut (s.fld (Reg.TL_BF n) 23 20)
  match s.bfState n with
  | 1 =>
    if cd then s.count (Reg.TL_STAT n) 12 0 1
    else
      let s := s.put (Reg.TL_STAT n) 12 0 0
      if s.tlState n = 3 then s else s.put (Reg.TL_STAT n) 28 27 0
  | 2 => if cd then s else s.put (Reg.TL_STAT n) 28 27 0
  | _ => s

/-- The timers on cluster c's current detector advance, at the moment it is evaluated (R277). -/
def State.bfCluster (s : State) (c : Nat) : State :=
  (List.range 64).foldl (fun t n => if t.bit (Reg.TL_BF n) 31 && t.fld (Reg.TL_BF n) 23 20 == c then t.bfAdvance n else t) s

/-- BF_TIMER_EXPIRY of line n: its count has reached T_BF (R277, R287). -/
def State.bfExpire (s : State) (n : Nat) : State :=
  if s.bfState n ≠ 1 ∨ s.fld (Reg.TL_STAT n) 12 0 < s.fld (Reg.TL_BF n) 12 0 then s
  else
    let b := s.fld (Reg.TL_BF n) 29 24
    let s := s.put (Reg.TL_STAT n) 28 27 2
    let off := b2n (decide (s.tlState b = 0))
    (s.tlLog 0x193 n (off * 2147483648 + b) (s.fld (Reg.TL_BF n) 23 20)).tlStep

def execBfTimerExpiry (n : Fin 64) (s : State) : Host.Outcome State Fault Refusal := .next (s.bfExpire n.val)

/-! ### Configuration, key, start and stop (R276, R280 to R282) -/

/-- A discarded write (R280). -/
def State.tlCfgDeny (s : State) (n off reason : Nat) : State := (s.putBit Reg.TRIP_STAT 2 true).tlLog 0x197 n off reason

/-- Whether a requester may write for line n. -/
def State.tlMay (s : State) (r : Req) (n : Nat) : Bool := s.mayWrite280 r (0x4000 + n)

/-- Whether a value of per-line register k lies outside its range: MIN, BO_FIO, T_BF. -/
def tlRangeBad (k : Nat) (v : Word) : Bool :=
  (k == 5 && (decide (1000 < field v 9 0) || decide (47 < field v 27 22))) ||
  (k == 6 && (decide (field v 12 0 = 0) || decide (4800 < field v 12 0)))

/-- A write of per-line register k (0 to 3 SRC, 4 GUARD, 5 PULSE, 6 BF, 7 DST0, 8 DST1) of line n. -/
def State.tlCfgWrite (s : State) (r : Req) (n k : Nat) (v : Word) : State :=
  let off := k * 0x100 + 4 * n
  if !s.tlMay r n then s.tlCfgDeny n off 1
  else if s.tlRunning n then s.tlCfgDeny n off 2
  else if tlRangeBad k v then s.tlCfgDeny n off 3
  else if k = 4 ∧ !s.bit (Reg.TL_STAT n) 26 ∧ (field v 31 30 = 2 ∨ bitAt v 29) then s.tlCfgDeny n off 4
  else
    let m : Word := if k = 2 then 0xFFFF else if k = 4 then 0xE000FFFF else if k = 5 then 0xFFC003FF else if k = 6 then 0xBFF01FFF
      else if k = 8 then 0xE1FFFFFF else 0xFFFFFFFF
    s.wr (0x18000 + off) (v &&& m)

def execTlConfigWrite (r : Req) (n : Fin 64) (k : Fin 9) (v : Word) (s : State) : Host.Outcome State Fault Refusal :=
  s.access r (fun s => s.tlCfgWrite r n.val k.val v)

/-- A write of TRIP_KEY (R276). Key 0x96E1 is the first step of a sequence wherever it stands (log entry 153). -/
def State.tripKeyWrite (s : State) (r : Req) (v : Word) : State :=
  let n := field v 21 16
  let key := field v 15 0
  if !s.tlMay r n then s.tlCfgDeny n 0xC18 1
  else if key = 0x96E1 then s.setTripKey (some n)
  else if key = 0x1E69 ∧ s.tripKey = some n then
    ((s.setTripKey none).putBit (Reg.TL_STAT n) 26 true).tlLog 0x194 n 0 r.code
  else
    let s := s.setTripKey none
    if key = 0 then s else (s.putBit Reg.TRIP_STAT 3 true).tlLog 0x198 n v.toNat 0

def execTripKeyWrite (r : Req) (v : Word) (s : State) : Host.Outcome State Fault Refusal :=
  s.access r (fun s => s.tripKeyWrite r v)

/-- The first failed start check of line n with its resource (R281). -/
def State.tlStartFail (s : State) (n : Nat) : Option (Nat × Nat) :=
  let o := s.owner (0x4000 + n)
  let badDst := (List.range 48).find? (fun k => s.tlDst n k && !(decide (s.owner (fioRes k) = o) && s.fioIsOut k))
  let obj := s.fld (Reg.TL_DST1 n) 24 16
  let bk := s.fld (Reg.TL_BF n) 29 24
  let bo := s.fld (Reg.TL_PULSE n) 27 22
  if s.fld (Reg.TL_GUARD n) 31 30 = 3 ∨ s.fld (Reg.TL_PULSE n) 31 30 = 3 then some (1, 0)
  else match badDst with
    | some k => some (2, fioRes k)
    | none =>
      if s.bit (Reg.TL_DST1 n) 29 ∧ !(decide (s.owner (0x6000 + obj) = o) && s.bit (canObj (obj / 128) (obj % 128) 0) 30) then
        some (3, 0x6000 + obj)
      else if s.bit (Reg.TL_BF n) 31 ∧ (bk = n ∨ s.owner (0x4000 + bk) ≠ o) then some (4, 0x4000 + bk)
      else if s.bit (Reg.TL_PULSE n) 29 ∧ s.fioIsOut bo then some (5, fioRes bo)
      else none

/-- A write that sets the RUN bit of line n (R280, R281). -/
def State.tlRunSet (s : State) (r : Req) (n : Nat) : State :=
  if !s.tlMay r n then s.tlCfgDeny n (0xC00 + n / 32 * 4) 1
  else if s.tlRunning n then s
  else
    match s.tlStartFail n with
    | some (reason, res) => ((s.putBit (Reg.TL_FLAG n) 1 true).putBit Reg.TRIP_STAT 1 true).tlLog 0x196 n reason res
    | none =>
      let s := (s.putPair Reg.TL_RUN_LO n true).putBit (Reg.TL_STAT n) 26 false
      ((s.setTl n 1).tlLog 0x195 n (s.rd (Reg.TL_GUARD n)).toNat (s.rd (Reg.TL_PULSE n)).toNat).tlStep

def execTlRunSet (r : Req) (n : Fin 64) (s : State) : Host.Outcome State Fault Refusal :=
  s.access r (fun s => s.tlRunSet r n.val)

/-- A write that clears the RUN bit of line n (R280, R282). -/
def State.tlRunClear (s : State) (r : Req) (n : Nat) : State :=
  if !s.tlMay r n then s.tlCfgDeny n (0xC00 + n / 32 * 4) 1
  else if !s.tlRunning n then s
  else if s.tlState n = 1 ∧ s.bfState n = 0 then (s.tlStop n).fioDrive
  else (s.putBit Reg.TRIP_STAT 4 true).tlLog 0x199 n (s.rd (Reg.TL_STAT n)).toNat 0

def execTlRunClear (r : Req) (n : Fin 64) (s : State) : Host.Outcome State Fault Refusal :=
  s.access r (fun s => s.tlRunClear r n.val)

/-- A write of TL_RUN_LO (lo = true) or TL_RUN_HI with value v, judged bit by bit of what changes (R282). -/
def State.tlRunWrite (s : State) (r : Req) (lo : Bool) (v : Word) : State :=
  (List.range 32).foldl (fun t i =>
    let n := if lo then i else 32 + i
    let cur := t.pairBit Reg.TL_RUN_LO n
    if bitAt v i = cur then t else if cur then t.tlRunClear r n else t.tlRunSet r n) s

/-- A write at an offset of the TRIP block. -/
def State.tripWrite (s : State) (r : Req) (off : Nat) (v : Word) : State :=
  if off < 0x900 then s.tlCfgWrite r (off % 0x100 / 4) (off / 0x100) v
  else if off < 0xC00 ∧ !s.tlMay r (off % 0x100 / 4) then s.tlCfgDeny (off % 0x100 / 4) off 1
  else if off = 0xC00 then s.tlRunWrite r true v
  else if off = 0xC04 then s.tlRunWrite r false v
  else if off = 0xC18 then s.tripKeyWrite r v
  else s.regWrite (0x18000 + off) v

end Sys2Proof.Machine
end

