-- ==== Sys2Proof/Machine/Detect.lean ====
section
/-!
DEFINITION. The detectors beside the element core (chapter 07): the IFD with its lock, the breaker-failure current detector,
the fast-path detectors, arc-flash coincidence and the wavefront FIFO.
-/
namespace Sys2Proof.Machine
open Sys2Proof

/-- A discarded write of the chapter (R233, R629): CFG_DENY, the cluster's interrupt and PRIM_CFG_DENY. -/
def State.primDeny (s : State) (c off : Nat) (v : Word) : State :=
  ((s.putBit (Reg.CRV_STAT c) 0 true).irq c).log 0x188 c (0x10000000 + c * 0x200000 + off) v.toNat

/-! ### IFD criteria (R243 to R245) -/

/-- The lane that carries role r, by CL_ROLE in force; none where absent (R233). -/
def State.roleLane (s : State) (c r : Nat) : Option Nat :=
  let w := s.eff (Reg.CL_ROLE c)
  if bitAt w (4 * r + 3) then none else some (field w (4 * r + 2) (4 * r))

/-- N_H and N_C (R243). -/
def State.ifdWin (s : State) (c : Nat) : Nat × Nat := if s.bit (Reg.TRK_CFG c) 8 then (40, 80) else (48, 96)

/-- The values of slots k, k − 1, …, k − n + 1 of a lane, none unless all are there with INVALID = 0 (R245). -/
def histVals (h : List Slot) (k : Nat) : Nat → Option (List Int)
  | 0 => some []
  | n + 1 => match h.find? (fun x => x.idx = k), (if k = 0 then none else histVals h (k - 1) n) with
    | some x, some l => if bitAt x.word 7 then none else some (sampleValue x.word :: l)
    | some x, none => if n = 0 ∧ !bitAt x.word 7 then some [sampleValue x.word] else none
    | none, _ => none

/-- The history the IFD keeps of a lane. -/
def State.ifdLane (s : State) (c l : Nat) : List Slot := SMap.get (fun _ => []) (s.det c).hist l

/-- The newest n values of role r at its own newest slot, or at slot k. -/
def State.roleVals (s : State) (c r n : Nat) (k : Option Nat) : Option (List Int) :=
  match s.roleLane c r with
  | none => none
  | some l => match k, s.slotDue (8 * c + l) with
    | some k, _ => histVals (s.ifdLane c l) k n
    | none, some k => histVals (s.ifdLane c l) k n
    | none, none => none

def sumSq (l : List Int) : Int := l.foldl (fun a x => a + x * x) 0

/-- Threshold register of an IFD criterion: 0 PH, 1 RES, 2 DI, 3 UV. -/
def State.ifdThr (s : State) (c i : Nat) : Int := s.fld (Reg.IFD_THR_PH c + 4 * i) 22 0

/-- Whether the sum of squares of a window passes N_H × THR². -/
def State.ifdAbove (s : State) (c i : Nat) (x : Option (List Int)) : Bool :=
  let nh : Int := (s.ifdWin c).1
  x.any (fun l => decide (nh * s.ifdThr c i * s.ifdThr c i < sumSq l))

/-- The residual values: role IN, or the three phases at the newest slot all have delivered (R244). -/
def State.ifdRes (s : State) (c : Nat) : Option (List Int) :=
  let nh := (s.ifdWin c).1
  if !s.bit (Reg.IFD_CFG c) 4 then s.roleVals c 3 nh none
  else
    let lanes := [0, 1, 2].filterMap (fun r => s.roleLane c r)
    if lanes.length < 3 then none
    else
      let d := lanes.foldl (fun a l => max a (s.lane (8 * c + l)).delay) 0
      if s.tickNo < d then none
      else match s.roleVals c 0 nh (some (s.tickNo - d)), s.roleVals c 1 nh (some (s.tickNo - d)),
          s.roleVals c 2 nh (some (s.tickNo - d)) with
        | some a, some b, some e => some ((a.zip (b.zip e)).map (fun p => p.1 + p.2.1 + p.2.2))
        | _, _, _ => none

/-- The superimposed-current criterion for role r (R244). -/
def State.ifdDelta (s : State) (c r : Nat) : Bool :=
  let n := s.fld (Reg.IFD_CFG c) 25 24 + 1
  let nc := (s.ifdWin c).2
  match s.roleLane c r with
  | none => false
  | some l => match s.slotDue (8 * c + l) with
    | none => false
    | some k =>
      if k < nc then false
      else match histVals (s.ifdLane c l) k n, histVals (s.ifdLane c l) (k - nc) n with
        | some a, some b => (a.zip b).all (fun p => decide (s.ifdThr c 2 < ((p.1 - p.2).natAbs : Int)))
        | _, _ => false

/-- The enabled criteria that are true: [0] PH, [1] RES, [2] DI, [3] UV. -/
def State.ifdCriteria (s : State) (c : Nat) : Nat :=
  let cfg := s.rd (Reg.IFD_CFG c)
  let nh := (s.ifdWin c).1
  let ph := bitAt cfg 0 && [0, 1, 2].any (fun r => s.ifdAbove c 0 (s.roleVals c r nh none))
  let res := bitAt cfg 1 && s.ifdAbove c 1 (s.ifdRes c)
  let di := bitAt cfg 2 && [0, 1, 2].any (fun r => s.ifdDelta c r)
  let low (r : Nat) : Bool := (s.roleVals c r nh none).any (fun l => decide (sumSq l < nh * s.ifdThr c 3 * s.ifdThr c 3))
  let uv := bitAt cfg 3 && (if bitAt cfg 5 then [4, 5, 6].all low else [4, 5, 6].any low)
  b2n ph + 2 * b2n res + 4 * b2n di + 8 * b2n uv

/-- Whether some valid sample of the roles IA, IB, IC, IN that the entry phase has delivered exceeds CD_CFG.THR (R250). The word of a repeated
slot index is INVALID and does not (R141). -/
def State.cdAbove (s : State) (c : Nat) : Bool :=
  [0, 1, 2, 3].any (fun r => (s.roleLane c r).any (fun l =>
    let w := s.rd (s.protKey c l 0)
    !bitAt w 7 && decide ((s.fld (Reg.CD_CFG c) 22 0 : Int) < ((sampleValue w).natAbs : Int))))

/-- IFD_EVALUATE in the entry phase (R243 to R246, R250): what it finds shows at the end of the phase. -/
def State.ifdEvaluate (s : State) (c : Nat) : State :=
  let crit := if s.bit (Reg.IFD_CTRL c) 2 then 0 else s.ifdCriteria c
  let ab := s.cdAbove c
  s.detMod c (fun d => { d with
    runs := d.runs + 1, crit := crit, lastTrue := if crit ≠ 0 then some (d.runs + 1) else d.lastTrue,
    above := if ab then satTo 2 (d.above + 1) else 0, below := if ab then 0 else satTo 255 (d.below + 1) })

/-- Ticks of hold remaining while the output holds, none when it has expired (R246). -/
def State.ifdLeft (s : State) (c : Nat) : Option Nat :=
  let d := s.det c
  match d.lastTrue with
  | none => none
  | some t => let g := s.fld (Reg.IFD_HOLD c) 13 0; if d.runs - t ≤ g then some (g - (d.runs - t)) else none

/-- Whether DROP samples in a row show no excess (R250). -/
def State.cdDrops (s : State) (c : Nat) : Bool := decide (s.fld (Reg.CD_CFG c) 31 24 ≤ (s.det c).below)

/-- IFD_OUTPUT_UPDATE at the end of the entry phase: criteria, the output and CD (R246, R250). -/
def State.ifdPublish (s : State) (c : Nat) : State :=
  let d := s.det c
  let a := Reg.IFD_STAT c
  let s := s.put a 7 4 d.crit
  let left := s.ifdLeft c
  let s := s.put a 31 18 (left.getD 0)
  let s := if d.above = 2 then s.putBit a 10 true else if s.cdDrops c then s.putBit a 10 false else s
  let s := if left.isNone then s.putBit a 0 false else s
  if left.isSome && !s.ifdOut c then
    let s := ((s.putBit a 0 true).putBit a 8 true).count (Reg.IFD_CNT c) 31 0 1
    (s.irq c).log 0x183 c d.crit s.tick.idx
  else s

/-- IFD_HOLD_EXPIRY: the hold has run out and the output falls at the end of the entry phase (R246). -/
def State.ifdExpire (s : State) (c : Nat) : State :=
  if decide (s.clPhase c = .entry) && s.ifdOut c && (s.ifdLeft c).isNone then (s.putBit (Reg.IFD_STAT c) 0 false).tlStep else s

def execIfdHoldExpiry (c : Fin 16) (s : State) : Host.Outcome State Fault Refusal := .next (s.ifdExpire c.val)

/-- CD_DROPOUT: DROP samples in a row without an excess, found in the entry phase; the breaker-failure counts on this detector clear
(R250, R277). -/
def State.cdDropout (s : State) (c : Nat) : State :=
  if decide (s.clPhase c = .entry) && s.cdOut c && s.cdDrops c then
    ((s.putBit (Reg.IFD_STAT c) 10 false).bfCluster c).tlStep
  else s

def execCdDropout (c : Fin 16) (s : State) : Host.Outcome State Fault Refusal := .next (s.cdDropout c.val)

/-! ### IFD lock, stop and restart (R248, R249) -/

/-- A write of IFD_KEY (R248). -/
def State.ifdKey (s : State) (c : Nat) (v : Word) : State :=
  let k := field v 15 0
  let armed := (s.det c).key
  let s := s.detMod c (fun d => { d with key := decide (k = 0xA5C3) })
  if k = 0x3C5A ∧ armed then ((s.putBit (Reg.IFD_CTRL c) 1 false).irq c).log 0x180 c 0 0
  else
    let s := s.putBit (Reg.IFD_CTRL c) 1 true
    if k = 0xA5C3 ∨ k = 0 then s else ((s.putBit (Reg.IFD_STAT c) 9 true).irq c).log 0x181 c v.toNat 0

def execIfdKeyWrite (c : Fin 16) (v : Word) (s : State) : Host.Outcome State Fault Refusal := .next (s.ifdKey c.val v)

def State.ifdLocked (s : State) (c : Nat) : Bool := s.bit (Reg.IFD_CTRL c) 1
def State.ifdStopped (s : State) (c : Nat) : Bool := s.bit (Reg.IFD_CTRL c) 2

/-- Offsets and writable bits of the locked registers: IFD_CFG, THR_PH, THR_RES, THR_DI, THR_UV, IFD_HOLD, CD_CFG. -/
def ifdReg (k : Nat) : Nat := if k < 5 then 0x80008 + 4 * k else if k = 5 then 0x8001C else 0x8002C
def ifdMask (k : Nat) : Word := if k = 0 then 0x0300003F else if k < 5 then 0x7FFFFF else if k = 5 then 0x3FFF else 0xFF7FFFFF

/-- A write accepted by the lock: judged by R629, then stored. -/
def State.ifdStore (s : State) (c k : Nat) (v : Word) : State :=
  if (k = 5 ∧ 9600 < field v 13 0) ∨ (k = 6 ∧ field v 31 24 = 0) then s.primDeny c (ifdReg k) v
  else s.wr (clusterKey c (ifdReg k)) (v &&& ifdMask k)

/-- A write of a lockable register: discarded unless unlocked and stopped (R248). -/
def State.ifdLockedWrite (s : State) (c k : Nat) (v : Word) : State :=
  if s.ifdLocked c || !s.ifdStopped c then s else s.ifdStore c k v

def execIfdLockedWrite (c : Fin 16) (k : Fin 7) (v : Word) (s : State) : Host.Outcome State Fault Refusal :=
  .next (s.ifdLockedWrite c.val k.val v)

/-- Whether a role map gives one lane to two roles that are not absent (R233). -/
def roleClash (v : Word) : Bool :=
  let ls := (List.range 8).filterMap (fun r => if bitAt v (4 * r + 3) then none else some (field v (4 * r + 2) (4 * r)))
  (List.range 8).any (fun l => decide (1 < (ls.filter (fun x => decide (x = l))).length))

/-- CL_ROLE past the lock. -/
def State.roleStore (s : State) (c : Nat) (v : Word) : State :=
  if roleClash v then s.primDeny c 0x80028 v else s.wr (Reg.CL_ROLE c) v

/-- CL_ROLE_WRITE (R233, R248). -/
def State.clRoleWrite (s : State) (c : Nat) (v : Word) : State :=
  if s.ifdLocked c || !s.ifdStopped c then s else s.roleStore c v

def execClRoleWrite (c : Fin 16) (v : Word) (s : State) : Host.Outcome State Fault Refusal := .next (s.clRoleWrite c.val v)

/-- PENDING of IFD_CTRL follows the requests. -/
def State.ifdPending (s : State) (c : Nat) : State :=
  s.putBit (Reg.IFD_CTRL c) 31 ((s.det c).stopReq || (s.det c).startReq)

/-- RUN = 0 past the lock: a stop at the next tick start (R249). -/
def State.ifdStopReq (s : State) (c : Nat) : State :=
  let st := s.ifdStopped c
  ((s.putBit (Reg.IFD_CTRL c) 0 false).detMod c (fun d => { d with stopReq := !st, startReq := false })).ifdPending c

/-- RUN = 1 past the lock: a restart of a stopped IFD at the next tick start (R249). -/
def State.ifdStartReq (s : State) (c : Nat) : State :=
  let st := s.ifdStopped c
  ((s.putBit (Reg.IFD_CTRL c) 0 true).detMod c (fun d => { d with stopReq := false, startReq := st })).ifdPending c

/-- IFD_RUN_STOP: a write of IFD_CTRL with RUN = 0. -/
def execIfdRunStop (c : Fin 16) (s : State) : Host.Outcome State Fault Refusal :=
  .next (if s.ifdLocked c.val then s else s.ifdStopReq c.val)

/-- IFD_RUN_START: a write of IFD_CTRL with RUN = 1. -/
def execIfdRunStart (c : Fin 16) (s : State) : Host.Outcome State Fault Refusal :=
  .next (if s.ifdLocked c.val then s else s.ifdStartReq c.val)

/-- IFD_STOP_APPLY: the IFD stops; its output is 0 and the hold is cleared (R249). -/
def State.ifdStopApply (s : State) (c : Nat) : State :=
  if !(s.det c).stopReq then s
  else
    let s := (s.detMod c (fun d => { d with stopReq := false, lastTrue := none, crit := 0 })).ifdPending c
    let s := s.putBit (Reg.IFD_CTRL c) 2 true
    (((s.put (Reg.IFD_STAT c) 31 18 0).put (Reg.IFD_STAT c) 7 4 0).putBit (Reg.IFD_STAT c) 0 false).tlStep

def execIfdStopApply (c : Fin 16) (s : State) : Host.Outcome State Fault Refusal := .next (s.ifdStopApply c.val)

/-- What a restart of the IFD does: it locks, the role map takes effect, and it is recorded (R233, R249). -/
def State.ifdRestart (s : State) (c : Nat) : State :=
  let s := (s.putBit (Reg.IFD_CTRL c) 2 false).putBit (Reg.IFD_CTRL c) 1 true
  let s := s.setEff (Reg.CL_ROLE c) (s.rd (Reg.CL_ROLE c))
  let s := s.detMod c (fun d => { d with startReq := false, stopReq := false, lastTrue := none, crit := 0 })
  ((s.ifdPending c).irq c).log 0x182 c (s.rd (Reg.IFD_CFG c)).toNat (s.fld (Reg.IFD_HOLD c) 13 0 * 65536)

/-- IFD_RESTART_APPLY. -/
def execIfdRestartApply (c : Fin 16) (s : State) : Host.Outcome State Fault Refusal :=
  .next (if (s.det c.val).startReq then s.ifdRestart c.val else s)

/-! ### Arc-flash coincidence (R255, R256) -/

def execLightInputEdge (ch : Fin 48) (on : Bool) (s : State) : Host.Outcome State Fault Refusal := .next (s.lightEdge ch.val on)

/-- COIN_WINDOW_EXPIRY: W after the last fall of the light state or of the OR of the FPD outputs (R256). -/
def State.coinExpire (s : State) (c : Nat) (light : Bool) : State :=
  let d := s.det c
  match (if light then d.lightFall else d.gFall) with
  | none => s
  | some t => (s.reachCnt (t + s.fld (Reg.AF_CFG c) 10 0 * 250)).afUpdate c

def execCoinWindowExpiry (c : Fin 16) (light : Bool) (s : State) : Host.Outcome State Fault Refusal :=
  .next (s.coinExpire c.val light)

/-- AF_CFG_WRITE: a write that leaves EN = 1 needs a light channel of the CFG image; then the ranges of R629 (R255). -/
def State.afCfgWrite (s : State) (c : Nat) (v : Word) : State :=
  let n := field v 21 16
  let o := s.owner (fioRes n)
  if bitAt v 31 ∧ n ≤ 47 ∧ o ≠ 3 then
    ((s.putBit (Reg.FPD_STAT c) 11 true).irq (16 + c / 4)).log 0x186 c v.toNat o
  else if 47 < n ∨ 2000 < field v 10 0 then s.primDeny c 0x80124 v
  else (s.wr (Reg.AF_CFG c) (v &&& 0x803F07FF)).afUpdate c

def execAfCfgWrite (c : Fin 16) (v : Word) (s : State) : Host.Outcome State Fault Refusal := .next (s.afCfgWrite c.val v)

/-! ### Wavefront FIFO (R257 to R259) -/

/-- WF_STAT.COUNT and the head registers follow the FIFO; one that has become empty leaves values in the head's fields that the manual does
not state (log entry 136). -/
def State.wfShow (s : State) (c : Nat) : State :=
  let l := (s.det c).wf
  let had := s.fld (Reg.WF_STAT c) 4 0
  let s := s.put (Reg.WF_STAT c) 4 0 l.length
  match l with
  | [] =>
    if had = 0 then s
    else ((List.range 4).foldl (fun t i => t.wr (Reg.WF_H0 c + 4 * i)
      (Config.emptyHead (Reg.WF_H0 c + 4 * i) s.freeCtr &&& (if i = 2 then 0xFFFF001F else 0xFFFFFFFF))) s).drew
  | e :: _ => (List.range 4).foldl (fun t i => t.wr (Reg.WF_H0 c + 4 * i) (e.words.getD i 0)) s

end Sys2Proof.Machine

namespace Sys2Proof

/-- The lane of an entry. -/
def WfEntry.lane (e : WfEntry) : Nat := field (e.words.getD 2 0) 2 0

/-- Whether entry e comes before entry x: operates of one WB sample stand in lane order (R257). -/
def WfEntry.before (e x : WfEntry) : Bool :=
  decide (x.m = e.m) && decide (field (x.words.getD 2 0) 31 24 = field (e.words.getD 2 0) 31 24) && decide (e.lane < x.lane)

/-- The FIFO with one more entry. -/
def wfInsert (l : List WfEntry) (e : WfEntry) : List WfEntry := l.filter (fun x => !e.before x) ++ e :: l.filter (fun x => e.before x)

end Sys2Proof

namespace Sys2Proof.Machine
open Sys2Proof

/-- An entry reaches the FIFO, or is discarded when it holds 16 (R258). -/
def State.wfPush (s : State) (c : Nat) (e : WfEntry) : State :=
  let d := s.det c
  if 16 ≤ d.wf.length then
    let s := ((s.count (Reg.WF_STAT c) 31 16 1).detMod c (fun d => { d with wf := (wfInsert d.wf e).take 16, wfOver := true })).wfShow c
    if d.wfOver then s else (s.irq (52 + c / 4)).log 0x187 c (s.rd (Reg.WF_STAT c)).toNat 0
  else
    let s := (s.detMod c (fun d => { d with wf := wfInsert d.wf e })).wfShow c
    if d.wf = [] then s.irq (52 + c / 4) else s

/-- WF_POP and WF_FLUSH (R259). -/
def State.wfPop (s : State) (c : Nat) : State :=
  let l := (s.det c).wf.drop 1
  (s.detMod c (fun d => { d with wf := l, wfOver := if l = [] then false else d.wfOver })).wfShow c

def execWfPop (c : Fin 16) (s : State) : Host.Outcome State Fault Refusal := .next (s.wfPop c.val)

def execWfFlush (c : Fin 16) (s : State) : Host.Outcome State Fault Refusal :=
  .next ((s.detMod c.val (fun d => { d with wf := [], wfOver := false })).wfShow c.val)

/-! ### Fast-path detectors (R251, R252) -/

end Sys2Proof.Machine

namespace Sys2Proof

/-- The last three WB samples back to the last gap, newest first (R17, R251). -/
def FpdU.window (d : FpdU) : List Int := ((d.recent.take 3).takeWhile Option.isSome).filterMap id

/-- Whether any of the last three samples exceeds thr (R251): one before a gap counts, a missing one does not. -/
def FpdU.exceeds (d : FpdU) (thr : Nat) : Bool := (d.recent.take 3).any (fun w => w.any (fun x => decide (thr < x.natAbs)))

/-- The place, counted back from the newest, of the earliest sample of the window above thr, and how many are above. -/
def FpdU.above (d : FpdU) (thr : Nat) : Nat × Nat :=
  let idx := (List.range 3).filter (fun i => match d.window[i]? with
    | some w => decide (thr < w.natAbs)
    | none => false)
  (idx.foldl max 0, idx.length)

/-- The crossing time in ns of a running scale (R252): sample m1 of value b after a, none where a is missing. -/
def crossing (m1 thr : Nat) (a : Option Int) (b : Int) : Int :=
  let sg : Int := if b < 0 then -1 else 1
  let (num, den) : Int × Int := match a with
    | none => (1, 1)
    | some a =>
      let d := sg * b - sg * a
      let n := (thr : Int) - sg * a
      if d = 0 then (clampInt 0 1 (Config.zeroQuotient n 0), 1)
      else
        let (n, d) := if d < 0 then (-n, -d) else (n, d)
        (clampInt 0 d n, d)
  -- T(8(m1 − 1)) = 8(m1 − 1) × 625 000 / 9 216 ns
  let base : Int := 8 * ((m1 : Int) - 1) * 625000
  roundQ (base * 1000 * den + num * 542535 * 9216 - 508600 * 9216 * den) (9216 * 1000 * den.natAbs)

end Sys2Proof

namespace Sys2Proof.Machine
open Sys2Proof

/-- An FPD operates (R251, R252, R257): output, latch, record, wavefront entry; the group and the trip lines follow. -/
def State.fpdOperate (s : State) (ch m : Nat) (d : FpdU) : State :=
  let c := clOf ch
  let l := lnOf ch
  let cfg := s.rd (Reg.FPD_CFG c l)
  let thr := field cfg 14 0
  let i := (d.above thr).1
  let b := (d.recent.getD i none).getD 0
  let a := d.recent.getD (i + 1) none
  let sg : Int := if b < 0 then -1 else 1
  let t := (crossing (m - i) thr a b).toNat
  let (sec, ns) := splitNs t
  let s := (s.putBit (Reg.FPD_STAT c) l true).putBit (Reg.FPD_STAT c) (24 + l) true
  let s := s.setFpd ch { s.fpd ch with ops := d.ops + 1, opAt := t, opEp := s.epoch }
  let s := (s.irq (48 + c / 4)).log 0x184 ch ns (sec % 4294967296)
  let s := if bitAt cfg 30 then
      s.wfPush c { m := m, words := [w32 sec, w32 (s.tq * 1073741824 + ns),
        w32 (s.epoch * 16777216 + sec / 4294967296 % 256 * 65536 + b2n a.isNone * 16 + b2n (decide (b < 0)) * 8 + l),
        w32 (toField 16 (sg * a.getD 0) * 65536 + toField 16 (sg * b))] }
    else s
  s.afUpdate c

/-- WB sample m of lane ch reaches its FPD (R251); none is a missing sample. Settings count as they stand at a sample (R252). -/
def State.fpdStep (s : State) (ch m : Nat) (w : Option Int) : State :=
  let c := clOf ch
  let cfg := s.rd (Reg.FPD_CFG c (lnOf ch))
  let thr := field cfg 14 0
  let d : FpdU := { s.fpd ch with recent := (w :: (s.fpd ch).recent).take 256 }
  let n := (d.above thr).2
  let quiet := if d.exceeds thr then 0 else satTo 65536 (d.quiet + 1)
  let d := { d with quiet := quiet, spent := decide (field cfg 29 16 < quiet) }
  let s := s.setFpd ch d
  if bitAt cfg 31 && !s.bit (Reg.FPD_STAT c) (lnOf ch) && decide (2 ≤ n) then s.fpdOperate ch m d else s

/-- The source of a cluster's lanes changes (R106): its FPDs have no sample yet, and outputs that are 1 fall. -/
def State.fpdSilence (s : State) (c : Nat) : State :=
  let s := (List.range 8).foldl (fun t l =>
    t.setFpd (8 * c + l) { t.fpd (8 * c + l) with recent := [], quiet := 0, spent := false }) s
  if s.fld (Reg.FPD_STAT c) 7 0 = 0 then s else (s.put (Reg.FPD_STAT c) 7 0 0).afUpdate c

/-- FPD_STRETCH_END: no sample of the last three has exceeded for STRETCH further samples; the output falls (R251). -/
def State.fpdFall (s : State) (ch : Nat) : State :=
  let c := clOf ch
  if s.bit (Reg.FPD_STAT c) (lnOf ch) && (s.fpd ch).spent then
    (s.putBit (Reg.FPD_STAT c) (lnOf ch) false).afUpdate c
  else s

def execFpdStretchEnd (ch : Fin 128) (s : State) : Host.Outcome State Fault Refusal := .next (s.fpdFall ch.val)

end Sys2Proof.Machine
end

