-- ==== Sys2Proof/Machine/Track.lean ====
section
/-!
DEFINITION. The frequency tracker and the Farrow resampler of a cluster (chapter 04, R130 to R137, R628).
-/
namespace Sys2Proof
/-- 2π and the two limits of R132 in binary32, and the factor π. -/
def f2Pi : Word := 0x40C90FDB
def fLockIn : Word := 0x3BA3D70A
def fLockOut : Word := 0x3D4CCCCD

/-- The index of the tick of a second that holds a tag (R134). -/
def tickOfTag (tag : Nat) : Nat :=
  let k := tag * 3 / 625000
  if Machine.tickNs (k + 1) ≤ tag then k + 1 else k

/-- A finite binary32 value times 2^22, rounded to an integer (R83). -/
def flQ22 (w : Word) : Int :=
  match flOf w with
  | .fin s m e =>
    let x := flSigned s m
    if 0 ≤ e + 22 then x * ((2 ^ (e + 22).toNat : Nat) : Int) else roundQ x (2 ^ (-(e + 22)).toNat)
  | _ => 0

/-- Σ x_i × e^(−i2πi/N) in binary32, from sample 0 upward (R131). -/
def cycleSum (n : Nat) (ws : List Int) : Cx :=
  (ws.foldl (fun (p : Cx × Nat) x =>
    let tw (v : Int) : Word := (roundDyadic false v (-30)).1
    ((((fAdd p.1.1 (fMul (fOfInt x) (tw (twCos n p.2))).1).1), (fSub p.1.2 (fMul (fOfInt x) (tw (twSin n p.2))).1).1),
      p.2 + 1)) ((0, 0), 0)).1

end Sys2Proof

namespace Sys2Proof.Machine
open Sys2Proof

/-! ### Resampler -/

/-- φ at the start of the running tick, with its second (R134); the newest period is in force. -/
def State.alignTrk (s : State) (c : Nat) : State :=
  s.trkMod c (fun t => { t with
    phi := 3 * s.tick.idx * 4294967296, sec := s.tick.sec, align := false, start := s.tickNo, cuts := [],
    per := ((t.pers.getLast?).map (·.2)).getD t.per, pers := [] })

/-- N_TRK and REF_LANE for the tags the resampler has reached (R136). -/
def State.trkN (s : State) (c : Nat) : Nat := (((s.tracker c).cuts.head?).map (·.n)).getD (s.nTrk c)
def State.trkRef (s : State) (c : Nat) : Nat :=
  (((s.tracker c).cuts.head?).map (·.ref)).getD (field (s.eff (Reg.TRK_CFG c)) 2 0)

/-- The flags (INVALID, SETTLING, SATURATED) and weighted value of a TRK sample from the samples of its support, none where one
is absent; `early` says whether an absent one belongs to a tick that did not run, which makes it a settling sample (R135, R136). -/
def trkCombine (wts : List Int) (xs : List (Option (Int × Word))) (early : Bool) : Int × Bool × Bool × Bool :=
  let gone := xs.any (fun x => x.isNone)
  let has (i : Nat) : Bool := xs.any (fun x => x.any (fun y => bitAt y.2 i))
  let setl := has 6 || (gone && early)
  let acc := firSum wts (fun i => ((xs.getD i none).map (·.1)).getD 0)
  (out24 (sat32 (roundQ acc 65536)), has 7 || gone || setl, setl, has 5)

end Sys2Proof.Machine

namespace Sys2Proof

/-- Whether running index i lies before the first tick that ran since the cluster's restart or a time step (R136). -/
def TrkSet.early (x : TrkSet) (i : Int) : Bool := decide (i < ((x.from_ * (if x.sv then 1 else 3) : Nat) : Int))

/-- The running index and the fraction in 2^-16 of a set's phase: in REC periods, or in PROT periods under an SV source. -/
def TrkSet.place (x : TrkSet) : Nat × Nat :=
  if x.sv then (x.sec * 4800 + x.phi / 12884901888, x.phi % 12884901888 / 196608)
  else (x.sec * 14400 + x.phi / 4294967296, x.phi % 4294967296 / 65536)

end Sys2Proof

namespace Sys2Proof.Machine
open Sys2Proof

/-- The sample of a TRK support at running index i, of a set whose supports may reach tick x.from_ (R136): the REC sample of the lane, or
the PROT word of an SV source (R135, R137). A PROT index that a fall of SV_DELAY has skipped has none (log entry 179). -/
def State.trkSupport (s : State) (c l : Nat) (x : TrkSet) (i : Int) : Option (Int × Word) :=
  if x.early i then none
  else if x.sv then
    ((s.tracker c).sv.find? (fun y => ((y.1 : Nat) : Int) = i)).map (fun y =>
      let w := y.2.getD l 0
      (sampleValue w * 256, w))
  else ((s.lane (8 * c + l)).recs.find? (fun y => decide (((y.m : Nat) : Int) = i) && decide (y.epoch = s.epoch))).map (fun y => (y.z, y.word))

/-- Whether the lane interpolates with six points. -/
def State.sixPoint (s : State) (ch : Nat) : Bool := s.bit (kCFG ch) 30

/-- The TRK word of lane l of set x from the samples of its support as they stand (R135 to R137, R141, R152). -/
def State.trkWordAt (s : State) (c l : Nat) (x : TrkSet) : Word :=
  let ch := 8 * c + l
  if s.stopped ch then sampleWord 0 true false false x.sv x.tick
  else if (s.lane ch).settles x.tick then sampleWord 0 true true false x.sv x.tick
  else
    let (j, mu) := x.place
    let pts := farrowPts (s.sixPoint ch)
    let wts := pts.map (fun p => lagrange pts p mu)
    let xs := pts.map (fun p => s.trkSupport c l x ((j : Int) + p))
    let (v, inv, setl, sat) := trkCombine wts xs (pts.any (fun p => x.early ((j : Int) + p)))
    sampleWord v inv setl sat x.sv x.tick

/-- Places after the tag that lane ch needs (R129). -/
def State.trkAhead (s : State) (ch : Nat) : Nat := if s.sixPoint ch then 3 else 2

/-- Whether every sample that lane l's word of set x needs has come; for a lane that is stopped or without data, whether its time has
passed. -/
def State.trkReady (s : State) (c l : Nat) (x : TrkSet) : Bool :=
  let ch := 8 * c + l
  let i := x.place.1 + s.trkAhead ch
  if x.sv then (s.tracker c).sv.any (fun y => decide (i ≤ y.1))
  else if s.stopped ch || s.srcDown ch then decide (i * 625000 ≤ (s.tb.sec * 1000000000 + s.tb.ns) * 9)
  else decide (i < (s.lane ch).recM)

/-- The tick after a set's in which lane l has its word, as a distance: the lane's own delay (R62), with the samples ahead under an SV source
(R137). Other lanes of the cluster have no part in it (R24). -/
def State.trkDelay (s : State) (ch : Nat) (x : TrkSet) : Nat := (s.lane ch).delay + (if x.sv then s.trkAhead ch else 0)

end Sys2Proof.Machine

namespace Sys2Proof

/-- The tag of a phase in ns after its second (R134). -/
def trkTag (phi : Nat) : Nat := phi * 625000 / 38654705664

/-- The tick of the running scale that holds the next tag (R134). -/
def Tracker.tagTick (t : Tracker) : Nat := Machine.tickAbs t.sec (tickOfTag (trkTag t.phi))

/-- Once the tags reach the tick of a change of N_TRK or REF_LANE, φ is 3 × k of that tick (R136); the running cycle and the last angle
are discarded, with the samples of earlier tags that have yet to be formed (log entry 151). -/
def Tracker.cut (t : Tracker) : Tracker :=
  match t.cuts with
  | x :: rest => if Machine.tickAbs x.sec x.idx ≤ t.tagTick then
      { t with phi := 3 * x.idx * 4294967296, sec := x.sec, cuts := rest, cycle := [], theta := none,
               out := t.out.map (fun y => { y with ref := none }) } else t
  | [] => t

/-- The period a tag in tick k is formed with, and the ones that still lie ahead (R131). -/
def Tracker.perAt (t : Tracker) (k : Nat) : Nat := (((t.pers.filter (fun p => decide (p.1 ≤ k))).getLast?).map (·.2)).getD t.per

/-- The set of the next tag, with no word yet. -/
def Tracker.next (t : Tracker) (sv : Bool) (ref : Nat) : TrkSet :=
  { tick := t.tagTick, sec := t.sec, phi := t.phi, sv := sv, from_ := t.start, ref := some ref, words := [], pos := none, done := 0 }

/-- The next tag takes its place and φ advances for N_TRK = n (R134). -/
def Tracker.advance (t : Tracker) (x : TrkSet) (n : Nat) : Tracker :=
  let per := t.perAt x.tick
  let phi := t.phi + per * 1024 / n
  let wrap := decide (14400 * 4294967296 ≤ phi)
  { t with
    phi := if wrap then phi - 14400 * 4294967296 else phi, sec := if wrap then t.sec + 1 else t.sec,
    per := per, pers := t.pers.filter (fun p => decide (x.tick < p.1)), out := t.out ++ [x] }

/-- Word of lane l in a set, none where it is not formed yet. -/
def TrkSet.word (x : TrkSet) (l : Nat) : Option Word := SMap.get (fun _ => none) x.words l

end Sys2Proof

namespace Sys2Proof.Machine
open Sys2Proof

/-- The next tag of cluster c is noted. -/
def State.trkNote (s : State) (c : Nat) : State :=
  s.trkMod c (fun t => t.advance (t.next (s.isSv c) (s.trkRef c)) (s.trkN c))

/-- The tags before the running tick that are still ahead of the resampler are noted, up to n of them: a change of source leaves them to the
old source (R141). -/
def State.trkNotes (s : State) (c : Nat) : Nat → State
  | 0 => s
  | n + 1 =>
    if (s.tracker c).align || decide (s.tickNo ≤ (s.tracker c).tagTick) then s
    else ((s.trkMod c (fun t => t.cut)).trkNote c).trkNotes c n

/-- The words of set x whose samples have come are formed. -/
def State.trkFill (s : State) (c : Nat) (x : TrkSet) : TrkSet :=
  (List.range 8).foldl (fun y l => if (y.word l).isNone && s.trkReady c l y
    then { y with words := SMap.set (fun _ => none) y.words l (some (s.trkWordAt c l y)) } else y) x

/-- Every set takes the words whose samples have come; those of the reference lane go into the tracked cycle in the order of their tags
(R131, R134). -/
def State.trkForm (s : State) (c : Nat) : State :=
  let out := (s.tracker c).out.map (fun x => (x, s.trkFill c x))
  let new := out.filterMap (fun p => p.2.ref.bind (fun l => if (p.1.word l).isNone then p.2.word l else none))
  s.trkMod c (fun t => { t with out := out.map (·.2), cycle := t.cycle ++ new })

/-- Whether some lane has every sample the next TRK set needs. -/
def State.trkDue (s : State) (c : Nat) : Bool :=
  let x := (s.tracker c).next (s.isSv c) 0
  (List.range 8).any (fun l => s.trkReady c l x)

/-- The resampler notes the next tag of a cluster once a lane's samples for it have come, and forms what it can (R134). -/
def State.trkSample (s : State) (c : Nat) : State :=
  if !s.regionRuns (c / 4) || (s.tracker c).align then s
  else
    let s := s.trkMod c (fun t => t.cut)
    (if s.trkDue c then s.trkNote c else s).trkForm c

/-- TRK_SAMPLE of a cluster. -/
def execTrkSample (c : Fin 16) (s : State) : Host.Outcome State Fault Refusal := .next (s.trkSample c.val)

/-- The word of lane ch in a TRK set of tick k as it is delivered: the lane may have stopped, restarted, been synchronised or lost its
source since the set was formed (R18, R81, R82, R95, R96, R141, R152). -/
def State.trkOut (s : State) (ch k : Nat) (w : Word) : Word :=
  let l := s.lane ch
  let sv := bitAt w 4
  if s.stopped ch || decide (k < l.stopTo) then sampleWord 0 true false false sv k
  else if l.settles k then (if sv then sampleWord 0 true true false sv k else s.downWord ch (sampleWord 0 true true false sv k))
  else if sv then w else s.downWord ch w

/-- The lanes whose word of set x is due in the running tick. -/
def State.trkDueLanes (s : State) (c : Nat) (x : TrkSet) : List Nat :=
  idxWhere 8 (fun l => !x.done.testBit l && decide (x.tick + s.trkDelay (8 * c + l) x = s.tickNo))

/-- One set in the entry phase (R62, R164): with the first of its words it takes the next ring position, where the others are INVALID until
their own delay is over, and each lane's word is written there as it falls due (log entry 150). The answer is the set afterwards. -/
def State.deliverSet (s : State) (c : Nat) (x : TrkSet) : State × TrkSet :=
  match s.trkDueLanes c x with
  | [] => (s, x)
  | due =>
    let s := if x.pos.isNone then s.openTrk c x.tick x.sec (trkTag x.phi) x.sv else s
    let p := x.pos.getD (s.trkHead c)
    let s := due.foldl (fun t l => t.wrMem c (winKey c (trkAddr l p))
      (t.trkOut (8 * c + l) x.tick ((x.word l).getD (t.trkWordAt c l x)))) s
    (s.trkMod c (fun t => { t with got := due.foldl (fun m l => SMap.set (fun _ => 0) m l (SMap.get (fun _ => 0) m l + 1)) t.got }),
      { x with pos := some p, done := due.foldl (fun m l => m ||| 2 ^ l) x.done })

/-- The TRK words due in the running tick enter the windows, in the order of their tags; earlier ones are never delivered (R62, R137, R141).
Under an SV source the sets whose PROT samples have just come are formed first. A set is kept while a lane may still want it. -/
def State.deliverTrk (s : State) (c : Nat) : State :=
  let s := if s.isSv c then ((s.trkSample c).trkSample c).trkSample c else s
  let (s, out) := (s.tracker c).out.foldl (fun (p : State × List TrkSet) x =>
    let q := p.1.deliverSet c x
    (q.1, p.2 ++ [q.2])) (s.trkMod c (fun t => { t with got := [] }), [])
  s.trkMod c (fun t => { t with out := out.filter (fun x => decide (s.tickNo < x.tick + 20)) })

/-! ### Tracker -/

/-- T̂ within the limits of R133 and whether it was clamped. -/
def trkClamp (n : Nat) (per : Int) : Nat × Bool :=
  let lo : Int := if n = 128 then (1440000 * 4194304 + 7498) / 7499 else 192 * 4194304
  let hi : Int := 960 * 4194304
  if per < lo then (lo.toNat, true) else if hi < per then (hi.toNat, true) else (per.toNat, false)

/-- f̂ as TRK_FREQ shows it. -/
def trkFreq (per : Nat) : Nat := (roundQ (14400 * 70368744177664) per).toNat

/-- An update with the phase advance Δθ (R131 to R133). -/
def State.trkUpdate (s : State) (c : Nat) (dth : Word) : State :=
  let ksh := s.fld (Reg.TRK_CFG c) 14 12
  let per := (s.rd (Reg.TRK_PER c)).toNat
  let tf := (roundDyadic false per (-22)).1
  let tm := (fDiv tf (fAdd 0x3F800000 (fDiv dth f2Pi).1).1).1
  let inc := (fMul (fSub tm tf).1 (roundDyadic false 1 (-(ksh : Int))).1).1
  let (new, cl) := trkClamp (s.trkN c) (flQ22 (fAdd tf inc).1)
  let fo : Int := trkFreq per
  let fn : Int := trkFreq new
  let old := sext 32 (s.rd (Reg.TRK_ROCOF c)).toNat
  let r := old + roundQ (roundQ ((fn - fo) * 14400 * 16384) per - old) (2 ^ ksh)
  let mag := dth &&& 0x7FFFFFFF
  let inTol := flLt false (flOf mag) (flOf fLockIn)
  let outTol := !flLt false (flOf mag) (flOf fLockOut)
  let run := if inTol then (s.tracker c).run + 1 else 0
  let s := (s.wr (Reg.TRK_PER c) (w32 new)).wr (Reg.TRK_FREQ c) (w32 fn.toNat)
  let s := (s.wr (Reg.TRK_ROCOF c) (wInt (satS 32 r))).count (Reg.TRK_STAT c) 31 16 1
  let s := (s.trkMod c (fun t => { t with run := satTo 4 run })).putBit (Reg.TRK_STAT c) 1 false
  let s := if cl then s.putBit (Reg.TRK_STAT c) 2 true else s
  if outTol then s.putBit (Reg.TRK_STAT c) 0 false else if 4 ≤ run then s.putBit (Reg.TRK_STAT c) 0 true else s

/-- A cycle that is not used (R132). -/
def State.trkHold (s : State) (c : Nat) : State :=
  let was := s.bit (Reg.TRK_STAT c) 1
  let s := (s.putBit (Reg.TRK_STAT c) 1 true).putBit (Reg.TRK_STAT c) 0 false
  let s := s.trkMod c (fun t => { t with theta := none, run := 0 })
  if was then s else (s.irq (16 + c / 4)).log 0x163 c (s.rd (Reg.TRK_PER c)).toNat s.tick.idx

/-- Wrap a phase difference into (−π, π]. -/
def wrapAngle (d : Word) : Word :=
  if flLt false (flOf fPi) (flOf d) then (fSub d f2Pi).1
  else if !flLt false (flOf 0xC0490FDB) (flOf d) then (fAdd d f2Pi).1 else d

/-- TRK_CYCLE_COMPLETE: N_TRK samples of the reference lane complete a tracked cycle (R131, R132). -/
def State.trkCycle (s : State) (c : Nat) : State :=
  let t := s.tracker c
  let n := s.trkN c
  if t.cycle.length < n then s
  else
    let ws := t.cycle.take n
    let s := s.trkMod c (fun t => { t with cycle := t.cycle.drop n })
    let z := cycleSum n (ws.map sampleValue)
    let mag := (fMul (cMag z).1 (roundDyadic false (64 / (n / 2) : Nat) (-6)).1).1
    let weak := flLt false (flOf mag) (flOf (fOfInt (s.fld (Reg.TRK_CFG c) 31 16 * 256 : Nat)))
    if ws.any (fun w => bitAt w 7) || weak then s.trkHold c
    else
      let th := (cArg z).1
      let s := s.trkMod c (fun t => { t with theta := some th })
      match t.theta with
      | none => s
      | some o => s.trkUpdate c (wrapAngle (fSub th o).1)

def execTrkCycleComplete (c : Fin 16) (s : State) : Host.Outcome State Fault Refusal := .next (s.trkCycle c.val)

/-- A restart of the tracker with its cluster (R130, R134): T̂ at the rated period of FNOM as it stands, φ at the next tick arrival. -/
def State.trkRestart (s : State) (c : Nat) : State :=
  let per := if s.bit (Reg.TRK_CFG c) 8 then 0x3C000000 else 0x48000000
  let s := s.setTracker c { Tracker.init with restart := false, per := per }
  let s := (s.wr (Reg.TRK_PER c) (w32 per)).wr (Reg.TRK_FREQ c) (w32 (trkFreq per))
  (s.wr (Reg.TRK_ROCOF c) 0).put (Reg.TRK_STAT c) 1 0 0

/-- TRK_CFG_WRITE: reserved values discard it (R628); N_TRK and REF_LANE wait for the next tick start (R136), the rest is in
force at once. -/
def State.trkCfgWrite (s : State) (c : Nat) (v : Word) : State :=
  if field v 5 4 = 3 ∨ field v 14 12 = 0 ∨ field v 14 12 = 7 then s.putBit (Reg.TRK_STAT c) 3 true
  else
    let v := v &&& 0xFFFF7137
    let e := s.eff (Reg.TRK_CFG c)
    (s.wr (Reg.TRK_CFG c) v).setEff (Reg.TRK_CFG c) ((v &&& 0xFFFF7100) ||| (e &&& 0x37))

def execTrkCfgWrite (c : Fin 16) (v : Word) (s : State) : Host.Outcome State Fault Refusal := .next (s.trkCfgWrite c.val v)

/-- TRK_CFG_APPLY: a changed N_TRK or REF_LANE takes effect at the tick start k. Tags before it go on as they were; the first tag from
it on stands at φ = 3 × k and begins a new cycle (R136). A period outside the limit of the new N_TRK is clamped at the next update, not here
(R133, log entry 178). -/
def State.trkCfgApply (s : State) (c : Nat) : State :=
  let e := s.eff (Reg.TRK_CFG c)
  if e = s.rd (Reg.TRK_CFG c) then s
  else
    let cut : TrkCut := { sec := s.tick.sec, idx := s.tick.idx, n := s.nTrk c, ref := field e 2 0 }
    (s.setEff (Reg.TRK_CFG c) (s.rd (Reg.TRK_CFG c))).trkMod c (fun t => { t with cuts := t.cuts ++ [cut] })

def execTrkCfgApply (c : Fin 16) (s : State) : Host.Outcome State Fault Refusal := .next (s.trkCfgApply c.val)

end Sys2Proof.Machine
end

