-- ==== Sys2Proof/Machine/Afe.lean ====
section
/-!
DEFINITION. The AFE dies' clock PLL and start-up check (chapter 03, R81, R95, R96) and the source of a cluster's lanes (R104
to R106).
-/
namespace Sys2Proof.Machine
open Sys2Proof

/-! ### Clock PLL and start-up check -/

/-- AFE_PLL_UNLOCK: the AFE clock PLL loses lock; reported once until it locks again (R81). -/
def State.pllUnlock (s : State) : State :=
  if !s.bit (Reg.AFE_STAT 0) 0 && !s.bit (Reg.AFE_STAT 1) 0 then s
  else
    let s := (s.putBit (Reg.AFE_STAT 0) 0 false).putBit (Reg.AFE_STAT 1) 0 false
    ((((s.irq 16).irq 17).irq 18).irq 19).log 0x150 0 s.tick.idx 0

def execAfePllUnlock (s : State) : Host.Outcome State Fault Refusal := .next s.pllUnlock

/-- AFE_PLL_RELOCK: lock returns, the periods lie on the time base's grid again (R80), and every AFE-sourced lane restarts its chain (R81,
R140). -/
def State.pllRelock (s : State) : State :=
  if s.bit (Reg.AFE_STAT 0) 0 && s.bit (Reg.AFE_STAT 1) 0 then s
  else
    let s := ((s.putBit (Reg.AFE_STAT 0) 0 true).putBit (Reg.AFE_STAT 1) 0 true).alignAll
    (List.range 128).foldl (fun t ch => if t.isSv (clOf ch) then t else t.requestChain ch 5) s

def execAfePllRelock (s : State) : Host.Outcome State Fault Refusal := .next s.pllRelock

/-- The start-up check of a die begins (R95); CHECK_DONE tells of any check since the die was switched on. -/
def State.checkStart (s : State) (die : Nat) : State := s.putBit (Reg.AFE_STAT die) 3 true

/-- AFE_RECHECK: ignored while a check of the die runs or the die is off (R95). -/
def State.recheck (s : State) (die : Nat) : State :=
  if s.bit (Reg.AFE_STAT die) 3 || !s.dieOn die then s else s.checkStart die

def execAfeRecheck (die : Fin 2) (s : State) : Host.Outcome State Fault Refusal := .next (s.recheck die.val)

/-- The outcome of the check for channel j of a die, from the ratios 10 000 × measured / nominal of both paths (R95, R96,
R109); 0 for a path not measured. -/
def State.checkChannel (s : State) (die j : Nat) (fine coarse : Int) : State :=
  let ch := 64 * die + j
  let fails := decide (50 < (fine - 10000).natAbs) || decide (50 < (coarse - 10000).natAbs)
  let reg := if j < 32 then Reg.AFE_FAIL_LO die else Reg.AFE_FAIL_HI die
  let s := (s.putBit reg (j % 32) fails).putBit (kSST ch) 4 fails
  if fails then (s.irqRegion ch).log 0x151 ch (toField 16 fine * 65536 + toField 16 coarse) 0 else s

/-- AFE_CHECK_DONE: the check of a die ends; without a settled reference every channel fails unmeasured. The modulators
reconnect and the lanes restart (R95, R96); so they do, with CHECK_DONE set, where the reference has not settled (log entry 146). -/
def State.checkDone (s : State) (die : Nat) (refOk lockOk : Bool) (fine coarse : List Int) : State :=
  if !s.bit (Reg.AFE_STAT die) 3 then s
  else
    let s := (s.putBit (Reg.AFE_STAT die) 3 false).putBit (Reg.AFE_STAT die) 2 true
    let s := s.putBit (Reg.AFE_STAT die) 1 refOk
    let s := if lockOk then s.putBit (Reg.AFE_STAT die) 0 true else s
    (List.range 64).foldl (fun t j =>
      let t := t.checkChannel die j (if refOk then fine.getD j 0 else 0) (if refOk then coarse.getD j 0 else 0)
      let ch := 64 * die + j
      (t.loseLane ch).requestChain ch 6) s

def execAfeCheckDone (die : Fin 2) (refOk lockOk : Bool) (fine coarse : List Int) (s : State) :
    Host.Outcome State Fault Refusal :=
  .next (s.checkDone die.val refOk lockOk fine coarse)

/-! ### Source of the lanes (R104, R105) -/

/-- The fields of CL_SRC. -/
def srcBits : Word := 0x000F0F01

/-- The cluster, other than c, whose source is SV slot n, or will be: a slot that another cluster's waiting CL_SRC write names counts as taken
(R105, log entry 176). -/
def State.svTaken (s : State) (c n : Nat) : Option Nat :=
  let names (w : Word) : Bool := bitAt w 0 && decide (field w 11 8 = n)
  (List.range 16).find? (fun d => decide (d ≠ c) && (names (s.srcNow d) || names (s.rd (Reg.CL_SRC d))))

/-- CL_SRC_WRITE: refused under R105, otherwise in the register and, where it changes anything, waiting for the next tick
start (R104). -/
def State.clSrcWrite (s : State) (c : Nat) (v : Word) : State :=
  let s := if bitAt v 30 then s.putBit (Reg.CL_SRC c) 30 false else s
  let n := field v 11 8
  let refuse (t : State) (who : Nat) : State := ((t.putBit (Reg.CL_SRC c) 30 true).irq c).log 0x155 c v.toNat who
  if bitAt v 0 && s.owner (0x7000 + n) == 0 then refuse s 0xFFFFFFFF
  else match (if bitAt v 0 then s.svTaken c n else none) with
    | some d => refuse s d
    | none =>
      let w := v &&& srcBits
      (s.wr (Reg.CL_SRC c) (w ||| (s.rd (Reg.CL_SRC c) &&& 0x40000000))).putBit (Reg.CL_SRC c) 31
        (decide (w ≠ s.srcNow c &&& srcBits))

def execClSrcWrite (c : Fin 16) (v : Word) (s : State) : Host.Outcome State Fault Refusal := .next (s.clSrcWrite c.val v)

/-- A restart of a cluster at the running tick (R130, R134, R164). TRK samples of tags before it are delivered as computed, from the samples
of the source they have (R141); they take new ring positions and have no part in the new tracked cycle. -/
def State.clusterRestart (s : State) (c : Nat) : State :=
  let k := s.tracker c
  (((s.clearWindows c).trkRestart c).alignTrk c).trkMod c (fun t => { t with
    out := k.out.map (fun x => { x with pos := none, ref := none }), sv := k.sv })

end Sys2Proof.Machine

namespace Sys2Proof

/-- A lane whose source changes (R104, R106, R141): slots before the running tick come from the old source. Towards an SV source no WB
sample is produced any more and the FPD's output is 0; from one, WB samples begin with the next period. -/
def Lane.newSource (l : Lane) (old : Word) (sv : Bool) (no delay : Nat) : Lane :=
  { l with delay := delay, srcOld := old, srcFrom := no, wbM := if sv then l.wbM else (l.per + 7) / 8 }

end Sys2Proof

namespace Sys2Proof.Machine
open Sys2Proof

/-- A cluster begins to use SV slot n: nothing of an earlier use counts (R449). -/
def State.svBegin (s : State) (n : Nat) : State :=
  s.setSvSlot n { s.svSlot n with store := [], miss := 0, since := s.tickNo }

/-- SRC_CHANGE: the written source takes effect at the tick start (R104): a change of SRC or SLOT restarts the lanes and the
cluster; a change of SV_DELAY alone only moves the delay. -/
def State.srcChange (s : State) (c : Nat) : State :=
  let w := s.rd (Reg.CL_SRC c) &&& srcBits
  let old := s.srcNow c &&& srcBits
  if w = old then s
  else
    let was := s.expectDiff c
    let s := (s.putBit (Reg.CL_SRC c) 31 false)
    let full := decide (w &&& 0xF01 ≠ old &&& 0xF01)
    let s := (if full then s.trkNotes c 64 else s).setClSrc c w
    let s := when (full && bitAt w 0) (fun t => t.svBegin (field w 11 8)) s
    let s := (List.range 8).foldl (fun t l =>
      let ch := 8 * c + l
      if full then (t.laneMod ch (fun x => x.newSource old (t.isSv c) t.tickNo (t.delayNow ch))).settleEvent ch 3 0
      else t.laneMod ch (fun x => { x with delay := t.delayNow ch })) s
    let s := if full then (s.log 0x154 c (s.rd (Reg.CL_SRC c)).toNat s.tick.idx).clusterRestart c else s
    let s := if full then s.fpdSilence c else s
    s.expectCheck c was

def execSrcChange (c : Fin 16) (s : State) : Host.Outcome State Fault Refusal := .next (s.srcChange c.val)

end Sys2Proof.Machine
end

