-- ==== Sys2Proof/Machine/Comtrade.lean ====
section
/-!
DEFINITION. The text of COMTRADE files (R358, R359) as IEEE C37.111-2013 lays it out (log entry 88): the lines of the configuration file, the
ASCII data file and the header file. What the standard leaves to who writes the file is `Config.comField`.
-/
namespace Sys2Proof

/-- A text as bytes. -/
def textBytes (s : String) : Bytes := s.toList.map (fun c => BitVec.ofNat 8 c.toNat)

/-- The lowest w decimal digits of a number. -/
def decPad : Nat → Nat → Bytes
  | 0, _ => []
  | w + 1, n => decPad w (n / 10) ++ [BitVec.ofNat 8 (48 + n % 10)]

/-- How many decimal digits a number below 10^fuel has. -/
def decLen : Nat → Nat → Nat
  | 0, _ => 1
  | f + 1, n => if n < 10 then 1 else 1 + decLen f (n / 10)

/-- A number in decimal. -/
def decText (n : Nat) : Bytes := decPad (decLen 400 n) n

/-- A number with its sign. -/
def intText (x : Int) : Bytes := (if x < 0 then textBytes "-" else []) ++ decText x.natAbs

/-- n / 10^k in decimal, with k decimal places. -/
def fracText (neg : Bool) (n k : Nat) : Bytes :=
  (if neg then textBytes "-" else []) ++ decText (n / 10 ^ k) ++ textBytes "." ++ decPad k n

/-- Fields of a line, with the line's end. -/
def comLine (l : List Bytes) : Bytes := ([44] : Bytes).intercalate l ++ [13, 10]

/-- The factor a in volts (R359): mult × 244.140625 nV × the binary32 scale, which is m × 2^e; 244.140625 nV is 2^-12 mV. A scale that
is not a number gives free text. -/
def comFactor (mult : Nat) (scale : Word) : Bytes :=
  let ex := field scale 30 23
  let mn := field scale 22 0
  if ex = 255 then Config.comField 8 [mult, scale.toNat]
  else
    let m := mult * (if ex = 0 then mn else 8388608 + mn)
    let e : Int := (if ex = 0 then -149 else (ex : Int) - 150) - 12
    if 0 ≤ e then fracText (bitAt scale 31) (m * 2 ^ e.toNat) 3
    else fracText (bitAt scale 31) (m * 5 ^ (-e).toNat) ((-e).toNat + 3)

/-- Year, month and day of a day counted from 1970-01-01. -/
def civil (days : Nat) : Nat × Nat × Nat :=
  let z := days + 719468
  let era := z / 146097
  let doe := z % 146097
  let yoe := (doe - doe / 1460 + doe / 36524 - doe / 146096) / 365
  let doy := doe - (365 * yoe + yoe / 4 - yoe / 100)
  let mp := (5 * doy + 2) / 153
  let m := if mp < 10 then mp + 3 else mp - 9
  (yoe + era * 400 + (if m ≤ 2 then 1 else 0), m, doy - (153 * mp + 2) / 5 + 1)

/-- A time in ns as date and time with nine decimal places. -/
def comTime (ns : Int) : Bytes :=
  let n := ns.toNat
  let sec := n / 1000000000
  let (y, m, d) := civil (sec / 86400)
  let t := sec % 86400
  comLine [decPad 2 d ++ textBytes "/" ++ decPad 2 m ++ textBytes "/" ++ decPad 4 y,
    decPad 2 (t / 3600) ++ textBytes ":" ++ decPad 2 (t / 60 % 60) ++ textBytes ":" ++ decPad 2 (t % 60) ++ textBytes "." ++ decPad 9 n]

/-- The name of a file type. -/
def comType (kind : Nat) : Bytes := textBytes (if kind = 0 then "ASCII" else if kind = 1 then "BINARY" else "BINARY32")

/-- The configuration file: station and rev_year 2013; the channels; each analogue channel with a, b = 0 and its skew in µs; the status
channels; one rate of 14 400 Hz up to the last sample; start and trigger time; file type, time multiplier, time codes (UTC) and time quality. -/
def comCfg (x : ComInfo) : Bytes :=
  let n := x.chans.length
  comLine [Config.comField 0 [], textBytes "2013"] ++
  comLine [decText (n + 112), decText n ++ textBytes "A", textBytes "112D"] ++
  x.chans.zipIdx.flatMap (fun p =>
    let sk := x.skew.getD p.2 0
    comLine [decText (p.2 + 1), Config.comField 1 [p.1], comFactor x.mult x.scale, textBytes "0", fracText (decide (sk < 0)) sk.natAbs 3,
      Config.comField 2 [p.1, x.kind]]) ++
  (List.range 112).flatMap (fun k => comLine [decText (k + 1), Config.comField 3 [k]]) ++
  comLine [Config.comField 4 []] ++ comLine [textBytes "1"] ++ comLine [textBytes "14400", decText x.rows.length] ++
  comTime x.start ++ comTime x.trigger ++ comLine [comType x.kind] ++ comLine [textBytes "1"] ++
  comLine [textBytes "0", Config.comField 5 []] ++ comLine [Config.comField 6 x.quality]

/-- The ASCII data file: each sample's number, no timestamp, its values and the 112 status channels. -/
def comAscii (x : ComInfo) : Bytes :=
  x.rows.zipIdx.flatMap (fun r => comLine ([decText (r.2 + 1), []] ++
    r.1.1.map (fun v => match v with
      | some y => intText y
      | none => Config.comField 7 []) ++
    (List.range 112).map (fun k => decText (if bitAt (r.1.2.getD (if k < 48 then k / 32 else 2 + (k - 48) / 32) 0)
      (if k < 48 then k % 32 else (k - 48) % 32) then 1 else 0))))

/-- The header file: free text, and a line for each time step inside the record: the number of its first sample and that sample's tag in ns. -/
def comHeader (x : ComInfo) : Bytes :=
  Config.comField 9 x.chans ++ x.steps.flatMap (fun p => comLine [textBytes "STEP", decText p.1, decText p.2])

end Sys2Proof
end

