-- ==== Sys2Proof/Machine/Time.lean ====
section
/-!
DEFINITION. The time base (chapter 12): start, modes, the servo, steps, the alarms and the time I/O pins. An event that
the time base raises at an instant of its own implies that the time has reached that instant (`reachTime`, `reachCnt`).
-/
namespace Sys2Proof.Machine
open Sys2Proof

/-! ### Time quality, errors, rate -/

/-- The nominal ADDEND, 4 ns (R396). -/
def nomAddend : Nat := 0x400000000

/-- A refused write or command (R428): the flag of TB_STAT, interrupt 28 and TB_CMD_ERR. flag 6 CMD_ERR, 7 CFG_DENY. -/
def State.tbErr (s : State) (flag cause : Nat) (v : Word) (off : Nat) : State :=
  ((s.putBit Reg.TB_STAT flag true).irq 28).log 0x1C7 cause v.toNat off

/-- The servo state of TB_STAT: 0 FREE, 1 ACQUIRE, 2 LOCKED, 3 HOLDOVER. -/
def State.servo (s : State) : Nat := s.fld Reg.TB_STAT 1 0

/-- The time quality of R402, R404 and R409. -/
def State.tqOf (s : State) : Nat :=
  if !s.tb.tqSet then 3
  else if s.tb.modeNow = 1 then s.fld Reg.TB_CTRL 11 10
  else if s.servo = 2 then 0
  else if s.servo ≠ 0 ∧ s.bit Reg.TB_STAT 4 then 1
  else 2

/-- TB_STAT shows the time quality, the epoch and what waits for the next tick start. -/
def State.tbShow (s : State) : State :=
  let s := s.put Reg.TB_STAT 3 2 s.tqOf
  let s := s.put Reg.TB_STAT 31 24 s.epoch
  (s.putBit Reg.TB_STAT 11 s.tb.mode.isSome).putBit Reg.TB_STAT 10 s.tb.step.isSome

/-- The time has been set: NOT_SET ends and RTC_VALID is set (R402). -/
def State.timeSet (s : State) : State :=
  (s.tbMod (fun t => { t with tqSet := true })).putBit Reg.TB_RTC_STAT 0 true

/-- The servo changes state: interrupt 28 and TB_SERVO_STATE; LOCKED sets EVER_LOCKED and the time quality's validity
(R402, R409). -/
def State.setServo (s : State) (v : Nat) : State :=
  if s.servo = v then s
  else
    let s := s.put Reg.TB_STAT 1 0 v
    let s := if v = 2 then (s.putBit Reg.TB_STAT 4 true).timeSet else s
    let s := s.tbShow
    (s.irq 28).log 0x1C2 v (s.rd Reg.TB_LAST_OFFS).toNat (s.rd Reg.TB_RATE).toNat

/-- ADDEND for a rate r in 2^-8 ppb (R407). -/
def addendFor (r : Int) : Nat := (roundQ ((nomAddend : Int) * (256000000000 - r)) 256000000000).toNat

/-- Put a new ADDEND into force. -/
def State.setAddend (s : State) (a : Nat) : State :=
  (s.wr Reg.TB_ADDEND_LO (w32 a)).put Reg.TB_ADDEND_HI 7 0 (a / 4294967296)

/-- Steer at rate r (R407): TB_RATE and ADDEND. -/
def State.steer (s : State) (r : Int) : State :=
  ((s.tbMod (fun t => { t with rate := r })).wr Reg.TB_RATE (wInt r)).setAddend (addendFor r)

/-- The limit of R407: ±200 000 ppb in 2^-8 ppb. -/
def limRate (r : Int) : Int := clampInt (-51200000) 51200000 r

/-! ### Start and mode -/

/-- TB_CMD.OP = START: the boot service's, refused from the host and once the time base runs (R401, R630). -/
def State.tbCmdStart (s : State) (r : Req) (v : Word) : State :=
  if r.isHost ∨ s.started then s.tbErr 6 7 v 8
  else s.tbMod (fun t => { t with startReq := true })

def execTbCmdStart (r : Req) (s : State) : Host.Outcome State Fault Refusal :=
  s.access r (fun s => s.tbCmdStart r 0x10000000)

/-- RTC seconds (R401: 48 bits). -/
def State.rtcSec (s : State) : Nat := s.fld Reg.TB_RTC_SEC_HI 15 0 * 4294967296 + (s.rd Reg.TB_RTC_SEC_LO).toNat

/-- The epoch advances by one, modulo 256 (R403). -/
def State.nextEpoch (s : State) : State := s.put Reg.TB_EPOCH 7 0 (s.epoch + 1)

/-- TB_START: the first RTC second boundary after the start command (R401 to R403); the servo is FREE (R409), and the modulators are aligned
to the new time (R80). -/
def State.tbStart (s : State) : State :=
  if !s.tb.startReq then s
  else
    let s := s.pass (250000000 - s.tb.rtcSub)
    let valid := s.bit Reg.TB_RTC_STAT 0
    let sec := if valid then s.rtcSec else 0
    let s := s.tbMod (fun t => { t with
      sec := sec, ns := 0, frac := 0, startReq := false, tqSet := valid, first := true, fresh := true, lastUsed := none,
      lockRun := 0 })
    let s := (s.tickMod (fun t => { t with sec := sec, idx := 0, running := false })).alignAll
    let s := (s.put Reg.TB_STAT 1 0 0).putBit Reg.TB_STAT 4 false
    let s := ((s.putBit Reg.TB_STAT 5 true).nextEpoch).tbShow
    (s.irq 28).log 0x1C0 s.epoch sec (b2n valid)

def execTbStart (s : State) : Host.Outcome State Fault Refusal := .next s.tbStart

/-- TB_MODE_WRITE: a write of TB_CTRL. Reserved values discard it whole (R630); a change of MODE waits for the next tick
start and is refused while a step is pending (R404). -/
def State.tbCtrlWrite (s : State) (v : Word) : State :=
  if field v 11 10 = 3 ∨ field v 5 4 = 3 ∨ 2 ≤ field v 1 0 then s.tbErr 7 6 v 0
  else
    let was := s.fld Reg.TB_CTRL 1 0
    let s := s.wr Reg.TB_CTRL (v &&& 0xF33)
    if field v 1 0 ≠ was ∧ s.tb.step.isSome then (s.put Reg.TB_CTRL 1 0 was).tbShow.tbErr 6 2 v 0
    else
      let m := field v 1 0
      (s.tbMod (fun t => { t with mode := if m = t.modeNow then none else some m })).tbShow

def execTbModeWrite (v : Word) (s : State) : Host.Outcome State Fault Refusal := .next (s.tbCtrlWrite v)

/-- TB_MODE_APPLY: the change of MODE takes effect at the tick start; AUTO is entered in ACQUIRE with the integral the
ADDEND in force stands for (R404), and the last used sample still counts for R406. -/
def State.tbModeApply (s : State) : State :=
  match s.tb.mode, s.started with
  | none, _ => s
  | _, false => s
  | some m, true =>
    let s := s.tbMod (fun t => { t with mode := none, modeNow := m })
    if m = 0 then
      let i := limRate (roundQ (((nomAddend : Int) - (s.addend : Int)) * 256000000000) nomAddend)
      let s := s.tbMod (fun t => { t with
        integ := i, first := true, fresh := true, holdFrom := t.cnt, lockRun := 0 })
      (s.setServo 1).tbShow
    else (s.putBit Reg.TB_STAT 8 false).tbShow

def execTbModeApply (s : State) : Host.Outcome State Fault Refusal := .next s.tbModeApply

/-- TB_ADDEND_COMMIT: a write of TB_ADDEND_LO commits ADDEND within its range, in MANUAL only (R397, R404, R564). -/
def State.addendCommit (s : State) (r : Req) (lo : Word) : State :=
  let a := (s.held r Reg.TB_ADDEND_HI).toNat % 256 * 4294967296 + lo.toNat
  if s.tb.modeNow = 0 then s.tbErr 7 1 lo 0x1C
  else if a < 0x3FFBE76C9 ∨ 0x400418937 < a then s.tbErr 7 4 lo 0x1C
  else s.setAddend a

def execTbAddendCommit (r : Req) (lo : Word) (s : State) : Host.Outcome State Fault Refusal :=
  s.access r (fun s => s.addendCommit r lo)

/-- TB_SERVO_WRITE (R630). -/
def State.servoWrite (s : State) (v : Word) : State :=
  if field v 23 16 < 5 ∨ 12 < field v 11 8 ∨ 12 < field v 3 0 then s.tbErr 7 6 v 0x38
  else s.wr Reg.TB_SERVO (v &&& 0xFF0F0F)

def execTbServoWrite (v : Word) (s : State) : Host.Outcome State Fault Refusal := .next (s.servoWrite v)

/-- TB_CMD.OP = RESET_I: the integral returns to 0, in AUTO; in HOLDOVER the rate is the integral (R407). -/
def State.tbResetI (s : State) : State :=
  if s.tb.modeNow = 0 then
    let s := s.tbMod (fun t => { t with integ := 0 })
    if s.servo = 3 then s.steer 0 else s
  else s

def execTbCmdResetI (r : Req) (s : State) : Host.Outcome State Fault Refusal :=
  s.access r (fun s => s.tbResetI)

/-! ### The servo -/

/-- Counter periods of a sample's interval: to 16 s, and 1 s for the first sample after ACQUIRE was entered (R406). -/
def State.sampleSpan (s : State) : Nat :=
  match s.tb.lastUsed with
  | some u => if s.tb.fresh then 250000000 else if s.tb.cnt - u > 4000000000 then 4000000000 else s.tb.cnt - u
  | none => 250000000

/-- A quotient of R407: θ (in 2^-32 ns) over T_s × 2^k, in 2^-8 ppb. -/
def servoTerm (th : Int) (n k : Nat) : Int := roundQ (th * 256 * 1000000000) (4294967296 * 4 * n * 2 ^ k)

/-- θ in ns for TB_LAST_OFFS, saturating; th is in 2^-32 ns. -/
def offsNs (th : Int) : Int := satS 32 (roundQ th 4294967296)

/-- The PI update of R407. -/
def State.piUpdate (s : State) (th : Int) (n : Nat) : State :=
  let p := servoTerm th n (s.fld Reg.TB_SERVO 3 0)
  let i := limRate (s.tb.integ + servoTerm th n (s.fld Reg.TB_SERVO 11 8))
  (s.tbMod (fun t => { t with integ := i })).steer (limRate (p + i))

/-- Whether |θ| exceeds a threshold in ns; th in 2^-32 ns. -/
def offAbove (th : Int) (ns : Nat) : Bool := decide (ns * 4294967296 < th.natAbs)

/-- The state table of R409 for a used sample, after FREE and HOLDOVER have given way to ACQUIRE. -/
def State.servoTrack (s : State) (th : Int) : State :=
  if s.servo = 2 then
    if offAbove th (s.fld Reg.TB_LOCK 31 16) then
      (s.tbMod (fun t => { t with fresh := true, lockRun := 0 })).setServo 1
    else s
  else
    let run := if offAbove th (s.fld Reg.TB_LOCK 15 0) then 0 else s.tb.lockRun + 1
    let s := s.tbMod (fun t => { t with lockRun := run })
    if 8 ≤ run then s.setServo 2 else s

/-- A used sample in AUTO (R407 to R409): the first-lock sample may request a step forward or begin a slew, every other
one updates the rate. -/
def State.servoUse (s : State) (th : Int) : State :=
  let s := if s.servo = 0 ∨ s.servo = 3 then
      (s.tbMod (fun t => { t with fresh := true, lockRun := 0 })).setServo 1 else s
  let n := s.sampleSpan
  let thr := (s.rd Reg.TB_STEP_THR).toNat
  let first := s.tb.first
  let s := s.tbMod (fun t => { t with lastUsed := some t.cnt, holdFrom := t.cnt, fresh := false, first := false })
  let s := s.count Reg.TB_SAMP 15 0 1
  let s := if first && offAbove th thr then
      if th < 0 then
        if s.tb.mode.isSome then s
        else (s.tbMod (fun t => { t with step := some { delta := -(roundQ th 4294967296), firstLock := true } })).tbShow
      else (s.putBit Reg.TB_STAT 8 true).steer 51200000
    else if s.bit Reg.TB_STAT 8 && offAbove th thr then s.steer 51200000
    else (s.putBit Reg.TB_STAT 8 false).piUpdate th n
  s.servoTrack th

/-- An offset sample θ in 2^-32 ns (R405, R406): in MANUAL, and before the start, it is only shown; less than 62.5 ms after the last used one it
is ignored and counted. -/
def State.servoSample (s : State) (th : Int) : State :=
  let s := s.wr Reg.TB_LAST_OFFS (wInt (offsNs th))
  if s.tb.modeNow ≠ 0 ∨ !s.started then s
  else
    match s.tb.lastUsed with
    | some u => if s.tb.cnt < u + 15625000 then s.count Reg.TB_SAMP 31 16 1 else s.servoUse th
    | none => s.servoUse th

/-- TB_OFFS_COMMIT: a write of TB_OFFS_LO commits the offset; with SRC = 0b10 it is a sample (R405, R564). -/
def State.offsCommit (s : State) (r : Req) (lo : Word) : State :=
  let hi := s.held r Reg.TB_OFFS_HI
  let s := (s.wr Reg.TB_OFFS_HI hi).wr Reg.TB_OFFS_LO lo
  if s.fld Reg.TB_CTRL 5 4 = 2 then
    s.servoSample ((sext 32 hi.toNat * 4294967296 + (lo.toNat : Int)) * 1000000000)
  else s

def execTbOffsCommit (r : Req) (lo : Word) (s : State) : Host.Outcome State Fault Refusal :=
  s.access r (fun s => s.offsCommit r lo)

/-- SERVO_HOLDOUT_EXPIRY: HOLD_TO without a used sample in ACQUIRE or LOCKED (R407, R409); in MANUAL, where no sample is used, ADDEND stays
the firmware's (R404). -/
def State.holdout (s : State) : State :=
  if s.servo = 1 ∨ s.servo = 2 then
    let s := s.reachCnt (s.tb.holdFrom + s.fld Reg.TB_SERVO 23 16 * 25000000)
    (when (s.tb.modeNow = 0) (fun t => t.steer t.tb.integ) s).setServo 3
  else s

def execServoHoldoutExpiry (s : State) : Host.Outcome State Fault Refusal := .next s.holdout

/-! ### UTC and RTC -/

/-- A write of TB_UTC: a leap it makes pending waits for an instant after it (R400). -/
def State.utcWrite (s : State) (v : Word) : State :=
  (s.wr Reg.TB_UTC (v &&& 0x8003FFFF)).tbMod (fun t => { t with leapFrom := some t.sec })

/-- LEAP_APPLY: a pending leap at the first instant after its write at which the UTC day ends (R400). Before the start no instant is
reached. -/
def State.leapApply (s : State) : State :=
  let u := s.rd Reg.TB_UTC
  let leap := field u 17 16
  let off := field u 15 0
  if (leap ≠ 1 ∧ leap ≠ 2) ∨ !s.started then s
  else
    let d := (s.tb.sec + 86400 * 65536 - off) % 86400
    let s := if d = 0 ∧ s.tb.leapFrom ≠ some s.tb.sec then s else s.reachTime ((s.tb.sec + (86400 - d)) * 1000000000)
    let new := if leap = 1 then (off + 1) % 65536 else (off + 65535) % 65536
    let s := (s.put Reg.TB_UTC 15 0 new).put Reg.TB_UTC 17 16 0
    (s.irq 28).log 0x1C6 leap off new

def execLeapApply (s : State) : Host.Outcome State Fault Refusal := .next s.leapApply

/-- RTC_ALIGN: at a second boundary in LOCKED the RTC takes SEC and its second boundary (R402). -/
def State.rtcAlign (s : State) : State :=
  if s.tq = 0 ∧ s.started then
    let s := (s.wr Reg.TB_RTC_SEC_LO (w32 s.tb.sec)).put Reg.TB_RTC_SEC_HI 15 0 (s.tb.sec / 4294967296)
    s.tbMod (fun t => { t with rtcSub := t.ns / 4 })
  else s

def execRtcAlign (s : State) : Host.Outcome State Fault Refusal := .next s.rtcAlign

/-! ### Latching reads -/

/-- A read of TB_TIME_FRAC latches the rest of the time value for its requester (R425, R563). -/
def State.timeFracRead (s : State) (r : Req) : State :=
  let t := s.tb
  let s := s.latch r Reg.TB_TIME_NS (w32 t.ns)
  let s := s.latch r Reg.TB_TIME_SEC_LO (w32 t.sec)
  (s.latch r Reg.TB_TIME_SEC_HI (w32 (t.sec / 4294967296))).answer r (w32 t.frac)

def execTbTimeFracRead (r : Req) (s : State) : Host.Outcome State Fault Refusal :=
  s.access r (fun s => s.timeFracRead r)

/-- A read of TB_CNT_LO latches TB_CNT_HI (R398, R563). -/
def State.cntRead (s : State) (r : Req) : State :=
  (s.latch r Reg.TB_CNT_HI (w32 (s.cntShown / 4294967296))).answer r (w32 s.cntShown)

def execTbCntLoRead (r : Req) (s : State) : Host.Outcome State Fault Refusal :=
  s.access r (fun s => s.cntRead r)

/-- A read of TICK_IDX latches the seconds of the same tick (R76). -/
def State.tickIdxRead (s : State) (r : Req) : State :=
  let s' := s.latch r Reg.TICK_SEC_LO (w32 s.tick.shownSec)
  (s'.latch r Reg.TICK_SEC_HI (w32 (s.tick.shownSec / 4294967296))).answer r (s.rd Reg.TICK_IDX)

def execTickIdxRead (r : Req) (s : State) : Host.Outcome State Fault Refusal :=
  s.access r (fun s => s.tickIdxRead r)

/-! ### Alarms -/

/-- A discarded write of an alarm or a refused ARM (R413, R415). -/
def State.almErr (s : State) (n : Nat) (v : Word) (off : Nat) : State :=
  ((s.putBit (Reg.ALM_STAT n) 3 true).irq 28).log 0x1C7 5 v.toNat (0x100 + 0x20 * n + off)

def State.armed (s : State) (n : Nat) : Bool := s.bit (Reg.ALM_CTRL n) 31

/-- The tick whose start is at ns of a second, if any (R53, R415). -/
def tickAt (ns : Nat) : Option Nat :=
  let k := (ns * 3 + 624999) / 625000
  if tickNs k = ns ∧ k < 4800 then some k else none

/-- A tick of the running scale as a time value in (second, ns). -/
def tickInstant (t : Nat) : Nat × Nat := (t / 4800, tickNs (t % 4800))

/-- The committed instant of an alarm. -/
def State.almInstant (s : State) (n : Nat) : Nat × Nat :=
  ((s.rd (Reg.ALM_SEC_HI n)).toNat * 4294967296 + (s.rd (Reg.ALM_SEC_LO n)).toNat, s.fld (Reg.ALM_NS n) 29 0)

/-- An instant in ns. -/
def inNs (p : Nat × Nat) : Nat := p.1 * 1000000000 + p.2

/-- The first instant of a periodic alarm's train that is later than t ns, from its instant a at tick k with period p
ticks. -/
def nextOfTrain (a k p t : Nat) : Nat × Nat :=
  let t0 := tickAbs a k
  let ta := tickAbs (t / 1000000000) 0 + (t % 1000000000 * 3 + 3) / 625000
  let i := if ta < t0 then 0 else (ta - t0) / p
  let c := tickInstant (t0 + i * p)
  if t < inNs c then c
  else
    let c := tickInstant (t0 + (i + 1) * p)
    if t < inNs c then c else tickInstant (t0 + (i + 2) * p)

/-- The instant an ARM would give, none where it is refused (R415). -/
def State.armInstant (s : State) (n : Nat) : Option (Nat × Nat) :=
  let a := s.almInstant n
  let now := inNs (s.tb.sec, s.tb.ns)
  if 999999999 < a.2 then none
  else if s.bit (Reg.ALM_CTRL n) 1 then
    match tickAt a.2 with
    | none => none
    | some k =>
      let p := (s.rd (Reg.ALM_PER n)).toNat
      if p = 0 then none else if now < inNs a then some a else some (nextOfTrain a.1 k p now)
  else if now < inNs a then some a
  else none

/-- A write of ALM_CTRL_n (R413): refused whole from another requester, with both commands, or with another PER while
armed; otherwise IE, PER and SYNC are taken and the command acts. -/
def State.almCtrlWrite (s : State) (r : Req) (n : Nat) (v : Word) : State :=
  if !s.mayWrite280 r (0x2000 + n) ∨ (bitAt v 30 ∧ bitAt v 29) ∨ (s.armed n ∧ bitAt v 1 ≠ s.bit (Reg.ALM_CTRL n) 1) then
    s.almErr n v 0
  else
    let s := s.wr (Reg.ALM_CTRL n) ((s.rd (Reg.ALM_CTRL n) &&& 0x80000000) ||| (v &&& 0xF))
    if bitAt v 29 then
      (s.putBit (Reg.ALM_CTRL n) 31 false).setAlm n { s.alm n with next := none }
    else if bitAt v 30 then
      match s.armInstant n with
      | none => s.almErr n v 0
      | some a => (s.putBit (Reg.ALM_CTRL n) 31 true).setAlm n { s.alm n with next := some a }
    else s

/-- ALM_ARM: a write of ALM_CTRL_n with ARM = 1. -/
def execAlmArm (r : Req) (n : Fin 16) (v : Word) (s : State) : Host.Outcome State Fault Refusal :=
  s.access r (fun s => s.almCtrlWrite r n.val (v ||| 0x40000000))

/-- ALM_DISARM: a write of ALM_CTRL_n with DISARM = 1. -/
def execAlmDisarm (r : Req) (n : Fin 16) (v : Word) (s : State) : Host.Outcome State Fault Refusal :=
  s.access r (fun s => s.almCtrlWrite r n.val (v ||| 0x20000000))

/-- A write of an alarm's other registers (R413, R426, R564): k = 1 SEC_LO, 2 SEC_HI, 3 NS, 4 PER; NS commits the
instant; PER = 0 is not accepted of a periodic alarm. -/
def State.almWrite (s : State) (r : Req) (n k : Nat) (v : Word) : State :=
  if k = 0 then s.almCtrlWrite r n (v &&& 0x9FFFFFFF)
  else if !s.mayWrite280 r (0x2000 + n) ∨ s.armed n then s.almErr n v (4 * k)
  else if k = 1 then s.hold r (Reg.ALM_SEC_LO n) v
  else if k = 2 then s.hold r (Reg.ALM_SEC_HI n) v
  else if k = 3 then
    let s1 := s.wr (Reg.ALM_SEC_LO n) (s.held r (Reg.ALM_SEC_LO n))
    let s2 := s1.wr (Reg.ALM_SEC_HI n) (s.held r (Reg.ALM_SEC_HI n))
    s2.wr (Reg.ALM_NS n) (v &&& 0x3FFFFFFF)
  else if k = 4 then
    if v = 0 ∧ s.bit (Reg.ALM_CTRL n) 1 then s.almErr n v 0x10 else s.wr (Reg.ALM_PER n) v
  else s

/-- A write of the remaining registers of an alarm, of which ALM_STAT_n clears its flags: the owner's too (R413). -/
def State.almStatWrite (s : State) (r : Req) (n k : Nat) (v : Word) : State :=
  if !s.mayWrite280 r (0x2000 + n) then s.almErr n v (4 * k) else s.regWrite (Reg.ALM_CTRL n + 4 * k) v

/-- ALM_WRITE: k = 0 is ALM_CTRL_n without a command. -/
def execAlmWrite (r : Req) (n : Fin 16) (k : Fin 5) (v : Word) (s : State) : Host.Outcome State Fault Refusal :=
  s.access r (fun s => s.almWrite r n.val k.val v)

/-- The first tick on the running scale whose start is at or after a time (R317). -/
def tickFrom (a : Nat × Nat) : Nat := tickAbs a.1 ((a.2 * 3 + 624999) / 625000)

/-- A metering interval closes at alarm instant a (R317, R318, R502): the pulse counts are frozen and the exchange slots
awaited; an earlier snapshot that no image has shown is lost. -/
def State.meterClose (s : State) (a : Nat × Nat) : State :=
  let m := s.meter
  let s := when (m.req.isSome || m.ready) (fun t => t.count Reg.METER_STAT 31 16 1) s
  let last := tickFrom a + s.fld Reg.METER_CFG 23 20 - 1
  (s.meterMod (fun _ => { m with req := some (a.1, a.2, s.epoch, last), ready := false })).fioMod (fun u =>
    { u with snapAt := some (a.1 * 1000000000 + a.2), snapBase := s.field_.counts, snapLeft := BitVec.allOnes 48, snapStale := false })

/-- The instant at or after which the Lathe's next turn starts under ALIGN = Alarm (R289). -/
def State.lthAlign (s : State) (x : Option Nat) : State := { s with lathe := { s.lathe with alignAt := x } }

/-- What a firing with alarm instant a does (R414, R418): FIRED, LAST, interrupt 29 with IE, and a re-alignment of the
selected AFE dies. The other consumers take the instant from the alarm's LAST and count of firings. -/
def State.fire (s : State) (n : Nat) (a : Nat × Nat) : State :=
  let s := s.putBit (Reg.ALM_STAT n) 0 true
  let s := (s.wr (Reg.ALM_LAST_NS n) (w32 a.2)).wr (Reg.ALM_LAST_SEC n) (w32 a.1)
  let s := s.setAlm n { s.alm n with last := a, lastEp := s.epoch, fires := (s.alm n).fires + 1 }
  let s := when (s.bit (Reg.ALM_CTRL n) 0) (fun t => t.irq 29) s
  let s := s.tbMod (fun t => { t with sync := t.sync ||| s.fld (Reg.ALM_CTRL n) 3 2 })
  let s := if s.fld Reg.LTH_CFG 31 30 = 2 ∧ s.fld Reg.LTH_CFG 27 24 = n ∧ s.owner (0x2000 + n) = 0x02 then s.lthAlign (some (inNs a)) else s
  if s.bit Reg.METER_CFG 31 && decide (s.fld Reg.METER_CFG 27 24 = n) && decide (s.owner (0x2000 + n) = 0x02) then s.meterClose a
  else s

/-- After a firing with instant a: a single alarm disarms, a periodic one goes on with the first instant of its train
later than t ns (R415, R417). -/
def State.afterFire (s : State) (n : Nat) (a : Nat × Nat) (t : Nat) : State :=
  if s.bit (Reg.ALM_CTRL n) 1 then
    let p := (s.rd (Reg.ALM_PER n)).toNat
    let k := (tickAt a.2).getD 0
    s.setAlm n { s.alm n with next := some (nextOfTrain a.1 k p t) }
  else (s.putBit (Reg.ALM_CTRL n) 31 false).setAlm n { s.alm n with next := none }

/-- Alarm n fires at its instant a. -/
def State.fireAt (s : State) (n : Nat) (a : Nat × Nat) : State := (s.fire n a).afterFire n a (inNs a)

/-- ALARM_FIRE: the time has reached the alarm's instant (R414, R415). Before the time base runs no instant is reached. -/
def State.alarmFire (s : State) (n : Nat) : State :=
  match (s.alm n).next with
  | none => s
  | some a =>
    let s := s.reachTime (inNs a)
    if inNs a ≤ inNs (s.tb.sec, s.tb.ns) then s.fireAt n a else s

def execAlarmFire (n : Fin 16) (s : State) : Host.Outcome State Fault Refusal := .next (s.alarmFire n.val)

/-- A read of ALM_LAST_NS_n latches the seconds (R426). -/
def State.almLastRead (s : State) (r : Req) (n : Nat) : State :=
  (s.latch r (Reg.ALM_LAST_SEC n) (s.rd (Reg.ALM_LAST_SEC n))).answer r (s.rd (Reg.ALM_LAST_NS n))

def execAlmLastNsRead (r : Req) (n : Fin 16) (s : State) : Host.Outcome State Fault Refusal :=
  s.access r (fun s => s.almLastRead r n.val)

/-- An armed alarm at a forward step from old to new ns (R417): its skipped instants, as the latest one and the number of
the others. -/
def State.skippedOf (s : State) (n : Nat) (old new : Nat) : Option ((Nat × Nat) × Nat) :=
  match (s.alm n).next with
  | none => none
  | some a =>
    if inNs a ≤ old ∨ new ≤ inNs a then none
    else if s.bit (Reg.ALM_CTRL n) 1 then
      let p := (s.rd (Reg.ALM_PER n)).toNat
      let t0 := tickAbs a.1 ((tickAt a.2).getD 0)
      let top := tickAbs (new / 1000000000) ((new % 1000000000 * 3 + 3) / 625000)
      let i0 := (top - t0) / p
      let i := if inNs (tickInstant (t0 + i0 * p)) < new then i0 else i0 - 1
      some (tickInstant (t0 + i * p), i)
    else some (a, 0)

/-- Handle the skipped instants of alarm n (R417): one firing with the latest, SKIPPED, MISSED, ALM_SKIPPED. -/
def State.skipAlarm (s : State) (n old new : Nat) : State :=
  match s.skippedOf n old new with
  | none => s
  | some (a, more) =>
    let s := s.fire n a
    let s := (s.putBit (Reg.ALM_STAT n) 2 true).count (Reg.ALM_STAT n) 31 16 more
    let s := (s.irq 29).log 0x1C3 n more a.2
    s.afterFire n a (new - 1)

/-- Alarms whose instant is exactly t ns fire, in ascending n (R414, R416). -/
def State.fireEqual (s : State) (t : Nat) : State :=
  (List.range 16).foldl (fun x n => match (x.alm n).next with
    | some a => if inNs a = t then x.fireAt n a else x
    | none => x) s

/-- Alarms due at or before t ns fire, in ascending n. -/
def State.fireDue (s : State) (t : Nat) : State :=
  (List.range 16).foldl (fun x n => match (x.alm n).next with
    | some a => if inNs a ≤ t then x.fireAt n a else x
    | none => x) s

/-! ### Steps -/

/-- The REC sample of the running scale whose window contains a time in ns (R111, R345). -/
def recStepOf (t : Nat) : Nat := t / 1000000000 * 14400 + (t % 1000000000 * 9 + 8) / 625000

/-- A time step by `d` ns to `t` ns moves the Blaze timers with the time scale and the steps to it (R345, R350). -/
def State.blzShift (s : State) (d : Int) (t : Nat) : State :=
  (List.range 4).foldl (fun x i =>
    let b := x.blzU i
    if b = BlzU.init then x
    else
      let mv (n : Nat) : Nat := ((n : Int) + d).toNat
      let tm := (List.range 4).foldl (fun m k => SMap.set (fun _ => none) m k
        ((SMap.get (fun _ => none) b.tmr k).map (fun p => (mv p.1, mv p.2)))) b.tmr
      let b := { b with step := recStepOf t, tmr := tm, inbox := b.inbox.map (fun e => (e.1, recStepOf t - 1, e.2.2)) }
      x.setBlz i b) s

/-- TB_CMD.OP = STEP (R410). -/
def State.tbCmdStep (s : State) (w : Word) : State :=
  let ns := s.fld Reg.TB_STEP_NS 29 0
  let sec := sext 48 (s.fld Reg.TB_STEP_SEC_HI 15 0 * 4294967296 + (s.rd Reg.TB_STEP_SEC_LO).toNat)
  let d : Int := sec * 1000000000 + (ns : Int)
  if s.tb.modeNow = 0 then s.tbErr 6 1 w 8
  else if s.tb.step.isSome ∨ s.tb.mode.isSome then s.tbErr 6 2 w 8
  else if 999999999 < ns then s.tbErr 6 6 w 8
  else if d = 0 ∨ (inNs (s.tb.sec, s.tb.ns) : Int) + d < 0 then s.tbErr 6 3 w 8
  else (s.tbMod (fun t => { t with step := some { delta := d, firstLock := false } })).tbShow

def execTbCmdStep (r : Req) (s : State) : Host.Outcome State Fault Refusal :=
  s.access r (fun s => s.tbCmdStep 0x20000000)

/-- The tick that starts next (R53). -/
def tickFollowing (t : TickU) : Nat × Nat :=
  if !t.running then (t.sec, t.idx) else if t.idx + 1 < 4800 then (t.sec, t.idx + 1) else (t.sec + 1, 0)

/-- The first tick at or after a time value (R74). -/
def firstTick (sec ns : Nat) : Nat × Nat :=
  let k := (ns * 3 + 624999) / 625000
  let k := if tickNs k < ns then k + 1 else k
  if k < 4800 then (sec, k) else (sec + 1, 0)

/-- The modulators of every channel of the dies in a 2-bit set are aligned to the current tick (R74, R80, R418); for an AFE-sourced lane
this is a synchronising reset, and what waits for delivery is discarded (R140, R141). -/
def State.syncDies (s : State) (dies : Nat) : State :=
  (List.range 128).foldl (fun t ch =>
    if !dies.testBit (ch / 64) then t
    else
      let t := t.laneMove ch (fun l => { l.realign (chainCfg (t.rd (kCFG ch))).p (3072 * t.tickNo) with prot := [] })
      if t.isSv (clOf ch) then t else t.settleEvent ch 2 (t.lane ch).delay) s

/-- A lane's slots on the scale after a time step (R74, R141): none has been delivered yet on it, and the settling slots an SV-sourced
lane still has to deliver go on. A fade goes on from the sample it has reached (R146). -/
def State.stepLane (s : State) (ch : Nat) : State :=
  let left := s.fld (kSTAT ch) 31 24
  let no := s.tickNo
  let p := (chainCfg (s.rd (kCFG ch))).p
  s.laneMod ch (fun l => { l with
    fadeComp := Fade.shift l.fadeComp (((3072 * no + p - 1) / p : Nat) - (l.stN : Int)),
    fadeFin := Fade.shift l.fadeFin ((3 * no : Nat) - (l.recM : Int)), lastSlot := none, stopTo := 0, srcFrom := 0, reset := no - l.delay, settleN := left, syncD := 0 })

/-- Where a pulse train goes on after a step: the first active edge at or after the new time; its index too (R424). -/
def trainAfter (start period count t : Nat) : Nat × Option Nat :=
  let i := if t ≤ start then 0 else (t - start + period - 1) / period
  (i, if count ≠ 0 ∧ count ≤ i then none else some (start + i * period))

/-- START of a pin in ns. -/
def State.tioStart (s : State) (n : Nat) : Nat :=
  inNs ((s.rd (Reg.TIO_START_SEC_HI n)).toNat * 4294967296 + (s.rd (Reg.TIO_START_SEC_LO n)).toNat,
    s.fld (Reg.TIO_START_NS n) 29 0)

/-- The next active edge of a pin at or after t ns, by its mode (R419, R423): every whole second, or the train. -/
def State.tioEdges (s : State) (n t : Nat) : Nat × Option Nat :=
  match s.fld (Reg.TIO_CFG n) 2 0 with
  | 3 => (0, some ((t + 999999999) / 1000000000 * 1000000000))
  | 4 => trainAfter (s.tioStart n) (s.rd (Reg.TIO_PERIOD n)).toNat (s.rd (Reg.TIO_COUNT n)).toNat t
  | _ => (0, none)

/-- At the end of a finite train DONE is set (R423). -/
def State.trainOver (s : State) (n : Nat) (c : Bool) : State := when c (fun t => t.putBit (Reg.TIO_STAT n) 4 true) s

/-- A pin at a step by d ns (R424): its pulse ends, its train goes on on the new scale; accepted PPS edges move with the
scale so that distances between edges stay elapsed ones. -/
def State.tioStep (s : State) (n t : Nat) (d : Int) : State :=
  let p := s.pin n
  let e := s.tioEdges n t
  (s.setPin n { p with active := false, pulse := e.1, edgeAt := e.2,
                       lastPps := p.lastPps.map (fun x => ((x : Int) + d).toNat) }).trainOver n (p.edgeAt.isSome && e.2.isNone)

/-- The clock at a step by d from told to tnew, in ns: time, epoch, skipped and due alarms, and the tick grid of the new time (R408,
R410, R416). -/
def State.stepClock (s : State) (d : Int) (told tnew : Nat) : State :=
  let n := splitNs tnew
  let s := (s.tbMod (fun t => { t with sec := n.1, ns := n.2, frac := 0, step := none })).nextEpoch
  let s := if 0 < d then (List.range 16).foldl (fun x n => x.skipAlarm n told tnew) s else s
  let s := s.fireEqual tnew
  let f := firstTick n.1 n.2
  let s := (s.tickMod (fun t => { t with sec := f.1, idx := f.2, running := false })).setStep true
  ((s.putBit Reg.TB_STAT 9 true).timeSet).tbShow

/-- TIME_STEP_APPLY: the step is applied at the next tick start of the old scale (R411, R74, R416, R417). -/
def State.stepApply (s : State) : State :=
  match s.tb.step with
  | none => s
  | some q =>
    let n := tickFollowing s.tick
    let told := inNs (n.1, tickNs n.2)
    let s := (s.reachTime told).fireDue told
    let tnew := ((told : Int) + q.delta).toNat
    let oldEpoch := s.epoch
    let s := s.stepClock q.delta told tnew
    let f := firstTick (splitNs tnew).1 (splitNs tnew).2
    let s := (s.irq 28).log 0x143 0 n.2 f.2
    let s := s.log 0x1C1 oldEpoch n.1
      (b2n q.firstLock * 0x80000000 + (if q.delta < 0 then 0x40000000 else 0) + tickNs n.2)
    let s := ((List.range 4).foldl (fun x n => x.tioStep n tnew q.delta) s).blzShift q.delta tnew
    let s := (((List.range 128).foldl (fun t ch => t.stepLane ch) s).syncDies 3).lthAlign none
    (List.range 16).foldl (fun t c => (t.trkMod c (fun x => { x with align := true, out := [], sv := [] })).detMod c (fun d =>
      { d with hist := [] })) s

def execTimeStepApply (s : State) : Host.Outcome State Fault Refusal := .next s.stepApply

/-- TB_CMD.OP = AFE_SYNC selects both dies for the next tick start (R418). -/
def execTbCmdAfeSync (r : Req) (s : State) : Host.Outcome State Fault Refusal :=
  s.access r (fun s => s.tbMod (fun t => { t with sync := 3 }))

/-- AFE_SYNC_APPLY: the re-alignment takes effect at a tick start (R418). -/
def State.syncApply (s : State) : State :=
  if s.tb.sync = 0 then s else (s.syncDies s.tb.sync).tbMod (fun t => { t with sync := 0 })

def execAfeSyncApply (s : State) : Host.Outcome State Fault Refusal := .next s.syncApply

/-! ### Time I/O pins -/

/-- A capture enters the pin's FIFO, or is discarded when it holds eight (R421). -/
def State.tioPush (s : State) (n : Nat) (t : Stamp) : State :=
  let p := s.pin n
  if 8 ≤ p.fifo.length then
    let s := s.count (Reg.TIO_STAT n) 31 16 1
    let s := s.setPin n { p with overflowed := true }
    if p.overflowed then s else (s.irq 29).log 0x1C4 n (s.rd (Reg.TIO_STAT n)).toNat 0
  else
    let s := s.setPin n { p with fifo := p.fifo ++ [{ at_ := t, tq := s.tq }] }
    let s := s.put (Reg.TIO_STAT n) 3 0 (p.fifo.length + 1)
    if p.fifo = [] ∧ s.bit (Reg.TIO_CFG n) 7 then s.irq 29 else s

/-- The timestamp of an edge at the ball: the edge's instant with the pin's input correction added (R420). -/
def State.tioStamp (s : State) (n sec ns : Nat) : Stamp :=
  let t := ((inNs (sec, ns) : Int) + sext 16 (s.fld (Reg.TIO_DLY n) 15 0)).toNat
  { sec := t / 1000000000, ns := t % 1000000000, epoch := s.epoch }

/-- TIO_CAPTURE: an edge at a pin in CAPTURE whose EDGE selects it (R420, R421). -/
def State.tioCapture (s : State) (n : Nat) (rising : Bool) (sec ns : Nat) : State :=
  if s.fld (Reg.TIO_CFG n) 2 0 = 2 ∧ s.bit (Reg.TIO_CFG n) (if rising then 4 else 5) then
    (s.reachTime (inNs (sec, ns))).tioPush n (s.tioStamp n sec ns)
  else s

def execTioCapture (n : Fin 4) (rising : Bool) (sec : Nat) (ns : Fin 1000000000) (s : State) :
    Host.Outcome State Fault Refusal :=
  .next (s.tioCapture n.val rising sec ns.val)

/-- PPS_IN_EDGE: a rising edge at a pin in PPS_IN is captured; less than 900 ms after the last accepted edge it is a
glitch, otherwise it is accepted and, where TB_CTRL selects the pin, a servo sample (R405, R422). -/
def State.ppsEdge (s : State) (n sec ns : Nat) : State :=
  if s.fld (Reg.TIO_CFG n) 2 0 ≠ 1 then s
  else
    let s := s.reachTime (inNs (sec, ns))
    let t := s.tioStamp n sec ns
    let s := s.tioPush n t
    let glitch := match (s.pin n).lastPps with
      | some x => decide (stampNs t < x + 900000000)
      | none => false
    if glitch then
      let since := satTo 4294967295 (stampNs t - ((s.pin n).lastPps.getD 0))
      ((s.count (Reg.TIO_STAT n) 15 8 1).irq 29).log 0x1C5 n t.ns since
    else
      let s := s.setPin n { s.pin n with lastPps := some (stampNs t) }
      if s.fld Reg.TB_CTRL 5 4 = 1 ∧ s.fld Reg.TB_CTRL 9 8 = n then
        s.servoSample ((if t.ns < 500000000 then (t.ns : Int) else (t.ns : Int) - 1000000000) * 4294967296)
      else s

def execPpsInEdge (n : Fin 4) (sec : Nat) (ns : Fin 1000000000) (s : State) : Host.Outcome State Fault Refusal :=
  .next (s.ppsEdge n.val sec ns.val)

/-- The instant at which the pin changes for an edge at e ns: TIO_DLY_n.OUT corrects it (R423). -/
def State.tioOut (s : State) (n e : Nat) : Nat := ((e : Int) + sext 16 (s.fld (Reg.TIO_DLY n) 31 16)).toNat

/-- TIO_PULSE_EDGE: the next edge of the pin's train, active or back to inactive (R423). -/
def State.pulseEdge (s : State) (n : Nat) : State :=
  let p := s.pin n
  match p.edgeAt with
  | none => s
  | some e =>
    let width := (s.rd (Reg.TIO_WIDTH n)).toNat
    if !p.active then (s.reachTime (s.tioOut n e)).setPin n { p with active := true }
    else
      let s := s.reachTime (s.tioOut n (e + width))
      let pps := s.fld (Reg.TIO_CFG n) 2 0 = 3
      let count := (s.rd (Reg.TIO_COUNT n)).toNat
      let nxt := if pps then some (e + 1000000000)
        else if count ≠ 0 ∧ count ≤ p.pulse + 1 then none else some (e + (s.rd (Reg.TIO_PERIOD n)).toNat)
      (s.setPin n { p with active := false, pulse := p.pulse + 1, edgeAt := nxt }).trainOver n nxt.isNone

def execTioPulseEdge (n : Fin 4) (s : State) : Host.Outcome State Fault Refusal := .next (s.pulseEdge n.val)

/-- TIO_MODE_WRITE: a write of TIO_CFG_n, from the owner's requester only (R419). A train begins at its first instant
later than the time of the write (R423). -/
def State.tioCfgWrite (s : State) (r : Req) (n : Nat) (v : Word) : State :=
  if !s.mayWrite280 r (0x1000 + n) then s.tbErr 7 5 v (0x400 + 0x40 * n)
  else
    let was := s.fld (Reg.TIO_CFG n) 2 0
    let s := s.wr (Reg.TIO_CFG n) (v &&& 0xF7)
    if field v 2 0 = was then s
    else
      let e := s.tioEdges n (inNs (s.tb.sec, s.tb.ns) + 1)
      (s.setPin n { s.pin n with active := false, pulse := e.1, edgeAt := e.2 }).trainOver n (field v 2 0 = 4 ∧ e.2.isNone)

def execTioModeWrite (r : Req) (n : Fin 4) (v : Word) (s : State) : Host.Outcome State Fault Refusal :=
  s.access r (fun s => s.tioCfgWrite r n.val v)

/-- A write of TIO_PERIOD_n or TIO_WIDTH_n: discarded with CFG_DENY when it leaves the ranges of R423 (R427), those of PPS_OUT in that
mode and those of PULSE otherwise. -/
def State.tioRangeWrite (s : State) (n : Nat) (width : Bool) (v : Word) : State :=
  let p := if width then (s.rd (Reg.TIO_PERIOD n)).toNat else v.toNat
  let w := if width then v.toNat else (s.rd (Reg.TIO_WIDTH n)).toNat
  if 100 ≤ p ∧ 8 ≤ w ∧ (if s.fld (Reg.TIO_CFG n) 2 0 = 3 then w ≤ 999999992 else w + 8 ≤ p) then
    s.wr (if width then Reg.TIO_WIDTH n else Reg.TIO_PERIOD n) v
  else s.putBit Reg.TB_STAT 7 true

/-- A read of TIO_CAP_NS_n returns and removes the head capture and latches its seconds (R421, R427). -/
def State.tioCapRead (s : State) (r : Req) (n : Nat) : State :=
  let p := s.pin n
  match p.fifo with
  | [] => s.emptyRead r (Reg.TIO_CAP_NS n)
  | c :: cs =>
    let s := s.setPin n { p with fifo := cs, overflowed := p.overflowed && !cs.isEmpty }
    let s := s.put (Reg.TIO_STAT n) 3 0 cs.length
    let s := s.latch r (Reg.TIO_CAP_SEC_LO n) (w32 c.at_.sec)
    let s := s.latch r (Reg.TIO_CAP_SEC_HI n) (w32 (c.at_.epoch % 256 * 0x1000000 + c.at_.sec / 4294967296 % 65536))
    (s.headTaken (Reg.TIO_CAP_NS n)).answer r (w32 (c.tq * 0x40000000 + c.at_.ns))

def execTioCapNsRead (r : Req) (n : Fin 4) (s : State) : Host.Outcome State Fault Refusal :=
  s.access r (fun s => s.tioCapRead r n.val)

end Sys2Proof.Machine
end

