-- ==== Sys2Proof/Machine/Recorder.lean ====
section
/-!
DEFINITION. The record store and the recorder instances (chapter 10, R321 to R344, R360 to R364): frames and the ring, triggers
and records, headers, the scan, and the wideband SRAM with its freeze and copy.
-/
namespace Sys2Proof

/-- The words of a list as bytes, each little-endian. -/
def wordBytes (ws : List Word) : Bytes := ws.flatMap leBytes

/-- CRC-32 over words as stored. -/
def crcWords (ws : List Word) : Word := w32 (crc32 (wordBytes ws))

/-- First byte of a segment (R321). -/
def segBase (seg : Nat) : Nat := 0x1800000 + seg * 0x100000

/-- Bytes of a frame and SEG_FRAMES for N channels (R325). -/
def frameBytes (n : Nat) : Nat := 32 + 12 * n
def segFrames (n : Nat) : Nat := 1048064 / frameBytes n

/-- The tick of the running scale that contains a time in ns (R53). -/
def tickOfNs (t : Nat) : Nat := t / 1000000000 * 4800 + (t % 1000000000 * 3 + 2) / 625000

/-- The time in ns at which a tick of the running scale starts. -/
def nsOfTick (k : Nat) : Nat := k / 4800 * 1000000000 + Machine.tickNs (k % 4800)

/-- The segment of a record's frame o, with the number of the frame in that segment's slot 0: SEG_FRAMES frames in each segment of the
chain, the first of them used as a ring (R332). -/
def RecRec.place (r : RecRec) (o : Nat) : Nat × Nat :=
  let k := (o - r.start) / r.sf
  (r.chain.getD k 0, if k = 0 then r.segOrd else r.start + k * r.sf)

/-- The oldest frame the ring holds. -/
def RecU.oldest (u : RecU) (sf : Nat) : Nat := if u.ord ≤ u.segOrd + sf then u.segOrd else u.ord - sf

end Sys2Proof

namespace Sys2Proof.Machine
open Sys2Proof

/-! ### Instances -/

def State.rcu (s : State) (i : Nat) : RecU := SMap.get (fun _ => RecU.init) s.recs i
def State.setRcu (s : State) (i : Nat) (x : RecU) : State := { s with recs := SMap.set (fun _ => RecU.init) s.recs i x }
def State.rcuMod (s : State) (i : Nat) (f : RecU → RecU) : State := s.setRcu i (f (s.rcu i))
def State.wbu (s : State) (c : Nat) : WbU := SMap.get (fun _ => WbU.init) s.wbs c
def State.setWbu (s : State) (c : Nat) (x : WbU) : State := { s with wbs := SMap.set (fun _ => WbU.init) s.wbs c x }

/-- The channels of the instance's mask, ascending. -/
def State.recChans (s : State) (i : Nat) : List Nat := idxWhere 128 (fun ch => s.bit (Reg.REC_CH i (ch / 32)) (ch % 32))

/-- Frames of a segment under the present mask. -/
def State.recSF (s : State) (i : Nat) : Nat := segFrames (s.recChans i).length

/-- Segments of the instance's partition. -/
def State.recPart (s : State) (i : Nat) : List Nat :=
  (List.range (s.fld (Reg.REC_PART i) 5 0)).map (fun k => s.fld (Reg.REC_PART i) 21 16 + k)

/-- Free segments of the partition, reservations excluded, ascending. -/
def State.recFree (s : State) (i : Nat) : List Nat :=
  (s.recPart i).filter (fun x => decide (SMap.get (fun _ => 0) (s.rcu i).use x = 0))

/-- Put segments to a use (R322). -/
def State.recUse (s : State) (i : Nat) (l : List Nat) (u : Nat) : State :=
  s.rcuMod i (fun x => { x with use := l.foldl (fun m k => SMap.set (fun _ => 0) m k u) x.use })

/-- W, the clusters of REC_WB.MASK. -/
def State.recW (s : State) (i : Nat) : Nat := (idxWhere 16 (fun c => s.bit (Reg.REC_WB i) c)).length

def State.recRunning (s : State) (i : Nat) : Bool := s.bit (Reg.REC_STAT i) 1
def State.recScanning (s : State) (i : Nat) : Bool := s.bit (Reg.REC_STAT i) 2

/-- REC_STAT, REC_SEG and STORE_USED follow the instance. -/
def State.recShow (s : State) (i : Nat) : State :=
  let u := s.rcu i
  let free := (s.recFree i).length
  let a := Reg.REC_STAT i
  let s := s.putBit a 7 (s.recRunning i && decide (free < 1 + s.recW i))
  let s := (s.putBit a 8 u.cur.isSome).putBit a 9 (u.recs.any (fun r => !r.wbWait.isEmpty))
  let ring := match u.cur, u.ring with
    | some r, _ => r.chain.headD 0
    | none, some x => x
    | none, none => 0
  let s := s.wr (Reg.REC_SEG i) (w32 (s.recSF i * 65536 + free * 256 + ring))
  let used := packBits 40 (fun x => (List.range 4).any (fun j => decide (SMap.get (fun _ => 0) (s.rcu j).use x ≠ 0)))
  (s.wr Reg.STORE_USED_LO (w32 used)).wr Reg.STORE_USED_HI (w32 (used / 4294967296))

/-- A record of the chapter with the instance's interrupt (R364). -/
def State.recLog (s : State) (i code p0 p1 : Nat) : State := (s.irq (34 + i)).log code i p0 p1

/-- A refused write or release (R360, R335). -/
def State.recDeny (s : State) (i p0 p1 : Nat) : State := (s.putBit (Reg.REC_STAT i) 3 true).recLog i 0x1B7 p0 p1

/-- A failed write of the store (R327): the count of frames (31:16) or of headers and WB (15:0), MEDIA_ERR and the record. -/
def State.recMedia (s : State) (i : Nat) (frame : Bool) (addr seg : Nat) : State :=
  let s := if frame then s.count Reg.STORE_MEDIA 31 16 1 else s.count Reg.STORE_MEDIA 15 0 1
  (s.putBit (Reg.REC_STAT i) 6 true).recLog i 0x1B4 addr seg

/-! ### Headers (R336 to R338) -/

/-- The 128 words of a segment opened as ring or continuation, or the 64 of a WB segment; W31 and W63 are 0 (R336). -/
def State.openHeader (s : State) (i kind seq sec epoch idx id w10 w12 : Nat) : List Word :=
  let chans := s.recChans i
  let n := chans.length
  let wb := decide (kind = 3)
  let mask (k : Nat) : Word := if wb then 0 else s.rd (Reg.REC_CH i k)
  let a : List Word := [
    w32 (0x5EC70100 + i * 64 + kind * 16), w32 seq, w32 (if wb then 0 else segFrames n * 65536 + n), mask 0, mask 1, mask 2, mask 3,
    w32 sec, w32 (epoch * 16777216 + sec / 4294967296 % 256 * 65536 + idx), w32 id, w32 w10,
    w32 (s.fld (Reg.REC_CFG i) 23 0), w32 w12, 0, 0]
  let gd : List Word := if wb then [] else
    (List.range 64).map (fun k => match chans[k]? with
      | some ch => w32 (s.laneGd ch)
      | none => 0)
  a ++ [crcWords (a ++ gd)] ++ List.replicate 48 0 ++ gd

/-- Write words from word w of a segment. -/
def State.segWrite (s : State) (seg w : Nat) (ws : List Word) : State := s.mwr (segBase seg + 4 * w) (wordBytes ws)

/-- Read word w of a segment. -/
def State.segWord (s : State) (seg w : Nat) : Word := s.mw (segBase seg + 4 * w)
def State.segWords (s : State) (seg w n : Nat) : List Word := (List.range n).map (fun k => s.segWord seg (w + k))

/-- Write a part that ends with its CRC word. -/
def State.segPart (s : State) (seg w : Nat) (ws : List Word) : State := s.segWrite seg w (ws ++ [crcWords ws])

/-- A header write of the recorder at word w of a segment (R327, R336, R337): where the recorder's last MRAM access ended with an error
(R21) it fails, is counted and recorded, and nothing is written (log entry 156). The answer says whether it was written. -/
def State.headWrite (s : State) (i seg w : Nat) (ws : List Word) : State × Bool :=
  if s.mramErr.contains .recorder then
    ((s.setMramErr (s.mramErr.filter (fun u => decide (u ≠ .recorder)))).recMedia i false (segBase seg + 4 * w) seg, false)
  else (s.segWrite seg w ws, true)

/-- The tick of the instance's next frame as a snapshot shows it: the oldest tick not yet written that has begun, or the tick to
come. -/
def State.nextSnap (s : State) (u : RecU) : Option TickSnap := (s.ticks.reverse).find? (fun t => decide (u.next ≤ t.no))
def State.nextTick (s : State) (u : RecU) : Nat × Nat × Nat :=
  match s.nextSnap u with
  | some t => (t.sec, t.idx, t.epoch)
  | none =>
    let (a, b) := if s.tick.running then tickFollowing s.tick else (s.tick.sec, s.tick.idx)
    (a, b, s.epoch)

/-- Open the lowest-numbered free segment: as the ring, or as continuation `pos` of record `id`; the segment is used though its header
write fails. -/
def State.recOpen (s : State) (i pos id : Nat) : Option (State × Nat) :=
  match (s.recFree i).head? with
  | none => none
  | some seg =>
    let u := s.rcu i
    let k := s.nextTick u
    let kind := if pos = 0 then 1 else 2
    let h := s.headWrite i seg 0 (s.openHeader i kind u.openSeq k.1 k.2.2 k.2.1 id pos 0)
    some ((h.1.recUse i [seg] (if pos = 0 then 1 else 2)).rcuMod i (fun x => { x with
      openSeq := x.openSeq + 1, segOrd := x.ord, ringBad := if pos = 0 then !h.2 else x.ringBad,
      cur := x.cur.map (fun r => { r with unclosed := r.unclosed || (!h.2 && decide (pos ≠ 0)) }),
      ring := if pos = 0 then some seg else x.ring, ringSeq := if pos = 0 then u.openSeq else x.ringSeq }), seg)

/-- The ring is open: the one written, or a new one where none is (R334). -/
def State.recRing (s : State) (i : Nat) : State :=
  if (s.rcu i).ring.isSome ∨ (s.rcu i).cur.isSome then s
  else match s.recOpen i 0 0 with
    | some (t, _) => t
    | none => s

/-! ### Windows and triggers (R328 to R333) -/

/-- The open window ends with the frames before number `stop`; the record waits for its close. -/
def State.recEnd (s : State) (i stop flags : Nat) : State :=
  match (s.rcu i).cur with
  | none => s
  | some r =>
    let r := { r with stop := min r.stop (max stop r.start), flags := Nat.lor r.flags flags }
    (s.rcuMod i (fun u => { u with cur := none, ring := none, recs := u.recs ++ [r] })).recShow i

/-- End the window when its last frame has been written. -/
def State.recEndDue (s : State) (i : Nat) : State :=
  match (s.rcu i).cur with
  | none => s
  | some r => if r.stop ≤ (s.rcu i).ord then s.recEnd i r.stop 0 else s

/-- Offset of a frame's slot from the start of its segment. -/
def slotAt (sf n o segOrd : Nat) : Nat := 512 + (o + sf - segOrd % sf) % sf * frameBytes n

/-- Set mark bits in the F2 of a frame already written, with its CRC. -/
def State.recRemark (s : State) (i seg o segOrd bits : Nat) : State :=
  if (s.rcu i).fails.contains o then s else
  let n := (s.recChans i).length
  let a := segBase seg + slotAt (segFrames n) n o segOrd
  let ws := (List.range (7 + 3 * n)).map (fun k => s.mw (a + 4 * k))
  let ws := setAt ws 2 (ws.getD 2 0 ||| w32 bits)
  s.mwr a (wordBytes (ws ++ [crcWords ws]))

/-- What the count of ticks run exceeds the tick number by on the scale of an epoch: on the present one, by the tick that runs or is the
first to come. A tick of an older scale is counted on from the last one that ran on it (log entry 188). -/
def State.scaleOff (s : State) (epoch : Nat) : Int :=
  let here : Int := ((if s.tick.running then s.tick.runs else s.tick.runs + 1 : Nat) : Int) - (tickAbs s.tick.sec s.tick.idx : Int)
  if epoch = s.epoch then here else (SMap.get (fun _ => none) s.tick.scales epoch).getD here

/-- The number of the frame of tick k of the scale of an epoch (R328). -/
def State.frameAt (s : State) (i k epoch : Nat) : Int :=
  let u := s.rcu i
  (u.ord : Int) + (s.scaleOff epoch + (k : Int) - (u.next : Int))

/-- The tick index of frame number o: that of its tick where it ran, else by the present scale. -/
def State.frameIdx (s : State) (i : Nat) (o : Int) : Nat :=
  let u := s.rcu i
  let no := o - (u.ord : Int) + (u.next : Int)
  match s.ticks.find? (fun t => decide ((t.no : Int) = no)) with
  | some t => t.idx
  | none => (no - s.scaleOff s.epoch).toNat % 4800

/-- Mark frame o: at once when it is written, otherwise when it will be. -/
def State.recMark (s : State) (i seg o segOrd bits : Nat) : State :=
  let u := s.rcu i
  if u.ord ≤ o then s.rcuMod i (fun u => { u with marks := u.marks ++ [(o, bits)] })
  else if u.oldest (s.recSF i) ≤ o then s.recRemark i seg o segOrd bits else s

/-- What makes a trigger (R337): cause, t_T in ns with its epoch, Blaze state, predicate or slot, LINEAR. -/
structure Trig where
  cause : Nat
  at_ : Nat
  epoch : Nat
  state : Nat
  pred : Nat
  linear : Bool
  deriving DecidableEq, Repr

/-- A refused trigger (R329). -/
def State.recRefuse (s : State) (i : Nat) : State :=
  let s := (s.count (Reg.REC_CNT i) 31 16 1).putBit (Reg.REC_STAT i) 5 true
  s.recLog i 0x1B1 (s.recFree i).length (1 + s.recW i)

/-- Reserve a segment for the copy of each cluster and order its freeze; a cluster still frozen for an earlier record is left
out (R342, R344). -/
def State.recWb (s : State) (i id : Nat) (cs : List Nat) : State × List (Nat × Nat) × Bool :=
  cs.foldl (fun (p : State × List (Nat × Nat) × Bool) c =>
    let t := p.1
    let w := t.wbu c
    if w.frozen || w.copy.isSome then (t, p.2.1, true)
    else match (t.recFree i).head? with
      | none => (t, p.2.1, true)
      | some seg =>
        let at_ := (t.lane (8 * c)).wbM + t.fld (Reg.REC_WB i) 31 16
        (((t.recUse i [seg] 4).setWbu c { w with copy := some (i, id, seg, at_) }), p.2.1 ++ [(c, seg)], p.2.2)) (s, [], false)

/-- The clusters an acceptance freezes: those of REC_WB.MASK, none when the trigger is a supply loss (R340, R342). -/
def State.recWbSet (s : State) (i cause : Nat) : List Nat :=
  if cause = 6 then [] else idxWhere 16 (fun c => s.bit (Reg.REC_WB i) c)

/-- An accepted new trigger with trigger frame `t` and window end `e` (R329, R330). -/
def State.recAccept (s : State) (i : Nat) (g : Trig) (t e : Int) : State :=
  let u := s.rcu i
  match u.ring with
  | none => s
  | some seg =>
    let n := (s.recChans i).length
    let sf := segFrames n
    let id := u.ringSeq
    let pre := s.fld (Reg.REC_PRE i) 15 0
    let want : Int := t - pre
    let old := u.oldest sf
    let start := if want < (old : Int) then old else want.toNat
    let short := decide (want < (old : Int))
    let (s, wait, left) := s.recWb i id (s.recWbSet i g.cause)
    let s := s.recUse i [seg] 2
    let (sec, ns) := splitNs g.at_
    let part : List Word := [w32 id,
      w32 (g.cause * 268435456 + g.state * 16777216 + g.pred * 65536 + b2n g.linear), w32 sec, w32 (s.tq * 1073741824 + ns),
      w32 (g.epoch * 16777216 + sec / 4294967296 % 65536), w32 pre, w32 (s.fld (Reg.REC_POST i) 17 0),
      w32 (((t - (u.segOrd : Int)) % (sf : Int)).toNat), w32 (s.fld (Reg.REC_WB i) 15 0), w32 (s.fld (Reg.REC_WB i) 31 16), 0, 0, 0, 0, 0]
    let (s, ok) := s.headWrite i seg 16 (part ++ [crcWords part])
    let r : RecRec := {
      id := id, start := start, stop := max start e.toNat, chain := [seg], segOrd := u.segOrd, sf := sf, retrig := 0,
      flags := 4 * b2n short + 64 * b2n left, wbWait := wait, wbHeld := [], unclosed := u.ringBad || !ok }
    let s := s.rcuMod i (fun u => { u with cur := some r, ring := none })
    let s := if 0 ≤ t then s.recMark i seg t.toNat u.segOrd 1 else s
    let s := (s.count (Reg.REC_CNT i) 15 0 1).wr (Reg.REC_LAST i) (w32 id)
    ((s.recLog i 0x1B0 id (g.cause * 268435456 + s.frameIdx i t)).recEndDue i).recShow i

/-- A trigger with no window open (R329). -/
def State.recNew (s : State) (i : Nat) (g : Trig) (t e : Int) : State :=
  let s := s.recRing i
  if (s.rcu i).ring.isSome ∧ 1 + s.recW i ≤ (s.recFree i).length then s.recAccept i g t e else (s.recRefuse i).recShow i

/-- A trigger of an instance that writes frames (R328, R329, R331); T is the frame of the tick that contains t_T + `off`. -/
def State.recTrigger (s : State) (i : Nat) (g : Trig) (off : Nat) : State :=
  if !s.recRunning i then s
  else
    let u := s.rcu i
    let t := s.frameAt i (tickOfNs (g.at_ + off)) g.epoch
    let post := s.fld (Reg.REC_POST i) 17 0
    match u.cur with
    | none => s.recNew i g t (t + post)
    | some r =>
      if (r.stop : Int) ≤ t then (s.recRefuse i).recShow i
      else
        let stop := min (max r.stop (t + post).toNat) (r.start + s.fld (Reg.REC_MAXLEN i) 17 0)
        let s := s.rcuMod i (fun u => { u with
          cur := some { r with stop := stop, retrig := r.retrig + 1, flags := Nat.lor r.flags 1 } })
        if (r.start : Int) ≤ t then
          let (seg, base) := r.place t.toNat
          if (u.ord : Int) ≤ t then s.recMark i seg t.toNat base 8 else s.recRemark i seg t.toNat base 8
        else s

/-- A STOP (R333): the window ends here, or a new record is made of what has been written. -/
def State.recStop (s : State) (i : Nat) (g : Trig) (off : Nat) : State :=
  if !s.recRunning i then s
  else
    let u := s.rcu i
    match u.cur with
    | some _ => s.recEnd i u.ord 0
    | none =>
      let t := s.frameAt i (tickOfNs (g.at_ + off)) g.epoch
      let t := if (u.ord : Int) - 1 < t then (u.ord : Int) - 1 else t
      s.recNew i g t u.ord

/-! ### Commands -/

/-- A write of REC_CTRL or REC_CMD by who may not (R360). -/
def State.recGuard (s : State) (r : Req) (i off : Nat) (v : Word) (f : State → State) : State :=
  if s.mayWrite r (0x5000 + i) then f s else s.recDeny i off v.toNat

/-- REC_HOST_TRIGGER: T is the frame of the tick that contains the instant of the write (R328); ignored while stopped. -/
def execRecHostTrigger (r : Req) (i : Fin 4) (s : State) : Host.Outcome State Fault Refusal :=
  s.access r (fun s => s.recGuard r i.val 0x2C 0x10000000 (fun s => s.recTrigger i.val
    { cause := 5, at_ := inNs (s.tb.sec, s.tb.ns), epoch := s.epoch, state := s.fld (Reg.BLZ_STAT i.val) 31 28, pred := 0xFF, linear := false } 0))

/-- REC_RELEASE of the record in REC_ARG (R335). -/
def State.recRelease (s : State) (i : Nat) : State :=
  let id := (s.rd (Reg.REC_ARG i)).toNat
  match (s.rcu i).held.find? (fun h => h.1 = id) with
  | none => s.recDeny i 0xFFFFFFFF id
  | some h =>
    let s := h.2.foldl (fun t seg => t.segWrite seg 0 [0]) s
    let s := (s.recUse i h.2 0).rcuMod i (fun u => { u with held := u.held.filter (fun x => decide (x.1 ≠ id)) })
    (s.recLog i 0x1B3 id h.2.length).recShow i

def execRecRelease (r : Req) (i : Fin 4) (s : State) : Host.Outcome State Fault Refusal :=
  s.access r (fun s => s.recGuard r i.val 0x2C 0x20000000 (fun s => s.recRelease i.val))

/-! ### Frames (R323 to R327, R332) -/

/-- Whether the slot of the tick with count of ticks run `no` is a settling slot of lane ch (R141). -/
def State.settlesRun (s : State) (ch no : Nat) : Bool :=
  let l := s.lane ch
  decide (l.resetNo ≤ no + l.syncD) && decide (no < l.resetNo + l.settleN)

/-- The REC words of a frame (R323): samples of the time scale of the frame's tick, as delivered; those of a slot that a reset has made a
settling slot settle (R141), and one that was not computed is INVALID and tells its slot's source (R8, R104, R106). -/
def State.frameSample (s : State) (ch epoch k no r : Nat) : Word :=
  if !s.regionRuns (chRegion ch) then sampleWord 0 true false false false k
  else if s.settlesRun ch no && !bitAt (s.slotSrc ch k) 0 then sampleWord 0 true true false false k
  else match (s.lane ch).recs.find? (fun x => x.m = 3 * k + r ∧ x.epoch = epoch) with
    | some x => x.word
    | none => sampleWord 0 true false false (bitAt (s.slotSrc ch k) 0) k

/-- The words of the frame of a tick, its CRC last (R324); marks are the bits of F2 beside epoch and time quality. -/
def State.frameWords (s : State) (i : Nat) (t : TickSnap) (marks : Nat) : List Word :=
  let k := tickAbs t.sec t.idx
  let chans := s.recChans i
  let ws := [w32 (0xF4A10000 + t.idx), w32 t.sec, w32 (t.epoch * 16777216 + t.tq * 4194304 + marks)] ++ t.fio ++
    (List.range 3).flatMap (fun r => chans.map (fun ch => s.frameSample ch t.epoch k t.no r))
  ws ++ [crcWords ws]

/-- Before a frame is written: a record whose first segment would wrap onto its first frame, or whose segment is full, takes a
continuation segment or ends with the last frame written (R332). -/
def State.recContinue (s : State) (i : Nat) : State :=
  let u := s.rcu i
  match u.cur with
  | none => s
  | some r =>
    let full := if r.chain.length = 1 then decide (r.start + r.sf ≤ u.ord) else decide (u.segOrd + r.sf ≤ u.ord)
    if !full then s
    else if 8 ≤ r.chain.length ∨ (s.recFree i).length < 2 then s.recEnd i u.ord 2
    else match s.recOpen i r.chain.length r.id with
      | some (t, seg) => t.rcuMod i (fun u => { u with cur := u.cur.map (fun r => { r with chain := r.chain ++ [seg] }) })
      | none => s.recEnd i u.ord 2

/-- What a failed write leaves of a frame (R327): its CRC word does not match, so that the frame is absent (R324, log entry 187). -/
def absentFrame (ws : List Word) : List Word := ws.dropLast ++ [~~~ ws.getLastD 0]

/-- REC_FRAME_WRITE of instance i: the frame of the oldest tick not yet written that is complete; `ok` says whether MRAM took
it (R327). -/
def State.recFrame (s : State) (i : Nat) (ok : Bool) : State :=
  match s.nextSnap (s.rcu i) with
  | none => s
  | some t =>
    if !s.recRunning i ∨ s.tick.runs ≤ t.no then s
    else
      let s := (s.recContinue i).recRing i
      let u := s.rcu i
      let seg? := match u.cur with
        | some r => r.chain.getLast?
        | none => u.ring
      match seg? with
      | none => s.rcuMod i (fun u => { u with next := t.no + 1, gap := true, lastTick := tickAbs t.sec t.idx })
      | some seg =>
        let o := u.ord
        let gap := u.gap || decide (u.next < t.no)
        let mark := ((u.marks.filter (fun m => decide (m.1 = o))).map (·.2)).foldl Nat.lor 0
        let marks := mark + 2 * b2n gap + 4 * b2n t.step + 16 * b2n (u.gaugeAt.contains t.no)
        let n := (s.recChans i).length
        let a := segBase seg + slotAt (segFrames n) n o u.segOrd
        let ws := s.frameWords i t marks
        let s := if ok then s.mwr a (wordBytes ws) else (s.mwr a (wordBytes (absentFrame ws))).recMedia i true a seg
        let s := s.rcuMod i (fun u => { u with
          next := t.no + 1, ord := o + 1, lastTick := tickAbs t.sec t.idx, gap := !ok,
          fails := if ok then u.fails else (o :: u.fails).take 65536,
          gaps := if gap && ok then (o :: u.gaps).take 65536 else u.gaps,
          steps := if t.step then (o :: u.steps).take 65536 else u.steps,
          marks := u.marks.filter (fun m => decide (o < m.1)), gaugeAt := u.gaugeAt.filter (fun x => decide (t.no < x)) })
        (s.recEndDue i).recShow i

def execRecFrameWrite (i : Fin 4) (ok : Bool) (s : State) : Host.Outcome State Fault Refusal := .next (s.recFrame i.val ok)

/-! ### Close (R334, R338) -/

/-- The close part of a record. -/
def closeWords (r : RecRec) (flags : Nat) : List Word :=
  let count := r.stop - r.start
  let chain := (List.range 8).map (fun k => match r.chain[k]? with
    | some x => w32 x
    | none => 0xFFFFFFFF)
  let wb := (List.range 16).map (fun c => match r.wbHeld.find? (fun p => p.1 = c) with
    | some p => w32 p.2
    | none => 0xFFFFFFFF)
  [w32 r.id, w32 flags, w32 count, w32 ((r.start + r.sf - r.segOrd % r.sf) % r.sf), w32 r.retrig,
    w32 (r.wbHeld.length * 256 + r.chain.length)] ++ chain ++ wb ++ [0]

/-- W33 of a record at its close: GAP, STEP and MEDIA_ERR of its frames, and whether a recorded lane restarted during it. -/
def State.closeFlags (s : State) (i : Nat) (r : RecRec) : Nat :=
  let u := s.rcu i
  let inside (o : Nat) : Bool := decide (r.start ≤ o) && decide (o < r.stop)
  let run (o : Nat) : Int := (u.next : Int) + (o : Int) - (u.ord : Int)
  let gd := (s.recChans i).any (fun ch => (s.lane ch).starts.any (fun x =>
    decide (run r.start ≤ (x : Int)) && decide ((x : Int) < run r.stop)))
  Nat.lor r.flags (8 * b2n (u.gaps.any inside) + 16 * b2n (u.steps.any inside) + 32 * b2n (u.fails.any inside) + 256 * b2n gd)

/-- Record r stays unclosed until the next start of the instance (R327): its segments stay in use. -/
def State.recUnclosed (s : State) (i : Nat) (r : RecRec) : State :=
  s.rcuMod i (fun u => { u with recs := u.recs.filter (fun x => decide (x.id ≠ r.id)) })

/-- Close record r: the close part, its record and its segments held; a record with a failed header write stays unclosed. -/
def State.recCloseIt (s : State) (i : Nat) (r : RecRec) : State :=
  if r.unclosed then (s.recUnclosed i r).recShow i else
  let fl := s.closeFlags i r
  let s := s.segPart (r.chain.headD 0) 32 (closeWords r fl)
  let s := s.rcuMod i (fun u => { u with
    recs := u.recs.filter (fun x => decide (x.id ≠ r.id)), held := u.held ++ [(r.id, r.chain ++ r.wbHeld.map (·.2))] })
  (s.recLog i 0x1B2 r.id (fl % 65536 * 65536 + r.chain.length * 256 + r.wbHeld.length)).recShow i

/-- REC_CLOSE: a record whose window and WB copies have ended; a failed header write leaves it unclosed (R327). -/
def State.recClose (s : State) (i : Nat) (ok : Bool) : State :=
  match (s.rcu i).recs.find? (fun r => r.wbWait.isEmpty) with
  | none => s
  | some r =>
    if ok then s.recCloseIt i r
    else
      let seg := r.chain.headD 0
      ((s.recUnclosed i r).recMedia i false (segBase seg + 128) seg).recShow i

def execRecClose (i : Fin 4) (ok : Bool) (s : State) : Host.Outcome State Fault Refusal := .next (s.recClose i.val ok)

/-! ### Wideband SRAM (R119, R342 to R344) -/

/-- Key of the SRAM word that holds place m, counted around, of a lane. -/
def wbKey (c l m : Nat) : Nat := clusterKey c (0x100000 + l * 0x20000 + m % 65536 / 2 * 4)

/-- A WB sample of lane ch enters the next place of the lane's ring in the SRAM. -/
def State.wbStore (s : State) (ch : Nat) (w : Int) : State :=
  let m := (s.lane ch).wbPos
  let lo := m % 2 * 16
  (s.put (wbKey (clOf ch) (lnOf ch) m) (lo + 15) lo (toField 16 w)).laneMod ch (fun l => { l with wbPos := (m + 1) % 65536 })

/-- A sample of the SRAM by its place, as 16 bits. -/
def State.wbLoad (s : State) (c l m : Nat) : Nat := s.fld (wbKey c l m) (m % 2 * 16 + 15) (m % 2 * 16)

/-- WB_SAMPLE of a lane: the sample of the next complete period goes to its FPD and, while its cluster's SRAM is not frozen, to
the SRAM (R119, R342). A sample whose modulator data are missing, or that falls into a start-up check, counts as below every
threshold (R17, R95) and is stored as 0. -/
def State.wbSample (s : State) (ch : Nat) : State :=
  let l := s.lane ch
  let c := clOf ch
  let m := l.wbM
  if l.per ≤ 8 * m ∨ s.isSv c ∨ !s.regionRuns (chRegion ch) then s
  else
    let missing := l.missing (8 * m) 10 || s.bit (Reg.AFE_STAT (dieOf ch)) 3 || !s.dieOn (dieOf ch)
    let w := if missing then none else some (l.wbAt m)
    let s := s.laneMod ch (fun l => { l with wbM := m + 1 })
    let u := s.wbu c
    let writes := !u.frozen && u.copy.all (fun x => decide (m < x.2.2.2))
    let s := if writes then s.wbStore ch (w.getD 0) else s
    s.fpdStep ch m w

def execWbSample (ch : Fin 128) (s : State) : Host.Outcome State Fault Refusal := .next (s.wbSample ch.val)

/-- Change the record with an ID, whether its window is open or it waits. -/
def State.recChange (s : State) (i id : Nat) (f : RecRec → RecRec) : State :=
  let g (r : RecRec) : RecRec := if r.id = id then f r else r
  s.rcuMod i (fun u => { u with cur := u.cur.map g, recs := u.recs.map g })

/-- A copy ends: its segment is held with the record, or returned to free with WB_INCOMPLETE (R344); flags are set. -/
def State.wbEnd (s : State) (c : Nat) (held : Bool) (flags : Nat) : State :=
  match (s.wbu c).copy with
  | none => s
  | some (i, id, seg, _) =>
    let s := (s.setWbu c WbU.init).recUse i [seg] (if held then 3 else 0)
    let s := s.recChange i id (fun r => { r with
      wbWait := r.wbWait.filter (fun p => decide (p.1 ≠ c)), flags := Nat.lor r.flags flags,
      wbHeld := if held then r.wbHeld ++ [(c, seg)] else r.wbHeld })
    s.recShow i

/-- The time in ns of WB sample m: the start of modulator period 8m (R80, R119). -/
def wbNs (m : Nat) : Nat := 8 * m * 625000 / 9216

/-- WB_FREEZE of a cluster: POST samples after the acceptance; an SV source leaves it out (R342, R344). -/
def State.wbFreeze (s : State) (c : Nat) : State :=
  let u := s.wbu c
  match u.copy with
  | none => s
  | some x =>
    if u.frozen then s
    else if s.isSv c then s.wbEnd c false 64
    else if (s.lane (8 * c)).wbM < x.2.2.2 then s
    else
      let (sec, ns) := splitNs (wbNs (x.2.2.2 - 1))
      s.setWbu c { u with frozen := true, at_ := { sec := sec, ns := ns, epoch := s.epoch }, tq := s.tq }

def execWbFreeze (c : Fin 16) (s : State) : Host.Outcome State Fault Refusal := .next (s.wbFreeze c.val)

/-- The samples of a copy: the newest 65 520 of each lane, oldest first (R343). -/
def State.wbBytes (s : State) (c : Nat) : Bytes :=
  (List.range 8).flatMap (fun l => (List.range 65520).flatMap (fun j =>
    let v := s.wbLoad c l ((s.lane (8 * c + l)).wbPos + 16 + j)
    [BitVec.ofNat 8 v, BitVec.ofNat 8 (v / 256)]))

/-- WB_COPY_DONE of a cluster: samples and header, with the time of the newest sample as it was at the freeze, are in the store and the SRAM
resumes; `ok` says whether MRAM took them. -/
def State.wbCopyDone (s : State) (c : Nat) (ok : Bool) : State :=
  let u := s.wbu c
  match u.copy with
  | none => s
  | some (i, id, seg, _) =>
    if !u.frozen then s
    else if !ok then (s.wbEnd c false 96).recMedia i false (segBase seg) seg
    else
      let s := s.mwr (segBase seg + 256) (s.wbBytes c)
      let s := s.segWrite seg 0 (s.openHeader i 3 (s.rcu i).openSeq u.at_.sec u.at_.epoch 0 id c (u.tq * 1073741824 + u.at_.ns))
      (s.rcuMod i (fun u => { u with openSeq := u.openSeq + 1 })).wbEnd c true 0

def execWbCopyDone (c : Fin 16) (ok : Bool) (s : State) : Host.Outcome State Fault Refusal := .next (s.wbCopyDone c.val ok)

/-! ### Start, scan and stop (R341, R361) -/

/-- The first failed check of a start, 0 for none (R361). -/
def State.recCheck (s : State) (i : Nat) : Nat :=
  let n := (s.recChans i).length
  let first (j : Nat) : Nat := s.fld (Reg.REC_PART j) 21 16
  let cnt (j : Nat) : Nat := s.fld (Reg.REC_PART j) 5 0
  let lap (j : Nat) : Bool := decide (j ≠ i) && decide (cnt j ≠ 0) && decide (first i < first j + cnt j) && decide (first j < first i + cnt i)
  let pre := s.fld (Reg.REC_PRE i) 15 0
  let post := s.fld (Reg.REC_POST i) 17 0
  let len := s.fld (Reg.REC_MAXLEN i) 17 0
  if n < 1 ∨ 64 < n then 1
  else if 40 < first i + cnt i ∨ cnt i < 2 + s.recW i ∨ (List.range 4).any lap then 2
  else if segFrames n < pre + 128 ∨ post < 1 ∨ len < pre + post ∨ 8 * segFrames n < len then 3
  else if 65520 < s.fld (Reg.REC_WB i) 31 16 then 4
  else 0

/-- REC_CTRL.RUN = 1 (R361). A running instance goes on; one whose stop waits starts anew, with its scan, once it has stopped. -/
def State.recStart (s : State) (i : Nat) : State :=
  if (s.recRunning i || s.recScanning i) && !(s.rcu i).stopReq then s
  else
    let k := s.recCheck i
    if k ≠ 0 then
      (((s.putBit (Reg.REC_CTRL i) 0 false).putBit (Reg.REC_STAT i) 4 true).rcuMod i (fun u => { u with again := false })).recLog i 0x1B6 k 0
    else if (s.rcu i).stopReq then (s.putBit (Reg.REC_CTRL i) 0 true).rcuMod i (fun u => { u with again := true })
    else (s.putBit (Reg.REC_CTRL i) 0 true).putBit (Reg.REC_STAT i) 2 true

def execRecRunStart (r : Req) (i : Fin 4) (s : State) : Host.Outcome State Fault Refusal :=
  s.access r (fun s => s.recGuard r i.val 0 1 (fun s => s.recStart i.val))

/-- REC_CTRL.RUN = 0: a stop at the next tick start. -/
def State.recStopReq (s : State) (i : Nat) : State :=
  let on := s.recRunning i || s.recScanning i
  (s.putBit (Reg.REC_CTRL i) 0 false).rcuMod i (fun u => { u with
    stopReq := on, stopAt := if u.stopReq then u.stopAt else s.tick.runs, again := false })

def execRecRunStop (r : Req) (i : Fin 4) (s : State) : Host.Outcome State Fault Refusal :=
  s.access r (fun s => s.recGuard r i.val 0 0 (fun s => s.recStopReq i.val))

/-- Whether the open part of a segment's header is valid for instance i with a kind (R336). -/
def State.openValid (s : State) (i seg kind : Nat) : Bool :=
  let w0 := s.segWord seg 0
  let gd := if kind = 3 then [] else s.segWords seg 64 64
  decide (w0 = w32 (0x5EC70100 + i * 64 + kind * 16)) && decide (s.segWord seg 15 = crcWords (s.segWords seg 0 15 ++ gd))

def State.trigValid (s : State) (seg : Nat) : Bool :=
  decide (s.segWord seg 31 = crcWords (s.segWords seg 16 15)) && decide (s.segWord seg 16 = s.segWord seg 1)
def State.closeValid (s : State) (seg : Nat) : Bool :=
  decide (s.segWord seg 63 = crcWords (s.segWords seg 32 31)) && decide (s.segWord seg 32 = s.segWord seg 1)

/-- The words of slot f of a segment of frames of n channels, none where the frame does not exist (R324). -/
def State.slotFrame (s : State) (seg n f : Nat) : Option (List Word) :=
  let a := segBase seg + 512 + f * frameBytes n
  let ws := (List.range (7 + 3 * n)).map (fun k => s.mw (a + 4 * k))
  if field (ws.getD 0 0) 31 16 = 0xF4A1 ∧ s.mw (a + 4 * (7 + 3 * n)) = crcWords ws then some ws else none

/-- The tick of a frame, with the low 32 bits of its second, and its F2. -/
def frameTick (w : List Word) : Nat := (w.getD 1 0).toNat * 4800 + field (w.getD 0 0) 12 0
def frameF2 (w : List Word) : Word := w.getD 2 0

/-- Whether frame b was written after frame a, frames between them perhaps missing: a later tick of the same epoch, or a later epoch
behind a STEP or a GAP (R324, R326). -/
def frameLater (a b : List Word) : Bool :=
  let ahead := (field (frameF2 b) 31 24 + 256 - field (frameF2 a) 31 24) % 256
  if ahead = 0 then decide (frameTick a < frameTick b) else decide (ahead < 128) && (bitAt (frameF2 b) 1 || bitAt (frameF2 b) 2)

/-- Whether frame b follows frame a: the next tick of its epoch, or a later one marked GAP or STEP (R324, R326). -/
def frameNext (a b : List Word) : Bool :=
  frameLater a b && (decide (frameTick b = frameTick a + 1) || bitAt (frameF2 b) 1 || bitAt (frameF2 b) 2)

/-- Frames that follow one another in slots visited in order, from the first: their words. -/
def State.frameRun (s : State) (n : Nat) (prev : Option (List Word)) : List (Nat × Nat) → List (List Word)
  | [] => []
  | (seg, f) :: l => match s.slotFrame seg n f with
    | none => []
    | some ws => if prev.all (fun p => frameNext p ws) then ws :: s.frameRun n (some ws) l else []

/-- Close flags GAP and STEP that frames carry, and how many carry RETRIG. -/
def framesFlags (l : List (List Word)) : Nat × Nat :=
  let has (b : Nat) : Bool := l.any (fun w => bitAt (w.getD 2 0) b)
  (8 * b2n (has 1) + 16 * b2n (has 2), (l.filter (fun w => bitAt (w.getD 2 0) 3)).length)

/-- The segments a kept record names in its close part: chain, then WB. -/
def State.closeSegs (s : State) (seg : Nat) : List Nat :=
  ((s.segWords seg 38 24).filter (fun w => decide (w ≠ 0xFFFFFFFF))).map (·.toNat)

/-- The continuation segments that name a record, in W10 order, and its WB segments as (cluster, segment). -/
def State.contSegs (s : State) (i id : Nat) : List Nat :=
  (List.range 7).filterMap (fun k => (s.recPart i).find? (fun x =>
    s.openValid i x 2 && decide (s.segWord x 9 = w32 id) && decide (s.segWord x 10 = w32 (k + 1))))
def State.wbSegs (s : State) (i id : Nat) : List (Nat × Nat) :=
  (List.range 16).filterMap (fun c => ((s.recPart i).find? (fun x =>
    s.openValid i x 3 && decide (s.segWord x 9 = w32 id) && decide (field (s.segWord x 10) 3 0 = c))).map (fun x => (c, x)))

/-- Close at the scan: the record made of frames l from slot `slot` of its first segment (R341). Causes 6 and 7 ordered no WB copy. -/
def State.scanClose (s : State) (i seg sf slot : Nat) (l : List (List Word)) (conts : List Nat) (flags : Nat) : State :=
  let id := (s.segWord seg 1).toNat
  let used := (l.length + sf - 1) / sf
  let wb := s.wbSegs i id
  let want := if 6 ≤ field (s.segWord seg 17) 31 28 then 0 else (idxWhere 16 (fun c => bitAt (s.segWord seg 24) c)).length
  let (gs, re) := framesFlags l
  let r : RecRec := {
    id := id, start := slot, stop := slot + l.length, chain := seg :: conts.take (used - 1), segOrd := 0, sf := sf, retrig := re,
    flags := flags, wbWait := [], wbHeld := wb, unclosed := false }
  s.segPart seg 32 (closeWords r (flags + gs + b2n (decide (0 < re)) + 64 * b2n (decide (wb.length < want))))

/-- A ring with open and trigger parts valid is closed as a record. -/
def State.scanUnclosed (s : State) (i seg : Nat) : State :=
  let n := field (s.segWord seg 2) 7 0
  let sf := field (s.segWord seg 2) 31 16
  let slot := ((s.segWord seg 23).toNat + sf - (s.segWord seg 21).toNat % sf) % sf
  let conts := s.contSegs i (s.segWord seg 1).toNat
  let places := (List.range sf).map (fun k => (seg, (slot + k) % sf)) ++
    conts.flatMap (fun x => (List.range sf).map (fun f => (x, f)))
  s.scanClose i seg sf slot (s.frameRun n none places) conts 0x82

/-- The slot of the newest valid frame of a ring (R341): frames are written from slot 0 on and around, so it is the last of the valid
frames that each come later than the one before. -/
def State.newestSlot (s : State) (seg n sf : Nat) : Option Nat :=
  ((List.range sf).foldl (fun (p : Option (Nat × List Word) × Bool) f =>
    match s.slotFrame seg n f, p.1 with
    | some b, none => (some (f, b), true)
    | some b, some a => if p.2 && frameLater a.2 b then (some (f, b), true) else (p.1, false)
    | none, _ => p) (none, true)).1.map (·.1)

/-- The frames of the ring that run back from the newest slot without a break, oldest first (R341). -/
def State.scanRun (s : State) (seg n f sf : Nat) : List (List Word) :=
  let back := (List.range sf).map (fun k => s.slotFrame seg n ((f + sf - k) % sf))
  (back.foldl (fun (p : List (List Word) × Bool) x =>
    match x, p.1 with
    | some w, [] => if p.2 then ([w], true) else p
    | some w, h :: t => if p.2 && frameNext w h then (w :: h :: t, true) else (p.1, false)
    | none, _ => (p.1, false)) ([], true)).1

/-- Bits [39:32] of the seconds of a frame of a ring: those of its first frame in W8, one more where the low bits have wrapped since (R336). -/
def State.scanHigh (s : State) (seg : Nat) (ws : List Word) : Nat :=
  field (s.segWord seg 8) 23 16 + b2n (decide ((ws.getD 1 0).toNat < (s.segWord seg 7).toNat))

/-- The TRIGGER part written for a ring of instance i whose newest slot is f (R337, R341). -/
def State.scanTrig (s : State) (i seg n f sf : Nat) : List Word :=
  let ws := (s.slotFrame seg n f).getD []
  let k := field (ws.getD 0 0) 12 0
  [s.segWord seg 1, 0x70FF0000, ws.getD 1 0, w32 (field (ws.getD 2 0) 23 22 * 1073741824 + tickNs k),
    w32 (field (ws.getD 2 0) 31 24 * 16777216 + s.scanHigh seg ws % 65536), w32 sf, 1, w32 f, w32 (s.fld (Reg.REC_WB i) 15 0),
    w32 (s.fld (Reg.REC_WB i) 31 16), 0, 0, 0, 0, 0]

/-- Channels and slots of the ring a segment's header names (R336). -/
def State.ringN (s : State) (seg : Nat) : Nat := field (s.segWord seg 2) 7 0
def State.ringSF (s : State) (seg : Nat) : Nat := field (s.segWord seg 2) 31 16

/-- The ring whose newest slot is f is closed from its frames (R341). -/
def State.scanFound (s : State) (i seg n sf f : Nat) : State :=
  let run := s.scanRun seg n f sf
  let first := (f + sf - (run.length - 1)) % sf
  (s.segPart seg 16 (s.scanTrig i seg n f sf)).scanClose i seg sf first run [] 0x82

/-- A ring with only the open part valid becomes a record with cause 7; `keep` is PL_KEEP with another free segment. -/
def State.scanRing (s : State) (i seg : Nat) : State :=
  ((s.newestSlot seg (s.ringN seg) (s.ringSF seg)).map (s.scanFound i seg (s.ringN seg) (s.ringSF seg))).getD s

/-- REC_SCAN_DONE (R341): the partition's headers are taken in the order of the rule's rows, then the ring is opened. -/
def State.recScan (s : State) (i : Nat) : State :=
  if !s.recScanning i then s
  else
    let part := s.recPart i
    let rings := part.filter (fun x => s.openValid i x 1)
    let maxSeq := (part.filter (fun x => [1, 2, 3].any (fun k => s.openValid i x k))).foldl (fun a x => max a (s.segWord x 1).toNat) 0
    let done := rings.filter (fun x => s.trigValid x && s.closeValid x)
    let open_ := rings.filter (fun x => s.trigValid x && !s.closeValid x)
    let bare := rings.filter (fun x => !s.trigValid x)
    let s := open_.foldl (fun t x => t.scanUnclosed i x) s
    let listed (t : State) (l : List Nat) : List Nat := l.flatMap (fun x => t.closeSegs x)
    let (s, kept) := bare.foldl (fun (p : State × List Nat) x =>
      let used := listed p.1 p.2
      let free := (part.filter (fun y => !used.contains y && decide (y ≠ x))).length
      if p.1.bit (Reg.REC_CFG i) 31 && decide (0 < free) && (p.1.newestSlot x (p.1.ringN x) (p.1.ringSF x)).isSome
        then (p.1.scanRing i x, p.2 ++ [x]) else p) (s, done ++ open_)
    let held := kept.map (fun x => ((s.segWord x 1).toNat, s.closeSegs x))
    let wbSet := kept.flatMap (fun x => ((s.segWords x 46 16).filter (fun w => decide (w ≠ 0xFFFFFFFF))).map (·.toNat))
    let s := (List.range 16).foldl (fun t c => if (t.wbu c).copy.any (fun x => decide (x.1 = i)) then t.setWbu c WbU.init else t) s
    let s := s.setRcu i { RecU.init with
      openSeq := maxSeq + 1, next := s.tick.runs + 1, lastTick := s.tickNo, held := held, stopReq := (s.rcu i).stopReq, stopAt := (s.rcu i).stopAt, again := (s.rcu i).again }
    let s := (held.flatMap (·.2)).foldl (fun t x => t.recUse i [x] (if wbSet.contains x then 3 else 2)) s
    let s := (s.putBit (Reg.REC_STAT i) 2 false).putBit (Reg.REC_STAT i) 1 true
    let s := (s.recRing i).recShow i
    s.recLog i 0x1B5 (s.recFree i).length held.length

def execRecScanDone (i : Fin 4) (s : State) : Host.Outcome State Fault Refusal := .next (s.recScan i.val)

end Sys2Proof.Machine
end

