-- ==== Sys2Proof/Machine/Gauge.lean ====
section
/-!
DEFINITION. The profile gauges (chapter 10, R354 to R357).
-/
namespace Sys2Proof

/-- 128 × angle / π of a phasor in 2^-64, from its parts as given (R355 takes θ / 2π × 256). -/
def turn128 (z : Cx) : Int :=
  match flOf z.1, flOf z.2 with
  | .fin s m e, .fin t n f =>
    let x := m * 2 ^ (e - f).toNat
    let y := n * 2 ^ (f - e).toNat
    let q : Int := (2 : Int) ^ 64
    let a : Int :=
      if n = 0 then (if s && decide (m ≠ 0) then 128 * q else 0)
      else if m = 0 then 64 * q
      else
        let at_ (u v : Nat) : Int := if u * 2 ^ 90 < v then 0 else 128 * q * atanFix u v / piFix
        let b : Int := if y ≤ x then at_ y x else 64 * q - at_ x y
        if s then 128 * q - b else b
    if t then -a else a
  | _, _ => 0

/-- The point that TRK sample i of a window of n samples takes (R355). -/
def gaugePoint (n i : Nat) (z : Cx) : Nat :=
  let q : Int := (2 : Int) ^ 64
  ((((256 * i : Nat) : Int) * q + (64 * q + turn128 z) * (n : Int) + q / 2 * (n : Int)) / (q * (n : Int)) % 256).toNat

end Sys2Proof

namespace Sys2Proof.Machine
open Sys2Proof

def State.gauge (s : State) (k : Nat) : GaugeU := SMap.get (fun _ => GaugeU.init) s.gauges k
def State.setGauge (s : State) (k : Nat) (x : GaugeU) : State := { s with gauges := SMap.set (fun _ => GaugeU.init) s.gauges k x }

/-- Bounds of point j of a lane's table (R354): upper, lower. -/
def State.gaugeBounds (s : State) (ch j : Nat) : Int × Int :=
  let a := clusterKey (clOf ch) (0xA0000 + lnOf ch * 0x800 + 8 * j)
  (sext 24 (s.rd a).toNat, sext 24 (s.rd (a + 4)).toNat)

def State.gaugeArmed (s : State) (i g : Nat) : Bool := s.bit (Reg.GAUGE i g) 31

/-- The time in ns of a TRK tag word of the running tick's neighbourhood (R163: two bits of the second, and nanoseconds). -/
def State.tagNs (s : State) (w : Word) : Nat :=
  let sec := s.tick.sec - (s.tick.sec + 4 - field w 31 30) % 4
  sec * 1000000000 + field w 29 0

/-- One sample of an armed gauge, `age` places before the newest ring position (R355, R356): an INVALID one ends the run of violations, and
none else is tested where the reference window does not stand (`ref`). Samples count from the oldest of the reference lane's window. -/
def State.gaugeSample (s : State) (i g age : Nat) (refOk : Bool) : State :=
  let cfg := s.rd (Reg.GAUGE i g)
  let ch := field cfg 6 0
  let c := clOf ch
  let n := s.nTrk c
  let w := s.trkWord c (lnOf ch) age
  let x := s.gauge (8 * i + g)
  if !s.gaugeArmed i g ∨ (field cfg 9 8 ≠ 0 ∧ !x.due.isEmpty) then s
  else if bitAt w 7 then s.setGauge (8 * i + g) { x with run := 0 }
  else if !refOk then s
  else
    let ref := field (s.eff (Reg.TRK_CFG c)) 2 0
    let z : Cx := (s.winWord c (phasorKey c (ref * 0x200 + 8)), s.winWord c (phasorKey c (ref * 0x200 + 12)))
    let b := s.gaugeBounds ch (gaugePoint n (n - 1 + s.trkLag c ref - age) z)
    let v := sampleValue w
    if v ≤ b.1 ∧ b.2 ≤ v then s.setGauge (8 * i + g) { x with run := 0 }
    else if x.run + 1 < field cfg 23 16 then s.setGauge (8 * i + g) { x with run := x.run + 1 }
    else
      let t := s.tagNs (s.winWord c (winKey c (tagAddr ((s.trkHead c + 256 - age) % 256)))) - s.laneGd ch
      s.setGauge (8 * i + g) { x with run := 0, due := x.due ++ [(t, s.epoch, s.tick.runs)] }

/-- The gauges of cluster c test the TRK samples delivered in the entry phase, oldest first; where the reference window is INVALID or on
HOLD none is tested (R355). -/
def State.gaugeTests (s : State) (c : Nat) : State :=
  let ref := field (s.eff (Reg.TRK_CFG c)) 2 0
  let st := (s.winWord c (phasorKey c (0x1040 + ref * 4))).toNat
  (List.range 32).foldl (fun t k =>
    let ch := t.fld (Reg.GAUGE (k / 8) (k % 8)) 6 0
    if t.gaugeArmed (k / 8) (k % 8) && decide (ch / 8 = c) then
      let new := t.trkGot c (ch % 8)
      (List.range new).foldl (fun u a =>
        u.gaugeSample (k / 8) (k % 8) (t.trkLag c (ch % 8) + (new - 1 - a)) (!st.testBit 0 && !st.testBit 3)) t
    else t) s

/-- Disarm a gauge. -/
def State.gaugeDisarm (s : State) (i g : Nat) : State :=
  (s.putBit (Reg.GAUGE i g) 31 false).setGauge (8 * i + g) { s.gauge (8 * i + g) with run := 0, due := [] }

/-- Arm an enabled gauge. -/
def State.gaugeArm (s : State) (i g : Nat) : State :=
  if s.bit (Reg.GAUGE i g) 24 then
    (s.putBit (Reg.GAUGE i g) 31 true).setGauge (8 * i + g) { s.gauge (8 * i + g) with run := 0, due := [] }
  else s

/-- GAUGE_ARM and GAUGE_DISARM of slot g. -/
def execGaugeArm (r : Req) (i : Fin 4) (g : Fin 8) (s : State) : Host.Outcome State Fault Refusal :=
  s.access r (fun s => s.recGuard r i.val (0x8C + 4 * g.val) 0x40000000 (fun s => s.gaugeArm i.val g.val))

def execGaugeDisarm (r : Req) (i : Fin 4) (g : Fin 8) (s : State) : Host.Outcome State Fault Refusal :=
  s.access r (fun s => s.recGuard r i.val (0x8C + 4 * g.val) 0x20000000 (fun s => s.gaugeDisarm i.val g.val))

/-- GAUGE_VIOLATION: NV consecutive violations make the gauge act (R356). -/
def State.gaugeAct (s : State) (i g : Nat) : State :=
  let x := s.gauge (8 * i + g)
  match x.due with
  | [] => s
  | (t, ep, no) :: rest =>
    let cfg := s.rd (Reg.GAUGE i g)
    let out := field cfg 9 8
    let s := s.setGauge (8 * i + g) { x with due := rest }
    let s := if s.recRunning i then s.rcuMod i (fun u => { u with gaugeAt := no :: u.gaugeAt }) else s
    let s := s.recLog i 0x1B9 (g * 16777216 + out * 65536 + field cfg 6 0) (t % 1000000000)
    let q : Trig := { cause := out + 2, at_ := t, epoch := ep, state := s.fld (Reg.BLZ_STAT i) 31 28, pred := g, linear := false }
    let gref := s.fld (Reg.REC_CFG i) 23 0
    if out = 0 then s.setGauge (8 * i + g) { s.gauge (8 * i + g) with events := x.events + 1, at_ := t, ep := ep }
    else if out = 1 then (s.gaugeDisarm i g).recTrigger i q gref
    else if out = 2 then (s.gaugeDisarm i g).recStop i q gref
    else s

def execGaugeViolation (i : Fin 4) (g : Fin 8) (s : State) : Host.Outcome State Fault Refusal := .next (s.gaugeAct i.val g.val)

/-- GAUGE_TABLE_WRITE at an offset of the tables of cluster c: discarded while an armed gauge names the channel (R357). -/
def State.gaugeTable (s : State) (r : Req) (c off : Nat) (v : Word) : State :=
  let ch := 8 * c + off / 0x800
  if (List.range 32).any (fun k => s.gaugeArmed (k / 8) (k % 8) && decide (s.fld (Reg.GAUGE (k / 8) (k % 8)) 6 0 = ch)) then
    s.indFail r 3
  else s.wr (clusterKey c (0xA0000 + off / 4 * 4)) (v &&& 0xFFFFFF)

def execGaugeTableWrite (r : Req) (c : Fin 16) (off : BitVec 14) (v : Word) (s : State) : Host.Outcome State Fault Refusal :=
  s.access r (fun s => s.gaugeTable r c.val off.toNat v)

end Sys2Proof.Machine
end

