-- ==== Sys2Proof/Machine/Blaze.lean ====
section
/-!
DEFINITION. The Blaze sequencers (chapter 10, R345 to R353), the configuration writes of an instance (R360), the stop of an
instance and the COMTRADE export (R358, R359).
-/
namespace Sys2Proof

/-- The tag in ns of REC sample m of the running scale (R111). -/
def recNs (m : Nat) : Nat := m / 14400 * 1000000000 + m % 14400 * 625000 / 9

/-- 6 D³ (p(a / D) − H) for samples x₋₁, x₀, x₁, x₂ (R348). -/
def crossPoly (xm x0 x1 x2 h a d : Int) : Int :=
  -(a * (a - d) * (a - 2 * d)) * xm + 3 * ((a + d) * (a - d) * (a - 2 * d)) * x0 - 3 * ((a + d) * a * (a - 2 * d)) * x1 +
    ((a + d) * a * (a - d)) * x2 - 6 * d * d * d * h

/-- n further halvings of the interval [k / d, (k + 1) / d]; `f` is p − H in exact arithmetic, up as its sign at the lower end. -/
def halvings (f : Int → Int → Int) (up : Bool) : Nat → Int → Int → Int × Int
  | 0, k, d => (2 * k + 1, 2 * d)
  | n + 1, k, d =>
    let b := decide (0 ≤ f (2 * k + 1) (2 * d))
    if b = up then halvings f up n (2 * k + 1) (2 * d) else halvings f up n (2 * k) (2 * d)

/-- A crossing of H by samples x₀, x₁ of a stream with neighbours where valid (R348): μ as a fraction, and LINEAR. MODE 0 rising,
1 falling, 2 magnitude. -/
def crossAt (mode : Nat) (h : Int) (xm : Option Int) (x0 x1 : Int) (x2 : Option Int) : Option (Int × Int × Bool) :=
  let neg := decide (mode = 2) && decide (x1 < 0)
  let sg (v : Int) : Int := if neg then -v else v
  let h := if mode = 2 then (h.natAbs : Int) else h
  let hit := if mode = 0 then decide (x0 < h) && decide (h ≤ x1)
    else if mode = 1 then decide (h ≤ x0) && decide (x1 < h)
    else if mode = 2 then decide ((x0.natAbs : Int) < h) && decide (h ≤ (x1.natAbs : Int)) else false
  if !hit then none
  else match xm, x2 with
    | some a, some b =>
      let m := halvings (fun k d => crossPoly (sg a) (sg x0) (sg x1) (sg b) h k d) (decide (h ≤ sg x0)) 17 0 1
      some (m.1, m.2, false)
    | _, _ =>
      let n := h - sg x0
      let d := sg x1 - sg x0
      some (if d < 0 then (-n, -d, true) else (n, d, true))

/-- An event of a predicate in a step: its time in ns and its epoch, and LINEAR. -/
structure BEvt where
  at_ : Nat
  epoch : Nat
  linear : Bool
  deriving DecidableEq, Repr

end Sys2Proof

namespace Sys2Proof.Machine
open Sys2Proof

def State.blzMod (s : State) (i : Nat) (f : BlzU → BlzU) : State := s.setBlz i (f (s.blzU i))

/-- Time of the last change of element flag n of cluster c (R346, kind 1). -/
def State.flagNs (s : State) (c n : Nat) : Nat :=
  let ch := 8 * c
  nsOfTick (SMap.get (fun _ => 0) (s.elem c).flagAt n - (s.lane ch).delay) - s.laneGd ch

/-- The epoch of that change. -/
def State.flagEp (s : State) (c n : Nat) : Nat := SMap.get (fun _ => 0) (s.elem c).flagEp n

/-- An element flag as last posted. -/
def State.elemFlag (s : State) (c n : Nat) : Bool := bitAt (s.elem c).flags n

/-- The value of REC sample m of a lane where it is valid. -/
def State.recValid (s : State) (ch m : Nat) : Option Int :=
  match (s.lane ch).recs.find? (fun x => x.m = m ∧ x.epoch = s.epoch) with
  | some x => if bitAt x.word 7 then none else some (sampleValue x.word)
  | none => none

/-- The value of WB sample m of a lane where it is not missing; m − 1 is at most 255 places back. -/
def State.wbValid (s : State) (ch m : Nat) : Option Int :=
  let n := (s.lane ch).wbM
  if m < n then ((s.fpd ch).recent.getD (n - 1 - m) none) else none

/-- A crossing between samples m − 1 and m of a stream. -/
def streamCross (x : Nat → Option Int) (mode : Nat) (h : Int) (m : Nat) : Option (Int × Int × Bool) :=
  if m = 0 then none
  else match x (m - 1), x m with
    | some a, some b => crossAt mode h (if m < 2 then none else x (m - 2)) a b (x (m + 1))
    | _, _ => none

/-- The first event among samples from `lo` on, below `hi`, at most 128 of them. -/
def firstCross (x : Nat → Option Int) (mode : Nat) (h : Int) (lo hi : Nat) : Option (Nat × Int × Int × Bool) :=
  let lo := if lo + 128 < hi then hi - 128 else lo
  (List.range (hi - lo)).findSome? (fun k => (streamCross x mode h (lo + k)).map (fun r => (lo + k, r)))

/-- What predicate p of instance i has in the step that ends now: an event if any, whether it is a level that is 1, and what the
predicate has seen after the step (R346, R348). -/
def State.predEval (s : State) (i p : Nat) : Option BEvt × Bool × Nat :=
  let w := s.rd (Reg.BLZ_PRED i p)
  let b := s.blzU i
  let seen := SMap.get (fun _ => 0) b.seen p
  let kind := field w 31 28
  let mode := field w 27 26
  let src := field w 9 0
  let evt (t ep : Nat) : Option BEvt := some { at_ := t, epoch := ep, linear := false }
  let counted (n t ep : Nat) : Option BEvt × Bool × Nat := (if n = seen then none else evt t ep, false, n)
  let thr := sext 24 (s.rd (Reg.BLZ_THR i (field w 25 22))).toNat
  match kind with
  | 1 =>
    let c := src / 32 % 16
    let v := s.elemFlag c (src % 32)
    let ev := if v = decide (seen = 1) then none else if mode = 0 && !v || mode = 1 && v || mode = 3 then none else evt (s.flagNs c (src % 32)) (s.flagEp c (src % 32))
    if mode = 2 then (none, v, b2n v) else (ev, false, b2n v)
  | 2 => if mode = 0 then counted (s.fpd (src % 128)).ops (s.fpd (src % 128)).opAt (s.fpd (src % 128)).opEp else (none, false, seen)
  | 3 =>
    let u := s.fio
    let hit (e : FEdge) : Bool := decide (e.ch = src % 64) && (decide (mode = 2) || (decide (mode = 0) && e.rise) || (decide (mode = 1) && !e.rise))
    ((u.taps.drop (seen - u.tapNo)).find? hit |>.map (fun e => { at_ := stampNs e.at_, epoch := e.at_.epoch, linear := false }), false, u.tapNo + u.taps.length)
  | 4 =>
    let ch := src % 128
    let hi := (s.lane ch).recM - 1
    let lo := if hi < seen then hi else seen
    ((firstCross (s.recValid ch) mode thr lo hi).map (fun r =>
      { at_ := ((recNs (r.1 - 1) : Int) + roundQ (r.2.1 * 625000) (9 * r.2.2.1.natAbs) - (s.laneGd ch : Nat)).toNat, epoch := s.epoch,
        linear := r.2.2.2 }), false, hi)
  | 5 =>
    let ch := src % 128
    let hi := (s.lane ch).wbM - 1
    let lo := if hi < seen then hi else seen
    ((firstCross (s.wbValid ch) mode thr lo hi).map (fun r =>
      let base : Int := 8 * ((r.1 : Int) - 1) * 625000
      let d := r.2.2.1
      { at_ := (roundQ (base * 1000 * d + r.2.1 * 542535 * 9216 - 508600 * 9216 * d) (9216 * 1000 * d.natAbs)).toNat, epoch := s.epoch,
        linear := r.2.2.2 }), false, hi)
  | 6 => if mode = 0 then counted (s.alm (src % 16)).fires (inNs (s.alm (src % 16)).last) (s.alm (src % 16)).lastEp else (none, false, seen)
  | 7 => ((b.inbox.find? (fun e => decide (e.1 = src % 4) && decide (e.2.1 < b.step))).bind (fun e => if mode = 0 then evt e.2.2.1 e.2.2.2 else none),
      false, 0)
  | 8 => if mode = 0 then counted (s.gauge (8 * i + src % 8)).events (s.gauge (8 * i + src % 8)).at_ (s.gauge (8 * i + src % 8)).ep else (none, false, seen)
  | _ => (none, false, 0)

/-- One step's view of the predicates: event, level and what each has seen. -/
abbrev PredView := List (Option BEvt × Bool × Nat)

def PredView.evt (v : PredView) (p : Nat) : Option BEvt := (v.getD p (none, false, 0)).1
def PredView.holds (v : PredView) (p : Nat) : Bool := (PredView.evt v p).isSome || (v.getD p (none, false, 0)).2.1

/-- A timer of instance i, as (start, end). -/
def State.blzTimer (s : State) (i t : Nat) : Option (Nat × Nat) := SMap.get (fun _ => none) (s.blzU i).tmr t

/-- Whether a term is true at an instant for timers (R349, R350). -/
def State.termTrue (s : State) (i : Nat) (v : PredView) (at_ : Nat) (t : Nat) : Bool :=
  if t < 64 then v.holds t
  else if t < 68 then (s.blzTimer i (t - 64)).any (fun p => decide (p.2 ≤ at_))
  else if t < 72 then decide ((s.rd (Reg.BLZ_CLIM i (t - 68))).toNat ≤ (s.rd (Reg.BLZ_CVAL i (t - 68))).toNat)
  else decide (t = 127)

/-- The terms of a condition word that count: one under OP = 0b00, else both; each with its negation. -/
def condTerms (w : Word) : List (Nat × Bool) :=
  if field w 17 16 = 0 then [(field w 6 0, bitAt w 7)] else [(field w 6 0, bitAt w 7), (field w 14 8, bitAt w 15)]

/-- The instant at which a condition's timer terms are judged: the time of an event of one of its predicate terms, else the end of
the step (R350). -/
def judgeAt (v : PredView) (ts : List (Nat × Bool)) (fin : Nat) : Nat :=
  match ts.findSome? (fun t => if t.1 < 64 then v.evt t.1 else none) with
  | some e => e.at_
  | none => fin

/-- Whether a condition holds in the step that ends at `fin`. -/
def State.condTrue (s : State) (i : Nat) (v : PredView) (w : Word) (fin : Nat) : Bool :=
  let ts := condTerms w
  let at_ := judgeAt v ts fin
  let one (t : Nat × Bool) : Bool := s.termTrue i v at_ t.1 != t.2
  if field w 17 16 = 3 then false
  else if field w 17 16 = 2 then ts.any one else ts.all one

/-- The event of level predicate p: the last rise of its flag (R346). -/
def State.levelEvt (s : State) (i p : Nat) : BEvt :=
  let c := s.fld (Reg.BLZ_PRED i p) 8 5
  let n := s.fld (Reg.BLZ_PRED i p) 4 0
  { at_ := s.flagNs c n, epoch := s.flagEp c n, linear := false }

/-- The trigger instant of a rule that holds, as an event, with the predicate that gives it (0xFF none) (R352). -/
def State.ruleInstant (s : State) (i : Nat) (v : PredView) (w : Word) (fin step : Nat) : BEvt × Nat :=
  let ts := condTerms w
  let at_ := judgeAt v ts fin
  let now (t : Nat) : BEvt × Nat := ({ at_ := t, epoch := s.epoch, linear := false }, 0xFF)
  let dflt := now (recNs step - s.fld (Reg.REC_CFG i) 23 0)
  match ts.find? (fun t => !t.2 && s.termTrue i v at_ t.1) with
  | none => dflt
  | some (t, _) =>
    if t < 64 then
      match v.evt t with
      | some e => (e, t)
      | none => (s.levelEvt i t, t)
    else if t < 68 then
      match s.blzTimer i (t - 64) with
      | some p => now p.2
      | none => dflt
    else if t < 72 then
      match v.evt (s.fld (Reg.BLZ_CCFG i (t - 68)) 5 0) with
      | some e => (e, 0xFF)
      | none => dflt
    else dflt

/-- The running counters advance by the predicates of the step (R350, R351). -/
def State.blzCount (s : State) (i : Nat) (v : PredView) : State :=
  (List.range 4).foldl (fun t c =>
    if t.bit (Reg.BLZ_CCFG i c) 31 && v.holds (t.fld (Reg.BLZ_CCFG i c) 5 0) then t.count (Reg.BLZ_CVAL i c) 31 0 1 else t) s

/-- TMR_EXP and TMR_RUN as they stand at a time. -/
def State.blzTmrShow (s : State) (i at_ : Nat) : State :=
  let exp (t : Nat) : Bool := (s.blzTimer i t).any (fun p => decide (p.2 ≤ at_))
  let run (t : Nat) : Bool := (s.blzTimer i t).any (fun p => decide (at_ < p.2))
  (s.put (Reg.BLZ_STAT i) 7 4 (packBits 4 exp)).put (Reg.BLZ_STAT i) 3 0 (packBits 4 run)

/-- The sequencer halts (R351). -/
def State.blzHalt (s : State) (i : Nat) : State :=
  let s := (s.putBit (Reg.BLZ_STAT i) 26 true).putBit (Reg.BLZ_STAT i) 27 false
  s.recLog i 0x1B8 (s.fld (Reg.BLZ_STAT i) 31 28) s.tick.idx

/-- The actions of an action word, in the order of R351. -/
def State.blzAct (s : State) (i : Nat) (w : Word) (inst : BEvt × Nat) (step : Nat) : State :=
  let c := field w 8 7
  let t := field w 11 10
  let g := field w 16 14
  let st := s.fld (Reg.BLZ_STAT i) 31 28
  let q (cause : Nat) : Trig := { cause := cause, at_ := inst.1.at_, epoch := inst.1.epoch, state := st, pred := inst.2, linear := inst.1.linear }
  let gref := s.fld (Reg.REC_CFG i) 23 0
  let s := if field w 6 5 = 1 then (s.wr (Reg.BLZ_CVAL i c) 0).putBit (Reg.BLZ_CCFG i c) 31 true
    else if field w 6 5 = 2 then s.putBit (Reg.BLZ_CCFG i c) 31 false else s
  let s := if bitAt w 9 then s.blzMod i (fun b => { b with
      tmr := SMap.set (fun _ => none) b.tmr t (some (inst.1.at_, inst.1.at_ + s.fld (Reg.BLZ_TPRE i t) 23 0 * 1000)) }) else s
  let s := if field w 13 12 = 1 then s.gaugeArm i g else if field w 13 12 = 2 then s.gaugeDisarm i g else s
  let s := (List.range 4).foldl (fun u j =>
    if bitAt w (17 + j) && decide (j ≠ i) then u.blzMod j (fun b => { b with inbox := b.inbox ++ [(i, step, inst.1.at_, inst.1.epoch)] }) else u) s
  let s := if bitAt w 31 then s.recTrigger i (q 1) gref else s
  let s := if bitAt w 30 then (s.recStop i (q 2) gref).blzHalt i else s
  if bitAt w 4 then s.put (Reg.BLZ_STAT i) 31 28 (field w 3 0) else s

/-- What the predicates have seen is kept; delivered signals leave the inbox. -/
def State.blzSeen (s : State) (i : Nat) (v : PredView) : State :=
  s.blzMod i (fun b => { b with
    seen := (List.range 64).foldl (fun m p => SMap.set (fun _ => 0) m p (v.getD p (none, false, 0)).2.2) b.seen
    inbox := b.inbox.filter (fun e => decide (b.step ≤ e.2.1)) })

/-- The view of the 64 predicates of an instance now. -/
def State.predView (s : State) (i : Nat) : PredView := (List.range 64).map (s.predEval i)

/-- BLAZE_STEP of instance i: the step is evaluated once, at its end (R345, R351). -/
def State.blazeStep (s : State) (i : Nat) : State :=
  if !s.bit (Reg.BLZ_STAT i) 27 then s
  else
    let step := (s.blzU i).step
    let fin := recNs (step + 1)
    let s := s.reachTime fin
    let v := s.predView i
    let s := (s.blzCount i v).blzSeen i v
    let q := s.fld (Reg.BLZ_STAT i) 31 28
    let ca := s.rd (Reg.BLZ_COND i q 0)
    let cb := s.rd (Reg.BLZ_COND i q 1)
    let s := if s.condTrue i v ca fin then s.blzAct i (s.rd (Reg.BLZ_ACT i q 0)) (s.ruleInstant i v ca fin step) step
      else if s.condTrue i v cb fin then s.blzAct i (s.rd (Reg.BLZ_ACT i q 1)) (s.ruleInstant i v cb fin step) step
      else s
    (s.blzMod i (fun b => { b with step := step + 1 })).blzTmrShow i fin

def execBlazeStep (i : Fin 4) (s : State) : Host.Outcome State Fault Refusal := .next (s.blazeStep i.val)

/-- BLZ_TIMER_EXPIRY: timer t reaches its end instant and no longer runs (R350). -/
def State.blzExpire (s : State) (i t : Nat) : State :=
  match s.blzTimer i t with
  | none => s
  | some p => (s.reachTime p.2).putBit (Reg.BLZ_STAT i) t false

def execBlzTimerExpiry (i : Fin 4) (t : Fin 4) (s : State) : Host.Outcome State Fault Refusal := .next (s.blzExpire i.val t.val)

/-- BLZ_COUNTER_LIMIT: reaching its limit changes nothing by itself: the counter terms of R349 compare the count in every step. -/
def execBlzCounterLimit (_i _c : Fin 4) (s : State) : Host.Outcome State Fault Refusal := .next s

/-! ### Start and stop -/

/-- The taps of the kind-3 predicates of instance i (R347). -/
def State.blzTaps (s : State) (i : Nat) : List Nat :=
  ((List.range 64).filterMap (fun p =>
    let w := s.rd (Reg.BLZ_PRED i p)
    if field w 31 28 = 3 ∧ field w 9 0 % 64 < 48 then some (0x8000 + field w 9 0 % 64) else none)).eraseDups

/-- Release the taps of instance i. -/
def State.blzUntap (s : State) (i : Nat) : State :=
  (s.ownedBy (0x20 + i)).foldl (fun t r => t.setClaim r Claim.free) s

/-- A start refused for a tap (R42, R347). -/
def State.blzRefused (s : State) (i res : Nat) : State :=
  let last := res * 0x10000 + (0x20 + i) * 0x100 + s.owner res
  let s := s.blzUntap i
  let s := (s.putBit Reg.CLAIM_STAT 0 true).wr Reg.CLAIM_LAST (w32 last)
  let s := (s.count Reg.CLAIM_DENY_CNT 31 0 1).putBit (Reg.BLZ_STAT i) 25 true
  ((s.putBit (Reg.BLZ_CTRL i) 0 false).irq 59).log 0x130 1 last 0

/-- The sequencer starts at state 0 with counters 0 and stopped and no timer started (R351). -/
def State.blzBegin (s : State) (i : Nat) : State :=
  let s := (s.putBit (Reg.BLZ_CTRL i) 0 true).wr (Reg.BLZ_STAT i) (s.rd (Reg.BLZ_STAT i) &&& 0x02000000 ||| 0x08000000)
  let s := (List.range 4).foldl (fun t c => (t.wr (Reg.BLZ_CVAL i c) 0).putBit (Reg.BLZ_CCFG i c) 31 false) s
  let s := s.setBlz i { BlzU.init with step := recStepOf (inNs (s.tb.sec, s.tb.ns)) }
  let v := s.predView i
  s.blzSeen i v

/-- BLZ_CTRL.RUN = 1: the sequencer runs only while its instance runs (R353); taps are claimed first (R347). -/
def State.blzStart (s : State) (i : Nat) : State :=
  if !s.recRunning i then s
  else
    let taps := s.blzTaps i
    let s := if s.bit (Reg.BLZ_STAT i) 27 then s else s.blzUntap i
    match taps.find? (fun r => decide (s.owner r ≠ 0) && decide (s.owner r ≠ 0x20 + i)) with
    | some r => s.blzRefused i r
    | none => (s.takeClaims (0x20 + i) taps).blzBegin i

def execBlzRunStart (r : Req) (i : Fin 4) (s : State) : Host.Outcome State Fault Refusal :=
  s.access r (fun s => s.recGuard r i.val 0x44 1 (fun s => s.blzStart i.val))

/-- The sequencer stops and releases its taps. -/
def State.blzStop (s : State) (i : Nat) : State :=
  ((s.putBit (Reg.BLZ_CTRL i) 0 false).putBit (Reg.BLZ_STAT i) 27 false).blzUntap i

def execBlzRunStop (r : Req) (i : Fin 4) (s : State) : Host.Outcome State Fault Refusal :=
  s.access r (fun s => s.recGuard r i.val 0x44 0 (fun s => s.blzStop i.val))

/-- REC_STOP_APPLY: at the tick start an open window closes as for a STOP, the instance stops and its sequencer with it (R353,
R361). A start that waits behind the stop then scans. -/
def State.recStopApply (s : State) (i : Nat) : State :=
  if !(s.rcu i).stopReq || decide (s.tick.runs ≤ (s.rcu i).stopAt) then s
  else
    let again := (s.rcu i).again
    let s := s.recEnd i (s.rcu i).ord 0
    let s := s.rcuMod i (fun u => { u with stopReq := false, again := false, ring := none, marks := [], gaugeAt := [] })
    let s := (s.putBit (Reg.REC_STAT i) 1 false).putBit (Reg.REC_STAT i) 2 again
    (s.blzStop i).recShow i

def execRecStopApply (i : Fin 4) (s : State) : Host.Outcome State Fault Refusal := .next (s.recStopApply i.val)

/-! ### Configuration writes (R360) -/

/-- Whether a write of GAUGE_g changes a field other than ARM and DISARM. -/
def gaugeChanges (old v : Word) : Bool := decide (old &&& 0x01FF037F ≠ v &&& 0x01FF037F)

/-- Whether an enabled gauge elsewhere names the channel (R354). -/
def State.gaugeTaken (s : State) (i g ch : Nat) : Bool :=
  (List.range 32).any (fun k => decide (k ≠ 8 * i + g) && s.bit (Reg.GAUGE (k / 8) (k % 8)) 24 &&
    decide (s.fld (Reg.GAUGE (k / 8) (k % 8)) 6 0 = ch))

/-- Whether a write of an instance's register at an offset is accepted (R342, R354, R360). -/
def State.recAccepts (s : State) (i off : Nat) (v : Word) : Bool :=
  let base := Reg.REC_CTRL i
  let recFree := !s.bit (Reg.REC_CTRL i) 0
  let blzFree := !s.bit (Reg.BLZ_CTRL i) 0
  if 0x28 = off then
    recFree && (List.range 4).all (fun j => decide (j = i) || decide (s.fld (Reg.REC_WB j) 15 0 &&& field v 15 0 = 0))
  else if off < 0x2C then recFree
  else if off < 0x4C then true
  else if 0x8C ≤ off ∧ off < 0xAC then
    let g := (off - 0x8C) / 4
    !gaugeChanges (s.rd (base + off)) v || (blzFree && !(bitAt v 24 && s.gaugeTaken i g (field v 6 0)))
  else blzFree

/-- REC_CONFIG_WRITE of the register at an offset of instance i: REC_CTRL, REC_CMD and BLZ_CTRL have rows of their own. -/
def State.recConfig (s : State) (r : Req) (i off : Nat) (v : Word) : State :=
  if !s.mayWrite r (0x5000 + i) ∨ !s.recAccepts i off v then s.recDeny i off v.toNat
  else
    let s := s.regWrite (Reg.REC_CTRL i + off) v
    let s := if 0x8C ≤ off ∧ off < 0xAC then
        let g := (off - 0x8C) / 4
        let s := if bitAt v 30 then s.gaugeArm i g else s
        if bitAt v 29 then s.gaugeDisarm i g else s
      else s
    s.recShow i

def execRecConfigWrite (r : Req) (i : Fin 4) (off : Fin 0x300) (v : Word) (s : State) : Host.Outcome State Fault Refusal :=
  let o := off.val / 4 * 4
  s.access r (fun s => if o = 0 ∨ o = 0x2C ∨ o = 0x44 then s else s.recConfig r i.val o v)

/-! ### COMTRADE export (R358, R359) -/

/-- The places of a record's frames in their reading order (R339), from its close part and open part. -/
def State.recordPlaces (s : State) (seg : Nat) : List (Nat × Nat) :=
  let sf := field (s.segWord seg 2) 31 16
  let count := (s.segWord seg 34).toNat
  let slot := (s.segWord seg 35).toNat
  let chain := ((s.segWords seg 38 8).filter (fun w => decide (w ≠ 0xFFFFFFFF))).map (·.toNat)
  (((List.range sf).map (fun k => (seg, (slot + k) % sf))) ++
    (chain.drop 1).flatMap (fun x => (List.range sf).map (fun f => (x, f)))).take count

/-- One value of the data file: BINARY holds 16 bits, BINARY32 holds 32 (R359). -/
def comValue (wide : Bool) (w : Option Word) : Bytes :=
  match w with
  | some x =>
    if bitAt x 7 then (if wide then [0, 0, 0, 0x80] else [0, 0x80])
    else if wide then leBytes (wInt (sampleValue x))
    else (leBytes (wInt (clampInt (-32767) 32767 (sampleValue x / 256)))).take 2
  | none => if wide then [0, 0, 0, 0x80] else [0, 0x80]

/-- The data file of a record in BINARY or BINARY32: each sample with its number, no timestamp, the values in frame order and the
status channels in 16-bit words (C37.111). -/
def State.comData (s : State) (seg : Nat) (wide : Bool) : Bytes :=
  let n := field (s.segWord seg 2) 7 0
  ((s.recordPlaces seg).zip (List.range (s.segWord seg 34).toNat)).flatMap (fun p =>
    let fr := s.slotFrame p.1.1 n p.1.2
    let st := match fr with
      | some ws => (leBytes (ws.getD 3 0)) ++ (leBytes (ws.getD 4 0)).take 2 ++ leBytes (ws.getD 5 0) ++ leBytes (ws.getD 6 0)
      | none => List.replicate 14 0
    (List.range 3).flatMap (fun r =>
      leBytes (w32 (3 * p.2 + r + 1)) ++ [0xFF, 0xFF, 0xFF, 0xFF] ++
        (List.range n).flatMap (fun k => comValue wide (fr.map (fun ws => ws.getD (7 + r * n + k) 0))) ++ st))

/-- The content of the configuration, header and ASCII data files of the record whose first segment is given (R359), converted from TAI
with the UTC offset of TB_UTC. A frame shows the low 32 bits of its second; the record's trigger gives the rest. -/
def State.comInfo (s : State) (seg kind : Nat) (scale : Word) : ComInfo :=
  let w := s.segWord seg
  let n := field (w 2) 7 0
  let mask (ch : Nat) : Bool := bitAt (w (3 + ch / 32)) (ch % 32)
  let gb := (w 11).toNat
  let frames := (s.recordPlaces seg).map (fun p => s.slotFrame p.1 n p.2)
  let high := field (w 20) 15 0 * 4294967296
  let utc (ns : Int) : Int := ns - (s.fld Reg.TB_UTC 15 0 : Int) * 1000000000
  let tickOf (ws : List Word) : Nat := (high + (ws.getD 1 0).toNat) * 4800 + field (ws.getD 0 0) 12 0
  let value (x : Word) : Option Int := if bitAt x 7 then none else some (sampleValue x)
  { kind := kind, chans := idxWhere 128 mask, mult := if kind = 1 then 256 else 1, scale := scale,
    skew := (List.range n).map (fun k => (gb : Int) - (field (w (64 + k)) 23 0 : Int)),
    start := utc (((frames.headD none).map (fun ws => (recNs (3 * tickOf ws) : Int))).getD 0 - (gb : Int)),
    trigger := utc (((high + (w 18).toNat) * 1000000000 + field (w 19) 29 0 : Nat) : Int),
    quality := frames.map (fun f => field ((f.getD []).getD 2 0) 23 22),
    steps := (frames.zipIdx.filter (fun f => bitAt ((f.1.getD []).getD 2 0) 2)).map (fun f => (3 * f.2 + 1, recNs (3 * tickOf (f.1.getD [])))),
    rows := frames.flatMap (fun f => (List.range 3).map (fun r =>
      ((List.range n).map (fun k => f.bind (fun ws => value (ws.getD (7 + r * n + k) 0))),
        (List.range 4).map (fun j => (f.getD []).getD (3 + j) 0)))) }

/-- COMTRADE_EXPORT of the closed record `id` of instance i, by the supervisor firmware into the buffer it declares in MRAM bank
1: configuration and header file at `cfg` and `hdr`, data file at `dat`. A record that is not
held gives no files. -/
def State.comExport (s : State) (i id : Nat) (q : ComReq) (cfg hdr dat : Nat) : State :=
  match (s.rcu i).held.find? (fun h => h.1 = id) with
  | none => s
  | some h =>
    let seg := h.2.headD 0
    let info := s.comInfo seg q.kind.val q.scale
    let put (t : State) (a : Nat) (b : Bytes) : State :=
      if 0x820000 ≤ a ∧ a + b.length ≤ 0x1000000 then t.mwr a b else t
    let data := if q.kind = 0 then comAscii info else s.comData seg (decide (q.kind = 2))
    put (put (put s cfg (comCfg info)) hdr (comHeader info)) dat data

def execComtradeExport (i : Fin 4) (id : Word) (q : ComReq) (cfg hdr dat : BitVec 26) (s : State) :
    Host.Outcome State Fault Refusal :=
  .next (s.comExport i.val id.toNat q cfg.toNat hdr.toNat dat.toNat)

end Sys2Proof.Machine
end

