-- ==== Sys2Proof/Machine/FieldLink.lean ====
section
/-!
DEFINITION. Field events that move trip lines: input edges, frames from the field die, the link going down, and the pulse
snapshot (chapters 01 and 15).
-/
namespace Sys2Proof.Machine
open Sys2Proof

/-- Pulse counting of an edge on the field die, and in the snapshot in progress when it lies before the alarm (R501, R502). Until the
first frame after a start the die has no count (R503). -/
def State.countEdge (s : State) (e : FEdge) : State :=
  let cfg := s.fdCfg e.ch
  if s.field_.hold ∨ !bitAt cfg 27 ∨ e.rise = bitAt cfg 26 then s
  else
    let inc (m : SMap Nat) : SMap Nat := SMap.set (fun _ => 0) m e.ch ((SMap.get (fun _ => 0) m e.ch + 1) % 4294967296)
    let s := s.fdMod (fun d => { d with counts := inc d.counts })
    match s.fio.snapAt with
    | some a => if stampNs e.at_ < a then s.fioMod (fun u => { u with snapBase := inc u.snapBase }) else s
    | none => s

/-- Pulse counts as the engine die shows them: complete in every frame but while the die has none, and 0 where a configuration that
restarts the count is still on its way (R501, R503). -/
def State.showCounts (s : State) : State :=
  if s.field_.hold then s
  else (List.range 48).foldl (fun t k =>
    t.wr (Reg.FIO_PCNT k) (if s.fio.pcRestart.getLsbD k then 0 else w32 (SMap.get (fun _ => 0) s.field_.counts k))) s

/-- The filtered state of channel n takes the raw state of its run at the run's FILT-th sample (R498, R499): the edge is counted and
enters the buffer. -/
def State.fioConfirm (s : State) (n : Nat) (on : Bool) (r : RawRun) : State :=
  let s := s.reachCnt (r.cnt + (field (s.fdCfg n) 14 0 - 1) * 250)
  let e : FEdge := { ch := n, rise := on, at_ := r.at_, tq := r.tq, num := s.field_.nextNum,
                     buffered := s.field_.silent.isSome, output := s.fdIsOut n }
  let s := (s.fdMod (fun d => { d with filt := chSet d.filt n on })).countEdge e
  ((s.fdMod (fun d => d.addEdge e)).fdSettle).tlStep

/-- FIO_INPUT_EDGE on channel n: the raw state has held `on` for FILT samples (R498, R499). Where no earlier event has put the raw state
there, (sec, ns) is when the level at the ball changed. -/
def State.fioEdge (s : State) (n : Nat) (on : Bool) (sec ns : Nat) : State :=
  if !s.field_.up ∨ s.field_.filt.getLsbD n = on then s
  else
    let t := sec * 1000000000 + ns
    let s := if s.field_.raw.getLsbD n = on then s
      else
        let s := s.reachTime t
        let s := if s.light.getLsbD n = on then s else s.lightLevel n on
        s.rawEdge n on t
    match SMap.get (fun _ => none) s.field_.runs n with
    | none => s
    | some r => s.fioConfirm n on r

def execFioInputEdge (n : Fin 48) (on : Bool) (sec : Nat) (ns : Fin 1000000000) (s : State) :
    Host.Outcome State Fault Refusal :=
  .next (s.fioEdge n.val on sec ns.val)

/-- The field die's measurements of its banks are 100 µs old or older: it measures again (R510). -/
def State.fieldMeasure (s : State) : State :=
  if s.tb.cnt < s.field_.mvAt + 25000 then s
  else
    let k := s.freeCtr
    let m := (List.range 6).foldl (fun m b => SMap.set (fun _ => 0) m b (Config.bankVolt (k + b)).toNat) []
    (s.fdMod (fun d => { d with mv := m, mvAt := s.tb.cnt })).drewN 6

/-- The current limits that have ended are no longer shown (R508). -/
def State.fieldLimits (s : State) : State :=
  if s.field_.limit = 0 then s
  else (s.fdMod (fun d => { d with limit := d.limit &&& Config.limitOn s.freeCtr })).drew

/-- A mask of the 48 channels, in its LO and HI register. -/
def State.wr48 (s : State) (lo hi : Nat) (v : BitVec 48) : State := (s.wr lo (w32 v.toNat)).wr hi (w32 (v.toNat / 4294967296))

/-- Channel and bank states as the last valid frame brought them: filtered and raw states, mismatches, thermal and limit bits, bank
voltages with warning and lockout (R19, R498, R507 to R510). -/
def State.showStates (s : State) : State :=
  let d := s.field_
  let s := ((s.wr48 Reg.FIO_IN_LO Reg.FIO_IN_HI d.filt).wr48 Reg.FIO_RAW_LO Reg.FIO_RAW_HI d.raw).wr48 Reg.FIO_MM_LO Reg.FIO_MM_HI d.mm
  let s := (List.range 48).foldl (fun t k => (t.putBit (Reg.FIO_FLT k) 8 (d.therm.getLsbD k)).putBit (Reg.FIO_FLT k) 9 (d.limit.getLsbD k)) s
  (List.range 6).foldl (fun t b => ((t.put (Reg.FIO_BANK b) 15 0 (SMap.get (fun _ => 0) d.mv b)).putBit (Reg.FIO_BANK b) 16
    (d.warn.getLsbD b)).putBit (Reg.FIO_BANK b) 17 (d.uvlo.getLsbD b)) s

/-- The records of a restart and of an ended silence, which the first valid frame after brings (R511, R515). -/
def State.fieldNews (s : State) : State :=
  let d := s.field_
  let s := match d.restart with
    | some mv => ((s.fdMod (fun d => { d with restart := none })).putBit Reg.FIO_FSTAT 7 true).fioLog 0x1F3 0 mv 0
    | none => s
  match d.silence with
  | some (us, b, x) =>
    ((s.fdMod (fun d => { d with silence := none })).putBit Reg.FIO_FSTAT 8 true).fioLog 0x1F2 0 (satTo 4294967295 us)
      (satTo 255 b * 256 + satTo 255 x)
  | none => s

/-- What a valid frame from the field die brings (R19, R511, R515): up to two edges, which stay in its buffer until acknowledged, complete
states, counts, reports, and news of a restart or of an ended silence. -/
def State.fieldSync (s : State) : State :=
  let s := (s.fieldMeasure.fieldLimits).fieldNews
  let d := s.field_
  let s := if d.dropped = 0 then s else (s.putBit Reg.FIO_FSTAT 4 true).fdMod (fun d => { d with dropped := 0 })
  let s := (d.buf.take 2).foldl (fun t e => t.fioTake e) s
  let s := d.reports.foldl (fun t x => t.fieldReport x) (s.fdMod (fun d => { d with reports := [] }))
  ((s.putBit Reg.FIO_STAT 2 d.ok).putBit Reg.FIO_STAT 0 true).showStates.showCounts

/-! ### The pulse snapshot (R502, R503) -/

/-- The elapsed count from which channel k's count is due: FILT + 20 µs after alarm instant a, FILT being at most 100 µs where pulses are
counted. -/
def State.snapDue (s : State) (a k : Nat) : Nat :=
  let now := s.tb.sec * 1000000000 + s.tb.ns
  (4 * s.tb.cnt + a + (min 100 (s.fld (Reg.FIO_CFG k) 14 0) + 20) * 1000 - now) / 4

/-- The channels of a snapshot that are due are taken: their counts of the interval, or the last ones received while the link is down. -/
def State.snapTake (s : State) (all : Bool) : State :=
  match s.fio.snapAt with
  | none => s
  | some a =>
    let due := idxWhere 48 (fun k => s.fio.snapLeft.getLsbD k && (all || decide (s.snapDue a k ≤ s.tb.cnt)))
    let up := s.flkUp
    let s := due.foldl (fun t k =>
      t.wr (Reg.FIO_PSNAP k) (if up then w32 (SMap.get (fun _ => 0) s.fio.snapBase k) else s.rd (Reg.FIO_PCNT k))) s
    s.fioMod (fun u => { u with
      snapLeft := due.foldl (fun v k => chSet v k false) u.snapLeft, snapStale := u.snapStale || (!up && !due.isEmpty) })

/-- FIO_PULSE_SNAPSHOT: the snapshot of every channel is complete 120 µs after the alarm (R502, R503). -/
def State.pulseSnapshot (s : State) : State :=
  match s.fio.snapAt with
  | none => s
  | some a =>
    let s := (s.reachTime (a + 120000)).snapTake true
    let seq := (s.fld Reg.METER_STAT 15 0 + 1) % 65536
    let stale := s.fio.snapStale
    let s := (s.fioMod (fun u => { u with snapAt := none, snapBase := [], snapStale := false })).put Reg.FIO_PSNAP_SEQ 15 0 seq
    if stale then (s.putBit Reg.FIO_PSNAP_SEQ 16 true).fioLog 0x1F6 0 seq 0 else s

def execFioPulseSnapshot (s : State) : Host.Outcome State Fault Refusal := .next s.pulseSnapshot

/-! ### Frames from the field die, and the link (R15, R19, R20, R22) -/

/-- FLK_FRAME_FROM_FIELD (R15, R19, R22). The field die sends none while its logic stands. -/
def State.frameFromField (s : State) (seq : Nat) (crcOk : Bool) : State :=
  let k := s.link 10
  if !s.field_.up then s
  else if s.flkUp then
    let t := s.setLink 10 { k with seq := nextSeq k.seq seq crcOk }
    if !crcOk then t.linkDiscard 10 true
    else if seq ≠ k.seq then t.linkDiscard 10 false
    else (t.setLink 10 { t.link 10 with consec := 0 }).fieldSync.tlStep
  else if !crcOk then s
  else (((s.snapTake false).linkReturn 10 seq).putBit Reg.FIO_STAT 1 true).fieldSync.tlStep

def execFlkFrameFromField (seq : BitVec 8) (crcOk : Bool) (s : State) : Host.Outcome State Fault Refusal :=
  .next (s.frameFromField seq.toNat crcOk)

/-- FLK_DOWN: no valid frame for 100 µs (R20). -/
def State.flkDown (s : State) : State :=
  if !s.flkUp then s else ((((s.snapTake false).linkDown 10).putBit Reg.FIO_STAT 1 false).putBit Reg.FIO_STAT 0 s.field_.up).tlStep

def execFlkDown (s : State) : Host.Outcome State Fault Refusal := .next s.flkDown

end Sys2Proof.Machine
end

