-- ==== Sys2Proof/Machine/CodeCheck.lean ====
section
/-!
DEFINITION. The static checks of an image's code (R182 reasons 0x05 to 0x0A): decoding, branch targets, loop rules (R169), call
rules (R171), the end of every path (R172, R292) and the worst case of R176.
-/
namespace Sys2Proof

/-- The code part of an image: its words, ENTRY, the function table, the profile, and the opcode that ends a run (WTICK or
WTURN). -/
structure Code where
  words : Array Word
  entry : Nat
  funcs : List Nat
  prof : Prof
  endOp : Nat

def Code.n (k : Code) : Nat := k.words.size
def Code.at_ (k : Code) (i : Nat) : Word := k.words.getD i 0
def Code.op (k : Code) (i : Nat) : Nat := wOp (k.at_ i)

/-- The target of the BR at word i (R168). -/
def Code.brTarget (k : Code) (i : Nat) : Nat := i + 1 + field (k.at_ i) 21 0

/-- The words with an opcode, ascending. -/
def Code.opAt (k : Code) (op : Nat) : List Nat := idxWhere k.n (fun i => decide (k.op i = op))

/-- Reason 0x05: the first word that is no legal instruction of the profile. -/
def Code.badWord (k : Code) : Option Nat := (List.range k.n).find? (fun i => (wCause k.prof (k.at_ i)).isSome)

/-- The table words of the JT at word i (R170). -/
def Code.jtEntries (k : Code) (i : Nat) : List Nat := (List.range (field (k.at_ i) 16 9 + 1)).map (fun j => i + 1 + j)

/-- The fault of a word under reason 0x06: a BR beyond the code, or the first entry of a JT that is no unpredicated BR into
the code, which is the word reported (log entry 183). -/
def Code.badBranchAt (k : Code) (i : Nat) : Option Nat :=
  if k.op i = 0x30 then (if k.brTarget i < k.n then none else some i)
  else if k.op i = 0x32 then
    (k.jtEntries i).find? (fun j => !(decide (j < k.n) && decide (k.op j = 0x30) && wPlain (k.at_ j) && decide (k.brTarget j < k.n)))
  else none

/-- Reason 0x06: the first such fault. -/
def Code.badBranch (k : Code) : Option Nat := (List.range k.n).findSome? k.badBranchAt

/-! ### Loops -/

/-- A loop: the word of its LOOP, and its body [start, stop). -/
structure LoopAt where
  word : Nat
  start : Nat
  stop : Nat
  deriving DecidableEq, Repr

def Code.loops (k : Code) : List LoopAt :=
  (k.opAt 0x31).map (fun i => { word := i, start := i + 1, stop := i + 2 + field (k.at_ i) 11 0 })

def LoopAt.holds (l : LoopAt) (i : Nat) : Bool := decide (l.start ≤ i) && decide (i < l.stop)

/-- The first words of the functions and ENTRY; a word belongs to the last of them at or before it. -/
def Code.funcOf (k : Code) (i : Nat) : Nat := ((k.entry :: k.funcs).filter (fun f => decide (f ≤ i))).foldl max 0

/-- The end of the function that holds word i: the next first word, or the end of the code. -/
def Code.funcEnd (k : Code) (i : Nat) : Nat := ((k.entry :: k.funcs).filter (fun f => decide (i < f))).foldl min k.n

/-- How many loop bodies of its function hold word i. -/
def lexDepth (ls : List LoopAt) (i : Nat) : Nat := (ls.filter (fun l => l.holds i)).length

/-- The largest number of loops open when the function that starts at f is entered, over chains of at most `fuel` calls
(R169: levels entered through CALL count). -/
def Code.entryDepth (k : Code) (ls : List LoopAt) : Nat → Nat → Nat
  | 0, _ => 0
  | fuel + 1, f =>
    ((k.opAt 0x33).filter (fun i => decide (field (k.at_ i) 16 0 = f))).foldl
      (fun d i => max d (lexDepth ls i + k.entryDepth ls fuel (k.funcOf i))) 0

/-- The innermost loop body that holds word i. -/
def innermost (ls : List LoopAt) (i : Nat) : Option LoopAt :=
  (ls.filter (fun l => l.holds i)).foldl (fun o l => match o with
    | some m => if m.word < l.word then some l else some m
    | none => some l) none

/-- Whether a loop breaks a rule of R169. A JT entry at the word after the body counts as the body's end (log entry 183). -/
def Code.loopBad (k : Code) (ls : List LoopAt) (l : LoopAt) : Bool :=
  let brs := k.opAt 0x30
  decide (k.n < l.stop) || decide (k.funcEnd l.word < l.stop) ||
  decide (3 < lexDepth ls l.word + k.entryDepth ls 9 (k.funcOf l.word)) ||
  ls.any (fun e => e.holds l.word && decide (e.stop < l.stop)) ||
  brs.any (fun i => !l.holds i && l.holds (k.brTarget i)) ||
  brs.any (fun i => decide (innermost ls i = some l) && !l.holds (k.brTarget i) && decide (k.brTarget i ≠ l.stop)) ||
  (k.opAt 0x32).any (fun i => decide (innermost ls i = some l) && (k.jtEntries i).any (fun j => decide (l.stop < j))) ||
  (k.opAt 0x34).any (fun i => l.holds i)

/-- Reason 0x07: the LOOP word of the first loop that breaks a rule. -/
def Code.badLoop (k : Code) : Option Nat := (k.loops.find? (fun l => k.loopBad k.loops l)).map (·.word)

/-! ### Calls -/

/-- The target of the CALL at word i. -/
def Code.callee (k : Code) (i : Nat) : Nat := field (k.at_ i) 16 0

/-- Whether function g can be reached from function f by at most `fuel` calls. -/
def Code.reaches (k : Code) : Nat → Nat → Nat → Bool
  | 0, f, g => decide (f = g)
  | fuel + 1, f, g => decide (f = g) ||
    (k.opAt 0x33).any (fun i => decide (k.funcOf i = f) && k.reaches fuel (k.callee i) g)

/-- The longest chain of calls, up to `fuel`, that enters function f. -/
def Code.callDepth (k : Code) : Nat → Nat → Nat
  | 0, _ => 0
  | fuel + 1, f =>
    ((k.opAt 0x33).filter (fun i => decide (k.callee i = f))).foldl (fun d i => max d (1 + k.callDepth fuel (k.funcOf i))) 0

/-- Reason 0x08: the first CALL whose target is no function, that closes a cycle of calls, or that lies deeper than 8. -/
def Code.badCall (k : Code) : Option Nat :=
  (k.opAt 0x33).find? (fun i =>
    !k.funcs.contains (k.callee i) || k.reaches k.funcs.length (k.callee i) (k.funcOf i) ||
    decide (8 < 1 + k.callDepth 9 (k.funcOf i)))

/-! ### Paths -/

/-- The words that can follow word i without leaving its function: a CALL is followed by its return (R176). -/
def Code.succs (k : Code) (i : Nat) : List Nat :=
  let w := k.at_ i
  if k.op i = k.endOp then []
  else if k.op i = 0x30 then (if wPlain w then [k.brTarget i] else [i + 1, k.brTarget i])
  else if k.op i = 0x32 then k.jtEntries i
  else if k.op i = 0x34 then (if wPlain w then [] else [i + 1])
  else [i + 1]

/-- The words reached from a first word, ascending: control only goes forward within a function (R168), so one pass finds
them. -/
def Code.reach (k : Code) (start : Nat) : List Nat :=
  (List.range (k.n + 1)).foldl (fun r i => if r.contains i && decide (i < k.n) then (k.succs i).foldl (fun r j => if r.contains j then r else r ++ [j]) r else r) [start]

/-- Whether an end of run stands where R172 forbids it though no path reaches it: in a loop body, or behind the first word of a function
(a word that no path from ENTRY reaches belongs to the function before it). -/
def Code.strayEnd (k : Code) (top : List Nat) (i : Nat) : Bool :=
  k.loops.any (fun l => l.holds i) || (!top.contains i && k.funcs.any (fun f => decide (f = k.funcOf i ∧ f ≠ k.entry)))

/-- Reason 0x09: the lowest word that ends the run inside a loop or a function, reached or not, returns from the top level, or is
followed by the end of the code. -/
def Code.badPath (k : Code) : Option Nat :=
  let falls (i : Nat) : Bool := (k.succs i).any (fun j => decide (k.n ≤ j))
  let fromEntry := k.reach k.entry
  let top := fromEntry.filter (fun i => decide (i < k.n) && (decide (k.op i = 0x34) || falls i))
  let stray := (k.opAt k.endOp).filter (k.strayEnd fromEntry)
  let inner := k.funcs.flatMap (fun f => (k.reach f).filter (fun i => decide (i < k.n) && (decide (k.op i = k.endOp) || falls i)))
  match top ++ stray ++ inner with
  | [] => none
  | x :: xs => some (xs.foldl min x)

/-! ### Worst case (R176) -/

/-- The component-wise maximum of two timing states. -/
def Timing.join (a b : Timing) : Timing :=
  { cyc := max a.cyc b.cyc, flagsAt := max a.flagsAt b.flagsAt,
    ready := b.ready.foldl (fun m e => SMap.set (fun _ => 0) m e.1 (max (SMap.get (fun _ => 0) m e.1) e.2)) a.ready }

/-- The state relative to its own cycle, as R176 compares iterations. -/
def Timing.rel (t : Timing) : List (Nat × Nat) × Nat :=
  ((t.ready.map (fun e => (e.1, e.2 - t.cyc))).filter (fun e => decide (e.2 ≠ 0)), t.flagsAt - t.cyc)

/-- The state moved later by d cycles. -/
def Timing.shift (t : Timing) (d : Nat) : Timing :=
  { cyc := t.cyc + d, flagsAt := t.flagsAt + d, ready := t.ready.map (fun e => (e.1, e.2 + d)) }

/-- `left` more iterations of a body, stopping early once an iteration starts as the one before it did. -/
def loopRun (body : Timing → Timing) : Nat → Timing → Timing
  | 0, t => t
  | left + 1, t =>
    let u := body t
    if u.rel = t.rel then u.shift (left * (u.cyc - t.cyc)) else loopRun body left u

/-- The timing states that meet at a word. -/
abbrev Joins := SMap (Option Timing)

def Joins.add (m : Joins) (i : Nat) (t : Timing) : Joins :=
  SMap.set (fun _ => none) m i (some (match SMap.get (fun _ => none) m i with
    | some u => u.join t
    | none => t))

/-- What the evaluation of a stretch of code has found: states at words still to come, states at returns, the largest issue
cycle of an end of run. -/
structure Eval where
  at_ : Joins
  ret : Option Timing
  last : Nat

def Eval.to (e : Eval) (i : Nat) (t : Timing) : Eval := { e with at_ := e.at_.add i t }

def Eval.return_ (e : Eval) (t : Timing) : Eval :=
  { e with ret := some (match e.ret with
      | some u => u.join t
      | none => t) }

/-- Evaluate the words [lo, hi) from a state at lo, `fuel` bounding the nesting of loops and calls: steps 2 to 6 of R176. -/
def Code.eval (k : Code) : Nat → Nat → Nat → Timing → Eval
  | 0, _, _, _ => { at_ := [], ret := none, last := 0 }
  | fuel + 1, lo, hi, t0 =>
    (List.range (hi - lo)).foldl (fun e d =>
      let i := lo + d
      match SMap.get (fun _ => none) e.at_ i with
      | none => e
      | some t =>
        let w := k.at_ i
        let op := wOp w
        let x := wIssue w
        let c := t.issueAt x (wWaitsFlags w)
        if op = k.endOp then { e with last := max e.last c }
        else if op = 0x30 then
          let e := e.to (k.brTarget i) (t.after x c 3)
          if wPlain w then e else e.to (i + 1) (t.after x c 1)
        else if op = 0x32 then (k.jtEntries i).foldl (fun e j => e.to j (t.after x c 3)) e
        else if op = 0x31 then
          let stop := i + 2 + field w 11 0
          if stop ≤ hi then
            let body (u : Timing) : Timing := (SMap.get (fun _ => none) (k.eval fuel (i + 1) stop u).at_ stop).getD u
            e.to stop (loopRun body (field w 21 12 + 1) (t.after x c 1))
          else e
        else if op = 0x33 then
          let u := t.after x c 3
          let e := match (k.eval fuel (k.callee i) k.n u).ret with
            | some v => e.to (i + 1) v
            | none => e
          if wPlain w then e else e.to (i + 1) u
        else if op = 0x34 then
          let u := t.after x c 3
          let e := e.return_ u
          if wPlain w then e else e.to (i + 1) u
        else e.to (i + 1) (t.after x c x.cost))
      { at_ := [(lo, some t0)], ret := none, last := 0 }

/-- The worst-case cycle count: 1 + the largest issue cycle of an end of run (R176). Calls nest to 8 and loops to 4. -/
def Code.wcet (k : Code) : Nat := 1 + (k.eval 14 k.entry k.n { cyc := 0, ready := [], flagsAt := 0 }).last

/-- Reasons 0x05 to 0x09: the first code check that fails, with its word. -/
def Code.refusal (k : Code) : Option (Nat × Nat) :=
  let f (r : Nat) (o : Option Nat) : Option (Nat × Nat) := o.map (fun w => (r, w))
  f 5 k.badWord <|> f 6 k.badBranch <|> f 7 k.badLoop <|> f 8 k.badCall <|> f 9 k.badPath

end Sys2Proof
end

