-- ==== Sys2Proof/Machine/Ecdsa.lean ====
section
/-!
DEFINITION. ECDSA P-256 verification (R596), as FIPS 186 defines it.
-/
namespace Sys2Proof

/-- The field prime, the curve's b, the order of its group and the base point of P-256. -/
def ecP : Nat := 0xFFFFFFFF00000001000000000000000000000000FFFFFFFFFFFFFFFFFFFFFFFF
def ecB : Nat := 0x5AC635D8AA3A93E7B3EBBD55769886BC651D06B0CC53B0F63BCE3C3E27D2604B
def ecN : Nat := 0xFFFFFFFF00000000FFFFFFFFFFFFFFFFBCE6FAADA7179E84F3B9CAC2FC632551
def ecG : Nat × Nat :=
  (0x6B17D1F2E12C4247F8BCE6E563A440F277037D812DEB33A0F4A13945D898C296,
   0x4FE342E2FE1A7F9B8EE7EB4A7C0F9E162BCE33576B315ECECBB6406837BF51F5)

/-- b^e mod m by its k lowest exponent bits, squaring. -/
def powMod (m : Nat) : Nat → Nat → Nat → Nat → Nat
  | 0, _, _, acc => acc
  | k + 1, b, e, acc => powMod m k (b * b % m) (e / 2) (if e % 2 = 1 then acc * b % m else acc)

/-- The inverse modulo a prime of 256 bits. -/
def invMod (m a : Nat) : Nat := powMod m 256 (a % m) (m - 2) 1

/-- Curve points; none is the point at infinity. -/
abbrev EcPoint := Option (Nat × Nat)

/-- a − b in the field. -/
def ecSub (a b : Nat) : Nat := (a % ecP + ecP - b % ecP) % ecP

def ecAdd : EcPoint → EcPoint → EcPoint
  | none, q => q
  | p, none => p
  | some (x1, y1), some (x2, y2) =>
    if x1 = x2 ∧ (y1 + y2) % ecP = 0 then none
    else
      let l := if x1 = x2 then (3 * x1 * x1 + ecP - 3) * invMod ecP (2 * y1) % ecP
        else ecSub y2 y1 * invMod ecP (ecSub x2 x1) % ecP
      let x3 := ecSub (l * l) (x1 + x2)
      some (x3, ecSub (l * ecSub x1 x3) y1)

/-- A point times the k lowest bits of a number. -/
def ecMul : Nat → Nat → EcPoint → EcPoint → EcPoint
  | 0, _, _, acc => acc
  | k + 1, e, p, acc => ecMul k (e / 2) (ecAdd p p) (if e % 2 = 1 then ecAdd acc p else acc)

/-- Whether (r, s) is a signature of a digest under the public key (qx, qy). -/
def ecdsaOk (qx qy r s : Nat) (digest : Bytes) : Bool :=
  let onCurve := decide (qy * qy % ecP = (qx * qx * qx + (ecP - 3) * qx + ecB) % ecP)
  let w := invMod ecN s
  let z := beNat digest
  let pt := ecAdd (ecMul 256 (z * w % ecN) (some ecG) none) (ecMul 256 (r * w % ecN) (some (qx, qy)) none)
  decide (qx < ecP ∧ qy < ecP) && onCurve && decide (0 < r ∧ r < ecN ∧ 0 < s ∧ s < ecN) &&
    (match pt with
      | some (x, _) => decide (x % ecN = r)
      | none => false)

end Sys2Proof
end

