-- ==== Sys2Proof/Machine/Image.lean ====
section
/-!
DEFINITION. Images in MRAM: the signed envelope (R595 to R597), the layout of an element image (R180) and the checks of
R182 in their order.
-/
namespace Sys2Proof.Machine
open Sys2Proof

/-! ### Envelope -/

/-- A word, a halfword and a byte of MRAM as numbers. -/
def State.mN (s : State) (a : Nat) : Nat := (s.mw a).toNat
def State.mH (s : State) (a : Nat) : Nat := s.mN a % 65536
def State.mB (s : State) (a : Nat) : Nat := (s.mb a).toNat

/-- Offset of the payload in an envelope (R595). -/
def payloadOff : Nat := 0xC0

/-- PAYLOAD_LEN of the envelope at an address. -/
def State.payloadLen (s : State) (a : Nat) : Nat := s.mN (a + 8)

/-- VERSION of the envelope at an address. -/
def State.envVersion (s : State) (a : Nat) : Nat := s.mN (a + 0xC)

/-- The anti-rollback minimum of a kind (R597, R605). -/
def State.minVer (s : State) (kind : Nat) : Nat := (s.rd (0x38110 + 4 * (kind - 1))).toNat

/-- Whether the public key's hash stands in the OTP slot the envelope names. -/
def State.rootOk (s : State) (a : Nat) : Bool :=
  match Config.rootKeyHash (s.mB (a + 5)) with
  | some h => decide (s.mB (a + 5) < 4) && decide (sha256 (s.mbs 64 (a + 0x30)) = h)
  | none => false

/-- Whether the envelope at an address is authentic, of a kind, and of an acceptable version (R596, R597). -/
def State.envOk (s : State) (a kind : Nat) : Bool :=
  let len := s.payloadLen a
  decide (s.mN a = 0x4E454845) && decide (s.mB (a + 4) = kind) && decide (s.mH (a + 6) = 1) &&
  decide (len % 4 = 0) && decide (len ≤ 0x7FDF40) && (s.mbs 16 (a + 0xB0)).all (fun b => decide (b = 0)) &&
  s.rootOk a &&
  ecdsaOk (beNat (s.mbs 32 (a + 0x30))) (beNat (s.mbs 32 (a + 0x50))) (beNat (s.mbs 32 (a + 0x70)))
    (beNat (s.mbs 32 (a + 0x90))) (sha256 (s.mbs 112 a)) &&
  decide (sha256 (s.mbs len (a + payloadOff)) = s.mbs 32 (a + 0x10)) &&
  (decide (kind ≠ 2 ∧ kind ≠ 3) || decide (s.envVersion a = s.mN (a + payloadOff + 8))) &&
  decide (s.minVer kind ≤ s.envVersion a)

/-! ### Layout of an image (R180) -/

/-- Where the parts of an image lie, as byte addresses in MRAM: payload address and length, counts, and the addresses of the
tables, the code and the data. `gap` is the length of the tables an LTH image has between the claim list and the code. -/
structure Parts where
  base : Nat
  len : Nat
  funcs : Nat
  dsecs : Nat
  copies : Nat
  claims : Nat
  codeWords : Nat
  gap : Nat
  dataBytes : Nat
  deriving DecidableEq, Repr

def State.parts (s : State) (env gap : Nat) : Parts :=
  let b := env + payloadOff
  { base := b, len := s.payloadLen env, funcs := s.mH (b + 0x1E), dsecs := s.mH (b + 0x20), copies := s.mH (b + 0x22),
    claims := s.mH (b + 0x24), codeWords := s.mN (b + 0xC), gap := gap, dataBytes := s.mN (b + 0x2C) }

def Parts.funcAt (p : Parts) : Nat := p.base + 64
def Parts.dsecAt (p : Parts) : Nat := p.funcAt + 4 * p.funcs
def Parts.copyAt (p : Parts) : Nat := p.dsecAt + 12 * p.dsecs
def Parts.claimAt (p : Parts) : Nat := p.copyAt + 8 * p.copies
def Parts.extraAt (p : Parts) : Nat := p.claimAt + 4 * p.claims
def Parts.codeAt (p : Parts) : Nat := p.extraAt + p.gap
def Parts.dataAt (p : Parts) : Nat := p.codeAt + 4 * p.codeWords
def Parts.end_ (p : Parts) : Nat := p.base + p.len

/-- n words of MRAM from an address. -/
def State.mws (s : State) (n a : Nat) : List Word := (List.range n).map (fun i => s.mw (a + 4 * i))

/-- The code of an image. -/
def State.codeOf (s : State) (p : Parts) (prof : Prof) (endOp : Nat) : Code :=
  { words := (s.mws p.codeWords p.codeAt).toArray, entry := s.mN (p.base + 0x10),
    funcs := (s.mws p.funcs p.funcAt).map (fun w => w.toNat % 131072), prof := prof, endOp := endOp }

/-- The claim list of an image. -/
def State.claimsOf (s : State) (p : Parts) : List Nat := (s.mws p.claims p.claimAt).map (fun w => w.toNat % 65536)

/-- Entry i of the DMEM section table: offset, length and kind. -/
def State.dsecOf (s : State) (p : Parts) (i : Nat) : Nat × Nat × Nat :=
  let a := p.dsecAt + 12 * i
  (s.mN a, s.mN (a + 4), s.mB (a + 8))

/-- The DMEM sections with their data, taken in section order from the data part (R180). -/
def State.dsecsOf (s : State) (p : Parts) : List DSec :=
  ((List.range p.dsecs).foldl (fun (st : Nat × List DSec) i =>
    let (off, len, kind) := s.dsecOf p i
    let data := if kind = 3 then [] else s.mws (len / 4) st.1
    (if kind = 3 then st.1 else st.1 + len, st.2 ++ [{ off := off, len := len, kind := kind, data := data }])) (p.dataAt, [])).2

/-- Reason 0x01: the lowest faulty byte offset among header fields and table entries (R182). The function table's words and
the reserved fields of the section and claim tables are checked here; a part that does not fit the image is reported at
its count, and so are a count above its maximum and a non-zero reserved byte of a section entry (log entry 63). `magic` and the reserved header fields, as offset and length, depend on the kind of image. -/
def State.badLayout (s : State) (p : Parts) (magic maxCode : Nat) (reserved : List (Nat × Nat)) : Option Nat :=
  let b := p.base
  let put (c : Bool) (off : Nat) : List Nat := if c then [off] else []
  let past (a : Nat) : Bool := decide (p.end_ < a)
  let fit := !(past p.extraAt)
  let funcs := if fit then (idxWhere p.funcs (fun i => decide (p.codeWords ≤ s.mN (p.funcAt + 4 * i) ∨ 131072 ≤ s.mN (p.funcAt + 4 * i)))).map (fun i => 64 + 4 * i) else []
  let secs := if fit then (idxWhere p.dsecs (fun i =>
      let k := (s.mN (p.dsecAt + 12 * i + 8))
      decide (k = 0 ∨ 3 < k))).map (fun i => p.dsecAt - b + 12 * i) else []
  let cls := if fit then (idxWhere p.claims (fun i => decide (65536 ≤ s.mN (p.claimAt + 4 * i)))).map (fun i => p.claimAt - b + 4 * i) else []
  let bad := put (decide (s.mN b ≠ magic)) 0 ++ put (decide (s.mH (b + 4) ≠ 1)) 4 ++ put (decide (s.mB (b + 7) ≠ 1)) 7 ++
    put (decide (1024 < p.funcs) || past p.dsecAt) 0x1E ++ put (decide (64 < p.dsecs) || past p.copyAt) 0x20 ++
    put (decide (32 < p.copies) || past p.claimAt) 0x22 ++ put (decide (64 < p.claims) || past p.extraAt) 0x24 ++
    put (decide (p.codeWords ≤ maxCode) && past p.dataAt) 0xC ++
    put (decide (p.codeWords ≤ maxCode) && past (p.dataAt + p.dataBytes)) 0x2C ++
    (reserved.filter (fun r => (List.range r.2).any (fun i => decide (s.mB (b + r.1 + i) ≠ 0)))).map (·.1) ++ funcs ++ secs ++ cls
  if p.len < 64 then some 0
  else match bad with
    | [] => none
    | x :: xs => some (xs.foldl min x)

/-- Reason 0x0D: the first faulty section, or DSEC_COUNT when the data total differs from DATA_BYTES. -/
def State.badSection (s : State) (p : Parts) (dmem : Nat) : Option Nat :=
  let sec := s.dsecOf p
  let bad (i : Nat) : Bool :=
    let (off, len, _) := sec i
    decide (off % 4 ≠ 0) || decide (len % 4 ≠ 0) || decide (dmem < off + len) ||
      (List.range i).any (fun j => decide (off < (sec j).1 + (sec j).2.1 ∧ (sec j).1 < off + len))
  let total := ((List.range p.dsecs).filter (fun i => decide ((sec i).2.2 ≠ 3))).foldl (fun n i => n + (sec i).2.1) 0
  match (List.range p.dsecs).find? bad with
  | some i => some i
  | none => if total = p.dataBytes then none else some p.dsecs

/-- Reason 0x0E: the first faulty copy region, or the total length when it exceeds 2 KB. -/
def State.badCopy (s : State) (p : Parts) : Option Nat :=
  let off (i : Nat) := s.mN (p.copyAt + 8 * i)
  let len (i : Nat) := s.mN (p.copyAt + 8 * i + 4)
  let total := (List.range p.copies).foldl (fun n i => n + len i) 0
  match (List.range p.copies).find? (fun i => decide (off i % 4 ≠ 0 ∨ len i % 4 ≠ 0 ∨ 0x20000 < off i + len i)) with
  | some i => some i
  | none => if 2048 < total then some total else none

/-- Whether an image of an owner may take a resource: it exists, is no trip line for an element image (R280), and is free or
the owner's (R41, R46, R182). -/
def State.claimOk (s : State) (owner x : Nat) : Bool :=
  resValid x && decide (x / 4096 ≠ 4 ∨ owner < 0x10) && decide (s.owner x = 0 ∨ s.owner x = owner)

/-- Reason 0x0F: the first resource of a claim list that may not be taken or that the list has named before (R41). -/
def State.claimRefusal (s : State) (owner : Nat) (l : List Nat) : Option Nat :=
  (List.range l.length).findSome? (fun i =>
    let x := l.getD i 0
    if !s.claimOk owner x || (l.take i).contains x then some x else none)

/-! ### Element images (R182) -/

/-- Lane ch of cluster c: its channel. -/
def laneCh (c l : Nat) : Nat := 8 * c + l

/-- The lowest lane whose LANE_DELAY differs from a non-zero nibble of LANE_EXPECT (R182, R190). -/
def State.expectBad (s : State) (c : Nat) (e : Word) : Option Nat :=
  (List.range 8).find? (fun l =>
    let want := field e (4 * l + 3) (4 * l)
    decide (want ≠ 0) && decide (want ≠ (s.lane (laneCh c l)).delay))

/-- What a validation found: refused with reason and detail, or passed; and the computed WCET where the check got so far. -/
structure Verdict where
  refusal : Option (Nat × Nat)
  wcet : Option Nat
  deriving DecidableEq, Repr

/-- The checks of R182 on the envelope at an address, for cluster c; a DETAIL wider than its 24 bits is shown modulo 2^24 (log entry 184). -/
def State.elmVerdict (s : State) (env c : Nat) : Verdict :=
  let p := s.parts env 0
  let b := p.base
  let no (r d : Nat) : Verdict := { refusal := some (r, d % 0x1000000), wcet := none }
  if !s.envOk env 3 then no 0x11 0
  else match s.badLayout p 0x314D4C45 16384 [(0x26, 2), (0x30, 16)] with
  | some d => no 1 d
  | none =>
    if s.mB (b + 6) ≠ 0x45 then no 2 0
    else if !(s.mH (b + 0x1C)).testBit c then no 3 c
    else if p.codeWords = 0 ∨ 16384 < p.codeWords ∨ p.codeWords ≤ s.mN (b + 0x10) then no 4 0
    else
      let k := s.codeOf p .e 0x35
      match k.refusal with
      | some (r, d) => no r d
      | none =>
        let w := k.wcet
        let rec_ := s.mN (b + 0x14)
        let at_ (x : Option (Nat × Nat)) : Verdict := { refusal := x.map (fun y => (y.1, y.2 % 0x1000000)), wcet := some w }
        at_ (
          if rec_ < w then some (0xA, w)
          else if 90000 < rec_ then some (0xB, rec_)
          else if 45000 < rec_ ∧ s.halfMode (c / 4) then some (0xC, rec_)
          else (s.badSection p 0x20000).map (fun d => (0xD, d))
            <|> (s.badCopy p).map (fun d => (0xE, d))
            <|> (s.claimRefusal (0x10 + c) (s.claimsOf p)).map (fun d => (0xF, d))
            <|> (s.expectBad c (s.mw (b + 0x28))).map (fun d => (0x10, d)))

/-- The image of the envelope at an address as the device keeps it. -/
def State.elmImage (s : State) (env : Nat) : Image :=
  let p := s.parts env 0
  let b := p.base
  { ver := s.mN (b + 8), layout := s.mN (b + 0x18), codeWords := p.codeWords, entry := s.mN (b + 0x10), wcet := s.mN (b + 0x14),
    expect := s.mw (b + 0x28), claims := s.claimsOf p, secs := s.dsecsOf p,
    copies := (List.range p.copies).map (fun i => (s.mN (p.copyAt + 8 * i), s.mN (p.copyAt + 8 * i + 4))) }

end Sys2Proof.Machine
end

