-- ==== Sys2Proof/Machine/Prim.lean ====
section
/-!
DEFINITION. The curve unit, the comparator bank and the timer bank of a cluster (chapter 07, R234 to R242) with their
settings (R238, R262 to R264, R629), and the steps an element program makes with them (R207, R208, R215 to R218).
-/
namespace Sys2Proof

/-- A finite non-negative binary32 value as a quotient; other operands count as 0. -/
def fRat (w : Word) : Nat × Nat :=
  match flOf w with
  | .fin false m e => if 0 ≤ e then (m * 2 ^ e.toNat, 1) else (m, 2 ^ (-e).toNat)
  | _ => (0, 1)

/-- a ≤ b for quotients. -/
def ratLe (a b : Nat × Nat) : Bool := decide (a.1 * b.2 ≤ b.1 * a.2)

/-- Bits of the fixed-point powers. -/
def powBits : Nat := 160

/-- The largest x below acc + 2^(b+1), from bit b down, with x^50 × den ≤ num. -/
def root50 : Nat → Nat → Nat → Nat → Nat
  | 0, _, _, acc => acc
  | b + 1, num, den, acc => if (acc + 2 ^ b) ^ 50 * den ≤ num then root50 b num den (acc + 2 ^ b) else root50 b num den acc

/-- M^0.02 in 2^-160 for a quotient M ≥ 1. -/
def pow002 (m : Nat × Nat) : Nat := root50 (powBits + 2) (m.1 * 2 ^ (50 * powBits)) m.2 0

/-- log2 of y / 2^160 for 1 ≤ y / 2^160 < 2, n bits after the point. -/
def log2Frac : Nat → Nat → Nat → Nat
  | 0, _, acc => acc
  | n + 1, y, acc =>
    let z := y * y / 2 ^ powBits
    if 2 ^ (powBits + 1) ≤ z then log2Frac n (z / 2) (2 * acc + 1) else log2Frac n z (2 * acc)

/-- The constants A, 50 × p, B and tr of a standard curve, A, B and tr times 10 000 (R235). -/
def crvConst (curve : Nat) : Nat × Nat × Nat × Nat :=
  match curve with
  | 0 => (1400, 1, 0, 135000)
  | 1 => (135000, 50, 0, 473000)
  | 2 => (800000, 100, 0, 800000)
  | 3 => (1200000, 50, 0, 1200000)
  | 4 => (515, 1, 1140, 48500)
  | 5 => (196100, 100, 4910, 216000)
  | _ => (282000, 100, 1217, 291000)

/-- M^p − 1 as a quotient. -/
def powLess (p50 : Nat) (m : Nat × Nat) : Nat × Nat :=
  if p50 = 1 then (pow002 m - 2 ^ powBits, 2 ^ powBits)
  else if p50 = 50 then (m.1 - m.2, m.2) else (m.1 * m.1 - m.2 * m.2, m.2 * m.2)

/-- δ of a standard curve, exactly rounded: 2^30 / (4 800 × TMS × (A / (M^p − 1) + B)) (R234, R235). -/
def deltaStd (curve : Nat) (tms m : Nat × Nat) : Nat :=
  let (a, p, b, _) := crvConst curve
  let q := powLess p m
  (roundQ ((1073741824 * q.1 * 10000 * tms.2 : Nat) : Int) (4800 * tms.1 * (a * q.2 + b * q.1))).toNat

/-- The rate 1 / t as a quotient; +∞ gives 0. -/
def rateOf (t : Word) : Nat × Nat := match fRat t with
  | (0, _) => (0, 1)
  | (n, d) => (d, n)

/-- The largest i ≤ 63 with 2^i ≤ M^12. -/
def tblIndex (m : Nat × Nat) : Nat := ((List.range 64).filter (fun i => decide (2 ^ i * m.2 ^ 12 ≤ m.1 ^ 12))).foldl max 0

/-- The interpolated rate of a user table (R236). -/
def tblRate (t : Nat → Word) (m : Nat × Nat) : Nat × Nat :=
  let i := tblIndex m
  if i = 63 then rateOf (t 63)
  else
    let f := log2Frac 100 (m.1 ^ 12 * 2 ^ powBits / (m.2 ^ 12 * 2 ^ i)) 0
    let a := rateOf (t i)
    let b := rateOf (t (i + 1))
    ((2 ^ 100 - f) * a.1 * b.2 + f * b.1 * a.2, 2 ^ 100 * a.2 * b.2)

/-- δ of a user table, exactly rounded. -/
def deltaTbl (t : Nat → Word) (tms m : Nat × Nat) : Nat :=
  let r := tblRate t m
  (roundQ ((1073741824 * r.1 * tms.2 : Nat) : Int) (4800 * tms.1 * r.2)).toNat

/-- δ_r for M < 1, by tr as a quotient (R237). -/
def deltaReset (tr tms m : Nat × Nat) : Nat :=
  if tr.1 = 0 then 0
  else (roundQ ((1073741824 * (m.2 * m.2 - m.1 * m.1) * tms.2 * tr.2 : Nat) : Int) (4800 * tms.1 * tr.1 * (m.2 * m.2))).toNat

end Sys2Proof

namespace Sys2Proof.Machine
open Sys2Proof

/-! ### Settings (R238, R262 to R264, R629) -/

/-- Key of word w of user table t. -/
def tblKeyOf (c t w : Nat) : Nat := clusterKey c (0x90400 + 0x104 * t + 4 * w)

/-- Whether a positive binary32 word lies within two others. -/
def wordIn (lo hi : Nat) (v : Word) : Bool := decide (lo ≤ v.toNat) && decide (v.toNat ≤ hi)

/-- CRV_SETTING_WRITE: k = 0 MODE, 1 TMS, 2 PU, 3 DR; a value outside its range is discarded (R238, R262, R629). -/
def State.crvWrite (s : State) (c n k : Nat) (v : Word) : State :=
  let ok := if k = 0 then decide (field v 3 0 ≠ 7) && decide (field v 5 4 ≠ 3)
    else if k = 1 then wordIn 0x3C23D70A 0x41A00000 v
    else if k = 2 then wordIn 0x3F866666 0x40800000 v
    else wordIn 0x3F000000 0x3F800000 v
  if ok then s.wr (Reg.CRV_MODE c n + 4 * k) (if k = 0 then v &&& 0xFFFFFF3F else v)
  else s.primDeny c (0x90000 + 0x10 * n + 4 * k) v

def execCrvSettingWrite (c : Fin 16) (n : Fin 32) (k : Fin 4) (v : Word) (s : State) : Host.Outcome State Fault Refusal :=
  .next (s.crvWrite c.val n.val k.val v)

/-- Whether some integrator selects user table t, in force or written (R238). -/
def State.tblUsed (s : State) (c t : Nat) : Bool :=
  (List.range 32).any (fun n => decide (field (s.eff (Reg.CRV_MODE c n)) 3 0 = 8 + t) ||
    decide (s.fld (Reg.CRV_MODE c n) 3 0 = 8 + t))

/-- USER_TABLE_WRITE: discarded while the table is in use, or when the value is not positive (R238, R263). -/
def State.tblWriteWord (s : State) (c t w : Nat) (v : Word) : State :=
  let off := 0x90400 + 0x104 * t + 4 * w
  if s.tblUsed c t then
    ((s.putBit (Reg.CRV_STAT c) 1 true).irq c).log 0x188 c (0x10000000 + c * 0x200000 + off) v.toNat
  else if wordIn 0x00800000 0x7F800000 v then s.wr (tblKeyOf c t w) v
  else s.primDeny c off v

def execUserTableWrite (c : Fin 16) (t : Fin 8) (w : Fin 65) (v : Word) (s : State) : Host.Outcome State Fault Refusal :=
  .next (s.tblWriteWord c.val t.val w.val v)

/-- Whether R264 and R629 allow a value in the register at a window offset. -/
def primOk (off : Nat) (v : Word) : Bool :=
  if 0x91000 ≤ off ∧ off < 0x91400 then
    if off % 0x10 = 0xC then decide (field v 14 0 ≠ 0) && decide (field v 30 16 ≠ 0) else decide (field v 30 23 ≠ 255)
  else if 0x91400 ≤ off ∧ off < 0x91600 ∧ off % 8 = 0 then decide (field v 31 30 ≠ 3)
  else true

/-- A write of a comparator, timer or FPD setting at a window offset (R241, R242, R252, R629). FPD settings reach the group bit at
once. -/
def State.primWrite (s : State) (c off : Nat) (v : Word) : State :=
  let a := off / 4 * 4
  if !primOk a v then s.primDeny c a v
  else
    let s := s.regWrite (clusterKey c a) v
    if a = 0x80120 then s.afUpdate c else s

/-- IFD, current detector, FPDs and wavefront FIFO. -/
def State.detWrite (s : State) (c off : Nat) (v : Word) : State :=
  if off = 0x80000 then
    if s.ifdLocked c then s else if bitAt v 0 then s.ifdStartReq c else s.ifdStopReq c
  else if off = 0x80004 then s.ifdKey c v
  else if 0x80008 ≤ off ∧ off ≤ 0x8001C then s.ifdLockedWrite c ((off - 0x80008) / 4) v
  else if off = 0x80028 then s.clRoleWrite c v
  else if off = 0x8002C then s.ifdLockedWrite c 6 v
  else if 0x80100 ≤ off ∧ off < 0x80124 then s.primWrite c off v
  else if off = 0x80124 then s.afCfgWrite c v
  else if off = 0x80144 then
    let s := if bitAt v 1 then (s.detMod c (fun d => { d with wf := [], wfOver := false })).wfShow c else s
    when (bitAt v 0) (fun t => t.wfPop c) s
  else s.regWrite (clusterKey c off) v

/-- Curves, comparators and timers. -/
def State.primRegWrite (s : State) (c off : Nat) (v : Word) : State :=
  if off < 0x90200 then s.crvWrite c ((off - 0x90000) / 0x10) (off % 0x10 / 4) v
  else if 0x90400 ≤ off ∧ off < 0x90C20 then s.tblWriteWord c ((off - 0x90400) / 0x104) ((off - 0x90400) % 0x104 / 4) v
  else if 0x91000 ≤ off ∧ off < 0x91600 then s.primWrite c off v
  else s.regWrite (clusterKey c off) v

/-- PRIM_CFG_WRITE: a write of a register of chapter 07 at a window offset, judged by the lock, ownership or table-in-use rule of its
register first and by R629 then. Other offsets hold no register of the chapter. -/
def State.chapterWrite (s : State) (c off : Nat) (v : Word) : State :=
  if off < 0x80000 ∨ 0x92000 ≤ off then s
  else if off < 0x90000 then s.detWrite c off v
  else s.primRegWrite c off v

def execPrimCfgWrite (c : Fin 16) (off : BitVec 20) (v : Word) (s : State) : Host.Outcome State Fault Refusal :=
  .next (s.chapterWrite c.val (off.toNat / 4 * 4) v)

/-- Whether a key is a setting that PRIM_SETTINGS_APPLY puts into force in cluster c: curves, comparators, timers. -/
def primSetting (c k : Nat) : Bool :=
  let o := k - clusterKey c 0
  decide (clusterKey c 0 ≤ k) && ((decide (0x90000 ≤ o) && decide (o < 0x90200)) || (decide (0x91000 ≤ o) && decide (o < 0x91600)))

/-- PRIM_SETTINGS_APPLY: written settings take effect at the tick start (R238, R241, R242). -/
def State.primApply (s : State) (c : Nat) : State :=
  let keep := SMap.drop (primSetting c) s.inForce
  (s.regs.filter (fun e => primSetting c e.1)).foldl (fun t e => t.setEff e.1 e.2) (s.setForce keep)

def execPrimSettingsApply (c : Fin 16) (s : State) : Host.Outcome State Fault Refusal := .next (s.primApply c.val)

/-! ### Curves (R234 to R237, R215) -/

end Sys2Proof.Machine

namespace Sys2Proof

/-- A cluster's flags become `new` in tick `no` of an epoch: each that changes notes both (R346). -/
def ElemU.postFlags (e : ElemU) (new : Word) (no epoch : Nat) : ElemU :=
  let note (old : SMap Nat) (v : Nat) : SMap Nat :=
    (List.range 32).foldl (fun m n => if bitAt e.flags n = bitAt new n then m else SMap.set (fun _ => 0) m n v) old
  { e with flags := new, flagAt := note e.flagAt no, flagEp := note e.flagEp epoch }

end Sys2Proof

namespace Sys2Proof.Machine
open Sys2Proof

def State.elemMod (s : State) (c : Nat) (f : ElemU → ElemU) : State := s.setElem c (f (s.elem c))

/-- The multiple a STEP uses: 0 for a negative or NaN operand, at most 40.0 (R234). -/
def crvMultiple (w : Word) : Word :=
  match flOf w with
  | .nan _ => 0
  | .inf s => if s then 0 else 0x42200000
  | .fin s _ _ => if s then 0 else if 0x42200000 < w.toNat then 0x42200000 else flush w

/-- The increment δ of integrator n for a multiple at or above its pickup. -/
def State.crvDelta (s : State) (c n : Nat) (m : Word) : Nat :=
  let curve := field (s.eff (Reg.CRV_MODE c n)) 3 0
  let tms := s.eff (Reg.CRV_TMS c n)
  let d := if 8 ≤ curve then deltaTbl (fun w => s.rd (tblKeyOf c (curve - 8) w)) (fRat tms) (fRat m)
    else deltaStd curve (fRat tms) (fRat m)
  if d = 0 then 0 else d + (Config.crvError curve tms m).val - 1

/-- The decrement δ_r of integrator n for a multiple below 1. -/
def State.crvFall (s : State) (c n : Nat) (m : Word) : Nat :=
  let curve := field (s.eff (Reg.CRV_MODE c n)) 3 0
  let tr := if 8 ≤ curve then fRat (s.rd (tblKeyOf c (curve - 8) 64)) else ((crvConst curve).2.2.2, 10000)
  deltaReset tr (fRat (s.eff (Reg.CRV_TMS c n))) (fRat m)

/-- Integral, reset count and RESETTING of integrator n after a step with M < PU (R237). -/
def State.crvReset (s : State) (c n i cnt : Nat) (m : Word) (aboveDrop : Bool) : Nat × Nat × Bool :=
  let mode := s.eff (Reg.CRV_MODE c n)
  match field mode 5 4 with
  | 0 => (if aboveDrop then i else 0, cnt, decide (cnt ≠ 0))
  | 1 =>
    if 0x3F800000 ≤ m.toNat then (i, cnt, decide (cnt ≠ 0))
    else let j := i - s.crvFall c n m; (j, cnt, decide (j ≠ 0) || decide (cnt ≠ 0))
  | _ =>
    if aboveDrop then (i, cnt, decide (cnt ≠ 0))
    else if field mode 31 8 ≤ cnt + 1 then (0, 0, false) else (i, cnt + 1, true)

/-- CRV STEP of integrator n with operand w: the new state and the status (R215, R234). -/
def State.crvStep (s : State) (c n : Nat) (w : Word) : State × Word :=
  let e := s.elem c
  if e.crvDone.testBit n then (s, w32 (SMap.get (fun _ => 0) e.crvSt n ||| 8))
  else
    let m := crvMultiple w
    let pu := s.eff (Reg.CRV_PU c n)
    let i := (s.rd (Reg.CRV_INT c n)).toNat
    let cnt := SMap.get (fun _ => 0) e.crvCnt n
    let above := decide (pu.toNat ≤ m.toNat)
    let dr := fRat (s.eff (Reg.CRV_DR c n))
    let p := fRat pu
    let aboveDrop := ratLe (dr.1 * p.1, dr.2 * p.2) (fRat m)
    let (i, cnt, rs) := if above then (satTo 1073741824 (i + s.crvDelta c n m), 0, false) else s.crvReset c n i cnt m aboveDrop
    let st := b2n (decide (i = 1073741824) && aboveDrop) + 2 * b2n above + 4 * b2n rs + 16 * b2n (flOf w).isNan
    ((s.wr (Reg.CRV_INT c n) (w32 i)).elemMod c (fun e => { e with
      crvDone := e.crvDone ||| 2 ^ n, crvCnt := SMap.set (fun _ => 0) e.crvCnt n cnt, crvSt := SMap.set (fun _ => 0) e.crvSt n st }),
      w32 st)

/-- CRV RESET of integrator n (R208, R215). -/
def State.crvClear (s : State) (c n : Nat) : State × Word :=
  let e := s.elem c
  if e.crvDone.testBit n then (s, w32 (SMap.get (fun _ => 0) e.crvSt n ||| 8))
  else
    ((s.wr (Reg.CRV_INT c n) 0).elemMod c (fun e => { e with
      crvDone := e.crvDone ||| 2 ^ n, crvCnt := SMap.set (fun _ => 0) e.crvCnt n 0, crvSt := SMap.set (fun _ => 0) e.crvSt n 0 }), 0)

/-- CRV READ of integrator n: the integral as binary32, 0 to 1. -/
def State.crvRead (s : State) (c n : Nat) : Word := (roundDyadic false (s.rd (Reg.CRV_INT c n)).toNat (-30)).1

/-! ### Comparators (R240, R241, R216) -/

/-- Pickup and dropout conditions of comparator n for an input (R240, R264). -/
def State.cmpConds (s : State) (c n : Nat) (x : Word) : Bool × Bool :=
  let thr := s.eff (Reg.CMP_THR c n)
  let pkr := s.eff (Reg.CMP_PKR c n)
  let dor := s.eff (Reg.CMP_DOR c n)
  let under := bitAt (s.eff (Reg.CMP_CNT c n)) 31
  let wrong := if under then flLt false (flOf dor) (flOf pkr) else flLt false (flOf pkr) (flOf dor)
  let pk := flOf (fMul thr pkr).1
  let dp := flOf (fMul thr (if wrong then pkr else dor)).1
  let v := flOf x
  if v.isNan then (false, true)
  else if under then (!flLt false pk v && !pk.isNan, flLt false dp v)
  else (!flLt false v pk && !pk.isNan && !(thr == 0x7F800000), flLt false v dp)

/-- The word of CMP_ST_n. -/
def cmpWord (op : Bool) (dn pu : Nat) : Word := w32 (b2n op * 2147483648 + dn * 65536 + pu)

/-- Store a comparator's state and the status of its step. -/
def State.cmpStore (s : State) (c n : Nat) (w : Word) (st : Nat) : State × Word :=
  ((s.wr (Reg.CMP_ST c n) w).elemMod c (fun e => { e with
    cmpDone := e.cmpDone ||| 2 ^ n, cmpSt := SMap.set (fun _ => 0) e.cmpSt n st }), w32 st)

/-- CMPH EVAL of comparator n (R208, R216, R241). -/
def State.cmpEval (s : State) (c n : Nat) (x : Word) : State × Word :=
  let e := s.elem c
  if e.cmpDone.testBit n then (s, w32 (SMap.get (fun _ => 0) e.cmpSt n ||| 8))
  else
    let w := s.rd (Reg.CMP_ST c n)
    let cnt := s.eff (Reg.CMP_CNT c n)
    let op := bitAt w 31
    let (pick, drop_) := s.cmpConds c n x
    let d := if op && drop_ then satTo 32767 (field w 30 16 + 1) else if op then 0 else field w 30 16
    let p := if !op && pick then satTo 32767 (field w 14 0 + 1) else if !op then 0 else field w 14 0
    let change := if op then drop_ && decide (field cnt 30 16 ≤ d) else pick && decide (field cnt 14 0 ≤ p)
    let (op', d, p) := if change then (!op, 0, 0) else (op, d, p)
    s.cmpStore c n (cmpWord op' d p)
      (b2n op' + 2 * b2n (decide (d ≠ 0) || decide (p ≠ 0)) + 4 * b2n change + 16 * b2n (flOf x).isNan)

/-- CMPH RESET of comparator n; CHANGED tells whether it was operated. -/
def State.cmpClear (s : State) (c n : Nat) : State × Word :=
  let e := s.elem c
  if e.cmpDone.testBit n then (s, w32 (SMap.get (fun _ => 0) e.cmpSt n ||| 8))
  else s.cmpStore c n 0 (4 * b2n (bitAt (s.rd (Reg.CMP_ST c n)) 31))

/-- CMPH READ of comparator n. -/
def State.cmpRead (s : State) (c n : Nat) : Word :=
  let w := s.rd (Reg.CMP_ST c n)
  w32 (field w 30 16 * 65536 + field w 14 0)

/-! ### Timers (R242, R217, R218) -/

end Sys2Proof.Machine

namespace Sys2Proof

/-- A timer: output, on count, off count. -/
structure TmrVal where
  out : Bool
  on : Nat
  off : Nat
  deriving DecidableEq, Repr

/-- One step of a timer in its mode, and whether it counts afterwards (R242). -/
def tmrStepVal (mode pOn pOff : Nat) (inp : Bool) (t : TmrVal) : TmrVal × Bool :=
  match mode, inp with
  | 0, true => let e := min (t.on + 1) pOn; ({ t with out := decide (pOn ≤ e), on := e }, decide (e < pOn))
  | 0, false => ({ t with out := false, on := 0 }, false)
  | 1, true => ({ t with out := true, off := 0 }, false)
  | 1, false =>
    if !t.out then (t, false)
    else if pOff ≤ t.off + 1 then ({ t with out := false, off := 0 }, false) else ({ t with off := t.off + 1 }, true)
  | _, true =>
    let e := min (t.on + 1) pOn
    ({ out := t.out || decide (pOn ≤ e), on := e, off := 0 }, decide (e < pOn))
  | _, false =>
    if !t.out then ({ t with on := 0 }, false)
    else if pOff ≤ t.off + 1 then ({ out := false, on := 0, off := 0 }, false) else ({ t with off := t.off + 1 }, true)

/-- The elapsed count a timer shows in its mode. -/
def tmrShown (mode : Nat) (inp : Bool) (t : TmrVal) : Nat :=
  if mode = 0 then t.on else if mode = 1 then t.off else if !inp && t.out then t.off else t.on

end Sys2Proof

namespace Sys2Proof.Machine
open Sys2Proof

def State.tmrVal (s : State) (c n : Nat) : TmrVal :=
  let e := s.elem c
  { out := s.bit (Reg.TMR_ST c n) 31, on := SMap.get (fun _ => 0) e.tmrOn n, off := SMap.get (fun _ => 0) e.tmrOff n }

/-- Store a timer's state; `mark` notes the status of a step the program made. -/
def State.tmrStore (s : State) (c n mode : Nat) (inp : Bool) (t : TmrVal) (mark : Option Nat) : State :=
  (s.wr (Reg.TMR_ST c n) (w32 (b2n t.out * 2147483648 + b2n inp * 1073741824 + tmrShown mode inp t % 16777216))).elemMod c
    (fun e => { e with
      tmrOn := SMap.set (fun _ => 0) e.tmrOn n t.on, tmrOff := SMap.set (fun _ => 0) e.tmrOff n t.off,
      tmrDone := if mark.isSome then e.tmrDone ||| 2 ^ n else e.tmrDone,
      tmrSt := match mark with
        | some st => SMap.set (fun _ => 0) e.tmrSt n st
        | none => e.tmrSt })

/-- One step of timer n with an input, and its status (R217, R242). -/
def State.tmrAdvance (s : State) (c n : Nat) (inp byProgram : Bool) : State × Word :=
  let cfg := s.eff (Reg.TMR_CFG c n)
  let mode := field cfg 31 30
  let t := s.tmrVal c n
  let (t', run) := tmrStepVal mode (field cfg 23 0) (field (s.eff (Reg.TMR_OFF c n)) 23 0) inp t
  let st := b2n t'.out + 2 * b2n run + 4 * b2n (t.out != t'.out)
  (s.tmrStore c n mode inp t' (if byProgram then some st else none), w32 st)

/-- TMR STEP of timer n (R208, R217). -/
def State.tmrStep (s : State) (c n : Nat) (x : Word) : State × Word :=
  let e := s.elem c
  if e.tmrDone.testBit n then (s, w32 (SMap.get (fun _ => 0) e.tmrSt n ||| 8)) else s.tmrAdvance c n (decide (x ≠ 0)) true

/-- TMR RESET of timer n. -/
def State.tmrClear (s : State) (c n : Nat) : State × Word :=
  let e := s.elem c
  if e.tmrDone.testBit n then (s, w32 (SMap.get (fun _ => 0) e.tmrSt n ||| 8))
  else
    let st := 4 * b2n (s.bit (Reg.TMR_ST c n) 31)
    (s.tmrStore c n 0 false { out := false, on := 0, off := 0 } (some st), w32 st)

/-- TMR READ of timer n. -/
def State.tmrRead (s : State) (c n : Nat) : Word := w32 (s.fld (Reg.TMR_ST c n) 23 0)

/-- TIMER_DEADLINE_STEP: every timer the program did not step is stepped with its last input (R218). -/
def State.tmrDeadline (s : State) (c : Nat) : State :=
  let done := (s.elem c).tmrDone
  (List.range 64).foldl (fun t n => if done.testBit n then t else (t.tmrAdvance c n (t.bit (Reg.TMR_ST c n) 30) false).1) s

/-- Integrals, counts, comparators and timers return to 0 (R239). -/
def State.primReset (s : State) (c : Nat) : State :=
  let s := (List.range 32).foldl (fun t n => t.wr (Reg.CRV_INT c n) 0) s
  let s := (List.range 64).foldl (fun t n => (t.wr (Reg.CMP_ST c n) 0).wr (Reg.TMR_ST c n) 0) s
  s.elemMod c (fun e => { e with crvCnt := [], tmrOn := [], tmrOff := [] })

end Sys2Proof.Machine
end

