-- ==== Sys2Proof/Machine/CoreCmd.lean ====
section
/-!
DEFINITION. Commands of the element cores (R184 to R191, R627): loading and validation, activation, revert, run and stop, and
the second ports of IMEM and DMEM (R166).
-/
namespace Sys2Proof.Machine
open Sys2Proof

/-- A core's control state. -/
def State.core (s : State) (n : Nat) : Core := SMap.get (fun _ => Core.init) s.cores n
def State.setCore (s : State) (n : Nat) (x : Core) : State := { s with cores := SMap.set (fun _ => Core.init) s.cores n x }
def State.coreMod (s : State) (n : Nat) (f : Core → Core) : State := s.setCore n (f (s.core n))

/-- Bits of CORE_STAT. -/
def csSTOPPED : Nat := 1
def csLOADED : Nat := 3
def csBANK : Nat := 4
def csREVERTIBLE : Nat := 5
def csACT : Nat := 6
def csVALID : Nat := 7
def csVALIDATING : Nat := 8
def csEXC : Nat := 9
def csREFUSED : Nat := 10
def csCMDERR : Nat := 11

def State.cstat (s : State) (c i : Nat) : Bool := s.bit (Reg.CORE_STAT c) i
def State.setCstat (s : State) (c i : Nat) (b : Bool) : State := s.putBit (Reg.CORE_STAT c) i b

/-- A refused core command: CMD_ERR and nothing else (R185, R627). -/
def State.coreCmdErr (s : State) (c : Nat) : State := s.setCstat c csCMDERR true

/-- Whether a cluster's core is stopped (R188). -/
def State.coreStopped (s : State) (c : Nat) : Bool := s.cstat c csSTOPPED

/-- Key of word i of a cluster's IMEM bank, and of a DMEM byte address. -/
def imemKey (c : Nat) (bankB : Bool) (i : Nat) : Nat := clusterKey c ((if bankB then 0x20000 else 0x10000) + 4 * i)
def dmemKey (c a : Nat) : Nat := clusterKey c (0x30000 + a)

/-- Drop the words of a cluster window between two offsets: they read 0 (IMEM, DMEM). -/
def State.wipe (s : State) (c lo hi : Nat) : State :=
  let words (k : Nat) : Bool := decide (clusterKey c lo ≤ k) && decide (k < clusterKey c hi)
  (s.dropRegs words).dropUpsets c words

/-- Write words at ascending keys from a key on, and so in cluster c's memories. -/
def State.wrWords (s : State) (k : Nat) : List Word → State
  | [] => s
  | w :: ws => (s.wr k w).wrWords (k + 4) ws
def State.wrMems (s : State) (c k : Nat) : List Word → State
  | [] => s
  | w :: ws => (s.wrMem c k w).wrMems c (k + 4) ws

/-! ### Load and validation -/

/-- LOAD_VALIDATE (R184): the code goes into the inactive bank, and its previous content and any revert are lost. -/
def State.coreLoad (s : State) (c : Nat) : State :=
  if s.cstat c csVALIDATING || s.cstat c csACT then s.coreCmdErr c
  else
    let env := s.fld (Reg.CORE_IMG_ADDR c) 22 6 * 64
    let p := s.parts env 0
    let bankB := !s.cstat c csBANK
    let s := s.wipe c (if bankB then 0x20000 else 0x10000) (if bankB then 0x30000 else 0x20000)
    let s := s.wrMems c (imemKey c bankB 0) (s.mws (min p.codeWords 16384) p.codeAt)
    let s := s.elemMod c (fun e => { e with other := none, pendingImg := false, revertible := false, loading := true, loadBase := env })
    ((s.setCstat c csREVERTIBLE false).setCstat c csVALID false).setCstat c csVALIDATING true

def execCoreLoadValidate (c : Fin 16) (s : State) : Host.Outcome State Fault Refusal := .next (s.coreLoad c.val)

/-- An image refused: CORE_VAL, REFUSED, interrupt 58 and its record (R183). -/
def State.coreRefuse (s : State) (c reason detail ver : Nat) : State :=
  let s := (s.wr (Reg.CORE_VAL c) (w32 (reason * 0x1000000 + detail))).setCstat c csREFUSED true
  (s.irq 58).log 0x171 c (reason * 0x1000000 + detail) ver

/-- The validation of the image at `base` ends with verdict `v` (R182 to R184). -/
def State.valEnd (s : State) (c base : Nat) (v : Verdict) : State :=
  let img := s.elmImage base
  let s := (s.elemMod c (fun e => { e with loading := false })).setCstat c csVALIDATING false
  let s := s.put (Reg.CORE_VAL_WCET c) 16 0 (satTo 0x1FFFF (v.wcet.getD 0x1FFFF))
  match v.refusal with
  | some (r, d) => s.coreRefuse c r d (s.mN (base + payloadOff + 8))
  | none =>
    ((s.wr (Reg.CORE_VAL c) 0).elemMod c (fun e => { e with other := some img, pendingImg := true })).setCstat c csVALID true

/-- The running validation ends (R182 to R184). -/
def State.coreValidated (s : State) (c : Nat) : State :=
  let e := s.elem c
  if !e.loading then s else s.valEnd c e.loadBase (s.elmVerdict e.loadBase c)

def execCoreValidationDone (c : Fin 16) (s : State) : Host.Outcome State Fault Refusal := .next (s.coreValidated c.val)

/-! ### Activation -/

/-- Write the DMEM sections of an image (R181); `init` says that DMEM is initialised. -/
def State.writeSections (s : State) (c : Nat) (img : Image) (init : Bool) : State :=
  let s := if init then s.wipe c 0x30000 0x50000 else s
  img.secs.foldl (fun s x =>
    if x.kind = 1 ∨ (init ∧ x.kind = 2) then s.wrMems c (dmemKey c x.off) x.data else s) s

/-- The claims of a cluster's image move to a new image (R41, R185): the old ones end, the new ones are taken where no other
owner has come between. -/
def State.moveClaims (s : State) (owner : Nat) (new : List Nat) : State :=
  let s := s.endClaims owner ((s.ownedBy owner).filter (fun x => !new.contains x))
  (s.takeClaims owner (new.filter (fun x => decide (s.owner x = 0)))).fioDrive

/-- The image in the other bank becomes active (R181, R185): kind 1 live, 2 stopped, 3 revert. -/
def State.coreActivate (s : State) (c kind : Nat) : State :=
  let e := s.elem c
  match e.other with
  | none => s
  | some img =>
    let init := decide (e.lastLayout ≠ some img.layout)
    let s := if e.actSecs && !init then s else s.writeSections c img init
    let s := when init (fun t => t.primReset c) s
    let s := s.moveClaims (0x10 + c) img.claims
    let bankB := !s.cstat c csBANK
    let s := s.elemMod c (fun e => { e with
      active := some img, other := e.active, pendingImg := false, revertible := e.active.isSome, lastLayout := some img.layout,
      actWait := none, actIdx := none, actSecs := false, activated := true, first := e.first || init })
    let s := (((s.setCstat c csBANK bankB).setCstat c csLOADED true).setCstat c csVALID false).setCstat c csACT false
    let s := s.setCstat c csREVERTIBLE e.active.isSome
    let s := ((s.put (Reg.CORE_WCET c) 16 0 img.wcet).wr (Reg.CORE_IMG_VER c) (w32 img.ver)).wr (Reg.CORE_LAYOUT c) (w32 img.layout)
    let s := s.put (Reg.OVR_STAT c) 23 16 0
    let s := s.setExpect c img.expect
    ((s.expectCheck c 0).irq c).log 0x172 c img.ver (b2n bankB * 0x800000 + kind * 0x200000 + s.tick.idx)

/-- Total length of an image's ALWAYS sections (R185). -/
def alwaysBytes (i : Image) : Nat := (i.secs.filter (fun x => x.kind = 1)).foldl (fun n x => n + x.len) 0

/-- Whether the image in the other bank may be activated live (R185). -/
def State.liveOk (s : State) (c : Nat) : Bool :=
  let e := s.elem c
  match e.active, e.other with
  | some a, some b => !s.coreStopped c && decide (a.layout = b.layout) && decide (alwaysBytes b ≤ 4096)
  | _, _ => false

/-- Start the wait of a live activation (R186). -/
def State.coreArm (s : State) (c kind : Nat) : State :=
  let at_ := s.rd (Reg.CORE_ACT_AT c)
  (s.elemMod c (fun e => { e with
    actWait := some 2, actIdx := if bitAt at_ 31 then some (field at_ 12 0) else none, actKind := kind })).setCstat c csACT true

/-- ACTIVATE (R185). -/
def State.coreActivateCmd (s : State) (c : Nat) : State :=
  if !s.cstat c csVALID || s.cstat c csACT then s.coreCmdErr c
  else if s.coreStopped c then s.coreActivate c 2
  else if s.liveOk c then s.coreArm c 1
  else s.coreCmdErr c

def execCoreActivate (c : Fin 16) (s : State) : Host.Outcome State Fault Refusal := .next (s.coreActivateCmd c.val)

/-- Whether a cluster stands at a tick start: its tick has started and has not reached the region. -/
def State.atTickStart (s : State) (c : Nat) : Bool := s.tick.running && decide (s.clPhase c = .idle)

/-- The pending live activation takes effect at tick start t_a (R185, R186). -/
def State.coreActivationApply (s : State) (c : Nat) : State :=
  let e := s.elem c
  if s.atTickStart c && decide (e.actWait = some 0) && (decide (e.actIdx = none) || decide (e.actIdx = some s.tick.idx))
  then s.coreActivate c e.actKind else s

def execCoreActivationApply (c : Fin 16) (s : State) : Host.Outcome State Fault Refusal := .next (s.coreActivationApply c.val)

/-- REVERT (R187). -/
def State.coreRevert (s : State) (c : Nat) : State :=
  let e := s.elem c
  match e.other with
  | some img =>
    if !e.revertible || s.cstat c csACT || !s.liveOk c then s.coreCmdErr c
    else match s.claimRefusal (0x10 + c) img.claims with
      | some res => s.coreRefuse c 0x0F res img.ver
      | none => s.coreArm c 3
  | none => s.coreCmdErr c

def execCoreRevert (c : Fin 16) (s : State) : Host.Outcome State Fault Refusal := .next (s.coreRevert c.val)

/-! ### Run and stop (R188) -/

/-- CORE_CTRL.RUN = 0. -/
def State.coreStopReq (s : State) (c : Nat) : State :=
  (s.elemMod c (fun e => { e with stopReq := !s.coreStopped c, startReq := false })).putBit (Reg.CORE_CTRL c) 0 false

def execCoreRunStop (c : Fin 16) (s : State) : Host.Outcome State Fault Refusal := .next (s.coreStopReq c.val)

/-- CORE_CTRL.RUN = 1, refused without an active image. -/
def State.coreStartReq (s : State) (c : Nat) : State :=
  if !s.cstat c csLOADED then s.coreCmdErr c
  else (s.elemMod c (fun e => { e with startReq := s.coreStopped c, stopReq := false })).putBit (Reg.CORE_CTRL c) 0 true

def execCoreRunStart (c : Fin 16) (s : State) : Host.Outcome State Fault Refusal := .next (s.coreStartReq c.val)

/-- The core stops at the tick start: its posted requests and flags become 0, and the trip lines see it. -/
def State.coreStopApply (s : State) (c : Nat) : State :=
  if s.atTickStart c && (s.elem c).stopReq then
    let no := s.tickNo
    let s := s.elemMod c (fun e => { e.postFlags 0 no s.epoch with stopReq := false, posted := 0 })
    let s := s.coreMod c (fun k => { k with run := .idle })
    (s.setCstat c csSTOPPED true).tlStep
  else s

def execCoreStopApply (c : Fin 16) (s : State) : Host.Outcome State Fault Refusal := .next (s.coreStopApply c.val)

/-- The core starts at the tick start, with g4 FIRST = 1. -/
def State.coreStartApply (s : State) (c : Nat) : State :=
  if s.atTickStart c && (s.elem c).startReq then
    (s.elemMod c (fun e => { e with startReq := false, first := true, prevOvr := false })).setCstat c csSTOPPED false
  else s

def execCoreStartApply (c : Fin 16) (s : State) : Host.Outcome State Fault Refusal := .next (s.coreStartApply c.val)

/-- A write of CORE_ACT_AT (R627). -/
def State.actAtWrite (s : State) (c : Nat) (v : Word) : State :=
  if 4799 < field v 12 0 then s.coreCmdErr c else s.regWrite (Reg.CORE_ACT_AT c) v

def execCoreActAtWrite (c : Fin 16) (v : Word) (s : State) : Host.Outcome State Fault Refusal := .next (s.actAtWrite c.val v)

/-! ### Second ports (R166) -/

/-- A write of a DMEM word through the second port: refused while the core runs. -/
def State.dmemPort (s : State) (r : Req) (c a : Nat) (v : Word) : State :=
  if s.coreStopped c then s.wrMem c (dmemKey c (a / 4 * 4)) v else s.indFail r 3

def execCoreDmemPortWrite (req : Req) (c : Fin 16) (addr : BitVec 17) (v : Word) (s : State) : Host.Outcome State Fault Refusal :=
  s.access req (fun s => s.dmemPort req c.val addr.toNat v)

/-- A write of an IMEM word through the second port: always refused. -/
def State.imemPort (s : State) (r : Req) : State := s.indFail r 3

def execCoreImemPortWrite (req : Req) (_c : Fin 16) (_addr : BitVec 17) (_v : Word) (s : State) : Host.Outcome State Fault Refusal :=
  s.access req (fun s => s.imemPort req)

end Sys2Proof.Machine
end

