-- ==== Sys2Proof/Machine/LatheImage.lean ====
section
/-!
DEFINITION. LTH images: their layout and the checks of R311, and the Lathe's memory (R299): the words of its halves, timers,
edge memories and the input and output images.
-/
namespace Sys2Proof

/-- Key of DMEM byte address a of a half, and of an IMEM word of a half. -/
def lthDmem (half a : Nat) : Nat := 0xA0000000 + half * 0x100000 + a
def lthImem (half i : Nat) : Nat := 0xA1000000 + half * 0x80000 + 4 * i
/-- Keys of the input and output images (R291, R294). -/
def lthIn (w : Nat) : Nat := 0xA2000000 + 4 * w
def lthOut (w : Nat) : Nat := 0xA2010000 + 4 * w

/-- Offset of the retained partition in a half (R299). -/
def retBase : Nat := 0xF0000

end Sys2Proof

namespace Sys2Proof.Machine
open Sys2Proof

def State.lthMod (s : State) (f : LatheU → LatheU) : State := { s with lathe := f s.lathe }

/-- The active half: 0 A, 1 B. -/
def State.lthHalf (s : State) : Nat := s.fld Reg.LTH_STAT 25 25

/-- The image in a half. -/
def State.lthImg (s : State) (half : Nat) : Option LImage := SMap.get (fun _ => none) s.lathe.imgs half

def State.setLthImg (s : State) (half : Nat) (i : Option LImage) : State :=
  s.lthMod (fun l => { l with imgs := SMap.set (fun _ => none) l.imgs half i })

/-- A timer and an edge memory of a half. -/
def State.ltmr (s : State) (half n : Nat) : LTmr := SMap.get (fun _ => LTmr.init) s.lathe.timers (half * 4096 + n)
def State.setLtmr (s : State) (half n : Nat) (t : LTmr) : State :=
  s.lthMod (fun l => { l with timers := SMap.set (fun _ => LTmr.init) l.timers (half * 4096 + n) t })
def State.ledge (s : State) (half n : Nat) : EdgeMem := SMap.get (fun _ => EdgeMem.init) s.lathe.edges (half * 4096 + n)
def State.setLedge (s : State) (half n : Nat) (e : EdgeMem) : State :=
  s.lthMod (fun l => { l with edges := SMap.set (fun _ => EdgeMem.init) l.edges (half * 4096 + n) e })

/-- Note a page of the pair's Lathe set as dirty (R534, R538). -/
def State.pairDirty (s : State) (page : Nat) : State := s.lthMod (fun l => { l with pdirty := l.pdirty ||| 2 ^ page })

/-- Store a DMEM word of the active half: its pages become dirty (R305, R538). -/
def State.lthStore (s : State) (a : Nat) (v : Word) : State :=
  let s := (s.wr (lthDmem s.lthHalf a) v).pairDirty (a / 1024)
  if a < retBase then s else s.lthMod (fun l => { l with dirty := l.dirty ||| 2 ^ ((a - retBase) / 1024) })

/-- Drop the words between two keys: they read 0. -/
def State.wipeKeys (s : State) (lo hi : Nat) : State :=
  s.dropRegs (fun k => decide (lo ≤ k) && decide (k < hi))

/-! ### Layout (chapter 09, Rechuck) -/

/-- Where the parts of an LTH image lie; the tables behind the claim list are those of R310 and the free part. -/
def State.lthParts (s : State) (env : Nat) : Parts × LthTables :=
  let p := s.parts env 0
  let fixed := 16 * s.mH (p.base + 0x30) + 12 * s.mH (p.base + 0x32)
  let t := Config.lthTables (s.mbs (p.end_ - (p.extraAt + fixed)) (p.extraAt + fixed))
  ({ p with gap := fixed + t.bytes }, t)

def State.carryAt (s : State) (p : Parts) (i : Nat) : Carry :=
  let a := p.extraAt + 16 * i
  { sym := s.mN a, kind := s.mB (a + 4), typ := s.mB (a + 5), loc := s.mN (a + 8), len := s.mN (a + 12) }

def State.ltmrAt (s : State) (p : Parts) (i : Nat) : LTmrCfg :=
  let a := p.extraAt + 16 * s.mH (p.base + 0x30) + 12 * i
  { mode := s.mB a, retain := (s.mB (a + 1)).testBit 0, pOn := s.mN (a + 4), pOff := s.mN (a + 8) }

/-- The image of the envelope at an address as the device keeps it. -/
def State.lthImage (s : State) (env : Nat) : LImage :=
  let (p, t) := s.lthParts env
  let b := p.base
  { ver := s.mN (b + 8), turnP := s.mH (b + 0x1C), codeWords := p.codeWords, entry := s.mN (b + 0x10), wcet := s.mN (b + 0x14),
    pages := s.mN (b + 0x28) % 256, digest := (sha256 (s.mbs p.len b)).take 16, claims := s.claimsOf p,
    secs := (s.dsecsOf p).map (fun x => (x.off, x.data)),
    carry := (List.range (s.mH (b + 0x30))).map (s.carryAt p), timers := (List.range (s.mH (b + 0x32))).map (s.ltmrAt p),
    edges := s.mH (b + 0x34), tables := t }

/-! ### Checks (R311) -/

/-- The program budget of a turn period (R290). -/
def turnBudget (p : Nat) : Nat := p * 124960 - 14400

/-- Header faults of an LTH image beyond those it shares with an element image (reason 0x01). -/
def State.lthHeader (s : State) (p : Parts) : List Nat :=
  let b := p.base
  let put (c : Bool) (off : Nat) : List Nat := if c then [off] else []
  put (decide (s.mH (b + 0x1C) = 0 ∨ 4800 < s.mH (b + 0x1C))) 0x1C ++ put (decide (p.copies ≠ 0)) 0x22 ++
    put (decide (256 ≤ s.mN (b + 0x28))) 0x28 ++
    put (decide (4096 < s.mH (b + 0x30))) 0x30 ++ put (decide (1024 < s.mH (b + 0x32))) 0x32 ++
    put (decide (4096 < s.mH (b + 0x34))) 0x34 ++ put (decide (64 < s.mB (b + 0x36))) 0x36 ++ put (decide (1 < s.mB (b + 0x37))) 0x37

/-- The carry entries of two images that match (R311, R313): same symbol. -/
def matched (a b : LImage) : List (Carry × Carry) :=
  a.carry.filterMap (fun x => (b.carry.find? (fun y => decide (y.sym = x.sym))).map (fun y => (x, y)))

/-- Reason 0x22: the first carry entry whose match in the running image differs in kind, type or length. -/
def carryBad (run new : LImage) : Option Nat :=
  (List.range new.carry.length).find? (fun i =>
    match new.carry[i]? with
    | some y => (run.carry.find? (fun x => decide (x.sym = y.sym))).any (fun x =>
        decide (x.kind ≠ y.kind ∨ x.typ ≠ y.typ ∨ x.len ≠ y.len))
    | none => false)

end Sys2Proof.Machine

namespace Sys2Proof

/-- The cycles one carry entry costs: a sixteenth of its bytes, its timers, or a thirty-second of its edge memories, rounded up. -/
def Carry.cost (x : Carry) : Nat := if x.kind = 1 then (x.len + 15) / 16 else if x.kind = 2 then x.len else (x.len + 31) / 32

end Sys2Proof

namespace Sys2Proof.Machine
open Sys2Proof

/-- The carry cost of reason 0x23, in cycles, summed over the matched entries. -/
def carryCost (ms : List (Carry × Carry)) : Nat := ms.foldl (fun n m => n + m.2.cost) 0

/-- A fault of the tables under reason 0x24: table (1 timers, 2 stations, 3 receive map, 4 transmit map, 5 safe section, 6 carry)
and index. -/
def State.tableBad (s : State) (p : Parts) (i : LImage) : Option (Nat × Nat) :=
  let owned (m : CanMap) : Bool :=
    decide (m.ctl < 4 ∧ m.obj < 128) &&
      (decide (s.owner (0x6000 + m.ctl * 128 + m.obj) = 0x02) || i.claims.contains (0x6000 + m.ctl * 128 + m.obj))
  let t := i.tables
  let find {α : Type} (tag : Nat) (l : List α) (ok : α → Bool) : Option (Nat × Nat) :=
    (l.zipIdx.find? (fun x => !ok x.1)).map (fun x => (tag, x.2))
  find 1 i.timers (fun x => decide (x.mode ≤ 2))
    <|> (if 128 < (i.timers.filter (·.retain)).length then some (1, i.timers.length) else none)
    <|> (if t.stations.length ≠ s.mB (p.base + 0x36) then some (2, t.stations.length) else none)
    <|> find 2 t.stations (fun x => x.goose.all (fun e => decide (e < 128)) && x.rx.all (fun r => decide (r < t.rx.length)) &&
          x.tx.all (fun r => decide (r < t.tx.length)))
    <|> (if 48 < t.rx.length then some (3, 48) else none)
    <|> find 3 t.rx (fun m => owned m && decide (1 ≤ m.ttl ∧ m.ttl ≤ 60000))
    <|> (if 48 < t.tx.length then some (4, 48) else none)
    <|> find 4 t.tx owned
    <|> (if (s.mB (p.base + 0x37) = 1) ↔ (t.safeMask.length = 3 ∧ t.safeVal.length = 3) then none else some (5, 0))
    <|> find 6 i.carry (fun x => decide (x.sym ≠ 0) &&
          ((decide (x.kind = 1) && decide (x.loc + x.len ≤ 0x100000)) || (decide (x.kind = 2) && decide (x.loc + x.len ≤ 1024)) ||
           (decide (x.kind = 3) && decide (x.loc + x.len ≤ 4096))))
    <|> ((List.range i.carry.length).find? (fun j => (i.carry.take j).any (fun x => decide (some x.sym = (i.carry[j]?).map (·.sym))))).map (fun j => (6, j))

/-- The checks of R311 on the envelope at an address. -/
def State.lthVerdict (s : State) (env : Nat) : Option (Nat × Nat) :=
  let (p, _) := s.lthParts env
  let b := p.base
  let i := s.lthImage env
  let head := match s.badLayout p 0x3148544C 131072 [(0x26, 2), (0x38, 8)], s.lthHeader p with
    | none, [] => none
    | none, y :: ys => some (ys.foldl min y)
    | some x, ys => some (ys.foldl min x)
  let r : Option (Nat × Nat) :=
    if !s.envOk env 2 then some (0x11, 0)
    else match head with
    | some d => some (1, d)
    | none =>
      if s.mB (b + 6) ≠ 0x4C then some (2, 0)
      else if p.codeWords = 0 ∨ 131072 < p.codeWords ∨ p.codeWords ≤ i.entry then some (4, 0)
      else
        let k := s.codeOf p .l 0x2F
        match k.refusal with
        | some x => some x
        | none =>
          if i.wcet < k.wcet then some (0xA, k.wcet)
          else (s.badSection p 0x100000).map (fun d => (0xD, d))
            <|> (s.claimRefusal 0x02 i.claims).map (fun d => (0xF, d))
            <|> (if turnBudget i.turnP < i.wcet then some (0x20, satTo 0xFFFFFF i.wcet) else none)
            <|> (if i.pages < 2 ∨ 64 < i.pages ∨ 2083 * i.turnP < 41 * i.pages + 330 then some (0x21, i.pages) else none)
            <|> (match s.lthImg s.lthHalf with
                | some run => (carryBad run i).map (fun d => (0x22, d))
                    <|> (let c := carryCost (matched run i); if 9000 < c then some (0x23, c) else none)
                | none => none)
            <|> (s.tableBad p i).map (fun d => (0x24, Config.lthTableDetail d.1 d.2))
  r.map (fun x => (x.1, x.2 % 0x1000000))

end Sys2Proof.Machine
end

