-- ==== Sys2Proof/Machine/Lathe.lean ====
section
/-!
DEFINITION. The Lathe (chapter 09): turns with their latch, commit, overrun and halt, the retained partition, rechuck, starts,
and metering intervals.
-/
namespace Sys2Proof

/-! ### Timers (R302) -/

/-- A timer's elapsed count under its mode. -/
def LTmr.shown (t : LTmr) (mode : Nat) : Nat :=
  if mode = 0 then t.on else if mode = 1 then t.off else if !t.inp && t.out then t.off else t.on

/-- d counter periods pass at a latch: the count that runs under the mode and the input as last set advances, an on count to the
preset at most (R242), also where it stands past a new one. -/
def LTmr.advance (t : LTmr) (c : LTmrCfg) (d : Nat) : LTmr :=
  let on := min (t.on + d) (c.pOn * 250)
  if t.inp then (if c.mode = 1 then t else { t with on := on })
  else if t.out && decide (c.mode ≠ 0) then { t with off := min (t.off + d) (2 ^ 48 - 1) }
  else t

/-- A STEP: the input is set and the output re-evaluated against the presets; whether the timer counts afterwards (R242,
R302). -/
def LTmr.step (t : LTmr) (c : LTmrCfg) (x : Bool) : LTmr × Bool :=
  let onDone := decide (c.pOn ≤ t.on / 250)
  let offDone := decide (c.pOff ≤ t.off / 250)
  match c.mode, x with
  | 0, true => ({ t with inp := true, out := onDone }, !onDone)
  | 0, false => ({ t with inp := false, out := false, on := 0 }, false)
  | 1, true => ({ t with inp := true, out := true, off := 0 }, false)
  | 1, false =>
    if !t.out then ({ t with inp := false }, false)
    else if offDone then ({ t with inp := false, out := false, off := 0 }, false) else ({ t with inp := false }, true)
  | _, true => ({ t with inp := true, out := t.out || onDone, off := 0 }, !onDone)
  | _, false =>
    if !t.out then ({ t with inp := false, on := 0 }, false)
    else if offDone then ({ inp := false, out := false, on := 0, off := 0 }, false) else ({ t with inp := false }, true)

/-- A timer rebuilt from an elapsed count, an input and an output (R301, R313). -/
def LTmr.restore (mode pOn cnt : Nat) (inp out : Bool) : LTmr :=
  if mode = 1 ∨ (mode ≠ 0 ∧ !inp ∧ out) then { inp := inp, out := out, on := if mode = 1 then 0 else pOn * 250, off := cnt }
  else { inp := inp, out := out, on := cnt, off := 0 }

/-- The eight bytes of a retained timer, as two words: count in bits 47 to 0, input in bit 48, output in bit 49. -/
def LTmr.pack (t : LTmr) (mode : Nat) : List Word :=
  let n := t.shown mode
  [w32 n, w32 (n / 4294967296 % 65536 + b2n t.inp * 65536 + b2n t.out * 131072)]

end Sys2Proof

namespace Sys2Proof.Machine
open Sys2Proof

/-- STATE of LTH_STAT: 0 stopped, 1 running, 2 halted. -/
def State.lthState (s : State) : Nat := s.fld Reg.LTH_STAT 31 30
def State.lthRunning (s : State) : Bool := decide (s.lthState = 1)

/-- A record of the chapter: codes 0x1A4 to 0x1A8 raise interrupt 31, the others 30 (R320). -/
def State.lthLog (s : State) (code sparam p0 p1 : Nat) : State :=
  (s.irq (if 0x1A4 ≤ code ∧ code ≤ 0x1A8 then 31 else 30)).log code sparam p0 p1

/-- A refused command. -/
def State.lthCmdErr (s : State) : State := s.putBit Reg.LTH_STAT 21 true

/-- The turn number's low word, as records carry it. -/
def State.turnLo (s : State) : Nat := s.lathe.turn % 4294967296

/-- The configuration of a timer of the image in a half; timers beyond its table have mode 0 and presets 0. -/
def State.ltmrCfg (s : State) (half n : Nat) : LTmrCfg :=
  match s.lthImg half with
  | some i => i.timers.getD n { mode := 0, retain := false, pOn := 0, pOff := 0 }
  | none => { mode := 0, retain := false, pOn := 0, pOff := 0 }

/-- The output words 0 to 2 as driven have changed: field outputs, Lathe bits and trip lines follow (R293, R295, R298). -/
def State.lthDrive (s : State) (ws : List Word) : State :=
  let s := ws.zipIdx.foldl (fun t p => t.wr (lthOutKey p.2) p.1) s
  (s.wr Reg.LTH_BITS (s.rd (lthOutKey 2))).fioDrive.tlStep

/-! ### Revert window and claims (R46, R314) -/

/-- The revert window ends: the old image's claims end, and its half can no longer be activated. -/
def State.revertClose (s : State) (cause : Nat) : State :=
  if !s.bit Reg.LTH_RCK 2 then s
  else
    let old := s.lthImg (1 - s.lthHalf)
    let s := ((s.putBit Reg.LTH_RCK 2 false).putBit Reg.LTH_RCK 4 false).put Reg.LTH_RCK 31 22 0
    let s := s.endClaims 2 s.lathe.oldClaims
    let s := (s.lthMod (fun l => { l with oldClaims := [] })).fioDrive
    s.lthLog 0x1A7 cause ((old.map (·.ver)).getD 0) 0

/-- REVERT_WINDOW_CLOSE: 1 000 turn slots after the switch. A revert accepted before still runs, and ends the window itself. -/
def State.revertExpire (s : State) : State :=
  if s.fld Reg.LTH_RCK 31 22 = 0 && !s.bit Reg.LTH_RCK 4 then s.revertClose 1 else s

def execRevertWindowClose (s : State) : Host.Outcome State Fault Refusal := .next s.revertExpire

/-- A pending ARM is cancelled (R297, R312). -/
def State.armCancel (s : State) (cause : Nat) : State :=
  if !s.bit Reg.LTH_RCK 3 then s
  else
    let s := s.putBit Reg.LTH_RCK 3 false
    s.lthLog 0x1A8 cause (((s.lthImg (1 - s.lthHalf)).map (·.ver)).getD 0) 0

/-! ### Halt (R297, R298) -/

/-- A halt: the program stops, the safe image applies, and the cause is recorded. -/
def State.lthHalt (s : State) (kind cause pc : Nat) : State :=
  let h := kind * 0x10000000 + cause % 256 * 0x100000 + pc % 131072
  let s := s.coreMod 18 (fun k => { k with run := if kind = 2 then .faulted else .idle })
  let s := (s.put Reg.LTH_STAT 31 30 2).wr Reg.LTH_HALT (w32 h)
  let s := s.lthMod (fun l => { l with phase := .none })
  let t := (s.lthImg s.lthHalf).map (·.tables)
  let s := match t with
    | some t => s.lthDrive ((List.range 3).map (fun w =>
        (s.rd (lthOutKey w) &&& ~~~ t.safeMask.getD w 0) ||| (t.safeVal.getD w 0 &&& t.safeMask.getD w 0)))
    | none => s
  ((s.lthLog 0x1A1 kind h s.turnLo).armCancel 2).revertClose 2

/-- LTH_CTRL.HALT = 1. -/
def State.lthHaltCmd (s : State) : State := if s.lthRunning then s.lthHalt 4 0 (s.core 18).pc else s

def execLthHaltCmd (s : State) : Host.Outcome State Fault Refusal := .next s.lthHaltCmd

/-- A lockstep mismatch of the running pair (R158). -/
def State.lthMismatch (s : State) : State := if s.lthRunning then s.lthHalt 3 0 (s.core 18).pc else s

def execLthLockstepMismatch (s : State) : Host.Outcome State Fault Refusal := .next s.lthMismatch

/-! ### Stations (R307, R308) -/

/-- Elapsed count, plus one, of the last valid reception of a source: a GOOSE entry or a receive map entry. -/
def State.gooseAt (s : State) (e : Nat) : Nat := (s.gse e).rxAt
def State.canRxAt (s : State) (m : CanMap) : Nat := SMap.get (fun _ => 0) (s.can m.ctl).rxAt m.obj

/-- The latest failure of a station since the previous latch, with its cause (1 one-shot, 2 bus-off, 3 link loss). -/
def State.stationFail (s : State) (t : LthTables) (st : Station) (since : Nat) : Option (Nat × Nat) :=
  let tx := st.tx.filterMap (fun x => t.tx[x]?)
  let rx := st.rx.filterMap (fun x => t.rx[x]?)
  let ev := tx.map (fun m => (SMap.get (fun _ => 0) (s.can m.ctl).failAt m.obj, 1)) ++
    (tx ++ rx).map (fun m => ((s.can m.ctl).offAt, 2)) ++
    st.goose.map (fun e => ((s.gse e).downAt, 3))
  (ev.filter (fun x => decide (since < x.1))).foldl (fun o x => match o with
    | some y => if y.1 < x.1 then some x else some y
    | none => some x) none

/-- The first expired receive source of a station: 1 GOOSE or 2 CAN, and its entry. -/
def State.stationExpired (s : State) (t : LthTables) (st : Station) : Option (Nat × Nat) :=
  let g := st.goose.find? (fun e => decide (s.gooseAt e ≠ 0) && (s.bit (gseKey e 6) 1 ||
    (match (s.gse e).endAt with
      | some x => decide (x ≤ s.tb.sec * 1000000000 + s.tb.ns)
      | none => false)))
  let c := st.rx.find? (fun r => match t.rx[r]? with
    | some m => decide (s.canRxAt m ≠ 0) && decide (s.canRxAt m - 1 + m.ttl * 250000 ≤ s.tb.cnt)
    | none => false)
  (g.map (fun e => (1, e))) <|> (c.map (fun r => (2, r)))

/-- The station's quality at a latch (R308), with the records of what has newly become so. `since` is the elapsed count, plus
one, of the previous latch. -/
def State.stationLatch (s : State) (t : LthTables) (i : Nat) (st : Station) (since : Nat) : State :=
  let old := SMap.get (fun _ => 0) s.lathe.quality i
  let rxs := st.goose.map s.gooseAt ++ (st.rx.filterMap (fun r => t.rx[r]?)).map s.canRxAt
  let start := s.lathe.startAt
  let fail := s.stationFail t st since
  let failAt := match fail with
    | some f => f.1
    | none => SMap.get (fun _ => 0) s.lathe.failAt i
  let inv := fail.isSome || (old.testBit 0 && !rxs.any (fun x => decide (failAt < x)))
  let exp := s.stationExpired t st
  let test := st.goose.any (fun e => s.bit (gseKey e 6) 2)
  let never := !rxs.any (fun x => decide (start < x))
  let q := b2n inv + 2 * b2n exp.isSome + 4 * b2n test + 8 * b2n never
  let s := s.lthMod (fun l => { l with
    quality := SMap.set (fun _ => 0) l.quality i q, failAt := SMap.set (fun _ => 0) l.failAt i failAt })
  let s := when (inv && !old.testBit 0) (fun u => u.lthLog 0x1A9 i ((fail.map (·.2)).getD 0) u.turnLo) s
  when (exp.isSome && !old.testBit 1) (fun u =>
    let x := exp.getD (0, 0)
    u.lthLog 0x1AA i (x.1 * 0x40000000 + x.2) u.turnLo) s

/-! ### Latch (R291) -/

/-- Time flags of the input image: [0] FIRST to [6] STEP. -/
def lfFIRST : Nat := 1
def lfWARM : Nat := 2
def lfCOLD : Nat := 4
def lfSWITCHED : Nat := 8
def lfREVERTED : Nat := 16
def lfPREVOVR : Nat := 32
def lfSTEP : Nat := 64

/-- Write the input image of a turn that starts now; `d` is the elapsed count since the previous latch. Trip-line states are those of the last
deadline; a CAN entry holds the bytes of the last frame, zero-padded. -/
def State.latchImage (s : State) (t : LthTables) (d : Nat) : State :=
  let l := s.lathe
  let put (s : State) (w v : Nat) : State := s.wr (lthIn w) (w32 v)
  let ns := tickNs s.tick.idx
  let s := put (put s 0 l.turn) 1 (l.turn / 4294967296)
  let s := put s 2 s.tick.sec
  let s := put s 3 (s.tick.sec / 4294967296 % 65536 * 65536 + s.epoch * 256 + l.flags % 128)
  let s := put (put s 4 (s.tq * 0x40000000 + ns)) 5 (d / 250)
  let s := (s.wr (lthIn 6) (s.rd Reg.FIO_IN_LO)).wr (lthIn 7) (s.rd Reg.FIO_IN_HI)
  let s := put (put s 8 s.fio.rise.toNat) 9 (s.fio.rise.toNat / 4294967296)
  let s := put (put s 10 s.fio.fall.toNat) 11 (s.fio.fall.toNat / 4294967296)
  let s := s.fioMod (fun u => { u with rise := 0, fall := 0 })
  let s := (List.range 16).foldl (fun u c => u.wr (lthIn (12 + c)) (u.elem c).flags) s
  let s := (s.wr (lthIn 28) s.tick.energ.1).wr (lthIn 29) s.tick.energ.2
  let s := put s 30 (packBits 16 s.ifdOut + 65536 * packBits 16 s.cdOut)
  let s := put s 31 (b2n (s.bit Reg.FIO_STAT 2) + 2 * b2n s.flkUp + 256 * packBits 6 (fun b => s.bit (Reg.FIO_BANK b) 16))
  let s := (List.range 8).foldl (fun u w =>
    put u (32 + w) ((List.range 8).foldl (fun n i => n + SMap.get (fun _ => 0) u.lathe.quality (8 * w + i) * 16 ^ i) 0)) s
  let s := if s.meter.ready then
      let s := s.meter.words.zipIdx.foldl (fun u p => u.wr (lthIn (128 + p.2)) p.1) s
      s.meterMod (fun m => { m with ready := false })
    else s
  let s := (List.range 128).foldl (fun u e => (List.range 8).foldl (fun u w => u.wr (lthIn (256 + 8 * e + w)) (u.rd (gseKey e (6 + w)))) u) s
  (List.range 48).foldl (fun u r => (List.range 16).foldl (fun u w =>
    u.wr (lthIn (1280 + 16 * r + w)) (match t.rx[r]? with
      | some m =>
        let w3 := canObj m.ctl m.obj 3
        if 4 * w < dlcBytes (u.bit w3 10) (u.fld w3 3 0) then u.rd (canObj m.ctl m.obj (8 + w)) else 0
      | none => 0)) u) s

/-- Every timer of the active half advances by d counter periods (R302); one that moves makes its page dirty for the pair (R538). -/
def State.timersAdvance (s : State) (d : Nat) : State :=
  (List.range 1024).foldl (fun u n =>
    let t := u.ltmr u.lthHalf n
    let t' := t.advance (u.ltmrCfg u.lthHalf n) d
    if t = LTmr.init ∨ t' = t then u else (u.setLtmr u.lthHalf n t').pairDirty (1024 + n / 128)) s

/-- Whether the alignment lets a turn start at the tick that has just started (R288, R289): P ticks after the one before, under Second where
the index is a multiple of P, and under Alarm at or after the alarm's instant; from step 3 of hold-up on none starts
(R588). -/
def State.turnDue (s : State) (p : Nat) : Bool :=
  s.lthRunning && s.tick.running && decide (s.fld Reg.PWR_STAT 15 13 < 3) && decide (s.lathe.nextRun ≤ s.tick.runs) &&
    (decide (s.fld Reg.LTH_CFG 31 30 ≠ 1) || decide (s.tick.idx % p = 0)) &&
    s.lathe.alignAt.all (fun t => decide (t ≤ s.tick.sec * 1000000000 + tickNs s.tick.idx))

/-- The turn number of the turn that starts: 0 for the first after a start (R288, R304), and the turn slots left of a revert window, 1 000 in
the first turn after the switch (R314). -/
def State.turnCount (s : State) (p : Nat) : State :=
  let s := s.lthMod (fun l => { l with
    turn := if l.ran then (l.turn + 1) % 2 ^ 64 else 0, ran := true, nextRun := s.tick.runs + p, startSec := s.tick.sec,
    startIdx := s.tick.idx, startEpoch := s.epoch, tmrSt := [], alignAt := none })
  let s := s.wr Reg.LTH_TURN_LO (w32 s.lathe.turn)
  when (s.bit Reg.LTH_RCK 2) (fun t => t.put Reg.LTH_RCK 31 22 (min 1000 (1001 - (t.lathe.turn - t.lathe.swTurn)))) s

/-- TURN_START: a turn starts; its input image is latched, or the turn is the one an overrun skips (R291, R296). -/
def State.turnStart (s : State) : State :=
  match s.lthImg s.lthHalf with
  | none => s
  | some i =>
    if !s.turnDue i.turnP then s
    else
      let s := s.turnCount i.turnP
      if s.lathe.skip then s.lthMod (fun l => { l with skip := false, phase := .skipped, flags := l.flags ||| lfPREVOVR })
      else
        let d := match s.lathe.lastLatch with
          | some c => s.tb.cnt - c
          | none => 0
        let since := match s.lathe.lastLatch with
          | some c => c + 1
          | none => s.lathe.startAt
        let s := s.timersAdvance d
        let s := i.tables.stations.zipIdx.foldl (fun u p => u.stationLatch i.tables p.2 p.1 since) s
        let s := s.latchImage i.tables d
        s.lthMod (fun l => { l with phase := .latched, lastLatch := some s.tb.cnt, flags := 0 })

def execTurnStart (s : State) : Host.Outcome State Fault Refusal := .next s.turnStart

/-- LTH_PROGRAM_START: the program starts from ENTRY with empty stacks (R290). -/
def State.lthProgram (s : State) : State :=
  match s.lathe.phase, s.lthImg s.lthHalf with
  | .latched, some i =>
    let s := s.lthMod (fun l => { l with phase := .program })
    s.coreMod 18 (fun k => { k with pc := i.entry, run := .active, cyc := 0, ready := [], flagsAt := 0, loops := [], rets := [] })
  | _, _ => s

def execLthProgramStart (s : State) : Host.Outcome State Fault Refusal := .next s.lthProgram

/-! ### Retained partition (R304 to R306) -/

/-- MRAM address of a copy (R37). -/
def retAddr (copy : Nat) : Nat := 0x800000 + 0x10000 * copy

/-- Whether a copy is valid: its header CRC and the CRCs of all its pages match (R304). -/
def State.retValid (s : State) (copy : Nat) : Bool :=
  let a := retAddr copy
  let n := s.mN (a + 4)
  decide (s.mN a = 0x54455452) && decide (2 ≤ n ∧ n ≤ 64) &&
    decide (crc32 (s.mbs 0x3C a ++ s.mbs 0x100 (a + 0x40)) = s.mN (a + 0x3C)) &&
    (List.range (n - 1)).all (fun p => decide (crc32 (s.mbs 1024 (a + 1024 * (p + 1))) = s.mN (a + 0x40 + 4 * (p + 1))))

/-- The sequence number of a copy. -/
def State.retSeq (s : State) (copy : Nat) : Nat := s.mN (retAddr copy + 8) + 4294967296 * s.mN (retAddr copy + 12)

/-- The retained timers of an image: their numbers, in table order (R301). -/
def retained (i : LImage) : List Nat := (idxWhere i.timers.length (fun n => (i.timers[n]?).any (·.retain))).take 128

/-- The hardware brings page 1 of the working copy up to date with the retained timers (R301). -/
def State.retTimers (s : State) (i : LImage) : State :=
  let s := if (retained i).isEmpty then s else s.pairDirty 961
  (retained i).zipIdx.foldl (fun u p =>
    u.wrWords (lthDmem u.lthHalf (retBase + 1024 + 8 * p.2)) ((u.ltmr u.lthHalf p.1).pack (i.timers.getD p.1 { mode := 0, retain := false, pOn := 0, pOff := 0 }).mode)) s

/-- The bytes of a page of the working copy in a half. -/
def State.retPage (s : State) (half p : Nat) : Bytes :=
  (List.range 256).flatMap (fun w => leBytes (s.rd (lthDmem half (retBase + 1024 * p + 4 * w))))

/-- A flush begins: its pages go into the copy (R305). -/
def State.flushBegin (s : State) (f : Flush) : State :=
  let pages := idxWhere 64 (fun p => decide (1 ≤ p) && f.pages.testBit p)
  let s := pages.foldl (fun u p => u.mwr (retAddr f.copy + 1024 * p) (u.retPage f.half p)) s
  let s := s.lthMod (fun l => { l with flush := some f, waiting := none })
  (s.put Reg.LTH_RET 23 16 (pages.length + 1)).putBit Reg.LTH_RET 2 true

/-- A deadline finds a flush in progress (R306). -/
def State.flushLate (s : State) : State := if s.lathe.flush.isSome then s.putBit Reg.LTH_STAT 23 true else s

/-- The flush of a commit starts, or waits for the one in progress (R305, R306). A flush that already waited gives its pages to this one, and its
own copy lacks them until a flush goes into it. -/
def State.flushStart (s : State) (i : LImage) : State :=
  let l := s.lathe
  let copy := l.turn % 2
  let all := 2 ^ i.pages - 1
  let whole := decide (0 < l.flushAll) || l.rewrite.testBit copy
  let pages := (if whole then all else l.dirty ||| l.dirtyPrev ||| 3) % 2 ^ i.pages
  let carried := match l.waiting with
    | some w => w.pages
    | none => 0
  let owed := SMap.get (fun _ => 0) l.owed copy % 2 ^ i.pages
  let f : Flush := {
    copy := copy, half := s.lthHalf, ret := i.pages, digest := i.digest, turn := l.turn, seq := l.seq0 + l.turn + 1, sec := l.startSec, epoch := l.startEpoch, pages := (pages ||| carried) % 2 ^ i.pages ||| owed }
  let owes (m : SMap Nat) : SMap Nat :=
    let m := SMap.set (fun _ => 0) m copy 0
    match l.waiting with
    | some w => if w.copy = copy then m else SMap.set (fun _ => 0) m w.copy (SMap.get (fun _ => 0) m w.copy ||| w.pages)
    | none => m
  let s := s.retTimers i
  let s := s.lthMod (fun l => { l with
    owed := owes l.owed, dirtyPrev := l.dirty, dirty := 0, flushAll := l.flushAll - 1, rewrite := if l.rewrite.testBit copy then l.rewrite - 2 ^ copy else l.rewrite })
  if l.flush.isSome then s.lthMod (fun l => { l with waiting := some f }) else s.flushBegin f

/-- The header of a copy, from the flush that made it and the pages as they lie in MRAM (R304). -/
def State.retHeader (s : State) (f : Flush) : Bytes :=
  let a := retAddr f.copy
  let le64 (n : Nat) : Bytes := leBytes (w32 n) ++ leBytes (w32 (n / 4294967296))
  let head := leBytes 0x54455452 ++ leBytes (w32 f.ret) ++ le64 f.seq ++ f.digest.take 16 ++
    le64 (f.sec % 2 ^ 56 + f.epoch * 2 ^ 56) ++ List.replicate 20 0
  let crcs := leBytes 0 ++ (List.range 63).flatMap (fun p =>
    if p + 1 < f.ret then leBytes (w32 (crc32 (s.mbs 1024 (a + 1024 * (p + 1))))) else leBytes 0)
  head ++ leBytes (w32 (crc32 (head ++ crcs))) ++ crcs ++ List.replicate (1024 - 0x140) 0

/-- What follows a flush whose MRAM write has failed at address a (R306): its copy is invalid, and the next flush into it, which may
already wait, writes every page. -/
def State.flushFailed (s : State) (f : Flush) (a : Nat) : State :=
  let s := s.lthMod (fun l => match l.waiting with
    | some w => if w.copy = f.copy then { l with waiting := some { w with pages := 2 ^ w.ret - 1 } }
                else { l with rewrite := l.rewrite ||| 2 ^ f.copy }
    | none => { l with rewrite := l.rewrite ||| 2 ^ f.copy })
  (s.putBit Reg.LTH_RET f.copy false).lthLog 0x1A3 f.copy a s.turnLo

/-- The header of a flush is written last, into its copy and into page 0 of the working copy (R304, R305). -/
def State.flushWritten (s : State) (f : Flush) : State :=
  let h := s.retHeader f
  let s := s.mwr (retAddr f.copy) h
  let s := (List.range 256).foldl (fun (u : State) w => u.wr (lthDmem f.half (retBase + 4 * w)) (leWord (h.drop (4 * w)))) s
  let s := if f.half = s.lthHalf then s.pairDirty 960 else s
  (s.putBit Reg.LTH_RET f.copy true).put Reg.LTH_RET 3 3 f.copy

/-- RETAINED_FLUSH_DONE: the header is written last, or an MRAM write has failed at an address; a flush that waits begins (R305, R306). -/
def State.flushDone (s : State) (failed : Option Nat) : State :=
  match s.lathe.flush with
  | some f =>
    let s := match failed with
      | some a => s.flushFailed f a
      | none => s.flushWritten f
    let s := (s.put Reg.LTH_RET 23 16 0).putBit Reg.LTH_RET 2 false
    match s.lathe.waiting with
    | some w => s.flushBegin w
    | none => s.lthMod (fun l => { l with flush := none })
  | none => s

def execRetainedFlushDone (fail : Option (BitVec 26)) (s : State) : Host.Outcome State Fault Refusal :=
  .next (s.flushDone (fail.map (·.toNat)))

/-! ### Switch and revert (R313, R314) -/

/-- One byte of DMEM of a half. -/
def State.lthByte (s : State) (half a : Nat) : Nat := (s.rd (lthDmem half (a / 4 * 4))).toNat / 256 ^ (a % 4) % 256

def State.putLthByte (s : State) (half a v : Nat) : State :=
  let k := lthDmem half (a / 4 * 4)
  s.wr k (putField (s.rd k) (8 * (a % 4) + 7) (8 * (a % 4)) v)

/-- Carry one matched entry from a half to the other (R313). -/
def State.carryOne (s : State) (src dst : Nat) (x y : Carry) : State :=
  if x.kind = 1 then (List.range y.len).foldl (fun u i => u.putLthByte dst (y.loc + i) (u.lthByte src (x.loc + i))) s
  else if x.kind = 2 then
    (List.range y.len).foldl (fun u i =>
      let t := u.ltmr src (x.loc + i)
      let c := u.ltmrCfg dst (y.loc + i)
      u.setLtmr dst (y.loc + i) (LTmr.restore c.mode c.pOn (t.shown (u.ltmrCfg src (x.loc + i)).mode) t.inp t.out)) s
  else (List.range y.len).foldl (fun u i => u.setLedge dst (y.loc + i) { u.ledge src (x.loc + i) with fresh := false }) s

/-- The other half becomes active: matched entries are carried over, a new P holds from the next turn (R313). -/
def State.halfSwitch (s : State) (a b : LImage) : State :=
  let src := s.lthHalf
  let dst := 1 - src
  let s := (matched a b).foldl (fun u m => u.carryOne src dst m.1 m.2) s
  let s := (s.put Reg.LTH_STAT 25 25 dst).put Reg.LTH_RET 15 8 b.pages
  let s := s.pairMod (fun p => { p with rck := (p.rck + 1) % 256 })
  s.lthMod (fun l => { l with flushAll := 2, dirty := 0, dirtyPrev := 0, pdirty := l.pdirty ||| (2 ^ 1037 - 1) })

/-- SWITCH (R313): the new image's claims take effect; the old image's others stay with LTH until the window closes (R46). -/
def State.lthSwitch (s : State) : State :=
  match s.lthImg s.lthHalf, s.lthImg (1 - s.lthHalf) with
  | some a, some b =>
    let ms := matched a b
    let s := s.halfSwitch a b
    let s := (s.takeClaims 0x02 (b.claims.filter (fun x => decide (s.owner x = 0)))).fioDrive
    let s := s.lthMod (fun l => { l with
      oldClaims := a.claims.filter (fun x => !b.claims.contains x), swTurn := l.turn, flags := l.flags ||| lfSWITCHED })
    let s := ((s.putBit Reg.LTH_RCK 3 false).putBit Reg.LTH_RCK 1 false).putBit Reg.LTH_RCK 2 true
    let s := s.put Reg.LTH_RCK 31 22 1000
    s.lthLog 0x1A5 0 b.ver (ms.length * 65536 + (a.carry.length - ms.length))
  | _, _ => s

/-- REVERT at a commit (R314): the old image is active again with its claims; the others end. -/
def State.lthRevertApply (s : State) : State :=
  match s.lthImg s.lthHalf, s.lthImg (1 - s.lthHalf) with
  | some a, some b =>
    let turns := s.lathe.turn - s.lathe.swTurn
    let s := s.halfSwitch a b
    let s := (s.endClaims 2 (a.claims.filter (fun x => !b.claims.contains x))).fioDrive
    let s := (s.setLthImg (1 - s.lthHalf) none).lthMod (fun l => { l with oldClaims := [], flags := l.flags ||| lfREVERTED })
    let s := ((s.putBit Reg.LTH_RCK 2 false).putBit Reg.LTH_RCK 4 false).put Reg.LTH_RCK 31 22 0
    s.lthLog 0x1A6 0 b.ver turns
  | _, _ => s

/-- Whether an armed switch happens at the commit of this turn (R312): with an index, when the next turn would start, P ticks
after this one, at or after the tick that the ARM named. -/
def State.switchNow (s : State) (p : Nat) : Bool :=
  s.bit Reg.LTH_RCK 3 &&
    (match s.lathe.armIdx with
      | none => true
      | some k => decide (k ≤ tickAbs s.lathe.startSec s.lathe.startIdx + p))

/-! ### Pages of the pair's Lathe set (R534, R538) -/

/-- The 1 024 bytes of a page of the active half: DMEM, timers (as retained ones are kept), edge memories (memory bits, then INIT
marks), output image. -/
def State.pageBytes (s : State) (p : Nat) : Bytes :=
  let h := s.lthHalf
  if p < 1024 then (List.range 256).flatMap (fun w => leBytes (s.rd (lthDmem h (1024 * p + 4 * w))))
  else if p < 1032 then
    (List.range 128).flatMap (fun k =>
      let n := (p - 1024) * 128 + k
      ((s.ltmr h n).pack (s.ltmrCfg h n).mode).flatMap leBytes)
  else if p = 1032 then
    (List.range 512).map (fun b => BitVec.ofNat 8 (packBits 8 (fun i => (s.ledge h (8 * b + i)).m))) ++
      (List.range 512).map (fun b => BitVec.ofNat 8 (packBits 8 (fun i => (s.ledge h (8 * b + i)).fresh)))
  else (List.range 256).flatMap (fun w => leBytes (s.rd (lthOut ((p - 1033) * 256 + w))))

/-- A page as received is put into the active half; one of the retained partition becomes dirty (R305). -/
def State.putPage (s : State) (p : Nat) (b : Bytes) : State :=
  let h := s.lthHalf
  let wd (w : Nat) : Word := leWord (b.drop (4 * w))
  if p < 1024 then
    let s := if p < 960 then s else s.lthMod (fun l => { l with dirty := l.dirty ||| 2 ^ (p - 960) })
    (List.range 256).foldl (fun (t : State) w => t.wr (lthDmem h (1024 * p + 4 * w)) (wd w)) s
  else if p < 1032 then
    (List.range 128).foldl (fun (t : State) k =>
      let n := (p - 1024) * 128 + k
      let c := t.ltmrCfg h n
      t.setLtmr h n (LTmr.restore c.mode c.pOn ((wd (2 * k)).toNat + 4294967296 * field (wd (2 * k + 1)) 15 0)
        (bitAt (wd (2 * k + 1)) 16) (bitAt (wd (2 * k + 1)) 17))) s
  else if p = 1032 then
    (List.range 4096).foldl (fun (t : State) n =>
      t.setLedge h n { m := (b.getD (n / 8) 0).getLsbD (n % 8), fresh := (b.getD (512 + n / 8) 0).getLsbD (n % 8) }) s
  else (List.range 256).foldl (fun (t : State) w => t.wr (lthOut ((p - 1033) * 256 + w)) (wd w)) s

/-- The bit set of all pages. -/
def allPages : Nat := 2 ^ 1037 - 1

/-- The pages dirty after this turn are queued for the partner; with pages still queued the two sets merge (R538). -/
def State.pairQueue (s : State) : State :=
  let p := s.pair
  if s.lathe.pdirty = 0 then s
  else
    let all := decide (s.lathe.pdirty = allPages)
    (s.pairMod (fun p => { p with
        txq := p.txq ||| s.lathe.pdirty, txTurn := s.lathe.turn, txFull := p.txFull || all })).lthMod (fun l => { l with pdirty := 0 })

/-- A complete set is applied at the commit phase, with the turn number and the turn alignment (R538). -/
def State.pairSetApply (s : State) : State :=
  let p := s.pair
  if !p.setDone then s
  else
    let s := (List.range 1037).foldl (fun (t : State) k => match SMap.get (fun _ => none) p.set k with
      | some b => t.putPage k b
      | none => t) s
    let wait := if p.setP = 0 then 0 else p.setP - (s.tick.idx + 4800 - p.setStart) % 4800 % p.setP
    let s := s.lthMod (fun l => { l with
      turn := l.turn / 4294967296 * 4294967296 + p.setTurn, nextRun := s.tick.runs + wait, flushAll := if p.setFull then 2 else l.flushAll })
    s.pairMod (fun q => { q with set := [], setDone := false, appTurn := p.setTurn, full := p.full || p.setFull, setFull := false })

/-- What the commit of a turn does for the pair. -/
def State.pairCommit (s : State) : State :=
  if !s.paired then s else if s.heart then s.pairQueue else (s.pairSetApply).lthMod (fun l => { l with pdirty := 0 })

/-! ### Commit and overrun (R293, R296) -/

/-- The CAN transmit map entries whose queue bit is 1 are queued in map order, with their data words (R293, R479), as long as the
object is the Lathe's own (R44). -/
def State.lthQueue (s : State) (t : LthTables) : State :=
  t.tx.zipIdx.foldl (fun u p =>
    let m := p.1
    if !(u.bit (lthOut (3 + p.2 / 32)) (p.2 % 32)) ∨ u.owner (0x6000 + 128 * m.ctl + m.obj) ≠ 0x02 then u
    else
      let n := (dlcBytes (u.bit (canObj m.ctl m.obj 0) 28) (u.fld (canObj m.ctl m.obj 0) 3 0) + 3) / 4
      let u := (List.range (min n 16)).foldl (fun v w => v.objData m.ctl m.obj (8 + w) (v.rd (lthOut (256 + 16 * p.2 + w)))) u
      u.canQueue m.ctl m.obj) s

/-- The commit of a completed turn. -/
def State.turnCommit (s : State) (i : LImage) : State :=
  let c := 2400 + (s.core 18).endCyc
  let s := (s.wr Reg.LTH_CYC_LAST (w32 c)).wr Reg.LTH_CYC_MAX (w32 (max (s.rd Reg.LTH_CYC_MAX).toNat c))
  let s := s.put Reg.LTH_STAT 27 26 0
  let s := s.lthMod (fun l => { l with phase := .past })
  let s := (List.range 248).foldl (fun u w => u.wr (lthOutKey (8 + w)) (u.rd (lthOut (8 + w)))) s
  let s := s.put Reg.LTH_STAT 15 0 (s.fld Reg.LTH_STAT 15 0 + 1)
  let s := s.lthDrive ((List.range 3).map (fun w => s.rd (lthOut w)))
  let s := s.lthQueue i.tables
  let s := if s.bit Reg.LTH_RCK 4 then s.lthRevertApply else if s.switchNow i.turnP then s.lthSwitch else s
  let s := match s.lthImg s.lthHalf with
    | some j => s.flushStart j
    | none => s
  s.pairCommit

/-- An overrun (R296, R297). -/
def State.turnOverrun (s : State) : State :=
  let n := s.fld Reg.LTH_STAT 27 26 + 1
  let pc := (s.core 18).pc
  let s := s.coreMod 18 (fun k => { k with run := .idle })
  let s := (s.count Reg.LTH_OVR_CNT 31 0 1).putBit Reg.LTH_STAT 22 true
  let s := s.put Reg.LTH_STAT 27 26 n
  let s := s.lthLog 0x1A0 n s.turnLo (s.rd Reg.LTH_CYC_LAST).toNat
  let s := s.wr Reg.LTH_CYC_LAST 0xFFFFFFFF
  let s := s.lthMod (fun l => { l with phase := .past, skip := true })
  if 3 ≤ n then s.lthHalt 1 0 pc else s

/-- TURN_DEADLINE: the commit point of the turn (R293, R296). A skipped turn has nothing to commit. -/
def State.turnDeadline (s : State) : State :=
  match s.lathe.phase, s.lthImg s.lthHalf with
  | .program, some i => if (s.core 18).run = .ended then s.flushLate.turnCommit i else s.flushLate.turnOverrun
  | .latched, some _ => s.flushLate.turnOverrun
  | .skipped, _ => s.flushLate.lthMod (fun l => { l with phase := .past })
  | _, _ => s

def execTurnDeadline (s : State) : Host.Outcome State Fault Refusal := .next s.turnDeadline

/-! ### Rechuck commands (R311, R312, R314) -/

/-- LOAD_VALIDATE: the inactive half takes the image; its previous content and any revert are lost. -/
def State.lthLoad (s : State) : State :=
  if s.bit Reg.LTH_RCK 0 || s.bit Reg.LTH_RCK 3 then s.lthCmdErr
  else
    let env := s.fld Reg.LTH_IMG_ADDR 22 6 * 64
    let half := 1 - s.lthHalf
    let s := s.revertClose 3
    let s := (s.wipeKeys (lthImem half 0) (lthImem half 131072)).wipeKeys (lthDmem half 0) (lthDmem half 0x100000)
    let (p, _) := s.lthParts env
    let s := s.wrWords (lthImem half 0) (s.mws (min p.codeWords 131072) p.codeAt)
    let s := ((s.dsecsOf p).filter (fun x => decide (x.off + x.len ≤ 0x100000))).foldl (fun u x => u.wrWords (lthDmem half x.off) x.data) s
    let s := (s.setLthImg half none).lthMod (fun l => { l with
      loading := true, loadBase := env,
      timers := SMap.drop (fun k => decide (k / 4096 = half)) l.timers, edges := SMap.drop (fun k => decide (k / 4096 = half)) l.edges })
    ((s.putBit Reg.LTH_RCK 0 true).putBit Reg.LTH_RCK 1 false)

def execLthLoadValidate (s : State) : Host.Outcome State Fault Refusal := .next s.lthLoad

/-- The validation of the program at `env` ends with verdict `v` (R311); a colliding claim raises interrupt 58 as well (R41). -/
def State.lthValEnd (s : State) (env : Nat) (v : Option (Nat × Nat)) : State :=
  let i := s.lthImage env
  let s := (s.lthMod (fun l => { l with loading := false })).putBit Reg.LTH_RCK 0 false
  match v with
  | some (r, d) =>
    let s := when (decide (r = 0x0F) && resValid d) (fun t => t.irq 58) s
    ((s.wr Reg.LTH_VAL (w32 (r * 0x1000000 + d))).putBit Reg.LTH_RCK 5 true).lthLog 0x1A4 r d (s.mN (env + payloadOff + 8))
  | none => ((s.wr Reg.LTH_VAL 0).setLthImg (1 - s.lthHalf) (some i)).putBit Reg.LTH_RCK 1 true

/-- The running validation ends (R311). -/
def State.lthValidated (s : State) : State :=
  if !s.lathe.loading then s else s.lthValEnd s.lathe.loadBase (s.lthVerdict s.lathe.loadBase)

def execLthValidationDone (s : State) : Host.Outcome State Fault Refusal := .next s.lthValidated

/-- ARM (R312); under ALIGN = Second the new period must divide 4 800 (R289). -/
def State.lthArm (s : State) : State :=
  match s.lthImg (1 - s.lthHalf) with
  | some i =>
    if !s.bit Reg.LTH_RCK 1 || !s.lthRunning || s.bit Reg.LTH_RCK 4 ||
        (decide (s.fld Reg.LTH_CFG 31 30 = 1) && decide (4800 % i.turnP ≠ 0)) then s.lthCmdErr
    else
      let s := s.revertClose 4
      let at_ := s.rd Reg.LTH_SW_AT
      (s.lthMod (fun l => { l with armIdx := if bitAt at_ 31 then some (s.tickNo + (field at_ 12 0 + 4800 - s.tick.idx) % 4800) else none })).putBit Reg.LTH_RCK 3 true
  | none => s.lthCmdErr

def execLthArm (s : State) : Host.Outcome State Fault Refusal := .next s.lthArm

/-- DISARM (R312). -/
def execLthDisarm (s : State) : Host.Outcome State Fault Refusal := .next (s.armCancel 1)

/-- REVERT (R314). -/
def State.lthRevert (s : State) : State :=
  if s.bit Reg.LTH_RCK 2 && decide (s.fld Reg.LTH_RCK 31 22 ≠ 0) && s.lthRunning then s.putBit Reg.LTH_RCK 4 true else s.lthCmdErr

def execLthRevert (s : State) : Host.Outcome State Fault Refusal := .next s.lthRevert

/-! ### Starts (R315, R316) -/

/-- The copy a warm start of an image would use: valid, of the image's digest and size, the higher sequence. -/
def State.warmCopy (s : State) (i : LImage) : Option Nat :=
  let ok (c : Nat) : Bool := s.retValid c && decide (s.mbs 16 (retAddr c + 0x10) = i.digest) && decide (s.mN (retAddr c + 4) = i.pages)
  if ok 0 then (if ok 1 && decide (s.retSeq 0 < s.retSeq 1) then some 1 else some 0)
  else if ok 1 then some 1 else none

/-- The largest sequence of a valid copy, of any image. -/
def State.seqBase (s : State) : Nat := max (if s.retValid 0 then s.retSeq 0 else 0) (if s.retValid 1 then s.retSeq 1 else 0)

/-- The active half's memory at a start: the image's sections, and for a warm start the retained pages and timers of a
copy (R316). -/
def State.startMemory (s : State) (i : LImage) (warm : Option Nat) : State :=
  let h := s.lthHalf
  let s := s.wipeKeys (lthDmem h 0) (lthDmem h 0x100000)
  let s := i.secs.foldl (fun u x => u.wrWords (lthDmem h x.1) x.2) s
  let s := s.lthMod (fun l => { l with
    timers := SMap.drop (fun k => decide (k / 4096 = h)) l.timers, edges := SMap.drop (fun k => decide (k / 4096 = h)) l.edges })
  match warm with
  | none => s
  | some c =>
    let s := s.wrWords (lthDmem h retBase) (s.mws (256 * i.pages) (retAddr c))
    (retained i).zipIdx.foldl (fun u p =>
      let a := retBase + 1024 + 8 * p.2
      let lo := (u.rd (lthDmem h a)).toNat
      let hi := u.rd (lthDmem h (a + 4))
      let cfg := u.ltmrCfg h p.1
      u.setLtmr h p.1 (LTmr.restore cfg.mode cfg.pOn (lo + 4294967296 * field hi 15 0) (bitAt hi 16) (bitAt hi 17))) s

/-- A start of the Lathe, warm from a copy or cold. -/
def State.lthStartAs (s : State) (i : LImage) (warm : Option Nat) : State :=
  let s0 := s.seqBase
  let seq := match warm with
    | some c => s.retSeq c
    | none => 0
  let va := s.retValid 0
  let vb := s.retValid 1
  let s := s.startMemory i warm
  let kind := if warm.isSome then 1 else 2
  let s := s.lthMod (fun l => { l with
    phase := .none, ran := false, nextRun := s.tick.runs + 1, turn := 0, skip := false,
    flags := lfFIRST ||| (if warm.isSome then lfWARM else lfCOLD), lastLatch := none, dirty := 0, dirtyPrev := 0, flushAll := 2,
    rewrite := 0, seq0 := s0, flush := none, waiting := none, quality := [],
    owed := [], alignAt := none, failAt := [], startAt := s.tb.cnt + 1, tmrSt := [], pdirty := 2 ^ 1037 - 1 })
  let s := (List.range 128).foldl (fun u e => u.putBit (gseKey e 6) 0 false) s
  let s := ((s.put Reg.LTH_STAT 31 30 1).put Reg.LTH_STAT 29 28 kind).put Reg.LTH_STAT 27 26 0
  let s := ((s.wr Reg.LTH_RET (w32 (i.pages * 256))).putBit Reg.LTH_RET 0 va).putBit Reg.LTH_RET 1 vb
  let s := (s.wr Reg.LTH_TURN_LO 0).lthDrive [0, 0, 0]
  s.lthLog 0x1A2 kind i.ver seq

/-- A pending validated image is activated ahead of a start (R315): the halves change and the claims move. -/
def State.activatePending (s : State) : State :=
  let half := s.lthHalf
  let new := s.lthImg (1 - half)
  let s := s.moveClaims 0x02 ((new.map (·.claims)).getD [])
  let s := (s.setLthImg half none).lthMod (fun l => { l with oldClaims := [] })
  let s := (s.put Reg.LTH_STAT 25 25 (1 - half)).putBit Reg.LTH_RCK 1 false
  (s.putBit Reg.LTH_RCK 2 false).putBit Reg.LTH_RCK 4 false

/-- LTH_CTRL.START (R315). -/
def State.lthStart (s : State) : State :=
  if s.lthRunning then s
  else
    let pend := s.bit Reg.LTH_RCK 1
    match s.lthImg (if pend then 1 - s.lthHalf else s.lthHalf) with
    | none => s.lthCmdErr
    | some i =>
      if s.fld Reg.LTH_CFG 31 30 = 1 ∧ 4800 % i.turnP ≠ 0 then s.lthCmdErr
      else if pend then (s.activatePending).lthStartAs i none
      else
        let mode := s.fld Reg.LTH_CTRL 31 30
        match s.warmCopy i with
        | some c => s.lthStartAs i (if mode = 2 then none else some c)
        | none =>
          if mode = 1 then (s.putBit Reg.LTH_STAT 24 true).lthLog 0x1A2 0 i.ver 0 else s.lthStartAs i none

def execLthStart (s : State) : Host.Outcome State Fault Refusal := .next s.lthStart

/-! ### Metering and configuration (R317 to R319) -/

/-- METER_SNAPSHOT: at the deadline the interval awaits, pulse counts and exchange slots are taken. -/
def State.meterSnapshot (s : State) : State :=
  match s.meter.req with
  | none => s
  | some (sec, _, epoch, last) =>
    if s.tickNo < last then s
    else
      let mask := s.fld Reg.METER_CFG 15 0
      let stale := packBits 16 (fun c => mask.testBit c && ((s.elem c).xcur.absent || decide ((s.elem c).xcur.posted ≠ s.tick.runs)))
      let seq := (s.fld Reg.METER_STAT 15 0 + 1) % 65536
      let s := s.put Reg.METER_STAT 15 0 seq
      let slots := (List.range 16).flatMap (fun c => (List.range 4).map (fun i =>
        if mask.testBit c then (s.elem c).xcur.words.getD (12 + i) 0 else 0))
      let ws := [w32 seq, w32 sec, w32 (epoch * 0x1000000), w32 stale] ++ (List.range 48).map (fun k => s.rd (Reg.FIO_PSNAP k)) ++ slots
      let s := s.meterMod (fun _ => { req := none, words := ws, ready := true })
      s.lthLog 0x1AB epoch seq stale

def execMeterSnapshot (s : State) : Host.Outcome State Fault Refusal := .next s.meterSnapshot

/-- A write of LTH_CFG or METER_CFG: discarded when it names an alarm LTH does not own (R319); an alarm is named by LTH_CFG with
ALIGN = Alarm, and by every METER_CFG. -/
def State.lthCfgWrite (s : State) (a : Nat) (names : Bool) (v : Word) : State :=
  if names && decide (s.owner (0x2000 + field v 27 24) ≠ 0x02) then s.lthCmdErr.irq 30 else s.regWrite a v

def execLthCfgWrite (v : Word) (s : State) : Host.Outcome State Fault Refusal :=
  .next (s.lthCfgWrite Reg.LTH_CFG (decide (field v 31 30 = 2)) v)

def execMeterCfgWrite (v : Word) (s : State) : Host.Outcome State Fault Refusal :=
  .next (s.lthCfgWrite Reg.METER_CFG true v)

/-- A read of LTH_TURN_LO latches the upper word (R563). -/
def State.turnRead (s : State) (r : Req) : State :=
  (s.latch r Reg.LTH_TURN_HI (w32 (s.lathe.turn / 4294967296))).answer r (w32 s.lathe.turn)

def execLthTurnLoRead (req : Req) (s : State) : Host.Outcome State Fault Refusal :=
  s.access req (fun s => s.turnRead req)

end Sys2Proof.Machine
end

