-- ==== Sys2Proof/Machine/Pair.lean ====
section
/-!
DEFINITION. Paired operation (chapter 16): pair links and their frames, heartbeat, roles and handovers, the state copy, and swap
drills.
-/
namespace Sys2Proof.Machine
open Sys2Proof


/-- A record of the chapter with interrupt 43 (R546). -/
def State.pairLog (s : State) (code sparam p0 p1 : Nat) : State := (s.irq 43).log code sparam p0 p1

/-- A refused command or a lapsed handover (R528, R543). -/
def State.pairCmdErr (s : State) (op idx : Nat) : State :=
  (s.putBit Reg.PAIR_FLAG 7 true).pairLog 0x207 op (s.rd Reg.PAIR_STAT).toNat idx

def State.plinkReg (l : Nat) : Nat := Reg.PAIR_LNK_A + 4 * l
def State.plinkUp (s : State) (l : Nat) : Bool := s.bit (State.plinkReg l) 31
def State.anyPlink (s : State) : Bool := s.plinkUp 0 || s.plinkUp 1
/-- A pair whose links have power: they lie in PD_NET (R520). -/
def State.pairNet (s : State) : Bool := s.paired && s.netOn
def State.timeOk (s : State) : Bool := s.bit Reg.PAIR_STAT 23
def State.partnerAlive (s : State) : Bool := s.bit Reg.PAIR_STAT 27
def State.roleIn (s : State) : Bool := s.bit Reg.PAIR_STAT 26
def State.linksLost (s : State) : Bool := s.bit Reg.PAIR_STAT 22
def State.pairSync (s : State) : Bool := s.bit Reg.PAIR_STAT 28

/-- LINKS_LOST: both links are down while the partner is alive (R522). -/
def State.pairLost (s : State) : State := s.putBit Reg.PAIR_STAT 22 (s.partnerAlive && !s.anyPlink)

/-- The partner is alive at its first heartbeat (R525). -/
def State.pairBeat (s : State) : State := (s.putBit Reg.PAIR_STAT 27 true).pairLost

/-- Whether this package acts as the preferred unit (R530). -/
def State.prefNow (s : State) : Bool :=
  if s.bit Reg.PAIR_STAT 20 then
    decide ((s.rd Reg.SYS_DEVID).toNat < ((s.pair.hb.map (·.dev)).getD 0))
  else s.bit Reg.PAIR_CFG 30

/-- The last HB frame's role is SAPWOOD with SYNC. -/
def State.partnerReady (s : State) : Bool := s.pair.hb.any (fun h => decide (h.role = 1) && h.sync)

/-- A full Lathe copy is queued (R539). -/
def State.pairFullCopy (s : State) : State :=
  s.pairMod (fun p => { p with txq := allPages, txFull := true, txTurn := s.lathe.turn })

/-! ### SYNC (R539) -/

/-- SYNC follows its conditions; each change is recorded, a fall also raises interrupt 43. -/
def State.syncShow (s : State) : State :=
  let now := s.paired && decide (s.role = 1) && s.pair.full && s.pair.applied && s.timeOk && decide (s.rd Reg.PAIR_NOSYNC = 0)
  if now = s.pairSync then s
  else
    let s := s.putBit Reg.PAIR_STAT 28 now
    let s := s.pairMod (fun p => { p with syncAt := if now then some s.tb.cnt else none })
    let lag := s.fld Reg.PAIR_STAT 15 8
    if now then s.log 0x204 1 (s.rd Reg.PAIR_NOSYNC).toNat lag
    else (s.putBit Reg.PAIR_FLAG 3 true).pairLog 0x204 0 (s.rd Reg.PAIR_NOSYNC).toNat lag

/-! ### Links (R521, R522) -/

/-- The state of a link changes (R522). -/
def State.plinkChange (s : State) (l : Nat) (up : Bool) : State :=
  let d := SMap.get (fun _ => 0) s.pair.discs l
  let both := !s.anyPlink
  let s := (s.putBit (State.plinkReg l) 31 up).putBit Reg.PAIR_FLAG l true
  let s := (s.irq 42).log 0x201 l (b2n up) d
  let s := s.pairMod (fun p => { p with discs := SMap.set (fun _ => 0) p.discs l 0 })
  let s := if up && both then s.pairFullCopy else s
  s.pairLost

/-- A frame arrives on a link: whether it is valid, with its CRC check and sequence number (R521). -/
def State.plinkTake (s : State) (l : Nat) (crcOk : Bool) (seq : Nat) : State × Bool :=
  let exp := SMap.get (fun _ => none) s.pair.seqRx l
  let good := crcOk && exp.all (fun e => decide (e = seq))
  let next := if crcOk then some ((seq + 1) % 65536) else exp.map (fun e => (e + 1) % 65536)
  let s := s.pairMod (fun p => { p with seqRx := SMap.set (fun _ => none) p.seqRx l next })
  if good then (if s.plinkUp l then s else s.plinkChange l true, true)
  else
    let s := if crcOk then s.count (State.plinkReg l) 15 8 1 else s.count (State.plinkReg l) 7 0 1
    (s.pairMod (fun p => { p with discs := SMap.set (fun _ => 0) p.discs l (SMap.get (fun _ => 0) p.discs l + 1) }), false)

/-- PLINK_DOWN: no valid frame for 50 µs. -/
def execPlinkDown (l : Fin 2) (s : State) : Host.Outcome State Fault Refusal :=
  .next (if s.paired && s.plinkUp l.val then s.plinkChange l.val false else s)

/-! ### HB frames (R521, R523, R528 to R530) -/

/-- PREF_CONFLICT follows what both packages show (R530). -/
def State.prefCheck (s : State) (h : PairHb) : State :=
  let bad := h.pref == s.bit Reg.PAIR_CFG 30
  if bad && !s.bit Reg.PAIR_STAT 20 then
    (s.putBit Reg.PAIR_STAT 20 true).pairLog 0x206 (b2n h.pref) (s.rd Reg.SYS_DEVID).toNat h.dev
  else s.putBit Reg.PAIR_STAT 20 bad

/-- PAIR_STAT.HANDOVER: a handover is agreed. -/
def State.handShow (s : State) : State := s.putBit Reg.PAIR_STAT 17 s.pair.hand.isSome

/-- The cause of R526 for what a SWAP is for. -/
def swapCause (kind : Nat) : Nat := if kind = 2 then 7 else if kind = 3 then 8 else 4

/-- What an HB frame asks or acknowledges (R528, R529). -/
def State.pairAsk (s : State) (h : PairHb) : State :=
  if h.req = 3 then
    match s.pair.req with
    | some q =>
      if q.idx = h.reqIdx ∧ !q.acked then
        (s.pairMod (fun p => { p with
          req := some { q with acked := true }, hand := some (q.idx, if q.req = 1 then 5 else swapCause q.kind) })).handShow
      else s
    | none => s
  else
    let grant := s.anyPlink && s.timeOk && s.pair.hand.isNone &&
      ((decide (h.req = 1) && decide (s.role = 2) && !s.bit Reg.PAIR_CTRL 0 && s.partnerReady) ||
       (decide (h.req = 2) && decide (s.role = 1) && s.pairSync))
    if grant then
      (s.pairMod (fun p => { p with
        ackTx := some h.reqIdx, hand := some (h.reqIdx, if h.req = 1 then 5 else swapCause h.kind),
        drillIn := decide (h.req = 2) && decide (h.kind = 0) })).handShow
    else s

/-- The own time less the send time of an HB frame, in ns; the frame carries seconds [31:0]. -/
def State.hbAge (s : State) (h : PairHb) : Int :=
  sext 32 ((s.tb.sec + (4294967296 - h.sentSec % 4294967296)) % 4294967296) * 1000000000 + ((s.tb.ns : Int) - h.sentNs)

/-- PAIR_TOFFS, PAIR_TDLY and TIME_OK (R523): an offset beyond 32 bits shows its limit (log entry 112). -/
def State.hbTime (s : State) (h : PairHb) (tdly : Nat) : State :=
  let off := (tdly : Int) - s.hbAge h
  let s := (s.wr Reg.PAIR_TOFFS (wInt (clampInt (-2147483648) 2147483647 off))).put Reg.PAIR_TDLY 15 0 tdly
  s.putBit Reg.PAIR_STAT 23 (decide (off.natAbs ≤ 1000))

/-- An HB frame of this tick or of a later one is kept for its decision point; this tick's shows the partner alive (R525). -/
def State.hbBeat (s : State) (h : PairHb) : State :=
  let t := tickAbs h.sec h.idx
  let mark := (t, h.role == 2)
  let s := s.pairMod (fun p => { p with
    hb := some h, hbTicks := if t < s.tickNo then p.hbTicks else mark :: p.hbTicks.filter (fun x => x != mark) })
  when (decide (t = s.tickNo)) (fun u => u.pairBeat) s

/-- A valid HB frame: the partner's state, offset and delay, requests. It arrives when the own time stands its delay less the partner's
offset `toffs` after the send time; the offset shown is computed from the two times (R523, log entry 112). -/
def State.hbTake (s : State) (h : PairHb) (toffs : Int) (tdly : Nat) : State :=
  let was := s.pair.hb.map (·.role)
  let rck := s.pair.hb.map (·.rck)
  let s := s.reachTime (inNs (s.tb.sec, s.tb.ns) + ((tdly : Int) - toffs - s.hbAge h).toNat)
  let s := (s.hbBeat h).hbTime h tdly
  let s := (s.put Reg.PAIR_STAT 2 0 h.role).putBit Reg.PAIR_STAT 16 h.holdup
  let s := s.prefCheck h
  let s := if (h.role = 1 ∧ (was = some 0 ∨ was = some 3 ∨ was = none)) ∨ rck.any (fun n => decide (n ≠ h.rck)) then s.pairFullCopy else s
  (s.pairAsk h).syncShow

/-- PAIR_HB_FRAME on a link. -/
def execPairHbFrame (l : Fin 2) (crcOk : Bool) (seq : BitVec 16) (h : PairHb) (toffs : BitVec 32) (tdly : BitVec 16) (s : State) :
    Host.Outcome State Fault Refusal :=
  .next (if !s.pairNet then s
    else
      let r := s.plinkTake l.val crcOk seq.toNat
      if r.2 then r.1.hbTake h toffs.toInt tdly.toNat else r.1)

/-- PAIR_HB_PIN_TOGGLE (R525). -/
def execPairHbPinToggle (s : State) : Host.Outcome State Fault Refusal :=
  .next (if s.paired then (s.pairMod (fun p => { p with toggled := true })).pairBeat else s)

/-! ### TL frames (R521, R536, R537) -/

/-- Seconds and nanoseconds of an elapsed count on the present time scale. -/
def State.cntTime (s : State) (c : Nat) : Nat × Nat := splitNs (inNs (s.tb.sec, s.tb.ns) - (s.tb.cnt - c) * 4)

/-- The elapsed count of a time of the present time scale. -/
def State.timeCnt (s : State) (sec ns : Nat) : Nat := s.tb.cnt - (inNs (s.tb.sec, s.tb.ns) - inNs (sec, ns)) / 4

/-- Line n takes a carried state (R536, R537); a stopped line stays stopped. -/
def State.lineTake (s : State) (e : PairTl) : State :=
  if s.tlState e.n = 0 ∨ e.st = 0 then s
  else
    let s := ((s.setTl e.n e.st).put (Reg.TL_STAT e.n) 28 27 e.bf).put (Reg.TL_STAT e.n) 12 0 e.cnt
    s.setLine e.n { s.line e.n with
      grantAt := if e.st = 3 then s.timeCnt e.sec e.ns else (s.line e.n).grantAt, cause := e.cause }

/-- A line as a TL frame or the STATE frame carries it. -/
def State.lineEntry (s : State) (n : Nat) : PairTl :=
  let t := s.cntTime (s.line n).grantAt
  { n := n, st := s.tlState n, bf := s.bfState n, cnt := s.fld (Reg.TL_STAT n) 12 0, cause := (s.line n).cause, sec := t.1, ns := t.2 }

/-- Whether line n is a pair-signal line. -/
def State.tlPair (s : State) (n : Nat) : Bool := s.bit (Reg.TL_DST1 n) 31

/-- A valid TL frame: PAIR_RTL, and in the sapwood the lines with PAIR = 1 (R537). -/
def State.tlTake (s : State) (es : List PairTl) : State :=
  let en := packBits 64 (fun n => es.any (fun e => decide (e.n = n) && decide (e.st = 3)))
  let s := (s.wr Reg.PAIR_RTL_LO (w32 en)).wr Reg.PAIR_RTL_HI (w32 (en / 4294967296))
  if s.role = 1 then (es.foldl (fun t e => if e.n < 64 && t.tlPair e.n then t.lineTake e else t) s).tlDrive else s

/-- PAIR_TL_FRAME on a link. -/
def execPairTlFrame (l : Fin 2) (crcOk : Bool) (seq : BitVec 16) (es : List PairTl) (s : State) : Host.Outcome State Fault Refusal :=
  .next (if !s.pairNet then s
    else
      let r := s.plinkTake l.val crcOk seq.toNat
      if r.2 then r.1.tlTake es else r.1)

/-- PAIR_TL_FRAME_TIMEOUT: the lines keep the state they hold and go on under their own evaluation, which never ceased (R537). -/
def execPairTlFrameTimeout (s : State) : Host.Outcome State Fault Refusal :=
  .next (if s.paired && decide (s.role = 1) then s.tlStep else s)

/-- A frame leaves on both links: the sequence numbers advance. -/
def State.pairSent (s : State) : State :=
  s.pairMod (fun p => { p with seqTx := [0, 1].foldl (fun m l => SMap.set (fun _ => 0) m l ((SMap.get (fun _ => 0) m l + 1) % 65536)) p.seqTx })

/-- PAIR_TL_FRAME_SEND: the heartwood sends its pair-signal lines (R521). -/
def State.tlSend (s : State) : State :=
  if !s.pairNet ∨ s.role ≠ 2 then s
  else
    let es := ((List.range 64).filter (fun n => s.tlPair n)).map (fun n => s.lineEntry n)
    (s.pairMod (fun p => { p with tlTx := es })).pairSent

def execPairTlFrameSend (s : State) : Host.Outcome State Fault Refusal := .next s.tlSend

/-! ### STATE frames (R533 to R536, R538) -/

/-- Clusters with sections: those with an active image. -/
def State.clMask (s : State) : Nat := packBits 16 (fun c => (s.elem c).active.isSome)

/-- Bytes of the copy regions of a cluster, and of all clusters. -/
def State.copyLen (s : State) (c : Nat) : Nat := (((s.elem c).active.map (·.copies)).getD []).foldl (fun n x => n + x.2) 0
def State.copyTotal (s : State) : Nat := (List.range 16).foldl (fun n c => n + s.copyLen c) 0

/-- Lathe pages per frame (R535). -/
def State.pairShare (s : State) : Nat := (49152 - 13560 - s.copyTotal) / 1028

/-- The section of cluster c (R534). -/
def State.clSection (s : State) (c : Nat) : Bytes :=
  match (s.elem c).active with
  | none => []
  | some i =>
    let words (n : Nat) (f : Nat → Word) : Bytes := (List.range n).flatMap (fun k => leBytes (f k))
    leBytes (w32 i.ver) ++ leBytes (w32 i.layout) ++ words 32 (fun n => s.rd (Reg.CRV_INT c n)) ++
      words 32 (fun n => w32 (SMap.get (fun _ => 0) (s.elem c).crvCnt n)) ++ words 64 (fun n => s.rd (Reg.CMP_ST c n)) ++
      words 64 (fun n => s.rd (Reg.TMR_ST c n)) ++
      i.copies.flatMap (fun x => words (x.2 / 4) (fun k => s.rd (dmemKey c (x.1 + 4 * k))))

/-- The pages the next STATE frame carries, ascending. -/
def State.txPages (s : State) : List Nat := (idxWhere 1037 (fun k => s.pair.txq.testBit k)).take s.pairShare

/-- The STATE frame of the running tick (R534). -/
def State.stateFrame (s : State) (seq : Nat) : Bytes :=
  let pages := s.txPages
  let last := decide (s.pair.txq ≠ 0) && decide (pages.length = (idxWhere 1037 (fun k => s.pair.txq.testBit k)).length)
  let img := s.lthImg s.lthHalf
  let w (n : Nat) : Bytes := leBytes (w32 n)
  let tick := s.tick
  let body (len : Nat) : Bytes :=
    w 0x53544154 ++ w seq ++ w tick.sec ++ w (tick.sec / 4294967296 % 65536 * 65536 + tick.idx) ++ w len ++ w s.clMask ++ w 0 ++
    w (((img.map (·.turnP)).getD 0) * 65536 + s.lathe.startIdx) ++
    (List.range 64).flatMap (fun n =>
      let e := s.lineEntry n
      w (e.st * 536870912 + e.bf * 134217728 + e.cause * 16777216 + e.cnt) ++ w e.sec ++ w e.ns ++ w 0) ++
    (List.range 8).flatMap (fun g => leBytes (s.rd (Reg.GPUB_ST g)) ++ leBytes (s.rd (Reg.GPUB_SQ g))) ++
    (List.range 16).flatMap (fun c => s.clSection c) ++
    w ((img.map (·.ver)).getD 0) ++ w s.pair.txTurn ++ w (b2n last * 2147483648 + b2n s.pair.txFull * 1073741824 + pages.length) ++ w 0 ++
    pages.flatMap (fun p => w p ++ s.pageBytes p)
  let total := (body 0).length + 8
  body total ++ w (crc32 (body total)) ++ w 0x454E4421

/-- What PAIR_SHARE shows in a pair (R535). -/
def State.shareShown (s : State) : Word := if s.paired then w32 ((13560 + s.copyTotal) * 65536 + s.pairShare) else 0

/-- The heartwood sends the STATE frame of the tick (R533, R538); the pages it carries leave the queue. More than 16 turns behind, it starts a
full copy, unless one is under way (R539). -/
def State.stateSend (s : State) : State :=
  let s := if 16 + s.pair.txSent < s.lathe.turn ∧ !s.pair.txFull then s.pairFullCopy else s
  let pages := s.txPages
  let f := s.stateFrame s.pair.stNo
  let left := pages.foldl (fun q p => if q.testBit p then q - 2 ^ p else q) s.pair.txq
  let s := s.pairMod (fun p => { p with
    stTx := f, stNo := (p.stNo + 1) % 4294967296, txq := left, txFull := p.txFull && decide (left ≠ 0),
    txSent := if left = 0 then p.txTurn else p.txSent })
  s.pairSent

/-- PAIR_STATE_FRAME on a link: it waits for the deadline; the first complete one of a tick is used (R533). -/
def State.stateTake (s : State) (l : Nat) (crcOk : Bool) (seq : Nat) (f : PairState) : State :=
  let (s, good) := s.plinkTake l crcOk seq
  let b := f.bytes
  let end_ := decide (leWord (b.drop (b.length - 4)) = 0x454E4421)
  let crc := decide (leWord (b.drop (b.length - 8)) = w32 (crc32 (b.take (b.length - 8))))
  let reason := if !end_ then 1 else if !good || !crc then 2 else 0
  s.pairMod (fun p => { p with rx := match p.rx with
    | some (g, 0) => some (g, 0)
    | _ => some (f, reason) })

def execPairStateFrame (l : Fin 2) (crcOk : Bool) (seq : BitVec 16) (f : PairState) (s : State) : Host.Outcome State Fault Refusal :=
  .next (if s.pairNet then s.stateTake l.val crcOk seq.toNat f else s)

/-- A timer's word as carried becomes its state. -/
def State.tmrTake (s : State) (c n : Nat) (w : Word) : State :=
  let cfg := s.eff (Reg.TMR_CFG c n)
  let mode := field cfg 31 30
  let cnt := field w 23 0
  let off := decide (mode = 1) || (decide (mode ≠ 0) && !bitAt w 30 && bitAt w 31)
  (s.wr (Reg.TMR_ST c n) w).elemMod c (fun e => { e with
    tmrOn := SMap.set (fun _ => 0) e.tmrOn n (if off then (if mode = 1 then 0 else field cfg 23 0) else cnt),
    tmrOff := SMap.set (fun _ => 0) e.tmrOff n (if off then cnt else 0) })

/-- Apply the section of cluster c at the head of the bytes; a cluster with another image keeps its state (R536). -/
def State.clApply (s : State) (c : Nat) (b : Bytes) : State :=
  let wd (k : Nat) : Word := leWord (b.drop (4 * k))
  match (s.elem c).active with
  | none => s.putBit Reg.PAIR_NOSYNC c true
  | some i =>
    if wd 0 ≠ w32 i.ver ∨ wd 1 ≠ w32 i.layout then s.putBit Reg.PAIR_NOSYNC c true
    else
      let s := s.putBit Reg.PAIR_NOSYNC c false
      let s := (List.range 32).foldl (fun (t : State) n =>
        (t.wr (Reg.CRV_INT c n) (wd (2 + n))).elemMod c (fun e => { e with crvCnt := SMap.set (fun _ => 0) e.crvCnt n (wd (34 + n)).toNat })) s
      let s := (List.range 64).foldl (fun (t : State) n => (t.wr (Reg.CMP_ST c n) (wd (66 + n))).tmrTake c n (wd (130 + n))) s
      (i.copies.foldl (fun (p : State × Nat) x =>
        ((List.range (x.2 / 4)).foldl (fun (t : State) k => t.wrMem c (dmemKey c (x.1 + 4 * k)) (wd (p.2 + k))) p.1, p.2 + x.2 / 4)) (s, 194)).1

/-- LAST ends the set being collected (R538): it is complete unless a STATE frame was lost meanwhile; a full set is complete when it has every
page (log entry 197). An incomplete set is discarded. -/
def State.setLast (s : State) : State :=
  s.pairMod (fun q =>
    if if q.setFull then (List.range 1037).all (fun k => (SMap.get (fun _ => none) q.set k).isSome) else !q.setBad then
      { q with setDone := true, setBad := false }
    else { q with set := [], setDone := false, setBad := false, setFull := false, full := q.full && !q.setFull })

/-- The Lathe part: its pages join the set being collected, and LAST ends it (R538). -/
def State.lathePart (s : State) (p start : Nat) (b : Bytes) : State :=
  let wd (k : Nat) : Word := leWord (b.drop (4 * k))
  let n := field (wd 2) 10 0
  let ver := (wd 0).toNat
  let own := ((s.lthImg s.lthHalf).map (·.ver)).getD 0
  let s := s.pairMod (fun q => { q with hwTurn := (wd 1).toNat })
  if n = 0 then s
  else if ver ≠ own then s.pairMod (fun q => { q with set := [], setDone := false, setFull := false, full := false })
  else
    let s := (List.range n).foldl (fun (t : State) k =>
      let o := 16 + 1028 * k
      t.pairMod (fun q => { q with set := SMap.set (fun _ => none) q.set (leWord (b.drop o)).toNat (some ((b.drop (o + 4)).take 1024)) })) s
    let s := s.pairMod (fun q => { q with
      setTurn := (wd 1).toNat, setVer := ver, setP := p, setStart := start, setFull := q.setFull || bitAt (wd 2) 30 })
    when (bitAt (wd 2) 31) (fun t => t.setLast) s

/-- Word k of a frame. -/
def frameWord (f : Bytes) (k : Nat) : Word := leWord (f.drop (4 * k))

/-- The trip lines of a frame: every line without PAIR (R536). -/
def State.stateLines (s : State) (f : Bytes) : State :=
  (List.range 64).foldl (fun (t : State) n =>
    let w := frameWord f (8 + 4 * n)
    if t.tlPair n then t
    else t.lineTake { n := n, st := field w 31 29, bf := field w 28 27, cnt := field w 12 0, cause := field w 26 24,
                      sec := (frameWord f (9 + 4 * n)).toNat, ns := field (frameWord f (10 + 4 * n)) 29 0 }) s

/-- The GOOSE publisher slots of a frame. -/
def State.stateSlots (s : State) (f : Bytes) : State :=
  (List.range 8).foldl (fun (t : State) g =>
    (t.wr (Reg.GPUB_ST g) (frameWord f (264 + 2 * g))).wr (Reg.GPUB_SQ g) (frameWord f (265 + 2 * g))) s

/-- The section of one cluster, where the mask of word 5 has one; the accumulator holds the state, the section's place and the lengths of the
copy regions to come. -/
def clApplyAt (f : Bytes) (p : State × Nat × List Nat) (c : Nat) : State × Nat × List Nat :=
  if (frameWord f 5).toNat.testBit c then (p.1.clApply c (f.drop p.2.1), p.2.1 + 776 + p.2.2.headD 0, p.2.2.tail) else p

/-- The cluster sections of a frame, and where they end; PAIR_NOSYNC tells of this frame's sections (R536). -/
def State.stateClusters (s : State) (f : PairState) : State × Nat × List Nat :=
  (List.range 16).foldl (clApplyAt f.bytes) (s.wr Reg.PAIR_NOSYNC 0, 1120, f.copies)

/-- The Lathe pages of a frame, from byte `at_`, and the trip drives. -/
def State.statePages (s : State) (f : Bytes) (at_ : Nat) : State :=
  (s.lathePart (field (frameWord f 7) 28 16) (field (frameWord f 7) 12 0) (f.drop at_)).tlDrive

/-- The number of a frame being applied: one that does not follow the last means that a frame was lost. -/
def State.stateNo (s : State) (n : Nat) : State :=
  s.pairMod (fun q => { q with
    rxNo := some n, setBad := q.setBad || q.rxNo.any (fun m => decide ((m + 1) % 4294967296 ≠ n)) })

/-- The pages of a frame, behind its cluster sections. -/
def pagesAfter (b : Bytes) (r : State × Nat × List Nat) : State := r.1.statePages b r.2.1

/-- A frame is applied whole (R536): trip lines without PAIR, GOOSE slots, clusters, Lathe pages; no record, interrupt or count. -/
def State.stateApply (s : State) (f : PairState) : State :=
  pagesAfter f.bytes ((((s.stateNo (frameWord f.bytes 1).toNat).stateLines f.bytes).stateSlots f.bytes).stateClusters f)

/-- A discarded STATE frame (R533). -/
def State.stateDiscard (s : State) (reason idx len : Nat) : State :=
  let s := (s.count Reg.PAIR_CNT 15 0 1).putBit Reg.PAIR_FLAG 2 true
  (s.pairMod (fun p => { p with applied := false })).log 0x203 reason idx len

/-- The sapwood's own deadline: the frame waiting is applied or discarded (R533). -/
def State.stateJudge (s : State) : State :=
  match s.pair.rx with
  | none => s
  | some (f, reason) =>
    let s := s.pairMod (fun p => { p with rx := none })
    let wd (k : Nat) : Word := leWord (f.bytes.drop (4 * k))
    let idx := field (wd 3) 12 0
    let sec := (wd 2).toNat + 4294967296 * field (wd 3) 31 16
    if s.role ≠ 1 then s
    else if reason ≠ 0 then (s.stateDiscard reason idx f.bytes.length).syncShow
    else if tickAbs sec idx + 1 ≠ s.tickNo then (s.stateDiscard 3 idx f.bytes.length).syncShow
    else if !s.timeOk then (s.stateDiscard 4 idx f.bytes.length).syncShow
    else
      let s := (s.stateApply f).count Reg.PAIR_CNT 31 16 1
      let s := s.pairMod (fun p => { p with applied := true })
      let lag := s.pair.hwTurn - s.pair.appTurn
      (s.put Reg.PAIR_STAT 15 8 (satTo 255 lag)).syncShow

/-- The HB frame a package sends at its element deadline (R521). A request stays in it until its handover is over or has lapsed, so that the
partner sees whether it stands (R528, log entry 195). -/
def State.hbOwn (s : State) : PairHb :=
  let out := s.bit Reg.PAIR_STAT 25
  let p := s.pair
  let (req, idx, kind) : Nat × Nat × Nat := match p.ackTx, p.req with
    | some a, _ => (3, a, 0)
    | none, some q => (q.req, q.idx, q.kind)
    | none, none => (0, 0, 0)
  { sec := s.tick.sec, idx := s.tick.idx,
    role := if s.role = 2 ∧ !out ∧ s.bit Reg.PAIR_STAT 24 then 4 else s.role,
    pref := s.bit Reg.PAIR_CFG 30, sync := s.pairSync, svc := s.bit Reg.PAIR_CTRL 0, holdup := p.holdup,
    ready := s.bit Reg.BOOT_STAT 31, req := req, reqIdx := idx, kind := kind, sentSec := s.tb.sec, sentNs := s.tb.ns,
    dev := (s.rd Reg.SYS_DEVID).toNat, rck := p.rck }

/-- A condition of PAIR_CFG.DEMOTE holds (R532). -/
def State.demoted (s : State) : Bool :=
  let m := s.rd Reg.PAIR_CFG
  let late (r : Nat) : Bool := s.late.contains r || !s.regionRuns r
  (bitAt m 0 && (List.range 16).any (fun c => s.bit (Reg.OVR_STAT c) 0)) ||
  (bitAt m 1 && decide (s.lthState = 2)) ||
  (bitAt m 2 && !s.flkUp) ||
  (bitAt m 3 && [0, 1].any (fun d => !s.linkUp d || !s.bit (Reg.AFE_STAT d) 0)) ||
  (bitAt m 4 && (List.range 4).any late) ||
  (bitAt m 5 && decide (2 ≤ s.tq))

/-- Ask the partner for a handover at a tick index (R528). -/
def State.pairRequest (s : State) (req idx kind : Nat) : State :=
  s.pairMod (fun p => { p with req := some { req := req, idx := idx % 4800, kind := kind, acked := false } })

/-- Whether a heartwood may ask for a handover: a link is up, TIME_OK, and none is asked for or agreed (R528). -/
def State.mayAsk (s : State) : Bool := s.anyPlink && s.timeOk && s.pair.hand.isNone && s.pair.req.isNone

/-- What a heartwood asks for at its own deadline, two ticks ahead, so that the HB frame of this tick carries it (R528): a demotion, the
handover of a hold-up, or the return of the role after a failed drill, which it asks for until it comes (R532, R544, log entry 116). -/
def State.deadlineAsk (s : State) : State :=
  let kind := s.pair.ask.getD 2
  let s := when (s.role == 2 && s.mayAsk && s.partnerReady && (s.pair.ask.isSome || s.demoted))
    (fun t => t.pairRequest 2 (t.tick.idx + 2) kind) s
  s.pairMod (fun p => { p with ask := if p.ask = some 3 ∧ p.req.isNone then some 3 else none })

/-- What the package's own element deadline does for the pair: the sapwood applies or discards, both send HB and toggle
PAIR_HB_OUT, the heartwood sends its state; nothing leaves on the links while PD_NET is off (R520, R521, R533). -/
def State.pairDeadline (s : State) : State :=
  if !s.paired then s
  else
    let s := s.pairMod (fun p => { p with hbRuns := true, hbOut := !p.hbOut })
    let s := s.stateJudge.deadlineAsk
    if !s.netOn then s
    else
      let s := (s.pairMod (fun p => { p with hbTx := some s.hbOwn, ackTx := none })).pairSent
      if s.role = 2 then s.stateSend else s

/-! ### Roles (R524 to R532) -/

/-- PAIR_ROLE_OUT and OUT_EN as a role gives them, and only while the package's own heartbeat runs (R526); the outputs follow. -/
def State.roleDrive (s : State) (want : Bool) : State :=
  let on := want && s.pair.hbRuns
  ((((s.putBit Reg.PAIR_STAT 25 on).putBit Reg.PAIR_STAT 24 on).fioRole).tlDrive)

/-- A change of role (R526): flag, interrupt 43, record; the output functions follow. `later` leaves the outputs to
HANDOVER_ASSERT. The checks of a drill are the heartwood's and end with its role (R543). -/
def State.roleChange (s : State) (r cause : Nat) (later : Bool) : State :=
  let was := s.role
  let s := s.put Reg.PAIR_STAT 31 29 r
  let s := (s.putBit Reg.PAIR_FLAG 4 true).wr Reg.PAIR_LAST (w32 (cause * 268435456 + r * 16777216 + s.tick.idx))
  let s := s.pairLog 0x200 r cause s.tick.idx
  let s := s.pairMod (fun p => { p with
    full := decide (r = 1) && (decide (was = 2) || (p.full && decide (was = 1))), applied := false, set := [], setDone := false, setBad := false, rxNo := none,
    assertDue := later })
  let s := if r = 2 then s else (s.pairMod (fun p => { p with drill := none, ask := none })).putBit Reg.PAIR_STAT 18 false
  let s := s.roleDrive (decide (r = 2) && !later)
  let s := s.canRole
  (if r = 2 then s.gooseTakeover else s).syncShow

/-- HANDOVER_ASSERT: 2 µs after its decision point of tick s the new heartwood drives (R528). -/
def execHandoverAssert (s : State) : Host.Outcome State Fault Refusal :=
  .next (if s.paired && s.pair.assertDue then (s.pairMod (fun p => { p with assertDue := false })).roleDrive true else s)

/-- ROLE_FAULT follows its two cases (R526); a rise is reported. -/
def State.roleFault (s : State) (lost against : Bool) : State :=
  let now := lost || against
  if now && !s.bit Reg.PAIR_STAT 21 then
    (s.putBit Reg.PAIR_STAT 21 true).pairLog 0x202 0 (b2n lost + 2 * b2n against) s.tick.idx
  else s.putBit Reg.PAIR_STAT 21 now

/-- The links-lost rule applies (R531). -/
def State.lostRule (s : State) : Bool := s.linksLost && !s.bit Reg.PAIR_STAT 16

/-- A handover that was asked for lapses at the decision point of the tick before it without its ACK (R528). -/
def State.handLapse (s : State) : State :=
  match s.pair.req with
  | some q =>
    if !q.acked && decide ((s.tick.idx + 1) % 4800 = q.idx) then
      (s.pairMod (fun p => { p with
        req := none, syncAt := if q.req = 1 then some s.tb.cnt else p.syncAt, drillMine := false,
        ask := if q.kind = 3 ∧ q.req = 2 then some 3 else p.ask })).pairCmdErr 0x0F q.idx
    else s
  | none => s

/-- Whether the partner's HB frame of this tick still carries the request that this package has acknowledged (R528, log entry 195). -/
def State.handStands (s : State) (idx : Nat) : Bool :=
  s.pair.hb.any (fun h => decide (tickAbs h.sec h.idx = s.tickNo) && (decide (h.req = 1) || decide (h.req = 2)) && decide (h.reqIdx = idx))

/-- The agreed handover falls at this tick: its cause. One that was granted here takes place only while the request stands. -/
def State.handNow (s : State) : Option Nat := match s.pair.hand with
  | some (i, c) => if i = s.tick.idx ∧ (s.pair.req.isSome ∨ s.handStands i) then some c else none
  | none => none

/-- A handover granted here lapses at its tick when the request no longer stands: the ACK did not reach the partner (R528). -/
def State.handDrop (s : State) : State := match s.pair.hand with
  | some (i, _) =>
    if i = s.tick.idx ∧ s.handNow.isNone then
      (s.pairMod (fun p => { p with hand := none, drillIn := false })).handShow.pairCmdErr 0x0F i
    else s
  | none => s

/-- The handover is over. -/
def State.handDone (s : State) : State := (s.pairMod (fun p => { p with hand := none, req := none })).handShow

/-- Rows 2 to 7 of R526 for a sapwood. `beat` says that an HB frame of this tick shows HEARTWOOD. -/
def State.decideSapwood (s : State) (beat first : Bool) : State :=
  let p := s.pair
  let idle := !s.roleIn && !beat
  match s.handNow with
  | some c =>
    let s := (s.roleChange 2 c true).handDone
    let d : Drill := { tick := s.tickNo, start := s.tb.cnt, ok := s.field_.ok, low := none }
    if p.drillIn then (s.pairMod (fun p => { p with drillIn := false, drill := some d })).putBit Reg.PAIR_STAT 18 true else s
  | none =>
    let waited := p.zeroAt.any (fun t => decide (t + s.fld Reg.PAIR_CFG 23 16 * 250000000 ≤ s.tb.cnt))
    if p.fell && idle then s.roleChange 2 3 false
    else if !s.partnerAlive && idle then s.roleChange 2 2 false
    else if first && s.prefNow && idle then s.roleChange 2 1 false
    else if !s.prefNow && idle && waited then s.roleChange 2 1 false
    else if s.lostRule && !s.prefNow then s.roleChange 3 6 false
    else s

/-- Rows 8 and 9. -/
def State.decideIsolated (s : State) : State :=
  if s.pair.fell then s.roleChange 2 3 false
  else if !s.partnerAlive && !s.roleIn then s.roleChange 2 2 false
  else if s.anyPlink then s.roleChange 1 0 false
  else s

/-- Rows 10 and 11, and the demotion of R532 without a link. A heartwood whose outputs fell drives them again once its heartbeat runs, and never against a
partner that drives (R50; log entry 155). -/
def State.decideHeartwood (s : State) : State :=
  match s.handNow with
  | some c => (s.roleChange 1 c false).handDone
  | none =>
    if s.lostRule && !s.prefNow then s.roleChange 3 6 false
    else if s.roleIn && s.bit Reg.PAIR_STAT 25 && s.pair.hand.isNone && !s.prefNow then s.roleChange 1 9 false
    else
      let s := if s.bit Reg.PAIR_STAT 25 || s.pair.assertDue || s.roleIn then s else s.roleDrive true
      if s.demoted && s.partnerReady && !s.anyPlink then s.roleChange (if s.lostRule && !s.prefNow then 3 else 1) 7 false else s

/-- PAIR_DECISION_POINT (R525, R526): heartbeats are judged, then the transitions, row 1 before the others. -/
def State.pairDecide (s : State) (roleIn : Bool) : State :=
  if !s.paired then s
  else
    let fell := s.roleIn && !roleIn
    let s := s.putBit Reg.PAIR_STAT 26 roleIn
    let here := s.pair.hbTicks.any (fun t => decide (t.1 = s.tickNo))
    let beat := s.pair.hbTicks.contains (s.tickNo, true)
    let s := s.pairMod (fun p => { p with
      hbTicks := p.hbTicks.filter (fun t => decide (s.tickNo < t.1)), fell := (p.fell || fell) && !roleIn, missed := if here || p.toggled then 0 else satTo 2 (p.missed + 1), toggled := false })
    let wasAlive := s.partnerAlive
    let s := (s.putBit Reg.PAIR_STAT 27 (decide (s.pair.missed < 2))).pairLost
    let lostNow := !s.partnerAlive && (wasAlive || s.bit Reg.PAIR_STAT 21)
    let s := if s.role = 1 then s.roleFault (lostNow && roleIn) (!roleIn && beat) else s
    let s := s.handLapse.handDrop
    let ready := s.bit Reg.BOOT_STAT 31
    let first := ready && s.pair.readyAt.isNone
    let s := s.pairMod (fun p => { p with
      readyAt := if first then some s.tb.cnt else p.readyAt,
      zeroAt := if roleIn || !ready then none else if p.zeroAt.isSome then p.zeroAt else some s.tb.cnt })
    let s := if s.role = 0 ∧ ready then s.roleChange 1 0 false else s
    let s := if s.role = 1 then s.decideSapwood beat first
      else if s.role = 3 then s.decideIsolated
      else if s.role = 2 then s.decideHeartwood else s
    s.pairMod (fun p => { p with fell := false })

def execPairDecisionPoint (roleIn : Bool) (s : State) : Host.Outcome State Fault Refusal := .next (s.pairDecide roleIn)

/-- START_WAIT_EXPIRY: the decision point at which PAIR_ROLE_IN has read 0 for START_WAIT since PROTECTION_READY (R526 row 6). -/
def State.startWait (s : State) (roleIn : Bool) : State :=
  match s.pair.zeroAt with
  | none => s
  | some t => (s.reachCnt (t + s.fld Reg.PAIR_CFG 23 16 * 250000000)).pairDecide roleIn

def execStartWaitExpiry (roleIn : Bool) (s : State) : Host.Outcome State Fault Refusal := .next (s.startWait roleIn)

/-- PAIR_ROLE_IN_FALL: seen at once with interrupt 43, acted on at the next decision point (R526). -/
def execPairRoleInFall (s : State) : Host.Outcome State Fault Refusal :=
  .next (if s.paired && s.roleIn then ((s.putBit Reg.PAIR_STAT 26 false).pairMod (fun p => { p with fell := true })).irq 43 else s)

/-- PAIR_ROLE_OUT falls with the outputs, at a missed own deadline, a reset of PD_SYS, a watchdog reset or loss of the main PLL. -/
def State.roleOutFall (s : State) : State :=
  if s.paired then (s.pairMod (fun p => { p with hbRuns := false })).roleDrive false else s

/-- MISSED_OWN_DEADLINE (R526). -/
def execMissedOwnDeadline (s : State) : Host.Outcome State Fault Refusal := .next s.roleOutFall

/-! ### Commands (R528, R529, R539, R543) -/

/-- A heartwood's SWAP_DRILL (OP 1) or RELEASE (OP 2) with the register's value (R528, R543): the HB frame that carries the request leaves at
least two ticks ahead. -/
def State.pairSwap (s : State) (op kind : Nat) (v : Word) : State :=
  let idx := if bitAt v 13 then field v 12 0 else (s.tick.idx + 4) % 4800
  let ahead := (idx + 4800 - s.tick.idx) % 4800
  let left := s.pair.hbTx.any (fun h => decide (tickAbs h.sec h.idx = s.tickNo))
  let ok := decide (s.role = 2) && s.partnerReady && s.mayAsk && !s.bit Reg.PAIR_STAT 18 && decide (idx < 4800) &&
    decide (2 + b2n left ≤ ahead)
  if !s.paired then s
  else if ok then (s.pairRequest 2 idx kind).pairMod (fun p => { p with drillMine := decide (kind = 0) }) else s.pairCmdErr op idx

def execPairCmdSwapDrill (v : Word) (s : State) : Host.Outcome State Fault Refusal := .next (s.pairSwap 1 0 v)
def execPairCmdRelease (v : Word) (s : State) : Host.Outcome State Fault Refusal := .next (s.pairSwap 2 1 v)

/-- PAIR_CMD.OP = RESYNC: a full Lathe copy (R539), by the heartwood only; nothing in a single package (R524). -/
def State.pairResync (s : State) : State :=
  if !s.paired then s else if s.role = 2 then s.pairFullCopy else s.pairCmdErr 3 s.tick.idx

def execPairCmdResync (s : State) : Host.Outcome State Fault Refusal := .next s.pairResync

/-- Whether output n gets a proof pulse in a drill: an output with PAIRED = 1 and command 0 (R543). -/
def State.drillPulses (s : State) (n : Nat) : Bool :=
  s.fioIsOut n && s.bit (Reg.FIO_CFG n) 25 && !s.pairBit Reg.FIO_CMD_LO n

/-- What a drill's checks have found (R543): 0xFF for FIELD_OK, the first driven output with FAULT_LOW, or one whose proof pulse did not read
back. `pin` is the level of the FIELD_OK pin as the board returns it, `pulse` the channel of such a pulse (log entry 116). -/
def State.drillFailed (s : State) (d : Drill) (pin : Bool) (pulse : Option (Fin 48)) : Option Nat :=
  if !d.ok ∨ !pin then some 0xFF
  else d.low <|> (pulse.map (·.val)).filter s.drillPulses

/-- DRILL_CHECK_END in the new heartwood (R543, R544). A drill passes only once its DRILL_CHECK ticks are over; a failed check ends it at
once, and the role is asked to be handed back. -/
def State.drillEnd (s : State) (fieldOk : Bool) (fail : Option (Fin 48)) : State :=
  match s.pair.drill with
  | none => s
  | some d =>
    let ended := (s.pairMod (fun p => { p with drill := none })).putBit Reg.PAIR_STAT 18 false
    match s.drillFailed d fieldOk fail with
    | none =>
      if s.tickNo < d.tick + s.fld Reg.PAIR_DRILL 15 0 then s
      else ((ended.wr Reg.PAIR_DRILL_AGE 0).putBit Reg.PAIR_STAT 19 false).pairLog 0x205 1 0 (d.tick % 4800)
    | some n =>
      let s := (ended.putBit Reg.PAIR_FLAG 5 true).pairLog 0x205 2 n (d.tick % 4800)
      s.pairMod (fun p => { p with ask := some 3 })

def execDrillCheckEnd (fieldOk : Bool) (fail : Option (Fin 48)) (s : State) : Host.Outcome State Fault Refusal :=
  .next (s.drillEnd fieldOk fail)

/-- DRILL_DUE: the age has passed DUE days (R544); a single package has no drills (R524). -/
def State.drillDue (s : State) : State :=
  let due := s.fld Reg.PAIR_DRILL 31 16 * 86400
  if !s.paired ∨ s.bit Reg.PAIR_STAT 19 then s
  else
    let s := if (s.rd Reg.PAIR_DRILL_AGE).toNat < due then s.pass ((due - (s.rd Reg.PAIR_DRILL_AGE).toNat) * 250000000) else s
    (s.putBit Reg.PAIR_STAT 19 true).irq 43

def execDrillDue (s : State) : Host.Outcome State Fault Refusal := .next s.drillDue

/-- PREF_DWELL_EXPIRY: a preferred sapwood in COMMISSION asks for the role (R529). -/
def State.prefDwell (s : State) : State :=
  match s.pair.syncAt with
  | some t =>
    if !s.paired ∨ s.role ≠ 1 ∨ !s.pairSync ∨ !s.prefNow ∨ s.bit Reg.PAIR_CTRL 0 ∨ s.pair.req.isSome ∨ s.pair.hand.isSome then s
    else
      let s := s.reachCnt (t + s.fld Reg.PAIR_CFG 15 8 * 25000000)
      (s.pairRequest 1 (s.tick.idx + 4) 0).pairMod (fun p => { p with syncAt := some s.tb.cnt })
  | none => s

def execPrefDwellExpiry (s : State) : Host.Outcome State Fault Refusal := .next s.prefDwell

/-- PAIR_CFG_WRITE: PAIRED is written before PROTECTION_READY only (R545). -/
def State.pairCfgWrite (s : State) (v : Word) : State :=
  let old := s.rd Reg.PAIR_CFG
  let ready := s.bit Reg.BOOT_STAT 31
  let deny := ready && (bitAt v 31 != bitAt old 31)
  let s := s.wr Reg.PAIR_CFG ((old &&& 0x40000000) ||| (v &&& 0x00FFFF3F) ||| (if ready then old &&& 0x80000000 else v &&& 0x80000000))
  if deny then s.putBit Reg.PAIR_FLAG 6 true else (s.fioRole).canRole

def execPairCfgWrite (v : Word) (s : State) : Host.Outcome State Fault Refusal := .next (s.pairCfgWrite v)

end Sys2Proof.Machine
end

