-- ==== Sys2Proof/Machine/Tally.lean ====
section
/-!
DEFINITION. The Tally event recorder (chapter 11): the writer and its media failures, the post ports, the buckets, the
start-up scan, and the authorised clear and key revocation.
-/
namespace Sys2Proof.Machine
open Sys2Proof

/-! ### The writer -/

/-- Indirect address of slot i (R365). -/
def slotAddr (i : Nat) : Nat := 0x1000000 + 32 * i

/-- The slot reserved for LOG_FULL (R365). -/
def lastSlotNo : Nat := 262143

/-- Words W0 to W6 of a record with its sequence number (R366). -/
def recWords (r : TRec) (seq : Nat) : List Word := [
  w32 (r.code * 0x10000 + r.source % 256 * 256 + r.sev % 16 * 16 + r.flags % 16),
  w32 seq,
  w32 r.at_.sec,
  w32 (r.at_.sec / 0x100000000 % 65536 * 65536 + r.at_.epoch % 256 * 256 + r.sparam % 256),
  w32 (r.tq % 4 * 0x40000000 + r.at_.ns % 0x40000000),
  w32 r.p0,
  w32 r.p1]

/-- The 32 bytes of a record: W0 to W6, then the mark and the CRC (R366, R367). -/
def recBytes (r : TRec) (seq : Nat) : Bytes :=
  let b := (recWords r seq).flatMap leBytes
  b ++ leBytes (w32 (0x7A11 * 65536 + crc16 b))

/-- Whether 32 bytes hold a record (R367). -/
def isRecord (b : Bytes) : Bool :=
  let w7 := leWord (b.drop 28)
  decide (field w7 31 16 = 0x7A11) && decide (field w7 15 0 = crc16 (b.take 28))

/-- STATE of TALLY_STAT: 0 SCANNING, 1 RUN, 2 FULL, 3 MEDIA_STOP. -/
def State.tallyState (s : State) : Nat := s.fld Reg.TALLY_STAT 2 0

def State.setTallyState (s : State) (v : Nat) : State := s.put Reg.TALLY_STAT 2 0 v

/-- TALLY_SEQ_NEXT (R372). -/
def State.seqNext (s : State) : Nat := (s.rd Reg.TALLY_SEQ_NEXT).toNat

/-- A sequence number is taken (R372: modulo 2^32). -/
def State.takeSeq (s : State) : State := s.wr Reg.TALLY_SEQ_NEXT (s.rd Reg.TALLY_SEQ_NEXT + 1)

/-- Enter a slot in the bad-slot list: the first 32 are listed, every one is counted, and counted once (R382, R389). -/
def State.badSlot (s : State) (i : Nat) : State :=
  if s.tally.bads.contains i then s
  else
    let n := s.fld Reg.TALLY_BAD_CNT 17 0
    let s := if n < 32 then s.put (Reg.TALLY_BAD n) 17 0 i else s
    (s.count Reg.TALLY_BAD_CNT 17 0 1).talMod (fun t => { t with bads := i :: t.bads })

/-- A record is written into a slot and takes its number, whatever the verify then says (R368, R372). -/
def State.intoSlot (s : State) (i : Nat) (r : TRec) : State := (s.mwr (slotAddr i) (recBytes r s.seqNext)).takeSeq

/-- A slot that failed its verify: its W7 becomes 0, it is listed and counted (R382 step 1). -/
def State.failSlot (s : State) (i : Nat) : State :=
  ((s.mwrW (slotAddr i + 28) 0).badSlot i).count Reg.TALLY_STAT 31 16 1

/-- Write a record into the last-resort buffer, or drop it when the eight entries are taken (R382). -/
def State.lastResort (s : State) (r : TRec) : State :=
  let n := s.fld Reg.TALLY_LR_STAT 3 0
  if n ≥ 8 then s.count Reg.TALLY_DROP 31 0 1
  else
    let b := recBytes r s.seqNext
    let s := (List.range 8).foldl (fun t w => t.wr (Reg.TALLY_LR n w) (leWord (b.drop (4 * w)))) s
    ((s.put Reg.TALLY_LR_STAT 3 0 (n + 1)).putBit Reg.TALLY_STAT 5 true).takeSeq

/-- One of Tally's own records at the present time (R395), not yet queued. -/
def State.ownRec (s : State) (code sparam p0 p1 : Nat) : TRec := s.hwRec code sparam p0 p1 s.now

/-- Put Tally's own records ahead of the queue, each raising interrupt 32 (R395). -/
def State.pushOwn (s : State) (l : List TRec) : State :=
  l.foldl (fun t _ => t.irq 32) (s.talMod (fun t => { t with own := l ++ t.own }))

/-- The slots of bank 2 that are not all zeros, ascending: only listed MRAM bytes differ from 0. -/
def State.usedSlots (s : State) : List Nat :=
  (s.mram.foldl (fun acc e =>
    if 0x1000000 ≤ e.1 ∧ e.1 < 0x1800000 then
      let i := (e.1 - 0x1000000) / 32
      if acc.head? = some i then acc else i :: acc
    else acc) []).reverse

/-- The bytes of a slot. -/
def State.slotBytes (s : State) (i : Nat) : Bytes := s.mbs 32 (slotAddr i)

/-- Records the log holds: the slots below the write pointer that hold one (R367, R387). -/
def State.recordsInLog (s : State) : Nat :=
  (s.usedSlots.filter (fun i => decide (i < s.fld Reg.TALLY_WPTR 18 0) && isRecord (s.slotBytes i))).length

/-- The record the writer takes next: its own first, then the queue's head, then POWER_LOSS (R374). -/
def State.headRec (s : State) : Option TRec :=
  match s.tally.own, s.tally.queue with
  | r :: _, _ => some r
  | [], r :: _ => some r
  | [], [] => s.tally.last

/-- Remove the record the writer has dealt with; with POWER_LOSS the queue closes (R374). -/
def State.popRec (s : State) : State :=
  s.talMod (fun t => match t.own, t.queue with
    | _ :: rest, _ => { t with own := rest }
    | [], _ :: rest => { t with queue := rest, tail := min t.tail rest.length }
    | [], [] => { t with last := none, closed := t.closed || t.last.isSome })

/-- DROPPED, written where TALLY_DROP is not 0; the count returns to 0 (R383, R384, R387, R395). -/
def State.pushDropped (s : State) : State :=
  let n := (s.rd Reg.TALLY_DROP).toNat
  if n = 0 then s else (s.pushOwn [s.ownRec 0x105 0 n 0]).wr Reg.TALLY_DROP 0

/-- The last word of R382: LOG_MEDIA_FAULT has failed its verify in slot i too, goes to the last-resort buffer, and writing stops. -/
def State.mediaStop (s : State) (i : Nat) (f : TRec) : State :=
  ((((s.intoSlot i f).failSlot i).lastResort f).irq 33).setTallyState 3

/-- LOG_FULL goes into the reserved slot (R381); when that slot fails its verify, into the last-resort buffer (R382). -/
def State.writeLogFull (s : State) (verify : Bool) : State :=
  let r := s.ownRec 0x100 0 s.recordsInLog ((s.seqNext + 4294967295) % 4294967296)
  let s := s.irq 32
  if verify then ((s.intoSlot lastSlotNo r).put Reg.TALLY_WPTR 18 0 262144).setTallyState 2
  else s.mediaStop lastSlotNo r

/-- Whether the erase front of a clear, if one runs, has passed slot i (R387). -/
def State.frontPast (s : State) (i : Nat) : Bool :=
  match s.tally.front with
  | none => true
  | some p => decide (i < p)

/-- Whether a record is the LOG_MEDIA_FAULT of a failed record write, whose own failure stops the writing (R382 step 4). -/
def isVerifyFault (r : TRec) : Bool := decide (r.code = 0x103) && decide (r.p1 / 65536 = 1)

/-- The head record into slot i with the outcome of its verify, and of the LOG_MEDIA_FAULT write that follows a failure
(R368, R382). LOG_MEDIA_FAULT waits as the writer's next record where its slot is the reserved one or not yet erased (R381, R387). -/
def State.writeSlot (s : State) (i : Nat) (r : TRec) (verify verifyFault : Bool) : State :=
  if verify then ((s.intoSlot i r).put Reg.TALLY_WPTR 18 0 (i + 1)).popRec
  else if isVerifyFault r then s.popRec.mediaStop i r
  else
    let s := (s.intoSlot i r).failSlot i
    let f := s.ownRec 0x103 0 (slotAddr i) (65536 + r.code)
    let s := s.irq 33
    if i + 1 = lastSlotNo ∨ !s.frontPast (i + 1) then
      (s.put Reg.TALLY_WPTR 18 0 (i + 1)).talMod (fun t => { t with own := f :: t.own })
    else if verifyFault then (s.intoSlot (i + 1) f).put Reg.TALLY_WPTR 18 0 (i + 2)
    else s.mediaStop (i + 1) f

/-- Zero the used slots from a to below b (R384, R387). -/
def State.eraseSlots (s : State) (a b : Nat) : State :=
  (s.usedSlots.filter (fun i => decide (a ≤ i) && decide (i < b))).foldl (fun t i => t.mwr (slotAddr i) (List.replicate 32 0)) s

/-- The erase front of a clear has moved on since it was last looked at, by a free amount, and the slots it passed are zero (R387). -/
def State.frontMove (s : State) : State :=
  match s.tally.front with
  | none => s
  | some p =>
    let q := max p (min 262144 (Config.eraseFront s.freeCtr))
    ((s.eraseSlots p q).talMod (fun t => { t with front := some q })).drew

/-- The writer handles the record at the head of the queue, according to STATE; while the erase front of a clear has not
passed the slot, the record waits (R368, R381, R382, R387). -/
def State.slotWrite (s : State) (verify verifyFault : Bool) : State :=
  match s.headRec with
  | none => s
  | some r =>
    match s.tallyState with
    | 1 =>
      let s := s.frontMove
      let i := s.fld Reg.TALLY_WPTR 18 0
      if !s.frontPast i then s
      else if i = lastSlotNo then s.writeLogFull verify
      else s.writeSlot i r verify verifyFault
    | 2 => (s.count Reg.TALLY_DROP 31 0 1).popRec
    | 3 => (s.lastResort r).popRec
    | _ => s

/-- POWER_LOSS waits for the queue to be written out, and no full queue drops it; its bucket charges it as any record (R374, R378). -/
def State.logLast (s : State) (code sparam p0 p1 : Nat) : State :=
  let r := s.hwRec code sparam p0 p1 s.now
  let wait (t : State) : State := t.talMod (fun x => { x with last := some r })
  match s.bucketOf code with
  | none => wait s
  | some b => if s.fld (Reg.TALLY_BKT_CFG b) 7 0 = 0 then s.suppress b code else wait (s.takeToken b)

/-- Whether Tally has nothing left to write in the hold-up sequence; a scan or an erase that still runs is cut short (R384, R588). -/
def State.tallyOut (s : State) : Bool :=
  (s.headRec.isNone : Bool) || s.tally.scanning || s.tally.front.isSome

/-- TALLY_RAISE: a hardware record is raised (R374, R378). -/
def execTallyRaise (code : BitVec 12) (sparam : Byte) (p0 p1 : Word) (s : State) : Host.Outcome State Fault Refusal :=
  .next (s.log code.toNat sparam.toNat p0.toNat p1.toNat)

/-- TALLY_SLOT_WRITE: the writer's step; verify and verifyFault are the media's answers (R368, R382). -/
def execTallySlotWrite (verify verifyFault : Bool) (s : State) : Host.Outcome State Fault Refusal :=
  .next (s.slotWrite verify verifyFault)

/-! ### Buckets -/

/-- The refill period of bucket b in counter periods of 4 ns (R378). -/
def State.bucketPeriod (s : State) (b : Nat) : Nat := s.fld (Reg.TALLY_BKT_CFG b) 31 16 * 250000

/-- The SUPPRESSED summary of bucket b: record, interrupt, and SUP_b back to 0 (R379). -/
def State.summary (s : State) (b : Nat) : State :=
  let n := (s.rd (Reg.TALLY_BKT_SUP b)).toNat
  if n = 0 then s
  else
    let x := s.bucket b
    let r := s.hwRec 0x101 b n (x.first * 65536 + x.last) s.now
    ((s.enqueue r).irq 32).wr (Reg.TALLY_BKT_SUP b) 0

/-- A token gained after the bucket's period: spent on a summary when records were suppressed, else kept; the period's
count stops when the bucket is full (R378, R379). -/
def State.tokenGain (s : State) (b : Nat) : State :=
  let x := s.bucket b
  match x.since with
  | none => s
  | some t =>
      let s := s.reachCnt (t + s.bucketPeriod b)
      let s := s.setBucket b { x with since := some (t + s.bucketPeriod b) }
      if s.rd (Reg.TALLY_BKT_SUP b) ≠ 0 then s.summary b
      else
        let n := s.fld (Reg.TALLY_BKT_CFG b) 7 0 + 1
        let s := s.put (Reg.TALLY_BKT_CFG b) 7 0 n
        if n ≥ s.fld (Reg.TALLY_BKT_CFG b) 15 8 then s.setBucket b { s.bucket b with since := none } else s

/-- BUCKET_TOKEN_GAIN for bucket b. -/
def execBucketTokenGain (b : Fin 256) (s : State) : Host.Outcome State Fault Refusal := .next (s.tokenGain b.val)

/-- A write of a bucket's range or configuration (R378, R394): a zero PERIOD or BURST discards it whole; otherwise the
bucket is filled and its summary written. -/
def State.bucketWrite (s : State) (b : Nat) (cfg : Bool) (v : Word) : State :=
  if cfg ∧ (field v 31 16 = 0 ∨ field v 15 8 = 0) then (s.putBit Reg.TALLY_STAT 6 true).irq 32
  else
    let s := if cfg then s.wr (Reg.TALLY_BKT_CFG b) v else s.wr (Reg.TALLY_BKT_RNG b) v
    let s := s.put (Reg.TALLY_BKT_CFG b) 7 0 (s.fld (Reg.TALLY_BKT_CFG b) 15 8)
    (s.setBucket b { s.bucket b with since := none }).summary b

/-- TALLY_BUCKET_WRITE. -/
def execTallyBucketWrite (b : Fin 256) (cfg : Bool) (v : Word) (s : State) : Host.Outcome State Fault Refusal :=
  .next (s.bucketWrite b.val cfg v)

/-! ### Posting -/

/-- Whether a code and source may be posted through a port (R375, R376). -/
def postAllowed (port code source : Nat) : Bool :=
  if port = 1 then decide (0x1000 ≤ code) && decide (code ≤ 0x7FFF)
  else (decide (source = 1) && decide (0x1000 ≤ code) && decide (code ≤ 0x7FFF)) ||
    (decide (source = 2) && decide (0x9000 ≤ code))

/-- A refused post or a write of the other requester's port (R376). -/
def State.postErr (s : State) : State := (s.putBit Reg.TALLY_STAT 3 true).irq 32

/-- A write of 1 to TALLY_PGO_s: the port's registers become a record with the time of the write (R373, R376). -/
def State.post (s : State) (r : Req) (port : Nat) : State :=
  if r.isHost ≠ decide (port = 1) then s.postErr
  else
    let h := s.rd (Reg.TALLY_PHDR port)
    let code := field h 31 16
    let source := if port = 1 then 0x04 else field h 15 8
    if !postAllowed port code source then s.postErr
    else s.raiseRec { code := code, source := source, sev := field h 7 4, flags := field h 3 0,
                      sparam := s.fld (Reg.TALLY_PSP port) 7 0, p0 := (s.rd (Reg.TALLY_PP0 port)).toNat,
                      p1 := (s.rd (Reg.TALLY_PP1 port)).toNat, at_ := s.now, tq := s.tq }

/-- TALLY_POST through port 0 (supervisor) or 1 (host). -/
def execTallyPost (r : Req) (port : Fin 2) (s : State) : Host.Outcome State Fault Refusal :=
  s.access r (fun s => s.post r port.val)

/-! ### Media stop and scan -/

/-- The first slot from i on that is not a bad one; n bounds the search. -/
def State.firstGood (s : State) : Nat → Nat → Nat
  | 0, i => i
  | n + 1, i => if s.tally.bads.contains i then s.firstGood n (i + 1) else i

/-- TALLY_CTRL.RESUME in MEDIA_STOP (R383). -/
def State.tallyResume (s : State) : State :=
  if s.tallyState ≠ 3 then s
  else
    let i := s.firstGood s.tally.bads.length (s.fld Reg.TALLY_WPTR 18 0)
    if i > lastSlotNo then s.setTallyState 2
    else
      let s := (s.put Reg.TALLY_WPTR 18 0 i).setTallyState 1
      (s.pushDropped).pushOwn [s.ownRec 0x107 0 i (s.fld Reg.TALLY_LR_STAT 3 0)]

/-- TALLY_RESUME. -/
def execTallyResume (s : State) : Host.Outcome State Fault Refusal := .next s.tallyResume

/-- The sequence number in a record's bytes. -/
def seqOf (b : Bytes) : Nat := (leWord (b.drop 4)).toNat

/-- Whether a is later than b (R372). -/
def seqLater (a b : Nat) : Bool :=
  let d := (a + 4294967296 - b) % 4294967296
  decide (1 ≤ d) && decide (d ≤ 2147483647)

/-- The entry with the latest sequence number among (slot, sequence) pairs. -/
def latest : List (Nat × Nat) → Option (Nat × Nat)
  | [] => none
  | x :: xs => match latest xs with
    | none => some x
    | some y => if seqLater y.2 x.2 then some y else some x

/-- The valid records of the last-resort buffer, as sequence numbers. -/
def State.lrSeqs (s : State) : List (Nat × Nat) :=
  (List.range (s.fld Reg.TALLY_LR_STAT 3 0)).filterMap (fun r =>
    let b := (List.range 8).flatMap (fun w => leBytes (s.rd (Reg.TALLY_LR r w)))
    if isRecord b then some (r, seqOf b) else none)

/-- An accepted CONFIRM of a clear takes effect (R387 steps 1 to 4): LOG_CLEARED lies in slot 0, where the writer's next step verifies it
and gives it its number (R382), DROPPED follows, STATE is RUN, and the erase front starts. -/
def State.clearLog (s : State) (key : Nat) : State :=
  let e := s.recordsInLog
  let l := (s.seqNext + 4294967295) % 4294967296
  let s := (List.range 32).foldl (fun t k => t.wr (Reg.TALLY_BAD k) (w32 0x3FFFF)) s
  let s := (s.wr Reg.TALLY_BAD_CNT 0).talMod (fun t => { t with bads := [] })
  let r := s.ownRec 0x102 key e l
  let s := (s.mwr (slotAddr 0) (recBytes r s.seqNext)).put Reg.TALLY_WPTR 18 0 0
  let s := ((s.setTallyState 1).pushDropped).pushOwn [r]
  s.talMod (fun t => { t with front := some 1 })

/-- An accepted CONFIRM: the log is cleared, after the scan where one runs (R384, R387). -/
def State.clearAccept (s : State) (key : Nat) : State :=
  let s := s.talMod (fun t => { t with denied := 0 })
  if s.tally.scanning then s.talMod (fun t => { t with clrWait := some key }) else s.clearLog key

/-- The start-up scan ends (R384): write pointer, next sequence number, bad slots, erased stale slots, and STATE; LASTRESORT mirrors
the buffer in PD_KEEP (R382). A clear accepted meanwhile follows. -/
def State.scanDone (s : State) : State :=
  if !s.tally.scanning then s
  else
    let used := s.usedSlots
    let valid := used.filter (fun i => isRecord (s.slotBytes i))
    let recs := valid.map (fun i => (i, seqOf (s.slotBytes i)))
    let wptr := match latest recs with
      | some (i, _) => i + 1
      | none => 0
    let next := match latest (recs ++ s.lrSeqs) with
      | some (_, q) => (q + 1) % 4294967296
      | none => 0
    let full := valid.any (fun i => decide (i < wptr) && decide (field (leWord (s.slotBytes i)) 31 16 = 0x100))
    let bad := used.filter (fun i => decide (i < wptr) && !isRecord (s.slotBytes i))
    let s := s.eraseSlots wptr 262144
    let s := bad.foldl (fun t i => t.badSlot i) s
    let s := (s.put Reg.TALLY_WPTR 18 0 wptr).wr Reg.TALLY_SEQ_NEXT (w32 next)
    let s := s.talMod (fun t => { t with scanning := false })
    let s := s.putBit Reg.TALLY_STAT 5 (decide (0 < s.fld Reg.TALLY_LR_STAT 3 0))
    let s := if full then s.setTallyState 2
      else
        let s := s.setTallyState 1
        (s.pushDropped).pushOwn [s.ownRec 0x106 1 wptr bad.length]
    match s.tally.clrWait with
    | some key => (s.talMod (fun t => { t with clrWait := none })).clearLog key
    | none => s

/-- TALLY_SCAN_DONE. -/
def execTallyScanDone (s : State) : Host.Outcome State Fault Refusal := .next s.scanDone

/-- TALLY_LR_STAT.CLR: the last-resort buffer is emptied and LASTRESORT cleared (R382). -/
def State.lrClear (s : State) : State :=
  let s := (List.range 64).foldl (fun t k => t.wr (Reg.TALLY_LR (k / 8) (k % 8)) 0) s
  (s.put Reg.TALLY_LR_STAT 3 0 0).putBit Reg.TALLY_STAT 5 false

/-- TALLY_LR_CLEAR. -/
def execTallyLrClear (s : State) : Host.Outcome State Fault Refusal := .next s.lrClear

/-! ### Clearing and key revocation -/

/-- Whether clear key k is revoked (R385, TALLY_CLR_STAT.REVOKED). -/
def State.keyRevoked (s : State) (k : Nat) : Bool := s.bit Reg.TALLY_CLR_STAT (12 + k)

/-- A command was refused or came from the wrong requester. -/
def State.clrCmdErr (s : State) : State := s.putBit Reg.TALLY_CLR_STAT 3 true

/-- Void the nonce: it reads 0 and no CONFIRM takes it (R386, R391). -/
def State.voidNonce (s : State) : State :=
  let s := s.talMod (fun t => { t with nonce := none })
  let s := (List.range 4).foldl (fun t k => t.wr (Reg.TALLY_NONCE k) 0) s
  s.putBit Reg.TALLY_CLR_STAT 0 false

/-- Whether the lockout of R386 is in force. -/
def State.lockedOut (s : State) : Bool := s.tally.lockEnd.isSome

/-- A refused clear (R386): the nonce is void, DENY is set, interrupt 32, CLEAR_DENIED with its cause. -/
def State.clearDenied (s : State) (r : Req) (key cause : Nat) : State :=
  ((s.voidNonce.putBit Reg.TALLY_CLR_STAT 2 true).irq 32).log 0x104 key cause r.code

/-- A refused CONFIRM: as `clearDenied`, and the third in a row starts the 60 s lockout (R386). -/
def State.confirmDenied (s : State) (r : Req) (key cause : Nat) : State :=
  let s := s.clearDenied r key cause
  let n := s.tally.denied + 1
  if n ≥ 3 then
    (s.put Reg.TALLY_CLR_STAT 31 16 60).talMod (fun t => { t with denied := 0, lockEnd := some (s.tb.cnt + 15000000000) })
  else s.talMod (fun t => { t with denied := n })

/-- REQUEST of a clear or a revocation (R385, R386, R388). -/
def State.clearRequest (s : State) (r : Req) (key : Nat) (revoke : Bool) : State :=
  if s.lockedOut then s.clearDenied r key 4
  else if s.keyRevoked key then s.clearDenied r key 3
  else if s.tally.front.isSome ∨ s.tally.clrWait.isSome then s.clrCmdErr
  else if revoke ∧ ((List.range 4).all (fun k => decide (k = key) || s.keyRevoked k)) then s.clrCmdErr
  else
    let s := (List.range 4).foldl (fun t k => t.wr (Reg.TALLY_NONCE k) (Config.randomWord (t.freeCtr + k))) s
    let s := s.drew.drew.drew.drew.talMod (fun t => { t with
      nonce := some { req := r, key := key, revoke := revoke, expires := s.tb.cnt + 2500000000 } })
    (s.wr Reg.TALLY_CLR_SEQ (s.rd Reg.TALLY_SEQ_NEXT)).putBit Reg.TALLY_CLR_STAT 0 true

/-- TALLY_CLEAR_REQUEST. -/
def execTallyClearRequest (r : Req) (key : Fin 4) (revoke : Bool) (s : State) : Host.Outcome State Fault Refusal :=
  s.access r (fun s => s.clearRequest r key.val revoke)

/-- The response R385 computes: the first 16 bytes of HMAC-SHA-256 over the nonce and S. -/
def State.clearResponse (s : State) (key : Nat) : Bytes :=
  let msg := ((List.range 4).flatMap (fun k => leBytes (s.rd (Reg.TALLY_NONCE k)))) ++ leBytes (s.rd Reg.TALLY_CLR_SEQ)
  (hmacSha256 (Config.clearKey key) msg).take 16

/-- The response written into TALLY_RESP_0 to TALLY_RESP_3; those registers are write-only, so what was written waits
in the holding word of port 0 of the clear unit. -/
def State.givenResponse (s : State) : Bytes :=
  (List.range 4).flatMap (fun k => leBytes (s.held .host (Reg.TALLY_RESP k)))

/-- An accepted CONFIRM of a revocation programs the key's flag (R388). -/
def State.revokeKey (s : State) (r : Req) (key : Nat) : State :=
  let s := s.putBit Reg.TALLY_CLR_STAT (12 + key) true
  let left := ((List.range 4).filter (fun k => !s.keyRevoked k)).length
  let s := s.talMod (fun t => { t with denied := 0 })
  (s.irq 32).log 0x108 key left r.code

/-- CONFIRM (R385 to R388): only the requester of the REQUEST may confirm; a wrong response, an expired nonce or a
revoked key refuses it. -/
def State.clearConfirm (s : State) (r : Req) : State :=
  match s.tally.nonce with
  | none => if s.lockedOut then s.clearDenied r 0 4 else s.clrCmdErr
  | some n =>
    if n.req.isHost ≠ r.isHost then s.clrCmdErr
    else if s.lockedOut then s.clearDenied r n.key 4
    else if n.expires ≤ s.tb.cnt then s.confirmDenied r n.key 2
    else if s.keyRevoked n.key then s.confirmDenied r n.key 3
    else if s.givenResponse ≠ s.clearResponse n.key then s.confirmDenied r n.key 1
    else if n.revoke then (s.voidNonce).revokeKey r n.key
    else (s.voidNonce).clearAccept n.key

/-- TALLY_CLEAR_CONFIRM. -/
def execTallyClearConfirm (r : Req) (s : State) : Host.Outcome State Fault Refusal :=
  s.access r (fun s => s.clearConfirm r)

/-- TALLY_CLEAR_ABORT: the nonce is void, without a record (R386). -/
def execTallyClearAbort (r : Req) (s : State) : Host.Outcome State Fault Refusal :=
  s.access r (fun s => s.voidNonce)

/-- Ten seconds after the REQUEST the nonce is no longer shown or valid; a CONFIRM that still comes is refused with
cause 2 (R385, R386). -/
def State.nonceExpiry (s : State) : State :=
  match s.tally.nonce with
  | none => s
  | some n =>
    ((List.range 4).foldl (fun t k => t.wr (Reg.TALLY_NONCE k) 0) (s.reachCnt n.expires)).putBit Reg.TALLY_CLR_STAT 0 false

/-- TALLY_NONCE_EXPIRY. -/
def execTallyNonceExpiry (s : State) : Host.Outcome State Fault Refusal := .next s.nonceExpiry

/-- The lockout ends 60 s after it began (R386). -/
def State.lockoutEnd (s : State) : State :=
  match s.tally.lockEnd with
  | none => s
  | some t =>
    let s := (s.reachCnt t).put Reg.TALLY_CLR_STAT 31 16 0
    s.talMod (fun t => { t with lockEnd := none })

/-- TALLY_LOCKOUT_END. -/
def execTallyLockoutEnd (s : State) : Host.Outcome State Fault Refusal := .next s.lockoutEnd

/-- The erase front has passed the last slot (R387 steps 5 and 6): the slots it still had to pass are zero, the slots that failed are bad
and each reported, DONE and interrupt 32. -/
def State.eraseDone (s : State) (bad : List Nat) : State :=
  match s.tally.front with
  | none => s
  | some p =>
    let s := s.eraseSlots p 262144
    let s := bad.foldl (fun t i => (t.badSlot i).irq 33) s
    let s := s.talMod (fun t => { t with
      front := none, own := t.own ++ bad.map (fun i => s.ownRec 0x103 0 (slotAddr i) 131072) })
    (s.putBit Reg.TALLY_CLR_STAT 1 true).irq 32

/-- TALLY_ERASE_DONE with the slots that failed their erase. -/
def execTallyEraseDone (bad : List (Fin 262144)) (s : State) : Host.Outcome State Fault Refusal :=
  .next (s.eraseDone (bad.map (·.val)))

end Sys2Proof.Machine
end

