-- ==== Sys2Proof/Machine/Power.lean ====
section
/-!
DEFINITION. Power domains, hold-up, thermal limits, watchdog and resets (chapter 18, R579 to R594); what the boot ROM does after a
release is in Boot.
-/
namespace Sys2Proof

/-- What a reset of PD_SYS leaves of the power state: the reset is held with its kind, straps and OTP stay. -/
def PowerU.afterReset (p : PowerU) (cause now : Nat) (off : Bool) : PowerU :=
  { PowerU.init with
    off := off, cause := cause, resetAt := now, relAt := now, keepLost := p.keepLost, thermal := p.thermal && off, pref := p.pref,
    spi := p.spi, testEn := p.testEn, otpRows := p.otpRows }

end Sys2Proof

namespace Sys2Proof.Machine
open Sys2Proof

def State.pwrMod (s : State) (f : PowerU → PowerU) : State := { s with power := f s.power }
def State.bootMod (s : State) (f : BootU → BootU) : State := s.pwrMod (fun p => { p with boot := f p.boot })

/-- A record of the PMU with its interrupt (R606). -/
def State.pwrLog (s : State) (n code sparam p0 p1 : Nat) : State := (s.irq n).log code sparam p0 p1

/-- The refusal of R582: flag, interrupt 44 and PWR_CMD_ERR with the write's offset and value. -/
def State.pwrErr (s : State) (off : Nat) (v : Word) : State := (s.putBit Reg.PWR_FLAG 0 true).pwrLog 44 0x218 0 off v.toNat

/-- Step of the hold-up sequence, 0 while none runs (PWR_STAT.HOLD_STEP). -/
def State.holdStep (s : State) : Nat := s.fld Reg.PWR_STAT 15 13
def State.holdActive (s : State) : Bool := s.bit Reg.PWR_STAT 12

/-! ### What a reset clears (R580, R592, R593) -/

/-- Whether a key is a register of PD_KEEP. -/
def inKeep (k : Nat) : Bool :=
  match regRow k with
  | some r => decide (r.dom = Dom.keep)
  | none => false

/-- Whether a register survives a reset of PD_SYS: PD_KEEP, PWR_HOLD but at a power-on, and what OTP holds (R605). -/
def survives (powerOn : Bool) (k : Nat) : Bool :=
  if 0x38110 ≤ k ∧ k < 0x38120 then true
  else match regRow k with
    | some r => decide (r.dom = .keep) || (decide (r.dom = .por) && !powerOn)
    | none => false

/-- A reset of PD_SYS with PD_NET, the regions and PD_AFE (R592, R593): everything but MRAM, PD_KEEP, the field die and what OTP holds (the revoked clear keys, R388); LASTRESORT mirrors the buffer in PD_KEEP (R382). What the
requesters have read and the waiting commands are not the device's. The elapsed count goes on inside the model and is shown from
the reset on (R398). -/
def State.sysReset (s : State) (cause : Nat) (powerOn off : Bool) : State :=
  let t : State := { State.reset with
    regs := SMap.drop (fun k => !survives powerOn k) s.regs, mram := s.mram, rsp := s.rsp, field_ := s.field_,
    tb := { TimeBase.init with cnt := s.tb.cnt, rtcSub := s.tb.rtcSub },
    power := s.power.afterReset cause s.tb.cnt off, freeCtr := s.freeCtr, pending := s.pending }
  (t.put Reg.TALLY_CLR_STAT 15 12 (s.fld Reg.TALLY_CLR_STAT 15 12)).putBit Reg.TALLY_STAT 5 (decide (0 < t.fld Reg.TALLY_LR_STAT 3 0))

/-- Whether key k lies in the windows of a cluster of region r. -/
def inRegion (r k : Nat) : Bool :=
  (inCluster k && decide (clusterOf k / 4 = r)) || (inWin k && decide ((k - 0xA4000000) / 0x10000 / 4 = r))

/-- What a reset of its region, or a switch-off, leaves of a cluster's exchange entries. After a reset the readers of the running tick
still see what they saw, and from the next on none; after a switch-off they go on seeing the latest one (R29, R35, R65). -/
def xchAfter (e : ElemU) (runs : Nat) (off : Bool) : ElemU :=
  let seen := if e.xcur.posted < runs then e.xcur else e.xprev
  if off then { ElemU.init with xcur := e.xcur, xprev := e.xprev }
  else if seen = XEntry.none then ElemU.init
  else { ElemU.init with xcur := { XEntry.none with posted := runs }, xprev := seen }

/-- What a reset of its region leaves of the predicates' memory of a sequencer: the flags of the region's clusters stand at 0, which is no
change posted at a deadline (R346). -/
def State.blzForget (s : State) (r i : Nat) : BlzU :=
  let b := s.blzU i
  { b with seen := (List.range 64).foldl (fun m p =>
      let w := s.rd (Reg.BLZ_PRED i p)
      if field w 31 28 = 1 ∧ field w 8 7 = r then SMap.set (fun _ => 0) m p 0 else m) b.seen }

/-- The lanes and FPDs of a region that is reset: of a lane its starts stay, of an FPD how often it has operated (R338, R346). -/
def State.lanesAfter (s : State) (r : Nat) : SMap Lane :=
  (List.range 32).foldl (fun m l => SMap.set (fun _ => Lane.init) m (32 * r + l) { Lane.init with starts := (s.lane (32 * r + l)).starts }) s.lanes
def State.fpdsAfter (s : State) (r : Nat) : SMap FpdU :=
  (List.range 32).foldl (fun m l =>
    let d := s.fpd (32 * r + l)
    SMap.set (fun _ => FpdU.init) m (32 * r + l) { FpdU.init with ops := d.ops, opAt := d.opAt, opEp := d.opEp }) s.fpds

/-- A reset of PD_REG_r, or its switch-off: its clusters' registers, memories, lanes, cores and primitives (R580, R594). The region has no part
in the running tick any more (R68). -/
def State.regionClear (s : State) (r : Nat) (off : Bool) : State :=
  let cl (k : Nat) : Bool := decide (k / 4 = r)
  { s with
    regs := SMap.drop (inRegion r) s.regs, inForce := SMap.drop (inRegion r) s.inForce,
    elems := (List.range 4).foldl (fun m i => SMap.set (fun _ => ElemU.init) m (4 * r + i) (xchAfter (s.elem (4 * r + i)) s.tick.runs off))
      s.elems,
    cores := SMap.drop (fun k => decide (k < 16) && cl k) s.cores, trk := SMap.drop cl s.trk, dets := SMap.drop cl s.dets,
    wbs := SMap.drop cl s.wbs, phase := SMap.drop cl s.phase, clSrc := SMap.drop cl s.clSrc, expect := SMap.drop cl s.expect,
    lanes := s.lanesAfter r, fpds := s.fpdsAfter r,
    blz := (List.range 4).foldl (fun m i => SMap.set (fun _ => BlzU.init) m i (s.blzForget r i)) s.blz, late := s.late.filter (fun x => decide (x ≠ r)),
    tick := { s.tick with regs := s.tick.regs.filter (fun x => decide (x ≠ r)) } }

/-- Region r is held in reset from now on (R594). -/
def State.regionHold (s : State) (r : Nat) : State :=
  (((s.regionClear r false).setHeldRegs (s.heldRegs.filter (fun x => decide (x ≠ r)) ++ [r])).pwrMod (fun p => { p with
    regReq := p.regReq.filter (fun x => decide (x ≠ r)), heldAt := SMap.set (fun _ => 0) p.heldAt r s.tb.cnt })).tlStep

/-- A tick start holds the regions whose reset has been asked for (R594). -/
def State.regionResets (s : State) : State := s.power.regReq.foldl (fun t r => t.regionHold r) s

/-! ### Boot directory (R599) and release (R600) -/

/-- Whether the directory copy at an address is valid. -/
def State.dirOk (s : State) (a : Nat) : Bool :=
  decide (s.mN a = 0x52494442) && decide (s.mN (a + 8) = 20) &&
  decide (s.mN (a + 12) = crc32 (s.mbs 12 a ++ s.mbs 160 (a + 0x10)))

/-- The valid copy with the later SEQ. -/
def State.bootDir (s : State) : Option Nat :=
  match s.dirOk 0, s.dirOk 0x1000 with
  | true, true => if 0 < (s.mN 0x1004 + 4294967296 - s.mN 4) % 4294967296 ∧ (s.mN 0x1004 + 4294967296 - s.mN 4) % 4294967296 < 2147483648
      then some 0x1000 else some 0
  | true, false => some 0
  | false, true => some 0x1000
  | false, false => none

/-- The envelope address of entry e, where it is present. -/
def State.dirEntry (s : State) (e : Nat) : Option Nat :=
  match s.bootDir with
  | some a => if bitAt (s.mw (a + 0x14 + 8 * e)) 0 then some (s.mN (a + 0x10 + 8 * e) % 131072 * 64) else none
  | none => none

/-- Consecutive watchdog resets (PWR_RST). -/
def State.wdtResets (s : State) : Nat := s.fld Reg.PWR_RST 31 24

/-- The entries step 1 still has to load, in its order (R600): SUP or SUP_ALT, CFG, then the LTH and ELM entries present. -/
def State.bootTodo (s : State) : List Nat :=
  let got (e : Nat) : Bool := s.power.boot.loaded.testBit e
  (if got 0 || got 1 then [] else [if s.wdtResets < 3 then 0 else 1]) ++ (if got 2 then [] else [2]) ++
  ((List.range 17).map (· + 3)).filter (fun e => !got e && (s.dirEntry e).isSome)

def State.setStage (s : State) (n : Nat) : State := s.put Reg.BOOT_STAT 28 25 n
def State.stage (s : State) : Nat := s.fld Reg.BOOT_STAT 28 25

/-- PD_SYS leaves reset: PWR_RST takes the kind, RESET_CAUSE is queued, trims load from OTP (R94), PD_NET starts with it (R430, R580), and the boot ROM begins step 1 (R592, R600). -/
def State.release (s : State) : State :=
  let k := s.power.cause
  let s := s.put Reg.PWR_RST 2 0 k
  let s := s.put Reg.PWR_RST 31 24 (if k = 3 then satTo 255 (s.wdtResets + 1) else 0)
  let s := when s.power.keepLost (fun t => t.putBit Reg.PWR_KEEP 16 true) s
  let s := (s.putBit Reg.PAIR_CFG 30 s.power.pref).putBit Reg.HBI_STAT 31 s.power.spi
  let s := s.pwrMod (fun p => { p with cause := 0, relAt := s.tb.cnt, keepLost := false })
  let s := when (s.bit Reg.PWR_STAT 0) State.netUp s
  let s := s.pwrLog 44 0x216 k s.wdtResets (b2n (s.bit Reg.PWR_KEEP 16))
  let s := (List.range 4).foldl (fun t r => t.loadTrims r) s
  (s.bootMod (fun b => { b with todo := s.bootTodo })).setStage 1

/-- PAIR_ROLE_OUT falls, then PD_SYS is reset and held (R592, R593). -/
def State.resetAs (s : State) (cause : Nat) : State := s.roleOutFall.sysReset cause false false

/-! ### Resets -/

/-- The key SYS_RST wants. -/
def rstKey (v : Word) : Bool := decide (field v 31 16 = 0x6B2D)

/-- SYS_RST.SYS = 1 with the key: reset, straps kept, release at once. -/
def State.softReset (s : State) (v : Word) : State := if rstKey v && bitAt v 8 then (s.resetAs 4).release else s

def execSysRstSoftware (v : Word) (s : State) : Host.Outcome State Fault Refusal := .next (s.softReset v)

/-- SYS_RST.REGION with the key: each region named is reset at the next tick start, or at once while no ticks run. -/
def State.regionRst (s : State) (v : Word) : State :=
  if !rstKey v then s
  else
    let rs := idxWhere 4 (fun r => bitAt v r && !s.heldRegs.contains r && !s.bit (Reg.REG_STAT r) 19)
    let s := s.pwrMod (fun p => { p with regReq := p.regReq.filter (fun x => !rs.contains x) ++ rs })
    if s.started then s else s.regionResets

def execSysRstRegion (v : Word) (s : State) : Host.Outcome State Fault Refusal := .next (s.regionRst v)

/-- A write of SYS_RST. -/
def State.sysRstWrite (s : State) (v : Word) : State := if rstKey v && bitAt v 8 then s.softReset v else s.regionRst v

/-- POWER_ON_RESET: the package switched off powers on; after a thermal shutdown the kind is 5, and that start waits for
THERMAL_RESTART. The release waits for RESET_N. -/
def State.powerOn (s : State) (cause : Nat) : State := s.sysReset cause true false

def execPowerOnReset (s : State) : Host.Outcome State Fault Refusal :=
  .next (if s.power.off && !s.power.thermal then s.powerOn 1 else s)

/-- THERMAL_RESTART (R590, R592). -/
def execThermalRestart (s : State) : Host.Outcome State Fault Refusal :=
  .next (if s.power.off && s.power.thermal then s.powerOn 5 else s)

/-- RESET_N_ASSERT: a reset already held keeps its kind; a package without its main PLL is reset too, to restart (R542). -/
def execResetNAssert (s : State) : Host.Outcome State Fault Refusal := .next (if s.sysRuns || s.power.pllLost then s.resetAs 2 else s)

/-- RESET_N_RELEASE: the straps are sampled and the reset of PD_SYS ends. -/
def execResetNRelease (pref : RstPins) (spi : Bool) (s : State) : Host.Outcome State Fault Refusal :=
  .next (if s.power.off || s.power.pllLost || decide (s.power.cause = 0) then s
    else (s.pwrMod (fun p => { p with pref := pref.pref, testEn := pref.testEn, spi := spi })).release)

/-- HBI_ACCESS_READY: 50 µs after the release accesses are served (R551). -/
def execHbiAccessReady (s : State) : Host.Outcome State Fault Refusal :=
  .next (if s.sysRuns && !s.hbiReady then (s.reachCnt (s.power.relAt + 12500)).setReady true else s)

/-- MAIN_PLL_LOSS: PAIR_ROLE_OUT falls within 1 µs (R526), and nothing clocked goes on until the package restarts (R542, R613): the state is
that of a reset held until RESET_N restarts it (log entry 201). -/
def State.pllLoss (s : State) : State :=
  if s.sysRuns then (s.resetAs 1).pwrMod (fun p => { p with pllLost := true }) else s

def execMainPllLoss (s : State) : Host.Outcome State Fault Refusal := .next s.pllLoss

/-- VKEEP_LOSS: while the package is off, the content of PD_KEEP is lost (R581). -/
def execVkeepLoss (s : State) : Host.Outcome State Fault Refusal :=
  .next (if !s.power.off then s
    else ((s.dropRegs inKeep).tbMod (fun t => { t with rtcSub := 0 })).pwrMod (fun p => { p with keepLost := true }))

/-! ### Domains, HALF mode and voltage (R582 to R584) -/

/-- Whether all four cores of a region are stopped. -/
def State.regionStopped (s : State) (r : Nat) : Bool := (List.range 4).all (fun i => s.bit (Reg.CORE_STAT (4 * r + i)) 1)

/-- PWR_DOM_WRITE: a region is switched off only while its cores are stopped; the other bits take effect. -/
def State.domWrite (s : State) (v : Word) : State :=
  let bad := idxWhere 4 (fun r => s.bit Reg.PWR_DOM (1 + r) && !bitAt v (1 + r) && !s.regionStopped r)
  let new := bad.foldl (fun w r => putField w (1 + r) (1 + r) 1) (v &&& 0x7F)
  let old := s.rd Reg.PWR_DOM
  let s := if new = old then s else (s.wr Reg.PWR_DOM new).pwrMod (fun p => { p with domOld := old })
  if bad.isEmpty then s else s.pwrErr 4 v

def execPwrDomWrite (v : Word) (s : State) : Host.Outcome State Fault Refusal := .next (s.domWrite v)

/-- Recorded WCET of an image a cluster holds above the HALF budget: its active one, else the other. -/
def State.halfTooLong (s : State) (c : Nat) : Option Nat :=
  let past (i : Option Image) : Option Nat := match i with
    | some x => if 45000 < x.wcet then some x.wcet else none
    | none => none
  past (s.elem c).active <|> past (s.elem c).other

/-- One region's changed bit of PWR_HALF. -/
def State.halfOne (s : State) (r : Nat) (v : Word) : State :=
  if bitAt v r = s.bit Reg.PWR_HALF r then s
  else if !s.regionStopped r then s.pwrErr 8 v
  else
    match (if bitAt v r then (List.range 4).find? (fun i => (s.halfTooLong (4 * r + i)).isSome) else none) with
    | some i => s.pwrLog 58 0x225 r (4 * r + i) ((s.halfTooLong (4 * r + i)).getD 0)
    | none => s.putBit Reg.PWR_HALF r (bitAt v r)

/-- PWR_HALF_WRITE. -/
def execPwrHalfWrite (v : Word) (s : State) : Host.Outcome State Fault Refusal :=
  .next ((List.range 4).foldl (fun t r => t.halfOne r v) s)

/-- HALF_APPLY: at a tick start the region's clock follows PWR_HALF. -/
def execHalfApply (r : Fin 4) (s : State) : Host.Outcome State Fault Refusal :=
  let h := s.bit Reg.PWR_HALF r.val
  .next (if s.tick.running && (List.range 4).all (fun i => decide (s.clPhase (4 * r.val + i) = .idle)) && s.halfMode r.val != h then
    (s.putBit (Reg.REG_STAT r.val) 18 h).putBit Reg.PWR_STAT (16 + r.val) h else s)

/-- The voltage of a region in mV; before its first step that of VSET's reset value. -/
def State.vnow (s : State) (r : Nat) : Nat := if s.fld (Reg.PWR_AVS r) 25 16 < 720 then 800 else s.fld (Reg.PWR_AVS r) 25 16
def State.avsFixed (s : State) (r : Nat) : Bool := s.bit (Reg.PWR_AVS r) 31

/-- Powered neighbours of a region: those whose number differs by 1. -/
def State.neighbours (s : State) (r : Nat) : List Nat :=
  (idxWhere 4 (fun q => decide (q + 1 = r ∨ r + 1 = q))).filter (fun q => s.bit Reg.PWR_STAT (1 + q))

/-- AVS_STEP: one 5 mV step of a region in AUTO, as its monitors ask (0 none, 1 down, 2 up) within 720 to 880 mV. A powered neighbour
more than 95 mV above turns the step upward, since the lower of two is raised; a step upward that would end more than 100 mV above a
powered neighbour, or downward more than 100 mV below one, is not taken. -/
def State.avsStep (s : State) (r : Nat) (m : Nat) : State :=
  if s.avsFixed r || !s.bit Reg.PWR_STAT (1 + r) then s
  else
    let v := s.vnow r
    let low := (s.neighbours r).any (fun q => decide (v + 95 < s.vnow q))
    let w := if m = 2 ∨ low then v + 5 else if m = 1 then v - 5 else v
    let ok := decide (720 ≤ w ∧ w ≤ 880) &&
      (s.neighbours r).all (fun q => if v < w then decide (w ≤ s.vnow q + 100) else decide (s.vnow q ≤ w + 100))
    s.put (Reg.PWR_AVS r) 25 16 (if ok then w else v)

def execAvsStep (r : Fin 4) (m : Fin 3) (s : State) : Host.Outcome State Fault Refusal := .next (s.avsStep r.val m.val)

/-- A write of PWR_AVS_r (R583, R604). -/
def State.avsWrite (s : State) (r : Nat) (v : Word) : State :=
  let x := field v 9 0
  if bitAt v 31 && (decide (x < 720) || decide (880 < x) || (s.bit Reg.PWR_STAT (1 + r) &&
      (s.neighbours r).any (fun q => decide (s.vnow q + 100 < x ∨ x + 100 < s.vnow q)))) then s.pwrErr (0x10 + 4 * r) v
  else
    let s := (s.put (Reg.PWR_AVS r) 9 0 x).putBit (Reg.PWR_AVS r) 31 (bitAt v 31)
    if bitAt v 31 then s.put (Reg.PWR_AVS r) 25 16 x else s

/-! ### Hold-up (R586 to R589, R610) -/

/-- Close record k of instance i at the last frame written (R340): its unfinished copies are given up. -/
def State.powerCloseRec (s : State) (i : Nat) (r : RecRec) (flags : Nat) : State :=
  let s := s.recUse i (r.wbWait.map (·.2)) 0
  let s := r.wbWait.foldl (fun t p => t.setWbu p.1 WbU.init) s
  s.recCloseIt i { r with
    stop := min r.stop (max (s.rcu i).ord r.start), flags := r.flags ||| flags ||| (if r.wbWait.isEmpty then 0 else 64), wbWait := [] }

/-- The ring of instance i becomes a record with cause 6 (R340). -/
def State.powerKeep (s : State) (i : Nat) (at_ : Nat) : State :=
  let pre := s.rd (Reg.REC_PRE i)
  let post := s.rd (Reg.REC_POST i)
  let t : Int := ((s.rcu i).ord : Int) - 1
  let s := (s.put (Reg.REC_PRE i) 15 0 (s.recSF i)).put (Reg.REC_POST i) 17 0 1
  let s := s.recAccept i { cause := 6, at_ := at_, epoch := s.epoch, state := s.fld (Reg.BLZ_STAT i) 31 28, pred := 0xFF, linear := false } t (t + 1)
  let s := (s.wr (Reg.REC_PRE i) pre).wr (Reg.REC_POST i) post
  (s.rcu i).recs.foldl (fun u r => u.powerCloseRec i r 0) s

/-- What step 3 does to one instance (R340), and how many records it closed. -/
def State.recPowerClose (s : State) (i : Nat) (at_ : Nat) : State × Nat :=
  if !s.recRunning i || s.recScanning i then (s, 0)
  else
    let u := s.rcu i
    if u.cur.isSome || !u.recs.isEmpty then
      let s := s.recEnd i u.ord 0
      ((s.rcu i).recs.foldl (fun t r => t.powerCloseRec i r 130) s, (s.rcu i).recs.length)
    else if s.bit (Reg.REC_CFG i) 31 && u.ring.isSome && decide (0 < u.ord) && decide (0 < (s.recFree i).length) then
      (s.powerKeep i at_, 1)
    else (s, 0)

/-- Time in hold-up in µs. -/
def State.holdUs (s : State) : Nat := satTo 4294967295 ((s.tb.cnt - s.power.holdAt) / 250)

/-- Step 3: the records are closed, then POWER_LOSS waits behind the queue. The Lathe's next turn and later records find HOLD_STEP = 3. -/
def State.holdStep3 (s : State) (vhold : Nat) : State :=
  let s := s.put Reg.PWR_STAT 15 13 3
  let at_ := inNs (s.cntTime (s.power.holdAt - 5000))
  let (s, n) := (List.range 4).foldl (fun (p : State × Nat) i =>
    let (t, k) := p.1.recPowerClose i at_
    (t, p.2 + k)) (s, 0)
  (s.irq 44).logLast 0x212 n vhold s.holdUs

/-- The refresh of a given period, in elapsed counts since the release of PD_SYS, that the present time lies in. -/
def State.refreshNo (s : State) (per : Nat) : Nat := (s.tb.cnt - s.power.relAt) / per
/-- Whether a value stored at a count, counted from 1, is the one the present refresh has shown. -/
def State.refreshed (s : State) (per at_ : Nat) : Bool :=
  decide (s.power.relAt < at_) && decide ((at_ - 1 - s.power.relAt) / per = s.refreshNo per)

/-- What PWR_VMON shows: the values an event has brought since the last refresh, before the first refresh its reset value, else the
measured ones, VHOLD on the side of 28.0 V that HOLD_OK tells of (R586, R604, log entry 199). -/
def State.vmonShown (s : State) : Word :=
  let n := s.refreshNo 25000
  if n = 0 ∨ s.refreshed 25000 s.power.vmonAt then s.rd Reg.PWR_VMON
  else
    let f := (Config.vhold n).toNat
    w32 ((if s.bit Reg.PWR_STAT 11 then max 28000 f else min 27999 f) * 65536 + (Config.vin n).toNat)

/-- PWR_VMON shows VHOLD and VIN. -/
def State.vmon (s : State) (vhold vin : Nat) : State :=
  (s.wr Reg.PWR_VMON (w32 (vhold * 65536 + vin))).pwrMod (fun p => { p with vmonAt := s.tb.cnt + 1 })
/-- PWR_VMON shows VHOLD, and VIN as before. -/
def State.vholdMon (s : State) (vhold : Nat) : State := s.vmon vhold (field s.vmonShown 15 0)

/-- Hold-up begins (R587, R588): with HOLD_OK step 1 runs, otherwise step 3 begins at once. -/
def State.holdStart (s : State) (vhold vin : Nat) : State :=
  if !s.sysRuns ∨ s.holdStep ≠ 0 then s
  else
    let ok := s.bit Reg.PWR_STAT 11
    let s := (s.vmon vhold vin).pwrMod (fun p => { p with holdAt := s.tb.cnt })
    let s := ((s.putBit Reg.PWR_STAT 12 true).putBit Reg.PWR_STAT 10 false).putBit Reg.PWR_FLAG 1 true
    let s := s.pwrLog 44 0x210 s.role vhold vin
    if !ok then s.holdStep3 vhold
    else
      let s := s.put Reg.PWR_STAT 15 13 1
      let s := when (s.paired && decide (s.role = 2) && s.partnerReady) (fun t =>
        t.pairMod (fun p => { p with holdup := true, ask := some 2 })) s
      s.lastGasp

/-- HOLDUP_START: VIN has stayed below 8.5 V for 20 µs; a higher VIN begins no hold-up (log entry 200). -/
def execHoldupStart (vhold vin : BitVec 16) (s : State) : Host.Outcome State Fault Refusal :=
  .next (if vin.toNat < 8500 then s.holdStart vhold.toNat vin.toNat else s)

/-- VIN above 18.0 V: VIN is disconnected and hold-up begins, where it does not run already (R610). -/
def State.overVoltage (s : State) (vhold vin : Nat) : State :=
  if vin ≤ 18000 ∨ !s.sysRuns then s else (s.holdStart vhold vin).pwrMod (fun p => { p with overVin := true })

/-- VIN_OVERVOLTAGE: VIN has stayed above 18 V for 5 µs; the record shows it (R610). -/
def execVinOvervoltage (vhold vin : BitVec 16) (s : State) : Host.Outcome State Fault Refusal :=
  .next (s.overVoltage vhold.toNat vin.toNat)

/-- PD_NET goes off: the ports and the pair links (R430, R522). -/
def State.netOff (s : State) : State :=
  let s := (s.putBit Reg.PWR_STAT 0 false).netDown
  (List.range 2).foldl (fun t l => if t.plinkUp l then t.plinkChange l false else t) s

/-- Whether a last-gasp frame has still to leave a port (R460). -/
def State.gaspWaits (s : State) : Bool := (List.range 8).any (fun g => (s.gpub g).gasp && decide (s.gpubWaiting g ≠ 0))

/-- PD_NET_SHED: step 1 ends, once the handover has taken place or lapsed, and the last-gasp frames have left or 2 ms have passed (R460,
R588). -/
def State.netShed (s : State) : State :=
  if s.holdStep = 1 ∧ s.pair.ask ≠ some 2 ∧ s.pair.req.isNone ∧ s.pair.hand.isNone then
    (when s.gaspWaits (fun t => t.reachCnt (t.power.holdAt + 500000)) s).netOff.put Reg.PWR_STAT 15 13 2
  else s

def execPdNetShed (s : State) : Host.Outcome State Fault Refusal := .next s.netShed

/-- HOLDUP_STEP3: VHOLD has fallen below HOLD_END. -/
def execHoldupStep3 (vhold : BitVec 16) (s : State) : Host.Outcome State Fault Refusal :=
  .next (if (s.holdStep = 1 ∨ s.holdStep = 2) ∧ vhold.toNat < 100 * s.fld Reg.PWR_HOLD 31 24 then
    (s.vholdMon vhold.toNat).holdStep3 vhold.toNat else s)

/-- HOLDUP_STEP4, once the retained flush and Tally's writing of step 3 are over: PAIR_ROLE_OUT falls, every output turns off and FIELD_OK
deasserts, then the domains go off (R588, R513). -/
def State.holdStep4 (s : State) : State :=
  if s.holdStep ≠ 3 ∨ !s.tallyOut ∨ s.lathe.flush.isSome then s
  else
    let s := s.roleOutFall
    let s := if s.field_.up && s.flkUp then ((s.fdMod (fun d => { d with cmd := 0, outEn := false })).fieldOk false).fdSettle else s
    s.sysReset 1 false true

def execHoldupStep4 (s : State) : Host.Outcome State Fault Refusal := .next s.holdStep4

/-- Whether VIN reconnects at a voltage: above 9.0 V and, after an overvoltage, up to 17.0 V; never above 18.0 V (R589, R610). -/
def State.vinBack (s : State) (vin : Nat) : Bool := decide (9000 < vin) && decide (vin ≤ if s.power.overVin then 17000 else 18000)

/-- HOLDUP_END: VIN has returned for 10 ms during step 1 or 2 (R589). PD_NET comes on again at its DOMAIN_SWITCH_DONE. -/
def execHoldupEnd (vhold vin : BitVec 16) (s : State) : Host.Outcome State Fault Refusal :=
  let st := s.holdStep
  .next (if (st = 1 ∨ st = 2) ∧ s.vinBack vin.toNat then
    let s := s.pwrMod (fun p => { p with overVin := false })
    let s := ((s.put Reg.PWR_STAT 15 10 1).putBit Reg.PWR_STAT 11 (decide (28000 ≤ vhold.toNat))).vmon vhold.toNat vin.toNat
    let s := (s.pairMod (fun p => { p with holdup := false })).putBit Reg.PWR_FLAG 2 true
    s.pwrLog 44 0x211 st s.holdUs vhold.toNat
  else s)

/-- HOLD_OK_CHANGE: VHOLD has crossed 28.0 V (R586). -/
def execHoldOkChange (vhold : BitVec 16) (s : State) : Host.Outcome State Fault Refusal :=
  .next (if s.power.off then s
    else (s.vholdMon vhold.toNat).putBit Reg.PWR_STAT 11 (decide (28000 ≤ vhold.toNat)))

/-! ### Thermal limits and watchdog (R590, R591) -/

/-- The highest reading, in 1/128 °C, that raises nothing: TWARN where no warning is up, else the one below TSHUT. -/
def State.tempTop (s : State) : Int :=
  let shut : Int := min 150 (s.fld Reg.PWR_TCFG 15 0) * 128 - 1
  if s.power.warned then shut else min (s.fld Reg.PWR_TCFG 31 16 * 128) shut

/-- A temperature reading of region 0 to 3 or of AFE die 0 or 1 (4 and 5), in 1/128 °C: what an event has brought in this millisecond, in
the first one the reset value, else the measured one, which raises nothing since no command says it does (R590, log entry 199). -/
def State.tempNow (s : State) (src : Nat) : Nat :=
  let n := s.refreshNo 250000
  if n = 0 ∨ s.refreshed 250000 (SMap.get (fun _ => 0) s.power.tempAt src) then
    (if src < 4 then s.fld (Reg.PWR_TEMP src) 15 0 else s.fld (Reg.AFE_STAT (src - 4)) 31 16)
  else toField 16 (min (sext 16 (Config.temp src n).toNat) s.tempTop)

/-- A reading an event brings. -/
def State.tempRead (s : State) (src : Nat) (t : Word) : State :=
  let s := if src < 4 then s.put (Reg.PWR_TEMP src) 15 0 t.toNat else s.put (Reg.AFE_STAT (src - 4)) 31 16 t.toNat
  s.pwrMod (fun p => { p with tempAt := SMap.set (fun _ => 0) p.tempAt src (s.tb.cnt + 1) })

/-- The six readings stand until the next millisecond, whatever the limits become, those above a limit at the limit. -/
def State.tempHold (s : State) (top : Int) : State :=
  (List.range 6).foldl (fun t src => t.tempRead src (w32 (toField 16 (min (sext 16 (s.tempNow src)) top)))) s

/-- What a read of PWR_TEMP_r, AFE_STAT_n or PWR_VMON shows, and of PWR_KEEP, whose VKEEP is measured; SYS_PART shows EXT (R604, R626). -/
def State.measured (s : State) (a : Nat) (v : Word) : Word :=
  if a = Reg.PWR_VMON then s.vmonShown
  else if a = Reg.PWR_KEEP then putField v 15 0 (Config.vkeep s.tb.cnt).toNat
  else if a = Reg.SYS_PART then putField v 0 0 (b2n Config.partExt)
  else match (List.range 4).find? (fun r => decide (a = Reg.PWR_TEMP r)) with
    | some r => putField v 15 0 (s.tempNow r)
    | none => match (List.range 2).find? (fun d => decide (a = Reg.AFE_STAT d)) with
      | some d => putField v 31 16 (s.tempNow (4 + d))
      | none => v

/-- A write of PWR_TCFG: the readings taken stay (R590). -/
def State.tcfgWrite (s : State) (v : Word) : State := (s.tempHold 32767).regWrite Reg.PWR_TCFG v

/-- The small parameter of THERMAL: the region; for an AFE die the manual names none. -/
def thermSource (src : Nat) : Nat := if src < 4 then src else Config.thermSource (src - 4) % 256

/-- THERMAL_WARN: a reading above TWARN, reported once. -/
def State.thermWarn (s : State) (src : Nat) (t : Word) : State :=
  let s := (s.tempHold 32767).tempRead src t
  if s.power.warned ∨ sext 16 t.toNat ≤ s.fld Reg.PWR_TCFG 31 16 * 128 then s
  else
    ((s.pwrMod (fun p => { p with warned := true })).putBit Reg.PWR_FLAG 3 true).pwrLog 56 0x214 (thermSource src) (t.toNat % 65536) 0

def execThermalWarn (src : Fin 6) (t : BitVec 16) (s : State) : Host.Outcome State Fault Refusal :=
  .next (s.thermWarn src.val (t.setWidth 32))

/-- THERMAL_WARN_CLEAR: every reading has fallen 5 °C below TWARN, and the next one above it is reported again. -/
def State.thermClear (s : State) : State :=
  if s.power.warned then (s.tempHold (s.fld Reg.PWR_TCFG 31 16 * 128 - 641)).pwrMod (fun p => { p with warned := false }) else s

def execThermalWarnClear (s : State) : Host.Outcome State Fault Refusal := .next s.thermClear

/-- THERMAL_SHUTDOWN: a reading at TSHUT (at most 150 °C); steps 3 and 4 follow. -/
def State.thermShut (s : State) (src : Nat) (t : Word) : State :=
  let s := (s.tempHold 32767).tempRead src t
  if sext 16 t.toNat < min 150 (s.fld Reg.PWR_TCFG 15 0) * 128 ∨ 3 ≤ s.holdStep ∨ !s.sysRuns then s
  else
    let s := (s.putBit Reg.PWR_FLAG 3 true).pwrLog 56 0x214 (thermSource src) (t.toNat % 65536) 1
    let s := s.pwrMod (fun p => { p with thermal := true, holdAt := if s.holdActive then p.holdAt else s.tb.cnt })
    s.holdStep3 (field s.vmonShown 31 16)

def execThermalShutdown (src : Fin 6) (t : BitVec 16) (s : State) : Host.Outcome State Fault Refusal :=
  .next (s.thermShut src.val (t.setWidth 32))

/-- A write of PWR_WDT: EN sets and stays; the watchdog counts from its enabling (R591). -/
def State.wdtWrite (s : State) (v : Word) : State :=
  let s := when (bitAt v 31 && !s.bit Reg.PWR_WDT 31) (fun t => t.pwrMod (fun p => { p with wdtAt := t.tb.cnt, wdtWarned := false })) s
  s.regWrite Reg.PWR_WDT v

/-- WDT_KICK: the two keys in order serve the watchdog; any other sequence sets WDT_KEY. A first key always begins a sequence. -/
def State.wdtKick (s : State) (v : Word) : State :=
  let k := field v 15 0
  let was := s.power.kick
  let s := s.pwrMod (fun p => { p with kick := decide (k = 0xA55A) })
  if k = 0x5AA5 ∧ was then s.pwrMod (fun p => { p with wdtAt := s.tb.cnt, wdtWarned := false })
  else if k = 0xA55A ∧ !was then s
  else s.putBit Reg.PWR_FLAG 4 true

def execWdtKick (v : Word) (s : State) : Host.Outcome State Fault Refusal := .next (s.wdtKick v)

/-- WDT_WARN: TO / 2 ms without service. -/
def State.wdtWarn (s : State) : State :=
  if !s.bit Reg.PWR_WDT 31 ∨ s.power.wdtWarned then s
  else
    let lim := s.fld Reg.PWR_WDT 15 0
    ((s.reachCnt (s.power.wdtAt + lim * 125000)).pwrMod (fun p => { p with wdtWarned := true })).pwrLog 57 0x215 0 lim 0

def execWdtWarn (s : State) : Host.Outcome State Fault Refusal := .next s.wdtWarn

/-- WDT_TIMEOUT: TO ms without service; the reset is released with the straps kept. -/
def State.wdtTimeout (s : State) : State :=
  if !s.bit Reg.PWR_WDT 31 then s
  else ((s.reachCnt (s.power.wdtAt + s.fld Reg.PWR_WDT 15 0 * 250000)).resetAs 3).release

def execWdtTimeout (s : State) : Host.Outcome State Fault Refusal := .next s.wdtTimeout

/-- WDT_COUNT_CLEAR: 60 s after PROTECTION_READY (R592). -/
def execWdtCountClear (s : State) : Host.Outcome State Fault Refusal :=
  .next (match s.power.boot.readyAt with
    | some t => (s.reachCnt (t + 15000000000)).put Reg.PWR_RST 31 24 0
    | none => s)

end Sys2Proof.Machine
end

