-- ==== Sys2Proof/Machine/BootCmd.lean ====
section
/-!
DEFINITION. The commands of BOOT_CMD (R597, R601, R605).
-/
namespace Sys2Proof.Machine
open Sys2Proof

/-- A refused BOOT_CMD (R605). -/
def State.bootCmdErr (s : State) (v : Word) : State := (s.putBit Reg.BOOT_STAT 29 true).pwrLog 44 0x218 0 0x108 v.toNat

/-- CONTINUE: in WAIT_HOST step 1 is repeated for the entries not loaded, and the steps already done stand. -/
def State.bootContinue (s : State) (v : Word) : State :=
  if s.stage ≠ 8 then s.bootCmdErr v
  else
    let todo := s.bootTodo
    let s := s.put Reg.BOOT_STAT 19 0 0
    let s := s.putBit Reg.BOOT_STAT 30 false
    (s.bootMod (fun b => { b with todo := todo })).setStage (if todo.isEmpty then 4 else 1)

/-- The VERSION of the active image of a kind: of the element images the lowest. -/
def State.activeVersion (s : State) (kind : Nat) : Option Nat :=
  if kind = 3 then
    ((List.range 16).filterMap (fun c => (s.elem c).active.map (fun i => i.ver))).foldl
      (fun a v => some (match a with
        | some x => min x v
        | none => v)) none
  else if kind = 2 then (s.lthImg s.lthHalf).map (fun i => i.ver)
  else if (s.power.boot.vers.any (fun e => decide (e.1 = kind))) then some (SMap.get (fun _ => 0) s.power.boot.vers kind)
  else none

/-- RAISE_MIN: the next free OTP row of the kind takes its active VERSION. -/
def State.bootRaise (s : State) (v : Word) : State :=
  let k := field v 2 0
  let used := SMap.get (fun _ => 0) s.power.otpRows k
  match s.activeVersion k with
  | some ver =>
    if k = 0 ∨ 4 < k ∨ 8 ≤ used then s.bootCmdErr v
    else
      let a := Reg.BOOT_MINVER (k - 1)
      let new := max (s.rd a).toNat ver
      let s := (s.wr a (w32 new)).pwrMod (fun p => { p with otpRows := SMap.set (fun _ => 0) p.otpRows k (used + 1) })
      s.pwrLog 58 0x223 k new (7 - used)
  | none => s.bootCmdErr v

def execBootContinue (v : Word) (s : State) : Host.Outcome State Fault Refusal := .next (s.bootContinue v)

def execBootRaiseMin (v : Word) (s : State) : Host.Outcome State Fault Refusal := .next (s.bootRaise v)

/-- A write of BOOT_CMD; an OP without an entry issues no command. -/
def State.bootCmdWrite (s : State) (v : Word) : State :=
  if field v 31 28 = 1 then s.bootContinue v else if field v 31 28 = 2 then s.bootRaise v else s

end Sys2Proof.Machine
end

