-- ==== Sys2Proof/Machine/Tick.lean ====
section
/-!
DEFINITION. The tick (chapter 02): its start, its arrival at a region with the work of the entry phase, the start of the element
program (R162), the element deadline with its posting, overruns and freezes.
-/
namespace Sys2Proof.Machine
open Sys2Proof

/-! ### Tick start (R53, R74, R76) -/

/-- Clusters in their entry or element phase. -/
def State.inPhases (s : State) : Bool :=
  (List.range 16).any (fun c => decide (s.clPhase c = .entry) || decide (s.clPhase c = .element))

/-- A cluster at a tick start: a restart that waits takes effect (R130, R164), the period of tags from this tick on follows TRK_PER
(R131), and a pending activation comes one tick start nearer (R186). -/
def State.clusterTick (s : State) (c : Nat) : State :=
  let s := if decide (s.clPhase c = .exit) then s.setPhase c .idle else s
  let s := if (s.tracker c).restart && s.regionRuns (c / 4) then (s.clearWindows c).trkRestart c else s
  let per := (s.rd (Reg.TRK_PER c)).toNat
  let no := s.tickNo
  let s := s.trkMod c (fun t => { t with pers := if t.pers.getLast?.map (·.2) = some per then t.pers else t.pers ++ [(no, per)] })
  s.elemMod c (fun e => { e with actWait := e.actWait.map (fun n => n - 1) })

/-- What the tick's frame records of the moment it starts (R329). -/
def State.tickSnap (s : State) : TickSnap :=
  { no := s.tick.runs, sec := s.tick.sec, idx := s.tick.idx, epoch := s.epoch, tq := s.tq, step := s.stepFlag,
    fio := [s.rd Reg.FIO_IN_LO, w32 (s.fld Reg.FIO_IN_HI 15 0), s.rd Reg.TL_ENERG_LO, s.rd Reg.TL_ENERG_HI] }

/-- The tick after the running one starts, or the first of a scale: the grid advances and TICK_IDX shows the new number. -/
def State.tickStart (s : State) : State :=
  if !s.started || s.inPhases then s
  else
    let (sec, idx) := tickFollowing s.tick
    let s := s.reachTime (sec * 1000000000 + tickNs idx)
    let step := s.stepFlag && !s.tick.running
    let s := ((s.setStep step).setLate []).tickMod (fun t =>
      { sec := sec, idx := idx, running := true, shownSec := sec, runs := t.runs + 1, regs := [], energ := t.energ,
        scales := SMap.set (fun _ => none) t.scales s.epoch (some ((t.runs + 1 : Nat) - (tickAbs sec idx : Int))) })
    let s := s.wr Reg.TICK_IDX (w32 (s.epoch * 16777216 + idx))
    let s := (List.range 16).foldl (fun t c => t.clusterTick c) s
    let s := if step then s.lthMod (fun l => { l with flags := l.flags ||| lfSTEP }) else s
    let snap := s.tickSnap
    let s := s.setTicks ((snap :: s.ticks).take 256)
    let s := s.regionResets
    s.tickMod (fun t => { t with regs := (List.range 4).filter (fun r => s.regionRuns r) })

/-! ### Arrival at a region and the entry phase (R34, R55, R57, R67) -/

/-- The skew monitor (R34). -/
def State.skewMonitor (s : State) (r skew : Nat) : State :=
  let a := Reg.REG_STAT r
  let s := s.put a 7 0 (satTo 255 skew)
  let s := if s.fld a 15 8 < satTo 255 skew then s.put a 15 8 (satTo 255 skew) else s
  let s := if 60 < skew then ((s.putBit a 16 true).irq (16 + r)).log 0x120 r skew s.tick.idx else s
  if 100 < skew then ((s.putBit a 17 true).setLate (r :: s.late)).log 0x121 r skew s.tick.idx else s

/-- The entry phase of a cluster: PROT and TRK samples into the windows, phasor engine, IFD, gauges (R57). -/
def State.entryWork (s : State) (c : Nat) : State :=
  let s := if (s.tracker c).align || s.stepFlag then s.alignTrk c else s
  let s := (((s.deliverProt c).deliverTrk c).phasors c).ifdEvaluate c
  let shown := [Reg.TRK_PER c, Reg.TRK_FREQ c, Reg.TRK_ROCOF c, Reg.TRK_STAT c, Reg.TRK_CFG c].map s.rd
  let s := s.trkMod c (fun t => { t with shown := shown })
  (s.gaugeTests c).setPhase c .entry

/-- A tick arrives at region r, `skew` ns from the time base's tick. -/
def State.regionArrival (s : State) (r skew : Nat) : State :=
  if !s.tick.running || !s.tickHas r || (List.range 4).any (fun i => decide (s.clPhase (4 * r + i) ≠ .idle)) then s
  else
    let s := s.skewMonitor r skew
    (List.range 4).foldl (fun t i => t.entryWork (4 * r + i)) s

def execRegionTickArrival (r : Fin 4) (skew : Nat) (s : State) : Host.Outcome State Fault Refusal :=
  .next (s.regionArrival r.val skew)

/-! ### Element phase (R58, R162) -/

/-- g4 at entry (R162). -/
def State.entryFlags (s : State) (c : Nat) : Nat :=
  let e := s.elem c
  b2n e.first + 2 * b2n e.activated + 4 * b2n e.prevOvr + 8 * b2n s.stepFlag + 16 * b2n (s.bit (Reg.OVR_STAT c) 0) +
    32 * b2n (s.halfMode (c / 4)) + 256 * s.fld (Reg.OVR_STAT c) 23 16

/-- The element core at the first cycle of its program. -/
def State.entryCore (s : State) (c : Nat) : Core :=
  let e := s.elem c
  { Core.init with
    g := #v[0, w32 s.tick.idx, w32 s.tick.sec, w32 (c * 256 + s.epoch), w32 (s.entryFlags c), w32 e.posted] ++ Vector.replicate 26 (0 : Word)
    pc := (e.active.map (fun i => i.entry)).getD 0
    run := .active }

/-- The element phase of a cluster begins: the IFD shows what the entry phase found (R246), the breaker-failure counts on its current
detector advance (R277), and a core that is not stopped starts its program. -/
def State.elementStart (s : State) (c : Nat) : State :=
  if s.clPhase c ≠ .entry then s
  else
    let s := (s.ifdPublish c).bfCluster c
    let s := if s.coreStopped c then s
      else
        let k := s.entryCore c
        (s.setCore c k).elemMod c (fun e => { e with
          first := false, activated := false, req := 0, sflags := 0, evts := [], xst := e.xcur.words, xpub := false,
          crvDone := 0, cmpDone := 0, tmrDone := 0 })
    (s.setPhase c .element).tlStep

/-! ### Element deadline (R59, R69 to R72, R178) -/

/-- A core that met the tick: its cycle is shown, and everything staged is posted (R59, R70, R72, R223 to R225). -/
def State.tickMet (s : State) (c : Nat) : State :=
  let cyc := (s.core c).endCyc
  let s := s.put (Reg.CYC_LAST c) 16 0 cyc
  let s := if s.fld (Reg.CYC_MAX c) 16 0 < cyc then s.put (Reg.CYC_MAX c) 16 0 cyc else s
  let s := s.put (Reg.OVR_STAT c) 23 16 0
  let frozen := s.bit (Reg.OVR_STAT c) 0
  let e := s.elem c
  let entry : XEntry := { words := e.xst, posted := s.tick.runs, epoch := s.epoch, idx := s.tick.idx, absent := false }
  let no := s.tickNo
  let s := s.elemMod c (fun e => { e.postFlags e.sflags no s.epoch with
    posted := if frozen then 0 else e.req, postTick := no, prevOvr := false,
    xprev := if e.xpub then e.xcur else e.xprev, xcur := if e.xpub then entry else e.xcur })
  let s := s.put (Reg.EVT_STAT c) 3 0 e.evts.length
  e.evts.foldl (fun t r => t.raiseRec r) s

/-- An overrun of cluster c (R69 to R71). -/
def State.overrun (s : State) (c : Nat) (late : Bool) : State :=
  let a := Reg.OVR_STAT c
  let dropped := (s.elem c).evts.length
  let was := s.fld a 23 16
  let s := (s.put (Reg.CYC_LAST c) 16 0 0x1FFFF).count (Reg.OVR_CNT c) 31 0 1
  let s := ((s.count a 23 16 1).putBit a 1 true).putBit a 2 (s.bit a 2 || late)
  let s := (s.elemMod c (fun e => { e with prevOvr := true })).put (Reg.EVT_STAT c) 3 0 0
  let n := s.fld a 23 16
  let s := (s.irq c).log 0x140 c (n * 65536 + s.tick.idx) (dropped * 65536 + b2n late)
  let limit := s.fld (Reg.OVR_CFG c) 7 0
  if (was < limit ∧ limit ≤ n) ∨ (limit < n ∧ s.bit a 0 = false) then
    let no := s.tickNo
    let s := (s.elemMod c (fun e => { e with posted := 0, postTick := no })).putBit a 0 true
    (s.irq c).log 0x141 c s.tick.idx limit
  else s

/-- The deadline handles the core: met, overrun, or nothing where it is stopped (R188). -/
def State.coreDeadline (s : State) (c : Nat) : State :=
  if s.coreStopped c then s
  else
    let late := s.late.contains (c / 4)
    let met := decide ((s.core c).run = .ended)
    let s := if met && !late then s.tickMet c else s.overrun c late
    (s.coreMod c (fun k => { k with run := .idle })).tmrDeadline c

/-- In the exit phase of a cluster, after the posting: where the next tick start is t_a, the ALWAYS sections of the pending live activation
are written (R185). -/
def State.coreSections (s : State) (c : Nat) : State :=
  let e := s.elem c
  match e.other with
  | none => s
  | some img =>
    let next := (tickFollowing s.tick).2
    if e.actWait.any (fun n => decide (n ≤ 1)) && (decide (e.actIdx = none) || decide (e.actIdx = some next)) && decide (e.lastLayout = some img.layout)
    then (s.writeSections c img false).elemMod c (fun e => { e with actSecs := true }) else s

/-- The element deadline of the package (R59, R521): the pair's work with the state snapshot, then the sections of pending activations
(R185). -/
def State.ownDeadline (s : State) : State :=
  (List.range 16).foldl (fun t c => if decide (t.clPhase c = .exit) then t.coreSections c else t) s.pairDeadline

/-- The element deadline of cluster c. After the last one of the tick the pair's own deadline follows (R59, R521). -/
def State.elementDeadline (s : State) (c : Nat) : State :=
  if s.clPhase c ≠ .element then s
  else
    let s := (s.coreDeadline c).setPhase c .exit
    let s := s.tlStep
    let s := s.tickMod (fun t => { t with energ := (s.rd Reg.TL_ENERG_LO, s.rd Reg.TL_ENERG_HI) })
    if s.deadlinesLeft then s else s.ownDeadline

def execElementDeadline (c : Fin 16) (s : State) : Host.Outcome State Fault Refusal := .next (s.elementDeadline c.val)

/-! ### Freeze and limit (R73, R627) -/

/-- A write of 1 to OVR_STAT.CLUSTER_FAULT asks for the lifting. -/
def State.faultClear (s : State) (c : Nat) : State :=
  if s.bit (Reg.OVR_STAT c) 0 then s.elemMod c (fun e => { e with clearReq := true }) else s

def execClusterFaultClearWrite (c : Fin 16) (s : State) : Host.Outcome State Fault Refusal := .next (s.faultClear c.val)

/-- The freeze is lifted at the next entry phase. -/
def State.faultLift (s : State) (c : Nat) : State :=
  if (s.elem c).clearReq && decide (s.clPhase c = .entry) then
    let a := Reg.OVR_STAT c
    let s := ((s.elemMod c (fun e => { e with clearReq := false })).putBit a 0 false).put a 23 16 0
    s.log 0x142 c s.tick.idx 0
  else s

def execClusterFaultLift (c : Fin 16) (s : State) : Host.Outcome State Fault Refusal := .next (s.faultLift c.val)

/-- A write of OVR_CFG: LIMIT = 0 is discarded (R627). -/
def State.ovrCfgWrite (s : State) (c : Nat) (v : Word) : State :=
  if field v 7 0 = 0 then s.coreCmdErr c else s.regWrite (Reg.OVR_CFG c) v

def execOvrCfgWrite (c : Fin 16) (v : Word) (s : State) : Host.Outcome State Fault Refusal := .next (s.ovrCfgWrite c.val v)

/-- A write of OVR_STAT: bits 1 and 2 clear, bit 0 asks for the lifting. -/
def State.ovrStatWrite (s : State) (c : Nat) (v : Word) : State :=
  let a := Reg.OVR_STAT c
  let s := (when (bitAt v 1) (fun t => t.putBit a 1 false) s)
  let s := (when (bitAt v 2) (fun t => t.putBit a 2 false) s)
  when (bitAt v 0) (fun t => t.faultClear c) s

end Sys2Proof.Machine
end

