-- ==== Sys2Proof/Machine/BusWrite.lean ====
section
/-!
DEFINITION. What a write does once the bus or an indirect interface has delivered it to a register: each block's registers by
offset (R555, R565), commands and ranges under the rules of the block's chapter.
-/
namespace Sys2Proof.Machine
open Sys2Proof

/-! ### Errors of the bus (R555, R558, R560, R576) -/

/-- An erroneous access: its flag, HBI_ERR_ADDR and interrupt 45. -/
def State.hbiErr (s : State) (r : Req) (flag : Nat) (write : Bool) (addr be : Nat) : State :=
  let win := if addr < 0x3C000 then addr % 0x4000 / 0x1000 else 0
  let v := b2n write * 0x80000000 + b2n (r.isHost && s.power.spi) * 0x40000000 + win * 0x10000000 + be % 16 * 0x1000000 +
    addr % 0x100000 / 4 * 4
  ((s.wr Reg.HBI_ERR_ADDR (w32 v)).putBit Reg.HBI_STAT flag true).irq 45

/-! ### SYS (R574 to R578) -/

/-- INT_FORCE: every bit written 1 raises its source. -/
def State.intForce (s : State) (hi : Bool) (v : Word) : State :=
  (idxWhere 32 (fun i => bitAt v i)).foldl (fun t i => t.irq (i + if hi then 32 else 0)) s

/-- INT_STAT: every bit written 1 clears. -/
def State.intClear (s : State) (hi : Bool) (v : Word) : State := s.regWrite (if hi then Reg.INT_STAT_HI else Reg.INT_STAT_LO) v

/-- A write of MBOX_S2H_n: the supervisor's; it sets S2H_FULL_n, and OVW_n where the mailbox was full. -/
def State.mboxS2h (s : State) (r : Req) (n : Nat) (v : Word) : State :=
  if r.isHost then s.hbiErr r 5 true (Reg.MBOX_S2H n) 15
  else
    let full := s.bit Reg.MBOX_STAT n
    let s := (s.wr (Reg.MBOX_S2H n) v).putBit Reg.MBOX_STAT n true
    (when full (fun t => t.putBit Reg.MBOX_STAT (8 + n) true) s).raiseHost (60 + n)

/-- A write of MBOX_H2S_n: the host's. A supervisor's is discarded. -/
def State.mboxH2s (s : State) (r : Req) (n : Nat) (v : Word) : State :=
  if !r.isHost then (s.wr Reg.HBI_ERR_ADDR (w32 (0x8F000000 + Reg.MBOX_H2S n))).irq 45
  else
    let full := s.bit Reg.MBOX_STAT (4 + n)
    let s := (s.wr (Reg.MBOX_H2S n) v).putBit Reg.MBOX_STAT (4 + n) true
    (when full (fun t => t.putBit Reg.MBOX_STAT (8 + n) true) s).raiseSup (60 + n)

/-- CLAIM_CMD (R47). -/
def State.claimCmd (s : State) (r : Req) (v : Word) : State :=
  let res := field v 15 0
  let op := field v 31 30
  if op = 1 then s.claimRun r res else if op = 2 then s.releaseRun r res else if op = 3 then s.queryOp res else s

def State.sysWrite (s : State) (r : Req) (a : Nat) (v : Word) : State :=
  if a = 0x10 then s.sysRstWrite v
  else if a = Reg.INT_FORCE_LO then s.intForce false v
  else if a = Reg.INT_FORCE_HI then s.intForce true v
  else if 0x140 ≤ a ∧ a < 0x160 then
    if a % 8 = 0 then s.mboxS2h r ((a - 0x140) / 8) v else s.mboxH2s r ((a - 0x140) / 8) v
  else if a = Reg.CLAIM_CMD then s.claimCmd r v
  else if a = Reg.AFE_CTRL 0 then when (bitAt v 0) (fun t => t.recheck 0) s
  else if a = Reg.AFE_CTRL 1 then when (bitAt v 0) (fun t => t.recheck 1) s
  else s.regWrite a v

/-! ### TB (R397 to R427) -/

/-- TB_CMD (R630). -/
def State.tbCmd (s : State) (r : Req) (v : Word) : State :=
  let op := field v 31 28
  if op = 1 then s.tbCmdStart r v
  else if op = 2 then s.tbCmdStep v
  else if op = 3 then s.tbMod (fun t => { t with sync := 3 })
  else if op = 4 then s.tbResetI
  else s.tbErr 6 7 v 8

/-- A write of TB_STEP_NS commits the step's three words (R410, R564). -/
def State.stepCommit (s : State) (r : Req) (v : Word) : State :=
  ((s.wr Reg.TB_STEP_SEC_LO (s.held r Reg.TB_STEP_SEC_LO)).wr Reg.TB_STEP_SEC_HI (s.held r Reg.TB_STEP_SEC_HI &&& 0xFFFF)).wr
    Reg.TB_STEP_NS (v &&& 0x3FFFFFFF)

/-- A register of a time I/O pin: what configures the pin takes its owner's writes only (R44, R419, R427). -/
def State.tioWrite (s : State) (r : Req) (n off : Nat) (v : Word) : State :=
  let a := Reg.TIO_CFG n + off
  if off = 0 then s.tioCfgWrite r n v
  else if off < 0x20 ∧ !s.mayWrite280 r (0x1000 + n) then s.tbErr 7 5 v (a - 0x8000)
  else if off = 4 ∨ off = 8 then s.hold r a v
  else if off = 0xC then
    ((s.wr (Reg.TIO_START_SEC_LO n) (s.held r (Reg.TIO_START_SEC_LO n))).wr (Reg.TIO_START_SEC_HI n)
      (s.held r (Reg.TIO_START_SEC_HI n))).wr a (v &&& 0x3FFFFFFF)
  else if off = 0x10 then s.tioRangeWrite n false v
  else if off = 0x14 then s.tioRangeWrite n true v
  else s.regWrite a v

def State.tbWrite (s : State) (r : Req) (a : Nat) (v : Word) : State :=
  let off := a - 0x8000
  if off = 0 then s.tbCtrlWrite v
  else if off = 8 then s.tbCmd r v
  else if a = Reg.TB_ADDEND_LO then s.addendCommit r v
  else if a = Reg.TB_OFFS_LO then s.offsCommit r v
  else if a = Reg.TB_STEP_NS then s.stepCommit r v
  else if a = Reg.TB_ADDEND_HI ∨ a = Reg.TB_OFFS_HI ∨ a = Reg.TB_STEP_SEC_LO ∨ a = Reg.TB_STEP_SEC_HI then s.hold r a v
  else if off = 0x38 then s.servoWrite v
  else if a = Reg.TB_UTC then s.utcWrite v
  else if 0x100 ≤ off ∧ off < 0x300 then
    let n := (off - 0x100) / 0x20
    let k := off % 0x20 / 4
    if k = 0 then s.almCtrlWrite r n v else if k ≤ 4 then s.almWrite r n k v else s.almStatWrite r n k v
  else if 0x400 ≤ off ∧ off < 0x500 then s.tioWrite r ((off - 0x400) / 0x40) (off % 0x40) v
  else s.regWrite a v

/-! ### TALLY (R376 to R394) -/

/-- TALLY_CLR_CMD (R385). -/
def State.clrCmd (s : State) (r : Req) (v : Word) : State :=
  let op := field v 31 28
  if op = 1 then s.clearRequest r (field v 1 0) (bitAt v 2)
  else if op = 2 then s.clearConfirm r
  else if op = 3 then s.voidNonce
  else s

/-- A write in Tally's range; SOURCE of TALLY_PHDR_1 is reserved (R376, R385, R390, R394). -/
def State.tallyWrite (s : State) (r : Req) (a : Nat) (v : Word) : State :=
  let off := a - 0xC000
  if off = 0 then when (bitAt v 0) State.tallyResume s
  else if 0x40 ≤ off ∧ off < 0x80 then
    let port := (off - 0x40) / 0x20
    if r.isHost ≠ decide (port = 1) then s.postErr
    else if off % 0x20 = 0x10 then when (bitAt v 0) (fun t => t.post r port) s
    else s.regWrite a (if port = 1 ∧ off % 0x20 = 0 then v &&& 0xFFFF00FF#32 else v)
  else if off = 0x80 then s.clrCmd r v
  else if 0x94 ≤ off ∧ off < 0xA4 then s.hold .host a v
  else if off = 0xB0 then when (bitAt v 31) State.lrClear s
  else if 0x400 ≤ off ∧ off < 0x800 then s.bucketWrite ((off - 0x400) / 4) false v
  else if 0x800 ≤ off ∧ off < 0xC00 then s.bucketWrite ((off - 0x800) / 4) true v
  else s.regWrite a v

/-! ### PAIR, LATHE, FIO, REC, PWR -/

def State.pairWrite (s : State) (a : Nat) (v : Word) : State :=
  if a = Reg.PAIR_CFG then s.pairCfgWrite v
  else if a = Reg.PAIR_CMD then
    let op := field v 31 28
    if op = 1 then s.pairSwap 1 0 v
    else if op = 2 then s.pairSwap 2 1 v
    else if op = 3 then s.pairResync
    else s
  else s.regWrite a v

def State.latheWrite (s : State) (a : Nat) (v : Word) : State :=
  if a = Reg.LTH_CTRL then
    let s := s.put a 31 30 (field v 31 30)
    let s := when (bitAt v 1) State.lthHaltCmd s
    when (bitAt v 0) State.lthStart s
  else if a = Reg.LTH_CFG then s.lthCfgWrite a (decide (field v 31 30 = 2)) v
  else if a = Reg.METER_CFG then s.lthCfgWrite a true v
  else if a = Reg.LTH_CMD then
    let op := field v 31 28
    if op = 1 then s.lthLoad else if op = 2 then s.lthArm else if op = 3 then s.armCancel 1 else if op = 4 then s.lthRevert else s
  else s.regWrite a v

def State.fioWrite (s : State) (r : Req) (a : Nat) (v : Word) : State :=
  let off := a - 0x1C000
  if off = 0x28 then s.fioDrvWrite r false v
  else if off = 0x2C then s.fioDrvWrite r true v
  else if 0x100 ≤ off ∧ off < 0x1C0 then s.fioCfgCmd r ((off - 0x100) / 4) v
  else if 0x200 ≤ off ∧ off < 0x218 then s.fioGrpWrite r ((off - 0x200) / 4) v
  else s.regWrite a v

/-- Run bits and commands of a recorder instance. -/
def State.recCtrlWrite (s : State) (r : Req) (i : Nat) (v : Word) : State :=
  s.recGuard r i 0 v (fun s => if bitAt v 0 then s.recStart i else s.recStopReq i)

def State.recCmdWrite (s : State) (r : Req) (i : Nat) (v : Word) : State :=
  s.recGuard r i 0x2C v (fun s =>
    if field v 31 28 = 1 then s.recTrigger i
      { cause := 5, at_ := inNs (s.tb.sec, s.tb.ns), epoch := s.epoch, state := s.fld (Reg.BLZ_STAT i) 31 28, pred := 0xFF, linear := false } 0
    else if field v 31 28 = 2 then s.recRelease i else s)

def State.recWrite (s : State) (r : Req) (a : Nat) (v : Word) : State :=
  let off := a - 0x34000
  if 0xC00 ≤ off then s.regWrite a v
  else
    let i := off / 0x300
    let o := off % 0x300
    if o = 0 then s.recCtrlWrite r i v
    else if o = 0x2C then s.recCmdWrite r i v
    else if o = 0x44 then s.recGuard r i 0x44 v (fun s => if bitAt v 0 then s.blzStart i else s.blzStop i)
    else s.recConfig r i o v

def State.pwrWrite (s : State) (a : Nat) (v : Word) : State :=
  let off := a - 0x38000
  if off = 4 then s.domWrite v
  else if off = 8 then (List.range 4).foldl (fun t r => t.halfOne r v) s
  else if 0x10 ≤ off ∧ off < 0x20 then s.avsWrite ((off - 0x10) / 4) v
  else if off = 0x40 then s.tcfgWrite v
  else if off = 0x50 then s.wdtWrite v
  else if off = 0x54 then s.wdtKick v
  else if off = 0x108 then s.bootCmdWrite v
  else s.regWrite a v

/-! ### Cluster windows (R565) -/

/-- Core control, overrun, source and tracker registers. -/
def State.coreRegWrite (s : State) (c off : Nat) (v : Word) : State :=
  if off = 0 then (if bitAt v 0 then s.coreStartReq c else s.coreStopReq c)
  else if off = 4 then
    let op := field v 31 28
    if op = 1 then s.coreLoad c else if op = 2 then s.coreActivateCmd c else if op = 3 then s.coreRevert c else s.coreCmdErr c
  else if off = 0x10 then s.actAtWrite c v
  else if off = 0x100 then s.ovrCfgWrite c v
  else if off = 0x104 then s.ovrStatWrite c v
  else if off = 0x200 then s.clSrcWrite c v
  else if off = 0x300 then s.trkCfgWrite c v
  else s.regWrite (clusterKey c off) v

/-- A register of a lane block (R106, R107, R151 to R156). -/
def State.laneRegWrite (s : State) (ch o : Nat) (v : Word) : State :=
  if o = 0 then
    let s := s.loadDef ch (field v 2 1)
    if bitAt v 0 then s.runStart ch else s.runStop ch
  else if 4 ≤ o ∧ o ≤ 0x14 then s.structWrite ch (o / 4 - 1) v
  else if o = 0x20 then s.fadeRequest ch v
  else if o = 0x800 then s.stcCtrlWrite ch v
  else if o = 0x808 then s.stcThrUpWrite ch v
  else if o = 0x80C then s.stcThrDnWrite ch v
  else if 0x810 ≤ o ∧ o ≤ 0x820 then s.trimWrite ch ((o - 0x810) / 4) v
  else if o = 0x850 then s.calCfgWrite ch v
  else s.regWrite (laneKey ch o) v

/-- Part of a word of the given width in bytes replaced, at a byte address. -/
def putLane (w : Word) (a width v : Nat) : Word :=
  putField w (8 * (a % 4) + 8 * width - 1) (8 * (a % 4)) v

/-- A write that reaches a cluster window at an offset, `width` bytes wide. -/
def State.clusterWrite (s : State) (r : Req) (c off width : Nat) (v : Word) : State :=
  if off < 0x1000 then s.coreRegWrite c off v
  else if off < 0x30000 then s.imemPort r
  else if off < 0x50000 then s.dmemPort r c (off - 0x30000) v
  else if off < 0x58000 then s.laneRegWrite (8 * c + (off - 0x50000) / 0x1000) (off % 0x1000) v
  else if off < 0x70000 then s.coefWrite r c off v
  else if off < 0x80000 then s
  else if off < 0x90000 then s.detWrite c off v
  else if off < 0xA0000 then s.primRegWrite c off v
  else if off < 0x100000 then s.gaugeTable r c (off - 0xA0000) v
  else s.wr (clusterKey c (off / 4 * 4)) (putLane (s.rd (clusterKey c (off / 4 * 4))) off width v.toNat)

end Sys2Proof.Machine
end

