-- ==== Sys2Proof/Machine/HostBus.lean ====
section
/-!
DEFINITION. The host bus (chapter 17): direct accesses of the three requesters with aliases, widths and errors, the SPI slave, the
indirect interfaces with prefetch and write queue, interrupt and mailbox registers.
-/
namespace Sys2Proof.Machine
open Sys2Proof

/-! ### Direct writes (R549 to R561) -/

/-- A normal write of a defined register reaches its block. -/
def State.directWrite (s : State) (r : Req) (a : Nat) (v : Word) : State :=
  let b := a / 0x4000
  if b = 0 then s.sysWrite r a v
  else if b = 1 then s.regWrite a v
  else if b = 2 then s.tbWrite r a v
  else if b = 3 then s.tallyWrite r a v
  else if b = 4 then s.pairWrite a v
  else if b = 5 then s.latheWrite a v
  else if b = 6 then s.tripWrite r (a - 0x18000) v
  else if b = 7 then s.fioWrite r a v
  else if b = 8 then s.ethWrite r (a - 0x20000) v
  else if b < 13 then s.canBlockWrite r (b - 9) (a % 0x4000) v
  else if b = 13 then s.recWrite r a v
  else s.pwrWrite a v

/-- A word as written through the normal address (0) or the SET, CLEAR or TOGGLE alias (R557). -/
def aliasOf (win : Nat) (old v : Word) : Word :=
  if win = 0 then v else if win = 1 then old ||| v else if win = 2 then old &&& ~~~v else old ^^^ v

/-- The value an alias write gives a register: its RW fields changed, 0 elsewhere (R557). The write of that value is then
judged as a normal write of it, from the value the register shows: the lock of TL_GUARD_n is on two values of its fields (R276, log entry 16). -/
def State.aliasValue (s : State) (row : RegRow) (a win : Nat) (v : Word) : Word :=
  let old := if 0x24000 ≤ a ∧ a < 0x34000 ∧ a % 0x4000 = 0 then s.canCtrl (a / 0x4000 - 9) else s.rd a
  aliasOf win old v &&& w32 row.rw

/-- The byte lanes of a write merged over the present value (R561). -/
def mergeLanes (be : Nat) (old v : Word) : Word :=
  (List.range 4).foldl (fun w k => if be.testBit k then putField w (8 * k + 7) (8 * k) (field v (8 * k + 7) (8 * k)) else w) old

/-! ### Indirect interface (R565 to R570) -/

def Ind_width (x : Ind) : Nat :=
  let w := field x.ctrl 29 28
  if w = 0 then 4 else if w = 1 then 2 else if w = 2 then 1 else 0
def Ind_step (x : Ind) : Nat := field x.ctrl 7 0
def Ind_wr (x : Ind) : Bool := bitAt x.ctrl 31

/-- The window offset ranges of R565: first offset, the one past the last. -/
def winRanges : List (Nat × Nat) :=
  [(0, 0x1000), (0x10000, 0x20000), (0x20000, 0x30000), (0x30000, 0x50000), (0x50000, 0x58000), (0x60000, 0x64400), (0x70000, 0x78000),
   (0x80000, 0x81000), (0x90000, 0x92000), (0xA0000, 0xA4000), (0x100000, 0x200000)]

/-- The first address of the listed range an indirect address lies in, and whether that range allows widths below 32 bits (R565). -/
def indRange (a : Nat) : Option (Nat × Bool) :=
  if a < 0x4000000 then some (0, true)
  else if a < 0x10000000 ∨ 0x12000000 ≤ a then none
  else
    let o := a % 0x200000
    (winRanges.find? (fun r => r.1 ≤ o && o < r.2)).map (fun r => (a - o + r.1, decide (0x100000 ≤ o)))

/-- The cause for which an access at an address with a width in bytes fails before its target (R569); `base` is the address as set, whose
range the advancing address must not leave. -/
def State.indCause (s : State) (base a width : Nat) : Option Nat :=
  match indRange a with
  | none => some 1
  | some (first, narrow) =>
    if (indRange base).any (fun r => r.1 ≠ first) then some 1
    else if 0x10000000 ≤ a ∧ !s.regionRuns ((a - 0x10000000) / 0x200000 / 4) then some 2
    else if width = 0 ∨ (width < 4 ∧ !narrow) ∨ a % width ≠ 0 then some 4
    else none

/-- A write of HBI_IND_ADDR or HBI_IND_CTRL takes effect: prefetched words go, and in RD mode a stream starts. -/
def Ind_restart (x : Ind) : Ind :=
  let n := field x.ctrl 23 8
  { x with pf := [], base := x.addr.toNat, next := x.addr.toNat, left := if n = 0 then none else some n, live := !Ind_wr x }

def Ind_setAddr (x : Ind) (v : Word) : Ind := Ind_restart { x with addr := v }
def Ind_setCtrl (x : Ind) (v : Word) : Ind := Ind_restart { x with ctrl := v &&& 0xB0FFFFFF }

/-- A data word enters the queue with the current address (R567). -/
def Ind_queue (x : Ind) (v : Word) : Ind :=
  { x with wq := x.wq ++ [{ addr := x.addr.toNat, base := x.base, width := Ind_width x, val := v }], addr := x.addr + w32 (Ind_step x) }

/-- The writes held behind the queue take effect as far as they can (R570). -/
def Ind_drain : List HeldOp → Ind → Ind
  | [], x => { x with held := [] }
  | .data v :: t, x => Ind_drain t (Ind_queue x v)
  | .addr v :: t, x => if x.wq.isEmpty then Ind_drain t (Ind_setAddr x v) else { x with held := .addr v :: t }
  | .ctrl v :: t, x => if x.wq.isEmpty then Ind_drain t (Ind_setCtrl x v) else { x with held := .ctrl v :: t }

/-- Address and mode as the held writes set them. -/
def Ind_ahead (x : Ind) : Ind :=
  x.held.foldl (fun y h => match h with
    | .addr v => { y with addr := v }
    | .ctrl v => { y with ctrl := v &&& 0xB0FFFFFF }
    | .data _ => { y with addr := y.addr + w32 (Ind_step y) }) x

/-- Words waiting in the queue, those behind held writes included. -/
def Ind_queued (x : Ind) : Nat :=
  x.wq.length + (x.held.filter (fun h => match h with
    | .data _ => true
    | _ => false)).length

def State.indMod (s : State) (r : Req) (f : Ind → Ind) : State := s.setInd r.num (f (s.ind r.num))

/-- A write of HBI_IND_ADDR. -/
def State.indAddrWrite (s : State) (r : Req) (v : Word) : State :=
  s.indMod r (fun x => if Ind_queued x = 0 then Ind_setAddr x v else { x with held := x.held ++ [.addr v] })

/-- A write of HBI_IND_CTRL. -/
def State.indCtrlWrite (s : State) (r : Req) (v : Word) : State :=
  s.indMod r (fun x => if Ind_queued x = 0 then Ind_setCtrl x v else { x with held := x.held ++ [.ctrl v] })

/-- A write of HBI_IND_DATA: queued, or failed in RD mode or with the queue full. -/
def State.indDataWrite (s : State) (r : Req) (v : Word) : State :=
  let x := s.ind r.num
  if !Ind_wr (Ind_ahead x) then s.indFail r 5
  else if 8 ≤ Ind_queued x then s.indFail r 7
  else s.indMod r (fun x => if x.held.isEmpty then Ind_queue x v else { x with held := x.held ++ [.data v] })

/-- A read of HBI_IND_DATA (R568, R569). -/
def State.indDataRead (s : State) (r : Req) : State :=
  let x := s.ind r.num
  if Ind_wr x then (s.indFail r 5).answer r 0
  else match x.pf with
    | w :: ws => (s.setInd r.num { x with pf := ws, last := w, addr := x.addr + w32 (Ind_step x) }).answer r w
    | [] => (s.setInd r.num { x with underrun := true }).answer r x.last

/-- HBI_IND_STAT as it reads. -/
def State.indStat (s : State) (r : Req) : Word :=
  let x := s.ind r.num
  let fetching := x.live && decide (x.pf.length < 16) && decide (x.left ≠ some 0)
  w32 (x.cause % 16 * 0x10000000 + x.pf.length * 0x10000 + Ind_queued x * 0x100 + 16 * b2n (decide (8 ≤ Ind_queued x)) +
    8 * b2n (fetching || decide (Ind_queued x ≠ 0)) + 4 * b2n x.err + 2 * b2n x.underrun + b2n (!x.pf.isEmpty))

/-- A write of HBI_IND_STAT: ERR and UNDERRUN clear. -/
def State.indStatWrite (s : State) (r : Req) (v : Word) : State :=
  s.indMod r (fun x => { x with err := x.err && !bitAt v 2, underrun := x.underrun && !bitAt v 1 })

/-! ### Cluster window and MRAM reads -/

/-- A register value with its RC fields cleared by the read (R5). -/
def State.readClear (s : State) (a : Nat) : State :=
  match regRow a with
  | some row => if row.rc = 0 then s else s.wr a (s.rd a &&& ~~~ w32 row.rc)
  | none => s

/-- The value a register shows: WO fields read 0, an offset without a register reads 0. -/
def State.shown (s : State) (a : Nat) : Word :=
  match regRow a with
  | some row => s.rd a &&& ~~~ w32 row.wo
  | none => 0

/-- Whether a window offset holds memory words rather than registers. -/
def winMemory (o : Nat) : Bool :=
  (decide (0x10000 ≤ o) && decide (o < 0x50000)) || (decide (0x60000 ≤ o) && decide (o < 0x80000)) ||
  (decide (0x90400 ≤ o) && decide (o < 0x90C20)) || decide (0xA0000 ≤ o)

/-- The word at an aligned offset of a cluster window, with the read's side effect. A lane fed by an SV source shows the delay of the
subscription, and group delay 0 (R63). -/
def State.clusterWord (s : State) (c o : Nat) : State × Word :=
  let k := clusterKey c o
  let ch := 8 * c + (o - 0x50000) / 0x1000
  if winMemory o then (s, s.rd k)
  else if 0x50000 ≤ o ∧ o < 0x58000 ∧ o % 0x1000 = 0xC ∧ s.isSv c then (s, w32 (s.lane ch).delay)
  else if 0x50000 ≤ o ∧ o < 0x58000 ∧ o % 0x1000 = 0x10 then (s, w32 (s.laneGd ch))
  else (s.readClear k, s.shown k)

/-- A read that reaches its target: the value, zero-extended, and the state after its side effects. -/
def State.indRead (s : State) (a width : Nat) : State × Word :=
  if a < 0x4000000 then (s, w32 (leWord (s.mbs width a)).toNat)
  else
    let (t, w) := s.clusterWord ((a - 0x10000000) / 0x200000) (a % 0x200000 / 4 * 4)
    (t, w32 (w.toNat / 2 ^ (8 * (a % 4)) % 2 ^ (8 * width)))

/-- A write that reaches its target. -/
def State.indWrite (s : State) (r : Req) (a width : Nat) (v : Word) : State :=
  if a < 0x4000000 then
    s.mramAccess (if r.isHost then .host else .supervisor) (some r) true a width (leBytes v)
  else s.clusterWrite r ((a - 0x10000000) / 0x200000) (a % 0x200000) width v

/-! ### Prefetch and queued writes -/

/-- A prefetched word enters the buffer. -/
def Ind_push (x : Ind) (w : Word) (step : Nat) : Ind :=
  { x with pf := x.pf ++ [w], next := x.next + step, left := x.left.map (fun n => n - 1) }

/-- One word of the stream: its value, or 0 and the end of the stream where the access fails (R569). -/
def State.prefetchOne (s : State) (r : Req) (ok : Bool) : State :=
  let x := s.ind r.num
  if !x.live ∨ 16 ≤ x.pf.length ∨ x.left = some 0 then s
  else
    let fail (cause : Nat) : State :=
      (s.indFail r cause).indMod r (fun y => { Ind_push y 0 (Ind_step y) with live := false })
    match s.indCause x.base x.next (Ind_width x) with
    | some c => fail c
    | none =>
      if !ok && decide (x.next < 0x4000000) then fail 6
      else
        let (t, w) := s.indRead x.next (Ind_width x)
        t.indMod r (fun y => Ind_push y w (Ind_step y))

/-- Further words of an MRAM access, while they lie in its 64 bytes. -/
def State.prefetchBlock (s : State) (r : Req) (block : Nat) : Nat → State
  | 0 => s
  | n + 1 =>
    let x := s.ind r.num
    if Ind_step x ≠ 0 ∧ x.next < 0x4000000 ∧ x.next / 64 = block then (s.prefetchOne r true).prefetchBlock r block n else s

/-- IND_PREFETCH_DONE: one access of the stream ends; `ok` is false for an MRAM access that failed (R21). -/
def State.prefetchDone (s : State) (r : Req) (ok : Bool) : State :=
  let a := (s.ind r.num).next
  let s := s.prefetchOne r ok
  if decide (a < 0x4000000) && (s.ind r.num).live then s.prefetchBlock r (a / 64) 15 else s

def execIndPrefetchDone (req : Req) (ok : Bool) (s : State) : Host.Outcome State Fault Refusal := .next (s.prefetchDone req ok)

/-- IND_QUEUED_WRITE_DONE: the word at the head reaches its target or fails; then held writes may take effect. -/
def State.queuedDone (s : State) (r : Req) (ok : Bool) : State :=
  let x := s.ind r.num
  match x.wq with
  | [] => s
  | q :: qs =>
    let s := s.setInd r.num { x with wq := qs }
    let s := match s.indCause q.base q.addr q.width with
      | some c => s.indFail r c
      | none => if !ok && decide (q.addr < 0x4000000) then s.indFail r 6 else s.indWrite r q.addr q.width q.val
    s.indMod r (fun y => Ind_drain y.held y)

def execIndQueuedWriteDone (req : Req) (ok : Bool) (s : State) : Host.Outcome State Fault Refusal := .next (s.queuedDone req ok)

/-! ### The HBI block -/

def State.hbiWrite (s : State) (r : Req) (a : Nat) (v : Word) : State :=
  if a = Reg.HBI_IND_ADDR then s.indAddrWrite r v
  else if a = Reg.HBI_IND_DATA then s.indDataWrite r v
  else if a = Reg.HBI_IND_CTRL then s.indCtrlWrite r v
  else if a = Reg.HBI_IND_STAT then s.indStatWrite r v
  else s.regWrite a v

/-- A write by the requester's bus: byte address, byte enables, data. -/
def State.busWrite (s : State) (r : Req) (addr be : Nat) (v : Word) : State :=
  if !s.served r then s
  else if 0x3C000 ≤ addr then s.hbiErr r 2 true addr be
  else
    let win := addr % 0x4000 / 0x1000
    let a := addr / 0x4000 * 0x4000 + addr % 0x1000 / 4 * 4
    match regRow a with
    | none => s
    | some row =>
      let badAlias := decide (win ≠ 0) && !row.aliases
      let narrow := decide (be % 16 ≠ 15) && !row.bw
      if badAlias || narrow then
        let s := when badAlias (fun t => t.hbiErr r 3 true addr be) s
        when narrow (fun t => t.hbiErr r 1 true addr be) s
      else
        let d := if win = 0 then v else s.aliasValue row a win v
        let d := if row.bw then mergeLanes be (s.rd a) d else d
        if a / 0x4000 = 1 then s.hbiWrite r a d else s.directWrite r a d

/-! ### Direct reads (R548, R559, R562, R563) -/

/-- Registers whose reads return the requester's snapshot (R563). -/
def isSnap (a : Nat) : Bool :=
  [Reg.TB_TIME_NS, Reg.TB_TIME_SEC_LO, Reg.TB_TIME_SEC_HI, Reg.TB_CNT_HI, Reg.TICK_SEC_LO, Reg.TICK_SEC_HI, Reg.LTH_TURN_HI,
   Reg.FIO_EVT_SEC, Reg.FIO_EVT_TAG, Reg.FIO_EVT_CH, Reg.ETH_TXTS_SEC, Reg.ETH_TXTS_TAG].contains a ||
  (decide (0x8400 ≤ a) && decide (a < 0x8500) && (decide (a % 0x40 = 0x24) || decide (a % 0x40 = 0x28))) ||
  (decide (0x8100 ≤ a) && decide (a < 0x8300) && decide (a % 0x20 = 0x18))

/-- Seconds of lockout remaining (R391). -/
def State.lockLeft (s : State) : Nat :=
  match s.tally.lockEnd with
  | some e => satTo 65535 ((e - s.tb.cnt + 249999999) / 250000000)
  | none => 0

/-- A mailbox read clears its full bit for the reader it is meant for (R576). -/
def State.mboxRead (s : State) (r : Req) (s2h : Bool) (n : Nat) : State :=
  let a := if s2h then Reg.MBOX_S2H n else Reg.MBOX_H2S n
  let s := s.answer r (s.rd a)
  if s2h = r.isHost then s.putBit Reg.MBOX_STAT (if s2h then n else 4 + n) false else s

/-- A read of a CAN object window (R489). -/
def State.canRead (s : State) (r : Req) (a : Nat) : State :=
  let c := a / 0x4000 - 9
  let o := a % 0x4000
  let b := (o - 0x100) / 0x80
  let w := ((o - 0x100) % 0x80 - 0x20) / 4
  if 0x100 ≤ o ∧ o < 0x200 ∧ 0x20 ≤ (o - 0x100) % 0x80 then
    if w = 3 then s.canW3Read r c b else s.answer r (s.canOwin c b w)
  else if o = 0 then s.answer r (s.canCtrl c)
  else if o = 4 then s.answer r (s.canStat c)
  else (s.readClear a).answer r (s.shown a)

/-- A read at a normal offset: the value, and the read's side effects after it. -/
def State.readReg (s : State) (r : Req) (a : Nat) : State :=
  if isSnap a then s.answer r (s.snap r a)
  else if a = Reg.INT_PIN then s.answer r s.intPin
  else if 0x140 ≤ a ∧ a < 0x160 then s.mboxRead r (decide (a % 8 = 0)) ((a - 0x140) / 8)
  else if a = Reg.TICK_IDX then s.tickIdxRead r
  else if a = Reg.HBI_IND_ADDR then s.answer r (Ind_ahead (s.ind r.num)).addr
  else if a = Reg.HBI_IND_DATA then s.indDataRead r
  else if a = Reg.HBI_IND_CTRL then s.answer r (Ind_ahead (s.ind r.num)).ctrl
  else if a = Reg.HBI_IND_STAT then s.answer r (s.indStat r)
  else if a = Reg.TB_TIME_FRAC then s.timeFracRead r
  else if a = Reg.TB_CNT_LO then s.cntRead r
  else if 0x8400 ≤ a ∧ a < 0x8500 ∧ a % 0x40 = 0x20 then s.tioCapRead r ((a - 0x8400) / 0x40)
  else if 0x8100 ≤ a ∧ a < 0x8300 ∧ a % 0x20 = 0x14 then s.almLastRead r ((a - 0x8100) / 0x20)
  else if a = Reg.LTH_TURN_LO then s.turnRead r
  else if a = Reg.FIO_EVT_NS then s.fioEvtRead r
  else if a = Reg.ETH_TXTS_NS then s.txtsRead r
  else if a = Reg.ETH_TBL_DATA then s.tblRead r
  else if a = Reg.TALLY_CLR_STAT then s.answer r (putField (s.rd a) 31 16 s.lockLeft)
  else if a = Reg.PAIR_SHARE then s.answer r s.shareShown
  else if 0x24000 ≤ a ∧ a < 0x34000 then s.canRead r a
  else (s.readClear a).answer r (s.measured a (s.shown a))

/-- A read by the requester's bus. At an alias offset it has no side effect (R559). -/
def State.busRead (s : State) (r : Req) (addr be : Nat) : State :=
  if !s.served r then s
  else if 0x3C000 ≤ addr then (s.hbiErr r 2 false addr be).answer r 0
  else
    let a := addr / 0x4000 * 0x4000 + addr % 0x1000 / 4 * 4
    if addr % 0x4000 < 0x1000 then s.readReg r a else s.answer r ((s.readReg r a).answered r)

/-! ### Commands -/

def execRegisterWrite (req : Req) (addr : BitVec 20) (be : BitVec 4) (v : Word) (s : State) : Host.Outcome State Fault Refusal :=
  .next (s.busWrite req addr.toNat be.toNat v)

/-- ALIAS_WRITE: the command is a write at an alias offset. -/
def State.aliasWrite (s : State) (r : Req) (win a be : Nat) (v : Word) : State := s.busWrite r (a + 0x1000 * win) be v

/-- ALIAS_WRITE: `win` 0 SET, 1 CLEAR, 2 TOGGLE of the register at a normal address. -/
def execAliasWrite (req : Req) (win : Fin 3) (addr : BitVec 18) (be : BitVec 4) (v : Word) (s : State) :
    Host.Outcome State Fault Refusal :=
  .next (s.aliasWrite req (win.val + 1) (addr.toNat / 0x4000 * 0x4000 + addr.toNat % 0x1000) be.toNat v)

/-- READ_CLEAR: a read of a register. -/
def execReadClear (req : Req) (addr : BitVec 20) (s : State) : Host.Outcome State Fault Refusal :=
  .next (s.busRead req addr.toNat 15)

/-- UNMAPPED_ACCESS: an access at or above 0x3_C000. -/
def execUnmappedAccess (req : Req) (write : Bool) (addr : BitVec 20) (be : BitVec 4) (s : State) :
    Host.Outcome State Fault Refusal :=
  .next (if addr.toNat < 0x3C000 then s
    else if write then s.busWrite req addr.toNat be.toNat 0 else s.busRead req addr.toNat be.toNat)

/-- A word read by an SPI frame goes to its master. -/
def State.spiRead (s : State) (a be : Nat) : State :=
  let t := s.busRead .host a be
  t.setSpiOut (t.spiOut ++ [t.answered .host])

/-- The words of an SPI frame, in order (R553): `ws` are the data written, or for a read their number is the number of words
clocked, whose values go to the master. -/
def State.spiWords (s : State) (rd inc : Bool) (be : Nat) : Nat → List Word → State
  | _, [] => s
  | a, w :: ws =>
    let s := if rd then s.spiRead a be else s.busWrite .host a be w
    s.spiWords rd inc be (if inc then (a + 4) % 0x100000 else a) ws

/-- SPI_FRAME: a header with a reserved bit set is ignored and reported (R553). -/
def State.spiFrame (s : State) (h : Word) (ws : List Word) : State :=
  if !s.power.spi || !s.hbiReady then s
  else
  let s := s.setSpiOut []
  if field h 29 28 ≠ 0 ∨ field h 23 20 ≠ 0 ∨ field h 1 0 ≠ 0 then (s.putBit Reg.HBI_STAT 4 true).irq 45
  else s.spiWords (bitAt h 31) (bitAt h 30) (field h 27 24) (field h 19 2 * 4) ws

def execSpiFrame (hdr : Word) (ws : List Word) (s : State) : Host.Outcome State Fault Refusal := .next (s.spiFrame hdr ws)

def execHbiIndAddrWrite (req : Req) (v : Word) (s : State) : Host.Outcome State Fault Refusal :=
  s.access req (fun s => s.indAddrWrite req v)
def execHbiIndCtrlWrite (req : Req) (v : Word) (s : State) : Host.Outcome State Fault Refusal :=
  s.access req (fun s => s.indCtrlWrite req v)
def execHbiIndDataRead (req : Req) (s : State) : Host.Outcome State Fault Refusal :=
  s.access req (fun s => s.indDataRead req)
def execHbiIndDataWrite (req : Req) (be : BitVec 4) (v : Word) (s : State) : Host.Outcome State Fault Refusal :=
  s.access req (fun s => if be.toNat ≠ 15 then s.hbiErr req 1 true Reg.HBI_IND_DATA be.toNat else s.indDataWrite req v)
/-- INT_STAT_CLEAR and INT_FORCE name no requester: while PD_SYS runs one of them is served (R551, log entry 198). -/
def execIntStatClear (hi : Bool) (v : Word) (s : State) : Host.Outcome State Fault Refusal := .next (if s.sysRuns then s.intClear hi v else s)
def execIntForce (hi : Bool) (v : Word) (s : State) : Host.Outcome State Fault Refusal := .next (if s.sysRuns then s.intForce hi v else s)
def execMboxS2hWrite (req : Req) (n : Fin 4) (v : Word) (s : State) : Host.Outcome State Fault Refusal :=
  s.access req (fun s => s.mboxS2h req n.val v)
def execMboxH2sWrite (req : Req) (n : Fin 4) (v : Word) (s : State) : Host.Outcome State Fault Refusal :=
  s.access req (fun s => s.mboxH2s req n.val v)
def execMboxS2hRead (req : Req) (n : Fin 4) (s : State) : Host.Outcome State Fault Refusal :=
  s.access req (fun s => s.mboxRead req true n.val)
def execMboxH2sRead (req : Req) (n : Fin 4) (s : State) : Host.Outcome State Fault Refusal :=
  s.access req (fun s => s.mboxRead req false n.val)

end Sys2Proof.Machine
end

