-- ==== Sys2Proof/Machine/SupMem.lean ====
section
/-!
DEFINITION. The memories of the supervisor cores (R157): 256 KB of instructions and 512 KB of data each, and 2 MB shared.
-/
namespace Sys2Proof.Machine
open Sys2Proof

/-- Key of the memory word at a byte address of supervisor core i, where memory stands there. -/
def supKey (i a : Nat) : Option Nat :=
  let (kind, off) := Config.supPlace a
  let o := off / 4 * 4
  if kind = 1 ∧ off < 0x40000 then some (0xB0000000 + i * 0x100000 + o)
  else if kind = 2 ∧ off < 0x80000 then some (0xB0000000 + i * 0x100000 + 0x40000 + o)
  else if kind = 3 ∧ off < 0x200000 then some (0xB0800000 + o)
  else none

/-- Key of a GOOSE word as last committed, where one stands at a byte address: words 8 to 255 of the output image, read-only for
supervisor firmware (R293, R294). -/
def gooseWord (a : Nat) : Option Nat :=
  let (kind, off) := Config.supPlace a
  if kind = 5 ∧ 32 ≤ off ∧ off < 1024 then some (0xA2020000 + off / 4 * 4) else none

/-- Put words into the memory of supervisor core i from a byte address; words where no memory stands are lost. -/
def State.supLoad (s : State) (i a : Nat) : List Word → State
  | [] => s
  | w :: ws =>
    let s := match supKey i a with
      | some k => s.wr k w
      | none => s
    s.supLoad i (a + 4) ws

/-- The word index of an instruction at a byte address (R226: EPC and VBASE are byte addresses). -/
def supPc (a : Nat) : Nat := a / 4 % 65536

/-- Control registers of a supervisor core. -/
def State.sup (s : State) (i : Nat) : SupU := SMap.get (fun _ => SupU.init) s.sups i
def State.setSup (s : State) (i : Nat) (x : SupU) : State := { s with sups := SMap.set (fun _ => SupU.init) s.sups i x }

end Sys2Proof.Machine
end

