-- ==== Sys2Proof/Machine/Boot.lean ====
section
/-!
DEFINITION. The boot service (R594, R598 to R603): loading of the directory's entries, application of the CFG image, the steps up to
PROTECTION_READY, and what follows a region's reset or a domain switch.
-/
namespace Sys2Proof.Machine
open Sys2Proof

/-! ### Failures and stages (R600, R601) -/

/-- A loaded entry: BOOT_IMAGE. -/
def State.bootLoaded (s : State) (e ver env : Nat) : State :=
  (s.bootMod (fun b => { b with loaded := b.loaded ||| 2 ^ e })).pwrLog 58 0x220 e ver env

/-- A failed entry: its bit in FAIL, DEGRADED for LTH and ELM, and BOOT_IMAGE_FAIL. -/
def State.bootFail (s : State) (e reason detail : Nat) : State :=
  let s := (s.putBit Reg.BOOT_STAT e true).putBit Reg.BOOT_STAT 30 (s.bit Reg.BOOT_STAT 30 || decide (3 ≤ e))
  s.pwrLog 58 0x221 e reason detail

/-- The boot stops and waits for the host. -/
def State.waitHost (s : State) : State :=
  let s := (s.bootMod (fun b => { b with todo := [] })).setStage 8
  s.pwrLog 58 0x224 0 (s.fld Reg.BOOT_STAT 19 0) 0

/-! ### SUP (R598) -/

/-- The entry of the payload becomes the program of a supervisor core. -/
def State.supStart (s : State) (i entry : Nat) : State :=
  let k : Core := { Core.init with pc := supPc entry, run := .active, cyc := s.tb.cnt * 16 / 5 }
  s.setCore (16 + i) k

/-- SUP is loaded into the supervisor's memory and started on core 1; the watchdog begins to count (R591). -/
def State.supApply (s : State) (e env : Nat) : State :=
  let b := env + payloadOff
  let load := s.mN b
  let entry := s.mN (b + 4)
  let code := s.mws ((s.payloadLen env - 8) / 4) (b + 8)
  let s := (s.supLoad 0 load code).supLoad 1 load code
  let s := (s.bootMod (fun x => { x with supEntry := some entry, vers := SMap.set (fun _ => 0) x.vers 1 (s.envVersion env) })).supStart 1 entry
  let s := (s.putBit Reg.PWR_WDT 31 true).pwrMod (fun p => { p with wdtAt := s.tb.cnt, wdtWarned := false })
  s.bootLoaded e (s.envVersion env) env

/-- SUP of directory entry e (0 or 1): a program of type 1 is loaded, anything else fails. -/
def State.bootSup (s : State) (e : Nat) : State :=
  (((s.dirEntry e).filter (fun env => s.envOk env 1)).map (fun env => s.supApply e env)).getD (s.bootFail e 0x11 0)

/-! ### CFG (R598) -/

/-- Flags by which a block reports a refused write, for a direct address or a cluster window. -/
def denyFlags (a : Nat) : List (Nat × Word) :=
  if a < 0x80000000 then
    [(Reg.CLAIM_STAT, 3), (Reg.LTH_STAT, 0x200000), (Reg.LTH_RCK, 0x20), (Reg.TALLY_STAT, 0x48), (Reg.TALLY_CLR_STAT, 0xC),
     (Reg.TB_STAT, 0xC0), (Reg.ETH_ISTAT, 0x10), (Reg.FIO_FSTAT, 0x40), (Reg.PAIR_FLAG, 0xC0), (Reg.HBI_STAT, 0x3E),
     (Reg.TRIP_STAT, 0x1E), (Reg.BOOT_STAT, 0x20000000), (Reg.PWR_FLAG, 1)] ++
    (List.range 4).flatMap (fun i => [(Reg.REC_STAT i, 0x78), (Reg.BLZ_STAT i, 0x2000000), (Reg.CAN_ISTAT i, 0x80)]) ++
    (List.range 16).map (fun n => (Reg.ALM_STAT n, 8))
  else
    let c := (a - 0x90000000) / 0x200000
    [(Reg.CL_SRC c, 0x40000000), (Reg.TRK_STAT c, 8), (Reg.CORE_STAT c, 0xC00), (Reg.IFD_STAT c, 0x200), (Reg.FPD_STAT c, 0x800),
     (Reg.CRV_STAT c, 3)] ++ (List.range 8).map (fun l => (kSTAT (8 * c + l), 0x700))

/-- The state after an action, and whether one of the flags reports a refusal of it; flags set before stay set. -/
def State.watched (s : State) (fl : List (Nat × Word)) (f : State → State) : State × Bool :=
  let clear := fl.foldl (fun t x => t.wr x.1 (t.rd x.1 &&& ~~~x.2)) s
  let t := f (clear.indMod .sup0 (fun x => { x with err := false }))
  let bad := fl.any (fun x => decide (t.rd x.1 &&& x.2 ≠ 0)) || (t.ind 1).err
  (fl.foldl (fun u x => u.wr x.1 (u.rd x.1 ||| (s.rd x.1 &&& x.2))) t, bad)

/-- Lockable registers by window offset: IFD_CFG, thresholds, IFD_HOLD, CD_CFG and CL_ROLE (R248). -/
def lockable (o : Nat) : Bool := (decide (0x80008 ≤ o) && decide (o ≤ 0x8001C)) || decide (o = 0x80028) || decide (o = 0x8002C)

/-- A write of a lockable register by the boot service: stored without the key; the restart follows when the image is through. -/
def State.bootIfd (s : State) (c o : Nat) (v : Word) : State :=
  if o = 0x80028 then s.roleStore c v else s.ifdStore c (if o = 0x8002C then 6 else (o - 0x80008) / 4) v

/-- A write of the CFG image at an indirect address. -/
def State.cfgInd (s : State) (a : Nat) (v : Word) : State × Bool :=
  match s.indCause a a 4 with
  | some _ => (s, true)
  | none =>
    let c := (a - 0x10000000) / 0x200000
    let o := a % 0x200000
    if a < 0x4000000 then s.watched [] (fun t => t.indWrite .sup0 a 4 v)
    else if lockable o then s.watched (denyFlags (clusterKey c 0)) (fun t => t.bootIfd c o v)
    else s.watched (denyFlags (clusterKey c 0)) (fun t => t.clusterWrite .sup0 c o 4 v)

/-- A write, at its address or an alias, that leaves its line unguarded in TL_GUARD is preceded by the key sequence (R276). -/
def State.cfgKey (s : State) (a : Nat) (v : Word) : State :=
  let b := a / 0x4000 * 0x4000 + a % 0x1000
  let old := s.rd b
  let new := aliasOf (a % 0x4000 / 0x1000) old v
  if 0x18400 ≤ b ∧ b < 0x18500 ∧ (field new 31 30 = 2 ∨ bitAt new 29) then
    let n := (b - 0x18400) / 4
    (s.tripKeyWrite .sup0 (w32 (n * 65536 + 0x96E1))).tripKeyWrite .sup0 (w32 (n * 65536 + 0x1E69))
  else s

/-- Whether a direct write starts lines, recorders or Blaze: step 5 makes it (R600). -/
def startsLater (a : Nat) (v : Word) : Bool :=
  let n := a / 0x4000 * 0x4000 + a % 0x1000
  decide (n = Reg.TL_RUN_LO) || decide (n = Reg.TL_RUN_HI) ||
  (bitAt v 0 && (List.range 4).any (fun i => decide (n = Reg.REC_CTRL i) || decide (n = Reg.BLZ_CTRL i)))

/-- A write of the CFG image at a direct address. -/
def State.cfgDirect (s : State) (a : Nat) (v : Word) : State × Bool :=
  if startsLater a v then
    let n := a / 0x4000 * 0x4000 + a % 0x1000
    let lines := if a % 0x4000 / 0x1000 = 2 then 0
      else if n = Reg.TL_RUN_LO then v.toNat else if n = Reg.TL_RUN_HI then v.toNat * 4294967296 else 0
    (s.bootMod (fun b => { b with later := b.later ++ [(a, v)], lines := b.lines ||| lines }), false)
  else s.watched (denyFlags a) (fun t => (t.cfgKey a v).busWrite .sup0 a 15 v)

/-- The write of the CFG image at an address, and whether it is refused. -/
def State.cfgWrite (s : State) (at_ : Nat) : State × Bool :=
  let w := s.mw at_
  let v := s.mw (at_ + 4)
  let a := w.toNat % 0x80000000
  if bitAt w 31 then s.cfgInd a v else s.cfgDirect a v

/-- The writes of the CFG image in order from an address, n left: the number of the one refused, or none. -/
def State.cfgWrites (s : State) (at_ num : Nat) : Nat → State × Option Nat
  | 0 => (s, none)
  | n + 1 =>
    let r := s.cfgWrite at_
    if r.2 then (r.1, some num) else r.1.cfgWrites (at_ + 8) (num + 1) n

/-- Clusters a CFG image gives lockable IFD settings: they are restarted (R249). -/
def State.cfgIfds (s : State) (at_ n : Nat) : List Nat :=
  idxWhere 16 (fun c => (List.range n).any (fun i =>
    let w := s.mw (at_ + 8 * i)
    let a := w.toNat % 0x80000000
    bitAt w 31 && decide (0x10000000 ≤ a) && decide ((a - 0x10000000) / 0x200000 = c) && lockable (a % 0x200000)))

/-- The CFG image stops the boot with a reason. -/
def State.cfgFail (s : State) (reason p1 : Nat) : State := (s.bootFail 2 reason p1).waitHost

/-- The writes of the CFG image are through (R600 step 3); b is its payload. -/
def State.cfgDone (s : State) (env b : Nat) : State :=
  let s := s.bootMod (fun x => { x with cfgDone := true, cfgEnv := b, vers := SMap.set (fun _ => 0) x.vers 4 (s.envVersion env) })
  let s := s.bootLoaded 2 (s.envVersion env) env
  if s.started ∨ s.tb.startReq then s else s.tbCmdStart .sup0 0x10000000

/-- The CFG image with its claims: they are taken, nw writes are made from at_, and the clusters of `ifds` are restarted. -/
def State.cfgTake (s : State) (env : Nat) (claims : List Nat) (at_ nw : Nat) : State :=
  let ifds := s.cfgIfds at_ nw
  let r := (s.takeClaims 0x03 claims).cfgWrites at_ 0 nw
  let s := ifds.foldl (fun t c => t.ifdRestart c) r.1
  (r.2.map (fun k => s.cfgFail (Config.cfgFailReason (0x20000 + k)) 0)).getD (s.cfgDone env (env + payloadOff))

/-- CFG: its claims are taken as owner 0x03, its writes made in order; then the time base starts (R598, R600 step 3). -/
def State.cfgApply (s : State) (env : Nat) : State :=
  let b := env + payloadOff
  let nc := s.mN b
  let claims := (List.range nc).map (fun i => s.mN (b + 4 + 4 * i) % 65536)
  let at_ := b + 4 + 4 * nc
  ((s.claimRefusal 0x03 claims).map (fun res => s.cfgFail 0x0F res)).getD (s.cfgTake env claims (at_ + 4) (s.mN at_))

/-- CFG of directory entry 2: an image of type 4 is applied, anything else fails. -/
def State.bootCfg (s : State) : State :=
  (((s.dirEntry 2).filter (fun env => s.envOk env 4)).map (fun env => s.cfgApply env)).getD (s.cfgFail 0x11 0)

/-! ### LTH and ELM (R600) -/

/-- The validated LTH is activated stopped; a late one starts at once. -/
def State.lthBooted (s : State) (env : Nat) : State :=
  let s := s.activatePending.bootLoaded 3 (s.envVersion env) env
  if s.power.boot.started then s.lthStart else s

/-- LTH at env is loaded and validated. -/
def State.lthBoot (s : State) (env : Nat) : State :=
  let s := ((s.wr Reg.LTH_IMG_ADDR (w32 env)).lthLoad).lthValidated
  if s.bit Reg.LTH_RCK 1 then s.lthBooted env else s.bootFail 3 (s.fld Reg.LTH_VAL 31 24) (s.fld Reg.LTH_VAL 23 0)

/-- LTH, where the directory has it. -/
def State.bootLth (s : State) : State := ((s.dirEntry 3).map s.lthBoot).getD s

/-- The ELM image of cluster c at env is loaded, validated, activated stopped, and its core asked to run. -/
def State.elmBoot (s : State) (c env : Nat) : State :=
  let s := ((s.wr (Reg.CORE_IMG_ADDR c) (w32 env)).coreLoad c).coreValidated c
  if s.cstat c csVALID then ((s.coreActivate c 2).bootLoaded (4 + c) (s.envVersion env) env).coreStartReq c
  else s.bootFail (4 + c) (s.fld (Reg.CORE_VAL c) 31 24) (s.fld (Reg.CORE_VAL c) 23 0)

/-- The ELM image of cluster c, where the directory has it; it fails in a region that does not run. -/
def State.bootElm (s : State) (c : Nat) : State :=
  ((s.dirEntry (4 + c)).map (fun env => if s.regionRuns (c / 4) then s.elmBoot c env
    else s.bootFail (4 + c) (Config.cfgFailReason ((4 + c) * 0x10000)) 0)).getD s

/-! ### Steps (R600, R601) -/

/-- AFE check of the powered dies, once the time base runs (step 4). -/
def State.bootChecks (s : State) : State :=
  if s.power.boot.checked || !s.tick.running then s
  else
    let s := s.bootMod (fun b => { b with checked := true })
    (List.range 2).foldl (fun t d => if t.dieOn d then t.recheck d else t) s

/-- The writes of the CFG image that wait for step 5, in order: the number among them of the one refused, or none. -/
def State.laterWrites (s : State) (num : Nat) : List (Nat × Word) → State × Option Nat
  | [] => (s, none)
  | x :: xs =>
    let r := s.watched (denyFlags x.1) (fun t => t.busWrite .sup0 x.1 15 x.2)
    if r.2 then (r.1, some num) else r.1.laterWrites (num + 1) xs

/-- A run write of the CFG image is refused in step 5: a boot failure of CFG, which a CONTINUE applies again (R598, R601). -/
def State.startsFail (s : State) (k : Nat) : State :=
  (s.cfgFail (Config.cfgFailReason (16777216 + k)) 0).bootMod (fun b => { b with
    started := false, cfgDone := false, loaded := if b.loaded.testBit 2 then b.loaded - 4 else b.loaded })

/-- Step 5: the run bits CFG names, then the Lathe under RESTART_MODE. -/
def State.bootStarts (s : State) : State :=
  let later := s.power.boot.later
  let r := (s.bootMod (fun b => { b with started := true, later := [] })).laterWrites 0 later
  match r.2 with
  | some k => r.1.startsFail k
  | none => (if r.1.power.boot.loaded.testBit 3 then r.1.lthStart else r.1).setStage 5

/-- The boot moves to the step its work has reached; with DEGRADED and no leave it stops before step 6. -/
def State.bootAdvance (s : State) : State :=
  if !s.sysRuns || decide (s.stage = 0) || decide (6 ≤ s.stage) then s
  else
    let s := s.bootChecks
    if !s.power.boot.todo.isEmpty then s.setStage 1
    else if !s.tick.running then s.setStage 3
    else if !s.power.boot.checked || (List.range 2).any (fun d => s.bit (Reg.AFE_STAT d) 3) then s.setStage 4
    else
      let s := if s.power.boot.started then s.setStage 5 else s.bootStarts
      if decide (s.stage = 5) && s.bit Reg.BOOT_STAT 30 && !s.bit Reg.BOOT_CFG 0 then s.waitHost else s

/-- BOOT_IMAGE_DONE: the entry at the head of the work list is through. -/
def State.bootImageDone (s : State) (e : Nat) : State :=
  if !s.sysRuns then s
  else match s.power.boot.todo with
    | [] => s
    | x :: rest =>
      if x ≠ e then s
      else
        let s := s.bootMod (fun b => { b with todo := rest })
        let s :=
          if e ≤ 1 then
            let s := s.bootSup e
            if s.power.boot.loaded.testBit e then s
            else if s.bit Reg.BOOT_STAT (1 - e) then s.waitHost
            else s.bootMod (fun b => { b with todo := (1 - e) :: b.todo })
          else if e = 2 then s.bootCfg
          else if e = 3 then s.bootLth
          else s.bootElm (e - 4)
        s.bootAdvance

def execBootImageDone (e : Fin 20) (s : State) : Host.Outcome State Fault Refusal := .next (s.bootImageDone e.val)

/-- TICK_START: the grid advances, and the boot goes on where it waited for a tick. -/
def execTickStart (s : State) : Host.Outcome State Fault Refusal :=
  .next (if !s.started || s.inPhases then s else s.tickStart.bootAdvance)

/-! ### PROTECTION_READY (R603) -/

/-- Whether a lane has delivered a slot with INVALID = 0 since its last settling event. -/
def State.laneValid (s : State) (ch : Nat) : Bool := (s.lane ch).valid

/-- Whether a lane is one PROTECTION_READY waits for. -/
def State.laneWanted (s : State) (ch : Nat) : Bool :=
  !s.isSv (clOf ch) && !s.bit (Reg.REG_STAT (chRegion ch)) 19 && !s.bit (kSST ch) 4

/-- The conditions of R603, and TEST_EN low (R625). -/
def State.readyHolds (s : State) : Bool :=
  let deg := s.bit Reg.BOOT_STAT 30 && s.bit Reg.BOOT_CFG 0
  decide (s.stage = 5) && s.power.boot.cfgDone && s.started &&
  (List.range 64).all (fun n => !s.power.boot.lines.testBit n || s.tlRunning n) &&
  (List.range 16).all (fun c => (s.dirEntry (4 + c)).isNone || deg || ((s.elem c).active.isSome && !s.coreStopped c)) &&
  ((s.dirEntry 3).isNone || s.lthRunning || (deg && s.bit Reg.BOOT_STAT 3)) &&
  (List.range 128).all (fun ch => !s.laneWanted ch || s.laneValid ch) &&
  (!s.bit Reg.BOOT_CFG 1 || s.bit Reg.PWR_STAT 11) && !s.power.testEn

/-- PROTECTION_READY: outputs of a single package are enabled, and core 0 joins the firmware. -/
def State.protectionReady (s : State) : State :=
  let s := (s.putBit Reg.BOOT_STAT 31 true).setStage 9
  let s := s.bootMod (fun b => { b with readyAt := some s.tb.cnt })
  let s := s.pwrLog 58 0x222 (b2n (s.bit Reg.BOOT_STAT 30)) s.tick.idx ((s.tb.cnt - s.power.relAt) / 250000)
  let s := match s.power.boot.supEntry with
    | some e => s.supStart 0 e
    | none => s
  s.fioRole.tlDrive

/-- ELEMENT_PHASE_START: the entry phase of a cluster ends. -/
def execElementPhaseStart (c : Fin 16) (s : State) : Host.Outcome State Fault Refusal :=
  .next (if s.clPhase c.val ≠ .entry then s
    else (if s.readyHolds then s.protectionReady else s).elementStart c.val)

/-! ### Region reset and domain switches (R582, R594) -/

/-- The writes of the applied CFG image that lie in region r's windows are made again. -/
def State.cfgRegion (s : State) (r at_ : Nat) : Nat → State
  | 0 => s
  | n + 1 =>
    let w := s.mw at_
    let a := w.toNat % 0x80000000
    let t := if bitAt w 31 && decide (0x10000000 ≤ a) && decide ((a - 0x10000000) / 0x200000 / 4 = r) then (s.cfgInd a (s.mw (at_ + 4))).1
      else s
    t.cfgRegion r (at_ + 8) n

/-- The modulator period a die has reached: that of its lanes outside region r, or of the running tick. -/
def State.diePeriod (s : State) (r : Nat) : Nat :=
  (List.range 128).foldl (fun n ch => if dieOf ch = r / 2 ∧ chRegion ch ≠ r then max n (s.lane ch).per else n) (3072 * s.tickNo)

/-- PD_REG_r leaves reset: lanes hold F-LIN and settle, trims load from OTP (R94), its part of CFG is applied again and its images are loaded (R594). -/
def State.regionRelease (s : State) (r : Nat) : State :=
  let per := s.diePeriod r
  let s := s.setHeldRegs (s.heldRegs.filter (fun x => decide (x ≠ r)))
  let s := (List.range 32).foldl (fun t l =>
    let ch := 32 * r + l
    (t.laneMod ch (fun x => { x.lose (chainCfg (t.rd (kCFG ch))).p per with starts := (s.tick.runs :: x.starts).take 4096 })).requestChain ch 7) s
  let s := s.loadTrims r
  let s := if s.power.boot.cfgDone then
      let b := s.power.boot.cfgEnv
      let at_ := b + 4 + 4 * s.mN b
      let ifds := (s.cfgIfds (at_ + 4) (s.mN at_)).filter (fun c => decide (c / 4 = r))
      ifds.foldl (fun t c => t.ifdRestart c) (s.cfgRegion r (at_ + 4) (s.mN at_))
    else s
  let es := ((List.range 4).map (fun i => 4 + 4 * r + i)).filter (fun e => (s.dirEntry e).isSome && !s.power.boot.todo.contains e)
  let s := s.bootMod (fun b => { b with todo := b.todo ++ es, loaded := es.foldl (fun m e => if m.testBit e then m - 2 ^ e else m) b.loaded })
  (s.irq (16 + r)).log 0x217 r s.tick.idx 0

/-- REGION_RESET_RELEASE: 20 µs after the reset (R594). -/
def execRegionResetRelease (r : Fin 4) (s : State) : Host.Outcome State Fault Refusal :=
  .next (if s.heldRegs.contains r.val then
    (s.reachCnt (SMap.get (fun _ => 0) s.power.heldAt r.val + 5000)).regionRelease r.val else s)

/-- What the switch of domain bit b to a state does. -/
def State.domSwitched (s : State) (b : Nat) (on : Bool) : State :=
  let was := s.deadlinesLeft
  let s := s.putBit Reg.PWR_STAT b on
  if b = 0 then (if on then s.netUp else s.netOff)
  else if b ≤ 4 then
    let r := b - 1
    let s := s.putBit (Reg.REG_STAT r) 19 (!on)
    if on then (s.regionClear r false).regionRelease r
    else
      let s := (s.regionClear r true).tlStep
      if was && !s.deadlinesLeft && s.inExit then s.ownDeadline else s
  else if on then s.recheck (b - 5)
  else
    -- CHECK_DONE and REF_OK tell of a check since the die was switched on (R82, R95).
    s.put (Reg.AFE_STAT (b - 5)) 3 1 0

/-- DOMAIN_SWITCH_DONE: the domain of PWR_DOM bit b has followed it; PD_NET does not come on during hold-up (R582). The record names
PWR_DOM and what it was before its last change (R606, log entry 186). -/
def State.domainDone (s : State) (b : Nat) : State :=
  let want := s.bit Reg.PWR_DOM b
  if !s.sysRuns ∨ s.bit Reg.PWR_STAT b = want ∨ (b = 0 ∧ want ∧ s.holdActive) then s
  else
    (s.domSwitched b want).pwrLog 44 0x213 0 (s.rd Reg.PWR_DOM).toNat s.power.domOld.toNat

def execDomainSwitchDone (bit : Fin 7) (s : State) : Host.Outcome State Fault Refusal := .next (s.domainDone bit.val)

end Sys2Proof.Machine
end

