-- ==== Sys2Proof/Machine/Exec.lean ====
section
/-!
DEFINITION. How a core executes one instruction word (R159, R161, R168 to R179): fetch, decoding, issue, predicate, the
instruction's own effect, loop ends, and what an exception does on each profile.
-/
namespace Sys2Proof

/-! ### Registers of a core (R159) -/

def Core.gr (x : Core) (i : Nat) : Word := if i = 0 then 0 else x.g[i]?.getD 0
def Core.setGr (x : Core) (i : Nat) (v : Word) : Core := if i = 0 then x else { x with g := x.g.setIfInBounds i v }
def Core.zr (x : Core) (i : Nat) : Word × Word := x.z[i]?.getD (0, 0)
def Core.setZr (x : Core) (i : Nat) (v : Word × Word) : Core := { x with z := x.z.setIfInBounds i v }
def Core.pr (x : Core) (i : Nat) : Bool := decide (i = 0) || x.p.getLsbD i
def Core.setPr (x : Core) (i : Nat) (b : Bool) : Core :=
  if i = 0 then x else { x with p := (x.p &&& ~~~ BitVec.ofNat 8 (2 ^ i)) ||| BitVec.ofNat 8 (b2n b * 2 ^ i) }

/-- Whether an instruction takes effect: p[PS] XOR PN (R161). -/
def Core.taken (x : Core) (pn : Bool) (ps : Nat) : Bool := x.pr ps != pn

/-- Iteration index of the loop at nesting level n, 0 the outermost; 0 when the level holds none (R200). -/
def Core.lc (x : Core) (n : Nat) : Nat := (x.loops.reverse[n]?.map (·.idx)).getD 0

/-- The issue state of a core. -/
def Core.timing (x : Core) : Timing := { cyc := x.cyc, ready := x.ready, flagsAt := x.flagsAt }

/-- Where execution goes on after an instruction left the PC at p: past the last instruction of the innermost body of the
running function the next iteration starts, or the loop ends and the enclosing one is looked at (R169). -/
def loopTurn (depth p : Nat) : List LoopFrame → List LoopFrame × Nat
  | [] => ([], p)
  | f :: fs =>
    if f.depth ≠ depth ∨ p ≠ f.start + f.len then (f :: fs, p)
    else if f.idx + 1 < f.trip then ({ f with idx := f.idx + 1 } :: fs, f.start)
    else loopTurn depth p fs

/-- The core goes on at p. -/
def Core.goTo (x : Core) (p : Nat) : Core :=
  let (loops, pc) := loopTurn x.rets.length p x.loops
  { x with loops := loops, pc := pc }

/-- What an instruction does when it takes effect: it completes and execution goes on behind it, or at a word index with an issue
cost, or it raises an exception with its cause and address, or it ends the program's work for the tick or turn. -/
inductive WEff where
  | ok (s : Machine.State)
  | jump (s : Machine.State) (pc cost : Nat)
  | trap (cause addr : Nat)
  | done (s : Machine.State)

end Sys2Proof

namespace Sys2Proof.Machine
open Sys2Proof

/-! ### Registers -/

def State.gr (s : State) (k : CoreId) (i : Nat) : Word := (s.core k.num).gr i
def State.setGr (s : State) (k : CoreId) (i : Nat) (v : Word) : State := s.coreMod k.num (fun x => x.setGr i v)
def State.zr (s : State) (k : CoreId) (i : Nat) : Word × Word := (s.core k.num).zr i
def State.setZr (s : State) (k : CoreId) (i : Nat) (v : Word × Word) : State := s.coreMod k.num (fun x => x.setZr i v)
def State.pr (s : State) (k : CoreId) (i : Nat) : Bool := (s.core k.num).pr i
def State.setPr (s : State) (k : CoreId) (i : Nat) (b : Bool) : State := s.coreMod k.num (fun x => x.setPr i b)

/-- FSTAT accumulates flags (R159, R200). -/
def State.addFlags (s : State) (k : CoreId) (f : BitVec 4) : State := s.coreMod k.num (fun x => { x with fstat := x.fstat ||| f })

/-- A unit's answer into g[rd]. -/
def unitResult (k : CoreId) (rd : Nat) (r : State × Word) : WEff := .ok (r.1.setGr k rd r.2)

/-! ### Limits -/

/-- Words of code a core may fetch: CODE_WORDS of the active image, or the supervisor core's 256 KB (R157, R179). -/
def State.codeLimit (s : State) : CoreId → Nat
  | .elem c => ((s.elem c.val).active.map (·.codeWords)).getD 0
  | .sup _ => 65536
  | .lathe => ((s.lthImg s.lthHalf).map (·.codeWords)).getD 0

/-- Cycles from the first cycle of the program to its deadline (R58, R59, R290); none for the supervisor. -/
def State.budget (s : State) : CoreId → Option Nat
  | .elem c => some (if s.halfMode (c.val / 4) then 45000 else 90000)
  | .sup _ => none
  | .lathe => some (((s.lthImg s.lthHalf).map (·.turnP)).getD 0 * 124960 - 14400)

/-- The cycle count of the supervisor clock: 800 MHz against 250 MHz. -/
def State.supNow (s : State) : Nat := s.tb.cnt * 16 / 5

/-- The issue state from which the next instruction of a core issues; a supervisor core issues at the present time at the
earliest. -/
def State.timing (s : State) (k : CoreId) : Timing :=
  let t := (s.core k.num).timing
  match k with
  | .sup _ => { t with cyc := max t.cyc s.supNow }
  | _ => t

/-! ### Exceptions (R178, R179, R157, R226, R297) -/

/-- A core fault of an element core: recorded at once; its overrun is handled at the deadline (R178). -/
def State.coreFault (s : State) (c cause pc addr : Nat) : State :=
  let v := cause * 0x1000000 + pc % 16384
  let s := s.coreMod c (fun x => { x with run := .faulted })
  let s := ((s.wr (Reg.CORE_FAULT c) (w32 v)).wr (Reg.CORE_FADDR c) (w32 addr)).setCstat c csEXC true
  (s.irq c).log 0x170 c v addr

/-- Entry to a vector of a supervisor core: n 0 to 63 a device source, 64 to 79 an internal cause; `ret` is the return address
(R157, R226). -/
def State.supEnter (s : State) (i n ret c : Nat) : State :=
  let u := s.sup i
  let st := putField (putField u.sstat 3 2 (field u.sstat 1 0)) 1 0 2
  let s := s.setSup i { u with sstat := st, epc := w32 ret, cause := w32 (if 64 ≤ n then 0x80000000 + n else n) }
  s.coreMod (16 + i) (fun x => { x with pc := supPc (u.vbase.toNat + 8 * n), waiting := false, cyc := c + 12 })

/-- An exception at word index pc, in issue cycle c. -/
def State.wTrap (s : State) (k : CoreId) (cause addr pc c : Nat) : State :=
  match k with
  | .elem e => s.coreFault e.val cause pc addr
  | .sup i => s.supEnter i.val (64 + cause) (4 * pc) c
  | .lathe => s.lthHalt 2 cause pc

/-! ### Interrupts of a supervisor core (R226, R575) -/

/-- Device sources pending and enabled at core i. -/
def State.supReady (s : State) (i : Nat) : BitVec 64 := s.supBits i &&& (s.sup i).ien

/-- Whether a WFI keeps the core from issuing. -/
def State.asleep (s : State) (k : CoreId) : Bool :=
  match k with
  | .sup i => (s.core k.num).waiting && decide (s.supReady i.val = 0)
  | _ => false

/-! ### One instruction -/

/-- Put the issue state behind an instruction that issued in cycle c. -/
def State.issued (s : State) (k : CoreId) (t : Timing) (i : Issue) (c cost : Nat) : State :=
  let t := t.after i c cost
  s.coreMod k.num (fun x => { x with cyc := t.cyc, ready := t.ready, flagsAt := t.flagsAt })

/-- The instruction word w, of known legality, issues in cycle c at word index pc. -/
def State.issue (s : State) (k : CoreId) (t : Timing) (w : Word) (c : Nat) (eff : State → WEff) : State :=
  let n := k.num
  let pc := (s.core n).pc
  let i := wIssue w
  if !(s.core n).taken (wPn w) (wPs w) then (s.issued k t i c (if wOp w = 0x30 then 1 else i.cost)).coreMod n (fun x => x.goTo (pc + 1))
  else match eff (s.coreMod n (fun x => { x with cyc := c })) with
    | .ok u => (u.issued k t i c i.cost).coreMod n (fun x => x.goTo (pc + 1))
    | .jump u p cost => (u.issued k t i c cost).coreMod n (fun x => x.goTo p)
    | .trap cause addr => s.wTrap k cause addr pc c
    | .done u => (u.issued k t i c 1).coreMod n (fun x => { x with run := .ended })

/-! ### ECC (R165) -/

/-- The error of the word a core fetches: of the active bank of an element core (R165, R181). -/
def State.fetchUpset (s : State) (k : CoreId) : Nat :=
  match k with
  | .elem c => s.upset c.val (imemKey c.val (s.cstat c.val csBANK) (s.core k.num).pc)
  | _ => 0

/-- A single-bit error is corrected: counted in CORE_ECC and recorded with interrupt c (R165, R191). -/
def State.eccFixed (s : State) (c : Nat) (imem : Bool) (word : Nat) : State :=
  let s := s.elemMod c (fun e => if imem then { e with eccI := e.eccI + 1 } else { e with eccD := e.eccD + 1 })
  let s := if imem then s.count (Reg.CORE_ECC c) 31 16 1 else s.count (Reg.CORE_ECC c) 15 0 1
  (s.irq c).log 0x173 c (b2n imem * 0x80000000 + word) (if imem then (s.elem c).eccI else (s.elem c).eccD)

/-- What the fetch of an instruction does to an element core's memory account: a single-bit error is corrected. -/
def State.fetched (s : State) (k : CoreId) : State :=
  match k with
  | .elem c => if s.fetchUpset k = 1 then s.eccFixed c.val true (s.core k.num).pc else s
  | _ => s

/-- The core executes the word w, whose effect is `eff`; the state `eff` sees has the issue cycle as the core's cycle. A core
that does not run, or sleeps, executes nothing; an instruction that would issue at or after the deadline never issues (R178); a
fetch beyond the code raises FLOW, one with a double-bit error ECC_I, an illegal word its cause (R165, R179). -/
def State.walso (s : State) (k : CoreId) (w : Word) (eff : State → WEff) : State :=
  let n := k.num
  let x := s.core n
  if x.run ≠ .active ∨ s.asleep k then s
  else
    let s := s.coreMod n (fun x => { x with waiting := false })
    let t := s.timing k
    let cause := if s.codeLimit k ≤ x.pc then some 7 else if s.fetchUpset k = 2 then some 8 else wCause k.prof w
    let c := if cause.isSome then t.cyc else t.issueAt (wIssue w) (wWaitsFlags w)
    if (s.budget k).any (fun b => decide (b ≤ c)) then s.coreMod n (fun x => { x with run := .late })
    else
      let s := if s.codeLimit k ≤ x.pc then s else s.fetched k
      match cause with
      | some e => s.wTrap k e 0 x.pc c
      | none => s.issue k t w c eff

/-- ILLEGAL_INSTRUCTION: the core executes a word that is not legal for it; a legal word is no such event. -/
def State.illegal (s : State) (k : CoreId) (w : Word) : State :=
  if wCause k.prof w = none then s else s.walso k w .ok

def execIllegalInstruction (k : CoreId) (w : Word) (s : State) : Host.Outcome State Fault Refusal := .next (s.illegal k w)

/-- SUP_INTERRUPT_ENTRY: core i takes its lowest-numbered pending and enabled source (R575). -/
def State.supInterrupt (s : State) (i : Nat) : State :=
  let r := s.supReady i
  let x := s.core (16 + i)
  if x.run ≠ .active ∨ bitAt (s.sup i).sstat 0 = false then s
  else match (List.range 64).find? (fun n => r.getLsbD n) with
    | none => s
    | some n =>
      (s.setSupPend i (s.supBits i &&& ~~~ BitVec.ofNat 64 (2 ^ n))).supEnter i n (4 * x.pc) (max x.cyc s.supNow)

def execSupInterruptEntry (i : Fin 2) (s : State) : Host.Outcome State Fault Refusal := .next (s.supInterrupt i.val)

end Sys2Proof.Machine
end

