-- ==== Sys2Proof/Machine/WFloat.lean ====
section
/-!
DEFINITION. Walso binary32 and complex operations (R197 to R199, R203 to R205).
-/
namespace Sys2Proof

/-- A word with its sign inverted, and with its sign bit 0. -/
def signFlip (w : Word) : Word := w ^^^ 0x80000000
def signClear (w : Word) : Word := w &&& 0x7FFFFFFF

/-- Result and flags of FPU function fn (R197). -/
def fpuOp (fn : Nat) (a b : Word) : FRes :=
  match fn with
  | 0x00 => fAdd a b
  | 0x01 => fSub a b
  | 0x02 => fMul a b
  | 0x03 => fDiv a b
  | 0x04 => fSqrt a
  | 0x05 => fMinMax false a b
  | 0x06 => fMinMax true a b
  | 0x07 => (signClear a, fNone)
  | 0x08 => (signFlip a, fNone)
  | 0x09 => fToInt a
  | 0x0A => (fOfInt a.toInt, fNone)
  | _ => (fOfInt a.toNat, fNone)

/-- Predicate and flags of FCMP: 0 FEQ, 1 FLT, 2 FLE, 3 FUN (R198). FEQ and FUN signal for a signaling NaN as IEEE 754-2019
defines for them. -/
def fcmpOp (fn : Nat) (a b : Word) : Bool × BitVec 4 :=
  let x := flOf a
  let y := flOf b
  let nan := x.isNan || y.isNan
  let sig := if x.signaling || y.signaling then fInvalid else fNone
  match fn with
  | 0 => (flEq x y, sig)
  | 1 => (flLt false x y, if nan then fInvalid else fNone)
  | 2 => (flLt false x y || flEq x y, if nan then fInvalid else fNone)
  | _ => (nan, sig)

/-- Result and flags of the CPX functions that write zd, by the old zd, za, zb and g[ga] (R203, R204). -/
def cpxZ (fn : Nat) (d a b : Cx) (g : Word) : Cx × BitVec 4 :=
  match fn with
  | 0x0 => cAdd a b
  | 0x1 => cSub a b
  | 0x2 => cMac false none a b
  | 0x3 => cMac true none a b
  | 0x4 => cMac false (some d) a b
  | 0x5 => cMac true (some d) a b
  | 0x6 => cScl a g
  | 0x7 => ((a.1, signFlip a.2), fNone)
  | 0xC => ((g, d.2), fNone)
  | 0xD => ((d.1, g), fNone)
  | _ => (a, fNone)

/-- Result and flags of the CPX functions that write g[ga] (R203, R205). -/
def cpxG (fn : Nat) (a : Cx) : FRes :=
  if fn = 8 then cMag a else if fn = 9 then cArg a else if fn = 0xA then (a.1, fNone) else (a.2, fNone)

end Sys2Proof

namespace Sys2Proof.Machine
open Sys2Proof

/-- Write a result into a g register and add its flags. -/
def State.setRes (s : State) (k : CoreId) (rd : Nat) (r : FRes) : State := (s.setGr k rd r.1).addFlags k r.2
/-- Write a complex result into a z register and add its flags. -/
def State.setCx (s : State) (k : CoreId) (zd : Nat) (r : Cx × BitVec 4) : State := (s.setZr k zd r.1).addFlags k r.2

def execFpu (k : CoreId) (pn : Bool) (ps : Fin 8) (rd ra rb : BitVec 5) (fn : BitVec 7) (s : State) : Host.Outcome State Fault Refusal :=
  .next (s.walso k (encR 0x0B pn ps rd ra rb fn) (fun t => .ok (t.setRes k rd.toNat (fpuOp fn.toNat (t.gr k ra.toNat) (t.gr k rb.toNat)))))

/-- Write a predicate and add flags. -/
def State.setCmp (s : State) (k : CoreId) (pd : Nat) (r : Bool × BitVec 4) : State := (s.setPr k pd r.1).addFlags k r.2

def execFcmp (k : CoreId) (pn : Bool) (ps : Fin 8) (rd ra rb : BitVec 5) (fn : BitVec 7) (s : State) : Host.Outcome State Fault Refusal :=
  .next (s.walso k (encR 0x0C pn ps rd ra rb fn) (fun t => .ok (t.setCmp k (rd.toNat % 8) (fcmpOp fn.toNat (t.gr k ra.toNat) (t.gr k rb.toNat)))))

/-- FMA: rc in fn [6:2], the variant in fn [1:0]: bit 1 negates the product, bit 0 the addend. -/
def execFma (k : CoreId) (pn : Bool) (ps : Fin 8) (rd ra rb : BitVec 5) (fn : BitVec 7) (s : State) : Host.Outcome State Fault Refusal :=
  .next (s.walso k (encR 0x0D pn ps rd ra rb fn)
    (fun t => .ok (t.setRes k rd.toNat
      (fFma (fn.getLsbD 1) (fn.getLsbD 0) (t.gr k ra.toNat) (t.gr k rb.toNat) (t.gr k (fn.toNat / 4))))))

/-- Effect of CPX (R203). -/
def State.cpx (s : State) (k : CoreId) (zd za zb ga fn : Nat) : State :=
  if 8 ≤ fn ∧ fn ≤ 0xB then s.setRes k ga (cpxG fn (s.zr k za))
  else s.setCx k zd (cpxZ fn (s.zr k zd) (s.zr k za) (s.zr k zb) (s.gr k ga))

def execCpx (k : CoreId) (pn : Bool) (ps : Fin 8) (zd za zb : BitVec 4) (ga fn : BitVec 5) (s : State) : Host.Outcome State Fault Refusal :=
  .next (s.walso k (encZ 0x20 pn ps zd za zb ga fn) (fun t => .ok (t.cpx k zd.toNat za.toNat zb.toNat ga.toNat fn.toNat)))

end Sys2Proof.Machine
end

