-- ==== Sys2Proof/Machine/WFlow.lean ====
section
/-!
DEFINITION. Walso control flow (R168 to R172, R292).
-/
namespace Sys2Proof.Machine
open Sys2Proof

/-- BR: forward by off22; a target at or beyond CODE_WORDS raises FLOW (R168). -/
def State.branch (s : State) (k : CoreId) (off : Nat) : WEff :=
  let p := (s.core k.num).pc + 1 + off
  if s.codeLimit k ≤ p then .trap 7 0 else .jump s p 3

def execBr (k : CoreId) (pn : Bool) (ps : Fin 8) (off : BitVec 22) (s : State) : Host.Outcome State Fault Refusal :=
  .next (s.walso k (wEnc 0x30 pn ps off) (fun t => t.branch k off.toNat))

/-- LOOP: trip and length are the fields + 1; a fifth level raises STACK (R169). -/
def State.loopEnter (s : State) (k : CoreId) (trip len : Nat) : WEff :=
  let x := s.core k.num
  if 4 ≤ x.loops.length then .trap 6 0
  else .ok (s.setCore k.num { x with loops := { start := x.pc + 1, len := len + 1, trip := trip + 1, idx := 0, depth := x.rets.length } :: x.loops })

def execLoop (k : CoreId) (pn : Bool) (ps : Fin 8) (trip : BitVec 10) (len : BitVec 12) (s : State) : Host.Outcome State Fault Refusal :=
  .next (s.walso k (wEnc 0x31 pn ps (trip ++ len)) (fun t => t.loopEnter k trip.toNat len.toNat))

/-- JT: the BR at position min(g[ra], n − 1) behind it executes next (R170). -/
def State.jumpTable (s : State) (k : CoreId) (ra n : Nat) : WEff :=
  .jump s ((s.core k.num).pc + 1 + min (s.gr k ra).toNat n) 3

def execJt (k : CoreId) (pn : Bool) (ps : Fin 8) (ra : BitVec 5) (n : BitVec 8) (z : BitVec 9) (s : State) : Host.Outcome State Fault Refusal :=
  .next (s.walso k (wEnc 0x32 pn ps (ra ++ (n ++ z))) (fun t => t.jumpTable k ra.toNat n.toNat))

/-- CALL: pushes PC + 1; a ninth push raises STACK, a target at or beyond CODE_WORDS FLOW (R171, R179). -/
def State.call (s : State) (k : CoreId) (target : Nat) : WEff :=
  let x := s.core k.num
  if 8 ≤ x.rets.length then .trap 6 0
  else if s.codeLimit k ≤ target then .trap 7 0
  else .jump (s.setCore k.num { x with rets := (x.pc + 1) :: x.rets }) target 3

def execCall (k : CoreId) (pn : Bool) (ps : Fin 8) (z : BitVec 5) (target : BitVec 17) (s : State) : Host.Outcome State Fault Refusal :=
  .next (s.walso k (wEnc 0x33 pn ps (z ++ target)) (fun t => t.call k target.toNat))

/-- RET: pops; loops of the function it leaves are left with it (R169, R171). -/
def State.ret (s : State) (k : CoreId) : WEff :=
  let x := s.core k.num
  match x.rets with
  | [] => .trap 6 0
  | p :: ps => .jump (s.setCore k.num { x with rets := ps, loops := x.loops.filter (fun f => decide (f.depth ≤ ps.length)) }) p 3

def execRet (k : CoreId) (pn : Bool) (ps : Fin 8) (z : BitVec 22) (s : State) : Host.Outcome State Fault Refusal :=
  .next (s.walso k (wEnc 0x34 pn ps z) (fun t => t.ret k))

/-- WTICK and WTURN end the program's work, outside every loop and function (R172, R292); `base` is what the shown cycle
count adds to the issue cycle. -/
def State.workEnd (s : State) (k : CoreId) (base : Nat) : WEff :=
  let x := s.core k.num
  if x.loops ≠ [] ∨ x.rets ≠ [] then .trap 0xA 0
  else .done (s.setCore k.num { x with endCyc := base + x.cyc })

/-- Cycles from the tick start to the element phase (R56). -/
def State.entryCycles (s : State) (k : CoreId) : Nat :=
  match k with
  | .elem c => if s.halfMode (c.val / 4) then 1200 else 2400
  | _ => 0

def execWtick (k : CoreId) (pn : Bool) (ps : Fin 8) (z : BitVec 22) (s : State) : Host.Outcome State Fault Refusal :=
  .next (s.walso k (wEnc 0x35 pn ps z) (fun t => t.workEnd k (t.entryCycles k)))

def execWturn (k : CoreId) (pn : Bool) (ps : Fin 8) (z : BitVec 22) (s : State) : Host.Outcome State Fault Refusal :=
  .next (s.walso k (wEnc 0x2F pn ps z) (fun t => t.workEnd k 0))

end Sys2Proof.Machine
end

