-- ==== Sys2Proof/Machine/WInt.lean ====
section
/-!
DEFINITION. Walso integer operations, predicate setting and special-register reads (R194 to R196, R200).
-/
namespace Sys2Proof

/-- A word read as a signed integer. -/
def sInt (w : Word) : Int := w.toInt

/-- Leading zeros of a word, 0 to 32. -/
def clz (w : Word) : Nat := if w = 0 then 32 else 31 - Nat.log2 w.toNat

/-- Result of ALU function fn (R194). -/
def aluOp (fn : Nat) (a b : Word) : Word :=
  match fn with
  | 0x00 => a + b
  | 0x01 => a - b
  | 0x02 => a &&& b
  | 0x03 => a ||| b
  | 0x04 => a ^^^ b
  | 0x05 => a &&& ~~~b
  | 0x06 => a <<< (b.toNat % 32)
  | 0x07 => a >>> (b.toNat % 32)
  | 0x08 => a.sshiftRight (b.toNat % 32)
  | 0x09 => a * b
  | 0x0A => wInt (sInt a * sInt b / 4294967296)
  | 0x0B => w32 (a.toNat * b.toNat / 4294967296)
  | 0x0C => if sInt a < sInt b then a else b
  | 0x0D => if sInt a < sInt b then b else a
  | 0x0E => if a.toNat < b.toNat then a else b
  | 0x0F => if a.toNat < b.toNat then b else a
  | 0x10 => if bitAt a 31 then 0 - a else a
  | _ => w32 (clz a)

/-- Result of SHI by kind: 0 SLLI, 1 SRLI, 2 SRAI (R195). -/
def shiOp (kind n : Nat) (a : Word) : Word := if kind = 0 then a <<< n else if kind = 1 then a >>> n else a.sshiftRight n

/-- Comparison by condition: 0 EQ, 1 NE, 2 LT, 3 GE, 4 LTU, 5 GEU (R196). -/
def cmpCond (cond : Nat) (a b : Word) : Bool :=
  match cond with
  | 0 => a == b
  | 1 => a != b
  | 2 => decide (sInt a < sInt b)
  | 3 => decide (sInt b ≤ sInt a)
  | 4 => decide (a.toNat < b.toNat)
  | _ => decide (b.toNat ≤ a.toNat)

/-- The predicate operations of CMP, fn 0x08 to 0x0B (R196). -/
def predOp (fn : Nat) (a b : Bool) : Bool :=
  if fn = 8 then a && b else if fn = 9 then a || b else if fn = 0xA then a != b else a && !b

/-- A sign-extended and a zero-extended 12-bit immediate (R193). -/
def sImm (imm : BitVec 12) : Word := imm.signExtend 32
def zImm (imm : BitVec 12) : Word := imm.zeroExtend 32

end Sys2Proof

namespace Sys2Proof.Machine
open Sys2Proof

def execAlu (k : CoreId) (pn : Bool) (ps : Fin 8) (rd ra rb : BitVec 5) (fn : BitVec 7) (s : State) : Host.Outcome State Fault Refusal :=
  .next (s.walso k (encR 0x01 pn ps rd ra rb fn) (fun t => .ok (t.setGr k rd.toNat (aluOp fn.toNat (t.gr k ra.toNat) (t.gr k rb.toNat)))))

def execAddi (k : CoreId) (pn : Bool) (ps : Fin 8) (rd ra : BitVec 5) (imm : BitVec 12) (s : State) : Host.Outcome State Fault Refusal :=
  .next (s.walso k (encI 0x02 pn ps rd ra imm) (fun t => .ok (t.setGr k rd.toNat (t.gr k ra.toNat + sImm imm))))

def execAndi (k : CoreId) (pn : Bool) (ps : Fin 8) (rd ra : BitVec 5) (imm : BitVec 12) (s : State) : Host.Outcome State Fault Refusal :=
  .next (s.walso k (encI 0x03 pn ps rd ra imm) (fun t => .ok (t.setGr k rd.toNat (t.gr k ra.toNat &&& zImm imm))))

def execOri (k : CoreId) (pn : Bool) (ps : Fin 8) (rd ra : BitVec 5) (imm : BitVec 12) (s : State) : Host.Outcome State Fault Refusal :=
  .next (s.walso k (encI 0x04 pn ps rd ra imm) (fun t => .ok (t.setGr k rd.toNat (t.gr k ra.toNat ||| zImm imm))))

def execXori (k : CoreId) (pn : Bool) (ps : Fin 8) (rd ra : BitVec 5) (imm : BitVec 12) (s : State) : Host.Outcome State Fault Refusal :=
  .next (s.walso k (encI 0x05 pn ps rd ra imm) (fun t => .ok (t.setGr k rd.toNat (t.gr k ra.toNat ^^^ zImm imm))))

/-- SHI: kind in [11:10], amount in [4:0] of the immediate. -/
def execShi (k : CoreId) (pn : Bool) (ps : Fin 8) (rd ra : BitVec 5) (imm : BitVec 12) (s : State) : Host.Outcome State Fault Refusal :=
  .next (s.walso k (encI 0x06 pn ps rd ra imm)
    (fun t => .ok (t.setGr k rd.toNat (shiOp (imm.toNat / 1024) (imm.toNat % 32) (t.gr k ra.toNat)))))

def execMovl (k : CoreId) (pn : Bool) (ps : Fin 8) (rd : BitVec 5) (imm : BitVec 17) (s : State) : Host.Outcome State Fault Refusal :=
  .next (s.walso k (encU 0x07 pn ps rd imm) (fun t => .ok (t.setGr k rd.toNat (imm.zeroExtend 32))))

/-- MOVH: g[rd][31:17] is replaced, g[rd][16:0] stays. -/
def execMovh (k : CoreId) (pn : Bool) (ps : Fin 8) (rd : BitVec 5) (imm : BitVec 17) (s : State) : Host.Outcome State Fault Refusal :=
  .next (s.walso k (encU 0x08 pn ps rd imm) (fun t => .ok (t.setGr k rd.toNat (putField (t.gr k rd.toNat) 31 17 imm.toNat))))

/-- What CMP writes into its predicate (R196). -/
def State.cmpVal (s : State) (k : CoreId) (ra rb fn : Nat) : Bool :=
  if fn ≤ 5 then cmpCond fn (s.gr k ra) (s.gr k rb)
  else if fn ≤ 0xB then predOp fn (s.pr k (ra % 8)) (s.pr k (rb % 8))
  else if fn = 0xC then decide (s.gr k ra ≠ 0)
  else bitAt (s.gr k ra) rb

def execCmp (k : CoreId) (pn : Bool) (ps : Fin 8) (rd ra rb : BitVec 5) (fn : BitVec 7) (s : State) : Host.Outcome State Fault Refusal :=
  .next (s.walso k (encR 0x09 pn ps rd ra rb fn) (fun t => .ok (t.setPr k (rd.toNat % 8) (t.cmpVal k ra.toNat rb.toNat fn.toNat))))

/-- CMPI: condition in [21:20], pd in [19:17]. -/
def execCmpi (k : CoreId) (pn : Bool) (ps : Fin 8) (rd ra : BitVec 5) (imm : BitVec 12) (s : State) : Host.Outcome State Fault Refusal :=
  .next (s.walso k (encI 0x0A pn ps rd ra imm)
    (fun t => .ok (t.setPr k (rd.toNat % 8) (cmpCond (rd.toNat / 8) (t.gr k ra.toNat) (sImm imm)))))

/-- RDFS: FSTAT, once the flags of all earlier instructions are set. -/
def execRdfs (k : CoreId) (pn : Bool) (ps : Fin 8) (rd ra rb : BitVec 5) (s : State) : Host.Outcome State Fault Refusal :=
  .next (s.walso k (encR 0x0E pn ps rd ra rb 0) (fun t => .ok (t.setGr k rd.toNat ((t.core k.num).fstat.zeroExtend 32))))

def execClrfs (k : CoreId) (pn : Bool) (ps : Fin 8) (rd ra rb : BitVec 5) (s : State) : Host.Outcome State Fault Refusal :=
  .next (s.walso k (encR 0x0E pn ps rd ra rb 1) (fun t => .ok (t.coreMod k.num (fun x => { x with fstat := 0 }))))

/-- RDLC: the iteration index of the loop at level n in the rb field. -/
def execRdlc (k : CoreId) (pn : Bool) (ps : Fin 8) (rd ra rb : BitVec 5) (s : State) : Host.Outcome State Fault Refusal :=
  .next (s.walso k (encR 0x0E pn ps rd ra rb 2) (fun t => .ok (t.setGr k rd.toNat (w32 ((t.core k.num).lc (rb.toNat % 4))))))

/-- RDP: p7 to p0, with p0 as 1. -/
def execRdp (k : CoreId) (pn : Bool) (ps : Fin 8) (rd ra rb : BitVec 5) (s : State) : Host.Outcome State Fault Refusal :=
  .next (s.walso k (encR 0x0E pn ps rd ra rb 3) (fun t => .ok (t.setGr k rd.toNat (w32 (packBits 8 (fun i => t.pr k i))))))

end Sys2Proof.Machine
end

