-- ==== Sys2Proof/Machine/WLathe.lean ====
section
/-!
DEFINITION. Lathe-profile instructions (R300 to R303).
-/
namespace Sys2Proof.Machine
open Sys2Proof

/-- LIMG: DIR 0 reads an input word, DIR 1 writes an output word (R300). -/
def State.limg (s : State) (k : CoreId) (rd : Nat) (dir : Bool) (word : Nat) : WEff :=
  if dir then
    if 1023 < word then .trap 4 0 else .ok ((s.wr (lthOut word) (s.gr k rd)).pairDirty (1033 + word / 256))
  else if 2047 < word then .trap 4 0 else .ok (s.setGr k rd (s.rd (lthIn word)))

def execLimg (k : CoreId) (pn : Bool) (ps : Fin 8) (rd : BitVec 5) (dir : Bool) (z : BitVec 4) (word : BitVec 12) (s : State) :
    Host.Outcome State Fault Refusal :=
  .next (s.walso k (wEnc 0x2C pn ps (rd ++ (BitVec.ofBool dir ++ (z ++ word)))) (fun t => t.limg k rd.toNat dir word.toNat))

/-- Store a timer of the active half with the status of the step the turn made. -/
def State.ltmrStore (s : State) (n : Nat) (t : LTmr) (st : Nat) : State :=
  ((s.setLtmr s.lthHalf n t).lthMod (fun l => { l with tmrSt := SMap.set (fun _ => 0) l.tmrSt n (st + 16) })).pairDirty (1024 + n / 128)

/-- The status of the step timer n has made in this turn. -/
def State.ltmrDone (s : State) (n : Nat) : Option Nat :=
  let x := SMap.get (fun _ => 0) s.lathe.tmrSt n
  if x = 0 then none else some (x - 16)

/-- LTMR STEP: the input is set and the output re-evaluated, once per turn (R208, R300, R302). -/
def State.ltmrStep (s : State) (n : Nat) (x : Bool) : State × Word :=
  match s.ltmrDone n with
  | some st => (s, w32 (st ||| 8))
  | none =>
    let t := s.ltmr s.lthHalf n
    let r := t.step (s.ltmrCfg s.lthHalf n) x
    let st := b2n r.1.out + 2 * b2n r.2 + 4 * b2n (t.out != r.1.out)
    (s.ltmrStore n r.1 st, w32 st)

/-- LTMR RESET: elapsed 0, output 0, input false. -/
def State.ltmrClear (s : State) (n : Nat) : State × Word :=
  match s.ltmrDone n with
  | some st => (s, w32 (st ||| 8))
  | none =>
    let st := 4 * b2n (s.ltmr s.lthHalf n).out
    (s.ltmrStore n LTmr.init st, w32 st)

/-- LTMR READ: elapsed µs. -/
def State.ltmrRead (s : State) (n : Nat) : Word := w32 ((s.ltmr s.lthHalf n).shown (s.ltmrCfg s.lthHalf n).mode / 250)

/-- The word of an LTMR operation. -/
def ltmrWord (pn : Bool) (ps : Fin 8) (rd ra : BitVec 5) (op : BitVec 2) (n : BitVec 10) : Word :=
  wEnc 0x2D pn ps (rd ++ (ra ++ (op ++ n)))

def execLtmrStep (k : CoreId) (pn : Bool) (ps : Fin 8) (rd ra : BitVec 5) (n : BitVec 10) (s : State) : Host.Outcome State Fault Refusal :=
  .next (s.walso k (ltmrWord pn ps rd ra 0 n) (fun t => unitResult k rd.toNat (t.ltmrStep n.toNat (decide (t.gr k ra.toNat ≠ 0)))))

def execLtmrReset (k : CoreId) (pn : Bool) (ps : Fin 8) (rd ra : BitVec 5) (n : BitVec 10) (s : State) : Host.Outcome State Fault Refusal :=
  .next (s.walso k (ltmrWord pn ps rd ra 1 n) (fun t => unitResult k rd.toNat (t.ltmrClear n.toNat)))

def execLtmrRead (k : CoreId) (pn : Bool) (ps : Fin 8) (rd ra : BitVec 5) (n : BitVec 10) (s : State) : Host.Outcome State Fault Refusal :=
  .next (s.walso k (ltmrWord pn ps rd ra 2 n) (fun t => unitResult k rd.toNat (t, t.ltmrRead n.toNat)))

/-- LEDG: RISE, FALL and x; then the memory takes x (R303). -/
def State.ledg (s : State) (n : Nat) (x : Bool) : State × Word :=
  let e := s.ledge s.lthHalf n
  let t := (s.setLedge s.lthHalf n { fresh := false, m := x }).pairDirty 1032
  (t, w32 (if e.fresh then 4 * b2n x else b2n (x && !e.m) + 2 * b2n (e.m && !x) + 4 * b2n x))

def execLedg (k : CoreId) (pn : Bool) (ps : Fin 8) (rd ra : BitVec 5) (n : BitVec 12) (s : State) : Host.Outcome State Fault Refusal :=
  .next (s.walso k (wEnc 0x2E pn ps (rd ++ (ra ++ n))) (fun t => unitResult k rd.toNat (t.ledg n.toNat (decide (t.gr k ra.toNat ≠ 0)))))

end Sys2Proof.Machine
end

