-- ==== Sys2Proof/Machine/WMem.lean ====
section
/-!
DEFINITION. Walso loads and stores (R163, R201, R202, R299, R226) on the three profiles' address maps.
-/
namespace Sys2Proof.Machine
open Sys2Proof

/-! ### Addresses -/

/-- M format: g[ra] + off12 × width (R193, R201). -/
def State.addrM (s : State) (k : CoreId) (ra : Nat) (off : BitVec 12) (width : Nat) : Nat :=
  (s.gr k ra + off.signExtend 32 * w32 width).toNat

/-- LDX and STX: g[ra] + (g[rb] << s). -/
def State.addrX (s : State) (k : CoreId) (ra rb sh : Nat) : Nat := (s.gr k ra + (s.gr k rb <<< sh)).toNat

/-! ### Checks (R163, R202) -/

/-- Whether an address lies in a space of an element core: 0 DMEM, 1 windows, tags and WIN_HEAD, 2 phasor RAM. -/
def inSpace (space a : Nat) : Bool :=
  if space = 0 then decide (a < 0x20000)
  else if space = 1 then decide (0x20000 ≤ a) && decide (a < 0x24404)
  else decide (0x30000 ≤ a) && decide (a < 0x38000)

/-- Whether the region map lets the user level access a word (R226): a region's limit covers its last 32 bytes. -/
def State.mpuAllows (s : State) (i : Nat) (store : Bool) (a : Nat) : Bool :=
  (List.range 16).any (fun n =>
    let base := SMap.get (fun _ => (0 : Word)) (s.sup i).mpu (2 * n)
    let lim := SMap.get (fun _ => (0 : Word)) (s.sup i).mpu (2 * n + 1)
    bitAt lim 0 && bitAt lim (if store then 2 else 1) && decide (base.toNat ≤ a) && decide (a ≤ field lim 31 5 * 32 + 31))

/-- Whether supervisor core i runs at the user level (R226). -/
def State.userLevel (s : State) (i : Nat) : Bool := !bitAt (s.sup i).sstat 1

/-- Whether a supervisor core's word address names memory or a direct register. -/
def supMapped (a : Nat) : Bool := (supKey 0 a).isSome || (gooseWord a).isSome || decide ((Config.supPlace a).1 = 4)

/-- The words an access of a width touches. -/
def wordsOf (a width : Nat) : List Nat := if width = 8 then [a, a + 4] else [a]

/-- The first cause an access raises (R202): MISALIGN, RO_WRITE, ADDR; on the S profile the region map before ADDR (DESIGN
CHOICE, log entry 24). -/
def State.memCause (s : State) (k : CoreId) (space : Nat) (store : Bool) (a width : Nat) : Option Nat :=
  if a % width ≠ 0 then some 3
  else match k with
  | .elem _ => if store && (inSpace 1 a || inSpace 2 a) then some 5 else if inSpace space a then none else some 4
  | .lathe =>
    let pages := ((s.lthImg s.lthHalf).map (·.pages)).getD 2
    if store && decide (0xF0000 ≤ a) && decide (a < 0xF0800) then some 5 else if a < 0xF0000 + 1024 * pages then none else some 4
  | .sup i =>
    if s.userLevel i.val && !(wordsOf a width).all (fun x => s.mpuAllows i.val store x) then some 12
    else if (wordsOf a width).all supMapped then none else some 4

/-! ### Accesses -/

/-- The requester a supervisor core is at the registers. -/
def supReq (i : Fin 2) : Req := if i.val = 0 then .sup0 else .sup1

/-- Key of the word at an address of an element core. -/
def elemKey (c a : Nat) : Nat := if a < 0x20000 then dmemKey c a else if a < 0x30000 then winKey c a else phasorKey c (a - 0x30000)

/-- Whether a word an element core loads from DMEM holds a double-bit error (R165). -/
def State.doubleErr (s : State) (k : CoreId) (a : Nat) : Bool :=
  match k with
  | .elem c => decide (a < 0x20000) && decide (s.upset c.val (dmemKey c.val a) = 2)
  | _ => false

/-- Read the word at a checked address. An element core's DMEM corrects a single-bit error, and a parity error of the windows or the
phasor RAM reads as 0x0000_0080 (R165); a register may change by being read. -/
def State.memRead (s : State) (k : CoreId) (a : Nat) : State × Word :=
  match k with
  | .elem c =>
    let key := elemKey c.val a
    if a < 0x20000 then (if s.upset c.val key = 1 then s.eccFixed c.val false (a / 4) else s, s.rd key)
    else (s.winSeen c.val [key], s.winWord c.val key)
  | .lathe => (s, s.rd (lthDmem s.lthHalf a))
  | .sup i =>
    match supKey i.val a <|> gooseWord a with
    | some m => (s, s.rd m)
    | none =>
      let t := s.busRead (supReq i) (Config.supPlace a).2 15
      (t, t.answered (supReq i))

/-- Write the word at a checked address. -/
def State.memWrite (s : State) (k : CoreId) (a : Nat) (v : Word) : State :=
  match k with
  | .elem c => s.wrMem c.val (elemKey c.val a) v
  | .lathe => s.lthStore a v
  | .sup i =>
    match supKey i.val a with
    | some m => s.wr m v
    | none => if (gooseWord a).isSome then s else s.busWrite (supReq i) (Config.supPlace a).2 15 v

/-! ### Effects -/

/-- Load a word into g[rd]. -/
def State.loadG (s : State) (k : CoreId) (space rd a : Nat) : WEff :=
  match s.memCause k space false a 4 with
  | some e => .trap e a
  | none => if s.doubleErr k a then .trap 9 a else let r := s.memRead k a; .ok (r.1.setGr k rd r.2)

/-- Load two words into z[zd]: re at the address, im behind it. -/
def State.loadZ (s : State) (k : CoreId) (space zd a : Nat) : WEff :=
  match s.memCause k space false a 8 with
  | some e => .trap e a
  | none =>
    if s.doubleErr k a || s.doubleErr k (a + 4) then .trap 9 a else
    let r := s.memRead k a
    let q := r.1.memRead k (a + 4)
    .ok (q.1.setZr k zd (r.2, q.2))

/-- Store a word. -/
def State.storeW (s : State) (k : CoreId) (a : Nat) (v : Word) : WEff :=
  match s.memCause k 0 true a 4 with
  | some e => .trap e a
  | none => .ok (s.memWrite k a v)

/-- Store a complex value. -/
def State.storeZ (s : State) (k : CoreId) (a : Nat) (v : Word × Word) : WEff :=
  match s.memCause k 0 true a 8 with
  | some e => .trap e a
  | none => .ok ((s.memWrite k a v.1).memWrite k (a + 4) v.2)

/-! ### Instructions -/

def execLd (k : CoreId) (pn : Bool) (ps : Fin 8) (rd ra : BitVec 5) (off : BitVec 12) (s : State) : Host.Outcome State Fault Refusal :=
  .next (s.walso k (encI 0x10 pn ps rd ra off) (fun t => t.loadG k 0 rd.toNat (t.addrM k ra.toNat off 4)))

def execSt (k : CoreId) (pn : Bool) (ps : Fin 8) (rd ra : BitVec 5) (off : BitVec 12) (s : State) : Host.Outcome State Fault Refusal :=
  .next (s.walso k (encI 0x11 pn ps rd ra off) (fun t => t.storeW k (t.addrM k ra.toNat off 4) (t.gr k rd.toNat)))

def execLdz (k : CoreId) (pn : Bool) (ps : Fin 8) (rd ra : BitVec 5) (off : BitVec 12) (s : State) : Host.Outcome State Fault Refusal :=
  .next (s.walso k (encI 0x12 pn ps rd ra off) (fun t => t.loadZ k 0 (rd.toNat % 16) (t.addrM k ra.toNat off 8)))

def execStz (k : CoreId) (pn : Bool) (ps : Fin 8) (rd ra : BitVec 5) (off : BitVec 12) (s : State) : Host.Outcome State Fault Refusal :=
  .next (s.walso k (encI 0x13 pn ps rd ra off) (fun t => t.storeZ k (t.addrM k ra.toNat off 8) (t.zr k (rd.toNat % 16))))

def execLdw (k : CoreId) (pn : Bool) (ps : Fin 8) (rd ra : BitVec 5) (off : BitVec 12) (s : State) : Host.Outcome State Fault Refusal :=
  .next (s.walso k (encI 0x14 pn ps rd ra off) (fun t => t.loadG k 1 rd.toNat (t.addrM k ra.toNat off 4)))

def execLdp (k : CoreId) (pn : Bool) (ps : Fin 8) (rd ra : BitVec 5) (off : BitVec 12) (s : State) : Host.Outcome State Fault Refusal :=
  .next (s.walso k (encI 0x15 pn ps rd ra off) (fun t => t.loadG k 2 rd.toNat (t.addrM k ra.toNat off 4)))

def execLdzp (k : CoreId) (pn : Bool) (ps : Fin 8) (rd ra : BitVec 5) (off : BitVec 12) (s : State) : Host.Outcome State Fault Refusal :=
  .next (s.walso k (encI 0x16 pn ps rd ra off) (fun t => t.loadZ k 2 (rd.toNat % 16) (t.addrM k ra.toNat off 8)))

/-- LDX: the space in fn [3:2], the shift in fn [1:0]. -/
def execLdx (k : CoreId) (pn : Bool) (ps : Fin 8) (rd ra rb : BitVec 5) (fn : BitVec 7) (s : State) : Host.Outcome State Fault Refusal :=
  .next (s.walso k (encR 0x17 pn ps rd ra rb fn)
    (fun t => t.loadG k (fn.toNat / 4) rd.toNat (t.addrX k ra.toNat rb.toNat (fn.toNat % 4))))

def execStx (k : CoreId) (pn : Bool) (ps : Fin 8) (rd ra rb : BitVec 5) (fn : BitVec 7) (s : State) : Host.Outcome State Fault Refusal :=
  .next (s.walso k (encR 0x18 pn ps rd ra rb fn)
    (fun t => t.storeW k (t.addrX k ra.toNat rb.toNat (fn.toNat % 4)) (t.gr k rd.toNat)))

end Sys2Proof.Machine
end

