-- ==== Sys2Proof/Machine/WSys.lean ====
section
/-!
DEFINITION. Supervisor-profile system instructions (R226).
-/
namespace Sys2Proof.Machine
open Sys2Proof

/-- Whether a core runs at the privileged level; the E and L profiles have none of these instructions. -/
def State.privileged (s : State) (k : CoreId) : Bool :=
  match k with
  | .sup i => bitAt (s.sup i.val).sstat 1
  | _ => true

/-- The value of control register n of supervisor core i in cycle c. -/
def State.csrRead (s : State) (i n c : Nat) : Word :=
  let u := s.sup i
  if n = 0 then u.sstat
  else if n = 1 then u.epc
  else if n = 2 then u.cause
  else if n = 3 then u.vbase
  else if n = 4 then u.ien.extractLsb' 0 32
  else if n = 5 then u.ien.extractLsb' 32 32
  else if n = 6 then w32 i
  else if n = 0x40 then w32 c
  else if n = 0x41 then u.cycHi
  else SMap.get (fun _ => (0 : Word)) u.mpu (n - 0x10)

/-- A control register's new content: bits without a field stay 0; CORE_ID and the cycle count are not written. -/
def csrSet (u : SupU) (n : Nat) (v : Word) : SupU :=
  if n = 0 then { u with sstat := v &&& 0xF }
  else if n = 1 then { u with epc := v }
  else if n = 2 then { u with cause := v &&& 0x800000FF }
  else if n = 3 then { u with vbase := v }
  else if n = 4 then { u with ien := u.ien.extractLsb' 32 32 ++ v }
  else if n = 5 then { u with ien := v ++ u.ien.extractLsb' 0 32 }
  else if 0x10 ≤ n ∧ n < 0x30 then
    { u with mpu := SMap.set (fun _ => (0 : Word)) u.mpu (n - 0x10) (if n % 2 = 1 then v &&& 0xFFFFFFE7 else v) }
  else u

/-- CSR: the old value is read where rd names a register, the new one written where the ra field does. A read of CYC_LO takes the
snapshot CYC_HI shows. -/
def State.csrOp (s : State) (i : Fin 2) (rd ra n : Nat) : State :=
  let k := CoreId.sup i
  let c := (s.core k.num).cyc
  let old := s.csrRead i.val n c
  let v := s.gr k ra
  let s := if rd ≠ 0 ∧ n = 0x40 then s.setSup i.val { s.sup i.val with cycHi := w32 (c / 4294967296) } else s
  let s := s.setGr k rd old
  if ra ≠ 0 then s.setSup i.val (csrSet (s.sup i.val) n v) else s

def State.csr (s : State) (k : CoreId) (rd ra n : Nat) : WEff :=
  match k with
  | .sup i => if s.privileged k then .ok (s.csrOp i rd ra n) else .trap 13 0
  | _ => .ok s

def execCsr (k : CoreId) (pn : Bool) (ps : Fin 8) (rd ra : BitVec 5) (n : BitVec 12) (s : State) : Host.Outcome State Fault Refusal :=
  .next (s.walso k (encI 0x24 pn ps rd ra n) (fun t => t.csr k rd.toNat ra.toNat n.toNat))

/-- ERET: PC from EPC, IE from PIE, PRIV from PPRIV. -/
def State.eret (s : State) (k : CoreId) : WEff :=
  match k with
  | .sup i =>
    let u := s.sup i.val
    if s.privileged k then .jump (s.setSup i.val { u with sstat := putField u.sstat 1 0 (field u.sstat 3 2) }) (supPc u.epc.toNat) 3
    else .trap 13 0
  | _ => .ok s

def execEret (k : CoreId) (pn : Bool) (ps : Fin 8) (z : BitVec 22) (s : State) : Host.Outcome State Fault Refusal :=
  .next (s.walso k (wEnc 0x25 pn ps z) (fun t => t.eret k))

/-- WFI: the core sleeps unless an enabled interrupt is pending. -/
def State.wfi (s : State) (k : CoreId) : State :=
  match k with
  | .sup i => if s.supReady i.val = 0 then s.coreMod k.num (fun x => { x with waiting := true }) else s
  | _ => s

def execWfi (k : CoreId) (pn : Bool) (ps : Fin 8) (z : BitVec 22) (s : State) : Host.Outcome State Fault Refusal :=
  .next (s.walso k (wEnc 0x26 pn ps z) (fun t => .ok (t.wfi k)))

/-- FENCE: every earlier store has already reached its target. -/
def execFence (k : CoreId) (pn : Bool) (ps : Fin 8) (z : BitVec 22) (s : State) : Host.Outcome State Fault Refusal :=
  .next (s.walso k (wEnc 0x27 pn ps z) .ok)

end Sys2Proof.Machine
end

