-- ==== Sys2Proof/Machine/WUnit.lean ====
section
/-!
DEFINITION. Walso cluster families (R206 to R225): samples, phasors, sequence components, frequency, curves, comparators,
timers, staged requests and flags, events and the region exchange.
-/
namespace Sys2Proof.Machine
open Sys2Proof

/-- The cluster of an element core; the cluster families exist on no other. -/
def CoreId_cl (k : CoreId) : Nat := k.num

/-! ### LDS (R209, R210) -/

/-- The effective age: the iteration index of the innermost active loop is added with AL, saturating at 255. -/
def State.ldsAge (s : State) (k : CoreId) (al : Bool) (age : Nat) : Nat :=
  satTo 255 (age + if al then (((s.core k.num).loops.head?).map (·.idx)).getD 0 else 0)

/-- VALUE / 4 096 000 as binary32; +0 for an INVALID word. -/
def ldsValue (w : Word) : Word :=
  let v := sampleValue w
  if bitAt w 7 then 0 else (roundRat (decide (v < 0)) v.natAbs 4096000).1

def State.lds (s : State) (k : CoreId) (rd zd : Nat) (str : Bool) (lane : Nat) (al : Bool) (age : Nat) : State :=
  let a := s.ldsAge k al age
  let c := CoreId_cl k
  let key := if str then s.trkKey c lane a else s.protKey c lane a
  let w := s.winWord c key
  ((s.winSeen c [key]).setGr k rd (w &&& 0xFF)).setZr k zd (ldsValue w, 0)

def execLds (k : CoreId) (pn : Bool) (ps : Fin 8) (rd : BitVec 5) (zd : BitVec 4) (str : Bool) (lane : BitVec 3) (al : Bool)
    (age : BitVec 8) (s : State) : Host.Outcome State Fault Refusal :=
  .next (s.walso k (wEnc 0x38 pn ps (rd ++ (zd ++ (BitVec.ofBool str ++ (lane ++ (BitVec.ofBool al ++ age))))))
    (fun t => .ok (t.lds k rd.toNat zd.toNat str lane.toNat al age.toNat)))

/-! ### PHS (R211, R212) -/

/-- Whether the engine has computed harmonic h of the full or half-cycle window at the last entry phase. -/
def State.harmonic (s : State) (c : Nat) (half : Bool) (h : Nat) : Bool :=
  if half then decide (h = 1) else decide (h < field (s.winWord c (phasorKey c 0x1088)) 7 0 / 2)

def State.phs (s : State) (k : CoreId) (rd zd lane : Nat) (half : Bool) (h : Nat) : State :=
  let c := CoreId_cl k
  let stKey := phasorKey c ((if half then 0x1060 else 0x1040) + 4 * lane)
  let st := field (s.winWord c stKey) 3 0
  let ok := s.harmonic c half h
  let off := if half then 0x1000 + 8 * lane else lane * 0x200 + 8 * h
  let z := if ok && decide (st % 2 = 0) then (s.winWord c (phasorKey c off), s.winWord c (phasorKey c (off + 4))) else (0, 0)
  let s := s.winSeen c ([stKey] ++ (if half then [] else [phasorKey c 0x1088]) ++
    (if ok && decide (st % 2 = 0) then [phasorKey c off, phasorKey c (off + 4)] else []))
  (s.setGr k rd (w32 (st + 16 * b2n (!ok)))).setZr k zd z

def execPhs (k : CoreId) (pn : Bool) (ps : Fin 8) (rd : BitVec 5) (zd : BitVec 4) (lane : BitVec 3) (w : Bool) (z : BitVec 2)
    (h : BitVec 7) (s : State) : Host.Outcome State Fault Refusal :=
  .next (s.walso k (wEnc 0x39 pn ps (rd ++ (zd ++ (lane ++ (BitVec.ofBool w ++ (z ++ h))))))
    (fun t => .ok (t.phs k rd.toNat zd.toNat lane.toNat w h.toNat)))

/-! ### SEQ (R213) -/

def State.seq (s : State) (k : CoreId) (zd za kind : Nat) : State :=
  let r := seqComp kind (s.zr k za) (s.zr k (za + 1)) (s.zr k (za + 2))
  (s.setZr k zd r.1).addFlags k r.2

def execSeq (k : CoreId) (pn : Bool) (ps : Fin 8) (z1 : Bool) (zd za : BitVec 4) (kind : BitVec 2) (z : BitVec 11) (s : State) :
    Host.Outcome State Fault Refusal :=
  .next (s.walso k (wEnc 0x3A pn ps (BitVec.ofBool z1 ++ (zd ++ (za ++ (kind ++ z)))))
    (fun t => .ok (t.seq k zd.toNat za.toNat kind.toNat)))

/-! ### FRQ (R214) -/

/-- The tracker's values of the entry phase, in the order TRK_PER, TRK_FREQ, TRK_ROCOF, TRK_STAT, TRK_CFG. -/
def State.frq (s : State) (c sel : Nat) : Word :=
  let w (i : Nat) : Word := (s.tracker c).shown.getD i 0
  match sel with
  | 0 => (roundDyadic false ((w 1).toNat : Int) (-24)).1
  | 1 => (roundDyadic false (w 2).toInt (-16)).1
  | 2 => (roundRat false (w 0).toNat (4194304 * 14400)).1
  | 3 => w 3 &&& 7
  | _ => (roundRat false (w 1).toNat (16777216 * if bitAt (w 4) 8 then 60 else 50)).1

def execFrq (k : CoreId) (pn : Bool) (ps : Fin 8) (rd : BitVec 5) (sel : BitVec 3) (z : BitVec 14) (s : State) :
    Host.Outcome State Fault Refusal :=
  .next (s.walso k (wEnc 0x3B pn ps (rd ++ (sel ++ z))) (fun t => .ok (t.setGr k rd.toNat (t.frq (CoreId_cl k) sel.toNat))))

/-! ### CRV, CMPH, TMR (R207, R208, R215 to R217) -/

/-- The word of a CRV operation, and that of a CMPH (opcode 0x3D) or TMR (0x3E) operation. -/
def crvWord (pn : Bool) (ps : Fin 8) (rd ra n : BitVec 5) (op : BitVec 2) (z : BitVec 5) : Word :=
  wEnc 0x3C pn ps (rd ++ (ra ++ (n ++ (op ++ z))))
def cmpTmrWord (opc : Nat) (pn : Bool) (ps : Fin 8) (rd ra : BitVec 5) (n : BitVec 6) (op : BitVec 2) (z : BitVec 4) : Word :=
  wEnc opc pn ps (rd ++ (ra ++ (n ++ (op ++ z))))

def execCrvStep (k : CoreId) (pn : Bool) (ps : Fin 8) (rd ra n : BitVec 5) (z : BitVec 5) (s : State) : Host.Outcome State Fault Refusal :=
  .next (s.walso k (crvWord pn ps rd ra n 0 z) (fun t => unitResult k rd.toNat (t.crvStep (CoreId_cl k) n.toNat (t.gr k ra.toNat))))

def execCrvReset (k : CoreId) (pn : Bool) (ps : Fin 8) (rd ra n : BitVec 5) (z : BitVec 5) (s : State) : Host.Outcome State Fault Refusal :=
  .next (s.walso k (crvWord pn ps rd ra n 1 z) (fun t => unitResult k rd.toNat (t.crvClear (CoreId_cl k) n.toNat)))

def execCrvRead (k : CoreId) (pn : Bool) (ps : Fin 8) (rd ra n : BitVec 5) (z : BitVec 5) (s : State) : Host.Outcome State Fault Refusal :=
  .next (s.walso k (crvWord pn ps rd ra n 2 z) (fun t => unitResult k rd.toNat (t, t.crvRead (CoreId_cl k) n.toNat)))

def execCmphEval (k : CoreId) (pn : Bool) (ps : Fin 8) (rd ra : BitVec 5) (n : BitVec 6) (z : BitVec 4) (s : State) :
    Host.Outcome State Fault Refusal :=
  .next (s.walso k (cmpTmrWord 0x3D pn ps rd ra n 0 z) (fun t => unitResult k rd.toNat (t.cmpEval (CoreId_cl k) n.toNat (t.gr k ra.toNat))))

def execCmphReset (k : CoreId) (pn : Bool) (ps : Fin 8) (rd ra : BitVec 5) (n : BitVec 6) (z : BitVec 4) (s : State) :
    Host.Outcome State Fault Refusal :=
  .next (s.walso k (cmpTmrWord 0x3D pn ps rd ra n 1 z) (fun t => unitResult k rd.toNat (t.cmpClear (CoreId_cl k) n.toNat)))

def execCmphRead (k : CoreId) (pn : Bool) (ps : Fin 8) (rd ra : BitVec 5) (n : BitVec 6) (z : BitVec 4) (s : State) :
    Host.Outcome State Fault Refusal :=
  .next (s.walso k (cmpTmrWord 0x3D pn ps rd ra n 2 z) (fun t => unitResult k rd.toNat (t, t.cmpRead (CoreId_cl k) n.toNat)))

def execTmrStep (k : CoreId) (pn : Bool) (ps : Fin 8) (rd ra : BitVec 5) (n : BitVec 6) (z : BitVec 4) (s : State) :
    Host.Outcome State Fault Refusal :=
  .next (s.walso k (cmpTmrWord 0x3E pn ps rd ra n 0 z) (fun t => unitResult k rd.toNat (t.tmrStep (CoreId_cl k) n.toNat (t.gr k ra.toNat))))

def execTmrReset (k : CoreId) (pn : Bool) (ps : Fin 8) (rd ra : BitVec 5) (n : BitVec 6) (z : BitVec 4) (s : State) :
    Host.Outcome State Fault Refusal :=
  .next (s.walso k (cmpTmrWord 0x3E pn ps rd ra n 1 z) (fun t => unitResult k rd.toNat (t.tmrClear (CoreId_cl k) n.toNat)))

def execTmrRead (k : CoreId) (pn : Bool) (ps : Fin 8) (rd ra : BitVec 5) (n : BitVec 6) (z : BitVec 4) (s : State) :
    Host.Outcome State Fault Refusal :=
  .next (s.walso k (cmpTmrWord 0x3E pn ps rd ra n 2 z) (fun t => unitResult k rd.toNat (t, t.tmrRead (CoreId_cl k) n.toNat)))

/-! ### TRIPREQ and FLAG (R219 to R221) -/

/-- TRIPREQ: `x` is the field [16:0], with RV in bit 16, MASK in [7:4] and VAL in [3:0]. -/
def State.tripReq (s : State) (k : CoreId) (ra x : Nat) : State :=
  let mask := x / 16 % 16
  let v := if 65536 ≤ x then (s.gr k ra).toNat % 16 else x % 16
  s.elemMod (CoreId_cl k) (fun e => { e with req := (e.req &&& (15 - mask)) ||| (v &&& mask) })

def execTripreq (k : CoreId) (pn : Bool) (ps : Fin 8) (ra : BitVec 5) (x : BitVec 17) (s : State) : Host.Outcome State Fault Refusal :=
  .next (s.walso k (wEnc 0x28 pn ps (ra ++ x)) (fun t => .ok (t.tripReq k ra.toNat x.toNat)))

/-- The word of a FLAG operation. -/
def flagWord (pn : Bool) (ps : Fin 8) (ra : BitVec 5) (op : BitVec 2) (z : BitVec 10) (b : BitVec 5) : Word :=
  wEnc 0x29 pn ps (ra ++ (op ++ (z ++ b)))

/-- Change the staged flags of a core's cluster. -/
def State.stageFlags (s : State) (k : CoreId) (f : Word → Word) : State :=
  s.elemMod (CoreId_cl k) (fun e => { e with sflags := f e.sflags })

def execFlagOr (k : CoreId) (pn : Bool) (ps : Fin 8) (ra : BitVec 5) (z : BitVec 10) (b : BitVec 5) (s : State) :
    Host.Outcome State Fault Refusal :=
  .next (s.walso k (flagWord pn ps ra 0 z b) (fun t => .ok (t.stageFlags k (fun f => f ||| t.gr k ra.toNat))))

def execFlagAndn (k : CoreId) (pn : Bool) (ps : Fin 8) (ra : BitVec 5) (z : BitVec 10) (b : BitVec 5) (s : State) :
    Host.Outcome State Fault Refusal :=
  .next (s.walso k (flagWord pn ps ra 1 z b) (fun t => .ok (t.stageFlags k (fun f => f &&& ~~~(t.gr k ra.toNat)))))

def execFlagMov (k : CoreId) (pn : Bool) (ps : Fin 8) (ra : BitVec 5) (z : BitVec 10) (b : BitVec 5) (s : State) :
    Host.Outcome State Fault Refusal :=
  .next (s.walso k (flagWord pn ps ra 2 z b) (fun t => .ok (t.stageFlags k (fun _ => t.gr k ra.toNat))))

def execFlagBit (k : CoreId) (pn : Bool) (ps : Fin 8) (ra : BitVec 5) (z : BitVec 10) (b : BitVec 5) (s : State) :
    Host.Outcome State Fault Refusal :=
  .next (s.walso k (flagWord pn ps ra 3 z b) (fun t => .ok (t.stageFlags k (fun f => f ||| w32 (2 ^ b.toNat)))))

/-! ### EVT (R222, R223) -/

/-- EVT: a record is queued, the ninth and later of a tick only counted. -/
def State.evt (s : State) (k : CoreId) (ra rb code : Nat) : State :=
  let c := CoreId_cl k
  let n := (s.elem c).evts.length
  let snap := s.ticks.headD s.tickSnap
  if 8 ≤ n then s.count (Reg.EVT_STAT c) 31 16 1
  else
    let r : TRec :=
      { code := 0x8000 + code, source := 0x10 + c, sev := 4, flags := 0, sparam := n, p0 := (s.gr k ra).toNat, p1 := (s.gr k rb).toNat,
        at_ := { sec := snap.sec, ns := tickNs snap.idx, epoch := snap.epoch }, tq := snap.tq }
    s.elemMod c (fun e => { e with evts := e.evts ++ [r] })

def execEvt (k : CoreId) (pn : Bool) (ps : Fin 8) (ra rb : BitVec 5) (code : BitVec 12) (s : State) : Host.Outcome State Fault Refusal :=
  .next (s.walso k (wEnc 0x2A pn ps (ra ++ (rb ++ code))) (fun t => .ok (t.evt k ra.toNat rb.toNat code.toNat)))

/-! ### XCH (R224, R225) -/

/-- The word of an XCH operation. -/
def xchWord (pn : Bool) (ps : Fin 8) (rd : BitVec 5) (op : BitVec 2) (z : BitVec 6) (c : BitVec 4) (z1 : Bool) (slot : BitVec 4) : Word :=
  wEnc 0x2B pn ps (rd ++ (op ++ (z ++ (c ++ (BitVec.ofBool z1 ++ slot)))))

/-- The entry of a cluster that a reader of the running tick sees: one posted at this tick's deadline is not yet read (R65,
R225). -/
def State.xchSeen (s : State) (c : Nat) : XEntry :=
  let e := s.elem c
  if e.xcur.posted < s.tick.runs then e.xcur else e.xprev

/-- The tag word: [31:24] epoch, [23] NONE, [12:0] tick index. -/
def xchTag (x : XEntry) : Word := w32 (x.epoch % 256 * 16777216 + b2n x.absent * 8388608 + x.idx % 8192)

def execXchPub (k : CoreId) (pn : Bool) (ps : Fin 8) (rd : BitVec 5) (z : BitVec 6) (c : BitVec 4) (z1 : Bool) (slot : BitVec 4)
    (s : State) : Host.Outcome State Fault Refusal :=
  .next (s.walso k (xchWord pn ps rd 0 z c z1 slot) (fun t =>
    .ok (t.elemMod (CoreId_cl k) (fun e => { e with xst := e.xst.set slot.toNat (t.gr k rd.toNat), xpub := true }))))

def execXchRd (k : CoreId) (pn : Bool) (ps : Fin 8) (rd : BitVec 5) (z : BitVec 6) (c : BitVec 4) (z1 : Bool) (slot : BitVec 4)
    (s : State) : Host.Outcome State Fault Refusal :=
  .next (s.walso k (xchWord pn ps rd 1 z c z1 slot) (fun t =>
    .ok (t.setGr k rd.toNat ((t.xchSeen c.toNat).words.getD slot.toNat 0))))

def execXchTag (k : CoreId) (pn : Bool) (ps : Fin 8) (rd : BitVec 5) (z : BitVec 6) (c : BitVec 4) (z1 : Bool) (slot : BitVec 4)
    (s : State) : Host.Outcome State Fault Refusal :=
  .next (s.walso k (xchWord pn ps rd 2 z c z1 slot) (fun t => .ok (t.setGr k rd.toNat (xchTag (t.xchSeen c.toNat)))))

end Sys2Proof.Machine
end

