-- ==== Sys2Proof/Machine/Dispatch.lean ====
section
/-!
DEFINITION. Which meaning each command has: one arm per command.
-/
namespace Sys2Proof.Machine
open Sys2Proof

/-- The effect of a command on everything but the queue. -/
def exec (i : Instr) (s : State) : Host.Outcome State Fault Refusal :=
  match i with
  | .aflFrame die seq crcOk bits => Sys2Proof.Machine.execAflFrame die seq crcOk bits s
  | .dieLinkDown die => Sys2Proof.Machine.execDieLinkDown die s
  | .mramAccessRequest fn via write addr len data => Sys2Proof.Machine.execMramAccessRequest fn via write addr len data s
  | .mplTransferEnd bank fn first second => Sys2Proof.Machine.execMplTransferEnd bank fn first second s
  | .flkFrameToField frame => Sys2Proof.Machine.execFlkFrameToField frame s
  | .flkFrameFromField seq crcOk => Sys2Proof.Machine.execFlkFrameFromField seq crcOk s
  | .flkDown => Sys2Proof.Machine.execFlkDown s
  | .claimCmdClaim req res => Sys2Proof.Machine.execClaimCmdClaim req res s
  | .claimCmdRelease req res => Sys2Proof.Machine.execClaimCmdRelease req res s
  | .claimCmdQuery req res => Sys2Proof.Machine.execClaimCmdQuery req res s
  | .tickStart => Sys2Proof.Machine.execTickStart s
  | .regionTickArrival r skew => Sys2Proof.Machine.execRegionTickArrival r skew s
  | .elementPhaseStart c => Sys2Proof.Machine.execElementPhaseStart c s
  | .wtick k pn ps z => Sys2Proof.Machine.execWtick k pn ps z s
  | .elementDeadline c => Sys2Proof.Machine.execElementDeadline c s
  | .clusterFaultClearWrite c => Sys2Proof.Machine.execClusterFaultClearWrite c s
  | .clusterFaultLift c => Sys2Proof.Machine.execClusterFaultLift c s
  | .ovrCfgWrite c v => Sys2Proof.Machine.execOvrCfgWrite c v s
  | .tickIdxRead req => Sys2Proof.Machine.execTickIdxRead req s
  | .stitchSample ch => Sys2Proof.Machine.execStitchSample ch s
  | .coarseOverload ch ones run stretch => Sys2Proof.Machine.execCoarseOverload ch ones run stretch s
  | .afePllUnlock => Sys2Proof.Machine.execAfePllUnlock s
  | .afePllRelock => Sys2Proof.Machine.execAfePllRelock s
  | .afeRecheck die => Sys2Proof.Machine.execAfeRecheck die s
  | .afeCheckDone die refOk lockOk fine coarse => Sys2Proof.Machine.execAfeCheckDone die refOk lockOk fine coarse s
  | .calWindowEnd ch => Sys2Proof.Machine.execCalWindowEnd ch s
  | .calUpdate ch => Sys2Proof.Machine.execCalUpdate ch s
  | .calCfgWrite ch v => Sys2Proof.Machine.execCalCfgWrite ch v s
  | .trimWrite ch k v => Sys2Proof.Machine.execTrimWrite ch k v s
  | .trimApply ch => Sys2Proof.Machine.execTrimApply ch s
  | .stcCtrlWrite ch v => Sys2Proof.Machine.execStcCtrlWrite ch v s
  | .stcModeApply ch => Sys2Proof.Machine.execStcModeApply ch s
  | .stcThrDnWrite ch v => Sys2Proof.Machine.execStcThrDnWrite ch v s
  | .clSrcWrite c v => Sys2Proof.Machine.execClSrcWrite c v s
  | .srcChange c => Sys2Proof.Machine.execSrcChange c s
  | .recSampleComplete ch => Sys2Proof.Machine.execRecSampleComplete ch s
  | .wbSample ch => Sys2Proof.Machine.execWbSample ch s
  | .fpdStretchEnd ch => Sys2Proof.Machine.execFpdStretchEnd ch s
  | .trkSample c => Sys2Proof.Machine.execTrkSample c s
  | .trkCycleComplete c => Sys2Proof.Machine.execTrkCycleComplete c s
  | .trkCfgWrite c v => Sys2Proof.Machine.execTrkCfgWrite c v s
  | .trkCfgApply c => Sys2Proof.Machine.execTrkCfgApply c s
  | .laneFadeRequest ch v => Sys2Proof.Machine.execLaneFadeRequest ch v s
  | .laneFadeStart ch => Sys2Proof.Machine.execLaneFadeStart ch s
  | .laneFadeEnd ch => Sys2Proof.Machine.execLaneFadeEnd ch s
  | .coefWrite req c off v => Sys2Proof.Machine.execCoefWrite req c off v s
  | .laneStructWrite ch k v => Sys2Proof.Machine.execLaneStructWrite ch k v s
  | .laneRunStop ch => Sys2Proof.Machine.execLaneRunStop ch s
  | .laneStopApply ch => Sys2Proof.Machine.execLaneStopApply ch s
  | .laneRunStart ch => Sys2Proof.Machine.execLaneRunStart ch s
  | .laneRestartApply ch => Sys2Proof.Machine.execLaneRestartApply ch s
  | .laneLoadDef ch sel => Sys2Proof.Machine.execLaneLoadDef ch sel s
  | .loadDefApply ch => Sys2Proof.Machine.execLoadDefApply ch s
  | .chainRestart ch => Sys2Proof.Machine.execChainRestart ch s
  | .laneSettleEnd ch => Sys2Proof.Machine.execLaneSettleEnd ch s
  | .alu k pn ps rd ra rb fn => Sys2Proof.Machine.execAlu k pn ps rd ra rb fn s
  | .addi k pn ps rd ra imm => Sys2Proof.Machine.execAddi k pn ps rd ra imm s
  | .andi k pn ps rd ra imm => Sys2Proof.Machine.execAndi k pn ps rd ra imm s
  | .ori k pn ps rd ra imm => Sys2Proof.Machine.execOri k pn ps rd ra imm s
  | .xori k pn ps rd ra imm => Sys2Proof.Machine.execXori k pn ps rd ra imm s
  | .shi k pn ps rd ra imm => Sys2Proof.Machine.execShi k pn ps rd ra imm s
  | .movl k pn ps rd imm => Sys2Proof.Machine.execMovl k pn ps rd imm s
  | .movh k pn ps rd imm => Sys2Proof.Machine.execMovh k pn ps rd imm s
  | .cmp k pn ps rd ra rb fn => Sys2Proof.Machine.execCmp k pn ps rd ra rb fn s
  | .cmpi k pn ps rd ra imm => Sys2Proof.Machine.execCmpi k pn ps rd ra imm s
  | .fpu k pn ps rd ra rb fn => Sys2Proof.Machine.execFpu k pn ps rd ra rb fn s
  | .fcmp k pn ps rd ra rb fn => Sys2Proof.Machine.execFcmp k pn ps rd ra rb fn s
  | .fma k pn ps rd ra rb fn => Sys2Proof.Machine.execFma k pn ps rd ra rb fn s
  | .rdfs k pn ps rd ra rb => Sys2Proof.Machine.execRdfs k pn ps rd ra rb s
  | .clrfs k pn ps rd ra rb => Sys2Proof.Machine.execClrfs k pn ps rd ra rb s
  | .rdlc k pn ps rd ra rb => Sys2Proof.Machine.execRdlc k pn ps rd ra rb s
  | .rdp k pn ps rd ra rb => Sys2Proof.Machine.execRdp k pn ps rd ra rb s
  | .ld k pn ps rd ra off => Sys2Proof.Machine.execLd k pn ps rd ra off s
  | .st k pn ps rd ra off => Sys2Proof.Machine.execSt k pn ps rd ra off s
  | .ldz k pn ps rd ra off => Sys2Proof.Machine.execLdz k pn ps rd ra off s
  | .stz k pn ps rd ra off => Sys2Proof.Machine.execStz k pn ps rd ra off s
  | .ldw k pn ps rd ra off => Sys2Proof.Machine.execLdw k pn ps rd ra off s
  | .ldp k pn ps rd ra off => Sys2Proof.Machine.execLdp k pn ps rd ra off s
  | .ldzp k pn ps rd ra off => Sys2Proof.Machine.execLdzp k pn ps rd ra off s
  | .ldx k pn ps rd ra rb fn => Sys2Proof.Machine.execLdx k pn ps rd ra rb fn s
  | .stx k pn ps rd ra rb fn => Sys2Proof.Machine.execStx k pn ps rd ra rb fn s
  | .cpx k pn ps zd za zb ga fn => Sys2Proof.Machine.execCpx k pn ps zd za zb ga fn s
  | .csr k pn ps rd ra n => Sys2Proof.Machine.execCsr k pn ps rd ra n s
  | .eret k pn ps z => Sys2Proof.Machine.execEret k pn ps z s
  | .wfi k pn ps z => Sys2Proof.Machine.execWfi k pn ps z s
  | .fence k pn ps z => Sys2Proof.Machine.execFence k pn ps z s
  | .supInterruptEntry j => Sys2Proof.Machine.execSupInterruptEntry j s
  | .tripreq k pn ps ra x => Sys2Proof.Machine.execTripreq k pn ps ra x s
  | .flagOr k pn ps ra z b => Sys2Proof.Machine.execFlagOr k pn ps ra z b s
  | .flagAndn k pn ps ra z b => Sys2Proof.Machine.execFlagAndn k pn ps ra z b s
  | .flagMov k pn ps ra z b => Sys2Proof.Machine.execFlagMov k pn ps ra z b s
  | .flagBit k pn ps ra z b => Sys2Proof.Machine.execFlagBit k pn ps ra z b s
  | .evt k pn ps ra rb code => Sys2Proof.Machine.execEvt k pn ps ra rb code s
  | .xchPub k pn ps rd z c z1 slot => Sys2Proof.Machine.execXchPub k pn ps rd z c z1 slot s
  | .xchRd k pn ps rd z c z1 slot => Sys2Proof.Machine.execXchRd k pn ps rd z c z1 slot s
  | .xchTag k pn ps rd z c z1 slot => Sys2Proof.Machine.execXchTag k pn ps rd z c z1 slot s
  | .br k pn ps off => Sys2Proof.Machine.execBr k pn ps off s
  | .loop k pn ps trip len => Sys2Proof.Machine.execLoop k pn ps trip len s
  | .jt k pn ps ra n z => Sys2Proof.Machine.execJt k pn ps ra n z s
  | .call k pn ps z target => Sys2Proof.Machine.execCall k pn ps z target s
  | .ret k pn ps z => Sys2Proof.Machine.execRet k pn ps z s
  | .lds k pn ps rd zd str lane al age => Sys2Proof.Machine.execLds k pn ps rd zd str lane al age s
  | .phs k pn ps rd zd lane w z h => Sys2Proof.Machine.execPhs k pn ps rd zd lane w z h s
  | .seq k pn ps z1 zd za kind z => Sys2Proof.Machine.execSeq k pn ps z1 zd za kind z s
  | .frq k pn ps rd sel z => Sys2Proof.Machine.execFrq k pn ps rd sel z s
  | .crvStep k pn ps rd ra n z => Sys2Proof.Machine.execCrvStep k pn ps rd ra n z s
  | .crvReset k pn ps rd ra n z => Sys2Proof.Machine.execCrvReset k pn ps rd ra n z s
  | .crvRead k pn ps rd ra n z => Sys2Proof.Machine.execCrvRead k pn ps rd ra n z s
  | .cmphEval k pn ps rd ra n z => Sys2Proof.Machine.execCmphEval k pn ps rd ra n z s
  | .cmphReset k pn ps rd ra n z => Sys2Proof.Machine.execCmphReset k pn ps rd ra n z s
  | .cmphRead k pn ps rd ra n z => Sys2Proof.Machine.execCmphRead k pn ps rd ra n z s
  | .tmrStep k pn ps rd ra n z => Sys2Proof.Machine.execTmrStep k pn ps rd ra n z s
  | .tmrReset k pn ps rd ra n z => Sys2Proof.Machine.execTmrReset k pn ps rd ra n z s
  | .tmrRead k pn ps rd ra n z => Sys2Proof.Machine.execTmrRead k pn ps rd ra n z s
  | .limg k pn ps rd dir z word => Sys2Proof.Machine.execLimg k pn ps rd dir z word s
  | .ltmrStep k pn ps rd ra n => Sys2Proof.Machine.execLtmrStep k pn ps rd ra n s
  | .ltmrReset k pn ps rd ra n => Sys2Proof.Machine.execLtmrReset k pn ps rd ra n s
  | .ltmrRead k pn ps rd ra n => Sys2Proof.Machine.execLtmrRead k pn ps rd ra n s
  | .ledg k pn ps rd ra n => Sys2Proof.Machine.execLedg k pn ps rd ra n s
  | .wturn k pn ps z => Sys2Proof.Machine.execWturn k pn ps z s
  | .coreLoadValidate c => Sys2Proof.Machine.execCoreLoadValidate c s
  | .coreValidationDone c => Sys2Proof.Machine.execCoreValidationDone c s
  | .coreActivate c => Sys2Proof.Machine.execCoreActivate c s
  | .coreActivationApply c => Sys2Proof.Machine.execCoreActivationApply c s
  | .coreRevert c => Sys2Proof.Machine.execCoreRevert c s
  | .coreRunStop c => Sys2Proof.Machine.execCoreRunStop c s
  | .coreStopApply c => Sys2Proof.Machine.execCoreStopApply c s
  | .coreRunStart c => Sys2Proof.Machine.execCoreRunStart c s
  | .coreStartApply c => Sys2Proof.Machine.execCoreStartApply c s
  | .coreActAtWrite c v => Sys2Proof.Machine.execCoreActAtWrite c v s
  | .coreDmemPortWrite req c addr v => Sys2Proof.Machine.execCoreDmemPortWrite req c addr v s
  | .coreImemPortWrite req c addr v => Sys2Proof.Machine.execCoreImemPortWrite req c addr v s
  | .ifdHoldExpiry c => Sys2Proof.Machine.execIfdHoldExpiry c s
  | .cdDropout c => Sys2Proof.Machine.execCdDropout c s
  | .ifdKeyWrite c v => Sys2Proof.Machine.execIfdKeyWrite c v s
  | .ifdLockedWrite c k v => Sys2Proof.Machine.execIfdLockedWrite c k v s
  | .ifdRunStop c => Sys2Proof.Machine.execIfdRunStop c s
  | .ifdStopApply c => Sys2Proof.Machine.execIfdStopApply c s
  | .ifdRunStart c => Sys2Proof.Machine.execIfdRunStart c s
  | .ifdRestartApply c => Sys2Proof.Machine.execIfdRestartApply c s
  | .lightInputEdge ch on => Sys2Proof.Machine.execLightInputEdge ch on s
  | .coinWindowExpiry c light => Sys2Proof.Machine.execCoinWindowExpiry c light s
  | .wfPop c => Sys2Proof.Machine.execWfPop c s
  | .wfFlush c => Sys2Proof.Machine.execWfFlush c s
  | .clRoleWrite c v => Sys2Proof.Machine.execClRoleWrite c v s
  | .afCfgWrite c v => Sys2Proof.Machine.execAfCfgWrite c v s
  | .crvSettingWrite c n k v => Sys2Proof.Machine.execCrvSettingWrite c n k v s
  | .userTableWrite c t w v => Sys2Proof.Machine.execUserTableWrite c t w v s
  | .primCfgWrite c off v => Sys2Proof.Machine.execPrimCfgWrite c off v s
  | .primSettingsApply c => Sys2Proof.Machine.execPrimSettingsApply c s
  | .tlMinElapsed n => Sys2Proof.Machine.execTlMinElapsed n s
  | .tlMaxElapsed n => Sys2Proof.Machine.execTlMaxElapsed n s
  | .bfTimerExpiry n => Sys2Proof.Machine.execBfTimerExpiry n s
  | .tripKeyWrite req v => Sys2Proof.Machine.execTripKeyWrite req v s
  | .tlRunSet req n => Sys2Proof.Machine.execTlRunSet req n s
  | .tlRunClear req n => Sys2Proof.Machine.execTlRunClear req n s
  | .tlConfigWrite req n k v => Sys2Proof.Machine.execTlConfigWrite req n k v s
  | .turnStart => Sys2Proof.Machine.execTurnStart s
  | .lthProgramStart => Sys2Proof.Machine.execLthProgramStart s
  | .turnDeadline => Sys2Proof.Machine.execTurnDeadline s
  | .lthHaltCmd => Sys2Proof.Machine.execLthHaltCmd s
  | .lthLockstepMismatch => Sys2Proof.Machine.execLthLockstepMismatch s
  | .retainedFlushDone fail => Sys2Proof.Machine.execRetainedFlushDone fail s
  | .lthStart => Sys2Proof.Machine.execLthStart s
  | .lthLoadValidate => Sys2Proof.Machine.execLthLoadValidate s
  | .lthValidationDone => Sys2Proof.Machine.execLthValidationDone s
  | .lthArm => Sys2Proof.Machine.execLthArm s
  | .lthDisarm => Sys2Proof.Machine.execLthDisarm s
  | .lthRevert => Sys2Proof.Machine.execLthRevert s
  | .revertWindowClose => Sys2Proof.Machine.execRevertWindowClose s
  | .meterSnapshot => Sys2Proof.Machine.execMeterSnapshot s
  | .lthCfgWrite v => Sys2Proof.Machine.execLthCfgWrite v s
  | .meterCfgWrite v => Sys2Proof.Machine.execMeterCfgWrite v s
  | .lthTurnLoRead req => Sys2Proof.Machine.execLthTurnLoRead req s
  | .recFrameWrite j ok => Sys2Proof.Machine.execRecFrameWrite j ok s
  | .recHostTrigger req j => Sys2Proof.Machine.execRecHostTrigger req j s
  | .recRelease req j => Sys2Proof.Machine.execRecRelease req j s
  | .recClose j ok => Sys2Proof.Machine.execRecClose j ok s
  | .wbFreeze c => Sys2Proof.Machine.execWbFreeze c s
  | .wbCopyDone c ok => Sys2Proof.Machine.execWbCopyDone c ok s
  | .recRunStart req j => Sys2Proof.Machine.execRecRunStart req j s
  | .recScanDone j => Sys2Proof.Machine.execRecScanDone j s
  | .recRunStop req j => Sys2Proof.Machine.execRecRunStop req j s
  | .recStopApply j => Sys2Proof.Machine.execRecStopApply j s
  | .recConfigWrite req j off v => Sys2Proof.Machine.execRecConfigWrite req j off v s
  | .blzRunStart req j => Sys2Proof.Machine.execBlzRunStart req j s
  | .blzRunStop req j => Sys2Proof.Machine.execBlzRunStop req j s
  | .blazeStep j => Sys2Proof.Machine.execBlazeStep j s
  | .blzTimerExpiry j t => Sys2Proof.Machine.execBlzTimerExpiry j t s
  | .blzCounterLimit j c => Sys2Proof.Machine.execBlzCounterLimit j c s
  | .gaugeArm req j g => Sys2Proof.Machine.execGaugeArm req j g s
  | .gaugeDisarm req j g => Sys2Proof.Machine.execGaugeDisarm req j g s
  | .gaugeViolation j g => Sys2Proof.Machine.execGaugeViolation j g s
  | .gaugeTableWrite req c off v => Sys2Proof.Machine.execGaugeTableWrite req c off v s
  | .comtradeExport j id kind cfg hdr dat => Sys2Proof.Machine.execComtradeExport j id kind cfg hdr dat s
  | .tallyRaise code sparam p0 p1 => Sys2Proof.Machine.execTallyRaise code sparam p0 p1 s
  | .tallySlotWrite verify verifyFault => Sys2Proof.Machine.execTallySlotWrite verify verifyFault s
  | .bucketTokenGain b => Sys2Proof.Machine.execBucketTokenGain b s
  | .tallyPost req port => Sys2Proof.Machine.execTallyPost req port s
  | .tallyResume => Sys2Proof.Machine.execTallyResume s
  | .tallyScanDone => Sys2Proof.Machine.execTallyScanDone s
  | .tallyClearRequest req key revoke => Sys2Proof.Machine.execTallyClearRequest req key revoke s
  | .tallyClearConfirm req => Sys2Proof.Machine.execTallyClearConfirm req s
  | .tallyClearAbort req => Sys2Proof.Machine.execTallyClearAbort req s
  | .tallyNonceExpiry => Sys2Proof.Machine.execTallyNonceExpiry s
  | .tallyLockoutEnd => Sys2Proof.Machine.execTallyLockoutEnd s
  | .tallyEraseDone bad => Sys2Proof.Machine.execTallyEraseDone bad s
  | .tallyLrClear => Sys2Proof.Machine.execTallyLrClear s
  | .tallyBucketWrite b cfg v => Sys2Proof.Machine.execTallyBucketWrite b cfg v s
  | .tbCmdStart req => Sys2Proof.Machine.execTbCmdStart req s
  | .tbStart => Sys2Proof.Machine.execTbStart s
  | .tbCmdStep req => Sys2Proof.Machine.execTbCmdStep req s
  | .timeStepApply => Sys2Proof.Machine.execTimeStepApply s
  | .tbCmdAfeSync req => Sys2Proof.Machine.execTbCmdAfeSync req s
  | .afeSyncApply => Sys2Proof.Machine.execAfeSyncApply s
  | .tbCmdResetI req => Sys2Proof.Machine.execTbCmdResetI req s
  | .tbModeWrite v => Sys2Proof.Machine.execTbModeWrite v s
  | .tbModeApply => Sys2Proof.Machine.execTbModeApply s
  | .tbAddendCommit req lo => Sys2Proof.Machine.execTbAddendCommit req lo s
  | .tbOffsCommit req lo => Sys2Proof.Machine.execTbOffsCommit req lo s
  | .servoHoldoutExpiry => Sys2Proof.Machine.execServoHoldoutExpiry s
  | .tbServoWrite v => Sys2Proof.Machine.execTbServoWrite v s
  | .leapApply => Sys2Proof.Machine.execLeapApply s
  | .rtcAlign => Sys2Proof.Machine.execRtcAlign s
  | .tbTimeFracRead req => Sys2Proof.Machine.execTbTimeFracRead req s
  | .tbCntLoRead req => Sys2Proof.Machine.execTbCntLoRead req s
  | .almArm req n v => Sys2Proof.Machine.execAlmArm req n v s
  | .almDisarm req n v => Sys2Proof.Machine.execAlmDisarm req n v s
  | .almWrite req n k v => Sys2Proof.Machine.execAlmWrite req n k v s
  | .alarmFire n => Sys2Proof.Machine.execAlarmFire n s
  | .almLastNsRead req n => Sys2Proof.Machine.execAlmLastNsRead req n s
  | .tioModeWrite req n v => Sys2Proof.Machine.execTioModeWrite req n v s
  | .tioCapture n rising sec ns => Sys2Proof.Machine.execTioCapture n rising sec ns s
  | .ppsInEdge n sec ns => Sys2Proof.Machine.execPpsInEdge n sec ns s
  | .tioPulseEdge n => Sys2Proof.Machine.execTioPulseEdge n s
  | .tioCapNsRead req n => Sys2Proof.Machine.execTioCapNsRead req n s
  | .ethFrameRx p frame fcsOk sec ns => Sys2Proof.Machine.execEthFrameRx p frame fcsOk sec ns s
  | .ethFrameEgress p sec ns => Sys2Proof.Machine.execEthFrameEgress p sec ns s
  | .prpSupervisionSend => Sys2Proof.Machine.execPrpSupervisionSend s
  | .addressAgeing mac => Sys2Proof.Machine.execAddressAgeing mac s
  | .ethLink p up speed => Sys2Proof.Machine.execEthLink p up speed s
  | .redPathLost p => Sys2Proof.Machine.execRedPathLost p s
  | .ethApply req v => Sys2Proof.Machine.execEthApply req v s
  | .svLost n => Sys2Proof.Machine.execSvLost n s
  | .svPubFrameSend c => Sys2Proof.Machine.execSvPubFrameSend c s
  | .gooseExpiry e => Sys2Proof.Machine.execGooseExpiry e s
  | .gpubCommit req g v => Sys2Proof.Machine.execGpubCommit req g v s
  | .gooseRetransmit g => Sys2Proof.Machine.execGooseRetransmit g s
  | .svSlotWrite req n k v => Sys2Proof.Machine.execSvSlotWrite req n k v s
  | .ethTxtsNsRead req => Sys2Proof.Machine.execEthTxtsNsRead req s
  | .ethTblDataRead req => Sys2Proof.Machine.execEthTblDataRead req s
  | .ethTblDataWrite req v => Sys2Proof.Machine.execEthTblDataWrite req v s
  | .canInitSet req c v => Sys2Proof.Machine.execCanInitSet req c v s
  | .canInitApply c => Sys2Proof.Machine.execCanInitApply c s
  | .canInitClear req c v => Sys2Proof.Machine.execCanInitClear req c v s
  | .canBusJoin c => Sys2Proof.Machine.execCanBusJoin c s
  | .canOcmdQueue req c => Sys2Proof.Machine.execCanOcmdQueue req c s
  | .canOcmdCancel req c sofPassed => Sys2Proof.Machine.execCanOcmdCancel req c sofPassed s
  | .canOcmdClearNew req c => Sys2Proof.Machine.execCanOcmdClearNew req c s
  | .canBusoffRecover req c => Sys2Proof.Machine.execCanBusoffRecover req c s
  | .canRecoveryDone c => Sys2Proof.Machine.execCanRecoveryDone c s
  | .canFrameSelect c => Sys2Proof.Machine.execCanFrameSelect c s
  | .canFrameTxDone c sec ns loop => Sys2Proof.Machine.execCanFrameTxDone c sec ns loop s
  | .canTxLost c why noCount => Sys2Proof.Machine.execCanTxLost c why noCount s
  | .canFrameRx c f sec ns => Sys2Proof.Machine.execCanFrameRx c f sec ns s
  | .canOwinW3Read req c => Sys2Proof.Machine.execCanOwinW3Read req c s
  | .canOwinWrite req c w v => Sys2Proof.Machine.execCanOwinWrite req c w v s
  | .fioInputEdge n on sec ns => Sys2Proof.Machine.execFioInputEdge n on sec ns s
  | .fioEvtNsRead req => Sys2Proof.Machine.execFioEvtNsRead req s
  | .fioCfgWrite req n v => Sys2Proof.Machine.execFioCfgWrite req n v s
  | .fioDrvWrite req hi v => Sys2Proof.Machine.execFioDrvWrite req hi v s
  | .fioGrpWrite req b v => Sys2Proof.Machine.execFioGrpWrite req b v s
  | .fioMismatch n => Sys2Proof.Machine.execFioMismatch n s
  | .fioOvercurrent n => Sys2Proof.Machine.execFioOvercurrent n s
  | .fioThermalOff n => Sys2Proof.Machine.execFioThermalOff n s
  | .fioThermalOn n => Sys2Proof.Machine.execFioThermalOn n s
  | .vfieldWarn b mv => Sys2Proof.Machine.execVfieldWarn b mv s
  | .vfieldWarnClear b mv => Sys2Proof.Machine.execVfieldWarnClear b mv s
  | .vfieldUvlo b mv => Sys2Proof.Machine.execVfieldUvlo b mv s
  | .vfieldUvloRecover b mv => Sys2Proof.Machine.execVfieldUvloRecover b mv s
  | .fieldLogicStop => Sys2Proof.Machine.execFieldLogicStop s
  | .fieldLogicStart mv => Sys2Proof.Machine.execFieldLogicStart mv s
  | .fieldSilence => Sys2Proof.Machine.execFieldSilence s
  | .fioPulseSnapshot => Sys2Proof.Machine.execFioPulseSnapshot s
  | .pairHbFrame l ok seq h toffs tdly => Sys2Proof.Machine.execPairHbFrame l ok seq h toffs tdly s
  | .pairTlFrame l ok seq es => Sys2Proof.Machine.execPairTlFrame l ok seq es s
  | .pairStateFrame l ok seq f => Sys2Proof.Machine.execPairStateFrame l ok seq f s
  | .pairHbPinToggle => Sys2Proof.Machine.execPairHbPinToggle s
  | .pairRoleInFall => Sys2Proof.Machine.execPairRoleInFall s
  | .plinkDown l => Sys2Proof.Machine.execPlinkDown l s
  | .pairDecisionPoint roleIn => Sys2Proof.Machine.execPairDecisionPoint roleIn s
  | .handoverAssert => Sys2Proof.Machine.execHandoverAssert s
  | .pairTlFrameTimeout => Sys2Proof.Machine.execPairTlFrameTimeout s
  | .pairTlFrameSend => Sys2Proof.Machine.execPairTlFrameSend s
  | .pairCmdSwapDrill v => Sys2Proof.Machine.execPairCmdSwapDrill v s
  | .pairCmdRelease v => Sys2Proof.Machine.execPairCmdRelease v s
  | .pairCmdResync => Sys2Proof.Machine.execPairCmdResync s
  | .drillCheckEnd fieldOk fail => Sys2Proof.Machine.execDrillCheckEnd fieldOk fail s
  | .drillDue => Sys2Proof.Machine.execDrillDue s
  | .prefDwellExpiry => Sys2Proof.Machine.execPrefDwellExpiry s
  | .startWaitExpiry roleIn => Sys2Proof.Machine.execStartWaitExpiry roleIn s
  | .pairCfgWrite v => Sys2Proof.Machine.execPairCfgWrite v s
  | .registerWrite req addr be v => Sys2Proof.Machine.execRegisterWrite req addr be v s
  | .aliasWrite req win addr be v => Sys2Proof.Machine.execAliasWrite req win addr be v s
  | .readClear req addr => Sys2Proof.Machine.execReadClear req addr s
  | .unmappedAccess req write addr be => Sys2Proof.Machine.execUnmappedAccess req write addr be s
  | .spiFrame hdr ws => Sys2Proof.Machine.execSpiFrame hdr ws s
  | .hbiIndAddrWrite req v => Sys2Proof.Machine.execHbiIndAddrWrite req v s
  | .hbiIndCtrlWrite req v => Sys2Proof.Machine.execHbiIndCtrlWrite req v s
  | .hbiIndDataRead req => Sys2Proof.Machine.execHbiIndDataRead req s
  | .hbiIndDataWrite req be v => Sys2Proof.Machine.execHbiIndDataWrite req be v s
  | .indPrefetchDone req ok => Sys2Proof.Machine.execIndPrefetchDone req ok s
  | .indQueuedWriteDone req ok => Sys2Proof.Machine.execIndQueuedWriteDone req ok s
  | .intStatClear hi v => Sys2Proof.Machine.execIntStatClear hi v s
  | .intForce hi v => Sys2Proof.Machine.execIntForce hi v s
  | .mboxS2hWrite req n v => Sys2Proof.Machine.execMboxS2hWrite req n v s
  | .mboxH2sWrite req n v => Sys2Proof.Machine.execMboxH2sWrite req n v s
  | .mboxS2hRead req n => Sys2Proof.Machine.execMboxS2hRead req n s
  | .mboxH2sRead req n => Sys2Proof.Machine.execMboxH2sRead req n s
  | .sysRstSoftware v => Sys2Proof.Machine.execSysRstSoftware v s
  | .sysRstRegion v => Sys2Proof.Machine.execSysRstRegion v s
  | .regionResetRelease r => Sys2Proof.Machine.execRegionResetRelease r s
  | .pwrDomWrite v => Sys2Proof.Machine.execPwrDomWrite v s
  | .domainSwitchDone bit => Sys2Proof.Machine.execDomainSwitchDone bit s
  | .pwrHalfWrite v => Sys2Proof.Machine.execPwrHalfWrite v s
  | .halfApply r => Sys2Proof.Machine.execHalfApply r s
  | .avsStep r m => Sys2Proof.Machine.execAvsStep r m s
  | .holdupStart vhold vin => Sys2Proof.Machine.execHoldupStart vhold vin s
  | .pdNetShed => Sys2Proof.Machine.execPdNetShed s
  | .holdupStep3 vhold => Sys2Proof.Machine.execHoldupStep3 vhold s
  | .holdupStep4 => Sys2Proof.Machine.execHoldupStep4 s
  | .holdupEnd vhold vin => Sys2Proof.Machine.execHoldupEnd vhold vin s
  | .vinOvervoltage vhold vin => Sys2Proof.Machine.execVinOvervoltage vhold vin s
  | .thermalWarn src t => Sys2Proof.Machine.execThermalWarn src t s
  | .thermalShutdown src t => Sys2Proof.Machine.execThermalShutdown src t s
  | .thermalRestart => Sys2Proof.Machine.execThermalRestart s
  | .wdtKick v => Sys2Proof.Machine.execWdtKick v s
  | .wdtWarn => Sys2Proof.Machine.execWdtWarn s
  | .wdtTimeout => Sys2Proof.Machine.execWdtTimeout s
  | .powerOnReset => Sys2Proof.Machine.execPowerOnReset s
  | .resetNAssert => Sys2Proof.Machine.execResetNAssert s
  | .resetNRelease pref spi => Sys2Proof.Machine.execResetNRelease pref spi s
  | .mainPllLoss => Sys2Proof.Machine.execMainPllLoss s
  | .vkeepLoss => Sys2Proof.Machine.execVkeepLoss s
  | .bootImageDone e => Sys2Proof.Machine.execBootImageDone e s
  | .bootContinue v => Sys2Proof.Machine.execBootContinue v s
  | .bootRaiseMin v => Sys2Proof.Machine.execBootRaiseMin v s
  | .missedOwnDeadline => Sys2Proof.Machine.execMissedOwnDeadline s
  | .canRxBusError c why heavy => Sys2Proof.Machine.execCanRxBusError c why heavy s
  | .thermalWarnClear => Sys2Proof.Machine.execThermalWarnClear s
  | .holdOkChange vhold => Sys2Proof.Machine.execHoldOkChange vhold s
  | .wdtCountClear => Sys2Proof.Machine.execWdtCountClear s
  | .hbiAccessReady => Sys2Proof.Machine.execHbiAccessReady s
  | .illegalInstruction k w => Sys2Proof.Machine.execIllegalInstruction k w s

end Sys2Proof.Machine
end

