-- ==== Sys2Proof/Machine/Step.lean ====
section
/-!
DEFINITION. One step of the device: the command at the front of the queue, or, on an empty queue, one period of the
250 MHz counter clock (R396).
-/
namespace Sys2Proof.Machine
open Sys2Proof

/-- One step. An empty queue lets one counter period pass (DESIGN CHOICE, log entry 1), which may bring a memory error (R165,
log entry 133). -/
def step (s : State) : Host.Outcome State Fault Refusal :=
  match s.pending with
  | [] => .next (s.pass 1).upsetNow
  | c :: cs => exec c { s with pending := cs }

/-- The state with the command that a word spells at the front of the queue; the opcode table gives no row any bits, so no
word spells a command. -/
def State.withFetchWord (s : State) (nbits w : Nat) : State :=
  match decodeTableWord nbits w with
  | some c => { s with pending := c :: s.pending }
  | none => s

end Sys2Proof.Machine
end

