-- ==== Sys2Proof/Safety.lean ====
section
/-!
DEFINITION. What a safe step and a safe run are: the device never stops. And the terms the statements use: when a core executes an
instruction word, and what an instruction leaves unchanged.
-/
namespace Sys2Proof
open Sys2Proof.Machine

/-- A step that answers a next state: no fault and no refusal. -/
def SafeStep (s : State) : Prop := ∃ t, step s = .next t

/-- A run of n safe steps. -/
def SafeRun : Nat → State → Prop
  | 0, _ => True
  | n + 1, s => ∃ t, step s = .next t ∧ SafeRun n t

/-- The requester of an access, for the commands that name one: register accesses and the operations that a register access starts. -/
def Instr.requester : Instr → Option Req
  | .claimCmdClaim r _ => some r
  | .claimCmdRelease r _ => some r
  | .claimCmdQuery r _ => some r
  | .tickIdxRead r => some r
  | .coefWrite r _ _ _ => some r
  | .coreDmemPortWrite r _ _ _ => some r
  | .coreImemPortWrite r _ _ _ => some r
  | .tripKeyWrite r _ => some r
  | .tlRunSet r _ => some r
  | .tlRunClear r _ => some r
  | .tlConfigWrite r _ _ _ => some r
  | .lthTurnLoRead r => some r
  | .recHostTrigger r _ => some r
  | .recRelease r _ => some r
  | .recRunStart r _ => some r
  | .recRunStop r _ => some r
  | .recConfigWrite r _ _ _ => some r
  | .blzRunStart r _ => some r
  | .blzRunStop r _ => some r
  | .gaugeArm r _ _ => some r
  | .gaugeDisarm r _ _ => some r
  | .gaugeTableWrite r _ _ _ => some r
  | .tallyPost r _ => some r
  | .tallyClearRequest r _ _ => some r
  | .tallyClearConfirm r => some r
  | .tallyClearAbort r => some r
  | .tbCmdStart r => some r
  | .tbCmdStep r => some r
  | .tbCmdAfeSync r => some r
  | .tbCmdResetI r => some r
  | .tbAddendCommit r _ => some r
  | .tbOffsCommit r _ => some r
  | .tbTimeFracRead r => some r
  | .tbCntLoRead r => some r
  | .almArm r _ _ => some r
  | .almDisarm r _ _ => some r
  | .almWrite r _ _ _ => some r
  | .almLastNsRead r _ => some r
  | .tioModeWrite r _ _ => some r
  | .tioCapNsRead r _ => some r
  | .ethApply r _ => some r
  | .gpubCommit r _ _ => some r
  | .svSlotWrite r _ _ _ => some r
  | .ethTxtsNsRead r => some r
  | .ethTblDataRead r => some r
  | .ethTblDataWrite r _ => some r
  | .canInitSet r _ _ => some r
  | .canInitClear r _ _ => some r
  | .canOcmdQueue r _ => some r
  | .canOcmdCancel r _ _ => some r
  | .canOcmdClearNew r _ => some r
  | .canBusoffRecover r _ => some r
  | .canOwinW3Read r _ => some r
  | .canOwinWrite r _ _ _ => some r
  | .fioEvtNsRead r => some r
  | .fioCfgWrite r _ _ => some r
  | .fioDrvWrite r _ _ => some r
  | .fioGrpWrite r _ _ => some r
  | .registerWrite r _ _ _ => some r
  | .aliasWrite r _ _ _ _ => some r
  | .readClear r _ => some r
  | .unmappedAccess r _ _ _ => some r
  | .hbiIndAddrWrite r _ => some r
  | .hbiIndCtrlWrite r _ => some r
  | .hbiIndDataRead r => some r
  | .hbiIndDataWrite r _ _ => some r
  | .mboxS2hWrite r _ _ => some r
  | .mboxH2sWrite r _ _ => some r
  | .mboxS2hRead r _ => some r
  | .mboxH2sRead r _ => some r
  | _ => none

end Sys2Proof

namespace Sys2Proof.Machine
open Sys2Proof

/-! ### Executing a word -/

/-- The cycle in which core k issues the word w (R174). -/
def State.issueCycle (s : State) (k : CoreId) (w : Word) : Nat := (s.timing k).issueAt (wIssue w) (wWaitsFlags w)

/-- The core runs and no WFI keeps it from issuing. -/
def State.Awake (s : State) (k : CoreId) : Prop := (s.core k.num).run = .active ∧ s.asleep k = false

/-- The core reaches the issue of w before its deadline: it is awake, its PC lies in its code, the word it fetches carries no memory
error (R165), w is legal for its profile and issues before the deadline (R157, R178, R179). -/
structure State.Reaches (s : State) (k : CoreId) (w : Word) : Prop where
  awake : s.Awake k
  inCode : (s.core k.num).pc < s.codeLimit k
  clean : s.fetchUpset k = 0
  legal : wCause k.prof w = none
  inTime : ∀ b, s.budget k = some b → s.issueCycle k w < b

/-- The predicate of w holds, so w takes effect (R161). -/
def State.Takes (s : State) (k : CoreId) (w : Word) : Prop := (s.core k.num).taken (wPn w) (wPs w) = true

/-- Core k issues w and w takes effect. -/
structure State.Runs (s : State) (k : CoreId) (w : Word) : Prop where
  reaches : s.Reaches k w
  takes : s.Takes k w

/-- The state w takes effect on: the core shows the issue cycle as its cycle and waits for nothing. -/
def State.atIssue (s : State) (k : CoreId) (w : Word) : State :=
  (s.coreMod k.num (fun x => { x with waiting := false })).coreMod k.num (fun x => { x with cyc := s.issueCycle k w })

/-! ### Frames of an instruction -/

/-- Nothing differs but core k. -/
def OnlyCore (s t : State) (k : CoreId) : Prop := t = { s with cores := t.cores } ∧ ∀ n, n ≠ k.num → t.core n = s.core n

/-- The word behind w is next, where no loop is open. -/
def Falls (s t : State) (k : CoreId) : Prop :=
  (s.core k.num).loops = [] → (t.core k.num).loops = [] ∧ (t.core k.num).pc = (s.core k.num).pc + 1

/-- The flags f are added to FSTAT, the return addresses stay, and the word behind is next. -/
def AddsFlags (s t : State) (k : CoreId) (f : BitVec 4) : Prop :=
  (t.core k.num).fstat = (s.core k.num).fstat ||| f ∧ (t.core k.num).rets = (s.core k.num).rets ∧ Falls s t k

/-- The g, z and p registers of core k stay. -/
def KeepsG (s t : State) (k : CoreId) : Prop := ∀ r, t.gr k r = s.gr k r
def KeepsZ (s t : State) (k : CoreId) : Prop := ∀ r, t.zr k r = s.zr k r
def KeepsP (s t : State) (k : CoreId) : Prop := ∀ r, t.pr k r = s.pr k r

/-- One g register takes v, g0 excepted, which stays 0 (R159). -/
def PutsG (s t : State) (k : CoreId) (rd : Nat) (v : Word) : Prop := ∀ r, t.gr k r = if r = rd ∧ r ≠ 0 then v else s.gr k r
/-- One z register takes v. -/
def PutsZ (s t : State) (k : CoreId) (zd : Nat) (v : Word × Word) : Prop := ∀ r, t.zr k r = if r = zd then v else s.zr k r
/-- One predicate takes b, p0 excepted, which stays true (R159). -/
def PutsP (s t : State) (k : CoreId) (pd : Nat) (b : Bool) : Prop := ∀ r, t.pr k r = if r = pd ∧ r ≠ 0 then b else s.pr k r

/-- An instruction that writes a g register only. -/
def WritesG (s t : State) (k : CoreId) (rd : Nat) (v : Word) (f : BitVec 4) : Prop :=
  OnlyCore s t k ∧ PutsG s t k rd v ∧ KeepsZ s t k ∧ KeepsP s t k ∧ AddsFlags s t k f
/-- An instruction that writes a z register only. -/
def WritesZ (s t : State) (k : CoreId) (zd : Nat) (v : Word × Word) (f : BitVec 4) : Prop :=
  OnlyCore s t k ∧ KeepsG s t k ∧ PutsZ s t k zd v ∧ KeepsP s t k ∧ AddsFlags s t k f
/-- An instruction that writes a predicate only. -/
def WritesP (s t : State) (k : CoreId) (pd : Nat) (b : Bool) (f : BitVec 4) : Prop :=
  OnlyCore s t k ∧ KeepsG s t k ∧ KeepsZ s t k ∧ PutsP s t k pd b ∧ AddsFlags s t k f
/-- An instruction that writes a g and a z register (LDS, PHS). -/
def WritesGZ (s t : State) (k : CoreId) (rd zd : Nat) (v : Word) (z : Word × Word) : Prop :=
  OnlyCore s t k ∧ PutsG s t k rd v ∧ PutsZ s t k zd z ∧ KeepsP s t k ∧ AddsFlags s t k 0
/-- An instruction that writes no register of its core. -/
def WritesNone (s t : State) (k : CoreId) : Prop := KeepsG s t k ∧ KeepsZ s t k ∧ KeepsP s t k ∧ AddsFlags s t k 0

/-! ### Words kept -/

/-- The registers that raising an interrupt or a record may change: INT_STAT and Tally's own (R378, R572). -/
def Signals (a : Nat) : Prop := a = Reg.INT_STAT_LO ∨ a = Reg.INT_STAT_HI ∨ (0xC000 ≤ a ∧ a < 0x10000)
/-- No register or register-mapped word changes but the listed ones. -/
def OnlyRegs (s t : State) (xs : List Nat) : Prop := ∀ a, a ∉ xs → t.rd a = s.rd a
/-- No register or register-mapped word changes but the listed ones and those an interrupt or a record changes. -/
def OnlyRegsSig (s t : State) (xs : List Nat) : Prop := ∀ a, a ∉ xs → ¬ Signals a → t.rd a = s.rd a

/-- A change of the PC and nothing else. -/
def JumpsTo (s t : State) (k : CoreId) (rets : List Nat) (p : Nat) : Prop :=
  OnlyCore s t k ∧ KeepsG s t k ∧ KeepsZ s t k ∧ KeepsP s t k ∧ (t.core k.num).fstat = (s.core k.num).fstat ∧ (t.core k.num).rets = rets ∧
    ((s.core k.num).loops = [] → (t.core k.num).loops = [] ∧ (t.core k.num).pc = p)

end Sys2Proof.Machine
end

