-- ==== Sys2Proof/WellFormed.lean ====
section
/-!
DEFINITION. Which commands are well formed: payloads have the lengths and ranges their chapters give, and an executed word is legal on
its core (R158, R179, R192), but for ILLEGAL_INSTRUCTION, whose word is not.
-/
namespace Sys2Proof

/-! ### Payloads -/

/-- An AFL frame carries a fine and a coarse word of 16 periods for each of 64 lanes (R16). -/
def aflWf (bits : List (BitVec 16)) : Bool := decide (bits.length = 128)

/-- An MRAM write carries its bytes, 1 to 64; a read carries none (R38). -/
def mramWf (write : Bool) (len : Nat) (data : Bytes) : Bool :=
  decide (len ≠ 0) && decide (data.length = if write then len else 0)

/-- A CAN frame: RTR only in classic frames, BRS and ESI only in FD frames, no identifier extension in base format, data as DLC gives
(R471, R476). -/
def CanFrame.wf (f : CanFrame) : Bool :=
  let n := if f.rtr then 0
    else if f.dlc.val ≤ 8 then f.dlc.val
    else if !f.fdf then 8
    else if f.dlc.val ≤ 12 then 12 + 4 * (f.dlc.val - 9) else 32 + 16 * (f.dlc.val - 13)
  (!f.rtr || !f.fdf) && ((!f.brs && !f.esi) || f.fdf) && (f.ide || decide (f.id.toNat % 262144 = 0)) && decide (f.data.length = n)

/-- An Ethernet frame without its FCS has a header and its type (R437). -/
def ethWf (frame : Bytes) : Bool := decide (14 ≤ frame.length)

/-- Both lists of a start-up check have one ratio for each lane of the die (R95). -/
def checkWf (fine coarse : List Int) : Bool := decide (fine.length = 64) && decide (coarse.length = 64)

/-- An HB frame's fields lie in the ranges of R521. -/
def PairHb.wf (h : PairHb) : Bool :=
  decide (h.sec < 2 ^ 48) && decide (h.idx < 4800) && decide (h.role ≤ 4) && decide (h.req ≤ 3) && decide (h.reqIdx < 4800) &&
    decide (h.kind ≤ 3) && decide (h.sentSec < 2 ^ 32) && decide (h.sentNs < 1000000000) && decide (h.dev < 2 ^ 32) &&
    decide (h.rck < 256)

/-- A line entry of a TL frame: line number, STATE, instant (R521). -/
def PairTl.wf (e : PairTl) : Bool := decide (e.n < 64) && decide (e.st < 8) && decide (e.bf < 4) && decide (e.ns < 1000000000)

/-- A STATE frame is a whole number of words, and so are its copy regions (R181, R534). -/
def stateWf (f : PairState) : Bool := decide (f.bytes.length % 4 = 0) && f.copies.all (fun n => decide (n % 4 = 0))

/-- An SPI write carries at least one word; a read delivers as many (R553). -/
def spiWf (ws : List Word) : Bool := !ws.isEmpty

/-- Numbers listed once, ascending: the bad slots of an erase (R387). -/
def ascending : List Nat → Bool
  | [] => true
  | x :: xs => xs.all (fun y => decide (x < y)) && ascending xs

/-- A command that executes a word: the word is legal on its core. -/
def wordWf (i : Instr) : Bool := i.walsoWord.any (fun p => decide (wCause p.1.prof p.2 = none))

/-- Whether a command is well formed. -/
def Instr.wf (i : Instr) : Bool :=
  match i with
  | .aflFrame _ _ _ bits => aflWf bits
  | .dieLinkDown _ => true
  | .mramAccessRequest _ _ write _ len data => mramWf write len.val data
  | .mplTransferEnd _ _ _ _ => true
  | .flkFrameToField _ => true
  | .flkFrameFromField _ _ => true
  | .flkDown => true
  | .claimCmdClaim _ _ => true
  | .claimCmdRelease _ _ => true
  | .claimCmdQuery _ _ => true
  | .tickStart => true
  | .regionTickArrival _ _ => true
  | .elementPhaseStart _ => true
  | .wtick k pn ps z => wordWf (Instr.wtick k pn ps z)
  | .elementDeadline _ => true
  | .clusterFaultClearWrite _ => true
  | .clusterFaultLift _ => true
  | .ovrCfgWrite _ _ => true
  | .tickIdxRead _ => true
  | .stitchSample _ => true
  | .coarseOverload _ _ _ _ => true
  | .afePllUnlock => true
  | .afePllRelock => true
  | .afeRecheck _ => true
  | .afeCheckDone _ _ _ fine coarse => checkWf fine coarse
  | .calWindowEnd _ => true
  | .calUpdate _ => true
  | .calCfgWrite _ _ => true
  | .trimWrite _ _ _ => true
  | .trimApply _ => true
  | .stcCtrlWrite _ _ => true
  | .stcModeApply _ => true
  | .stcThrDnWrite _ _ => true
  | .clSrcWrite _ _ => true
  | .srcChange _ => true
  | .recSampleComplete _ => true
  | .wbSample _ => true
  | .fpdStretchEnd _ => true
  | .trkSample _ => true
  | .trkCycleComplete _ => true
  | .trkCfgWrite _ _ => true
  | .trkCfgApply _ => true
  | .laneFadeRequest _ _ => true
  | .laneFadeStart _ => true
  | .laneFadeEnd _ => true
  | .coefWrite _ _ _ _ => true
  | .laneStructWrite _ _ _ => true
  | .laneRunStop _ => true
  | .laneStopApply _ => true
  | .laneRunStart _ => true
  | .laneRestartApply _ => true
  | .laneLoadDef _ _ => true
  | .loadDefApply _ => true
  | .chainRestart _ => true
  | .laneSettleEnd _ => true
  | .alu k pn ps rd ra rb fn => wordWf (Instr.alu k pn ps rd ra rb fn)
  | .addi k pn ps rd ra imm => wordWf (Instr.addi k pn ps rd ra imm)
  | .andi k pn ps rd ra imm => wordWf (Instr.andi k pn ps rd ra imm)
  | .ori k pn ps rd ra imm => wordWf (Instr.ori k pn ps rd ra imm)
  | .xori k pn ps rd ra imm => wordWf (Instr.xori k pn ps rd ra imm)
  | .shi k pn ps rd ra imm => wordWf (Instr.shi k pn ps rd ra imm)
  | .movl k pn ps rd imm => wordWf (Instr.movl k pn ps rd imm)
  | .movh k pn ps rd imm => wordWf (Instr.movh k pn ps rd imm)
  | .cmp k pn ps rd ra rb fn => wordWf (Instr.cmp k pn ps rd ra rb fn)
  | .cmpi k pn ps rd ra imm => wordWf (Instr.cmpi k pn ps rd ra imm)
  | .fpu k pn ps rd ra rb fn => wordWf (Instr.fpu k pn ps rd ra rb fn)
  | .fcmp k pn ps rd ra rb fn => wordWf (Instr.fcmp k pn ps rd ra rb fn)
  | .fma k pn ps rd ra rb fn => wordWf (Instr.fma k pn ps rd ra rb fn)
  | .rdfs k pn ps rd ra rb => wordWf (Instr.rdfs k pn ps rd ra rb)
  | .clrfs k pn ps rd ra rb => wordWf (Instr.clrfs k pn ps rd ra rb)
  | .rdlc k pn ps rd ra rb => wordWf (Instr.rdlc k pn ps rd ra rb)
  | .rdp k pn ps rd ra rb => wordWf (Instr.rdp k pn ps rd ra rb)
  | .ld k pn ps rd ra off => wordWf (Instr.ld k pn ps rd ra off)
  | .st k pn ps rd ra off => wordWf (Instr.st k pn ps rd ra off)
  | .ldz k pn ps rd ra off => wordWf (Instr.ldz k pn ps rd ra off)
  | .stz k pn ps rd ra off => wordWf (Instr.stz k pn ps rd ra off)
  | .ldw k pn ps rd ra off => wordWf (Instr.ldw k pn ps rd ra off)
  | .ldp k pn ps rd ra off => wordWf (Instr.ldp k pn ps rd ra off)
  | .ldzp k pn ps rd ra off => wordWf (Instr.ldzp k pn ps rd ra off)
  | .ldx k pn ps rd ra rb fn => wordWf (Instr.ldx k pn ps rd ra rb fn)
  | .stx k pn ps rd ra rb fn => wordWf (Instr.stx k pn ps rd ra rb fn)
  | .cpx k pn ps zd za zb ga fn => wordWf (Instr.cpx k pn ps zd za zb ga fn)
  | .csr k pn ps rd ra n => wordWf (Instr.csr k pn ps rd ra n)
  | .eret k pn ps z => wordWf (Instr.eret k pn ps z)
  | .wfi k pn ps z => wordWf (Instr.wfi k pn ps z)
  | .fence k pn ps z => wordWf (Instr.fence k pn ps z)
  | .supInterruptEntry _ => true
  | .tripreq k pn ps ra x => wordWf (Instr.tripreq k pn ps ra x)
  | .flagOr k pn ps ra z b => wordWf (Instr.flagOr k pn ps ra z b)
  | .flagAndn k pn ps ra z b => wordWf (Instr.flagAndn k pn ps ra z b)
  | .flagMov k pn ps ra z b => wordWf (Instr.flagMov k pn ps ra z b)
  | .flagBit k pn ps ra z b => wordWf (Instr.flagBit k pn ps ra z b)
  | .evt k pn ps ra rb code => wordWf (Instr.evt k pn ps ra rb code)
  | .xchPub k pn ps rd z c z1 slot => wordWf (Instr.xchPub k pn ps rd z c z1 slot)
  | .xchRd k pn ps rd z c z1 slot => wordWf (Instr.xchRd k pn ps rd z c z1 slot)
  | .xchTag k pn ps rd z c z1 slot => wordWf (Instr.xchTag k pn ps rd z c z1 slot)
  | .br k pn ps off => wordWf (Instr.br k pn ps off)
  | .loop k pn ps trip len => wordWf (Instr.loop k pn ps trip len)
  | .jt k pn ps ra n z => wordWf (Instr.jt k pn ps ra n z)
  | .call k pn ps z target => wordWf (Instr.call k pn ps z target)
  | .ret k pn ps z => wordWf (Instr.ret k pn ps z)
  | .lds k pn ps rd zd str lane al age => wordWf (Instr.lds k pn ps rd zd str lane al age)
  | .phs k pn ps rd zd lane w z h => wordWf (Instr.phs k pn ps rd zd lane w z h)
  | .seq k pn ps z1 zd za kind z => wordWf (Instr.seq k pn ps z1 zd za kind z)
  | .frq k pn ps rd sel z => wordWf (Instr.frq k pn ps rd sel z)
  | .crvStep k pn ps rd ra n z => wordWf (Instr.crvStep k pn ps rd ra n z)
  | .crvReset k pn ps rd ra n z => wordWf (Instr.crvReset k pn ps rd ra n z)
  | .crvRead k pn ps rd ra n z => wordWf (Instr.crvRead k pn ps rd ra n z)
  | .cmphEval k pn ps rd ra n z => wordWf (Instr.cmphEval k pn ps rd ra n z)
  | .cmphReset k pn ps rd ra n z => wordWf (Instr.cmphReset k pn ps rd ra n z)
  | .cmphRead k pn ps rd ra n z => wordWf (Instr.cmphRead k pn ps rd ra n z)
  | .tmrStep k pn ps rd ra n z => wordWf (Instr.tmrStep k pn ps rd ra n z)
  | .tmrReset k pn ps rd ra n z => wordWf (Instr.tmrReset k pn ps rd ra n z)
  | .tmrRead k pn ps rd ra n z => wordWf (Instr.tmrRead k pn ps rd ra n z)
  | .limg k pn ps rd dir z word => wordWf (Instr.limg k pn ps rd dir z word)
  | .ltmrStep k pn ps rd ra n => wordWf (Instr.ltmrStep k pn ps rd ra n)
  | .ltmrReset k pn ps rd ra n => wordWf (Instr.ltmrReset k pn ps rd ra n)
  | .ltmrRead k pn ps rd ra n => wordWf (Instr.ltmrRead k pn ps rd ra n)
  | .ledg k pn ps rd ra n => wordWf (Instr.ledg k pn ps rd ra n)
  | .wturn k pn ps z => wordWf (Instr.wturn k pn ps z)
  | .coreLoadValidate _ => true
  | .coreValidationDone _ => true
  | .coreActivate _ => true
  | .coreActivationApply _ => true
  | .coreRevert _ => true
  | .coreRunStop _ => true
  | .coreStopApply _ => true
  | .coreRunStart _ => true
  | .coreStartApply _ => true
  | .coreActAtWrite _ _ => true
  | .coreDmemPortWrite _ _ _ _ => true
  | .coreImemPortWrite _ _ _ _ => true
  | .ifdHoldExpiry _ => true
  | .cdDropout _ => true
  | .ifdKeyWrite _ _ => true
  | .ifdLockedWrite _ _ _ => true
  | .ifdRunStop _ => true
  | .ifdStopApply _ => true
  | .ifdRunStart _ => true
  | .ifdRestartApply _ => true
  | .lightInputEdge _ _ => true
  | .coinWindowExpiry _ _ => true
  | .wfPop _ => true
  | .wfFlush _ => true
  | .clRoleWrite _ _ => true
  | .afCfgWrite _ _ => true
  | .crvSettingWrite _ _ _ _ => true
  | .userTableWrite _ _ _ _ => true
  | .primCfgWrite _ _ _ => true
  | .primSettingsApply _ => true
  | .tlMinElapsed _ => true
  | .tlMaxElapsed _ => true
  | .bfTimerExpiry _ => true
  | .tripKeyWrite _ _ => true
  | .tlRunSet _ _ => true
  | .tlRunClear _ _ => true
  | .tlConfigWrite _ _ _ _ => true
  | .turnStart => true
  | .lthProgramStart => true
  | .turnDeadline => true
  | .lthHaltCmd => true
  | .lthLockstepMismatch => true
  | .retainedFlushDone _ => true
  | .lthStart => true
  | .lthLoadValidate => true
  | .lthValidationDone => true
  | .lthArm => true
  | .lthDisarm => true
  | .lthRevert => true
  | .revertWindowClose => true
  | .meterSnapshot => true
  | .lthCfgWrite _ => true
  | .meterCfgWrite _ => true
  | .lthTurnLoRead _ => true
  | .recFrameWrite _ _ => true
  | .recHostTrigger _ _ => true
  | .recRelease _ _ => true
  | .recClose _ _ => true
  | .wbFreeze _ => true
  | .wbCopyDone _ _ => true
  | .recRunStart _ _ => true
  | .recScanDone _ => true
  | .recRunStop _ _ => true
  | .recStopApply _ => true
  | .recConfigWrite _ _ off _ => decide (off.val % 4 = 0)
  | .blzRunStart _ _ => true
  | .blzRunStop _ _ => true
  | .blazeStep _ => true
  | .blzTimerExpiry _ _ => true
  | .blzCounterLimit _ _ => true
  | .gaugeArm _ _ _ => true
  | .gaugeDisarm _ _ _ => true
  | .gaugeViolation _ _ => true
  | .gaugeTableWrite _ _ _ _ => true
  | .comtradeExport _ _ _ _ _ _ => true
  | .tallyRaise _ _ _ _ => true
  | .tallySlotWrite _ _ => true
  | .bucketTokenGain _ => true
  | .tallyPost _ _ => true
  | .tallyResume => true
  | .tallyScanDone => true
  | .tallyClearRequest _ _ _ => true
  | .tallyClearConfirm _ => true
  | .tallyClearAbort _ => true
  | .tallyNonceExpiry => true
  | .tallyLockoutEnd => true
  | .tallyEraseDone bad => ascending (bad.map (·.val))
  | .tallyLrClear => true
  | .tallyBucketWrite _ _ _ => true
  | .tbCmdStart _ => true
  | .tbStart => true
  | .tbCmdStep _ => true
  | .timeStepApply => true
  | .tbCmdAfeSync _ => true
  | .afeSyncApply => true
  | .tbCmdResetI _ => true
  | .tbModeWrite _ => true
  | .tbModeApply => true
  | .tbAddendCommit _ _ => true
  | .tbOffsCommit _ _ => true
  | .servoHoldoutExpiry => true
  | .tbServoWrite _ => true
  | .leapApply => true
  | .rtcAlign => true
  | .tbTimeFracRead _ => true
  | .tbCntLoRead _ => true
  | .almArm _ _ _ => true
  | .almDisarm _ _ _ => true
  | .almWrite _ _ _ _ => true
  | .alarmFire _ => true
  | .almLastNsRead _ _ => true
  | .tioModeWrite _ _ _ => true
  | .tioCapture _ _ _ _ => true
  | .ppsInEdge _ _ _ => true
  | .tioPulseEdge _ => true
  | .tioCapNsRead _ _ => true
  | .ethFrameRx _ frame _ _ _ => ethWf frame
  | .ethFrameEgress _ _ _ => true
  | .prpSupervisionSend => true
  | .addressAgeing _ => true
  | .ethLink _ _ _ => true
  | .redPathLost _ => true
  | .ethApply _ _ => true
  | .svLost _ => true
  | .svPubFrameSend _ => true
  | .gooseExpiry _ => true
  | .gpubCommit _ _ _ => true
  | .gooseRetransmit _ => true
  | .svSlotWrite _ _ _ _ => true
  | .ethTxtsNsRead _ => true
  | .ethTblDataRead _ => true
  | .ethTblDataWrite _ _ => true
  | .canInitSet _ _ _ => true
  | .canInitApply _ => true
  | .canInitClear _ _ _ => true
  | .canBusJoin _ => true
  | .canOcmdQueue _ _ => true
  | .canOcmdCancel _ _ _ => true
  | .canOcmdClearNew _ _ => true
  | .canBusoffRecover _ _ => true
  | .canRecoveryDone _ => true
  | .canFrameSelect _ => true
  | .canFrameTxDone _ _ _ _ => true
  | .canTxLost _ _ _ => true
  | .canFrameRx _ f _ _ => f.wf
  | .canOwinW3Read _ _ => true
  | .canOwinWrite _ _ _ _ => true
  | .fioInputEdge _ _ _ _ => true
  | .fioEvtNsRead _ => true
  | .fioCfgWrite _ _ _ => true
  | .fioDrvWrite _ _ _ => true
  | .fioGrpWrite _ _ _ => true
  | .fioMismatch _ => true
  | .fioOvercurrent _ => true
  | .fioThermalOff _ => true
  | .fioThermalOn _ => true
  | .vfieldWarn _ _ => true
  | .vfieldWarnClear _ _ => true
  | .vfieldUvlo _ _ => true
  | .vfieldUvloRecover _ _ => true
  | .fieldLogicStop => true
  | .fieldLogicStart _ => true
  | .fieldSilence => true
  | .fioPulseSnapshot => true
  | .pairHbFrame _ _ _ h _ _ => h.wf
  | .pairTlFrame _ _ _ es => es.all PairTl.wf
  | .pairStateFrame _ _ _ f => stateWf f
  | .pairHbPinToggle => true
  | .pairRoleInFall => true
  | .plinkDown _ => true
  | .pairDecisionPoint _ => true
  | .handoverAssert => true
  | .pairTlFrameTimeout => true
  | .pairTlFrameSend => true
  | .pairCmdSwapDrill _ => true
  | .pairCmdRelease _ => true
  | .pairCmdResync => true
  | .drillCheckEnd _ _ => true
  | .drillDue => true
  | .prefDwellExpiry => true
  | .startWaitExpiry _ => true
  | .pairCfgWrite _ => true
  | .registerWrite _ _ _ _ => true
  | .aliasWrite _ _ _ _ _ => true
  | .readClear _ _ => true
  | .unmappedAccess _ _ _ _ => true
  | .spiFrame _ ws => spiWf ws
  | .hbiIndAddrWrite _ _ => true
  | .hbiIndCtrlWrite _ _ => true
  | .hbiIndDataRead _ => true
  | .hbiIndDataWrite _ _ _ => true
  | .indPrefetchDone _ _ => true
  | .indQueuedWriteDone _ _ => true
  | .intStatClear _ _ => true
  | .intForce _ _ => true
  | .mboxS2hWrite _ _ _ => true
  | .mboxH2sWrite _ _ _ => true
  | .mboxS2hRead _ _ => true
  | .mboxH2sRead _ _ => true
  | .sysRstSoftware _ => true
  | .sysRstRegion _ => true
  | .regionResetRelease _ => true
  | .pwrDomWrite _ => true
  | .domainSwitchDone _ => true
  | .pwrHalfWrite _ => true
  | .halfApply _ => true
  | .avsStep _ _ => true
  | .holdupStart _ _ => true
  | .pdNetShed => true
  | .holdupStep3 _ => true
  | .holdupStep4 => true
  | .holdupEnd _ _ => true
  | .vinOvervoltage _ _ => true
  | .thermalWarn _ _ => true
  | .thermalShutdown _ _ => true
  | .thermalRestart => true
  | .wdtKick _ => true
  | .wdtWarn => true
  | .wdtTimeout => true
  | .powerOnReset => true
  | .resetNAssert => true
  | .resetNRelease _ _ => true
  | .mainPllLoss => true
  | .vkeepLoss => true
  | .bootImageDone _ => true
  | .bootContinue _ => true
  | .bootRaiseMin _ => true
  | .missedOwnDeadline => true
  | .canRxBusError _ _ _ => true
  | .thermalWarnClear => true
  | .holdOkChange _ => true
  | .wdtCountClear => true
  | .hbiAccessReady => true
  | .illegalInstruction k w => decide (wCause k.prof w ≠ none)

end Sys2Proof
end

