-- ==== Sys2Proof/Certificates/Slice0/Obligations.lean ====
section
/-!
DEFINITION. The statements about the model, each a proposition over all states and operands it names.
-/
open Sys2Proof Sys2Proof.Machine

/-! ### The queue and the invariant -/

/-- A step takes the command at the front of the queue and answers what that command does with the rest of the queue. -/
def Obligations.StepRunsFront : Prop :=
  ∀ (s : State) (c : Instr) (cs : List Instr), step { s with pending := c :: cs } = exec c { s with pending := cs }

/-- On an empty queue one period of the 250 MHz counter clock passes (the model's choice, log entry 1): the elapsed count advances by one, and
the time value, in units of 2^-32 ns, by ADDEND once the time base has been started, else not at all (R396, R398, R401). The memories of the clusters keep
their contents; a word may come to hold an error in one bit or in two (R165, a free value: log entry 133), and nothing else of a cluster
changes. -/
def Obligations.IdleStepCountsOnePeriod : Prop :=
  ∀ s : State, let time (x : TimeBase) : Nat := (x.sec * 1000000000 + x.ns) * 4294967296 + x.frac
    s.pending = [] → ∃ t, step s = .next t ∧ t.tb.cnt = s.tb.cnt + 1 ∧ t.pending = [] ∧
      time t.tb = time s.tb + (if s.started then s.addend else 0) ∧ t.tb.ns < 1000000000 ∧ t.tb.frac < 4294967296 ∧
      t = { s with regs := t.regs, tb := t.tb, elems := t.elems } ∧
      OnlyRegs s t [Reg.PAIR_DRILL_AGE, Reg.TB_RTC_SEC_LO, Reg.TB_RTC_SEC_HI] ∧
      (∀ c, t.elem c = { s.elem c with errs := (t.elem c).errs }) ∧
      (∀ c key, t.upset c key = s.upset c key ∨ (memKeyOk c key = true ∧ (t.upset c key = 1 ∨ t.upset c key = 2)))

/-- The canonical form of the word map and of MRAM holds after reset.
The form is the model's own (log entry 5 names what an unlisted byte reads as). -/
def Obligations.MemoryWellFormedAtReset : Prop := Memory.wf State.reset = true

/-- Every step keeps the canonical form of the word map and of MRAM and takes exactly one command off the queue.
The form and the queue are the model's own (log entries 4 and 5). -/
def Obligations.StepKeepsMemoryAndQueue : Prop :=
  ∀ s t : State, step s = .next t → (Memory.wf s = true → Memory.wf t = true) ∧ t.pending = s.pending.tail

/-- No step of the device stops: every command answers a next state in every state.
The model has no stop of its own (its choice, log entry 139). -/
def Obligations.EveryStepAnswers : Prop := ∀ s : State, SafeStep s

/-! ### Instruction words -/

/-- The word of a well-formed command that executes an instruction is decoded on the profile of its core as that command. -/
def Obligations.WalsoDecodesItsWord : Prop :=
  ∀ (i : Instr) (k : CoreId) (w : Word), i.walsoWord = some (k, w) → i.wf = true → walsoDecode k w = some i

/-- What a word decodes to has that word: no bit of the encoding is dropped. -/
def Obligations.WalsoWordOfDecoded : Prop :=
  ∀ (k : CoreId) (w : Word) (i : Instr), walsoDecode k w = some i → i.walsoWord = some (k, w)

/-- A word decodes on a profile exactly when decoding it raises no cause there (R192). -/
def Obligations.WalsoDecodesLegalWords : Prop :=
  ∀ (k : CoreId) (w : Word), (walsoDecode k w).isSome = (wCause k.prof w).isNone

/-! ### Executing a word -/

/-- A core that does not run, or sleeps in WFI, executes nothing: the command changes nothing (R159, R226; the model's reading, log
entries 40 and 48). A
word whose predicate is false issues and changes no register, no memory and no other core (R161). An instruction that would issue at or after the
deadline never issues: the core stops late and keeps every register (R178). A double-bit error of the word an element core fetches stops every
instruction with cause 8 at the word, and a single-bit error is corrected, counted and recorded before the instruction executes (R165, R179).
It rests on the model's reading in log entry 133. -/
def Obligations.WalsoIssueRules : Prop :=
  (∀ (i : Instr) (k : CoreId) (w : Word) (s : State), i.walsoWord = some (k, w) → ¬ s.Awake k → exec i s = .next s) ∧
  (∀ (i : Instr) (k : CoreId) (w : Word) (s : State), i.walsoWord = some (k, w) → s.Reaches k w → ¬ s.Takes k w →
    ∃ t, exec i s = .next t ∧ OnlyCore s t k ∧ WritesNone s t k ∧ (t.core k.num).run = .active) ∧
  (∀ (i : Instr) (k : CoreId) (w : Word) (s : State) (b : Nat), i.walsoWord = some (k, w) → s.Awake k → (s.core k.num).pc < s.codeLimit k →
    s.fetchUpset k ≠ 2 → wCause k.prof w = none → s.budget k = some b → b ≤ s.issueCycle k w →
    ∃ t, exec i s = .next t ∧ OnlyCore s t k ∧ KeepsG s t k ∧ KeepsZ s t k ∧ KeepsP s t k ∧
      (t.core k.num).fstat = (s.core k.num).fstat ∧ (t.core k.num).pc = (s.core k.num).pc ∧ (t.core k.num).run = .late) ∧
  (∀ (i : Instr) (c : Fin 16) (w : Word) (s : State) (b : Nat), let k := CoreId.elem c
    i.walsoWord = some (k, w) → s.Awake k → (s.core c.val).pc < s.codeLimit k → s.budget k = some b →
    (s.fetchUpset k = 2 → (s.timing k).cyc < b → ∃ t, exec i s = .next t ∧ (t.core c.val).run = .faulted ∧
      t.rd (Reg.CORE_FAULT c.val) = w32 (8 * 0x1000000 + (s.core c.val).pc % 16384) ∧ t.rd (Reg.CORE_FADDR c.val) = 0 ∧
      t.bit (Reg.CORE_STAT c.val) 9 = true ∧ t.bit Reg.INT_STAT_LO c.val = true ∧ KeepsG s t k ∧ KeepsZ s t k ∧ KeepsP s t k ∧
      t.elems = s.elems ∧ t.mram = s.mram) ∧
    (s.fetchUpset k = 1 → wCause k.prof w = none → s.issueCycle k w < b → ¬ s.Takes k w → ∃ t, exec i s = .next t ∧ WritesNone s t k ∧
      (t.core c.val).run = .active ∧ t.fld (Reg.CORE_ECC c.val) 31 16 = min 65535 (s.fld (Reg.CORE_ECC c.val) 31 16 + 1) ∧
      t.fld (Reg.CORE_ECC c.val) 15 0 = s.fld (Reg.CORE_ECC c.val) 15 0 ∧ t.bit Reg.INT_STAT_LO c.val = true ∧
      t.elem c.val = { s.elem c.val with eccI := (s.elem c.val).eccI + 1 }))

/-- The integer instructions write their result into g[rd], g0 excepted, set no flag and change nothing else (R159, R194, R195).
It rests on the model's reading in log entry 39. -/
def Obligations.WalsoIntegerResults : Prop :=
  ∀ (s : State) (k : CoreId) (pn : Bool) (ps : Fin 8) (rd ra rb : BitVec 5) (fn : BitVec 7) (imm : BitVec 12) (u : BitVec 17),
    let G (i : Instr) (w v : Word) : Prop := s.Runs k w → ∃ t, exec i s = .next t ∧ WritesG s t k rd.toNat v 0
    let a := s.gr k ra.toNat
    let b := s.gr k rb.toNat
    G (.alu k pn ps rd ra rb fn) (encR 0x01 pn ps rd ra rb fn) (aluOp fn.toNat a b) ∧
    G (.addi k pn ps rd ra imm) (encI 0x02 pn ps rd ra imm) (a + imm.signExtend 32) ∧
    G (.andi k pn ps rd ra imm) (encI 0x03 pn ps rd ra imm) (a &&& imm.zeroExtend 32) ∧
    G (.ori k pn ps rd ra imm) (encI 0x04 pn ps rd ra imm) (a ||| imm.zeroExtend 32) ∧
    G (.xori k pn ps rd ra imm) (encI 0x05 pn ps rd ra imm) (a ^^^ imm.zeroExtend 32) ∧
    G (.shi k pn ps rd ra imm) (encI 0x06 pn ps rd ra imm) (shiOp (imm.toNat / 1024) (imm.toNat % 32) a) ∧
    G (.movl k pn ps rd u) (encU 0x07 pn ps rd u) (u.zeroExtend 32) ∧
    G (.movh k pn ps rd u) (encU 0x08 pn ps rd u) (putField (s.gr k rd.toNat) 31 17 u.toNat)

/-- The eighteen ALU functions, each by its own arithmetic (R194): modulo 2^32, shift amounts from the low five bits, the high products
as the exact product divided by 2^32. -/
def Obligations.AluFunctionValues : Prop :=
  ∀ a b : Word,
    (aluOp 0x00 a b).toNat = (a.toNat + b.toNat) % 2 ^ 32 ∧ (aluOp 0x01 a b).toNat = (2 ^ 32 + a.toNat - b.toNat) % 2 ^ 32 ∧
    (∀ n, n < 32 → bitAt (aluOp 0x02 a b) n = (bitAt a n && bitAt b n) ∧ bitAt (aluOp 0x03 a b) n = (bitAt a n || bitAt b n) ∧
      bitAt (aluOp 0x04 a b) n = (bitAt a n != bitAt b n) ∧ bitAt (aluOp 0x05 a b) n = (bitAt a n && !bitAt b n)) ∧
    (aluOp 0x06 a b).toNat = a.toNat * 2 ^ (b.toNat % 32) % 2 ^ 32 ∧ (aluOp 0x07 a b).toNat = a.toNat / 2 ^ (b.toNat % 32) ∧
    (aluOp 0x08 a b).toInt = a.toInt / 2 ^ (b.toNat % 32) ∧ (aluOp 0x09 a b).toNat = a.toNat * b.toNat % 2 ^ 32 ∧
    (aluOp 0x0A a b).toInt = a.toInt * b.toInt / 2 ^ 32 ∧ (aluOp 0x0B a b).toNat = a.toNat * b.toNat / 2 ^ 32 ∧
    (aluOp 0x0C a b).toInt = min a.toInt b.toInt ∧ (aluOp 0x0D a b).toInt = max a.toInt b.toInt ∧
    (aluOp 0x0E a b).toNat = min a.toNat b.toNat ∧ (aluOp 0x0F a b).toNat = max a.toNat b.toNat ∧
    (aluOp 0x10 a b).toNat = a.toInt.natAbs ∧
    ((a = 0 → aluOp 0x11 a b = 32) ∧ (a ≠ 0 → 2 ^ (31 - (aluOp 0x11 a b).toNat) ≤ a.toNat ∧ a.toNat < 2 ^ (32 - (aluOp 0x11 a b).toNat)))

/-- CMP and CMPI write one predicate, p0 excepted, by the comparison the instruction names, and change nothing else (R196).
It rests on the model's reading in log entry 39. -/
def Obligations.WalsoPredicateResults : Prop :=
  ∀ (s : State) (k : CoreId) (pn : Bool) (ps : Fin 8) (rd ra rb : BitVec 5) (imm : BitVec 12),
    let P (i : Instr) (w : Word) (v : Bool) : Prop := s.Runs k w → ∃ t, exec i s = .next t ∧ WritesP s t k (rd.toNat % 8) v 0
    let C (fn : BitVec 7) (v : Bool) : Prop := P (.cmp k pn ps rd ra rb fn) (encR 0x09 pn ps rd ra rb fn) v
    let a := s.gr k ra.toNat
    let b := s.gr k rb.toNat
    let p := s.pr k ra.toNat
    let q := s.pr k rb.toNat
    C 0x00 (decide (a = b)) ∧ C 0x01 (decide (a ≠ b)) ∧ C 0x02 (decide (a.toInt < b.toInt)) ∧ C 0x03 (decide (a.toInt ≥ b.toInt)) ∧
    C 0x04 (decide (a.toNat < b.toNat)) ∧ C 0x05 (decide (a.toNat ≥ b.toNat)) ∧
    C 0x08 (p && q) ∧ C 0x09 (p || q) ∧ C 0x0A (p != q) ∧ C 0x0B (p && !q) ∧ C 0x0C (decide (a ≠ 0)) ∧ C 0x0D (bitAt a rb.toNat) ∧
    (let i := Instr.cmpi k pn ps rd ra imm
     let w := encI 0x0A pn ps rd ra imm
     let x := imm.signExtend 32
     (rd.toNat / 8 = 0 → P i w (decide (a = x))) ∧ (rd.toNat / 8 = 1 → P i w (decide (a ≠ x))) ∧
     (rd.toNat / 8 = 2 → P i w (decide (a.toInt < x.toInt))) ∧ (rd.toNat / 8 = 3 → P i w (decide (a.toInt ≥ x.toInt))))

/-- RDFS, RDLC and RDP read FSTAT, the loop index at a level and the predicates; CLRFS clears FSTAT (R200). LDS, PHS, FRQ, XCH RD and XCH TAG
read what the entry phase left: a sample and its quality, a harmonic and its status, the tracker, and the exchange as posted before this tick
(R209 to R212, R214, R224, R225).
It rests on the model's readings in log entries 37, 41, 56, 57 and 133. -/
def Obligations.WalsoSpecialAndEntryReads : Prop :=
  (∀ (s : State) (k : CoreId) (pn : Bool) (ps : Fin 8) (rd ra rb : BitVec 5),
    let G (i : Instr) (w v : Word) : Prop := s.Runs k w → ∃ t, exec i s = .next t ∧ WritesG s t k rd.toNat v 0
    G (.rdfs k pn ps rd ra rb) (encR 0x0E pn ps rd ra rb 0) ((s.core k.num).fstat.zeroExtend 32) ∧
    G (.rdlc k pn ps rd ra rb) (encR 0x0E pn ps rd ra rb 2) (w32 ((s.core k.num).lc (rb.toNat % 4))) ∧
    G (.rdp k pn ps rd ra rb) (encR 0x0E pn ps rd ra rb 3) (((s.core k.num).p ||| 1).zeroExtend 32) ∧
    (s.Runs k (encR 0x0E pn ps rd ra rb 1) → ∃ t, exec (.clrfs k pn ps rd ra rb) s = .next t ∧ OnlyCore s t k ∧
      KeepsG s t k ∧ KeepsZ s t k ∧ KeepsP s t k ∧ (t.core k.num).fstat = 0 ∧ (t.core k.num).rets = (s.core k.num).rets ∧ Falls s t k)) ∧
  (∀ (s : State) (c : Fin 16) (pn : Bool) (ps : Fin 8) (rd : BitVec 5) (zd : BitVec 4) (str : Bool) (lane : BitVec 3) (al : Bool) (age : BitVec 8)
    (w : Bool) (z2 : BitVec 2) (h : BitVec 7) (sel : BitVec 3) (z14 : BitVec 14) (z6 : BitVec 6) (cc slot : BitVec 4) (z1 : Bool),
    let k := CoreId.elem c
    let G (i : Instr) (wd v : Word) : Prop := s.Runs k wd → ∃ t, exec i s = .next t ∧ WritesG s t k rd.toNat v 0
    (let key := if str then s.trkKey c.val lane.toNat (s.ldsAge k al age.toNat) else s.protKey c.val lane.toNat (s.ldsAge k al age.toNat)
     s.Runs k (wEnc 0x38 pn ps (rd ++ (zd ++ (BitVec.ofBool str ++ (lane ++ (BitVec.ofBool al ++ age)))))) →
      (s.upset c.val key = 0 → ∃ t, exec (.lds k pn ps rd zd str lane al age) s = .next t ∧
        WritesGZ s t k rd.toNat zd.toNat (s.rd key &&& 0xFF) (ldsValue (s.rd key), 0)) ∧
      (s.upset c.val key ≠ 0 → ∃ t, exec (.lds k pn ps rd zd str lane al age) s = .next t ∧ PutsG s t k rd.toNat 0x80 ∧
        PutsZ s t k zd.toNat (0, 0) ∧ KeepsP s t k ∧ AddsFlags s t k 0 ∧ t.bit (Reg.CORE_STAT c.val) 13 = true ∧
        OnlyRegs s t [Reg.CORE_STAT c.val] ∧ t = { s with regs := t.regs, cores := t.cores })) ∧
    (s.Runs k (wEnc 0x39 pn ps (rd ++ (zd ++ (lane ++ (BitVec.ofBool w ++ (z2 ++ h)))))) →
      (∀ a, 0x30000 ≤ a → a < 0x38000 → s.upset c.val (elemKey c.val a) = 0) →
      ∃ t, exec (.phs k pn ps rd zd lane w z2 h) s = .next t ∧
        let st := s.fld (phasorKey c.val ((if w then 0x1060 else 0x1040) + 4 * lane.toNat)) 3 0
        let off := if w then 0x1000 + 8 * lane.toNat else lane.toNat * 0x200 + 8 * h.toNat
        let ok := w && decide (h.toNat = 1) || !w && decide (h.toNat < s.fld (phasorKey c.val 0x1088) 7 0 / 2)
        WritesGZ s t k rd.toNat zd.toNat (w32 (st + 16 * b2n (!ok)))
          (if ok && decide (st % 2 = 0) then (s.rd (phasorKey c.val off), s.rd (phasorKey c.val (off + 4))) else (0, 0))) ∧
    G (.frq k pn ps rd sel z14) (wEnc 0x3B pn ps (rd ++ (sel ++ z14))) (s.frq c.val sel.toNat) ∧
    G (.xchRd k pn ps rd z6 cc z1 slot) (xchWord pn ps rd 1 z6 cc z1 slot) ((s.xchSeen cc.toNat).words.getD slot.toNat 0) ∧
    G (.xchTag k pn ps rd z6 cc z1 slot) (xchWord pn ps rd 2 z6 cc z1 slot) (xchTag (s.xchSeen cc.toNat)))
/-- The binary32 instructions write their result and add their flags to FSTAT (R197 to R199). FCMP: a NaN operand makes FEQ, FLT and FLE false
and FUN true, sets FSTAT invalid for FLT and FLE, and the two zeros compare equal (R198).
It rests on the model's readings in log entries 41, 52 and 53. -/
def Obligations.WalsoFloatResults : Prop :=
  (∀ (s : State) (k : CoreId) (pn : Bool) (ps : Fin 8) (rd ra rb : BitVec 5) (fn : BitVec 7),
    let a := s.gr k ra.toNat
    let b := s.gr k rb.toNat
    (s.Runs k (encR 0x0B pn ps rd ra rb fn) → ∃ t, exec (.fpu k pn ps rd ra rb fn) s = .next t ∧
      WritesG s t k rd.toNat (fpuOp fn.toNat a b).1 (fpuOp fn.toNat a b).2) ∧
    (s.Runs k (encR 0x0C pn ps rd ra rb fn) → ∃ t, exec (.fcmp k pn ps rd ra rb fn) s = .next t ∧
      WritesP s t k (rd.toNat % 8) (fcmpOp fn.toNat a b).1 (fcmpOp fn.toNat a b).2) ∧
    (s.Runs k (encR 0x0D pn ps rd ra rb fn) → ∃ t, exec (.fma k pn ps rd ra rb fn) s = .next t ∧
      let r := fFma (fn.getLsbD 1) (fn.getLsbD 0) a b (s.gr k (fn.toNat / 4))
      WritesG s t k rd.toNat r.1 r.2)) ∧
  ((∀ a b : Word, (flOf a).isNan = true ∨ (flOf b).isNan = true →
    (fcmpOp 0 a b).1 = false ∧ (fcmpOp 1 a b).1 = false ∧ (fcmpOp 2 a b).1 = false ∧ (fcmpOp 3 a b).1 = true ∧
    (fcmpOp 1 a b).2 = fInvalid ∧ (fcmpOp 2 a b).2 = fInvalid) ∧
  (∀ a b : Word, (flOf a).isNan = false → (flOf b).isNan = false → (fcmpOp 3 a b).1 = false) ∧
  (fcmpOp 0 0x00000000 0x80000000).1 = true ∧ (fcmpOp 1 0x80000000 0x00000000).1 = false ∧ (fcmpOp 2 0x00000000 0x80000000).1 = true)

/-- CPX and SEQ write a z register, or for MAG, ARG, RE and IM a g register, and add their flags (R203 to R205, R213).
It rests on the model's readings in log entries 41 and 54. -/
def Obligations.WalsoComplexResults : Prop :=
  ∀ (s : State) (k : CoreId) (pn : Bool) (ps : Fin 8) (zd za zb : BitVec 4) (ga fn : BitVec 5) (z1 : Bool) (kind : BitVec 2) (z : BitVec 11),
    let a := s.zr k za.toNat
    (s.Runs k (encZ 0x20 pn ps zd za zb ga fn) →
      (8 ≤ fn.toNat ∧ fn.toNat ≤ 0xB → ∃ t, exec (.cpx k pn ps zd za zb ga fn) s = .next t ∧
        WritesG s t k ga.toNat (cpxG fn.toNat a).1 (cpxG fn.toNat a).2) ∧
      (¬ (8 ≤ fn.toNat ∧ fn.toNat ≤ 0xB) → ∃ t, exec (.cpx k pn ps zd za zb ga fn) s = .next t ∧
        let r := cpxZ fn.toNat (s.zr k zd.toNat) a (s.zr k zb.toNat) (s.gr k ga.toNat)
        WritesZ s t k zd.toNat r.1 r.2)) ∧
    (s.Runs k (wEnc 0x3A pn ps (BitVec.ofBool z1 ++ (zd ++ (za ++ (kind ++ z))))) →
      ∃ t, exec (.seq k pn ps z1 zd za kind z) s = .next t ∧
        let r := seqComp kind.toNat a (s.zr k (za.toNat + 1)) (s.zr k (za.toNat + 2))
        WritesZ s t k zd.toNat r.1 r.2)

/-! ### Memory instructions -/

/-- Loads of an element core read the word at the computed address of their space: DMEM for LD and LDZ, the windows for LDW, phasor RAM for LDP
and LDZP, the space fn names for LDX; they change only the destination (R163, R201, R202), where the loaded words hold no memory error (WalsoElementFaults
says what an error does). Stores of an element core write DMEM at the computed address and nothing else: every other word of the device and every
byte of MRAM reads as before, the core keeps its registers, and the words stored hold no error after (R163, R165, R201, R202).
It rests on the model's readings in log entries 39 and 133. -/
def Obligations.WalsoElementMemory : Prop :=
  (∀ (s : State) (c : Fin 16) (pn : Bool) (ps : Fin 8) (rd ra rb : BitVec 5) (off : BitVec 12) (fn : BitVec 7),
    let k := CoreId.elem c
    let m4 := s.addrM k ra.toNat off 4
    let m8 := s.addrM k ra.toNat off 8
    let x := s.addrX k ra.toNat rb.toNat (fn.toNat % 4)
    let G (i : Instr) (w : Word) (space a : Nat) : Prop := s.Runs k w → a % 4 = 0 → inSpace space a = true →
      s.upset c.val (elemKey c.val a) = 0 → ∃ t, exec i s = .next t ∧ WritesG s t k rd.toNat (s.rd (elemKey c.val a)) 0
    let Z (i : Instr) (w : Word) (space a : Nat) : Prop := s.Runs k w → a % 8 = 0 → inSpace space a = true →
      s.upset c.val (elemKey c.val a) = 0 → s.upset c.val (elemKey c.val (a + 4)) = 0 → ∃ t, exec i s = .next t ∧ WritesZ s t k rd.toNat (s.rd (elemKey c.val a), s.rd (elemKey c.val (a + 4))) 0
    G (.ld k pn ps rd ra off) (encI 0x10 pn ps rd ra off) 0 m4 ∧ G (.ldw k pn ps rd ra off) (encI 0x14 pn ps rd ra off) 1 m4 ∧
    G (.ldp k pn ps rd ra off) (encI 0x15 pn ps rd ra off) 2 m4 ∧ G (.ldx k pn ps rd ra rb fn) (encR 0x17 pn ps rd ra rb fn) (fn.toNat / 4) x ∧
    Z (.ldz k pn ps rd ra off) (encI 0x12 pn ps rd ra off) 0 m8 ∧ Z (.ldzp k pn ps rd ra off) (encI 0x16 pn ps rd ra off) 2 m8) ∧
  (∀ (s : State) (c : Fin 16) (pn : Bool) (ps : Fin 8) (rd ra rb : BitVec 5) (off : BitVec 12) (fn : BitVec 7),
    let k := CoreId.elem c
    let Kept (t : State) (stored : Nat → Prop) : Prop := t = { s with regs := t.regs, cores := t.cores, elems := t.elems } ∧
      (∀ n, n ≠ k.num → t.core n = s.core n) ∧ WritesNone s t k ∧ (∀ d, t.elem d = { s.elem d with errs := (t.elem d).errs }) ∧
      (∀ key, stored key → t.upset c.val key = 0) ∧ (∀ d key, d ≠ c.val ∨ ¬ stored key → t.upset d key = s.upset d key)
    (∀ (i : Instr) (w : Word) (a : Nat), (i = .st k pn ps rd ra off ∧ w = encI 0x11 pn ps rd ra off ∧ a = s.addrM k ra.toNat off 4) ∨
        (i = .stx k pn ps rd ra rb fn ∧ w = encR 0x18 pn ps rd ra rb fn ∧ a = s.addrX k ra.toNat rb.toNat (fn.toNat % 4)) →
      s.Runs k w → a % 4 = 0 → a < 0x20000 →
      ∃ t, exec i s = .next t ∧ t.rd (elemKey c.val a) = s.gr k rd.toNat ∧ (∀ key, key ≠ elemKey c.val a → t.rd key = s.rd key) ∧
        Kept t (fun key => key = elemKey c.val a)) ∧
    (let a := s.addrM k ra.toNat off 8
     s.Runs k (encI 0x13 pn ps rd ra off) → a % 8 = 0 → a < 0x20000 →
      ∃ t, exec (.stz k pn ps rd ra off) s = .next t ∧ t.rd (elemKey c.val a) = (s.zr k rd.toNat).1 ∧
        t.rd (elemKey c.val (a + 4)) = (s.zr k rd.toNat).2 ∧
        (∀ key, key ≠ elemKey c.val a → key ≠ elemKey c.val (a + 4) → t.rd key = s.rd key) ∧
        Kept t (fun key => key = elemKey c.val a ∨ key = elemKey c.val (a + 4))))

/-- LD and ST on the Lathe core and on a supervisor core: a load reads the word the address names, a store changes that word alone among the
words of its memory; a supervisor address that names a register is a bus access of that core (R226, R299, R305).
It rests on the model's readings in log entries 18 and 24. -/
def Obligations.WalsoOtherCoresMemory : Prop :=
  (∀ (s : State) (pn : Bool) (ps : Fin 8) (rd ra : BitVec 5) (off : BitVec 12),
    let k := CoreId.lathe
    let a := s.addrM k ra.toNat off 4
    (s.Runs k (encI 0x10 pn ps rd ra off) → s.memCause k 0 false a 4 = none →
      ∃ t, exec (.ld k pn ps rd ra off) s = .next t ∧ WritesG s t k rd.toNat (s.rd (lthDmem s.lthHalf a)) 0) ∧
    (s.Runs k (encI 0x11 pn ps rd ra off) → s.memCause k 0 true a 4 = none →
      ∃ t, exec (.st k pn ps rd ra off) s = .next t ∧ t.rd (lthDmem s.lthHalf a) = s.gr k rd.toNat ∧
        (∀ key, key ≠ lthDmem s.lthHalf a → t.rd key = s.rd key) ∧
        t = { s with regs := t.regs, cores := t.cores, lathe := t.lathe } ∧ WritesNone s t k)) ∧
  (∀ (s : State) (j : Fin 2) (pn : Bool) (ps : Fin 8) (rd ra : BitVec 5) (off : BitVec 12),
    let k := CoreId.sup j
    let a := s.addrM k ra.toNat off 4
    (s.Runs k (encI 0x10 pn ps rd ra off) → ∃ t, exec (.ld k pn ps rd ra off) s = .next t ∧ (s.memCause k 0 false a 4 = none →
      (∀ m, supKey j.val a = some m → WritesG s t k rd.toNat (s.rd m) 0) ∧
      (supKey j.val a = none →
        let u := (s.atIssue k (encI 0x10 pn ps rd ra off)).busRead (supReq j) (Config.supPlace a).2 15
        t.regs = u.regs ∧ t.rsp = u.rsp ∧ (rd.toNat ≠ 0 → t.gr k rd.toNat = u.answered (supReq j))))) ∧
    (s.Runs k (encI 0x11 pn ps rd ra off) → ∃ t, exec (.st k pn ps rd ra off) s = .next t ∧ (s.memCause k 0 true a 4 = none →
      (∀ m, supKey j.val a = some m → t.rd m = s.gr k rd.toNat ∧ (∀ key, key ≠ m → t.rd key = s.rd key) ∧
        t = { s with regs := t.regs, cores := t.cores } ∧ WritesNone s t k) ∧
      (supKey j.val a = none →
        t.regs = ((s.atIssue k (encI 0x11 pn ps rd ra off)).busWrite (supReq j) (Config.supPlace a).2 15 (s.gr k rd.toNat)).regs))))

/-- The first cause an access of an element core raises: a misaligned address MISALIGN, a store into the windows or phasor RAM RO_WRITE, an
address outside the space ADDR (R202). An exception of an element core: a misaligned LD records cause, PC and address, sets EXC, raises the
cluster's interrupt, stops the core for the tick and loads nothing (R178, R179). A DMEM load of a word with a double-bit error raises cause 9 with
its address; one with a single-bit error loads the word, counts and records the correction; a load of a window or phasor RAM word with a parity
error loads 0x80 and sets WIN_PAR (R165).
It rests on the model's readings in log entries 39 and 133. -/
def Obligations.WalsoElementFaults : Prop :=
  (∀ (s : State) (c : Fin 16) (space : Nat) (store : Bool) (a width : Nat), width = 4 ∨ width = 8 →
    let e := s.memCause (.elem c) space store a width
    (a % width ≠ 0 → e = some 3) ∧
    (a % width = 0 → store = true → (inSpace 1 a = true ∨ inSpace 2 a = true) → e = some 5) ∧
    (a % width = 0 → (store = true → inSpace 1 a = false ∧ inSpace 2 a = false) → (inSpace space a = false → e = some 4) ∧
      (inSpace space a = true → e = none))) ∧
  (∀ (s : State) (c : Fin 16) (pn : Bool) (ps : Fin 8) (rd ra : BitVec 5) (off : BitVec 12),
    let k := CoreId.elem c
    let a := s.addrM k ra.toNat off 4
    s.Runs k (encI 0x10 pn ps rd ra off) → a % 4 ≠ 0 →
    ∃ t, exec (.ld k pn ps rd ra off) s = .next t ∧ (t.core k.num).run = .faulted ∧
      t.rd (Reg.CORE_FAULT c.val) = w32 (3 * 0x1000000 + (s.core k.num).pc % 16384) ∧ t.rd (Reg.CORE_FADDR c.val) = w32 a ∧
      t.bit (Reg.CORE_STAT c.val) 9 = true ∧ t.bit Reg.INT_STAT_LO c.val = true ∧
      KeepsG s t k ∧ KeepsZ s t k ∧ KeepsP s t k ∧ (∀ n, n ≠ k.num → t.core n = s.core n) ∧ t.mram = s.mram ∧ t.elems = s.elems) ∧
  (∀ (s : State) (c : Fin 16) (pn : Bool) (ps : Fin 8) (rd ra : BitVec 5) (off : BitVec 12),
    let k := CoreId.elem c
    let a := s.addrM k ra.toNat off 4
    let e := s.upset c.val (elemKey c.val a)
    let BadParity (i : Instr) : Prop := ∃ t, exec i s = .next t ∧ PutsG s t k rd.toNat 0x80 ∧ KeepsZ s t k ∧ KeepsP s t k ∧ AddsFlags s t k 0 ∧
      t.bit (Reg.CORE_STAT c.val) 13 = true ∧ OnlyRegs s t [Reg.CORE_STAT c.val] ∧ t = { s with regs := t.regs, cores := t.cores }
    a % 4 = 0 → (s.Runs k (encI 0x10 pn ps rd ra off) → a < 0x20000 →
      (e = 2 → ∃ t, exec (.ld k pn ps rd ra off) s = .next t ∧ (t.core k.num).run = .faulted ∧
        t.rd (Reg.CORE_FAULT c.val) = w32 (9 * 0x1000000 + (s.core k.num).pc % 16384) ∧ t.rd (Reg.CORE_FADDR c.val) = w32 a ∧
        t.bit Reg.INT_STAT_LO c.val = true ∧ KeepsG s t k ∧ KeepsZ s t k ∧ KeepsP s t k ∧ t.mram = s.mram ∧ t.elems = s.elems) ∧
      (e = 1 → ∃ t, exec (.ld k pn ps rd ra off) s = .next t ∧ PutsG s t k rd.toNat (s.rd (elemKey c.val a)) ∧ KeepsZ s t k ∧ KeepsP s t k ∧
        AddsFlags s t k 0 ∧ t.elem c.val = { s.elem c.val with eccD := (s.elem c.val).eccD + 1 } ∧ t.bit Reg.INT_STAT_LO c.val = true ∧
        t.fld (Reg.CORE_ECC c.val) 15 0 = min 65535 (s.fld (Reg.CORE_ECC c.val) 15 0 + 1) ∧
        t.fld (Reg.CORE_ECC c.val) 31 16 = s.fld (Reg.CORE_ECC c.val) 31 16)) ∧
    (inSpace 1 a = true → s.Runs k (encI 0x14 pn ps rd ra off) → e ≠ 0 → BadParity (.ldw k pn ps rd ra off)) ∧
    (inSpace 2 a = true → s.Runs k (encI 0x15 pn ps rd ra off) → e ≠ 0 → BadParity (.ldp k pn ps rd ra off)))

/-- An illegal word at the PC of an awake core: an element core faults with the decoding cause, a supervisor core enters vector 64 plus the
cause with EPC at the word, the Lathe halts; a legal word is no such event (R157, R158, R179, R297). A double-bit error of the fetched word comes first (R165, WalsoIssueRules).
It rests on the model's readings in log entries 40 and 46. -/
def Obligations.IllegalWordRaisesItsCause : Prop :=
  ∀ (s : State) (k : CoreId) (w : Word),
    (wCause k.prof w = none → exec (.illegalInstruction k w) s = .next s) ∧
    (∀ e, wCause k.prof w = some e → s.Awake k → (s.core k.num).pc < s.codeLimit k → s.fetchUpset k ≠ 2 → (∀ b, s.budget k = some b → (s.timing k).cyc < b) →
      ∃ t, exec (.illegalInstruction k w) s = .next t ∧ KeepsG s t k ∧ KeepsZ s t k ∧ KeepsP s t k ∧
        (∀ c, k = .elem c → (t.core c.val).run = .faulted ∧
          t.rd (Reg.CORE_FAULT c.val) = w32 (e * 0x1000000 + (s.core c.val).pc % 16384)) ∧
        (∀ i, k = .sup i → (t.sup i.val).epc = w32 (4 * (s.core (16 + i.val)).pc) ∧ (t.sup i.val).cause = w32 (0x80000000 + (64 + e)) ∧
            (t.core (16 + i.val)).pc = supPc ((s.sup i.val).vbase.toNat + 8 * (64 + e)) ∧
            field (t.sup i.val).sstat 1 0 = 2 ∧ field (t.sup i.val).sstat 3 2 = field (s.sup i.val).sstat 1 0) ∧
        (k = .lathe → (t.core 18).run = .faulted ∧ t.fld Reg.LTH_HALT 31 28 = 2 ∧ t.fld Reg.LTH_HALT 27 20 = e))

/-! ### Control flow -/

/-- BR, LOOP, JT, CALL and RET move the PC, the loops and the return addresses as the rules give, and change nothing else (R168 to R171). The
last instruction of a loop body starts the next iteration while one is left and leaves the loop after the last (R169): FENCE and every other
instruction that falls through at the end of the innermost body of the running function. WTICK and WTURN, outside every loop and function, end
the program's work: the core stops as ended and shows the cycle of the end (R172, R292).
It rests on the model's readings in log entries 42 and 44. -/
def Obligations.WalsoControlFlow : Prop :=
  (∀ (s : State) (k : CoreId) (pn : Bool) (ps : Fin 8) (ra z : BitVec 5) (off low : BitVec 22) (trip : BitVec 10) (len : BitVec 12) (n : BitVec 8)
    (z9 : BitVec 9) (target : BitVec 17),
    let x := s.core k.num
    (s.Runs k (wEnc 0x30 pn ps off) → x.pc + 1 + off.toNat < s.codeLimit k →
      ∃ t, exec (.br k pn ps off) s = .next t ∧ JumpsTo s t k x.rets (x.pc + 1 + off.toNat)) ∧
    (s.Runs k (wEnc 0x31 pn ps (trip ++ len)) → x.loops.length < 4 →
      ∃ t, exec (.loop k pn ps trip len) s = .next t ∧ OnlyCore s t k ∧ KeepsG s t k ∧ KeepsZ s t k ∧ KeepsP s t k ∧
        (t.core k.num).pc = x.pc + 1 ∧ (t.core k.num).rets = x.rets ∧ (t.core k.num).loops =
          { start := x.pc + 1, len := len.toNat + 1, trip := trip.toNat + 1, idx := 0, depth := x.rets.length } :: x.loops) ∧
    (s.Runs k (wEnc 0x32 pn ps (ra ++ (n ++ z9))) →
      ∃ t, exec (.jt k pn ps ra n z9) s = .next t ∧ JumpsTo s t k x.rets (x.pc + 1 + min (s.gr k ra.toNat).toNat n.toNat)) ∧
    (s.Runs k (wEnc 0x33 pn ps (z ++ target)) → x.rets.length < 8 → target.toNat < s.codeLimit k →
      ∃ t, exec (.call k pn ps z target) s = .next t ∧ JumpsTo s t k ((x.pc + 1) :: x.rets) target.toNat) ∧
    (∀ p ps', s.Runs k (wEnc 0x34 pn ps low) → x.rets = p :: ps' →
      ∃ t, exec (.ret k pn ps low) s = .next t ∧ JumpsTo s t k ps' p)) ∧
  (∀ (s : State) (j : Fin 2) (ps : Fin 8) (pn : Bool) (z : BitVec 22) (f : LoopFrame),
    let k := CoreId.sup j
    let x := s.core k.num
    s.Runs k (wEnc 0x27 pn ps z) → x.loops = [f] → f.depth = x.rets.length → x.pc + 1 = f.start + f.len →
    ∃ t, exec (.fence k pn ps z) s = .next t ∧ OnlyCore s t k ∧
      (f.idx + 1 < f.trip → (t.core k.num).pc = f.start ∧ (t.core k.num).loops = [{ f with idx := f.idx + 1 }]) ∧
      (f.trip ≤ f.idx + 1 → (t.core k.num).pc = x.pc + 1 ∧ (t.core k.num).loops = [])) ∧
  (∀ (s : State) (pn : Bool) (ps : Fin 8) (z : BitVec 22),
    (∀ c : Fin 16, let k := CoreId.elem c;
      s.Runs k (wEnc 0x35 pn ps z) → (s.core k.num).loops = [] → (s.core k.num).rets = [] →
      ∃ t, exec (.wtick k pn ps z) s = .next t ∧ OnlyCore s t k ∧ KeepsG s t k ∧ KeepsZ s t k ∧ KeepsP s t k ∧ (t.core k.num).run = .ended ∧
        (t.core k.num).endCyc = (if s.halfMode (c.val / 4) then 1200 else 2400) + s.issueCycle k (wEnc 0x35 pn ps z)) ∧
    (let k := CoreId.lathe;
      s.Runs k (wEnc 0x2F pn ps z) → (s.core k.num).loops = [] → (s.core k.num).rets = [] →
      ∃ t, exec (.wturn k pn ps z) s = .next t ∧ OnlyCore s t k ∧ KeepsG s t k ∧ KeepsZ s t k ∧ KeepsP s t k ∧ (t.core k.num).run = .ended ∧
        (t.core k.num).endCyc = s.issueCycle k (wEnc 0x2F pn ps z)))

/-! ### Supervisor cores -/

/-- CSR at the privileged level delivers the register's old value to g[rd] and writes g[ra] where ra names a register (R226).
It rests on the model's readings in log entries 49 and 50. -/
def Obligations.SupervisorControlRegisters : Prop :=
  ∀ (s : State) (j : Fin 2) (pn : Bool) (ps : Fin 8) (rd ra : BitVec 5) (n : BitVec 12),
    let k := CoreId.sup j
    let w := encI 0x24 pn ps rd ra n
    let u := s.sup j.val
    s.Runs k w → bitAt u.sstat 1 = true →
    ∃ t, exec (.csr k pn ps rd ra n) s = .next t ∧ t = { s with cores := t.cores, sups := t.sups } ∧
      PutsG s t k rd.toNat (s.csrRead j.val n.toNat (s.issueCycle k w)) ∧ KeepsZ s t k ∧ KeepsP s t k ∧
      (ra.toNat = 0 → n.toNat ≠ 0x40 → t.sup j.val = u) ∧
      (ra.toNat ≠ 0 → n.toNat ≠ 0x40 → t.sup j.val = csrSet u n.toNat (s.gr k ra.toNat)) ∧
      (rd.toNat ≠ 0 → n.toNat = 0x40 → (t.sup j.val).cycHi = w32 (s.issueCycle k w / 4294967296))

/-- Below the privileged level CSR and ERET raise the privilege exception and have no effect of their own: vector 77 with EPC at the instruction
(R157, R226). ERET returns to EPC with IE and PRIV restored from PIE and PPRIV; WFI waits where no enabled source is pending; FENCE changes
nothing but the issue state (R226).
It rests on the model's readings in log entries 46 and 48. -/
def Obligations.SupervisorPrivilegeReturnsWaits : Prop :=
  (∀ (s : State) (j : Fin 2) (i : Instr) (w : Word),
    let k := CoreId.sup j
    (∃ pn ps rd ra n, i = .csr k pn ps rd ra n) ∨ (∃ pn ps z, i = .eret k pn ps z) → i.walsoWord = some (k, w) →
    s.Runs k w → bitAt (s.sup j.val).sstat 1 = false →
    ∃ t, exec i s = .next t ∧ (t.sup j.val).epc = w32 (4 * (s.core k.num).pc) ∧ (t.sup j.val).cause = 0x8000004D ∧
      (t.core k.num).pc = supPc ((s.sup j.val).vbase.toNat + 616) ∧ field (t.sup j.val).sstat 1 0 = 2 ∧
      field (t.sup j.val).sstat 3 2 = field (s.sup j.val).sstat 1 0 ∧ KeepsG s t k ∧ t = { s with cores := t.cores, sups := t.sups }) ∧
  (∀ (s : State) (j : Fin 2) (pn : Bool) (ps : Fin 8) (z : BitVec 22),
    let k := CoreId.sup j
    let u := s.sup j.val
    (s.Runs k (wEnc 0x25 pn ps z) → bitAt u.sstat 1 = true →
      ∃ t, exec (.eret k pn ps z) s = .next t ∧ t = { s with cores := t.cores, sups := t.sups } ∧ KeepsG s t k ∧ KeepsZ s t k ∧ KeepsP s t k ∧
        field (t.sup j.val).sstat 1 0 = field u.sstat 3 2 ∧ field (t.sup j.val).sstat 3 2 = field u.sstat 3 2 ∧ (t.sup j.val).epc = u.epc ∧
        ((s.core k.num).loops = [] → (t.core k.num).pc = supPc u.epc.toNat)) ∧
    (s.Runs k (wEnc 0x26 pn ps z) →
      ∃ t, exec (.wfi k pn ps z) s = .next t ∧ OnlyCore s t k ∧ WritesNone s t k ∧ (t.core k.num).waiting = decide (s.supReady j.val = 0)) ∧
    (s.Runs k (wEnc 0x27 pn ps z) →
      ∃ t, exec (.fence k pn ps z) s = .next t ∧ OnlyCore s t k ∧ WritesNone s t k))

/-- A running supervisor core with IE set takes its lowest-numbered pending and enabled source: EPC is the next word, the cause is the source's
number, IE is cleared and PRIV set, and the pending bit is taken (R226, R575).
That the lowest-numbered one goes first is the model's choice (log entry 47), what the entry saves its reading of R226 (log entry 46). -/
def Obligations.SupervisorTakesLowestInterrupt : Prop :=
  ∀ (s : State) (j : Fin 2) (n : Nat), n < 64 → (s.core (16 + j.val)).run = .active → bitAt (s.sup j.val).sstat 0 = true →
    (s.supReady j.val).getLsbD n = true → (∀ m, m < n → (s.supReady j.val).getLsbD m = false) →
    ∃ t, exec (.supInterruptEntry j) s = .next t ∧ t = { s with cores := t.cores, sups := t.sups, supPend := t.supPend } ∧
      (t.sup j.val).epc = w32 (4 * (s.core (16 + j.val)).pc) ∧ (t.sup j.val).cause = w32 n ∧
      (t.core (16 + j.val)).pc = supPc ((s.sup j.val).vbase.toNat + 8 * n) ∧ (t.core (16 + j.val)).waiting = false ∧
      field (t.sup j.val).sstat 1 0 = 2 ∧ field (t.sup j.val).sstat 3 2 = field (s.sup j.val).sstat 1 0 ∧
      (∀ m, (t.supBits j.val).getLsbD m = ((s.supBits j.val).getLsbD m && decide (m ≠ n)))

/-! ### Cluster and Lathe units -/

/-- TRIPREQ, FLAG, EVT and XCH PUB stage their effect in the cluster until the deadline, and touch no register of the core (R219 to R224). The
ninth and every later EVT of a tick stages no record and only counts (R222). -/
def Obligations.WalsoStagedEffects : Prop :=
  (∀ (s : State) (c : Fin 16) (pn : Bool) (ps : Fin 8) (rd ra rb : BitVec 5) (x : BitVec 17) (z10 : BitVec 10) (b : BitVec 5) (code : BitVec 12)
    (z6 : BitVec 6) (cc slot : BitVec 4) (z1 : Bool),
    let k := CoreId.elem c
    let e := s.elem c.val
    let g := s.gr k ra.toNat
    let Staged (i : Instr) (w : Word) (e' : ElemU) : Prop := s.Runs k w → ∃ t, exec i s = .next t ∧
      t = { s with cores := t.cores, elems := t.elems } ∧ (∀ n, n ≠ k.num → t.core n = s.core n) ∧ WritesNone s t k ∧
      t.elem c.val = e' ∧ ∀ n, n ≠ c.val → t.elem n = s.elem n
    let mask := x.toNat / 16 % 16
    let v := if bitAt (x.zeroExtend 32) 16 then g.toNat % 16 else x.toNat % 16
    Staged (.tripreq k pn ps ra x) (wEnc 0x28 pn ps (ra ++ x)) { e with req := (e.req &&& (15 - mask)) ||| (v &&& mask) } ∧
    Staged (.flagOr k pn ps ra z10 b) (flagWord pn ps ra 0 z10 b) { e with sflags := e.sflags ||| g } ∧
    Staged (.flagAndn k pn ps ra z10 b) (flagWord pn ps ra 1 z10 b) { e with sflags := e.sflags &&& ~~~g } ∧
    Staged (.flagMov k pn ps ra z10 b) (flagWord pn ps ra 2 z10 b) { e with sflags := g } ∧
    Staged (.flagBit k pn ps ra z10 b) (flagWord pn ps ra 3 z10 b) { e with sflags := e.sflags ||| w32 (2 ^ b.toNat) } ∧
    Staged (.xchPub k pn ps rd z6 cc z1 slot) (xchWord pn ps rd 0 z6 cc z1
      slot) { e with xst := e.xst.set slot.toNat (s.gr k rd.toNat), xpub := true } ∧
    (let tick := s.ticks.headD s.tickSnap
     let r : TRec := {
       code := 0x8000 + code.toNat, source := 0x10 + c.val, sev := 4, flags := 0, sparam := e.evts.length, p0 := g.toNat,
       p1 := (s.gr k rb.toNat).toNat, at_ := { sec := tick.sec, ns := tick.idx * 625000 / 3, epoch := tick.epoch }, tq := tick.tq }
     e.evts.length < 8 → Staged (.evt k pn ps ra rb code) (wEnc 0x2A pn ps (ra ++ (rb ++ code))) { e with evts := e.evts ++ [r] })) ∧
  (∀ (s : State) (c : Fin 16) (pn : Bool) (ps : Fin 8) (ra rb : BitVec 5) (code : BitVec 12),
    let k := CoreId.elem c
    s.Runs k (wEnc 0x2A pn ps (ra ++ (rb ++ code))) → 8 ≤ (s.elem c.val).evts.length →
    ∃ t, exec (.evt k pn ps ra rb code) s = .next t ∧ t.elem c.val = s.elem c.val ∧ WritesNone s t k ∧
      t.fld (Reg.EVT_STAT c.val) 31 16 = min 65535 (s.fld (Reg.EVT_STAT c.val) 31 16 + 1) ∧
      ∀ key, key ≠ Reg.EVT_STAT c.val → t.rd key = s.rd key)

/-- A curve, comparator or timer steps once per tick: a second operation of the tick delivers the status of the first with DUP and changes
nothing; the first marks the unit and keeps its status (R208, R215 to R217). The READ operations deliver a unit's content and change nothing; the
RESET operations bring it to rest (R215 to R217).
It rests on the model's reading in log entry 55. -/
def Obligations.WalsoClusterUnits : Prop :=
  (∀ (s : State) (c : Fin 16) (pn : Bool) (ps : Fin 8) (rd ra n5 z5 : BitVec 5) (n : BitVec 6) (z : BitVec 4),
    let k := CoreId.elem c
    let e := s.elem c.val
    let Again (i : Instr) (w : Word) (done : Nat) (st : SMap Nat) (m : Nat) : Prop := s.Runs k w → done.testBit m = true →
      ∃ t, exec i s = .next t ∧ WritesG s t k rd.toNat (w32 (SMap.get (fun _ => 0) st m ||| 8)) 0
    let First (i : Instr) (w : Word) (done : ElemU → Nat) (st : ElemU → SMap Nat) (m : Nat) : Prop := s.Runs k w → (done e).testBit m = false →
      ∃ t, exec i s = .next t ∧ PutsG s t k rd.toNat (w32 (SMap.get (fun _ => 0) (st (t.elem c.val)) m)) ∧
        done (t.elem c.val) = done e ||| 2 ^ m ∧ t = { s with regs := t.regs, cores := t.cores, elems := t.elems }
    let crv (i : Instr) (op : BitVec 2) : Prop :=
      Again i (crvWord pn ps rd ra n5 op z5) e.crvDone e.crvSt n5.toNat ∧ First i (crvWord pn ps rd ra n5 op z5) (·.crvDone) (·.crvSt) n5.toNat
    let cmp (i : Instr) (op : BitVec 2) : Prop := Again i (cmpTmrWord 0x3D pn ps rd ra n op z) e.cmpDone e.cmpSt n.toNat ∧
      First i (cmpTmrWord 0x3D pn ps rd ra n op z) (·.cmpDone) (·.cmpSt) n.toNat
    let tmr (i : Instr) (op : BitVec 2) : Prop := Again i (cmpTmrWord 0x3E pn ps rd ra n op z) e.tmrDone e.tmrSt n.toNat ∧
      First i (cmpTmrWord 0x3E pn ps rd ra n op z) (·.tmrDone) (·.tmrSt) n.toNat
    crv (.crvStep k pn ps rd ra n5 z5) 0 ∧ crv (.crvReset k pn ps rd ra n5 z5) 1 ∧ cmp (.cmphEval k pn ps rd ra n z) 0 ∧
    cmp (.cmphReset k pn ps rd ra n z) 1 ∧ tmr (.tmrStep k pn ps rd ra n z) 0 ∧ tmr (.tmrReset k pn ps rd ra n z) 1) ∧
  (∀ (s : State) (c : Fin 16) (pn : Bool) (ps : Fin 8) (rd ra n5 z5 : BitVec 5) (n : BitVec 6) (z : BitVec 4),
    let k := CoreId.elem c
    let e := s.elem c.val
    let G (i : Instr) (w v : Word) : Prop := s.Runs k w → ∃ t, exec i s = .next t ∧ WritesG s t k rd.toNat v 0
    G (.crvRead k pn ps rd ra n5 z5) (crvWord pn ps rd ra n5 2 z5) (roundDyadic false (s.rd (Reg.CRV_INT c.val n5.toNat)).toNat (-30)).1 ∧
    G (.cmphRead k pn ps rd ra n z) (cmpTmrWord 0x3D pn ps rd ra n 2 z)
      (w32 (s.fld (Reg.CMP_ST c.val n.toNat) 30 16 * 65536 + s.fld (Reg.CMP_ST c.val n.toNat) 14 0)) ∧
    G (.tmrRead k pn ps rd ra n z) (cmpTmrWord 0x3E pn ps rd ra n 2 z) (w32 (s.fld (Reg.TMR_ST c.val n.toNat) 23 0)) ∧
    (s.Runs k (crvWord pn ps rd ra n5 1 z5) → e.crvDone.testBit n5.toNat = false →
      ∃ t, exec (.crvReset k pn ps rd ra n5 z5) s = .next t ∧ t.rd (Reg.CRV_INT c.val n5.toNat) = 0 ∧ PutsG s t k rd.toNat 0 ∧
        ∀ key, key ≠ Reg.CRV_INT c.val n5.toNat → t.rd key = s.rd key) ∧
    (s.Runs k (cmpTmrWord 0x3D pn ps rd ra n 1 z) → e.cmpDone.testBit n.toNat = false →
      ∃ t, exec (.cmphReset k pn ps rd ra n z) s = .next t ∧ t.rd (Reg.CMP_ST c.val n.toNat) = 0 ∧
        PutsG s t k rd.toNat (if s.bit (Reg.CMP_ST c.val n.toNat) 31 then 4 else 0) ∧
        ∀ key, key ≠ Reg.CMP_ST c.val n.toNat → t.rd key = s.rd key) ∧
    (s.Runs k (cmpTmrWord 0x3E pn ps rd ra n 1 z) → e.tmrDone.testBit n.toNat = false →
      ∃ t, exec (.tmrReset k pn ps rd ra n z) s = .next t ∧ t.bit (Reg.TMR_ST c.val n.toNat) 31 = false ∧
        t.bit (Reg.TMR_ST c.val n.toNat) 30 = false ∧ PutsG s t k rd.toNat (if s.bit (Reg.TMR_ST c.val n.toNat) 31 then 4 else 0) ∧
        ∀ key, key ≠ Reg.TMR_ST c.val n.toNat → t.rd key = s.rd key))

/-- The Lathe's own instructions: LIMG reads an input word or writes an output word, LTMR steps a timer once per turn or reads it
(R300 to R302).
It rests on the model's reading in log entry 73. -/
def Obligations.LatheInstructions : Prop :=
  ∀ (s : State) (pn : Bool) (ps : Fin 8) (rd ra : BitVec 5) (z4 : BitVec 4) (word : BitVec 12) (n : BitVec 10),
    let k := CoreId.lathe
    let G (i : Instr) (w v : Word) : Prop := s.Runs k w → ∃ t, exec i s = .next t ∧ WritesG s t k rd.toNat v 0
    let lw (dir : Bool) := wEnc 0x2C pn ps (rd ++ (BitVec.ofBool dir ++ (z4 ++ word)))
    let x := decide (s.gr k ra.toNat ≠ 0)
    (word.toNat < 2048 → G (.limg k pn ps rd false z4 word) (lw false) (s.rd (lthIn word.toNat))) ∧
    (word.toNat < 1024 → s.Runs k (lw true) → ∃ t, exec (.limg k pn ps rd true z4 word) s = .next t ∧ t.rd (lthOut word.toNat) = s.gr k rd.toNat ∧
      (∀ key, key ≠ lthOut word.toNat → t.rd key = s.rd key) ∧ WritesNone s t k) ∧
    G (.ltmrRead k pn ps rd ra n) (ltmrWord pn ps rd ra 2 n) (s.ltmrRead n.toNat) ∧
    (∀ st, s.ltmrDone n.toNat = some st →
      G (.ltmrStep k pn ps rd ra n) (ltmrWord pn ps rd ra 0 n) (w32 (st ||| 8)) ∧ G (.ltmrReset k pn ps rd ra n) (ltmrWord pn ps rd ra 1 n) (w32 (st
        ||| 8))) ∧
    (s.ltmrDone n.toNat = none →
      (s.Runs k (ltmrWord pn ps rd ra 0 n) → ∃ t, exec (.ltmrStep k pn ps rd ra n) s = .next t ∧ ∃ st, t.ltmrDone n.toNat = some st ∧
        PutsG s t k rd.toNat (w32 st) ∧ t.ltmr s.lthHalf n.toNat = ((s.ltmr s.lthHalf n.toNat).step (s.ltmrCfg s.lthHalf n.toNat) x).1 ∧ t.regs =
          s.regs) ∧
      (s.Runs k (ltmrWord pn ps rd ra 1 n) → ∃ t, exec (.ltmrReset k pn ps rd ra n) s = .next t ∧ ∃ st, t.ltmrDone n.toNat = some st ∧
        PutsG s t k rd.toNat (w32 st) ∧ t.ltmr s.lthHalf n.toNat = LTmr.init ∧ t.regs = s.regs))

/-- LEDG compares x, whether g[ra] is not 0, with the memory of its edge: bit 0 is a rise, bit 1 a fall, bit 2 x, and the memory takes x; a
memory marked INIT shows neither rise nor fall and loses the mark. Nothing else changes but the issue state (R303). -/
def Obligations.LatheEdgeMemory : Prop :=
  ∀ (s : State) (pn : Bool) (ps : Fin 8) (rd ra : BitVec 5) (n : BitVec 12),
    let k := CoreId.lathe
    let h := s.lthHalf
    let x := decide (s.gr k ra.toNat ≠ 0)
    let e := s.ledge h n.toNat
    let rise := !e.fresh && (x && !e.m)
    let fall := !e.fresh && (e.m && !x)
    s.Runs k (wEnc 0x2E pn ps (rd ++ (ra ++ n))) → ∃ t, exec (.ledg k pn ps rd ra n) s = .next t ∧
      PutsG s t k rd.toNat (w32 (b2n rise + 2 * b2n fall + 4 * b2n x)) ∧ t.ledge h n.toNat = { fresh := false, m := x } ∧
      (∀ j, j ≠ n.toNat → t.ledge h j = s.ledge h j) ∧ KeepsZ s t k ∧ KeepsP s t k ∧ AddsFlags s t k 0 ∧
      t = { s with cores := t.cores, lathe := t.lathe, pair := t.pair }

/-! ### Claims, links and MRAM (chapter 01) -/

/-- CLAIM_CMD: a free resource or one already the requester's own goes to it with the tag of CLAIM_TAG; the owner's release of a resource not in
use frees it; a query shows the holder and changes no claim; a name that is no resource is reported (R42, R43, R48). A refused claim or release
changes no claim: CLAIM_DENIED, the holder in CLAIM_RESULT and CLAIM_LAST, the count and interrupt 59 (R42, R43). For a field channel or a line
it is stated where no ended image claim waits to be let go (`ended` empty).
It rests on the model's reading in log entry 19. -/
def Obligations.ClaimCommands : Prop :=
  (∀ (s : State) (r : Req) (res : BitVec 16),
    let n := res.toNat
    let result (owner status tag : Nat) : Word := w32 (owner * 0x1000000 + status * 0x10000 + tag)
    let drives := if n / 4096 = 3 ∨ n / 4096 = 4 then [Reg.FIO_CMD_LO, Reg.FIO_CMD_HI] else []
    (resValid n = true → (s.owner n = 0 ∨ s.owner n = r.code) → (n / 4096 = 3 ∨ n / 4096 = 4 → s.ended = []) → s.served r = true →
      ∃ t, exec (.claimCmdClaim r res) s = .next t ∧ t.claim n = { owner := r.code, tag := s.fld Reg.CLAIM_TAG 15 0 } ∧ t.rd Reg.CLAIM_RESULT = result r.code 1 (s.fld Reg.CLAIM_TAG 15 0) ∧
      (∀ m, m ≠ n → t.claim m = s.claim m) ∧ OnlyRegs s t (Reg.CLAIM_RESULT :: drives) ∧ t = { s with regs := t.regs, claims := t.claims }) ∧
    (resValid n = true → s.owner n = r.code → s.releaseBlocked n = false → n / 4096 ≠ 1 → n / 4096 ≠ 3 → (n / 4096 = 4 → s.ended = []) →
      s.served r = true → ∃ t, exec (.claimCmdRelease r res) s = .next t ∧ t.claim n = Claim.free ∧ t.rd Reg.CLAIM_RESULT = result 0 1 0 ∧
      (∀ m, m ≠ n → t.claim m = s.claim m) ∧ OnlyRegs s t (Reg.CLAIM_RESULT :: drives) ∧ t = { s with regs := t.regs, claims := t.claims }) ∧
    (resValid n = true → s.owner n = r.code → s.releaseBlocked n = false →
      s.served r = true → ∃ t, exec (.claimCmdRelease r res) s = .next t ∧ t.claim n = Claim.free ∧ t.mram = s.mram) ∧
    (resValid n = true → s.owner n = 0 → s.served r = true → ∃ t, exec (.claimCmdRelease r res) s = .next t ∧ t.rd Reg.CLAIM_RESULT = result 0 1 0 ∧
      (∀ a, a ≠ Reg.CLAIM_RESULT → t.rd a = s.rd a) ∧ t = { s with regs := t.regs }) ∧
    (resValid n = true → s.served r = true → ∃ t, exec (.claimCmdQuery r res) s = .next t ∧ t.rd Reg.CLAIM_RESULT = result (s.owner n) 1 (s.claim n).tag ∧
      (∀ a, a ≠ Reg.CLAIM_RESULT → t.rd a = s.rd a) ∧ t = { s with regs := t.regs }) ∧
    (resValid n = false → ∀ i, i = .claimCmdClaim r res ∨ i = .claimCmdRelease r res ∨ i = .claimCmdQuery r res →
      s.served r = true → ∃ t, exec i s = .next t ∧ t.bit Reg.CLAIM_STAT 1 = true ∧ t.rd Reg.CLAIM_RESULT = result 0 3 0 ∧ t.claims = s.claims ∧
        t.bit Reg.INT_STAT_HI 27 = true)) ∧
  (∀ (s : State) (r : Req) (res : BitVec 16),
    let n := res.toNat
    let Denied (i : Instr) : Prop := s.served r = true → ∃ t, exec i s = .next t ∧ t.claims = s.claims ∧ t.bit Reg.CLAIM_STAT 0 = true ∧
      t.rd Reg.CLAIM_RESULT = w32 (s.owner n * 0x1000000 + 2 * 0x10000 + s.fld Reg.CLAIM_TAG 15 0) ∧
      t.rd Reg.CLAIM_LAST = w32 (n * 0x10000 + r.code * 0x100 + s.owner n) ∧
      t.fld Reg.CLAIM_DENY_CNT 31 0 = min 4294967295 (s.fld Reg.CLAIM_DENY_CNT 31 0 + 1) ∧ t.bit Reg.INT_STAT_HI 27 = true ∧
      t = { s with regs := t.regs, supPend := t.supPend, tally := t.tally, buckets := t.buckets }
    (resValid n = true → s.owner n ≠ 0 → s.owner n ≠ r.code → Denied (.claimCmdClaim r res)) ∧
    (resValid n = true → s.owner n ≠ 0 → s.owner n ≠ r.code ∨ s.releaseBlocked n = true → Denied (.claimCmdRelease r res)))

/-- AFL frames (R15 to R18): an expected good frame reaches the 64 lanes of its die and clears the run of discards; a frame with a bad check or a
wrong number is counted, its periods are lost and the link stays up. An AFL link goes down after four discards in a row, with its interrupts, and
not before (R16, R22).
It rests on the model's readings in log entries 21, 22 and 140. -/
def Obligations.DieLinkFramesAndDown : Prop :=
  (∀ (s : State) (die : Fin 2) (seq : BitVec 8) (ok : Bool) (bits : List (BitVec 16)), s.linkUp die.val = true →
    (ok = true → seq.toNat = (s.link die.val).seq → ∃ t, exec (.aflFrame die seq ok bits) s = .next t ∧
      (t.link die.val).consec = 0 ∧ (t.link die.val).seq = (seq.toNat + 1) % 256 ∧
      (∀ j, j < 64 → t.lane (64 * die.val + j) = (s.lane (64 * die.val + j)).addFrame (bits.getD (2 * j) 0) (bits.getD (2 * j + 1) 0)) ∧
      (∀ ch, ch / 64 ≠ die.val → t.lane ch = s.lane ch) ∧ t = { s with lanes := t.lanes, links := t.links }) ∧
    (ok = false ∨ seq.toNat ≠ (s.link die.val).seq → ∃ t, exec (.aflFrame die seq ok bits) s = .next t ∧
      (t.link die.val).consec = (s.link die.val).consec + 1 ∧ t.linkUp die.val = true ∧ t.bit Reg.DLK_STAT (16 + die.val) = true ∧
      (∀ j, j < 64 → t.lane (64 * die.val + j) = (s.lane (64 * die.val + j)).addLost (64 * die.val + j)) ∧
      (ok = false → t.fld (Reg.DLK_ERRCNT die.val) 15 0 = min 65535 (s.fld (Reg.DLK_ERRCNT die.val) 15 0 + 1)) ∧
      (ok = true → t.fld (Reg.DLK_ERRCNT die.val) 31 16 = min 65535 (s.fld (Reg.DLK_ERRCNT die.val) 31 16 + 1)))) ∧
  (∀ (s : State) (die : Fin 2), s.linkUp die.val = true →
    (4 ≤ (s.link die.val).consec → ∃ t, exec (.dieLinkDown die) s = .next t ∧ t.linkUp die.val = false ∧
      (t.link die.val).downAt = s.tb.cnt ∧ t.bit Reg.INT_STAT_LO (16 + 2 * die.val) = true ∧ t.bit Reg.INT_STAT_LO (17 + 2 * die.val) = true ∧
      t.lanes = s.lanes ∧ t.mram = s.mram) ∧
    ((s.link die.val).consec < 4 → exec (.dieLinkDown die) s = .next s))

/-- MRAM (R37, R38): a read delivers the bytes and changes none; a write all of whose bytes lie in ranges of which the function is the writer
stores exactly its bytes; any other write stores none, with interrupt 47. MPL transfers (R15, R21, R22): a transfer whose frame passes its check
with the expected number ends a run of discards; a failed first attempt is counted and the access repeated; one whose repeat fails too gives its
function an error, raises interrupt 47 and takes the link down; a good frame on a link that is down brings it up with that frame's number.
It rests on the model's readings in log entries 5, 23 and 140. -/
def Obligations.MramAccessAndMplTransfers : Prop :=
  (∀ (s : State) (fn : MUser) (via : Option Req) (addr : BitVec 26) (len : Fin 65) (data : Bytes),
    (∃ t, exec (.mramAccessRequest fn via false addr len data) s = .next t ∧ t.mramOut = s.mbs len.val addr.toNat ∧ t.mram = s.mram ∧
      t = { s with mramOut := t.mramOut, mramErr := t.mramErr }) ∧
    ((∀ i, i < len.val → mramWriter fn (addr.toNat + i) = true) → ∃ t, exec (.mramAccessRequest fn via true addr len data) s = .next t ∧
      (∀ i, i < len.val → i < data.length → addr.toNat + i < 0x4000000 → t.mb (addr.toNat + i) = data.getD i 0) ∧
      (∀ a, a < addr.toNat ∨ addr.toNat + min len.val data.length ≤ a → t.mb a = s.mb a) ∧
      t = { s with mram := t.mram, mramErr := t.mramErr }) ∧
    ((∃ i, i < len.val ∧ mramWriter fn (addr.toNat + i) = false) → ∃ t, exec (.mramAccessRequest fn via true addr len data) s = .next t ∧
      t.mram = s.mram ∧ fn ∉ t.mramErr ∧
      t.bit Reg.INT_STAT_HI 15 = true ∧ (∀ r, via = some r → (t.ind r.num).err = true ∧ (t.ind r.num).cause = 3 ∧ t.bit Reg.INT_STAT_HI 14 = true) ∧
      (via = none → t.inds = s.inds) ∧
      t = { s with regs := t.regs, supPend := t.supPend, inds := t.inds, mramErr := t.mramErr, tally := t.tally, buckets := t.buckets })) ∧
  (∀ (s : State) (b : Fin 8) (fn : MUser) (f1 f2 : RxFrame),
    let n := 2 + b.val
    let x := (s.link n).seq
    let Good (f : RxFrame) (e : Nat) : Prop := f.crcOk = true ∧ f.seq.toNat = e
    (s.linkUp n = true → Good f1 x → ∃ t, exec (.mplTransferEnd b fn f1 f2) s = .next t ∧ (t.link n).consec = 0 ∧
      (t.link n).seq = (x + 1) % 256 ∧ t.linkUp n = true ∧ t = { s with links := t.links }) ∧
    (s.linkUp n = true → ¬ Good f1 x → Good f2 (nextSeq x f1.seq.toNat f1.crcOk) → ∃ t, exec (.mplTransferEnd b fn f1 f2) s = .next t ∧
      (t.link n).consec = 0 ∧ t.linkUp n = true ∧ t.bit Reg.INT_STAT_HI 15 = true ∧ t.mram = s.mram ∧ t.mramErr = s.mramErr ∧
      (f1.crcOk = false → t.fld (Reg.DLK_ERRCNT n) 15 0 = min 65535 (s.fld (Reg.DLK_ERRCNT n) 15 0 + 1)) ∧
      (f1.crcOk = true → t.fld (Reg.DLK_ERRCNT n) 31 16 = min 65535 (s.fld (Reg.DLK_ERRCNT n) 31 16 + 1)) ∧
      t = { s with regs := t.regs, supPend := t.supPend, links := t.links, tally := t.tally, buckets := t.buckets }) ∧
    (s.linkUp n = true → ¬ Good f1 x → ¬ Good f2 (nextSeq x f1.seq.toNat f1.crcOk) → ∃ t, exec (.mplTransferEnd b fn f1 f2) s = .next t ∧
      t.linkUp n = false ∧ fn ∈ t.mramErr ∧ t.bit Reg.INT_STAT_HI 15 = true ∧
      t = { s with regs := t.regs, supPend := t.supPend, links := t.links, mramErr := t.mramErr, tally := t.tally, buckets := t.buckets }) ∧
    (s.linkUp n = false → f1.crcOk = true → ∃ t, exec (.mplTransferEnd b fn f1 f2) s = .next t ∧ t.linkUp n = true ∧
      (t.link n).seq = (f1.seq.toNat + 1) % 256 ∧ t.mram = s.mram ∧ t.mramErr = s.mramErr) ∧
    (s.linkUp n = false → f1.crcOk = false → f2.crcOk = true → ∃ t, exec (.mplTransferEnd b fn f1 f2) s = .next t ∧ t.linkUp n = true ∧
      (t.link n).seq = (f2.seq.toNat + 1) % 256 ∧ t.mram = s.mram ∧ t.mramErr = s.mramErr) ∧
    (s.linkUp n = false → f1.crcOk = false → f2.crcOk = false → ∃ t, exec (.mplTransferEnd b fn f1 f2) s = .next t ∧ t.linkUp n = false ∧
      fn ∈ t.mramErr ∧ t.bit Reg.INT_STAT_HI 15 = true ∧ t.mram = s.mram))

/-! ### The tick (chapter 02) -/

/-- TICK_START (R53, R74): the grid moves to the next tick of its second, or to the first of the next second after 4799, and TICK_IDX shows it
with the epoch. The tick reaches a region whose clusters are idle: all four are in their entry phase, and a skew above 100 ns marks the region
late (R34, R55). The element phase starts a core that is not stopped at its entry, with the tick's numbers and the posted request in its
registers and nothing staged (R58, R162).
It rests on the model's reading in log entry 25. -/
def Obligations.TickStartAndPhases : Prop :=
  (∀ s : State, s.started = true → s.inPhases = false → s.tick.running = true → s.power.regReq = [] → 6 ≤ s.stage →
    ∃ t, exec .tickStart s = .next t ∧ t.tick.running = true ∧ t.tick.runs = s.tick.runs + 1 ∧
      (s.tick.idx < 4799 → t.tick.idx = s.tick.idx + 1 ∧ t.tick.sec = s.tick.sec) ∧
      (4799 ≤ s.tick.idx → t.tick.idx = 0 ∧ t.tick.sec = s.tick.sec + 1) ∧
      t.rd Reg.TICK_IDX = w32 (s.epoch * 0x1000000 + t.tick.idx) ∧ t.mram = s.mram ∧ t.lanes = s.lanes ∧ t.cores = s.cores ∧
      ∀ c, c < 16 → t.clPhase c = if s.clPhase c = .exit then .idle else s.clPhase c) ∧
  (∀ (s : State) (r : Fin 4) (skew : Nat), s.tick.running = true → s.tickHas r.val = true → (∀ i, i < 4 → s.clPhase (4 * r.val + i) = .idle) →
    ∃ t, exec (.regionTickArrival r skew) s = .next t ∧ (∀ i, i < 4 → t.clPhase (4 * r.val + i) = .entry) ∧
      (∀ c, c / 4 ≠ r.val → t.clPhase c = s.clPhase c) ∧ (100 < skew → r.val ∈ t.late) ∧ (skew ≤ 100 → t.late = s.late) ∧
      t.mram = s.mram ∧ t.cores = s.cores) ∧
  (∀ (s : State) (c : Fin 16), s.clPhase c.val = .entry → s.readyHolds = false → s.coreStopped c.val = false →
    ∃ t, exec (.elementPhaseStart c) s = .next t ∧ t.clPhase c.val = .element ∧ (t.core c.val).run = .active ∧
      (t.core c.val).pc = (((s.elem c.val).active.map (fun i => i.entry)).getD 0) ∧ (t.core c.val).gr 1 = w32 s.tick.idx ∧
      (t.core c.val).gr 2 = w32 s.tick.sec ∧ (t.core c.val).gr 5 = w32 (s.elem c.val).posted ∧ (t.elem c.val).req = 0 ∧
      (t.elem c.val).sflags = 0 ∧ (t.elem c.val).evts = [] ∧ (∀ n, n ≠ c.val → t.core n = s.core n ∧ t.elem n = s.elem n) ∧ t.mram = s.mram)

/-- The deadline of a cluster whose core met it posts the staged request and flags; while CLUSTER_FAULT is set the request posted is 0; a core
that did not meet it posts nothing new and the overrun is noted (R59, R69 to R72). CLUSTER_FAULT: a write asks for the lifting, the next entry
phase lifts it and clears the run of overruns; OVR_CFG takes any LIMIT but 0 (R73, R627).
It rests on the model's readings in log entries 26 and 27. -/
def Obligations.DeadlinePostAndFaultLifting : Prop :=
  (∀ (s : State) (c : Fin 16), s.clPhase c.val = .element → s.coreStopped c.val = false →
    (∃ i, i < 16 ∧ i ≠ c.val ∧ s.regionRuns (i / 4) = true ∧ s.clPhase i ≠ .exit) →
    let e := s.elem c.val
    ((s.core c.val).run = .ended → s.late.contains (c.val / 4) = false → ∃ t, exec (.elementDeadline c) s = .next t ∧ t.clPhase c.val = .exit ∧
      (t.elem c.val).posted = (if s.bit (Reg.OVR_STAT c.val) 0 then 0 else e.req) ∧ (t.elem c.val).flags = e.sflags ∧
      (t.elem c.val).prevOvr = false ∧ (t.core c.val).run = .idle ∧ t.mram = s.mram) ∧
    ((s.core c.val).run ≠ .ended ∨ s.late.contains (c.val / 4) = true → ∃ t, exec (.elementDeadline c) s = .next t ∧ t.clPhase c.val = .exit ∧
      (t.elem c.val).flags = e.flags ∧ (t.elem c.val).prevOvr = true ∧ ((t.elem c.val).posted = e.posted ∨ (t.elem c.val).posted = 0) ∧
      (t.core c.val).run = .idle ∧ t.mram = s.mram)) ∧
  (∀ (s : State) (c : Fin 16) (v : Word),
    (s.bit (Reg.OVR_STAT c.val) 0 = true → ∃ t, exec (.clusterFaultClearWrite c) s = .next t ∧ (t.elem c.val).clearReq = true ∧
      t.regs = s.regs ∧ t = { s with elems := t.elems }) ∧
    (s.bit (Reg.OVR_STAT c.val) 0 = false → exec (.clusterFaultClearWrite c) s = .next s) ∧
    ((s.elem c.val).clearReq = true → s.clPhase c.val = .entry → ∃ t, exec (.clusterFaultLift c) s = .next t ∧
      t.bit (Reg.OVR_STAT c.val) 0 = false ∧ t.fld (Reg.OVR_STAT c.val) 23 16 = 0 ∧ (t.elem c.val).clearReq = false ∧ t.cores = s.cores) ∧
    (field v 7 0 ≠ 0 → ∃ t, exec (.ovrCfgWrite c v) s = .next t ∧ t.fld (Reg.OVR_CFG c.val) 7 0 = field v 7 0 ∧
      (∀ a, a ≠ Reg.OVR_CFG c.val → t.rd a = s.rd a) ∧ t = { s with regs := t.regs }) ∧
    (field v 7 0 = 0 → ∃ t, exec (.ovrCfgWrite c v) s = .next t ∧ t.rd (Reg.OVR_CFG c.val) = s.rd (Reg.OVR_CFG c.val)))

/-! ### Signals and lanes (chapters 03 and 04) -/

/-- The AFE clock PLL, the start-up check of a die, and the source of a cluster's lanes (R81, R95, R96, R104, R105). The stitcher, calibration
and trims of a lane (R86, R88, R92, R97 to R101, R107, R140, R141).
It rests on the model's readings in log entries 30, 31, 32, 33, 34, 144, 145, 146, 147 and 152. -/
def Obligations.AfeClockAndStitcher : Prop :=
  (∀ (s : State) (die : Fin 2) (c : Fin 16) (v : Word),
    let stat := Reg.AFE_STAT die.val
    let both := s.bit (Reg.AFE_STAT 0) 0 && s.bit (Reg.AFE_STAT 1) 0
    (s.bit (Reg.AFE_STAT 0) 0 = true ∨ s.bit (Reg.AFE_STAT 1) 0 = true → ∃ t, exec .afePllUnlock s = .next t ∧
      t.bit (Reg.AFE_STAT 0) 0 = false ∧ t.bit (Reg.AFE_STAT 1) 0 = false ∧ (∀ n, 16 ≤ n → n < 20 → t.bit Reg.INT_STAT_LO n = true) ∧
      OnlyRegsSig s t [Reg.AFE_STAT 0, Reg.AFE_STAT 1] ∧
        t = { s with regs := t.regs, supPend := t.supPend, tally := t.tally, buckets := t.buckets }) ∧
    (s.bit (Reg.AFE_STAT 0) 0 = false → s.bit (Reg.AFE_STAT 1) 0 = false → exec .afePllUnlock s = .next s) ∧
    (both = false → ∃ t, exec .afePllRelock s = .next t ∧ t.bit (Reg.AFE_STAT 0) 0 = true ∧ t.bit (Reg.AFE_STAT 1) 0 = true ∧
      (∀ ch, ch < 128 → s.isSv (clOf ch) = false → (t.lane ch).chainReq = some 5) ∧
      (∀ ch, s.isSv (clOf ch) = true → (t.lane ch).chainReq = (s.lane ch).chainReq) ∧
      (∀ ch, ch < 128 → (t.lane ch).per = periodAt s.tb.sec s.tb.ns) ∧ OnlyRegs s t [Reg.AFE_STAT 0, Reg.AFE_STAT 1] ∧
        t = { s with regs := t.regs, lanes := t.lanes, wbs := t.wbs }) ∧
    (s.bit stat 3 = false → s.dieOn die.val = true → ∃ t, exec (.afeRecheck die) s = .next t ∧ t.bit stat 3 = true ∧ OnlyRegs s t [stat] ∧
      (∀ n, n < 32 → n ≠ 3 → t.bit stat n = s.bit stat n) ∧ t = { s with regs := t.regs }) ∧
    (∀ (refOk lockOk : Bool) (fine coarse : List Int), s.bit stat 3 = true → ∃ t, exec (.afeCheckDone die refOk lockOk fine coarse) s = .next t ∧
      t.bit stat 3 = false ∧ t.bit stat 2 = true ∧ t.bit stat 1 = refOk ∧ t.bit stat 0 = (lockOk || s.bit stat 0) ∧
      (∀ j, j < 64 → (t.lane (64 * die.val + j)).chainReq = some 6 ∧ t.bit (kSST (64 * die.val + j)) 4 =
        (!refOk || decide (50 < (fine.getD j 0 - 10000).natAbs) || decide (50 < (coarse.getD j 0 - 10000).natAbs))) ∧
      (∀ ch, ch / 64 ≠ die.val → t.lane ch = s.lane ch) ∧
        t = { s with wbs := t.wbs, regs := t.regs, supPend := t.supPend, tally := t.tally, buckets := t.buckets, lanes := t.lanes }) ∧
    (bitAt v 0 = false → ∃ t, exec (.clSrcWrite c v) s = .next t ∧ t.rd (Reg.CL_SRC c.val) &&& srcBits = v &&& srcBits ∧
      t.bit (Reg.CL_SRC c.val) 31 = decide (v &&& srcBits ≠ s.srcNow c.val &&& srcBits) ∧ OnlyRegs s t [Reg.CL_SRC c.val] ∧
        t = { s with regs := t.regs }) ∧
    (bitAt v 0 = true → s.owner (0x7000 + field v 11 8) = 0 → ∃ t, exec (.clSrcWrite c v) s = .next t ∧ t.bit (Reg.CL_SRC c.val) 30 = true ∧
      t.bit Reg.INT_STAT_LO c.val = true ∧ OnlyRegsSig s t [Reg.CL_SRC c.val] ∧
        t = { s with regs := t.regs, supPend := t.supPend, tally := t.tally, buckets := t.buckets }) ∧
    (s.rd (Reg.CL_SRC c.val) &&& srcBits ≠ s.srcNow c.val &&& srcBits → ∃ t, exec (.srcChange c) s = .next t ∧
      t.srcNow c.val = s.rd (Reg.CL_SRC c.val) &&& srcBits ∧ t.bit (Reg.CL_SRC c.val) 31 = false ∧
      (∀ d, d ≠ c.val → t.srcNow d = s.srcNow d) ∧ (∀ ch, clOf ch ≠ c.val → t.lane ch = s.lane ch) ∧
        t = { s with regs := t.regs, ended := t.ended, supPend := t.supPend, tally := t.tally, buckets := t.buckets, pins := t.pins, lanes := t.lanes, clSrc := t.clSrc, trk := t.trk, fpds := t.fpds, dets := t.dets, elems := t.elems, cans := t.cans, eth := t.eth, lines := t.lines })) ∧
  (∀ (s : State) (ch : Fin 128) (v : Word),
    let h := ch.val
    let l := s.lane h
    let Others (t : State) : Prop := ∀ n, n ≠ h → t.lane n = s.lane n
    ((chainCfg (s.rd (kCFG h))).p * l.stN + 32 < l.per → ∃ t, exec (.stitchSample ch) s = .next t ∧ (t.lane h).stN = l.stN + 1 ∧
      t.bit (kSST h) 0 = (t.lane h).coarse ∧ (l.modeNow = 2 → (t.lane h).coarse = true) ∧ (t.lane h).per = l.per ∧ Others t ∧
      OnlyRegs s t [kSST h, kCST h] ∧ t = { s with regs := t.regs, lanes := t.lanes }) ∧
    (∀ (ones : Bool) (run stretch : Nat), ∃ t, exec (.coarseOverload ch ones run stretch) s = .next t ∧
      (t.lane h).ovlLeft = some (ones, stretch) ∧ (∀ b, b ∈ (t.lane h).bits.take (min run l.bits.length) → b.coarse = ones ∧ b.covl = true) ∧
      (t.lane h).bits.drop run = l.bits.drop run ∧ Others t ∧ t = { s with lanes := t.lanes }) ∧
    (l.calFull = none → exec (.calWindowEnd ch) s = .next s) ∧
    (∀ q : CalWin, l.calFull = some q → ∃ t, exec (.calWindowEnd ch) s = .next t ∧ (t.lane h).calFull = none ∧ (t.lane h).cal = l.cal ∧
      (q.ok = false ∨ q.syy < ((s.fld (kCAL h) 31 16 * 1024) ^ 2 * q.n : Nat) → (t.lane h).calErr = l.calErr ∧ OnlyRegs s t []) ∧
      (q.ok = true → ((s.fld (kCAL h) 31 16 * 1024) ^ 2 * q.n : Nat) ≤ q.syy → ∃ e : CalErr, (t.lane h).calErr = some e ∧
        e.gNum = q.n * q.sey - q.se * q.sy ∧ e.gDen = q.n * q.syy - q.sy * q.sy ∧ e.oNum = q.se ∧ e.oDen = q.n) ∧
      Others t ∧ OnlyRegs s t [kRES h] ∧ t = { s with regs := t.regs, lanes := t.lanes }) ∧
    (l.calErr.isSome = true → ∃ t, exec (.calUpdate ch) s = .next t ∧ (t.lane h).calErr = none ∧
      t.fld (kCST h) 31 16 = min 65535 (s.fld (kCST h) 31 16 + 1) ∧
      (s.fact h 2 < 8388608 → s.fact h 2 - s.fact h 2 / 512 ≤ t.trim h 2 ∧ t.trim h 2 ≤ s.fact h 2 + s.fact h 2 / 512) ∧
      (-458752 ≤ s.fact h 3 ∧ s.fact h 3 < 458752 → s.fact h 3 - 65536 ≤ t.trim h 3 ∧ t.trim h 3 ≤ s.fact h 3 + 65536) ∧
      t.trim h 0 = s.trim h 0 ∧ t.trim h 1 = s.trim h 1 ∧ (∀ p, p ∈ l.trimHeld → t.rd (kTRIM h p.1) = s.rd (kTRIM h p.1)) ∧ Others t ∧
      OnlyRegsSig s t [kTRIM h 2, kTRIM h 3, kTRIM h 4, kCST h] ∧
        t = { s with regs := t.regs, supPend := t.supPend, tally := t.tally, buckets := t.buckets, lanes := t.lanes }) ∧
    (∃ t, exec (.calCfgWrite ch v) s = .next t ∧ t.rd (kCAL h) = v &&& 0xFFFF1FF1 ∧
      (s.bit (kCAL h) 0 = false → bitAt v 0 = true → t.bit (kCST h) 2 = false ∧ (t.lane h).cal = CalWin.init ∧ (t.lane h).calErr = none) ∧
      (s.bit (kCAL h) 0 = true ∨ bitAt v 0 = false → t.lane h = l) ∧ Others t ∧ OnlyRegs s t [kCAL h, kCST h] ∧
        t = { s with regs := t.regs, lanes := t.lanes }) ∧
    (∀ k : Fin 5, ∃ t, exec (.trimWrite ch k v) s = .next t ∧ t.rd (kTRIM h k.val) = w32 (v.toNat % 2 ^ trimWidth k.val) ∧
      (∀ j, j < 5 → t.trimNow h j = s.trimNow h j) ∧ (t.lane h).trimHeld ≠ [] ∧ Others t ∧ OnlyRegs s t [kTRIM h k.val] ∧
      t = { s with regs := t.regs, lanes := t.lanes }) ∧
    (l.trimHeld = [] → exec (.trimApply ch) s = .next s) ∧
    (l.trimHeld ≠ [] → l.calErr = none → ∃ t, exec (.trimApply ch) s = .next t ∧ (t.lane h).trimHeld = [] ∧
      (∀ j, t.trimNow h j = s.rd (kTRIM h j)) ∧ (t.lane h).cal = { CalWin.init with prev := l.cal.prev } ∧ Others t ∧ OnlyRegs s t [] ∧
        t = { s with lanes := t.lanes }) ∧
    (l.trimHeld ≠ [] → ∃ t, exec (.trimApply ch) s = .next t ∧ (t.lane h).trimHeld = [] ∧ (t.lane h).calErr = none ∧
      (∀ p, p ∈ l.trimHeld → t.trimNow h p.1 = s.rd (kTRIM h p.1)) ∧ Others t ∧
        t = { s with regs := t.regs, supPend := t.supPend, tally := t.tally, buckets := t.buckets, lanes := t.lanes }) ∧
    (∃ t, exec (.stcCtrlWrite ch v) s = .next t ∧ t.rd (kSTC h) = v &&& 0xFFFF1F03 ∧
      (t.lane h).modeReq = decide (field v 1 0 ≠ l.modeNow) ∧ (t.lane h).modeNow = l.modeNow ∧ Others t ∧ OnlyRegs s t [kSTC h] ∧
        t = { s with regs := t.regs, lanes := t.lanes }) ∧
    (l.modeReq = true → ∃ t, exec (.stcModeApply ch) s = .next t ∧ (t.lane h).modeNow = s.fld (kSTC h) 1 0 ∧ (t.lane h).modeReq = false ∧
      (t.lane h).coarse = false ∧ (t.lane h).hcount = 0 ∧ t.bit (kSST h) 0 = false ∧ Others t ∧ OnlyRegs s t [kSST h] ∧
        t = { s with regs := t.regs, lanes := t.lanes }) ∧
    (5 * field v 30 0 < 2 * s.fld (kUP h) 26 0 → ∃ t, exec (.stcThrDnWrite ch v) s = .next t ∧ t.rd (kDN h) = w32 (field v 30 0) ∧
      OnlyRegs s t [kDN h] ∧ t = { s with regs := t.regs }) ∧
    (2 * s.fld (kUP h) 26 0 ≤ 5 * field v 30 0 → exec (.stcThrDnWrite ch v) s = .next s) ∧
    (∀ cause, l.chainReq = some cause → s.stopped h = false → s.isSv (clOf h) = false → ∃ t, exec (.chainRestart ch) s = .next t ∧
      (t.lane h).chainReq = none ∧ (t.lane h).reset = s.tickNo ∧ (t.lane h).settleN = s.fld (kSETTLE h) 7 0 ∧
      t.fld (kSTAT h) 31 24 = s.fld (kSETTLE h) 7 0 ∧ t.bit (kSTAT h) 3 = decide (s.fld (kSETTLE h) 7 0 ≠ 0) ∧
      t.bit Reg.INT_STAT_LO (16 + chRegion h) = true ∧ Others t ∧ OnlyRegsSig s t [kSTAT h, kCNT h] ∧
        t = { s with regs := t.regs, supPend := t.supPend, tally := t.tally, buckets := t.buckets, lanes := t.lanes }) ∧
    (s.fld (kSTAT h) 31 24 = 0 → ∃ t, exec (.laneSettleEnd ch) s = .next t ∧ t.bit (kSTAT h) 3 = false ∧ OnlyRegs s t [kSTAT h] ∧
      (∀ n, n < 32 → n ≠ 3 → t.bit (kSTAT h) n = s.bit (kSTAT h) n) ∧ t = { s with regs := t.regs }))

/-- REC, PROT, wideband and TRK samples, the tracker and the fast-path output (R116, R121, R129, R131 to R137, R251, R340, R628).
It rests on the model's readings in log entries 35, 36, 37, 38, 148, 150 and 151. -/
def Obligations.SamplesAndTracker : Prop :=
  ∀ (s : State) (ch : Fin 128) (c : Fin 16) (v : Word),
    let h := ch.val
    let l := s.lane h
    let cfg := chainCfg (s.rd (kCFG h))
    let k := s.tracker c.val
    let cfgKey := Reg.TRK_CFG c.val
    let OthersT (t : State) : Prop := ∀ n, n ≠ c.val → t.tracker n = s.tracker n
    (l.recM * 2 ^ cfg.stages < l.stN → ∃ t, exec (.recSampleComplete ch) s = .next t ∧ (t.lane h).recM = l.recM + 1 ∧
      (∃ r : RecSample, (t.lane h).recs.head? = some r ∧ r.m = l.recM ∧
        (s.isSv (clOf h) = true → r.word = sampleWord 0 true false false true (l.recM / 3)) ∧
        (t.lane h).prot = (if l.recM % 3 = 0 ∧ s.isSv (clOf h) = false then l.prot ++ [{ idx := l.recM / 3, word := r.word }] else l.prot)) ∧
      (∀ n, n ≠ h → t.lane n = s.lane n) ∧ t = { s with lanes := t.lanes }) ∧
    (8 * l.wbM < l.per → s.isSv (clOf h) = false → s.regionRuns (chRegion h) = true → ∃ t, exec (.wbSample ch) s = .next t ∧
      (t.lane h).wbM = l.wbM + 1 ∧ (t.fpd h).spent = decide (s.fld (Reg.FPD_CFG (clOf h) (lnOf h)) 29 16 < (t.fpd h).quiet) ∧ (∀ n, n ≠ h → t.lane n = s.lane n) ∧
        t = { s with regs := t.regs, ended := t.ended, supPend := t.supPend, tally := t.tally, buckets := t.buckets, pins := t.pins, lanes := t.lanes, fpds := t.fpds, dets := t.dets, cans := t.cans, eth := t.eth, lines := t.lines })
        ∧
    (s.bit (Reg.FPD_STAT (clOf h)) (lnOf h) = true → (s.fpd h).spent = true →
      ∃ t, exec (.fpdStretchEnd ch) s = .next t ∧ t.bit (Reg.FPD_STAT (clOf h)) (lnOf h) = false ∧
      (∀ n, n < 32 → n ≠ lnOf h → n < 8 ∨ 11 ≤ n → t.bit (Reg.FPD_STAT (clOf h)) n = s.bit (Reg.FPD_STAT (clOf h)) n) ∧
        t = { s with regs := t.regs, ended := t.ended, supPend := t.supPend, tally := t.tally, buckets := t.buckets, pins := t.pins, dets := t.dets, cans := t.cans, eth := t.eth, lines := t.lines })
        ∧
    (s.regionRuns (c.val / 4) = true → k.align = false → s.trkDue c.val = true → k.cuts = [] → ∃ t, exec (.trkSample c) s = .next t ∧
      (let bare (x : TrkSet) : TrkSet := { x with words := [] }
       (t.tracker c.val).out.map bare = k.out.map bare ++
         [{ tick := tickAbs k.sec (tickOfTag (k.phi * 625000 / 38654705664)), sec := k.sec, phi := k.phi, sv := s.isSv c.val, from_ := k.start,
            ref := some (field (s.eff cfgKey) 2 0), words := [], pos := none, done := 0 }]) ∧
      (∀ (n m : Nat) (x : TrkSet) (w : Word), k.out[n]? = some x → x.word m = some w →
        ∃ y : TrkSet, (t.tracker c.val).out[n]? = some y ∧ y.word m = some w) ∧
      (let phi := k.phi + k.perAt k.tagTick * 1024 / s.nTrk c.val
       (phi < 14400 * 4294967296 → (t.tracker c.val).phi = phi ∧ (t.tracker c.val).sec = k.sec) ∧
       (14400 * 4294967296 ≤ phi → (t.tracker c.val).phi = phi - 14400 * 4294967296 ∧ (t.tracker c.val).sec = k.sec + 1)) ∧
      OthersT t ∧ t = { s with trk := t.trk }) ∧
    (∀ x, s.regionRuns (c.val / 4) = true → k.align = false → k.cuts = [x] → tickAbs x.sec x.idx ≤ k.tagTick →
      exec (.trkSample c) s = exec (.trkSample c) (s.setTracker c.val
        { k with phi := 3 * x.idx * 4294967296, sec := x.sec, cuts := [], cycle := [], theta := none,
                 out := k.out.map (fun y => { y with ref := none }) })) ∧
    (s.trkN c.val ≤ k.cycle.length → ∃ t, exec (.trkCycleComplete c) s = .next t ∧ (t.tracker c.val).cycle = k.cycle.drop (s.trkN c.val) ∧
      ((∃ w, w ∈ k.cycle.take (s.trkN c.val) ∧ bitAt w 7 = true) → t.bit (Reg.TRK_STAT c.val) 1 = true ∧ t.bit (Reg.TRK_STAT c.val) 0 = false ∧
        (t.tracker c.val).theta = none ∧ (t.tracker c.val).run = 0 ∧ t.rd (Reg.TRK_PER c.val) = s.rd (Reg.TRK_PER c.val)) ∧
      OthersT t ∧ OnlyRegsSig s t [Reg.TRK_PER c.val, Reg.TRK_FREQ c.val, Reg.TRK_ROCOF c.val, Reg.TRK_STAT c.val] ∧
        t = { s with regs := t.regs, supPend := t.supPend, tally := t.tally, buckets := t.buckets, trk := t.trk }) ∧
    (field v 5 4 = 3 ∨ field v 14 12 = 0 ∨ field v 14 12 = 7 → ∃ t, exec (.trkCfgWrite c v) s = .next t ∧ t.bit (Reg.TRK_STAT c.val) 3 = true ∧
      t.eff cfgKey = s.eff cfgKey ∧ OnlyRegs s t [Reg.TRK_STAT c.val] ∧ t = { s with regs := t.regs }) ∧
    (field v 5 4 ≠ 3 → field v 14 12 ≠ 0 → field v 14 12 ≠ 7 → ∃ t, exec (.trkCfgWrite c v) s = .next t ∧ t.rd cfgKey = v &&& 0xFFFF7137 ∧
      t.eff cfgKey &&& 0x37 = s.eff cfgKey &&& 0x37 ∧ t.eff cfgKey &&& 0xFFFF7100 = v &&& 0xFFFF7100 ∧ OnlyRegs s t [cfgKey] ∧
      (∀ a, a ≠ cfgKey → t.eff a = s.eff a) ∧ t = { s with regs := t.regs, inForce := t.inForce }) ∧
    (s.eff cfgKey ≠ s.rd cfgKey → ∃ t, exec (.trkCfgApply c) s = .next t ∧ t.eff cfgKey = s.rd cfgKey ∧
      t.tracker c.val = { k with cuts := (t.tracker c.val).cuts } ∧ (t.tracker c.val).cuts = k.cuts ++ [{ sec := s.tick.sec, idx := s.tick.idx, n := s.nTrk c.val, ref := field (s.eff cfgKey) 2 0 }] ∧ OthersT t ∧ t = { s with trk := t.trk, inForce := t.inForce })

/-- Cross-fades of a lane and its coefficient memory (R145 to R148, R155). Stop, change and restart of a lane, and its default sets (R150 to
R154).
It rests on the model's readings in log entries 29, 33, 147 and 149. -/
def Obligations.LaneFadesStopsChanges : Prop :=
  (∀ (s : State) (ch : Fin 128) (v : Word) (r : Req) (c : Fin 16) (off : BitVec 16),
    let h := ch.val
    let l := s.lane h
    let stat := kSTAT h
    let at_ := (0x60000 + off.toNat) / 4 * 4
    let key := clusterKey c.val at_
    let Others (t : State) : Prop := ∀ n, n ≠ h → t.lane n = s.lane n
    (bitAt v 31 = true → s.bit stat 6 = false → s.stopped h = false → bitAt v 16 = true ∨ bitAt v 17 = true →
      ∃ t, exec (.laneFadeRequest ch v) s = .next t ∧ t.bit stat 6 = true ∧
      (t.lane h).fadeComp = (if bitAt v 16 then some { len := field v 7 0, start := none, bank := bitAt v 8 } else none) ∧
      (t.lane h).fadeFin = (if bitAt v 17 then some { len := field v 7 0, start := none, bank := bitAt v 8 } else none) ∧
      t.bit stat 4 = s.bit stat 4 ∧ t.bit stat 5 = s.bit stat 5 ∧ Others t ∧ OnlyRegs s t [stat] ∧ t = { s with regs := t.regs, lanes := t.lanes }) ∧
    (bitAt v 31 = true → s.bit stat 6 = false → s.stopped h = true → ∃ t, exec (.laneFadeRequest ch v) s = .next t ∧
      t.bit stat 4 = (if bitAt v 16 then bitAt v 8 else s.bit stat 4) ∧ t.bit stat 5 = (if bitAt v 17 then bitAt v 8 else s.bit stat 5) ∧
      t.bit stat 6 = false ∧ OnlyRegs s t [stat] ∧ t = { s with regs := t.regs }) ∧
    (bitAt v 31 = true → s.bit stat 6 = true → ∃ t, exec (.laneFadeRequest ch v) s = .next t ∧ t.bit stat 7 = true ∧
      t.fld (kCNT h) 31 16 = min 65535 (s.fld (kCNT h) 31 16 + 1) ∧ t.bit Reg.INT_STAT_LO (16 + chRegion h) = true ∧ t.lanes = s.lanes ∧
      OnlyRegsSig s t [stat, kCNT h] ∧
        t = { s with regs := t.regs, supPend := t.supPend, tally := t.tally, buckets := t.buckets, lanes := t.lanes }) ∧
    (∀ f : Fade, l.fadeFin = some f → f.start = none → ∃ t, exec (.laneFadeStart ch) s = .next t ∧
      (t.lane h).fadeFin = some { f with start := some (3 * s.tickNo) } ∧ Others t ∧ t = { s with lanes := t.lanes }) ∧
    (∀ (f : Fade) (n : Nat), l.fadeFin = some f → f.start = some n → n + f.len ≤ l.recM → l.fadeComp = none → s.bit stat 6 = true →
      ∃ t, exec (.laneFadeEnd ch) s = .next t ∧ t.bit stat 5 = f.bank ∧ t.bit stat 6 = false ∧ t.bit stat 4 = s.bit stat 4 ∧
      (t.lane h).fadeFin = none ∧ Others t ∧ OnlyRegs s t [stat] ∧ t = { s with regs := t.regs, lanes := t.lanes }) ∧
    (coefPlace at_ = none → s.served r = true → exec (.coefWrite r c off v) s = .next s) ∧
    (∀ (lane : Nat) (fin bank : Bool), coefPlace at_ = some (lane, some (fin, bank)) → s.bankInUse (8 * c.val + lane) fin bank = false →
      s.served r = true → ∃ t, exec (.coefWrite r c off v) s = .next t ∧ t.rd key = w32 (v.toNat % 16777216) ∧ OnlyRegs s t [key] ∧ t = { s with regs := t.regs }) ∧
    (∀ (lane : Nat) (fin bank : Bool), coefPlace at_ = some (lane, some (fin, bank)) → s.bankInUse (8 * c.val + lane) fin bank = true →
      s.served r = true → ∃ t, exec (.coefWrite r c off v) s = .next t ∧ t.rd key = s.rd key ∧ t.bit (kSTAT (8 * c.val + lane)) 8 = true ∧
      (t.ind r.num).err = true ∧ (t.ind r.num).cause = 3 ∧ OnlyRegsSig s t [kSTAT (8 * c.val + lane)] ∧
        t = { s with regs := t.regs, inds := t.inds, supPend := t.supPend, tally := t.tally, buckets := t.buckets }) ∧
    (∀ lane : Nat, coefPlace at_ = some (lane, none) → s.served r = true → ∃ t, exec (.coefWrite r c off v) s = .next t ∧ t = { s with regs := t.regs } ∧
      (s.stopped (8 * c.val + lane) = true → t.rd key = v ∧ OnlyRegs s t [key]) ∧
      (s.stopped (8 * c.val + lane) = false → t.bit (kSTAT (8 * c.val + lane)) 9 = true ∧ OnlyRegs s t [kSTAT (8 * c.val + lane)]))) ∧
  (∀ (s : State) (ch : Fin 128) (v : Word) (k : Fin 25) (sel : BitVec 2),
    let h := ch.val
    let l := s.lane h
    let stat := kSTAT h
    let ctrl := kCTRL h
    let Others (t : State) : Prop := ∀ n, n ≠ h → t.lane n = s.lane n
    (s.stopped h = false → ∃ t, exec (.laneStructWrite ch k v) s = .next t ∧ t.bit stat 9 = true ∧ OnlyRegs s t [stat] ∧
      t = { s with regs := t.regs }) ∧
    (s.stopped h = true → ∃ t, exec (.laneStructWrite ch k v) s = .next t ∧ t.rd (structKey h k.val) = v &&& w32 (structMask k.val) ∧
      (k.val ≤ 1 → t.rd (kMIN h) = laneMin (t.rd (kCFG h)) (t.rd (kHB h))) ∧ (2 ≤ k.val → t.rd (kMIN h) = s.rd (kMIN h)) ∧
      OnlyRegs s t [structKey h k.val, kMIN h] ∧ t = { s with regs := t.regs }) ∧
    (∃ t, exec (.laneRunStop ch) s = .next t ∧ t.bit ctrl 0 = false ∧ (t.lane h).startReq = false ∧
      (s.stopped h = false → (t.lane h).stopReq = true ∧ t.bit ctrl 31 = true) ∧ (s.stopped h = true → (t.lane h).stopReq = l.stopReq) ∧
      Others t ∧ OnlyRegs s t [ctrl] ∧ t = { s with regs := t.regs, lanes := t.lanes }) ∧
    (l.stopReq = true → ∃ t, exec (.laneStopApply ch) s = .next t ∧ t.stopped h = true ∧ (t.lane h).stopReq = false ∧ (t.lane h).prot = [] ∧
      (t.lane h).fadeComp = none ∧ (t.lane h).fadeFin = none ∧ (t.lane h).chainReq = none ∧ t.bit stat 6 = false ∧ t.bit stat 3 = false ∧
      t.fld stat 31 24 = 0 ∧ t.bit stat 4 = s.bit stat 4 ∧ t.bit stat 5 = s.bit stat 5 ∧
      t.bit ctrl 31 = (l.startReq || l.loadReq.isSome) ∧ Others t ∧ OnlyRegs s t [stat, ctrl] ∧ t = { s with regs := t.regs, lanes := t.lanes }) ∧
    (∃ t, exec (.laneRunStart ch) s = .next t ∧ t.bit ctrl 0 = true ∧
      (s.stopped h = true → (t.lane h).startReq = true ∧ t.bit ctrl 31 = true) ∧ (s.stopped h = false → (t.lane h).stopReq = false) ∧
      Others t ∧ OnlyRegs s t [ctrl] ∧ t = { s with regs := t.regs, lanes := t.lanes }) ∧
    (l.startReq = true → s.cfgOk h = false → ∃ t, exec (.laneRestartApply ch) s = .next t ∧ t.bit ctrl 0 = false ∧ t.bit stat 10 = true ∧
      t.stopped h = s.stopped h ∧ (t.lane h).startReq = false ∧ t.bit Reg.INT_STAT_LO (16 + chRegion h) = true ∧ Others t ∧
      OnlyRegsSig s t [ctrl, stat] ∧ t = { s with regs := t.regs, supPend := t.supPend, tally := t.tally, buckets := t.buckets, lanes := t.lanes }) ∧
    (l.startReq = true → s.cfgOk h = true → ∃ t, exec (.laneRestartApply ch) s = .next t ∧ t.stopped h = false ∧ (t.lane h).startReq = false ∧
      (t.lane h).delay = s.delayNow h ∧ (t.lane h).prot = [] ∧ (t.lane h).reset = s.tickNo ∧ t.fld stat 31 24 = s.fld (kSETTLE h) 7 0 ∧ Others t ∧
      OnlyRegsSig s t [ctrl, stat, kCNT h, Reg.CORE_STAT (clOf h)] ∧
        t = { s with regs := t.regs, supPend := t.supPend, tally := t.tally, buckets := t.buckets, lanes := t.lanes }) ∧
    (sel = 0 → exec (.laneLoadDef ch sel) s = .next s) ∧
    (sel ≠ 0 → s.stopped h = true → sel ≠ 3 → ∃ t, exec (.laneLoadDef ch sel) s = .next t ∧ (t.lane h).loadReq = some sel.toNat ∧ t.bit ctrl 31 =
      true ∧
      Others t ∧ OnlyRegs s t [ctrl] ∧ t = { s with regs := t.regs, lanes := t.lanes }) ∧
    (sel ≠ 0 → s.stopped h = false ∨ sel = 3 → ∃ t, exec (.laneLoadDef ch sel) s = .next t ∧ t.bit stat 9 = true ∧ OnlyRegs s t [stat] ∧
      t = { s with regs := t.regs }) ∧
    (∀ n, l.loadReq = some n → s.stopped h = true → ∃ t, exec (.loadDefApply ch) s = .next t ∧ (t.lane h).loadReq = none ∧
      t.rd (kCFG h) = (if n = 1 then 0x560B2A49 else 0x360B2969) ∧ t.rd (kHB h) = (if n = 1 then 0x026DA else 0x01249) ∧
      t.rd (kDELAY h) = (if n = 1 then 3 else 2) ∧ t.rd (kSETTLE h) = (if n = 1 then 6 else 10) ∧
      (∀ bank j, j < 96 → t.rd (bankKey h false bank j) = tapWord ((if n = 1 then flinComp else fminComp).getD j 0)) ∧
      (∀ bank j, j < 128 → t.rd (bankKey h true bank j) = tapWord ((if n = 1 then flinFin else fminFin).getD j 0)) ∧
      Others t ∧ t = { s with regs := t.regs, lanes := t.lanes }))

/-! ### Element cores: images, run and stop, second ports (chapter 05) -/

/-- Loading, validation, activation and revert of an element image (R182 to R187, R627).
It rests on the model's readings in log entries 65, 66, 67 and 68. -/
def Obligations.ElementImageCommands : Prop :=
  ∀ (s : State) (c : Fin 16) (v : Word),
    let d := c.val
    let e := s.elem d
    let on (i : Nat) : Prop := s.cstat d i = true
    let off (i : Nat) : Prop := s.cstat d i = false
    let Others (t : State) : Prop := ∀ n, n ≠ d → t.elem n = s.elem n
    let Refused (i : Instr) : Prop := ∃ t, exec i s = .next t ∧ t.cstat d csCMDERR = true ∧ OnlyRegs s t [Reg.CORE_STAT d] ∧
      t = { s with regs := t.regs }
    let Activated (t : State) (img : Image) : Prop := (t.elem d).active = some img ∧ (t.elem d).other = e.active ∧
      t.cstat d csBANK = !s.cstat d csBANK ∧ t.cstat d csLOADED = true ∧ t.cstat d csVALID = false ∧ t.cstat d csACT = false ∧
      t.cstat d csREVERTIBLE = e.active.isSome ∧ t.rd (Reg.CORE_IMG_VER d) = w32 img.ver ∧ t.rd (Reg.CORE_LAYOUT d) = w32 img.layout ∧
      t.bit Reg.INT_STAT_LO d = true ∧ Others t ∧
        t = { s with regs := t.regs, claims := t.claims, ended := t.ended, supPend := t.supPend, tally := t.tally, buckets := t.buckets, pins := t.pins, expect := t.expect, elems := t.elems }
    let Armed (t : State) (kind : Nat) : Prop := (t.elem d).actWait = some 2 ∧ (t.elem d).actKind = kind ∧ (t.elem d).active = e.active ∧
      (t.elem d).actIdx = (if s.bit (Reg.CORE_ACT_AT d) 31 then some (s.fld (Reg.CORE_ACT_AT d) 12 0) else none) ∧
      t.cstat d csACT = true ∧ Others t ∧ OnlyRegs s t [Reg.CORE_STAT d] ∧ t = { s with regs := t.regs, elems := t.elems }
    (on csVALIDATING ∨ on csACT → Refused (.coreLoadValidate c)) ∧
    (off csVALIDATING → off csACT → ∃ t, exec (.coreLoadValidate c) s = .next t ∧ (t.elem d).loading = true ∧
      (t.elem d).loadBase = s.fld (Reg.CORE_IMG_ADDR d) 22 6 * 64 ∧ (t.elem d).other = none ∧ (t.elem d).active = e.active ∧
      t.cstat d csVALIDATING = true ∧ t.cstat d csVALID = false ∧ t.cstat d csREVERTIBLE = false ∧
      (∀ i, i < 16384 → t.rd (imemKey d (s.cstat d csBANK) i) = s.rd (imemKey d (s.cstat d csBANK) i)) ∧ Others t ∧
        t = { s with regs := t.regs, elems := t.elems }) ∧
    (e.loading = true → ∃ t, exec (.coreValidationDone c) s = .next t ∧ t.cstat d csVALIDATING = false ∧ Others t ∧
      t = { s with regs := t.regs, supPend := t.supPend, tally := t.tally, buckets := t.buckets, elems := t.elems } ∧
      ((s.elmVerdict e.loadBase d).refusal = none → t.cstat d csVALID = true ∧ (t.elem d).other = some (s.elmImage e.loadBase) ∧
        (t.elem d).loading = false ∧ t.rd (Reg.CORE_VAL d) = 0) ∧
      (∀ r x, (s.elmVerdict e.loadBase d).refusal = some (r, x) → t.cstat d csREFUSED = true ∧ t.cstat d csVALID = s.cstat d csVALID ∧
        (t.elem d).other = e.other ∧ t.rd (Reg.CORE_VAL d) = w32 (r * 0x1000000 + x) ∧ t.bit Reg.INT_STAT_HI 26 = true)) ∧
    (off csVALID ∨ on csACT → Refused (.coreActivate c)) ∧
    (∀ img, on csVALID → off csACT → e.other = some img → s.coreStopped d = true → ∃ t, exec (.coreActivate c) s = .next t ∧ Activated t img) ∧
    (on csVALID → off csACT → s.liveOk d = true → ∃ t, exec (.coreActivate c) s = .next t ∧ Armed t 1) ∧
    (on csVALID → off csACT → s.coreStopped d = false → s.liveOk d = false → Refused (.coreActivate c)) ∧
    (∀ img, s.atTickStart d = true → e.actWait = some 0 → e.actIdx = none ∨ e.actIdx = some s.tick.idx → e.other = some img →
      ∃ t, exec (.coreActivationApply c) s = .next t ∧ Activated t img) ∧
    (∀ img, e.other = some img → e.revertible = true → off csACT → s.liveOk d = true → s.claimRefusal (0x10 + d) img.claims = none →
      ∃ t, exec (.coreRevert c) s = .next t ∧ Armed t 3) ∧
    (e.other = none ∨ e.revertible = false ∨ on csACT ∨ s.liveOk d = false → Refused (.coreRevert c)) ∧
    (4799 < field v 12 0 → Refused (.coreActAtWrite c v)) ∧
    (field v 12 0 ≤ 4799 → ∃ t, exec (.coreActAtWrite c v) s = .next t ∧ t.rd (Reg.CORE_ACT_AT d) &&& 0x80001FFF = v &&& 0x80001FFF ∧
      OnlyRegs s t [Reg.CORE_ACT_AT d] ∧ t = { s with regs := t.regs })

/-- Run and stop of an element core and the second ports of its memories (R166, R188).
It rests on the model's readings in log entries 7, 67 and 133. -/
def Obligations.ElementCoreRunStopAndPorts : Prop :=
  ∀ (s : State) (c : Fin 16) (r : Req) (addr : BitVec 17) (v : Word),
    let d := c.val
    let e := s.elem d
    let word := dmemKey d (addr.toNat / 4 * 4)
    let Others (t : State) : Prop := ∀ n, n ≠ d → t.elem n = s.elem n
    let Refused (i : Instr) : Prop := s.served r = true → ∃ t, exec i s = .next t ∧ (t.ind r.num).err = true ∧ (t.ind r.num).cause = 3 ∧
      t.bit Reg.INT_STAT_HI 14 = true ∧ OnlyRegs s t [Reg.INT_STAT_HI] ∧ t = { s with regs := t.regs, inds := t.inds, supPend := t.supPend }
    (∃ t, exec (.coreRunStop c) s = .next t ∧ t.bit (Reg.CORE_CTRL d) 0 = false ∧ (t.elem d).stopReq = !s.coreStopped d ∧
      (t.elem d).startReq = false ∧ Others t ∧ OnlyRegs s t [Reg.CORE_CTRL d] ∧ t = { s with regs := t.regs, elems := t.elems }) ∧
    (s.cstat d csLOADED = true → ∃ t, exec (.coreRunStart c) s = .next t ∧ t.bit (Reg.CORE_CTRL d) 0 = true ∧
      (t.elem d).startReq = s.coreStopped d ∧ (t.elem d).stopReq = false ∧ Others t ∧ OnlyRegs s t [Reg.CORE_CTRL d] ∧
        t = { s with regs := t.regs, elems := t.elems }) ∧
    (s.cstat d csLOADED = false → ∃ t, exec (.coreRunStart c) s = .next t ∧ t.cstat d csCMDERR = true ∧ t.elems = s.elems ∧
      OnlyRegs s t [Reg.CORE_STAT d]) ∧
    (s.atTickStart d = true → e.stopReq = true → ∃ t, exec (.coreStopApply c) s = .next t ∧ (t.elem d).posted = 0 ∧ (t.elem d).flags = 0 ∧
      (t.elem d).stopReq = false ∧ (t.core d).run = .idle ∧ t.coreStopped d = true ∧ (∀ n, n ≠ d → t.core n = s.core n) ∧ Others t ∧
      t = { s with regs := t.regs, ended := t.ended, supPend := t.supPend, tally := t.tally, buckets := t.buckets, pins := t.pins, dets := t.dets, cores := t.cores, elems := t.elems, cans := t.cans, eth := t.eth, lines := t.lines })
        ∧
    (s.atTickStart d = true → e.startReq = true → ∃ t, exec (.coreStartApply c) s = .next t ∧ t.coreStopped d = false ∧
      (t.elem d).startReq = false ∧ (t.elem d).first = true ∧ Others t ∧ OnlyRegs s t [Reg.CORE_STAT d] ∧
        t = { s with regs := t.regs, elems := t.elems }) ∧
    (s.coreStopped d = true → s.served r = true → ∃ t, exec (.coreDmemPortWrite r c addr v) s = .next t ∧ t.rd word = v ∧ OnlyRegs s t [word] ∧
      t.upset d word = 0 ∧ (∀ n key, n ≠ d ∨ key ≠ word → t.upset n key = s.upset n key) ∧
      (∀ n, t.elem n = { s.elem n with errs := (t.elem n).errs }) ∧ t = { s with regs := t.regs, elems := t.elems }) ∧
    (s.coreStopped d = false → Refused (.coreDmemPortWrite r c addr v)) ∧
    Refused (.coreImemPortWrite r c addr v)

/-! ### Detectors and settings of the primitives (chapter 07) -/

/-- The IFD's lock, stop, restart and hold, and the current detector's dropout (R233, R246 to R250, R629). Arc-flash coincidence, the wavefront
FIFO, and the settings of curves, tables, comparators and timers (R238, R241, R242, R255 to R259, R262, R263, R629).
It rests on the model's readings in log entries 60, 61 and 62. -/
def Obligations.DetectorsAndCoincidence : Prop :=
  (∀ (s : State) (c : Fin 16) (v : Word),
    let d := c.val
    let x := s.det d
    let ctrl := Reg.IFD_CTRL d
    let stat := Reg.IFD_STAT d
    let Others (t : State) : Prop := ∀ n, n ≠ d → t.det n = s.det n
    let OthersAf (t : State) : Prop := ∀ n, n ≠ d →
      t.det n = { s.det n with lightFall := (t.det n).lightFall, gFall := (t.det n).gFall, g := (t.det n).g }
    let Denied (i : Instr) : Prop := ∃ t, exec i s = .next t ∧ t.bit (Reg.CRV_STAT d) 0 = true ∧ t.bit Reg.INT_STAT_LO d = true ∧
      OnlyRegsSig s t [Reg.CRV_STAT d] ∧ t = { s with regs := t.regs, supPend := t.supPend, tally := t.tally, buckets := t.buckets }
    (s.clPhase d ≠ .entry → exec (.ifdHoldExpiry c) s = .next s ∧ exec (.cdDropout c) s = .next s) ∧
    (s.clPhase d = .entry → s.ifdOut d = true → s.ifdLeft d = none → ∃ t, exec (.ifdHoldExpiry c) s = .next t ∧ t.bit stat 0 = false ∧ OthersAf t ∧
      (t.det d).lastTrue = x.lastTrue ∧ (t.det d).crit = x.crit ∧ (t.det d).hist = x.hist ∧ (t.det d).wf = x.wf ∧
      t = { s with regs := t.regs, ended := t.ended, supPend := t.supPend, tally := t.tally, buckets := t.buckets, pins := t.pins, dets := t.dets, cans := t.cans, eth := t.eth, lines := t.lines })
        ∧
    (s.clPhase d = .entry → s.cdOut d = true → s.fld (Reg.CD_CFG d) 31 24 ≤ x.below → ∃ t, exec (.cdDropout c) s = .next t ∧
      t.bit stat 10 = false ∧ OthersAf t ∧ (t.det d).below = x.below ∧ (t.det d).above = x.above ∧ (t.det d).wf = x.wf ∧
      t = { s with regs := t.regs, ended := t.ended, supPend := t.supPend, tally := t.tally, buckets := t.buckets, pins := t.pins, dets := t.dets, cans := t.cans, eth := t.eth, lines := t.lines })
        ∧
    (field v 15 0 = 0xA5C3 → ∃ t, exec (.ifdKeyWrite c v) s = .next t ∧ (t.det d).key = true ∧ t.bit ctrl 1 = true ∧ Others t ∧
      OnlyRegs s t [ctrl] ∧ t = { s with regs := t.regs, supPend := t.supPend, tally := t.tally, buckets := t.buckets, dets := t.dets }) ∧
    (field v 15 0 = 0x3C5A → x.key = true → ∃ t, exec (.ifdKeyWrite c v) s = .next t ∧ (t.det d).key = false ∧ t.bit ctrl 1 = false ∧
      t.bit Reg.INT_STAT_LO d = true ∧ Others t ∧ OnlyRegsSig s t [ctrl] ∧
        t = { s with regs := t.regs, supPend := t.supPend, tally := t.tally, buckets := t.buckets, dets := t.dets }) ∧
    (field v 15 0 ≠ 0xA5C3 → field v 15 0 ≠ 0 → ¬ (field v 15 0 = 0x3C5A ∧ x.key = true) → ∃ t, exec (.ifdKeyWrite c v) s = .next t ∧
      (t.det d).key = false ∧ t.bit ctrl 1 = true ∧ t.bit stat 9 = true ∧ Others t ∧ OnlyRegsSig s t [ctrl, stat] ∧
        t = { s with regs := t.regs, supPend := t.supPend, tally := t.tally, buckets := t.buckets, dets := t.dets }) ∧
    (∀ k : Fin 7, (s.ifdLocked d = true ∨ s.ifdStopped d = false → exec (.ifdLockedWrite c k v) s = .next s) ∧
      (s.ifdLocked d = false → s.ifdStopped d = true → (k.val = 5 ∧ 9600 < field v 13 0) ∨ (k.val = 6 ∧ field v 31 24 = 0) →
        Denied (.ifdLockedWrite c k v)) ∧
      (s.ifdLocked d = false → s.ifdStopped d = true → ¬ ((k.val = 5 ∧ 9600 < field v 13 0) ∨ (k.val = 6 ∧ field v 31 24 = 0)) →
        ∃ t, exec (.ifdLockedWrite c k v) s = .next t ∧ t.rd (clusterKey d (ifdReg k.val)) = v &&& ifdMask k.val ∧
        OnlyRegs s t [clusterKey d (ifdReg k.val)] ∧ t = { s with regs := t.regs })) ∧
    (s.ifdLocked d = true ∨ s.ifdStopped d = false → exec (.clRoleWrite c v) s = .next s) ∧
    (s.ifdLocked d = false → s.ifdStopped d = true → roleClash v = true → Denied (.clRoleWrite c v)) ∧
    (s.ifdLocked d = false → s.ifdStopped d = true → roleClash v = false → ∃ t, exec (.clRoleWrite c v) s = .next t ∧
      t.rd (Reg.CL_ROLE d) = v ∧ t.eff (Reg.CL_ROLE d) = s.eff (Reg.CL_ROLE d) ∧ OnlyRegs s t [Reg.CL_ROLE d] ∧ t = { s with regs := t.regs }) ∧
    (s.ifdLocked d = true → exec (.ifdRunStop c) s = .next s ∧ exec (.ifdRunStart c) s = .next s) ∧
    (s.ifdLocked d = false → ∃ t, exec (.ifdRunStop c) s = .next t ∧ t.bit ctrl 0 = false ∧ (t.det d).stopReq = (!s.ifdStopped d) ∧
      (t.det d).startReq = false ∧ t.bit ctrl 31 = (!s.ifdStopped d) ∧ Others t ∧ OnlyRegs s t [ctrl] ∧
        t = { s with regs := t.regs, dets := t.dets }) ∧
    (s.ifdLocked d = false → ∃ t, exec (.ifdRunStart c) s = .next t ∧ t.bit ctrl 0 = true ∧ (t.det d).startReq = s.ifdStopped d ∧
      (t.det d).stopReq = false ∧ t.bit ctrl 31 = s.ifdStopped d ∧ Others t ∧ OnlyRegs s t [ctrl] ∧ t = { s with regs := t.regs, dets := t.dets }) ∧
    (x.stopReq = true → ∃ t, exec (.ifdStopApply c) s = .next t ∧ t.ifdStopped d = true ∧ t.bit stat 0 = false ∧ t.fld stat 31 18 = 0 ∧
      t.fld stat 7 4 = 0 ∧ (t.det d).stopReq = false ∧ (t.det d).lastTrue = none ∧ (t.det d).crit = 0 ∧ OthersAf t ∧
        t = { s with regs := t.regs, ended := t.ended, supPend := t.supPend, tally := t.tally, buckets := t.buckets, pins := t.pins, dets := t.dets, cans := t.cans, eth := t.eth, lines := t.lines })
        ∧
    (x.startReq = true → ∃ t, exec (.ifdRestartApply c) s = .next t ∧ t.ifdStopped d = false ∧ t.ifdLocked d = true ∧
      t.eff (Reg.CL_ROLE d) = s.rd (Reg.CL_ROLE d) ∧ (t.det d).startReq = false ∧ (t.det d).key = false ∧ (t.det d).lastTrue = none ∧
      t.bit Reg.INT_STAT_LO d = true ∧ Others t ∧ OnlyRegsSig s t [ctrl] ∧
        t = { s with regs := t.regs, supPend := t.supPend, tally := t.tally, buckets := t.buckets, dets := t.dets, inForce := t.inForce })) ∧
  (∀ (s : State) (c : Fin 16) (ch : Fin 48) (on light : Bool) (n : Fin 32) (k : Fin 4) (tb : Fin 8) (w : Fin 65) (off : BitVec 20) (v : Word),
    let d := c.val
    let x := s.det d
    let Denied (i : Instr) : Prop := ∃ t, exec i s = .next t ∧ t.bit (Reg.CRV_STAT d) 0 = true ∧ t.bit Reg.INT_STAT_LO d = true ∧
      OnlyRegsSig s t [Reg.CRV_STAT d] ∧ t = { s with regs := t.regs, supPend := t.supPend, tally := t.tally, buckets := t.buckets }
    let Stores (i : Instr) (a : Nat) (y : Word) : Prop := ∃ t, exec i s = .next t ∧ t.rd a = y ∧ OnlyRegs s t [a] ∧ t = { s with regs := t.regs }
    let head := [Reg.WF_H0 d, Reg.WF_H0 d + 4, Reg.WF_H0 d + 8, Reg.WF_H0 d + 12, Reg.WF_STAT d]
    let Fifo (t : State) (l : List WfEntry) : Prop := (t.det d).wf = l ∧ t.fld (Reg.WF_STAT d) 4 0 = l.length % 32 ∧
      (∀ e l', l = e :: l' → ∀ i, i < 4 → t.rd (Reg.WF_H0 d + 4 * i) = e.words.getD i 0) ∧ (∀ m, m ≠ d → t.det m = s.det m) ∧ OnlyRegs s t head ∧
      t = { s with regs := t.regs, dets := t.dets, freeCtr := t.freeCtr }
    let crvOk := if k.val = 0 then decide (field v 3 0 ≠ 7) && decide (field v 5 4 ≠ 3) else if k.val = 1 then wordIn 0x3C23D70A 0x41A00000 v
      else if k.val = 2 then wordIn 0x3F866666 0x40800000 v else wordIn 0x3F000000 0x3F800000 v
    let at_ := off.toNat / 4 * 4
    (∃ t, exec (.lightInputEdge ch on) s = .next t ∧ t.light.getLsbD ch.val = on ∧ (∀ m, m ≠ ch.val → t.light.getLsbD m = s.light.getLsbD m) ∧
      t = { s with field_ := t.field_, freeCtr := t.freeCtr, regs := t.regs, ended := t.ended, supPend := t.supPend, tally := t.tally, buckets := t.buckets, pins := t.pins, dets := t.dets, light := t.light, cans := t.cans, eth := t.eth, lines := t.lines })
        ∧
    (∀ a, (if light then x.lightFall else x.gFall) = some a → s.tb.cnt ≤ a + s.fld (Reg.AF_CFG d) 10 0 * 250 →
      ∃ t, exec (.coinWindowExpiry c light) s = .next t ∧ t.tb.cnt = a + s.fld (Reg.AF_CFG d) 10 0 * 250 ∧
        t = { s with regs := t.regs, ended := t.ended, supPend := t.supPend, tally := t.tally, buckets := t.buckets, tb := t.tb, pins := t.pins, dets := t.dets, cans := t.cans, eth := t.eth, lines := t.lines })
        ∧
    ((if light then x.lightFall else x.gFall) = none → exec (.coinWindowExpiry c light) s = .next s) ∧
    (∃ t, exec (.wfPop c) s = .next t ∧ Fifo t (x.wf.drop 1)) ∧ (∃ t, exec (.wfFlush c) s = .next t ∧ Fifo t []) ∧
    (bitAt v 31 = true → field v 21 16 ≤ 47 → s.owner (fioRes (field v 21 16)) ≠ 3 → ∃ t, exec (.afCfgWrite c v) s = .next t ∧
      t.bit (Reg.FPD_STAT d) 11 = true ∧ t.rd (Reg.AF_CFG d) = s.rd (Reg.AF_CFG d) ∧ t.dets = s.dets ∧ OnlyRegsSig s t [Reg.FPD_STAT d]) ∧
    (47 < field v 21 16 → Denied (.afCfgWrite c v)) ∧
    (bitAt v 31 = false ∨ s.owner (fioRes (field v 21 16)) = 3 → field v 21 16 ≤ 47 → field v 10 0 ≤ 2000 → ∃ t, exec (.afCfgWrite c v) s = .next t ∧
      t.rd (Reg.AF_CFG d) = v &&& 0x803F07FF ∧
        t = { s with regs := t.regs, ended := t.ended, supPend := t.supPend, tally := t.tally, buckets := t.buckets, pins := t.pins, dets := t.dets, cans := t.cans, eth := t.eth, lines := t.lines })
        ∧
    (crvOk = true → Stores (.crvSettingWrite c n k v) (Reg.CRV_MODE d n.val + 4 * k.val) (if k.val = 0 then v &&& 0xFFFFFF3F else v)) ∧
    (crvOk = false → Denied (.crvSettingWrite c n k v)) ∧
    (s.tblUsed d tb.val = false → wordIn 0x00800000 0x7F800000 v = true → Stores (.userTableWrite c tb w v) (tblKeyOf d tb.val w.val) v) ∧
    (s.tblUsed d tb.val = false → wordIn 0x00800000 0x7F800000 v = false → Denied (.userTableWrite c tb w v)) ∧
    (s.tblUsed d tb.val = true → ∃ t, exec (.userTableWrite c tb w v) s = .next t ∧ t.bit (Reg.CRV_STAT d) 1 = true ∧
      OnlyRegsSig s t [Reg.CRV_STAT d] ∧ t.rd (tblKeyOf d tb.val w.val) = s.rd (tblKeyOf d tb.val w.val)) ∧
    (at_ < 0x80000 ∨ 0x92000 ≤ at_ → exec (.primCfgWrite c off v) s = .next s) ∧
    (∀ m : Fin 7, at_ = (if m.val = 6 then 0x8002C else 0x80008 + 4 * m.val) → exec (.primCfgWrite c off v) s = exec (.ifdLockedWrite c m v) s) ∧
    (at_ = 0x80004 → exec (.primCfgWrite c off v) s = exec (.ifdKeyWrite c v) s) ∧
    (at_ = 0x80028 → exec (.primCfgWrite c off v) s = exec (.clRoleWrite c v) s) ∧
    (at_ = 0x80124 → exec (.primCfgWrite c off v) s = exec (.afCfgWrite c v) s) ∧
    (at_ = 0x90000 + 0x10 * n.val + 4 * k.val → exec (.primCfgWrite c off v) s = exec (.crvSettingWrite c n k v) s) ∧
    (at_ = 0x90400 + 0x104 * tb.val + 4 * w.val → exec (.primCfgWrite c off v) s = exec (.userTableWrite c tb w v) s) ∧
    (0x91000 ≤ at_ → at_ < 0x91600 → primOk at_ v = false → Denied (.primCfgWrite c off v)) ∧
    ((0x91000 ≤ at_ ∧ at_ < 0x91600 ∧ primOk at_ v = true) ∨ (0x80100 ≤ at_ ∧ at_ < 0x80120) → ∃ t, exec (.primCfgWrite c off v) s = .next t ∧ t = { s with regs := t.regs } ∧
      OnlyRegs s t [clusterKey d at_] ∧ (∀ row, regRow (clusterKey d at_) = some row → t.rd (clusterKey d at_) = row.write (s.rd (clusterKey d at_))
        v)) ∧
    (Memory.wf s = true → ∃ t, exec (.primSettingsApply c) s = .next t ∧ (∀ a, primSetting d a = true → t.eff a = s.rd a) ∧
      (∀ a, primSetting d a = false → t.eff a = s.eff a) ∧ t = { s with inForce := t.inForce }))

/-! ### Trip lines (chapter 08) -/

/-- Pulse ends and breaker failure (R269, R277): with its source gone an energised line in pulse mode 0 ends when its minimum has passed; any
energised line ends at 3 s with the maximum's flag; a breaker-failure timer at T_BF operates. A line whose image claim has ended is left out, for
it stops at IDLE (R283). Configuration, key, start and stop of a trip line (R276, R280 to R282): a refused write is reported and changes nothing
of the line.
It rests on the model's readings in log entries 28, 110 and 153. -/
def Obligations.TripLines : Prop :=
  (∀ (s : State) (n : Fin 64), 0x4000 + n.val ∉ s.ended →
    let k := n.val
    let now := (s.line k).grantAt
    (s.tlState k = 3 → s.fld (Reg.TL_PULSE k) 31 30 = 0 → s.tlActive k = none → s.tlOpen k = false → s.tb.cnt ≤ now + s.tlMin k →
      ∃ t, exec (.tlMinElapsed n) s = .next t ∧ t.tlState k = 1 ∧ (t.line k).cause = 3 ∧ t.bit Reg.INT_STAT_HI 6 = true ∧
      t.tb.cnt = now + s.tlMin k ∧
        t = { s with regs := t.regs, ended := t.ended, supPend := t.supPend, tally := t.tally, buckets := t.buckets, tb := t.tb, pins := t.pins, dets := t.dets, cans := t.cans, eth := t.eth, lines := t.lines })
        ∧
    (s.tlState k ≠ 3 → exec (.tlMinElapsed n) s = .next s ∧ exec (.tlMaxElapsed n) s = .next s) ∧
    (s.tlState k = 3 → s.tb.cnt ≤ now + tlMax → ∃ t, exec (.tlMaxElapsed n) s = .next t ∧
      t.tlState k = (if (s.tlActive k).isSome then 4 else 1) ∧ (t.line k).cause = 1 ∧ t.bit (Reg.TL_FLAG k) 3 = true ∧
      t.bit Reg.INT_STAT_HI 6 = true ∧ t.tb.cnt = now + tlMax ∧
        t = { s with regs := t.regs, ended := t.ended, supPend := t.supPend, tally := t.tally, buckets := t.buckets, tb := t.tb, pins := t.pins, dets := t.dets, cans := t.cans, eth := t.eth, lines := t.lines })
        ∧
    (s.bfState k = 1 → s.fld (Reg.TL_BF k) 12 0 ≤ s.fld (Reg.TL_STAT k) 12 0 → ∃ t, exec (.bfTimerExpiry n) s = .next t ∧ t.bfState k = 2 ∧
      t.bit Reg.INT_STAT_HI 6 = true ∧
        t = { s with regs := t.regs, ended := t.ended, supPend := t.supPend, tally := t.tally, buckets := t.buckets, pins := t.pins, dets := t.dets, cans := t.cans, eth := t.eth, lines := t.lines })
        ∧
    (s.bfState k ≠ 1 ∨ s.fld (Reg.TL_STAT k) 12 0 < s.fld (Reg.TL_BF k) 12 0 → exec (.bfTimerExpiry n) s = .next s)) ∧
  (∀ (s : State) (r : Req) (n : Fin 64) (j : Fin 9) (v : Word),
    let k := n.val
    let key := 0x18000 + (j.val * 0x100 + 4 * k)
    let stat := Reg.TL_STAT k
    let Reported (t : State) (bit : Nat) (xs : List Nat) : Prop := t.bit Reg.TRIP_STAT bit = true ∧ t.bit Reg.INT_STAT_HI 6 = true ∧
      OnlyRegsSig s t (Reg.TRIP_STAT :: xs) ∧ t = { s with regs := t.regs, supPend := t.supPend, tally := t.tally, buckets := t.buckets }
    let denied (i : Instr) : Prop := s.served r = true → ∃ t, exec i s = .next t ∧ Reported t 2 []
    (s.tlMay r k = false → denied (.tlConfigWrite r n j v) ∧ denied (.tlRunSet r n) ∧ denied (.tlRunClear r n)) ∧
    (s.tlRunning k = true ∨ tlRangeBad j.val v = true → denied (.tlConfigWrite r n j v)) ∧
    (j.val = 4 → s.bit stat 26 = false → field v 31 30 = 2 ∨ bitAt v 29 = true → denied (.tlConfigWrite r n j v)) ∧
    (s.tlMay r k = true → s.tlRunning k = false → tlRangeBad j.val v = false →
      ¬ (j.val = 4 ∧ s.bit stat 26 = false ∧ (field v 31 30 = 2 ∨ bitAt v 29 = true)) →
      s.served r = true → ∃ t, exec (.tlConfigWrite r n j v) s = .next t ∧ (j.val ≠ 2 → j.val < 4 ∨ j.val = 7 → t.rd key = v) ∧
      (j.val = 4 → t.rd key = v &&& 0xE000FFFF) ∧ (j.val = 5 → t.rd key = v &&& 0xFFC003FF) ∧ (j.val = 6 → t.rd key = v &&& 0xBFF01FFF) ∧
      OnlyRegs s t [key] ∧ t = { s with regs := t.regs }) ∧
    (let m := field v 21 16
     (s.tlMay r m = false → denied (.tripKeyWrite r v)) ∧
     (s.tlMay r m = true → field v 15 0 = 0x96E1 → s.served r = true → ∃ t, exec (.tripKeyWrite r v) s = .next t ∧ t = { s with tripKey := some m }) ∧
     (s.tlMay r m = true → field v 15 0 = 0x1E69 → s.tripKey = some m → s.served r = true → ∃ t, exec (.tripKeyWrite r v) s = .next t ∧ t.tripKey = none ∧
      t.bit (Reg.TL_STAT m) 26 = true ∧ t.bit Reg.INT_STAT_HI 6 = true ∧ OnlyRegsSig s t [Reg.TL_STAT m]) ∧
     (s.tlMay r m = true → field v 15 0 ≠ 0x96E1 → field v 15 0 ≠ 0 → ¬ (field v 15 0 = 0x1E69 ∧ s.tripKey = some m) →
      s.served r = true → ∃ t, exec (.tripKeyWrite r v) s = .next t ∧ t.tripKey = none ∧ t.bit Reg.TRIP_STAT 3 = true ∧ OnlyRegsSig s t [Reg.TRIP_STAT])) ∧
    (s.tlMay r k = true → s.tlRunning k = true → s.served r = true → exec (.tlRunSet r n) s = .next s) ∧
    (∀ reason res, s.tlMay r k = true → s.tlRunning k = false → s.tlStartFail k = some (reason, res) →
      s.served r = true → ∃ t, exec (.tlRunSet r n) s = .next t ∧ t.bit (Reg.TL_FLAG k) 1 = true ∧ t.tlRunning k = false ∧ Reported t 1 [Reg.TL_FLAG k]) ∧
    (s.tlMay r k = true → s.tlRunning k = false → s.tlStartFail k = none → 0x4000 + n.val ∉ s.ended → s.served r = true → ∃ t, exec (.tlRunSet r n) s = .next t ∧
      t.pairBit Reg.TL_RUN_LO k = true ∧ t.bit stat 26 = false ∧ (s.tlActive k = none → t.tlState k = 1) ∧
        t = { s with regs := t.regs, ended := t.ended, supPend := t.supPend, tally := t.tally, buckets := t.buckets, pins := t.pins, dets := t.dets, cans := t.cans, eth := t.eth, lines := t.lines })
        ∧
    (s.tlMay r k = true → s.tlRunning k = false → s.served r = true → exec (.tlRunClear r n) s = .next s) ∧
    (s.tlMay r k = true → s.tlState k = 1 → s.bfState k = 0 → 0x4000 + n.val ∉ s.ended → s.served r = true → ∃ t, exec (.tlRunClear r n) s = .next t ∧ t.tlRunning k =
      false ∧
      t.tlState k = 0 ∧
        t = { s with regs := t.regs, ended := t.ended, supPend := t.supPend, tally := t.tally, buckets := t.buckets, pins := t.pins }) ∧
    (s.tlMay r k = true → s.tlRunning k = true → s.tlState k ≠ 1 ∨ s.bfState k ≠ 0 → s.served r = true → ∃ t, exec (.tlRunClear r n) s = .next t ∧
      t.tlRunning k = true ∧ Reported t 4 []))

/-! ### The Lathe (chapter 09) -/

/-- The turns of the Lathe (R288 to R298): start with its latch, program start, commit, overrun and halt.
It rests on the model's readings in log entries 71 and 78. -/
def Obligations.LatheTurns : Prop :=
  ∀ (s : State) (i : LImage), s.lthImg s.lthHalf = some i →
    let l := s.lathe
    let k := s.core 18
    let turn := if l.ran then (l.turn + 1) % 2 ^ 64 else 0
    let n := s.fld Reg.LTH_STAT 27 26
    let Halted (t : State) (kind : Nat) : Prop := t.lthState = 2 ∧ t.fld Reg.LTH_HALT 31 28 = kind ∧ t.lathe.phase = .none ∧
      (t.core 18).run = .idle ∧ t.bit Reg.INT_STAT_LO 30 = true ∧ t.bit Reg.LTH_RCK 3 = false ∧ t.bit Reg.LTH_RCK 2 = false ∧
      (∀ m, m ≠ 18 → t.core m = s.core m) ∧ t.mram = s.mram
    (s.turnDue i.turnP = true → l.skip = false → ∃ t, exec .turnStart s = .next t ∧ t.lathe.phase = .latched ∧ t.lathe.turn = turn ∧
      t.lathe.lastLatch = some s.tb.cnt ∧ t.lathe.flags = 0 ∧ t.lathe.nextRun = s.tick.runs + i.turnP ∧ t.rd Reg.LTH_TURN_LO = w32 turn ∧
      t.rd (lthIn 0) = w32 turn ∧ t.fio.rise = 0 ∧ t.fio.fall = 0 ∧
        t = { s with regs := t.regs, supPend := t.supPend, tally := t.tally, buckets := t.buckets, fio := t.fio, lathe := t.lathe, meter := t.meter })
        ∧
    (s.turnDue i.turnP = true → l.skip = true → ∃ t, exec .turnStart s = .next t ∧ t.lathe.phase = .skipped ∧ t.lathe.turn = turn ∧
      t.lathe.skip = false ∧ t.lathe.lastLatch = l.lastLatch ∧ OnlyRegs s t [Reg.LTH_TURN_LO, Reg.LTH_RCK] ∧
        t = { s with regs := t.regs, lathe := t.lathe }) ∧
    (s.turnDue i.turnP = false → exec .turnStart s = .next s) ∧
    (l.phase = .latched → ∃ t, exec .lthProgramStart s = .next t ∧ t.lathe = { l with phase := .program } ∧ (t.core 18).pc = i.entry ∧
      (t.core 18).run = .active ∧ (t.core 18).loops = [] ∧ (t.core 18).rets = [] ∧ (t.core 18).g = k.g ∧ (∀ m, m ≠ 18 → t.core m = s.core m) ∧
      t = { s with cores := t.cores, lathe := t.lathe }) ∧
    (l.phase = .program → k.run = .ended → ∃ t, exec .turnDeadline s = .next t ∧ t.lathe.phase = .past ∧
      t.rd Reg.LTH_CYC_LAST = w32 (2400 + k.endCyc) ∧ t.fld Reg.LTH_STAT 27 26 = 0 ∧
      (s.bit Reg.LTH_RCK 3 = false → s.bit Reg.LTH_RCK 4 = false → t.rd (lthOutKey 0) = s.rd (lthOut 0) ∧ t.rd (lthOutKey 1) = s.rd (lthOut 1)) ∧
      t.rd Reg.LTH_BITS = s.rd (lthOut 2) ∧ t.cores = s.cores ∧
        t = { s with regs := t.regs, mram := t.mram, claims := t.claims, ended := t.ended, supPend := t.supPend, tally := t.tally, buckets := t.buckets, pins := t.pins, dets := t.dets, cores := t.cores, cans := t.cans, eth := t.eth, lines := t.lines, lathe := t.lathe, pair := t.pair })
        ∧
    (l.phase = .latched ∨ (l.phase = .program ∧ k.run ≠ .ended) → n < 2 → ∃ t, exec .turnDeadline s = .next t ∧ t.lathe.phase = .past ∧
      t.lathe.skip = true ∧ t.fld Reg.LTH_STAT 27 26 = n + 1 ∧ t.bit Reg.LTH_STAT 22 = true ∧ t.lthState = s.lthState ∧
      t.fld Reg.LTH_OVR_CNT 31 0 = min 4294967295 (s.fld Reg.LTH_OVR_CNT 31 0 + 1) ∧ (t.core 18).run = .idle ∧ t.bit Reg.INT_STAT_LO 30 = true ∧
      (∀ w, t.rd (lthOutKey w) = s.rd (lthOutKey w)) ∧ t.mram = s.mram) ∧
    (l.phase = .latched ∨ (l.phase = .program ∧ k.run ≠ .ended) → n = 2 → ∃ t, exec .turnDeadline s = .next t ∧ Halted t 1) ∧
    (l.phase = .skipped → ∃ t, exec .turnDeadline s = .next t ∧ t = { s with lathe := { l with phase := .past } }) ∧
    (s.lthRunning = true → ∃ t, exec .lthHaltCmd s = .next t ∧ Halted t 4) ∧ (s.lthRunning = true → ∃ t, exec .lthLockstepMismatch s = .next t ∧
      Halted t 3) ∧
    (s.lthRunning = false → exec .lthHaltCmd s = .next s ∧ exec .lthLockstepMismatch s = .next s)

/-- Images of the Lathe (R310 to R316): loading, validation, the armed switch and its revert window, and the starts.
It rests on the model's readings in log entries 65, 71, 77, 79 and 154. -/
def Obligations.LatheImagesAndStarts : Prop :=
  ∀ s : State,
    let l := s.lathe
    let h := s.lthHalf
    let rck (n : Nat) (b : Bool) : Prop := s.bit Reg.LTH_RCK n = b
    let Refused (i : Instr) : Prop := ∃ t, exec i s = .next t ∧ t.bit Reg.LTH_STAT 21 = true ∧ OnlyRegs s t [Reg.LTH_STAT] ∧
      t = { s with regs := t.regs }
    let Started (t : State) (kind : Nat) : Prop := t.lthState = 1 ∧ t.fld Reg.LTH_STAT 29 28 = kind ∧ t.fld Reg.LTH_STAT 27 26 = 0 ∧ t.lthHalf = h ∧
      t.lathe.turn = 0 ∧ t.lathe.ran = false ∧ t.lathe.phase = .none ∧ t.lathe.flushAll = 2 ∧ t.rd Reg.LTH_TURN_LO = 0 ∧
      t.rd Reg.LTH_BITS = 0 ∧ t.bit Reg.INT_STAT_LO 30 = true ∧ t.mram = s.mram
    (rck 0 true ∨ rck 3 true → Refused .lthLoadValidate) ∧
    (rck 0 false → rck 3 false → ∃ t, exec .lthLoadValidate s = .next t ∧ t.lathe.loading = true ∧
      t.lathe.loadBase = s.fld Reg.LTH_IMG_ADDR 22 6 * 64 ∧ t.bit Reg.LTH_RCK 0 = true ∧ t.bit Reg.LTH_RCK 1 = false ∧ t.lthImg (1 - h) = none ∧
      t.lthImg h = s.lthImg h ∧
        t = { s with regs := t.regs, claims := t.claims, ended := t.ended, supPend := t.supPend, tally := t.tally, buckets := t.buckets, pins := t.pins, lathe := t.lathe })
        ∧
    (l.loading = true → ∃ t, exec .lthValidationDone s = .next t ∧ t.lathe.loading = false ∧ t.bit Reg.LTH_RCK 0 = false ∧
      OnlyRegsSig s t [Reg.LTH_RCK, Reg.LTH_VAL] ∧
      (s.lthVerdict l.loadBase = none → t.bit Reg.LTH_RCK 1 = true ∧ t.lthImg (1 - h) = some (s.lthImage l.loadBase) ∧ t.lthImg h = s.lthImg h ∧
        t.rd Reg.LTH_VAL = 0 ∧ OnlyRegs s t [Reg.LTH_RCK, Reg.LTH_VAL] ∧ t = { s with regs := t.regs, lathe := t.lathe }) ∧
      (∀ r d, s.lthVerdict l.loadBase = some (r, d) → t.bit Reg.LTH_RCK 5 = true ∧ t.bit Reg.LTH_RCK 1 = s.bit Reg.LTH_RCK 1 ∧
        t.rd Reg.LTH_VAL = w32 (r * 0x1000000 + d) ∧ t.bit Reg.INT_STAT_LO 31 = true ∧ t.lathe.imgs = l.imgs)) ∧
    (∀ i, s.lthImg (1 - h) = some i → rck 1 true → s.lthRunning = true → rck 4 false → s.fld Reg.LTH_CFG 31 30 ≠ 1 ∨ 4800 % i.turnP = 0 →
      ∃ t, exec .lthArm s = .next t ∧ t.bit Reg.LTH_RCK 3 = true ∧ t.lathe.armIdx = (if s.bit Reg.LTH_SW_AT 31
        then some (s.tickNo + (s.fld Reg.LTH_SW_AT 12 0 + 4800 - s.tick.idx) % 4800) else none) ∧ t.lathe.imgs = l.imgs ∧ t.mram = s.mram) ∧
    (s.lthImg (1 - h) = none ∨ rck 1 false ∨ s.lthRunning = false ∨ rck 4 true → Refused .lthArm) ∧
    (rck 3 true → ∃ t, exec .lthDisarm s = .next t ∧ t.bit Reg.LTH_RCK 3 = false ∧ t.bit Reg.INT_STAT_LO 31 = true ∧ t.lathe = l ∧
      OnlyRegsSig s t [Reg.LTH_RCK]) ∧ (rck 3 false → exec .lthDisarm s = .next s) ∧
    (rck 2 true → s.fld Reg.LTH_RCK 31 22 ≠ 0 → s.lthRunning = true → ∃ t, exec .lthRevert s = .next t ∧ t.bit Reg.LTH_RCK 4 = true ∧
      OnlyRegs s t [Reg.LTH_RCK] ∧ t = { s with regs := t.regs }) ∧
    (rck 2 false ∨ s.fld Reg.LTH_RCK 31 22 = 0 ∨ s.lthRunning = false → Refused .lthRevert) ∧
    (rck 2 true → rck 4 false → s.fld Reg.LTH_RCK 31 22 = 0 → ∃ t, exec .revertWindowClose s = .next t ∧ t.bit Reg.LTH_RCK 2 = false ∧ t.bit Reg.LTH_RCK 4 = false ∧
      t.lathe = { l with oldClaims := [] } ∧ t.bit Reg.INT_STAT_LO 31 = true ∧
        t = { s with regs := t.regs, claims := t.claims, ended := t.ended, supPend := t.supPend, tally := t.tally, buckets := t.buckets, pins := t.pins, lathe := t.lathe })
        ∧
    (rck 2 false ∨ rck 4 true ∨ s.fld Reg.LTH_RCK 31 22 ≠ 0 → exec .revertWindowClose s = .next s) ∧
    (s.lthRunning = true → exec .lthStart s = .next s) ∧ (s.lthRunning = false → rck 1 false → s.lthImg h = none → Refused .lthStart) ∧
    (∀ i, s.lthRunning = false → rck 1 false → s.lthImg h = some i → s.fld Reg.LTH_CFG 31 30 ≠ 1 ∨ 4800 % i.turnP = 0 →
      (∀ c, s.warmCopy i = some c → s.fld Reg.LTH_CTRL 31 30 ≠ 2 → ∃ t, exec .lthStart s = .next t ∧ Started t 1) ∧
      (s.warmCopy i = none → s.fld Reg.LTH_CTRL 31 30 ≠ 1 → ∃ t, exec .lthStart s = .next t ∧ Started t 2) ∧
      (s.warmCopy i = none → s.fld Reg.LTH_CTRL 31 30 = 1 → ∃ t, exec .lthStart s = .next t ∧ t.bit Reg.LTH_STAT 24 = true ∧ t.lthState = s.lthState ∧
        t.lathe = l ∧ OnlyRegsSig s t [Reg.LTH_STAT]))

/-- The retained partition's flush, the metering snapshot, the alarms the Lathe names, and its turn number (R304 to R306, R317 to R319).
It rests on the model's readings in log entries 75 and 76. -/
def Obligations.LatheFlushMeteringAndConfiguration : Prop :=
  ∀ (s : State) (v : Word) (r : Req),
    let l := s.lathe
    (∀ f, l.flush = some f → l.waiting = none → f.copy < 2 →
      (∃ t, exec (.retainedFlushDone none) s = .next t ∧ t.bit Reg.LTH_RET f.copy = true ∧ t.fld Reg.LTH_RET 3 3 = f.copy ∧
        t.fld Reg.LTH_RET 23 16 = 0 ∧ t.bit Reg.LTH_RET 2 = false ∧ t.lathe.flush = none ∧
        t.lathe = { l with flush := none, pdirty := if f.half = s.lthHalf then l.pdirty ||| 2 ^ 960 else l.pdirty } ∧
        (∀ j, j < (s.retHeader f).length → t.mb (retAddr f.copy + j) = (s.retHeader f).getD j 0) ∧
        (∀ a, a < retAddr f.copy ∨ retAddr f.copy + 1024 ≤ a → t.mb a = s.mb a)) ∧
      (∀ a, ∃ t, exec (.retainedFlushDone (some a)) s = .next t ∧ t.bit Reg.LTH_RET f.copy = false ∧ t.fld Reg.LTH_RET 23 16 = 0 ∧ t.bit Reg.LTH_RET
        2 = false ∧ t.lathe.flush = none ∧
        t.lathe = { l with flush := none, rewrite := l.rewrite ||| 2 ^ f.copy } ∧ t.mram = s.mram ∧ t.bit Reg.INT_STAT_LO 30 = true)) ∧
    (∀ f w, l.flush = some f → l.waiting = some w → w.copy = f.copy → f.copy < 2 → ∀ a, ∃ t, exec (.retainedFlushDone (some a)) s = .next t ∧
      (∃ g, t.lathe.flush = some g ∧ g.copy = w.copy ∧ ∀ p, p < w.ret → p < 64 → g.pages.testBit p = true)) ∧
    (∀ sec x e last, s.meter.req = some (sec, x, e, last) → last ≤ s.tickNo → ∃ t, exec .meterSnapshot s = .next t ∧
      t.fld Reg.METER_STAT 15 0 = (s.fld Reg.METER_STAT 15 0 + 1) % 65536 ∧ t.meter.req = none ∧ t.meter.ready = true ∧
      t.meter.words.take 3 = [w32 ((s.fld Reg.METER_STAT 15 0 + 1) % 65536), w32 sec, w32 (e * 0x1000000)] ∧
      (∀ k, k < 48 → t.meter.words.getD (4 + k) 0 = s.rd (Reg.FIO_PSNAP k)) ∧ OnlyRegsSig s t [Reg.METER_STAT] ∧
        t = { s with regs := t.regs, supPend := t.supPend, tally := t.tally, buckets := t.buckets, meter := t.meter }) ∧
    (∀ sec x e last, s.meter.req = some (sec, x, e, last) → s.tickNo < last → exec .meterSnapshot s = .next s) ∧
    (let Denied (i : Instr) : Prop := ∃ t, exec i s = .next t ∧ t.bit Reg.LTH_STAT 21 = true ∧ t.bit Reg.INT_STAT_LO 30 = true ∧
       OnlyRegs s t [Reg.LTH_STAT, Reg.INT_STAT_LO] ∧ t = { s with regs := t.regs, supPend := t.supPend }
     let Stored (i : Instr) (a : Nat) (m : Word) : Prop := ∃ t, exec i s = .next t ∧ t.rd a &&& m = v &&& m ∧ t.rd a &&& ~~~ m = s.rd a &&& ~~~ m ∧
       OnlyRegs s t [a] ∧ t = { s with regs := t.regs }
     let own := s.owner (0x2000 + field v 27 24)
     (field v 31 30 = 2 → own ≠ 0x02 → Denied (.lthCfgWrite v)) ∧ (field v 31 30 ≠ 2 ∨ own = 0x02 → Stored (.lthCfgWrite v) Reg.LTH_CFG 0xCF000000) ∧
     (own ≠ 0x02 → Denied (.meterCfgWrite v)) ∧
     (own = 0x02 → Stored (.meterCfgWrite v) Reg.METER_CFG 0x8FF0FFFF)) ∧
    (s.served r = true → ∃ t, exec (.lthTurnLoRead r) s = .next t ∧ t.answered r = w32 l.turn ∧ t.snap r Reg.LTH_TURN_HI = w32 (l.turn / 4294967296) ∧
      t = { s with rsp := t.rsp, snaps := t.snaps })

/-! ### Recorders (chapter 10) -/

/-- Frames and records of a recorder (R323 to R335): a frame lies at its slot and nothing else of the store changes; a trigger opens or extends a
record or is refused; a record closes and is released. The wideband SRAM's freeze and copy, and the start, scan, stop and configuration of a
recorder (R341 to R344, R360, R361).
It rests on the model's readings in log entries 81, 82, 83, 84, 85, 156, 187 and 188. -/
def Obligations.RecorderRecordsAndCopies : Prop :=
  (∀ (s : State) (j : Fin 4) (r : Req),
    let i := j.val
    let u := s.rcu i
    let stat := Reg.REC_STAT i
    let shown := [stat, Reg.REC_SEG i, Reg.STORE_USED_LO, Reg.STORE_USED_HI]
    let Denied (c : Instr) : Prop := s.served r = true → ∃ t, exec c s = .next t ∧ t.bit stat 3 = true ∧ t.bit Reg.INT_STAT_HI (2 + i) = true ∧ t.recs = s.recs ∧
      t.mram = s.mram ∧ OnlyRegsSig s t [stat]
    let Others (t : State) : Prop := ∀ n, n ≠ i → t.rcu n = s.rcu n
    (∀ k seg, s.nextSnap u = some k → s.recRunning i = true → k.no < s.tick.runs → u.cur = none → u.ring = some seg →
      let n := (s.recChans i).length
      let gap := u.gap || decide (u.next < k.no)
      let marks := ((u.marks.filter (fun m => decide (m.1 = u.ord))).map (·.2)).foldl Nat.lor 0 + 2 * b2n gap + 4 * b2n k.step +
        16 * b2n (u.gaugeAt.contains k.no)
      let b := wordBytes (s.frameWords i k marks)
      let a := segBase seg + slotAt (segFrames n) n u.ord u.segOrd
      (∃ t, exec (.recFrameWrite j true) s = .next t ∧ (∀ x, x < b.length → a + x < 0x4000000 → t.mb (a + x) = b.getD x 0) ∧
        (∀ x, x < a ∨ a + b.length ≤ x → t.mb x = s.mb x) ∧ (t.rcu i).ord = u.ord + 1 ∧ (t.rcu i).next = k.no + 1 ∧
        (t.rcu i).lastTick = tickAbs k.sec k.idx ∧ (t.rcu i).gap = false ∧ Others t ∧ OnlyRegs s t shown) ∧
      (∃ t, exec (.recFrameWrite j false) s = .next t ∧ (∀ x, x < a ∨ a + b.length ≤ x → t.mb x = s.mb x) ∧
        (a + b.length ≤ 0x4000000 → t.mb (a + b.length - 4) = ~~~ (b.getD (b.length - 4) 0)) ∧ (t.rcu i).ord = u.ord + 1 ∧ (t.rcu i).gap = true ∧
        t.fld Reg.STORE_MEDIA 31 16 = min 65535 (s.fld Reg.STORE_MEDIA 31 16 + 1) ∧ t.bit stat 6 = true ∧ Others t ∧
        OnlyRegsSig s t (Reg.STORE_MEDIA :: shown))) ∧
    (∀ k x, s.nextSnap u = some k → s.recRunning i = true → k.no < s.tick.runs → u.cur = some x → u.ord + 1 < x.stop →
      let n := (s.recChans i).length
      let marks := ((u.marks.filter (fun m => decide (m.1 = u.ord))).map (·.2)).foldl Nat.lor 0 + 2 * b2n (u.gap || decide (u.next < k.no)) +
        4 * b2n k.step + 16 * b2n (u.gaugeAt.contains k.no)
      let b := wordBytes (s.frameWords i k marks)
      let full := if x.chain.length = 1 then x.start + x.sf ≤ u.ord else u.segOrd + x.sf ≤ u.ord
      let room := x.chain.length < 8 ∧ 2 ≤ (s.recFree i).length
      (¬ full → ∀ seg, x.chain.getLast? = some seg → let a := segBase seg + slotAt (segFrames n) n u.ord u.segOrd
        ∃ t, exec (.recFrameWrite j true) s = .next t ∧ (t.rcu i).cur = some x ∧ (∀ y, y < b.length → a + y < 0x4000000 → t.mb (a + y) = b.getD y 0) ∧
          (∀ y, y < a ∨ a + b.length ≤ y → t.mb y = s.mb y) ∧ (t.rcu i).ord = u.ord + 1 ∧ Others t ∧ OnlyRegs s t shown) ∧
      (full → room → ∀ seg, (s.recFree i).head? = some seg → let a := segBase seg + 512
        ∃ t, exec (.recFrameWrite j true) s = .next t ∧ (t.rcu i).cur.map (·.chain) = some (x.chain ++ [seg]) ∧ (t.rcu i).segOrd = u.ord ∧
          (x.chain ≠ [] → SMap.get (fun _ => 0) (t.rcu i).use seg = 2) ∧ (∀ y, y < b.length → a + y < 0x4000000 → t.mb (a + y) = b.getD y 0) ∧
          (∀ y, y < segBase seg ∨ segBase seg + 0x100000 ≤ y → t.mb y = s.mb y) ∧ (t.rcu i).ord = u.ord + 1 ∧ Others t) ∧
      (full → ¬ room → ∃ t, exec (.recFrameWrite j true) s = .next t ∧ (t.rcu i).cur = none ∧
        (t.rcu i).recs = u.recs ++ [{ x with stop := min x.stop (max u.ord x.start), flags := Nat.lor x.flags 2 }] ∧ Others t)) ∧
    (∀ x, s.mayWrite r (0x5000 + i) = true → s.recRunning i = true → u.cur = some x →
      let at_ := s.frameAt i (tickOfNs (inNs (s.tb.sec, s.tb.ns))) s.epoch
      ((x.start : Int) ≤ at_ → at_ < x.stop → s.served r = true → ∃ t, exec (.recHostTrigger r j) s = .next t ∧ (t.rcu i).cur = some { x with
          stop := min (max x.stop (at_ + s.fld (Reg.REC_POST i) 17 0).toNat) (x.start + s.fld (Reg.REC_MAXLEN i) 17 0),
          retrig := x.retrig + 1, flags := Nat.lor x.flags 1 } ∧
        ((u.ord : Int) ≤ at_ → (t.rcu i).marks = u.marks ++ [(at_.toNat, 8)] ∧ t.mram = s.mram) ∧ t.tally = s.tally ∧ Others t ∧
        t = { s with mram := t.mram, recs := t.recs }) ∧
      ((x.stop : Int) ≤ at_ → s.served r = true → ∃ t, exec (.recHostTrigger r j) s = .next t ∧ t.bit stat 5 = true ∧
        t.fld (Reg.REC_CNT i) 31 16 = min 65535 (s.fld (Reg.REC_CNT i) 31 16 + 1) ∧ t.recs = s.recs ∧ t.mram = s.mram ∧
        OnlyRegsSig s t (Reg.REC_CNT i :: shown))) ∧
    (s.nextSnap u = none ∨ s.recRunning i = false → ∀ ok, exec (.recFrameWrite j ok) s = .next s) ∧
    (s.mayWrite r (0x5000 + i) = false → Denied (.recHostTrigger r j) ∧ Denied (.recRelease r j) ∧ Denied (.recRunStart r j) ∧ Denied (.recRunStop r
      j)) ∧
    (s.mayWrite r (0x5000 + i) = true → s.recRunning i = false → s.served r = true → exec (.recHostTrigger r j) s = .next s) ∧
    (∀ seg, s.mayWrite r (0x5000 + i) = true → s.recRunning i = true → u.cur = none → u.ring = some seg →
      (1 + s.recW i ≤ (s.recFree i).length → s.served r = true → ∃ t, exec (.recHostTrigger r j) s = .next t ∧ t.rd (Reg.REC_LAST i) = w32 u.ringSeq ∧
        t.fld (Reg.REC_CNT i) 15 0 = min 65535 (s.fld (Reg.REC_CNT i) 15 0 + 1) ∧ (t.rcu i).ring = none ∧ t.bit Reg.INT_STAT_HI (2 + i) = true ∧
        Others t ∧
          t = { s with regs := t.regs, mram := t.mram, supPend := t.supPend, mramErr := t.mramErr, tally := t.tally, buckets := t.buckets, recs := t.recs, wbs := t.wbs }) ∧
      ((s.recFree i).length < 1 + s.recW i → s.served r = true → ∃ t, exec (.recHostTrigger r j) s = .next t ∧ t.bit stat 5 = true ∧
        t.fld (Reg.REC_CNT i) 31 16 = min 65535 (s.fld (Reg.REC_CNT i) 31 16 + 1) ∧ t.recs = s.recs ∧ t.mram = s.mram ∧
        OnlyRegsSig s t (Reg.REC_CNT i :: shown))) ∧
    (let id := (s.rd (Reg.REC_ARG i)).toNat
     (∀ h, s.mayWrite r (0x5000 + i) = true → u.held.find? (fun x => x.1 = id) = some h → s.served r = true → ∃ t, exec (.recRelease r j) s = .next t ∧
       (t.rcu i).held = u.held.filter (fun x => decide (x.1 ≠ id)) ∧ (∀ seg, seg ∈ h.2 → SMap.get (fun _ => 0) (t.rcu i).use seg = 0) ∧
       (∀ seg, seg ∉ h.2 → SMap.get (fun _ => 0) (t.rcu i).use seg = SMap.get (fun _ => 0) u.use seg) ∧ t.bit Reg.INT_STAT_HI (2 + i) = true ∧
       Others t ∧ OnlyRegsSig s t shown) ∧
     (s.mayWrite r (0x5000 + i) = true → u.held.find? (fun x => x.1 = id) = none → Denied (.recRelease r j))) ∧
    (∀ x, u.recs.find? (fun x => x.wbWait.isEmpty) = some x →
      (∃ t, exec (.recClose j true) s = .next t ∧ (t.rcu i).recs = u.recs.filter (fun y => decide (y.id ≠ x.id)) ∧
        (t.rcu i).held = u.held ++ [(x.id, x.chain ++ x.wbHeld.map (·.2))] ∧ t.bit Reg.INT_STAT_HI (2 + i) = true ∧ Others t ∧ OnlyRegsSig s t
          shown) ∧
      (∃ t, exec (.recClose j false) s = .next t ∧ (t.rcu i).recs = u.recs.filter (fun y => decide (y.id ≠ x.id)) ∧ (t.rcu i).held = u.held ∧
        t.mram = s.mram ∧ t.fld Reg.STORE_MEDIA 15 0 = min 65535 (s.fld Reg.STORE_MEDIA 15 0 + 1) ∧ Others t ∧
        OnlyRegsSig s t (Reg.STORE_MEDIA :: shown))) ∧
    (u.recs.find? (fun x => x.wbWait.isEmpty) = none → ∀ ok, exec (.recClose j ok) s = .next s)) ∧
  (∀ (s : State) (j : Fin 4) (r : Req) (c : Fin 16) (off : Fin 0x300) (v : Word),
    let i := j.val
    let u := s.rcu i
    let ctrl := Reg.REC_CTRL i
    let stat := Reg.REC_STAT i
    let may := s.mayWrite r (0x5000 + i) = true
    let w := s.wbu c.val
    let o := off.val / 4 * 4
    let Others (t : State) : Prop := ∀ n, n ≠ i → t.rcu n = s.rcu n
    let OthersW (t : State) : Prop := ∀ d, d ≠ c.val → t.wbu d = s.wbu d
    (∀ x, w.copy = some x → w.frozen = false → s.isSv c.val = false → x.2.2.2 ≤ (s.lane (8 * c.val)).wbM → ∃ t, exec (.wbFreeze c) s = .next t ∧
      (t.wbu c.val).frozen = true ∧ (t.wbu c.val).copy = w.copy ∧ OthersW t ∧ t = { s with wbs := t.wbs }) ∧
    (w.copy = none → ∀ ok, exec (.wbFreeze c) s = .next s ∧ exec (.wbCopyDone c ok) s = .next s) ∧
    (∀ k id seg fin, w.copy = some (k, id, seg, fin) → w.frozen = true → k < 4 →
      (∃ t, exec (.wbCopyDone c true) s = .next t ∧ t.wbu c.val = WbU.init ∧ SMap.get (fun _ => 0) (t.rcu k).use seg = 3 ∧
        (∀ x, x < segBase seg ∨ segBase seg + 0x100000 ≤ x → t.mb x = s.mb x) ∧ OthersW t ∧
          t = { s with regs := t.regs, mram := t.mram, supPend := t.supPend, tally := t.tally, buckets := t.buckets, recs := t.recs, wbs := t.wbs }) ∧
      (∃ t, exec (.wbCopyDone c false) s = .next t ∧ t.wbu c.val = WbU.init ∧ SMap.get (fun _ => 0) (t.rcu k).use seg = 0 ∧ t.mram = s.mram ∧
        t.fld Reg.STORE_MEDIA 15 0 = min 65535 (s.fld Reg.STORE_MEDIA 15 0 + 1) ∧ OthersW t)) ∧
    (may → s.recRunning i = false → s.recScanning i = false → u.stopReq = false → s.recCheck i = 0 → s.served r = true → ∃ t, exec (.recRunStart r j) s = .next t ∧ t.bit ctrl 0 = true ∧
      t.recScanning i = true ∧ t.recRunning i = false ∧ (t.rcu i).stopReq = false ∧ Others t ∧ OnlyRegs s t [ctrl, stat] ∧
      t = { s with regs := t.regs, recs := t.recs }) ∧
    (may → s.recRunning i = false → s.recScanning i = false → s.recCheck i ≠ 0 → s.served r = true → ∃ t, exec (.recRunStart r j) s = .next t ∧ t.bit ctrl 0 = false ∧
      t.bit stat 4 = true ∧ t.recScanning i = false ∧ t.bit Reg.INT_STAT_HI (2 + i) = true ∧ t.rcu i = { u with again := false } ∧ Others t ∧ OnlyRegsSig s t [ctrl, stat]) ∧
    (may → s.recRunning i = true ∨ s.recScanning i = true → u.stopReq = false → s.served r = true → exec (.recRunStart r j) s = .next s) ∧
    (may → s.recRunning i = true ∨ s.recScanning i = true → u.stopReq = true → s.recCheck i = 0 → s.served r = true → ∃ t, exec (.recRunStart r j) s = .next t ∧
      t.bit ctrl 0 = true ∧ t.rcu i = { u with again := true } ∧ Others t ∧ OnlyRegs s t [ctrl] ∧ t = { s with regs := t.regs, recs := t.recs }) ∧
    (may → s.served r = true → ∃ t, exec (.recRunStop r j) s = .next t ∧ t.bit ctrl 0 = false ∧ (t.rcu i).stopReq = (s.recRunning i || s.recScanning i) ∧ Others t ∧
      OnlyRegs s t [ctrl] ∧ t = { s with regs := t.regs, recs := t.recs }) ∧
    (s.recScanning i = true → ∃ t, exec (.recScanDone j) s = .next t ∧ t.recScanning i = false ∧ t.recRunning i = true ∧ (t.rcu i).cur = none ∧
      (t.rcu i).next = s.tick.runs + 1 ∧ (t.rcu i).stopReq = u.stopReq ∧ t.bit Reg.INT_STAT_HI (2 + i) = true ∧ Others t ∧
        t = { s with regs := t.regs, mram := t.mram, supPend := t.supPend, mramErr := t.mramErr, tally := t.tally, buckets := t.buckets, recs := t.recs, wbs := t.wbs }) ∧
    (s.recScanning i = false → exec (.recScanDone j) s = .next s) ∧
    (u.stopReq = true → u.stopAt < s.tick.runs → ∃ t, exec (.recStopApply j) s = .next t ∧ t.recRunning i = false ∧ t.recScanning i = u.again ∧ t.bit (Reg.BLZ_STAT i) 27 =
      false ∧
      (t.rcu i).stopReq = false ∧ (t.rcu i).cur = none ∧ (t.rcu i).ring = none ∧ Others t ∧
        t = { s with regs := t.regs, claims := t.claims, recs := t.recs }) ∧
    (u.stopReq = false ∨ s.tick.runs ≤ u.stopAt → exec (.recStopApply j) s = .next s) ∧
    (o ≠ 0 → o ≠ 0x2C → o ≠ 0x44 → s.mayWrite r (0x5000 + i) = false ∨ s.recAccepts i o v = false → s.served r = true → ∃ t, exec (.recConfigWrite r j off v) s = .next
      t ∧
      t.bit stat 3 = true ∧ t.bit Reg.INT_STAT_HI (2 + i) = true ∧ OnlyRegsSig s t [stat] ∧ t.recs = s.recs ∧ t.gauges = s.gauges) ∧
    (o ≠ 0 → o ≠ 0x2C → o ≠ 0x44 → may → s.recAccepts i o v = true → o < 0x2C ∨ 0xAC ≤ o → s.served r = true → ∃ t, exec (.recConfigWrite r j off v) s = .next t ∧
      (∀ row, regRow (ctrl + o) = some row → t.rd (ctrl + o) = row.write (s.rd (ctrl + o)) v) ∧
      OnlyRegs s t [ctrl + o, stat, Reg.REC_SEG i, Reg.STORE_USED_LO, Reg.STORE_USED_HI] ∧ t = { s with regs := t.regs }))

/-- Blaze sequencers, profile gauges and the COMTRADE export (R345 to R359).
It rests on the model's readings in log entries 86, 87 and 88. -/
def Obligations.BlazeGaugesAndExport : Prop :=
  ∀ (s : State) (j k : Fin 4) (g : Fin 8) (r : Req) (c : Fin 16) (off : BitVec 14) (v : Word),
    let i := j.val
    let n := 8 * i + g.val
    let x := s.gauge n
    let stat := Reg.BLZ_STAT i
    let may := s.mayWrite r (0x5000 + i) = true
    let gkey := Reg.GAUGE i g.val
    let OthersG (t : State) : Prop := ∀ m, m ≠ n → t.gauge m = s.gauge m
    let Denied (i' : Instr) : Prop := s.served r = true → ∃ t, exec i' s = .next t ∧ t.bit (Reg.REC_STAT i) 3 = true ∧ OnlyRegsSig s t [Reg.REC_STAT i] ∧
      t = { s with regs := t.regs, supPend := t.supPend, tally := t.tally, buckets := t.buckets }
    let q := s.fld stat 31 28
    let cond := s.rd (Reg.BLZ_COND i q 0)
    let act := s.rd (Reg.BLZ_ACT i q 0)
    (s.mayWrite r (0x5000 + i) = false → Denied (.blzRunStart r j) ∧ Denied (.blzRunStop r j) ∧ Denied (.gaugeArm r j g) ∧ Denied (.gaugeDisarm r j
      g)) ∧
    (may → s.recRunning i = false → s.served r = true → exec (.blzRunStart r j) s = .next s) ∧
    (may → s.recRunning i = true → (∀ p, p ∈ s.blzTaps i → s.owner p = 0 ∨ s.owner p = 0x20 + i) → s.served r = true → ∃ t, exec (.blzRunStart r j) s = .next t ∧
      t.bit stat 27 = true ∧ t.fld stat 31 28 = 0 ∧ t.fld stat 7 0 = 0 ∧ t.bit (Reg.BLZ_CTRL i) 0 = true ∧
      (∀ m, m < 4 → t.rd (Reg.BLZ_CVAL i m) = 0 ∧ t.bit (Reg.BLZ_CCFG i m) 31 = false ∧ t.blzTimer i m = none) ∧
      (∀ p, p ∈ s.blzTaps i → t.owner p = 0x20 + i) ∧ (∀ m, m ≠ i → t.blzU m = s.blzU m) ∧
        t = { s with regs := t.regs, claims := t.claims, supPend := t.supPend, tally := t.tally, buckets := t.buckets, blz := t.blz }) ∧
    (may → s.recRunning i = true → (∃ p, p ∈ s.blzTaps i ∧ s.owner p ≠ 0 ∧ s.owner p ≠ 0x20 + i) → s.served r = true → ∃ t, exec (.blzRunStart r j) s = .next t ∧
      t.bit stat 25 = true ∧ t.bit (Reg.BLZ_CTRL i) 0 = false ∧ t.bit Reg.CLAIM_STAT 0 = true ∧ t.bit Reg.INT_STAT_HI 27 = true ∧ t.blz = s.blz) ∧
    (may → s.served r = true → ∃ t, exec (.blzRunStop r j) s = .next t ∧ t.bit (Reg.BLZ_CTRL i) 0 = false ∧ t.bit stat 27 = false ∧
      (∀ p, s.owner p = 0x20 + i → t.owner p = 0) ∧ (∀ p, s.owner p ≠ 0x20 + i → t.claim p = s.claim p) ∧
      OnlyRegs s t [Reg.BLZ_CTRL i, stat] ∧ t = { s with regs := t.regs, claims := t.claims }) ∧
    (s.bit stat 27 = true → ∃ t, exec (.blazeStep j) s = .next t ∧ (t.blzU i).step = (s.blzU i).step + 1 ∧
      (field cond 17 16 = 0 → field cond 7 0 = 127 → bitAt act 30 = false → bitAt act 31 = false → bitAt act 4 = true → t.fld stat 31 28 = field act
        3 0) ∧
      (field cond 17 16 = 3 → field (s.rd (Reg.BLZ_COND i q 1)) 17 16 = 3 → t.fld stat 31 28 = q ∧ t.recs = s.recs ∧ t.gauges = s.gauges) ∧
      t = { s with regs := t.regs, mram := t.mram, supPend := t.supPend, mramErr := t.mramErr, tally := t.tally, buckets := t.buckets, tb := t.tb, recs := t.recs, wbs := t.wbs, gauges := t.gauges, blz := t.blz })
        ∧
    (s.bit stat 27 = false → exec (.blazeStep j) s = .next s) ∧
    (∀ p, s.blzTimer i k.val = some p → ∃ t, exec (.blzTimerExpiry j k) s = .next t ∧ t.bit stat k.val = false ∧ t.blz = s.blz ∧
      t = { s with regs := t.regs, tb := t.tb }) ∧
    exec (.blzCounterLimit j k) s = .next s ∧
    (may → s.bit gkey 24 = true → s.served r = true → ∃ t, exec (.gaugeArm r j g) s = .next t ∧ t.gaugeArmed i g.val = true ∧ (t.gauge n).run = 0 ∧ (t.gauge n).due = [] ∧
      (t.gauge n).events = x.events ∧ OthersG t ∧ OnlyRegs s t [gkey] ∧ t = { s with regs := t.regs, gauges := t.gauges }) ∧
    (may → s.served r = true → ∃ t, exec (.gaugeDisarm r j g) s = .next t ∧ t.gaugeArmed i g.val = false ∧ (t.gauge n).run = 0 ∧ (t.gauge n).due = [] ∧ OthersG t ∧
      OnlyRegs s t [gkey] ∧ t = { s with regs := t.regs, gauges := t.gauges }) ∧
    (∀ at_ ep no l, x.due = (at_, ep, no) :: l → s.fld gkey 9 8 = 0 → ∃ t, exec (.gaugeViolation j g) s = .next t ∧ (t.gauge n).due = l ∧
      (t.gauge n).events = x.events + 1 ∧ (t.gauge n).at_ = at_ ∧ (t.gauge n).ep = ep ∧ t.gaugeArmed i g.val = s.gaugeArmed i g.val ∧ OthersG t ∧
      t.bit Reg.INT_STAT_HI (2 + i) = true ∧ OnlyRegsSig s t []) ∧
    (∀ at_ ep no l, x.due = (at_, ep, no) :: l → s.fld gkey 9 8 = 1 ∨ s.fld gkey 9 8 = 2 → ∃ t, exec (.gaugeViolation j g) s = .next t ∧ (t.gauge n).due =
      [] ∧
      t.gaugeArmed i g.val = false ∧ OthersG t) ∧
    (let ch := 8 * c.val + off.toNat / 0x800
     let key := clusterKey c.val (0xA0000 + off.toNat / 4 * 4)
     let used := (List.range 32).any (fun m => s.gaugeArmed (m / 8) (m % 8) && decide (s.fld (Reg.GAUGE (m / 8) (m % 8)) 6 0 = ch))
     (used = true → s.served r = true → ∃ t, exec (.gaugeTableWrite r c off v) s = .next t ∧ (t.ind r.num).err = true ∧ (t.ind r.num).cause = 3 ∧
       OnlyRegs s t [Reg.INT_STAT_HI] ∧ t = { s with regs := t.regs, inds := t.inds, supPend := t.supPend }) ∧
     (used = false → s.served r = true → ∃ t, exec (.gaugeTableWrite r c off v) s = .next t ∧ t.rd key = v &&& 0xFFFFFF ∧ OnlyRegs s t [key] ∧
       t = { s with regs := t.regs })) ∧
    (∀ (id : Word) (rq : ComReq) (cfg hdr dat : BitVec 26), ∃ t, exec (.comtradeExport j id rq cfg hdr dat) s = .next t ∧
      t = { s with mram := t.mram } ∧
      (∀ a, a < 0x820000 ∨ 0x1000000 ≤ a → t.mb a = s.mb a) ∧
      ((s.rcu i).held.find? (fun h => h.1 = id.toNat) = none → t.mram = s.mram) ∧
      (∀ h, (s.rcu i).held.find? (fun h => h.1 = id.toNat) = some h → rq.kind.val ≠ 0 → 0x820000 ≤ dat.toNat →
        dat.toNat + (s.comData (h.2.headD 0) (decide (rq.kind.val = 2))).length ≤ 0x1000000 →
        (∀ m, m < (s.comData (h.2.headD 0) (decide (rq.kind.val = 2))).length →
          t.mb (dat.toNat + m) = (s.comData (h.2.headD 0) (decide (rq.kind.val = 2))).getD m 0)))

/-! ### Tally (chapter 11) -/

/-- Records, slots, buckets and posts (R365 to R368, R374 to R383): a raised record joins the queue, is suppressed or is dropped; the writer puts
its head into the slot at the write pointer and nothing else of MRAM changes. The media stop, the start-up scan, and the authorised clear and key
revocation (R382 to R388).
It rests on the model's readings in log entries 90, 91, 92, 157 and 158. -/
def Obligations.TallyRecordsScanClearing : Prop :=
  (∀ (s : State) (code : BitVec 12) (sp : Byte) (p0 p1 : Word) (b : Fin 256) (v : Word) (r : Req) (port : Fin 2),
    let q := s.tally.queue
    let rec_ := s.hwRec code.toNat sp.toNat p0.toNat p1.toNat s.now
    let raise : Instr := .tallyRaise code sp p0 p1
    let wptr := s.fld Reg.TALLY_WPTR 18 0
    let Popped (t : State) : Prop := (s.tally.own ≠ [] → t.tally = { s.tally with own := s.tally.own.tail }) ∧
      (s.tally.own = [] → q ≠ [] → t.tally = { s.tally with queue := q.tail, tail := min s.tally.tail q.tail.length }) ∧
      (s.tally.own = [] → q = [] → t.tally = { s.tally with last := none, closed := true })
    let now_ := if s.tally.tailAt = s.tb.cnt then s.tally.tail else 0
    let Put (e : TRec) : TallyU := { s.tally with queue := queuePut q now_ e, tail := now_ + 1, tailAt := s.tb.cnt }
    let x := s.bucket b.val
    let cfg := Reg.TALLY_BKT_CFG b.val
    let sup := Reg.TALLY_BKT_SUP b.val
    let OthersB (t : State) : Prop := ∀ m, m ≠ b.val → t.bucket m = s.bucket m
    (s.bucketOf code.toNat = none → s.tally.closed = false → q.length < 256 → ∃ t, exec raise s = .next t ∧
      t = { s with tally := Put rec_ } ∧ (now_ = 0 ∨ (∀ e, e ∈ q → e.source ≤ rec_.source) → t.tally.queue = q ++ [rec_])) ∧
    (s.bucketOf code.toNat = none → s.tally.closed = false → 256 ≤ q.length → ∃ t, exec raise s = .next t ∧
      t = { s with regs := t.regs, tally := { Put rec_ with queue := (queuePut q now_ rec_).take 256 } } ∧
      t.fld Reg.TALLY_DROP 31 0 = min 4294967295 (s.fld Reg.TALLY_DROP 31 0 + 1) ∧ t.bit Reg.TALLY_STAT 4 = true ∧
      OnlyRegs s t [Reg.TALLY_DROP, Reg.TALLY_STAT]) ∧
    (s.bucketOf code.toNat = none → s.tally.closed = true → ∃ t, exec raise s = .next t ∧ t = { s with regs := t.regs } ∧
      t.fld Reg.TALLY_DROP 31 0 = min 4294967295 (s.fld Reg.TALLY_DROP 31 0 + 1) ∧ OnlyRegs s t [Reg.TALLY_DROP]) ∧
    (∀ m, s.bucketOf code.toNat = some m → 0 < s.fld (Reg.TALLY_BKT_CFG m) 7 0 → s.tally.closed = false → q.length < 256 →
      ∃ t, exec raise s = .next t ∧ t.tally = Put rec_ ∧
      t.fld (Reg.TALLY_BKT_CFG m) 7 0 = s.fld (Reg.TALLY_BKT_CFG m) 7 0 - 1 ∧ (t.bucket m).since = some ((s.bucket m).since.getD s.tb.cnt) ∧
      (∀ n, n ≠ m → t.bucket n = s.bucket n) ∧ OnlyRegs s t [Reg.TALLY_BKT_CFG m] ∧
      t = { s with regs := t.regs, buckets := t.buckets, tally := t.tally }) ∧
    (∀ m, s.bucketOf code.toNat = some m → s.fld (Reg.TALLY_BKT_CFG m) 7 0 = 0 → ∃ t, exec raise s = .next t ∧ t.tally = s.tally ∧
      t.fld (Reg.TALLY_BKT_SUP m) 31 0 = min 4294967295 (s.fld (Reg.TALLY_BKT_SUP m) 31 0 + 1) ∧ (t.bucket m).last = code.toNat ∧
      OnlyRegs s t [Reg.TALLY_BKT_SUP m] ∧ t = { s with regs := t.regs, buckets := t.buckets }) ∧
    (∀ (e : TRec) (vf : Bool), s.headRec = some e → s.tallyState = 1 → s.tally.front = none → wptr < lastSlotNo →
      ∃ t, exec (.tallySlotWrite true vf) s = .next t ∧ t.fld Reg.TALLY_WPTR 18 0 = wptr + 1 ∧ t.rd Reg.TALLY_SEQ_NEXT = s.rd Reg.TALLY_SEQ_NEXT + 1 ∧
      (∀ k, k < 32 → t.mb (slotAddr wptr + k) = (recBytes e s.seqNext).getD k 0) ∧
      (∀ a, a < slotAddr wptr ∨ slotAddr wptr + 32 ≤ a → t.mb a = s.mb a) ∧ Popped t ∧ OnlyRegs s t [Reg.TALLY_WPTR, Reg.TALLY_SEQ_NEXT]) ∧
    (∀ e : TRec, s.headRec = some e → e.code ≠ 0x103 → s.tallyState = 1 → s.tally.front = none → wptr + 1 < lastSlotNo → wptr ∉ s.tally.bads →
      ∃ t, exec (.tallySlotWrite false true) s = .next t ∧ t.fld Reg.TALLY_WPTR 18 0 = wptr + 2 ∧ (∀ k, k < 4 → t.mb (slotAddr wptr + 28 + k) = 0) ∧
      t.fld Reg.TALLY_BAD_CNT 17 0 = min 262143 (s.fld Reg.TALLY_BAD_CNT 17 0 + 1) ∧ t.bit Reg.INT_STAT_HI 1 = true ∧ t.tally = { s.tally with bads := t.tally.bads } ∧ wptr ∈ t.tally.bads ∧
      (∀ a, a < slotAddr wptr ∨ slotAddr wptr + 64 ≤ a → t.mb a = s.mb a)) ∧
    (∀ (e : TRec) (f vf : Bool), s.headRec = some e → s.tallyState = 2 → ∃ t, exec (.tallySlotWrite f vf) s = .next t ∧ Popped t ∧ t.mram = s.mram ∧
      t.fld Reg.TALLY_DROP 31 0 = min 4294967295 (s.fld Reg.TALLY_DROP 31 0 + 1) ∧ OnlyRegs s t [Reg.TALLY_DROP]) ∧
    (∀ (e : TRec) (f vf : Bool), s.headRec = some e → s.tallyState = 3 → s.fld Reg.TALLY_LR_STAT 3 0 < 8 →
      ∃ t, exec (.tallySlotWrite f vf) s = .next t ∧ Popped t ∧ t.mram = s.mram ∧
      t.fld Reg.TALLY_LR_STAT 3 0 = s.fld Reg.TALLY_LR_STAT 3 0 + 1 ∧ t.rd Reg.TALLY_SEQ_NEXT = s.rd Reg.TALLY_SEQ_NEXT + 1 ∧
      t.bit Reg.TALLY_STAT 5 = true ∧ (∀ w, w < 8 → t.rd (Reg.TALLY_LR (s.fld Reg.TALLY_LR_STAT 3 0) w) = leWord ((recBytes e s.seqNext).drop (4 * w)))) ∧
    (s.headRec = none → ∀ f vf, exec (.tallySlotWrite f vf) s = .next s) ∧
    (∀ a, x.since = some a → s.rd sup = 0 → s.fld cfg 7 0 < 255 → ∃ t, exec (.bucketTokenGain b) s = .next t ∧ t.fld cfg 7 0 = s.fld cfg 7 0 + 1 ∧
      (t.bucket b.val).since = (if s.fld cfg 15 8 ≤ s.fld cfg 7 0 + 1 then none else some (a + s.bucketPeriod b.val)) ∧ OthersB t ∧ t.tally =
        s.tally ∧
      t = { s with regs := t.regs, supPend := t.supPend, tally := t.tally, buckets := t.buckets, tb := t.tb }) ∧
    (∀ a, x.since = some a → s.rd sup ≠ 0 → ∃ t, exec (.bucketTokenGain b) s = .next t ∧ t.rd sup = 0 ∧ t.bit Reg.INT_STAT_HI 0 = true ∧
      t.rd cfg = s.rd cfg ∧ (t.bucket b.val).since = some (a + s.bucketPeriod b.val) ∧ OthersB t) ∧
    (x.since = none → exec (.bucketTokenGain b) s = .next s) ∧
    (field v 31 16 = 0 ∨ field v 15 8 = 0 → ∃ t, exec (.tallyBucketWrite b true v) s = .next t ∧ t.bit Reg.TALLY_STAT 6 = true ∧
      t.bit Reg.INT_STAT_HI 0 = true ∧ OnlyRegs s t [Reg.TALLY_STAT, Reg.INT_STAT_HI] ∧ t = { s with regs := t.regs, supPend := t.supPend }) ∧
    (field v 31 16 ≠ 0 → field v 15 8 ≠ 0 → ∃ t, exec (.tallyBucketWrite b true v) s = .next t ∧ t.rd cfg = putField v 7 0 (field v 15 8) ∧ t.rd sup
      = 0 ∧
      (t.bucket b.val).since = none ∧ OthersB t) ∧
    (∃ t, exec (.tallyBucketWrite b false v) s = .next t ∧ t.rd (Reg.TALLY_BKT_RNG b.val) = v ∧ t.fld cfg 7 0 = s.fld cfg 15 8 ∧ t.rd sup = 0 ∧
      (t.bucket b.val).since = none ∧ OthersB t) ∧
    (let h := s.rd (Reg.TALLY_PHDR port.val)
     let source := if port.val = 1 then 0x04 else field h 15 8
     let posted : TRec := {
       code := field h 31 16, source := source, sev := field h 7 4, flags := field h 3 0, at_ := s.now, tq := s.tq,
       sparam := s.fld (Reg.TALLY_PSP port.val) 7 0, p0 := (s.rd (Reg.TALLY_PP0 port.val)).toNat,
       p1 := (s.rd (Reg.TALLY_PP1 port.val)).toNat }
     (r.isHost ≠ decide (port.val = 1) ∨ postAllowed port.val (field h 31 16) source = false → s.served r = true → ∃ t, exec (.tallyPost r port) s = .next t ∧
       t.bit Reg.TALLY_STAT 3 = true ∧ t.bit Reg.INT_STAT_HI 0 = true ∧ OnlyRegs s t [Reg.TALLY_STAT, Reg.INT_STAT_HI] ∧
       t = { s with regs := t.regs, supPend := t.supPend }) ∧
     (r.isHost = decide (port.val = 1) → postAllowed port.val (field h 31 16) source = true → s.bucketOf (field h 31 16) = none → s.tally.closed =
       false →
       q.length < 256 → s.served r = true → ∃ t, exec (.tallyPost r port) s = .next t ∧ t = { s with tally := Put posted }))) ∧
  (∀ (s : State) (r : Req) (key : Fin 4) (rv : Bool),
    let clr := Reg.TALLY_CLR_STAT
    let k := key.val
    let i := s.firstGood s.tally.bads.length (s.fld Reg.TALLY_WPTR 18 0)
    let Denied (t : State) : Prop := t.bit clr 2 = true ∧ t.bit clr 0 = false ∧ t.tally.nonce = none ∧ t.bit Reg.INT_STAT_HI 0 = true ∧ t.mram =
      s.mram
    let Refused (c : Instr) : Prop := s.served r = true → ∃ t, exec c s = .next t ∧ t.bit clr 3 = true ∧ OnlyRegs s t [clr] ∧ t = { s with regs := t.regs }
    let nonces := [Reg.TALLY_NONCE 0, Reg.TALLY_NONCE 1, Reg.TALLY_NONCE 2, Reg.TALLY_NONCE 3]
    (s.tallyState = 3 → i ≤ lastSlotNo → ∃ t, exec .tallyResume s = .next t ∧ t.tallyState = 1 ∧ t.fld Reg.TALLY_WPTR 18 0 = i ∧
      t.rd Reg.TALLY_DROP = 0 ∧ (∃ e, e ∈ t.tally.own ∧ e.code = 0x107) ∧ t.bit Reg.INT_STAT_HI 0 = true ∧
        t = { s with regs := t.regs, supPend := t.supPend, tally := t.tally }) ∧
    (s.tallyState = 3 → lastSlotNo < i → ∃ t, exec .tallyResume s = .next t ∧ t.tallyState = 2 ∧ OnlyRegs s t [Reg.TALLY_STAT] ∧
      t = { s with regs := t.regs }) ∧
    (s.tallyState ≠ 3 → exec .tallyResume s = .next s) ∧
    (s.tally.scanning = true → ∃ t, exec .tallyScanDone s = .next t ∧ t.tally.scanning = false ∧ (t.tallyState = 1 ∨ t.tallyState = 2) ∧
      (s.usedSlots = [] → s.fld Reg.TALLY_LR_STAT 3 0 = 0 → t.tallyState = 1 ∧ t.fld Reg.TALLY_WPTR 18 0 = 0 ∧ t.rd Reg.TALLY_SEQ_NEXT = 0) ∧
      (∀ a, a < 0x1000000 ∨ 0x1800000 ≤ a → t.mb a = s.mb a) ∧
        t = { s with regs := t.regs, mram := t.mram, supPend := t.supPend, tally := t.tally }) ∧
    (s.tally.scanning = false → exec .tallyScanDone s = .next s) ∧
    (s.lockedOut = true ∨ s.keyRevoked k = true → s.served r = true → ∃ t, exec (.tallyClearRequest r key rv) s = .next t ∧ Denied t) ∧
    (s.lockedOut = false → s.keyRevoked k = false → s.tally.front.isSome = true → Refused (.tallyClearRequest r key rv)) ∧
    (s.lockedOut = false → s.keyRevoked k = false → s.tally.front = none → rv = false ∨ (∃ m, m < 4 ∧ m ≠ k ∧ s.keyRevoked m = false) →
      s.served r = true → ∃ t, exec (.tallyClearRequest r key rv) s = .next t ∧
      t.tally = { s.tally with nonce := some { req := r, key := k, revoke := rv, expires := s.tb.cnt + 2500000000 } } ∧ t.bit clr 0 = true ∧
      t.rd Reg.TALLY_CLR_SEQ = s.rd Reg.TALLY_SEQ_NEXT ∧ (∀ m, m < 4 → t.rd (Reg.TALLY_NONCE m) = Config.randomWord (s.freeCtr + m)) ∧
      t.freeCtr = s.freeCtr + 4 ∧ OnlyRegs s t (clr :: Reg.TALLY_CLR_SEQ :: nonces)) ∧
    (s.lockedOut = false → s.keyRevoked k = false → s.tally.front = none → rv = true → (∀ m, m < 4 → m ≠ k → s.keyRevoked m = true) →
      Refused (.tallyClearRequest r key rv)) ∧
    (s.tally.nonce = none → s.lockedOut = false → Refused (.tallyClearConfirm r)) ∧
    (s.lockedOut = true → (∀ n, s.tally.nonce = some n → n.req.isHost = r.isHost) → s.served r = true → ∃ t, exec (.tallyClearConfirm r) s = .next t ∧ Denied t) ∧
    (∀ n : Nonce, s.tally.nonce = some n → n.req.isHost ≠ r.isHost → Refused (.tallyClearConfirm r)) ∧
    (∀ n : Nonce, s.tally.nonce = some n → n.req.isHost = r.isHost → s.lockedOut = false → n.key < 4 →
      s.served r = true → ∃ t, exec (.tallyClearConfirm r) s = .next t ∧
        (n.expires ≤ s.tb.cnt ∨ s.keyRevoked n.key = true ∨ s.givenResponse ≠ s.clearResponse n.key → Denied t ∧
          (s.tally.denied < 2 → t.tally.denied = s.tally.denied + 1 ∧ t.tally.lockEnd = none) ∧
          (2 ≤ s.tally.denied → t.tally.denied = 0 ∧ t.tally.lockEnd = some (s.tb.cnt + 15000000000) ∧ t.fld clr 31 16 = 60)) ∧
        (s.tb.cnt < n.expires → s.keyRevoked n.key = false → s.givenResponse = s.clearResponse n.key →
          t.tally.nonce = none ∧ t.tally.denied = 0 ∧
          (n.revoke = true → t.keyRevoked n.key = true ∧ t.bit Reg.INT_STAT_HI 0 = true ∧ t.mram = s.mram) ∧
          (n.revoke = false → s.tally.scanning = true → t.tally.clrWait = some n.key ∧ t.mram = s.mram ∧ t.tally.queue = s.tally.queue) ∧
          (n.revoke = false → s.tally.scanning = false → t.tallyState = 1 ∧ t.fld Reg.TALLY_WPTR 18 0 = 0 ∧ t.rd Reg.TALLY_BAD_CNT = 0 ∧
            t.tally.front = some 1 ∧ t.tally.bads = [] ∧ t.rd Reg.TALLY_SEQ_NEXT = s.rd Reg.TALLY_SEQ_NEXT ∧ isRecord (t.slotBytes 0) = true ∧
            (∃ e, t.headRec = some e ∧ e.code = 0x102 ∧ t.slotBytes 0 = recBytes e s.seqNext) ∧
            (∀ a, a < 0x1000000 ∨ 0x1000020 ≤ a → t.mb a = s.mb a)))) ∧
    (s.served r = true → ∃ t, exec (.tallyClearAbort r) s = .next t ∧ t.tally = { s.tally with nonce := none } ∧ t.bit clr 0 = false ∧
      (∀ m, m < 4 → t.rd (Reg.TALLY_NONCE m) = 0) ∧ OnlyRegs s t (clr :: nonces) ∧ t = { s with regs := t.regs, tally := t.tally }) ∧
    (s.tally.nonce.isSome = true → ∃ t, exec .tallyNonceExpiry s = .next t ∧ t.bit clr 0 = false ∧ (∀ m, m < 4 → t.rd (Reg.TALLY_NONCE m) = 0) ∧
      t = { s with regs := t.regs, tb := t.tb }) ∧
    (∀ a, s.tally.lockEnd = some a → ∃ t, exec .tallyLockoutEnd s = .next t ∧ t.tally = { s.tally with lockEnd := none } ∧ t.fld clr 31 16 = 0 ∧
      (s.tb.cnt ≤ a → t.tb.cnt = a) ∧ t = { s with regs := t.regs, tally := t.tally, tb := t.tb }) ∧
    (∀ bad p, s.tally.front = some p → p ≤ 262144 → ∃ t, exec (.tallyEraseDone bad) s = .next t ∧ t.tally.front = none ∧ t.bit clr 1 = true ∧
      t.bit Reg.INT_STAT_HI 0 = true ∧ (∀ a, slotAddr p ≤ a → a < 0x1800000 → t.mb a = 0) ∧ (∀ n, n ∈ bad → n.val ∈ t.tally.bads) ∧
      (∀ a, a < slotAddr p ∨ 0x1800000 ≤ a → t.mb a = s.mb a) ∧
        t = { s with regs := t.regs, mram := t.mram, supPend := t.supPend, tally := t.tally }) ∧
    (∃ t, exec .tallyLrClear s = .next t ∧ t.fld Reg.TALLY_LR_STAT 3 0 = 0 ∧ t.bit Reg.TALLY_STAT 5 = false ∧
      (∀ a w, a < 8 → w < 8 → t.rd (Reg.TALLY_LR a w) = 0) ∧ t = { s with regs := t.regs }))

/-! ### Time (chapter 12) -/

/-- The time base (R396 to R411, R418, R428, R630): start, mode, rate, servo, leaps, the RTC, steps and the dies' alignment; a refused command or
write sets its flag and changes nothing else. Reading TICK_IDX delivers it and latches the second it belongs to for the reader (R76, R563).
It rests on the model's readings in log entries 93, 118, 160 and 162. -/
def Obligations.TimeBaseCommands : Prop :=
  (∀ (s : State) (r : Req) (v : Word),
    let stat := Reg.TB_STAT
    let Error (c : Instr) (flag : Nat) : Prop := ∃ t, exec c s = .next t ∧ t.bit stat flag = true ∧ t.bit Reg.INT_STAT_LO 28 = true ∧
      OnlyRegsSig s t [stat] ∧ t = { s with regs := t.regs, supPend := t.supPend, tally := t.tally, buckets := t.buckets }
    let a := (s.held r Reg.TB_ADDEND_HI).toNat % 256 * 4294967296 + v.toNat
    let d : Int := sext 48 (s.fld Reg.TB_STEP_SEC_HI 15 0 * 4294967296 + (s.rd Reg.TB_STEP_SEC_LO).toNat) * 1000000000 + (s.fld Reg.TB_STEP_NS 29 0
      : Int)
    let here : Int := inNs (s.tb.sec, s.tb.ns)
    (r.isHost = true ∨ s.started = true → s.served r = true → Error (.tbCmdStart r) 6) ∧
    (r.isHost = false → s.started = false → s.served r = true → exec (.tbCmdStart r) s = .next { s with tb := { s.tb with startReq := true } }) ∧
    (s.tb.startReq = true → ∃ t, exec .tbStart s = .next t ∧ t.started = true ∧ t.epoch = (s.epoch + 1) % 256 ∧ t.tb.ns = 0 ∧ t.tb.startReq = false ∧
      (s.bit Reg.TB_RTC_STAT 0 = false → t.tb.sec = 0) ∧
      (s.bit Reg.TB_RTC_STAT 0 = true → s.tb.rtcSub < 250000000 → s.rtcSec + 1 < 2 ^ 48 → t.tb.sec = s.rtcSec + 1) ∧ t.tick.running = false ∧
      t.tick.idx = 0 ∧ t.bit Reg.INT_STAT_LO 28 = true ∧ (∀ ch, ch < 128 → (t.lane ch).per = 14745600 * t.tb.sec) ∧
        t = { s with lanes := t.lanes, wbs := t.wbs, regs := t.regs, supPend := t.supPend, tally := t.tally, buckets := t.buckets, tb := t.tb, tick := t.tick }) ∧
    (field v 11 10 = 3 ∨ field v 5 4 = 3 ∨ 2 ≤ field v 1 0 → Error (.tbModeWrite v) 7) ∧
    (field v 11 10 ≠ 3 → field v 5 4 ≠ 3 → field v 1 0 < 2 → s.tb.step = none ∨ field v 1 0 = s.fld Reg.TB_CTRL 1 0 →
      ∃ t, exec (.tbModeWrite v) s = .next t ∧ t.rd Reg.TB_CTRL = v &&& 0xF33 ∧
      t.tb = { s.tb with mode := if field v 1 0 = s.tb.modeNow then none else some (field v 1 0) } ∧ OnlyRegs s t [Reg.TB_CTRL, stat] ∧
        t = { s with regs := t.regs, supPend := t.supPend, tally := t.tally, buckets := t.buckets, tb := t.tb }) ∧
    (s.started = false ∨ s.tb.mode = none → exec .tbModeApply s = .next s) ∧
    (∀ m, s.started = true → s.tb.mode = some m → ∃ t, exec .tbModeApply s = .next t ∧ t.tb.modeNow = m ∧ t.tb.mode = none ∧ (m = 0 → t.servo = 1) ∧
      (m ≠ 0 → t.bit stat 8 = false ∧ t.servo = s.servo) ∧
        t = { s with regs := t.regs, supPend := t.supPend, tally := t.tally, buckets := t.buckets, tb := t.tb }) ∧
    (s.tb.modeNow = 0 ∨ a < 0x3FFBE76C9 ∨ 0x400418937 < a → s.served r = true → Error (.tbAddendCommit r v) 7) ∧
    (s.tb.modeNow ≠ 0 → 0x3FFBE76C9 ≤ a → a ≤ 0x400418937 → s.served r = true → ∃ t, exec (.tbAddendCommit r v) s = .next t ∧ t.addend = a ∧
      OnlyRegs s t [Reg.TB_ADDEND_LO, Reg.TB_ADDEND_HI] ∧ t = { s with regs := t.regs }) ∧
    (field v 23 16 < 5 ∨ 12 < field v 11 8 ∨ 12 < field v 3 0 → Error (.tbServoWrite v) 7) ∧
    (5 ≤ field v 23 16 → field v 11 8 ≤ 12 → field v 3 0 ≤ 12 → ∃ t, exec (.tbServoWrite v) s = .next t ∧ t.rd Reg.TB_SERVO = v &&& 0xFF0F0F ∧
      OnlyRegs s t [Reg.TB_SERVO] ∧ t = { s with regs := t.regs }) ∧
    (s.tb.modeNow = 0 → s.served r = true → ∃ t, exec (.tbCmdResetI r) s = .next t ∧ t.tb.integ = 0 ∧
      (s.servo = 3 → t.tb.rate = 0 ∧ t.rd Reg.TB_RATE = 0 ∧ t.addend = nomAddend) ∧ (s.servo ≠ 3 → t = { s with tb := { s.tb with integ := 0 } })) ∧
    (s.tb.modeNow ≠ 0 → s.served r = true → exec (.tbCmdResetI r) s = .next s) ∧
    (s.served r = true → ∃ t, exec (.tbOffsCommit r v) s = .next t ∧ t.rd Reg.TB_OFFS_LO = v ∧ t.rd Reg.TB_OFFS_HI = s.held r Reg.TB_OFFS_HI ∧
      (s.fld Reg.TB_CTRL 5 4 ≠ 2 → t.rd Reg.TB_LAST_OFFS = s.rd Reg.TB_LAST_OFFS) ∧ (s.fld Reg.TB_CTRL 5 4 = 2 → t.rd Reg.TB_LAST_OFFS =
        wInt (offsNs ((sext 32 (s.held r Reg.TB_OFFS_HI).toNat * 4294967296 + (v.toNat : Int)) * 1000000000))) ∧
      (s.tb.modeNow ≠ 0 → OnlyRegs s t [Reg.TB_OFFS_LO, Reg.TB_OFFS_HI, Reg.TB_LAST_OFFS] ∧ t = { s with regs := t.regs })) ∧
    (s.tb.modeNow = 0 → s.servo = 1 ∨ s.servo = 2 → ∃ t, exec .servoHoldoutExpiry s = .next t ∧ t.servo = 3 ∧ t.tb.rate = s.tb.integ ∧
      t.rd Reg.TB_RATE = wInt s.tb.integ ∧ t.bit Reg.INT_STAT_LO 28 = true ∧
        t = { s with regs := t.regs, supPend := t.supPend, tally := t.tally, buckets := t.buckets, tb := t.tb }) ∧
    (s.started = false ∨ s.fld Reg.TB_UTC 17 16 = 0 ∨ s.fld Reg.TB_UTC 17 16 = 3 → exec .leapApply s = .next s) ∧
    (s.started = true → s.fld Reg.TB_UTC 17 16 = 1 ∨ s.fld Reg.TB_UTC 17 16 = 2 → ∃ t, exec .leapApply s = .next t ∧ t.fld Reg.TB_UTC 17 16 = 0 ∧ t.fld Reg.TB_UTC 15 0 =
      (s.fld Reg.TB_UTC 15 0 + (if s.fld Reg.TB_UTC 17 16 = 1 then 1 else 65535)) % 65536 ∧ t.bit Reg.INT_STAT_LO 28 = true ∧
        t = { s with regs := t.regs, supPend := t.supPend, tally := t.tally, buckets := t.buckets, tb := t.tb }) ∧
    (s.tq = 0 → s.started = true → ∃ t, exec .rtcAlign s = .next t ∧ t.rd Reg.TB_RTC_SEC_LO = w32 s.tb.sec ∧
      t.fld Reg.TB_RTC_SEC_HI 15 0 = s.tb.sec / 4294967296 % 65536 ∧ t.tb = { s.tb with rtcSub := s.tb.ns / 4 } ∧
      OnlyRegs s t [Reg.TB_RTC_SEC_LO, Reg.TB_RTC_SEC_HI] ∧ t = { s with regs := t.regs, tb := t.tb }) ∧
    (s.served r = true → ∃ t, exec (.tbTimeFracRead r) s = .next t ∧ t.answered r = w32 s.tb.frac ∧ t.snap r Reg.TB_TIME_NS = w32 s.tb.ns ∧
      t.snap r Reg.TB_TIME_SEC_LO = w32 s.tb.sec ∧ t.snap r Reg.TB_TIME_SEC_HI = w32 (s.tb.sec / 4294967296) ∧
        t = { s with rsp := t.rsp, snaps := t.snaps }) ∧
    (s.served r = true → ∃ t, exec (.tbCntLoRead r) s = .next t ∧ t.answered r = w32 s.cntShown ∧ t.snap r Reg.TB_CNT_HI = w32 (s.cntShown / 4294967296) ∧
      t = { s with rsp := t.rsp, snaps := t.snaps }) ∧
    (s.tb.modeNow = 0 ∨ s.tb.step.isSome = true ∨ s.tb.mode.isSome = true ∨ 999999999 < s.fld Reg.TB_STEP_NS 29 0 ∨ d = 0 ∨ here + d < 0 →
      s.served r = true → Error (.tbCmdStep r) 6) ∧
    (s.tb.modeNow ≠ 0 → s.tb.step = none → s.tb.mode = none → s.fld Reg.TB_STEP_NS 29 0 ≤ 999999999 → d ≠ 0 → 0 ≤ here + d →
      s.served r = true → ∃ t, exec (.tbCmdStep r) s = .next t ∧ t.tb = { s.tb with step := some { delta := d, firstLock := false } } ∧ t.bit stat 10 = true ∧
      OnlyRegs s t [stat] ∧ t = { s with regs := t.regs, supPend := t.supPend, tally := t.tally, buckets := t.buckets, tb := t.tb }) ∧
    (∀ q, s.tb.step = some q → ∃ t, exec .timeStepApply s = .next t ∧
      (let told := inNs ((tickFollowing s.tick).1, tickNs (tickFollowing s.tick).2)
       let tnew := splitNs ((told : Int) + q.delta).toNat
       t.tb.step = none ∧ (t.tb.sec, t.tb.ns) = tnew ∧ t.tb.frac = 0 ∧ t.epoch = (s.epoch + 1) % 256 ∧ t.tick.running = false ∧
       (t.tick.sec, t.tick.idx) = firstTick tnew.1 tnew.2 ∧ t.stepFlag = true ∧ t.bit stat 9 = true ∧ t.bit Reg.INT_STAT_LO 28 = true ∧ t.mram =
         s.mram)) ∧
    (s.tb.step = none → exec .timeStepApply s = .next s) ∧
    (s.served r = true → exec (.tbCmdAfeSync r) s = .next { s with tb := { s.tb with sync := 3 } }) ∧
    (s.tb.sync ≠ 0 → ∃ t, exec .afeSyncApply s = .next t ∧ t.tb = { s.tb with sync := 0 } ∧
      (∀ ch, s.tb.sync.testBit (ch / 64) = false → t.lane ch = s.lane ch) ∧
      (∀ ch, ch < 128 → s.tb.sync.testBit (ch / 64) = true → (t.lane ch).per = 3072 * s.tickNo ∧ (t.lane ch).prot = []) ∧
      (∀ ch, ch < 128 → s.tb.sync.testBit (ch / 64) = true → s.isSv (clOf ch) = false → s.stopped ch = false →
        (t.lane ch).reset = s.tickNo) ∧
          t = { s with regs := t.regs, supPend := t.supPend, tally := t.tally, buckets := t.buckets, tb := t.tb, lanes := t.lanes, wbs := t.wbs })) ∧
  (∀ (s : State) (r : Req), s.served r = true → ∃ t, exec (.tickIdxRead r) s = .next t ∧ t.answered r = s.rd Reg.TICK_IDX ∧
    t.snap r Reg.TICK_SEC_LO = w32 s.tick.shownSec ∧ t.snap r Reg.TICK_SEC_HI = w32 (s.tick.shownSec / 4294967296) ∧
    t = { s with rsp := t.rsp, snaps := t.snaps })
/-- The alarms and the time I/O pins (R413 to R423, R426, R427, R563, R564).
It rests on the model's readings in log entries 94, 95, 161 and 163. -/
def Obligations.AlarmsAndTimePins : Prop :=
  ∀ (s : State) (r : Req) (n : Fin 16) (p : Fin 4) (v : Word) (rising : Bool) (sec : Nat) (ns : Fin 1000000000),
    let k := n.val
    let ctrl := Reg.ALM_CTRL k
    let al := s.alm k
    let m := p.val
    let pin := s.pin m
    let mode := s.fld (Reg.TIO_CFG m) 2 0
    let may := s.mayWrite r (0x2000 + k) = true
    let Error (c : Instr) : Prop := s.served r = true → ∃ t, exec c s = .next t ∧ t.bit (Reg.ALM_STAT k) 3 = true ∧ t.bit Reg.INT_STAT_LO 28 = true ∧ t.alms = s.alms ∧
      t.armed k = s.armed k ∧ OnlyRegsSig s t [Reg.ALM_STAT k]
    let OthersA (t : State) : Prop := ∀ j, j ≠ k → t.alm j = s.alm j
    let OthersP (t : State) : Prop := ∀ j, j ≠ m → t.pin j = s.pin j
    let s1 := s.wr ctrl ((s.rd ctrl &&& 0x80000000) ||| (v &&& 0xF))
    let inst := ((s.rd (Reg.ALM_SEC_HI k)).toNat * 4294967296 + (s.rd (Reg.ALM_SEC_LO k)).toNat, s.fld (Reg.ALM_NS k) 29 0)
    let now := inNs (s.tb.sec, s.tb.ns)
    let bad := 999999999 < inst.2 ∨ (bitAt v 1 = true ∧ (tickAt inst.2 = none ∨ s.rd (Reg.ALM_PER k) = 0)) ∨ (bitAt v 1 = false ∧ inNs inst ≤ now)
    (s.mayWrite r (0x2000 + k) = false → Error (.almArm r n v) ∧ Error (.almDisarm r n v) ∧ ∀ j : Fin 5, Error (.almWrite r n j v)) ∧
    (may → (bitAt v 29 = true → Error (.almArm r n v)) ∧ (bitAt v 30 = true → Error (.almDisarm r n v)) ∧
      (s.armed k = true → bitAt v 1 ≠ s.bit ctrl 1 → Error (.almArm r n v) ∧ Error (.almDisarm r n v) ∧ Error (.almWrite r n 0 v))) ∧
    (may → bitAt v 29 = false → s.armed k = false ∨ bitAt v 1 = s.bit ctrl 1 →
      (bad → s.served r = true → ∃ t, exec (.almArm r n v) s = .next t ∧ t.bit (Reg.ALM_STAT k) 3 = true ∧ t.bit Reg.INT_STAT_LO 28 = true ∧
        t.alms = s.alms ∧ t.armed k = s.armed k ∧ OnlyRegsSig s t [ctrl, Reg.ALM_STAT k]) ∧
      (¬ bad → ∃ a, s1.armInstant k = some a ∧ (now < inNs inst → a = inst))) ∧
    (may → bitAt v 29 = false → s.armed k = false ∨ bitAt v 1 = s.bit ctrl 1 → ∀ a, s1.armInstant k = some a → s.served r = true → ∃ t, exec (.almArm r n v) s = .next t ∧
      t.armed k = true ∧ t.fld ctrl 3 0 = field v 3 0 ∧ t.alm k = { al with next := some a } ∧ OthersA t ∧ OnlyRegs s t [ctrl] ∧
      t = { s with regs := t.regs, alms := t.alms }) ∧
    (may → bitAt v 30 = false → s.armed k = false ∨ bitAt v 1 = s.bit ctrl 1 → s.served r = true → ∃ t, exec (.almDisarm r n v) s = .next t ∧ t.armed k = false ∧
      t.fld ctrl 3 0 = field v 3 0 ∧ t.alm k = { al with next := none } ∧ OthersA t ∧ OnlyRegs s t [ctrl] ∧
        t = { s with regs := t.regs, alms := t.alms }) ∧
    (may → s.armed k = false ∨ bitAt v 1 = s.bit ctrl 1 → s.served r = true → ∃ t, exec (.almWrite r n 0 v) s = .next t ∧ t.rd ctrl = (s.rd ctrl &&& 0x80000000) ||| (v
      &&& 0xF) ∧
      OnlyRegs s t [ctrl] ∧ t = { s with regs := t.regs }) ∧
    (s.armed k = true → ∀ j : Fin 5, j ≠ 0 → Error (.almWrite r n j v)) ∧
    (may → s.armed k = false →
      (s.served r = true → ∃ t, exec (.almWrite r n 1 v) s = .next t ∧ t.held r (Reg.ALM_SEC_LO k) = v ∧ t = { s with holds := t.holds }) ∧
      (s.served r = true → ∃ t, exec (.almWrite r n 2 v) s = .next t ∧ t.held r (Reg.ALM_SEC_HI k) = v ∧ t = { s with holds := t.holds }) ∧
      (s.served r = true → ∃ t, exec (.almWrite r n 3 v) s = .next t ∧ t.rd (Reg.ALM_SEC_LO k) = s.held r (Reg.ALM_SEC_LO k) ∧
        t.rd (Reg.ALM_SEC_HI k) = s.held r (Reg.ALM_SEC_HI k) ∧ t.rd (Reg.ALM_NS k) = v &&& 0x3FFFFFFF ∧
        OnlyRegs s t [Reg.ALM_SEC_LO k, Reg.ALM_SEC_HI k, Reg.ALM_NS k] ∧ t = { s with regs := t.regs }) ∧
      (v = 0 → s.bit ctrl 1 = true → Error (.almWrite r n 4 v)) ∧
      (v ≠ 0 ∨ s.bit ctrl 1 = false → s.served r = true → ∃ t, exec (.almWrite r n 4 v) s = .next t ∧ t.rd (Reg.ALM_PER k) = v ∧ OnlyRegs s t [Reg.ALM_PER k] ∧ t = { s with regs := t.regs })) ∧
    (∀ a, al.next = some a → inNs a ≤ inNs (s.tb.sec, s.tb.ns) → ∃ t, exec (.alarmFire n) s = .next t ∧ (t.alm k).last = a ∧
      (t.alm k).fires = al.fires + 1 ∧ t.bit (Reg.ALM_STAT k) 0 = true ∧ t.rd (Reg.ALM_LAST_NS k) = w32 a.2 ∧ t.rd (Reg.ALM_LAST_SEC k) = w32 a.1 ∧
      (s.bit ctrl 0 = true → t.bit Reg.INT_STAT_LO 29 = true) ∧ (s.bit ctrl 1 = false → t.armed k = false ∧ (t.alm k).next = none) ∧
      (s.bit ctrl 1 = true → t.armed k = s.armed k ∧ (t.alm k).next.isSome = true) ∧ OthersA t ∧
        t = { s with regs := t.regs, supPend := t.supPend, tb := t.tb, alms := t.alms, fio := t.fio, lathe := t.lathe, meter := t.meter }) ∧
    (al.next = none → exec (.alarmFire n) s = .next s) ∧
    (s.served r = true → ∃ t, exec (.almLastNsRead r n) s = .next t ∧ t.answered r = s.rd (Reg.ALM_LAST_NS k) ∧ t.snap r (Reg.ALM_LAST_SEC k) = s.rd (Reg.ALM_LAST_SEC
      k) ∧
      t = { s with rsp := t.rsp, snaps := t.snaps }) ∧
    (s.mayWrite r (0x1000 + m) = false → s.served r = true → ∃ t, exec (.tioModeWrite r p v) s = .next t ∧ t.bit Reg.TB_STAT 7 = true ∧ t.bit Reg.INT_STAT_LO 28 = true ∧
      t.pins = s.pins ∧ OnlyRegsSig s t [Reg.TB_STAT]) ∧
    (s.mayWrite r (0x1000 + m) = true → s.served r = true → ∃ t, exec (.tioModeWrite r p v) s = .next t ∧ t.rd (Reg.TIO_CFG m) = v &&& 0xF7 ∧ (field v 2 0 = mode →
      t.pins = s.pins) ∧
      (field v 2 0 ≠ mode → (t.pin m).active = false ∧ (t.pin m).fifo = pin.fifo) ∧ OthersP t ∧ OnlyRegs s t [Reg.TIO_CFG m] ∧
        t = { s with regs := t.regs, supPend := t.supPend, tally := t.tally, buckets := t.buckets, pins := t.pins }) ∧
    (mode = 2 → s.bit (Reg.TIO_CFG m) (if rising then 4 else 5) = true → ∃ t, exec (.tioCapture p rising sec ns) s = .next t ∧
      (pin.fifo.length < 8 → (t.pin m).fifo = pin.fifo ++ [{ at_ := s.tioStamp m sec ns.val, tq := s.tq }] ∧
        t.fld (Reg.TIO_STAT m) 3 0 = pin.fifo.length + 1) ∧
      (8 ≤ pin.fifo.length → (t.pin m).fifo = pin.fifo ∧ (t.pin m).overflowed = true ∧
        t.fld (Reg.TIO_STAT m) 31 16 = min 65535 (s.fld (Reg.TIO_STAT m) 31 16 + 1)) ∧ OthersP t ∧
          t = { s with regs := t.regs, supPend := t.supPend, tally := t.tally, buckets := t.buckets, tb := t.tb, pins := t.pins }) ∧
    (mode ≠ 2 ∨ s.bit (Reg.TIO_CFG m) (if rising then 4 else 5) = false → exec (.tioCapture p rising sec ns) s = .next s) ∧
    (mode = 1 → pin.fifo.length < 8 → ∃ t, exec (.ppsInEdge p sec ns) s = .next t ∧
      (t.pin m).fifo = pin.fifo ++ [{ at_ := s.tioStamp m sec ns.val, tq := s.tq }] ∧ OthersP t ∧
      ((∀ x, pin.lastPps = some x → x + 900000000 ≤ stampNs (s.tioStamp m sec ns.val)) → (t.pin m).lastPps = some (stampNs (s.tioStamp m sec
        ns.val))) ∧
      (∀ x, pin.lastPps = some x → stampNs (s.tioStamp m sec ns.val) < x + 900000000 → (t.pin m).lastPps = some x ∧
        t.fld (Reg.TIO_STAT m) 15 8 = min 255 (s.fld (Reg.TIO_STAT m) 15 8 + 1) ∧ t.bit Reg.INT_STAT_LO 29 = true)) ∧
    (mode ≠ 1 → exec (.ppsInEdge p sec ns) s = .next s) ∧
    (∀ e, pin.edgeAt = some e → pin.active = false → ∃ t, exec (.tioPulseEdge p) s = .next t ∧ t.pin m = { pin with active := true } ∧ OthersP t ∧
      t = { s with regs := t.regs, tb := t.tb, pins := t.pins }) ∧
    (∀ e, pin.edgeAt = some e → pin.active = true → ∃ t, exec (.tioPulseEdge p) s = .next t ∧ (t.pin m).active = false ∧ (t.pin m).pulse = pin.pulse
      + 1 ∧
      (mode = 3 → (t.pin m).edgeAt = some (e + 1000000000)) ∧
      (mode ≠ 3 → (s.rd (Reg.TIO_COUNT m)).toNat ≠ 0 → (s.rd (Reg.TIO_COUNT m)).toNat ≤ pin.pulse + 1 →
        (t.pin m).edgeAt = none ∧ t.bit (Reg.TIO_STAT m) 4 = true) ∧ OthersP t) ∧
    (pin.edgeAt = none → exec (.tioPulseEdge p) s = .next s) ∧
    (∀ (c : Capture) (cs : List Capture), pin.fifo = c :: cs → s.served r = true → ∃ t, exec (.tioCapNsRead r p) s = .next t ∧
      t.answered r = w32 (c.tq * 0x40000000 + c.at_.ns) ∧ (t.pin m).fifo = cs ∧ t.fld (Reg.TIO_STAT m) 3 0 = cs.length % 16 ∧
      t.snap r (Reg.TIO_CAP_SEC_LO m) = w32 c.at_.sec ∧ OthersP t ∧ OnlyRegs s t [Reg.TIO_STAT m, Reg.TIO_CAP_NS m]) ∧
    (pin.fifo = [] → s.served r = true → ∃ t, exec (.tioCapNsRead r p) s = .next t ∧ (s.rd (Reg.TIO_CAP_NS m) = 0 → t.answered r = 0) ∧
      (s.rd (Reg.TIO_CAP_NS m) ≠ 0 → t.answered r = Config.emptyHead (Reg.TIO_CAP_NS m) s.freeCtr) ∧
      t = { s with rsp := t.rsp, freeCtr := t.freeCtr })

/-! ### Field channels and the field link (chapters 01 and 15) -/

/-- Settings, drives, groups, edges and pulse counts of the field channels (R495 to R506, R514, R518): an allowed write takes effect and a
refused one sets its flag and changes no setting. Stated where no ended image claim waits for its channel to be let go (`ended` empty), for such
a claim is settled by whichever command ends the use. The field die's outputs, supplies and logic (R507 to R511, R514): a mismatch, overload,
thermal shutdown or supply condition shows its flags while the link is up, and off outputs are off.
It rests on the model's readings in log entries 107, 108, 141, 142 and 170. -/
def Obligations.FieldDieChannelsAndFaults : Prop :=
  (∀ (s : State) (r : Req) (n : Fin 48) (b : Fin 6) (hi on : Bool) (v : Word) (sec : Nat) (ns : Fin 1000000000), s.ended = [] →
    let k := n.val
    let d := s.field_
    let cmd := [Reg.FIO_CMD_LO, Reg.FIO_CMD_HI]
    let cfg := Reg.FIO_CFG k
    let drv := if hi then Reg.FIO_DRV_HI else Reg.FIO_DRV_LO
    let grp := Reg.FIO_GRP b.val
    (s.fioCfgCause r k v = none → s.served r = true → ∃ t, exec (.fioCfgWrite r n v) s = .next t ∧ t.rd cfg = v &&& 0xFE007FFF ∧
      (bitAt v 27 = true → s.bit cfg 27 = false → t.rd (Reg.FIO_PCNT k) = 0 ∧ t.fio.pcRestart.getLsbD k = true) ∧
      (bitAt v 26 ≠ s.bit cfg 26 → t.rd (Reg.FIO_PCNT k) = 0) ∧
      (bitAt v 27 = s.bit cfg 27 → bitAt v 26 = s.bit cfg 26 → t.rd (Reg.FIO_PCNT k) = s.rd (Reg.FIO_PCNT k) ∧ t.fio = s.fio) ∧
      t.field_ = s.field_ ∧ (s.lightStale = [] → bitAt v 31 = s.bit cfg 31 → OnlyRegs s t (cfg :: Reg.FIO_PCNT k :: cmd)) ∧
        t = { s with regs := t.regs, ended := t.ended, supPend := t.supPend, tally := t.tally, buckets := t.buckets, pins := t.pins, dets := t.dets, cans := t.cans, eth := t.eth, fio := t.fio, lines := t.lines })
        ∧
    (s.fioCfgCause r k v ≠ none → s.lightStale = [] → s.served r = true → ∃ t, exec (.fioCfgWrite r n v) s = .next t ∧ t.rd cfg = s.rd cfg ∧ t.bit Reg.FIO_FSTAT 6 = true ∧
      t.bit Reg.INT_STAT_HI 8 = true ∧ OnlyRegsSig s t (Reg.FIO_FSTAT :: cmd) ∧ t.field_ = s.field_) ∧
    (s.served r = true → ∃ t, exec (.fioDrvWrite r hi v) s = .next t ∧ (∀ i, i < (if hi then 16 else 32) →
        t.bit drv i = if s.mayWrite r (fioRes (if hi then 32 + i else i)) then bitAt v i else s.bit drv i) ∧
      (∀ i, (if hi then 16 else 32) ≤ i → t.bit drv i = s.bit drv i) ∧
      OnlyRegsSig s t (drv :: Reg.FIO_FSTAT :: cmd) ∧
        t = { s with regs := t.regs, ended := t.ended, supPend := t.supPend, tally := t.tally, buckets := t.buckets, pins := t.pins }) ∧
    (∀ i, i < 6 → (∀ m, m < 6 → m ≠ i → bitAt v m = s.bit grp m) → bitAt v i ≠ s.bit grp i →
      (s.fioGrpCause r b.val i v = none → s.served r = true → ∃ t, exec (.fioGrpWrite r b v) s = .next t ∧
        t.rd grp = putField (s.rd grp) i i (b2n (bitAt v i)) ∧ OnlyRegs s t (grp :: cmd) ∧
          t = { s with regs := t.regs, ended := t.ended, supPend := t.supPend, tally := t.tally, buckets := t.buckets, pins := t.pins }) ∧
      (s.fioGrpCause r b.val i v ≠ none → s.served r = true → ∃ t, exec (.fioGrpWrite r b v) s = .next t ∧
        t.bit Reg.FIO_FSTAT 6 = true ∧ t.rd grp = s.rd grp ∧ OnlyRegsSig s t (Reg.FIO_FSTAT :: cmd))) ∧
    (∀ q p, q < 2 → p / 2 = q → s.bit grp (4 + q) = true → v &&& 0x3F = putField (putField (s.rd grp &&& 0x3F) (4 + q) (4 + q) 0) p p 1 →
      s.bit grp p = false → s.fioGrpCause r b.val (4 + q) v = none →
      (s.wr grp (putField (s.rd grp) (4 + q) (4 + q) 0)).fioGrpCause r b.val p v = none → s.served r = true →
      ∃ t, exec (.fioGrpWrite r b v) s = .next t ∧ t.bit grp (4 + q) = false ∧ t.bit grp p = true ∧ OnlyRegs s t (grp :: cmd)) ∧
    (d.up = false ∨ d.filt.getLsbD k = on → exec (.fioInputEdge n on sec ns) s = .next s) ∧
    (d.up = true → d.filt.getLsbD k ≠ on → d.raw.getLsbD k ≠ on ∨ (SMap.get (fun _ => none) d.runs k).isSome = true →
      (d.buf.length < 64 → ∃ t, exec (.fioInputEdge n on sec ns) s = .next t ∧ t.field_.filt.getLsbD k = on ∧ t.field_.raw.getLsbD k = on ∧
        t.fioIn k = s.fioIn k ∧ t.fio.taken = s.fio.taken ∧ t.fio.log = s.fio.log ∧ t.field_.nextNum = (d.nextNum + 1) % 65536 ∧
        t.field_.buf.length = d.buf.length + 1 ∧
        (∃ e ∈ t.field_.buf, e.ch = k ∧ e.rise = on ∧ e.num = d.nextNum ∧ e.output = s.fdIsOut k ∧ e.buffered = d.silent.isSome ∧
          (d.raw.getLsbD k ≠ on → d.silent = none → d.drift = 0 →
            stampNs e.at_ = (sec * 1000000000 + ns.val + 999) / 1000 * 1000 - 1000 ∧ e.at_.epoch = s.epoch) ∧
          (∀ x, d.raw.getLsbD k = on → SMap.get (fun _ => none) d.runs k = some x → e.at_ = x.at_ ∧ e.tq = x.tq)) ∧
        (d.buf = [] → t.field_.buf.map (·.num) = [d.nextNum]) ∧
          t = { s with regs := t.regs, ended := t.ended, holds := t.holds, supPend := t.supPend, tally := t.tally, buckets := t.buckets, tb := t.tb, pins := t.pins, dets := t.dets, light := t.light, cans := t.cans, eth := t.eth, field_ := t.field_, fio := t.fio, lines := t.lines, freeCtr := t.freeCtr })
          ∧
      (64 ≤ d.buf.length → ∃ t, exec (.fioInputEdge n on sec ns) s = .next t ∧ t.field_.filt.getLsbD k = on ∧
        t.field_.buf = d.buf ∧ t.field_.dropped = d.dropped + 1)) ∧
    (∀ e es, s.fio.log = e :: es → es.length < 256 → s.served r = true → ∃ t, exec (.fioEvtNsRead r) s = .next t ∧ t.fio.log = es ∧
      t.answered r = w32 (e.tq * 1073741824 + e.at_.ns) ∧ t.snap r Reg.FIO_EVT_SEC = w32 e.at_.sec ∧ t.snap r Reg.FIO_EVT_CH = w32 e.ch ∧
      t.fld Reg.FIO_EVT_STAT 8 0 = es.length ∧ OnlyRegs s t [Reg.FIO_EVT_STAT, Reg.FIO_EVT_NS] ∧
        t = { s with regs := t.regs, rsp := t.rsp, snaps := t.snaps, tally := t.tally, buckets := t.buckets, fio := t.fio, freeCtr := t.freeCtr }) ∧
    (s.fio.log = [] → s.served r = true → ∃ t, exec (.fioEvtNsRead r) s = .next t ∧
      (s.rd Reg.FIO_EVT_NS = 0 → t.answered r = 0) ∧ t = { s with rsp := t.rsp, freeCtr := t.freeCtr }) ∧
    (s.fio.snapAt = none → exec .fioPulseSnapshot s = .next s) ∧
    (∀ a, s.fio.snapAt = some a → ∃ t, exec .fioPulseSnapshot s = .next t ∧ t.fio.snapAt = none ∧
      t.fld Reg.FIO_PSNAP_SEQ 15 0 = (s.fld Reg.METER_STAT 15 0 + 1) % 65536 ∧
      (∀ m, m < 48 → t.rd (Reg.FIO_PSNAP m) = if s.fio.snapLeft.getLsbD m = false then s.rd (Reg.FIO_PSNAP m)
        else if s.flkUp then w32 (SMap.get (fun _ => 0) s.fio.snapBase m) else s.rd (Reg.FIO_PCNT m)) ∧
      (s.fio.snapStale = true ∨ (s.flkUp = false ∧ s.fio.snapLeft ≠ 0) → t.bit Reg.FIO_PSNAP_SEQ 16 = true ∧ t.bit Reg.INT_STAT_HI 8 = true) ∧
        t = { s with regs := t.regs, supPend := t.supPend, tally := t.tally, buckets := t.buckets, tb := t.tb, fio := t.fio })) ∧
  (∀ (s : State) (n : Fin 48) (b : Fin 6) (mv : BitVec 16),
    let k := n.val
    let d := s.field_
    let v := mv.toNat
    let Reports (t : State) (x : FieldRep) : Prop := t.field_.reports = d.reports ++ [x] ∧ t = { s with field_ := t.field_ }
    let Supplied (i : Instr) (kind : Nat) : Prop := ∃ t, exec i s = .next t ∧ t.bankMv b.val = v ∧ (∀ m, m ≠ b.val → t.bankMv m = s.bankMv m) ∧
      (∀ m, m < 6 → t.field_.warn.getLsbD m = (if m = b.val ∧ kind = 1 then true else if m = b.val ∧ kind = 2 then false else d.warn.getLsbD m)) ∧
      (∀ m, m < 6 → t.field_.uvlo.getLsbD m = (if m = b.val ∧ kind = 3 then true else if m = b.val ∧ kind = 4 then false else d.uvlo.getLsbD m)) ∧
      Reports t (.supply b.val kind v)
    (d.up = true →
      (d.warn.getLsbD b.val = false → v < 18000 → Supplied (.vfieldWarn b mv) 1) ∧
      (d.warn.getLsbD b.val = true → 19000 < v → Supplied (.vfieldWarnClear b mv) 2) ∧
      (d.uvlo.getLsbD b.val = false → v < 9500 → Supplied (.vfieldUvlo b mv) 3 ∧ ∃ t, exec (.vfieldUvlo b mv) s = .next t ∧ (b.val = k / 8 →
        t.fdDriven k = false)) ∧
      (d.uvlo.getLsbD b.val = true → 11000 < v → Supplied (.vfieldUvloRecover b mv) 4)) ∧
    (18000 ≤ v → exec (.vfieldWarn b mv) s = .next s) ∧ (v ≤ 19000 → exec (.vfieldWarnClear b mv) s = .next s) ∧
    (9500 ≤ v → exec (.vfieldUvlo b mv) s = .next s) ∧ (v ≤ 11000 → exec (.vfieldUvloRecover b mv) s = .next s) ∧
    (∀ since, SMap.get (fun _ => none) d.diff k = some since → d.mm.getLsbD k = false → ∃ t, exec (.fioMismatch n) s = .next t ∧
      t.field_.mm.getLsbD k = true ∧ (∀ m, m ≠ k → t.field_.mm.getLsbD m = d.mm.getLsbD m) ∧
      t.field_.reports = d.reports ++ [.fault k (if s.fdDriven k then 2 else 1) (s.bankMv (k / 8))] ∧
      max since (SMap.get (fun _ => 0) d.blank k) + (field (s.fdCfg k) 14 0 - 1) * 250 ≤ t.tb.cnt ∧
      t.field_ = { d with mm := t.field_.mm, reports := t.field_.reports } ∧
        t = { s with regs := t.regs, tb := t.tb, field_ := t.field_ }) ∧
    (SMap.get (fun _ => none) d.diff k = none ∨ d.mm.getLsbD k = true → exec (.fioMismatch n) s = .next s) ∧
    (s.fdDriven k = false → exec (.fioOvercurrent n) s = .next s ∧ exec (.fioThermalOff n) s = .next s) ∧
    (s.fdDriven k = true →
      (∃ t, exec (.fioOvercurrent n) s = .next t ∧ t.field_.limit.getLsbD k = true ∧ t.fdDriven k = true ∧
        Reports t (.fault k 3 (s.bankMv (k / 8)))) ∧
      (∃ t, exec (.fioThermalOff n) s = .next t ∧ t.field_.therm.getLsbD k = true ∧ t.fdDriven k = false ∧ t.field_.limit.getLsbD k = false ∧
        (∀ m, m ≠ k → t.fdDriven m = s.fdDriven m) ∧ Reports t (.fault k 4 (s.bankMv (k / 8))))) ∧
    (d.therm.getLsbD k = false → exec (.fioThermalOn n) s = .next s) ∧
    (d.therm.getLsbD k = true → ∃ t, exec (.fioThermalOn n) s = .next t ∧ t.field_.therm.getLsbD k = false ∧
      (∀ m, m ≠ k → t.fdDriven m = s.fdDriven m) ∧ SMap.get (fun _ => 0) t.field_.blank k = s.tb.cnt + (if k < 16 then 5000 else 25000) ∧
      t.field_.reports = d.reports ∧ t = { s with field_ := t.field_ }) ∧
    (d.up = false → exec .fieldLogicStop s = .next s) ∧
    (d.up = true → ∃ t, exec .fieldLogicStop s = .next t ∧ t.field_.up = false ∧ t.field_.cmd = 0 ∧ t.field_.outEn = false ∧ t.field_.ok = false ∧
      t.bit Reg.FIO_STAT 2 = false ∧ t.field_.uvlo = 63 ∧ (∀ m, m < 6 → t.bankMv m < 9000) ∧ (∀ m, t.fdDriven m = false) ∧
      OnlyRegs s t [Reg.FIO_STAT] ∧ t = { s with regs := t.regs, field_ := t.field_ }) ∧
    (d.up = true ∨ v < 9000 → exec (.fieldLogicStart mv) s = .next s) ∧
    (d.up = false → 9000 ≤ v → ∃ t, exec (.fieldLogicStart mv) s = .next t ∧ t.field_.up = true ∧ t.field_.hold = true ∧ t.field_.cmd = 0 ∧
      t.field_.outEn = false ∧ t.field_.buf = [] ∧ t.field_.restart = (if d.ran then some v else none) ∧ t.field_.ok = false ∧
      (∀ m, t.fdDriven m = false) ∧ OnlyRegs s t [Reg.FIO_STAT] ∧ t = { s with regs := t.regs, field_ := t.field_ }) ∧
    (d.up = false ∨ d.silent.isSome = true → exec .fieldSilence s = .next s) ∧
    (d.up = true → d.silent = none → ∃ t, exec .fieldSilence s = .next t ∧ t.field_.ok = false ∧ t.bit Reg.FIO_STAT 2 = false ∧
      t.field_.silent = some (s.tb.cnt - 25000) ∧ t.field_.cmd = d.cmd ∧ t.field_.outEn = d.outEn ∧ t.field_.buf = d.buf ∧
      (∀ m, t.fdDriven m = s.fdDriven m) ∧ OnlyRegs s t [Reg.FIO_STAT] ∧ t = { s with regs := t.regs, field_ := t.field_ }))

/-- Frames of the field link and its loss (R15, R19, R20, R22, R511, R513, R515).
It rests on the model's readings in log entries 108, 140, 141 and 170. -/
def Obligations.FieldLinkFrames : Prop :=
  ∀ (s : State) (seq : BitVec 8),
    let d := s.field_
    let l := s.link 10
    (d.up = false → ∀ ok, exec (.flkFrameToField { seq := seq, crcOk := ok }) s = .next s ∧ exec (.flkFrameFromField seq ok) s = .next s) ∧
    (d.up = true → s.fieldSearches = true ∨ seq.toNat = d.seq → ∃ t, exec (.flkFrameToField { seq := seq, crcOk := true }) s = .next t ∧
      t.field_.seq = (seq.toNat + 1) % 256 ∧
      t.field_.buf = (if d.hold then [] else d.buf.filter (fun e => !s.fio.taken.contains e.num)) ∧ t.fio.taken = [] ∧
      (∀ k, k < 48 → t.fdCfg k = s.rd (Reg.FIO_CFG k)) ∧
      t.field_.cmd = BitVec.ofNat 48 ((s.rd Reg.FIO_CMD_LO).toNat + (s.rd Reg.FIO_CMD_HI).toNat * 4294967296) ∧
      t.field_.outEn = s.bit Reg.FIO_STAT 3 ∧ t.field_.ok = s.bit Reg.FIO_STAT 3 ∧ t.bit Reg.FIO_STAT 2 = s.bit Reg.FIO_STAT 3 ∧
      t.field_.hold = false ∧ t.field_.silent = none ∧ t.field_.drift = 0 ∧ t.field_.filt = d.filt ∧
      (∀ k, k < 48 → SMap.get (fun _ => 0) t.field_.counts k = s.fdCount k) ∧
      (∀ k, k < 48 → (SMap.get (fun _ => none) t.field_.diff k).isSome = t.fdDiffers k) ∧
      (∀ k, k < 48 → (d.outEn && d.cmd.getLsbD k) ≠ (t.field_.outEn && t.field_.cmd.getLsbD k) →
        SMap.get (fun _ => 0) t.field_.blank k = s.tb.cnt + (if k < 16 then 5000 else 25000)) ∧ OnlyRegs s t [Reg.FIO_STAT] ∧
        t = { s with regs := t.regs, supPend := t.supPend, links := t.links, tally := t.tally, buckets := t.buckets, field_ := t.field_, fio := t.fio, pair := t.pair })
        ∧
    (d.up = true → s.fieldSearches = true → exec (.flkFrameToField { seq := seq, crcOk := false }) s = .next s) ∧
    (d.up = true → s.flkUp = false → exec (.flkFrameFromField seq false) s = .next s) ∧
    (d.up = true → s.flkUp = true → s.fieldSearches = false → seq.toNat ≠ d.seq → ∃ t, exec (.flkFrameToField { seq := seq, crcOk := true }) s = .next t ∧
      t.field_ = { d with seq := (seq.toNat + 1) % 256 } ∧ (t.link 10).consec = l.consec + 1 ∧ t.bit Reg.DLK_STAT 26 = true ∧
      t.fld (Reg.DLK_ERRCNT 10) 31 16 = min 65535 (s.fld (Reg.DLK_ERRCNT 10) 31 16 + 1) ∧ t.bit Reg.INT_STAT_HI 8 = true) ∧
    (d.up = true → s.flkUp = true → s.fieldSearches = false → ∃ t, exec (.flkFrameToField { seq := seq, crcOk := false }) s = .next t ∧
      t.field_ = { d with seq := (d.seq + 1) % 256 } ∧ (t.link 10).consec = l.consec + 1 ∧
      t.bit Reg.DLK_STAT 26 = true ∧ t.fld (Reg.DLK_ERRCNT 10) 15 0 = min 65535 (s.fld (Reg.DLK_ERRCNT 10) 15 0 + 1) ∧ t.bit Reg.INT_STAT_HI 8 =
        true) ∧
    (d.up = true → s.flkUp = true → ∃ t, exec (.flkFrameFromField seq false) s = .next t ∧ t.field_ = d ∧ (t.link 10).consec = l.consec + 1 ∧
      (t.link 10).seq = (l.seq + 1) % 256 ∧ t.bit Reg.DLK_STAT 26 = true ∧
      t.fld (Reg.DLK_ERRCNT 10) 15 0 = min 65535 (s.fld (Reg.DLK_ERRCNT 10) 15 0 + 1)) ∧
    (d.up = true → s.flkUp = true → seq.toNat ≠ l.seq → ∃ t, exec (.flkFrameFromField seq true) s = .next t ∧ t.field_ = d ∧
      (t.link 10).consec = l.consec + 1 ∧ (t.link 10).seq = (seq.toNat + 1) % 256 ∧
      t.fld (Reg.DLK_ERRCNT 10) 31 16 = min 65535 (s.fld (Reg.DLK_ERRCNT 10) 31 16 + 1)) ∧
    (d.up = true → s.flkUp = true ∧ seq.toNat = l.seq ∨ s.flkUp = false → ∃ t, exec (.flkFrameFromField seq true) s = .next t ∧ t.flkUp = true ∧
      (t.link 10).consec = 0 ∧ (t.link 10).seq = (seq.toNat + 1) % 256 ∧ t.field_.reports = [] ∧ t.field_.restart = none ∧
      t.field_.silence = none ∧ t.field_.dropped = 0 ∧ t.rd Reg.FIO_IN_LO = w32 d.filt.toNat ∧ t.rd Reg.FIO_IN_HI = w32 (d.filt.toNat / 4294967296) ∧
      t.rd Reg.FIO_RAW_LO = w32 d.raw.toNat ∧ t.rd Reg.FIO_MM_LO = w32 d.mm.toNat ∧
      t.bit Reg.FIO_STAT 0 = true ∧ t.bit Reg.FIO_STAT 2 = d.ok ∧ t.field_.buf = d.buf ∧
      (d.restart.isSome = true → t.bit Reg.FIO_FSTAT 7 = true) ∧ (d.silence.isSome = true → t.bit Reg.FIO_FSTAT 8 = true) ∧
      (d.dropped ≠ 0 → t.bit Reg.FIO_FSTAT 4 = true) ∧
      (∀ b, b < 6 → t.bit (Reg.FIO_BANK b) 16 = d.warn.getLsbD b ∧ t.bit (Reg.FIO_BANK b) 17 = d.uvlo.getLsbD b) ∧
      (∀ k, k < 48 → t.bit (Reg.FIO_FLT k) 8 = d.therm.getLsbD k) ∧
      (∀ k, k < 48 → d.hold = false → s.fio.pcRestart.getLsbD k = false → t.rd (Reg.FIO_PCNT k) = w32 (SMap.get (fun _ => 0) d.counts k)) ∧
      (∀ (n : Fin 48) (kind : Fin 4) (mv : Nat), d.reports = [.fault n.val (kind.val + 1) mv] →
        kind.val ≠ 0 ∨ s.bit (Reg.FIO_CFG n.val) 25 = false ∨ s.paired = false →
        t.bit (Reg.FIO_FLT n.val) kind.val = true ∧ t.bit Reg.FIO_FSTAT kind.val = true ∧
        (kind.val = 3 → t.fld (Reg.FIO_FLT n.val) 31 24 = min 255 (s.fld (Reg.FIO_FLT n.val) 31 24 + 1))) ∧
      (∀ (b : Fin 6) (kind : Fin 4) (mv : Nat), d.reports = [.supply b.val (kind.val + 1) mv] → t.bit Reg.INT_STAT_HI 9 = true ∧
        (kind.val = 0 → t.bit (Reg.FIO_BANK b.val) 18 = true) ∧ (kind.val = 2 → t.bit (Reg.FIO_BANK b.val) 19 = true)) ∧
      (∀ e, d.buf = [e] → e.num ∉ s.fio.taken → e.num ∈ t.fio.taken ∧ (e.ch < 48 → e.rise = true → t.fio.rise.getLsbD e.ch = true) ∧
        (e.ch < 48 → e.rise = false → t.fio.fall.getLsbD e.ch = true)) ∧
        t = { s with regs := t.regs, ended := t.ended, holds := t.holds, supPend := t.supPend, links := t.links, tally := t.tally, buckets := t.buckets, pins := t.pins, dets := t.dets, cans := t.cans, eth := t.eth, field_ := t.field_, fio := t.fio, lines := t.lines, pair := t.pair, freeCtr := t.freeCtr })
        ∧
    (s.flkUp = false → exec .flkDown s = .next s) ∧
    (s.flkUp = true → ∃ t, exec .flkDown s = .next t ∧ t.flkUp = false ∧ t.bit Reg.FIO_STAT 1 = false ∧ t.bit Reg.FIO_STAT 0 = d.up ∧
      (t.link 10).downAt = s.tb.cnt ∧ t.bit Reg.INT_STAT_HI 8 = true ∧ t.field_ = d ∧
        t = { s with regs := t.regs, ended := t.ended, supPend := t.supPend, links := t.links, tally := t.tally, buckets := t.buckets, pins := t.pins, dets := t.dets, cans := t.cans, eth := t.eth, fio := t.fio, lines := t.lines })

/-! ### Ethernet, sampled values and GOOSE (chapter 13) -/

/-- The switch (R430, R432, R433, R437, R439, R441, R462, R467): received and sent frames are counted, addresses learned and aged, links and
paths followed, and settings applied or refused.
It rests on the model's readings in log entries 101, 102, 164, 165, 166 and 167. -/
def Obligations.EthernetSwitch : Prop :=
  ∀ (s : State) (p : Fin 5) (pl : Fin 4) (pr : Fin 2) (r : Req) (frame : Bytes) (sec : Nat) (ns : Fin 1000000000) (mac : BitVec 48) (up : Bool)
    (speed : Fin 3) (v : Word),
    let port := p.val
    let istat := Reg.ETH_ISTAT
    (s.portUp port = false → (∀ ok, exec (.ethFrameRx p frame ok sec ns) s = .next s) ∧ exec (.ethFrameEgress p sec ns) s = .next s) ∧
    (s.portUp port = true → port ≠ 4 →
      (∃ t, exec (.ethFrameRx p frame true sec ns) s = .next t ∧
        t.fld (Reg.ETH_RXCNT port) 31 0 = min 4294967295 (s.fld (Reg.ETH_RXCNT port) 31 0 + 1) ∧
          t = { s with regs := t.regs, supPend := t.supPend, tally := t.tally, buckets := t.buckets, tb := t.tb, eth := t.eth }) ∧
      (∃ t, exec (.ethFrameRx p frame false sec ns) s = .next t ∧ t.eth = s.eth ∧
        t.fld (Reg.ETH_DROP port) 15 0 = min 65535 (s.fld (Reg.ETH_DROP port) 15 0 + 1) ∧ t.rd (Reg.ETH_RXCNT port) = s.rd (Reg.ETH_RXCNT port))) ∧
    (let f := ethParse false (port == 2 && s.eth.redbox && decide (s.eth.kind ≠ 0)) frame
     let pvid := s.fld (Reg.ETH_PCFG port) 27 16
     let vid := match f.tag with
       | some (_, x) => if x = 0 then pvid else x
       | none => pvid
     ∀ members untag, s.portUp port = true → s.eth.red = 0 → s.vlanPorts vid = some (members, untag) →
       (members.testBit port = true → ∃ t, exec (.ethFrameRx p frame true sec ns) s = .next t ∧ t.lookup f.src = some port ∧
         (s.eth.fdb.length < 4096 → ∀ m, m ≠ f.src → t.lookup m = s.lookup m)) ∧
       (members.testBit port = false → ∃ t, exec (.ethFrameRx p frame true sec ns) s = .next t ∧ t.eth = s.eth)) ∧
    (s.ethHeadOf port = none → exec (.ethFrameEgress p sec ns) s = .next s) ∧
    (∀ q f, s.portUp port = true → s.ethHeadOf port = some (q, f) → ∃ t, exec (.ethFrameEgress p sec ns) s = .next t ∧
      t.ethQ port q = (s.ethQ port q).tail ∧
      (∀ n, n ≠ 8 * port + q → SMap.get (fun _ => []) t.eth.queues n = SMap.get (fun _ => []) s.eth.queues n) ∧
      (ptpAt f.bytes = none ∨ port = 4 → SMap.get (fun _ => []) t.eth.wire port = f.bytes) ∧
      (port ≠ 4 → t.fld (Reg.ETH_TXCNT port) 31 0 = min 4294967295 (s.fld (Reg.ETH_TXCNT port) 31 0 + 1)) ∧
        t = { s with regs := t.regs, supPend := t.supPend, tally := t.tally, buckets := t.buckets, tb := t.tb, eth := t.eth }) ∧
    (s.eth.red ≠ 1 ∨ s.netOn = false → exec .prpSupervisionSend s = .next s) ∧
    (s.eth.red = 1 → s.netOn = true → ∃ t, exec .prpSupervisionSend s = .next t ∧ t.eth.supSeq = (s.eth.supSeq + 1) % 65536 ∧
      t.eth.fdb = s.eth.fdb ∧ t.tb.cnt = max s.tb.cnt (s.eth.supAt + s.fld Reg.ETH_RED_CFG 31 16 * 250000) ∧ t.eth.supAt = t.tb.cnt ∧
      OnlyRegs s t [Reg.ETH_DROP 0, Reg.ETH_DROP 1, Reg.PAIR_DRILL_AGE, Reg.TB_RTC_SEC_LO, Reg.TB_RTC_SEC_HI] ∧ t = { s with regs := t.regs, tb := t.tb, eth := t.eth }) ∧
    (s.lookup mac.toNat = none → exec (.addressAgeing mac) s = .next s) ∧
    (∀ d, s.lookup mac.toNat = some d → ∃ t, exec (.addressAgeing mac) s = .next t ∧ t.lookup mac.toNat = none ∧
      (∀ m, m ≠ mac.toNat → t.lookup m = s.lookup m) ∧ t = { s with regs := t.regs, tb := t.tb, eth := t.eth }) ∧
    (let on := up && s.netOn && decide (s.fld (Reg.ETH_PCFG pl.val) 2 0 ≠ 0)
     (s.bit Reg.ETH_STAT pl.val = on → exec (.ethLink pl up speed) s = .next s) ∧
     (s.bit Reg.ETH_STAT pl.val ≠ on → ∃ t, exec (.ethLink pl up speed) s = .next t ∧ t.bit Reg.ETH_STAT pl.val = on ∧
       t.bit (Reg.ETH_PSTAT pl.val) 0 = on ∧ t.fld (Reg.ETH_PSTAT pl.val) 2 1 = portSpeed (s.fld (Reg.ETH_PCFG pl.val) 2 0) speed.val ∧ t.bit istat (12 + pl.val) = true ∧
       t.bit Reg.INT_STAT_LO (24 + pl.val) = true ∧ OnlyRegsSig s t [Reg.ETH_STAT, Reg.ETH_PSTAT pl.val, istat] ∧
         t = { s with regs := t.regs, supPend := t.supPend, tally := t.tally, buckets := t.buckets, eth := t.eth })) ∧
    (s.bit (Reg.ETH_PSTAT pr.val) 3 = false → exec (.redPathLost pr) s = .next s) ∧
    (s.bit (Reg.ETH_PSTAT pr.val) 3 = true → ∃ t, exec (.redPathLost pr) s = .next t ∧ t.bit (Reg.ETH_PSTAT pr.val) 3 = false ∧
      t.bit istat (16 + pr.val) = true ∧ t.bit Reg.INT_STAT_LO (24 + pr.val) = true ∧
        t = { s with regs := t.regs, supPend := t.supPend, tally := t.tally, buckets := t.buckets, tb := t.tb }) ∧
    (field v 1 0 = 3 ∨ field v 5 4 = 3 → s.served r = true → ∃ t, exec (.ethApply r v) s = .next t ∧ t.bit istat 4 = true ∧ t.bit Reg.INT_STAT_LO 24 = true ∧
      t.eth = s.eth ∧ OnlyRegsSig s t [istat]) ∧
    (field v 1 0 ≠ 3 → field v 5 4 ≠ 3 → s.served r = true → ∃ t, exec (.ethApply r v) s = .next t ∧ t.rd Reg.ETH_CTRL = v &&& 0x337 ∧ t.eth.red = field v 1 0 ∧
      t.eth.redbox = bitAt v 2 ∧ t.eth.kind = field v 5 4 ∧ t.eth.dup = [] ∧ t.eth.fwd = [] ∧ t.eth.queues = s.eth.queues ∧
      OnlyRegs s t [Reg.ETH_CTRL]) ∧
    (∀ x xs, s.eth.txts = x :: xs → xs.length < 64 → s.served r = true → ∃ t, exec (.ethTxtsNsRead r) s = .next t ∧ t.eth.txts = xs ∧ t.answered r = w32 x.ns ∧
      t.snap r Reg.ETH_TXTS_SEC = w32 x.sec ∧ t.snap r Reg.ETH_TXTS_TAG = w32 (x.seq * 65536 + x.mtype * 256 + x.port) ∧
      t.fld Reg.ETH_TXTS_STAT 6 0 = xs.length ∧ OnlyRegs s t [Reg.ETH_TXTS_STAT, Reg.ETH_TXTS_NS] ∧
        t = { s with regs := t.regs, rsp := t.rsp, snaps := t.snaps, eth := t.eth, freeCtr := t.freeCtr }) ∧
    (s.eth.txts = [] → s.served r = true → ∃ t, exec (.ethTxtsNsRead r) s = .next t ∧ (s.rd Reg.ETH_TXTS_NS = 0 → t.answered r = 0) ∧
      t = { s with rsp := t.rsp, freeCtr := t.freeCtr })

/-- Sampled values and GOOSE (R445 to R459, R461, R468): losses and expiries are shown, publications sent, slots, templates and table words
written or refused.
It rests on the model's readings in log entries 97, 98, 99, 167 and 171. -/
def Obligations.SampledValuesAndGoose : Prop :=
  ∀ (s : State) (n k c : Fin 16) (e : Fin 128) (g : Fin 8) (r : Req) (v : Word),
    let istat := Reg.ETH_ISTAT
    let cnt := Reg.SVS_CNT n.val
    let Refused (q : Instr) : Prop := s.served r = true → ∃ t, exec q s = .next t ∧ t.bit istat 4 = true ∧ t.bit Reg.INT_STAT_LO 24 = true ∧ t.eth.svs = s.eth.svs
    (s.svUser n.val = none ∨ (s.svSlot n.val).miss < 8 ∨ s.bit cnt 31 = true → exec (.svLost n) s = .next s) ∧
    (∀ u, s.svUser n.val = some u → 8 ≤ (s.svSlot n.val).miss → s.bit cnt 31 = false → ∃ t, exec (.svLost n) s = .next t ∧ t.bit cnt 31 = true ∧
      t.bit istat 0 = true ∧ t.bit Reg.INT_STAT_LO 24 = true ∧ OnlyRegsSig s t [cnt, istat] ∧
        t = { s with regs := t.regs, supPend := t.supPend, tally := t.tally, buckets := t.buckets }) ∧
    (let a := 0x20300 + 0x40 * n.val + 4 * k.val
     (k.val ≠ 6 → k.val ≠ 7 → s.mayWrite r (0x7000 + n.val) = false ∨ (k.val = 0 ∧ field v 28 27 = 3) ∨
        (s.svHeld n.val = true ∧ (k.val ≠ 0 ∨ (s.bit a 31 = true ∧ bitAt v 31 = false) ∨ field v 20 0 ≠ s.fld a 20 0)) →
        Refused (.svSlotWrite r n k v) ∧ (s.served r = true → ∃ t, exec (.svSlotWrite r n k v) s = .next t ∧ OnlyRegsSig s t [istat])) ∧
     (k.val ≠ 6 → k.val ≠ 7 → s.mayWrite r (0x7000 + n.val) = true →
        s.svHeld n.val = false ∨ (k.val = 0 ∧ (s.bit a 31 = true → bitAt v 31 = true) ∧ field v 20 0 = s.fld a 20 0) → (k.val = 0 → field v 28 27 ≠ 3) →
        s.served r = true → ∃ t, exec (.svSlotWrite r n k v) s = .next t ∧ (∀ row, regRow a = some row → t.rd a = row.write (s.rd a) v) ∧ OnlyRegs s t [a] ∧
        t = { s with regs := t.regs })) ∧
    (let l := SMap.get (fun _ => []) s.eth.svp c.val
     let waits (x : SvPubSample) : Prop := x.epoch = s.epoch ∧ s.tickHas (c.val / 4) = true ∧
       ∃ n : Fin 8, ∀ y, (s.lane (8 * c.val + n.val)).lastSlot = some y → y < (if x.smpCnt % 2 = 0 then x.idx + 1 else x.idx)
     (l = [] → exec (.svPubFrameSend c) s = .next s) ∧
     (∀ x xs, l = x :: xs → let m := x.smpCnt / 2 * 2
       (waits x → exec (.svPubFrameSend c) s = .next s) ∧
       (¬ waits x → ∃ t, exec (.svPubFrameSend c) s = .next t ∧
         SMap.get (fun _ => []) t.eth.svp c.val = l.filter (fun y => decide (y.smpCnt / 2 * 2 ≠ m)) ∧
         (s.sapwood = true ∨ s.bit (Reg.SVP_CTRL c.val) 31 = false → t.regs = s.regs ∧ t.eth.queues = s.eth.queues) ∧
         (s.sapwood = false → s.bit (Reg.SVP_CTRL c.val) 31 = true → t.fld (Reg.SVP_CNT c.val) 31 0 = min 4294967295 (s.fld (Reg.SVP_CNT c.val) 31 0 + 1)) ∧
           t = { s with regs := t.regs, eth := t.eth }))) ∧
    ((s.gse e.val).endAt = none → exec (.gooseExpiry e) s = .next s) ∧
    (∀ x, (s.gse e.val).endAt = some x → ∃ t, exec (.gooseExpiry e) s = .next t ∧ (t.gse e.val).endAt = none ∧ (t.gse e.val).expiredAt = x ∧
      t.bit (gseKey e.val 6) 1 = true ∧ t.bit istat 2 = true ∧ t.bit Reg.INT_STAT_LO 24 = true ∧ (∀ m, m ≠ e.val → t.gse m = s.gse m) ∧
      t = { s with regs := t.regs, supPend := t.supPend, tally := t.tally, buckets := t.buckets, tb := t.tb, eth := t.eth }) ∧
    (let i := g.val
     let ctrl := Reg.GPUB_CTRL i
     let tpl := s.sharedBytes (s.fld (Reg.GPUB_ADDR i) 23 2 * 4) (s.fld (Reg.GPUB_LEN i) 10 0)
     let tmin := s.fld (Reg.GPUB_TIME i) 15 0
     let Others (t : State) : Prop := ∀ m, m ≠ i → t.gpub m = s.gpub m
     (bitAt v 31 = false → s.served r = true → ∃ t, exec (.gpubCommit r g v) s = .next t ∧ t.rd ctrl = v &&& 0xB01FFF00 ∧ (t.gpub i).template = [] ∧
       (t.gpub i).next = none ∧ Others t ∧ OnlyRegs s t [ctrl]) ∧
     (bitAt v 31 = true → s.tplOk i tpl = false → Refused (.gpubCommit r g v) ∧
       (s.served r = true → ∃ t, exec (.gpubCommit r g v) s = .next t ∧ t.rd ctrl = v &&& 0xB01FFF00 ∧ t.eth = s.eth ∧
         OnlyRegsSig s t [ctrl, istat])) ∧
     (bitAt v 31 = true → s.tplOk i tpl = true → s.served r = true → ∃ t, exec (.gpubCommit r g v) s = .next t ∧ t.rd ctrl = v &&& 0xB01FFF00 ∧
       (t.gpub i).template = tpl ∧ Others t ∧
       (s.bit ctrl 31 = false → s.sapwood = false → t.rd (Reg.GPUB_ST i) = 1 ∧ t.rd (Reg.GPUB_SQ i) = 0 ∧
         (t.gpub i).next = some (s.tb.cnt + tmin * 250000)) ∧
           t = { s with regs := t.regs, supPend := t.supPend, tally := t.tally, buckets := t.buckets, eth := t.eth }) ∧
     ((s.gpub i).next = none ∨ s.bit ctrl 31 = false ∨ s.sapwood = true → exec (.gooseRetransmit g) s = .next s) ∧
     (∀ x, (s.gpub i).next = some x → s.bit ctrl 31 = true → s.sapwood = false → ∃ t, exec (.gooseRetransmit g) s = .next t ∧
       t.rd (Reg.GPUB_SQ i) = nextSt (s.rd (Reg.GPUB_SQ i)) ∧ t.rd (Reg.GPUB_ST i) = s.rd (Reg.GPUB_ST i) ∧
       (t.gpub i).gap = (if (s.gpub i).gaps < 2 then tmin else min (2 * (s.gpub i).gap) (s.fld (Reg.GPUB_TIME i) 31 16)) ∧
       (t.gpub i).gaps = (s.gpub i).gaps + 1 ∧ Others t ∧ t = { s with regs := t.regs, tb := t.tb, eth := t.eth })) ∧
    (let sel := s.rd Reg.ETH_TBL_SEL
     let w := field sel 7 0
     let Next (t : State) : Prop := t.fld Reg.ETH_TBL_SEL 7 0 = (w + 1) % 256
     (s.tblKey = none → (s.served r = true → ∃ t, exec (.ethTblDataRead r) s = .next t ∧ Next t ∧ OnlyRegs s t [Reg.ETH_TBL_SEL]) ∧
       (Refused (.ethTblDataWrite r v) ∧
         (s.served r = true → ∃ t, exec (.ethTblDataWrite r v) s = .next t ∧ Next t ∧ OnlyRegsSig s t [Reg.ETH_TBL_SEL, istat]))) ∧
     (∀ a, s.tblKey = some a →
       (field sel 31 28 = 2 ∨ (w ≠ 14 ∧ w ≠ 15) → s.served r = true → ∃ t, exec (.ethTblDataRead r) s = .next t ∧ t.answered r = s.rd a ∧ Next t ∧
         OnlyRegs s t [Reg.ETH_TBL_SEL] ∧ t = { s with regs := t.regs, rsp := t.rsp }) ∧
       (field sel 31 28 = 1 → w = 14 → s.served r = true → ∃ t, exec (.ethTblDataRead r) s = .next t ∧ t.answered r = s.rd a ∧ t.rd a = 0 ∧ Next t ∧
         OnlyRegs s t [a, Reg.ETH_TBL_SEL]) ∧
       (field sel 31 28 = 2 → w ≠ 0 → s.served r = true → ∃ t, exec (.ethTblDataWrite r v) s = .next t ∧ t.rd a = v ∧ Next t ∧ OnlyRegs s t [a, Reg.ETH_TBL_SEL]) ∧
       (field sel 31 28 = 1 → w < 6 → s.bit (gseKey (field sel 27 8) 0) 31 = false → s.served r = true → ∃ t, exec (.ethTblDataWrite r v) s = .next t ∧
         t.rd a = v &&& (if w = 0 then 0x801FFFFF else if w = 2 then 0x0FFFFFFF else if w = 5 then 0x00FFFFFF else 0xFFFFFFFF) ∧ Next t ∧
         OnlyRegs s t [a, Reg.ETH_TBL_SEL]) ∧
       (field sel 31 28 = 1 → w < 6 → s.bit (gseKey (field sel 27 8) 0) 31 = true → w ≠ 0 ∨ bitAt v 31 = true → Refused (.ethTblDataWrite r v) ∧
         (s.served r = true → ∃ t, exec (.ethTblDataWrite r v) s = .next t ∧ Next t ∧ OnlyRegsSig s t [Reg.ETH_TBL_SEL, istat]))))

/-! ### CAN FD controllers (chapter 14) -/

/-- INIT, joining the bus and bus-off recovery (R472, R474, R487, R488), and the object windows (R475, R476, R478, R479, R483, R489).
It rests on the model's readings in log entries 104, 105, 169, 193 and 194. -/
def Obligations.CanSettingsAndObjects : Prop :=
  ∀ (s : State) (c : Fin 4) (r : Req) (v : Word) (w : Fin 24) (sof : Bool),
    let k := c.val
    let ctrl := Reg.CAN_CTRL k
    let stat := Reg.CAN_STAT k
    let istat := Reg.CAN_ISTAT k
    let old := s.rd ctrl
    let u := s.can k
    let m := s.canSel k r.window
    let obj := canObj k m
    let pend := Reg.CAN_PEND k (m / 32)
    let may := s.canMay r k m
    let sameMode := (old ^^^ v) &&& canModeBits = 0
    let Denied (i : Instr) : Prop := s.served r = true → ∃ t, exec i s = .next t ∧ t.bit istat 7 = true ∧ t.bit Reg.INT_STAT_LO (20 + k) = true ∧ t.cans = s.cans ∧
      OnlyRegsSig s t [istat]
    let Inits (i : Instr) : Prop := s.served r = true → ∃ t, exec i s = .next t ∧ t.bit ctrl 31 = true ∧ t.rd (Reg.CAN_ERR k) = 0 ∧ t.canState k = 0 ∧
      (t.can k).initReq = false ∧ OnlyRegs s t [ctrl, stat, Reg.CAN_ERR k]
    let Waits (i : Instr) : Prop := s.served r = true → ∃ t, exec i s = .next t ∧ t.bit ctrl 31 = false ∧ t.bit ctrl 26 = bitAt v 26 ∧
      (t.can k).initReq = true ∧ bitAt (t.canCtrl k) 31 = true ∧ OnlyRegs s t [ctrl]
    (bitAt old 31 = true →
      (s.served r = true → ∃ t, exec (.canInitSet r c v) s = .next t ∧ t.rd ctrl = (v &&& 0x7E000000) ||| 0x80000000 ∧ OnlyRegs s t [ctrl] ∧
        t = { s with regs := t.regs }) ∧
      (s.canTimingOk k = true → s.served r = true → ∃ t, exec (.canInitClear r c v) s = .next t ∧ t.rd ctrl = v &&& 0x7E000000 ∧ OnlyRegs s t [ctrl] ∧
        t = { s with regs := t.regs }) ∧
      (s.canTimingOk k = false → s.served r = true → ∃ t, exec (.canInitClear r c v) s = .next t ∧ t.bit ctrl 31 = true ∧ t.bit istat 7 = true ∧
        t.bit Reg.INT_STAT_LO (20 + k) = true ∧ OnlyRegsSig s t [ctrl, istat])) ∧
    (bitAt old 31 = false → ¬ sameMode → Denied (.canInitSet r c v) ∧ Denied (.canInitClear r c v)) ∧
    (bitAt old 31 = false → sameMode → s.canOff k = true → Denied (.canInitSet r c v)) ∧
    (bitAt old 31 = false → sameMode → s.canOff k = false →
      (u.cur ≠ none → Waits (.canInitSet r c v)) ∧
      (u.cur = none → (s.canBusBusy k = true ∧ Waits (.canInitSet r c v)) ∨ (s.canBusBusy k = false ∧ Inits (.canInitSet r c v)))) ∧
    (bitAt old 31 = false → sameMode → s.served r = true → ∃ t, exec (.canInitClear r c v) s = .next t ∧ t.bit ctrl 31 = false ∧ t.bit ctrl 26 = bitAt v 26 ∧
      (t.can k).initReq = false ∧ OnlyRegs s t [ctrl]) ∧
    (u.initReq = true → u.cur = none → Inits (.canInitApply c)) ∧
    (u.initReq = false ∨ u.cur ≠ none → exec (.canInitApply c) s = .next s) ∧
    (s.canState k = 0 → bitAt old 31 = false → ∃ t, exec (.canBusJoin c) s = .next t ∧ t.canState k = 1 ∧ OnlyRegs s t [stat] ∧
      (t.can k).integ = false ∧ t = { s with regs := t.regs, cans := t.cans }) ∧
    (s.canState k ≠ 0 ∨ bitAt old 31 = true → ∃ t, exec (.canBusJoin c) s = .next t ∧ (t.can k).integ = false ∧ t = { s with cans := t.cans }) ∧
    (s.canState k = 3 → s.served r = true → ∃ t, exec (.canBusoffRecover r c) s = .next t ∧ t.canState k = 4 ∧ t.fld stat 7 0 = 128 ∧ OnlyRegs s t [stat] ∧
      (t.can k).recAt = s.tb.cnt ∧ t = { s with regs := t.regs, cans := t.cans }) ∧
    (s.canState k ≠ 3 → Denied (.canBusoffRecover r c)) ∧
    (s.canState k = 4 → ∃ t, exec (.canRecoveryDone c) s = .next t ∧ t.canState k = 1 ∧ t.rd (Reg.CAN_ERR k) = 0 ∧ t.bit stat 28 = false ∧
      (∀ n, n < 128 → t.objState k n = if s.objState k n = 6 then 1 else s.objState k n) ∧ t.bit Reg.INT_STAT_LO (20 + k) = true ∧
      u.recAt + (1408 * s.canBit k * 25 + 7) / 8 ≤ t.tb.cnt ∧ t = { s with tb := t.tb, regs := t.regs, supPend := t.supPend, tally := t.tally, buckets := t.buckets }) ∧
    (s.canState k ≠ 4 → exec (.canRecoveryDone c) s = .next s) ∧
    (may = false → Denied (.canOcmdQueue r c) ∧ Denied (.canOcmdCancel r c sof) ∧ Denied (.canOcmdClearNew r c) ∧ Denied (.canOwinWrite r c w v)) ∧
    (may = true → s.sapwood = true → s.served r = true → ∃ t, exec (.canOcmdQueue r c) s = .next t ∧ OnlyRegs s t [Reg.CAN_ECNT2 k] ∧ t = { s with regs := t.regs } ∧
      t.fld (Reg.CAN_ECNT2 k) 7 0 = min 255 (s.fld (Reg.CAN_ECNT2 k) 7 0 + 1)) ∧
    (may = true → s.sapwood = false → (s.bit (obj 0) 31 && s.bit (obj 0) 30) = true →
      (s.objState k m ≠ 1 → s.objState k m ≠ 2 → s.objState k m ≠ 6 → s.served r = true → ∃ t, exec (.canOcmdQueue r c) s = .next t ∧
        t.objState k m = (if s.canOff k then 6 else 1) ∧ t.bit pend (m % 32) = true ∧ OnlyRegs s t [obj 3, pend] ∧ t = { s with regs := t.regs }) ∧
      (s.objState k m = 2 → s.served r = true → ∃ t, exec (.canOcmdQueue r c) s = .next t ∧ (t.can k).requeue = true ∧ t.objState k m = 2 ∧ OnlyRegs s t [obj 3])) ∧
    (may = true → s.objState k m = 1 ∨ s.objState k m = 6 → s.served r = true → ∃ t, exec (.canOcmdCancel r c sof) s = .next t ∧ t.objState k m = 5 ∧
      t.bit pend (m % 32) = false ∧ OnlyRegs s t [obj 3, pend] ∧ t = { s with regs := t.regs }) ∧
    (may = true → s.objState k m = 2 →
      (s.served r = true → ∃ t, exec (.canOcmdCancel r c true) s = .next t ∧ t = { s with cans := t.cans } ∧ (t.can k).cancel = true ∧ (t.can k).requeue = false ∧
        (t.can k).cur = u.cur) ∧
      (s.served r = true → ∃ t, exec (.canOcmdCancel r c false) s = .next t ∧ t.objState k m = 5 ∧ (t.can k).cur = none ∧ t.bit pend (m % 32) = false)) ∧
    (may = true → s.served r = true → ∃ t, exec (.canOcmdClearNew r c) s = .next t ∧ t.bit (obj 3) 27 = false ∧ t.bit (obj 3) 26 = false ∧
      t.bit (Reg.CAN_NEW k (m / 32)) (m % 32) = false ∧ OnlyRegs s t [obj 3, Reg.CAN_NEW k (m / 32)] ∧ t = { s with regs := t.regs }) ∧
    (s.served r = true → ∃ t, exec (.canOwinW3Read r c) s = .next t ∧ t.answered r = s.rd (obj 3) ∧
      (∀ i, 4 ≤ i → i < 24 → t.canOwin k r.window i = s.rd (obj i)) ∧ (∀ a, a < 0xA3100000 → t.rd a = s.rd a) ∧
      t = { s with regs := t.regs, rsp := t.rsp }) ∧
    (may = true → 8 ≤ w.val →
      (u.cur ≠ some m → s.served r = true → ∃ t, exec (.canOwinWrite r c w v) s = .next t ∧ t.rd (obj w.val) = v ∧ OnlyRegs s t [obj w.val] ∧
        t = { s with regs := t.regs }) ∧
      (u.cur = some m → s.served r = true → ∃ t, exec (.canOwinWrite r c w v) s = .next t ∧ (t.can k).held = u.held ++ [(w.val, v)] ∧ t = { s with cans := t.cans })) ∧
    (may = true → 3 ≤ w.val → w.val < 8 → s.served r = true → exec (.canOwinWrite r c w v) s = .next s) ∧
    (may = true → w.val < 3 → s.bit (obj 0) 31 = true → bitAt old 31 = false → Denied (.canOwinWrite r c w v)) ∧
    (may = true → w.val = 0 → s.bit (obj 0) 31 = false ∨ bitAt old 31 = true →
      ((bitAt v 31 && bitAt v 28 && (bitAt v 26 || !bitAt old 30)) = true → Denied (.canOwinWrite r c w v)) ∧
      ((bitAt v 31 && bitAt v 28 && (bitAt v 26 || !bitAt old 30)) = false → s.served r = true → ∃ t, exec (.canOwinWrite r c w v) s = .next t ∧
        t.rd (obj 0) = v &&& 0xFF00000F ∧ (bitAt v 30 = false → t.objState k m = 0 ∧ t.bit pend (m % 32) = false) ∧
        OnlyRegs s t [obj 0, obj 3, pend] ∧ t = { s with regs := t.regs })) ∧
    (may = true → w.val = 1 ∨ w.val = 2 → s.bit (obj 0) 31 = false ∨ bitAt old 31 = true → s.served r = true → ∃ t, exec (.canOwinWrite r c w v) s = .next t ∧
      t.rd (obj w.val) = v &&& (if w.val = 1 then 0x1FFFFFFF else 0xDFFFFFFF) ∧ OnlyRegs s t [obj w.val] ∧ t = { s with regs := t.regs })

/-- Selection and outcome of transmissions, reception and errors (R471, R480 to R487): the winner goes out, its object shows the outcome, a
taken frame lies in its object and errors count.
It rests on the model's readings in log entries 103, 106 and 193. -/
def Obligations.CanFramesAndErrors : Prop :=
  ∀ (s : State) (c : Fin 4) (f : CanFrame) (sec : Nat) (ns : Fin 1000000000) (loop : BitVec 7) (why : CanErr),
    let k := c.val
    let u := s.can k
    let ctrl := Reg.CAN_CTRL k
    let stat := Reg.CAN_STAT k
    let istat := Reg.CAN_ISTAT k
    let err := Reg.CAN_ERR k
    let ecnt2 := Reg.CAN_ECNT2 k
    let active := (s.canState k = 1 ∨ s.canState k = 2) ∧ u.integ = false
    let silent := s.bit ctrl 28 || s.bit ctrl 27 || s.sapwood
    let tec := s.fld err 8 0
    let lost (x : CanLoss) : Nat := if why = .arb ∨ s.canFrozen k = true then tec else min 511 (tec + (if x.noCount then 0 else 8) + 8 * x.more)
    let n := if f.rtr && !f.fdf then 0 else dlcBytes f.fdf f.dlc.val
    (∀ m, active → silent = false → u.cur = none → u.initReq = false → s.canWinner k = some m → ∃ t, exec (.canFrameSelect c) s = .next t ∧
      (t.can k).cur = some m ∧ (t.can k).out = some (s.objFrame k m) ∧ t.objState k m = 2 ∧ t.bit stat 26 = true ∧ t.bit stat 27 = false ∧
      OnlyRegs s t [canObj k m 3, Reg.CAN_PEND k (m / 32), stat] ∧ t = { s with regs := t.regs, cans := t.cans }) ∧
    (¬ active ∨ silent = true ∨ u.cur ≠ none ∨ u.initReq = true ∨ s.canWinner k = none → ∃ t, exec (.canFrameSelect c) s = .next t ∧
      t.bit stat 27 = (s.bit stat 27 && s.sapwood) ∧ OnlyRegs s t [stat] ∧ t = { s with regs := t.regs }) ∧
    (∀ m g, u.cur = some m → m < 128 → u.out = some g → u.held = [] → (g.brs && s.bit ctrl 29) = false → ∃ t,
      exec (.canFrameTxDone c sec ns loop) s = .next t ∧ t.objState k m = (if u.requeue then 1 else 3) ∧ (t.can k).cur = none ∧ t.bit istat 1 = true ∧
      t.bit stat 26 = false ∧ (s.canFrozen k = false → t.fld err 8 0 = tec - 1) ∧
      t.fld (canObj k m 3) 11 0 = b2n g.ide * 2048 + b2n g.fdf * 1024 + b2n g.brs * 512 + b2n g.esi * 256 + g.dlc.val ∧
        t = { s with regs := t.regs, supPend := t.supPend, tally := t.tally, buckets := t.buckets, tb := t.tb, cans := t.cans }) ∧
    (u.cur = none → exec (.canFrameTxDone c sec ns loop) s = .next s) ∧
    (∀ x, why = .pxe ∨ (u.cur = none ∧ (u.mine = false ∨ ¬ active ∨ why = .arb)) → exec (.canTxLost c why x) s = .next s) ∧
    (∀ x, u.cur = none → u.mine = true → active → why ≠ .arb → why ≠ .pxe → ∃ t, exec (.canTxLost c why x) s = .next t ∧ t.fld err 8 0 = lost x ∧
      t = { s with regs := t.regs, supPend := t.supPend, tally := t.tally, buckets := t.buckets, cans := t.cans }) ∧
    (∀ m no, u.cur = some m → m < 128 → u.held = [] → why ≠ .pxe → ∃ t, exec (.canTxLost c why no) s = .next t ∧ (t.can k).cur = none ∧
      (u.cancel = true → t.objState k m = 5) ∧
      (u.cancel = false → s.objOneShot k m = true → t.objState k m = 4 ∧ t.bit istat 1 = true ∧ t.bit Reg.INT_STAT_LO (20 + k) = true ∧
        t.fld (canObj k m 3) 23 21 = if t.canOff k then 4 else why.fail) ∧
      (u.cancel = false → s.objOneShot k m = false → t.objState k m = if s.sapwood then 0 else if t.canOff k then 6 else 1) ∧
      t.fld err 8 0 = lost no ∧
      (∀ g d, u.out = some g → no.loop = some d → (g.brs && s.bit ctrl 29) = true → t.fld (Reg.CAN_TDC k) 30 24 = d.toNat) ∧
        t = { s with regs := t.regs, supPend := t.supPend, tally := t.tally, buckets := t.buckets, cans := t.cans }) ∧
    (¬ active ∨ u.cur ≠ none → exec (.canFrameRx c f sec ns) s = .next s ∧ ∀ hv, exec (.canRxBusError c why hv) s = .next s) ∧
    (active → u.cur = none → (f.fdf && !s.bit ctrl 30) = true → s.bit ctrl 25 = false → ∃ t, exec (.canFrameRx c f sec ns) s = .next t ∧
      t.fld ecnt2 23 16 = min 255 (s.fld ecnt2 23 16 + 1) ∧ t.bit istat 5 = true ∧ t.rd err = s.rd err ∧
      (t.can k).integ = true) ∧
    (active → u.cur = none → (f.fdf && !s.bit ctrl 30) = true → s.bit ctrl 25 = true → ∃ t, exec (.canFrameRx c f sec ns) s = .next t ∧
      t.fld (Reg.CAN_ECNT k) 15 8 = min 255 (s.fld (Reg.CAN_ECNT k) 15 8 + 1)) ∧
    (∀ m, active → u.cur = none → (f.fdf && !s.bit ctrl 30) = false → s.canTaker k f = some m → ∃ t, exec (.canFrameRx c f sec ns) s = .next t ∧
      t.bit (canObj k m 3) 27 = true ∧ t.bit (Reg.CAN_NEW k (m / 32)) (m % 32) = true ∧ t.bit istat 0 = true ∧
      t.rd (canObj k m 7) = w32 f.ident ∧ (s.bit (canObj k m 3) 27 = true → t.bit (canObj k m 3) 26 = true) ∧
      (∀ i, i < (n + 3) / 4 → t.rd (canObj k m (8 + i)) = leWord (((f.data.take n).drop (4 * i)).take 4)) ∧
        t = { s with regs := t.regs, supPend := t.supPend, tally := t.tally, buckets := t.buckets, tb := t.tb, cans := t.cans, freeCtr := t.freeCtr })
        ∧
    (active → u.cur = none → (f.fdf && !s.bit ctrl 30) = false → s.canTaker k f = none → ∃ t, exec (.canFrameRx c f sec ns) s = .next t ∧
      t.fld ecnt2 15 8 = min 255 (s.fld ecnt2 15 8 + 1) ∧ t.bit istat 6 = true ∧ t.bit Reg.INT_STAT_LO (20 + k) = true ∧
      (∀ i, t.rd (Reg.CAN_NEW k i) = s.rd (Reg.CAN_NEW k i) ∨ 4 ≤ i)) ∧
    (∀ hv, active → u.cur = none →
      (why = .arb ∨ why = .ack → ∃ t, exec (.canRxBusError c why hv) s = .next t ∧ (t.can k).mine = false ∧ t = { s with cans := t.cans }) ∧
      (why = .pxe → s.bit ctrl 25 = false → ∃ t, exec (.canRxBusError c why hv) s = .next t ∧ t.fld ecnt2 23 16 = min 255 (s.fld ecnt2 23 16 + 1) ∧ t.bit istat 5 = true ∧
        t.rd err = s.rd err ∧ (t.can k).integ = true) ∧
      ((why = .pxe ∧ s.bit ctrl 25 = true) ∨ why = .bit ∨ why = .stuff ∨ why = .form ∨ why = .crc → ∃ t, exec (.canRxBusError c why hv) s = .next t ∧
        t.fld err 8 0 = tec ∧ (s.canFrozen k = false → t.fld err 23 16 = min 255 (s.fld err 23 16 + if hv then 8 else 1)) ∧
        t = { s with regs := t.regs, supPend := t.supPend, tally := t.tally, buckets := t.buckets, cans := t.cans }))

/-! ### Paired operation (chapter 16) -/

/-- Pair links and their frames (R521, R522, R525, R533, R537, R545): a valid frame brings the link up and takes effect, another one is
counted; a package that is not paired takes no notice.
It rests on the model's readings in log entries 111, 112, 115, 173 and 196. -/
def Obligations.PairLinksAndFrames : Prop :=
  ∀ (s : State) (l : Fin 2) (ok roleIn : Bool) (seq tdly : BitVec 16) (h : PairHb) (toffs : BitVec 32) (es : List PairTl) (e : PairTl) (f : PairState),
    let p := s.pair
    let reg := State.plinkReg l.val
    let stat := Reg.PAIR_STAT
    let expected := (SMap.get (fun _ => none) p.seqRx l.val).all (fun e => decide (e = seq.toNat))
    let good := ok && expected
    let off (t : State) : Int := (tdly.toNat : Int) -
      (sext 32 ((t.tb.sec + (4294967296 - h.sentSec % 4294967296)) % 4294967296) * 1000000000 + ((t.tb.ns : Int) - h.sentNs))
    let at_ := tickAbs h.sec h.idx
    let Counted (i : Instr) : Prop := ∃ t, exec i s = .next t ∧ t.pair.hb = p.hb ∧ t.plinkUp l.val = s.plinkUp l.val ∧ t.lines = s.lines ∧
      (ok = false → t.fld reg 7 0 = min 255 (s.fld reg 7 0 + 1)) ∧ (ok = true → t.fld reg 15 8 = min 255 (s.fld reg 15 8 + 1)) ∧
      OnlyRegs s t [reg] ∧ t = { s with regs := t.regs, pair := t.pair }
    (s.paired = false → ∀ i, i = .pairHbFrame l ok seq h toffs tdly ∨ i = .pairTlFrame l ok seq es ∨ i = .pairStateFrame l ok seq f ∨
      i = .pairHbPinToggle ∨ i = .plinkDown l ∨ i = .pairTlFrameTimeout ∨ i = .pairTlFrameSend ∨ i = .pairRoleInFall ∨
      i = .pairDecisionPoint roleIn ∨ i = .handoverAssert ∨ i = .missedOwnDeadline → exec i s = .next s) ∧
    (s.pairNet = false → ∀ i, i = .pairHbFrame l ok seq h toffs tdly ∨ i = .pairTlFrame l ok seq es ∨ i = .pairStateFrame l ok seq f ∨
      i = .pairTlFrameSend → exec i s = .next s) ∧
    (s.pairNet = true → good = true → h.role < 8 → ∃ t, exec (.pairHbFrame l ok seq h toffs tdly) s = .next t ∧ t.pair.hb = some h ∧
      t.plinkUp l.val = true ∧ t.pair.missed = p.missed ∧ (at_ = s.tickNo → t.partnerAlive = true) ∧
      (s.tickNo ≤ at_ → t.pair.hbTicks.contains (at_, h.role == 2) = true) ∧ (at_ < s.tickNo → t.pair.hbTicks = p.hbTicks) ∧
      t.rd Reg.PAIR_TOFFS = wInt (clampInt (-2147483648) 2147483647 (off t)) ∧ t.fld Reg.PAIR_TDLY 15 0 = tdly.toNat ∧
      t.timeOk = decide ((off t).natAbs ≤ 1000) ∧ t.fld stat 2 0 = h.role ∧ t.role = s.role ∧
      SMap.get (fun _ => none) t.pair.seqRx l.val = some ((seq.toNat + 1) % 65536) ∧
        t = { s with tb := t.tb, regs := t.regs, supPend := t.supPend, tally := t.tally, buckets := t.buckets, pair := t.pair }) ∧
    (s.pairNet = true → good = false → Counted (.pairHbFrame l ok seq h toffs tdly) ∧ Counted (.pairTlFrame l ok seq es) ∧
      Counted (.pairStateFrame l ok seq f)) ∧
    (s.pairNet = true → good = true → ∃ t, exec (.pairTlFrame l ok seq es) s = .next t ∧ t.plinkUp l.val = true ∧
      (∀ n, n < 64 → t.pairBit Reg.PAIR_RTL_LO n = es.any (fun e => decide (e.n = n) && decide (e.st = 3))) ∧
      (s.role ≠ 1 → t.lines = s.lines ∧ ∀ n, t.rd (Reg.TL_STAT n) = s.rd (Reg.TL_STAT n)) ∧
      t = { s with regs := t.regs, ended := t.ended, supPend := t.supPend, tally := t.tally, buckets := t.buckets, pins := t.pins, eth := t.eth, lines := t.lines, pair := t.pair })
        ∧
    (s.pairNet = true → good = true → e.n < 64 → s.role = 1 → s.tlPair e.n = true → s.tlState e.n ≠ 0 → e.st ≠ 0 → e.st < 8 →
      ∃ t, exec (.pairTlFrame l ok seq [e]) s = .next t ∧ t.tlState e.n = e.st ∧ (t.line e.n).cause = e.cause) ∧
    (s.pairNet = true → ∃ t, exec (.pairStateFrame l ok seq f) s = .next t ∧
      (p.rx.any (fun x => decide (x.2 = 0)) = true → t.pair.rx = p.rx) ∧
      (p.rx.all (fun x => decide (x.2 ≠ 0)) = true → ∃ why, t.pair.rx = some (f, why) ∧ (why = 0 ↔ good = true ∧
        leWord (f.bytes.drop (f.bytes.length - 4)) = 0x454E4421 ∧
        leWord (f.bytes.drop (f.bytes.length - 8)) = w32 (crc32 (f.bytes.take (f.bytes.length - 8))))) ∧
      t = { s with regs := t.regs, supPend := t.supPend, tally := t.tally, buckets := t.buckets, pair := t.pair }) ∧
    (s.paired = true → ∃ t, exec .pairHbPinToggle s = .next t ∧ t.pair.toggled = true ∧ t.partnerAlive = true ∧ OnlyRegs s t [stat] ∧
      t = { s with regs := t.regs, pair := t.pair }) ∧
    (s.paired = true → s.plinkUp l.val = true → ∃ t, exec (.plinkDown l) s = .next t ∧ t.plinkUp l.val = false ∧ t.bit Reg.PAIR_FLAG l.val = true ∧
      t.linksLost = (s.partnerAlive && !s.plinkUp (1 - l.val)) ∧ t.bit Reg.INT_STAT_HI 10 = true ∧
      OnlyRegsSig s t [reg, Reg.PAIR_FLAG, stat] ∧
        t = { s with regs := t.regs, supPend := t.supPend, tally := t.tally, buckets := t.buckets, pair := t.pair }) ∧
    (s.plinkUp l.val = false → exec (.plinkDown l) s = .next s) ∧
    (s.paired = true → s.role = 1 → exec .pairTlFrameTimeout s = .next s.tlStep) ∧
    (s.role ≠ 1 → exec .pairTlFrameTimeout s = .next s) ∧
    (s.pairNet = true → s.role = 2 → ∃ t, exec .pairTlFrameSend s = .next t ∧
      t.pair.tlTx = ((List.range 64).filter (fun n => s.tlPair n)).map (fun n => s.lineEntry n) ∧
      (∀ m, m < 2 → SMap.get (fun _ => 0) t.pair.seqTx m = (SMap.get (fun _ => 0) p.seqTx m + 1) % 65536) ∧ t = { s with pair := t.pair }) ∧
    (s.role ≠ 2 → exec .pairTlFrameSend s = .next s)

/-- Roles, handovers, drills and the pair's commands (R524 to R532, R539, R543 to R545): an agreed handover exchanges the roles, a silent
partner is replaced, and a refused command sets CMD_ERR.
It rests on the model's readings in log entries 113, 114, 116, 155, 172 and 195. -/
def Obligations.PairRolesAndCommands : Prop :=
  ∀ (s : State) (roleIn fieldOk : Bool) (fail : Option (Fin 48)) (v : Word),
    let p := s.pair
    let stat := Reg.PAIR_STAT
    let now := s.tick.idx
    let Drives (t : State) (on : Bool) : Prop := t.bit stat 25 = on ∧ t.bit stat 24 = on ∧ t.bit Reg.FIO_STAT 3 = on
    let beatHere := p.hbTicks.any (fun t => decide (t.1 = s.tickNo))
    let free := p.hand = none
    let asked (q i k : Nat) : Option PairReq := some { req := q, idx := i % 4800, kind := k, acked := false }
    let idx := if bitAt v 13 then field v 12 0 else (now + 4) % 4800
    let ahead := (idx + 4800 - now) % 4800
    let swapOk := s.paired = true ∧ s.role = 2 ∧ s.partnerReady = true ∧ s.anyPlink = true ∧ s.timeOk = true ∧ free ∧ p.req = none ∧
      s.bit stat 18 = false ∧ idx < 4800 ∧ (if p.hbTx.any (fun h => decide (tickAbs h.sec h.idx = s.tickNo)) then 3 else 2) ≤ ahead
    let stands := (∃ q, p.req = some q ∧ q.acked = true) ∨ p.hb.any (fun h => decide (tickAbs h.sec h.idx = s.tickNo) &&
      (decide (h.req = 1) || decide (h.req = 2)) && decide (h.reqIdx = now)) = true
    let Refused (i : Instr) : Prop := ∃ t, exec i s = .next t ∧ t.bit Reg.PAIR_FLAG 7 = true ∧ t.bit Reg.INT_STAT_HI 11 = true ∧ t.pair = p ∧
      OnlyRegsSig s t [Reg.PAIR_FLAG]
    (∀ c, s.paired = true → p.hand = some (now, c) → stands → c < 16 → now < 0x1000000 →
      (s.role = 1 → ∃ t, exec (.pairDecisionPoint roleIn) s = .next t ∧ t.role = 2 ∧ Drives t false ∧ t.pair.assertDue = true ∧ t.pair.hand = none ∧
        (p.drillIn = true → t.bit stat 18 = true ∧ ∃ d, t.pair.drill = some d ∧ d.tick = s.tickNo ∧ d.start = s.tb.cnt ∧ d.low = none) ∧
        t.rd Reg.PAIR_LAST = w32 (c * 268435456 + 2 * 16777216 + now) ∧ t.bit Reg.PAIR_FLAG 4 = true ∧
          t = { s with regs := t.regs, ended := t.ended, supPend := t.supPend, tally := t.tally, buckets := t.buckets, pins := t.pins, eth := t.eth, pair := t.pair })
          ∧
      (s.role = 2 → ∃ t, exec (.pairDecisionPoint roleIn) s = .next t ∧ t.role = 1 ∧ Drives t false ∧ t.pair.hand = none ∧
        t.rd Reg.PAIR_LAST = w32 (c * 268435456 + 16777216 + now) ∧ t.bit Reg.PAIR_FLAG 4 = true)) ∧
    (∀ c, s.paired = true → p.hand = some (now, c) → p.req = none → ¬ stands → ∃ t, exec (.pairDecisionPoint roleIn) s = .next t ∧
      t.pair.hand = none ∧ t.bit Reg.PAIR_FLAG 7 = true ∧ t.bit Reg.INT_STAT_HI 11 = true) ∧
    (s.paired = true → s.role = 1 → free → beatHere = false → p.toggled = false → 1 ≤ p.missed →
      ∃ t, exec (.pairDecisionPoint false) s = .next t ∧ t.role = 2 ∧ Drives t p.hbRuns ∧ t.partnerAlive = false) ∧
    (s.paired = true → s.role = 0 → s.bit Reg.BOOT_STAT 31 = true → free → s.anyPlink = true →
      ∃ t, exec (.pairDecisionPoint true) s = .next t ∧ t.role = 1 ∧ Drives t false) ∧
    (s.paired = true → s.role = 0 → s.bit Reg.BOOT_STAT 31 = false → ∃ t, exec (.pairDecisionPoint roleIn) s = .next t ∧ t.role = 0 ∧
      t.roleIn = roleIn) ∧
    (p.zeroAt = none → exec (.startWaitExpiry roleIn) s = .next s) ∧
    (∀ at_, p.zeroAt = some at_ → s.paired = true → s.role = 1 → s.bit Reg.BOOT_STAT 31 = true → free → s.prefNow = false →
      p.hbTicks.contains (s.tickNo, true) = false → ∃ t, exec (.startWaitExpiry false) s = .next t ∧ t.role = 2 ∧ Drives t p.hbRuns ∧
        t = { s with regs := t.regs, ended := t.ended, supPend := t.supPend, tally := t.tally, buckets := t.buckets, tb := t.tb, pins := t.pins, eth := t.eth, pair := t.pair })
          ∧
    (s.paired = true → p.assertDue = true → ∃ t, exec .handoverAssert s = .next t ∧ Drives t p.hbRuns ∧ t.pair.assertDue = false ∧ t.role = s.role ∧
      t = { s with regs := t.regs, ended := t.ended, pins := t.pins, eth := t.eth, pair := t.pair }) ∧
    (p.assertDue = false → exec .handoverAssert s = .next s) ∧
    (s.paired = true → ∃ t, exec .missedOwnDeadline s = .next t ∧ Drives t false ∧ t.pair.hbRuns = false ∧ t.role = s.role ∧
      t = { s with regs := t.regs, ended := t.ended, pins := t.pins, eth := t.eth, pair := t.pair }) ∧
    (s.paired = true → s.roleIn = true → ∃ t, exec .pairRoleInFall s = .next t ∧ t.roleIn = false ∧ t.pair.fell = true ∧
      t.bit Reg.INT_STAT_HI 11 = true ∧ OnlyRegs s t [stat, Reg.INT_STAT_HI] ∧ t = { s with regs := t.regs, supPend := t.supPend, pair := t.pair }) ∧
    (s.roleIn = false → exec .pairRoleInFall s = .next s) ∧
    (swapOk → (∃ t, exec (.pairCmdSwapDrill v) s = .next t ∧ t.pair.req = asked 2 idx 0 ∧ t.pair.drillMine = true ∧ t = { s with pair := t.pair }) ∧
      (∃ t, exec (.pairCmdRelease v) s = .next t ∧ t.pair.req = asked 2 idx 1 ∧ t.pair.drillMine = false ∧ t = { s with pair := t.pair })) ∧
    (s.paired = true → ¬ swapOk → Refused (.pairCmdSwapDrill v) ∧ Refused (.pairCmdRelease v)) ∧
    (s.paired = false → ∀ i, i = .pairCmdSwapDrill v ∨ i = .pairCmdRelease v ∨ i = .pairCmdResync ∨ i = .drillDue → exec i s = .next s) ∧
    (s.paired = true → s.role = 2 → ∃ t, exec .pairCmdResync s = .next t ∧ t.pair.txq = allPages ∧ t.pair.txFull = true ∧
      t = { s with pair := t.pair }) ∧
    (s.paired = true → s.role ≠ 2 → Refused .pairCmdResync) ∧
    (p.drill = none → exec (.drillCheckEnd fieldOk fail) s = .next s) ∧
    (∀ d, p.drill = some d →
      (d.ok = true → d.low = none → s.tickNo < d.tick + s.fld Reg.PAIR_DRILL 15 0 → exec (.drillCheckEnd true none) s = .next s) ∧
      (d.ok = true → d.low = none → d.tick + s.fld Reg.PAIR_DRILL 15 0 ≤ s.tickNo → ∃ t, exec (.drillCheckEnd true none) s = .next t ∧ t.pair.drill = none ∧ t.bit stat 18 = false ∧
        t.bit stat 19 = false ∧ t.rd Reg.PAIR_DRILL_AGE = 0 ∧ t.bit Reg.INT_STAT_HI 11 = true ∧ OnlyRegsSig s t [stat, Reg.PAIR_DRILL_AGE]) ∧
      (fieldOk = false ∨ d.ok = false ∨ d.low ≠ none ∨ fail.any (fun n => s.fioIsOut n.val && s.bit (Reg.FIO_CFG n.val) 25 && !s.pairBit Reg.FIO_CMD_LO n.val) = true →
        ∃ t, exec (.drillCheckEnd fieldOk fail) s = .next t ∧ t.pair.drill = none ∧ t.bit stat 18 = false ∧
        t.bit Reg.PAIR_FLAG 5 = true ∧ t.pair.ask = some 3 ∧ t.pair.req = p.req ∧ t.bit Reg.INT_STAT_HI 11 = true ∧
        OnlyRegsSig s t [stat, Reg.PAIR_FLAG])) ∧
    (s.bit stat 19 = true → exec .drillDue s = .next s) ∧
    (s.paired = true → s.bit stat 19 = false → ∃ t, exec .drillDue s = .next t ∧ t.bit stat 19 = true ∧ t.bit Reg.INT_STAT_HI 11 = true ∧ t.pair = p ∧
      t = { s with regs := t.regs, supPend := t.supPend, tb := t.tb }) ∧
    (p.syncAt = none ∨ s.paired = false ∨ s.role ≠ 1 ∨ s.pairSync = false ∨ s.prefNow = false ∨ s.bit Reg.PAIR_CTRL 0 = true ∨ p.req ≠ none ∨
      p.hand ≠ none → exec .prefDwellExpiry s = .next s) ∧
    (∀ at_, p.syncAt = some at_ → s.paired = true → s.role = 1 → s.pairSync = true → s.prefNow = true → s.bit Reg.PAIR_CTRL 0 = false →
      p.req = none → free → ∃ t, exec .prefDwellExpiry s = .next t ∧ t.pair.req = asked 1 (now + 4) 0 ∧ t.role = 1 ∧
        t = { s with regs := t.regs, tb := t.tb, pair := t.pair }) ∧
    (let old := s.rd Reg.PAIR_CFG
     let ready := s.bit Reg.BOOT_STAT 31
     let kept : Word := (old &&& 0x40000000) ||| (v &&& 0x00FFFF3F)
     let outs := [Reg.PAIR_CFG, Reg.FIO_STAT, Reg.CAN_STAT 0, Reg.CAN_STAT 1, Reg.CAN_STAT 2, Reg.CAN_STAT 3]
     (ready = false → ∃ t, exec (.pairCfgWrite v) s = .next t ∧ t.rd Reg.PAIR_CFG = kept ||| (v &&& 0x80000000) ∧ OnlyRegs s t outs ∧
       t = { s with regs := t.regs }) ∧
     (ready = true → bitAt v 31 = bitAt old 31 → ∃ t, exec (.pairCfgWrite v) s = .next t ∧ t.rd Reg.PAIR_CFG = kept ||| (old &&& 0x80000000) ∧
       OnlyRegs s t outs ∧ t = { s with regs := t.regs }) ∧
     (ready = true → bitAt v 31 ≠ bitAt old 31 → ∃ t, exec (.pairCfgWrite v) s = .next t ∧ t.rd Reg.PAIR_CFG = kept ||| (old &&& 0x80000000) ∧
       t.bit Reg.PAIR_FLAG 6 = true ∧ OnlyRegs s t [Reg.PAIR_CFG, Reg.PAIR_FLAG] ∧ t = { s with regs := t.regs }))

/-! ### Host bus, interrupts and mailboxes (chapter 17) -/

/-- Direct accesses (R551 to R563), interrupts (R572, R574, R575) and mailboxes (R576): a write reaches its register or reports its error, a
read answers and clears what it must.
It rests on the model's readings in log entries 15, 16, 17 and 198. -/
def Obligations.HostBusInterruptsMailboxes : Prop :=
  ∀ (s : State) (r : Req) (be : BitVec 4) (v h : Word) (hi : Bool) (n : Fin 4) (k : Fin 4) (a : BitVec 20),
    let served := s.served r = true
    let en := 0x108 + 4 * k.val
    let errAddr := Reg.HBI_ERR_ADDR
    let stat := if hi then Reg.INT_STAT_HI else Reg.INT_STAT_LO
    let mb := Reg.MBOX_STAT
    let BusError (i : Instr) (flag : Nat) : Prop := ∃ t, exec i s = .next t ∧ t.bit Reg.HBI_STAT flag = true ∧ t.bit Reg.INT_STAT_HI 13 = true ∧
      OnlyRegs s t [errAddr, Reg.HBI_STAT, Reg.INT_STAT_HI]
    (∀ i q, i.requester = some q → s.served q = false → exec i s = .next s) ∧
    (served → 0x3C000 ≤ a.toNat → BusError (.registerWrite r a be v) 2 ∧ BusError (.unmappedAccess r true a be) 2 ∧
      BusError (.unmappedAccess r false a be) 2 ∧ ∃ t, exec (.unmappedAccess r false a be) s = .next t ∧ t.answered r = 0) ∧
    (a.toNat < 0x3C000 → ∀ w, exec (.unmappedAccess r w a be) s = .next s) ∧
    (served → (∃ t, exec (.registerWrite r (BitVec.ofNat 20 en) 15 v) s = .next t ∧ t.rd en = v ∧ OnlyRegs s t [en] ∧ t = { s with regs := t.regs }) ∧
      (be ≠ 15 → BusError (.registerWrite r (BitVec.ofNat 20 en) be v) 1 ∧
        ∃ t, exec (.registerWrite r (BitVec.ofNat 20 en) be v) s = .next t ∧ t.rd en = s.rd en) ∧
      (∀ win : Fin 3, ∃ t, exec (.aliasWrite r win (BitVec.ofNat 18 en) 15 v) s = .next t ∧
        t.rd en = (if win.val = 0 then s.rd en ||| v else if win.val = 1 then s.rd en &&& ~~~ v else s.rd en ^^^ v) ∧
        OnlyRegs s t [en] ∧ t = { s with regs := t.regs }) ∧
      (∀ win : Fin 3, BusError (.aliasWrite r win (BitVec.ofNat 18 Reg.INT_STAT_LO) 15 v) 3)) ∧
    (served → 0x10000 ≤ a.toNat ∧ a.toNat < 0x11000 ∨ 0x38000 ≤ a.toNat ∧ a.toNat < 0x39000 →
      let x := a.toNat / 4 * 4
      (∀ row, regRow x = some row → ∃ t, exec (.readClear r a) s = .next t ∧ t.answered r = s.rd x &&& ~~~ w32 row.wo ∧
        t.rd x = s.rd x &&& ~~~ w32 row.rc ∧ OnlyRegs s t [x] ∧ t = { s with regs := t.regs, rsp := t.rsp }) ∧
      (regRow x = none → ∃ t, exec (.readClear r a) s = .next t ∧ t.answered r = 0 ∧ t = { s with rsp := t.rsp })) ∧
    (s.power.spi = false ∨ s.hbiReady = false → ∀ ws, exec (.spiFrame h ws) s = .next s) ∧
    (s.power.spi = true → s.hbiReady = true →
      (field h 29 28 ≠ 0 ∨ field h 23 20 ≠ 0 ∨ field h 1 0 ≠ 0 → ∀ ws, ∃ t, exec (.spiFrame h ws) s = .next t ∧ t.bit Reg.HBI_STAT 4 = true ∧
        t.bit Reg.INT_STAT_HI 13 = true ∧ t.spiOut = [] ∧ OnlyRegs s t [Reg.HBI_STAT, Reg.INT_STAT_HI]) ∧
      (field h 29 28 = 0 → field h 23 20 = 0 → field h 1 0 = 0 →
        let at_ := BitVec.ofNat 20 (field h 19 2 * 4)
        let clean := { s with spiOut := [] }
        (bitAt h 31 = false → ∃ t, exec (.registerWrite .host at_ (BitVec.ofNat 4 (field h 27 24)) v) clean = .next t ∧
          exec (.spiFrame h [v]) s = .next t) ∧
        (bitAt h 31 = true → field h 27 24 = 15 → ∃ t, exec (.readClear .host at_) clean = .next t ∧
          exec (.spiFrame h [v]) s = .next { t with spiOut := [t.answered .host] } ∧
          ∀ w, bitAt h 30 = false → ∃ u, exec (.readClear .host at_) { t with spiOut := [t.answered .host] } = .next u ∧
            exec (.spiFrame h [v, w]) s = .next { u with spiOut := [t.answered .host, u.answered .host] }))) ∧
    (s.sysRuns = true → ∃ t, exec (.intStatClear hi v) s = .next t ∧ t.rd stat = s.rd stat &&& ~~~ v ∧ OnlyRegs s t [stat] ∧
      t = { s with regs := t.regs }) ∧
    (s.sysRuns = true → ∃ t, exec (.intForce hi v) s = .next t ∧ t.rd stat = s.rd stat ||| v ∧ OnlyRegs s t [stat] ∧
      (∀ i m, i < 2 → m < 32 → bitAt v m = true → (t.supBits i).getLsbD (m + if hi then 32 else 0) = true) ∧
        t = { s with regs := t.regs, supPend := t.supPend }) ∧
    (s.sysRuns = false → exec (.intStatClear hi v) s = .next s ∧ exec (.intForce hi v) s = .next s) ∧
    (s.served r = true → r.isHost = false →
      (∃ t, exec (.mboxS2hWrite r n v) s = .next t ∧ t.rd (Reg.MBOX_S2H n.val) = v ∧ t.bit mb n.val = true ∧
        t.bit mb (8 + n.val) = (s.bit mb n.val || s.bit mb (8 + n.val)) ∧ t.bit Reg.INT_STAT_HI (28 + n.val) = true ∧
        OnlyRegs s t [Reg.MBOX_S2H n.val, mb, Reg.INT_STAT_HI] ∧ t = { s with regs := t.regs }) ∧
      (∃ t, exec (.mboxH2sWrite r n v) s = .next t ∧ t.rd (Reg.MBOX_H2S n.val) = s.rd (Reg.MBOX_H2S n.val) ∧ t.bit Reg.INT_STAT_HI 13 = true) ∧
      (∃ t, exec (.mboxH2sRead r n) s = .next t ∧ t.answered r = s.rd (Reg.MBOX_H2S n.val) ∧ t.bit mb (4 + n.val) = false ∧ OnlyRegs s t [mb] ∧
        t = { s with regs := t.regs, rsp := t.rsp }) ∧
      (∃ t, exec (.mboxS2hRead r n) s = .next t ∧ t.answered r = s.rd (Reg.MBOX_S2H n.val) ∧ t = { s with rsp := t.rsp })) ∧
    (s.served r = true → r.isHost = true →
      (∃ t, exec (.mboxH2sWrite r n v) s = .next t ∧ t.rd (Reg.MBOX_H2S n.val) = v ∧ t.bit mb (4 + n.val) = true ∧
        t.bit mb (8 + n.val) = (s.bit mb (4 + n.val) || s.bit mb (8 + n.val)) ∧ (∀ i, i < 2 → (t.supBits i).getLsbD (60 + n.val) = true) ∧
        OnlyRegs s t [Reg.MBOX_H2S n.val, mb] ∧ t = { s with regs := t.regs, supPend := t.supPend }) ∧
      BusError (.mboxS2hWrite r n v) 5 ∧
      (∃ t, exec (.mboxS2hRead r n) s = .next t ∧ t.answered r = s.rd (Reg.MBOX_S2H n.val) ∧ t.bit mb n.val = false ∧ OnlyRegs s t [mb]) ∧
      (∃ t, exec (.mboxH2sRead r n) s = .next t ∧ t.answered r = s.rd (Reg.MBOX_H2S n.val) ∧ t = { s with rsp := t.rsp }))

/-- The indirect interface of each requester (R565 to R570): address and control, streams of reads, queued writes and their errors; another
requester's interface is not touched.
It rests on the model's readings in log entries 13, 14 and 174. -/
def Obligations.IndirectInterface : Prop :=
  ∀ (s : State) (r : Req) (be : BitVec 4) (v : Word) (ok : Bool),
    let x := s.ind r.num
    let step := w32 (Ind_step x)
    let Mine (t : State) : Prop := ∀ q, q ≠ r.num → t.ind q = s.ind q
    let Fails (i : Instr) (cause : Nat) : Prop := ∃ t, exec i s = .next t ∧ (t.ind r.num).err = true ∧ (t.ind r.num).cause = cause ∧
      t.bit Reg.INT_STAT_HI 14 = true ∧ Mine t ∧ t.mram = s.mram ∧ OnlyRegs s t [Reg.INT_STAT_HI]
    (s.served r = true → Ind_queued x = 0 →
      (∃ t, exec (.hbiIndAddrWrite r v) s = .next t ∧ (t.ind r.num).addr = v ∧ (t.ind r.num).base = v.toNat ∧ (t.ind r.num).pf = [] ∧ (t.ind r.num).next = v.toNat ∧
        (t.ind r.num).live = !bitAt x.ctrl 31 ∧ Mine t ∧ t = { s with inds := t.inds }) ∧
      (∃ t, exec (.hbiIndCtrlWrite r v) s = .next t ∧ (t.ind r.num).ctrl = v &&& 0xB0FFFFFF ∧ (t.ind r.num).pf = [] ∧
        (t.ind r.num).live = !bitAt v 31 ∧ Mine t ∧ t = { s with inds := t.inds })) ∧
    (s.served r = true → Ind_queued x ≠ 0 →
      (∃ t, exec (.hbiIndAddrWrite r v) s = .next t ∧ t.ind r.num = { x with held := x.held ++ [.addr v] } ∧ Mine t ∧ t = { s with inds := t.inds }) ∧
      (∃ t, exec (.hbiIndCtrlWrite r v) s = .next t ∧ t.ind r.num = { x with held := x.held ++ [.ctrl v] } ∧ Mine t ∧
        t = { s with inds := t.inds })) ∧
    (s.served r = true → bitAt x.ctrl 31 = true → Fails (.hbiIndDataRead r) 5 ∧ ∃ t, exec (.hbiIndDataRead r) s = .next t ∧ t.answered r = 0) ∧
    (s.served r = true → bitAt x.ctrl 31 = false →
      (∀ w ws, x.pf = w :: ws → ∃ t, exec (.hbiIndDataRead r) s = .next t ∧ t.answered r = w ∧ (t.ind r.num).pf = ws ∧
        (t.ind r.num).addr = x.addr + step ∧ Mine t ∧ t = { s with rsp := t.rsp, inds := t.inds }) ∧
      (x.pf = [] → ∃ t, exec (.hbiIndDataRead r) s = .next t ∧ t.answered r = x.last ∧ (t.ind r.num).underrun = true ∧
        (t.ind r.num).addr = x.addr ∧ Mine t ∧ t = { s with rsp := t.rsp, inds := t.inds })) ∧
    (s.served r = true → be ≠ 15 → ∃ t, exec (.hbiIndDataWrite r be v) s = .next t ∧ t.inds = s.inds ∧ t.bit Reg.HBI_STAT 1 = true ∧ t.bit Reg.INT_STAT_HI 13 = true) ∧
    (s.served r = true → bitAt (Ind_ahead x).ctrl 31 = false → Fails (.hbiIndDataWrite r 15 v) 5) ∧
    (s.served r = true → bitAt (Ind_ahead x).ctrl 31 = true → 8 ≤ Ind_queued x → Fails (.hbiIndDataWrite r 15 v) 7) ∧
    (s.served r = true → bitAt (Ind_ahead x).ctrl 31 = true → Ind_queued x < 8 → ∃ t, exec (.hbiIndDataWrite r 15 v) s = .next t ∧
      (x.held = [] → (t.ind r.num).wq = x.wq ++ [{ base := x.base, addr := x.addr.toNat, width := Ind_width x, val := v }] ∧ (t.ind r.num).addr = x.addr + step) ∧
      (x.held ≠ [] → t.ind r.num = { x with held := x.held ++ [.data v] }) ∧ Mine t ∧ t = { s with inds := t.inds }) ∧
    (x.live = false ∨ 16 ≤ x.pf.length ∨ x.left = some 0 → exec (.indPrefetchDone r ok) s = .next s) ∧
    (x.live = true → x.pf.length < 16 → x.left ≠ some 0 →
      (∀ c, s.indCause x.base x.next (Ind_width x) = some c → Fails (.indPrefetchDone r ok) c ∧
        ∃ t, exec (.indPrefetchDone r ok) s = .next t ∧ (t.ind r.num).pf = x.pf ++ [0] ∧ (t.ind r.num).live = false) ∧
      (s.indCause x.base x.next (Ind_width x) = none → x.next < 0x4000000 → Fails (.indPrefetchDone r false) 6 ∧
        ∃ t, exec (.indPrefetchDone r true) s = .next t ∧
          (t.ind r.num).pf.take (x.pf.length + 1) = x.pf ++ [w32 (leWord (s.mbs (Ind_width x) x.next)).toNat] ∧ Mine t ∧ t.mram = s.mram ∧ OnlyRegs
            s t [Reg.INT_STAT_HI])) ∧
    (x.wq = [] → exec (.indQueuedWriteDone r ok) s = .next s) ∧
    (∀ q qs, x.wq = q :: qs → x.held = [] →
      (∀ c, s.indCause q.base q.addr q.width = some c → Fails (.indQueuedWriteDone r ok) c ∧
        ∃ t, exec (.indQueuedWriteDone r ok) s = .next t ∧ (t.ind r.num).wq = qs) ∧
      (s.indCause q.base q.addr q.width = none → q.addr < 0x4000000 → Fails (.indQueuedWriteDone r false) 6 ∧
        (mramWriter (if r.isHost then .host else .supervisor) q.addr = true → q.width = 1 ∨ q.width = 2 ∨ q.width = 4 → ∃ t, exec
          (.indQueuedWriteDone r true) s = .next t ∧
          (∀ m, m < q.width → t.mb (q.addr + m) = (leBytes q.val).getD m 0) ∧
          (∀ m, m < q.addr ∨ q.addr + q.width ≤ m → t.mb m = s.mb m) ∧ (t.ind r.num).wq = qs ∧ Mine t ∧ t.regs = s.regs)))

/-! ### Power, resets and the boot service (chapters 17 and 18) -/

/-- Domains, HALF mode, voltages, hold-up and thermal limits (R582 to R590).
It rests on the model's readings in log entries 120, 121, 122, 159, 167, 186, 199 and 200. -/
def Obligations.PowerDomainsHoldUpThermal : Prop :=
  ∀ (s : State) (r : Fin 4) (m : Fin 3) (b : Fin 7) (vhold vin temp : BitVec 16) (src : Fin 6) (v : Word),
    let stat := Reg.PWR_STAT
    let flag := Reg.PWR_FLAG
    let p := s.power
    let k := r.val
    let avs := Reg.PWR_AVS k
    let now := s.vnow k
    let back := if p.overVin then 17000 else 18000
    let level := ∀ q, q ∈ s.neighbours k → s.vnow q ≤ now + 95
    let refusedOff (q : Nat) : Bool := s.bit Reg.PWR_DOM (1 + q) && !bitAt v (1 + q) && !s.regionStopped q
    let reading (t : State) : Nat := if src.val < 4 then t.fld (Reg.PWR_TEMP src.val) 15 0 else t.fld (Reg.AFE_STAT (src.val - 4)) 31 16
    let step := s.holdStep
    let Held (i : Instr) : Prop := ∃ t, exec i s = .next t ∧ t.bit stat 12 = true ∧ t.bit stat 10 = false ∧ t.bit flag 1 = true ∧
      t.bit Reg.INT_STAT_HI 12 = true ∧ t.power.holdAt = s.tb.cnt ∧ t.rd Reg.PWR_VMON = w32 (vhold.toNat * 65536 + vin.toNat) ∧
      t.holdStep = (if s.bit stat 11 then 1 else 3) ∧ (s.bit stat 11 = false → s.bucketOf 0x212 = none → (t.tally.last.map (·.code)) = some 0x212) ∧ t.tally.closed = s.tally.closed ∧
        t = { s with regs := t.regs, mram := t.mram, supPend := t.supPend, tally := t.tally, buckets := t.buckets, eth := t.eth, recs := t.recs, wbs := t.wbs, pair := t.pair, power := t.power }
    (∃ t, exec (.pwrDomWrite v) s = .next t ∧ (∀ i, i = 0 ∨ i = 5 ∨ i = 6 → t.bit Reg.PWR_DOM i = bitAt v i) ∧
      (∀ q, q < 4 → t.bit Reg.PWR_DOM (1 + q) = (bitAt v (1 + q) || refusedOff q)) ∧
      (∀ q, q < 4 → refusedOff q = true → t.bit flag 0 = true ∧ t.bit Reg.INT_STAT_HI 12 = true) ∧
      OnlyRegsSig s t [Reg.PWR_DOM, flag] ∧ t = { s with power := t.power, regs := t.regs, supPend := t.supPend, tally := t.tally, buckets := t.buckets }) ∧
    ((∀ q, q < 4 → q ≠ k → bitAt v q = s.bit Reg.PWR_HALF q) → bitAt v k ≠ s.bit Reg.PWR_HALF k →
      (s.regionStopped k = false → ∃ t, exec (.pwrHalfWrite v) s = .next t ∧ t.bit flag 0 = true ∧ OnlyRegsSig s t [flag]) ∧
      (s.regionStopped k = true → (bitAt v k = true → ∀ i, i < 4 → s.halfTooLong (4 * k + i) = none) → ∃ t, exec (.pwrHalfWrite v) s = .next t ∧
        t.bit Reg.PWR_HALF k = bitAt v k ∧ OnlyRegs s t [Reg.PWR_HALF] ∧
          t = { s with regs := t.regs, supPend := t.supPend, tally := t.tally, buckets := t.buckets }) ∧
      (s.regionStopped k = true → bitAt v k = true → (∃ i, i < 4 ∧ (s.halfTooLong (4 * k + i)).isSome = true) → ∃ t,
        exec (.pwrHalfWrite v) s = .next t ∧ t.bit Reg.INT_STAT_HI 26 = true ∧ OnlyRegsSig s t [])) ∧
    (let go := s.tick.running = true ∧ (∀ i, i < 4 → s.clPhase (4 * k + i) = .idle) ∧ s.halfMode k ≠ s.bit Reg.PWR_HALF k
     (go → ∃ t, exec (.halfApply r) s = .next t ∧ t.halfMode k = s.bit Reg.PWR_HALF k ∧ t.bit stat (16 + k) = s.bit Reg.PWR_HALF k ∧
       OnlyRegs s t [Reg.REG_STAT k, stat] ∧ t = { s with regs := t.regs }) ∧
     (¬ go → exec (.halfApply r) s = .next s)) ∧
    (s.avsFixed k = true ∨ s.bit stat (1 + k) = false → exec (.avsStep r m) s = .next s) ∧
    (s.avsFixed k = false → s.bit stat (1 + k) = true → ∃ t, exec (.avsStep r m) s = .next t ∧
      (m.val = 2 ∨ ¬ level → 720 ≤ now + 5 → now + 5 ≤ 880 → (∀ q, q ∈ s.neighbours k → now + 5 ≤ s.vnow q + 100) → t.vnow k = now + 5) ∧
      ((∃ q, q ∈ s.neighbours k ∧ s.vnow q + 100 < now + 5) → m.val = 2 ∨ ¬ level → t.vnow k = now) ∧
      (m.val = 1 → level → 725 ≤ now → now ≤ 885 → t.vnow k = now - 5) ∧
      (m.val = 0 → level → t.vnow k = now) ∧ now ≤ t.vnow k + 5 ∧ t.vnow k ≤ now + 5 ∧ OnlyRegs s t [avs] ∧ t = { s with regs := t.regs }) ∧
    (s.sysRuns = true → step = 0 → (vin.toNat < 8500 → Held (.holdupStart vhold vin)) ∧ (18000 < vin.toNat → Held (.vinOvervoltage vhold vin) ∧
      ∃ t, exec (.vinOvervoltage vhold vin) s = .next t ∧ t.power.overVin = true)) ∧
    (s.sysRuns = false ∨ step ≠ 0 ∨ 8500 ≤ vin.toNat → exec (.holdupStart vhold vin) s = .next s) ∧
    (s.sysRuns = true → step ≠ 0 → 18000 < vin.toNat → exec (.vinOvervoltage vhold vin) s = .next { s with power := { p with overVin := true } }) ∧
    (s.sysRuns = false ∨ vin.toNat ≤ 18000 → exec (.vinOvervoltage vhold vin) s = .next s) ∧
    (let shed := step = 1 ∧ s.pair.ask ≠ some 2 ∧ s.pair.req = none ∧ s.pair.hand = none
     (shed → ∃ t, exec .pdNetShed s = .next t ∧ t.bit stat 0 = false ∧ t.netOn = false ∧ t.holdStep = 2 ∧ t.eth.queues = [] ∧
       t = { s with regs := t.regs, supPend := t.supPend, tally := t.tally, buckets := t.buckets, tb := t.tb, eth := t.eth, pair := t.pair }) ∧
     (¬ shed → exec .pdNetShed s = .next s)) ∧
    (let low := (step = 1 ∨ step = 2) ∧ vhold.toNat < 100 * s.fld Reg.PWR_HOLD 31 24
     (low → ∃ t, exec (.holdupStep3 vhold) s = .next t ∧ t.holdStep = 3 ∧ t.bit Reg.INT_STAT_HI 12 = true ∧
       (s.bucketOf 0x212 = none → (t.tally.last.map (fun e => (e.code, e.p0))) = some (0x212, vhold.toNat)) ∧ t.tally.closed = s.tally.closed ∧
       t.fld Reg.PWR_VMON 31 16 = vhold.toNat ∧
         t = { s with regs := t.regs, mram := t.mram, supPend := t.supPend, mramErr := t.mramErr, tally := t.tally, buckets := t.buckets, recs := t.recs, wbs := t.wbs, power := t.power }) ∧
     (¬ low → exec (.holdupStep3 vhold) s = .next s)) ∧
    (step = 3 → s.tallyOut = true → s.lathe.flush = none → ∃ t, exec .holdupStep4 s = .next t ∧ t.power.off = true ∧ t.sysRuns = false ∧ t.mram = s.mram ∧ t.claims = State.reset.claims ∧
      (s.field_.up = true → s.flkUp = true → t.field_.outEn = false ∧ t.field_.cmd = 0)) ∧
    (step ≠ 3 ∨ s.tallyOut = false ∨ s.lathe.flush.isSome = true → exec .holdupStep4 s = .next s) ∧
    (step = 1 ∨ step = 2 → 9000 < vin.toNat → vin.toNat ≤ back → ∃ t, exec (.holdupEnd vhold vin) s = .next t ∧ t.holdStep = 0 ∧ t.holdActive = false ∧ t.bit stat 10 = true ∧
      t.bit stat 11 = decide (28000 ≤ vhold.toNat) ∧ t.bit flag 2 = true ∧ t.bit Reg.INT_STAT_HI 12 = true ∧
      t.power.overVin = false ∧ OnlyRegsSig s t [stat, flag, Reg.PWR_VMON] ∧
        t = { s with regs := t.regs, supPend := t.supPend, tally := t.tally, buckets := t.buckets, pair := t.pair, power := t.power }) ∧
    ((step ≠ 1 ∧ step ≠ 2) ∨ vin.toNat ≤ 9000 ∨ back < vin.toNat → exec (.holdupEnd vhold vin) s = .next s) ∧
    (p.off = true → exec (.holdOkChange vhold) s = .next s) ∧
    (p.off = false → ∃ t, exec (.holdOkChange vhold) s = .next t ∧ t.bit stat 11 = decide (28000 ≤ vhold.toNat) ∧
      t.fld Reg.PWR_VMON 31 16 = vhold.toNat ∧ OnlyRegs s t [stat, Reg.PWR_VMON] ∧ t = { s with regs := t.regs, power := t.power }) ∧
    (∃ t, exec (.thermalWarn src temp) s = .next t ∧ reading t = temp.toNat ∧
      (p.warned = false → s.fld Reg.PWR_TCFG 31 16 * 128 < sext 16 temp.toNat → t.power.warned = true ∧ t.bit flag 3 = true ∧
        t.bit Reg.INT_STAT_HI 24 = true) ∧
      (p.warned = true ∨ sext 16 temp.toNat ≤ s.fld Reg.PWR_TCFG 31 16 * 128 → t.power.warned = p.warned ∧ t = { s with regs := t.regs, power := t.power }) ∧
        t = { s with regs := t.regs, supPend := t.supPend, tally := t.tally, buckets := t.buckets, power := t.power }) ∧
    (p.warned = false → exec .thermalWarnClear s = .next s) ∧
    (p.warned = true → ∃ t, exec .thermalWarnClear s = .next t ∧ t.power.warned = false ∧
      (∀ i, i < 6 → sext 16 (if i < 4 then t.fld (Reg.PWR_TEMP i) 15 0 else t.fld (Reg.AFE_STAT (i - 4)) 31 16) < s.fld Reg.PWR_TCFG 31 16 * 128 - 640) ∧
      t = { s with regs := t.regs, power := t.power }) ∧
    (∃ t, exec (.thermalShutdown src temp) s = .next t ∧ reading t = temp.toNat ∧
      (min 150 (s.fld Reg.PWR_TCFG 15 0) * 128 ≤ sext 16 temp.toNat → step < 3 → s.sysRuns = true → t.power.thermal = true ∧ t.holdStep = 3 ∧
        t.bit flag 3 = true ∧ t.bit Reg.INT_STAT_HI 24 = true ∧ (s.bucketOf 0x212 = none → (t.tally.last.map (·.code)) = some 0x212)) ∧
      (sext 16 temp.toNat < min 150 (s.fld Reg.PWR_TCFG 15 0) * 128 ∨ 3 ≤ step ∨ s.sysRuns = false → t = { s with regs := t.regs, power := t.power }) ∧
      t = { s with regs := t.regs, mram := t.mram, supPend := t.supPend, mramErr := t.mramErr, tally := t.tally, buckets := t.buckets, recs := t.recs, wbs := t.wbs, power := t.power })
        ∧
    (let want := s.bit Reg.PWR_DOM b.val
     let stands := s.sysRuns = false ∨ s.bit stat b.val = want ∨ (b.val = 0 ∧ want = true ∧ s.holdActive = true)
     (stands → exec (.domainSwitchDone b) s = .next s) ∧
     (¬ stands → p.boot.cfgDone = false ∨ b.val = 0 ∨ 5 ≤ b.val ∨ want = false → ∃ t, exec (.domainSwitchDone b) s = .next t ∧ t.bit stat b.val =
       want ∧
       t.bit Reg.INT_STAT_HI 12 = true ∧ (b.val = 0 → t.netOn = want) ∧
       (∀ q, b.val = q + 1 → q < 4 → t.bit (Reg.REG_STAT q) 19 = !want) ∧
         t = { s with regs := t.regs, mram := t.mram, claims := t.claims, ended := t.ended, inds := t.inds, supPend := t.supPend, mramErr := t.mramErr, mramOut := t.mramOut, tally := t.tally, buckets := t.buckets, tb := t.tb, pins := t.pins, phase := t.phase, lanes := t.lanes, clSrc := t.clSrc, expect := t.expect, late := t.late, trk := t.trk, fpds := t.fpds, dets := t.dets, heldRegs := t.heldRegs, cores := t.cores, elems := t.elems, inForce := t.inForce, cans := t.cans, eth := t.eth, lines := t.lines, wbs := t.wbs, pair := t.pair, power := t.power, tick := t.tick, blz := t.blz }))

/-- Resets and the watchdog (R551, R580, R581, R591 to R594): which part each of them clears, which kind it leaves in PWR_RST, and what
survives.
It rests on the model's readings in log entries 117, 119, 124 and 201. -/
def Obligations.ResetsAndWatchdog : Prop :=
  ∀ (s : State) (r : Fin 4) (v : Word) (pref : RstPins) (spi : Bool),
    let p := s.power
    let rst := Reg.PWR_RST
    let Cleared (t : State) : Prop := t.mram = s.mram ∧ t.claims = State.reset.claims ∧ t.lanes = State.reset.lanes ∧ t.cores = State.reset.cores ∧
      t.elems = State.reset.elems ∧ t.cans = State.reset.cans ∧ t.pending = s.pending
    let Released (t : State) (kind : Nat) : Prop := t.sysRuns = true ∧ t.fld rst 2 0 = kind ∧ t.stage = 1 ∧ t.bit Reg.INT_STAT_HI 12 = true
    let Holds (i : Instr) (kind : Nat) : Prop := ∃ t, exec i s = .next t ∧ t.power.off = false ∧ t.power.cause = kind ∧ t.sysRuns = false ∧ Cleared
      t ∧
      t.rd rst = s.rd rst
    let key := field v 31 16 = 0x6B2D
    (key → bitAt v 8 = true → ∃ t, exec (.sysRstSoftware v) s = .next t ∧ Released t 4 ∧ Cleared t ∧ t.wdtResets = 0) ∧
    (¬ key ∨ bitAt v 8 = false → exec (.sysRstSoftware v) s = .next s) ∧
    (¬ key → exec (.sysRstRegion v) s = .next s) ∧
    (key → s.started = true → ∃ t, exec (.sysRstRegion v) s = .next t ∧ t = { s with power := t.power } ∧
      (∀ k, k < 4 → bitAt v k = true → k ∉ s.heldRegs → s.bit (Reg.REG_STAT k) 19 = false → k ∈ t.power.regReq)) ∧
    (key → s.started = false → ∃ t, exec (.sysRstRegion v) s = .next t ∧
      (∀ k, k < 4 → bitAt v k = true → k ∉ s.heldRegs → s.bit (Reg.REG_STAT k) 19 = false → k ∈ t.heldRegs ∧ t.regionRuns k = false) ∧
      t = { s with regs := t.regs, ended := t.ended, supPend := t.supPend, tally := t.tally, buckets := t.buckets, pins := t.pins, phase := t.phase, lanes := t.lanes, clSrc := t.clSrc, expect := t.expect, late := t.late, trk := t.trk, fpds := t.fpds, dets := t.dets, heldRegs := t.heldRegs, cores := t.cores, elems := t.elems, inForce := t.inForce, cans := t.cans, eth := t.eth, lines := t.lines, wbs := t.wbs, power := t.power, tick := t.tick, blz := t.blz })
        ∧
    (r.val ∈ s.heldRegs → ∃ t, exec (.regionResetRelease r) s = .next t ∧ r.val ∉ t.heldRegs ∧ t.bit Reg.INT_STAT_LO (16 + r.val) = true ∧
      t = { s with regs := t.regs, mram := t.mram, claims := t.claims, ended := t.ended, inds := t.inds, supPend := t.supPend, mramErr := t.mramErr, mramOut := t.mramOut, tally := t.tally, buckets := t.buckets, tb := t.tb, pins := t.pins, lanes := t.lanes, expect := t.expect, dets := t.dets, heldRegs := t.heldRegs, elems := t.elems, inForce := t.inForce, cans := t.cans, eth := t.eth, lines := t.lines, power := t.power })
        ∧
    (r.val ∉ s.heldRegs → exec (.regionResetRelease r) s = .next s) ∧
    (p.off = true → p.thermal = false → Holds .powerOnReset 1) ∧
    (p.off = true → p.thermal = true → Holds .thermalRestart 5) ∧
    (p.off = false ∨ p.thermal = true → exec .powerOnReset s = .next s) ∧
    (p.off = false ∨ p.thermal = false → exec .thermalRestart s = .next s) ∧
    (s.sysRuns = true ∨ (p.pllLost = true ∧ p.off = false) → Holds .resetNAssert 2 ∧ ∃ t, exec .resetNAssert s = .next t ∧ t.power.pllLost = false) ∧
    (s.sysRuns = false → p.pllLost = false → exec .resetNAssert s = .next s) ∧
    (p.off = false → p.pllLost = false → p.cause ≠ 0 → p.cause < 8 → ∃ t, exec (.resetNRelease pref spi) s = .next t ∧ Released t p.cause ∧ t.power.spi = spi ∧
      t.bit Reg.PAIR_CFG 30 = pref.pref ∧ t.power.testEn = pref.testEn ∧ t.bit Reg.HBI_STAT 31 = spi ∧ t.mram = s.mram ∧
        t = { s with regs := t.regs, supPend := t.supPend, tally := t.tally, buckets := t.buckets, eth := t.eth, power := t.power }) ∧
    (p.off = true ∨ p.pllLost = true ∨ p.cause = 0 → exec (.resetNRelease pref spi) s = .next s) ∧
    (s.sysRuns = true → s.hbiReady = false → ∃ t, exec .hbiAccessReady s = .next t ∧ t.hbiReady = true ∧ t.served .host = true ∧
      t = { s with regs := t.regs, hbiReady := t.hbiReady, tb := t.tb }) ∧
    (s.sysRuns = false ∨ s.hbiReady = true → exec .hbiAccessReady s = .next s) ∧
    (s.sysRuns = true → Holds .mainPllLoss 1 ∧ ∃ t, exec .mainPllLoss s = .next t ∧ t.power.pllLost = true ∧ t.role = 0 ∧
      t.bit Reg.PAIR_STAT 25 = false ∧ t.bit Reg.PAIR_STAT 24 = false ∧ t.lines = State.reset.lines) ∧
    (s.sysRuns = false → exec .mainPllLoss s = .next s) ∧
    (p.off = false → exec .vkeepLoss s = .next s) ∧
    (p.off = true → ∃ t, exec .vkeepLoss s = .next t ∧ t.power.keepLost = true ∧ t.mram = s.mram ∧
      (∀ a, t.rd a = if inKeep a then regReset a else s.rd a) ∧ t = { s with regs := t.regs, tb := t.tb, power := t.power }) ∧
    (s.bit Reg.PWR_WDT 31 = true → ∃ t, exec .wdtTimeout s = .next t ∧ Released t 3 ∧ Cleared t ∧ t.wdtResets = min 255 (s.wdtResets + 1)) ∧
    (s.bit Reg.PWR_WDT 31 = false → exec .wdtTimeout s = .next s ∧ exec .wdtWarn s = .next s) ∧
    (s.bit Reg.PWR_WDT 31 = true → p.wdtWarned = false → ∃ t, exec .wdtWarn s = .next t ∧ t.power.wdtWarned = true ∧ t.bit Reg.INT_STAT_HI 25 = true ∧
      t = { s with regs := t.regs, supPend := t.supPend, tally := t.tally, buckets := t.buckets, tb := t.tb, power := t.power }) ∧
    (p.wdtWarned = true → exec .wdtWarn s = .next s) ∧
    (let k := field v 15 0
     (k = 0xA55A → p.kick = false → ∃ t, exec (.wdtKick v) s = .next t ∧ t.power = { p with kick := true } ∧ t = { s with power := t.power }) ∧
     (k = 0x5AA5 → p.kick = true → ∃ t, exec (.wdtKick v) s = .next t ∧ t = { s with power := t.power } ∧
       t.power = { p with kick := false, wdtAt := s.tb.cnt, wdtWarned := false }) ∧
     (k ≠ 0xA55A → k ≠ 0x5AA5 ∨ p.kick = false → ∃ t, exec (.wdtKick v) s = .next t ∧ t.bit Reg.PWR_FLAG 4 = true ∧ t.power.wdtAt = p.wdtAt ∧
       t.power.kick = false ∧ OnlyRegs s t [Reg.PWR_FLAG]) ∧
     (k = 0xA55A → p.kick = true → ∃ t, exec (.wdtKick v) s = .next t ∧ t.bit Reg.PWR_FLAG 4 = true ∧ t.power = p ∧ OnlyRegs s t [Reg.PWR_FLAG])) ∧
    (p.boot.readyAt = none → exec .wdtCountClear s = .next s) ∧
    (∀ a, p.boot.readyAt = some a → ∃ t, exec .wdtCountClear s = .next t ∧ t.wdtResets = 0 ∧ t.fld rst 2 0 = s.fld rst 2 0 ∧
      t = { s with regs := t.regs, tb := t.tb })

/-- The boot service (R597 to R601, R605): images in order, what a failed one does, and the commands of BOOT_CMD.
It rests on the model's readings in log entries 125, 126, 128, 130 and 131. -/
def Obligations.BootServiceAndCommands : Prop :=
  ∀ (s : State) (e : Fin 20) (v : Word),
    let stat := Reg.BOOT_STAT
    let b := s.power.boot
    let n := e.val
    let Refused (i : Instr) : Prop := ∃ t, exec i s = .next t ∧ t.bit stat 29 = true ∧ t.bit Reg.INT_STAT_HI 12 = true ∧ t.power = s.power ∧
      OnlyRegsSig s t [stat]
    (s.sysRuns = false ∨ b.todo.head? ≠ some n → exec (.bootImageDone e) s = .next s) ∧
    (∀ rest, s.sysRuns = true → b.todo = n :: rest → b.loaded.testBit n = false → s.dirEntry n = none →
      (n ≤ 1 → s.bit stat (1 - n) = false → s.stage ≠ 8 → ∃ t, exec (.bootImageDone e) s = .next t ∧ t.bit stat n = true ∧
        t.power.boot.todo = (1 - n) :: rest ∧ t.bit Reg.INT_STAT_HI 26 = true) ∧
      (n ≤ 1 → s.bit stat (1 - n) = true → ∃ t, exec (.bootImageDone e) s = .next t ∧ t.stage = 8 ∧ t.power.boot.todo = [] ∧ t.bit stat n = true) ∧
      (n = 2 → ∃ t, exec (.bootImageDone e) s = .next t ∧ t.stage = 8 ∧ t.power.boot.todo = [] ∧ t.bit stat 2 = true ∧
        t.bit Reg.INT_STAT_HI 26 = true)) ∧
    (∀ rest env, s.sysRuns = true → b.todo = n :: rest → rest ≠ [] → n ≤ 1 → b.loaded.testBit n = false → s.dirEntry n = some env →
      ∃ t, exec (.bootImageDone e) s = .next t ∧ t.mram = s.mram ∧
        (s.envOk env 1 = true → t.power.boot.todo = rest ∧ t.power.boot.loaded = b.loaded ||| 2 ^ n ∧
          (t.core 17).run = .active ∧ (t.core 17).pc = supPc (s.mN (env + payloadOff + 4)))) ∧
    (s.stage ≠ 8 → Refused (.bootContinue v)) ∧
    (s.stage = 8 → ∃ t, exec (.bootContinue v) s = .next t ∧ t.power.boot.todo = s.bootTodo ∧ t.fld stat 19 0 = 0 ∧ t.bit stat 30 = false ∧
      t.stage = (if s.bootTodo = [] then 4 else 1) ∧ OnlyRegs s t [stat] ∧ t = { s with regs := t.regs, power := t.power }) ∧
    (let kind := field v 2 0
     let used := SMap.get (fun _ => 0) s.power.otpRows kind
     let min_ := Reg.BOOT_MINVER (kind - 1)
     (kind = 0 ∨ 4 < kind ∨ 8 ≤ used ∨ s.activeVersion kind = none → Refused (.bootRaiseMin v)) ∧
     (∀ ver, 1 ≤ kind → kind ≤ 4 → used < 8 → s.activeVersion kind = some ver → ∃ t, exec (.bootRaiseMin v) s = .next t ∧
       t.rd min_ = w32 (max (s.rd min_).toNat ver) ∧ SMap.get (fun _ => 0) t.power.otpRows kind = used + 1 ∧ t.bit Reg.INT_STAT_HI 26 = true ∧
       OnlyRegsSig s t [min_] ∧ t = { s with regs := t.regs, supPend := t.supPend, tally := t.tally, buckets := t.buckets, power := t.power }))
end

