-- ==== Sys2Proof/Laws/Map.lean ====
section
/-!
SUPPORT. The laws of sparse maps: what is read after a write, and that every operation keeps the canonical form.
-/
namespace Sys2Proof

variable {α : Type}

@[simp] theorem SMap.get_nil (d : Nat → α) (k : Nat) : SMap.get d ([] : SMap α) k = d k := rfl

theorem SMap.get_erase (d : Nat → α) (m : SMap α) (k j : Nat) :
    SMap.get d (SMap.erase m k) j = if k = j then d j else SMap.get d m j := by
  induction m with
  | nil => simp [SMap.erase]
  | cons e m ih =>
    obtain ⟨a, v⟩ := e
    by_cases h : a = k
    · subst h
      by_cases hj : a = j <;> simp_all [SMap.erase, SMap.get]
    · by_cases hj : a = j
      · subst hj
        have : k ≠ a := fun h' => h h'.symm
        simp [SMap.erase, SMap.get, h, this]
      · simp [SMap.erase, SMap.get, h, hj, ih]

theorem SMap.get_insert (d : Nat → α) (m : SMap α) (k j : Nat) (v : α) (h : ∀ e ∈ m, e.1 ≠ k) :
    SMap.get d (SMap.insert m k v) j = if k = j then v else SMap.get d m j := by
  induction m with
  | nil => simp [SMap.insert, SMap.get]
  | cons e m ih =>
    obtain ⟨a, x⟩ := e
    have hne : a ≠ k := h (a, x) (by simp)
    have ih := ih (fun e he => h e (by simp [he]))
    by_cases hlt : k < a
    · simp [SMap.insert, SMap.get, hlt]
    · by_cases hj : a = j
      · subst hj
        have : k ≠ a := fun h' => hne h'.symm
        simp [SMap.insert, SMap.get, hlt, this]
      · simp [SMap.insert, SMap.get, hlt, hj, ih]

theorem SMap.erase_keys (m : SMap α) (k : Nat) : ∀ e ∈ SMap.erase m k, e.1 ≠ k ∧ e ∈ m := by
  induction m with
  | nil => simp [SMap.erase]
  | cons e m ih =>
    obtain ⟨a, v⟩ := e
    intro e' he'
    by_cases h : a = k
    · simp only [SMap.erase, h, if_true] at he'
      exact ⟨(ih e' he').1, by simp [(ih e' he').2]⟩
    · simp only [SMap.erase, h, if_false, List.mem_cons] at he'
      rcases he' with rfl | he'
      · exact ⟨h, by simp⟩
      · exact ⟨(ih e' he').1, by simp [(ih e' he').2]⟩

/-- A read after a write gives the value written at that key and the old value at every other key. -/
@[simp] theorem SMap.get_set [DecidableEq α] (d : Nat → α) (m : SMap α) (k j : Nat) (v : α) :
    SMap.get d (SMap.set d m k v) j = if k = j then v else SMap.get d m j := by
  unfold SMap.set
  split
  · next h =>
    rw [SMap.get_erase]
    split
    · next hk => rw [h, hk]
    · rfl
  · rw [SMap.get_insert _ _ _ _ _ (fun e he => (SMap.erase_keys m k e he).1), SMap.get_erase]
    split <;> rfl

theorem SMap.get_drop (d : Nat → α) (p : Nat → Bool) (m : SMap α) (k : Nat) :
    SMap.get d (SMap.drop p m) k = if p k then d k else SMap.get d m k := by
  induction m with
  | nil => simp [SMap.drop]
  | cons e m ih =>
    obtain ⟨a, v⟩ := e
    unfold SMap.drop at ih ⊢
    by_cases hp : p a = true
    · rw [List.filter_cons_of_neg (by simp [hp]), ih]
      by_cases hk : a = k
      · subst hk; simp [hp]
      · simp [SMap.get, hk]
    · rw [List.filter_cons_of_pos (by simpa using hp)]
      by_cases hk : a = k
      · subst hk; simp [SMap.get, hp]
      · simp [SMap.get, hk, ih]

theorem SMap.sortedFrom_mono {lo lo' : Nat} (h : lo' ≤ lo) (m : SMap α) (hm : SMap.sortedFrom lo m = true) :
    SMap.sortedFrom lo' m = true := by
  cases m with
  | nil => rfl
  | cons e m =>
    obtain ⟨a, v⟩ := e
    simp only [SMap.sortedFrom, Bool.and_eq_true, decide_eq_true_eq] at hm ⊢
    exact ⟨le_trans h hm.1, hm.2⟩

theorem SMap.sortedFrom_keys (m : SMap α) (lo : Nat) (hm : SMap.sortedFrom lo m = true) : ∀ e ∈ m, lo ≤ e.1 := by
  induction m generalizing lo with
  | nil => simp
  | cons e m ih =>
    obtain ⟨a, v⟩ := e
    simp only [SMap.sortedFrom, Bool.and_eq_true, decide_eq_true_eq] at hm
    intro e he
    rcases List.mem_cons.1 he with rfl | he
    · exact hm.1
    · exact le_trans (by omega) (ih (a + 1) hm.2 e he)

theorem SMap.sortedFrom_filter (p : Nat × α → Bool) (m : SMap α) (lo : Nat) (hm : SMap.sortedFrom lo m = true) :
    SMap.sortedFrom lo (m.filter p) = true := by
  induction m generalizing lo with
  | nil => rfl
  | cons e m ih =>
    obtain ⟨a, v⟩ := e
    simp only [SMap.sortedFrom, Bool.and_eq_true, decide_eq_true_eq] at hm
    by_cases hp : p (a, v) = true
    · rw [List.filter_cons_of_pos hp]
      simpa [SMap.sortedFrom, hm.1] using ih (a + 1) hm.2
    · rw [List.filter_cons_of_neg hp]
      exact SMap.sortedFrom_mono (by omega) _ (ih (a + 1) hm.2)

theorem SMap.erase_eq_filter (m : SMap α) (k : Nat) : SMap.erase m k = m.filter (fun e => decide (e.1 ≠ k)) := by
  induction m with
  | nil => rfl
  | cons e m ih =>
    obtain ⟨a, v⟩ := e
    by_cases h : a = k <;> simp [SMap.erase, h, ih]

theorem SMap.sortedFrom_insert (m : SMap α) (k : Nat) (v : α) (lo : Nat) (hlo : lo ≤ k) (hk : ∀ e ∈ m, e.1 ≠ k)
    (hm : SMap.sortedFrom lo m = true) : SMap.sortedFrom lo (SMap.insert m k v) = true := by
  induction m generalizing lo with
  | nil => simp [SMap.insert, SMap.sortedFrom, hlo]
  | cons e m ih =>
    obtain ⟨a, x⟩ := e
    simp only [SMap.sortedFrom, Bool.and_eq_true, decide_eq_true_eq] at hm
    have hne : a ≠ k := hk (a, x) (by simp)
    by_cases hlt : k < a
    · simp [SMap.insert, SMap.sortedFrom, hlt, hlo, hm.2]
    · simp only [SMap.insert, hlt, if_false, SMap.sortedFrom, Bool.and_eq_true, decide_eq_true_eq]
      exact ⟨hm.1, ih (a + 1) (by omega) (fun e he => hk e (by simp [he])) hm.2⟩

theorem SMap.insert_mem (m : SMap α) (k : Nat) (v : α) : ∀ e ∈ SMap.insert m k v, e = (k, v) ∨ e ∈ m := by
  induction m with
  | nil => simp [SMap.insert]
  | cons x m ih =>
    obtain ⟨a, y⟩ := x
    intro e he
    by_cases hlt : k < a
    · simp only [SMap.insert, hlt, if_true, List.mem_cons] at he
      rcases he with rfl | he
      · exact .inl rfl
      · exact .inr (by simpa using he)
    · simp only [SMap.insert, hlt, if_false, List.mem_cons] at he
      rcases he with rfl | he
      · exact .inr (by simp)
      · rcases ih e he with h | h
        · exact .inl h
        · exact .inr (by simp [h])

/-- A write keeps the canonical form. -/
theorem SMap.wf_set [DecidableEq α] (d : Nat → α) (m : SMap α) (k : Nat) (v : α) (hm : SMap.wf d m = true) :
    SMap.wf d (SMap.set d m k v) = true := by
  simp only [SMap.wf, Bool.and_eq_true, List.all_eq_true, decide_eq_true_eq] at hm ⊢
  have he : SMap.sortedFrom 0 (SMap.erase m k) = true := by
    rw [SMap.erase_eq_filter]; exact SMap.sortedFrom_filter _ _ _ hm.1
  unfold SMap.set
  split
  · exact ⟨he, fun e h => hm.2 e (SMap.erase_keys m k e h).2⟩
  · next hv =>
    refine ⟨SMap.sortedFrom_insert _ _ _ _ (Nat.zero_le _) (fun e h => (SMap.erase_keys m k e h).1) he, fun e h => ?_⟩
    rcases SMap.insert_mem _ _ _ e h with rfl | h
    · exact hv
    · exact hm.2 e (SMap.erase_keys m k e h).2

/-- A reset of a range of keys keeps the canonical form. -/
theorem SMap.wf_drop [DecidableEq α] (d : Nat → α) (p : Nat → Bool) (m : SMap α) (hm : SMap.wf d m = true) :
    SMap.wf d (SMap.drop p m) = true := by
  simp only [SMap.wf, Bool.and_eq_true, List.all_eq_true, decide_eq_true_eq] at hm ⊢
  exact ⟨SMap.sortedFrom_filter _ _ _ hm.1, fun e h => hm.2 e (List.mem_filter.1 h).1⟩

theorem SMap.wf_nil [DecidableEq α] (d : Nat → α) : SMap.wf d ([] : SMap α) = true := rfl

end Sys2Proof
end

