-- ==== Sys2Proof/Laws/Agree.lean ====
section
/-!
SUPPORT. Frames: which fields of State an operation can change. `Agree m s t` says that t differs from s at most in the fields
whose bit is set in the mask m, and that the canonical form of memory is kept.
-/
namespace Sys2Proof.Machine
open Sys2Proof

/-- t agrees with s in every field whose bit in m is 0, and is canonical where s is. -/
structure Agree (m : Nat) (s t : State) : Prop where
  regs : m.testBit 0 = false → t.regs = s.regs
  mram : m.testBit 1 = false → t.mram = s.mram
  claims : m.testBit 2 = false → t.claims = s.claims
  ended : m.testBit 3 = false → t.ended = s.ended
  rsp : m.testBit 4 = false → t.rsp = s.rsp
  snaps : m.testBit 5 = false → t.snaps = s.snaps
  holds : m.testBit 6 = false → t.holds = s.holds
  inds : m.testBit 7 = false → t.inds = s.inds
  hbiReady : m.testBit 8 = false → t.hbiReady = s.hbiReady
  supPend : m.testBit 9 = false → t.supPend = s.supPend
  links : m.testBit 10 = false → t.links = s.links
  mramErr : m.testBit 11 = false → t.mramErr = s.mramErr
  mramOut : m.testBit 12 = false → t.mramOut = s.mramOut
  tally : m.testBit 13 = false → t.tally = s.tally
  buckets : m.testBit 14 = false → t.buckets = s.buckets
  tb : m.testBit 15 = false → t.tb = s.tb
  alms : m.testBit 16 = false → t.alms = s.alms
  pins : m.testBit 17 = false → t.pins = s.pins
  tick : m.testBit 18 = false → t.tick = s.tick
  stepFlag : m.testBit 19 = false → t.stepFlag = s.stepFlag
  phase : m.testBit 20 = false → t.phase = s.phase
  lanes : m.testBit 21 = false → t.lanes = s.lanes
  clSrc : m.testBit 22 = false → t.clSrc = s.clSrc
  expect : m.testBit 23 = false → t.expect = s.expect
  late : m.testBit 24 = false → t.late = s.late
  trk : m.testBit 25 = false → t.trk = s.trk
  fpds : m.testBit 26 = false → t.fpds = s.fpds
  dets : m.testBit 27 = false → t.dets = s.dets
  light : m.testBit 28 = false → t.light = s.light
  heldRegs : m.testBit 29 = false → t.heldRegs = s.heldRegs
  cores : m.testBit 30 = false → t.cores = s.cores
  elems : m.testBit 31 = false → t.elems = s.elems
  sups : m.testBit 32 = false → t.sups = s.sups
  inForce : m.testBit 33 = false → t.inForce = s.inForce
  cans : m.testBit 34 = false → t.cans = s.cans
  eth : m.testBit 35 = false → t.eth = s.eth
  field_ : m.testBit 36 = false → t.field_ = s.field_
  fio : m.testBit 37 = false → t.fio = s.fio
  lines : m.testBit 38 = false → t.lines = s.lines
  tripKey : m.testBit 39 = false → t.tripKey = s.tripKey
  lathe : m.testBit 40 = false → t.lathe = s.lathe
  ticks : m.testBit 41 = false → t.ticks = s.ticks
  recs : m.testBit 42 = false → t.recs = s.recs
  wbs : m.testBit 43 = false → t.wbs = s.wbs
  gauges : m.testBit 44 = false → t.gauges = s.gauges
  blz : m.testBit 45 = false → t.blz = s.blz
  pair : m.testBit 46 = false → t.pair = s.pair
  meter : m.testBit 47 = false → t.meter = s.meter
  power : m.testBit 48 = false → t.power = s.power
  freeCtr : m.testBit 49 = false → t.freeCtr = s.freeCtr
  pending : m.testBit 50 = false → t.pending = s.pending
  spiOut : m.testBit 51 = false → t.spiOut = s.spiOut
  wf : Memory.wf s = true → Memory.wf t = true

theorem Agree.refl (m : Nat) (s : State) : Agree m s s := by
  constructor <;> intros <;> first | rfl | assumption

theorem testBit_sub {a m : Nat} (h : a ||| m = m) {i : Nat} (hi : m.testBit i = false) : a.testBit i = false := by
  rw [← h, Nat.testBit_or, Bool.or_eq_false_iff] at hi
  exact hi.1

/-- An operation that changes fields of a, after one that changes fields of m, with a within m. -/
theorem Agree.then {a m : Nat} {s t u : State} (h : Agree m s t) (k : Agree a t u) (ha : a ||| m = m) : Agree m s u :=
  ⟨fun i => (k.regs (testBit_sub ha i)).trans (h.regs i),
   fun i => (k.mram (testBit_sub ha i)).trans (h.mram i),
   fun i => (k.claims (testBit_sub ha i)).trans (h.claims i),
   fun i => (k.ended (testBit_sub ha i)).trans (h.ended i),
   fun i => (k.rsp (testBit_sub ha i)).trans (h.rsp i),
   fun i => (k.snaps (testBit_sub ha i)).trans (h.snaps i),
   fun i => (k.holds (testBit_sub ha i)).trans (h.holds i),
   fun i => (k.inds (testBit_sub ha i)).trans (h.inds i),
   fun i => (k.hbiReady (testBit_sub ha i)).trans (h.hbiReady i),
   fun i => (k.supPend (testBit_sub ha i)).trans (h.supPend i),
   fun i => (k.links (testBit_sub ha i)).trans (h.links i),
   fun i => (k.mramErr (testBit_sub ha i)).trans (h.mramErr i),
   fun i => (k.mramOut (testBit_sub ha i)).trans (h.mramOut i),
   fun i => (k.tally (testBit_sub ha i)).trans (h.tally i),
   fun i => (k.buckets (testBit_sub ha i)).trans (h.buckets i),
   fun i => (k.tb (testBit_sub ha i)).trans (h.tb i),
   fun i => (k.alms (testBit_sub ha i)).trans (h.alms i),
   fun i => (k.pins (testBit_sub ha i)).trans (h.pins i),
   fun i => (k.tick (testBit_sub ha i)).trans (h.tick i),
   fun i => (k.stepFlag (testBit_sub ha i)).trans (h.stepFlag i),
   fun i => (k.phase (testBit_sub ha i)).trans (h.phase i),
   fun i => (k.lanes (testBit_sub ha i)).trans (h.lanes i),
   fun i => (k.clSrc (testBit_sub ha i)).trans (h.clSrc i),
   fun i => (k.expect (testBit_sub ha i)).trans (h.expect i),
   fun i => (k.late (testBit_sub ha i)).trans (h.late i),
   fun i => (k.trk (testBit_sub ha i)).trans (h.trk i),
   fun i => (k.fpds (testBit_sub ha i)).trans (h.fpds i),
   fun i => (k.dets (testBit_sub ha i)).trans (h.dets i),
   fun i => (k.light (testBit_sub ha i)).trans (h.light i),
   fun i => (k.heldRegs (testBit_sub ha i)).trans (h.heldRegs i),
   fun i => (k.cores (testBit_sub ha i)).trans (h.cores i),
   fun i => (k.elems (testBit_sub ha i)).trans (h.elems i),
   fun i => (k.sups (testBit_sub ha i)).trans (h.sups i),
   fun i => (k.inForce (testBit_sub ha i)).trans (h.inForce i),
   fun i => (k.cans (testBit_sub ha i)).trans (h.cans i),
   fun i => (k.eth (testBit_sub ha i)).trans (h.eth i),
   fun i => (k.field_ (testBit_sub ha i)).trans (h.field_ i),
   fun i => (k.fio (testBit_sub ha i)).trans (h.fio i),
   fun i => (k.lines (testBit_sub ha i)).trans (h.lines i),
   fun i => (k.tripKey (testBit_sub ha i)).trans (h.tripKey i),
   fun i => (k.lathe (testBit_sub ha i)).trans (h.lathe i),
   fun i => (k.ticks (testBit_sub ha i)).trans (h.ticks i),
   fun i => (k.recs (testBit_sub ha i)).trans (h.recs i),
   fun i => (k.wbs (testBit_sub ha i)).trans (h.wbs i),
   fun i => (k.gauges (testBit_sub ha i)).trans (h.gauges i),
   fun i => (k.blz (testBit_sub ha i)).trans (h.blz i),
   fun i => (k.pair (testBit_sub ha i)).trans (h.pair i),
   fun i => (k.meter (testBit_sub ha i)).trans (h.meter i),
   fun i => (k.power (testBit_sub ha i)).trans (h.power i),
   fun i => (k.freeCtr (testBit_sub ha i)).trans (h.freeCtr i),
   fun i => (k.pending (testBit_sub ha i)).trans (h.pending i),
   fun i => (k.spiOut (testBit_sub ha i)).trans (h.spiOut i),
   fun w => k.wf (h.wf w)⟩

theorem Agree.mono {a m : Nat} {s t : State} (k : Agree a s t) (ha : a ||| m = m) : Agree m s t := (Agree.refl m s).then k ha

theorem Agree.ite {m : Nat} {s a b : State} {c : Prop} [Decidable c] (ha : c → Agree m s a) (hb : ¬ c → Agree m s b) :
    Agree m s (if c then a else b) := by
  split
  · exact ha ‹_›
  · exact hb ‹_›

theorem Agree.foldl {m : Nat} {s t : State} {α : Type} {f : State → α → State} {l : List α} (ht : Agree m s t)
    (hf : ∀ u x, Agree m s u → Agree m s (f u x)) : Agree m s (l.foldl f t) := by
  induction l generalizing t with
  | nil => exact ht
  | cons x l ih => exact ih (hf t x ht)

theorem Agree.foldlP {m : Nat} {s : State} {α β : Type} {p : State × β} {f : State × β → α → State × β} {l : List α} (hp : Agree m s p.1)
    (hf : ∀ q x, Agree m s q.1 → Agree m s (f q x).1) : Agree m s (l.foldl f p).1 := by
  induction l generalizing p with
  | nil => exact hp
  | cons x l ih => exact ih (hf p x hp)

theorem Agree.whenI {m : Nat} {s t : State} {b : Bool} {f : State → State} (ht : Agree m s t)
    (hf : ∀ u, Agree m s u → Agree m s (f u)) : Agree m s (when b f t) := by
  unfold when
  split
  · exact hf t ht
  · exact ht

theorem Agree.matchPair {m : Nat} {s : State} {α : Type} {p : State × α} {f : State → α → State} (hp : Agree m s p.1)
    (hf : ∀ u x, Agree m s u → Agree m s (f u x)) : Agree m s (match p with | (u, x) => f u x) := hf _ _ hp

theorem Agree.iteP {m : Nat} {s : State} {α : Type} {a b : State × α} {c : Prop} [Decidable c] (ha : c → Agree m s a.1)
    (hb : ¬ c → Agree m s b.1) : Agree m s (if c then a else b).1 := by
  split
  · exact ha ‹_›
  · exact hb ‹_›

theorem Agree.matchPairP {m : Nat} {s : State} {α β : Type} {p : State × α} {f : State → α → State × β} (hp : Agree m s p.1)
    (hf : ∀ u x, Agree m s u → Agree m s (f u x).1) : Agree m s (match p with | (u, x) => f u x).1 := hf _ _ hp

theorem Agree.fstMk {m : Nat} {s t : State} {α : Type} {x : α} (h : Agree m s t) : Agree m s (t, x).1 := h

theorem Agree.optOr {m : Nat} {s t : State} {α : Type} {f : α → State} {o : Option α} (ht : Agree m s t) (hf : ∀ x, Agree m s (f x)) :
    Agree m s ((o.map f).getD t) := by
  cases o with
  | none => exact ht
  | some x => exact hf x

theorem Agree.optMap {m : Nat} {s : State} {α : Type} {f : α → State} {o : Option α} (hf : ∀ x, Agree m s (f x)) :
    Agree m s ((o.map f).getD s) := by
  cases o with
  | none => exact Agree.refl _ _
  | some x => exact hf x

/-- A change of one field by plain data. -/
theorem Agree.up_claims (s : State) (v) : Agree 4 s { s with claims := v } := by
  constructor <;> intro h <;> first | rfl | exact h | exact absurd h (by decide)
theorem Agree.up_ended (s : State) (v) : Agree 8 s { s with ended := v } := by
  constructor <;> intro h <;> first | rfl | exact h | exact absurd h (by decide)
theorem Agree.up_rsp (s : State) (v) : Agree 16 s { s with rsp := v } := by
  constructor <;> intro h <;> first | rfl | exact h | exact absurd h (by decide)
theorem Agree.up_snaps (s : State) (v) : Agree 32 s { s with snaps := v } := by
  constructor <;> intro h <;> first | rfl | exact h | exact absurd h (by decide)
theorem Agree.up_holds (s : State) (v) : Agree 64 s { s with holds := v } := by
  constructor <;> intro h <;> first | rfl | exact h | exact absurd h (by decide)
theorem Agree.up_inds (s : State) (v) : Agree 128 s { s with inds := v } := by
  constructor <;> intro h <;> first | rfl | exact h | exact absurd h (by decide)
theorem Agree.up_hbiReady (s : State) (v) : Agree 256 s { s with hbiReady := v } := by
  constructor <;> intro h <;> first | rfl | exact h | exact absurd h (by decide)
theorem Agree.up_supPend (s : State) (v) : Agree 512 s { s with supPend := v } := by
  constructor <;> intro h <;> first | rfl | exact h | exact absurd h (by decide)
theorem Agree.up_links (s : State) (v) : Agree 1024 s { s with links := v } := by
  constructor <;> intro h <;> first | rfl | exact h | exact absurd h (by decide)
theorem Agree.up_mramErr (s : State) (v) : Agree 2048 s { s with mramErr := v } := by
  constructor <;> intro h <;> first | rfl | exact h | exact absurd h (by decide)
theorem Agree.up_mramOut (s : State) (v) : Agree 4096 s { s with mramOut := v } := by
  constructor <;> intro h <;> first | rfl | exact h | exact absurd h (by decide)
theorem Agree.up_tally (s : State) (v) : Agree 8192 s { s with tally := v } := by
  constructor <;> intro h <;> first | rfl | exact h | exact absurd h (by decide)
theorem Agree.up_buckets (s : State) (v) : Agree 16384 s { s with buckets := v } := by
  constructor <;> intro h <;> first | rfl | exact h | exact absurd h (by decide)
theorem Agree.up_tb (s : State) (v) : Agree 32768 s { s with tb := v } := by
  constructor <;> intro h <;> first | rfl | exact h | exact absurd h (by decide)
theorem Agree.up_alms (s : State) (v) : Agree 65536 s { s with alms := v } := by
  constructor <;> intro h <;> first | rfl | exact h | exact absurd h (by decide)
theorem Agree.up_pins (s : State) (v) : Agree 131072 s { s with pins := v } := by
  constructor <;> intro h <;> first | rfl | exact h | exact absurd h (by decide)
theorem Agree.up_tick (s : State) (v) : Agree 262144 s { s with tick := v } := by
  constructor <;> intro h <;> first | rfl | exact h | exact absurd h (by decide)
theorem Agree.up_stepFlag (s : State) (v) : Agree 524288 s { s with stepFlag := v } := by
  constructor <;> intro h <;> first | rfl | exact h | exact absurd h (by decide)
theorem Agree.up_phase (s : State) (v) : Agree 1048576 s { s with phase := v } := by
  constructor <;> intro h <;> first | rfl | exact h | exact absurd h (by decide)
theorem Agree.up_lanes (s : State) (v) : Agree 2097152 s { s with lanes := v } := by
  constructor <;> intro h <;> first | rfl | exact h | exact absurd h (by decide)
theorem Agree.up_clSrc (s : State) (v) : Agree 4194304 s { s with clSrc := v } := by
  constructor <;> intro h <;> first | rfl | exact h | exact absurd h (by decide)
theorem Agree.up_expect (s : State) (v) : Agree 8388608 s { s with expect := v } := by
  constructor <;> intro h <;> first | rfl | exact h | exact absurd h (by decide)
theorem Agree.up_late (s : State) (v) : Agree 16777216 s { s with late := v } := by
  constructor <;> intro h <;> first | rfl | exact h | exact absurd h (by decide)
theorem Agree.up_trk (s : State) (v) : Agree 33554432 s { s with trk := v } := by
  constructor <;> intro h <;> first | rfl | exact h | exact absurd h (by decide)
theorem Agree.up_fpds (s : State) (v) : Agree 67108864 s { s with fpds := v } := by
  constructor <;> intro h <;> first | rfl | exact h | exact absurd h (by decide)
theorem Agree.up_dets (s : State) (v) : Agree 134217728 s { s with dets := v } := by
  constructor <;> intro h <;> first | rfl | exact h | exact absurd h (by decide)
theorem Agree.up_light (s : State) (v) : Agree 268435456 s { s with light := v } := by
  constructor <;> intro h <;> first | rfl | exact h | exact absurd h (by decide)
theorem Agree.up_heldRegs (s : State) (v) : Agree 536870912 s { s with heldRegs := v } := by
  constructor <;> intro h <;> first | rfl | exact h | exact absurd h (by decide)
theorem Agree.up_cores (s : State) (v) : Agree 1073741824 s { s with cores := v } := by
  constructor <;> intro h <;> first | rfl | exact h | exact absurd h (by decide)
theorem Agree.up_elems (s : State) (v) : Agree 2147483648 s { s with elems := v } := by
  constructor <;> intro h <;> first | rfl | exact h | exact absurd h (by decide)
theorem Agree.up_sups (s : State) (v) : Agree 4294967296 s { s with sups := v } := by
  constructor <;> intro h <;> first | rfl | exact h | exact absurd h (by decide)
theorem Agree.up_inForce (s : State) (v) : Agree 8589934592 s { s with inForce := v } := by
  constructor <;> intro h <;> first | rfl | exact h | exact absurd h (by decide)
theorem Agree.up_cans (s : State) (v) : Agree 17179869184 s { s with cans := v } := by
  constructor <;> intro h <;> first | rfl | exact h | exact absurd h (by decide)
theorem Agree.up_eth (s : State) (v) : Agree 34359738368 s { s with eth := v } := by
  constructor <;> intro h <;> first | rfl | exact h | exact absurd h (by decide)
theorem Agree.up_field_ (s : State) (v) : Agree 68719476736 s { s with field_ := v } := by
  constructor <;> intro h <;> first | rfl | exact h | exact absurd h (by decide)
theorem Agree.up_fio (s : State) (v) : Agree 137438953472 s { s with fio := v } := by
  constructor <;> intro h <;> first | rfl | exact h | exact absurd h (by decide)
theorem Agree.up_lines (s : State) (v) : Agree 274877906944 s { s with lines := v } := by
  constructor <;> intro h <;> first | rfl | exact h | exact absurd h (by decide)
theorem Agree.up_tripKey (s : State) (v) : Agree 549755813888 s { s with tripKey := v } := by
  constructor <;> intro h <;> first | rfl | exact h | exact absurd h (by decide)
theorem Agree.up_lathe (s : State) (v) : Agree 1099511627776 s { s with lathe := v } := by
  constructor <;> intro h <;> first | rfl | exact h | exact absurd h (by decide)
theorem Agree.up_ticks (s : State) (v) : Agree 2199023255552 s { s with ticks := v } := by
  constructor <;> intro h <;> first | rfl | exact h | exact absurd h (by decide)
theorem Agree.up_recs (s : State) (v) : Agree 4398046511104 s { s with recs := v } := by
  constructor <;> intro h <;> first | rfl | exact h | exact absurd h (by decide)
theorem Agree.up_wbs (s : State) (v) : Agree 8796093022208 s { s with wbs := v } := by
  constructor <;> intro h <;> first | rfl | exact h | exact absurd h (by decide)
theorem Agree.up_gauges (s : State) (v) : Agree 17592186044416 s { s with gauges := v } := by
  constructor <;> intro h <;> first | rfl | exact h | exact absurd h (by decide)
theorem Agree.up_blz (s : State) (v) : Agree 35184372088832 s { s with blz := v } := by
  constructor <;> intro h <;> first | rfl | exact h | exact absurd h (by decide)
theorem Agree.up_pair (s : State) (v) : Agree 70368744177664 s { s with pair := v } := by
  constructor <;> intro h <;> first | rfl | exact h | exact absurd h (by decide)
theorem Agree.up_meter (s : State) (v) : Agree 140737488355328 s { s with meter := v } := by
  constructor <;> intro h <;> first | rfl | exact h | exact absurd h (by decide)
theorem Agree.up_power (s : State) (v) : Agree 281474976710656 s { s with power := v } := by
  constructor <;> intro h <;> first | rfl | exact h | exact absurd h (by decide)
theorem Agree.up_freeCtr (s : State) (v) : Agree 562949953421312 s { s with freeCtr := v } := by
  constructor <;> intro h <;> first | rfl | exact h | exact absurd h (by decide)
theorem Agree.up_pending (s : State) (v) : Agree 1125899906842624 s { s with pending := v } := by
  constructor <;> intro h <;> first | rfl | exact h | exact absurd h (by decide)
theorem Agree.up_spiOut (s : State) (v) : Agree 2251799813685248 s { s with spiOut := v } := by
  constructor <;> intro h <;> first | rfl | exact h | exact absurd h (by decide)

/-- A new word map keeps the frame; the canonical form is the caller's to show. -/
theorem Agree.up_regs (s : State) (v : SMap Word) (hv : SMap.wf regReset s.regs = true → SMap.wf regReset v = true) :
    Agree 1 s { s with regs := v } := by
  constructor <;> intro h <;> first | rfl | exact absurd h (by decide) | skip
  simp only [Memory.wf, Bool.and_eq_true] at h ⊢
  exact ⟨hv h.1, h.2⟩

theorem Agree.up_mram (s : State) (v : List Host.Cell)
    (hv : SMap.wf (fun _ => (0 : Byte)) s.mram = true → SMap.wf (fun _ => (0 : Byte)) v = true) :
    Agree 2 s { s with mram := v } := by
  constructor <;> intro h <;> first | rfl | exact absurd h (by decide) | skip
  simp only [Memory.wf, Bool.and_eq_true] at h ⊢
  exact ⟨h.1, hv h.2⟩

end Sys2Proof.Machine
end

