-- ==== Sys2Proof/Laws/AgreeW.lean ====
section
/-!
SUPPORT. The frame relation on what a Walso instruction does: the state it carries, if any, agrees outside the mask.
-/
namespace Sys2Proof.Machine
open Sys2Proof

/-- The state an effect carries agrees with s outside the fields of m. -/
def AgreeE (m : Nat) (s : State) : WEff → Prop
  | .ok t => Agree m s t
  | .jump t _ _ => Agree m s t
  | .trap _ _ => True
  | .done t => Agree m s t

theorem AgreeE.ok {m : Nat} {s t : State} (h : Agree m s t) : AgreeE m s (.ok t) := h
theorem AgreeE.jump {m : Nat} {s t : State} {p c : Nat} (h : Agree m s t) : AgreeE m s (.jump t p c) := h
theorem AgreeE.trap {m : Nat} {s : State} {e a : Nat} : AgreeE m s (.trap e a) := True.intro
theorem AgreeE.done {m : Nat} {s t : State} (h : Agree m s t) : AgreeE m s (.done t) := h

theorem AgreeE.mono {a m : Nat} {s : State} {e : WEff} (k : AgreeE a s e) (ha : a ||| m = m) : AgreeE m s e := by
  cases e with
  | ok t => exact Agree.mono k ha
  | jump t p c => exact Agree.mono k ha
  | trap => exact True.intro
  | done t => exact Agree.mono k ha

theorem AgreeE.ite {m : Nat} {s : State} {a b : WEff} {c : Prop} [Decidable c] (ha : c → AgreeE m s a) (hb : ¬ c → AgreeE m s b) :
    AgreeE m s (if c then a else b) := by
  split
  · exact ha ‹_›
  · exact hb ‹_›

theorem unitResult_ho {m : Nat} {s : State} {k : CoreId} {rd : Nat} {r : State × Word} (h : Agree m s (r.1.setGr k rd r.2)) :
    AgreeE m s (unitResult k rd r) := h

end Sys2Proof.Machine
end

