-- ==== Sys2Proof/Laws/Frame/Ops.lean ====
section
/-!
SUPPORT. Frames of the operations of Machine/Ops.lean: the fields each can change, as a mask.
-/
set_option linter.unusedTactic false
set_option linter.unreachableTactic false
namespace Sys2Proof.Machine
open Sys2Proof

theorem State.wr_ag (s : State) (a : Nat) (v : Word) : Agree 1 s (s.wr a v) := Agree.up_regs s _ (SMap.wf_set _ _ _ _)

theorem State.put_ag (s : State) (a hi lo v : Nat) : Agree 1 s (State.put s a hi lo v) := by
  unfold State.put
  repeat' (with_reducible first | assumption | apply Agree.refl | intro _ | apply Agree.then (k := State.wr_ag _ _ _) | decide)

theorem State.putBit_ag (s : State) (a i : Nat) (b : Bool) : Agree 1 s (State.putBit s a i b) := by
  unfold State.putBit
  repeat' (with_reducible first | assumption | apply Agree.refl | intro _ | apply Agree.then (k := State.put_ag _ _ _ _ _) | decide)

theorem State.count_ag (s : State) (a hi lo n : Nat) : Agree 1 s (State.count s a hi lo n) := by
  unfold State.count
  repeat' (with_reducible first | assumption | apply Agree.refl | intro _ | apply Agree.then (k := State.put_ag _ _ _ _ _) | decide)

theorem State.regWrite_ag (s : State) (a : Nat) (v : Word) : Agree 1 s (State.regWrite s a v) := by
  unfold State.regWrite
  repeat' (with_reducible first | assumption | apply Agree.refl | intro _ | apply Agree.then (k := State.wr_ag _ _ _) | decide | split)

theorem State.tbMod_ag (s : State) (f : TimeBase → TimeBase) : Agree 32768 s (State.tbMod s f) := by
  unfold State.tbMod
  repeat' (with_reducible first | assumption | apply Agree.refl | intro _ | apply Agree.then (k := Agree.up_tb _ _) | decide)

theorem State.talMod_ag (s : State) (f : TallyU → TallyU) : Agree 8192 s (State.talMod s f) := by
  unfold State.talMod
  repeat' (with_reducible first | assumption | apply Agree.refl | intro _ | apply Agree.then (k := Agree.up_tally _ _) | decide)

theorem State.tickMod_ag (s : State) (f : TickU → TickU) : Agree 262144 s (State.tickMod s f) := by
  unfold State.tickMod
  repeat' (with_reducible first | assumption | apply Agree.refl | intro _ | apply Agree.then (k := Agree.up_tick _ _) | decide)

theorem State.fioMod_ag (s : State) (f : FioU → FioU) : Agree 137438953472 s (State.fioMod s f) := by
  unfold State.fioMod
  repeat' (with_reducible first | assumption | apply Agree.refl | intro _ | apply Agree.then (k := Agree.up_fio _ _) | decide)

theorem State.pairMod_ag (s : State) (f : PairU → PairU) : Agree 70368744177664 s (State.pairMod s f) := by
  unfold State.pairMod
  repeat' (with_reducible first | assumption | apply Agree.refl | intro _ | apply Agree.then (k := Agree.up_pair _ _) | decide)

theorem State.meterMod_ag (s : State) (f : MeterU → MeterU) : Agree 140737488355328 s (State.meterMod s f) := by
  unfold State.meterMod
  repeat' (with_reducible first | assumption | apply Agree.refl | intro _ | apply Agree.then (k := Agree.up_meter _ _) | decide)

theorem State.setStep_ag (s : State) (x : Bool) : Agree 524288 s (State.setStep s x) := by
  unfold State.setStep
  repeat' (with_reducible first | assumption | apply Agree.refl | intro _ | apply Agree.then (k := Agree.up_stepFlag _ _) | decide)

theorem State.setLate_ag (s : State) (x : List Nat) : Agree 16777216 s (State.setLate s x) := by
  unfold State.setLate
  repeat' (with_reducible first | assumption | apply Agree.refl | intro _ | apply Agree.then (k := Agree.up_late _ _) | decide)

theorem State.setMramErr_ag (s : State) (x : List MUser) : Agree 2048 s (State.setMramErr s x) := by
  unfold State.setMramErr
  repeat' (with_reducible first | assumption | apply Agree.refl | intro _ | apply Agree.then (k := Agree.up_mramErr _ _) | decide)

theorem State.setMramOut_ag (s : State) (x : Bytes) : Agree 4096 s (State.setMramOut s x) := by
  unfold State.setMramOut
  repeat' (with_reducible first | assumption | apply Agree.refl | intro _ | apply Agree.then (k := Agree.up_mramOut _ _) | decide)

theorem State.setEnded_ag (s : State) (x : List Nat) : Agree 8 s (State.setEnded s x) := by
  unfold State.setEnded
  repeat' (with_reducible first | assumption | apply Agree.refl | intro _ | apply Agree.then (k := Agree.up_ended _ _) | decide)

theorem State.setReady_ag (s : State) (x : Bool) : Agree 256 s (State.setReady s x) := by
  unfold State.setReady
  repeat' (with_reducible first | assumption | apply Agree.refl | intro _ | apply Agree.then (k := Agree.up_hbiReady _ _) | decide)

theorem State.setSpiOut_ag (s : State) (x : List Word) : Agree 2251799813685248 s (State.setSpiOut s x) := by
  unfold State.setSpiOut
  repeat' (with_reducible first | assumption | apply Agree.refl | intro _ | apply Agree.then (k := Agree.up_spiOut _ _) | decide)

theorem State.setLight_ag (s : State) (x : BitVec 48) : Agree 268435456 s (State.setLight s x) := by
  unfold State.setLight
  repeat' (with_reducible first | assumption | apply Agree.refl | intro _ | apply Agree.then (k := Agree.up_light _ _) | decide)

theorem State.setHeldRegs_ag (s : State) (x : List Nat) : Agree 536870912 s (State.setHeldRegs s x) := by
  unfold State.setHeldRegs
  repeat' (with_reducible first | assumption | apply Agree.refl | intro _ | apply Agree.then (k := Agree.up_heldRegs _ _) | decide)

theorem State.setTicks_ag (s : State) (x : List TickSnap) : Agree 2199023255552 s (State.setTicks s x) := by
  unfold State.setTicks
  repeat' (with_reducible first | assumption | apply Agree.refl | intro _ | apply Agree.then (k := Agree.up_ticks _ _) | decide)

theorem State.setTripKey_ag (s : State) (x : Option Nat) : Agree 549755813888 s (State.setTripKey s x) := by
  unfold State.setTripKey
  repeat' (with_reducible first | assumption | apply Agree.refl | intro _ | apply Agree.then (k := Agree.up_tripKey _ _) | decide)

theorem State.setForce_ag (s : State) (x : SMap Word) : Agree 8589934592 s (State.setForce s x) := by
  unfold State.setForce
  repeat' (with_reducible first | assumption | apply Agree.refl | intro _ | apply Agree.then (k := Agree.up_inForce _ _) | decide)

theorem State.setClSrc_ag (s : State) (c : Nat) (w : Word) : Agree 4194304 s (State.setClSrc s c w) := by
  unfold State.setClSrc
  repeat' (with_reducible first | assumption | apply Agree.refl | intro _ | apply Agree.then (k := Agree.up_clSrc _ _) | decide)

theorem State.setExpect_ag (s : State) (c : Nat) (w : Word) : Agree 8388608 s (State.setExpect s c w) := by
  unfold State.setExpect
  repeat' (with_reducible first | assumption | apply Agree.refl | intro _ | apply Agree.then (k := Agree.up_expect _ _) | decide)

theorem State.dropRegs_ag (s : State) (p : Nat → Bool) : Agree 1 s (s.dropRegs p) := Agree.up_regs s _ (SMap.wf_drop _ _ _)

theorem State.setInd_ag (s : State) (r : Nat) (x : Ind) : Agree 128 s (State.setInd s r x) := by
  unfold State.setInd
  repeat' (with_reducible first | assumption | apply Agree.refl | intro _ | apply Agree.then (k := Agree.up_inds _ _) | decide)

theorem State.setLink_ag (s : State) (n : Nat) (x : Link) : Agree 1024 s (State.setLink s n x) := by
  unfold State.setLink
  repeat' (with_reducible first | assumption | apply Agree.refl | intro _ | apply Agree.then (k := Agree.up_links _ _) | decide)

theorem State.setLane_ag (s : State) (ch : Nat) (x : Lane) : Agree 2097152 s (State.setLane s ch x) := by
  unfold State.setLane
  repeat' (with_reducible first | assumption | apply Agree.refl | intro _ | apply Agree.then (k := Agree.up_lanes _ _) | decide)

theorem State.setTracker_ag (s : State) (c : Nat) (x : Tracker) : Agree 33554432 s (State.setTracker s c x) := by
  unfold State.setTracker
  repeat' (with_reducible first | assumption | apply Agree.refl | intro _ | apply Agree.then (k := Agree.up_trk _ _) | decide)

theorem State.setFpd_ag (s : State) (ch : Nat) (x : FpdU) : Agree 67108864 s (State.setFpd s ch x) := by
  unfold State.setFpd
  repeat' (with_reducible first | assumption | apply Agree.refl | intro _ | apply Agree.then (k := Agree.up_fpds _ _) | decide)

theorem State.setDet_ag (s : State) (c : Nat) (x : DetU) : Agree 134217728 s (State.setDet s c x) := by
  unfold State.setDet
  repeat' (with_reducible first | assumption | apply Agree.refl | intro _ | apply Agree.then (k := Agree.up_dets _ _) | decide)

theorem State.detMod_ag (s : State) (c : Nat) (f : DetU → DetU) : Agree 134217728 s (State.detMod s c f) := by
  unfold State.detMod
  repeat' (with_reducible first | assumption | apply Agree.refl | intro _ | apply Agree.then (k := State.setDet_ag _ _ _) | decide)

theorem State.trkMod_ag (s : State) (c : Nat) (f : Tracker → Tracker) : Agree 33554432 s (State.trkMod s c f) := by
  unfold State.trkMod
  repeat' (with_reducible first | assumption | apply Agree.refl | intro _ | apply Agree.then (k := State.setTracker_ag _ _ _) | decide)

theorem State.setPin_ag (s : State) (n : Nat) (x : TioPin) : Agree 131072 s (State.setPin s n x) := by
  unfold State.setPin
  repeat' (with_reducible first | assumption | apply Agree.refl | intro _ | apply Agree.then (k := Agree.up_pins _ _) | decide)

theorem State.setAlm_ag (s : State) (n : Nat) (x : Alarm) : Agree 65536 s (State.setAlm s n x) := by
  unfold State.setAlm
  repeat' (with_reducible first | assumption | apply Agree.refl | intro _ | apply Agree.then (k := Agree.up_alms _ _) | decide)

theorem State.setBucket_ag (s : State) (b : Nat) (x : Bucket) : Agree 16384 s (State.setBucket s b x) := by
  unfold State.setBucket
  repeat' (with_reducible first | assumption | apply Agree.refl | intro _ | apply Agree.then (k := Agree.up_buckets _ _) | decide)

theorem State.setPhase_ag (s : State) (c : Nat) (p : Phase) : Agree 1048576 s (State.setPhase s c p) := by
  unfold State.setPhase
  repeat' (with_reducible first | assumption | apply Agree.refl | intro _ | apply Agree.then (k := Agree.up_phase _ _) | decide)

theorem State.setClaim_ag (s : State) (res : Nat) (x : Claim) : Agree 4 s (State.setClaim s res x) := by
  unfold State.setClaim
  repeat' (with_reducible first | assumption | apply Agree.refl | intro _ | apply Agree.then (k := Agree.up_claims _ _) | decide)

theorem State.setCan_ag (s : State) (c : Nat) (x : CanU) : Agree 17179869184 s (State.setCan s c x) := by
  unfold State.setCan
  repeat' (with_reducible first | assumption | apply Agree.refl | intro _ | apply Agree.then (k := Agree.up_cans _ _) | decide)

theorem State.setBlz_ag (s : State) (i : Nat) (x : BlzU) : Agree 35184372088832 s (State.setBlz s i x) := by
  unfold State.setBlz
  repeat' (with_reducible first | assumption | apply Agree.refl | intro _ | apply Agree.then (k := Agree.up_blz _ _) | decide)

theorem State.ethMod_ag (s : State) (f : EthU → EthU) : Agree 34359738368 s (State.ethMod s f) := by
  unfold State.ethMod
  repeat' (with_reducible first | assumption | apply Agree.refl | intro _ | apply Agree.then (k := Agree.up_eth _ _) | decide)

theorem State.setSvSlot_ag (s : State) (n : Nat) (x : SvSlot) : Agree 34359738368 s (State.setSvSlot s n x) := by
  unfold State.setSvSlot
  repeat' (with_reducible first | assumption | apply Agree.refl | intro _ | apply Agree.then (k := State.ethMod_ag _ _) | decide)

theorem State.setGse_ag (s : State) (n : Nat) (x : GooseRx) : Agree 34359738368 s (State.setGse s n x) := by
  unfold State.setGse
  repeat' (with_reducible first | assumption | apply Agree.refl | intro _ | apply Agree.then (k := State.ethMod_ag _ _) | decide)

theorem State.setGpub_ag (s : State) (g : Nat) (x : GoosePub) : Agree 34359738368 s (State.setGpub s g x) := by
  unfold State.setGpub
  repeat' (with_reducible first | assumption | apply Agree.refl | intro _ | apply Agree.then (k := State.ethMod_ag _ _) | decide)

theorem State.answer_ag (s : State) (r : Req) (v : Word) : Agree 16 s (State.answer s r v) := by
  unfold State.answer
  repeat' (with_reducible first | assumption | apply Agree.refl | intro _ | apply Agree.then (k := Agree.up_rsp _ _) | decide)

theorem State.latch_ag (s : State) (r : Req) (a : Nat) (v : Word) : Agree 32 s (State.latch s r a v) := by
  unfold State.latch
  repeat' (with_reducible first | assumption | apply Agree.refl | intro _ | apply Agree.then (k := Agree.up_snaps _ _) | decide)

theorem State.hold_ag (s : State) (r : Req) (a : Nat) (v : Word) : Agree 64 s (State.hold s r a v) := by
  unfold State.hold
  repeat' (with_reducible first | assumption | apply Agree.refl | intro _ | apply Agree.then (k := Agree.up_holds _ _) | decide)

theorem State.setSupPend_ag (s : State) (i : Nat) (v : BitVec 64) : Agree 512 s (State.setSupPend s i v) := by
  unfold State.setSupPend
  repeat' (with_reducible first | assumption | apply Agree.refl | intro _ | apply Agree.then (k := Agree.up_supPend _ _) | decide)

theorem State.raiseHost_ag (s : State) (n : Nat) : Agree 1 s (State.raiseHost s n) := by
  unfold State.raiseHost
  repeat' (with_reducible first | assumption | apply Agree.refl | intro _ | apply Agree.ite | apply Agree.then (k := State.putBit_ag _ _ _ _) | decide | split)

theorem State.raiseSup_ag (s : State) (n : Nat) : Agree 512 s (State.raiseSup s n) := by
  unfold State.raiseSup
  repeat' (with_reducible first | assumption | apply Agree.refl | intro _ | (extract_lets +onlyGivenNames x; first | (refine (fun (_ : Agree 512 s x) => ?_ : Agree 512 s x → _) ?_; clear_value x) | (refine (fun (_ : Agree 512 s x.1) => ?_ : Agree 512 s x.1 → _) ?_; clear_value x) | clear_value x) | subst x | apply Agree.then (k := State.setSupPend_ag _ _ _) | decide)

theorem State.irq_ag (s : State) (n : Nat) : Agree 513 s (State.irq s n) := by
  unfold State.irq
  repeat' (with_reducible first | assumption | apply Agree.refl | intro _ | apply Agree.then (k := State.raiseHost_ag _ _) | apply Agree.then (k := State.raiseSup_ag _ _) | decide)

theorem State.setUpset_ag (s : State) (c key kind : Nat) : Agree 2147483648 s (State.setUpset s c key kind) := by
  unfold State.setUpset
  repeat' (with_reducible first | assumption | apply Agree.refl | intro _ | (extract_lets +onlyGivenNames x; first | (refine (fun (_ : Agree 2147483648 s x) => ?_ : Agree 2147483648 s x → _) ?_; clear_value x) | (refine (fun (_ : Agree 2147483648 s x.1) => ?_ : Agree 2147483648 s x.1 → _) ?_; clear_value x) | clear_value x) | subst x | apply Agree.then (k := Agree.up_elems _ _) | decide)

theorem State.dropUpsets_ag (s : State) (c : Nat) (p : Nat → Bool) : Agree 2147483648 s (State.dropUpsets s c p) := by
  unfold State.dropUpsets
  repeat' (with_reducible first | assumption | apply Agree.refl | intro _ | (extract_lets +onlyGivenNames x; first | (refine (fun (_ : Agree 2147483648 s x) => ?_ : Agree 2147483648 s x → _) ?_; clear_value x) | (refine (fun (_ : Agree 2147483648 s x.1) => ?_ : Agree 2147483648 s x.1 → _) ?_; clear_value x) | clear_value x) | subst x | apply Agree.then (k := Agree.up_elems _ _) | decide)

theorem State.wrMem_ag (s : State) (c key : Nat) (v : Word) : Agree 2147483649 s (State.wrMem s c key v) := by
  unfold State.wrMem
  repeat' (with_reducible first | assumption | apply Agree.refl | intro _ | apply Agree.then (k := State.wr_ag _ _ _) | apply Agree.then (k := State.setUpset_ag _ _ _ _) | decide)

theorem State.winSeen_ag (s : State) (c : Nat) (keys : List Nat) : Agree 1 s (State.winSeen s c keys) := by
  unfold State.winSeen
  repeat' (with_reducible first | assumption | apply Agree.refl | intro _ | apply Agree.ite | apply Agree.then (k := State.putBit_ag _ _ _ _) | decide | split)

theorem State.upsetNow_ag (s : State) : Agree 2147483648 s (State.upsetNow s) := by
  unfold State.upsetNow
  repeat' (with_reducible first | assumption | apply Agree.refl | intro _ | apply Agree.ite | apply Agree.then (k := State.setUpset_ag _ _ _ _) | decide | split)

theorem State.pass_ag (s : State) (n : Nat) : Agree 32769 s (State.pass s n) := by
  unfold State.pass
  repeat' (with_reducible first | assumption | apply Agree.refl | intro _ | (extract_lets +onlyGivenNames x; first | (refine (fun (_ : Agree 32769 s x) => ?_ : Agree 32769 s x → _) ?_; clear_value x) | (refine (fun (_ : Agree 32769 s x.1) => ?_ : Agree 32769 s x.1 → _) ?_; clear_value x) | clear_value x) | subst x | apply Agree.ite | apply Agree.then (k := State.wr_ag _ _ _) | apply Agree.then (k := State.put_ag _ _ _ _ _) | apply Agree.then (k := State.count_ag _ _ _ _ _) | apply Agree.then (k := State.tbMod_ag _ _) | decide | split)

theorem State.reachCnt_ag (s : State) (c : Nat) : Agree 32769 s (State.reachCnt s c) := by
  unfold State.reachCnt
  repeat' (with_reducible first | assumption | apply Agree.refl | intro _ | apply Agree.then (k := State.pass_ag _ _) | decide)

theorem State.reachTime_ag (s : State) (t : Nat) : Agree 32769 s (State.reachTime s t) := by
  unfold State.reachTime
  repeat' (with_reducible first | assumption | apply Agree.refl | intro _ | (extract_lets +onlyGivenNames x; first | (refine (fun (_ : Agree 32769 s x) => ?_ : Agree 32769 s x → _) ?_; clear_value x) | (refine (fun (_ : Agree 32769 s x.1) => ?_ : Agree 32769 s x.1 → _) ?_; clear_value x) | clear_value x) | subst x | apply Agree.ite | apply Agree.then (k := State.pass_ag _ _) | decide | split)

theorem State.enqueue_ag (s : State) (r : TRec) : Agree 8193 s (State.enqueue s r) := by
  unfold State.enqueue
  repeat' (with_reducible first | assumption | apply Agree.refl | intro _ | (extract_lets +onlyGivenNames x; first | (refine (fun (_ : Agree 8193 s x) => ?_ : Agree 8193 s x → _) ?_; clear_value x) | (refine (fun (_ : Agree 8193 s x.1) => ?_ : Agree 8193 s x.1 → _) ?_; clear_value x) | clear_value x) | subst x | apply Agree.ite | apply Agree.then (k := State.putBit_ag _ _ _ _) | apply Agree.then (k := State.count_ag _ _ _ _ _) | apply Agree.then (k := State.talMod_ag _ _) | decide | split)

theorem State.suppress_ag (s : State) (b code : Nat) : Agree 16385 s (State.suppress s b code) := by
  unfold State.suppress
  repeat' (with_reducible first | assumption | apply Agree.refl | intro _ | (extract_lets +onlyGivenNames x; first | (refine (fun (_ : Agree 16385 s x) => ?_ : Agree 16385 s x → _) ?_; clear_value x) | (refine (fun (_ : Agree 16385 s x.1) => ?_ : Agree 16385 s x.1 → _) ?_; clear_value x) | clear_value x) | subst x | apply Agree.ite | apply Agree.then (k := State.count_ag _ _ _ _ _) | apply Agree.then (k := State.setBucket_ag _ _ _) | decide | split)

theorem State.takeToken_ag (s : State) (b : Nat) : Agree 16385 s (State.takeToken s b) := by
  unfold State.takeToken
  repeat' (with_reducible first | assumption | apply Agree.refl | intro _ | (extract_lets +onlyGivenNames x; first | (refine (fun (_ : Agree 16385 s x) => ?_ : Agree 16385 s x → _) ?_; clear_value x) | (refine (fun (_ : Agree 16385 s x.1) => ?_ : Agree 16385 s x.1 → _) ?_; clear_value x) | clear_value x) | subst x | apply Agree.ite | apply Agree.then (k := State.put_ag _ _ _ _ _) | apply Agree.then (k := State.setBucket_ag _ _ _) | decide | split)

theorem State.raiseRec_ag (s : State) (r : TRec) : Agree 24577 s (State.raiseRec s r) := by
  unfold State.raiseRec
  repeat' (with_reducible first | assumption | apply Agree.refl | intro _ | apply Agree.ite | apply Agree.then (k := State.enqueue_ag _ _) | apply Agree.then (k := State.suppress_ag _ _ _) | apply Agree.then (k := State.takeToken_ag _ _) | decide | split)

theorem State.tallyAt_ag (s : State) (code sparam p0 p1 : Nat) (t : Stamp) : Agree 24577 s (State.tallyAt s code sparam p0 p1 t) := by
  unfold State.tallyAt
  repeat' (with_reducible first | assumption | apply Agree.refl | intro _ | apply Agree.then (k := State.raiseRec_ag _ _) | decide)

theorem State.log_ag (s : State) (code sparam p0 p1 : Nat) : Agree 24577 s (State.log s code sparam p0 p1) := by
  unfold State.log
  repeat' (with_reducible first | assumption | apply Agree.refl | intro _ | apply Agree.then (k := State.tallyAt_ag _ _ _ _ _ _) | decide)

theorem State.mwr_ag (s : State) (a : Nat) (b : Bytes) : Agree 2 s (s.mwr a b) := by
  induction b generalizing s a with
  | nil => exact Agree.refl _ _
  | cons b bs ih =>
    refine Agree.then ?_ (ih _ _) (by decide)
    split
    · exact Agree.up_mram s _ (SMap.wf_set _ _ _ _)
    · exact Agree.refl _ _

theorem State.mwrW_ag (s : State) (a : Nat) (v : Word) : Agree 2 s (State.mwrW s a v) := by
  unfold State.mwrW
  repeat' (with_reducible first | assumption | apply Agree.refl | intro _ | apply Agree.then (k := State.mwr_ag _ _ _) | decide)

theorem State.mramDenied_ag (s : State) (u : MUser) (a : Nat) : Agree 25089 s (State.mramDenied s u a) := by
  unfold State.mramDenied
  repeat' (with_reducible first | assumption | apply Agree.refl | intro _ | apply Agree.then (k := State.irq_ag _ _) | apply Agree.then (k := State.log_ag _ _ _ _ _) | decide)

theorem State.indFail_ag (s : State) (r : Req) (cause : Nat) : Agree 641 s (State.indFail s r cause) := by
  unfold State.indFail
  repeat' (with_reducible first | assumption | apply Agree.refl | intro _ | apply Agree.then (k := State.setInd_ag _ _ _) | apply Agree.then (k := State.irq_ag _ _) | decide)

theorem State.drew_ag (s : State) : Agree 562949953421312 s (State.drew s) := by
  unfold State.drew
  repeat' (with_reducible first | assumption | apply Agree.refl | intro _ | apply Agree.then (k := Agree.up_freeCtr _ _) | decide)

theorem State.drewN_ag (s : State) (n : Nat) : Agree 562949953421312 s (State.drewN s n) := by
  unfold State.drewN
  repeat' (with_reducible first | assumption | apply Agree.refl | intro _ | apply Agree.then (k := Agree.up_freeCtr _ _) | decide)

theorem State.headTaken_ag (s : State) (a : Nat) : Agree 1 s (State.headTaken s a) := by
  unfold State.headTaken
  repeat' (with_reducible first | assumption | apply Agree.refl | intro _ | apply Agree.then (k := State.wr_ag _ _ _) | decide)

theorem State.emptyRead_ag (s : State) (r : Req) (a : Nat) : Agree 562949953421328 s (State.emptyRead s r a) := by
  unfold State.emptyRead
  repeat' (with_reducible first | assumption | apply Agree.refl | intro _ | apply Agree.ite | apply Agree.then (k := State.answer_ag _ _ _) | apply Agree.then (k := State.drew_ag _) | decide | split)

theorem State.setEff_ag (s : State) (a : Nat) (v : Word) : Agree 8589934592 s (State.setEff s a v) := by
  unfold State.setEff
  repeat' (with_reducible first | assumption | apply Agree.refl | intro _ | apply Agree.then (k := Agree.up_inForce _ _) | decide)

end Sys2Proof.Machine
end

