-- ==== Sys2Proof/Laws/Frame/Lanes.lean ====
section
/-!
SUPPORT. Frames of the operations of Machine/Lanes.lean: the fields each can change, as a mask.
-/
set_option linter.unusedTactic false
set_option linter.unreachableTactic false
namespace Sys2Proof.Machine
open Sys2Proof

theorem State.laneMod_ag (s : State) (ch : Nat) (f : Lane → Lane) : Agree 2097152 s (State.laneMod s ch f) := by
  unfold State.laneMod
  repeat' (with_reducible first | assumption | apply Agree.refl | intro _ | apply Agree.then (k := State.setLane_ag _ _ _) | decide)

theorem State.irqRegion_ag (s : State) (ch : Nat) : Agree 513 s (State.irqRegion s ch) := by
  unfold State.irqRegion
  repeat' (with_reducible first | assumption | apply Agree.refl | intro _ | apply Agree.then (k := State.irq_ag _ _) | decide)

theorem State.stitch_ag (s : State) (ch : Nat) : Agree 2097153 s (State.stitch s ch) := by
  unfold State.stitch
  repeat' (with_reducible first | assumption | apply Agree.refl | intro _ | (extract_lets +onlyGivenNames x; first | (refine (fun (_ : Agree 2097153 s x) => ?_ : Agree 2097153 s x → _) ?_; clear_value x) | (refine (fun (_ : Agree 2097153 s x.1) => ?_ : Agree 2097153 s x.1 → _) ?_; clear_value x) | clear_value x) | subst x | apply Agree.ite | apply Agree.whenI | apply Agree.iteP | apply Agree.optOr | apply Agree.optMap | apply Agree.then (k := State.putBit_ag _ _ _ _) | apply Agree.then (k := State.count_ag _ _ _ _ _) | apply Agree.then (k := State.setLane_ag _ _ _) | decide | split)

theorem execStitchSample_ag (ch : Fin 128) (s : State) : ∀ t1, execStitchSample ch s = .next t1 → Agree 2097153 s t1 := by
  intro t1 h
  obtain rfl := Host.Outcome.next.inj h
  repeat' (with_reducible first | assumption | apply Agree.refl | intro _ | apply Agree.then (k := State.stitch_ag _ _) | decide)

theorem execCoarseOverload_ag (ch : Fin 128) (ones : Bool) (run stretch : Nat) (s : State) : ∀ t1, execCoarseOverload ch ones run stretch s = .next t1 → Agree 2097152 s t1 := by
  intro t1 h
  obtain rfl := Host.Outcome.next.inj h
  repeat' (with_reducible first | assumption | apply Agree.refl | intro _ | apply Agree.then (k := State.laneMod_ag _ _ _) | decide)

theorem State.recComplete_ag (s : State) (ch : Nat) : Agree 2097152 s (State.recComplete s ch) := by
  unfold State.recComplete
  repeat' (with_reducible first | assumption | apply Agree.refl | intro _ | (extract_lets +onlyGivenNames x; first | (refine (fun (_ : Agree 2097152 s x) => ?_ : Agree 2097152 s x → _) ?_; clear_value x) | (refine (fun (_ : Agree 2097152 s x.1) => ?_ : Agree 2097152 s x.1 → _) ?_; clear_value x) | clear_value x) | subst x | apply Agree.ite | apply Agree.iteP | apply Agree.then (k := State.setLane_ag _ _ _) | decide | split)

theorem execRecSampleComplete_ag (ch : Fin 128) (s : State) : ∀ t1, execRecSampleComplete ch s = .next t1 → Agree 2097152 s t1 := by
  intro t1 h
  obtain rfl := Host.Outcome.next.inj h
  repeat' (with_reducible first | assumption | apply Agree.refl | intro _ | apply Agree.then (k := State.recComplete_ag _ _) | decide)

theorem State.laneMove_ag (s : State) (ch : Nat) (f : Lane → Lane) : Agree 8796095119360 s (State.laneMove s ch f) := by
  have h : Agree 8796095119360 s (s.laneMod ch f) := Agree.mono (State.laneMod_ag _ _ _) (by decide)
  unfold State.laneMove
  extract_lets d t w
  change Agree 8796095119360 s t at h
  clear_value t
  split
  · exact Agree.ite (fun _ => h) (fun _ => h.then (Agree.up_wbs _ _) (by decide))
  · exact h

theorem State.alignLane_ag (s : State) (ch : Nat) : Agree 8796095119360 s (State.alignLane s ch) := by
  unfold State.alignLane
  repeat' (with_reducible first | assumption | apply Agree.refl | intro _ | apply Agree.then (k := State.laneMove_ag _ _ _) | decide)

theorem State.loseLane_ag (s : State) (ch : Nat) : Agree 8796095119360 s (State.loseLane s ch) := by
  unfold State.loseLane
  repeat' (with_reducible first | assumption | apply Agree.refl | intro _ | apply Agree.then (k := State.laneMove_ag _ _ _) | decide)

theorem State.alignAll_ag (s : State) : Agree 8796095119360 s (State.alignAll s) := by
  unfold State.alignAll
  repeat' (with_reducible first | assumption | apply Agree.refl | intro _ | apply Agree.foldl | apply Agree.then (k := State.alignLane_ag _ _) | decide)

theorem State.settleEvent_ag (s : State) (ch cause back : Nat) : Agree 2122241 s (State.settleEvent s ch cause back) := by
  unfold State.settleEvent
  repeat' (with_reducible first | assumption | apply Agree.refl | intro _ | (extract_lets +onlyGivenNames x; first | (refine (fun (_ : Agree 2122241 s x) => ?_ : Agree 2122241 s x → _) ?_; clear_value x) | (refine (fun (_ : Agree 2122241 s x.1) => ?_ : Agree 2122241 s x.1 → _) ?_; clear_value x) | clear_value x) | subst x | apply Agree.ite | apply Agree.then (k := State.put_ag _ _ _ _ _) | apply Agree.then (k := State.putBit_ag _ _ _ _) | apply Agree.then (k := State.count_ag _ _ _ _ _) | apply Agree.then (k := State.log_ag _ _ _ _ _) | apply Agree.then (k := State.laneMod_ag _ _ _) | apply Agree.then (k := State.irqRegion_ag _ _) | decide | split)

theorem State.requestChain_ag (s : State) (ch cause : Nat) : Agree 2097152 s (State.requestChain s ch cause) := by
  unfold State.requestChain
  repeat' (with_reducible first | assumption | apply Agree.refl | intro _ | apply Agree.then (k := State.laneMod_ag _ _ _) | decide)

theorem State.chainRestart_ag (s : State) (ch : Nat) : Agree 2122241 s (State.chainRestart s ch) := by
  unfold State.chainRestart
  repeat' (with_reducible first | assumption | apply Agree.refl | intro _ | apply Agree.ite | apply Agree.then (k := State.laneMod_ag _ _ _) | apply Agree.then (k := State.settleEvent_ag _ _ _ _) | decide | split)

theorem execChainRestart_ag (ch : Fin 128) (s : State) : ∀ t1, execChainRestart ch s = .next t1 → Agree 2122241 s t1 := by
  intro t1 h
  obtain rfl := Host.Outcome.next.inj h
  repeat' (with_reducible first | assumption | apply Agree.refl | intro _ | apply Agree.then (k := State.chainRestart_ag _ _) | decide)

theorem State.settleEnd_ag (s : State) (ch : Nat) : Agree 1 s (State.settleEnd s ch) := by
  unfold State.settleEnd
  repeat' (with_reducible first | assumption | apply Agree.refl | intro _ | apply Agree.ite | apply Agree.then (k := State.putBit_ag _ _ _ _) | decide | split)

theorem execLaneSettleEnd_ag (ch : Fin 128) (s : State) : ∀ t1, execLaneSettleEnd ch s = .next t1 → Agree 1 s t1 := by
  intro t1 h
  obtain rfl := Host.Outcome.next.inj h
  repeat' (with_reducible first | assumption | apply Agree.refl | intro _ | apply Agree.then (k := State.settleEnd_ag _ _) | decide)

theorem State.calWindowEnd_ag (s : State) (ch : Nat) : Agree 2097153 s (State.calWindowEnd s ch) := by
  unfold State.calWindowEnd
  repeat' (with_reducible first | assumption | apply Agree.refl | intro _ | (extract_lets +onlyGivenNames x; first | (refine (fun (_ : Agree 2097153 s x) => ?_ : Agree 2097153 s x → _) ?_; clear_value x) | (refine (fun (_ : Agree 2097153 s x.1) => ?_ : Agree 2097153 s x.1 → _) ?_; clear_value x) | clear_value x) | subst x | apply Agree.ite | apply Agree.then (k := State.put_ag _ _ _ _ _) | apply Agree.then (k := State.laneMod_ag _ _ _) | decide | split)

theorem execCalWindowEnd_ag (ch : Fin 128) (s : State) : ∀ t1, execCalWindowEnd ch s = .next t1 → Agree 2097153 s t1 := by
  intro t1 h
  obtain rfl := Host.Outcome.next.inj h
  repeat' (with_reducible first | assumption | apply Agree.refl | intro _ | apply Agree.then (k := State.calWindowEnd_ag _ _) | decide)

theorem State.loadTrim_ag (s : State) (ch : Nat) : Agree 25089 s (State.loadTrim s ch) := by
  unfold State.loadTrim
  repeat' (with_reducible first | assumption | apply Agree.refl | intro _ | (extract_lets +onlyGivenNames x; first | (refine (fun (_ : Agree 25089 s x) => ?_ : Agree 25089 s x → _) ?_; clear_value x) | (refine (fun (_ : Agree 25089 s x.1) => ?_ : Agree 25089 s x.1 → _) ?_; clear_value x) | clear_value x) | subst x | apply Agree.ite | apply Agree.then (k := State.putBit_ag _ _ _ _) | apply Agree.then (k := State.log_ag _ _ _ _ _) | apply Agree.then (k := State.irqRegion_ag _ _) | decide | split)

theorem State.loadTrims_ag (s : State) (r : Nat) : Agree 25089 s (State.loadTrims s r) := by
  unfold State.loadTrims
  repeat' (with_reducible first | assumption | apply Agree.refl | intro _ | apply Agree.foldl | apply Agree.then (k := State.loadTrim_ag _ _) | decide)

theorem State.setTrim_ag (s : State) (ch k : Nat) (w : Word) : Agree 2097153 s (State.setTrim s ch k w) := by
  unfold State.setTrim
  repeat' (with_reducible first | assumption | apply Agree.refl | intro _ | apply Agree.ite | apply Agree.then (k := State.wr_ag _ _ _) | apply Agree.then (k := State.laneMod_ag _ _ _) | decide | split)

theorem State.calSet_ag (s : State) (ch k : Nat) (v bound : Int) (code : Nat) : Agree 2122241 s (State.calSet s ch k v bound code) := by
  unfold State.calSet
  repeat' (with_reducible first | assumption | apply Agree.refl | intro _ | (extract_lets +onlyGivenNames x; first | (refine (fun (_ : Agree 2122241 s x) => ?_ : Agree 2122241 s x → _) ?_; clear_value x) | (refine (fun (_ : Agree 2122241 s x.1) => ?_ : Agree 2122241 s x.1 → _) ?_; clear_value x) | clear_value x) | subst x | apply Agree.ite | apply Agree.iteP | apply Agree.then (k := State.putBit_ag _ _ _ _) | apply Agree.then (k := State.log_ag _ _ _ _ _) | apply Agree.then (k := State.irqRegion_ag _ _) | apply Agree.then (k := State.setTrim_ag _ _ _ _) | decide | split)

theorem State.calUpdate_ag (s : State) (ch : Nat) : Agree 2122241 s (State.calUpdate s ch) := by
  unfold State.calUpdate
  repeat' (with_reducible first | assumption | apply Agree.refl | intro _ | (extract_lets +onlyGivenNames x; first | (refine (fun (_ : Agree 2122241 s x) => ?_ : Agree 2122241 s x → _) ?_; clear_value x) | (refine (fun (_ : Agree 2122241 s x.1) => ?_ : Agree 2122241 s x.1 → _) ?_; clear_value x) | clear_value x) | subst x | apply Agree.ite | apply Agree.then (k := State.count_ag _ _ _ _ _) | apply Agree.then (k := State.laneMod_ag _ _ _) | apply Agree.then (k := State.calSet_ag _ _ _ _ _ _) | decide | split)

theorem execCalUpdate_ag (ch : Fin 128) (s : State) : ∀ t1, execCalUpdate ch s = .next t1 → Agree 2122241 s t1 := by
  intro t1 h
  obtain rfl := Host.Outcome.next.inj h
  repeat' (with_reducible first | assumption | apply Agree.refl | intro _ | apply Agree.then (k := State.calUpdate_ag _ _) | decide)

theorem State.calCfgWrite_ag (s : State) (ch : Nat) (v : Word) : Agree 2097153 s (State.calCfgWrite s ch v) := by
  unfold State.calCfgWrite
  repeat' (with_reducible first | assumption | apply Agree.refl | intro _ | (extract_lets +onlyGivenNames x; first | (refine (fun (_ : Agree 2097153 s x) => ?_ : Agree 2097153 s x → _) ?_; clear_value x) | (refine (fun (_ : Agree 2097153 s x.1) => ?_ : Agree 2097153 s x.1 → _) ?_; clear_value x) | clear_value x) | subst x | apply Agree.ite | apply Agree.then (k := State.wr_ag _ _ _) | apply Agree.then (k := State.putBit_ag _ _ _ _) | apply Agree.then (k := State.laneMod_ag _ _ _) | decide | split)

theorem execCalCfgWrite_ag (ch : Fin 128) (v : Word) (s : State) : ∀ t1, execCalCfgWrite ch v s = .next t1 → Agree 2097153 s t1 := by
  intro t1 h
  obtain rfl := Host.Outcome.next.inj h
  repeat' (with_reducible first | assumption | apply Agree.refl | intro _ | apply Agree.then (k := State.calCfgWrite_ag _ _ _) | decide)

theorem State.trimWrite_ag (s : State) (ch k : Nat) (v : Word) : Agree 2097153 s (State.trimWrite s ch k v) := by
  unfold State.trimWrite
  repeat' (with_reducible first | assumption | apply Agree.refl | intro _ | (extract_lets +onlyGivenNames x; first | (refine (fun (_ : Agree 2097153 s x) => ?_ : Agree 2097153 s x → _) ?_; clear_value x) | (refine (fun (_ : Agree 2097153 s x.1) => ?_ : Agree 2097153 s x.1 → _) ?_; clear_value x) | clear_value x) | subst x | apply Agree.then (k := State.wr_ag _ _ _) | apply Agree.then (k := State.laneMod_ag _ _ _) | decide)

theorem execTrimWrite_ag (ch : Fin 128) (k : Fin 5) (v : Word) (s : State) : ∀ t1, execTrimWrite ch k v s = .next t1 → Agree 2097153 s t1 := by
  intro t1 h
  obtain rfl := Host.Outcome.next.inj h
  repeat' (with_reducible first | assumption | apply Agree.refl | intro _ | apply Agree.then (k := State.trimWrite_ag _ _ _ _) | decide)

theorem State.trimApply_ag (s : State) (ch : Nat) : Agree 2122241 s (State.trimApply s ch) := by
  unfold State.trimApply
  repeat' (with_reducible first | assumption | apply Agree.refl | intro _ | apply Agree.ite | apply Agree.then (k := State.laneMod_ag _ _ _) | apply Agree.then (k := State.calUpdate_ag _ _) | decide | split)

theorem execTrimApply_ag (ch : Fin 128) (s : State) : ∀ t1, execTrimApply ch s = .next t1 → Agree 2122241 s t1 := by
  intro t1 h
  obtain rfl := Host.Outcome.next.inj h
  repeat' (with_reducible first | assumption | apply Agree.refl | intro _ | apply Agree.then (k := State.trimApply_ag _ _) | decide)

theorem State.stcCtrlWrite_ag (s : State) (ch : Nat) (v : Word) : Agree 2097153 s (State.stcCtrlWrite s ch v) := by
  unfold State.stcCtrlWrite
  repeat' (with_reducible first | assumption | apply Agree.refl | intro _ | (extract_lets +onlyGivenNames x; first | (refine (fun (_ : Agree 2097153 s x) => ?_ : Agree 2097153 s x → _) ?_; clear_value x) | (refine (fun (_ : Agree 2097153 s x.1) => ?_ : Agree 2097153 s x.1 → _) ?_; clear_value x) | clear_value x) | subst x | apply Agree.then (k := State.wr_ag _ _ _) | apply Agree.then (k := State.laneMod_ag _ _ _) | decide)

theorem execStcCtrlWrite_ag (ch : Fin 128) (v : Word) (s : State) : ∀ t1, execStcCtrlWrite ch v s = .next t1 → Agree 2097153 s t1 := by
  intro t1 h
  obtain rfl := Host.Outcome.next.inj h
  repeat' (with_reducible first | assumption | apply Agree.refl | intro _ | apply Agree.then (k := State.stcCtrlWrite_ag _ _ _) | decide)

theorem State.modeApply_ag (s : State) (ch : Nat) : Agree 2097153 s (State.modeApply s ch) := by
  unfold State.modeApply
  repeat' (with_reducible first | assumption | apply Agree.refl | intro _ | apply Agree.ite | apply Agree.then (k := State.putBit_ag _ _ _ _) | apply Agree.then (k := State.laneMod_ag _ _ _) | decide | split)

theorem execStcModeApply_ag (ch : Fin 128) (s : State) : ∀ t1, execStcModeApply ch s = .next t1 → Agree 2097153 s t1 := by
  intro t1 h
  obtain rfl := Host.Outcome.next.inj h
  repeat' (with_reducible first | assumption | apply Agree.refl | intro _ | apply Agree.then (k := State.modeApply_ag _ _) | decide)

theorem State.stcThrDnWrite_ag (s : State) (ch : Nat) (v : Word) : Agree 1 s (State.stcThrDnWrite s ch v) := by
  unfold State.stcThrDnWrite
  repeat' (with_reducible first | assumption | apply Agree.refl | intro _ | (extract_lets +onlyGivenNames x; first | (refine (fun (_ : Agree 1 s x) => ?_ : Agree 1 s x → _) ?_; clear_value x) | (refine (fun (_ : Agree 1 s x.1) => ?_ : Agree 1 s x.1 → _) ?_; clear_value x) | clear_value x) | subst x | apply Agree.ite | apply Agree.then (k := State.wr_ag _ _ _) | decide | split)

theorem State.stcThrUpWrite_ag (s : State) (ch : Nat) (v : Word) : Agree 1 s (State.stcThrUpWrite s ch v) := by
  unfold State.stcThrUpWrite
  repeat' (with_reducible first | assumption | apply Agree.refl | intro _ | apply Agree.ite | apply Agree.then (k := State.wr_ag _ _ _) | decide | split)

theorem execStcThrDnWrite_ag (ch : Fin 128) (v : Word) (s : State) : ∀ t1, execStcThrDnWrite ch v s = .next t1 → Agree 1 s t1 := by
  intro t1 h
  obtain rfl := Host.Outcome.next.inj h
  repeat' (with_reducible first | assumption | apply Agree.refl | intro _ | apply Agree.then (k := State.stcThrDnWrite_ag _ _ _) | decide)

theorem State.fadeRequest_ag (s : State) (ch : Nat) (v : Word) : Agree 2122241 s (State.fadeRequest s ch v) := by
  unfold State.fadeRequest
  repeat' (with_reducible first | assumption | apply Agree.refl | intro _ | (extract_lets +onlyGivenNames x; first | (refine (fun (_ : Agree 2122241 s x) => ?_ : Agree 2122241 s x → _) ?_; clear_value x) | (refine (fun (_ : Agree 2122241 s x.1) => ?_ : Agree 2122241 s x.1 → _) ?_; clear_value x) | clear_value x) | subst x | apply Agree.ite | apply Agree.whenI | apply Agree.then (k := State.putBit_ag _ _ _ _) | apply Agree.then (k := State.count_ag _ _ _ _ _) | apply Agree.then (k := State.log_ag _ _ _ _ _) | apply Agree.then (k := State.laneMod_ag _ _ _) | apply Agree.then (k := State.irqRegion_ag _ _) | decide | split)

theorem execLaneFadeRequest_ag (ch : Fin 128) (v : Word) (s : State) : ∀ t1, execLaneFadeRequest ch v s = .next t1 → Agree 2122241 s t1 := by
  intro t1 h
  obtain rfl := Host.Outcome.next.inj h
  repeat' (with_reducible first | assumption | apply Agree.refl | intro _ | apply Agree.then (k := State.fadeRequest_ag _ _ _) | decide)

theorem State.fadeStart_ag (s : State) (ch : Nat) : Agree 2097152 s (State.fadeStart s ch) := by
  unfold State.fadeStart
  repeat' (with_reducible first | assumption | apply Agree.refl | intro _ | (extract_lets +onlyGivenNames x; first | (refine (fun (_ : Agree 2097152 s x) => ?_ : Agree 2097152 s x → _) ?_; clear_value x) | (refine (fun (hf : ∀ t, Agree 2097152 s t → Agree 2097152 s (x t)) => ?_ : (∀ t, Agree 2097152 s t → Agree 2097152 s (x t)) → _) (fun _ _ => ?_); clear_value x) | (refine (fun (hg : ∀ a t, Agree 2097152 s t → Agree 2097152 s (x a t)) => ?_ : (∀ a t, Agree 2097152 s t → Agree 2097152 s (x a t)) → _) (fun _ _ _ => ?_); clear_value x) | (refine (fun (hk : ∀ a, Agree 2097152 s (x a)) => ?_ : (∀ a, Agree 2097152 s (x a)) → _) (fun _ => ?_); clear_value x) | (refine (fun (hp : ∀ t a b, Agree 2097152 s t → Agree 2097152 s (x t a b)) => ?_ : (∀ t a b, Agree 2097152 s t → Agree 2097152 s (x t a b)) → _) (fun _ _ _ _ => ?_); clear_value x) | (refine (fun (_ : Agree 2097152 s x.1) => ?_ : Agree 2097152 s x.1 → _) ?_; clear_value x) | clear_value x) | subst x | apply hf | apply hg | apply hp | apply hk | apply Agree.ite | apply Agree.then (k := State.laneMod_ag _ _ _) | decide | split)

theorem execLaneFadeStart_ag (ch : Fin 128) (s : State) : ∀ t1, execLaneFadeStart ch s = .next t1 → Agree 2097152 s t1 := by
  intro t1 h
  obtain rfl := Host.Outcome.next.inj h
  repeat' (with_reducible first | assumption | apply Agree.refl | intro _ | apply Agree.then (k := State.fadeStart_ag _ _) | decide)

theorem State.fadeEnd_ag (s : State) (ch : Nat) : Agree 2097153 s (State.fadeEnd s ch) := by
  unfold State.fadeEnd
  repeat' (with_reducible first | assumption | apply Agree.refl | intro _ | (extract_lets +onlyGivenNames x; first | (refine (fun (_ : Agree 2097153 s x) => ?_ : Agree 2097153 s x → _) ?_; clear_value x) | (refine (fun (_ : Agree 2097153 s x.1) => ?_ : Agree 2097153 s x.1 → _) ?_; clear_value x) | clear_value x) | subst x | apply Agree.ite | apply Agree.then (k := State.putBit_ag _ _ _ _) | apply Agree.then (k := State.laneMod_ag _ _ _) | decide | split)

theorem execLaneFadeEnd_ag (ch : Fin 128) (s : State) : ∀ t1, execLaneFadeEnd ch s = .next t1 → Agree 2097153 s t1 := by
  intro t1 h
  obtain rfl := Host.Outcome.next.inj h
  repeat' (with_reducible first | assumption | apply Agree.refl | intro _ | apply Agree.then (k := State.fadeEnd_ag _ _) | decide)

theorem State.coefWrite_ag (s : State) (r : Req) (c off : Nat) (v : Word) : Agree 25217 s (State.coefWrite s r c off v) := by
  unfold State.coefWrite
  repeat' (with_reducible first | assumption | apply Agree.refl | intro _ | (extract_lets +onlyGivenNames x; first | (refine (fun (_ : Agree 25217 s x) => ?_ : Agree 25217 s x → _) ?_; clear_value x) | (refine (fun (_ : Agree 25217 s x.1) => ?_ : Agree 25217 s x.1 → _) ?_; clear_value x) | clear_value x) | subst x | apply Agree.ite | apply Agree.then (k := State.wr_ag _ _ _) | apply Agree.then (k := State.putBit_ag _ _ _ _) | apply Agree.then (k := State.log_ag _ _ _ _ _) | apply Agree.then (k := State.indFail_ag _ _ _) | apply Agree.then (k := State.irqRegion_ag _ _) | decide | split)

theorem execCoefWrite_ag (r : Req) (c : Fin 16) (off : BitVec 16) (v : Word) (s : State) : ∀ t1, execCoefWrite r c off v s = .next t1 → Agree 25217 s t1 := by
  intro t1 h
  obtain rfl := Host.Outcome.next.inj h
  repeat' (with_reducible first | assumption | apply Agree.refl | intro _ | apply Agree.ite | apply Agree.then (k := State.coefWrite_ag _ _ _ _ _) | decide)

theorem State.structWrite_ag (s : State) (ch k : Nat) (v : Word) : Agree 1 s (State.structWrite s ch k v) := by
  unfold State.structWrite
  repeat' (with_reducible first | assumption | apply Agree.refl | intro _ | (extract_lets +onlyGivenNames x; first | (refine (fun (_ : Agree 1 s x) => ?_ : Agree 1 s x → _) ?_; clear_value x) | (refine (fun (_ : Agree 1 s x.1) => ?_ : Agree 1 s x.1 → _) ?_; clear_value x) | clear_value x) | subst x | apply Agree.ite | apply Agree.then (k := State.wr_ag _ _ _) | apply Agree.then (k := State.putBit_ag _ _ _ _) | decide | split)

theorem execLaneStructWrite_ag (ch : Fin 128) (k : Fin 25) (v : Word) (s : State) : ∀ t1, execLaneStructWrite ch k v s = .next t1 → Agree 1 s t1 := by
  intro t1 h
  obtain rfl := Host.Outcome.next.inj h
  repeat' (with_reducible first | assumption | apply Agree.refl | intro _ | apply Agree.then (k := State.structWrite_ag _ _ _ _) | decide)

theorem State.lanePending_ag (s : State) (ch : Nat) : Agree 1 s (State.lanePending s ch) := by
  unfold State.lanePending
  repeat' (with_reducible first | assumption | apply Agree.refl | intro _ | (extract_lets +onlyGivenNames x; first | (refine (fun (_ : Agree 1 s x) => ?_ : Agree 1 s x → _) ?_; clear_value x) | (refine (fun (_ : Agree 1 s x.1) => ?_ : Agree 1 s x.1 → _) ?_; clear_value x) | clear_value x) | subst x | apply Agree.then (k := State.putBit_ag _ _ _ _) | decide)

theorem State.runStop_ag (s : State) (ch : Nat) : Agree 2097153 s (State.runStop s ch) := by
  unfold State.runStop
  repeat' (with_reducible first | assumption | apply Agree.refl | intro _ | (extract_lets +onlyGivenNames x; first | (refine (fun (_ : Agree 2097153 s x) => ?_ : Agree 2097153 s x → _) ?_; clear_value x) | (refine (fun (_ : Agree 2097153 s x.1) => ?_ : Agree 2097153 s x.1 → _) ?_; clear_value x) | clear_value x) | subst x | apply Agree.ite | apply Agree.then (k := State.putBit_ag _ _ _ _) | apply Agree.then (k := State.laneMod_ag _ _ _) | apply Agree.then (k := State.lanePending_ag _ _) | decide | split)

theorem execLaneRunStop_ag (ch : Fin 128) (s : State) : ∀ t1, execLaneRunStop ch s = .next t1 → Agree 2097153 s t1 := by
  intro t1 h
  obtain rfl := Host.Outcome.next.inj h
  repeat' (with_reducible first | assumption | apply Agree.refl | intro _ | apply Agree.then (k := State.runStop_ag _ _) | decide)

theorem State.stopApply_ag (s : State) (ch : Nat) : Agree 2097153 s (State.stopApply s ch) := by
  unfold State.stopApply
  repeat' (with_reducible first | assumption | apply Agree.refl | intro _ | (extract_lets +onlyGivenNames x; first | (refine (fun (_ : Agree 2097153 s x) => ?_ : Agree 2097153 s x → _) ?_; clear_value x) | (refine (fun (_ : Agree 2097153 s x.1) => ?_ : Agree 2097153 s x.1 → _) ?_; clear_value x) | clear_value x) | subst x | apply Agree.ite | apply Agree.then (k := State.put_ag _ _ _ _ _) | apply Agree.then (k := State.putBit_ag _ _ _ _) | apply Agree.then (k := State.laneMod_ag _ _ _) | apply Agree.then (k := State.lanePending_ag _ _) | decide | split)

theorem execLaneStopApply_ag (ch : Fin 128) (s : State) : ∀ t1, execLaneStopApply ch s = .next t1 → Agree 2097153 s t1 := by
  intro t1 h
  obtain rfl := Host.Outcome.next.inj h
  repeat' (with_reducible first | assumption | apply Agree.refl | intro _ | apply Agree.then (k := State.stopApply_ag _ _) | decide)

theorem State.runStart_ag (s : State) (ch : Nat) : Agree 2097153 s (State.runStart s ch) := by
  unfold State.runStart
  repeat' (with_reducible first | assumption | apply Agree.refl | intro _ | (extract_lets +onlyGivenNames x; first | (refine (fun (_ : Agree 2097153 s x) => ?_ : Agree 2097153 s x → _) ?_; clear_value x) | (refine (fun (_ : Agree 2097153 s x.1) => ?_ : Agree 2097153 s x.1 → _) ?_; clear_value x) | clear_value x) | subst x | apply Agree.ite | apply Agree.then (k := State.putBit_ag _ _ _ _) | apply Agree.then (k := State.laneMod_ag _ _ _) | apply Agree.then (k := State.lanePending_ag _ _) | decide | split)

theorem execLaneRunStart_ag (ch : Fin 128) (s : State) : ∀ t1, execLaneRunStart ch s = .next t1 → Agree 2097153 s t1 := by
  intro t1 h
  obtain rfl := Host.Outcome.next.inj h
  repeat' (with_reducible first | assumption | apply Agree.refl | intro _ | apply Agree.then (k := State.runStart_ag _ _) | decide)

theorem State.expectCheck_ag (s : State) (c was : Nat) : Agree 513 s (State.expectCheck s c was) := by
  unfold State.expectCheck
  repeat' (with_reducible first | assumption | apply Agree.refl | intro _ | (extract_lets +onlyGivenNames x; first | (refine (fun (_ : Agree 513 s x) => ?_ : Agree 513 s x → _) ?_; clear_value x) | (refine (fun (_ : Agree 513 s x.1) => ?_ : Agree 513 s x.1 → _) ?_; clear_value x) | clear_value x) | subst x | apply Agree.ite | apply Agree.whenI | apply Agree.then (k := State.putBit_ag _ _ _ _) | apply Agree.then (k := State.irq_ag _ _) | decide)

theorem State.restartApply_ag (s : State) (ch : Nat) : Agree 2122241 s (State.restartApply s ch) := by
  unfold State.restartApply
  repeat' (with_reducible first | assumption | apply Agree.refl | intro _ | (extract_lets +onlyGivenNames x; first | (refine (fun (_ : Agree 2122241 s x) => ?_ : Agree 2122241 s x → _) ?_; clear_value x) | (refine (fun (_ : Agree 2122241 s x.1) => ?_ : Agree 2122241 s x.1 → _) ?_; clear_value x) | clear_value x) | subst x | apply Agree.ite | apply Agree.then (k := State.putBit_ag _ _ _ _) | apply Agree.then (k := State.log_ag _ _ _ _ _) | apply Agree.then (k := State.laneMod_ag _ _ _) | apply Agree.then (k := State.irqRegion_ag _ _) | apply Agree.then (k := State.settleEvent_ag _ _ _ _) | apply Agree.then (k := State.lanePending_ag _ _) | apply Agree.then (k := State.expectCheck_ag _ _ _) | decide | split)

theorem execLaneRestartApply_ag (ch : Fin 128) (s : State) : ∀ t1, execLaneRestartApply ch s = .next t1 → Agree 2122241 s t1 := by
  intro t1 h
  obtain rfl := Host.Outcome.next.inj h
  repeat' (with_reducible first | assumption | apply Agree.refl | intro _ | apply Agree.then (k := State.restartApply_ag _ _) | decide)

theorem State.loadDef_ag (s : State) (ch sel : Nat) : Agree 2097153 s (State.loadDef s ch sel) := by
  unfold State.loadDef
  repeat' (with_reducible first | assumption | apply Agree.refl | intro _ | apply Agree.ite | apply Agree.then (k := State.putBit_ag _ _ _ _) | apply Agree.then (k := State.laneMod_ag _ _ _) | decide | split)

theorem execLaneLoadDef_ag (ch : Fin 128) (sel : BitVec 2) (s : State) : ∀ t1, execLaneLoadDef ch sel s = .next t1 → Agree 2097153 s t1 := by
  intro t1 h
  obtain rfl := Host.Outcome.next.inj h
  repeat' (with_reducible first | assumption | apply Agree.refl | intro _ | apply Agree.then (k := State.loadDef_ag _ _ _) | decide)

theorem State.loadBank_ag (s : State) (ch : Nat) (fin bank : Bool) (n : Nat) (taps : List Int) : Agree 1 s (State.loadBank s ch fin bank n taps) := by
  unfold State.loadBank
  repeat' (with_reducible first | assumption | apply Agree.refl | intro _ | apply Agree.foldl | apply Agree.then (k := State.wr_ag _ _ _) | decide)

theorem State.loadSet_ag (s : State) (ch sel : Nat) : Agree 1 s (State.loadSet s ch sel) := by
  unfold State.loadSet
  repeat' (with_reducible first | assumption | apply Agree.refl | intro _ | (extract_lets +onlyGivenNames x; first | (refine (fun (_ : Agree 1 s x) => ?_ : Agree 1 s x → _) ?_; clear_value x) | (refine (fun (_ : Agree 1 s x.1) => ?_ : Agree 1 s x.1 → _) ?_; clear_value x) | clear_value x) | subst x | apply Agree.ite | apply Agree.then (k := State.wr_ag _ _ _) | apply Agree.then (k := State.loadBank_ag _ _ _ _ _ _) | decide | split)

theorem State.loadApply_ag (s : State) (ch : Nat) : Agree 2097153 s (State.loadApply s ch) := by
  unfold State.loadApply
  repeat' (with_reducible first | assumption | apply Agree.refl | intro _ | (extract_lets +onlyGivenNames x; first | (refine (fun (_ : Agree 2097153 s x) => ?_ : Agree 2097153 s x → _) ?_; clear_value x) | (refine (fun (_ : Agree 2097153 s x.1) => ?_ : Agree 2097153 s x.1 → _) ?_; clear_value x) | clear_value x) | subst x | apply Agree.ite | apply Agree.then (k := State.laneMod_ag _ _ _) | apply Agree.then (k := State.lanePending_ag _ _) | apply Agree.then (k := State.loadSet_ag _ _ _) | decide | split)

theorem execLoadDefApply_ag (ch : Fin 128) (s : State) : ∀ t1, execLoadDefApply ch s = .next t1 → Agree 2097153 s t1 := by
  intro t1 h
  obtain rfl := Host.Outcome.next.inj h
  repeat' (with_reducible first | assumption | apply Agree.refl | intro _ | apply Agree.then (k := State.loadApply_ag _ _) | decide)

end Sys2Proof.Machine
end

