-- ==== Sys2Proof/Laws/Frame/Eth.lean ====
section
/-!
SUPPORT. Frames of the operations of Machine/Eth.lean: the fields each can change, as a mask.
-/
set_option linter.unusedTactic false
set_option linter.unreachableTactic false
namespace Sys2Proof.Machine
open Sys2Proof

theorem State.ethFlag_ag (s : State) (i p : Nat) : Agree 513 s (State.ethFlag s i p) := by
  unfold State.ethFlag
  repeat' (with_reducible first | assumption | apply Agree.refl | intro _ | apply Agree.then (k := State.putBit_ag _ _ _ _) | apply Agree.then (k := State.irq_ag _ _) | decide)

theorem State.ethDeny_ag (s : State) (off cause : Nat) : Agree 25089 s (State.ethDeny s off cause) := by
  unfold State.ethDeny
  repeat' (with_reducible first | assumption | apply Agree.refl | intro _ | apply Agree.then (k := State.log_ag _ _ _ _ _) | apply Agree.then (k := State.ethFlag_ag _ _ _) | decide)

theorem State.ethDenyFree_ag (s : State) (off : Nat) : Agree 25089 s (State.ethDenyFree s off) := by
  unfold State.ethDenyFree
  repeat' (with_reducible first | assumption | apply Agree.refl | intro _ | apply Agree.then (k := State.ethDeny_ag _ _ _) | decide)

theorem State.setEthQ_ag (s : State) (p q : Nat) (l : List EFrame) : Agree 34359738368 s (State.setEthQ s p q l) := by
  unfold State.setEthQ
  repeat' (with_reducible first | assumption | apply Agree.refl | intro _ | apply Agree.then (k := State.ethMod_ag _ _) | decide)

theorem State.ethPut_ag (s : State) (p pcp : Nat) (f : EFrame) : Agree 34359738369 s (State.ethPut s p pcp f) := by
  unfold State.ethPut
  repeat' (with_reducible first | assumption | apply Agree.refl | intro _ | (extract_lets +onlyGivenNames x; first | (refine (fun (_ : Agree 34359738369 s x) => ?_ : Agree 34359738369 s x → _) ?_; clear_value x) | (refine (fun (_ : Agree 34359738369 s x.1) => ?_ : Agree 34359738369 s x.1 → _) ?_; clear_value x) | clear_value x) | subst x | apply Agree.ite | apply Agree.then (k := State.count_ag _ _ _ _ _) | apply Agree.then (k := State.setEthQ_ag _ _ _ _) | decide | split)

theorem State.redAlive_ag (s : State) (p : Nat) : Agree 34359763457 s (State.redAlive s p) := by
  unfold State.redAlive
  repeat' (with_reducible first | assumption | apply Agree.refl | intro _ | (extract_lets +onlyGivenNames x; first | (refine (fun (_ : Agree 34359763457 s x) => ?_ : Agree 34359763457 s x → _) ?_; clear_value x) | (refine (fun (_ : Agree 34359763457 s x.1) => ?_ : Agree 34359763457 s x.1 → _) ?_; clear_value x) | clear_value x) | subst x | apply Agree.ite | apply Agree.then (k := State.putBit_ag _ _ _ _) | apply Agree.then (k := State.ethMod_ag _ _) | apply Agree.then (k := State.log_ag _ _ _ _ _) | apply Agree.then (k := State.ethFlag_ag _ _ _) | decide | split)

theorem State.redPathLost_ag (s : State) (p : Nat) : Agree 57857 s (State.redPathLost s p) := by
  unfold State.redPathLost
  repeat' (with_reducible first | assumption | apply Agree.refl | intro _ | (extract_lets +onlyGivenNames x; first | (refine (fun (_ : Agree 57857 s x) => ?_ : Agree 57857 s x → _) ?_; clear_value x) | (refine (fun (_ : Agree 57857 s x.1) => ?_ : Agree 57857 s x.1 → _) ?_; clear_value x) | clear_value x) | subst x | apply Agree.ite | apply Agree.then (k := State.putBit_ag _ _ _ _) | apply Agree.then (k := State.reachCnt_ag _ _) | apply Agree.then (k := State.log_ag _ _ _ _ _) | apply Agree.then (k := State.ethFlag_ag _ _ _) | decide | split)

theorem execRedPathLost_ag (p : Fin 2) (s : State) : ∀ t1, execRedPathLost p s = .next t1 → Agree 57857 s t1 := by
  intro t1 h
  obtain rfl := Host.Outcome.next.inj h
  repeat' (with_reducible first | assumption | apply Agree.refl | intro _ | apply Agree.then (k := State.redPathLost_ag _ _) | decide)

theorem State.ethSend_ag (s : State) (f : Eth) (outs : List Nat) (untag pcp vid : Nat) (src : EFrame) : Agree 34359738369 s (State.ethSend s f outs untag pcp vid src) := by
  unfold State.ethSend
  repeat' (with_reducible first | assumption | apply Agree.refl | intro _ | (extract_lets +onlyGivenNames x; first | (refine (fun (_ : Agree 34359738369 s x) => ?_ : Agree 34359738369 s x → _) ?_; clear_value x) | (refine (fun (_ : Agree 34359738369 s x.1) => ?_ : Agree 34359738369 s x.1 → _) ?_; clear_value x) | clear_value x) | subst x | apply Agree.ite | apply Agree.whenI | apply Agree.foldl | apply Agree.then (k := State.ethMod_ag _ _) | apply Agree.then (k := State.ethPut_ag _ _ _ _) | decide | split)

theorem State.corrPatch_ag (s : State) (f : Bytes) (off kind : Nat) (add : Int) : Agree 1 s (State.corrPatch s f off kind add).1 := by
  unfold State.corrPatch
  repeat' (with_reducible first | assumption | apply Agree.refl | intro _ | (extract_lets +onlyGivenNames x; first | (refine (fun (_ : Agree 1 s x) => ?_ : Agree 1 s x → _) ?_; clear_value x) | (refine (fun (_ : Agree 1 s x.1) => ?_ : Agree 1 s x.1 → _) ?_; clear_value x) | clear_value x) | subst x | apply Agree.ite | apply Agree.iteP | apply Agree.then (k := State.count_ag _ _ _ _ _) | decide | split)

theorem State.txPush_ag (s : State) (x : TxStamp) : Agree 34359763457 s (State.txPush s x) := by
  unfold State.txPush
  repeat' (with_reducible first | assumption | apply Agree.refl | intro _ | (extract_lets +onlyGivenNames x; first | (refine (fun (_ : Agree 34359763457 s x) => ?_ : Agree 34359763457 s x → _) ?_; clear_value x) | (refine (fun (_ : Agree 34359763457 s x.1) => ?_ : Agree 34359763457 s x.1 → _) ?_; clear_value x) | clear_value x) | subst x | apply Agree.ite | apply Agree.then (k := State.put_ag _ _ _ _ _) | apply Agree.then (k := State.count_ag _ _ _ _ _) | apply Agree.then (k := State.ethMod_ag _ _) | apply Agree.then (k := State.irq_ag _ _) | apply Agree.then (k := State.log_ag _ _ _ _ _) | decide | split)

theorem State.ptpEgress_ag (s : State) (p sec ns : Nat) (f : EFrame) : Agree 34359763457 s (State.ptpEgress s p sec ns f).1 := by
  unfold State.ptpEgress
  repeat' (with_reducible first | assumption | apply Agree.refl | intro _ | (extract_lets +onlyGivenNames x; first | (refine (fun (_ : Agree 34359763457 s x) => ?_ : Agree 34359763457 s x → _) ?_; clear_value x) | (refine (fun (_ : Agree 34359763457 s x.1) => ?_ : Agree 34359763457 s x.1 → _) ?_; clear_value x) | clear_value x) | subst x | apply Agree.ite | apply Agree.iteP | apply Agree.then (k := State.count_ag _ _ _ _ _) | apply Agree.then (k := State.ethMod_ag _ _) | apply Agree.then (k := State.corrPatch_ag _ _ _ _ _) | apply Agree.then (k := State.txPush_ag _ _) | decide | split)

theorem State.gpubBegun_ag (s : State) (f : EFrame) : Agree 34359738368 s (State.gpubBegun s f) := by
  unfold State.gpubBegun
  repeat' (with_reducible first | assumption | apply Agree.refl | intro _ | apply Agree.ite | apply Agree.whenI | apply Agree.then (k := State.setGpub_ag _ _ _) | decide | split)

theorem State.ethEgress_ag (s : State) (p sec ns : Nat) : Agree 34359796225 s (State.ethEgress s p sec ns) := by
  unfold State.ethEgress
  repeat' (with_reducible first | assumption | apply Agree.refl | intro _ | (extract_lets +onlyGivenNames x; first | (refine (fun (_ : Agree 34359796225 s x) => ?_ : Agree 34359796225 s x → _) ?_; clear_value x) | (refine (fun (_ : Agree 34359796225 s x.1) => ?_ : Agree 34359796225 s x.1 → _) ?_; clear_value x) | clear_value x) | subst x | apply Agree.ite | apply Agree.iteP | apply Agree.then (k := State.count_ag _ _ _ _ _) | apply Agree.then (k := State.ethMod_ag _ _) | apply Agree.then (k := State.reachTime_ag _ _) | apply Agree.then (k := State.setEthQ_ag _ _ _ _) | apply Agree.then (k := State.ptpEgress_ag _ _ _ _ _) | apply Agree.then (k := State.gpubBegun_ag _ _) | decide | split)

theorem execEthFrameEgress_ag (p : Fin 5) (sec : Nat) (ns : Fin 1000000000) (s : State) : ∀ t1, execEthFrameEgress p sec ns s = .next t1 → Agree 34359796225 s t1 := by
  intro t1 h
  obtain rfl := Host.Outcome.next.inj h
  repeat' (with_reducible first | assumption | apply Agree.refl | intro _ | apply Agree.then (k := State.ethEgress_ag _ _ _ _) | decide)

theorem State.learn_ag (s : State) (mac lp : Nat) : Agree 34359738368 s (State.learn s mac lp) := by
  unfold State.learn
  repeat' (with_reducible first | assumption | apply Agree.refl | intro _ | apply Agree.then (k := State.ethMod_ag _ _) | decide)

theorem State.forward_ag (s : State) (p ta : Nat) (f : Eth) (pcp vid members untag : Nat) (toSup : Bool) : Agree 34359738369 s (State.forward s p ta f pcp vid members untag toSup) := by
  unfold State.forward
  repeat' (with_reducible first | assumption | apply Agree.refl | intro _ | (extract_lets +onlyGivenNames x; first | (refine (fun (_ : Agree 34359738369 s x) => ?_ : Agree 34359738369 s x → _) ?_; clear_value x) | (refine (fun (_ : Agree 34359738369 s x.1) => ?_ : Agree 34359738369 s x.1 → _) ?_; clear_value x) | clear_value x) | subst x | apply Agree.ite | apply Agree.then (k := State.ethSend_ag _ _ _ _ _ _ _) | apply Agree.then (k := State.learn_ag _ _ _) | decide | split)

theorem State.ringForward_ag (s : State) (p ta : Nat) (raw : Bytes) (f : Eth) (pcp : Nat) : Agree 34359738369 s (State.ringForward s p ta raw f pcp) := by
  unfold State.ringForward
  repeat' (with_reducible first | assumption | apply Agree.refl | intro _ | (extract_lets +onlyGivenNames x; first | (refine (fun (_ : Agree 34359738369 s x) => ?_ : Agree 34359738369 s x → _) ?_; clear_value x) | (refine (fun (_ : Agree 34359738369 s x.1) => ?_ : Agree 34359738369 s x.1 → _) ?_; clear_value x) | clear_value x) | subst x | apply Agree.ite | apply Agree.then (k := State.ethMod_ag _ _) | apply Agree.then (k := State.ethPut_ag _ _ _ _) | decide | split)

theorem State.dupCheck_ag (s : State) (p : Nat) (f : Eth) : Agree 34359738369 s (State.dupCheck s p f).1 := by
  unfold State.dupCheck
  repeat' (with_reducible first | assumption | apply Agree.refl | intro _ | apply Agree.ite | apply Agree.iteP | apply Agree.then (k := State.count_ag _ _ _ _ _) | apply Agree.then (k := State.ethMod_ag _ _) | decide | split)

theorem State.ageing_ag (s : State) (mac : Nat) : Agree 34359771137 s (State.ageing s mac) := by
  unfold State.ageing
  repeat' (with_reducible first | assumption | apply Agree.refl | intro _ | apply Agree.then (k := State.ethMod_ag _ _) | apply Agree.then (k := State.reachCnt_ag _ _) | decide | split)

theorem execAddressAgeing_ag (mac : BitVec 48) (s : State) : ∀ t1, execAddressAgeing mac s = .next t1 → Agree 34359771137 s t1 := by
  intro t1 h
  obtain rfl := Host.Outcome.next.inj h
  repeat' (with_reducible first | assumption | apply Agree.refl | intro _ | apply Agree.then (k := State.ageing_ag _ _) | decide)

theorem State.redApply_ag (s : State) : Agree 34359738368 s (State.redApply s) := by
  unfold State.redApply
  repeat' (with_reducible first | assumption | apply Agree.refl | intro _ | apply Agree.then (k := State.ethMod_ag _ _) | decide)

theorem State.ethCtrlWrite_ag (s : State) (v : Word) : Agree 34359763457 s (State.ethCtrlWrite s v) := by
  unfold State.ethCtrlWrite
  repeat' (with_reducible first | assumption | apply Agree.refl | intro _ | (extract_lets +onlyGivenNames x; first | (refine (fun (_ : Agree 34359763457 s x) => ?_ : Agree 34359763457 s x → _) ?_; clear_value x) | (refine (fun (_ : Agree 34359763457 s x.1) => ?_ : Agree 34359763457 s x.1 → _) ?_; clear_value x) | clear_value x) | subst x | apply Agree.ite | apply Agree.foldl | apply Agree.then (k := State.wr_ag _ _ _) | apply Agree.then (k := State.setGse_ag _ _ _) | apply Agree.then (k := State.ethDeny_ag _ _ _) | apply Agree.then (k := State.redApply_ag _) | decide | split)

theorem execEthApply_ag (r : Req) (v : Word) (s : State) : ∀ t1, execEthApply r v s = .next t1 → Agree 34359763457 s t1 := by
  intro t1 h
  obtain rfl := Host.Outcome.next.inj h
  repeat' (with_reducible first | assumption | apply Agree.refl | intro _ | apply Agree.ite | apply Agree.then (k := State.ethCtrlWrite_ag _ _) | decide)

theorem State.prpSupervision_ag (s : State) : Agree 34359771137 s (State.prpSupervision s) := by
  unfold State.prpSupervision
  repeat' (with_reducible first | assumption | apply Agree.refl | intro _ | (extract_lets +onlyGivenNames x; first | (refine (fun (_ : Agree 34359771137 s x) => ?_ : Agree 34359771137 s x → _) ?_; clear_value x) | (refine (fun (_ : Agree 34359771137 s x.1) => ?_ : Agree 34359771137 s x.1 → _) ?_; clear_value x) | clear_value x) | subst x | apply Agree.ite | apply Agree.then (k := State.ethMod_ag _ _) | apply Agree.then (k := State.reachCnt_ag _ _) | apply Agree.then (k := State.ethSend_ag _ _ _ _ _ _ _) | decide | split)

theorem execPrpSupervisionSend_ag (s : State) : ∀ t1, execPrpSupervisionSend s = .next t1 → Agree 34359771137 s t1 := by
  intro t1 h
  obtain rfl := Host.Outcome.next.inj h
  repeat' (with_reducible first | assumption | apply Agree.refl | intro _ | apply Agree.then (k := State.prpSupervision_ag _) | decide)

theorem State.markPaths_ag (s was : State) : Agree 34359738368 s (State.markPaths s was) := by
  unfold State.markPaths
  repeat' (with_reducible first | assumption | apply Agree.refl | intro _ | (extract_lets +onlyGivenNames x; first | (refine (fun (_ : Agree 34359738368 s x) => ?_ : Agree 34359738368 s x → _) ?_; clear_value x) | (refine (fun (_ : Agree 34359738368 s x.1) => ?_ : Agree 34359738368 s x.1 → _) ?_; clear_value x) | clear_value x) | subst x | apply Agree.ite | apply Agree.foldl | apply Agree.then (k := State.setGse_ag _ _ _) | decide | split)

theorem State.ethLink_ag (s : State) (p : Nat) (up : Bool) (partner : Nat) : Agree 34359763457 s (State.ethLink s p up partner) := by
  unfold State.ethLink
  repeat' (with_reducible first | assumption | apply Agree.refl | intro _ | (extract_lets +onlyGivenNames x; first | (refine (fun (_ : Agree 34359763457 s x) => ?_ : Agree 34359763457 s x → _) ?_; clear_value x) | (refine (fun (_ : Agree 34359763457 s x.1) => ?_ : Agree 34359763457 s x.1 → _) ?_; clear_value x) | clear_value x) | subst x | apply Agree.ite | apply Agree.then (k := State.put_ag _ _ _ _ _) | apply Agree.then (k := State.putBit_ag _ _ _ _) | apply Agree.then (k := State.log_ag _ _ _ _ _) | apply Agree.then (k := State.ethFlag_ag _ _ _) | apply Agree.then (k := State.markPaths_ag _ _) | decide | split)

theorem execEthLink_ag (p : Fin 4) (up : Bool) (speed : Fin 3) (s : State) : ∀ t1, execEthLink p up speed s = .next t1 → Agree 34359763457 s t1 := by
  intro t1 h
  obtain rfl := Host.Outcome.next.inj h
  repeat' (with_reducible first | assumption | apply Agree.refl | intro _ | apply Agree.then (k := State.ethLink_ag _ _ _ _) | decide)

theorem State.txtsRead_ag (s : State) (r : Req) : Agree 562984313159729 s (State.txtsRead s r) := by
  unfold State.txtsRead
  repeat' (with_reducible first | assumption | apply Agree.refl | intro _ | (extract_lets +onlyGivenNames x; first | (refine (fun (_ : Agree 562984313159729 s x) => ?_ : Agree 562984313159729 s x → _) ?_; clear_value x) | (refine (fun (_ : Agree 562984313159729 s x.1) => ?_ : Agree 562984313159729 s x.1 → _) ?_; clear_value x) | clear_value x) | subst x | apply Agree.then (k := State.put_ag _ _ _ _ _) | apply Agree.then (k := State.ethMod_ag _ _) | apply Agree.then (k := State.answer_ag _ _ _) | apply Agree.then (k := State.latch_ag _ _ _ _) | apply Agree.then (k := State.headTaken_ag _ _) | apply Agree.then (k := State.emptyRead_ag _ _ _) | decide | split)

theorem execEthTxtsNsRead_ag (r : Req) (s : State) : ∀ t1, execEthTxtsNsRead r s = .next t1 → Agree 562984313159729 s t1 := by
  intro t1 h
  obtain rfl := Host.Outcome.next.inj h
  repeat' (with_reducible first | assumption | apply Agree.refl | intro _ | apply Agree.ite | apply Agree.then (k := State.txtsRead_ag _ _) | decide)

end Sys2Proof.Machine
end

