-- ==== Sys2Proof/Laws/Frame/Sv.lean ====
section
/-!
SUPPORT. Frames of the operations of Machine/Sv.lean: the fields each can change, as a mask.
-/
set_option linter.unusedTactic false
set_option linter.unreachableTactic false
namespace Sys2Proof.Machine
open Sys2Proof

theorem State.svUsed_ag (s : State) (n tick : Nat) : Agree 34359763457 s (State.svUsed s n tick) := by
  unfold State.svUsed
  repeat' (with_reducible first | assumption | apply Agree.refl | intro _ | (extract_lets +onlyGivenNames x; first | (refine (fun (_ : Agree 34359763457 s x) => ?_ : Agree 34359763457 s x → _) ?_; clear_value x) | (refine (fun (_ : Agree 34359763457 s x.1) => ?_ : Agree 34359763457 s x.1 → _) ?_; clear_value x) | clear_value x) | subst x | apply Agree.ite | apply Agree.then (k := State.putBit_ag _ _ _ _) | apply Agree.then (k := State.setSvSlot_ag _ _ _) | apply Agree.then (k := State.irq_ag _ _) | apply Agree.then (k := State.log_ag _ _ _ _ _) | decide | split)

theorem State.svAsdu_ag (s : State) (n ta : Nat) (a : List (Nat × Bytes)) : Agree 34359763457 s (State.svAsdu s n ta a) := by
  unfold State.svAsdu
  repeat' (with_reducible first | assumption | apply Agree.refl | intro _ | (extract_lets +onlyGivenNames x; first | (refine (fun (_ : Agree 34359763457 s x) => ?_ : Agree 34359763457 s x → _) ?_; clear_value x) | (refine (fun (_ : Agree 34359763457 s x.1) => ?_ : Agree 34359763457 s x.1 → _) ?_; clear_value x) | clear_value x) | subst x | apply Agree.ite | apply Agree.iteP | apply Agree.then (k := State.count_ag _ _ _ _ _) | apply Agree.then (k := State.setSvSlot_ag _ _ _) | apply Agree.then (k := State.log_ag _ _ _ _ _) | apply Agree.then (k := State.ethFlag_ag _ _ _) | apply Agree.then (k := State.svUsed_ag _ _ _) | decide | split)

theorem State.svFrame_ag (s : State) (p ta : Nat) (f : Eth) : Agree 34359763457 s (State.svFrame s p ta f) := by
  unfold State.svFrame
  repeat' (with_reducible first | assumption | apply Agree.refl | intro _ | apply Agree.ite | apply Agree.foldl | apply Agree.then (k := State.count_ag _ _ _ _ _) | apply Agree.then (k := State.svAsdu_ag _ _ _ _) | decide | split)

theorem State.svDelivered_ag (s : State) (n k : Nat) : Agree 34359738368 s (State.svDelivered s n k) := by
  unfold State.svDelivered
  repeat' (with_reducible first | assumption | apply Agree.refl | intro _ | (extract_lets +onlyGivenNames x; first | (refine (fun (_ : Agree 34359738368 s x) => ?_ : Agree 34359738368 s x → _) ?_; clear_value x) | (refine (fun (_ : Agree 34359738368 s x.1) => ?_ : Agree 34359738368 s x.1 → _) ?_; clear_value x) | clear_value x) | subst x | apply Agree.ite | apply Agree.then (k := State.setSvSlot_ag _ _ _) | decide | split)

theorem State.svLost_ag (s : State) (n : Nat) : Agree 25089 s (State.svLost s n) := by
  unfold State.svLost
  repeat' (with_reducible first | assumption | apply Agree.refl | intro _ | (extract_lets +onlyGivenNames x; first | (refine (fun (_ : Agree 25089 s x) => ?_ : Agree 25089 s x → _) ?_; clear_value x) | (refine (fun (_ : Agree 25089 s x.1) => ?_ : Agree 25089 s x.1 → _) ?_; clear_value x) | clear_value x) | subst x | apply Agree.ite | apply Agree.then (k := State.putBit_ag _ _ _ _) | apply Agree.then (k := State.log_ag _ _ _ _ _) | apply Agree.then (k := State.ethFlag_ag _ _ _) | decide | split)

theorem execSvLost_ag (n : Fin 16) (s : State) : ∀ t1, execSvLost n s = .next t1 → Agree 25089 s t1 := by
  intro t1 h
  obtain rfl := Host.Outcome.next.inj h
  repeat' (with_reducible first | assumption | apply Agree.refl | intro _ | apply Agree.then (k := State.svLost_ag _ _) | decide)

theorem State.svsWrite_ag (s : State) (r : Req) (n k : Nat) (v : Word) : Agree 25089 s (State.svsWrite s r n k v) := by
  unfold State.svsWrite
  repeat' (with_reducible first | assumption | apply Agree.refl | intro _ | (extract_lets +onlyGivenNames x; first | (refine (fun (_ : Agree 25089 s x) => ?_ : Agree 25089 s x → _) ?_; clear_value x) | (refine (fun (_ : Agree 25089 s x.1) => ?_ : Agree 25089 s x.1 → _) ?_; clear_value x) | clear_value x) | subst x | apply Agree.ite | apply Agree.then (k := State.regWrite_ag _ _ _) | apply Agree.then (k := State.ethDeny_ag _ _ _) | apply Agree.then (k := State.ethDenyFree_ag _ _) | decide | split)

theorem execSvSlotWrite_ag (r : Req) (n : Fin 16) (k : Fin 16) (v : Word) (s : State) : ∀ t1, execSvSlotWrite r n k v s = .next t1 → Agree 25089 s t1 := by
  intro t1 h
  obtain rfl := Host.Outcome.next.inj h
  repeat' (with_reducible first | assumption | apply Agree.refl | intro _ | apply Agree.ite | apply Agree.then (k := State.svsWrite_ag _ _ _ _ _) | decide)

theorem State.svpPush_ag (s : State) (c l k : Nat) (w : Word) : Agree 34359738368 s (State.svpPush s c l k w) := by
  unfold State.svpPush
  repeat' (with_reducible first | assumption | apply Agree.refl | intro _ | (extract_lets +onlyGivenNames x; first | (refine (fun (_ : Agree 34359738368 s x) => ?_ : Agree 34359738368 s x → _) ?_; clear_value x) | (refine (fun (_ : Agree 34359738368 s x.1) => ?_ : Agree 34359738368 s x.1 → _) ?_; clear_value x) | clear_value x) | subst x | apply Agree.ite | apply Agree.then (k := State.ethMod_ag _ _) | decide | split)

theorem State.svpSend_ag (s : State) (c : Nat) : Agree 34359738369 s (State.svpSend s c) := by
  unfold State.svpSend
  repeat' (with_reducible first | assumption | apply Agree.refl | intro _ | (extract_lets +onlyGivenNames x; first | (refine (fun (_ : Agree 34359738369 s x) => ?_ : Agree 34359738369 s x → _) ?_; clear_value x) | (refine (fun (_ : Agree 34359738369 s x.1) => ?_ : Agree 34359738369 s x.1 → _) ?_; clear_value x) | clear_value x) | subst x | apply Agree.ite | apply Agree.then (k := State.count_ag _ _ _ _ _) | apply Agree.then (k := State.ethMod_ag _ _) | apply Agree.then (k := State.ethSend_ag _ _ _ _ _ _ _) | decide | split)

theorem execSvPubFrameSend_ag (c : Fin 16) (s : State) : ∀ t1, execSvPubFrameSend c s = .next t1 → Agree 34359738369 s t1 := by
  intro t1 h
  obtain rfl := Host.Outcome.next.inj h
  repeat' (with_reducible first | assumption | apply Agree.refl | intro _ | apply Agree.then (k := State.svpSend_ag _ _) | decide)

end Sys2Proof.Machine
end

