-- ==== Sys2Proof/Laws/Frame/Windows.lean ====
section
/-!
SUPPORT. Frames of the operations of Machine/Windows.lean: the fields each can change, as a mask.
-/
set_option linter.unusedTactic false
set_option linter.unreachableTactic false
namespace Sys2Proof.Machine
open Sys2Proof

theorem State.pushProt_ag (s : State) (c : Nat) (words : List Word) : Agree 2147483649 s (State.pushProt s c words) := by
  unfold State.pushProt
  repeat' (with_reducible first | assumption | apply Agree.refl | intro _ | (extract_lets +onlyGivenNames x; first | (refine (fun (_ : Agree 2147483649 s x) => ?_ : Agree 2147483649 s x → _) ?_; clear_value x) | (refine (fun (_ : Agree 2147483649 s x.1) => ?_ : Agree 2147483649 s x.1 → _) ?_; clear_value x) | clear_value x) | subst x | apply Agree.foldl | apply Agree.then (k := State.put_ag _ _ _ _ _) | apply Agree.then (k := State.wrMem_ag _ _ _ _) | decide)

theorem State.openTrk_ag (s : State) (c tick sec tag : Nat) (sv : Bool) : Agree 2147483649 s (State.openTrk s c tick sec tag sv) := by
  unfold State.openTrk
  repeat' (with_reducible first | assumption | apply Agree.refl | intro _ | (extract_lets +onlyGivenNames x; first | (refine (fun (_ : Agree 2147483649 s x) => ?_ : Agree 2147483649 s x → _) ?_; clear_value x) | (refine (fun (_ : Agree 2147483649 s x.1) => ?_ : Agree 2147483649 s x.1 → _) ?_; clear_value x) | clear_value x) | subst x | apply Agree.foldl | apply Agree.then (k := State.put_ag _ _ _ _ _) | apply Agree.then (k := State.wrMem_ag _ _ _ _) | decide)

theorem State.clearWindows_ag (s : State) (c : Nat) : Agree 2147483649 s (State.clearWindows s c) := by
  unfold State.clearWindows
  repeat' (with_reducible first | assumption | apply Agree.refl | intro _ | (extract_lets +onlyGivenNames x; first | (refine (fun (_ : Agree 2147483649 s x) => ?_ : Agree 2147483649 s x → _) ?_; clear_value x) | (refine (fun (_ : Agree 2147483649 s x.1) => ?_ : Agree 2147483649 s x.1 → _) ?_; clear_value x) | clear_value x) | subst x | apply Agree.then (k := State.wr_ag _ _ _) | apply Agree.then (k := State.dropRegs_ag _ _) | apply Agree.then (k := State.dropUpsets_ag _ _ _) | decide)

theorem State.slotDone_ag (s : State) (ch : Nat) (o : Word × Bool) : Agree 2097153 s (State.slotDone s ch o) := by
  unfold State.slotDone
  repeat' (with_reducible first | assumption | apply Agree.refl | intro _ | (extract_lets +onlyGivenNames x; first | (refine (fun (_ : Agree 2097153 s x) => ?_ : Agree 2097153 s x → _) ?_; clear_value x) | (refine (fun (_ : Agree 2097153 s x.1) => ?_ : Agree 2097153 s x.1 → _) ?_; clear_value x) | clear_value x) | subst x | apply Agree.ite | apply Agree.then (k := State.put_ag _ _ _ _ _) | apply Agree.then (k := State.laneMod_ag _ _ _) | decide | split)

theorem State.ifdHist_ag (s : State) (c l : Nat) (due : Option Nat) (w : Word) : Agree 134217728 s (State.ifdHist s c l due w) := by
  unfold State.ifdHist
  repeat' (with_reducible first | assumption | apply Agree.refl | intro _ | (extract_lets +onlyGivenNames x; first | (refine (fun (_ : Agree 134217728 s x) => ?_ : Agree 134217728 s x → _) ?_; clear_value x) | (refine (fun (_ : Agree 134217728 s x.1) => ?_ : Agree 134217728 s x.1 → _) ?_; clear_value x) | clear_value x) | subst x | apply Agree.ite | apply Agree.then (k := State.detMod_ag _ _ _) | decide | split)

theorem State.deliverProt_ag (s : State) (c : Nat) : Agree 36677091329 s (State.deliverProt s c) := by
  unfold State.deliverProt
  repeat' (with_reducible first | assumption | apply Agree.refl | intro _ | (extract_lets +onlyGivenNames x; first | (refine (fun (_ : Agree 36677091329 s x) => ?_ : Agree 36677091329 s x → _) ?_; clear_value x) | (refine (fun (_ : Agree 36677091329 s x.1) => ?_ : Agree 36677091329 s x.1 → _) ?_; clear_value x) | clear_value x) | subst x | apply Agree.ite | apply Agree.whenI | apply Agree.foldl | apply Agree.optOr | apply Agree.optMap | apply Agree.then (k := State.put_ag _ _ _ _ _) | apply Agree.then (k := State.trkMod_ag _ _ _) | apply Agree.then (k := State.svDelivered_ag _ _ _) | apply Agree.then (k := State.svpPush_ag _ _ _ _ _) | apply Agree.then (k := State.pushProt_ag _ _ _) | apply Agree.then (k := State.slotDone_ag _ _ _) | apply Agree.then (k := State.ifdHist_ag _ _ _ _ _) | decide | split)

end Sys2Proof.Machine
end

