-- ==== Sys2Proof/Laws/Frame/Phasor.lean ====
section
/-!
SUPPORT. Frames of the operations of Machine/Phasor.lean: the fields each can change, as a mask.
-/
set_option linter.unusedTactic false
set_option linter.unreachableTactic false
namespace Sys2Proof.Machine
open Sys2Proof

theorem State.putPhasor_ag (s : State) (c off : Nat) (z : Cx) : Agree 2147483649 s (State.putPhasor s c off z) := by
  unfold State.putPhasor
  repeat' (with_reducible first | assumption | apply Agree.refl | intro _ | apply Agree.then (k := State.wrMem_ag _ _ _ _) | decide)

theorem State.phasorLane_ag (s : State) (c l : Nat) : Agree 2147483649 s (State.phasorLane s c l) := by
  unfold State.phasorLane
  repeat' (with_reducible first | assumption | apply Agree.refl | intro _ | (extract_lets +onlyGivenNames x; first | (refine (fun (_ : Agree 2147483649 s x) => ?_ : Agree 2147483649 s x → _) ?_; clear_value x) | (refine (fun (_ : Agree 2147483649 s x.1) => ?_ : Agree 2147483649 s x.1 → _) ?_; clear_value x) | clear_value x) | subst x | apply Agree.ite | apply Agree.foldl | apply Agree.then (k := State.wrMem_ag _ _ _ _) | apply Agree.then (k := State.putPhasor_ag _ _ _ _) | decide | split)

theorem State.phasors_ag (s : State) (c : Nat) : Agree 2147483649 s (State.phasors s c) := by
  unfold State.phasors
  extract_lets n s1 s2 tk s3 s4
  have h1 : Agree 2147483649 s s1 := Agree.mono (State.winSeen_ag _ _ _) (by decide)
  have h2 : Agree 2147483649 s s2 := Agree.foldl h1 (fun u x hu => hu.then (State.phasorLane_ag _ _ _) (by decide))
  clear_value s2
  have h3 : Agree 2147483649 s s3 := h2.then (State.winSeen_ag _ _ _) (by decide)
  clear_value s3
  exact ((h3.then (State.wrMem_ag _ _ _ _) (by decide)).then (State.wrMem_ag _ _ _ _) (by decide)).then (State.wrMem_ag _ _ _ _) (by decide)

end Sys2Proof.Machine
end

