-- ==== Sys2Proof/Laws/Frame/Claims.lean ====
section
/-!
SUPPORT. Frames of the operations of Machine/Claims.lean: the fields each can change, as a mask.
-/
set_option linter.unusedTactic false
set_option linter.unreachableTactic false
namespace Sys2Proof.Machine
open Sys2Proof

theorem State.putPair_ag (s : State) (lo n : Nat) (b : Bool) : Agree 1 s (State.putPair s lo n b) := by
  unfold State.putPair
  repeat' (with_reducible first | assumption | apply Agree.refl | intro _ | apply Agree.ite | apply Agree.then (k := State.putBit_ag _ _ _ _) | decide | split)

theorem State.fioRelease_ag (s : State) (k : Nat) : Agree 1 s (State.fioRelease s k) := by
  unfold State.fioRelease
  repeat' (with_reducible first | assumption | apply Agree.refl | intro _ | (extract_lets +onlyGivenNames x; first | (refine (fun (_ : Agree 1 s x) => ?_ : Agree 1 s x → _) ?_; clear_value x) | (refine (fun (_ : Agree 1 s x.1) => ?_ : Agree 1 s x.1 → _) ?_; clear_value x) | clear_value x) | subst x | apply Agree.then (k := State.wr_ag _ _ _) | apply Agree.then (k := State.putPair_ag _ _ _ _) | decide)

theorem State.released_ag (s : State) (res : Nat) : Agree 131073 s (State.released s res) := by
  unfold State.released
  repeat' (with_reducible first | assumption | apply Agree.refl | intro _ | apply Agree.ite | apply Agree.then (k := State.put_ag _ _ _ _ _) | apply Agree.then (k := State.setPin_ag _ _ _) | apply Agree.then (k := State.fioRelease_ag _ _) | decide | split)

theorem State.claimResult_ag (s : State) (owner status tag : Nat) : Agree 1 s (State.claimResult s owner status tag) := by
  unfold State.claimResult
  repeat' (with_reducible first | assumption | apply Agree.refl | intro _ | apply Agree.then (k := State.wr_ag _ _ _) | decide)

theorem State.claimDenied_ag (s : State) (op : Nat) (r : Req) (res : Nat) : Agree 25089 s (State.claimDenied s op r res) := by
  unfold State.claimDenied
  repeat' (with_reducible first | assumption | apply Agree.refl | intro _ | (extract_lets +onlyGivenNames x; first | (refine (fun (_ : Agree 25089 s x) => ?_ : Agree 25089 s x → _) ?_; clear_value x) | (refine (fun (_ : Agree 25089 s x.1) => ?_ : Agree 25089 s x.1 → _) ?_; clear_value x) | clear_value x) | subst x | apply Agree.then (k := State.wr_ag _ _ _) | apply Agree.then (k := State.putBit_ag _ _ _ _) | apply Agree.then (k := State.count_ag _ _ _ _ _) | apply Agree.then (k := State.irq_ag _ _) | apply Agree.then (k := State.log_ag _ _ _ _ _) | apply Agree.then (k := State.claimResult_ag _ _ _ _) | decide)

theorem State.claimBadId_ag (s : State) : Agree 513 s (State.claimBadId s) := by
  unfold State.claimBadId
  repeat' (with_reducible first | assumption | apply Agree.refl | intro _ | apply Agree.then (k := State.putBit_ag _ _ _ _) | apply Agree.then (k := State.irq_ag _ _) | apply Agree.then (k := State.claimResult_ag _ _ _ _) | decide)

theorem State.claimOp_ag (s : State) (r : Req) (res : Nat) : Agree 25093 s (State.claimOp s r res) := by
  unfold State.claimOp
  repeat' (with_reducible first | assumption | apply Agree.refl | intro _ | (extract_lets +onlyGivenNames x; first | (refine (fun (_ : Agree 25093 s x) => ?_ : Agree 25093 s x → _) ?_; clear_value x) | (refine (fun (_ : Agree 25093 s x.1) => ?_ : Agree 25093 s x.1 → _) ?_; clear_value x) | clear_value x) | subst x | apply Agree.ite | apply Agree.then (k := State.setClaim_ag _ _ _) | apply Agree.then (k := State.claimResult_ag _ _ _ _) | apply Agree.then (k := State.claimDenied_ag _ _ _ _) | apply Agree.then (k := State.claimBadId_ag _) | decide | split)

theorem State.releaseOp_ag (s : State) (r : Req) (res : Nat) : Agree 156165 s (State.releaseOp s r res) := by
  unfold State.releaseOp
  repeat' (with_reducible first | assumption | apply Agree.refl | intro _ | apply Agree.ite | apply Agree.then (k := State.setClaim_ag _ _ _) | apply Agree.then (k := State.released_ag _ _) | apply Agree.then (k := State.claimResult_ag _ _ _ _) | apply Agree.then (k := State.claimDenied_ag _ _ _ _) | apply Agree.then (k := State.claimBadId_ag _) | decide | split)

theorem State.queryOp_ag (s : State) (res : Nat) : Agree 513 s (State.queryOp s res) := by
  unfold State.queryOp
  repeat' (with_reducible first | assumption | apply Agree.refl | intro _ | apply Agree.ite | apply Agree.then (k := State.claimResult_ag _ _ _ _) | apply Agree.then (k := State.claimBadId_ag _) | decide | split)

theorem execClaimCmdQuery_ag (r : Req) (res : BitVec 16) (s : State) : ∀ t1, execClaimCmdQuery r res s = .next t1 → Agree 513 s t1 := by
  intro t1 h
  obtain rfl := Host.Outcome.next.inj h
  repeat' (with_reducible first | assumption | apply Agree.refl | intro _ | apply Agree.ite | apply Agree.then (k := State.queryOp_ag _ _) | decide)

theorem State.endClaim_ag (s : State) (owner x : Nat) : Agree 131085 s (State.endClaim s owner x) := by
  unfold State.endClaim
  repeat' (with_reducible first | assumption | apply Agree.refl | intro _ | (extract_lets +onlyGivenNames x; first | (refine (fun (_ : Agree 131085 s x) => ?_ : Agree 131085 s x → _) ?_; clear_value x) | (refine (fun (_ : Agree 131085 s x.1) => ?_ : Agree 131085 s x.1 → _) ?_; clear_value x) | clear_value x) | subst x | apply Agree.ite | apply Agree.then (k := State.setEnded_ag _ _) | apply Agree.then (k := State.setClaim_ag _ _ _) | apply Agree.then (k := State.released_ag _ _) | decide | split)

theorem State.endClaims_ag (s : State) (owner : Nat) (l : List Nat) : Agree 131085 s (s.endClaims owner l) :=
  Agree.foldl (Agree.refl _ _) (fun u x hu => hu.then (State.endClaim_ag _ _ _) (by decide))

theorem State.takeClaims_ag (s : State) (o : Nat) (l : List Nat) : Agree 4 s (s.takeClaims o l) := by
  induction l generalizing s with
  | nil => apply Agree.refl
  | cons x xs ih => exact Agree.then (Agree.mono (State.setClaim_ag _ _ _) (by decide)) (ih _) (by decide)

theorem State.settleEnded_ag (s : State) : Agree 131081 s (State.settleEnded s) := by
  unfold State.settleEnded
  repeat' (with_reducible first | assumption | apply Agree.refl | intro _ | (extract_lets +onlyGivenNames x; first | (refine (fun (_ : Agree 131081 s x) => ?_ : Agree 131081 s x → _) ?_; clear_value x) | (refine (fun (_ : Agree 131081 s x.1) => ?_ : Agree 131081 s x.1 → _) ?_; clear_value x) | clear_value x) | subst x | apply Agree.ite | apply Agree.foldl | apply Agree.then (k := State.setEnded_ag _ _) | apply Agree.then (k := State.released_ag _ _) | decide | split)

end Sys2Proof.Machine
end

