-- ==== Sys2Proof/Laws/Frame/Can.lean ====
section
/-!
SUPPORT. Frames of the operations of Machine/Can.lean: the fields each can change, as a mask.
-/
set_option linter.unusedTactic false
set_option linter.unreachableTactic false
namespace Sys2Proof.Machine
open Sys2Proof

theorem State.canIdle_ag (s : State) (c : Nat) : Agree 1 s (State.canIdle s c) := by
  unfold State.canIdle
  repeat' (with_reducible first | assumption | apply Agree.refl | intro _ | apply Agree.ite | apply Agree.whenI | apply Agree.then (k := State.putBit_ag _ _ _ _) | decide)

theorem State.canFlag_ag (s : State) (c i : Nat) : Agree 513 s (State.canFlag s c i) := by
  unfold State.canFlag
  repeat' (with_reducible first | assumption | apply Agree.refl | intro _ | (extract_lets +onlyGivenNames x; first | (refine (fun (_ : Agree 513 s x) => ?_ : Agree 513 s x → _) ?_; clear_value x) | (refine (fun (_ : Agree 513 s x.1) => ?_ : Agree 513 s x.1 → _) ?_; clear_value x) | clear_value x) | subst x | apply Agree.ite | apply Agree.then (k := State.putBit_ag _ _ _ _) | apply Agree.then (k := State.irq_ag _ _) | decide | split)

theorem State.canLog_ag (s : State) (c code p0 p1 : Nat) : Agree 25089 s (State.canLog s c code p0 p1) := by
  unfold State.canLog
  repeat' (with_reducible first | assumption | apply Agree.refl | intro _ | apply Agree.then (k := State.irq_ag _ _) | apply Agree.then (k := State.log_ag _ _ _ _ _) | decide)

theorem State.canDeny_ag (s : State) (c off cause : Nat) : Agree 25089 s (State.canDeny s c off cause) := by
  unfold State.canDeny
  repeat' (with_reducible first | assumption | apply Agree.refl | intro _ | apply Agree.then (k := State.canFlag_ag _ _ _) | apply Agree.then (k := State.canLog_ag _ _ _ _ _) | decide)

theorem State.canDenyFree_ag (s : State) (c off : Nat) : Agree 25089 s (State.canDenyFree s c off) := by
  unfold State.canDenyFree
  repeat' (with_reducible first | assumption | apply Agree.refl | intro _ | apply Agree.then (k := State.canDeny_ag _ _ _ _) | decide)

theorem State.canLogState_ag (s : State) (c : Nat) : Agree 25089 s (State.canLogState s c) := by
  unfold State.canLogState
  repeat' (with_reducible first | assumption | apply Agree.refl | intro _ | apply Agree.then (k := State.canLog_ag _ _ _ _ _) | decide)

theorem State.setObj_ag (s : State) (c m st : Nat) : Agree 1 s (State.setObj s c m st) := by
  unfold State.setObj
  repeat' (with_reducible first | assumption | apply Agree.refl | intro _ | apply Agree.then (k := State.put_ag _ _ _ _ _) | apply Agree.then (k := State.putBit_ag _ _ _ _) | decide)

theorem State.setNew_ag (s : State) (c m : Nat) (b : Bool) : Agree 1 s (State.setNew s c m b) := by
  unfold State.setNew
  repeat' (with_reducible first | assumption | apply Agree.refl | intro _ | apply Agree.then (k := State.putBit_ag _ _ _ _) | decide)

theorem State.moveObjs_ag (s : State) (c a b : Nat) : Agree 1 s (State.moveObjs s c a b) := by
  unfold State.moveObjs
  repeat' (with_reducible first | assumption | apply Agree.refl | intro _ | apply Agree.foldl | apply Agree.then (k := State.setObj_ag _ _ _ _) | decide)

theorem State.canQueue_ag (s : State) (c m : Nat) : Agree 17179869185 s (State.canQueue s c m) := by
  unfold State.canQueue
  repeat' (with_reducible first | assumption | apply Agree.refl | intro _ | (extract_lets +onlyGivenNames x; first | (refine (fun (_ : Agree 17179869185 s x) => ?_ : Agree 17179869185 s x → _) ?_; clear_value x) | (refine (fun (_ : Agree 17179869185 s x.1) => ?_ : Agree 17179869185 s x.1 → _) ?_; clear_value x) | clear_value x) | subst x | apply Agree.ite | apply Agree.then (k := State.putBit_ag _ _ _ _) | apply Agree.then (k := State.count_ag _ _ _ _ _) | apply Agree.then (k := State.setCan_ag _ _ _) | apply Agree.then (k := State.setObj_ag _ _ _ _) | decide | split)

theorem State.objData_ag (s : State) (c m w : Nat) (v : Word) : Agree 17179869185 s (State.objData s c m w v) := by
  unfold State.objData
  repeat' (with_reducible first | assumption | apply Agree.refl | intro _ | apply Agree.ite | apply Agree.then (k := State.wr_ag _ _ _) | apply Agree.then (k := State.setCan_ag _ _ _) | decide | split)

theorem State.objFormat_ag (s : State) (c m : Nat) (f : CanFrame) : Agree 1 s (State.objFormat s c m f) := by
  unfold State.objFormat
  repeat' (with_reducible first | assumption | apply Agree.refl | intro _ | apply Agree.then (k := State.put_ag _ _ _ _ _) | decide)

theorem State.objStamp_ag (s : State) (c m sec ns : Nat) : Agree 1 s (State.objStamp s c m sec ns) := by
  unfold State.objStamp
  repeat' (with_reducible first | assumption | apply Agree.refl | intro _ | (extract_lets +onlyGivenNames x; first | (refine (fun (_ : Agree 1 s x) => ?_ : Agree 1 s x → _) ?_; clear_value x) | (refine (fun (_ : Agree 1 s x.1) => ?_ : Agree 1 s x.1 → _) ?_; clear_value x) | clear_value x) | subst x | apply Agree.iteP | apply Agree.then (k := State.wr_ag _ _ _) | decide | split)

theorem State.canErrCount_ag (s : State) (c : Nat) (why : CanErr) : Agree 513 s (State.canErrCount s c why) := by
  unfold State.canErrCount
  repeat' (with_reducible first | assumption | apply Agree.refl | intro _ | apply Agree.then (k := State.count_ag _ _ _ _ _) | apply Agree.then (k := State.canFlag_ag _ _ _) | decide | split)

theorem State.objFail_ag (s : State) (c m cause : Nat) : Agree 17179894273 s (State.objFail s c m cause) := by
  unfold State.objFail
  repeat' (with_reducible first | assumption | apply Agree.refl | intro _ | (extract_lets +onlyGivenNames x; first | (refine (fun (_ : Agree 17179894273 s x) => ?_ : Agree 17179894273 s x → _) ?_; clear_value x) | (refine (fun (_ : Agree 17179894273 s x.1) => ?_ : Agree 17179894273 s x.1 → _) ?_; clear_value x) | clear_value x) | subst x | apply Agree.then (k := State.put_ag _ _ _ _ _) | apply Agree.then (k := State.setCan_ag _ _ _) | apply Agree.then (k := State.canFlag_ag _ _ _) | apply Agree.then (k := State.canLog_ag _ _ _ _ _) | apply Agree.then (k := State.setObj_ag _ _ _ _) | decide)

theorem State.canEndFrame_ag (s : State) (c : Nat) : Agree 17179869185 s (State.canEndFrame s c) := by
  unfold State.canEndFrame
  repeat' (with_reducible first | assumption | apply Agree.refl | intro _ | (extract_lets +onlyGivenNames x; first | (refine (fun (_ : Agree 17179869185 s x) => ?_ : Agree 17179869185 s x → _) ?_; clear_value x) | (refine (fun (_ : Agree 17179869185 s x.1) => ?_ : Agree 17179869185 s x.1 → _) ?_; clear_value x) | clear_value x) | subst x | apply Agree.foldl | apply Agree.then (k := State.wr_ag _ _ _) | apply Agree.then (k := State.putBit_ag _ _ _ _) | apply Agree.then (k := State.setCan_ag _ _ _) | decide | split)

theorem State.canJudge_ag (s : State) (c : Nat) : Agree 17179894273 s (State.canJudge s c) := by
  unfold State.canJudge
  repeat' (with_reducible first | assumption | apply Agree.refl | intro _ | (extract_lets +onlyGivenNames x; first | (refine (fun (_ : Agree 17179894273 s x) => ?_ : Agree 17179894273 s x → _) ?_; clear_value x) | (refine (fun (_ : Agree 17179894273 s x.1) => ?_ : Agree 17179894273 s x.1 → _) ?_; clear_value x) | clear_value x) | subst x | apply Agree.ite | apply Agree.then (k := State.put_ag _ _ _ _ _) | apply Agree.then (k := State.putBit_ag _ _ _ _) | apply Agree.then (k := State.setCan_ag _ _ _) | apply Agree.then (k := State.canFlag_ag _ _ _) | apply Agree.then (k := State.canLogState_ag _ _) | apply Agree.then (k := State.moveObjs_ag _ _ _ _) | decide | split)

theorem State.tecAdd_ag (s : State) (c n : Nat) : Agree 1 s (State.tecAdd s c n) := by
  unfold State.tecAdd
  repeat' (with_reducible first | assumption | apply Agree.refl | intro _ | apply Agree.ite | apply Agree.then (k := State.count_ag _ _ _ _ _) | decide | split)

theorem State.recAdd_ag (s : State) (c n : Nat) : Agree 1 s (State.recAdd s c n) := by
  unfold State.recAdd
  repeat' (with_reducible first | assumption | apply Agree.refl | intro _ | apply Agree.ite | apply Agree.then (k := State.count_ag _ _ _ _ _) | decide | split)

theorem State.recDown_ag (s : State) (c : Nat) : Agree 562949953421313 s (State.recDown s c) := by
  unfold State.recDown
  repeat' (with_reducible first | assumption | apply Agree.refl | intro _ | (extract_lets +onlyGivenNames x; first | (refine (fun (_ : Agree 562949953421313 s x) => ?_ : Agree 562949953421313 s x → _) ?_; clear_value x) | (refine (fun (_ : Agree 562949953421313 s x.1) => ?_ : Agree 562949953421313 s x.1 → _) ?_; clear_value x) | clear_value x) | subst x | apply Agree.ite | apply Agree.then (k := State.put_ag _ _ _ _ _) | apply Agree.then (k := State.drew_ag _) | decide | split)

theorem State.canInitNow_ag (s : State) (c : Nat) : Agree 17179869185 s (State.canInitNow s c) := by
  unfold State.canInitNow
  repeat' (with_reducible first | assumption | apply Agree.refl | intro _ | (extract_lets +onlyGivenNames x; first | (refine (fun (_ : Agree 17179869185 s x) => ?_ : Agree 17179869185 s x → _) ?_; clear_value x) | (refine (fun (_ : Agree 17179869185 s x.1) => ?_ : Agree 17179869185 s x.1 → _) ?_; clear_value x) | clear_value x) | subst x | apply Agree.then (k := State.wr_ag _ _ _) | apply Agree.then (k := State.put_ag _ _ _ _ _) | apply Agree.then (k := State.putBit_ag _ _ _ _) | apply Agree.then (k := State.setCan_ag _ _ _) | decide)

theorem State.canCtrlWrite_ag (s : State) (c : Nat) (v : Word) : Agree 17179894273 s (State.canCtrlWrite s c v) := by
  unfold State.canCtrlWrite
  repeat' (with_reducible first | assumption | apply Agree.refl | intro _ | (extract_lets +onlyGivenNames x; first | (refine (fun (_ : Agree 17179894273 s x) => ?_ : Agree 17179894273 s x → _) ?_; clear_value x) | (refine (fun (_ : Agree 17179894273 s x.1) => ?_ : Agree 17179894273 s x.1 → _) ?_; clear_value x) | clear_value x) | subst x | apply Agree.ite | apply Agree.then (k := State.wr_ag _ _ _) | apply Agree.then (k := State.putBit_ag _ _ _ _) | apply Agree.then (k := State.setCan_ag _ _ _) | apply Agree.then (k := State.canDeny_ag _ _ _ _) | apply Agree.then (k := State.canDenyFree_ag _ _ _) | apply Agree.then (k := State.canInitNow_ag _ _) | decide | split)

theorem execCanInitSet_ag (r : Req) (c : Fin 4) (v : Word) (s : State) : ∀ t1, execCanInitSet r c v s = .next t1 → Agree 17179894273 s t1 := by
  intro t1 h
  obtain rfl := Host.Outcome.next.inj h
  repeat' (with_reducible first | assumption | apply Agree.refl | intro _ | apply Agree.ite | apply Agree.then (k := State.canCtrlWrite_ag _ _ _) | decide)

theorem execCanInitClear_ag (r : Req) (c : Fin 4) (v : Word) (s : State) : ∀ t1, execCanInitClear r c v s = .next t1 → Agree 17179894273 s t1 := by
  intro t1 h
  obtain rfl := Host.Outcome.next.inj h
  repeat' (with_reducible first | assumption | apply Agree.refl | intro _ | apply Agree.ite | apply Agree.then (k := State.canCtrlWrite_ag _ _ _) | decide)

theorem State.canInitApply_ag (s : State) (c : Nat) : Agree 17179869185 s (State.canInitApply s c) := by
  unfold State.canInitApply
  repeat' (with_reducible first | assumption | apply Agree.refl | intro _ | apply Agree.ite | apply Agree.then (k := State.canInitNow_ag _ _) | decide | split)

theorem execCanInitApply_ag (c : Fin 4) (s : State) : ∀ t1, execCanInitApply c s = .next t1 → Agree 17179869185 s t1 := by
  intro t1 h
  obtain rfl := Host.Outcome.next.inj h
  repeat' (with_reducible first | assumption | apply Agree.refl | intro _ | apply Agree.then (k := State.canInitApply_ag _ _) | decide)

theorem State.canJoin_ag (s : State) (c : Nat) : Agree 17179869185 s (State.canJoin s c) := by
  unfold State.canJoin
  repeat' (with_reducible first | assumption | apply Agree.refl | intro _ | (extract_lets +onlyGivenNames x; first | (refine (fun (_ : Agree 17179869185 s x) => ?_ : Agree 17179869185 s x → _) ?_; clear_value x) | (refine (fun (_ : Agree 17179869185 s x.1) => ?_ : Agree 17179869185 s x.1 → _) ?_; clear_value x) | clear_value x) | subst x | apply Agree.ite | apply Agree.whenI | apply Agree.then (k := State.put_ag _ _ _ _ _) | apply Agree.then (k := State.setCan_ag _ _ _) | decide | split)

theorem execCanBusJoin_ag (c : Fin 4) (s : State) : ∀ t1, execCanBusJoin c s = .next t1 → Agree 17179869185 s t1 := by
  intro t1 h
  obtain rfl := Host.Outcome.next.inj h
  repeat' (with_reducible first | assumption | apply Agree.refl | intro _ | apply Agree.then (k := State.canJoin_ag _ _) | decide)

theorem State.canTimingWrite_ag (s : State) (c off : Nat) (v : Word) : Agree 25089 s (State.canTimingWrite s c off v) := by
  unfold State.canTimingWrite
  repeat' (with_reducible first | assumption | apply Agree.refl | intro _ | apply Agree.ite | apply Agree.then (k := State.regWrite_ag _ _ _) | apply Agree.then (k := State.canDeny_ag _ _ _ _) | decide | split)

theorem State.canCancel_ag (s : State) (c m : Nat) (sofPassed : Bool) : Agree 17179869185 s (State.canCancel s c m sofPassed) := by
  unfold State.canCancel
  repeat' (with_reducible first | assumption | apply Agree.refl | intro _ | apply Agree.ite | apply Agree.then (k := State.setCan_ag _ _ _) | apply Agree.then (k := State.setObj_ag _ _ _ _) | apply Agree.then (k := State.canEndFrame_ag _ _) | decide | split)

theorem State.canOcmd_ag (s : State) (r : Req) (c b op : Nat) (sofPassed : Bool) : Agree 17179894273 s (State.canOcmd s r c b op sofPassed) := by
  unfold State.canOcmd
  repeat' (with_reducible first | assumption | apply Agree.refl | intro _ | (extract_lets +onlyGivenNames x; first | (refine (fun (_ : Agree 17179894273 s x) => ?_ : Agree 17179894273 s x → _) ?_; clear_value x) | (refine (fun (_ : Agree 17179894273 s x.1) => ?_ : Agree 17179894273 s x.1 → _) ?_; clear_value x) | clear_value x) | subst x | apply Agree.ite | apply Agree.then (k := State.putBit_ag _ _ _ _) | apply Agree.then (k := State.canDeny_ag _ _ _ _) | apply Agree.then (k := State.setNew_ag _ _ _ _) | apply Agree.then (k := State.canQueue_ag _ _ _) | apply Agree.then (k := State.canCancel_ag _ _ _ _) | decide | split)

theorem execCanOcmdQueue_ag (r : Req) (c : Fin 4) (s : State) : ∀ t1, execCanOcmdQueue r c s = .next t1 → Agree 17179894273 s t1 := by
  intro t1 h
  obtain rfl := Host.Outcome.next.inj h
  repeat' (with_reducible first | assumption | apply Agree.refl | intro _ | apply Agree.ite | apply Agree.then (k := State.canOcmd_ag _ _ _ _ _ _) | decide)

theorem execCanOcmdCancel_ag (r : Req) (c : Fin 4) (sofPassed : Bool) (s : State) : ∀ t1, execCanOcmdCancel r c sofPassed s = .next t1 → Agree 17179894273 s t1 := by
  intro t1 h
  obtain rfl := Host.Outcome.next.inj h
  repeat' (with_reducible first | assumption | apply Agree.refl | intro _ | apply Agree.ite | apply Agree.then (k := State.canOcmd_ag _ _ _ _ _ _) | decide)

theorem execCanOcmdClearNew_ag (r : Req) (c : Fin 4) (s : State) : ∀ t1, execCanOcmdClearNew r c s = .next t1 → Agree 17179894273 s t1 := by
  intro t1 h
  obtain rfl := Host.Outcome.next.inj h
  repeat' (with_reducible first | assumption | apply Agree.refl | intro _ | apply Agree.ite | apply Agree.then (k := State.canOcmd_ag _ _ _ _ _ _) | decide)

theorem State.canOwinWrite_ag (s : State) (r : Req) (c b w : Nat) (v : Word) : Agree 17179894273 s (State.canOwinWrite s r c b w v) := by
  unfold State.canOwinWrite
  repeat' (with_reducible first | assumption | apply Agree.refl | intro _ | (extract_lets +onlyGivenNames x; first | (refine (fun (_ : Agree 17179894273 s x) => ?_ : Agree 17179894273 s x → _) ?_; clear_value x) | (refine (fun (_ : Agree 17179894273 s x.1) => ?_ : Agree 17179894273 s x.1 → _) ?_; clear_value x) | clear_value x) | subst x | apply Agree.ite | apply Agree.whenI | apply Agree.then (k := State.wr_ag _ _ _) | apply Agree.then (k := State.canDeny_ag _ _ _ _) | apply Agree.then (k := State.canDenyFree_ag _ _ _) | apply Agree.then (k := State.setObj_ag _ _ _ _) | apply Agree.then (k := State.objData_ag _ _ _ _ _) | decide | split)

theorem execCanOwinWrite_ag (r : Req) (c : Fin 4) (w : Fin 24) (v : Word) (s : State) : ∀ t1, execCanOwinWrite r c w v s = .next t1 → Agree 17179894273 s t1 := by
  intro t1 h
  obtain rfl := Host.Outcome.next.inj h
  repeat' (with_reducible first | assumption | apply Agree.refl | intro _ | apply Agree.ite | apply Agree.then (k := State.canOwinWrite_ag _ _ _ _ _ _) | decide)

theorem State.canW3Read_ag (s : State) (r : Req) (c b : Nat) : Agree 17 s (State.canW3Read s r c b) := by
  unfold State.canW3Read
  repeat' (with_reducible first | assumption | apply Agree.refl | intro _ | (extract_lets +onlyGivenNames x; first | (refine (fun (_ : Agree 17 s x) => ?_ : Agree 17 s x → _) ?_; clear_value x) | (refine (fun (_ : Agree 17 s x.1) => ?_ : Agree 17 s x.1 → _) ?_; clear_value x) | clear_value x) | subst x | apply Agree.foldl | apply Agree.then (k := State.wr_ag _ _ _) | apply Agree.then (k := State.answer_ag _ _ _) | decide)

theorem execCanOwinW3Read_ag (r : Req) (c : Fin 4) (s : State) : ∀ t1, execCanOwinW3Read r c s = .next t1 → Agree 17 s t1 := by
  intro t1 h
  obtain rfl := Host.Outcome.next.inj h
  repeat' (with_reducible first | assumption | apply Agree.refl | intro _ | apply Agree.ite | apply Agree.then (k := State.canW3Read_ag _ _ _ _) | decide)

theorem State.canRecover_ag (s : State) (c : Nat) : Agree 17179894273 s (State.canRecover s c) := by
  unfold State.canRecover
  repeat' (with_reducible first | assumption | apply Agree.refl | intro _ | apply Agree.ite | apply Agree.then (k := State.put_ag _ _ _ _ _) | apply Agree.then (k := State.setCan_ag _ _ _) | apply Agree.then (k := State.canDeny_ag _ _ _ _) | decide | split)

theorem execCanBusoffRecover_ag (r : Req) (c : Fin 4) (s : State) : ∀ t1, execCanBusoffRecover r c s = .next t1 → Agree 17179894273 s t1 := by
  intro t1 h
  obtain rfl := Host.Outcome.next.inj h
  repeat' (with_reducible first | assumption | apply Agree.refl | intro _ | apply Agree.ite | apply Agree.then (k := State.canRecover_ag _ _) | decide)

theorem State.canRecovered_ag (s : State) (c : Nat) : Agree 57857 s (State.canRecovered s c) := by
  unfold State.canRecovered
  repeat' (with_reducible first | assumption | apply Agree.refl | intro _ | (extract_lets +onlyGivenNames x; first | (refine (fun (_ : Agree 57857 s x) => ?_ : Agree 57857 s x → _) ?_; clear_value x) | (refine (fun (_ : Agree 57857 s x.1) => ?_ : Agree 57857 s x.1 → _) ?_; clear_value x) | clear_value x) | subst x | apply Agree.ite | apply Agree.then (k := State.wr_ag _ _ _) | apply Agree.then (k := State.put_ag _ _ _ _ _) | apply Agree.then (k := State.putBit_ag _ _ _ _) | apply Agree.then (k := State.reachCnt_ag _ _) | apply Agree.then (k := State.canLogState_ag _ _) | apply Agree.then (k := State.moveObjs_ag _ _ _ _) | decide | split)

theorem execCanRecoveryDone_ag (c : Fin 4) (s : State) : ∀ t1, execCanRecoveryDone c s = .next t1 → Agree 57857 s t1 := by
  intro t1 h
  obtain rfl := Host.Outcome.next.inj h
  repeat' (with_reducible first | assumption | apply Agree.refl | intro _ | apply Agree.then (k := State.canRecovered_ag _ _) | decide)

theorem State.canSelect_ag (s : State) (c : Nat) : Agree 17179869185 s (State.canSelect s c) := by
  unfold State.canSelect
  repeat' (with_reducible first | assumption | apply Agree.refl | intro _ | (extract_lets +onlyGivenNames x; first | (refine (fun (_ : Agree 17179869185 s x) => ?_ : Agree 17179869185 s x → _) ?_; clear_value x) | (refine (fun (_ : Agree 17179869185 s x.1) => ?_ : Agree 17179869185 s x.1 → _) ?_; clear_value x) | clear_value x) | subst x | apply Agree.ite | apply Agree.then (k := State.putBit_ag _ _ _ _) | apply Agree.then (k := State.setCan_ag _ _ _) | apply Agree.then (k := State.canIdle_ag _ _) | apply Agree.then (k := State.setObj_ag _ _ _ _) | decide | split)

theorem execCanFrameSelect_ag (c : Fin 4) (s : State) : ∀ t1, execCanFrameSelect c s = .next t1 → Agree 17179869185 s t1 := by
  intro t1 h
  obtain rfl := Host.Outcome.next.inj h
  repeat' (with_reducible first | assumption | apply Agree.refl | intro _ | apply Agree.then (k := State.canSelect_ag _ _) | decide)

theorem State.tecLost_ag (s : State) (c : Nat) (why : CanErr) (x : CanLoss) : Agree 1 s (State.tecLost s c why x) := by
  unfold State.tecLost
  repeat' (with_reducible first | assumption | apply Agree.refl | intro _ | apply Agree.ite | apply Agree.then (k := State.tecAdd_ag _ _ _) | decide | split)

theorem State.canTdcv_ag (s : State) (c : Nat) (loop : Option (BitVec 7)) : Agree 1 s (State.canTdcv s c loop) := by
  unfold State.canTdcv
  repeat' (with_reducible first | assumption | apply Agree.refl | intro _ | apply Agree.ite | apply Agree.whenI | apply Agree.then (k := State.put_ag _ _ _ _ _) | decide | split)

theorem State.canLost_ag (s : State) (c : Nat) (why : CanErr) (x : CanLoss) : Agree 17179894273 s (State.canLost s c why x) := by
  unfold State.canLost
  repeat' (with_reducible first | assumption | apply Agree.refl | intro _ | (extract_lets +onlyGivenNames x; first | (refine (fun (_ : Agree 17179894273 s x) => ?_ : Agree 17179894273 s x → _) ?_; clear_value x) | (refine (fun (_ : Agree 17179894273 s x.1) => ?_ : Agree 17179894273 s x.1 → _) ?_; clear_value x) | clear_value x) | subst x | apply Agree.ite | apply Agree.then (k := State.put_ag _ _ _ _ _) | apply Agree.then (k := State.setCan_ag _ _ _) | apply Agree.then (k := State.setObj_ag _ _ _ _) | apply Agree.then (k := State.canErrCount_ag _ _ _) | apply Agree.then (k := State.objFail_ag _ _ _ _) | apply Agree.then (k := State.canEndFrame_ag _ _) | apply Agree.then (k := State.canJudge_ag _ _) | apply Agree.then (k := State.tecLost_ag _ _ _ _) | apply Agree.then (k := State.canTdcv_ag _ _ _) | decide | split)

theorem execCanTxLost_ag (c : Fin 4) (why : CanErr) (noCount : CanLoss) (s : State) : ∀ t1, execCanTxLost c why noCount s = .next t1 → Agree 17179894273 s t1 := by
  intro t1 h
  obtain rfl := Host.Outcome.next.inj h
  repeat' (with_reducible first | assumption | apply Agree.refl | intro _ | apply Agree.then (k := State.canLost_ag _ _ _ _) | decide)

theorem State.canDone_ag (s : State) (c sec ns loop : Nat) : Agree 17179927041 s (State.canDone s c sec ns loop) := by
  unfold State.canDone
  repeat' (with_reducible first | assumption | apply Agree.refl | intro _ | (extract_lets +onlyGivenNames x; first | (refine (fun (_ : Agree 17179927041 s x) => ?_ : Agree 17179927041 s x → _) ?_; clear_value x) | (refine (fun (_ : Agree 17179927041 s x.1) => ?_ : Agree 17179927041 s x.1 → _) ?_; clear_value x) | clear_value x) | subst x | apply Agree.ite | apply Agree.then (k := State.put_ag _ _ _ _ _) | apply Agree.then (k := State.putBit_ag _ _ _ _) | apply Agree.then (k := State.setCan_ag _ _ _) | apply Agree.then (k := State.reachTime_ag _ _) | apply Agree.then (k := State.canFlag_ag _ _ _) | apply Agree.then (k := State.setObj_ag _ _ _ _) | apply Agree.then (k := State.objFormat_ag _ _ _ _) | apply Agree.then (k := State.objStamp_ag _ _ _ _ _) | apply Agree.then (k := State.canEndFrame_ag _ _) | apply Agree.then (k := State.canJudge_ag _ _) | apply Agree.then (k := State.canLost_ag _ _ _ _) | decide | split)

theorem execCanFrameTxDone_ag (c : Fin 4) (sec : Nat) (ns : Fin 1000000000) (loop : BitVec 7) (s : State) : ∀ t1, execCanFrameTxDone c sec ns loop s = .next t1 → Agree 17179927041 s t1 := by
  intro t1 h
  obtain rfl := Host.Outcome.next.inj h
  repeat' (with_reducible first | assumption | apply Agree.refl | intro _ | apply Agree.then (k := State.canDone_ag _ _ _ _ _) | decide)

theorem State.canStore_ag (s : State) (c m : Nat) (f : CanFrame) (sec ns : Nat) : Agree 17179869697 s (State.canStore s c m f sec ns) := by
  unfold State.canStore
  repeat' (with_reducible first | assumption | apply Agree.refl | intro _ | (extract_lets +onlyGivenNames x; first | (refine (fun (_ : Agree 17179869697 s x) => ?_ : Agree 17179869697 s x → _) ?_; clear_value x) | (refine (fun (_ : Agree 17179869697 s x.1) => ?_ : Agree 17179869697 s x.1 → _) ?_; clear_value x) | clear_value x) | subst x | apply Agree.ite | apply Agree.foldl | apply Agree.then (k := State.wr_ag _ _ _) | apply Agree.then (k := State.putBit_ag _ _ _ _) | apply Agree.then (k := State.setCan_ag _ _ _) | apply Agree.then (k := State.canFlag_ag _ _ _) | apply Agree.then (k := State.setNew_ag _ _ _ _) | apply Agree.then (k := State.objFormat_ag _ _ _ _) | apply Agree.then (k := State.objStamp_ag _ _ _ _ _) | decide | split)

theorem State.canRxLost_ag (s : State) (c : Nat) (f : CanFrame) : Agree 25089 s (State.canRxLost s c f) := by
  unfold State.canRxLost
  repeat' (with_reducible first | assumption | apply Agree.refl | intro _ | (extract_lets +onlyGivenNames x; first | (refine (fun (_ : Agree 25089 s x) => ?_ : Agree 25089 s x → _) ?_; clear_value x) | (refine (fun (_ : Agree 25089 s x.1) => ?_ : Agree 25089 s x.1 → _) ?_; clear_value x) | clear_value x) | subst x | apply Agree.then (k := State.count_ag _ _ _ _ _) | apply Agree.then (k := State.canFlag_ag _ _ _) | apply Agree.then (k := State.canLog_ag _ _ _ _ _) | decide)

theorem State.recError_ag (s : State) (c : Nat) (why : CanErr) (heavy : Bool) : Agree 17179894273 s (State.recError s c why heavy) := by
  unfold State.recError
  repeat' (with_reducible first | assumption | apply Agree.refl | intro _ | apply Agree.ite | apply Agree.then (k := State.canErrCount_ag _ _ _) | apply Agree.then (k := State.canJudge_ag _ _) | apply Agree.then (k := State.recAdd_ag _ _ _) | decide | split)

theorem State.canRxError_ag (s : State) (c : Nat) (why : CanErr) (heavy : Bool) : Agree 17179894273 s (State.canRxError s c why heavy) := by
  unfold State.canRxError
  repeat' (with_reducible first | assumption | apply Agree.refl | intro _ | (extract_lets +onlyGivenNames x; first | (refine (fun (_ : Agree 17179894273 s x) => ?_ : Agree 17179894273 s x → _) ?_; clear_value x) | (refine (fun (_ : Agree 17179894273 s x.1) => ?_ : Agree 17179894273 s x.1 → _) ?_; clear_value x) | clear_value x) | subst x | apply Agree.ite | apply Agree.then (k := State.setCan_ag _ _ _) | apply Agree.then (k := State.canErrCount_ag _ _ _) | apply Agree.then (k := State.recError_ag _ _ _ _) | decide | split)

theorem execCanRxBusError_ag (c : Fin 4) (why : CanErr) (heavy : Bool) (s : State) : ∀ t1, execCanRxBusError c why heavy s = .next t1 → Agree 17179894273 s t1 := by
  intro t1 h
  obtain rfl := Host.Outcome.next.inj h
  repeat' (with_reducible first | assumption | apply Agree.refl | intro _ | apply Agree.then (k := State.canRxError_ag _ _ _ _) | decide)

theorem State.canRx_ag (s : State) (c : Nat) (f : CanFrame) (sec ns : Nat) : Agree 562967133348353 s (State.canRx s c f sec ns) := by
  unfold State.canRx
  repeat' (with_reducible first | assumption | apply Agree.refl | intro _ | (extract_lets +onlyGivenNames x; first | (refine (fun (_ : Agree 562967133348353 s x) => ?_ : Agree 562967133348353 s x → _) ?_; clear_value x) | (refine (fun (_ : Agree 562967133348353 s x.1) => ?_ : Agree 562967133348353 s x.1 → _) ?_; clear_value x) | clear_value x) | subst x | apply Agree.ite | apply Agree.then (k := State.setCan_ag _ _ _) | apply Agree.then (k := State.reachTime_ag _ _) | apply Agree.then (k := State.canJudge_ag _ _) | apply Agree.then (k := State.recDown_ag _ _) | apply Agree.then (k := State.canStore_ag _ _ _ _ _ _) | apply Agree.then (k := State.canRxLost_ag _ _ _) | apply Agree.then (k := State.canRxError_ag _ _ _ _) | decide | split)

theorem execCanFrameRx_ag (c : Fin 4) (f : CanFrame) (sec : Nat) (ns : Fin 1000000000) (s : State) : ∀ t1, execCanFrameRx c f sec ns s = .next t1 → Agree 562967133348353 s t1 := by
  intro t1 h
  obtain rfl := Host.Outcome.next.inj h
  repeat' (with_reducible first | assumption | apply Agree.refl | intro _ | apply Agree.then (k := State.canRx_ag _ _ _ _ _) | decide)

theorem State.canBlockWrite_ag (s : State) (r : Req) (c off : Nat) (v : Word) : Agree 562967133315585 s (State.canBlockWrite s r c off v) := by
  unfold State.canBlockWrite
  repeat' (with_reducible first | assumption | apply Agree.refl | intro _ | (extract_lets +onlyGivenNames x; first | (refine (fun (_ : Agree 562967133315585 s x) => ?_ : Agree 562967133315585 s x → _) ?_; clear_value x) | (refine (fun (_ : Agree 562967133315585 s x.1) => ?_ : Agree 562967133315585 s x.1 → _) ?_; clear_value x) | clear_value x) | subst x | apply Agree.ite | apply Agree.then (k := State.regWrite_ag _ _ _) | apply Agree.then (k := State.drew_ag _) | apply Agree.then (k := State.canCtrlWrite_ag _ _ _) | apply Agree.then (k := State.canTimingWrite_ag _ _ _ _) | apply Agree.then (k := State.canOcmd_ag _ _ _ _ _ _) | apply Agree.then (k := State.canOwinWrite_ag _ _ _ _ _ _) | apply Agree.then (k := State.canRecover_ag _ _) | decide | split)

theorem State.canRole_ag (s : State) : Agree 1 s (State.canRole s) := by
  unfold State.canRole
  repeat' (with_reducible first | assumption | apply Agree.refl | intro _ | apply Agree.ite | apply Agree.whenI | apply Agree.foldl | apply Agree.then (k := State.putBit_ag _ _ _ _) | apply Agree.then (k := State.canIdle_ag _ _) | apply Agree.then (k := State.moveObjs_ag _ _ _ _) | decide | split)

end Sys2Proof.Machine
end

