-- ==== Sys2Proof/Laws/Frame/Links.lean ====
section
/-!
SUPPORT. Frames of the operations of Machine/Links.lean: the fields each can change, as a mask.
-/
set_option linter.unusedTactic false
set_option linter.unreachableTactic false
namespace Sys2Proof.Machine
open Sys2Proof

theorem State.linkIrq_ag (s : State) (n : Nat) : Agree 513 s (State.linkIrq s n) := by
  unfold State.linkIrq
  repeat' (with_reducible first | assumption | apply Agree.refl | intro _ | apply Agree.ite | apply Agree.then (k := State.irq_ag _ _) | decide | split)

theorem State.linkDiscard_ag (s : State) (n : Nat) (crc : Bool) : Agree 26113 s (State.linkDiscard s n crc) := by
  unfold State.linkDiscard
  repeat' (with_reducible first | assumption | apply Agree.refl | intro _ | (extract_lets +onlyGivenNames x; first | (refine (fun (_ : Agree 26113 s x) => ?_ : Agree 26113 s x → _) ?_; clear_value x) | (refine (fun (_ : Agree 26113 s x.1) => ?_ : Agree 26113 s x.1 → _) ?_; clear_value x) | clear_value x) | subst x | apply Agree.ite | apply Agree.then (k := State.putBit_ag _ _ _ _) | apply Agree.then (k := State.count_ag _ _ _ _ _) | apply Agree.then (k := State.setLink_ag _ _ _) | apply Agree.then (k := State.log_ag _ _ _ _ _) | apply Agree.then (k := State.linkIrq_ag _ _) | decide | split)

theorem State.linkDown_ag (s : State) (n : Nat) : Agree 26113 s (State.linkDown s n) := by
  unfold State.linkDown
  repeat' (with_reducible first | assumption | apply Agree.refl | intro _ | (extract_lets +onlyGivenNames x; first | (refine (fun (_ : Agree 26113 s x) => ?_ : Agree 26113 s x → _) ?_; clear_value x) | (refine (fun (_ : Agree 26113 s x.1) => ?_ : Agree 26113 s x.1 → _) ?_; clear_value x) | clear_value x) | subst x | apply Agree.then (k := State.putBit_ag _ _ _ _) | apply Agree.then (k := State.setLink_ag _ _ _) | apply Agree.then (k := State.log_ag _ _ _ _ _) | apply Agree.then (k := State.linkIrq_ag _ _) | decide)

theorem State.linkReturn_ag (s : State) (n seq : Nat) : Agree 26113 s (State.linkReturn s n seq) := by
  unfold State.linkReturn
  repeat' (with_reducible first | assumption | apply Agree.refl | intro _ | (extract_lets +onlyGivenNames x; first | (refine (fun (_ : Agree 26113 s x) => ?_ : Agree 26113 s x → _) ?_; clear_value x) | (refine (fun (_ : Agree 26113 s x.1) => ?_ : Agree 26113 s x.1 → _) ?_; clear_value x) | clear_value x) | subst x | apply Agree.then (k := State.putBit_ag _ _ _ _) | apply Agree.then (k := State.setLink_ag _ _ _) | apply Agree.then (k := State.log_ag _ _ _ _ _) | apply Agree.then (k := State.linkIrq_ag _ _) | decide)

theorem State.dieLanes_ho {m : Nat} {s t : State} {die : Nat} {f : Nat → State → State} (h : Agree m s t)
    (hf : ∀ ch u, Agree m s u → Agree m s (f ch u)) : Agree m s (t.dieLanes die f) := Agree.foldl h (fun u j hu => hf _ u hu)

theorem State.takeFrame_ag (s : State) (die : Nat) (bits : List (BitVec 16)) : Agree 2097152 s (State.takeFrame s die bits) := by
  unfold State.takeFrame
  repeat' (with_reducible first | assumption | apply Agree.refl | intro _ | apply AgreeE.ok | apply AgreeE.jump | apply AgreeE.done | apply AgreeE.trap | apply AgreeE.ite | apply Agree.then (k := State.laneMod_ag _ _ _) | apply State.dieLanes_ho | decide)

theorem State.loseFrame_ag (s : State) (die : Nat) : Agree 2097152 s (State.loseFrame s die) := by
  unfold State.loseFrame
  repeat' (with_reducible first | assumption | apply Agree.refl | intro _ | apply AgreeE.ok | apply AgreeE.jump | apply AgreeE.done | apply AgreeE.trap | apply AgreeE.ite | apply Agree.then (k := State.laneMod_ag _ _ _) | apply State.dieLanes_ho | decide)

theorem State.alignDie_ag (s : State) (die : Nat) : Agree 8796095119360 s (State.alignDie s die) := by
  unfold State.alignDie
  repeat' (with_reducible first | assumption | apply Agree.refl | intro _ | apply AgreeE.ok | apply AgreeE.jump | apply AgreeE.done | apply AgreeE.trap | apply AgreeE.ite | apply Agree.then (k := State.loseLane_ag _ _) | apply State.dieLanes_ho | decide)

theorem State.aflFrame_ag (s : State) (die seq : Nat) (crcOk : Bool) (bits : List (BitVec 16)) : Agree 8796095145473 s (State.aflFrame s die seq crcOk bits) := by
  unfold State.aflFrame
  repeat' (with_reducible first | assumption | apply Agree.refl | intro _ | (extract_lets +onlyGivenNames x; first | (refine (fun (_ : Agree 8796095145473 s x) => ?_ : Agree 8796095145473 s x → _) ?_; clear_value x) | (refine (fun (_ : Agree 8796095145473 s x.1) => ?_ : Agree 8796095145473 s x.1 → _) ?_; clear_value x) | clear_value x) | subst x | apply Agree.ite | apply AgreeE.ok | apply AgreeE.jump | apply AgreeE.done | apply AgreeE.trap | apply AgreeE.ite | apply Agree.then (k := State.setLink_ag _ _ _) | apply Agree.then (k := State.requestChain_ag _ _ _) | apply Agree.then (k := State.linkDiscard_ag _ _ _) | apply Agree.then (k := State.linkReturn_ag _ _ _) | apply State.dieLanes_ho | apply Agree.then (k := State.takeFrame_ag _ _ _) | apply Agree.then (k := State.loseFrame_ag _ _) | apply Agree.then (k := State.alignDie_ag _ _) | decide | split)

theorem execAflFrame_ag (die : Fin 2) (seq : BitVec 8) (crcOk : Bool) (bits : List (BitVec 16)) (s : State) : ∀ t1, execAflFrame die seq crcOk bits s = .next t1 → Agree 8796095145473 s t1 := by
  intro t1 h
  obtain rfl := Host.Outcome.next.inj h
  repeat' (with_reducible first | assumption | apply Agree.refl | intro _ | apply Agree.then (k := State.aflFrame_ag _ _ _ _ _) | decide)

theorem execDieLinkDown_ag (die : Fin 2) (s : State) : ∀ t1, execDieLinkDown die s = .next t1 → Agree 26113 s t1 := by
  intro t1 h
  obtain rfl := Host.Outcome.next.inj h
  repeat' (with_reducible first | assumption | apply Agree.refl | intro _ | apply Agree.ite | apply Agree.then (k := State.linkDown_ag _ _) | decide | split)

theorem State.viaError_ag (s : State) (via : Option Req) (cause : Nat) : Agree 641 s (State.viaError s via cause) := by
  unfold State.viaError
  repeat' (with_reducible first | assumption | apply Agree.refl | intro _ | apply Agree.then (k := State.indFail_ag _ _ _) | decide | split)

theorem State.mramAccess_ag (s : State) (fn : MUser) (via : Option Req) (write : Bool) (addr len : Nat) (data : Bytes) : Agree 31363 s (State.mramAccess s fn via write addr len data) := by
  unfold State.mramAccess
  repeat' (with_reducible first | assumption | apply Agree.refl | intro _ | (extract_lets +onlyGivenNames x; first | (refine (fun (_ : Agree 31363 s x) => ?_ : Agree 31363 s x → _) ?_; clear_value x) | (refine (fun (_ : Agree 31363 s x.1) => ?_ : Agree 31363 s x.1 → _) ?_; clear_value x) | clear_value x) | subst x | apply Agree.ite | apply Agree.then (k := State.setMramErr_ag _ _) | apply Agree.then (k := State.setMramOut_ag _ _) | apply Agree.then (k := State.mwr_ag _ _ _) | apply Agree.then (k := State.mramDenied_ag _ _ _) | apply Agree.then (k := State.viaError_ag _ _ _) | decide | split)

theorem execMramAccessRequest_ag (fn : MUser) (via : Option Req) (write : Bool) (addr : BitVec 26) (len : Fin 65) (data : Bytes) (s : State) : ∀ t1, execMramAccessRequest fn via write addr len data s = .next t1 → Agree 31363 s t1 := by
  intro t1 h
  obtain rfl := Host.Outcome.next.inj h
  repeat' (with_reducible first | assumption | apply Agree.refl | intro _ | apply Agree.then (k := State.mramAccess_ag _ _ _ _ _ _ _) | decide)

theorem State.mplTry_ag (s : State) (n : Nat) (f : RxFrame) : Agree 26113 s (State.mplTry s n f).1 := by
  unfold State.mplTry
  repeat' (with_reducible first | assumption | apply Agree.refl | intro _ | (extract_lets +onlyGivenNames x; first | (refine (fun (_ : Agree 26113 s x) => ?_ : Agree 26113 s x → _) ?_; clear_value x) | (refine (fun (_ : Agree 26113 s x.1) => ?_ : Agree 26113 s x.1 → _) ?_; clear_value x) | clear_value x) | subst x | apply Agree.ite | apply Agree.iteP | apply Agree.then (k := State.setLink_ag _ _ _) | apply Agree.then (k := State.linkDiscard_ag _ _ _) | apply Agree.then (k := State.linkReturn_ag _ _ _) | decide | split)

theorem State.mplEnd_ag (s : State) (b : Nat) (fn : MUser) (first second : RxFrame) : Agree 28161 s (State.mplEnd s b fn first second) := by
  unfold State.mplEnd
  repeat' (with_reducible first | assumption | apply Agree.refl | intro _ | (extract_lets +onlyGivenNames x; first | (refine (fun (_ : Agree 28161 s x) => ?_ : Agree 28161 s x → _) ?_; clear_value x) | (refine (fun (_ : Agree 28161 s x.1) => ?_ : Agree 28161 s x.1 → _) ?_; clear_value x) | clear_value x) | subst x | apply Agree.ite | apply Agree.iteP | apply Agree.then (k := State.setMramErr_ag _ _) | apply Agree.then (k := State.irq_ag _ _) | apply Agree.then (k := State.linkDown_ag _ _) | apply Agree.then (k := State.mplTry_ag _ _ _) | decide | split)

theorem execMplTransferEnd_ag (bank : Fin 8) (fn : MUser) (first second : RxFrame) (s : State) : ∀ t1, execMplTransferEnd bank fn first second s = .next t1 → Agree 28161 s t1 := by
  intro t1 h
  obtain rfl := Host.Outcome.next.inj h
  repeat' (with_reducible first | assumption | apply Agree.refl | intro _ | apply Agree.then (k := State.mplEnd_ag _ _ _ _ _) | decide)

end Sys2Proof.Machine
end

