-- ==== Sys2Proof/Laws/Frame/Fio.lean ====
section
/-!
SUPPORT. Frames of the operations of Machine/Fio.lean: the fields each can change, as a mask.
-/
set_option linter.unusedTactic false
set_option linter.unreachableTactic false
namespace Sys2Proof.Machine
open Sys2Proof

theorem State.fdMod_ag (s : State) (f : FieldDie → FieldDie) : Agree 68719476736 s (State.fdMod s f) := by
  unfold State.fdMod
  repeat' (with_reducible first | assumption | apply Agree.refl | intro _ | apply Agree.then (k := Agree.up_field_ _ _) | decide)

theorem State.fioImage_ag (s : State) : Agree 1 s (State.fioImage s) := by
  unfold State.fioImage
  repeat' (with_reducible first | assumption | apply Agree.refl | intro _ | (extract_lets +onlyGivenNames x; first | (refine (fun (_ : Agree 1 s x) => ?_ : Agree 1 s x → _) ?_; clear_value x) | (refine (fun (_ : Agree 1 s x.1) => ?_ : Agree 1 s x.1 → _) ?_; clear_value x) | clear_value x) | subst x | apply Agree.then (k := State.wr_ag _ _ _) | decide)

theorem State.fioDrive_ag (s : State) : Agree 131081 s (State.fioDrive s) := by
  unfold State.fioDrive
  repeat' (with_reducible first | assumption | apply Agree.refl | intro _ | (extract_lets +onlyGivenNames x; first | (refine (fun (_ : Agree 131081 s x) => ?_ : Agree 131081 s x → _) ?_; clear_value x) | (refine (fun (_ : Agree 131081 s x.1) => ?_ : Agree 131081 s x.1 → _) ?_; clear_value x) | clear_value x) | subst x | apply Agree.ite | apply Agree.then (k := State.settleEnded_ag _) | apply Agree.then (k := State.fioImage_ag _) | decide | split)

theorem State.claimFollow_ag (s : State) (was res : Nat) : Agree 131081 s (State.claimFollow s was res) := by
  unfold State.claimFollow
  repeat' (with_reducible first | assumption | apply Agree.refl | intro _ | apply Agree.ite | apply Agree.then (k := State.fioDrive_ag _) | decide | split)

theorem State.claimRun_ag (s : State) (r : Req) (res : Nat) : Agree 156173 s (State.claimRun s r res) := by
  unfold State.claimRun
  repeat' (with_reducible first | assumption | apply Agree.refl | intro _ | apply Agree.then (k := State.claimOp_ag _ _ _) | apply Agree.then (k := State.claimFollow_ag _ _ _) | decide)

theorem State.releaseRun_ag (s : State) (r : Req) (res : Nat) : Agree 156173 s (State.releaseRun s r res) := by
  unfold State.releaseRun
  repeat' (with_reducible first | assumption | apply Agree.refl | intro _ | apply Agree.then (k := State.releaseOp_ag _ _ _) | apply Agree.then (k := State.claimFollow_ag _ _ _) | decide)

theorem execClaimCmdClaim_ag (r : Req) (res : BitVec 16) (s : State) : ∀ t1, execClaimCmdClaim r res s = .next t1 → Agree 156173 s t1 := by
  intro t1 h
  obtain rfl := Host.Outcome.next.inj h
  repeat' (with_reducible first | assumption | apply Agree.refl | intro _ | apply Agree.ite | apply Agree.then (k := State.claimRun_ag _ _ _) | decide)

theorem execClaimCmdRelease_ag (r : Req) (res : BitVec 16) (s : State) : ∀ t1, execClaimCmdRelease r res s = .next t1 → Agree 156173 s t1 := by
  intro t1 h
  obtain rfl := Host.Outcome.next.inj h
  repeat' (with_reducible first | assumption | apply Agree.refl | intro _ | apply Agree.ite | apply Agree.then (k := State.releaseRun_ag _ _ _) | decide)

theorem State.fioRole_ag (s : State) : Agree 1 s (State.fioRole s) := by
  unfold State.fioRole
  repeat' (with_reducible first | assumption | apply Agree.refl | intro _ | apply Agree.then (k := State.putBit_ag _ _ _ _) | decide)

theorem State.fioLog_ag (s : State) (code sparam p0 p1 : Nat) : Agree 25089 s (State.fioLog s code sparam p0 p1) := by
  unfold State.fioLog
  repeat' (with_reducible first | assumption | apply Agree.refl | intro _ | apply Agree.then (k := State.irq_ag _ _) | apply Agree.then (k := State.log_ag _ _ _ _ _) | decide)

theorem State.fioDeny_ag (s : State) (sparam off cause : Nat) : Agree 25089 s (State.fioDeny s sparam off cause) := by
  unfold State.fioDeny
  repeat' (with_reducible first | assumption | apply Agree.refl | intro _ | apply Agree.then (k := State.putBit_ag _ _ _ _) | apply Agree.then (k := State.fioLog_ag _ _ _ _ _) | decide)

theorem State.fioCfgWrite_ag (s : State) (r : Req) (k : Nat) (v : Word) : Agree 137438978561 s (State.fioCfgWrite s r k v) := by
  unfold State.fioCfgWrite
  repeat' (with_reducible first | assumption | apply Agree.refl | intro _ | (extract_lets +onlyGivenNames x; first | (refine (fun (_ : Agree 137438978561 s x) => ?_ : Agree 137438978561 s x → _) ?_; clear_value x) | (refine (fun (_ : Agree 137438978561 s x.1) => ?_ : Agree 137438978561 s x.1 → _) ?_; clear_value x) | clear_value x) | subst x | apply Agree.ite | apply Agree.then (k := State.wr_ag _ _ _) | apply Agree.then (k := State.fioMod_ag _ _) | apply Agree.then (k := State.fioDeny_ag _ _ _ _) | decide | split)

theorem State.fioDrvWrite_ag (s : State) (r : Req) (hi : Bool) (v : Word) : Agree 156169 s (State.fioDrvWrite s r hi v) := by
  unfold State.fioDrvWrite
  repeat' (with_reducible first | assumption | apply Agree.refl | intro _ | (extract_lets +onlyGivenNames x; first | (refine (fun (_ : Agree 156169 s x) => ?_ : Agree 156169 s x → _) ?_; clear_value x) | (refine (fun (_ : Agree 156169 s x.1) => ?_ : Agree 156169 s x.1 → _) ?_; clear_value x) | clear_value x) | subst x | apply Agree.ite | apply Agree.foldl | apply Agree.then (k := State.putPair_ag _ _ _ _) | apply Agree.then (k := State.fioDrive_ag _) | apply Agree.then (k := State.fioDeny_ag _ _ _ _) | decide | split)

theorem execFioDrvWrite_ag (r : Req) (hi : Bool) (v : Word) (s : State) : ∀ t1, execFioDrvWrite r hi v s = .next t1 → Agree 156169 s t1 := by
  intro t1 h
  obtain rfl := Host.Outcome.next.inj h
  repeat' (with_reducible first | assumption | apply Agree.refl | intro _ | apply Agree.ite | apply Agree.then (k := State.fioDrvWrite_ag _ _ _ _) | decide)

theorem State.fioGrpBit_ag (s : State) (r : Req) (b : Nat) (v : Word) (on : Bool) (i : Nat) : Agree 25089 s (State.fioGrpBit s r b v on i) := by
  unfold State.fioGrpBit
  repeat' (with_reducible first | assumption | apply Agree.refl | intro _ | (extract_lets +onlyGivenNames x; first | (refine (fun (_ : Agree 25089 s x) => ?_ : Agree 25089 s x → _) ?_; clear_value x) | (refine (fun (_ : Agree 25089 s x.1) => ?_ : Agree 25089 s x.1 → _) ?_; clear_value x) | clear_value x) | subst x | apply Agree.ite | apply Agree.then (k := State.wr_ag _ _ _) | apply Agree.then (k := State.fioDeny_ag _ _ _ _) | decide | split)

theorem State.fioGrpWrite_ag (s : State) (r : Req) (b : Nat) (v : Word) : Agree 156169 s (State.fioGrpWrite s r b v) := by
  unfold State.fioGrpWrite
  repeat' (with_reducible first | assumption | apply Agree.refl | intro _ | (extract_lets +onlyGivenNames x; first | (refine (fun (_ : Agree 156169 s x) => ?_ : Agree 156169 s x → _) ?_; clear_value x) | (refine (fun (_ : Agree 156169 s x.1) => ?_ : Agree 156169 s x.1 → _) ?_; clear_value x) | clear_value x) | subst x | apply Agree.foldl | apply Agree.then (k := State.fioDrive_ag _) | apply Agree.then (k := State.fioGrpBit_ag _ _ _ _ _ _) | decide)

theorem execFioGrpWrite_ag (r : Req) (b : Fin 6) (v : Word) (s : State) : ∀ t1, execFioGrpWrite r b v s = .next t1 → Agree 156169 s t1 := by
  intro t1 h
  obtain rfl := Host.Outcome.next.inj h
  repeat' (with_reducible first | assumption | apply Agree.refl | intro _ | apply Agree.ite | apply Agree.then (k := State.fioGrpWrite_ag _ _ _ _) | decide)

theorem State.fioLogEdge_ag (s : State) (e : FEdge) : Agree 137438978561 s (State.fioLogEdge s e) := by
  unfold State.fioLogEdge
  repeat' (with_reducible first | assumption | apply Agree.refl | intro _ | (extract_lets +onlyGivenNames x; first | (refine (fun (_ : Agree 137438978561 s x) => ?_ : Agree 137438978561 s x → _) ?_; clear_value x) | (refine (fun (_ : Agree 137438978561 s x.1) => ?_ : Agree 137438978561 s x.1 → _) ?_; clear_value x) | clear_value x) | subst x | apply Agree.ite | apply Agree.then (k := State.put_ag _ _ _ _ _) | apply Agree.then (k := State.putBit_ag _ _ _ _) | apply Agree.then (k := State.count_ag _ _ _ _ _) | apply Agree.then (k := State.fioMod_ag _ _) | apply Agree.then (k := State.irq_ag _ _) | apply Agree.then (k := State.log_ag _ _ _ _ _) | apply Agree.then (k := State.fioLog_ag _ _ _ _ _) | decide | split)

theorem State.fioTake_ag (s : State) (e : FEdge) : Agree 137438978561 s (State.fioTake s e) := by
  unfold State.fioTake
  repeat' (with_reducible first | assumption | apply Agree.refl | intro _ | (extract_lets +onlyGivenNames x; first | (refine (fun (_ : Agree 137438978561 s x) => ?_ : Agree 137438978561 s x → _) ?_; clear_value x) | (refine (fun (_ : Agree 137438978561 s x.1) => ?_ : Agree 137438978561 s x.1 → _) ?_; clear_value x) | clear_value x) | subst x | apply Agree.ite | apply Agree.then (k := State.fioMod_ag _ _) | apply Agree.then (k := State.fioLogEdge_ag _ _) | decide | split)

theorem State.fioEvtRead_ag (s : State) (r : Req) : Agree 563087392399409 s (State.fioEvtRead s r) := by
  unfold State.fioEvtRead
  repeat' (with_reducible first | assumption | apply Agree.refl | intro _ | (extract_lets +onlyGivenNames x; first | (refine (fun (_ : Agree 563087392399409 s x) => ?_ : Agree 563087392399409 s x → _) ?_; clear_value x) | (refine (fun (_ : Agree 563087392399409 s x.1) => ?_ : Agree 563087392399409 s x.1 → _) ?_; clear_value x) | clear_value x) | subst x | apply Agree.then (k := State.put_ag _ _ _ _ _) | apply Agree.then (k := State.fioMod_ag _ _) | apply Agree.then (k := State.answer_ag _ _ _) | apply Agree.then (k := State.latch_ag _ _ _ _) | apply Agree.then (k := State.log_ag _ _ _ _ _) | apply Agree.then (k := State.headTaken_ag _ _) | apply Agree.then (k := State.emptyRead_ag _ _ _) | decide | split)

theorem execFioEvtNsRead_ag (r : Req) (s : State) : ∀ t1, execFioEvtNsRead r s = .next t1 → Agree 563087392399409 s t1 := by
  intro t1 h
  obtain rfl := Host.Outcome.next.inj h
  repeat' (with_reducible first | assumption | apply Agree.refl | intro _ | apply Agree.ite | apply Agree.then (k := State.fioEvtRead_ag _ _) | decide)

theorem State.drillLow_ag (s : State) (n kind : Nat) : Agree 70368744177664 s (State.drillLow s n kind) := by
  unfold State.drillLow
  repeat' (with_reducible first | assumption | apply Agree.refl | intro _ | apply Agree.ite | apply Agree.whenI | apply Agree.then (k := State.pairMod_ag _ _) | decide)

theorem State.fioFault_ag (s : State) (n kind mv : Nat) : Agree 70368744202753 s (State.fioFault s n kind mv) := by
  unfold State.fioFault
  repeat' (with_reducible first | assumption | apply Agree.refl | intro _ | (extract_lets +onlyGivenNames x; first | (refine (fun (_ : Agree 70368744202753 s x) => ?_ : Agree 70368744202753 s x → _) ?_; clear_value x) | (refine (fun (_ : Agree 70368744202753 s x.1) => ?_ : Agree 70368744202753 s x.1 → _) ?_; clear_value x) | clear_value x) | subst x | apply Agree.ite | apply Agree.then (k := State.putBit_ag _ _ _ _) | apply Agree.then (k := State.count_ag _ _ _ _ _) | apply Agree.then (k := State.fioLog_ag _ _ _ _ _) | apply Agree.then (k := State.drillLow_ag _ _ _) | decide | split)

theorem State.fioSupply_ag (s : State) (b kind mv : Nat) : Agree 25089 s (State.fioSupply s b kind mv) := by
  unfold State.fioSupply
  repeat' (with_reducible first | assumption | apply Agree.refl | intro _ | (extract_lets +onlyGivenNames x; first | (refine (fun (_ : Agree 25089 s x) => ?_ : Agree 25089 s x → _) ?_; clear_value x) | (refine (fun (_ : Agree 25089 s x.1) => ?_ : Agree 25089 s x.1 → _) ?_; clear_value x) | clear_value x) | subst x | apply Agree.ite | apply Agree.then (k := State.putBit_ag _ _ _ _) | apply Agree.then (k := State.irq_ag _ _) | apply Agree.then (k := State.log_ag _ _ _ _ _) | decide | split)

theorem State.fieldReport_ag (s : State) (x : FieldRep) : Agree 70368744202753 s (State.fieldReport s x) := by
  unfold State.fieldReport
  repeat' (with_reducible first | assumption | apply Agree.refl | intro _ | apply Agree.ite | apply Agree.then (k := State.fioFault_ag _ _ _ _) | apply Agree.then (k := State.fioSupply_ag _ _ _ _) | decide | split)

theorem State.report_ag (s : State) (x : FieldRep) : Agree 68719476736 s (State.report s x) := by
  unfold State.report
  repeat' (with_reducible first | assumption | apply Agree.refl | intro _ | apply Agree.then (k := State.fdMod_ag _ _) | decide)

theorem State.fdSettle_ag (s : State) : Agree 68719476736 s (State.fdSettle s) := by
  unfold State.fdSettle
  repeat' (with_reducible first | assumption | apply Agree.refl | intro _ | (extract_lets +onlyGivenNames x; first | (refine (fun (_ : Agree 68719476736 s x) => ?_ : Agree 68719476736 s x → _) ?_; clear_value x) | (refine (fun (_ : Agree 68719476736 s x.1) => ?_ : Agree 68719476736 s x.1 → _) ?_; clear_value x) | clear_value x) | subst x | apply Agree.ite | apply Agree.foldl | apply Agree.then (k := State.fdMod_ag _ _) | decide | split)

theorem State.fdBlank_ag (s : State) (p : Nat → Bool) : Agree 68719476736 s (State.fdBlank s p) := by
  unfold State.fdBlank
  repeat' (with_reducible first | assumption | apply Agree.refl | intro _ | (extract_lets +onlyGivenNames x; first | (refine (fun (_ : Agree 68719476736 s x) => ?_ : Agree 68719476736 s x → _) ?_; clear_value x) | (refine (fun (_ : Agree 68719476736 s x.1) => ?_ : Agree 68719476736 s x.1 → _) ?_; clear_value x) | clear_value x) | subst x | apply Agree.ite | apply Agree.foldl | apply Agree.then (k := State.fdMod_ag _ _) | decide | split)

theorem State.fioMismatch_ag (s : State) (n : Nat) : Agree 68719509505 s (State.fioMismatch s n) := by
  unfold State.fioMismatch
  repeat' (with_reducible first | assumption | apply Agree.refl | intro _ | (extract_lets +onlyGivenNames x; first | (refine (fun (_ : Agree 68719509505 s x) => ?_ : Agree 68719509505 s x → _) ?_; clear_value x) | (refine (fun (_ : Agree 68719509505 s x.1) => ?_ : Agree 68719509505 s x.1 → _) ?_; clear_value x) | clear_value x) | subst x | apply Agree.ite | apply Agree.then (k := State.reachCnt_ag _ _) | apply Agree.then (k := State.fdMod_ag _ _) | apply Agree.then (k := State.report_ag _ _) | decide | split)

theorem execFioMismatch_ag (n : Fin 48) (s : State) : ∀ t1, execFioMismatch n s = .next t1 → Agree 68719509505 s t1 := by
  intro t1 h
  obtain rfl := Host.Outcome.next.inj h
  repeat' (with_reducible first | assumption | apply Agree.refl | intro _ | apply Agree.then (k := State.fioMismatch_ag _ _) | decide)

theorem State.fioOvercurrent_ag (s : State) (n : Nat) : Agree 68719476736 s (State.fioOvercurrent s n) := by
  unfold State.fioOvercurrent
  repeat' (with_reducible first | assumption | apply Agree.refl | intro _ | apply Agree.ite | apply Agree.then (k := State.fdMod_ag _ _) | apply Agree.then (k := State.report_ag _ _) | decide | split)

theorem execFioOvercurrent_ag (n : Fin 48) (s : State) : ∀ t1, execFioOvercurrent n s = .next t1 → Agree 68719476736 s t1 := by
  intro t1 h
  obtain rfl := Host.Outcome.next.inj h
  repeat' (with_reducible first | assumption | apply Agree.refl | intro _ | apply Agree.then (k := State.fioOvercurrent_ag _ _) | decide)

theorem State.fioThermOff_ag (s : State) (n : Nat) : Agree 68719476736 s (State.fioThermOff s n) := by
  unfold State.fioThermOff
  repeat' (with_reducible first | assumption | apply Agree.refl | intro _ | apply Agree.ite | apply Agree.then (k := State.fdMod_ag _ _) | apply Agree.then (k := State.report_ag _ _) | apply Agree.then (k := State.fdSettle_ag _) | decide | split)

theorem execFioThermalOff_ag (n : Fin 48) (s : State) : ∀ t1, execFioThermalOff n s = .next t1 → Agree 68719476736 s t1 := by
  intro t1 h
  obtain rfl := Host.Outcome.next.inj h
  repeat' (with_reducible first | assumption | apply Agree.refl | intro _ | apply Agree.then (k := State.fioThermOff_ag _ _) | decide)

theorem State.fioThermOn_ag (s : State) (n : Nat) : Agree 68719476736 s (State.fioThermOn s n) := by
  unfold State.fioThermOn
  repeat' (with_reducible first | assumption | apply Agree.refl | intro _ | apply Agree.ite | apply Agree.then (k := State.fdMod_ag _ _) | apply Agree.then (k := State.fdSettle_ag _) | apply Agree.then (k := State.fdBlank_ag _ _) | decide | split)

theorem execFioThermalOn_ag (n : Fin 48) (s : State) : ∀ t1, execFioThermalOn n s = .next t1 → Agree 68719476736 s t1 := by
  intro t1 h
  obtain rfl := Host.Outcome.next.inj h
  repeat' (with_reducible first | assumption | apply Agree.refl | intro _ | apply Agree.then (k := State.fioThermOn_ag _ _) | decide)

theorem State.vfield_ag (s : State) (b kind mv : Nat) : Agree 68719476736 s (State.vfield s b kind mv) := by
  unfold State.vfield
  repeat' (with_reducible first | assumption | apply Agree.refl | intro _ | (extract_lets +onlyGivenNames x; first | (refine (fun (_ : Agree 68719476736 s x) => ?_ : Agree 68719476736 s x → _) ?_; clear_value x) | (refine (fun (_ : Agree 68719476736 s x.1) => ?_ : Agree 68719476736 s x.1 → _) ?_; clear_value x) | clear_value x) | subst x | apply Agree.ite | apply Agree.then (k := State.fdMod_ag _ _) | apply Agree.then (k := State.report_ag _ _) | apply Agree.then (k := State.fdSettle_ag _) | apply Agree.then (k := State.fdBlank_ag _ _) | decide | split)

theorem execVfieldWarn_ag (b : Fin 6) (mv : BitVec 16) (s : State) : ∀ t1, execVfieldWarn b mv s = .next t1 → Agree 68719476736 s t1 := by
  intro t1 h
  obtain rfl := Host.Outcome.next.inj h
  repeat' (with_reducible first | assumption | apply Agree.refl | intro _ | apply Agree.then (k := State.vfield_ag _ _ _ _) | decide)

theorem execVfieldWarnClear_ag (b : Fin 6) (mv : BitVec 16) (s : State) : ∀ t1, execVfieldWarnClear b mv s = .next t1 → Agree 68719476736 s t1 := by
  intro t1 h
  obtain rfl := Host.Outcome.next.inj h
  repeat' (with_reducible first | assumption | apply Agree.refl | intro _ | apply Agree.then (k := State.vfield_ag _ _ _ _) | decide)

theorem execVfieldUvlo_ag (b : Fin 6) (mv : BitVec 16) (s : State) : ∀ t1, execVfieldUvlo b mv s = .next t1 → Agree 68719476736 s t1 := by
  intro t1 h
  obtain rfl := Host.Outcome.next.inj h
  repeat' (with_reducible first | assumption | apply Agree.refl | intro _ | apply Agree.then (k := State.vfield_ag _ _ _ _) | decide)

theorem execVfieldUvloRecover_ag (b : Fin 6) (mv : BitVec 16) (s : State) : ∀ t1, execVfieldUvloRecover b mv s = .next t1 → Agree 68719476736 s t1 := by
  intro t1 h
  obtain rfl := Host.Outcome.next.inj h
  repeat' (with_reducible first | assumption | apply Agree.refl | intro _ | apply Agree.then (k := State.vfield_ag _ _ _ _) | decide)

theorem State.drifted_ag (s : State) : Agree 563018672898048 s (State.drifted s) := by
  unfold State.drifted
  repeat' (with_reducible first | assumption | apply Agree.refl | intro _ | (extract_lets +onlyGivenNames x; first | (refine (fun (_ : Agree 563018672898048 s x) => ?_ : Agree 563018672898048 s x → _) ?_; clear_value x) | (refine (fun (_ : Agree 563018672898048 s x.1) => ?_ : Agree 563018672898048 s x.1 → _) ?_; clear_value x) | clear_value x) | subst x | apply Agree.ite | apply Agree.then (k := State.drew_ag _) | apply Agree.then (k := State.fdMod_ag _ _) | decide | split)

theorem State.rawEdge_ag (s : State) (n : Nat) (on : Bool) (t : Nat) : Agree 563018672898048 s (State.rawEdge s n on t) := by
  unfold State.rawEdge
  repeat' (with_reducible first | assumption | apply Agree.refl | intro _ | (extract_lets +onlyGivenNames x; first | (refine (fun (_ : Agree 563018672898048 s x) => ?_ : Agree 563018672898048 s x → _) ?_; clear_value x) | (refine (fun (_ : Agree 563018672898048 s x.1) => ?_ : Agree 563018672898048 s x.1 → _) ?_; clear_value x) | clear_value x) | subst x | apply Agree.ite | apply Agree.iteP | apply Agree.then (k := State.fdMod_ag _ _) | apply Agree.then (k := State.drifted_ag _) | decide | split)

theorem State.fieldOk_ag (s : State) (on : Bool) : Agree 70437463654401 s (State.fieldOk s on) := by
  unfold State.fieldOk
  repeat' (with_reducible first | assumption | apply Agree.refl | intro _ | (extract_lets +onlyGivenNames x; first | (refine (fun (_ : Agree 70437463654401 s x) => ?_ : Agree 70437463654401 s x → _) ?_; clear_value x) | (refine (fun (_ : Agree 70437463654401 s x.1) => ?_ : Agree 70437463654401 s x.1 → _) ?_; clear_value x) | clear_value x) | subst x | apply Agree.ite | apply Agree.whenI | apply Agree.then (k := State.putBit_ag _ _ _ _) | apply Agree.then (k := State.pairMod_ag _ _) | apply Agree.then (k := State.fdMod_ag _ _) | decide)

theorem State.fieldStop_ag (s : State) : Agree 70437463654401 s (State.fieldStop s) := by
  unfold State.fieldStop
  repeat' (with_reducible first | assumption | apply Agree.refl | intro _ | apply Agree.ite | apply Agree.foldl | apply Agree.then (k := State.fdMod_ag _ _) | apply Agree.then (k := State.fieldOk_ag _ _) | decide | split)

theorem execFieldLogicStop_ag (s : State) : ∀ t1, execFieldLogicStop s = .next t1 → Agree 70437463654401 s t1 := by
  intro t1 h
  obtain rfl := Host.Outcome.next.inj h
  repeat' (with_reducible first | assumption | apply Agree.refl | intro _ | apply Agree.then (k := State.fieldStop_ag _) | decide)

theorem State.fieldStart_ag (s : State) (mv : Nat) : Agree 70437463654401 s (State.fieldStart s mv) := by
  unfold State.fieldStart
  repeat' (with_reducible first | assumption | apply Agree.refl | intro _ | apply Agree.ite | apply Agree.then (k := State.fdMod_ag _ _) | apply Agree.then (k := State.fieldOk_ag _ _) | decide | split)

theorem execFieldLogicStart_ag (mv : BitVec 16) (s : State) : ∀ t1, execFieldLogicStart mv s = .next t1 → Agree 70437463654401 s t1 := by
  intro t1 h
  obtain rfl := Host.Outcome.next.inj h
  repeat' (with_reducible first | assumption | apply Agree.refl | intro _ | apply Agree.then (k := State.fieldStart_ag _ _) | decide)

theorem State.fieldSilence_ag (s : State) : Agree 70437463654401 s (State.fieldSilence s) := by
  unfold State.fieldSilence
  repeat' (with_reducible first | assumption | apply Agree.refl | intro _ | apply Agree.ite | apply Agree.then (k := State.fdMod_ag _ _) | apply Agree.then (k := State.fieldOk_ag _ _) | decide | split)

theorem execFieldSilence_ag (s : State) : ∀ t1, execFieldSilence s = .next t1 → Agree 70437463654401 s t1 := by
  intro t1 h
  obtain rfl := Host.Outcome.next.inj h
  repeat' (with_reducible first | assumption | apply Agree.refl | intro _ | apply Agree.then (k := State.fieldSilence_ag _) | decide)

theorem State.fieldApply_ag (s : State) : Agree 70574902607873 s (State.fieldApply s) := by
  unfold State.fieldApply
  repeat' (with_reducible first | assumption | apply Agree.refl | intro _ | (extract_lets +onlyGivenNames x; first | (refine (fun (_ : Agree 70574902607873 s x) => ?_ : Agree 70574902607873 s x → _) ?_; clear_value x) | (refine (fun (_ : Agree 70574902607873 s x.1) => ?_ : Agree 70574902607873 s x.1 → _) ?_; clear_value x) | clear_value x) | subst x | apply Agree.ite | apply Agree.foldl | apply Agree.then (k := State.fioMod_ag _ _) | apply Agree.then (k := State.fdMod_ag _ _) | apply Agree.then (k := State.fdSettle_ag _) | apply Agree.then (k := State.fdBlank_ag _ _) | apply Agree.then (k := State.fieldOk_ag _ _) | decide | split)

theorem State.frameToField_ag (s : State) (seq : Nat) (crcOk : Bool) : Agree 70574902633985 s (State.frameToField s seq crcOk) := by
  unfold State.frameToField
  repeat' (with_reducible first | assumption | apply Agree.refl | intro _ | (extract_lets +onlyGivenNames x; first | (refine (fun (_ : Agree 70574902633985 s x) => ?_ : Agree 70574902633985 s x → _) ?_; clear_value x) | (refine (fun (hf : ∀ t, Agree 70574902633985 s t → Agree 70574902633985 s (x t)) => ?_ : (∀ t, Agree 70574902633985 s t → Agree 70574902633985 s (x t)) → _) (fun _ _ => ?_); clear_value x) | (refine (fun (hg : ∀ a t, Agree 70574902633985 s t → Agree 70574902633985 s (x a t)) => ?_ : (∀ a t, Agree 70574902633985 s t → Agree 70574902633985 s (x a t)) → _) (fun _ _ _ => ?_); clear_value x) | (refine (fun (hk : ∀ a, Agree 70574902633985 s (x a)) => ?_ : (∀ a, Agree 70574902633985 s (x a)) → _) (fun _ => ?_); clear_value x) | (refine (fun (hp : ∀ t a b, Agree 70574902633985 s t → Agree 70574902633985 s (x t a b)) => ?_ : (∀ t a b, Agree 70574902633985 s t → Agree 70574902633985 s (x t a b)) → _) (fun _ _ _ _ => ?_); clear_value x) | (refine (fun (_ : Agree 70574902633985 s x.1) => ?_ : Agree 70574902633985 s x.1 → _) ?_; clear_value x) | clear_value x) | subst x | apply hf | apply hg | apply hp | apply hk | apply Agree.ite | apply Agree.then (k := State.linkDiscard_ag _ _ _) | apply Agree.then (k := State.fdMod_ag _ _) | apply Agree.then (k := State.fieldApply_ag _) | decide | split)

theorem execFlkFrameToField_ag (frame : RxFrame) (s : State) : ∀ t1, execFlkFrameToField frame s = .next t1 → Agree 70574902633985 s t1 := by
  intro t1 h
  obtain rfl := Host.Outcome.next.inj h
  repeat' (with_reducible first | assumption | apply Agree.refl | intro _ | apply Agree.then (k := State.frameToField_ag _ _ _) | decide)

end Sys2Proof.Machine
end

