-- ==== Sys2Proof/Laws/Frame/Goose.lean ====
section
/-!
SUPPORT. Frames of the operations of Machine/Goose.lean: the fields each can change, as a mask.
-/
set_option linter.unusedTactic false
set_option linter.unreachableTactic false
namespace Sys2Proof.Machine
open Sys2Proof

theorem State.gseExpire_ag (s : State) (e : Nat) : Agree 34359763457 s (State.gseExpire s e) := by
  unfold State.gseExpire
  repeat' (with_reducible first | assumption | apply Agree.refl | intro _ | (extract_lets +onlyGivenNames x; first | (refine (fun (_ : Agree 34359763457 s x) => ?_ : Agree 34359763457 s x → _) ?_; clear_value x) | (refine (fun (_ : Agree 34359763457 s x.1) => ?_ : Agree 34359763457 s x.1 → _) ?_; clear_value x) | clear_value x) | subst x | apply Agree.then (k := State.putBit_ag _ _ _ _) | apply Agree.then (k := State.setGse_ag _ _ _) | apply Agree.then (k := State.log_ag _ _ _ _ _) | apply Agree.then (k := State.ethFlag_ag _ _ _) | decide | split)

theorem State.gooseExpiry_ag (s : State) (e : Nat) : Agree 34359796225 s (State.gooseExpiry s e) := by
  unfold State.gooseExpiry
  repeat' (with_reducible first | assumption | apply Agree.refl | intro _ | apply Agree.then (k := State.reachTime_ag _ _) | apply Agree.then (k := State.gseExpire_ag _ _) | decide | split)

theorem execGooseExpiry_ag (e : Fin 128) (s : State) : ∀ t1, execGooseExpiry e s = .next t1 → Agree 34359796225 s t1 := by
  intro t1 h
  obtain rfl := Host.Outcome.next.inj h
  repeat' (with_reducible first | assumption | apply Agree.refl | intro _ | apply Agree.then (k := State.gooseExpiry_ag _ _) | decide)

theorem State.gseAccept_ag (s : State) (e ta : Nat) (sim : Bool) (m : GooseMsg) : Agree 34359763457 s (State.gseAccept s e ta sim m) := by
  unfold State.gseAccept
  repeat' (with_reducible first | assumption | apply Agree.refl | intro _ | (extract_lets +onlyGivenNames x; first | (refine (fun (_ : Agree 34359763457 s x) => ?_ : Agree 34359763457 s x → _) ?_; clear_value x) | (refine (fun (_ : Agree 34359763457 s x.1) => ?_ : Agree 34359763457 s x.1 → _) ?_; clear_value x) | clear_value x) | subst x | apply Agree.ite | apply Agree.foldl | apply Agree.then (k := State.wr_ag _ _ _) | apply Agree.then (k := State.count_ag _ _ _ _ _) | apply Agree.then (k := State.setGse_ag _ _ _) | apply Agree.then (k := State.irq_ag _ _) | apply Agree.then (k := State.log_ag _ _ _ _ _) | decide | split)

theorem State.gseTake_ag (s : State) (e ta : Nat) (m : GooseMsg) : Agree 34359763457 s (State.gseTake s e ta m).1 := by
  unfold State.gseTake
  repeat' (with_reducible first | assumption | apply Agree.refl | intro _ | (extract_lets +onlyGivenNames x; first | (refine (fun (_ : Agree 34359763457 s x) => ?_ : Agree 34359763457 s x → _) ?_; clear_value x) | (refine (fun (_ : Agree 34359763457 s x.1) => ?_ : Agree 34359763457 s x.1 → _) ?_; clear_value x) | clear_value x) | subst x | apply Agree.ite | apply Agree.iteP | apply Agree.then (k := State.putBit_ag _ _ _ _) | apply Agree.then (k := State.count_ag _ _ _ _ _) | apply Agree.then (k := State.setGse_ag _ _ _) | apply Agree.then (k := State.log_ag _ _ _ _ _) | apply Agree.then (k := State.ethFlag_ag _ _ _) | apply Agree.then (k := State.gseExpire_ag _ _) | apply Agree.then (k := State.gseAccept_ag _ _ _ _ _) | decide | split)

theorem State.gooseFrame_ag (s : State) (p ta vid : Nat) (f : Eth) : Agree 34359763457 s (State.gooseFrame s p ta vid f).1 := by
  unfold State.gooseFrame
  split
  · apply Agree.refl
  · refine Agree.foldlP (Agree.refl _ _) (fun q x hq => ?_)
    obtain ⟨t, b⟩ := q
    dsimp only
    split
    · exact Agree.then hq (State.gseTake_ag _ _ _ _) (by decide)
    · exact hq

theorem State.ethRx_ag (s : State) (p : Nat) (raw : Bytes) (fcsOk : Bool) (sec ns : Nat) : Agree 34359796225 s (State.ethRx s p raw fcsOk sec ns) := by
  unfold State.ethRx
  repeat' (with_reducible first | assumption | apply Agree.refl | intro _ | (extract_lets +onlyGivenNames x; first | (refine (fun (_ : Agree 34359796225 s x) => ?_ : Agree 34359796225 s x → _) ?_; clear_value x) | (refine (fun (_ : Agree 34359796225 s x.1) => ?_ : Agree 34359796225 s x.1 → _) ?_; clear_value x) | clear_value x) | subst x | apply Agree.ite | apply Agree.iteP | apply Agree.then (k := State.count_ag _ _ _ _ _) | apply Agree.then (k := State.reachTime_ag _ _) | apply Agree.then (k := State.redAlive_ag _ _) | apply Agree.then (k := State.forward_ag _ _ _ _ _ _ _ _ _) | apply Agree.then (k := State.ringForward_ag _ _ _ _ _ _) | apply Agree.then (k := State.dupCheck_ag _ _ _) | apply Agree.then (k := State.svFrame_ag _ _ _ _) | apply Agree.then (k := State.gooseFrame_ag _ _ _ _ _) | decide | split)

theorem execEthFrameRx_ag (p : Fin 5) (frame : Bytes) (fcsOk : Bool) (sec : Nat) (ns : Fin 1000000000) (s : State) : ∀ t1, execEthFrameRx p frame fcsOk sec ns s = .next t1 → Agree 34359796225 s t1 := by
  intro t1 h
  obtain rfl := Host.Outcome.next.inj h
  repeat' (with_reducible first | assumption | apply Agree.refl | intro _ | apply Agree.then (k := State.ethRx_ag _ _ _ _ _ _) | decide)

theorem State.gpubQueue_ag (s : State) (g gapMs : Nat) : Agree 34359738369 s (State.gpubQueue s g gapMs) := by
  unfold State.gpubQueue
  repeat' (with_reducible first | assumption | apply Agree.refl | intro _ | (extract_lets +onlyGivenNames x; first | (refine (fun (_ : Agree 34359738369 s x) => ?_ : Agree 34359738369 s x → _) ?_; clear_value x) | (refine (fun (_ : Agree 34359738369 s x.1) => ?_ : Agree 34359738369 s x.1 → _) ?_; clear_value x) | clear_value x) | subst x | apply Agree.ite | apply Agree.iteP | apply Agree.then (k := State.ethSend_ag _ _ _ _ _ _ _) | decide | split)

theorem State.gpubDrop_ag (s : State) (g : Nat) : Agree 34359738368 s (State.gpubDrop s g) := by
  unfold State.gpubDrop
  repeat' (with_reducible first | assumption | apply Agree.refl | intro _ | apply Agree.then (k := State.ethMod_ag _ _) | decide)

theorem State.gooseChange_ag (s : State) (g : Nat) : Agree 34359738369 s (State.gooseChange s g) := by
  unfold State.gooseChange
  repeat' (with_reducible first | assumption | apply Agree.refl | intro _ | (extract_lets +onlyGivenNames x; first | (refine (fun (_ : Agree 34359738369 s x) => ?_ : Agree 34359738369 s x → _) ?_; clear_value x) | (refine (fun (_ : Agree 34359738369 s x.1) => ?_ : Agree 34359738369 s x.1 → _) ?_; clear_value x) | clear_value x) | subst x | apply Agree.ite | apply Agree.then (k := State.wr_ag _ _ _) | apply Agree.then (k := State.setGpub_ag _ _ _) | apply Agree.then (k := State.gpubQueue_ag _ _ _) | apply Agree.then (k := State.gpubDrop_ag _ _) | decide | split)

theorem State.gooseRetransmit_ag (s : State) (g : Nat) : Agree 34359771137 s (State.gooseRetransmit s g) := by
  unfold State.gooseRetransmit
  repeat' (with_reducible first | assumption | apply Agree.refl | intro _ | (extract_lets +onlyGivenNames x; first | (refine (fun (_ : Agree 34359771137 s x) => ?_ : Agree 34359771137 s x → _) ?_; clear_value x) | (refine (fun (_ : Agree 34359771137 s x.1) => ?_ : Agree 34359771137 s x.1 → _) ?_; clear_value x) | clear_value x) | subst x | apply Agree.ite | apply Agree.iteP | apply Agree.then (k := State.wr_ag _ _ _) | apply Agree.then (k := State.setGpub_ag _ _ _) | apply Agree.then (k := State.reachCnt_ag _ _) | apply Agree.then (k := State.gpubQueue_ag _ _ _) | decide | split)

theorem execGooseRetransmit_ag (g : Fin 8) (s : State) : ∀ t1, execGooseRetransmit g s = .next t1 → Agree 34359771137 s t1 := by
  intro t1 h
  obtain rfl := Host.Outcome.next.inj h
  repeat' (with_reducible first | assumption | apply Agree.refl | intro _ | apply Agree.then (k := State.gooseRetransmit_ag _ _) | decide)

theorem State.gpubCtrlWrite_ag (s : State) (g : Nat) (v : Word) : Agree 34359763457 s (State.gpubCtrlWrite s g v) := by
  unfold State.gpubCtrlWrite
  repeat' (with_reducible first | assumption | apply Agree.refl | intro _ | (extract_lets +onlyGivenNames x; first | (refine (fun (_ : Agree 34359763457 s x) => ?_ : Agree 34359763457 s x → _) ?_; clear_value x) | (refine (fun (_ : Agree 34359763457 s x.1) => ?_ : Agree 34359763457 s x.1 → _) ?_; clear_value x) | clear_value x) | subst x | apply Agree.ite | apply Agree.then (k := State.wr_ag _ _ _) | apply Agree.then (k := State.setGpub_ag _ _ _) | apply Agree.then (k := State.ethDeny_ag _ _ _) | apply Agree.then (k := State.gooseChange_ag _ _) | decide | split)

theorem execGpubCommit_ag (r : Req) (g : Fin 8) (v : Word) (s : State) : ∀ t1, execGpubCommit r g v s = .next t1 → Agree 34359763457 s t1 := by
  intro t1 h
  obtain rfl := Host.Outcome.next.inj h
  repeat' (with_reducible first | assumption | apply Agree.refl | intro _ | apply Agree.ite | apply Agree.then (k := State.gpubCtrlWrite_ag _ _ _) | decide)

theorem State.gooseLines_ag (s : State) (lines : List Nat) : Agree 34359738369 s (State.gooseLines s lines) := by
  unfold State.gooseLines
  repeat' (with_reducible first | assumption | apply Agree.refl | intro _ | (extract_lets +onlyGivenNames x; first | (refine (fun (_ : Agree 34359738369 s x) => ?_ : Agree 34359738369 s x → _) ?_; clear_value x) | (refine (fun (_ : Agree 34359738369 s x.1) => ?_ : Agree 34359738369 s x.1 → _) ?_; clear_value x) | clear_value x) | subst x | apply Agree.ite | apply Agree.foldl | apply Agree.iteP | apply Agree.foldlP | apply Agree.then (k := State.gooseChange_ag _ _) | decide | split)

theorem State.lastGasp_ag (s : State) : Agree 34359738369 s (State.lastGasp s) := by
  unfold State.lastGasp
  repeat' (with_reducible first | assumption | apply Agree.refl | intro _ | apply Agree.ite | apply Agree.foldl | apply Agree.then (k := State.setGpub_ag _ _ _) | apply Agree.then (k := State.gooseChange_ag _ _) | decide | split)

theorem State.gooseTakeover_ag (s : State) : Agree 34359738369 s (State.gooseTakeover s) := by
  unfold State.gooseTakeover
  repeat' (with_reducible first | assumption | apply Agree.refl | intro _ | apply Agree.foldl | apply Agree.then (k := State.gooseChange_ag _ _) | decide)

theorem State.tblNext_ag (s : State) : Agree 1 s (State.tblNext s) := by
  unfold State.tblNext
  repeat' (with_reducible first | assumption | apply Agree.refl | intro _ | apply Agree.then (k := State.put_ag _ _ _ _ _) | decide)

theorem State.tblRead_ag (s : State) (r : Req) : Agree 17 s (State.tblRead s r) := by
  unfold State.tblRead
  repeat' (with_reducible first | assumption | apply Agree.refl | intro _ | (extract_lets +onlyGivenNames x; first | (refine (fun (_ : Agree 17 s x) => ?_ : Agree 17 s x → _) ?_; clear_value x) | (refine (fun (_ : Agree 17 s x.1) => ?_ : Agree 17 s x.1 → _) ?_; clear_value x) | clear_value x) | subst x | apply Agree.ite | apply Agree.then (k := State.wr_ag _ _ _) | apply Agree.then (k := State.answer_ag _ _ _) | apply Agree.then (k := State.tblNext_ag _) | decide | split)

theorem execEthTblDataRead_ag (r : Req) (s : State) : ∀ t1, execEthTblDataRead r s = .next t1 → Agree 17 s t1 := by
  intro t1 h
  obtain rfl := Host.Outcome.next.inj h
  repeat' (with_reducible first | assumption | apply Agree.refl | intro _ | apply Agree.ite | apply Agree.then (k := State.tblRead_ag _ _) | decide)

theorem State.tblWrite_ag (s : State) (v : Word) : Agree 34359763457 s (State.tblWrite s v) := by
  unfold State.tblWrite
  repeat' (with_reducible first | assumption | apply Agree.refl | intro _ | (extract_lets +onlyGivenNames x; first | (refine (fun (_ : Agree 34359763457 s x) => ?_ : Agree 34359763457 s x → _) ?_; clear_value x) | (refine (fun (_ : Agree 34359763457 s x.1) => ?_ : Agree 34359763457 s x.1 → _) ?_; clear_value x) | clear_value x) | subst x | apply Agree.ite | apply Agree.then (k := State.wr_ag _ _ _) | apply Agree.then (k := State.setGse_ag _ _ _) | apply Agree.then (k := State.ethDeny_ag _ _ _) | apply Agree.then (k := State.markPaths_ag _ _) | apply Agree.then (k := State.tblNext_ag _) | decide | split)

theorem execEthTblDataWrite_ag (r : Req) (v : Word) (s : State) : ∀ t1, execEthTblDataWrite r v s = .next t1 → Agree 34359763457 s t1 := by
  intro t1 h
  obtain rfl := Host.Outcome.next.inj h
  repeat' (with_reducible first | assumption | apply Agree.refl | intro _ | apply Agree.ite | apply Agree.then (k := State.tblWrite_ag _ _) | decide)

theorem State.ethPcfgWrite_ag (s : State) (p : Nat) (v : Word) : Agree 34359763457 s (State.ethPcfgWrite s p v) := by
  unfold State.ethPcfgWrite
  repeat' (with_reducible first | assumption | apply Agree.refl | intro _ | apply Agree.ite | apply Agree.whenI | apply Agree.then (k := State.regWrite_ag _ _ _) | apply Agree.then (k := State.ethDeny_ag _ _ _) | apply Agree.then (k := State.ethLink_ag _ _ _ _) | decide | split)

theorem State.ethWrite_ag (s : State) (r : Req) (off : Nat) (v : Word) : Agree 34359763457 s (State.ethWrite s r off v) := by
  unfold State.ethWrite
  repeat' (with_reducible first | assumption | apply Agree.refl | intro _ | (extract_lets +onlyGivenNames x; first | (refine (fun (_ : Agree 34359763457 s x) => ?_ : Agree 34359763457 s x → _) ?_; clear_value x) | (refine (fun (_ : Agree 34359763457 s x.1) => ?_ : Agree 34359763457 s x.1 → _) ?_; clear_value x) | clear_value x) | subst x | apply Agree.ite | apply Agree.then (k := State.regWrite_ag _ _ _) | apply Agree.then (k := State.ethDeny_ag _ _ _) | apply Agree.then (k := State.ethCtrlWrite_ag _ _) | apply Agree.then (k := State.svsWrite_ag _ _ _ _ _) | apply Agree.then (k := State.gpubCtrlWrite_ag _ _ _) | apply Agree.then (k := State.tblWrite_ag _ _) | apply Agree.then (k := State.ethPcfgWrite_ag _ _ _) | decide | split)

theorem State.netDown_ag (s : State) : Agree 34359738369 s (State.netDown s) := by
  unfold State.netDown
  repeat' (with_reducible first | assumption | apply Agree.refl | intro _ | (extract_lets +onlyGivenNames x; first | (refine (fun (_ : Agree 34359738369 s x) => ?_ : Agree 34359738369 s x → _) ?_; clear_value x) | (refine (fun (_ : Agree 34359738369 s x.1) => ?_ : Agree 34359738369 s x.1 → _) ?_; clear_value x) | clear_value x) | subst x | apply Agree.foldl | apply Agree.then (k := State.putBit_ag _ _ _ _) | apply Agree.then (k := State.ethMod_ag _ _) | apply Agree.then (k := State.setSvSlot_ag _ _ _) | apply Agree.then (k := State.setGpub_ag _ _ _) | apply Agree.then (k := State.markPaths_ag _ _) | decide)

theorem State.netUp_ag (s : State) : Agree 34359738369 s (State.netUp s) := by
  unfold State.netUp
  repeat' (with_reducible first | assumption | apply Agree.refl | intro _ | (extract_lets +onlyGivenNames x; first | (refine (fun (_ : Agree 34359738369 s x) => ?_ : Agree 34359738369 s x → _) ?_; clear_value x) | (refine (fun (_ : Agree 34359738369 s x.1) => ?_ : Agree 34359738369 s x.1 → _) ?_; clear_value x) | clear_value x) | subst x | apply Agree.ite | apply Agree.whenI | apply Agree.foldl | apply Agree.then (k := State.putBit_ag _ _ _ _) | apply Agree.then (k := State.setGpub_ag _ _ _) | apply Agree.then (k := State.redApply_ag _) | decide)

end Sys2Proof.Machine
end

