-- ==== Sys2Proof/Laws/Frame/Trip.lean ====
section
/-!
SUPPORT. Frames of the operations of Machine/Trip.lean: the fields each can change, as a mask.
-/
set_option linter.unusedTactic false
set_option linter.unreachableTactic false
namespace Sys2Proof.Machine
open Sys2Proof

theorem State.setLine_ag (s : State) (n : Nat) (x : TripLine) : Agree 274877906944 s (State.setLine s n x) := by
  unfold State.setLine
  repeat' (with_reducible first | assumption | apply Agree.refl | intro _ | apply Agree.then (k := Agree.up_lines _ _) | decide)

theorem State.setElem_ag (s : State) (c : Nat) (x : ElemU) : Agree 2147483648 s (State.setElem s c x) := by
  unfold State.setElem
  repeat' (with_reducible first | assumption | apply Agree.refl | intro _ | apply Agree.then (k := Agree.up_elems _ _) | decide)

theorem State.tlLog_ag (s : State) (code n p0 p1 : Nat) : Agree 25089 s (State.tlLog s code n p0 p1) := by
  unfold State.tlLog
  repeat' (with_reducible first | assumption | apply Agree.refl | intro _ | apply Agree.ite | apply Agree.then (k := State.irq_ag _ _) | apply Agree.then (k := State.log_ag _ _ _ _ _) | decide | split)

theorem State.setTl_ag (s : State) (n st : Nat) : Agree 1 s (State.setTl s n st) := by
  unfold State.setTl
  repeat' (with_reducible first | assumption | apply Agree.refl | intro _ | apply Agree.then (k := State.put_ag _ _ _ _ _) | decide)

theorem State.tlDeny_ag (s : State) (n : Nat) : Agree 274877932033 s (State.tlDeny s n) := by
  unfold State.tlDeny
  repeat' (with_reducible first | assumption | apply Agree.refl | intro _ | (extract_lets +onlyGivenNames x; first | (refine (fun (_ : Agree 274877932033 s x) => ?_ : Agree 274877932033 s x → _) ?_; clear_value x) | (refine (fun (_ : Agree 274877932033 s x.1) => ?_ : Agree 274877932033 s x.1 → _) ?_; clear_value x) | clear_value x) | subst x | apply Agree.then (k := State.putBit_ag _ _ _ _) | apply Agree.then (k := State.count_ag _ _ _ _ _) | apply Agree.then (k := State.setLine_ag _ _ _) | apply Agree.then (k := State.tlLog_ag _ _ _ _ _) | apply Agree.then (k := State.setTl_ag _ _ _) | decide)

theorem State.tlGrant_ag (s : State) (n : Nat) (waited : Bool) : Agree 274877932033 s (State.tlGrant s n waited) := by
  unfold State.tlGrant
  repeat' (with_reducible first | assumption | apply Agree.refl | intro _ | (extract_lets +onlyGivenNames x; first | (refine (fun (_ : Agree 274877932033 s x) => ?_ : Agree 274877932033 s x → _) ?_; clear_value x) | (refine (fun (_ : Agree 274877932033 s x.1) => ?_ : Agree 274877932033 s x.1 → _) ?_; clear_value x) | clear_value x) | subst x | apply Agree.ite | apply Agree.then (k := State.put_ag _ _ _ _ _) | apply Agree.then (k := State.count_ag _ _ _ _ _) | apply Agree.then (k := State.setLine_ag _ _ _) | apply Agree.then (k := State.tlLog_ag _ _ _ _ _) | apply Agree.then (k := State.setTl_ag _ _ _) | decide | split)

theorem State.tlEnd_ag (s : State) (n cause : Nat) (src : Bool) : Agree 274877932033 s (State.tlEnd s n cause src) := by
  unfold State.tlEnd
  repeat' (with_reducible first | assumption | apply Agree.refl | intro _ | (extract_lets +onlyGivenNames x; first | (refine (fun (_ : Agree 274877932033 s x) => ?_ : Agree 274877932033 s x → _) ?_; clear_value x) | (refine (fun (_ : Agree 274877932033 s x.1) => ?_ : Agree 274877932033 s x.1 → _) ?_; clear_value x) | clear_value x) | subst x | apply Agree.ite | apply Agree.then (k := State.putBit_ag _ _ _ _) | apply Agree.then (k := State.setLine_ag _ _ _) | apply Agree.then (k := State.tlLog_ag _ _ _ _ _) | apply Agree.then (k := State.setTl_ag _ _ _) | decide | split)

theorem State.tlRun_ag (s : State) (n : Nat) (src fresh : Bool) : Agree 292057801217 s (State.tlRun s n src fresh) := by
  unfold State.tlRun
  repeat' (with_reducible first | assumption | apply Agree.refl | intro _ | (extract_lets +onlyGivenNames x; first | (refine (fun (_ : Agree 292057801217 s x) => ?_ : Agree 292057801217 s x → _) ?_; clear_value x) | (refine (fun (_ : Agree 292057801217 s x.1) => ?_ : Agree 292057801217 s x.1 → _) ?_; clear_value x) | clear_value x) | subst x | apply Agree.ite | apply Agree.then (k := State.canQueue_ag _ _ _) | apply Agree.then (k := State.tlEnd_ag _ _ _ _) | decide | split)

theorem State.tlLine_ag (s : State) (n : Nat) : Agree 292057801217 s (State.tlLine s n) := by
  unfold State.tlLine
  repeat' (with_reducible first | assumption | apply Agree.refl | intro _ | (extract_lets +onlyGivenNames x; first | (refine (fun (_ : Agree 292057801217 s x) => ?_ : Agree 292057801217 s x → _) ?_; clear_value x) | (refine (fun (_ : Agree 292057801217 s x.1) => ?_ : Agree 292057801217 s x.1 → _) ?_; clear_value x) | clear_value x) | subst x | apply Agree.ite | apply Agree.then (k := State.putBit_ag _ _ _ _) | apply Agree.then (k := State.setTl_ag _ _ _) | apply Agree.then (k := State.tlDeny_ag _ _) | apply Agree.then (k := State.tlGrant_ag _ _ _) | apply Agree.then (k := State.tlRun_ag _ _ _ _) | decide | split)

theorem State.tlStop_ag (s : State) (n : Nat) : Agree 1 s (State.tlStop s n) := by
  unfold State.tlStop
  repeat' (with_reducible first | assumption | apply Agree.refl | intro _ | (extract_lets +onlyGivenNames x; first | (refine (fun (_ : Agree 1 s x) => ?_ : Agree 1 s x → _) ?_; clear_value x) | (refine (fun (_ : Agree 1 s x.1) => ?_ : Agree 1 s x.1 → _) ?_; clear_value x) | clear_value x) | subst x | apply Agree.then (k := State.put_ag _ _ _ _ _) | apply Agree.then (k := State.putPair_ag _ _ _ _) | decide)

theorem State.tlRetire_ag (s : State) : Agree 1 s (State.tlRetire s) := by
  unfold State.tlRetire
  repeat' (with_reducible first | assumption | apply Agree.refl | intro _ | (extract_lets +onlyGivenNames x; first | (refine (fun (_ : Agree 1 s x) => ?_ : Agree 1 s x → _) ?_; clear_value x) | (refine (fun (_ : Agree 1 s x.1) => ?_ : Agree 1 s x.1 → _) ?_; clear_value x) | clear_value x) | subst x | apply Agree.ite | apply Agree.foldl | apply Agree.then (k := State.tlStop_ag _ _) | decide | split)

theorem State.tlDrive_ag (s : State) : Agree 34359869449 s (State.tlDrive s) := by
  unfold State.tlDrive
  repeat' (with_reducible first | assumption | apply Agree.refl | intro _ | (extract_lets +onlyGivenNames x; first | (refine (fun (_ : Agree 34359869449 s x) => ?_ : Agree 34359869449 s x → _) ?_; clear_value x) | (refine (fun (_ : Agree 34359869449 s x.1) => ?_ : Agree 34359869449 s x.1 → _) ?_; clear_value x) | clear_value x) | subst x | apply Agree.ite | apply Agree.then (k := State.wr_ag _ _ _) | apply Agree.then (k := State.gooseLines_ag _ _) | apply Agree.then (k := State.fioDrive_ag _) | decide | split)

theorem State.tlPass_ag (s : State) : Agree 326417670665 s (State.tlPass s) := by
  unfold State.tlPass
  repeat' (with_reducible first | assumption | apply Agree.refl | intro _ | apply Agree.foldl | apply Agree.then (k := State.tlLine_ag _ _) | apply Agree.then (k := State.tlRetire_ag _) | apply Agree.then (k := State.tlDrive_ag _) | decide)

theorem State.afStep_ag (s : State) (c : Nat) : Agree 134242817 s (State.afStep s c) := by
  unfold State.afStep
  repeat' (with_reducible first | assumption | apply Agree.refl | intro _ | (extract_lets +onlyGivenNames x; first | (refine (fun (_ : Agree 134242817 s x) => ?_ : Agree 134242817 s x → _) ?_; clear_value x) | (refine (fun (_ : Agree 134242817 s x.1) => ?_ : Agree 134242817 s x.1 → _) ?_; clear_value x) | clear_value x) | subst x | apply Agree.ite | apply Agree.then (k := State.putBit_ag _ _ _ _) | apply Agree.then (k := State.detMod_ag _ _ _) | apply Agree.then (k := State.irq_ag _ _) | apply Agree.then (k := State.log_ag _ _ _ _ _) | decide | split)

theorem State.tlStep_ag (s : State) : Agree 326551888393 s (State.tlStep s) := by
  unfold State.tlStep
  repeat' (with_reducible first | assumption | apply Agree.refl | intro _ | (extract_lets +onlyGivenNames x; first | (refine (fun (_ : Agree 326551888393 s x) => ?_ : Agree 326551888393 s x → _) ?_; clear_value x) | (refine (fun (_ : Agree 326551888393 s x.1) => ?_ : Agree 326551888393 s x.1 → _) ?_; clear_value x) | clear_value x) | subst x | apply Agree.foldl | apply Agree.then (k := State.tlPass_ag _) | apply Agree.then (k := State.afStep_ag _ _) | decide | split)

theorem State.afUpdate_ag (s : State) (c : Nat) : Agree 326551888393 s (State.afUpdate s c) := by
  unfold State.afUpdate
  repeat' (with_reducible first | assumption | apply Agree.refl | intro _ | apply Agree.then (k := State.afStep_ag _ _) | apply Agree.then (k := State.tlStep_ag _) | decide)

theorem State.lightLevel_ag (s : State) (ch : Nat) (on : Bool) : Agree 326820323849 s (State.lightLevel s ch on) := by
  unfold State.lightLevel
  repeat' (with_reducible first | assumption | apply Agree.refl | intro _ | (extract_lets +onlyGivenNames x; first | (refine (fun (_ : Agree 326820323849 s x) => ?_ : Agree 326820323849 s x → _) ?_; clear_value x) | (refine (fun (_ : Agree 326820323849 s x.1) => ?_ : Agree 326820323849 s x.1 → _) ?_; clear_value x) | clear_value x) | subst x | apply Agree.ite | apply Agree.foldl | apply Agree.then (k := State.setLight_ag _ _) | apply Agree.then (k := State.afStep_ag _ _) | apply Agree.then (k := State.tlStep_ag _) | decide | split)

theorem State.lightEdge_ag (s : State) (ch : Nat) (on : Bool) : Agree 563345493221897 s (State.lightEdge s ch on) := by
  unfold State.lightEdge
  repeat' (with_reducible first | assumption | apply Agree.refl | intro _ | (extract_lets +onlyGivenNames x; first | (refine (fun (_ : Agree 563345493221897 s x) => ?_ : Agree 563345493221897 s x → _) ?_; clear_value x) | (refine (fun (_ : Agree 563345493221897 s x.1) => ?_ : Agree 563345493221897 s x.1 → _) ?_; clear_value x) | clear_value x) | subst x | apply Agree.ite | apply Agree.then (k := State.rawEdge_ag _ _ _ _) | apply Agree.then (k := State.lightLevel_ag _ _ _) | decide | split)

theorem State.fioCfgCmd_ag (s : State) (r : Req) (n : Nat) (v : Word) : Agree 463990841865 s (State.fioCfgCmd s r n v) := by
  unfold State.fioCfgCmd
  repeat' (with_reducible first | assumption | apply Agree.refl | intro _ | (extract_lets +onlyGivenNames x; first | (refine (fun (_ : Agree 463990841865 s x) => ?_ : Agree 463990841865 s x → _) ?_; clear_value x) | (refine (fun (_ : Agree 463990841865 s x.1) => ?_ : Agree 463990841865 s x.1 → _) ?_; clear_value x) | clear_value x) | subst x | apply Agree.foldl | apply Agree.then (k := State.fioDrive_ag _) | apply Agree.then (k := State.fioCfgWrite_ag _ _ _ _) | apply Agree.then (k := State.afStep_ag _ _) | apply Agree.then (k := State.tlStep_ag _) | decide | split)

theorem execFioCfgWrite_ag (r : Req) (n : Fin 48) (v : Word) (s : State) : ∀ t1, execFioCfgWrite r n v s = .next t1 → Agree 463990841865 s t1 := by
  intro t1 h
  obtain rfl := Host.Outcome.next.inj h
  repeat' (with_reducible first | assumption | apply Agree.refl | intro _ | apply Agree.ite | apply Agree.then (k := State.fioCfgCmd_ag _ _ _ _) | decide)

theorem State.tlMinElapsed_ag (s : State) (n : Nat) : Agree 326551921161 s (State.tlMinElapsed s n) := by
  unfold State.tlMinElapsed
  repeat' (with_reducible first | assumption | apply Agree.refl | intro _ | apply Agree.ite | apply Agree.then (k := State.reachCnt_ag _ _) | apply Agree.then (k := State.tlStep_ag _) | decide | split)

theorem execTlMinElapsed_ag (n : Fin 64) (s : State) : ∀ t1, execTlMinElapsed n s = .next t1 → Agree 326551921161 s t1 := by
  intro t1 h
  obtain rfl := Host.Outcome.next.inj h
  repeat' (with_reducible first | assumption | apply Agree.refl | intro _ | apply Agree.then (k := State.tlMinElapsed_ag _ _) | decide)

theorem State.tlMaxElapsed_ag (s : State) (n : Nat) : Agree 326551921161 s (State.tlMaxElapsed s n) := by
  unfold State.tlMaxElapsed
  repeat' (with_reducible first | assumption | apply Agree.refl | intro _ | apply Agree.ite | apply Agree.then (k := State.reachCnt_ag _ _) | apply Agree.then (k := State.tlStep_ag _) | decide | split)

theorem execTlMaxElapsed_ag (n : Fin 64) (s : State) : ∀ t1, execTlMaxElapsed n s = .next t1 → Agree 326551921161 s t1 := by
  intro t1 h
  obtain rfl := Host.Outcome.next.inj h
  repeat' (with_reducible first | assumption | apply Agree.refl | intro _ | apply Agree.then (k := State.tlMaxElapsed_ag _ _) | decide)

theorem State.bfAdvance_ag (s : State) (n : Nat) : Agree 1 s (State.bfAdvance s n) := by
  unfold State.bfAdvance
  repeat' (with_reducible first | assumption | apply Agree.refl | intro _ | (extract_lets +onlyGivenNames x; first | (refine (fun (_ : Agree 1 s x) => ?_ : Agree 1 s x → _) ?_; clear_value x) | (refine (fun (_ : Agree 1 s x.1) => ?_ : Agree 1 s x.1 → _) ?_; clear_value x) | clear_value x) | subst x | apply Agree.ite | apply Agree.then (k := State.put_ag _ _ _ _ _) | apply Agree.then (k := State.count_ag _ _ _ _ _) | decide | split)

theorem State.bfCluster_ag (s : State) (c : Nat) : Agree 1 s (State.bfCluster s c) := by
  unfold State.bfCluster
  repeat' (with_reducible first | assumption | apply Agree.refl | intro _ | apply Agree.ite | apply Agree.foldl | apply Agree.then (k := State.bfAdvance_ag _ _) | decide | split)

theorem State.bfExpire_ag (s : State) (n : Nat) : Agree 326551888393 s (State.bfExpire s n) := by
  unfold State.bfExpire
  repeat' (with_reducible first | assumption | apply Agree.refl | intro _ | (extract_lets +onlyGivenNames x; first | (refine (fun (_ : Agree 326551888393 s x) => ?_ : Agree 326551888393 s x → _) ?_; clear_value x) | (refine (fun (_ : Agree 326551888393 s x.1) => ?_ : Agree 326551888393 s x.1 → _) ?_; clear_value x) | clear_value x) | subst x | apply Agree.ite | apply Agree.then (k := State.put_ag _ _ _ _ _) | apply Agree.then (k := State.tlLog_ag _ _ _ _ _) | apply Agree.then (k := State.tlStep_ag _) | decide | split)

theorem execBfTimerExpiry_ag (n : Fin 64) (s : State) : ∀ t1, execBfTimerExpiry n s = .next t1 → Agree 326551888393 s t1 := by
  intro t1 h
  obtain rfl := Host.Outcome.next.inj h
  repeat' (with_reducible first | assumption | apply Agree.refl | intro _ | apply Agree.then (k := State.bfExpire_ag _ _) | decide)

theorem State.tlCfgDeny_ag (s : State) (n off reason : Nat) : Agree 25089 s (State.tlCfgDeny s n off reason) := by
  unfold State.tlCfgDeny
  repeat' (with_reducible first | assumption | apply Agree.refl | intro _ | apply Agree.then (k := State.putBit_ag _ _ _ _) | apply Agree.then (k := State.tlLog_ag _ _ _ _ _) | decide)

theorem State.tlCfgWrite_ag (s : State) (r : Req) (n k : Nat) (v : Word) : Agree 25089 s (State.tlCfgWrite s r n k v) := by
  unfold State.tlCfgWrite
  repeat' (with_reducible first | assumption | apply Agree.refl | intro _ | (extract_lets +onlyGivenNames x; first | (refine (fun (_ : Agree 25089 s x) => ?_ : Agree 25089 s x → _) ?_; clear_value x) | (refine (fun (_ : Agree 25089 s x.1) => ?_ : Agree 25089 s x.1 → _) ?_; clear_value x) | clear_value x) | subst x | apply Agree.ite | apply Agree.then (k := State.wr_ag _ _ _) | apply Agree.then (k := State.tlCfgDeny_ag _ _ _ _) | decide | split)

theorem execTlConfigWrite_ag (r : Req) (n : Fin 64) (k : Fin 9) (v : Word) (s : State) : ∀ t1, execTlConfigWrite r n k v s = .next t1 → Agree 25089 s t1 := by
  intro t1 h
  obtain rfl := Host.Outcome.next.inj h
  repeat' (with_reducible first | assumption | apply Agree.refl | intro _ | apply Agree.ite | apply Agree.then (k := State.tlCfgWrite_ag _ _ _ _ _) | decide)

theorem State.tripKeyWrite_ag (s : State) (r : Req) (v : Word) : Agree 549755838977 s (State.tripKeyWrite s r v) := by
  unfold State.tripKeyWrite
  repeat' (with_reducible first | assumption | apply Agree.refl | intro _ | (extract_lets +onlyGivenNames x; first | (refine (fun (_ : Agree 549755838977 s x) => ?_ : Agree 549755838977 s x → _) ?_; clear_value x) | (refine (fun (_ : Agree 549755838977 s x.1) => ?_ : Agree 549755838977 s x.1 → _) ?_; clear_value x) | clear_value x) | subst x | apply Agree.ite | apply Agree.then (k := State.putBit_ag _ _ _ _) | apply Agree.then (k := State.setTripKey_ag _ _) | apply Agree.then (k := State.tlLog_ag _ _ _ _ _) | apply Agree.then (k := State.tlCfgDeny_ag _ _ _ _) | decide | split)

theorem execTripKeyWrite_ag (r : Req) (v : Word) (s : State) : ∀ t1, execTripKeyWrite r v s = .next t1 → Agree 549755838977 s t1 := by
  intro t1 h
  obtain rfl := Host.Outcome.next.inj h
  repeat' (with_reducible first | assumption | apply Agree.refl | intro _ | apply Agree.ite | apply Agree.then (k := State.tripKeyWrite_ag _ _ _) | decide)

theorem State.tlRunSet_ag (s : State) (r : Req) (n : Nat) : Agree 326551888393 s (State.tlRunSet s r n) := by
  unfold State.tlRunSet
  repeat' (with_reducible first | assumption | apply Agree.refl | intro _ | (extract_lets +onlyGivenNames x; first | (refine (fun (_ : Agree 326551888393 s x) => ?_ : Agree 326551888393 s x → _) ?_; clear_value x) | (refine (fun (_ : Agree 326551888393 s x.1) => ?_ : Agree 326551888393 s x.1 → _) ?_; clear_value x) | clear_value x) | subst x | apply Agree.ite | apply Agree.then (k := State.putBit_ag _ _ _ _) | apply Agree.then (k := State.putPair_ag _ _ _ _) | apply Agree.then (k := State.tlLog_ag _ _ _ _ _) | apply Agree.then (k := State.setTl_ag _ _ _) | apply Agree.then (k := State.tlStep_ag _) | apply Agree.then (k := State.tlCfgDeny_ag _ _ _ _) | decide | split)

theorem execTlRunSet_ag (r : Req) (n : Fin 64) (s : State) : ∀ t1, execTlRunSet r n s = .next t1 → Agree 326551888393 s t1 := by
  intro t1 h
  obtain rfl := Host.Outcome.next.inj h
  repeat' (with_reducible first | assumption | apply Agree.refl | intro _ | apply Agree.ite | apply Agree.then (k := State.tlRunSet_ag _ _ _) | decide)

theorem State.tlRunClear_ag (s : State) (r : Req) (n : Nat) : Agree 156169 s (State.tlRunClear s r n) := by
  unfold State.tlRunClear
  repeat' (with_reducible first | assumption | apply Agree.refl | intro _ | apply Agree.ite | apply Agree.then (k := State.putBit_ag _ _ _ _) | apply Agree.then (k := State.fioDrive_ag _) | apply Agree.then (k := State.tlLog_ag _ _ _ _ _) | apply Agree.then (k := State.tlStop_ag _ _) | apply Agree.then (k := State.tlCfgDeny_ag _ _ _ _) | decide | split)

theorem execTlRunClear_ag (r : Req) (n : Fin 64) (s : State) : ∀ t1, execTlRunClear r n s = .next t1 → Agree 156169 s t1 := by
  intro t1 h
  obtain rfl := Host.Outcome.next.inj h
  repeat' (with_reducible first | assumption | apply Agree.refl | intro _ | apply Agree.ite | apply Agree.then (k := State.tlRunClear_ag _ _ _) | decide)

theorem State.tlRunWrite_ag (s : State) (r : Req) (lo : Bool) (v : Word) : Agree 326551888393 s (State.tlRunWrite s r lo v) := by
  unfold State.tlRunWrite
  repeat' (with_reducible first | assumption | apply Agree.refl | intro _ | (extract_lets +onlyGivenNames x; first | (refine (fun (_ : Agree 326551888393 s x) => ?_ : Agree 326551888393 s x → _) ?_; clear_value x) | (refine (fun (_ : Agree 326551888393 s x.1) => ?_ : Agree 326551888393 s x.1 → _) ?_; clear_value x) | clear_value x) | subst x | apply Agree.ite | apply Agree.foldl | apply Agree.then (k := State.tlRunSet_ag _ _ _) | apply Agree.then (k := State.tlRunClear_ag _ _ _) | decide | split)

theorem State.tripWrite_ag (s : State) (r : Req) (off : Nat) (v : Word) : Agree 876307702281 s (State.tripWrite s r off v) := by
  unfold State.tripWrite
  repeat' (with_reducible first | assumption | apply Agree.refl | intro _ | apply Agree.ite | apply Agree.then (k := State.regWrite_ag _ _ _) | apply Agree.then (k := State.tlCfgDeny_ag _ _ _ _) | apply Agree.then (k := State.tlCfgWrite_ag _ _ _ _ _) | apply Agree.then (k := State.tripKeyWrite_ag _ _ _) | apply Agree.then (k := State.tlRunWrite_ag _ _ _ _) | decide | split)

end Sys2Proof.Machine
end

