-- ==== Sys2Proof/Laws/Frame/Detect.lean ====
section
/-!
SUPPORT. Frames of the operations of Machine/Detect.lean: the fields each can change, as a mask.
-/
set_option linter.unusedTactic false
set_option linter.unreachableTactic false
namespace Sys2Proof.Machine
open Sys2Proof

theorem State.primDeny_ag (s : State) (c off : Nat) (v : Word) : Agree 25089 s (State.primDeny s c off v) := by
  unfold State.primDeny
  repeat' (with_reducible first | assumption | apply Agree.refl | intro _ | apply Agree.then (k := State.putBit_ag _ _ _ _) | apply Agree.then (k := State.irq_ag _ _) | apply Agree.then (k := State.log_ag _ _ _ _ _) | decide)

theorem State.ifdEvaluate_ag (s : State) (c : Nat) : Agree 134217728 s (State.ifdEvaluate s c) := by
  unfold State.ifdEvaluate
  repeat' (with_reducible first | assumption | apply Agree.refl | intro _ | (extract_lets +onlyGivenNames x; first | (refine (fun (_ : Agree 134217728 s x) => ?_ : Agree 134217728 s x → _) ?_; clear_value x) | (refine (fun (_ : Agree 134217728 s x.1) => ?_ : Agree 134217728 s x.1 → _) ?_; clear_value x) | clear_value x) | subst x | apply Agree.ite | apply Agree.then (k := State.detMod_ag _ _ _) | decide | split)

theorem State.ifdPublish_ag (s : State) (c : Nat) : Agree 25089 s (State.ifdPublish s c) := by
  unfold State.ifdPublish
  repeat' (with_reducible first | assumption | apply Agree.refl | intro _ | (extract_lets +onlyGivenNames x; first | (refine (fun (_ : Agree 25089 s x) => ?_ : Agree 25089 s x → _) ?_; clear_value x) | (refine (fun (_ : Agree 25089 s x.1) => ?_ : Agree 25089 s x.1 → _) ?_; clear_value x) | clear_value x) | subst x | apply Agree.ite | apply Agree.then (k := State.put_ag _ _ _ _ _) | apply Agree.then (k := State.putBit_ag _ _ _ _) | apply Agree.then (k := State.count_ag _ _ _ _ _) | apply Agree.then (k := State.irq_ag _ _) | apply Agree.then (k := State.log_ag _ _ _ _ _) | decide | split)

theorem State.ifdExpire_ag (s : State) (c : Nat) : Agree 326551888393 s (State.ifdExpire s c) := by
  unfold State.ifdExpire
  repeat' (with_reducible first | assumption | apply Agree.refl | intro _ | apply Agree.ite | apply Agree.then (k := State.putBit_ag _ _ _ _) | apply Agree.then (k := State.tlStep_ag _) | decide | split)

theorem execIfdHoldExpiry_ag (c : Fin 16) (s : State) : ∀ t1, execIfdHoldExpiry c s = .next t1 → Agree 326551888393 s t1 := by
  intro t1 h
  obtain rfl := Host.Outcome.next.inj h
  repeat' (with_reducible first | assumption | apply Agree.refl | intro _ | apply Agree.then (k := State.ifdExpire_ag _ _) | decide)

theorem State.cdDropout_ag (s : State) (c : Nat) : Agree 326551888393 s (State.cdDropout s c) := by
  unfold State.cdDropout
  repeat' (with_reducible first | assumption | apply Agree.refl | intro _ | apply Agree.ite | apply Agree.then (k := State.putBit_ag _ _ _ _) | apply Agree.then (k := State.tlStep_ag _) | apply Agree.then (k := State.bfCluster_ag _ _) | decide | split)

theorem execCdDropout_ag (c : Fin 16) (s : State) : ∀ t1, execCdDropout c s = .next t1 → Agree 326551888393 s t1 := by
  intro t1 h
  obtain rfl := Host.Outcome.next.inj h
  repeat' (with_reducible first | assumption | apply Agree.refl | intro _ | apply Agree.then (k := State.cdDropout_ag _ _) | decide)

theorem State.ifdKey_ag (s : State) (c : Nat) (v : Word) : Agree 134242817 s (State.ifdKey s c v) := by
  unfold State.ifdKey
  repeat' (with_reducible first | assumption | apply Agree.refl | intro _ | (extract_lets +onlyGivenNames x; first | (refine (fun (_ : Agree 134242817 s x) => ?_ : Agree 134242817 s x → _) ?_; clear_value x) | (refine (fun (_ : Agree 134242817 s x.1) => ?_ : Agree 134242817 s x.1 → _) ?_; clear_value x) | clear_value x) | subst x | apply Agree.ite | apply Agree.then (k := State.putBit_ag _ _ _ _) | apply Agree.then (k := State.detMod_ag _ _ _) | apply Agree.then (k := State.irq_ag _ _) | apply Agree.then (k := State.log_ag _ _ _ _ _) | decide | split)

theorem execIfdKeyWrite_ag (c : Fin 16) (v : Word) (s : State) : ∀ t1, execIfdKeyWrite c v s = .next t1 → Agree 134242817 s t1 := by
  intro t1 h
  obtain rfl := Host.Outcome.next.inj h
  repeat' (with_reducible first | assumption | apply Agree.refl | intro _ | apply Agree.then (k := State.ifdKey_ag _ _ _) | decide)

theorem State.ifdStore_ag (s : State) (c k : Nat) (v : Word) : Agree 25089 s (State.ifdStore s c k v) := by
  unfold State.ifdStore
  repeat' (with_reducible first | assumption | apply Agree.refl | intro _ | apply Agree.ite | apply Agree.then (k := State.wr_ag _ _ _) | apply Agree.then (k := State.primDeny_ag _ _ _ _) | decide | split)

theorem State.ifdLockedWrite_ag (s : State) (c k : Nat) (v : Word) : Agree 25089 s (State.ifdLockedWrite s c k v) := by
  unfold State.ifdLockedWrite
  repeat' (with_reducible first | assumption | apply Agree.refl | intro _ | apply Agree.ite | apply Agree.then (k := State.ifdStore_ag _ _ _ _) | decide | split)

theorem execIfdLockedWrite_ag (c : Fin 16) (k : Fin 7) (v : Word) (s : State) : ∀ t1, execIfdLockedWrite c k v s = .next t1 → Agree 25089 s t1 := by
  intro t1 h
  obtain rfl := Host.Outcome.next.inj h
  repeat' (with_reducible first | assumption | apply Agree.refl | intro _ | apply Agree.then (k := State.ifdLockedWrite_ag _ _ _ _) | decide)

theorem State.roleStore_ag (s : State) (c : Nat) (v : Word) : Agree 25089 s (State.roleStore s c v) := by
  unfold State.roleStore
  repeat' (with_reducible first | assumption | apply Agree.refl | intro _ | apply Agree.ite | apply Agree.then (k := State.wr_ag _ _ _) | apply Agree.then (k := State.primDeny_ag _ _ _ _) | decide | split)

theorem State.clRoleWrite_ag (s : State) (c : Nat) (v : Word) : Agree 25089 s (State.clRoleWrite s c v) := by
  unfold State.clRoleWrite
  repeat' (with_reducible first | assumption | apply Agree.refl | intro _ | apply Agree.ite | apply Agree.then (k := State.roleStore_ag _ _ _) | decide | split)

theorem execClRoleWrite_ag (c : Fin 16) (v : Word) (s : State) : ∀ t1, execClRoleWrite c v s = .next t1 → Agree 25089 s t1 := by
  intro t1 h
  obtain rfl := Host.Outcome.next.inj h
  repeat' (with_reducible first | assumption | apply Agree.refl | intro _ | apply Agree.then (k := State.clRoleWrite_ag _ _ _) | decide)

theorem State.ifdPending_ag (s : State) (c : Nat) : Agree 1 s (State.ifdPending s c) := by
  unfold State.ifdPending
  repeat' (with_reducible first | assumption | apply Agree.refl | intro _ | apply Agree.then (k := State.putBit_ag _ _ _ _) | decide)

theorem State.ifdStopReq_ag (s : State) (c : Nat) : Agree 134217729 s (State.ifdStopReq s c) := by
  unfold State.ifdStopReq
  repeat' (with_reducible first | assumption | apply Agree.refl | intro _ | (extract_lets +onlyGivenNames x; first | (refine (fun (_ : Agree 134217729 s x) => ?_ : Agree 134217729 s x → _) ?_; clear_value x) | (refine (fun (_ : Agree 134217729 s x.1) => ?_ : Agree 134217729 s x.1 → _) ?_; clear_value x) | clear_value x) | subst x | apply Agree.then (k := State.putBit_ag _ _ _ _) | apply Agree.then (k := State.detMod_ag _ _ _) | apply Agree.then (k := State.ifdPending_ag _ _) | decide)

theorem State.ifdStartReq_ag (s : State) (c : Nat) : Agree 134217729 s (State.ifdStartReq s c) := by
  unfold State.ifdStartReq
  repeat' (with_reducible first | assumption | apply Agree.refl | intro _ | (extract_lets +onlyGivenNames x; first | (refine (fun (_ : Agree 134217729 s x) => ?_ : Agree 134217729 s x → _) ?_; clear_value x) | (refine (fun (_ : Agree 134217729 s x.1) => ?_ : Agree 134217729 s x.1 → _) ?_; clear_value x) | clear_value x) | subst x | apply Agree.then (k := State.putBit_ag _ _ _ _) | apply Agree.then (k := State.detMod_ag _ _ _) | apply Agree.then (k := State.ifdPending_ag _ _) | decide)

theorem execIfdRunStop_ag (c : Fin 16) (s : State) : ∀ t1, execIfdRunStop c s = .next t1 → Agree 134217729 s t1 := by
  intro t1 h
  obtain rfl := Host.Outcome.next.inj h
  repeat' (with_reducible first | assumption | apply Agree.refl | intro _ | apply Agree.ite | apply Agree.then (k := State.ifdStopReq_ag _ _) | decide | split)

theorem execIfdRunStart_ag (c : Fin 16) (s : State) : ∀ t1, execIfdRunStart c s = .next t1 → Agree 134217729 s t1 := by
  intro t1 h
  obtain rfl := Host.Outcome.next.inj h
  repeat' (with_reducible first | assumption | apply Agree.refl | intro _ | apply Agree.ite | apply Agree.then (k := State.ifdStartReq_ag _ _) | decide | split)

theorem State.ifdStopApply_ag (s : State) (c : Nat) : Agree 326551888393 s (State.ifdStopApply s c) := by
  unfold State.ifdStopApply
  repeat' (with_reducible first | assumption | apply Agree.refl | intro _ | (extract_lets +onlyGivenNames x; first | (refine (fun (_ : Agree 326551888393 s x) => ?_ : Agree 326551888393 s x → _) ?_; clear_value x) | (refine (fun (_ : Agree 326551888393 s x.1) => ?_ : Agree 326551888393 s x.1 → _) ?_; clear_value x) | clear_value x) | subst x | apply Agree.ite | apply Agree.then (k := State.put_ag _ _ _ _ _) | apply Agree.then (k := State.putBit_ag _ _ _ _) | apply Agree.then (k := State.detMod_ag _ _ _) | apply Agree.then (k := State.tlStep_ag _) | apply Agree.then (k := State.ifdPending_ag _ _) | decide | split)

theorem execIfdStopApply_ag (c : Fin 16) (s : State) : ∀ t1, execIfdStopApply c s = .next t1 → Agree 326551888393 s t1 := by
  intro t1 h
  obtain rfl := Host.Outcome.next.inj h
  repeat' (with_reducible first | assumption | apply Agree.refl | intro _ | apply Agree.then (k := State.ifdStopApply_ag _ _) | decide)

theorem State.ifdRestart_ag (s : State) (c : Nat) : Agree 8724177409 s (State.ifdRestart s c) := by
  unfold State.ifdRestart
  repeat' (with_reducible first | assumption | apply Agree.refl | intro _ | (extract_lets +onlyGivenNames x; first | (refine (fun (_ : Agree 8724177409 s x) => ?_ : Agree 8724177409 s x → _) ?_; clear_value x) | (refine (fun (_ : Agree 8724177409 s x.1) => ?_ : Agree 8724177409 s x.1 → _) ?_; clear_value x) | clear_value x) | subst x | apply Agree.then (k := State.putBit_ag _ _ _ _) | apply Agree.then (k := State.detMod_ag _ _ _) | apply Agree.then (k := State.irq_ag _ _) | apply Agree.then (k := State.log_ag _ _ _ _ _) | apply Agree.then (k := State.setEff_ag _ _ _) | apply Agree.then (k := State.ifdPending_ag _ _) | decide)

theorem execIfdRestartApply_ag (c : Fin 16) (s : State) : ∀ t1, execIfdRestartApply c s = .next t1 → Agree 8724177409 s t1 := by
  intro t1 h
  obtain rfl := Host.Outcome.next.inj h
  repeat' (with_reducible first | assumption | apply Agree.refl | intro _ | apply Agree.ite | apply Agree.then (k := State.ifdRestart_ag _ _) | decide | split)

theorem execLightInputEdge_ag (ch : Fin 48) (on : Bool) (s : State) : ∀ t1, execLightInputEdge ch on s = .next t1 → Agree 563345493221897 s t1 := by
  intro t1 h
  obtain rfl := Host.Outcome.next.inj h
  repeat' (with_reducible first | assumption | apply Agree.refl | intro _ | apply Agree.then (k := State.lightEdge_ag _ _ _) | decide)

theorem State.coinExpire_ag (s : State) (c : Nat) (light : Bool) : Agree 326551921161 s (State.coinExpire s c light) := by
  unfold State.coinExpire
  repeat' (with_reducible first | assumption | apply Agree.refl | intro _ | (extract_lets +onlyGivenNames x; first | (refine (fun (_ : Agree 326551921161 s x) => ?_ : Agree 326551921161 s x → _) ?_; clear_value x) | (refine (fun (_ : Agree 326551921161 s x.1) => ?_ : Agree 326551921161 s x.1 → _) ?_; clear_value x) | clear_value x) | subst x | apply Agree.ite | apply Agree.then (k := State.reachCnt_ag _ _) | apply Agree.then (k := State.afUpdate_ag _ _) | decide | split)

theorem execCoinWindowExpiry_ag (c : Fin 16) (light : Bool) (s : State) : ∀ t1, execCoinWindowExpiry c light s = .next t1 → Agree 326551921161 s t1 := by
  intro t1 h
  obtain rfl := Host.Outcome.next.inj h
  repeat' (with_reducible first | assumption | apply Agree.refl | intro _ | apply Agree.then (k := State.coinExpire_ag _ _ _) | decide)

theorem State.afCfgWrite_ag (s : State) (c : Nat) (v : Word) : Agree 326551888393 s (State.afCfgWrite s c v) := by
  unfold State.afCfgWrite
  repeat' (with_reducible first | assumption | apply Agree.refl | intro _ | (extract_lets +onlyGivenNames x; first | (refine (fun (_ : Agree 326551888393 s x) => ?_ : Agree 326551888393 s x → _) ?_; clear_value x) | (refine (fun (_ : Agree 326551888393 s x.1) => ?_ : Agree 326551888393 s x.1 → _) ?_; clear_value x) | clear_value x) | subst x | apply Agree.ite | apply Agree.then (k := State.wr_ag _ _ _) | apply Agree.then (k := State.putBit_ag _ _ _ _) | apply Agree.then (k := State.irq_ag _ _) | apply Agree.then (k := State.log_ag _ _ _ _ _) | apply Agree.then (k := State.afUpdate_ag _ _) | apply Agree.then (k := State.primDeny_ag _ _ _ _) | decide | split)

theorem execAfCfgWrite_ag (c : Fin 16) (v : Word) (s : State) : ∀ t1, execAfCfgWrite c v s = .next t1 → Agree 326551888393 s t1 := by
  intro t1 h
  obtain rfl := Host.Outcome.next.inj h
  repeat' (with_reducible first | assumption | apply Agree.refl | intro _ | apply Agree.then (k := State.afCfgWrite_ag _ _ _) | decide)

theorem State.wfShow_ag (s : State) (c : Nat) : Agree 562949953421313 s (State.wfShow s c) := by
  unfold State.wfShow
  repeat' (with_reducible first | assumption | apply Agree.refl | intro _ | (extract_lets +onlyGivenNames x; first | (refine (fun (_ : Agree 562949953421313 s x) => ?_ : Agree 562949953421313 s x → _) ?_; clear_value x) | (refine (fun (_ : Agree 562949953421313 s x.1) => ?_ : Agree 562949953421313 s x.1 → _) ?_; clear_value x) | clear_value x) | subst x | apply Agree.ite | apply Agree.foldl | apply Agree.then (k := State.wr_ag _ _ _) | apply Agree.then (k := State.put_ag _ _ _ _ _) | apply Agree.then (k := State.drew_ag _) | decide | split)

theorem State.wfPush_ag (s : State) (c : Nat) (e : WfEntry) : Agree 562950087664129 s (State.wfPush s c e) := by
  unfold State.wfPush
  repeat' (with_reducible first | assumption | apply Agree.refl | intro _ | (extract_lets +onlyGivenNames x; first | (refine (fun (_ : Agree 562950087664129 s x) => ?_ : Agree 562950087664129 s x → _) ?_; clear_value x) | (refine (fun (_ : Agree 562950087664129 s x.1) => ?_ : Agree 562950087664129 s x.1 → _) ?_; clear_value x) | clear_value x) | subst x | apply Agree.ite | apply Agree.then (k := State.count_ag _ _ _ _ _) | apply Agree.then (k := State.detMod_ag _ _ _) | apply Agree.then (k := State.irq_ag _ _) | apply Agree.then (k := State.log_ag _ _ _ _ _) | apply Agree.then (k := State.wfShow_ag _ _) | decide | split)

theorem State.wfPop_ag (s : State) (c : Nat) : Agree 562950087639041 s (State.wfPop s c) := by
  unfold State.wfPop
  repeat' (with_reducible first | assumption | apply Agree.refl | intro _ | (extract_lets +onlyGivenNames x; first | (refine (fun (_ : Agree 562950087639041 s x) => ?_ : Agree 562950087639041 s x → _) ?_; clear_value x) | (refine (fun (_ : Agree 562950087639041 s x.1) => ?_ : Agree 562950087639041 s x.1 → _) ?_; clear_value x) | clear_value x) | subst x | apply Agree.ite | apply Agree.then (k := State.detMod_ag _ _ _) | apply Agree.then (k := State.wfShow_ag _ _) | decide | split)

theorem execWfPop_ag (c : Fin 16) (s : State) : ∀ t1, execWfPop c s = .next t1 → Agree 562950087639041 s t1 := by
  intro t1 h
  obtain rfl := Host.Outcome.next.inj h
  repeat' (with_reducible first | assumption | apply Agree.refl | intro _ | apply Agree.then (k := State.wfPop_ag _ _) | decide)

theorem execWfFlush_ag (c : Fin 16) (s : State) : ∀ t1, execWfFlush c s = .next t1 → Agree 562950087639041 s t1 := by
  intro t1 h
  obtain rfl := Host.Outcome.next.inj h
  repeat' (with_reducible first | assumption | apply Agree.refl | intro _ | apply Agree.then (k := State.detMod_ag _ _ _) | apply Agree.then (k := State.wfShow_ag _ _) | decide)

theorem State.fpdOperate_ag (s : State) (ch m : Nat) (d : FpdU) : Agree 563276572418569 s (State.fpdOperate s ch m d) := by
  unfold State.fpdOperate
  repeat' (with_reducible first | assumption | apply Agree.refl | intro _ | (extract_lets +onlyGivenNames x; first | (refine (fun (_ : Agree 563276572418569 s x) => ?_ : Agree 563276572418569 s x → _) ?_; clear_value x) | (refine (fun (_ : Agree 563276572418569 s x.1) => ?_ : Agree 563276572418569 s x.1 → _) ?_; clear_value x) | clear_value x) | subst x | apply Agree.ite | apply Agree.iteP | apply Agree.then (k := State.putBit_ag _ _ _ _) | apply Agree.then (k := State.setFpd_ag _ _ _) | apply Agree.then (k := State.irq_ag _ _) | apply Agree.then (k := State.log_ag _ _ _ _ _) | apply Agree.then (k := State.afUpdate_ag _ _) | apply Agree.then (k := State.wfPush_ag _ _ _) | decide | split)

theorem State.fpdStep_ag (s : State) (ch m : Nat) (w : Option Int) : Agree 563276572418569 s (State.fpdStep s ch m w) := by
  unfold State.fpdStep
  repeat' (with_reducible first | assumption | apply Agree.refl | intro _ | (extract_lets +onlyGivenNames x; first | (refine (fun (_ : Agree 563276572418569 s x) => ?_ : Agree 563276572418569 s x → _) ?_; clear_value x) | (refine (fun (_ : Agree 563276572418569 s x.1) => ?_ : Agree 563276572418569 s x.1 → _) ?_; clear_value x) | clear_value x) | subst x | apply Agree.ite | apply Agree.then (k := State.setFpd_ag _ _ _) | apply Agree.then (k := State.fpdOperate_ag _ _ _ _) | decide | split)

theorem State.fpdSilence_ag (s : State) (c : Nat) : Agree 326618997257 s (State.fpdSilence s c) := by
  unfold State.fpdSilence
  repeat' (with_reducible first | assumption | apply Agree.refl | intro _ | (extract_lets +onlyGivenNames x; first | (refine (fun (_ : Agree 326618997257 s x) => ?_ : Agree 326618997257 s x → _) ?_; clear_value x) | (refine (fun (_ : Agree 326618997257 s x.1) => ?_ : Agree 326618997257 s x.1 → _) ?_; clear_value x) | clear_value x) | subst x | apply Agree.ite | apply Agree.foldl | apply Agree.then (k := State.put_ag _ _ _ _ _) | apply Agree.then (k := State.setFpd_ag _ _ _) | apply Agree.then (k := State.afUpdate_ag _ _) | decide | split)

theorem State.fpdFall_ag (s : State) (ch : Nat) : Agree 326551888393 s (State.fpdFall s ch) := by
  unfold State.fpdFall
  repeat' (with_reducible first | assumption | apply Agree.refl | intro _ | (extract_lets +onlyGivenNames x; first | (refine (fun (_ : Agree 326551888393 s x) => ?_ : Agree 326551888393 s x → _) ?_; clear_value x) | (refine (fun (_ : Agree 326551888393 s x.1) => ?_ : Agree 326551888393 s x.1 → _) ?_; clear_value x) | clear_value x) | subst x | apply Agree.ite | apply Agree.then (k := State.putBit_ag _ _ _ _) | apply Agree.then (k := State.afUpdate_ag _ _) | decide | split)

theorem execFpdStretchEnd_ag (ch : Fin 128) (s : State) : ∀ t1, execFpdStretchEnd ch s = .next t1 → Agree 326551888393 s t1 := by
  intro t1 h
  obtain rfl := Host.Outcome.next.inj h
  repeat' (with_reducible first | assumption | apply Agree.refl | intro _ | apply Agree.then (k := State.fpdFall_ag _ _) | decide)

end Sys2Proof.Machine
end

