-- ==== Sys2Proof/Laws/Frame/Track.lean ====
section
/-!
SUPPORT. Frames of the operations of Machine/Track.lean: the fields each can change, as a mask.
-/
set_option linter.unusedTactic false
set_option linter.unreachableTactic false
namespace Sys2Proof.Machine
open Sys2Proof

theorem State.alignTrk_ag (s : State) (c : Nat) : Agree 33554432 s (State.alignTrk s c) := by
  unfold State.alignTrk
  repeat' (with_reducible first | assumption | apply Agree.refl | intro _ | apply Agree.optOr | apply Agree.optMap | apply Agree.then (k := State.trkMod_ag _ _ _) | decide)

theorem State.trkNote_ag (s : State) (c : Nat) : Agree 33554432 s (State.trkNote s c) := by
  unfold State.trkNote
  repeat' (with_reducible first | assumption | apply Agree.refl | intro _ | apply Agree.then (k := State.trkMod_ag _ _ _) | decide)

theorem State.trkNotes_ag (s : State) (c n : Nat) : Agree 33554432 s (s.trkNotes c n) := by
  induction n generalizing s with
  | zero => exact Agree.refl _ _
  | succ n ih =>
    unfold State.trkNotes
    exact Agree.ite (fun _ => Agree.refl _ _)
      (fun _ => ((Agree.mono (State.trkMod_ag _ _ _) (by decide)).then (State.trkNote_ag _ _) (by decide)).then (ih _) (by decide))

theorem State.trkForm_ag (s : State) (c : Nat) : Agree 33554432 s (State.trkForm s c) := by
  unfold State.trkForm
  repeat' (with_reducible first | assumption | apply Agree.refl | intro _ | (extract_lets +onlyGivenNames x; first | (refine (fun (_ : Agree 33554432 s x) => ?_ : Agree 33554432 s x → _) ?_; clear_value x) | (refine (fun (_ : Agree 33554432 s x.1) => ?_ : Agree 33554432 s x.1 → _) ?_; clear_value x) | clear_value x) | subst x | apply Agree.ite | apply Agree.then (k := State.trkMod_ag _ _ _) | decide | split)

theorem State.trkSample_ag (s : State) (c : Nat) : Agree 33554432 s (State.trkSample s c) := by
  unfold State.trkSample
  repeat' (with_reducible first | assumption | apply Agree.refl | intro _ | (extract_lets +onlyGivenNames x; first | (refine (fun (_ : Agree 33554432 s x) => ?_ : Agree 33554432 s x → _) ?_; clear_value x) | (refine (fun (_ : Agree 33554432 s x.1) => ?_ : Agree 33554432 s x.1 → _) ?_; clear_value x) | clear_value x) | subst x | apply Agree.ite | apply Agree.then (k := State.trkMod_ag _ _ _) | apply Agree.then (k := State.trkNote_ag _ _) | apply Agree.then (k := State.trkForm_ag _ _) | decide | split)

theorem execTrkSample_ag (c : Fin 16) (s : State) : ∀ t1, execTrkSample c s = .next t1 → Agree 33554432 s t1 := by
  intro t1 h
  obtain rfl := Host.Outcome.next.inj h
  repeat' (with_reducible first | assumption | apply Agree.refl | intro _ | apply Agree.then (k := State.trkSample_ag _ _) | decide)

theorem State.deliverSet_ag (s : State) (c : Nat) (x : TrkSet) : Agree 2181038081 s (State.deliverSet s c x).1 := by
  unfold State.deliverSet
  repeat' (with_reducible first | assumption | apply Agree.refl | intro _ | (extract_lets +onlyGivenNames x; first | (refine (fun (_ : Agree 2181038081 s x) => ?_ : Agree 2181038081 s x → _) ?_; clear_value x) | (refine (fun (_ : Agree 2181038081 s x.1) => ?_ : Agree 2181038081 s x.1 → _) ?_; clear_value x) | clear_value x) | subst x | apply Agree.ite | apply Agree.foldl | apply Agree.iteP | apply Agree.foldlP | apply Agree.then (k := State.trkMod_ag _ _ _) | apply Agree.then (k := State.wrMem_ag _ _ _ _) | apply Agree.then (k := State.openTrk_ag _ _ _ _ _ _) | decide | split)

theorem State.deliverTrk_ag (s : State) (c : Nat) : Agree 2181038081 s (State.deliverTrk s c) := by
  unfold State.deliverTrk
  repeat' (with_reducible first | assumption | apply Agree.refl | intro _ | (extract_lets +onlyGivenNames x; first | (refine (fun (_ : Agree 2181038081 s x) => ?_ : Agree 2181038081 s x → _) ?_; clear_value x) | (refine (fun (_ : Agree 2181038081 s x.1) => ?_ : Agree 2181038081 s x.1 → _) ?_; clear_value x) | clear_value x) | subst x | apply Agree.ite | apply Agree.foldl | apply Agree.iteP | apply Agree.foldlP | apply Agree.then (k := State.trkMod_ag _ _ _) | apply Agree.then (k := State.trkSample_ag _ _) | apply Agree.then (k := State.deliverSet_ag _ _ _) | decide | split)

theorem State.trkUpdate_ag (s : State) (c : Nat) (dth : Word) : Agree 33554433 s (State.trkUpdate s c dth) := by
  unfold State.trkUpdate
  repeat' (with_reducible first | assumption | apply Agree.refl | intro _ | (extract_lets +onlyGivenNames x; first | (refine (fun (_ : Agree 33554433 s x) => ?_ : Agree 33554433 s x → _) ?_; clear_value x) | (refine (fun (_ : Agree 33554433 s x.1) => ?_ : Agree 33554433 s x.1 → _) ?_; clear_value x) | clear_value x) | subst x | apply Agree.ite | apply Agree.iteP | apply Agree.then (k := State.wr_ag _ _ _) | apply Agree.then (k := State.putBit_ag _ _ _ _) | apply Agree.then (k := State.count_ag _ _ _ _ _) | apply Agree.then (k := State.trkMod_ag _ _ _) | decide | split)

theorem State.trkHold_ag (s : State) (c : Nat) : Agree 33579521 s (State.trkHold s c) := by
  unfold State.trkHold
  repeat' (with_reducible first | assumption | apply Agree.refl | intro _ | (extract_lets +onlyGivenNames x; first | (refine (fun (_ : Agree 33579521 s x) => ?_ : Agree 33579521 s x → _) ?_; clear_value x) | (refine (fun (_ : Agree 33579521 s x.1) => ?_ : Agree 33579521 s x.1 → _) ?_; clear_value x) | clear_value x) | subst x | apply Agree.ite | apply Agree.then (k := State.putBit_ag _ _ _ _) | apply Agree.then (k := State.trkMod_ag _ _ _) | apply Agree.then (k := State.irq_ag _ _) | apply Agree.then (k := State.log_ag _ _ _ _ _) | decide | split)

theorem State.trkCycle_ag (s : State) (c : Nat) : Agree 33579521 s (State.trkCycle s c) := by
  unfold State.trkCycle
  repeat' (with_reducible first | assumption | apply Agree.refl | intro _ | (extract_lets +onlyGivenNames x; first | (refine (fun (_ : Agree 33579521 s x) => ?_ : Agree 33579521 s x → _) ?_; clear_value x) | (refine (fun (_ : Agree 33579521 s x.1) => ?_ : Agree 33579521 s x.1 → _) ?_; clear_value x) | clear_value x) | subst x | apply Agree.ite | apply Agree.then (k := State.trkMod_ag _ _ _) | apply Agree.then (k := State.trkUpdate_ag _ _ _) | apply Agree.then (k := State.trkHold_ag _ _) | decide | split)

theorem execTrkCycleComplete_ag (c : Fin 16) (s : State) : ∀ t1, execTrkCycleComplete c s = .next t1 → Agree 33579521 s t1 := by
  intro t1 h
  obtain rfl := Host.Outcome.next.inj h
  repeat' (with_reducible first | assumption | apply Agree.refl | intro _ | apply Agree.then (k := State.trkCycle_ag _ _) | decide)

theorem State.trkRestart_ag (s : State) (c : Nat) : Agree 33554433 s (State.trkRestart s c) := by
  unfold State.trkRestart
  repeat' (with_reducible first | assumption | apply Agree.refl | intro _ | (extract_lets +onlyGivenNames x; first | (refine (fun (_ : Agree 33554433 s x) => ?_ : Agree 33554433 s x → _) ?_; clear_value x) | (refine (fun (_ : Agree 33554433 s x.1) => ?_ : Agree 33554433 s x.1 → _) ?_; clear_value x) | clear_value x) | subst x | apply Agree.ite | apply Agree.then (k := State.wr_ag _ _ _) | apply Agree.then (k := State.put_ag _ _ _ _ _) | apply Agree.then (k := State.setTracker_ag _ _ _) | decide | split)

theorem State.trkCfgWrite_ag (s : State) (c : Nat) (v : Word) : Agree 8589934593 s (State.trkCfgWrite s c v) := by
  unfold State.trkCfgWrite
  repeat' (with_reducible first | assumption | apply Agree.refl | intro _ | (extract_lets +onlyGivenNames x; first | (refine (fun (_ : Agree 8589934593 s x) => ?_ : Agree 8589934593 s x → _) ?_; clear_value x) | (refine (fun (_ : Agree 8589934593 s x.1) => ?_ : Agree 8589934593 s x.1 → _) ?_; clear_value x) | clear_value x) | subst x | apply Agree.ite | apply Agree.then (k := State.wr_ag _ _ _) | apply Agree.then (k := State.putBit_ag _ _ _ _) | apply Agree.then (k := State.setEff_ag _ _ _) | decide | split)

theorem execTrkCfgWrite_ag (c : Fin 16) (v : Word) (s : State) : ∀ t1, execTrkCfgWrite c v s = .next t1 → Agree 8589934593 s t1 := by
  intro t1 h
  obtain rfl := Host.Outcome.next.inj h
  repeat' (with_reducible first | assumption | apply Agree.refl | intro _ | apply Agree.then (k := State.trkCfgWrite_ag _ _ _) | decide)

theorem State.trkCfgApply_ag (s : State) (c : Nat) : Agree 8623489024 s (State.trkCfgApply s c) := by
  unfold State.trkCfgApply
  repeat' (with_reducible first | assumption | apply Agree.refl | intro _ | (extract_lets +onlyGivenNames x; first | (refine (fun (_ : Agree 8623489024 s x) => ?_ : Agree 8623489024 s x → _) ?_; clear_value x) | (refine (fun (_ : Agree 8623489024 s x.1) => ?_ : Agree 8623489024 s x.1 → _) ?_; clear_value x) | clear_value x) | subst x | apply Agree.ite | apply Agree.then (k := State.trkMod_ag _ _ _) | apply Agree.then (k := State.setEff_ag _ _ _) | decide | split)

theorem execTrkCfgApply_ag (c : Fin 16) (s : State) : ∀ t1, execTrkCfgApply c s = .next t1 → Agree 8623489024 s t1 := by
  intro t1 h
  obtain rfl := Host.Outcome.next.inj h
  repeat' (with_reducible first | assumption | apply Agree.refl | intro _ | apply Agree.then (k := State.trkCfgApply_ag _ _) | decide)

end Sys2Proof.Machine
end

