-- ==== Sys2Proof/Laws/Frame/Afe.lean ====
section
/-!
SUPPORT. Frames of the operations of Machine/Afe.lean: the fields each can change, as a mask.
-/
set_option linter.unusedTactic false
set_option linter.unreachableTactic false
namespace Sys2Proof.Machine
open Sys2Proof

theorem State.pllUnlock_ag (s : State) : Agree 25089 s (State.pllUnlock s) := by
  unfold State.pllUnlock
  repeat' (with_reducible first | assumption | apply Agree.refl | intro _ | (extract_lets +onlyGivenNames x; first | (refine (fun (_ : Agree 25089 s x) => ?_ : Agree 25089 s x → _) ?_; clear_value x) | (refine (fun (_ : Agree 25089 s x.1) => ?_ : Agree 25089 s x.1 → _) ?_; clear_value x) | clear_value x) | subst x | apply Agree.ite | apply Agree.then (k := State.putBit_ag _ _ _ _) | apply Agree.then (k := State.irq_ag _ _) | apply Agree.then (k := State.log_ag _ _ _ _ _) | decide | split)

theorem execAfePllUnlock_ag (s : State) : ∀ t1, execAfePllUnlock s = .next t1 → Agree 25089 s t1 := by
  intro t1 h
  obtain rfl := Host.Outcome.next.inj h
  repeat' (with_reducible first | assumption | apply Agree.refl | intro _ | apply Agree.then (k := State.pllUnlock_ag _) | decide)

theorem State.pllRelock_ag (s : State) : Agree 8796095119361 s (State.pllRelock s) := by
  unfold State.pllRelock
  repeat' (with_reducible first | assumption | apply Agree.refl | intro _ | (extract_lets +onlyGivenNames x; first | (refine (fun (_ : Agree 8796095119361 s x) => ?_ : Agree 8796095119361 s x → _) ?_; clear_value x) | (refine (fun (_ : Agree 8796095119361 s x.1) => ?_ : Agree 8796095119361 s x.1 → _) ?_; clear_value x) | clear_value x) | subst x | apply Agree.ite | apply Agree.foldl | apply Agree.then (k := State.putBit_ag _ _ _ _) | apply Agree.then (k := State.alignAll_ag _) | apply Agree.then (k := State.requestChain_ag _ _ _) | decide | split)

theorem execAfePllRelock_ag (s : State) : ∀ t1, execAfePllRelock s = .next t1 → Agree 8796095119361 s t1 := by
  intro t1 h
  obtain rfl := Host.Outcome.next.inj h
  repeat' (with_reducible first | assumption | apply Agree.refl | intro _ | apply Agree.then (k := State.pllRelock_ag _) | decide)

theorem State.checkStart_ag (s : State) (die : Nat) : Agree 1 s (State.checkStart s die) := by
  unfold State.checkStart
  repeat' (with_reducible first | assumption | apply Agree.refl | intro _ | apply Agree.then (k := State.putBit_ag _ _ _ _) | decide)

theorem State.recheck_ag (s : State) (die : Nat) : Agree 1 s (State.recheck s die) := by
  unfold State.recheck
  repeat' (with_reducible first | assumption | apply Agree.refl | intro _ | apply Agree.ite | apply Agree.then (k := State.checkStart_ag _ _) | decide | split)

theorem execAfeRecheck_ag (die : Fin 2) (s : State) : ∀ t1, execAfeRecheck die s = .next t1 → Agree 1 s t1 := by
  intro t1 h
  obtain rfl := Host.Outcome.next.inj h
  repeat' (with_reducible first | assumption | apply Agree.refl | intro _ | apply Agree.then (k := State.recheck_ag _ _) | decide)

theorem State.checkChannel_ag (s : State) (die j : Nat) (fine coarse : Int) : Agree 25089 s (State.checkChannel s die j fine coarse) := by
  unfold State.checkChannel
  repeat' (with_reducible first | assumption | apply Agree.refl | intro _ | (extract_lets +onlyGivenNames x; first | (refine (fun (_ : Agree 25089 s x) => ?_ : Agree 25089 s x → _) ?_; clear_value x) | (refine (fun (_ : Agree 25089 s x.1) => ?_ : Agree 25089 s x.1 → _) ?_; clear_value x) | clear_value x) | subst x | apply Agree.ite | apply Agree.then (k := State.putBit_ag _ _ _ _) | apply Agree.then (k := State.log_ag _ _ _ _ _) | apply Agree.then (k := State.irqRegion_ag _ _) | decide | split)

theorem State.checkDone_ag (s : State) (die : Nat) (refOk lockOk : Bool) (fine coarse : List Int) : Agree 8796095144449 s (State.checkDone s die refOk lockOk fine coarse) := by
  unfold State.checkDone
  repeat' (with_reducible first | assumption | apply Agree.refl | intro _ | (extract_lets +onlyGivenNames x; first | (refine (fun (_ : Agree 8796095144449 s x) => ?_ : Agree 8796095144449 s x → _) ?_; clear_value x) | (refine (fun (_ : Agree 8796095144449 s x.1) => ?_ : Agree 8796095144449 s x.1 → _) ?_; clear_value x) | clear_value x) | subst x | apply Agree.ite | apply Agree.foldl | apply Agree.then (k := State.putBit_ag _ _ _ _) | apply Agree.then (k := State.loseLane_ag _ _) | apply Agree.then (k := State.requestChain_ag _ _ _) | apply Agree.then (k := State.checkChannel_ag _ _ _ _ _) | decide | split)

theorem execAfeCheckDone_ag (die : Fin 2) (refOk lockOk : Bool) (fine coarse : List Int) (s : State) : ∀ t1, execAfeCheckDone die refOk lockOk fine coarse s = .next t1 → Agree 8796095144449 s t1 := by
  intro t1 h
  obtain rfl := Host.Outcome.next.inj h
  repeat' (with_reducible first | assumption | apply Agree.refl | intro _ | apply Agree.then (k := State.checkDone_ag _ _ _ _ _ _) | decide)

theorem State.clSrcWrite_ag (s : State) (c : Nat) (v : Word) : Agree 25089 s (s.clSrcWrite c v) := by
  unfold State.clSrcWrite
  extract_lets s1 n refuse
  have h1 : Agree 25089 s s1 := by
    apply Agree.ite <;> intro _
    · exact Agree.mono (State.putBit_ag _ _ _ _) (by decide)
    · apply Agree.refl
  have hr : ∀ t who, Agree 25089 s t → Agree 25089 s (refuse t who) := fun t who ht =>
    ((ht.then (State.putBit_ag _ _ _ _) (by decide)).then (State.irq_ag _ _) (by decide)).then (State.log_ag _ _ _ _ _) (by decide)
  clear_value s1 refuse
  apply Agree.ite <;> intro _
  · exact hr _ _ h1
  · split
    · exact hr _ _ h1
    · exact (h1.then (State.wr_ag _ _ _) (by decide)).then (State.putBit_ag _ _ _ _) (by decide)

theorem execClSrcWrite_ag (c : Fin 16) (v : Word) (s : State) : ∀ t1, execClSrcWrite c v s = .next t1 → Agree 25089 s t1 := by
  intro t1 h
  obtain rfl := Host.Outcome.next.inj h
  repeat' (with_reducible first | assumption | apply Agree.refl | intro _ | apply Agree.then (k := State.clSrcWrite_ag _ _ _) | decide)

theorem State.clusterRestart_ag (s : State) (c : Nat) : Agree 2181038081 s (State.clusterRestart s c) := by
  unfold State.clusterRestart
  repeat' (with_reducible first | assumption | apply Agree.refl | intro _ | (extract_lets +onlyGivenNames x; first | (refine (fun (_ : Agree 2181038081 s x) => ?_ : Agree 2181038081 s x → _) ?_; clear_value x) | (refine (fun (_ : Agree 2181038081 s x.1) => ?_ : Agree 2181038081 s x.1 → _) ?_; clear_value x) | clear_value x) | subst x | apply Agree.then (k := State.trkMod_ag _ _ _) | apply Agree.then (k := State.clearWindows_ag _ _) | apply Agree.then (k := State.alignTrk_ag _ _) | apply Agree.then (k := State.trkRestart_ag _ _) | decide)

theorem State.svBegin_ag (s : State) (n : Nat) : Agree 34359738368 s (State.svBegin s n) := by
  unfold State.svBegin
  repeat' (with_reducible first | assumption | apply Agree.refl | intro _ | apply Agree.then (k := State.setSvSlot_ag _ _ _) | decide)

theorem State.srcChange_ag (s : State) (c : Nat) : Agree 328806326793 s (State.srcChange s c) := by
  unfold State.srcChange
  repeat' (with_reducible first | assumption | apply Agree.refl | intro _ | (extract_lets +onlyGivenNames x; first | (refine (fun (_ : Agree 328806326793 s x) => ?_ : Agree 328806326793 s x → _) ?_; clear_value x) | (refine (fun (_ : Agree 328806326793 s x.1) => ?_ : Agree 328806326793 s x.1 → _) ?_; clear_value x) | clear_value x) | subst x | apply Agree.ite | apply Agree.whenI | apply Agree.foldl | apply Agree.then (k := State.putBit_ag _ _ _ _) | apply Agree.then (k := State.setClSrc_ag _ _ _) | apply Agree.then (k := State.log_ag _ _ _ _ _) | apply Agree.then (k := State.laneMod_ag _ _ _) | apply Agree.then (k := State.settleEvent_ag _ _ _ _) | apply Agree.then (k := State.expectCheck_ag _ _ _) | apply Agree.then (k := State.trkNotes_ag _ _ _) | apply Agree.then (k := State.fpdSilence_ag _ _) | apply Agree.then (k := State.clusterRestart_ag _ _) | apply Agree.then (k := State.svBegin_ag _ _) | decide | split)

theorem execSrcChange_ag (c : Fin 16) (s : State) : ∀ t1, execSrcChange c s = .next t1 → Agree 328806326793 s t1 := by
  intro t1 h
  obtain rfl := Host.Outcome.next.inj h
  repeat' (with_reducible first | assumption | apply Agree.refl | intro _ | apply Agree.then (k := State.srcChange_ag _ _) | decide)

end Sys2Proof.Machine
end

