-- ==== Sys2Proof/Laws/Frame/Time.lean ====
section
/-!
SUPPORT. Frames of the operations of Machine/Time.lean: the fields each can change, as a mask.
-/
set_option linter.unusedTactic false
set_option linter.unreachableTactic false
namespace Sys2Proof.Machine
open Sys2Proof

theorem State.tbErr_ag (s : State) (flag cause : Nat) (v : Word) (off : Nat) : Agree 25089 s (State.tbErr s flag cause v off) := by
  unfold State.tbErr
  repeat' (with_reducible first | assumption | apply Agree.refl | intro _ | apply Agree.then (k := State.putBit_ag _ _ _ _) | apply Agree.then (k := State.irq_ag _ _) | apply Agree.then (k := State.log_ag _ _ _ _ _) | decide)

theorem State.tbShow_ag (s : State) : Agree 1 s (State.tbShow s) := by
  unfold State.tbShow
  repeat' (with_reducible first | assumption | apply Agree.refl | intro _ | (extract_lets +onlyGivenNames x; first | (refine (fun (_ : Agree 1 s x) => ?_ : Agree 1 s x → _) ?_; clear_value x) | (refine (fun (_ : Agree 1 s x.1) => ?_ : Agree 1 s x.1 → _) ?_; clear_value x) | clear_value x) | subst x | apply Agree.then (k := State.put_ag _ _ _ _ _) | apply Agree.then (k := State.putBit_ag _ _ _ _) | decide)

theorem State.timeSet_ag (s : State) : Agree 32769 s (State.timeSet s) := by
  unfold State.timeSet
  repeat' (with_reducible first | assumption | apply Agree.refl | intro _ | apply Agree.then (k := State.putBit_ag _ _ _ _) | apply Agree.then (k := State.tbMod_ag _ _) | decide)

theorem State.setServo_ag (s : State) (v : Nat) : Agree 57857 s (State.setServo s v) := by
  unfold State.setServo
  repeat' (with_reducible first | assumption | apply Agree.refl | intro _ | (extract_lets +onlyGivenNames x; first | (refine (fun (_ : Agree 57857 s x) => ?_ : Agree 57857 s x → _) ?_; clear_value x) | (refine (fun (_ : Agree 57857 s x.1) => ?_ : Agree 57857 s x.1 → _) ?_; clear_value x) | clear_value x) | subst x | apply Agree.ite | apply Agree.then (k := State.put_ag _ _ _ _ _) | apply Agree.then (k := State.putBit_ag _ _ _ _) | apply Agree.then (k := State.irq_ag _ _) | apply Agree.then (k := State.log_ag _ _ _ _ _) | apply Agree.then (k := State.tbShow_ag _) | apply Agree.then (k := State.timeSet_ag _) | decide | split)

theorem State.setAddend_ag (s : State) (a : Nat) : Agree 1 s (State.setAddend s a) := by
  unfold State.setAddend
  repeat' (with_reducible first | assumption | apply Agree.refl | intro _ | apply Agree.then (k := State.wr_ag _ _ _) | apply Agree.then (k := State.put_ag _ _ _ _ _) | decide)

theorem State.steer_ag (s : State) (r : Int) : Agree 32769 s (State.steer s r) := by
  unfold State.steer
  repeat' (with_reducible first | assumption | apply Agree.refl | intro _ | apply Agree.then (k := State.wr_ag _ _ _) | apply Agree.then (k := State.tbMod_ag _ _) | apply Agree.then (k := State.setAddend_ag _ _) | decide)

theorem State.tbCmdStart_ag (s : State) (r : Req) (v : Word) : Agree 57857 s (State.tbCmdStart s r v) := by
  unfold State.tbCmdStart
  repeat' (with_reducible first | assumption | apply Agree.refl | intro _ | apply Agree.ite | apply Agree.then (k := State.tbMod_ag _ _) | apply Agree.then (k := State.tbErr_ag _ _ _ _ _) | decide | split)

theorem execTbCmdStart_ag (r : Req) (s : State) : ∀ t1, execTbCmdStart r s = .next t1 → Agree 57857 s t1 := by
  intro t1 h
  obtain rfl := Host.Outcome.next.inj h
  repeat' (with_reducible first | assumption | apply Agree.refl | intro _ | apply Agree.ite | apply Agree.then (k := State.tbCmdStart_ag _ _ _) | decide)

theorem State.nextEpoch_ag (s : State) : Agree 1 s (State.nextEpoch s) := by
  unfold State.nextEpoch
  repeat' (with_reducible first | assumption | apply Agree.refl | intro _ | apply Agree.then (k := State.put_ag _ _ _ _ _) | decide)

theorem State.tbStart_ag (s : State) : Agree 8796095439361 s (State.tbStart s) := by
  unfold State.tbStart
  repeat' (with_reducible first | assumption | apply Agree.refl | intro _ | (extract_lets +onlyGivenNames x; first | (refine (fun (_ : Agree 8796095439361 s x) => ?_ : Agree 8796095439361 s x → _) ?_; clear_value x) | (refine (fun (_ : Agree 8796095439361 s x.1) => ?_ : Agree 8796095439361 s x.1 → _) ?_; clear_value x) | clear_value x) | subst x | apply Agree.ite | apply Agree.then (k := State.put_ag _ _ _ _ _) | apply Agree.then (k := State.putBit_ag _ _ _ _) | apply Agree.then (k := State.tbMod_ag _ _) | apply Agree.then (k := State.tickMod_ag _ _) | apply Agree.then (k := State.irq_ag _ _) | apply Agree.then (k := State.pass_ag _ _) | apply Agree.then (k := State.log_ag _ _ _ _ _) | apply Agree.then (k := State.alignAll_ag _) | apply Agree.then (k := State.tbShow_ag _) | apply Agree.then (k := State.nextEpoch_ag _) | decide | split)

theorem execTbStart_ag (s : State) : ∀ t1, execTbStart s = .next t1 → Agree 8796095439361 s t1 := by
  intro t1 h
  obtain rfl := Host.Outcome.next.inj h
  repeat' (with_reducible first | assumption | apply Agree.refl | intro _ | apply Agree.then (k := State.tbStart_ag _) | decide)

theorem State.tbCtrlWrite_ag (s : State) (v : Word) : Agree 57857 s (State.tbCtrlWrite s v) := by
  unfold State.tbCtrlWrite
  repeat' (with_reducible first | assumption | apply Agree.refl | intro _ | (extract_lets +onlyGivenNames x; first | (refine (fun (_ : Agree 57857 s x) => ?_ : Agree 57857 s x → _) ?_; clear_value x) | (refine (fun (_ : Agree 57857 s x.1) => ?_ : Agree 57857 s x.1 → _) ?_; clear_value x) | clear_value x) | subst x | apply Agree.ite | apply Agree.then (k := State.wr_ag _ _ _) | apply Agree.then (k := State.put_ag _ _ _ _ _) | apply Agree.then (k := State.tbMod_ag _ _) | apply Agree.then (k := State.tbErr_ag _ _ _ _ _) | apply Agree.then (k := State.tbShow_ag _) | decide | split)

theorem execTbModeWrite_ag (v : Word) (s : State) : ∀ t1, execTbModeWrite v s = .next t1 → Agree 57857 s t1 := by
  intro t1 h
  obtain rfl := Host.Outcome.next.inj h
  repeat' (with_reducible first | assumption | apply Agree.refl | intro _ | apply Agree.then (k := State.tbCtrlWrite_ag _ _) | decide)

theorem State.tbModeApply_ag (s : State) : Agree 57857 s (State.tbModeApply s) := by
  unfold State.tbModeApply
  repeat' (with_reducible first | assumption | apply Agree.refl | intro _ | (extract_lets +onlyGivenNames x; first | (refine (fun (_ : Agree 57857 s x) => ?_ : Agree 57857 s x → _) ?_; clear_value x) | (refine (fun (_ : Agree 57857 s x.1) => ?_ : Agree 57857 s x.1 → _) ?_; clear_value x) | clear_value x) | subst x | apply Agree.ite | apply Agree.then (k := State.putBit_ag _ _ _ _) | apply Agree.then (k := State.tbMod_ag _ _) | apply Agree.then (k := State.tbShow_ag _) | apply Agree.then (k := State.setServo_ag _ _) | decide | split)

theorem execTbModeApply_ag (s : State) : ∀ t1, execTbModeApply s = .next t1 → Agree 57857 s t1 := by
  intro t1 h
  obtain rfl := Host.Outcome.next.inj h
  repeat' (with_reducible first | assumption | apply Agree.refl | intro _ | apply Agree.then (k := State.tbModeApply_ag _) | decide)

theorem State.addendCommit_ag (s : State) (r : Req) (lo : Word) : Agree 25089 s (State.addendCommit s r lo) := by
  unfold State.addendCommit
  repeat' (with_reducible first | assumption | apply Agree.refl | intro _ | (extract_lets +onlyGivenNames x; first | (refine (fun (_ : Agree 25089 s x) => ?_ : Agree 25089 s x → _) ?_; clear_value x) | (refine (fun (_ : Agree 25089 s x.1) => ?_ : Agree 25089 s x.1 → _) ?_; clear_value x) | clear_value x) | subst x | apply Agree.ite | apply Agree.then (k := State.tbErr_ag _ _ _ _ _) | apply Agree.then (k := State.setAddend_ag _ _) | decide | split)

theorem execTbAddendCommit_ag (r : Req) (lo : Word) (s : State) : ∀ t1, execTbAddendCommit r lo s = .next t1 → Agree 25089 s t1 := by
  intro t1 h
  obtain rfl := Host.Outcome.next.inj h
  repeat' (with_reducible first | assumption | apply Agree.refl | intro _ | apply Agree.ite | apply Agree.then (k := State.addendCommit_ag _ _ _) | decide)

theorem State.servoWrite_ag (s : State) (v : Word) : Agree 25089 s (State.servoWrite s v) := by
  unfold State.servoWrite
  repeat' (with_reducible first | assumption | apply Agree.refl | intro _ | apply Agree.ite | apply Agree.then (k := State.wr_ag _ _ _) | apply Agree.then (k := State.tbErr_ag _ _ _ _ _) | decide | split)

theorem execTbServoWrite_ag (v : Word) (s : State) : ∀ t1, execTbServoWrite v s = .next t1 → Agree 25089 s t1 := by
  intro t1 h
  obtain rfl := Host.Outcome.next.inj h
  repeat' (with_reducible first | assumption | apply Agree.refl | intro _ | apply Agree.then (k := State.servoWrite_ag _ _) | decide)

theorem State.tbResetI_ag (s : State) : Agree 32769 s (State.tbResetI s) := by
  unfold State.tbResetI
  repeat' (with_reducible first | assumption | apply Agree.refl | intro _ | (extract_lets +onlyGivenNames x; first | (refine (fun (_ : Agree 32769 s x) => ?_ : Agree 32769 s x → _) ?_; clear_value x) | (refine (fun (_ : Agree 32769 s x.1) => ?_ : Agree 32769 s x.1 → _) ?_; clear_value x) | clear_value x) | subst x | apply Agree.ite | apply Agree.then (k := State.tbMod_ag _ _) | apply Agree.then (k := State.steer_ag _ _) | decide | split)

theorem execTbCmdResetI_ag (r : Req) (s : State) : ∀ t1, execTbCmdResetI r s = .next t1 → Agree 32769 s t1 := by
  intro t1 h
  obtain rfl := Host.Outcome.next.inj h
  repeat' (with_reducible first | assumption | apply Agree.refl | intro _ | apply Agree.ite | apply Agree.then (k := State.tbResetI_ag _) | decide)

theorem State.piUpdate_ag (s : State) (th : Int) (n : Nat) : Agree 32769 s (State.piUpdate s th n) := by
  unfold State.piUpdate
  repeat' (with_reducible first | assumption | apply Agree.refl | intro _ | (extract_lets +onlyGivenNames x; first | (refine (fun (_ : Agree 32769 s x) => ?_ : Agree 32769 s x → _) ?_; clear_value x) | (refine (fun (_ : Agree 32769 s x.1) => ?_ : Agree 32769 s x.1 → _) ?_; clear_value x) | clear_value x) | subst x | apply Agree.then (k := State.tbMod_ag _ _) | apply Agree.then (k := State.steer_ag _ _) | decide)

theorem State.servoTrack_ag (s : State) (th : Int) : Agree 57857 s (State.servoTrack s th) := by
  unfold State.servoTrack
  repeat' (with_reducible first | assumption | apply Agree.refl | intro _ | (extract_lets +onlyGivenNames x; first | (refine (fun (_ : Agree 57857 s x) => ?_ : Agree 57857 s x → _) ?_; clear_value x) | (refine (fun (_ : Agree 57857 s x.1) => ?_ : Agree 57857 s x.1 → _) ?_; clear_value x) | clear_value x) | subst x | apply Agree.ite | apply Agree.then (k := State.tbMod_ag _ _) | apply Agree.then (k := State.setServo_ag _ _) | decide | split)

theorem State.servoUse_ag (s : State) (th : Int) : Agree 57857 s (State.servoUse s th) := by
  unfold State.servoUse
  repeat' (with_reducible first | assumption | apply Agree.refl | intro _ | (extract_lets +onlyGivenNames x; first | (refine (fun (_ : Agree 57857 s x) => ?_ : Agree 57857 s x → _) ?_; clear_value x) | (refine (fun (_ : Agree 57857 s x.1) => ?_ : Agree 57857 s x.1 → _) ?_; clear_value x) | clear_value x) | subst x | apply Agree.ite | apply Agree.then (k := State.putBit_ag _ _ _ _) | apply Agree.then (k := State.count_ag _ _ _ _ _) | apply Agree.then (k := State.tbMod_ag _ _) | apply Agree.then (k := State.tbShow_ag _) | apply Agree.then (k := State.setServo_ag _ _) | apply Agree.then (k := State.steer_ag _ _) | apply Agree.then (k := State.piUpdate_ag _ _ _) | apply Agree.then (k := State.servoTrack_ag _ _) | decide | split)

theorem State.servoSample_ag (s : State) (th : Int) : Agree 57857 s (State.servoSample s th) := by
  unfold State.servoSample
  repeat' (with_reducible first | assumption | apply Agree.refl | intro _ | (extract_lets +onlyGivenNames x; first | (refine (fun (_ : Agree 57857 s x) => ?_ : Agree 57857 s x → _) ?_; clear_value x) | (refine (fun (_ : Agree 57857 s x.1) => ?_ : Agree 57857 s x.1 → _) ?_; clear_value x) | clear_value x) | subst x | apply Agree.ite | apply Agree.then (k := State.wr_ag _ _ _) | apply Agree.then (k := State.count_ag _ _ _ _ _) | apply Agree.then (k := State.servoUse_ag _ _) | decide | split)

theorem State.offsCommit_ag (s : State) (r : Req) (lo : Word) : Agree 57857 s (State.offsCommit s r lo) := by
  unfold State.offsCommit
  repeat' (with_reducible first | assumption | apply Agree.refl | intro _ | (extract_lets +onlyGivenNames x; first | (refine (fun (_ : Agree 57857 s x) => ?_ : Agree 57857 s x → _) ?_; clear_value x) | (refine (fun (_ : Agree 57857 s x.1) => ?_ : Agree 57857 s x.1 → _) ?_; clear_value x) | clear_value x) | subst x | apply Agree.ite | apply Agree.then (k := State.wr_ag _ _ _) | apply Agree.then (k := State.servoSample_ag _ _) | decide | split)

theorem execTbOffsCommit_ag (r : Req) (lo : Word) (s : State) : ∀ t1, execTbOffsCommit r lo s = .next t1 → Agree 57857 s t1 := by
  intro t1 h
  obtain rfl := Host.Outcome.next.inj h
  repeat' (with_reducible first | assumption | apply Agree.refl | intro _ | apply Agree.ite | apply Agree.then (k := State.offsCommit_ag _ _ _) | decide)

theorem State.holdout_ag (s : State) : Agree 57857 s (State.holdout s) := by
  unfold State.holdout
  repeat' (with_reducible first | assumption | apply Agree.refl | intro _ | (extract_lets +onlyGivenNames x; first | (refine (fun (_ : Agree 57857 s x) => ?_ : Agree 57857 s x → _) ?_; clear_value x) | (refine (fun (_ : Agree 57857 s x.1) => ?_ : Agree 57857 s x.1 → _) ?_; clear_value x) | clear_value x) | subst x | apply Agree.ite | apply Agree.whenI | apply Agree.then (k := State.reachCnt_ag _ _) | apply Agree.then (k := State.setServo_ag _ _) | apply Agree.then (k := State.steer_ag _ _) | decide | split)

theorem execServoHoldoutExpiry_ag (s : State) : ∀ t1, execServoHoldoutExpiry s = .next t1 → Agree 57857 s t1 := by
  intro t1 h
  obtain rfl := Host.Outcome.next.inj h
  repeat' (with_reducible first | assumption | apply Agree.refl | intro _ | apply Agree.then (k := State.holdout_ag _) | decide)

theorem State.utcWrite_ag (s : State) (v : Word) : Agree 32769 s (State.utcWrite s v) := by
  unfold State.utcWrite
  repeat' (with_reducible first | assumption | apply Agree.refl | intro _ | apply Agree.then (k := State.wr_ag _ _ _) | apply Agree.then (k := State.tbMod_ag _ _) | decide)

theorem State.leapApply_ag (s : State) : Agree 57857 s (State.leapApply s) := by
  unfold State.leapApply
  repeat' (with_reducible first | assumption | apply Agree.refl | intro _ | (extract_lets +onlyGivenNames x; first | (refine (fun (_ : Agree 57857 s x) => ?_ : Agree 57857 s x → _) ?_; clear_value x) | (refine (fun (_ : Agree 57857 s x.1) => ?_ : Agree 57857 s x.1 → _) ?_; clear_value x) | clear_value x) | subst x | apply Agree.ite | apply Agree.then (k := State.put_ag _ _ _ _ _) | apply Agree.then (k := State.irq_ag _ _) | apply Agree.then (k := State.reachTime_ag _ _) | apply Agree.then (k := State.log_ag _ _ _ _ _) | decide | split)

theorem execLeapApply_ag (s : State) : ∀ t1, execLeapApply s = .next t1 → Agree 57857 s t1 := by
  intro t1 h
  obtain rfl := Host.Outcome.next.inj h
  repeat' (with_reducible first | assumption | apply Agree.refl | intro _ | apply Agree.then (k := State.leapApply_ag _) | decide)

theorem State.rtcAlign_ag (s : State) : Agree 32769 s (State.rtcAlign s) := by
  unfold State.rtcAlign
  repeat' (with_reducible first | assumption | apply Agree.refl | intro _ | (extract_lets +onlyGivenNames x; first | (refine (fun (_ : Agree 32769 s x) => ?_ : Agree 32769 s x → _) ?_; clear_value x) | (refine (fun (_ : Agree 32769 s x.1) => ?_ : Agree 32769 s x.1 → _) ?_; clear_value x) | clear_value x) | subst x | apply Agree.ite | apply Agree.then (k := State.wr_ag _ _ _) | apply Agree.then (k := State.put_ag _ _ _ _ _) | apply Agree.then (k := State.tbMod_ag _ _) | decide | split)

theorem execRtcAlign_ag (s : State) : ∀ t1, execRtcAlign s = .next t1 → Agree 32769 s t1 := by
  intro t1 h
  obtain rfl := Host.Outcome.next.inj h
  repeat' (with_reducible first | assumption | apply Agree.refl | intro _ | apply Agree.then (k := State.rtcAlign_ag _) | decide)

theorem State.timeFracRead_ag (s : State) (r : Req) : Agree 48 s (State.timeFracRead s r) := by
  unfold State.timeFracRead
  repeat' (with_reducible first | assumption | apply Agree.refl | intro _ | (extract_lets +onlyGivenNames x; first | (refine (fun (_ : Agree 48 s x) => ?_ : Agree 48 s x → _) ?_; clear_value x) | (refine (fun (_ : Agree 48 s x.1) => ?_ : Agree 48 s x.1 → _) ?_; clear_value x) | clear_value x) | subst x | apply Agree.then (k := State.answer_ag _ _ _) | apply Agree.then (k := State.latch_ag _ _ _ _) | decide)

theorem execTbTimeFracRead_ag (r : Req) (s : State) : ∀ t1, execTbTimeFracRead r s = .next t1 → Agree 48 s t1 := by
  intro t1 h
  obtain rfl := Host.Outcome.next.inj h
  repeat' (with_reducible first | assumption | apply Agree.refl | intro _ | apply Agree.ite | apply Agree.then (k := State.timeFracRead_ag _ _) | decide)

theorem State.cntRead_ag (s : State) (r : Req) : Agree 48 s (State.cntRead s r) := by
  unfold State.cntRead
  repeat' (with_reducible first | assumption | apply Agree.refl | intro _ | apply Agree.then (k := State.answer_ag _ _ _) | apply Agree.then (k := State.latch_ag _ _ _ _) | decide)

theorem execTbCntLoRead_ag (r : Req) (s : State) : ∀ t1, execTbCntLoRead r s = .next t1 → Agree 48 s t1 := by
  intro t1 h
  obtain rfl := Host.Outcome.next.inj h
  repeat' (with_reducible first | assumption | apply Agree.refl | intro _ | apply Agree.ite | apply Agree.then (k := State.cntRead_ag _ _) | decide)

theorem State.tickIdxRead_ag (s : State) (r : Req) : Agree 48 s (State.tickIdxRead s r) := by
  unfold State.tickIdxRead
  repeat' (with_reducible first | assumption | apply Agree.refl | intro _ | (extract_lets +onlyGivenNames x; first | (refine (fun (_ : Agree 48 s x) => ?_ : Agree 48 s x → _) ?_; clear_value x) | (refine (fun (_ : Agree 48 s x.1) => ?_ : Agree 48 s x.1 → _) ?_; clear_value x) | clear_value x) | subst x | apply Agree.then (k := State.answer_ag _ _ _) | apply Agree.then (k := State.latch_ag _ _ _ _) | decide)

theorem execTickIdxRead_ag (r : Req) (s : State) : ∀ t1, execTickIdxRead r s = .next t1 → Agree 48 s t1 := by
  intro t1 h
  obtain rfl := Host.Outcome.next.inj h
  repeat' (with_reducible first | assumption | apply Agree.refl | intro _ | apply Agree.ite | apply Agree.then (k := State.tickIdxRead_ag _ _) | decide)

theorem State.almErr_ag (s : State) (n : Nat) (v : Word) (off : Nat) : Agree 25089 s (State.almErr s n v off) := by
  unfold State.almErr
  repeat' (with_reducible first | assumption | apply Agree.refl | intro _ | apply Agree.then (k := State.putBit_ag _ _ _ _) | apply Agree.then (k := State.irq_ag _ _) | apply Agree.then (k := State.log_ag _ _ _ _ _) | decide)

theorem State.almCtrlWrite_ag (s : State) (r : Req) (n : Nat) (v : Word) : Agree 90625 s (State.almCtrlWrite s r n v) := by
  unfold State.almCtrlWrite
  repeat' (with_reducible first | assumption | apply Agree.refl | intro _ | (extract_lets +onlyGivenNames x; first | (refine (fun (_ : Agree 90625 s x) => ?_ : Agree 90625 s x → _) ?_; clear_value x) | (refine (fun (_ : Agree 90625 s x.1) => ?_ : Agree 90625 s x.1 → _) ?_; clear_value x) | clear_value x) | subst x | apply Agree.ite | apply Agree.then (k := State.wr_ag _ _ _) | apply Agree.then (k := State.putBit_ag _ _ _ _) | apply Agree.then (k := State.setAlm_ag _ _ _) | apply Agree.then (k := State.almErr_ag _ _ _ _) | decide | split)

theorem execAlmArm_ag (r : Req) (n : Fin 16) (v : Word) (s : State) : ∀ t1, execAlmArm r n v s = .next t1 → Agree 90625 s t1 := by
  intro t1 h
  obtain rfl := Host.Outcome.next.inj h
  repeat' (with_reducible first | assumption | apply Agree.refl | intro _ | apply Agree.ite | apply Agree.then (k := State.almCtrlWrite_ag _ _ _ _) | decide)

theorem execAlmDisarm_ag (r : Req) (n : Fin 16) (v : Word) (s : State) : ∀ t1, execAlmDisarm r n v s = .next t1 → Agree 90625 s t1 := by
  intro t1 h
  obtain rfl := Host.Outcome.next.inj h
  repeat' (with_reducible first | assumption | apply Agree.refl | intro _ | apply Agree.ite | apply Agree.then (k := State.almCtrlWrite_ag _ _ _ _) | decide)

theorem State.almWrite_ag (s : State) (r : Req) (n k : Nat) (v : Word) : Agree 90689 s (State.almWrite s r n k v) := by
  unfold State.almWrite
  repeat' (with_reducible first | assumption | apply Agree.refl | intro _ | (extract_lets +onlyGivenNames x; first | (refine (fun (_ : Agree 90689 s x) => ?_ : Agree 90689 s x → _) ?_; clear_value x) | (refine (fun (_ : Agree 90689 s x.1) => ?_ : Agree 90689 s x.1 → _) ?_; clear_value x) | clear_value x) | subst x | apply Agree.ite | apply Agree.then (k := State.wr_ag _ _ _) | apply Agree.then (k := State.hold_ag _ _ _ _) | apply Agree.then (k := State.almErr_ag _ _ _ _) | apply Agree.then (k := State.almCtrlWrite_ag _ _ _ _) | decide | split)

theorem State.almStatWrite_ag (s : State) (r : Req) (n k : Nat) (v : Word) : Agree 25089 s (State.almStatWrite s r n k v) := by
  unfold State.almStatWrite
  repeat' (with_reducible first | assumption | apply Agree.refl | intro _ | apply Agree.ite | apply Agree.then (k := State.regWrite_ag _ _ _) | apply Agree.then (k := State.almErr_ag _ _ _ _) | decide | split)

theorem execAlmWrite_ag (r : Req) (n : Fin 16) (k : Fin 5) (v : Word) (s : State) : ∀ t1, execAlmWrite r n k v s = .next t1 → Agree 90689 s t1 := by
  intro t1 h
  obtain rfl := Host.Outcome.next.inj h
  repeat' (with_reducible first | assumption | apply Agree.refl | intro _ | apply Agree.ite | apply Agree.then (k := State.almWrite_ag _ _ _ _ _) | decide)

theorem State.meterClose_ag (s : State) (a : Nat × Nat) : Agree 140874927308801 s (State.meterClose s a) := by
  unfold State.meterClose
  repeat' (with_reducible first | assumption | apply Agree.refl | intro _ | (extract_lets +onlyGivenNames x; first | (refine (fun (_ : Agree 140874927308801 s x) => ?_ : Agree 140874927308801 s x → _) ?_; clear_value x) | (refine (fun (_ : Agree 140874927308801 s x.1) => ?_ : Agree 140874927308801 s x.1 → _) ?_; clear_value x) | clear_value x) | subst x | apply Agree.ite | apply Agree.whenI | apply Agree.then (k := State.count_ag _ _ _ _ _) | apply Agree.then (k := State.fioMod_ag _ _) | apply Agree.then (k := State.meterMod_ag _ _) | decide)

theorem State.lthAlign_ag (s : State) (x : Option Nat) : Agree 1099511627776 s (State.lthAlign s x) := by
  unfold State.lthAlign
  repeat' (with_reducible first | assumption | apply Agree.refl | intro _ | apply Agree.then (k := Agree.up_lathe _ _) | decide)

theorem State.fire_ag (s : State) (n : Nat) (a : Nat × Nat) : Agree 141974439035393 s (State.fire s n a) := by
  unfold State.fire
  repeat' (with_reducible first | assumption | apply Agree.refl | intro _ | (extract_lets +onlyGivenNames x; first | (refine (fun (_ : Agree 141974439035393 s x) => ?_ : Agree 141974439035393 s x → _) ?_; clear_value x) | (refine (fun (_ : Agree 141974439035393 s x.1) => ?_ : Agree 141974439035393 s x.1 → _) ?_; clear_value x) | clear_value x) | subst x | apply Agree.ite | apply Agree.whenI | apply Agree.then (k := State.wr_ag _ _ _) | apply Agree.then (k := State.putBit_ag _ _ _ _) | apply Agree.then (k := State.tbMod_ag _ _) | apply Agree.then (k := State.setAlm_ag _ _ _) | apply Agree.then (k := State.irq_ag _ _) | apply Agree.then (k := State.meterClose_ag _ _) | apply Agree.then (k := State.lthAlign_ag _ _) | decide | split)

theorem State.afterFire_ag (s : State) (n : Nat) (a : Nat × Nat) (t : Nat) : Agree 65537 s (State.afterFire s n a t) := by
  unfold State.afterFire
  repeat' (with_reducible first | assumption | apply Agree.refl | intro _ | (extract_lets +onlyGivenNames x; first | (refine (fun (_ : Agree 65537 s x) => ?_ : Agree 65537 s x → _) ?_; clear_value x) | (refine (fun (_ : Agree 65537 s x.1) => ?_ : Agree 65537 s x.1 → _) ?_; clear_value x) | clear_value x) | subst x | apply Agree.ite | apply Agree.then (k := State.putBit_ag _ _ _ _) | apply Agree.then (k := State.setAlm_ag _ _ _) | decide | split)

theorem State.fireAt_ag (s : State) (n : Nat) (a : Nat × Nat) : Agree 141974439035393 s (State.fireAt s n a) := by
  unfold State.fireAt
  repeat' (with_reducible first | assumption | apply Agree.refl | intro _ | apply Agree.then (k := State.fire_ag _ _ _) | apply Agree.then (k := State.afterFire_ag _ _ _ _) | decide)

theorem State.alarmFire_ag (s : State) (n : Nat) : Agree 141974439035393 s (State.alarmFire s n) := by
  unfold State.alarmFire
  repeat' (with_reducible first | assumption | apply Agree.refl | intro _ | (extract_lets +onlyGivenNames x; first | (refine (fun (_ : Agree 141974439035393 s x) => ?_ : Agree 141974439035393 s x → _) ?_; clear_value x) | (refine (fun (_ : Agree 141974439035393 s x.1) => ?_ : Agree 141974439035393 s x.1 → _) ?_; clear_value x) | clear_value x) | subst x | apply Agree.ite | apply Agree.then (k := State.reachTime_ag _ _) | apply Agree.then (k := State.fireAt_ag _ _ _) | decide | split)

theorem execAlarmFire_ag (n : Fin 16) (s : State) : ∀ t1, execAlarmFire n s = .next t1 → Agree 141974439035393 s t1 := by
  intro t1 h
  obtain rfl := Host.Outcome.next.inj h
  repeat' (with_reducible first | assumption | apply Agree.refl | intro _ | apply Agree.then (k := State.alarmFire_ag _ _) | decide)

theorem State.almLastRead_ag (s : State) (r : Req) (n : Nat) : Agree 48 s (State.almLastRead s r n) := by
  unfold State.almLastRead
  repeat' (with_reducible first | assumption | apply Agree.refl | intro _ | apply Agree.then (k := State.answer_ag _ _ _) | apply Agree.then (k := State.latch_ag _ _ _ _) | decide)

theorem execAlmLastNsRead_ag (r : Req) (n : Fin 16) (s : State) : ∀ t1, execAlmLastNsRead r n s = .next t1 → Agree 48 s t1 := by
  intro t1 h
  obtain rfl := Host.Outcome.next.inj h
  repeat' (with_reducible first | assumption | apply Agree.refl | intro _ | apply Agree.ite | apply Agree.then (k := State.almLastRead_ag _ _ _) | decide)

theorem State.skipAlarm_ag (s : State) (n old new : Nat) : Agree 141974439059969 s (State.skipAlarm s n old new) := by
  unfold State.skipAlarm
  repeat' (with_reducible first | assumption | apply Agree.refl | intro _ | (extract_lets +onlyGivenNames x; first | (refine (fun (_ : Agree 141974439059969 s x) => ?_ : Agree 141974439059969 s x → _) ?_; clear_value x) | (refine (fun (_ : Agree 141974439059969 s x.1) => ?_ : Agree 141974439059969 s x.1 → _) ?_; clear_value x) | clear_value x) | subst x | apply Agree.then (k := State.putBit_ag _ _ _ _) | apply Agree.then (k := State.count_ag _ _ _ _ _) | apply Agree.then (k := State.irq_ag _ _) | apply Agree.then (k := State.log_ag _ _ _ _ _) | apply Agree.then (k := State.fire_ag _ _ _) | apply Agree.then (k := State.afterFire_ag _ _ _ _) | decide | split)

theorem State.fireEqual_ag (s : State) (t : Nat) : Agree 141974439035393 s (State.fireEqual s t) := by
  unfold State.fireEqual
  repeat' (with_reducible first | assumption | apply Agree.refl | intro _ | apply Agree.ite | apply Agree.foldl | apply Agree.then (k := State.fireAt_ag _ _ _) | decide | split)

theorem State.fireDue_ag (s : State) (t : Nat) : Agree 141974439035393 s (State.fireDue s t) := by
  unfold State.fireDue
  repeat' (with_reducible first | assumption | apply Agree.refl | intro _ | apply Agree.ite | apply Agree.foldl | apply Agree.then (k := State.fireAt_ag _ _ _) | decide | split)

theorem State.blzShift_ag (s : State) (d : Int) (t : Nat) : Agree 35184372088832 s (State.blzShift s d t) := by
  unfold State.blzShift
  repeat' (with_reducible first | assumption | apply Agree.refl | intro _ | (extract_lets +onlyGivenNames x; first | (refine (fun (_ : Agree 35184372088832 s x) => ?_ : Agree 35184372088832 s x → _) ?_; clear_value x) | (refine (fun (hf : ∀ t, Agree 35184372088832 s t → Agree 35184372088832 s (x t)) => ?_ : (∀ t, Agree 35184372088832 s t → Agree 35184372088832 s (x t)) → _) (fun _ _ => ?_); clear_value x) | (refine (fun (hg : ∀ a t, Agree 35184372088832 s t → Agree 35184372088832 s (x a t)) => ?_ : (∀ a t, Agree 35184372088832 s t → Agree 35184372088832 s (x a t)) → _) (fun _ _ _ => ?_); clear_value x) | (refine (fun (hk : ∀ a, Agree 35184372088832 s (x a)) => ?_ : (∀ a, Agree 35184372088832 s (x a)) → _) (fun _ => ?_); clear_value x) | (refine (fun (hp : ∀ t a b, Agree 35184372088832 s t → Agree 35184372088832 s (x t a b)) => ?_ : (∀ t a b, Agree 35184372088832 s t → Agree 35184372088832 s (x t a b)) → _) (fun _ _ _ _ => ?_); clear_value x) | (refine (fun (_ : Agree 35184372088832 s x.1) => ?_ : Agree 35184372088832 s x.1 → _) ?_; clear_value x) | clear_value x) | subst x | apply hf | apply hg | apply hp | apply hk | apply Agree.ite | apply Agree.foldl | apply Agree.then (k := State.setBlz_ag _ _ _) | decide | split)

theorem State.tbCmdStep_ag (s : State) (w : Word) : Agree 57857 s (State.tbCmdStep s w) := by
  unfold State.tbCmdStep
  repeat' (with_reducible first | assumption | apply Agree.refl | intro _ | (extract_lets +onlyGivenNames x; first | (refine (fun (_ : Agree 57857 s x) => ?_ : Agree 57857 s x → _) ?_; clear_value x) | (refine (fun (_ : Agree 57857 s x.1) => ?_ : Agree 57857 s x.1 → _) ?_; clear_value x) | clear_value x) | subst x | apply Agree.ite | apply Agree.then (k := State.tbMod_ag _ _) | apply Agree.then (k := State.tbErr_ag _ _ _ _ _) | apply Agree.then (k := State.tbShow_ag _) | decide | split)

theorem execTbCmdStep_ag (r : Req) (s : State) : ∀ t1, execTbCmdStep r s = .next t1 → Agree 57857 s t1 := by
  intro t1 h
  obtain rfl := Host.Outcome.next.inj h
  repeat' (with_reducible first | assumption | apply Agree.refl | intro _ | apply Agree.ite | apply Agree.then (k := State.tbCmdStep_ag _ _) | decide)

theorem State.syncDies_ag (s : State) (dies : Nat) : Agree 8796095144449 s (State.syncDies s dies) := by
  unfold State.syncDies
  repeat' (with_reducible first | assumption | apply Agree.refl | intro _ | (extract_lets +onlyGivenNames x; first | (refine (fun (_ : Agree 8796095144449 s x) => ?_ : Agree 8796095144449 s x → _) ?_; clear_value x) | (refine (fun (_ : Agree 8796095144449 s x.1) => ?_ : Agree 8796095144449 s x.1 → _) ?_; clear_value x) | clear_value x) | subst x | apply Agree.ite | apply Agree.foldl | apply Agree.then (k := State.laneMove_ag _ _ _) | apply Agree.then (k := State.settleEvent_ag _ _ _ _) | decide | split)

theorem State.stepLane_ag (s : State) (ch : Nat) : Agree 2097152 s (State.stepLane s ch) := by
  unfold State.stepLane
  repeat' (with_reducible first | assumption | apply Agree.refl | intro _ | (extract_lets +onlyGivenNames x; first | (refine (fun (_ : Agree 2097152 s x) => ?_ : Agree 2097152 s x → _) ?_; clear_value x) | (refine (fun (_ : Agree 2097152 s x.1) => ?_ : Agree 2097152 s x.1 → _) ?_; clear_value x) | clear_value x) | subst x | apply Agree.then (k := State.laneMod_ag _ _ _) | decide)

theorem State.trainOver_ag (s : State) (n : Nat) (c : Bool) : Agree 1 s (State.trainOver s n c) := by
  unfold State.trainOver
  repeat' (with_reducible first | assumption | apply Agree.refl | intro _ | apply Agree.ite | apply Agree.whenI | apply Agree.then (k := State.putBit_ag _ _ _ _) | decide)

theorem State.tioStep_ag (s : State) (n t : Nat) (d : Int) : Agree 131073 s (State.tioStep s n t d) := by
  unfold State.tioStep
  repeat' (with_reducible first | assumption | apply Agree.refl | intro _ | (extract_lets +onlyGivenNames x; first | (refine (fun (_ : Agree 131073 s x) => ?_ : Agree 131073 s x → _) ?_; clear_value x) | (refine (fun (_ : Agree 131073 s x.1) => ?_ : Agree 131073 s x.1 → _) ?_; clear_value x) | clear_value x) | subst x | apply Agree.then (k := State.setPin_ag _ _ _) | apply Agree.then (k := State.trainOver_ag _ _ _) | decide)

theorem State.stepClock_ag (s : State) (d : Int) (told tnew : Nat) : Agree 141974439846401 s (State.stepClock s d told tnew) := by
  unfold State.stepClock
  repeat' (with_reducible first | assumption | apply Agree.refl | intro _ | (extract_lets +onlyGivenNames x; first | (refine (fun (_ : Agree 141974439846401 s x) => ?_ : Agree 141974439846401 s x → _) ?_; clear_value x) | (refine (fun (_ : Agree 141974439846401 s x.1) => ?_ : Agree 141974439846401 s x.1 → _) ?_; clear_value x) | clear_value x) | subst x | apply Agree.ite | apply Agree.foldl | apply Agree.then (k := State.putBit_ag _ _ _ _) | apply Agree.then (k := State.tbMod_ag _ _) | apply Agree.then (k := State.tickMod_ag _ _) | apply Agree.then (k := State.setStep_ag _ _) | apply Agree.then (k := State.tbShow_ag _) | apply Agree.then (k := State.timeSet_ag _) | apply Agree.then (k := State.nextEpoch_ag _) | apply Agree.then (k := State.skipAlarm_ag _ _ _ _) | apply Agree.then (k := State.fireEqual_ag _ _) | decide | split)

theorem State.stepApply_ag (s : State) : Agree 185955074957825 s (State.stepApply s) := by
  unfold State.stepApply
  repeat' (with_reducible first | assumption | apply Agree.refl | intro _ | (extract_lets +onlyGivenNames x; first | (refine (fun (_ : Agree 185955074957825 s x) => ?_ : Agree 185955074957825 s x → _) ?_; clear_value x) | (refine (fun (_ : Agree 185955074957825 s x.1) => ?_ : Agree 185955074957825 s x.1 → _) ?_; clear_value x) | clear_value x) | subst x | apply Agree.ite | apply Agree.foldl | apply Agree.then (k := State.detMod_ag _ _ _) | apply Agree.then (k := State.trkMod_ag _ _ _) | apply Agree.then (k := State.irq_ag _ _) | apply Agree.then (k := State.reachTime_ag _ _) | apply Agree.then (k := State.log_ag _ _ _ _ _) | apply Agree.then (k := State.lthAlign_ag _ _) | apply Agree.then (k := State.fireDue_ag _ _) | apply Agree.then (k := State.blzShift_ag _ _ _) | apply Agree.then (k := State.syncDies_ag _ _) | apply Agree.then (k := State.stepLane_ag _ _) | apply Agree.then (k := State.tioStep_ag _ _ _ _) | apply Agree.then (k := State.stepClock_ag _ _ _ _) | decide | split)

theorem execTimeStepApply_ag (s : State) : ∀ t1, execTimeStepApply s = .next t1 → Agree 185955074957825 s t1 := by
  intro t1 h
  obtain rfl := Host.Outcome.next.inj h
  repeat' (with_reducible first | assumption | apply Agree.refl | intro _ | apply Agree.then (k := State.stepApply_ag _) | decide)

theorem execTbCmdAfeSync_ag (r : Req) (s : State) : ∀ t1, execTbCmdAfeSync r s = .next t1 → Agree 32768 s t1 := by
  intro t1 h
  obtain rfl := Host.Outcome.next.inj h
  repeat' (with_reducible first | assumption | apply Agree.refl | intro _ | apply Agree.ite | apply Agree.then (k := State.tbMod_ag _ _) | decide)

theorem State.syncApply_ag (s : State) : Agree 8796095177217 s (State.syncApply s) := by
  unfold State.syncApply
  repeat' (with_reducible first | assumption | apply Agree.refl | intro _ | apply Agree.ite | apply Agree.then (k := State.tbMod_ag _ _) | apply Agree.then (k := State.syncDies_ag _ _) | decide | split)

theorem execAfeSyncApply_ag (s : State) : ∀ t1, execAfeSyncApply s = .next t1 → Agree 8796095177217 s t1 := by
  intro t1 h
  obtain rfl := Host.Outcome.next.inj h
  repeat' (with_reducible first | assumption | apply Agree.refl | intro _ | apply Agree.then (k := State.syncApply_ag _) | decide)

theorem State.tioPush_ag (s : State) (n : Nat) (t : Stamp) : Agree 156161 s (State.tioPush s n t) := by
  unfold State.tioPush
  repeat' (with_reducible first | assumption | apply Agree.refl | intro _ | (extract_lets +onlyGivenNames x; first | (refine (fun (_ : Agree 156161 s x) => ?_ : Agree 156161 s x → _) ?_; clear_value x) | (refine (fun (_ : Agree 156161 s x.1) => ?_ : Agree 156161 s x.1 → _) ?_; clear_value x) | clear_value x) | subst x | apply Agree.ite | apply Agree.then (k := State.put_ag _ _ _ _ _) | apply Agree.then (k := State.count_ag _ _ _ _ _) | apply Agree.then (k := State.setPin_ag _ _ _) | apply Agree.then (k := State.irq_ag _ _) | apply Agree.then (k := State.log_ag _ _ _ _ _) | decide | split)

theorem State.tioCapture_ag (s : State) (n : Nat) (rising : Bool) (sec ns : Nat) : Agree 188929 s (State.tioCapture s n rising sec ns) := by
  unfold State.tioCapture
  repeat' (with_reducible first | assumption | apply Agree.refl | intro _ | apply Agree.ite | apply Agree.then (k := State.reachTime_ag _ _) | apply Agree.then (k := State.tioPush_ag _ _ _) | decide | split)

theorem execTioCapture_ag (n : Fin 4) (rising : Bool) (sec : Nat) (ns : Fin 1000000000) (s : State) : ∀ t1, execTioCapture n rising sec ns s = .next t1 → Agree 188929 s t1 := by
  intro t1 h
  obtain rfl := Host.Outcome.next.inj h
  repeat' (with_reducible first | assumption | apply Agree.refl | intro _ | apply Agree.then (k := State.tioCapture_ag _ _ _ _ _) | decide)

theorem State.ppsEdge_ag (s : State) (n sec ns : Nat) : Agree 188929 s (State.ppsEdge s n sec ns) := by
  unfold State.ppsEdge
  repeat' (with_reducible first | assumption | apply Agree.refl | intro _ | (extract_lets +onlyGivenNames x; first | (refine (fun (_ : Agree 188929 s x) => ?_ : Agree 188929 s x → _) ?_; clear_value x) | (refine (fun (_ : Agree 188929 s x.1) => ?_ : Agree 188929 s x.1 → _) ?_; clear_value x) | clear_value x) | subst x | apply Agree.ite | apply Agree.then (k := State.count_ag _ _ _ _ _) | apply Agree.then (k := State.setPin_ag _ _ _) | apply Agree.then (k := State.irq_ag _ _) | apply Agree.then (k := State.reachTime_ag _ _) | apply Agree.then (k := State.log_ag _ _ _ _ _) | apply Agree.then (k := State.servoSample_ag _ _) | apply Agree.then (k := State.tioPush_ag _ _ _) | decide | split)

theorem execPpsInEdge_ag (n : Fin 4) (sec : Nat) (ns : Fin 1000000000) (s : State) : ∀ t1, execPpsInEdge n sec ns s = .next t1 → Agree 188929 s t1 := by
  intro t1 h
  obtain rfl := Host.Outcome.next.inj h
  repeat' (with_reducible first | assumption | apply Agree.refl | intro _ | apply Agree.then (k := State.ppsEdge_ag _ _ _ _) | decide)

theorem State.pulseEdge_ag (s : State) (n : Nat) : Agree 163841 s (State.pulseEdge s n) := by
  unfold State.pulseEdge
  repeat' (with_reducible first | assumption | apply Agree.refl | intro _ | (extract_lets +onlyGivenNames x; first | (refine (fun (_ : Agree 163841 s x) => ?_ : Agree 163841 s x → _) ?_; clear_value x) | (refine (fun (_ : Agree 163841 s x.1) => ?_ : Agree 163841 s x.1 → _) ?_; clear_value x) | clear_value x) | subst x | apply Agree.ite | apply Agree.then (k := State.count_ag _ _ _ _ _) | apply Agree.then (k := State.setPin_ag _ _ _) | apply Agree.then (k := State.reachTime_ag _ _) | apply Agree.then (k := State.trainOver_ag _ _ _) | decide | split)

theorem execTioPulseEdge_ag (n : Fin 4) (s : State) : ∀ t1, execTioPulseEdge n s = .next t1 → Agree 163841 s t1 := by
  intro t1 h
  obtain rfl := Host.Outcome.next.inj h
  repeat' (with_reducible first | assumption | apply Agree.refl | intro _ | apply Agree.then (k := State.pulseEdge_ag _ _) | decide)

theorem State.tioCfgWrite_ag (s : State) (r : Req) (n : Nat) (v : Word) : Agree 156161 s (State.tioCfgWrite s r n v) := by
  unfold State.tioCfgWrite
  repeat' (with_reducible first | assumption | apply Agree.refl | intro _ | (extract_lets +onlyGivenNames x; first | (refine (fun (_ : Agree 156161 s x) => ?_ : Agree 156161 s x → _) ?_; clear_value x) | (refine (fun (_ : Agree 156161 s x.1) => ?_ : Agree 156161 s x.1 → _) ?_; clear_value x) | clear_value x) | subst x | apply Agree.ite | apply Agree.then (k := State.wr_ag _ _ _) | apply Agree.then (k := State.setPin_ag _ _ _) | apply Agree.then (k := State.tbErr_ag _ _ _ _ _) | apply Agree.then (k := State.trainOver_ag _ _ _) | decide | split)

theorem execTioModeWrite_ag (r : Req) (n : Fin 4) (v : Word) (s : State) : ∀ t1, execTioModeWrite r n v s = .next t1 → Agree 156161 s t1 := by
  intro t1 h
  obtain rfl := Host.Outcome.next.inj h
  repeat' (with_reducible first | assumption | apply Agree.refl | intro _ | apply Agree.ite | apply Agree.then (k := State.tioCfgWrite_ag _ _ _ _) | decide)

theorem State.tioRangeWrite_ag (s : State) (n : Nat) (width : Bool) (v : Word) : Agree 1 s (State.tioRangeWrite s n width v) := by
  unfold State.tioRangeWrite
  repeat' (with_reducible first | assumption | apply Agree.refl | intro _ | (extract_lets +onlyGivenNames x; first | (refine (fun (_ : Agree 1 s x) => ?_ : Agree 1 s x → _) ?_; clear_value x) | (refine (fun (_ : Agree 1 s x.1) => ?_ : Agree 1 s x.1 → _) ?_; clear_value x) | clear_value x) | subst x | apply Agree.ite | apply Agree.then (k := State.wr_ag _ _ _) | apply Agree.then (k := State.putBit_ag _ _ _ _) | decide | split)

theorem State.tioCapRead_ag (s : State) (r : Req) (n : Nat) : Agree 562949953552433 s (State.tioCapRead s r n) := by
  unfold State.tioCapRead
  repeat' (with_reducible first | assumption | apply Agree.refl | intro _ | (extract_lets +onlyGivenNames x; first | (refine (fun (_ : Agree 562949953552433 s x) => ?_ : Agree 562949953552433 s x → _) ?_; clear_value x) | (refine (fun (_ : Agree 562949953552433 s x.1) => ?_ : Agree 562949953552433 s x.1 → _) ?_; clear_value x) | clear_value x) | subst x | apply Agree.then (k := State.put_ag _ _ _ _ _) | apply Agree.then (k := State.setPin_ag _ _ _) | apply Agree.then (k := State.answer_ag _ _ _) | apply Agree.then (k := State.latch_ag _ _ _ _) | apply Agree.then (k := State.headTaken_ag _ _) | apply Agree.then (k := State.emptyRead_ag _ _ _) | decide | split)

theorem execTioCapNsRead_ag (r : Req) (n : Fin 4) (s : State) : ∀ t1, execTioCapNsRead r n s = .next t1 → Agree 562949953552433 s t1 := by
  intro t1 h
  obtain rfl := Host.Outcome.next.inj h
  repeat' (with_reducible first | assumption | apply Agree.refl | intro _ | apply Agree.ite | apply Agree.then (k := State.tioCapRead_ag _ _ _) | decide)

end Sys2Proof.Machine
end

