-- ==== Sys2Proof/Laws/Frame/Recorder.lean ====
section
/-!
SUPPORT. Frames of the operations of Machine/Recorder.lean: the fields each can change, as a mask.
-/
set_option linter.unusedTactic false
set_option linter.unreachableTactic false
namespace Sys2Proof.Machine
open Sys2Proof

theorem State.setRcu_ag (s : State) (i : Nat) (x : RecU) : Agree 4398046511104 s (State.setRcu s i x) := by
  unfold State.setRcu
  repeat' (with_reducible first | assumption | apply Agree.refl | intro _ | apply Agree.then (k := Agree.up_recs _ _) | decide)

theorem State.rcuMod_ag (s : State) (i : Nat) (f : RecU → RecU) : Agree 4398046511104 s (State.rcuMod s i f) := by
  unfold State.rcuMod
  repeat' (with_reducible first | assumption | apply Agree.refl | intro _ | apply Agree.then (k := State.setRcu_ag _ _ _) | decide)

theorem State.setWbu_ag (s : State) (c : Nat) (x : WbU) : Agree 8796093022208 s (State.setWbu s c x) := by
  unfold State.setWbu
  repeat' (with_reducible first | assumption | apply Agree.refl | intro _ | apply Agree.then (k := Agree.up_wbs _ _) | decide)

theorem State.recUse_ag (s : State) (i : Nat) (l : List Nat) (u : Nat) : Agree 4398046511104 s (State.recUse s i l u) := by
  unfold State.recUse
  repeat' (with_reducible first | assumption | apply Agree.refl | intro _ | apply Agree.foldl | apply Agree.then (k := State.rcuMod_ag _ _ _) | decide)

theorem State.recShow_ag (s : State) (i : Nat) : Agree 1 s (State.recShow s i) := by
  unfold State.recShow
  repeat' (with_reducible first | assumption | apply Agree.refl | intro _ | (extract_lets +onlyGivenNames x; first | (refine (fun (_ : Agree 1 s x) => ?_ : Agree 1 s x → _) ?_; clear_value x) | (refine (fun (_ : Agree 1 s x.1) => ?_ : Agree 1 s x.1 → _) ?_; clear_value x) | clear_value x) | subst x | apply Agree.then (k := State.wr_ag _ _ _) | apply Agree.then (k := State.putBit_ag _ _ _ _) | decide | split)

theorem State.recLog_ag (s : State) (i code p0 p1 : Nat) : Agree 25089 s (State.recLog s i code p0 p1) := by
  unfold State.recLog
  repeat' (with_reducible first | assumption | apply Agree.refl | intro _ | apply Agree.then (k := State.irq_ag _ _) | apply Agree.then (k := State.log_ag _ _ _ _ _) | decide)

theorem State.recDeny_ag (s : State) (i p0 p1 : Nat) : Agree 25089 s (State.recDeny s i p0 p1) := by
  unfold State.recDeny
  repeat' (with_reducible first | assumption | apply Agree.refl | intro _ | apply Agree.then (k := State.putBit_ag _ _ _ _) | apply Agree.then (k := State.recLog_ag _ _ _ _ _) | decide)

theorem State.recMedia_ag (s : State) (i : Nat) (frame : Bool) (addr seg : Nat) : Agree 25089 s (State.recMedia s i frame addr seg) := by
  unfold State.recMedia
  repeat' (with_reducible first | assumption | apply Agree.refl | intro _ | (extract_lets +onlyGivenNames x; first | (refine (fun (_ : Agree 25089 s x) => ?_ : Agree 25089 s x → _) ?_; clear_value x) | (refine (fun (_ : Agree 25089 s x.1) => ?_ : Agree 25089 s x.1 → _) ?_; clear_value x) | clear_value x) | subst x | apply Agree.ite | apply Agree.then (k := State.putBit_ag _ _ _ _) | apply Agree.then (k := State.count_ag _ _ _ _ _) | apply Agree.then (k := State.recLog_ag _ _ _ _ _) | decide | split)

theorem State.segWrite_ag (s : State) (seg w : Nat) (ws : List Word) : Agree 2 s (State.segWrite s seg w ws) := by
  unfold State.segWrite
  repeat' (with_reducible first | assumption | apply Agree.refl | intro _ | apply Agree.then (k := State.mwr_ag _ _ _) | decide)

theorem State.segPart_ag (s : State) (seg w : Nat) (ws : List Word) : Agree 2 s (State.segPart s seg w ws) := by
  unfold State.segPart
  repeat' (with_reducible first | assumption | apply Agree.refl | intro _ | apply Agree.then (k := State.segWrite_ag _ _ _ _) | decide)

theorem State.headWrite_ag (s : State) (i seg w : Nat) (ws : List Word) : Agree 27139 s (State.headWrite s i seg w ws).1 := by
  unfold State.headWrite
  repeat' (with_reducible first | assumption | apply Agree.refl | intro _ | apply Agree.ite | apply Agree.iteP | apply Agree.then (k := State.setMramErr_ag _ _) | apply Agree.then (k := State.recMedia_ag _ _ _ _ _) | apply Agree.then (k := State.segWrite_ag _ _ _ _) | decide | split)

theorem State.recOpen_ag (s : State) (i pos id : Nat) (t : State) (n : Nat) (h : s.recOpen i pos id = some (t, n)) :
    Agree 4398046538243 s t := by
  unfold State.recOpen at h
  split at h
  · cases h
  · obtain ⟨rfl, -⟩ := Prod.mk.inj (Option.some.inj h)
    exact ((Agree.mono (State.headWrite_ag _ _ _ _ _) (by decide)).then (State.recUse_ag _ _ _ _) (by decide)).then (State.rcuMod_ag _ _ _) (by decide)

theorem State.recRing_ag (s : State) (i : Nat) : Agree 4398046538243 s (State.recRing s i) := by
  unfold State.recRing
  repeat' (with_reducible first | assumption | apply Agree.refl | intro _ | apply Agree.ite | apply Agree.mono (State.recOpen_ag _ _ _ _ _ _ (by assumption)) | decide | split)

theorem State.recEnd_ag (s : State) (i stop flags : Nat) : Agree 4398046511105 s (State.recEnd s i stop flags) := by
  unfold State.recEnd
  repeat' (with_reducible first | assumption | apply Agree.refl | intro _ | (extract_lets +onlyGivenNames x; first | (refine (fun (_ : Agree 4398046511105 s x) => ?_ : Agree 4398046511105 s x → _) ?_; clear_value x) | (refine (fun (_ : Agree 4398046511105 s x.1) => ?_ : Agree 4398046511105 s x.1 → _) ?_; clear_value x) | clear_value x) | subst x | apply Agree.then (k := State.rcuMod_ag _ _ _) | apply Agree.then (k := State.recShow_ag _ _) | decide | split)

theorem State.recEndDue_ag (s : State) (i : Nat) : Agree 4398046511105 s (State.recEndDue s i) := by
  unfold State.recEndDue
  repeat' (with_reducible first | assumption | apply Agree.refl | intro _ | apply Agree.ite | apply Agree.then (k := State.recEnd_ag _ _ _ _) | decide | split)

theorem State.recRemark_ag (s : State) (i seg o segOrd bits : Nat) : Agree 2 s (State.recRemark s i seg o segOrd bits) := by
  unfold State.recRemark
  repeat' (with_reducible first | assumption | apply Agree.refl | intro _ | (extract_lets +onlyGivenNames x; first | (refine (fun (_ : Agree 2 s x) => ?_ : Agree 2 s x → _) ?_; clear_value x) | (refine (fun (_ : Agree 2 s x.1) => ?_ : Agree 2 s x.1 → _) ?_; clear_value x) | clear_value x) | subst x | apply Agree.ite | apply Agree.optOr | apply Agree.optMap | apply Agree.then (k := State.mwr_ag _ _ _) | decide | split)

theorem State.recMark_ag (s : State) (i seg o segOrd bits : Nat) : Agree 4398046511106 s (State.recMark s i seg o segOrd bits) := by
  unfold State.recMark
  repeat' (with_reducible first | assumption | apply Agree.refl | intro _ | (extract_lets +onlyGivenNames x; first | (refine (fun (_ : Agree 4398046511106 s x) => ?_ : Agree 4398046511106 s x → _) ?_; clear_value x) | (refine (fun (_ : Agree 4398046511106 s x.1) => ?_ : Agree 4398046511106 s x.1 → _) ?_; clear_value x) | clear_value x) | subst x | apply Agree.ite | apply Agree.then (k := State.rcuMod_ag _ _ _) | apply Agree.then (k := State.recRemark_ag _ _ _ _ _ _) | decide | split)

theorem State.recRefuse_ag (s : State) (i : Nat) : Agree 25089 s (State.recRefuse s i) := by
  unfold State.recRefuse
  repeat' (with_reducible first | assumption | apply Agree.refl | intro _ | (extract_lets +onlyGivenNames x; first | (refine (fun (_ : Agree 25089 s x) => ?_ : Agree 25089 s x → _) ?_; clear_value x) | (refine (fun (_ : Agree 25089 s x.1) => ?_ : Agree 25089 s x.1 → _) ?_; clear_value x) | clear_value x) | subst x | apply Agree.then (k := State.putBit_ag _ _ _ _) | apply Agree.then (k := State.count_ag _ _ _ _ _) | apply Agree.then (k := State.recLog_ag _ _ _ _ _) | decide)

theorem State.recWb_ag (s : State) (i id : Nat) (cs : List Nat) : Agree 13194139533312 s (s.recWb i id cs).1 := by
  unfold State.recWb
  refine Agree.foldlP (Agree.refl _ _) (fun q x hq => ?_)
  dsimp only
  split
  · exact hq
  · split
    · exact hq
    · exact (hq.then (State.recUse_ag _ _ _ _) (by decide)).then (State.setWbu_ag _ _ _) (by decide)

theorem State.recAccept_ag (s : State) (i : Nat) (g : Trig) (t e : Int) : Agree 13194139560451 s (State.recAccept s i g t e) := by
  unfold State.recAccept
  repeat' (with_reducible first | assumption | apply Agree.refl | intro _ | (extract_lets +onlyGivenNames x; first | (refine (fun (_ : Agree 13194139560451 s x) => ?_ : Agree 13194139560451 s x → _) ?_; clear_value x) | (refine (fun (_ : Agree 13194139560451 s x.1) => ?_ : Agree 13194139560451 s x.1 → _) ?_; clear_value x) | clear_value x) | subst x | apply Agree.ite | apply Agree.iteP | apply Agree.then (k := State.wr_ag _ _ _) | apply Agree.then (k := State.count_ag _ _ _ _ _) | apply Agree.then (k := State.rcuMod_ag _ _ _) | apply Agree.then (k := State.recUse_ag _ _ _ _) | apply Agree.then (k := State.recShow_ag _ _) | apply Agree.then (k := State.recLog_ag _ _ _ _ _) | apply Agree.then (k := State.headWrite_ag _ _ _ _ _) | apply Agree.then (k := State.recEndDue_ag _ _) | apply Agree.then (k := State.recMark_ag _ _ _ _ _ _) | apply Agree.then (k := State.recWb_ag _ _ _ _) | decide | split)

theorem State.recNew_ag (s : State) (i : Nat) (g : Trig) (t e : Int) : Agree 13194139560451 s (State.recNew s i g t e) := by
  unfold State.recNew
  repeat' (with_reducible first | assumption | apply Agree.refl | intro _ | (extract_lets +onlyGivenNames x; first | (refine (fun (_ : Agree 13194139560451 s x) => ?_ : Agree 13194139560451 s x → _) ?_; clear_value x) | (refine (fun (_ : Agree 13194139560451 s x.1) => ?_ : Agree 13194139560451 s x.1 → _) ?_; clear_value x) | clear_value x) | subst x | apply Agree.ite | apply Agree.then (k := State.recShow_ag _ _) | apply Agree.then (k := State.recRing_ag _ _) | apply Agree.then (k := State.recRefuse_ag _ _) | apply Agree.then (k := State.recAccept_ag _ _ _ _ _) | decide | split)

theorem State.recTrigger_ag (s : State) (i : Nat) (g : Trig) (off : Nat) : Agree 13194139560451 s (State.recTrigger s i g off) := by
  unfold State.recTrigger
  repeat' (with_reducible first | assumption | apply Agree.refl | intro _ | (extract_lets +onlyGivenNames x; first | (refine (fun (_ : Agree 13194139560451 s x) => ?_ : Agree 13194139560451 s x → _) ?_; clear_value x) | (refine (fun (_ : Agree 13194139560451 s x.1) => ?_ : Agree 13194139560451 s x.1 → _) ?_; clear_value x) | clear_value x) | subst x | apply Agree.ite | apply Agree.iteP | apply Agree.then (k := State.rcuMod_ag _ _ _) | apply Agree.then (k := State.recShow_ag _ _) | apply Agree.then (k := State.recRemark_ag _ _ _ _ _ _) | apply Agree.then (k := State.recMark_ag _ _ _ _ _ _) | apply Agree.then (k := State.recRefuse_ag _ _) | apply Agree.then (k := State.recNew_ag _ _ _ _ _) | decide | split)

theorem State.recStop_ag (s : State) (i : Nat) (g : Trig) (off : Nat) : Agree 13194139560451 s (State.recStop s i g off) := by
  unfold State.recStop
  repeat' (with_reducible first | assumption | apply Agree.refl | intro _ | (extract_lets +onlyGivenNames x; first | (refine (fun (_ : Agree 13194139560451 s x) => ?_ : Agree 13194139560451 s x → _) ?_; clear_value x) | (refine (fun (_ : Agree 13194139560451 s x.1) => ?_ : Agree 13194139560451 s x.1 → _) ?_; clear_value x) | clear_value x) | subst x | apply Agree.ite | apply Agree.then (k := State.recEnd_ag _ _ _ _) | apply Agree.then (k := State.recNew_ag _ _ _ _ _) | decide | split)

theorem State.recGuard_ho {m : Nat} {s t : State} {r : Req} {i off : Nat} {v : Word} {f : State → State} (h : Agree m s t)
    (hf : ∀ u, Agree m s u → Agree m s (f u)) (hm : 25089 ||| m = m) : Agree m s (t.recGuard r i off v f) := by
  unfold State.recGuard
  split
  · exact hf t h
  · exact h.then (State.recDeny_ag _ _ _ _) hm

theorem execRecHostTrigger_ag (r : Req) (i : Fin 4) (s : State) : ∀ t1, execRecHostTrigger r i s = .next t1 → Agree 13194139560451 s t1 := by
  intro t1 h
  obtain rfl := Host.Outcome.next.inj h
  repeat' (with_reducible first | assumption | apply Agree.refl | intro _ | apply Agree.ite | apply AgreeE.ok | apply AgreeE.jump | apply AgreeE.done | apply AgreeE.trap | apply AgreeE.ite | apply Agree.then (k := State.recTrigger_ag _ _ _ _) | apply State.recGuard_ho | decide)

theorem State.recRelease_ag (s : State) (i : Nat) : Agree 4398046536195 s (State.recRelease s i) := by
  unfold State.recRelease
  repeat' (with_reducible first | assumption | apply Agree.refl | intro _ | (extract_lets +onlyGivenNames x; first | (refine (fun (_ : Agree 4398046536195 s x) => ?_ : Agree 4398046536195 s x → _) ?_; clear_value x) | (refine (fun (_ : Agree 4398046536195 s x.1) => ?_ : Agree 4398046536195 s x.1 → _) ?_; clear_value x) | clear_value x) | subst x | apply Agree.foldl | apply Agree.then (k := State.rcuMod_ag _ _ _) | apply Agree.then (k := State.recUse_ag _ _ _ _) | apply Agree.then (k := State.recShow_ag _ _) | apply Agree.then (k := State.recLog_ag _ _ _ _ _) | apply Agree.then (k := State.recDeny_ag _ _ _ _) | apply Agree.then (k := State.segWrite_ag _ _ _ _) | decide | split)

theorem execRecRelease_ag (r : Req) (i : Fin 4) (s : State) : ∀ t1, execRecRelease r i s = .next t1 → Agree 4398046536195 s t1 := by
  intro t1 h
  obtain rfl := Host.Outcome.next.inj h
  repeat' (with_reducible first | assumption | apply Agree.refl | intro _ | apply Agree.ite | apply AgreeE.ok | apply AgreeE.jump | apply AgreeE.done | apply AgreeE.trap | apply AgreeE.ite | apply State.recGuard_ho | apply Agree.then (k := State.recRelease_ag _ _) | decide)

theorem State.recContinue_ag (s : State) (i : Nat) : Agree 4398046538243 s (State.recContinue s i) := by
  unfold State.recContinue
  repeat' (with_reducible first | assumption | apply Agree.refl | intro _ | (extract_lets +onlyGivenNames x; first | (refine (fun (_ : Agree 4398046538243 s x) => ?_ : Agree 4398046538243 s x → _) ?_; clear_value x) | (refine (fun (_ : Agree 4398046538243 s x.1) => ?_ : Agree 4398046538243 s x.1 → _) ?_; clear_value x) | clear_value x) | subst x | apply Agree.ite | apply Agree.then (k := State.rcuMod_ag _ _ _) | apply Agree.mono (State.recOpen_ag _ _ _ _ _ _ (by assumption)) | apply Agree.then (k := State.recEnd_ag _ _ _ _) | decide | split)

theorem State.recFrame_ag (s : State) (i : Nat) (ok : Bool) : Agree 4398046538243 s (State.recFrame s i ok) := by
  unfold State.recFrame
  repeat' (with_reducible first | assumption | apply Agree.refl | intro _ | (extract_lets +onlyGivenNames x; first | (refine (fun (_ : Agree 4398046538243 s x) => ?_ : Agree 4398046538243 s x → _) ?_; clear_value x) | (refine (fun (_ : Agree 4398046538243 s x.1) => ?_ : Agree 4398046538243 s x.1 → _) ?_; clear_value x) | clear_value x) | subst x | apply Agree.ite | apply Agree.foldl | apply Agree.then (k := State.mwr_ag _ _ _) | apply Agree.then (k := State.rcuMod_ag _ _ _) | apply Agree.then (k := State.recShow_ag _ _) | apply Agree.then (k := State.recMedia_ag _ _ _ _ _) | apply Agree.then (k := State.recRing_ag _ _) | apply Agree.then (k := State.recEndDue_ag _ _) | apply Agree.then (k := State.recContinue_ag _ _) | decide | split)

theorem execRecFrameWrite_ag (i : Fin 4) (ok : Bool) (s : State) : ∀ t1, execRecFrameWrite i ok s = .next t1 → Agree 4398046538243 s t1 := by
  intro t1 h
  obtain rfl := Host.Outcome.next.inj h
  repeat' (with_reducible first | assumption | apply Agree.refl | intro _ | apply Agree.then (k := State.recFrame_ag _ _ _) | decide)

theorem State.recUnclosed_ag (s : State) (i : Nat) (r : RecRec) : Agree 4398046511104 s (State.recUnclosed s i r) := by
  unfold State.recUnclosed
  repeat' (with_reducible first | assumption | apply Agree.refl | intro _ | apply Agree.then (k := State.rcuMod_ag _ _ _) | decide)

theorem State.recCloseIt_ag (s : State) (i : Nat) (r : RecRec) : Agree 4398046536195 s (State.recCloseIt s i r) := by
  unfold State.recCloseIt
  repeat' (with_reducible first | assumption | apply Agree.refl | intro _ | (extract_lets +onlyGivenNames x; first | (refine (fun (_ : Agree 4398046536195 s x) => ?_ : Agree 4398046536195 s x → _) ?_; clear_value x) | (refine (fun (_ : Agree 4398046536195 s x.1) => ?_ : Agree 4398046536195 s x.1 → _) ?_; clear_value x) | clear_value x) | subst x | apply Agree.ite | apply Agree.then (k := State.rcuMod_ag _ _ _) | apply Agree.then (k := State.recShow_ag _ _) | apply Agree.then (k := State.recLog_ag _ _ _ _ _) | apply Agree.then (k := State.segPart_ag _ _ _ _) | apply Agree.then (k := State.recUnclosed_ag _ _ _) | decide | split)

theorem State.recClose_ag (s : State) (i : Nat) (ok : Bool) : Agree 4398046536195 s (State.recClose s i ok) := by
  unfold State.recClose
  repeat' (with_reducible first | assumption | apply Agree.refl | intro _ | (extract_lets +onlyGivenNames x; first | (refine (fun (_ : Agree 4398046536195 s x) => ?_ : Agree 4398046536195 s x → _) ?_; clear_value x) | (refine (fun (_ : Agree 4398046536195 s x.1) => ?_ : Agree 4398046536195 s x.1 → _) ?_; clear_value x) | clear_value x) | subst x | apply Agree.ite | apply Agree.then (k := State.recShow_ag _ _) | apply Agree.then (k := State.recMedia_ag _ _ _ _ _) | apply Agree.then (k := State.recUnclosed_ag _ _ _) | apply Agree.then (k := State.recCloseIt_ag _ _ _) | decide | split)

theorem execRecClose_ag (i : Fin 4) (ok : Bool) (s : State) : ∀ t1, execRecClose i ok s = .next t1 → Agree 4398046536195 s t1 := by
  intro t1 h
  obtain rfl := Host.Outcome.next.inj h
  repeat' (with_reducible first | assumption | apply Agree.refl | intro _ | apply Agree.then (k := State.recClose_ag _ _ _) | decide)

theorem State.wbStore_ag (s : State) (ch : Nat) (w : Int) : Agree 2097153 s (State.wbStore s ch w) := by
  unfold State.wbStore
  repeat' (with_reducible first | assumption | apply Agree.refl | intro _ | (extract_lets +onlyGivenNames x; first | (refine (fun (_ : Agree 2097153 s x) => ?_ : Agree 2097153 s x → _) ?_; clear_value x) | (refine (fun (_ : Agree 2097153 s x.1) => ?_ : Agree 2097153 s x.1 → _) ?_; clear_value x) | clear_value x) | subst x | apply Agree.then (k := State.put_ag _ _ _ _ _) | apply Agree.then (k := State.laneMod_ag _ _ _) | decide)

theorem State.wbSample_ag (s : State) (ch : Nat) : Agree 563276574515721 s (State.wbSample s ch) := by
  unfold State.wbSample
  repeat' (with_reducible first | assumption | apply Agree.refl | intro _ | (extract_lets +onlyGivenNames x; first | (refine (fun (_ : Agree 563276574515721 s x) => ?_ : Agree 563276574515721 s x → _) ?_; clear_value x) | (refine (fun (_ : Agree 563276574515721 s x.1) => ?_ : Agree 563276574515721 s x.1 → _) ?_; clear_value x) | clear_value x) | subst x | apply Agree.ite | apply Agree.then (k := State.laneMod_ag _ _ _) | apply Agree.then (k := State.fpdStep_ag _ _ _ _) | apply Agree.then (k := State.wbStore_ag _ _ _) | decide | split)

theorem execWbSample_ag (ch : Fin 128) (s : State) : ∀ t1, execWbSample ch s = .next t1 → Agree 563276574515721 s t1 := by
  intro t1 h
  obtain rfl := Host.Outcome.next.inj h
  repeat' (with_reducible first | assumption | apply Agree.refl | intro _ | apply Agree.then (k := State.wbSample_ag _ _) | decide)

theorem State.recChange_ag (s : State) (i id : Nat) (f : RecRec → RecRec) : Agree 4398046511104 s (State.recChange s i id f) := by
  unfold State.recChange
  repeat' (with_reducible first | assumption | apply Agree.refl | intro _ | (extract_lets +onlyGivenNames x; first | (refine (fun (_ : Agree 4398046511104 s x) => ?_ : Agree 4398046511104 s x → _) ?_; clear_value x) | (refine (fun (hf : ∀ t, Agree 4398046511104 s t → Agree 4398046511104 s (x t)) => ?_ : (∀ t, Agree 4398046511104 s t → Agree 4398046511104 s (x t)) → _) (fun _ _ => ?_); clear_value x) | (refine (fun (hg : ∀ a t, Agree 4398046511104 s t → Agree 4398046511104 s (x a t)) => ?_ : (∀ a t, Agree 4398046511104 s t → Agree 4398046511104 s (x a t)) → _) (fun _ _ _ => ?_); clear_value x) | (refine (fun (hk : ∀ a, Agree 4398046511104 s (x a)) => ?_ : (∀ a, Agree 4398046511104 s (x a)) → _) (fun _ => ?_); clear_value x) | (refine (fun (hp : ∀ t a b, Agree 4398046511104 s t → Agree 4398046511104 s (x t a b)) => ?_ : (∀ t a b, Agree 4398046511104 s t → Agree 4398046511104 s (x t a b)) → _) (fun _ _ _ _ => ?_); clear_value x) | (refine (fun (_ : Agree 4398046511104 s x.1) => ?_ : Agree 4398046511104 s x.1 → _) ?_; clear_value x) | clear_value x) | subst x | apply hf | apply hg | apply hp | apply hk | apply Agree.ite | apply Agree.then (k := State.rcuMod_ag _ _ _) | decide | split)

theorem State.wbEnd_ag (s : State) (c : Nat) (held : Bool) (flags : Nat) : Agree 13194139533313 s (State.wbEnd s c held flags) := by
  unfold State.wbEnd
  repeat' (with_reducible first | assumption | apply Agree.refl | intro _ | (extract_lets +onlyGivenNames x; first | (refine (fun (_ : Agree 13194139533313 s x) => ?_ : Agree 13194139533313 s x → _) ?_; clear_value x) | (refine (fun (_ : Agree 13194139533313 s x.1) => ?_ : Agree 13194139533313 s x.1 → _) ?_; clear_value x) | clear_value x) | subst x | apply Agree.ite | apply Agree.then (k := State.setWbu_ag _ _ _) | apply Agree.then (k := State.recUse_ag _ _ _ _) | apply Agree.then (k := State.recShow_ag _ _) | apply Agree.then (k := State.recChange_ag _ _ _ _) | decide | split)

theorem State.wbFreeze_ag (s : State) (c : Nat) : Agree 13194139533313 s (State.wbFreeze s c) := by
  unfold State.wbFreeze
  repeat' (with_reducible first | assumption | apply Agree.refl | intro _ | (extract_lets +onlyGivenNames x; first | (refine (fun (_ : Agree 13194139533313 s x) => ?_ : Agree 13194139533313 s x → _) ?_; clear_value x) | (refine (fun (_ : Agree 13194139533313 s x.1) => ?_ : Agree 13194139533313 s x.1 → _) ?_; clear_value x) | clear_value x) | subst x | apply Agree.ite | apply Agree.iteP | apply Agree.then (k := State.setWbu_ag _ _ _) | apply Agree.then (k := State.wbEnd_ag _ _ _ _) | decide | split)

theorem execWbFreeze_ag (c : Fin 16) (s : State) : ∀ t1, execWbFreeze c s = .next t1 → Agree 13194139533313 s t1 := by
  intro t1 h
  obtain rfl := Host.Outcome.next.inj h
  repeat' (with_reducible first | assumption | apply Agree.refl | intro _ | apply Agree.then (k := State.wbFreeze_ag _ _) | decide)

theorem State.wbCopyDone_ag (s : State) (c : Nat) (ok : Bool) : Agree 13194139558403 s (State.wbCopyDone s c ok) := by
  unfold State.wbCopyDone
  repeat' (with_reducible first | assumption | apply Agree.refl | intro _ | (extract_lets +onlyGivenNames x; first | (refine (fun (_ : Agree 13194139558403 s x) => ?_ : Agree 13194139558403 s x → _) ?_; clear_value x) | (refine (fun (_ : Agree 13194139558403 s x.1) => ?_ : Agree 13194139558403 s x.1 → _) ?_; clear_value x) | clear_value x) | subst x | apply Agree.ite | apply Agree.iteP | apply Agree.then (k := State.mwr_ag _ _ _) | apply Agree.then (k := State.rcuMod_ag _ _ _) | apply Agree.then (k := State.recMedia_ag _ _ _ _ _) | apply Agree.then (k := State.segWrite_ag _ _ _ _) | apply Agree.then (k := State.wbEnd_ag _ _ _ _) | decide | split)

theorem execWbCopyDone_ag (c : Fin 16) (ok : Bool) (s : State) : ∀ t1, execWbCopyDone c ok s = .next t1 → Agree 13194139558403 s t1 := by
  intro t1 h
  obtain rfl := Host.Outcome.next.inj h
  repeat' (with_reducible first | assumption | apply Agree.refl | intro _ | apply Agree.then (k := State.wbCopyDone_ag _ _ _) | decide)

theorem State.recStart_ag (s : State) (i : Nat) : Agree 4398046536193 s (State.recStart s i) := by
  unfold State.recStart
  repeat' (with_reducible first | assumption | apply Agree.refl | intro _ | (extract_lets +onlyGivenNames x; first | (refine (fun (_ : Agree 4398046536193 s x) => ?_ : Agree 4398046536193 s x → _) ?_; clear_value x) | (refine (fun (_ : Agree 4398046536193 s x.1) => ?_ : Agree 4398046536193 s x.1 → _) ?_; clear_value x) | clear_value x) | subst x | apply Agree.ite | apply Agree.then (k := State.putBit_ag _ _ _ _) | apply Agree.then (k := State.rcuMod_ag _ _ _) | apply Agree.then (k := State.recLog_ag _ _ _ _ _) | decide | split)

theorem execRecRunStart_ag (r : Req) (i : Fin 4) (s : State) : ∀ t1, execRecRunStart r i s = .next t1 → Agree 4398046536193 s t1 := by
  intro t1 h
  obtain rfl := Host.Outcome.next.inj h
  repeat' (with_reducible first | assumption | apply Agree.refl | intro _ | apply Agree.ite | apply AgreeE.ok | apply AgreeE.jump | apply AgreeE.done | apply AgreeE.trap | apply AgreeE.ite | apply State.recGuard_ho | apply Agree.then (k := State.recStart_ag _ _) | decide)

theorem State.recStopReq_ag (s : State) (i : Nat) : Agree 4398046511105 s (State.recStopReq s i) := by
  unfold State.recStopReq
  repeat' (with_reducible first | assumption | apply Agree.refl | intro _ | (extract_lets +onlyGivenNames x; first | (refine (fun (_ : Agree 4398046511105 s x) => ?_ : Agree 4398046511105 s x → _) ?_; clear_value x) | (refine (fun (_ : Agree 4398046511105 s x.1) => ?_ : Agree 4398046511105 s x.1 → _) ?_; clear_value x) | clear_value x) | subst x | apply Agree.ite | apply Agree.then (k := State.putBit_ag _ _ _ _) | apply Agree.then (k := State.rcuMod_ag _ _ _) | decide | split)

theorem execRecRunStop_ag (r : Req) (i : Fin 4) (s : State) : ∀ t1, execRecRunStop r i s = .next t1 → Agree 4398046536193 s t1 := by
  intro t1 h
  obtain rfl := Host.Outcome.next.inj h
  repeat' (with_reducible first | assumption | apply Agree.refl | intro _ | apply Agree.ite | apply AgreeE.ok | apply AgreeE.jump | apply AgreeE.done | apply AgreeE.trap | apply AgreeE.ite | apply State.recGuard_ho | apply Agree.then (k := State.recStopReq_ag _ _) | decide)

theorem State.scanClose_ag (s : State) (i seg sf slot : Nat) (l : List (List Word)) (conts : List Nat) (flags : Nat) : Agree 2 s (State.scanClose s i seg sf slot l conts flags) := by
  unfold State.scanClose
  repeat' (with_reducible first | assumption | apply Agree.refl | intro _ | (extract_lets +onlyGivenNames x; first | (refine (fun (_ : Agree 2 s x) => ?_ : Agree 2 s x → _) ?_; clear_value x) | (refine (fun (_ : Agree 2 s x.1) => ?_ : Agree 2 s x.1 → _) ?_; clear_value x) | clear_value x) | subst x | apply Agree.ite | apply Agree.iteP | apply Agree.then (k := State.segPart_ag _ _ _ _) | decide | split)

theorem State.scanUnclosed_ag (s : State) (i seg : Nat) : Agree 2 s (State.scanUnclosed s i seg) := by
  unfold State.scanUnclosed
  repeat' (with_reducible first | assumption | apply Agree.refl | intro _ | (extract_lets +onlyGivenNames x; first | (refine (fun (_ : Agree 2 s x) => ?_ : Agree 2 s x → _) ?_; clear_value x) | (refine (fun (_ : Agree 2 s x.1) => ?_ : Agree 2 s x.1 → _) ?_; clear_value x) | clear_value x) | subst x | apply Agree.then (k := State.scanClose_ag _ _ _ _ _ _ _ _) | decide)

theorem State.scanFound_ag (s : State) (i seg n sf f : Nat) : Agree 2 s (State.scanFound s i seg n sf f) := by
  unfold State.scanFound
  repeat' (with_reducible first | assumption | apply Agree.refl | intro _ | (extract_lets +onlyGivenNames x; first | (refine (fun (_ : Agree 2 s x) => ?_ : Agree 2 s x → _) ?_; clear_value x) | (refine (fun (_ : Agree 2 s x.1) => ?_ : Agree 2 s x.1 → _) ?_; clear_value x) | clear_value x) | subst x | apply Agree.then (k := State.segPart_ag _ _ _ _) | apply Agree.then (k := State.scanClose_ag _ _ _ _ _ _ _ _) | decide)

theorem State.scanRing_ag (s : State) (i seg : Nat) : Agree 2 s (s.scanRing i seg) := by
  unfold State.scanRing
  exact Agree.optMap (fun f => State.scanFound_ag _ _ _ _ _ _)

theorem State.recScan_ag (s : State) (i : Nat) : Agree 13194139560451 s (s.recScan i) := by
  unfold State.recScan
  apply Agree.ite <;> intro _
  · apply Agree.refl
  · extract_lets part rings maxSeq done open_ bare s1 listed
    have h1 : Agree 13194139560451 s s1 := Agree.foldl (Agree.refl _ _) (fun u x hu => hu.then (State.scanUnclosed_ag _ _ _) (by decide))
    clear_value s1
    split
    next s2 kept heq =>
    have h2 : Agree 13194139560451 s s2 := by
      have : s2 = (s2, kept).1 := rfl
      rw [this, ← heq]
      refine Agree.foldlP h1 (fun q x hq => ?_)
      dsimp only
      split
      · exact hq.then (State.scanRing_ag _ _ _) (by decide)
      · exact hq
    clear heq
    extract_lets held wbSet s3 s4 s5 s6 s7
    have h3 : Agree 13194139560451 s s3 := Agree.foldl h2 (fun u x hu => by
      split
      · exact hu.then (State.setWbu_ag _ _ _) (by decide)
      · exact hu)
    have h5 : Agree 13194139560451 s s5 := Agree.foldl (h3.then (State.setRcu_ag _ _ _) (by decide)) (fun u x hu => hu.then (State.recUse_ag _ _ _ _) (by decide))
    exact ((((h5.then (State.putBit_ag _ _ _ _) (by decide)).then (State.putBit_ag _ _ _ _) (by decide)).then (State.recRing_ag _ _) (by decide)).then
      (State.recShow_ag _ _) (by decide)).then (State.recLog_ag _ _ _ _ _) (by decide)

theorem execRecScanDone_ag (i : Fin 4) (s : State) : ∀ t1, execRecScanDone i s = .next t1 → Agree 13194139560451 s t1 := by
  intro t1 h
  obtain rfl := Host.Outcome.next.inj h
  repeat' (with_reducible first | assumption | apply Agree.refl | intro _ | apply Agree.then (k := State.recScan_ag _ _) | decide)

end Sys2Proof.Machine
end

