-- ==== Sys2Proof/Laws/Frame/Gauge.lean ====
section
/-!
SUPPORT. Frames of the operations of Machine/Gauge.lean: the fields each can change, as a mask.
-/
set_option linter.unusedTactic false
set_option linter.unreachableTactic false
namespace Sys2Proof.Machine
open Sys2Proof

theorem State.setGauge_ag (s : State) (k : Nat) (x : GaugeU) : Agree 17592186044416 s (State.setGauge s k x) := by
  unfold State.setGauge
  repeat' (with_reducible first | assumption | apply Agree.refl | intro _ | apply Agree.then (k := Agree.up_gauges _ _) | decide)

theorem State.gaugeSample_ag (s : State) (i g age : Nat) (refOk : Bool) : Agree 17592186044416 s (State.gaugeSample s i g age refOk) := by
  unfold State.gaugeSample
  repeat' (with_reducible first | assumption | apply Agree.refl | intro _ | (extract_lets +onlyGivenNames x; first | (refine (fun (_ : Agree 17592186044416 s x) => ?_ : Agree 17592186044416 s x → _) ?_; clear_value x) | (refine (fun (_ : Agree 17592186044416 s x.1) => ?_ : Agree 17592186044416 s x.1 → _) ?_; clear_value x) | clear_value x) | subst x | apply Agree.ite | apply Agree.then (k := State.setGauge_ag _ _ _) | decide | split)

theorem State.gaugeTests_ag (s : State) (c : Nat) : Agree 17592186044416 s (State.gaugeTests s c) := by
  unfold State.gaugeTests
  repeat' (with_reducible first | assumption | apply Agree.refl | intro _ | (extract_lets +onlyGivenNames x; first | (refine (fun (_ : Agree 17592186044416 s x) => ?_ : Agree 17592186044416 s x → _) ?_; clear_value x) | (refine (fun (_ : Agree 17592186044416 s x.1) => ?_ : Agree 17592186044416 s x.1 → _) ?_; clear_value x) | clear_value x) | subst x | apply Agree.ite | apply Agree.foldl | apply Agree.then (k := State.gaugeSample_ag _ _ _ _ _) | decide | split)

theorem State.gaugeDisarm_ag (s : State) (i g : Nat) : Agree 17592186044417 s (State.gaugeDisarm s i g) := by
  unfold State.gaugeDisarm
  repeat' (with_reducible first | assumption | apply Agree.refl | intro _ | apply Agree.then (k := State.putBit_ag _ _ _ _) | apply Agree.then (k := State.setGauge_ag _ _ _) | decide)

theorem State.gaugeArm_ag (s : State) (i g : Nat) : Agree 17592186044417 s (State.gaugeArm s i g) := by
  unfold State.gaugeArm
  repeat' (with_reducible first | assumption | apply Agree.refl | intro _ | apply Agree.ite | apply Agree.then (k := State.putBit_ag _ _ _ _) | apply Agree.then (k := State.setGauge_ag _ _ _) | decide | split)

theorem execGaugeArm_ag (r : Req) (i : Fin 4) (g : Fin 8) (s : State) : ∀ t1, execGaugeArm r i g s = .next t1 → Agree 17592186069505 s t1 := by
  intro t1 h
  obtain rfl := Host.Outcome.next.inj h
  repeat' (with_reducible first | assumption | apply Agree.refl | intro _ | apply Agree.ite | apply AgreeE.ok | apply AgreeE.jump | apply AgreeE.done | apply AgreeE.trap | apply AgreeE.ite | apply State.recGuard_ho | apply Agree.then (k := State.gaugeArm_ag _ _ _) | decide)

theorem execGaugeDisarm_ag (r : Req) (i : Fin 4) (g : Fin 8) (s : State) : ∀ t1, execGaugeDisarm r i g s = .next t1 → Agree 17592186069505 s t1 := by
  intro t1 h
  obtain rfl := Host.Outcome.next.inj h
  repeat' (with_reducible first | assumption | apply Agree.refl | intro _ | apply Agree.ite | apply AgreeE.ok | apply AgreeE.jump | apply AgreeE.done | apply AgreeE.trap | apply AgreeE.ite | apply State.recGuard_ho | apply Agree.then (k := State.gaugeDisarm_ag _ _ _) | decide)

theorem State.gaugeAct_ag (s : State) (i g : Nat) : Agree 30786325604867 s (State.gaugeAct s i g) := by
  unfold State.gaugeAct
  repeat' (with_reducible first | assumption | apply Agree.refl | intro _ | (extract_lets +onlyGivenNames x; first | (refine (fun (_ : Agree 30786325604867 s x) => ?_ : Agree 30786325604867 s x → _) ?_; clear_value x) | (refine (fun (_ : Agree 30786325604867 s x.1) => ?_ : Agree 30786325604867 s x.1 → _) ?_; clear_value x) | clear_value x) | subst x | apply Agree.ite | apply Agree.then (k := State.rcuMod_ag _ _ _) | apply Agree.then (k := State.recLog_ag _ _ _ _ _) | apply Agree.then (k := State.recTrigger_ag _ _ _ _) | apply Agree.then (k := State.recStop_ag _ _ _ _) | apply Agree.then (k := State.setGauge_ag _ _ _) | apply Agree.then (k := State.gaugeDisarm_ag _ _ _) | decide | split)

theorem execGaugeViolation_ag (i : Fin 4) (g : Fin 8) (s : State) : ∀ t1, execGaugeViolation i g s = .next t1 → Agree 30786325604867 s t1 := by
  intro t1 h
  obtain rfl := Host.Outcome.next.inj h
  repeat' (with_reducible first | assumption | apply Agree.refl | intro _ | apply Agree.then (k := State.gaugeAct_ag _ _ _) | decide)

theorem State.gaugeTable_ag (s : State) (r : Req) (c off : Nat) (v : Word) : Agree 641 s (State.gaugeTable s r c off v) := by
  unfold State.gaugeTable
  repeat' (with_reducible first | assumption | apply Agree.refl | intro _ | (extract_lets +onlyGivenNames x; first | (refine (fun (_ : Agree 641 s x) => ?_ : Agree 641 s x → _) ?_; clear_value x) | (refine (fun (_ : Agree 641 s x.1) => ?_ : Agree 641 s x.1 → _) ?_; clear_value x) | clear_value x) | subst x | apply Agree.ite | apply Agree.then (k := State.wr_ag _ _ _) | apply Agree.then (k := State.indFail_ag _ _ _) | decide | split)

theorem execGaugeTableWrite_ag (r : Req) (c : Fin 16) (off : BitVec 14) (v : Word) (s : State) : ∀ t1, execGaugeTableWrite r c off v s = .next t1 → Agree 641 s t1 := by
  intro t1 h
  obtain rfl := Host.Outcome.next.inj h
  repeat' (with_reducible first | assumption | apply Agree.refl | intro _ | apply Agree.ite | apply Agree.then (k := State.gaugeTable_ag _ _ _ _ _) | decide)

end Sys2Proof.Machine
end

