-- ==== Sys2Proof/Laws/Frame/Blaze.lean ====
section
/-!
SUPPORT. Frames of the operations of Machine/Blaze.lean: the fields each can change, as a mask.
-/
set_option linter.unusedTactic false
set_option linter.unreachableTactic false
namespace Sys2Proof.Machine
open Sys2Proof

theorem State.blzMod_ag (s : State) (i : Nat) (f : BlzU → BlzU) : Agree 35184372088832 s (State.blzMod s i f) := by
  unfold State.blzMod
  repeat' (with_reducible first | assumption | apply Agree.refl | intro _ | apply Agree.then (k := State.setBlz_ag _ _ _) | decide)

theorem State.blzCount_ag (s : State) (i : Nat) (v : PredView) : Agree 1 s (State.blzCount s i v) := by
  unfold State.blzCount
  repeat' (with_reducible first | assumption | apply Agree.refl | intro _ | apply Agree.ite | apply Agree.foldl | apply Agree.then (k := State.count_ag _ _ _ _ _) | decide | split)

theorem State.blzTmrShow_ag (s : State) (i at_ : Nat) : Agree 1 s (State.blzTmrShow s i at_) := by
  unfold State.blzTmrShow
  repeat' (with_reducible first | assumption | apply Agree.refl | intro _ | (extract_lets +onlyGivenNames x; first | (refine (fun (_ : Agree 1 s x) => ?_ : Agree 1 s x → _) ?_; clear_value x) | (refine (fun (hf : ∀ t, Agree 1 s t → Agree 1 s (x t)) => ?_ : (∀ t, Agree 1 s t → Agree 1 s (x t)) → _) (fun _ _ => ?_); clear_value x) | (refine (fun (hg : ∀ a t, Agree 1 s t → Agree 1 s (x a t)) => ?_ : (∀ a t, Agree 1 s t → Agree 1 s (x a t)) → _) (fun _ _ _ => ?_); clear_value x) | (refine (fun (hk : ∀ a, Agree 1 s (x a)) => ?_ : (∀ a, Agree 1 s (x a)) → _) (fun _ => ?_); clear_value x) | (refine (fun (hp : ∀ t a b, Agree 1 s t → Agree 1 s (x t a b)) => ?_ : (∀ t a b, Agree 1 s t → Agree 1 s (x t a b)) → _) (fun _ _ _ _ => ?_); clear_value x) | (refine (fun (_ : Agree 1 s x.1) => ?_ : Agree 1 s x.1 → _) ?_; clear_value x) | clear_value x) | subst x | apply hf | apply hg | apply hp | apply hk | apply Agree.then (k := State.put_ag _ _ _ _ _) | decide)

theorem State.blzHalt_ag (s : State) (i : Nat) : Agree 25089 s (State.blzHalt s i) := by
  unfold State.blzHalt
  repeat' (with_reducible first | assumption | apply Agree.refl | intro _ | (extract_lets +onlyGivenNames x; first | (refine (fun (_ : Agree 25089 s x) => ?_ : Agree 25089 s x → _) ?_; clear_value x) | (refine (fun (_ : Agree 25089 s x.1) => ?_ : Agree 25089 s x.1 → _) ?_; clear_value x) | clear_value x) | subst x | apply Agree.then (k := State.putBit_ag _ _ _ _) | apply Agree.then (k := State.recLog_ag _ _ _ _ _) | decide)

theorem State.blzAct_ag (s : State) (i : Nat) (w : Word) (inst : BEvt × Nat) (step : Nat) : Agree 65970697693699 s (State.blzAct s i w inst step) := by
  unfold State.blzAct
  repeat' (with_reducible first | assumption | apply Agree.refl | intro _ | (extract_lets +onlyGivenNames x; first | (refine (fun (_ : Agree 65970697693699 s x) => ?_ : Agree 65970697693699 s x → _) ?_; clear_value x) | (refine (fun (hf : ∀ t, Agree 65970697693699 s t → Agree 65970697693699 s (x t)) => ?_ : (∀ t, Agree 65970697693699 s t → Agree 65970697693699 s (x t)) → _) (fun _ _ => ?_); clear_value x) | (refine (fun (hg : ∀ a t, Agree 65970697693699 s t → Agree 65970697693699 s (x a t)) => ?_ : (∀ a t, Agree 65970697693699 s t → Agree 65970697693699 s (x a t)) → _) (fun _ _ _ => ?_); clear_value x) | (refine (fun (hk : ∀ a, Agree 65970697693699 s (x a)) => ?_ : (∀ a, Agree 65970697693699 s (x a)) → _) (fun _ => ?_); clear_value x) | (refine (fun (hp : ∀ t a b, Agree 65970697693699 s t → Agree 65970697693699 s (x t a b)) => ?_ : (∀ t a b, Agree 65970697693699 s t → Agree 65970697693699 s (x t a b)) → _) (fun _ _ _ _ => ?_); clear_value x) | (refine (fun (_ : Agree 65970697693699 s x.1) => ?_ : Agree 65970697693699 s x.1 → _) ?_; clear_value x) | clear_value x) | subst x | apply hf | apply hg | apply hp | apply hk | apply Agree.ite | apply Agree.foldl | apply Agree.then (k := State.wr_ag _ _ _) | apply Agree.then (k := State.put_ag _ _ _ _ _) | apply Agree.then (k := State.putBit_ag _ _ _ _) | apply Agree.then (k := State.recTrigger_ag _ _ _ _) | apply Agree.then (k := State.recStop_ag _ _ _ _) | apply Agree.then (k := State.gaugeDisarm_ag _ _ _) | apply Agree.then (k := State.gaugeArm_ag _ _ _) | apply Agree.then (k := State.blzMod_ag _ _ _) | apply Agree.then (k := State.blzHalt_ag _ _) | decide | split)

theorem State.blzSeen_ag (s : State) (i : Nat) (v : PredView) : Agree 35184372088832 s (State.blzSeen s i v) := by
  unfold State.blzSeen
  repeat' (with_reducible first | assumption | apply Agree.refl | intro _ | apply Agree.foldl | apply Agree.then (k := State.blzMod_ag _ _ _) | decide)

theorem State.blazeStep_ag (s : State) (i : Nat) : Agree 65970697726467 s (State.blazeStep s i) := by
  unfold State.blazeStep
  repeat' (with_reducible first | assumption | apply Agree.refl | intro _ | (extract_lets +onlyGivenNames x; first | (refine (fun (_ : Agree 65970697726467 s x) => ?_ : Agree 65970697726467 s x → _) ?_; clear_value x) | (refine (fun (_ : Agree 65970697726467 s x.1) => ?_ : Agree 65970697726467 s x.1 → _) ?_; clear_value x) | clear_value x) | subst x | apply Agree.ite | apply Agree.then (k := State.reachTime_ag _ _) | apply Agree.then (k := State.blzMod_ag _ _ _) | apply Agree.then (k := State.blzCount_ag _ _ _) | apply Agree.then (k := State.blzTmrShow_ag _ _ _) | apply Agree.then (k := State.blzAct_ag _ _ _ _ _) | apply Agree.then (k := State.blzSeen_ag _ _ _) | decide | split)

theorem execBlazeStep_ag (i : Fin 4) (s : State) : ∀ t1, execBlazeStep i s = .next t1 → Agree 65970697726467 s t1 := by
  intro t1 h
  obtain rfl := Host.Outcome.next.inj h
  repeat' (with_reducible first | assumption | apply Agree.refl | intro _ | apply Agree.then (k := State.blazeStep_ag _ _) | decide)

theorem State.blzExpire_ag (s : State) (i t : Nat) : Agree 32769 s (State.blzExpire s i t) := by
  unfold State.blzExpire
  repeat' (with_reducible first | assumption | apply Agree.refl | intro _ | apply Agree.then (k := State.putBit_ag _ _ _ _) | apply Agree.then (k := State.reachTime_ag _ _) | decide | split)

theorem execBlzTimerExpiry_ag (i : Fin 4) (t : Fin 4) (s : State) : ∀ t1, execBlzTimerExpiry i t s = .next t1 → Agree 32769 s t1 := by
  intro t1 h
  obtain rfl := Host.Outcome.next.inj h
  repeat' (with_reducible first | assumption | apply Agree.refl | intro _ | apply Agree.then (k := State.blzExpire_ag _ _ _) | decide)

theorem execBlzCounterLimit_ag (_i _c : Fin 4) (s : State) : ∀ t1, execBlzCounterLimit _i _c s = .next t1 → Agree 0 s t1 := by
  intro t1 h
  obtain rfl := Host.Outcome.next.inj h
  repeat' (with_reducible first | assumption | apply Agree.refl | intro _ | decide)

theorem State.blzUntap_ag (s : State) (i : Nat) : Agree 4 s (State.blzUntap s i) := by
  unfold State.blzUntap
  repeat' (with_reducible first | assumption | apply Agree.refl | intro _ | apply Agree.foldl | apply Agree.then (k := State.setClaim_ag _ _ _) | decide)

theorem State.blzRefused_ag (s : State) (i res : Nat) : Agree 25093 s (State.blzRefused s i res) := by
  unfold State.blzRefused
  repeat' (with_reducible first | assumption | apply Agree.refl | intro _ | (extract_lets +onlyGivenNames x; first | (refine (fun (_ : Agree 25093 s x) => ?_ : Agree 25093 s x → _) ?_; clear_value x) | (refine (fun (_ : Agree 25093 s x.1) => ?_ : Agree 25093 s x.1 → _) ?_; clear_value x) | clear_value x) | subst x | apply Agree.then (k := State.wr_ag _ _ _) | apply Agree.then (k := State.putBit_ag _ _ _ _) | apply Agree.then (k := State.count_ag _ _ _ _ _) | apply Agree.then (k := State.irq_ag _ _) | apply Agree.then (k := State.log_ag _ _ _ _ _) | apply Agree.then (k := State.blzUntap_ag _ _) | decide)

theorem State.blzBegin_ag (s : State) (i : Nat) : Agree 35184372088833 s (State.blzBegin s i) := by
  unfold State.blzBegin
  repeat' (with_reducible first | assumption | apply Agree.refl | intro _ | (extract_lets +onlyGivenNames x; first | (refine (fun (_ : Agree 35184372088833 s x) => ?_ : Agree 35184372088833 s x → _) ?_; clear_value x) | (refine (fun (_ : Agree 35184372088833 s x.1) => ?_ : Agree 35184372088833 s x.1 → _) ?_; clear_value x) | clear_value x) | subst x | apply Agree.foldl | apply Agree.then (k := State.wr_ag _ _ _) | apply Agree.then (k := State.putBit_ag _ _ _ _) | apply Agree.then (k := State.setBlz_ag _ _ _) | apply Agree.then (k := State.blzSeen_ag _ _ _) | decide)

theorem State.blzStart_ag (s : State) (i : Nat) : Agree 35184372113925 s (State.blzStart s i) := by
  unfold State.blzStart
  repeat' (with_reducible first | assumption | apply Agree.refl | intro _ | (extract_lets +onlyGivenNames x; first | (refine (fun (_ : Agree 35184372113925 s x) => ?_ : Agree 35184372113925 s x → _) ?_; clear_value x) | (refine (fun (_ : Agree 35184372113925 s x.1) => ?_ : Agree 35184372113925 s x.1 → _) ?_; clear_value x) | clear_value x) | subst x | apply Agree.ite | apply Agree.then (k := State.takeClaims_ag _ _ _) | apply Agree.then (k := State.blzUntap_ag _ _) | apply Agree.then (k := State.blzRefused_ag _ _ _) | apply Agree.then (k := State.blzBegin_ag _ _) | decide | split)

theorem execBlzRunStart_ag (r : Req) (i : Fin 4) (s : State) : ∀ t1, execBlzRunStart r i s = .next t1 → Agree 35184372113925 s t1 := by
  intro t1 h
  obtain rfl := Host.Outcome.next.inj h
  repeat' (with_reducible first | assumption | apply Agree.refl | intro _ | apply Agree.ite | apply AgreeE.ok | apply AgreeE.jump | apply AgreeE.done | apply AgreeE.trap | apply AgreeE.ite | apply State.recGuard_ho | apply Agree.then (k := State.blzStart_ag _ _) | decide)

theorem State.blzStop_ag (s : State) (i : Nat) : Agree 5 s (State.blzStop s i) := by
  unfold State.blzStop
  repeat' (with_reducible first | assumption | apply Agree.refl | intro _ | apply Agree.then (k := State.putBit_ag _ _ _ _) | apply Agree.then (k := State.blzUntap_ag _ _) | decide)

theorem execBlzRunStop_ag (r : Req) (i : Fin 4) (s : State) : ∀ t1, execBlzRunStop r i s = .next t1 → Agree 25093 s t1 := by
  intro t1 h
  obtain rfl := Host.Outcome.next.inj h
  repeat' (with_reducible first | assumption | apply Agree.refl | intro _ | apply Agree.ite | apply AgreeE.ok | apply AgreeE.jump | apply AgreeE.done | apply AgreeE.trap | apply AgreeE.ite | apply State.recGuard_ho | apply Agree.then (k := State.blzStop_ag _ _) | decide)

theorem State.recStopApply_ag (s : State) (i : Nat) : Agree 4398046511109 s (State.recStopApply s i) := by
  unfold State.recStopApply
  repeat' (with_reducible first | assumption | apply Agree.refl | intro _ | (extract_lets +onlyGivenNames x; first | (refine (fun (_ : Agree 4398046511109 s x) => ?_ : Agree 4398046511109 s x → _) ?_; clear_value x) | (refine (fun (_ : Agree 4398046511109 s x.1) => ?_ : Agree 4398046511109 s x.1 → _) ?_; clear_value x) | clear_value x) | subst x | apply Agree.ite | apply Agree.then (k := State.putBit_ag _ _ _ _) | apply Agree.then (k := State.rcuMod_ag _ _ _) | apply Agree.then (k := State.recShow_ag _ _) | apply Agree.then (k := State.recEnd_ag _ _ _ _) | apply Agree.then (k := State.blzStop_ag _ _) | decide | split)

theorem execRecStopApply_ag (i : Fin 4) (s : State) : ∀ t1, execRecStopApply i s = .next t1 → Agree 4398046511109 s t1 := by
  intro t1 h
  obtain rfl := Host.Outcome.next.inj h
  repeat' (with_reducible first | assumption | apply Agree.refl | intro _ | apply Agree.then (k := State.recStopApply_ag _ _) | decide)

theorem State.recConfig_ag (s : State) (r : Req) (i off : Nat) (v : Word) : Agree 17592186069505 s (State.recConfig s r i off v) := by
  unfold State.recConfig
  repeat' (with_reducible first | assumption | apply Agree.refl | intro _ | (extract_lets +onlyGivenNames x; first | (refine (fun (_ : Agree 17592186069505 s x) => ?_ : Agree 17592186069505 s x → _) ?_; clear_value x) | (refine (fun (_ : Agree 17592186069505 s x.1) => ?_ : Agree 17592186069505 s x.1 → _) ?_; clear_value x) | clear_value x) | subst x | apply Agree.ite | apply Agree.then (k := State.regWrite_ag _ _ _) | apply Agree.then (k := State.recShow_ag _ _) | apply Agree.then (k := State.recDeny_ag _ _ _ _) | apply Agree.then (k := State.gaugeDisarm_ag _ _ _) | apply Agree.then (k := State.gaugeArm_ag _ _ _) | decide | split)

theorem execRecConfigWrite_ag (r : Req) (i : Fin 4) (off : Fin 0x300) (v : Word) (s : State) : ∀ t1, execRecConfigWrite r i off v s = .next t1 → Agree 17592186069505 s t1 := by
  intro t1 h
  obtain rfl := Host.Outcome.next.inj h
  repeat' (with_reducible first | assumption | apply Agree.refl | intro _ | (extract_lets +onlyGivenNames x; first | (refine (fun (_ : Agree 17592186069505 s x) => ?_ : Agree 17592186069505 s x → _) ?_; clear_value x) | (refine (fun (_ : Agree 17592186069505 s x.1) => ?_ : Agree 17592186069505 s x.1 → _) ?_; clear_value x) | clear_value x) | subst x | apply Agree.ite | apply Agree.then (k := State.recConfig_ag _ _ _ _ _) | decide | split)

theorem State.comExport_ag (s : State) (i id : Nat) (q : ComReq) (cfg hdr dat : Nat) : Agree 3 s (State.comExport s i id q cfg hdr dat) := by
  unfold State.comExport
  repeat' (with_reducible first | assumption | apply Agree.refl | intro _ | (extract_lets +onlyGivenNames x; first | (refine (fun (_ : Agree 3 s x) => ?_ : Agree 3 s x → _) ?_; clear_value x) | (refine (fun (hf : ∀ t, Agree 3 s t → Agree 3 s (x t)) => ?_ : (∀ t, Agree 3 s t → Agree 3 s (x t)) → _) (fun _ _ => ?_); clear_value x) | (refine (fun (hg : ∀ a t, Agree 3 s t → Agree 3 s (x a t)) => ?_ : (∀ a t, Agree 3 s t → Agree 3 s (x a t)) → _) (fun _ _ _ => ?_); clear_value x) | (refine (fun (hk : ∀ a, Agree 3 s (x a)) => ?_ : (∀ a, Agree 3 s (x a)) → _) (fun _ => ?_); clear_value x) | (refine (fun (hp : ∀ t a b, Agree 3 s t → Agree 3 s (x t a b)) => ?_ : (∀ t a b, Agree 3 s t → Agree 3 s (x t a b)) → _) (fun _ _ _ _ => ?_); clear_value x) | (refine (fun (_ : Agree 3 s x.1) => ?_ : Agree 3 s x.1 → _) ?_; clear_value x) | clear_value x) | subst x | apply hf | apply hg | apply hp | apply hk | apply Agree.ite | apply Agree.then (k := State.put_ag _ _ _ _ _) | apply Agree.then (k := State.mwr_ag _ _ _) | decide | split)

theorem execComtradeExport_ag (i : Fin 4) (id : Word) (q : ComReq) (cfg hdr dat : BitVec 26) (s : State) : ∀ t1, execComtradeExport i id q cfg hdr dat s = .next t1 → Agree 3 s t1 := by
  intro t1 h
  obtain rfl := Host.Outcome.next.inj h
  repeat' (with_reducible first | assumption | apply Agree.refl | intro _ | apply Agree.then (k := State.comExport_ag _ _ _ _ _ _ _) | decide)

end Sys2Proof.Machine
end

