-- ==== Sys2Proof/Laws/Frame/FieldLink.lean ====
section
/-!
SUPPORT. Frames of the operations of Machine/FieldLink.lean: the fields each can change, as a mask.
-/
set_option linter.unusedTactic false
set_option linter.unreachableTactic false
namespace Sys2Proof.Machine
open Sys2Proof

theorem State.countEdge_ag (s : State) (e : FEdge) : Agree 206158430272 s (State.countEdge s e) := by
  unfold State.countEdge
  repeat' (with_reducible first | assumption | apply Agree.refl | intro _ | (extract_lets +onlyGivenNames x; first | (refine (fun (_ : Agree 206158430272 s x) => ?_ : Agree 206158430272 s x → _) ?_; clear_value x) | (refine (fun (hf : ∀ t, Agree 206158430272 s t → Agree 206158430272 s (x t)) => ?_ : (∀ t, Agree 206158430272 s t → Agree 206158430272 s (x t)) → _) (fun _ _ => ?_); clear_value x) | (refine (fun (hg : ∀ a t, Agree 206158430272 s t → Agree 206158430272 s (x a t)) => ?_ : (∀ a t, Agree 206158430272 s t → Agree 206158430272 s (x a t)) → _) (fun _ _ _ => ?_); clear_value x) | (refine (fun (hk : ∀ a, Agree 206158430272 s (x a)) => ?_ : (∀ a, Agree 206158430272 s (x a)) → _) (fun _ => ?_); clear_value x) | (refine (fun (hp : ∀ t a b, Agree 206158430272 s t → Agree 206158430272 s (x t a b)) => ?_ : (∀ t a b, Agree 206158430272 s t → Agree 206158430272 s (x t a b)) → _) (fun _ _ _ _ => ?_); clear_value x) | (refine (fun (_ : Agree 206158430272 s x.1) => ?_ : Agree 206158430272 s x.1 → _) ?_; clear_value x) | clear_value x) | subst x | apply hf | apply hg | apply hp | apply hk | apply Agree.ite | apply Agree.then (k := State.fioMod_ag _ _) | apply Agree.then (k := State.hold_ag _ _ _ _) | apply Agree.then (k := State.fdMod_ag _ _) | decide | split)

theorem State.showCounts_ag (s : State) : Agree 65 s (State.showCounts s) := by
  unfold State.showCounts
  repeat' (with_reducible first | assumption | apply Agree.refl | intro _ | apply Agree.ite | apply Agree.foldl | apply Agree.then (k := State.wr_ag _ _ _) | apply Agree.then (k := State.hold_ag _ _ _ _) | decide | split)

theorem State.fioConfirm_ag (s : State) (n : Nat) (on : Bool) (r : RawRun) : Agree 532710351433 s (State.fioConfirm s n on r) := by
  unfold State.fioConfirm
  repeat' (with_reducible first | assumption | apply Agree.refl | intro _ | (extract_lets +onlyGivenNames x; first | (refine (fun (_ : Agree 532710351433 s x) => ?_ : Agree 532710351433 s x → _) ?_; clear_value x) | (refine (fun (_ : Agree 532710351433 s x.1) => ?_ : Agree 532710351433 s x.1 → _) ?_; clear_value x) | clear_value x) | subst x | apply Agree.then (k := State.reachCnt_ag _ _) | apply Agree.then (k := State.fdMod_ag _ _) | apply Agree.then (k := State.fdSettle_ag _) | apply Agree.then (k := State.tlStep_ag _) | apply Agree.then (k := State.countEdge_ag _ _) | decide)

theorem State.fioEdge_ag (s : State) (n : Nat) (on : Bool) (sec ns : Nat) : Agree 563482932208201 s (State.fioEdge s n on sec ns) := by
  unfold State.fioEdge
  repeat' (with_reducible first | assumption | apply Agree.refl | intro _ | (extract_lets +onlyGivenNames x; first | (refine (fun (_ : Agree 563482932208201 s x) => ?_ : Agree 563482932208201 s x → _) ?_; clear_value x) | (refine (fun (_ : Agree 563482932208201 s x.1) => ?_ : Agree 563482932208201 s x.1 → _) ?_; clear_value x) | clear_value x) | subst x | apply Agree.ite | apply Agree.iteP | apply Agree.then (k := State.reachTime_ag _ _) | apply Agree.then (k := State.rawEdge_ag _ _ _ _) | apply Agree.then (k := State.lightLevel_ag _ _ _) | apply Agree.then (k := State.fioConfirm_ag _ _ _ _) | decide | split)

theorem execFioInputEdge_ag (n : Fin 48) (on : Bool) (sec : Nat) (ns : Fin 1000000000) (s : State) : ∀ t1, execFioInputEdge n on sec ns s = .next t1 → Agree 563482932208201 s t1 := by
  intro t1 h
  obtain rfl := Host.Outcome.next.inj h
  repeat' (with_reducible first | assumption | apply Agree.refl | intro _ | apply Agree.then (k := State.fioEdge_ag _ _ _ _ _) | decide)

theorem State.fieldMeasure_ag (s : State) : Agree 563018672898048 s (State.fieldMeasure s) := by
  unfold State.fieldMeasure
  repeat' (with_reducible first | assumption | apply Agree.refl | intro _ | (extract_lets +onlyGivenNames x; first | (refine (fun (_ : Agree 563018672898048 s x) => ?_ : Agree 563018672898048 s x → _) ?_; clear_value x) | (refine (fun (_ : Agree 563018672898048 s x.1) => ?_ : Agree 563018672898048 s x.1 → _) ?_; clear_value x) | clear_value x) | subst x | apply Agree.ite | apply Agree.foldl | apply Agree.then (k := State.drewN_ag _ _) | apply Agree.then (k := State.fdMod_ag _ _) | decide | split)

theorem State.fieldLimits_ag (s : State) : Agree 563018672898048 s (State.fieldLimits s) := by
  unfold State.fieldLimits
  repeat' (with_reducible first | assumption | apply Agree.refl | intro _ | apply Agree.ite | apply Agree.then (k := State.drew_ag _) | apply Agree.then (k := State.fdMod_ag _ _) | decide | split)

theorem State.wr48_ag (s : State) (lo hi : Nat) (v : BitVec 48) : Agree 1 s (State.wr48 s lo hi v) := by
  unfold State.wr48
  repeat' (with_reducible first | assumption | apply Agree.refl | intro _ | apply Agree.then (k := State.wr_ag _ _ _) | decide)

theorem State.showStates_ag (s : State) : Agree 1 s (State.showStates s) := by
  unfold State.showStates
  repeat' (with_reducible first | assumption | apply Agree.refl | intro _ | (extract_lets +onlyGivenNames x; first | (refine (fun (_ : Agree 1 s x) => ?_ : Agree 1 s x → _) ?_; clear_value x) | (refine (fun (_ : Agree 1 s x.1) => ?_ : Agree 1 s x.1 → _) ?_; clear_value x) | clear_value x) | subst x | apply Agree.foldl | apply Agree.then (k := State.put_ag _ _ _ _ _) | apply Agree.then (k := State.putBit_ag _ _ _ _) | apply Agree.then (k := State.wr48_ag _ _ _ _) | decide)

theorem State.fieldNews_ag (s : State) : Agree 68719501825 s (State.fieldNews s) := by
  unfold State.fieldNews
  repeat' (with_reducible first | assumption | apply Agree.refl | intro _ | (extract_lets +onlyGivenNames x; first | (refine (fun (_ : Agree 68719501825 s x) => ?_ : Agree 68719501825 s x → _) ?_; clear_value x) | (refine (fun (_ : Agree 68719501825 s x.1) => ?_ : Agree 68719501825 s x.1 → _) ?_; clear_value x) | clear_value x) | subst x | apply Agree.then (k := State.putBit_ag _ _ _ _) | apply Agree.then (k := State.fdMod_ag _ _) | apply Agree.then (k := State.fioLog_ag _ _ _ _ _) | decide | split)

theorem State.fieldSync_ag (s : State) : Agree 633524856054337 s (State.fieldSync s) := by
  unfold State.fieldSync
  repeat' (with_reducible first | assumption | apply Agree.refl | intro _ | (extract_lets +onlyGivenNames x; first | (refine (fun (_ : Agree 633524856054337 s x) => ?_ : Agree 633524856054337 s x → _) ?_; clear_value x) | (refine (fun (_ : Agree 633524856054337 s x.1) => ?_ : Agree 633524856054337 s x.1 → _) ?_; clear_value x) | clear_value x) | subst x | apply Agree.ite | apply Agree.foldl | apply Agree.then (k := State.putBit_ag _ _ _ _) | apply Agree.then (k := State.fdMod_ag _ _) | apply Agree.then (k := State.fioTake_ag _ _) | apply Agree.then (k := State.fieldReport_ag _ _) | apply Agree.then (k := State.showCounts_ag _) | apply Agree.then (k := State.fieldMeasure_ag _) | apply Agree.then (k := State.fieldLimits_ag _) | apply Agree.then (k := State.showStates_ag _) | apply Agree.then (k := State.fieldNews_ag _) | decide | split)

theorem State.snapTake_ag (s : State) (all : Bool) : Agree 137438953473 s (State.snapTake s all) := by
  unfold State.snapTake
  repeat' (with_reducible first | assumption | apply Agree.refl | intro _ | (extract_lets +onlyGivenNames x; first | (refine (fun (_ : Agree 137438953473 s x) => ?_ : Agree 137438953473 s x → _) ?_; clear_value x) | (refine (fun (_ : Agree 137438953473 s x.1) => ?_ : Agree 137438953473 s x.1 → _) ?_; clear_value x) | clear_value x) | subst x | apply Agree.ite | apply Agree.foldl | apply Agree.then (k := State.wr_ag _ _ _) | apply Agree.then (k := State.fioMod_ag _ _) | decide | split)

theorem State.pulseSnapshot_ag (s : State) : Agree 137439011329 s (State.pulseSnapshot s) := by
  unfold State.pulseSnapshot
  repeat' (with_reducible first | assumption | apply Agree.refl | intro _ | (extract_lets +onlyGivenNames x; first | (refine (fun (_ : Agree 137439011329 s x) => ?_ : Agree 137439011329 s x → _) ?_; clear_value x) | (refine (fun (_ : Agree 137439011329 s x.1) => ?_ : Agree 137439011329 s x.1 → _) ?_; clear_value x) | clear_value x) | subst x | apply Agree.ite | apply Agree.then (k := State.put_ag _ _ _ _ _) | apply Agree.then (k := State.putBit_ag _ _ _ _) | apply Agree.then (k := State.fioMod_ag _ _) | apply Agree.then (k := State.reachTime_ag _ _) | apply Agree.then (k := State.fioLog_ag _ _ _ _ _) | apply Agree.then (k := State.snapTake_ag _ _) | decide | split)

theorem execFioPulseSnapshot_ag (s : State) : ∀ t1, execFioPulseSnapshot s = .next t1 → Agree 137439011329 s t1 := by
  intro t1 h
  obtain rfl := Host.Outcome.next.inj h
  repeat' (with_reducible first | assumption | apply Agree.refl | intro _ | apply Agree.then (k := State.pulseSnapshot_ag _) | decide)

theorem State.frameFromField_ag (s : State) (seq : Nat) (crcOk : Bool) : Agree 633851407918665 s (State.frameFromField s seq crcOk) := by
  unfold State.frameFromField
  repeat' (with_reducible first | assumption | apply Agree.refl | intro _ | (extract_lets +onlyGivenNames x; first | (refine (fun (_ : Agree 633851407918665 s x) => ?_ : Agree 633851407918665 s x → _) ?_; clear_value x) | (refine (fun (hf : ∀ t, Agree 633851407918665 s t → Agree 633851407918665 s (x t)) => ?_ : (∀ t, Agree 633851407918665 s t → Agree 633851407918665 s (x t)) → _) (fun _ _ => ?_); clear_value x) | (refine (fun (hg : ∀ a t, Agree 633851407918665 s t → Agree 633851407918665 s (x a t)) => ?_ : (∀ a t, Agree 633851407918665 s t → Agree 633851407918665 s (x a t)) → _) (fun _ _ _ => ?_); clear_value x) | (refine (fun (hk : ∀ a, Agree 633851407918665 s (x a)) => ?_ : (∀ a, Agree 633851407918665 s (x a)) → _) (fun _ => ?_); clear_value x) | (refine (fun (hp : ∀ t a b, Agree 633851407918665 s t → Agree 633851407918665 s (x t a b)) => ?_ : (∀ t a b, Agree 633851407918665 s t → Agree 633851407918665 s (x t a b)) → _) (fun _ _ _ _ => ?_); clear_value x) | (refine (fun (_ : Agree 633851407918665 s x.1) => ?_ : Agree 633851407918665 s x.1 → _) ?_; clear_value x) | clear_value x) | subst x | apply hf | apply hg | apply hp | apply hk | apply Agree.ite | apply Agree.then (k := State.putBit_ag _ _ _ _) | apply Agree.then (k := State.setLink_ag _ _ _) | apply Agree.then (k := State.linkDiscard_ag _ _ _) | apply Agree.then (k := State.linkReturn_ag _ _ _) | apply Agree.then (k := State.tlStep_ag _) | apply Agree.then (k := State.fieldSync_ag _) | apply Agree.then (k := State.snapTake_ag _ _) | decide | split)

theorem execFlkFrameFromField_ag (seq : BitVec 8) (crcOk : Bool) (s : State) : ∀ t1, execFlkFrameFromField seq crcOk s = .next t1 → Agree 633851407918665 s t1 := by
  intro t1 h
  obtain rfl := Host.Outcome.next.inj h
  repeat' (with_reducible first | assumption | apply Agree.refl | intro _ | apply Agree.then (k := State.frameFromField_ag _ _ _) | decide)

theorem State.flkDown_ag (s : State) : Agree 463990842889 s (State.flkDown s) := by
  unfold State.flkDown
  repeat' (with_reducible first | assumption | apply Agree.refl | intro _ | apply Agree.ite | apply Agree.then (k := State.putBit_ag _ _ _ _) | apply Agree.then (k := State.linkDown_ag _ _) | apply Agree.then (k := State.tlStep_ag _) | apply Agree.then (k := State.snapTake_ag _ _) | decide | split)

theorem execFlkDown_ag (s : State) : ∀ t1, execFlkDown s = .next t1 → Agree 463990842889 s t1 := by
  intro t1 h
  obtain rfl := Host.Outcome.next.inj h
  repeat' (with_reducible first | assumption | apply Agree.refl | intro _ | apply Agree.then (k := State.flkDown_ag _) | decide)

end Sys2Proof.Machine
end

