-- ==== Sys2Proof/Laws/Frame/Prim.lean ====
section
/-!
SUPPORT. Frames of the operations of Machine/Prim.lean: the fields each can change, as a mask.
-/
set_option linter.unusedTactic false
set_option linter.unreachableTactic false
namespace Sys2Proof.Machine
open Sys2Proof

theorem State.crvWrite_ag (s : State) (c n k : Nat) (v : Word) : Agree 25089 s (State.crvWrite s c n k v) := by
  unfold State.crvWrite
  repeat' (with_reducible first | assumption | apply Agree.refl | intro _ | (extract_lets +onlyGivenNames x; first | (refine (fun (_ : Agree 25089 s x) => ?_ : Agree 25089 s x → _) ?_; clear_value x) | (refine (fun (_ : Agree 25089 s x.1) => ?_ : Agree 25089 s x.1 → _) ?_; clear_value x) | clear_value x) | subst x | apply Agree.ite | apply Agree.then (k := State.wr_ag _ _ _) | apply Agree.then (k := State.primDeny_ag _ _ _ _) | decide | split)

theorem execCrvSettingWrite_ag (c : Fin 16) (n : Fin 32) (k : Fin 4) (v : Word) (s : State) : ∀ t1, execCrvSettingWrite c n k v s = .next t1 → Agree 25089 s t1 := by
  intro t1 h
  obtain rfl := Host.Outcome.next.inj h
  repeat' (with_reducible first | assumption | apply Agree.refl | intro _ | apply Agree.then (k := State.crvWrite_ag _ _ _ _ _) | decide)

theorem State.tblWriteWord_ag (s : State) (c t w : Nat) (v : Word) : Agree 25089 s (State.tblWriteWord s c t w v) := by
  unfold State.tblWriteWord
  repeat' (with_reducible first | assumption | apply Agree.refl | intro _ | (extract_lets +onlyGivenNames x; first | (refine (fun (_ : Agree 25089 s x) => ?_ : Agree 25089 s x → _) ?_; clear_value x) | (refine (fun (_ : Agree 25089 s x.1) => ?_ : Agree 25089 s x.1 → _) ?_; clear_value x) | clear_value x) | subst x | apply Agree.ite | apply Agree.then (k := State.wr_ag _ _ _) | apply Agree.then (k := State.putBit_ag _ _ _ _) | apply Agree.then (k := State.irq_ag _ _) | apply Agree.then (k := State.log_ag _ _ _ _ _) | apply Agree.then (k := State.primDeny_ag _ _ _ _) | decide | split)

theorem execUserTableWrite_ag (c : Fin 16) (t : Fin 8) (w : Fin 65) (v : Word) (s : State) : ∀ t1, execUserTableWrite c t w v s = .next t1 → Agree 25089 s t1 := by
  intro t1 h
  obtain rfl := Host.Outcome.next.inj h
  repeat' (with_reducible first | assumption | apply Agree.refl | intro _ | apply Agree.then (k := State.tblWriteWord_ag _ _ _ _ _) | decide)

theorem State.primWrite_ag (s : State) (c off : Nat) (v : Word) : Agree 326551888393 s (State.primWrite s c off v) := by
  unfold State.primWrite
  repeat' (with_reducible first | assumption | apply Agree.refl | intro _ | (extract_lets +onlyGivenNames x; first | (refine (fun (_ : Agree 326551888393 s x) => ?_ : Agree 326551888393 s x → _) ?_; clear_value x) | (refine (fun (_ : Agree 326551888393 s x.1) => ?_ : Agree 326551888393 s x.1 → _) ?_; clear_value x) | clear_value x) | subst x | apply Agree.ite | apply Agree.then (k := State.regWrite_ag _ _ _) | apply Agree.then (k := State.afUpdate_ag _ _) | apply Agree.then (k := State.primDeny_ag _ _ _ _) | decide | split)

theorem State.detWrite_ag (s : State) (c off : Nat) (v : Word) : Agree 563276505309705 s (State.detWrite s c off v) := by
  unfold State.detWrite
  repeat' (with_reducible first | assumption | apply Agree.refl | intro _ | (extract_lets +onlyGivenNames x; first | (refine (fun (_ : Agree 563276505309705 s x) => ?_ : Agree 563276505309705 s x → _) ?_; clear_value x) | (refine (fun (_ : Agree 563276505309705 s x.1) => ?_ : Agree 563276505309705 s x.1 → _) ?_; clear_value x) | clear_value x) | subst x | apply Agree.ite | apply Agree.whenI | apply Agree.then (k := State.regWrite_ag _ _ _) | apply Agree.then (k := State.detMod_ag _ _ _) | apply Agree.then (k := State.ifdKey_ag _ _ _) | apply Agree.then (k := State.ifdLockedWrite_ag _ _ _ _) | apply Agree.then (k := State.clRoleWrite_ag _ _ _) | apply Agree.then (k := State.ifdStopReq_ag _ _) | apply Agree.then (k := State.ifdStartReq_ag _ _) | apply Agree.then (k := State.afCfgWrite_ag _ _ _) | apply Agree.then (k := State.wfShow_ag _ _) | apply Agree.then (k := State.wfPop_ag _ _) | apply Agree.then (k := State.primWrite_ag _ _ _ _) | decide | split)

theorem State.primRegWrite_ag (s : State) (c off : Nat) (v : Word) : Agree 326551888393 s (State.primRegWrite s c off v) := by
  unfold State.primRegWrite
  repeat' (with_reducible first | assumption | apply Agree.refl | intro _ | apply Agree.ite | apply Agree.then (k := State.regWrite_ag _ _ _) | apply Agree.then (k := State.crvWrite_ag _ _ _ _ _) | apply Agree.then (k := State.tblWriteWord_ag _ _ _ _ _) | apply Agree.then (k := State.primWrite_ag _ _ _ _) | decide | split)

theorem State.chapterWrite_ag (s : State) (c off : Nat) (v : Word) : Agree 563276505309705 s (State.chapterWrite s c off v) := by
  unfold State.chapterWrite
  repeat' (with_reducible first | assumption | apply Agree.refl | intro _ | apply Agree.ite | apply Agree.then (k := State.detWrite_ag _ _ _ _) | apply Agree.then (k := State.primRegWrite_ag _ _ _ _) | decide | split)

theorem execPrimCfgWrite_ag (c : Fin 16) (off : BitVec 20) (v : Word) (s : State) : ∀ t1, execPrimCfgWrite c off v s = .next t1 → Agree 563276505309705 s t1 := by
  intro t1 h
  obtain rfl := Host.Outcome.next.inj h
  repeat' (with_reducible first | assumption | apply Agree.refl | intro _ | apply Agree.then (k := State.chapterWrite_ag _ _ _ _) | decide)

theorem State.primApply_ag (s : State) (c : Nat) : Agree 8589934592 s (State.primApply s c) := by
  unfold State.primApply
  repeat' (with_reducible first | assumption | apply Agree.refl | intro _ | (extract_lets +onlyGivenNames x; first | (refine (fun (_ : Agree 8589934592 s x) => ?_ : Agree 8589934592 s x → _) ?_; clear_value x) | (refine (fun (_ : Agree 8589934592 s x.1) => ?_ : Agree 8589934592 s x.1 → _) ?_; clear_value x) | clear_value x) | subst x | apply Agree.foldl | apply Agree.then (k := State.setForce_ag _ _) | apply Agree.then (k := State.setEff_ag _ _ _) | decide)

theorem execPrimSettingsApply_ag (c : Fin 16) (s : State) : ∀ t1, execPrimSettingsApply c s = .next t1 → Agree 8589934592 s t1 := by
  intro t1 h
  obtain rfl := Host.Outcome.next.inj h
  repeat' (with_reducible first | assumption | apply Agree.refl | intro _ | apply Agree.then (k := State.primApply_ag _ _) | decide)

theorem State.elemMod_ag (s : State) (c : Nat) (f : ElemU → ElemU) : Agree 2147483648 s (State.elemMod s c f) := by
  unfold State.elemMod
  repeat' (with_reducible first | assumption | apply Agree.refl | intro _ | apply Agree.then (k := State.setElem_ag _ _ _) | decide)

theorem State.crvStep_ag (s : State) (c n : Nat) (w : Word) : Agree 2147483649 s (State.crvStep s c n w).1 := by
  unfold State.crvStep
  repeat' (with_reducible first | assumption | apply Agree.refl | intro _ | (extract_lets +onlyGivenNames x; first | (refine (fun (_ : Agree 2147483649 s x) => ?_ : Agree 2147483649 s x → _) ?_; clear_value x) | (refine (fun (_ : Agree 2147483649 s x.1) => ?_ : Agree 2147483649 s x.1 → _) ?_; clear_value x) | clear_value x) | subst x | apply Agree.ite | apply Agree.iteP | apply Agree.then (k := State.wr_ag _ _ _) | apply Agree.then (k := State.elemMod_ag _ _ _) | decide | split)

theorem State.crvClear_ag (s : State) (c n : Nat) : Agree 2147483649 s (State.crvClear s c n).1 := by
  unfold State.crvClear
  repeat' (with_reducible first | assumption | apply Agree.refl | intro _ | (extract_lets +onlyGivenNames x; first | (refine (fun (_ : Agree 2147483649 s x) => ?_ : Agree 2147483649 s x → _) ?_; clear_value x) | (refine (fun (_ : Agree 2147483649 s x.1) => ?_ : Agree 2147483649 s x.1 → _) ?_; clear_value x) | clear_value x) | subst x | apply Agree.ite | apply Agree.iteP | apply Agree.then (k := State.wr_ag _ _ _) | apply Agree.then (k := State.elemMod_ag _ _ _) | decide | split)

theorem State.cmpStore_ag (s : State) (c n : Nat) (w : Word) (st : Nat) : Agree 2147483649 s (State.cmpStore s c n w st).1 := by
  unfold State.cmpStore
  repeat' (with_reducible first | assumption | apply Agree.refl | intro _ | apply Agree.iteP | apply Agree.then (k := State.wr_ag _ _ _) | apply Agree.then (k := State.elemMod_ag _ _ _) | decide)

theorem State.cmpEval_ag (s : State) (c n : Nat) (x : Word) : Agree 2147483649 s (State.cmpEval s c n x).1 := by
  unfold State.cmpEval
  repeat' (with_reducible first | assumption | apply Agree.refl | intro _ | (extract_lets +onlyGivenNames x; first | (refine (fun (_ : Agree 2147483649 s x) => ?_ : Agree 2147483649 s x → _) ?_; clear_value x) | (refine (fun (_ : Agree 2147483649 s x.1) => ?_ : Agree 2147483649 s x.1 → _) ?_; clear_value x) | clear_value x) | subst x | apply Agree.ite | apply Agree.iteP | apply Agree.then (k := State.cmpStore_ag _ _ _ _ _) | decide | split)

theorem State.cmpClear_ag (s : State) (c n : Nat) : Agree 2147483649 s (State.cmpClear s c n).1 := by
  unfold State.cmpClear
  repeat' (with_reducible first | assumption | apply Agree.refl | intro _ | (extract_lets +onlyGivenNames x; first | (refine (fun (_ : Agree 2147483649 s x) => ?_ : Agree 2147483649 s x → _) ?_; clear_value x) | (refine (fun (_ : Agree 2147483649 s x.1) => ?_ : Agree 2147483649 s x.1 → _) ?_; clear_value x) | clear_value x) | subst x | apply Agree.ite | apply Agree.iteP | apply Agree.then (k := State.cmpStore_ag _ _ _ _ _) | decide | split)

theorem State.tmrStore_ag (s : State) (c n mode : Nat) (inp : Bool) (t : TmrVal) (mark : Option Nat) : Agree 2147483649 s (State.tmrStore s c n mode inp t mark) := by
  unfold State.tmrStore
  repeat' (with_reducible first | assumption | apply Agree.refl | intro _ | apply Agree.ite | apply Agree.then (k := State.wr_ag _ _ _) | apply Agree.then (k := State.elemMod_ag _ _ _) | decide | split)

theorem State.tmrAdvance_ag (s : State) (c n : Nat) (inp byProgram : Bool) : Agree 2147483649 s (State.tmrAdvance s c n inp byProgram).1 := by
  unfold State.tmrAdvance
  repeat' (with_reducible first | assumption | apply Agree.refl | intro _ | (extract_lets +onlyGivenNames x; first | (refine (fun (_ : Agree 2147483649 s x) => ?_ : Agree 2147483649 s x → _) ?_; clear_value x) | (refine (fun (_ : Agree 2147483649 s x.1) => ?_ : Agree 2147483649 s x.1 → _) ?_; clear_value x) | clear_value x) | subst x | apply Agree.ite | apply Agree.iteP | apply Agree.then (k := State.tmrStore_ag _ _ _ _ _ _ _) | decide | split)

theorem State.tmrStep_ag (s : State) (c n : Nat) (x : Word) : Agree 2147483649 s (State.tmrStep s c n x).1 := by
  unfold State.tmrStep
  repeat' (with_reducible first | assumption | apply Agree.refl | intro _ | (extract_lets +onlyGivenNames x; first | (refine (fun (_ : Agree 2147483649 s x) => ?_ : Agree 2147483649 s x → _) ?_; clear_value x) | (refine (fun (_ : Agree 2147483649 s x.1) => ?_ : Agree 2147483649 s x.1 → _) ?_; clear_value x) | clear_value x) | subst x | apply Agree.ite | apply Agree.iteP | apply Agree.then (k := State.tmrAdvance_ag _ _ _ _ _) | decide | split)

theorem State.tmrClear_ag (s : State) (c n : Nat) : Agree 2147483649 s (State.tmrClear s c n).1 := by
  unfold State.tmrClear
  repeat' (with_reducible first | assumption | apply Agree.refl | intro _ | (extract_lets +onlyGivenNames x; first | (refine (fun (_ : Agree 2147483649 s x) => ?_ : Agree 2147483649 s x → _) ?_; clear_value x) | (refine (fun (_ : Agree 2147483649 s x.1) => ?_ : Agree 2147483649 s x.1 → _) ?_; clear_value x) | clear_value x) | subst x | apply Agree.ite | apply Agree.iteP | apply Agree.then (k := State.tmrStore_ag _ _ _ _ _ _ _) | decide | split)

theorem State.tmrDeadline_ag (s : State) (c : Nat) : Agree 2147483649 s (State.tmrDeadline s c) := by
  unfold State.tmrDeadline
  repeat' (with_reducible first | assumption | apply Agree.refl | intro _ | (extract_lets +onlyGivenNames x; first | (refine (fun (_ : Agree 2147483649 s x) => ?_ : Agree 2147483649 s x → _) ?_; clear_value x) | (refine (fun (_ : Agree 2147483649 s x.1) => ?_ : Agree 2147483649 s x.1 → _) ?_; clear_value x) | clear_value x) | subst x | apply Agree.ite | apply Agree.foldl | apply Agree.then (k := State.tmrAdvance_ag _ _ _ _ _) | decide | split)

theorem State.primReset_ag (s : State) (c : Nat) : Agree 2147483649 s (State.primReset s c) := by
  unfold State.primReset
  repeat' (with_reducible first | assumption | apply Agree.refl | intro _ | (extract_lets +onlyGivenNames x; first | (refine (fun (_ : Agree 2147483649 s x) => ?_ : Agree 2147483649 s x → _) ?_; clear_value x) | (refine (fun (_ : Agree 2147483649 s x.1) => ?_ : Agree 2147483649 s x.1 → _) ?_; clear_value x) | clear_value x) | subst x | apply Agree.foldl | apply Agree.then (k := State.wr_ag _ _ _) | apply Agree.then (k := State.elemMod_ag _ _ _) | decide)

end Sys2Proof.Machine
end

