-- ==== Sys2Proof/Laws/Frame/CoreCmd.lean ====
section
/-!
SUPPORT. Frames of the operations of Machine/CoreCmd.lean: the fields each can change, as a mask.
-/
set_option linter.unusedTactic false
set_option linter.unreachableTactic false
namespace Sys2Proof.Machine
open Sys2Proof

theorem State.setCore_ag (s : State) (n : Nat) (x : Core) : Agree 1073741824 s (State.setCore s n x) := by
  unfold State.setCore
  repeat' (with_reducible first | assumption | apply Agree.refl | intro _ | apply Agree.then (k := Agree.up_cores _ _) | decide)

theorem State.coreMod_ag (s : State) (n : Nat) (f : Core → Core) : Agree 1073741824 s (State.coreMod s n f) := by
  unfold State.coreMod
  repeat' (with_reducible first | assumption | apply Agree.refl | intro _ | apply Agree.then (k := State.setCore_ag _ _ _) | decide)

theorem State.setCstat_ag (s : State) (c i : Nat) (b : Bool) : Agree 1 s (State.setCstat s c i b) := by
  unfold State.setCstat
  repeat' (with_reducible first | assumption | apply Agree.refl | intro _ | apply Agree.then (k := State.putBit_ag _ _ _ _) | decide)

theorem State.coreCmdErr_ag (s : State) (c : Nat) : Agree 1 s (State.coreCmdErr s c) := by
  unfold State.coreCmdErr
  repeat' (with_reducible first | assumption | apply Agree.refl | intro _ | apply Agree.then (k := State.setCstat_ag _ _ _ _) | decide)

theorem State.wipe_ag (s : State) (c lo hi : Nat) : Agree 2147483649 s (State.wipe s c lo hi) := by
  unfold State.wipe
  repeat' (with_reducible first | assumption | apply Agree.refl | intro _ | (extract_lets +onlyGivenNames x; first | (refine (fun (_ : Agree 2147483649 s x) => ?_ : Agree 2147483649 s x → _) ?_; clear_value x) | (refine (fun (_ : Agree 2147483649 s x.1) => ?_ : Agree 2147483649 s x.1 → _) ?_; clear_value x) | clear_value x) | subst x | apply Agree.then (k := State.dropRegs_ag _ _) | apply Agree.then (k := State.dropUpsets_ag _ _ _) | decide)

theorem State.wrWords_ag (s : State) (k : Nat) (l : List Word) : Agree 1 s (s.wrWords k l) := by
  induction l generalizing s k with
  | nil => apply Agree.refl
  | cons x xs ih => exact Agree.then (State.wr_ag _ _ _) (ih _ _) (by decide)

theorem State.wrMems_ag (s : State) (c k : Nat) (l : List Word) : Agree 2147483649 s (s.wrMems c k l) := by
  induction l generalizing s k with
  | nil => apply Agree.refl
  | cons x xs ih => exact Agree.then (State.wrMem_ag _ _ _ _) (ih _ _) (by decide)

theorem State.coreLoad_ag (s : State) (c : Nat) : Agree 2147483649 s (State.coreLoad s c) := by
  unfold State.coreLoad
  repeat' (with_reducible first | assumption | apply Agree.refl | intro _ | (extract_lets +onlyGivenNames x; first | (refine (fun (_ : Agree 2147483649 s x) => ?_ : Agree 2147483649 s x → _) ?_; clear_value x) | (refine (fun (_ : Agree 2147483649 s x.1) => ?_ : Agree 2147483649 s x.1 → _) ?_; clear_value x) | clear_value x) | subst x | apply Agree.ite | apply Agree.then (k := State.elemMod_ag _ _ _) | apply Agree.then (k := State.setCstat_ag _ _ _ _) | apply Agree.then (k := State.coreCmdErr_ag _ _) | apply Agree.then (k := State.wipe_ag _ _ _ _) | apply Agree.then (k := State.wrMems_ag _ _ _ _) | decide | split)

theorem execCoreLoadValidate_ag (c : Fin 16) (s : State) : ∀ t1, execCoreLoadValidate c s = .next t1 → Agree 2147483649 s t1 := by
  intro t1 h
  obtain rfl := Host.Outcome.next.inj h
  repeat' (with_reducible first | assumption | apply Agree.refl | intro _ | apply Agree.then (k := State.coreLoad_ag _ _) | decide)

theorem State.coreRefuse_ag (s : State) (c reason detail ver : Nat) : Agree 25089 s (State.coreRefuse s c reason detail ver) := by
  unfold State.coreRefuse
  repeat' (with_reducible first | assumption | apply Agree.refl | intro _ | (extract_lets +onlyGivenNames x; first | (refine (fun (_ : Agree 25089 s x) => ?_ : Agree 25089 s x → _) ?_; clear_value x) | (refine (fun (_ : Agree 25089 s x.1) => ?_ : Agree 25089 s x.1 → _) ?_; clear_value x) | clear_value x) | subst x | apply Agree.then (k := State.wr_ag _ _ _) | apply Agree.then (k := State.irq_ag _ _) | apply Agree.then (k := State.log_ag _ _ _ _ _) | apply Agree.then (k := State.setCstat_ag _ _ _ _) | decide)

theorem State.valEnd_ag (s : State) (c base : Nat) (v : Verdict) : Agree 2147508737 s (State.valEnd s c base v) := by
  unfold State.valEnd
  repeat' (with_reducible first | assumption | apply Agree.refl | intro _ | (extract_lets +onlyGivenNames x; first | (refine (fun (_ : Agree 2147508737 s x) => ?_ : Agree 2147508737 s x → _) ?_; clear_value x) | (refine (fun (_ : Agree 2147508737 s x.1) => ?_ : Agree 2147508737 s x.1 → _) ?_; clear_value x) | clear_value x) | subst x | apply Agree.then (k := State.wr_ag _ _ _) | apply Agree.then (k := State.put_ag _ _ _ _ _) | apply Agree.then (k := State.elemMod_ag _ _ _) | apply Agree.then (k := State.setCstat_ag _ _ _ _) | apply Agree.then (k := State.coreRefuse_ag _ _ _ _ _) | decide | split)

theorem State.coreValidated_ag (s : State) (c : Nat) : Agree 2147508737 s (State.coreValidated s c) := by
  unfold State.coreValidated
  repeat' (with_reducible first | assumption | apply Agree.refl | intro _ | (extract_lets +onlyGivenNames x; first | (refine (fun (_ : Agree 2147508737 s x) => ?_ : Agree 2147508737 s x → _) ?_; clear_value x) | (refine (fun (_ : Agree 2147508737 s x.1) => ?_ : Agree 2147508737 s x.1 → _) ?_; clear_value x) | clear_value x) | subst x | apply Agree.ite | apply Agree.then (k := State.valEnd_ag _ _ _ _) | decide | split)

theorem execCoreValidationDone_ag (c : Fin 16) (s : State) : ∀ t1, execCoreValidationDone c s = .next t1 → Agree 2147508737 s t1 := by
  intro t1 h
  obtain rfl := Host.Outcome.next.inj h
  repeat' (with_reducible first | assumption | apply Agree.refl | intro _ | apply Agree.then (k := State.coreValidated_ag _ _) | decide)

theorem State.writeSections_ag (s : State) (c : Nat) (img : Image) (init : Bool) : Agree 2147483649 s (State.writeSections s c img init) := by
  unfold State.writeSections
  repeat' (with_reducible first | assumption | apply Agree.refl | intro _ | (extract_lets +onlyGivenNames x; first | (refine (fun (_ : Agree 2147483649 s x) => ?_ : Agree 2147483649 s x → _) ?_; clear_value x) | (refine (fun (_ : Agree 2147483649 s x.1) => ?_ : Agree 2147483649 s x.1 → _) ?_; clear_value x) | clear_value x) | subst x | apply Agree.ite | apply Agree.foldl | apply Agree.then (k := State.wipe_ag _ _ _ _) | apply Agree.then (k := State.wrMems_ag _ _ _ _) | decide | split)

theorem State.moveClaims_ag (s : State) (owner : Nat) (new : List Nat) : Agree 131085 s (State.moveClaims s owner new) := by
  unfold State.moveClaims
  repeat' (with_reducible first | assumption | apply Agree.refl | intro _ | (extract_lets +onlyGivenNames x; first | (refine (fun (_ : Agree 131085 s x) => ?_ : Agree 131085 s x → _) ?_; clear_value x) | (refine (fun (_ : Agree 131085 s x.1) => ?_ : Agree 131085 s x.1 → _) ?_; clear_value x) | clear_value x) | subst x | apply Agree.then (k := State.endClaims_ag _ _ _) | apply Agree.then (k := State.takeClaims_ag _ _ _) | apply Agree.then (k := State.fioDrive_ag _) | decide)

theorem State.coreActivate_ag (s : State) (c kind : Nat) : Agree 2156028429 s (State.coreActivate s c kind) := by
  unfold State.coreActivate
  repeat' (with_reducible first | assumption | apply Agree.refl | intro _ | (extract_lets +onlyGivenNames x; first | (refine (fun (_ : Agree 2156028429 s x) => ?_ : Agree 2156028429 s x → _) ?_; clear_value x) | (refine (fun (_ : Agree 2156028429 s x.1) => ?_ : Agree 2156028429 s x.1 → _) ?_; clear_value x) | clear_value x) | subst x | apply Agree.ite | apply Agree.whenI | apply Agree.then (k := State.wr_ag _ _ _) | apply Agree.then (k := State.put_ag _ _ _ _ _) | apply Agree.then (k := State.setExpect_ag _ _ _) | apply Agree.then (k := State.irq_ag _ _) | apply Agree.then (k := State.log_ag _ _ _ _ _) | apply Agree.then (k := State.expectCheck_ag _ _ _) | apply Agree.then (k := State.elemMod_ag _ _ _) | apply Agree.then (k := State.primReset_ag _ _) | apply Agree.then (k := State.setCstat_ag _ _ _ _) | apply Agree.then (k := State.writeSections_ag _ _ _ _) | apply Agree.then (k := State.moveClaims_ag _ _ _) | decide | split)

theorem State.coreArm_ag (s : State) (c kind : Nat) : Agree 2147483649 s (State.coreArm s c kind) := by
  unfold State.coreArm
  repeat' (with_reducible first | assumption | apply Agree.refl | intro _ | (extract_lets +onlyGivenNames x; first | (refine (fun (_ : Agree 2147483649 s x) => ?_ : Agree 2147483649 s x → _) ?_; clear_value x) | (refine (fun (_ : Agree 2147483649 s x.1) => ?_ : Agree 2147483649 s x.1 → _) ?_; clear_value x) | clear_value x) | subst x | apply Agree.ite | apply Agree.then (k := State.elemMod_ag _ _ _) | apply Agree.then (k := State.setCstat_ag _ _ _ _) | decide | split)

theorem State.coreActivateCmd_ag (s : State) (c : Nat) : Agree 2156028429 s (State.coreActivateCmd s c) := by
  unfold State.coreActivateCmd
  repeat' (with_reducible first | assumption | apply Agree.refl | intro _ | apply Agree.ite | apply Agree.then (k := State.coreCmdErr_ag _ _) | apply Agree.then (k := State.coreActivate_ag _ _ _) | apply Agree.then (k := State.coreArm_ag _ _ _) | decide | split)

theorem execCoreActivate_ag (c : Fin 16) (s : State) : ∀ t1, execCoreActivate c s = .next t1 → Agree 2156028429 s t1 := by
  intro t1 h
  obtain rfl := Host.Outcome.next.inj h
  repeat' (with_reducible first | assumption | apply Agree.refl | intro _ | apply Agree.then (k := State.coreActivateCmd_ag _ _) | decide)

theorem State.coreActivationApply_ag (s : State) (c : Nat) : Agree 2156028429 s (State.coreActivationApply s c) := by
  unfold State.coreActivationApply
  repeat' (with_reducible first | assumption | apply Agree.refl | intro _ | (extract_lets +onlyGivenNames x; first | (refine (fun (_ : Agree 2156028429 s x) => ?_ : Agree 2156028429 s x → _) ?_; clear_value x) | (refine (fun (_ : Agree 2156028429 s x.1) => ?_ : Agree 2156028429 s x.1 → _) ?_; clear_value x) | clear_value x) | subst x | apply Agree.ite | apply Agree.then (k := State.coreActivate_ag _ _ _) | decide | split)

theorem execCoreActivationApply_ag (c : Fin 16) (s : State) : ∀ t1, execCoreActivationApply c s = .next t1 → Agree 2156028429 s t1 := by
  intro t1 h
  obtain rfl := Host.Outcome.next.inj h
  repeat' (with_reducible first | assumption | apply Agree.refl | intro _ | apply Agree.then (k := State.coreActivationApply_ag _ _) | decide)

theorem State.coreRevert_ag (s : State) (c : Nat) : Agree 2147508737 s (State.coreRevert s c) := by
  unfold State.coreRevert
  repeat' (with_reducible first | assumption | apply Agree.refl | intro _ | (extract_lets +onlyGivenNames x; first | (refine (fun (_ : Agree 2147508737 s x) => ?_ : Agree 2147508737 s x → _) ?_; clear_value x) | (refine (fun (_ : Agree 2147508737 s x.1) => ?_ : Agree 2147508737 s x.1 → _) ?_; clear_value x) | clear_value x) | subst x | apply Agree.ite | apply Agree.then (k := State.coreCmdErr_ag _ _) | apply Agree.then (k := State.coreRefuse_ag _ _ _ _ _) | apply Agree.then (k := State.coreArm_ag _ _ _) | decide | split)

theorem execCoreRevert_ag (c : Fin 16) (s : State) : ∀ t1, execCoreRevert c s = .next t1 → Agree 2147508737 s t1 := by
  intro t1 h
  obtain rfl := Host.Outcome.next.inj h
  repeat' (with_reducible first | assumption | apply Agree.refl | intro _ | apply Agree.then (k := State.coreRevert_ag _ _) | decide)

theorem State.coreStopReq_ag (s : State) (c : Nat) : Agree 2147483649 s (State.coreStopReq s c) := by
  unfold State.coreStopReq
  repeat' (with_reducible first | assumption | apply Agree.refl | intro _ | apply Agree.then (k := State.putBit_ag _ _ _ _) | apply Agree.then (k := State.elemMod_ag _ _ _) | decide)

theorem execCoreRunStop_ag (c : Fin 16) (s : State) : ∀ t1, execCoreRunStop c s = .next t1 → Agree 2147483649 s t1 := by
  intro t1 h
  obtain rfl := Host.Outcome.next.inj h
  repeat' (with_reducible first | assumption | apply Agree.refl | intro _ | apply Agree.then (k := State.coreStopReq_ag _ _) | decide)

theorem State.coreStartReq_ag (s : State) (c : Nat) : Agree 2147483649 s (State.coreStartReq s c) := by
  unfold State.coreStartReq
  repeat' (with_reducible first | assumption | apply Agree.refl | intro _ | apply Agree.ite | apply Agree.then (k := State.putBit_ag _ _ _ _) | apply Agree.then (k := State.elemMod_ag _ _ _) | apply Agree.then (k := State.coreCmdErr_ag _ _) | decide | split)

theorem execCoreRunStart_ag (c : Fin 16) (s : State) : ∀ t1, execCoreRunStart c s = .next t1 → Agree 2147483649 s t1 := by
  intro t1 h
  obtain rfl := Host.Outcome.next.inj h
  repeat' (with_reducible first | assumption | apply Agree.refl | intro _ | apply Agree.then (k := State.coreStartReq_ag _ _) | decide)

theorem State.coreStopApply_ag (s : State) (c : Nat) : Agree 329773113865 s (State.coreStopApply s c) := by
  unfold State.coreStopApply
  repeat' (with_reducible first | assumption | apply Agree.refl | intro _ | (extract_lets +onlyGivenNames x; first | (refine (fun (_ : Agree 329773113865 s x) => ?_ : Agree 329773113865 s x → _) ?_; clear_value x) | (refine (fun (_ : Agree 329773113865 s x.1) => ?_ : Agree 329773113865 s x.1 → _) ?_; clear_value x) | clear_value x) | subst x | apply Agree.ite | apply Agree.then (k := State.tlStep_ag _) | apply Agree.then (k := State.elemMod_ag _ _ _) | apply Agree.then (k := State.coreMod_ag _ _ _) | apply Agree.then (k := State.setCstat_ag _ _ _ _) | decide | split)

theorem execCoreStopApply_ag (c : Fin 16) (s : State) : ∀ t1, execCoreStopApply c s = .next t1 → Agree 329773113865 s t1 := by
  intro t1 h
  obtain rfl := Host.Outcome.next.inj h
  repeat' (with_reducible first | assumption | apply Agree.refl | intro _ | apply Agree.then (k := State.coreStopApply_ag _ _) | decide)

theorem State.coreStartApply_ag (s : State) (c : Nat) : Agree 2147483649 s (State.coreStartApply s c) := by
  unfold State.coreStartApply
  repeat' (with_reducible first | assumption | apply Agree.refl | intro _ | apply Agree.ite | apply Agree.then (k := State.elemMod_ag _ _ _) | apply Agree.then (k := State.setCstat_ag _ _ _ _) | decide | split)

theorem execCoreStartApply_ag (c : Fin 16) (s : State) : ∀ t1, execCoreStartApply c s = .next t1 → Agree 2147483649 s t1 := by
  intro t1 h
  obtain rfl := Host.Outcome.next.inj h
  repeat' (with_reducible first | assumption | apply Agree.refl | intro _ | apply Agree.then (k := State.coreStartApply_ag _ _) | decide)

theorem State.actAtWrite_ag (s : State) (c : Nat) (v : Word) : Agree 1 s (State.actAtWrite s c v) := by
  unfold State.actAtWrite
  repeat' (with_reducible first | assumption | apply Agree.refl | intro _ | apply Agree.ite | apply Agree.then (k := State.regWrite_ag _ _ _) | apply Agree.then (k := State.coreCmdErr_ag _ _) | decide | split)

theorem execCoreActAtWrite_ag (c : Fin 16) (v : Word) (s : State) : ∀ t1, execCoreActAtWrite c v s = .next t1 → Agree 1 s t1 := by
  intro t1 h
  obtain rfl := Host.Outcome.next.inj h
  repeat' (with_reducible first | assumption | apply Agree.refl | intro _ | apply Agree.then (k := State.actAtWrite_ag _ _ _) | decide)

theorem State.dmemPort_ag (s : State) (r : Req) (c a : Nat) (v : Word) : Agree 2147484289 s (State.dmemPort s r c a v) := by
  unfold State.dmemPort
  repeat' (with_reducible first | assumption | apply Agree.refl | intro _ | apply Agree.ite | apply Agree.then (k := State.wrMem_ag _ _ _ _) | apply Agree.then (k := State.indFail_ag _ _ _) | decide | split)

theorem execCoreDmemPortWrite_ag (req : Req) (c : Fin 16) (addr : BitVec 17) (v : Word) (s : State) : ∀ t1, execCoreDmemPortWrite req c addr v s = .next t1 → Agree 2147484289 s t1 := by
  intro t1 h
  obtain rfl := Host.Outcome.next.inj h
  repeat' (with_reducible first | assumption | apply Agree.refl | intro _ | apply Agree.ite | apply Agree.then (k := State.dmemPort_ag _ _ _ _ _) | decide)

theorem State.imemPort_ag (s : State) (r : Req) : Agree 641 s (State.imemPort s r) := by
  unfold State.imemPort
  repeat' (with_reducible first | assumption | apply Agree.refl | intro _ | apply Agree.then (k := State.indFail_ag _ _ _) | decide)

theorem execCoreImemPortWrite_ag (req : Req) (_c : Fin 16) (_addr : BitVec 17) (_v : Word) (s : State) : ∀ t1, execCoreImemPortWrite req _c _addr _v s = .next t1 → Agree 641 s t1 := by
  intro t1 h
  obtain rfl := Host.Outcome.next.inj h
  repeat' (with_reducible first | assumption | apply Agree.refl | intro _ | apply Agree.ite | apply Agree.then (k := State.imemPort_ag _ _) | decide)

end Sys2Proof.Machine
end

