-- ==== Sys2Proof/Laws/Frame/LatheImage.lean ====
section
/-!
SUPPORT. Frames of the operations of Machine/LatheImage.lean: the fields each can change, as a mask.
-/
set_option linter.unusedTactic false
set_option linter.unreachableTactic false
namespace Sys2Proof.Machine
open Sys2Proof

theorem State.lthMod_ag (s : State) (f : LatheU → LatheU) : Agree 1099511627776 s (State.lthMod s f) := by
  unfold State.lthMod
  repeat' (with_reducible first | assumption | apply Agree.refl | intro _ | apply Agree.then (k := Agree.up_lathe _ _) | decide)

theorem State.setLthImg_ag (s : State) (half : Nat) (i : Option LImage) : Agree 1099511627776 s (State.setLthImg s half i) := by
  unfold State.setLthImg
  repeat' (with_reducible first | assumption | apply Agree.refl | intro _ | apply Agree.then (k := State.lthMod_ag _ _) | decide)

theorem State.setLtmr_ag (s : State) (half n : Nat) (t : LTmr) : Agree 1099511627776 s (State.setLtmr s half n t) := by
  unfold State.setLtmr
  repeat' (with_reducible first | assumption | apply Agree.refl | intro _ | apply Agree.then (k := State.lthMod_ag _ _) | decide)

theorem State.setLedge_ag (s : State) (half n : Nat) (e : EdgeMem) : Agree 1099511627776 s (State.setLedge s half n e) := by
  unfold State.setLedge
  repeat' (with_reducible first | assumption | apply Agree.refl | intro _ | apply Agree.then (k := State.lthMod_ag _ _) | decide)

theorem State.pairDirty_ag (s : State) (page : Nat) : Agree 1099511627776 s (State.pairDirty s page) := by
  unfold State.pairDirty
  repeat' (with_reducible first | assumption | apply Agree.refl | intro _ | apply Agree.then (k := State.lthMod_ag _ _) | decide)

theorem State.lthStore_ag (s : State) (a : Nat) (v : Word) : Agree 1099511627777 s (State.lthStore s a v) := by
  unfold State.lthStore
  repeat' (with_reducible first | assumption | apply Agree.refl | intro _ | (extract_lets +onlyGivenNames x; first | (refine (fun (_ : Agree 1099511627777 s x) => ?_ : Agree 1099511627777 s x → _) ?_; clear_value x) | (refine (fun (_ : Agree 1099511627777 s x.1) => ?_ : Agree 1099511627777 s x.1 → _) ?_; clear_value x) | clear_value x) | subst x | apply Agree.ite | apply Agree.then (k := State.wr_ag _ _ _) | apply Agree.then (k := State.lthMod_ag _ _) | apply Agree.then (k := State.pairDirty_ag _ _) | decide | split)

theorem State.wipeKeys_ag (s : State) (lo hi : Nat) : Agree 1 s (State.wipeKeys s lo hi) := by
  unfold State.wipeKeys
  repeat' (with_reducible first | assumption | apply Agree.refl | intro _ | apply Agree.then (k := State.dropRegs_ag _ _) | decide)

end Sys2Proof.Machine
end

