-- ==== Sys2Proof/Laws/Frame/Lathe.lean ====
section
/-!
SUPPORT. Frames of the operations of Machine/Lathe.lean: the fields each can change, as a mask.
-/
set_option linter.unusedTactic false
set_option linter.unreachableTactic false
namespace Sys2Proof.Machine
open Sys2Proof

theorem State.lthLog_ag (s : State) (code sparam p0 p1 : Nat) : Agree 25089 s (State.lthLog s code sparam p0 p1) := by
  unfold State.lthLog
  repeat' (with_reducible first | assumption | apply Agree.refl | intro _ | apply Agree.ite | apply Agree.then (k := State.irq_ag _ _) | apply Agree.then (k := State.log_ag _ _ _ _ _) | decide | split)

theorem State.lthCmdErr_ag (s : State) : Agree 1 s (State.lthCmdErr s) := by
  unfold State.lthCmdErr
  repeat' (with_reducible first | assumption | apply Agree.refl | intro _ | apply Agree.then (k := State.putBit_ag _ _ _ _) | decide)

theorem State.lthDrive_ag (s : State) (ws : List Word) : Agree 326551888393 s (State.lthDrive s ws) := by
  unfold State.lthDrive
  repeat' (with_reducible first | assumption | apply Agree.refl | intro _ | (extract_lets +onlyGivenNames x; first | (refine (fun (_ : Agree 326551888393 s x) => ?_ : Agree 326551888393 s x → _) ?_; clear_value x) | (refine (fun (_ : Agree 326551888393 s x.1) => ?_ : Agree 326551888393 s x.1 → _) ?_; clear_value x) | clear_value x) | subst x | apply Agree.foldl | apply Agree.then (k := State.wr_ag _ _ _) | apply Agree.then (k := State.fioDrive_ag _) | apply Agree.then (k := State.tlStep_ag _) | decide)

theorem State.revertClose_ag (s : State) (cause : Nat) : Agree 1099511783949 s (State.revertClose s cause) := by
  unfold State.revertClose
  repeat' (with_reducible first | assumption | apply Agree.refl | intro _ | (extract_lets +onlyGivenNames x; first | (refine (fun (_ : Agree 1099511783949 s x) => ?_ : Agree 1099511783949 s x → _) ?_; clear_value x) | (refine (fun (_ : Agree 1099511783949 s x.1) => ?_ : Agree 1099511783949 s x.1 → _) ?_; clear_value x) | clear_value x) | subst x | apply Agree.ite | apply Agree.optOr | apply Agree.optMap | apply Agree.then (k := State.put_ag _ _ _ _ _) | apply Agree.then (k := State.putBit_ag _ _ _ _) | apply Agree.then (k := State.endClaims_ag _ _ _) | apply Agree.then (k := State.fioDrive_ag _) | apply Agree.then (k := State.lthMod_ag _ _) | apply Agree.then (k := State.lthLog_ag _ _ _ _ _) | decide | split)

theorem State.revertExpire_ag (s : State) : Agree 1099511783949 s (State.revertExpire s) := by
  unfold State.revertExpire
  repeat' (with_reducible first | assumption | apply Agree.refl | intro _ | apply Agree.ite | apply Agree.then (k := State.revertClose_ag _ _) | decide | split)

theorem execRevertWindowClose_ag (s : State) : ∀ t1, execRevertWindowClose s = .next t1 → Agree 1099511783949 s t1 := by
  intro t1 h
  obtain rfl := Host.Outcome.next.inj h
  repeat' (with_reducible first | assumption | apply Agree.refl | intro _ | apply Agree.then (k := State.revertExpire_ag _) | decide)

theorem State.armCancel_ag (s : State) (cause : Nat) : Agree 25089 s (State.armCancel s cause) := by
  unfold State.armCancel
  repeat' (with_reducible first | assumption | apply Agree.refl | intro _ | (extract_lets +onlyGivenNames x; first | (refine (fun (_ : Agree 25089 s x) => ?_ : Agree 25089 s x → _) ?_; clear_value x) | (refine (fun (_ : Agree 25089 s x.1) => ?_ : Agree 25089 s x.1 → _) ?_; clear_value x) | clear_value x) | subst x | apply Agree.ite | apply Agree.optOr | apply Agree.optMap | apply Agree.then (k := State.putBit_ag _ _ _ _) | apply Agree.then (k := State.lthLog_ag _ _ _ _ _) | decide | split)

theorem State.lthHalt_ag (s : State) (kind cause pc : Nat) : Agree 1427137257997 s (State.lthHalt s kind cause pc) := by
  unfold State.lthHalt
  repeat' (with_reducible first | assumption | apply Agree.refl | intro _ | (extract_lets +onlyGivenNames x; first | (refine (fun (_ : Agree 1427137257997 s x) => ?_ : Agree 1427137257997 s x → _) ?_; clear_value x) | (refine (fun (_ : Agree 1427137257997 s x.1) => ?_ : Agree 1427137257997 s x.1 → _) ?_; clear_value x) | clear_value x) | subst x | apply Agree.ite | apply Agree.optOr | apply Agree.optMap | apply Agree.then (k := State.wr_ag _ _ _) | apply Agree.then (k := State.put_ag _ _ _ _ _) | apply Agree.then (k := State.coreMod_ag _ _ _) | apply Agree.then (k := State.lthMod_ag _ _) | apply Agree.then (k := State.lthLog_ag _ _ _ _ _) | apply Agree.then (k := State.lthDrive_ag _ _) | apply Agree.then (k := State.revertClose_ag _ _) | apply Agree.then (k := State.armCancel_ag _ _) | decide | split)

theorem State.lthHaltCmd_ag (s : State) : Agree 1427137257997 s (State.lthHaltCmd s) := by
  unfold State.lthHaltCmd
  repeat' (with_reducible first | assumption | apply Agree.refl | intro _ | apply Agree.ite | apply Agree.then (k := State.lthHalt_ag _ _ _ _) | decide | split)

theorem execLthHaltCmd_ag (s : State) : ∀ t1, execLthHaltCmd s = .next t1 → Agree 1427137257997 s t1 := by
  intro t1 h
  obtain rfl := Host.Outcome.next.inj h
  repeat' (with_reducible first | assumption | apply Agree.refl | intro _ | apply Agree.then (k := State.lthHaltCmd_ag _) | decide)

theorem State.lthMismatch_ag (s : State) : Agree 1427137257997 s (State.lthMismatch s) := by
  unfold State.lthMismatch
  repeat' (with_reducible first | assumption | apply Agree.refl | intro _ | apply Agree.ite | apply Agree.then (k := State.lthHalt_ag _ _ _ _) | decide | split)

theorem execLthLockstepMismatch_ag (s : State) : ∀ t1, execLthLockstepMismatch s = .next t1 → Agree 1427137257997 s t1 := by
  intro t1 h
  obtain rfl := Host.Outcome.next.inj h
  repeat' (with_reducible first | assumption | apply Agree.refl | intro _ | apply Agree.then (k := State.lthMismatch_ag _) | decide)

theorem State.stationLatch_ag (s : State) (t : LthTables) (i : Nat) (st : Station) (since : Nat) : Agree 1099511652865 s (State.stationLatch s t i st since) := by
  unfold State.stationLatch
  repeat' (with_reducible first | assumption | apply Agree.refl | intro _ | (extract_lets +onlyGivenNames x; first | (refine (fun (_ : Agree 1099511652865 s x) => ?_ : Agree 1099511652865 s x → _) ?_; clear_value x) | (refine (fun (_ : Agree 1099511652865 s x.1) => ?_ : Agree 1099511652865 s x.1 → _) ?_; clear_value x) | clear_value x) | subst x | apply Agree.ite | apply Agree.whenI | apply Agree.optOr | apply Agree.optMap | apply Agree.then (k := State.lthMod_ag _ _) | apply Agree.then (k := State.lthLog_ag _ _ _ _ _) | decide | split)

theorem State.latchImage_ag (s : State) (t : LthTables) (d : Nat) : Agree 140874927308801 s (State.latchImage s t d) := by
  unfold State.latchImage
  repeat' (with_reducible first | assumption | apply Agree.refl | intro _ | (extract_lets +onlyGivenNames x; first | (refine (fun (_ : Agree 140874927308801 s x) => ?_ : Agree 140874927308801 s x → _) ?_; clear_value x) | (refine (fun (hf : ∀ t, Agree 140874927308801 s t → Agree 140874927308801 s (x t)) => ?_ : (∀ t, Agree 140874927308801 s t → Agree 140874927308801 s (x t)) → _) (fun _ _ => ?_); clear_value x) | (refine (fun (hg : ∀ a t, Agree 140874927308801 s t → Agree 140874927308801 s (x a t)) => ?_ : (∀ a t, Agree 140874927308801 s t → Agree 140874927308801 s (x a t)) → _) (fun _ _ _ => ?_); clear_value x) | (refine (fun (hk : ∀ a, Agree 140874927308801 s (x a)) => ?_ : (∀ a, Agree 140874927308801 s (x a)) → _) (fun _ => ?_); clear_value x) | (refine (fun (hp : ∀ t a b, Agree 140874927308801 s t → Agree 140874927308801 s (x t a b)) => ?_ : (∀ t a b, Agree 140874927308801 s t → Agree 140874927308801 s (x t a b)) → _) (fun _ _ _ _ => ?_); clear_value x) | (refine (fun (_ : Agree 140874927308801 s x.1) => ?_ : Agree 140874927308801 s x.1 → _) ?_; clear_value x) | clear_value x) | subst x | apply hf | apply hg | apply hp | apply hk | apply Agree.ite | apply Agree.foldl | apply Agree.then (k := State.wr_ag _ _ _) | apply Agree.then (k := State.put_ag _ _ _ _ _) | apply Agree.then (k := State.fioMod_ag _ _) | apply Agree.then (k := State.meterMod_ag _ _) | decide | split)

theorem State.timersAdvance_ag (s : State) (d : Nat) : Agree 1099511627776 s (State.timersAdvance s d) := by
  unfold State.timersAdvance
  repeat' (with_reducible first | assumption | apply Agree.refl | intro _ | (extract_lets +onlyGivenNames x; first | (refine (fun (_ : Agree 1099511627776 s x) => ?_ : Agree 1099511627776 s x → _) ?_; clear_value x) | (refine (fun (_ : Agree 1099511627776 s x.1) => ?_ : Agree 1099511627776 s x.1 → _) ?_; clear_value x) | clear_value x) | subst x | apply Agree.ite | apply Agree.foldl | apply Agree.then (k := State.setLtmr_ag _ _ _ _) | apply Agree.then (k := State.pairDirty_ag _ _) | decide | split)

theorem State.turnCount_ag (s : State) (p : Nat) : Agree 1099511627777 s (State.turnCount s p) := by
  unfold State.turnCount
  repeat' (with_reducible first | assumption | apply Agree.refl | intro _ | (extract_lets +onlyGivenNames x; first | (refine (fun (_ : Agree 1099511627777 s x) => ?_ : Agree 1099511627777 s x → _) ?_; clear_value x) | (refine (fun (_ : Agree 1099511627777 s x.1) => ?_ : Agree 1099511627777 s x.1 → _) ?_; clear_value x) | clear_value x) | subst x | apply Agree.ite | apply Agree.whenI | apply Agree.then (k := State.wr_ag _ _ _) | apply Agree.then (k := State.put_ag _ _ _ _ _) | apply Agree.then (k := State.lthMod_ag _ _) | decide | split)

theorem State.turnStart_ag (s : State) : Agree 141974438961665 s (State.turnStart s) := by
  unfold State.turnStart
  repeat' (with_reducible first | assumption | apply Agree.refl | intro _ | (extract_lets +onlyGivenNames x; first | (refine (fun (_ : Agree 141974438961665 s x) => ?_ : Agree 141974438961665 s x → _) ?_; clear_value x) | (refine (fun (_ : Agree 141974438961665 s x.1) => ?_ : Agree 141974438961665 s x.1 → _) ?_; clear_value x) | clear_value x) | subst x | apply Agree.ite | apply Agree.foldl | apply Agree.then (k := State.lthMod_ag _ _) | apply Agree.then (k := State.stationLatch_ag _ _ _ _ _) | apply Agree.then (k := State.latchImage_ag _ _ _) | apply Agree.then (k := State.timersAdvance_ag _ _) | apply Agree.then (k := State.turnCount_ag _ _) | decide | split)

theorem execTurnStart_ag (s : State) : ∀ t1, execTurnStart s = .next t1 → Agree 141974438961665 s t1 := by
  intro t1 h
  obtain rfl := Host.Outcome.next.inj h
  repeat' (with_reducible first | assumption | apply Agree.refl | intro _ | apply Agree.then (k := State.turnStart_ag _) | decide)

theorem State.lthProgram_ag (s : State) : Agree 1100585369600 s (State.lthProgram s) := by
  unfold State.lthProgram
  repeat' (with_reducible first | assumption | apply Agree.refl | intro _ | (extract_lets +onlyGivenNames x; first | (refine (fun (_ : Agree 1100585369600 s x) => ?_ : Agree 1100585369600 s x → _) ?_; clear_value x) | (refine (fun (_ : Agree 1100585369600 s x.1) => ?_ : Agree 1100585369600 s x.1 → _) ?_; clear_value x) | clear_value x) | subst x | apply Agree.then (k := State.coreMod_ag _ _ _) | apply Agree.then (k := State.lthMod_ag _ _) | decide | split)

theorem execLthProgramStart_ag (s : State) : ∀ t1, execLthProgramStart s = .next t1 → Agree 1100585369600 s t1 := by
  intro t1 h
  obtain rfl := Host.Outcome.next.inj h
  repeat' (with_reducible first | assumption | apply Agree.refl | intro _ | apply Agree.then (k := State.lthProgram_ag _) | decide)

theorem State.retTimers_ag (s : State) (i : LImage) : Agree 1099511627777 s (State.retTimers s i) := by
  unfold State.retTimers
  repeat' (with_reducible first | assumption | apply Agree.refl | intro _ | (extract_lets +onlyGivenNames x; first | (refine (fun (_ : Agree 1099511627777 s x) => ?_ : Agree 1099511627777 s x → _) ?_; clear_value x) | (refine (fun (_ : Agree 1099511627777 s x.1) => ?_ : Agree 1099511627777 s x.1 → _) ?_; clear_value x) | clear_value x) | subst x | apply Agree.ite | apply Agree.foldl | apply Agree.then (k := State.wrWords_ag _ _ _) | apply Agree.then (k := State.pairDirty_ag _ _) | decide | split)

theorem State.flushBegin_ag (s : State) (f : Flush) : Agree 1099511627779 s (State.flushBegin s f) := by
  unfold State.flushBegin
  repeat' (with_reducible first | assumption | apply Agree.refl | intro _ | (extract_lets +onlyGivenNames x; first | (refine (fun (_ : Agree 1099511627779 s x) => ?_ : Agree 1099511627779 s x → _) ?_; clear_value x) | (refine (fun (_ : Agree 1099511627779 s x.1) => ?_ : Agree 1099511627779 s x.1 → _) ?_; clear_value x) | clear_value x) | subst x | apply Agree.foldl | apply Agree.then (k := State.put_ag _ _ _ _ _) | apply Agree.then (k := State.putBit_ag _ _ _ _) | apply Agree.then (k := State.mwr_ag _ _ _) | apply Agree.then (k := State.lthMod_ag _ _) | decide)

theorem State.flushLate_ag (s : State) : Agree 1 s (State.flushLate s) := by
  unfold State.flushLate
  repeat' (with_reducible first | assumption | apply Agree.refl | intro _ | apply Agree.ite | apply Agree.then (k := State.putBit_ag _ _ _ _) | decide | split)

theorem State.flushStart_ag (s : State) (i : LImage) : Agree 1099511627779 s (State.flushStart s i) := by
  unfold State.flushStart
  repeat' (with_reducible first | assumption | apply Agree.refl | intro _ | (extract_lets +onlyGivenNames x; first | (refine (fun (_ : Agree 1099511627779 s x) => ?_ : Agree 1099511627779 s x → _) ?_; clear_value x) | (refine (fun (_ : Agree 1099511627779 s x.1) => ?_ : Agree 1099511627779 s x.1 → _) ?_; clear_value x) | clear_value x) | subst x | apply Agree.ite | apply Agree.then (k := State.lthMod_ag _ _) | apply Agree.then (k := State.retTimers_ag _ _) | apply Agree.then (k := State.flushBegin_ag _ _) | decide | split)

theorem State.flushFailed_ag (s : State) (f : Flush) (a : Nat) : Agree 1099511652865 s (State.flushFailed s f a) := by
  unfold State.flushFailed
  repeat' (with_reducible first | assumption | apply Agree.refl | intro _ | (extract_lets +onlyGivenNames x; first | (refine (fun (_ : Agree 1099511652865 s x) => ?_ : Agree 1099511652865 s x → _) ?_; clear_value x) | (refine (fun (_ : Agree 1099511652865 s x.1) => ?_ : Agree 1099511652865 s x.1 → _) ?_; clear_value x) | clear_value x) | subst x | apply Agree.ite | apply Agree.then (k := State.putBit_ag _ _ _ _) | apply Agree.then (k := State.lthMod_ag _ _) | apply Agree.then (k := State.lthLog_ag _ _ _ _ _) | decide | split)

theorem State.flushWritten_ag (s : State) (f : Flush) : Agree 1099511627779 s (State.flushWritten s f) := by
  unfold State.flushWritten
  repeat' (with_reducible first | assumption | apply Agree.refl | intro _ | (extract_lets +onlyGivenNames x; first | (refine (fun (_ : Agree 1099511627779 s x) => ?_ : Agree 1099511627779 s x → _) ?_; clear_value x) | (refine (fun (_ : Agree 1099511627779 s x.1) => ?_ : Agree 1099511627779 s x.1 → _) ?_; clear_value x) | clear_value x) | subst x | apply Agree.ite | apply Agree.foldl | apply Agree.then (k := State.wr_ag _ _ _) | apply Agree.then (k := State.put_ag _ _ _ _ _) | apply Agree.then (k := State.putBit_ag _ _ _ _) | apply Agree.then (k := State.mwr_ag _ _ _) | apply Agree.then (k := State.pairDirty_ag _ _) | decide | split)

theorem State.flushDone_ag (s : State) (failed : Option Nat) : Agree 1099511652867 s (State.flushDone s failed) := by
  unfold State.flushDone
  repeat' (with_reducible first | assumption | apply Agree.refl | intro _ | (extract_lets +onlyGivenNames x; first | (refine (fun (_ : Agree 1099511652867 s x) => ?_ : Agree 1099511652867 s x → _) ?_; clear_value x) | (refine (fun (_ : Agree 1099511652867 s x.1) => ?_ : Agree 1099511652867 s x.1 → _) ?_; clear_value x) | clear_value x) | subst x | apply Agree.then (k := State.put_ag _ _ _ _ _) | apply Agree.then (k := State.putBit_ag _ _ _ _) | apply Agree.then (k := State.lthMod_ag _ _) | apply Agree.then (k := State.flushBegin_ag _ _) | apply Agree.then (k := State.flushFailed_ag _ _ _) | apply Agree.then (k := State.flushWritten_ag _ _) | decide | split)

theorem execRetainedFlushDone_ag (fail : Option (BitVec 26)) (s : State) : ∀ t1, execRetainedFlushDone fail s = .next t1 → Agree 1099511652867 s t1 := by
  intro t1 h
  obtain rfl := Host.Outcome.next.inj h
  repeat' (with_reducible first | assumption | apply Agree.refl | intro _ | apply Agree.then (k := State.flushDone_ag _ _) | decide)

theorem State.putLthByte_ag (s : State) (half a v : Nat) : Agree 1 s (State.putLthByte s half a v) := by
  unfold State.putLthByte
  repeat' (with_reducible first | assumption | apply Agree.refl | intro _ | (extract_lets +onlyGivenNames x; first | (refine (fun (_ : Agree 1 s x) => ?_ : Agree 1 s x → _) ?_; clear_value x) | (refine (fun (_ : Agree 1 s x.1) => ?_ : Agree 1 s x.1 → _) ?_; clear_value x) | clear_value x) | subst x | apply Agree.then (k := State.wr_ag _ _ _) | decide)

theorem State.carryOne_ag (s : State) (src dst : Nat) (x y : Carry) : Agree 1099511627777 s (State.carryOne s src dst x y) := by
  unfold State.carryOne
  repeat' (with_reducible first | assumption | apply Agree.refl | intro _ | (extract_lets +onlyGivenNames x; first | (refine (fun (_ : Agree 1099511627777 s x) => ?_ : Agree 1099511627777 s x → _) ?_; clear_value x) | (refine (fun (_ : Agree 1099511627777 s x.1) => ?_ : Agree 1099511627777 s x.1 → _) ?_; clear_value x) | clear_value x) | subst x | apply Agree.ite | apply Agree.foldl | apply Agree.then (k := State.setLtmr_ag _ _ _ _) | apply Agree.then (k := State.setLedge_ag _ _ _ _) | apply Agree.then (k := State.putLthByte_ag _ _ _ _) | decide | split)

theorem State.halfSwitch_ag (s : State) (a b : LImage) : Agree 71468255805441 s (State.halfSwitch s a b) := by
  unfold State.halfSwitch
  repeat' (with_reducible first | assumption | apply Agree.refl | intro _ | (extract_lets +onlyGivenNames x; first | (refine (fun (_ : Agree 71468255805441 s x) => ?_ : Agree 71468255805441 s x → _) ?_; clear_value x) | (refine (fun (_ : Agree 71468255805441 s x.1) => ?_ : Agree 71468255805441 s x.1 → _) ?_; clear_value x) | clear_value x) | subst x | apply Agree.foldl | apply Agree.then (k := State.put_ag _ _ _ _ _) | apply Agree.then (k := State.pairMod_ag _ _) | apply Agree.then (k := State.lthMod_ag _ _) | apply Agree.then (k := State.carryOne_ag _ _ _ _ _) | decide)

theorem State.lthSwitch_ag (s : State) : Agree 71468255961613 s (State.lthSwitch s) := by
  unfold State.lthSwitch
  repeat' (with_reducible first | assumption | apply Agree.refl | intro _ | (extract_lets +onlyGivenNames x; first | (refine (fun (_ : Agree 71468255961613 s x) => ?_ : Agree 71468255961613 s x → _) ?_; clear_value x) | (refine (fun (_ : Agree 71468255961613 s x.1) => ?_ : Agree 71468255961613 s x.1 → _) ?_; clear_value x) | clear_value x) | subst x | apply Agree.then (k := State.put_ag _ _ _ _ _) | apply Agree.then (k := State.putBit_ag _ _ _ _) | apply Agree.then (k := State.takeClaims_ag _ _ _) | apply Agree.then (k := State.fioDrive_ag _) | apply Agree.then (k := State.lthMod_ag _ _) | apply Agree.then (k := State.lthLog_ag _ _ _ _ _) | apply Agree.then (k := State.halfSwitch_ag _ _ _) | decide | split)

theorem State.lthRevertApply_ag (s : State) : Agree 71468255961613 s (State.lthRevertApply s) := by
  unfold State.lthRevertApply
  repeat' (with_reducible first | assumption | apply Agree.refl | intro _ | (extract_lets +onlyGivenNames x; first | (refine (fun (_ : Agree 71468255961613 s x) => ?_ : Agree 71468255961613 s x → _) ?_; clear_value x) | (refine (fun (_ : Agree 71468255961613 s x.1) => ?_ : Agree 71468255961613 s x.1 → _) ?_; clear_value x) | clear_value x) | subst x | apply Agree.then (k := State.put_ag _ _ _ _ _) | apply Agree.then (k := State.putBit_ag _ _ _ _) | apply Agree.then (k := State.endClaims_ag _ _ _) | apply Agree.then (k := State.fioDrive_ag _) | apply Agree.then (k := State.lthMod_ag _ _) | apply Agree.then (k := State.setLthImg_ag _ _ _) | apply Agree.then (k := State.lthLog_ag _ _ _ _ _) | apply Agree.then (k := State.halfSwitch_ag _ _ _) | decide | split)

theorem State.putPage_ag (s : State) (p : Nat) (b : Bytes) : Agree 1099511627777 s (State.putPage s p b) := by
  unfold State.putPage
  repeat' (with_reducible first | assumption | apply Agree.refl | intro _ | (extract_lets +onlyGivenNames x; first | (refine (fun (_ : Agree 1099511627777 s x) => ?_ : Agree 1099511627777 s x → _) ?_; clear_value x) | (refine (fun (hf : ∀ t, Agree 1099511627777 s t → Agree 1099511627777 s (x t)) => ?_ : (∀ t, Agree 1099511627777 s t → Agree 1099511627777 s (x t)) → _) (fun _ _ => ?_); clear_value x) | (refine (fun (hg : ∀ a t, Agree 1099511627777 s t → Agree 1099511627777 s (x a t)) => ?_ : (∀ a t, Agree 1099511627777 s t → Agree 1099511627777 s (x a t)) → _) (fun _ _ _ => ?_); clear_value x) | (refine (fun (hk : ∀ a, Agree 1099511627777 s (x a)) => ?_ : (∀ a, Agree 1099511627777 s (x a)) → _) (fun _ => ?_); clear_value x) | (refine (fun (hp : ∀ t a b, Agree 1099511627777 s t → Agree 1099511627777 s (x t a b)) => ?_ : (∀ t a b, Agree 1099511627777 s t → Agree 1099511627777 s (x t a b)) → _) (fun _ _ _ _ => ?_); clear_value x) | (refine (fun (_ : Agree 1099511627777 s x.1) => ?_ : Agree 1099511627777 s x.1 → _) ?_; clear_value x) | clear_value x) | subst x | apply hf | apply hg | apply hp | apply hk | apply Agree.ite | apply Agree.foldl | apply Agree.then (k := State.wr_ag _ _ _) | apply Agree.then (k := State.lthMod_ag _ _) | apply Agree.then (k := State.setLtmr_ag _ _ _ _) | apply Agree.then (k := State.setLedge_ag _ _ _ _) | decide | split)

theorem State.pairQueue_ag (s : State) : Agree 71468255805440 s (State.pairQueue s) := by
  unfold State.pairQueue
  repeat' (with_reducible first | assumption | apply Agree.refl | intro _ | (extract_lets +onlyGivenNames x; first | (refine (fun (_ : Agree 71468255805440 s x) => ?_ : Agree 71468255805440 s x → _) ?_; clear_value x) | (refine (fun (_ : Agree 71468255805440 s x.1) => ?_ : Agree 71468255805440 s x.1 → _) ?_; clear_value x) | clear_value x) | subst x | apply Agree.ite | apply Agree.then (k := State.pairMod_ag _ _) | apply Agree.then (k := State.lthMod_ag _ _) | decide | split)

theorem State.pairSetApply_ag (s : State) : Agree 71468255805441 s (State.pairSetApply s) := by
  unfold State.pairSetApply
  repeat' (with_reducible first | assumption | apply Agree.refl | intro _ | (extract_lets +onlyGivenNames x; first | (refine (fun (_ : Agree 71468255805441 s x) => ?_ : Agree 71468255805441 s x → _) ?_; clear_value x) | (refine (fun (_ : Agree 71468255805441 s x.1) => ?_ : Agree 71468255805441 s x.1 → _) ?_; clear_value x) | clear_value x) | subst x | apply Agree.ite | apply Agree.foldl | apply Agree.then (k := State.pairMod_ag _ _) | apply Agree.then (k := State.lthMod_ag _ _) | apply Agree.then (k := State.putPage_ag _ _ _) | decide | split)

theorem State.pairCommit_ag (s : State) : Agree 71468255805441 s (State.pairCommit s) := by
  unfold State.pairCommit
  repeat' (with_reducible first | assumption | apply Agree.refl | intro _ | apply Agree.ite | apply Agree.then (k := State.lthMod_ag _ _) | apply Agree.then (k := State.pairQueue_ag _) | apply Agree.then (k := State.pairSetApply_ag _) | decide | split)

theorem State.lthQueue_ag (s : State) (t : LthTables) : Agree 17179869185 s (State.lthQueue s t) := by
  unfold State.lthQueue
  repeat' (with_reducible first | assumption | apply Agree.refl | intro _ | (extract_lets +onlyGivenNames x; first | (refine (fun (_ : Agree 17179869185 s x) => ?_ : Agree 17179869185 s x → _) ?_; clear_value x) | (refine (fun (_ : Agree 17179869185 s x.1) => ?_ : Agree 17179869185 s x.1 → _) ?_; clear_value x) | clear_value x) | subst x | apply Agree.ite | apply Agree.foldl | apply Agree.then (k := State.canQueue_ag _ _ _) | apply Agree.then (k := State.objData_ag _ _ _ _ _) | decide | split)

theorem State.turnCommit_ag (s : State) (i : LImage) : Agree 71794807693839 s (State.turnCommit s i) := by
  unfold State.turnCommit
  repeat' (with_reducible first | assumption | apply Agree.refl | intro _ | (extract_lets +onlyGivenNames x; first | (refine (fun (_ : Agree 71794807693839 s x) => ?_ : Agree 71794807693839 s x → _) ?_; clear_value x) | (refine (fun (_ : Agree 71794807693839 s x.1) => ?_ : Agree 71794807693839 s x.1 → _) ?_; clear_value x) | clear_value x) | subst x | apply Agree.ite | apply Agree.foldl | apply Agree.then (k := State.wr_ag _ _ _) | apply Agree.then (k := State.put_ag _ _ _ _ _) | apply Agree.then (k := State.lthMod_ag _ _) | apply Agree.then (k := State.lthDrive_ag _ _) | apply Agree.then (k := State.flushStart_ag _ _) | apply Agree.then (k := State.lthSwitch_ag _) | apply Agree.then (k := State.lthRevertApply_ag _) | apply Agree.then (k := State.pairCommit_ag _) | apply Agree.then (k := State.lthQueue_ag _ _) | decide | split)

theorem State.turnOverrun_ag (s : State) : Agree 1427137257997 s (State.turnOverrun s) := by
  unfold State.turnOverrun
  repeat' (with_reducible first | assumption | apply Agree.refl | intro _ | (extract_lets +onlyGivenNames x; first | (refine (fun (_ : Agree 1427137257997 s x) => ?_ : Agree 1427137257997 s x → _) ?_; clear_value x) | (refine (fun (_ : Agree 1427137257997 s x.1) => ?_ : Agree 1427137257997 s x.1 → _) ?_; clear_value x) | clear_value x) | subst x | apply Agree.ite | apply Agree.then (k := State.wr_ag _ _ _) | apply Agree.then (k := State.put_ag _ _ _ _ _) | apply Agree.then (k := State.putBit_ag _ _ _ _) | apply Agree.then (k := State.count_ag _ _ _ _ _) | apply Agree.then (k := State.coreMod_ag _ _ _) | apply Agree.then (k := State.lthMod_ag _ _) | apply Agree.then (k := State.lthLog_ag _ _ _ _ _) | apply Agree.then (k := State.lthHalt_ag _ _ _ _) | decide | split)

theorem State.turnDeadline_ag (s : State) : Agree 71795881435663 s (State.turnDeadline s) := by
  unfold State.turnDeadline
  repeat' (with_reducible first | assumption | apply Agree.refl | intro _ | apply Agree.ite | apply Agree.then (k := State.lthMod_ag _ _) | apply Agree.then (k := State.flushLate_ag _) | apply Agree.then (k := State.turnCommit_ag _ _) | apply Agree.then (k := State.turnOverrun_ag _) | decide | split)

theorem execTurnDeadline_ag (s : State) : ∀ t1, execTurnDeadline s = .next t1 → Agree 71795881435663 s t1 := by
  intro t1 h
  obtain rfl := Host.Outcome.next.inj h
  repeat' (with_reducible first | assumption | apply Agree.refl | intro _ | apply Agree.then (k := State.turnDeadline_ag _) | decide)

theorem State.lthLoad_ag (s : State) : Agree 1099511783949 s (State.lthLoad s) := by
  unfold State.lthLoad
  repeat' (with_reducible first | assumption | apply Agree.refl | intro _ | (extract_lets +onlyGivenNames x; first | (refine (fun (_ : Agree 1099511783949 s x) => ?_ : Agree 1099511783949 s x → _) ?_; clear_value x) | (refine (fun (_ : Agree 1099511783949 s x.1) => ?_ : Agree 1099511783949 s x.1 → _) ?_; clear_value x) | clear_value x) | subst x | apply Agree.ite | apply Agree.foldl | apply Agree.iteP | apply Agree.foldlP | apply Agree.then (k := State.putBit_ag _ _ _ _) | apply Agree.then (k := State.wrWords_ag _ _ _) | apply Agree.then (k := State.lthMod_ag _ _) | apply Agree.then (k := State.setLthImg_ag _ _ _) | apply Agree.then (k := State.wipeKeys_ag _ _ _) | apply Agree.then (k := State.lthCmdErr_ag _) | apply Agree.then (k := State.revertClose_ag _ _) | decide | split)

theorem execLthLoadValidate_ag (s : State) : ∀ t1, execLthLoadValidate s = .next t1 → Agree 1099511783949 s t1 := by
  intro t1 h
  obtain rfl := Host.Outcome.next.inj h
  repeat' (with_reducible first | assumption | apply Agree.refl | intro _ | apply Agree.then (k := State.lthLoad_ag _) | decide)

theorem State.lthValEnd_ag (s : State) (env : Nat) (v : Option (Nat × Nat)) : Agree 1099511652865 s (State.lthValEnd s env v) := by
  unfold State.lthValEnd
  repeat' (with_reducible first | assumption | apply Agree.refl | intro _ | (extract_lets +onlyGivenNames x; first | (refine (fun (_ : Agree 1099511652865 s x) => ?_ : Agree 1099511652865 s x → _) ?_; clear_value x) | (refine (fun (_ : Agree 1099511652865 s x.1) => ?_ : Agree 1099511652865 s x.1 → _) ?_; clear_value x) | clear_value x) | subst x | apply Agree.ite | apply Agree.whenI | apply Agree.then (k := State.wr_ag _ _ _) | apply Agree.then (k := State.putBit_ag _ _ _ _) | apply Agree.then (k := State.irq_ag _ _) | apply Agree.then (k := State.lthMod_ag _ _) | apply Agree.then (k := State.setLthImg_ag _ _ _) | apply Agree.then (k := State.lthLog_ag _ _ _ _ _) | decide | split)

theorem State.lthValidated_ag (s : State) : Agree 1099511652865 s (State.lthValidated s) := by
  unfold State.lthValidated
  repeat' (with_reducible first | assumption | apply Agree.refl | intro _ | apply Agree.ite | apply Agree.then (k := State.lthValEnd_ag _ _ _) | decide | split)

theorem execLthValidationDone_ag (s : State) : ∀ t1, execLthValidationDone s = .next t1 → Agree 1099511652865 s t1 := by
  intro t1 h
  obtain rfl := Host.Outcome.next.inj h
  repeat' (with_reducible first | assumption | apply Agree.refl | intro _ | apply Agree.then (k := State.lthValidated_ag _) | decide)

theorem State.lthArm_ag (s : State) : Agree 1099511783949 s (State.lthArm s) := by
  unfold State.lthArm
  repeat' (with_reducible first | assumption | apply Agree.refl | intro _ | (extract_lets +onlyGivenNames x; first | (refine (fun (_ : Agree 1099511783949 s x) => ?_ : Agree 1099511783949 s x → _) ?_; clear_value x) | (refine (fun (_ : Agree 1099511783949 s x.1) => ?_ : Agree 1099511783949 s x.1 → _) ?_; clear_value x) | clear_value x) | subst x | apply Agree.ite | apply Agree.then (k := State.putBit_ag _ _ _ _) | apply Agree.then (k := State.lthMod_ag _ _) | apply Agree.then (k := State.lthCmdErr_ag _) | apply Agree.then (k := State.revertClose_ag _ _) | decide | split)

theorem execLthArm_ag (s : State) : ∀ t1, execLthArm s = .next t1 → Agree 1099511783949 s t1 := by
  intro t1 h
  obtain rfl := Host.Outcome.next.inj h
  repeat' (with_reducible first | assumption | apply Agree.refl | intro _ | apply Agree.then (k := State.lthArm_ag _) | decide)

theorem execLthDisarm_ag (s : State) : ∀ t1, execLthDisarm s = .next t1 → Agree 25089 s t1 := by
  intro t1 h
  obtain rfl := Host.Outcome.next.inj h
  repeat' (with_reducible first | assumption | apply Agree.refl | intro _ | apply Agree.then (k := State.armCancel_ag _ _) | decide)

theorem State.lthRevert_ag (s : State) : Agree 1 s (State.lthRevert s) := by
  unfold State.lthRevert
  repeat' (with_reducible first | assumption | apply Agree.refl | intro _ | apply Agree.ite | apply Agree.then (k := State.putBit_ag _ _ _ _) | apply Agree.then (k := State.lthCmdErr_ag _) | decide | split)

theorem execLthRevert_ag (s : State) : ∀ t1, execLthRevert s = .next t1 → Agree 1 s t1 := by
  intro t1 h
  obtain rfl := Host.Outcome.next.inj h
  repeat' (with_reducible first | assumption | apply Agree.refl | intro _ | apply Agree.then (k := State.lthRevert_ag _) | decide)

theorem State.startMemory_ag (s : State) (i : LImage) (warm : Option Nat) : Agree 1099511627777 s (State.startMemory s i warm) := by
  unfold State.startMemory
  repeat' (with_reducible first | assumption | apply Agree.refl | intro _ | (extract_lets +onlyGivenNames x; first | (refine (fun (_ : Agree 1099511627777 s x) => ?_ : Agree 1099511627777 s x → _) ?_; clear_value x) | (refine (fun (_ : Agree 1099511627777 s x.1) => ?_ : Agree 1099511627777 s x.1 → _) ?_; clear_value x) | clear_value x) | subst x | apply Agree.foldl | apply Agree.then (k := State.wrWords_ag _ _ _) | apply Agree.then (k := State.lthMod_ag _ _) | apply Agree.then (k := State.setLtmr_ag _ _ _ _) | apply Agree.then (k := State.wipeKeys_ag _ _ _) | decide | split)

theorem State.lthStartAs_ag (s : State) (i : LImage) (warm : Option Nat) : Agree 1426063516169 s (State.lthStartAs s i warm) := by
  unfold State.lthStartAs
  repeat' (with_reducible first | assumption | apply Agree.refl | intro _ | (extract_lets +onlyGivenNames x; first | (refine (fun (_ : Agree 1426063516169 s x) => ?_ : Agree 1426063516169 s x → _) ?_; clear_value x) | (refine (fun (_ : Agree 1426063516169 s x.1) => ?_ : Agree 1426063516169 s x.1 → _) ?_; clear_value x) | clear_value x) | subst x | apply Agree.ite | apply Agree.foldl | apply Agree.then (k := State.wr_ag _ _ _) | apply Agree.then (k := State.put_ag _ _ _ _ _) | apply Agree.then (k := State.putBit_ag _ _ _ _) | apply Agree.then (k := State.lthMod_ag _ _) | apply Agree.then (k := State.lthLog_ag _ _ _ _ _) | apply Agree.then (k := State.lthDrive_ag _ _) | apply Agree.then (k := State.startMemory_ag _ _ _) | decide | split)

theorem State.activatePending_ag (s : State) : Agree 1099511758861 s (State.activatePending s) := by
  unfold State.activatePending
  repeat' (with_reducible first | assumption | apply Agree.refl | intro _ | (extract_lets +onlyGivenNames x; first | (refine (fun (_ : Agree 1099511758861 s x) => ?_ : Agree 1099511758861 s x → _) ?_; clear_value x) | (refine (fun (_ : Agree 1099511758861 s x.1) => ?_ : Agree 1099511758861 s x.1 → _) ?_; clear_value x) | clear_value x) | subst x | apply Agree.optOr | apply Agree.optMap | apply Agree.then (k := State.put_ag _ _ _ _ _) | apply Agree.then (k := State.putBit_ag _ _ _ _) | apply Agree.then (k := State.moveClaims_ag _ _ _) | apply Agree.then (k := State.lthMod_ag _ _) | apply Agree.then (k := State.setLthImg_ag _ _ _) | decide)

theorem State.lthStart_ag (s : State) : Agree 1426063516173 s (State.lthStart s) := by
  unfold State.lthStart
  repeat' (with_reducible first | assumption | apply Agree.refl | intro _ | (extract_lets +onlyGivenNames x; first | (refine (fun (_ : Agree 1426063516173 s x) => ?_ : Agree 1426063516173 s x → _) ?_; clear_value x) | (refine (fun (_ : Agree 1426063516173 s x.1) => ?_ : Agree 1426063516173 s x.1 → _) ?_; clear_value x) | clear_value x) | subst x | apply Agree.ite | apply Agree.then (k := State.putBit_ag _ _ _ _) | apply Agree.then (k := State.lthLog_ag _ _ _ _ _) | apply Agree.then (k := State.lthCmdErr_ag _) | apply Agree.then (k := State.lthStartAs_ag _ _ _) | apply Agree.then (k := State.activatePending_ag _) | decide | split)

theorem execLthStart_ag (s : State) : ∀ t1, execLthStart s = .next t1 → Agree 1426063516173 s t1 := by
  intro t1 h
  obtain rfl := Host.Outcome.next.inj h
  repeat' (with_reducible first | assumption | apply Agree.refl | intro _ | apply Agree.then (k := State.lthStart_ag _) | decide)

theorem State.meterSnapshot_ag (s : State) : Agree 140737488380417 s (State.meterSnapshot s) := by
  unfold State.meterSnapshot
  repeat' (with_reducible first | assumption | apply Agree.refl | intro _ | (extract_lets +onlyGivenNames x; first | (refine (fun (_ : Agree 140737488380417 s x) => ?_ : Agree 140737488380417 s x → _) ?_; clear_value x) | (refine (fun (_ : Agree 140737488380417 s x.1) => ?_ : Agree 140737488380417 s x.1 → _) ?_; clear_value x) | clear_value x) | subst x | apply Agree.ite | apply Agree.optOr | apply Agree.optMap | apply Agree.then (k := State.put_ag _ _ _ _ _) | apply Agree.then (k := State.meterMod_ag _ _) | apply Agree.then (k := State.lthLog_ag _ _ _ _ _) | decide | split)

theorem execMeterSnapshot_ag (s : State) : ∀ t1, execMeterSnapshot s = .next t1 → Agree 140737488380417 s t1 := by
  intro t1 h
  obtain rfl := Host.Outcome.next.inj h
  repeat' (with_reducible first | assumption | apply Agree.refl | intro _ | apply Agree.then (k := State.meterSnapshot_ag _) | decide)

theorem State.lthCfgWrite_ag (s : State) (a : Nat) (names : Bool) (v : Word) : Agree 513 s (State.lthCfgWrite s a names v) := by
  unfold State.lthCfgWrite
  repeat' (with_reducible first | assumption | apply Agree.refl | intro _ | apply Agree.ite | apply Agree.then (k := State.regWrite_ag _ _ _) | apply Agree.then (k := State.irq_ag _ _) | apply Agree.then (k := State.lthCmdErr_ag _) | decide | split)

theorem execLthCfgWrite_ag (v : Word) (s : State) : ∀ t1, execLthCfgWrite v s = .next t1 → Agree 513 s t1 := by
  intro t1 h
  obtain rfl := Host.Outcome.next.inj h
  repeat' (with_reducible first | assumption | apply Agree.refl | intro _ | apply Agree.then (k := State.lthCfgWrite_ag _ _ _ _) | decide)

theorem execMeterCfgWrite_ag (v : Word) (s : State) : ∀ t1, execMeterCfgWrite v s = .next t1 → Agree 513 s t1 := by
  intro t1 h
  obtain rfl := Host.Outcome.next.inj h
  repeat' (with_reducible first | assumption | apply Agree.refl | intro _ | apply Agree.then (k := State.lthCfgWrite_ag _ _ _ _) | decide)

theorem State.turnRead_ag (s : State) (r : Req) : Agree 48 s (State.turnRead s r) := by
  unfold State.turnRead
  repeat' (with_reducible first | assumption | apply Agree.refl | intro _ | apply Agree.then (k := State.answer_ag _ _ _) | apply Agree.then (k := State.latch_ag _ _ _ _) | decide)

theorem execLthTurnLoRead_ag (req : Req) (s : State) : ∀ t1, execLthTurnLoRead req s = .next t1 → Agree 48 s t1 := by
  intro t1 h
  obtain rfl := Host.Outcome.next.inj h
  repeat' (with_reducible first | assumption | apply Agree.refl | intro _ | apply Agree.ite | apply Agree.then (k := State.turnRead_ag _ _) | decide)

end Sys2Proof.Machine
end

