-- ==== Sys2Proof/Laws/Frame/Pair.lean ====
section
/-!
SUPPORT. Frames of the operations of Machine/Pair.lean: the fields each can change, as a mask.
-/
set_option linter.unusedTactic false
set_option linter.unreachableTactic false
namespace Sys2Proof.Machine
open Sys2Proof

theorem State.pairLog_ag (s : State) (code sparam p0 p1 : Nat) : Agree 25089 s (State.pairLog s code sparam p0 p1) := by
  unfold State.pairLog
  repeat' (with_reducible first | assumption | apply Agree.refl | intro _ | apply Agree.then (k := State.irq_ag _ _) | apply Agree.then (k := State.log_ag _ _ _ _ _) | decide)

theorem State.pairCmdErr_ag (s : State) (op idx : Nat) : Agree 25089 s (State.pairCmdErr s op idx) := by
  unfold State.pairCmdErr
  repeat' (with_reducible first | assumption | apply Agree.refl | intro _ | apply Agree.then (k := State.putBit_ag _ _ _ _) | apply Agree.then (k := State.pairLog_ag _ _ _ _ _) | decide)

theorem State.pairLost_ag (s : State) : Agree 1 s (State.pairLost s) := by
  unfold State.pairLost
  repeat' (with_reducible first | assumption | apply Agree.refl | intro _ | apply Agree.then (k := State.putBit_ag _ _ _ _) | decide)

theorem State.pairBeat_ag (s : State) : Agree 1 s (State.pairBeat s) := by
  unfold State.pairBeat
  repeat' (with_reducible first | assumption | apply Agree.refl | intro _ | apply Agree.then (k := State.putBit_ag _ _ _ _) | apply Agree.then (k := State.pairLost_ag _) | decide)

theorem State.pairFullCopy_ag (s : State) : Agree 70368744177664 s (State.pairFullCopy s) := by
  unfold State.pairFullCopy
  repeat' (with_reducible first | assumption | apply Agree.refl | intro _ | apply Agree.then (k := State.pairMod_ag _ _) | decide)

theorem State.syncShow_ag (s : State) : Agree 70368744202753 s (State.syncShow s) := by
  unfold State.syncShow
  repeat' (with_reducible first | assumption | apply Agree.refl | intro _ | (extract_lets +onlyGivenNames x; first | (refine (fun (_ : Agree 70368744202753 s x) => ?_ : Agree 70368744202753 s x → _) ?_; clear_value x) | (refine (fun (_ : Agree 70368744202753 s x.1) => ?_ : Agree 70368744202753 s x.1 → _) ?_; clear_value x) | clear_value x) | subst x | apply Agree.ite | apply Agree.then (k := State.putBit_ag _ _ _ _) | apply Agree.then (k := State.pairMod_ag _ _) | apply Agree.then (k := State.log_ag _ _ _ _ _) | apply Agree.then (k := State.pairLog_ag _ _ _ _ _) | decide | split)

theorem State.plinkChange_ag (s : State) (l : Nat) (up : Bool) : Agree 70368744202753 s (State.plinkChange s l up) := by
  unfold State.plinkChange
  repeat' (with_reducible first | assumption | apply Agree.refl | intro _ | (extract_lets +onlyGivenNames x; first | (refine (fun (_ : Agree 70368744202753 s x) => ?_ : Agree 70368744202753 s x → _) ?_; clear_value x) | (refine (fun (_ : Agree 70368744202753 s x.1) => ?_ : Agree 70368744202753 s x.1 → _) ?_; clear_value x) | clear_value x) | subst x | apply Agree.ite | apply Agree.then (k := State.putBit_ag _ _ _ _) | apply Agree.then (k := State.pairMod_ag _ _) | apply Agree.then (k := State.irq_ag _ _) | apply Agree.then (k := State.log_ag _ _ _ _ _) | apply Agree.then (k := State.pairLost_ag _) | apply Agree.then (k := State.pairFullCopy_ag _) | decide | split)

theorem State.plinkTake_ag (s : State) (l : Nat) (crcOk : Bool) (seq : Nat) : Agree 70368744202753 s (State.plinkTake s l crcOk seq).1 := by
  unfold State.plinkTake
  repeat' (with_reducible first | assumption | apply Agree.refl | intro _ | (extract_lets +onlyGivenNames x; first | (refine (fun (_ : Agree 70368744202753 s x) => ?_ : Agree 70368744202753 s x → _) ?_; clear_value x) | (refine (fun (_ : Agree 70368744202753 s x.1) => ?_ : Agree 70368744202753 s x.1 → _) ?_; clear_value x) | clear_value x) | subst x | apply Agree.ite | apply Agree.iteP | apply Agree.then (k := State.count_ag _ _ _ _ _) | apply Agree.then (k := State.pairMod_ag _ _) | apply Agree.then (k := State.plinkChange_ag _ _ _) | decide | split)

theorem execPlinkDown_ag (l : Fin 2) (s : State) : ∀ t1, execPlinkDown l s = .next t1 → Agree 70368744202753 s t1 := by
  intro t1 h
  obtain rfl := Host.Outcome.next.inj h
  repeat' (with_reducible first | assumption | apply Agree.refl | intro _ | apply Agree.ite | apply Agree.then (k := State.plinkChange_ag _ _ _) | decide | split)

theorem State.prefCheck_ag (s : State) (h : PairHb) : Agree 25089 s (State.prefCheck s h) := by
  unfold State.prefCheck
  repeat' (with_reducible first | assumption | apply Agree.refl | intro _ | (extract_lets +onlyGivenNames x; first | (refine (fun (_ : Agree 25089 s x) => ?_ : Agree 25089 s x → _) ?_; clear_value x) | (refine (fun (_ : Agree 25089 s x.1) => ?_ : Agree 25089 s x.1 → _) ?_; clear_value x) | clear_value x) | subst x | apply Agree.ite | apply Agree.then (k := State.putBit_ag _ _ _ _) | apply Agree.then (k := State.pairLog_ag _ _ _ _ _) | decide | split)

theorem State.handShow_ag (s : State) : Agree 1 s (State.handShow s) := by
  unfold State.handShow
  repeat' (with_reducible first | assumption | apply Agree.refl | intro _ | apply Agree.then (k := State.putBit_ag _ _ _ _) | decide)

theorem State.pairAsk_ag (s : State) (h : PairHb) : Agree 70368744177665 s (State.pairAsk s h) := by
  unfold State.pairAsk
  repeat' (with_reducible first | assumption | apply Agree.refl | intro _ | (extract_lets +onlyGivenNames x; first | (refine (fun (_ : Agree 70368744177665 s x) => ?_ : Agree 70368744177665 s x → _) ?_; clear_value x) | (refine (fun (_ : Agree 70368744177665 s x.1) => ?_ : Agree 70368744177665 s x.1 → _) ?_; clear_value x) | clear_value x) | subst x | apply Agree.ite | apply Agree.then (k := State.pairMod_ag _ _) | apply Agree.then (k := State.handShow_ag _) | decide | split)

theorem State.hbTime_ag (s : State) (h : PairHb) (tdly : Nat) : Agree 1 s (State.hbTime s h tdly) := by
  unfold State.hbTime
  repeat' (with_reducible first | assumption | apply Agree.refl | intro _ | (extract_lets +onlyGivenNames x; first | (refine (fun (_ : Agree 1 s x) => ?_ : Agree 1 s x → _) ?_; clear_value x) | (refine (fun (_ : Agree 1 s x.1) => ?_ : Agree 1 s x.1 → _) ?_; clear_value x) | clear_value x) | subst x | apply Agree.then (k := State.wr_ag _ _ _) | apply Agree.then (k := State.put_ag _ _ _ _ _) | apply Agree.then (k := State.putBit_ag _ _ _ _) | decide)

theorem State.hbBeat_ag (s : State) (h : PairHb) : Agree 70368744177665 s (State.hbBeat s h) := by
  unfold State.hbBeat
  repeat' (with_reducible first | assumption | apply Agree.refl | intro _ | (extract_lets +onlyGivenNames x; first | (refine (fun (_ : Agree 70368744177665 s x) => ?_ : Agree 70368744177665 s x → _) ?_; clear_value x) | (refine (fun (_ : Agree 70368744177665 s x.1) => ?_ : Agree 70368744177665 s x.1 → _) ?_; clear_value x) | clear_value x) | subst x | apply Agree.ite | apply Agree.whenI | apply Agree.then (k := State.pairMod_ag _ _) | apply Agree.then (k := State.pairBeat_ag _) | decide | split)

theorem State.hbTake_ag (s : State) (h : PairHb) (toffs : Int) (tdly : Nat) : Agree 70368744235521 s (State.hbTake s h toffs tdly) := by
  unfold State.hbTake
  repeat' (with_reducible first | assumption | apply Agree.refl | intro _ | (extract_lets +onlyGivenNames x; first | (refine (fun (_ : Agree 70368744235521 s x) => ?_ : Agree 70368744235521 s x → _) ?_; clear_value x) | (refine (fun (_ : Agree 70368744235521 s x.1) => ?_ : Agree 70368744235521 s x.1 → _) ?_; clear_value x) | clear_value x) | subst x | apply Agree.ite | apply Agree.then (k := State.put_ag _ _ _ _ _) | apply Agree.then (k := State.putBit_ag _ _ _ _) | apply Agree.then (k := State.reachTime_ag _ _) | apply Agree.then (k := State.pairFullCopy_ag _) | apply Agree.then (k := State.syncShow_ag _) | apply Agree.then (k := State.prefCheck_ag _ _) | apply Agree.then (k := State.pairAsk_ag _ _) | apply Agree.then (k := State.hbTime_ag _ _ _) | apply Agree.then (k := State.hbBeat_ag _ _) | decide | split)

theorem execPairHbFrame_ag (l : Fin 2) (crcOk : Bool) (seq : BitVec 16) (h : PairHb) (toffs : BitVec 32) (tdly : BitVec 16) (s : State) : ∀ t1, execPairHbFrame l crcOk seq h toffs tdly s = .next t1 → Agree 70368744235521 s t1 := by
  intro t1 h
  obtain rfl := Host.Outcome.next.inj h
  repeat' (with_reducible first | assumption | apply Agree.refl | intro _ | (extract_lets +onlyGivenNames x; first | (refine (fun (_ : Agree 70368744235521 s x) => ?_ : Agree 70368744235521 s x → _) ?_; clear_value x) | (refine (fun (_ : Agree 70368744235521 s x.1) => ?_ : Agree 70368744235521 s x.1 → _) ?_; clear_value x) | clear_value x) | subst x | apply Agree.ite | apply Agree.then (k := State.plinkTake_ag _ _ _ _) | apply Agree.then (k := State.hbTake_ag _ _ _ _) | decide | split)

theorem execPairHbPinToggle_ag (s : State) : ∀ t1, execPairHbPinToggle s = .next t1 → Agree 70368744177665 s t1 := by
  intro t1 h
  obtain rfl := Host.Outcome.next.inj h
  repeat' (with_reducible first | assumption | apply Agree.refl | intro _ | apply Agree.ite | apply Agree.then (k := State.pairMod_ag _ _) | apply Agree.then (k := State.pairBeat_ag _) | decide | split)

theorem State.lineTake_ag (s : State) (e : PairTl) : Agree 274877906945 s (State.lineTake s e) := by
  unfold State.lineTake
  repeat' (with_reducible first | assumption | apply Agree.refl | intro _ | (extract_lets +onlyGivenNames x; first | (refine (fun (_ : Agree 274877906945 s x) => ?_ : Agree 274877906945 s x → _) ?_; clear_value x) | (refine (fun (_ : Agree 274877906945 s x.1) => ?_ : Agree 274877906945 s x.1 → _) ?_; clear_value x) | clear_value x) | subst x | apply Agree.ite | apply Agree.then (k := State.put_ag _ _ _ _ _) | apply Agree.then (k := State.setLine_ag _ _ _) | apply Agree.then (k := State.setTl_ag _ _ _) | decide | split)

theorem State.tlTake_ag (s : State) (es : List PairTl) : Agree 309237776393 s (State.tlTake s es) := by
  unfold State.tlTake
  repeat' (with_reducible first | assumption | apply Agree.refl | intro _ | (extract_lets +onlyGivenNames x; first | (refine (fun (_ : Agree 309237776393 s x) => ?_ : Agree 309237776393 s x → _) ?_; clear_value x) | (refine (fun (_ : Agree 309237776393 s x.1) => ?_ : Agree 309237776393 s x.1 → _) ?_; clear_value x) | clear_value x) | subst x | apply Agree.ite | apply Agree.foldl | apply Agree.then (k := State.wr_ag _ _ _) | apply Agree.then (k := State.tlDrive_ag _) | apply Agree.then (k := State.lineTake_ag _ _) | decide | split)

theorem execPairTlFrame_ag (l : Fin 2) (crcOk : Bool) (seq : BitVec 16) (es : List PairTl) (s : State) : ∀ t1, execPairTlFrame l crcOk seq es s = .next t1 → Agree 70677981979145 s t1 := by
  intro t1 h
  obtain rfl := Host.Outcome.next.inj h
  repeat' (with_reducible first | assumption | apply Agree.refl | intro _ | (extract_lets +onlyGivenNames x; first | (refine (fun (_ : Agree 70677981979145 s x) => ?_ : Agree 70677981979145 s x → _) ?_; clear_value x) | (refine (fun (_ : Agree 70677981979145 s x.1) => ?_ : Agree 70677981979145 s x.1 → _) ?_; clear_value x) | clear_value x) | subst x | apply Agree.ite | apply Agree.then (k := State.plinkTake_ag _ _ _ _) | apply Agree.then (k := State.tlTake_ag _ _) | decide | split)

theorem execPairTlFrameTimeout_ag (s : State) : ∀ t1, execPairTlFrameTimeout s = .next t1 → Agree 326551888393 s t1 := by
  intro t1 h
  obtain rfl := Host.Outcome.next.inj h
  repeat' (with_reducible first | assumption | apply Agree.refl | intro _ | apply Agree.ite | apply Agree.then (k := State.tlStep_ag _) | decide | split)

theorem State.pairSent_ag (s : State) : Agree 70368744177664 s (State.pairSent s) := by
  unfold State.pairSent
  repeat' (with_reducible first | assumption | apply Agree.refl | intro _ | apply Agree.foldl | apply Agree.then (k := State.pairMod_ag _ _) | decide)

theorem State.tlSend_ag (s : State) : Agree 70368744177664 s (State.tlSend s) := by
  unfold State.tlSend
  repeat' (with_reducible first | assumption | apply Agree.refl | intro _ | (extract_lets +onlyGivenNames x; first | (refine (fun (_ : Agree 70368744177664 s x) => ?_ : Agree 70368744177664 s x → _) ?_; clear_value x) | (refine (fun (_ : Agree 70368744177664 s x.1) => ?_ : Agree 70368744177664 s x.1 → _) ?_; clear_value x) | clear_value x) | subst x | apply Agree.ite | apply Agree.then (k := State.pairMod_ag _ _) | apply Agree.then (k := State.pairSent_ag _) | decide | split)

theorem execPairTlFrameSend_ag (s : State) : ∀ t1, execPairTlFrameSend s = .next t1 → Agree 70368744177664 s t1 := by
  intro t1 h
  obtain rfl := Host.Outcome.next.inj h
  repeat' (with_reducible first | assumption | apply Agree.refl | intro _ | apply Agree.then (k := State.tlSend_ag _) | decide)

theorem State.stateSend_ag (s : State) : Agree 70368744177664 s (State.stateSend s) := by
  unfold State.stateSend
  repeat' (with_reducible first | assumption | apply Agree.refl | intro _ | (extract_lets +onlyGivenNames x; first | (refine (fun (_ : Agree 70368744177664 s x) => ?_ : Agree 70368744177664 s x → _) ?_; clear_value x) | (refine (fun (_ : Agree 70368744177664 s x.1) => ?_ : Agree 70368744177664 s x.1 → _) ?_; clear_value x) | clear_value x) | subst x | apply Agree.ite | apply Agree.foldl | apply Agree.then (k := State.pairMod_ag _ _) | apply Agree.then (k := State.pairFullCopy_ag _) | apply Agree.then (k := State.pairSent_ag _) | decide | split)

theorem State.stateTake_ag (s : State) (l : Nat) (crcOk : Bool) (seq : Nat) (f : PairState) : Agree 70368744202753 s (State.stateTake s l crcOk seq f) := by
  unfold State.stateTake
  repeat' (with_reducible first | assumption | apply Agree.refl | intro _ | (extract_lets +onlyGivenNames x; first | (refine (fun (_ : Agree 70368744202753 s x) => ?_ : Agree 70368744202753 s x → _) ?_; clear_value x) | (refine (fun (_ : Agree 70368744202753 s x.1) => ?_ : Agree 70368744202753 s x.1 → _) ?_; clear_value x) | clear_value x) | subst x | apply Agree.ite | apply Agree.iteP | apply Agree.then (k := State.pairMod_ag _ _) | apply Agree.then (k := State.plinkTake_ag _ _ _ _) | decide | split)

theorem execPairStateFrame_ag (l : Fin 2) (crcOk : Bool) (seq : BitVec 16) (f : PairState) (s : State) : ∀ t1, execPairStateFrame l crcOk seq f s = .next t1 → Agree 70368744202753 s t1 := by
  intro t1 h
  obtain rfl := Host.Outcome.next.inj h
  repeat' (with_reducible first | assumption | apply Agree.refl | intro _ | apply Agree.ite | apply Agree.then (k := State.stateTake_ag _ _ _ _ _) | decide | split)

theorem State.tmrTake_ag (s : State) (c n : Nat) (w : Word) : Agree 2147483649 s (State.tmrTake s c n w) := by
  unfold State.tmrTake
  repeat' (with_reducible first | assumption | apply Agree.refl | intro _ | (extract_lets +onlyGivenNames x; first | (refine (fun (_ : Agree 2147483649 s x) => ?_ : Agree 2147483649 s x → _) ?_; clear_value x) | (refine (fun (_ : Agree 2147483649 s x.1) => ?_ : Agree 2147483649 s x.1 → _) ?_; clear_value x) | clear_value x) | subst x | apply Agree.ite | apply Agree.then (k := State.wr_ag _ _ _) | apply Agree.then (k := State.elemMod_ag _ _ _) | decide | split)

theorem State.clApply_ag (s : State) (c : Nat) (b : Bytes) : Agree 2147483649 s (State.clApply s c b) := by
  unfold State.clApply
  repeat' (with_reducible first | assumption | apply Agree.refl | intro _ | (extract_lets +onlyGivenNames x; first | (refine (fun (_ : Agree 2147483649 s x) => ?_ : Agree 2147483649 s x → _) ?_; clear_value x) | (refine (fun (hf : ∀ t, Agree 2147483649 s t → Agree 2147483649 s (x t)) => ?_ : (∀ t, Agree 2147483649 s t → Agree 2147483649 s (x t)) → _) (fun _ _ => ?_); clear_value x) | (refine (fun (hg : ∀ a t, Agree 2147483649 s t → Agree 2147483649 s (x a t)) => ?_ : (∀ a t, Agree 2147483649 s t → Agree 2147483649 s (x a t)) → _) (fun _ _ _ => ?_); clear_value x) | (refine (fun (hk : ∀ a, Agree 2147483649 s (x a)) => ?_ : (∀ a, Agree 2147483649 s (x a)) → _) (fun _ => ?_); clear_value x) | (refine (fun (hp : ∀ t a b, Agree 2147483649 s t → Agree 2147483649 s (x t a b)) => ?_ : (∀ t a b, Agree 2147483649 s t → Agree 2147483649 s (x t a b)) → _) (fun _ _ _ _ => ?_); clear_value x) | (refine (fun (_ : Agree 2147483649 s x.1) => ?_ : Agree 2147483649 s x.1 → _) ?_; clear_value x) | clear_value x) | subst x | apply hf | apply hg | apply hp | apply hk | apply Agree.ite | apply Agree.foldl | apply Agree.iteP | apply Agree.foldlP | apply Agree.then (k := State.wr_ag _ _ _) | apply Agree.then (k := State.putBit_ag _ _ _ _) | apply Agree.then (k := State.wrMem_ag _ _ _ _) | apply Agree.then (k := State.elemMod_ag _ _ _) | apply Agree.then (k := State.tmrTake_ag _ _ _ _) | decide | split)

theorem State.setLast_ag (s : State) : Agree 70368744177664 s (State.setLast s) := by
  unfold State.setLast
  repeat' (with_reducible first | assumption | apply Agree.refl | intro _ | apply Agree.ite | apply Agree.then (k := State.pairMod_ag _ _) | decide | split)

theorem State.lathePart_ag (s : State) (p start : Nat) (b : Bytes) : Agree 70368744177664 s (State.lathePart s p start b) := by
  unfold State.lathePart
  repeat' (with_reducible first | assumption | apply Agree.refl | intro _ | (extract_lets +onlyGivenNames x; first | (refine (fun (_ : Agree 70368744177664 s x) => ?_ : Agree 70368744177664 s x → _) ?_; clear_value x) | (refine (fun (hf : ∀ t, Agree 70368744177664 s t → Agree 70368744177664 s (x t)) => ?_ : (∀ t, Agree 70368744177664 s t → Agree 70368744177664 s (x t)) → _) (fun _ _ => ?_); clear_value x) | (refine (fun (hg : ∀ a t, Agree 70368744177664 s t → Agree 70368744177664 s (x a t)) => ?_ : (∀ a t, Agree 70368744177664 s t → Agree 70368744177664 s (x a t)) → _) (fun _ _ _ => ?_); clear_value x) | (refine (fun (hk : ∀ a, Agree 70368744177664 s (x a)) => ?_ : (∀ a, Agree 70368744177664 s (x a)) → _) (fun _ => ?_); clear_value x) | (refine (fun (hp : ∀ t a b, Agree 70368744177664 s t → Agree 70368744177664 s (x t a b)) => ?_ : (∀ t a b, Agree 70368744177664 s t → Agree 70368744177664 s (x t a b)) → _) (fun _ _ _ _ => ?_); clear_value x) | (refine (fun (_ : Agree 70368744177664 s x.1) => ?_ : Agree 70368744177664 s x.1 → _) ?_; clear_value x) | clear_value x) | subst x | apply hf | apply hg | apply hp | apply hk | apply Agree.ite | apply Agree.whenI | apply Agree.foldl | apply Agree.optOr | apply Agree.optMap | apply Agree.then (k := State.pairMod_ag _ _) | apply Agree.then (k := State.setLast_ag _) | decide | split)

theorem State.stateLines_ag (s : State) (f : Bytes) : Agree 274877906945 s (State.stateLines s f) := by
  unfold State.stateLines
  repeat' (with_reducible first | assumption | apply Agree.refl | intro _ | (extract_lets +onlyGivenNames x; first | (refine (fun (_ : Agree 274877906945 s x) => ?_ : Agree 274877906945 s x → _) ?_; clear_value x) | (refine (fun (_ : Agree 274877906945 s x.1) => ?_ : Agree 274877906945 s x.1 → _) ?_; clear_value x) | clear_value x) | subst x | apply Agree.ite | apply Agree.foldl | apply Agree.then (k := State.lineTake_ag _ _) | decide | split)

theorem State.stateSlots_ag (s : State) (f : Bytes) : Agree 1 s (State.stateSlots s f) := by
  unfold State.stateSlots
  repeat' (with_reducible first | assumption | apply Agree.refl | intro _ | apply Agree.foldl | apply Agree.then (k := State.wr_ag _ _ _) | decide)

theorem clApplyAt_ag (s : State) (f : Bytes) (q : State × Nat × List Nat) (x : Nat) (hq : Agree 2147483649 s q.1) :
    Agree 2147483649 s (clApplyAt f q x).1 := by
  unfold clApplyAt
  exact Agree.iteP (fun _ => Agree.fstMk (hq.then (State.clApply_ag _ _ _) (by decide))) (fun _ => hq)

theorem State.stateClusters_ag (s : State) (f : PairState) : Agree 2147483649 s (State.stateClusters s f).1 :=
  Agree.foldlP (Agree.fstMk (Agree.mono (State.wr_ag _ _ _) (by decide))) (fun q x hq => clApplyAt_ag _ _ _ _ hq)

theorem State.statePages_ag (s : State) (f : Bytes) (at_ : Nat) : Agree 70403104047113 s (State.statePages s f at_) := by
  unfold State.statePages
  repeat' (with_reducible first | assumption | apply Agree.refl | intro _ | apply Agree.then (k := State.tlDrive_ag _) | apply Agree.then (k := State.lathePart_ag _ _ _ _) | decide)

theorem State.stateNo_ag (s : State) (n : Nat) : Agree 70368744177664 s (State.stateNo s n) := by
  unfold State.stateNo
  repeat' (with_reducible first | assumption | apply Agree.refl | intro _ | apply Agree.then (k := State.pairMod_ag _ _) | decide)

theorem pagesAfter_ag (s : State) (b : Bytes) (r : State × Nat × List Nat) (h : Agree 70403104047113 s r.1) : Agree 70403104047113 s (pagesAfter b r) := by
  unfold pagesAfter
  exact h.then (State.statePages_ag _ _ _) (by decide)

theorem State.stateApply_ag (s : State) (f : PairState) : Agree 70680129437705 s (State.stateApply s f) := by
  unfold State.stateApply
  have h0 := ((Agree.mono (State.stateNo_ag s (frameWord f.bytes 1).toNat) (by decide : _ ||| 70680129437705 = 70680129437705)).then
    (State.stateLines_ag _ f.bytes) (by decide)).then (State.stateSlots_ag _ f.bytes) (by decide)
  generalize (((s.stateNo (frameWord f.bytes 1).toNat).stateLines f.bytes).stateSlots f.bytes) = t at h0 ⊢
  have h := h0.then (State.stateClusters_ag t f) (by decide)
  generalize t.stateClusters f = r at h ⊢
  exact h.then (pagesAfter_ag _ _ _ (Agree.refl _ _)) (by decide)

theorem State.stateDiscard_ag (s : State) (reason idx len : Nat) : Agree 70368744202241 s (State.stateDiscard s reason idx len) := by
  unfold State.stateDiscard
  repeat' (with_reducible first | assumption | apply Agree.refl | intro _ | (extract_lets +onlyGivenNames x; first | (refine (fun (_ : Agree 70368744202241 s x) => ?_ : Agree 70368744202241 s x → _) ?_; clear_value x) | (refine (fun (_ : Agree 70368744202241 s x.1) => ?_ : Agree 70368744202241 s x.1 → _) ?_; clear_value x) | clear_value x) | subst x | apply Agree.then (k := State.putBit_ag _ _ _ _) | apply Agree.then (k := State.count_ag _ _ _ _ _) | apply Agree.then (k := State.pairMod_ag _ _) | apply Agree.then (k := State.log_ag _ _ _ _ _) | decide)

theorem State.stateJudge_ag (s : State) : Agree 70680129462793 s (State.stateJudge s) := by
  unfold State.stateJudge
  repeat' (with_reducible first | assumption | apply Agree.refl | intro _ | (extract_lets +onlyGivenNames x; first | (refine (fun (_ : Agree 70680129462793 s x) => ?_ : Agree 70680129462793 s x → _) ?_; clear_value x) | (refine (fun (hf : ∀ t, Agree 70680129462793 s t → Agree 70680129462793 s (x t)) => ?_ : (∀ t, Agree 70680129462793 s t → Agree 70680129462793 s (x t)) → _) (fun _ _ => ?_); clear_value x) | (refine (fun (hg : ∀ a t, Agree 70680129462793 s t → Agree 70680129462793 s (x a t)) => ?_ : (∀ a t, Agree 70680129462793 s t → Agree 70680129462793 s (x a t)) → _) (fun _ _ _ => ?_); clear_value x) | (refine (fun (hk : ∀ a, Agree 70680129462793 s (x a)) => ?_ : (∀ a, Agree 70680129462793 s (x a)) → _) (fun _ => ?_); clear_value x) | (refine (fun (hp : ∀ t a b, Agree 70680129462793 s t → Agree 70680129462793 s (x t a b)) => ?_ : (∀ t a b, Agree 70680129462793 s t → Agree 70680129462793 s (x t a b)) → _) (fun _ _ _ _ => ?_); clear_value x) | (refine (fun (_ : Agree 70680129462793 s x.1) => ?_ : Agree 70680129462793 s x.1 → _) ?_; clear_value x) | clear_value x) | subst x | apply hf | apply hg | apply hp | apply hk | apply Agree.ite | apply Agree.then (k := State.put_ag _ _ _ _ _) | apply Agree.then (k := State.count_ag _ _ _ _ _) | apply Agree.then (k := State.pairMod_ag _ _) | apply Agree.then (k := State.syncShow_ag _) | apply Agree.then (k := State.stateApply_ag _ _) | apply Agree.then (k := State.stateDiscard_ag _ _ _ _) | decide | split)

theorem State.pairRequest_ag (s : State) (req idx kind : Nat) : Agree 70368744177664 s (State.pairRequest s req idx kind) := by
  unfold State.pairRequest
  repeat' (with_reducible first | assumption | apply Agree.refl | intro _ | apply Agree.then (k := State.pairMod_ag _ _) | decide)

theorem State.deadlineAsk_ag (s : State) : Agree 70368744177664 s (State.deadlineAsk s) := by
  unfold State.deadlineAsk
  repeat' (with_reducible first | assumption | apply Agree.refl | intro _ | (extract_lets +onlyGivenNames x; first | (refine (fun (_ : Agree 70368744177664 s x) => ?_ : Agree 70368744177664 s x → _) ?_; clear_value x) | (refine (fun (_ : Agree 70368744177664 s x.1) => ?_ : Agree 70368744177664 s x.1 → _) ?_; clear_value x) | clear_value x) | subst x | apply Agree.ite | apply Agree.whenI | apply Agree.then (k := State.pairMod_ag _ _) | apply Agree.then (k := State.pairRequest_ag _ _ _ _) | decide | split)

theorem State.pairDeadline_ag (s : State) : Agree 70680129462793 s (State.pairDeadline s) := by
  unfold State.pairDeadline
  repeat' (with_reducible first | assumption | apply Agree.refl | intro _ | (extract_lets +onlyGivenNames x; first | (refine (fun (_ : Agree 70680129462793 s x) => ?_ : Agree 70680129462793 s x → _) ?_; clear_value x) | (refine (fun (_ : Agree 70680129462793 s x.1) => ?_ : Agree 70680129462793 s x.1 → _) ?_; clear_value x) | clear_value x) | subst x | apply Agree.ite | apply Agree.then (k := State.pairMod_ag _ _) | apply Agree.then (k := State.pairSent_ag _) | apply Agree.then (k := State.stateSend_ag _) | apply Agree.then (k := State.stateJudge_ag _) | apply Agree.then (k := State.deadlineAsk_ag _) | decide | split)

theorem State.roleDrive_ag (s : State) (want : Bool) : Agree 34359869449 s (State.roleDrive s want) := by
  unfold State.roleDrive
  repeat' (with_reducible first | assumption | apply Agree.refl | intro _ | (extract_lets +onlyGivenNames x; first | (refine (fun (_ : Agree 34359869449 s x) => ?_ : Agree 34359869449 s x → _) ?_; clear_value x) | (refine (fun (_ : Agree 34359869449 s x.1) => ?_ : Agree 34359869449 s x.1 → _) ?_; clear_value x) | clear_value x) | subst x | apply Agree.then (k := State.putBit_ag _ _ _ _) | apply Agree.then (k := State.fioRole_ag _) | apply Agree.then (k := State.tlDrive_ag _) | decide)

theorem State.roleChange_ag (s : State) (r cause : Nat) (later : Bool) : Agree 70403104072201 s (State.roleChange s r cause later) := by
  unfold State.roleChange
  repeat' (with_reducible first | assumption | apply Agree.refl | intro _ | (extract_lets +onlyGivenNames x; first | (refine (fun (_ : Agree 70403104072201 s x) => ?_ : Agree 70403104072201 s x → _) ?_; clear_value x) | (refine (fun (_ : Agree 70403104072201 s x.1) => ?_ : Agree 70403104072201 s x.1 → _) ?_; clear_value x) | clear_value x) | subst x | apply Agree.ite | apply Agree.then (k := State.wr_ag _ _ _) | apply Agree.then (k := State.put_ag _ _ _ _ _) | apply Agree.then (k := State.putBit_ag _ _ _ _) | apply Agree.then (k := State.pairMod_ag _ _) | apply Agree.then (k := State.canRole_ag _) | apply Agree.then (k := State.gooseTakeover_ag _) | apply Agree.then (k := State.pairLog_ag _ _ _ _ _) | apply Agree.then (k := State.syncShow_ag _) | apply Agree.then (k := State.roleDrive_ag _ _) | decide | split)

theorem execHandoverAssert_ag (s : State) : ∀ t1, execHandoverAssert s = .next t1 → Agree 70403104047113 s t1 := by
  intro t1 h
  obtain rfl := Host.Outcome.next.inj h
  repeat' (with_reducible first | assumption | apply Agree.refl | intro _ | apply Agree.ite | apply Agree.then (k := State.pairMod_ag _ _) | apply Agree.then (k := State.roleDrive_ag _ _) | decide | split)

theorem State.roleFault_ag (s : State) (lost against : Bool) : Agree 25089 s (State.roleFault s lost against) := by
  unfold State.roleFault
  repeat' (with_reducible first | assumption | apply Agree.refl | intro _ | (extract_lets +onlyGivenNames x; first | (refine (fun (_ : Agree 25089 s x) => ?_ : Agree 25089 s x → _) ?_; clear_value x) | (refine (fun (_ : Agree 25089 s x.1) => ?_ : Agree 25089 s x.1 → _) ?_; clear_value x) | clear_value x) | subst x | apply Agree.ite | apply Agree.then (k := State.putBit_ag _ _ _ _) | apply Agree.then (k := State.pairLog_ag _ _ _ _ _) | decide | split)

theorem State.handLapse_ag (s : State) : Agree 70368744202753 s (State.handLapse s) := by
  unfold State.handLapse
  repeat' (with_reducible first | assumption | apply Agree.refl | intro _ | apply Agree.ite | apply Agree.then (k := State.pairMod_ag _ _) | apply Agree.then (k := State.pairCmdErr_ag _ _ _) | decide | split)

theorem State.handDrop_ag (s : State) : Agree 70368744202753 s (State.handDrop s) := by
  unfold State.handDrop
  repeat' (with_reducible first | assumption | apply Agree.refl | intro _ | apply Agree.ite | apply Agree.then (k := State.pairMod_ag _ _) | apply Agree.then (k := State.pairCmdErr_ag _ _ _) | apply Agree.then (k := State.handShow_ag _) | decide | split)

theorem State.handDone_ag (s : State) : Agree 70368744177665 s (State.handDone s) := by
  unfold State.handDone
  repeat' (with_reducible first | assumption | apply Agree.refl | intro _ | apply Agree.then (k := State.pairMod_ag _ _) | apply Agree.then (k := State.handShow_ag _) | decide)

theorem State.decideSapwood_ag (s : State) (beat first : Bool) : Agree 70403104072201 s (State.decideSapwood s beat first) := by
  unfold State.decideSapwood
  repeat' (with_reducible first | assumption | apply Agree.refl | intro _ | (extract_lets +onlyGivenNames x; first | (refine (fun (_ : Agree 70403104072201 s x) => ?_ : Agree 70403104072201 s x → _) ?_; clear_value x) | (refine (fun (_ : Agree 70403104072201 s x.1) => ?_ : Agree 70403104072201 s x.1 → _) ?_; clear_value x) | clear_value x) | subst x | apply Agree.ite | apply Agree.then (k := State.putBit_ag _ _ _ _) | apply Agree.then (k := State.pairMod_ag _ _) | apply Agree.then (k := State.roleChange_ag _ _ _ _) | apply Agree.then (k := State.handDone_ag _) | decide | split)

theorem State.decideIsolated_ag (s : State) : Agree 70403104072201 s (State.decideIsolated s) := by
  unfold State.decideIsolated
  repeat' (with_reducible first | assumption | apply Agree.refl | intro _ | apply Agree.ite | apply Agree.then (k := State.roleChange_ag _ _ _ _) | decide | split)

theorem State.decideHeartwood_ag (s : State) : Agree 70403104072201 s (State.decideHeartwood s) := by
  unfold State.decideHeartwood
  repeat' (with_reducible first | assumption | apply Agree.refl | intro _ | (extract_lets +onlyGivenNames x; first | (refine (fun (_ : Agree 70403104072201 s x) => ?_ : Agree 70403104072201 s x → _) ?_; clear_value x) | (refine (fun (_ : Agree 70403104072201 s x.1) => ?_ : Agree 70403104072201 s x.1 → _) ?_; clear_value x) | clear_value x) | subst x | apply Agree.ite | apply Agree.then (k := State.roleDrive_ag _ _) | apply Agree.then (k := State.roleChange_ag _ _ _ _) | apply Agree.then (k := State.handDone_ag _) | decide | split)

theorem State.pairDecide_ag (s : State) (roleIn : Bool) : Agree 70403104072201 s (State.pairDecide s roleIn) := by
  unfold State.pairDecide
  repeat' (with_reducible first | assumption | apply Agree.refl | intro _ | (extract_lets +onlyGivenNames x; first | (refine (fun (_ : Agree 70403104072201 s x) => ?_ : Agree 70403104072201 s x → _) ?_; clear_value x) | (refine (fun (_ : Agree 70403104072201 s x.1) => ?_ : Agree 70403104072201 s x.1 → _) ?_; clear_value x) | clear_value x) | subst x | apply Agree.ite | apply Agree.then (k := State.putBit_ag _ _ _ _) | apply Agree.then (k := State.pairMod_ag _ _) | apply Agree.then (k := State.pairLost_ag _) | apply Agree.then (k := State.roleChange_ag _ _ _ _) | apply Agree.then (k := State.roleFault_ag _ _ _) | apply Agree.then (k := State.handLapse_ag _) | apply Agree.then (k := State.handDrop_ag _) | apply Agree.then (k := State.decideSapwood_ag _ _ _) | apply Agree.then (k := State.decideIsolated_ag _) | apply Agree.then (k := State.decideHeartwood_ag _) | decide | split)

theorem execPairDecisionPoint_ag (roleIn : Bool) (s : State) : ∀ t1, execPairDecisionPoint roleIn s = .next t1 → Agree 70403104072201 s t1 := by
  intro t1 h
  obtain rfl := Host.Outcome.next.inj h
  repeat' (with_reducible first | assumption | apply Agree.refl | intro _ | apply Agree.then (k := State.pairDecide_ag _ _) | decide)

theorem State.startWait_ag (s : State) (roleIn : Bool) : Agree 70403104104969 s (State.startWait s roleIn) := by
  unfold State.startWait
  repeat' (with_reducible first | assumption | apply Agree.refl | intro _ | apply Agree.then (k := State.reachCnt_ag _ _) | apply Agree.then (k := State.pairDecide_ag _ _) | decide | split)

theorem execStartWaitExpiry_ag (roleIn : Bool) (s : State) : ∀ t1, execStartWaitExpiry roleIn s = .next t1 → Agree 70403104104969 s t1 := by
  intro t1 h
  obtain rfl := Host.Outcome.next.inj h
  repeat' (with_reducible first | assumption | apply Agree.refl | intro _ | apply Agree.then (k := State.startWait_ag _ _) | decide)

theorem execPairRoleInFall_ag (s : State) : ∀ t1, execPairRoleInFall s = .next t1 → Agree 70368744178177 s t1 := by
  intro t1 h
  obtain rfl := Host.Outcome.next.inj h
  repeat' (with_reducible first | assumption | apply Agree.refl | intro _ | apply Agree.ite | apply Agree.then (k := State.putBit_ag _ _ _ _) | apply Agree.then (k := State.pairMod_ag _ _) | apply Agree.then (k := State.irq_ag _ _) | decide | split)

theorem State.roleOutFall_ag (s : State) : Agree 70403104047113 s (State.roleOutFall s) := by
  unfold State.roleOutFall
  repeat' (with_reducible first | assumption | apply Agree.refl | intro _ | apply Agree.ite | apply Agree.then (k := State.pairMod_ag _ _) | apply Agree.then (k := State.roleDrive_ag _ _) | decide | split)

theorem execMissedOwnDeadline_ag (s : State) : ∀ t1, execMissedOwnDeadline s = .next t1 → Agree 70403104047113 s t1 := by
  intro t1 h
  obtain rfl := Host.Outcome.next.inj h
  repeat' (with_reducible first | assumption | apply Agree.refl | intro _ | apply Agree.then (k := State.roleOutFall_ag _) | decide)

theorem State.pairSwap_ag (s : State) (op kind : Nat) (v : Word) : Agree 70368744202753 s (State.pairSwap s op kind v) := by
  unfold State.pairSwap
  repeat' (with_reducible first | assumption | apply Agree.refl | intro _ | (extract_lets +onlyGivenNames x; first | (refine (fun (_ : Agree 70368744202753 s x) => ?_ : Agree 70368744202753 s x → _) ?_; clear_value x) | (refine (fun (_ : Agree 70368744202753 s x.1) => ?_ : Agree 70368744202753 s x.1 → _) ?_; clear_value x) | clear_value x) | subst x | apply Agree.ite | apply Agree.then (k := State.pairMod_ag _ _) | apply Agree.then (k := State.pairCmdErr_ag _ _ _) | apply Agree.then (k := State.pairRequest_ag _ _ _ _) | decide | split)

theorem execPairCmdSwapDrill_ag (v : Word) (s : State) : ∀ t1, execPairCmdSwapDrill v s = .next t1 → Agree 70368744202753 s t1 := by
  intro t1 h
  obtain rfl := Host.Outcome.next.inj h
  repeat' (with_reducible first | assumption | apply Agree.refl | intro _ | apply Agree.then (k := State.pairSwap_ag _ _ _ _) | decide)

theorem execPairCmdRelease_ag (v : Word) (s : State) : ∀ t1, execPairCmdRelease v s = .next t1 → Agree 70368744202753 s t1 := by
  intro t1 h
  obtain rfl := Host.Outcome.next.inj h
  repeat' (with_reducible first | assumption | apply Agree.refl | intro _ | apply Agree.then (k := State.pairSwap_ag _ _ _ _) | decide)

theorem State.pairResync_ag (s : State) : Agree 70368744202753 s (State.pairResync s) := by
  unfold State.pairResync
  repeat' (with_reducible first | assumption | apply Agree.refl | intro _ | apply Agree.ite | apply Agree.then (k := State.pairCmdErr_ag _ _ _) | apply Agree.then (k := State.pairFullCopy_ag _) | decide | split)

theorem execPairCmdResync_ag (s : State) : ∀ t1, execPairCmdResync s = .next t1 → Agree 70368744202753 s t1 := by
  intro t1 h
  obtain rfl := Host.Outcome.next.inj h
  repeat' (with_reducible first | assumption | apply Agree.refl | intro _ | apply Agree.then (k := State.pairResync_ag _) | decide)

theorem State.drillEnd_ag (s : State) (fieldOk : Bool) (fail : Option (Fin 48)) : Agree 70437463679489 s (State.drillEnd s fieldOk fail) := by
  unfold State.drillEnd
  repeat' (with_reducible first | assumption | apply Agree.refl | intro _ | (extract_lets +onlyGivenNames x; first | (refine (fun (_ : Agree 70437463679489 s x) => ?_ : Agree 70437463679489 s x → _) ?_; clear_value x) | (refine (fun (_ : Agree 70437463679489 s x.1) => ?_ : Agree 70437463679489 s x.1 → _) ?_; clear_value x) | clear_value x) | subst x | apply Agree.ite | apply Agree.then (k := State.wr_ag _ _ _) | apply Agree.then (k := State.putBit_ag _ _ _ _) | apply Agree.then (k := State.pairMod_ag _ _) | apply Agree.then (k := State.fieldOk_ag _ _) | apply Agree.then (k := State.pairLog_ag _ _ _ _ _) | decide | split)

theorem execDrillCheckEnd_ag (fieldOk : Bool) (fail : Option (Fin 48)) (s : State) : ∀ t1, execDrillCheckEnd fieldOk fail s = .next t1 → Agree 70437463679489 s t1 := by
  intro t1 h
  obtain rfl := Host.Outcome.next.inj h
  repeat' (with_reducible first | assumption | apply Agree.refl | intro _ | apply Agree.then (k := State.fieldOk_ag _ _) | apply Agree.then (k := State.drillEnd_ag _ _ _) | decide)

theorem State.drillDue_ag (s : State) : Agree 33281 s (State.drillDue s) := by
  unfold State.drillDue
  repeat' (with_reducible first | assumption | apply Agree.refl | intro _ | (extract_lets +onlyGivenNames x; first | (refine (fun (_ : Agree 33281 s x) => ?_ : Agree 33281 s x → _) ?_; clear_value x) | (refine (fun (_ : Agree 33281 s x.1) => ?_ : Agree 33281 s x.1 → _) ?_; clear_value x) | clear_value x) | subst x | apply Agree.ite | apply Agree.then (k := State.putBit_ag _ _ _ _) | apply Agree.then (k := State.irq_ag _ _) | apply Agree.then (k := State.pass_ag _ _) | decide | split)

theorem execDrillDue_ag (s : State) : ∀ t1, execDrillDue s = .next t1 → Agree 33281 s t1 := by
  intro t1 h
  obtain rfl := Host.Outcome.next.inj h
  repeat' (with_reducible first | assumption | apply Agree.refl | intro _ | apply Agree.then (k := State.drillDue_ag _) | decide)

theorem State.prefDwell_ag (s : State) : Agree 70368744210433 s (State.prefDwell s) := by
  unfold State.prefDwell
  repeat' (with_reducible first | assumption | apply Agree.refl | intro _ | (extract_lets +onlyGivenNames x; first | (refine (fun (_ : Agree 70368744210433 s x) => ?_ : Agree 70368744210433 s x → _) ?_; clear_value x) | (refine (fun (_ : Agree 70368744210433 s x.1) => ?_ : Agree 70368744210433 s x.1 → _) ?_; clear_value x) | clear_value x) | subst x | apply Agree.ite | apply Agree.then (k := State.pairMod_ag _ _) | apply Agree.then (k := State.reachCnt_ag _ _) | apply Agree.then (k := State.pairRequest_ag _ _ _ _) | decide | split)

theorem execPrefDwellExpiry_ag (s : State) : ∀ t1, execPrefDwellExpiry s = .next t1 → Agree 70368744210433 s t1 := by
  intro t1 h
  obtain rfl := Host.Outcome.next.inj h
  repeat' (with_reducible first | assumption | apply Agree.refl | intro _ | apply Agree.then (k := State.prefDwell_ag _) | decide)

theorem State.pairCfgWrite_ag (s : State) (v : Word) : Agree 1 s (State.pairCfgWrite s v) := by
  unfold State.pairCfgWrite
  repeat' (with_reducible first | assumption | apply Agree.refl | intro _ | (extract_lets +onlyGivenNames x; first | (refine (fun (_ : Agree 1 s x) => ?_ : Agree 1 s x → _) ?_; clear_value x) | (refine (fun (_ : Agree 1 s x.1) => ?_ : Agree 1 s x.1 → _) ?_; clear_value x) | clear_value x) | subst x | apply Agree.ite | apply Agree.then (k := State.wr_ag _ _ _) | apply Agree.then (k := State.putBit_ag _ _ _ _) | apply Agree.then (k := State.canRole_ag _) | apply Agree.then (k := State.fioRole_ag _) | decide | split)

theorem execPairCfgWrite_ag (v : Word) (s : State) : ∀ t1, execPairCfgWrite v s = .next t1 → Agree 1 s t1 := by
  intro t1 h
  obtain rfl := Host.Outcome.next.inj h
  repeat' (with_reducible first | assumption | apply Agree.refl | intro _ | apply Agree.then (k := State.pairCfgWrite_ag _ _) | decide)

end Sys2Proof.Machine
end

