-- ==== Sys2Proof/Laws/Frame/Tally.lean ====
section
/-!
SUPPORT. Frames of the operations of Machine/Tally.lean: the fields each can change, as a mask.
-/
set_option linter.unusedTactic false
set_option linter.unreachableTactic false
namespace Sys2Proof.Machine
open Sys2Proof

theorem State.setTallyState_ag (s : State) (v : Nat) : Agree 1 s (State.setTallyState s v) := by
  unfold State.setTallyState
  repeat' (with_reducible first | assumption | apply Agree.refl | intro _ | apply Agree.then (k := State.put_ag _ _ _ _ _) | decide)

theorem State.takeSeq_ag (s : State) : Agree 1 s (State.takeSeq s) := by
  unfold State.takeSeq
  repeat' (with_reducible first | assumption | apply Agree.refl | intro _ | apply Agree.then (k := State.wr_ag _ _ _) | decide)

theorem State.badSlot_ag (s : State) (i : Nat) : Agree 8193 s (State.badSlot s i) := by
  unfold State.badSlot
  repeat' (with_reducible first | assumption | apply Agree.refl | intro _ | (extract_lets +onlyGivenNames x; first | (refine (fun (_ : Agree 8193 s x) => ?_ : Agree 8193 s x → _) ?_; clear_value x) | (refine (fun (_ : Agree 8193 s x.1) => ?_ : Agree 8193 s x.1 → _) ?_; clear_value x) | clear_value x) | subst x | apply Agree.ite | apply Agree.then (k := State.put_ag _ _ _ _ _) | apply Agree.then (k := State.count_ag _ _ _ _ _) | apply Agree.then (k := State.talMod_ag _ _) | decide | split)

theorem State.intoSlot_ag (s : State) (i : Nat) (r : TRec) : Agree 3 s (State.intoSlot s i r) := by
  unfold State.intoSlot
  repeat' (with_reducible first | assumption | apply Agree.refl | intro _ | apply Agree.then (k := State.mwr_ag _ _ _) | apply Agree.then (k := State.takeSeq_ag _) | decide)

theorem State.failSlot_ag (s : State) (i : Nat) : Agree 8195 s (State.failSlot s i) := by
  unfold State.failSlot
  repeat' (with_reducible first | assumption | apply Agree.refl | intro _ | apply Agree.then (k := State.count_ag _ _ _ _ _) | apply Agree.then (k := State.mwrW_ag _ _ _) | apply Agree.then (k := State.badSlot_ag _ _) | decide)

theorem State.lastResort_ag (s : State) (r : TRec) : Agree 1 s (State.lastResort s r) := by
  unfold State.lastResort
  repeat' (with_reducible first | assumption | apply Agree.refl | intro _ | (extract_lets +onlyGivenNames x; first | (refine (fun (_ : Agree 1 s x) => ?_ : Agree 1 s x → _) ?_; clear_value x) | (refine (fun (_ : Agree 1 s x.1) => ?_ : Agree 1 s x.1 → _) ?_; clear_value x) | clear_value x) | subst x | apply Agree.ite | apply Agree.foldl | apply Agree.then (k := State.wr_ag _ _ _) | apply Agree.then (k := State.put_ag _ _ _ _ _) | apply Agree.then (k := State.putBit_ag _ _ _ _) | apply Agree.then (k := State.count_ag _ _ _ _ _) | apply Agree.then (k := State.takeSeq_ag _) | decide | split)

theorem State.pushOwn_ag (s : State) (l : List TRec) : Agree 8705 s (State.pushOwn s l) := by
  unfold State.pushOwn
  repeat' (with_reducible first | assumption | apply Agree.refl | intro _ | apply Agree.foldl | apply Agree.then (k := State.talMod_ag _ _) | apply Agree.then (k := State.irq_ag _ _) | decide)

theorem State.popRec_ag (s : State) : Agree 8192 s (State.popRec s) := by
  unfold State.popRec
  repeat' (with_reducible first | assumption | apply Agree.refl | intro _ | apply Agree.then (k := State.talMod_ag _ _) | decide | split)

theorem State.pushDropped_ag (s : State) : Agree 8705 s (State.pushDropped s) := by
  unfold State.pushDropped
  repeat' (with_reducible first | assumption | apply Agree.refl | intro _ | (extract_lets +onlyGivenNames x; first | (refine (fun (_ : Agree 8705 s x) => ?_ : Agree 8705 s x → _) ?_; clear_value x) | (refine (fun (_ : Agree 8705 s x.1) => ?_ : Agree 8705 s x.1 → _) ?_; clear_value x) | clear_value x) | subst x | apply Agree.ite | apply Agree.then (k := State.wr_ag _ _ _) | apply Agree.then (k := State.pushOwn_ag _ _) | decide | split)

theorem State.mediaStop_ag (s : State) (i : Nat) (f : TRec) : Agree 8707 s (State.mediaStop s i f) := by
  unfold State.mediaStop
  repeat' (with_reducible first | assumption | apply Agree.refl | intro _ | apply Agree.then (k := State.irq_ag _ _) | apply Agree.then (k := State.setTallyState_ag _ _) | apply Agree.then (k := State.intoSlot_ag _ _ _) | apply Agree.then (k := State.failSlot_ag _ _) | apply Agree.then (k := State.lastResort_ag _ _) | decide)

theorem State.writeLogFull_ag (s : State) (verify : Bool) : Agree 8707 s (State.writeLogFull s verify) := by
  unfold State.writeLogFull
  repeat' (with_reducible first | assumption | apply Agree.refl | intro _ | (extract_lets +onlyGivenNames x; first | (refine (fun (_ : Agree 8707 s x) => ?_ : Agree 8707 s x → _) ?_; clear_value x) | (refine (fun (_ : Agree 8707 s x.1) => ?_ : Agree 8707 s x.1 → _) ?_; clear_value x) | clear_value x) | subst x | apply Agree.ite | apply Agree.then (k := State.put_ag _ _ _ _ _) | apply Agree.then (k := State.irq_ag _ _) | apply Agree.then (k := State.setTallyState_ag _ _) | apply Agree.then (k := State.intoSlot_ag _ _ _) | apply Agree.then (k := State.mediaStop_ag _ _ _) | decide | split)

theorem State.writeSlot_ag (s : State) (i : Nat) (r : TRec) (verify verifyFault : Bool) : Agree 8707 s (State.writeSlot s i r verify verifyFault) := by
  unfold State.writeSlot
  repeat' (with_reducible first | assumption | apply Agree.refl | intro _ | (extract_lets +onlyGivenNames x; first | (refine (fun (_ : Agree 8707 s x) => ?_ : Agree 8707 s x → _) ?_; clear_value x) | (refine (fun (_ : Agree 8707 s x.1) => ?_ : Agree 8707 s x.1 → _) ?_; clear_value x) | clear_value x) | subst x | apply Agree.ite | apply Agree.then (k := State.put_ag _ _ _ _ _) | apply Agree.then (k := State.talMod_ag _ _) | apply Agree.then (k := State.irq_ag _ _) | apply Agree.then (k := State.intoSlot_ag _ _ _) | apply Agree.then (k := State.failSlot_ag _ _) | apply Agree.then (k := State.popRec_ag _) | apply Agree.then (k := State.mediaStop_ag _ _ _) | decide | split)

theorem State.eraseSlots_ag (s : State) (a b : Nat) : Agree 2 s (State.eraseSlots s a b) := by
  unfold State.eraseSlots
  repeat' (with_reducible first | assumption | apply Agree.refl | intro _ | apply Agree.foldl | apply Agree.then (k := State.mwr_ag _ _ _) | decide)

theorem State.frontMove_ag (s : State) : Agree 562949953429506 s (State.frontMove s) := by
  unfold State.frontMove
  repeat' (with_reducible first | assumption | apply Agree.refl | intro _ | (extract_lets +onlyGivenNames x; first | (refine (fun (_ : Agree 562949953429506 s x) => ?_ : Agree 562949953429506 s x → _) ?_; clear_value x) | (refine (fun (_ : Agree 562949953429506 s x.1) => ?_ : Agree 562949953429506 s x.1 → _) ?_; clear_value x) | clear_value x) | subst x | apply Agree.then (k := State.talMod_ag _ _) | apply Agree.then (k := State.drew_ag _) | apply Agree.then (k := State.eraseSlots_ag _ _ _) | decide | split)

theorem State.slotWrite_ag (s : State) (verify verifyFault : Bool) : Agree 562949953430019 s (State.slotWrite s verify verifyFault) := by
  unfold State.slotWrite
  repeat' (with_reducible first | assumption | apply Agree.refl | intro _ | (extract_lets +onlyGivenNames x; first | (refine (fun (_ : Agree 562949953430019 s x) => ?_ : Agree 562949953430019 s x → _) ?_; clear_value x) | (refine (fun (_ : Agree 562949953430019 s x.1) => ?_ : Agree 562949953430019 s x.1 → _) ?_; clear_value x) | clear_value x) | subst x | apply Agree.ite | apply Agree.then (k := State.count_ag _ _ _ _ _) | apply Agree.then (k := State.lastResort_ag _ _) | apply Agree.then (k := State.popRec_ag _) | apply Agree.then (k := State.writeLogFull_ag _ _) | apply Agree.then (k := State.writeSlot_ag _ _ _ _ _) | apply Agree.then (k := State.frontMove_ag _) | decide | split)

theorem State.logLast_ag (s : State) (code sparam p0 p1 : Nat) : Agree 24577 s (State.logLast s code sparam p0 p1) := by
  unfold State.logLast
  repeat' (with_reducible first | assumption | apply Agree.refl | intro _ | (extract_lets +onlyGivenNames x; first | (refine (fun (_ : Agree 24577 s x) => ?_ : Agree 24577 s x → _) ?_; clear_value x) | (refine (fun (hf : ∀ t, Agree 24577 s t → Agree 24577 s (x t)) => ?_ : (∀ t, Agree 24577 s t → Agree 24577 s (x t)) → _) (fun _ _ => ?_); clear_value x) | (refine (fun (hg : ∀ a t, Agree 24577 s t → Agree 24577 s (x a t)) => ?_ : (∀ a t, Agree 24577 s t → Agree 24577 s (x a t)) → _) (fun _ _ _ => ?_); clear_value x) | (refine (fun (hk : ∀ a, Agree 24577 s (x a)) => ?_ : (∀ a, Agree 24577 s (x a)) → _) (fun _ => ?_); clear_value x) | (refine (fun (hp : ∀ t a b, Agree 24577 s t → Agree 24577 s (x t a b)) => ?_ : (∀ t a b, Agree 24577 s t → Agree 24577 s (x t a b)) → _) (fun _ _ _ _ => ?_); clear_value x) | (refine (fun (_ : Agree 24577 s x.1) => ?_ : Agree 24577 s x.1 → _) ?_; clear_value x) | clear_value x) | subst x | apply hf | apply hg | apply hp | apply hk | apply Agree.ite | apply Agree.then (k := State.talMod_ag _ _) | apply Agree.then (k := State.suppress_ag _ _ _) | apply Agree.then (k := State.takeToken_ag _ _) | decide | split)

theorem execTallyRaise_ag (code : BitVec 12) (sparam : Byte) (p0 p1 : Word) (s : State) : ∀ t1, execTallyRaise code sparam p0 p1 s = .next t1 → Agree 24577 s t1 := by
  intro t1 h
  obtain rfl := Host.Outcome.next.inj h
  repeat' (with_reducible first | assumption | apply Agree.refl | intro _ | apply Agree.then (k := State.log_ag _ _ _ _ _) | decide)

theorem execTallySlotWrite_ag (verify verifyFault : Bool) (s : State) : ∀ t1, execTallySlotWrite verify verifyFault s = .next t1 → Agree 562949953430019 s t1 := by
  intro t1 h
  obtain rfl := Host.Outcome.next.inj h
  repeat' (with_reducible first | assumption | apply Agree.refl | intro _ | apply Agree.then (k := State.slotWrite_ag _ _ _) | decide)

theorem State.summary_ag (s : State) (b : Nat) : Agree 8705 s (State.summary s b) := by
  unfold State.summary
  repeat' (with_reducible first | assumption | apply Agree.refl | intro _ | (extract_lets +onlyGivenNames x; first | (refine (fun (_ : Agree 8705 s x) => ?_ : Agree 8705 s x → _) ?_; clear_value x) | (refine (fun (_ : Agree 8705 s x.1) => ?_ : Agree 8705 s x.1 → _) ?_; clear_value x) | clear_value x) | subst x | apply Agree.ite | apply Agree.then (k := State.wr_ag _ _ _) | apply Agree.then (k := State.irq_ag _ _) | apply Agree.then (k := State.enqueue_ag _ _) | decide | split)

theorem State.tokenGain_ag (s : State) (b : Nat) : Agree 57857 s (State.tokenGain s b) := by
  unfold State.tokenGain
  repeat' (with_reducible first | assumption | apply Agree.refl | intro _ | (extract_lets +onlyGivenNames x; first | (refine (fun (_ : Agree 57857 s x) => ?_ : Agree 57857 s x → _) ?_; clear_value x) | (refine (fun (_ : Agree 57857 s x.1) => ?_ : Agree 57857 s x.1 → _) ?_; clear_value x) | clear_value x) | subst x | apply Agree.ite | apply Agree.then (k := State.put_ag _ _ _ _ _) | apply Agree.then (k := State.setBucket_ag _ _ _) | apply Agree.then (k := State.reachCnt_ag _ _) | apply Agree.then (k := State.summary_ag _ _) | decide | split)

theorem execBucketTokenGain_ag (b : Fin 256) (s : State) : ∀ t1, execBucketTokenGain b s = .next t1 → Agree 57857 s t1 := by
  intro t1 h
  obtain rfl := Host.Outcome.next.inj h
  repeat' (with_reducible first | assumption | apply Agree.refl | intro _ | apply Agree.then (k := State.tokenGain_ag _ _) | decide)

theorem State.bucketWrite_ag (s : State) (b : Nat) (cfg : Bool) (v : Word) : Agree 25089 s (State.bucketWrite s b cfg v) := by
  unfold State.bucketWrite
  repeat' (with_reducible first | assumption | apply Agree.refl | intro _ | (extract_lets +onlyGivenNames x; first | (refine (fun (_ : Agree 25089 s x) => ?_ : Agree 25089 s x → _) ?_; clear_value x) | (refine (fun (_ : Agree 25089 s x.1) => ?_ : Agree 25089 s x.1 → _) ?_; clear_value x) | clear_value x) | subst x | apply Agree.ite | apply Agree.then (k := State.wr_ag _ _ _) | apply Agree.then (k := State.put_ag _ _ _ _ _) | apply Agree.then (k := State.putBit_ag _ _ _ _) | apply Agree.then (k := State.setBucket_ag _ _ _) | apply Agree.then (k := State.irq_ag _ _) | apply Agree.then (k := State.summary_ag _ _) | decide | split)

theorem execTallyBucketWrite_ag (b : Fin 256) (cfg : Bool) (v : Word) (s : State) : ∀ t1, execTallyBucketWrite b cfg v s = .next t1 → Agree 25089 s t1 := by
  intro t1 h
  obtain rfl := Host.Outcome.next.inj h
  repeat' (with_reducible first | assumption | apply Agree.refl | intro _ | apply Agree.then (k := State.bucketWrite_ag _ _ _ _) | decide)

theorem State.postErr_ag (s : State) : Agree 513 s (State.postErr s) := by
  unfold State.postErr
  repeat' (with_reducible first | assumption | apply Agree.refl | intro _ | apply Agree.then (k := State.putBit_ag _ _ _ _) | apply Agree.then (k := State.irq_ag _ _) | decide)

theorem State.post_ag (s : State) (r : Req) (port : Nat) : Agree 25089 s (State.post s r port) := by
  unfold State.post
  repeat' (with_reducible first | assumption | apply Agree.refl | intro _ | (extract_lets +onlyGivenNames x; first | (refine (fun (_ : Agree 25089 s x) => ?_ : Agree 25089 s x → _) ?_; clear_value x) | (refine (fun (_ : Agree 25089 s x.1) => ?_ : Agree 25089 s x.1 → _) ?_; clear_value x) | clear_value x) | subst x | apply Agree.ite | apply Agree.then (k := State.raiseRec_ag _ _) | apply Agree.then (k := State.postErr_ag _) | decide | split)

theorem execTallyPost_ag (r : Req) (port : Fin 2) (s : State) : ∀ t1, execTallyPost r port s = .next t1 → Agree 25089 s t1 := by
  intro t1 h
  obtain rfl := Host.Outcome.next.inj h
  repeat' (with_reducible first | assumption | apply Agree.refl | intro _ | apply Agree.ite | apply Agree.then (k := State.post_ag _ _ _) | decide)

theorem State.tallyResume_ag (s : State) : Agree 8705 s (State.tallyResume s) := by
  unfold State.tallyResume
  repeat' (with_reducible first | assumption | apply Agree.refl | intro _ | (extract_lets +onlyGivenNames x; first | (refine (fun (_ : Agree 8705 s x) => ?_ : Agree 8705 s x → _) ?_; clear_value x) | (refine (fun (_ : Agree 8705 s x.1) => ?_ : Agree 8705 s x.1 → _) ?_; clear_value x) | clear_value x) | subst x | apply Agree.ite | apply Agree.then (k := State.put_ag _ _ _ _ _) | apply Agree.then (k := State.setTallyState_ag _ _) | apply Agree.then (k := State.pushOwn_ag _ _) | apply Agree.then (k := State.pushDropped_ag _) | decide | split)

theorem execTallyResume_ag (s : State) : ∀ t1, execTallyResume s = .next t1 → Agree 8705 s t1 := by
  intro t1 h
  obtain rfl := Host.Outcome.next.inj h
  repeat' (with_reducible first | assumption | apply Agree.refl | intro _ | apply Agree.then (k := State.tallyResume_ag _) | decide)

theorem State.clearLog_ag (s : State) (key : Nat) : Agree 8707 s (State.clearLog s key) := by
  unfold State.clearLog
  repeat' (with_reducible first | assumption | apply Agree.refl | intro _ | (extract_lets +onlyGivenNames x; first | (refine (fun (_ : Agree 8707 s x) => ?_ : Agree 8707 s x → _) ?_; clear_value x) | (refine (fun (_ : Agree 8707 s x.1) => ?_ : Agree 8707 s x.1 → _) ?_; clear_value x) | clear_value x) | subst x | apply Agree.foldl | apply Agree.then (k := State.wr_ag _ _ _) | apply Agree.then (k := State.put_ag _ _ _ _ _) | apply Agree.then (k := State.talMod_ag _ _) | apply Agree.then (k := State.mwr_ag _ _ _) | apply Agree.then (k := State.setTallyState_ag _ _) | apply Agree.then (k := State.pushOwn_ag _ _) | apply Agree.then (k := State.pushDropped_ag _) | decide)

theorem State.clearAccept_ag (s : State) (key : Nat) : Agree 8707 s (State.clearAccept s key) := by
  unfold State.clearAccept
  repeat' (with_reducible first | assumption | apply Agree.refl | intro _ | (extract_lets +onlyGivenNames x; first | (refine (fun (_ : Agree 8707 s x) => ?_ : Agree 8707 s x → _) ?_; clear_value x) | (refine (fun (_ : Agree 8707 s x.1) => ?_ : Agree 8707 s x.1 → _) ?_; clear_value x) | clear_value x) | subst x | apply Agree.ite | apply Agree.then (k := State.talMod_ag _ _) | apply Agree.then (k := State.clearLog_ag _ _) | decide | split)

theorem State.scanDone_ag (s : State) : Agree 8707 s (State.scanDone s) := by
  unfold State.scanDone
  repeat' (with_reducible first | assumption | apply Agree.refl | intro _ | (extract_lets +onlyGivenNames x; first | (refine (fun (_ : Agree 8707 s x) => ?_ : Agree 8707 s x → _) ?_; clear_value x) | (refine (fun (_ : Agree 8707 s x.1) => ?_ : Agree 8707 s x.1 → _) ?_; clear_value x) | clear_value x) | subst x | apply Agree.ite | apply Agree.foldl | apply Agree.then (k := State.wr_ag _ _ _) | apply Agree.then (k := State.put_ag _ _ _ _ _) | apply Agree.then (k := State.putBit_ag _ _ _ _) | apply Agree.then (k := State.talMod_ag _ _) | apply Agree.then (k := State.setTallyState_ag _ _) | apply Agree.then (k := State.badSlot_ag _ _) | apply Agree.then (k := State.pushOwn_ag _ _) | apply Agree.then (k := State.pushDropped_ag _) | apply Agree.then (k := State.eraseSlots_ag _ _ _) | apply Agree.then (k := State.clearLog_ag _ _) | decide | split)

theorem execTallyScanDone_ag (s : State) : ∀ t1, execTallyScanDone s = .next t1 → Agree 8707 s t1 := by
  intro t1 h
  obtain rfl := Host.Outcome.next.inj h
  repeat' (with_reducible first | assumption | apply Agree.refl | intro _ | apply Agree.then (k := State.scanDone_ag _) | decide)

theorem State.lrClear_ag (s : State) : Agree 1 s (State.lrClear s) := by
  unfold State.lrClear
  repeat' (with_reducible first | assumption | apply Agree.refl | intro _ | (extract_lets +onlyGivenNames x; first | (refine (fun (_ : Agree 1 s x) => ?_ : Agree 1 s x → _) ?_; clear_value x) | (refine (fun (_ : Agree 1 s x.1) => ?_ : Agree 1 s x.1 → _) ?_; clear_value x) | clear_value x) | subst x | apply Agree.foldl | apply Agree.then (k := State.wr_ag _ _ _) | apply Agree.then (k := State.put_ag _ _ _ _ _) | apply Agree.then (k := State.putBit_ag _ _ _ _) | decide)

theorem execTallyLrClear_ag (s : State) : ∀ t1, execTallyLrClear s = .next t1 → Agree 1 s t1 := by
  intro t1 h
  obtain rfl := Host.Outcome.next.inj h
  repeat' (with_reducible first | assumption | apply Agree.refl | intro _ | apply Agree.then (k := State.lrClear_ag _) | decide)

theorem State.clrCmdErr_ag (s : State) : Agree 1 s (State.clrCmdErr s) := by
  unfold State.clrCmdErr
  repeat' (with_reducible first | assumption | apply Agree.refl | intro _ | apply Agree.then (k := State.putBit_ag _ _ _ _) | decide)

theorem State.voidNonce_ag (s : State) : Agree 8193 s (State.voidNonce s) := by
  unfold State.voidNonce
  repeat' (with_reducible first | assumption | apply Agree.refl | intro _ | (extract_lets +onlyGivenNames x; first | (refine (fun (_ : Agree 8193 s x) => ?_ : Agree 8193 s x → _) ?_; clear_value x) | (refine (fun (_ : Agree 8193 s x.1) => ?_ : Agree 8193 s x.1 → _) ?_; clear_value x) | clear_value x) | subst x | apply Agree.foldl | apply Agree.then (k := State.wr_ag _ _ _) | apply Agree.then (k := State.putBit_ag _ _ _ _) | apply Agree.then (k := State.talMod_ag _ _) | decide)

theorem State.clearDenied_ag (s : State) (r : Req) (key cause : Nat) : Agree 25089 s (State.clearDenied s r key cause) := by
  unfold State.clearDenied
  repeat' (with_reducible first | assumption | apply Agree.refl | intro _ | apply Agree.then (k := State.putBit_ag _ _ _ _) | apply Agree.then (k := State.irq_ag _ _) | apply Agree.then (k := State.log_ag _ _ _ _ _) | apply Agree.then (k := State.voidNonce_ag _) | decide)

theorem State.confirmDenied_ag (s : State) (r : Req) (key cause : Nat) : Agree 25089 s (State.confirmDenied s r key cause) := by
  unfold State.confirmDenied
  repeat' (with_reducible first | assumption | apply Agree.refl | intro _ | (extract_lets +onlyGivenNames x; first | (refine (fun (_ : Agree 25089 s x) => ?_ : Agree 25089 s x → _) ?_; clear_value x) | (refine (fun (_ : Agree 25089 s x.1) => ?_ : Agree 25089 s x.1 → _) ?_; clear_value x) | clear_value x) | subst x | apply Agree.ite | apply Agree.then (k := State.put_ag _ _ _ _ _) | apply Agree.then (k := State.talMod_ag _ _) | apply Agree.then (k := State.clearDenied_ag _ _ _ _) | decide | split)

theorem State.clearRequest_ag (s : State) (r : Req) (key : Nat) (revoke : Bool) : Agree 562949953446401 s (State.clearRequest s r key revoke) := by
  unfold State.clearRequest
  repeat' (with_reducible first | assumption | apply Agree.refl | intro _ | (extract_lets +onlyGivenNames x; first | (refine (fun (_ : Agree 562949953446401 s x) => ?_ : Agree 562949953446401 s x → _) ?_; clear_value x) | (refine (fun (_ : Agree 562949953446401 s x.1) => ?_ : Agree 562949953446401 s x.1 → _) ?_; clear_value x) | clear_value x) | subst x | apply Agree.ite | apply Agree.foldl | apply Agree.then (k := State.wr_ag _ _ _) | apply Agree.then (k := State.putBit_ag _ _ _ _) | apply Agree.then (k := State.talMod_ag _ _) | apply Agree.then (k := State.drew_ag _) | apply Agree.then (k := State.clrCmdErr_ag _) | apply Agree.then (k := State.clearDenied_ag _ _ _ _) | decide | split)

theorem execTallyClearRequest_ag (r : Req) (key : Fin 4) (revoke : Bool) (s : State) : ∀ t1, execTallyClearRequest r key revoke s = .next t1 → Agree 562949953446401 s t1 := by
  intro t1 h
  obtain rfl := Host.Outcome.next.inj h
  repeat' (with_reducible first | assumption | apply Agree.refl | intro _ | apply Agree.ite | apply Agree.then (k := State.clearRequest_ag _ _ _ _) | decide)

theorem State.revokeKey_ag (s : State) (r : Req) (key : Nat) : Agree 25089 s (State.revokeKey s r key) := by
  unfold State.revokeKey
  repeat' (with_reducible first | assumption | apply Agree.refl | intro _ | (extract_lets +onlyGivenNames x; first | (refine (fun (_ : Agree 25089 s x) => ?_ : Agree 25089 s x → _) ?_; clear_value x) | (refine (fun (_ : Agree 25089 s x.1) => ?_ : Agree 25089 s x.1 → _) ?_; clear_value x) | clear_value x) | subst x | apply Agree.then (k := State.putBit_ag _ _ _ _) | apply Agree.then (k := State.talMod_ag _ _) | apply Agree.then (k := State.irq_ag _ _) | apply Agree.then (k := State.log_ag _ _ _ _ _) | decide)

theorem State.clearConfirm_ag (s : State) (r : Req) : Agree 25091 s (State.clearConfirm s r) := by
  unfold State.clearConfirm
  repeat' (with_reducible first | assumption | apply Agree.refl | intro _ | apply Agree.ite | apply Agree.then (k := State.clearAccept_ag _ _) | apply Agree.then (k := State.clrCmdErr_ag _) | apply Agree.then (k := State.voidNonce_ag _) | apply Agree.then (k := State.clearDenied_ag _ _ _ _) | apply Agree.then (k := State.confirmDenied_ag _ _ _ _) | apply Agree.then (k := State.revokeKey_ag _ _ _) | decide | split)

theorem execTallyClearConfirm_ag (r : Req) (s : State) : ∀ t1, execTallyClearConfirm r s = .next t1 → Agree 25091 s t1 := by
  intro t1 h
  obtain rfl := Host.Outcome.next.inj h
  repeat' (with_reducible first | assumption | apply Agree.refl | intro _ | apply Agree.ite | apply Agree.then (k := State.clearConfirm_ag _ _) | decide)

theorem execTallyClearAbort_ag (r : Req) (s : State) : ∀ t1, execTallyClearAbort r s = .next t1 → Agree 8193 s t1 := by
  intro t1 h
  obtain rfl := Host.Outcome.next.inj h
  repeat' (with_reducible first | assumption | apply Agree.refl | intro _ | apply Agree.ite | apply Agree.then (k := State.voidNonce_ag _) | decide)

theorem State.nonceExpiry_ag (s : State) : Agree 32769 s (State.nonceExpiry s) := by
  unfold State.nonceExpiry
  repeat' (with_reducible first | assumption | apply Agree.refl | intro _ | apply Agree.foldl | apply Agree.then (k := State.wr_ag _ _ _) | apply Agree.then (k := State.putBit_ag _ _ _ _) | apply Agree.then (k := State.reachCnt_ag _ _) | decide | split)

theorem execTallyNonceExpiry_ag (s : State) : ∀ t1, execTallyNonceExpiry s = .next t1 → Agree 32769 s t1 := by
  intro t1 h
  obtain rfl := Host.Outcome.next.inj h
  repeat' (with_reducible first | assumption | apply Agree.refl | intro _ | apply Agree.then (k := State.nonceExpiry_ag _) | decide)

theorem State.lockoutEnd_ag (s : State) : Agree 40961 s (State.lockoutEnd s) := by
  unfold State.lockoutEnd
  repeat' (with_reducible first | assumption | apply Agree.refl | intro _ | (extract_lets +onlyGivenNames x; first | (refine (fun (_ : Agree 40961 s x) => ?_ : Agree 40961 s x → _) ?_; clear_value x) | (refine (fun (_ : Agree 40961 s x.1) => ?_ : Agree 40961 s x.1 → _) ?_; clear_value x) | clear_value x) | subst x | apply Agree.then (k := State.put_ag _ _ _ _ _) | apply Agree.then (k := State.talMod_ag _ _) | apply Agree.then (k := State.reachCnt_ag _ _) | decide | split)

theorem execTallyLockoutEnd_ag (s : State) : ∀ t1, execTallyLockoutEnd s = .next t1 → Agree 40961 s t1 := by
  intro t1 h
  obtain rfl := Host.Outcome.next.inj h
  repeat' (with_reducible first | assumption | apply Agree.refl | intro _ | apply Agree.then (k := State.lockoutEnd_ag _) | decide)

theorem State.eraseDone_ag (s : State) (bad : List Nat) : Agree 8707 s (State.eraseDone s bad) := by
  unfold State.eraseDone
  repeat' (with_reducible first | assumption | apply Agree.refl | intro _ | (extract_lets +onlyGivenNames x; first | (refine (fun (_ : Agree 8707 s x) => ?_ : Agree 8707 s x → _) ?_; clear_value x) | (refine (fun (_ : Agree 8707 s x.1) => ?_ : Agree 8707 s x.1 → _) ?_; clear_value x) | clear_value x) | subst x | apply Agree.foldl | apply Agree.then (k := State.putBit_ag _ _ _ _) | apply Agree.then (k := State.talMod_ag _ _) | apply Agree.then (k := State.irq_ag _ _) | apply Agree.then (k := State.badSlot_ag _ _) | apply Agree.then (k := State.eraseSlots_ag _ _ _) | decide | split)

theorem execTallyEraseDone_ag (bad : List (Fin 262144)) (s : State) : ∀ t1, execTallyEraseDone bad s = .next t1 → Agree 8707 s t1 := by
  intro t1 h
  obtain rfl := Host.Outcome.next.inj h
  repeat' (with_reducible first | assumption | apply Agree.refl | intro _ | apply Agree.then (k := State.eraseDone_ag _ _) | decide)

end Sys2Proof.Machine
end

