-- ==== Sys2Proof/Laws/Frame/Power.lean ====
section
/-!
SUPPORT. Frames of the operations of Machine/Power.lean: the fields each can change, as a mask.
-/
set_option linter.unusedTactic false
set_option linter.unreachableTactic false
namespace Sys2Proof.Machine
open Sys2Proof

theorem State.pwrMod_ag (s : State) (f : PowerU → PowerU) : Agree 281474976710656 s (State.pwrMod s f) := by
  unfold State.pwrMod
  repeat' (with_reducible first | assumption | apply Agree.refl | intro _ | apply Agree.then (k := Agree.up_power _ _) | decide)

theorem State.bootMod_ag (s : State) (f : BootU → BootU) : Agree 281474976710656 s (State.bootMod s f) := by
  unfold State.bootMod
  repeat' (with_reducible first | assumption | apply Agree.refl | intro _ | apply Agree.then (k := State.pwrMod_ag _ _) | decide)

theorem State.pwrLog_ag (s : State) (n code sparam p0 p1 : Nat) : Agree 25089 s (State.pwrLog s n code sparam p0 p1) := by
  unfold State.pwrLog
  repeat' (with_reducible first | assumption | apply Agree.refl | intro _ | apply Agree.then (k := State.irq_ag _ _) | apply Agree.then (k := State.log_ag _ _ _ _ _) | decide)

theorem State.pwrErr_ag (s : State) (off : Nat) (v : Word) : Agree 25089 s (State.pwrErr s off v) := by
  unfold State.pwrErr
  repeat' (with_reducible first | assumption | apply Agree.refl | intro _ | apply Agree.then (k := State.putBit_ag _ _ _ _) | apply Agree.then (k := State.pwrLog_ag _ _ _ _ _ _) | decide)

theorem State.sysReset_ag (s : State) (cause : Nat) (powerOn off : Bool) : Agree 3377699720527869 s (s.sysReset cause powerOn off) := by
  unfold State.sysReset
  generalize State.reset = r0
  refine Agree.then (Agree.then (t := _) ?_ (Agree.mono (State.put_ag _ _ _ _ _) (by decide)) (Nat.or_self _))
    (Agree.mono (State.putBit_ag _ _ _ _) (by decide)) (Nat.or_self _)
  constructor <;> intro h <;> first | exact absurd h (by decide) | rfl | skip
  simp only [Memory.wf, Bool.and_eq_true] at h ⊢
  exact ⟨SMap.wf_drop _ _ _ h.1, h.2⟩

theorem State.regionClear_ag (s : State) (r : Nat) (off : Bool) : Agree 43992543920129 s (s.regionClear r off) := by
  unfold State.regionClear
  constructor <;> intro h <;> first | exact absurd h (by decide) | rfl | skip
  simp only [Memory.wf, Bool.and_eq_true] at h ⊢
  exact ⟨SMap.wf_drop _ _ _ h.1, h.2⟩

theorem State.regionHold_ag (s : State) (r : Nat) : Agree 325794475172361 s (State.regionHold s r) := by
  unfold State.regionHold
  repeat' (with_reducible first | assumption | apply Agree.refl | intro _ | apply Agree.then (k := State.setHeldRegs_ag _ _) | apply Agree.then (k := State.tlStep_ag _) | apply Agree.then (k := State.pwrMod_ag _ _) | apply Agree.then (k := State.regionClear_ag _ _ _) | decide)

theorem State.regionResets_ag (s : State) : Agree 325794475172361 s (State.regionResets s) := by
  unfold State.regionResets
  repeat' (with_reducible first | assumption | apply Agree.refl | intro _ | apply Agree.foldl | apply Agree.then (k := State.regionHold_ag _ _) | decide)

theorem State.setStage_ag (s : State) (n : Nat) : Agree 1 s (State.setStage s n) := by
  unfold State.setStage
  repeat' (with_reducible first | assumption | apply Agree.refl | intro _ | apply Agree.then (k := State.put_ag _ _ _ _ _) | decide)

theorem State.release_ag (s : State) : Agree 281509336474113 s (State.release s) := by
  unfold State.release
  repeat' (with_reducible first | assumption | apply Agree.refl | intro _ | (extract_lets +onlyGivenNames x; first | (refine (fun (_ : Agree 281509336474113 s x) => ?_ : Agree 281509336474113 s x → _) ?_; clear_value x) | (refine (fun (_ : Agree 281509336474113 s x.1) => ?_ : Agree 281509336474113 s x.1 → _) ?_; clear_value x) | clear_value x) | subst x | apply Agree.ite | apply Agree.whenI | apply Agree.foldl | apply Agree.then (k := State.put_ag _ _ _ _ _) | apply Agree.then (k := State.putBit_ag _ _ _ _) | apply Agree.then (k := State.loadTrims_ag _ _) | apply Agree.then (k := State.netUp_ag _) | apply Agree.then (k := State.pwrMod_ag _ _) | apply Agree.then (k := State.bootMod_ag _ _) | apply Agree.then (k := State.pwrLog_ag _ _ _ _ _ _) | apply Agree.then (k := State.setStage_ag _ _) | decide | split)

theorem State.resetAs_ag (s : State) (cause : Nat) : Agree 3377699720527869 s (State.resetAs s cause) := by
  unfold State.resetAs
  repeat' (with_reducible first | assumption | apply Agree.refl | intro _ | apply Agree.then (k := State.roleOutFall_ag _) | apply Agree.then (k := State.sysReset_ag _ _ _ _) | decide)

theorem State.softReset_ag (s : State) (v : Word) : Agree 3377699720527869 s (State.softReset s v) := by
  unfold State.softReset
  repeat' (with_reducible first | assumption | apply Agree.refl | intro _ | apply Agree.ite | apply Agree.then (k := State.release_ag _) | apply Agree.then (k := State.resetAs_ag _ _) | decide | split)

theorem execSysRstSoftware_ag (v : Word) (s : State) : ∀ t1, execSysRstSoftware v s = .next t1 → Agree 3377699720527869 s t1 := by
  intro t1 h
  obtain rfl := Host.Outcome.next.inj h
  repeat' (with_reducible first | assumption | apply Agree.refl | intro _ | apply Agree.then (k := State.softReset_ag _ _) | decide)

theorem State.regionRst_ag (s : State) (v : Word) : Agree 325794475172361 s (State.regionRst s v) := by
  unfold State.regionRst
  repeat' (with_reducible first | assumption | apply Agree.refl | intro _ | (extract_lets +onlyGivenNames x; first | (refine (fun (_ : Agree 325794475172361 s x) => ?_ : Agree 325794475172361 s x → _) ?_; clear_value x) | (refine (fun (_ : Agree 325794475172361 s x.1) => ?_ : Agree 325794475172361 s x.1 → _) ?_; clear_value x) | clear_value x) | subst x | apply Agree.ite | apply Agree.then (k := State.pwrMod_ag _ _) | apply Agree.then (k := State.regionResets_ag _) | decide | split)

theorem execSysRstRegion_ag (v : Word) (s : State) : ∀ t1, execSysRstRegion v s = .next t1 → Agree 325794475172361 s t1 := by
  intro t1 h
  obtain rfl := Host.Outcome.next.inj h
  repeat' (with_reducible first | assumption | apply Agree.refl | intro _ | apply Agree.then (k := State.regionRst_ag _ _) | decide)

theorem State.sysRstWrite_ag (s : State) (v : Word) : Agree 3377699720527869 s (State.sysRstWrite s v) := by
  unfold State.sysRstWrite
  repeat' (with_reducible first | assumption | apply Agree.refl | intro _ | apply Agree.ite | apply Agree.then (k := State.softReset_ag _ _) | apply Agree.then (k := State.regionRst_ag _ _) | decide | split)

theorem State.powerOn_ag (s : State) (cause : Nat) : Agree 3377699720527869 s (State.powerOn s cause) := by
  unfold State.powerOn
  repeat' (with_reducible first | assumption | apply Agree.refl | intro _ | apply Agree.then (k := State.sysReset_ag _ _ _ _) | decide)

theorem execPowerOnReset_ag (s : State) : ∀ t1, execPowerOnReset s = .next t1 → Agree 3377699720527869 s t1 := by
  intro t1 h
  obtain rfl := Host.Outcome.next.inj h
  repeat' (with_reducible first | assumption | apply Agree.refl | intro _ | apply Agree.ite | apply Agree.then (k := State.powerOn_ag _ _) | decide | split)

theorem execThermalRestart_ag (s : State) : ∀ t1, execThermalRestart s = .next t1 → Agree 3377699720527869 s t1 := by
  intro t1 h
  obtain rfl := Host.Outcome.next.inj h
  repeat' (with_reducible first | assumption | apply Agree.refl | intro _ | apply Agree.ite | apply Agree.then (k := State.powerOn_ag _ _) | decide | split)

theorem execResetNAssert_ag (s : State) : ∀ t1, execResetNAssert s = .next t1 → Agree 3377699720527869 s t1 := by
  intro t1 h
  obtain rfl := Host.Outcome.next.inj h
  repeat' (with_reducible first | assumption | apply Agree.refl | intro _ | apply Agree.ite | apply Agree.then (k := State.resetAs_ag _ _) | decide | split)

theorem execResetNRelease_ag (pref : RstPins) (spi : Bool) (s : State) : ∀ t1, execResetNRelease pref spi s = .next t1 → Agree 281509336474113 s t1 := by
  intro t1 h
  obtain rfl := Host.Outcome.next.inj h
  repeat' (with_reducible first | assumption | apply Agree.refl | intro _ | apply Agree.ite | apply Agree.then (k := State.pwrMod_ag _ _) | apply Agree.then (k := State.release_ag _) | decide | split)

theorem execHbiAccessReady_ag (s : State) : ∀ t1, execHbiAccessReady s = .next t1 → Agree 33025 s t1 := by
  intro t1 h
  obtain rfl := Host.Outcome.next.inj h
  repeat' (with_reducible first | assumption | apply Agree.refl | intro _ | apply Agree.ite | apply Agree.then (k := State.setReady_ag _ _) | apply Agree.then (k := State.reachCnt_ag _ _) | decide | split)

theorem State.pllLoss_ag (s : State) : Agree 3377699720527869 s (State.pllLoss s) := by
  unfold State.pllLoss
  repeat' (with_reducible first | assumption | apply Agree.refl | intro _ | apply Agree.ite | apply Agree.then (k := State.pwrMod_ag _ _) | apply Agree.then (k := State.resetAs_ag _ _) | decide | split)

theorem execMainPllLoss_ag (s : State) : ∀ t1, execMainPllLoss s = .next t1 → Agree 3377699720527869 s t1 := by
  intro t1 h
  obtain rfl := Host.Outcome.next.inj h
  repeat' (with_reducible first | assumption | apply Agree.refl | intro _ | apply Agree.then (k := State.pllLoss_ag _) | decide)

theorem execVkeepLoss_ag (s : State) : ∀ t1, execVkeepLoss s = .next t1 → Agree 281474976743425 s t1 := by
  intro t1 h
  obtain rfl := Host.Outcome.next.inj h
  repeat' (with_reducible first | assumption | apply Agree.refl | intro _ | apply Agree.ite | apply Agree.then (k := State.tbMod_ag _ _) | apply Agree.then (k := State.dropRegs_ag _ _) | apply Agree.then (k := State.pwrMod_ag _ _) | decide | split)

theorem State.domWrite_ag (s : State) (v : Word) : Agree 281474976735745 s (State.domWrite s v) := by
  unfold State.domWrite
  repeat' (with_reducible first | assumption | apply Agree.refl | intro _ | (extract_lets +onlyGivenNames x; first | (refine (fun (_ : Agree 281474976735745 s x) => ?_ : Agree 281474976735745 s x → _) ?_; clear_value x) | (refine (fun (_ : Agree 281474976735745 s x.1) => ?_ : Agree 281474976735745 s x.1 → _) ?_; clear_value x) | clear_value x) | subst x | apply Agree.ite | apply Agree.foldl | apply Agree.then (k := State.wr_ag _ _ _) | apply Agree.then (k := State.pwrMod_ag _ _) | apply Agree.then (k := State.pwrErr_ag _ _ _) | decide | split)

theorem execPwrDomWrite_ag (v : Word) (s : State) : ∀ t1, execPwrDomWrite v s = .next t1 → Agree 281474976735745 s t1 := by
  intro t1 h
  obtain rfl := Host.Outcome.next.inj h
  repeat' (with_reducible first | assumption | apply Agree.refl | intro _ | apply Agree.then (k := State.domWrite_ag _ _) | decide)

theorem State.halfOne_ag (s : State) (r : Nat) (v : Word) : Agree 25089 s (State.halfOne s r v) := by
  unfold State.halfOne
  repeat' (with_reducible first | assumption | apply Agree.refl | intro _ | apply Agree.ite | apply Agree.then (k := State.putBit_ag _ _ _ _) | apply Agree.then (k := State.pwrLog_ag _ _ _ _ _ _) | apply Agree.then (k := State.pwrErr_ag _ _ _) | decide | split)

theorem execPwrHalfWrite_ag (v : Word) (s : State) : ∀ t1, execPwrHalfWrite v s = .next t1 → Agree 25089 s t1 := by
  intro t1 h
  obtain rfl := Host.Outcome.next.inj h
  repeat' (with_reducible first | assumption | apply Agree.refl | intro _ | apply Agree.foldl | apply Agree.then (k := State.halfOne_ag _ _ _) | decide)

theorem execHalfApply_ag (r : Fin 4) (s : State) : ∀ t1, execHalfApply r s = .next t1 → Agree 1 s t1 := by
  intro t1 h
  obtain rfl := Host.Outcome.next.inj h
  repeat' (with_reducible first | assumption | apply Agree.refl | intro _ | (extract_lets +onlyGivenNames x; first | (refine (fun (_ : Agree 1 s x) => ?_ : Agree 1 s x → _) ?_; clear_value x) | (refine (fun (_ : Agree 1 s x.1) => ?_ : Agree 1 s x.1 → _) ?_; clear_value x) | clear_value x) | subst x | apply Agree.ite | apply Agree.then (k := State.putBit_ag _ _ _ _) | decide | split)

theorem State.avsStep_ag (s : State) (r : Nat) (m : Nat) : Agree 1 s (State.avsStep s r m) := by
  unfold State.avsStep
  repeat' (with_reducible first | assumption | apply Agree.refl | intro _ | (extract_lets +onlyGivenNames x; first | (refine (fun (_ : Agree 1 s x) => ?_ : Agree 1 s x → _) ?_; clear_value x) | (refine (fun (_ : Agree 1 s x.1) => ?_ : Agree 1 s x.1 → _) ?_; clear_value x) | clear_value x) | subst x | apply Agree.ite | apply Agree.then (k := State.put_ag _ _ _ _ _) | decide | split)

theorem execAvsStep_ag (r : Fin 4) (m : Fin 3) (s : State) : ∀ t1, execAvsStep r m s = .next t1 → Agree 1 s t1 := by
  intro t1 h
  obtain rfl := Host.Outcome.next.inj h
  repeat' (with_reducible first | assumption | apply Agree.refl | intro _ | apply Agree.then (k := State.avsStep_ag _ _ _) | decide)

theorem State.avsWrite_ag (s : State) (r : Nat) (v : Word) : Agree 25089 s (State.avsWrite s r v) := by
  unfold State.avsWrite
  repeat' (with_reducible first | assumption | apply Agree.refl | intro _ | (extract_lets +onlyGivenNames x; first | (refine (fun (_ : Agree 25089 s x) => ?_ : Agree 25089 s x → _) ?_; clear_value x) | (refine (fun (_ : Agree 25089 s x.1) => ?_ : Agree 25089 s x.1 → _) ?_; clear_value x) | clear_value x) | subst x | apply Agree.ite | apply Agree.then (k := State.put_ag _ _ _ _ _) | apply Agree.then (k := State.putBit_ag _ _ _ _) | apply Agree.then (k := State.pwrErr_ag _ _ _) | decide | split)

theorem State.powerCloseRec_ag (s : State) (i : Nat) (r : RecRec) (flags : Nat) : Agree 13194139558403 s (State.powerCloseRec s i r flags) := by
  unfold State.powerCloseRec
  repeat' (with_reducible first | assumption | apply Agree.refl | intro _ | (extract_lets +onlyGivenNames x; first | (refine (fun (_ : Agree 13194139558403 s x) => ?_ : Agree 13194139558403 s x → _) ?_; clear_value x) | (refine (fun (_ : Agree 13194139558403 s x.1) => ?_ : Agree 13194139558403 s x.1 → _) ?_; clear_value x) | clear_value x) | subst x | apply Agree.ite | apply Agree.foldl | apply Agree.then (k := State.setWbu_ag _ _ _) | apply Agree.then (k := State.recUse_ag _ _ _ _) | apply Agree.then (k := State.recCloseIt_ag _ _ _) | decide | split)

theorem State.powerKeep_ag (s : State) (i : Nat) (at_ : Nat) : Agree 13194139560451 s (State.powerKeep s i at_) := by
  unfold State.powerKeep
  repeat' (with_reducible first | assumption | apply Agree.refl | intro _ | (extract_lets +onlyGivenNames x; first | (refine (fun (_ : Agree 13194139560451 s x) => ?_ : Agree 13194139560451 s x → _) ?_; clear_value x) | (refine (fun (_ : Agree 13194139560451 s x.1) => ?_ : Agree 13194139560451 s x.1 → _) ?_; clear_value x) | clear_value x) | subst x | apply Agree.foldl | apply Agree.then (k := State.wr_ag _ _ _) | apply Agree.then (k := State.put_ag _ _ _ _ _) | apply Agree.then (k := State.recAccept_ag _ _ _ _ _) | apply Agree.then (k := State.powerCloseRec_ag _ _ _ _) | decide)

theorem State.recPowerClose_ag (s : State) (i : Nat) (at_ : Nat) : Agree 13194139560451 s (State.recPowerClose s i at_).1 := by
  unfold State.recPowerClose
  repeat' (with_reducible first | assumption | apply Agree.refl | intro _ | (extract_lets +onlyGivenNames x; first | (refine (fun (_ : Agree 13194139560451 s x) => ?_ : Agree 13194139560451 s x → _) ?_; clear_value x) | (refine (fun (_ : Agree 13194139560451 s x.1) => ?_ : Agree 13194139560451 s x.1 → _) ?_; clear_value x) | clear_value x) | subst x | apply Agree.ite | apply Agree.foldl | apply Agree.iteP | apply Agree.foldlP | apply Agree.then (k := State.recEnd_ag _ _ _ _) | apply Agree.then (k := State.powerCloseRec_ag _ _ _ _) | apply Agree.then (k := State.powerKeep_ag _ _ _) | decide | split)

theorem State.holdStep3_ag (s : State) (vhold : Nat) : Agree 13194139560451 s (State.holdStep3 s vhold) := by
  unfold State.holdStep3
  repeat' (with_reducible first | assumption | apply Agree.refl | intro _ | (extract_lets +onlyGivenNames x; first | (refine (fun (_ : Agree 13194139560451 s x) => ?_ : Agree 13194139560451 s x → _) ?_; clear_value x) | (refine (fun (_ : Agree 13194139560451 s x.1) => ?_ : Agree 13194139560451 s x.1 → _) ?_; clear_value x) | clear_value x) | subst x | apply Agree.foldl | apply Agree.iteP | apply Agree.foldlP | apply Agree.then (k := State.put_ag _ _ _ _ _) | apply Agree.then (k := State.irq_ag _ _) | apply Agree.then (k := State.logLast_ag _ _ _ _ _) | apply Agree.then (k := State.recPowerClose_ag _ _ _) | decide | split)

theorem State.vmon_ag (s : State) (vhold vin : Nat) : Agree 281474976710657 s (State.vmon s vhold vin) := by
  unfold State.vmon
  repeat' (with_reducible first | assumption | apply Agree.refl | intro _ | apply Agree.then (k := State.wr_ag _ _ _) | apply Agree.then (k := State.pwrMod_ag _ _) | decide)

theorem State.vholdMon_ag (s : State) (vhold : Nat) : Agree 281474976710657 s (State.vholdMon s vhold) := by
  unfold State.vholdMon
  repeat' (with_reducible first | assumption | apply Agree.refl | intro _ | apply Agree.then (k := State.vmon_ag _ _ _) | decide)

theorem State.holdStart_ag (s : State) (vhold vin : Nat) : Agree 365072220187139 s (State.holdStart s vhold vin) := by
  unfold State.holdStart
  repeat' (with_reducible first | assumption | apply Agree.refl | intro _ | (extract_lets +onlyGivenNames x; first | (refine (fun (_ : Agree 365072220187139 s x) => ?_ : Agree 365072220187139 s x → _) ?_; clear_value x) | (refine (fun (_ : Agree 365072220187139 s x.1) => ?_ : Agree 365072220187139 s x.1 → _) ?_; clear_value x) | clear_value x) | subst x | apply Agree.ite | apply Agree.whenI | apply Agree.then (k := State.put_ag _ _ _ _ _) | apply Agree.then (k := State.putBit_ag _ _ _ _) | apply Agree.then (k := State.pairMod_ag _ _) | apply Agree.then (k := State.lastGasp_ag _) | apply Agree.then (k := State.pwrMod_ag _ _) | apply Agree.then (k := State.pwrLog_ag _ _ _ _ _ _) | apply Agree.then (k := State.holdStep3_ag _ _) | apply Agree.then (k := State.vmon_ag _ _ _) | decide | split)

theorem execHoldupStart_ag (vhold vin : BitVec 16) (s : State) : ∀ t1, execHoldupStart vhold vin s = .next t1 → Agree 365072220187139 s t1 := by
  intro t1 h
  obtain rfl := Host.Outcome.next.inj h
  repeat' (with_reducible first | assumption | apply Agree.refl | intro _ | apply Agree.ite | apply Agree.then (k := State.holdStart_ag _ _ _) | decide | split)

theorem State.overVoltage_ag (s : State) (vhold vin : Nat) : Agree 365072220187139 s (State.overVoltage s vhold vin) := by
  unfold State.overVoltage
  repeat' (with_reducible first | assumption | apply Agree.refl | intro _ | apply Agree.ite | apply Agree.then (k := State.pwrMod_ag _ _) | apply Agree.then (k := State.holdStart_ag _ _ _) | decide | split)

theorem execVinOvervoltage_ag (vhold vin : BitVec 16) (s : State) : ∀ t1, execVinOvervoltage vhold vin s = .next t1 → Agree 365072220187139 s t1 := by
  intro t1 h
  obtain rfl := Host.Outcome.next.inj h
  repeat' (with_reducible first | assumption | apply Agree.refl | intro _ | apply Agree.then (k := State.overVoltage_ag _ _ _) | decide)

theorem State.netOff_ag (s : State) : Agree 70403103941121 s (State.netOff s) := by
  unfold State.netOff
  repeat' (with_reducible first | assumption | apply Agree.refl | intro _ | (extract_lets +onlyGivenNames x; first | (refine (fun (_ : Agree 70403103941121 s x) => ?_ : Agree 70403103941121 s x → _) ?_; clear_value x) | (refine (fun (_ : Agree 70403103941121 s x.1) => ?_ : Agree 70403103941121 s x.1 → _) ?_; clear_value x) | clear_value x) | subst x | apply Agree.ite | apply Agree.foldl | apply Agree.then (k := State.putBit_ag _ _ _ _) | apply Agree.then (k := State.netDown_ag _) | apply Agree.then (k := State.plinkChange_ag _ _ _) | decide | split)

theorem State.netShed_ag (s : State) : Agree 70403103973889 s (State.netShed s) := by
  unfold State.netShed
  repeat' (with_reducible first | assumption | apply Agree.refl | intro _ | apply Agree.ite | apply Agree.whenI | apply Agree.then (k := State.put_ag _ _ _ _ _) | apply Agree.then (k := State.reachCnt_ag _ _) | apply Agree.then (k := State.netOff_ag _) | decide | split)

theorem execPdNetShed_ag (s : State) : ∀ t1, execPdNetShed s = .next t1 → Agree 70403103973889 s t1 := by
  intro t1 h
  obtain rfl := Host.Outcome.next.inj h
  repeat' (with_reducible first | assumption | apply Agree.refl | intro _ | apply Agree.then (k := State.netShed_ag _) | decide)

theorem execHoldupStep3_ag (vhold : BitVec 16) (s : State) : ∀ t1, execHoldupStep3 vhold s = .next t1 → Agree 294669116271107 s t1 := by
  intro t1 h
  obtain rfl := Host.Outcome.next.inj h
  repeat' (with_reducible first | assumption | apply Agree.refl | intro _ | apply Agree.ite | apply Agree.then (k := State.holdStep3_ag _ _) | apply Agree.then (k := State.vholdMon_ag _ _) | decide | split)

theorem State.holdStep4_ag (s : State) : Agree 3377699720527869 s (State.holdStep4 s) := by
  unfold State.holdStep4
  repeat' (with_reducible first | assumption | apply Agree.refl | intro _ | (extract_lets +onlyGivenNames x; first | (refine (fun (_ : Agree 3377699720527869 s x) => ?_ : Agree 3377699720527869 s x → _) ?_; clear_value x) | (refine (fun (_ : Agree 3377699720527869 s x.1) => ?_ : Agree 3377699720527869 s x.1 → _) ?_; clear_value x) | clear_value x) | subst x | apply Agree.ite | apply Agree.then (k := State.fdMod_ag _ _) | apply Agree.then (k := State.fdSettle_ag _) | apply Agree.then (k := State.fieldOk_ag _ _) | apply Agree.then (k := State.roleOutFall_ag _) | apply Agree.then (k := State.sysReset_ag _ _ _ _) | decide | split)

theorem execHoldupStep4_ag (s : State) : ∀ t1, execHoldupStep4 s = .next t1 → Agree 3377699720527869 s t1 := by
  intro t1 h
  obtain rfl := Host.Outcome.next.inj h
  repeat' (with_reducible first | assumption | apply Agree.refl | intro _ | apply Agree.then (k := State.holdStep4_ag _) | decide)

theorem execHoldupEnd_ag (vhold vin : BitVec 16) (s : State) : ∀ t1, execHoldupEnd vhold vin s = .next t1 → Agree 351843720913409 s t1 := by
  intro t1 h
  obtain rfl := Host.Outcome.next.inj h
  repeat' (with_reducible first | assumption | apply Agree.refl | intro _ | (extract_lets +onlyGivenNames x; first | (refine (fun (_ : Agree 351843720913409 s x) => ?_ : Agree 351843720913409 s x → _) ?_; clear_value x) | (refine (fun (_ : Agree 351843720913409 s x.1) => ?_ : Agree 351843720913409 s x.1 → _) ?_; clear_value x) | clear_value x) | subst x | apply Agree.ite | apply Agree.then (k := State.put_ag _ _ _ _ _) | apply Agree.then (k := State.putBit_ag _ _ _ _) | apply Agree.then (k := State.pairMod_ag _ _) | apply Agree.then (k := State.pwrMod_ag _ _) | apply Agree.then (k := State.pwrLog_ag _ _ _ _ _ _) | apply Agree.then (k := State.vmon_ag _ _ _) | decide | split)

theorem execHoldOkChange_ag (vhold : BitVec 16) (s : State) : ∀ t1, execHoldOkChange vhold s = .next t1 → Agree 281474976710657 s t1 := by
  intro t1 h
  obtain rfl := Host.Outcome.next.inj h
  repeat' (with_reducible first | assumption | apply Agree.refl | intro _ | apply Agree.ite | apply Agree.then (k := State.putBit_ag _ _ _ _) | apply Agree.then (k := State.vholdMon_ag _ _) | decide | split)

theorem State.tempRead_ag (s : State) (src : Nat) (t : Word) : Agree 281474976710657 s (State.tempRead s src t) := by
  unfold State.tempRead
  repeat' (with_reducible first | assumption | apply Agree.refl | intro _ | (extract_lets +onlyGivenNames x; first | (refine (fun (_ : Agree 281474976710657 s x) => ?_ : Agree 281474976710657 s x → _) ?_; clear_value x) | (refine (fun (_ : Agree 281474976710657 s x.1) => ?_ : Agree 281474976710657 s x.1 → _) ?_; clear_value x) | clear_value x) | subst x | apply Agree.ite | apply Agree.then (k := State.put_ag _ _ _ _ _) | apply Agree.then (k := State.pwrMod_ag _ _) | decide | split)

theorem State.tempHold_ag (s : State) (top : Int) : Agree 281474976710657 s (State.tempHold s top) := by
  unfold State.tempHold
  repeat' (with_reducible first | assumption | apply Agree.refl | intro _ | apply Agree.foldl | apply Agree.then (k := State.tempRead_ag _ _ _) | decide)

theorem State.tcfgWrite_ag (s : State) (v : Word) : Agree 281474976710657 s (State.tcfgWrite s v) := by
  unfold State.tcfgWrite
  repeat' (with_reducible first | assumption | apply Agree.refl | intro _ | apply Agree.then (k := State.regWrite_ag _ _ _) | apply Agree.then (k := State.tempHold_ag _ _) | decide)

theorem State.thermWarn_ag (s : State) (src : Nat) (t : Word) : Agree 281474976735745 s (State.thermWarn s src t) := by
  unfold State.thermWarn
  repeat' (with_reducible first | assumption | apply Agree.refl | intro _ | (extract_lets +onlyGivenNames x; first | (refine (fun (_ : Agree 281474976735745 s x) => ?_ : Agree 281474976735745 s x → _) ?_; clear_value x) | (refine (fun (_ : Agree 281474976735745 s x.1) => ?_ : Agree 281474976735745 s x.1 → _) ?_; clear_value x) | clear_value x) | subst x | apply Agree.ite | apply Agree.then (k := State.putBit_ag _ _ _ _) | apply Agree.then (k := State.pwrMod_ag _ _) | apply Agree.then (k := State.pwrLog_ag _ _ _ _ _ _) | apply Agree.then (k := State.tempRead_ag _ _ _) | apply Agree.then (k := State.tempHold_ag _ _) | decide | split)

theorem execThermalWarn_ag (src : Fin 6) (t : BitVec 16) (s : State) : ∀ t1, execThermalWarn src t s = .next t1 → Agree 281474976735745 s t1 := by
  intro t1 h
  obtain rfl := Host.Outcome.next.inj h
  repeat' (with_reducible first | assumption | apply Agree.refl | intro _ | apply Agree.then (k := State.thermWarn_ag _ _ _) | decide)

theorem State.thermClear_ag (s : State) : Agree 281474976710657 s (State.thermClear s) := by
  unfold State.thermClear
  repeat' (with_reducible first | assumption | apply Agree.refl | intro _ | apply Agree.ite | apply Agree.then (k := State.pwrMod_ag _ _) | apply Agree.then (k := State.tempHold_ag _ _) | decide | split)

theorem execThermalWarnClear_ag (s : State) : ∀ t1, execThermalWarnClear s = .next t1 → Agree 281474976710657 s t1 := by
  intro t1 h
  obtain rfl := Host.Outcome.next.inj h
  repeat' (with_reducible first | assumption | apply Agree.refl | intro _ | apply Agree.then (k := State.thermClear_ag _) | decide)

theorem State.thermShut_ag (s : State) (src : Nat) (t : Word) : Agree 294669116271107 s (State.thermShut s src t) := by
  unfold State.thermShut
  repeat' (with_reducible first | assumption | apply Agree.refl | intro _ | (extract_lets +onlyGivenNames x; first | (refine (fun (_ : Agree 294669116271107 s x) => ?_ : Agree 294669116271107 s x → _) ?_; clear_value x) | (refine (fun (_ : Agree 294669116271107 s x.1) => ?_ : Agree 294669116271107 s x.1 → _) ?_; clear_value x) | clear_value x) | subst x | apply Agree.ite | apply Agree.then (k := State.putBit_ag _ _ _ _) | apply Agree.then (k := State.pwrMod_ag _ _) | apply Agree.then (k := State.pwrLog_ag _ _ _ _ _ _) | apply Agree.then (k := State.holdStep3_ag _ _) | apply Agree.then (k := State.tempRead_ag _ _ _) | apply Agree.then (k := State.tempHold_ag _ _) | decide | split)

theorem execThermalShutdown_ag (src : Fin 6) (t : BitVec 16) (s : State) : ∀ t1, execThermalShutdown src t s = .next t1 → Agree 294669116271107 s t1 := by
  intro t1 h
  obtain rfl := Host.Outcome.next.inj h
  repeat' (with_reducible first | assumption | apply Agree.refl | intro _ | apply Agree.then (k := State.thermShut_ag _ _ _) | decide)

theorem State.wdtWrite_ag (s : State) (v : Word) : Agree 281474976710657 s (State.wdtWrite s v) := by
  unfold State.wdtWrite
  repeat' (with_reducible first | assumption | apply Agree.refl | intro _ | (extract_lets +onlyGivenNames x; first | (refine (fun (_ : Agree 281474976710657 s x) => ?_ : Agree 281474976710657 s x → _) ?_; clear_value x) | (refine (fun (_ : Agree 281474976710657 s x.1) => ?_ : Agree 281474976710657 s x.1 → _) ?_; clear_value x) | clear_value x) | subst x | apply Agree.ite | apply Agree.whenI | apply Agree.then (k := State.regWrite_ag _ _ _) | apply Agree.then (k := State.pwrMod_ag _ _) | decide)

theorem State.wdtKick_ag (s : State) (v : Word) : Agree 281474976710657 s (State.wdtKick s v) := by
  unfold State.wdtKick
  repeat' (with_reducible first | assumption | apply Agree.refl | intro _ | (extract_lets +onlyGivenNames x; first | (refine (fun (_ : Agree 281474976710657 s x) => ?_ : Agree 281474976710657 s x → _) ?_; clear_value x) | (refine (fun (_ : Agree 281474976710657 s x.1) => ?_ : Agree 281474976710657 s x.1 → _) ?_; clear_value x) | clear_value x) | subst x | apply Agree.ite | apply Agree.then (k := State.putBit_ag _ _ _ _) | apply Agree.then (k := State.pwrMod_ag _ _) | decide | split)

theorem execWdtKick_ag (v : Word) (s : State) : ∀ t1, execWdtKick v s = .next t1 → Agree 281474976710657 s t1 := by
  intro t1 h
  obtain rfl := Host.Outcome.next.inj h
  repeat' (with_reducible first | assumption | apply Agree.refl | intro _ | apply Agree.then (k := State.wdtKick_ag _ _) | decide)

theorem State.wdtWarn_ag (s : State) : Agree 281474976768513 s (State.wdtWarn s) := by
  unfold State.wdtWarn
  repeat' (with_reducible first | assumption | apply Agree.refl | intro _ | (extract_lets +onlyGivenNames x; first | (refine (fun (_ : Agree 281474976768513 s x) => ?_ : Agree 281474976768513 s x → _) ?_; clear_value x) | (refine (fun (_ : Agree 281474976768513 s x.1) => ?_ : Agree 281474976768513 s x.1 → _) ?_; clear_value x) | clear_value x) | subst x | apply Agree.ite | apply Agree.then (k := State.reachCnt_ag _ _) | apply Agree.then (k := State.pwrMod_ag _ _) | apply Agree.then (k := State.pwrLog_ag _ _ _ _ _ _) | decide | split)

theorem execWdtWarn_ag (s : State) : ∀ t1, execWdtWarn s = .next t1 → Agree 281474976768513 s t1 := by
  intro t1 h
  obtain rfl := Host.Outcome.next.inj h
  repeat' (with_reducible first | assumption | apply Agree.refl | intro _ | apply Agree.then (k := State.wdtWarn_ag _) | decide)

theorem State.wdtTimeout_ag (s : State) : Agree 3377699720527869 s (State.wdtTimeout s) := by
  unfold State.wdtTimeout
  repeat' (with_reducible first | assumption | apply Agree.refl | intro _ | apply Agree.ite | apply Agree.then (k := State.reachCnt_ag _ _) | apply Agree.then (k := State.release_ag _) | apply Agree.then (k := State.resetAs_ag _ _) | decide | split)

theorem execWdtTimeout_ag (s : State) : ∀ t1, execWdtTimeout s = .next t1 → Agree 3377699720527869 s t1 := by
  intro t1 h
  obtain rfl := Host.Outcome.next.inj h
  repeat' (with_reducible first | assumption | apply Agree.refl | intro _ | apply Agree.then (k := State.wdtTimeout_ag _) | decide)

theorem execWdtCountClear_ag (s : State) : ∀ t1, execWdtCountClear s = .next t1 → Agree 32769 s t1 := by
  intro t1 h
  obtain rfl := Host.Outcome.next.inj h
  repeat' (with_reducible first | assumption | apply Agree.refl | intro _ | apply Agree.then (k := State.put_ag _ _ _ _ _) | apply Agree.then (k := State.reachCnt_ag _ _) | decide | split)

end Sys2Proof.Machine
end

