-- ==== Sys2Proof/Laws/Frame/BootCmd.lean ====
section
/-!
SUPPORT. Frames of the operations of Machine/BootCmd.lean: the fields each can change, as a mask.
-/
set_option linter.unusedTactic false
set_option linter.unreachableTactic false
namespace Sys2Proof.Machine
open Sys2Proof

theorem State.bootCmdErr_ag (s : State) (v : Word) : Agree 25089 s (State.bootCmdErr s v) := by
  unfold State.bootCmdErr
  repeat' (with_reducible first | assumption | apply Agree.refl | intro _ | apply Agree.then (k := State.putBit_ag _ _ _ _) | apply Agree.then (k := State.pwrLog_ag _ _ _ _ _ _) | decide)

theorem State.bootContinue_ag (s : State) (v : Word) : Agree 281474976735745 s (State.bootContinue s v) := by
  unfold State.bootContinue
  repeat' (with_reducible first | assumption | apply Agree.refl | intro _ | (extract_lets +onlyGivenNames x; first | (refine (fun (_ : Agree 281474976735745 s x) => ?_ : Agree 281474976735745 s x → _) ?_; clear_value x) | (refine (fun (_ : Agree 281474976735745 s x.1) => ?_ : Agree 281474976735745 s x.1 → _) ?_; clear_value x) | clear_value x) | subst x | apply Agree.ite | apply Agree.then (k := State.put_ag _ _ _ _ _) | apply Agree.then (k := State.putBit_ag _ _ _ _) | apply Agree.then (k := State.bootMod_ag _ _) | apply Agree.then (k := State.setStage_ag _ _) | apply Agree.then (k := State.bootCmdErr_ag _ _) | decide | split)

theorem State.bootRaise_ag (s : State) (v : Word) : Agree 281474976735745 s (State.bootRaise s v) := by
  unfold State.bootRaise
  repeat' (with_reducible first | assumption | apply Agree.refl | intro _ | (extract_lets +onlyGivenNames x; first | (refine (fun (_ : Agree 281474976735745 s x) => ?_ : Agree 281474976735745 s x → _) ?_; clear_value x) | (refine (fun (_ : Agree 281474976735745 s x.1) => ?_ : Agree 281474976735745 s x.1 → _) ?_; clear_value x) | clear_value x) | subst x | apply Agree.ite | apply Agree.then (k := State.wr_ag _ _ _) | apply Agree.then (k := State.pwrMod_ag _ _) | apply Agree.then (k := State.pwrLog_ag _ _ _ _ _ _) | apply Agree.then (k := State.bootCmdErr_ag _ _) | decide | split)

theorem execBootContinue_ag (v : Word) (s : State) : ∀ t1, execBootContinue v s = .next t1 → Agree 281474976735745 s t1 := by
  intro t1 h
  obtain rfl := Host.Outcome.next.inj h
  repeat' (with_reducible first | assumption | apply Agree.refl | intro _ | apply Agree.then (k := State.bootContinue_ag _ _) | decide)

theorem execBootRaiseMin_ag (v : Word) (s : State) : ∀ t1, execBootRaiseMin v s = .next t1 → Agree 281474976735745 s t1 := by
  intro t1 h
  obtain rfl := Host.Outcome.next.inj h
  repeat' (with_reducible first | assumption | apply Agree.refl | intro _ | apply Agree.then (k := State.bootRaise_ag _ _) | decide)

theorem State.bootCmdWrite_ag (s : State) (v : Word) : Agree 281474976735745 s (State.bootCmdWrite s v) := by
  unfold State.bootCmdWrite
  repeat' (with_reducible first | assumption | apply Agree.refl | intro _ | apply Agree.ite | apply Agree.then (k := State.bootContinue_ag _ _) | apply Agree.then (k := State.bootRaise_ag _ _) | decide | split)

end Sys2Proof.Machine
end

