-- ==== Sys2Proof/Laws/Frame/Tick.lean ====
section
/-!
SUPPORT. Frames of the operations of Machine/Tick.lean: the fields each can change, as a mask.
-/
set_option linter.unusedTactic false
set_option linter.unreachableTactic false
namespace Sys2Proof.Machine
open Sys2Proof

theorem State.clusterTick_ag (s : State) (c : Nat) : Agree 2182086657 s (State.clusterTick s c) := by
  unfold State.clusterTick
  repeat' (with_reducible first | assumption | apply Agree.refl | intro _ | (extract_lets +onlyGivenNames x; first | (refine (fun (_ : Agree 2182086657 s x) => ?_ : Agree 2182086657 s x → _) ?_; clear_value x) | (refine (fun (_ : Agree 2182086657 s x.1) => ?_ : Agree 2182086657 s x.1 → _) ?_; clear_value x) | clear_value x) | subst x | apply Agree.ite | apply Agree.then (k := State.trkMod_ag _ _ _) | apply Agree.then (k := State.setPhase_ag _ _ _) | apply Agree.then (k := State.clearWindows_ag _ _) | apply Agree.then (k := State.trkRestart_ag _ _) | apply Agree.then (k := State.elemMod_ag _ _ _) | decide | split)

theorem State.tickStart_ag (s : State) : Agree 329093010612745 s (State.tickStart s) := by
  unfold State.tickStart
  repeat' (with_reducible first | assumption | apply Agree.refl | intro _ | (extract_lets +onlyGivenNames x; first | (refine (fun (_ : Agree 329093010612745 s x) => ?_ : Agree 329093010612745 s x → _) ?_; clear_value x) | (refine (fun (_ : Agree 329093010612745 s x.1) => ?_ : Agree 329093010612745 s x.1 → _) ?_; clear_value x) | clear_value x) | subst x | apply Agree.ite | apply Agree.foldl | apply Agree.iteP | apply Agree.foldlP | apply Agree.then (k := State.wr_ag _ _ _) | apply Agree.then (k := State.tickMod_ag _ _) | apply Agree.then (k := State.setStep_ag _ _) | apply Agree.then (k := State.setLate_ag _ _) | apply Agree.then (k := State.setTicks_ag _ _) | apply Agree.then (k := State.reachTime_ag _ _) | apply Agree.then (k := State.lthMod_ag _ _) | apply Agree.then (k := State.regionResets_ag _) | apply Agree.then (k := State.clusterTick_ag _ _) | decide | split)

theorem State.skewMonitor_ag (s : State) (r skew : Nat) : Agree 16802305 s (State.skewMonitor s r skew) := by
  unfold State.skewMonitor
  repeat' (with_reducible first | assumption | apply Agree.refl | intro _ | (extract_lets +onlyGivenNames x; first | (refine (fun (_ : Agree 16802305 s x) => ?_ : Agree 16802305 s x → _) ?_; clear_value x) | (refine (fun (_ : Agree 16802305 s x.1) => ?_ : Agree 16802305 s x.1 → _) ?_; clear_value x) | clear_value x) | subst x | apply Agree.ite | apply Agree.then (k := State.put_ag _ _ _ _ _) | apply Agree.then (k := State.putBit_ag _ _ _ _) | apply Agree.then (k := State.setLate_ag _ _) | apply Agree.then (k := State.irq_ag _ _) | apply Agree.then (k := State.log_ag _ _ _ _ _) | decide | split)

theorem State.entryWork_ag (s : State) (c : Nat) : Agree 17628864184321 s (State.entryWork s c) := by
  unfold State.entryWork
  repeat' (with_reducible first | assumption | apply Agree.refl | intro _ | (extract_lets +onlyGivenNames x; first | (refine (fun (_ : Agree 17628864184321 s x) => ?_ : Agree 17628864184321 s x → _) ?_; clear_value x) | (refine (fun (_ : Agree 17628864184321 s x.1) => ?_ : Agree 17628864184321 s x.1 → _) ?_; clear_value x) | clear_value x) | subst x | apply Agree.ite | apply Agree.then (k := State.trkMod_ag _ _ _) | apply Agree.then (k := State.setPhase_ag _ _ _) | apply Agree.then (k := State.deliverProt_ag _ _) | apply Agree.then (k := State.phasors_ag _ _) | apply Agree.then (k := State.alignTrk_ag _ _) | apply Agree.then (k := State.deliverTrk_ag _ _) | apply Agree.then (k := State.ifdEvaluate_ag _ _) | apply Agree.then (k := State.gaugeTests_ag _ _) | decide | split)

theorem State.regionArrival_ag (s : State) (r skew : Nat) : Agree 17628880986625 s (State.regionArrival s r skew) := by
  unfold State.regionArrival
  repeat' (with_reducible first | assumption | apply Agree.refl | intro _ | (extract_lets +onlyGivenNames x; first | (refine (fun (_ : Agree 17628880986625 s x) => ?_ : Agree 17628880986625 s x → _) ?_; clear_value x) | (refine (fun (_ : Agree 17628880986625 s x.1) => ?_ : Agree 17628880986625 s x.1 → _) ?_; clear_value x) | clear_value x) | subst x | apply Agree.ite | apply Agree.foldl | apply Agree.then (k := State.skewMonitor_ag _ _ _) | apply Agree.then (k := State.entryWork_ag _ _) | decide | split)

theorem execRegionTickArrival_ag (r : Fin 4) (skew : Nat) (s : State) : ∀ t1, execRegionTickArrival r skew s = .next t1 → Agree 17628880986625 s t1 := by
  intro t1 h
  obtain rfl := Host.Outcome.next.inj h
  repeat' (with_reducible first | assumption | apply Agree.refl | intro _ | apply Agree.then (k := State.regionArrival_ag _ _ _) | decide)

theorem State.elementStart_ag (s : State) (c : Nat) : Agree 329774162441 s (State.elementStart s c) := by
  unfold State.elementStart
  repeat' (with_reducible first | assumption | apply Agree.refl | intro _ | (extract_lets +onlyGivenNames x; first | (refine (fun (_ : Agree 329774162441 s x) => ?_ : Agree 329774162441 s x → _) ?_; clear_value x) | (refine (fun (_ : Agree 329774162441 s x.1) => ?_ : Agree 329774162441 s x.1 → _) ?_; clear_value x) | clear_value x) | subst x | apply Agree.ite | apply Agree.then (k := State.setPhase_ag _ _ _) | apply Agree.then (k := State.tlStep_ag _) | apply Agree.then (k := State.bfCluster_ag _ _) | apply Agree.then (k := State.ifdPublish_ag _ _) | apply Agree.then (k := State.elemMod_ag _ _ _) | apply Agree.then (k := State.setCore_ag _ _ _) | decide | split)

theorem State.tickMet_ag (s : State) (c : Nat) : Agree 2147508225 s (State.tickMet s c) := by
  unfold State.tickMet
  repeat' (with_reducible first | assumption | apply Agree.refl | intro _ | (extract_lets +onlyGivenNames x; first | (refine (fun (_ : Agree 2147508225 s x) => ?_ : Agree 2147508225 s x → _) ?_; clear_value x) | (refine (fun (_ : Agree 2147508225 s x.1) => ?_ : Agree 2147508225 s x.1 → _) ?_; clear_value x) | clear_value x) | subst x | apply Agree.ite | apply Agree.foldl | apply Agree.then (k := State.put_ag _ _ _ _ _) | apply Agree.then (k := State.raiseRec_ag _ _) | apply Agree.then (k := State.elemMod_ag _ _ _) | decide | split)

theorem State.overrun_ag (s : State) (c : Nat) (late : Bool) : Agree 2147508737 s (State.overrun s c late) := by
  unfold State.overrun
  repeat' (with_reducible first | assumption | apply Agree.refl | intro _ | (extract_lets +onlyGivenNames x; first | (refine (fun (_ : Agree 2147508737 s x) => ?_ : Agree 2147508737 s x → _) ?_; clear_value x) | (refine (fun (_ : Agree 2147508737 s x.1) => ?_ : Agree 2147508737 s x.1 → _) ?_; clear_value x) | clear_value x) | subst x | apply Agree.ite | apply Agree.then (k := State.put_ag _ _ _ _ _) | apply Agree.then (k := State.putBit_ag _ _ _ _) | apply Agree.then (k := State.count_ag _ _ _ _ _) | apply Agree.then (k := State.irq_ag _ _) | apply Agree.then (k := State.log_ag _ _ _ _ _) | apply Agree.then (k := State.elemMod_ag _ _ _) | decide | split)

theorem State.coreDeadline_ag (s : State) (c : Nat) : Agree 3221250561 s (State.coreDeadline s c) := by
  unfold State.coreDeadline
  repeat' (with_reducible first | assumption | apply Agree.refl | intro _ | (extract_lets +onlyGivenNames x; first | (refine (fun (_ : Agree 3221250561 s x) => ?_ : Agree 3221250561 s x → _) ?_; clear_value x) | (refine (fun (_ : Agree 3221250561 s x.1) => ?_ : Agree 3221250561 s x.1 → _) ?_; clear_value x) | clear_value x) | subst x | apply Agree.ite | apply Agree.then (k := State.tmrDeadline_ag _ _) | apply Agree.then (k := State.coreMod_ag _ _ _) | apply Agree.then (k := State.tickMet_ag _ _) | apply Agree.then (k := State.overrun_ag _ _ _) | decide | split)

theorem State.coreSections_ag (s : State) (c : Nat) : Agree 2147483649 s (State.coreSections s c) := by
  unfold State.coreSections
  repeat' (with_reducible first | assumption | apply Agree.refl | intro _ | (extract_lets +onlyGivenNames x; first | (refine (fun (_ : Agree 2147483649 s x) => ?_ : Agree 2147483649 s x → _) ?_; clear_value x) | (refine (fun (_ : Agree 2147483649 s x.1) => ?_ : Agree 2147483649 s x.1 → _) ?_; clear_value x) | clear_value x) | subst x | apply Agree.ite | apply Agree.then (k := State.elemMod_ag _ _ _) | apply Agree.then (k := State.writeSections_ag _ _ _ _) | decide | split)

theorem State.ownDeadline_ag (s : State) : Agree 70680129462793 s (State.ownDeadline s) := by
  unfold State.ownDeadline
  repeat' (with_reducible first | assumption | apply Agree.refl | intro _ | apply Agree.ite | apply Agree.foldl | apply Agree.then (k := State.pairDeadline_ag _) | apply Agree.then (k := State.coreSections_ag _ _) | decide | split)

theorem State.elementDeadline_ag (s : State) (c : Nat) : Agree 70698518602249 s (State.elementDeadline s c) := by
  unfold State.elementDeadline
  repeat' (with_reducible first | assumption | apply Agree.refl | intro _ | (extract_lets +onlyGivenNames x; first | (refine (fun (_ : Agree 70698518602249 s x) => ?_ : Agree 70698518602249 s x → _) ?_; clear_value x) | (refine (fun (_ : Agree 70698518602249 s x.1) => ?_ : Agree 70698518602249 s x.1 → _) ?_; clear_value x) | clear_value x) | subst x | apply Agree.ite | apply Agree.then (k := State.tickMod_ag _ _) | apply Agree.then (k := State.setPhase_ag _ _ _) | apply Agree.then (k := State.tlStep_ag _) | apply Agree.then (k := State.coreDeadline_ag _ _) | apply Agree.then (k := State.ownDeadline_ag _) | decide | split)

theorem execElementDeadline_ag (c : Fin 16) (s : State) : ∀ t1, execElementDeadline c s = .next t1 → Agree 70698518602249 s t1 := by
  intro t1 h
  obtain rfl := Host.Outcome.next.inj h
  repeat' (with_reducible first | assumption | apply Agree.refl | intro _ | apply Agree.then (k := State.elementDeadline_ag _ _) | decide)

theorem State.faultClear_ag (s : State) (c : Nat) : Agree 2147483648 s (State.faultClear s c) := by
  unfold State.faultClear
  repeat' (with_reducible first | assumption | apply Agree.refl | intro _ | apply Agree.ite | apply Agree.then (k := State.elemMod_ag _ _ _) | decide | split)

theorem execClusterFaultClearWrite_ag (c : Fin 16) (s : State) : ∀ t1, execClusterFaultClearWrite c s = .next t1 → Agree 2147483648 s t1 := by
  intro t1 h
  obtain rfl := Host.Outcome.next.inj h
  repeat' (with_reducible first | assumption | apply Agree.refl | intro _ | apply Agree.then (k := State.faultClear_ag _ _) | decide)

theorem State.faultLift_ag (s : State) (c : Nat) : Agree 2147508225 s (State.faultLift s c) := by
  unfold State.faultLift
  repeat' (with_reducible first | assumption | apply Agree.refl | intro _ | (extract_lets +onlyGivenNames x; first | (refine (fun (_ : Agree 2147508225 s x) => ?_ : Agree 2147508225 s x → _) ?_; clear_value x) | (refine (fun (_ : Agree 2147508225 s x.1) => ?_ : Agree 2147508225 s x.1 → _) ?_; clear_value x) | clear_value x) | subst x | apply Agree.ite | apply Agree.then (k := State.put_ag _ _ _ _ _) | apply Agree.then (k := State.putBit_ag _ _ _ _) | apply Agree.then (k := State.log_ag _ _ _ _ _) | apply Agree.then (k := State.elemMod_ag _ _ _) | decide | split)

theorem execClusterFaultLift_ag (c : Fin 16) (s : State) : ∀ t1, execClusterFaultLift c s = .next t1 → Agree 2147508225 s t1 := by
  intro t1 h
  obtain rfl := Host.Outcome.next.inj h
  repeat' (with_reducible first | assumption | apply Agree.refl | intro _ | apply Agree.then (k := State.faultLift_ag _ _) | decide)

theorem State.ovrCfgWrite_ag (s : State) (c : Nat) (v : Word) : Agree 1 s (State.ovrCfgWrite s c v) := by
  unfold State.ovrCfgWrite
  repeat' (with_reducible first | assumption | apply Agree.refl | intro _ | apply Agree.ite | apply Agree.then (k := State.regWrite_ag _ _ _) | apply Agree.then (k := State.coreCmdErr_ag _ _) | decide | split)

theorem execOvrCfgWrite_ag (c : Fin 16) (v : Word) (s : State) : ∀ t1, execOvrCfgWrite c v s = .next t1 → Agree 1 s t1 := by
  intro t1 h
  obtain rfl := Host.Outcome.next.inj h
  repeat' (with_reducible first | assumption | apply Agree.refl | intro _ | apply Agree.then (k := State.ovrCfgWrite_ag _ _ _) | decide)

theorem State.ovrStatWrite_ag (s : State) (c : Nat) (v : Word) : Agree 2147483649 s (State.ovrStatWrite s c v) := by
  unfold State.ovrStatWrite
  repeat' (with_reducible first | assumption | apply Agree.refl | intro _ | (extract_lets +onlyGivenNames x; first | (refine (fun (_ : Agree 2147483649 s x) => ?_ : Agree 2147483649 s x → _) ?_; clear_value x) | (refine (fun (_ : Agree 2147483649 s x.1) => ?_ : Agree 2147483649 s x.1 → _) ?_; clear_value x) | clear_value x) | subst x | apply Agree.ite | apply Agree.whenI | apply Agree.then (k := State.putBit_ag _ _ _ _) | apply Agree.then (k := State.faultClear_ag _ _) | decide)

end Sys2Proof.Machine
end

