-- ==== Sys2Proof/Laws/Frame/BusWrite.lean ====
section
/-!
SUPPORT. Frames of the operations of Machine/BusWrite.lean: the fields each can change, as a mask.
-/
set_option linter.unusedTactic false
set_option linter.unreachableTactic false
namespace Sys2Proof.Machine
open Sys2Proof

theorem State.hbiErr_ag (s : State) (r : Req) (flag : Nat) (write : Bool) (addr be : Nat) : Agree 513 s (State.hbiErr s r flag write addr be) := by
  unfold State.hbiErr
  repeat' (with_reducible first | assumption | apply Agree.refl | intro _ | (extract_lets +onlyGivenNames x; first | (refine (fun (_ : Agree 513 s x) => ?_ : Agree 513 s x → _) ?_; clear_value x) | (refine (fun (_ : Agree 513 s x.1) => ?_ : Agree 513 s x.1 → _) ?_; clear_value x) | clear_value x) | subst x | apply Agree.ite | apply Agree.then (k := State.wr_ag _ _ _) | apply Agree.then (k := State.putBit_ag _ _ _ _) | apply Agree.then (k := State.irq_ag _ _) | decide | split)

theorem State.intForce_ag (s : State) (hi : Bool) (v : Word) : Agree 513 s (State.intForce s hi v) := by
  unfold State.intForce
  repeat' (with_reducible first | assumption | apply Agree.refl | intro _ | apply Agree.ite | apply Agree.foldl | apply Agree.then (k := State.irq_ag _ _) | decide | split)

theorem State.intClear_ag (s : State) (hi : Bool) (v : Word) : Agree 1 s (State.intClear s hi v) := by
  unfold State.intClear
  repeat' (with_reducible first | assumption | apply Agree.refl | intro _ | apply Agree.ite | apply Agree.then (k := State.regWrite_ag _ _ _) | decide | split)

theorem State.mboxS2h_ag (s : State) (r : Req) (n : Nat) (v : Word) : Agree 513 s (State.mboxS2h s r n v) := by
  unfold State.mboxS2h
  repeat' (with_reducible first | assumption | apply Agree.refl | intro _ | (extract_lets +onlyGivenNames x; first | (refine (fun (_ : Agree 513 s x) => ?_ : Agree 513 s x → _) ?_; clear_value x) | (refine (fun (_ : Agree 513 s x.1) => ?_ : Agree 513 s x.1 → _) ?_; clear_value x) | clear_value x) | subst x | apply Agree.ite | apply Agree.whenI | apply Agree.then (k := State.wr_ag _ _ _) | apply Agree.then (k := State.putBit_ag _ _ _ _) | apply Agree.then (k := State.raiseHost_ag _ _) | apply Agree.then (k := State.hbiErr_ag _ _ _ _ _ _) | decide | split)

theorem State.mboxH2s_ag (s : State) (r : Req) (n : Nat) (v : Word) : Agree 513 s (State.mboxH2s s r n v) := by
  unfold State.mboxH2s
  repeat' (with_reducible first | assumption | apply Agree.refl | intro _ | (extract_lets +onlyGivenNames x; first | (refine (fun (_ : Agree 513 s x) => ?_ : Agree 513 s x → _) ?_; clear_value x) | (refine (fun (_ : Agree 513 s x.1) => ?_ : Agree 513 s x.1 → _) ?_; clear_value x) | clear_value x) | subst x | apply Agree.ite | apply Agree.whenI | apply Agree.then (k := State.wr_ag _ _ _) | apply Agree.then (k := State.putBit_ag _ _ _ _) | apply Agree.then (k := State.raiseSup_ag _ _) | apply Agree.then (k := State.irq_ag _ _) | decide | split)

theorem State.claimCmd_ag (s : State) (r : Req) (v : Word) : Agree 156173 s (State.claimCmd s r v) := by
  unfold State.claimCmd
  repeat' (with_reducible first | assumption | apply Agree.refl | intro _ | (extract_lets +onlyGivenNames x; first | (refine (fun (_ : Agree 156173 s x) => ?_ : Agree 156173 s x → _) ?_; clear_value x) | (refine (fun (_ : Agree 156173 s x.1) => ?_ : Agree 156173 s x.1 → _) ?_; clear_value x) | clear_value x) | subst x | apply Agree.ite | apply Agree.then (k := State.queryOp_ag _ _) | apply Agree.then (k := State.claimRun_ag _ _ _) | apply Agree.then (k := State.releaseRun_ag _ _ _) | decide | split)

theorem State.sysWrite_ag (s : State) (r : Req) (a : Nat) (v : Word) : Agree 3377699720527869 s (State.sysWrite s r a v) := by
  unfold State.sysWrite
  repeat' (with_reducible first | assumption | apply Agree.refl | intro _ | apply Agree.ite | apply Agree.whenI | apply Agree.then (k := State.regWrite_ag _ _ _) | apply Agree.then (k := State.recheck_ag _ _) | apply Agree.then (k := State.sysRstWrite_ag _ _) | apply Agree.then (k := State.intForce_ag _ _ _) | apply Agree.then (k := State.mboxS2h_ag _ _ _ _) | apply Agree.then (k := State.mboxH2s_ag _ _ _ _) | apply Agree.then (k := State.claimCmd_ag _ _ _) | decide | split)

theorem State.tbCmd_ag (s : State) (r : Req) (v : Word) : Agree 57857 s (State.tbCmd s r v) := by
  unfold State.tbCmd
  repeat' (with_reducible first | assumption | apply Agree.refl | intro _ | (extract_lets +onlyGivenNames x; first | (refine (fun (_ : Agree 57857 s x) => ?_ : Agree 57857 s x → _) ?_; clear_value x) | (refine (fun (_ : Agree 57857 s x.1) => ?_ : Agree 57857 s x.1 → _) ?_; clear_value x) | clear_value x) | subst x | apply Agree.ite | apply Agree.then (k := State.tbMod_ag _ _) | apply Agree.then (k := State.tbErr_ag _ _ _ _ _) | apply Agree.then (k := State.tbCmdStart_ag _ _ _) | apply Agree.then (k := State.tbResetI_ag _) | apply Agree.then (k := State.tbCmdStep_ag _ _) | decide | split)

theorem State.stepCommit_ag (s : State) (r : Req) (v : Word) : Agree 1 s (State.stepCommit s r v) := by
  unfold State.stepCommit
  repeat' (with_reducible first | assumption | apply Agree.refl | intro _ | apply Agree.then (k := State.wr_ag _ _ _) | decide)

theorem State.tioWrite_ag (s : State) (r : Req) (n off : Nat) (v : Word) : Agree 156225 s (State.tioWrite s r n off v) := by
  unfold State.tioWrite
  repeat' (with_reducible first | assumption | apply Agree.refl | intro _ | (extract_lets +onlyGivenNames x; first | (refine (fun (_ : Agree 156225 s x) => ?_ : Agree 156225 s x → _) ?_; clear_value x) | (refine (fun (_ : Agree 156225 s x.1) => ?_ : Agree 156225 s x.1 → _) ?_; clear_value x) | clear_value x) | subst x | apply Agree.ite | apply Agree.then (k := State.wr_ag _ _ _) | apply Agree.then (k := State.regWrite_ag _ _ _) | apply Agree.then (k := State.hold_ag _ _ _ _) | apply Agree.then (k := State.tbErr_ag _ _ _ _ _) | apply Agree.then (k := State.tioCfgWrite_ag _ _ _ _) | apply Agree.then (k := State.tioRangeWrite_ag _ _ _ _) | decide | split)

theorem State.tbWrite_ag (s : State) (r : Req) (a : Nat) (v : Word) : Agree 254529 s (State.tbWrite s r a v) := by
  unfold State.tbWrite
  repeat' (with_reducible first | assumption | apply Agree.refl | intro _ | (extract_lets +onlyGivenNames x; first | (refine (fun (_ : Agree 254529 s x) => ?_ : Agree 254529 s x → _) ?_; clear_value x) | (refine (fun (_ : Agree 254529 s x.1) => ?_ : Agree 254529 s x.1 → _) ?_; clear_value x) | clear_value x) | subst x | apply Agree.ite | apply Agree.then (k := State.regWrite_ag _ _ _) | apply Agree.then (k := State.hold_ag _ _ _ _) | apply Agree.then (k := State.tbCtrlWrite_ag _ _) | apply Agree.then (k := State.addendCommit_ag _ _ _) | apply Agree.then (k := State.servoWrite_ag _ _) | apply Agree.then (k := State.offsCommit_ag _ _ _) | apply Agree.then (k := State.utcWrite_ag _ _) | apply Agree.then (k := State.almCtrlWrite_ag _ _ _ _) | apply Agree.then (k := State.almWrite_ag _ _ _ _ _) | apply Agree.then (k := State.almStatWrite_ag _ _ _ _ _) | apply Agree.then (k := State.tbCmd_ag _ _ _) | apply Agree.then (k := State.stepCommit_ag _ _ _) | apply Agree.then (k := State.tioWrite_ag _ _ _ _ _) | decide | split)

theorem State.clrCmd_ag (s : State) (r : Req) (v : Word) : Agree 562949953446403 s (State.clrCmd s r v) := by
  unfold State.clrCmd
  repeat' (with_reducible first | assumption | apply Agree.refl | intro _ | (extract_lets +onlyGivenNames x; first | (refine (fun (_ : Agree 562949953446403 s x) => ?_ : Agree 562949953446403 s x → _) ?_; clear_value x) | (refine (fun (_ : Agree 562949953446403 s x.1) => ?_ : Agree 562949953446403 s x.1 → _) ?_; clear_value x) | clear_value x) | subst x | apply Agree.ite | apply Agree.then (k := State.voidNonce_ag _) | apply Agree.then (k := State.clearRequest_ag _ _ _ _) | apply Agree.then (k := State.clearConfirm_ag _ _) | decide | split)

theorem State.tallyWrite_ag (s : State) (r : Req) (a : Nat) (v : Word) : Agree 562949953446467 s (State.tallyWrite s r a v) := by
  unfold State.tallyWrite
  repeat' (with_reducible first | assumption | apply Agree.refl | intro _ | (extract_lets +onlyGivenNames x; first | (refine (fun (_ : Agree 562949953446467 s x) => ?_ : Agree 562949953446467 s x → _) ?_; clear_value x) | (refine (fun (_ : Agree 562949953446467 s x.1) => ?_ : Agree 562949953446467 s x.1 → _) ?_; clear_value x) | clear_value x) | subst x | apply Agree.ite | apply Agree.whenI | apply Agree.then (k := State.regWrite_ag _ _ _) | apply Agree.then (k := State.hold_ag _ _ _ _) | apply Agree.then (k := State.bucketWrite_ag _ _ _ _) | apply Agree.then (k := State.postErr_ag _) | apply Agree.then (k := State.post_ag _ _ _) | apply Agree.then (k := State.tallyResume_ag _) | apply Agree.then (k := State.lrClear_ag _) | apply Agree.then (k := State.clrCmd_ag _ _ _) | decide | split)

theorem State.pairWrite_ag (s : State) (a : Nat) (v : Word) : Agree 70368744202753 s (State.pairWrite s a v) := by
  unfold State.pairWrite
  repeat' (with_reducible first | assumption | apply Agree.refl | intro _ | (extract_lets +onlyGivenNames x; first | (refine (fun (_ : Agree 70368744202753 s x) => ?_ : Agree 70368744202753 s x → _) ?_; clear_value x) | (refine (fun (_ : Agree 70368744202753 s x.1) => ?_ : Agree 70368744202753 s x.1 → _) ?_; clear_value x) | clear_value x) | subst x | apply Agree.ite | apply Agree.then (k := State.regWrite_ag _ _ _) | apply Agree.then (k := State.pairSwap_ag _ _ _ _) | apply Agree.then (k := State.pairResync_ag _) | apply Agree.then (k := State.pairCfgWrite_ag _ _) | decide | split)

theorem State.latheWrite_ag (s : State) (a : Nat) (v : Word) : Agree 1427137257997 s (State.latheWrite s a v) := by
  unfold State.latheWrite
  repeat' (with_reducible first | assumption | apply Agree.refl | intro _ | (extract_lets +onlyGivenNames x; first | (refine (fun (_ : Agree 1427137257997 s x) => ?_ : Agree 1427137257997 s x → _) ?_; clear_value x) | (refine (fun (_ : Agree 1427137257997 s x.1) => ?_ : Agree 1427137257997 s x.1 → _) ?_; clear_value x) | clear_value x) | subst x | apply Agree.ite | apply Agree.whenI | apply Agree.then (k := State.put_ag _ _ _ _ _) | apply Agree.then (k := State.regWrite_ag _ _ _) | apply Agree.then (k := State.armCancel_ag _ _) | apply Agree.then (k := State.lthHaltCmd_ag _) | apply Agree.then (k := State.lthLoad_ag _) | apply Agree.then (k := State.lthArm_ag _) | apply Agree.then (k := State.lthRevert_ag _) | apply Agree.then (k := State.lthStart_ag _) | apply Agree.then (k := State.lthCfgWrite_ag _ _ _ _) | decide | split)

theorem State.fioWrite_ag (s : State) (r : Req) (a : Nat) (v : Word) : Agree 463990841865 s (State.fioWrite s r a v) := by
  unfold State.fioWrite
  repeat' (with_reducible first | assumption | apply Agree.refl | intro _ | (extract_lets +onlyGivenNames x; first | (refine (fun (_ : Agree 463990841865 s x) => ?_ : Agree 463990841865 s x → _) ?_; clear_value x) | (refine (fun (_ : Agree 463990841865 s x.1) => ?_ : Agree 463990841865 s x.1 → _) ?_; clear_value x) | clear_value x) | subst x | apply Agree.ite | apply Agree.then (k := State.regWrite_ag _ _ _) | apply Agree.then (k := State.fioDrvWrite_ag _ _ _ _) | apply Agree.then (k := State.fioGrpWrite_ag _ _ _ _) | apply Agree.then (k := State.fioCfgCmd_ag _ _ _ _) | decide | split)

theorem State.recCtrlWrite_ag (s : State) (r : Req) (i : Nat) (v : Word) : Agree 4398046536193 s (State.recCtrlWrite s r i v) := by
  unfold State.recCtrlWrite
  repeat' (with_reducible first | assumption | apply Agree.refl | intro _ | apply Agree.ite | apply AgreeE.ok | apply AgreeE.jump | apply AgreeE.done | apply AgreeE.trap | apply AgreeE.ite | apply State.recGuard_ho | apply Agree.then (k := State.recStart_ag _ _) | apply Agree.then (k := State.recStopReq_ag _ _) | decide | split)

theorem State.recCmdWrite_ag (s : State) (r : Req) (i : Nat) (v : Word) : Agree 13194139560451 s (State.recCmdWrite s r i v) := by
  unfold State.recCmdWrite
  repeat' (with_reducible first | assumption | apply Agree.refl | intro _ | apply Agree.ite | apply AgreeE.ok | apply AgreeE.jump | apply AgreeE.done | apply AgreeE.trap | apply AgreeE.ite | apply Agree.then (k := State.recTrigger_ag _ _ _ _) | apply State.recGuard_ho | apply Agree.then (k := State.recRelease_ag _ _) | decide | split)

theorem State.recWrite_ag (s : State) (r : Req) (a : Nat) (v : Word) : Agree 65970697693703 s (State.recWrite s r a v) := by
  unfold State.recWrite
  repeat' (with_reducible first | assumption | apply Agree.refl | intro _ | (extract_lets +onlyGivenNames x; first | (refine (fun (_ : Agree 65970697693703 s x) => ?_ : Agree 65970697693703 s x → _) ?_; clear_value x) | (refine (fun (_ : Agree 65970697693703 s x.1) => ?_ : Agree 65970697693703 s x.1 → _) ?_; clear_value x) | clear_value x) | subst x | apply Agree.ite | apply AgreeE.ok | apply AgreeE.jump | apply AgreeE.done | apply AgreeE.trap | apply AgreeE.ite | apply Agree.then (k := State.regWrite_ag _ _ _) | apply State.recGuard_ho | apply Agree.then (k := State.blzStart_ag _ _) | apply Agree.then (k := State.blzStop_ag _ _) | apply Agree.then (k := State.recConfig_ag _ _ _ _ _) | apply Agree.then (k := State.recCtrlWrite_ag _ _ _ _) | apply Agree.then (k := State.recCmdWrite_ag _ _ _ _) | decide | split)

theorem State.pwrWrite_ag (s : State) (a : Nat) (v : Word) : Agree 281474976735745 s (State.pwrWrite s a v) := by
  unfold State.pwrWrite
  repeat' (with_reducible first | assumption | apply Agree.refl | intro _ | (extract_lets +onlyGivenNames x; first | (refine (fun (_ : Agree 281474976735745 s x) => ?_ : Agree 281474976735745 s x → _) ?_; clear_value x) | (refine (fun (_ : Agree 281474976735745 s x.1) => ?_ : Agree 281474976735745 s x.1 → _) ?_; clear_value x) | clear_value x) | subst x | apply Agree.ite | apply Agree.foldl | apply Agree.then (k := State.regWrite_ag _ _ _) | apply Agree.then (k := State.domWrite_ag _ _) | apply Agree.then (k := State.halfOne_ag _ _ _) | apply Agree.then (k := State.avsWrite_ag _ _ _) | apply Agree.then (k := State.tcfgWrite_ag _ _) | apply Agree.then (k := State.wdtWrite_ag _ _) | apply Agree.then (k := State.wdtKick_ag _ _) | apply Agree.then (k := State.bootCmdWrite_ag _ _) | decide | split)

theorem State.coreRegWrite_ag (s : State) (c off : Nat) (v : Word) : Agree 10745963021 s (State.coreRegWrite s c off v) := by
  unfold State.coreRegWrite
  repeat' (with_reducible first | assumption | apply Agree.refl | intro _ | (extract_lets +onlyGivenNames x; first | (refine (fun (_ : Agree 10745963021 s x) => ?_ : Agree 10745963021 s x → _) ?_; clear_value x) | (refine (fun (_ : Agree 10745963021 s x.1) => ?_ : Agree 10745963021 s x.1 → _) ?_; clear_value x) | clear_value x) | subst x | apply Agree.ite | apply Agree.then (k := State.regWrite_ag _ _ _) | apply Agree.then (k := State.trkCfgWrite_ag _ _ _) | apply Agree.then (k := State.clSrcWrite_ag _ _ _) | apply Agree.then (k := State.coreCmdErr_ag _ _) | apply Agree.then (k := State.coreLoad_ag _ _) | apply Agree.then (k := State.coreActivateCmd_ag _ _) | apply Agree.then (k := State.coreRevert_ag _ _) | apply Agree.then (k := State.coreStopReq_ag _ _) | apply Agree.then (k := State.coreStartReq_ag _ _) | apply Agree.then (k := State.actAtWrite_ag _ _ _) | apply Agree.then (k := State.ovrCfgWrite_ag _ _ _) | apply Agree.then (k := State.ovrStatWrite_ag _ _ _) | decide | split)

theorem State.laneRegWrite_ag (s : State) (ch o : Nat) (v : Word) : Agree 2122241 s (State.laneRegWrite s ch o v) := by
  unfold State.laneRegWrite
  repeat' (with_reducible first | assumption | apply Agree.refl | intro _ | (extract_lets +onlyGivenNames x; first | (refine (fun (_ : Agree 2122241 s x) => ?_ : Agree 2122241 s x → _) ?_; clear_value x) | (refine (fun (_ : Agree 2122241 s x.1) => ?_ : Agree 2122241 s x.1 → _) ?_; clear_value x) | clear_value x) | subst x | apply Agree.ite | apply Agree.then (k := State.regWrite_ag _ _ _) | apply Agree.then (k := State.calCfgWrite_ag _ _ _) | apply Agree.then (k := State.trimWrite_ag _ _ _ _) | apply Agree.then (k := State.stcCtrlWrite_ag _ _ _) | apply Agree.then (k := State.stcThrDnWrite_ag _ _ _) | apply Agree.then (k := State.stcThrUpWrite_ag _ _ _) | apply Agree.then (k := State.fadeRequest_ag _ _ _) | apply Agree.then (k := State.structWrite_ag _ _ _ _) | apply Agree.then (k := State.runStop_ag _ _) | apply Agree.then (k := State.runStart_ag _ _) | apply Agree.then (k := State.loadDef_ag _ _ _) | decide | split)

theorem State.clusterWrite_ag (s : State) (r : Req) (c off width : Nat) (v : Word) : Agree 563287253213837 s (State.clusterWrite s r c off width v) := by
  unfold State.clusterWrite
  repeat' (with_reducible first | assumption | apply Agree.refl | intro _ | apply Agree.ite | apply Agree.then (k := State.wr_ag _ _ _) | apply Agree.then (k := State.coefWrite_ag _ _ _ _ _) | apply Agree.then (k := State.gaugeTable_ag _ _ _ _ _) | apply Agree.then (k := State.detWrite_ag _ _ _ _) | apply Agree.then (k := State.primRegWrite_ag _ _ _ _) | apply Agree.then (k := State.dmemPort_ag _ _ _ _ _) | apply Agree.then (k := State.imemPort_ag _ _) | apply Agree.then (k := State.coreRegWrite_ag _ _ _ _) | apply Agree.then (k := State.laneRegWrite_ag _ _ _ _) | decide | split)

end Sys2Proof.Machine
end

