-- ==== Sys2Proof/Laws/Frame/HostBus.lean ====
section
/-!
SUPPORT. Frames of the operations of Machine/HostBus.lean: the fields each can change, as a mask.
-/
set_option linter.unusedTactic false
set_option linter.unreachableTactic false
namespace Sys2Proof.Machine
open Sys2Proof

theorem State.directWrite_ag (s : State) (r : Req) (a : Nat) (v : Word) : Agree 3377699720527871 s (State.directWrite s r a v) := by
  unfold State.directWrite
  repeat' (with_reducible first | assumption | apply Agree.refl | intro _ | (extract_lets +onlyGivenNames x; first | (refine (fun (_ : Agree 3377699720527871 s x) => ?_ : Agree 3377699720527871 s x → _) ?_; clear_value x) | (refine (fun (_ : Agree 3377699720527871 s x.1) => ?_ : Agree 3377699720527871 s x.1 → _) ?_; clear_value x) | clear_value x) | subst x | apply Agree.ite | apply Agree.then (k := State.regWrite_ag _ _ _) | apply Agree.then (k := State.canBlockWrite_ag _ _ _ _ _) | apply Agree.then (k := State.ethWrite_ag _ _ _ _) | apply Agree.then (k := State.tripWrite_ag _ _ _ _) | apply Agree.then (k := State.sysWrite_ag _ _ _ _) | apply Agree.then (k := State.tbWrite_ag _ _ _ _) | apply Agree.then (k := State.tallyWrite_ag _ _ _ _) | apply Agree.then (k := State.pairWrite_ag _ _ _) | apply Agree.then (k := State.latheWrite_ag _ _ _) | apply Agree.then (k := State.fioWrite_ag _ _ _ _) | apply Agree.then (k := State.recWrite_ag _ _ _ _) | apply Agree.then (k := State.pwrWrite_ag _ _ _) | decide | split)

theorem State.indMod_ag (s : State) (r : Req) (f : Ind → Ind) : Agree 128 s (State.indMod s r f) := by
  unfold State.indMod
  repeat' (with_reducible first | assumption | apply Agree.refl | intro _ | apply Agree.then (k := State.setInd_ag _ _ _) | decide)

theorem State.indAddrWrite_ag (s : State) (r : Req) (v : Word) : Agree 128 s (State.indAddrWrite s r v) := by
  unfold State.indAddrWrite
  repeat' (with_reducible first | assumption | apply Agree.refl | intro _ | apply Agree.ite | apply Agree.then (k := State.indMod_ag _ _ _) | decide | split)

theorem State.indCtrlWrite_ag (s : State) (r : Req) (v : Word) : Agree 128 s (State.indCtrlWrite s r v) := by
  unfold State.indCtrlWrite
  repeat' (with_reducible first | assumption | apply Agree.refl | intro _ | apply Agree.ite | apply Agree.then (k := State.indMod_ag _ _ _) | decide | split)

theorem State.indDataWrite_ag (s : State) (r : Req) (v : Word) : Agree 641 s (State.indDataWrite s r v) := by
  unfold State.indDataWrite
  repeat' (with_reducible first | assumption | apply Agree.refl | intro _ | (extract_lets +onlyGivenNames x; first | (refine (fun (_ : Agree 641 s x) => ?_ : Agree 641 s x → _) ?_; clear_value x) | (refine (fun (_ : Agree 641 s x.1) => ?_ : Agree 641 s x.1 → _) ?_; clear_value x) | clear_value x) | subst x | apply Agree.ite | apply Agree.then (k := State.indFail_ag _ _ _) | apply Agree.then (k := State.indMod_ag _ _ _) | decide | split)

theorem State.indDataRead_ag (s : State) (r : Req) : Agree 657 s (State.indDataRead s r) := by
  unfold State.indDataRead
  repeat' (with_reducible first | assumption | apply Agree.refl | intro _ | (extract_lets +onlyGivenNames x; first | (refine (fun (_ : Agree 657 s x) => ?_ : Agree 657 s x → _) ?_; clear_value x) | (refine (fun (_ : Agree 657 s x.1) => ?_ : Agree 657 s x.1 → _) ?_; clear_value x) | clear_value x) | subst x | apply Agree.ite | apply Agree.then (k := State.setInd_ag _ _ _) | apply Agree.then (k := State.answer_ag _ _ _) | apply Agree.then (k := State.indFail_ag _ _ _) | decide | split)

theorem State.indStatWrite_ag (s : State) (r : Req) (v : Word) : Agree 128 s (State.indStatWrite s r v) := by
  unfold State.indStatWrite
  repeat' (with_reducible first | assumption | apply Agree.refl | intro _ | apply Agree.then (k := State.indMod_ag _ _ _) | decide)

theorem State.readClear_ag (s : State) (a : Nat) : Agree 1 s (State.readClear s a) := by
  unfold State.readClear
  repeat' (with_reducible first | assumption | apply Agree.refl | intro _ | apply Agree.ite | apply Agree.then (k := State.wr_ag _ _ _) | decide | split)

theorem State.clusterWord_ag (s : State) (c o : Nat) : Agree 1 s (State.clusterWord s c o).1 := by
  unfold State.clusterWord
  repeat' (with_reducible first | assumption | apply Agree.refl | intro _ | (extract_lets +onlyGivenNames x; first | (refine (fun (_ : Agree 1 s x) => ?_ : Agree 1 s x → _) ?_; clear_value x) | (refine (fun (_ : Agree 1 s x.1) => ?_ : Agree 1 s x.1 → _) ?_; clear_value x) | clear_value x) | subst x | apply Agree.ite | apply Agree.iteP | apply Agree.then (k := State.readClear_ag _ _) | decide | split)

theorem State.indRead_ag (s : State) (a width : Nat) : Agree 1 s (State.indRead s a width).1 := by
  unfold State.indRead
  repeat' (with_reducible first | assumption | apply Agree.refl | intro _ | (extract_lets +onlyGivenNames x; first | (refine (fun (_ : Agree 1 s x) => ?_ : Agree 1 s x → _) ?_; clear_value x) | (refine (fun (_ : Agree 1 s x.1) => ?_ : Agree 1 s x.1 → _) ?_; clear_value x) | clear_value x) | subst x | apply Agree.ite | apply Agree.iteP | apply Agree.then (k := State.clusterWord_ag _ _ _) | decide | split)

theorem State.indWrite_ag (s : State) (r : Req) (a width : Nat) (v : Word) : Agree 563287253219983 s (State.indWrite s r a width v) := by
  unfold State.indWrite
  repeat' (with_reducible first | assumption | apply Agree.refl | intro _ | apply Agree.ite | apply Agree.then (k := State.mramAccess_ag _ _ _ _ _ _ _) | apply Agree.then (k := State.clusterWrite_ag _ _ _ _ _ _) | decide | split)

theorem State.prefetchOne_ag (s : State) (r : Req) (ok : Bool) : Agree 641 s (State.prefetchOne s r ok) := by
  unfold State.prefetchOne
  repeat' (with_reducible first | assumption | apply Agree.refl | intro _ | (extract_lets +onlyGivenNames x; first | (refine (fun (_ : Agree 641 s x) => ?_ : Agree 641 s x → _) ?_; clear_value x) | (refine (fun (hf : ∀ t, Agree 641 s t → Agree 641 s (x t)) => ?_ : (∀ t, Agree 641 s t → Agree 641 s (x t)) → _) (fun _ _ => ?_); clear_value x) | (refine (fun (hg : ∀ a t, Agree 641 s t → Agree 641 s (x a t)) => ?_ : (∀ a t, Agree 641 s t → Agree 641 s (x a t)) → _) (fun _ _ _ => ?_); clear_value x) | (refine (fun (hk : ∀ a, Agree 641 s (x a)) => ?_ : (∀ a, Agree 641 s (x a)) → _) (fun _ => ?_); clear_value x) | (refine (fun (hp : ∀ t a b, Agree 641 s t → Agree 641 s (x t a b)) => ?_ : (∀ t a b, Agree 641 s t → Agree 641 s (x t a b)) → _) (fun _ _ _ _ => ?_); clear_value x) | (refine (fun (_ : Agree 641 s x.1) => ?_ : Agree 641 s x.1 → _) ?_; clear_value x) | clear_value x) | subst x | apply hf | apply hg | apply hp | apply hk | apply Agree.ite | apply Agree.iteP | apply Agree.then (k := State.indFail_ag _ _ _) | apply Agree.then (k := State.indMod_ag _ _ _) | apply Agree.then (k := State.indRead_ag _ _ _) | decide | split)

theorem State.prefetchBlock_ag (s : State) (r : Req) (block n : Nat) : Agree 641 s (s.prefetchBlock r block n) := by
  induction n generalizing s with
  | zero => apply Agree.refl
  | succ n ih =>
    unfold State.prefetchBlock
    extract_lets x
    clear_value x
    apply Agree.ite <;> intro _
    · exact Agree.then (State.prefetchOne_ag _ _ _) (ih _) (by decide)
    · apply Agree.refl

theorem State.prefetchDone_ag (s : State) (r : Req) (ok : Bool) : Agree 641 s (State.prefetchDone s r ok) := by
  unfold State.prefetchDone
  repeat' (with_reducible first | assumption | apply Agree.refl | intro _ | (extract_lets +onlyGivenNames x; first | (refine (fun (_ : Agree 641 s x) => ?_ : Agree 641 s x → _) ?_; clear_value x) | (refine (fun (_ : Agree 641 s x.1) => ?_ : Agree 641 s x.1 → _) ?_; clear_value x) | clear_value x) | subst x | apply Agree.ite | apply Agree.then (k := State.prefetchOne_ag _ _ _) | apply Agree.then (k := State.prefetchBlock_ag _ _ _ _) | decide | split)

theorem execIndPrefetchDone_ag (req : Req) (ok : Bool) (s : State) : ∀ t1, execIndPrefetchDone req ok s = .next t1 → Agree 641 s t1 := by
  intro t1 h
  obtain rfl := Host.Outcome.next.inj h
  repeat' (with_reducible first | assumption | apply Agree.refl | intro _ | apply Agree.then (k := State.prefetchDone_ag _ _ _) | decide)

theorem State.queuedDone_ag (s : State) (r : Req) (ok : Bool) : Agree 563287253219983 s (State.queuedDone s r ok) := by
  unfold State.queuedDone
  repeat' (with_reducible first | assumption | apply Agree.refl | intro _ | (extract_lets +onlyGivenNames x; first | (refine (fun (_ : Agree 563287253219983 s x) => ?_ : Agree 563287253219983 s x → _) ?_; clear_value x) | (refine (fun (_ : Agree 563287253219983 s x.1) => ?_ : Agree 563287253219983 s x.1 → _) ?_; clear_value x) | clear_value x) | subst x | apply Agree.ite | apply Agree.then (k := State.setInd_ag _ _ _) | apply Agree.then (k := State.indFail_ag _ _ _) | apply Agree.then (k := State.indMod_ag _ _ _) | apply Agree.then (k := State.indWrite_ag _ _ _ _ _) | decide | split)

theorem execIndQueuedWriteDone_ag (req : Req) (ok : Bool) (s : State) : ∀ t1, execIndQueuedWriteDone req ok s = .next t1 → Agree 563287253219983 s t1 := by
  intro t1 h
  obtain rfl := Host.Outcome.next.inj h
  repeat' (with_reducible first | assumption | apply Agree.refl | intro _ | apply Agree.then (k := State.queuedDone_ag _ _ _) | decide)

theorem State.hbiWrite_ag (s : State) (r : Req) (a : Nat) (v : Word) : Agree 641 s (State.hbiWrite s r a v) := by
  unfold State.hbiWrite
  repeat' (with_reducible first | assumption | apply Agree.refl | intro _ | apply Agree.ite | apply Agree.then (k := State.regWrite_ag _ _ _) | apply Agree.then (k := State.indAddrWrite_ag _ _ _) | apply Agree.then (k := State.indCtrlWrite_ag _ _ _) | apply Agree.then (k := State.indDataWrite_ag _ _ _) | apply Agree.then (k := State.indStatWrite_ag _ _ _) | decide | split)

theorem State.busWrite_ag (s : State) (r : Req) (addr be : Nat) (v : Word) : Agree 3377699720527871 s (State.busWrite s r addr be v) := by
  unfold State.busWrite
  repeat' (with_reducible first | assumption | apply Agree.refl | intro _ | (extract_lets +onlyGivenNames x; first | (refine (fun (_ : Agree 3377699720527871 s x) => ?_ : Agree 3377699720527871 s x → _) ?_; clear_value x) | (refine (fun (_ : Agree 3377699720527871 s x.1) => ?_ : Agree 3377699720527871 s x.1 → _) ?_; clear_value x) | clear_value x) | subst x | apply Agree.ite | apply Agree.whenI | apply Agree.then (k := State.hbiErr_ag _ _ _ _ _ _) | apply Agree.then (k := State.directWrite_ag _ _ _ _) | apply Agree.then (k := State.hbiWrite_ag _ _ _ _) | decide | split)

theorem State.mboxRead_ag (s : State) (r : Req) (s2h : Bool) (n : Nat) : Agree 17 s (State.mboxRead s r s2h n) := by
  unfold State.mboxRead
  repeat' (with_reducible first | assumption | apply Agree.refl | intro _ | (extract_lets +onlyGivenNames x; first | (refine (fun (_ : Agree 17 s x) => ?_ : Agree 17 s x → _) ?_; clear_value x) | (refine (fun (_ : Agree 17 s x.1) => ?_ : Agree 17 s x.1 → _) ?_; clear_value x) | clear_value x) | subst x | apply Agree.ite | apply Agree.then (k := State.putBit_ag _ _ _ _) | apply Agree.then (k := State.answer_ag _ _ _) | decide | split)

theorem State.canRead_ag (s : State) (r : Req) (a : Nat) : Agree 17 s (State.canRead s r a) := by
  unfold State.canRead
  repeat' (with_reducible first | assumption | apply Agree.refl | intro _ | (extract_lets +onlyGivenNames x; first | (refine (fun (_ : Agree 17 s x) => ?_ : Agree 17 s x → _) ?_; clear_value x) | (refine (fun (_ : Agree 17 s x.1) => ?_ : Agree 17 s x.1 → _) ?_; clear_value x) | clear_value x) | subst x | apply Agree.ite | apply Agree.then (k := State.answer_ag _ _ _) | apply Agree.then (k := State.canW3Read_ag _ _ _ _) | apply Agree.then (k := State.readClear_ag _ _) | decide | split)

theorem State.readReg_ag (s : State) (r : Req) (a : Nat) : Agree 563121752269489 s (State.readReg s r a) := by
  unfold State.readReg
  repeat' (with_reducible first | assumption | apply Agree.refl | intro _ | apply Agree.ite | apply Agree.then (k := State.answer_ag _ _ _) | apply Agree.then (k := State.txtsRead_ag _ _) | apply Agree.then (k := State.tblRead_ag _ _) | apply Agree.then (k := State.fioEvtRead_ag _ _) | apply Agree.then (k := State.timeFracRead_ag _ _) | apply Agree.then (k := State.cntRead_ag _ _) | apply Agree.then (k := State.tickIdxRead_ag _ _) | apply Agree.then (k := State.almLastRead_ag _ _ _) | apply Agree.then (k := State.tioCapRead_ag _ _ _) | apply Agree.then (k := State.turnRead_ag _ _) | apply Agree.then (k := State.indDataRead_ag _ _) | apply Agree.then (k := State.readClear_ag _ _) | apply Agree.then (k := State.mboxRead_ag _ _ _ _) | apply Agree.then (k := State.canRead_ag _ _ _) | decide | split)

theorem State.busRead_ag (s : State) (r : Req) (addr be : Nat) : Agree 563121752269489 s (State.busRead s r addr be) := by
  unfold State.busRead
  repeat' (with_reducible first | assumption | apply Agree.refl | intro _ | (extract_lets +onlyGivenNames x; first | (refine (fun (_ : Agree 563121752269489 s x) => ?_ : Agree 563121752269489 s x → _) ?_; clear_value x) | (refine (fun (_ : Agree 563121752269489 s x.1) => ?_ : Agree 563121752269489 s x.1 → _) ?_; clear_value x) | clear_value x) | subst x | apply Agree.ite | apply Agree.then (k := State.answer_ag _ _ _) | apply Agree.then (k := State.hbiErr_ag _ _ _ _ _ _) | apply Agree.then (k := State.readReg_ag _ _ _) | decide | split)

theorem execRegisterWrite_ag (req : Req) (addr : BitVec 20) (be : BitVec 4) (v : Word) (s : State) : ∀ t1, execRegisterWrite req addr be v s = .next t1 → Agree 3377699720527871 s t1 := by
  intro t1 h
  obtain rfl := Host.Outcome.next.inj h
  repeat' (with_reducible first | assumption | apply Agree.refl | intro _ | apply Agree.then (k := State.busWrite_ag _ _ _ _ _) | decide)

theorem State.aliasWrite_ag (s : State) (r : Req) (win a be : Nat) (v : Word) : Agree 3377699720527871 s (State.aliasWrite s r win a be v) := by
  unfold State.aliasWrite
  repeat' (with_reducible first | assumption | apply Agree.refl | intro _ | apply Agree.then (k := State.busWrite_ag _ _ _ _ _) | decide)

theorem execAliasWrite_ag (req : Req) (win : Fin 3) (addr : BitVec 18) (be : BitVec 4) (v : Word) (s : State) : ∀ t1, execAliasWrite req win addr be v s = .next t1 → Agree 3377699720527871 s t1 := by
  intro t1 h
  obtain rfl := Host.Outcome.next.inj h
  repeat' (with_reducible first | assumption | apply Agree.refl | intro _ | apply Agree.then (k := State.aliasWrite_ag _ _ _ _ _ _) | decide)

theorem execReadClear_ag (req : Req) (addr : BitVec 20) (s : State) : ∀ t1, execReadClear req addr s = .next t1 → Agree 563121752269489 s t1 := by
  intro t1 h
  obtain rfl := Host.Outcome.next.inj h
  repeat' (with_reducible first | assumption | apply Agree.refl | intro _ | apply Agree.then (k := State.busRead_ag _ _ _ _) | decide)

theorem execUnmappedAccess_ag (req : Req) (write : Bool) (addr : BitVec 20) (be : BitVec 4) (s : State) : ∀ t1, execUnmappedAccess req write addr be s = .next t1 → Agree 3377699720527871 s t1 := by
  intro t1 h
  obtain rfl := Host.Outcome.next.inj h
  repeat' (with_reducible first | assumption | apply Agree.refl | intro _ | apply Agree.ite | apply Agree.then (k := State.busWrite_ag _ _ _ _ _) | apply Agree.then (k := State.busRead_ag _ _ _ _) | decide | split)

theorem State.spiRead_ag (s : State) (a be : Nat) : Agree 2814921565954737 s (State.spiRead s a be) := by
  unfold State.spiRead
  repeat' (with_reducible first | assumption | apply Agree.refl | intro _ | (extract_lets +onlyGivenNames x; first | (refine (fun (_ : Agree 2814921565954737 s x) => ?_ : Agree 2814921565954737 s x → _) ?_; clear_value x) | (refine (fun (_ : Agree 2814921565954737 s x.1) => ?_ : Agree 2814921565954737 s x.1 → _) ?_; clear_value x) | clear_value x) | subst x | apply Agree.then (k := State.setSpiOut_ag _ _) | apply Agree.then (k := State.busRead_ag _ _ _ _) | decide)

theorem State.spiWords_ag (s : State) (rd inc : Bool) (be a : Nat) (l : List Word) : Agree 3377699720527871 s (s.spiWords rd inc be a l) := by
  induction l generalizing s a with
  | nil => apply Agree.refl
  | cons w ws ih =>
    unfold State.spiWords
    refine Agree.then ?_ (ih _ _) (by decide)
    apply Agree.ite <;> intro _
    · exact Agree.mono (State.spiRead_ag _ _ _) (by decide)
    · exact Agree.mono (State.busWrite_ag _ _ _ _ _) (by decide)

theorem State.spiFrame_ag (s : State) (h : Word) (ws : List Word) : Agree 3377699720527871 s (State.spiFrame s h ws) := by
  unfold State.spiFrame
  repeat' (with_reducible first | assumption | apply Agree.refl | intro _ | (extract_lets +onlyGivenNames x; first | (refine (fun (_ : Agree 3377699720527871 s x) => ?_ : Agree 3377699720527871 s x → _) ?_; clear_value x) | (refine (fun (_ : Agree 3377699720527871 s x.1) => ?_ : Agree 3377699720527871 s x.1 → _) ?_; clear_value x) | clear_value x) | subst x | apply Agree.ite | apply Agree.then (k := State.putBit_ag _ _ _ _) | apply Agree.then (k := State.setSpiOut_ag _ _) | apply Agree.then (k := State.irq_ag _ _) | apply Agree.then (k := State.spiWords_ag _ _ _ _ _ _) | decide | split)

theorem execSpiFrame_ag (hdr : Word) (ws : List Word) (s : State) : ∀ t1, execSpiFrame hdr ws s = .next t1 → Agree 3377699720527871 s t1 := by
  intro t1 h
  obtain rfl := Host.Outcome.next.inj h
  repeat' (with_reducible first | assumption | apply Agree.refl | intro _ | apply Agree.then (k := State.spiFrame_ag _ _ _) | decide)

theorem execHbiIndAddrWrite_ag (req : Req) (v : Word) (s : State) : ∀ t1, execHbiIndAddrWrite req v s = .next t1 → Agree 128 s t1 := by
  intro t1 h
  obtain rfl := Host.Outcome.next.inj h
  repeat' (with_reducible first | assumption | apply Agree.refl | intro _ | apply Agree.ite | apply Agree.then (k := State.indAddrWrite_ag _ _ _) | decide)

theorem execHbiIndCtrlWrite_ag (req : Req) (v : Word) (s : State) : ∀ t1, execHbiIndCtrlWrite req v s = .next t1 → Agree 128 s t1 := by
  intro t1 h
  obtain rfl := Host.Outcome.next.inj h
  repeat' (with_reducible first | assumption | apply Agree.refl | intro _ | apply Agree.ite | apply Agree.then (k := State.indCtrlWrite_ag _ _ _) | decide)

theorem execHbiIndDataRead_ag (req : Req) (s : State) : ∀ t1, execHbiIndDataRead req s = .next t1 → Agree 657 s t1 := by
  intro t1 h
  obtain rfl := Host.Outcome.next.inj h
  repeat' (with_reducible first | assumption | apply Agree.refl | intro _ | apply Agree.ite | apply Agree.then (k := State.indDataRead_ag _ _) | decide)

theorem execHbiIndDataWrite_ag (req : Req) (be : BitVec 4) (v : Word) (s : State) : ∀ t1, execHbiIndDataWrite req be v s = .next t1 → Agree 641 s t1 := by
  intro t1 h
  obtain rfl := Host.Outcome.next.inj h
  repeat' (with_reducible first | assumption | apply Agree.refl | intro _ | apply Agree.ite | apply Agree.then (k := State.hbiErr_ag _ _ _ _ _ _) | apply Agree.then (k := State.indDataWrite_ag _ _ _) | decide | split)

theorem execIntStatClear_ag (hi : Bool) (v : Word) (s : State) : ∀ t1, execIntStatClear hi v s = .next t1 → Agree 1 s t1 := by
  intro t1 h
  obtain rfl := Host.Outcome.next.inj h
  repeat' (with_reducible first | assumption | apply Agree.refl | intro _ | apply Agree.ite | apply Agree.then (k := State.intClear_ag _ _ _) | decide | split)

theorem execIntForce_ag (hi : Bool) (v : Word) (s : State) : ∀ t1, execIntForce hi v s = .next t1 → Agree 513 s t1 := by
  intro t1 h
  obtain rfl := Host.Outcome.next.inj h
  repeat' (with_reducible first | assumption | apply Agree.refl | intro _ | apply Agree.ite | apply Agree.then (k := State.intForce_ag _ _ _) | decide | split)

theorem execMboxS2hWrite_ag (req : Req) (n : Fin 4) (v : Word) (s : State) : ∀ t1, execMboxS2hWrite req n v s = .next t1 → Agree 513 s t1 := by
  intro t1 h
  obtain rfl := Host.Outcome.next.inj h
  repeat' (with_reducible first | assumption | apply Agree.refl | intro _ | apply Agree.ite | apply Agree.then (k := State.mboxS2h_ag _ _ _ _) | decide)

theorem execMboxH2sWrite_ag (req : Req) (n : Fin 4) (v : Word) (s : State) : ∀ t1, execMboxH2sWrite req n v s = .next t1 → Agree 513 s t1 := by
  intro t1 h
  obtain rfl := Host.Outcome.next.inj h
  repeat' (with_reducible first | assumption | apply Agree.refl | intro _ | apply Agree.ite | apply Agree.then (k := State.mboxH2s_ag _ _ _ _) | decide)

theorem execMboxS2hRead_ag (req : Req) (n : Fin 4) (s : State) : ∀ t1, execMboxS2hRead req n s = .next t1 → Agree 17 s t1 := by
  intro t1 h
  obtain rfl := Host.Outcome.next.inj h
  repeat' (with_reducible first | assumption | apply Agree.refl | intro _ | apply Agree.ite | apply Agree.then (k := State.mboxRead_ag _ _ _ _) | decide)

theorem execMboxH2sRead_ag (req : Req) (n : Fin 4) (s : State) : ∀ t1, execMboxH2sRead req n s = .next t1 → Agree 17 s t1 := by
  intro t1 h
  obtain rfl := Host.Outcome.next.inj h
  repeat' (with_reducible first | assumption | apply Agree.refl | intro _ | apply Agree.ite | apply Agree.then (k := State.mboxRead_ag _ _ _ _) | decide)

end Sys2Proof.Machine
end

