-- ==== Sys2Proof/Laws/Frame/SupMem.lean ====
section
/-!
SUPPORT. Frames of the operations of Machine/SupMem.lean: the fields each can change, as a mask.
-/
set_option linter.unusedTactic false
set_option linter.unreachableTactic false
namespace Sys2Proof.Machine
open Sys2Proof

theorem State.supLoad_ag (s : State) (i a : Nat) (l : List Word) : Agree 1 s (s.supLoad i a l) := by
  induction l generalizing s a with
  | nil => apply Agree.refl
  | cons w ws ih =>
    unfold State.supLoad
    refine Agree.then ?_ (ih _ _) (by decide)
    split
    · exact State.wr_ag _ _ _
    · apply Agree.refl

theorem State.setSup_ag (s : State) (i : Nat) (x : SupU) : Agree 4294967296 s (State.setSup s i x) := by
  unfold State.setSup
  repeat' (with_reducible first | assumption | apply Agree.refl | intro _ | apply Agree.then (k := Agree.up_sups _ _) | decide)

end Sys2Proof.Machine
end

