-- ==== Sys2Proof/Laws/Frame/Boot.lean ====
section
/-!
SUPPORT. Frames of the operations of Machine/Boot.lean: the fields each can change, as a mask.
-/
set_option linter.unusedTactic false
set_option linter.unreachableTactic false
namespace Sys2Proof.Machine
open Sys2Proof

theorem State.bootLoaded_ag (s : State) (e ver env : Nat) : Agree 281474976735745 s (State.bootLoaded s e ver env) := by
  unfold State.bootLoaded
  repeat' (with_reducible first | assumption | apply Agree.refl | intro _ | apply Agree.then (k := State.bootMod_ag _ _) | apply Agree.then (k := State.pwrLog_ag _ _ _ _ _ _) | decide)

theorem State.bootFail_ag (s : State) (e reason detail : Nat) : Agree 25089 s (State.bootFail s e reason detail) := by
  unfold State.bootFail
  repeat' (with_reducible first | assumption | apply Agree.refl | intro _ | (extract_lets +onlyGivenNames x; first | (refine (fun (_ : Agree 25089 s x) => ?_ : Agree 25089 s x → _) ?_; clear_value x) | (refine (fun (_ : Agree 25089 s x.1) => ?_ : Agree 25089 s x.1 → _) ?_; clear_value x) | clear_value x) | subst x | apply Agree.then (k := State.putBit_ag _ _ _ _) | apply Agree.then (k := State.pwrLog_ag _ _ _ _ _ _) | decide)

theorem State.waitHost_ag (s : State) : Agree 281474976735745 s (State.waitHost s) := by
  unfold State.waitHost
  repeat' (with_reducible first | assumption | apply Agree.refl | intro _ | (extract_lets +onlyGivenNames x; first | (refine (fun (_ : Agree 281474976735745 s x) => ?_ : Agree 281474976735745 s x → _) ?_; clear_value x) | (refine (fun (_ : Agree 281474976735745 s x.1) => ?_ : Agree 281474976735745 s x.1 → _) ?_; clear_value x) | clear_value x) | subst x | apply Agree.then (k := State.bootMod_ag _ _) | apply Agree.then (k := State.pwrLog_ag _ _ _ _ _ _) | apply Agree.then (k := State.setStage_ag _ _) | decide)

theorem State.supStart_ag (s : State) (i entry : Nat) : Agree 1073741824 s (State.supStart s i entry) := by
  unfold State.supStart
  repeat' (with_reducible first | assumption | apply Agree.refl | intro _ | (extract_lets +onlyGivenNames x; first | (refine (fun (_ : Agree 1073741824 s x) => ?_ : Agree 1073741824 s x → _) ?_; clear_value x) | (refine (fun (_ : Agree 1073741824 s x.1) => ?_ : Agree 1073741824 s x.1 → _) ?_; clear_value x) | clear_value x) | subst x | apply Agree.then (k := State.setCore_ag _ _ _) | decide)

theorem State.supApply_ag (s : State) (e env : Nat) : Agree 281476050477569 s (State.supApply s e env) := by
  unfold State.supApply
  repeat' (with_reducible first | assumption | apply Agree.refl | intro _ | (extract_lets +onlyGivenNames x; first | (refine (fun (_ : Agree 281476050477569 s x) => ?_ : Agree 281476050477569 s x → _) ?_; clear_value x) | (refine (fun (_ : Agree 281476050477569 s x.1) => ?_ : Agree 281476050477569 s x.1 → _) ?_; clear_value x) | clear_value x) | subst x | apply Agree.then (k := State.putBit_ag _ _ _ _) | apply Agree.then (k := State.pwrMod_ag _ _) | apply Agree.then (k := State.bootMod_ag _ _) | apply Agree.then (k := State.supLoad_ag _ _ _ _) | apply Agree.then (k := State.bootLoaded_ag _ _ _ _) | apply Agree.then (k := State.supStart_ag _ _ _) | decide)

theorem State.bootSup_ag (s : State) (e : Nat) : Agree 281476050477569 s (s.bootSup e) :=
  Agree.optOr (Agree.mono (State.bootFail_ag _ _ _ _) (by decide)) (fun x => Agree.mono (State.supApply_ag _ _ _) (by decide))

theorem State.watched_ho {m : Nat} {s t : State} {fl : List (Nat × Word)} {f : State → State} (h : Agree m s t)
    (hf : ∀ u, Agree m s u → Agree m s (f u)) (hm : 129 ||| m = m) : Agree m s (t.watched fl f).1 := by
  have h1 : 1 ||| m = m := by rw [← hm, ← Nat.or_assoc]; rfl
  exact Agree.foldl (hf _ (Agree.then (Agree.foldl h (fun u x hu => hu.then (State.wr_ag _ _ _) h1)) (Agree.mono (State.indMod_ag _ _ _) (by decide : 128 ||| 129 = 129)) hm))
    (fun u x hu => hu.then (State.wr_ag _ _ _) h1)

theorem State.bootIfd_ag (s : State) (c o : Nat) (v : Word) : Agree 25089 s (State.bootIfd s c o v) := by
  unfold State.bootIfd
  repeat' (with_reducible first | assumption | apply Agree.refl | intro _ | apply Agree.ite | apply Agree.then (k := State.ifdStore_ag _ _ _ _) | apply Agree.then (k := State.roleStore_ag _ _ _) | decide | split)

theorem State.cfgInd_ag (s : State) (a : Nat) (v : Word) : Agree 563287253219983 s (State.cfgInd s a v).1 := by
  unfold State.cfgInd
  repeat' (with_reducible first | assumption | apply Agree.refl | intro _ | (extract_lets +onlyGivenNames x; first | (refine (fun (_ : Agree 563287253219983 s x) => ?_ : Agree 563287253219983 s x → _) ?_; clear_value x) | (refine (fun (_ : Agree 563287253219983 s x.1) => ?_ : Agree 563287253219983 s x.1 → _) ?_; clear_value x) | clear_value x) | subst x | apply Agree.ite | apply AgreeE.ok | apply AgreeE.jump | apply AgreeE.done | apply AgreeE.trap | apply AgreeE.ite | apply Agree.iteP | apply Agree.then (k := State.clusterWrite_ag _ _ _ _ _ _) | apply Agree.then (k := State.indWrite_ag _ _ _ _ _) | apply State.watched_ho | apply Agree.then (k := State.bootIfd_ag _ _ _ _) | decide | split)

theorem State.cfgKey_ag (s : State) (a : Nat) (v : Word) : Agree 549755838977 s (State.cfgKey s a v) := by
  unfold State.cfgKey
  repeat' (with_reducible first | assumption | apply Agree.refl | intro _ | (extract_lets +onlyGivenNames x; first | (refine (fun (_ : Agree 549755838977 s x) => ?_ : Agree 549755838977 s x → _) ?_; clear_value x) | (refine (fun (_ : Agree 549755838977 s x.1) => ?_ : Agree 549755838977 s x.1 → _) ?_; clear_value x) | clear_value x) | subst x | apply Agree.ite | apply Agree.then (k := State.tripKeyWrite_ag _ _ _) | decide | split)

theorem State.cfgDirect_ag (s : State) (a : Nat) (v : Word) : Agree 3377699720527871 s (State.cfgDirect s a v).1 := by
  unfold State.cfgDirect
  repeat' (with_reducible first | assumption | apply Agree.refl | intro _ | (extract_lets +onlyGivenNames x; first | (refine (fun (_ : Agree 3377699720527871 s x) => ?_ : Agree 3377699720527871 s x → _) ?_; clear_value x) | (refine (fun (_ : Agree 3377699720527871 s x.1) => ?_ : Agree 3377699720527871 s x.1 → _) ?_; clear_value x) | clear_value x) | subst x | apply Agree.ite | apply AgreeE.ok | apply AgreeE.jump | apply AgreeE.done | apply AgreeE.trap | apply AgreeE.ite | apply Agree.iteP | apply Agree.then (k := State.bootMod_ag _ _) | apply Agree.then (k := State.busWrite_ag _ _ _ _ _) | apply State.watched_ho | apply Agree.then (k := State.cfgKey_ag _ _ _) | decide | split)

theorem State.cfgWrite_ag (s : State) (at_ : Nat) : Agree 3377699720527871 s (State.cfgWrite s at_).1 := by
  unfold State.cfgWrite
  repeat' (with_reducible first | assumption | apply Agree.refl | intro _ | (extract_lets +onlyGivenNames x; first | (refine (fun (_ : Agree 3377699720527871 s x) => ?_ : Agree 3377699720527871 s x → _) ?_; clear_value x) | (refine (fun (_ : Agree 3377699720527871 s x.1) => ?_ : Agree 3377699720527871 s x.1 → _) ?_; clear_value x) | clear_value x) | subst x | apply Agree.ite | apply Agree.iteP | apply Agree.then (k := State.cfgInd_ag _ _ _) | apply Agree.then (k := State.cfgDirect_ag _ _ _) | decide | split)

theorem State.cfgWrites_ag (s : State) (at_ num n : Nat) : Agree 3377699720527871 s (s.cfgWrites at_ num n).1 := by
  induction n generalizing s at_ num with
  | zero => exact Agree.fstMk (Agree.refl _ _)
  | succ n ih =>
    have h : Agree 3377699720527871 s (s.cfgWrite at_).1 := Agree.mono (State.cfgWrite_ag _ _) (by decide)
    exact Agree.iteP (fun _ => Agree.fstMk h) (fun _ => Agree.then h (ih _ _ _) (by decide))

theorem State.cfgFail_ag (s : State) (reason p1 : Nat) : Agree 281474976735745 s (State.cfgFail s reason p1) := by
  unfold State.cfgFail
  repeat' (with_reducible first | assumption | apply Agree.refl | intro _ | apply Agree.then (k := State.bootFail_ag _ _ _ _) | apply Agree.then (k := State.waitHost_ag _) | decide)

theorem State.cfgDone_ag (s : State) (env b : Nat) : Agree 281474976768513 s (State.cfgDone s env b) := by
  unfold State.cfgDone
  repeat' (with_reducible first | assumption | apply Agree.refl | intro _ | (extract_lets +onlyGivenNames x; first | (refine (fun (_ : Agree 281474976768513 s x) => ?_ : Agree 281474976768513 s x → _) ?_; clear_value x) | (refine (fun (_ : Agree 281474976768513 s x.1) => ?_ : Agree 281474976768513 s x.1 → _) ?_; clear_value x) | clear_value x) | subst x | apply Agree.ite | apply Agree.then (k := State.tbCmdStart_ag _ _ _) | apply Agree.then (k := State.bootMod_ag _ _) | apply Agree.then (k := State.bootLoaded_ag _ _ _ _) | decide | split)

theorem State.cfgTake_ag (s : State) (env : Nat) (claims : List Nat) (at_ nw : Nat) : Agree 3377699720527871 s (s.cfgTake env claims at_ nw) := by
  unfold State.cfgTake
  extract_lets ifds r s1
  have h : Agree 3377699720527871 s s1 := Agree.foldl (Agree.then (Agree.mono (State.takeClaims_ag _ _ _) (by decide)) (State.cfgWrites_ag _ _ _ _) (by decide))
    (fun u x hu => hu.then (State.ifdRestart_ag _ _) (by decide))
  clear_value s1 r ifds
  exact Agree.optOr (h.then (State.cfgDone_ag _ _ _) (by decide)) (fun x => h.then (State.cfgFail_ag _ _ _) (by decide))

theorem State.cfgApply_ag (s : State) (env : Nat) : Agree 3377699720527871 s (s.cfgApply env) := by
  unfold State.cfgApply
  exact Agree.optOr (State.cfgTake_ag _ _ _ _ _) (fun x => Agree.mono (State.cfgFail_ag _ _ _) (by decide))

theorem State.bootCfg_ag (s : State) : Agree 3377699720527871 s s.bootCfg :=
  Agree.optOr (Agree.mono (State.cfgFail_ag _ _ _) (by decide)) (fun x => Agree.mono (State.cfgApply_ag _ _) (by decide))

theorem State.lthBooted_ag (s : State) (env : Nat) : Agree 282901040226829 s (State.lthBooted s env) := by
  unfold State.lthBooted
  repeat' (with_reducible first | assumption | apply Agree.refl | intro _ | (extract_lets +onlyGivenNames x; first | (refine (fun (_ : Agree 282901040226829 s x) => ?_ : Agree 282901040226829 s x → _) ?_; clear_value x) | (refine (fun (_ : Agree 282901040226829 s x.1) => ?_ : Agree 282901040226829 s x.1 → _) ?_; clear_value x) | clear_value x) | subst x | apply Agree.ite | apply Agree.then (k := State.activatePending_ag _) | apply Agree.then (k := State.lthStart_ag _) | apply Agree.then (k := State.bootLoaded_ag _ _ _ _) | decide | split)

theorem State.lthBoot_ag (s : State) (env : Nat) : Agree 282901040226829 s (s.lthBoot env) := by
  unfold State.lthBoot
  extract_lets s1
  have h : Agree 282901040226829 s s1 := Agree.then (Agree.then (Agree.mono (State.wr_ag _ _ _) (by decide)) (State.lthLoad_ag _) (by decide)) (State.lthValidated_ag _) (by decide)
  clear_value s1
  exact Agree.ite (fun _ => h.then (State.lthBooted_ag _ _) (by decide)) (fun _ => h.then (State.bootFail_ag _ _ _ _) (by decide))

theorem State.bootLth_ag (s : State) : Agree 282901040226829 s s.bootLth := Agree.optMap (fun x => State.lthBoot_ag _ _)

theorem State.elmBoot_ag (s : State) (c env : Nat) : Agree 281477132739085 s (s.elmBoot c env) := by
  unfold State.elmBoot
  extract_lets s1
  have h : Agree 281477132739085 s s1 := Agree.then (Agree.then (Agree.mono (State.wr_ag _ _ _) (by decide)) (State.coreLoad_ag _ _) (by decide)) (State.coreValidated_ag _ _) (by decide)
  clear_value s1
  exact Agree.ite (fun _ => ((h.then (State.coreActivate_ag _ _ _) (by decide)).then (State.bootLoaded_ag _ _ _ _) (by decide)).then (State.coreStartReq_ag _ _) (by decide))
      (fun _ => h.then (State.bootFail_ag _ _ _ _) (by decide))

theorem State.bootElm_ag (s : State) (c : Nat) : Agree 281477132739085 s (s.bootElm c) :=
  Agree.optMap (fun x => Agree.ite (fun _ => State.elmBoot_ag _ _ _) (fun _ => Agree.mono (State.bootFail_ag _ _ _ _) (by decide)))

theorem State.bootChecks_ag (s : State) : Agree 281474976710657 s (State.bootChecks s) := by
  unfold State.bootChecks
  repeat' (with_reducible first | assumption | apply Agree.refl | intro _ | (extract_lets +onlyGivenNames x; first | (refine (fun (_ : Agree 281474976710657 s x) => ?_ : Agree 281474976710657 s x → _) ?_; clear_value x) | (refine (fun (_ : Agree 281474976710657 s x.1) => ?_ : Agree 281474976710657 s x.1 → _) ?_; clear_value x) | clear_value x) | subst x | apply Agree.ite | apply Agree.foldl | apply Agree.then (k := State.recheck_ag _ _) | apply Agree.then (k := State.bootMod_ag _ _) | decide | split)

theorem State.laterWrites_ag (s : State) (num : Nat) (l : List (Nat × Word)) : Agree 3377699720527871 s (s.laterWrites num l).1 := by
  induction l generalizing s num with
  | nil => exact Agree.refl _ _
  | cons x xs ih =>
    have h : Agree 3377699720527871 s (s.watched (denyFlags x.1) (fun t => t.busWrite .sup0 x.1 15 x.2)).1 :=
      State.watched_ho (Agree.refl _ _) (fun u hu => hu.then (State.busWrite_ag _ _ _ _ _) (by decide)) (by decide)
    unfold State.laterWrites
    extract_lets r
    change Agree 3377699720527871 s r.1 at h
    clear_value r
    exact Agree.iteP (fun _ => h) (fun _ => h.then (ih _ _) (by decide))

theorem State.startsFail_ag (s : State) (k : Nat) : Agree 281474976768513 s (State.startsFail s k) := by
  unfold State.startsFail
  repeat' (with_reducible first | assumption | apply Agree.refl | intro _ | apply Agree.ite | apply Agree.then (k := State.bootMod_ag _ _) | apply Agree.then (k := State.cfgFail_ag _ _ _) | apply Agree.then (k := State.cfgDone_ag _ _ _) | decide | split)

theorem State.bootStarts_ag (s : State) : Agree 3377699720527871 s (State.bootStarts s) := by
  unfold State.bootStarts
  repeat' (with_reducible first | assumption | apply Agree.refl | intro _ | (extract_lets +onlyGivenNames x; first | (refine (fun (_ : Agree 3377699720527871 s x) => ?_ : Agree 3377699720527871 s x → _) ?_; clear_value x) | (refine (fun (_ : Agree 3377699720527871 s x.1) => ?_ : Agree 3377699720527871 s x.1 → _) ?_; clear_value x) | clear_value x) | subst x | apply Agree.ite | apply Agree.then (k := State.lthStart_ag _) | apply Agree.then (k := State.bootMod_ag _ _) | apply Agree.then (k := State.setStage_ag _ _) | apply Agree.then (k := State.laterWrites_ag _ _ _) | apply Agree.then (k := State.startsFail_ag _ _) | decide | split)

theorem State.bootAdvance_ag (s : State) : Agree 3377699720527871 s (State.bootAdvance s) := by
  unfold State.bootAdvance
  repeat' (with_reducible first | assumption | apply Agree.refl | intro _ | (extract_lets +onlyGivenNames x; first | (refine (fun (_ : Agree 3377699720527871 s x) => ?_ : Agree 3377699720527871 s x → _) ?_; clear_value x) | (refine (fun (_ : Agree 3377699720527871 s x.1) => ?_ : Agree 3377699720527871 s x.1 → _) ?_; clear_value x) | clear_value x) | subst x | apply Agree.ite | apply Agree.then (k := State.setStage_ag _ _) | apply Agree.then (k := State.waitHost_ag _) | apply Agree.then (k := State.bootChecks_ag _) | apply Agree.then (k := State.bootStarts_ag _) | decide | split)

theorem State.bootImageDone_ag (s : State) (e : Nat) : Agree 3377699720527871 s (State.bootImageDone s e) := by
  unfold State.bootImageDone
  repeat' (with_reducible first | assumption | apply Agree.refl | intro _ | (extract_lets +onlyGivenNames x; first | (refine (fun (_ : Agree 3377699720527871 s x) => ?_ : Agree 3377699720527871 s x → _) ?_; clear_value x) | (refine (fun (_ : Agree 3377699720527871 s x.1) => ?_ : Agree 3377699720527871 s x.1 → _) ?_; clear_value x) | clear_value x) | subst x | apply Agree.ite | apply Agree.then (k := State.bootMod_ag _ _) | apply Agree.then (k := State.waitHost_ag _) | apply Agree.then (k := State.bootSup_ag _ _) | apply Agree.then (k := State.bootCfg_ag _) | apply Agree.then (k := State.bootLth_ag _) | apply Agree.then (k := State.bootElm_ag _ _) | apply Agree.then (k := State.bootAdvance_ag _) | decide | split)

theorem execBootImageDone_ag (e : Fin 20) (s : State) : ∀ t1, execBootImageDone e s = .next t1 → Agree 3377699720527871 s t1 := by
  intro t1 h
  obtain rfl := Host.Outcome.next.inj h
  repeat' (with_reducible first | assumption | apply Agree.refl | intro _ | apply Agree.then (k := State.bootImageDone_ag _ _) | decide)

theorem execTickStart_ag (s : State) : ∀ t1, execTickStart s = .next t1 → Agree 3377699720527871 s t1 := by
  intro t1 h
  obtain rfl := Host.Outcome.next.inj h
  repeat' (with_reducible first | assumption | apply Agree.refl | intro _ | apply Agree.ite | apply Agree.then (k := State.tickStart_ag _) | apply Agree.then (k := State.bootAdvance_ag _) | decide | split)

theorem State.protectionReady_ag (s : State) : Agree 281510410347017 s (State.protectionReady s) := by
  unfold State.protectionReady
  repeat' (with_reducible first | assumption | apply Agree.refl | intro _ | (extract_lets +onlyGivenNames x; first | (refine (fun (_ : Agree 281510410347017 s x) => ?_ : Agree 281510410347017 s x → _) ?_; clear_value x) | (refine (fun (_ : Agree 281510410347017 s x.1) => ?_ : Agree 281510410347017 s x.1 → _) ?_; clear_value x) | clear_value x) | subst x | apply Agree.then (k := State.putBit_ag _ _ _ _) | apply Agree.then (k := State.fioRole_ag _) | apply Agree.then (k := State.tlDrive_ag _) | apply Agree.then (k := State.bootMod_ag _ _) | apply Agree.then (k := State.pwrLog_ag _ _ _ _ _ _) | apply Agree.then (k := State.setStage_ag _ _) | apply Agree.then (k := State.supStart_ag _ _ _) | decide | split)

theorem execElementPhaseStart_ag (c : Fin 16) (s : State) : ∀ t1, execElementPhaseStart c s = .next t1 → Agree 281804750873097 s t1 := by
  intro t1 h
  obtain rfl := Host.Outcome.next.inj h
  repeat' (with_reducible first | assumption | apply Agree.refl | intro _ | apply Agree.ite | apply Agree.then (k := State.elementStart_ag _ _) | apply Agree.then (k := State.protectionReady_ag _) | decide | split)

theorem State.cfgRegion_ag (s : State) (r at_ n : Nat) : Agree 563287253219983 s (s.cfgRegion r at_ n) := by
  induction n generalizing s at_ with
  | zero => apply Agree.refl
  | succ n ih =>
    unfold State.cfgRegion
    refine Agree.then ?_ (ih _ _) (by decide)
    split
    · exact Agree.mono (State.cfgInd_ag _ _ _) (by decide)
    · apply Agree.refl

theorem State.regionRelease_ag (s : State) (r : Nat) : Agree 844762766834319 s (State.regionRelease s r) := by
  unfold State.regionRelease
  repeat' (with_reducible first | assumption | apply Agree.refl | intro _ | (extract_lets +onlyGivenNames x; first | (refine (fun (_ : Agree 844762766834319 s x) => ?_ : Agree 844762766834319 s x → _) ?_; clear_value x) | (refine (fun (_ : Agree 844762766834319 s x.1) => ?_ : Agree 844762766834319 s x.1 → _) ?_; clear_value x) | clear_value x) | subst x | apply Agree.ite | apply Agree.foldl | apply Agree.then (k := State.setHeldRegs_ag _ _) | apply Agree.then (k := State.irq_ag _ _) | apply Agree.then (k := State.log_ag _ _ _ _ _) | apply Agree.then (k := State.laneMod_ag _ _ _) | apply Agree.then (k := State.requestChain_ag _ _ _) | apply Agree.then (k := State.loadTrims_ag _ _) | apply Agree.then (k := State.ifdRestart_ag _ _) | apply Agree.then (k := State.bootMod_ag _ _) | apply Agree.then (k := State.cfgDone_ag _ _ _) | apply Agree.then (k := State.cfgRegion_ag _ _ _ _) | decide | split)

theorem execRegionResetRelease_ag (r : Fin 4) (s : State) : ∀ t1, execRegionResetRelease r s = .next t1 → Agree 844762766834319 s t1 := by
  intro t1 h
  obtain rfl := Host.Outcome.next.inj h
  repeat' (with_reducible first | assumption | apply Agree.refl | intro _ | apply Agree.ite | apply Agree.then (k := State.reachCnt_ag _ _) | apply Agree.then (k := State.regionRelease_ag _ _) | decide | split)

theorem State.domSwitched_ag (s : State) (b : Nat) (on : Bool) : Agree 959113172810383 s (State.domSwitched s b on) := by
  unfold State.domSwitched
  repeat' (with_reducible first | assumption | apply Agree.refl | intro _ | (extract_lets +onlyGivenNames x; first | (refine (fun (_ : Agree 959113172810383 s x) => ?_ : Agree 959113172810383 s x → _) ?_; clear_value x) | (refine (fun (_ : Agree 959113172810383 s x.1) => ?_ : Agree 959113172810383 s x.1 → _) ?_; clear_value x) | clear_value x) | subst x | apply Agree.ite | apply Agree.then (k := State.put_ag _ _ _ _ _) | apply Agree.then (k := State.putBit_ag _ _ _ _) | apply Agree.then (k := State.netUp_ag _) | apply Agree.then (k := State.tlStep_ag _) | apply Agree.then (k := State.recheck_ag _ _) | apply Agree.then (k := State.regionClear_ag _ _ _) | apply Agree.then (k := State.netOff_ag _) | apply Agree.then (k := State.ownDeadline_ag _) | apply Agree.then (k := State.regionRelease_ag _ _) | decide | split)

theorem State.domainDone_ag (s : State) (b : Nat) : Agree 959113172810383 s (State.domainDone s b) := by
  unfold State.domainDone
  repeat' (with_reducible first | assumption | apply Agree.refl | intro _ | (extract_lets +onlyGivenNames x; first | (refine (fun (_ : Agree 959113172810383 s x) => ?_ : Agree 959113172810383 s x → _) ?_; clear_value x) | (refine (fun (_ : Agree 959113172810383 s x.1) => ?_ : Agree 959113172810383 s x.1 → _) ?_; clear_value x) | clear_value x) | subst x | apply Agree.ite | apply Agree.then (k := State.pwrLog_ag _ _ _ _ _ _) | apply Agree.then (k := State.domSwitched_ag _ _ _) | decide | split)

theorem execDomainSwitchDone_ag (bit : Fin 7) (s : State) : ∀ t1, execDomainSwitchDone bit s = .next t1 → Agree 959113172810383 s t1 := by
  intro t1 h
  obtain rfl := Host.Outcome.next.inj h
  repeat' (with_reducible first | assumption | apply Agree.refl | intro _ | apply Agree.then (k := State.domainDone_ag _ _) | decide)

end Sys2Proof.Machine
end

