-- ==== Sys2Proof/Laws/Frame/Exec.lean ====
section
/-!
SUPPORT. Frames of the operations of Machine/Exec.lean: the fields each can change, as a mask.
-/
set_option linter.unusedTactic false
set_option linter.unreachableTactic false
namespace Sys2Proof.Machine
open Sys2Proof

theorem State.setGr_ag (s : State) (k : CoreId) (i : Nat) (v : Word) : Agree 1073741824 s (State.setGr s k i v) := by
  unfold State.setGr
  repeat' (with_reducible first | assumption | apply Agree.refl | intro _ | apply Agree.then (k := State.coreMod_ag _ _ _) | decide)

theorem State.setZr_ag (s : State) (k : CoreId) (i : Nat) (v : Word × Word) : Agree 1073741824 s (State.setZr s k i v) := by
  unfold State.setZr
  repeat' (with_reducible first | assumption | apply Agree.refl | intro _ | apply Agree.then (k := State.coreMod_ag _ _ _) | decide)

theorem State.setPr_ag (s : State) (k : CoreId) (i : Nat) (b : Bool) : Agree 1073741824 s (State.setPr s k i b) := by
  unfold State.setPr
  repeat' (with_reducible first | assumption | apply Agree.refl | intro _ | apply Agree.then (k := State.coreMod_ag _ _ _) | decide)

theorem State.addFlags_ag (s : State) (k : CoreId) (f : BitVec 4) : Agree 1073741824 s (State.addFlags s k f) := by
  unfold State.addFlags
  repeat' (with_reducible first | assumption | apply Agree.refl | intro _ | apply Agree.then (k := State.coreMod_ag _ _ _) | decide)

theorem State.coreFault_ag (s : State) (c cause pc addr : Nat) : Agree 1073766913 s (State.coreFault s c cause pc addr) := by
  unfold State.coreFault
  repeat' (with_reducible first | assumption | apply Agree.refl | intro _ | (extract_lets +onlyGivenNames x; first | (refine (fun (_ : Agree 1073766913 s x) => ?_ : Agree 1073766913 s x → _) ?_; clear_value x) | (refine (fun (_ : Agree 1073766913 s x.1) => ?_ : Agree 1073766913 s x.1 → _) ?_; clear_value x) | clear_value x) | subst x | apply Agree.then (k := State.wr_ag _ _ _) | apply Agree.then (k := State.irq_ag _ _) | apply Agree.then (k := State.log_ag _ _ _ _ _) | apply Agree.then (k := State.coreMod_ag _ _ _) | apply Agree.then (k := State.setCstat_ag _ _ _ _) | decide)

theorem State.supEnter_ag (s : State) (i n ret c : Nat) : Agree 5368709120 s (State.supEnter s i n ret c) := by
  unfold State.supEnter
  repeat' (with_reducible first | assumption | apply Agree.refl | intro _ | (extract_lets +onlyGivenNames x; first | (refine (fun (_ : Agree 5368709120 s x) => ?_ : Agree 5368709120 s x → _) ?_; clear_value x) | (refine (fun (_ : Agree 5368709120 s x.1) => ?_ : Agree 5368709120 s x.1 → _) ?_; clear_value x) | clear_value x) | subst x | apply Agree.ite | apply Agree.then (k := State.coreMod_ag _ _ _) | apply Agree.then (k := State.setSup_ag _ _ _) | decide | split)

theorem State.wTrap_ag (s : State) (k : CoreId) (cause addr pc c : Nat) : Agree 1431432225293 s (State.wTrap s k cause addr pc c) := by
  unfold State.wTrap
  repeat' (with_reducible first | assumption | apply Agree.refl | intro _ | apply Agree.then (k := State.lthHalt_ag _ _ _ _) | apply Agree.then (k := State.coreFault_ag _ _ _ _ _) | apply Agree.then (k := State.supEnter_ag _ _ _ _ _) | decide | split)

theorem State.issued_ag (s : State) (k : CoreId) (t : Timing) (i : Issue) (c cost : Nat) : Agree 1073741824 s (State.issued s k t i c cost) := by
  unfold State.issued
  repeat' (with_reducible first | assumption | apply Agree.refl | intro _ | (extract_lets +onlyGivenNames x; first | (refine (fun (_ : Agree 1073741824 s x) => ?_ : Agree 1073741824 s x → _) ?_; clear_value x) | (refine (fun (_ : Agree 1073741824 s x.1) => ?_ : Agree 1073741824 s x.1 → _) ?_; clear_value x) | clear_value x) | subst x | apply Agree.then (k := State.coreMod_ag _ _ _) | decide)

theorem State.issue_ho {m : Nat} {s t : State} {k : CoreId} {ti : Timing} {w : Word} {c : Nat} {eff : State → WEff} (h : Agree m s t)
    (he : ∀ u, AgreeE m u (eff u)) (hm : 1433579708941 ||| m = m) : Agree m s (t.issue k ti w c eff) := by
  have hc : ∀ {u : State} n f, Agree m s u → Agree m s (u.coreMod n f) := fun n f hu =>
    hu.then (Agree.mono (State.coreMod_ag _ _ _) (by decide : _ ||| 1433579708941 = 1433579708941)) hm
  have hi : ∀ {u : State} i c x, Agree m s u → Agree m s (u.issued k ti i c x) := fun i c x hu =>
    hu.then (Agree.mono (State.issued_ag _ _ _ _ _ _) (by decide : _ ||| 1433579708941 = 1433579708941)) hm
  unfold State.issue
  extract_lets n pc i
  clear_value n pc i
  apply Agree.ite <;> intro _
  · exact hc _ _ (hi _ _ _ h)
  · have h2 := he (t.coreMod n (fun x => { x with cyc := c }))
    have h1 : Agree m s (t.coreMod n (fun x => { x with cyc := c })) := hc _ _ h
    revert h1 h2
    generalize t.coreMod n (fun x => { x with cyc := c }) = t1
    generalize eff t1 = e
    intro h2 h1
    cases e with
    | ok u => exact hc _ _ (hi _ _ _ (h1.then h2 (Nat.or_self _)))
    | jump u p x => exact hc _ _ (hi _ _ _ (h1.then h2 (Nat.or_self _)))
    | trap e a => exact h.then (Agree.mono (State.wTrap_ag _ _ _ _ _ _) (by decide : _ ||| 1433579708941 = 1433579708941)) hm
    | done u => exact hc _ _ (hi _ _ _ (h1.then h2 (Nat.or_self _)))

theorem State.eccFixed_ag (s : State) (c : Nat) (imem : Bool) (word : Nat) : Agree 2147508737 s (State.eccFixed s c imem word) := by
  unfold State.eccFixed
  repeat' (with_reducible first | assumption | apply Agree.refl | intro _ | (extract_lets +onlyGivenNames x; first | (refine (fun (_ : Agree 2147508737 s x) => ?_ : Agree 2147508737 s x → _) ?_; clear_value x) | (refine (fun (_ : Agree 2147508737 s x.1) => ?_ : Agree 2147508737 s x.1 → _) ?_; clear_value x) | clear_value x) | subst x | apply Agree.ite | apply Agree.then (k := State.count_ag _ _ _ _ _) | apply Agree.then (k := State.irq_ag _ _) | apply Agree.then (k := State.log_ag _ _ _ _ _) | apply Agree.then (k := State.elemMod_ag _ _ _) | decide | split)

theorem State.fetched_ag (s : State) (k : CoreId) : Agree 2147508737 s (State.fetched s k) := by
  unfold State.fetched
  repeat' (with_reducible first | assumption | apply Agree.refl | intro _ | apply Agree.ite | apply Agree.then (k := State.eccFixed_ag _ _ _ _) | decide | split)

theorem State.walso_ho {m : Nat} {s t : State} {k : CoreId} {w : Word} {eff : State → WEff} (h : Agree m s t)
    (he : ∀ u, AgreeE m u (eff u)) (hm : 1433579708941 ||| m = m) : Agree m s (t.walso k w eff) := by
  have hc : ∀ {u : State} n f, Agree m s u → Agree m s (u.coreMod n f) := fun n f hu =>
    hu.then (Agree.mono (State.coreMod_ag _ _ _) (by decide : _ ||| 1433579708941 = 1433579708941)) hm
  unfold State.walso
  extract_lets n x s1 ti cause c s2
  have h1 : Agree m s s1 := hc _ _ h
  have h2 : Agree m s s2 := by
    apply Agree.ite <;> intro _
    · exact h1
    · exact h1.then (Agree.mono (State.fetched_ag _ _) (by decide : _ ||| 1433579708941 = 1433579708941)) hm
  clear_value s2 s1 ti c cause
  apply Agree.ite <;> intro _
  · exact h
  · apply Agree.ite <;> intro _
    · exact hc _ _ h1
    · split
      · exact h2.then (Agree.mono (State.wTrap_ag _ _ _ _ _ _) (by decide : _ ||| 1433579708941 = 1433579708941)) hm
      · exact State.issue_ho h2 he hm

theorem State.illegal_ag (s : State) (k : CoreId) (w : Word) : Agree 1433579708941 s (State.illegal s k w) := by
  unfold State.illegal
  repeat' (with_reducible first | assumption | apply Agree.refl | intro _ | apply Agree.ite | apply AgreeE.ok | apply AgreeE.jump | apply AgreeE.done | apply AgreeE.trap | apply AgreeE.ite | apply State.walso_ho | decide | split)

theorem execIllegalInstruction_ag (k : CoreId) (w : Word) (s : State) : ∀ t1, execIllegalInstruction k w s = .next t1 → Agree 1433579708941 s t1 := by
  intro t1 h
  obtain rfl := Host.Outcome.next.inj h
  repeat' (with_reducible first | assumption | apply Agree.refl | intro _ | apply Agree.then (k := State.illegal_ag _ _ _) | decide)

theorem State.supInterrupt_ag (s : State) (i : Nat) : Agree 5368709632 s (State.supInterrupt s i) := by
  unfold State.supInterrupt
  repeat' (with_reducible first | assumption | apply Agree.refl | intro _ | (extract_lets +onlyGivenNames x; first | (refine (fun (_ : Agree 5368709632 s x) => ?_ : Agree 5368709632 s x → _) ?_; clear_value x) | (refine (fun (_ : Agree 5368709632 s x.1) => ?_ : Agree 5368709632 s x.1 → _) ?_; clear_value x) | clear_value x) | subst x | apply Agree.ite | apply Agree.then (k := State.setSupPend_ag _ _ _) | apply Agree.then (k := State.supEnter_ag _ _ _ _ _) | decide | split)

theorem execSupInterruptEntry_ag (i : Fin 2) (s : State) : ∀ t1, execSupInterruptEntry i s = .next t1 → Agree 5368709632 s t1 := by
  intro t1 h
  obtain rfl := Host.Outcome.next.inj h
  repeat' (with_reducible first | assumption | apply Agree.refl | intro _ | apply Agree.then (k := State.supInterrupt_ag _ _) | decide)

end Sys2Proof.Machine
end

