-- ==== Sys2Proof/Laws/Frame/WFloat.lean ====
section
/-!
SUPPORT. Frames of the operations of Machine/WFloat.lean: the fields each can change, as a mask.
-/
set_option linter.unusedTactic false
set_option linter.unreachableTactic false
namespace Sys2Proof.Machine
open Sys2Proof

theorem State.setRes_ag (s : State) (k : CoreId) (rd : Nat) (r : FRes) : Agree 1073741824 s (State.setRes s k rd r) := by
  unfold State.setRes
  repeat' (with_reducible first | assumption | apply Agree.refl | intro _ | apply Agree.then (k := State.setGr_ag _ _ _ _) | apply Agree.then (k := State.addFlags_ag _ _ _) | decide)

theorem State.setCx_ag (s : State) (k : CoreId) (zd : Nat) (r : Cx × BitVec 4) : Agree 1073741824 s (State.setCx s k zd r) := by
  unfold State.setCx
  repeat' (with_reducible first | assumption | apply Agree.refl | intro _ | apply Agree.then (k := State.setZr_ag _ _ _ _) | apply Agree.then (k := State.addFlags_ag _ _ _) | decide)

theorem execFpu_ag (k : CoreId) (pn : Bool) (ps : Fin 8) (rd ra rb : BitVec 5) (fn : BitVec 7) (s : State) : ∀ t1, execFpu k pn ps rd ra rb fn s = .next t1 → Agree 1433579708941 s t1 := by
  intro t1 h
  obtain rfl := Host.Outcome.next.inj h
  repeat' (with_reducible first | assumption | apply Agree.refl | intro _ | apply AgreeE.ok | apply AgreeE.jump | apply AgreeE.done | apply AgreeE.trap | apply AgreeE.ite | apply State.walso_ho | apply Agree.then (k := State.setRes_ag _ _ _ _) | decide)

theorem State.setCmp_ag (s : State) (k : CoreId) (pd : Nat) (r : Bool × BitVec 4) : Agree 1073741824 s (State.setCmp s k pd r) := by
  unfold State.setCmp
  repeat' (with_reducible first | assumption | apply Agree.refl | intro _ | apply Agree.then (k := State.setPr_ag _ _ _ _) | apply Agree.then (k := State.addFlags_ag _ _ _) | decide)

theorem execFcmp_ag (k : CoreId) (pn : Bool) (ps : Fin 8) (rd ra rb : BitVec 5) (fn : BitVec 7) (s : State) : ∀ t1, execFcmp k pn ps rd ra rb fn s = .next t1 → Agree 1433579708941 s t1 := by
  intro t1 h
  obtain rfl := Host.Outcome.next.inj h
  repeat' (with_reducible first | assumption | apply Agree.refl | intro _ | apply AgreeE.ok | apply AgreeE.jump | apply AgreeE.done | apply AgreeE.trap | apply AgreeE.ite | apply State.walso_ho | apply Agree.then (k := State.setCmp_ag _ _ _ _) | decide)

theorem execFma_ag (k : CoreId) (pn : Bool) (ps : Fin 8) (rd ra rb : BitVec 5) (fn : BitVec 7) (s : State) : ∀ t1, execFma k pn ps rd ra rb fn s = .next t1 → Agree 1433579708941 s t1 := by
  intro t1 h
  obtain rfl := Host.Outcome.next.inj h
  repeat' (with_reducible first | assumption | apply Agree.refl | intro _ | apply AgreeE.ok | apply AgreeE.jump | apply AgreeE.done | apply AgreeE.trap | apply AgreeE.ite | apply State.walso_ho | apply Agree.then (k := State.setRes_ag _ _ _ _) | decide)

theorem State.cpx_ag (s : State) (k : CoreId) (zd za zb ga fn : Nat) : Agree 1073741824 s (State.cpx s k zd za zb ga fn) := by
  unfold State.cpx
  repeat' (with_reducible first | assumption | apply Agree.refl | intro _ | apply Agree.ite | apply Agree.then (k := State.setRes_ag _ _ _ _) | apply Agree.then (k := State.setCx_ag _ _ _ _) | decide | split)

theorem execCpx_ag (k : CoreId) (pn : Bool) (ps : Fin 8) (zd za zb : BitVec 4) (ga fn : BitVec 5) (s : State) : ∀ t1, execCpx k pn ps zd za zb ga fn s = .next t1 → Agree 1433579708941 s t1 := by
  intro t1 h
  obtain rfl := Host.Outcome.next.inj h
  repeat' (with_reducible first | assumption | apply Agree.refl | intro _ | apply AgreeE.ok | apply AgreeE.jump | apply AgreeE.done | apply AgreeE.trap | apply AgreeE.ite | apply State.walso_ho | apply Agree.then (k := State.cpx_ag _ _ _ _ _ _ _) | decide)

end Sys2Proof.Machine
end

