-- ==== Sys2Proof/Laws/Frame/WFlow.lean ====
section
/-!
SUPPORT. Frames of the operations of Machine/WFlow.lean: the fields each can change, as a mask.
-/
set_option linter.unusedTactic false
set_option linter.unreachableTactic false
namespace Sys2Proof.Machine
open Sys2Proof

theorem State.branch_ag (s : State) (k : CoreId) (off : Nat) : AgreeE 0 s (State.branch s k off) := by
  unfold State.branch
  repeat' (with_reducible first | assumption | apply Agree.refl | intro _ | (extract_lets +onlyGivenNames x; first | (refine (fun (_ : Agree 0 s x) => ?_ : Agree 0 s x → _) ?_; clear_value x) | (refine (fun (_ : Agree 0 s x.1) => ?_ : Agree 0 s x.1 → _) ?_; clear_value x) | clear_value x) | subst x | apply Agree.ite | apply AgreeE.ok | apply AgreeE.jump | apply AgreeE.done | apply AgreeE.trap | apply AgreeE.ite | decide | split)

theorem execBr_ag (k : CoreId) (pn : Bool) (ps : Fin 8) (off : BitVec 22) (s : State) : ∀ t1, execBr k pn ps off s = .next t1 → Agree 1433579708941 s t1 := by
  intro t1 h
  obtain rfl := Host.Outcome.next.inj h
  repeat' (with_reducible first | assumption | apply Agree.refl | intro _ | apply AgreeE.ok | apply AgreeE.jump | apply AgreeE.done | apply AgreeE.trap | apply AgreeE.ite | apply State.walso_ho | apply AgreeE.mono (k := State.branch_ag _ _ _) | decide)

theorem State.loopEnter_ag (s : State) (k : CoreId) (trip len : Nat) : AgreeE 1073741824 s (State.loopEnter s k trip len) := by
  unfold State.loopEnter
  repeat' (with_reducible first | assumption | apply Agree.refl | intro _ | (extract_lets +onlyGivenNames x; first | (refine (fun (_ : Agree 1073741824 s x) => ?_ : Agree 1073741824 s x → _) ?_; clear_value x) | (refine (fun (_ : Agree 1073741824 s x.1) => ?_ : Agree 1073741824 s x.1 → _) ?_; clear_value x) | clear_value x) | subst x | apply Agree.ite | apply AgreeE.ok | apply AgreeE.jump | apply AgreeE.done | apply AgreeE.trap | apply AgreeE.ite | apply Agree.then (k := State.setCore_ag _ _ _) | decide | split)

theorem execLoop_ag (k : CoreId) (pn : Bool) (ps : Fin 8) (trip : BitVec 10) (len : BitVec 12) (s : State) : ∀ t1, execLoop k pn ps trip len s = .next t1 → Agree 1433579708941 s t1 := by
  intro t1 h
  obtain rfl := Host.Outcome.next.inj h
  repeat' (with_reducible first | assumption | apply Agree.refl | intro _ | apply AgreeE.ok | apply AgreeE.jump | apply AgreeE.done | apply AgreeE.trap | apply AgreeE.ite | apply State.walso_ho | apply AgreeE.mono (k := State.loopEnter_ag _ _ _ _) | decide)

theorem State.jumpTable_ag (s : State) (k : CoreId) (ra n : Nat) : AgreeE 0 s (State.jumpTable s k ra n) := by
  unfold State.jumpTable
  repeat' (with_reducible first | assumption | apply Agree.refl | intro _ | apply AgreeE.ok | apply AgreeE.jump | apply AgreeE.done | apply AgreeE.trap | apply AgreeE.ite | decide)

theorem execJt_ag (k : CoreId) (pn : Bool) (ps : Fin 8) (ra : BitVec 5) (n : BitVec 8) (z : BitVec 9) (s : State) : ∀ t1, execJt k pn ps ra n z s = .next t1 → Agree 1433579708941 s t1 := by
  intro t1 h
  obtain rfl := Host.Outcome.next.inj h
  repeat' (with_reducible first | assumption | apply Agree.refl | intro _ | apply AgreeE.ok | apply AgreeE.jump | apply AgreeE.done | apply AgreeE.trap | apply AgreeE.ite | apply State.walso_ho | apply AgreeE.mono (k := State.jumpTable_ag _ _ _ _) | decide)

theorem State.call_ag (s : State) (k : CoreId) (target : Nat) : AgreeE 1073741824 s (State.call s k target) := by
  unfold State.call
  repeat' (with_reducible first | assumption | apply Agree.refl | intro _ | (extract_lets +onlyGivenNames x; first | (refine (fun (_ : Agree 1073741824 s x) => ?_ : Agree 1073741824 s x → _) ?_; clear_value x) | (refine (fun (_ : Agree 1073741824 s x.1) => ?_ : Agree 1073741824 s x.1 → _) ?_; clear_value x) | clear_value x) | subst x | apply Agree.ite | apply AgreeE.ok | apply AgreeE.jump | apply AgreeE.done | apply AgreeE.trap | apply AgreeE.ite | apply Agree.then (k := State.setCore_ag _ _ _) | decide | split)

theorem execCall_ag (k : CoreId) (pn : Bool) (ps : Fin 8) (z : BitVec 5) (target : BitVec 17) (s : State) : ∀ t1, execCall k pn ps z target s = .next t1 → Agree 1433579708941 s t1 := by
  intro t1 h
  obtain rfl := Host.Outcome.next.inj h
  repeat' (with_reducible first | assumption | apply Agree.refl | intro _ | apply AgreeE.ok | apply AgreeE.jump | apply AgreeE.done | apply AgreeE.trap | apply AgreeE.ite | apply State.walso_ho | apply AgreeE.mono (k := State.call_ag _ _ _) | decide)

theorem State.ret_ag (s : State) (k : CoreId) : AgreeE 1073741824 s (State.ret s k) := by
  unfold State.ret
  repeat' (with_reducible first | assumption | apply Agree.refl | intro _ | (extract_lets +onlyGivenNames x; first | (refine (fun (_ : Agree 1073741824 s x) => ?_ : Agree 1073741824 s x → _) ?_; clear_value x) | (refine (fun (_ : Agree 1073741824 s x.1) => ?_ : Agree 1073741824 s x.1 → _) ?_; clear_value x) | clear_value x) | subst x | apply AgreeE.ok | apply AgreeE.jump | apply AgreeE.done | apply AgreeE.trap | apply AgreeE.ite | apply Agree.then (k := State.setCore_ag _ _ _) | decide | split)

theorem execRet_ag (k : CoreId) (pn : Bool) (ps : Fin 8) (z : BitVec 22) (s : State) : ∀ t1, execRet k pn ps z s = .next t1 → Agree 1433579708941 s t1 := by
  intro t1 h
  obtain rfl := Host.Outcome.next.inj h
  repeat' (with_reducible first | assumption | apply Agree.refl | intro _ | apply AgreeE.ok | apply AgreeE.jump | apply AgreeE.done | apply AgreeE.trap | apply AgreeE.ite | apply State.walso_ho | apply AgreeE.mono (k := State.ret_ag _ _) | decide)

theorem State.workEnd_ag (s : State) (k : CoreId) (base : Nat) : AgreeE 1073741824 s (State.workEnd s k base) := by
  unfold State.workEnd
  repeat' (with_reducible first | assumption | apply Agree.refl | intro _ | (extract_lets +onlyGivenNames x; first | (refine (fun (_ : Agree 1073741824 s x) => ?_ : Agree 1073741824 s x → _) ?_; clear_value x) | (refine (fun (_ : Agree 1073741824 s x.1) => ?_ : Agree 1073741824 s x.1 → _) ?_; clear_value x) | clear_value x) | subst x | apply Agree.ite | apply AgreeE.ok | apply AgreeE.jump | apply AgreeE.done | apply AgreeE.trap | apply AgreeE.ite | apply Agree.then (k := State.setCore_ag _ _ _) | decide | split)

theorem execWtick_ag (k : CoreId) (pn : Bool) (ps : Fin 8) (z : BitVec 22) (s : State) : ∀ t1, execWtick k pn ps z s = .next t1 → Agree 1433579708941 s t1 := by
  intro t1 h
  obtain rfl := Host.Outcome.next.inj h
  repeat' (with_reducible first | assumption | apply Agree.refl | intro _ | apply AgreeE.ok | apply AgreeE.jump | apply AgreeE.done | apply AgreeE.trap | apply AgreeE.ite | apply State.walso_ho | apply AgreeE.mono (k := State.workEnd_ag _ _ _) | decide)

theorem execWturn_ag (k : CoreId) (pn : Bool) (ps : Fin 8) (z : BitVec 22) (s : State) : ∀ t1, execWturn k pn ps z s = .next t1 → Agree 1433579708941 s t1 := by
  intro t1 h
  obtain rfl := Host.Outcome.next.inj h
  repeat' (with_reducible first | assumption | apply Agree.refl | intro _ | apply AgreeE.ok | apply AgreeE.jump | apply AgreeE.done | apply AgreeE.trap | apply AgreeE.ite | apply State.walso_ho | apply AgreeE.mono (k := State.workEnd_ag _ _ _) | decide)

end Sys2Proof.Machine
end

