-- ==== Sys2Proof/Laws/Frame/WInt.lean ====
section
/-!
SUPPORT. Frames of the operations of Machine/WInt.lean: the fields each can change, as a mask.
-/
set_option linter.unusedTactic false
set_option linter.unreachableTactic false
namespace Sys2Proof.Machine
open Sys2Proof

theorem execAlu_ag (k : CoreId) (pn : Bool) (ps : Fin 8) (rd ra rb : BitVec 5) (fn : BitVec 7) (s : State) : ∀ t1, execAlu k pn ps rd ra rb fn s = .next t1 → Agree 1433579708941 s t1 := by
  intro t1 h
  obtain rfl := Host.Outcome.next.inj h
  repeat' (with_reducible first | assumption | apply Agree.refl | intro _ | apply AgreeE.ok | apply AgreeE.jump | apply AgreeE.done | apply AgreeE.trap | apply AgreeE.ite | apply Agree.then (k := State.setGr_ag _ _ _ _) | apply State.walso_ho | decide)

theorem execAddi_ag (k : CoreId) (pn : Bool) (ps : Fin 8) (rd ra : BitVec 5) (imm : BitVec 12) (s : State) : ∀ t1, execAddi k pn ps rd ra imm s = .next t1 → Agree 1433579708941 s t1 := by
  intro t1 h
  obtain rfl := Host.Outcome.next.inj h
  repeat' (with_reducible first | assumption | apply Agree.refl | intro _ | apply AgreeE.ok | apply AgreeE.jump | apply AgreeE.done | apply AgreeE.trap | apply AgreeE.ite | apply Agree.then (k := State.setGr_ag _ _ _ _) | apply State.walso_ho | decide)

theorem execAndi_ag (k : CoreId) (pn : Bool) (ps : Fin 8) (rd ra : BitVec 5) (imm : BitVec 12) (s : State) : ∀ t1, execAndi k pn ps rd ra imm s = .next t1 → Agree 1433579708941 s t1 := by
  intro t1 h
  obtain rfl := Host.Outcome.next.inj h
  repeat' (with_reducible first | assumption | apply Agree.refl | intro _ | apply AgreeE.ok | apply AgreeE.jump | apply AgreeE.done | apply AgreeE.trap | apply AgreeE.ite | apply Agree.then (k := State.setGr_ag _ _ _ _) | apply State.walso_ho | decide)

theorem execOri_ag (k : CoreId) (pn : Bool) (ps : Fin 8) (rd ra : BitVec 5) (imm : BitVec 12) (s : State) : ∀ t1, execOri k pn ps rd ra imm s = .next t1 → Agree 1433579708941 s t1 := by
  intro t1 h
  obtain rfl := Host.Outcome.next.inj h
  repeat' (with_reducible first | assumption | apply Agree.refl | intro _ | apply AgreeE.ok | apply AgreeE.jump | apply AgreeE.done | apply AgreeE.trap | apply AgreeE.ite | apply Agree.then (k := State.setGr_ag _ _ _ _) | apply State.walso_ho | decide)

theorem execXori_ag (k : CoreId) (pn : Bool) (ps : Fin 8) (rd ra : BitVec 5) (imm : BitVec 12) (s : State) : ∀ t1, execXori k pn ps rd ra imm s = .next t1 → Agree 1433579708941 s t1 := by
  intro t1 h
  obtain rfl := Host.Outcome.next.inj h
  repeat' (with_reducible first | assumption | apply Agree.refl | intro _ | apply AgreeE.ok | apply AgreeE.jump | apply AgreeE.done | apply AgreeE.trap | apply AgreeE.ite | apply Agree.then (k := State.setGr_ag _ _ _ _) | apply State.walso_ho | decide)

theorem execShi_ag (k : CoreId) (pn : Bool) (ps : Fin 8) (rd ra : BitVec 5) (imm : BitVec 12) (s : State) : ∀ t1, execShi k pn ps rd ra imm s = .next t1 → Agree 1433579708941 s t1 := by
  intro t1 h
  obtain rfl := Host.Outcome.next.inj h
  repeat' (with_reducible first | assumption | apply Agree.refl | intro _ | apply AgreeE.ok | apply AgreeE.jump | apply AgreeE.done | apply AgreeE.trap | apply AgreeE.ite | apply Agree.then (k := State.setGr_ag _ _ _ _) | apply State.walso_ho | decide)

theorem execMovl_ag (k : CoreId) (pn : Bool) (ps : Fin 8) (rd : BitVec 5) (imm : BitVec 17) (s : State) : ∀ t1, execMovl k pn ps rd imm s = .next t1 → Agree 1433579708941 s t1 := by
  intro t1 h
  obtain rfl := Host.Outcome.next.inj h
  repeat' (with_reducible first | assumption | apply Agree.refl | intro _ | apply AgreeE.ok | apply AgreeE.jump | apply AgreeE.done | apply AgreeE.trap | apply AgreeE.ite | apply Agree.then (k := State.setGr_ag _ _ _ _) | apply State.walso_ho | decide)

theorem execMovh_ag (k : CoreId) (pn : Bool) (ps : Fin 8) (rd : BitVec 5) (imm : BitVec 17) (s : State) : ∀ t1, execMovh k pn ps rd imm s = .next t1 → Agree 1433579708941 s t1 := by
  intro t1 h
  obtain rfl := Host.Outcome.next.inj h
  repeat' (with_reducible first | assumption | apply Agree.refl | intro _ | apply AgreeE.ok | apply AgreeE.jump | apply AgreeE.done | apply AgreeE.trap | apply AgreeE.ite | apply Agree.then (k := State.setGr_ag _ _ _ _) | apply State.walso_ho | decide)

theorem execCmp_ag (k : CoreId) (pn : Bool) (ps : Fin 8) (rd ra rb : BitVec 5) (fn : BitVec 7) (s : State) : ∀ t1, execCmp k pn ps rd ra rb fn s = .next t1 → Agree 1433579708941 s t1 := by
  intro t1 h
  obtain rfl := Host.Outcome.next.inj h
  repeat' (with_reducible first | assumption | apply Agree.refl | intro _ | apply AgreeE.ok | apply AgreeE.jump | apply AgreeE.done | apply AgreeE.trap | apply AgreeE.ite | apply Agree.then (k := State.setPr_ag _ _ _ _) | apply State.walso_ho | decide)

theorem execCmpi_ag (k : CoreId) (pn : Bool) (ps : Fin 8) (rd ra : BitVec 5) (imm : BitVec 12) (s : State) : ∀ t1, execCmpi k pn ps rd ra imm s = .next t1 → Agree 1433579708941 s t1 := by
  intro t1 h
  obtain rfl := Host.Outcome.next.inj h
  repeat' (with_reducible first | assumption | apply Agree.refl | intro _ | apply AgreeE.ok | apply AgreeE.jump | apply AgreeE.done | apply AgreeE.trap | apply AgreeE.ite | apply Agree.then (k := State.setPr_ag _ _ _ _) | apply State.walso_ho | decide)

theorem execRdfs_ag (k : CoreId) (pn : Bool) (ps : Fin 8) (rd ra rb : BitVec 5) (s : State) : ∀ t1, execRdfs k pn ps rd ra rb s = .next t1 → Agree 1433579708941 s t1 := by
  intro t1 h
  obtain rfl := Host.Outcome.next.inj h
  repeat' (with_reducible first | assumption | apply Agree.refl | intro _ | apply AgreeE.ok | apply AgreeE.jump | apply AgreeE.done | apply AgreeE.trap | apply AgreeE.ite | apply Agree.then (k := State.setGr_ag _ _ _ _) | apply State.walso_ho | decide)

theorem execClrfs_ag (k : CoreId) (pn : Bool) (ps : Fin 8) (rd ra rb : BitVec 5) (s : State) : ∀ t1, execClrfs k pn ps rd ra rb s = .next t1 → Agree 1433579708941 s t1 := by
  intro t1 h
  obtain rfl := Host.Outcome.next.inj h
  repeat' (with_reducible first | assumption | apply Agree.refl | intro _ | apply AgreeE.ok | apply AgreeE.jump | apply AgreeE.done | apply AgreeE.trap | apply AgreeE.ite | apply Agree.then (k := State.coreMod_ag _ _ _) | apply State.walso_ho | decide)

theorem execRdlc_ag (k : CoreId) (pn : Bool) (ps : Fin 8) (rd ra rb : BitVec 5) (s : State) : ∀ t1, execRdlc k pn ps rd ra rb s = .next t1 → Agree 1433579708941 s t1 := by
  intro t1 h
  obtain rfl := Host.Outcome.next.inj h
  repeat' (with_reducible first | assumption | apply Agree.refl | intro _ | apply AgreeE.ok | apply AgreeE.jump | apply AgreeE.done | apply AgreeE.trap | apply AgreeE.ite | apply Agree.then (k := State.setGr_ag _ _ _ _) | apply State.walso_ho | decide)

theorem execRdp_ag (k : CoreId) (pn : Bool) (ps : Fin 8) (rd ra rb : BitVec 5) (s : State) : ∀ t1, execRdp k pn ps rd ra rb s = .next t1 → Agree 1433579708941 s t1 := by
  intro t1 h
  obtain rfl := Host.Outcome.next.inj h
  repeat' (with_reducible first | assumption | apply Agree.refl | intro _ | apply AgreeE.ok | apply AgreeE.jump | apply AgreeE.done | apply AgreeE.trap | apply AgreeE.ite | apply Agree.then (k := State.setGr_ag _ _ _ _) | apply State.walso_ho | decide)

end Sys2Proof.Machine
end

