-- ==== Sys2Proof/Laws/Frame/WLathe.lean ====
section
/-!
SUPPORT. Frames of the operations of Machine/WLathe.lean: the fields each can change, as a mask.
-/
set_option linter.unusedTactic false
set_option linter.unreachableTactic false
namespace Sys2Proof.Machine
open Sys2Proof

theorem State.limg_ag (s : State) (k : CoreId) (rd : Nat) (dir : Bool) (word : Nat) : AgreeE 1100585369601 s (State.limg s k rd dir word) := by
  unfold State.limg
  repeat' (with_reducible first | assumption | apply Agree.refl | intro _ | apply Agree.ite | apply AgreeE.ok | apply AgreeE.jump | apply AgreeE.done | apply AgreeE.trap | apply AgreeE.ite | apply Agree.then (k := State.wr_ag _ _ _) | apply Agree.then (k := State.pairDirty_ag _ _) | apply Agree.then (k := State.setGr_ag _ _ _ _) | decide | split)

theorem execLimg_ag (k : CoreId) (pn : Bool) (ps : Fin 8) (rd : BitVec 5) (dir : Bool) (z : BitVec 4) (word : BitVec 12) (s : State) : ∀ t1, execLimg k pn ps rd dir z word s = .next t1 → Agree 1433579708941 s t1 := by
  intro t1 h
  obtain rfl := Host.Outcome.next.inj h
  repeat' (with_reducible first | assumption | apply Agree.refl | intro _ | apply AgreeE.ok | apply AgreeE.jump | apply AgreeE.done | apply AgreeE.trap | apply AgreeE.ite | apply State.walso_ho | apply AgreeE.mono (k := State.limg_ag _ _ _ _ _) | decide)

theorem State.ltmrStore_ag (s : State) (n : Nat) (t : LTmr) (st : Nat) : Agree 1099511627776 s (State.ltmrStore s n t st) := by
  unfold State.ltmrStore
  repeat' (with_reducible first | assumption | apply Agree.refl | intro _ | apply Agree.then (k := State.lthMod_ag _ _) | apply Agree.then (k := State.setLtmr_ag _ _ _ _) | apply Agree.then (k := State.pairDirty_ag _ _) | decide)

theorem State.ltmrStep_ag (s : State) (n : Nat) (x : Bool) : Agree 1099511627776 s (State.ltmrStep s n x).1 := by
  unfold State.ltmrStep
  repeat' (with_reducible first | assumption | apply Agree.refl | intro _ | (extract_lets +onlyGivenNames x; first | (refine (fun (_ : Agree 1099511627776 s x) => ?_ : Agree 1099511627776 s x → _) ?_; clear_value x) | (refine (fun (_ : Agree 1099511627776 s x.1) => ?_ : Agree 1099511627776 s x.1 → _) ?_; clear_value x) | clear_value x) | subst x | apply Agree.iteP | apply Agree.then (k := State.ltmrStore_ag _ _ _ _) | decide | split)

theorem State.ltmrClear_ag (s : State) (n : Nat) : Agree 1099511627776 s (State.ltmrClear s n).1 := by
  unfold State.ltmrClear
  repeat' (with_reducible first | assumption | apply Agree.refl | intro _ | (extract_lets +onlyGivenNames x; first | (refine (fun (_ : Agree 1099511627776 s x) => ?_ : Agree 1099511627776 s x → _) ?_; clear_value x) | (refine (fun (_ : Agree 1099511627776 s x.1) => ?_ : Agree 1099511627776 s x.1 → _) ?_; clear_value x) | clear_value x) | subst x | apply Agree.iteP | apply Agree.then (k := State.ltmrStore_ag _ _ _ _) | decide | split)

theorem execLtmrStep_ag (k : CoreId) (pn : Bool) (ps : Fin 8) (rd ra : BitVec 5) (n : BitVec 10) (s : State) : ∀ t1, execLtmrStep k pn ps rd ra n s = .next t1 → Agree 1433579708941 s t1 := by
  intro t1 h
  obtain rfl := Host.Outcome.next.inj h
  repeat' (with_reducible first | assumption | apply Agree.refl | intro _ | apply AgreeE.ok | apply AgreeE.jump | apply AgreeE.done | apply AgreeE.trap | apply AgreeE.ite | apply unitResult_ho | apply Agree.then (k := State.setGr_ag _ _ _ _) | apply State.walso_ho | apply Agree.then (k := State.ltmrStep_ag _ _ _) | decide)

theorem execLtmrReset_ag (k : CoreId) (pn : Bool) (ps : Fin 8) (rd ra : BitVec 5) (n : BitVec 10) (s : State) : ∀ t1, execLtmrReset k pn ps rd ra n s = .next t1 → Agree 1433579708941 s t1 := by
  intro t1 h
  obtain rfl := Host.Outcome.next.inj h
  repeat' (with_reducible first | assumption | apply Agree.refl | intro _ | apply AgreeE.ok | apply AgreeE.jump | apply AgreeE.done | apply AgreeE.trap | apply AgreeE.ite | apply unitResult_ho | apply Agree.then (k := State.setGr_ag _ _ _ _) | apply State.walso_ho | apply Agree.then (k := State.ltmrClear_ag _ _) | decide)

theorem execLtmrRead_ag (k : CoreId) (pn : Bool) (ps : Fin 8) (rd ra : BitVec 5) (n : BitVec 10) (s : State) : ∀ t1, execLtmrRead k pn ps rd ra n s = .next t1 → Agree 1433579708941 s t1 := by
  intro t1 h
  obtain rfl := Host.Outcome.next.inj h
  repeat' (with_reducible first | assumption | apply Agree.refl | intro _ | apply AgreeE.ok | apply AgreeE.jump | apply AgreeE.done | apply AgreeE.trap | apply AgreeE.ite | apply unitResult_ho | apply Agree.then (k := State.setGr_ag _ _ _ _) | apply State.walso_ho | decide)

theorem State.ledg_ag (s : State) (n : Nat) (x : Bool) : Agree 1099511627776 s (State.ledg s n x).1 := by
  unfold State.ledg
  repeat' (with_reducible first | assumption | apply Agree.refl | intro _ | (extract_lets +onlyGivenNames x; first | (refine (fun (_ : Agree 1099511627776 s x) => ?_ : Agree 1099511627776 s x → _) ?_; clear_value x) | (refine (fun (_ : Agree 1099511627776 s x.1) => ?_ : Agree 1099511627776 s x.1 → _) ?_; clear_value x) | clear_value x) | subst x | apply Agree.ite | apply Agree.iteP | apply Agree.then (k := State.setLedge_ag _ _ _ _) | apply Agree.then (k := State.pairDirty_ag _ _) | decide | split)

theorem execLedg_ag (k : CoreId) (pn : Bool) (ps : Fin 8) (rd ra : BitVec 5) (n : BitVec 12) (s : State) : ∀ t1, execLedg k pn ps rd ra n s = .next t1 → Agree 1433579708941 s t1 := by
  intro t1 h
  obtain rfl := Host.Outcome.next.inj h
  repeat' (with_reducible first | assumption | apply Agree.refl | intro _ | apply AgreeE.ok | apply AgreeE.jump | apply AgreeE.done | apply AgreeE.trap | apply AgreeE.ite | apply unitResult_ho | apply Agree.then (k := State.setGr_ag _ _ _ _) | apply State.walso_ho | apply Agree.then (k := State.ledg_ag _ _ _) | decide)

end Sys2Proof.Machine
end

