-- ==== Sys2Proof/Laws/Frame/WMem.lean ====
section
/-!
SUPPORT. Frames of the operations of Machine/WMem.lean: the fields each can change, as a mask.
-/
set_option linter.unusedTactic false
set_option linter.unreachableTactic false
namespace Sys2Proof.Machine
open Sys2Proof

theorem State.memRead_ag (s : State) (k : CoreId) (a : Nat) : Agree 563123899753137 s (State.memRead s k a).1 := by
  unfold State.memRead
  repeat' (with_reducible first | assumption | apply Agree.refl | intro _ | (extract_lets +onlyGivenNames x; first | (refine (fun (_ : Agree 563123899753137 s x) => ?_ : Agree 563123899753137 s x → _) ?_; clear_value x) | (refine (fun (_ : Agree 563123899753137 s x.1) => ?_ : Agree 563123899753137 s x.1 → _) ?_; clear_value x) | clear_value x) | subst x | apply Agree.ite | apply Agree.iteP | apply Agree.then (k := State.winSeen_ag _ _ _) | apply Agree.then (k := State.busRead_ag _ _ _ _) | apply Agree.then (k := State.eccFixed_ag _ _ _ _) | decide | split)

theorem State.memWrite_ag (s : State) (k : CoreId) (a : Nat) (v : Word) : Agree 3377699720527871 s (State.memWrite s k a v) := by
  unfold State.memWrite
  repeat' (with_reducible first | assumption | apply Agree.refl | intro _ | apply Agree.ite | apply Agree.then (k := State.wr_ag _ _ _) | apply Agree.then (k := State.wrMem_ag _ _ _ _) | apply Agree.then (k := State.lthStore_ag _ _ _) | apply Agree.then (k := State.busWrite_ag _ _ _ _ _) | decide | split)

theorem State.loadG_ag (s : State) (k : CoreId) (space rd a : Nat) : AgreeE 563124973494961 s (State.loadG s k space rd a) := by
  unfold State.loadG
  repeat' (with_reducible first | assumption | apply Agree.refl | intro _ | (extract_lets +onlyGivenNames x; first | (refine (fun (_ : Agree 563124973494961 s x) => ?_ : Agree 563124973494961 s x → _) ?_; clear_value x) | (refine (fun (_ : Agree 563124973494961 s x.1) => ?_ : Agree 563124973494961 s x.1 → _) ?_; clear_value x) | clear_value x) | subst x | apply Agree.ite | apply AgreeE.ok | apply AgreeE.jump | apply AgreeE.done | apply AgreeE.trap | apply AgreeE.ite | apply Agree.then (k := State.setGr_ag _ _ _ _) | apply Agree.then (k := State.memRead_ag _ _ _) | decide | split)

theorem State.loadZ_ag (s : State) (k : CoreId) (space zd a : Nat) : AgreeE 563124973494961 s (State.loadZ s k space zd a) := by
  unfold State.loadZ
  repeat' (with_reducible first | assumption | apply Agree.refl | intro _ | (extract_lets +onlyGivenNames x; first | (refine (fun (_ : Agree 563124973494961 s x) => ?_ : Agree 563124973494961 s x → _) ?_; clear_value x) | (refine (fun (_ : Agree 563124973494961 s x.1) => ?_ : Agree 563124973494961 s x.1 → _) ?_; clear_value x) | clear_value x) | subst x | apply Agree.ite | apply AgreeE.ok | apply AgreeE.jump | apply AgreeE.done | apply AgreeE.trap | apply AgreeE.ite | apply Agree.then (k := State.setZr_ag _ _ _ _) | apply Agree.then (k := State.memRead_ag _ _ _) | decide | split)

theorem State.storeW_ag (s : State) (k : CoreId) (a : Nat) (v : Word) : AgreeE 3377699720527871 s (State.storeW s k a v) := by
  unfold State.storeW
  repeat' (with_reducible first | assumption | apply Agree.refl | intro _ | apply AgreeE.ok | apply AgreeE.jump | apply AgreeE.done | apply AgreeE.trap | apply AgreeE.ite | apply Agree.then (k := State.memWrite_ag _ _ _ _) | decide | split)

theorem State.storeZ_ag (s : State) (k : CoreId) (a : Nat) (v : Word × Word) : AgreeE 3377699720527871 s (State.storeZ s k a v) := by
  unfold State.storeZ
  repeat' (with_reducible first | assumption | apply Agree.refl | intro _ | apply AgreeE.ok | apply AgreeE.jump | apply AgreeE.done | apply AgreeE.trap | apply AgreeE.ite | apply Agree.then (k := State.memWrite_ag _ _ _ _) | decide | split)

theorem execLd_ag (k : CoreId) (pn : Bool) (ps : Fin 8) (rd ra : BitVec 5) (off : BitVec 12) (s : State) : ∀ t1, execLd k pn ps rd ra off s = .next t1 → Agree 564520972083901 s t1 := by
  intro t1 h
  obtain rfl := Host.Outcome.next.inj h
  repeat' (with_reducible first | assumption | apply Agree.refl | intro _ | apply AgreeE.ok | apply AgreeE.jump | apply AgreeE.done | apply AgreeE.trap | apply AgreeE.ite | apply State.walso_ho | apply AgreeE.mono (k := State.loadG_ag _ _ _ _ _) | decide)

theorem execSt_ag (k : CoreId) (pn : Bool) (ps : Fin 8) (rd ra : BitVec 5) (off : BitVec 12) (s : State) : ∀ t1, execSt k pn ps rd ra off s = .next t1 → Agree 3377699720527871 s t1 := by
  intro t1 h
  obtain rfl := Host.Outcome.next.inj h
  repeat' (with_reducible first | assumption | apply Agree.refl | intro _ | apply AgreeE.ok | apply AgreeE.jump | apply AgreeE.done | apply AgreeE.trap | apply AgreeE.ite | apply State.walso_ho | apply AgreeE.mono (k := State.storeW_ag _ _ _ _) | decide)

theorem execLdz_ag (k : CoreId) (pn : Bool) (ps : Fin 8) (rd ra : BitVec 5) (off : BitVec 12) (s : State) : ∀ t1, execLdz k pn ps rd ra off s = .next t1 → Agree 564520972083901 s t1 := by
  intro t1 h
  obtain rfl := Host.Outcome.next.inj h
  repeat' (with_reducible first | assumption | apply Agree.refl | intro _ | apply AgreeE.ok | apply AgreeE.jump | apply AgreeE.done | apply AgreeE.trap | apply AgreeE.ite | apply State.walso_ho | apply AgreeE.mono (k := State.loadZ_ag _ _ _ _ _) | decide)

theorem execStz_ag (k : CoreId) (pn : Bool) (ps : Fin 8) (rd ra : BitVec 5) (off : BitVec 12) (s : State) : ∀ t1, execStz k pn ps rd ra off s = .next t1 → Agree 3377699720527871 s t1 := by
  intro t1 h
  obtain rfl := Host.Outcome.next.inj h
  repeat' (with_reducible first | assumption | apply Agree.refl | intro _ | apply AgreeE.ok | apply AgreeE.jump | apply AgreeE.done | apply AgreeE.trap | apply AgreeE.ite | apply State.walso_ho | apply AgreeE.mono (k := State.storeZ_ag _ _ _ _) | decide)

theorem execLdw_ag (k : CoreId) (pn : Bool) (ps : Fin 8) (rd ra : BitVec 5) (off : BitVec 12) (s : State) : ∀ t1, execLdw k pn ps rd ra off s = .next t1 → Agree 564520972083901 s t1 := by
  intro t1 h
  obtain rfl := Host.Outcome.next.inj h
  repeat' (with_reducible first | assumption | apply Agree.refl | intro _ | apply AgreeE.ok | apply AgreeE.jump | apply AgreeE.done | apply AgreeE.trap | apply AgreeE.ite | apply State.walso_ho | apply AgreeE.mono (k := State.loadG_ag _ _ _ _ _) | decide)

theorem execLdp_ag (k : CoreId) (pn : Bool) (ps : Fin 8) (rd ra : BitVec 5) (off : BitVec 12) (s : State) : ∀ t1, execLdp k pn ps rd ra off s = .next t1 → Agree 564520972083901 s t1 := by
  intro t1 h
  obtain rfl := Host.Outcome.next.inj h
  repeat' (with_reducible first | assumption | apply Agree.refl | intro _ | apply AgreeE.ok | apply AgreeE.jump | apply AgreeE.done | apply AgreeE.trap | apply AgreeE.ite | apply State.walso_ho | apply AgreeE.mono (k := State.loadG_ag _ _ _ _ _) | decide)

theorem execLdzp_ag (k : CoreId) (pn : Bool) (ps : Fin 8) (rd ra : BitVec 5) (off : BitVec 12) (s : State) : ∀ t1, execLdzp k pn ps rd ra off s = .next t1 → Agree 564520972083901 s t1 := by
  intro t1 h
  obtain rfl := Host.Outcome.next.inj h
  repeat' (with_reducible first | assumption | apply Agree.refl | intro _ | apply AgreeE.ok | apply AgreeE.jump | apply AgreeE.done | apply AgreeE.trap | apply AgreeE.ite | apply State.walso_ho | apply AgreeE.mono (k := State.loadZ_ag _ _ _ _ _) | decide)

theorem execLdx_ag (k : CoreId) (pn : Bool) (ps : Fin 8) (rd ra rb : BitVec 5) (fn : BitVec 7) (s : State) : ∀ t1, execLdx k pn ps rd ra rb fn s = .next t1 → Agree 564520972083901 s t1 := by
  intro t1 h
  obtain rfl := Host.Outcome.next.inj h
  repeat' (with_reducible first | assumption | apply Agree.refl | intro _ | apply AgreeE.ok | apply AgreeE.jump | apply AgreeE.done | apply AgreeE.trap | apply AgreeE.ite | apply State.walso_ho | apply AgreeE.mono (k := State.loadG_ag _ _ _ _ _) | decide)

theorem execStx_ag (k : CoreId) (pn : Bool) (ps : Fin 8) (rd ra rb : BitVec 5) (fn : BitVec 7) (s : State) : ∀ t1, execStx k pn ps rd ra rb fn s = .next t1 → Agree 3377699720527871 s t1 := by
  intro t1 h
  obtain rfl := Host.Outcome.next.inj h
  repeat' (with_reducible first | assumption | apply Agree.refl | intro _ | apply AgreeE.ok | apply AgreeE.jump | apply AgreeE.done | apply AgreeE.trap | apply AgreeE.ite | apply State.walso_ho | apply AgreeE.mono (k := State.storeW_ag _ _ _ _) | decide)

end Sys2Proof.Machine
end

