-- ==== Sys2Proof/Laws/Frame/WSys.lean ====
section
/-!
SUPPORT. Frames of the operations of Machine/WSys.lean: the fields each can change, as a mask.
-/
set_option linter.unusedTactic false
set_option linter.unreachableTactic false
namespace Sys2Proof.Machine
open Sys2Proof

theorem State.csrOp_ag (s : State) (i : Fin 2) (rd ra n : Nat) : Agree 5368709120 s (State.csrOp s i rd ra n) := by
  unfold State.csrOp
  repeat' (with_reducible first | assumption | apply Agree.refl | intro _ | (extract_lets +onlyGivenNames x; first | (refine (fun (_ : Agree 5368709120 s x) => ?_ : Agree 5368709120 s x → _) ?_; clear_value x) | (refine (fun (_ : Agree 5368709120 s x.1) => ?_ : Agree 5368709120 s x.1 → _) ?_; clear_value x) | clear_value x) | subst x | apply Agree.ite | apply Agree.then (k := State.setSup_ag _ _ _) | apply Agree.then (k := State.setGr_ag _ _ _ _) | decide | split)

theorem State.csr_ag (s : State) (k : CoreId) (rd ra n : Nat) : AgreeE 5368709120 s (State.csr s k rd ra n) := by
  unfold State.csr
  repeat' (with_reducible first | assumption | apply Agree.refl | intro _ | apply Agree.ite | apply AgreeE.ok | apply AgreeE.jump | apply AgreeE.done | apply AgreeE.trap | apply AgreeE.ite | apply Agree.then (k := State.csrOp_ag _ _ _ _ _) | decide | split)

theorem execCsr_ag (k : CoreId) (pn : Bool) (ps : Fin 8) (rd ra : BitVec 5) (n : BitVec 12) (s : State) : ∀ t1, execCsr k pn ps rd ra n s = .next t1 → Agree 1433579708941 s t1 := by
  intro t1 h
  obtain rfl := Host.Outcome.next.inj h
  repeat' (with_reducible first | assumption | apply Agree.refl | intro _ | apply AgreeE.ok | apply AgreeE.jump | apply AgreeE.done | apply AgreeE.trap | apply AgreeE.ite | apply State.walso_ho | apply AgreeE.mono (k := State.csr_ag _ _ _ _ _) | decide)

theorem State.eret_ag (s : State) (k : CoreId) : AgreeE 4294967296 s (State.eret s k) := by
  unfold State.eret
  repeat' (with_reducible first | assumption | apply Agree.refl | intro _ | (extract_lets +onlyGivenNames x; first | (refine (fun (_ : Agree 4294967296 s x) => ?_ : Agree 4294967296 s x → _) ?_; clear_value x) | (refine (fun (_ : Agree 4294967296 s x.1) => ?_ : Agree 4294967296 s x.1 → _) ?_; clear_value x) | clear_value x) | subst x | apply Agree.ite | apply AgreeE.ok | apply AgreeE.jump | apply AgreeE.done | apply AgreeE.trap | apply AgreeE.ite | apply Agree.then (k := State.setSup_ag _ _ _) | decide | split)

theorem execEret_ag (k : CoreId) (pn : Bool) (ps : Fin 8) (z : BitVec 22) (s : State) : ∀ t1, execEret k pn ps z s = .next t1 → Agree 1433579708941 s t1 := by
  intro t1 h
  obtain rfl := Host.Outcome.next.inj h
  repeat' (with_reducible first | assumption | apply Agree.refl | intro _ | apply AgreeE.ok | apply AgreeE.jump | apply AgreeE.done | apply AgreeE.trap | apply AgreeE.ite | apply State.walso_ho | apply AgreeE.mono (k := State.eret_ag _ _) | decide)

theorem State.wfi_ag (s : State) (k : CoreId) : Agree 1073741824 s (State.wfi s k) := by
  unfold State.wfi
  repeat' (with_reducible first | assumption | apply Agree.refl | intro _ | apply Agree.ite | apply Agree.then (k := State.coreMod_ag _ _ _) | decide | split)

theorem execWfi_ag (k : CoreId) (pn : Bool) (ps : Fin 8) (z : BitVec 22) (s : State) : ∀ t1, execWfi k pn ps z s = .next t1 → Agree 1433579708941 s t1 := by
  intro t1 h
  obtain rfl := Host.Outcome.next.inj h
  repeat' (with_reducible first | assumption | apply Agree.refl | intro _ | apply AgreeE.ok | apply AgreeE.jump | apply AgreeE.done | apply AgreeE.trap | apply AgreeE.ite | apply State.walso_ho | apply Agree.then (k := State.wfi_ag _ _) | decide)

theorem execFence_ag (k : CoreId) (pn : Bool) (ps : Fin 8) (z : BitVec 22) (s : State) : ∀ t1, execFence k pn ps z s = .next t1 → Agree 1433579708941 s t1 := by
  intro t1 h
  obtain rfl := Host.Outcome.next.inj h
  repeat' (with_reducible first | assumption | apply Agree.refl | intro _ | apply AgreeE.ok | apply AgreeE.jump | apply AgreeE.done | apply AgreeE.trap | apply AgreeE.ite | apply State.walso_ho | decide)

end Sys2Proof.Machine
end

