-- ==== Sys2Proof/Laws/Frame/WUnit.lean ====
section
/-!
SUPPORT. Frames of the operations of Machine/WUnit.lean: the fields each can change, as a mask.
-/
set_option linter.unusedTactic false
set_option linter.unreachableTactic false
namespace Sys2Proof.Machine
open Sys2Proof

theorem State.lds_ag (s : State) (k : CoreId) (rd zd : Nat) (str : Bool) (lane : Nat) (al : Bool) (age : Nat) : Agree 1073741825 s (State.lds s k rd zd str lane al age) := by
  unfold State.lds
  repeat' (with_reducible first | assumption | apply Agree.refl | intro _ | (extract_lets +onlyGivenNames x; first | (refine (fun (_ : Agree 1073741825 s x) => ?_ : Agree 1073741825 s x → _) ?_; clear_value x) | (refine (fun (_ : Agree 1073741825 s x.1) => ?_ : Agree 1073741825 s x.1 → _) ?_; clear_value x) | clear_value x) | subst x | apply Agree.ite | apply Agree.then (k := State.winSeen_ag _ _ _) | apply Agree.then (k := State.setGr_ag _ _ _ _) | apply Agree.then (k := State.setZr_ag _ _ _ _) | decide | split)

theorem execLds_ag (k : CoreId) (pn : Bool) (ps : Fin 8) (rd : BitVec 5) (zd : BitVec 4) (str : Bool) (lane : BitVec 3) (al : Bool) (age : BitVec 8) (s : State) : ∀ t1, execLds k pn ps rd zd str lane al age s = .next t1 → Agree 1433579708941 s t1 := by
  intro t1 h
  obtain rfl := Host.Outcome.next.inj h
  repeat' (with_reducible first | assumption | apply Agree.refl | intro _ | apply AgreeE.ok | apply AgreeE.jump | apply AgreeE.done | apply AgreeE.trap | apply AgreeE.ite | apply State.walso_ho | apply Agree.then (k := State.lds_ag _ _ _ _ _ _ _ _) | decide)

theorem State.phs_ag (s : State) (k : CoreId) (rd zd lane : Nat) (half : Bool) (h : Nat) : Agree 1073741825 s (State.phs s k rd zd lane half h) := by
  unfold State.phs
  repeat' (with_reducible first | assumption | apply Agree.refl | intro _ | (extract_lets +onlyGivenNames x; first | (refine (fun (_ : Agree 1073741825 s x) => ?_ : Agree 1073741825 s x → _) ?_; clear_value x) | (refine (fun (_ : Agree 1073741825 s x.1) => ?_ : Agree 1073741825 s x.1 → _) ?_; clear_value x) | clear_value x) | subst x | apply Agree.ite | apply Agree.then (k := State.winSeen_ag _ _ _) | apply Agree.then (k := State.setGr_ag _ _ _ _) | apply Agree.then (k := State.setZr_ag _ _ _ _) | decide | split)

theorem execPhs_ag (k : CoreId) (pn : Bool) (ps : Fin 8) (rd : BitVec 5) (zd : BitVec 4) (lane : BitVec 3) (w : Bool) (z : BitVec 2) (h : BitVec 7) (s : State) : ∀ t1, execPhs k pn ps rd zd lane w z h s = .next t1 → Agree 1433579708941 s t1 := by
  intro t1 h
  obtain rfl := Host.Outcome.next.inj h
  repeat' (with_reducible first | assumption | apply Agree.refl | intro _ | apply AgreeE.ok | apply AgreeE.jump | apply AgreeE.done | apply AgreeE.trap | apply AgreeE.ite | apply State.walso_ho | apply Agree.then (k := State.phs_ag _ _ _ _ _ _ _) | decide)

theorem State.seq_ag (s : State) (k : CoreId) (zd za kind : Nat) : Agree 1073741824 s (State.seq s k zd za kind) := by
  unfold State.seq
  repeat' (with_reducible first | assumption | apply Agree.refl | intro _ | (extract_lets +onlyGivenNames x; first | (refine (fun (_ : Agree 1073741824 s x) => ?_ : Agree 1073741824 s x → _) ?_; clear_value x) | (refine (fun (_ : Agree 1073741824 s x.1) => ?_ : Agree 1073741824 s x.1 → _) ?_; clear_value x) | clear_value x) | subst x | apply Agree.then (k := State.setZr_ag _ _ _ _) | apply Agree.then (k := State.addFlags_ag _ _ _) | decide)

theorem execSeq_ag (k : CoreId) (pn : Bool) (ps : Fin 8) (z1 : Bool) (zd za : BitVec 4) (kind : BitVec 2) (z : BitVec 11) (s : State) : ∀ t1, execSeq k pn ps z1 zd za kind z s = .next t1 → Agree 1433579708941 s t1 := by
  intro t1 h
  obtain rfl := Host.Outcome.next.inj h
  repeat' (with_reducible first | assumption | apply Agree.refl | intro _ | apply AgreeE.ok | apply AgreeE.jump | apply AgreeE.done | apply AgreeE.trap | apply AgreeE.ite | apply State.walso_ho | apply Agree.then (k := State.seq_ag _ _ _ _ _) | decide)

theorem execFrq_ag (k : CoreId) (pn : Bool) (ps : Fin 8) (rd : BitVec 5) (sel : BitVec 3) (z : BitVec 14) (s : State) : ∀ t1, execFrq k pn ps rd sel z s = .next t1 → Agree 1433579708941 s t1 := by
  intro t1 h
  obtain rfl := Host.Outcome.next.inj h
  repeat' (with_reducible first | assumption | apply Agree.refl | intro _ | apply AgreeE.ok | apply AgreeE.jump | apply AgreeE.done | apply AgreeE.trap | apply AgreeE.ite | apply Agree.then (k := State.setGr_ag _ _ _ _) | apply State.walso_ho | decide)

theorem execCrvStep_ag (k : CoreId) (pn : Bool) (ps : Fin 8) (rd ra n : BitVec 5) (z : BitVec 5) (s : State) : ∀ t1, execCrvStep k pn ps rd ra n z s = .next t1 → Agree 1433579708941 s t1 := by
  intro t1 h
  obtain rfl := Host.Outcome.next.inj h
  repeat' (with_reducible first | assumption | apply Agree.refl | intro _ | apply AgreeE.ok | apply AgreeE.jump | apply AgreeE.done | apply AgreeE.trap | apply AgreeE.ite | apply unitResult_ho | apply Agree.then (k := State.setGr_ag _ _ _ _) | apply Agree.then (k := State.crvStep_ag _ _ _ _) | apply State.walso_ho | decide)

theorem execCrvReset_ag (k : CoreId) (pn : Bool) (ps : Fin 8) (rd ra n : BitVec 5) (z : BitVec 5) (s : State) : ∀ t1, execCrvReset k pn ps rd ra n z s = .next t1 → Agree 1433579708941 s t1 := by
  intro t1 h
  obtain rfl := Host.Outcome.next.inj h
  repeat' (with_reducible first | assumption | apply Agree.refl | intro _ | apply AgreeE.ok | apply AgreeE.jump | apply AgreeE.done | apply AgreeE.trap | apply AgreeE.ite | apply unitResult_ho | apply Agree.then (k := State.setGr_ag _ _ _ _) | apply Agree.then (k := State.crvClear_ag _ _ _) | apply State.walso_ho | decide)

theorem execCrvRead_ag (k : CoreId) (pn : Bool) (ps : Fin 8) (rd ra n : BitVec 5) (z : BitVec 5) (s : State) : ∀ t1, execCrvRead k pn ps rd ra n z s = .next t1 → Agree 1433579708941 s t1 := by
  intro t1 h
  obtain rfl := Host.Outcome.next.inj h
  repeat' (with_reducible first | assumption | apply Agree.refl | intro _ | apply AgreeE.ok | apply AgreeE.jump | apply AgreeE.done | apply AgreeE.trap | apply AgreeE.ite | apply unitResult_ho | apply Agree.then (k := State.setGr_ag _ _ _ _) | apply State.walso_ho | decide)

theorem execCmphEval_ag (k : CoreId) (pn : Bool) (ps : Fin 8) (rd ra : BitVec 5) (n : BitVec 6) (z : BitVec 4) (s : State) : ∀ t1, execCmphEval k pn ps rd ra n z s = .next t1 → Agree 1433579708941 s t1 := by
  intro t1 h
  obtain rfl := Host.Outcome.next.inj h
  repeat' (with_reducible first | assumption | apply Agree.refl | intro _ | apply AgreeE.ok | apply AgreeE.jump | apply AgreeE.done | apply AgreeE.trap | apply AgreeE.ite | apply unitResult_ho | apply Agree.then (k := State.setGr_ag _ _ _ _) | apply Agree.then (k := State.cmpEval_ag _ _ _ _) | apply State.walso_ho | decide)

theorem execCmphReset_ag (k : CoreId) (pn : Bool) (ps : Fin 8) (rd ra : BitVec 5) (n : BitVec 6) (z : BitVec 4) (s : State) : ∀ t1, execCmphReset k pn ps rd ra n z s = .next t1 → Agree 1433579708941 s t1 := by
  intro t1 h
  obtain rfl := Host.Outcome.next.inj h
  repeat' (with_reducible first | assumption | apply Agree.refl | intro _ | apply AgreeE.ok | apply AgreeE.jump | apply AgreeE.done | apply AgreeE.trap | apply AgreeE.ite | apply unitResult_ho | apply Agree.then (k := State.setGr_ag _ _ _ _) | apply Agree.then (k := State.cmpClear_ag _ _ _) | apply State.walso_ho | decide)

theorem execCmphRead_ag (k : CoreId) (pn : Bool) (ps : Fin 8) (rd ra : BitVec 5) (n : BitVec 6) (z : BitVec 4) (s : State) : ∀ t1, execCmphRead k pn ps rd ra n z s = .next t1 → Agree 1433579708941 s t1 := by
  intro t1 h
  obtain rfl := Host.Outcome.next.inj h
  repeat' (with_reducible first | assumption | apply Agree.refl | intro _ | apply AgreeE.ok | apply AgreeE.jump | apply AgreeE.done | apply AgreeE.trap | apply AgreeE.ite | apply unitResult_ho | apply Agree.then (k := State.setGr_ag _ _ _ _) | apply State.walso_ho | decide)

theorem execTmrStep_ag (k : CoreId) (pn : Bool) (ps : Fin 8) (rd ra : BitVec 5) (n : BitVec 6) (z : BitVec 4) (s : State) : ∀ t1, execTmrStep k pn ps rd ra n z s = .next t1 → Agree 1433579708941 s t1 := by
  intro t1 h
  obtain rfl := Host.Outcome.next.inj h
  repeat' (with_reducible first | assumption | apply Agree.refl | intro _ | apply AgreeE.ok | apply AgreeE.jump | apply AgreeE.done | apply AgreeE.trap | apply AgreeE.ite | apply unitResult_ho | apply Agree.then (k := State.setGr_ag _ _ _ _) | apply Agree.then (k := State.tmrStep_ag _ _ _ _) | apply State.walso_ho | decide)

theorem execTmrReset_ag (k : CoreId) (pn : Bool) (ps : Fin 8) (rd ra : BitVec 5) (n : BitVec 6) (z : BitVec 4) (s : State) : ∀ t1, execTmrReset k pn ps rd ra n z s = .next t1 → Agree 1433579708941 s t1 := by
  intro t1 h
  obtain rfl := Host.Outcome.next.inj h
  repeat' (with_reducible first | assumption | apply Agree.refl | intro _ | apply AgreeE.ok | apply AgreeE.jump | apply AgreeE.done | apply AgreeE.trap | apply AgreeE.ite | apply unitResult_ho | apply Agree.then (k := State.setGr_ag _ _ _ _) | apply Agree.then (k := State.tmrClear_ag _ _ _) | apply State.walso_ho | decide)

theorem execTmrRead_ag (k : CoreId) (pn : Bool) (ps : Fin 8) (rd ra : BitVec 5) (n : BitVec 6) (z : BitVec 4) (s : State) : ∀ t1, execTmrRead k pn ps rd ra n z s = .next t1 → Agree 1433579708941 s t1 := by
  intro t1 h
  obtain rfl := Host.Outcome.next.inj h
  repeat' (with_reducible first | assumption | apply Agree.refl | intro _ | apply AgreeE.ok | apply AgreeE.jump | apply AgreeE.done | apply AgreeE.trap | apply AgreeE.ite | apply unitResult_ho | apply Agree.then (k := State.setGr_ag _ _ _ _) | apply State.walso_ho | decide)

theorem State.tripReq_ag (s : State) (k : CoreId) (ra x : Nat) : Agree 2147483648 s (State.tripReq s k ra x) := by
  unfold State.tripReq
  repeat' (with_reducible first | assumption | apply Agree.refl | intro _ | (extract_lets +onlyGivenNames x; first | (refine (fun (_ : Agree 2147483648 s x) => ?_ : Agree 2147483648 s x → _) ?_; clear_value x) | (refine (fun (_ : Agree 2147483648 s x.1) => ?_ : Agree 2147483648 s x.1 → _) ?_; clear_value x) | clear_value x) | subst x | apply Agree.ite | apply Agree.then (k := State.elemMod_ag _ _ _) | decide | split)

theorem execTripreq_ag (k : CoreId) (pn : Bool) (ps : Fin 8) (ra : BitVec 5) (x : BitVec 17) (s : State) : ∀ t1, execTripreq k pn ps ra x s = .next t1 → Agree 1433579708941 s t1 := by
  intro t1 h
  obtain rfl := Host.Outcome.next.inj h
  repeat' (with_reducible first | assumption | apply Agree.refl | intro _ | apply AgreeE.ok | apply AgreeE.jump | apply AgreeE.done | apply AgreeE.trap | apply AgreeE.ite | apply State.walso_ho | apply Agree.then (k := State.tripReq_ag _ _ _ _) | decide)

theorem State.stageFlags_ag (s : State) (k : CoreId) (f : Word → Word) : Agree 2147483648 s (State.stageFlags s k f) := by
  unfold State.stageFlags
  repeat' (with_reducible first | assumption | apply Agree.refl | intro _ | apply Agree.then (k := State.elemMod_ag _ _ _) | decide)

theorem execFlagOr_ag (k : CoreId) (pn : Bool) (ps : Fin 8) (ra : BitVec 5) (z : BitVec 10) (b : BitVec 5) (s : State) : ∀ t1, execFlagOr k pn ps ra z b s = .next t1 → Agree 1433579708941 s t1 := by
  intro t1 h
  obtain rfl := Host.Outcome.next.inj h
  repeat' (with_reducible first | assumption | apply Agree.refl | intro _ | apply AgreeE.ok | apply AgreeE.jump | apply AgreeE.done | apply AgreeE.trap | apply AgreeE.ite | apply State.walso_ho | apply Agree.then (k := State.stageFlags_ag _ _ _) | decide)

theorem execFlagAndn_ag (k : CoreId) (pn : Bool) (ps : Fin 8) (ra : BitVec 5) (z : BitVec 10) (b : BitVec 5) (s : State) : ∀ t1, execFlagAndn k pn ps ra z b s = .next t1 → Agree 1433579708941 s t1 := by
  intro t1 h
  obtain rfl := Host.Outcome.next.inj h
  repeat' (with_reducible first | assumption | apply Agree.refl | intro _ | apply AgreeE.ok | apply AgreeE.jump | apply AgreeE.done | apply AgreeE.trap | apply AgreeE.ite | apply State.walso_ho | apply Agree.then (k := State.stageFlags_ag _ _ _) | decide)

theorem execFlagMov_ag (k : CoreId) (pn : Bool) (ps : Fin 8) (ra : BitVec 5) (z : BitVec 10) (b : BitVec 5) (s : State) : ∀ t1, execFlagMov k pn ps ra z b s = .next t1 → Agree 1433579708941 s t1 := by
  intro t1 h
  obtain rfl := Host.Outcome.next.inj h
  repeat' (with_reducible first | assumption | apply Agree.refl | intro _ | apply AgreeE.ok | apply AgreeE.jump | apply AgreeE.done | apply AgreeE.trap | apply AgreeE.ite | apply State.walso_ho | apply Agree.then (k := State.stageFlags_ag _ _ _) | decide)

theorem execFlagBit_ag (k : CoreId) (pn : Bool) (ps : Fin 8) (ra : BitVec 5) (z : BitVec 10) (b : BitVec 5) (s : State) : ∀ t1, execFlagBit k pn ps ra z b s = .next t1 → Agree 1433579708941 s t1 := by
  intro t1 h
  obtain rfl := Host.Outcome.next.inj h
  repeat' (with_reducible first | assumption | apply Agree.refl | intro _ | apply AgreeE.ok | apply AgreeE.jump | apply AgreeE.done | apply AgreeE.trap | apply AgreeE.ite | apply State.walso_ho | apply Agree.then (k := State.stageFlags_ag _ _ _) | decide)

theorem State.evt_ag (s : State) (k : CoreId) (ra rb code : Nat) : Agree 2147483649 s (State.evt s k ra rb code) := by
  unfold State.evt
  repeat' (with_reducible first | assumption | apply Agree.refl | intro _ | (extract_lets +onlyGivenNames x; first | (refine (fun (_ : Agree 2147483649 s x) => ?_ : Agree 2147483649 s x → _) ?_; clear_value x) | (refine (fun (_ : Agree 2147483649 s x.1) => ?_ : Agree 2147483649 s x.1 → _) ?_; clear_value x) | clear_value x) | subst x | apply Agree.ite | apply Agree.then (k := State.count_ag _ _ _ _ _) | apply Agree.then (k := State.elemMod_ag _ _ _) | decide | split)

theorem execEvt_ag (k : CoreId) (pn : Bool) (ps : Fin 8) (ra rb : BitVec 5) (code : BitVec 12) (s : State) : ∀ t1, execEvt k pn ps ra rb code s = .next t1 → Agree 1433579708941 s t1 := by
  intro t1 h
  obtain rfl := Host.Outcome.next.inj h
  repeat' (with_reducible first | assumption | apply Agree.refl | intro _ | apply AgreeE.ok | apply AgreeE.jump | apply AgreeE.done | apply AgreeE.trap | apply AgreeE.ite | apply State.walso_ho | apply Agree.then (k := State.evt_ag _ _ _ _ _) | decide)

theorem execXchPub_ag (k : CoreId) (pn : Bool) (ps : Fin 8) (rd : BitVec 5) (z : BitVec 6) (c : BitVec 4) (z1 : Bool) (slot : BitVec 4) (s : State) : ∀ t1, execXchPub k pn ps rd z c z1 slot s = .next t1 → Agree 1433579708941 s t1 := by
  intro t1 h
  obtain rfl := Host.Outcome.next.inj h
  repeat' (with_reducible first | assumption | apply Agree.refl | intro _ | apply AgreeE.ok | apply AgreeE.jump | apply AgreeE.done | apply AgreeE.trap | apply AgreeE.ite | apply Agree.then (k := State.elemMod_ag _ _ _) | apply State.walso_ho | decide)

theorem execXchRd_ag (k : CoreId) (pn : Bool) (ps : Fin 8) (rd : BitVec 5) (z : BitVec 6) (c : BitVec 4) (z1 : Bool) (slot : BitVec 4) (s : State) : ∀ t1, execXchRd k pn ps rd z c z1 slot s = .next t1 → Agree 1433579708941 s t1 := by
  intro t1 h
  obtain rfl := Host.Outcome.next.inj h
  repeat' (with_reducible first | assumption | apply Agree.refl | intro _ | apply AgreeE.ok | apply AgreeE.jump | apply AgreeE.done | apply AgreeE.trap | apply AgreeE.ite | apply Agree.then (k := State.setGr_ag _ _ _ _) | apply State.walso_ho | decide)

theorem execXchTag_ag (k : CoreId) (pn : Bool) (ps : Fin 8) (rd : BitVec 5) (z : BitVec 6) (c : BitVec 4) (z1 : Bool) (slot : BitVec 4) (s : State) : ∀ t1, execXchTag k pn ps rd z c z1 slot s = .next t1 → Agree 1433579708941 s t1 := by
  intro t1 h
  obtain rfl := Host.Outcome.next.inj h
  repeat' (with_reducible first | assumption | apply Agree.refl | intro _ | apply AgreeE.ok | apply AgreeE.jump | apply AgreeE.done | apply AgreeE.trap | apply AgreeE.ite | apply Agree.then (k := State.setGr_ag _ _ _ _) | apply State.walso_ho | decide)

end Sys2Proof.Machine
end

