-- ==== Sys2Proof/Laws/State.lean ====
section
/-!
SUPPORT. What each update of State leaves in each field, and what each reader reads after it.
-/
namespace Sys2Proof.Machine
open Sys2Proof

section
variable (s : State) (a : Nat) (v : Word)
@[simp] theorem State.wr_mram : (s.wr a v).mram = s.mram := rfl
@[simp] theorem State.wr_claims : (s.wr a v).claims = s.claims := rfl
@[simp] theorem State.wr_ended : (s.wr a v).ended = s.ended := rfl
@[simp] theorem State.wr_rsp : (s.wr a v).rsp = s.rsp := rfl
@[simp] theorem State.wr_spiOut : (s.wr a v).spiOut = s.spiOut := rfl
@[simp] theorem State.wr_snaps : (s.wr a v).snaps = s.snaps := rfl
@[simp] theorem State.wr_holds : (s.wr a v).holds = s.holds := rfl
@[simp] theorem State.wr_inds : (s.wr a v).inds = s.inds := rfl
@[simp] theorem State.wr_hbiReady : (s.wr a v).hbiReady = s.hbiReady := rfl
@[simp] theorem State.wr_supPend : (s.wr a v).supPend = s.supPend := rfl
@[simp] theorem State.wr_links : (s.wr a v).links = s.links := rfl
@[simp] theorem State.wr_mramErr : (s.wr a v).mramErr = s.mramErr := rfl
@[simp] theorem State.wr_mramOut : (s.wr a v).mramOut = s.mramOut := rfl
@[simp] theorem State.wr_tally : (s.wr a v).tally = s.tally := rfl
@[simp] theorem State.wr_buckets : (s.wr a v).buckets = s.buckets := rfl
@[simp] theorem State.wr_tb : (s.wr a v).tb = s.tb := rfl
@[simp] theorem State.wr_alms : (s.wr a v).alms = s.alms := rfl
@[simp] theorem State.wr_pins : (s.wr a v).pins = s.pins := rfl
@[simp] theorem State.wr_tick : (s.wr a v).tick = s.tick := rfl
@[simp] theorem State.wr_stepFlag : (s.wr a v).stepFlag = s.stepFlag := rfl
@[simp] theorem State.wr_phase : (s.wr a v).phase = s.phase := rfl
@[simp] theorem State.wr_lanes : (s.wr a v).lanes = s.lanes := rfl
@[simp] theorem State.wr_clSrc : (s.wr a v).clSrc = s.clSrc := rfl
@[simp] theorem State.wr_expect : (s.wr a v).expect = s.expect := rfl
@[simp] theorem State.wr_late : (s.wr a v).late = s.late := rfl
@[simp] theorem State.wr_trk : (s.wr a v).trk = s.trk := rfl
@[simp] theorem State.wr_fpds : (s.wr a v).fpds = s.fpds := rfl
@[simp] theorem State.wr_dets : (s.wr a v).dets = s.dets := rfl
@[simp] theorem State.wr_light : (s.wr a v).light = s.light := rfl
@[simp] theorem State.wr_heldRegs : (s.wr a v).heldRegs = s.heldRegs := rfl
@[simp] theorem State.wr_cores : (s.wr a v).cores = s.cores := rfl
@[simp] theorem State.wr_elems : (s.wr a v).elems = s.elems := rfl
@[simp] theorem State.wr_sups : (s.wr a v).sups = s.sups := rfl
@[simp] theorem State.wr_inForce : (s.wr a v).inForce = s.inForce := rfl
@[simp] theorem State.wr_cans : (s.wr a v).cans = s.cans := rfl
@[simp] theorem State.wr_eth : (s.wr a v).eth = s.eth := rfl
@[simp] theorem State.wr_field_ : (s.wr a v).field_ = s.field_ := rfl
@[simp] theorem State.wr_fio : (s.wr a v).fio = s.fio := rfl
@[simp] theorem State.wr_lines : (s.wr a v).lines = s.lines := rfl
@[simp] theorem State.wr_tripKey : (s.wr a v).tripKey = s.tripKey := rfl
@[simp] theorem State.wr_lathe : (s.wr a v).lathe = s.lathe := rfl
@[simp] theorem State.wr_ticks : (s.wr a v).ticks = s.ticks := rfl
@[simp] theorem State.wr_recs : (s.wr a v).recs = s.recs := rfl
@[simp] theorem State.wr_wbs : (s.wr a v).wbs = s.wbs := rfl
@[simp] theorem State.wr_gauges : (s.wr a v).gauges = s.gauges := rfl
@[simp] theorem State.wr_blz : (s.wr a v).blz = s.blz := rfl
@[simp] theorem State.wr_pair : (s.wr a v).pair = s.pair := rfl
@[simp] theorem State.wr_meter : (s.wr a v).meter = s.meter := rfl
@[simp] theorem State.wr_power : (s.wr a v).power = s.power := rfl
@[simp] theorem State.wr_freeCtr : (s.wr a v).freeCtr = s.freeCtr := rfl
@[simp] theorem State.wr_pending : (s.wr a v).pending = s.pending := rfl
@[simp] theorem State.rd_wr (k : Nat) : (s.wr a v).rd k = if a = k then v else s.rd k := SMap.get_set _ _ _ _ _
@[simp] theorem State.mb_wr (k : Nat) : (s.wr a v).mb k = s.mb k := rfl
@[simp] theorem State.ind_wr (k : Nat) : (s.wr a v).ind k = s.ind k := rfl
@[simp] theorem State.link_wr (k : Nat) : (s.wr a v).link k = s.link k := rfl
@[simp] theorem State.lane_wr (k : Nat) : (s.wr a v).lane k = s.lane k := rfl
@[simp] theorem State.tracker_wr (k : Nat) : (s.wr a v).tracker k = s.tracker k := rfl
@[simp] theorem State.fpd_wr (k : Nat) : (s.wr a v).fpd k = s.fpd k := rfl
@[simp] theorem State.det_wr (k : Nat) : (s.wr a v).det k = s.det k := rfl
@[simp] theorem State.pin_wr (k : Nat) : (s.wr a v).pin k = s.pin k := rfl
@[simp] theorem State.alm_wr (k : Nat) : (s.wr a v).alm k = s.alm k := rfl
@[simp] theorem State.bucket_wr (k : Nat) : (s.wr a v).bucket k = s.bucket k := rfl
@[simp] theorem State.clPhase_wr (k : Nat) : (s.wr a v).clPhase k = s.clPhase k := rfl
@[simp] theorem State.claim_wr (k : Nat) : (s.wr a v).claim k = s.claim k := rfl
@[simp] theorem State.can_wr (k : Nat) : (s.wr a v).can k = s.can k := rfl
@[simp] theorem State.supBits_wr (k : Nat) : (s.wr a v).supBits k = s.supBits k := rfl
@[simp] theorem State.eff_wr (k : Nat) : (s.wr a v).eff k = s.eff k := rfl
@[simp] theorem State.core_wr (k : Nat) : (s.wr a v).core k = s.core k := rfl
@[simp] theorem State.elem_wr (k : Nat) : (s.wr a v).elem k = s.elem k := rfl
@[simp] theorem State.sup_wr (k : Nat) : (s.wr a v).sup k = s.sup k := rfl
@[simp] theorem State.line_wr (k : Nat) : (s.wr a v).line k = s.line k := rfl
@[simp] theorem State.blzU_wr (k : Nat) : (s.wr a v).blzU k = s.blzU k := rfl
@[simp] theorem State.gauge_wr (k : Nat) : (s.wr a v).gauge k = s.gauge k := rfl
@[simp] theorem State.rcu_wr (k : Nat) : (s.wr a v).rcu k = s.rcu k := rfl
@[simp] theorem State.wbu_wr (k : Nat) : (s.wr a v).wbu k = s.wbu k := rfl
end

section
variable (s : State) (a : Nat) (v : Ind)
@[simp] theorem State.setInd_regs : (s.setInd a v).regs = s.regs := rfl
@[simp] theorem State.setInd_mram : (s.setInd a v).mram = s.mram := rfl
@[simp] theorem State.setInd_claims : (s.setInd a v).claims = s.claims := rfl
@[simp] theorem State.setInd_ended : (s.setInd a v).ended = s.ended := rfl
@[simp] theorem State.setInd_rsp : (s.setInd a v).rsp = s.rsp := rfl
@[simp] theorem State.setInd_spiOut : (s.setInd a v).spiOut = s.spiOut := rfl
@[simp] theorem State.setInd_snaps : (s.setInd a v).snaps = s.snaps := rfl
@[simp] theorem State.setInd_holds : (s.setInd a v).holds = s.holds := rfl
@[simp] theorem State.setInd_hbiReady : (s.setInd a v).hbiReady = s.hbiReady := rfl
@[simp] theorem State.setInd_supPend : (s.setInd a v).supPend = s.supPend := rfl
@[simp] theorem State.setInd_links : (s.setInd a v).links = s.links := rfl
@[simp] theorem State.setInd_mramErr : (s.setInd a v).mramErr = s.mramErr := rfl
@[simp] theorem State.setInd_mramOut : (s.setInd a v).mramOut = s.mramOut := rfl
@[simp] theorem State.setInd_tally : (s.setInd a v).tally = s.tally := rfl
@[simp] theorem State.setInd_buckets : (s.setInd a v).buckets = s.buckets := rfl
@[simp] theorem State.setInd_tb : (s.setInd a v).tb = s.tb := rfl
@[simp] theorem State.setInd_alms : (s.setInd a v).alms = s.alms := rfl
@[simp] theorem State.setInd_pins : (s.setInd a v).pins = s.pins := rfl
@[simp] theorem State.setInd_tick : (s.setInd a v).tick = s.tick := rfl
@[simp] theorem State.setInd_stepFlag : (s.setInd a v).stepFlag = s.stepFlag := rfl
@[simp] theorem State.setInd_phase : (s.setInd a v).phase = s.phase := rfl
@[simp] theorem State.setInd_lanes : (s.setInd a v).lanes = s.lanes := rfl
@[simp] theorem State.setInd_clSrc : (s.setInd a v).clSrc = s.clSrc := rfl
@[simp] theorem State.setInd_expect : (s.setInd a v).expect = s.expect := rfl
@[simp] theorem State.setInd_late : (s.setInd a v).late = s.late := rfl
@[simp] theorem State.setInd_trk : (s.setInd a v).trk = s.trk := rfl
@[simp] theorem State.setInd_fpds : (s.setInd a v).fpds = s.fpds := rfl
@[simp] theorem State.setInd_dets : (s.setInd a v).dets = s.dets := rfl
@[simp] theorem State.setInd_light : (s.setInd a v).light = s.light := rfl
@[simp] theorem State.setInd_heldRegs : (s.setInd a v).heldRegs = s.heldRegs := rfl
@[simp] theorem State.setInd_cores : (s.setInd a v).cores = s.cores := rfl
@[simp] theorem State.setInd_elems : (s.setInd a v).elems = s.elems := rfl
@[simp] theorem State.setInd_sups : (s.setInd a v).sups = s.sups := rfl
@[simp] theorem State.setInd_inForce : (s.setInd a v).inForce = s.inForce := rfl
@[simp] theorem State.setInd_cans : (s.setInd a v).cans = s.cans := rfl
@[simp] theorem State.setInd_eth : (s.setInd a v).eth = s.eth := rfl
@[simp] theorem State.setInd_field_ : (s.setInd a v).field_ = s.field_ := rfl
@[simp] theorem State.setInd_fio : (s.setInd a v).fio = s.fio := rfl
@[simp] theorem State.setInd_lines : (s.setInd a v).lines = s.lines := rfl
@[simp] theorem State.setInd_tripKey : (s.setInd a v).tripKey = s.tripKey := rfl
@[simp] theorem State.setInd_lathe : (s.setInd a v).lathe = s.lathe := rfl
@[simp] theorem State.setInd_ticks : (s.setInd a v).ticks = s.ticks := rfl
@[simp] theorem State.setInd_recs : (s.setInd a v).recs = s.recs := rfl
@[simp] theorem State.setInd_wbs : (s.setInd a v).wbs = s.wbs := rfl
@[simp] theorem State.setInd_gauges : (s.setInd a v).gauges = s.gauges := rfl
@[simp] theorem State.setInd_blz : (s.setInd a v).blz = s.blz := rfl
@[simp] theorem State.setInd_pair : (s.setInd a v).pair = s.pair := rfl
@[simp] theorem State.setInd_meter : (s.setInd a v).meter = s.meter := rfl
@[simp] theorem State.setInd_power : (s.setInd a v).power = s.power := rfl
@[simp] theorem State.setInd_freeCtr : (s.setInd a v).freeCtr = s.freeCtr := rfl
@[simp] theorem State.setInd_pending : (s.setInd a v).pending = s.pending := rfl
@[simp] theorem State.rd_setInd (k : Nat) : (s.setInd a v).rd k = s.rd k := rfl
@[simp] theorem State.mb_setInd (k : Nat) : (s.setInd a v).mb k = s.mb k := rfl
@[simp] theorem State.ind_setInd (k : Nat) : (s.setInd a v).ind k = if a = k then v else s.ind k := SMap.get_set _ _ _ _ _
@[simp] theorem State.link_setInd (k : Nat) : (s.setInd a v).link k = s.link k := rfl
@[simp] theorem State.lane_setInd (k : Nat) : (s.setInd a v).lane k = s.lane k := rfl
@[simp] theorem State.tracker_setInd (k : Nat) : (s.setInd a v).tracker k = s.tracker k := rfl
@[simp] theorem State.fpd_setInd (k : Nat) : (s.setInd a v).fpd k = s.fpd k := rfl
@[simp] theorem State.det_setInd (k : Nat) : (s.setInd a v).det k = s.det k := rfl
@[simp] theorem State.pin_setInd (k : Nat) : (s.setInd a v).pin k = s.pin k := rfl
@[simp] theorem State.alm_setInd (k : Nat) : (s.setInd a v).alm k = s.alm k := rfl
@[simp] theorem State.bucket_setInd (k : Nat) : (s.setInd a v).bucket k = s.bucket k := rfl
@[simp] theorem State.clPhase_setInd (k : Nat) : (s.setInd a v).clPhase k = s.clPhase k := rfl
@[simp] theorem State.claim_setInd (k : Nat) : (s.setInd a v).claim k = s.claim k := rfl
@[simp] theorem State.can_setInd (k : Nat) : (s.setInd a v).can k = s.can k := rfl
@[simp] theorem State.supBits_setInd (k : Nat) : (s.setInd a v).supBits k = s.supBits k := rfl
@[simp] theorem State.eff_setInd (k : Nat) : (s.setInd a v).eff k = s.eff k := rfl
@[simp] theorem State.core_setInd (k : Nat) : (s.setInd a v).core k = s.core k := rfl
@[simp] theorem State.elem_setInd (k : Nat) : (s.setInd a v).elem k = s.elem k := rfl
@[simp] theorem State.sup_setInd (k : Nat) : (s.setInd a v).sup k = s.sup k := rfl
@[simp] theorem State.line_setInd (k : Nat) : (s.setInd a v).line k = s.line k := rfl
@[simp] theorem State.blzU_setInd (k : Nat) : (s.setInd a v).blzU k = s.blzU k := rfl
@[simp] theorem State.gauge_setInd (k : Nat) : (s.setInd a v).gauge k = s.gauge k := rfl
@[simp] theorem State.rcu_setInd (k : Nat) : (s.setInd a v).rcu k = s.rcu k := rfl
@[simp] theorem State.wbu_setInd (k : Nat) : (s.setInd a v).wbu k = s.wbu k := rfl
end

section
variable (s : State) (a : Nat) (v : Link)
@[simp] theorem State.setLink_regs : (s.setLink a v).regs = s.regs := rfl
@[simp] theorem State.setLink_mram : (s.setLink a v).mram = s.mram := rfl
@[simp] theorem State.setLink_claims : (s.setLink a v).claims = s.claims := rfl
@[simp] theorem State.setLink_ended : (s.setLink a v).ended = s.ended := rfl
@[simp] theorem State.setLink_rsp : (s.setLink a v).rsp = s.rsp := rfl
@[simp] theorem State.setLink_spiOut : (s.setLink a v).spiOut = s.spiOut := rfl
@[simp] theorem State.setLink_snaps : (s.setLink a v).snaps = s.snaps := rfl
@[simp] theorem State.setLink_holds : (s.setLink a v).holds = s.holds := rfl
@[simp] theorem State.setLink_inds : (s.setLink a v).inds = s.inds := rfl
@[simp] theorem State.setLink_hbiReady : (s.setLink a v).hbiReady = s.hbiReady := rfl
@[simp] theorem State.setLink_supPend : (s.setLink a v).supPend = s.supPend := rfl
@[simp] theorem State.setLink_mramErr : (s.setLink a v).mramErr = s.mramErr := rfl
@[simp] theorem State.setLink_mramOut : (s.setLink a v).mramOut = s.mramOut := rfl
@[simp] theorem State.setLink_tally : (s.setLink a v).tally = s.tally := rfl
@[simp] theorem State.setLink_buckets : (s.setLink a v).buckets = s.buckets := rfl
@[simp] theorem State.setLink_tb : (s.setLink a v).tb = s.tb := rfl
@[simp] theorem State.setLink_alms : (s.setLink a v).alms = s.alms := rfl
@[simp] theorem State.setLink_pins : (s.setLink a v).pins = s.pins := rfl
@[simp] theorem State.setLink_tick : (s.setLink a v).tick = s.tick := rfl
@[simp] theorem State.setLink_stepFlag : (s.setLink a v).stepFlag = s.stepFlag := rfl
@[simp] theorem State.setLink_phase : (s.setLink a v).phase = s.phase := rfl
@[simp] theorem State.setLink_lanes : (s.setLink a v).lanes = s.lanes := rfl
@[simp] theorem State.setLink_clSrc : (s.setLink a v).clSrc = s.clSrc := rfl
@[simp] theorem State.setLink_expect : (s.setLink a v).expect = s.expect := rfl
@[simp] theorem State.setLink_late : (s.setLink a v).late = s.late := rfl
@[simp] theorem State.setLink_trk : (s.setLink a v).trk = s.trk := rfl
@[simp] theorem State.setLink_fpds : (s.setLink a v).fpds = s.fpds := rfl
@[simp] theorem State.setLink_dets : (s.setLink a v).dets = s.dets := rfl
@[simp] theorem State.setLink_light : (s.setLink a v).light = s.light := rfl
@[simp] theorem State.setLink_heldRegs : (s.setLink a v).heldRegs = s.heldRegs := rfl
@[simp] theorem State.setLink_cores : (s.setLink a v).cores = s.cores := rfl
@[simp] theorem State.setLink_elems : (s.setLink a v).elems = s.elems := rfl
@[simp] theorem State.setLink_sups : (s.setLink a v).sups = s.sups := rfl
@[simp] theorem State.setLink_inForce : (s.setLink a v).inForce = s.inForce := rfl
@[simp] theorem State.setLink_cans : (s.setLink a v).cans = s.cans := rfl
@[simp] theorem State.setLink_eth : (s.setLink a v).eth = s.eth := rfl
@[simp] theorem State.setLink_field_ : (s.setLink a v).field_ = s.field_ := rfl
@[simp] theorem State.setLink_fio : (s.setLink a v).fio = s.fio := rfl
@[simp] theorem State.setLink_lines : (s.setLink a v).lines = s.lines := rfl
@[simp] theorem State.setLink_tripKey : (s.setLink a v).tripKey = s.tripKey := rfl
@[simp] theorem State.setLink_lathe : (s.setLink a v).lathe = s.lathe := rfl
@[simp] theorem State.setLink_ticks : (s.setLink a v).ticks = s.ticks := rfl
@[simp] theorem State.setLink_recs : (s.setLink a v).recs = s.recs := rfl
@[simp] theorem State.setLink_wbs : (s.setLink a v).wbs = s.wbs := rfl
@[simp] theorem State.setLink_gauges : (s.setLink a v).gauges = s.gauges := rfl
@[simp] theorem State.setLink_blz : (s.setLink a v).blz = s.blz := rfl
@[simp] theorem State.setLink_pair : (s.setLink a v).pair = s.pair := rfl
@[simp] theorem State.setLink_meter : (s.setLink a v).meter = s.meter := rfl
@[simp] theorem State.setLink_power : (s.setLink a v).power = s.power := rfl
@[simp] theorem State.setLink_freeCtr : (s.setLink a v).freeCtr = s.freeCtr := rfl
@[simp] theorem State.setLink_pending : (s.setLink a v).pending = s.pending := rfl
@[simp] theorem State.rd_setLink (k : Nat) : (s.setLink a v).rd k = s.rd k := rfl
@[simp] theorem State.mb_setLink (k : Nat) : (s.setLink a v).mb k = s.mb k := rfl
@[simp] theorem State.ind_setLink (k : Nat) : (s.setLink a v).ind k = s.ind k := rfl
@[simp] theorem State.link_setLink (k : Nat) : (s.setLink a v).link k = if a = k then v else s.link k := SMap.get_set _ _ _ _ _
@[simp] theorem State.lane_setLink (k : Nat) : (s.setLink a v).lane k = s.lane k := rfl
@[simp] theorem State.tracker_setLink (k : Nat) : (s.setLink a v).tracker k = s.tracker k := rfl
@[simp] theorem State.fpd_setLink (k : Nat) : (s.setLink a v).fpd k = s.fpd k := rfl
@[simp] theorem State.det_setLink (k : Nat) : (s.setLink a v).det k = s.det k := rfl
@[simp] theorem State.pin_setLink (k : Nat) : (s.setLink a v).pin k = s.pin k := rfl
@[simp] theorem State.alm_setLink (k : Nat) : (s.setLink a v).alm k = s.alm k := rfl
@[simp] theorem State.bucket_setLink (k : Nat) : (s.setLink a v).bucket k = s.bucket k := rfl
@[simp] theorem State.clPhase_setLink (k : Nat) : (s.setLink a v).clPhase k = s.clPhase k := rfl
@[simp] theorem State.claim_setLink (k : Nat) : (s.setLink a v).claim k = s.claim k := rfl
@[simp] theorem State.can_setLink (k : Nat) : (s.setLink a v).can k = s.can k := rfl
@[simp] theorem State.supBits_setLink (k : Nat) : (s.setLink a v).supBits k = s.supBits k := rfl
@[simp] theorem State.eff_setLink (k : Nat) : (s.setLink a v).eff k = s.eff k := rfl
@[simp] theorem State.core_setLink (k : Nat) : (s.setLink a v).core k = s.core k := rfl
@[simp] theorem State.elem_setLink (k : Nat) : (s.setLink a v).elem k = s.elem k := rfl
@[simp] theorem State.sup_setLink (k : Nat) : (s.setLink a v).sup k = s.sup k := rfl
@[simp] theorem State.line_setLink (k : Nat) : (s.setLink a v).line k = s.line k := rfl
@[simp] theorem State.blzU_setLink (k : Nat) : (s.setLink a v).blzU k = s.blzU k := rfl
@[simp] theorem State.gauge_setLink (k : Nat) : (s.setLink a v).gauge k = s.gauge k := rfl
@[simp] theorem State.rcu_setLink (k : Nat) : (s.setLink a v).rcu k = s.rcu k := rfl
@[simp] theorem State.wbu_setLink (k : Nat) : (s.setLink a v).wbu k = s.wbu k := rfl
end

section
variable (s : State) (a : Nat) (v : Lane)
@[simp] theorem State.setLane_regs : (s.setLane a v).regs = s.regs := rfl
@[simp] theorem State.setLane_mram : (s.setLane a v).mram = s.mram := rfl
@[simp] theorem State.setLane_claims : (s.setLane a v).claims = s.claims := rfl
@[simp] theorem State.setLane_ended : (s.setLane a v).ended = s.ended := rfl
@[simp] theorem State.setLane_rsp : (s.setLane a v).rsp = s.rsp := rfl
@[simp] theorem State.setLane_spiOut : (s.setLane a v).spiOut = s.spiOut := rfl
@[simp] theorem State.setLane_snaps : (s.setLane a v).snaps = s.snaps := rfl
@[simp] theorem State.setLane_holds : (s.setLane a v).holds = s.holds := rfl
@[simp] theorem State.setLane_inds : (s.setLane a v).inds = s.inds := rfl
@[simp] theorem State.setLane_hbiReady : (s.setLane a v).hbiReady = s.hbiReady := rfl
@[simp] theorem State.setLane_supPend : (s.setLane a v).supPend = s.supPend := rfl
@[simp] theorem State.setLane_links : (s.setLane a v).links = s.links := rfl
@[simp] theorem State.setLane_mramErr : (s.setLane a v).mramErr = s.mramErr := rfl
@[simp] theorem State.setLane_mramOut : (s.setLane a v).mramOut = s.mramOut := rfl
@[simp] theorem State.setLane_tally : (s.setLane a v).tally = s.tally := rfl
@[simp] theorem State.setLane_buckets : (s.setLane a v).buckets = s.buckets := rfl
@[simp] theorem State.setLane_tb : (s.setLane a v).tb = s.tb := rfl
@[simp] theorem State.setLane_alms : (s.setLane a v).alms = s.alms := rfl
@[simp] theorem State.setLane_pins : (s.setLane a v).pins = s.pins := rfl
@[simp] theorem State.setLane_tick : (s.setLane a v).tick = s.tick := rfl
@[simp] theorem State.setLane_stepFlag : (s.setLane a v).stepFlag = s.stepFlag := rfl
@[simp] theorem State.setLane_phase : (s.setLane a v).phase = s.phase := rfl
@[simp] theorem State.setLane_clSrc : (s.setLane a v).clSrc = s.clSrc := rfl
@[simp] theorem State.setLane_expect : (s.setLane a v).expect = s.expect := rfl
@[simp] theorem State.setLane_late : (s.setLane a v).late = s.late := rfl
@[simp] theorem State.setLane_trk : (s.setLane a v).trk = s.trk := rfl
@[simp] theorem State.setLane_fpds : (s.setLane a v).fpds = s.fpds := rfl
@[simp] theorem State.setLane_dets : (s.setLane a v).dets = s.dets := rfl
@[simp] theorem State.setLane_light : (s.setLane a v).light = s.light := rfl
@[simp] theorem State.setLane_heldRegs : (s.setLane a v).heldRegs = s.heldRegs := rfl
@[simp] theorem State.setLane_cores : (s.setLane a v).cores = s.cores := rfl
@[simp] theorem State.setLane_elems : (s.setLane a v).elems = s.elems := rfl
@[simp] theorem State.setLane_sups : (s.setLane a v).sups = s.sups := rfl
@[simp] theorem State.setLane_inForce : (s.setLane a v).inForce = s.inForce := rfl
@[simp] theorem State.setLane_cans : (s.setLane a v).cans = s.cans := rfl
@[simp] theorem State.setLane_eth : (s.setLane a v).eth = s.eth := rfl
@[simp] theorem State.setLane_field_ : (s.setLane a v).field_ = s.field_ := rfl
@[simp] theorem State.setLane_fio : (s.setLane a v).fio = s.fio := rfl
@[simp] theorem State.setLane_lines : (s.setLane a v).lines = s.lines := rfl
@[simp] theorem State.setLane_tripKey : (s.setLane a v).tripKey = s.tripKey := rfl
@[simp] theorem State.setLane_lathe : (s.setLane a v).lathe = s.lathe := rfl
@[simp] theorem State.setLane_ticks : (s.setLane a v).ticks = s.ticks := rfl
@[simp] theorem State.setLane_recs : (s.setLane a v).recs = s.recs := rfl
@[simp] theorem State.setLane_wbs : (s.setLane a v).wbs = s.wbs := rfl
@[simp] theorem State.setLane_gauges : (s.setLane a v).gauges = s.gauges := rfl
@[simp] theorem State.setLane_blz : (s.setLane a v).blz = s.blz := rfl
@[simp] theorem State.setLane_pair : (s.setLane a v).pair = s.pair := rfl
@[simp] theorem State.setLane_meter : (s.setLane a v).meter = s.meter := rfl
@[simp] theorem State.setLane_power : (s.setLane a v).power = s.power := rfl
@[simp] theorem State.setLane_freeCtr : (s.setLane a v).freeCtr = s.freeCtr := rfl
@[simp] theorem State.setLane_pending : (s.setLane a v).pending = s.pending := rfl
@[simp] theorem State.rd_setLane (k : Nat) : (s.setLane a v).rd k = s.rd k := rfl
@[simp] theorem State.mb_setLane (k : Nat) : (s.setLane a v).mb k = s.mb k := rfl
@[simp] theorem State.ind_setLane (k : Nat) : (s.setLane a v).ind k = s.ind k := rfl
@[simp] theorem State.link_setLane (k : Nat) : (s.setLane a v).link k = s.link k := rfl
@[simp] theorem State.lane_setLane (k : Nat) : (s.setLane a v).lane k = if a = k then v else s.lane k := SMap.get_set _ _ _ _ _
@[simp] theorem State.tracker_setLane (k : Nat) : (s.setLane a v).tracker k = s.tracker k := rfl
@[simp] theorem State.fpd_setLane (k : Nat) : (s.setLane a v).fpd k = s.fpd k := rfl
@[simp] theorem State.det_setLane (k : Nat) : (s.setLane a v).det k = s.det k := rfl
@[simp] theorem State.pin_setLane (k : Nat) : (s.setLane a v).pin k = s.pin k := rfl
@[simp] theorem State.alm_setLane (k : Nat) : (s.setLane a v).alm k = s.alm k := rfl
@[simp] theorem State.bucket_setLane (k : Nat) : (s.setLane a v).bucket k = s.bucket k := rfl
@[simp] theorem State.clPhase_setLane (k : Nat) : (s.setLane a v).clPhase k = s.clPhase k := rfl
@[simp] theorem State.claim_setLane (k : Nat) : (s.setLane a v).claim k = s.claim k := rfl
@[simp] theorem State.can_setLane (k : Nat) : (s.setLane a v).can k = s.can k := rfl
@[simp] theorem State.supBits_setLane (k : Nat) : (s.setLane a v).supBits k = s.supBits k := rfl
@[simp] theorem State.eff_setLane (k : Nat) : (s.setLane a v).eff k = s.eff k := rfl
@[simp] theorem State.core_setLane (k : Nat) : (s.setLane a v).core k = s.core k := rfl
@[simp] theorem State.elem_setLane (k : Nat) : (s.setLane a v).elem k = s.elem k := rfl
@[simp] theorem State.sup_setLane (k : Nat) : (s.setLane a v).sup k = s.sup k := rfl
@[simp] theorem State.line_setLane (k : Nat) : (s.setLane a v).line k = s.line k := rfl
@[simp] theorem State.blzU_setLane (k : Nat) : (s.setLane a v).blzU k = s.blzU k := rfl
@[simp] theorem State.gauge_setLane (k : Nat) : (s.setLane a v).gauge k = s.gauge k := rfl
@[simp] theorem State.rcu_setLane (k : Nat) : (s.setLane a v).rcu k = s.rcu k := rfl
@[simp] theorem State.wbu_setLane (k : Nat) : (s.setLane a v).wbu k = s.wbu k := rfl
end

section
variable (s : State) (a : Nat) (v : Tracker)
@[simp] theorem State.setTracker_regs : (s.setTracker a v).regs = s.regs := rfl
@[simp] theorem State.setTracker_mram : (s.setTracker a v).mram = s.mram := rfl
@[simp] theorem State.setTracker_claims : (s.setTracker a v).claims = s.claims := rfl
@[simp] theorem State.setTracker_ended : (s.setTracker a v).ended = s.ended := rfl
@[simp] theorem State.setTracker_rsp : (s.setTracker a v).rsp = s.rsp := rfl
@[simp] theorem State.setTracker_spiOut : (s.setTracker a v).spiOut = s.spiOut := rfl
@[simp] theorem State.setTracker_snaps : (s.setTracker a v).snaps = s.snaps := rfl
@[simp] theorem State.setTracker_holds : (s.setTracker a v).holds = s.holds := rfl
@[simp] theorem State.setTracker_inds : (s.setTracker a v).inds = s.inds := rfl
@[simp] theorem State.setTracker_hbiReady : (s.setTracker a v).hbiReady = s.hbiReady := rfl
@[simp] theorem State.setTracker_supPend : (s.setTracker a v).supPend = s.supPend := rfl
@[simp] theorem State.setTracker_links : (s.setTracker a v).links = s.links := rfl
@[simp] theorem State.setTracker_mramErr : (s.setTracker a v).mramErr = s.mramErr := rfl
@[simp] theorem State.setTracker_mramOut : (s.setTracker a v).mramOut = s.mramOut := rfl
@[simp] theorem State.setTracker_tally : (s.setTracker a v).tally = s.tally := rfl
@[simp] theorem State.setTracker_buckets : (s.setTracker a v).buckets = s.buckets := rfl
@[simp] theorem State.setTracker_tb : (s.setTracker a v).tb = s.tb := rfl
@[simp] theorem State.setTracker_alms : (s.setTracker a v).alms = s.alms := rfl
@[simp] theorem State.setTracker_pins : (s.setTracker a v).pins = s.pins := rfl
@[simp] theorem State.setTracker_tick : (s.setTracker a v).tick = s.tick := rfl
@[simp] theorem State.setTracker_stepFlag : (s.setTracker a v).stepFlag = s.stepFlag := rfl
@[simp] theorem State.setTracker_phase : (s.setTracker a v).phase = s.phase := rfl
@[simp] theorem State.setTracker_lanes : (s.setTracker a v).lanes = s.lanes := rfl
@[simp] theorem State.setTracker_clSrc : (s.setTracker a v).clSrc = s.clSrc := rfl
@[simp] theorem State.setTracker_expect : (s.setTracker a v).expect = s.expect := rfl
@[simp] theorem State.setTracker_late : (s.setTracker a v).late = s.late := rfl
@[simp] theorem State.setTracker_fpds : (s.setTracker a v).fpds = s.fpds := rfl
@[simp] theorem State.setTracker_dets : (s.setTracker a v).dets = s.dets := rfl
@[simp] theorem State.setTracker_light : (s.setTracker a v).light = s.light := rfl
@[simp] theorem State.setTracker_heldRegs : (s.setTracker a v).heldRegs = s.heldRegs := rfl
@[simp] theorem State.setTracker_cores : (s.setTracker a v).cores = s.cores := rfl
@[simp] theorem State.setTracker_elems : (s.setTracker a v).elems = s.elems := rfl
@[simp] theorem State.setTracker_sups : (s.setTracker a v).sups = s.sups := rfl
@[simp] theorem State.setTracker_inForce : (s.setTracker a v).inForce = s.inForce := rfl
@[simp] theorem State.setTracker_cans : (s.setTracker a v).cans = s.cans := rfl
@[simp] theorem State.setTracker_eth : (s.setTracker a v).eth = s.eth := rfl
@[simp] theorem State.setTracker_field_ : (s.setTracker a v).field_ = s.field_ := rfl
@[simp] theorem State.setTracker_fio : (s.setTracker a v).fio = s.fio := rfl
@[simp] theorem State.setTracker_lines : (s.setTracker a v).lines = s.lines := rfl
@[simp] theorem State.setTracker_tripKey : (s.setTracker a v).tripKey = s.tripKey := rfl
@[simp] theorem State.setTracker_lathe : (s.setTracker a v).lathe = s.lathe := rfl
@[simp] theorem State.setTracker_ticks : (s.setTracker a v).ticks = s.ticks := rfl
@[simp] theorem State.setTracker_recs : (s.setTracker a v).recs = s.recs := rfl
@[simp] theorem State.setTracker_wbs : (s.setTracker a v).wbs = s.wbs := rfl
@[simp] theorem State.setTracker_gauges : (s.setTracker a v).gauges = s.gauges := rfl
@[simp] theorem State.setTracker_blz : (s.setTracker a v).blz = s.blz := rfl
@[simp] theorem State.setTracker_pair : (s.setTracker a v).pair = s.pair := rfl
@[simp] theorem State.setTracker_meter : (s.setTracker a v).meter = s.meter := rfl
@[simp] theorem State.setTracker_power : (s.setTracker a v).power = s.power := rfl
@[simp] theorem State.setTracker_freeCtr : (s.setTracker a v).freeCtr = s.freeCtr := rfl
@[simp] theorem State.setTracker_pending : (s.setTracker a v).pending = s.pending := rfl
@[simp] theorem State.rd_setTracker (k : Nat) : (s.setTracker a v).rd k = s.rd k := rfl
@[simp] theorem State.mb_setTracker (k : Nat) : (s.setTracker a v).mb k = s.mb k := rfl
@[simp] theorem State.ind_setTracker (k : Nat) : (s.setTracker a v).ind k = s.ind k := rfl
@[simp] theorem State.link_setTracker (k : Nat) : (s.setTracker a v).link k = s.link k := rfl
@[simp] theorem State.lane_setTracker (k : Nat) : (s.setTracker a v).lane k = s.lane k := rfl
@[simp] theorem State.tracker_setTracker (k : Nat) : (s.setTracker a v).tracker k = if a = k then v else s.tracker k := SMap.get_set _ _ _ _ _
@[simp] theorem State.fpd_setTracker (k : Nat) : (s.setTracker a v).fpd k = s.fpd k := rfl
@[simp] theorem State.det_setTracker (k : Nat) : (s.setTracker a v).det k = s.det k := rfl
@[simp] theorem State.pin_setTracker (k : Nat) : (s.setTracker a v).pin k = s.pin k := rfl
@[simp] theorem State.alm_setTracker (k : Nat) : (s.setTracker a v).alm k = s.alm k := rfl
@[simp] theorem State.bucket_setTracker (k : Nat) : (s.setTracker a v).bucket k = s.bucket k := rfl
@[simp] theorem State.clPhase_setTracker (k : Nat) : (s.setTracker a v).clPhase k = s.clPhase k := rfl
@[simp] theorem State.claim_setTracker (k : Nat) : (s.setTracker a v).claim k = s.claim k := rfl
@[simp] theorem State.can_setTracker (k : Nat) : (s.setTracker a v).can k = s.can k := rfl
@[simp] theorem State.supBits_setTracker (k : Nat) : (s.setTracker a v).supBits k = s.supBits k := rfl
@[simp] theorem State.eff_setTracker (k : Nat) : (s.setTracker a v).eff k = s.eff k := rfl
@[simp] theorem State.core_setTracker (k : Nat) : (s.setTracker a v).core k = s.core k := rfl
@[simp] theorem State.elem_setTracker (k : Nat) : (s.setTracker a v).elem k = s.elem k := rfl
@[simp] theorem State.sup_setTracker (k : Nat) : (s.setTracker a v).sup k = s.sup k := rfl
@[simp] theorem State.line_setTracker (k : Nat) : (s.setTracker a v).line k = s.line k := rfl
@[simp] theorem State.blzU_setTracker (k : Nat) : (s.setTracker a v).blzU k = s.blzU k := rfl
@[simp] theorem State.gauge_setTracker (k : Nat) : (s.setTracker a v).gauge k = s.gauge k := rfl
@[simp] theorem State.rcu_setTracker (k : Nat) : (s.setTracker a v).rcu k = s.rcu k := rfl
@[simp] theorem State.wbu_setTracker (k : Nat) : (s.setTracker a v).wbu k = s.wbu k := rfl
end

section
variable (s : State) (a : Nat) (v : FpdU)
@[simp] theorem State.setFpd_regs : (s.setFpd a v).regs = s.regs := rfl
@[simp] theorem State.setFpd_mram : (s.setFpd a v).mram = s.mram := rfl
@[simp] theorem State.setFpd_claims : (s.setFpd a v).claims = s.claims := rfl
@[simp] theorem State.setFpd_ended : (s.setFpd a v).ended = s.ended := rfl
@[simp] theorem State.setFpd_rsp : (s.setFpd a v).rsp = s.rsp := rfl
@[simp] theorem State.setFpd_spiOut : (s.setFpd a v).spiOut = s.spiOut := rfl
@[simp] theorem State.setFpd_snaps : (s.setFpd a v).snaps = s.snaps := rfl
@[simp] theorem State.setFpd_holds : (s.setFpd a v).holds = s.holds := rfl
@[simp] theorem State.setFpd_inds : (s.setFpd a v).inds = s.inds := rfl
@[simp] theorem State.setFpd_hbiReady : (s.setFpd a v).hbiReady = s.hbiReady := rfl
@[simp] theorem State.setFpd_supPend : (s.setFpd a v).supPend = s.supPend := rfl
@[simp] theorem State.setFpd_links : (s.setFpd a v).links = s.links := rfl
@[simp] theorem State.setFpd_mramErr : (s.setFpd a v).mramErr = s.mramErr := rfl
@[simp] theorem State.setFpd_mramOut : (s.setFpd a v).mramOut = s.mramOut := rfl
@[simp] theorem State.setFpd_tally : (s.setFpd a v).tally = s.tally := rfl
@[simp] theorem State.setFpd_buckets : (s.setFpd a v).buckets = s.buckets := rfl
@[simp] theorem State.setFpd_tb : (s.setFpd a v).tb = s.tb := rfl
@[simp] theorem State.setFpd_alms : (s.setFpd a v).alms = s.alms := rfl
@[simp] theorem State.setFpd_pins : (s.setFpd a v).pins = s.pins := rfl
@[simp] theorem State.setFpd_tick : (s.setFpd a v).tick = s.tick := rfl
@[simp] theorem State.setFpd_stepFlag : (s.setFpd a v).stepFlag = s.stepFlag := rfl
@[simp] theorem State.setFpd_phase : (s.setFpd a v).phase = s.phase := rfl
@[simp] theorem State.setFpd_lanes : (s.setFpd a v).lanes = s.lanes := rfl
@[simp] theorem State.setFpd_clSrc : (s.setFpd a v).clSrc = s.clSrc := rfl
@[simp] theorem State.setFpd_expect : (s.setFpd a v).expect = s.expect := rfl
@[simp] theorem State.setFpd_late : (s.setFpd a v).late = s.late := rfl
@[simp] theorem State.setFpd_trk : (s.setFpd a v).trk = s.trk := rfl
@[simp] theorem State.setFpd_dets : (s.setFpd a v).dets = s.dets := rfl
@[simp] theorem State.setFpd_light : (s.setFpd a v).light = s.light := rfl
@[simp] theorem State.setFpd_heldRegs : (s.setFpd a v).heldRegs = s.heldRegs := rfl
@[simp] theorem State.setFpd_cores : (s.setFpd a v).cores = s.cores := rfl
@[simp] theorem State.setFpd_elems : (s.setFpd a v).elems = s.elems := rfl
@[simp] theorem State.setFpd_sups : (s.setFpd a v).sups = s.sups := rfl
@[simp] theorem State.setFpd_inForce : (s.setFpd a v).inForce = s.inForce := rfl
@[simp] theorem State.setFpd_cans : (s.setFpd a v).cans = s.cans := rfl
@[simp] theorem State.setFpd_eth : (s.setFpd a v).eth = s.eth := rfl
@[simp] theorem State.setFpd_field_ : (s.setFpd a v).field_ = s.field_ := rfl
@[simp] theorem State.setFpd_fio : (s.setFpd a v).fio = s.fio := rfl
@[simp] theorem State.setFpd_lines : (s.setFpd a v).lines = s.lines := rfl
@[simp] theorem State.setFpd_tripKey : (s.setFpd a v).tripKey = s.tripKey := rfl
@[simp] theorem State.setFpd_lathe : (s.setFpd a v).lathe = s.lathe := rfl
@[simp] theorem State.setFpd_ticks : (s.setFpd a v).ticks = s.ticks := rfl
@[simp] theorem State.setFpd_recs : (s.setFpd a v).recs = s.recs := rfl
@[simp] theorem State.setFpd_wbs : (s.setFpd a v).wbs = s.wbs := rfl
@[simp] theorem State.setFpd_gauges : (s.setFpd a v).gauges = s.gauges := rfl
@[simp] theorem State.setFpd_blz : (s.setFpd a v).blz = s.blz := rfl
@[simp] theorem State.setFpd_pair : (s.setFpd a v).pair = s.pair := rfl
@[simp] theorem State.setFpd_meter : (s.setFpd a v).meter = s.meter := rfl
@[simp] theorem State.setFpd_power : (s.setFpd a v).power = s.power := rfl
@[simp] theorem State.setFpd_freeCtr : (s.setFpd a v).freeCtr = s.freeCtr := rfl
@[simp] theorem State.setFpd_pending : (s.setFpd a v).pending = s.pending := rfl
@[simp] theorem State.rd_setFpd (k : Nat) : (s.setFpd a v).rd k = s.rd k := rfl
@[simp] theorem State.mb_setFpd (k : Nat) : (s.setFpd a v).mb k = s.mb k := rfl
@[simp] theorem State.ind_setFpd (k : Nat) : (s.setFpd a v).ind k = s.ind k := rfl
@[simp] theorem State.link_setFpd (k : Nat) : (s.setFpd a v).link k = s.link k := rfl
@[simp] theorem State.lane_setFpd (k : Nat) : (s.setFpd a v).lane k = s.lane k := rfl
@[simp] theorem State.tracker_setFpd (k : Nat) : (s.setFpd a v).tracker k = s.tracker k := rfl
@[simp] theorem State.fpd_setFpd (k : Nat) : (s.setFpd a v).fpd k = if a = k then v else s.fpd k := SMap.get_set _ _ _ _ _
@[simp] theorem State.det_setFpd (k : Nat) : (s.setFpd a v).det k = s.det k := rfl
@[simp] theorem State.pin_setFpd (k : Nat) : (s.setFpd a v).pin k = s.pin k := rfl
@[simp] theorem State.alm_setFpd (k : Nat) : (s.setFpd a v).alm k = s.alm k := rfl
@[simp] theorem State.bucket_setFpd (k : Nat) : (s.setFpd a v).bucket k = s.bucket k := rfl
@[simp] theorem State.clPhase_setFpd (k : Nat) : (s.setFpd a v).clPhase k = s.clPhase k := rfl
@[simp] theorem State.claim_setFpd (k : Nat) : (s.setFpd a v).claim k = s.claim k := rfl
@[simp] theorem State.can_setFpd (k : Nat) : (s.setFpd a v).can k = s.can k := rfl
@[simp] theorem State.supBits_setFpd (k : Nat) : (s.setFpd a v).supBits k = s.supBits k := rfl
@[simp] theorem State.eff_setFpd (k : Nat) : (s.setFpd a v).eff k = s.eff k := rfl
@[simp] theorem State.core_setFpd (k : Nat) : (s.setFpd a v).core k = s.core k := rfl
@[simp] theorem State.elem_setFpd (k : Nat) : (s.setFpd a v).elem k = s.elem k := rfl
@[simp] theorem State.sup_setFpd (k : Nat) : (s.setFpd a v).sup k = s.sup k := rfl
@[simp] theorem State.line_setFpd (k : Nat) : (s.setFpd a v).line k = s.line k := rfl
@[simp] theorem State.blzU_setFpd (k : Nat) : (s.setFpd a v).blzU k = s.blzU k := rfl
@[simp] theorem State.gauge_setFpd (k : Nat) : (s.setFpd a v).gauge k = s.gauge k := rfl
@[simp] theorem State.rcu_setFpd (k : Nat) : (s.setFpd a v).rcu k = s.rcu k := rfl
@[simp] theorem State.wbu_setFpd (k : Nat) : (s.setFpd a v).wbu k = s.wbu k := rfl
end

section
variable (s : State) (a : Nat) (v : DetU)
@[simp] theorem State.setDet_regs : (s.setDet a v).regs = s.regs := rfl
@[simp] theorem State.setDet_mram : (s.setDet a v).mram = s.mram := rfl
@[simp] theorem State.setDet_claims : (s.setDet a v).claims = s.claims := rfl
@[simp] theorem State.setDet_ended : (s.setDet a v).ended = s.ended := rfl
@[simp] theorem State.setDet_rsp : (s.setDet a v).rsp = s.rsp := rfl
@[simp] theorem State.setDet_spiOut : (s.setDet a v).spiOut = s.spiOut := rfl
@[simp] theorem State.setDet_snaps : (s.setDet a v).snaps = s.snaps := rfl
@[simp] theorem State.setDet_holds : (s.setDet a v).holds = s.holds := rfl
@[simp] theorem State.setDet_inds : (s.setDet a v).inds = s.inds := rfl
@[simp] theorem State.setDet_hbiReady : (s.setDet a v).hbiReady = s.hbiReady := rfl
@[simp] theorem State.setDet_supPend : (s.setDet a v).supPend = s.supPend := rfl
@[simp] theorem State.setDet_links : (s.setDet a v).links = s.links := rfl
@[simp] theorem State.setDet_mramErr : (s.setDet a v).mramErr = s.mramErr := rfl
@[simp] theorem State.setDet_mramOut : (s.setDet a v).mramOut = s.mramOut := rfl
@[simp] theorem State.setDet_tally : (s.setDet a v).tally = s.tally := rfl
@[simp] theorem State.setDet_buckets : (s.setDet a v).buckets = s.buckets := rfl
@[simp] theorem State.setDet_tb : (s.setDet a v).tb = s.tb := rfl
@[simp] theorem State.setDet_alms : (s.setDet a v).alms = s.alms := rfl
@[simp] theorem State.setDet_pins : (s.setDet a v).pins = s.pins := rfl
@[simp] theorem State.setDet_tick : (s.setDet a v).tick = s.tick := rfl
@[simp] theorem State.setDet_stepFlag : (s.setDet a v).stepFlag = s.stepFlag := rfl
@[simp] theorem State.setDet_phase : (s.setDet a v).phase = s.phase := rfl
@[simp] theorem State.setDet_lanes : (s.setDet a v).lanes = s.lanes := rfl
@[simp] theorem State.setDet_clSrc : (s.setDet a v).clSrc = s.clSrc := rfl
@[simp] theorem State.setDet_expect : (s.setDet a v).expect = s.expect := rfl
@[simp] theorem State.setDet_late : (s.setDet a v).late = s.late := rfl
@[simp] theorem State.setDet_trk : (s.setDet a v).trk = s.trk := rfl
@[simp] theorem State.setDet_fpds : (s.setDet a v).fpds = s.fpds := rfl
@[simp] theorem State.setDet_light : (s.setDet a v).light = s.light := rfl
@[simp] theorem State.setDet_heldRegs : (s.setDet a v).heldRegs = s.heldRegs := rfl
@[simp] theorem State.setDet_cores : (s.setDet a v).cores = s.cores := rfl
@[simp] theorem State.setDet_elems : (s.setDet a v).elems = s.elems := rfl
@[simp] theorem State.setDet_sups : (s.setDet a v).sups = s.sups := rfl
@[simp] theorem State.setDet_inForce : (s.setDet a v).inForce = s.inForce := rfl
@[simp] theorem State.setDet_cans : (s.setDet a v).cans = s.cans := rfl
@[simp] theorem State.setDet_eth : (s.setDet a v).eth = s.eth := rfl
@[simp] theorem State.setDet_field_ : (s.setDet a v).field_ = s.field_ := rfl
@[simp] theorem State.setDet_fio : (s.setDet a v).fio = s.fio := rfl
@[simp] theorem State.setDet_lines : (s.setDet a v).lines = s.lines := rfl
@[simp] theorem State.setDet_tripKey : (s.setDet a v).tripKey = s.tripKey := rfl
@[simp] theorem State.setDet_lathe : (s.setDet a v).lathe = s.lathe := rfl
@[simp] theorem State.setDet_ticks : (s.setDet a v).ticks = s.ticks := rfl
@[simp] theorem State.setDet_recs : (s.setDet a v).recs = s.recs := rfl
@[simp] theorem State.setDet_wbs : (s.setDet a v).wbs = s.wbs := rfl
@[simp] theorem State.setDet_gauges : (s.setDet a v).gauges = s.gauges := rfl
@[simp] theorem State.setDet_blz : (s.setDet a v).blz = s.blz := rfl
@[simp] theorem State.setDet_pair : (s.setDet a v).pair = s.pair := rfl
@[simp] theorem State.setDet_meter : (s.setDet a v).meter = s.meter := rfl
@[simp] theorem State.setDet_power : (s.setDet a v).power = s.power := rfl
@[simp] theorem State.setDet_freeCtr : (s.setDet a v).freeCtr = s.freeCtr := rfl
@[simp] theorem State.setDet_pending : (s.setDet a v).pending = s.pending := rfl
@[simp] theorem State.rd_setDet (k : Nat) : (s.setDet a v).rd k = s.rd k := rfl
@[simp] theorem State.mb_setDet (k : Nat) : (s.setDet a v).mb k = s.mb k := rfl
@[simp] theorem State.ind_setDet (k : Nat) : (s.setDet a v).ind k = s.ind k := rfl
@[simp] theorem State.link_setDet (k : Nat) : (s.setDet a v).link k = s.link k := rfl
@[simp] theorem State.lane_setDet (k : Nat) : (s.setDet a v).lane k = s.lane k := rfl
@[simp] theorem State.tracker_setDet (k : Nat) : (s.setDet a v).tracker k = s.tracker k := rfl
@[simp] theorem State.fpd_setDet (k : Nat) : (s.setDet a v).fpd k = s.fpd k := rfl
@[simp] theorem State.det_setDet (k : Nat) : (s.setDet a v).det k = if a = k then v else s.det k := SMap.get_set _ _ _ _ _
@[simp] theorem State.pin_setDet (k : Nat) : (s.setDet a v).pin k = s.pin k := rfl
@[simp] theorem State.alm_setDet (k : Nat) : (s.setDet a v).alm k = s.alm k := rfl
@[simp] theorem State.bucket_setDet (k : Nat) : (s.setDet a v).bucket k = s.bucket k := rfl
@[simp] theorem State.clPhase_setDet (k : Nat) : (s.setDet a v).clPhase k = s.clPhase k := rfl
@[simp] theorem State.claim_setDet (k : Nat) : (s.setDet a v).claim k = s.claim k := rfl
@[simp] theorem State.can_setDet (k : Nat) : (s.setDet a v).can k = s.can k := rfl
@[simp] theorem State.supBits_setDet (k : Nat) : (s.setDet a v).supBits k = s.supBits k := rfl
@[simp] theorem State.eff_setDet (k : Nat) : (s.setDet a v).eff k = s.eff k := rfl
@[simp] theorem State.core_setDet (k : Nat) : (s.setDet a v).core k = s.core k := rfl
@[simp] theorem State.elem_setDet (k : Nat) : (s.setDet a v).elem k = s.elem k := rfl
@[simp] theorem State.sup_setDet (k : Nat) : (s.setDet a v).sup k = s.sup k := rfl
@[simp] theorem State.line_setDet (k : Nat) : (s.setDet a v).line k = s.line k := rfl
@[simp] theorem State.blzU_setDet (k : Nat) : (s.setDet a v).blzU k = s.blzU k := rfl
@[simp] theorem State.gauge_setDet (k : Nat) : (s.setDet a v).gauge k = s.gauge k := rfl
@[simp] theorem State.rcu_setDet (k : Nat) : (s.setDet a v).rcu k = s.rcu k := rfl
@[simp] theorem State.wbu_setDet (k : Nat) : (s.setDet a v).wbu k = s.wbu k := rfl
end

section
variable (s : State) (a : Nat) (v : TioPin)
@[simp] theorem State.setPin_regs : (s.setPin a v).regs = s.regs := rfl
@[simp] theorem State.setPin_mram : (s.setPin a v).mram = s.mram := rfl
@[simp] theorem State.setPin_claims : (s.setPin a v).claims = s.claims := rfl
@[simp] theorem State.setPin_ended : (s.setPin a v).ended = s.ended := rfl
@[simp] theorem State.setPin_rsp : (s.setPin a v).rsp = s.rsp := rfl
@[simp] theorem State.setPin_spiOut : (s.setPin a v).spiOut = s.spiOut := rfl
@[simp] theorem State.setPin_snaps : (s.setPin a v).snaps = s.snaps := rfl
@[simp] theorem State.setPin_holds : (s.setPin a v).holds = s.holds := rfl
@[simp] theorem State.setPin_inds : (s.setPin a v).inds = s.inds := rfl
@[simp] theorem State.setPin_hbiReady : (s.setPin a v).hbiReady = s.hbiReady := rfl
@[simp] theorem State.setPin_supPend : (s.setPin a v).supPend = s.supPend := rfl
@[simp] theorem State.setPin_links : (s.setPin a v).links = s.links := rfl
@[simp] theorem State.setPin_mramErr : (s.setPin a v).mramErr = s.mramErr := rfl
@[simp] theorem State.setPin_mramOut : (s.setPin a v).mramOut = s.mramOut := rfl
@[simp] theorem State.setPin_tally : (s.setPin a v).tally = s.tally := rfl
@[simp] theorem State.setPin_buckets : (s.setPin a v).buckets = s.buckets := rfl
@[simp] theorem State.setPin_tb : (s.setPin a v).tb = s.tb := rfl
@[simp] theorem State.setPin_alms : (s.setPin a v).alms = s.alms := rfl
@[simp] theorem State.setPin_tick : (s.setPin a v).tick = s.tick := rfl
@[simp] theorem State.setPin_stepFlag : (s.setPin a v).stepFlag = s.stepFlag := rfl
@[simp] theorem State.setPin_phase : (s.setPin a v).phase = s.phase := rfl
@[simp] theorem State.setPin_lanes : (s.setPin a v).lanes = s.lanes := rfl
@[simp] theorem State.setPin_clSrc : (s.setPin a v).clSrc = s.clSrc := rfl
@[simp] theorem State.setPin_expect : (s.setPin a v).expect = s.expect := rfl
@[simp] theorem State.setPin_late : (s.setPin a v).late = s.late := rfl
@[simp] theorem State.setPin_trk : (s.setPin a v).trk = s.trk := rfl
@[simp] theorem State.setPin_fpds : (s.setPin a v).fpds = s.fpds := rfl
@[simp] theorem State.setPin_dets : (s.setPin a v).dets = s.dets := rfl
@[simp] theorem State.setPin_light : (s.setPin a v).light = s.light := rfl
@[simp] theorem State.setPin_heldRegs : (s.setPin a v).heldRegs = s.heldRegs := rfl
@[simp] theorem State.setPin_cores : (s.setPin a v).cores = s.cores := rfl
@[simp] theorem State.setPin_elems : (s.setPin a v).elems = s.elems := rfl
@[simp] theorem State.setPin_sups : (s.setPin a v).sups = s.sups := rfl
@[simp] theorem State.setPin_inForce : (s.setPin a v).inForce = s.inForce := rfl
@[simp] theorem State.setPin_cans : (s.setPin a v).cans = s.cans := rfl
@[simp] theorem State.setPin_eth : (s.setPin a v).eth = s.eth := rfl
@[simp] theorem State.setPin_field_ : (s.setPin a v).field_ = s.field_ := rfl
@[simp] theorem State.setPin_fio : (s.setPin a v).fio = s.fio := rfl
@[simp] theorem State.setPin_lines : (s.setPin a v).lines = s.lines := rfl
@[simp] theorem State.setPin_tripKey : (s.setPin a v).tripKey = s.tripKey := rfl
@[simp] theorem State.setPin_lathe : (s.setPin a v).lathe = s.lathe := rfl
@[simp] theorem State.setPin_ticks : (s.setPin a v).ticks = s.ticks := rfl
@[simp] theorem State.setPin_recs : (s.setPin a v).recs = s.recs := rfl
@[simp] theorem State.setPin_wbs : (s.setPin a v).wbs = s.wbs := rfl
@[simp] theorem State.setPin_gauges : (s.setPin a v).gauges = s.gauges := rfl
@[simp] theorem State.setPin_blz : (s.setPin a v).blz = s.blz := rfl
@[simp] theorem State.setPin_pair : (s.setPin a v).pair = s.pair := rfl
@[simp] theorem State.setPin_meter : (s.setPin a v).meter = s.meter := rfl
@[simp] theorem State.setPin_power : (s.setPin a v).power = s.power := rfl
@[simp] theorem State.setPin_freeCtr : (s.setPin a v).freeCtr = s.freeCtr := rfl
@[simp] theorem State.setPin_pending : (s.setPin a v).pending = s.pending := rfl
@[simp] theorem State.rd_setPin (k : Nat) : (s.setPin a v).rd k = s.rd k := rfl
@[simp] theorem State.mb_setPin (k : Nat) : (s.setPin a v).mb k = s.mb k := rfl
@[simp] theorem State.ind_setPin (k : Nat) : (s.setPin a v).ind k = s.ind k := rfl
@[simp] theorem State.link_setPin (k : Nat) : (s.setPin a v).link k = s.link k := rfl
@[simp] theorem State.lane_setPin (k : Nat) : (s.setPin a v).lane k = s.lane k := rfl
@[simp] theorem State.tracker_setPin (k : Nat) : (s.setPin a v).tracker k = s.tracker k := rfl
@[simp] theorem State.fpd_setPin (k : Nat) : (s.setPin a v).fpd k = s.fpd k := rfl
@[simp] theorem State.det_setPin (k : Nat) : (s.setPin a v).det k = s.det k := rfl
@[simp] theorem State.pin_setPin (k : Nat) : (s.setPin a v).pin k = if a = k then v else s.pin k := SMap.get_set _ _ _ _ _
@[simp] theorem State.alm_setPin (k : Nat) : (s.setPin a v).alm k = s.alm k := rfl
@[simp] theorem State.bucket_setPin (k : Nat) : (s.setPin a v).bucket k = s.bucket k := rfl
@[simp] theorem State.clPhase_setPin (k : Nat) : (s.setPin a v).clPhase k = s.clPhase k := rfl
@[simp] theorem State.claim_setPin (k : Nat) : (s.setPin a v).claim k = s.claim k := rfl
@[simp] theorem State.can_setPin (k : Nat) : (s.setPin a v).can k = s.can k := rfl
@[simp] theorem State.supBits_setPin (k : Nat) : (s.setPin a v).supBits k = s.supBits k := rfl
@[simp] theorem State.eff_setPin (k : Nat) : (s.setPin a v).eff k = s.eff k := rfl
@[simp] theorem State.core_setPin (k : Nat) : (s.setPin a v).core k = s.core k := rfl
@[simp] theorem State.elem_setPin (k : Nat) : (s.setPin a v).elem k = s.elem k := rfl
@[simp] theorem State.sup_setPin (k : Nat) : (s.setPin a v).sup k = s.sup k := rfl
@[simp] theorem State.line_setPin (k : Nat) : (s.setPin a v).line k = s.line k := rfl
@[simp] theorem State.blzU_setPin (k : Nat) : (s.setPin a v).blzU k = s.blzU k := rfl
@[simp] theorem State.gauge_setPin (k : Nat) : (s.setPin a v).gauge k = s.gauge k := rfl
@[simp] theorem State.rcu_setPin (k : Nat) : (s.setPin a v).rcu k = s.rcu k := rfl
@[simp] theorem State.wbu_setPin (k : Nat) : (s.setPin a v).wbu k = s.wbu k := rfl
end

section
variable (s : State) (a : Nat) (v : Alarm)
@[simp] theorem State.setAlm_regs : (s.setAlm a v).regs = s.regs := rfl
@[simp] theorem State.setAlm_mram : (s.setAlm a v).mram = s.mram := rfl
@[simp] theorem State.setAlm_claims : (s.setAlm a v).claims = s.claims := rfl
@[simp] theorem State.setAlm_ended : (s.setAlm a v).ended = s.ended := rfl
@[simp] theorem State.setAlm_rsp : (s.setAlm a v).rsp = s.rsp := rfl
@[simp] theorem State.setAlm_spiOut : (s.setAlm a v).spiOut = s.spiOut := rfl
@[simp] theorem State.setAlm_snaps : (s.setAlm a v).snaps = s.snaps := rfl
@[simp] theorem State.setAlm_holds : (s.setAlm a v).holds = s.holds := rfl
@[simp] theorem State.setAlm_inds : (s.setAlm a v).inds = s.inds := rfl
@[simp] theorem State.setAlm_hbiReady : (s.setAlm a v).hbiReady = s.hbiReady := rfl
@[simp] theorem State.setAlm_supPend : (s.setAlm a v).supPend = s.supPend := rfl
@[simp] theorem State.setAlm_links : (s.setAlm a v).links = s.links := rfl
@[simp] theorem State.setAlm_mramErr : (s.setAlm a v).mramErr = s.mramErr := rfl
@[simp] theorem State.setAlm_mramOut : (s.setAlm a v).mramOut = s.mramOut := rfl
@[simp] theorem State.setAlm_tally : (s.setAlm a v).tally = s.tally := rfl
@[simp] theorem State.setAlm_buckets : (s.setAlm a v).buckets = s.buckets := rfl
@[simp] theorem State.setAlm_tb : (s.setAlm a v).tb = s.tb := rfl
@[simp] theorem State.setAlm_pins : (s.setAlm a v).pins = s.pins := rfl
@[simp] theorem State.setAlm_tick : (s.setAlm a v).tick = s.tick := rfl
@[simp] theorem State.setAlm_stepFlag : (s.setAlm a v).stepFlag = s.stepFlag := rfl
@[simp] theorem State.setAlm_phase : (s.setAlm a v).phase = s.phase := rfl
@[simp] theorem State.setAlm_lanes : (s.setAlm a v).lanes = s.lanes := rfl
@[simp] theorem State.setAlm_clSrc : (s.setAlm a v).clSrc = s.clSrc := rfl
@[simp] theorem State.setAlm_expect : (s.setAlm a v).expect = s.expect := rfl
@[simp] theorem State.setAlm_late : (s.setAlm a v).late = s.late := rfl
@[simp] theorem State.setAlm_trk : (s.setAlm a v).trk = s.trk := rfl
@[simp] theorem State.setAlm_fpds : (s.setAlm a v).fpds = s.fpds := rfl
@[simp] theorem State.setAlm_dets : (s.setAlm a v).dets = s.dets := rfl
@[simp] theorem State.setAlm_light : (s.setAlm a v).light = s.light := rfl
@[simp] theorem State.setAlm_heldRegs : (s.setAlm a v).heldRegs = s.heldRegs := rfl
@[simp] theorem State.setAlm_cores : (s.setAlm a v).cores = s.cores := rfl
@[simp] theorem State.setAlm_elems : (s.setAlm a v).elems = s.elems := rfl
@[simp] theorem State.setAlm_sups : (s.setAlm a v).sups = s.sups := rfl
@[simp] theorem State.setAlm_inForce : (s.setAlm a v).inForce = s.inForce := rfl
@[simp] theorem State.setAlm_cans : (s.setAlm a v).cans = s.cans := rfl
@[simp] theorem State.setAlm_eth : (s.setAlm a v).eth = s.eth := rfl
@[simp] theorem State.setAlm_field_ : (s.setAlm a v).field_ = s.field_ := rfl
@[simp] theorem State.setAlm_fio : (s.setAlm a v).fio = s.fio := rfl
@[simp] theorem State.setAlm_lines : (s.setAlm a v).lines = s.lines := rfl
@[simp] theorem State.setAlm_tripKey : (s.setAlm a v).tripKey = s.tripKey := rfl
@[simp] theorem State.setAlm_lathe : (s.setAlm a v).lathe = s.lathe := rfl
@[simp] theorem State.setAlm_ticks : (s.setAlm a v).ticks = s.ticks := rfl
@[simp] theorem State.setAlm_recs : (s.setAlm a v).recs = s.recs := rfl
@[simp] theorem State.setAlm_wbs : (s.setAlm a v).wbs = s.wbs := rfl
@[simp] theorem State.setAlm_gauges : (s.setAlm a v).gauges = s.gauges := rfl
@[simp] theorem State.setAlm_blz : (s.setAlm a v).blz = s.blz := rfl
@[simp] theorem State.setAlm_pair : (s.setAlm a v).pair = s.pair := rfl
@[simp] theorem State.setAlm_meter : (s.setAlm a v).meter = s.meter := rfl
@[simp] theorem State.setAlm_power : (s.setAlm a v).power = s.power := rfl
@[simp] theorem State.setAlm_freeCtr : (s.setAlm a v).freeCtr = s.freeCtr := rfl
@[simp] theorem State.setAlm_pending : (s.setAlm a v).pending = s.pending := rfl
@[simp] theorem State.rd_setAlm (k : Nat) : (s.setAlm a v).rd k = s.rd k := rfl
@[simp] theorem State.mb_setAlm (k : Nat) : (s.setAlm a v).mb k = s.mb k := rfl
@[simp] theorem State.ind_setAlm (k : Nat) : (s.setAlm a v).ind k = s.ind k := rfl
@[simp] theorem State.link_setAlm (k : Nat) : (s.setAlm a v).link k = s.link k := rfl
@[simp] theorem State.lane_setAlm (k : Nat) : (s.setAlm a v).lane k = s.lane k := rfl
@[simp] theorem State.tracker_setAlm (k : Nat) : (s.setAlm a v).tracker k = s.tracker k := rfl
@[simp] theorem State.fpd_setAlm (k : Nat) : (s.setAlm a v).fpd k = s.fpd k := rfl
@[simp] theorem State.det_setAlm (k : Nat) : (s.setAlm a v).det k = s.det k := rfl
@[simp] theorem State.pin_setAlm (k : Nat) : (s.setAlm a v).pin k = s.pin k := rfl
@[simp] theorem State.alm_setAlm (k : Nat) : (s.setAlm a v).alm k = if a = k then v else s.alm k := SMap.get_set _ _ _ _ _
@[simp] theorem State.bucket_setAlm (k : Nat) : (s.setAlm a v).bucket k = s.bucket k := rfl
@[simp] theorem State.clPhase_setAlm (k : Nat) : (s.setAlm a v).clPhase k = s.clPhase k := rfl
@[simp] theorem State.claim_setAlm (k : Nat) : (s.setAlm a v).claim k = s.claim k := rfl
@[simp] theorem State.can_setAlm (k : Nat) : (s.setAlm a v).can k = s.can k := rfl
@[simp] theorem State.supBits_setAlm (k : Nat) : (s.setAlm a v).supBits k = s.supBits k := rfl
@[simp] theorem State.eff_setAlm (k : Nat) : (s.setAlm a v).eff k = s.eff k := rfl
@[simp] theorem State.core_setAlm (k : Nat) : (s.setAlm a v).core k = s.core k := rfl
@[simp] theorem State.elem_setAlm (k : Nat) : (s.setAlm a v).elem k = s.elem k := rfl
@[simp] theorem State.sup_setAlm (k : Nat) : (s.setAlm a v).sup k = s.sup k := rfl
@[simp] theorem State.line_setAlm (k : Nat) : (s.setAlm a v).line k = s.line k := rfl
@[simp] theorem State.blzU_setAlm (k : Nat) : (s.setAlm a v).blzU k = s.blzU k := rfl
@[simp] theorem State.gauge_setAlm (k : Nat) : (s.setAlm a v).gauge k = s.gauge k := rfl
@[simp] theorem State.rcu_setAlm (k : Nat) : (s.setAlm a v).rcu k = s.rcu k := rfl
@[simp] theorem State.wbu_setAlm (k : Nat) : (s.setAlm a v).wbu k = s.wbu k := rfl
end

section
variable (s : State) (a : Nat) (v : Bucket)
@[simp] theorem State.setBucket_regs : (s.setBucket a v).regs = s.regs := rfl
@[simp] theorem State.setBucket_mram : (s.setBucket a v).mram = s.mram := rfl
@[simp] theorem State.setBucket_claims : (s.setBucket a v).claims = s.claims := rfl
@[simp] theorem State.setBucket_ended : (s.setBucket a v).ended = s.ended := rfl
@[simp] theorem State.setBucket_rsp : (s.setBucket a v).rsp = s.rsp := rfl
@[simp] theorem State.setBucket_spiOut : (s.setBucket a v).spiOut = s.spiOut := rfl
@[simp] theorem State.setBucket_snaps : (s.setBucket a v).snaps = s.snaps := rfl
@[simp] theorem State.setBucket_holds : (s.setBucket a v).holds = s.holds := rfl
@[simp] theorem State.setBucket_inds : (s.setBucket a v).inds = s.inds := rfl
@[simp] theorem State.setBucket_hbiReady : (s.setBucket a v).hbiReady = s.hbiReady := rfl
@[simp] theorem State.setBucket_supPend : (s.setBucket a v).supPend = s.supPend := rfl
@[simp] theorem State.setBucket_links : (s.setBucket a v).links = s.links := rfl
@[simp] theorem State.setBucket_mramErr : (s.setBucket a v).mramErr = s.mramErr := rfl
@[simp] theorem State.setBucket_mramOut : (s.setBucket a v).mramOut = s.mramOut := rfl
@[simp] theorem State.setBucket_tally : (s.setBucket a v).tally = s.tally := rfl
@[simp] theorem State.setBucket_tb : (s.setBucket a v).tb = s.tb := rfl
@[simp] theorem State.setBucket_alms : (s.setBucket a v).alms = s.alms := rfl
@[simp] theorem State.setBucket_pins : (s.setBucket a v).pins = s.pins := rfl
@[simp] theorem State.setBucket_tick : (s.setBucket a v).tick = s.tick := rfl
@[simp] theorem State.setBucket_stepFlag : (s.setBucket a v).stepFlag = s.stepFlag := rfl
@[simp] theorem State.setBucket_phase : (s.setBucket a v).phase = s.phase := rfl
@[simp] theorem State.setBucket_lanes : (s.setBucket a v).lanes = s.lanes := rfl
@[simp] theorem State.setBucket_clSrc : (s.setBucket a v).clSrc = s.clSrc := rfl
@[simp] theorem State.setBucket_expect : (s.setBucket a v).expect = s.expect := rfl
@[simp] theorem State.setBucket_late : (s.setBucket a v).late = s.late := rfl
@[simp] theorem State.setBucket_trk : (s.setBucket a v).trk = s.trk := rfl
@[simp] theorem State.setBucket_fpds : (s.setBucket a v).fpds = s.fpds := rfl
@[simp] theorem State.setBucket_dets : (s.setBucket a v).dets = s.dets := rfl
@[simp] theorem State.setBucket_light : (s.setBucket a v).light = s.light := rfl
@[simp] theorem State.setBucket_heldRegs : (s.setBucket a v).heldRegs = s.heldRegs := rfl
@[simp] theorem State.setBucket_cores : (s.setBucket a v).cores = s.cores := rfl
@[simp] theorem State.setBucket_elems : (s.setBucket a v).elems = s.elems := rfl
@[simp] theorem State.setBucket_sups : (s.setBucket a v).sups = s.sups := rfl
@[simp] theorem State.setBucket_inForce : (s.setBucket a v).inForce = s.inForce := rfl
@[simp] theorem State.setBucket_cans : (s.setBucket a v).cans = s.cans := rfl
@[simp] theorem State.setBucket_eth : (s.setBucket a v).eth = s.eth := rfl
@[simp] theorem State.setBucket_field_ : (s.setBucket a v).field_ = s.field_ := rfl
@[simp] theorem State.setBucket_fio : (s.setBucket a v).fio = s.fio := rfl
@[simp] theorem State.setBucket_lines : (s.setBucket a v).lines = s.lines := rfl
@[simp] theorem State.setBucket_tripKey : (s.setBucket a v).tripKey = s.tripKey := rfl
@[simp] theorem State.setBucket_lathe : (s.setBucket a v).lathe = s.lathe := rfl
@[simp] theorem State.setBucket_ticks : (s.setBucket a v).ticks = s.ticks := rfl
@[simp] theorem State.setBucket_recs : (s.setBucket a v).recs = s.recs := rfl
@[simp] theorem State.setBucket_wbs : (s.setBucket a v).wbs = s.wbs := rfl
@[simp] theorem State.setBucket_gauges : (s.setBucket a v).gauges = s.gauges := rfl
@[simp] theorem State.setBucket_blz : (s.setBucket a v).blz = s.blz := rfl
@[simp] theorem State.setBucket_pair : (s.setBucket a v).pair = s.pair := rfl
@[simp] theorem State.setBucket_meter : (s.setBucket a v).meter = s.meter := rfl
@[simp] theorem State.setBucket_power : (s.setBucket a v).power = s.power := rfl
@[simp] theorem State.setBucket_freeCtr : (s.setBucket a v).freeCtr = s.freeCtr := rfl
@[simp] theorem State.setBucket_pending : (s.setBucket a v).pending = s.pending := rfl
@[simp] theorem State.rd_setBucket (k : Nat) : (s.setBucket a v).rd k = s.rd k := rfl
@[simp] theorem State.mb_setBucket (k : Nat) : (s.setBucket a v).mb k = s.mb k := rfl
@[simp] theorem State.ind_setBucket (k : Nat) : (s.setBucket a v).ind k = s.ind k := rfl
@[simp] theorem State.link_setBucket (k : Nat) : (s.setBucket a v).link k = s.link k := rfl
@[simp] theorem State.lane_setBucket (k : Nat) : (s.setBucket a v).lane k = s.lane k := rfl
@[simp] theorem State.tracker_setBucket (k : Nat) : (s.setBucket a v).tracker k = s.tracker k := rfl
@[simp] theorem State.fpd_setBucket (k : Nat) : (s.setBucket a v).fpd k = s.fpd k := rfl
@[simp] theorem State.det_setBucket (k : Nat) : (s.setBucket a v).det k = s.det k := rfl
@[simp] theorem State.pin_setBucket (k : Nat) : (s.setBucket a v).pin k = s.pin k := rfl
@[simp] theorem State.alm_setBucket (k : Nat) : (s.setBucket a v).alm k = s.alm k := rfl
@[simp] theorem State.bucket_setBucket (k : Nat) : (s.setBucket a v).bucket k = if a = k then v else s.bucket k := SMap.get_set _ _ _ _ _
@[simp] theorem State.clPhase_setBucket (k : Nat) : (s.setBucket a v).clPhase k = s.clPhase k := rfl
@[simp] theorem State.claim_setBucket (k : Nat) : (s.setBucket a v).claim k = s.claim k := rfl
@[simp] theorem State.can_setBucket (k : Nat) : (s.setBucket a v).can k = s.can k := rfl
@[simp] theorem State.supBits_setBucket (k : Nat) : (s.setBucket a v).supBits k = s.supBits k := rfl
@[simp] theorem State.eff_setBucket (k : Nat) : (s.setBucket a v).eff k = s.eff k := rfl
@[simp] theorem State.core_setBucket (k : Nat) : (s.setBucket a v).core k = s.core k := rfl
@[simp] theorem State.elem_setBucket (k : Nat) : (s.setBucket a v).elem k = s.elem k := rfl
@[simp] theorem State.sup_setBucket (k : Nat) : (s.setBucket a v).sup k = s.sup k := rfl
@[simp] theorem State.line_setBucket (k : Nat) : (s.setBucket a v).line k = s.line k := rfl
@[simp] theorem State.blzU_setBucket (k : Nat) : (s.setBucket a v).blzU k = s.blzU k := rfl
@[simp] theorem State.gauge_setBucket (k : Nat) : (s.setBucket a v).gauge k = s.gauge k := rfl
@[simp] theorem State.rcu_setBucket (k : Nat) : (s.setBucket a v).rcu k = s.rcu k := rfl
@[simp] theorem State.wbu_setBucket (k : Nat) : (s.setBucket a v).wbu k = s.wbu k := rfl
end

section
variable (s : State) (a : Nat) (v : Phase)
@[simp] theorem State.setPhase_regs : (s.setPhase a v).regs = s.regs := rfl
@[simp] theorem State.setPhase_mram : (s.setPhase a v).mram = s.mram := rfl
@[simp] theorem State.setPhase_claims : (s.setPhase a v).claims = s.claims := rfl
@[simp] theorem State.setPhase_ended : (s.setPhase a v).ended = s.ended := rfl
@[simp] theorem State.setPhase_rsp : (s.setPhase a v).rsp = s.rsp := rfl
@[simp] theorem State.setPhase_spiOut : (s.setPhase a v).spiOut = s.spiOut := rfl
@[simp] theorem State.setPhase_snaps : (s.setPhase a v).snaps = s.snaps := rfl
@[simp] theorem State.setPhase_holds : (s.setPhase a v).holds = s.holds := rfl
@[simp] theorem State.setPhase_inds : (s.setPhase a v).inds = s.inds := rfl
@[simp] theorem State.setPhase_hbiReady : (s.setPhase a v).hbiReady = s.hbiReady := rfl
@[simp] theorem State.setPhase_supPend : (s.setPhase a v).supPend = s.supPend := rfl
@[simp] theorem State.setPhase_links : (s.setPhase a v).links = s.links := rfl
@[simp] theorem State.setPhase_mramErr : (s.setPhase a v).mramErr = s.mramErr := rfl
@[simp] theorem State.setPhase_mramOut : (s.setPhase a v).mramOut = s.mramOut := rfl
@[simp] theorem State.setPhase_tally : (s.setPhase a v).tally = s.tally := rfl
@[simp] theorem State.setPhase_buckets : (s.setPhase a v).buckets = s.buckets := rfl
@[simp] theorem State.setPhase_tb : (s.setPhase a v).tb = s.tb := rfl
@[simp] theorem State.setPhase_alms : (s.setPhase a v).alms = s.alms := rfl
@[simp] theorem State.setPhase_pins : (s.setPhase a v).pins = s.pins := rfl
@[simp] theorem State.setPhase_tick : (s.setPhase a v).tick = s.tick := rfl
@[simp] theorem State.setPhase_stepFlag : (s.setPhase a v).stepFlag = s.stepFlag := rfl
@[simp] theorem State.setPhase_lanes : (s.setPhase a v).lanes = s.lanes := rfl
@[simp] theorem State.setPhase_clSrc : (s.setPhase a v).clSrc = s.clSrc := rfl
@[simp] theorem State.setPhase_expect : (s.setPhase a v).expect = s.expect := rfl
@[simp] theorem State.setPhase_late : (s.setPhase a v).late = s.late := rfl
@[simp] theorem State.setPhase_trk : (s.setPhase a v).trk = s.trk := rfl
@[simp] theorem State.setPhase_fpds : (s.setPhase a v).fpds = s.fpds := rfl
@[simp] theorem State.setPhase_dets : (s.setPhase a v).dets = s.dets := rfl
@[simp] theorem State.setPhase_light : (s.setPhase a v).light = s.light := rfl
@[simp] theorem State.setPhase_heldRegs : (s.setPhase a v).heldRegs = s.heldRegs := rfl
@[simp] theorem State.setPhase_cores : (s.setPhase a v).cores = s.cores := rfl
@[simp] theorem State.setPhase_elems : (s.setPhase a v).elems = s.elems := rfl
@[simp] theorem State.setPhase_sups : (s.setPhase a v).sups = s.sups := rfl
@[simp] theorem State.setPhase_inForce : (s.setPhase a v).inForce = s.inForce := rfl
@[simp] theorem State.setPhase_cans : (s.setPhase a v).cans = s.cans := rfl
@[simp] theorem State.setPhase_eth : (s.setPhase a v).eth = s.eth := rfl
@[simp] theorem State.setPhase_field_ : (s.setPhase a v).field_ = s.field_ := rfl
@[simp] theorem State.setPhase_fio : (s.setPhase a v).fio = s.fio := rfl
@[simp] theorem State.setPhase_lines : (s.setPhase a v).lines = s.lines := rfl
@[simp] theorem State.setPhase_tripKey : (s.setPhase a v).tripKey = s.tripKey := rfl
@[simp] theorem State.setPhase_lathe : (s.setPhase a v).lathe = s.lathe := rfl
@[simp] theorem State.setPhase_ticks : (s.setPhase a v).ticks = s.ticks := rfl
@[simp] theorem State.setPhase_recs : (s.setPhase a v).recs = s.recs := rfl
@[simp] theorem State.setPhase_wbs : (s.setPhase a v).wbs = s.wbs := rfl
@[simp] theorem State.setPhase_gauges : (s.setPhase a v).gauges = s.gauges := rfl
@[simp] theorem State.setPhase_blz : (s.setPhase a v).blz = s.blz := rfl
@[simp] theorem State.setPhase_pair : (s.setPhase a v).pair = s.pair := rfl
@[simp] theorem State.setPhase_meter : (s.setPhase a v).meter = s.meter := rfl
@[simp] theorem State.setPhase_power : (s.setPhase a v).power = s.power := rfl
@[simp] theorem State.setPhase_freeCtr : (s.setPhase a v).freeCtr = s.freeCtr := rfl
@[simp] theorem State.setPhase_pending : (s.setPhase a v).pending = s.pending := rfl
@[simp] theorem State.rd_setPhase (k : Nat) : (s.setPhase a v).rd k = s.rd k := rfl
@[simp] theorem State.mb_setPhase (k : Nat) : (s.setPhase a v).mb k = s.mb k := rfl
@[simp] theorem State.ind_setPhase (k : Nat) : (s.setPhase a v).ind k = s.ind k := rfl
@[simp] theorem State.link_setPhase (k : Nat) : (s.setPhase a v).link k = s.link k := rfl
@[simp] theorem State.lane_setPhase (k : Nat) : (s.setPhase a v).lane k = s.lane k := rfl
@[simp] theorem State.tracker_setPhase (k : Nat) : (s.setPhase a v).tracker k = s.tracker k := rfl
@[simp] theorem State.fpd_setPhase (k : Nat) : (s.setPhase a v).fpd k = s.fpd k := rfl
@[simp] theorem State.det_setPhase (k : Nat) : (s.setPhase a v).det k = s.det k := rfl
@[simp] theorem State.pin_setPhase (k : Nat) : (s.setPhase a v).pin k = s.pin k := rfl
@[simp] theorem State.alm_setPhase (k : Nat) : (s.setPhase a v).alm k = s.alm k := rfl
@[simp] theorem State.bucket_setPhase (k : Nat) : (s.setPhase a v).bucket k = s.bucket k := rfl
@[simp] theorem State.clPhase_setPhase (k : Nat) : (s.setPhase a v).clPhase k = if a = k then v else s.clPhase k := SMap.get_set _ _ _ _ _
@[simp] theorem State.claim_setPhase (k : Nat) : (s.setPhase a v).claim k = s.claim k := rfl
@[simp] theorem State.can_setPhase (k : Nat) : (s.setPhase a v).can k = s.can k := rfl
@[simp] theorem State.supBits_setPhase (k : Nat) : (s.setPhase a v).supBits k = s.supBits k := rfl
@[simp] theorem State.eff_setPhase (k : Nat) : (s.setPhase a v).eff k = s.eff k := rfl
@[simp] theorem State.core_setPhase (k : Nat) : (s.setPhase a v).core k = s.core k := rfl
@[simp] theorem State.elem_setPhase (k : Nat) : (s.setPhase a v).elem k = s.elem k := rfl
@[simp] theorem State.sup_setPhase (k : Nat) : (s.setPhase a v).sup k = s.sup k := rfl
@[simp] theorem State.line_setPhase (k : Nat) : (s.setPhase a v).line k = s.line k := rfl
@[simp] theorem State.blzU_setPhase (k : Nat) : (s.setPhase a v).blzU k = s.blzU k := rfl
@[simp] theorem State.gauge_setPhase (k : Nat) : (s.setPhase a v).gauge k = s.gauge k := rfl
@[simp] theorem State.rcu_setPhase (k : Nat) : (s.setPhase a v).rcu k = s.rcu k := rfl
@[simp] theorem State.wbu_setPhase (k : Nat) : (s.setPhase a v).wbu k = s.wbu k := rfl
end

section
variable (s : State) (a : Nat) (v : Claim)
@[simp] theorem State.setClaim_regs : (s.setClaim a v).regs = s.regs := rfl
@[simp] theorem State.setClaim_mram : (s.setClaim a v).mram = s.mram := rfl
@[simp] theorem State.setClaim_ended : (s.setClaim a v).ended = s.ended := rfl
@[simp] theorem State.setClaim_rsp : (s.setClaim a v).rsp = s.rsp := rfl
@[simp] theorem State.setClaim_spiOut : (s.setClaim a v).spiOut = s.spiOut := rfl
@[simp] theorem State.setClaim_snaps : (s.setClaim a v).snaps = s.snaps := rfl
@[simp] theorem State.setClaim_holds : (s.setClaim a v).holds = s.holds := rfl
@[simp] theorem State.setClaim_inds : (s.setClaim a v).inds = s.inds := rfl
@[simp] theorem State.setClaim_hbiReady : (s.setClaim a v).hbiReady = s.hbiReady := rfl
@[simp] theorem State.setClaim_supPend : (s.setClaim a v).supPend = s.supPend := rfl
@[simp] theorem State.setClaim_links : (s.setClaim a v).links = s.links := rfl
@[simp] theorem State.setClaim_mramErr : (s.setClaim a v).mramErr = s.mramErr := rfl
@[simp] theorem State.setClaim_mramOut : (s.setClaim a v).mramOut = s.mramOut := rfl
@[simp] theorem State.setClaim_tally : (s.setClaim a v).tally = s.tally := rfl
@[simp] theorem State.setClaim_buckets : (s.setClaim a v).buckets = s.buckets := rfl
@[simp] theorem State.setClaim_tb : (s.setClaim a v).tb = s.tb := rfl
@[simp] theorem State.setClaim_alms : (s.setClaim a v).alms = s.alms := rfl
@[simp] theorem State.setClaim_pins : (s.setClaim a v).pins = s.pins := rfl
@[simp] theorem State.setClaim_tick : (s.setClaim a v).tick = s.tick := rfl
@[simp] theorem State.setClaim_stepFlag : (s.setClaim a v).stepFlag = s.stepFlag := rfl
@[simp] theorem State.setClaim_phase : (s.setClaim a v).phase = s.phase := rfl
@[simp] theorem State.setClaim_lanes : (s.setClaim a v).lanes = s.lanes := rfl
@[simp] theorem State.setClaim_clSrc : (s.setClaim a v).clSrc = s.clSrc := rfl
@[simp] theorem State.setClaim_expect : (s.setClaim a v).expect = s.expect := rfl
@[simp] theorem State.setClaim_late : (s.setClaim a v).late = s.late := rfl
@[simp] theorem State.setClaim_trk : (s.setClaim a v).trk = s.trk := rfl
@[simp] theorem State.setClaim_fpds : (s.setClaim a v).fpds = s.fpds := rfl
@[simp] theorem State.setClaim_dets : (s.setClaim a v).dets = s.dets := rfl
@[simp] theorem State.setClaim_light : (s.setClaim a v).light = s.light := rfl
@[simp] theorem State.setClaim_heldRegs : (s.setClaim a v).heldRegs = s.heldRegs := rfl
@[simp] theorem State.setClaim_cores : (s.setClaim a v).cores = s.cores := rfl
@[simp] theorem State.setClaim_elems : (s.setClaim a v).elems = s.elems := rfl
@[simp] theorem State.setClaim_sups : (s.setClaim a v).sups = s.sups := rfl
@[simp] theorem State.setClaim_inForce : (s.setClaim a v).inForce = s.inForce := rfl
@[simp] theorem State.setClaim_cans : (s.setClaim a v).cans = s.cans := rfl
@[simp] theorem State.setClaim_eth : (s.setClaim a v).eth = s.eth := rfl
@[simp] theorem State.setClaim_field_ : (s.setClaim a v).field_ = s.field_ := rfl
@[simp] theorem State.setClaim_fio : (s.setClaim a v).fio = s.fio := rfl
@[simp] theorem State.setClaim_lines : (s.setClaim a v).lines = s.lines := rfl
@[simp] theorem State.setClaim_tripKey : (s.setClaim a v).tripKey = s.tripKey := rfl
@[simp] theorem State.setClaim_lathe : (s.setClaim a v).lathe = s.lathe := rfl
@[simp] theorem State.setClaim_ticks : (s.setClaim a v).ticks = s.ticks := rfl
@[simp] theorem State.setClaim_recs : (s.setClaim a v).recs = s.recs := rfl
@[simp] theorem State.setClaim_wbs : (s.setClaim a v).wbs = s.wbs := rfl
@[simp] theorem State.setClaim_gauges : (s.setClaim a v).gauges = s.gauges := rfl
@[simp] theorem State.setClaim_blz : (s.setClaim a v).blz = s.blz := rfl
@[simp] theorem State.setClaim_pair : (s.setClaim a v).pair = s.pair := rfl
@[simp] theorem State.setClaim_meter : (s.setClaim a v).meter = s.meter := rfl
@[simp] theorem State.setClaim_power : (s.setClaim a v).power = s.power := rfl
@[simp] theorem State.setClaim_freeCtr : (s.setClaim a v).freeCtr = s.freeCtr := rfl
@[simp] theorem State.setClaim_pending : (s.setClaim a v).pending = s.pending := rfl
@[simp] theorem State.rd_setClaim (k : Nat) : (s.setClaim a v).rd k = s.rd k := rfl
@[simp] theorem State.mb_setClaim (k : Nat) : (s.setClaim a v).mb k = s.mb k := rfl
@[simp] theorem State.ind_setClaim (k : Nat) : (s.setClaim a v).ind k = s.ind k := rfl
@[simp] theorem State.link_setClaim (k : Nat) : (s.setClaim a v).link k = s.link k := rfl
@[simp] theorem State.lane_setClaim (k : Nat) : (s.setClaim a v).lane k = s.lane k := rfl
@[simp] theorem State.tracker_setClaim (k : Nat) : (s.setClaim a v).tracker k = s.tracker k := rfl
@[simp] theorem State.fpd_setClaim (k : Nat) : (s.setClaim a v).fpd k = s.fpd k := rfl
@[simp] theorem State.det_setClaim (k : Nat) : (s.setClaim a v).det k = s.det k := rfl
@[simp] theorem State.pin_setClaim (k : Nat) : (s.setClaim a v).pin k = s.pin k := rfl
@[simp] theorem State.alm_setClaim (k : Nat) : (s.setClaim a v).alm k = s.alm k := rfl
@[simp] theorem State.bucket_setClaim (k : Nat) : (s.setClaim a v).bucket k = s.bucket k := rfl
@[simp] theorem State.clPhase_setClaim (k : Nat) : (s.setClaim a v).clPhase k = s.clPhase k := rfl
@[simp] theorem State.claim_setClaim (k : Nat) : (s.setClaim a v).claim k = if a = k then v else s.claim k := SMap.get_set _ _ _ _ _
@[simp] theorem State.can_setClaim (k : Nat) : (s.setClaim a v).can k = s.can k := rfl
@[simp] theorem State.supBits_setClaim (k : Nat) : (s.setClaim a v).supBits k = s.supBits k := rfl
@[simp] theorem State.eff_setClaim (k : Nat) : (s.setClaim a v).eff k = s.eff k := rfl
@[simp] theorem State.core_setClaim (k : Nat) : (s.setClaim a v).core k = s.core k := rfl
@[simp] theorem State.elem_setClaim (k : Nat) : (s.setClaim a v).elem k = s.elem k := rfl
@[simp] theorem State.sup_setClaim (k : Nat) : (s.setClaim a v).sup k = s.sup k := rfl
@[simp] theorem State.line_setClaim (k : Nat) : (s.setClaim a v).line k = s.line k := rfl
@[simp] theorem State.blzU_setClaim (k : Nat) : (s.setClaim a v).blzU k = s.blzU k := rfl
@[simp] theorem State.gauge_setClaim (k : Nat) : (s.setClaim a v).gauge k = s.gauge k := rfl
@[simp] theorem State.rcu_setClaim (k : Nat) : (s.setClaim a v).rcu k = s.rcu k := rfl
@[simp] theorem State.wbu_setClaim (k : Nat) : (s.setClaim a v).wbu k = s.wbu k := rfl
end

section
variable (s : State) (a : Nat) (v : CanU)
@[simp] theorem State.setCan_regs : (s.setCan a v).regs = s.regs := rfl
@[simp] theorem State.setCan_mram : (s.setCan a v).mram = s.mram := rfl
@[simp] theorem State.setCan_claims : (s.setCan a v).claims = s.claims := rfl
@[simp] theorem State.setCan_ended : (s.setCan a v).ended = s.ended := rfl
@[simp] theorem State.setCan_rsp : (s.setCan a v).rsp = s.rsp := rfl
@[simp] theorem State.setCan_spiOut : (s.setCan a v).spiOut = s.spiOut := rfl
@[simp] theorem State.setCan_snaps : (s.setCan a v).snaps = s.snaps := rfl
@[simp] theorem State.setCan_holds : (s.setCan a v).holds = s.holds := rfl
@[simp] theorem State.setCan_inds : (s.setCan a v).inds = s.inds := rfl
@[simp] theorem State.setCan_hbiReady : (s.setCan a v).hbiReady = s.hbiReady := rfl
@[simp] theorem State.setCan_supPend : (s.setCan a v).supPend = s.supPend := rfl
@[simp] theorem State.setCan_links : (s.setCan a v).links = s.links := rfl
@[simp] theorem State.setCan_mramErr : (s.setCan a v).mramErr = s.mramErr := rfl
@[simp] theorem State.setCan_mramOut : (s.setCan a v).mramOut = s.mramOut := rfl
@[simp] theorem State.setCan_tally : (s.setCan a v).tally = s.tally := rfl
@[simp] theorem State.setCan_buckets : (s.setCan a v).buckets = s.buckets := rfl
@[simp] theorem State.setCan_tb : (s.setCan a v).tb = s.tb := rfl
@[simp] theorem State.setCan_alms : (s.setCan a v).alms = s.alms := rfl
@[simp] theorem State.setCan_pins : (s.setCan a v).pins = s.pins := rfl
@[simp] theorem State.setCan_tick : (s.setCan a v).tick = s.tick := rfl
@[simp] theorem State.setCan_stepFlag : (s.setCan a v).stepFlag = s.stepFlag := rfl
@[simp] theorem State.setCan_phase : (s.setCan a v).phase = s.phase := rfl
@[simp] theorem State.setCan_lanes : (s.setCan a v).lanes = s.lanes := rfl
@[simp] theorem State.setCan_clSrc : (s.setCan a v).clSrc = s.clSrc := rfl
@[simp] theorem State.setCan_expect : (s.setCan a v).expect = s.expect := rfl
@[simp] theorem State.setCan_late : (s.setCan a v).late = s.late := rfl
@[simp] theorem State.setCan_trk : (s.setCan a v).trk = s.trk := rfl
@[simp] theorem State.setCan_fpds : (s.setCan a v).fpds = s.fpds := rfl
@[simp] theorem State.setCan_dets : (s.setCan a v).dets = s.dets := rfl
@[simp] theorem State.setCan_light : (s.setCan a v).light = s.light := rfl
@[simp] theorem State.setCan_heldRegs : (s.setCan a v).heldRegs = s.heldRegs := rfl
@[simp] theorem State.setCan_cores : (s.setCan a v).cores = s.cores := rfl
@[simp] theorem State.setCan_elems : (s.setCan a v).elems = s.elems := rfl
@[simp] theorem State.setCan_sups : (s.setCan a v).sups = s.sups := rfl
@[simp] theorem State.setCan_inForce : (s.setCan a v).inForce = s.inForce := rfl
@[simp] theorem State.setCan_eth : (s.setCan a v).eth = s.eth := rfl
@[simp] theorem State.setCan_field_ : (s.setCan a v).field_ = s.field_ := rfl
@[simp] theorem State.setCan_fio : (s.setCan a v).fio = s.fio := rfl
@[simp] theorem State.setCan_lines : (s.setCan a v).lines = s.lines := rfl
@[simp] theorem State.setCan_tripKey : (s.setCan a v).tripKey = s.tripKey := rfl
@[simp] theorem State.setCan_lathe : (s.setCan a v).lathe = s.lathe := rfl
@[simp] theorem State.setCan_ticks : (s.setCan a v).ticks = s.ticks := rfl
@[simp] theorem State.setCan_recs : (s.setCan a v).recs = s.recs := rfl
@[simp] theorem State.setCan_wbs : (s.setCan a v).wbs = s.wbs := rfl
@[simp] theorem State.setCan_gauges : (s.setCan a v).gauges = s.gauges := rfl
@[simp] theorem State.setCan_blz : (s.setCan a v).blz = s.blz := rfl
@[simp] theorem State.setCan_pair : (s.setCan a v).pair = s.pair := rfl
@[simp] theorem State.setCan_meter : (s.setCan a v).meter = s.meter := rfl
@[simp] theorem State.setCan_power : (s.setCan a v).power = s.power := rfl
@[simp] theorem State.setCan_freeCtr : (s.setCan a v).freeCtr = s.freeCtr := rfl
@[simp] theorem State.setCan_pending : (s.setCan a v).pending = s.pending := rfl
@[simp] theorem State.rd_setCan (k : Nat) : (s.setCan a v).rd k = s.rd k := rfl
@[simp] theorem State.mb_setCan (k : Nat) : (s.setCan a v).mb k = s.mb k := rfl
@[simp] theorem State.ind_setCan (k : Nat) : (s.setCan a v).ind k = s.ind k := rfl
@[simp] theorem State.link_setCan (k : Nat) : (s.setCan a v).link k = s.link k := rfl
@[simp] theorem State.lane_setCan (k : Nat) : (s.setCan a v).lane k = s.lane k := rfl
@[simp] theorem State.tracker_setCan (k : Nat) : (s.setCan a v).tracker k = s.tracker k := rfl
@[simp] theorem State.fpd_setCan (k : Nat) : (s.setCan a v).fpd k = s.fpd k := rfl
@[simp] theorem State.det_setCan (k : Nat) : (s.setCan a v).det k = s.det k := rfl
@[simp] theorem State.pin_setCan (k : Nat) : (s.setCan a v).pin k = s.pin k := rfl
@[simp] theorem State.alm_setCan (k : Nat) : (s.setCan a v).alm k = s.alm k := rfl
@[simp] theorem State.bucket_setCan (k : Nat) : (s.setCan a v).bucket k = s.bucket k := rfl
@[simp] theorem State.clPhase_setCan (k : Nat) : (s.setCan a v).clPhase k = s.clPhase k := rfl
@[simp] theorem State.claim_setCan (k : Nat) : (s.setCan a v).claim k = s.claim k := rfl
@[simp] theorem State.can_setCan (k : Nat) : (s.setCan a v).can k = if a = k then v else s.can k := SMap.get_set _ _ _ _ _
@[simp] theorem State.supBits_setCan (k : Nat) : (s.setCan a v).supBits k = s.supBits k := rfl
@[simp] theorem State.eff_setCan (k : Nat) : (s.setCan a v).eff k = s.eff k := rfl
@[simp] theorem State.core_setCan (k : Nat) : (s.setCan a v).core k = s.core k := rfl
@[simp] theorem State.elem_setCan (k : Nat) : (s.setCan a v).elem k = s.elem k := rfl
@[simp] theorem State.sup_setCan (k : Nat) : (s.setCan a v).sup k = s.sup k := rfl
@[simp] theorem State.line_setCan (k : Nat) : (s.setCan a v).line k = s.line k := rfl
@[simp] theorem State.blzU_setCan (k : Nat) : (s.setCan a v).blzU k = s.blzU k := rfl
@[simp] theorem State.gauge_setCan (k : Nat) : (s.setCan a v).gauge k = s.gauge k := rfl
@[simp] theorem State.rcu_setCan (k : Nat) : (s.setCan a v).rcu k = s.rcu k := rfl
@[simp] theorem State.wbu_setCan (k : Nat) : (s.setCan a v).wbu k = s.wbu k := rfl
end

section
variable (s : State) (f : EthU → EthU)
@[simp] theorem State.ethMod_regs : (s.ethMod f).regs = s.regs := rfl
@[simp] theorem State.ethMod_mram : (s.ethMod f).mram = s.mram := rfl
@[simp] theorem State.ethMod_claims : (s.ethMod f).claims = s.claims := rfl
@[simp] theorem State.ethMod_ended : (s.ethMod f).ended = s.ended := rfl
@[simp] theorem State.ethMod_rsp : (s.ethMod f).rsp = s.rsp := rfl
@[simp] theorem State.ethMod_spiOut : (s.ethMod f).spiOut = s.spiOut := rfl
@[simp] theorem State.ethMod_snaps : (s.ethMod f).snaps = s.snaps := rfl
@[simp] theorem State.ethMod_holds : (s.ethMod f).holds = s.holds := rfl
@[simp] theorem State.ethMod_inds : (s.ethMod f).inds = s.inds := rfl
@[simp] theorem State.ethMod_hbiReady : (s.ethMod f).hbiReady = s.hbiReady := rfl
@[simp] theorem State.ethMod_supPend : (s.ethMod f).supPend = s.supPend := rfl
@[simp] theorem State.ethMod_links : (s.ethMod f).links = s.links := rfl
@[simp] theorem State.ethMod_mramErr : (s.ethMod f).mramErr = s.mramErr := rfl
@[simp] theorem State.ethMod_mramOut : (s.ethMod f).mramOut = s.mramOut := rfl
@[simp] theorem State.ethMod_tally : (s.ethMod f).tally = s.tally := rfl
@[simp] theorem State.ethMod_buckets : (s.ethMod f).buckets = s.buckets := rfl
@[simp] theorem State.ethMod_tb : (s.ethMod f).tb = s.tb := rfl
@[simp] theorem State.ethMod_alms : (s.ethMod f).alms = s.alms := rfl
@[simp] theorem State.ethMod_pins : (s.ethMod f).pins = s.pins := rfl
@[simp] theorem State.ethMod_tick : (s.ethMod f).tick = s.tick := rfl
@[simp] theorem State.ethMod_stepFlag : (s.ethMod f).stepFlag = s.stepFlag := rfl
@[simp] theorem State.ethMod_phase : (s.ethMod f).phase = s.phase := rfl
@[simp] theorem State.ethMod_lanes : (s.ethMod f).lanes = s.lanes := rfl
@[simp] theorem State.ethMod_clSrc : (s.ethMod f).clSrc = s.clSrc := rfl
@[simp] theorem State.ethMod_expect : (s.ethMod f).expect = s.expect := rfl
@[simp] theorem State.ethMod_late : (s.ethMod f).late = s.late := rfl
@[simp] theorem State.ethMod_trk : (s.ethMod f).trk = s.trk := rfl
@[simp] theorem State.ethMod_fpds : (s.ethMod f).fpds = s.fpds := rfl
@[simp] theorem State.ethMod_dets : (s.ethMod f).dets = s.dets := rfl
@[simp] theorem State.ethMod_light : (s.ethMod f).light = s.light := rfl
@[simp] theorem State.ethMod_heldRegs : (s.ethMod f).heldRegs = s.heldRegs := rfl
@[simp] theorem State.ethMod_cores : (s.ethMod f).cores = s.cores := rfl
@[simp] theorem State.ethMod_elems : (s.ethMod f).elems = s.elems := rfl
@[simp] theorem State.ethMod_sups : (s.ethMod f).sups = s.sups := rfl
@[simp] theorem State.ethMod_inForce : (s.ethMod f).inForce = s.inForce := rfl
@[simp] theorem State.ethMod_cans : (s.ethMod f).cans = s.cans := rfl
@[simp] theorem State.ethMod_eth : (s.ethMod f).eth = f s.eth := rfl
@[simp] theorem State.ethMod_field_ : (s.ethMod f).field_ = s.field_ := rfl
@[simp] theorem State.ethMod_fio : (s.ethMod f).fio = s.fio := rfl
@[simp] theorem State.ethMod_lines : (s.ethMod f).lines = s.lines := rfl
@[simp] theorem State.ethMod_tripKey : (s.ethMod f).tripKey = s.tripKey := rfl
@[simp] theorem State.ethMod_lathe : (s.ethMod f).lathe = s.lathe := rfl
@[simp] theorem State.ethMod_ticks : (s.ethMod f).ticks = s.ticks := rfl
@[simp] theorem State.ethMod_recs : (s.ethMod f).recs = s.recs := rfl
@[simp] theorem State.ethMod_wbs : (s.ethMod f).wbs = s.wbs := rfl
@[simp] theorem State.ethMod_gauges : (s.ethMod f).gauges = s.gauges := rfl
@[simp] theorem State.ethMod_blz : (s.ethMod f).blz = s.blz := rfl
@[simp] theorem State.ethMod_pair : (s.ethMod f).pair = s.pair := rfl
@[simp] theorem State.ethMod_meter : (s.ethMod f).meter = s.meter := rfl
@[simp] theorem State.ethMod_power : (s.ethMod f).power = s.power := rfl
@[simp] theorem State.ethMod_freeCtr : (s.ethMod f).freeCtr = s.freeCtr := rfl
@[simp] theorem State.ethMod_pending : (s.ethMod f).pending = s.pending := rfl
@[simp] theorem State.rd_ethMod (k : Nat) : (s.ethMod f).rd k = s.rd k := rfl
@[simp] theorem State.mb_ethMod (k : Nat) : (s.ethMod f).mb k = s.mb k := rfl
@[simp] theorem State.ind_ethMod (k : Nat) : (s.ethMod f).ind k = s.ind k := rfl
@[simp] theorem State.link_ethMod (k : Nat) : (s.ethMod f).link k = s.link k := rfl
@[simp] theorem State.lane_ethMod (k : Nat) : (s.ethMod f).lane k = s.lane k := rfl
@[simp] theorem State.tracker_ethMod (k : Nat) : (s.ethMod f).tracker k = s.tracker k := rfl
@[simp] theorem State.fpd_ethMod (k : Nat) : (s.ethMod f).fpd k = s.fpd k := rfl
@[simp] theorem State.det_ethMod (k : Nat) : (s.ethMod f).det k = s.det k := rfl
@[simp] theorem State.pin_ethMod (k : Nat) : (s.ethMod f).pin k = s.pin k := rfl
@[simp] theorem State.alm_ethMod (k : Nat) : (s.ethMod f).alm k = s.alm k := rfl
@[simp] theorem State.bucket_ethMod (k : Nat) : (s.ethMod f).bucket k = s.bucket k := rfl
@[simp] theorem State.clPhase_ethMod (k : Nat) : (s.ethMod f).clPhase k = s.clPhase k := rfl
@[simp] theorem State.claim_ethMod (k : Nat) : (s.ethMod f).claim k = s.claim k := rfl
@[simp] theorem State.can_ethMod (k : Nat) : (s.ethMod f).can k = s.can k := rfl
@[simp] theorem State.supBits_ethMod (k : Nat) : (s.ethMod f).supBits k = s.supBits k := rfl
@[simp] theorem State.eff_ethMod (k : Nat) : (s.ethMod f).eff k = s.eff k := rfl
@[simp] theorem State.core_ethMod (k : Nat) : (s.ethMod f).core k = s.core k := rfl
@[simp] theorem State.elem_ethMod (k : Nat) : (s.ethMod f).elem k = s.elem k := rfl
@[simp] theorem State.sup_ethMod (k : Nat) : (s.ethMod f).sup k = s.sup k := rfl
@[simp] theorem State.line_ethMod (k : Nat) : (s.ethMod f).line k = s.line k := rfl
@[simp] theorem State.blzU_ethMod (k : Nat) : (s.ethMod f).blzU k = s.blzU k := rfl
@[simp] theorem State.gauge_ethMod (k : Nat) : (s.ethMod f).gauge k = s.gauge k := rfl
@[simp] theorem State.rcu_ethMod (k : Nat) : (s.ethMod f).rcu k = s.rcu k := rfl
@[simp] theorem State.wbu_ethMod (k : Nat) : (s.ethMod f).wbu k = s.wbu k := rfl
end

section
variable (s : State) (r : Req) (v : Word)
@[simp] theorem State.answer_regs : (s.answer r v).regs = s.regs := rfl
@[simp] theorem State.answer_mram : (s.answer r v).mram = s.mram := rfl
@[simp] theorem State.answer_claims : (s.answer r v).claims = s.claims := rfl
@[simp] theorem State.answer_ended : (s.answer r v).ended = s.ended := rfl
@[simp] theorem State.answer_snaps : (s.answer r v).snaps = s.snaps := rfl
@[simp] theorem State.answer_holds : (s.answer r v).holds = s.holds := rfl
@[simp] theorem State.answer_inds : (s.answer r v).inds = s.inds := rfl
@[simp] theorem State.answer_hbiReady : (s.answer r v).hbiReady = s.hbiReady := rfl
@[simp] theorem State.answer_supPend : (s.answer r v).supPend = s.supPend := rfl
@[simp] theorem State.answer_links : (s.answer r v).links = s.links := rfl
@[simp] theorem State.answer_mramErr : (s.answer r v).mramErr = s.mramErr := rfl
@[simp] theorem State.answer_mramOut : (s.answer r v).mramOut = s.mramOut := rfl
@[simp] theorem State.answer_tally : (s.answer r v).tally = s.tally := rfl
@[simp] theorem State.answer_buckets : (s.answer r v).buckets = s.buckets := rfl
@[simp] theorem State.answer_tb : (s.answer r v).tb = s.tb := rfl
@[simp] theorem State.answer_alms : (s.answer r v).alms = s.alms := rfl
@[simp] theorem State.answer_pins : (s.answer r v).pins = s.pins := rfl
@[simp] theorem State.answer_tick : (s.answer r v).tick = s.tick := rfl
@[simp] theorem State.answer_stepFlag : (s.answer r v).stepFlag = s.stepFlag := rfl
@[simp] theorem State.answer_phase : (s.answer r v).phase = s.phase := rfl
@[simp] theorem State.answer_lanes : (s.answer r v).lanes = s.lanes := rfl
@[simp] theorem State.answer_clSrc : (s.answer r v).clSrc = s.clSrc := rfl
@[simp] theorem State.answer_expect : (s.answer r v).expect = s.expect := rfl
@[simp] theorem State.answer_late : (s.answer r v).late = s.late := rfl
@[simp] theorem State.answer_trk : (s.answer r v).trk = s.trk := rfl
@[simp] theorem State.answer_fpds : (s.answer r v).fpds = s.fpds := rfl
@[simp] theorem State.answer_dets : (s.answer r v).dets = s.dets := rfl
@[simp] theorem State.answer_light : (s.answer r v).light = s.light := rfl
@[simp] theorem State.answer_heldRegs : (s.answer r v).heldRegs = s.heldRegs := rfl
@[simp] theorem State.answer_cores : (s.answer r v).cores = s.cores := rfl
@[simp] theorem State.answer_elems : (s.answer r v).elems = s.elems := rfl
@[simp] theorem State.answer_sups : (s.answer r v).sups = s.sups := rfl
@[simp] theorem State.answer_inForce : (s.answer r v).inForce = s.inForce := rfl
@[simp] theorem State.answer_cans : (s.answer r v).cans = s.cans := rfl
@[simp] theorem State.answer_eth : (s.answer r v).eth = s.eth := rfl
@[simp] theorem State.answer_field_ : (s.answer r v).field_ = s.field_ := rfl
@[simp] theorem State.answer_fio : (s.answer r v).fio = s.fio := rfl
@[simp] theorem State.answer_lines : (s.answer r v).lines = s.lines := rfl
@[simp] theorem State.answer_tripKey : (s.answer r v).tripKey = s.tripKey := rfl
@[simp] theorem State.answer_lathe : (s.answer r v).lathe = s.lathe := rfl
@[simp] theorem State.answer_ticks : (s.answer r v).ticks = s.ticks := rfl
@[simp] theorem State.answer_recs : (s.answer r v).recs = s.recs := rfl
@[simp] theorem State.answer_wbs : (s.answer r v).wbs = s.wbs := rfl
@[simp] theorem State.answer_gauges : (s.answer r v).gauges = s.gauges := rfl
@[simp] theorem State.answer_blz : (s.answer r v).blz = s.blz := rfl
@[simp] theorem State.answer_pair : (s.answer r v).pair = s.pair := rfl
@[simp] theorem State.answer_meter : (s.answer r v).meter = s.meter := rfl
@[simp] theorem State.answer_power : (s.answer r v).power = s.power := rfl
@[simp] theorem State.answer_freeCtr : (s.answer r v).freeCtr = s.freeCtr := rfl
@[simp] theorem State.answer_pending : (s.answer r v).pending = s.pending := rfl
@[simp] theorem State.rd_answer (k : Nat) : (s.answer r v).rd k = s.rd k := rfl
@[simp] theorem State.mb_answer (k : Nat) : (s.answer r v).mb k = s.mb k := rfl
@[simp] theorem State.ind_answer (k : Nat) : (s.answer r v).ind k = s.ind k := rfl
@[simp] theorem State.link_answer (k : Nat) : (s.answer r v).link k = s.link k := rfl
@[simp] theorem State.lane_answer (k : Nat) : (s.answer r v).lane k = s.lane k := rfl
@[simp] theorem State.tracker_answer (k : Nat) : (s.answer r v).tracker k = s.tracker k := rfl
@[simp] theorem State.fpd_answer (k : Nat) : (s.answer r v).fpd k = s.fpd k := rfl
@[simp] theorem State.det_answer (k : Nat) : (s.answer r v).det k = s.det k := rfl
@[simp] theorem State.pin_answer (k : Nat) : (s.answer r v).pin k = s.pin k := rfl
@[simp] theorem State.alm_answer (k : Nat) : (s.answer r v).alm k = s.alm k := rfl
@[simp] theorem State.bucket_answer (k : Nat) : (s.answer r v).bucket k = s.bucket k := rfl
@[simp] theorem State.clPhase_answer (k : Nat) : (s.answer r v).clPhase k = s.clPhase k := rfl
@[simp] theorem State.claim_answer (k : Nat) : (s.answer r v).claim k = s.claim k := rfl
@[simp] theorem State.can_answer (k : Nat) : (s.answer r v).can k = s.can k := rfl
@[simp] theorem State.supBits_answer (k : Nat) : (s.answer r v).supBits k = s.supBits k := rfl
@[simp] theorem State.eff_answer (k : Nat) : (s.answer r v).eff k = s.eff k := rfl
@[simp] theorem State.core_answer (k : Nat) : (s.answer r v).core k = s.core k := rfl
@[simp] theorem State.elem_answer (k : Nat) : (s.answer r v).elem k = s.elem k := rfl
@[simp] theorem State.sup_answer (k : Nat) : (s.answer r v).sup k = s.sup k := rfl
@[simp] theorem State.line_answer (k : Nat) : (s.answer r v).line k = s.line k := rfl
@[simp] theorem State.blzU_answer (k : Nat) : (s.answer r v).blzU k = s.blzU k := rfl
@[simp] theorem State.gauge_answer (k : Nat) : (s.answer r v).gauge k = s.gauge k := rfl
@[simp] theorem State.rcu_answer (k : Nat) : (s.answer r v).rcu k = s.rcu k := rfl
@[simp] theorem State.wbu_answer (k : Nat) : (s.answer r v).wbu k = s.wbu k := rfl
end

section
variable (s : State) (r : Req) (a : Nat) (v : Word)
@[simp] theorem State.latch_regs : (s.latch r a v).regs = s.regs := rfl
@[simp] theorem State.latch_mram : (s.latch r a v).mram = s.mram := rfl
@[simp] theorem State.latch_claims : (s.latch r a v).claims = s.claims := rfl
@[simp] theorem State.latch_ended : (s.latch r a v).ended = s.ended := rfl
@[simp] theorem State.latch_rsp : (s.latch r a v).rsp = s.rsp := rfl
@[simp] theorem State.latch_spiOut : (s.latch r a v).spiOut = s.spiOut := rfl
@[simp] theorem State.latch_holds : (s.latch r a v).holds = s.holds := rfl
@[simp] theorem State.latch_inds : (s.latch r a v).inds = s.inds := rfl
@[simp] theorem State.latch_hbiReady : (s.latch r a v).hbiReady = s.hbiReady := rfl
@[simp] theorem State.latch_supPend : (s.latch r a v).supPend = s.supPend := rfl
@[simp] theorem State.latch_links : (s.latch r a v).links = s.links := rfl
@[simp] theorem State.latch_mramErr : (s.latch r a v).mramErr = s.mramErr := rfl
@[simp] theorem State.latch_mramOut : (s.latch r a v).mramOut = s.mramOut := rfl
@[simp] theorem State.latch_tally : (s.latch r a v).tally = s.tally := rfl
@[simp] theorem State.latch_buckets : (s.latch r a v).buckets = s.buckets := rfl
@[simp] theorem State.latch_tb : (s.latch r a v).tb = s.tb := rfl
@[simp] theorem State.latch_alms : (s.latch r a v).alms = s.alms := rfl
@[simp] theorem State.latch_pins : (s.latch r a v).pins = s.pins := rfl
@[simp] theorem State.latch_tick : (s.latch r a v).tick = s.tick := rfl
@[simp] theorem State.latch_stepFlag : (s.latch r a v).stepFlag = s.stepFlag := rfl
@[simp] theorem State.latch_phase : (s.latch r a v).phase = s.phase := rfl
@[simp] theorem State.latch_lanes : (s.latch r a v).lanes = s.lanes := rfl
@[simp] theorem State.latch_clSrc : (s.latch r a v).clSrc = s.clSrc := rfl
@[simp] theorem State.latch_expect : (s.latch r a v).expect = s.expect := rfl
@[simp] theorem State.latch_late : (s.latch r a v).late = s.late := rfl
@[simp] theorem State.latch_trk : (s.latch r a v).trk = s.trk := rfl
@[simp] theorem State.latch_fpds : (s.latch r a v).fpds = s.fpds := rfl
@[simp] theorem State.latch_dets : (s.latch r a v).dets = s.dets := rfl
@[simp] theorem State.latch_light : (s.latch r a v).light = s.light := rfl
@[simp] theorem State.latch_heldRegs : (s.latch r a v).heldRegs = s.heldRegs := rfl
@[simp] theorem State.latch_cores : (s.latch r a v).cores = s.cores := rfl
@[simp] theorem State.latch_elems : (s.latch r a v).elems = s.elems := rfl
@[simp] theorem State.latch_sups : (s.latch r a v).sups = s.sups := rfl
@[simp] theorem State.latch_inForce : (s.latch r a v).inForce = s.inForce := rfl
@[simp] theorem State.latch_cans : (s.latch r a v).cans = s.cans := rfl
@[simp] theorem State.latch_eth : (s.latch r a v).eth = s.eth := rfl
@[simp] theorem State.latch_field_ : (s.latch r a v).field_ = s.field_ := rfl
@[simp] theorem State.latch_fio : (s.latch r a v).fio = s.fio := rfl
@[simp] theorem State.latch_lines : (s.latch r a v).lines = s.lines := rfl
@[simp] theorem State.latch_tripKey : (s.latch r a v).tripKey = s.tripKey := rfl
@[simp] theorem State.latch_lathe : (s.latch r a v).lathe = s.lathe := rfl
@[simp] theorem State.latch_ticks : (s.latch r a v).ticks = s.ticks := rfl
@[simp] theorem State.latch_recs : (s.latch r a v).recs = s.recs := rfl
@[simp] theorem State.latch_wbs : (s.latch r a v).wbs = s.wbs := rfl
@[simp] theorem State.latch_gauges : (s.latch r a v).gauges = s.gauges := rfl
@[simp] theorem State.latch_blz : (s.latch r a v).blz = s.blz := rfl
@[simp] theorem State.latch_pair : (s.latch r a v).pair = s.pair := rfl
@[simp] theorem State.latch_meter : (s.latch r a v).meter = s.meter := rfl
@[simp] theorem State.latch_power : (s.latch r a v).power = s.power := rfl
@[simp] theorem State.latch_freeCtr : (s.latch r a v).freeCtr = s.freeCtr := rfl
@[simp] theorem State.latch_pending : (s.latch r a v).pending = s.pending := rfl
@[simp] theorem State.rd_latch (k : Nat) : (s.latch r a v).rd k = s.rd k := rfl
@[simp] theorem State.mb_latch (k : Nat) : (s.latch r a v).mb k = s.mb k := rfl
@[simp] theorem State.ind_latch (k : Nat) : (s.latch r a v).ind k = s.ind k := rfl
@[simp] theorem State.link_latch (k : Nat) : (s.latch r a v).link k = s.link k := rfl
@[simp] theorem State.lane_latch (k : Nat) : (s.latch r a v).lane k = s.lane k := rfl
@[simp] theorem State.tracker_latch (k : Nat) : (s.latch r a v).tracker k = s.tracker k := rfl
@[simp] theorem State.fpd_latch (k : Nat) : (s.latch r a v).fpd k = s.fpd k := rfl
@[simp] theorem State.det_latch (k : Nat) : (s.latch r a v).det k = s.det k := rfl
@[simp] theorem State.pin_latch (k : Nat) : (s.latch r a v).pin k = s.pin k := rfl
@[simp] theorem State.alm_latch (k : Nat) : (s.latch r a v).alm k = s.alm k := rfl
@[simp] theorem State.bucket_latch (k : Nat) : (s.latch r a v).bucket k = s.bucket k := rfl
@[simp] theorem State.clPhase_latch (k : Nat) : (s.latch r a v).clPhase k = s.clPhase k := rfl
@[simp] theorem State.claim_latch (k : Nat) : (s.latch r a v).claim k = s.claim k := rfl
@[simp] theorem State.can_latch (k : Nat) : (s.latch r a v).can k = s.can k := rfl
@[simp] theorem State.supBits_latch (k : Nat) : (s.latch r a v).supBits k = s.supBits k := rfl
@[simp] theorem State.eff_latch (k : Nat) : (s.latch r a v).eff k = s.eff k := rfl
@[simp] theorem State.core_latch (k : Nat) : (s.latch r a v).core k = s.core k := rfl
@[simp] theorem State.elem_latch (k : Nat) : (s.latch r a v).elem k = s.elem k := rfl
@[simp] theorem State.sup_latch (k : Nat) : (s.latch r a v).sup k = s.sup k := rfl
@[simp] theorem State.line_latch (k : Nat) : (s.latch r a v).line k = s.line k := rfl
@[simp] theorem State.blzU_latch (k : Nat) : (s.latch r a v).blzU k = s.blzU k := rfl
@[simp] theorem State.gauge_latch (k : Nat) : (s.latch r a v).gauge k = s.gauge k := rfl
@[simp] theorem State.rcu_latch (k : Nat) : (s.latch r a v).rcu k = s.rcu k := rfl
@[simp] theorem State.wbu_latch (k : Nat) : (s.latch r a v).wbu k = s.wbu k := rfl
end

section
variable (s : State) (r : Req) (a : Nat) (v : Word)
theorem State.hold_eq : ∃ x, s.hold r a v = { s with holds := x } := ⟨_, rfl⟩
@[simp] theorem State.hold_regs : (s.hold r a v).regs = s.regs := by obtain ⟨x, h⟩ := State.hold_eq s r a v; rw [h]
@[simp] theorem State.hold_mram : (s.hold r a v).mram = s.mram := by obtain ⟨x, h⟩ := State.hold_eq s r a v; rw [h]
@[simp] theorem State.hold_claims : (s.hold r a v).claims = s.claims := by obtain ⟨x, h⟩ := State.hold_eq s r a v; rw [h]
@[simp] theorem State.hold_ended : (s.hold r a v).ended = s.ended := by obtain ⟨x, h⟩ := State.hold_eq s r a v; rw [h]
@[simp] theorem State.hold_rsp : (s.hold r a v).rsp = s.rsp := by obtain ⟨x, h⟩ := State.hold_eq s r a v; rw [h]
@[simp] theorem State.hold_snaps : (s.hold r a v).snaps = s.snaps := by obtain ⟨x, h⟩ := State.hold_eq s r a v; rw [h]
@[simp] theorem State.hold_inds : (s.hold r a v).inds = s.inds := by obtain ⟨x, h⟩ := State.hold_eq s r a v; rw [h]
@[simp] theorem State.hold_hbiReady : (s.hold r a v).hbiReady = s.hbiReady := by obtain ⟨x, h⟩ := State.hold_eq s r a v; rw [h]
@[simp] theorem State.hold_supPend : (s.hold r a v).supPend = s.supPend := by obtain ⟨x, h⟩ := State.hold_eq s r a v; rw [h]
@[simp] theorem State.hold_links : (s.hold r a v).links = s.links := by obtain ⟨x, h⟩ := State.hold_eq s r a v; rw [h]
@[simp] theorem State.hold_mramErr : (s.hold r a v).mramErr = s.mramErr := by obtain ⟨x, h⟩ := State.hold_eq s r a v; rw [h]
@[simp] theorem State.hold_mramOut : (s.hold r a v).mramOut = s.mramOut := by obtain ⟨x, h⟩ := State.hold_eq s r a v; rw [h]
@[simp] theorem State.hold_tally : (s.hold r a v).tally = s.tally := by obtain ⟨x, h⟩ := State.hold_eq s r a v; rw [h]
@[simp] theorem State.hold_buckets : (s.hold r a v).buckets = s.buckets := by obtain ⟨x, h⟩ := State.hold_eq s r a v; rw [h]
@[simp] theorem State.hold_tb : (s.hold r a v).tb = s.tb := by obtain ⟨x, h⟩ := State.hold_eq s r a v; rw [h]
@[simp] theorem State.hold_alms : (s.hold r a v).alms = s.alms := by obtain ⟨x, h⟩ := State.hold_eq s r a v; rw [h]
@[simp] theorem State.hold_pins : (s.hold r a v).pins = s.pins := by obtain ⟨x, h⟩ := State.hold_eq s r a v; rw [h]
@[simp] theorem State.hold_tick : (s.hold r a v).tick = s.tick := by obtain ⟨x, h⟩ := State.hold_eq s r a v; rw [h]
@[simp] theorem State.hold_stepFlag : (s.hold r a v).stepFlag = s.stepFlag := by obtain ⟨x, h⟩ := State.hold_eq s r a v; rw [h]
@[simp] theorem State.hold_phase : (s.hold r a v).phase = s.phase := by obtain ⟨x, h⟩ := State.hold_eq s r a v; rw [h]
@[simp] theorem State.hold_lanes : (s.hold r a v).lanes = s.lanes := by obtain ⟨x, h⟩ := State.hold_eq s r a v; rw [h]
@[simp] theorem State.hold_clSrc : (s.hold r a v).clSrc = s.clSrc := by obtain ⟨x, h⟩ := State.hold_eq s r a v; rw [h]
@[simp] theorem State.hold_expect : (s.hold r a v).expect = s.expect := by obtain ⟨x, h⟩ := State.hold_eq s r a v; rw [h]
@[simp] theorem State.hold_late : (s.hold r a v).late = s.late := by obtain ⟨x, h⟩ := State.hold_eq s r a v; rw [h]
@[simp] theorem State.hold_trk : (s.hold r a v).trk = s.trk := by obtain ⟨x, h⟩ := State.hold_eq s r a v; rw [h]
@[simp] theorem State.hold_fpds : (s.hold r a v).fpds = s.fpds := by obtain ⟨x, h⟩ := State.hold_eq s r a v; rw [h]
@[simp] theorem State.hold_dets : (s.hold r a v).dets = s.dets := by obtain ⟨x, h⟩ := State.hold_eq s r a v; rw [h]
@[simp] theorem State.hold_light : (s.hold r a v).light = s.light := by obtain ⟨x, h⟩ := State.hold_eq s r a v; rw [h]
@[simp] theorem State.hold_heldRegs : (s.hold r a v).heldRegs = s.heldRegs := by obtain ⟨x, h⟩ := State.hold_eq s r a v; rw [h]
@[simp] theorem State.hold_cores : (s.hold r a v).cores = s.cores := by obtain ⟨x, h⟩ := State.hold_eq s r a v; rw [h]
@[simp] theorem State.hold_elems : (s.hold r a v).elems = s.elems := by obtain ⟨x, h⟩ := State.hold_eq s r a v; rw [h]
@[simp] theorem State.hold_sups : (s.hold r a v).sups = s.sups := by obtain ⟨x, h⟩ := State.hold_eq s r a v; rw [h]
@[simp] theorem State.hold_inForce : (s.hold r a v).inForce = s.inForce := by obtain ⟨x, h⟩ := State.hold_eq s r a v; rw [h]
@[simp] theorem State.hold_cans : (s.hold r a v).cans = s.cans := by obtain ⟨x, h⟩ := State.hold_eq s r a v; rw [h]
@[simp] theorem State.hold_eth : (s.hold r a v).eth = s.eth := by obtain ⟨x, h⟩ := State.hold_eq s r a v; rw [h]
@[simp] theorem State.hold_field_ : (s.hold r a v).field_ = s.field_ := by obtain ⟨x, h⟩ := State.hold_eq s r a v; rw [h]
@[simp] theorem State.hold_fio : (s.hold r a v).fio = s.fio := by obtain ⟨x, h⟩ := State.hold_eq s r a v; rw [h]
@[simp] theorem State.hold_lines : (s.hold r a v).lines = s.lines := by obtain ⟨x, h⟩ := State.hold_eq s r a v; rw [h]
@[simp] theorem State.hold_tripKey : (s.hold r a v).tripKey = s.tripKey := by obtain ⟨x, h⟩ := State.hold_eq s r a v; rw [h]
@[simp] theorem State.hold_lathe : (s.hold r a v).lathe = s.lathe := by obtain ⟨x, h⟩ := State.hold_eq s r a v; rw [h]
@[simp] theorem State.hold_ticks : (s.hold r a v).ticks = s.ticks := by obtain ⟨x, h⟩ := State.hold_eq s r a v; rw [h]
@[simp] theorem State.hold_recs : (s.hold r a v).recs = s.recs := by obtain ⟨x, h⟩ := State.hold_eq s r a v; rw [h]
@[simp] theorem State.hold_wbs : (s.hold r a v).wbs = s.wbs := by obtain ⟨x, h⟩ := State.hold_eq s r a v; rw [h]
@[simp] theorem State.hold_gauges : (s.hold r a v).gauges = s.gauges := by obtain ⟨x, h⟩ := State.hold_eq s r a v; rw [h]
@[simp] theorem State.hold_blz : (s.hold r a v).blz = s.blz := by obtain ⟨x, h⟩ := State.hold_eq s r a v; rw [h]
@[simp] theorem State.hold_pair : (s.hold r a v).pair = s.pair := by obtain ⟨x, h⟩ := State.hold_eq s r a v; rw [h]
@[simp] theorem State.hold_meter : (s.hold r a v).meter = s.meter := by obtain ⟨x, h⟩ := State.hold_eq s r a v; rw [h]
@[simp] theorem State.hold_power : (s.hold r a v).power = s.power := by obtain ⟨x, h⟩ := State.hold_eq s r a v; rw [h]
@[simp] theorem State.hold_freeCtr : (s.hold r a v).freeCtr = s.freeCtr := by obtain ⟨x, h⟩ := State.hold_eq s r a v; rw [h]
@[simp] theorem State.hold_pending : (s.hold r a v).pending = s.pending := by obtain ⟨x, h⟩ := State.hold_eq s r a v; rw [h]
@[simp] theorem State.rd_hold (k : Nat) : (s.hold r a v).rd k = s.rd k := by obtain ⟨x, h⟩ := State.hold_eq s r a v; rw [h]; rfl
@[simp] theorem State.mb_hold (k : Nat) : (s.hold r a v).mb k = s.mb k := by obtain ⟨x, h⟩ := State.hold_eq s r a v; rw [h]; rfl
@[simp] theorem State.ind_hold (k : Nat) : (s.hold r a v).ind k = s.ind k := by obtain ⟨x, h⟩ := State.hold_eq s r a v; rw [h]; rfl
@[simp] theorem State.link_hold (k : Nat) : (s.hold r a v).link k = s.link k := by obtain ⟨x, h⟩ := State.hold_eq s r a v; rw [h]; rfl
@[simp] theorem State.lane_hold (k : Nat) : (s.hold r a v).lane k = s.lane k := by obtain ⟨x, h⟩ := State.hold_eq s r a v; rw [h]; rfl
@[simp] theorem State.tracker_hold (k : Nat) : (s.hold r a v).tracker k = s.tracker k := by obtain ⟨x, h⟩ := State.hold_eq s r a v; rw [h]; rfl
@[simp] theorem State.fpd_hold (k : Nat) : (s.hold r a v).fpd k = s.fpd k := by obtain ⟨x, h⟩ := State.hold_eq s r a v; rw [h]; rfl
@[simp] theorem State.det_hold (k : Nat) : (s.hold r a v).det k = s.det k := by obtain ⟨x, h⟩ := State.hold_eq s r a v; rw [h]; rfl
@[simp] theorem State.pin_hold (k : Nat) : (s.hold r a v).pin k = s.pin k := by obtain ⟨x, h⟩ := State.hold_eq s r a v; rw [h]; rfl
@[simp] theorem State.alm_hold (k : Nat) : (s.hold r a v).alm k = s.alm k := by obtain ⟨x, h⟩ := State.hold_eq s r a v; rw [h]; rfl
@[simp] theorem State.bucket_hold (k : Nat) : (s.hold r a v).bucket k = s.bucket k := by obtain ⟨x, h⟩ := State.hold_eq s r a v; rw [h]; rfl
@[simp] theorem State.clPhase_hold (k : Nat) : (s.hold r a v).clPhase k = s.clPhase k := by obtain ⟨x, h⟩ := State.hold_eq s r a v; rw [h]; rfl
@[simp] theorem State.claim_hold (k : Nat) : (s.hold r a v).claim k = s.claim k := by obtain ⟨x, h⟩ := State.hold_eq s r a v; rw [h]; rfl
@[simp] theorem State.can_hold (k : Nat) : (s.hold r a v).can k = s.can k := by obtain ⟨x, h⟩ := State.hold_eq s r a v; rw [h]; rfl
@[simp] theorem State.supBits_hold (k : Nat) : (s.hold r a v).supBits k = s.supBits k := by obtain ⟨x, h⟩ := State.hold_eq s r a v; rw [h]; rfl
@[simp] theorem State.eff_hold (k : Nat) : (s.hold r a v).eff k = s.eff k := by obtain ⟨x, h⟩ := State.hold_eq s r a v; rw [h]; rfl
@[simp] theorem State.core_hold (k : Nat) : (s.hold r a v).core k = s.core k := by obtain ⟨x, h⟩ := State.hold_eq s r a v; rw [h]; rfl
@[simp] theorem State.elem_hold (k : Nat) : (s.hold r a v).elem k = s.elem k := by obtain ⟨x, h⟩ := State.hold_eq s r a v; rw [h]; rfl
@[simp] theorem State.sup_hold (k : Nat) : (s.hold r a v).sup k = s.sup k := by obtain ⟨x, h⟩ := State.hold_eq s r a v; rw [h]; rfl
@[simp] theorem State.line_hold (k : Nat) : (s.hold r a v).line k = s.line k := by obtain ⟨x, h⟩ := State.hold_eq s r a v; rw [h]; rfl
@[simp] theorem State.blzU_hold (k : Nat) : (s.hold r a v).blzU k = s.blzU k := by obtain ⟨x, h⟩ := State.hold_eq s r a v; rw [h]; rfl
@[simp] theorem State.gauge_hold (k : Nat) : (s.hold r a v).gauge k = s.gauge k := by obtain ⟨x, h⟩ := State.hold_eq s r a v; rw [h]; rfl
@[simp] theorem State.rcu_hold (k : Nat) : (s.hold r a v).rcu k = s.rcu k := by obtain ⟨x, h⟩ := State.hold_eq s r a v; rw [h]; rfl
@[simp] theorem State.wbu_hold (k : Nat) : (s.hold r a v).wbu k = s.wbu k := by obtain ⟨x, h⟩ := State.hold_eq s r a v; rw [h]; rfl
end

section
variable (s : State) (a : Nat) (v : BitVec 64)
@[simp] theorem State.setSupPend_regs : (s.setSupPend a v).regs = s.regs := rfl
@[simp] theorem State.setSupPend_mram : (s.setSupPend a v).mram = s.mram := rfl
@[simp] theorem State.setSupPend_claims : (s.setSupPend a v).claims = s.claims := rfl
@[simp] theorem State.setSupPend_ended : (s.setSupPend a v).ended = s.ended := rfl
@[simp] theorem State.setSupPend_rsp : (s.setSupPend a v).rsp = s.rsp := rfl
@[simp] theorem State.setSupPend_spiOut : (s.setSupPend a v).spiOut = s.spiOut := rfl
@[simp] theorem State.setSupPend_snaps : (s.setSupPend a v).snaps = s.snaps := rfl
@[simp] theorem State.setSupPend_holds : (s.setSupPend a v).holds = s.holds := rfl
@[simp] theorem State.setSupPend_inds : (s.setSupPend a v).inds = s.inds := rfl
@[simp] theorem State.setSupPend_hbiReady : (s.setSupPend a v).hbiReady = s.hbiReady := rfl
@[simp] theorem State.setSupPend_links : (s.setSupPend a v).links = s.links := rfl
@[simp] theorem State.setSupPend_mramErr : (s.setSupPend a v).mramErr = s.mramErr := rfl
@[simp] theorem State.setSupPend_mramOut : (s.setSupPend a v).mramOut = s.mramOut := rfl
@[simp] theorem State.setSupPend_tally : (s.setSupPend a v).tally = s.tally := rfl
@[simp] theorem State.setSupPend_buckets : (s.setSupPend a v).buckets = s.buckets := rfl
@[simp] theorem State.setSupPend_tb : (s.setSupPend a v).tb = s.tb := rfl
@[simp] theorem State.setSupPend_alms : (s.setSupPend a v).alms = s.alms := rfl
@[simp] theorem State.setSupPend_pins : (s.setSupPend a v).pins = s.pins := rfl
@[simp] theorem State.setSupPend_tick : (s.setSupPend a v).tick = s.tick := rfl
@[simp] theorem State.setSupPend_stepFlag : (s.setSupPend a v).stepFlag = s.stepFlag := rfl
@[simp] theorem State.setSupPend_phase : (s.setSupPend a v).phase = s.phase := rfl
@[simp] theorem State.setSupPend_lanes : (s.setSupPend a v).lanes = s.lanes := rfl
@[simp] theorem State.setSupPend_clSrc : (s.setSupPend a v).clSrc = s.clSrc := rfl
@[simp] theorem State.setSupPend_expect : (s.setSupPend a v).expect = s.expect := rfl
@[simp] theorem State.setSupPend_late : (s.setSupPend a v).late = s.late := rfl
@[simp] theorem State.setSupPend_trk : (s.setSupPend a v).trk = s.trk := rfl
@[simp] theorem State.setSupPend_fpds : (s.setSupPend a v).fpds = s.fpds := rfl
@[simp] theorem State.setSupPend_dets : (s.setSupPend a v).dets = s.dets := rfl
@[simp] theorem State.setSupPend_light : (s.setSupPend a v).light = s.light := rfl
@[simp] theorem State.setSupPend_heldRegs : (s.setSupPend a v).heldRegs = s.heldRegs := rfl
@[simp] theorem State.setSupPend_cores : (s.setSupPend a v).cores = s.cores := rfl
@[simp] theorem State.setSupPend_elems : (s.setSupPend a v).elems = s.elems := rfl
@[simp] theorem State.setSupPend_sups : (s.setSupPend a v).sups = s.sups := rfl
@[simp] theorem State.setSupPend_inForce : (s.setSupPend a v).inForce = s.inForce := rfl
@[simp] theorem State.setSupPend_cans : (s.setSupPend a v).cans = s.cans := rfl
@[simp] theorem State.setSupPend_eth : (s.setSupPend a v).eth = s.eth := rfl
@[simp] theorem State.setSupPend_field_ : (s.setSupPend a v).field_ = s.field_ := rfl
@[simp] theorem State.setSupPend_fio : (s.setSupPend a v).fio = s.fio := rfl
@[simp] theorem State.setSupPend_lines : (s.setSupPend a v).lines = s.lines := rfl
@[simp] theorem State.setSupPend_tripKey : (s.setSupPend a v).tripKey = s.tripKey := rfl
@[simp] theorem State.setSupPend_lathe : (s.setSupPend a v).lathe = s.lathe := rfl
@[simp] theorem State.setSupPend_ticks : (s.setSupPend a v).ticks = s.ticks := rfl
@[simp] theorem State.setSupPend_recs : (s.setSupPend a v).recs = s.recs := rfl
@[simp] theorem State.setSupPend_wbs : (s.setSupPend a v).wbs = s.wbs := rfl
@[simp] theorem State.setSupPend_gauges : (s.setSupPend a v).gauges = s.gauges := rfl
@[simp] theorem State.setSupPend_blz : (s.setSupPend a v).blz = s.blz := rfl
@[simp] theorem State.setSupPend_pair : (s.setSupPend a v).pair = s.pair := rfl
@[simp] theorem State.setSupPend_meter : (s.setSupPend a v).meter = s.meter := rfl
@[simp] theorem State.setSupPend_power : (s.setSupPend a v).power = s.power := rfl
@[simp] theorem State.setSupPend_freeCtr : (s.setSupPend a v).freeCtr = s.freeCtr := rfl
@[simp] theorem State.setSupPend_pending : (s.setSupPend a v).pending = s.pending := rfl
@[simp] theorem State.rd_setSupPend (k : Nat) : (s.setSupPend a v).rd k = s.rd k := rfl
@[simp] theorem State.mb_setSupPend (k : Nat) : (s.setSupPend a v).mb k = s.mb k := rfl
@[simp] theorem State.ind_setSupPend (k : Nat) : (s.setSupPend a v).ind k = s.ind k := rfl
@[simp] theorem State.link_setSupPend (k : Nat) : (s.setSupPend a v).link k = s.link k := rfl
@[simp] theorem State.lane_setSupPend (k : Nat) : (s.setSupPend a v).lane k = s.lane k := rfl
@[simp] theorem State.tracker_setSupPend (k : Nat) : (s.setSupPend a v).tracker k = s.tracker k := rfl
@[simp] theorem State.fpd_setSupPend (k : Nat) : (s.setSupPend a v).fpd k = s.fpd k := rfl
@[simp] theorem State.det_setSupPend (k : Nat) : (s.setSupPend a v).det k = s.det k := rfl
@[simp] theorem State.pin_setSupPend (k : Nat) : (s.setSupPend a v).pin k = s.pin k := rfl
@[simp] theorem State.alm_setSupPend (k : Nat) : (s.setSupPend a v).alm k = s.alm k := rfl
@[simp] theorem State.bucket_setSupPend (k : Nat) : (s.setSupPend a v).bucket k = s.bucket k := rfl
@[simp] theorem State.clPhase_setSupPend (k : Nat) : (s.setSupPend a v).clPhase k = s.clPhase k := rfl
@[simp] theorem State.claim_setSupPend (k : Nat) : (s.setSupPend a v).claim k = s.claim k := rfl
@[simp] theorem State.can_setSupPend (k : Nat) : (s.setSupPend a v).can k = s.can k := rfl
@[simp] theorem State.supBits_setSupPend (k : Nat) : (s.setSupPend a v).supBits k = if a = k then v else s.supBits k := SMap.get_set _ _ _ _ _
@[simp] theorem State.eff_setSupPend (k : Nat) : (s.setSupPend a v).eff k = s.eff k := rfl
@[simp] theorem State.core_setSupPend (k : Nat) : (s.setSupPend a v).core k = s.core k := rfl
@[simp] theorem State.elem_setSupPend (k : Nat) : (s.setSupPend a v).elem k = s.elem k := rfl
@[simp] theorem State.sup_setSupPend (k : Nat) : (s.setSupPend a v).sup k = s.sup k := rfl
@[simp] theorem State.line_setSupPend (k : Nat) : (s.setSupPend a v).line k = s.line k := rfl
@[simp] theorem State.blzU_setSupPend (k : Nat) : (s.setSupPend a v).blzU k = s.blzU k := rfl
@[simp] theorem State.gauge_setSupPend (k : Nat) : (s.setSupPend a v).gauge k = s.gauge k := rfl
@[simp] theorem State.rcu_setSupPend (k : Nat) : (s.setSupPend a v).rcu k = s.rcu k := rfl
@[simp] theorem State.wbu_setSupPend (k : Nat) : (s.setSupPend a v).wbu k = s.wbu k := rfl
end

section
variable (s : State) (a : Nat) (v : Word)
@[simp] theorem State.setEff_regs : (s.setEff a v).regs = s.regs := rfl
@[simp] theorem State.setEff_mram : (s.setEff a v).mram = s.mram := rfl
@[simp] theorem State.setEff_claims : (s.setEff a v).claims = s.claims := rfl
@[simp] theorem State.setEff_ended : (s.setEff a v).ended = s.ended := rfl
@[simp] theorem State.setEff_rsp : (s.setEff a v).rsp = s.rsp := rfl
@[simp] theorem State.setEff_spiOut : (s.setEff a v).spiOut = s.spiOut := rfl
@[simp] theorem State.setEff_snaps : (s.setEff a v).snaps = s.snaps := rfl
@[simp] theorem State.setEff_holds : (s.setEff a v).holds = s.holds := rfl
@[simp] theorem State.setEff_inds : (s.setEff a v).inds = s.inds := rfl
@[simp] theorem State.setEff_hbiReady : (s.setEff a v).hbiReady = s.hbiReady := rfl
@[simp] theorem State.setEff_supPend : (s.setEff a v).supPend = s.supPend := rfl
@[simp] theorem State.setEff_links : (s.setEff a v).links = s.links := rfl
@[simp] theorem State.setEff_mramErr : (s.setEff a v).mramErr = s.mramErr := rfl
@[simp] theorem State.setEff_mramOut : (s.setEff a v).mramOut = s.mramOut := rfl
@[simp] theorem State.setEff_tally : (s.setEff a v).tally = s.tally := rfl
@[simp] theorem State.setEff_buckets : (s.setEff a v).buckets = s.buckets := rfl
@[simp] theorem State.setEff_tb : (s.setEff a v).tb = s.tb := rfl
@[simp] theorem State.setEff_alms : (s.setEff a v).alms = s.alms := rfl
@[simp] theorem State.setEff_pins : (s.setEff a v).pins = s.pins := rfl
@[simp] theorem State.setEff_tick : (s.setEff a v).tick = s.tick := rfl
@[simp] theorem State.setEff_stepFlag : (s.setEff a v).stepFlag = s.stepFlag := rfl
@[simp] theorem State.setEff_phase : (s.setEff a v).phase = s.phase := rfl
@[simp] theorem State.setEff_lanes : (s.setEff a v).lanes = s.lanes := rfl
@[simp] theorem State.setEff_clSrc : (s.setEff a v).clSrc = s.clSrc := rfl
@[simp] theorem State.setEff_expect : (s.setEff a v).expect = s.expect := rfl
@[simp] theorem State.setEff_late : (s.setEff a v).late = s.late := rfl
@[simp] theorem State.setEff_trk : (s.setEff a v).trk = s.trk := rfl
@[simp] theorem State.setEff_fpds : (s.setEff a v).fpds = s.fpds := rfl
@[simp] theorem State.setEff_dets : (s.setEff a v).dets = s.dets := rfl
@[simp] theorem State.setEff_light : (s.setEff a v).light = s.light := rfl
@[simp] theorem State.setEff_heldRegs : (s.setEff a v).heldRegs = s.heldRegs := rfl
@[simp] theorem State.setEff_cores : (s.setEff a v).cores = s.cores := rfl
@[simp] theorem State.setEff_elems : (s.setEff a v).elems = s.elems := rfl
@[simp] theorem State.setEff_sups : (s.setEff a v).sups = s.sups := rfl
@[simp] theorem State.setEff_cans : (s.setEff a v).cans = s.cans := rfl
@[simp] theorem State.setEff_eth : (s.setEff a v).eth = s.eth := rfl
@[simp] theorem State.setEff_field_ : (s.setEff a v).field_ = s.field_ := rfl
@[simp] theorem State.setEff_fio : (s.setEff a v).fio = s.fio := rfl
@[simp] theorem State.setEff_lines : (s.setEff a v).lines = s.lines := rfl
@[simp] theorem State.setEff_tripKey : (s.setEff a v).tripKey = s.tripKey := rfl
@[simp] theorem State.setEff_lathe : (s.setEff a v).lathe = s.lathe := rfl
@[simp] theorem State.setEff_ticks : (s.setEff a v).ticks = s.ticks := rfl
@[simp] theorem State.setEff_recs : (s.setEff a v).recs = s.recs := rfl
@[simp] theorem State.setEff_wbs : (s.setEff a v).wbs = s.wbs := rfl
@[simp] theorem State.setEff_gauges : (s.setEff a v).gauges = s.gauges := rfl
@[simp] theorem State.setEff_blz : (s.setEff a v).blz = s.blz := rfl
@[simp] theorem State.setEff_pair : (s.setEff a v).pair = s.pair := rfl
@[simp] theorem State.setEff_meter : (s.setEff a v).meter = s.meter := rfl
@[simp] theorem State.setEff_power : (s.setEff a v).power = s.power := rfl
@[simp] theorem State.setEff_freeCtr : (s.setEff a v).freeCtr = s.freeCtr := rfl
@[simp] theorem State.setEff_pending : (s.setEff a v).pending = s.pending := rfl
@[simp] theorem State.rd_setEff (k : Nat) : (s.setEff a v).rd k = s.rd k := rfl
@[simp] theorem State.mb_setEff (k : Nat) : (s.setEff a v).mb k = s.mb k := rfl
@[simp] theorem State.ind_setEff (k : Nat) : (s.setEff a v).ind k = s.ind k := rfl
@[simp] theorem State.link_setEff (k : Nat) : (s.setEff a v).link k = s.link k := rfl
@[simp] theorem State.lane_setEff (k : Nat) : (s.setEff a v).lane k = s.lane k := rfl
@[simp] theorem State.tracker_setEff (k : Nat) : (s.setEff a v).tracker k = s.tracker k := rfl
@[simp] theorem State.fpd_setEff (k : Nat) : (s.setEff a v).fpd k = s.fpd k := rfl
@[simp] theorem State.det_setEff (k : Nat) : (s.setEff a v).det k = s.det k := rfl
@[simp] theorem State.pin_setEff (k : Nat) : (s.setEff a v).pin k = s.pin k := rfl
@[simp] theorem State.alm_setEff (k : Nat) : (s.setEff a v).alm k = s.alm k := rfl
@[simp] theorem State.bucket_setEff (k : Nat) : (s.setEff a v).bucket k = s.bucket k := rfl
@[simp] theorem State.clPhase_setEff (k : Nat) : (s.setEff a v).clPhase k = s.clPhase k := rfl
@[simp] theorem State.claim_setEff (k : Nat) : (s.setEff a v).claim k = s.claim k := rfl
@[simp] theorem State.can_setEff (k : Nat) : (s.setEff a v).can k = s.can k := rfl
@[simp] theorem State.supBits_setEff (k : Nat) : (s.setEff a v).supBits k = s.supBits k := rfl
@[simp] theorem State.eff_setEff (k : Nat) : (s.setEff a v).eff k = if a = k then v else s.eff k := SMap.get_set _ _ _ _ _
@[simp] theorem State.core_setEff (k : Nat) : (s.setEff a v).core k = s.core k := rfl
@[simp] theorem State.elem_setEff (k : Nat) : (s.setEff a v).elem k = s.elem k := rfl
@[simp] theorem State.sup_setEff (k : Nat) : (s.setEff a v).sup k = s.sup k := rfl
@[simp] theorem State.line_setEff (k : Nat) : (s.setEff a v).line k = s.line k := rfl
@[simp] theorem State.blzU_setEff (k : Nat) : (s.setEff a v).blzU k = s.blzU k := rfl
@[simp] theorem State.gauge_setEff (k : Nat) : (s.setEff a v).gauge k = s.gauge k := rfl
@[simp] theorem State.rcu_setEff (k : Nat) : (s.setEff a v).rcu k = s.rcu k := rfl
@[simp] theorem State.wbu_setEff (k : Nat) : (s.setEff a v).wbu k = s.wbu k := rfl
end

section
variable (s : State)
@[simp] theorem State.drew_regs : (s.drew).regs = s.regs := rfl
@[simp] theorem State.drew_mram : (s.drew).mram = s.mram := rfl
@[simp] theorem State.drew_claims : (s.drew).claims = s.claims := rfl
@[simp] theorem State.drew_ended : (s.drew).ended = s.ended := rfl
@[simp] theorem State.drew_rsp : (s.drew).rsp = s.rsp := rfl
@[simp] theorem State.drew_spiOut : (s.drew).spiOut = s.spiOut := rfl
@[simp] theorem State.drew_snaps : (s.drew).snaps = s.snaps := rfl
@[simp] theorem State.drew_holds : (s.drew).holds = s.holds := rfl
@[simp] theorem State.drew_inds : (s.drew).inds = s.inds := rfl
@[simp] theorem State.drew_hbiReady : (s.drew).hbiReady = s.hbiReady := rfl
@[simp] theorem State.drew_supPend : (s.drew).supPend = s.supPend := rfl
@[simp] theorem State.drew_links : (s.drew).links = s.links := rfl
@[simp] theorem State.drew_mramErr : (s.drew).mramErr = s.mramErr := rfl
@[simp] theorem State.drew_mramOut : (s.drew).mramOut = s.mramOut := rfl
@[simp] theorem State.drew_tally : (s.drew).tally = s.tally := rfl
@[simp] theorem State.drew_buckets : (s.drew).buckets = s.buckets := rfl
@[simp] theorem State.drew_tb : (s.drew).tb = s.tb := rfl
@[simp] theorem State.drew_alms : (s.drew).alms = s.alms := rfl
@[simp] theorem State.drew_pins : (s.drew).pins = s.pins := rfl
@[simp] theorem State.drew_tick : (s.drew).tick = s.tick := rfl
@[simp] theorem State.drew_stepFlag : (s.drew).stepFlag = s.stepFlag := rfl
@[simp] theorem State.drew_phase : (s.drew).phase = s.phase := rfl
@[simp] theorem State.drew_lanes : (s.drew).lanes = s.lanes := rfl
@[simp] theorem State.drew_clSrc : (s.drew).clSrc = s.clSrc := rfl
@[simp] theorem State.drew_expect : (s.drew).expect = s.expect := rfl
@[simp] theorem State.drew_late : (s.drew).late = s.late := rfl
@[simp] theorem State.drew_trk : (s.drew).trk = s.trk := rfl
@[simp] theorem State.drew_fpds : (s.drew).fpds = s.fpds := rfl
@[simp] theorem State.drew_dets : (s.drew).dets = s.dets := rfl
@[simp] theorem State.drew_light : (s.drew).light = s.light := rfl
@[simp] theorem State.drew_heldRegs : (s.drew).heldRegs = s.heldRegs := rfl
@[simp] theorem State.drew_cores : (s.drew).cores = s.cores := rfl
@[simp] theorem State.drew_elems : (s.drew).elems = s.elems := rfl
@[simp] theorem State.drew_sups : (s.drew).sups = s.sups := rfl
@[simp] theorem State.drew_inForce : (s.drew).inForce = s.inForce := rfl
@[simp] theorem State.drew_cans : (s.drew).cans = s.cans := rfl
@[simp] theorem State.drew_eth : (s.drew).eth = s.eth := rfl
@[simp] theorem State.drew_field_ : (s.drew).field_ = s.field_ := rfl
@[simp] theorem State.drew_fio : (s.drew).fio = s.fio := rfl
@[simp] theorem State.drew_lines : (s.drew).lines = s.lines := rfl
@[simp] theorem State.drew_tripKey : (s.drew).tripKey = s.tripKey := rfl
@[simp] theorem State.drew_lathe : (s.drew).lathe = s.lathe := rfl
@[simp] theorem State.drew_ticks : (s.drew).ticks = s.ticks := rfl
@[simp] theorem State.drew_recs : (s.drew).recs = s.recs := rfl
@[simp] theorem State.drew_wbs : (s.drew).wbs = s.wbs := rfl
@[simp] theorem State.drew_gauges : (s.drew).gauges = s.gauges := rfl
@[simp] theorem State.drew_blz : (s.drew).blz = s.blz := rfl
@[simp] theorem State.drew_pair : (s.drew).pair = s.pair := rfl
@[simp] theorem State.drew_meter : (s.drew).meter = s.meter := rfl
@[simp] theorem State.drew_power : (s.drew).power = s.power := rfl
@[simp] theorem State.drew_pending : (s.drew).pending = s.pending := rfl
@[simp] theorem State.rd_drew (k : Nat) : (s.drew).rd k = s.rd k := rfl
@[simp] theorem State.mb_drew (k : Nat) : (s.drew).mb k = s.mb k := rfl
@[simp] theorem State.ind_drew (k : Nat) : (s.drew).ind k = s.ind k := rfl
@[simp] theorem State.link_drew (k : Nat) : (s.drew).link k = s.link k := rfl
@[simp] theorem State.lane_drew (k : Nat) : (s.drew).lane k = s.lane k := rfl
@[simp] theorem State.tracker_drew (k : Nat) : (s.drew).tracker k = s.tracker k := rfl
@[simp] theorem State.fpd_drew (k : Nat) : (s.drew).fpd k = s.fpd k := rfl
@[simp] theorem State.det_drew (k : Nat) : (s.drew).det k = s.det k := rfl
@[simp] theorem State.pin_drew (k : Nat) : (s.drew).pin k = s.pin k := rfl
@[simp] theorem State.alm_drew (k : Nat) : (s.drew).alm k = s.alm k := rfl
@[simp] theorem State.bucket_drew (k : Nat) : (s.drew).bucket k = s.bucket k := rfl
@[simp] theorem State.clPhase_drew (k : Nat) : (s.drew).clPhase k = s.clPhase k := rfl
@[simp] theorem State.claim_drew (k : Nat) : (s.drew).claim k = s.claim k := rfl
@[simp] theorem State.can_drew (k : Nat) : (s.drew).can k = s.can k := rfl
@[simp] theorem State.supBits_drew (k : Nat) : (s.drew).supBits k = s.supBits k := rfl
@[simp] theorem State.eff_drew (k : Nat) : (s.drew).eff k = s.eff k := rfl
@[simp] theorem State.core_drew (k : Nat) : (s.drew).core k = s.core k := rfl
@[simp] theorem State.elem_drew (k : Nat) : (s.drew).elem k = s.elem k := rfl
@[simp] theorem State.sup_drew (k : Nat) : (s.drew).sup k = s.sup k := rfl
@[simp] theorem State.line_drew (k : Nat) : (s.drew).line k = s.line k := rfl
@[simp] theorem State.blzU_drew (k : Nat) : (s.drew).blzU k = s.blzU k := rfl
@[simp] theorem State.gauge_drew (k : Nat) : (s.drew).gauge k = s.gauge k := rfl
@[simp] theorem State.rcu_drew (k : Nat) : (s.drew).rcu k = s.rcu k := rfl
@[simp] theorem State.wbu_drew (k : Nat) : (s.drew).wbu k = s.wbu k := rfl
end

section
variable (s : State) (a : Nat) (v : Core)
@[simp] theorem State.setCore_regs : (s.setCore a v).regs = s.regs := rfl
@[simp] theorem State.setCore_mram : (s.setCore a v).mram = s.mram := rfl
@[simp] theorem State.setCore_claims : (s.setCore a v).claims = s.claims := rfl
@[simp] theorem State.setCore_ended : (s.setCore a v).ended = s.ended := rfl
@[simp] theorem State.setCore_rsp : (s.setCore a v).rsp = s.rsp := rfl
@[simp] theorem State.setCore_spiOut : (s.setCore a v).spiOut = s.spiOut := rfl
@[simp] theorem State.setCore_snaps : (s.setCore a v).snaps = s.snaps := rfl
@[simp] theorem State.setCore_holds : (s.setCore a v).holds = s.holds := rfl
@[simp] theorem State.setCore_inds : (s.setCore a v).inds = s.inds := rfl
@[simp] theorem State.setCore_hbiReady : (s.setCore a v).hbiReady = s.hbiReady := rfl
@[simp] theorem State.setCore_supPend : (s.setCore a v).supPend = s.supPend := rfl
@[simp] theorem State.setCore_links : (s.setCore a v).links = s.links := rfl
@[simp] theorem State.setCore_mramErr : (s.setCore a v).mramErr = s.mramErr := rfl
@[simp] theorem State.setCore_mramOut : (s.setCore a v).mramOut = s.mramOut := rfl
@[simp] theorem State.setCore_tally : (s.setCore a v).tally = s.tally := rfl
@[simp] theorem State.setCore_buckets : (s.setCore a v).buckets = s.buckets := rfl
@[simp] theorem State.setCore_tb : (s.setCore a v).tb = s.tb := rfl
@[simp] theorem State.setCore_alms : (s.setCore a v).alms = s.alms := rfl
@[simp] theorem State.setCore_pins : (s.setCore a v).pins = s.pins := rfl
@[simp] theorem State.setCore_tick : (s.setCore a v).tick = s.tick := rfl
@[simp] theorem State.setCore_stepFlag : (s.setCore a v).stepFlag = s.stepFlag := rfl
@[simp] theorem State.setCore_phase : (s.setCore a v).phase = s.phase := rfl
@[simp] theorem State.setCore_lanes : (s.setCore a v).lanes = s.lanes := rfl
@[simp] theorem State.setCore_clSrc : (s.setCore a v).clSrc = s.clSrc := rfl
@[simp] theorem State.setCore_expect : (s.setCore a v).expect = s.expect := rfl
@[simp] theorem State.setCore_late : (s.setCore a v).late = s.late := rfl
@[simp] theorem State.setCore_trk : (s.setCore a v).trk = s.trk := rfl
@[simp] theorem State.setCore_fpds : (s.setCore a v).fpds = s.fpds := rfl
@[simp] theorem State.setCore_dets : (s.setCore a v).dets = s.dets := rfl
@[simp] theorem State.setCore_light : (s.setCore a v).light = s.light := rfl
@[simp] theorem State.setCore_heldRegs : (s.setCore a v).heldRegs = s.heldRegs := rfl
@[simp] theorem State.setCore_elems : (s.setCore a v).elems = s.elems := rfl
@[simp] theorem State.setCore_sups : (s.setCore a v).sups = s.sups := rfl
@[simp] theorem State.setCore_inForce : (s.setCore a v).inForce = s.inForce := rfl
@[simp] theorem State.setCore_cans : (s.setCore a v).cans = s.cans := rfl
@[simp] theorem State.setCore_eth : (s.setCore a v).eth = s.eth := rfl
@[simp] theorem State.setCore_field_ : (s.setCore a v).field_ = s.field_ := rfl
@[simp] theorem State.setCore_fio : (s.setCore a v).fio = s.fio := rfl
@[simp] theorem State.setCore_lines : (s.setCore a v).lines = s.lines := rfl
@[simp] theorem State.setCore_tripKey : (s.setCore a v).tripKey = s.tripKey := rfl
@[simp] theorem State.setCore_lathe : (s.setCore a v).lathe = s.lathe := rfl
@[simp] theorem State.setCore_ticks : (s.setCore a v).ticks = s.ticks := rfl
@[simp] theorem State.setCore_recs : (s.setCore a v).recs = s.recs := rfl
@[simp] theorem State.setCore_wbs : (s.setCore a v).wbs = s.wbs := rfl
@[simp] theorem State.setCore_gauges : (s.setCore a v).gauges = s.gauges := rfl
@[simp] theorem State.setCore_blz : (s.setCore a v).blz = s.blz := rfl
@[simp] theorem State.setCore_pair : (s.setCore a v).pair = s.pair := rfl
@[simp] theorem State.setCore_meter : (s.setCore a v).meter = s.meter := rfl
@[simp] theorem State.setCore_power : (s.setCore a v).power = s.power := rfl
@[simp] theorem State.setCore_freeCtr : (s.setCore a v).freeCtr = s.freeCtr := rfl
@[simp] theorem State.setCore_pending : (s.setCore a v).pending = s.pending := rfl
@[simp] theorem State.rd_setCore (k : Nat) : (s.setCore a v).rd k = s.rd k := rfl
@[simp] theorem State.mb_setCore (k : Nat) : (s.setCore a v).mb k = s.mb k := rfl
@[simp] theorem State.ind_setCore (k : Nat) : (s.setCore a v).ind k = s.ind k := rfl
@[simp] theorem State.link_setCore (k : Nat) : (s.setCore a v).link k = s.link k := rfl
@[simp] theorem State.lane_setCore (k : Nat) : (s.setCore a v).lane k = s.lane k := rfl
@[simp] theorem State.tracker_setCore (k : Nat) : (s.setCore a v).tracker k = s.tracker k := rfl
@[simp] theorem State.fpd_setCore (k : Nat) : (s.setCore a v).fpd k = s.fpd k := rfl
@[simp] theorem State.det_setCore (k : Nat) : (s.setCore a v).det k = s.det k := rfl
@[simp] theorem State.pin_setCore (k : Nat) : (s.setCore a v).pin k = s.pin k := rfl
@[simp] theorem State.alm_setCore (k : Nat) : (s.setCore a v).alm k = s.alm k := rfl
@[simp] theorem State.bucket_setCore (k : Nat) : (s.setCore a v).bucket k = s.bucket k := rfl
@[simp] theorem State.clPhase_setCore (k : Nat) : (s.setCore a v).clPhase k = s.clPhase k := rfl
@[simp] theorem State.claim_setCore (k : Nat) : (s.setCore a v).claim k = s.claim k := rfl
@[simp] theorem State.can_setCore (k : Nat) : (s.setCore a v).can k = s.can k := rfl
@[simp] theorem State.supBits_setCore (k : Nat) : (s.setCore a v).supBits k = s.supBits k := rfl
@[simp] theorem State.eff_setCore (k : Nat) : (s.setCore a v).eff k = s.eff k := rfl
@[simp] theorem State.core_setCore (k : Nat) : (s.setCore a v).core k = if a = k then v else s.core k := SMap.get_set _ _ _ _ _
@[simp] theorem State.elem_setCore (k : Nat) : (s.setCore a v).elem k = s.elem k := rfl
@[simp] theorem State.sup_setCore (k : Nat) : (s.setCore a v).sup k = s.sup k := rfl
@[simp] theorem State.line_setCore (k : Nat) : (s.setCore a v).line k = s.line k := rfl
@[simp] theorem State.blzU_setCore (k : Nat) : (s.setCore a v).blzU k = s.blzU k := rfl
@[simp] theorem State.gauge_setCore (k : Nat) : (s.setCore a v).gauge k = s.gauge k := rfl
@[simp] theorem State.rcu_setCore (k : Nat) : (s.setCore a v).rcu k = s.rcu k := rfl
@[simp] theorem State.wbu_setCore (k : Nat) : (s.setCore a v).wbu k = s.wbu k := rfl
end

section
variable (s : State) (a : Nat) (v : ElemU)
@[simp] theorem State.setElem_regs : (s.setElem a v).regs = s.regs := rfl
@[simp] theorem State.setElem_mram : (s.setElem a v).mram = s.mram := rfl
@[simp] theorem State.setElem_claims : (s.setElem a v).claims = s.claims := rfl
@[simp] theorem State.setElem_ended : (s.setElem a v).ended = s.ended := rfl
@[simp] theorem State.setElem_rsp : (s.setElem a v).rsp = s.rsp := rfl
@[simp] theorem State.setElem_spiOut : (s.setElem a v).spiOut = s.spiOut := rfl
@[simp] theorem State.setElem_snaps : (s.setElem a v).snaps = s.snaps := rfl
@[simp] theorem State.setElem_holds : (s.setElem a v).holds = s.holds := rfl
@[simp] theorem State.setElem_inds : (s.setElem a v).inds = s.inds := rfl
@[simp] theorem State.setElem_hbiReady : (s.setElem a v).hbiReady = s.hbiReady := rfl
@[simp] theorem State.setElem_supPend : (s.setElem a v).supPend = s.supPend := rfl
@[simp] theorem State.setElem_links : (s.setElem a v).links = s.links := rfl
@[simp] theorem State.setElem_mramErr : (s.setElem a v).mramErr = s.mramErr := rfl
@[simp] theorem State.setElem_mramOut : (s.setElem a v).mramOut = s.mramOut := rfl
@[simp] theorem State.setElem_tally : (s.setElem a v).tally = s.tally := rfl
@[simp] theorem State.setElem_buckets : (s.setElem a v).buckets = s.buckets := rfl
@[simp] theorem State.setElem_tb : (s.setElem a v).tb = s.tb := rfl
@[simp] theorem State.setElem_alms : (s.setElem a v).alms = s.alms := rfl
@[simp] theorem State.setElem_pins : (s.setElem a v).pins = s.pins := rfl
@[simp] theorem State.setElem_tick : (s.setElem a v).tick = s.tick := rfl
@[simp] theorem State.setElem_stepFlag : (s.setElem a v).stepFlag = s.stepFlag := rfl
@[simp] theorem State.setElem_phase : (s.setElem a v).phase = s.phase := rfl
@[simp] theorem State.setElem_lanes : (s.setElem a v).lanes = s.lanes := rfl
@[simp] theorem State.setElem_clSrc : (s.setElem a v).clSrc = s.clSrc := rfl
@[simp] theorem State.setElem_expect : (s.setElem a v).expect = s.expect := rfl
@[simp] theorem State.setElem_late : (s.setElem a v).late = s.late := rfl
@[simp] theorem State.setElem_trk : (s.setElem a v).trk = s.trk := rfl
@[simp] theorem State.setElem_fpds : (s.setElem a v).fpds = s.fpds := rfl
@[simp] theorem State.setElem_dets : (s.setElem a v).dets = s.dets := rfl
@[simp] theorem State.setElem_light : (s.setElem a v).light = s.light := rfl
@[simp] theorem State.setElem_heldRegs : (s.setElem a v).heldRegs = s.heldRegs := rfl
@[simp] theorem State.setElem_cores : (s.setElem a v).cores = s.cores := rfl
@[simp] theorem State.setElem_sups : (s.setElem a v).sups = s.sups := rfl
@[simp] theorem State.setElem_inForce : (s.setElem a v).inForce = s.inForce := rfl
@[simp] theorem State.setElem_cans : (s.setElem a v).cans = s.cans := rfl
@[simp] theorem State.setElem_eth : (s.setElem a v).eth = s.eth := rfl
@[simp] theorem State.setElem_field_ : (s.setElem a v).field_ = s.field_ := rfl
@[simp] theorem State.setElem_fio : (s.setElem a v).fio = s.fio := rfl
@[simp] theorem State.setElem_lines : (s.setElem a v).lines = s.lines := rfl
@[simp] theorem State.setElem_tripKey : (s.setElem a v).tripKey = s.tripKey := rfl
@[simp] theorem State.setElem_lathe : (s.setElem a v).lathe = s.lathe := rfl
@[simp] theorem State.setElem_ticks : (s.setElem a v).ticks = s.ticks := rfl
@[simp] theorem State.setElem_recs : (s.setElem a v).recs = s.recs := rfl
@[simp] theorem State.setElem_wbs : (s.setElem a v).wbs = s.wbs := rfl
@[simp] theorem State.setElem_gauges : (s.setElem a v).gauges = s.gauges := rfl
@[simp] theorem State.setElem_blz : (s.setElem a v).blz = s.blz := rfl
@[simp] theorem State.setElem_pair : (s.setElem a v).pair = s.pair := rfl
@[simp] theorem State.setElem_meter : (s.setElem a v).meter = s.meter := rfl
@[simp] theorem State.setElem_power : (s.setElem a v).power = s.power := rfl
@[simp] theorem State.setElem_freeCtr : (s.setElem a v).freeCtr = s.freeCtr := rfl
@[simp] theorem State.setElem_pending : (s.setElem a v).pending = s.pending := rfl
@[simp] theorem State.rd_setElem (k : Nat) : (s.setElem a v).rd k = s.rd k := rfl
@[simp] theorem State.mb_setElem (k : Nat) : (s.setElem a v).mb k = s.mb k := rfl
@[simp] theorem State.ind_setElem (k : Nat) : (s.setElem a v).ind k = s.ind k := rfl
@[simp] theorem State.link_setElem (k : Nat) : (s.setElem a v).link k = s.link k := rfl
@[simp] theorem State.lane_setElem (k : Nat) : (s.setElem a v).lane k = s.lane k := rfl
@[simp] theorem State.tracker_setElem (k : Nat) : (s.setElem a v).tracker k = s.tracker k := rfl
@[simp] theorem State.fpd_setElem (k : Nat) : (s.setElem a v).fpd k = s.fpd k := rfl
@[simp] theorem State.det_setElem (k : Nat) : (s.setElem a v).det k = s.det k := rfl
@[simp] theorem State.pin_setElem (k : Nat) : (s.setElem a v).pin k = s.pin k := rfl
@[simp] theorem State.alm_setElem (k : Nat) : (s.setElem a v).alm k = s.alm k := rfl
@[simp] theorem State.bucket_setElem (k : Nat) : (s.setElem a v).bucket k = s.bucket k := rfl
@[simp] theorem State.clPhase_setElem (k : Nat) : (s.setElem a v).clPhase k = s.clPhase k := rfl
@[simp] theorem State.claim_setElem (k : Nat) : (s.setElem a v).claim k = s.claim k := rfl
@[simp] theorem State.can_setElem (k : Nat) : (s.setElem a v).can k = s.can k := rfl
@[simp] theorem State.supBits_setElem (k : Nat) : (s.setElem a v).supBits k = s.supBits k := rfl
@[simp] theorem State.eff_setElem (k : Nat) : (s.setElem a v).eff k = s.eff k := rfl
@[simp] theorem State.core_setElem (k : Nat) : (s.setElem a v).core k = s.core k := rfl
@[simp] theorem State.elem_setElem (k : Nat) : (s.setElem a v).elem k = if a = k then v else s.elem k := SMap.get_set _ _ _ _ _
@[simp] theorem State.sup_setElem (k : Nat) : (s.setElem a v).sup k = s.sup k := rfl
@[simp] theorem State.line_setElem (k : Nat) : (s.setElem a v).line k = s.line k := rfl
@[simp] theorem State.blzU_setElem (k : Nat) : (s.setElem a v).blzU k = s.blzU k := rfl
@[simp] theorem State.gauge_setElem (k : Nat) : (s.setElem a v).gauge k = s.gauge k := rfl
@[simp] theorem State.rcu_setElem (k : Nat) : (s.setElem a v).rcu k = s.rcu k := rfl
@[simp] theorem State.wbu_setElem (k : Nat) : (s.setElem a v).wbu k = s.wbu k := rfl
end

section
variable (s : State) (a : Nat) (v : SupU)
@[simp] theorem State.setSup_regs : (s.setSup a v).regs = s.regs := rfl
@[simp] theorem State.setSup_mram : (s.setSup a v).mram = s.mram := rfl
@[simp] theorem State.setSup_claims : (s.setSup a v).claims = s.claims := rfl
@[simp] theorem State.setSup_ended : (s.setSup a v).ended = s.ended := rfl
@[simp] theorem State.setSup_rsp : (s.setSup a v).rsp = s.rsp := rfl
@[simp] theorem State.setSup_spiOut : (s.setSup a v).spiOut = s.spiOut := rfl
@[simp] theorem State.setSup_snaps : (s.setSup a v).snaps = s.snaps := rfl
@[simp] theorem State.setSup_holds : (s.setSup a v).holds = s.holds := rfl
@[simp] theorem State.setSup_inds : (s.setSup a v).inds = s.inds := rfl
@[simp] theorem State.setSup_hbiReady : (s.setSup a v).hbiReady = s.hbiReady := rfl
@[simp] theorem State.setSup_supPend : (s.setSup a v).supPend = s.supPend := rfl
@[simp] theorem State.setSup_links : (s.setSup a v).links = s.links := rfl
@[simp] theorem State.setSup_mramErr : (s.setSup a v).mramErr = s.mramErr := rfl
@[simp] theorem State.setSup_mramOut : (s.setSup a v).mramOut = s.mramOut := rfl
@[simp] theorem State.setSup_tally : (s.setSup a v).tally = s.tally := rfl
@[simp] theorem State.setSup_buckets : (s.setSup a v).buckets = s.buckets := rfl
@[simp] theorem State.setSup_tb : (s.setSup a v).tb = s.tb := rfl
@[simp] theorem State.setSup_alms : (s.setSup a v).alms = s.alms := rfl
@[simp] theorem State.setSup_pins : (s.setSup a v).pins = s.pins := rfl
@[simp] theorem State.setSup_tick : (s.setSup a v).tick = s.tick := rfl
@[simp] theorem State.setSup_stepFlag : (s.setSup a v).stepFlag = s.stepFlag := rfl
@[simp] theorem State.setSup_phase : (s.setSup a v).phase = s.phase := rfl
@[simp] theorem State.setSup_lanes : (s.setSup a v).lanes = s.lanes := rfl
@[simp] theorem State.setSup_clSrc : (s.setSup a v).clSrc = s.clSrc := rfl
@[simp] theorem State.setSup_expect : (s.setSup a v).expect = s.expect := rfl
@[simp] theorem State.setSup_late : (s.setSup a v).late = s.late := rfl
@[simp] theorem State.setSup_trk : (s.setSup a v).trk = s.trk := rfl
@[simp] theorem State.setSup_fpds : (s.setSup a v).fpds = s.fpds := rfl
@[simp] theorem State.setSup_dets : (s.setSup a v).dets = s.dets := rfl
@[simp] theorem State.setSup_light : (s.setSup a v).light = s.light := rfl
@[simp] theorem State.setSup_heldRegs : (s.setSup a v).heldRegs = s.heldRegs := rfl
@[simp] theorem State.setSup_cores : (s.setSup a v).cores = s.cores := rfl
@[simp] theorem State.setSup_elems : (s.setSup a v).elems = s.elems := rfl
@[simp] theorem State.setSup_inForce : (s.setSup a v).inForce = s.inForce := rfl
@[simp] theorem State.setSup_cans : (s.setSup a v).cans = s.cans := rfl
@[simp] theorem State.setSup_eth : (s.setSup a v).eth = s.eth := rfl
@[simp] theorem State.setSup_field_ : (s.setSup a v).field_ = s.field_ := rfl
@[simp] theorem State.setSup_fio : (s.setSup a v).fio = s.fio := rfl
@[simp] theorem State.setSup_lines : (s.setSup a v).lines = s.lines := rfl
@[simp] theorem State.setSup_tripKey : (s.setSup a v).tripKey = s.tripKey := rfl
@[simp] theorem State.setSup_lathe : (s.setSup a v).lathe = s.lathe := rfl
@[simp] theorem State.setSup_ticks : (s.setSup a v).ticks = s.ticks := rfl
@[simp] theorem State.setSup_recs : (s.setSup a v).recs = s.recs := rfl
@[simp] theorem State.setSup_wbs : (s.setSup a v).wbs = s.wbs := rfl
@[simp] theorem State.setSup_gauges : (s.setSup a v).gauges = s.gauges := rfl
@[simp] theorem State.setSup_blz : (s.setSup a v).blz = s.blz := rfl
@[simp] theorem State.setSup_pair : (s.setSup a v).pair = s.pair := rfl
@[simp] theorem State.setSup_meter : (s.setSup a v).meter = s.meter := rfl
@[simp] theorem State.setSup_power : (s.setSup a v).power = s.power := rfl
@[simp] theorem State.setSup_freeCtr : (s.setSup a v).freeCtr = s.freeCtr := rfl
@[simp] theorem State.setSup_pending : (s.setSup a v).pending = s.pending := rfl
@[simp] theorem State.rd_setSup (k : Nat) : (s.setSup a v).rd k = s.rd k := rfl
@[simp] theorem State.mb_setSup (k : Nat) : (s.setSup a v).mb k = s.mb k := rfl
@[simp] theorem State.ind_setSup (k : Nat) : (s.setSup a v).ind k = s.ind k := rfl
@[simp] theorem State.link_setSup (k : Nat) : (s.setSup a v).link k = s.link k := rfl
@[simp] theorem State.lane_setSup (k : Nat) : (s.setSup a v).lane k = s.lane k := rfl
@[simp] theorem State.tracker_setSup (k : Nat) : (s.setSup a v).tracker k = s.tracker k := rfl
@[simp] theorem State.fpd_setSup (k : Nat) : (s.setSup a v).fpd k = s.fpd k := rfl
@[simp] theorem State.det_setSup (k : Nat) : (s.setSup a v).det k = s.det k := rfl
@[simp] theorem State.pin_setSup (k : Nat) : (s.setSup a v).pin k = s.pin k := rfl
@[simp] theorem State.alm_setSup (k : Nat) : (s.setSup a v).alm k = s.alm k := rfl
@[simp] theorem State.bucket_setSup (k : Nat) : (s.setSup a v).bucket k = s.bucket k := rfl
@[simp] theorem State.clPhase_setSup (k : Nat) : (s.setSup a v).clPhase k = s.clPhase k := rfl
@[simp] theorem State.claim_setSup (k : Nat) : (s.setSup a v).claim k = s.claim k := rfl
@[simp] theorem State.can_setSup (k : Nat) : (s.setSup a v).can k = s.can k := rfl
@[simp] theorem State.supBits_setSup (k : Nat) : (s.setSup a v).supBits k = s.supBits k := rfl
@[simp] theorem State.eff_setSup (k : Nat) : (s.setSup a v).eff k = s.eff k := rfl
@[simp] theorem State.core_setSup (k : Nat) : (s.setSup a v).core k = s.core k := rfl
@[simp] theorem State.elem_setSup (k : Nat) : (s.setSup a v).elem k = s.elem k := rfl
@[simp] theorem State.sup_setSup (k : Nat) : (s.setSup a v).sup k = if a = k then v else s.sup k := SMap.get_set _ _ _ _ _
@[simp] theorem State.line_setSup (k : Nat) : (s.setSup a v).line k = s.line k := rfl
@[simp] theorem State.blzU_setSup (k : Nat) : (s.setSup a v).blzU k = s.blzU k := rfl
@[simp] theorem State.gauge_setSup (k : Nat) : (s.setSup a v).gauge k = s.gauge k := rfl
@[simp] theorem State.rcu_setSup (k : Nat) : (s.setSup a v).rcu k = s.rcu k := rfl
@[simp] theorem State.wbu_setSup (k : Nat) : (s.setSup a v).wbu k = s.wbu k := rfl
end

section
variable (s : State) (a : Nat) (v : TripLine)
@[simp] theorem State.setLine_regs : (s.setLine a v).regs = s.regs := rfl
@[simp] theorem State.setLine_mram : (s.setLine a v).mram = s.mram := rfl
@[simp] theorem State.setLine_claims : (s.setLine a v).claims = s.claims := rfl
@[simp] theorem State.setLine_ended : (s.setLine a v).ended = s.ended := rfl
@[simp] theorem State.setLine_rsp : (s.setLine a v).rsp = s.rsp := rfl
@[simp] theorem State.setLine_spiOut : (s.setLine a v).spiOut = s.spiOut := rfl
@[simp] theorem State.setLine_snaps : (s.setLine a v).snaps = s.snaps := rfl
@[simp] theorem State.setLine_holds : (s.setLine a v).holds = s.holds := rfl
@[simp] theorem State.setLine_inds : (s.setLine a v).inds = s.inds := rfl
@[simp] theorem State.setLine_hbiReady : (s.setLine a v).hbiReady = s.hbiReady := rfl
@[simp] theorem State.setLine_supPend : (s.setLine a v).supPend = s.supPend := rfl
@[simp] theorem State.setLine_links : (s.setLine a v).links = s.links := rfl
@[simp] theorem State.setLine_mramErr : (s.setLine a v).mramErr = s.mramErr := rfl
@[simp] theorem State.setLine_mramOut : (s.setLine a v).mramOut = s.mramOut := rfl
@[simp] theorem State.setLine_tally : (s.setLine a v).tally = s.tally := rfl
@[simp] theorem State.setLine_buckets : (s.setLine a v).buckets = s.buckets := rfl
@[simp] theorem State.setLine_tb : (s.setLine a v).tb = s.tb := rfl
@[simp] theorem State.setLine_alms : (s.setLine a v).alms = s.alms := rfl
@[simp] theorem State.setLine_pins : (s.setLine a v).pins = s.pins := rfl
@[simp] theorem State.setLine_tick : (s.setLine a v).tick = s.tick := rfl
@[simp] theorem State.setLine_stepFlag : (s.setLine a v).stepFlag = s.stepFlag := rfl
@[simp] theorem State.setLine_phase : (s.setLine a v).phase = s.phase := rfl
@[simp] theorem State.setLine_lanes : (s.setLine a v).lanes = s.lanes := rfl
@[simp] theorem State.setLine_clSrc : (s.setLine a v).clSrc = s.clSrc := rfl
@[simp] theorem State.setLine_expect : (s.setLine a v).expect = s.expect := rfl
@[simp] theorem State.setLine_late : (s.setLine a v).late = s.late := rfl
@[simp] theorem State.setLine_trk : (s.setLine a v).trk = s.trk := rfl
@[simp] theorem State.setLine_fpds : (s.setLine a v).fpds = s.fpds := rfl
@[simp] theorem State.setLine_dets : (s.setLine a v).dets = s.dets := rfl
@[simp] theorem State.setLine_light : (s.setLine a v).light = s.light := rfl
@[simp] theorem State.setLine_heldRegs : (s.setLine a v).heldRegs = s.heldRegs := rfl
@[simp] theorem State.setLine_cores : (s.setLine a v).cores = s.cores := rfl
@[simp] theorem State.setLine_elems : (s.setLine a v).elems = s.elems := rfl
@[simp] theorem State.setLine_sups : (s.setLine a v).sups = s.sups := rfl
@[simp] theorem State.setLine_inForce : (s.setLine a v).inForce = s.inForce := rfl
@[simp] theorem State.setLine_cans : (s.setLine a v).cans = s.cans := rfl
@[simp] theorem State.setLine_eth : (s.setLine a v).eth = s.eth := rfl
@[simp] theorem State.setLine_field_ : (s.setLine a v).field_ = s.field_ := rfl
@[simp] theorem State.setLine_fio : (s.setLine a v).fio = s.fio := rfl
@[simp] theorem State.setLine_tripKey : (s.setLine a v).tripKey = s.tripKey := rfl
@[simp] theorem State.setLine_lathe : (s.setLine a v).lathe = s.lathe := rfl
@[simp] theorem State.setLine_ticks : (s.setLine a v).ticks = s.ticks := rfl
@[simp] theorem State.setLine_recs : (s.setLine a v).recs = s.recs := rfl
@[simp] theorem State.setLine_wbs : (s.setLine a v).wbs = s.wbs := rfl
@[simp] theorem State.setLine_gauges : (s.setLine a v).gauges = s.gauges := rfl
@[simp] theorem State.setLine_blz : (s.setLine a v).blz = s.blz := rfl
@[simp] theorem State.setLine_pair : (s.setLine a v).pair = s.pair := rfl
@[simp] theorem State.setLine_meter : (s.setLine a v).meter = s.meter := rfl
@[simp] theorem State.setLine_power : (s.setLine a v).power = s.power := rfl
@[simp] theorem State.setLine_freeCtr : (s.setLine a v).freeCtr = s.freeCtr := rfl
@[simp] theorem State.setLine_pending : (s.setLine a v).pending = s.pending := rfl
@[simp] theorem State.rd_setLine (k : Nat) : (s.setLine a v).rd k = s.rd k := rfl
@[simp] theorem State.mb_setLine (k : Nat) : (s.setLine a v).mb k = s.mb k := rfl
@[simp] theorem State.ind_setLine (k : Nat) : (s.setLine a v).ind k = s.ind k := rfl
@[simp] theorem State.link_setLine (k : Nat) : (s.setLine a v).link k = s.link k := rfl
@[simp] theorem State.lane_setLine (k : Nat) : (s.setLine a v).lane k = s.lane k := rfl
@[simp] theorem State.tracker_setLine (k : Nat) : (s.setLine a v).tracker k = s.tracker k := rfl
@[simp] theorem State.fpd_setLine (k : Nat) : (s.setLine a v).fpd k = s.fpd k := rfl
@[simp] theorem State.det_setLine (k : Nat) : (s.setLine a v).det k = s.det k := rfl
@[simp] theorem State.pin_setLine (k : Nat) : (s.setLine a v).pin k = s.pin k := rfl
@[simp] theorem State.alm_setLine (k : Nat) : (s.setLine a v).alm k = s.alm k := rfl
@[simp] theorem State.bucket_setLine (k : Nat) : (s.setLine a v).bucket k = s.bucket k := rfl
@[simp] theorem State.clPhase_setLine (k : Nat) : (s.setLine a v).clPhase k = s.clPhase k := rfl
@[simp] theorem State.claim_setLine (k : Nat) : (s.setLine a v).claim k = s.claim k := rfl
@[simp] theorem State.can_setLine (k : Nat) : (s.setLine a v).can k = s.can k := rfl
@[simp] theorem State.supBits_setLine (k : Nat) : (s.setLine a v).supBits k = s.supBits k := rfl
@[simp] theorem State.eff_setLine (k : Nat) : (s.setLine a v).eff k = s.eff k := rfl
@[simp] theorem State.core_setLine (k : Nat) : (s.setLine a v).core k = s.core k := rfl
@[simp] theorem State.elem_setLine (k : Nat) : (s.setLine a v).elem k = s.elem k := rfl
@[simp] theorem State.sup_setLine (k : Nat) : (s.setLine a v).sup k = s.sup k := rfl
@[simp] theorem State.line_setLine (k : Nat) : (s.setLine a v).line k = if a = k then v else s.line k := SMap.get_set _ _ _ _ _
@[simp] theorem State.blzU_setLine (k : Nat) : (s.setLine a v).blzU k = s.blzU k := rfl
@[simp] theorem State.gauge_setLine (k : Nat) : (s.setLine a v).gauge k = s.gauge k := rfl
@[simp] theorem State.rcu_setLine (k : Nat) : (s.setLine a v).rcu k = s.rcu k := rfl
@[simp] theorem State.wbu_setLine (k : Nat) : (s.setLine a v).wbu k = s.wbu k := rfl
end

section
variable (s : State) (a : Nat) (v : BlzU)
@[simp] theorem State.setBlz_regs : (s.setBlz a v).regs = s.regs := rfl
@[simp] theorem State.setBlz_mram : (s.setBlz a v).mram = s.mram := rfl
@[simp] theorem State.setBlz_claims : (s.setBlz a v).claims = s.claims := rfl
@[simp] theorem State.setBlz_ended : (s.setBlz a v).ended = s.ended := rfl
@[simp] theorem State.setBlz_rsp : (s.setBlz a v).rsp = s.rsp := rfl
@[simp] theorem State.setBlz_spiOut : (s.setBlz a v).spiOut = s.spiOut := rfl
@[simp] theorem State.setBlz_snaps : (s.setBlz a v).snaps = s.snaps := rfl
@[simp] theorem State.setBlz_holds : (s.setBlz a v).holds = s.holds := rfl
@[simp] theorem State.setBlz_inds : (s.setBlz a v).inds = s.inds := rfl
@[simp] theorem State.setBlz_hbiReady : (s.setBlz a v).hbiReady = s.hbiReady := rfl
@[simp] theorem State.setBlz_supPend : (s.setBlz a v).supPend = s.supPend := rfl
@[simp] theorem State.setBlz_links : (s.setBlz a v).links = s.links := rfl
@[simp] theorem State.setBlz_mramErr : (s.setBlz a v).mramErr = s.mramErr := rfl
@[simp] theorem State.setBlz_mramOut : (s.setBlz a v).mramOut = s.mramOut := rfl
@[simp] theorem State.setBlz_tally : (s.setBlz a v).tally = s.tally := rfl
@[simp] theorem State.setBlz_buckets : (s.setBlz a v).buckets = s.buckets := rfl
@[simp] theorem State.setBlz_tb : (s.setBlz a v).tb = s.tb := rfl
@[simp] theorem State.setBlz_alms : (s.setBlz a v).alms = s.alms := rfl
@[simp] theorem State.setBlz_pins : (s.setBlz a v).pins = s.pins := rfl
@[simp] theorem State.setBlz_tick : (s.setBlz a v).tick = s.tick := rfl
@[simp] theorem State.setBlz_stepFlag : (s.setBlz a v).stepFlag = s.stepFlag := rfl
@[simp] theorem State.setBlz_phase : (s.setBlz a v).phase = s.phase := rfl
@[simp] theorem State.setBlz_lanes : (s.setBlz a v).lanes = s.lanes := rfl
@[simp] theorem State.setBlz_clSrc : (s.setBlz a v).clSrc = s.clSrc := rfl
@[simp] theorem State.setBlz_expect : (s.setBlz a v).expect = s.expect := rfl
@[simp] theorem State.setBlz_late : (s.setBlz a v).late = s.late := rfl
@[simp] theorem State.setBlz_trk : (s.setBlz a v).trk = s.trk := rfl
@[simp] theorem State.setBlz_fpds : (s.setBlz a v).fpds = s.fpds := rfl
@[simp] theorem State.setBlz_dets : (s.setBlz a v).dets = s.dets := rfl
@[simp] theorem State.setBlz_light : (s.setBlz a v).light = s.light := rfl
@[simp] theorem State.setBlz_heldRegs : (s.setBlz a v).heldRegs = s.heldRegs := rfl
@[simp] theorem State.setBlz_cores : (s.setBlz a v).cores = s.cores := rfl
@[simp] theorem State.setBlz_elems : (s.setBlz a v).elems = s.elems := rfl
@[simp] theorem State.setBlz_sups : (s.setBlz a v).sups = s.sups := rfl
@[simp] theorem State.setBlz_inForce : (s.setBlz a v).inForce = s.inForce := rfl
@[simp] theorem State.setBlz_cans : (s.setBlz a v).cans = s.cans := rfl
@[simp] theorem State.setBlz_eth : (s.setBlz a v).eth = s.eth := rfl
@[simp] theorem State.setBlz_field_ : (s.setBlz a v).field_ = s.field_ := rfl
@[simp] theorem State.setBlz_fio : (s.setBlz a v).fio = s.fio := rfl
@[simp] theorem State.setBlz_lines : (s.setBlz a v).lines = s.lines := rfl
@[simp] theorem State.setBlz_tripKey : (s.setBlz a v).tripKey = s.tripKey := rfl
@[simp] theorem State.setBlz_lathe : (s.setBlz a v).lathe = s.lathe := rfl
@[simp] theorem State.setBlz_ticks : (s.setBlz a v).ticks = s.ticks := rfl
@[simp] theorem State.setBlz_recs : (s.setBlz a v).recs = s.recs := rfl
@[simp] theorem State.setBlz_wbs : (s.setBlz a v).wbs = s.wbs := rfl
@[simp] theorem State.setBlz_gauges : (s.setBlz a v).gauges = s.gauges := rfl
@[simp] theorem State.setBlz_pair : (s.setBlz a v).pair = s.pair := rfl
@[simp] theorem State.setBlz_meter : (s.setBlz a v).meter = s.meter := rfl
@[simp] theorem State.setBlz_power : (s.setBlz a v).power = s.power := rfl
@[simp] theorem State.setBlz_freeCtr : (s.setBlz a v).freeCtr = s.freeCtr := rfl
@[simp] theorem State.setBlz_pending : (s.setBlz a v).pending = s.pending := rfl
@[simp] theorem State.rd_setBlz (k : Nat) : (s.setBlz a v).rd k = s.rd k := rfl
@[simp] theorem State.mb_setBlz (k : Nat) : (s.setBlz a v).mb k = s.mb k := rfl
@[simp] theorem State.ind_setBlz (k : Nat) : (s.setBlz a v).ind k = s.ind k := rfl
@[simp] theorem State.link_setBlz (k : Nat) : (s.setBlz a v).link k = s.link k := rfl
@[simp] theorem State.lane_setBlz (k : Nat) : (s.setBlz a v).lane k = s.lane k := rfl
@[simp] theorem State.tracker_setBlz (k : Nat) : (s.setBlz a v).tracker k = s.tracker k := rfl
@[simp] theorem State.fpd_setBlz (k : Nat) : (s.setBlz a v).fpd k = s.fpd k := rfl
@[simp] theorem State.det_setBlz (k : Nat) : (s.setBlz a v).det k = s.det k := rfl
@[simp] theorem State.pin_setBlz (k : Nat) : (s.setBlz a v).pin k = s.pin k := rfl
@[simp] theorem State.alm_setBlz (k : Nat) : (s.setBlz a v).alm k = s.alm k := rfl
@[simp] theorem State.bucket_setBlz (k : Nat) : (s.setBlz a v).bucket k = s.bucket k := rfl
@[simp] theorem State.clPhase_setBlz (k : Nat) : (s.setBlz a v).clPhase k = s.clPhase k := rfl
@[simp] theorem State.claim_setBlz (k : Nat) : (s.setBlz a v).claim k = s.claim k := rfl
@[simp] theorem State.can_setBlz (k : Nat) : (s.setBlz a v).can k = s.can k := rfl
@[simp] theorem State.supBits_setBlz (k : Nat) : (s.setBlz a v).supBits k = s.supBits k := rfl
@[simp] theorem State.eff_setBlz (k : Nat) : (s.setBlz a v).eff k = s.eff k := rfl
@[simp] theorem State.core_setBlz (k : Nat) : (s.setBlz a v).core k = s.core k := rfl
@[simp] theorem State.elem_setBlz (k : Nat) : (s.setBlz a v).elem k = s.elem k := rfl
@[simp] theorem State.sup_setBlz (k : Nat) : (s.setBlz a v).sup k = s.sup k := rfl
@[simp] theorem State.line_setBlz (k : Nat) : (s.setBlz a v).line k = s.line k := rfl
@[simp] theorem State.blzU_setBlz (k : Nat) : (s.setBlz a v).blzU k = if a = k then v else s.blzU k := SMap.get_set _ _ _ _ _
@[simp] theorem State.gauge_setBlz (k : Nat) : (s.setBlz a v).gauge k = s.gauge k := rfl
@[simp] theorem State.rcu_setBlz (k : Nat) : (s.setBlz a v).rcu k = s.rcu k := rfl
@[simp] theorem State.wbu_setBlz (k : Nat) : (s.setBlz a v).wbu k = s.wbu k := rfl
end

section
variable (s : State) (a : Nat) (v : GaugeU)
@[simp] theorem State.setGauge_regs : (s.setGauge a v).regs = s.regs := rfl
@[simp] theorem State.setGauge_mram : (s.setGauge a v).mram = s.mram := rfl
@[simp] theorem State.setGauge_claims : (s.setGauge a v).claims = s.claims := rfl
@[simp] theorem State.setGauge_ended : (s.setGauge a v).ended = s.ended := rfl
@[simp] theorem State.setGauge_rsp : (s.setGauge a v).rsp = s.rsp := rfl
@[simp] theorem State.setGauge_spiOut : (s.setGauge a v).spiOut = s.spiOut := rfl
@[simp] theorem State.setGauge_snaps : (s.setGauge a v).snaps = s.snaps := rfl
@[simp] theorem State.setGauge_holds : (s.setGauge a v).holds = s.holds := rfl
@[simp] theorem State.setGauge_inds : (s.setGauge a v).inds = s.inds := rfl
@[simp] theorem State.setGauge_hbiReady : (s.setGauge a v).hbiReady = s.hbiReady := rfl
@[simp] theorem State.setGauge_supPend : (s.setGauge a v).supPend = s.supPend := rfl
@[simp] theorem State.setGauge_links : (s.setGauge a v).links = s.links := rfl
@[simp] theorem State.setGauge_mramErr : (s.setGauge a v).mramErr = s.mramErr := rfl
@[simp] theorem State.setGauge_mramOut : (s.setGauge a v).mramOut = s.mramOut := rfl
@[simp] theorem State.setGauge_tally : (s.setGauge a v).tally = s.tally := rfl
@[simp] theorem State.setGauge_buckets : (s.setGauge a v).buckets = s.buckets := rfl
@[simp] theorem State.setGauge_tb : (s.setGauge a v).tb = s.tb := rfl
@[simp] theorem State.setGauge_alms : (s.setGauge a v).alms = s.alms := rfl
@[simp] theorem State.setGauge_pins : (s.setGauge a v).pins = s.pins := rfl
@[simp] theorem State.setGauge_tick : (s.setGauge a v).tick = s.tick := rfl
@[simp] theorem State.setGauge_stepFlag : (s.setGauge a v).stepFlag = s.stepFlag := rfl
@[simp] theorem State.setGauge_phase : (s.setGauge a v).phase = s.phase := rfl
@[simp] theorem State.setGauge_lanes : (s.setGauge a v).lanes = s.lanes := rfl
@[simp] theorem State.setGauge_clSrc : (s.setGauge a v).clSrc = s.clSrc := rfl
@[simp] theorem State.setGauge_expect : (s.setGauge a v).expect = s.expect := rfl
@[simp] theorem State.setGauge_late : (s.setGauge a v).late = s.late := rfl
@[simp] theorem State.setGauge_trk : (s.setGauge a v).trk = s.trk := rfl
@[simp] theorem State.setGauge_fpds : (s.setGauge a v).fpds = s.fpds := rfl
@[simp] theorem State.setGauge_dets : (s.setGauge a v).dets = s.dets := rfl
@[simp] theorem State.setGauge_light : (s.setGauge a v).light = s.light := rfl
@[simp] theorem State.setGauge_heldRegs : (s.setGauge a v).heldRegs = s.heldRegs := rfl
@[simp] theorem State.setGauge_cores : (s.setGauge a v).cores = s.cores := rfl
@[simp] theorem State.setGauge_elems : (s.setGauge a v).elems = s.elems := rfl
@[simp] theorem State.setGauge_sups : (s.setGauge a v).sups = s.sups := rfl
@[simp] theorem State.setGauge_inForce : (s.setGauge a v).inForce = s.inForce := rfl
@[simp] theorem State.setGauge_cans : (s.setGauge a v).cans = s.cans := rfl
@[simp] theorem State.setGauge_eth : (s.setGauge a v).eth = s.eth := rfl
@[simp] theorem State.setGauge_field_ : (s.setGauge a v).field_ = s.field_ := rfl
@[simp] theorem State.setGauge_fio : (s.setGauge a v).fio = s.fio := rfl
@[simp] theorem State.setGauge_lines : (s.setGauge a v).lines = s.lines := rfl
@[simp] theorem State.setGauge_tripKey : (s.setGauge a v).tripKey = s.tripKey := rfl
@[simp] theorem State.setGauge_lathe : (s.setGauge a v).lathe = s.lathe := rfl
@[simp] theorem State.setGauge_ticks : (s.setGauge a v).ticks = s.ticks := rfl
@[simp] theorem State.setGauge_recs : (s.setGauge a v).recs = s.recs := rfl
@[simp] theorem State.setGauge_wbs : (s.setGauge a v).wbs = s.wbs := rfl
@[simp] theorem State.setGauge_blz : (s.setGauge a v).blz = s.blz := rfl
@[simp] theorem State.setGauge_pair : (s.setGauge a v).pair = s.pair := rfl
@[simp] theorem State.setGauge_meter : (s.setGauge a v).meter = s.meter := rfl
@[simp] theorem State.setGauge_power : (s.setGauge a v).power = s.power := rfl
@[simp] theorem State.setGauge_freeCtr : (s.setGauge a v).freeCtr = s.freeCtr := rfl
@[simp] theorem State.setGauge_pending : (s.setGauge a v).pending = s.pending := rfl
@[simp] theorem State.rd_setGauge (k : Nat) : (s.setGauge a v).rd k = s.rd k := rfl
@[simp] theorem State.mb_setGauge (k : Nat) : (s.setGauge a v).mb k = s.mb k := rfl
@[simp] theorem State.ind_setGauge (k : Nat) : (s.setGauge a v).ind k = s.ind k := rfl
@[simp] theorem State.link_setGauge (k : Nat) : (s.setGauge a v).link k = s.link k := rfl
@[simp] theorem State.lane_setGauge (k : Nat) : (s.setGauge a v).lane k = s.lane k := rfl
@[simp] theorem State.tracker_setGauge (k : Nat) : (s.setGauge a v).tracker k = s.tracker k := rfl
@[simp] theorem State.fpd_setGauge (k : Nat) : (s.setGauge a v).fpd k = s.fpd k := rfl
@[simp] theorem State.det_setGauge (k : Nat) : (s.setGauge a v).det k = s.det k := rfl
@[simp] theorem State.pin_setGauge (k : Nat) : (s.setGauge a v).pin k = s.pin k := rfl
@[simp] theorem State.alm_setGauge (k : Nat) : (s.setGauge a v).alm k = s.alm k := rfl
@[simp] theorem State.bucket_setGauge (k : Nat) : (s.setGauge a v).bucket k = s.bucket k := rfl
@[simp] theorem State.clPhase_setGauge (k : Nat) : (s.setGauge a v).clPhase k = s.clPhase k := rfl
@[simp] theorem State.claim_setGauge (k : Nat) : (s.setGauge a v).claim k = s.claim k := rfl
@[simp] theorem State.can_setGauge (k : Nat) : (s.setGauge a v).can k = s.can k := rfl
@[simp] theorem State.supBits_setGauge (k : Nat) : (s.setGauge a v).supBits k = s.supBits k := rfl
@[simp] theorem State.eff_setGauge (k : Nat) : (s.setGauge a v).eff k = s.eff k := rfl
@[simp] theorem State.core_setGauge (k : Nat) : (s.setGauge a v).core k = s.core k := rfl
@[simp] theorem State.elem_setGauge (k : Nat) : (s.setGauge a v).elem k = s.elem k := rfl
@[simp] theorem State.sup_setGauge (k : Nat) : (s.setGauge a v).sup k = s.sup k := rfl
@[simp] theorem State.line_setGauge (k : Nat) : (s.setGauge a v).line k = s.line k := rfl
@[simp] theorem State.blzU_setGauge (k : Nat) : (s.setGauge a v).blzU k = s.blzU k := rfl
@[simp] theorem State.gauge_setGauge (k : Nat) : (s.setGauge a v).gauge k = if a = k then v else s.gauge k := SMap.get_set _ _ _ _ _
@[simp] theorem State.rcu_setGauge (k : Nat) : (s.setGauge a v).rcu k = s.rcu k := rfl
@[simp] theorem State.wbu_setGauge (k : Nat) : (s.setGauge a v).wbu k = s.wbu k := rfl
end

section
variable (s : State) (a : Nat) (v : RecU)
@[simp] theorem State.setRcu_regs : (s.setRcu a v).regs = s.regs := rfl
@[simp] theorem State.setRcu_mram : (s.setRcu a v).mram = s.mram := rfl
@[simp] theorem State.setRcu_claims : (s.setRcu a v).claims = s.claims := rfl
@[simp] theorem State.setRcu_ended : (s.setRcu a v).ended = s.ended := rfl
@[simp] theorem State.setRcu_rsp : (s.setRcu a v).rsp = s.rsp := rfl
@[simp] theorem State.setRcu_spiOut : (s.setRcu a v).spiOut = s.spiOut := rfl
@[simp] theorem State.setRcu_snaps : (s.setRcu a v).snaps = s.snaps := rfl
@[simp] theorem State.setRcu_holds : (s.setRcu a v).holds = s.holds := rfl
@[simp] theorem State.setRcu_inds : (s.setRcu a v).inds = s.inds := rfl
@[simp] theorem State.setRcu_hbiReady : (s.setRcu a v).hbiReady = s.hbiReady := rfl
@[simp] theorem State.setRcu_supPend : (s.setRcu a v).supPend = s.supPend := rfl
@[simp] theorem State.setRcu_links : (s.setRcu a v).links = s.links := rfl
@[simp] theorem State.setRcu_mramErr : (s.setRcu a v).mramErr = s.mramErr := rfl
@[simp] theorem State.setRcu_mramOut : (s.setRcu a v).mramOut = s.mramOut := rfl
@[simp] theorem State.setRcu_tally : (s.setRcu a v).tally = s.tally := rfl
@[simp] theorem State.setRcu_buckets : (s.setRcu a v).buckets = s.buckets := rfl
@[simp] theorem State.setRcu_tb : (s.setRcu a v).tb = s.tb := rfl
@[simp] theorem State.setRcu_alms : (s.setRcu a v).alms = s.alms := rfl
@[simp] theorem State.setRcu_pins : (s.setRcu a v).pins = s.pins := rfl
@[simp] theorem State.setRcu_tick : (s.setRcu a v).tick = s.tick := rfl
@[simp] theorem State.setRcu_stepFlag : (s.setRcu a v).stepFlag = s.stepFlag := rfl
@[simp] theorem State.setRcu_phase : (s.setRcu a v).phase = s.phase := rfl
@[simp] theorem State.setRcu_lanes : (s.setRcu a v).lanes = s.lanes := rfl
@[simp] theorem State.setRcu_clSrc : (s.setRcu a v).clSrc = s.clSrc := rfl
@[simp] theorem State.setRcu_expect : (s.setRcu a v).expect = s.expect := rfl
@[simp] theorem State.setRcu_late : (s.setRcu a v).late = s.late := rfl
@[simp] theorem State.setRcu_trk : (s.setRcu a v).trk = s.trk := rfl
@[simp] theorem State.setRcu_fpds : (s.setRcu a v).fpds = s.fpds := rfl
@[simp] theorem State.setRcu_dets : (s.setRcu a v).dets = s.dets := rfl
@[simp] theorem State.setRcu_light : (s.setRcu a v).light = s.light := rfl
@[simp] theorem State.setRcu_heldRegs : (s.setRcu a v).heldRegs = s.heldRegs := rfl
@[simp] theorem State.setRcu_cores : (s.setRcu a v).cores = s.cores := rfl
@[simp] theorem State.setRcu_elems : (s.setRcu a v).elems = s.elems := rfl
@[simp] theorem State.setRcu_sups : (s.setRcu a v).sups = s.sups := rfl
@[simp] theorem State.setRcu_inForce : (s.setRcu a v).inForce = s.inForce := rfl
@[simp] theorem State.setRcu_cans : (s.setRcu a v).cans = s.cans := rfl
@[simp] theorem State.setRcu_eth : (s.setRcu a v).eth = s.eth := rfl
@[simp] theorem State.setRcu_field_ : (s.setRcu a v).field_ = s.field_ := rfl
@[simp] theorem State.setRcu_fio : (s.setRcu a v).fio = s.fio := rfl
@[simp] theorem State.setRcu_lines : (s.setRcu a v).lines = s.lines := rfl
@[simp] theorem State.setRcu_tripKey : (s.setRcu a v).tripKey = s.tripKey := rfl
@[simp] theorem State.setRcu_lathe : (s.setRcu a v).lathe = s.lathe := rfl
@[simp] theorem State.setRcu_ticks : (s.setRcu a v).ticks = s.ticks := rfl
@[simp] theorem State.setRcu_wbs : (s.setRcu a v).wbs = s.wbs := rfl
@[simp] theorem State.setRcu_gauges : (s.setRcu a v).gauges = s.gauges := rfl
@[simp] theorem State.setRcu_blz : (s.setRcu a v).blz = s.blz := rfl
@[simp] theorem State.setRcu_pair : (s.setRcu a v).pair = s.pair := rfl
@[simp] theorem State.setRcu_meter : (s.setRcu a v).meter = s.meter := rfl
@[simp] theorem State.setRcu_power : (s.setRcu a v).power = s.power := rfl
@[simp] theorem State.setRcu_freeCtr : (s.setRcu a v).freeCtr = s.freeCtr := rfl
@[simp] theorem State.setRcu_pending : (s.setRcu a v).pending = s.pending := rfl
@[simp] theorem State.rd_setRcu (k : Nat) : (s.setRcu a v).rd k = s.rd k := rfl
@[simp] theorem State.mb_setRcu (k : Nat) : (s.setRcu a v).mb k = s.mb k := rfl
@[simp] theorem State.ind_setRcu (k : Nat) : (s.setRcu a v).ind k = s.ind k := rfl
@[simp] theorem State.link_setRcu (k : Nat) : (s.setRcu a v).link k = s.link k := rfl
@[simp] theorem State.lane_setRcu (k : Nat) : (s.setRcu a v).lane k = s.lane k := rfl
@[simp] theorem State.tracker_setRcu (k : Nat) : (s.setRcu a v).tracker k = s.tracker k := rfl
@[simp] theorem State.fpd_setRcu (k : Nat) : (s.setRcu a v).fpd k = s.fpd k := rfl
@[simp] theorem State.det_setRcu (k : Nat) : (s.setRcu a v).det k = s.det k := rfl
@[simp] theorem State.pin_setRcu (k : Nat) : (s.setRcu a v).pin k = s.pin k := rfl
@[simp] theorem State.alm_setRcu (k : Nat) : (s.setRcu a v).alm k = s.alm k := rfl
@[simp] theorem State.bucket_setRcu (k : Nat) : (s.setRcu a v).bucket k = s.bucket k := rfl
@[simp] theorem State.clPhase_setRcu (k : Nat) : (s.setRcu a v).clPhase k = s.clPhase k := rfl
@[simp] theorem State.claim_setRcu (k : Nat) : (s.setRcu a v).claim k = s.claim k := rfl
@[simp] theorem State.can_setRcu (k : Nat) : (s.setRcu a v).can k = s.can k := rfl
@[simp] theorem State.supBits_setRcu (k : Nat) : (s.setRcu a v).supBits k = s.supBits k := rfl
@[simp] theorem State.eff_setRcu (k : Nat) : (s.setRcu a v).eff k = s.eff k := rfl
@[simp] theorem State.core_setRcu (k : Nat) : (s.setRcu a v).core k = s.core k := rfl
@[simp] theorem State.elem_setRcu (k : Nat) : (s.setRcu a v).elem k = s.elem k := rfl
@[simp] theorem State.sup_setRcu (k : Nat) : (s.setRcu a v).sup k = s.sup k := rfl
@[simp] theorem State.line_setRcu (k : Nat) : (s.setRcu a v).line k = s.line k := rfl
@[simp] theorem State.blzU_setRcu (k : Nat) : (s.setRcu a v).blzU k = s.blzU k := rfl
@[simp] theorem State.gauge_setRcu (k : Nat) : (s.setRcu a v).gauge k = s.gauge k := rfl
@[simp] theorem State.rcu_setRcu (k : Nat) : (s.setRcu a v).rcu k = if a = k then v else s.rcu k := SMap.get_set _ _ _ _ _
@[simp] theorem State.wbu_setRcu (k : Nat) : (s.setRcu a v).wbu k = s.wbu k := rfl
end

section
variable (s : State) (a : Nat) (v : WbU)
@[simp] theorem State.setWbu_regs : (s.setWbu a v).regs = s.regs := rfl
@[simp] theorem State.setWbu_mram : (s.setWbu a v).mram = s.mram := rfl
@[simp] theorem State.setWbu_claims : (s.setWbu a v).claims = s.claims := rfl
@[simp] theorem State.setWbu_ended : (s.setWbu a v).ended = s.ended := rfl
@[simp] theorem State.setWbu_rsp : (s.setWbu a v).rsp = s.rsp := rfl
@[simp] theorem State.setWbu_spiOut : (s.setWbu a v).spiOut = s.spiOut := rfl
@[simp] theorem State.setWbu_snaps : (s.setWbu a v).snaps = s.snaps := rfl
@[simp] theorem State.setWbu_holds : (s.setWbu a v).holds = s.holds := rfl
@[simp] theorem State.setWbu_inds : (s.setWbu a v).inds = s.inds := rfl
@[simp] theorem State.setWbu_hbiReady : (s.setWbu a v).hbiReady = s.hbiReady := rfl
@[simp] theorem State.setWbu_supPend : (s.setWbu a v).supPend = s.supPend := rfl
@[simp] theorem State.setWbu_links : (s.setWbu a v).links = s.links := rfl
@[simp] theorem State.setWbu_mramErr : (s.setWbu a v).mramErr = s.mramErr := rfl
@[simp] theorem State.setWbu_mramOut : (s.setWbu a v).mramOut = s.mramOut := rfl
@[simp] theorem State.setWbu_tally : (s.setWbu a v).tally = s.tally := rfl
@[simp] theorem State.setWbu_buckets : (s.setWbu a v).buckets = s.buckets := rfl
@[simp] theorem State.setWbu_tb : (s.setWbu a v).tb = s.tb := rfl
@[simp] theorem State.setWbu_alms : (s.setWbu a v).alms = s.alms := rfl
@[simp] theorem State.setWbu_pins : (s.setWbu a v).pins = s.pins := rfl
@[simp] theorem State.setWbu_tick : (s.setWbu a v).tick = s.tick := rfl
@[simp] theorem State.setWbu_stepFlag : (s.setWbu a v).stepFlag = s.stepFlag := rfl
@[simp] theorem State.setWbu_phase : (s.setWbu a v).phase = s.phase := rfl
@[simp] theorem State.setWbu_lanes : (s.setWbu a v).lanes = s.lanes := rfl
@[simp] theorem State.setWbu_clSrc : (s.setWbu a v).clSrc = s.clSrc := rfl
@[simp] theorem State.setWbu_expect : (s.setWbu a v).expect = s.expect := rfl
@[simp] theorem State.setWbu_late : (s.setWbu a v).late = s.late := rfl
@[simp] theorem State.setWbu_trk : (s.setWbu a v).trk = s.trk := rfl
@[simp] theorem State.setWbu_fpds : (s.setWbu a v).fpds = s.fpds := rfl
@[simp] theorem State.setWbu_dets : (s.setWbu a v).dets = s.dets := rfl
@[simp] theorem State.setWbu_light : (s.setWbu a v).light = s.light := rfl
@[simp] theorem State.setWbu_heldRegs : (s.setWbu a v).heldRegs = s.heldRegs := rfl
@[simp] theorem State.setWbu_cores : (s.setWbu a v).cores = s.cores := rfl
@[simp] theorem State.setWbu_elems : (s.setWbu a v).elems = s.elems := rfl
@[simp] theorem State.setWbu_sups : (s.setWbu a v).sups = s.sups := rfl
@[simp] theorem State.setWbu_inForce : (s.setWbu a v).inForce = s.inForce := rfl
@[simp] theorem State.setWbu_cans : (s.setWbu a v).cans = s.cans := rfl
@[simp] theorem State.setWbu_eth : (s.setWbu a v).eth = s.eth := rfl
@[simp] theorem State.setWbu_field_ : (s.setWbu a v).field_ = s.field_ := rfl
@[simp] theorem State.setWbu_fio : (s.setWbu a v).fio = s.fio := rfl
@[simp] theorem State.setWbu_lines : (s.setWbu a v).lines = s.lines := rfl
@[simp] theorem State.setWbu_tripKey : (s.setWbu a v).tripKey = s.tripKey := rfl
@[simp] theorem State.setWbu_lathe : (s.setWbu a v).lathe = s.lathe := rfl
@[simp] theorem State.setWbu_ticks : (s.setWbu a v).ticks = s.ticks := rfl
@[simp] theorem State.setWbu_recs : (s.setWbu a v).recs = s.recs := rfl
@[simp] theorem State.setWbu_gauges : (s.setWbu a v).gauges = s.gauges := rfl
@[simp] theorem State.setWbu_blz : (s.setWbu a v).blz = s.blz := rfl
@[simp] theorem State.setWbu_pair : (s.setWbu a v).pair = s.pair := rfl
@[simp] theorem State.setWbu_meter : (s.setWbu a v).meter = s.meter := rfl
@[simp] theorem State.setWbu_power : (s.setWbu a v).power = s.power := rfl
@[simp] theorem State.setWbu_freeCtr : (s.setWbu a v).freeCtr = s.freeCtr := rfl
@[simp] theorem State.setWbu_pending : (s.setWbu a v).pending = s.pending := rfl
@[simp] theorem State.rd_setWbu (k : Nat) : (s.setWbu a v).rd k = s.rd k := rfl
@[simp] theorem State.mb_setWbu (k : Nat) : (s.setWbu a v).mb k = s.mb k := rfl
@[simp] theorem State.ind_setWbu (k : Nat) : (s.setWbu a v).ind k = s.ind k := rfl
@[simp] theorem State.link_setWbu (k : Nat) : (s.setWbu a v).link k = s.link k := rfl
@[simp] theorem State.lane_setWbu (k : Nat) : (s.setWbu a v).lane k = s.lane k := rfl
@[simp] theorem State.tracker_setWbu (k : Nat) : (s.setWbu a v).tracker k = s.tracker k := rfl
@[simp] theorem State.fpd_setWbu (k : Nat) : (s.setWbu a v).fpd k = s.fpd k := rfl
@[simp] theorem State.det_setWbu (k : Nat) : (s.setWbu a v).det k = s.det k := rfl
@[simp] theorem State.pin_setWbu (k : Nat) : (s.setWbu a v).pin k = s.pin k := rfl
@[simp] theorem State.alm_setWbu (k : Nat) : (s.setWbu a v).alm k = s.alm k := rfl
@[simp] theorem State.bucket_setWbu (k : Nat) : (s.setWbu a v).bucket k = s.bucket k := rfl
@[simp] theorem State.clPhase_setWbu (k : Nat) : (s.setWbu a v).clPhase k = s.clPhase k := rfl
@[simp] theorem State.claim_setWbu (k : Nat) : (s.setWbu a v).claim k = s.claim k := rfl
@[simp] theorem State.can_setWbu (k : Nat) : (s.setWbu a v).can k = s.can k := rfl
@[simp] theorem State.supBits_setWbu (k : Nat) : (s.setWbu a v).supBits k = s.supBits k := rfl
@[simp] theorem State.eff_setWbu (k : Nat) : (s.setWbu a v).eff k = s.eff k := rfl
@[simp] theorem State.core_setWbu (k : Nat) : (s.setWbu a v).core k = s.core k := rfl
@[simp] theorem State.elem_setWbu (k : Nat) : (s.setWbu a v).elem k = s.elem k := rfl
@[simp] theorem State.sup_setWbu (k : Nat) : (s.setWbu a v).sup k = s.sup k := rfl
@[simp] theorem State.line_setWbu (k : Nat) : (s.setWbu a v).line k = s.line k := rfl
@[simp] theorem State.blzU_setWbu (k : Nat) : (s.setWbu a v).blzU k = s.blzU k := rfl
@[simp] theorem State.gauge_setWbu (k : Nat) : (s.setWbu a v).gauge k = s.gauge k := rfl
@[simp] theorem State.rcu_setWbu (k : Nat) : (s.setWbu a v).rcu k = s.rcu k := rfl
@[simp] theorem State.wbu_setWbu (k : Nat) : (s.setWbu a v).wbu k = if a = k then v else s.wbu k := SMap.get_set _ _ _ _ _
end

section
variable (s : State) (f : FieldDie → FieldDie)
@[simp] theorem State.fdMod_regs : (s.fdMod f).regs = s.regs := rfl
@[simp] theorem State.fdMod_mram : (s.fdMod f).mram = s.mram := rfl
@[simp] theorem State.fdMod_claims : (s.fdMod f).claims = s.claims := rfl
@[simp] theorem State.fdMod_ended : (s.fdMod f).ended = s.ended := rfl
@[simp] theorem State.fdMod_rsp : (s.fdMod f).rsp = s.rsp := rfl
@[simp] theorem State.fdMod_spiOut : (s.fdMod f).spiOut = s.spiOut := rfl
@[simp] theorem State.fdMod_snaps : (s.fdMod f).snaps = s.snaps := rfl
@[simp] theorem State.fdMod_holds : (s.fdMod f).holds = s.holds := rfl
@[simp] theorem State.fdMod_inds : (s.fdMod f).inds = s.inds := rfl
@[simp] theorem State.fdMod_hbiReady : (s.fdMod f).hbiReady = s.hbiReady := rfl
@[simp] theorem State.fdMod_supPend : (s.fdMod f).supPend = s.supPend := rfl
@[simp] theorem State.fdMod_links : (s.fdMod f).links = s.links := rfl
@[simp] theorem State.fdMod_mramErr : (s.fdMod f).mramErr = s.mramErr := rfl
@[simp] theorem State.fdMod_mramOut : (s.fdMod f).mramOut = s.mramOut := rfl
@[simp] theorem State.fdMod_tally : (s.fdMod f).tally = s.tally := rfl
@[simp] theorem State.fdMod_buckets : (s.fdMod f).buckets = s.buckets := rfl
@[simp] theorem State.fdMod_tb : (s.fdMod f).tb = s.tb := rfl
@[simp] theorem State.fdMod_alms : (s.fdMod f).alms = s.alms := rfl
@[simp] theorem State.fdMod_pins : (s.fdMod f).pins = s.pins := rfl
@[simp] theorem State.fdMod_tick : (s.fdMod f).tick = s.tick := rfl
@[simp] theorem State.fdMod_stepFlag : (s.fdMod f).stepFlag = s.stepFlag := rfl
@[simp] theorem State.fdMod_phase : (s.fdMod f).phase = s.phase := rfl
@[simp] theorem State.fdMod_lanes : (s.fdMod f).lanes = s.lanes := rfl
@[simp] theorem State.fdMod_clSrc : (s.fdMod f).clSrc = s.clSrc := rfl
@[simp] theorem State.fdMod_expect : (s.fdMod f).expect = s.expect := rfl
@[simp] theorem State.fdMod_late : (s.fdMod f).late = s.late := rfl
@[simp] theorem State.fdMod_trk : (s.fdMod f).trk = s.trk := rfl
@[simp] theorem State.fdMod_fpds : (s.fdMod f).fpds = s.fpds := rfl
@[simp] theorem State.fdMod_dets : (s.fdMod f).dets = s.dets := rfl
@[simp] theorem State.fdMod_light : (s.fdMod f).light = s.light := rfl
@[simp] theorem State.fdMod_heldRegs : (s.fdMod f).heldRegs = s.heldRegs := rfl
@[simp] theorem State.fdMod_cores : (s.fdMod f).cores = s.cores := rfl
@[simp] theorem State.fdMod_elems : (s.fdMod f).elems = s.elems := rfl
@[simp] theorem State.fdMod_sups : (s.fdMod f).sups = s.sups := rfl
@[simp] theorem State.fdMod_inForce : (s.fdMod f).inForce = s.inForce := rfl
@[simp] theorem State.fdMod_cans : (s.fdMod f).cans = s.cans := rfl
@[simp] theorem State.fdMod_eth : (s.fdMod f).eth = s.eth := rfl
@[simp] theorem State.fdMod_field_ : (s.fdMod f).field_ = f s.field_ := rfl
@[simp] theorem State.fdMod_fio : (s.fdMod f).fio = s.fio := rfl
@[simp] theorem State.fdMod_lines : (s.fdMod f).lines = s.lines := rfl
@[simp] theorem State.fdMod_tripKey : (s.fdMod f).tripKey = s.tripKey := rfl
@[simp] theorem State.fdMod_lathe : (s.fdMod f).lathe = s.lathe := rfl
@[simp] theorem State.fdMod_ticks : (s.fdMod f).ticks = s.ticks := rfl
@[simp] theorem State.fdMod_recs : (s.fdMod f).recs = s.recs := rfl
@[simp] theorem State.fdMod_wbs : (s.fdMod f).wbs = s.wbs := rfl
@[simp] theorem State.fdMod_gauges : (s.fdMod f).gauges = s.gauges := rfl
@[simp] theorem State.fdMod_blz : (s.fdMod f).blz = s.blz := rfl
@[simp] theorem State.fdMod_pair : (s.fdMod f).pair = s.pair := rfl
@[simp] theorem State.fdMod_meter : (s.fdMod f).meter = s.meter := rfl
@[simp] theorem State.fdMod_power : (s.fdMod f).power = s.power := rfl
@[simp] theorem State.fdMod_freeCtr : (s.fdMod f).freeCtr = s.freeCtr := rfl
@[simp] theorem State.fdMod_pending : (s.fdMod f).pending = s.pending := rfl
@[simp] theorem State.rd_fdMod (k : Nat) : (s.fdMod f).rd k = s.rd k := rfl
@[simp] theorem State.mb_fdMod (k : Nat) : (s.fdMod f).mb k = s.mb k := rfl
@[simp] theorem State.ind_fdMod (k : Nat) : (s.fdMod f).ind k = s.ind k := rfl
@[simp] theorem State.link_fdMod (k : Nat) : (s.fdMod f).link k = s.link k := rfl
@[simp] theorem State.lane_fdMod (k : Nat) : (s.fdMod f).lane k = s.lane k := rfl
@[simp] theorem State.tracker_fdMod (k : Nat) : (s.fdMod f).tracker k = s.tracker k := rfl
@[simp] theorem State.fpd_fdMod (k : Nat) : (s.fdMod f).fpd k = s.fpd k := rfl
@[simp] theorem State.det_fdMod (k : Nat) : (s.fdMod f).det k = s.det k := rfl
@[simp] theorem State.pin_fdMod (k : Nat) : (s.fdMod f).pin k = s.pin k := rfl
@[simp] theorem State.alm_fdMod (k : Nat) : (s.fdMod f).alm k = s.alm k := rfl
@[simp] theorem State.bucket_fdMod (k : Nat) : (s.fdMod f).bucket k = s.bucket k := rfl
@[simp] theorem State.clPhase_fdMod (k : Nat) : (s.fdMod f).clPhase k = s.clPhase k := rfl
@[simp] theorem State.claim_fdMod (k : Nat) : (s.fdMod f).claim k = s.claim k := rfl
@[simp] theorem State.can_fdMod (k : Nat) : (s.fdMod f).can k = s.can k := rfl
@[simp] theorem State.supBits_fdMod (k : Nat) : (s.fdMod f).supBits k = s.supBits k := rfl
@[simp] theorem State.eff_fdMod (k : Nat) : (s.fdMod f).eff k = s.eff k := rfl
@[simp] theorem State.core_fdMod (k : Nat) : (s.fdMod f).core k = s.core k := rfl
@[simp] theorem State.elem_fdMod (k : Nat) : (s.fdMod f).elem k = s.elem k := rfl
@[simp] theorem State.sup_fdMod (k : Nat) : (s.fdMod f).sup k = s.sup k := rfl
@[simp] theorem State.line_fdMod (k : Nat) : (s.fdMod f).line k = s.line k := rfl
@[simp] theorem State.blzU_fdMod (k : Nat) : (s.fdMod f).blzU k = s.blzU k := rfl
@[simp] theorem State.gauge_fdMod (k : Nat) : (s.fdMod f).gauge k = s.gauge k := rfl
@[simp] theorem State.rcu_fdMod (k : Nat) : (s.fdMod f).rcu k = s.rcu k := rfl
@[simp] theorem State.wbu_fdMod (k : Nat) : (s.fdMod f).wbu k = s.wbu k := rfl
end

section
variable (s : State) (f : FioU → FioU)
@[simp] theorem State.fioMod_regs : (s.fioMod f).regs = s.regs := rfl
@[simp] theorem State.fioMod_mram : (s.fioMod f).mram = s.mram := rfl
@[simp] theorem State.fioMod_claims : (s.fioMod f).claims = s.claims := rfl
@[simp] theorem State.fioMod_ended : (s.fioMod f).ended = s.ended := rfl
@[simp] theorem State.fioMod_rsp : (s.fioMod f).rsp = s.rsp := rfl
@[simp] theorem State.fioMod_spiOut : (s.fioMod f).spiOut = s.spiOut := rfl
@[simp] theorem State.fioMod_snaps : (s.fioMod f).snaps = s.snaps := rfl
@[simp] theorem State.fioMod_holds : (s.fioMod f).holds = s.holds := rfl
@[simp] theorem State.fioMod_inds : (s.fioMod f).inds = s.inds := rfl
@[simp] theorem State.fioMod_hbiReady : (s.fioMod f).hbiReady = s.hbiReady := rfl
@[simp] theorem State.fioMod_supPend : (s.fioMod f).supPend = s.supPend := rfl
@[simp] theorem State.fioMod_links : (s.fioMod f).links = s.links := rfl
@[simp] theorem State.fioMod_mramErr : (s.fioMod f).mramErr = s.mramErr := rfl
@[simp] theorem State.fioMod_mramOut : (s.fioMod f).mramOut = s.mramOut := rfl
@[simp] theorem State.fioMod_tally : (s.fioMod f).tally = s.tally := rfl
@[simp] theorem State.fioMod_buckets : (s.fioMod f).buckets = s.buckets := rfl
@[simp] theorem State.fioMod_tb : (s.fioMod f).tb = s.tb := rfl
@[simp] theorem State.fioMod_alms : (s.fioMod f).alms = s.alms := rfl
@[simp] theorem State.fioMod_pins : (s.fioMod f).pins = s.pins := rfl
@[simp] theorem State.fioMod_tick : (s.fioMod f).tick = s.tick := rfl
@[simp] theorem State.fioMod_stepFlag : (s.fioMod f).stepFlag = s.stepFlag := rfl
@[simp] theorem State.fioMod_phase : (s.fioMod f).phase = s.phase := rfl
@[simp] theorem State.fioMod_lanes : (s.fioMod f).lanes = s.lanes := rfl
@[simp] theorem State.fioMod_clSrc : (s.fioMod f).clSrc = s.clSrc := rfl
@[simp] theorem State.fioMod_expect : (s.fioMod f).expect = s.expect := rfl
@[simp] theorem State.fioMod_late : (s.fioMod f).late = s.late := rfl
@[simp] theorem State.fioMod_trk : (s.fioMod f).trk = s.trk := rfl
@[simp] theorem State.fioMod_fpds : (s.fioMod f).fpds = s.fpds := rfl
@[simp] theorem State.fioMod_dets : (s.fioMod f).dets = s.dets := rfl
@[simp] theorem State.fioMod_light : (s.fioMod f).light = s.light := rfl
@[simp] theorem State.fioMod_heldRegs : (s.fioMod f).heldRegs = s.heldRegs := rfl
@[simp] theorem State.fioMod_cores : (s.fioMod f).cores = s.cores := rfl
@[simp] theorem State.fioMod_elems : (s.fioMod f).elems = s.elems := rfl
@[simp] theorem State.fioMod_sups : (s.fioMod f).sups = s.sups := rfl
@[simp] theorem State.fioMod_inForce : (s.fioMod f).inForce = s.inForce := rfl
@[simp] theorem State.fioMod_cans : (s.fioMod f).cans = s.cans := rfl
@[simp] theorem State.fioMod_eth : (s.fioMod f).eth = s.eth := rfl
@[simp] theorem State.fioMod_field_ : (s.fioMod f).field_ = s.field_ := rfl
@[simp] theorem State.fioMod_fio : (s.fioMod f).fio = f s.fio := rfl
@[simp] theorem State.fioMod_lines : (s.fioMod f).lines = s.lines := rfl
@[simp] theorem State.fioMod_tripKey : (s.fioMod f).tripKey = s.tripKey := rfl
@[simp] theorem State.fioMod_lathe : (s.fioMod f).lathe = s.lathe := rfl
@[simp] theorem State.fioMod_ticks : (s.fioMod f).ticks = s.ticks := rfl
@[simp] theorem State.fioMod_recs : (s.fioMod f).recs = s.recs := rfl
@[simp] theorem State.fioMod_wbs : (s.fioMod f).wbs = s.wbs := rfl
@[simp] theorem State.fioMod_gauges : (s.fioMod f).gauges = s.gauges := rfl
@[simp] theorem State.fioMod_blz : (s.fioMod f).blz = s.blz := rfl
@[simp] theorem State.fioMod_pair : (s.fioMod f).pair = s.pair := rfl
@[simp] theorem State.fioMod_meter : (s.fioMod f).meter = s.meter := rfl
@[simp] theorem State.fioMod_power : (s.fioMod f).power = s.power := rfl
@[simp] theorem State.fioMod_freeCtr : (s.fioMod f).freeCtr = s.freeCtr := rfl
@[simp] theorem State.fioMod_pending : (s.fioMod f).pending = s.pending := rfl
@[simp] theorem State.rd_fioMod (k : Nat) : (s.fioMod f).rd k = s.rd k := rfl
@[simp] theorem State.mb_fioMod (k : Nat) : (s.fioMod f).mb k = s.mb k := rfl
@[simp] theorem State.ind_fioMod (k : Nat) : (s.fioMod f).ind k = s.ind k := rfl
@[simp] theorem State.link_fioMod (k : Nat) : (s.fioMod f).link k = s.link k := rfl
@[simp] theorem State.lane_fioMod (k : Nat) : (s.fioMod f).lane k = s.lane k := rfl
@[simp] theorem State.tracker_fioMod (k : Nat) : (s.fioMod f).tracker k = s.tracker k := rfl
@[simp] theorem State.fpd_fioMod (k : Nat) : (s.fioMod f).fpd k = s.fpd k := rfl
@[simp] theorem State.det_fioMod (k : Nat) : (s.fioMod f).det k = s.det k := rfl
@[simp] theorem State.pin_fioMod (k : Nat) : (s.fioMod f).pin k = s.pin k := rfl
@[simp] theorem State.alm_fioMod (k : Nat) : (s.fioMod f).alm k = s.alm k := rfl
@[simp] theorem State.bucket_fioMod (k : Nat) : (s.fioMod f).bucket k = s.bucket k := rfl
@[simp] theorem State.clPhase_fioMod (k : Nat) : (s.fioMod f).clPhase k = s.clPhase k := rfl
@[simp] theorem State.claim_fioMod (k : Nat) : (s.fioMod f).claim k = s.claim k := rfl
@[simp] theorem State.can_fioMod (k : Nat) : (s.fioMod f).can k = s.can k := rfl
@[simp] theorem State.supBits_fioMod (k : Nat) : (s.fioMod f).supBits k = s.supBits k := rfl
@[simp] theorem State.eff_fioMod (k : Nat) : (s.fioMod f).eff k = s.eff k := rfl
@[simp] theorem State.core_fioMod (k : Nat) : (s.fioMod f).core k = s.core k := rfl
@[simp] theorem State.elem_fioMod (k : Nat) : (s.fioMod f).elem k = s.elem k := rfl
@[simp] theorem State.sup_fioMod (k : Nat) : (s.fioMod f).sup k = s.sup k := rfl
@[simp] theorem State.line_fioMod (k : Nat) : (s.fioMod f).line k = s.line k := rfl
@[simp] theorem State.blzU_fioMod (k : Nat) : (s.fioMod f).blzU k = s.blzU k := rfl
@[simp] theorem State.gauge_fioMod (k : Nat) : (s.fioMod f).gauge k = s.gauge k := rfl
@[simp] theorem State.rcu_fioMod (k : Nat) : (s.fioMod f).rcu k = s.rcu k := rfl
@[simp] theorem State.wbu_fioMod (k : Nat) : (s.fioMod f).wbu k = s.wbu k := rfl
end

section
variable (s : State) (f : LatheU → LatheU)
@[simp] theorem State.lthMod_regs : (s.lthMod f).regs = s.regs := rfl
@[simp] theorem State.lthMod_mram : (s.lthMod f).mram = s.mram := rfl
@[simp] theorem State.lthMod_claims : (s.lthMod f).claims = s.claims := rfl
@[simp] theorem State.lthMod_ended : (s.lthMod f).ended = s.ended := rfl
@[simp] theorem State.lthMod_rsp : (s.lthMod f).rsp = s.rsp := rfl
@[simp] theorem State.lthMod_spiOut : (s.lthMod f).spiOut = s.spiOut := rfl
@[simp] theorem State.lthMod_snaps : (s.lthMod f).snaps = s.snaps := rfl
@[simp] theorem State.lthMod_holds : (s.lthMod f).holds = s.holds := rfl
@[simp] theorem State.lthMod_inds : (s.lthMod f).inds = s.inds := rfl
@[simp] theorem State.lthMod_hbiReady : (s.lthMod f).hbiReady = s.hbiReady := rfl
@[simp] theorem State.lthMod_supPend : (s.lthMod f).supPend = s.supPend := rfl
@[simp] theorem State.lthMod_links : (s.lthMod f).links = s.links := rfl
@[simp] theorem State.lthMod_mramErr : (s.lthMod f).mramErr = s.mramErr := rfl
@[simp] theorem State.lthMod_mramOut : (s.lthMod f).mramOut = s.mramOut := rfl
@[simp] theorem State.lthMod_tally : (s.lthMod f).tally = s.tally := rfl
@[simp] theorem State.lthMod_buckets : (s.lthMod f).buckets = s.buckets := rfl
@[simp] theorem State.lthMod_tb : (s.lthMod f).tb = s.tb := rfl
@[simp] theorem State.lthMod_alms : (s.lthMod f).alms = s.alms := rfl
@[simp] theorem State.lthMod_pins : (s.lthMod f).pins = s.pins := rfl
@[simp] theorem State.lthMod_tick : (s.lthMod f).tick = s.tick := rfl
@[simp] theorem State.lthMod_stepFlag : (s.lthMod f).stepFlag = s.stepFlag := rfl
@[simp] theorem State.lthMod_phase : (s.lthMod f).phase = s.phase := rfl
@[simp] theorem State.lthMod_lanes : (s.lthMod f).lanes = s.lanes := rfl
@[simp] theorem State.lthMod_clSrc : (s.lthMod f).clSrc = s.clSrc := rfl
@[simp] theorem State.lthMod_expect : (s.lthMod f).expect = s.expect := rfl
@[simp] theorem State.lthMod_late : (s.lthMod f).late = s.late := rfl
@[simp] theorem State.lthMod_trk : (s.lthMod f).trk = s.trk := rfl
@[simp] theorem State.lthMod_fpds : (s.lthMod f).fpds = s.fpds := rfl
@[simp] theorem State.lthMod_dets : (s.lthMod f).dets = s.dets := rfl
@[simp] theorem State.lthMod_light : (s.lthMod f).light = s.light := rfl
@[simp] theorem State.lthMod_heldRegs : (s.lthMod f).heldRegs = s.heldRegs := rfl
@[simp] theorem State.lthMod_cores : (s.lthMod f).cores = s.cores := rfl
@[simp] theorem State.lthMod_elems : (s.lthMod f).elems = s.elems := rfl
@[simp] theorem State.lthMod_sups : (s.lthMod f).sups = s.sups := rfl
@[simp] theorem State.lthMod_inForce : (s.lthMod f).inForce = s.inForce := rfl
@[simp] theorem State.lthMod_cans : (s.lthMod f).cans = s.cans := rfl
@[simp] theorem State.lthMod_eth : (s.lthMod f).eth = s.eth := rfl
@[simp] theorem State.lthMod_field_ : (s.lthMod f).field_ = s.field_ := rfl
@[simp] theorem State.lthMod_fio : (s.lthMod f).fio = s.fio := rfl
@[simp] theorem State.lthMod_lines : (s.lthMod f).lines = s.lines := rfl
@[simp] theorem State.lthMod_tripKey : (s.lthMod f).tripKey = s.tripKey := rfl
@[simp] theorem State.lthMod_lathe : (s.lthMod f).lathe = f s.lathe := rfl
@[simp] theorem State.lthMod_ticks : (s.lthMod f).ticks = s.ticks := rfl
@[simp] theorem State.lthMod_recs : (s.lthMod f).recs = s.recs := rfl
@[simp] theorem State.lthMod_wbs : (s.lthMod f).wbs = s.wbs := rfl
@[simp] theorem State.lthMod_gauges : (s.lthMod f).gauges = s.gauges := rfl
@[simp] theorem State.lthMod_blz : (s.lthMod f).blz = s.blz := rfl
@[simp] theorem State.lthMod_pair : (s.lthMod f).pair = s.pair := rfl
@[simp] theorem State.lthMod_meter : (s.lthMod f).meter = s.meter := rfl
@[simp] theorem State.lthMod_power : (s.lthMod f).power = s.power := rfl
@[simp] theorem State.lthMod_freeCtr : (s.lthMod f).freeCtr = s.freeCtr := rfl
@[simp] theorem State.lthMod_pending : (s.lthMod f).pending = s.pending := rfl
@[simp] theorem State.rd_lthMod (k : Nat) : (s.lthMod f).rd k = s.rd k := rfl
@[simp] theorem State.mb_lthMod (k : Nat) : (s.lthMod f).mb k = s.mb k := rfl
@[simp] theorem State.ind_lthMod (k : Nat) : (s.lthMod f).ind k = s.ind k := rfl
@[simp] theorem State.link_lthMod (k : Nat) : (s.lthMod f).link k = s.link k := rfl
@[simp] theorem State.lane_lthMod (k : Nat) : (s.lthMod f).lane k = s.lane k := rfl
@[simp] theorem State.tracker_lthMod (k : Nat) : (s.lthMod f).tracker k = s.tracker k := rfl
@[simp] theorem State.fpd_lthMod (k : Nat) : (s.lthMod f).fpd k = s.fpd k := rfl
@[simp] theorem State.det_lthMod (k : Nat) : (s.lthMod f).det k = s.det k := rfl
@[simp] theorem State.pin_lthMod (k : Nat) : (s.lthMod f).pin k = s.pin k := rfl
@[simp] theorem State.alm_lthMod (k : Nat) : (s.lthMod f).alm k = s.alm k := rfl
@[simp] theorem State.bucket_lthMod (k : Nat) : (s.lthMod f).bucket k = s.bucket k := rfl
@[simp] theorem State.clPhase_lthMod (k : Nat) : (s.lthMod f).clPhase k = s.clPhase k := rfl
@[simp] theorem State.claim_lthMod (k : Nat) : (s.lthMod f).claim k = s.claim k := rfl
@[simp] theorem State.can_lthMod (k : Nat) : (s.lthMod f).can k = s.can k := rfl
@[simp] theorem State.supBits_lthMod (k : Nat) : (s.lthMod f).supBits k = s.supBits k := rfl
@[simp] theorem State.eff_lthMod (k : Nat) : (s.lthMod f).eff k = s.eff k := rfl
@[simp] theorem State.core_lthMod (k : Nat) : (s.lthMod f).core k = s.core k := rfl
@[simp] theorem State.elem_lthMod (k : Nat) : (s.lthMod f).elem k = s.elem k := rfl
@[simp] theorem State.sup_lthMod (k : Nat) : (s.lthMod f).sup k = s.sup k := rfl
@[simp] theorem State.line_lthMod (k : Nat) : (s.lthMod f).line k = s.line k := rfl
@[simp] theorem State.blzU_lthMod (k : Nat) : (s.lthMod f).blzU k = s.blzU k := rfl
@[simp] theorem State.gauge_lthMod (k : Nat) : (s.lthMod f).gauge k = s.gauge k := rfl
@[simp] theorem State.rcu_lthMod (k : Nat) : (s.lthMod f).rcu k = s.rcu k := rfl
@[simp] theorem State.wbu_lthMod (k : Nat) : (s.lthMod f).wbu k = s.wbu k := rfl
end

section
variable (s : State) (f : PairU → PairU)
@[simp] theorem State.pairMod_regs : (s.pairMod f).regs = s.regs := rfl
@[simp] theorem State.pairMod_mram : (s.pairMod f).mram = s.mram := rfl
@[simp] theorem State.pairMod_claims : (s.pairMod f).claims = s.claims := rfl
@[simp] theorem State.pairMod_ended : (s.pairMod f).ended = s.ended := rfl
@[simp] theorem State.pairMod_rsp : (s.pairMod f).rsp = s.rsp := rfl
@[simp] theorem State.pairMod_spiOut : (s.pairMod f).spiOut = s.spiOut := rfl
@[simp] theorem State.pairMod_snaps : (s.pairMod f).snaps = s.snaps := rfl
@[simp] theorem State.pairMod_holds : (s.pairMod f).holds = s.holds := rfl
@[simp] theorem State.pairMod_inds : (s.pairMod f).inds = s.inds := rfl
@[simp] theorem State.pairMod_hbiReady : (s.pairMod f).hbiReady = s.hbiReady := rfl
@[simp] theorem State.pairMod_supPend : (s.pairMod f).supPend = s.supPend := rfl
@[simp] theorem State.pairMod_links : (s.pairMod f).links = s.links := rfl
@[simp] theorem State.pairMod_mramErr : (s.pairMod f).mramErr = s.mramErr := rfl
@[simp] theorem State.pairMod_mramOut : (s.pairMod f).mramOut = s.mramOut := rfl
@[simp] theorem State.pairMod_tally : (s.pairMod f).tally = s.tally := rfl
@[simp] theorem State.pairMod_buckets : (s.pairMod f).buckets = s.buckets := rfl
@[simp] theorem State.pairMod_tb : (s.pairMod f).tb = s.tb := rfl
@[simp] theorem State.pairMod_alms : (s.pairMod f).alms = s.alms := rfl
@[simp] theorem State.pairMod_pins : (s.pairMod f).pins = s.pins := rfl
@[simp] theorem State.pairMod_tick : (s.pairMod f).tick = s.tick := rfl
@[simp] theorem State.pairMod_stepFlag : (s.pairMod f).stepFlag = s.stepFlag := rfl
@[simp] theorem State.pairMod_phase : (s.pairMod f).phase = s.phase := rfl
@[simp] theorem State.pairMod_lanes : (s.pairMod f).lanes = s.lanes := rfl
@[simp] theorem State.pairMod_clSrc : (s.pairMod f).clSrc = s.clSrc := rfl
@[simp] theorem State.pairMod_expect : (s.pairMod f).expect = s.expect := rfl
@[simp] theorem State.pairMod_late : (s.pairMod f).late = s.late := rfl
@[simp] theorem State.pairMod_trk : (s.pairMod f).trk = s.trk := rfl
@[simp] theorem State.pairMod_fpds : (s.pairMod f).fpds = s.fpds := rfl
@[simp] theorem State.pairMod_dets : (s.pairMod f).dets = s.dets := rfl
@[simp] theorem State.pairMod_light : (s.pairMod f).light = s.light := rfl
@[simp] theorem State.pairMod_heldRegs : (s.pairMod f).heldRegs = s.heldRegs := rfl
@[simp] theorem State.pairMod_cores : (s.pairMod f).cores = s.cores := rfl
@[simp] theorem State.pairMod_elems : (s.pairMod f).elems = s.elems := rfl
@[simp] theorem State.pairMod_sups : (s.pairMod f).sups = s.sups := rfl
@[simp] theorem State.pairMod_inForce : (s.pairMod f).inForce = s.inForce := rfl
@[simp] theorem State.pairMod_cans : (s.pairMod f).cans = s.cans := rfl
@[simp] theorem State.pairMod_eth : (s.pairMod f).eth = s.eth := rfl
@[simp] theorem State.pairMod_field_ : (s.pairMod f).field_ = s.field_ := rfl
@[simp] theorem State.pairMod_fio : (s.pairMod f).fio = s.fio := rfl
@[simp] theorem State.pairMod_lines : (s.pairMod f).lines = s.lines := rfl
@[simp] theorem State.pairMod_tripKey : (s.pairMod f).tripKey = s.tripKey := rfl
@[simp] theorem State.pairMod_lathe : (s.pairMod f).lathe = s.lathe := rfl
@[simp] theorem State.pairMod_ticks : (s.pairMod f).ticks = s.ticks := rfl
@[simp] theorem State.pairMod_recs : (s.pairMod f).recs = s.recs := rfl
@[simp] theorem State.pairMod_wbs : (s.pairMod f).wbs = s.wbs := rfl
@[simp] theorem State.pairMod_gauges : (s.pairMod f).gauges = s.gauges := rfl
@[simp] theorem State.pairMod_blz : (s.pairMod f).blz = s.blz := rfl
@[simp] theorem State.pairMod_pair : (s.pairMod f).pair = f s.pair := rfl
@[simp] theorem State.pairMod_meter : (s.pairMod f).meter = s.meter := rfl
@[simp] theorem State.pairMod_power : (s.pairMod f).power = s.power := rfl
@[simp] theorem State.pairMod_freeCtr : (s.pairMod f).freeCtr = s.freeCtr := rfl
@[simp] theorem State.pairMod_pending : (s.pairMod f).pending = s.pending := rfl
@[simp] theorem State.rd_pairMod (k : Nat) : (s.pairMod f).rd k = s.rd k := rfl
@[simp] theorem State.mb_pairMod (k : Nat) : (s.pairMod f).mb k = s.mb k := rfl
@[simp] theorem State.ind_pairMod (k : Nat) : (s.pairMod f).ind k = s.ind k := rfl
@[simp] theorem State.link_pairMod (k : Nat) : (s.pairMod f).link k = s.link k := rfl
@[simp] theorem State.lane_pairMod (k : Nat) : (s.pairMod f).lane k = s.lane k := rfl
@[simp] theorem State.tracker_pairMod (k : Nat) : (s.pairMod f).tracker k = s.tracker k := rfl
@[simp] theorem State.fpd_pairMod (k : Nat) : (s.pairMod f).fpd k = s.fpd k := rfl
@[simp] theorem State.det_pairMod (k : Nat) : (s.pairMod f).det k = s.det k := rfl
@[simp] theorem State.pin_pairMod (k : Nat) : (s.pairMod f).pin k = s.pin k := rfl
@[simp] theorem State.alm_pairMod (k : Nat) : (s.pairMod f).alm k = s.alm k := rfl
@[simp] theorem State.bucket_pairMod (k : Nat) : (s.pairMod f).bucket k = s.bucket k := rfl
@[simp] theorem State.clPhase_pairMod (k : Nat) : (s.pairMod f).clPhase k = s.clPhase k := rfl
@[simp] theorem State.claim_pairMod (k : Nat) : (s.pairMod f).claim k = s.claim k := rfl
@[simp] theorem State.can_pairMod (k : Nat) : (s.pairMod f).can k = s.can k := rfl
@[simp] theorem State.supBits_pairMod (k : Nat) : (s.pairMod f).supBits k = s.supBits k := rfl
@[simp] theorem State.eff_pairMod (k : Nat) : (s.pairMod f).eff k = s.eff k := rfl
@[simp] theorem State.core_pairMod (k : Nat) : (s.pairMod f).core k = s.core k := rfl
@[simp] theorem State.elem_pairMod (k : Nat) : (s.pairMod f).elem k = s.elem k := rfl
@[simp] theorem State.sup_pairMod (k : Nat) : (s.pairMod f).sup k = s.sup k := rfl
@[simp] theorem State.line_pairMod (k : Nat) : (s.pairMod f).line k = s.line k := rfl
@[simp] theorem State.blzU_pairMod (k : Nat) : (s.pairMod f).blzU k = s.blzU k := rfl
@[simp] theorem State.gauge_pairMod (k : Nat) : (s.pairMod f).gauge k = s.gauge k := rfl
@[simp] theorem State.rcu_pairMod (k : Nat) : (s.pairMod f).rcu k = s.rcu k := rfl
@[simp] theorem State.wbu_pairMod (k : Nat) : (s.pairMod f).wbu k = s.wbu k := rfl
end

section
variable (s : State) (f : PowerU → PowerU)
@[simp] theorem State.pwrMod_regs : (s.pwrMod f).regs = s.regs := rfl
@[simp] theorem State.pwrMod_mram : (s.pwrMod f).mram = s.mram := rfl
@[simp] theorem State.pwrMod_claims : (s.pwrMod f).claims = s.claims := rfl
@[simp] theorem State.pwrMod_ended : (s.pwrMod f).ended = s.ended := rfl
@[simp] theorem State.pwrMod_rsp : (s.pwrMod f).rsp = s.rsp := rfl
@[simp] theorem State.pwrMod_spiOut : (s.pwrMod f).spiOut = s.spiOut := rfl
@[simp] theorem State.pwrMod_snaps : (s.pwrMod f).snaps = s.snaps := rfl
@[simp] theorem State.pwrMod_holds : (s.pwrMod f).holds = s.holds := rfl
@[simp] theorem State.pwrMod_inds : (s.pwrMod f).inds = s.inds := rfl
@[simp] theorem State.pwrMod_hbiReady : (s.pwrMod f).hbiReady = s.hbiReady := rfl
@[simp] theorem State.pwrMod_supPend : (s.pwrMod f).supPend = s.supPend := rfl
@[simp] theorem State.pwrMod_links : (s.pwrMod f).links = s.links := rfl
@[simp] theorem State.pwrMod_mramErr : (s.pwrMod f).mramErr = s.mramErr := rfl
@[simp] theorem State.pwrMod_mramOut : (s.pwrMod f).mramOut = s.mramOut := rfl
@[simp] theorem State.pwrMod_tally : (s.pwrMod f).tally = s.tally := rfl
@[simp] theorem State.pwrMod_buckets : (s.pwrMod f).buckets = s.buckets := rfl
@[simp] theorem State.pwrMod_tb : (s.pwrMod f).tb = s.tb := rfl
@[simp] theorem State.pwrMod_alms : (s.pwrMod f).alms = s.alms := rfl
@[simp] theorem State.pwrMod_pins : (s.pwrMod f).pins = s.pins := rfl
@[simp] theorem State.pwrMod_tick : (s.pwrMod f).tick = s.tick := rfl
@[simp] theorem State.pwrMod_stepFlag : (s.pwrMod f).stepFlag = s.stepFlag := rfl
@[simp] theorem State.pwrMod_phase : (s.pwrMod f).phase = s.phase := rfl
@[simp] theorem State.pwrMod_lanes : (s.pwrMod f).lanes = s.lanes := rfl
@[simp] theorem State.pwrMod_clSrc : (s.pwrMod f).clSrc = s.clSrc := rfl
@[simp] theorem State.pwrMod_expect : (s.pwrMod f).expect = s.expect := rfl
@[simp] theorem State.pwrMod_late : (s.pwrMod f).late = s.late := rfl
@[simp] theorem State.pwrMod_trk : (s.pwrMod f).trk = s.trk := rfl
@[simp] theorem State.pwrMod_fpds : (s.pwrMod f).fpds = s.fpds := rfl
@[simp] theorem State.pwrMod_dets : (s.pwrMod f).dets = s.dets := rfl
@[simp] theorem State.pwrMod_light : (s.pwrMod f).light = s.light := rfl
@[simp] theorem State.pwrMod_heldRegs : (s.pwrMod f).heldRegs = s.heldRegs := rfl
@[simp] theorem State.pwrMod_cores : (s.pwrMod f).cores = s.cores := rfl
@[simp] theorem State.pwrMod_elems : (s.pwrMod f).elems = s.elems := rfl
@[simp] theorem State.pwrMod_sups : (s.pwrMod f).sups = s.sups := rfl
@[simp] theorem State.pwrMod_inForce : (s.pwrMod f).inForce = s.inForce := rfl
@[simp] theorem State.pwrMod_cans : (s.pwrMod f).cans = s.cans := rfl
@[simp] theorem State.pwrMod_eth : (s.pwrMod f).eth = s.eth := rfl
@[simp] theorem State.pwrMod_field_ : (s.pwrMod f).field_ = s.field_ := rfl
@[simp] theorem State.pwrMod_fio : (s.pwrMod f).fio = s.fio := rfl
@[simp] theorem State.pwrMod_lines : (s.pwrMod f).lines = s.lines := rfl
@[simp] theorem State.pwrMod_tripKey : (s.pwrMod f).tripKey = s.tripKey := rfl
@[simp] theorem State.pwrMod_lathe : (s.pwrMod f).lathe = s.lathe := rfl
@[simp] theorem State.pwrMod_ticks : (s.pwrMod f).ticks = s.ticks := rfl
@[simp] theorem State.pwrMod_recs : (s.pwrMod f).recs = s.recs := rfl
@[simp] theorem State.pwrMod_wbs : (s.pwrMod f).wbs = s.wbs := rfl
@[simp] theorem State.pwrMod_gauges : (s.pwrMod f).gauges = s.gauges := rfl
@[simp] theorem State.pwrMod_blz : (s.pwrMod f).blz = s.blz := rfl
@[simp] theorem State.pwrMod_pair : (s.pwrMod f).pair = s.pair := rfl
@[simp] theorem State.pwrMod_meter : (s.pwrMod f).meter = s.meter := rfl
@[simp] theorem State.pwrMod_power : (s.pwrMod f).power = f s.power := rfl
@[simp] theorem State.pwrMod_freeCtr : (s.pwrMod f).freeCtr = s.freeCtr := rfl
@[simp] theorem State.pwrMod_pending : (s.pwrMod f).pending = s.pending := rfl
@[simp] theorem State.rd_pwrMod (k : Nat) : (s.pwrMod f).rd k = s.rd k := rfl
@[simp] theorem State.mb_pwrMod (k : Nat) : (s.pwrMod f).mb k = s.mb k := rfl
@[simp] theorem State.ind_pwrMod (k : Nat) : (s.pwrMod f).ind k = s.ind k := rfl
@[simp] theorem State.link_pwrMod (k : Nat) : (s.pwrMod f).link k = s.link k := rfl
@[simp] theorem State.lane_pwrMod (k : Nat) : (s.pwrMod f).lane k = s.lane k := rfl
@[simp] theorem State.tracker_pwrMod (k : Nat) : (s.pwrMod f).tracker k = s.tracker k := rfl
@[simp] theorem State.fpd_pwrMod (k : Nat) : (s.pwrMod f).fpd k = s.fpd k := rfl
@[simp] theorem State.det_pwrMod (k : Nat) : (s.pwrMod f).det k = s.det k := rfl
@[simp] theorem State.pin_pwrMod (k : Nat) : (s.pwrMod f).pin k = s.pin k := rfl
@[simp] theorem State.alm_pwrMod (k : Nat) : (s.pwrMod f).alm k = s.alm k := rfl
@[simp] theorem State.bucket_pwrMod (k : Nat) : (s.pwrMod f).bucket k = s.bucket k := rfl
@[simp] theorem State.clPhase_pwrMod (k : Nat) : (s.pwrMod f).clPhase k = s.clPhase k := rfl
@[simp] theorem State.claim_pwrMod (k : Nat) : (s.pwrMod f).claim k = s.claim k := rfl
@[simp] theorem State.can_pwrMod (k : Nat) : (s.pwrMod f).can k = s.can k := rfl
@[simp] theorem State.supBits_pwrMod (k : Nat) : (s.pwrMod f).supBits k = s.supBits k := rfl
@[simp] theorem State.eff_pwrMod (k : Nat) : (s.pwrMod f).eff k = s.eff k := rfl
@[simp] theorem State.core_pwrMod (k : Nat) : (s.pwrMod f).core k = s.core k := rfl
@[simp] theorem State.elem_pwrMod (k : Nat) : (s.pwrMod f).elem k = s.elem k := rfl
@[simp] theorem State.sup_pwrMod (k : Nat) : (s.pwrMod f).sup k = s.sup k := rfl
@[simp] theorem State.line_pwrMod (k : Nat) : (s.pwrMod f).line k = s.line k := rfl
@[simp] theorem State.blzU_pwrMod (k : Nat) : (s.pwrMod f).blzU k = s.blzU k := rfl
@[simp] theorem State.gauge_pwrMod (k : Nat) : (s.pwrMod f).gauge k = s.gauge k := rfl
@[simp] theorem State.rcu_pwrMod (k : Nat) : (s.pwrMod f).rcu k = s.rcu k := rfl
@[simp] theorem State.wbu_pwrMod (k : Nat) : (s.pwrMod f).wbu k = s.wbu k := rfl
end

section
variable (s : State) (f : TimeBase → TimeBase)
@[simp] theorem State.tbMod_regs : (s.tbMod f).regs = s.regs := rfl
@[simp] theorem State.tbMod_mram : (s.tbMod f).mram = s.mram := rfl
@[simp] theorem State.tbMod_claims : (s.tbMod f).claims = s.claims := rfl
@[simp] theorem State.tbMod_ended : (s.tbMod f).ended = s.ended := rfl
@[simp] theorem State.tbMod_rsp : (s.tbMod f).rsp = s.rsp := rfl
@[simp] theorem State.tbMod_spiOut : (s.tbMod f).spiOut = s.spiOut := rfl
@[simp] theorem State.tbMod_snaps : (s.tbMod f).snaps = s.snaps := rfl
@[simp] theorem State.tbMod_holds : (s.tbMod f).holds = s.holds := rfl
@[simp] theorem State.tbMod_inds : (s.tbMod f).inds = s.inds := rfl
@[simp] theorem State.tbMod_hbiReady : (s.tbMod f).hbiReady = s.hbiReady := rfl
@[simp] theorem State.tbMod_supPend : (s.tbMod f).supPend = s.supPend := rfl
@[simp] theorem State.tbMod_links : (s.tbMod f).links = s.links := rfl
@[simp] theorem State.tbMod_mramErr : (s.tbMod f).mramErr = s.mramErr := rfl
@[simp] theorem State.tbMod_mramOut : (s.tbMod f).mramOut = s.mramOut := rfl
@[simp] theorem State.tbMod_tally : (s.tbMod f).tally = s.tally := rfl
@[simp] theorem State.tbMod_buckets : (s.tbMod f).buckets = s.buckets := rfl
@[simp] theorem State.tbMod_tb : (s.tbMod f).tb = f s.tb := rfl
@[simp] theorem State.tbMod_alms : (s.tbMod f).alms = s.alms := rfl
@[simp] theorem State.tbMod_pins : (s.tbMod f).pins = s.pins := rfl
@[simp] theorem State.tbMod_tick : (s.tbMod f).tick = s.tick := rfl
@[simp] theorem State.tbMod_stepFlag : (s.tbMod f).stepFlag = s.stepFlag := rfl
@[simp] theorem State.tbMod_phase : (s.tbMod f).phase = s.phase := rfl
@[simp] theorem State.tbMod_lanes : (s.tbMod f).lanes = s.lanes := rfl
@[simp] theorem State.tbMod_clSrc : (s.tbMod f).clSrc = s.clSrc := rfl
@[simp] theorem State.tbMod_expect : (s.tbMod f).expect = s.expect := rfl
@[simp] theorem State.tbMod_late : (s.tbMod f).late = s.late := rfl
@[simp] theorem State.tbMod_trk : (s.tbMod f).trk = s.trk := rfl
@[simp] theorem State.tbMod_fpds : (s.tbMod f).fpds = s.fpds := rfl
@[simp] theorem State.tbMod_dets : (s.tbMod f).dets = s.dets := rfl
@[simp] theorem State.tbMod_light : (s.tbMod f).light = s.light := rfl
@[simp] theorem State.tbMod_heldRegs : (s.tbMod f).heldRegs = s.heldRegs := rfl
@[simp] theorem State.tbMod_cores : (s.tbMod f).cores = s.cores := rfl
@[simp] theorem State.tbMod_elems : (s.tbMod f).elems = s.elems := rfl
@[simp] theorem State.tbMod_sups : (s.tbMod f).sups = s.sups := rfl
@[simp] theorem State.tbMod_inForce : (s.tbMod f).inForce = s.inForce := rfl
@[simp] theorem State.tbMod_cans : (s.tbMod f).cans = s.cans := rfl
@[simp] theorem State.tbMod_eth : (s.tbMod f).eth = s.eth := rfl
@[simp] theorem State.tbMod_field_ : (s.tbMod f).field_ = s.field_ := rfl
@[simp] theorem State.tbMod_fio : (s.tbMod f).fio = s.fio := rfl
@[simp] theorem State.tbMod_lines : (s.tbMod f).lines = s.lines := rfl
@[simp] theorem State.tbMod_tripKey : (s.tbMod f).tripKey = s.tripKey := rfl
@[simp] theorem State.tbMod_lathe : (s.tbMod f).lathe = s.lathe := rfl
@[simp] theorem State.tbMod_ticks : (s.tbMod f).ticks = s.ticks := rfl
@[simp] theorem State.tbMod_recs : (s.tbMod f).recs = s.recs := rfl
@[simp] theorem State.tbMod_wbs : (s.tbMod f).wbs = s.wbs := rfl
@[simp] theorem State.tbMod_gauges : (s.tbMod f).gauges = s.gauges := rfl
@[simp] theorem State.tbMod_blz : (s.tbMod f).blz = s.blz := rfl
@[simp] theorem State.tbMod_pair : (s.tbMod f).pair = s.pair := rfl
@[simp] theorem State.tbMod_meter : (s.tbMod f).meter = s.meter := rfl
@[simp] theorem State.tbMod_power : (s.tbMod f).power = s.power := rfl
@[simp] theorem State.tbMod_freeCtr : (s.tbMod f).freeCtr = s.freeCtr := rfl
@[simp] theorem State.tbMod_pending : (s.tbMod f).pending = s.pending := rfl
@[simp] theorem State.rd_tbMod (k : Nat) : (s.tbMod f).rd k = s.rd k := rfl
@[simp] theorem State.mb_tbMod (k : Nat) : (s.tbMod f).mb k = s.mb k := rfl
@[simp] theorem State.ind_tbMod (k : Nat) : (s.tbMod f).ind k = s.ind k := rfl
@[simp] theorem State.link_tbMod (k : Nat) : (s.tbMod f).link k = s.link k := rfl
@[simp] theorem State.lane_tbMod (k : Nat) : (s.tbMod f).lane k = s.lane k := rfl
@[simp] theorem State.tracker_tbMod (k : Nat) : (s.tbMod f).tracker k = s.tracker k := rfl
@[simp] theorem State.fpd_tbMod (k : Nat) : (s.tbMod f).fpd k = s.fpd k := rfl
@[simp] theorem State.det_tbMod (k : Nat) : (s.tbMod f).det k = s.det k := rfl
@[simp] theorem State.pin_tbMod (k : Nat) : (s.tbMod f).pin k = s.pin k := rfl
@[simp] theorem State.alm_tbMod (k : Nat) : (s.tbMod f).alm k = s.alm k := rfl
@[simp] theorem State.bucket_tbMod (k : Nat) : (s.tbMod f).bucket k = s.bucket k := rfl
@[simp] theorem State.clPhase_tbMod (k : Nat) : (s.tbMod f).clPhase k = s.clPhase k := rfl
@[simp] theorem State.claim_tbMod (k : Nat) : (s.tbMod f).claim k = s.claim k := rfl
@[simp] theorem State.can_tbMod (k : Nat) : (s.tbMod f).can k = s.can k := rfl
@[simp] theorem State.supBits_tbMod (k : Nat) : (s.tbMod f).supBits k = s.supBits k := rfl
@[simp] theorem State.eff_tbMod (k : Nat) : (s.tbMod f).eff k = s.eff k := rfl
@[simp] theorem State.core_tbMod (k : Nat) : (s.tbMod f).core k = s.core k := rfl
@[simp] theorem State.elem_tbMod (k : Nat) : (s.tbMod f).elem k = s.elem k := rfl
@[simp] theorem State.sup_tbMod (k : Nat) : (s.tbMod f).sup k = s.sup k := rfl
@[simp] theorem State.line_tbMod (k : Nat) : (s.tbMod f).line k = s.line k := rfl
@[simp] theorem State.blzU_tbMod (k : Nat) : (s.tbMod f).blzU k = s.blzU k := rfl
@[simp] theorem State.gauge_tbMod (k : Nat) : (s.tbMod f).gauge k = s.gauge k := rfl
@[simp] theorem State.rcu_tbMod (k : Nat) : (s.tbMod f).rcu k = s.rcu k := rfl
@[simp] theorem State.wbu_tbMod (k : Nat) : (s.tbMod f).wbu k = s.wbu k := rfl
end

section
variable (s : State) (f : TallyU → TallyU)
@[simp] theorem State.talMod_regs : (s.talMod f).regs = s.regs := rfl
@[simp] theorem State.talMod_mram : (s.talMod f).mram = s.mram := rfl
@[simp] theorem State.talMod_claims : (s.talMod f).claims = s.claims := rfl
@[simp] theorem State.talMod_ended : (s.talMod f).ended = s.ended := rfl
@[simp] theorem State.talMod_rsp : (s.talMod f).rsp = s.rsp := rfl
@[simp] theorem State.talMod_spiOut : (s.talMod f).spiOut = s.spiOut := rfl
@[simp] theorem State.talMod_snaps : (s.talMod f).snaps = s.snaps := rfl
@[simp] theorem State.talMod_holds : (s.talMod f).holds = s.holds := rfl
@[simp] theorem State.talMod_inds : (s.talMod f).inds = s.inds := rfl
@[simp] theorem State.talMod_hbiReady : (s.talMod f).hbiReady = s.hbiReady := rfl
@[simp] theorem State.talMod_supPend : (s.talMod f).supPend = s.supPend := rfl
@[simp] theorem State.talMod_links : (s.talMod f).links = s.links := rfl
@[simp] theorem State.talMod_mramErr : (s.talMod f).mramErr = s.mramErr := rfl
@[simp] theorem State.talMod_mramOut : (s.talMod f).mramOut = s.mramOut := rfl
@[simp] theorem State.talMod_tally : (s.talMod f).tally = f s.tally := rfl
@[simp] theorem State.talMod_buckets : (s.talMod f).buckets = s.buckets := rfl
@[simp] theorem State.talMod_tb : (s.talMod f).tb = s.tb := rfl
@[simp] theorem State.talMod_alms : (s.talMod f).alms = s.alms := rfl
@[simp] theorem State.talMod_pins : (s.talMod f).pins = s.pins := rfl
@[simp] theorem State.talMod_tick : (s.talMod f).tick = s.tick := rfl
@[simp] theorem State.talMod_stepFlag : (s.talMod f).stepFlag = s.stepFlag := rfl
@[simp] theorem State.talMod_phase : (s.talMod f).phase = s.phase := rfl
@[simp] theorem State.talMod_lanes : (s.talMod f).lanes = s.lanes := rfl
@[simp] theorem State.talMod_clSrc : (s.talMod f).clSrc = s.clSrc := rfl
@[simp] theorem State.talMod_expect : (s.talMod f).expect = s.expect := rfl
@[simp] theorem State.talMod_late : (s.talMod f).late = s.late := rfl
@[simp] theorem State.talMod_trk : (s.talMod f).trk = s.trk := rfl
@[simp] theorem State.talMod_fpds : (s.talMod f).fpds = s.fpds := rfl
@[simp] theorem State.talMod_dets : (s.talMod f).dets = s.dets := rfl
@[simp] theorem State.talMod_light : (s.talMod f).light = s.light := rfl
@[simp] theorem State.talMod_heldRegs : (s.talMod f).heldRegs = s.heldRegs := rfl
@[simp] theorem State.talMod_cores : (s.talMod f).cores = s.cores := rfl
@[simp] theorem State.talMod_elems : (s.talMod f).elems = s.elems := rfl
@[simp] theorem State.talMod_sups : (s.talMod f).sups = s.sups := rfl
@[simp] theorem State.talMod_inForce : (s.talMod f).inForce = s.inForce := rfl
@[simp] theorem State.talMod_cans : (s.talMod f).cans = s.cans := rfl
@[simp] theorem State.talMod_eth : (s.talMod f).eth = s.eth := rfl
@[simp] theorem State.talMod_field_ : (s.talMod f).field_ = s.field_ := rfl
@[simp] theorem State.talMod_fio : (s.talMod f).fio = s.fio := rfl
@[simp] theorem State.talMod_lines : (s.talMod f).lines = s.lines := rfl
@[simp] theorem State.talMod_tripKey : (s.talMod f).tripKey = s.tripKey := rfl
@[simp] theorem State.talMod_lathe : (s.talMod f).lathe = s.lathe := rfl
@[simp] theorem State.talMod_ticks : (s.talMod f).ticks = s.ticks := rfl
@[simp] theorem State.talMod_recs : (s.talMod f).recs = s.recs := rfl
@[simp] theorem State.talMod_wbs : (s.talMod f).wbs = s.wbs := rfl
@[simp] theorem State.talMod_gauges : (s.talMod f).gauges = s.gauges := rfl
@[simp] theorem State.talMod_blz : (s.talMod f).blz = s.blz := rfl
@[simp] theorem State.talMod_pair : (s.talMod f).pair = s.pair := rfl
@[simp] theorem State.talMod_meter : (s.talMod f).meter = s.meter := rfl
@[simp] theorem State.talMod_power : (s.talMod f).power = s.power := rfl
@[simp] theorem State.talMod_freeCtr : (s.talMod f).freeCtr = s.freeCtr := rfl
@[simp] theorem State.talMod_pending : (s.talMod f).pending = s.pending := rfl
@[simp] theorem State.rd_talMod (k : Nat) : (s.talMod f).rd k = s.rd k := rfl
@[simp] theorem State.mb_talMod (k : Nat) : (s.talMod f).mb k = s.mb k := rfl
@[simp] theorem State.ind_talMod (k : Nat) : (s.talMod f).ind k = s.ind k := rfl
@[simp] theorem State.link_talMod (k : Nat) : (s.talMod f).link k = s.link k := rfl
@[simp] theorem State.lane_talMod (k : Nat) : (s.talMod f).lane k = s.lane k := rfl
@[simp] theorem State.tracker_talMod (k : Nat) : (s.talMod f).tracker k = s.tracker k := rfl
@[simp] theorem State.fpd_talMod (k : Nat) : (s.talMod f).fpd k = s.fpd k := rfl
@[simp] theorem State.det_talMod (k : Nat) : (s.talMod f).det k = s.det k := rfl
@[simp] theorem State.pin_talMod (k : Nat) : (s.talMod f).pin k = s.pin k := rfl
@[simp] theorem State.alm_talMod (k : Nat) : (s.talMod f).alm k = s.alm k := rfl
@[simp] theorem State.bucket_talMod (k : Nat) : (s.talMod f).bucket k = s.bucket k := rfl
@[simp] theorem State.clPhase_talMod (k : Nat) : (s.talMod f).clPhase k = s.clPhase k := rfl
@[simp] theorem State.claim_talMod (k : Nat) : (s.talMod f).claim k = s.claim k := rfl
@[simp] theorem State.can_talMod (k : Nat) : (s.talMod f).can k = s.can k := rfl
@[simp] theorem State.supBits_talMod (k : Nat) : (s.talMod f).supBits k = s.supBits k := rfl
@[simp] theorem State.eff_talMod (k : Nat) : (s.talMod f).eff k = s.eff k := rfl
@[simp] theorem State.core_talMod (k : Nat) : (s.talMod f).core k = s.core k := rfl
@[simp] theorem State.elem_talMod (k : Nat) : (s.talMod f).elem k = s.elem k := rfl
@[simp] theorem State.sup_talMod (k : Nat) : (s.talMod f).sup k = s.sup k := rfl
@[simp] theorem State.line_talMod (k : Nat) : (s.talMod f).line k = s.line k := rfl
@[simp] theorem State.blzU_talMod (k : Nat) : (s.talMod f).blzU k = s.blzU k := rfl
@[simp] theorem State.gauge_talMod (k : Nat) : (s.talMod f).gauge k = s.gauge k := rfl
@[simp] theorem State.rcu_talMod (k : Nat) : (s.talMod f).rcu k = s.rcu k := rfl
@[simp] theorem State.wbu_talMod (k : Nat) : (s.talMod f).wbu k = s.wbu k := rfl
end

section
variable (s : State) (f : TickU → TickU)
@[simp] theorem State.tickMod_regs : (s.tickMod f).regs = s.regs := rfl
@[simp] theorem State.tickMod_mram : (s.tickMod f).mram = s.mram := rfl
@[simp] theorem State.tickMod_claims : (s.tickMod f).claims = s.claims := rfl
@[simp] theorem State.tickMod_ended : (s.tickMod f).ended = s.ended := rfl
@[simp] theorem State.tickMod_rsp : (s.tickMod f).rsp = s.rsp := rfl
@[simp] theorem State.tickMod_spiOut : (s.tickMod f).spiOut = s.spiOut := rfl
@[simp] theorem State.tickMod_snaps : (s.tickMod f).snaps = s.snaps := rfl
@[simp] theorem State.tickMod_holds : (s.tickMod f).holds = s.holds := rfl
@[simp] theorem State.tickMod_inds : (s.tickMod f).inds = s.inds := rfl
@[simp] theorem State.tickMod_hbiReady : (s.tickMod f).hbiReady = s.hbiReady := rfl
@[simp] theorem State.tickMod_supPend : (s.tickMod f).supPend = s.supPend := rfl
@[simp] theorem State.tickMod_links : (s.tickMod f).links = s.links := rfl
@[simp] theorem State.tickMod_mramErr : (s.tickMod f).mramErr = s.mramErr := rfl
@[simp] theorem State.tickMod_mramOut : (s.tickMod f).mramOut = s.mramOut := rfl
@[simp] theorem State.tickMod_tally : (s.tickMod f).tally = s.tally := rfl
@[simp] theorem State.tickMod_buckets : (s.tickMod f).buckets = s.buckets := rfl
@[simp] theorem State.tickMod_tb : (s.tickMod f).tb = s.tb := rfl
@[simp] theorem State.tickMod_alms : (s.tickMod f).alms = s.alms := rfl
@[simp] theorem State.tickMod_pins : (s.tickMod f).pins = s.pins := rfl
@[simp] theorem State.tickMod_tick : (s.tickMod f).tick = f s.tick := rfl
@[simp] theorem State.tickMod_stepFlag : (s.tickMod f).stepFlag = s.stepFlag := rfl
@[simp] theorem State.tickMod_phase : (s.tickMod f).phase = s.phase := rfl
@[simp] theorem State.tickMod_lanes : (s.tickMod f).lanes = s.lanes := rfl
@[simp] theorem State.tickMod_clSrc : (s.tickMod f).clSrc = s.clSrc := rfl
@[simp] theorem State.tickMod_expect : (s.tickMod f).expect = s.expect := rfl
@[simp] theorem State.tickMod_late : (s.tickMod f).late = s.late := rfl
@[simp] theorem State.tickMod_trk : (s.tickMod f).trk = s.trk := rfl
@[simp] theorem State.tickMod_fpds : (s.tickMod f).fpds = s.fpds := rfl
@[simp] theorem State.tickMod_dets : (s.tickMod f).dets = s.dets := rfl
@[simp] theorem State.tickMod_light : (s.tickMod f).light = s.light := rfl
@[simp] theorem State.tickMod_heldRegs : (s.tickMod f).heldRegs = s.heldRegs := rfl
@[simp] theorem State.tickMod_cores : (s.tickMod f).cores = s.cores := rfl
@[simp] theorem State.tickMod_elems : (s.tickMod f).elems = s.elems := rfl
@[simp] theorem State.tickMod_sups : (s.tickMod f).sups = s.sups := rfl
@[simp] theorem State.tickMod_inForce : (s.tickMod f).inForce = s.inForce := rfl
@[simp] theorem State.tickMod_cans : (s.tickMod f).cans = s.cans := rfl
@[simp] theorem State.tickMod_eth : (s.tickMod f).eth = s.eth := rfl
@[simp] theorem State.tickMod_field_ : (s.tickMod f).field_ = s.field_ := rfl
@[simp] theorem State.tickMod_fio : (s.tickMod f).fio = s.fio := rfl
@[simp] theorem State.tickMod_lines : (s.tickMod f).lines = s.lines := rfl
@[simp] theorem State.tickMod_tripKey : (s.tickMod f).tripKey = s.tripKey := rfl
@[simp] theorem State.tickMod_lathe : (s.tickMod f).lathe = s.lathe := rfl
@[simp] theorem State.tickMod_ticks : (s.tickMod f).ticks = s.ticks := rfl
@[simp] theorem State.tickMod_recs : (s.tickMod f).recs = s.recs := rfl
@[simp] theorem State.tickMod_wbs : (s.tickMod f).wbs = s.wbs := rfl
@[simp] theorem State.tickMod_gauges : (s.tickMod f).gauges = s.gauges := rfl
@[simp] theorem State.tickMod_blz : (s.tickMod f).blz = s.blz := rfl
@[simp] theorem State.tickMod_pair : (s.tickMod f).pair = s.pair := rfl
@[simp] theorem State.tickMod_meter : (s.tickMod f).meter = s.meter := rfl
@[simp] theorem State.tickMod_power : (s.tickMod f).power = s.power := rfl
@[simp] theorem State.tickMod_freeCtr : (s.tickMod f).freeCtr = s.freeCtr := rfl
@[simp] theorem State.tickMod_pending : (s.tickMod f).pending = s.pending := rfl
@[simp] theorem State.rd_tickMod (k : Nat) : (s.tickMod f).rd k = s.rd k := rfl
@[simp] theorem State.mb_tickMod (k : Nat) : (s.tickMod f).mb k = s.mb k := rfl
@[simp] theorem State.ind_tickMod (k : Nat) : (s.tickMod f).ind k = s.ind k := rfl
@[simp] theorem State.link_tickMod (k : Nat) : (s.tickMod f).link k = s.link k := rfl
@[simp] theorem State.lane_tickMod (k : Nat) : (s.tickMod f).lane k = s.lane k := rfl
@[simp] theorem State.tracker_tickMod (k : Nat) : (s.tickMod f).tracker k = s.tracker k := rfl
@[simp] theorem State.fpd_tickMod (k : Nat) : (s.tickMod f).fpd k = s.fpd k := rfl
@[simp] theorem State.det_tickMod (k : Nat) : (s.tickMod f).det k = s.det k := rfl
@[simp] theorem State.pin_tickMod (k : Nat) : (s.tickMod f).pin k = s.pin k := rfl
@[simp] theorem State.alm_tickMod (k : Nat) : (s.tickMod f).alm k = s.alm k := rfl
@[simp] theorem State.bucket_tickMod (k : Nat) : (s.tickMod f).bucket k = s.bucket k := rfl
@[simp] theorem State.clPhase_tickMod (k : Nat) : (s.tickMod f).clPhase k = s.clPhase k := rfl
@[simp] theorem State.claim_tickMod (k : Nat) : (s.tickMod f).claim k = s.claim k := rfl
@[simp] theorem State.can_tickMod (k : Nat) : (s.tickMod f).can k = s.can k := rfl
@[simp] theorem State.supBits_tickMod (k : Nat) : (s.tickMod f).supBits k = s.supBits k := rfl
@[simp] theorem State.eff_tickMod (k : Nat) : (s.tickMod f).eff k = s.eff k := rfl
@[simp] theorem State.core_tickMod (k : Nat) : (s.tickMod f).core k = s.core k := rfl
@[simp] theorem State.elem_tickMod (k : Nat) : (s.tickMod f).elem k = s.elem k := rfl
@[simp] theorem State.sup_tickMod (k : Nat) : (s.tickMod f).sup k = s.sup k := rfl
@[simp] theorem State.line_tickMod (k : Nat) : (s.tickMod f).line k = s.line k := rfl
@[simp] theorem State.blzU_tickMod (k : Nat) : (s.tickMod f).blzU k = s.blzU k := rfl
@[simp] theorem State.gauge_tickMod (k : Nat) : (s.tickMod f).gauge k = s.gauge k := rfl
@[simp] theorem State.rcu_tickMod (k : Nat) : (s.tickMod f).rcu k = s.rcu k := rfl
@[simp] theorem State.wbu_tickMod (k : Nat) : (s.tickMod f).wbu k = s.wbu k := rfl
end

section
variable (s : State) (f : MeterU → MeterU)
@[simp] theorem State.meterMod_regs : (s.meterMod f).regs = s.regs := rfl
@[simp] theorem State.meterMod_mram : (s.meterMod f).mram = s.mram := rfl
@[simp] theorem State.meterMod_claims : (s.meterMod f).claims = s.claims := rfl
@[simp] theorem State.meterMod_ended : (s.meterMod f).ended = s.ended := rfl
@[simp] theorem State.meterMod_rsp : (s.meterMod f).rsp = s.rsp := rfl
@[simp] theorem State.meterMod_spiOut : (s.meterMod f).spiOut = s.spiOut := rfl
@[simp] theorem State.meterMod_snaps : (s.meterMod f).snaps = s.snaps := rfl
@[simp] theorem State.meterMod_holds : (s.meterMod f).holds = s.holds := rfl
@[simp] theorem State.meterMod_inds : (s.meterMod f).inds = s.inds := rfl
@[simp] theorem State.meterMod_hbiReady : (s.meterMod f).hbiReady = s.hbiReady := rfl
@[simp] theorem State.meterMod_supPend : (s.meterMod f).supPend = s.supPend := rfl
@[simp] theorem State.meterMod_links : (s.meterMod f).links = s.links := rfl
@[simp] theorem State.meterMod_mramErr : (s.meterMod f).mramErr = s.mramErr := rfl
@[simp] theorem State.meterMod_mramOut : (s.meterMod f).mramOut = s.mramOut := rfl
@[simp] theorem State.meterMod_tally : (s.meterMod f).tally = s.tally := rfl
@[simp] theorem State.meterMod_buckets : (s.meterMod f).buckets = s.buckets := rfl
@[simp] theorem State.meterMod_tb : (s.meterMod f).tb = s.tb := rfl
@[simp] theorem State.meterMod_alms : (s.meterMod f).alms = s.alms := rfl
@[simp] theorem State.meterMod_pins : (s.meterMod f).pins = s.pins := rfl
@[simp] theorem State.meterMod_tick : (s.meterMod f).tick = s.tick := rfl
@[simp] theorem State.meterMod_stepFlag : (s.meterMod f).stepFlag = s.stepFlag := rfl
@[simp] theorem State.meterMod_phase : (s.meterMod f).phase = s.phase := rfl
@[simp] theorem State.meterMod_lanes : (s.meterMod f).lanes = s.lanes := rfl
@[simp] theorem State.meterMod_clSrc : (s.meterMod f).clSrc = s.clSrc := rfl
@[simp] theorem State.meterMod_expect : (s.meterMod f).expect = s.expect := rfl
@[simp] theorem State.meterMod_late : (s.meterMod f).late = s.late := rfl
@[simp] theorem State.meterMod_trk : (s.meterMod f).trk = s.trk := rfl
@[simp] theorem State.meterMod_fpds : (s.meterMod f).fpds = s.fpds := rfl
@[simp] theorem State.meterMod_dets : (s.meterMod f).dets = s.dets := rfl
@[simp] theorem State.meterMod_light : (s.meterMod f).light = s.light := rfl
@[simp] theorem State.meterMod_heldRegs : (s.meterMod f).heldRegs = s.heldRegs := rfl
@[simp] theorem State.meterMod_cores : (s.meterMod f).cores = s.cores := rfl
@[simp] theorem State.meterMod_elems : (s.meterMod f).elems = s.elems := rfl
@[simp] theorem State.meterMod_sups : (s.meterMod f).sups = s.sups := rfl
@[simp] theorem State.meterMod_inForce : (s.meterMod f).inForce = s.inForce := rfl
@[simp] theorem State.meterMod_cans : (s.meterMod f).cans = s.cans := rfl
@[simp] theorem State.meterMod_eth : (s.meterMod f).eth = s.eth := rfl
@[simp] theorem State.meterMod_field_ : (s.meterMod f).field_ = s.field_ := rfl
@[simp] theorem State.meterMod_fio : (s.meterMod f).fio = s.fio := rfl
@[simp] theorem State.meterMod_lines : (s.meterMod f).lines = s.lines := rfl
@[simp] theorem State.meterMod_tripKey : (s.meterMod f).tripKey = s.tripKey := rfl
@[simp] theorem State.meterMod_lathe : (s.meterMod f).lathe = s.lathe := rfl
@[simp] theorem State.meterMod_ticks : (s.meterMod f).ticks = s.ticks := rfl
@[simp] theorem State.meterMod_recs : (s.meterMod f).recs = s.recs := rfl
@[simp] theorem State.meterMod_wbs : (s.meterMod f).wbs = s.wbs := rfl
@[simp] theorem State.meterMod_gauges : (s.meterMod f).gauges = s.gauges := rfl
@[simp] theorem State.meterMod_blz : (s.meterMod f).blz = s.blz := rfl
@[simp] theorem State.meterMod_pair : (s.meterMod f).pair = s.pair := rfl
@[simp] theorem State.meterMod_meter : (s.meterMod f).meter = f s.meter := rfl
@[simp] theorem State.meterMod_power : (s.meterMod f).power = s.power := rfl
@[simp] theorem State.meterMod_freeCtr : (s.meterMod f).freeCtr = s.freeCtr := rfl
@[simp] theorem State.meterMod_pending : (s.meterMod f).pending = s.pending := rfl
@[simp] theorem State.rd_meterMod (k : Nat) : (s.meterMod f).rd k = s.rd k := rfl
@[simp] theorem State.mb_meterMod (k : Nat) : (s.meterMod f).mb k = s.mb k := rfl
@[simp] theorem State.ind_meterMod (k : Nat) : (s.meterMod f).ind k = s.ind k := rfl
@[simp] theorem State.link_meterMod (k : Nat) : (s.meterMod f).link k = s.link k := rfl
@[simp] theorem State.lane_meterMod (k : Nat) : (s.meterMod f).lane k = s.lane k := rfl
@[simp] theorem State.tracker_meterMod (k : Nat) : (s.meterMod f).tracker k = s.tracker k := rfl
@[simp] theorem State.fpd_meterMod (k : Nat) : (s.meterMod f).fpd k = s.fpd k := rfl
@[simp] theorem State.det_meterMod (k : Nat) : (s.meterMod f).det k = s.det k := rfl
@[simp] theorem State.pin_meterMod (k : Nat) : (s.meterMod f).pin k = s.pin k := rfl
@[simp] theorem State.alm_meterMod (k : Nat) : (s.meterMod f).alm k = s.alm k := rfl
@[simp] theorem State.bucket_meterMod (k : Nat) : (s.meterMod f).bucket k = s.bucket k := rfl
@[simp] theorem State.clPhase_meterMod (k : Nat) : (s.meterMod f).clPhase k = s.clPhase k := rfl
@[simp] theorem State.claim_meterMod (k : Nat) : (s.meterMod f).claim k = s.claim k := rfl
@[simp] theorem State.can_meterMod (k : Nat) : (s.meterMod f).can k = s.can k := rfl
@[simp] theorem State.supBits_meterMod (k : Nat) : (s.meterMod f).supBits k = s.supBits k := rfl
@[simp] theorem State.eff_meterMod (k : Nat) : (s.meterMod f).eff k = s.eff k := rfl
@[simp] theorem State.core_meterMod (k : Nat) : (s.meterMod f).core k = s.core k := rfl
@[simp] theorem State.elem_meterMod (k : Nat) : (s.meterMod f).elem k = s.elem k := rfl
@[simp] theorem State.sup_meterMod (k : Nat) : (s.meterMod f).sup k = s.sup k := rfl
@[simp] theorem State.line_meterMod (k : Nat) : (s.meterMod f).line k = s.line k := rfl
@[simp] theorem State.blzU_meterMod (k : Nat) : (s.meterMod f).blzU k = s.blzU k := rfl
@[simp] theorem State.gauge_meterMod (k : Nat) : (s.meterMod f).gauge k = s.gauge k := rfl
@[simp] theorem State.rcu_meterMod (k : Nat) : (s.meterMod f).rcu k = s.rcu k := rfl
@[simp] theorem State.wbu_meterMod (k : Nat) : (s.meterMod f).wbu k = s.wbu k := rfl
end

section
variable (s : State) (x : Bool)
@[simp] theorem State.setStep_regs : (s.setStep x).regs = s.regs := rfl
@[simp] theorem State.setStep_mram : (s.setStep x).mram = s.mram := rfl
@[simp] theorem State.setStep_claims : (s.setStep x).claims = s.claims := rfl
@[simp] theorem State.setStep_ended : (s.setStep x).ended = s.ended := rfl
@[simp] theorem State.setStep_rsp : (s.setStep x).rsp = s.rsp := rfl
@[simp] theorem State.setStep_spiOut : (s.setStep x).spiOut = s.spiOut := rfl
@[simp] theorem State.setStep_snaps : (s.setStep x).snaps = s.snaps := rfl
@[simp] theorem State.setStep_holds : (s.setStep x).holds = s.holds := rfl
@[simp] theorem State.setStep_inds : (s.setStep x).inds = s.inds := rfl
@[simp] theorem State.setStep_hbiReady : (s.setStep x).hbiReady = s.hbiReady := rfl
@[simp] theorem State.setStep_supPend : (s.setStep x).supPend = s.supPend := rfl
@[simp] theorem State.setStep_links : (s.setStep x).links = s.links := rfl
@[simp] theorem State.setStep_mramErr : (s.setStep x).mramErr = s.mramErr := rfl
@[simp] theorem State.setStep_mramOut : (s.setStep x).mramOut = s.mramOut := rfl
@[simp] theorem State.setStep_tally : (s.setStep x).tally = s.tally := rfl
@[simp] theorem State.setStep_buckets : (s.setStep x).buckets = s.buckets := rfl
@[simp] theorem State.setStep_tb : (s.setStep x).tb = s.tb := rfl
@[simp] theorem State.setStep_alms : (s.setStep x).alms = s.alms := rfl
@[simp] theorem State.setStep_pins : (s.setStep x).pins = s.pins := rfl
@[simp] theorem State.setStep_tick : (s.setStep x).tick = s.tick := rfl
@[simp] theorem State.setStep_stepFlag : (s.setStep x).stepFlag = x := rfl
@[simp] theorem State.setStep_phase : (s.setStep x).phase = s.phase := rfl
@[simp] theorem State.setStep_lanes : (s.setStep x).lanes = s.lanes := rfl
@[simp] theorem State.setStep_clSrc : (s.setStep x).clSrc = s.clSrc := rfl
@[simp] theorem State.setStep_expect : (s.setStep x).expect = s.expect := rfl
@[simp] theorem State.setStep_late : (s.setStep x).late = s.late := rfl
@[simp] theorem State.setStep_trk : (s.setStep x).trk = s.trk := rfl
@[simp] theorem State.setStep_fpds : (s.setStep x).fpds = s.fpds := rfl
@[simp] theorem State.setStep_dets : (s.setStep x).dets = s.dets := rfl
@[simp] theorem State.setStep_light : (s.setStep x).light = s.light := rfl
@[simp] theorem State.setStep_heldRegs : (s.setStep x).heldRegs = s.heldRegs := rfl
@[simp] theorem State.setStep_cores : (s.setStep x).cores = s.cores := rfl
@[simp] theorem State.setStep_elems : (s.setStep x).elems = s.elems := rfl
@[simp] theorem State.setStep_sups : (s.setStep x).sups = s.sups := rfl
@[simp] theorem State.setStep_inForce : (s.setStep x).inForce = s.inForce := rfl
@[simp] theorem State.setStep_cans : (s.setStep x).cans = s.cans := rfl
@[simp] theorem State.setStep_eth : (s.setStep x).eth = s.eth := rfl
@[simp] theorem State.setStep_field_ : (s.setStep x).field_ = s.field_ := rfl
@[simp] theorem State.setStep_fio : (s.setStep x).fio = s.fio := rfl
@[simp] theorem State.setStep_lines : (s.setStep x).lines = s.lines := rfl
@[simp] theorem State.setStep_tripKey : (s.setStep x).tripKey = s.tripKey := rfl
@[simp] theorem State.setStep_lathe : (s.setStep x).lathe = s.lathe := rfl
@[simp] theorem State.setStep_ticks : (s.setStep x).ticks = s.ticks := rfl
@[simp] theorem State.setStep_recs : (s.setStep x).recs = s.recs := rfl
@[simp] theorem State.setStep_wbs : (s.setStep x).wbs = s.wbs := rfl
@[simp] theorem State.setStep_gauges : (s.setStep x).gauges = s.gauges := rfl
@[simp] theorem State.setStep_blz : (s.setStep x).blz = s.blz := rfl
@[simp] theorem State.setStep_pair : (s.setStep x).pair = s.pair := rfl
@[simp] theorem State.setStep_meter : (s.setStep x).meter = s.meter := rfl
@[simp] theorem State.setStep_power : (s.setStep x).power = s.power := rfl
@[simp] theorem State.setStep_freeCtr : (s.setStep x).freeCtr = s.freeCtr := rfl
@[simp] theorem State.setStep_pending : (s.setStep x).pending = s.pending := rfl
@[simp] theorem State.rd_setStep (k : Nat) : (s.setStep x).rd k = s.rd k := rfl
@[simp] theorem State.mb_setStep (k : Nat) : (s.setStep x).mb k = s.mb k := rfl
@[simp] theorem State.ind_setStep (k : Nat) : (s.setStep x).ind k = s.ind k := rfl
@[simp] theorem State.link_setStep (k : Nat) : (s.setStep x).link k = s.link k := rfl
@[simp] theorem State.lane_setStep (k : Nat) : (s.setStep x).lane k = s.lane k := rfl
@[simp] theorem State.tracker_setStep (k : Nat) : (s.setStep x).tracker k = s.tracker k := rfl
@[simp] theorem State.fpd_setStep (k : Nat) : (s.setStep x).fpd k = s.fpd k := rfl
@[simp] theorem State.det_setStep (k : Nat) : (s.setStep x).det k = s.det k := rfl
@[simp] theorem State.pin_setStep (k : Nat) : (s.setStep x).pin k = s.pin k := rfl
@[simp] theorem State.alm_setStep (k : Nat) : (s.setStep x).alm k = s.alm k := rfl
@[simp] theorem State.bucket_setStep (k : Nat) : (s.setStep x).bucket k = s.bucket k := rfl
@[simp] theorem State.clPhase_setStep (k : Nat) : (s.setStep x).clPhase k = s.clPhase k := rfl
@[simp] theorem State.claim_setStep (k : Nat) : (s.setStep x).claim k = s.claim k := rfl
@[simp] theorem State.can_setStep (k : Nat) : (s.setStep x).can k = s.can k := rfl
@[simp] theorem State.supBits_setStep (k : Nat) : (s.setStep x).supBits k = s.supBits k := rfl
@[simp] theorem State.eff_setStep (k : Nat) : (s.setStep x).eff k = s.eff k := rfl
@[simp] theorem State.core_setStep (k : Nat) : (s.setStep x).core k = s.core k := rfl
@[simp] theorem State.elem_setStep (k : Nat) : (s.setStep x).elem k = s.elem k := rfl
@[simp] theorem State.sup_setStep (k : Nat) : (s.setStep x).sup k = s.sup k := rfl
@[simp] theorem State.line_setStep (k : Nat) : (s.setStep x).line k = s.line k := rfl
@[simp] theorem State.blzU_setStep (k : Nat) : (s.setStep x).blzU k = s.blzU k := rfl
@[simp] theorem State.gauge_setStep (k : Nat) : (s.setStep x).gauge k = s.gauge k := rfl
@[simp] theorem State.rcu_setStep (k : Nat) : (s.setStep x).rcu k = s.rcu k := rfl
@[simp] theorem State.wbu_setStep (k : Nat) : (s.setStep x).wbu k = s.wbu k := rfl
end

section
variable (s : State) (x : List Nat)
@[simp] theorem State.setLate_regs : (s.setLate x).regs = s.regs := rfl
@[simp] theorem State.setLate_mram : (s.setLate x).mram = s.mram := rfl
@[simp] theorem State.setLate_claims : (s.setLate x).claims = s.claims := rfl
@[simp] theorem State.setLate_ended : (s.setLate x).ended = s.ended := rfl
@[simp] theorem State.setLate_rsp : (s.setLate x).rsp = s.rsp := rfl
@[simp] theorem State.setLate_spiOut : (s.setLate x).spiOut = s.spiOut := rfl
@[simp] theorem State.setLate_snaps : (s.setLate x).snaps = s.snaps := rfl
@[simp] theorem State.setLate_holds : (s.setLate x).holds = s.holds := rfl
@[simp] theorem State.setLate_inds : (s.setLate x).inds = s.inds := rfl
@[simp] theorem State.setLate_hbiReady : (s.setLate x).hbiReady = s.hbiReady := rfl
@[simp] theorem State.setLate_supPend : (s.setLate x).supPend = s.supPend := rfl
@[simp] theorem State.setLate_links : (s.setLate x).links = s.links := rfl
@[simp] theorem State.setLate_mramErr : (s.setLate x).mramErr = s.mramErr := rfl
@[simp] theorem State.setLate_mramOut : (s.setLate x).mramOut = s.mramOut := rfl
@[simp] theorem State.setLate_tally : (s.setLate x).tally = s.tally := rfl
@[simp] theorem State.setLate_buckets : (s.setLate x).buckets = s.buckets := rfl
@[simp] theorem State.setLate_tb : (s.setLate x).tb = s.tb := rfl
@[simp] theorem State.setLate_alms : (s.setLate x).alms = s.alms := rfl
@[simp] theorem State.setLate_pins : (s.setLate x).pins = s.pins := rfl
@[simp] theorem State.setLate_tick : (s.setLate x).tick = s.tick := rfl
@[simp] theorem State.setLate_stepFlag : (s.setLate x).stepFlag = s.stepFlag := rfl
@[simp] theorem State.setLate_phase : (s.setLate x).phase = s.phase := rfl
@[simp] theorem State.setLate_lanes : (s.setLate x).lanes = s.lanes := rfl
@[simp] theorem State.setLate_clSrc : (s.setLate x).clSrc = s.clSrc := rfl
@[simp] theorem State.setLate_expect : (s.setLate x).expect = s.expect := rfl
@[simp] theorem State.setLate_late : (s.setLate x).late = x := rfl
@[simp] theorem State.setLate_trk : (s.setLate x).trk = s.trk := rfl
@[simp] theorem State.setLate_fpds : (s.setLate x).fpds = s.fpds := rfl
@[simp] theorem State.setLate_dets : (s.setLate x).dets = s.dets := rfl
@[simp] theorem State.setLate_light : (s.setLate x).light = s.light := rfl
@[simp] theorem State.setLate_heldRegs : (s.setLate x).heldRegs = s.heldRegs := rfl
@[simp] theorem State.setLate_cores : (s.setLate x).cores = s.cores := rfl
@[simp] theorem State.setLate_elems : (s.setLate x).elems = s.elems := rfl
@[simp] theorem State.setLate_sups : (s.setLate x).sups = s.sups := rfl
@[simp] theorem State.setLate_inForce : (s.setLate x).inForce = s.inForce := rfl
@[simp] theorem State.setLate_cans : (s.setLate x).cans = s.cans := rfl
@[simp] theorem State.setLate_eth : (s.setLate x).eth = s.eth := rfl
@[simp] theorem State.setLate_field_ : (s.setLate x).field_ = s.field_ := rfl
@[simp] theorem State.setLate_fio : (s.setLate x).fio = s.fio := rfl
@[simp] theorem State.setLate_lines : (s.setLate x).lines = s.lines := rfl
@[simp] theorem State.setLate_tripKey : (s.setLate x).tripKey = s.tripKey := rfl
@[simp] theorem State.setLate_lathe : (s.setLate x).lathe = s.lathe := rfl
@[simp] theorem State.setLate_ticks : (s.setLate x).ticks = s.ticks := rfl
@[simp] theorem State.setLate_recs : (s.setLate x).recs = s.recs := rfl
@[simp] theorem State.setLate_wbs : (s.setLate x).wbs = s.wbs := rfl
@[simp] theorem State.setLate_gauges : (s.setLate x).gauges = s.gauges := rfl
@[simp] theorem State.setLate_blz : (s.setLate x).blz = s.blz := rfl
@[simp] theorem State.setLate_pair : (s.setLate x).pair = s.pair := rfl
@[simp] theorem State.setLate_meter : (s.setLate x).meter = s.meter := rfl
@[simp] theorem State.setLate_power : (s.setLate x).power = s.power := rfl
@[simp] theorem State.setLate_freeCtr : (s.setLate x).freeCtr = s.freeCtr := rfl
@[simp] theorem State.setLate_pending : (s.setLate x).pending = s.pending := rfl
@[simp] theorem State.rd_setLate (k : Nat) : (s.setLate x).rd k = s.rd k := rfl
@[simp] theorem State.mb_setLate (k : Nat) : (s.setLate x).mb k = s.mb k := rfl
@[simp] theorem State.ind_setLate (k : Nat) : (s.setLate x).ind k = s.ind k := rfl
@[simp] theorem State.link_setLate (k : Nat) : (s.setLate x).link k = s.link k := rfl
@[simp] theorem State.lane_setLate (k : Nat) : (s.setLate x).lane k = s.lane k := rfl
@[simp] theorem State.tracker_setLate (k : Nat) : (s.setLate x).tracker k = s.tracker k := rfl
@[simp] theorem State.fpd_setLate (k : Nat) : (s.setLate x).fpd k = s.fpd k := rfl
@[simp] theorem State.det_setLate (k : Nat) : (s.setLate x).det k = s.det k := rfl
@[simp] theorem State.pin_setLate (k : Nat) : (s.setLate x).pin k = s.pin k := rfl
@[simp] theorem State.alm_setLate (k : Nat) : (s.setLate x).alm k = s.alm k := rfl
@[simp] theorem State.bucket_setLate (k : Nat) : (s.setLate x).bucket k = s.bucket k := rfl
@[simp] theorem State.clPhase_setLate (k : Nat) : (s.setLate x).clPhase k = s.clPhase k := rfl
@[simp] theorem State.claim_setLate (k : Nat) : (s.setLate x).claim k = s.claim k := rfl
@[simp] theorem State.can_setLate (k : Nat) : (s.setLate x).can k = s.can k := rfl
@[simp] theorem State.supBits_setLate (k : Nat) : (s.setLate x).supBits k = s.supBits k := rfl
@[simp] theorem State.eff_setLate (k : Nat) : (s.setLate x).eff k = s.eff k := rfl
@[simp] theorem State.core_setLate (k : Nat) : (s.setLate x).core k = s.core k := rfl
@[simp] theorem State.elem_setLate (k : Nat) : (s.setLate x).elem k = s.elem k := rfl
@[simp] theorem State.sup_setLate (k : Nat) : (s.setLate x).sup k = s.sup k := rfl
@[simp] theorem State.line_setLate (k : Nat) : (s.setLate x).line k = s.line k := rfl
@[simp] theorem State.blzU_setLate (k : Nat) : (s.setLate x).blzU k = s.blzU k := rfl
@[simp] theorem State.gauge_setLate (k : Nat) : (s.setLate x).gauge k = s.gauge k := rfl
@[simp] theorem State.rcu_setLate (k : Nat) : (s.setLate x).rcu k = s.rcu k := rfl
@[simp] theorem State.wbu_setLate (k : Nat) : (s.setLate x).wbu k = s.wbu k := rfl
end

section
variable (s : State) (x : List MUser)
@[simp] theorem State.setMramErr_regs : (s.setMramErr x).regs = s.regs := rfl
@[simp] theorem State.setMramErr_mram : (s.setMramErr x).mram = s.mram := rfl
@[simp] theorem State.setMramErr_claims : (s.setMramErr x).claims = s.claims := rfl
@[simp] theorem State.setMramErr_ended : (s.setMramErr x).ended = s.ended := rfl
@[simp] theorem State.setMramErr_rsp : (s.setMramErr x).rsp = s.rsp := rfl
@[simp] theorem State.setMramErr_spiOut : (s.setMramErr x).spiOut = s.spiOut := rfl
@[simp] theorem State.setMramErr_snaps : (s.setMramErr x).snaps = s.snaps := rfl
@[simp] theorem State.setMramErr_holds : (s.setMramErr x).holds = s.holds := rfl
@[simp] theorem State.setMramErr_inds : (s.setMramErr x).inds = s.inds := rfl
@[simp] theorem State.setMramErr_hbiReady : (s.setMramErr x).hbiReady = s.hbiReady := rfl
@[simp] theorem State.setMramErr_supPend : (s.setMramErr x).supPend = s.supPend := rfl
@[simp] theorem State.setMramErr_links : (s.setMramErr x).links = s.links := rfl
@[simp] theorem State.setMramErr_mramErr : (s.setMramErr x).mramErr = x := rfl
@[simp] theorem State.setMramErr_mramOut : (s.setMramErr x).mramOut = s.mramOut := rfl
@[simp] theorem State.setMramErr_tally : (s.setMramErr x).tally = s.tally := rfl
@[simp] theorem State.setMramErr_buckets : (s.setMramErr x).buckets = s.buckets := rfl
@[simp] theorem State.setMramErr_tb : (s.setMramErr x).tb = s.tb := rfl
@[simp] theorem State.setMramErr_alms : (s.setMramErr x).alms = s.alms := rfl
@[simp] theorem State.setMramErr_pins : (s.setMramErr x).pins = s.pins := rfl
@[simp] theorem State.setMramErr_tick : (s.setMramErr x).tick = s.tick := rfl
@[simp] theorem State.setMramErr_stepFlag : (s.setMramErr x).stepFlag = s.stepFlag := rfl
@[simp] theorem State.setMramErr_phase : (s.setMramErr x).phase = s.phase := rfl
@[simp] theorem State.setMramErr_lanes : (s.setMramErr x).lanes = s.lanes := rfl
@[simp] theorem State.setMramErr_clSrc : (s.setMramErr x).clSrc = s.clSrc := rfl
@[simp] theorem State.setMramErr_expect : (s.setMramErr x).expect = s.expect := rfl
@[simp] theorem State.setMramErr_late : (s.setMramErr x).late = s.late := rfl
@[simp] theorem State.setMramErr_trk : (s.setMramErr x).trk = s.trk := rfl
@[simp] theorem State.setMramErr_fpds : (s.setMramErr x).fpds = s.fpds := rfl
@[simp] theorem State.setMramErr_dets : (s.setMramErr x).dets = s.dets := rfl
@[simp] theorem State.setMramErr_light : (s.setMramErr x).light = s.light := rfl
@[simp] theorem State.setMramErr_heldRegs : (s.setMramErr x).heldRegs = s.heldRegs := rfl
@[simp] theorem State.setMramErr_cores : (s.setMramErr x).cores = s.cores := rfl
@[simp] theorem State.setMramErr_elems : (s.setMramErr x).elems = s.elems := rfl
@[simp] theorem State.setMramErr_sups : (s.setMramErr x).sups = s.sups := rfl
@[simp] theorem State.setMramErr_inForce : (s.setMramErr x).inForce = s.inForce := rfl
@[simp] theorem State.setMramErr_cans : (s.setMramErr x).cans = s.cans := rfl
@[simp] theorem State.setMramErr_eth : (s.setMramErr x).eth = s.eth := rfl
@[simp] theorem State.setMramErr_field_ : (s.setMramErr x).field_ = s.field_ := rfl
@[simp] theorem State.setMramErr_fio : (s.setMramErr x).fio = s.fio := rfl
@[simp] theorem State.setMramErr_lines : (s.setMramErr x).lines = s.lines := rfl
@[simp] theorem State.setMramErr_tripKey : (s.setMramErr x).tripKey = s.tripKey := rfl
@[simp] theorem State.setMramErr_lathe : (s.setMramErr x).lathe = s.lathe := rfl
@[simp] theorem State.setMramErr_ticks : (s.setMramErr x).ticks = s.ticks := rfl
@[simp] theorem State.setMramErr_recs : (s.setMramErr x).recs = s.recs := rfl
@[simp] theorem State.setMramErr_wbs : (s.setMramErr x).wbs = s.wbs := rfl
@[simp] theorem State.setMramErr_gauges : (s.setMramErr x).gauges = s.gauges := rfl
@[simp] theorem State.setMramErr_blz : (s.setMramErr x).blz = s.blz := rfl
@[simp] theorem State.setMramErr_pair : (s.setMramErr x).pair = s.pair := rfl
@[simp] theorem State.setMramErr_meter : (s.setMramErr x).meter = s.meter := rfl
@[simp] theorem State.setMramErr_power : (s.setMramErr x).power = s.power := rfl
@[simp] theorem State.setMramErr_freeCtr : (s.setMramErr x).freeCtr = s.freeCtr := rfl
@[simp] theorem State.setMramErr_pending : (s.setMramErr x).pending = s.pending := rfl
@[simp] theorem State.rd_setMramErr (k : Nat) : (s.setMramErr x).rd k = s.rd k := rfl
@[simp] theorem State.mb_setMramErr (k : Nat) : (s.setMramErr x).mb k = s.mb k := rfl
@[simp] theorem State.ind_setMramErr (k : Nat) : (s.setMramErr x).ind k = s.ind k := rfl
@[simp] theorem State.link_setMramErr (k : Nat) : (s.setMramErr x).link k = s.link k := rfl
@[simp] theorem State.lane_setMramErr (k : Nat) : (s.setMramErr x).lane k = s.lane k := rfl
@[simp] theorem State.tracker_setMramErr (k : Nat) : (s.setMramErr x).tracker k = s.tracker k := rfl
@[simp] theorem State.fpd_setMramErr (k : Nat) : (s.setMramErr x).fpd k = s.fpd k := rfl
@[simp] theorem State.det_setMramErr (k : Nat) : (s.setMramErr x).det k = s.det k := rfl
@[simp] theorem State.pin_setMramErr (k : Nat) : (s.setMramErr x).pin k = s.pin k := rfl
@[simp] theorem State.alm_setMramErr (k : Nat) : (s.setMramErr x).alm k = s.alm k := rfl
@[simp] theorem State.bucket_setMramErr (k : Nat) : (s.setMramErr x).bucket k = s.bucket k := rfl
@[simp] theorem State.clPhase_setMramErr (k : Nat) : (s.setMramErr x).clPhase k = s.clPhase k := rfl
@[simp] theorem State.claim_setMramErr (k : Nat) : (s.setMramErr x).claim k = s.claim k := rfl
@[simp] theorem State.can_setMramErr (k : Nat) : (s.setMramErr x).can k = s.can k := rfl
@[simp] theorem State.supBits_setMramErr (k : Nat) : (s.setMramErr x).supBits k = s.supBits k := rfl
@[simp] theorem State.eff_setMramErr (k : Nat) : (s.setMramErr x).eff k = s.eff k := rfl
@[simp] theorem State.core_setMramErr (k : Nat) : (s.setMramErr x).core k = s.core k := rfl
@[simp] theorem State.elem_setMramErr (k : Nat) : (s.setMramErr x).elem k = s.elem k := rfl
@[simp] theorem State.sup_setMramErr (k : Nat) : (s.setMramErr x).sup k = s.sup k := rfl
@[simp] theorem State.line_setMramErr (k : Nat) : (s.setMramErr x).line k = s.line k := rfl
@[simp] theorem State.blzU_setMramErr (k : Nat) : (s.setMramErr x).blzU k = s.blzU k := rfl
@[simp] theorem State.gauge_setMramErr (k : Nat) : (s.setMramErr x).gauge k = s.gauge k := rfl
@[simp] theorem State.rcu_setMramErr (k : Nat) : (s.setMramErr x).rcu k = s.rcu k := rfl
@[simp] theorem State.wbu_setMramErr (k : Nat) : (s.setMramErr x).wbu k = s.wbu k := rfl
end

section
variable (s : State) (x : Bytes)
@[simp] theorem State.setMramOut_regs : (s.setMramOut x).regs = s.regs := rfl
@[simp] theorem State.setMramOut_mram : (s.setMramOut x).mram = s.mram := rfl
@[simp] theorem State.setMramOut_claims : (s.setMramOut x).claims = s.claims := rfl
@[simp] theorem State.setMramOut_ended : (s.setMramOut x).ended = s.ended := rfl
@[simp] theorem State.setMramOut_rsp : (s.setMramOut x).rsp = s.rsp := rfl
@[simp] theorem State.setMramOut_spiOut : (s.setMramOut x).spiOut = s.spiOut := rfl
@[simp] theorem State.setMramOut_snaps : (s.setMramOut x).snaps = s.snaps := rfl
@[simp] theorem State.setMramOut_holds : (s.setMramOut x).holds = s.holds := rfl
@[simp] theorem State.setMramOut_inds : (s.setMramOut x).inds = s.inds := rfl
@[simp] theorem State.setMramOut_hbiReady : (s.setMramOut x).hbiReady = s.hbiReady := rfl
@[simp] theorem State.setMramOut_supPend : (s.setMramOut x).supPend = s.supPend := rfl
@[simp] theorem State.setMramOut_links : (s.setMramOut x).links = s.links := rfl
@[simp] theorem State.setMramOut_mramErr : (s.setMramOut x).mramErr = s.mramErr := rfl
@[simp] theorem State.setMramOut_mramOut : (s.setMramOut x).mramOut = x := rfl
@[simp] theorem State.setMramOut_tally : (s.setMramOut x).tally = s.tally := rfl
@[simp] theorem State.setMramOut_buckets : (s.setMramOut x).buckets = s.buckets := rfl
@[simp] theorem State.setMramOut_tb : (s.setMramOut x).tb = s.tb := rfl
@[simp] theorem State.setMramOut_alms : (s.setMramOut x).alms = s.alms := rfl
@[simp] theorem State.setMramOut_pins : (s.setMramOut x).pins = s.pins := rfl
@[simp] theorem State.setMramOut_tick : (s.setMramOut x).tick = s.tick := rfl
@[simp] theorem State.setMramOut_stepFlag : (s.setMramOut x).stepFlag = s.stepFlag := rfl
@[simp] theorem State.setMramOut_phase : (s.setMramOut x).phase = s.phase := rfl
@[simp] theorem State.setMramOut_lanes : (s.setMramOut x).lanes = s.lanes := rfl
@[simp] theorem State.setMramOut_clSrc : (s.setMramOut x).clSrc = s.clSrc := rfl
@[simp] theorem State.setMramOut_expect : (s.setMramOut x).expect = s.expect := rfl
@[simp] theorem State.setMramOut_late : (s.setMramOut x).late = s.late := rfl
@[simp] theorem State.setMramOut_trk : (s.setMramOut x).trk = s.trk := rfl
@[simp] theorem State.setMramOut_fpds : (s.setMramOut x).fpds = s.fpds := rfl
@[simp] theorem State.setMramOut_dets : (s.setMramOut x).dets = s.dets := rfl
@[simp] theorem State.setMramOut_light : (s.setMramOut x).light = s.light := rfl
@[simp] theorem State.setMramOut_heldRegs : (s.setMramOut x).heldRegs = s.heldRegs := rfl
@[simp] theorem State.setMramOut_cores : (s.setMramOut x).cores = s.cores := rfl
@[simp] theorem State.setMramOut_elems : (s.setMramOut x).elems = s.elems := rfl
@[simp] theorem State.setMramOut_sups : (s.setMramOut x).sups = s.sups := rfl
@[simp] theorem State.setMramOut_inForce : (s.setMramOut x).inForce = s.inForce := rfl
@[simp] theorem State.setMramOut_cans : (s.setMramOut x).cans = s.cans := rfl
@[simp] theorem State.setMramOut_eth : (s.setMramOut x).eth = s.eth := rfl
@[simp] theorem State.setMramOut_field_ : (s.setMramOut x).field_ = s.field_ := rfl
@[simp] theorem State.setMramOut_fio : (s.setMramOut x).fio = s.fio := rfl
@[simp] theorem State.setMramOut_lines : (s.setMramOut x).lines = s.lines := rfl
@[simp] theorem State.setMramOut_tripKey : (s.setMramOut x).tripKey = s.tripKey := rfl
@[simp] theorem State.setMramOut_lathe : (s.setMramOut x).lathe = s.lathe := rfl
@[simp] theorem State.setMramOut_ticks : (s.setMramOut x).ticks = s.ticks := rfl
@[simp] theorem State.setMramOut_recs : (s.setMramOut x).recs = s.recs := rfl
@[simp] theorem State.setMramOut_wbs : (s.setMramOut x).wbs = s.wbs := rfl
@[simp] theorem State.setMramOut_gauges : (s.setMramOut x).gauges = s.gauges := rfl
@[simp] theorem State.setMramOut_blz : (s.setMramOut x).blz = s.blz := rfl
@[simp] theorem State.setMramOut_pair : (s.setMramOut x).pair = s.pair := rfl
@[simp] theorem State.setMramOut_meter : (s.setMramOut x).meter = s.meter := rfl
@[simp] theorem State.setMramOut_power : (s.setMramOut x).power = s.power := rfl
@[simp] theorem State.setMramOut_freeCtr : (s.setMramOut x).freeCtr = s.freeCtr := rfl
@[simp] theorem State.setMramOut_pending : (s.setMramOut x).pending = s.pending := rfl
@[simp] theorem State.rd_setMramOut (k : Nat) : (s.setMramOut x).rd k = s.rd k := rfl
@[simp] theorem State.mb_setMramOut (k : Nat) : (s.setMramOut x).mb k = s.mb k := rfl
@[simp] theorem State.ind_setMramOut (k : Nat) : (s.setMramOut x).ind k = s.ind k := rfl
@[simp] theorem State.link_setMramOut (k : Nat) : (s.setMramOut x).link k = s.link k := rfl
@[simp] theorem State.lane_setMramOut (k : Nat) : (s.setMramOut x).lane k = s.lane k := rfl
@[simp] theorem State.tracker_setMramOut (k : Nat) : (s.setMramOut x).tracker k = s.tracker k := rfl
@[simp] theorem State.fpd_setMramOut (k : Nat) : (s.setMramOut x).fpd k = s.fpd k := rfl
@[simp] theorem State.det_setMramOut (k : Nat) : (s.setMramOut x).det k = s.det k := rfl
@[simp] theorem State.pin_setMramOut (k : Nat) : (s.setMramOut x).pin k = s.pin k := rfl
@[simp] theorem State.alm_setMramOut (k : Nat) : (s.setMramOut x).alm k = s.alm k := rfl
@[simp] theorem State.bucket_setMramOut (k : Nat) : (s.setMramOut x).bucket k = s.bucket k := rfl
@[simp] theorem State.clPhase_setMramOut (k : Nat) : (s.setMramOut x).clPhase k = s.clPhase k := rfl
@[simp] theorem State.claim_setMramOut (k : Nat) : (s.setMramOut x).claim k = s.claim k := rfl
@[simp] theorem State.can_setMramOut (k : Nat) : (s.setMramOut x).can k = s.can k := rfl
@[simp] theorem State.supBits_setMramOut (k : Nat) : (s.setMramOut x).supBits k = s.supBits k := rfl
@[simp] theorem State.eff_setMramOut (k : Nat) : (s.setMramOut x).eff k = s.eff k := rfl
@[simp] theorem State.core_setMramOut (k : Nat) : (s.setMramOut x).core k = s.core k := rfl
@[simp] theorem State.elem_setMramOut (k : Nat) : (s.setMramOut x).elem k = s.elem k := rfl
@[simp] theorem State.sup_setMramOut (k : Nat) : (s.setMramOut x).sup k = s.sup k := rfl
@[simp] theorem State.line_setMramOut (k : Nat) : (s.setMramOut x).line k = s.line k := rfl
@[simp] theorem State.blzU_setMramOut (k : Nat) : (s.setMramOut x).blzU k = s.blzU k := rfl
@[simp] theorem State.gauge_setMramOut (k : Nat) : (s.setMramOut x).gauge k = s.gauge k := rfl
@[simp] theorem State.rcu_setMramOut (k : Nat) : (s.setMramOut x).rcu k = s.rcu k := rfl
@[simp] theorem State.wbu_setMramOut (k : Nat) : (s.setMramOut x).wbu k = s.wbu k := rfl
end

section
variable (s : State) (x : List Nat)
@[simp] theorem State.setEnded_regs : (s.setEnded x).regs = s.regs := rfl
@[simp] theorem State.setEnded_mram : (s.setEnded x).mram = s.mram := rfl
@[simp] theorem State.setEnded_claims : (s.setEnded x).claims = s.claims := rfl
@[simp] theorem State.setEnded_ended : (s.setEnded x).ended = x := rfl
@[simp] theorem State.setEnded_rsp : (s.setEnded x).rsp = s.rsp := rfl
@[simp] theorem State.setEnded_spiOut : (s.setEnded x).spiOut = s.spiOut := rfl
@[simp] theorem State.setEnded_snaps : (s.setEnded x).snaps = s.snaps := rfl
@[simp] theorem State.setEnded_holds : (s.setEnded x).holds = s.holds := rfl
@[simp] theorem State.setEnded_inds : (s.setEnded x).inds = s.inds := rfl
@[simp] theorem State.setEnded_hbiReady : (s.setEnded x).hbiReady = s.hbiReady := rfl
@[simp] theorem State.setEnded_supPend : (s.setEnded x).supPend = s.supPend := rfl
@[simp] theorem State.setEnded_links : (s.setEnded x).links = s.links := rfl
@[simp] theorem State.setEnded_mramErr : (s.setEnded x).mramErr = s.mramErr := rfl
@[simp] theorem State.setEnded_mramOut : (s.setEnded x).mramOut = s.mramOut := rfl
@[simp] theorem State.setEnded_tally : (s.setEnded x).tally = s.tally := rfl
@[simp] theorem State.setEnded_buckets : (s.setEnded x).buckets = s.buckets := rfl
@[simp] theorem State.setEnded_tb : (s.setEnded x).tb = s.tb := rfl
@[simp] theorem State.setEnded_alms : (s.setEnded x).alms = s.alms := rfl
@[simp] theorem State.setEnded_pins : (s.setEnded x).pins = s.pins := rfl
@[simp] theorem State.setEnded_tick : (s.setEnded x).tick = s.tick := rfl
@[simp] theorem State.setEnded_stepFlag : (s.setEnded x).stepFlag = s.stepFlag := rfl
@[simp] theorem State.setEnded_phase : (s.setEnded x).phase = s.phase := rfl
@[simp] theorem State.setEnded_lanes : (s.setEnded x).lanes = s.lanes := rfl
@[simp] theorem State.setEnded_clSrc : (s.setEnded x).clSrc = s.clSrc := rfl
@[simp] theorem State.setEnded_expect : (s.setEnded x).expect = s.expect := rfl
@[simp] theorem State.setEnded_late : (s.setEnded x).late = s.late := rfl
@[simp] theorem State.setEnded_trk : (s.setEnded x).trk = s.trk := rfl
@[simp] theorem State.setEnded_fpds : (s.setEnded x).fpds = s.fpds := rfl
@[simp] theorem State.setEnded_dets : (s.setEnded x).dets = s.dets := rfl
@[simp] theorem State.setEnded_light : (s.setEnded x).light = s.light := rfl
@[simp] theorem State.setEnded_heldRegs : (s.setEnded x).heldRegs = s.heldRegs := rfl
@[simp] theorem State.setEnded_cores : (s.setEnded x).cores = s.cores := rfl
@[simp] theorem State.setEnded_elems : (s.setEnded x).elems = s.elems := rfl
@[simp] theorem State.setEnded_sups : (s.setEnded x).sups = s.sups := rfl
@[simp] theorem State.setEnded_inForce : (s.setEnded x).inForce = s.inForce := rfl
@[simp] theorem State.setEnded_cans : (s.setEnded x).cans = s.cans := rfl
@[simp] theorem State.setEnded_eth : (s.setEnded x).eth = s.eth := rfl
@[simp] theorem State.setEnded_field_ : (s.setEnded x).field_ = s.field_ := rfl
@[simp] theorem State.setEnded_fio : (s.setEnded x).fio = s.fio := rfl
@[simp] theorem State.setEnded_lines : (s.setEnded x).lines = s.lines := rfl
@[simp] theorem State.setEnded_tripKey : (s.setEnded x).tripKey = s.tripKey := rfl
@[simp] theorem State.setEnded_lathe : (s.setEnded x).lathe = s.lathe := rfl
@[simp] theorem State.setEnded_ticks : (s.setEnded x).ticks = s.ticks := rfl
@[simp] theorem State.setEnded_recs : (s.setEnded x).recs = s.recs := rfl
@[simp] theorem State.setEnded_wbs : (s.setEnded x).wbs = s.wbs := rfl
@[simp] theorem State.setEnded_gauges : (s.setEnded x).gauges = s.gauges := rfl
@[simp] theorem State.setEnded_blz : (s.setEnded x).blz = s.blz := rfl
@[simp] theorem State.setEnded_pair : (s.setEnded x).pair = s.pair := rfl
@[simp] theorem State.setEnded_meter : (s.setEnded x).meter = s.meter := rfl
@[simp] theorem State.setEnded_power : (s.setEnded x).power = s.power := rfl
@[simp] theorem State.setEnded_freeCtr : (s.setEnded x).freeCtr = s.freeCtr := rfl
@[simp] theorem State.setEnded_pending : (s.setEnded x).pending = s.pending := rfl
@[simp] theorem State.rd_setEnded (k : Nat) : (s.setEnded x).rd k = s.rd k := rfl
@[simp] theorem State.mb_setEnded (k : Nat) : (s.setEnded x).mb k = s.mb k := rfl
@[simp] theorem State.ind_setEnded (k : Nat) : (s.setEnded x).ind k = s.ind k := rfl
@[simp] theorem State.link_setEnded (k : Nat) : (s.setEnded x).link k = s.link k := rfl
@[simp] theorem State.lane_setEnded (k : Nat) : (s.setEnded x).lane k = s.lane k := rfl
@[simp] theorem State.tracker_setEnded (k : Nat) : (s.setEnded x).tracker k = s.tracker k := rfl
@[simp] theorem State.fpd_setEnded (k : Nat) : (s.setEnded x).fpd k = s.fpd k := rfl
@[simp] theorem State.det_setEnded (k : Nat) : (s.setEnded x).det k = s.det k := rfl
@[simp] theorem State.pin_setEnded (k : Nat) : (s.setEnded x).pin k = s.pin k := rfl
@[simp] theorem State.alm_setEnded (k : Nat) : (s.setEnded x).alm k = s.alm k := rfl
@[simp] theorem State.bucket_setEnded (k : Nat) : (s.setEnded x).bucket k = s.bucket k := rfl
@[simp] theorem State.clPhase_setEnded (k : Nat) : (s.setEnded x).clPhase k = s.clPhase k := rfl
@[simp] theorem State.claim_setEnded (k : Nat) : (s.setEnded x).claim k = s.claim k := rfl
@[simp] theorem State.can_setEnded (k : Nat) : (s.setEnded x).can k = s.can k := rfl
@[simp] theorem State.supBits_setEnded (k : Nat) : (s.setEnded x).supBits k = s.supBits k := rfl
@[simp] theorem State.eff_setEnded (k : Nat) : (s.setEnded x).eff k = s.eff k := rfl
@[simp] theorem State.core_setEnded (k : Nat) : (s.setEnded x).core k = s.core k := rfl
@[simp] theorem State.elem_setEnded (k : Nat) : (s.setEnded x).elem k = s.elem k := rfl
@[simp] theorem State.sup_setEnded (k : Nat) : (s.setEnded x).sup k = s.sup k := rfl
@[simp] theorem State.line_setEnded (k : Nat) : (s.setEnded x).line k = s.line k := rfl
@[simp] theorem State.blzU_setEnded (k : Nat) : (s.setEnded x).blzU k = s.blzU k := rfl
@[simp] theorem State.gauge_setEnded (k : Nat) : (s.setEnded x).gauge k = s.gauge k := rfl
@[simp] theorem State.rcu_setEnded (k : Nat) : (s.setEnded x).rcu k = s.rcu k := rfl
@[simp] theorem State.wbu_setEnded (k : Nat) : (s.setEnded x).wbu k = s.wbu k := rfl
end

section
variable (s : State) (x : Bool)
@[simp] theorem State.setReady_regs : (s.setReady x).regs = s.regs := rfl
@[simp] theorem State.setReady_mram : (s.setReady x).mram = s.mram := rfl
@[simp] theorem State.setReady_claims : (s.setReady x).claims = s.claims := rfl
@[simp] theorem State.setReady_ended : (s.setReady x).ended = s.ended := rfl
@[simp] theorem State.setReady_rsp : (s.setReady x).rsp = s.rsp := rfl
@[simp] theorem State.setReady_spiOut : (s.setReady x).spiOut = s.spiOut := rfl
@[simp] theorem State.setReady_snaps : (s.setReady x).snaps = s.snaps := rfl
@[simp] theorem State.setReady_holds : (s.setReady x).holds = s.holds := rfl
@[simp] theorem State.setReady_inds : (s.setReady x).inds = s.inds := rfl
@[simp] theorem State.setReady_hbiReady : (s.setReady x).hbiReady = x := rfl
@[simp] theorem State.setReady_supPend : (s.setReady x).supPend = s.supPend := rfl
@[simp] theorem State.setReady_links : (s.setReady x).links = s.links := rfl
@[simp] theorem State.setReady_mramErr : (s.setReady x).mramErr = s.mramErr := rfl
@[simp] theorem State.setReady_mramOut : (s.setReady x).mramOut = s.mramOut := rfl
@[simp] theorem State.setReady_tally : (s.setReady x).tally = s.tally := rfl
@[simp] theorem State.setReady_buckets : (s.setReady x).buckets = s.buckets := rfl
@[simp] theorem State.setReady_tb : (s.setReady x).tb = s.tb := rfl
@[simp] theorem State.setReady_alms : (s.setReady x).alms = s.alms := rfl
@[simp] theorem State.setReady_pins : (s.setReady x).pins = s.pins := rfl
@[simp] theorem State.setReady_tick : (s.setReady x).tick = s.tick := rfl
@[simp] theorem State.setReady_stepFlag : (s.setReady x).stepFlag = s.stepFlag := rfl
@[simp] theorem State.setReady_phase : (s.setReady x).phase = s.phase := rfl
@[simp] theorem State.setReady_lanes : (s.setReady x).lanes = s.lanes := rfl
@[simp] theorem State.setReady_clSrc : (s.setReady x).clSrc = s.clSrc := rfl
@[simp] theorem State.setReady_expect : (s.setReady x).expect = s.expect := rfl
@[simp] theorem State.setReady_late : (s.setReady x).late = s.late := rfl
@[simp] theorem State.setReady_trk : (s.setReady x).trk = s.trk := rfl
@[simp] theorem State.setReady_fpds : (s.setReady x).fpds = s.fpds := rfl
@[simp] theorem State.setReady_dets : (s.setReady x).dets = s.dets := rfl
@[simp] theorem State.setReady_light : (s.setReady x).light = s.light := rfl
@[simp] theorem State.setReady_heldRegs : (s.setReady x).heldRegs = s.heldRegs := rfl
@[simp] theorem State.setReady_cores : (s.setReady x).cores = s.cores := rfl
@[simp] theorem State.setReady_elems : (s.setReady x).elems = s.elems := rfl
@[simp] theorem State.setReady_sups : (s.setReady x).sups = s.sups := rfl
@[simp] theorem State.setReady_inForce : (s.setReady x).inForce = s.inForce := rfl
@[simp] theorem State.setReady_cans : (s.setReady x).cans = s.cans := rfl
@[simp] theorem State.setReady_eth : (s.setReady x).eth = s.eth := rfl
@[simp] theorem State.setReady_field_ : (s.setReady x).field_ = s.field_ := rfl
@[simp] theorem State.setReady_fio : (s.setReady x).fio = s.fio := rfl
@[simp] theorem State.setReady_lines : (s.setReady x).lines = s.lines := rfl
@[simp] theorem State.setReady_tripKey : (s.setReady x).tripKey = s.tripKey := rfl
@[simp] theorem State.setReady_lathe : (s.setReady x).lathe = s.lathe := rfl
@[simp] theorem State.setReady_ticks : (s.setReady x).ticks = s.ticks := rfl
@[simp] theorem State.setReady_recs : (s.setReady x).recs = s.recs := rfl
@[simp] theorem State.setReady_wbs : (s.setReady x).wbs = s.wbs := rfl
@[simp] theorem State.setReady_gauges : (s.setReady x).gauges = s.gauges := rfl
@[simp] theorem State.setReady_blz : (s.setReady x).blz = s.blz := rfl
@[simp] theorem State.setReady_pair : (s.setReady x).pair = s.pair := rfl
@[simp] theorem State.setReady_meter : (s.setReady x).meter = s.meter := rfl
@[simp] theorem State.setReady_power : (s.setReady x).power = s.power := rfl
@[simp] theorem State.setReady_freeCtr : (s.setReady x).freeCtr = s.freeCtr := rfl
@[simp] theorem State.setReady_pending : (s.setReady x).pending = s.pending := rfl
@[simp] theorem State.rd_setReady (k : Nat) : (s.setReady x).rd k = s.rd k := rfl
@[simp] theorem State.mb_setReady (k : Nat) : (s.setReady x).mb k = s.mb k := rfl
@[simp] theorem State.ind_setReady (k : Nat) : (s.setReady x).ind k = s.ind k := rfl
@[simp] theorem State.link_setReady (k : Nat) : (s.setReady x).link k = s.link k := rfl
@[simp] theorem State.lane_setReady (k : Nat) : (s.setReady x).lane k = s.lane k := rfl
@[simp] theorem State.tracker_setReady (k : Nat) : (s.setReady x).tracker k = s.tracker k := rfl
@[simp] theorem State.fpd_setReady (k : Nat) : (s.setReady x).fpd k = s.fpd k := rfl
@[simp] theorem State.det_setReady (k : Nat) : (s.setReady x).det k = s.det k := rfl
@[simp] theorem State.pin_setReady (k : Nat) : (s.setReady x).pin k = s.pin k := rfl
@[simp] theorem State.alm_setReady (k : Nat) : (s.setReady x).alm k = s.alm k := rfl
@[simp] theorem State.bucket_setReady (k : Nat) : (s.setReady x).bucket k = s.bucket k := rfl
@[simp] theorem State.clPhase_setReady (k : Nat) : (s.setReady x).clPhase k = s.clPhase k := rfl
@[simp] theorem State.claim_setReady (k : Nat) : (s.setReady x).claim k = s.claim k := rfl
@[simp] theorem State.can_setReady (k : Nat) : (s.setReady x).can k = s.can k := rfl
@[simp] theorem State.supBits_setReady (k : Nat) : (s.setReady x).supBits k = s.supBits k := rfl
@[simp] theorem State.eff_setReady (k : Nat) : (s.setReady x).eff k = s.eff k := rfl
@[simp] theorem State.core_setReady (k : Nat) : (s.setReady x).core k = s.core k := rfl
@[simp] theorem State.elem_setReady (k : Nat) : (s.setReady x).elem k = s.elem k := rfl
@[simp] theorem State.sup_setReady (k : Nat) : (s.setReady x).sup k = s.sup k := rfl
@[simp] theorem State.line_setReady (k : Nat) : (s.setReady x).line k = s.line k := rfl
@[simp] theorem State.blzU_setReady (k : Nat) : (s.setReady x).blzU k = s.blzU k := rfl
@[simp] theorem State.gauge_setReady (k : Nat) : (s.setReady x).gauge k = s.gauge k := rfl
@[simp] theorem State.rcu_setReady (k : Nat) : (s.setReady x).rcu k = s.rcu k := rfl
@[simp] theorem State.wbu_setReady (k : Nat) : (s.setReady x).wbu k = s.wbu k := rfl
end

section
variable (s : State) (x : BitVec 48)
@[simp] theorem State.setLight_regs : (s.setLight x).regs = s.regs := rfl
@[simp] theorem State.setLight_mram : (s.setLight x).mram = s.mram := rfl
@[simp] theorem State.setLight_claims : (s.setLight x).claims = s.claims := rfl
@[simp] theorem State.setLight_ended : (s.setLight x).ended = s.ended := rfl
@[simp] theorem State.setLight_rsp : (s.setLight x).rsp = s.rsp := rfl
@[simp] theorem State.setLight_spiOut : (s.setLight x).spiOut = s.spiOut := rfl
@[simp] theorem State.setLight_snaps : (s.setLight x).snaps = s.snaps := rfl
@[simp] theorem State.setLight_holds : (s.setLight x).holds = s.holds := rfl
@[simp] theorem State.setLight_inds : (s.setLight x).inds = s.inds := rfl
@[simp] theorem State.setLight_hbiReady : (s.setLight x).hbiReady = s.hbiReady := rfl
@[simp] theorem State.setLight_supPend : (s.setLight x).supPend = s.supPend := rfl
@[simp] theorem State.setLight_links : (s.setLight x).links = s.links := rfl
@[simp] theorem State.setLight_mramErr : (s.setLight x).mramErr = s.mramErr := rfl
@[simp] theorem State.setLight_mramOut : (s.setLight x).mramOut = s.mramOut := rfl
@[simp] theorem State.setLight_tally : (s.setLight x).tally = s.tally := rfl
@[simp] theorem State.setLight_buckets : (s.setLight x).buckets = s.buckets := rfl
@[simp] theorem State.setLight_tb : (s.setLight x).tb = s.tb := rfl
@[simp] theorem State.setLight_alms : (s.setLight x).alms = s.alms := rfl
@[simp] theorem State.setLight_pins : (s.setLight x).pins = s.pins := rfl
@[simp] theorem State.setLight_tick : (s.setLight x).tick = s.tick := rfl
@[simp] theorem State.setLight_stepFlag : (s.setLight x).stepFlag = s.stepFlag := rfl
@[simp] theorem State.setLight_phase : (s.setLight x).phase = s.phase := rfl
@[simp] theorem State.setLight_lanes : (s.setLight x).lanes = s.lanes := rfl
@[simp] theorem State.setLight_clSrc : (s.setLight x).clSrc = s.clSrc := rfl
@[simp] theorem State.setLight_expect : (s.setLight x).expect = s.expect := rfl
@[simp] theorem State.setLight_late : (s.setLight x).late = s.late := rfl
@[simp] theorem State.setLight_trk : (s.setLight x).trk = s.trk := rfl
@[simp] theorem State.setLight_fpds : (s.setLight x).fpds = s.fpds := rfl
@[simp] theorem State.setLight_dets : (s.setLight x).dets = s.dets := rfl
@[simp] theorem State.setLight_light : (s.setLight x).light = x := rfl
@[simp] theorem State.setLight_heldRegs : (s.setLight x).heldRegs = s.heldRegs := rfl
@[simp] theorem State.setLight_cores : (s.setLight x).cores = s.cores := rfl
@[simp] theorem State.setLight_elems : (s.setLight x).elems = s.elems := rfl
@[simp] theorem State.setLight_sups : (s.setLight x).sups = s.sups := rfl
@[simp] theorem State.setLight_inForce : (s.setLight x).inForce = s.inForce := rfl
@[simp] theorem State.setLight_cans : (s.setLight x).cans = s.cans := rfl
@[simp] theorem State.setLight_eth : (s.setLight x).eth = s.eth := rfl
@[simp] theorem State.setLight_field_ : (s.setLight x).field_ = s.field_ := rfl
@[simp] theorem State.setLight_fio : (s.setLight x).fio = s.fio := rfl
@[simp] theorem State.setLight_lines : (s.setLight x).lines = s.lines := rfl
@[simp] theorem State.setLight_tripKey : (s.setLight x).tripKey = s.tripKey := rfl
@[simp] theorem State.setLight_lathe : (s.setLight x).lathe = s.lathe := rfl
@[simp] theorem State.setLight_ticks : (s.setLight x).ticks = s.ticks := rfl
@[simp] theorem State.setLight_recs : (s.setLight x).recs = s.recs := rfl
@[simp] theorem State.setLight_wbs : (s.setLight x).wbs = s.wbs := rfl
@[simp] theorem State.setLight_gauges : (s.setLight x).gauges = s.gauges := rfl
@[simp] theorem State.setLight_blz : (s.setLight x).blz = s.blz := rfl
@[simp] theorem State.setLight_pair : (s.setLight x).pair = s.pair := rfl
@[simp] theorem State.setLight_meter : (s.setLight x).meter = s.meter := rfl
@[simp] theorem State.setLight_power : (s.setLight x).power = s.power := rfl
@[simp] theorem State.setLight_freeCtr : (s.setLight x).freeCtr = s.freeCtr := rfl
@[simp] theorem State.setLight_pending : (s.setLight x).pending = s.pending := rfl
@[simp] theorem State.rd_setLight (k : Nat) : (s.setLight x).rd k = s.rd k := rfl
@[simp] theorem State.mb_setLight (k : Nat) : (s.setLight x).mb k = s.mb k := rfl
@[simp] theorem State.ind_setLight (k : Nat) : (s.setLight x).ind k = s.ind k := rfl
@[simp] theorem State.link_setLight (k : Nat) : (s.setLight x).link k = s.link k := rfl
@[simp] theorem State.lane_setLight (k : Nat) : (s.setLight x).lane k = s.lane k := rfl
@[simp] theorem State.tracker_setLight (k : Nat) : (s.setLight x).tracker k = s.tracker k := rfl
@[simp] theorem State.fpd_setLight (k : Nat) : (s.setLight x).fpd k = s.fpd k := rfl
@[simp] theorem State.det_setLight (k : Nat) : (s.setLight x).det k = s.det k := rfl
@[simp] theorem State.pin_setLight (k : Nat) : (s.setLight x).pin k = s.pin k := rfl
@[simp] theorem State.alm_setLight (k : Nat) : (s.setLight x).alm k = s.alm k := rfl
@[simp] theorem State.bucket_setLight (k : Nat) : (s.setLight x).bucket k = s.bucket k := rfl
@[simp] theorem State.clPhase_setLight (k : Nat) : (s.setLight x).clPhase k = s.clPhase k := rfl
@[simp] theorem State.claim_setLight (k : Nat) : (s.setLight x).claim k = s.claim k := rfl
@[simp] theorem State.can_setLight (k : Nat) : (s.setLight x).can k = s.can k := rfl
@[simp] theorem State.supBits_setLight (k : Nat) : (s.setLight x).supBits k = s.supBits k := rfl
@[simp] theorem State.eff_setLight (k : Nat) : (s.setLight x).eff k = s.eff k := rfl
@[simp] theorem State.core_setLight (k : Nat) : (s.setLight x).core k = s.core k := rfl
@[simp] theorem State.elem_setLight (k : Nat) : (s.setLight x).elem k = s.elem k := rfl
@[simp] theorem State.sup_setLight (k : Nat) : (s.setLight x).sup k = s.sup k := rfl
@[simp] theorem State.line_setLight (k : Nat) : (s.setLight x).line k = s.line k := rfl
@[simp] theorem State.blzU_setLight (k : Nat) : (s.setLight x).blzU k = s.blzU k := rfl
@[simp] theorem State.gauge_setLight (k : Nat) : (s.setLight x).gauge k = s.gauge k := rfl
@[simp] theorem State.rcu_setLight (k : Nat) : (s.setLight x).rcu k = s.rcu k := rfl
@[simp] theorem State.wbu_setLight (k : Nat) : (s.setLight x).wbu k = s.wbu k := rfl
end

section
variable (s : State) (x : List Nat)
@[simp] theorem State.setHeldRegs_regs : (s.setHeldRegs x).regs = s.regs := rfl
@[simp] theorem State.setHeldRegs_mram : (s.setHeldRegs x).mram = s.mram := rfl
@[simp] theorem State.setHeldRegs_claims : (s.setHeldRegs x).claims = s.claims := rfl
@[simp] theorem State.setHeldRegs_ended : (s.setHeldRegs x).ended = s.ended := rfl
@[simp] theorem State.setHeldRegs_rsp : (s.setHeldRegs x).rsp = s.rsp := rfl
@[simp] theorem State.setHeldRegs_spiOut : (s.setHeldRegs x).spiOut = s.spiOut := rfl
@[simp] theorem State.setHeldRegs_snaps : (s.setHeldRegs x).snaps = s.snaps := rfl
@[simp] theorem State.setHeldRegs_holds : (s.setHeldRegs x).holds = s.holds := rfl
@[simp] theorem State.setHeldRegs_inds : (s.setHeldRegs x).inds = s.inds := rfl
@[simp] theorem State.setHeldRegs_hbiReady : (s.setHeldRegs x).hbiReady = s.hbiReady := rfl
@[simp] theorem State.setHeldRegs_supPend : (s.setHeldRegs x).supPend = s.supPend := rfl
@[simp] theorem State.setHeldRegs_links : (s.setHeldRegs x).links = s.links := rfl
@[simp] theorem State.setHeldRegs_mramErr : (s.setHeldRegs x).mramErr = s.mramErr := rfl
@[simp] theorem State.setHeldRegs_mramOut : (s.setHeldRegs x).mramOut = s.mramOut := rfl
@[simp] theorem State.setHeldRegs_tally : (s.setHeldRegs x).tally = s.tally := rfl
@[simp] theorem State.setHeldRegs_buckets : (s.setHeldRegs x).buckets = s.buckets := rfl
@[simp] theorem State.setHeldRegs_tb : (s.setHeldRegs x).tb = s.tb := rfl
@[simp] theorem State.setHeldRegs_alms : (s.setHeldRegs x).alms = s.alms := rfl
@[simp] theorem State.setHeldRegs_pins : (s.setHeldRegs x).pins = s.pins := rfl
@[simp] theorem State.setHeldRegs_tick : (s.setHeldRegs x).tick = s.tick := rfl
@[simp] theorem State.setHeldRegs_stepFlag : (s.setHeldRegs x).stepFlag = s.stepFlag := rfl
@[simp] theorem State.setHeldRegs_phase : (s.setHeldRegs x).phase = s.phase := rfl
@[simp] theorem State.setHeldRegs_lanes : (s.setHeldRegs x).lanes = s.lanes := rfl
@[simp] theorem State.setHeldRegs_clSrc : (s.setHeldRegs x).clSrc = s.clSrc := rfl
@[simp] theorem State.setHeldRegs_expect : (s.setHeldRegs x).expect = s.expect := rfl
@[simp] theorem State.setHeldRegs_late : (s.setHeldRegs x).late = s.late := rfl
@[simp] theorem State.setHeldRegs_trk : (s.setHeldRegs x).trk = s.trk := rfl
@[simp] theorem State.setHeldRegs_fpds : (s.setHeldRegs x).fpds = s.fpds := rfl
@[simp] theorem State.setHeldRegs_dets : (s.setHeldRegs x).dets = s.dets := rfl
@[simp] theorem State.setHeldRegs_light : (s.setHeldRegs x).light = s.light := rfl
@[simp] theorem State.setHeldRegs_heldRegs : (s.setHeldRegs x).heldRegs = x := rfl
@[simp] theorem State.setHeldRegs_cores : (s.setHeldRegs x).cores = s.cores := rfl
@[simp] theorem State.setHeldRegs_elems : (s.setHeldRegs x).elems = s.elems := rfl
@[simp] theorem State.setHeldRegs_sups : (s.setHeldRegs x).sups = s.sups := rfl
@[simp] theorem State.setHeldRegs_inForce : (s.setHeldRegs x).inForce = s.inForce := rfl
@[simp] theorem State.setHeldRegs_cans : (s.setHeldRegs x).cans = s.cans := rfl
@[simp] theorem State.setHeldRegs_eth : (s.setHeldRegs x).eth = s.eth := rfl
@[simp] theorem State.setHeldRegs_field_ : (s.setHeldRegs x).field_ = s.field_ := rfl
@[simp] theorem State.setHeldRegs_fio : (s.setHeldRegs x).fio = s.fio := rfl
@[simp] theorem State.setHeldRegs_lines : (s.setHeldRegs x).lines = s.lines := rfl
@[simp] theorem State.setHeldRegs_tripKey : (s.setHeldRegs x).tripKey = s.tripKey := rfl
@[simp] theorem State.setHeldRegs_lathe : (s.setHeldRegs x).lathe = s.lathe := rfl
@[simp] theorem State.setHeldRegs_ticks : (s.setHeldRegs x).ticks = s.ticks := rfl
@[simp] theorem State.setHeldRegs_recs : (s.setHeldRegs x).recs = s.recs := rfl
@[simp] theorem State.setHeldRegs_wbs : (s.setHeldRegs x).wbs = s.wbs := rfl
@[simp] theorem State.setHeldRegs_gauges : (s.setHeldRegs x).gauges = s.gauges := rfl
@[simp] theorem State.setHeldRegs_blz : (s.setHeldRegs x).blz = s.blz := rfl
@[simp] theorem State.setHeldRegs_pair : (s.setHeldRegs x).pair = s.pair := rfl
@[simp] theorem State.setHeldRegs_meter : (s.setHeldRegs x).meter = s.meter := rfl
@[simp] theorem State.setHeldRegs_power : (s.setHeldRegs x).power = s.power := rfl
@[simp] theorem State.setHeldRegs_freeCtr : (s.setHeldRegs x).freeCtr = s.freeCtr := rfl
@[simp] theorem State.setHeldRegs_pending : (s.setHeldRegs x).pending = s.pending := rfl
@[simp] theorem State.rd_setHeldRegs (k : Nat) : (s.setHeldRegs x).rd k = s.rd k := rfl
@[simp] theorem State.mb_setHeldRegs (k : Nat) : (s.setHeldRegs x).mb k = s.mb k := rfl
@[simp] theorem State.ind_setHeldRegs (k : Nat) : (s.setHeldRegs x).ind k = s.ind k := rfl
@[simp] theorem State.link_setHeldRegs (k : Nat) : (s.setHeldRegs x).link k = s.link k := rfl
@[simp] theorem State.lane_setHeldRegs (k : Nat) : (s.setHeldRegs x).lane k = s.lane k := rfl
@[simp] theorem State.tracker_setHeldRegs (k : Nat) : (s.setHeldRegs x).tracker k = s.tracker k := rfl
@[simp] theorem State.fpd_setHeldRegs (k : Nat) : (s.setHeldRegs x).fpd k = s.fpd k := rfl
@[simp] theorem State.det_setHeldRegs (k : Nat) : (s.setHeldRegs x).det k = s.det k := rfl
@[simp] theorem State.pin_setHeldRegs (k : Nat) : (s.setHeldRegs x).pin k = s.pin k := rfl
@[simp] theorem State.alm_setHeldRegs (k : Nat) : (s.setHeldRegs x).alm k = s.alm k := rfl
@[simp] theorem State.bucket_setHeldRegs (k : Nat) : (s.setHeldRegs x).bucket k = s.bucket k := rfl
@[simp] theorem State.clPhase_setHeldRegs (k : Nat) : (s.setHeldRegs x).clPhase k = s.clPhase k := rfl
@[simp] theorem State.claim_setHeldRegs (k : Nat) : (s.setHeldRegs x).claim k = s.claim k := rfl
@[simp] theorem State.can_setHeldRegs (k : Nat) : (s.setHeldRegs x).can k = s.can k := rfl
@[simp] theorem State.supBits_setHeldRegs (k : Nat) : (s.setHeldRegs x).supBits k = s.supBits k := rfl
@[simp] theorem State.eff_setHeldRegs (k : Nat) : (s.setHeldRegs x).eff k = s.eff k := rfl
@[simp] theorem State.core_setHeldRegs (k : Nat) : (s.setHeldRegs x).core k = s.core k := rfl
@[simp] theorem State.elem_setHeldRegs (k : Nat) : (s.setHeldRegs x).elem k = s.elem k := rfl
@[simp] theorem State.sup_setHeldRegs (k : Nat) : (s.setHeldRegs x).sup k = s.sup k := rfl
@[simp] theorem State.line_setHeldRegs (k : Nat) : (s.setHeldRegs x).line k = s.line k := rfl
@[simp] theorem State.blzU_setHeldRegs (k : Nat) : (s.setHeldRegs x).blzU k = s.blzU k := rfl
@[simp] theorem State.gauge_setHeldRegs (k : Nat) : (s.setHeldRegs x).gauge k = s.gauge k := rfl
@[simp] theorem State.rcu_setHeldRegs (k : Nat) : (s.setHeldRegs x).rcu k = s.rcu k := rfl
@[simp] theorem State.wbu_setHeldRegs (k : Nat) : (s.setHeldRegs x).wbu k = s.wbu k := rfl
end

section
variable (s : State) (x : List TickSnap)
@[simp] theorem State.setTicks_regs : (s.setTicks x).regs = s.regs := rfl
@[simp] theorem State.setTicks_mram : (s.setTicks x).mram = s.mram := rfl
@[simp] theorem State.setTicks_claims : (s.setTicks x).claims = s.claims := rfl
@[simp] theorem State.setTicks_ended : (s.setTicks x).ended = s.ended := rfl
@[simp] theorem State.setTicks_rsp : (s.setTicks x).rsp = s.rsp := rfl
@[simp] theorem State.setTicks_spiOut : (s.setTicks x).spiOut = s.spiOut := rfl
@[simp] theorem State.setTicks_snaps : (s.setTicks x).snaps = s.snaps := rfl
@[simp] theorem State.setTicks_holds : (s.setTicks x).holds = s.holds := rfl
@[simp] theorem State.setTicks_inds : (s.setTicks x).inds = s.inds := rfl
@[simp] theorem State.setTicks_hbiReady : (s.setTicks x).hbiReady = s.hbiReady := rfl
@[simp] theorem State.setTicks_supPend : (s.setTicks x).supPend = s.supPend := rfl
@[simp] theorem State.setTicks_links : (s.setTicks x).links = s.links := rfl
@[simp] theorem State.setTicks_mramErr : (s.setTicks x).mramErr = s.mramErr := rfl
@[simp] theorem State.setTicks_mramOut : (s.setTicks x).mramOut = s.mramOut := rfl
@[simp] theorem State.setTicks_tally : (s.setTicks x).tally = s.tally := rfl
@[simp] theorem State.setTicks_buckets : (s.setTicks x).buckets = s.buckets := rfl
@[simp] theorem State.setTicks_tb : (s.setTicks x).tb = s.tb := rfl
@[simp] theorem State.setTicks_alms : (s.setTicks x).alms = s.alms := rfl
@[simp] theorem State.setTicks_pins : (s.setTicks x).pins = s.pins := rfl
@[simp] theorem State.setTicks_tick : (s.setTicks x).tick = s.tick := rfl
@[simp] theorem State.setTicks_stepFlag : (s.setTicks x).stepFlag = s.stepFlag := rfl
@[simp] theorem State.setTicks_phase : (s.setTicks x).phase = s.phase := rfl
@[simp] theorem State.setTicks_lanes : (s.setTicks x).lanes = s.lanes := rfl
@[simp] theorem State.setTicks_clSrc : (s.setTicks x).clSrc = s.clSrc := rfl
@[simp] theorem State.setTicks_expect : (s.setTicks x).expect = s.expect := rfl
@[simp] theorem State.setTicks_late : (s.setTicks x).late = s.late := rfl
@[simp] theorem State.setTicks_trk : (s.setTicks x).trk = s.trk := rfl
@[simp] theorem State.setTicks_fpds : (s.setTicks x).fpds = s.fpds := rfl
@[simp] theorem State.setTicks_dets : (s.setTicks x).dets = s.dets := rfl
@[simp] theorem State.setTicks_light : (s.setTicks x).light = s.light := rfl
@[simp] theorem State.setTicks_heldRegs : (s.setTicks x).heldRegs = s.heldRegs := rfl
@[simp] theorem State.setTicks_cores : (s.setTicks x).cores = s.cores := rfl
@[simp] theorem State.setTicks_elems : (s.setTicks x).elems = s.elems := rfl
@[simp] theorem State.setTicks_sups : (s.setTicks x).sups = s.sups := rfl
@[simp] theorem State.setTicks_inForce : (s.setTicks x).inForce = s.inForce := rfl
@[simp] theorem State.setTicks_cans : (s.setTicks x).cans = s.cans := rfl
@[simp] theorem State.setTicks_eth : (s.setTicks x).eth = s.eth := rfl
@[simp] theorem State.setTicks_field_ : (s.setTicks x).field_ = s.field_ := rfl
@[simp] theorem State.setTicks_fio : (s.setTicks x).fio = s.fio := rfl
@[simp] theorem State.setTicks_lines : (s.setTicks x).lines = s.lines := rfl
@[simp] theorem State.setTicks_tripKey : (s.setTicks x).tripKey = s.tripKey := rfl
@[simp] theorem State.setTicks_lathe : (s.setTicks x).lathe = s.lathe := rfl
@[simp] theorem State.setTicks_ticks : (s.setTicks x).ticks = x := rfl
@[simp] theorem State.setTicks_recs : (s.setTicks x).recs = s.recs := rfl
@[simp] theorem State.setTicks_wbs : (s.setTicks x).wbs = s.wbs := rfl
@[simp] theorem State.setTicks_gauges : (s.setTicks x).gauges = s.gauges := rfl
@[simp] theorem State.setTicks_blz : (s.setTicks x).blz = s.blz := rfl
@[simp] theorem State.setTicks_pair : (s.setTicks x).pair = s.pair := rfl
@[simp] theorem State.setTicks_meter : (s.setTicks x).meter = s.meter := rfl
@[simp] theorem State.setTicks_power : (s.setTicks x).power = s.power := rfl
@[simp] theorem State.setTicks_freeCtr : (s.setTicks x).freeCtr = s.freeCtr := rfl
@[simp] theorem State.setTicks_pending : (s.setTicks x).pending = s.pending := rfl
@[simp] theorem State.rd_setTicks (k : Nat) : (s.setTicks x).rd k = s.rd k := rfl
@[simp] theorem State.mb_setTicks (k : Nat) : (s.setTicks x).mb k = s.mb k := rfl
@[simp] theorem State.ind_setTicks (k : Nat) : (s.setTicks x).ind k = s.ind k := rfl
@[simp] theorem State.link_setTicks (k : Nat) : (s.setTicks x).link k = s.link k := rfl
@[simp] theorem State.lane_setTicks (k : Nat) : (s.setTicks x).lane k = s.lane k := rfl
@[simp] theorem State.tracker_setTicks (k : Nat) : (s.setTicks x).tracker k = s.tracker k := rfl
@[simp] theorem State.fpd_setTicks (k : Nat) : (s.setTicks x).fpd k = s.fpd k := rfl
@[simp] theorem State.det_setTicks (k : Nat) : (s.setTicks x).det k = s.det k := rfl
@[simp] theorem State.pin_setTicks (k : Nat) : (s.setTicks x).pin k = s.pin k := rfl
@[simp] theorem State.alm_setTicks (k : Nat) : (s.setTicks x).alm k = s.alm k := rfl
@[simp] theorem State.bucket_setTicks (k : Nat) : (s.setTicks x).bucket k = s.bucket k := rfl
@[simp] theorem State.clPhase_setTicks (k : Nat) : (s.setTicks x).clPhase k = s.clPhase k := rfl
@[simp] theorem State.claim_setTicks (k : Nat) : (s.setTicks x).claim k = s.claim k := rfl
@[simp] theorem State.can_setTicks (k : Nat) : (s.setTicks x).can k = s.can k := rfl
@[simp] theorem State.supBits_setTicks (k : Nat) : (s.setTicks x).supBits k = s.supBits k := rfl
@[simp] theorem State.eff_setTicks (k : Nat) : (s.setTicks x).eff k = s.eff k := rfl
@[simp] theorem State.core_setTicks (k : Nat) : (s.setTicks x).core k = s.core k := rfl
@[simp] theorem State.elem_setTicks (k : Nat) : (s.setTicks x).elem k = s.elem k := rfl
@[simp] theorem State.sup_setTicks (k : Nat) : (s.setTicks x).sup k = s.sup k := rfl
@[simp] theorem State.line_setTicks (k : Nat) : (s.setTicks x).line k = s.line k := rfl
@[simp] theorem State.blzU_setTicks (k : Nat) : (s.setTicks x).blzU k = s.blzU k := rfl
@[simp] theorem State.gauge_setTicks (k : Nat) : (s.setTicks x).gauge k = s.gauge k := rfl
@[simp] theorem State.rcu_setTicks (k : Nat) : (s.setTicks x).rcu k = s.rcu k := rfl
@[simp] theorem State.wbu_setTicks (k : Nat) : (s.setTicks x).wbu k = s.wbu k := rfl
end

section
variable (s : State) (x : Option Nat)
@[simp] theorem State.setTripKey_regs : (s.setTripKey x).regs = s.regs := rfl
@[simp] theorem State.setTripKey_mram : (s.setTripKey x).mram = s.mram := rfl
@[simp] theorem State.setTripKey_claims : (s.setTripKey x).claims = s.claims := rfl
@[simp] theorem State.setTripKey_ended : (s.setTripKey x).ended = s.ended := rfl
@[simp] theorem State.setTripKey_rsp : (s.setTripKey x).rsp = s.rsp := rfl
@[simp] theorem State.setTripKey_spiOut : (s.setTripKey x).spiOut = s.spiOut := rfl
@[simp] theorem State.setTripKey_snaps : (s.setTripKey x).snaps = s.snaps := rfl
@[simp] theorem State.setTripKey_holds : (s.setTripKey x).holds = s.holds := rfl
@[simp] theorem State.setTripKey_inds : (s.setTripKey x).inds = s.inds := rfl
@[simp] theorem State.setTripKey_hbiReady : (s.setTripKey x).hbiReady = s.hbiReady := rfl
@[simp] theorem State.setTripKey_supPend : (s.setTripKey x).supPend = s.supPend := rfl
@[simp] theorem State.setTripKey_links : (s.setTripKey x).links = s.links := rfl
@[simp] theorem State.setTripKey_mramErr : (s.setTripKey x).mramErr = s.mramErr := rfl
@[simp] theorem State.setTripKey_mramOut : (s.setTripKey x).mramOut = s.mramOut := rfl
@[simp] theorem State.setTripKey_tally : (s.setTripKey x).tally = s.tally := rfl
@[simp] theorem State.setTripKey_buckets : (s.setTripKey x).buckets = s.buckets := rfl
@[simp] theorem State.setTripKey_tb : (s.setTripKey x).tb = s.tb := rfl
@[simp] theorem State.setTripKey_alms : (s.setTripKey x).alms = s.alms := rfl
@[simp] theorem State.setTripKey_pins : (s.setTripKey x).pins = s.pins := rfl
@[simp] theorem State.setTripKey_tick : (s.setTripKey x).tick = s.tick := rfl
@[simp] theorem State.setTripKey_stepFlag : (s.setTripKey x).stepFlag = s.stepFlag := rfl
@[simp] theorem State.setTripKey_phase : (s.setTripKey x).phase = s.phase := rfl
@[simp] theorem State.setTripKey_lanes : (s.setTripKey x).lanes = s.lanes := rfl
@[simp] theorem State.setTripKey_clSrc : (s.setTripKey x).clSrc = s.clSrc := rfl
@[simp] theorem State.setTripKey_expect : (s.setTripKey x).expect = s.expect := rfl
@[simp] theorem State.setTripKey_late : (s.setTripKey x).late = s.late := rfl
@[simp] theorem State.setTripKey_trk : (s.setTripKey x).trk = s.trk := rfl
@[simp] theorem State.setTripKey_fpds : (s.setTripKey x).fpds = s.fpds := rfl
@[simp] theorem State.setTripKey_dets : (s.setTripKey x).dets = s.dets := rfl
@[simp] theorem State.setTripKey_light : (s.setTripKey x).light = s.light := rfl
@[simp] theorem State.setTripKey_heldRegs : (s.setTripKey x).heldRegs = s.heldRegs := rfl
@[simp] theorem State.setTripKey_cores : (s.setTripKey x).cores = s.cores := rfl
@[simp] theorem State.setTripKey_elems : (s.setTripKey x).elems = s.elems := rfl
@[simp] theorem State.setTripKey_sups : (s.setTripKey x).sups = s.sups := rfl
@[simp] theorem State.setTripKey_inForce : (s.setTripKey x).inForce = s.inForce := rfl
@[simp] theorem State.setTripKey_cans : (s.setTripKey x).cans = s.cans := rfl
@[simp] theorem State.setTripKey_eth : (s.setTripKey x).eth = s.eth := rfl
@[simp] theorem State.setTripKey_field_ : (s.setTripKey x).field_ = s.field_ := rfl
@[simp] theorem State.setTripKey_fio : (s.setTripKey x).fio = s.fio := rfl
@[simp] theorem State.setTripKey_lines : (s.setTripKey x).lines = s.lines := rfl
@[simp] theorem State.setTripKey_tripKey : (s.setTripKey x).tripKey = x := rfl
@[simp] theorem State.setTripKey_lathe : (s.setTripKey x).lathe = s.lathe := rfl
@[simp] theorem State.setTripKey_ticks : (s.setTripKey x).ticks = s.ticks := rfl
@[simp] theorem State.setTripKey_recs : (s.setTripKey x).recs = s.recs := rfl
@[simp] theorem State.setTripKey_wbs : (s.setTripKey x).wbs = s.wbs := rfl
@[simp] theorem State.setTripKey_gauges : (s.setTripKey x).gauges = s.gauges := rfl
@[simp] theorem State.setTripKey_blz : (s.setTripKey x).blz = s.blz := rfl
@[simp] theorem State.setTripKey_pair : (s.setTripKey x).pair = s.pair := rfl
@[simp] theorem State.setTripKey_meter : (s.setTripKey x).meter = s.meter := rfl
@[simp] theorem State.setTripKey_power : (s.setTripKey x).power = s.power := rfl
@[simp] theorem State.setTripKey_freeCtr : (s.setTripKey x).freeCtr = s.freeCtr := rfl
@[simp] theorem State.setTripKey_pending : (s.setTripKey x).pending = s.pending := rfl
@[simp] theorem State.rd_setTripKey (k : Nat) : (s.setTripKey x).rd k = s.rd k := rfl
@[simp] theorem State.mb_setTripKey (k : Nat) : (s.setTripKey x).mb k = s.mb k := rfl
@[simp] theorem State.ind_setTripKey (k : Nat) : (s.setTripKey x).ind k = s.ind k := rfl
@[simp] theorem State.link_setTripKey (k : Nat) : (s.setTripKey x).link k = s.link k := rfl
@[simp] theorem State.lane_setTripKey (k : Nat) : (s.setTripKey x).lane k = s.lane k := rfl
@[simp] theorem State.tracker_setTripKey (k : Nat) : (s.setTripKey x).tracker k = s.tracker k := rfl
@[simp] theorem State.fpd_setTripKey (k : Nat) : (s.setTripKey x).fpd k = s.fpd k := rfl
@[simp] theorem State.det_setTripKey (k : Nat) : (s.setTripKey x).det k = s.det k := rfl
@[simp] theorem State.pin_setTripKey (k : Nat) : (s.setTripKey x).pin k = s.pin k := rfl
@[simp] theorem State.alm_setTripKey (k : Nat) : (s.setTripKey x).alm k = s.alm k := rfl
@[simp] theorem State.bucket_setTripKey (k : Nat) : (s.setTripKey x).bucket k = s.bucket k := rfl
@[simp] theorem State.clPhase_setTripKey (k : Nat) : (s.setTripKey x).clPhase k = s.clPhase k := rfl
@[simp] theorem State.claim_setTripKey (k : Nat) : (s.setTripKey x).claim k = s.claim k := rfl
@[simp] theorem State.can_setTripKey (k : Nat) : (s.setTripKey x).can k = s.can k := rfl
@[simp] theorem State.supBits_setTripKey (k : Nat) : (s.setTripKey x).supBits k = s.supBits k := rfl
@[simp] theorem State.eff_setTripKey (k : Nat) : (s.setTripKey x).eff k = s.eff k := rfl
@[simp] theorem State.core_setTripKey (k : Nat) : (s.setTripKey x).core k = s.core k := rfl
@[simp] theorem State.elem_setTripKey (k : Nat) : (s.setTripKey x).elem k = s.elem k := rfl
@[simp] theorem State.sup_setTripKey (k : Nat) : (s.setTripKey x).sup k = s.sup k := rfl
@[simp] theorem State.line_setTripKey (k : Nat) : (s.setTripKey x).line k = s.line k := rfl
@[simp] theorem State.blzU_setTripKey (k : Nat) : (s.setTripKey x).blzU k = s.blzU k := rfl
@[simp] theorem State.gauge_setTripKey (k : Nat) : (s.setTripKey x).gauge k = s.gauge k := rfl
@[simp] theorem State.rcu_setTripKey (k : Nat) : (s.setTripKey x).rcu k = s.rcu k := rfl
@[simp] theorem State.wbu_setTripKey (k : Nat) : (s.setTripKey x).wbu k = s.wbu k := rfl
end

section
variable (s : State) (x : SMap Word)
@[simp] theorem State.setForce_regs : (s.setForce x).regs = s.regs := rfl
@[simp] theorem State.setForce_mram : (s.setForce x).mram = s.mram := rfl
@[simp] theorem State.setForce_claims : (s.setForce x).claims = s.claims := rfl
@[simp] theorem State.setForce_ended : (s.setForce x).ended = s.ended := rfl
@[simp] theorem State.setForce_rsp : (s.setForce x).rsp = s.rsp := rfl
@[simp] theorem State.setForce_spiOut : (s.setForce x).spiOut = s.spiOut := rfl
@[simp] theorem State.setForce_snaps : (s.setForce x).snaps = s.snaps := rfl
@[simp] theorem State.setForce_holds : (s.setForce x).holds = s.holds := rfl
@[simp] theorem State.setForce_inds : (s.setForce x).inds = s.inds := rfl
@[simp] theorem State.setForce_hbiReady : (s.setForce x).hbiReady = s.hbiReady := rfl
@[simp] theorem State.setForce_supPend : (s.setForce x).supPend = s.supPend := rfl
@[simp] theorem State.setForce_links : (s.setForce x).links = s.links := rfl
@[simp] theorem State.setForce_mramErr : (s.setForce x).mramErr = s.mramErr := rfl
@[simp] theorem State.setForce_mramOut : (s.setForce x).mramOut = s.mramOut := rfl
@[simp] theorem State.setForce_tally : (s.setForce x).tally = s.tally := rfl
@[simp] theorem State.setForce_buckets : (s.setForce x).buckets = s.buckets := rfl
@[simp] theorem State.setForce_tb : (s.setForce x).tb = s.tb := rfl
@[simp] theorem State.setForce_alms : (s.setForce x).alms = s.alms := rfl
@[simp] theorem State.setForce_pins : (s.setForce x).pins = s.pins := rfl
@[simp] theorem State.setForce_tick : (s.setForce x).tick = s.tick := rfl
@[simp] theorem State.setForce_stepFlag : (s.setForce x).stepFlag = s.stepFlag := rfl
@[simp] theorem State.setForce_phase : (s.setForce x).phase = s.phase := rfl
@[simp] theorem State.setForce_lanes : (s.setForce x).lanes = s.lanes := rfl
@[simp] theorem State.setForce_clSrc : (s.setForce x).clSrc = s.clSrc := rfl
@[simp] theorem State.setForce_expect : (s.setForce x).expect = s.expect := rfl
@[simp] theorem State.setForce_late : (s.setForce x).late = s.late := rfl
@[simp] theorem State.setForce_trk : (s.setForce x).trk = s.trk := rfl
@[simp] theorem State.setForce_fpds : (s.setForce x).fpds = s.fpds := rfl
@[simp] theorem State.setForce_dets : (s.setForce x).dets = s.dets := rfl
@[simp] theorem State.setForce_light : (s.setForce x).light = s.light := rfl
@[simp] theorem State.setForce_heldRegs : (s.setForce x).heldRegs = s.heldRegs := rfl
@[simp] theorem State.setForce_cores : (s.setForce x).cores = s.cores := rfl
@[simp] theorem State.setForce_elems : (s.setForce x).elems = s.elems := rfl
@[simp] theorem State.setForce_sups : (s.setForce x).sups = s.sups := rfl
@[simp] theorem State.setForce_inForce : (s.setForce x).inForce = x := rfl
@[simp] theorem State.setForce_cans : (s.setForce x).cans = s.cans := rfl
@[simp] theorem State.setForce_eth : (s.setForce x).eth = s.eth := rfl
@[simp] theorem State.setForce_field_ : (s.setForce x).field_ = s.field_ := rfl
@[simp] theorem State.setForce_fio : (s.setForce x).fio = s.fio := rfl
@[simp] theorem State.setForce_lines : (s.setForce x).lines = s.lines := rfl
@[simp] theorem State.setForce_tripKey : (s.setForce x).tripKey = s.tripKey := rfl
@[simp] theorem State.setForce_lathe : (s.setForce x).lathe = s.lathe := rfl
@[simp] theorem State.setForce_ticks : (s.setForce x).ticks = s.ticks := rfl
@[simp] theorem State.setForce_recs : (s.setForce x).recs = s.recs := rfl
@[simp] theorem State.setForce_wbs : (s.setForce x).wbs = s.wbs := rfl
@[simp] theorem State.setForce_gauges : (s.setForce x).gauges = s.gauges := rfl
@[simp] theorem State.setForce_blz : (s.setForce x).blz = s.blz := rfl
@[simp] theorem State.setForce_pair : (s.setForce x).pair = s.pair := rfl
@[simp] theorem State.setForce_meter : (s.setForce x).meter = s.meter := rfl
@[simp] theorem State.setForce_power : (s.setForce x).power = s.power := rfl
@[simp] theorem State.setForce_freeCtr : (s.setForce x).freeCtr = s.freeCtr := rfl
@[simp] theorem State.setForce_pending : (s.setForce x).pending = s.pending := rfl
@[simp] theorem State.rd_setForce (k : Nat) : (s.setForce x).rd k = s.rd k := rfl
@[simp] theorem State.mb_setForce (k : Nat) : (s.setForce x).mb k = s.mb k := rfl
@[simp] theorem State.ind_setForce (k : Nat) : (s.setForce x).ind k = s.ind k := rfl
@[simp] theorem State.link_setForce (k : Nat) : (s.setForce x).link k = s.link k := rfl
@[simp] theorem State.lane_setForce (k : Nat) : (s.setForce x).lane k = s.lane k := rfl
@[simp] theorem State.tracker_setForce (k : Nat) : (s.setForce x).tracker k = s.tracker k := rfl
@[simp] theorem State.fpd_setForce (k : Nat) : (s.setForce x).fpd k = s.fpd k := rfl
@[simp] theorem State.det_setForce (k : Nat) : (s.setForce x).det k = s.det k := rfl
@[simp] theorem State.pin_setForce (k : Nat) : (s.setForce x).pin k = s.pin k := rfl
@[simp] theorem State.alm_setForce (k : Nat) : (s.setForce x).alm k = s.alm k := rfl
@[simp] theorem State.bucket_setForce (k : Nat) : (s.setForce x).bucket k = s.bucket k := rfl
@[simp] theorem State.clPhase_setForce (k : Nat) : (s.setForce x).clPhase k = s.clPhase k := rfl
@[simp] theorem State.claim_setForce (k : Nat) : (s.setForce x).claim k = s.claim k := rfl
@[simp] theorem State.can_setForce (k : Nat) : (s.setForce x).can k = s.can k := rfl
@[simp] theorem State.supBits_setForce (k : Nat) : (s.setForce x).supBits k = s.supBits k := rfl
@[simp] theorem State.core_setForce (k : Nat) : (s.setForce x).core k = s.core k := rfl
@[simp] theorem State.elem_setForce (k : Nat) : (s.setForce x).elem k = s.elem k := rfl
@[simp] theorem State.sup_setForce (k : Nat) : (s.setForce x).sup k = s.sup k := rfl
@[simp] theorem State.line_setForce (k : Nat) : (s.setForce x).line k = s.line k := rfl
@[simp] theorem State.blzU_setForce (k : Nat) : (s.setForce x).blzU k = s.blzU k := rfl
@[simp] theorem State.gauge_setForce (k : Nat) : (s.setForce x).gauge k = s.gauge k := rfl
@[simp] theorem State.rcu_setForce (k : Nat) : (s.setForce x).rcu k = s.rcu k := rfl
@[simp] theorem State.wbu_setForce (k : Nat) : (s.setForce x).wbu k = s.wbu k := rfl
end

section
variable (s : State) (c : Nat) (w : Word)
@[simp] theorem State.setClSrc_regs : (s.setClSrc c w).regs = s.regs := rfl
@[simp] theorem State.setClSrc_mram : (s.setClSrc c w).mram = s.mram := rfl
@[simp] theorem State.setClSrc_claims : (s.setClSrc c w).claims = s.claims := rfl
@[simp] theorem State.setClSrc_ended : (s.setClSrc c w).ended = s.ended := rfl
@[simp] theorem State.setClSrc_rsp : (s.setClSrc c w).rsp = s.rsp := rfl
@[simp] theorem State.setClSrc_spiOut : (s.setClSrc c w).spiOut = s.spiOut := rfl
@[simp] theorem State.setClSrc_snaps : (s.setClSrc c w).snaps = s.snaps := rfl
@[simp] theorem State.setClSrc_holds : (s.setClSrc c w).holds = s.holds := rfl
@[simp] theorem State.setClSrc_inds : (s.setClSrc c w).inds = s.inds := rfl
@[simp] theorem State.setClSrc_hbiReady : (s.setClSrc c w).hbiReady = s.hbiReady := rfl
@[simp] theorem State.setClSrc_supPend : (s.setClSrc c w).supPend = s.supPend := rfl
@[simp] theorem State.setClSrc_links : (s.setClSrc c w).links = s.links := rfl
@[simp] theorem State.setClSrc_mramErr : (s.setClSrc c w).mramErr = s.mramErr := rfl
@[simp] theorem State.setClSrc_mramOut : (s.setClSrc c w).mramOut = s.mramOut := rfl
@[simp] theorem State.setClSrc_tally : (s.setClSrc c w).tally = s.tally := rfl
@[simp] theorem State.setClSrc_buckets : (s.setClSrc c w).buckets = s.buckets := rfl
@[simp] theorem State.setClSrc_tb : (s.setClSrc c w).tb = s.tb := rfl
@[simp] theorem State.setClSrc_alms : (s.setClSrc c w).alms = s.alms := rfl
@[simp] theorem State.setClSrc_pins : (s.setClSrc c w).pins = s.pins := rfl
@[simp] theorem State.setClSrc_tick : (s.setClSrc c w).tick = s.tick := rfl
@[simp] theorem State.setClSrc_stepFlag : (s.setClSrc c w).stepFlag = s.stepFlag := rfl
@[simp] theorem State.setClSrc_phase : (s.setClSrc c w).phase = s.phase := rfl
@[simp] theorem State.setClSrc_lanes : (s.setClSrc c w).lanes = s.lanes := rfl
@[simp] theorem State.setClSrc_expect : (s.setClSrc c w).expect = s.expect := rfl
@[simp] theorem State.setClSrc_late : (s.setClSrc c w).late = s.late := rfl
@[simp] theorem State.setClSrc_trk : (s.setClSrc c w).trk = s.trk := rfl
@[simp] theorem State.setClSrc_fpds : (s.setClSrc c w).fpds = s.fpds := rfl
@[simp] theorem State.setClSrc_dets : (s.setClSrc c w).dets = s.dets := rfl
@[simp] theorem State.setClSrc_light : (s.setClSrc c w).light = s.light := rfl
@[simp] theorem State.setClSrc_heldRegs : (s.setClSrc c w).heldRegs = s.heldRegs := rfl
@[simp] theorem State.setClSrc_cores : (s.setClSrc c w).cores = s.cores := rfl
@[simp] theorem State.setClSrc_elems : (s.setClSrc c w).elems = s.elems := rfl
@[simp] theorem State.setClSrc_sups : (s.setClSrc c w).sups = s.sups := rfl
@[simp] theorem State.setClSrc_inForce : (s.setClSrc c w).inForce = s.inForce := rfl
@[simp] theorem State.setClSrc_cans : (s.setClSrc c w).cans = s.cans := rfl
@[simp] theorem State.setClSrc_eth : (s.setClSrc c w).eth = s.eth := rfl
@[simp] theorem State.setClSrc_field_ : (s.setClSrc c w).field_ = s.field_ := rfl
@[simp] theorem State.setClSrc_fio : (s.setClSrc c w).fio = s.fio := rfl
@[simp] theorem State.setClSrc_lines : (s.setClSrc c w).lines = s.lines := rfl
@[simp] theorem State.setClSrc_tripKey : (s.setClSrc c w).tripKey = s.tripKey := rfl
@[simp] theorem State.setClSrc_lathe : (s.setClSrc c w).lathe = s.lathe := rfl
@[simp] theorem State.setClSrc_ticks : (s.setClSrc c w).ticks = s.ticks := rfl
@[simp] theorem State.setClSrc_recs : (s.setClSrc c w).recs = s.recs := rfl
@[simp] theorem State.setClSrc_wbs : (s.setClSrc c w).wbs = s.wbs := rfl
@[simp] theorem State.setClSrc_gauges : (s.setClSrc c w).gauges = s.gauges := rfl
@[simp] theorem State.setClSrc_blz : (s.setClSrc c w).blz = s.blz := rfl
@[simp] theorem State.setClSrc_pair : (s.setClSrc c w).pair = s.pair := rfl
@[simp] theorem State.setClSrc_meter : (s.setClSrc c w).meter = s.meter := rfl
@[simp] theorem State.setClSrc_power : (s.setClSrc c w).power = s.power := rfl
@[simp] theorem State.setClSrc_freeCtr : (s.setClSrc c w).freeCtr = s.freeCtr := rfl
@[simp] theorem State.setClSrc_pending : (s.setClSrc c w).pending = s.pending := rfl
@[simp] theorem State.rd_setClSrc (k : Nat) : (s.setClSrc c w).rd k = s.rd k := rfl
@[simp] theorem State.mb_setClSrc (k : Nat) : (s.setClSrc c w).mb k = s.mb k := rfl
@[simp] theorem State.ind_setClSrc (k : Nat) : (s.setClSrc c w).ind k = s.ind k := rfl
@[simp] theorem State.link_setClSrc (k : Nat) : (s.setClSrc c w).link k = s.link k := rfl
@[simp] theorem State.lane_setClSrc (k : Nat) : (s.setClSrc c w).lane k = s.lane k := rfl
@[simp] theorem State.tracker_setClSrc (k : Nat) : (s.setClSrc c w).tracker k = s.tracker k := rfl
@[simp] theorem State.fpd_setClSrc (k : Nat) : (s.setClSrc c w).fpd k = s.fpd k := rfl
@[simp] theorem State.det_setClSrc (k : Nat) : (s.setClSrc c w).det k = s.det k := rfl
@[simp] theorem State.pin_setClSrc (k : Nat) : (s.setClSrc c w).pin k = s.pin k := rfl
@[simp] theorem State.alm_setClSrc (k : Nat) : (s.setClSrc c w).alm k = s.alm k := rfl
@[simp] theorem State.bucket_setClSrc (k : Nat) : (s.setClSrc c w).bucket k = s.bucket k := rfl
@[simp] theorem State.clPhase_setClSrc (k : Nat) : (s.setClSrc c w).clPhase k = s.clPhase k := rfl
@[simp] theorem State.claim_setClSrc (k : Nat) : (s.setClSrc c w).claim k = s.claim k := rfl
@[simp] theorem State.can_setClSrc (k : Nat) : (s.setClSrc c w).can k = s.can k := rfl
@[simp] theorem State.supBits_setClSrc (k : Nat) : (s.setClSrc c w).supBits k = s.supBits k := rfl
@[simp] theorem State.eff_setClSrc (k : Nat) : (s.setClSrc c w).eff k = s.eff k := rfl
@[simp] theorem State.core_setClSrc (k : Nat) : (s.setClSrc c w).core k = s.core k := rfl
@[simp] theorem State.elem_setClSrc (k : Nat) : (s.setClSrc c w).elem k = s.elem k := rfl
@[simp] theorem State.sup_setClSrc (k : Nat) : (s.setClSrc c w).sup k = s.sup k := rfl
@[simp] theorem State.line_setClSrc (k : Nat) : (s.setClSrc c w).line k = s.line k := rfl
@[simp] theorem State.blzU_setClSrc (k : Nat) : (s.setClSrc c w).blzU k = s.blzU k := rfl
@[simp] theorem State.gauge_setClSrc (k : Nat) : (s.setClSrc c w).gauge k = s.gauge k := rfl
@[simp] theorem State.rcu_setClSrc (k : Nat) : (s.setClSrc c w).rcu k = s.rcu k := rfl
@[simp] theorem State.wbu_setClSrc (k : Nat) : (s.setClSrc c w).wbu k = s.wbu k := rfl
end

section
variable (s : State) (c : Nat) (w : Word)
@[simp] theorem State.setExpect_regs : (s.setExpect c w).regs = s.regs := rfl
@[simp] theorem State.setExpect_mram : (s.setExpect c w).mram = s.mram := rfl
@[simp] theorem State.setExpect_claims : (s.setExpect c w).claims = s.claims := rfl
@[simp] theorem State.setExpect_ended : (s.setExpect c w).ended = s.ended := rfl
@[simp] theorem State.setExpect_rsp : (s.setExpect c w).rsp = s.rsp := rfl
@[simp] theorem State.setExpect_spiOut : (s.setExpect c w).spiOut = s.spiOut := rfl
@[simp] theorem State.setExpect_snaps : (s.setExpect c w).snaps = s.snaps := rfl
@[simp] theorem State.setExpect_holds : (s.setExpect c w).holds = s.holds := rfl
@[simp] theorem State.setExpect_inds : (s.setExpect c w).inds = s.inds := rfl
@[simp] theorem State.setExpect_hbiReady : (s.setExpect c w).hbiReady = s.hbiReady := rfl
@[simp] theorem State.setExpect_supPend : (s.setExpect c w).supPend = s.supPend := rfl
@[simp] theorem State.setExpect_links : (s.setExpect c w).links = s.links := rfl
@[simp] theorem State.setExpect_mramErr : (s.setExpect c w).mramErr = s.mramErr := rfl
@[simp] theorem State.setExpect_mramOut : (s.setExpect c w).mramOut = s.mramOut := rfl
@[simp] theorem State.setExpect_tally : (s.setExpect c w).tally = s.tally := rfl
@[simp] theorem State.setExpect_buckets : (s.setExpect c w).buckets = s.buckets := rfl
@[simp] theorem State.setExpect_tb : (s.setExpect c w).tb = s.tb := rfl
@[simp] theorem State.setExpect_alms : (s.setExpect c w).alms = s.alms := rfl
@[simp] theorem State.setExpect_pins : (s.setExpect c w).pins = s.pins := rfl
@[simp] theorem State.setExpect_tick : (s.setExpect c w).tick = s.tick := rfl
@[simp] theorem State.setExpect_stepFlag : (s.setExpect c w).stepFlag = s.stepFlag := rfl
@[simp] theorem State.setExpect_phase : (s.setExpect c w).phase = s.phase := rfl
@[simp] theorem State.setExpect_lanes : (s.setExpect c w).lanes = s.lanes := rfl
@[simp] theorem State.setExpect_clSrc : (s.setExpect c w).clSrc = s.clSrc := rfl
@[simp] theorem State.setExpect_late : (s.setExpect c w).late = s.late := rfl
@[simp] theorem State.setExpect_trk : (s.setExpect c w).trk = s.trk := rfl
@[simp] theorem State.setExpect_fpds : (s.setExpect c w).fpds = s.fpds := rfl
@[simp] theorem State.setExpect_dets : (s.setExpect c w).dets = s.dets := rfl
@[simp] theorem State.setExpect_light : (s.setExpect c w).light = s.light := rfl
@[simp] theorem State.setExpect_heldRegs : (s.setExpect c w).heldRegs = s.heldRegs := rfl
@[simp] theorem State.setExpect_cores : (s.setExpect c w).cores = s.cores := rfl
@[simp] theorem State.setExpect_elems : (s.setExpect c w).elems = s.elems := rfl
@[simp] theorem State.setExpect_sups : (s.setExpect c w).sups = s.sups := rfl
@[simp] theorem State.setExpect_inForce : (s.setExpect c w).inForce = s.inForce := rfl
@[simp] theorem State.setExpect_cans : (s.setExpect c w).cans = s.cans := rfl
@[simp] theorem State.setExpect_eth : (s.setExpect c w).eth = s.eth := rfl
@[simp] theorem State.setExpect_field_ : (s.setExpect c w).field_ = s.field_ := rfl
@[simp] theorem State.setExpect_fio : (s.setExpect c w).fio = s.fio := rfl
@[simp] theorem State.setExpect_lines : (s.setExpect c w).lines = s.lines := rfl
@[simp] theorem State.setExpect_tripKey : (s.setExpect c w).tripKey = s.tripKey := rfl
@[simp] theorem State.setExpect_lathe : (s.setExpect c w).lathe = s.lathe := rfl
@[simp] theorem State.setExpect_ticks : (s.setExpect c w).ticks = s.ticks := rfl
@[simp] theorem State.setExpect_recs : (s.setExpect c w).recs = s.recs := rfl
@[simp] theorem State.setExpect_wbs : (s.setExpect c w).wbs = s.wbs := rfl
@[simp] theorem State.setExpect_gauges : (s.setExpect c w).gauges = s.gauges := rfl
@[simp] theorem State.setExpect_blz : (s.setExpect c w).blz = s.blz := rfl
@[simp] theorem State.setExpect_pair : (s.setExpect c w).pair = s.pair := rfl
@[simp] theorem State.setExpect_meter : (s.setExpect c w).meter = s.meter := rfl
@[simp] theorem State.setExpect_power : (s.setExpect c w).power = s.power := rfl
@[simp] theorem State.setExpect_freeCtr : (s.setExpect c w).freeCtr = s.freeCtr := rfl
@[simp] theorem State.setExpect_pending : (s.setExpect c w).pending = s.pending := rfl
@[simp] theorem State.rd_setExpect (k : Nat) : (s.setExpect c w).rd k = s.rd k := rfl
@[simp] theorem State.mb_setExpect (k : Nat) : (s.setExpect c w).mb k = s.mb k := rfl
@[simp] theorem State.ind_setExpect (k : Nat) : (s.setExpect c w).ind k = s.ind k := rfl
@[simp] theorem State.link_setExpect (k : Nat) : (s.setExpect c w).link k = s.link k := rfl
@[simp] theorem State.lane_setExpect (k : Nat) : (s.setExpect c w).lane k = s.lane k := rfl
@[simp] theorem State.tracker_setExpect (k : Nat) : (s.setExpect c w).tracker k = s.tracker k := rfl
@[simp] theorem State.fpd_setExpect (k : Nat) : (s.setExpect c w).fpd k = s.fpd k := rfl
@[simp] theorem State.det_setExpect (k : Nat) : (s.setExpect c w).det k = s.det k := rfl
@[simp] theorem State.pin_setExpect (k : Nat) : (s.setExpect c w).pin k = s.pin k := rfl
@[simp] theorem State.alm_setExpect (k : Nat) : (s.setExpect c w).alm k = s.alm k := rfl
@[simp] theorem State.bucket_setExpect (k : Nat) : (s.setExpect c w).bucket k = s.bucket k := rfl
@[simp] theorem State.clPhase_setExpect (k : Nat) : (s.setExpect c w).clPhase k = s.clPhase k := rfl
@[simp] theorem State.claim_setExpect (k : Nat) : (s.setExpect c w).claim k = s.claim k := rfl
@[simp] theorem State.can_setExpect (k : Nat) : (s.setExpect c w).can k = s.can k := rfl
@[simp] theorem State.supBits_setExpect (k : Nat) : (s.setExpect c w).supBits k = s.supBits k := rfl
@[simp] theorem State.eff_setExpect (k : Nat) : (s.setExpect c w).eff k = s.eff k := rfl
@[simp] theorem State.core_setExpect (k : Nat) : (s.setExpect c w).core k = s.core k := rfl
@[simp] theorem State.elem_setExpect (k : Nat) : (s.setExpect c w).elem k = s.elem k := rfl
@[simp] theorem State.sup_setExpect (k : Nat) : (s.setExpect c w).sup k = s.sup k := rfl
@[simp] theorem State.line_setExpect (k : Nat) : (s.setExpect c w).line k = s.line k := rfl
@[simp] theorem State.blzU_setExpect (k : Nat) : (s.setExpect c w).blzU k = s.blzU k := rfl
@[simp] theorem State.gauge_setExpect (k : Nat) : (s.setExpect c w).gauge k = s.gauge k := rfl
@[simp] theorem State.rcu_setExpect (k : Nat) : (s.setExpect c w).rcu k = s.rcu k := rfl
@[simp] theorem State.wbu_setExpect (k : Nat) : (s.setExpect c w).wbu k = s.wbu k := rfl
end

section
variable (s : State) (p : Nat → Bool)
@[simp] theorem State.dropRegs_mram : (s.dropRegs p).mram = s.mram := rfl
@[simp] theorem State.dropRegs_claims : (s.dropRegs p).claims = s.claims := rfl
@[simp] theorem State.dropRegs_ended : (s.dropRegs p).ended = s.ended := rfl
@[simp] theorem State.dropRegs_rsp : (s.dropRegs p).rsp = s.rsp := rfl
@[simp] theorem State.dropRegs_spiOut : (s.dropRegs p).spiOut = s.spiOut := rfl
@[simp] theorem State.dropRegs_snaps : (s.dropRegs p).snaps = s.snaps := rfl
@[simp] theorem State.dropRegs_holds : (s.dropRegs p).holds = s.holds := rfl
@[simp] theorem State.dropRegs_inds : (s.dropRegs p).inds = s.inds := rfl
@[simp] theorem State.dropRegs_hbiReady : (s.dropRegs p).hbiReady = s.hbiReady := rfl
@[simp] theorem State.dropRegs_supPend : (s.dropRegs p).supPend = s.supPend := rfl
@[simp] theorem State.dropRegs_links : (s.dropRegs p).links = s.links := rfl
@[simp] theorem State.dropRegs_mramErr : (s.dropRegs p).mramErr = s.mramErr := rfl
@[simp] theorem State.dropRegs_mramOut : (s.dropRegs p).mramOut = s.mramOut := rfl
@[simp] theorem State.dropRegs_tally : (s.dropRegs p).tally = s.tally := rfl
@[simp] theorem State.dropRegs_buckets : (s.dropRegs p).buckets = s.buckets := rfl
@[simp] theorem State.dropRegs_tb : (s.dropRegs p).tb = s.tb := rfl
@[simp] theorem State.dropRegs_alms : (s.dropRegs p).alms = s.alms := rfl
@[simp] theorem State.dropRegs_pins : (s.dropRegs p).pins = s.pins := rfl
@[simp] theorem State.dropRegs_tick : (s.dropRegs p).tick = s.tick := rfl
@[simp] theorem State.dropRegs_stepFlag : (s.dropRegs p).stepFlag = s.stepFlag := rfl
@[simp] theorem State.dropRegs_phase : (s.dropRegs p).phase = s.phase := rfl
@[simp] theorem State.dropRegs_lanes : (s.dropRegs p).lanes = s.lanes := rfl
@[simp] theorem State.dropRegs_clSrc : (s.dropRegs p).clSrc = s.clSrc := rfl
@[simp] theorem State.dropRegs_expect : (s.dropRegs p).expect = s.expect := rfl
@[simp] theorem State.dropRegs_late : (s.dropRegs p).late = s.late := rfl
@[simp] theorem State.dropRegs_trk : (s.dropRegs p).trk = s.trk := rfl
@[simp] theorem State.dropRegs_fpds : (s.dropRegs p).fpds = s.fpds := rfl
@[simp] theorem State.dropRegs_dets : (s.dropRegs p).dets = s.dets := rfl
@[simp] theorem State.dropRegs_light : (s.dropRegs p).light = s.light := rfl
@[simp] theorem State.dropRegs_heldRegs : (s.dropRegs p).heldRegs = s.heldRegs := rfl
@[simp] theorem State.dropRegs_cores : (s.dropRegs p).cores = s.cores := rfl
@[simp] theorem State.dropRegs_elems : (s.dropRegs p).elems = s.elems := rfl
@[simp] theorem State.dropRegs_sups : (s.dropRegs p).sups = s.sups := rfl
@[simp] theorem State.dropRegs_inForce : (s.dropRegs p).inForce = s.inForce := rfl
@[simp] theorem State.dropRegs_cans : (s.dropRegs p).cans = s.cans := rfl
@[simp] theorem State.dropRegs_eth : (s.dropRegs p).eth = s.eth := rfl
@[simp] theorem State.dropRegs_field_ : (s.dropRegs p).field_ = s.field_ := rfl
@[simp] theorem State.dropRegs_fio : (s.dropRegs p).fio = s.fio := rfl
@[simp] theorem State.dropRegs_lines : (s.dropRegs p).lines = s.lines := rfl
@[simp] theorem State.dropRegs_tripKey : (s.dropRegs p).tripKey = s.tripKey := rfl
@[simp] theorem State.dropRegs_lathe : (s.dropRegs p).lathe = s.lathe := rfl
@[simp] theorem State.dropRegs_ticks : (s.dropRegs p).ticks = s.ticks := rfl
@[simp] theorem State.dropRegs_recs : (s.dropRegs p).recs = s.recs := rfl
@[simp] theorem State.dropRegs_wbs : (s.dropRegs p).wbs = s.wbs := rfl
@[simp] theorem State.dropRegs_gauges : (s.dropRegs p).gauges = s.gauges := rfl
@[simp] theorem State.dropRegs_blz : (s.dropRegs p).blz = s.blz := rfl
@[simp] theorem State.dropRegs_pair : (s.dropRegs p).pair = s.pair := rfl
@[simp] theorem State.dropRegs_meter : (s.dropRegs p).meter = s.meter := rfl
@[simp] theorem State.dropRegs_power : (s.dropRegs p).power = s.power := rfl
@[simp] theorem State.dropRegs_freeCtr : (s.dropRegs p).freeCtr = s.freeCtr := rfl
@[simp] theorem State.dropRegs_pending : (s.dropRegs p).pending = s.pending := rfl
@[simp] theorem State.mb_dropRegs (k : Nat) : (s.dropRegs p).mb k = s.mb k := rfl
@[simp] theorem State.ind_dropRegs (k : Nat) : (s.dropRegs p).ind k = s.ind k := rfl
@[simp] theorem State.link_dropRegs (k : Nat) : (s.dropRegs p).link k = s.link k := rfl
@[simp] theorem State.lane_dropRegs (k : Nat) : (s.dropRegs p).lane k = s.lane k := rfl
@[simp] theorem State.tracker_dropRegs (k : Nat) : (s.dropRegs p).tracker k = s.tracker k := rfl
@[simp] theorem State.fpd_dropRegs (k : Nat) : (s.dropRegs p).fpd k = s.fpd k := rfl
@[simp] theorem State.det_dropRegs (k : Nat) : (s.dropRegs p).det k = s.det k := rfl
@[simp] theorem State.pin_dropRegs (k : Nat) : (s.dropRegs p).pin k = s.pin k := rfl
@[simp] theorem State.alm_dropRegs (k : Nat) : (s.dropRegs p).alm k = s.alm k := rfl
@[simp] theorem State.bucket_dropRegs (k : Nat) : (s.dropRegs p).bucket k = s.bucket k := rfl
@[simp] theorem State.clPhase_dropRegs (k : Nat) : (s.dropRegs p).clPhase k = s.clPhase k := rfl
@[simp] theorem State.claim_dropRegs (k : Nat) : (s.dropRegs p).claim k = s.claim k := rfl
@[simp] theorem State.can_dropRegs (k : Nat) : (s.dropRegs p).can k = s.can k := rfl
@[simp] theorem State.supBits_dropRegs (k : Nat) : (s.dropRegs p).supBits k = s.supBits k := rfl
@[simp] theorem State.eff_dropRegs (k : Nat) : (s.dropRegs p).eff k = s.eff k := rfl
@[simp] theorem State.core_dropRegs (k : Nat) : (s.dropRegs p).core k = s.core k := rfl
@[simp] theorem State.elem_dropRegs (k : Nat) : (s.dropRegs p).elem k = s.elem k := rfl
@[simp] theorem State.sup_dropRegs (k : Nat) : (s.dropRegs p).sup k = s.sup k := rfl
@[simp] theorem State.line_dropRegs (k : Nat) : (s.dropRegs p).line k = s.line k := rfl
@[simp] theorem State.blzU_dropRegs (k : Nat) : (s.dropRegs p).blzU k = s.blzU k := rfl
@[simp] theorem State.gauge_dropRegs (k : Nat) : (s.dropRegs p).gauge k = s.gauge k := rfl
@[simp] theorem State.rcu_dropRegs (k : Nat) : (s.dropRegs p).rcu k = s.rcu k := rfl
@[simp] theorem State.wbu_dropRegs (k : Nat) : (s.dropRegs p).wbu k = s.wbu k := rfl
end

section
variable (s : State) (c key kind : Nat)
@[simp] theorem State.setUpset_regs : (s.setUpset c key kind).regs = s.regs := rfl
@[simp] theorem State.setUpset_mram : (s.setUpset c key kind).mram = s.mram := rfl
@[simp] theorem State.setUpset_claims : (s.setUpset c key kind).claims = s.claims := rfl
@[simp] theorem State.setUpset_ended : (s.setUpset c key kind).ended = s.ended := rfl
@[simp] theorem State.setUpset_rsp : (s.setUpset c key kind).rsp = s.rsp := rfl
@[simp] theorem State.setUpset_spiOut : (s.setUpset c key kind).spiOut = s.spiOut := rfl
@[simp] theorem State.setUpset_snaps : (s.setUpset c key kind).snaps = s.snaps := rfl
@[simp] theorem State.setUpset_holds : (s.setUpset c key kind).holds = s.holds := rfl
@[simp] theorem State.setUpset_inds : (s.setUpset c key kind).inds = s.inds := rfl
@[simp] theorem State.setUpset_hbiReady : (s.setUpset c key kind).hbiReady = s.hbiReady := rfl
@[simp] theorem State.setUpset_supPend : (s.setUpset c key kind).supPend = s.supPend := rfl
@[simp] theorem State.setUpset_links : (s.setUpset c key kind).links = s.links := rfl
@[simp] theorem State.setUpset_mramErr : (s.setUpset c key kind).mramErr = s.mramErr := rfl
@[simp] theorem State.setUpset_mramOut : (s.setUpset c key kind).mramOut = s.mramOut := rfl
@[simp] theorem State.setUpset_tally : (s.setUpset c key kind).tally = s.tally := rfl
@[simp] theorem State.setUpset_buckets : (s.setUpset c key kind).buckets = s.buckets := rfl
@[simp] theorem State.setUpset_tb : (s.setUpset c key kind).tb = s.tb := rfl
@[simp] theorem State.setUpset_alms : (s.setUpset c key kind).alms = s.alms := rfl
@[simp] theorem State.setUpset_pins : (s.setUpset c key kind).pins = s.pins := rfl
@[simp] theorem State.setUpset_tick : (s.setUpset c key kind).tick = s.tick := rfl
@[simp] theorem State.setUpset_stepFlag : (s.setUpset c key kind).stepFlag = s.stepFlag := rfl
@[simp] theorem State.setUpset_phase : (s.setUpset c key kind).phase = s.phase := rfl
@[simp] theorem State.setUpset_lanes : (s.setUpset c key kind).lanes = s.lanes := rfl
@[simp] theorem State.setUpset_clSrc : (s.setUpset c key kind).clSrc = s.clSrc := rfl
@[simp] theorem State.setUpset_expect : (s.setUpset c key kind).expect = s.expect := rfl
@[simp] theorem State.setUpset_late : (s.setUpset c key kind).late = s.late := rfl
@[simp] theorem State.setUpset_trk : (s.setUpset c key kind).trk = s.trk := rfl
@[simp] theorem State.setUpset_fpds : (s.setUpset c key kind).fpds = s.fpds := rfl
@[simp] theorem State.setUpset_dets : (s.setUpset c key kind).dets = s.dets := rfl
@[simp] theorem State.setUpset_light : (s.setUpset c key kind).light = s.light := rfl
@[simp] theorem State.setUpset_heldRegs : (s.setUpset c key kind).heldRegs = s.heldRegs := rfl
@[simp] theorem State.setUpset_cores : (s.setUpset c key kind).cores = s.cores := rfl
@[simp] theorem State.setUpset_sups : (s.setUpset c key kind).sups = s.sups := rfl
@[simp] theorem State.setUpset_inForce : (s.setUpset c key kind).inForce = s.inForce := rfl
@[simp] theorem State.setUpset_cans : (s.setUpset c key kind).cans = s.cans := rfl
@[simp] theorem State.setUpset_eth : (s.setUpset c key kind).eth = s.eth := rfl
@[simp] theorem State.setUpset_field_ : (s.setUpset c key kind).field_ = s.field_ := rfl
@[simp] theorem State.setUpset_fio : (s.setUpset c key kind).fio = s.fio := rfl
@[simp] theorem State.setUpset_lines : (s.setUpset c key kind).lines = s.lines := rfl
@[simp] theorem State.setUpset_tripKey : (s.setUpset c key kind).tripKey = s.tripKey := rfl
@[simp] theorem State.setUpset_lathe : (s.setUpset c key kind).lathe = s.lathe := rfl
@[simp] theorem State.setUpset_ticks : (s.setUpset c key kind).ticks = s.ticks := rfl
@[simp] theorem State.setUpset_recs : (s.setUpset c key kind).recs = s.recs := rfl
@[simp] theorem State.setUpset_wbs : (s.setUpset c key kind).wbs = s.wbs := rfl
@[simp] theorem State.setUpset_gauges : (s.setUpset c key kind).gauges = s.gauges := rfl
@[simp] theorem State.setUpset_blz : (s.setUpset c key kind).blz = s.blz := rfl
@[simp] theorem State.setUpset_pair : (s.setUpset c key kind).pair = s.pair := rfl
@[simp] theorem State.setUpset_meter : (s.setUpset c key kind).meter = s.meter := rfl
@[simp] theorem State.setUpset_power : (s.setUpset c key kind).power = s.power := rfl
@[simp] theorem State.setUpset_freeCtr : (s.setUpset c key kind).freeCtr = s.freeCtr := rfl
@[simp] theorem State.setUpset_pending : (s.setUpset c key kind).pending = s.pending := rfl
@[simp] theorem State.rd_setUpset (b : Nat) : (s.setUpset c key kind).rd b = s.rd b := rfl
end

section
variable (s : State) (c : Nat) (p : Nat → Bool)
@[simp] theorem State.dropUpsets_regs : (s.dropUpsets c p).regs = s.regs := rfl
@[simp] theorem State.dropUpsets_mram : (s.dropUpsets c p).mram = s.mram := rfl
@[simp] theorem State.dropUpsets_claims : (s.dropUpsets c p).claims = s.claims := rfl
@[simp] theorem State.dropUpsets_ended : (s.dropUpsets c p).ended = s.ended := rfl
@[simp] theorem State.dropUpsets_rsp : (s.dropUpsets c p).rsp = s.rsp := rfl
@[simp] theorem State.dropUpsets_spiOut : (s.dropUpsets c p).spiOut = s.spiOut := rfl
@[simp] theorem State.dropUpsets_snaps : (s.dropUpsets c p).snaps = s.snaps := rfl
@[simp] theorem State.dropUpsets_holds : (s.dropUpsets c p).holds = s.holds := rfl
@[simp] theorem State.dropUpsets_inds : (s.dropUpsets c p).inds = s.inds := rfl
@[simp] theorem State.dropUpsets_hbiReady : (s.dropUpsets c p).hbiReady = s.hbiReady := rfl
@[simp] theorem State.dropUpsets_supPend : (s.dropUpsets c p).supPend = s.supPend := rfl
@[simp] theorem State.dropUpsets_links : (s.dropUpsets c p).links = s.links := rfl
@[simp] theorem State.dropUpsets_mramErr : (s.dropUpsets c p).mramErr = s.mramErr := rfl
@[simp] theorem State.dropUpsets_mramOut : (s.dropUpsets c p).mramOut = s.mramOut := rfl
@[simp] theorem State.dropUpsets_tally : (s.dropUpsets c p).tally = s.tally := rfl
@[simp] theorem State.dropUpsets_buckets : (s.dropUpsets c p).buckets = s.buckets := rfl
@[simp] theorem State.dropUpsets_tb : (s.dropUpsets c p).tb = s.tb := rfl
@[simp] theorem State.dropUpsets_alms : (s.dropUpsets c p).alms = s.alms := rfl
@[simp] theorem State.dropUpsets_pins : (s.dropUpsets c p).pins = s.pins := rfl
@[simp] theorem State.dropUpsets_tick : (s.dropUpsets c p).tick = s.tick := rfl
@[simp] theorem State.dropUpsets_stepFlag : (s.dropUpsets c p).stepFlag = s.stepFlag := rfl
@[simp] theorem State.dropUpsets_phase : (s.dropUpsets c p).phase = s.phase := rfl
@[simp] theorem State.dropUpsets_lanes : (s.dropUpsets c p).lanes = s.lanes := rfl
@[simp] theorem State.dropUpsets_clSrc : (s.dropUpsets c p).clSrc = s.clSrc := rfl
@[simp] theorem State.dropUpsets_expect : (s.dropUpsets c p).expect = s.expect := rfl
@[simp] theorem State.dropUpsets_late : (s.dropUpsets c p).late = s.late := rfl
@[simp] theorem State.dropUpsets_trk : (s.dropUpsets c p).trk = s.trk := rfl
@[simp] theorem State.dropUpsets_fpds : (s.dropUpsets c p).fpds = s.fpds := rfl
@[simp] theorem State.dropUpsets_dets : (s.dropUpsets c p).dets = s.dets := rfl
@[simp] theorem State.dropUpsets_light : (s.dropUpsets c p).light = s.light := rfl
@[simp] theorem State.dropUpsets_heldRegs : (s.dropUpsets c p).heldRegs = s.heldRegs := rfl
@[simp] theorem State.dropUpsets_cores : (s.dropUpsets c p).cores = s.cores := rfl
@[simp] theorem State.dropUpsets_sups : (s.dropUpsets c p).sups = s.sups := rfl
@[simp] theorem State.dropUpsets_inForce : (s.dropUpsets c p).inForce = s.inForce := rfl
@[simp] theorem State.dropUpsets_cans : (s.dropUpsets c p).cans = s.cans := rfl
@[simp] theorem State.dropUpsets_eth : (s.dropUpsets c p).eth = s.eth := rfl
@[simp] theorem State.dropUpsets_field_ : (s.dropUpsets c p).field_ = s.field_ := rfl
@[simp] theorem State.dropUpsets_fio : (s.dropUpsets c p).fio = s.fio := rfl
@[simp] theorem State.dropUpsets_lines : (s.dropUpsets c p).lines = s.lines := rfl
@[simp] theorem State.dropUpsets_tripKey : (s.dropUpsets c p).tripKey = s.tripKey := rfl
@[simp] theorem State.dropUpsets_lathe : (s.dropUpsets c p).lathe = s.lathe := rfl
@[simp] theorem State.dropUpsets_ticks : (s.dropUpsets c p).ticks = s.ticks := rfl
@[simp] theorem State.dropUpsets_recs : (s.dropUpsets c p).recs = s.recs := rfl
@[simp] theorem State.dropUpsets_wbs : (s.dropUpsets c p).wbs = s.wbs := rfl
@[simp] theorem State.dropUpsets_gauges : (s.dropUpsets c p).gauges = s.gauges := rfl
@[simp] theorem State.dropUpsets_blz : (s.dropUpsets c p).blz = s.blz := rfl
@[simp] theorem State.dropUpsets_pair : (s.dropUpsets c p).pair = s.pair := rfl
@[simp] theorem State.dropUpsets_meter : (s.dropUpsets c p).meter = s.meter := rfl
@[simp] theorem State.dropUpsets_power : (s.dropUpsets c p).power = s.power := rfl
@[simp] theorem State.dropUpsets_freeCtr : (s.dropUpsets c p).freeCtr = s.freeCtr := rfl
@[simp] theorem State.dropUpsets_pending : (s.dropUpsets c p).pending = s.pending := rfl
@[simp] theorem State.rd_dropUpsets (b : Nat) : (s.dropUpsets c p).rd b = s.rd b := rfl
end

section
variable (s : State) (c key : Nat) (v : Word)
@[simp] theorem State.wrMem_mram : (s.wrMem c key v).mram = s.mram := rfl
@[simp] theorem State.wrMem_claims : (s.wrMem c key v).claims = s.claims := rfl
@[simp] theorem State.wrMem_ended : (s.wrMem c key v).ended = s.ended := rfl
@[simp] theorem State.wrMem_rsp : (s.wrMem c key v).rsp = s.rsp := rfl
@[simp] theorem State.wrMem_spiOut : (s.wrMem c key v).spiOut = s.spiOut := rfl
@[simp] theorem State.wrMem_snaps : (s.wrMem c key v).snaps = s.snaps := rfl
@[simp] theorem State.wrMem_holds : (s.wrMem c key v).holds = s.holds := rfl
@[simp] theorem State.wrMem_inds : (s.wrMem c key v).inds = s.inds := rfl
@[simp] theorem State.wrMem_hbiReady : (s.wrMem c key v).hbiReady = s.hbiReady := rfl
@[simp] theorem State.wrMem_supPend : (s.wrMem c key v).supPend = s.supPend := rfl
@[simp] theorem State.wrMem_links : (s.wrMem c key v).links = s.links := rfl
@[simp] theorem State.wrMem_mramErr : (s.wrMem c key v).mramErr = s.mramErr := rfl
@[simp] theorem State.wrMem_mramOut : (s.wrMem c key v).mramOut = s.mramOut := rfl
@[simp] theorem State.wrMem_tally : (s.wrMem c key v).tally = s.tally := rfl
@[simp] theorem State.wrMem_buckets : (s.wrMem c key v).buckets = s.buckets := rfl
@[simp] theorem State.wrMem_tb : (s.wrMem c key v).tb = s.tb := rfl
@[simp] theorem State.wrMem_alms : (s.wrMem c key v).alms = s.alms := rfl
@[simp] theorem State.wrMem_pins : (s.wrMem c key v).pins = s.pins := rfl
@[simp] theorem State.wrMem_tick : (s.wrMem c key v).tick = s.tick := rfl
@[simp] theorem State.wrMem_stepFlag : (s.wrMem c key v).stepFlag = s.stepFlag := rfl
@[simp] theorem State.wrMem_phase : (s.wrMem c key v).phase = s.phase := rfl
@[simp] theorem State.wrMem_lanes : (s.wrMem c key v).lanes = s.lanes := rfl
@[simp] theorem State.wrMem_clSrc : (s.wrMem c key v).clSrc = s.clSrc := rfl
@[simp] theorem State.wrMem_expect : (s.wrMem c key v).expect = s.expect := rfl
@[simp] theorem State.wrMem_late : (s.wrMem c key v).late = s.late := rfl
@[simp] theorem State.wrMem_trk : (s.wrMem c key v).trk = s.trk := rfl
@[simp] theorem State.wrMem_fpds : (s.wrMem c key v).fpds = s.fpds := rfl
@[simp] theorem State.wrMem_dets : (s.wrMem c key v).dets = s.dets := rfl
@[simp] theorem State.wrMem_light : (s.wrMem c key v).light = s.light := rfl
@[simp] theorem State.wrMem_heldRegs : (s.wrMem c key v).heldRegs = s.heldRegs := rfl
@[simp] theorem State.wrMem_cores : (s.wrMem c key v).cores = s.cores := rfl
@[simp] theorem State.wrMem_sups : (s.wrMem c key v).sups = s.sups := rfl
@[simp] theorem State.wrMem_inForce : (s.wrMem c key v).inForce = s.inForce := rfl
@[simp] theorem State.wrMem_cans : (s.wrMem c key v).cans = s.cans := rfl
@[simp] theorem State.wrMem_eth : (s.wrMem c key v).eth = s.eth := rfl
@[simp] theorem State.wrMem_field_ : (s.wrMem c key v).field_ = s.field_ := rfl
@[simp] theorem State.wrMem_fio : (s.wrMem c key v).fio = s.fio := rfl
@[simp] theorem State.wrMem_lines : (s.wrMem c key v).lines = s.lines := rfl
@[simp] theorem State.wrMem_tripKey : (s.wrMem c key v).tripKey = s.tripKey := rfl
@[simp] theorem State.wrMem_lathe : (s.wrMem c key v).lathe = s.lathe := rfl
@[simp] theorem State.wrMem_ticks : (s.wrMem c key v).ticks = s.ticks := rfl
@[simp] theorem State.wrMem_recs : (s.wrMem c key v).recs = s.recs := rfl
@[simp] theorem State.wrMem_wbs : (s.wrMem c key v).wbs = s.wbs := rfl
@[simp] theorem State.wrMem_gauges : (s.wrMem c key v).gauges = s.gauges := rfl
@[simp] theorem State.wrMem_blz : (s.wrMem c key v).blz = s.blz := rfl
@[simp] theorem State.wrMem_pair : (s.wrMem c key v).pair = s.pair := rfl
@[simp] theorem State.wrMem_meter : (s.wrMem c key v).meter = s.meter := rfl
@[simp] theorem State.wrMem_power : (s.wrMem c key v).power = s.power := rfl
@[simp] theorem State.wrMem_freeCtr : (s.wrMem c key v).freeCtr = s.freeCtr := rfl
@[simp] theorem State.wrMem_pending : (s.wrMem c key v).pending = s.pending := rfl
end

/-- A word of a protected memory after its write, and every other word. -/
theorem State.rd_wrMem (s : State) (c key : Nat) (v : Word) (b : Nat) : (s.wrMem c key v).rd b = (s.wr key v).rd b := rfl

end Sys2Proof.Machine
end

