-- ==== Sys2Proof/Laws/Ops.lean ====
section
/-!
SUPPORT. Fields and bits of a word after a change of a field, and what the shared operations over registers, interrupts
and Tally leave in every register.
-/
namespace Sys2Proof

theorem bitAt_putField (w : Word) (hi lo v i : Nat) (hh : hi < 32) (hl : lo ≤ hi) :
    bitAt (putField w hi lo v) i = if lo ≤ i ∧ i ≤ hi then v.testBit (i - lo) else bitAt w i := by
  unfold bitAt putField maskOf
  simp only [BitVec.getLsbD_or, BitVec.getLsbD_and, BitVec.getLsbD_not, BitVec.getLsbD_ofNat, ← Nat.shiftLeft_eq, Nat.testBit_shiftLeft,
    Nat.testBit_two_pow_sub_one, Nat.testBit_mod_two_pow]
  by_cases h32 : i < 32
  · by_cases h1 : lo ≤ i
    · by_cases h2 : i ≤ hi
      · have : i - lo < hi - lo + 1 := by omega
        simp [h32, h1, h2, this]
      · have : ¬ i - lo < hi - lo + 1 := by omega
        simp [h32, h1, h2, this]
    · simp [h32, h1]
  · have h2 : ¬ i ≤ hi := by omega
    have : w.getLsbD i = false := BitVec.getLsbD_of_ge _ _ (by omega)
    simp [h32, h2, this]

theorem testBit_field (w : Word) (hi lo i : Nat) : (field w hi lo).testBit i = (decide (i < hi - lo + 1) && bitAt w (lo + i)) := by
  unfold field bitAt
  rw [Nat.testBit_mod_two_pow, ← Nat.shiftRight_eq_div_pow, Nat.testBit_shiftRight]
  rfl

@[simp] theorem field_putField_same (w : Word) (hi lo v : Nat) (hh : hi < 32) (hl : lo ≤ hi) :
    field (putField w hi lo v) hi lo = v % 2 ^ (hi - lo + 1) := by
  refine Nat.eq_of_testBit_eq fun i => ?_
  rw [testBit_field, Nat.testBit_mod_two_pow, bitAt_putField _ _ _ _ _ hh hl]
  by_cases h : i < hi - lo + 1
  · have h1 : lo ≤ lo + i ∧ lo + i ≤ hi := by omega
    simp [h, h1]
  · simp [h]

theorem field_putField_ne (w : Word) (hi lo v hi' lo' : Nat) (hh : hi < 32) (hl : lo ≤ hi) (hd : hi' < lo ∨ hi < lo') (hl' : lo' ≤ hi') :
    field (putField w hi lo v) hi' lo' = field w hi' lo' := by
  refine Nat.eq_of_testBit_eq fun i => ?_
  rw [testBit_field, testBit_field, bitAt_putField _ _ _ _ _ hh hl]
  by_cases h : i < hi' - lo' + 1
  · have h1 : ¬ (lo ≤ lo' + i ∧ lo' + i ≤ hi) := by omega
    simp [h, h1]
  · simp [h]

theorem testBit_b2n (b : Bool) : (b2n b).testBit 0 = b := by cases b <;> rfl

end Sys2Proof

namespace Sys2Proof.Machine
open Sys2Proof

section
variable (s : State) (a hi lo v k : Nat)

@[simp] theorem State.rd_put : (s.put a hi lo v).rd k = if a = k then putField (s.rd a) hi lo v else s.rd k := State.rd_wr _ _ _ _

theorem State.rd_putBit (i : Nat) (b : Bool) : (s.putBit a i b).rd k = if a = k then putField (s.rd a) i i (b2n b) else s.rd k :=
  State.rd_put _ _ _ _ _ _

theorem State.rd_putBit_ne (i : Nat) (b : Bool) (h : a ≠ k) : (s.putBit a i b).rd k = s.rd k := by
  rw [State.rd_putBit, if_neg h]

theorem State.bit_putBit (i : Nat) (b : Bool) (j : Nat) (hi : i < 32) :
    (s.putBit a i b).bit k j = if a = k ∧ i = j then b else s.bit k j := by
  unfold State.bit
  rw [State.rd_putBit]
  by_cases h : a = k
  · subst h
    simp only [if_true, true_and]
    rw [bitAt_putField _ _ _ _ _ hi (Nat.le_refl i)]
    by_cases hj : i = j
    · subst hj; simp only [Nat.le_refl, and_self, if_true, Nat.sub_self]; exact testBit_b2n b
    · have : ¬ (i ≤ j ∧ j ≤ i) := by omega
      simp [hj, this]
  · simp [h]

theorem State.fld_put_same (hh : hi < 32) (hl : lo ≤ hi) : (s.put a hi lo v).fld a hi lo = v % 2 ^ (hi - lo + 1) := by
  unfold State.fld
  rw [State.rd_put, if_pos rfl, field_putField_same _ _ _ _ hh hl]

theorem State.fld_put_ne (hi' lo' : Nat) (h : a ≠ k) : (s.put a hi lo v).fld k hi' lo' = s.fld k hi' lo' := by
  unfold State.fld
  rw [State.rd_put, if_neg h]

theorem State.rd_count_ne (h : a ≠ k) : (s.count a hi lo v).rd k = s.rd k := by
  unfold State.count
  rw [State.rd_put, if_neg h]

@[simp] theorem State.rd_raiseSup (n : Nat) : (s.raiseSup n).rd k = s.rd k := rfl

/-- An interrupt changes only INT_STAT among the registers. -/
theorem State.rd_irq (n : Nat) (h0 : k ≠ Reg.INT_STAT_LO) (h1 : k ≠ Reg.INT_STAT_HI) : (s.irq n).rd k = s.rd k := by
  unfold State.irq State.raiseHost
  rw [State.rd_raiseSup]
  split
  · exact State.rd_putBit_ne _ _ _ _ _ (Ne.symm h0)
  · exact State.rd_putBit_ne _ _ _ _ _ (Ne.symm h1)

theorem State.rd_enqueue (r : TRec) (h : k < 0xC000 ∨ 0x10000 ≤ k) : (s.enqueue r).rd k = s.rd k := by
  have h0 : Reg.TALLY_DROP ≠ k := by unfold Reg.TALLY_DROP; omega
  have h1 : Reg.TALLY_STAT ≠ k := by unfold Reg.TALLY_STAT; omega
  unfold State.enqueue
  split
  · exact State.rd_count_ne _ _ _ _ _ _ h0
  · dsimp only
    generalize (if s.tally.tailAt = s.tb.cnt then s.tally.tail else 0) = n
    split
    · rw [State.rd_putBit_ne _ _ _ _ _ h1, State.rd_count_ne _ _ _ _ _ _ h0]
      rfl
    · rfl

theorem State.bucketOf_lt {s : State} {code b : Nat} (h : s.bucketOf code = some b) : b < 256 := by
  unfold State.bucketOf at h
  split at h
  · cases h
  · exact List.mem_range.mp (List.mem_of_find?_eq_some h)

theorem State.rd_raiseRec (r : TRec) (h : k < 0xC000 ∨ 0x10000 ≤ k) : (s.raiseRec r).rd k = s.rd k := by
  unfold State.raiseRec
  split
  · exact State.rd_enqueue _ _ _ h
  · rename_i b hb
    have hb := State.bucketOf_lt hb
    have h0 : Reg.TALLY_BKT_SUP b ≠ k := by unfold Reg.TALLY_BKT_SUP; omega
    have h1 : Reg.TALLY_BKT_CFG b ≠ k := by unfold Reg.TALLY_BKT_CFG; omega
    split
    · unfold State.suppress
      rw [State.rd_count_ne _ _ _ _ _ _ h0]
      rfl
    · rw [State.rd_enqueue _ _ _ h]
      unfold State.takeToken
      dsimp only
      split
      · rw [State.rd_setBucket, State.rd_put, if_neg h1]
      · rw [State.rd_put, if_neg h1]

/-- A record changes only Tally's registers. -/
theorem State.rd_log (code sp p0 p1 : Nat) (h : k < 0xC000 ∨ 0x10000 ≤ k) : (s.log code sp p0 p1).rd k = s.rd k :=
  State.rd_raiseRec _ _ _ h

end

/-- The requester's read value after an answer. -/
theorem State.answered_answer (s : State) (r q : Req) (v : Word) : (s.answer r v).answered q = if r.num = q.num then v else s.answered q :=
  SMap.get_set _ _ _ _ _

/-- The shared word operations keep the canonical form of memory. -/
theorem Memory.wf_wr (s : State) (a : Nat) (v : Word) (h : Memory.wf s = true) : Memory.wf (s.wr a v) = true := by
  simp only [Memory.wf, Bool.and_eq_true] at h ⊢
  exact ⟨SMap.wf_set _ _ _ _ h.1, h.2⟩

theorem Memory.wf_dropRegs (s : State) (p : Nat → Bool) (h : Memory.wf s = true) : Memory.wf (s.dropRegs p) = true := by
  simp only [Memory.wf, Bool.and_eq_true] at h ⊢
  exact ⟨SMap.wf_drop _ _ _ h.1, h.2⟩

theorem Memory.wf_mwr (s : State) (a : Nat) (b : Bytes) (h : Memory.wf s = true) : Memory.wf (s.mwr a b) = true := by
  induction b generalizing s a with
  | nil => exact h
  | cons b bs ih =>
    refine ih _ _ ?_
    split
    · simp only [Memory.wf, Bool.and_eq_true] at h ⊢
      exact ⟨h.1, SMap.wf_set _ _ _ _ h.2⟩
    · exact h

/-- Reading a byte of MRAM after bytes have been written. -/
theorem State.mb_mwr_out (s : State) (a : Nat) (b : Bytes) (k : Nat) (h : k < a ∨ a + b.length ≤ k) : (s.mwr a b).mb k = s.mb k := by
  induction b generalizing s a with
  | nil => rfl
  | cons x xs ih =>
    unfold State.mwr
    simp only [List.length_cons] at h
    rw [ih _ _ (by omega)]
    split
    · unfold State.mb
      rw [SMap.get_set]
      simp [show a ≠ k by omega]
    · rfl

theorem State.rd_mwr (s : State) (a : Nat) (b : Bytes) (k : Nat) : (s.mwr a b).rd k = s.rd k := by
  induction b generalizing s a with
  | nil => rfl
  | cons x xs ih =>
    unfold State.mwr
    rw [ih]
    split <;> rfl

end Sys2Proof.Machine
end

