-- ==== Sys2Proof/Laws/Walso.lean ====
section
/-!
SUPPORT. What the execution of one word does around the instruction's own effect, and what register updates of a core read as.
-/
namespace Sys2Proof
open Sys2Proof.Machine

theorem Core.gr_setGr (x : Core) (i r : Nat) (v : Word) (hi : i < 32) : (x.setGr i v).gr r = if r = i ∧ r ≠ 0 then v else x.gr r := by
  unfold Core.gr Core.setGr
  by_cases h0 : r = 0
  · simp [h0]
  · by_cases hi0 : i = 0
    · have : r ≠ i := by omega
      simp [hi0, h0]
    · by_cases h : r = i
      · subst h
        simp [h0, Vector.getElem?_setIfInBounds, hi]
      · simp [h0, hi0, h, Vector.getElem?_setIfInBounds, Ne.symm h]

theorem Core.zr_setZr (x : Core) (i r : Nat) (v : Word × Word) (hi : i < 16) : (x.setZr i v).zr r = if r = i then v else x.zr r := by
  unfold Core.zr Core.setZr
  by_cases h : r = i
  · subst h
    simp [Vector.getElem?_setIfInBounds, hi]
  · simp [h, Vector.getElem?_setIfInBounds, Ne.symm h]

theorem Core.pr_setPr (x : Core) (i r : Nat) (b : Bool) (hi : i < 8) : (x.setPr i b).pr r = if r = i ∧ r ≠ 0 then b else x.pr r := by
  unfold Core.pr Core.setPr
  by_cases hi0 : i = 0
  · subst hi0
    by_cases h0 : r = 0 <;> simp [h0]
  · simp only [hi0, if_false]
    by_cases h0 : r = 0
    · simp [h0]
    · simp only [h0, decide_false, Bool.false_or, BitVec.getLsbD_or, BitVec.getLsbD_and, BitVec.getLsbD_not, BitVec.getLsbD_ofNat, ne_eq,
        not_false_eq_true, and_true]
      by_cases h8 : r < 8
      · by_cases h : r = i
        · subst h
          cases b <;> simp [b2n, h8]
        · have : (2 ^ i).testBit r = false := by rw [Nat.testBit_two_pow]; simp [Ne.symm h]
          have h2 : (b2n b * 2 ^ i).testBit r = false := by cases b <;> simp [b2n, this]
          simp [h8, h, this, h2]
      · have h : r ≠ i := by omega
        have : x.p.getLsbD r = false := BitVec.getLsbD_of_ge _ _ (by omega)
        simp [h8, h, this]

@[simp] theorem Core.goTo_g (x : Core) (p : Nat) : (x.goTo p).g = x.g := rfl
@[simp] theorem Core.goTo_z (x : Core) (p : Nat) : (x.goTo p).z = x.z := rfl
@[simp] theorem Core.goTo_p (x : Core) (p : Nat) : (x.goTo p).p = x.p := rfl
@[simp] theorem Core.goTo_fstat (x : Core) (p : Nat) : (x.goTo p).fstat = x.fstat := rfl
@[simp] theorem Core.goTo_rets (x : Core) (p : Nat) : (x.goTo p).rets = x.rets := rfl
@[simp] theorem Core.goTo_run (x : Core) (p : Nat) : (x.goTo p).run = x.run := rfl

/-- Without an open loop execution goes on at p. -/
theorem Core.goTo_flat (x : Core) (p : Nat) (h : x.loops = []) : (x.goTo p).loops = [] ∧ (x.goTo p).pc = p := by
  unfold Core.goTo
  rw [h]
  exact ⟨rfl, rfl⟩

end Sys2Proof

namespace Sys2Proof.Machine
open Sys2Proof

@[simp] theorem State.core_coreMod (s : State) (n : Nat) (f : Core → Core) (k : Nat) :
    (s.coreMod n f).core k = if n = k then f (s.core n) else s.core k := State.core_setCore _ _ _ _

/-- A change of a core touches nothing but the map of cores. -/
theorem State.coreMod_only (s : State) (n : Nat) (f : Core → Core) : s.coreMod n f = { s with cores := (s.coreMod n f).cores } := rfl

/-- What is left after an effect that completes: the issue state and the next word. -/
def State.settled (u : State) (k : CoreId) (t : Timing) (w : Word) (c cost p : Nat) : State :=
  (u.issued k t (wIssue w) c cost).coreMod k.num (fun x => x.goTo p)

theorem State.settled_only (u : State) (k : CoreId) (t : Timing) (w : Word) (c cost p : Nat) : OnlyCore u (u.settled k t w c cost p) k :=
  ⟨rfl, fun n hn => by simp [State.settled, State.issued, Ne.symm hn]⟩

section
variable (u : State) (k : CoreId) (t : Timing) (w : Word) (c cost p : Nat)
@[simp] theorem State.settled_gr (r : Nat) : (u.settled k t w c cost p).gr k r = u.gr k r := by simp [State.settled, State.issued, State.gr, Core.gr]
@[simp] theorem State.settled_zr (r : Nat) : (u.settled k t w c cost p).zr k r = u.zr k r := by simp [State.settled, State.issued, State.zr, Core.zr]
@[simp] theorem State.settled_pr (r : Nat) : (u.settled k t w c cost p).pr k r = u.pr k r := by simp [State.settled, State.issued, State.pr, Core.pr]
@[simp] theorem State.settled_fstat : ((u.settled k t w c cost p).core k.num).fstat = (u.core k.num).fstat := by simp [State.settled, State.issued]
@[simp] theorem State.settled_rets : ((u.settled k t w c cost p).core k.num).rets = (u.core k.num).rets := by simp [State.settled, State.issued]
@[simp] theorem State.settled_run : ((u.settled k t w c cost p).core k.num).run = (u.core k.num).run := by simp [State.settled, State.issued]
theorem State.settled_falls (h : (u.core k.num).loops = []) :
    ((u.settled k t w c cost p).core k.num).loops = [] ∧ ((u.settled k t w c cost p).core k.num).pc = p := by
  simp only [State.settled, State.issued, State.core_coreMod, if_true]
  exact Core.goTo_flat _ _ h
end

/-- The issue state does not depend on a WFI that waits. -/
theorem State.timing_awake (s : State) (k : CoreId) :
    (s.coreMod k.num (fun x => { x with waiting := false })).timing k = s.timing k := by
  cases k <;> simp [State.timing, Core.timing, State.supNow, State.coreMod]

section
variable (s : State) (k : CoreId) (w : Word)

theorem State.atIssue_only : OnlyCore s (s.atIssue k w) k := ⟨rfl, fun n hn => by simp [State.atIssue, Ne.symm hn]⟩

@[simp] theorem State.atIssue_gr (r : Nat) : (s.atIssue k w).gr k r = s.gr k r := by simp [State.atIssue, State.gr, Core.gr]
@[simp] theorem State.atIssue_zr (r : Nat) : (s.atIssue k w).zr k r = s.zr k r := by simp [State.atIssue, State.zr, Core.zr]
@[simp] theorem State.atIssue_pr (r : Nat) : (s.atIssue k w).pr k r = s.pr k r := by simp [State.atIssue, State.pr, Core.pr]
@[simp] theorem State.atIssue_fstat : ((s.atIssue k w).core k.num).fstat = (s.core k.num).fstat := by simp [State.atIssue]
@[simp] theorem State.atIssue_rets : ((s.atIssue k w).core k.num).rets = (s.core k.num).rets := by simp [State.atIssue]
@[simp] theorem State.atIssue_loops : ((s.atIssue k w).core k.num).loops = (s.core k.num).loops := by simp [State.atIssue]
@[simp] theorem State.atIssue_pc : ((s.atIssue k w).core k.num).pc = (s.core k.num).pc := by simp [State.atIssue]
@[simp] theorem State.atIssue_run : ((s.atIssue k w).core k.num).run = (s.core k.num).run := by simp [State.atIssue]
end

/-- The error of the word a core fetches does not depend on what the core waits for. -/
@[simp] theorem State.fetchUpset_awake (s : State) (k : CoreId) :
    (s.coreMod k.num (fun x => { x with waiting := false })).fetchUpset k = s.fetchUpset k := by
  cases k <;> simp [State.fetchUpset] <;> rfl

/-- A fetch without an error leaves the state as it is. -/
theorem State.fetched_clean {s : State} {k : CoreId} (h : s.fetchUpset k = 0) : s.fetched k = s := by
  cases k <;> simp [State.fetched, h]

/-- Up to the issue: what executing a word comes to when the core reaches the issue of it. -/
theorem State.walso_reaches {s : State} {k : CoreId} {w : Word} (h : s.Reaches k w) (eff : State → WEff) :
    s.walso k w eff =
      (s.coreMod k.num (fun x => { x with waiting := false })).issue k (s.timing k) w (s.issueCycle k w) eff := by
  have h1 := h.awake.1
  have h2 := h.awake.2
  have h3 := h.inCode
  have h5 : ¬ (s.codeLimit k ≤ (s.core k.num).pc) := by omega
  unfold State.walso
  simp only [h1, h2, ne_eq, not_true_eq_false, Bool.false_eq_true, or_self, if_false]
  have hc : (s.coreMod k.num (fun x => { x with waiting := false })).codeLimit k = s.codeLimit k := by
    cases k <;> rfl
  have hb : (s.coreMod k.num (fun x => { x with waiting := false })).budget k = s.budget k := by
    cases k <;> rfl
  simp only [State.timing_awake, hc, h5, if_false, h.legal, h.clean, State.fetchUpset_awake, State.fetched_clean, show ¬ (0 = 2) by decide,
    Option.isSome_none, Bool.false_eq_true, hb]
  rw [if_neg]
  · rfl
  · have hi := h.inTime
    unfold State.issueCycle at hi
    cases hbud : s.budget k with
    | none => simp
    | some b =>
      have := hi b hbud
      simp only [Option.any_some, decide_eq_true_eq]
      omega

/-- A word that takes effect and completes. -/
theorem State.walso_ok {s u : State} {k : CoreId} {w : Word} (h : s.Runs k w) {eff : State → WEff} (he : eff (s.atIssue k w) = .ok u) :
    s.walso k w eff = u.settled k (s.timing k) w (s.issueCycle k w) (wIssue w).cost ((s.core k.num).pc + 1) := by
  have ht := h.takes
  unfold State.Takes at ht
  rw [State.walso_reaches h.reaches]
  unfold State.issue
  have h1 : ((s.coreMod k.num (fun x => { x with waiting := false })).core k.num).taken (wPn w) (wPs w) = true := by
    simpa [Core.taken, Core.pr] using ht
  simp only [h1, Bool.not_true, Bool.false_eq_true, if_false]
  unfold State.atIssue at he
  rw [he]
  simp [State.settled]

/-- A word that takes effect and goes on elsewhere. -/
theorem State.walso_jump {s u : State} {k : CoreId} {w : Word} {p cost : Nat} (h : s.Runs k w) {eff : State → WEff}
    (he : eff (s.atIssue k w) = .jump u p cost) :
    s.walso k w eff = u.settled k (s.timing k) w (s.issueCycle k w) cost p := by
  have ht := h.takes
  unfold State.Takes at ht
  rw [State.walso_reaches h.reaches]
  unfold State.issue
  have h1 : ((s.coreMod k.num (fun x => { x with waiting := false })).core k.num).taken (wPn w) (wPs w) = true := by
    simpa [Core.taken, Core.pr] using ht
  simp only [h1, Bool.not_true, Bool.false_eq_true, if_false]
  unfold State.atIssue at he
  rw [he]
  simp [State.settled]

/-- A word that raises an exception. -/
theorem State.walso_trap {s : State} {k : CoreId} {w : Word} {e a : Nat} (h : s.Runs k w) {eff : State → WEff}
    (he : eff (s.atIssue k w) = .trap e a) :
    s.walso k w eff = (s.coreMod k.num (fun x => { x with waiting := false })).wTrap k e a (s.core k.num).pc (s.issueCycle k w) := by
  have ht := h.takes
  unfold State.Takes at ht
  rw [State.walso_reaches h.reaches]
  unfold State.issue
  have h1 : ((s.coreMod k.num (fun x => { x with waiting := false })).core k.num).taken (wPn w) (wPs w) = true := by
    simpa [Core.taken, Core.pr] using ht
  simp only [h1, Bool.not_true, Bool.false_eq_true, if_false]
  unfold State.atIssue at he
  rw [he]
  simp

/-- A word that ends the work of the tick or turn. -/
theorem State.walso_done {s u : State} {k : CoreId} {w : Word} (h : s.Runs k w) {eff : State → WEff} (he : eff (s.atIssue k w) = .done u) :
    s.walso k w eff = (u.issued k (s.timing k) (wIssue w) (s.issueCycle k w) 1).coreMod k.num (fun x => { x with run := .ended }) := by
  have ht := h.takes
  unfold State.Takes at ht
  rw [State.walso_reaches h.reaches]
  unfold State.issue
  have h1 : ((s.coreMod k.num (fun x => { x with waiting := false })).core k.num).taken (wPn w) (wPs w) = true := by
    simpa [Core.taken, Core.pr] using ht
  simp only [h1, Bool.not_true, Bool.false_eq_true, if_false]
  unfold State.atIssue at he
  rw [he]

/-- A command that executes a word is the execution of that word with its own effect. -/
theorem exec_walso {i : Instr} {k : CoreId} {w : Word} (h : i.walsoWord = some (k, w)) :
    ∃ eff : State → WEff, ∀ s : State, exec i s = .next (s.walso k w eff) := by
  cases i <;> dsimp only [Instr.walsoWord] at h <;> cases h <;> exact ⟨_, fun _ => rfl⟩

end Sys2Proof.Machine
end

