-- ==== Sys2Proof/Tests/Slice0.lean ====
section
/-!
SUPPORT. The model's own tests: well-formedness refuses an ill-formed term for each of its checks, words of each instruction family decode,
and for each statement a state and operands that meet the premises of each of its clauses.
-/
namespace Sys2Proof.Tests
set_option Elab.async false
set_option maxRecDepth 100000
open Sys2Proof Sys2Proof.Machine

/-! ### Helpers -/

def hb0 : PairHb := {
  sec := 0, idx := 0, role := 0, pref := false, sync := false, svc := false, holdup := false, ready := false, req := 0,
  reqIdx := 0, kind := 0, sentSec := 0, sentNs := 0, dev := 0, rck := 0 }
def trec0 : TRec := { code := 0x101, source := 0, sev := 4, flags := 0, sparam := 0, p0 := 0, p1 := 0, at_ := { sec := 0, ns := 0, epoch := 0 }, tq := 0 }
def calErr0 : CalErr := { gNum := 0, gDen := 1, dNum := 0, dDen := 1, oNum := 0, oDen := 1 }
def nonce0 : Nonce := { req := .host, key := 0, revoke := false, expires := 0 }
def fedge0 : FEdge := { ch := 0, rise := true, at_ := { sec := 0, ns := 0, epoch := 0 }, tq := 0, num := 0, buffered := false, output := false }
def qword0 : QWord := { addr := 0, base := 0, width := 4, val := 0 }
/-- An element image and a Lathe image without tables. -/
def img0 : Image := { ver := 1, layout := 7, codeWords := 16384, entry := 0, wcet := 0, expect := 0, claims := [], secs := [], copies := [] }
def limg0 : LImage := {
  ver := 1, turnP := 4, codeWords := 16384, entry := 0, wcet := 0, pages := 4, digest := [], claims := [], secs := [],
  carry := [], timers := [], edges := 64, tables := { bytes := 0, stations := [], rx := [], tx := [], safeMask := [], safeVal := [] } }
/-- Set bit k of a bit vector or a number. -/
def setBitN {n : Nat} (x : BitVec n) (k : Nat) (b : Bool) : BitVec n := if b then x ||| BitVec.ofNat n (2 ^ k) else x &&& ~~~ BitVec.ofNat n (2 ^ k)
def setBitNat (x k : Nat) (b : Bool) : Nat := if b then x ||| 2 ^ k else if x.testBit k then x - 2 ^ k else x

/-- A state in which core k runs at PC 0 of an image. -/
def mkRun (s : State) (k : CoreId) : State :=
  let s := match k with
    | .elem c => s.setElem c.val { s.elem c.val with active := some img0 }
    | .lathe => { s with lathe := { s.lathe with imgs := SMap.set (fun _ => none) s.lathe.imgs s.lthHalf (some limg0) } }
    | .sup _ => s
  s.setCore k.num { Core.init with run := .active }

/-- Whether a core issues w and w takes effect. -/
def runsB (s : State) (k : CoreId) (w : Word) : Bool :=
  decide ((s.core k.num).run = .active) && !s.asleep k && decide ((s.core k.num).pc < s.codeLimit k) && decide (s.fetchUpset k = 0) &&
    decide (wCause k.prof w = none) &&
    (s.budget k).all (fun b => decide (s.issueCycle k w < b)) && (s.core k.num).taken (wPn w) (wPs w)

theorem runs_of {s : State} {k : CoreId} {w : Word} (h : runsB s k w = true) : s.Runs k w := by
  simp only [runsB, Bool.and_eq_true, decide_eq_true_eq, Bool.not_eq_true', Option.all_eq_true] at h
  exact ⟨⟨⟨h.1.1.1.1.1.1, h.1.1.1.1.1.2⟩, h.1.1.1.1.2, h.1.1.1.2, h.1.1.2, fun b hb => h.1.2 b hb⟩, h.2⟩

/-- A GOOSE template of 69 bytes, in supervisor shared memory, and slot i's registers that name it. -/
def tplWords : List Word := [0x1cd0c01, 0x20100, 0x1000000, 0x100b888, 0x3700, 0x2d610000, 0x81410180, 0x1820501, 0x88441,
  0x0, 0x85000000, 0x1860101, 0x1018801, 0xab04018a, 0x1830c, 0x83000183, 0x1830001, 0x0]
def okTpl (s : State) (i : Nat) : State :=
  let s := tplWords.zipIdx.foldl (fun u p => u.wr (sharedKey (4 * p.2)) p.1) s
  (s.wr (Reg.GPUB_ADDR i) 0).wr (Reg.GPUB_LEN i) 69

/-- A boot directory whose SUP and SUP_ALT entries are present, at 0x10_0000. -/
def dirState (s : State) : State :=
  let s := (((s.mwrW 0 0x52494442).mwrW 4 1).mwrW 8 20).mwrW 0x10 0x4000 |>.mwrW 0x14 1 |>.mwrW 0x18 0x4000 |>.mwrW 0x1C 1
  s.mwrW 12 (w32 (crc32 (s.mbs 12 0 ++ s.mbs 160 0x10)))

/-- A valid retained copy A of two pages whose digest is 0. -/
def retState (s : State) (_i : LImage) : State :=
  let a := retAddr 0
  let s := (s.mwrW a 0x54455452).mwrW (a + 4) 2
  let s := s.mwrW (a + 0x44) (w32 (crc32 (s.mbs 1024 (a + 1024))))
  s.mwrW (a + 0x3C) (w32 (crc32 (s.mbs 0x3C a ++ s.mbs 0x100 (a + 0x40))))

/-! ### Ill-formed commands -/

theorem test_wf_afl : Instr.wf (.aflFrame 0 0 true (List.replicate 128 0)) = true ∧ Instr.wf (.aflFrame 0 0 true (List.replicate 127 0)) = false := by decide
theorem test_wf_mram : Instr.wf (.mramAccessRequest .tally none false 0 4 []) = true ∧ Instr.wf (.mramAccessRequest .tally none false 0 0 []) = false ∧
    Instr.wf (.mramAccessRequest .tally none true 0 4 [1, 2, 3]) = false ∧ Instr.wf (.mramAccessRequest .tally none false 0 4 [1, 2, 3, 4]) = false := by decide
theorem test_wf_afe_check : Instr.wf (.afeCheckDone 0 true true (List.replicate 63 0) (List.replicate 64 0)) = false ∧
    Instr.wf (.afeCheckDone 0 true true (List.replicate 64 0) (List.replicate 65 0)) = false := by decide
theorem test_wf_rec_config : Instr.wf (.recConfigWrite .host 0 4 0) = true ∧ Instr.wf (.recConfigWrite .host 0 6 0) = false := by decide
theorem test_wf_tally_erase : Instr.wf (.tallyEraseDone [3, 9]) = true ∧ Instr.wf (.tallyEraseDone [9, 3]) = false ∧
    Instr.wf (.tallyEraseDone [3, 3]) = false := by decide
theorem test_wf_eth : Instr.wf (.ethFrameRx 0 (List.replicate 14 0) true 0 0) = true ∧
    Instr.wf (.ethFrameRx 0 (List.replicate 13 0) true 0 0) = false := by decide
/-- A remote frame in FD format, a rate switch or an error state in classic format, an extension in base format, and data other than DLC
gives. -/
theorem test_wf_can :
    let f : CanFrame := { ide := false, fdf := true, brs := true, esi := false, rtr := false, id := 262144, dlc := 9, data := List.replicate 12 0 }
    f.wf = true ∧ { f with rtr := true, data := [] }.wf = false ∧ { f with fdf := false, data := List.replicate 8 0 }.wf = false ∧
    { f with fdf := false, brs := false, esi := true, data := List.replicate 8 0 }.wf = false ∧ { f with id := 262145 }.wf = false ∧
    { f with data := List.replicate 9 0 }.wf = false ∧ { f with rtr := true, fdf := false, brs := false, data := [] }.wf = true := by decide
theorem test_wf_pair_hb : Instr.wf (.pairHbFrame 0 true 0 hb0 0 0) = true ∧ Instr.wf (.pairHbFrame 0 true 0 { hb0 with idx := 4800 } 0 0) = false ∧
    Instr.wf (.pairHbFrame 0 true 0 { hb0 with role := 5 } 0 0) = false ∧ Instr.wf (.pairHbFrame 0 true 0 { hb0 with reqIdx := 4800 } 0 0) = false ∧
    Instr.wf (.pairHbFrame 0 true 0 { hb0 with req := 4 } 0 0) = false ∧ Instr.wf (.pairHbFrame 0 true 0 { hb0 with kind := 4 } 0 0) = false ∧
    Instr.wf (.pairHbFrame 0 true 0 { hb0 with sec := 2 ^ 48 } 0 0) = false ∧ Instr.wf (.pairHbFrame 0 true 0 { hb0 with sentSec := 2 ^ 32 } 0 0) = false ∧
    Instr.wf (.pairHbFrame 0 true 0 { hb0 with sentNs := 1000000000 } 0 0) = false ∧
    Instr.wf (.pairHbFrame 0 true 0 { hb0 with dev := 2 ^ 32 } 0 0) = false := by decide
theorem test_wf_pair_tl :
    let e : PairTl := { n := 63, st := 7, bf := 3, cnt := 0, cause := 0, sec := 0, ns := 0 }
    let wf (e : PairTl) : Bool := Instr.wf (.pairTlFrame 0 true 0 [e])
    wf e = true ∧ wf { e with n := 64 } = false ∧ wf { e with st := 8 } = false ∧ wf { e with bf := 4 } = false ∧
    wf { e with ns := 1000000000 } = false := by decide
theorem test_wf_pair_state : 
    Instr.wf (.pairStateFrame 0 true 0 { bytes := [0, 0, 0, 0], copies := [4] }) = true ∧
    Instr.wf (.pairStateFrame 0 true 0 { bytes := [0, 0, 0], copies := [] }) = false ∧
    Instr.wf (.pairStateFrame 0 true 0 { bytes := [], copies := [2] }) = false := by decide
theorem test_wf_spi : Instr.wf (.spiFrame 0 [0]) = true ∧ Instr.wf (.spiFrame 0 []) = false := by decide
/-- R194 lists ALU functions 0x00 to 0x11; R226 gives CSR to the S profile alone; R192 reserves the all-zero word. -/
theorem test_wf_words : Instr.wf (.alu (.elem 0) false 0 1 2 3 0x00) = true ∧ Instr.wf (.alu (.elem 0) false 0 1 2 3 0x12) = false ∧
    Instr.wf (.csr (.sup 0) false 0 1 0 0) = true ∧ Instr.wf (.csr (.elem 0) false 0 1 0 0) = false ∧
    Instr.wf (.illegalInstruction (.elem 0) 0) = true ∧ Instr.wf (.illegalInstruction (.elem 0) 0x04126383) = false := by decide

/-! ### Words of chapter 06, most of them from its worked example, and of R300 -/

/-- PHS g6, z0, 0, F, 1. -/
theorem test_decode_phs : walsoDecode (.elem 2) 0xE40C0001 = some (.phs (.elem 2) false 0 6 0 0 false 0 1) := by decide
/-- LDZ z10, [g0 + 0] and LD g10, [g0 + 2]. -/
theorem test_decode_loads : walsoDecode (.elem 2) 0x48140000 = some (.ldz (.elem 2) false 0 10 0 0) ∧
    walsoDecode (.elem 2) 0x40140002 = some (.ld (.elem 2) false 0 10 0 2) := by decide
/-- CMAG g12, z0 and CSUB z3, z1, z2. -/
theorem test_decode_cpx : walsoDecode (.elem 2) 0x80000188 = some (.cpx (.elem 2) false 0 0 0 0 12 8) ∧
    walsoDecode (.elem 2) 0x800C4801 = some (.cpx (.elem 2) false 0 3 1 2 0 1) := by decide
/-- OR g9, g6, g7 and (p3) OR g18, g13, g0. -/
theorem test_decode_alu : walsoDecode (.elem 2) 0x04126383 = some (.alu (.elem 2) false 0 9 6 7 3) ∧
    walsoDecode (.elem 2) 0x04E4D003 = some (.alu (.elem 2) false 3 18 13 0 3) := by decide
/-- ANDI g9, g9, 1; MOVL g3, 0x10001 (R195). -/
theorem test_decode_immediate : walsoDecode (.elem 2) 0x0C129001 = some (.andi (.elem 2) false 0 9 9 1) ∧
    walsoDecode (.elem 2) 0b00011100000001110000000000000001 = some (.movl (.elem 2) false 0 3 0x10001) := by decide
/-- CMPI.EQ p1, g9, 0; PAND p3, p1, p2. -/
theorem test_decode_compare : walsoDecode (.elem 2) 0x28029000 = some (.cmpi (.elem 2) false 0 1 9 0) ∧
    walsoDecode (.elem 2) 0x24061108 = some (.cmp (.elem 2) false 0 3 1 2 8) := by decide
/-- FDIV g13, g12, g10; FCMP.LT p2, g0, g11; FNMADD g1, g2, g3, g4 (R199). -/
theorem test_decode_binary32 : walsoDecode (.elem 2) 0x2C1AC503 = some (.fpu (.elem 2) false 0 13 12 10 3) ∧
    walsoDecode (.elem 2) 0x30040581 = some (.fcmp (.elem 2) false 0 2 0 11 1) ∧
    walsoDecode (.elem 2) 0b00110100000000100010000110010010 = some (.fma (.elem 2) false 0 1 2 3 0x12) := by decide
/-- RDLC g5, 2 (R200); LDX g1, [g2 + (g3 << 2)] in phasor RAM (R201). -/
theorem test_decode_reads : walsoDecode (.elem 2) 0b00111000000010100000000100000010 = some (.rdlc (.elem 2) false 0 5 0 2) ∧
    walsoDecode (.elem 2) 0b01011100000000100010000110001010 = some (.ldx (.elem 2) false 0 1 2 3 0x0A) := by decide
/-- CRV g14, g18, 0, STEP; CMPH g15, g18, 0, EVAL; TMR g1, g2, 33, RESET (R217). -/
theorem test_decode_units : walsoDecode (.elem 2) 0xF01D2000 = some (.crvStep (.elem 2) false 0 14 18 0 0) ∧
    walsoDecode (.elem 2) 0xF41F2000 = some (.cmphEval (.elem 2) false 0 15 18 0 0) ∧
    walsoDecode (.elem 2) 0b11111000000000100010100001010000 = some (.tmrReset (.elem 2) false 0 1 2 33 0) := by decide
/-- TRIPREQ g16, RV, 0b0001; FLAG.OR g16; (p3) FLAG.BIT 1; EVT g1, g2, 0xABC (R222). -/
theorem test_decode_staged : walsoDecode (.elem 2) 0xA0210010 = some (.tripreq (.elem 2) false 0 16 0x10010) ∧
    walsoDecode (.elem 2) 0xA4200000 = some (.flagOr (.elem 2) false 0 16 0 0) ∧
    walsoDecode (.elem 2) 0xA4C18001 = some (.flagBit (.elem 2) false 3 0 0 1) ∧
    walsoDecode (.elem 2) 0b10101000000000100010101010111100 = some (.evt (.elem 2) false 0 1 2 0xABC) := by decide
/-- XCH.PUB slot 9 ← g4; XCH.TAG g4 of cluster 13 (R224). -/
theorem test_decode_exchange : walsoDecode (.elem 2) 0b10101100000010000000000000001001 = some (.xchPub (.elem 2) false 0 4 0 0 false 9) ∧
    walsoDecode (.elem 2) 0b10101100000010010000000110100000 = some (.xchTag (.elem 2) false 0 4 0 13 false 0) := by decide
/-- LDS g1, z2, TRK, lane 5, AL, age 7 (R209); SEQ z4, z1, negative (R213); FRQ g3, 4 (R214). -/
theorem test_decode_samples : walsoDecode (.elem 2) 0b11100000000000100101101100000111 = some (.lds (.elem 2) false 0 1 2 true 5 true 7) ∧
    walsoDecode (.elem 2) 0b11101000000010000011000000000000 = some (.seq (.elem 2) false 0 false 4 1 2 0) ∧
    walsoDecode (.elem 2) 0b11101100000001110000000000000000 = some (.frq (.elem 2) false 0 3 4 0) := by decide
/-- (!p2) BR + 5; LOOP of 3 turns over 2 words; JT g7 of 4 entries; CALL 100; RET; WTICK (R167 to R172). -/
theorem test_decode_control : walsoDecode (.elem 2) 0b11000010100000000000000000000101 = some (.br (.elem 2) true 2 5) ∧
    walsoDecode (.elem 2) 0b11000100000000000010000000000001 = some (.loop (.elem 2) false 0 2 1) ∧
    walsoDecode (.elem 2) 0b11001000000011100000011000000000 = some (.jt (.elem 2) false 0 7 3 0) ∧
    walsoDecode (.elem 2) 0b11001100000000000000000001100100 = some (.call (.elem 2) false 0 0 100) ∧
    walsoDecode (.elem 2) 0xD0000000 = some (.ret (.elem 2) false 0 0) ∧
    walsoDecode (.elem 2) 0xD4000000 = some (.wtick (.elem 2) false 0 0) := by decide
/-- CSR g1, g2, VBASE; ERET; WFI; FENCE (R226), none of them on the E profile. -/
theorem test_decode_supervisor : walsoDecode (.sup 0) 0b10010000000000100010000000000011 = some (.csr (.sup 0) false 0 1 2 3) ∧
    walsoDecode (.sup 0) 0x94000000 = some (.eret (.sup 0) false 0 0) ∧ walsoDecode (.sup 0) 0x98000000 = some (.wfi (.sup 0) false 0 0) ∧
    walsoDecode (.sup 0) 0x9C000000 = some (.fence (.sup 0) false 0 0) ∧ walsoDecode (.elem 0) 0x9C000000 = none := by decide
/-- LIMG word 5 ← g3; LTMR g1, g2, READ 600; LEDG g1, g2, 63; WTURN (R300), none of them on the E profile. -/
theorem test_decode_lathe : walsoDecode .lathe 0b10110000000001110000000000000101 = some (.limg .lathe false 0 3 true 0 5) ∧
    walsoDecode .lathe 0b10110100000000100010101001011000 = some (.ltmrRead .lathe false 0 1 2 600) ∧
    walsoDecode .lathe 0b10111000000000100010000000111111 = some (.ledg .lathe false 0 1 2 63) ∧
    walsoDecode .lathe 0xBC000000 = some (.wturn .lathe false 0 0) ∧ walsoDecode (.elem 0) 0xBC000000 = none := by decide

/-! ### States and operands that meet the premises of the statements -/

theorem met_StepKeepsMemoryAndQueue : ∃ t, step State.reset = .next t ∧ Memory.wf State.reset = true := by
  refine ⟨_, rfl, ?_⟩; decide +kernel

theorem met_WalsoDecodesItsWord :
    (Instr.evt (.elem 2) false 0 1 2 0xABC).walsoWord = some (.elem 2, 0xA8022ABC) ∧ (Instr.evt (.elem 2) false 0 1 2 0xABC).wf = true := by decide

theorem met_WalsoWordOfDecoded : walsoDecode (.elem 2) 0xA8022ABC = some (.evt (.elem 2) false 0 1 2 0xABC) := by decide

/-- A stopped core; a false predicate; an issue at the deadline; a fetched word with a double-bit and with a single-bit error. -/
theorem met_WalsoIssueRules :
    (let k := CoreId.elem 0
     ((Instr.alu k false 0 9 6 7 3).walsoWord = some (k, 0x04126383)) ∧ ¬ State.reset.Awake k) ∧
    (let k := CoreId.elem 0
     let s := mkRun State.reset k
     ((Instr.alu k false 3 18 13 0 3).walsoWord = some (k, 0x04E4D003)) ∧ s.Reaches k 0x04E4D003 ∧ ¬ s.Takes k 0x04E4D003) ∧
    (let k := CoreId.elem 0
     let s := (mkRun State.reset k).coreMod k.num (fun x => { x with cyc := 190000 })
     ((Instr.alu k false 0 9 6 7 3).walsoWord = some (k, 0x04126383)) ∧ s.Awake k ∧ (s.core k.num).pc < s.codeLimit k ∧
       s.fetchUpset k ≠ 2 ∧ wCause k.prof 0x04126383 = none ∧ ∃ b, s.budget k = some b ∧ b ≤ s.issueCycle k 0x04126383) ∧
    (let k := CoreId.elem 0
     let s := (mkRun State.reset k).setUpset 0 (imemKey 0 false 0) 2
     ((Instr.alu k false 0 9 6 7 3).walsoWord = some (k, 0x04126383)) ∧ s.Awake k ∧ (s.core k.num).pc < s.codeLimit k ∧
       s.fetchUpset k = 2 ∧ ∃ b, s.budget k = some b ∧ (s.timing k).cyc < b) ∧
    (let k := CoreId.elem 0
     let s := (mkRun State.reset k).setUpset 0 (imemKey 0 false 0) 1
     ((Instr.alu k false 3 18 13 0 3).walsoWord = some (k, 0x04E4D003)) ∧ s.Awake k ∧ (s.core k.num).pc < s.codeLimit k ∧
       s.fetchUpset k = 1 ∧ wCause k.prof 0x04E4D003 = none ∧ ¬ s.Takes k 0x04E4D003 ∧
       ∃ b, s.budget k = some b ∧ s.issueCycle k 0x04E4D003 < b) := by
  refine ⟨⟨by decide, ?_⟩, ⟨by decide, ⟨⟨by decide +kernel, by decide +kernel⟩, by decide +kernel, by decide +kernel, by decide +kernel, ?_⟩, ?_⟩,
    ⟨by decide, ⟨by decide +kernel, by decide +kernel⟩, by decide +kernel, by decide +kernel, by decide +kernel, _, rfl, by decide +kernel⟩,
    ⟨by decide, ⟨by decide +kernel, by decide +kernel⟩, by decide +kernel, by decide +kernel, _, rfl, by decide +kernel⟩,
    ⟨by decide, ⟨by decide +kernel, by decide +kernel⟩, by decide +kernel, by decide +kernel, by decide +kernel,
      by simp only [State.Takes]; decide +kernel, _, rfl, by decide +kernel⟩⟩
  · intro h; exact absurd h.1 (by decide +kernel)
  · intro b hb
    have h : ((mkRun State.reset (.elem 0)).budget (.elem 0)).all
        (fun b => decide ((mkRun State.reset (.elem 0)).issueCycle (.elem 0) 0x04E4D003 < b)) = true := by decide +kernel
    rw [hb] at h; exact of_decide_eq_true h
  · intro h; exact absurd h (by simp only [State.Takes]; decide +kernel)

theorem met_IllegalWordRaisesItsCause_elem :
    let k := CoreId.elem 0
    let s := mkRun State.reset k
    wCause k.prof 0 ≠ none ∧ ((s.core k.num).run = .active ∧ s.asleep k = false) ∧ (s.core k.num).pc < s.codeLimit k ∧
      s.fetchUpset k ≠ 2 ∧ ∃ b, s.budget k = some b ∧ (s.timing k).cyc < b := by
  refine ⟨by decide, by decide +kernel, by decide +kernel, by decide +kernel, _, rfl, by decide +kernel⟩

theorem met_SupervisorPrivilege :
    let k := CoreId.sup 0
    let s := mkRun State.reset k
    let s := s.setSup 0 { s.sup 0 with sstat := 0 }
    (Instr.csr k false 0 1 2 3).walsoWord = some (k, 0x90022003) ∧ s.Runs k 0x90022003 ∧ bitAt (s.sup 0).sstat 1 = false :=
  ⟨by decide, runs_of (by decide +kernel), by decide +kernel⟩

theorem met_HostBusInterruptsMailboxes_be :
    let s : State := { State.reset with hbiReady := true }
    s.served .host = true ∧ ∃ t, exec (.registerWrite .host (BitVec.ofNat 20 0x108) 7 1) s = .next t :=
  ⟨by decide +kernel, _, rfl⟩

theorem met_IdleStepCountsOnePeriod :
    (let s := State.reset
    (s.pending = [])) := by decide +kernel

theorem met_WalsoIntegerResults :
    (let k : CoreId := CoreId.lathe
      let pn : Bool := false
      let ps : Fin 8 := 0
      let rd : BitVec 5 := 0x1f#5
      let ra : BitVec 5 := 0x11#5
      let rb : BitVec 5 := 0x00#5
      let fn : BitVec 7 := 0x03#7
      let s := State.reset
      let s : State := mkRun s k
      let w : Word := (encR 0x01 pn ps rd ra rb fn)
    (s.Runs k w)) := runs_of (by decide +kernel)

theorem met_WalsoPredicateResults :
    (let k : CoreId := CoreId.sup 1
      let pn : Bool := false
      let ps : Fin 8 := 0
      let rd : BitVec 5 := 0x07#5
      let ra : BitVec 5 := 0x00#5
      let imm : BitVec 12 := 0x009#12
      let s := State.reset
      let s : State := mkRun s k
      let w := encI 0x0A pn ps rd ra imm
      let w : Word := w
    (rd.toNat / 8 = 0) ∧ (s.Runs k w)) ∧
    (let k : CoreId := CoreId.lathe
      let pn : Bool := false
      let ps : Fin 8 := 0
      let rd : BitVec 5 := 0x0d#5
      let ra : BitVec 5 := 0x11#5
      let imm : BitVec 12 := 0x003#12
      let s := State.reset
      let s : State := mkRun s k
      let w := encI 0x0A pn ps rd ra imm
      let w : Word := w
    (rd.toNat / 8 = 1) ∧ (s.Runs k w)) ∧
    (let k : CoreId := CoreId.sup 0
      let pn : Bool := false
      let ps : Fin 8 := 0
      let rd : BitVec 5 := 0x14#5
      let ra : BitVec 5 := 0x02#5
      let imm : BitVec 12 := 0x000#12
      let s := State.reset
      let s : State := mkRun s k
      let w := encI 0x0A pn ps rd ra imm
      let w : Word := w
    (rd.toNat / 8 = 2) ∧ (s.Runs k w)) ∧
    (let k : CoreId := CoreId.elem 12
      let pn : Bool := false
      let ps : Fin 8 := 0
      let rd : BitVec 5 := 0x1e#5
      let ra : BitVec 5 := 0x05#5
      let imm : BitVec 12 := 0x000#12
      let s := State.reset
      let s : State := mkRun s k
      let w := encI 0x0A pn ps rd ra imm
      let w : Word := w
    (rd.toNat / 8 = 3) ∧ (s.Runs k w)) :=
  ⟨⟨by decide +kernel, runs_of (by decide +kernel)⟩,
    ⟨by decide +kernel, runs_of (by decide +kernel)⟩,
    ⟨by decide +kernel, runs_of (by decide +kernel)⟩,
    ⟨by decide +kernel, runs_of (by decide +kernel)⟩⟩

theorem met_WalsoSpecialAndEntryReads :
    (let k : CoreId := CoreId.elem 3
      let pn : Bool := false
      let ps : Fin 8 := 0
      let rd : BitVec 5 := 0x00#5
      let ra : BitVec 5 := 0x00#5
      let rb : BitVec 5 := 0x0f#5
      let s := State.reset
      let s : State := mkRun s k
      let w : Word := (encR 0x0E pn ps rd ra rb 0)
    (s.Runs k w)) ∧
    (let k : CoreId := CoreId.elem 3
      let pn : Bool := false
      let ps : Fin 8 := 0
      let rd : BitVec 5 := 0x00#5
      let ra : BitVec 5 := 0x00#5
      let rb : BitVec 5 := 0x0f#5
      let s := State.reset
      let s : State := mkRun s k
    (s.Runs k (encR 0x0E pn ps rd ra rb 1))) ∧
    (let c : Fin 16 := 1
      let pn : Bool := false
      let ps : Fin 8 := 0
      let rd : BitVec 5 := 0x19#5
      let zd : BitVec 4 := 0x0#4
      let str : Bool := true
      let lane : BitVec 3 := 0x0#3
      let al : Bool := true
      let age : BitVec 8 := 0x00#8
      let s := State.reset
      let k := CoreId.elem c
      let s : State := mkRun s k
      let key := if str then s.trkKey c.val lane.toNat (s.ldsAge k al age.toNat) else s.protKey c.val lane.toNat (s.ldsAge k al age.toNat)
    (s.Runs k (wEnc 0x38 pn ps (rd ++ (zd ++ (BitVec.ofBool str ++ (lane ++ (BitVec.ofBool al ++ age))))))) ∧ (s.upset c.val key = 0)) ∧
    (let c : Fin 16 := 1
      let pn : Bool := false
      let ps : Fin 8 := 0
      let rd : BitVec 5 := 0x19#5
      let zd : BitVec 4 := 0x0#4
      let str : Bool := true
      let lane : BitVec 3 := 0x0#3
      let al : Bool := true
      let age : BitVec 8 := 0x00#8
      let s := State.reset
      let k := CoreId.elem c
      let s : State := mkRun s k
      let key := if str then s.trkKey c.val lane.toNat (s.ldsAge k al age.toNat) else s.protKey c.val lane.toNat (s.ldsAge k al age.toNat)
      let s : State := s.setUpset c.val key 1
      let key := if str then s.trkKey c.val lane.toNat (s.ldsAge k al age.toNat) else s.protKey c.val lane.toNat (s.ldsAge k al age.toNat)
    (s.Runs k (wEnc 0x38 pn ps (rd ++ (zd ++ (BitVec.ofBool str ++ (lane ++ (BitVec.ofBool al ++ age))))))) ∧ (s.upset c.val key ≠ 0)) ∧
    (let c : Fin 16 := 15
      let pn : Bool := false
      let ps : Fin 8 := 0
      let rd : BitVec 5 := 0x15#5
      let zd : BitVec 4 := 0x0#4
      let lane : BitVec 3 := 0x7#3
      let w : Bool := true
      let z2 : BitVec 2 := 0x0#2
      let h : BitVec 7 := 0x2b#7
      let s := State.reset
      let k := CoreId.elem c
      let s : State := mkRun s k
    (s.Runs k (wEnc 0x39 pn ps (rd ++ (zd ++ (lane ++ (BitVec.ofBool w ++ (z2 ++ h))))))) ∧ (∀ a, 0x30000 ≤ a → a < 0x38000 → s.upset c.val (elemKey c.val a) = 0)) ∧
    (let c : Fin 16 := 1
      let pn : Bool := false
      let ps : Fin 8 := 0
      let rd : BitVec 5 := 0x19#5
      let sel : BitVec 3 := 0x0#3
      let z14 : BitVec 14 := 0x0000#14
      let s := State.reset
      let k := CoreId.elem c
      let s : State := mkRun s k
      let wd : Word := (wEnc 0x3B pn ps (rd ++ (sel ++ z14)))
    (s.Runs k wd)) :=
  ⟨runs_of (by decide +kernel),
    runs_of (by decide +kernel),
    ⟨runs_of (by decide +kernel), by decide +kernel⟩,
    ⟨runs_of (by decide +kernel), by decide +kernel⟩,
    ⟨runs_of (by decide +kernel), fun _ _ _ => rfl⟩,
    runs_of (by decide +kernel)⟩

theorem met_WalsoFloatResults :
    (let k : CoreId := CoreId.lathe
      let pn : Bool := false
      let ps : Fin 8 := 0
      let rd : BitVec 5 := 0x00#5
      let ra : BitVec 5 := 0x11#5
      let rb : BitVec 5 := 0x00#5
      let fn : BitVec 7 := 0x03#7
      let s := State.reset
      let s : State := mkRun s k
    (s.Runs k (encR 0x0B pn ps rd ra rb fn))) ∧
    (let k : CoreId := CoreId.lathe
      let pn : Bool := false
      let ps : Fin 8 := 0
      let rd : BitVec 5 := 0x00#5
      let ra : BitVec 5 := 0x11#5
      let rb : BitVec 5 := 0x00#5
      let fn : BitVec 7 := 0x03#7
      let s := State.reset
      let s : State := mkRun s k
    (s.Runs k (encR 0x0C pn ps rd ra rb fn))) ∧
    (let k : CoreId := CoreId.lathe
      let pn : Bool := false
      let ps : Fin 8 := 0
      let rd : BitVec 5 := 0x00#5
      let ra : BitVec 5 := 0x11#5
      let rb : BitVec 5 := 0x00#5
      let fn : BitVec 7 := 0x03#7
      let s := State.reset
      let s : State := mkRun s k
    (s.Runs k (encR 0x0D pn ps rd ra rb fn))) :=
  ⟨runs_of (by decide +kernel),
    runs_of (by decide +kernel),
    runs_of (by decide +kernel)⟩

theorem met_WalsoComplexResults :
    (let k : CoreId := CoreId.elem 0
      let pn : Bool := false
      let ps : Fin 8 := 0
      let zd : BitVec 4 := 0x0#4
      let za : BitVec 4 := 0x3#4
      let zb : BitVec 4 := 0x0#4
      let ga : BitVec 5 := 0x1f#5
      let fn : BitVec 5 := 0x0b#5
      let s := State.reset
      let s : State := mkRun s k
    (s.Runs k (encZ 0x20 pn ps zd za zb ga fn)) ∧ (8 ≤ fn.toNat) ∧ (fn.toNat ≤ 0xB)) ∧
    (let k : CoreId := CoreId.elem 15
      let pn : Bool := false
      let ps : Fin 8 := 0
      let zd : BitVec 4 := 0xf#4
      let za : BitVec 4 := 0x0#4
      let zb : BitVec 4 := 0x2#4
      let ga : BitVec 5 := 0x00#5
      let fn : BitVec 5 := 0x00#5
      let s := State.reset
      let s : State := mkRun s k
    (s.Runs k (encZ 0x20 pn ps zd za zb ga fn)) ∧ (¬ (8 ≤ fn.toNat ∧ fn.toNat ≤ 0xB))) ∧
    (let k : CoreId := CoreId.elem 0
      let pn : Bool := false
      let ps : Fin 8 := 0
      let zd : BitVec 4 := 0x5#4
      let za : BitVec 4 := 0x0#4
      let z1 : Bool := false
      let kind : BitVec 2 := 0x0#2
      let z : BitVec 11 := 0x000#11
      let s := State.reset
      let s : State := mkRun s k
    (s.Runs k (wEnc 0x3A pn ps (BitVec.ofBool z1 ++ (zd ++ (za ++ (kind ++ z))))))) :=
  ⟨⟨runs_of (by decide +kernel), by decide +kernel, by decide +kernel⟩,
    ⟨runs_of (by decide +kernel), by decide +kernel⟩,
    runs_of (by decide +kernel)⟩

theorem met_WalsoElementMemory :
    (let c : Fin 16 := 1
      let pn : Bool := false
      let ps : Fin 8 := 0
      let rd : BitVec 5 := 0x00#5
      let ra : BitVec 5 := 0x16#5
      let off : BitVec 12 := 0x001#12
      let s := State.reset
      let k := CoreId.elem c
      let s : State := mkRun s k
      let m4 := s.addrM k ra.toNat off 4
      let w : Word := (encI 0x10 pn ps rd ra off)
      let space : Nat := 0
      let a : Nat := m4
    (s.Runs k w) ∧ (a % 4 = 0) ∧ (inSpace space a = true) ∧ (s.upset c.val (elemKey c.val a) = 0)) ∧
    (let c : Fin 16 := 15
      let pn : Bool := false
      let ps : Fin 8 := 0
      let rd : BitVec 5 := 0x04#5
      let ra : BitVec 5 := 0x00#5
      let off : BitVec 12 := 0x000#12
      let s := State.reset
      let k := CoreId.elem c
      let s : State := mkRun s k
      let m8 := s.addrM k ra.toNat off 8
      let w : Word := (encI 0x12 pn ps rd ra off)
      let space : Nat := 0
      let a : Nat := m8
    (s.Runs k w) ∧ (a % 8 = 0) ∧ (inSpace space a = true) ∧ (s.upset c.val (elemKey c.val a) = 0) ∧ (s.upset c.val (elemKey c.val (a + 4)) = 0)) ∧
    (let c : Fin 16 := 3
      let pn : Bool := false
      let ps : Fin 8 := 0
      let rd : BitVec 5 := 0x1f#5
      let ra : BitVec 5 := 0x0b#5
      let off : BitVec 12 := 0x000#12
      let s := State.reset
      let k := CoreId.elem c
      let s : State := mkRun s k
      let w := encI 0x11 pn ps rd ra off
      let a := s.addrM k ra.toNat off 4
    (s.Runs k w) ∧ (a % 4 = 0) ∧ (a < 0x20000)) ∧
    (let c : Fin 16 := 15
      let pn : Bool := false
      let ps : Fin 8 := 0
      let rd : BitVec 5 := 0x00#5
      let ra : BitVec 5 := 0x0f#5
      let off : BitVec 12 := 0x002#12
      let s := State.reset
      let k := CoreId.elem c
      let s : State := mkRun s k
      let a := s.addrM k ra.toNat off 8
    (s.Runs k (encI 0x13 pn ps rd ra off)) ∧ (a % 8 = 0) ∧ (a < 0x20000)) :=
  ⟨⟨runs_of (by decide +kernel), by decide +kernel, by decide +kernel, by decide +kernel⟩,
    ⟨runs_of (by decide +kernel), by decide +kernel, by decide +kernel, by decide +kernel, by decide +kernel⟩,
    ⟨runs_of (by decide +kernel), by decide +kernel, by decide +kernel⟩,
    ⟨runs_of (by decide +kernel), by decide +kernel, by decide +kernel⟩⟩

theorem met_WalsoOtherCoresMemory :
    (let pn : Bool := false
      let ps : Fin 8 := 0
      let rd : BitVec 5 := 0x10#5
      let ra : BitVec 5 := 0x08#5
      let off : BitVec 12 := 0x000#12
      let s := State.reset
      let k := CoreId.lathe
      let s : State := mkRun s k
      let a := s.addrM k ra.toNat off 4
    (s.Runs k (encI 0x10 pn ps rd ra off)) ∧ (s.memCause k 0 false a 4 = none)) ∧
    (let pn : Bool := false
      let ps : Fin 8 := 0
      let rd : BitVec 5 := 0x10#5
      let ra : BitVec 5 := 0x08#5
      let off : BitVec 12 := 0x000#12
      let s := State.reset
      let k := CoreId.lathe
      let s : State := mkRun s k
      let a := s.addrM k ra.toNat off 4
    (s.Runs k (encI 0x11 pn ps rd ra off)) ∧ (s.memCause k 0 true a 4 = none)) :=
  ⟨⟨runs_of (by decide +kernel), by decide +kernel⟩,
    ⟨runs_of (by decide +kernel), by decide +kernel⟩⟩

theorem met_WalsoElementFaults_1 :
    (let a : Nat := 17
      let width : Nat := 8
      let s := State.reset
    (width = 4 ∨ width = 8) ∧ (a % width ≠ 0)) ∧
    (let store : Bool := true
      let a : Nat := 148480
      let width : Nat := 4
      let s := State.reset
    (width = 4 ∨ width = 8) ∧ (a % width = 0) ∧ (store = true) ∧ ((inSpace 1 a = true ∨ inSpace 2 a = true))) ∧
    (let space : Nat := 62
      let store : Bool := true
      let a : Nat := 0
      let width : Nat := 8
      let s := State.reset
    (width = 4 ∨ width = 8) ∧ (a % width = 0) ∧ ((store = true → inSpace 1 a = false ∧ inSpace 2 a = false)) ∧ (inSpace space a = false)) ∧
    (let space : Nat := 0
      let store : Bool := true
      let a : Nat := 0
      let width : Nat := 4
      let s := State.reset
    (width = 4 ∨ width = 8) ∧ (a % width = 0) ∧ ((store = true → inSpace 1 a = false ∧ inSpace 2 a = false)) ∧ (inSpace space a = true)) ∧
    (let c : Fin 16 := 1
      let pn : Bool := false
      let ps : Fin 8 := 0
      let rd : BitVec 5 := 0x00#5
      let ra : BitVec 5 := 0x05#5
      let off : BitVec 12 := 0x003#12
      let s := State.reset
      let k := CoreId.elem c
      let s : State := mkRun s k
      let s : State := s.setCore c.val { (s.core c.val) with g := (s.core c.val).g.setIfInBounds 5 3 }
      let a := s.addrM k ra.toNat off 4
    (s.Runs k (encI 0x10 pn ps rd ra off)) ∧ (a % 4 ≠ 0)) ∧
    (let c : Fin 16 := 1
      let pn : Bool := false
      let ps : Fin 8 := 0
      let rd : BitVec 5 := 0x00#5
      let ra : BitVec 5 := 0x05#5
      let off : BitVec 12 := 0x000#12
      let s := State.reset
      let k := CoreId.elem c
      let s : State := mkRun s k
      let s : State := s.setUpset c.val (elemKey c.val (s.addrM (.elem c) ra.toNat off 4)) 2
      let a := s.addrM k ra.toNat off 4
      let e := s.upset c.val (elemKey c.val a)
    (a % 4 = 0) ∧ (s.Runs k (encI 0x10 pn ps rd ra off)) ∧ (a < 0x20000) ∧ (e = 2)) ∧
    (let c : Fin 16 := 1
      let pn : Bool := false
      let ps : Fin 8 := 0
      let rd : BitVec 5 := 0x00#5
      let ra : BitVec 5 := 0x05#5
      let off : BitVec 12 := 0x000#12
      let s := State.reset
      let k := CoreId.elem c
      let s : State := mkRun s k
      let s : State := s.setUpset c.val (elemKey c.val (s.addrM (.elem c) ra.toNat off 4)) 1
      let a := s.addrM k ra.toNat off 4
      let e := s.upset c.val (elemKey c.val a)
    (a % 4 = 0) ∧ (s.Runs k (encI 0x10 pn ps rd ra off)) ∧ (a < 0x20000) ∧ (e = 1)) ∧
    (let c : Fin 16 := 1
      let pn : Bool := false
      let ps : Fin 8 := 0
      let rd : BitVec 5 := 0x00#5
      let ra : BitVec 5 := 0x05#5
      let off : BitVec 12 := 0x000#12
      let s := State.reset
      let k := CoreId.elem c
      let s : State := mkRun s k
      let s : State := s.setCore c.val { (s.core c.val) with g := (s.core c.val).g.setIfInBounds 5 0x20040 }
      let s : State := s.setUpset c.val (elemKey c.val 0x20040) 2
      let a := s.addrM k ra.toNat off 4
      let e := s.upset c.val (elemKey c.val a)
    (a % 4 = 0) ∧ (inSpace 1 a = true) ∧ (s.Runs k (encI 0x14 pn ps rd ra off)) ∧ (e ≠ 0)) :=
  ⟨by decide +kernel,
    by decide +kernel,
    by decide +kernel,
    by decide +kernel,
    ⟨runs_of (by decide +kernel), by decide +kernel⟩,
    ⟨by decide +kernel, runs_of (by decide +kernel), by decide +kernel, by decide +kernel⟩,
    ⟨by decide +kernel, runs_of (by decide +kernel), by decide +kernel, by decide +kernel⟩,
    ⟨by decide +kernel, by decide +kernel, runs_of (by decide +kernel), by decide +kernel⟩⟩

theorem met_WalsoElementFaults_2 :
    (let c : Fin 16 := 15
      let pn : Bool := false
      let ps : Fin 8 := 0
      let rd : BitVec 5 := 0x02#5
      let ra : BitVec 5 := 0x05#5
      let off : BitVec 12 := 0x000#12
      let s := State.reset
      let k := CoreId.elem c
      let s : State := mkRun s k
      let s : State := s.setCore c.val { (s.core c.val) with g := (s.core c.val).g.setIfInBounds 5 0x30040 }
      let s : State := s.setUpset c.val (elemKey c.val 0x30040) 2
      let a := s.addrM k ra.toNat off 4
      let e := s.upset c.val (elemKey c.val a)
    (a % 4 = 0) ∧ (inSpace 2 a = true) ∧ (s.Runs k (encI 0x15 pn ps rd ra off)) ∧ (e ≠ 0)) := ⟨by decide +kernel, by decide +kernel, runs_of (by decide +kernel), by decide +kernel⟩

theorem met_IllegalWordRaisesItsCause :
    (let k : CoreId := CoreId.sup 1
      let w : Word := 0x40490fdb#32
      let s := State.reset
    (wCause k.prof w = none)) := by decide +kernel

theorem met_WalsoControlFlow :
    (let k : CoreId := CoreId.lathe
      let pn : Bool := false
      let ps : Fin 8 := 0
      let off : BitVec 22 := 0x000000#22
      let s := State.reset
      let s : State := mkRun s k
      let x := s.core k.num
    (s.Runs k (wEnc 0x30 pn ps off)) ∧ (x.pc + 1 + off.toNat < s.codeLimit k)) ∧
    (let k : CoreId := CoreId.lathe
      let pn : Bool := false
      let ps : Fin 8 := 0
      let trip : BitVec 10 := 0x37f#10
      let len : BitVec 12 := 0x000#12
      let s := State.reset
      let s : State := mkRun s k
      let x := s.core k.num
    (s.Runs k (wEnc 0x31 pn ps (trip ++ len))) ∧ (x.loops.length < 4)) ∧
    (let k : CoreId := CoreId.lathe
      let pn : Bool := false
      let ps : Fin 8 := 0
      let ra : BitVec 5 := 0x00#5
      let n : BitVec 8 := 0x00#8
      let z9 : BitVec 9 := 0x000#9
      let s := State.reset
      let s : State := mkRun s k
    (s.Runs k (wEnc 0x32 pn ps (ra ++ (n ++ z9))))) ∧
    (let k : CoreId := CoreId.lathe
      let pn : Bool := false
      let ps : Fin 8 := 0
      let z : BitVec 5 := 0x00#5
      let target : BitVec 17 := 0x00000#17
      let s := State.reset
      let s : State := mkRun s k
      let x := s.core k.num
    (s.Runs k (wEnc 0x33 pn ps (z ++ target))) ∧ (x.rets.length < 8) ∧ (target.toNat < s.codeLimit k)) ∧
    (let k : CoreId := CoreId.lathe
      let pn : Bool := false
      let ps : Fin 8 := 0
      let low : BitVec 22 := 0x000000#22
      let p : Nat := 40
      let ps' : List Nat := []
      let s := State.reset
      let s : State := mkRun s k
      let s : State := s.setCore k.num { (s.core k.num) with rets := (p :: ps') }
      let x := s.core k.num
    (s.Runs k (wEnc 0x34 pn ps low)) ∧ (x.rets = p :: ps')) ∧
    (let j : Fin 2 := 1
      let ps : Fin 8 := 0
      let pn : Bool := false
      let z : BitVec 22 := 0x000000#22
      let f : LoopFrame := { start := 0, len := 1, trip := 63, idx := 0, depth := 0 }
      let s := State.reset
      let k := CoreId.sup j
      let s : State := mkRun s k
      let s : State := s.setCore k.num { (s.core k.num) with loops := ([f]) }
      let x := s.core k.num
    (s.Runs k (wEnc 0x27 pn ps z)) ∧ (x.loops = [f]) ∧ (f.depth = x.rets.length) ∧ (x.pc + 1 = f.start + f.len)) ∧
    (let pn : Bool := false
      let ps : Fin 8 := 0
      let z : BitVec 22 := 0x000000#22
      let c : Fin 16 := 15
      let s := State.reset
      let k := CoreId.elem c
      let s : State := mkRun s k
    (s.Runs k (wEnc 0x35 pn ps z)) ∧ ((s.core k.num).loops = []) ∧ ((s.core k.num).rets = [])) ∧
    (let pn : Bool := false
      let ps : Fin 8 := 0
      let z : BitVec 22 := 0x000000#22
      let s := State.reset
      let k := CoreId.lathe
      let s : State := mkRun s k
    (s.Runs k (wEnc 0x2F pn ps z)) ∧ ((s.core k.num).loops = []) ∧ ((s.core k.num).rets = [])) :=
  ⟨⟨runs_of (by decide +kernel), by decide +kernel⟩,
    ⟨runs_of (by decide +kernel), by decide +kernel⟩,
    runs_of (by decide +kernel),
    ⟨runs_of (by decide +kernel), by decide +kernel, by decide +kernel⟩,
    ⟨runs_of (by decide +kernel), by decide +kernel⟩,
    ⟨runs_of (by decide +kernel), by decide +kernel, by decide +kernel, by decide +kernel⟩,
    ⟨runs_of (by decide +kernel), by decide +kernel, by decide +kernel⟩,
    ⟨runs_of (by decide +kernel), by decide +kernel, by decide +kernel⟩⟩

theorem met_SupervisorControlRegisters :
    (let j : Fin 2 := 1
      let pn : Bool := false
      let ps : Fin 8 := 0
      let rd : BitVec 5 := 0x08#5
      let ra : BitVec 5 := 0x00#5
      let n : BitVec 12 := 0x003#12
      let s := State.reset
      let k := CoreId.sup j
      let s : State := mkRun s k
      let w := encI 0x24 pn ps rd ra n
      let u := s.sup j.val
    (s.Runs k w) ∧ (bitAt u.sstat 1 = true)) := ⟨runs_of (by decide +kernel), by decide +kernel⟩

theorem met_SupervisorPrivilegeReturnsWaits :
    (let j : Fin 2 := 1
      let pn : Bool := false
      let ps : Fin 8 := 0
      let z : BitVec 22 := 0x000000#22
      let s := State.reset
      let k := CoreId.sup j
      let s : State := mkRun s k
      let u := s.sup j.val
    (s.Runs k (wEnc 0x25 pn ps z)) ∧ (bitAt u.sstat 1 = true)) ∧
    (let j : Fin 2 := 1
      let pn : Bool := false
      let ps : Fin 8 := 0
      let z : BitVec 22 := 0x000000#22
      let s := State.reset
      let k := CoreId.sup j
      let s : State := mkRun s k
    (s.Runs k (wEnc 0x26 pn ps z))) ∧
    (let j : Fin 2 := 1
      let pn : Bool := false
      let ps : Fin 8 := 0
      let z : BitVec 22 := 0x000000#22
      let s := State.reset
      let k := CoreId.sup j
      let s : State := mkRun s k
    (s.Runs k (wEnc 0x27 pn ps z))) :=
  ⟨⟨runs_of (by decide +kernel), by decide +kernel⟩,
    runs_of (by decide +kernel),
    runs_of (by decide +kernel)⟩

theorem met_SupervisorTakesLowestInterrupt :
    (let j : Fin 2 := 1
      let n : Nat := 4
      let s := State.reset
      let s : State := ({ s with supPend := SMap.set (fun _ => 0) s.supPend j.val (0xF000000000000010) }).setSup j.val { s.sup j.val with ien := 0xFFFFFFFFFFFFFFFF, sstat := 3 }
      let s : State := s.setCore (16 + j.val) { s.core (16 + j.val) with run := .active, waiting := true, pc := 0x3FFF }
    (n < 64) ∧ ((s.core (16 + j.val)).run = .active) ∧ (bitAt (s.sup j.val).sstat 0 = true) ∧ ((s.supReady j.val).getLsbD n = true) ∧ (∀ m, m < n → (s.supReady j.val).getLsbD m = false)) := by decide +kernel

theorem met_WalsoStagedEffects :
    (let c : Fin 16 := 1
      let pn : Bool := false
      let ps : Fin 8 := 0
      let ra : BitVec 5 := 0x1f#5
      let rb : BitVec 5 := 0x03#5
      let code : BitVec 12 := 0x5f4#12
      let s := State.reset
      let k := CoreId.elem c
      let s : State := mkRun s k
      let e := s.elem c.val
      let w : Word := (wEnc 0x2A pn ps (ra ++ (rb ++ code)))
    (e.evts.length < 8) ∧ (s.Runs k w)) ∧
    (let c : Fin 16 := 1
      let pn : Bool := false
      let ps : Fin 8 := 0
      let ra : BitVec 5 := 0x00#5
      let rb : BitVec 5 := 0x1f#5
      let code : BitVec 12 := 0x003#12
      let s := State.reset
      let k := CoreId.elem c
      let s : State := mkRun s k
      let s : State := s.setElem c.val { (s.elem c.val) with evts := (List.replicate ((8)) trec0) }
    (s.Runs k (wEnc 0x2A pn ps (ra ++ (rb ++ code)))) ∧ (8 ≤ (s.elem c.val).evts.length)) :=
  ⟨⟨by decide +kernel, runs_of (by decide +kernel)⟩,
    ⟨runs_of (by decide +kernel), by decide +kernel⟩⟩

theorem met_WalsoClusterUnits :
    (let c : Fin 16 := 1
      let pn : Bool := false
      let ps : Fin 8 := 0
      let rd : BitVec 5 := 0x00#5
      let ra : BitVec 5 := 0x04#5
      let n5 : BitVec 5 := 0x03#5
      let z5 : BitVec 5 := 0x00#5
      let s := State.reset
      let k := CoreId.elem c
      let s : State := mkRun s k
      let e := s.elem c.val
      let done : Nat := e.crvDone
      let m : Nat := n5.toNat
      let s : State := s.setElem c.val { (s.elem c.val) with crvDone := ((setBitNat (done) (m) (true))) }
      let e := s.elem c.val
      let op : BitVec 2 := 0
      let w : Word := (crvWord pn ps rd ra n5 op z5)
      let done : Nat := e.crvDone
    (s.Runs k w) ∧ (done.testBit m = true)) ∧
    (let c : Fin 16 := 1
      let pn : Bool := false
      let ps : Fin 8 := 0
      let rd : BitVec 5 := 0x00#5
      let ra : BitVec 5 := 0x04#5
      let n5 : BitVec 5 := 0x03#5
      let z5 : BitVec 5 := 0x00#5
      let s := State.reset
      let k := CoreId.elem c
      let s : State := mkRun s k
      let e := s.elem c.val
      let op : BitVec 2 := 0
      let w : Word := (crvWord pn ps rd ra n5 op z5)
      let done : ElemU → Nat := (·.crvDone)
      let m : Nat := n5.toNat
    (s.Runs k w) ∧ ((done e).testBit m = false)) ∧
    (let c : Fin 16 := 1
      let pn : Bool := false
      let ps : Fin 8 := 0
      let rd : BitVec 5 := 0x00#5
      let ra : BitVec 5 := 0x04#5
      let n5 : BitVec 5 := 0x03#5
      let z5 : BitVec 5 := 0x00#5
      let s := State.reset
      let k := CoreId.elem c
      let s : State := mkRun s k
      let e := s.elem c.val
    (s.Runs k (crvWord pn ps rd ra n5 1 z5)) ∧ (e.crvDone.testBit n5.toNat = false)) ∧
    (let c : Fin 16 := 1
      let pn : Bool := false
      let ps : Fin 8 := 0
      let rd : BitVec 5 := 0x00#5
      let ra : BitVec 5 := 0x04#5
      let n : BitVec 6 := 0x00#6
      let z : BitVec 4 := 0x0#4
      let s := State.reset
      let k := CoreId.elem c
      let s : State := mkRun s k
      let e := s.elem c.val
    (s.Runs k (cmpTmrWord 0x3D pn ps rd ra n 1 z)) ∧ (e.cmpDone.testBit n.toNat = false)) ∧
    (let c : Fin 16 := 1
      let pn : Bool := false
      let ps : Fin 8 := 0
      let rd : BitVec 5 := 0x00#5
      let ra : BitVec 5 := 0x04#5
      let n : BitVec 6 := 0x00#6
      let z : BitVec 4 := 0x0#4
      let s := State.reset
      let k := CoreId.elem c
      let s : State := mkRun s k
      let e := s.elem c.val
    (s.Runs k (cmpTmrWord 0x3E pn ps rd ra n 1 z)) ∧ (e.tmrDone.testBit n.toNat = false)) :=
  ⟨⟨runs_of (by decide +kernel), by decide +kernel⟩,
    ⟨runs_of (by decide +kernel), by decide +kernel⟩,
    ⟨runs_of (by decide +kernel), by decide +kernel⟩,
    ⟨runs_of (by decide +kernel), by decide +kernel⟩,
    ⟨runs_of (by decide +kernel), by decide +kernel⟩⟩

theorem met_LatheInstructions :
    (let pn : Bool := false
      let ps : Fin 8 := 0
      let rd : BitVec 5 := 0x04#5
      let z4 : BitVec 4 := 0x0#4
      let word : BitVec 12 := 0x3ff#12
      let s := State.reset
      let k := CoreId.lathe
      let s : State := mkRun s k
      let lw (dir : Bool) := wEnc 0x2C pn ps (rd ++ (BitVec.ofBool dir ++ (z4 ++ word)))
      let w : Word := (lw false)
    (word.toNat < 2048) ∧ (s.Runs k w)) ∧
    (let pn : Bool := false
      let ps : Fin 8 := 0
      let rd : BitVec 5 := 0x04#5
      let z4 : BitVec 4 := 0x0#4
      let word : BitVec 12 := 0x3ff#12
      let s := State.reset
      let k := CoreId.lathe
      let s : State := mkRun s k
      let lw (dir : Bool) := wEnc 0x2C pn ps (rd ++ (BitVec.ofBool dir ++ (z4 ++ word)))
    (word.toNat < 1024) ∧ (s.Runs k (lw true))) ∧
    (let pn : Bool := false
      let ps : Fin 8 := 0
      let rd : BitVec 5 := 0x14#5
      let ra : BitVec 5 := 0x1f#5
      let n : BitVec 10 := 0x000#10
      let st : Nat := 1
      let s := State.reset
      let s : State := { s with lathe := { s.lathe with tmrSt := [(n.toNat, 17)] } }
      let k := CoreId.lathe
      let s : State := mkRun s k
      let w : Word := (ltmrWord pn ps rd ra 0 n)
    (s.ltmrDone n.toNat = some st) ∧ (s.Runs k w)) ∧
    (let pn : Bool := false
      let ps : Fin 8 := 0
      let rd : BitVec 5 := 0x04#5
      let ra : BitVec 5 := 0x00#5
      let n : BitVec 10 := 0x03f#10
      let s := State.reset
      let k := CoreId.lathe
      let s : State := mkRun s k
    (s.ltmrDone n.toNat = none) ∧ (s.Runs k (ltmrWord pn ps rd ra 0 n))) ∧
    (let pn : Bool := false
      let ps : Fin 8 := 0
      let rd : BitVec 5 := 0x04#5
      let ra : BitVec 5 := 0x00#5
      let n : BitVec 10 := 0x03f#10
      let s := State.reset
      let k := CoreId.lathe
      let s : State := mkRun s k
    (s.ltmrDone n.toNat = none) ∧ (s.Runs k (ltmrWord pn ps rd ra 1 n))) :=
  ⟨⟨by decide +kernel, runs_of (by decide +kernel)⟩,
    ⟨by decide +kernel, runs_of (by decide +kernel)⟩,
    ⟨by decide +kernel, runs_of (by decide +kernel)⟩,
    ⟨by decide +kernel, runs_of (by decide +kernel)⟩,
    ⟨by decide +kernel, runs_of (by decide +kernel)⟩⟩

theorem met_LatheEdgeMemory :
    (let pn : Bool := false
      let ps : Fin 8 := 0
      let rd : BitVec 5 := 0x1f#5
      let ra : BitVec 5 := 0x00#5
      let n : BitVec 12 := 0x005#12
      let s := State.reset
      let k := CoreId.lathe
      let s : State := mkRun s k
    (s.Runs k (wEnc 0x2E pn ps (rd ++ (ra ++ n))))) := runs_of (by decide +kernel)

theorem met_ClaimCommands :
    (let r : Req := Req.sup1
      let res : BitVec 16 := 0x403f#16
      let s := State.reset
      let s : State := { s with hbiReady := (true), power := { s.power with off := false, cause := if (true) then 0 else 1 } }
      let n := res.toNat
    (resValid n = true) ∧ ((s.owner n = 0 ∨ s.owner n = r.code)) ∧ ((n / 4096 = 3 ∨ n / 4096 = 4 → s.ended = [])) ∧ (s.served r = true)) ∧
    (let r : Req := Req.sup1
      let res : BitVec 16 := 0x403f#16
      let s := State.reset
      let n := res.toNat
      let s : State := s.setClaim n { owner := (r.code), tag := 7 }
      let s : State := { s with hbiReady := (true), power := { s.power with off := false, cause := if (true) then 0 else 1 } }
    (resValid n = true) ∧ (s.owner n = r.code) ∧ (s.releaseBlocked n = false) ∧ (n / 4096 ≠ 1) ∧ (n / 4096 ≠ 3) ∧ ((n / 4096 = 4 → s.ended = [])) ∧ (s.served r = true)) ∧
    (let r : Req := Req.sup1
      let res : BitVec 16 := 0x403f#16
      let s := State.reset
      let s : State := { s with hbiReady := (true), power := { s.power with off := false, cause := if (true) then 0 else 1 } }
      let n := res.toNat
    (resValid n = true) ∧ (s.owner n = 0) ∧ (s.served r = true)) ∧
    (let r : Req := Req.sup1
      let res : BitVec 16 := 0x0000#16
      let s := State.reset
      let s : State := { s with hbiReady := (true), power := { s.power with off := false, cause := if (true) then 0 else 1 } }
      let n := res.toNat
    (resValid n = false) ∧ (s.served r = true)) ∧
    (let r : Req := Req.sup1
      let res : BitVec 16 := 0x403f#16
      let s := State.reset
      let n := res.toNat
      let s : State := s.setClaim n { owner := ((r.code) + 1), tag := 7 }
      let s : State := { s with hbiReady := (true), power := { s.power with off := false, cause := if (true) then 0 else 1 } }
    (resValid n = true) ∧ (s.owner n ≠ 0) ∧ (s.owner n ≠ r.code) ∧ (s.served r = true)) ∧
    (let r : Req := Req.sup1
      let res : BitVec 16 := 0x403f#16
      let s := State.reset
      let n := res.toNat
      let s : State := s.setClaim n { owner := ((r.code) + 1), tag := 7 }
      let s : State := { s with hbiReady := (true), power := { s.power with off := false, cause := if (true) then 0 else 1 } }
    (resValid n = true) ∧ (s.owner n ≠ 0) ∧ (s.owner n ≠ r.code ∨ s.releaseBlocked n = true) ∧ (s.served r = true)) :=
  ⟨by decide +kernel,
    by decide +kernel,
    by decide +kernel,
    by decide +kernel,
    by decide +kernel,
    by decide +kernel⟩

theorem met_DieLinkFramesAndDown :
    (let die : Fin 2 := 1
      let seq : BitVec 8 := 0x01#8
      let ok : Bool := true
      let s := State.reset
      let s : State := s.putBit Reg.DLK_STAT die.val (true)
      let s : State := s.setLink die.val { (s.link die.val) with seq := (seq.toNat) }
    (s.linkUp die.val = true) ∧ (ok = true) ∧ (seq.toNat = (s.link die.val).seq)) ∧
    (let die : Fin 2 := 1
      let seq : BitVec 8 := 0x01#8
      let ok : Bool := false
      let s := State.reset
      let s : State := s.putBit Reg.DLK_STAT die.val (true)
    (s.linkUp die.val = true) ∧ (ok = false ∨ seq.toNat ≠ (s.link die.val).seq)) ∧
    (let die : Fin 2 := 1
      let s := State.reset
      let s : State := s.putBit Reg.DLK_STAT die.val (true)
      let s : State := s.setLink die.val { (s.link die.val) with consec := ((4)) }
    (s.linkUp die.val = true) ∧ (4 ≤ (s.link die.val).consec)) ∧
    (let die : Fin 2 := 1
      let s := State.reset
      let s : State := s.putBit Reg.DLK_STAT die.val (true)
    (s.linkUp die.val = true) ∧ ((s.link die.val).consec < 4)) :=
  ⟨by decide +kernel,
    by decide +kernel,
    by decide +kernel,
    by decide +kernel⟩

theorem met_MramAccessAndMplTransfers :
    (let fn : MUser := MUser.recorder
      let addr : BitVec 26 := 0x3ffffff#26
      let len : Fin 65 := 47
      let s := State.reset
    (∀ i, i < len.val → mramWriter fn (addr.toNat + i) = true)) ∧
    (let fn : MUser := MUser.tally
      let addr : BitVec 26 := 0x0000000#26
      let len : Fin 65 := 64
      let s := State.reset
    (∃ i, i < len.val ∧ mramWriter fn (addr.toNat + i) = false)) ∧
    (let b : Fin 8 := 1
      let f1 : RxFrame := { seq := 0xff#8, crcOk := true }
      let s := State.reset
      let n := 2 + b.val
      let s : State := s.putBit Reg.DLK_STAT n (true)
      let s : State := s.setLink n { (s.link n) with seq := (f1.seq.toNat) }
      let x := (s.link n).seq
      let Good (f : RxFrame) (e : Nat) : Prop := f.crcOk = true ∧ f.seq.toNat = e
    (s.linkUp n = true) ∧ (Good f1 x)) ∧
    (let b : Fin 8 := 1
      let f1 : RxFrame := { seq := 0xff#8, crcOk := true }
      let f2 : RxFrame := { seq := 0x00#8, crcOk := true }
      let s := State.reset
      let n := 2 + b.val
      let s : State := s.putBit Reg.DLK_STAT n (true)
      let x := (s.link n).seq
      let Good (f : RxFrame) (e : Nat) : Prop := f.crcOk = true ∧ f.seq.toNat = e
    (s.linkUp n = true) ∧ (¬ Good f1 x) ∧ (Good f2 (nextSeq x f1.seq.toNat f1.crcOk))) ∧
    (let b : Fin 8 := 1
      let f1 : RxFrame := { seq := 0xff#8, crcOk := true }
      let f2 : RxFrame := { seq := 0x03#8, crcOk := true }
      let s := State.reset
      let n := 2 + b.val
      let s : State := s.putBit Reg.DLK_STAT n (true)
      let x := (s.link n).seq
      let Good (f : RxFrame) (e : Nat) : Prop := f.crcOk = true ∧ f.seq.toNat = e
    (s.linkUp n = true) ∧ (¬ Good f1 x) ∧ (¬ Good f2 (nextSeq x f1.seq.toNat f1.crcOk))) ∧
    (let b : Fin 8 := 1
      let f1 : RxFrame := { seq := 0xff#8, crcOk := true }
      let s := State.reset
      let n := 2 + b.val
    (s.linkUp n = false) ∧ (f1.crcOk = true)) ∧
    (let b : Fin 8 := 6
      let f1 : RxFrame := { seq := 0x00#8, crcOk := false }
      let f2 : RxFrame := { seq := 0x25#8, crcOk := true }
      let s := State.reset
      let n := 2 + b.val
    (s.linkUp n = false) ∧ (f1.crcOk = false) ∧ (f2.crcOk = true)) ∧
    (let b : Fin 8 := 2
      let f1 : RxFrame := { seq := 0x03#8, crcOk := false }
      let f2 : RxFrame := { seq := 0x00#8, crcOk := false }
      let s := State.reset
      let n := 2 + b.val
    (s.linkUp n = false) ∧ (f1.crcOk = false) ∧ (f2.crcOk = false)) :=
  ⟨by decide +kernel,
    by decide +kernel,
    by decide +kernel,
    by decide +kernel,
    by decide +kernel,
    by decide +kernel,
    by decide +kernel,
    by decide +kernel⟩

theorem met_TickStartAndPhases :
    (let s := State.reset
      let s : State := s.putBit Reg.TB_STAT 5 (true)
      let s : State := { s with tick := { s.tick with running := (true) } }
      let s : State := s.put Reg.BOOT_STAT 28 25 ((6))
    (s.started = true) ∧ (s.inPhases = false) ∧ (s.tick.running = true) ∧ (s.power.regReq = []) ∧ (6 ≤ s.stage)) ∧
    (let r : Fin 4 := 1
      let s := State.reset
      let s : State := { (s.putBit (Reg.REG_STAT r.val) 19 false).setHeldRegs [] with tick := { s.tick with regs := [0, 1, 2, 3], running := true }, phase := [] }
    (s.tick.running = true) ∧ (s.tickHas r.val = true) ∧ (∀ i, i < 4 → s.clPhase (4 * r.val + i) = .idle)) ∧
    (let c : Fin 16 := 1
      let s := State.reset
      let s : State := s.setPhase c.val (.entry)
      let s : State := s.putBit (Reg.CORE_STAT c.val) 1 (false)
    (s.clPhase c.val = .entry) ∧ (s.readyHolds = false) ∧ (s.coreStopped c.val = false)) :=
  ⟨by decide +kernel,
    by decide +kernel,
    by decide +kernel⟩

theorem met_DeadlinePostAndFaultLifting :
    (let c : Fin 16 := 1
      let s := State.reset
      let s : State := s.setPhase c.val (.element)
      let s : State := s.putBit (Reg.CORE_STAT c.val) 1 (false)
      let s : State := s.setCore c.val { (s.core c.val) with run := (.ended) }
    (s.clPhase c.val = .element) ∧ (s.coreStopped c.val = false) ∧ (∃ i, i < 16 ∧ i ≠ c.val ∧ s.regionRuns (i / 4) = true ∧ s.clPhase i ≠ .exit) ∧ ((s.core c.val).run = .ended) ∧ (s.late.contains (c.val / 4) = false)) ∧
    (let c : Fin 16 := 1
      let s := State.reset
      let s : State := s.setPhase c.val (.element)
      let s : State := s.putBit (Reg.CORE_STAT c.val) 1 (false)
    (s.clPhase c.val = .element) ∧ (s.coreStopped c.val = false) ∧ (∃ i, i < 16 ∧ i ≠ c.val ∧ s.regionRuns (i / 4) = true ∧ s.clPhase i ≠ .exit) ∧ ((s.core c.val).run ≠ .ended ∨ s.late.contains (c.val / 4) = true)) ∧
    (let c : Fin 16 := 1
      let s := State.reset
      let s : State := s.putBit (Reg.OVR_STAT c.val) (0) (true)
    (s.bit (Reg.OVR_STAT c.val) 0 = true)) ∧
    (let c : Fin 16 := 1
      let s := State.reset
    (s.bit (Reg.OVR_STAT c.val) 0 = false)) ∧
    (let c : Fin 16 := 1
      let s := State.reset
      let s : State := s.setElem c.val { (s.elem c.val) with clearReq := (true) }
      let s : State := s.setPhase c.val (.entry)
    ((s.elem c.val).clearReq = true) ∧ (s.clPhase c.val = .entry)) ∧
    (let v : Word := 0x00000001#32
      let s := State.reset
    (field v 7 0 ≠ 0)) ∧
    (let v : Word := 0x00000000#32
      let s := State.reset
    (field v 7 0 = 0)) :=
  ⟨by decide +kernel,
    by decide +kernel,
    by decide +kernel,
    by decide +kernel,
    by decide +kernel,
    by decide +kernel,
    by decide +kernel⟩

theorem met_AfeClockAndStitcher_1 :
    (let s := State.reset
      let s : State := s.putBit (Reg.AFE_STAT 1) (0) (true)
    (s.bit (Reg.AFE_STAT 0) 0 = true ∨ s.bit (Reg.AFE_STAT 1) 0 = true)) ∧
    (let s := State.reset
    (s.bit (Reg.AFE_STAT 0) 0 = false) ∧ (s.bit (Reg.AFE_STAT 1) 0 = false)) ∧
    (let s := State.reset
      let both := s.bit (Reg.AFE_STAT 0) 0 && s.bit (Reg.AFE_STAT 1) 0
    (both = false)) ∧
    (let die : Fin 2 := 1
      let s := State.reset
      let stat := Reg.AFE_STAT die.val
    (s.bit stat 3 = false) ∧ (s.dieOn die.val = true)) ∧
    (let die : Fin 2 := 1
      let s := State.reset
      let stat := Reg.AFE_STAT die.val
      let s : State := s.putBit stat (3) (true)
    (s.bit stat 3 = true)) ∧
    (let v : Word := 0x00000000#32
      let s := State.reset
    (bitAt v 0 = false)) ∧
    (let v : Word := 0x00000001#32
      let s := State.reset
    (bitAt v 0 = true) ∧ (s.owner (0x7000 + field v 11 8) = 0)) ∧
    (let c : Fin 16 := 15
      let s := State.reset
      let s : State := s.setClSrc c.val (s.rd (Reg.CL_SRC c.val) ^^^ 0xF00)
    (s.rd (Reg.CL_SRC c.val) &&& srcBits ≠ s.srcNow c.val &&& srcBits)) :=
  ⟨by decide +kernel,
    by decide +kernel,
    by decide +kernel,
    by decide +kernel,
    by decide +kernel,
    by decide +kernel,
    by decide +kernel,
    by decide +kernel⟩

theorem met_AfeClockAndStitcher_2 :
    (let ch : Fin 128 := 1
      let s := State.reset
      let h := ch.val
      let l := s.lane h
      let s : State := s.setLane h { (s.lane h) with per := (((chainCfg (s.rd (kCFG h))).p * l.stN + 32) + 1) }
      let l := s.lane h
    ((chainCfg (s.rd (kCFG h))).p * l.stN + 32 < l.per)) ∧
    (let ch : Fin 128 := 1
      let s := State.reset
      let h := ch.val
      let l := s.lane h
    (l.calFull = none)) ∧
    (let ch : Fin 128 := 3
      let q : CalWin := { n := 48, ok := true, se := 0, sy := 0, sey := 0, syy := 0, see := 0, sed := 11548, sd := 0, sdd := 10764, prev := [] }
      let s := State.reset
      let h := ch.val
      let s : State := s.setLane h { (s.lane h) with calFull := (some q) }
      let l := s.lane h
    (l.calFull = some q)) ∧
    (let ch : Fin 128 := 1
      let s := State.reset
      let h := ch.val
      let s : State := s.setLane h { (s.lane h) with calErr := (some calErr0) }
      let l := s.lane h
    (l.calErr.isSome = true)) ∧
    (let ch : Fin 128 := 1
      let s := State.reset
      let h := ch.val
      let l := s.lane h
    (l.trimHeld = [])) ∧
    (let ch : Fin 128 := 1
      let s := State.reset
      let h := ch.val
      let s : State := s.setLane h { (s.lane h) with trimHeld := ([(0, 0)]) }
      let l := s.lane h
    (l.trimHeld ≠ []) ∧ (l.calErr = none)) ∧
    (let ch : Fin 128 := 1
      let s := State.reset
      let h := ch.val
      let s : State := s.setLane h { (s.lane h) with modeReq := (true) }
      let l := s.lane h
    (l.modeReq = true)) ∧
    (let ch : Fin 128 := 1
      let v : Word := 0x0000018f#32
      let s := State.reset
      let h := ch.val
    (5 * field v 30 0 < 2 * s.fld (kUP h) 26 0)) :=
  ⟨by decide +kernel,
    by decide +kernel,
    by decide +kernel,
    by decide +kernel,
    by decide +kernel,
    by decide +kernel,
    by decide +kernel,
    by decide +kernel⟩

theorem met_AfeClockAndStitcher_3 :
    (let ch : Fin 128 := 1
      let v : Word := 0x00000190#32
      let s := State.reset
      let h := ch.val
      let s : State := s.put (kUP h) 26 0 1000
    (2 * s.fld (kUP h) 26 0 ≤ 5 * field v 30 0)) ∧
    (let ch : Fin 128 := 1
      let cause : Nat := 7
      let s := State.reset
      let h := ch.val
      let s : State := s.setLane h { (s.lane h) with chainReq := (some cause) }
      let l := s.lane h
    (l.chainReq = some cause) ∧ (s.stopped h = false) ∧ (s.isSv (clOf h) = false)) ∧
    (let ch : Fin 128 := 1
      let s := State.reset
      let h := ch.val
    (s.fld (kSTAT h) 31 24 = 0)) :=
  ⟨by decide +kernel,
    by decide +kernel,
    by decide +kernel⟩

theorem met_SamplesAndTracker_1 :
    (let ch : Fin 128 := 1
      let s := State.reset
      let h := ch.val
      let l := s.lane h
      let cfg := chainCfg (s.rd (kCFG h))
      let s : State := s.setLane h { (s.lane h) with stN := ((l.recM * 2 ^ cfg.stages) + 1) }
      let l := s.lane h
      let cfg := chainCfg (s.rd (kCFG h))
    (l.recM * 2 ^ cfg.stages < l.stN)) ∧
    (let ch : Fin 128 := 1
      let s := State.reset
      let h := ch.val
      let l := s.lane h
      let s : State := s.setLane h { (s.lane h) with per := ((8 * l.wbM) + 1) }
      let l := s.lane h
    (8 * l.wbM < l.per) ∧ (s.isSv (clOf h) = false) ∧ (s.regionRuns (chRegion h) = true)) ∧
    (let ch : Fin 128 := 1
      let s := State.reset
      let h := ch.val
      let s : State := s.putBit (Reg.FPD_STAT (clOf h)) ((lnOf h)) (true)
      let s : State := s.setFpd h { (s.fpd h) with spent := (true) }
    (s.bit (Reg.FPD_STAT (clOf h)) (lnOf h) = true) ∧ ((s.fpd h).spent = true)) ∧
    (let c : Fin 16 := 15
      let s := State.reset
      let s : State := s.setTracker c.val { (s.tracker c.val) with align := (false) }
      let s : State := (s.setClSrc c.val 0x20001).setTracker c.val { s.tracker c.val with sv := [(1000000000, List.replicate 8 0)] }
      let k := s.tracker c.val
    (s.regionRuns (c.val / 4) = true) ∧ (k.align = false) ∧ (s.trkDue c.val = true) ∧ (k.cuts = [])) ∧
    (let c : Fin 16 := 6
      let x : TrkCut := { sec := 0, idx := 0, n := 0, ref := 32 }
      let s := State.reset
      let s : State := s.setTracker c.val { (s.tracker c.val) with align := (false) }
      let s : State := s.setTracker c.val { (s.tracker c.val) with cuts := [{ x with sec := 0, idx := 0 }] }
      let k := s.tracker c.val
    (s.regionRuns (c.val / 4) = true) ∧ (k.align = false) ∧ (k.cuts = [x]) ∧ (tickAbs x.sec x.idx ≤ k.tagTick)) ∧
    (let c : Fin 16 := 15
      let s := State.reset
      let s : State := s.setTracker c.val { (s.tracker c.val) with cycle := (List.replicate ((s.trkN c.val)) 0) }
      let k := s.tracker c.val
    (s.trkN c.val ≤ k.cycle.length)) ∧
    (let v : Word := 0x0000003c#32
      let s := State.reset
    (field v 5 4 = 3 ∨ field v 14 12 = 0 ∨ field v 14 12 = 7)) ∧
    (let v : Word := 0x339c1484#32
      let s := State.reset
    (field v 5 4 ≠ 3) ∧ (field v 14 12 ≠ 0) ∧ (field v 14 12 ≠ 7)) :=
  ⟨by decide +kernel,
    by decide +kernel,
    by decide +kernel,
    by decide +kernel,
    by decide +kernel,
    by decide +kernel,
    by decide +kernel,
    by decide +kernel⟩

theorem met_SamplesAndTracker_2 :
    (let c : Fin 16 := 15
      let s := State.reset
      let cfgKey := Reg.TRK_CFG c.val
      let s : State := s.setEff cfgKey ((s.rd cfgKey) + 1)
    (s.eff cfgKey ≠ s.rd cfgKey)) := by decide +kernel

theorem met_LaneFadesStopsChanges_1 :
    (let ch : Fin 128 := 1
      let v : Word := 0x80020010#32
      let s := State.reset
      let h := ch.val
      let stat := kSTAT h
    (bitAt v 31 = true) ∧ (s.bit stat 6 = false) ∧ (s.stopped h = false) ∧ (bitAt v 16 = true ∨ bitAt v 17 = true)) ∧
    (let ch : Fin 128 := 1
      let v : Word := 0x80000010#32
      let s := State.reset
      let h := ch.val
      let s : State := s.putBit (kSTAT h) 2 (true)
      let stat := kSTAT h
    (bitAt v 31 = true) ∧ (s.bit stat 6 = false) ∧ (s.stopped h = true)) ∧
    (let ch : Fin 128 := 1
      let v : Word := 0x80000010#32
      let s := State.reset
      let h := ch.val
      let stat := kSTAT h
      let s : State := s.putBit stat (6) (true)
    (bitAt v 31 = true) ∧ (s.bit stat 6 = true)) ∧
    (let ch : Fin 128 := 1
      let f : Fade := { len := 70, start := none, bank := true }
      let s := State.reset
      let h := ch.val
      let s : State := s.setLane h { (s.lane h) with fadeFin := (some f) }
      let l := s.lane h
    (l.fadeFin = some f) ∧ (f.start = none)) ∧
    (let ch : Fin 128 := 1
      let f : Fade := { len := 3, start := some 45, bank := false }
      let n : Nat := 45
      let s := State.reset
      let h := ch.val
      let s : State := s.setLane h { (s.lane h) with fadeFin := (some f) }
      let s : State := s.setLane h { (s.lane h) with recM := ((n + f.len)) }
      let stat := kSTAT h
      let s : State := s.putBit stat (6) (true)
      let l := s.lane h
    (l.fadeFin = some f) ∧ (f.start = some n) ∧ (n + f.len ≤ l.recM) ∧ (l.fadeComp = none) ∧ (s.bit stat 6 = true)) ∧
    (let r : Req := Req.host
      let off : BitVec 16 := 0x0180#16
      let s := State.reset
      let s : State := { s with hbiReady := (true), power := { s.power with off := false, cause := if (true) then 0 else 1 } }
      let at_ := (0x60000 + off.toNat) / 4 * 4
    (coefPlace at_ = none) ∧ (s.served r = true)) ∧
    (let r : Req := Req.sup0
      let c : Fin 16 := 15
      let off : BitVec 16 := 0x3a04#16
      let lane : Nat := 7
      let fin : Bool := false
      let bank : Bool := true
      let s := State.reset
      let s : State := { s with hbiReady := (true), power := { s.power with off := false, cause := if (true) then 0 else 1 } }
      let at_ := (0x60000 + off.toNat) / 4 * 4
    (coefPlace at_ = some (lane, some (fin, bank))) ∧ (s.bankInUse (8 * c.val + lane) fin bank = false) ∧ (s.served r = true)) ∧
    (let r : Req := Req.sup0
      let c : Fin 16 := 15
      let off : BitVec 16 := 0x3a04#16
      let lane : Nat := 7
      let fin : Bool := false
      let bank : Bool := true
      let s := State.reset
      let s : State := (s.putBit (kSTAT (8 * c.val + lane)) 2 false).putBit (kSTAT (8 * c.val + lane)) (if fin then 5 else 4) bank
      let s : State := { s with hbiReady := (true), power := { s.power with off := false, cause := if (true) then 0 else 1 } }
      let at_ := (0x60000 + off.toNat) / 4 * 4
    (coefPlace at_ = some (lane, some (fin, bank))) ∧ (s.bankInUse (8 * c.val + lane) fin bank = true) ∧ (s.served r = true)) :=
  ⟨by decide +kernel,
    by decide +kernel,
    by decide +kernel,
    by decide +kernel,
    by decide +kernel,
    by decide +kernel,
    by decide +kernel,
    by decide +kernel⟩

theorem met_LaneFadesStopsChanges_2 :
    (let r : Req := Req.sup0
      let off : BitVec 16 := 0x4003#16
      let lane : Nat := 0
      let s := State.reset
      let s : State := { s with hbiReady := (true), power := { s.power with off := false, cause := if (true) then 0 else 1 } }
      let at_ := (0x60000 + off.toNat) / 4 * 4
    (coefPlace at_ = some (lane, none)) ∧ (s.served r = true)) ∧
    (let ch : Fin 128 := 1
      let s := State.reset
      let h := ch.val
      let s : State := s.setLane h { (s.lane h) with stopReq := (true) }
      let l := s.lane h
    (l.stopReq = true)) ∧
    (let ch : Fin 128 := 1
      let s := State.reset
      let h := ch.val
      let s : State := s.setLane h { (s.lane h) with startReq := (true) }
      let s : State := s.wr (kHB h) 0xFFFFFFFF
      let l := s.lane h
    (l.startReq = true) ∧ (s.cfgOk h = false)) ∧
    (let ch : Fin 128 := 1
      let s := State.reset
      let h := ch.val
      let s : State := s.setLane h { (s.lane h) with startReq := (true) }
      let l := s.lane h
    (l.startReq = true) ∧ (s.cfgOk h = true)) ∧
    (let sel : BitVec 2 := 0x0#2
      let s := State.reset
    (sel = 0)) ∧
    (let ch : Fin 128 := 1
      let sel : BitVec 2 := 0x1#2
      let s := State.reset
      let h := ch.val
      let s : State := s.putBit (kSTAT h) 2 (true)
    (sel ≠ 0) ∧ (s.stopped h = true) ∧ (sel ≠ 3)) ∧
    (let ch : Fin 128 := 1
      let sel : BitVec 2 := 0x3#2
      let s := State.reset
      let h := ch.val
    (sel ≠ 0) ∧ (s.stopped h = false ∨ sel = 3)) ∧
    (let ch : Fin 128 := 100
      let n : Nat := 72
      let s := State.reset
      let h := ch.val
      let s : State := s.setLane h { (s.lane h) with loadReq := (some n) }
      let s : State := s.putBit (kSTAT h) 2 (true)
      let l := s.lane h
    (l.loadReq = some n) ∧ (s.stopped h = true)) :=
  ⟨by decide +kernel,
    by decide +kernel,
    by decide +kernel,
    by decide +kernel,
    by decide +kernel,
    by decide +kernel,
    by decide +kernel,
    by decide +kernel⟩

theorem met_ElementImageCommands_1 :
    (let c : Fin 16 := 1
      let s := State.reset
      let d := c.val
      let s : State := s.putBit (Reg.CORE_STAT d) csACT (true)
      let on (i : Nat) : Prop := s.cstat d i = true
      let i : Instr := (.coreLoadValidate c)
    (on csVALIDATING ∨ on csACT)) ∧
    (let c : Fin 16 := 1
      let s := State.reset
      let d := c.val
      let off (i : Nat) : Prop := s.cstat d i = false
    (off csVALIDATING) ∧ (off csACT)) ∧
    (let c : Fin 16 := 1
      let s := State.reset
      let d := c.val
      let s : State := s.setElem d { (s.elem d) with loading := (true) }
      let e := s.elem d
    (e.loading = true)) ∧
    (let c : Fin 16 := 1
      let s := State.reset
      let d := c.val
      let on (i : Nat) : Prop := s.cstat d i = true
      let off (i : Nat) : Prop := s.cstat d i = false
      let i : Instr := (.coreActivate c)
    (off csVALID ∨ on csACT)) ∧
    (let c : Fin 16 := 1
      let img : Image := { ver := 1, layout := 9, codeWords := 16384, entry := 0, wcet := 0, expect := 0x00000000#32, claims := [], secs := [], copies := [] }
      let s := State.reset
      let d := c.val
      let s : State := s.putBit (Reg.CORE_STAT d) csVALID (true)
      let s : State := s.setElem d { s.elem d with other := some img }
      let e := s.elem d
      let on (i : Nat) : Prop := s.cstat d i = true
      let off (i : Nat) : Prop := s.cstat d i = false
    (on csVALID) ∧ (off csACT) ∧ (e.other = some img) ∧ (s.coreStopped d = true)) ∧
    (let c : Fin 16 := 1
      let s := State.reset
      let d := c.val
      let s : State := s.putBit (Reg.CORE_STAT d) csVALID (true)
      let s : State := (s.setElem d { s.elem d with active := some { img0 with layout := 9 }, other := some { img0 with layout := 9 } }).putBit (Reg.CORE_STAT d) 1 false
      let on (i : Nat) : Prop := s.cstat d i = true
      let off (i : Nat) : Prop := s.cstat d i = false
    (on csVALID) ∧ (off csACT) ∧ (s.liveOk d = true)) ∧
    (let c : Fin 16 := 1
      let s := State.reset
      let d := c.val
      let s : State := s.putBit (Reg.CORE_STAT d) csVALID (true)
      let s : State := s.putBit (Reg.CORE_STAT d) 1 (false)
      let on (i : Nat) : Prop := s.cstat d i = true
      let off (i : Nat) : Prop := s.cstat d i = false
      let i : Instr := (.coreActivate c)
    (on csVALID) ∧ (off csACT) ∧ (s.coreStopped d = false) ∧ (s.liveOk d = false)) ∧
    (let c : Fin 16 := 1
      let img : Image := { ver := 1, layout := 9, codeWords := 16384, entry := 0, wcet := 0, expect := 0x00000000#32, claims := [], secs := [], copies := [] }
      let s := State.reset
      let d := c.val
      let s : State := (s.tickMod (fun u => { u with running := (true) })).setPhase d .idle
      let s : State := s.setElem d { (s.elem d) with actWait := (some 0) }
      let s : State := s.setElem d { s.elem d with other := some img }
      let e := s.elem d
    (s.atTickStart d = true) ∧ (e.actWait = some 0) ∧ (e.actIdx = none ∨ e.actIdx = some s.tick.idx) ∧ (e.other = some img)) :=
  ⟨by decide +kernel,
    by decide +kernel,
    by decide +kernel,
    by decide +kernel,
    by decide +kernel,
    by decide +kernel,
    by decide +kernel,
    by decide +kernel⟩

theorem met_ElementImageCommands_2 :
    (let c : Fin 16 := 1
      let img : Image := { ver := 1, layout := 9, codeWords := 16384, entry := 0, wcet := 0, expect := 0x00000000#32, claims := [], secs := [], copies := [] }
      let s := State.reset
      let d := c.val
      let s : State := s.setElem d { (s.elem d) with revertible := (true) }
      let s : State := (s.setElem d { s.elem d with active := some { img0 with layout := 9 }, other := some { img0 with layout := 9 } }).putBit (Reg.CORE_STAT d) 1 false
      let e := s.elem d
      let off (i : Nat) : Prop := s.cstat d i = false
    (e.other = some img) ∧ (e.revertible = true) ∧ (off csACT) ∧ (s.liveOk d = true) ∧ (s.claimRefusal (0x10 + d) img.claims = none)) ∧
    (let c : Fin 16 := 1
      let s := State.reset
      let d := c.val
      let e := s.elem d
      let on (i : Nat) : Prop := s.cstat d i = true
      let i : Instr := (.coreRevert c)
    (e.other = none ∨ e.revertible = false ∨ on csACT ∨ s.liveOk d = false)) ∧
    (let v : Word := 0x000012c0#32
      let s := State.reset
    (4799 < field v 12 0)) ∧
    (let v : Word := 0x00000000#32
      let s := State.reset
    (field v 12 0 ≤ 4799)) :=
  ⟨by decide +kernel,
    by decide +kernel,
    by decide +kernel,
    by decide +kernel⟩

theorem met_ElementCoreRunStopAndPorts :
    (let c : Fin 16 := 1
      let s := State.reset
      let d := c.val
      let s : State := s.putBit (Reg.CORE_STAT d) csLOADED (true)
    (s.cstat d csLOADED = true)) ∧
    (let c : Fin 16 := 1
      let s := State.reset
      let d := c.val
    (s.cstat d csLOADED = false)) ∧
    (let c : Fin 16 := 1
      let s := State.reset
      let d := c.val
      let s : State := (s.tickMod (fun u => { u with running := (true) })).setPhase d .idle
      let s : State := s.setElem d { (s.elem d) with stopReq := (true) }
      let e := s.elem d
    (s.atTickStart d = true) ∧ (e.stopReq = true)) ∧
    (let c : Fin 16 := 1
      let s := State.reset
      let d := c.val
      let s : State := (s.tickMod (fun u => { u with running := (true) })).setPhase d .idle
      let s : State := s.setElem d { (s.elem d) with startReq := (true) }
      let e := s.elem d
    (s.atTickStart d = true) ∧ (e.startReq = true)) ∧
    (let c : Fin 16 := 1
      let r : Req := Req.sup0
      let s := State.reset
      let s : State := { s with hbiReady := (true), power := { s.power with off := false, cause := if (true) then 0 else 1 } }
      let d := c.val
    (s.coreStopped d = true) ∧ (s.served r = true)) ∧
    (let c : Fin 16 := 1
      let r : Req := Req.sup0
      let s := State.reset
      let d := c.val
      let s : State := s.putBit (Reg.CORE_STAT d) 1 (false)
      let s : State := { s with hbiReady := (true), power := { s.power with off := false, cause := if (true) then 0 else 1 } }
    (s.coreStopped d = false) ∧ (s.served r = true)) :=
  ⟨by decide +kernel,
    by decide +kernel,
    by decide +kernel,
    by decide +kernel,
    by decide +kernel,
    by decide +kernel⟩

theorem met_DetectorsAndCoincidence_1 :
    (let c : Fin 16 := 1
      let s := State.reset
      let d := c.val
    (s.clPhase d ≠ .entry)) ∧
    (let c : Fin 16 := 1
      let s := State.reset
      let d := c.val
      let s : State := s.setPhase d (.entry)
      let s : State := s.putBit (Reg.IFD_STAT d) 0 (true)
    (s.clPhase d = .entry) ∧ (s.ifdOut d = true) ∧ (s.ifdLeft d = none)) ∧
    (let c : Fin 16 := 1
      let s := State.reset
      let d := c.val
      let s : State := s.setPhase d (.entry)
      let s : State := s.putBit (Reg.IFD_STAT d) 10 (true)
      let s : State := s.put (Reg.CD_CFG d) 31 24 (0)
      let x := s.det d
    (s.clPhase d = .entry) ∧ (s.cdOut d = true) ∧ (s.fld (Reg.CD_CFG d) 31 24 ≤ x.below)) ∧
    (let v : Word := 0x0000a5c3#32
      let s := State.reset
    (field v 15 0 = 0xA5C3)) ∧
    (let c : Fin 16 := 1
      let v : Word := 0x00003c5a#32
      let s := State.reset
      let d := c.val
      let s : State := s.setDet d { (s.det d) with key := (true) }
      let x := s.det d
    (field v 15 0 = 0x3C5A) ∧ (x.key = true)) ∧
    (let c : Fin 16 := 1
      let v : Word := 0x00000001#32
      let s := State.reset
      let d := c.val
      let x := s.det d
    (field v 15 0 ≠ 0xA5C3) ∧ (field v 15 0 ≠ 0) ∧ (¬ (field v 15 0 = 0x3C5A ∧ x.key = true))) ∧
    (let c : Fin 16 := 1
      let s := State.reset
      let d := c.val
    (s.ifdLocked d = true ∨ s.ifdStopped d = false)) ∧
    (let c : Fin 16 := 1
      let v : Word := 0x00000000#32
      let k : Fin 7 := 6
      let s := State.reset
      let d := c.val
      let s : State := s.putBit (Reg.IFD_CTRL d) 1 (false)
      let s : State := s.putBit (Reg.IFD_CTRL d) 2 (true)
    (s.ifdLocked d = false) ∧ (s.ifdStopped d = true) ∧ ((k.val = 5 ∧ 9600 < field v 13 0) ∨ (k.val = 6 ∧ field v 31 24 = 0))) :=
  ⟨by decide +kernel,
    by decide +kernel,
    by decide +kernel,
    by decide +kernel,
    by decide +kernel,
    by decide +kernel,
    by decide +kernel,
    by decide +kernel⟩

theorem met_DetectorsAndCoincidence_2 :
    (let c : Fin 16 := 2
      let v : Word := 0x01000000#32
      let k : Fin 7 := 6
      let s := State.reset
      let d := c.val
      let s : State := s.putBit (Reg.IFD_CTRL d) 1 (false)
      let s : State := s.putBit (Reg.IFD_CTRL d) 2 (true)
    (s.ifdLocked d = false) ∧ (s.ifdStopped d = true) ∧ (¬ ((k.val = 5 ∧ 9600 < field v 13 0) ∨ (k.val = 6 ∧ field v 31 24 = 0)))) ∧
    (let c : Fin 16 := 1
      let v : Word := 0x00000000#32
      let s := State.reset
      let d := c.val
      let s : State := s.putBit (Reg.IFD_CTRL d) 1 (false)
      let s : State := s.putBit (Reg.IFD_CTRL d) 2 (true)
    (s.ifdLocked d = false) ∧ (s.ifdStopped d = true) ∧ (roleClash v = true)) ∧
    (let c : Fin 16 := 1
      let v : Word := 0x88888888#32
      let s := State.reset
      let d := c.val
      let s : State := s.putBit (Reg.IFD_CTRL d) 1 (false)
      let s : State := s.putBit (Reg.IFD_CTRL d) 2 (true)
    (s.ifdLocked d = false) ∧ (s.ifdStopped d = true) ∧ (roleClash v = false)) ∧
    (let c : Fin 16 := 1
      let s := State.reset
      let d := c.val
    (s.ifdLocked d = true)) ∧
    (let c : Fin 16 := 1
      let s := State.reset
      let d := c.val
      let s : State := s.setDet d { (s.det d) with stopReq := (true) }
      let x := s.det d
    (x.stopReq = true)) ∧
    (let c : Fin 16 := 1
      let s := State.reset
      let d := c.val
      let s : State := s.setDet d { (s.det d) with startReq := (true) }
      let x := s.det d
    (x.startReq = true)) ∧
    (let c : Fin 16 := 1
      let light : Bool := false
      let a : Nat := 590848
      let s := State.reset
      let d := c.val
      let s : State := s.setDet d { s.det d with lightFall := some a, gFall := some a }
      let x := s.det d
    ((if light then x.lightFall else x.gFall) = some a) ∧ (s.tb.cnt ≤ a + s.fld (Reg.AF_CFG d) 10 0 * 250)) ∧
    (let c : Fin 16 := 1
      let light : Bool := false
      let s := State.reset
      let d := c.val
      let x := s.det d
    ((if light then x.lightFall else x.gFall) = none)) :=
  ⟨by decide +kernel,
    by decide +kernel,
    by decide +kernel,
    by decide +kernel,
    by decide +kernel,
    by decide +kernel,
    by decide +kernel,
    by decide +kernel⟩

theorem met_DetectorsAndCoincidence_3 :
    (let v : Word := 0x802f0000#32
      let s := State.reset
    (bitAt v 31 = true) ∧ (field v 21 16 ≤ 47) ∧ (s.owner (fioRes (field v 21 16)) ≠ 3)) ∧
    (let v : Word := 0x00300000#32
      let s := State.reset
    (47 < field v 21 16)) ∧
    (let v : Word := 0x002f07d0#32
      let s := State.reset
    (bitAt v 31 = false ∨ s.owner (fioRes (field v 21 16)) = 3) ∧ (field v 21 16 ≤ 47) ∧ (field v 10 0 ≤ 2000)) ∧
    (let k : Fin 4 := 2
      let v : Word := 0x40800000#32
      let s := State.reset
      let crvOk := if k.val = 0 then decide (field v 3 0 ≠ 7) && decide (field v 5 4 ≠ 3) else if k.val = 1 then wordIn 0x3C23D70A 0x41A00000 v else if k.val = 2 then wordIn 0x3F866666 0x40800000 v else wordIn 0x3F000000 0x3F800000 v
    (crvOk = true)) ∧
    (let k : Fin 4 := 3
      let v : Word := 0x00000000#32
      let s := State.reset
      let crvOk := if k.val = 0 then decide (field v 3 0 ≠ 7) && decide (field v 5 4 ≠ 3) else if k.val = 1 then wordIn 0x3C23D70A 0x41A00000 v else if k.val = 2 then wordIn 0x3F866666 0x40800000 v else wordIn 0x3F000000 0x3F800000 v
    (crvOk = false)) ∧
    (let c : Fin 16 := 1
      let tb : Fin 8 := 7
      let v : Word := 0x7f800000#32
      let s := State.reset
      let d := c.val
    (s.tblUsed d tb.val = false) ∧ (wordIn 0x00800000 0x7F800000 v = true)) ∧
    (let c : Fin 16 := 1
      let tb : Fin 8 := 7
      let v : Word := 0x00000000#32
      let s := State.reset
      let d := c.val
    (s.tblUsed d tb.val = false) ∧ (wordIn 0x00800000 0x7F800000 v = false)) ∧
    (let c : Fin 16 := 1
      let tb : Fin 8 := 7
      let s := State.reset
      let d := c.val
      let s : State := s.wr (Reg.CRV_MODE d 31) (w32 (8 + tb.val))
    (s.tblUsed d tb.val = true)) :=
  ⟨by decide +kernel,
    by decide +kernel,
    by decide +kernel,
    by decide +kernel,
    by decide +kernel,
    by decide +kernel,
    by decide +kernel,
    by decide +kernel⟩

theorem met_DetectorsAndCoincidence_4 :
    (let off : BitVec 20 := 0x0bf7f#20
      let s := State.reset
      let at_ := off.toNat / 4 * 4
    (at_ < 0x80000 ∨ 0x92000 ≤ at_)) ∧
    (let off : BitVec 20 := 0x8002c#20
      let m : Fin 7 := 6
      let s := State.reset
      let at_ := off.toNat / 4 * 4
    (at_ = (if m.val = 6 then 0x8002C else 0x80008 + 4 * m.val))) ∧
    (let off : BitVec 20 := 0x80004#20
      let s := State.reset
      let at_ := off.toNat / 4 * 4
    (at_ = 0x80004)) ∧
    (let off : BitVec 20 := 0x80028#20
      let s := State.reset
      let at_ := off.toNat / 4 * 4
    (at_ = 0x80028)) ∧
    (let off : BitVec 20 := 0x80124#20
      let s := State.reset
      let at_ := off.toNat / 4 * 4
    (at_ = 0x80124)) ∧
    (let n : Fin 32 := 8
      let k : Fin 4 := 3
      let off : BitVec 20 := 0x9008c#20
      let s := State.reset
      let at_ := off.toNat / 4 * 4
    (at_ = 0x90000 + 0x10 * n.val + 4 * k.val)) ∧
    (let tb : Fin 8 := 7
      let w : Fin 65 := 64
      let off : BitVec 20 := 0x90c1c#20
      let s := State.reset
      let at_ := off.toNat / 4 * 4
    (at_ = 0x90400 + 0x104 * tb.val + 4 * w.val)) ∧
    (let off : BitVec 20 := 0x91000#20
      let v : Word := 0x7f800000#32
      let s := State.reset
      let at_ := off.toNat / 4 * 4
    (0x91000 ≤ at_) ∧ (at_ < 0x91600) ∧ (primOk at_ v = false)) :=
  ⟨by decide +kernel,
    by decide +kernel,
    by decide +kernel,
    by decide +kernel,
    by decide +kernel,
    by decide +kernel,
    by decide +kernel,
    by decide +kernel⟩

theorem met_DetectorsAndCoincidence_5 :
    (let off : BitVec 20 := 0x915fc#20
      let v : Word := 0x00000000#32
      let s := State.reset
      let at_ := off.toNat / 4 * 4
    ((0x91000 ≤ at_ ∧ at_ < 0x91600 ∧ primOk at_ v = true) ∨ (0x80100 ≤ at_ ∧ at_ < 0x80120))) ∧
    (let s := State.reset
    (Memory.wf s = true)) :=
  ⟨by decide +kernel,
    by decide +kernel⟩

theorem met_TripLines_1 :
    (let n : Fin 64 := 1
      let s := State.reset
      let k := n.val
      let s : State := s.put (Reg.TL_STAT k) 31 29 (3)
      let now := (s.line k).grantAt
    (0x4000 + n.val ∉ s.ended) ∧ (s.tlState k = 3) ∧ (s.fld (Reg.TL_PULSE k) 31 30 = 0) ∧ (s.tlActive k = none) ∧ (s.tlOpen k = false) ∧ (s.tb.cnt ≤ now + s.tlMin k)) ∧
    (let n : Fin 64 := 1
      let s := State.reset
      let k := n.val
    (0x4000 + n.val ∉ s.ended) ∧ (s.tlState k ≠ 3)) ∧
    (let n : Fin 64 := 1
      let s := State.reset
      let k := n.val
      let s : State := s.put (Reg.TL_STAT k) 31 29 (3)
      let now := (s.line k).grantAt
    (0x4000 + n.val ∉ s.ended) ∧ (s.tlState k = 3) ∧ (s.tb.cnt ≤ now + tlMax)) ∧
    (let n : Fin 64 := 1
      let s := State.reset
      let k := n.val
      let s : State := s.put (Reg.TL_STAT k) 28 27 (1)
      let s : State := s.put (Reg.TL_STAT k) 12 0 ((s.fld (Reg.TL_BF k) 12 0))
    (0x4000 + n.val ∉ s.ended) ∧ (s.bfState k = 1) ∧ (s.fld (Reg.TL_BF k) 12 0 ≤ s.fld (Reg.TL_STAT k) 12 0)) ∧
    (let n : Fin 64 := 1
      let s := State.reset
      let k := n.val
    (0x4000 + n.val ∉ s.ended) ∧ (s.bfState k ≠ 1 ∨ s.fld (Reg.TL_STAT k) 12 0 < s.fld (Reg.TL_BF k) 12 0)) ∧
    (let r : Req := Req.sup1
      let n : Fin 64 := 63
      let s := State.reset
      let s : State := { s with hbiReady := (true), power := { s.power with off := false, cause := if (true) then 0 else 1 } }
      let k := n.val
    (s.tlMay r k = false) ∧ (s.served r = true)) ∧
    (let r : Req := Req.sup1
      let n : Fin 64 := 63
      let j : Fin 9 := 5
      let v : Word := 0x000003e9#32
      let s := State.reset
      let s : State := { s with hbiReady := (true), power := { s.power with off := false, cause := if (true) then 0 else 1 } }
      let k := n.val
    (s.tlRunning k = true ∨ tlRangeBad j.val v = true) ∧ (s.served r = true)) ∧
    (let r : Req := Req.sup1
      let n : Fin 64 := 63
      let j : Fin 9 := 4
      let v : Word := 0x20001000#32
      let s := State.reset
      let s : State := { s with hbiReady := (true), power := { s.power with off := false, cause := if (true) then 0 else 1 } }
      let k := n.val
      let stat := Reg.TL_STAT k
    (j.val = 4) ∧ (s.bit stat 26 = false) ∧ (field v 31 30 = 2 ∨ bitAt v 29 = true) ∧ (s.served r = true)) :=
  ⟨by decide +kernel,
    by decide +kernel,
    by decide +kernel,
    by decide +kernel,
    by decide +kernel,
    by decide +kernel,
    by decide +kernel,
    by decide +kernel⟩

theorem met_TripLines_2 :
    (let r : Req := Req.sup1
      let n : Fin 64 := 63
      let j : Fin 9 := 8
      let v : Word := 0x4b0012c0#32
      let s := State.reset
      let k := n.val
      let s : State := s.setClaim (0x4000 + k) { owner := Req.code r, tag := 0 }
      let s : State := { s with hbiReady := (true), power := { s.power with off := false, cause := if (true) then 0 else 1 } }
      let stat := Reg.TL_STAT k
    (s.tlMay r k = true) ∧ (s.tlRunning k = false) ∧ (tlRangeBad j.val v = false) ∧ (¬ (j.val = 4 ∧ s.bit stat 26 = false ∧ (field v 31 30 = 2 ∨ bitAt v 29 = true))) ∧ (s.served r = true)) ∧
    (let r : Req := Req.sup1
      let v : Word := 0x00001000#32
      let s := State.reset
      let s : State := { s with hbiReady := (true), power := { s.power with off := false, cause := if (true) then 0 else 1 } }
      let m := field v 21 16
    (s.tlMay r m = false) ∧ (s.served r = true)) ∧
    (let r : Req := Req.sup1
      let v : Word := 0x000096e1#32
      let s := State.reset
      let m := field v 21 16
      let s : State := s.setClaim (0x4000 + m) { owner := Req.code r, tag := 0 }
      let s : State := { s with hbiReady := (true), power := { s.power with off := false, cause := if (true) then 0 else 1 } }
    (s.tlMay r m = true) ∧ (field v 15 0 = 0x96E1) ∧ (s.served r = true)) ∧
    (let r : Req := Req.sup1
      let v : Word := 0x00001e69#32
      let s := State.reset
      let m := field v 21 16
      let s : State := s.setClaim (0x4000 + m) { owner := Req.code r, tag := 0 }
      let s : State := { s with tripKey := (some m) }
      let s : State := { s with hbiReady := (true), power := { s.power with off := false, cause := if (true) then 0 else 1 } }
    (s.tlMay r m = true) ∧ (field v 15 0 = 0x1E69) ∧ (s.tripKey = some m) ∧ (s.served r = true)) ∧
    (let r : Req := Req.sup1
      let v : Word := 0x00000001#32
      let s := State.reset
      let m := field v 21 16
      let s : State := s.setClaim (0x4000 + m) { owner := Req.code r, tag := 0 }
      let s : State := { s with hbiReady := (true), power := { s.power with off := false, cause := if (true) then 0 else 1 } }
    (s.tlMay r m = true) ∧ (field v 15 0 ≠ 0x96E1) ∧ (field v 15 0 ≠ 0) ∧ (¬ (field v 15 0 = 0x1E69 ∧ s.tripKey = some m)) ∧ (s.served r = true)) ∧
    (let r : Req := Req.sup1
      let n : Fin 64 := 63
      let reason : Nat := 1
      let res : Nat := 0
      let s := State.reset
      let k := n.val
      let s : State := s.setClaim (0x4000 + k) { owner := Req.code r, tag := 0 }
      let s : State := s.put (Reg.TL_GUARD k) 31 30 3
      let s : State := { s with hbiReady := (true), power := { s.power with off := false, cause := if (true) then 0 else 1 } }
    (s.tlMay r k = true) ∧ (s.tlRunning k = false) ∧ (s.tlStartFail k = some (reason, res)) ∧ (s.served r = true)) ∧
    (let r : Req := Req.sup1
      let n : Fin 64 := 63
      let s := State.reset
      let k := n.val
      let s : State := s.setClaim (0x4000 + k) { owner := Req.code r, tag := 0 }
      let s : State := { s with hbiReady := (true), power := { s.power with off := false, cause := if (true) then 0 else 1 } }
    (s.tlMay r k = true) ∧ (s.tlRunning k = false) ∧ (s.tlStartFail k = none) ∧ (0x4000 + n.val ∉ s.ended) ∧ (s.served r = true)) ∧
    (let r : Req := Req.sup1
      let n : Fin 64 := 63
      let s := State.reset
      let k := n.val
      let s : State := s.setClaim (0x4000 + k) { owner := Req.code r, tag := 0 }
      let s : State := s.put (Reg.TL_STAT k) 31 29 (1)
      let s : State := { s with hbiReady := (true), power := { s.power with off := false, cause := if (true) then 0 else 1 } }
    (s.tlMay r k = true) ∧ (s.tlState k = 1) ∧ (s.bfState k = 0) ∧ (0x4000 + n.val ∉ s.ended) ∧ (s.served r = true)) :=
  ⟨by decide +kernel,
    by decide +kernel,
    by decide +kernel,
    by decide +kernel,
    by decide +kernel,
    by decide +kernel,
    by decide +kernel,
    by decide +kernel⟩

theorem met_TripLines_3 :
    (let r : Req := Req.host
      let n : Fin 64 := 63
      let s := State.reset
      let k := n.val
      let s : State := s.setClaim (0x4000 + k) { owner := Req.code r, tag := 0 }
      let s : State := s.put (Reg.TL_STAT k) 31 29 (if (true) then 1 else 0)
      let s : State := s.put (Reg.TL_STAT k) 28 27 (0 + 1)
      let s : State := { s with hbiReady := (true), power := { s.power with off := false, cause := if (true) then 0 else 1 } }
    (s.tlMay r k = true) ∧ (s.tlRunning k = true) ∧ (s.tlState k ≠ 1 ∨ s.bfState k ≠ 0) ∧ (s.served r = true)) := by decide +kernel

theorem met_LatheTurns_1 :
    (let i : LImage := limg0
      let s := State.reset
      let s : State := { s with lathe := { s.lathe with imgs := SMap.set (fun _ => none) s.lathe.imgs s.lthHalf (some i) } }
      let s : State := { (((s.put Reg.LTH_STAT 31 30 1).put Reg.PWR_STAT 15 13 0).put Reg.LTH_CFG 31 30 0) with tick := { s.tick with running := true }, lathe := { s.lathe with nextRun := 0 } }
      let l := s.lathe
    (s.lthImg s.lthHalf = some i) ∧ (s.turnDue i.turnP = true) ∧ (l.skip = false)) ∧
    (let i : LImage := limg0
      let s := State.reset
      let s : State := { s with lathe := { s.lathe with imgs := SMap.set (fun _ => none) s.lathe.imgs s.lthHalf (some i) } }
      let s : State := { (((s.put Reg.LTH_STAT 31 30 1).put Reg.PWR_STAT 15 13 0).put Reg.LTH_CFG 31 30 0) with tick := { s.tick with running := true }, lathe := { s.lathe with nextRun := 0 } }
      let s : State := { s with lathe := { s.lathe with skip := (true) } }
      let l := s.lathe
    (s.lthImg s.lthHalf = some i) ∧ (s.turnDue i.turnP = true) ∧ (l.skip = true)) ∧
    (let i : LImage := limg0
      let s := State.reset
      let s : State := { s with lathe := { s.lathe with imgs := SMap.set (fun _ => none) s.lathe.imgs s.lthHalf (some i) } }
    (s.lthImg s.lthHalf = some i) ∧ (s.turnDue i.turnP = false)) ∧
    (let i : LImage := limg0
      let s := State.reset
      let s : State := { s with lathe := { s.lathe with imgs := SMap.set (fun _ => none) s.lathe.imgs s.lthHalf (some i) } }
      let s : State := { s with lathe := { s.lathe with phase := (.latched) } }
      let l := s.lathe
    (s.lthImg s.lthHalf = some i) ∧ (l.phase = .latched)) ∧
    (let i : LImage := limg0
      let s := State.reset
      let s : State := { s with lathe := { s.lathe with imgs := SMap.set (fun _ => none) s.lathe.imgs s.lthHalf (some i) } }
      let s : State := { s with lathe := { s.lathe with phase := (.program) } }
      let s : State := s.setCore 18 { (s.core 18) with run := (.ended) }
      let l := s.lathe
      let k := s.core 18
    (s.lthImg s.lthHalf = some i) ∧ (l.phase = .program) ∧ (k.run = .ended)) ∧
    (let i : LImage := limg0
      let s := State.reset
      let s : State := { s with lathe := { s.lathe with imgs := SMap.set (fun _ => none) s.lathe.imgs s.lthHalf (some i) } }
      let s : State := { s with lathe := { s.lathe with phase := (.latched) } }
      let l := s.lathe
      let k := s.core 18
      let n := s.fld Reg.LTH_STAT 27 26
    (s.lthImg s.lthHalf = some i) ∧ (l.phase = .latched ∨ (l.phase = .program ∧ k.run ≠ .ended)) ∧ (n < 2)) ∧
    (let i : LImage := limg0
      let s := State.reset
      let s : State := { s with lathe := { s.lathe with imgs := SMap.set (fun _ => none) s.lathe.imgs s.lthHalf (some i) } }
      let s : State := { s with lathe := { s.lathe with phase := (.latched) } }
      let s : State := s.put Reg.LTH_STAT 27 26 (2)
      let l := s.lathe
      let k := s.core 18
      let n := s.fld Reg.LTH_STAT 27 26
    (s.lthImg s.lthHalf = some i) ∧ (l.phase = .latched ∨ (l.phase = .program ∧ k.run ≠ .ended)) ∧ (n = 2)) ∧
    (let i : LImage := limg0
      let s := State.reset
      let s : State := { s with lathe := { s.lathe with imgs := SMap.set (fun _ => none) s.lathe.imgs s.lthHalf (some i) } }
      let s : State := { s with lathe := { s.lathe with phase := (.skipped) } }
      let l := s.lathe
    (s.lthImg s.lthHalf = some i) ∧ (l.phase = .skipped)) :=
  ⟨by decide +kernel,
    by decide +kernel,
    by decide +kernel,
    by decide +kernel,
    by decide +kernel,
    by decide +kernel,
    by decide +kernel,
    by decide +kernel⟩

theorem met_LatheTurns_2 :
    (let i : LImage := limg0
      let s := State.reset
      let s : State := { s with lathe := { s.lathe with imgs := SMap.set (fun _ => none) s.lathe.imgs s.lthHalf (some i) } }
      let s : State := s.put Reg.LTH_STAT 31 30 (if (true) then 1 else 0)
    (s.lthImg s.lthHalf = some i) ∧ (s.lthRunning = true)) ∧
    (let i : LImage := limg0
      let s := State.reset
      let s : State := { s with lathe := { s.lathe with imgs := SMap.set (fun _ => none) s.lathe.imgs s.lthHalf (some i) } }
    (s.lthImg s.lthHalf = some i) ∧ (s.lthRunning = false)) :=
  ⟨by decide +kernel,
    by decide +kernel⟩

theorem met_LatheImagesAndStarts_1 :
    (let s := State.reset
      let s : State := s.putBit Reg.LTH_RCK (3) (true)
      let rck (n : Nat) (b : Bool) : Prop := s.bit Reg.LTH_RCK n = b
    (rck 0 true ∨ rck 3 true)) ∧
    (let s := State.reset
      let rck (n : Nat) (b : Bool) : Prop := s.bit Reg.LTH_RCK n = b
    (rck 0 false) ∧ (rck 3 false)) ∧
    (let s := State.reset
      let s : State := { s with lathe := { s.lathe with loading := (true) } }
      let l := s.lathe
    (l.loading = true)) ∧
    (let i : LImage := limg0
      let s := State.reset
      let h := s.lthHalf
      let s : State := { s with lathe := { s.lathe with imgs := SMap.set (fun _ => none) s.lathe.imgs (1 - h) (some i) } }
      let s : State := s.putBit Reg.LTH_RCK (1) (true)
      let s : State := s.put Reg.LTH_STAT 31 30 (if (true) then 1 else 0)
      let h := s.lthHalf
      let rck (n : Nat) (b : Bool) : Prop := s.bit Reg.LTH_RCK n = b
    (s.lthImg (1 - h) = some i) ∧ (rck 1 true) ∧ (s.lthRunning = true) ∧ (rck 4 false) ∧ (s.fld Reg.LTH_CFG 31 30 ≠ 1 ∨ 4800 % i.turnP = 0)) ∧
    (let s := State.reset
      let h := s.lthHalf
      let rck (n : Nat) (b : Bool) : Prop := s.bit Reg.LTH_RCK n = b
    (s.lthImg (1 - h) = none ∨ rck 1 false ∨ s.lthRunning = false ∨ rck 4 true)) ∧
    (let s := State.reset
      let s : State := s.putBit Reg.LTH_RCK (3) (true)
      let rck (n : Nat) (b : Bool) : Prop := s.bit Reg.LTH_RCK n = b
    (rck 3 true)) ∧
    (let s := State.reset
      let s : State := s.putBit Reg.LTH_RCK (2) (true)
      let s : State := s.put Reg.LTH_RCK 31 22 (0 + 1)
      let s : State := s.put Reg.LTH_STAT 31 30 (if (true) then 1 else 0)
      let rck (n : Nat) (b : Bool) : Prop := s.bit Reg.LTH_RCK n = b
    (rck 2 true) ∧ (s.fld Reg.LTH_RCK 31 22 ≠ 0) ∧ (s.lthRunning = true)) ∧
    (let s := State.reset
      let rck (n : Nat) (b : Bool) : Prop := s.bit Reg.LTH_RCK n = b
    (rck 2 false ∨ s.fld Reg.LTH_RCK 31 22 = 0 ∨ s.lthRunning = false)) :=
  ⟨by decide +kernel,
    by decide +kernel,
    by decide +kernel,
    by decide +kernel,
    by decide +kernel,
    by decide +kernel,
    by decide +kernel,
    by decide +kernel⟩

theorem met_LatheImagesAndStarts_2 :
    (let s := State.reset
      let s : State := s.putBit Reg.LTH_RCK (2) (true)
      let rck (n : Nat) (b : Bool) : Prop := s.bit Reg.LTH_RCK n = b
    (rck 2 true) ∧ (rck 4 false) ∧ (s.fld Reg.LTH_RCK 31 22 = 0)) ∧
    (let s := State.reset
      let rck (n : Nat) (b : Bool) : Prop := s.bit Reg.LTH_RCK n = b
    (rck 2 false ∨ rck 4 true ∨ s.fld Reg.LTH_RCK 31 22 ≠ 0)) ∧
    (let s := State.reset
      let h := s.lthHalf
      let rck (n : Nat) (b : Bool) : Prop := s.bit Reg.LTH_RCK n = b
    (s.lthRunning = false) ∧ (rck 1 false) ∧ (s.lthImg h = none)) ∧
    (let i : LImage := { limg0 with pages := 2, digest := List.replicate 16 0 }
      let c : Nat := 0
      let s := State.reset
      let s : State := { retState s i with lathe := { s.lathe with imgs := SMap.set (fun _ => none) s.lathe.imgs s.lthHalf (some i) } }
      let h := s.lthHalf
      let rck (n : Nat) (b : Bool) : Prop := s.bit Reg.LTH_RCK n = b
    (s.lthRunning = false) ∧ (rck 1 false) ∧ (s.lthImg h = some i) ∧ (s.fld Reg.LTH_CFG 31 30 ≠ 1 ∨ 4800 % i.turnP = 0) ∧ (s.warmCopy i = some c) ∧ (s.fld Reg.LTH_CTRL 31 30 ≠ 2)) ∧
    (let i : LImage := limg0
      let s := State.reset
      let h := s.lthHalf
      let s : State := { s with lathe := { s.lathe with imgs := SMap.set (fun _ => none) s.lathe.imgs h (some i) } }
      let h := s.lthHalf
      let rck (n : Nat) (b : Bool) : Prop := s.bit Reg.LTH_RCK n = b
    (s.lthRunning = false) ∧ (rck 1 false) ∧ (s.lthImg h = some i) ∧ (s.fld Reg.LTH_CFG 31 30 ≠ 1 ∨ 4800 % i.turnP = 0) ∧ (s.warmCopy i = none) ∧ (s.fld Reg.LTH_CTRL 31 30 ≠ 1)) ∧
    (let i : LImage := limg0
      let s := State.reset
      let h := s.lthHalf
      let s : State := { s with lathe := { s.lathe with imgs := SMap.set (fun _ => none) s.lathe.imgs h (some i) } }
      let s : State := s.put Reg.LTH_CTRL 31 30 (1)
      let h := s.lthHalf
      let rck (n : Nat) (b : Bool) : Prop := s.bit Reg.LTH_RCK n = b
    (s.lthRunning = false) ∧ (rck 1 false) ∧ (s.lthImg h = some i) ∧ (s.fld Reg.LTH_CFG 31 30 ≠ 1 ∨ 4800 % i.turnP = 0) ∧ (s.warmCopy i = none) ∧ (s.fld Reg.LTH_CTRL 31 30 = 1)) :=
  ⟨by decide +kernel,
    by decide +kernel,
    by decide +kernel,
    by decide +kernel,
    by decide +kernel,
    by decide +kernel⟩

theorem met_LatheFlushMeteringAndConfiguration :
    (let f : Flush := { copy := 0, half := 0, ret := 70, digest := [0xf1#8, 0x00#8, 0x33#8, 0x03#8, 0x29#8, 0x00#8, 0x00#8, 0xe6#8, 0xab#8, 0x00#8, 0x04#8, 0x6b#8, 0x00#8, 0x5a#8, 0x00#8, 0x04#8, 0xa4#8, 0xf7#8, 0x00#8, 0xba#8, 0xbd#8, 0x1b#8, 0x00#8, 0xd5#8, 0x55#8, 0xf8#8, 0x00#8, 0x00#8, 0x08#8, 0xff#8, 0xd0#8, 0x00#8, 0x00#8, 0x7b#8, 0x6e#8, 0xdf#8, 0x31#8, 0x00#8, 0x00#8, 0x12#8, 0x00#8, 0x1e#8, 0x3e#8, 0x08#8, 0x8b#8, 0x01#8, 0xed#8, 0x01#8, 0x04#8, 0x04#8, 0x00#8, 0x00#8, 0x00#8, 0x00#8, 0x15#8, 0x00#8, 0x32#8, 0x35#8, 0xe1#8, 0xff#8, 0x00#8, 0x02#8, 0x94#8, 0x30#8, 0x08#8, 0x00#8, 0x00#8, 0x00#8, 0x04#8, 0x48#8, 0x6f#8, 0x00#8, 0x00#8, 0xf4#8, 0x00#8, 0x4c#8], turn := 0, seq := 0, sec := 0, epoch := 1, pages := 2 }
      let s := State.reset
      let s : State := { s with lathe := { s.lathe with flush := (some f) } }
      let l := s.lathe
    (l.flush = some f) ∧ (l.waiting = none) ∧ (f.copy < 2)) ∧
    (let f : Flush := { copy := 0, half := 8, ret := 3, digest := [0xa5#8, 0x00#8, 0x51#8, 0x01#8, 0x00#8], turn := 1024, seq := 22, sec := 34, epoch := 2, pages := 76 }
      let w : Flush := { copy := 0, half := 0, ret := 0, digest := [0x54#8, 0x1b#8, 0xe7#8, 0x18#8, 0x4a#8, 0xa0#8, 0x0f#8, 0x23#8], turn := 74, seq := 70, sec := 1, epoch := 12, pages := 23 }
      let s := State.reset
      let s : State := { s with lathe := { s.lathe with flush := (some f) } }
      let s : State := { s with lathe := { s.lathe with waiting := (some w) } }
      let l := s.lathe
    (l.flush = some f) ∧ (l.waiting = some w) ∧ (w.copy = f.copy) ∧ (f.copy < 2)) ∧
    (let sec : Nat := 2
      let x : Nat := 0
      let e : Nat := 70
      let last : Nat := 0
      let s := State.reset
      let s : State := { s with meter := { s.meter with req := (some (sec, x, e, last)) } }
    (s.meter.req = some (sec, x, e, last)) ∧ (last ≤ s.tickNo)) ∧
    (let sec : Nat := 2
      let x : Nat := 0
      let e : Nat := 70
      let last : Nat := 1
      let s := State.reset
      let s : State := { s with meter := { s.meter with req := (some (sec, x, e, last)) } }
    (s.meter.req = some (sec, x, e, last)) ∧ (s.tickNo < last)) ∧
    (let v : Word := 0x9e1bbeea#32
      let s := State.reset
      let own := s.owner (0x2000 + field v 27 24)
    (field v 31 30 = 2) ∧ (own ≠ 0x02)) ∧
    (let v : Word := 0xde1bbeea#32
      let s := State.reset
      let own := s.owner (0x2000 + field v 27 24)
    (field v 31 30 ≠ 2 ∨ own = 0x02)) ∧
    (let v : Word := 0xde1bbeea#32
      let s := State.reset
      let s : State := s.setClaim (0x2000 + field v 27 24) { owner := (0x02), tag := 7 }
      let own := s.owner (0x2000 + field v 27 24)
    (own = 0x02)) ∧
    (let r : Req := Req.sup0
      let s := State.reset
      let s : State := { s with hbiReady := (true), power := { s.power with off := false, cause := if (true) then 0 else 1 } }
    (s.served r = true)) :=
  ⟨by decide +kernel,
    by decide +kernel,
    by decide +kernel,
    by decide +kernel,
    by decide +kernel,
    by decide +kernel,
    by decide +kernel,
    by decide +kernel⟩

theorem met_RecorderRecordsAndCopies_1 :
    (let j : Fin 4 := 1
      let k : TickSnap := { no := 3, sec := 1, idx := 4, epoch := 0, tq := 0, step := false, fio := [0x00000000#32, 0x00000000#32, 0x00000000#32, 0x00000000#32] }
      let seg : Nat := 2
      let s := State.reset
      let s : State := { s with ticks := [k] }
      let i := j.val
      let s : State := s.putBit (Reg.REC_STAT i) 1 (true)
      let s : State := { s with tick := { s.tick with runs := 4 } }
      let s : State := s.setRcu i { (s.rcu i) with ring := (some seg) }
      let u := s.rcu i
    (s.nextSnap u = some k) ∧ (s.recRunning i = true) ∧ (k.no < s.tick.runs) ∧ (u.cur = none) ∧ (u.ring = some seg)) ∧
    (let j : Fin 4 := 3
      let k : TickSnap := { no := 3, sec := 1, idx := 4, epoch := 0, tq := 0, step := false, fio := [0x00000000#32, 0x00000000#32, 0x00000000#32, 0x00000000#32] }
      let x : RecRec := { id := 0, start := 1048576, stop := 2, chain := [14, 256], segOrd := 0, sf := 67108864, retrig := 1, flags := 47, wbWait := [], wbHeld := [(1, 22), (8, 1), (115, 58)], unclosed := false }
      let seg : Nat := 256
      let s := State.reset
      let s : State := { s with ticks := [k] }
      let i := j.val
      let s : State := s.putBit (Reg.REC_STAT i) 1 (true)
      let s : State := { s with tick := { s.tick with runs := 4 } }
      let s : State := s.setRcu i { (s.rcu i) with cur := (some x) }
      let u := s.rcu i
      let full := if x.chain.length = 1 then x.start + x.sf ≤ u.ord else u.segOrd + x.sf ≤ u.ord
    (s.nextSnap u = some k) ∧ (s.recRunning i = true) ∧ (k.no < s.tick.runs) ∧ (u.cur = some x) ∧ (u.ord + 1 < x.stop) ∧ (¬ full) ∧ (x.chain.getLast? = some seg)) ∧
    (let j : Fin 4 := 0
      let k : TickSnap := { no := 3, sec := 1, idx := 4, epoch := 0, tq := 0, step := false, fio := [0x00000000#32, 0x00000000#32, 0x00000000#32, 0x00000000#32] }
      let x : RecRec := { id := 32, start := 1, stop := 2, chain := [], segOrd := 21, sf := 0, retrig := 2, flags := 0, wbWait := [(0, 1), (2, 17), (3, 17), (15, 32)], wbHeld := [(0, 2), (1, 2), (2, 15)], unclosed := true }
      let seg : Nat := 0
      let s := State.reset
      let s : State := { s with ticks := [k] }
      let i := j.val
      let s : State := s.putBit (Reg.REC_STAT i) 1 (true)
      let s : State := { s with tick := { s.tick with runs := 4 } }
      let s : State := s.setRcu i { (s.rcu i) with cur := (some x) }
      let u := s.rcu i
      let full := if x.chain.length = 1 then x.start + x.sf ≤ u.ord else u.segOrd + x.sf ≤ u.ord
      let room := x.chain.length < 8 ∧ 2 ≤ (s.recFree i).length
    (s.nextSnap u = some k) ∧ (s.recRunning i = true) ∧ (k.no < s.tick.runs) ∧ (u.cur = some x) ∧ (u.ord + 1 < x.stop) ∧ (full) ∧ (room) ∧ ((s.recFree i).head? = some seg)) ∧
    (let j : Fin 4 := 3
      let k : TickSnap := { no := 3, sec := 1, idx := 4, epoch := 0, tq := 0, step := false, fio := [0x00000000#32, 0x00000000#32, 0x00000000#32, 0x00000000#32] }
      let x : RecRec := { id := 0, start := 12, stop := 2, chain := [5, 78, 0], segOrd := 15, sf := 0, retrig := 3, flags := 65, wbWait := [(44, 1)], wbHeld := [], unclosed := true }
      let s := State.reset
      let s : State := { s with ticks := [k] }
      let i := j.val
      let s : State := s.putBit (Reg.REC_STAT i) 1 (true)
      let s : State := { s with tick := { s.tick with runs := 4 } }
      let s : State := s.setRcu i { (s.rcu i) with cur := (some x) }
      let u := s.rcu i
      let full := if x.chain.length = 1 then x.start + x.sf ≤ u.ord else u.segOrd + x.sf ≤ u.ord
      let room := x.chain.length < 8 ∧ 2 ≤ (s.recFree i).length
    (s.nextSnap u = some k) ∧ (s.recRunning i = true) ∧ (k.no < s.tick.runs) ∧ (u.cur = some x) ∧ (u.ord + 1 < x.stop) ∧ (full) ∧ (¬ room)) ∧
    (let j : Fin 4 := 3
      let r : Req := Req.sup1
      let x : RecRec := { id := 17, start := 0, stop := 2, chain := [0, 44, 0, 1], segOrd := 0, sf := 65535, retrig := 0, flags := 74, wbWait := [(0, 3), (1, 172), (2, 56), (5, 27), (1048576, 3)], wbHeld := [(54, 17)], unclosed := false }
      let s := State.reset
      let i := j.val
      let s : State := s.setClaim (0x5000 + i) { owner := Req.code r, tag := 0 }
      let s : State := s.putBit (Reg.REC_STAT i) 1 (true)
      let s : State := s.setRcu i { (s.rcu i) with cur := (some x) }
      let s : State := { s with hbiReady := (true), power := { s.power with off := false, cause := if (true) then 0 else 1 } }
      let u := s.rcu i
      let at_ := s.frameAt i (tickOfNs (inNs (s.tb.sec, s.tb.ns))) s.epoch
    (s.mayWrite r (0x5000 + i) = true) ∧ (s.recRunning i = true) ∧ (u.cur = some x) ∧ ((x.start : Int) ≤ at_) ∧ (at_ < x.stop) ∧ (s.served r = true)) ∧
    (let j : Fin 4 := 3
      let r : Req := Req.host
      let x : RecRec := { id := 75, start := 0, stop := 0, chain := [0, 32, 2, 2], segOrd := 0, sf := 256, retrig := 0, flags := 40, wbWait := [(13, 0), (31, 2), (92, 3), (129, 3)], wbHeld := [(0, 0)], unclosed := false }
      let s := State.reset
      let i := j.val
      let s : State := s.setClaim (0x5000 + i) { owner := Req.code r, tag := 0 }
      let s : State := s.putBit (Reg.REC_STAT i) 1 (true)
      let s : State := s.setRcu i { (s.rcu i) with cur := (some x) }
      let s : State := { s with hbiReady := (true), power := { s.power with off := false, cause := if (true) then 0 else 1 } }
      let u := s.rcu i
      let at_ := s.frameAt i (tickOfNs (inNs (s.tb.sec, s.tb.ns))) s.epoch
    (s.mayWrite r (0x5000 + i) = true) ∧ (s.recRunning i = true) ∧ (u.cur = some x) ∧ ((x.stop : Int) ≤ at_) ∧ (s.served r = true)) ∧
    (let j : Fin 4 := 1
      let s := State.reset
      let i := j.val
      let u := s.rcu i
    (s.nextSnap u = none ∨ s.recRunning i = false)) ∧
    (let j : Fin 4 := 1
      let r : Req := Req.sup0
      let s := State.reset
      let s : State := { s with hbiReady := (true), power := { s.power with off := false, cause := if (true) then 0 else 1 } }
      let i := j.val
    (s.mayWrite r (0x5000 + i) = false) ∧ (s.served r = true)) :=
  ⟨by decide +kernel,
    by decide +kernel,
    by decide +kernel,
    by decide +kernel,
    by decide +kernel,
    by decide +kernel,
    by decide +kernel,
    by decide +kernel⟩

theorem met_RecorderRecordsAndCopies_2 :
    (let j : Fin 4 := 1
      let r : Req := Req.sup0
      let s := State.reset
      let i := j.val
      let s : State := s.setClaim (0x5000 + i) { owner := Req.code r, tag := 0 }
      let s : State := { s with hbiReady := (true), power := { s.power with off := false, cause := if (true) then 0 else 1 } }
    (s.mayWrite r (0x5000 + i) = true) ∧ (s.recRunning i = false) ∧ (s.served r = true)) ∧
    (let j : Fin 4 := 0
      let r : Req := Req.sup1
      let seg : Nat := 11
      let s := State.reset
      let i := j.val
      let s : State := s.setClaim (0x5000 + i) { owner := Req.code r, tag := 0 }
      let s : State := s.putBit (Reg.REC_STAT i) 1 (true)
      let s : State := s.setRcu i { (s.rcu i) with ring := (some seg) }
      let s : State := { s with hbiReady := (true), power := { s.power with off := false, cause := if (true) then 0 else 1 } }
      let u := s.rcu i
    (s.mayWrite r (0x5000 + i) = true) ∧ (s.recRunning i = true) ∧ (u.cur = none) ∧ (u.ring = some seg) ∧ (1 + s.recW i ≤ (s.recFree i).length) ∧ (s.served r = true)) ∧
    (let j : Fin 4 := 0
      let r : Req := Req.sup1
      let seg : Nat := 11
      let s := State.reset
      let i := j.val
      let s : State := s.setClaim (0x5000 + i) { owner := Req.code r, tag := 0 }
      let s : State := s.putBit (Reg.REC_STAT i) 1 (true)
      let s : State := s.setRcu i { (s.rcu i) with ring := (some seg) }
      let s : State := s.wr (Reg.REC_PART i) 0
      let s : State := { s with hbiReady := (true), power := { s.power with off := false, cause := if (true) then 0 else 1 } }
      let u := s.rcu i
    (s.mayWrite r (0x5000 + i) = true) ∧ (s.recRunning i = true) ∧ (u.cur = none) ∧ (u.ring = some seg) ∧ ((s.recFree i).length < 1 + s.recW i) ∧ (s.served r = true)) ∧
    (let j : Fin 4 := 3
      let r : Req := Req.sup1
      let h : Nat × List Nat := (0, [3, 4])
      let s := State.reset
      let i := j.val
      let s : State := s.setClaim (0x5000 + i) { owner := Req.code r, tag := 0 }
      let id := (s.rd (Reg.REC_ARG i)).toNat
      let s : State := s.setRcu i { s.rcu i with held := [(id, [3, 4])] }
      let s : State := { s with hbiReady := (true), power := { s.power with off := false, cause := if (true) then 0 else 1 } }
      let u := s.rcu i
      let id := (s.rd (Reg.REC_ARG i)).toNat
    (s.mayWrite r (0x5000 + i) = true) ∧ (u.held.find? (fun x => x.1 = id) = some h) ∧ (s.served r = true)) ∧
    (let j : Fin 4 := 1
      let r : Req := Req.sup0
      let s := State.reset
      let i := j.val
      let s : State := s.setClaim (0x5000 + i) { owner := Req.code r, tag := 0 }
      let s : State := { s with hbiReady := (true), power := { s.power with off := false, cause := if (true) then 0 else 1 } }
      let u := s.rcu i
      let id := (s.rd (Reg.REC_ARG i)).toNat
    (s.mayWrite r (0x5000 + i) = true) ∧ (u.held.find? (fun x => x.1 = id) = none) ∧ (s.served r = true)) ∧
    (let j : Fin 4 := 1
      let x : RecRec := { id := 9, start := 2, stop := 5, chain := [3], segOrd := 0, sf := 100, retrig := 0, flags := 0, wbWait := [], wbHeld := [], unclosed := false }
      let s := State.reset
      let i := j.val
      let s : State := s.setRcu i { s.rcu i with recs := [x] }
      let u := s.rcu i
    (u.recs.find? (fun x => x.wbWait.isEmpty) = some x)) ∧
    (let j : Fin 4 := 1
      let s := State.reset
      let i := j.val
      let u := s.rcu i
    (u.recs.find? (fun x => x.wbWait.isEmpty) = none)) ∧
    (let c : Fin 16 := 15
      let x : Nat × Nat × Nat × Nat := (1, 9, 3, 100)
      let s := State.reset
      let s : State := s.setWbu c.val { s.wbu c.val with copy := some x }
      let s : State := s.setLane (8 * c.val) { (s.lane (8 * c.val)) with wbM := ((x.2.2.2)) }
      let w := s.wbu c.val
    (w.copy = some x) ∧ (w.frozen = false) ∧ (s.isSv c.val = false) ∧ (x.2.2.2 ≤ (s.lane (8 * c.val)).wbM)) :=
  ⟨by decide +kernel,
    by decide +kernel,
    by decide +kernel,
    by decide +kernel,
    by decide +kernel,
    by decide +kernel,
    by decide +kernel,
    by decide +kernel⟩

theorem met_RecorderRecordsAndCopies_3 :
    (let c : Fin 16 := 15
      let s := State.reset
      let w := s.wbu c.val
    (w.copy = none)) ∧
    (let c : Fin 16 := 15
      let k : Nat := 3
      let id : Nat := 70
      let seg : Nat := 40
      let fin : Nat := 72
      let s := State.reset
      let s : State := s.setWbu c.val { s.wbu c.val with copy := some (k, id, seg, fin) }
      let s : State := s.setWbu c.val { (s.wbu c.val) with frozen := (true) }
      let w := s.wbu c.val
    (w.copy = some (k, id, seg, fin)) ∧ (w.frozen = true) ∧ (k < 4)) ∧
    (let j : Fin 4 := 0
      let r : Req := Req.sup1
      let off : Fin 0x300 := 0
      let s := State.reset
      let i := j.val
      let s : State := s.setClaim (0x5000 + i) { owner := Req.code r, tag := 0 }
      let s : State := (((((s.wr (Reg.REC_CH i 0) 1).wr (Reg.REC_PART i) 2).wr (Reg.REC_PRE i) 0).wr (Reg.REC_POST i) 1).wr (Reg.REC_MAXLEN i) 1).wr (Reg.REC_WB i) 0
      let s : State := { s with hbiReady := (true), power := { s.power with off := false, cause := if (true) then 0 else 1 } }
      let u := s.rcu i
      let may := s.mayWrite r (0x5000 + i) = true
    (may) ∧ (s.recRunning i = false) ∧ (s.recScanning i = false) ∧ (u.stopReq = false) ∧ (s.recCheck i = 0) ∧ (s.served r = true)) ∧
    (let j : Fin 4 := 1
      let r : Req := Req.sup0
      let off : Fin 0x300 := 0
      let s := State.reset
      let i := j.val
      let s : State := s.setClaim (0x5000 + i) { owner := Req.code r, tag := 0 }
      let s : State := { s with hbiReady := (true), power := { s.power with off := false, cause := if (true) then 0 else 1 } }
      let may := s.mayWrite r (0x5000 + i) = true
    (may) ∧ (s.recRunning i = false) ∧ (s.recScanning i = false) ∧ (s.recCheck i ≠ 0) ∧ (s.served r = true)) ∧
    (let j : Fin 4 := 1
      let r : Req := Req.sup0
      let off : Fin 0x300 := 0
      let s := State.reset
      let i := j.val
      let s : State := s.setClaim (0x5000 + i) { owner := Req.code r, tag := 0 }
      let s : State := s.putBit (Reg.REC_STAT i) 2 (true)
      let s : State := { s with hbiReady := (true), power := { s.power with off := false, cause := if (true) then 0 else 1 } }
      let u := s.rcu i
      let may := s.mayWrite r (0x5000 + i) = true
    (may) ∧ (s.recRunning i = true ∨ s.recScanning i = true) ∧ (u.stopReq = false) ∧ (s.served r = true)) ∧
    (let j : Fin 4 := 0
      let r : Req := Req.sup0
      let off : Fin 0x300 := 0
      let s := State.reset
      let i := j.val
      let s : State := s.setClaim (0x5000 + i) { owner := Req.code r, tag := 0 }
      let s : State := s.putBit (Reg.REC_STAT i) 1 (true)
      let s : State := s.setRcu i { (s.rcu i) with stopReq := (true) }
      let s : State := (((((s.wr (Reg.REC_CH i 0) 1).wr (Reg.REC_PART i) 2).wr (Reg.REC_PRE i) 0).wr (Reg.REC_POST i) 1).wr (Reg.REC_MAXLEN i) 1).wr (Reg.REC_WB i) 0
      let s : State := { s with hbiReady := (true), power := { s.power with off := false, cause := if (true) then 0 else 1 } }
      let u := s.rcu i
      let may := s.mayWrite r (0x5000 + i) = true
    (may) ∧ (s.recRunning i = true ∨ s.recScanning i = true) ∧ (u.stopReq = true) ∧ (s.recCheck i = 0) ∧ (s.served r = true)) ∧
    (let j : Fin 4 := 1
      let s := State.reset
      let i := j.val
      let s : State := s.putBit (Reg.REC_STAT i) 2 (true)
    (s.recScanning i = true)) ∧
    (let j : Fin 4 := 1
      let s := State.reset
      let i := j.val
      let s : State := s.setRcu i { (s.rcu i) with stopReq := (true) }
      let u := s.rcu i
      let s : State := { s with tick := { s.tick with runs := ((u.stopAt) + 1) } }
      let u := s.rcu i
    (u.stopReq = true) ∧ (u.stopAt < s.tick.runs)) :=
  ⟨by decide +kernel,
    by decide +kernel,
    by decide +kernel,
    by decide +kernel,
    by decide +kernel,
    by decide +kernel,
    by decide +kernel,
    by decide +kernel⟩

theorem met_RecorderRecordsAndCopies_4 :
    (let j : Fin 4 := 1
      let s := State.reset
      let i := j.val
      let u := s.rcu i
    (u.stopReq = false ∨ s.tick.runs ≤ u.stopAt)) ∧
    (let j : Fin 4 := 1
      let r : Req := Req.sup0
      let off : Fin 0x300 := 4
      let v : Word := 0x0000f7f1#32
      let s := State.reset
      let s : State := { s with hbiReady := (true), power := { s.power with off := false, cause := if (true) then 0 else 1 } }
      let i := j.val
      let o := off.val / 4 * 4
    (o ≠ 0) ∧ (o ≠ 0x2C) ∧ (o ≠ 0x44) ∧ (s.mayWrite r (0x5000 + i) = false ∨ s.recAccepts i o v = false) ∧ (s.served r = true)) ∧
    (let j : Fin 4 := 1
      let r : Req := Req.sup0
      let off : Fin 0x300 := 40
      let v : Word := 0x0000f7f1#32
      let s := State.reset
      let i := j.val
      let s : State := s.setClaim (0x5000 + i) { owner := Req.code r, tag := 0 }
      let s : State := { s with hbiReady := (true), power := { s.power with off := false, cause := if (true) then 0 else 1 } }
      let may := s.mayWrite r (0x5000 + i) = true
      let o := off.val / 4 * 4
    (o ≠ 0) ∧ (o ≠ 0x2C) ∧ (o ≠ 0x44) ∧ (may) ∧ (s.recAccepts i o v = true) ∧ (o < 0x2C ∨ 0xAC ≤ o) ∧ (s.served r = true)) :=
  ⟨by decide +kernel,
    by decide +kernel,
    by decide +kernel⟩

theorem met_BlazeGaugesAndExport_1 :
    (let j : Fin 4 := 1
      let r : Req := Req.sup0
      let off : BitVec 14 := 0
      let s := State.reset
      let s : State := { s with hbiReady := (true), power := { s.power with off := false, cause := if (true) then 0 else 1 } }
      let i := j.val
    (s.mayWrite r (0x5000 + i) = false) ∧ (s.served r = true)) ∧
    (let j : Fin 4 := 1
      let r : Req := Req.sup0
      let off : BitVec 14 := 0
      let s := State.reset
      let i := j.val
      let s : State := s.setClaim (0x5000 + i) { owner := Req.code r, tag := 0 }
      let s : State := { s with hbiReady := (true), power := { s.power with off := false, cause := if (true) then 0 else 1 } }
      let may := s.mayWrite r (0x5000 + i) = true
    (may) ∧ (s.recRunning i = false) ∧ (s.served r = true)) ∧
    (let j : Fin 4 := 1
      let r : Req := Req.sup0
      let off : BitVec 14 := 0
      let s := State.reset
      let i := j.val
      let s : State := s.setClaim (0x5000 + i) { owner := Req.code r, tag := 0 }
      let s : State := s.putBit (Reg.REC_STAT i) 1 (true)
      let s : State := { s with hbiReady := (true), power := { s.power with off := false, cause := if (true) then 0 else 1 } }
      let may := s.mayWrite r (0x5000 + i) = true
    (may) ∧ (s.recRunning i = true) ∧ (∀ p, p ∈ s.blzTaps i → s.owner p = 0 ∨ s.owner p = 0x20 + i) ∧ (s.served r = true)) ∧
    (let j : Fin 4 := 1
      let r : Req := Req.sup0
      let off : BitVec 14 := 0
      let s := State.reset
      let i := j.val
      let s : State := s.setClaim (0x5000 + i) { owner := Req.code r, tag := 0 }
      let s : State := s.putBit (Reg.REC_STAT i) 1 (true)
      let s : State := (s.wr (Reg.BLZ_PRED i 63) 0x3000002F).setClaim 0x802F { owner := 4, tag := 0 }
      let s : State := { s with hbiReady := (true), power := { s.power with off := false, cause := if (true) then 0 else 1 } }
      let may := s.mayWrite r (0x5000 + i) = true
    (may) ∧ (s.recRunning i = true) ∧ (∃ p, p ∈ s.blzTaps i ∧ s.owner p ≠ 0 ∧ s.owner p ≠ 0x20 + i) ∧ (s.served r = true)) ∧
    (let j : Fin 4 := 1
      let s := State.reset
      let i := j.val
      let stat := Reg.BLZ_STAT i
      let s : State := s.putBit stat (27) (true)
    (s.bit stat 27 = true)) ∧
    (let j : Fin 4 := 1
      let s := State.reset
      let i := j.val
      let stat := Reg.BLZ_STAT i
    (s.bit stat 27 = false)) ∧
    (let j : Fin 4 := 1
      let k : Fin 4 := 3
      let p : Nat × Nat := (3, 0)
      let s := State.reset
      let i := j.val
      let s : State := s.setBlz i { s.blzU i with tmr := [(k.val, some p)] }
    (s.blzTimer i k.val = some p)) ∧
    (let j : Fin 4 := 1
      let g : Fin 8 := 7
      let r : Req := Req.sup0
      let off : BitVec 14 := 0
      let s := State.reset
      let i := j.val
      let s : State := s.setClaim (0x5000 + i) { owner := Req.code r, tag := 0 }
      let gkey := Reg.GAUGE i g.val
      let s : State := s.putBit gkey (24) (true)
      let s : State := { s with hbiReady := (true), power := { s.power with off := false, cause := if (true) then 0 else 1 } }
      let may := s.mayWrite r (0x5000 + i) = true
    (may) ∧ (s.bit gkey 24 = true) ∧ (s.served r = true)) :=
  ⟨by decide +kernel,
    by decide +kernel,
    by decide +kernel,
    by decide +kernel,
    by decide +kernel,
    by decide +kernel,
    by decide +kernel,
    by decide +kernel⟩

theorem met_BlazeGaugesAndExport_2 :
    (let j : Fin 4 := 1
      let g : Fin 8 := 7
      let at_ : Nat := 3
      let ep : Nat := 0
      let no : Nat := 24
      let l : List (Nat × Nat × Nat) := []
      let s := State.reset
      let i := j.val
      let n := 8 * i + g.val
      let s : State := s.setGauge n { (s.gauge n) with due := ((at_, ep, no) :: l) }
      let x := s.gauge n
      let gkey := Reg.GAUGE i g.val
    (x.due = (at_, ep, no) :: l) ∧ (s.fld gkey 9 8 = 0)) ∧
    (let j : Fin 4 := 1
      let g : Fin 8 := 7
      let at_ : Nat := 3
      let ep : Nat := 0
      let no : Nat := 24
      let l : List (Nat × Nat × Nat) := []
      let s := State.reset
      let i := j.val
      let n := 8 * i + g.val
      let s : State := s.setGauge n { (s.gauge n) with due := ((at_, ep, no) :: l) }
      let gkey := Reg.GAUGE i g.val
      let s : State := s.put gkey 9 8 (1)
      let x := s.gauge n
    (x.due = (at_, ep, no) :: l) ∧ (s.fld gkey 9 8 = 1 ∨ s.fld gkey 9 8 = 2)) ∧
    (let r : Req := Req.sup0
      let c : Fin 16 := 8
      let off : BitVec 14 := 0x0000#14
      let s := State.reset
      let ch := 8 * c.val + off.toNat / 0x800
      let s : State := s.wr (Reg.GAUGE 3 7) (w32 (ch + 0x80000000))
      let s : State := { s with hbiReady := (true), power := { s.power with off := false, cause := if (true) then 0 else 1 } }
      let used := (List.range 32).any (fun m => s.gaugeArmed (m / 8) (m % 8) && decide (s.fld (Reg.GAUGE (m / 8) (m % 8)) 6 0 = ch))
    (used = true) ∧ (s.served r = true)) ∧
    (let r : Req := Req.sup0
      let c : Fin 16 := 8
      let off : BitVec 14 := 0x0000#14
      let s := State.reset
      let s : State := { s with hbiReady := (true), power := { s.power with off := false, cause := if (true) then 0 else 1 } }
      let ch := 8 * c.val + off.toNat / 0x800
      let used := (List.range 32).any (fun m => s.gaugeArmed (m / 8) (m % 8) && decide (s.fld (Reg.GAUGE (m / 8) (m % 8)) 6 0 = ch))
    (used = false) ∧ (s.served r = true)) :=
  ⟨by decide +kernel,
    by decide +kernel,
    by decide +kernel,
    by decide +kernel⟩

theorem met_TallyRecordsScanClearing_1 :
    (let code : BitVec 12 := 0x102#12
      let s := State.reset
      let q := s.tally.queue
    (s.bucketOf code.toNat = none) ∧ (s.tally.closed = false) ∧ (q.length < 256)) ∧
    (let code : BitVec 12 := 0x102#12
      let s := State.reset
      let s : State := { s with tally := { s.tally with queue := (List.replicate ((256)) trec0) } }
      let q := s.tally.queue
    (s.bucketOf code.toNat = none) ∧ (s.tally.closed = false) ∧ (256 ≤ q.length)) ∧
    (let code : BitVec 12 := 0x100#12
      let s := State.reset
      let s : State := { s with tally := { s.tally with closed := (true) } }
    (s.bucketOf code.toNat = none) ∧ (s.tally.closed = true)) ∧
    (let code : BitVec 12 := 0x4fd#12
      let m : Nat := 253
      let s := State.reset
      let q := s.tally.queue
    (s.bucketOf code.toNat = some m) ∧ (0 < s.fld (Reg.TALLY_BKT_CFG m) 7 0) ∧ (s.tally.closed = false) ∧ (q.length < 256)) ∧
    (let code : BitVec 12 := 0x4fd#12
      let m : Nat := 253
      let s := State.reset
      let s : State := s.put (Reg.TALLY_BKT_CFG m) 7 0 0
    (s.bucketOf code.toNat = some m) ∧ (s.fld (Reg.TALLY_BKT_CFG m) 7 0 = 0)) ∧
    (let e : TRec := { code := 33, source := 0, sev := 0, flags := 0, sparam := 259, p0 := 3, p1 := 1, at_ := { sec := 0, ns := 6, epoch := 4799 }, tq := 0 }
      let s := State.reset
      let s : State := s.talMod (fun u => { u with own := [], queue := [], last := some e })
      let s : State := s.put Reg.TALLY_STAT 2 0 (1)
      let wptr := s.fld Reg.TALLY_WPTR 18 0
    (s.headRec = some e) ∧ (s.tallyState = 1) ∧ (s.tally.front = none) ∧ (wptr < lastSlotNo)) ∧
    (let e : TRec := { code := 33, source := 0, sev := 0, flags := 0, sparam := 259, p0 := 3, p1 := 1, at_ := { sec := 0, ns := 6, epoch := 4799 }, tq := 0 }
      let s := State.reset
      let s : State := s.talMod (fun u => { u with own := [e] })
      let s : State := s.put Reg.TALLY_STAT 2 0 (1)
      let wptr := s.fld Reg.TALLY_WPTR 18 0
    (s.headRec = some e) ∧ (e.code ≠ 0x103) ∧ (s.tallyState = 1) ∧ (s.tally.front = none) ∧ (wptr + 1 < lastSlotNo) ∧ (wptr ∉ s.tally.bads)) ∧
    (let e : TRec := { code := 0, source := 0, sev := 2, flags := 0, sparam := 0, p0 := 15, p1 := 0, at_ := { sec := 55, ns := 1, epoch := 1 }, tq := 6 }
      let s := State.reset
      let s : State := s.talMod (fun u => { u with own := [], queue := [], last := some e })
      let s : State := s.put Reg.TALLY_STAT 2 0 (2)
    (s.headRec = some e) ∧ (s.tallyState = 2)) :=
  ⟨by decide +kernel,
    by decide +kernel,
    by decide +kernel,
    by decide +kernel,
    by decide +kernel,
    by decide +kernel,
    by decide +kernel,
    by decide +kernel⟩

theorem met_TallyRecordsScanClearing_2 :
    (let e : TRec := { code := 0, source := 2, sev := 0, flags := 0, sparam := 15, p0 := 0, p1 := 55, at_ := { sec := 1, ns := 1, epoch := 6 }, tq := 76 }
      let s := State.reset
      let s : State := s.talMod (fun u => { u with own := [], queue := [e] })
      let s : State := s.put Reg.TALLY_STAT 2 0 (3)
    (s.headRec = some e) ∧ (s.tallyState = 3) ∧ (s.fld Reg.TALLY_LR_STAT 3 0 < 8)) ∧
    (let s := State.reset
    (s.headRec = none)) ∧
    (let b : Fin 256 := 255
      let a : Nat := 33
      let s := State.reset
      let s : State := s.setBucket b.val { (s.bucket b.val) with since := (some a) }
      let x := s.bucket b.val
      let cfg := Reg.TALLY_BKT_CFG b.val
      let sup := Reg.TALLY_BKT_SUP b.val
    (x.since = some a) ∧ (s.rd sup = 0) ∧ (s.fld cfg 7 0 < 255)) ∧
    (let b : Fin 256 := 255
      let a : Nat := 33
      let s := State.reset
      let s : State := s.setBucket b.val { (s.bucket b.val) with since := (some a) }
      let sup := Reg.TALLY_BKT_SUP b.val
      let s : State := s.wr sup (0 + 1)
      let x := s.bucket b.val
    (x.since = some a) ∧ (s.rd sup ≠ 0)) ∧
    (let b : Fin 256 := 255
      let s := State.reset
      let x := s.bucket b.val
    (x.since = none)) ∧
    (let v : Word := 0x00000028#32
      let s := State.reset
    (field v 31 16 = 0 ∨ field v 15 8 = 0)) ∧
    (let v : Word := 0x00010128#32
      let s := State.reset
    (field v 31 16 ≠ 0) ∧ (field v 15 8 ≠ 0)) ∧
    (let r : Req := Req.host
      let port : Fin 2 := 0
      let s := State.reset
      let s : State := { s with hbiReady := (true), power := { s.power with off := false, cause := if (true) then 0 else 1 } }
      let h := s.rd (Reg.TALLY_PHDR port.val)
      let source := if port.val = 1 then 0x04 else field h 15 8
    (r.isHost ≠ decide (port.val = 1) ∨ postAllowed port.val (field h 31 16) source = false) ∧ (s.served r = true)) :=
  ⟨by decide +kernel,
    by decide +kernel,
    by decide +kernel,
    by decide +kernel,
    by decide +kernel,
    by decide +kernel,
    by decide +kernel,
    by decide +kernel⟩

theorem met_TallyRecordsScanClearing_3 :
    (let r : Req := Req.host
      let port : Fin 2 := 1
      let s := State.reset
      let s : State := s.put (Reg.TALLY_PHDR port.val) 31 8 0x7FFF01
      let s : State := (s.wr (Reg.TALLY_BKT_RNG 254) 0xFFFF).wr (Reg.TALLY_BKT_RNG 255) 0xFFFF
      let s : State := { s with hbiReady := (true), power := { s.power with off := false, cause := if (true) then 0 else 1 } }
      let q := s.tally.queue
      let h := s.rd (Reg.TALLY_PHDR port.val)
      let source := if port.val = 1 then 0x04 else field h 15 8
    (r.isHost = decide (port.val = 1)) ∧ (postAllowed port.val (field h 31 16) source = true) ∧ (s.bucketOf (field h 31 16) = none) ∧ (s.tally.closed = false) ∧ (q.length < 256) ∧ (s.served r = true)) ∧
    (let s := State.reset
      let s : State := s.put Reg.TALLY_STAT 2 0 (3)
      let i := s.firstGood s.tally.bads.length (s.fld Reg.TALLY_WPTR 18 0)
    (s.tallyState = 3) ∧ (i ≤ lastSlotNo)) ∧
    (let s := State.reset
      let s : State := s.put Reg.TALLY_STAT 2 0 (3)
      let s : State := s.put Reg.TALLY_WPTR 18 0 (lastSlotNo + 1)
      let i := s.firstGood s.tally.bads.length (s.fld Reg.TALLY_WPTR 18 0)
    (s.tallyState = 3) ∧ (lastSlotNo < i)) ∧
    (let s := State.reset
    (s.tallyState ≠ 3)) ∧
    (let s := State.reset
    (s.tally.scanning = true)) ∧
    (let s := State.reset
      let s : State := { s with tally := { s.tally with scanning := (false) } }
    (s.tally.scanning = false)) ∧
    (let r : Req := Req.sup1
      let key : Fin 4 := 3
      let s := State.reset
      let s : State := s.talMod (fun u => { u with lockEnd := some 5 })
      let s : State := { s with hbiReady := (true), power := { s.power with off := false, cause := if (true) then 0 else 1 } }
      let k := key.val
    (s.lockedOut = true ∨ s.keyRevoked k = true) ∧ (s.served r = true)) ∧
    (let r : Req := Req.sup1
      let key : Fin 4 := 3
      let s := State.reset
      let s : State := { s with tally := { s.tally with front := (some 0) } }
      let s : State := { s with hbiReady := (true), power := { s.power with off := false, cause := if (true) then 0 else 1 } }
      let k := key.val
    (s.lockedOut = false) ∧ (s.keyRevoked k = false) ∧ (s.tally.front.isSome = true) ∧ (s.served r = true)) :=
  ⟨by decide +kernel,
    by decide +kernel,
    by decide +kernel,
    by decide +kernel,
    by decide +kernel,
    by decide +kernel,
    by decide +kernel,
    by decide +kernel⟩

theorem met_TallyRecordsScanClearing_4 :
    (let r : Req := Req.sup1
      let key : Fin 4 := 3
      let rv : Bool := false
      let s := State.reset
      let s : State := { s with hbiReady := (true), power := { s.power with off := false, cause := if (true) then 0 else 1 } }
      let k := key.val
    (s.lockedOut = false) ∧ (s.keyRevoked k = false) ∧ (s.tally.front = none) ∧ (rv = false ∨ (∃ m, m < 4 ∧ m ≠ k ∧ s.keyRevoked m = false)) ∧ (s.served r = true)) ∧
    (let r : Req := Req.sup1
      let key : Fin 4 := 3
      let rv : Bool := true
      let s := State.reset
      let s : State := s.put Reg.TALLY_CLR_STAT 15 12 (15 - 2 ^ key.val)
      let s : State := { s with hbiReady := (true), power := { s.power with off := false, cause := if (true) then 0 else 1 } }
      let k := key.val
    (s.lockedOut = false) ∧ (s.keyRevoked k = false) ∧ (s.tally.front = none) ∧ (rv = true) ∧ (∀ m, m < 4 → m ≠ k → s.keyRevoked m = true) ∧ (s.served r = true)) ∧
    (let r : Req := Req.sup1
      let s := State.reset
      let s : State := { s with hbiReady := (true), power := { s.power with off := false, cause := if (true) then 0 else 1 } }
    (s.tally.nonce = none) ∧ (s.lockedOut = false) ∧ (s.served r = true)) ∧
    (let r : Req := Req.sup1
      let s := State.reset
      let s : State := s.talMod (fun u => { u with lockEnd := some 5 })
      let s : State := { s with hbiReady := (true), power := { s.power with off := false, cause := if (true) then 0 else 1 } }
    (s.lockedOut = true) ∧ (∀ n, s.tally.nonce = some n → n.req.isHost = r.isHost) ∧ (s.served r = true)) ∧
    (let r : Req := Req.sup0
      let n : Nonce := { req := Req.host, key := 259, revoke := true, expires := 72 }
      let s := State.reset
      let s : State := { s with tally := { s.tally with nonce := (some n) } }
      let s : State := { s with hbiReady := (true), power := { s.power with off := false, cause := if (true) then 0 else 1 } }
    (s.tally.nonce = some n) ∧ (n.req.isHost ≠ r.isHost) ∧ (s.served r = true)) ∧
    (let r : Req := Req.sup0
      let n : Nonce := { req := Req.sup0, key := 0, revoke := true, expires := 0 }
      let s := State.reset
      let s : State := { s with tally := { s.tally with nonce := some n } }
      let s : State := { s with hbiReady := (true), power := { s.power with off := false, cause := if (true) then 0 else 1 } }
    (s.tally.nonce = some n) ∧ (n.req.isHost = r.isHost) ∧ (s.lockedOut = false) ∧ (n.key < 4) ∧ (s.served r = true)) ∧
    (let s := State.reset
      let s : State := { s with tally := { s.tally with nonce := (some nonce0) } }
    (s.tally.nonce.isSome = true)) ∧
    (let a : Nat := 72
      let s := State.reset
      let s : State := { s with tally := { s.tally with lockEnd := (some a) } }
    (s.tally.lockEnd = some a)) :=
  ⟨by decide +kernel,
    by decide +kernel,
    by decide +kernel,
    by decide +kernel,
    by decide +kernel,
    by decide +kernel,
    by decide +kernel,
    by decide +kernel⟩

theorem met_TallyRecordsScanClearing_5 :
    (let p : Nat := 262144
      let s := State.reset
      let s : State := (s.mwr (slotAddr 262143) [(1 : Byte), 2, 3]).talMod (fun u => { u with front := some 262144 })
    (s.tally.front = some p) ∧ (p ≤ 262144)) := by decide +kernel

theorem met_TimeBaseCommands_1 :
    (let r : Req := Req.host
      let s := State.reset
      let s : State := { s with hbiReady := (true), power := { s.power with off := false, cause := if (true) then 0 else 1 } }
    (r.isHost = true ∨ s.started = true) ∧ (s.served r = true)) ∧
    (let r : Req := Req.sup1
      let s := State.reset
      let s : State := { s with hbiReady := (true), power := { s.power with off := false, cause := if (true) then 0 else 1 } }
    (r.isHost = false) ∧ (s.started = false) ∧ (s.served r = true)) ∧
    (let s := State.reset
      let s : State := { s with tb := { s.tb with startReq := (true) } }
    (s.tb.startReq = true)) ∧
    (let v : Word := 0x00000030#32
      let s := State.reset
    (field v 11 10 = 3 ∨ field v 5 4 = 3 ∨ 2 ≤ field v 1 0)) ∧
    (let v : Word := 0x00000400#32
      let s := State.reset
    (field v 11 10 ≠ 3) ∧ (field v 5 4 ≠ 3) ∧ (field v 1 0 < 2) ∧ (s.tb.step = none ∨ field v 1 0 = s.fld Reg.TB_CTRL 1 0)) ∧
    (let s := State.reset
    (s.started = false ∨ s.tb.mode = none)) ∧
    (let m : Nat := 0
      let s := State.reset
      let s : State := s.putBit Reg.TB_STAT 5 (true)
      let s : State := { s with tb := { s.tb with mode := (some m) } }
    (s.started = true) ∧ (s.tb.mode = some m)) ∧
    (let r : Req := Req.sup1
      let v : Word := 0x00000000#32
      let s := State.reset
      let s : State := { s with hbiReady := (true), power := { s.power with off := false, cause := if (true) then 0 else 1 } }
      let a := (s.held r Reg.TB_ADDEND_HI).toNat % 256 * 4294967296 + v.toNat
    (s.tb.modeNow = 0 ∨ a < 0x3FFBE76C9 ∨ 0x400418937 < a) ∧ (s.served r = true)) :=
  ⟨by decide +kernel,
    by decide +kernel,
    by decide +kernel,
    by decide +kernel,
    by decide +kernel,
    by decide +kernel,
    by decide +kernel,
    by decide +kernel⟩

theorem met_TimeBaseCommands_2 :
    (let r : Req := Req.sup1
      let v : Word := 0xffbe76c9#32
      let s := State.reset
      let s : State := { s with tb := { s.tb with modeNow := (0 + 1) } }
      let s : State := s.hold r Reg.TB_ADDEND_HI 3
      let s : State := { s with hbiReady := (true), power := { s.power with off := false, cause := if (true) then 0 else 1 } }
      let a := (s.held r Reg.TB_ADDEND_HI).toNat % 256 * 4294967296 + v.toNat
    (s.tb.modeNow ≠ 0) ∧ (0x3FFBE76C9 ≤ a) ∧ (a ≤ 0x400418937) ∧ (s.served r = true)) ∧
    (let v : Word := 0x00000d00#32
      let s := State.reset
    (field v 23 16 < 5 ∨ 12 < field v 11 8 ∨ 12 < field v 3 0)) ∧
    (let v : Word := 0x00050000#32
      let s := State.reset
    (5 ≤ field v 23 16) ∧ (field v 11 8 ≤ 12) ∧ (field v 3 0 ≤ 12)) ∧
    (let r : Req := Req.sup1
      let s := State.reset
      let s : State := { s with hbiReady := (true), power := { s.power with off := false, cause := if (true) then 0 else 1 } }
    (s.tb.modeNow = 0) ∧ (s.served r = true)) ∧
    (let s := State.reset
      let s : State := s.put Reg.TB_STAT 1 0 (2)
    (s.tb.modeNow = 0) ∧ (s.servo = 1 ∨ s.servo = 2)) ∧
    (let s := State.reset
    (s.started = false ∨ s.fld Reg.TB_UTC 17 16 = 0 ∨ s.fld Reg.TB_UTC 17 16 = 3)) ∧
    (let s := State.reset
      let s : State := s.putBit Reg.TB_STAT 5 (true)
      let s : State := s.put Reg.TB_UTC 17 16 (2)
    (s.started = true) ∧ (s.fld Reg.TB_UTC 17 16 = 1 ∨ s.fld Reg.TB_UTC 17 16 = 2)) ∧
    (let s := State.reset
      let s : State := s.put Reg.TB_STAT 3 2 (0)
      let s : State := s.putBit Reg.TB_STAT 5 (true)
    (s.tq = 0) ∧ (s.started = true)) :=
  ⟨by decide +kernel,
    by decide +kernel,
    by decide +kernel,
    by decide +kernel,
    by decide +kernel,
    by decide +kernel,
    by decide +kernel,
    by decide +kernel⟩

theorem met_TimeBaseCommands_3 :
    (let r : Req := Req.sup1
      let s := State.reset
      let s : State := { s with hbiReady := (true), power := { s.power with off := false, cause := if (true) then 0 else 1 } }
      let d : Int := sext 48 (s.fld Reg.TB_STEP_SEC_HI 15 0 * 4294967296 + (s.rd Reg.TB_STEP_SEC_LO).toNat) * 1000000000 + (s.fld Reg.TB_STEP_NS 29 0 : Int)
      let here : Int := inNs (s.tb.sec, s.tb.ns)
    (s.tb.modeNow = 0 ∨ s.tb.step.isSome = true ∨ s.tb.mode.isSome = true ∨ 999999999 < s.fld Reg.TB_STEP_NS 29 0 ∨ d = 0 ∨ here + d < 0) ∧ (s.served r = true)) ∧
    (let r : Req := Req.sup1
      let s := State.reset
      let s : State := { s with tb := { s.tb with modeNow := (0 + 1) } }
      let s : State := s.wr Reg.TB_STEP_SEC_LO 1
      let s : State := { s with hbiReady := (true), power := { s.power with off := false, cause := if (true) then 0 else 1 } }
      let d : Int := sext 48 (s.fld Reg.TB_STEP_SEC_HI 15 0 * 4294967296 + (s.rd Reg.TB_STEP_SEC_LO).toNat) * 1000000000 + (s.fld Reg.TB_STEP_NS 29 0 : Int)
      let here : Int := inNs (s.tb.sec, s.tb.ns)
    (s.tb.modeNow ≠ 0) ∧ (s.tb.step = none) ∧ (s.tb.mode = none) ∧ (s.fld Reg.TB_STEP_NS 29 0 ≤ 999999999) ∧ (d ≠ 0) ∧ (0 ≤ here + d) ∧ (s.served r = true)) ∧
    (let q : StepReq := { delta := 5018, firstLock := true }
      let s := State.reset
      let s : State := { s with tb := { s.tb with step := (some q) } }
    (s.tb.step = some q)) ∧
    (let s := State.reset
      let s : State := { s with tb := { s.tb with sync := (0 + 1) } }
    (s.tb.sync ≠ 0)) :=
  ⟨by decide +kernel,
    by decide +kernel,
    by decide +kernel,
    by decide +kernel⟩

theorem met_AlarmsAndTimePins_1 :
    (let r : Req := Req.sup1
      let n : Fin 16 := 15
      let s := State.reset
      let s : State := { s with hbiReady := (true), power := { s.power with off := false, cause := if (true) then 0 else 1 } }
      let k := n.val
    (s.mayWrite r (0x2000 + k) = false) ∧ (s.served r = true)) ∧
    (let r : Req := Req.sup1
      let n : Fin 16 := 15
      let v : Word := 0x20001000#32
      let s := State.reset
      let k := n.val
      let s : State := s.setClaim (0x2000 + k) { owner := Req.code r, tag := 0 }
      let s : State := { s with hbiReady := (true), power := { s.power with off := false, cause := if (true) then 0 else 1 } }
      let may := s.mayWrite r (0x2000 + k) = true
    (may) ∧ (bitAt v 29 = true) ∧ (s.served r = true)) ∧
    (let r : Req := Req.sup1
      let n : Fin 16 := 15
      let v : Word := 0x40001000#32
      let s := State.reset
      let k := n.val
      let s : State := s.setClaim (0x2000 + k) { owner := Req.code r, tag := 0 }
      let s : State := { s with hbiReady := (true), power := { s.power with off := false, cause := if (true) then 0 else 1 } }
      let may := s.mayWrite r (0x2000 + k) = true
    (may) ∧ (bitAt v 30 = true) ∧ (s.served r = true)) ∧
    (let r : Req := Req.sup1
      let n : Fin 16 := 15
      let v : Word := 0x00001002#32
      let s := State.reset
      let k := n.val
      let s : State := s.setClaim (0x2000 + k) { owner := Req.code r, tag := 0 }
      let s : State := s.putBit (Reg.ALM_CTRL k) 31 (true)
      let s : State := { s with hbiReady := (true), power := { s.power with off := false, cause := if (true) then 0 else 1 } }
      let ctrl := Reg.ALM_CTRL k
      let may := s.mayWrite r (0x2000 + k) = true
    (may) ∧ (s.armed k = true) ∧ (bitAt v 1 ≠ s.bit ctrl 1) ∧ (s.served r = true)) ∧
    (let r : Req := Req.sup1
      let n : Fin 16 := 15
      let v : Word := 0x00001000#32
      let s := State.reset
      let k := n.val
      let s : State := s.setClaim (0x2000 + k) { owner := Req.code r, tag := 0 }
      let s : State := { s with hbiReady := (true), power := { s.power with off := false, cause := if (true) then 0 else 1 } }
      let ctrl := Reg.ALM_CTRL k
      let may := s.mayWrite r (0x2000 + k) = true
      let inst := ((s.rd (Reg.ALM_SEC_HI k)).toNat * 4294967296 + (s.rd (Reg.ALM_SEC_LO k)).toNat, s.fld (Reg.ALM_NS k) 29 0)
      let now := inNs (s.tb.sec, s.tb.ns)
      let bad := 999999999 < inst.2 ∨ (bitAt v 1 = true ∧ (tickAt inst.2 = none ∨ s.rd (Reg.ALM_PER k) = 0)) ∨ (bitAt v 1 = false ∧ inNs inst ≤ now)
    (may) ∧ (bitAt v 29 = false) ∧ (s.armed k = false ∨ bitAt v 1 = s.bit ctrl 1) ∧ (bad) ∧ (s.served r = true)) ∧
    (let r : Req := Req.sup1
      let n : Fin 16 := 15
      let v : Word := 0x00000002#32
      let s := State.reset
      let k := n.val
      let s : State := s.setClaim (0x2000 + k) { owner := Req.code r, tag := 0 }
      let s : State := ((s.wr (Reg.ALM_NS n.val) 0).wr (Reg.ALM_PER n.val) 5).putBit (Reg.ALM_CTRL n.val) 31 false
      let ctrl := Reg.ALM_CTRL k
      let may := s.mayWrite r (0x2000 + k) = true
      let inst := ((s.rd (Reg.ALM_SEC_HI k)).toNat * 4294967296 + (s.rd (Reg.ALM_SEC_LO k)).toNat, s.fld (Reg.ALM_NS k) 29 0)
      let now := inNs (s.tb.sec, s.tb.ns)
      let bad := 999999999 < inst.2 ∨ (bitAt v 1 = true ∧ (tickAt inst.2 = none ∨ s.rd (Reg.ALM_PER k) = 0)) ∨ (bitAt v 1 = false ∧ inNs inst ≤ now)
    (may) ∧ (bitAt v 29 = false) ∧ (s.armed k = false ∨ bitAt v 1 = s.bit ctrl 1) ∧ (¬ bad)) ∧
    (let r : Req := Req.sup1
      let n : Fin 16 := 15
      let v : Word := 0x00000001#32
      let a : Nat × Nat := (5, 0)
      let s := State.reset
      let k := n.val
      let s : State := s.setClaim (0x2000 + k) { owner := Req.code r, tag := 0 }
      let s : State := s.wr (Reg.ALM_SEC_LO k) 5
      let s : State := { s with hbiReady := (true), power := { s.power with off := false, cause := if (true) then 0 else 1 } }
      let ctrl := Reg.ALM_CTRL k
      let may := s.mayWrite r (0x2000 + k) = true
      let s1 := s.wr ctrl ((s.rd ctrl &&& 0x80000000) ||| (v &&& 0xF))
    (may) ∧ (bitAt v 29 = false) ∧ (s.armed k = false ∨ bitAt v 1 = s.bit ctrl 1) ∧ (s1.armInstant k = some a) ∧ (s.served r = true)) ∧
    (let r : Req := Req.sup1
      let n : Fin 16 := 15
      let v : Word := 0x00001000#32
      let s := State.reset
      let k := n.val
      let s : State := s.setClaim (0x2000 + k) { owner := Req.code r, tag := 0 }
      let s : State := { s with hbiReady := (true), power := { s.power with off := false, cause := if (true) then 0 else 1 } }
      let ctrl := Reg.ALM_CTRL k
      let may := s.mayWrite r (0x2000 + k) = true
    (may) ∧ (bitAt v 30 = false) ∧ (s.armed k = false ∨ bitAt v 1 = s.bit ctrl 1) ∧ (s.served r = true)) :=
  ⟨by decide +kernel,
    by decide +kernel,
    by decide +kernel,
    by decide +kernel,
    by decide +kernel,
    by decide +kernel,
    by decide +kernel,
    by decide +kernel⟩

theorem met_AlarmsAndTimePins_2 :
    (let r : Req := Req.sup1
      let n : Fin 16 := 15
      let j : Fin 5 := 1
      let s := State.reset
      let k := n.val
      let s : State := s.putBit (Reg.ALM_CTRL k) 31 (true)
      let s : State := { s with hbiReady := (true), power := { s.power with off := false, cause := if (true) then 0 else 1 } }
    (s.armed k = true) ∧ (j ≠ 0) ∧ (s.served r = true)) ∧
    (let r : Req := Req.sup1
      let n : Fin 16 := 15
      let v : Word := 0x00000000#32
      let s := State.reset
      let k := n.val
      let s : State := s.setClaim (0x2000 + k) { owner := Req.code r, tag := 0 }
      let ctrl := Reg.ALM_CTRL k
      let s : State := s.putBit ctrl (1) (true)
      let s : State := { s with hbiReady := (true), power := { s.power with off := false, cause := if (true) then 0 else 1 } }
      let may := s.mayWrite r (0x2000 + k) = true
    (may) ∧ (s.armed k = false) ∧ (v = 0) ∧ (s.bit ctrl 1 = true) ∧ (s.served r = true)) ∧
    (let r : Req := Req.sup1
      let n : Fin 16 := 15
      let v : Word := 0x00000001#32
      let s := State.reset
      let k := n.val
      let s : State := s.setClaim (0x2000 + k) { owner := Req.code r, tag := 0 }
      let s : State := { s with hbiReady := (true), power := { s.power with off := false, cause := if (true) then 0 else 1 } }
      let ctrl := Reg.ALM_CTRL k
      let may := s.mayWrite r (0x2000 + k) = true
    (may) ∧ (s.armed k = false) ∧ (v ≠ 0 ∨ s.bit ctrl 1 = false) ∧ (s.served r = true)) ∧
    (let n : Fin 16 := 15
      let sec : Nat := 0
      let a : Nat × Nat := (3, 999999999)
      let s := State.reset
      let k := n.val
      let s : State := s.setAlm k { s.alm k with next := some a }
      let s : State := { s with tb := { s.tb with sec := a.1 + 1 } }
      let al := s.alm k
    (al.next = some a) ∧ (inNs a ≤ inNs (s.tb.sec, s.tb.ns))) ∧
    (let n : Fin 16 := 15
      let s := State.reset
      let k := n.val
      let al := s.alm k
    (al.next = none)) ∧
    (let r : Req := Req.sup1
      let p : Fin 4 := 3
      let s := State.reset
      let s : State := { s with hbiReady := (true), power := { s.power with off := false, cause := if (true) then 0 else 1 } }
      let m := p.val
    (s.mayWrite r (0x1000 + m) = false) ∧ (s.served r = true)) ∧
    (let r : Req := Req.sup1
      let p : Fin 4 := 3
      let s := State.reset
      let m := p.val
      let s : State := s.setClaim (0x1000 + m) { owner := Req.code r, tag := 0 }
      let s : State := { s with hbiReady := (true), power := { s.power with off := false, cause := if (true) then 0 else 1 } }
    (s.mayWrite r (0x1000 + m) = true) ∧ (s.served r = true)) ∧
    (let p : Fin 4 := 3
      let rising : Bool := true
      let s := State.reset
      let m := p.val
      let s : State := s.put (Reg.TIO_CFG m) 2 0 (2)
      let mode := s.fld (Reg.TIO_CFG m) 2 0
    (mode = 2) ∧ (s.bit (Reg.TIO_CFG m) (if rising then 4 else 5) = true)) :=
  ⟨by decide +kernel,
    by decide +kernel,
    by decide +kernel,
    by decide +kernel,
    by decide +kernel,
    by decide +kernel,
    by decide +kernel,
    by decide +kernel⟩

theorem met_AlarmsAndTimePins_3 :
    (let p : Fin 4 := 3
      let rising : Bool := true
      let s := State.reset
      let m := p.val
      let mode := s.fld (Reg.TIO_CFG m) 2 0
    (mode ≠ 2 ∨ s.bit (Reg.TIO_CFG m) (if rising then 4 else 5) = false)) ∧
    (let p : Fin 4 := 3
      let s := State.reset
      let m := p.val
      let s : State := s.put (Reg.TIO_CFG m) 2 0 (1)
      let pin := s.pin m
      let mode := s.fld (Reg.TIO_CFG m) 2 0
    (mode = 1) ∧ (pin.fifo.length < 8)) ∧
    (let p : Fin 4 := 3
      let s := State.reset
      let m := p.val
      let mode := s.fld (Reg.TIO_CFG m) 2 0
    (mode ≠ 1)) ∧
    (let p : Fin 4 := 3
      let e : Nat := 51
      let s := State.reset
      let m := p.val
      let s : State := s.setPin m { (s.pin m) with edgeAt := (some e) }
      let pin := s.pin m
    (pin.edgeAt = some e) ∧ (pin.active = false)) ∧
    (let p : Fin 4 := 3
      let e : Nat := 51
      let s := State.reset
      let m := p.val
      let s : State := s.setPin m { (s.pin m) with edgeAt := (some e) }
      let s : State := s.setPin m { (s.pin m) with active := (true) }
      let pin := s.pin m
    (pin.edgeAt = some e) ∧ (pin.active = true)) ∧
    (let p : Fin 4 := 3
      let s := State.reset
      let m := p.val
      let pin := s.pin m
    (pin.edgeAt = none)) ∧
    (let r : Req := Req.sup1
      let p : Fin 4 := 3
      let c : Capture := { at_ := { sec := 3, ns := 3, epoch := 0 }, tq := 63 }
      let cs : List Capture := []
      let s := State.reset
      let m := p.val
      let s : State := s.setPin m { (s.pin m) with fifo := (c :: cs) }
      let s : State := { s with hbiReady := (true), power := { s.power with off := false, cause := if (true) then 0 else 1 } }
      let pin := s.pin m
    (pin.fifo = c :: cs) ∧ (s.served r = true)) ∧
    (let r : Req := Req.sup1
      let p : Fin 4 := 3
      let s := State.reset
      let s : State := { s with hbiReady := (true), power := { s.power with off := false, cause := if (true) then 0 else 1 } }
      let m := p.val
      let pin := s.pin m
    (pin.fifo = []) ∧ (s.served r = true)) :=
  ⟨by decide +kernel,
    by decide +kernel,
    by decide +kernel,
    by decide +kernel,
    by decide +kernel,
    by decide +kernel,
    by decide +kernel,
    by decide +kernel⟩

theorem met_FieldDieChannelsAndFaults_1 :
    (let r : Req := Req.sup1
      let n : Fin 48 := 47
      let v : Word := 0x0000000a#32
      let s := State.reset
      let k := n.val
      let s : State := s.setClaim (fioRes k) { owner := Req.code r, tag := 0 }
      let s : State := { s with hbiReady := (true), power := { s.power with off := false, cause := if (true) then 0 else 1 } }
    (s.ended = []) ∧ (s.fioCfgCause r k v = none) ∧ (s.served r = true)) ∧
    (let r : Req := Req.sup1
      let n : Fin 48 := 47
      let v : Word := 0x00000009#32
      let s := State.reset
      let s : State := { s with hbiReady := (true), power := { s.power with off := false, cause := if (true) then 0 else 1 } }
      let k := n.val
    (s.ended = []) ∧ (s.fioCfgCause r k v ≠ none) ∧ (s.lightStale = []) ∧ (s.served r = true)) ∧
    (let r : Req := Req.sup1
      let b : Fin 6 := 5
      let v : Word := 0x00000020#32
      let i : Nat := 5
      let s := State.reset
      let s : State := (List.range 48).foldl (fun u q => u.setClaim (fioRes q) { owner := Req.code r, tag := 0 }) s
      let s : State := (List.range 48).foldl (fun u q => u.putBit (Reg.FIO_CFG q) 31 true) s
      let s : State := { s with hbiReady := (true), power := { s.power with off := false, cause := if (true) then 0 else 1 } }
      let grp := Reg.FIO_GRP b.val
    (s.ended = []) ∧ (i < 6) ∧ (∀ m, m < 6 → m ≠ i → bitAt v m = s.bit grp m) ∧ (bitAt v i ≠ s.bit grp i) ∧ (s.fioGrpCause r b.val i v = none) ∧ (s.served r = true)) ∧
    (let r : Req := Req.sup1
      let b : Fin 6 := 5
      let v : Word := 0x00000020#32
      let i : Nat := 5
      let s := State.reset
      let s : State := { s with hbiReady := (true), power := { s.power with off := false, cause := if (true) then 0 else 1 } }
      let grp := Reg.FIO_GRP b.val
    (s.ended = []) ∧ (i < 6) ∧ (∀ m, m < 6 → m ≠ i → bitAt v m = s.bit grp m) ∧ (bitAt v i ≠ s.bit grp i) ∧ (s.fioGrpCause r b.val i v ≠ none) ∧ (s.served r = true)) ∧
    (let r : Req := Req.sup1
      let b : Fin 6 := 5
      let v : Word := 0x00004881#32
      let q : Nat := 0
      let p : Nat := 0
      let s := State.reset
      let grp := Reg.FIO_GRP b.val
      let s : State := s.putBit grp ((4 + q)) (true)
      let s : State := (List.range 48).foldl (fun u q => u.setClaim (fioRes q) { owner := Req.code r, tag := 0 }) s
      let s : State := (List.range 48).foldl (fun u q => u.putBit (Reg.FIO_CFG q) 31 true) s
      let s : State := { s with hbiReady := (true), power := { s.power with off := false, cause := if (true) then 0 else 1 } }
    (s.ended = []) ∧ (q < 2) ∧ (p / 2 = q) ∧ (s.bit grp (4 + q) = true) ∧ (v &&& 0x3F = putField (putField (s.rd grp &&& 0x3F) (4 + q) (4 + q) 0) p p 1) ∧ (s.bit grp p = false) ∧ (s.fioGrpCause r b.val (4 + q) v = none) ∧ ((s.wr grp (putField (s.rd grp) (4 + q) (4 + q) 0)).fioGrpCause r b.val p v = none) ∧ (s.served r = true)) ∧
    (let n : Fin 48 := 47
      let on : Bool := false
      let s := State.reset
      let k := n.val
      let d := s.field_
    (s.ended = []) ∧ (d.up = false ∨ d.filt.getLsbD k = on)) ∧
    (let n : Fin 48 := 47
      let on : Bool := true
      let s := State.reset
      let s : State := { s with field_ := { s.field_ with up := (true) } }
      let k := n.val
      let d := s.field_
    (s.ended = []) ∧ (d.up = true) ∧ (d.filt.getLsbD k ≠ on) ∧ (d.raw.getLsbD k ≠ on ∨ (SMap.get (fun _ => none) d.runs k).isSome = true) ∧ (d.buf.length < 64)) ∧
    (let n : Fin 48 := 47
      let on : Bool := true
      let s := State.reset
      let s : State := { s with field_ := { s.field_ with up := (true) } }
      let s : State := { s with field_ := { s.field_ with buf := (List.replicate ((64)) fedge0) } }
      let k := n.val
      let d := s.field_
    (s.ended = []) ∧ (d.up = true) ∧ (d.filt.getLsbD k ≠ on) ∧ (d.raw.getLsbD k ≠ on ∨ (SMap.get (fun _ => none) d.runs k).isSome = true) ∧ (64 ≤ d.buf.length)) :=
  ⟨by decide +kernel,
    by decide +kernel,
    by decide +kernel,
    by decide +kernel,
    by decide +kernel,
    by decide +kernel,
    by decide +kernel,
    by decide +kernel⟩

theorem met_FieldDieChannelsAndFaults_2 :
    (let r : Req := Req.sup1
      let e : FEdge := { ch := 3, rise := true, at_ := { sec := 72, ns := 1000, epoch := 55 }, tq := 0, num := 0, buffered := false, output := true }
      let es : List FEdge := List.replicate 255 { ch := 0, rise := false, at_ := { sec := 0, ns := 0, epoch := 0 }, tq := 0, num := 0, buffered := false, output := false }
      let s := State.reset
      let s : State := { s with fio := { s.fio with log := (e :: es) } }
      let s : State := { s with hbiReady := (true), power := { s.power with off := false, cause := if (true) then 0 else 1 } }
    (s.ended = []) ∧ (s.fio.log = e :: es) ∧ (es.length < 256) ∧ (s.served r = true)) ∧
    (let r : Req := Req.sup1
      let s := State.reset
      let s : State := { s with hbiReady := (true), power := { s.power with off := false, cause := if (true) then 0 else 1 } }
    (s.ended = []) ∧ (s.fio.log = []) ∧ (s.served r = true)) ∧
    (let s := State.reset
    (s.ended = []) ∧ (s.fio.snapAt = none)) ∧
    (let a : Nat := 3
      let s := State.reset
      let s : State := { s with fio := { s.fio with snapAt := (some a) } }
    (s.ended = []) ∧ (s.fio.snapAt = some a)) ∧
    (let b : Fin 6 := 5
      let mv : BitVec 16 := 0x0000#16
      let s := State.reset
      let s : State := { s with field_ := { s.field_ with up := (true) } }
      let d := s.field_
      let v := mv.toNat
    (d.up = true) ∧ (d.warn.getLsbD b.val = false) ∧ (v < 18000)) ∧
    (let b : Fin 6 := 5
      let mv : BitVec 16 := 0x4a39#16
      let s := State.reset
      let s : State := { s with field_ := { s.field_ with up := (true) } }
      let d := s.field_
      let s : State := { s with field_ := { s.field_ with warn := ((setBitN (d.warn) (b.val) (true))) } }
      let d := s.field_
      let v := mv.toNat
    (d.up = true) ∧ (d.warn.getLsbD b.val = true) ∧ (19000 < v)) ∧
    (let b : Fin 6 := 5
      let mv : BitVec 16 := 0x0000#16
      let s := State.reset
      let s : State := { s with field_ := { s.field_ with up := (true) } }
      let d := s.field_
      let v := mv.toNat
    (d.up = true) ∧ (d.uvlo.getLsbD b.val = false) ∧ (v < 9500)) ∧
    (let b : Fin 6 := 5
      let mv : BitVec 16 := 0x2af9#16
      let s := State.reset
      let s : State := { s with field_ := { s.field_ with up := (true) } }
      let d := s.field_
      let s : State := { s with field_ := { s.field_ with uvlo := ((setBitN (d.uvlo) (b.val) (true))) } }
      let d := s.field_
      let v := mv.toNat
    (d.up = true) ∧ (d.uvlo.getLsbD b.val = true) ∧ (11000 < v)) :=
  ⟨by decide +kernel,
    by decide +kernel,
    by decide +kernel,
    by decide +kernel,
    by decide +kernel,
    by decide +kernel,
    by decide +kernel,
    by decide +kernel⟩

theorem met_FieldDieChannelsAndFaults_3 :
    (let mv : BitVec 16 := 0x4650#16
      let s := State.reset
      let v := mv.toNat
    (18000 ≤ v)) ∧
    (let mv : BitVec 16 := 0x0000#16
      let s := State.reset
      let v := mv.toNat
    (v ≤ 19000)) ∧
    (let mv : BitVec 16 := 0x251c#16
      let s := State.reset
      let v := mv.toNat
    (9500 ≤ v)) ∧
    (let mv : BitVec 16 := 0x0000#16
      let s := State.reset
      let v := mv.toNat
    (v ≤ 11000)) ∧
    (let n : Fin 48 := 1
      let since : Nat := 5
      let s := State.reset
      let s : State := { s with field_ := { s.field_ with diff := [(n.val, some 5)], mm := 0 } }
      let k := n.val
      let d := s.field_
    (SMap.get (fun _ => none) d.diff k = some since) ∧ (d.mm.getLsbD k = false)) ∧
    (let n : Fin 48 := 1
      let s := State.reset
      let k := n.val
      let d := s.field_
    (SMap.get (fun _ => none) d.diff k = none ∨ d.mm.getLsbD k = true)) ∧
    (let n : Fin 48 := 1
      let s := State.reset
      let k := n.val
    (s.fdDriven k = false)) ∧
    (let n : Fin 48 := 47
      let s := State.reset
      let k := n.val
      let s : State := { (s.putBit (Reg.FIO_CFG k) 31 true) with field_ := { s.field_ with cfg := (List.range 48).map (fun q => (q, (0x80000000 : Word))), up := true, outEn := true, cmd := 0xFFFFFFFFFFFF, uvlo := 0, therm := 0 } }
    (s.fdDriven k = true)) :=
  ⟨by decide +kernel,
    by decide +kernel,
    by decide +kernel,
    by decide +kernel,
    by decide +kernel,
    by decide +kernel,
    by decide +kernel,
    by decide +kernel⟩

theorem met_FieldDieChannelsAndFaults_4 :
    (let n : Fin 48 := 1
      let s := State.reset
      let k := n.val
      let d := s.field_
    (d.therm.getLsbD k = false)) ∧
    (let n : Fin 48 := 1
      let s := State.reset
      let k := n.val
      let d := s.field_
      let s : State := { s with field_ := { s.field_ with therm := ((setBitN (d.therm) (k) (true))) } }
      let d := s.field_
    (d.therm.getLsbD k = true)) ∧
    (let mv : BitVec 16 := 0x0000#16
      let s := State.reset
      let d := s.field_
      let v := mv.toNat
    (d.up = true ∨ v < 9000)) ∧
    (let mv : BitVec 16 := 0x2328#16
      let s := State.reset
      let d := s.field_
      let v := mv.toNat
    (d.up = false) ∧ (9000 ≤ v)) ∧
    (let s := State.reset
      let d := s.field_
    (d.up = false ∨ d.silent.isSome = true)) ∧
    (let s := State.reset
      let s : State := { s with field_ := { s.field_ with up := (true) } }
      let d := s.field_
    (d.up = true) ∧ (d.silent = none)) :=
  ⟨by decide +kernel,
    by decide +kernel,
    by decide +kernel,
    by decide +kernel,
    by decide +kernel,
    by decide +kernel⟩

theorem met_FieldLinkFrames :
    (let s := State.reset
      let d := s.field_
    (d.up = false)) ∧
    (let seq : BitVec 8 := 0xfd#8
      let s := State.reset
      let s : State := { s with field_ := { s.field_ with up := (true) } }
      let d := s.field_
    (d.up = true) ∧ (s.fieldSearches = true ∨ seq.toNat = d.seq)) ∧
    (let s := State.reset
      let s : State := { s with field_ := { s.field_ with up := (true) } }
      let d := s.field_
    (d.up = true) ∧ (s.fieldSearches = true)) ∧
    (let s := State.reset
      let s : State := { s with field_ := { s.field_ with up := (true) } }
      let d := s.field_
    (d.up = true) ∧ (s.flkUp = false)) ∧
    (let seq : BitVec 8 := 0x01#8
      let s := State.reset
      let s : State := { s with field_ := { s.field_ with up := (true) } }
      let s : State := s.putBit Reg.DLK_STAT 10 (true)
      let s : State := { s with field_ := { s.field_ with hold := false, silent := none } }
      let d := s.field_
    (d.up = true) ∧ (s.flkUp = true) ∧ (s.fieldSearches = false) ∧ (seq.toNat ≠ d.seq)) ∧
    (let seq : BitVec 8 := 0x01#8
      let s := State.reset
      let s : State := { s with field_ := { s.field_ with up := (true) } }
      let s : State := s.putBit Reg.DLK_STAT 10 (true)
      let d := s.field_
      let l := s.link 10
    (d.up = true) ∧ (s.flkUp = true) ∧ (seq.toNat ≠ l.seq)) ∧
    (let seq : BitVec 8 := 0xfd#8
      let s := State.reset
      let s : State := { s with field_ := { s.field_ with up := (true) } }
      let d := s.field_
      let l := s.link 10
    (d.up = true) ∧ (s.flkUp = true ∧ seq.toNat = l.seq ∨ s.flkUp = false)) :=
  ⟨by decide +kernel,
    by decide +kernel,
    by decide +kernel,
    by decide +kernel,
    by decide +kernel,
    by decide +kernel,
    by decide +kernel⟩

theorem met_EthernetSwitch_1 :
    (let p : Fin 5 := 3
      let s := State.reset
      let port := p.val
    (s.portUp port = false)) ∧
    (let p : Fin 5 := 1
      let s := State.reset
      let port := p.val
      let s : State := (s.putBit Reg.ETH_STAT 4 (true)).putBit Reg.ETH_STAT port (true)
    (s.portUp port = true) ∧ (port ≠ 4)) ∧
    (let p : Fin 5 := 4
      let frame : Bytes := [0x00#8, 0x00#8, 0x00#8, 0x9e#8, 0x00#8]
      let members : Nat := 31
      let untag : Nat := 31
      let s := State.reset
      let port := p.val
      let s : State := (s.putBit Reg.ETH_STAT 4 (true)).putBit Reg.ETH_STAT port (true)
      let f := ethParse false (port == 2 && s.eth.redbox && decide (s.eth.kind ≠ 0)) frame
      let pvid := s.fld (Reg.ETH_PCFG port) 27 16
      let vid := match f.tag with | some (_, x) => if x = 0 then pvid else x | none => pvid
    (s.portUp port = true) ∧ (s.eth.red = 0) ∧ (s.vlanPorts vid = some (members, untag)) ∧ (members.testBit port = true)) ∧
    (let p : Fin 5 := 2
      let frame : Bytes := [0x3c#8, 0x00#8, 0x00#8, 0x3c#8, 0x00#8, 0xff#8, 0x77#8, 0x03#8, 0x69#8, 0x00#8, 0x80#8, 0xff#8, 0x23#8, 0xc3#8, 0x00#8, 0x00#8, 0x93#8, 0xae#8, 0x3c#8, 0x00#8, 0xc8#8, 0x1f#8, 0x02#8, 0x00#8, 0x00#8, 0x72#8, 0x00#8, 0x38#8, 0x53#8, 0x44#8, 0xff#8, 0x03#8, 0x01#8, 0x00#8, 0xb2#8, 0x0c#8, 0x00#8, 0x00#8, 0x00#8, 0xd0#8, 0xf1#8, 0x00#8, 0x33#8, 0x03#8, 0x29#8, 0x00#8, 0x00#8, 0xe6#8, 0xab#8, 0xff#8, 0x04#8, 0x6b#8, 0x3c#8, 0x5a#8, 0x03#8, 0xff#8, 0xa4#8, 0xf7#8, 0x00#8, 0xba#8, 0xbd#8, 0x00#8, 0x00#8, 0xd5#8, 0x55#8, 0xf8#8, 0x05#8, 0x00#8, 0xff#8, 0x18#8, 0xd0#8, 0x00#8, 0x00#8, 0x7b#8, 0x6e#8, 0xdf#8, 0x31#8, 0x00#8, 0x00#8, 0x12#8, 0x00#8, 0x1f#8, 0x3e#8, 0x01#8, 0x8b#8, 0x06#8, 0xed#8, 0x10#8, 0x01#8, 0x00#8, 0x00#8, 0x00#8, 0x0f#8, 0x00#8]
      let members : Nat := 0
      let untag : Nat := 0
      let s := State.reset
      let port := p.val
      let s : State := (s.putBit Reg.ETH_STAT 4 (true)).putBit Reg.ETH_STAT port (true)
      let f := ethParse false (port == 2 && s.eth.redbox && decide (s.eth.kind ≠ 0)) frame
      let pvid := s.fld (Reg.ETH_PCFG port) 27 16
      let vid := match f.tag with | some (_, x) => if x = 0 then pvid else x | none => pvid
      let s : State := s.wr (Reg.ETH_VLAN 0) (w32 (0x80000000 + vid % 4096))
      let f := ethParse false (port == 2 && s.eth.redbox && decide (s.eth.kind ≠ 0)) frame
      let pvid := s.fld (Reg.ETH_PCFG port) 27 16
      let vid := match f.tag with | some (_, x) => if x = 0 then pvid else x | none => pvid
    (s.portUp port = true) ∧ (s.eth.red = 0) ∧ (s.vlanPorts vid = some (members, untag)) ∧ (members.testBit port = false)) ∧
    (let p : Fin 5 := 1
      let s := State.reset
      let port := p.val
    (s.ethHeadOf port = none)) ∧
    (let p : Fin 5 := 1
      let q : Nat := 7
      let f : EFrame := { bytes := [0x08#8, 0x3c#8, 0x00#8, 0x00#8, 0x3c#8, 0x00#8, 0xff#8, 0x77#8, 0x03#8, 0x69#8, 0x00#8, 0x80#8, 0xff#8, 0x23#8, 0xc3#8, 0x00#8, 0x00#8, 0x93#8, 0xae#8, 0x3c#8, 0x00#8, 0xc8#8, 0x1f#8, 0x02#8, 0x00#8, 0x00#8, 0x72#8, 0x00#8, 0x38#8, 0x53#8, 0x44#8, 0xff#8, 0x03#8, 0x01#8, 0x00#8, 0xb2#8, 0x0c#8, 0x00#8, 0x00#8, 0x00#8, 0xd0#8, 0xf1#8, 0x00#8, 0x33#8, 0x03#8, 0x29#8, 0x00#8, 0x00#8, 0xe6#8, 0xab#8, 0xff#8, 0x04#8, 0x6b#8, 0x3c#8, 0x5a#8, 0x03#8, 0xff#8, 0xa4#8, 0xf7#8, 0x00#8, 0xba#8, 0xbd#8, 0x00#8, 0x00#8, 0xd5#8, 0x55#8, 0xf8#8, 0x05#8, 0x00#8, 0xff#8, 0x18#8, 0xd0#8, 0x00#8, 0x00#8, 0x7b#8, 0x6e#8, 0xdf#8, 0x31#8, 0x00#8, 0x00#8, 0x12#8, 0x00#8, 0x1f#8, 0x3e#8, 0x01#8, 0x8b#8, 0x06#8, 0xed#8, 0x10#8, 0x01#8, 0x00#8, 0x00#8, 0x00#8, 0x00#8, 0x00#8, 0x07#8, 0x40#8, 0x32#8, 0x35#8, 0xe1#8, 0x37#8, 0x00#8, 0x0c#8, 0x00#8], inPort := 0, inCnt := 0, inAdj := 3278, inAt := 1, goose := none }
      let s := State.reset
      let port := p.val
      let s : State := (s.putBit Reg.ETH_STAT 4 (true)).putBit Reg.ETH_STAT port (true)
      let s : State := s.ethMod (fun u => { u with queues := [(8 * port + q, [f])] })
    (s.portUp port = true) ∧ (s.ethHeadOf port = some (q, f))) ∧
    (let s := State.reset
    (s.eth.red ≠ 1 ∨ s.netOn = false)) ∧
    (let s := State.reset
      let s : State := { s with eth := { s.eth with red := (1) } }
      let s : State := s.putBit Reg.ETH_STAT 4 (true)
    (s.eth.red = 1) ∧ (s.netOn = true)) :=
  ⟨by decide +kernel,
    by decide +kernel,
    by decide +kernel,
    by decide +kernel,
    by decide +kernel,
    by decide +kernel,
    by decide +kernel,
    by decide +kernel⟩

theorem met_EthernetSwitch_2 :
    (let mac : BitVec 48 := 0x00000000ce04#48
      let s := State.reset
    (s.lookup mac.toNat = none)) ∧
    (let mac : BitVec 48 := 0x000000000000#48
      let d : Nat := 55
      let s := State.reset
      let s : State := s.ethMod (fun u => { u with fdb := [{ mac := mac.toNat, x := d, cnt := 0 }] })
    (s.lookup mac.toNat = some d)) ∧
    (let pl : Fin 4 := 3
      let up : Bool := true
      let s := State.reset
      let on := up && s.netOn && decide (s.fld (Reg.ETH_PCFG pl.val) 2 0 ≠ 0)
    (s.bit Reg.ETH_STAT pl.val = on)) ∧
    (let pl : Fin 4 := 3
      let up : Bool := true
      let s := State.reset
      let on := up && s.netOn && decide (s.fld (Reg.ETH_PCFG pl.val) 2 0 ≠ 0)
      let s : State := s.putBit Reg.ETH_STAT (pl.val) (!on)
      let on := up && s.netOn && decide (s.fld (Reg.ETH_PCFG pl.val) 2 0 ≠ 0)
    (s.bit Reg.ETH_STAT pl.val ≠ on)) ∧
    (let pr : Fin 2 := 1
      let s := State.reset
    (s.bit (Reg.ETH_PSTAT pr.val) 3 = false)) ∧
    (let pr : Fin 2 := 1
      let s := State.reset
      let s : State := s.putBit (Reg.ETH_PSTAT pr.val) (3) (true)
    (s.bit (Reg.ETH_PSTAT pr.val) 3 = true)) ∧
    (let r : Req := Req.sup1
      let v : Word := 0x00000030#32
      let s := State.reset
      let s : State := { s with hbiReady := (true), power := { s.power with off := false, cause := if (true) then 0 else 1 } }
    (field v 1 0 = 3 ∨ field v 5 4 = 3) ∧ (s.served r = true)) ∧
    (let r : Req := Req.sup0
      let v : Word := 0x00000000#32
      let s := State.reset
      let s : State := { s with hbiReady := (true), power := { s.power with off := false, cause := if (true) then 0 else 1 } }
    (field v 1 0 ≠ 3) ∧ (field v 5 4 ≠ 3) ∧ (s.served r = true)) :=
  ⟨by decide +kernel,
    by decide +kernel,
    by decide +kernel,
    by decide +kernel,
    by decide +kernel,
    by decide +kernel,
    by decide +kernel,
    by decide +kernel⟩

theorem met_EthernetSwitch_3 :
    (let r : Req := Req.sup0
      let x : TxStamp := { sec := 61, ns := 2, port := 0, mtype := 92, seq := 3 }
      let xs : List TxStamp := []
      let s := State.reset
      let s : State := s.ethMod (fun u => { u with txts := x :: xs })
      let s : State := { s with hbiReady := (true), power := { s.power with off := false, cause := if (true) then 0 else 1 } }
    (s.eth.txts = x :: xs) ∧ (xs.length < 64) ∧ (s.served r = true)) ∧
    (let r : Req := Req.sup1
      let s := State.reset
      let s : State := { s with hbiReady := (true), power := { s.power with off := false, cause := if (true) then 0 else 1 } }
    (s.eth.txts = []) ∧ (s.served r = true)) :=
  ⟨by decide +kernel,
    by decide +kernel⟩

theorem met_SampledValuesAndGoose_1 :
    (let n : Fin 16 := 1
      let s := State.reset
      let cnt := Reg.SVS_CNT n.val
    (s.svUser n.val = none ∨ (s.svSlot n.val).miss < 8 ∨ s.bit cnt 31 = true)) ∧
    (let n : Fin 16 := 1
      let u : Nat := 15
      let s := State.reset
      let s : State := ({ s with clSrc := [] }).setClSrc 15 (w32 (0x20001 + 256 * n.val))
      let s : State := s.setSvSlot n.val { (s.svSlot n.val) with miss := ((8)) }
      let cnt := Reg.SVS_CNT n.val
    (s.svUser n.val = some u) ∧ (8 ≤ (s.svSlot n.val).miss) ∧ (s.bit cnt 31 = false)) ∧
    (let n : Fin 16 := 1
      let k : Fin 16 := 1
      let r : Req := Req.host
      let v : Word := 0x00000003#32
      let s := State.reset
      let s : State := { s with hbiReady := (true), power := { s.power with off := false, cause := if (true) then 0 else 1 } }
      let a := 0x20300 + 0x40 * n.val + 4 * k.val
    (k.val ≠ 6) ∧ (k.val ≠ 7) ∧ (s.mayWrite r (0x7000 + n.val) = false ∨ (k.val = 0 ∧ field v 28 27 = 3) ∨ (s.svHeld n.val = true ∧ (k.val ≠ 0 ∨ (s.bit a 31 = true ∧ bitAt v 31 = false) ∨ field v 20 0 ≠ s.fld a 20 0))) ∧ (s.served r = true)) ∧
    (let n : Fin 16 := 1
      let k : Fin 16 := 0
      let r : Req := Req.host
      let v : Word := 0x00030000#32
      let s := State.reset
      let s : State := s.setClaim (0x7000 + n.val) { owner := Req.code r, tag := 0 }
      let s : State := { s with hbiReady := (true), power := { s.power with off := false, cause := if (true) then 0 else 1 } }
      let a := 0x20300 + 0x40 * n.val + 4 * k.val
    (k.val ≠ 6) ∧ (k.val ≠ 7) ∧ (s.mayWrite r (0x7000 + n.val) = true) ∧ (s.svHeld n.val = false ∨ (k.val = 0 ∧ (s.bit a 31 = true → bitAt v 31 = true) ∧ field v 20 0 = s.fld a 20 0)) ∧ ((k.val = 0 → field v 28 27 ≠ 3)) ∧ (s.served r = true)) ∧
    (let c : Fin 16 := 15
      let s := State.reset
      let l := SMap.get (fun _ => []) s.eth.svp c.val
    (l = [])) ∧
    (let n : Fin 16 := 1
      let c : Fin 16 := 15
      let x : SvPubSample := { smpCnt := 4, idx := 100, epoch := 0, vals := [(6663, 0), (674, 0), (19919, 64), (19814, 2), (7626, 0), (11854, 3), (7260, 75), (15603, 3), (10479, 0), (13558, 0), (15434, 0), (17027, 49), (11268, 2), (3278, 1), (11297, 0), (11809, 1), (15639, 64), (15383, 0), (7927, 0), (19273, 0), (18898, 68), (15686, 4294967295), (5144, 1), (17444, 1), (4572, 14), (10302, 2), (8371, 0), (10546, 2149580799), (18001, 0), (11952, 1), (12004, 0), (15589, 0), (7748, 0), (16770, 15), (11692, 56), (12984, 0), (3245, 94), (8995, 0), (9604, 3), (2939, 1), (16172, 59), (16409, 0), (11343, 2), (2556, 0), (17813, 0), (8056, 57), (19925, 3), (16452, 7), (14155, 256), (7798, 3), (10759, 3), (754, 9), (7189, 250000), (14409, 3), (7385, 0), (17734, 11), (5765, 31), (16163, 100), (13788, 7), (10455, 1), (813, 3), (17820, 31), (17000, 0), (10455, 0), (7954, 0), (4267, 0), (19994, 250000), (5918, 12), (13382, 51), (7764, 34), (5985, 5), (3800, 18), (19091, 0), (15237, 0), (16937, 62), (12528, 0), (19524, 12), (4252, 1), (2815, 4), (6499, 78), (8658, 0), (10764, 75), (9050, 0), (8348, 27), (16557, 3), (5656, 0), (5384, 48), (17263, 0), (2194, 268435455), (6800, 0), (14486, 14), (5911, 0), (5124, 0), (17042, 6), (3541, 1), (4400, 100), (3693, 0)] }
      let xs : List SvPubSample := []
      let s := State.reset
      let s : State := { s with tick := { s.tick with regs := [0, 1, 2, 3], running := true }, phase := [] }
      let s : State := (s.setLane (8 * c.val) { s.lane (8 * c.val) with lastSlot := some 7 }).ethMod (fun u => { u with svp := [(c.val, x :: xs)] })
      let l := SMap.get (fun _ => []) s.eth.svp c.val
      let waits (x : SvPubSample) : Prop := x.epoch = s.epoch ∧ s.tickHas (c.val / 4) = true ∧ ∃ n : Fin 8, ∀ y, (s.lane (8 * c.val + n.val)).lastSlot = some y → y < (if x.smpCnt % 2 = 0 then x.idx + 1 else x.idx)
    (l = x :: xs) ∧ (waits x)) ∧
    (let n : Fin 16 := 15
      let c : Fin 16 := 0
      let x : SvPubSample := { smpCnt := 4, idx := 100, epoch := 0, vals := [(7349, 0), (5683, 12), (7471, 0), (11724, 51), (3632, 2), (14987, 0), (8467, 8), (14105, 92), (11151, 4), (11925, 6), (2907, 16), (6893, 2), (12593, 0), (17995, 1), (4626, 2), (13207, 12), (2796, 17), (10044, 1), (6053, 2), (10127, 19), (3579, 0), (14589, 3), (6330, 5), (8169, 86), (1197, 0), (18127, 1), (6716, 100), (7792, 0), (14056, 0), (9279, 3), (3081, 63), (9445, 33), (8199, 2), (10637, 2), (19002, 0), (9252, 78), (9060, 23), (3469, 256), (2030, 1), (12008, 0), (2599, 31), (2504, 20), (3970, 60), (369, 92), (9635, 1), (5994, 0), (11896, 2), (7678, 9), (17192, 6), (4540, 25), (9479, 88), (16726, 34), (2734, 0), (18898, 0), (9126, 2), (11755, 3), (2288, 0), (18149, 256), (3742, 32), (19927, 25), (14761, 0), (13555, 0), (2123, 3), (9306, 12), (15644, 2), (6235, 5), (15459, 23), (2959, 0), (13816, 0), (2518, 2), (5175, 2), (4266, 21), (11636, 0), (15491, 82), (293, 0), (3203, 0), (8584, 34), (5592, 0), (8368, 1), (5218, 14), (9772, 89), (15901, 2), (7489, 79), (2105, 7), (19975, 3), (19304, 4), (16867, 3), (2275, 3), (15288, 31), (11700, 0), (8036, 40), (18400, 70), (9513, 28672), (15943, 73), (5552, 3), (6028, 1), (9103, 3), (15722, 4), (9394, 1)] }
      let xs : List SvPubSample := []
      let s := State.reset
      let s : State := s.ethMod (fun u => { u with svp := [(c.val, x :: xs)] })
      let l := SMap.get (fun _ => []) s.eth.svp c.val
      let waits (x : SvPubSample) : Prop := x.epoch = s.epoch ∧ s.tickHas (c.val / 4) = true ∧ ∃ n : Fin 8, ∀ y, (s.lane (8 * c.val + n.val)).lastSlot = some y → y < (if x.smpCnt % 2 = 0 then x.idx + 1 else x.idx)
    (l = x :: xs) ∧ (¬ waits x)) ∧
    (let e : Fin 128 := 127
      let s := State.reset
    ((s.gse e.val).endAt = none)) :=
  ⟨by decide +kernel,
    by decide +kernel,
    by decide +kernel,
    by decide +kernel,
    by decide +kernel,
    by decide +kernel,
    by decide +kernel,
    by decide +kernel⟩

theorem met_SampledValuesAndGoose_2 :
    (let e : Fin 128 := 127
      let x : Nat := 3
      let s := State.reset
      let s : State := s.setGse e.val { (s.gse e.val) with endAt := (some x) }
    ((s.gse e.val).endAt = some x)) ∧
    (let r : Req := Req.host
      let v : Word := 0x00000003#32
      let s := State.reset
      let s : State := { s with hbiReady := (true), power := { s.power with off := false, cause := if (true) then 0 else 1 } }
    (bitAt v 31 = false) ∧ (s.served r = true)) ∧
    (let g : Fin 8 := 0
      let r : Req := Req.host
      let v : Word := 0x80000003#32
      let s := State.reset
      let s : State := { s with hbiReady := (true), power := { s.power with off := false, cause := if (true) then 0 else 1 } }
      let i := g.val
      let tpl := s.sharedBytes (s.fld (Reg.GPUB_ADDR i) 23 2 * 4) (s.fld (Reg.GPUB_LEN i) 10 0)
    (bitAt v 31 = true) ∧ (s.tplOk i tpl = false) ∧ (s.served r = true)) ∧
    (let g : Fin 8 := 0
      let r : Req := Req.host
      let v : Word := 0x80000003#32
      let s := State.reset
      let i := g.val
      let s : State := okTpl s i
      let s : State := { s with hbiReady := (true), power := { s.power with off := false, cause := if (true) then 0 else 1 } }
      let tpl := s.sharedBytes (s.fld (Reg.GPUB_ADDR i) 23 2 * 4) (s.fld (Reg.GPUB_LEN i) 10 0)
    (bitAt v 31 = true) ∧ (s.tplOk i tpl = true) ∧ (s.served r = true)) ∧
    (let g : Fin 8 := 0
      let s := State.reset
      let i := g.val
      let ctrl := Reg.GPUB_CTRL i
    ((s.gpub i).next = none ∨ s.bit ctrl 31 = false ∨ s.sapwood = true)) ∧
    (let g : Fin 8 := 0
      let x : Nat := 3
      let s := State.reset
      let i := g.val
      let s : State := s.setGpub i { (s.gpub i) with next := (some x) }
      let ctrl := Reg.GPUB_CTRL i
      let s : State := s.putBit ctrl (31) (true)
    ((s.gpub i).next = some x) ∧ (s.bit ctrl 31 = true) ∧ (s.sapwood = false)) ∧
    (let r : Req := Req.host
      let s := State.reset
      let s : State := { s with hbiReady := (true), power := { s.power with off := false, cause := if (true) then 0 else 1 } }
    (s.tblKey = none) ∧ (s.served r = true)) ∧
    (let r : Req := Req.host
      let a : Nat := 2736850880
      let s := State.reset
      let s : State := s.wr Reg.ETH_TBL_SEL 0x20000F10
      let s : State := { s with hbiReady := (true), power := { s.power with off := false, cause := if (true) then 0 else 1 } }
      let sel := s.rd Reg.ETH_TBL_SEL
      let w := field sel 7 0
    (s.tblKey = some a) ∧ (field sel 31 28 = 2 ∨ (w ≠ 14 ∧ w ≠ 15)) ∧ (s.served r = true)) :=
  ⟨by decide +kernel,
    by decide +kernel,
    by decide +kernel,
    by decide +kernel,
    by decide +kernel,
    by decide +kernel,
    by decide +kernel,
    by decide +kernel⟩

theorem met_SampledValuesAndGoose_3 :
    (let r : Req := Req.host
      let a : Nat := 2736784376
      let s := State.reset
      let s : State := s.wr Reg.ETH_TBL_SEL 0x20000F10
      let s : State := s.put Reg.ETH_TBL_SEL 31 28 1
      let s : State := s.put Reg.ETH_TBL_SEL 7 0 14
      let s : State := { s with hbiReady := (true), power := { s.power with off := false, cause := if (true) then 0 else 1 } }
      let sel := s.rd Reg.ETH_TBL_SEL
      let w := field sel 7 0
    (s.tblKey = some a) ∧ (field sel 31 28 = 1) ∧ (w = 14) ∧ (s.served r = true)) ∧
    (let r : Req := Req.sup1
      let a : Nat := 2736850880
      let s := State.reset
      let s : State := s.wr Reg.ETH_TBL_SEL 0x20000F10
      let s : State := { s with hbiReady := (true), power := { s.power with off := false, cause := if (true) then 0 else 1 } }
      let sel := s.rd Reg.ETH_TBL_SEL
      let w := field sel 7 0
    (s.tblKey = some a) ∧ (field sel 31 28 = 2) ∧ (w ≠ 0) ∧ (s.served r = true)) ∧
    (let r : Req := Req.host
      let a : Nat := 2736784340
      let s := State.reset
      let s : State := s.wr Reg.ETH_TBL_SEL 0x20000F10
      let s : State := s.put Reg.ETH_TBL_SEL 31 28 1
      let s : State := s.put Reg.ETH_TBL_SEL 7 0 5
      let s : State := { s with hbiReady := (true), power := { s.power with off := false, cause := if (true) then 0 else 1 } }
      let sel := s.rd Reg.ETH_TBL_SEL
      let w := field sel 7 0
    (s.tblKey = some a) ∧ (field sel 31 28 = 1) ∧ (w < 6) ∧ (s.bit (gseKey (field sel 27 8) 0) 31 = false) ∧ (s.served r = true)) ∧
    (let r : Req := Req.host
      let v : Word := 0x80000000#32
      let a : Nat := 2736783360
      let s := State.reset
      let s : State := s.put Reg.ETH_TBL_SEL 31 28 1
      let sel := s.rd Reg.ETH_TBL_SEL
      let s : State := s.putBit (gseKey (field sel 27 8) 0) (31) (true)
      let s : State := { s with hbiReady := (true), power := { s.power with off := false, cause := if (true) then 0 else 1 } }
      let sel := s.rd Reg.ETH_TBL_SEL
      let w := field sel 7 0
    (s.tblKey = some a) ∧ (field sel 31 28 = 1) ∧ (w < 6) ∧ (s.bit (gseKey (field sel 27 8) 0) 31 = true) ∧ (w ≠ 0 ∨ bitAt v 31 = true) ∧ (s.served r = true)) :=
  ⟨by decide +kernel,
    by decide +kernel,
    by decide +kernel,
    by decide +kernel⟩

theorem met_CanSettingsAndObjects_1 :
    (let c : Fin 4 := 1
      let r : Req := Req.sup0
      let s := State.reset
      let s : State := { s with hbiReady := (true), power := { s.power with off := false, cause := if (true) then 0 else 1 } }
      let k := c.val
      let ctrl := Reg.CAN_CTRL k
      let old := s.rd ctrl
    (bitAt old 31 = true) ∧ (s.canTimingOk k = true) ∧ (s.served r = true)) ∧
    (let c : Fin 4 := 1
      let r : Req := Req.sup0
      let s := State.reset
      let k := c.val
      let s : State := s.wr (Reg.CAN_NBT k) 0
      let s : State := { s with hbiReady := (true), power := { s.power with off := false, cause := if (true) then 0 else 1 } }
      let ctrl := Reg.CAN_CTRL k
      let old := s.rd ctrl
    (bitAt old 31 = true) ∧ (s.canTimingOk k = false) ∧ (s.served r = true)) ∧
    (let c : Fin 4 := 1
      let r : Req := Req.sup0
      let v : Word := 0x10000000#32
      let s := State.reset
      let k := c.val
      let ctrl := Reg.CAN_CTRL k
      let s : State := s.putBit ctrl (31) (false)
      let s : State := { s with hbiReady := (true), power := { s.power with off := false, cause := if (true) then 0 else 1 } }
      let old := s.rd ctrl
      let sameMode := (old ^^^ v) &&& canModeBits = 0
    (bitAt old 31 = false) ∧ (¬ sameMode) ∧ (s.served r = true)) ∧
    (let c : Fin 4 := 1
      let r : Req := Req.sup0
      let v : Word := 0x80000000#32
      let s := State.reset
      let k := c.val
      let ctrl := Reg.CAN_CTRL k
      let s : State := s.putBit ctrl (31) (false)
      let s : State := s.put (Reg.CAN_STAT k) 31 29 (if (true) then 3 else 1)
      let s : State := { s with hbiReady := (true), power := { s.power with off := false, cause := if (true) then 0 else 1 } }
      let old := s.rd ctrl
      let sameMode := (old ^^^ v) &&& canModeBits = 0
    (bitAt old 31 = false) ∧ (sameMode) ∧ (s.canOff k = true) ∧ (s.served r = true)) ∧
    (let c : Fin 4 := 1
      let r : Req := Req.sup0
      let v : Word := 0x80000000#32
      let s := State.reset
      let k := c.val
      let ctrl := Reg.CAN_CTRL k
      let s : State := s.putBit ctrl (31) (false)
      let s : State := s.setCan k { (s.can k) with cur := (some 0) }
      let s : State := { s with hbiReady := (true), power := { s.power with off := false, cause := if (true) then 0 else 1 } }
      let old := s.rd ctrl
      let u := s.can k
      let sameMode := (old ^^^ v) &&& canModeBits = 0
    (bitAt old 31 = false) ∧ (sameMode) ∧ (s.canOff k = false) ∧ (u.cur ≠ none) ∧ (s.served r = true)) ∧
    (let c : Fin 4 := 1
      let v : Word := 0x80000000#32
      let s := State.reset
      let k := c.val
      let ctrl := Reg.CAN_CTRL k
      let s : State := s.putBit ctrl (31) (false)
      let old := s.rd ctrl
      let u := s.can k
      let sameMode := (old ^^^ v) &&& canModeBits = 0
    (bitAt old 31 = false) ∧ (sameMode) ∧ (s.canOff k = false) ∧ (u.cur = none)) ∧
    (let c : Fin 4 := 1
      let r : Req := Req.sup0
      let s := State.reset
      let k := c.val
      let s : State := s.setCan k { (s.can k) with initReq := (true) }
      let s : State := { s with hbiReady := (true), power := { s.power with off := false, cause := if (true) then 0 else 1 } }
      let u := s.can k
    (u.initReq = true) ∧ (u.cur = none) ∧ (s.served r = true)) ∧
    (let c : Fin 4 := 1
      let s := State.reset
      let k := c.val
      let u := s.can k
    (u.initReq = false ∨ u.cur ≠ none)) :=
  ⟨by decide +kernel,
    by decide +kernel,
    by decide +kernel,
    by decide +kernel,
    by decide +kernel,
    by decide +kernel,
    by decide +kernel,
    by decide +kernel⟩

theorem met_CanSettingsAndObjects_2 :
    (let c : Fin 4 := 1
      let s := State.reset
      let k := c.val
      let ctrl := Reg.CAN_CTRL k
      let s : State := s.putBit ctrl (31) (false)
      let old := s.rd ctrl
    (s.canState k = 0) ∧ (bitAt old 31 = false)) ∧
    (let c : Fin 4 := 1
      let s := State.reset
      let k := c.val
      let ctrl := Reg.CAN_CTRL k
      let old := s.rd ctrl
    (s.canState k ≠ 0 ∨ bitAt old 31 = true)) ∧
    (let c : Fin 4 := 1
      let r : Req := Req.sup0
      let s := State.reset
      let k := c.val
      let s : State := s.put (Reg.CAN_STAT k) 31 29 (3)
      let s : State := { s with hbiReady := (true), power := { s.power with off := false, cause := if (true) then 0 else 1 } }
    (s.canState k = 3) ∧ (s.served r = true)) ∧
    (let c : Fin 4 := 1
      let r : Req := Req.sup0
      let s := State.reset
      let s : State := { s with hbiReady := (true), power := { s.power with off := false, cause := if (true) then 0 else 1 } }
      let k := c.val
    (s.canState k ≠ 3) ∧ (s.served r = true)) ∧
    (let c : Fin 4 := 1
      let s := State.reset
      let k := c.val
      let s : State := s.put (Reg.CAN_STAT k) 31 29 (4)
    (s.canState k = 4)) ∧
    (let c : Fin 4 := 1
      let s := State.reset
      let k := c.val
    (s.canState k ≠ 4)) ∧
    (let c : Fin 4 := 1
      let r : Req := Req.sup0
      let s := State.reset
      let s : State := { s with hbiReady := (true), power := { s.power with off := false, cause := if (true) then 0 else 1 } }
      let k := c.val
      let m := s.canSel k r.window
      let may := s.canMay r k m
    (may = false) ∧ (s.served r = true)) ∧
    (let c : Fin 4 := 1
      let r : Req := Req.sup0
      let s := State.reset
      let k := c.val
      let m := s.canSel k r.window
      let s : State := s.setClaim (canRes k m) { owner := Req.code r, tag := 0 }
      let s : State := (s.putBit Reg.PAIR_CFG 31 (true)).put Reg.PAIR_STAT 31 29 (if (true) then 1 else 2)
      let s : State := { s with hbiReady := (true), power := { s.power with off := false, cause := if (true) then 0 else 1 } }
      let m := s.canSel k r.window
      let may := s.canMay r k m
    (may = true) ∧ (s.sapwood = true) ∧ (s.served r = true)) :=
  ⟨by decide +kernel,
    by decide +kernel,
    by decide +kernel,
    by decide +kernel,
    by decide +kernel,
    by decide +kernel,
    by decide +kernel,
    by decide +kernel⟩

theorem met_CanSettingsAndObjects_3 :
    (let c : Fin 4 := 1
      let r : Req := Req.sup0
      let s := State.reset
      let k := c.val
      let m := s.canSel k r.window
      let s : State := s.setClaim (canRes k m) { owner := Req.code r, tag := 0 }
      let m := s.canSel k r.window
      let obj := canObj k m
      let s : State := (s.putBit (obj 0) 31 true).putBit (obj 0) 30 true
      let s : State := { s with hbiReady := (true), power := { s.power with off := false, cause := if (true) then 0 else 1 } }
      let m := s.canSel k r.window
      let obj := canObj k m
      let may := s.canMay r k m
    (may = true) ∧ (s.sapwood = false) ∧ ((s.bit (obj 0) 31 && s.bit (obj 0) 30) = true) ∧ (s.objState k m ≠ 1) ∧ (s.objState k m ≠ 2) ∧ (s.objState k m ≠ 6) ∧ (s.served r = true)) ∧
    (let c : Fin 4 := 1
      let r : Req := Req.sup0
      let s := State.reset
      let k := c.val
      let m := s.canSel k r.window
      let s : State := s.setClaim (canRes k m) { owner := Req.code r, tag := 0 }
      let m := s.canSel k r.window
      let obj := canObj k m
      let s : State := (s.putBit (obj 0) 31 true).putBit (obj 0) 30 true
      let m := s.canSel k r.window
      let s : State := s.put (canObj k m 3) 31 29 (2)
      let s : State := { s with hbiReady := (true), power := { s.power with off := false, cause := if (true) then 0 else 1 } }
      let m := s.canSel k r.window
      let obj := canObj k m
      let may := s.canMay r k m
    (may = true) ∧ (s.sapwood = false) ∧ ((s.bit (obj 0) 31 && s.bit (obj 0) 30) = true) ∧ (s.objState k m = 2) ∧ (s.served r = true)) ∧
    (let c : Fin 4 := 1
      let r : Req := Req.sup0
      let s := State.reset
      let k := c.val
      let m := s.canSel k r.window
      let s : State := s.setClaim (canRes k m) { owner := Req.code r, tag := 0 }
      let m := s.canSel k r.window
      let s : State := s.put (canObj k m 3) 31 29 (6)
      let s : State := { s with hbiReady := (true), power := { s.power with off := false, cause := if (true) then 0 else 1 } }
      let m := s.canSel k r.window
      let may := s.canMay r k m
    (may = true) ∧ (s.objState k m = 1 ∨ s.objState k m = 6) ∧ (s.served r = true)) ∧
    (let c : Fin 4 := 1
      let r : Req := Req.sup0
      let w : Fin 24 := 8
      let s := State.reset
      let k := c.val
      let m := s.canSel k r.window
      let s : State := s.setClaim (canRes k m) { owner := Req.code r, tag := 0 }
      let s : State := { s with hbiReady := (true), power := { s.power with off := false, cause := if (true) then 0 else 1 } }
      let u := s.can k
      let m := s.canSel k r.window
      let may := s.canMay r k m
    (may = true) ∧ (8 ≤ w.val) ∧ (u.cur ≠ some m) ∧ (s.served r = true)) ∧
    (let c : Fin 4 := 1
      let r : Req := Req.sup0
      let w : Fin 24 := 8
      let s := State.reset
      let k := c.val
      let m := s.canSel k r.window
      let s : State := s.setClaim (canRes k m) { owner := Req.code r, tag := 0 }
      let m := s.canSel k r.window
      let s : State := s.setCan k { (s.can k) with cur := (some m) }
      let s : State := { s with hbiReady := (true), power := { s.power with off := false, cause := if (true) then 0 else 1 } }
      let u := s.can k
      let m := s.canSel k r.window
      let may := s.canMay r k m
    (may = true) ∧ (8 ≤ w.val) ∧ (u.cur = some m) ∧ (s.served r = true)) ∧
    (let c : Fin 4 := 1
      let r : Req := Req.sup0
      let w : Fin 24 := 7
      let s := State.reset
      let k := c.val
      let m := s.canSel k r.window
      let s : State := s.setClaim (canRes k m) { owner := Req.code r, tag := 0 }
      let s : State := { s with hbiReady := (true), power := { s.power with off := false, cause := if (true) then 0 else 1 } }
      let m := s.canSel k r.window
      let may := s.canMay r k m
    (may = true) ∧ (3 ≤ w.val) ∧ (w.val < 8) ∧ (s.served r = true)) ∧
    (let c : Fin 4 := 1
      let r : Req := Req.sup0
      let w : Fin 24 := 0
      let s := State.reset
      let k := c.val
      let m := s.canSel k r.window
      let s : State := s.setClaim (canRes k m) { owner := Req.code r, tag := 0 }
      let m := s.canSel k r.window
      let obj := canObj k m
      let s : State := s.putBit (obj 0) (31) (true)
      let ctrl := Reg.CAN_CTRL k
      let s : State := s.putBit ctrl (31) (false)
      let s : State := { s with hbiReady := (true), power := { s.power with off := false, cause := if (true) then 0 else 1 } }
      let old := s.rd ctrl
      let m := s.canSel k r.window
      let obj := canObj k m
      let may := s.canMay r k m
    (may = true) ∧ (w.val < 3) ∧ (s.bit (obj 0) 31 = true) ∧ (bitAt old 31 = false) ∧ (s.served r = true)) ∧
    (let c : Fin 4 := 3
      let r : Req := Req.sup1
      let v : Word := 0xba10f0ba#32
      let w : Fin 24 := 0
      let s := State.reset
      let k := c.val
      let m := s.canSel k r.window
      let s : State := s.setClaim (canRes k m) { owner := Req.code r, tag := 0 }
      let s : State := { s with hbiReady := (true), power := { s.power with off := false, cause := if (true) then 0 else 1 } }
      let ctrl := Reg.CAN_CTRL k
      let old := s.rd ctrl
      let m := s.canSel k r.window
      let obj := canObj k m
      let may := s.canMay r k m
    (may = true) ∧ (w.val = 0) ∧ (s.bit (obj 0) 31 = false ∨ bitAt old 31 = true) ∧ ((bitAt v 31 && bitAt v 28 && (bitAt v 26 || !bitAt old 30)) = true) ∧ (s.served r = true)) :=
  ⟨by decide +kernel,
    by decide +kernel,
    by decide +kernel,
    by decide +kernel,
    by decide +kernel,
    by decide +kernel,
    by decide +kernel,
    by decide +kernel⟩

theorem met_CanSettingsAndObjects_4 :
    (let c : Fin 4 := 1
      let r : Req := Req.sup0
      let v : Word := 0x00000001#32
      let w : Fin 24 := 0
      let s := State.reset
      let k := c.val
      let m := s.canSel k r.window
      let s : State := s.setClaim (canRes k m) { owner := Req.code r, tag := 0 }
      let s : State := { s with hbiReady := (true), power := { s.power with off := false, cause := if (true) then 0 else 1 } }
      let ctrl := Reg.CAN_CTRL k
      let old := s.rd ctrl
      let m := s.canSel k r.window
      let obj := canObj k m
      let may := s.canMay r k m
    (may = true) ∧ (w.val = 0) ∧ (s.bit (obj 0) 31 = false ∨ bitAt old 31 = true) ∧ ((bitAt v 31 && bitAt v 28 && (bitAt v 26 || !bitAt old 30)) = false) ∧ (s.served r = true)) ∧
    (let c : Fin 4 := 1
      let r : Req := Req.sup0
      let w : Fin 24 := 2
      let s := State.reset
      let k := c.val
      let m := s.canSel k r.window
      let s : State := s.setClaim (canRes k m) { owner := Req.code r, tag := 0 }
      let s : State := { s with hbiReady := (true), power := { s.power with off := false, cause := if (true) then 0 else 1 } }
      let ctrl := Reg.CAN_CTRL k
      let old := s.rd ctrl
      let m := s.canSel k r.window
      let obj := canObj k m
      let may := s.canMay r k m
    (may = true) ∧ (w.val = 1 ∨ w.val = 2) ∧ (s.bit (obj 0) 31 = false ∨ bitAt old 31 = true) ∧ (s.served r = true)) :=
  ⟨by decide +kernel,
    by decide +kernel⟩

theorem met_CanFramesAndErrors_1 :
    (let c : Fin 4 := 1
      let m : Nat := 127
      let s := State.reset
      let k := c.val
      let s : State := (s.put (Reg.CAN_STAT k) 31 29 1).putBit Reg.PAIR_CFG 31 false
      let s : State := s.put (canObj k 127 3) 31 29 1
      let u := s.can k
      let ctrl := Reg.CAN_CTRL k
      let active := (s.canState k = 1 ∨ s.canState k = 2) ∧ u.integ = false
      let silent := s.bit ctrl 28 || s.bit ctrl 27 || s.sapwood
    (active) ∧ (silent = false) ∧ (u.cur = none) ∧ (u.initReq = false) ∧ (s.canWinner k = some m)) ∧
    (let c : Fin 4 := 1
      let s := State.reset
      let k := c.val
      let u := s.can k
      let ctrl := Reg.CAN_CTRL k
      let active := (s.canState k = 1 ∨ s.canState k = 2) ∧ u.integ = false
      let silent := s.bit ctrl 28 || s.bit ctrl 27 || s.sapwood
    (¬ active ∨ silent = true ∨ u.cur ≠ none ∨ u.initReq = true ∨ s.canWinner k = none)) ∧
    (let c : Fin 4 := 3
      let m : Nat := 127
      let g : CanFrame := { ide := true, fdf := false, brs := false, esi := false, rtr := false, id := 0x00000b50#29, dlc := 3, data := [0x29#8, 0x00#8, 0x00#8, 0x00#8, 0x00#8, 0x20#8, 0x10#8, 0x00#8, 0x01#8, 0x00#8, 0x9e#8, 0xd6#8, 0x85#8, 0x8d#8, 0xca#8, 0xb5#8, 0x15#8, 0x00#8, 0x00#8, 0x00#8, 0x5d#8, 0xff#8, 0x02#8, 0x1a#8, 0x20#8, 0x0d#8, 0x76#8, 0x00#8, 0x00#8, 0x1b#8, 0xd9#8, 0x62#8, 0x9c#8, 0x4d#8, 0x00#8, 0xb0#8, 0x00#8, 0xc2#8, 0x0f#8, 0x00#8, 0x00#8, 0x17#8, 0x1b#8, 0x9a#8] }
      let s := State.reset
      let k := c.val
      let s : State := s.setCan k { s.can k with cur := some m }
      let s : State := s.setCan k { (s.can k) with out := (some g) }
      let u := s.can k
      let ctrl := Reg.CAN_CTRL k
    (u.cur = some m) ∧ (m < 128) ∧ (u.out = some g) ∧ (u.held = []) ∧ ((g.brs && s.bit ctrl 29) = false)) ∧
    (let c : Fin 4 := 1
      let why : CanErr := CanErr.crc
      let s := State.reset
      let k := c.val
      let u := s.can k
      let active := (s.canState k = 1 ∨ s.canState k = 2) ∧ u.integ = false
    (why = .pxe ∨ (u.cur = none ∧ (u.mine = false ∨ ¬ active ∨ why = .arb)))) ∧
    (let c : Fin 4 := 1
      let why : CanErr := CanErr.bit
      let s := State.reset
      let k := c.val
      let s : State := s.setCan k { (s.can k) with mine := (true) }
      let s : State := (s.put (Reg.CAN_STAT k) 31 29 1).putBit Reg.PAIR_CFG 31 false
      let u := s.can k
      let active := (s.canState k = 1 ∨ s.canState k = 2) ∧ u.integ = false
    (u.cur = none) ∧ (u.mine = true) ∧ (active) ∧ (why ≠ .arb) ∧ (why ≠ .pxe)) ∧
    (let c : Fin 4 := 1
      let why : CanErr := CanErr.crc
      let m : Nat := 127
      let s := State.reset
      let k := c.val
      let s : State := s.setCan k { s.can k with cur := some m }
      let u := s.can k
    (u.cur = some m) ∧ (m < 128) ∧ (u.held = []) ∧ (why ≠ .pxe)) ∧
    (let c : Fin 4 := 1
      let s := State.reset
      let k := c.val
      let u := s.can k
      let active := (s.canState k = 1 ∨ s.canState k = 2) ∧ u.integ = false
    (¬ active ∨ u.cur ≠ none)) ∧
    (let c : Fin 4 := 3
      let f : CanFrame := { ide := true, fdf := true, brs := true, esi := true, rtr := false, id := 0x00000000#29, dlc := 3, data := [0x20#8, 0x00#8, 0x6b#8] }
      let s := State.reset
      let k := c.val
      let s : State := (s.put (Reg.CAN_STAT k) 31 29 2).putBit Reg.PAIR_CFG 31 false
      let u := s.can k
      let ctrl := Reg.CAN_CTRL k
      let active := (s.canState k = 1 ∨ s.canState k = 2) ∧ u.integ = false
    (active) ∧ (u.cur = none) ∧ ((f.fdf && !s.bit ctrl 30) = true) ∧ (s.bit ctrl 25 = false)) :=
  ⟨by decide +kernel,
    by decide +kernel,
    by decide +kernel,
    by decide +kernel,
    by decide +kernel,
    by decide +kernel,
    by decide +kernel,
    by decide +kernel⟩

theorem met_CanFramesAndErrors_2 :
    (let c : Fin 4 := 3
      let f : CanFrame := { ide := true, fdf := true, brs := true, esi := true, rtr := false, id := 0x00000000#29, dlc := 3, data := [0x20#8, 0x00#8, 0x6b#8] }
      let s := State.reset
      let k := c.val
      let s : State := (s.put (Reg.CAN_STAT k) 31 29 2).putBit Reg.PAIR_CFG 31 false
      let ctrl := Reg.CAN_CTRL k
      let s : State := s.putBit ctrl (25) (true)
      let u := s.can k
      let active := (s.canState k = 1 ∨ s.canState k = 2) ∧ u.integ = false
    (active) ∧ (u.cur = none) ∧ ((f.fdf && !s.bit ctrl 30) = true) ∧ (s.bit ctrl 25 = true)) ∧
    (let c : Fin 4 := 1
      let f : CanFrame := { ide := false, fdf := false, brs := false, esi := true, rtr := true, id := 0x00000000#29, dlc := 1, data := [0xf1#8, 0x00#8, 0x33#8, 0x03#8, 0x29#8, 0x00#8, 0x00#8, 0xe6#8, 0xab#8, 0x0f#8, 0x00#8, 0x6b#8, 0x00#8, 0x5a#8, 0x02#8, 0x02#8, 0xa4#8, 0xf7#8, 0x00#8, 0xba#8, 0xbd#8, 0x02#8, 0x0b#8, 0xd5#8, 0x55#8, 0xf8#8, 0x3c#8, 0x00#8, 0x03#8, 0x18#8, 0xd0#8, 0x20#8, 0x00#8, 0x7b#8, 0x6e#8, 0xdf#8, 0x31#8, 0x00#8, 0x00#8, 0x12#8, 0x00#8, 0x03#8, 0x3e#8, 0x1c#8, 0x8b#8, 0x00#8, 0xed#8, 0x00#8, 0x00#8, 0x00#8, 0x00#8, 0x00#8, 0x00#8, 0x00#8, 0x00#8, 0x00#8, 0x32#8, 0x35#8, 0xe1#8, 0x00#8, 0x08#8, 0x1e#8, 0x94#8, 0x64#8, 0x10#8, 0x00#8, 0x00#8, 0x00#8, 0x04#8, 0x48#8, 0x6f#8, 0x00#8, 0x00#8, 0xf4#8, 0x06#8, 0x4c#8] }
      let m : Nat := 0
      let s := State.reset
      let k := c.val
      let s : State := (s.put (Reg.CAN_STAT k) 31 29 1).putBit Reg.PAIR_CFG 31 false
      let s : State := ((s.wr (canObj k 0 0) 0x80000000).wr (canObj k 0 2) 0)
      let u := s.can k
      let ctrl := Reg.CAN_CTRL k
      let active := (s.canState k = 1 ∨ s.canState k = 2) ∧ u.integ = false
    (active) ∧ (u.cur = none) ∧ ((f.fdf && !s.bit ctrl 30) = false) ∧ (s.canTaker k f = some m)) ∧
    (let c : Fin 4 := 1
      let f : CanFrame := { ide := false, fdf := false, brs := false, esi := true, rtr := true, id := 0x00000000#29, dlc := 1, data := [0xf1#8, 0x00#8, 0x33#8, 0x03#8, 0x29#8, 0x00#8, 0x00#8, 0xe6#8, 0xab#8, 0x0f#8, 0x00#8, 0x6b#8, 0x00#8, 0x5a#8, 0x02#8, 0x02#8, 0xa4#8, 0xf7#8, 0x00#8, 0xba#8, 0xbd#8, 0x02#8, 0x0b#8, 0xd5#8, 0x55#8, 0xf8#8, 0x3c#8, 0x00#8, 0x03#8, 0x18#8, 0xd0#8, 0x20#8, 0x00#8, 0x7b#8, 0x6e#8, 0xdf#8, 0x31#8, 0x00#8, 0x00#8, 0x12#8, 0x00#8, 0x03#8, 0x3e#8, 0x1c#8, 0x8b#8, 0x00#8, 0xed#8, 0x00#8, 0x00#8, 0x00#8, 0x00#8, 0x00#8, 0x00#8, 0x00#8, 0x00#8, 0x00#8, 0x32#8, 0x35#8, 0xe1#8, 0x00#8, 0x08#8, 0x1e#8, 0x94#8, 0x64#8, 0x10#8, 0x00#8, 0x00#8, 0x00#8, 0x04#8, 0x48#8, 0x6f#8, 0x00#8, 0x00#8, 0xf4#8, 0x06#8, 0x4c#8] }
      let s := State.reset
      let k := c.val
      let s : State := (s.put (Reg.CAN_STAT k) 31 29 1).putBit Reg.PAIR_CFG 31 false
      let u := s.can k
      let ctrl := Reg.CAN_CTRL k
      let active := (s.canState k = 1 ∨ s.canState k = 2) ∧ u.integ = false
    (active) ∧ (u.cur = none) ∧ ((f.fdf && !s.bit ctrl 30) = false) ∧ (s.canTaker k f = none)) ∧
    (let c : Fin 4 := 3
      let why : CanErr := CanErr.ack
      let s := State.reset
      let k := c.val
      let s : State := (s.put (Reg.CAN_STAT k) 31 29 2).putBit Reg.PAIR_CFG 31 false
      let u := s.can k
      let active := (s.canState k = 1 ∨ s.canState k = 2) ∧ u.integ = false
    (active) ∧ (u.cur = none) ∧ (why = .arb ∨ why = .ack)) ∧
    (let c : Fin 4 := 3
      let why : CanErr := CanErr.pxe
      let s := State.reset
      let k := c.val
      let s : State := (s.put (Reg.CAN_STAT k) 31 29 1).putBit Reg.PAIR_CFG 31 false
      let u := s.can k
      let ctrl := Reg.CAN_CTRL k
      let active := (s.canState k = 1 ∨ s.canState k = 2) ∧ u.integ = false
    (active) ∧ (u.cur = none) ∧ (why = .pxe) ∧ (s.bit ctrl 25 = false)) ∧
    (let c : Fin 4 := 1
      let why : CanErr := CanErr.crc
      let s := State.reset
      let k := c.val
      let s : State := (s.put (Reg.CAN_STAT k) 31 29 1).putBit Reg.PAIR_CFG 31 false
      let u := s.can k
      let ctrl := Reg.CAN_CTRL k
      let active := (s.canState k = 1 ∨ s.canState k = 2) ∧ u.integ = false
    (active) ∧ (u.cur = none) ∧ ((why = .pxe ∧ s.bit ctrl 25 = true) ∨ why = .bit ∨ why = .stuff ∨ why = .form ∨ why = .crc)) :=
  ⟨by decide +kernel,
    by decide +kernel,
    by decide +kernel,
    by decide +kernel,
    by decide +kernel,
    by decide +kernel⟩

theorem met_PairLinksAndFrames_1 :
    (let s := State.reset
    (s.paired = false)) ∧
    (let s := State.reset
    (s.pairNet = false)) ∧
    (let l : Fin 2 := 1
      let ok : Bool := true
      let seq : BitVec 16 := 0x0000#16
      let h : PairHb := { sec := 989, idx := 3761, role := 0, pref := true, sync := true, svc := false, holdup := false, ready := true, req := 3, reqIdx := 3508, kind := 0, sentSec := 398, sentNs := 618750715, dev := 0, rck := 3 }
      let e : PairTl := { n := 2, st := 1, bf := 3, cnt := 82, cause := 1, sec := 630, ns := 511534959 }
      let s := State.reset
      let s : State := (s.putBit Reg.PAIR_CFG 31 true).putBit Reg.ETH_STAT 4 true
      let p := s.pair
      let expected := (SMap.get (fun _ => none) p.seqRx l.val).all (fun e => decide (e = seq.toNat))
      let good := ok && expected
    (s.pairNet = true) ∧ (good = true) ∧ (h.role < 8)) ∧
    (let l : Fin 2 := 1
      let ok : Bool := true
      let seq : BitVec 16 := 0x0000#16
      let e : PairTl := { n := 2, st := 1, bf := 3, cnt := 82, cause := 1, sec := 630, ns := 511534959 }
      let s := State.reset
      let s : State := (s.putBit Reg.PAIR_CFG 31 true).putBit Reg.ETH_STAT 4 true
      let s : State := { s with pair := { s.pair with seqRx := [(l.val, some (seq.toNat + 1))] } }
      let p := s.pair
      let expected := (SMap.get (fun _ => none) p.seqRx l.val).all (fun e => decide (e = seq.toNat))
      let good := ok && expected
    (s.pairNet = true) ∧ (good = false)) ∧
    (let l : Fin 2 := 1
      let ok : Bool := true
      let seq : BitVec 16 := 0x0003#16
      let e : PairTl := { n := 0, st := 7, bf := 2, cnt := 29, cause := 4, sec := 652, ns := 925799928 }
      let s := State.reset
      let s : State := (s.putBit Reg.PAIR_CFG 31 true).putBit Reg.ETH_STAT 4 true
      let s : State := s.put Reg.PAIR_STAT 31 29 (1)
      let s : State := s.putBit (Reg.TL_DST1 e.n) 31 (true)
      let s : State := s.put (Reg.TL_STAT e.n) 31 29 (0 + 1)
      let p := s.pair
      let expected := (SMap.get (fun _ => none) p.seqRx l.val).all (fun e => decide (e = seq.toNat))
      let good := ok && expected
    (s.pairNet = true) ∧ (good = true) ∧ (e.n < 64) ∧ (s.role = 1) ∧ (s.tlPair e.n = true) ∧ (s.tlState e.n ≠ 0) ∧ (e.st ≠ 0) ∧ (e.st < 8)) ∧
    (let l : Fin 2 := 1
      let s := State.reset
      let s : State := s.putBit Reg.PAIR_CFG 31 (true)
      let s : State := s.putBit (State.plinkReg l.val) 31 (true)
    (s.paired = true) ∧ (s.plinkUp l.val = true)) ∧
    (let l : Fin 2 := 1
      let s := State.reset
    (s.plinkUp l.val = false)) ∧
    (let s := State.reset
      let s : State := s.putBit Reg.PAIR_CFG 31 (true)
      let s : State := s.put Reg.PAIR_STAT 31 29 (1)
    (s.paired = true) ∧ (s.role = 1)) :=
  ⟨by decide +kernel,
    by decide +kernel,
    by decide +kernel,
    by decide +kernel,
    by decide +kernel,
    by decide +kernel,
    by decide +kernel,
    by decide +kernel⟩

theorem met_PairLinksAndFrames_2 :
    (let s := State.reset
    (s.role ≠ 1)) ∧
    (let s := State.reset
      let s : State := (s.putBit Reg.PAIR_CFG 31 true).putBit Reg.ETH_STAT 4 true
      let s : State := s.put Reg.PAIR_STAT 31 29 (2)
    (s.pairNet = true) ∧ (s.role = 2)) ∧
    (let s := State.reset
    (s.role ≠ 2)) :=
  ⟨by decide +kernel,
    by decide +kernel,
    by decide +kernel⟩

theorem met_PairRolesAndCommands_1 :
    (let v : Word := 0
      let c : Nat := 0
      let s := State.reset
      let now := s.tick.idx
      let idx := if bitAt v 13 then field v 12 0 else (now + 4) % 4800
      let s : State := { s with tick := { s.tick with idx := ((0x1000000) - 1) } }
      let s : State := s.putBit Reg.PAIR_CFG 31 (true)
      let s : State := { s with pair := { s.pair with hand := some (s.tick.idx, c) } }
      let now := s.tick.idx
      let idx := if bitAt v 13 then field v 12 0 else (now + 4) % 4800
      let s : State := { s with pair := { s.pair with req := some { req := 1, idx := s.tick.idx, kind := 0, acked := true } } }
      let s : State := s.put Reg.PAIR_STAT 31 29 (1)
      let p := s.pair
      let now := s.tick.idx
      let stands := (∃ q, p.req = some q ∧ q.acked = true) ∨ p.hb.any (fun h => decide (tickAbs h.sec h.idx = s.tickNo) && (decide (h.req = 1) || decide (h.req = 2)) && decide (h.reqIdx = now)) = true
    (s.paired = true) ∧ (p.hand = some (now, c)) ∧ (stands) ∧ (c < 16) ∧ (now < 0x1000000) ∧ (s.role = 1)) ∧
    (let v : Word := 0
      let c : Nat := 0
      let s := State.reset
      let now := s.tick.idx
      let idx := if bitAt v 13 then field v 12 0 else (now + 4) % 4800
      let s : State := { s with tick := { s.tick with idx := ((0x1000000) - 1) } }
      let s : State := s.putBit Reg.PAIR_CFG 31 (true)
      let s : State := { s with pair := { s.pair with hand := some (s.tick.idx, c) } }
      let now := s.tick.idx
      let idx := if bitAt v 13 then field v 12 0 else (now + 4) % 4800
      let s : State := { s with pair := { s.pair with req := some { req := 1, idx := s.tick.idx, kind := 0, acked := true } } }
      let s : State := s.put Reg.PAIR_STAT 31 29 (2)
      let p := s.pair
      let now := s.tick.idx
      let stands := (∃ q, p.req = some q ∧ q.acked = true) ∨ p.hb.any (fun h => decide (tickAbs h.sec h.idx = s.tickNo) && (decide (h.req = 1) || decide (h.req = 2)) && decide (h.reqIdx = now)) = true
    (s.paired = true) ∧ (p.hand = some (now, c)) ∧ (stands) ∧ (c < 16) ∧ (now < 0x1000000) ∧ (s.role = 2)) ∧
    (let c : Nat := 0
      let s := State.reset
      let s : State := s.putBit Reg.PAIR_CFG 31 (true)
      let s : State := { s with pair := { s.pair with hand := some (s.tick.idx, c) } }
      let p := s.pair
      let now := s.tick.idx
      let stands := (∃ q, p.req = some q ∧ q.acked = true) ∨ p.hb.any (fun h => decide (tickAbs h.sec h.idx = s.tickNo) && (decide (h.req = 1) || decide (h.req = 2)) && decide (h.reqIdx = now)) = true
    (s.paired = true) ∧ (p.hand = some (now, c)) ∧ (p.req = none) ∧ (¬ stands)) ∧
    (let s := State.reset
      let s : State := s.putBit Reg.PAIR_CFG 31 (true)
      let s : State := s.put Reg.PAIR_STAT 31 29 (1)
      let p := s.pair
      let beatHere := p.hbTicks.any (fun t => decide (t.1 = s.tickNo))
      let free := p.hand = none
    (s.paired = true) ∧ (s.role = 1) ∧ (free) ∧ (beatHere = false) ∧ (p.toggled = false) ∧ (1 ≤ p.missed)) ∧
    (let s := State.reset
      let s : State := s.putBit Reg.PAIR_CFG 31 (true)
      let s : State := s.putBit Reg.BOOT_STAT (31) (true)
      let s : State := s.putBit (State.plinkReg 0) 31 (true)
      let p := s.pair
      let free := p.hand = none
    (s.paired = true) ∧ (s.role = 0) ∧ (s.bit Reg.BOOT_STAT 31 = true) ∧ (free) ∧ (s.anyPlink = true)) ∧
    (let s := State.reset
      let s : State := s.putBit Reg.PAIR_CFG 31 (true)
    (s.paired = true) ∧ (s.role = 0) ∧ (s.bit Reg.BOOT_STAT 31 = false)) ∧
    (let s := State.reset
      let p := s.pair
    (p.zeroAt = none)) ∧
    (let at_ : Nat := 3
      let s := State.reset
      let s : State := { s with pair := { s.pair with zeroAt := (some at_) } }
      let s : State := s.putBit Reg.PAIR_CFG 31 (true)
      let s : State := s.put Reg.PAIR_STAT 31 29 (1)
      let s : State := s.putBit Reg.BOOT_STAT (31) (true)
      let p := s.pair
      let free := p.hand = none
    (p.zeroAt = some at_) ∧ (s.paired = true) ∧ (s.role = 1) ∧ (s.bit Reg.BOOT_STAT 31 = true) ∧ (free) ∧ (s.prefNow = false) ∧ (p.hbTicks.contains (s.tickNo, true) = false)) :=
  ⟨by decide +kernel,
    by decide +kernel,
    by decide +kernel,
    by decide +kernel,
    by decide +kernel,
    by decide +kernel,
    by decide +kernel,
    by decide +kernel⟩

theorem met_PairRolesAndCommands_2 :
    (let s := State.reset
      let s : State := s.putBit Reg.PAIR_CFG 31 (true)
      let s : State := { s with pair := { s.pair with assertDue := (true) } }
      let p := s.pair
    (s.paired = true) ∧ (p.assertDue = true)) ∧
    (let s := State.reset
      let p := s.pair
    (p.assertDue = false)) ∧
    (let s := State.reset
      let s : State := s.putBit Reg.PAIR_CFG 31 (true)
      let s : State := s.putBit Reg.PAIR_STAT 26 (true)
    (s.paired = true) ∧ (s.roleIn = true)) ∧
    (let s := State.reset
    (s.roleIn = false)) ∧
    (let v : Word := 0x00000000#32
      let s := State.reset
      let s : State := (((((s.putBit Reg.PAIR_CFG 31 true).put Reg.PAIR_STAT 31 29 2).putBit (State.plinkReg 1) 31 true).putBit Reg.PAIR_STAT 23 true).putBit Reg.PAIR_STAT 18 false)
      let s : State := { s with pair := { s.pair with hb := some { hb0 with role := 1, sync := true }, hand := none, req := none } }
      let p := s.pair
      let stat := Reg.PAIR_STAT
      let now := s.tick.idx
      let free := p.hand = none
      let idx := if bitAt v 13 then field v 12 0 else (now + 4) % 4800
      let ahead := (idx + 4800 - now) % 4800
      let swapOk := s.paired = true ∧ s.role = 2 ∧ s.partnerReady = true ∧ s.anyPlink = true ∧ s.timeOk = true ∧ free ∧ p.req = none ∧ s.bit stat 18 = false ∧ idx < 4800 ∧ (if p.hbTx.any (fun h => decide (tickAbs h.sec h.idx = s.tickNo)) then 3 else 2) ≤ ahead
    (swapOk)) ∧
    (let v : Word := 0x00000013#32
      let s := State.reset
      let s : State := s.putBit Reg.PAIR_CFG 31 (true)
      let p := s.pair
      let stat := Reg.PAIR_STAT
      let now := s.tick.idx
      let free := p.hand = none
      let idx := if bitAt v 13 then field v 12 0 else (now + 4) % 4800
      let ahead := (idx + 4800 - now) % 4800
      let swapOk := s.paired = true ∧ s.role = 2 ∧ s.partnerReady = true ∧ s.anyPlink = true ∧ s.timeOk = true ∧ free ∧ p.req = none ∧ s.bit stat 18 = false ∧ idx < 4800 ∧ (if p.hbTx.any (fun h => decide (tickAbs h.sec h.idx = s.tickNo)) then 3 else 2) ≤ ahead
    (s.paired = true) ∧ (¬ swapOk)) ∧
    (let s := State.reset
    (s.paired = false)) ∧
    (let s := State.reset
      let s : State := s.putBit Reg.PAIR_CFG 31 (true)
    (s.paired = true) ∧ (s.role ≠ 2)) :=
  ⟨by decide +kernel,
    by decide +kernel,
    by decide +kernel,
    by decide +kernel,
    by decide +kernel,
    by decide +kernel,
    by decide +kernel,
    by decide +kernel⟩

theorem met_PairRolesAndCommands_3 :
    (let s := State.reset
      let p := s.pair
    (p.drill = none)) ∧
    (let d : Drill := { tick := 0, start := 0, ok := true, low := none }
      let s := State.reset
      let s : State := { s with pair := { s.pair with drill := (some d) } }
      let p := s.pair
    (p.drill = some d) ∧ (d.ok = true) ∧ (d.low = none) ∧ (s.tickNo < d.tick + s.fld Reg.PAIR_DRILL 15 0)) ∧
    (let d : Drill := { tick := 0, start := 4800, ok := true, low := none }
      let s := State.reset
      let s : State := { (s.put Reg.PAIR_DRILL 15 0 0) with pair := { s.pair with drill := some { d with tick := 0 } } }
      let p := s.pair
    (p.drill = some d) ∧ (d.ok = true) ∧ (d.low = none) ∧ (d.tick + s.fld Reg.PAIR_DRILL 15 0 ≤ s.tickNo)) ∧
    (let fieldOk : Bool := false
      let fail : Option (Fin 48) := some 47
      let d : Drill := { tick := 91, start := 51, ok := true, low := none }
      let s := State.reset
      let s : State := { s with pair := { s.pair with drill := (some d) } }
      let p := s.pair
    (p.drill = some d) ∧ (fieldOk = false ∨ d.ok = false ∨ d.low ≠ none ∨ fail.any (fun n => s.fioIsOut n.val && s.bit (Reg.FIO_CFG n.val) 25 && !s.pairBit Reg.FIO_CMD_LO n.val) = true)) ∧
    (let s := State.reset
      let stat := Reg.PAIR_STAT
      let s : State := s.putBit stat (19) (true)
    (s.bit stat 19 = true)) ∧
    (let s := State.reset
      let s : State := s.putBit Reg.PAIR_CFG 31 (true)
      let stat := Reg.PAIR_STAT
    (s.paired = true) ∧ (s.bit stat 19 = false)) ∧
    (let s := State.reset
      let p := s.pair
    (p.syncAt = none ∨ s.paired = false ∨ s.role ≠ 1 ∨ s.pairSync = false ∨ s.prefNow = false ∨ s.bit Reg.PAIR_CTRL 0 = true ∨ p.req ≠ none ∨ p.hand ≠ none)) ∧
    (let at_ : Nat := 128
      let s := State.reset
      let s : State := { s with pair := { s.pair with syncAt := (some at_) } }
      let s : State := s.putBit Reg.PAIR_CFG 31 (true)
      let s : State := s.put Reg.PAIR_STAT 31 29 (1)
      let s : State := s.putBit Reg.PAIR_STAT 28 (true)
      let s : State := s.putBit Reg.PAIR_CFG 30 (true)
      let p := s.pair
      let free := p.hand = none
    (p.syncAt = some at_) ∧ (s.paired = true) ∧ (s.role = 1) ∧ (s.pairSync = true) ∧ (s.prefNow = true) ∧ (s.bit Reg.PAIR_CTRL 0 = false) ∧ (p.req = none) ∧ (free)) :=
  ⟨by decide +kernel,
    by decide +kernel,
    by decide +kernel,
    by decide +kernel,
    by decide +kernel,
    by decide +kernel,
    by decide +kernel,
    by decide +kernel⟩

theorem met_PairRolesAndCommands_4 :
    (let s := State.reset
      let ready := s.bit Reg.BOOT_STAT 31
    (ready = false)) ∧
    (let v : Word := 0x000a0a0f#32
      let s := State.reset
      let s : State := s.putBit Reg.BOOT_STAT (31) (true)
      let old := s.rd Reg.PAIR_CFG
      let ready := s.bit Reg.BOOT_STAT 31
    (ready = true) ∧ (bitAt v 31 = bitAt old 31)) ∧
    (let v : Word := 0x800a0a0f#32
      let s := State.reset
      let s : State := s.putBit Reg.BOOT_STAT (31) (true)
      let old := s.rd Reg.PAIR_CFG
      let ready := s.bit Reg.BOOT_STAT 31
    (ready = true) ∧ (bitAt v 31 ≠ bitAt old 31)) :=
  ⟨by decide +kernel,
    by decide +kernel,
    by decide +kernel⟩

theorem met_HostBusInterruptsMailboxes_1 :
    (let r : Req := Req.sup1
      let a : BitVec 20 := 0xfffff#20
      let s := State.reset
      let s : State := { s with hbiReady := (true), power := { s.power with off := false, cause := if (true) then 0 else 1 } }
      let served := s.served r = true
    (served) ∧ (0x3C000 ≤ a.toNat)) ∧
    (let a : BitVec 20 := 0x3bfff#20
      let s := State.reset
    (a.toNat < 0x3C000)) ∧
    (let r : Req := Req.sup1
      let be : BitVec 4 := 0x0#4
      let s := State.reset
      let s : State := { s with hbiReady := (true), power := { s.power with off := false, cause := if (true) then 0 else 1 } }
      let served := s.served r = true
    (served) ∧ (be ≠ 15)) ∧
    (let r : Req := Req.sup1
      let a : BitVec 20 := 0x38000#20
      let row : RegRow := { name := "PWR_STAT", base := 229376, dims := [], dom := Dom.sys, aliases := false, bw := false, rw := 0, w1c := 0, w1s := 0, rc := 0, wo := 0, ro := 1047679, lock := 0, reset := 1151 }
      let s := State.reset
      let s : State := { s with hbiReady := (true), power := { s.power with off := false, cause := if (true) then 0 else 1 } }
      let served := s.served r = true
      let x := a.toNat / 4 * 4
    (served) ∧ (0x10000 ≤ a.toNat ∧ a.toNat < 0x11000 ∨ 0x38000 ≤ a.toNat ∧ a.toNat < 0x39000) ∧ (regRow x = some row)) ∧
    (let r : Req := Req.sup1
      let a : BitVec 20 := 0x38ffc#20
      let s := State.reset
      let s : State := { s with hbiReady := (true), power := { s.power with off := false, cause := if (true) then 0 else 1 } }
      let served := s.served r = true
      let x := a.toNat / 4 * 4
    (served) ∧ (0x10000 ≤ a.toNat ∧ a.toNat < 0x11000 ∨ 0x38000 ≤ a.toNat ∧ a.toNat < 0x39000) ∧ (regRow x = none)) ∧
    (let s := State.reset
    (s.power.spi = false ∨ s.hbiReady = false)) ∧
    (let h : Word := 0x1000b4d4#32
      let s := State.reset
      let s : State := { s with power := { s.power with spi := (true) } }
      let s : State := { s with hbiReady := (true) }
    (s.power.spi = true) ∧ (s.hbiReady = true) ∧ (field h 29 28 ≠ 0 ∨ field h 23 20 ≠ 0 ∨ field h 1 0 ≠ 0)) ∧
    (let h : Word := 0x0000f7f0#32
      let s := State.reset
      let s : State := { s with power := { s.power with spi := (true) } }
      let s : State := { s with hbiReady := (true) }
    (s.power.spi = true) ∧ (s.hbiReady = true) ∧ (field h 29 28 = 0) ∧ (field h 23 20 = 0) ∧ (field h 1 0 = 0) ∧ (bitAt h 31 = false)) :=
  ⟨by decide +kernel,
    by decide +kernel,
    by decide +kernel,
    by decide +kernel,
    by decide +kernel,
    by decide +kernel,
    by decide +kernel,
    by decide +kernel⟩

theorem met_HostBusInterruptsMailboxes_2 :
    (let h : Word := 0x8f00f7f0#32
      let s := State.reset
      let s : State := { s with power := { s.power with spi := (true) } }
      let s : State := { s with hbiReady := (true) }
    (s.power.spi = true) ∧ (s.hbiReady = true) ∧ (field h 29 28 = 0) ∧ (field h 23 20 = 0) ∧ (field h 1 0 = 0) ∧ (bitAt h 31 = true) ∧ (field h 27 24 = 15)) ∧
    (let s := State.reset
      let s : State := { s with power := { s.power with off := false, cause := if (true) then 0 else 1 } }
    (s.sysRuns = true)) ∧
    (let s := State.reset
    (s.sysRuns = false)) ∧
    (let r : Req := Req.sup1
      let s := State.reset
      let s : State := { s with hbiReady := (true), power := { s.power with off := false, cause := if (true) then 0 else 1 } }
    (s.served r = true) ∧ (r.isHost = false)) ∧
    (let r : Req := Req.host
      let s := State.reset
      let s : State := { s with hbiReady := (true), power := { s.power with off := false, cause := if (true) then 0 else 1 } }
    (s.served r = true) ∧ (r.isHost = true)) :=
  ⟨by decide +kernel,
    by decide +kernel,
    by decide +kernel,
    by decide +kernel,
    by decide +kernel⟩

theorem met_IndirectInterface_1 :
    (let r : Req := Req.sup1
      let s := State.reset
      let s : State := { s with hbiReady := (true), power := { s.power with off := false, cause := if (true) then 0 else 1 } }
      let x := s.ind r.num
    (s.served r = true) ∧ (Ind_queued x = 0)) ∧
    (let r : Req := Req.sup1
      let s := State.reset
      let s : State := { s with hbiReady := (true), power := { s.power with off := false, cause := if (true) then 0 else 1 } }
      let s : State := s.setInd r.num { s.ind r.num with wq := [qword0] }
      let x := s.ind r.num
    (s.served r = true) ∧ (Ind_queued x ≠ 0)) ∧
    (let r : Req := Req.sup1
      let s := State.reset
      let cause : Nat := 5
      let s : State := { s with hbiReady := (true), power := { s.power with off := false, cause := if (true) then 0 else 1 } }
      let x := s.ind r.num
      let s : State := s.setInd r.num { (s.ind r.num) with ctrl := ((putField (x.ctrl) (31) (31) (b2n (true)))) }
      let x := s.ind r.num
    (s.served r = true) ∧ (bitAt x.ctrl 31 = true)) ∧
    (let r : Req := Req.host
      let w : Word := 0x00000000#32
      let ws : List Word := [0xa253e8fd#32, 0x40490fdb#32, 0x00000002#32]
      let s := State.reset
      let s : State := { s with hbiReady := (true), power := { s.power with off := false, cause := if (true) then 0 else 1 } }
      let s : State := s.setInd r.num { (s.ind r.num) with pf := (w :: ws) }
      let x := s.ind r.num
    (s.served r = true) ∧ (bitAt x.ctrl 31 = false) ∧ (x.pf = w :: ws)) ∧
    (let r : Req := Req.sup1
      let s := State.reset
      let s : State := { s with hbiReady := (true), power := { s.power with off := false, cause := if (true) then 0 else 1 } }
      let x := s.ind r.num
    (s.served r = true) ∧ (bitAt x.ctrl 31 = false) ∧ (x.pf = [])) ∧
    (let r : Req := Req.sup1
      let be : BitVec 4 := 0xe#4
      let s := State.reset
      let s : State := { s with hbiReady := (true), power := { s.power with off := false, cause := if (true) then 0 else 1 } }
    (s.served r = true) ∧ (be ≠ 15)) ∧
    (let r : Req := Req.sup1
      let s := State.reset
      let cause : Nat := 5
      let s : State := { s with hbiReady := (true), power := { s.power with off := false, cause := if (true) then 0 else 1 } }
      let x := s.ind r.num
    (s.served r = true) ∧ (bitAt (Ind_ahead x).ctrl 31 = false)) ∧
    (let r : Req := Req.sup1
      let s := State.reset
      let cause : Nat := 7
      let s : State := { s with hbiReady := (true), power := { s.power with off := false, cause := if (true) then 0 else 1 } }
      let s : State := s.setInd r.num { s.ind r.num with held := [.ctrl (if true then 0x80000004 else 4)] }
      let s : State := s.setInd r.num { s.ind r.num with wq := List.replicate 8 qword0 }
      let x := s.ind r.num
    (s.served r = true) ∧ (bitAt (Ind_ahead x).ctrl 31 = true) ∧ (8 ≤ Ind_queued x)) :=
  ⟨by decide +kernel,
    by decide +kernel,
    by decide +kernel,
    by decide +kernel,
    by decide +kernel,
    by decide +kernel,
    by decide +kernel,
    by decide +kernel⟩

theorem met_IndirectInterface_2 :
    (let r : Req := Req.sup1
      let s := State.reset
      let s : State := { s with hbiReady := (true), power := { s.power with off := false, cause := if (true) then 0 else 1 } }
      let s : State := s.setInd r.num { s.ind r.num with held := [.ctrl (if true then 0x80000004 else 4)] }
      let x := s.ind r.num
    (s.served r = true) ∧ (bitAt (Ind_ahead x).ctrl 31 = true) ∧ (Ind_queued x < 8)) ∧
    (let r : Req := Req.sup1
      let s := State.reset
      let x := s.ind r.num
    (x.live = false ∨ 16 ≤ x.pf.length ∨ x.left = some 0)) ∧
    (let r : Req := Req.sup1
      let c : Nat := 4
      let s := State.reset
      let s : State := s.setInd r.num { (s.ind r.num) with live := (true) }
      let s : State := s.setInd r.num { s.ind r.num with next := 2, ctrl := 4 }
      let x := s.ind r.num
    (x.live = true) ∧ (x.pf.length < 16) ∧ (x.left ≠ some 0) ∧ (s.indCause x.base x.next (Ind_width x) = some c)) ∧
    (let r : Req := Req.sup1
      let s := State.reset
      let s : State := s.setInd r.num { (s.ind r.num) with live := (true) }
      let x := s.ind r.num
    (x.live = true) ∧ (x.pf.length < 16) ∧ (x.left ≠ some 0) ∧ (s.indCause x.base x.next (Ind_width x) = none) ∧ (x.next < 0x4000000)) ∧
    (let r : Req := Req.sup1
      let s := State.reset
      let x := s.ind r.num
    (x.wq = [])) ∧
    (let r : Req := Req.sup0
      let q : QWord := { addr := 4026531840, base := 0, width := 4, val := 0xa5a5a5a5#32 }
      let qs : List QWord := [{ addr := 3, base := 0, width := 76, val := 0x0000aef5#32 }, { addr := 0, base := 0, width := 32, val := 0x00000000#32 }, { addr := 4, base := 1, width := 2969567231, val := 0x0000001f#32 }, { addr := 1000, base := 0, width := 2, val := 0x00000004#32 }]
      let c : Nat := 1
      let s := State.reset
      let s : State := s.setInd r.num { s.ind r.num with wq := q :: qs }
      let x := s.ind r.num
    (x.wq = q :: qs) ∧ (x.held = []) ∧ (s.indCause q.base q.addr q.width = some c)) ∧
    (let r : Req := Req.sup1
      let q : QWord := { addr := 8388607, base := 0, width := 1, val := 0xa5a5a5a5#32 }
      let qs : List QWord := [{ addr := 0, base := 6, width := 0, val := 0x63c41df7#32 }, { addr := 0, base := 6, width := 2, val := 0x00000006#32 }, { addr := 72, base := 0, width := 6, val := 0x00000000#32 }, { addr := 55, base := 0, width := 0, val := 0x4f37bcdb#32 }]
      let s := State.reset
      let s : State := s.setInd r.num { s.ind r.num with wq := q :: qs }
      let x := s.ind r.num
    (x.wq = q :: qs) ∧ (x.held = []) ∧ (s.indCause q.base q.addr q.width = none) ∧ (q.addr < 0x4000000) ∧ (mramWriter (if r.isHost then .host else .supervisor) q.addr = true) ∧ (q.width = 1 ∨ q.width = 2 ∨ q.width = 4)) :=
  ⟨by decide +kernel,
    by decide +kernel,
    by decide +kernel,
    by decide +kernel,
    by decide +kernel,
    by decide +kernel,
    by decide +kernel⟩

theorem met_PowerDomainsHoldUpThermal_1 :
    (let r : Fin 4 := 1
      let v : Word := 0x00000002#32
      let s := State.reset
      let k := r.val
      let s : State := (List.range 4).foldl (fun u i => u.putBit (Reg.CORE_STAT (4 * k + i)) 1 (false)) s
    (∀ q, q < 4 → q ≠ k → bitAt v q = s.bit Reg.PWR_HALF q) ∧ (bitAt v k ≠ s.bit Reg.PWR_HALF k) ∧ (s.regionStopped k = false)) ∧
    (let r : Fin 4 := 1
      let v : Word := 0x00000002#32
      let s := State.reset
      let k := r.val
    (∀ q, q < 4 → q ≠ k → bitAt v q = s.bit Reg.PWR_HALF q) ∧ (bitAt v k ≠ s.bit Reg.PWR_HALF k) ∧ (s.regionStopped k = true) ∧ ((bitAt v k = true → ∀ i, i < 4 → s.halfTooLong (4 * k + i) = none))) ∧
    (let r : Fin 4 := 1
      let v : Word := 0x00000002#32
      let s := State.reset
      let k := r.val
      let s : State := s.setElem (4 * k + 3) { s.elem (4 * k + 3) with active := some { img0 with wcet := 45001 } }
    (∀ q, q < 4 → q ≠ k → bitAt v q = s.bit Reg.PWR_HALF q) ∧ (bitAt v k ≠ s.bit Reg.PWR_HALF k) ∧ (s.regionStopped k = true) ∧ (bitAt v k = true) ∧ (∃ i, i < 4 ∧ (s.halfTooLong (4 * k + i)).isSome = true)) ∧
    (let r : Fin 4 := 1
      let s := State.reset
      let s : State := { s with tick := { s.tick with running := true }, phase := [] }
      let k := r.val
      let s : State := s.putBit (Reg.REG_STAT k) 18 (!s.bit Reg.PWR_HALF k)
      let go := s.tick.running = true ∧ (∀ i, i < 4 → s.clPhase (4 * k + i) = .idle) ∧ s.halfMode k ≠ s.bit Reg.PWR_HALF k
    (go)) ∧
    (let r : Fin 4 := 1
      let s := State.reset
      let k := r.val
      let go := s.tick.running = true ∧ (∀ i, i < 4 → s.clPhase (4 * k + i) = .idle) ∧ s.halfMode k ≠ s.bit Reg.PWR_HALF k
    (¬ go)) ∧
    (let r : Fin 4 := 1
      let s := State.reset
      let stat := Reg.PWR_STAT
      let k := r.val
      let s : State := s.putBit stat ((1 + k)) (false)
    (s.avsFixed k = true ∨ s.bit stat (1 + k) = false)) ∧
    (let r : Fin 4 := 1
      let s := State.reset
      let stat := Reg.PWR_STAT
      let k := r.val
    (s.avsFixed k = false) ∧ (s.bit stat (1 + k) = true)) ∧
    (let vin : BitVec 16 := 0x2133#16
      let s := State.reset
      let s : State := { s with power := { s.power with off := false, cause := if (true) then 0 else 1 } }
      let step := s.holdStep
    (s.sysRuns = true) ∧ (step = 0) ∧ (vin.toNat < 8500)) :=
  ⟨by decide +kernel,
    by decide +kernel,
    by decide +kernel,
    by decide +kernel,
    by decide +kernel,
    by decide +kernel,
    by decide +kernel,
    by decide +kernel⟩

theorem met_PowerDomainsHoldUpThermal_2 :
    (let vin : BitVec 16 := 0x4651#16
      let s := State.reset
      let s : State := { s with power := { s.power with off := false, cause := if (true) then 0 else 1 } }
      let step := s.holdStep
    (s.sysRuns = true) ∧ (step = 0) ∧ (18000 < vin.toNat)) ∧
    (let vin : BitVec 16 := 0x2134#16
      let s := State.reset
      let step := s.holdStep
    (s.sysRuns = false ∨ step ≠ 0 ∨ 8500 ≤ vin.toNat)) ∧
    (let vin : BitVec 16 := 0x4651#16
      let s := State.reset
      let s : State := { s with power := { s.power with off := false, cause := if (true) then 0 else 1 } }
      let s : State := s.put Reg.PWR_STAT 15 13 (0 + 1)
      let step := s.holdStep
    (s.sysRuns = true) ∧ (step ≠ 0) ∧ (18000 < vin.toNat)) ∧
    (let vin : BitVec 16 := 0x4650#16
      let s := State.reset
    (s.sysRuns = false ∨ vin.toNat ≤ 18000)) ∧
    (let s := State.reset
      let s : State := { (s.put Reg.PWR_STAT 15 13 1) with pair := { s.pair with req := none, hand := none } }
      let step := s.holdStep
      let shed := step = 1 ∧ s.pair.ask ≠ some 2 ∧ s.pair.req = none ∧ s.pair.hand = none
    (shed)) ∧
    (let s := State.reset
      let step := s.holdStep
      let shed := step = 1 ∧ s.pair.ask ≠ some 2 ∧ s.pair.req = none ∧ s.pair.hand = none
    (¬ shed)) ∧
    (let vhold : BitVec 16 := 0x4e1f#16
      let s := State.reset
      let s : State := (s.put Reg.PWR_STAT 15 13 2).put Reg.PWR_HOLD 31 24 200
      let step := s.holdStep
      let low := (step = 1 ∨ step = 2) ∧ vhold.toNat < 100 * s.fld Reg.PWR_HOLD 31 24
    (low)) ∧
    (let vhold : BitVec 16 := 0x0004#16
      let s := State.reset
      let step := s.holdStep
      let low := (step = 1 ∨ step = 2) ∧ vhold.toNat < 100 * s.fld Reg.PWR_HOLD 31 24
    (¬ low)) :=
  ⟨by decide +kernel,
    by decide +kernel,
    by decide +kernel,
    by decide +kernel,
    by decide +kernel,
    by decide +kernel,
    by decide +kernel,
    by decide +kernel⟩

theorem met_PowerDomainsHoldUpThermal_3 :
    (let s := State.reset
      let s : State := s.put Reg.PWR_STAT 15 13 (3)
      let step := s.holdStep
    (step = 3) ∧ (s.tallyOut = true) ∧ (s.lathe.flush = none)) ∧
    (let s := State.reset
      let step := s.holdStep
    (step ≠ 3 ∨ s.tallyOut = false ∨ s.lathe.flush.isSome = true)) ∧
    (let vin : BitVec 16 := 0x4650#16
      let s := State.reset
      let s : State := s.put Reg.PWR_STAT 15 13 (2)
      let p := s.power
      let back := if p.overVin then 17000 else 18000
      let step := s.holdStep
    (step = 1 ∨ step = 2) ∧ (9000 < vin.toNat) ∧ (vin.toNat ≤ back)) ∧
    (let vin : BitVec 16 := 0xffff#16
      let s := State.reset
      let p := s.power
      let back := if p.overVin then 17000 else 18000
      let step := s.holdStep
    ((step ≠ 1 ∧ step ≠ 2) ∨ vin.toNat ≤ 9000 ∨ back < vin.toNat)) ∧
    (let s := State.reset
      let s : State := { s with power := { s.power with off := (true) } }
      let p := s.power
    (p.off = true)) ∧
    (let s := State.reset
      let p := s.power
    (p.off = false)) ∧
    (let s := State.reset
      let p := s.power
    (p.warned = false)) ∧
    (let s := State.reset
      let s : State := { s with power := { s.power with warned := (true) } }
      let p := s.power
    (p.warned = true)) :=
  ⟨by decide +kernel,
    by decide +kernel,
    by decide +kernel,
    by decide +kernel,
    by decide +kernel,
    by decide +kernel,
    by decide +kernel,
    by decide +kernel⟩

theorem met_PowerDomainsHoldUpThermal_4 :
    (let b : Fin 7 := 0
      let s := State.reset
      let stat := Reg.PWR_STAT
      let want := s.bit Reg.PWR_DOM b.val
      let stands := s.sysRuns = false ∨ s.bit stat b.val = want ∨ (b.val = 0 ∧ want = true ∧ s.holdActive = true)
    (stands)) ∧
    (let b : Fin 7 := 6
      let s := State.reset
      let s : State := s.putBit Reg.PWR_STAT b.val (!s.bit Reg.PWR_DOM b.val)
      let s : State := { s with power := { s.power with off := false, cause := 0 } }
      let stat := Reg.PWR_STAT
      let p := s.power
      let want := s.bit Reg.PWR_DOM b.val
      let stands := s.sysRuns = false ∨ s.bit stat b.val = want ∨ (b.val = 0 ∧ want = true ∧ s.holdActive = true)
    (¬ stands) ∧ (p.boot.cfgDone = false ∨ b.val = 0 ∨ 5 ≤ b.val ∨ want = false)) :=
  ⟨by decide +kernel,
    by decide +kernel⟩

theorem met_ResetsAndWatchdog_1 :
    (let v : Word := 0x6b2d0100#32
      let s := State.reset
      let key := field v 31 16 = 0x6B2D
    (key) ∧ (bitAt v 8 = true)) ∧
    (let v : Word := 0x7fc00000#32
      let s := State.reset
      let key := field v 31 16 = 0x6B2D
    (¬ key ∨ bitAt v 8 = false)) ∧
    (let v : Word := 0x7fc00000#32
      let s := State.reset
      let key := field v 31 16 = 0x6B2D
    (¬ key)) ∧
    (let v : Word := 0x6b2d0000#32
      let s := State.reset
      let s : State := s.putBit Reg.TB_STAT 5 (true)
      let key := field v 31 16 = 0x6B2D
    (key) ∧ (s.started = true)) ∧
    (let v : Word := 0x6b2d0000#32
      let s := State.reset
      let key := field v 31 16 = 0x6B2D
    (key) ∧ (s.started = false)) ∧
    (let r : Fin 4 := 1
      let s := State.reset
      let s : State := s.setHeldRegs [r.val]
    (r.val ∈ s.heldRegs)) ∧
    (let r : Fin 4 := 1
      let s := State.reset
    (r.val ∉ s.heldRegs)) ∧
    (let s := State.reset
      let s : State := { s with power := { s.power with off := (true) } }
      let p := s.power
    (p.off = true) ∧ (p.thermal = false)) :=
  ⟨by decide +kernel,
    by decide +kernel,
    by decide +kernel,
    by decide +kernel,
    by decide +kernel,
    by decide +kernel,
    by decide +kernel,
    by decide +kernel⟩

theorem met_ResetsAndWatchdog_2 :
    (let s := State.reset
      let s : State := { s with power := { s.power with off := (true) } }
      let s : State := { s with power := { s.power with thermal := (true) } }
      let p := s.power
    (p.off = true) ∧ (p.thermal = true)) ∧
    (let s := State.reset
      let p := s.power
    (p.off = false ∨ p.thermal = true)) ∧
    (let s := State.reset
      let p := s.power
    (p.off = false ∨ p.thermal = false)) ∧
    (let s := State.reset
      let s : State := { s with power := { s.power with pllLost := (true) } }
      let p := s.power
    (s.sysRuns = true ∨ (p.pllLost = true ∧ p.off = false))) ∧
    (let s := State.reset
      let p := s.power
    (s.sysRuns = false) ∧ (p.pllLost = false)) ∧
    (let s := State.reset
      let p := s.power
    (p.off = false) ∧ (p.pllLost = false) ∧ (p.cause ≠ 0) ∧ (p.cause < 8)) ∧
    (let s := State.reset
      let s : State := { s with power := { s.power with cause := (0) } }
      let p := s.power
    (p.off = true ∨ p.pllLost = true ∨ p.cause = 0)) ∧
    (let s := State.reset
      let s : State := { s with power := { s.power with off := false, cause := if (true) then 0 else 1 } }
    (s.sysRuns = true) ∧ (s.hbiReady = false)) :=
  ⟨by decide +kernel,
    by decide +kernel,
    by decide +kernel,
    by decide +kernel,
    by decide +kernel,
    by decide +kernel,
    by decide +kernel,
    by decide +kernel⟩

theorem met_ResetsAndWatchdog_3 :
    (let s := State.reset
    (s.sysRuns = false ∨ s.hbiReady = true)) ∧
    (let s := State.reset
    (s.bit Reg.PWR_WDT 31 = false)) ∧
    (let s := State.reset
      let s : State := s.putBit Reg.PWR_WDT (31) (true)
      let p := s.power
    (s.bit Reg.PWR_WDT 31 = true) ∧ (p.wdtWarned = false)) ∧
    (let s := State.reset
      let s : State := { s with power := { s.power with wdtWarned := (true) } }
      let p := s.power
    (p.wdtWarned = true)) ∧
    (let v : Word := 0x7fc0a55a#32
      let s := State.reset
      let p := s.power
      let k := field v 15 0
    (k = 0xA55A) ∧ (p.kick = false)) ∧
    (let v : Word := 0x7fc05aa5#32
      let s := State.reset
      let s : State := { s with power := { s.power with kick := (true) } }
      let p := s.power
      let k := field v 15 0
    (k = 0x5AA5) ∧ (p.kick = true)) ∧
    (let v : Word := 0x7fc00000#32
      let s := State.reset
      let p := s.power
      let k := field v 15 0
    (k ≠ 0xA55A) ∧ (k ≠ 0x5AA5 ∨ p.kick = false)) ∧
    (let v : Word := 0x7fc0a55a#32
      let s := State.reset
      let s : State := { s with power := { s.power with kick := (true) } }
      let p := s.power
      let k := field v 15 0
    (k = 0xA55A) ∧ (p.kick = true)) :=
  ⟨by decide +kernel,
    by decide +kernel,
    by decide +kernel,
    by decide +kernel,
    by decide +kernel,
    by decide +kernel,
    by decide +kernel,
    by decide +kernel⟩

theorem met_ResetsAndWatchdog_4 :
    (let s := State.reset
      let p := s.power
    (p.boot.readyAt = none)) ∧
    (let a : Nat := 31
      let s := State.reset
      let s : State := { s with power := { s.power with boot := { s.power.boot with readyAt := (some a) } } }
      let p := s.power
    (p.boot.readyAt = some a)) :=
  ⟨by decide +kernel,
    by decide +kernel⟩

theorem met_BootServiceAndCommands :
    (let e : Fin 20 := 1
      let s := State.reset
      let b := s.power.boot
      let n := e.val
    (s.sysRuns = false ∨ b.todo.head? ≠ some n)) ∧
    (let e : Fin 20 := 0
      let rest : List Nat := [0, 55, 8, 72, 40, 70, 0]
      let s := State.reset
      let s : State := { s with power := { s.power with off := false, cause := if (true) then 0 else 1 } }
      let s : State := { s with power := { s.power with boot := { s.power.boot with todo := 0 :: rest } } }
      let stat := Reg.BOOT_STAT
      let b := s.power.boot
      let n := e.val
    (s.sysRuns = true) ∧ (b.todo = n :: rest) ∧ (b.loaded.testBit n = false) ∧ (s.dirEntry n = none) ∧ (n ≤ 1) ∧ (s.bit stat (1 - n) = false) ∧ (s.stage ≠ 8)) ∧
    (let e : Fin 20 := 0
      let rest : List Nat := [0, 55, 8, 72, 40, 70, 0]
      let s := State.reset
      let s : State := { s with power := { s.power with off := false, cause := if (true) then 0 else 1 } }
      let s : State := { s with power := { s.power with boot := { s.power.boot with todo := 0 :: rest } } }
      let stat := Reg.BOOT_STAT
      let n := e.val
      let s : State := s.putBit stat ((1 - n)) (true)
      let b := s.power.boot
    (s.sysRuns = true) ∧ (b.todo = n :: rest) ∧ (b.loaded.testBit n = false) ∧ (s.dirEntry n = none) ∧ (n ≤ 1) ∧ (s.bit stat (1 - n) = true)) ∧
    (let e : Fin 20 := 2
      let rest : List Nat := [0, 55, 8, 72, 40, 70, 0]
      let s := State.reset
      let s : State := { s with power := { s.power with off := false, cause := if (true) then 0 else 1 } }
      let s : State := { s with power := { s.power with boot := { s.power.boot with todo := 2 :: rest } } }
      let b := s.power.boot
      let n := e.val
    (s.sysRuns = true) ∧ (b.todo = n :: rest) ∧ (b.loaded.testBit n = false) ∧ (s.dirEntry n = none) ∧ (n = 2)) ∧
    (let e : Fin 20 := 0
      let rest : List Nat := [2]
      let env : Nat := 1048576
      let s := State.reset
      let s : State := { s with power := { s.power with off := false, cause := if (true) then 0 else 1 } }
      let s : State := { s with power := { s.power with boot := { s.power.boot with todo := 0 :: rest } } }
      let s : State := dirState s
      let b := s.power.boot
      let n := e.val
    (s.sysRuns = true) ∧ (b.todo = n :: rest) ∧ (rest ≠ []) ∧ (n ≤ 1) ∧ (b.loaded.testBit n = false) ∧ (s.dirEntry n = some env)) ∧
    (let s := State.reset
      let s : State := s.put Reg.BOOT_STAT 28 25 (8)
    (s.stage = 8)) ∧
    (let v : Word := 0x00000005#32
      let s := State.reset
      let kind := field v 2 0
      let used := SMap.get (fun _ => 0) s.power.otpRows kind
    (kind = 0 ∨ 4 < kind ∨ 8 ≤ used ∨ s.activeVersion kind = none)) ∧
    (let v : Word := 0x00000001#32
      let ver : Nat := 5
      let s := State.reset
      let kind := field v 2 0
      let s : State := { s with power := { s.power with boot := { s.power.boot with vers := [(kind, 5)] } } }
      let used := SMap.get (fun _ => 0) s.power.otpRows kind
    (1 ≤ kind) ∧ (kind ≤ 4) ∧ (used < 8) ∧ (s.activeVersion kind = some ver)) :=
  ⟨by decide +kernel,
    by decide +kernel,
    by decide +kernel,
    by decide +kernel,
    by decide +kernel,
    by decide +kernel,
    by decide +kernel,
    by decide +kernel⟩

end Sys2Proof.Tests
end

section
/-!
Which registers an operation writes, which bits it can only set, and what the operations that many commands share leave in the
registers: interrupts, records, saturating counts, and folds over the units of a block.
-/
namespace Sys2Proof

/-- Of a fold over a list, what the step of a member establishes and every other step keeps holds at the end. -/
theorem foldl_reaches {α β : Type} {f : α → β → α} {Q : α → Prop} {l : List β} {k : β} (hk : k ∈ l) (reach : ∀ t, Q (f t k))
    (keep : ∀ t j, j ≠ k → Q t → Q (f t j)) (a : α) : Q (l.foldl f a) := by
  induction l using List.reverseRecOn with
  | nil => exact absurd hk (List.not_mem_nil)
  | append_singleton l x ih =>
    rw [List.foldl_append]
    by_cases h : x = k
    · exact h ▸ reach _
    · refine keep _ x h (ih ?_)
      rcases List.mem_append.mp hk with hk | hk
      · exact hk
      · exact absurd (List.mem_singleton.mp hk).symm h

/-- A map filled key by key from a list reads as the filling at each of these keys. -/
theorem SMap.get_foldl_set {α : Type} [DecidableEq α] (d v : Nat → α) {l : List Nat} {k : Nat} (hk : k ∈ l) (m : SMap α) :
    SMap.get d (l.foldl (fun m j => SMap.set d m j (v j)) m) k = v k :=
  foldl_reaches (Q := fun m => SMap.get d m k = v k) hk (fun _ => by simp) (fun _ _ hj h => by simp [hj, h]) m

theorem satTo_eq_min (m n : Nat) : satTo m n = min m n := by unfold satTo; split <;> omega

/-- A bit set to 1 leaves every bit that is 1. -/
theorem bitAt_putField_one (w : Word) (i j : Nat) (h : bitAt w j = true) : bitAt (putField w i i 1) j = true := by
  by_cases hi : i < 32
  · rw [bitAt_putField _ _ _ _ _ hi (Nat.le_refl i)]
    split
    · have : j - i = 0 := by omega
      simp [this]
    · exact h
  · have hm : maskOf i i = 0#32 := by
      refine BitVec.eq_of_toNat_eq ?_
      obtain ⟨d, rfl⟩ : ∃ d, i = 32 + d := ⟨i - 32, by omega⟩
      simp [maskOf, Nat.pow_add, Nat.mul_mod_right]
    unfold bitAt at h ⊢
    unfold putField
    rw [hm, BitVec.not_zero, BitVec.and_allOnes, BitVec.getLsbD_or, h, Bool.true_or]

end Sys2Proof

namespace Sys2Proof.Machine
open Sys2Proof

/-! ### Frames as equations -/

/-- The state s with the fields of the mask m taken from t. -/
def State.overlay (m : Nat) (s t : State) : State :=
  let pick {α : Type} (i : Nat) (x y : α) : α := if m.testBit i then y else x
  { regs := pick 0 s.regs t.regs, mram := pick 1 s.mram t.mram, claims := pick 2 s.claims t.claims, ended := pick 3 s.ended t.ended,
    rsp := pick 4 s.rsp t.rsp, snaps := pick 5 s.snaps t.snaps, holds := pick 6 s.holds t.holds, inds := pick 7 s.inds t.inds,
    hbiReady := pick 8 s.hbiReady t.hbiReady, supPend := pick 9 s.supPend t.supPend, links := pick 10 s.links t.links,
    mramErr := pick 11 s.mramErr t.mramErr, mramOut := pick 12 s.mramOut t.mramOut, tally := pick 13 s.tally t.tally,
    buckets := pick 14 s.buckets t.buckets, tb := pick 15 s.tb t.tb, alms := pick 16 s.alms t.alms, pins := pick 17 s.pins t.pins,
    tick := pick 18 s.tick t.tick, stepFlag := pick 19 s.stepFlag t.stepFlag, phase := pick 20 s.phase t.phase,
    lanes := pick 21 s.lanes t.lanes, clSrc := pick 22 s.clSrc t.clSrc, expect := pick 23 s.expect t.expect, late := pick 24 s.late t.late,
    trk := pick 25 s.trk t.trk, fpds := pick 26 s.fpds t.fpds, dets := pick 27 s.dets t.dets, light := pick 28 s.light t.light,
    heldRegs := pick 29 s.heldRegs t.heldRegs, cores := pick 30 s.cores t.cores, elems := pick 31 s.elems t.elems,
    sups := pick 32 s.sups t.sups, inForce := pick 33 s.inForce t.inForce, cans := pick 34 s.cans t.cans, eth := pick 35 s.eth t.eth,
    field_ := pick 36 s.field_ t.field_, fio := pick 37 s.fio t.fio, lines := pick 38 s.lines t.lines, tripKey := pick 39 s.tripKey t.tripKey,
    lathe := pick 40 s.lathe t.lathe, ticks := pick 41 s.ticks t.ticks, recs := pick 42 s.recs t.recs, wbs := pick 43 s.wbs t.wbs,
    gauges := pick 44 s.gauges t.gauges, blz := pick 45 s.blz t.blz, pair := pick 46 s.pair t.pair, meter := pick 47 s.meter t.meter,
    power := pick 48 s.power t.power, freeCtr := pick 49 s.freeCtr t.freeCtr, pending := pick 50 s.pending t.pending,
    spiOut := pick 51 s.spiOut t.spiOut }

theorem eq_pick {α : Type} {b : Bool} {x y : α} (h : b = false → y = x) : y = if b then y else x := by
  cases b with
  | false => simp [h]
  | true => rfl

/-- A frame as the equation by which a statement writes it. -/
theorem Agree.eq_overlay {m : Nat} {s t : State} (h : Agree m s t) : t = State.overlay m s t := by
  obtain ⟨⟩ := t
  unfold State.overlay
  rw [State.mk.injEq]
  exact ⟨eq_pick h.regs, eq_pick h.mram, eq_pick h.claims, eq_pick h.ended, eq_pick h.rsp, eq_pick h.spiOut, eq_pick h.snaps, eq_pick h.holds,
    eq_pick h.inds, eq_pick h.hbiReady, eq_pick h.supPend, eq_pick h.links, eq_pick h.mramErr, eq_pick h.mramOut, eq_pick h.tally,
    eq_pick h.buckets, eq_pick h.tb, eq_pick h.alms, eq_pick h.pins, eq_pick h.tick, eq_pick h.stepFlag, eq_pick h.phase,
    eq_pick h.lanes, eq_pick h.clSrc, eq_pick h.expect, eq_pick h.late, eq_pick h.trk, eq_pick h.fpds, eq_pick h.dets, eq_pick h.light,
    eq_pick h.heldRegs, eq_pick h.cores, eq_pick h.elems, eq_pick h.sups, eq_pick h.inForce, eq_pick h.cans, eq_pick h.eth,
    eq_pick h.field_, eq_pick h.fio, eq_pick h.lines, eq_pick h.tripKey, eq_pick h.lathe, eq_pick h.ticks, eq_pick h.recs,
    eq_pick h.wbs, eq_pick h.gauges, eq_pick h.blz, eq_pick h.pair, eq_pick h.meter, eq_pick h.power, eq_pick h.freeCtr,
    eq_pick h.pending⟩

section
variable {m : Nat} {s t : State} (h : Agree m s t) (k : Nat)
include h

theorem Agree.rd (hm : m.testBit 0 = false) : t.rd k = s.rd k := by unfold State.rd; rw [h.regs hm]
theorem Agree.bit (hm : m.testBit 0 = false) (i : Nat) : t.bit k i = s.bit k i := by unfold State.bit; rw [h.rd k hm]
theorem Agree.fld (hm : m.testBit 0 = false) (hi lo : Nat) : t.fld k hi lo = s.fld k hi lo := by unfold State.fld; rw [h.rd k hm]
theorem Agree.claim (hm : m.testBit 2 = false) : t.claim k = s.claim k := by unfold State.claim; rw [h.claims hm]
theorem Agree.link (hm : m.testBit 10 = false) : t.link k = s.link k := by unfold State.link; rw [h.links hm]
theorem Agree.lane (hm : m.testBit 21 = false) : t.lane k = s.lane k := by unfold State.lane; rw [h.lanes hm]

end

/-! ### Registers after interrupts, records and counts -/

section
variable (s : State) (a k n : Nat)

/-- A raised source of the high half shows in INT_STAT_HI, and every bit that was 1 there still is. -/
theorem State.bit_irq_hi (i : Nat) (h : n = i + 32 ∧ i < 32 ∨ s.bit Reg.INT_STAT_HI i = true) :
    (s.irq n).bit Reg.INT_STAT_HI i = true := by
  change (s.raiseHost n).bit Reg.INT_STAT_HI i = true
  unfold State.raiseHost
  split
  · unfold State.bit
    rw [State.rd_putBit_ne _ _ _ _ _ (by decide)]
    rcases h with ⟨hn, hi⟩ | h
    · omega
    · exact h
  · rcases h with ⟨rfl, hi⟩ | h
    · rw [State.bit_putBit _ _ _ _ _ _ (by omega), if_pos ⟨rfl, by omega⟩]
    · unfold State.bit at h ⊢
      rw [State.rd_putBit, if_pos rfl]
      exact bitAt_putField_one _ _ _ h

/-- A raised source of the low half shows in INT_STAT_LO, and every bit that was 1 there still is. -/
theorem State.bit_irq_lo (i : Nat) (h : n = i ∧ i < 32 ∨ s.bit Reg.INT_STAT_LO i = true) :
    (s.irq n).bit Reg.INT_STAT_LO i = true := by
  change (s.raiseHost n).bit Reg.INT_STAT_LO i = true
  unfold State.raiseHost
  split
  · rcases h with ⟨rfl, hi⟩ | h
    · rw [State.bit_putBit _ _ _ _ _ _ hi, if_pos ⟨rfl, rfl⟩]
    · unfold State.bit at h ⊢
      rw [State.rd_putBit, if_pos rfl]
      exact bitAt_putField_one _ _ _ h
  · rcases h with ⟨hn, hi⟩ | h
    · omega
    · unfold State.bit at h ⊢
      rw [State.rd_putBit_ne _ _ _ _ _ (by decide)]
      exact h

theorem State.bit_log (code sp p0 p1 i : Nat) (h : k < 0xC000 ∨ 0x10000 ≤ k) : (s.log code sp p0 p1).bit k i = s.bit k i := by
  unfold State.bit
  rw [State.rd_log _ _ _ _ _ _ h]

/-- A saturating count. -/
theorem State.fld_count_same (hi lo : Nat) (hh : hi < 32) (hl : lo ≤ hi) :
    (s.count a hi lo n).fld a hi lo = min (2 ^ (hi - lo + 1) - 1) (s.fld a hi lo + n) := by
  unfold State.count
  have hpos := Nat.two_pow_pos (hi - lo + 1)
  rw [State.fld_put_same _ _ _ _ _ hh hl, satTo_eq_min, Nat.mod_eq_of_lt (by omega)]

/-- A write of one field leaves every field of the word that does not meet it. -/
theorem State.fld_put_apart (hi lo v hi' lo' : Nat) (hh : hi < 32) (hl : lo ≤ hi) (hd : hi' < lo ∨ hi < lo') (hl' : lo' ≤ hi') :
    (s.put a hi lo v).fld k hi' lo' = s.fld k hi' lo' := by
  unfold State.fld
  rw [State.rd_put]
  split
  · next h => rw [h, field_putField_ne _ _ _ _ _ _ hh hl hd hl']
  · rfl

end

/-! ### Which registers an operation writes -/

/-- From s to t only registers of P change, and those an interrupt or a record changes; a raised source stays raised. -/
structure Writes (P : Nat → Prop) (s t : State) : Prop where
  rd : ∀ k, ¬ P k → ¬ Signals k → t.rd k = s.rd k
  raised : ¬ P Reg.INT_STAT_HI → ∀ i, s.bit Reg.INT_STAT_HI i = true → t.bit Reg.INT_STAT_HI i = true

section
variable {P : Nat → Prop} {s t u : State}

theorem Writes.refl (P : Nat → Prop) (s : State) : Writes P s s := ⟨fun _ _ _ => rfl, fun _ _ h => h⟩

theorem Writes.trans (h : Writes P s t) (k : Writes P t u) : Writes P s u :=
  ⟨fun a ha hs => (k.rd a ha hs).trans (h.rd a ha hs), fun hp i hi => k.raised hp i (h.raised hp i hi)⟩

theorem Writes.mono {Q : Nat → Prop} (h : Writes Q s t) (hq : ∀ k, Q k → P k) : Writes P s t :=
  ⟨fun a ha => h.rd a (fun x => ha (hq a x)), fun hp => h.raised (fun x => hp (hq _ x))⟩

/-- An operation on other fields than the registers. -/
theorem Writes.of_regs (h : Writes P s t) (hu : u.regs = t.regs) : Writes P s u := by
  have hrd : ∀ a, u.rd a = t.rd a := fun a => by unfold State.rd; rw [hu]
  exact h.trans ⟨fun a _ _ => hrd a, fun _ i hi => by unfold State.bit at hi ⊢; rw [hrd]; exact hi⟩

theorem Writes.wr (h : Writes P s t) {a : Nat} (v : Word) (ha : P a) : Writes P s (t.wr a v) := by
  refine h.trans ⟨fun k hk _ => ?_, fun hp i hi => ?_⟩
  · rw [State.rd_wr, if_neg (fun e : a = k => hk (e ▸ ha))]
  · unfold State.bit at hi ⊢
    rw [State.rd_wr, if_neg (fun e : a = Reg.INT_STAT_HI => hp (e ▸ ha))]
    exact hi

theorem Writes.put (h : Writes P s t) {a : Nat} (hi lo v : Nat) (ha : P a) : Writes P s (t.put a hi lo v) := h.wr _ ha
theorem Writes.putBit (h : Writes P s t) {a : Nat} (i : Nat) (b : Bool) (ha : P a) : Writes P s (t.putBit a i b) := h.wr _ ha
theorem Writes.count (h : Writes P s t) {a : Nat} (hi lo n : Nat) (ha : P a) : Writes P s (t.count a hi lo n) := h.wr _ ha

theorem Writes.irq (h : Writes P s t) (n : Nat) : Writes P s (t.irq n) := by
  refine h.trans ⟨fun k _ hs => State.rd_irq _ _ _ (fun e => hs (.inl e)) (fun e => hs (.inr (.inl e))), fun _ i hi => ?_⟩
  exact State.bit_irq_hi _ _ _ (.inr hi)

theorem Writes.log (h : Writes P s t) (code sp p0 p1 : Nat) : Writes P s (t.log code sp p0 p1) := by
  refine h.trans ⟨fun k _ hs => State.rd_log _ _ _ _ _ _ ?_, fun _ i hi => ?_⟩
  · have : ¬ (0xC000 ≤ k ∧ k < 0x10000) := fun e => hs (.inr (.inr e))
    omega
  · rw [State.bit_log _ _ _ _ _ _ _ (by decide)]
    exact hi

theorem Writes.foldl {α : Type} {f : State → α → State} {l : List α} (h : Writes P s t)
    (hf : ∀ u x, x ∈ l → Writes P s u → Writes P s (f u x)) : Writes P s (l.foldl f t) :=
  List.foldlRecOn l f h (fun u hu x hx => hf u x hx hu)

theorem Writes.bit (h : Writes P s t) {k : Nat} (i : Nat) (hk : ¬ P k) (hs : ¬ Signals k) : t.bit k i = s.bit k i := by
  unfold State.bit
  rw [h.rd k hk hs]

theorem Writes.fld (h : Writes P s t) {k : Nat} (hi lo : Nat) (hk : ¬ P k) (hs : ¬ Signals k) : t.fld k hi lo = s.fld k hi lo := by
  unfold State.fld
  rw [h.rd k hk hs]

end

/-! ### Bits that an operation can only set -/

/-- From s to t no bit of L falls. -/
def Latches (L : Nat → Nat → Prop) (s t : State) : Prop := ∀ k i, L k i → s.bit k i = true → t.bit k i = true

section
variable {L : Nat → Nat → Prop} {s t u : State}

theorem Latches.refl (L : Nat → Nat → Prop) (s : State) : Latches L s s := fun _ _ _ h => h

theorem Latches.trans (h : Latches L s t) (k : Latches L t u) : Latches L s u := fun a i hl hi => k a i hl (h a i hl hi)

theorem Latches.of_regs (h : Latches L s t) (hu : u.regs = t.regs) : Latches L s u := by
  refine h.trans fun a i _ hi => ?_
  unfold State.bit State.rd at hi ⊢
  rw [hu]
  exact hi

theorem Latches.set (h : Latches L s t) (a i : Nat) : Latches L s (t.putBit a i true) := by
  refine h.trans fun k j _ hj => ?_
  unfold State.bit at hj ⊢
  rw [State.rd_putBit]
  split
  · next e => exact bitAt_putField_one _ _ _ (e ▸ hj)
  · exact hj

/-- A write of a field that holds no bit of L. -/
theorem Latches.put (h : Latches L s t) {a hi lo : Nat} (v : Nat) (hh : hi < 32) (hl : lo ≤ hi) (ha : ∀ i, L a i → i < lo ∨ hi < i) :
    Latches L s (t.put a hi lo v) := by
  refine h.trans fun k j hk hj => ?_
  unfold State.bit at hj ⊢
  rw [State.rd_put]
  split
  · next e =>
    subst e
    have hj' := ha j hk
    rw [bitAt_putField _ _ _ _ _ hh hl, if_neg (by omega)]
    exact hj
  · exact hj

/-- Of the registers that P names no bit is in L, and of the signalling ones at most the raised sources of the high half. -/
theorem Latches.of_writes {P : Nat → Prop} (h : Latches L s t) (w : Writes P t u)
    (hl : ∀ k i, L k i → ¬ P k ∧ (Signals k → k = Reg.INT_STAT_HI)) : Latches L s u := by
  refine h.trans fun k i hk hi => ?_
  obtain ⟨hp, hs⟩ := hl k i hk
  by_cases e : k = Reg.INT_STAT_HI
  · subst e; exact w.raised hp i hi
  · rw [w.bit i hp (fun x => e (hs x))]; exact hi

theorem Latches.foldl {α : Type} {f : State → α → State} {l : List α} (h : Latches L s t)
    (hf : ∀ u x, x ∈ l → Latches L s u → Latches L s (f u x)) : Latches L s (l.foldl f t) :=
  List.foldlRecOn l f h (fun u hu x hx => hf u x hx hu)

end

end Sys2Proof.Machine
end

section
/-!
Claims, releases and queries of resources (chapter 01, R39 to R48).
-/
namespace Sys2Proof.Machine
open Sys2Proof

theorem Agree.eq_regs {s t : State} (h : Agree 1 s t) : t = { s with regs := t.regs } := h.eq_overlay
theorem Agree.eq_regs_claims {s t : State} (h : Agree 5 s t) : t = { s with regs := t.regs, claims := t.claims } := h.eq_overlay
/-- The fields that an interrupt or a record changes. -/
theorem Agree.eq_signal {s t : State} (h : Agree 25089 s t) :
    t = { s with regs := t.regs, supPend := t.supPend, tally := t.tally, buckets := t.buckets } := h.eq_overlay

/-! ### What the claim operations leave -/

section
variable (s : State) (r : Req) (res k n : Nat)

theorem access_served {f : State → State} (h : s.served r = true) : s.access r f = .next (f s) := by
  unfold State.access
  rw [if_pos h]

@[simp] theorem claim_claimResult (o st tag : Nat) : (s.claimResult o st tag).claim k = s.claim k := by
  unfold State.claimResult
  exact State.claim_wr _ _ _ _

theorem rd_claimResult (o st tag : Nat) :
    (s.claimResult o st tag).rd k = if Reg.CLAIM_RESULT = k then w32 (o * 0x1000000 + st * 0x10000 + tag) else s.rd k := by
  unfold State.claimResult
  exact State.rd_wr _ _ _ _

theorem code_ne_zero : r.code ≠ 0 := by cases r <;> decide

theorem exec_claim (b : BitVec 16) (h : s.served r = true) : exec (.claimCmdClaim r b) s = .next (s.claimRun r b.toNat) :=
  access_served s r (f := fun s => s.claimRun r b.toNat) h
theorem exec_release (b : BitVec 16) (h : s.served r = true) : exec (.claimCmdRelease r b) s = .next (s.releaseRun r b.toNat) :=
  access_served s r (f := fun s => s.releaseRun r b.toNat) h
theorem exec_query (b : BitVec 16) (h : s.served r = true) : exec (.claimCmdQuery r b) s = .next (s.queryOp b.toNat) :=
  access_served s r (f := fun s => s.queryOp b.toNat) h

/-- The command image changes no register but itself. -/
theorem rd_fioImage (h0 : k ≠ Reg.FIO_CMD_LO) (h1 : k ≠ Reg.FIO_CMD_HI) : s.fioImage.rd k = s.rd k := by
  unfold State.fioImage
  rw [State.rd_wr, if_neg (Ne.symm h1), State.rd_wr, if_neg (Ne.symm h0)]

theorem fioDrive_of_none_ended (h : s.ended = []) : s.fioDrive = s.fioImage := by
  have : s.fioImage.ended = s.ended := rfl
  unfold State.fioDrive
  simp [this, h]

/-- Behind a claim command whose resource is no channel and no line, or kept its owner, nothing follows. -/
theorem claimFollow_of_same (was : Nat) (h : s.owner res = was ∨ ¬ (res / 4096 = 3 ∨ res / 4096 = 4)) : s.claimFollow was res = s := by
  unfold State.claimFollow
  rw [if_neg]
  rintro ⟨hc, ho⟩
  exact h.elim ho (fun hn => hn hc)

/-- Behind a claim command, while no ended claim waits, only the command image may follow, and only for a channel or a line. -/
theorem claimFollow_cases (was : Nat) (h : res / 4096 = 3 ∨ res / 4096 = 4 → s.ended = []) :
    s.claimFollow was res = s ∨ (res / 4096 = 3 ∨ res / 4096 = 4) ∧ s.claimFollow was res = s.fioImage := by
  unfold State.claimFollow
  split
  · next hc => exact .inr ⟨hc.1, fioDrive_of_none_ended s (h hc.1)⟩
  · exact .inl rfl

/-- The registers that a claim command may change beside its result: the command image, for a channel or a line. -/
theorem onlyRegs_claimFollow (t : State) (was : Nat) (h : res / 4096 = 3 ∨ res / 4096 = 4 → t.ended = [])
    (ht : OnlyRegs s t [Reg.CLAIM_RESULT]) :
    OnlyRegs s (t.claimFollow was res)
      (Reg.CLAIM_RESULT :: if res / 4096 = 3 ∨ res / 4096 = 4 then [Reg.FIO_CMD_LO, Reg.FIO_CMD_HI] else []) := by
  intro a ha
  simp only [List.mem_cons, not_or] at ha
  have hkeep := ht a (by simp [ha.1])
  rcases claimFollow_cases t res was h with e | ⟨hc, e⟩ <;> rw [e]
  · exact hkeep
  · simp only [hc, if_true, List.mem_cons, not_or] at ha
    rw [rd_fioImage _ _ ha.2.1 ha.2.2.1]
    exact hkeep

/-- A claim of a resource that is free or the requester's own. -/
theorem claimOp_granted (hv : resValid res = true) (ho : s.owner res = 0 ∨ s.owner res = r.code) :
    s.claimOp r res = (s.setClaim res { owner := r.code, tag := s.fld Reg.CLAIM_TAG 15 0 }).claimResult r.code 1 (s.fld Reg.CLAIM_TAG 15 0) := by
  simp [State.claimOp, hv, ho]

theorem claimOp_denied (hv : resValid res = true) (h0 : s.owner res ≠ 0) (h1 : s.owner res ≠ r.code) :
    s.claimOp r res = s.claimDenied 1 r res := by
  simp [State.claimOp, hv, h0, h1]

theorem releaseOp_of_free (hv : resValid res = true) (ho : s.owner res = 0) : s.releaseOp r res = s.claimResult 0 1 0 := by
  simp [State.releaseOp, hv, ho]

theorem releaseOp_granted (hv : resValid res = true) (ho : s.owner res = r.code) (hb : s.releaseBlocked res = false) :
    s.releaseOp r res = ((s.setClaim res Claim.free).released res).claimResult 0 1 0 := by
  simp [State.releaseOp, hv, ho, hb, code_ne_zero r]

theorem releaseOp_denied (hv : resValid res = true) (h0 : s.owner res ≠ 0)
    (h1 : s.owner res ≠ r.code ∨ s.releaseBlocked res = true) : s.releaseOp r res = s.claimDenied 2 r res := by
  rcases h1 with h1 | h1 <;> simp [State.releaseOp, hv, h0, h1]

/-- A release of a resource that is no pin and no channel leaves the resource alone. -/
theorem released_eq (h1 : res / 4096 ≠ 1) (h3 : res / 4096 ≠ 3) : s.released res = s := by
  simp [State.released, h1, h3]

/-- A number that names no resource is reported by all three operations. -/
theorem badId_of_invalid (hv : resValid res = false) :
    s.claimOp r res = s.claimBadId ∧ s.releaseOp r res = s.claimBadId ∧ s.queryOp res = s.claimBadId := by
  simp [State.claimOp, State.releaseOp, State.queryOp, hv]

theorem owner_of_claims {t : State} (h : t.claims = s.claims) : t.owner k = s.owner k := by
  unfold State.owner State.claim
  rw [h]

/-- Where the claims stay, nothing follows a claim command. -/
theorem claimFollow_of_claims {t : State} (h : t.claims = s.claims) : t.claimFollow (s.owner res) res = t :=
  claimFollow_of_same _ _ _ (.inl (owner_of_claims s res h))

end

/-! ### Refusals and bad names -/

section
variable (s : State) (op : Nat) (r : Req) (res : Nat)

theorem claims_claimDenied : (s.claimDenied op r res).claims = s.claims := (State.claimDenied_ag s op r res).claims (by decide)
theorem claims_claimBadId : s.claimBadId.claims = s.claims := s.claimBadId_ag.claims (by decide)

/-- Where a refusal has gone in the registers: behind the count only the interrupt and the record follow. -/
theorem rd_claimDenied (k : Nat) (hk : ¬ Signals k) : (s.claimDenied op r res).rd k =
    (((((s.claimResult (s.owner res) 2 (s.fld Reg.CLAIM_TAG 15 0)).putBit Reg.CLAIM_STAT 0 true).wr Reg.CLAIM_LAST
      (w32 (res * 0x10000 + r.code * 0x100 + s.owner res))).count Reg.CLAIM_DENY_CNT 31 0 1).rd k) :=
  (((Writes.refl (fun _ => False) _).irq 59).log _ _ _ _).rd k (by simp) hk

/-- What a refused claim or release shows (R42, R43). -/
theorem claimDenied_shows : let t := s.claimDenied op r res
    t.bit Reg.CLAIM_STAT 0 = true ∧ t.rd Reg.CLAIM_RESULT = w32 (s.owner res * 0x1000000 + 2 * 0x10000 + s.fld Reg.CLAIM_TAG 15 0) ∧
    t.rd Reg.CLAIM_LAST = w32 (res * 0x10000 + r.code * 0x100 + s.owner res) ∧
    t.fld Reg.CLAIM_DENY_CNT 31 0 = min 4294967295 (s.fld Reg.CLAIM_DENY_CNT 31 0 + 1) ∧ t.bit Reg.INT_STAT_HI 27 = true := by
  intro t
  refine ⟨?_, ?_, ?_, ?_, ?_⟩
  · unfold State.bit
    rw [rd_claimDenied _ _ _ _ _ (by unfold Signals; decide), State.rd_count_ne _ _ _ _ _ _ (by decide), State.rd_wr, if_neg (by decide)]
    exact (State.bit_putBit _ _ _ _ _ _ (by decide)).trans (if_pos ⟨rfl, rfl⟩)
  · rw [rd_claimDenied _ _ _ _ _ (by unfold Signals; decide), State.rd_count_ne _ _ _ _ _ _ (by decide), State.rd_wr, if_neg (by decide),
      State.rd_putBit_ne _ _ _ _ _ (by decide), rd_claimResult, if_pos rfl]
  · rw [rd_claimDenied _ _ _ _ _ (by unfold Signals; decide), State.rd_count_ne _ _ _ _ _ _ (by decide), State.rd_wr, if_pos rfl]
  · unfold State.fld
    rw [rd_claimDenied _ _ _ _ _ (by unfold Signals; decide)]
    refine (State.fld_count_same _ _ _ _ _ (by decide) (by decide)).trans ?_
    unfold State.fld
    rw [State.rd_wr, if_neg (by decide), State.rd_putBit_ne _ _ _ _ _ (by decide), rd_claimResult, if_neg (by decide)]
    rfl
  · exact (State.bit_log _ _ _ _ _ _ _ (by decide)).trans (State.bit_irq_hi _ _ _ (.inl (by decide)))

/-- What a name that is no resource shows (R48). -/
theorem claimBadId_shows : s.claimBadId.bit Reg.CLAIM_STAT 1 = true ∧ s.claimBadId.rd Reg.CLAIM_RESULT = w32 (0 * 0x1000000 + 3 * 0x10000 + 0) ∧
    s.claimBadId.bit Reg.INT_STAT_HI 27 = true := by
  unfold State.claimBadId
  refine ⟨?_, ?_, State.bit_irq_hi _ _ _ (.inl (by decide))⟩
  · unfold State.bit
    rw [State.rd_irq _ _ _ (by decide) (by decide)]
    exact (State.bit_putBit _ _ _ _ _ _ (by decide)).trans (if_pos ⟨rfl, rfl⟩)
  · rw [State.rd_irq _ _ _ (by decide) (by decide), State.rd_putBit_ne _ _ _ _ _ (by decide), rd_claimResult, if_pos rfl]

end

/-! ### The claims after a release -/

section
variable (s : State) (res k : Nat)

theorem claims_claimFollow (was : Nat) : (s.claimFollow was res).claims = s.claims := by
  unfold State.claimFollow
  split
  · exact s.fioDrive_ag.claims (by decide)
  · rfl

theorem claim_claimFollow (was : Nat) : (s.claimFollow was res).claim k = s.claim k := by
  unfold State.claim
  rw [claims_claimFollow]

theorem rd_claimFollow (was : Nat) (he : res / 4096 = 3 ∨ res / 4096 = 4 → s.ended = []) (h0 : k ≠ Reg.FIO_CMD_LO) (h1 : k ≠ Reg.FIO_CMD_HI) :
    (s.claimFollow was res).rd k = s.rd k := by
  rcases claimFollow_cases s res was he with e | ⟨-, e⟩ <;> rw [e]
  exact rd_fioImage s k h0 h1

theorem claimFollow_ag (was : Nat) (he : res / 4096 = 3 ∨ res / 4096 = 4 → s.ended = []) : Agree 1 s (s.claimFollow was res) := by
  rcases claimFollow_cases s res was he with e | ⟨-, e⟩ <;> rw [e]
  · exact Agree.refl 1 s
  · exact s.fioImage_ag

theorem mram_claimFollow (was : Nat) : (s.claimFollow was res).mram = s.mram := by
  unfold State.claimFollow
  split
  · exact s.fioDrive_ag.mram (by decide)
  · rfl

end

section
variable (s : State) (r : Req) (res : Nat)

/-- What the two operations that change a claim answer, with the command image behind them: the claim of the resource and CLAIM_RESULT. -/
theorem claimFollow_changed (c : Claim) (o tag was : Nat) (he : res / 4096 = 3 ∨ res / 4096 = 4 → s.ended = []) :
    let t := ((s.setClaim res c).claimResult o 1 tag).claimFollow was res
    t.claim res = c ∧ t.rd Reg.CLAIM_RESULT = w32 (o * 0x1000000 + 1 * 0x10000 + tag) ∧ (∀ m, m ≠ res → t.claim m = s.claim m) ∧
    OnlyRegs s t (Reg.CLAIM_RESULT :: if res / 4096 = 3 ∨ res / 4096 = 4 then [Reg.FIO_CMD_LO, Reg.FIO_CMD_HI] else []) ∧
    t = { s with regs := t.regs, claims := t.claims } := by
  have he' : res / 4096 = 3 ∨ res / 4096 = 4 → ((s.setClaim res c).claimResult o 1 tag).ended = [] := fun h => by
    rw [(State.claimResult_ag _ _ _ _).ended (by decide), State.setClaim_ended, he h]
  have hkeep : OnlyRegs s ((s.setClaim res c).claimResult o 1 tag) [Reg.CLAIM_RESULT] := fun a ha => by
    rw [rd_claimResult, if_neg (by simpa [eq_comm] using ha), State.rd_setClaim]
  have hclaim : ∀ m, (((s.setClaim res c).claimResult o 1 tag).claimFollow was res).claim m = if res = m then c else s.claim m := fun m => by
    rw [claim_claimFollow, claim_claimResult, State.claim_setClaim]
  have hag : Agree 5 s (((s.setClaim res c).claimResult o 1 tag).claimFollow was res) :=
    (((Agree.refl 5 s).then (s.setClaim_ag res c) (by decide)).then (State.claimResult_ag _ _ _ _) (by decide)).then
      (claimFollow_ag _ res was he') (by decide)
  refine ⟨by rw [hclaim, if_pos rfl], ?_, fun m hm => by rw [hclaim, if_neg (Ne.symm hm)], onlyRegs_claimFollow s res _ _ he' hkeep,
    hag.eq_regs_claims⟩
  rw [rd_claimFollow ((s.setClaim res c).claimResult o 1 tag) res _ was he' (by decide) (by decide), rd_claimResult, if_pos rfl]

end

/-- A result written alone. -/
theorem claimResult_alone (s : State) (o st tag : Nat) : let t := s.claimResult o st tag
    t.rd Reg.CLAIM_RESULT = w32 (o * 0x1000000 + st * 0x10000 + tag) ∧ (∀ a, a ≠ Reg.CLAIM_RESULT → t.rd a = s.rd a) ∧
    t = { s with regs := t.regs } :=
  ⟨by rw [rd_claimResult, if_pos rfl], fun a ha => by rw [rd_claimResult, if_neg (Ne.symm ha)], (s.claimResult_ag o st tag).eq_regs⟩

/-- A denied operation, with what would follow it. -/
theorem denied_run (s : State) (op : Nat) (r : Req) (res : Nat) : let t := (s.claimDenied op r res).claimFollow (s.owner res) res
    t.claims = s.claims ∧ t.bit Reg.CLAIM_STAT 0 = true ∧
    t.rd Reg.CLAIM_RESULT = w32 (s.owner res * 0x1000000 + 2 * 0x10000 + s.fld Reg.CLAIM_TAG 15 0) ∧
    t.rd Reg.CLAIM_LAST = w32 (res * 0x10000 + r.code * 0x100 + s.owner res) ∧
    t.fld Reg.CLAIM_DENY_CNT 31 0 = min 4294967295 (s.fld Reg.CLAIM_DENY_CNT 31 0 + 1) ∧ t.bit Reg.INT_STAT_HI 27 = true ∧
    t = { s with regs := t.regs, supPend := t.supPend, tally := t.tally, buckets := t.buckets } := by
  rw [claimFollow_of_claims s res (claims_claimDenied s op r res)]
  obtain ⟨h0, h1, h2, h3, h4⟩ := claimDenied_shows s op r res
  exact ⟨claims_claimDenied s op r res, h0, h1, h2, h3, h4, (s.claimDenied_ag op r res).eq_signal⟩

/-- Settles O28: each operation is the branch of `claimOp`, `releaseOp` or `queryOp` that its premises select, and what follows a claim command
is at most the command image. -/
theorem claimCommands : Obligations.ClaimCommands := by
  unfold Obligations.ClaimCommands
  refine ⟨fun s r res => ?_, fun s r res => ?_⟩
  · intro n result drives
    refine ⟨fun hv ho he hs => ?_, fun hv ho hb h1 h3 he hs => ?_, fun hv ho hb hs => ?_, fun hv ho hs => ?_, fun hv hs => ?_,
      fun hv i hi hs => ?_⟩
    · refine ⟨s.claimRun r n, exec_claim s r res hs, ?_⟩
      unfold State.claimRun
      rw [claimOp_granted s r n hv ho]
      exact claimFollow_changed s n _ _ _ _ he
    · refine ⟨s.releaseRun r n, exec_release s r res hs, ?_⟩
      unfold State.releaseRun
      rw [releaseOp_granted s r n hv ho hb, released_eq _ n h1 h3]
      exact claimFollow_changed s n _ _ _ _ (fun h => he (h.resolve_left h3))
    · refine ⟨s.releaseRun r n, exec_release s r res hs, ?_, ?_⟩ <;> unfold State.releaseRun <;> rw [releaseOp_granted s r n hv ho hb]
      · rw [claim_claimFollow, claim_claimResult, (State.released_ag _ _).claim _ (by decide), State.claim_setClaim, if_pos rfl]
      · rw [mram_claimFollow, (State.claimResult_ag _ _ _ _).mram (by decide), (State.released_ag _ _).mram (by decide)]
        rfl
    · refine ⟨s.releaseRun r n, exec_release s r res hs, ?_⟩
      unfold State.releaseRun
      rw [releaseOp_of_free s r n hv ho, claimFollow_of_claims s n ((s.claimResult_ag _ _ _).claims (by decide))]
      exact claimResult_alone s _ _ _
    · refine ⟨s.queryOp n, exec_query s r res hs, ?_⟩
      unfold State.queryOp
      rw [hv]
      exact claimResult_alone s _ _ _
    · obtain ⟨hc, hr, hq⟩ := badId_of_invalid s r n hv
      have hf := claimFollow_of_claims s n (claims_claimBadId s)
      obtain ⟨h0, h1, h2⟩ := claimBadId_shows s
      refine ⟨s.claimBadId, ?_, h0, h1, claims_claimBadId s, h2⟩
      rcases hi with rfl | rfl | rfl
      · rw [exec_claim s r res hs, State.claimRun, hc, hf]
      · rw [exec_release s r res hs, State.releaseRun, hr, hf]
      · rw [exec_query s r res hs, hq]
  · intro n Denied
    refine ⟨fun hv h0 h1 hs => ?_, fun hv h0 h1 hs => ?_⟩
    · refine ⟨s.claimRun r n, exec_claim s r res hs, ?_⟩
      unfold State.claimRun
      rw [claimOp_denied s r n hv h0 h1]
      exact denied_run s 1 r n
    · refine ⟨s.releaseRun r n, exec_release s r res hs, ?_⟩
      unfold State.releaseRun
      rw [releaseOp_denied s r n hv h0 h1]
      exact denied_run s 2 r n

end Sys2Proof.Machine
end

section
/-!
Die-to-die links: discards, declarations of down and returns to up (chapter 01, R15 to R18, R22).
-/
namespace Sys2Proof.Machine
open Sys2Proof

/-! ### The interrupt of a link -/

section
variable (s : State) (n : Nat)

theorem linkIrq_writes : Writes (fun _ => False) s (s.linkIrq n) := by
  unfold State.linkIrq
  split
  · exact ((Writes.refl _ s).irq 16).irq 17
  · split
    · exact ((Writes.refl _ s).irq 18).irq 19
    · split <;> exact (Writes.refl _ s).irq _

theorem bit_linkIrq_lo (h : n < 2) :
    (s.linkIrq n).bit Reg.INT_STAT_LO (16 + 2 * n) = true ∧ (s.linkIrq n).bit Reg.INT_STAT_LO (17 + 2 * n) = true := by
  unfold State.linkIrq
  obtain rfl | rfl : n = 0 ∨ n = 1 := by omega
  all_goals exact ⟨State.bit_irq_lo _ _ _ (.inr (State.bit_irq_lo _ _ _ (.inl (by decide)))), State.bit_irq_lo _ _ _ (.inl (by decide))⟩

/-- An MPL link raises source 47, the field link source 40. -/
theorem bit_linkIrq_hi (h : 2 ≤ n) : (s.linkIrq n).bit Reg.INT_STAT_HI (if n = 10 then 8 else 15) = true := by
  unfold State.linkIrq
  rw [if_neg (by omega), if_neg (by omega)]
  split <;> exact State.bit_irq_hi _ _ _ (.inl (by decide))

end

/-! ### A discard -/

section
variable (s : State) (n k : Nat) (crc : Bool)

/-- Of the eleven links, status and counts lie apart from each other and from what an interrupt or a record changes. -/
theorem linkKeys_apart (hn : n ≤ 10) : Reg.DLK_ERRCNT n ≠ Reg.DLK_STAT ∧ ¬ Signals (Reg.DLK_ERRCNT n) ∧ ¬ Signals Reg.DLK_STAT := by
  unfold Signals Reg.DLK_ERRCNT Reg.DLK_STAT Reg.INT_STAT_LO Reg.INT_STAT_HI
  omega

/-- The state in which a discard is counted and marked, before it is signalled. -/
def State.discardShown (s : State) (n : Nat) (crc : Bool) : State :=
  (if crc then s.count (Reg.DLK_ERRCNT n) 15 0 1 else s.count (Reg.DLK_ERRCNT n) 31 16 1).putBit Reg.DLK_STAT (16 + n) true

/-- A discard is counted and marked, then signalled. -/
theorem linkDiscard_eq : ∃ sp p0, s.linkDiscard n crc = (((s.discardShown n crc).linkIrq n).log 0x110 n sp p0).setLink n
    { ((s.discardShown n crc).linkIrq n).link n with consec := (((s.discardShown n crc).linkIrq n).link n).consec + 1 } := by
  unfold State.linkDiscard State.discardShown
  exact ⟨_, _, rfl⟩

theorem discardShown_ag : Agree 1 s (s.discardShown n crc) := by
  unfold State.discardShown
  refine Agree.then ?_ (State.putBit_ag _ _ _ _) (by decide)
  exact Agree.ite (fun _ => s.count_ag _ _ _ _) (fun _ => s.count_ag _ _ _ _)

/-- A signalled discard keeps what the registers show of it. -/
theorem linkDiscard_signals : Writes (fun _ => False) (s.discardShown n crc) (s.linkDiscard n crc) := by
  obtain ⟨sp, p0, e⟩ := linkDiscard_eq s n crc
  rw [e]
  exact ((linkIrq_writes _ n).log _ _ _ _).of_regs rfl

theorem link_linkDiscard : (s.linkDiscard n crc).link k = if n = k then { s.link n with consec := (s.link n).consec + 1 } else s.link k := by
  have hl : ∀ m, ((s.discardShown n crc).linkIrq n).link m = s.link m := fun m => by
    rw [(State.linkIrq_ag _ _).link _ (by decide), (discardShown_ag s n crc).link _ (by decide)]
  obtain ⟨sp, p0, e⟩ := linkDiscard_eq s n crc
  rw [e, State.link_setLink, (State.log_ag _ _ _ _ _).link _ (by decide), hl, hl]

/-- A discard leaves the links' up bits. -/
theorem linkUp_linkDiscard (hn : n ≤ 10) (hk : k ≤ 10) : (s.linkDiscard n crc).linkUp k = s.linkUp k := by
  obtain ⟨hne, -, hs⟩ := linkKeys_apart n hn
  unfold State.linkUp
  rw [(linkDiscard_signals s n crc).bit _ (by simp) hs]
  unfold State.discardShown
  rw [State.bit_putBit _ _ _ _ _ _ (by omega), if_neg (by omega)]
  unfold State.bit
  split <;> rw [State.rd_count_ne _ _ _ _ _ _ hne]

/-- A discard is marked in DLK_STAT.ERR. -/
theorem bit_linkDiscard_err (hn : n ≤ 10) : (s.linkDiscard n crc).bit Reg.DLK_STAT (16 + n) = true := by
  rw [(linkDiscard_signals s n crc).bit _ (by simp) (linkKeys_apart n hn).2.2]
  unfold State.discardShown
  rw [State.bit_putBit _ _ _ _ _ _ (by omega), if_pos ⟨rfl, rfl⟩]

theorem fld_linkDiscard (hn : n ≤ 10) (hi lo : Nat) :
    (s.linkDiscard n crc).fld (Reg.DLK_ERRCNT n) hi lo =
      (if crc then s.count (Reg.DLK_ERRCNT n) 15 0 1 else s.count (Reg.DLK_ERRCNT n) 31 16 1).fld (Reg.DLK_ERRCNT n) hi lo := by
  obtain ⟨hne, hs, -⟩ := linkKeys_apart n hn
  rw [(linkDiscard_signals s n crc).fld _ _ (by simp) hs]
  exact State.fld_put_ne _ _ _ _ _ _ _ _ (Ne.symm hne)

/-- A frame with a bad check is counted in the low half of DLK_ERRCNT. -/
theorem fld_linkDiscard_crc (hn : n ≤ 10) :
    (s.linkDiscard n true).fld (Reg.DLK_ERRCNT n) 15 0 = min 65535 (s.fld (Reg.DLK_ERRCNT n) 15 0 + 1) := by
  rw [fld_linkDiscard s n true hn]
  exact State.fld_count_same _ _ _ _ _ (by decide) (by decide)

/-- A frame with a wrong number is counted in the high half of DLK_ERRCNT. -/
theorem fld_linkDiscard_seq (hn : n ≤ 10) :
    (s.linkDiscard n false).fld (Reg.DLK_ERRCNT n) 31 16 = min 65535 (s.fld (Reg.DLK_ERRCNT n) 31 16 + 1) := by
  rw [fld_linkDiscard s n false hn]
  exact State.fld_count_same _ _ _ _ _ (by decide) (by decide)

theorem bit_linkDiscard_hi (h : 2 ≤ n) : (s.linkDiscard n crc).bit Reg.INT_STAT_HI (if n = 10 then 8 else 15) = true := by
  obtain ⟨sp, p0, e⟩ := linkDiscard_eq s n crc
  rw [e]
  exact (State.bit_log _ _ _ _ _ _ _ (by decide)).trans (bit_linkIrq_hi _ n h)

end

/-! ### Down and up -/

section
variable (s : State) (n k : Nat)

/-- Behind the change of the up bit a link that goes down, or returns, only signals it. -/
theorem linkDown_signals : Writes (fun _ => False) (s.putBit Reg.DLK_STAT n false) (s.linkDown n) := by
  unfold State.linkDown
  exact ((linkIrq_writes _ n).log _ _ _ _).of_regs rfl

theorem linkReturn_signals (seq : Nat) : Writes (fun _ => False) (s.putBit Reg.DLK_STAT n true) (s.linkReturn n seq) := by
  unfold State.linkReturn
  exact ((linkIrq_writes _ n).log _ _ _ _).of_regs rfl

/-- A link's up bit after it is written. -/
theorem linkUp_signalled (b : Bool) (hn : n ≤ 10) {t : State} (w : Writes (fun _ => False) (s.putBit Reg.DLK_STAT n b) t) : t.linkUp n = b := by
  unfold State.linkUp
  rw [w.bit _ (by simp) (linkKeys_apart n hn).2.2, State.bit_putBit _ _ _ _ _ _ (by omega), if_pos ⟨rfl, rfl⟩]

theorem linkUp_linkDown (hn : n ≤ 10) : (s.linkDown n).linkUp n = false := linkUp_signalled s n false hn (linkDown_signals s n)
theorem linkUp_linkReturn (seq : Nat) (hn : n ≤ 10) : (s.linkReturn n seq).linkUp n = true :=
  linkUp_signalled s n true hn (linkReturn_signals s n seq)

theorem link_linkDown_same : ((s.linkDown n).link n).downAt = s.tb.cnt := by
  unfold State.linkDown
  rw [State.link_setLink, if_pos rfl]
  dsimp only
  rw [(State.linkIrq_ag _ _).tb (by decide), (State.putBit_ag _ _ _ _).tb (by decide)]

theorem link_linkReturn_same (seq : Nat) : ((s.linkReturn n seq).link n).seq = (seq + 1) % 256 ∧ ((s.linkReturn n seq).link n).consec = 0 := by
  unfold State.linkReturn
  rw [State.link_setLink, if_pos rfl]
  exact ⟨rfl, rfl⟩

theorem bit_linkDown_lo (h : n < 2) :
    (s.linkDown n).bit Reg.INT_STAT_LO (16 + 2 * n) = true ∧ (s.linkDown n).bit Reg.INT_STAT_LO (17 + 2 * n) = true := by
  obtain ⟨h0, h1⟩ := bit_linkIrq_lo (s.putBit Reg.DLK_STAT n false) n h
  unfold State.linkDown
  exact ⟨(State.bit_log _ _ _ _ _ _ _ (by decide)).trans h0, (State.bit_log _ _ _ _ _ _ _ (by decide)).trans h1⟩

theorem bit_linkDown_hi (h : 2 ≤ n) : (s.linkDown n).bit Reg.INT_STAT_HI (if n = 10 then 8 else 15) = true := by
  unfold State.linkDown
  exact (State.bit_log _ _ _ _ _ _ _ (by decide)).trans (bit_linkIrq_hi _ n h)

end

/-! ### The lanes of a die -/

section
variable (s : State) (F : Nat → Lane → Lane)

/-- A change of the lanes from b on, one by one, is the change of each. -/
theorem lane_foldl_laneMod (b n ch : Nat) :
    ((List.range n).foldl (fun t j => t.laneMod (b + j) (F (b + j))) s).lane ch =
      if b ≤ ch ∧ ch < b + n then F ch (s.lane ch) else s.lane ch := by
  induction n with
  | zero => simp
  | succ n ih =>
    rw [List.range_succ, List.foldl_append, List.foldl_cons, List.foldl_nil, State.laneMod, State.lane_setLane, ih]
    split
    · next h =>
      subst h
      rw [ih, if_neg (by omega), if_pos (by omega)]
    · next h => exact if_congr (by omega) rfl rfl

/-- A change of a die's 64 lanes is the change of each, and of no other lane. -/
theorem lane_dieLanes (die ch : Nat) : (s.dieLanes die (fun c t => t.laneMod c (F c))).lane ch =
    if ch / 64 = die then F ch (s.lane ch) else s.lane ch :=
  (lane_foldl_laneMod s F (64 * die) 64 ch).trans (if_congr (by omega) rfl rfl)

end

section
variable (s : State) (die k : Nat) (bits : List (BitVec 16))

theorem lane_takeFrame {j : Nat} (hj : j < 64) :
    (s.takeFrame die bits).lane (64 * die + j) = (s.lane (64 * die + j)).addFrame (bits.getD (2 * j) 0) (bits.getD (2 * j + 1) 0) := by
  unfold State.takeFrame
  rw [lane_dieLanes _ (fun ch l => l.addFrame (bits.getD (2 * (ch % 64)) 0) (bits.getD (2 * (ch % 64) + 1) 0)), if_pos (by omega),
    Nat.mul_add_mod, Nat.mod_eq_of_lt hj]

theorem lane_takeFrame_other (h : k / 64 ≠ die) : (s.takeFrame die bits).lane k = s.lane k := by
  unfold State.takeFrame
  rw [lane_dieLanes _ (fun ch l => l.addFrame (bits.getD (2 * (ch % 64)) 0) (bits.getD (2 * (ch % 64) + 1) 0)), if_neg h]

theorem lane_loseFrame {j : Nat} (hj : j < 64) :
    (s.loseFrame die).lane (64 * die + j) = (s.lane (64 * die + j)).addLost (64 * die + j) := by
  unfold State.loseFrame
  rw [lane_dieLanes _ (fun ch l => l.addLost ch), if_pos (by omega)]

/-- Link n expects another number. -/
def State.expectSeq (s : State) (n seq : Nat) : State := s.setLink n { s.link n with seq := seq }

@[simp] theorem link_expectSeq_same (n seq : Nat) : (s.expectSeq n seq).link n = { s.link n with seq := seq } :=
  (State.link_setLink _ _ _ _).trans (if_pos rfl)

theorem expectSeq_ag (n seq : Nat) : Agree 1024 s (s.expectSeq n seq) := s.setLink_ag _ _

/-- The run of discards of link n ends. -/
def State.clearRun (s : State) (n : Nat) : State := s.setLink n { s.link n with consec := 0 }

@[simp] theorem link_clearRun_same (n : Nat) : (s.clearRun n).link n = { s.link n with consec := 0 } :=
  (State.link_setLink _ _ _ _).trans (if_pos rfl)

theorem clearRun_ag (n : Nat) : Agree 1024 s (s.clearRun n) := s.setLink_ag _ _

end

/-- A discard behind which another number is expected: the run of discards is one longer, the link stays as it was, and the link's counts go by
the cause. -/
theorem expectSeq_linkDiscard (s : State) (n seq : Nat) (crc : Bool) (hn : n ≤ 10) : let t := (s.expectSeq n seq).linkDiscard n crc
    t.link n = { s.link n with seq := seq, consec := (s.link n).consec + 1 } ∧ t.linkUp n = s.linkUp n ∧ t.bit Reg.DLK_STAT (16 + n) = true ∧
    (crc = true → t.fld (Reg.DLK_ERRCNT n) 15 0 = min 65535 (s.fld (Reg.DLK_ERRCNT n) 15 0 + 1)) ∧
    (crc = false → t.fld (Reg.DLK_ERRCNT n) 31 16 = min 65535 (s.fld (Reg.DLK_ERRCNT n) 31 16 + 1)) := by
  have hag := expectSeq_ag s n seq
  refine ⟨?_, ?_, bit_linkDiscard_err _ n crc hn, ?_, ?_⟩
  · rw [link_linkDiscard, if_pos rfl, link_expectSeq_same]
  · rw [linkUp_linkDiscard _ _ _ _ hn hn]
    exact hag.bit _ (by decide) _
  · rintro rfl
    rw [fld_linkDiscard_crc _ _ hn, hag.fld _ (by decide)]
  · rintro rfl
    rw [fld_linkDiscard_seq _ _ hn, hag.fld _ (by decide)]

section
variable (s : State) (die seq : Nat) (ok : Bool) (bits : List (BitVec 16))

/-- A good frame with the expected number on a link that is up (R15). -/
theorem aflFrame_taken (hu : s.linkUp die = true) (hok : ok = true) (hq : seq = (s.link die).seq) :
    s.aflFrame die seq ok bits = ((s.expectSeq die ((seq + 1) % 256)).clearRun die).takeFrame die bits := by
  unfold State.aflFrame
  simp only [hu, hok, hq, nextSeq, if_true, Bool.not_true, Bool.false_eq_true, if_false, ne_eq, not_true_eq_false]
  rfl

/-- A frame with a bad check or a wrong number on a link that is up (R15, R17). -/
theorem aflFrame_discarded (hu : s.linkUp die = true) (h : ok = false ∨ seq ≠ (s.link die).seq) : s.aflFrame die seq ok bits =
    ((s.expectSeq die (nextSeq (s.link die).seq seq ok)).linkDiscard die (!ok)).loseFrame die := by
  unfold State.aflFrame State.expectSeq
  cases ok with
  | false => simp [hu]
  | true => simp [hu, h.resolve_left (by decide)]

end

theorem Agree.eq_lanes_links {s t : State} (h : Agree 2098176 s t) : t = { s with lanes := t.lanes, links := t.links } := h.eq_overlay

/-- Settles O29: a frame is taken whole or counted and lost, and the fourth discard in a row lets the link go down. -/
theorem dieLinkFramesAndDown : Obligations.DieLinkFramesAndDown := by
  unfold Obligations.DieLinkFramesAndDown
  refine ⟨fun s die seq ok bits hu => ⟨fun hok hq => ?_, fun h => ?_⟩, fun s die hu => ⟨fun h4 => ?_, fun h4 => ?_⟩⟩
  · refine ⟨s.aflFrame die.val seq.toNat ok bits, rfl, ?_⟩
    rw [aflFrame_taken s die.val seq.toNat ok bits hu hok hq]
    have hlinks : Agree 1024 s ((s.expectSeq die.val ((seq.toNat + 1) % 256)).clearRun die.val) :=
      (expectSeq_ag s _ _).then (clearRun_ag _ _) (by decide)
    have htake := State.takeFrame_ag ((s.expectSeq die.val ((seq.toNat + 1) % 256)).clearRun die.val) die.val bits
    refine ⟨?_, ?_, fun j hj => ?_, fun ch hch => ?_, ((hlinks.mono (by decide)).then htake (by decide)).eq_lanes_links⟩
    · rw [htake.link _ (by decide), link_clearRun_same]
    · rw [htake.link _ (by decide), link_clearRun_same, link_expectSeq_same]
    · rw [lane_takeFrame _ _ _ hj, hlinks.lane _ (by decide)]
    · rw [lane_takeFrame_other _ _ _ _ hch, hlinks.lane _ (by decide)]
  · refine ⟨s.aflFrame die.val seq.toNat ok bits, rfl, ?_⟩
    rw [aflFrame_discarded s die.val seq.toNat ok bits hu h]
    obtain ⟨hlink, hup, herr, hcrc, hseq⟩ :=
      expectSeq_linkDiscard s die.val (nextSeq (s.link die.val).seq seq.toNat ok) (!ok) (by omega)
    have hlose := State.loseFrame_ag ((s.expectSeq die.val (nextSeq (s.link die.val).seq seq.toNat ok)).linkDiscard die.val (!ok)) die.val
    refine ⟨?_, ?_, ?_, fun j hj => ?_, fun hok => ?_, fun hok => ?_⟩
    · rw [hlose.link _ (by decide), hlink]
    · exact (hlose.bit _ (by decide) _).trans (hup.trans hu)
    · rw [hlose.bit _ (by decide), herr]
    · rw [lane_loseFrame _ _ hj, (State.linkDiscard_ag _ _ _).lane _ (by decide), (expectSeq_ag _ _ _).lane _ (by decide)]
    · rw [hlose.fld _ (by decide), hcrc (by simp [hok])]
    · rw [hlose.fld _ (by decide), hseq (by simp [hok])]
  · obtain ⟨h0, h1⟩ := bit_linkDown_lo s die.val die.isLt
    exact ⟨s.linkDown die.val, congrArg Host.Outcome.next (if_pos ⟨hu, h4⟩), linkUp_linkDown s _ (by omega), link_linkDown_same s _, h0, h1,
      (s.linkDown_ag _).lanes (by decide), (s.linkDown_ag _).mram (by decide)⟩
  · exact congrArg Host.Outcome.next (if_neg (fun h => by omega))

end Sys2Proof.Machine
end

section
/-!
MRAM accesses and MPL transfers (chapter 01, R15, R21, R22, R37, R38).
-/
namespace Sys2Proof.Machine
open Sys2Proof

/-! ### Accesses -/

/-- A byte written within the 64 MB is read back. -/
theorem mb_mwr_in (s : State) (a : Nat) (b : Bytes) (i : Nat) (hi : i < b.length) (ha : a + i < 0x4000000) : (s.mwr a b).mb (a + i) = b.getD i 0 := by
  induction b generalizing s a i with
  | nil => exact absurd hi (Nat.not_lt_zero i)
  | cons x xs ih =>
    rw [State.mwr]
    cases i with
    | zero =>
      rw [State.mb_mwr_out _ _ _ _ (.inl (by omega)), if_pos (by omega)]
      exact (SMap.get_set _ _ _ _ _).trans (if_pos rfl)
    | succ i =>
      rw [show a + (i + 1) = a + 1 + i by omega, ih _ _ _ (by simpa using hi) (by omega), List.getD_cons_succ]

section
variable (s : State) (fn : MUser) (via : Option Req) (addr len : Nat) (data : Bytes)

/-- Where every access begins: an error of the user's last access is forgotten. -/
def State.forgetErr (s : State) (fn : MUser) : State := s.setMramErr (s.mramErr.filter (fun u => decide (u ≠ fn)))

theorem mramAccess_read : s.mramAccess fn via false addr len data = (s.forgetErr fn).setMramOut (s.mbs len addr) := by
  have hm : ∀ n a, (s.forgetErr fn).mbs n a = s.mbs n a := fun n => by
    induction n with
    | zero => exact fun _ => rfl
    | succ n ih => exact fun a => congrArg₂ List.cons rfl (ih (a + 1))
  unfold State.mramAccess
  exact congrArg (s.forgetErr fn).setMramOut (hm len addr)

theorem mramAccess_write (h : ∀ i, i < len → mramWriter fn (addr + i) = true) :
    s.mramAccess fn via true addr len data = (s.forgetErr fn).mwr addr (data.take len) := by
  unfold State.mramAccess
  have : (List.range len).all (fun i => mramWriter fn (addr + i)) = true := by simpa using h
  simp only [this, Bool.not_true, Bool.false_eq_true, if_false, if_true]
  rfl

theorem mramAccess_refused (h : ∃ i, i < len ∧ mramWriter fn (addr + i) = false) :
    s.mramAccess fn via true addr len data = ((s.forgetErr fn).mramDenied fn addr).viaError via 3 := by
  unfold State.mramAccess
  have : (List.range len).all (fun i => mramWriter fn (addr + i)) = false := by simpa using h
  simp only [this, Bool.not_true, Bool.false_eq_true, if_false]
  rfl

theorem bit_mramDenied : (s.mramDenied fn addr).bit Reg.INT_STAT_HI 15 = true :=
  (State.bit_log _ _ _ _ _ _ _ (by decide)).trans (State.bit_irq_hi _ _ _ (.inl (by decide)))

/-- The interface through which a refused write came shows it, with interrupt 46. -/
theorem indFail_shows (r : Req) (cause : Nat) : let t := s.indFail r cause
    (t.ind r.num).err = true ∧ (t.ind r.num).cause = cause ∧ t.bit Reg.INT_STAT_HI 14 = true := by
  have hi : (s.indFail r cause).ind r.num = { s.ind r.num with err := true, cause := cause } := by
    unfold State.indFail State.ind
    rw [(State.irq_ag _ _).inds (by decide)]
    exact (State.ind_setInd _ _ _ _).trans (if_pos rfl)
  exact ⟨congrArg Ind.err hi, congrArg Ind.cause hi, State.bit_irq_hi _ _ _ (.inl (by decide))⟩

theorem viaError_raised (h : s.bit Reg.INT_STAT_HI 15 = true) (cause : Nat) : (s.viaError via cause).bit Reg.INT_STAT_HI 15 = true := by
  cases via with
  | none => exact h
  | some r => exact State.bit_irq_hi _ _ _ (.inr h)

end

theorem Agree.eq_mramOut {s t : State} (h : Agree 6144 s t) : t = { s with mramOut := t.mramOut, mramErr := t.mramErr } := h.eq_overlay
theorem Agree.eq_mram {s t : State} (h : Agree 2050 s t) : t = { s with mram := t.mram, mramErr := t.mramErr } := h.eq_overlay
theorem Agree.eq_mramRefused {s t : State} (h : Agree 27265 s t) :
    t = { s with regs := t.regs, supPend := t.supPend, inds := t.inds, mramErr := t.mramErr, tally := t.tally, buckets := t.buckets } :=
  h.eq_overlay

/-! ### Transfers -/

section
variable (s : State) (n : Nat) (f : RxFrame)

/-- A transfer that passes on a link that is up ends the run of discards. -/
theorem mplTry_good (hu : s.linkUp n = true) (hc : f.crcOk = true) (hq : f.seq.toNat = (s.link n).seq) :
    s.mplTry n f = ((s.expectSeq n (((s.link n).seq + 1) % 256)).clearRun n, true) := by
  unfold State.mplTry
  simp only [hu, hc, hq, nextSeq, if_true, and_self]
  rfl

/-- One that fails there is a discard. -/
theorem mplTry_bad (hu : s.linkUp n = true) (h : ¬ (f.crcOk = true ∧ f.seq.toNat = (s.link n).seq)) :
    s.mplTry n f = ((s.expectSeq n (nextSeq (s.link n).seq f.seq.toNat f.crcOk)).linkDiscard n (!f.crcOk), false) := by
  unfold State.mplTry
  simp only [hu, h, if_true, if_false]
  rfl

/-- A link that is down takes any number, and counts nothing. -/
theorem mplTry_down (hu : s.linkUp n = false) :
    s.mplTry n f = if f.crcOk = true then (s.linkReturn n f.seq.toNat, true) else (s, false) := by
  unfold State.mplTry
  simp only [hu, Bool.false_eq_true, if_false]

end

section
variable (s : State) (b : Nat) (fn : MUser) (f1 f2 : RxFrame)

/-- The error that an access both of whose attempts failed leaves its function. -/
def State.accessFailed (s : State) (fn : MUser) : State := (s.irq 47).setMramErr (fn :: s.mramErr.filter (fun u => decide (u ≠ fn)))

theorem mplEnd_first {t : State} (h : s.mplTry (2 + b) f1 = (t, true)) : s.mplEnd b fn f1 f2 = t := by
  unfold State.mplEnd
  simp only [h, if_true]

theorem mplEnd_second {t u : State} (h : s.mplTry (2 + b) f1 = (t, false)) (h' : t.mplTry (2 + b) f2 = (u, true)) :
    s.mplEnd b fn f1 f2 = u := by
  unfold State.mplEnd
  simp only [h, h', Bool.false_eq_true, if_false, if_true]

theorem mplEnd_failed {t u : State} (h : s.mplTry (2 + b) f1 = (t, false)) (h' : t.mplTry (2 + b) f2 = (u, false)) :
    s.mplEnd b fn f1 f2 = if s.linkUp (2 + b) then (u.accessFailed fn).linkDown (2 + b) else u.accessFailed fn := by
  unfold State.mplEnd
  simp only [h, h', Bool.false_eq_true, if_false]
  rfl

theorem accessFailed_shows : fn ∈ (s.accessFailed fn).mramErr ∧ (s.accessFailed fn).bit Reg.INT_STAT_HI 15 = true :=
  ⟨List.mem_cons_self, State.bit_irq_hi _ _ _ (.inl (by decide))⟩

theorem accessFailed_ag : Agree 2561 s (s.accessFailed fn) :=
  ((s.irq_ag 47).mono (by decide)).then (State.setMramErr_ag _ _) (by decide)

theorem linkUp_accessFailed (n : Nat) : (s.accessFailed fn).linkUp n = s.linkUp n := by
  have w : Writes (fun _ => False) s (s.accessFailed fn) := ((Writes.refl _ s).irq 47).of_regs rfl
  exact w.bit n (by simp) (by unfold Signals; decide)

end

theorem Agree.eq_links {s t : State} (h : Agree 1024 s t) : t = { s with links := t.links } := h.eq_overlay
theorem Agree.eq_signal_links {s t : State} (h : Agree 26113 s t) :
    t = { s with regs := t.regs, supPend := t.supPend, links := t.links, tally := t.tally, buckets := t.buckets } := h.eq_overlay
theorem Agree.eq_signal_links_err {s t : State} (h : Agree 28161 s t) :
    t = { s with regs := t.regs, supPend := t.supPend, links := t.links, mramErr := t.mramErr, tally := t.tally, buckets := t.buckets } :=
  h.eq_overlay

/-! ### The outcomes of a transfer, by its two attempts -/

section
variable (s : State) (b : Fin 8) (fn : MUser) (f1 f2 : RxFrame)

/-- The state in which a first attempt that failed on a link that is up is counted. -/
def State.firstFailed (s : State) (n : Nat) (f : RxFrame) : State :=
  (s.expectSeq n (nextSeq (s.link n).seq f.seq.toNat f.crcOk)).linkDiscard n (!f.crcOk)

theorem firstFailed_ag (n : Nat) (f : RxFrame) : Agree 26113 s (s.firstFailed n f) :=
  ((expectSeq_ag s n _).mono (by decide)).then (State.linkDiscard_ag _ _ _) (by decide)

theorem mpl_first_passes (hu : s.linkUp (2 + b.val) = true) (h1 : f1.crcOk = true ∧ f1.seq.toNat = (s.link (2 + b.val)).seq) :
    let t := s.mplEnd b.val fn f1 f2
    (t.link (2 + b.val)).consec = 0 ∧ (t.link (2 + b.val)).seq = ((s.link (2 + b.val)).seq + 1) % 256 ∧ t.linkUp (2 + b.val) = true ∧
    t = { s with links := t.links } := by
  have hag : Agree 1024 s ((s.expectSeq (2 + b.val) (((s.link (2 + b.val)).seq + 1) % 256)).clearRun (2 + b.val)) :=
    (expectSeq_ag s _ _).then (clearRun_ag _ _) (by decide)
  rw [mplEnd_first s b.val fn f1 f2 (mplTry_good s _ f1 hu h1.1 h1.2)]
  exact ⟨by rw [link_clearRun_same], by rw [link_clearRun_same, link_expectSeq_same], (hag.bit _ (by decide) _).trans hu, hag.eq_links⟩

theorem mpl_repeat_passes (hu : s.linkUp (2 + b.val) = true) (h1 : ¬ (f1.crcOk = true ∧ f1.seq.toNat = (s.link (2 + b.val)).seq))
    (h2 : f2.crcOk = true ∧ f2.seq.toNat = nextSeq (s.link (2 + b.val)).seq f1.seq.toNat f1.crcOk) :
    let t := s.mplEnd b.val fn f1 f2
    (t.link (2 + b.val)).consec = 0 ∧ t.linkUp (2 + b.val) = true ∧ t.bit Reg.INT_STAT_HI 15 = true ∧ t.mram = s.mram ∧ t.mramErr = s.mramErr ∧
    (f1.crcOk = false → t.fld (Reg.DLK_ERRCNT (2 + b.val)) 15 0 = min 65535 (s.fld (Reg.DLK_ERRCNT (2 + b.val)) 15 0 + 1)) ∧
    (f1.crcOk = true → t.fld (Reg.DLK_ERRCNT (2 + b.val)) 31 16 = min 65535 (s.fld (Reg.DLK_ERRCNT (2 + b.val)) 31 16 + 1)) ∧
    t = { s with regs := t.regs, supPend := t.supPend, links := t.links, tally := t.tally, buckets := t.buckets } := by
  obtain ⟨hlink, hup, -, hcrc, hseq⟩ := expectSeq_linkDiscard s (2 + b.val) (nextSeq (s.link (2 + b.val)).seq f1.seq.toNat f1.crcOk) (!f1.crcOk)
    (by omega)
  have hfirst := firstFailed_ag s (2 + b.val) f1
  have hirq := bit_linkDiscard_hi (s.expectSeq (2 + b.val) (nextSeq (s.link (2 + b.val)).seq f1.seq.toNat f1.crcOk)) (2 + b.val) (!f1.crcOk)
    (by omega)
  rw [if_neg (by omega)] at hirq
  have hq : f2.seq.toNat = ((s.firstFailed (2 + b.val) f1).link (2 + b.val)).seq := h2.2.trans (congrArg Link.seq hlink).symm
  rw [mplEnd_second s b.val fn f1 f2 (mplTry_bad s _ f1 hu h1) (mplTry_good (s.firstFailed _ f1) _ f2 (hup.trans hu) h2.1 hq)]
  have hsecond : Agree 1024 (s.firstFailed (2 + b.val) f1)
      (((s.firstFailed (2 + b.val) f1).expectSeq (2 + b.val) ((((s.firstFailed (2 + b.val) f1).link (2 + b.val)).seq + 1) % 256)).clearRun
        (2 + b.val)) := (expectSeq_ag _ _ _).then (clearRun_ag _ _) (by decide)
  have hag := hfirst.then hsecond (by decide)
  refine ⟨by rw [link_clearRun_same], (hsecond.bit _ (by decide) _).trans (hup.trans hu), (hsecond.bit _ (by decide) _).trans hirq,
    hag.mram (by decide), hag.mramErr (by decide), fun h => ?_, fun h => ?_, hag.eq_signal_links⟩
  · exact (hsecond.fld _ (by decide) _ _).trans (hcrc (by simp [h]))
  · exact (hsecond.fld _ (by decide) _ _).trans (hseq (by simp [h]))

theorem mpl_both_fail (hu : s.linkUp (2 + b.val) = true) (h1 : ¬ (f1.crcOk = true ∧ f1.seq.toNat = (s.link (2 + b.val)).seq))
    (h2 : ¬ (f2.crcOk = true ∧ f2.seq.toNat = nextSeq (s.link (2 + b.val)).seq f1.seq.toNat f1.crcOk)) :
    let t := s.mplEnd b.val fn f1 f2
    t.linkUp (2 + b.val) = false ∧ fn ∈ t.mramErr ∧ t.bit Reg.INT_STAT_HI 15 = true ∧
    t = { s with regs := t.regs, supPend := t.supPend, links := t.links, mramErr := t.mramErr, tally := t.tally, buckets := t.buckets } := by
  obtain ⟨hlink, hup, -⟩ := expectSeq_linkDiscard s (2 + b.val) (nextSeq (s.link (2 + b.val)).seq f1.seq.toNat f1.crcOk) (!f1.crcOk) (by omega)
  have hq : ¬ (f2.crcOk = true ∧ f2.seq.toNat = ((s.firstFailed (2 + b.val) f1).link (2 + b.val)).seq) :=
    fun h => h2 ⟨h.1, h.2.trans (congrArg Link.seq hlink)⟩
  rw [mplEnd_failed s b.val fn f1 f2 (mplTry_bad s _ f1 hu h1) (mplTry_bad (s.firstFailed _ f1) _ f2 (hup.trans hu) hq), if_pos hu]
  have hag : Agree 28161 s ((((s.firstFailed (2 + b.val) f1).firstFailed (2 + b.val) f2).accessFailed fn).linkDown (2 + b.val)) :=
    ((((firstFailed_ag s _ f1).mono (by decide)).then (firstFailed_ag _ _ f2) (by decide)).then (accessFailed_ag _ fn) (by decide)).then
      (State.linkDown_ag _ _) (by decide)
  have hirq := bit_linkDown_hi (((s.firstFailed (2 + b.val) f1).firstFailed (2 + b.val) f2).accessFailed fn) (2 + b.val) (by omega)
  rw [if_neg (by omega)] at hirq
  refine ⟨linkUp_linkDown _ _ (by omega), ?_, hirq, hag.eq_signal_links_err⟩
  rw [(State.linkDown_ag _ _).mramErr (by decide)]
  exact (accessFailed_shows _ fn).1

theorem mpl_link_returns (f : RxFrame) (h : s.mplEnd b.val fn f1 f2 = s.linkReturn (2 + b.val) f.seq.toNat) :
    let t := s.mplEnd b.val fn f1 f2
    t.linkUp (2 + b.val) = true ∧ (t.link (2 + b.val)).seq = (f.seq.toNat + 1) % 256 ∧ t.mram = s.mram ∧ t.mramErr = s.mramErr := by
  have hag := s.linkReturn_ag (2 + b.val) f.seq.toNat
  rw [h]
  exact ⟨linkUp_linkReturn _ _ _ (by omega), (link_linkReturn_same _ _ _).1, hag.mram (by decide), hag.mramErr (by decide)⟩

end

/-- Settles O30: an access is one of the three branches of `mramAccess`, a transfer one of the outcomes of its two attempts. -/
theorem mramAccessAndMplTransfers : Obligations.MramAccessAndMplTransfers := by
  unfold Obligations.MramAccessAndMplTransfers
  refine ⟨fun s fn via addr len data => ⟨?_, fun h => ?_, fun h => ?_⟩, ?_⟩
  · refine ⟨s.mramAccess fn via false addr.toNat len.val data, rfl, ?_⟩
    rw [mramAccess_read]
    exact ⟨rfl, rfl, (((s.setMramErr_ag _).mono (by decide)).then (State.setMramOut_ag _ _) (by decide)).eq_mramOut⟩
  · refine ⟨s.mramAccess fn via true addr.toNat len.val data, rfl, ?_⟩
    rw [mramAccess_write s fn via addr.toNat len.val data h]
    refine ⟨fun i hi hd ha => ?_, fun a ha => ?_, (((s.setMramErr_ag _).mono (by decide)).then (State.mwr_ag _ _ _) (by decide)).eq_mram⟩
    · rw [mb_mwr_in _ _ _ _ (by simpa using ⟨hi, hd⟩) ha]
      simp [List.getD_eq_getElem?_getD, hi]
    · rw [State.mb_mwr_out _ _ _ _ (by simpa using ha)]
      rfl
  · refine ⟨s.mramAccess fn via true addr.toNat len.val data, rfl, ?_⟩
    rw [mramAccess_refused s fn via addr.toNat len.val data h]
    have h0 : Agree 2048 s (s.forgetErr fn) := s.setMramErr_ag _
    have h1 := (h0.mono (m := 27265) (by decide)).then (State.mramDenied_ag _ fn addr.toNat) (by decide)
    have h2 := State.viaError_ag ((s.forgetErr fn).mramDenied fn addr.toNat) via 3
    have hag := h1.then h2 (by decide)
    refine ⟨hag.mram (by decide), ?_, viaError_raised _ via (bit_mramDenied _ fn _) 3, fun r hr => ?_, fun hv => ?_, hag.eq_mramRefused⟩
    · rw [h2.mramErr (by decide), (State.mramDenied_ag _ _ _).mramErr (by decide)]
      simp [State.forgetErr]
    · subst hr
      exact indFail_shows _ r 3
    · subst hv
      exact (State.mramDenied_ag _ _ _).inds (by decide)
  · intro s b fn f1 f2 n x Good
    refine ⟨fun hu h1 => ⟨_, rfl, mpl_first_passes s b fn f1 f2 hu h1⟩, fun hu h1 h2 => ⟨_, rfl, mpl_repeat_passes s b fn f1 f2 hu h1 h2⟩,
      fun hu h1 h2 => ⟨_, rfl, mpl_both_fail s b fn f1 f2 hu h1 h2⟩, fun hu h1 => ⟨_, rfl, ?_⟩, fun hu h1 h2 => ⟨_, rfl, ?_⟩,
      fun hu h1 h2 => ⟨_, rfl, ?_⟩⟩
    · refine mpl_link_returns s b fn f1 f2 f1 (mplEnd_first s b.val fn f1 f2 ?_)
      rw [mplTry_down s _ f1 hu, if_pos h1]
    · refine mpl_link_returns s b fn f1 f2 f2 (mplEnd_second s b.val fn f1 f2 (t := s) ?_ ?_)
      · rw [mplTry_down s _ f1 hu, if_neg (by simp [h1])]
      · rw [mplTry_down s _ f2 hu, if_pos h2]
    · have ht : s.mplEnd b.val fn f1 f2 = s.accessFailed fn := by
        rw [mplEnd_failed s b.val fn f1 f2 (t := s) (u := s), if_neg (by simpa using hu)]
        · rw [mplTry_down s _ f1 hu, if_neg (by simp [h1])]
        · rw [mplTry_down s _ f2 hu, if_neg (by simp [h2])]
      rw [ht]
      exact ⟨(linkUp_accessFailed s fn _).trans hu, (accessFailed_shows s fn).1, (accessFailed_shows s fn).2,
        (accessFailed_ag s fn).mram (by decide)⟩

end Sys2Proof.Machine
end

section
/-!
Which registers an evaluation step of the trip lines writes (chapter 08): none of those that show the die-to-die links, the field channels'
states, faults and counts, or the field banks.
-/
namespace Sys2Proof.Machine
open Sys2Proof

/-- The keys an evaluation step may write beside those of interrupts and records: time I/O pins, trip lines, command image and drives,
configurations and groups of field channels, and all keys from the Ethernet block on (GOOSE, CAN, detectors). -/
def TripKeys (a : Nat) : Prop :=
  (0x8000 ≤ a ∧ a < 0x1C000) ∨ (0x1C020 ≤ a ∧ a < 0x1C030) ∨ (0x1C100 ≤ a ∧ a < 0x1C220) ∨ 0x20000 ≤ a

section
variable {P : Nat → Prop} {s t : State}

theorem Writes.putPair (h : Writes P s t) {lo : Nat} (n : Nat) (b : Bool) (h0 : P lo) (h1 : P (lo + 4)) : Writes P s (t.putPair lo n b) := by
  unfold State.putPair
  split
  · exact h.putBit _ _ h0
  · exact h.putBit _ _ h1

/-- An operation whose frame holds no registers. -/
theorem Writes.of_agree {m : Nat} {u : State} (h : Writes P s t) (k : Agree m t u) (hm : m.testBit 0 = false) : Writes P s u :=
  h.of_regs (k.regs hm)

theorem Writes.ite {u : State} {c : Prop} [Decidable c] (ht : c → Writes P s t) (hu : ¬ c → Writes P s u) :
    Writes P s (if c then t else u) := by
  split
  · exact ht ‹_›
  · exact hu ‹_›

end

/-! ### What the lines drive: CAN objects, GOOSE, field channels -/

section
variable (s : State)

theorem canQueue_writes (c m : Nat) : Writes TripKeys s (s.canQueue c m) := by
  have hobj : ∀ w, TripKeys (canObj c m w) := fun w => by unfold TripKeys canObj; omega
  have hpend : TripKeys (Reg.CAN_PEND c (m / 32)) := by unfold TripKeys Reg.CAN_PEND; omega
  have hcnt : TripKeys (Reg.CAN_ECNT2 c) := by unfold TripKeys Reg.CAN_ECNT2; omega
  have hbit := (Writes.refl TripKeys s).putBit 28 false (hobj 3)
  unfold State.canQueue
  refine Writes.ite (fun _ => (Writes.refl _ s).count _ _ _ hcnt) (fun _ => Writes.ite (fun _ => Writes.refl _ s) (fun _ => ?_))
  dsimp only
  split
  · exact hbit
  · exact hbit
  · exact hbit.of_agree (State.setCan_ag _ _ _) (by decide)
  · unfold State.setObj
    exact (hbit.put _ _ _ (hobj 3)).putBit _ _ hpend

theorem ethPut_writes (p pcp : Nat) (f : EFrame) : Writes TripKeys s (s.ethPut p pcp f) := by
  have hdrop : TripKeys (Reg.ETH_DROP p) := by unfold TripKeys Reg.ETH_DROP; omega
  unfold State.ethPut
  refine Writes.ite (fun _ => Writes.refl _ s) (fun _ => ?_)
  refine Writes.ite (fun _ => Writes.ite (fun _ => Writes.refl _ s) (fun _ => (Writes.refl _ s).count _ _ _ hdrop)) (fun _ => ?_)
  exact (Writes.refl _ s).of_agree (State.setEthQ_ag _ _ _ _) (by decide)

theorem ethSend_writes (f : Eth) (outs : List Nat) (untag pcp vid : Nat) (src : EFrame) :
    Writes TripKeys s (s.ethSend f outs untag pcp vid src) := by
  unfold State.ethSend
  refine Writes.foldl ?_ (fun u lp _ hu => Writes.foldl hu (fun v p _ hv => hv.trans (ethPut_writes v _ _ _)))
  unfold when
  exact Writes.ite (fun _ => (Writes.refl _ s).of_agree (State.ethMod_ag _ _) (by decide)) (fun _ => Writes.refl _ s)

theorem gpubQueue_writes (g gapMs : Nat) : Writes TripKeys s (s.gpubQueue g gapMs) := by
  unfold State.gpubQueue
  split
  · exact Writes.refl _ s
  · exact ethSend_writes s _ _ _ _ _ _

theorem gooseChange_writes (g : Nat) : Writes TripKeys s (s.gooseChange g) := by
  have hst : TripKeys (Reg.GPUB_ST g) := by unfold TripKeys Reg.GPUB_ST; omega
  have hsq : TripKeys (Reg.GPUB_SQ g) := by unfold TripKeys Reg.GPUB_SQ; omega
  unfold State.gooseChange
  refine Writes.ite (fun _ => Writes.refl _ s) (fun _ => ?_)
  refine Writes.trans (Writes.of_agree (Writes.wr ?_ _ hsq) (State.setGpub_ag _ _ _) (by decide)) (gpubQueue_writes _ _ _)
  refine Writes.ite (fun _ => ?_) (fun _ => (Writes.refl _ s).wr _ hst)
  unfold State.gpubDrop
  exact (Writes.refl _ s).of_agree (State.ethMod_ag _ _) (by decide)

theorem gooseLines_writes (l : List Nat) : Writes TripKeys s (s.gooseLines l) := by
  unfold State.gooseLines
  exact (Writes.refl _ s).foldl (fun u g _ hu => Writes.ite (fun _ => hu.trans (gooseChange_writes u g)) (fun _ => hu))

/-- The number of a field channel or of a line in a resource ID that has an entry in R39. -/
theorem resValid_index {res : Nat} (h : resValid res = true) :
    (res / 4096 = 1 → res % 4096 < 4) ∧ (res / 4096 = 3 → res % 4096 < 48) ∧ (res / 4096 = 4 → res % 4096 < 64) := by
  unfold resValid at h
  refine ⟨fun e => ?_, fun e => ?_, fun e => ?_⟩ <;> simpa [e] using h

theorem fioRelease_writes {k : Nat} (hk : k < 48) : Writes TripKeys s (s.fioRelease k) := by
  have hcfg : TripKeys (Reg.FIO_CFG k) := by unfold TripKeys Reg.FIO_CFG; omega
  have hgrp : TripKeys (Reg.FIO_GRP (k / 8)) := by unfold TripKeys Reg.FIO_GRP; omega
  unfold State.fioRelease
  exact (((Writes.refl _ s).wr _ hcfg).putPair _ _ (by unfold TripKeys; decide) (by unfold TripKeys; decide)).wr _ hgrp

theorem released_writes (res : Nat) : Writes TripKeys s (s.released res) := by
  unfold State.released
  refine Writes.ite (fun _ => Writes.refl _ s) (fun hv => ?_)
  obtain ⟨h1, h3, -⟩ := resValid_index (res := res) (by simpa using hv)
  refine Writes.ite (fun e => ?_) (fun _ => Writes.ite (fun e => fioRelease_writes s (h3 e)) (fun _ => Writes.refl _ s))
  have hcfg : TripKeys (Reg.TIO_CFG (res % 4096)) := by have := h1 e; unfold TripKeys Reg.TIO_CFG; omega
  exact ((Writes.refl _ s).put _ _ _ hcfg).of_agree (State.setPin_ag _ _ _) (by decide)

theorem settleEnded_writes : Writes TripKeys s s.settleEnded := by
  unfold State.settleEnded
  refine Writes.of_agree (Writes.foldl (Writes.refl _ s) (fun u x _ hu => ?_)) (State.setEnded_ag _ _) (by decide)
  exact Writes.ite (fun _ => hu.trans (released_writes u x)) (fun _ => hu)

theorem fioImage_writes : Writes TripKeys s s.fioImage := by
  unfold State.fioImage
  exact ((Writes.refl _ s).wr _ (by unfold TripKeys; decide)).wr _ (by unfold TripKeys; decide)

theorem fioDrive_writes : Writes TripKeys s s.fioDrive := by
  unfold State.fioDrive
  exact Writes.ite (fun _ => fioImage_writes s)
    (fun _ => ((fioImage_writes s).trans (settleEnded_writes _)).trans (fioImage_writes _))

end

/-! ### The lines -/

section
variable (s : State) {n : Nat} (hn : n < 64)
include hn

/-- The registers of a line that an evaluation step may write. -/
theorem tripKeys_line : TripKeys (Reg.TL_STAT n) ∧ TripKeys (Reg.TL_FLAG n) ∧ TripKeys (Reg.TL_CNT n) := by
  unfold TripKeys Reg.TL_STAT Reg.TL_FLAG Reg.TL_CNT
  omega

theorem tlDeny_writes : Writes TripKeys s (s.tlDeny n) := by
  obtain ⟨hstat, hflag, hcnt⟩ := tripKeys_line hn
  unfold State.tlDeny State.tlLog State.setTl
  have h := ((Writes.refl TripKeys s).put 31 29 2 hstat).of_agree (State.setLine_ag _ n { s.line n with waitAt := s.tb.cnt }) (by decide)
  exact (((h.putBit 0 true hflag).putBit 0 true (by unfold TripKeys; decide)).count 31 16 1 hcnt).irq _ |>.log _ _ _ _

theorem tlGrant_writes (waited : Bool) : Writes TripKeys s (s.tlGrant n waited) := by
  obtain ⟨hstat, -, hcnt⟩ := tripKeys_line hn
  unfold State.tlGrant State.tlLog State.setTl
  have h := (((Writes.refl TripKeys s).put 31 29 3 hstat).of_agree (State.setLine_ag _ n { s.line n with grantAt := s.tb.cnt }) (by decide)).count
    15 0 1 hcnt
  exact Writes.log (Writes.irq (Writes.ite (fun _ => (h.put 28 27 1 hstat).put 12 0 0 hstat) (fun _ => h)) _) _ _ _ _

theorem tlEnd_writes (cause : Nat) (src : Bool) : Writes TripKeys s (s.tlEnd n cause src) := by
  obtain ⟨hstat, hflag, -⟩ := tripKeys_line hn
  unfold State.tlEnd State.tlLog State.setTl
  have h := ((Writes.refl TripKeys s).put 31 29 (if src then 4 else 1) hstat).of_agree
    (State.setLine_ag _ n { s.line n with cause := cause }) (by decide)
  exact Writes.log (Writes.irq (Writes.ite (fun _ => h.putBit 3 true hflag)
    (fun _ => Writes.ite (fun _ => h.putBit 2 true hflag) (fun _ => h))) _) _ _ _ _

theorem tlRun_writes (src fresh : Bool) : Writes TripKeys s (s.tlRun n src fresh) := by
  unfold State.tlRun
  split
  · exact tlEnd_writes s hn _ _
  · exact Writes.ite (fun _ => canQueue_writes s _ _) (fun _ => Writes.refl _ s)

theorem tlLine_writes : Writes TripKeys s (s.tlLine n) := by
  obtain ⟨hstat, -, -⟩ := tripKeys_line hn
  unfold State.tlLine
  refine Writes.ite (fun _ => Writes.refl _ s) (fun _ => ?_)
  have h := ((Writes.refl TripKeys s).putBit 24 (s.tlActive n).isSome hstat).putBit 25 (s.tlGuard n) hstat
  dsimp only
  split
  · exact Writes.ite (fun _ => h) (fun _ => Writes.ite (fun _ => (h.trans (tlGrant_writes _ hn _)).trans (tlRun_writes _ hn _ _))
      (fun _ => h.trans (tlDeny_writes _ hn)))
  · exact Writes.ite (fun _ => h.put _ _ _ hstat) (fun _ => Writes.ite
      (fun _ => (h.trans (tlGrant_writes _ hn _)).trans (tlRun_writes _ hn _ _)) (fun _ => h))
  · exact h.trans (tlRun_writes _ hn _ _)
  · exact Writes.ite (fun _ => h) (fun _ => h.put _ _ _ hstat)

theorem tlStop_writes : Writes TripKeys s (s.tlStop n) := by
  obtain ⟨hstat, -, -⟩ := tripKeys_line hn
  unfold State.tlStop
  exact (((Writes.refl _ s).putPair _ _ (by unfold TripKeys; decide) (by unfold TripKeys; decide)).put _ _ _ hstat).put _ _ _ hstat

end

section
variable (s : State)

theorem tlRetire_writes : Writes TripKeys s s.tlRetire := by
  unfold State.tlRetire
  refine (Writes.refl _ s).foldl (fun u x _ hu => Writes.ite (fun h => ?_) (fun _ => hu))
  exact hu.trans (tlStop_writes u ((resValid_index h.1).2.2 h.2.1))

theorem tlDrive_writes : Writes TripKeys s s.tlDrive := by
  unfold State.tlDrive
  have key : ∀ {a}, 0x8000 ≤ a → a < 0x1C000 → TripKeys a := fun h h' => .inl ⟨h, h'⟩
  refine Writes.trans (Writes.ite (fun _ => ?_) (fun _ => Writes.trans ?_ (gooseLines_writes _ _))) (fioDrive_writes _)
  all_goals exact ((((Writes.refl _ s).wr _ (key (by decide) (by decide))).wr _ (key (by decide) (by decide))).wr _
    (key (by decide) (by decide))).wr _ (key (by decide) (by decide))

theorem tlPass_writes : Writes TripKeys s s.tlPass := by
  unfold State.tlPass
  refine (Writes.trans ?_ (tlRetire_writes _)).trans (tlDrive_writes _)
  exact (Writes.refl _ s).foldl (fun u n hn hu => hu.trans (tlLine_writes u (List.mem_range.mp hn)))

theorem afStep_writes (c : Nat) : Writes TripKeys s (s.afStep c) := by
  have hstat : TripKeys (Reg.FPD_STAT c) := by unfold TripKeys Reg.FPD_STAT; omega
  unfold State.afStep
  refine Writes.ite (fun _ => Writes.log (Writes.irq ?_ _) _ _ _ _) (fun _ => ?_)
  all_goals exact ((((Writes.refl _ s).of_agree (State.detMod_ag _ _ _) (by decide)).putBit _ _ hstat).putBit _ _ hstat).putBit _ _ hstat

/-- An evaluation step writes no register outside the trip lines and what they drive. -/
theorem tlStep_writes : Writes TripKeys s s.tlStep := by
  unfold State.tlStep
  have h := tlPass_writes s
  dsimp only
  split
  · exact h
  · exact (h.foldl (fun u c _ hu => hu.trans (afStep_writes u c))).trans (tlPass_writes _)

end

end Sys2Proof.Machine
end

section
/-!
Frames to the field die (chapters 01 and 15, R15, R19, R22, R507, R511 to R513).
-/
namespace Sys2Proof.Machine
open Sys2Proof

/-! ### What a valid frame does on the field die -/

section
variable (s : State) (p : Nat → Bool) (on : Bool)

theorem field_fieldOk : (s.fieldOk on).field_ = { s.field_ with ok := on } := by
  unfold State.fieldOk when
  cases on <;> rfl

theorem fio_fieldOk : (s.fieldOk on).fio = s.fio := (s.fieldOk_ag on).fio (by decide)

/-- FIELD_OK is shown in FIO_STAT and in no other register. -/
theorem rd_fieldOk (k : Nat) : (s.fieldOk on).rd k = if Reg.FIO_STAT = k then putField (s.rd k) 2 2 (b2n on) else s.rd k := by
  have h : (s.fieldOk on).rd k = ((s.fdMod (fun d => { d with ok := on })).putBit Reg.FIO_STAT 2 on).rd k := by
    unfold State.fieldOk when
    cases on <;> rfl
  rw [h, State.rd_putBit]
  exact ite_congr rfl (fun e => by rw [e, State.rd_fdMod]) (fun _ => State.rd_fdMod _ _ _)

theorem field_fdBlank : ∃ m, (s.fdBlank p).field_ = { s.field_ with blank := m } ∧
    ∀ k, k < 48 → p k = true → SMap.get (fun _ => 0) m k = s.tb.cnt + if k < 16 then 5000 else 25000 :=
  ⟨_, rfl, fun _ hk hp => SMap.get_foldl_set (fun _ => 0) (fun k => s.tb.cnt + if k < 16 then 5000 else 25000)
    (List.mem_filter.mpr ⟨List.mem_range.mpr hk, hp⟩) _⟩

theorem field_fdSettle : ∃ lim mm df, s.fdSettle.field_ = { s.field_ with limit := lim, mm := mm, diff := df } ∧
    ∀ k, k < 48 → (SMap.get (fun _ => none) df k).isSome = s.fdDiffers k := by
  refine ⟨_, _, _, rfl, fun k hk => ?_⟩
  rw [SMap.get_foldl_set (fun _ => none)
    (fun k => if s.fdDiffers k then some ((SMap.get (fun _ => none) s.field_.diff k).getD s.tb.cnt) else none) (List.mem_range.mpr hk)]
  cases s.fdDiffers k <;> rfl

/-- Whether read-back and drive differ goes by what settling leaves. -/
theorem fdDiffers_of_field {t : State} {lim mm df} (h : t.field_ = { s.field_ with limit := lim, mm := mm, diff := df }) (k : Nat) :
    t.fdDiffers k = s.fdDiffers k := by
  unfold State.fdDiffers State.fdDriven State.fdIsOut State.fdCfg
  rw [h]

end

/-- The command image in the engine die's registers. -/
def State.cmdImage (s : State) : BitVec 48 := BitVec.ofNat 48 ((s.rd Reg.FIO_CMD_LO).toNat + (s.rd Reg.FIO_CMD_HI).toNat * 4294967296)

/-- Whether a valid frame changes the drive of channel k. -/
def State.driveChanges (s : State) (k : Nat) : Bool :=
  (s.field_.outEn && s.field_.cmd.getLsbD k) != (s.bit Reg.FIO_STAT 3 && s.cmdImage.getLsbD k)

/-- A valid frame, before it is settled: the configurations, counts and commands it brings, the edges it acknowledges. -/
theorem fieldApply_eq (s : State) : ∃ u : State, s.fieldApply =
      ((u.fdBlank s.driveChanges).fieldOk (s.bit Reg.FIO_STAT 3)).fdSettle ∧
    u.field_ = { s.field_ with
      cmd := s.cmdImage, outEn := s.bit Reg.FIO_STAT 3, hold := false, silent := none, drift := 0,
      buf := if s.field_.hold then [] else s.field_.buf.filter (fun e => !s.fio.taken.contains e.num),
      cfg := (List.range 48).foldl (fun m k => SMap.set (fun _ => (1000 : Word)) m k (s.rd (Reg.FIO_CFG k))) [],
      counts := (List.range 48).foldl (fun m k => SMap.set (fun _ => 0) m k (s.fdCount k)) [],
      silence := u.field_.silence } ∧
    u.fio = { s.fio with taken := [], pcRestart := 0 } ∧ u.regs = s.regs ∧ u.tb = s.tb := by
  unfold State.fieldApply
  exact ⟨_, rfl, rfl, rfl, rfl, rfl⟩

/-- What a valid frame leaves on the field die and shows in FIO_STAT. -/
theorem fieldApply_shows (s : State) : let t := s.fieldApply
    t.field_.seq = s.field_.seq ∧
    t.field_.buf = (if s.field_.hold then [] else s.field_.buf.filter (fun e => !s.fio.taken.contains e.num)) ∧ t.fio.taken = [] ∧
    (∀ k, k < 48 → t.fdCfg k = s.rd (Reg.FIO_CFG k)) ∧ t.field_.cmd = s.cmdImage ∧
    t.field_.outEn = s.bit Reg.FIO_STAT 3 ∧ t.field_.ok = s.bit Reg.FIO_STAT 3 ∧ t.bit Reg.FIO_STAT 2 = s.bit Reg.FIO_STAT 3 ∧
    t.field_.hold = false ∧ t.field_.silent = none ∧ t.field_.drift = 0 ∧ t.field_.filt = s.field_.filt ∧
    (∀ k, k < 48 → SMap.get (fun _ => 0) t.field_.counts k = s.fdCount k) ∧
    (∀ k, k < 48 → (SMap.get (fun _ => none) t.field_.diff k).isSome = t.fdDiffers k) ∧
    (∀ k, k < 48 → (s.field_.outEn && s.field_.cmd.getLsbD k) ≠ (t.field_.outEn && t.field_.cmd.getLsbD k) →
      SMap.get (fun _ => 0) t.field_.blank k = s.tb.cnt + (if k < 16 then 5000 else 25000)) ∧ OnlyRegs s t [Reg.FIO_STAT] := by
  obtain ⟨u, ht, hu, hfio, hregs, htb⟩ := fieldApply_eq s
  obtain ⟨bl, hbl, hblank⟩ := field_fdBlank u s.driveChanges
  have hok := field_fieldOk (u.fdBlank s.driveChanges) (s.bit Reg.FIO_STAT 3)
  rw [hbl] at hok
  generalize hv : (u.fdBlank s.driveChanges).fieldOk (s.bit Reg.FIO_STAT 3) = v at ht hok
  obtain ⟨lim, mm, df, hf, hdiff⟩ := field_fdSettle v
  rw [ht]
  have hvrd : ∀ k, v.rd k = if Reg.FIO_STAT = k then putField (s.rd k) 2 2 (b2n (s.bit Reg.FIO_STAT 3)) else s.rd k := fun k => by
    have : ∀ a, (u.fdBlank s.driveChanges).rd a = s.rd a := fun a => by
      rw [(State.fdBlank_ag _ _).rd _ (by decide)]
      unfold State.rd
      rw [hregs]
    rw [← hv, rd_fieldOk, this]
  have htrd : ∀ k, v.fdSettle.rd k = v.rd k := fun k => v.fdSettle_ag.rd k (by decide)
  refine ⟨by rw [hf, hok, hu], by rw [hf, hok, hu], ?_, fun k hk => ?_, by rw [hf, hok, hu], by rw [hf, hok, hu], by rw [hf, hok], ?_,
    by rw [hf, hok, hu], by rw [hf, hok, hu], by rw [hf, hok, hu], by rw [hf, hok, hu], fun k hk => ?_, fun k hk => ?_, fun k hk hne => ?_,
    fun a ha => ?_⟩
  · rw [v.fdSettle_ag.fio (by decide), ← hv, fio_fieldOk, (State.fdBlank_ag _ _).fio (by decide), hfio]
  · unfold State.fdCfg
    rw [hf, hok, hu]
    exact SMap.get_foldl_set (fun _ => (1000 : Word)) (fun k => s.rd (Reg.FIO_CFG k)) (List.mem_range.mpr hk) _
  · unfold State.bit
    rw [htrd, hvrd, if_pos rfl, bitAt_putField _ _ _ _ _ (by decide) (by decide), if_pos ⟨by decide, by decide⟩]
    exact testBit_b2n _
  · rw [hf, hok, hu]
    exact SMap.get_foldl_set (fun _ => 0) (fun k => s.fdCount k) (List.mem_range.mpr hk) _
  · rw [fdDiffers_of_field v hf k, hf]
    exact hdiff k hk
  · rw [hf, hok, hu] at hne
    rw [hf, hok]
    exact (hblank k hk (by simpa [State.driveChanges] using hne)).trans (by rw [htb])
  · rw [htrd, hvrd, if_neg (by simpa [eq_comm] using ha)]

/-! ### The outcomes of a frame to the field die -/

section
variable (s : State) (seq : Nat) (ok : Bool)

/-- The field die expects another number. -/
def State.fdExpect (s : State) (seq : Nat) : State := s.fdMod (fun d => { d with seq := seq })

theorem frameToField_down (hu : s.field_.up = false) : s.frameToField seq ok = s := by
  unfold State.frameToField
  simp [hu]

/-- While the field die searches, a frame with a bad check passes unnoticed (R22). -/
theorem frameToField_unnoticed (hu : s.field_.up = true) (hs : s.fieldSearches = true) : s.frameToField seq false = s := by
  unfold State.frameToField
  simp [hu, hs]

theorem frameToField_valid (hu : s.field_.up = true) (h : s.fieldSearches = true ∨ seq = s.field_.seq) :
    s.frameToField seq true = (s.fdExpect ((seq + 1) % 256)).fieldApply := by
  unfold State.frameToField
  rcases h with h | h <;> simp [hu, h, nextSeq, State.fdExpect]

theorem frameToField_discarded (hu : s.field_.up = true) (hl : s.flkUp = true) (hs : s.fieldSearches = false)
    (h : ok = false ∨ seq ≠ s.field_.seq) :
    s.frameToField seq ok = (s.fdExpect (nextSeq s.field_.seq seq ok)).linkDiscard 10 (!ok) := by
  have hl' : ∀ n, (s.fdExpect n).flkUp = true := fun _ => hl
  unfold State.frameToField
  cases ok with
  | false =>
    simp only [hu, hs, Bool.false_and, Bool.and_false, Bool.not_true, Bool.not_false, Bool.false_eq_true, if_false]
    exact if_pos (hl' _)
  | true =>
    simp only [hu, hs, h.resolve_left (by decide), decide_false, Bool.and_false, Bool.or_false, Bool.not_true, Bool.false_eq_true,
      if_false]
    exact if_pos (hl' _)

end

/-- A discard of the field link in either direction (R15, R22). -/
theorem flkDiscard_shows (s : State) (crc : Bool) : let t := s.linkDiscard 10 crc
    (t.link 10).consec = (s.link 10).consec + 1 ∧ (t.link 10).seq = (s.link 10).seq ∧ t.field_ = s.field_ ∧ t.bit Reg.DLK_STAT 26 = true ∧
    t.bit Reg.INT_STAT_HI 8 = true := by
  have hl : (s.linkDiscard 10 crc).link 10 = { s.link 10 with consec := (s.link 10).consec + 1 } := by
    rw [link_linkDiscard, if_pos rfl]
  exact ⟨by rw [hl], by rw [hl], (s.linkDiscard_ag 10 crc).field_ (by decide), bit_linkDiscard_err s 10 crc (by decide),
    bit_linkDiscard_hi s 10 crc (by decide)⟩

end Sys2Proof.Machine
end

section
/-!
Frames from the field die and the loss of the field link (chapters 01 and 15, R15, R19, R20, R22, R511, R515).
-/
namespace Sys2Proof.Machine
open Sys2Proof

/-! ### The bits that stay set while a frame is taken -/

/-- The bits that taking a frame from the field die can only set: raised sources, the link's up bit, the flags of FIO_FSTAT, the supply
flags of the banks and the fault flags of the channels. -/
def FieldLatch (k i : Nat) : Prop :=
  k = Reg.INT_STAT_HI ∨ (k = Reg.DLK_STAT ∧ i = 10) ∨ k = Reg.FIO_FSTAT ∨ (0x1C220 ≤ k ∧ k < 0x1C238 ∧ (i = 18 ∨ i = 19)) ∨
    (0x1C300 ≤ k ∧ k < 0x1C3C0 ∧ i < 4)

section
variable {s t : State}

/-- A write of a register outside the latching ones, and outside the channels' faults and the banks. -/
theorem Latches.wr_apart (h : Latches FieldLatch s t) {a : Nat} (v : Word) (ha : (0x1C004 ≤ a ∧ a < 0x1C220 ∧ a ≠ Reg.FIO_FSTAT) ∨ 0x1C3C0 ≤ a) :
    Latches FieldLatch s (t.wr a v) := by
  refine h.trans fun k j hk hj => ?_
  have hne : a ≠ k := by
    unfold FieldLatch Reg.INT_STAT_HI Reg.DLK_STAT at hk
    unfold Reg.FIO_FSTAT at *
    omega
  unfold State.bit at hj ⊢
  rw [State.rd_wr, if_neg hne]
  exact hj

/-- Interrupts and records leave the latched bits. -/
theorem Latches.signals {u : State} (h : Latches FieldLatch s t) (w : Writes (fun _ => False) t u) : Latches FieldLatch s u := by
  refine h.of_writes w fun k i hk => ⟨fun x => x, fun hs => ?_⟩
  unfold FieldLatch Signals Reg.INT_STAT_HI Reg.DLK_STAT Reg.FIO_FSTAT Reg.INT_STAT_LO at *
  omega

theorem fioLog_writes (s : State) (code sp p0 p1 : Nat) : Writes (fun _ => False) s (s.fioLog code sp p0 p1) := by
  unfold State.fioLog
  exact ((Writes.refl _ s).irq 40).log _ _ _ _

theorem Latches.fioLog (h : Latches FieldLatch s t) (code sp p0 p1 : Nat) : Latches FieldLatch s (t.fioLog code sp p0 p1) :=
  h.signals (fioLog_writes t _ _ _ _)

end

/-! ### Measurements and news -/

/-- The registers in which edges and news are shown. -/
def SyncKeys (k : Nat) : Prop := k = Reg.FIO_FSTAT ∨ k = Reg.FIO_EVT_STAT

section
variable (s : State)

theorem field_measured : ∃ mv at_ lim, s.fieldMeasure.fieldLimits.field_ = { s.field_ with mv := mv, mvAt := at_, limit := lim } := by
  have h0 : ∃ mv at_, s.fieldMeasure.field_ = { s.field_ with mv := mv, mvAt := at_ } := by
    unfold State.fieldMeasure
    split
    · exact ⟨_, _, rfl⟩
    · exact ⟨_, _, rfl⟩
  obtain ⟨mv, at_, h0⟩ := h0
  have h1 : ∃ lim, s.fieldMeasure.fieldLimits.field_ = { s.fieldMeasure.field_ with limit := lim } := by
    unfold State.fieldLimits
    split
    · exact ⟨_, rfl⟩
    · exact ⟨_, rfl⟩
  obtain ⟨lim, h1⟩ := h1
  exact ⟨mv, at_, lim, by rw [h1, h0]⟩

theorem measured_ag : Agree 563018672898048 s s.fieldMeasure.fieldLimits := s.fieldMeasure_ag.then (State.fieldLimits_ag _) (by decide)

/-- News of a restart: its flag and record. -/
def State.restartNews (s : State) : State :=
  match s.field_.restart with
  | some mv => ((s.fdMod (fun d => { d with restart := none })).putBit Reg.FIO_FSTAT 7 true).fioLog 0x1F3 0 mv 0
  | none => s

/-- News of an ended silence, as it stood before the news of a restart. -/
def State.silenceNews (s : State) (news : Option (Nat × Nat × Nat)) : State :=
  match news with
  | some (us, b, x) =>
    ((s.fdMod (fun d => { d with silence := none })).putBit Reg.FIO_FSTAT 8 true).fioLog 0x1F2 0 (satTo 4294967295 us)
      (satTo 255 b * 256 + satTo 255 x)
  | none => s

theorem fieldNews_eq : s.fieldNews = s.restartNews.silenceNews s.field_.silence := rfl

theorem field_flagged (f : FieldDie → FieldDie) (i code p0 p1 : Nat) :
    (((s.fdMod f).putBit Reg.FIO_FSTAT i true).fioLog code 0 p0 p1).field_ = f s.field_ := by
  rw [(State.fioLog_ag _ _ _ _ _).field_ (by decide), (State.putBit_ag _ _ _ _).field_ (by decide), State.fdMod_field_]

/-- A flag of FIO_FSTAT with its record. -/
theorem flagged_shows (f : FieldDie → FieldDie) (i code p0 p1 : Nat) (hi : i < 32) :
    let t := ((s.fdMod f).putBit Reg.FIO_FSTAT i true).fioLog code 0 p0 p1
    Writes SyncKeys s t ∧ Latches FieldLatch s t ∧ t.fio = s.fio ∧ t.bit Reg.FIO_FSTAT i = true := by
  have h0 : Writes SyncKeys s ((s.fdMod f).putBit Reg.FIO_FSTAT i true) := ((Writes.refl _ s).of_regs (State.fdMod_regs _ _)).putBit _ _ (.inl rfl)
  have h1 : Latches FieldLatch s ((s.fdMod f).putBit Reg.FIO_FSTAT i true) := ((Latches.refl _ s).of_regs (State.fdMod_regs _ _)).set _ _
  refine ⟨h0.trans ((fioLog_writes _ _ _ _ _).mono (fun _ h => h.elim)), h1.fioLog _ _ _ _, ?_, ?_⟩
  · rw [(State.fioLog_ag _ _ _ _ _).fio (by decide), (State.putBit_ag _ _ _ _).fio (by decide), State.fdMod_fio]
  · rw [(fioLog_writes _ _ _ _ _).bit _ (fun h => h) (by unfold Signals; decide), State.bit_putBit _ _ _ _ _ _ hi, if_pos ⟨rfl, rfl⟩]

theorem restartNews_shows : s.restartNews.field_ = { s.field_ with restart := none } ∧ Writes SyncKeys s s.restartNews ∧
    Latches FieldLatch s s.restartNews ∧ s.restartNews.fio = s.fio ∧
    (s.field_.restart.isSome = true → s.restartNews.bit Reg.FIO_FSTAT 7 = true) := by
  unfold State.restartNews
  split
  · next mv h =>
    obtain ⟨hw, hl, hf, hb⟩ := flagged_shows s (fun d => { d with restart := none }) 7 0x1F3 mv 0 (by decide)
    exact ⟨field_flagged s _ _ _ _ _, hw, hl, hf, fun _ => hb⟩
  · next h =>
    refine ⟨?_, Writes.refl _ s, Latches.refl _ s, rfl, fun hs => by simp [h] at hs⟩
    rw [← h]

theorem silenceNews_shows (news : Option (Nat × Nat × Nat)) (hn : s.field_.silence = news) :
    (s.silenceNews news).field_ = { s.field_ with silence := none } ∧
    Writes SyncKeys s (s.silenceNews news) ∧ Latches FieldLatch s (s.silenceNews news) ∧ (s.silenceNews news).fio = s.fio ∧
    (news.isSome = true → (s.silenceNews news).bit Reg.FIO_FSTAT 8 = true) := by
  unfold State.silenceNews
  split
  · next us b x =>
    obtain ⟨hw, hl, hf, hb⟩ := flagged_shows s (fun d => { d with silence := none }) 8 0x1F2 (satTo 4294967295 us) (satTo 255 b * 256 + satTo 255 x)
      (by decide)
    exact ⟨field_flagged s _ _ _ _ _, hw, hl, hf, fun _ => hb⟩
  · refine ⟨?_, Writes.refl _ s, Latches.refl _ s, rfl, fun hs => by simp at hs⟩
    rw [← hn]

/-- The state in which the field die has measured and its news are shown. -/
def State.syncNews (s : State) : State := s.fieldMeasure.fieldLimits.fieldNews

theorem syncNews_shows : (∃ mv at_ lim, s.syncNews.field_ =
      { s.field_ with mv := mv, mvAt := at_, limit := lim, restart := none, silence := none }) ∧
    Writes SyncKeys s s.syncNews ∧ Latches FieldLatch s s.syncNews ∧ s.syncNews.fio = s.fio ∧
    (s.field_.restart.isSome = true → s.syncNews.bit Reg.FIO_FSTAT 7 = true) ∧
    (s.field_.silence.isSome = true → s.syncNews.bit Reg.FIO_FSTAT 8 = true) := by
  have hag := measured_ag s
  obtain ⟨mv, at_, lim, hm⟩ := field_measured s
  unfold State.syncNews
  generalize s.fieldMeasure.fieldLimits = m at hag hm
  obtain ⟨hf1, hw1, hl1, hfio1, hb1⟩ := restartNews_shows m
  obtain ⟨hf2, hw2, hl2, hfio2, hb2⟩ := silenceNews_shows m.restartNews m.field_.silence (by rw [hf1])
  have hregs : m.regs = s.regs := hag.regs (by decide)
  rw [fieldNews_eq]
  refine ⟨⟨mv, at_, lim, by rw [hf2, hf1, hm]⟩, (((Writes.refl _ s).of_regs hregs).trans hw1).trans hw2,
    (((Latches.refl _ s).of_regs hregs).trans hl1).trans hl2, ?_, fun h => ?_, fun h => ?_⟩
  · rw [hfio2, hfio1, hag.fio (by decide)]
  · exact hl2 _ _ (.inr (.inr (.inl rfl))) (hb1 (by rw [hm]; exact h))
  · exact hb2 (by rw [hm]; exact h)

end

/-! ### Edges -/

section
variable (s : State) (e : FEdge)

theorem fioLogEdge_shows : Writes SyncKeys s (s.fioLogEdge e) ∧ Latches FieldLatch s (s.fioLogEdge e) ∧
    ∃ log ovf, (s.fioLogEdge e).fio = { s.fio with log := log, ovf := ovf } := by
  have hw : Writes SyncKeys s ((s.count Reg.FIO_EVT_STAT 31 16 1).putBit Reg.FIO_FSTAT 5 true) :=
    ((Writes.refl _ s).count _ _ _ (.inr rfl)).putBit _ _ (.inl rfl)
  have hl : Latches FieldLatch s ((s.count Reg.FIO_EVT_STAT 31 16 1).putBit Reg.FIO_FSTAT 5 true) :=
    ((Latches.refl _ s).wr_apart _ (by decide)).set _ _
  have hf : ((s.count Reg.FIO_EVT_STAT 31 16 1).putBit Reg.FIO_FSTAT 5 true).fio = s.fio := by
    rw [(State.putBit_ag _ _ _ _).fio (by decide), (State.count_ag _ _ _ _ _).fio (by decide)]
  unfold State.fioLogEdge
  dsimp only
  split
  · split
    · exact ⟨hw, hl, _, _, hf⟩
    · refine ⟨(hw.of_regs (State.fioMod_regs _ _)).trans ((fioLog_writes _ _ _ _ _).mono (fun _ h => h.elim)),
        (hl.of_regs (State.fioMod_regs _ _)).fioLog _ _ _ _, s.fio.log, true, ?_⟩
      rw [(State.fioLog_ag _ _ _ _ _).fio (by decide), State.fioMod_fio, hf]
  · have hw' : Writes SyncKeys s ((s.fioMod (fun u => { u with log := putEdge e u.log })).put Reg.FIO_EVT_STAT 8 0 (s.fio.log.length + 1)) :=
      ((Writes.refl _ s).of_regs (State.fioMod_regs _ _)).put _ _ _ (.inr rfl)
    have hl' : Latches FieldLatch s ((s.fioMod (fun u => { u with log := putEdge e u.log })).put Reg.FIO_EVT_STAT 8 0 (s.fio.log.length + 1)) :=
      ((Latches.refl _ s).of_regs (State.fioMod_regs _ _)).wr_apart _ (by decide)
    have hf' : ((s.fioMod (fun u => { u with log := putEdge e u.log })).put Reg.FIO_EVT_STAT 8 0 (s.fio.log.length + 1)).fio =
        { s.fio with log := putEdge e s.fio.log } := by
      rw [(State.put_ag _ _ _ _ _).fio (by decide), State.fioMod_fio]
    split
    · refine ⟨hw'.irq _, hl'.signals ((Writes.refl _ _).irq _), putEdge e s.fio.log, s.fio.ovf, ?_⟩
      rw [(State.irq_ag _ _).fio (by decide), hf']
    · exact ⟨hw', hl', putEdge e s.fio.log, s.fio.ovf, hf'⟩

/-- What the engine die notes of an edge it takes (R19, R500). -/
def noteEdge (u : FioU) (e : FEdge) : FioU :=
  { u with
    taken := e.num :: u.taken, rise := if e.rise then chSet u.rise e.ch true else u.rise,
    fall := if e.rise then u.fall else chSet u.fall e.ch true,
    taps := if tapMax ≤ u.taps.length then u.taps.tail ++ [e] else u.taps ++ [e],
    tapNo := if tapMax ≤ u.taps.length then u.tapNo + 1 else u.tapNo }

theorem fioTake_known (h : e.num ∈ s.fio.taken) : s.fioTake e = s := by
  unfold State.fioTake
  simp [h]

theorem fioTake_new (h : e.num ∉ s.fio.taken) :
    s.fioTake e = s.fioMod (fun u => noteEdge u e) ∨ s.fioTake e = (s.fioMod (fun u => noteEdge u e)).fioLogEdge e := by
  unfold State.fioTake
  rw [if_neg (by simpa using h)]
  dsimp only
  split
  · exact .inr rfl
  · exact .inl rfl

theorem fioTake_shows : Writes SyncKeys s (s.fioTake e) ∧ Latches FieldLatch s (s.fioTake e) ∧ (s.fioTake e).fio.pcRestart = s.fio.pcRestart ∧
    (e.num ∉ s.fio.taken → ∃ log ovf, (s.fioTake e).fio = { noteEdge s.fio e with log := log, ovf := ovf }) := by
  by_cases h : e.num ∈ s.fio.taken
  · rw [fioTake_known s e h]
    exact ⟨Writes.refl _ s, Latches.refl _ s, rfl, fun h' => absurd h h'⟩
  · have hw := (Writes.refl SyncKeys s).of_regs (State.fioMod_regs s (fun u => noteEdge u e))
    have hl := (Latches.refl FieldLatch s).of_regs (State.fioMod_regs s (fun u => noteEdge u e))
    rcases fioTake_new s e h with he | he <;> rw [he]
    · exact ⟨hw, hl, rfl, fun _ => ⟨_, _, rfl⟩⟩
    · obtain ⟨hw', hl', log, ovf, hf⟩ := fioLogEdge_shows (s.fioMod (fun u => noteEdge u e)) e
      exact ⟨hw.trans hw', hl.trans hl', by rw [hf]; rfl, fun _ => ⟨log, ovf, by rw [hf]; rfl⟩⟩

/-- What taking a list of edges leaves. -/
theorem takes_shows (es : List FEdge) : let t := es.foldl (fun t e => t.fioTake e) s
    Writes SyncKeys s t ∧ Latches FieldLatch s t ∧ t.field_ = s.field_ ∧ t.fio.pcRestart = s.fio.pcRestart := by
  induction es generalizing s with
  | nil => exact ⟨Writes.refl _ s, Latches.refl _ s, rfl, rfl⟩
  | cons e es ih =>
    obtain ⟨h0, h1, h2, -⟩ := fioTake_shows s e
    obtain ⟨k0, k1, k2, k3⟩ := ih (s.fioTake e)
    exact ⟨h0.trans k0, h1.trans k1, k2.trans ((s.fioTake_ag e).field_ (by decide)), k3.trans h2⟩

/-- A channel's bit set in a set of channels. -/
theorem getLsbD_chSet (v : BitVec 48) {k : Nat} (hk : k < 48) : (chSet v k true).getLsbD k = true := by
  unfold chSet
  simp only [if_true, BitVec.getLsbD_or, BitVec.getLsbD_ofNat, Nat.testBit_two_pow_self, hk, decide_true, Bool.and_true, Bool.or_true]

/-- The discarded edges of the field die are marked, and forgotten there. -/
def State.showDropped (s : State) : State :=
  if s.field_.dropped = 0 then s else (s.putBit Reg.FIO_FSTAT 4 true).fdMod (fun d => { d with dropped := 0 })

theorem showDropped_shows : s.showDropped.field_ = { s.field_ with dropped := 0 } ∧ Writes SyncKeys s s.showDropped ∧
    Latches FieldLatch s s.showDropped ∧ s.showDropped.fio = s.fio ∧ (s.field_.dropped ≠ 0 → s.showDropped.bit Reg.FIO_FSTAT 4 = true) := by
  unfold State.showDropped
  split
  · next h =>
    refine ⟨?_, Writes.refl _ s, Latches.refl _ s, rfl, fun h' => absurd h h'⟩
    rw [← h]
  · refine ⟨?_, ((Writes.refl _ s).putBit _ _ (.inl rfl)).of_regs (State.fdMod_regs _ _),
      ((Latches.refl _ s).set _ _).of_regs (State.fdMod_regs _ _), ?_, fun _ => ?_⟩
    · rw [State.fdMod_field_, (State.putBit_ag _ _ _ _).field_ (by decide)]
    · rw [State.fdMod_fio, (State.putBit_ag _ _ _ _).fio (by decide)]
    · exact (State.bit_putBit _ _ _ _ _ _ (by decide)).trans (if_pos ⟨rfl, rfl⟩)

/-- The state in which the frame's edges are taken. -/
def State.syncEdges (s : State) : State := (s.syncNews.field_.buf.take 2).foldl (fun t e => t.fioTake e) s.syncNews.showDropped

theorem syncEdges_shows : (∃ mv at_ lim, s.syncEdges.field_ =
      { s.field_ with mv := mv, mvAt := at_, limit := lim, restart := none, silence := none, dropped := 0 }) ∧
    Writes SyncKeys s s.syncEdges ∧ Latches FieldLatch s s.syncEdges ∧ s.syncEdges.fio.pcRestart = s.fio.pcRestart ∧
    (s.field_.restart.isSome = true → s.syncEdges.bit Reg.FIO_FSTAT 7 = true) ∧
    (s.field_.silence.isSome = true → s.syncEdges.bit Reg.FIO_FSTAT 8 = true) ∧
    (s.field_.dropped ≠ 0 → s.syncEdges.bit Reg.FIO_FSTAT 4 = true) := by
  obtain ⟨⟨mv, at_, lim, hf⟩, hw, hl, hfio, h7, h8⟩ := syncNews_shows s
  obtain ⟨hf', hw', hl', hfio', h4⟩ := showDropped_shows s.syncNews
  unfold State.syncEdges
  generalize s.syncNews.field_.buf.take 2 = es
  obtain ⟨hw2, hl2, hf2, hp2⟩ := takes_shows s.syncNews.showDropped es
  have latched : ∀ {i}, s.syncNews.bit Reg.FIO_FSTAT i = true →
      (es.foldl (fun t e => t.fioTake e) s.syncNews.showDropped).bit Reg.FIO_FSTAT i = true :=
    fun h => hl2 _ _ (.inr (.inr (.inl rfl))) (hl' _ _ (.inr (.inr (.inl rfl))) h)
  refine ⟨⟨mv, at_, lim, by rw [hf2, hf', hf]⟩, (hw.trans hw').trans hw2, (hl.trans hl').trans hl2, by rw [hp2, hfio', hfio],
    fun h => latched (h7 h), fun h => latched (h8 h), fun h => hl2 _ _ (.inr (.inr (.inl rfl))) (h4 (by rw [hf]; exact h))⟩

/-- A frame's only edge is noted when its number is new. -/
theorem syncEdges_notes (hb : s.field_.buf = [e]) (hn : e.num ∉ s.fio.taken) :
    ∃ log ovf, s.syncEdges.fio = { noteEdge s.fio e with log := log, ovf := ovf } := by
  obtain ⟨⟨mv, at_, lim, hf⟩, -, -, hfio, -⟩ := syncNews_shows s
  obtain ⟨-, -, -, hfio', -⟩ := showDropped_shows s.syncNews
  have hbuf : s.syncNews.field_.buf.take 2 = [e] := by rw [hf, ← hb]; simp [hb]
  obtain ⟨log, ovf, h⟩ := (fioTake_shows s.syncNews.showDropped e).2.2.2 (by rw [hfio', hfio]; exact hn)
  refine ⟨log, ovf, ?_⟩
  unfold State.syncEdges
  rw [hbuf, List.foldl_cons, List.foldl_nil, h, hfio', hfio]

end

end Sys2Proof.Machine
end

section
/-!
Reports and states in a frame from the field die, and the outcomes of these frames (chapters 01 and 15, R15, R19, R20, R22, R507 to R511).
-/
namespace Sys2Proof.Machine
open Sys2Proof

/-! ### Reports -/

section
variable (s : State) (n kind mv : Nat)

/-- The flags of a fault, its count where it is a thermal shutdown, before it is recorded. -/
def State.faultShown (s : State) (n kind : Nat) : State :=
  let s := (s.putBit (Reg.FIO_FLT n) (fltBit kind) true).putBit Reg.FIO_FSTAT (fltBit kind) true
  if kind = 4 then s.count (Reg.FIO_FLT n) 31 24 1 else s

/-- A fault is shown, and then at most recorded. -/
theorem fioFault_signals : Writes (fun _ => False) (s.faultShown n kind) (s.fioFault n kind mv) := by
  have h : Writes (fun _ => False) (s.faultShown n kind) ((s.faultShown n kind).drillLow n kind) :=
    (Writes.refl _ _).of_agree (State.drillLow_ag _ _ _) (by decide)
  unfold State.fioFault
  exact Writes.ite (fun _ => h) (fun _ => h.trans (fioLog_writes _ _ _ _ _))

theorem faultShown_latches : Latches FieldLatch s (s.faultShown n kind) := by
  have h : Latches FieldLatch s ((s.putBit (Reg.FIO_FLT n) (fltBit kind) true).putBit Reg.FIO_FSTAT (fltBit kind) true) :=
    ((Latches.refl _ s).set _ _).set _ _
  unfold State.faultShown
  dsimp only
  split
  · refine h.put _ (by decide) (by decide) fun i hi => ?_
    unfold FieldLatch Reg.INT_STAT_HI Reg.DLK_STAT Reg.FIO_FSTAT Reg.FIO_FLT at hi
    omega
  · exact h

theorem fieldReport_latches (x : FieldRep) : Latches FieldLatch s (s.fieldReport x) := by
  unfold State.fieldReport
  cases x with
  | fault n k mv =>
    dsimp only
    split
    · exact Latches.refl _ s
    · exact (faultShown_latches s n k).signals (fioFault_signals s n k mv)
  | supply b k mv =>
    unfold State.fioSupply
    refine Latches.signals ?_ (((Writes.refl _ _).irq 41).log 0x1F1 b k mv)
    split
    · exact (Latches.refl _ s).set _ _
    · split
      · exact (Latches.refl _ s).set _ _
      · exact Latches.refl _ s

/-- A fault flag once shown, in the channel's register and in FIO_FSTAT. -/
theorem bit_fioFault (hn : n < 48) (hk : 1 ≤ kind ∧ kind ≤ 4) :
    (s.fioFault n kind mv).bit (Reg.FIO_FLT n) (kind - 1) = true ∧ (s.fioFault n kind mv).bit Reg.FIO_FSTAT (kind - 1) = true := by
  have hs : ¬ Signals (Reg.FIO_FLT n) := by unfold Signals Reg.FIO_FLT Reg.INT_STAT_LO Reg.INT_STAT_HI; omega
  have hne : Reg.FIO_FSTAT ≠ Reg.FIO_FLT n := by unfold Reg.FIO_FLT Reg.FIO_FSTAT; omega
  have h : ((s.putBit (Reg.FIO_FLT n) (fltBit kind) true).putBit Reg.FIO_FSTAT (fltBit kind) true).bit (Reg.FIO_FLT n) (kind - 1) = true ∧
      ((s.putBit (Reg.FIO_FLT n) (fltBit kind) true).putBit Reg.FIO_FSTAT (fltBit kind) true).bit Reg.FIO_FSTAT (kind - 1) = true := by
    unfold fltBit
    rw [State.bit_putBit _ _ _ _ _ _ (by omega), if_neg (fun e => hne e.1), State.bit_putBit _ _ _ _ _ _ (by omega), if_pos ⟨rfl, rfl⟩,
      State.bit_putBit _ _ _ _ _ _ (by omega), if_pos ⟨rfl, rfl⟩]
    exact ⟨rfl, rfl⟩
  have w := fioFault_signals s n kind mv
  rw [w.bit _ (fun h => h) hs, w.bit _ (fun h => h) (by unfold Signals; decide)]
  unfold State.faultShown
  dsimp only
  split
  · have hl : ∀ a i, i < 24 → ((((s.putBit (Reg.FIO_FLT n) (fltBit kind) true).putBit Reg.FIO_FSTAT (fltBit kind) true).bit a i = true) →
        (((s.putBit (Reg.FIO_FLT n) (fltBit kind) true).putBit Reg.FIO_FSTAT (fltBit kind) true).count (Reg.FIO_FLT n) 31 24 1).bit a i = true) :=
      fun a i hi hb => (Latches.refl (fun _ i => i < 24) _).put _ (by decide) (by decide) (fun _ h => .inl h) a i hi hb
    exact ⟨hl _ _ (by omega) h.1, hl _ _ (by omega) h.2⟩
  · exact h

/-- A thermal shutdown is counted (R509). -/
theorem fld_fioFault_thermal (hn : n < 48) :
    (s.fioFault n 4 mv).fld (Reg.FIO_FLT n) 31 24 = min 255 (s.fld (Reg.FIO_FLT n) 31 24 + 1) := by
  have hs : ¬ Signals (Reg.FIO_FLT n) := by unfold Signals Reg.FIO_FLT Reg.INT_STAT_LO Reg.INT_STAT_HI; omega
  rw [(fioFault_signals s n 4 mv).fld _ _ (fun h => h) hs]
  unfold State.faultShown
  refine (State.fld_count_same _ _ _ _ _ (by decide) (by decide)).trans ?_
  unfold State.putBit
  rw [State.fld_put_apart _ _ _ _ _ _ _ _ (by decide) (by decide) (by decide) (by decide),
    State.fld_put_apart _ _ _ _ _ _ _ _ (by decide) (by decide) (by decide) (by decide)]
  rfl

/-- A supply event raises interrupt 41; a warning and a lockout are flagged (R510). -/
theorem fioSupply_shows (b : Nat) : (s.fioSupply b kind mv).bit Reg.INT_STAT_HI 9 = true ∧
    (kind = 1 → b < 6 → (s.fioSupply b kind mv).bit (Reg.FIO_BANK b) 18 = true) ∧
    (kind = 3 → b < 6 → (s.fioSupply b kind mv).bit (Reg.FIO_BANK b) 19 = true) := by
  have hs : b < 6 → ¬ Signals (Reg.FIO_BANK b) := fun h => by unfold Signals Reg.FIO_BANK Reg.INT_STAT_LO Reg.INT_STAT_HI; omega
  have w : ∀ t : State, Writes (fun _ => False) t ((t.irq 41).log 0x1F1 b kind mv) := fun t => ((Writes.refl _ t).irq 41).log _ _ _ _
  unfold State.fioSupply
  refine ⟨(State.bit_log _ _ _ _ _ _ _ (by decide)).trans (State.bit_irq_hi _ _ _ (.inl (by decide))), fun hk hb => ?_, fun hk hb => ?_⟩
  · subst hk
    exact ((w _).bit _ (fun h => h) (hs hb)).trans ((State.bit_putBit _ _ _ _ _ _ (by decide)).trans (if_pos ⟨rfl, rfl⟩))
  · subst hk
    exact ((w _).bit _ (fun h => h) (hs hb)).trans ((State.bit_putBit _ _ _ _ _ _ (by decide)).trans (if_pos ⟨rfl, rfl⟩))

/-- The state in which the frame's reports are shown. -/
def State.syncReports (s : State) : State :=
  s.syncNews.showDropped.field_.reports.foldl (fun t x => t.fieldReport x) (s.syncEdges.fdMod (fun d => { d with reports := [] }))

end

section
variable (s : State) (xs : List FieldRep)

theorem reports_latches : Latches FieldLatch s (xs.foldl (fun t x => t.fieldReport x) s) :=
  (Latches.refl _ s).foldl (fun u x _ hu => hu.trans (fieldReport_latches u x))

theorem reports_ag : Agree 70368744202753 s (xs.foldl (fun t x => t.fieldReport x) s) :=
  (Agree.refl _ s).foldl (fun u x hu => hu.then (u.fieldReport_ag x) (by decide))

end

/-! ### States and counts -/

/-- The registers of the channels' faults and of the banks. -/
def FaultKeys (k : Nat) : Prop := (0x1C220 ≤ k ∧ k < 0x1C238) ∨ (0x1C300 ≤ k ∧ k < 0x1C3C0)

section
variable (s : State)

/-- The masks of a frame: filtered and raw states, mismatches. -/
def State.showMasks (s : State) : State :=
  ((s.wr48 Reg.FIO_IN_LO Reg.FIO_IN_HI s.field_.filt).wr48 Reg.FIO_RAW_LO Reg.FIO_RAW_HI s.field_.raw).wr48 Reg.FIO_MM_LO Reg.FIO_MM_HI
    s.field_.mm

/-- The thermal and limit bits of the channels, from the field die's state d. -/
def State.showFaults (s : State) (d : FieldDie) : State :=
  (List.range 48).foldl (fun t k => (t.putBit (Reg.FIO_FLT k) 8 (d.therm.getLsbD k)).putBit (Reg.FIO_FLT k) 9 (d.limit.getLsbD k)) s

/-- Voltage, warning and lockout of the banks, from the field die's state d. -/
def State.showBanks (s : State) (d : FieldDie) : State :=
  (List.range 6).foldl (fun t b => ((t.put (Reg.FIO_BANK b) 15 0 (SMap.get (fun _ => 0) d.mv b)).putBit (Reg.FIO_BANK b) 16
    (d.warn.getLsbD b)).putBit (Reg.FIO_BANK b) 17 (d.uvlo.getLsbD b)) s

theorem showStates_eq : s.showStates = (s.showMasks.showFaults s.field_).showBanks s.field_ := rfl

theorem rd_showMasks (k : Nat) : s.showMasks.rd k =
    if Reg.FIO_MM_HI = k then w32 (s.field_.mm.toNat / 4294967296) else if Reg.FIO_MM_LO = k then w32 s.field_.mm.toNat
    else if Reg.FIO_RAW_HI = k then w32 (s.field_.raw.toNat / 4294967296) else if Reg.FIO_RAW_LO = k then w32 s.field_.raw.toNat
    else if Reg.FIO_IN_HI = k then w32 (s.field_.filt.toNat / 4294967296) else if Reg.FIO_IN_LO = k then w32 s.field_.filt.toNat
    else s.rd k := by
  unfold State.showMasks State.wr48
  simp only [State.rd_wr]

variable (d : FieldDie)

theorem showFaults_writes : Writes FaultKeys s (s.showFaults d) := by
  unfold State.showFaults
  refine (Writes.refl _ s).foldl fun u k hk hu => ?_
  have h : FaultKeys (Reg.FIO_FLT k) := by have := List.mem_range.mp hk; unfold FaultKeys Reg.FIO_FLT; omega
  exact (hu.putBit _ _ h).putBit _ _ h

theorem showBanks_writes : Writes (fun k => 0x1C220 ≤ k ∧ k < 0x1C238) s (s.showBanks d) := by
  unfold State.showBanks
  refine (Writes.refl _ s).foldl fun u k hk hu => ?_
  have h : 0x1C220 ≤ Reg.FIO_BANK k ∧ Reg.FIO_BANK k < 0x1C238 := by have := List.mem_range.mp hk; unfold Reg.FIO_BANK; omega
  exact ((hu.put _ _ _ h).putBit _ _ h).putBit _ _ h

/-- Channel k's thermal bit as a frame shows it, and the fault bits and the count it leaves. -/
theorem showFaults_channel {k : Nat} (hk : k < 48) : (s.showFaults d).bit (Reg.FIO_FLT k) 8 = d.therm.getLsbD k ∧
    (s.showFaults d).fld (Reg.FIO_FLT k) 31 24 = s.fld (Reg.FIO_FLT k) 31 24 := by
  unfold State.showFaults
  refine ⟨foldl_reaches (Q := fun t : State => t.bit (Reg.FIO_FLT k) 8 = d.therm.getLsbD k) (List.mem_range.mpr hk) (fun t => ?_)
    (fun t j hj ht => ?_) s, List.foldlRecOn (motive := fun t : State => t.fld (Reg.FIO_FLT k) 31 24 = s.fld (Reg.FIO_FLT k) 31 24) _ _ rfl
      fun t ht j _ => ?_⟩
  · rw [State.bit_putBit _ _ _ _ _ _ (by decide), if_neg (by simp), State.bit_putBit _ _ _ _ _ _ (by decide), if_pos ⟨rfl, rfl⟩]
  · have hne : Reg.FIO_FLT j ≠ Reg.FIO_FLT k := by unfold Reg.FIO_FLT; omega
    rw [State.bit_putBit _ _ _ _ _ _ (by decide), if_neg (fun e => hne e.1), State.bit_putBit _ _ _ _ _ _ (by decide),
      if_neg (fun e => hne e.1)]
    exact ht
  · unfold State.putBit
    rw [State.fld_put_apart _ _ _ _ _ _ _ _ (by decide) (by decide) (by decide) (by decide),
      State.fld_put_apart _ _ _ _ _ _ _ _ (by decide) (by decide) (by decide) (by decide)]
    exact ht

/-- Warning and lockout of bank b as a frame shows them. -/
theorem showBanks_bank {b : Nat} (hb : b < 6) : (s.showBanks d).bit (Reg.FIO_BANK b) 16 = d.warn.getLsbD b ∧
    (s.showBanks d).bit (Reg.FIO_BANK b) 17 = d.uvlo.getLsbD b := by
  unfold State.showBanks
  refine foldl_reaches (Q := fun t : State => t.bit (Reg.FIO_BANK b) 16 = d.warn.getLsbD b ∧ t.bit (Reg.FIO_BANK b) 17 = d.uvlo.getLsbD b)
    (List.mem_range.mpr hb) (fun t => ?_) (fun t j hj ht => ?_) s
  · rw [State.bit_putBit _ _ _ _ _ _ (by decide), if_neg (by simp), State.bit_putBit _ _ _ _ _ _ (by decide), if_pos ⟨rfl, rfl⟩,
      State.bit_putBit _ _ _ _ _ _ (by decide), if_pos ⟨rfl, rfl⟩]
    exact ⟨rfl, rfl⟩
  · have hne : Reg.FIO_BANK j ≠ Reg.FIO_BANK b := by unfold Reg.FIO_BANK; omega
    have hkeep : ∀ (u : State) i x m, i < 32 → (u.putBit (Reg.FIO_BANK j) i x).bit (Reg.FIO_BANK b) m = u.bit (Reg.FIO_BANK b) m :=
      fun u i x m hi => by rw [State.bit_putBit _ _ _ _ _ _ hi, if_neg (fun e => hne e.1)]
    have hput : ∀ m, (t.put (Reg.FIO_BANK j) 15 0 (SMap.get (fun _ => 0) d.mv j)).bit (Reg.FIO_BANK b) m = t.bit (Reg.FIO_BANK b) m :=
      fun m => by unfold State.bit; rw [State.rd_put, if_neg hne]
    rw [hkeep _ _ _ _ (by decide), hkeep _ _ _ _ (by decide), hput, hkeep _ _ _ _ (by decide), hkeep _ _ _ _ (by decide), hput]
    exact ht

/-- The counts of a frame. -/
theorem showCounts_writes : Writes (fun k => 0x1C400 ≤ k ∧ k < 0x1C4C0) s s.showCounts := by
  unfold State.showCounts
  refine Writes.ite (fun _ => Writes.refl _ s) (fun _ => (Writes.refl _ s).foldl fun u k hk hu => hu.wr _ ?_)
  have := List.mem_range.mp hk
  unfold Reg.FIO_PCNT
  omega

theorem rd_showCounts {k : Nat} (hk : k < 48) (hh : s.field_.hold = false) (hp : s.fio.pcRestart.getLsbD k = false) :
    s.showCounts.rd (Reg.FIO_PCNT k) = w32 (SMap.get (fun _ => 0) s.field_.counts k) := by
  unfold State.showCounts
  rw [if_neg (by simp [hh])]
  refine foldl_reaches (Q := fun t : State => t.rd (Reg.FIO_PCNT k) = w32 (SMap.get (fun _ => 0) s.field_.counts k)) (List.mem_range.mpr hk)
    (fun t => ?_) (fun t j hj ht => ?_) s
  · rw [State.rd_wr, if_pos rfl, if_neg (by simp [hp])]
  · rw [State.rd_wr, if_neg (by unfold Reg.FIO_PCNT; omega)]
    exact ht

end

/-! ### A valid frame, taken and evaluated -/

section
variable (s : State)

/-- What the frame says of the field die itself: FIELD_OK, and that it is there. -/
def State.syncOk (s : State) : State := (s.syncReports.putBit Reg.FIO_STAT 2 s.field_.ok).putBit Reg.FIO_STAT 0 true

theorem fieldSync_eq (s : State) : s.fieldSync = s.syncOk.showStates.showCounts := by
  obtain ⟨⟨mv, at_, lim, hf⟩, -⟩ := syncNews_shows s
  have hok : s.syncNews.field_.ok = s.field_.ok := by rw [hf]
  have hrep : s.syncNews.showDropped.field_.reports = s.syncNews.field_.reports := by rw [(showDropped_shows s.syncNews).1]
  unfold State.syncOk State.syncReports
  rw [← hok, hrep]
  rfl

/-- What the field die holds once its reports are taken. -/
theorem syncOk_shows : (∃ mv at_ lim, s.syncOk.field_ =
      { s.field_ with mv := mv, mvAt := at_, limit := lim, restart := none, silence := none, dropped := 0, reports := [] }) ∧
    Latches FieldLatch s s.syncOk ∧ s.syncOk.fio = s.syncEdges.fio ∧ s.syncOk.bit Reg.FIO_STAT 0 = true ∧
    s.syncOk.bit Reg.FIO_STAT 2 = s.field_.ok ∧
    (∀ i, s.syncEdges.bit Reg.FIO_FSTAT i = true → s.syncOk.bit Reg.FIO_FSTAT i = true) := by
  obtain ⟨⟨mv, at_, lim, hf⟩, -, hl, -⟩ := syncEdges_shows s
  have hag : Agree 70368744202753 (s.syncEdges.fdMod (fun d => { d with reports := [] })) s.syncReports := reports_ag _ _
  have hag' : Agree 1 s.syncReports s.syncOk := (State.putBit_ag _ _ _ _).then (State.putBit_ag _ _ _ _) (by decide)
  have hr : Latches FieldLatch s.syncEdges s.syncReports := ((Latches.refl _ _).of_regs (State.fdMod_regs _ _)).trans (reports_latches _ _)
  have hr' : Latches FieldLatch s.syncReports s.syncOk := ((Latches.refl _ _).wr_apart _ (by decide)).wr_apart _ (by decide)
  refine ⟨⟨mv, at_, lim, ?_⟩, (hl.trans hr).trans hr', ?_, ?_, ?_, fun i h => hr' _ _ (.inr (.inr (.inl rfl))) (hr _ _ (.inr (.inr (.inl rfl))) h)⟩
  · rw [hag'.field_ (by decide), hag.field_ (by decide), State.fdMod_field_, hf]
  · rw [hag'.fio (by decide), hag.fio (by decide), State.fdMod_fio]
  · exact (State.bit_putBit _ _ _ _ _ _ (by decide)).trans (if_pos ⟨rfl, rfl⟩)
  · unfold State.syncOk
    rw [State.bit_putBit _ _ _ _ _ _ (by decide), if_neg (by decide), State.bit_putBit _ _ _ _ _ _ (by decide), if_pos ⟨rfl, rfl⟩]

/-- The registers that show the states of a frame. -/
def ShowKeys (k : Nat) : Prop := (0x1C010 ≤ k ∧ k < 0x1C020) ∨ (0x1C030 ≤ k ∧ k < 0x1C038) ∨ FaultKeys k ∨ (0x1C400 ≤ k ∧ k < 0x1C4C0)

theorem showMasks_writes : Writes ShowKeys s s.showMasks := by
  unfold State.showMasks State.wr48
  refine (((((Writes.refl _ s).wr _ ?_).wr _ ?_).wr _ ?_).wr _ ?_).wr _ ?_ |>.wr _ ?_
  all_goals unfold ShowKeys FaultKeys; decide

theorem showStates_writes : Writes ShowKeys s s.showStates := by
  rw [showStates_eq]
  exact ((showMasks_writes s).trans ((showFaults_writes _ _).mono (fun _ h => .inr (.inr (.inl h))))).trans
    ((showBanks_writes _ _).mono (fun _ h => .inr (.inr (.inl (.inl h)))))

/-- The state after a valid frame and the evaluation step that follows it. -/
def State.afterFrame (s : State) : State := s.fieldSync.tlStep

/-- From the frame's states on, the trip lines and the counts write no register of a frame's states. -/
theorem afterFrame_writes : Writes (fun k => TripKeys k ∨ (0x1C400 ≤ k ∧ k < 0x1C4C0)) s.syncOk.showStates s.afterFrame := by
  unfold State.afterFrame
  rw [fieldSync_eq]
  exact ((showCounts_writes _).mono (fun _ h => .inr h)).trans ((tlStep_writes _).mono (fun _ h => .inl h))

theorem shown_latches : Latches FieldLatch s.syncOk s.afterFrame := by
  have hm : Latches FieldLatch s.syncOk s.syncOk.showMasks := by
    unfold State.showMasks State.wr48
    refine (((((Latches.refl _ _).wr_apart _ ?_).wr_apart _ ?_).wr_apart _ ?_).wr_apart _ ?_).wr_apart _ ?_ |>.wr_apart _ ?_
    all_goals decide
  have hf : ∀ (t : State) d, Latches FieldLatch t (t.showFaults d) := fun t d => by
    unfold State.showFaults
    refine (Latches.refl _ t).foldl fun u k _ hu => (hu.put _ (by decide) (by decide) fun i hi => ?_).put _ (by decide) (by decide) fun i hi => ?_
    all_goals unfold FieldLatch Reg.INT_STAT_HI Reg.DLK_STAT Reg.FIO_FSTAT Reg.FIO_FLT at hi; omega
  have hb : ∀ (t : State) d, Latches FieldLatch t (t.showBanks d) := fun t d => by
    unfold State.showBanks
    refine (Latches.refl _ t).foldl fun u k hk hu => ((hu.put _ (by decide) (by decide) fun i hi => ?_).put _ (by decide) (by decide)
      fun i hi => ?_).put _ (by decide) (by decide) fun i hi => ?_
    all_goals have := List.mem_range.mp hk; unfold FieldLatch Reg.INT_STAT_HI Reg.DLK_STAT Reg.FIO_FSTAT Reg.FIO_BANK at hi; omega
  have hs : Latches FieldLatch s.syncOk s.syncOk.showStates := by
    rw [showStates_eq]
    exact (hm.trans (hf _ _)).trans (hb _ _)
  refine hs.of_writes (afterFrame_writes s) fun k i hk => ?_
  unfold FieldLatch Signals TripKeys Reg.INT_STAT_HI Reg.INT_STAT_LO Reg.DLK_STAT Reg.FIO_FSTAT at *
  omega

theorem afterFrame_latches : Latches FieldLatch s s.afterFrame := (syncOk_shows s).2.1.trans (shown_latches s)

end

end Sys2Proof.Machine
end

section
/-!
What a valid frame from the field die leaves after the evaluation step behind it, and the outcomes of the frames (chapters 01 and 15, R15, R19,
R20, R22).
-/
namespace Sys2Proof.Machine
open Sys2Proof

/-! ### After a valid frame -/

section
variable (s : State)

theorem rd_afterFrame {k : Nat} (h : ¬ TripKeys k) (h' : ¬ (0x1C400 ≤ k ∧ k < 0x1C4C0)) (hs : ¬ Signals k) :
    s.afterFrame.rd k = s.syncOk.showStates.rd k :=
  (afterFrame_writes s).rd k (fun h'' => h''.elim h h') hs

/-- The registers of the faults and the banks show what the frame puts into them. -/
theorem rd_afterFrame_faults {k : Nat} (h : FaultKeys k) : s.afterFrame.rd k = s.syncOk.showStates.rd k := by
  refine rd_afterFrame s ?_ ?_ ?_ <;> unfold FaultKeys at h
  · unfold TripKeys; omega
  · omega
  · unfold Signals Reg.INT_STAT_LO Reg.INT_STAT_HI; omega

/-- The masks of the frame are shown. -/
theorem rd_afterFrame_masks {k : Nat} (h : (0x1C010 ≤ k ∧ k < 0x1C020) ∨ (0x1C030 ≤ k ∧ k < 0x1C038)) :
    s.afterFrame.rd k = s.syncOk.showMasks.rd k := by
  have hs : ¬ Signals k := by unfold Signals Reg.INT_STAT_LO Reg.INT_STAT_HI; omega
  rw [rd_afterFrame s (by unfold TripKeys; omega) (by omega) hs, showStates_eq, (showBanks_writes _ _).rd _ (by omega) hs,
    (showFaults_writes _ _).rd _ (by unfold FaultKeys; omega) hs]

theorem afterFrame_masks : s.afterFrame.rd Reg.FIO_IN_LO = w32 s.field_.filt.toNat ∧
    s.afterFrame.rd Reg.FIO_IN_HI = w32 (s.field_.filt.toNat / 4294967296) ∧ s.afterFrame.rd Reg.FIO_RAW_LO = w32 s.field_.raw.toNat ∧
    s.afterFrame.rd Reg.FIO_MM_LO = w32 s.field_.mm.toNat := by
  obtain ⟨⟨mv, at_, lim, hf⟩, -⟩ := syncOk_shows s
  refine ⟨?_, ?_, ?_, ?_⟩ <;> rw [rd_afterFrame_masks s (by decide), rd_showMasks, hf] <;> rfl

theorem bit_afterFrame_stat (i : Nat) : s.afterFrame.bit Reg.FIO_STAT i = s.syncOk.bit Reg.FIO_STAT i := by
  have hs : ¬ Signals Reg.FIO_STAT := by unfold Signals; decide
  unfold State.bit
  rw [rd_afterFrame s (by unfold TripKeys; decide) (by decide) hs, (showStates_writes _).rd _ (by unfold ShowKeys FaultKeys; decide) hs]

theorem afterFrame_banks {b : Nat} (hb : b < 6) : s.afterFrame.bit (Reg.FIO_BANK b) 16 = s.field_.warn.getLsbD b ∧
    s.afterFrame.bit (Reg.FIO_BANK b) 17 = s.field_.uvlo.getLsbD b := by
  obtain ⟨⟨mv, at_, lim, hf⟩, -⟩ := syncOk_shows s
  obtain ⟨h16, h17⟩ := showBanks_bank (s.syncOk.showMasks.showFaults s.syncOk.field_) s.syncOk.field_ hb
  have hk : FaultKeys (Reg.FIO_BANK b) := by unfold FaultKeys Reg.FIO_BANK; omega
  unfold State.bit at h16 h17 ⊢
  rw [rd_afterFrame_faults s hk, showStates_eq, h16, h17, hf]
  exact ⟨rfl, rfl⟩

/-- Channel k's thermal bit, and its count of shutdowns, which the states of a frame leave. -/
theorem afterFrame_channel {k : Nat} (hk : k < 48) : s.afterFrame.bit (Reg.FIO_FLT k) 8 = s.field_.therm.getLsbD k ∧
    s.afterFrame.fld (Reg.FIO_FLT k) 31 24 = s.syncReports.fld (Reg.FIO_FLT k) 31 24 := by
  obtain ⟨⟨mv, at_, lim, hf⟩, -⟩ := syncOk_shows s
  obtain ⟨h8, h31⟩ := showFaults_channel s.syncOk.showMasks s.syncOk.field_ hk
  have hb : ¬ (0x1C220 ≤ Reg.FIO_FLT k ∧ Reg.FIO_FLT k < 0x1C238) := by unfold Reg.FIO_FLT; omega
  have hs : ¬ Signals (Reg.FIO_FLT k) := by unfold Signals Reg.FIO_FLT Reg.INT_STAT_LO Reg.INT_STAT_HI; omega
  have hrd : s.afterFrame.rd (Reg.FIO_FLT k) = (s.syncOk.showMasks.showFaults s.syncOk.field_).rd (Reg.FIO_FLT k) := by
    rw [rd_afterFrame_faults s (by unfold FaultKeys Reg.FIO_FLT; omega), showStates_eq, (showBanks_writes _ _).rd _ hb hs]
  have hmasks : s.syncOk.showMasks.fld (Reg.FIO_FLT k) 31 24 = s.syncReports.fld (Reg.FIO_FLT k) 31 24 := by
    have hne : ∀ a, a < 0x1C300 → a ≠ Reg.FIO_FLT k := fun a ha => by unfold Reg.FIO_FLT; omega
    unfold State.fld
    rw [rd_showMasks, if_neg (hne _ (by decide)), if_neg (hne _ (by decide)), if_neg (hne _ (by decide)), if_neg (hne _ (by decide)),
      if_neg (hne _ (by decide)), if_neg (hne _ (by decide))]
    unfold State.syncOk
    rw [State.rd_putBit_ne _ _ _ _ _ (hne _ (by decide)), State.rd_putBit_ne _ _ _ _ _ (hne _ (by decide))]
  constructor
  · unfold State.bit at h8 ⊢
    rw [hrd, h8, hf]
  · unfold State.fld at h31 hmasks ⊢
    rw [hrd, h31, hmasks]

/-- A count the field die has is shown where no restart is on its way (R501). -/
theorem afterFrame_count {k : Nat} (hk : k < 48) (hh : s.field_.hold = false) (hp : s.fio.pcRestart.getLsbD k = false) :
    s.afterFrame.rd (Reg.FIO_PCNT k) = w32 (SMap.get (fun _ => 0) s.field_.counts k) := by
  obtain ⟨⟨mv, at_, lim, hf⟩, -, hfio, -⟩ := syncOk_shows s
  obtain ⟨-, -, -, hpc, -⟩ := syncEdges_shows s
  have hf' : s.syncOk.showStates.field_ = s.syncOk.field_ := s.syncOk.showStates_ag.field_ (by decide)
  have hfio' : s.syncOk.showStates.fio = s.syncOk.fio := s.syncOk.showStates_ag.fio (by decide)
  unfold State.afterFrame
  rw [(tlStep_writes _).rd _ (by unfold TripKeys Reg.FIO_PCNT; omega) (by unfold Signals Reg.FIO_PCNT Reg.INT_STAT_LO Reg.INT_STAT_HI; omega),
    fieldSync_eq, rd_showCounts _ hk (by rw [hf', hf]; exact hh) (by rw [hfio', hfio, hpc]; exact hp), hf', hf]

/-- What a frame leaves of the field die and of the engine die's edges. -/
theorem afterFrame_fields : (∃ mv at_ lim, s.afterFrame.field_ =
      { s.field_ with mv := mv, mvAt := at_, limit := lim, restart := none, silence := none, dropped := 0, reports := [] }) ∧
    s.afterFrame.fio = s.syncEdges.fio ∧ (∀ n, s.afterFrame.link n = s.link n) := by
  obtain ⟨⟨mv, at_, lim, hf⟩, -, hfio, -⟩ := syncOk_shows s
  have hag : Agree 65 s.syncOk s.fieldSync := by
    rw [fieldSync_eq]
    exact ((State.showStates_ag _).mono (by decide)).then (State.showCounts_ag _) (by decide)
  have ht := s.fieldSync.tlStep_ag
  refine ⟨⟨mv, at_, lim, (ht.field_ (by decide)).trans ((hag.field_ (by decide)).trans hf)⟩,
    (ht.fio (by decide)).trans ((hag.fio (by decide)).trans hfio), fun n => ?_⟩
  exact (ht.link n (by decide)).trans (s.fieldSync_ag.link n (by decide))

/-- The flags of the news a frame brings. -/
theorem afterFrame_news : (s.field_.restart.isSome = true → s.afterFrame.bit Reg.FIO_FSTAT 7 = true) ∧
    (s.field_.silence.isSome = true → s.afterFrame.bit Reg.FIO_FSTAT 8 = true) ∧
    (s.field_.dropped ≠ 0 → s.afterFrame.bit Reg.FIO_FSTAT 4 = true) := by
  obtain ⟨-, -, -, -, h7, h8, h4⟩ := syncEdges_shows s
  obtain ⟨-, -, -, -, -, hok⟩ := syncOk_shows s
  have keep : ∀ {i}, s.syncEdges.bit Reg.FIO_FSTAT i = true → s.afterFrame.bit Reg.FIO_FSTAT i = true :=
    fun h => shown_latches s _ _ (.inr (.inr (.inl rfl))) (hok _ h)
  exact ⟨fun h => keep (h7 h), fun h => keep (h8 h), fun h => keep (h4 h)⟩

/-- The link's up bit stays. -/
theorem flkUp_afterFrame (h : s.flkUp = true) : s.afterFrame.flkUp = true := afterFrame_latches s _ _ (.inr (.inl ⟨rfl, rfl⟩)) h

/-- From the reports on, a latched bit stays. -/
theorem reports_latched {k i : Nat} (hl : FieldLatch k i) (h : s.syncReports.bit k i = true) : s.afterFrame.bit k i = true := by
  have hr : Latches FieldLatch s.syncReports s.syncOk := ((Latches.refl _ s.syncReports).wr_apart _ (by decide)).wr_apart _ (by decide)
  exact shown_latches s _ _ hl (hr _ _ hl h)

/-- A frame's only report. -/
theorem syncReports_one {x : FieldRep} (h : s.field_.reports = [x]) :
    s.syncReports = (s.syncEdges.fdMod (fun d => { d with reports := [] })).fieldReport x := by
  obtain ⟨⟨mv, at_, lim, hf⟩, -⟩ := syncNews_shows s
  have hr : s.syncNews.showDropped.field_.reports = [x] := by rw [(showDropped_shows s.syncNews).1, hf, ← h]
  unfold State.syncReports
  rw [hr, List.foldl_cons, List.foldl_nil]

/-- A fault that is not masked is shown, and a thermal shutdown counted (R508, R509). -/
theorem afterFrame_fault {n kind mv : Nat} (hn : n < 48) (hk : kind < 4) (h : s.field_.reports = [.fault n (kind + 1) mv])
    (hm : kind ≠ 0 ∨ s.bit (Reg.FIO_CFG n) 25 = false ∨ s.paired = false) :
    s.afterFrame.bit (Reg.FIO_FLT n) kind = true ∧ s.afterFrame.bit Reg.FIO_FSTAT kind = true ∧
    (kind = 3 → s.afterFrame.fld (Reg.FIO_FLT n) 31 24 = min 255 (s.fld (Reg.FIO_FLT n) 31 24 + 1)) := by
  obtain ⟨-, hw, -⟩ := syncEdges_shows s
  have hw' : Writes SyncKeys s (s.syncEdges.fdMod (fun d => { d with reports := [] })) := hw.of_regs (State.fdMod_regs _ _)
  have hrep := syncReports_one s h
  have hkey : ∀ a, (0x1C100 ≤ a ∧ a < 0x1C3C0) ∨ a = Reg.PAIR_CFG → ¬ SyncKeys a ∧ ¬ Signals a := fun a ha => by
    unfold SyncKeys Signals Reg.FIO_FSTAT Reg.FIO_EVT_STAT Reg.INT_STAT_LO Reg.INT_STAT_HI
    unfold Reg.PAIR_CFG at ha
    omega
  have hcfg := hkey (Reg.FIO_CFG n) (.inl (by unfold Reg.FIO_CFG; omega))
  have hpair := hkey Reg.PAIR_CFG (.inr rfl)
  have hflt := hkey (Reg.FIO_FLT n) (.inl (by unfold Reg.FIO_FLT; omega))
  have hfault : s.syncReports = (s.syncEdges.fdMod (fun d => { d with reports := [] })).fioFault n (kind + 1) mv := by
    rw [hrep]
    refine if_neg fun hc => ?_
    obtain ⟨h1, h2, h3⟩ := hc
    rw [hw'.bit _ hcfg.1 hcfg.2] at h2
    unfold State.paired at h3 hm
    rw [hw'.bit _ hpair.1 hpair.2] at h3
    rcases hm with hm | hm | hm
    · omega
    · rw [hm] at h2; cases h2
    · rw [hm] at h3; cases h3
  obtain ⟨hb, hb'⟩ := bit_fioFault (s.syncEdges.fdMod (fun d => { d with reports := [] })) n (kind + 1) mv hn (by omega)
  rw [← hfault, Nat.add_sub_cancel] at hb hb'
  refine ⟨reports_latched s ?_ hb, reports_latched s (.inr (.inr (.inl rfl))) hb', fun h3 => ?_⟩
  · exact .inr (.inr (.inr (.inr (by unfold Reg.FIO_FLT; omega))))
  · subst h3
    rw [(afterFrame_channel s hn).2, hfault, fld_fioFault_thermal _ n mv hn, hw'.fld _ _ hflt.1 hflt.2]

/-- A supply event is signalled, a warning and a lockout flagged (R510). -/
theorem afterFrame_supply {b kind mv : Nat} (hb : b < 6) (h : s.field_.reports = [.supply b (kind + 1) mv]) :
    s.afterFrame.bit Reg.INT_STAT_HI 9 = true ∧ (kind = 0 → s.afterFrame.bit (Reg.FIO_BANK b) 18 = true) ∧
    (kind = 2 → s.afterFrame.bit (Reg.FIO_BANK b) 19 = true) := by
  obtain ⟨h9, h18, h19⟩ := fioSupply_shows (s.syncEdges.fdMod (fun d => { d with reports := [] })) (kind + 1) mv b
  have hsup : s.syncReports = (s.syncEdges.fdMod (fun d => { d with reports := [] })).fioSupply b (kind + 1) mv := syncReports_one s h
  rw [← hsup] at h9 h18 h19
  have hl : ∀ i, i = 18 ∨ i = 19 → FieldLatch (Reg.FIO_BANK b) i := fun i hi =>
    .inr (.inr (.inr (.inl (by unfold Reg.FIO_BANK; omega))))
  exact ⟨reports_latched s (.inl rfl) h9, fun hk => reports_latched s (hl 18 (.inl rfl)) (h18 (by omega) hb),
    fun hk => reports_latched s (hl 19 (.inr rfl)) (h19 (by omega) hb)⟩

/-- A frame's only edge is taken once, into the Lathe's edge words (R19, R500). -/
theorem afterFrame_edge {e : FEdge} (hb : s.field_.buf = [e]) (hn : e.num ∉ s.fio.taken) : e.num ∈ s.afterFrame.fio.taken ∧
    (e.ch < 48 → e.rise = true → s.afterFrame.fio.rise.getLsbD e.ch = true) ∧
    (e.ch < 48 → e.rise = false → s.afterFrame.fio.fall.getLsbD e.ch = true) := by
  obtain ⟨log, ovf, hf⟩ := syncEdges_notes s e hb hn
  rw [(afterFrame_fields s).2.1, hf]
  refine ⟨List.mem_cons_self, fun hc hr => ?_, fun hc hr => ?_⟩
  · have hnote : (noteEdge s.fio e).rise = chSet s.fio.rise e.ch true := if_pos hr
    exact hnote ▸ getLsbD_chSet _ hc
  · have hnote : (noteEdge s.fio e).fall = chSet s.fio.fall e.ch true := if_neg (by simp [hr])
    exact hnote ▸ getLsbD_chSet _ hc

end

/-! ### The state in which a valid frame finds its link up -/

/-- The registers that a return of the field link may write. -/
def ReturnKeys (k : Nat) : Prop := k = Reg.DLK_STAT ∨ k = Reg.FIO_STAT ∨ (0x1C500 ≤ k ∧ k < 0x1C5C0)

/-- A state in which the field link is up, expects the number behind seq and has no discard, and which differs from s in no more than that and
in a snapshot taken. -/
structure LinkReady (s x : State) (seq : Nat) : Prop where
  up : x.flkUp = true
  link : (x.link 10).consec = 0 ∧ (x.link 10).seq = (seq + 1) % 256
  field : x.field_ = s.field_
  taken : x.fio.taken = s.fio.taken
  restarts : x.fio.pcRestart = s.fio.pcRestart
  writes : Writes ReturnKeys s x

section
variable (s : State) (seq : Nat) (ok : Bool)

/-- A snapshot's due channels are taken: no other register, and no other part of the field-channel block. -/
theorem snapTake_shows (all : Bool) : Writes (fun k => 0x1C500 ≤ k ∧ k < 0x1C5C0) s (s.snapTake all) ∧
    (s.snapTake all).fio.taken = s.fio.taken ∧ (s.snapTake all).fio.pcRestart = s.fio.pcRestart := by
  unfold State.snapTake
  split
  · exact ⟨Writes.refl _ s, rfl, rfl⟩
  · next a ha =>
    dsimp only
    generalize hl : idxWhere 48 (fun k => s.fio.snapLeft.getLsbD k && (all || decide (s.snapDue a k ≤ s.tb.cnt))) = l
    have hw : Writes (fun k => 0x1C500 ≤ k ∧ k < 0x1C5C0) s (l.foldl (fun t k =>
        t.wr (Reg.FIO_PSNAP k) (if s.flkUp then w32 (SMap.get (fun _ => 0) s.fio.snapBase k) else s.rd (Reg.FIO_PCNT k))) s) := by
      refine (Writes.refl _ s).foldl fun u k hk hu => hu.wr _ ?_
      have hk48 : k < 48 := List.mem_range.mp (List.mem_filter.mp (hl ▸ hk)).1
      unfold Reg.FIO_PSNAP
      omega
    have hf : (l.foldl (fun t k =>
        t.wr (Reg.FIO_PSNAP k) (if s.flkUp then w32 (SMap.get (fun _ => 0) s.fio.snapBase k) else s.rd (Reg.FIO_PCNT k))) s).fio = s.fio :=
      List.foldlRecOn (motive := fun t : State => t.fio = s.fio) _ _ rfl fun t ht k _ => (State.wr_fio t _ _).trans ht
    refine ⟨hw.of_regs (State.fioMod_regs _ _), ?_, ?_⟩ <;> rw [State.fioMod_fio, hf]

theorem ready_of_up (hl : s.flkUp = true) : LinkReady s ((s.expectSeq 10 ((seq + 1) % 256)).clearRun 10) seq := by
  have hag : Agree 1024 s ((s.expectSeq 10 ((seq + 1) % 256)).clearRun 10) := (expectSeq_ag s _ _).then (clearRun_ag _ _) (by decide)
  exact {
    up := (hag.bit _ (by decide) _).trans hl
    link := ⟨by rw [link_clearRun_same], by rw [link_clearRun_same, link_expectSeq_same]⟩
    field := hag.field_ (by decide)
    taken := congrArg FioU.taken (hag.fio (by decide))
    restarts := congrArg FioU.pcRestart (hag.fio (by decide))
    writes := (Writes.refl _ s).of_agree hag (by decide) }

theorem ready_of_return : LinkReady s (((s.snapTake false).linkReturn 10 seq).putBit Reg.FIO_STAT 1 true) seq := by
  obtain ⟨hw, htaken, hpc⟩ := snapTake_shows s false
  have hret := (s.snapTake false).linkReturn_ag 10 seq
  have hput := ((s.snapTake false).linkReturn 10 seq).putBit_ag Reg.FIO_STAT 1 true
  have hlw : Writes ReturnKeys (s.snapTake false) ((s.snapTake false).linkReturn 10 seq) :=
    ((Writes.refl _ _).putBit 10 true (.inl rfl)).trans ((linkReturn_signals _ _ _).mono (fun _ h => h.elim))
  have hlink := link_linkReturn_same (s.snapTake false) 10 seq
  exact {
    up := by
      unfold State.flkUp State.linkUp State.bit
      rw [State.rd_putBit_ne _ _ _ _ _ (by decide)]
      exact linkUp_linkReturn _ _ _ (by decide)
    link := by rw [hput.link _ (by decide)]; exact ⟨hlink.2, hlink.1⟩
    field := (hput.field_ (by decide)).trans ((hret.field_ (by decide)).trans ((s.snapTake_ag false).field_ (by decide)))
    taken := by rw [hput.fio (by decide), hret.fio (by decide), htaken]
    restarts := by rw [hput.fio (by decide), hret.fio (by decide), hpc]
    writes := ((hw.mono (fun _ h => .inr (.inr h))).trans hlw).putBit _ _ (.inr (.inl rfl)) }

/-- A valid frame from the field die finds the link up or brings it up, and is then taken (R19, R22). -/
theorem frameFromField_valid (hu : s.field_.up = true) (h : s.flkUp = true ∧ seq = (s.link 10).seq ∨ s.flkUp = false) :
    ∃ x, LinkReady s x seq ∧ s.frameFromField seq true = x.afterFrame := by
  rcases h with ⟨hl, hq⟩ | hl
  · refine ⟨_, ready_of_up s seq hl, ?_⟩
    unfold State.frameFromField
    simp only [hu, hl, hq, nextSeq, if_true, Bool.not_true, Bool.false_eq_true, if_false, ne_eq, not_true_eq_false]
    rfl
  · refine ⟨_, ready_of_return s seq, ?_⟩
    unfold State.frameFromField
    simp only [hu, hl, Bool.not_true, Bool.false_eq_true, if_false]
    rfl

theorem frameFromField_down (hu : s.field_.up = false) : s.frameFromField seq ok = s := by
  unfold State.frameFromField
  simp [hu]

/-- While the link is down, a frame with a bad check passes unnoticed (R22). -/
theorem frameFromField_unnoticed (hu : s.field_.up = true) (hl : s.flkUp = false) : s.frameFromField seq false = s := by
  unfold State.frameFromField
  simp [hu, hl]

theorem frameFromField_discarded (hu : s.field_.up = true) (hl : s.flkUp = true) (h : ok = false ∨ seq ≠ (s.link 10).seq) :
    s.frameFromField seq ok = (s.expectSeq 10 (nextSeq (s.link 10).seq seq ok)).linkDiscard 10 (!ok) := by
  unfold State.frameFromField State.expectSeq
  cases ok with
  | false => simp [hu, hl]
  | true => simp [hu, hl, h.resolve_left (by decide)]

/-! ### The link going down -/

/-- The state in which the loss of the field link is declared, before the trip lines evaluate (R20). -/
def State.flkLost (s : State) : State :=
  (((s.snapTake false).linkDown 10).putBit Reg.FIO_STAT 1 false).putBit Reg.FIO_STAT 0 s.field_.up

theorem flkDown_of_up (hl : s.flkUp = true) : s.flkDown = s.flkLost.tlStep := by
  unfold State.flkDown
  simp only [hl, Bool.not_true, Bool.false_eq_true, if_false]
  rfl

theorem flkDown_of_down (hl : s.flkUp = false) : s.flkDown = s := by
  unfold State.flkDown
  simp [hl]

/-- What the loss of the field link shows. -/
theorem flkLost_shows : s.flkLost.flkUp = false ∧ s.flkLost.bit Reg.FIO_STAT 1 = false ∧ s.flkLost.bit Reg.FIO_STAT 0 = s.field_.up ∧
    (s.flkLost.link 10).downAt = s.tb.cnt ∧ s.flkLost.bit Reg.INT_STAT_HI 8 = true := by
  unfold State.flkLost
  refine ⟨?_, ?_, ?_, ?_, ?_⟩
  · unfold State.flkUp State.linkUp State.bit
    rw [State.rd_putBit_ne _ _ _ _ _ (by decide), State.rd_putBit_ne _ _ _ _ _ (by decide)]
    exact linkUp_linkDown _ _ (by decide)
  · rw [State.bit_putBit _ _ _ _ _ _ (by decide), if_neg (by decide), State.bit_putBit _ _ _ _ _ _ (by decide), if_pos ⟨rfl, rfl⟩]
  · rw [State.bit_putBit _ _ _ _ _ _ (by decide), if_pos ⟨rfl, rfl⟩]
  · rw [(State.putBit_ag _ _ _ _).link _ (by decide), (State.putBit_ag _ _ _ _).link _ (by decide), link_linkDown_same,
      (s.snapTake_ag false).tb (by decide)]
  · unfold State.bit
    rw [State.rd_putBit_ne _ _ _ _ _ (by decide), State.rd_putBit_ne _ _ _ _ _ (by decide)]
    exact bit_linkDown_hi _ 10 (by decide)

theorem flkLost_ag : Agree 137438979585 s s.flkLost := by
  unfold State.flkLost
  exact ((((s.snapTake_ag false).mono (by decide)).then (State.linkDown_ag _ 10) (by decide)).then (State.putBit_ag _ _ _ _) (by decide)).then
    (State.putBit_ag _ _ _ _) (by decide)

end

/-! ### Frames as the statement writes them -/

section
variable {s t : State}

theorem Agree.eq_frameToField (h : Agree 70574902633985 s t) : t = { s with
    regs := t.regs, supPend := t.supPend, links := t.links, tally := t.tally, buckets := t.buckets, field_ := t.field_, fio := t.fio,
    pair := t.pair } :=
  h.eq_overlay

theorem Agree.eq_frameFromField (h : Agree 633851407918665 s t) : t = { s with
    regs := t.regs, ended := t.ended, holds := t.holds, supPend := t.supPend, links := t.links, tally := t.tally, buckets := t.buckets,
    pins := t.pins, dets := t.dets, cans := t.cans, eth := t.eth, field_ := t.field_, fio := t.fio, lines := t.lines, pair := t.pair,
    freeCtr := t.freeCtr } :=
  h.eq_overlay

theorem Agree.eq_flkDown (h : Agree 463990842889 s t) : t = { s with
    regs := t.regs, ended := t.ended, supPend := t.supPend, links := t.links, tally := t.tally, buckets := t.buckets, pins := t.pins,
    dets := t.dets, cans := t.cans, eth := t.eth, fio := t.fio, lines := t.lines } :=
  h.eq_overlay

end

/-- Settles O49: a frame to the field die is unnoticed, discarded or applied; a frame from it is unnoticed, discarded or taken, with the
evaluation step behind it, which writes none of the registers the frame shows; the loss of the link is declared before such a step. -/
theorem fieldLinkFrames : Obligations.FieldLinkFrames := by
  unfold Obligations.FieldLinkFrames
  intro s seq d l
  refine ⟨fun hu ok => ⟨congrArg Host.Outcome.next (frameToField_down s seq.toNat ok hu),
      congrArg Host.Outcome.next (frameFromField_down s seq.toNat ok hu)⟩, fun hu h => ?_,
    fun hu hs => congrArg Host.Outcome.next (frameToField_unnoticed s seq.toNat hu hs),
    fun hu hl => congrArg Host.Outcome.next (frameFromField_unnoticed s seq.toNat hu hl), fun hu hl hs hq => ?_, fun hu hl hs => ?_,
    fun hu hl => ?_, fun hu hl hq => ?_, fun hu h => ?_, fun hl => congrArg Host.Outcome.next (flkDown_of_down s hl), fun hl => ?_⟩
  · have hframe := (s.frameToField_ag seq.toNat true).eq_frameToField
    refine ⟨s.frameToField seq.toNat true, rfl, ?_⟩
    rw [frameToField_valid s seq.toNat hu h] at hframe ⊢
    obtain ⟨h1, h2, h3, h4, h5, h6, h7, h8, h9, h10, h11, h12, h13, h14, h15, h16⟩ := fieldApply_shows (s.fdExpect ((seq.toNat + 1) % 256))
    exact ⟨h1, h2, h3, h4, h5, h6, h7, h8, h9, h10, h11, h12, h13, h14, h15, h16, hframe⟩
  · refine ⟨s.frameToField seq.toNat true, rfl, ?_⟩
    rw [frameToField_discarded s seq.toNat true hu hl hs (.inr hq)]
    obtain ⟨h1, -, h3, h4, h5⟩ := flkDiscard_shows (s.fdExpect (nextSeq s.field_.seq seq.toNat true)) false
    exact ⟨h3, h1, h4, fld_linkDiscard_seq _ 10 (by decide), h5⟩
  · refine ⟨s.frameToField seq.toNat false, rfl, ?_⟩
    rw [frameToField_discarded s seq.toNat false hu hl hs (.inl rfl)]
    obtain ⟨h1, -, h3, h4, h5⟩ := flkDiscard_shows (s.fdExpect (nextSeq s.field_.seq seq.toNat false)) true
    exact ⟨h3, h1, h4, fld_linkDiscard_crc _ 10 (by decide), h5⟩
  · refine ⟨s.frameFromField seq.toNat false, rfl, ?_⟩
    rw [frameFromField_discarded s seq.toNat false hu hl (.inl rfl)]
    obtain ⟨h1, -, h3, h4, -⟩ := expectSeq_linkDiscard s 10 (nextSeq (s.link 10).seq seq.toNat false) true (by decide)
    exact ⟨((State.linkDiscard_ag _ _ _).field_ (by decide)).trans ((expectSeq_ag _ _ _).field_ (by decide)), congrArg Link.consec h1,
      congrArg Link.seq h1, h3, h4 rfl⟩
  · refine ⟨s.frameFromField seq.toNat true, rfl, ?_⟩
    rw [frameFromField_discarded s seq.toNat true hu hl (.inr hq)]
    obtain ⟨h1, -, -, -, h5⟩ := expectSeq_linkDiscard s 10 (nextSeq (s.link 10).seq seq.toNat true) false (by decide)
    exact ⟨((State.linkDiscard_ag _ _ _).field_ (by decide)).trans ((expectSeq_ag _ _ _).field_ (by decide)), congrArg Link.consec h1,
      congrArg Link.seq h1, h5 rfl⟩
  · have hframe := (s.frameFromField_ag seq.toNat true).eq_frameFromField
    obtain ⟨x, hx, hxe⟩ := frameFromField_valid s seq.toNat hu h
    refine ⟨s.frameFromField seq.toNat true, rfl, ?_⟩
    rw [hxe] at hframe ⊢
    obtain ⟨⟨mv, at_, lim, hfield⟩, hfio, hlink⟩ := afterFrame_fields x
    obtain ⟨hin, hinHi, hraw, hmm⟩ := afterFrame_masks x
    obtain ⟨hrestart, hsilence, hdropped⟩ := afterFrame_news x
    obtain ⟨-, -, -, hhere, hok, -⟩ := syncOk_shows x
    rw [hx.field] at hfield hin hinHi hraw hmm hrestart hsilence hdropped hok
    have hkey : ∀ a, (0x1C100 ≤ a ∧ a < 0x1C3C0) ∨ a = Reg.PAIR_CFG → ¬ ReturnKeys a ∧ ¬ Signals a := fun a ha => by
      unfold ReturnKeys Signals Reg.DLK_STAT Reg.FIO_STAT Reg.INT_STAT_LO Reg.INT_STAT_HI
      unfold Reg.PAIR_CFG at ha
      omega
    refine ⟨flkUp_afterFrame x hx.up, by rw [hlink, hx.link.1], by rw [hlink, hx.link.2], by rw [hfield], by rw [hfield], by rw [hfield],
      by rw [hfield], hin, hinHi, hraw, hmm, (bit_afterFrame_stat x 0).trans hhere, (bit_afterFrame_stat x 2).trans hok, by rw [hfield],
      hrestart, hsilence, hdropped, fun b hb => ?_, fun k hk => ?_, fun k hk hh hp => ?_, fun n kind mv hr hm => ?_, fun b kind mv hr => ?_,
      fun e he hn => ?_, hframe⟩
    · have h := afterFrame_banks x hb
      rw [hx.field] at h
      exact h
    · have h := (afterFrame_channel x hk).1
      rw [hx.field] at h
      exact h
    · have h := afterFrame_count x hk (by rw [hx.field]; exact hh) (by rw [hx.restarts]; exact hp)
      rw [hx.field] at h
      exact h
    · have hcfg := hkey (Reg.FIO_CFG n.val) (.inl (by unfold Reg.FIO_CFG; omega))
      have hflt := hkey (Reg.FIO_FLT n.val) (.inl (by unfold Reg.FIO_FLT; omega))
      have hpair := hkey Reg.PAIR_CFG (.inr rfl)
      have h := afterFrame_fault x n.isLt kind.isLt (by rw [hx.field]; exact hr)
        (by unfold State.paired; rw [hx.writes.bit _ hcfg.1 hcfg.2, hx.writes.bit _ hpair.1 hpair.2]; exact hm)
      rw [hx.writes.fld _ _ hflt.1 hflt.2] at h
      exact h
    · exact afterFrame_supply x b.isLt (by rw [hx.field]; exact hr)
    · exact afterFrame_edge x (by rw [hx.field]; exact he) (by rw [hx.taken]; exact hn)
  · have hframe := s.flkDown_ag.eq_flkDown
    refine ⟨s.flkDown, rfl, ?_⟩
    rw [flkDown_of_up s hl] at hframe ⊢
    obtain ⟨h1, h2, h3, h4, h5⟩ := flkLost_shows s
    have hw := tlStep_writes s.flkLost
    have hag := s.flkLost.tlStep_ag
    have hstat : ∀ i, s.flkLost.tlStep.bit Reg.FIO_STAT i = s.flkLost.bit Reg.FIO_STAT i :=
      fun i => hw.bit i (by unfold TripKeys; decide) (by unfold Signals; decide)
    exact ⟨(hw.bit _ (by unfold TripKeys; decide) (by unfold Signals; decide)).trans h1, (hstat 1).trans h2, (hstat 0).trans h3,
      (congrArg Link.downAt (hag.link 10 (by decide))).trans h4, hw.raised (by unfold TripKeys; decide) 8 h5,
      (hag.field_ (by decide)).trans ((flkLost_ag s).field_ (by decide)), hframe⟩

end Sys2Proof.Machine
end

section
/-!
The tick of the engine die: its start on the time grid, its arrival at a region and the start of the element program (chapter 02, R34, R53, R55,
R58, R74, R162).
-/
namespace Sys2Proof.Machine
open Sys2Proof

/-! ### Units of the clusters under a frame -/

section
variable {m : Nat} {s t : State} (h : Agree m s t) (k : Nat)
include h

theorem Agree.clPhase (hm : m.testBit 20 = false) : t.clPhase k = s.clPhase k := by unfold State.clPhase; rw [h.phase hm]
theorem Agree.core (hm : m.testBit 30 = false) : t.core k = s.core k := by unfold State.core; rw [h.cores hm]
theorem Agree.elem (hm : m.testBit 31 = false) : t.elem k = s.elem k := by unfold State.elem; rw [h.elems hm]

end

@[simp] theorem elem_elemMod (s : State) (c : Nat) (f : ElemU → ElemU) (k : Nat) :
    (s.elemMod c f).elem k = if c = k then f (s.elem c) else s.elem k := State.elem_setElem _ _ _ _

/-! ### Registers that the passing of time and a tick start write -/

/-- The registers that count passing time: the drill age and the RTC. -/
def ClockKeys (a : Nat) : Prop := a = Reg.PAIR_DRILL_AGE ∨ a = Reg.TB_RTC_SEC_LO ∨ a = Reg.TB_RTC_SEC_HI

/-- The registers and memories of the clusters. -/
def ClusterKeys (a : Nat) : Prop := 0x90000000 ≤ a

theorem Writes.dropRegs {P : Nat → Prop} {s t : State} (h : Writes P s t) {p : Nat → Bool} (hp : ∀ a, p a = true → P a) :
    Writes P s (t.dropRegs p) := by
  have hrd : ∀ a, ¬ P a → (t.dropRegs p).rd a = t.rd a := fun a ha =>
    (SMap.get_drop _ _ _ _).trans (if_neg (fun e => ha (hp a e)))
  refine h.trans ⟨fun a ha _ => hrd a ha, fun hs i hi => ?_⟩
  unfold State.bit
  rw [hrd _ hs]
  exact hi

section
variable (s : State) (c k : Nat)

theorem pass_writes (n : Nat) : Writes ClockKeys s (s.pass n) := by
  unfold State.pass
  refine Writes.of_agree (Writes.ite (fun _ => Writes.refl _ s) (fun _ => ?_)) (State.tbMod_ag _ _) (by decide)
  exact (((Writes.refl _ s).count _ _ _ (.inl rfl)).wr _ (.inr (.inl rfl))).put _ _ _ (.inr (.inr rfl))

theorem reachTime_writes (t : Nat) : Writes ClockKeys s (s.reachTime t) := by
  unfold State.reachTime
  exact Writes.ite (fun _ => pass_writes s _) (fun _ => Writes.refl _ s)

theorem clearWindows_writes : Writes ClusterKeys s (s.clearWindows c) := by
  unfold State.clearWindows
  refine Writes.wr (Writes.of_agree (Writes.dropRegs (Writes.refl _ s) (fun a ha => ?_)) (State.dropUpsets_ag _ _ _) (by decide)) _ ?_
  · obtain ⟨hlo, -⟩ := Bool.and_eq_true_iff.mp ha
    have := of_decide_eq_true hlo
    unfold winKey at this
    unfold ClusterKeys
    omega
  · unfold ClusterKeys winKey
    omega

theorem trkRestart_writes : Writes ClusterKeys s (s.trkRestart c) := by
  have hper : ClusterKeys (Reg.TRK_PER c) := by unfold ClusterKeys Reg.TRK_PER; omega
  have hfreq : ClusterKeys (Reg.TRK_FREQ c) := by unfold ClusterKeys Reg.TRK_FREQ; omega
  have hrocof : ClusterKeys (Reg.TRK_ROCOF c) := by unfold ClusterKeys Reg.TRK_ROCOF; omega
  have hstat : ClusterKeys (Reg.TRK_STAT c) := by unfold ClusterKeys Reg.TRK_STAT; omega
  unfold State.trkRestart
  exact (((((Writes.refl _ s).of_agree (State.setTracker_ag _ _ _) (by decide)).wr _ hper).wr _ hfreq).wr _ hrocof).put _ _ _ hstat

/-- A cluster that has met its deadline becomes idle. -/
def State.leaveExit (s : State) (c : Nat) : State := if decide (s.clPhase c = .exit) then s.setPhase c .idle else s

/-- A restart of a cluster's windows and tracker that waits for a tick start. -/
def State.restartDue (s : State) (c : Nat) : State :=
  if (s.tracker c).restart && s.regionRuns (c / 4) then (s.clearWindows c).trkRestart c else s

theorem restartDue_ag : Agree 2181038081 s (s.restartDue c) := by
  unfold State.restartDue
  exact Agree.ite (fun _ => ((s.clearWindows_ag c).mono (by decide)).then (State.trkRestart_ag _ _) (by decide)) (fun _ => Agree.refl _ s)

theorem restartDue_writes : Writes ClusterKeys s (s.restartDue c) := by
  unfold State.restartDue
  exact Writes.ite (fun _ => (clearWindows_writes s c).trans (trkRestart_writes _ c)) (fun _ => Writes.refl _ s)

/-- Beside the two, a tick start changes only a cluster's tracker and element record. -/
theorem clusterTick_after : Agree 2181038080 ((s.leaveExit c).restartDue c) (s.clusterTick c) := by
  unfold State.clusterTick
  exact ((State.trkMod_ag _ c _).mono (by decide)).then (State.elemMod_ag _ c _) (by decide)

theorem clPhase_clusterTick : (s.clusterTick c).clPhase k = if c = k ∧ s.clPhase k = .exit then .idle else s.clPhase k := by
  rw [(clusterTick_after s c).clPhase _ (by decide), (restartDue_ag _ c).clPhase _ (by decide)]
  unfold State.leaveExit
  by_cases h : s.clPhase c = .exit
  · rw [if_pos (by simp [h]), State.clPhase_setPhase]
    by_cases hk : c = k
    · subst hk
      rw [if_pos rfl, if_pos ⟨rfl, h⟩]
    · rw [if_neg hk, if_neg (fun e => hk e.1)]
  · rw [if_neg (by simp [h]), if_neg]
    rintro ⟨rfl, hk⟩
    exact h hk

theorem clusterTick_writes : Writes ClusterKeys s (s.clusterTick c) := by
  refine Writes.of_agree (Writes.trans ?_ (restartDue_writes _ c)) (clusterTick_after s c) (by decide)
  unfold State.leaveExit
  exact Writes.ite (fun _ => (Writes.refl _ s).of_agree (State.setPhase_ag _ _ _) (by decide)) (fun _ => Writes.refl _ s)

/-- All clusters at a tick start. -/
def State.clusterTicks (s : State) : State := (List.range 16).foldl (fun t c => t.clusterTick c) s

theorem clusterTicks_ag : Agree 2182086657 s s.clusterTicks :=
  (Agree.refl _ s).foldl (fun u c hu => hu.then (u.clusterTick_ag c) (by decide))

theorem clusterTicks_writes : Writes ClusterKeys s s.clusterTicks :=
  (Writes.refl _ s).foldl (fun u c _ hu => hu.trans (clusterTick_writes u c))

theorem clPhase_clusterTicks (hk : k < 16) : s.clusterTicks.clPhase k = if s.clPhase k = .exit then .idle else s.clPhase k := by
  have upTo : ∀ n, ((List.range n).foldl (fun t c => t.clusterTick c) s).clPhase k =
      if k < n ∧ s.clPhase k = .exit then .idle else s.clPhase k := fun n => by
    induction n with
    | zero => simp
    | succ n ih =>
      rw [List.range_succ, List.foldl_append, List.foldl_cons, List.foldl_nil, clPhase_clusterTick, ih]
      by_cases hx : s.clPhase k = .exit
      · by_cases hn : n = k
        · simp [hx, hn]
        · have : k < n + 1 ↔ k < n := by omega
          simp [hx, hn, this]
      · simp [hx]
  exact (upTo 16).trans (if_congr (and_iff_right hk) rfl rfl)

end

/-! ### The start of a tick (R53, R74) -/

section
variable (s : State)

/-- The grid has moved to the next tick, and TICK_IDX shows it. -/
def State.gridMoved (s : State) : State :=
  let next := tickFollowing s.tick
  let s := s.reachTime (next.1 * 1000000000 + tickNs next.2)
  let step := s.stepFlag && !s.tick.running
  let s := ((s.setStep step).setLate []).tickMod (fun t =>
    { sec := next.1, idx := next.2, running := true, shownSec := next.1, runs := t.runs + 1, regs := [], energ := t.energ,
      scales := SMap.set (fun _ => none) t.scales s.epoch (some ((t.runs + 1 : Nat) - (tickAbs next.1 next.2 : Int))) })
  s.wr Reg.TICK_IDX (w32 (s.epoch * 16777216 + next.2))

theorem gridMoved_ag : Agree 17596417 s s.gridMoved := by
  unfold State.gridMoved
  exact (((((s.reachTime_ag _).mono (by decide)).then (State.setStep_ag _ _) (by decide)).then (State.setLate_ag _ _) (by decide)).then
    (State.tickMod_ag _ _) (by decide)).then (State.wr_ag _ _ _) (by decide)

/-- The grid's move writes the counters of passing time and TICK_IDX. -/
theorem gridMoved_writes : Writes (fun a => ClockKeys a ∨ a = Reg.TICK_IDX) s s.gridMoved := by
  unfold State.gridMoved
  exact ((((reachTime_writes s _).mono (fun _ h => .inl h)).of_agree (State.setStep_ag _ _) (by decide)).of_agree (State.setLate_ag _ _)
    (by decide)).of_agree (State.tickMod_ag _ _) (by decide) |>.wr _ (.inr rfl)

theorem gridMoved_tick : s.gridMoved.tick.running = true ∧ s.gridMoved.tick.runs = s.tick.runs + 1 ∧
    s.gridMoved.tick.sec = (tickFollowing s.tick).1 ∧ s.gridMoved.tick.idx = (tickFollowing s.tick).2 := by
  refine ⟨rfl, ?_, rfl, rfl⟩
  exact congrArg (fun t => t.runs + 1) ((s.reachTime_ag _).tick (by decide))

theorem gridMoved_shows : s.gridMoved.rd Reg.TICK_IDX = w32 (s.epoch * 0x1000000 + s.gridMoved.tick.idx) := by
  rw [(gridMoved_tick s).2.2.2]
  unfold State.gridMoved
  dsimp only
  have hep := (reachTime_writes s ((tickFollowing s.tick).1 * 1000000000 + tickNs (tickFollowing s.tick).2)).fld (k := Reg.TB_EPOCH) 7 0
    (by unfold ClockKeys; decide) (by unfold Signals; decide)
  generalize s.reachTime _ = v at hep ⊢
  rw [State.rd_wr, if_pos rfl]
  exact congrArg (fun e => w32 (e * 0x1000000 + (tickFollowing s.tick).2)) hep

/-- The tick's frame is noted, and which regions run it. -/
def State.tickNoted (s : State) (step : Bool) : State :=
  let s := if step then s.lthMod (fun l => { l with flags := l.flags ||| lfSTEP }) else s
  let s := (s.setTicks ((s.tickSnap :: s.ticks).take 256)).regionResets
  s.tickMod (fun t => { t with regs := (List.range 4).filter (fun r => s.regionRuns r) })

theorem tickStart_eq (hs : s.started = true) (hp : s.inPhases = false) (hr : s.tick.running = true) :
    s.tickStart = s.gridMoved.clusterTicks.tickNoted false := by
  have hstep : ∀ t, ((s.reachTime t).stepFlag && !(s.reachTime t).tick.running) = false := fun t => by
    rw [(s.reachTime_ag t).tick (by decide), hr, Bool.not_true, Bool.and_false]
  rw [← hstep ((tickFollowing s.tick).1 * 1000000000 + tickNs (tickFollowing s.tick).2)]
  unfold State.tickStart
  rw [if_neg (by simp [hs, hp])]
  rfl

/-- Where no region's reset is asked for, the tick's frame and the regions that run the tick are all that is noted. -/
theorem tickNoted_eq (hq : s.power.regReq = []) :
    ∃ snaps regs, s.tickNoted false = (s.setTicks snaps).tickMod (fun t => { t with regs := regs }) := by
  have hreq : ∀ x, (s.setTicks x).regionResets = s.setTicks x := fun x => by
    unfold State.regionResets
    rw [State.setTicks_power, hq, List.foldl_nil]
  unfold State.tickNoted
  dsimp only
  rw [if_neg (by decide), hreq]
  exact ⟨_, _, rfl⟩

/-- A boot that has come to its last step does not go on with a tick. -/
theorem bootAdvance_done (h : 6 ≤ s.stage) : s.bootAdvance = s := by
  unfold State.bootAdvance
  exact if_pos (by simp [h])

theorem tickFollowing_in (t : TickU) (hr : t.running = true) (h : t.idx < 4799) : tickFollowing t = (t.sec, t.idx + 1) := by
  unfold tickFollowing
  rw [if_neg (by simp [hr]), if_pos (by omega)]

theorem tickFollowing_last (t : TickU) (hr : t.running = true) (h : 4799 ≤ t.idx) : tickFollowing t = (t.sec + 1, 0) := by
  unfold tickFollowing
  rw [if_neg (by simp [hr]), if_neg (by omega)]

/-- From the grid's move on, the clusters' work and what is noted of it write only clusters' registers. -/
theorem tickStart_shows (hs : s.started = true) (hp : s.inPhases = false) (hr : s.tick.running = true) (hq : s.power.regReq = []) :
    let t := s.tickStart
    (∃ regs, t.tick = { s.gridMoved.tick with regs := regs }) ∧ Agree 2201205604353 s.gridMoved t ∧ Writes ClusterKeys s.gridMoved t ∧
    ∀ c, c < 16 → t.clPhase c = if s.clPhase c = .exit then .idle else s.clPhase c := by
  have hc := clusterTicks_ag s.gridMoved
  obtain ⟨snaps, regs, he⟩ := tickNoted_eq s.gridMoved.clusterTicks (by rw [hc.power (by decide), (gridMoved_ag s).power (by decide), hq])
  rw [tickStart_eq s hs hp hr, he]
  refine ⟨⟨regs, ?_⟩, ?_, ?_, fun c hlt => ?_⟩
  · rw [State.tickMod_tick, State.setTicks_tick, hc.tick (by decide)]
  · exact ((hc.mono (by decide)).then (State.setTicks_ag _ _) (by decide)).then (State.tickMod_ag _ _) (by decide)
  · exact ((clusterTicks_writes _).of_agree (State.setTicks_ag _ _) (by decide)).of_agree (State.tickMod_ag _ _) (by decide)
  · rw [State.clPhase_tickMod, State.clPhase_setTicks, clPhase_clusterTicks _ c hlt, (gridMoved_ag s).clPhase _ (by decide)]

end

/-! ### The arrival of a tick at a region (R34, R55) -/

section
variable (s : State) (r skew : Nat)

/-- The skew of a region as it is shown, and signalled above 60 ns (R34). -/
def State.skewShown (s : State) (r skew : Nat) : State :=
  let s := s.put (Reg.REG_STAT r) 7 0 (satTo 255 skew)
  let s := if s.fld (Reg.REG_STAT r) 15 8 < satTo 255 skew then s.put (Reg.REG_STAT r) 15 8 (satTo 255 skew) else s
  if 60 < skew then ((s.putBit (Reg.REG_STAT r) 16 true).irq (16 + r)).log 0x120 r skew s.tick.idx else s

theorem skewShown_ag : Agree 25089 s (s.skewShown r skew) := by
  have hput : Agree 25089 s (s.put (Reg.REG_STAT r) 7 0 (satTo 255 skew)) := (s.put_ag _ _ _ _).mono (by decide)
  unfold State.skewShown
  refine Agree.ite (fun _ => Agree.then (Agree.then (Agree.then ?_ (State.putBit_ag _ _ _ _) (by decide)) (State.irq_ag _ _) (by decide))
    (State.log_ag _ _ _ _ _) (by decide)) (fun _ => ?_)
  all_goals exact Agree.ite (fun _ => hput.then (State.put_ag _ _ _ _ _) (by decide)) (fun _ => hput)

/-- Only a skew above 100 ns marks the region late (R34). -/
theorem late_skewMonitor : (s.skewMonitor r skew).late = if 100 < skew then r :: s.late else s.late := by
  have hl := (skewShown_ag s r skew).late (by decide)
  have he : s.skewMonitor r skew = if 100 < skew then
      (((s.skewShown r skew).putBit (Reg.REG_STAT r) 17 true).setLate (r :: (s.skewShown r skew).late)).log 0x121 r skew
        (s.skewShown r skew).tick.idx
    else s.skewShown r skew := rfl
  rw [he]
  split
  · rw [(State.log_ag _ _ _ _ _).late (by decide), State.setLate_late, hl]
  · exact hl

/-- The entry work of a cluster ends in its entry phase and leaves the phase of every other. -/
theorem clPhase_entryWork (c k : Nat) : (s.entryWork c).clPhase k = if c = k then .entry else s.clPhase k := by
  have hwork : ∃ u, Agree 17628863135745 s u ∧ s.entryWork c = u.setPhase c .entry := by
    refine ⟨_, ?_, rfl⟩
    have h0 : Agree 17628863135745 s (if (s.tracker c).align || s.stepFlag then s.alignTrk c else s) :=
      Agree.ite (fun _ => (s.alignTrk_ag c).mono (by decide)) (fun _ => Agree.refl _ s)
    exact (((((h0.then (State.deliverProt_ag _ _) (by decide)).then (State.deliverTrk_ag _ _) (by decide)).then (State.phasors_ag _ _)
      (by decide)).then (State.ifdEvaluate_ag _ _) (by decide)).then (State.trkMod_ag _ _ _) (by decide)).then (State.gaugeTests_ag _ _)
      (by decide)
  obtain ⟨u, hu, he⟩ := hwork
  rw [he, State.clPhase_setPhase, hu.clPhase _ (by decide)]

/-- The entry work of a region's four clusters. -/
def State.entryPhase (s : State) (r : Nat) : State := (List.range 4).foldl (fun t i => t.entryWork (4 * r + i)) s

theorem entryPhase_ag : Agree 17628864184321 s (s.entryPhase r) :=
  (Agree.refl _ s).foldl (fun u i hu => hu.then (u.entryWork_ag (4 * r + i)) (by decide))

theorem clPhase_entryPhase_own {i : Nat} (hi : i < 4) : (s.entryPhase r).clPhase (4 * r + i) = .entry := by
  unfold State.entryPhase
  refine foldl_reaches (Q := fun t : State => t.clPhase (4 * r + i) = .entry) (List.mem_range.mpr hi) (fun t => ?_) (fun t j hj ht => ?_) s
  · rw [clPhase_entryWork, if_pos rfl]
  · rw [clPhase_entryWork, if_neg (by omega), ht]

theorem clPhase_entryPhase_other {c : Nat} (hc : c / 4 ≠ r) : (s.entryPhase r).clPhase c = s.clPhase c := by
  unfold State.entryPhase
  refine List.foldlRecOn (motive := fun t : State => t.clPhase c = s.clPhase c) _ _ rfl (fun t ht i hi => ?_)
  have := List.mem_range.mp hi
  rw [clPhase_entryWork, if_neg (by omega), ht]

theorem regionArrival_eq (hr : s.tick.running = true) (ht : s.tickHas r = true) (hi : ∀ i, i < 4 → s.clPhase (4 * r + i) = .idle) :
    s.regionArrival r skew = (s.skewMonitor r skew).entryPhase r := by
  have hidle : (List.range 4).any (fun i => decide (s.clPhase (4 * r + i) ≠ .idle)) = false := by
    rw [List.any_eq_false]
    intro i h
    simp [hi i (List.mem_range.mp h)]
  unfold State.regionArrival
  rw [hr, ht, hidle]
  rfl

end

/-! ### The start of the element program (R58, R162) -/

section
variable (s : State) (c : Nat)

/-- The registers that the end of cluster c's entry phase writes: the status of the trip lines, status and count of the IFD. -/
def PhaseEndKeys (a : Nat) : Prop := (0x18900 ≤ a ∧ a < 0x18A00) ∨ a = Reg.IFD_STAT c ∨ a = Reg.IFD_CNT c

/-- The end of the entry phase: the IFD shows what it found, the breaker-failure counts advance (R246, R277). -/
def State.entryEnded (s : State) (c : Nat) : State := (s.ifdPublish c).bfCluster c

theorem ifdPublish_writes : Writes (PhaseEndKeys c) s (s.ifdPublish c) := by
  have hstat : PhaseEndKeys c (Reg.IFD_STAT c) := .inr (.inl rfl)
  have hcnt : PhaseEndKeys c (Reg.IFD_CNT c) := .inr (.inr rfl)
  have h : Writes (PhaseEndKeys c) s ((s.put (Reg.IFD_STAT c) 7 4 (s.det c).crit).put (Reg.IFD_STAT c) 31 18
      (((s.put (Reg.IFD_STAT c) 7 4 (s.det c).crit).ifdLeft c).getD 0)) := ((Writes.refl _ s).put _ _ _ hstat).put _ _ _ hstat
  unfold State.ifdPublish
  dsimp only
  refine Writes.ite (fun _ => Writes.log (Writes.irq (Writes.count (Writes.putBit (Writes.putBit ?_ 0 true hstat) 8 true hstat) 31 0 1 hcnt) _)
    _ _ _ _) (fun _ => ?_)
  all_goals refine Writes.ite (fun _ => Writes.putBit ?_ 0 false hstat) (fun _ => ?_)
  all_goals exact Writes.ite (fun _ => h.putBit 10 true hstat) (fun _ => Writes.ite (fun _ => h.putBit 10 false hstat) (fun _ => h))

theorem bfAdvance_writes {n : Nat} (hn : n < 64) : Writes (PhaseEndKeys c) s (s.bfAdvance n) := by
  have hstat : PhaseEndKeys c (Reg.TL_STAT n) := by unfold PhaseEndKeys Reg.TL_STAT; omega
  unfold State.bfAdvance
  dsimp only
  split
  · refine Writes.ite (fun _ => (Writes.refl _ s).count _ _ _ hstat) (fun _ => ?_)
    exact Writes.ite (fun _ => (Writes.refl _ s).put _ _ _ hstat) (fun _ => ((Writes.refl _ s).put _ _ _ hstat).put _ _ _ hstat)
  · exact Writes.ite (fun _ => Writes.refl _ s) (fun _ => (Writes.refl _ s).put _ _ _ hstat)
  · exact Writes.refl _ s

theorem entryEnded_writes : Writes (PhaseEndKeys c) s (s.entryEnded c) := by
  unfold State.entryEnded State.bfCluster
  refine (ifdPublish_writes s c).foldl (fun u n hn hu => Writes.ite (fun _ => ?_) (fun _ => hu))
  exact hu.trans (bfAdvance_writes u c (List.mem_range.mp hn))

theorem entryEnded_ag : Agree 25089 s (s.entryEnded c) :=
  (s.ifdPublish_ag c).then (State.bfCluster_ag _ _) (by decide)

theorem coreStopped_entryEnded (hc : c < 16) : (s.entryEnded c).coreStopped c = s.coreStopped c := by
  refine (entryEnded_writes s c).bit csSTOPPED ?_ ?_
  · unfold PhaseEndKeys Reg.CORE_STAT Reg.IFD_STAT Reg.IFD_CNT
    omega
  · unfold Signals Reg.CORE_STAT Reg.INT_STAT_LO Reg.INT_STAT_HI
    omega

/-- The element record at the start of a program: nothing is staged (R162). -/
def atEntry (e : ElemU) : ElemU :=
  { e with first := false, activated := false, req := 0, sflags := 0, evts := [], xst := e.xcur.words, xpub := false, crvDone := 0, cmpDone := 0,
           tmrDone := 0 }

theorem elementStart_eq (hp : s.clPhase c = .entry) (hc : c < 16) (hs : s.coreStopped c = false) : s.elementStart c =
    ((((s.entryEnded c).setCore c ((s.entryEnded c).entryCore c)).elemMod c atEntry).setPhase c .element).tlStep := by
  have hst := (coreStopped_entryEnded s c hc).trans hs
  unfold State.elementStart
  rw [if_neg (by simp [hp])]
  change (State.setPhase (if (s.entryEnded c).coreStopped c then _ else _) _ _).tlStep = _
  rw [if_neg (by simp [hst])]
  rfl

/-- Of a register file that begins with six given words, a register other than g0 among them. -/
theorem gr_first (x : Core) (v : Vector Word 6) (hx : x.g = v ++ Vector.replicate 26 (0 : Word)) {i : Nat} (h0 : i ≠ 0) (hi : i < 6) :
    x.gr i = v[i] := by
  have hv : (v ++ Vector.replicate 26 (0 : Word))[i]? = some v[i] := by
    rw [Vector.getElem?_append_left hi, Vector.getElem?_eq_getElem hi]
  unfold Core.gr
  rw [if_neg h0, hx]
  exact congrArg (fun o : Option Word => o.getD 0) hv

/-- What a program finds at its first cycle (R162). -/
theorem entryCore_shows : (s.entryCore c).run = .active ∧ (s.entryCore c).pc = ((s.elem c).active.map (fun i => i.entry)).getD 0 ∧
    (s.entryCore c).gr 1 = w32 s.tick.idx ∧ (s.entryCore c).gr 2 = w32 s.tick.sec ∧ (s.entryCore c).gr 5 = w32 (s.elem c).posted := by
  have hgr := fun {i : Nat} => gr_first (s.entryCore c)
    #v[0, w32 s.tick.idx, w32 s.tick.sec, w32 (c * 256 + s.epoch), w32 (s.entryFlags c), w32 (s.elem c).posted] rfl (i := i)
  exact ⟨rfl, rfl, hgr (by decide) (by decide), hgr (by decide) (by decide), hgr (by decide) (by decide)⟩

/-- What the start of a program leaves of the units of the clusters (R58, R162). -/
theorem elementStart_units (hp : s.clPhase c = .entry) (hc : c < 16) (hs : s.coreStopped c = false) :
    (s.elementStart c).clPhase c = .element ∧
    (∀ n, (s.elementStart c).core n = if c = n then (s.entryEnded c).entryCore c else s.core n) ∧
    (∀ n, (s.elementStart c).elem n = if c = n then atEntry (s.elem c) else s.elem n) := by
  have hu := entryEnded_ag s c
  rw [elementStart_eq s c hp hc hs]
  generalize s.entryEnded c = u at hu ⊢
  have hstep := (((u.setCore c (u.entryCore c)).elemMod c atEntry).setPhase c .element).tlStep_ag
  refine ⟨?_, fun n => ?_, fun n => ?_⟩
  · rw [hstep.clPhase _ (by decide), State.clPhase_setPhase, if_pos rfl]
  · rw [hstep.core _ (by decide), State.core_setPhase, (State.elemMod_ag _ _ _).core _ (by decide), State.core_setCore, hu.core _ (by decide)]
  · rw [hstep.elem _ (by decide), State.elem_setPhase, elem_elemMod, State.elem_setCore, State.elem_setCore, hu.elem _ (by decide),
      hu.elem _ (by decide)]

end

/-- Settles O31: the grid moves before the clusters' work, which leaves the registers that show it; an arrival puts the four clusters of its
region, and no other, into their entry phase; the end of an entry phase finds the program's first registers as the tick left them. -/
theorem tickStartAndPhases : Obligations.TickStartAndPhases := by
  unfold Obligations.TickStartAndPhases
  refine ⟨fun s hs hp hr hq h6 => ?_, fun s r skew hr ht hi => ?_, fun s c hp hn hs => ?_⟩
  · obtain ⟨⟨regs, htick⟩, hag, hw, hphase⟩ := tickStart_shows s hs hp hr hq
    have hall : Agree 2201222938625 s s.tickStart := ((gridMoved_ag s).mono (by decide)).then hag (by decide)
    have hstage : s.tickStart.stage = s.stage :=
      (hw.fld _ _ (by unfold ClusterKeys; decide) (by unfold Signals; decide)).trans
        ((gridMoved_writes s).fld _ _ (by unfold ClockKeys; decide) (by unfold Signals; decide))
    have hexec : exec .tickStart s = .next s.tickStart :=
      congrArg Host.Outcome.next ((if_neg (by simp [hs, hp])).trans (bootAdvance_done _ (hstage ▸ h6)))
    obtain ⟨hrun, hruns, hsec, hidx⟩ := gridMoved_tick s
    refine ⟨s.tickStart, hexec, ?_, ?_, fun h => ?_, fun h => ?_, ?_, hall.mram (by decide), hall.lanes (by decide),
      hall.cores (by decide), hphase⟩
    · rw [htick, hrun]
    · rw [htick, hruns]
    · rw [htick, hsec, hidx, tickFollowing_in _ hr h]
      exact ⟨rfl, rfl⟩
    · rw [htick, hsec, hidx, tickFollowing_last _ hr h]
      exact ⟨rfl, rfl⟩
    · rw [hw.rd _ (by unfold ClusterKeys; decide) (by unfold Signals; decide), gridMoved_shows, htick]
  · have hskew := s.skewMonitor_ag r.val skew
    have hentry := entryPhase_ag (s.skewMonitor r.val skew) r.val
    have hexec : exec (.regionTickArrival r skew) s = .next ((s.skewMonitor r.val skew).entryPhase r.val) :=
      congrArg Host.Outcome.next (regionArrival_eq s r.val skew hr ht hi)
    have hlate := (hentry.late (by decide)).trans (late_skewMonitor s r.val skew)
    have hall : Agree 17628880986625 s ((s.skewMonitor r.val skew).entryPhase r.val) :=
      (hskew.mono (by decide)).then hentry (by decide)
    refine ⟨_, hexec, fun i h4 => clPhase_entryPhase_own _ _ h4, fun c hc => ?_, fun h => ?_, fun h => ?_, hall.mram (by decide),
      hall.cores (by decide)⟩
    · rw [clPhase_entryPhase_other _ _ hc, hskew.clPhase _ (by decide)]
    · rw [hlate, if_pos h]
      exact List.mem_cons_self
    · rw [hlate, if_neg (by omega)]
  · have hexec : exec (.elementPhaseStart c) s = .next (s.elementStart c.val) :=
      congrArg Host.Outcome.next ((if_neg (by simp [hp])).trans (congrArg (fun x : State => x.elementStart c.val) (if_neg (by simp [hn]))))
    have hu := entryEnded_ag s c.val
    obtain ⟨hphase, hcore, helem⟩ := elementStart_units s c.val hp c.isLt hs
    obtain ⟨hrun, hpc, h1, h2, h5⟩ := entryCore_shows (s.entryEnded c.val) c.val
    rw [hu.elem _ (by decide)] at hpc h5
    rw [hu.tick (by decide)] at h1 h2
    have hown := (hcore c.val).trans (if_pos rfl)
    have hrec := (helem c.val).trans (if_pos rfl)
    refine ⟨s.elementStart c.val, hexec, hphase, by rw [hown, hrun], by rw [hown, hpc], by rw [hown, h1], by rw [hown, h2], by rw [hown, h5],
      by rw [hrec, atEntry], by rw [hrec, atEntry], by rw [hrec, atEntry], fun n hne => ⟨?_, ?_⟩, (s.elementStart_ag c.val).mram (by decide)⟩
    · rw [hcore, if_neg (Ne.symm hne)]
    · rw [helem, if_neg (Ne.symm hne)]

end Sys2Proof.Machine
end

section
/-!
The element deadline: what it posts, overruns, and the freeze of a cluster (chapter 02, R59, R69 to R73, R627).
-/
namespace Sys2Proof

/-- What a deadline posts of an element record, and whether the last one was an overrun. -/
def ElemU.posting (e : ElemU) : Nat × Word × Bool := (e.posted, e.flags, e.prevOvr)

theorem ElemU.posting_eq {e : ElemU} {p : Nat} {w : Word} {o : Bool} (h : e.posting = (p, w, o)) :
    e.posted = p ∧ e.flags = w ∧ e.prevOvr = o := by
  obtain ⟨hp, hr⟩ := Prod.mk.inj h
  exact ⟨hp, Prod.mk.inj hr⟩

end Sys2Proof

namespace Sys2Proof.Machine
open Sys2Proof

/-! ### Postings that stand -/

/-- From s to t what every cluster has posted stands. -/
def KeepsPostings (s t : State) : Prop := ∀ k, (t.elem k).posting = (s.elem k).posting

section
variable {s t u : State}

theorem KeepsPostings.refl (s : State) : KeepsPostings s s := fun _ => rfl

theorem KeepsPostings.trans (h : KeepsPostings s t) (k : KeepsPostings t u) : KeepsPostings s u := fun n => (k n).trans (h n)

/-- An operation whose frame holds no element records. -/
theorem KeepsPostings.of_agree {m : Nat} (h : KeepsPostings s t) (k : Agree m t u) (hm : m.testBit 31 = false) : KeepsPostings s u :=
  h.trans (fun n => congrArg ElemU.posting (k.elem n hm))

theorem KeepsPostings.elemMod (h : KeepsPostings s t) (c : Nat) {f : ElemU → ElemU} (hf : ∀ e, (f e).posting = e.posting) :
    KeepsPostings s (t.elemMod c f) := by
  refine h.trans fun n => ?_
  rw [elem_elemMod]
  split
  · next e => rw [hf, e]
  · rfl

theorem KeepsPostings.wrMem (h : KeepsPostings s t) (c key : Nat) (v : Word) : KeepsPostings s (t.wrMem c key v) :=
  (h.of_agree (t.wr_ag key v) (by decide)).elemMod c (f := fun e => { e with errs := SMap.set (fun _ => 0) e.errs key 0 }) (fun _ => rfl)

theorem KeepsPostings.ite {c : Prop} [Decidable c] (ht : c → KeepsPostings s t) (hu : ¬ c → KeepsPostings s u) :
    KeepsPostings s (if c then t else u) := by
  split
  · exact ht ‹_›
  · exact hu ‹_›

theorem KeepsPostings.foldl {α : Type} {f : State → α → State} {l : List α} (h : KeepsPostings s t)
    (hf : ∀ u x, KeepsPostings s u → KeepsPostings s (f u x)) : KeepsPostings s (l.foldl f t) :=
  List.foldlRecOn l f h (fun u hu x _ => hf u x hu)

end

/-! ### What keeps the postings: timers, sections of an image, the state copy of a pair -/

section
variable (s : State) (c : Nat)

theorem tmrAdvance_postings (n : Nat) (inp byProgram : Bool) : KeepsPostings s (s.tmrAdvance c n inp byProgram).1 := by
  unfold State.tmrAdvance State.tmrStore
  exact ((KeepsPostings.refl s).of_agree (s.wr_ag _ _) (by decide)).elemMod c (fun _ => rfl)

theorem tmrDeadline_postings : KeepsPostings s (s.tmrDeadline c) := by
  unfold State.tmrDeadline
  exact (KeepsPostings.refl s).foldl fun u n hu => KeepsPostings.ite (fun _ => hu) (fun _ => hu.trans (tmrAdvance_postings u c n _ _))

theorem wrMems_postings (k : Nat) (ws : List Word) : KeepsPostings s (s.wrMems c k ws) := by
  induction ws generalizing s k with
  | nil => exact KeepsPostings.refl s
  | cons w ws ih => exact ((KeepsPostings.refl s).wrMem c k w).trans (ih _ _)

theorem writeSections_postings (img : Image) : KeepsPostings s (s.writeSections c img false) := by
  unfold State.writeSections
  exact (KeepsPostings.refl s).foldl fun u x hu => KeepsPostings.ite (fun _ => hu.trans (wrMems_postings u c _ _)) (fun _ => hu)

theorem coreSections_postings : KeepsPostings s (s.coreSections c) := by
  unfold State.coreSections
  dsimp only
  split
  · exact KeepsPostings.refl s
  · exact KeepsPostings.ite (fun _ => (writeSections_postings s c _).elemMod c (fun _ => rfl)) (fun _ => KeepsPostings.refl s)

theorem tmrTake_postings (n : Nat) (w : Word) : KeepsPostings s (s.tmrTake c n w) := by
  unfold State.tmrTake
  exact ((KeepsPostings.refl s).of_agree (s.wr_ag _ _) (by decide)).elemMod c (fun _ => rfl)

/-- The integrals of a cluster's section. -/
def State.crvTake (s : State) (c : Nat) (wd : Nat → Word) : State :=
  (List.range 32).foldl (fun (t : State) n =>
    (t.wr (Reg.CRV_INT c n) (wd (2 + n))).elemMod c (fun e => { e with crvCnt := SMap.set (fun _ => 0) e.crvCnt n (wd (34 + n)).toNat })) s

/-- The comparators and timers of a cluster's section. -/
def State.cmpTake (s : State) (c : Nat) (wd : Nat → Word) : State :=
  (List.range 64).foldl (fun (t : State) n => (t.wr (Reg.CMP_ST c n) (wd (66 + n))).tmrTake c n (wd (130 + n))) s

/-- A copy region of a cluster's section, at the word the regions before it end. -/
def copyTake (c : Nat) (wd : Nat → Word) (p : State × Nat) (x : Nat × Nat) : State × Nat :=
  ((List.range (x.2 / 4)).foldl (fun (t : State) k => t.wrMem c (dmemKey c (x.1 + 4 * k)) (wd (p.2 + k))) p.1, p.2 + x.2 / 4)

theorem crvTake_postings (wd : Nat → Word) : KeepsPostings s (s.crvTake c wd) := by
  unfold State.crvTake
  exact (KeepsPostings.refl s).foldl fun u n hu => (hu.of_agree (State.wr_ag _ _ _) (by decide)).elemMod c (fun _ => rfl)

theorem cmpTake_postings (wd : Nat → Word) : KeepsPostings s (s.cmpTake c wd) := by
  unfold State.cmpTake
  exact (KeepsPostings.refl s).foldl fun u n hu => (hu.of_agree (State.wr_ag _ _ _) (by decide)).trans (tmrTake_postings _ c n _)

theorem copyTake_postings (wd : Nat → Word) (p : State × Nat) (x : Nat × Nat) : KeepsPostings p.1 (copyTake c wd p x).1 := by
  unfold copyTake
  exact (KeepsPostings.refl p.1).foldl fun u k hu => hu.wrMem c _ _

/-- The section of a cluster in a STATE frame holds integrals, timers and memory words, and nothing that is posted (R534, R536). -/
theorem clApply_postings (b : Bytes) : KeepsPostings s (s.clApply c b) := by
  have hbit : ∀ x, KeepsPostings s (s.putBit Reg.PAIR_NOSYNC c x) := fun x => (KeepsPostings.refl s).of_agree (s.putBit_ag _ _ _) (by decide)
  unfold State.clApply
  extract_lets wd
  clear_value wd
  split
  · exact hbit true
  · next i _ =>
    refine KeepsPostings.ite (fun _ => hbit true) (fun _ => ?_)
    change KeepsPostings s (i.copies.foldl (copyTake c wd) ((((s.putBit Reg.PAIR_NOSYNC c false).crvTake c wd).cmpTake c wd), 194)).1
    have hhead := ((hbit false).trans (crvTake_postings _ c wd)).trans (cmpTake_postings _ c wd)
    exact List.foldlRecOn (motive := fun p : State × Nat => KeepsPostings s p.1) _ _ hhead
      (fun p hp x _ => hp.trans (copyTake_postings c wd p x))

theorem stateClusters_postings (f : PairState) : KeepsPostings s (s.stateClusters f).1 := by
  unfold State.stateClusters
  refine List.foldlRecOn (motive := fun p : State × Nat × List Nat => KeepsPostings s p.1) _ _ ?_ (fun p hp k _ => ?_)
  · exact (KeepsPostings.refl s).of_agree (s.wr_ag _ _) (by decide)
  · unfold clApplyAt
    split
    · exact hp.trans (clApply_postings _ k _)
    · exact hp

theorem stateApply_postings (f : PairState) : KeepsPostings s (s.stateApply f) := by
  have h : KeepsPostings s (((s.stateNo (frameWord f.bytes 1).toNat).stateLines f.bytes).stateSlots f.bytes) :=
    (((KeepsPostings.refl s).of_agree (State.stateNo_ag _ _) (by decide)).of_agree (State.stateLines_ag _ _) (by decide)).of_agree
      (State.stateSlots_ag _ _) (by decide)
  unfold State.stateApply pagesAfter
  exact (h.trans (stateClusters_postings _ f)).of_agree (State.statePages_ag _ _ _) (by decide)

theorem stateJudge_postings : KeepsPostings s s.stateJudge := by
  have hdrop : ∀ (u : State) r i l, KeepsPostings s u → KeepsPostings s (u.stateDiscard r i l).syncShow := fun u r i l hu =>
    (hu.of_agree (State.stateDiscard_ag _ _ _ _) (by decide)).of_agree (State.syncShow_ag _) (by decide)
  unfold State.stateJudge
  split
  · exact KeepsPostings.refl s
  · next f reason _ =>
    have h := (KeepsPostings.refl s).of_agree (s.pairMod_ag (fun p => { p with rx := none })) (by decide)
    refine KeepsPostings.ite (fun _ => h) (fun _ => KeepsPostings.ite (fun _ => hdrop _ _ _ _ h) (fun _ =>
      KeepsPostings.ite (fun _ => hdrop _ _ _ _ h) (fun _ => KeepsPostings.ite (fun _ => hdrop _ _ _ _ h) (fun _ => ?_))))
    exact ((((h.trans (stateApply_postings _ f)).of_agree (State.count_ag _ _ _ _ _) (by decide)).of_agree (State.pairMod_ag _ _)
      (by decide)).of_agree (State.put_ag _ _ _ _ _) (by decide)).of_agree (State.syncShow_ag _) (by decide)

theorem pairDeadline_postings : KeepsPostings s s.pairDeadline := by
  have h : KeepsPostings s (s.pairMod (fun p => { p with hbRuns := true, hbOut := !p.hbOut })).stateJudge.deadlineAsk :=
    (((KeepsPostings.refl s).of_agree (s.pairMod_ag _) (by decide)).trans (stateJudge_postings _)).of_agree (State.deadlineAsk_ag _) (by decide)
  unfold State.pairDeadline
  refine KeepsPostings.ite (fun _ => KeepsPostings.refl s) (fun _ => KeepsPostings.ite (fun _ => h) (fun _ => ?_))
  refine KeepsPostings.ite (fun _ => KeepsPostings.of_agree ?_ (State.stateSend_ag _) (by decide)) (fun _ => ?_)
  all_goals exact (h.of_agree (State.pairMod_ag _ _) (by decide)).of_agree (State.pairSent_ag _) (by decide)

theorem ownDeadline_postings : KeepsPostings s s.ownDeadline := by
  unfold State.ownDeadline
  exact (pairDeadline_postings s).foldl fun u c hu => KeepsPostings.ite (fun _ => hu.trans (coreSections_postings u c)) (fun _ => hu)

end

/-! ### A deadline that is met, and an overrun (R59, R69 to R72) -/

section
variable (s : State) (c : Nat)

/-- The cycle of a program that met its deadline is shown, and the run of overruns has ended. -/
def State.cycleShown (s : State) (c : Nat) : State :=
  let cyc := (s.core c).endCyc
  let s := s.put (Reg.CYC_LAST c) 16 0 cyc
  let s := if s.fld (Reg.CYC_MAX c) 16 0 < cyc then s.put (Reg.CYC_MAX c) 16 0 cyc else s
  s.put (Reg.OVR_STAT c) 23 16 0

theorem cycleShown_ag : Agree 1 s (s.cycleShown c) := by
  unfold State.cycleShown
  refine Agree.then (Agree.ite (fun _ => Agree.then ?_ (State.put_ag _ _ _ _ _) (by decide)) (fun _ => ?_)) (State.put_ag _ _ _ _ _) (by decide)
  all_goals exact s.put_ag _ _ _ _

/-- The freeze of a cluster stands while its cycle is shown. -/
theorem bit_cycleShown_fault : (s.cycleShown c).bit (Reg.OVR_STAT c) 0 = s.bit (Reg.OVR_STAT c) 0 := by
  have hlast : Reg.CYC_LAST c ≠ Reg.OVR_STAT c := by unfold Reg.CYC_LAST Reg.OVR_STAT; omega
  have hmax : Reg.CYC_MAX c ≠ Reg.OVR_STAT c := by unfold Reg.CYC_MAX Reg.OVR_STAT; omega
  unfold State.cycleShown State.bit
  dsimp only
  rw [State.rd_put, if_pos rfl, bitAt_putField _ _ _ _ _ (by decide) (by decide), if_neg (by decide)]
  split
  · rw [State.rd_put, if_neg hmax, State.rd_put, if_neg hlast]
  · rw [State.rd_put, if_neg hlast]

theorem raiseRecs_ag (l : List TRec) : Agree 24577 s (l.foldl (fun t r => t.raiseRec r) s) :=
  (Agree.refl _ s).foldl (fun u r hu => hu.then (u.raiseRec_ag r) (by decide))

/-- A core that met the tick posts what it staged; a frozen cluster posts the request 0 (R59, R70, R72). -/
theorem tickMet_posting : ((s.tickMet c).elem c).posting =
    (if s.bit (Reg.OVR_STAT c) 0 then 0 else (s.elem c).req, (s.elem c).sflags, false) := by
  have he := (cycleShown_ag s c).elem c (by decide)
  rw [← bit_cycleShown_fault s c, ← he]
  have hform : ∃ f : ElemU → ElemU, (f ((s.cycleShown c).elem c)).posting =
      (if (s.cycleShown c).bit (Reg.OVR_STAT c) 0 then 0 else ((s.cycleShown c).elem c).req, ((s.cycleShown c).elem c).sflags, false) ∧
      s.tickMet c = ((s.cycleShown c).elem c).evts.foldl (fun t r => t.raiseRec r)
        (((s.cycleShown c).elemMod c f).put (Reg.EVT_STAT c) 3 0 ((s.cycleShown c).elem c).evts.length) := ⟨_, rfl, rfl⟩
  obtain ⟨f, hf, hmet⟩ := hform
  rw [hmet, (raiseRecs_ag _ _).elem _ (by decide), (State.put_ag _ _ _ _ _).elem _ (by decide), elem_elemMod, if_pos rfl, hf]

/-- An overrun as it is shown and counted. -/
def State.overrunShown (s : State) (c : Nat) (late : Bool) : State :=
  let s := (s.put (Reg.CYC_LAST c) 16 0 0x1FFFF).count (Reg.OVR_CNT c) 31 0 1
  ((s.count (Reg.OVR_STAT c) 23 16 1).putBit (Reg.OVR_STAT c) 1 true).putBit (Reg.OVR_STAT c) 2 (s.bit (Reg.OVR_STAT c) 2 || late)

/-- An overrun as it is noted and recorded, before the limit is looked at; `dropped` events are lost with it. -/
def State.overrunNoted (s : State) (c dropped : Nat) (late : Bool) : State :=
  let s := (s.elemMod c (fun e => { e with prevOvr := true })).put (Reg.EVT_STAT c) 3 0 0
  (s.irq c).log 0x140 c (s.fld (Reg.OVR_STAT c) 23 16 * 65536 + s.tick.idx) (dropped * 65536 + b2n late)

theorem overrunShown_ag (late : Bool) : Agree 1 s (s.overrunShown c late) := by
  unfold State.overrunShown
  exact ((((s.put_ag _ _ _ _).then (State.count_ag _ _ _ _ _) (by decide)).then (State.count_ag _ _ _ _ _) (by decide)).then
    (State.putBit_ag _ _ _ _) (by decide)).then (State.putBit_ag _ _ _ _) (by decide)

theorem overrunNoted_elem (dropped : Nat) (late : Bool) : (s.overrunNoted c dropped late).elem c = { s.elem c with prevOvr := true } := by
  unfold State.overrunNoted
  rw [(State.log_ag _ _ _ _ _).elem _ (by decide), (State.irq_ag _ _).elem _ (by decide), (State.put_ag _ _ _ _ _).elem _ (by decide),
    elem_elemMod, if_pos rfl]

/-- An overrun leaves what was posted, or freezes the cluster with the request 0 (R69 to R71). -/
theorem overrun_posting (late : Bool) : ∃ p, ((s.overrun c late).elem c).posting = (p, (s.elem c).flags, true) ∧
    (p = (s.elem c).posted ∨ p = 0) := by
  let u := (s.overrunShown c late).overrunNoted c (s.elem c).evts.length late
  have hu : u.elem c = { s.elem c with prevOvr := true } := by
    rw [overrunNoted_elem, (overrunShown_ag s c late).elem _ (by decide)]
  have hform : ∃ (l : Prop) (_ : Decidable l) (no p0 p1 : Nat), s.overrun c late =
      if l then (((u.elemMod c (fun e => { e with posted := 0, postTick := no })).putBit (Reg.OVR_STAT c) 0 true).irq c).log 0x141 c p0 p1
      else u := ⟨_, _, _, _, _, rfl⟩
  obtain ⟨l, _, no, p0, p1, he⟩ := hform
  rw [he]
  split
  · refine ⟨0, ?_, .inr rfl⟩
    rw [(State.log_ag _ _ _ _ _).elem _ (by decide), (State.irq_ag _ _).elem _ (by decide), (State.putBit_ag _ _ _ _).elem _ (by decide),
      elem_elemMod, if_pos rfl, hu]
    rfl
  · refine ⟨(s.elem c).posted, ?_, .inl rfl⟩
    rw [hu]
    rfl

/-- What a running core's deadline does: met or not, its program is over, and the timers are stepped. -/
theorem coreDeadline_running (h : s.coreStopped c = false) : s.coreDeadline c =
    ((if (decide ((s.core c).run = .ended) && !s.late.contains (c / 4)) then s.tickMet c else s.overrun c (s.late.contains (c / 4))).coreMod c
      (fun k => { k with run := .idle })).tmrDeadline c := by
  unfold State.coreDeadline
  rw [if_neg (by simp [h])]

theorem core_coreDeadline (h : s.coreStopped c = false) : ((s.coreDeadline c).core c).run = .idle := by
  rw [coreDeadline_running s c h, (State.tmrDeadline_ag _ _).core _ (by decide), State.core_coreMod, if_pos rfl]

theorem coreDeadline_met (h : s.coreStopped c = false) (hr : (s.core c).run = .ended) (hl : s.late.contains (c / 4) = false) :
    ((s.coreDeadline c).elem c).posting = (if s.bit (Reg.OVR_STAT c) 0 then 0 else (s.elem c).req, (s.elem c).sflags, false) := by
  rw [coreDeadline_running s c h, tmrDeadline_postings, if_pos (by simp only [hr, hl]; decide)]
  exact (congrArg ElemU.posting ((State.coreMod_ag _ _ _).elem _ (by decide))).trans (tickMet_posting s c)

theorem coreDeadline_overrun (h : s.coreStopped c = false) (ho : (s.core c).run ≠ .ended ∨ s.late.contains (c / 4) = true) :
    ∃ p, ((s.coreDeadline c).elem c).posting = (p, (s.elem c).flags, true) ∧ (p = (s.elem c).posted ∨ p = 0) := by
  have hno : ¬ (decide ((s.core c).run = .ended) && !s.late.contains (c / 4)) = true := by
    intro hm
    obtain ⟨hend, hlate⟩ := Bool.and_eq_true_iff.mp hm
    rcases ho with h | h
    · exact h (of_decide_eq_true hend)
    · rw [h] at hlate
      exact absurd hlate (by decide)
  obtain ⟨p, hp, ho⟩ := overrun_posting s c (s.late.contains (c / 4))
  refine ⟨p, ?_, ho⟩
  rw [coreDeadline_running s c h, tmrDeadline_postings, if_neg hno]
  exact (congrArg ElemU.posting ((State.coreMod_ag _ _ _).elem _ (by decide))).trans hp

/-! ### The deadline behind the core's: trip lines and the package's own deadline -/

/-- The trip lines evaluate on what was posted; behind the last cluster's deadline follows the package's own (R59, R521). -/
def State.deadlineEnd (s : State) : State :=
  let s := s.tlStep
  let s := s.tickMod (fun t => { t with energ := (s.rd Reg.TL_ENERG_LO, s.rd Reg.TL_ENERG_HI) })
  if s.deadlinesLeft then s else s.ownDeadline

theorem deadlineEnd_ag : Agree 70697443811849 s s.deadlineEnd := by
  unfold State.deadlineEnd
  refine Agree.ite (fun _ => ?_) (fun _ => Agree.then ?_ (State.ownDeadline_ag _) (by decide))
  all_goals exact (s.tlStep_ag.mono (by decide)).then (State.tickMod_ag _ _) (by decide)

theorem deadlineEnd_postings : KeepsPostings s s.deadlineEnd := by
  unfold State.deadlineEnd
  refine KeepsPostings.ite (fun _ => ?_) (fun _ => KeepsPostings.trans ?_ (ownDeadline_postings _))
  all_goals exact ((KeepsPostings.refl s).of_agree s.tlStep_ag (by decide)).of_agree (State.tickMod_ag _ _) (by decide)

theorem elementDeadline_eq (hp : s.clPhase c = .element) : s.elementDeadline c = ((s.coreDeadline c).setPhase c .exit).deadlineEnd := by
  unfold State.elementDeadline
  rw [if_neg (by simp [hp])]
  rfl

/-- What the deadline of a running core leaves, whether it was met or not. -/
theorem elementDeadline_shows (hp : s.clPhase c = .element) (hs : s.coreStopped c = false) :
    (s.elementDeadline c).clPhase c = .exit ∧ ((s.elementDeadline c).core c).run = .idle ∧ (s.elementDeadline c).mram = s.mram ∧
    ((s.elementDeadline c).elem c).posting = ((s.coreDeadline c).elem c).posting := by
  have hag := deadlineEnd_ag ((s.coreDeadline c).setPhase c .exit)
  refine ⟨?_, ?_, (s.elementDeadline_ag c).mram (by decide), ?_⟩ <;> rw [elementDeadline_eq s c hp]
  · rw [hag.clPhase _ (by decide), State.clPhase_setPhase, if_pos rfl]
  · rw [hag.core _ (by decide), State.core_setPhase, core_coreDeadline s c hs]
  · exact deadlineEnd_postings _ c

end

/-! ### The freeze of a cluster and its limit (R73, R627) -/

section
variable (s : State) (c : Nat)

theorem faultLift_eq (hc : (s.elem c).clearReq = true) (hp : s.clPhase c = .entry) : s.faultLift c =
    (((s.elemMod c (fun e => { e with clearReq := false })).putBit (Reg.OVR_STAT c) 0 false).put (Reg.OVR_STAT c) 23 16 0).log 0x142 c
      s.tick.idx 0 := by
  unfold State.faultLift
  exact if_pos (by simp [hc, hp])

/-- The lifting of a freeze (R73). -/
theorem faultLift_shows (hc : (s.elem c).clearReq = true) (hp : s.clPhase c = .entry) :
    (s.faultLift c).bit (Reg.OVR_STAT c) 0 = false ∧ (s.faultLift c).fld (Reg.OVR_STAT c) 23 16 = 0 ∧
    ((s.faultLift c).elem c).clearReq = false := by
  have hk : Reg.OVR_STAT c < 0xC000 ∨ 0x10000 ≤ Reg.OVR_STAT c := by unfold Reg.OVR_STAT; omega
  rw [faultLift_eq s c hc hp]
  refine ⟨?_, ?_, ?_⟩
  · rw [State.bit_log _ _ _ _ _ _ _ hk]
    unfold State.bit
    rw [State.rd_put, if_pos rfl, bitAt_putField _ _ _ _ _ (by decide) (by decide), if_neg (by decide)]
    exact (State.bit_putBit _ _ _ _ _ _ (by decide)).trans (if_pos ⟨rfl, rfl⟩)
  · unfold State.fld
    rw [State.rd_log _ _ _ _ _ _ hk]
    exact State.fld_put_same _ _ _ _ _ (by decide) (by decide)
  · rw [(State.log_ag _ _ _ _ _).elem _ (by decide), (State.put_ag _ _ _ _ _).elem _ (by decide), (State.putBit_ag _ _ _ _).elem _ (by decide),
      elem_elemMod, if_pos rfl]

/-- The row of OVR_CFG: LIMIT is a plain read-write field. -/
theorem regRow_ovrCfg (c : Fin 16) : (regRow (Reg.OVR_CFG c.val)).map (fun r => (r.rw, r.w1c, r.w1s)) = some (0xFF, 0, 0) := by
  revert c
  decide +kernel

/-- A normal write of a register whose one field is its low byte, read-write (R5). -/
theorem field_write_lowByte (r : RegRow) (old v : Word) (hr : r.rw = 0xFF ∧ r.w1c = 0 ∧ r.w1s = 0) : field (r.write old v) 7 0 = field v 7 0 := by
  obtain ⟨hrw, hw1c, hw1s⟩ := hr
  refine Nat.eq_of_testBit_eq fun i => ?_
  rw [testBit_field, testBit_field]
  by_cases hi : i < 8
  · have h32 : i < 32 := by omega
    have hm : Nat.testBit 255 i = true := by rw [show 255 = 2 ^ 8 - 1 from rfl, Nat.testBit_two_pow_sub_one]; simpa using hi
    simp only [RegRow.write, bitAt, hrw, hw1c, hw1s, BitVec.getLsbD_or, BitVec.getLsbD_and, BitVec.getLsbD_not, BitVec.getLsbD_ofNat, hm,
      Nat.zero_testBit, Nat.zero_add]
    simp [hi, h32]
  · simp [hi]

theorem ovrCfgWrite_taken (c : Fin 16) (v : Word) (h : field v 7 0 ≠ 0) :
    ∃ w, s.ovrCfgWrite c.val v = s.wr (Reg.OVR_CFG c.val) w ∧ field w 7 0 = field v 7 0 := by
  obtain ⟨r, hr, hf⟩ := Option.map_eq_some_iff.mp (regRow_ovrCfg c)
  simp only [Prod.mk.injEq] at hf
  refine ⟨r.write (s.rd (Reg.OVR_CFG c.val)) v, ?_, field_write_lowByte r _ v hf⟩
  unfold State.ovrCfgWrite State.regWrite
  rw [if_neg h, hr]

theorem ovrCfgWrite_refused (v : Word) (h : field v 7 0 = 0) : (s.ovrCfgWrite c v).rd (Reg.OVR_CFG c) = s.rd (Reg.OVR_CFG c) := by
  have hne : Reg.CORE_STAT c ≠ Reg.OVR_CFG c := by unfold Reg.CORE_STAT Reg.OVR_CFG; omega
  unfold State.ovrCfgWrite
  rw [if_pos h]
  exact State.rd_putBit_ne _ _ _ _ _ hne

end

theorem Agree.eq_elems {s t : State} (h : Agree 2147483648 s t) : t = { s with elems := t.elems } := h.eq_overlay

/-- Settles O32: a deadline posts what the core staged or notes the overrun, and nothing that follows it in the deadline changes a posting,
neither the trip lines nor the package's own deadline, so that which clusters still have theirs to come does not matter. -/
theorem deadlinePostAndFaultLifting : Obligations.DeadlinePostAndFaultLifting := by
  unfold Obligations.DeadlinePostAndFaultLifting
  refine ⟨fun s c hp hs _ => ⟨fun hr hl => ?_, fun ho => ?_⟩,
    fun s c v => ⟨fun hb => ?_, fun hb => ?_, fun hc hp => ?_, fun hv => ?_, fun hv => ?_⟩⟩
  · obtain ⟨hphase, hrun, hmram, hpost⟩ := elementDeadline_shows s c.val hp hs
    obtain ⟨hposted, hflags, hprev⟩ := ElemU.posting_eq (hpost.trans (coreDeadline_met s c.val hs hr hl))
    exact ⟨s.elementDeadline c.val, rfl, hphase, hposted, hflags, hprev, hrun, hmram⟩
  · obtain ⟨hphase, hrun, hmram, hpost⟩ := elementDeadline_shows s c.val hp hs
    obtain ⟨p, hover, hor⟩ := coreDeadline_overrun s c.val hs ho
    obtain ⟨hposted, hflags, hprev⟩ := ElemU.posting_eq (hpost.trans hover)
    exact ⟨s.elementDeadline c.val, rfl, hphase, hflags, hprev, hposted ▸ hor, hrun, hmram⟩
  · have he : s.faultClear c.val = s.elemMod c.val (fun e => { e with clearReq := true }) := if_pos hb
    have hag := s.faultClear_ag c.val
    refine ⟨s.faultClear c.val, rfl, ?_, hag.regs (by decide), hag.eq_elems⟩
    rw [he, elem_elemMod, if_pos rfl]
  · exact congrArg Host.Outcome.next (if_neg (by simp [hb]))
  · obtain ⟨hbit, hfld, hreq⟩ := faultLift_shows s c.val hc hp
    exact ⟨s.faultLift c.val, rfl, hbit, hfld, hreq, (s.faultLift_ag c.val).cores (by decide)⟩
  · obtain ⟨w, he, hw⟩ := ovrCfgWrite_taken s c v hv
    refine ⟨s.ovrCfgWrite c.val v, rfl, ?_, fun a ha => ?_, (s.ovrCfgWrite_ag c.val v).eq_regs⟩
    · rw [he]
      unfold State.fld
      rw [State.rd_wr, if_pos rfl, hw]
    · rw [he, State.rd_wr, if_neg (Ne.symm ha)]
  · exact ⟨s.ovrCfgWrite c.val v, rfl, ovrCfgWrite_refused s c.val v hv⟩

end Sys2Proof.Machine
end

section
/-!
What a lane's calibration remembers of the stitch samples before it is switched on (chapter 03, R98, R100).
-/
namespace Sys2Proof

/-! ### The newest pairs (y_F, e) of a lane -/

theorem CalWin.seen_ne_nil (w : CalWin) (yf yc : Int) : w.seen yf yc ≠ [] := by
  unfold CalWin.seen
  simp

/-- A stitch sample leaves its pair, within a window or as the first of the next one. -/
theorem Lane.prev_calStep_ne_nil (l : Lane) (w : Nat) (yf yc : Int) (ok : Bool) : (l.calStep w yf yc ok).cal.prev ≠ [] := by
  unfold Lane.calStep
  split <;> exact CalWin.seen_ne_nil _ _ _

end Sys2Proof

namespace Sys2Proof.Machine
open Sys2Proof

/-! ### A stitch sample -/

section
variable (s : State) (ch : Nat)

theorem lane_putBit (a i : Nat) (b : Bool) (k : Nat) : (s.putBit a i b).lane k = s.lane k := State.lane_wr _ _ _ _

theorem lane_count (a hi lo n k : Nat) : (s.count a hi lo n).lane k = s.lane k := State.lane_wr _ _ _ _

theorem lane_when {f : State → State} (b : Bool) (k : Nat) (h : (f s).lane k = s.lane k) : (when b f s).lane k = s.lane k := by
  cases b
  · rfl
  · exact h

/-- A stitch sample that is due leaves its pair, whether or not the lane's calibration runs. -/
theorem prev_stitch_ne_nil (h : (chainCfg (s.rd (kCFG ch))).p * (s.lane ch).stN + 32 < (s.lane ch).per) :
    ((s.stitch ch).lane ch).cal.prev ≠ [] := by
  unfold State.stitch
  extract_lets l c n kern span smp st xc2 gc oc yc yf sat up dn w l0
  rw [if_neg (Nat.not_le.mpr h)]
  obtain ⟨useC, co, hold⟩ := rangeSelect l.modeNow l.coarse l.hcount (s.fld (kSTC ch) 31 16) up dn smp.fineOvl
  dsimp -zeta only
  extract_lets y calOk l1 s1 s2 s3 s4 s5
  have hl1 : l1.cal.prev ≠ [] := by
    unfold l1
    split
    · exact Lane.prev_calStep_ne_nil _ _ _ _ _
    · exact CalWin.seen_ne_nil _ _ _
  have hs : s5.lane ch = s1.lane ch :=
    calc s5.lane ch = s4.lane ch := lane_when _ _ _ (lane_putBit _ _ _ _ _)
      _ = s3.lane ch := lane_when _ _ _ (lane_putBit _ _ _ _ _)
      _ = s2.lane ch := lane_putBit _ _ _ _ _
      _ = s1.lane ch := lane_when _ _ _ (lane_count _ _ _ _ _ _)
  rw [lane_putBit, hs, State.lane_setLane, if_pos rfl]
  exact hl1

end

/-! ### The calibration is switched off and on -/

section
variable (s : State) (ch : Nat) (v : Word)

theorem calCfgWrite_of_off (hv : bitAt v 0 = false) : s.calCfgWrite ch v = s.wr (kCAL ch) (v &&& 0xFFFF1FF1) := by
  unfold State.calCfgWrite
  simp [hv]

/-- EN from 0 to 1 begins a window without samples, but the newest pairs stay, for D of its first sample (R98, R100). -/
theorem cal_calCfgWrite_enabled (hs : s.bit (kCAL ch) 0 = false) (hv : bitAt v 0 = true) :
    ((s.calCfgWrite ch v).lane ch).cal = { CalWin.init with prev := (s.lane ch).cal.prev } := by
  unfold State.calCfgWrite
  simp only [hs, hv, Bool.not_false, Bool.true_and, if_true]
  unfold State.laneMod
  rw [State.lane_setLane, if_pos rfl, lane_putBit, State.lane_wr]
  rfl

/-- The window after EN goes from 0 to 1 is the one of a reset only where the lane remembers no stitch sample. -/
theorem cal_calCfgWrite_eq_init (hs : s.bit (kCAL ch) 0 = false) (hv : bitAt v 0 = true) :
    ((s.calCfgWrite ch v).lane ch).cal = CalWin.init ↔ (s.lane ch).cal.prev = [] := by
  rw [cal_calCfgWrite_enabled s ch v hs hv]
  exact ⟨congrArg CalWin.prev, fun h => by rw [h]; rfl⟩

end

/-! ### The counterexample -/

/-- The device after its reset, with the modulator periods of lane 0 in that its first stitch sample needs. -/
def firstSampleDue : State := State.reset.setLane 0 { Lane.init with per := 33 }

/-- The lane has formed its first stitch sample, then CAL_CFG.EN has been written 0. -/
def calSwitchedOff : State := (firstSampleDue.stitch 0).calCfgWrite 0 0

theorem bit_calSwitchedOff : calSwitchedOff.bit (kCAL 0) 0 = false := by
  unfold calSwitchedOff State.bit
  rw [calCfgWrite_of_off _ _ _ (by decide), State.rd_wr, if_pos rfl]
  decide

theorem prev_calSwitchedOff_ne_nil : (calSwitchedOff.lane 0).cal.prev ≠ [] := by
  unfold calSwitchedOff
  rw [calCfgWrite_of_off _ _ _ (by decide), State.lane_wr]
  exact prev_stitch_ne_nil _ _ (by decide +kernel)

/-- Refutes O33: a write of CAL_CFG that sets EN from 0 to 1 is said to leave the window as at a reset, but the pair (y_F, e) of the lane's newest
stitch sample stays in it, for D of the window's first sample (R98). The lane here forms one stitch sample after the reset, and its
calibration is then switched off and on (R100). -/
theorem not_afeClockAndStitcher : ¬ Obligations.AfeClockAndStitcher := by
  unfold Obligations.AfeClockAndStitcher
  rintro ⟨-, h⟩
  obtain ⟨-, -, -, -, -, ⟨t, ht, -, henabled, -⟩, -⟩ := h calSwitchedOff 0 1
  obtain rfl : calSwitchedOff.calCfgWrite 0 1 = t := Host.Outcome.next.inj ht
  obtain ⟨-, hcal, -⟩ := henabled bit_calSwitchedOff (by decide)
  exact prev_calSwitchedOff_ne_nil ((cal_calCfgWrite_eq_init calSwitchedOff 0 1 bit_calSwitchedOff (by decide)).mp hcal)

end Sys2Proof.Machine
end

section
/-!
The encoding of the Walso instruction words: the fields of a word, and that decoding and encoding undo each other (R167, R192, R193, R300).
-/
namespace Sys2Proof

section
variable (op : Nat) (pn : Bool) (ps : Fin 8) (low : BitVec 22)

/-- The 22 bits below the predicate field of a word (R167). -/
theorem extractLsb'_wEnc {start len : Nat} (h : start + len ≤ 22) : (wEnc op pn ps low).extractLsb' start len = low.extractLsb' start len := by
  unfold wEnc
  rw [BitVec.extractLsb'_append_eq_of_add_le (by omega), BitVec.extractLsb'_append_eq_of_add_le (by omega),
    BitVec.extractLsb'_append_eq_of_add_le h]

theorem getLsbD_wEnc {i : Nat} (h : i < 22) : (wEnc op pn ps low).getLsbD i = low.getLsbD i := by
  unfold wEnc
  rw [BitVec.getLsbD_append, if_pos (by omega), BitVec.getLsbD_append, if_pos (by omega), BitVec.getLsbD_append, if_pos h]

theorem getLsbD_wEnc_pn : (wEnc op pn ps low).getLsbD 25 = pn := by
  unfold wEnc
  rw [BitVec.getLsbD_append, if_pos (by decide), BitVec.getLsbD_append, if_neg (by decide)]
  simp

theorem extractLsb'_wEnc_ps : (wEnc op pn ps low).extractLsb' 22 3 = BitVec.ofNat 3 ps.val := by
  unfold wEnc
  rw [BitVec.extractLsb'_append_eq_of_add_le (by decide), BitVec.extractLsb'_append_eq_of_add_le (by decide),
    BitVec.extractLsb'_append_eq_of_le (by decide)]
  exact BitVec.extractLsb'_eq_self

theorem ofNat_wEnc_ps : Fin.ofNat 8 ((wEnc op pn ps low).extractLsb' 22 3).toNat = ps := by
  rw [extractLsb'_wEnc_ps]
  simp

theorem field_eq_toNat_extractLsb' (w : Word) (hi lo : Nat) : field w hi lo = (w.extractLsb' lo (hi - lo + 1)).toNat := by
  unfold field
  rw [BitVec.extractLsb'_toNat, Nat.shiftRight_eq_div_pow]

theorem wOp_wEnc : wOp (wEnc op pn ps low) = op % 64 := by
  unfold wOp wEnc
  rw [field_eq_toNat_extractLsb', BitVec.extractLsb'_append_eq_of_le (by decide)]
  simp

end

/-- The first of two fields. -/
theorem extractLsb'_append_high {m n : Nat} (x : BitVec m) (y : BitVec n) : (x ++ y).extractLsb' n m = x := by
  rw [BitVec.extractLsb'_append_eq_of_le (Nat.le_refl n), Nat.sub_self, BitVec.extractLsb'_eq_self]

theorem getLsbD_append_high {n : Nat} (b : Bool) (y : BitVec n) : (BitVec.ofBool b ++ y).getLsbD n = b := by
  rw [BitVec.getLsbD_append, if_neg (Nat.lt_irrefl n), Nat.sub_self, BitVec.getLsbD_ofBool]
  rfl

theorem getLsbD_append_low {m n i : Nat} (x : BitVec m) (y : BitVec n) (h : i < n) : (x ++ y).getLsbD i = y.getLsbD i := by
  rw [BitVec.getLsbD_append, if_pos h]

/-- Decoding by opcode and operation field finds the instruction whose word it is given. -/
theorem walsoLegal_of_walsoWord {i : Instr} {k : CoreId} {w : Word} (h : i.walsoWord = some (k, w)) : walsoLegal k w = some i := by
  cases i <;> cases h <;>
    simp (disch := omega) only [walsoLegal, wOp_wEnc, getLsbD_wEnc, getLsbD_wEnc_pn, extractLsb'_wEnc, ofNat_wEnc_ps,
      BitVec.extractLsb'_append_eq_of_add_le, extractLsb'_append_high, BitVec.extractLsb'_eq_self, getLsbD_append_low, getLsbD_append_high,
      Nat.reduceMod, BitVec.toNat_ofNat]

/-! ### The word of what a word decodes to -/

theorem wFields_of_legal {p : Prof} {w : Word} (h : wCause p w = none) : wFields p w = true := by
  by_contra hf
  simp [wCause, hf] at h
  split_ifs at h

/-- The special-register reads have four function codes (R200). -/
theorem wFn_of_wFields {p : Prof} {w : Word} (h : wFields p w = true) (hop : wOp w = 0x0E) : wFn w ≤ 3 := by
  simp [wFields, hop] at h
  omega

theorem function_cases {p : Prof} {w : Word} (h : wFields p w = true) (hop : wOp w = 0x0E) :
    w.extractLsb' 0 7 = 0#7 ∨ w.extractLsb' 0 7 = 1#7 ∨ w.extractLsb' 0 7 = 2#7 ∨ w.extractLsb' 0 7 = 3#7 := by
  have hfn := wFn_of_wFields h hop
  rw [wFn, field_eq_toNat_extractLsb'] at hfn
  change (w.extractLsb' 0 7).toNat ≤ 3 at hfn
  bv_omega

/-- The operation fields of two bits that have three codes (R224, R235, R303). -/
theorem operation_of_wFields {p : Prof} {w : Word} {hi lo : Nat} (h : wFields p w = true)
    (hop : (wOp w, hi, lo) ∈ [(0x2B, 16, 15), (0x2D, 11, 10), (0x3C, 6, 5), (0x3D, 5, 4), (0x3E, 5, 4)]) : field w hi lo ≠ 3 := by
  simp only [List.mem_cons, List.not_mem_nil, or_false, Prod.mk.injEq] at hop
  rcases hop with ⟨hop, rfl, rfl⟩ | ⟨hop, rfl, rfl⟩ | ⟨hop, rfl, rfl⟩ | ⟨hop, rfl, rfl⟩ | ⟨hop, rfl, rfl⟩ <;> simp [wFields, hop] at h <;> tauto

theorem two_bit_cases (x : BitVec 2) : x = 0#2 ∨ x = 1#2 ∨ x = 2#2 ∨ x = 3#2 := by
  revert x
  decide

theorem operation_cases {p : Prof} {w : Word} (lo : Nat) (h : wFields p w = true)
    (hop : (wOp w, lo + 1, lo) ∈ [(0x2B, 16, 15), (0x2D, 11, 10), (0x3C, 6, 5), (0x3D, 5, 4), (0x3E, 5, 4)]) :
    w.extractLsb' lo 2 = 0#2 ∨ w.extractLsb' lo 2 = 1#2 ∨ w.extractLsb' lo 2 = 2#2 := by
  have h3 := operation_of_wFields h hop
  rw [field_eq_toNat_extractLsb', Nat.add_sub_cancel_left] at h3
  rcases two_bit_cases (w.extractLsb' lo 2) with hc | hc | hc | hc
  · exact .inl hc
  · exact .inr (.inl hc)
  · exact .inr (.inr hc)
  · exact absurd (congrArg BitVec.toNat hc) h3

theorem ofBool_getLsbD (w : Word) (i : Nat) : BitVec.ofBool (w.getLsbD i) = w.extractLsb' i 1 := by
  refine BitVec.eq_of_getLsbD_eq fun j hj => ?_
  have : j = 0 := by omega
  subst this
  simp

/-- The opcode, the predicate field and the 22 bits below it make up the word. -/
theorem wEnc_fields (w : Word) : wEnc (wOp w) (w.getLsbD 25) (Fin.ofNat 8 (w.extractLsb' 22 3).toNat) (w.extractLsb' 0 22) = w := by
  have hop : BitVec.ofNat 6 (wOp w) = w.extractLsb' 26 6 := by
    unfold wOp
    rw [field_eq_toNat_extractLsb']
    exact BitVec.ofNat_toNat _ _
  have hps : BitVec.ofNat 3 (Fin.ofNat 8 (w.extractLsb' 22 3).toNat).val = w.extractLsb' 22 3 := by
    refine BitVec.eq_of_toNat_eq ?_
    simp [Fin.ofNat]
  unfold wEnc
  rw [hop, hps, ofBool_getLsbD]
  simp (disch := omega) only [BitVec.extractLsb'_append_extractLsb'_eq_extractLsb']
  exact BitVec.extractLsb'_eq_self

/-- A word of a known opcode whose 22 bits have been put together again. -/
theorem word_of_low {w : Word} {k : CoreId} {op : Nat} {low : BitVec 22} (hop : wOp w = op) (hlow : low = w.extractLsb' 0 22) :
    some (k, wEnc op (w.getLsbD 25) (Fin.ofNat 8 (w.extractLsb' 22 3).toNat) low) = some (k, w) := by
  rw [← hop, hlow, wEnc_fields]

/-- No bit of a legal word is lost in decoding. -/
theorem walsoWord_of_walsoLegal {i : Instr} {k : CoreId} {w : Word} (hf : wFields k.prof w = true) (h : walsoLegal k w = some i) :
    i.walsoWord = some (k, w) := by
  unfold walsoLegal at h
  simp only at h
  split at h
  case h_14 hop =>
    rcases function_cases hf hop with hc | hc | hc | hc <;> rw [hc] at h <;> cases h <;> refine word_of_low hop ?_ <;>
      simp (disch := omega) only [← hc, BitVec.extractLsb'_append_extractLsb'_eq_extractLsb']
  case h_30 hop =>
    rcases two_bit_cases (w.extractLsb' 15 2) with hc | hc | hc | hc <;> rw [hc] at h <;> cases h <;> refine word_of_low hop ?_ <;>
      simp (disch := omega) only [← hc, BitVec.extractLsb'_append_extractLsb'_eq_extractLsb']
  case h_32 hop =>
    rcases operation_cases 15 hf (by simp [hop]) with hc | hc | hc <;> rw [hc] at h <;> cases h <;> refine word_of_low hop ?_ <;>
      simp (disch := omega) only [← hc, ofBool_getLsbD, BitVec.extractLsb'_append_extractLsb'_eq_extractLsb']
  case h_34 hop =>
    rcases operation_cases 10 hf (by simp [hop]) with hc | hc | hc <;> rw [hc] at h <;> cases h <;> refine word_of_low hop ?_ <;>
      simp (disch := omega) only [← hc, BitVec.extractLsb'_append_extractLsb'_eq_extractLsb']
  case h_47 hop =>
    rcases operation_cases 5 hf (by simp [hop]) with hc | hc | hc <;> rw [hc] at h <;> cases h <;> refine word_of_low hop ?_ <;>
      simp (disch := omega) only [← hc, BitVec.extractLsb'_append_extractLsb'_eq_extractLsb']
  case' h_48 hop | h_49 hop =>
    rcases operation_cases 4 hf (by simp [hop]) with hc | hc | hc <;> rw [hc] at h <;> cases h <;> refine word_of_low hop ?_ <;>
      simp (disch := omega) only [← hc, BitVec.extractLsb'_append_extractLsb'_eq_extractLsb']
  case h_50 => cases h
  all_goals
    cases h
    refine word_of_low ‹_› ?_
    simp (disch := omega) only [ofBool_getLsbD, BitVec.extractLsb'_append_extractLsb'_eq_extractLsb']

/-- A command that executes an instruction is well formed exactly when its word is legal on its core. -/
theorem wf_of_walsoWord {i : Instr} {k : CoreId} {w : Word} (h : i.walsoWord = some (k, w)) : i.wf = decide (wCause k.prof w = none) := by
  have hw : wordWf i = decide (wCause k.prof w = none) := by
    unfold wordWf
    rw [h]
    rfl
  rw [← hw]
  cases i <;> cases h <;> rfl

/-- Settles O6: a well-formed command's word is legal, and decoding by opcode and operation field finds the command. -/
theorem walsoDecodesItsWord : Obligations.WalsoDecodesItsWord := by
  unfold Obligations.WalsoDecodesItsWord
  intro i k w hw hwf
  rw [wf_of_walsoWord hw, decide_eq_true_eq] at hwf
  unfold walsoDecode
  rw [if_pos hwf, walsoLegal_of_walsoWord hw]

/-- Settles O7: the fields that decoding reads, put together in their order, are the 22 bits of the word. -/
theorem walsoWordOfDecoded : Obligations.WalsoWordOfDecoded := by
  unfold Obligations.WalsoWordOfDecoded
  intro k w i h
  unfold walsoDecode at h
  split at h
  · next hc => exact walsoWord_of_walsoLegal (wFields_of_legal hc) h
  · cases h

end Sys2Proof
end

section
/-!
What the execution of one word comes to (R161, R165, R178, R179): a core at rest, a fetch, an issue that is late, a predicate that is false.
-/
namespace Sys2Proof.Machine
open Sys2Proof

/-! ### Registers of a core kept -/

/-- The g, z and p registers of core k stay. -/
def KeepsRegs (s t : State) (k : CoreId) : Prop := KeepsG s t k ∧ KeepsZ s t k ∧ KeepsP s t k

section
variable {s t u : State} {k : CoreId}

theorem KeepsRegs.of_core (hg : (t.core k.num).g = (s.core k.num).g) (hz : (t.core k.num).z = (s.core k.num).z)
    (hp : (t.core k.num).p = (s.core k.num).p) : KeepsRegs s t k :=
  ⟨fun r => by simp [State.gr, Core.gr, hg], fun r => by simp [State.zr, Core.zr, hz], fun r => by simp [State.pr, Core.pr, hp]⟩

theorem KeepsRegs.of_cores (h : t.cores = s.cores) : KeepsRegs s t k := by
  have hc : t.core k.num = s.core k.num := by unfold State.core; rw [h]
  exact .of_core (by rw [hc]) (by rw [hc]) (by rw [hc])

theorem KeepsRegs.trans (h : KeepsRegs s t k) (h' : KeepsRegs t u k) : KeepsRegs s u k :=
  ⟨fun r => (h'.1 r).trans (h.1 r), fun r => (h'.2.1 r).trans (h.2.1 r), fun r => (h'.2.2 r).trans (h.2.2 r)⟩

theorem OnlyCore.trans (h : OnlyCore s t k) (h' : OnlyCore t u k) : OnlyCore s u k :=
  ⟨by rw [h'.1, h.1], fun n hn => (h'.2 n hn).trans (h.2 n hn)⟩

theorem OnlyCore.rd (h : OnlyCore s t k) (a : Nat) : t.rd a = s.rd a := by rw [h.1]; rfl
theorem OnlyCore.bit (h : OnlyCore s t k) (a i : Nat) : t.bit a i = s.bit a i := by rw [h.1]; rfl
theorem OnlyCore.fld (h : OnlyCore s t k) (a hi lo : Nat) : t.fld a hi lo = s.fld a hi lo := by rw [h.1]; rfl
theorem OnlyCore.elem (h : OnlyCore s t k) (c : Nat) : t.elem c = s.elem c := by rw [h.1]; rfl

theorem OnlyCore.coreMod (s : State) (k : CoreId) (f : Core → Core) : OnlyCore s (s.coreMod k.num f) k :=
  ⟨rfl, fun n hn => by simp [Ne.symm hn]⟩

end

/-! ### Up to the issue -/

/-- The core k waits for nothing. -/
def State.woken (s : State) (k : CoreId) : State := s.coreMod k.num (fun x => { x with waiting := false })

/-- What the word a core fetches raises in place of executing: a double-bit error ECC_I, an illegal word its cause (R165, R179). -/
def State.fetchCause (s : State) (k : CoreId) (w : Word) : Option Nat := if s.fetchUpset k = 2 then some 8 else wCause k.prof w

/-- The cycle in which the word issues, or in which what it raises does. -/
def State.reachCycle (s : State) (k : CoreId) (w : Word) : Nat := if (s.fetchCause k w).isSome then (s.timing k).cyc else s.issueCycle k w

section
variable {s : State} {k : CoreId} {w : Word} {eff : State → WEff}

@[simp] theorem State.core_woken (s : State) (k : CoreId) : (s.woken k).core k.num = { s.core k.num with waiting := false } := by
  simp [State.woken]

theorem State.woken_only (s : State) (k : CoreId) : OnlyCore s (s.woken k) k := .coreMod _ _ _

theorem State.woken_keeps (s : State) (k : CoreId) : KeepsRegs s (s.woken k) k := .of_core (by simp) (by simp) (by simp)

/-- A core at rest executes nothing (R159, R226). -/
theorem State.walso_resting (h : ¬ s.Awake k) : s.walso k w eff = s := by
  unfold State.walso
  rw [if_pos]
  unfold State.Awake at h
  by_cases hr : (s.core k.num).run = .active
  · exact .inr (by simpa [hr] using h)
  · exact .inl hr

/-- An awake core within its code: too late, with a cause, or at the issue. -/
theorem State.walso_awake (ha : s.Awake k) (hc : (s.core k.num).pc < s.codeLimit k) : s.walso k w eff =
    if (s.budget k).any (fun b => decide (b ≤ s.reachCycle k w)) then (s.woken k).coreMod k.num (fun x => { x with run := .late })
    else match s.fetchCause k w with
      | some e => ((s.woken k).fetched k).wTrap k e 0 (s.core k.num).pc (s.reachCycle k w)
      | none => ((s.woken k).fetched k).issue k (s.timing k) w (s.reachCycle k w) eff := by
  obtain ⟨hrun, hsleep⟩ := ha
  have hlim : (s.coreMod k.num (fun x => { x with waiting := false })).codeLimit k = s.codeLimit k := by cases k <;> rfl
  have hbud : (s.coreMod k.num (fun x => { x with waiting := false })).budget k = s.budget k := by cases k <;> rfl
  have hpc : ¬ s.codeLimit k ≤ (s.core k.num).pc := by omega
  unfold State.walso
  dsimp only
  rw [if_neg (by simp [hrun, hsleep])]
  simp only [hlim, hbud, s.timing_awake k, s.fetchUpset_awake k, if_neg hpc]
  rfl

/-- A word that would issue at or after the deadline (R178). -/
theorem State.walso_late {b : Nat} (ha : s.Awake k) (hc : (s.core k.num).pc < s.codeLimit k) (hb : s.budget k = some b)
    (hl : b ≤ s.reachCycle k w) : s.walso k w eff = (s.woken k).coreMod k.num (fun x => { x with run := .late }) := by
  rw [State.walso_awake ha hc, hb]
  simp [hl]

theorem State.inTime_any (hb : ∀ b, s.budget k = some b → s.reachCycle k w < b) :
    (s.budget k).any (fun b => decide (b ≤ s.reachCycle k w)) = false := by
  cases h : s.budget k with
  | none => rfl
  | some b => simpa using hb b h

/-- A word that raises a cause in place of executing (R165, R179). -/
theorem State.walso_raises {e : Nat} (ha : s.Awake k) (hc : (s.core k.num).pc < s.codeLimit k) (he : s.fetchCause k w = some e)
    (hb : ∀ b, s.budget k = some b → (s.timing k).cyc < b) :
    s.walso k w eff = ((s.woken k).fetched k).wTrap k e 0 (s.core k.num).pc (s.timing k).cyc := by
  have hr : s.reachCycle k w = (s.timing k).cyc := if_pos (by rw [he]; rfl)
  rw [State.walso_awake ha hc, State.inTime_any (hr ▸ hb), he, hr]
  rfl

/-- A word that issues. -/
theorem State.walso_issues (ha : s.Awake k) (hc : (s.core k.num).pc < s.codeLimit k) (he : s.fetchCause k w = none)
    (hb : ∀ b, s.budget k = some b → s.issueCycle k w < b) :
    s.walso k w eff = ((s.woken k).fetched k).issue k (s.timing k) w (s.issueCycle k w) eff := by
  have hr : s.reachCycle k w = s.issueCycle k w := if_neg (by rw [he]; decide)
  rw [State.walso_awake ha hc, State.inTime_any (hr ▸ hb), he, hr]
  rfl

/-- A word whose predicate is false issues and does nothing else (R161). -/
theorem State.issue_skips {t : Timing} {c : Nat} (h : (s.core k.num).taken (wPn w) (wPs w) = false) :
    s.issue k t w c eff = s.settled k t w c (if wOp w = 0x30 then 1 else (wIssue w).cost) ((s.core k.num).pc + 1) := by
  unfold State.issue
  simp [h, State.settled]

end

/-! ### What an issue leaves -/

section
variable {s u : State} {k : CoreId} {t : Timing} {w : Word} {c cost p : Nat}

theorem State.settled_keeps : KeepsRegs u (u.settled k t w c cost p) k :=
  ⟨fun r => by simp, fun r => by simp, fun r => by simp⟩

/-- What an instruction that falls through leaves of the flags, the return addresses and the PC is what its effect leaves of them. -/
theorem addsFlags_settled {f : BitVec 4} (hf : (u.core k.num).fstat = (s.core k.num).fstat ||| f)
    (hr : (u.core k.num).rets = (s.core k.num).rets) (hl : (u.core k.num).loops = (s.core k.num).loops) :
    AddsFlags s (u.settled k t w c cost ((s.core k.num).pc + 1)) k f :=
  ⟨by rw [State.settled_fstat, hf], by rw [State.settled_rets, hr], fun h => State.settled_falls u k t w c cost _ (hl.trans h)⟩

theorem writesNone_settled (hk : KeepsRegs s u k) (hf : (u.core k.num).fstat = (s.core k.num).fstat)
    (hr : (u.core k.num).rets = (s.core k.num).rets) (hl : (u.core k.num).loops = (s.core k.num).loops) :
    WritesNone s (u.settled k t w c cost ((s.core k.num).pc + 1)) k := by
  obtain ⟨hg, hz, hp⟩ := hk.trans (u.settled_keeps (t := t) (w := w) (c := c) (cost := cost) (p := (s.core k.num).pc + 1))
  exact ⟨hg, hz, hp, addsFlags_settled (by rw [hf]; simp) hr hl⟩

/-- The correction of a fetched word leaves the cores. -/
theorem State.core_fetched (s : State) (k : CoreId) (n : Nat) : (s.fetched k).core n = s.core n :=
  (s.fetched_ag k).core n (by decide)

theorem fetched_writesNone : WritesNone s (((s.woken k).fetched k).settled k t w c cost ((s.core k.num).pc + 1)) k := by
  have hk : KeepsRegs s ((s.woken k).fetched k) k := s.woken_keeps k |>.trans (.of_cores ((State.fetched_ag _ k).cores (by decide)))
  refine writesNone_settled hk ?_ ?_ ?_ <;> rw [State.core_fetched, State.core_woken]

end

/-! ### A word whose predicate is false -/

section
variable {s : State} {k : CoreId} {w : Word} {eff : State → WEff}

theorem State.taken_fetched (h : ¬ s.Takes k w) : (((s.woken k).fetched k).core k.num).taken (wPn w) (wPs w) = false := by
  rw [State.core_fetched, State.core_woken]
  exact Bool.eq_false_iff.mpr h

theorem State.walso_skips (ha : s.Awake k) (hc : (s.core k.num).pc < s.codeLimit k) (he : s.fetchCause k w = none)
    (hb : ∀ b, s.budget k = some b → s.issueCycle k w < b) (ht : ¬ s.Takes k w) :
    s.walso k w eff = ((s.woken k).fetched k).settled k (s.timing k) w (s.issueCycle k w)
      (if wOp w = 0x30 then 1 else (wIssue w).cost) ((s.core k.num).pc + 1) := by
  rw [State.walso_issues ha hc he hb, State.issue_skips (State.taken_fetched ht), State.core_fetched, State.core_woken]

theorem State.Reaches.fetchCause (h : s.Reaches k w) : s.fetchCause k w = none := by
  unfold State.fetchCause
  rw [h.clean, if_neg (by decide), h.legal]

end

/-! ### Exceptions and corrected words of an element core -/

theorem not_signals {a : Nat} (h : 0x10000 ≤ a) : ¬ Signals a := by
  rintro (rfl | rfl | ⟨-, h'⟩)
  · exact absurd h (by decide)
  · exact absurd h (by decide)
  · omega

section
variable (s : State) {c : Nat} (cause pc addr : Nat)

/-- The registers of a core fault before its interrupt and its record. -/
def State.faultNoted (s : State) (c v addr : Nat) : State :=
  ((s.wr (Reg.CORE_FAULT c) (w32 v)).wr (Reg.CORE_FADDR c) (w32 addr)).setCstat c csEXC true

theorem State.coreFault_eq (c : Nat) : s.coreFault c cause pc addr =
    (((s.coreMod c (fun x => { x with run := .faulted })).faultNoted c (cause * 0x1000000 + pc % 16384) addr).irq c).log 0x170 c
      (cause * 0x1000000 + pc % 16384) addr := rfl

/-- A core fault stops its core and changes nothing else of a core (R178). -/
theorem State.core_coreFault (c n : Nat) : (s.coreFault c cause pc addr).core n =
    if c = n then { s.core c with run := .faulted } else s.core n := by
  rw [State.coreFault_eq, (State.log_ag _ _ _ _ _).core n (by decide), (State.irq_ag _ _).core n (by decide)]
  simp [State.faultNoted, State.setCstat, State.putBit, State.put]

/-- What a core fault records (R178, R179). -/
theorem State.coreFault_shows (hc : c < 16) : let t := s.coreFault c cause pc addr
    t.rd (Reg.CORE_FAULT c) = w32 (cause * 0x1000000 + pc % 16384) ∧ t.rd (Reg.CORE_FADDR c) = w32 addr ∧
    t.bit (Reg.CORE_STAT c) 9 = true ∧ t.bit Reg.INT_STAT_LO c = true := by
  have h1 : Reg.CORE_STAT c ≠ Reg.CORE_FAULT c := by unfold Reg.CORE_STAT Reg.CORE_FAULT; omega
  have h2 : Reg.CORE_STAT c ≠ Reg.CORE_FADDR c := by unfold Reg.CORE_STAT Reg.CORE_FADDR; omega
  have h3 : Reg.CORE_FADDR c ≠ Reg.CORE_FAULT c := by unfold Reg.CORE_FADDR Reg.CORE_FAULT; omega
  have hs : ∀ a, 0x90000000 ≤ a → ¬ Signals a := fun a ha => not_signals (by omega)
  intro t
  have ht : t = _ := s.coreFault_eq cause pc addr c
  clear_value t
  subst ht
  set u := (s.coreMod c (fun x => { x with run := .faulted })).faultNoted c (cause * 0x1000000 + pc % 16384) addr with hu
  have hw : Writes (fun _ => False) u ((u.irq c).log 0x170 c (cause * 0x1000000 + pc % 16384) addr) :=
    ((Writes.refl _ u).irq c).log _ _ _ _
  refine ⟨?_, ?_, ?_, ?_⟩
  · rw [hw.rd _ (by simp) (hs _ (by unfold Reg.CORE_FAULT; omega)), hu, State.faultNoted, State.setCstat, State.rd_putBit_ne _ _ _ _ _ h1,
      State.rd_wr, if_neg h3, State.rd_wr, if_pos rfl]
  · rw [hw.rd _ (by simp) (hs _ (by unfold Reg.CORE_FADDR; omega)), hu, State.faultNoted, State.setCstat, State.rd_putBit_ne _ _ _ _ _ h2,
      State.rd_wr, if_pos rfl]
  · rw [hw.bit _ (by simp) (hs _ (by unfold Reg.CORE_STAT; omega)), hu, State.faultNoted, State.setCstat, State.bit_putBit _ _ _ _ _ _ (by decide),
      if_pos ⟨rfl, rfl⟩]
  · rw [State.bit_log _ _ _ _ _ _ _ (by decide)]
    exact State.bit_irq_lo _ _ _ (.inl ⟨rfl, by omega⟩)

theorem State.wTrap_keeps_elem (c : Fin 16) (cyc : Nat) : KeepsRegs s (s.wTrap (.elem c) cause addr pc cyc) (.elem c) := by
  have hcore : (s.wTrap (.elem c) cause addr pc cyc).core c.val = { s.core c.val with run := .faulted } :=
    (s.core_coreFault cause pc addr c.val c.val).trans (if_pos rfl)
  exact .of_core (by rw [CoreId.num, hcore]) (by rw [CoreId.num, hcore]) (by rw [CoreId.num, hcore])

/-- A corrected word of IMEM is counted, recorded and signalled (R165, R191). -/
theorem State.eccFixed_shows (hc : c < 16) : let t := s.eccFixed c true pc
    t.fld (Reg.CORE_ECC c) 31 16 = min 65535 (s.fld (Reg.CORE_ECC c) 31 16 + 1) ∧ t.fld (Reg.CORE_ECC c) 15 0 = s.fld (Reg.CORE_ECC c) 15 0 ∧
    t.bit Reg.INT_STAT_LO c = true ∧ t.elem c = { s.elem c with eccI := (s.elem c).eccI + 1 } := by
  have hs : ¬ Signals (Reg.CORE_ECC c) := not_signals (by unfold Reg.CORE_ECC; omega)
  intro t
  obtain ⟨p1, ht⟩ : ∃ p1, t = (((s.elemMod c (fun e => { e with eccI := e.eccI + 1 })).count (Reg.CORE_ECC c) 31 16 1).irq c).log 0x173 c
    (b2n true * 0x80000000 + pc) p1 := ⟨_, rfl⟩
  clear_value t
  subst ht
  set u := s.elemMod c (fun e => { e with eccI := e.eccI + 1 }) with hu
  have hw : Writes (fun _ => False) (u.count (Reg.CORE_ECC c) 31 16 1) (((u.count (Reg.CORE_ECC c) 31 16 1).irq c).log 0x173 c
    (b2n true * 0x80000000 + pc) p1) := ((Writes.refl _ _).irq c).log _ _ _ _
  refine ⟨?_, ?_, ?_, ?_⟩
  · rw [hw.fld _ _ (by simp) hs, State.fld_count_same _ _ _ _ _ (by decide) (by decide)]
    rfl
  · rw [hw.fld _ _ (by simp) hs, State.count, State.fld_put_apart _ _ _ _ _ _ _ _ (by decide) (by decide) (by decide) (by decide)]
    rfl
  · rw [State.bit_log _ _ _ _ _ _ _ (by decide)]
    exact State.bit_irq_lo _ _ _ (.inl ⟨rfl, by omega⟩)
  · rw [(State.log_ag _ _ _ _ _).elem c (by decide), (State.irq_ag _ _).elem c (by decide), (State.count_ag _ _ _ _ _).elem c (by decide), hu,
      elem_elemMod, if_pos rfl]

end

/-! ### The issue of an element core -/

section
variable {s : State} {c : Fin 16} {w : Word} {eff : State → WEff} {b : Nat}

/-- A word that an element core fetches with a double-bit error raises ECC_I in place of executing (R165, R179). -/
theorem State.walso_eccDouble (ha : s.Awake (.elem c)) (hc : (s.core c.val).pc < s.codeLimit (.elem c)) (hb : s.budget (.elem c) = some b)
    (hu : s.fetchUpset (.elem c) = 2) (ht : (s.timing (.elem c)).cyc < b) :
    s.walso (.elem c) w eff = (s.woken (.elem c)).coreFault c.val 8 (s.core c.val).pc 0 := by
  have hcause : s.fetchCause (.elem c) w = some 8 := if_pos hu
  have hfetch : (s.woken (.elem c)).fetched (.elem c) = s.woken (.elem c) := by
    have hup : (s.woken (.elem c)).fetchUpset (.elem c) = s.fetchUpset (.elem c) := s.fetchUpset_awake _
    unfold State.fetched
    dsimp only
    rw [hup, hu, if_neg (by decide)]
  rw [State.walso_raises ha hc hcause (fun b' h => by rw [hb] at h; cases h; exact ht), hfetch]
  rfl

/-- A single-bit error of the word an element core fetches is corrected before the issue (R165). -/
theorem State.fetched_of_single (hu : s.fetchUpset (.elem c) = 1) :
    (s.woken (.elem c)).fetched (.elem c) = (s.woken (.elem c)).eccFixed c.val true (s.core c.val).pc := by
  have hup : (s.woken (.elem c)).fetchUpset (.elem c) = s.fetchUpset (.elem c) := s.fetchUpset_awake _
  unfold State.fetched
  dsimp only
  rw [hup, if_pos hu, State.core_woken]
  rfl

end

/-- Settles O9: what a word comes to where no instruction takes effect, in the order in which `walso` asks: at rest, late, raised, skipped. -/
theorem walsoIssueRules : Obligations.WalsoIssueRules := by
  unfold Obligations.WalsoIssueRules
  refine ⟨fun i k w s hi ha => ?_, fun i k w s hi hr ht => ?_, fun i k w s b hi ha hc hu hl hb hle => ?_, fun i c w s b => ?_⟩
  · obtain ⟨eff, he⟩ := exec_walso hi
    rw [he, State.walso_resting ha]
  · obtain ⟨eff, he⟩ := exec_walso hi
    refine ⟨_, he s, ?_⟩
    have hclean : (s.woken k).fetched k = s.woken k := State.fetched_clean ((s.fetchUpset_awake k).trans hr.clean)
    have hw := fetched_writesNone (s := s) (k := k) (t := s.timing k) (w := w) (c := s.issueCycle k w)
      (cost := if wOp w = 0x30 then 1 else (wIssue w).cost)
    rw [State.walso_skips hr.awake hr.inCode hr.fetchCause hr.inTime ht]
    rw [hclean] at hw ⊢
    refine ⟨(s.woken_only k).trans (State.settled_only _ _ _ _ _ _ _), hw, ?_⟩
    rw [State.settled_run, State.core_woken]
    exact hr.awake.1
  · obtain ⟨eff, he⟩ := exec_walso hi
    refine ⟨_, he s, ?_⟩
    have hcause : s.fetchCause k w = none := by
      unfold State.fetchCause
      rw [if_neg hu, hl]
    rw [State.walso_late ha hc hb (by unfold State.reachCycle; rwa [hcause, if_neg (by decide)])]
    obtain ⟨hg, hz, hp⟩ : KeepsRegs s ((s.woken k).coreMod k.num (fun x => { x with run := .late })) k :=
      .of_core (by simp) (by simp) (by simp)
    exact ⟨(s.woken_only k).trans (.coreMod _ _ _), hg, hz, hp, by simp, by simp, by simp⟩
  · intro k hi ha hc hb
    obtain ⟨eff, he⟩ := exec_walso hi
    refine ⟨fun hu ht => ⟨_, he s, ?_⟩, fun hu hl hin ht => ⟨_, he s, ?_⟩⟩
    · rw [State.walso_eccDouble ha hc hb hu ht]
      obtain ⟨hfault, haddr, hexc, hint⟩ := (s.woken k).coreFault_shows (c := c.val) 8 (s.core c.val).pc 0 c.isLt
      obtain ⟨hg, hz, hp⟩ := (s.woken_keeps k).trans (State.wTrap_keeps_elem _ 8 (s.core c.val).pc 0 c 0)
      have hag := State.coreFault_ag (s.woken k) c.val 8 (s.core c.val).pc 0
      exact ⟨by rw [State.core_coreFault, if_pos rfl], hfault, haddr, hexc, hint, hg, hz, hp, hag.elems (by decide), hag.mram (by decide)⟩
    · have hcause : s.fetchCause k w = none := by
        unfold State.fetchCause
        rw [hu, if_neg (by decide), hl]
      have hw := fetched_writesNone (s := s) (k := k) (t := s.timing k) (w := w) (c := s.issueCycle k w)
        (cost := if wOp w = 0x30 then 1 else (wIssue w).cost)
      rw [State.walso_skips ha hc hcause (fun b' h => by rw [hb] at h; cases h; exact hin) ht]
      rw [State.fetched_of_single hu] at hw ⊢
      obtain ⟨hcnt, hlow, hint, helem⟩ := (s.woken k).eccFixed_shows (c := c.val) (s.core c.val).pc c.isLt
      have hwoken := s.woken_only k
      rw [hwoken.fld] at hcnt hlow
      rw [hwoken.elem] at helem
      have hset := State.settled_only ((s.woken k).eccFixed c.val true (s.core c.val).pc) k (s.timing k) w (s.issueCycle k w)
        (if wOp w = 0x30 then 1 else (wIssue w).cost) ((s.core k.num).pc + 1)
      refine ⟨hw, ?_, (hset.fld _ _ _).trans hcnt, (hset.fld _ _ _).trans hlow, (hset.bit _ _).trans hint, (hset.elem _).trans helem⟩
      change (State.core _ k.num).run = _
      rw [State.settled_run, (State.eccFixed_ag _ _ _ _).core _ (by decide), State.core_woken]
      exact ha.1

end Sys2Proof.Machine
end

section
/-!
Instructions that complete: results in a register, loads and stores of an element core (R163, R194, R195, R201, R202).
-/
namespace Sys2Proof.Machine
open Sys2Proof

/-! ### One register of a core takes a value -/

section
variable (s : State) (k : CoreId) (i : Nat)

theorem core_setGr (v : Word) : (s.setGr k i v).core k.num = (s.core k.num).setGr i v := by simp [State.setGr]
theorem core_setZr (v : Word × Word) : (s.setZr k i v).core k.num = (s.core k.num).setZr i v := by simp [State.setZr]

/-- A write of a g register leaves the rest of its core. -/
theorem setGr_rest (v : Word) : let x := (s.setGr k i v).core k.num
    x.fstat = (s.core k.num).fstat ∧ x.rets = (s.core k.num).rets ∧ x.loops = (s.core k.num).loops ∧
    x.z = (s.core k.num).z ∧ x.p = (s.core k.num).p := by
  intro x
  have hx : x = _ := core_setGr s k i v
  rw [hx]
  unfold Core.setGr
  split <;> exact ⟨rfl, rfl, rfl, rfl, rfl⟩

theorem setZr_rest (v : Word × Word) : let x := (s.setZr k i v).core k.num
    x.fstat = (s.core k.num).fstat ∧ x.rets = (s.core k.num).rets ∧ x.loops = (s.core k.num).loops ∧
    x.g = (s.core k.num).g ∧ x.p = (s.core k.num).p := by
  intro x
  have hx : x = _ := core_setZr s k i v
  rw [hx]
  exact ⟨rfl, rfl, rfl, rfl, rfl⟩

end

section
variable {s : State} {k : CoreId} {w : Word} {eff : State → WEff} {i : Nat}

theorem State.atIssue_keeps (s : State) (k : CoreId) (w : Word) : KeepsRegs s (s.atIssue k w) k :=
  ⟨fun r => by simp, fun r => by simp, fun r => by simp⟩

/-- An instruction that writes a g register and nothing else. -/
theorem walso_writesG {v : Word} (h : s.Runs k w) (hi : i < 32) (he : eff (s.atIssue k w) = .ok ((s.atIssue k w).setGr k i v)) :
    WritesG s (s.walso k w eff) k i v 0 := by
  rw [State.walso_ok h he]
  obtain ⟨hf, hr, hl, hz, hp⟩ := setGr_rest (s.atIssue k w) k i v
  refine ⟨((s.atIssue_only k w).trans (.coreMod _ _ _)).trans (State.settled_only _ _ _ _ _ _ _), fun r => ?_, fun r => ?_, fun r => ?_,
    addsFlags_settled (by rw [hf]; simp) (by rw [hr]; simp) (by rw [hl]; simp)⟩
  · rw [State.settled_gr, State.gr, core_setGr, Core.gr_setGr _ _ _ _ hi]
    exact congrArg (ite _ v) (s.atIssue_gr k w r)
  · rw [State.settled_zr, State.zr, Core.zr, hz]
    exact s.atIssue_zr k w r
  · rw [State.settled_pr, State.pr, Core.pr, hp]
    exact s.atIssue_pr k w r

/-- An instruction that writes a z register and nothing else. -/
theorem walso_writesZ {v : Word × Word} (h : s.Runs k w) (hi : i < 16) (he : eff (s.atIssue k w) = .ok ((s.atIssue k w).setZr k i v)) :
    WritesZ s (s.walso k w eff) k i v 0 := by
  rw [State.walso_ok h he]
  obtain ⟨hf, hr, hl, hg, hp⟩ := setZr_rest (s.atIssue k w) k i v
  refine ⟨((s.atIssue_only k w).trans (.coreMod _ _ _)).trans (State.settled_only _ _ _ _ _ _ _), fun r => ?_, fun r => ?_, fun r => ?_,
    addsFlags_settled (by rw [hf]; simp) (by rw [hr]; simp) (by rw [hl]; simp)⟩
  · rw [State.settled_gr, State.gr, Core.gr, hg]
    exact s.atIssue_gr k w r
  · rw [State.settled_zr, State.zr, core_setZr, Core.zr_setZr _ _ _ _ hi]
    exact congrArg (ite _ v) (s.atIssue_zr k w r)
  · rw [State.settled_pr, State.pr, Core.pr, hp]
    exact s.atIssue_pr k w r

end

/-- Settles O10: each integer instruction falls through with one g register written, from operands as they stand before it. -/
theorem walsoIntegerResults : Obligations.WalsoIntegerResults := by
  unfold Obligations.WalsoIntegerResults
  intro s k pn ps rd ra rb fn imm u G a b
  refine ⟨fun h => ⟨_, rfl, ?_⟩, fun h => ⟨_, rfl, ?_⟩, fun h => ⟨_, rfl, ?_⟩, fun h => ⟨_, rfl, ?_⟩, fun h => ⟨_, rfl, ?_⟩,
    fun h => ⟨_, rfl, ?_⟩, fun h => ⟨_, rfl, ?_⟩, fun h => ⟨_, rfl, ?_⟩⟩
  all_goals
    refine walso_writesG h rd.isLt ?_
    simp only [State.atIssue_gr, sImm, zImm, a, b]

/-! ### Words of a cluster's memories -/

section
variable (s : State) (c key kind : Nat) (v : Word)

theorem elem_setUpset (d : Nat) : (s.setUpset c key kind).elem d =
    if c = d then { s.elem c with errs := SMap.set (fun _ => 0) (s.elem c).errs key kind } else s.elem d :=
  SMap.get_set _ _ _ _ _

theorem upset_setUpset (d k : Nat) : (s.setUpset c key kind).upset d k = if c = d ∧ key = k then kind else s.upset d k := by
  change SMap.get (fun _ => 0) ((s.setUpset c key kind).elem d).errs k = _
  rw [elem_setUpset]
  by_cases hd : c = d
  · subst hd
    rw [if_pos rfl, SMap.get_set]
    by_cases hk : key = k
    · simp [hk]
    · simp only [hk, and_false, if_false]
      rfl
  · rw [if_neg hd, if_neg (fun h => hd h.1)]
    rfl

/-- A written word holds no error; every other word keeps what it holds. -/
theorem upset_wrMem (d k : Nat) : (s.wrMem c key v).upset d k = if c = d ∧ key = k then 0 else s.upset d k :=
  upset_setUpset _ _ _ _ _ _

/-- Of a cluster a written word changes at most the account of errors. -/
theorem elem_wrMem (d : Nat) : (s.wrMem c key v).elem d = { s.elem d with errs := ((s.wrMem c key v).elem d).errs } := by
  have h : (s.wrMem c key v).elem d = _ := elem_setUpset (s.wr key v) c key 0 d
  rw [h]
  by_cases hd : c = d
  · subst hd
    rw [if_pos rfl]
    rfl
  · rw [if_neg hd]
    rfl

end

/-! ### Accesses of an element core without an error -/

section
variable {s : State} {c : Fin 16} {space a : Nat}

theorem elemKey_dmem {c a : Nat} (h : a < 0x20000) : elemKey c a = dmemKey c a := if_pos h

theorem doubleErr_clean (hu : s.upset c.val (elemKey c.val a) = 0) : s.doubleErr (.elem c) a = false := by
  by_cases ha : a < 0x20000
  · rw [elemKey_dmem ha] at hu
    simp [State.doubleErr, hu]
  · simp [State.doubleErr, ha]

/-- A word without an error is read as it stands, and nothing changes. -/
theorem memRead_clean (hu : s.upset c.val (elemKey c.val a) = 0) : s.memRead (.elem c) a = (s, s.rd (elemKey c.val a)) := by
  unfold State.memRead
  dsimp only
  split
  · rw [hu, if_neg (by decide)]
  · simp [State.winSeen, State.winWord, hu]

theorem memCause_load {width : Nat} (ha : a % width = 0) (hs : inSpace space a = true) : s.memCause (.elem c) space false a width = none := by
  unfold State.memCause
  simp [ha, hs]

theorem memCause_store {width : Nat} (ha : a % width = 0) (hd : a < 0x20000) : s.memCause (.elem c) 0 true a width = none := by
  have h1 : ¬ 0x20000 ≤ a := by omega
  have h2 : ¬ 0x30000 ≤ a := by omega
  simp [State.memCause, ha, inSpace, hd, h1, h2]

theorem loadG_clean (rd : Nat) (ha : a % 4 = 0) (hs : inSpace space a = true) (hu : s.upset c.val (elemKey c.val a) = 0) :
    s.loadG (.elem c) space rd a = .ok (s.setGr (.elem c) rd (s.rd (elemKey c.val a))) := by
  unfold State.loadG
  rw [memCause_load ha hs, doubleErr_clean hu, memRead_clean hu]
  rfl

theorem loadZ_clean (zd : Nat) (ha : a % 8 = 0) (hs : inSpace space a = true) (hu : s.upset c.val (elemKey c.val a) = 0)
    (hv : s.upset c.val (elemKey c.val (a + 4)) = 0) :
    s.loadZ (.elem c) space zd a = .ok (s.setZr (.elem c) zd (s.rd (elemKey c.val a), s.rd (elemKey c.val (a + 4)))) := by
  unfold State.loadZ
  rw [memCause_load ha hs, doubleErr_clean hu, doubleErr_clean hv, memRead_clean hu]
  dsimp only
  rw [memRead_clean hv]
  rfl

theorem storeW_dmem (v : Word) (ha : a % 4 = 0) (hd : a < 0x20000) : s.storeW (.elem c) a v = .ok (s.wrMem c.val (elemKey c.val a) v) := by
  unfold State.storeW
  rw [memCause_store ha hd]
  rfl

theorem storeZ_dmem (v : Word × Word) (ha : a % 8 = 0) (hd : a < 0x20000) : s.storeZ (.elem c) a v =
    .ok ((s.wrMem c.val (elemKey c.val a) v.1).wrMem c.val (elemKey c.val (a + 4)) v.2) := by
  unfold State.storeZ
  rw [memCause_store ha hd]
  rfl

end

section
variable (s : State) (k : CoreId) (w : Word)

@[simp] theorem addrM_atIssue (ra : Nat) (off : BitVec 12) (width : Nat) : (s.atIssue k w).addrM k ra off width = s.addrM k ra off width := by
  simp [State.addrM]

@[simp] theorem addrX_atIssue (ra rb sh : Nat) : (s.atIssue k w).addrX k ra rb sh = s.addrX k ra rb sh := by
  simp [State.addrX]

end

/-- A complex load or store of R201 names one of the sixteen z registers. -/
theorem zd_of_legal {p : Prof} {op : Nat} {pn : Bool} {ps : Fin 8} {rd ra : BitVec 5} {off : BitVec 12}
    (h : wCause p (encI op pn ps rd ra off) = none) (hop : op = 0x12 ∨ op = 0x13 ∨ op = 0x16) : rd.toNat < 16 := by
  have hf := wFields_of_legal h
  have hw : wOp (encI op pn ps rd ra off) = op := by
    unfold encI
    rw [wOp_wEnc]
    omega
  have hbit : bitAt (encI op pn ps rd ra off) 21 = rd.getLsbD 4 := by
    unfold bitAt encI
    rw [getLsbD_wEnc _ _ _ _ (by decide), BitVec.getLsbD_append, if_neg (by decide)]
  have hrd : rd.getLsbD 4 = false := by
    unfold wFields at hf
    rcases hop with rfl | rfl | rfl <;> simpa [hw, hbit] using hf
  have : rd.msb = false := by rw [BitVec.msb_eq_getLsbD_last]; exact hrd
  have := BitVec.toNat_lt_of_msb_false this
  omega

/-! ### Stores of an element core -/

theorem Agree.eq_regs_cores_elems {s t : State} (h : Agree 3221225473 s t) : t = { s with regs := t.regs, cores := t.cores, elems := t.elems } :=
  h.eq_overlay

theorem upset_of_elem {s t : State} {d : Nat} (h : t.elem d = s.elem d) (key : Nat) : t.upset d key = s.upset d key := by
  change SMap.get (fun _ => 0) (t.elem d).errs key = SMap.get (fun _ => 0) (s.elem d).errs key
  rw [h]

section
variable {s u : State} {k : CoreId} {w : Word} {eff : State → WEff}

theorem State.atIssue_ag (s : State) (k : CoreId) (w : Word) : Agree 1073741824 s (s.atIssue k w) :=
  (State.coreMod_ag s k.num _).then (State.coreMod_ag _ k.num _) (by decide)

theorem State.settled_ag (u : State) (k : CoreId) (t : Timing) (w : Word) (c cost p : Nat) : Agree 1073741824 u (u.settled k t w c cost p) := by
  unfold State.settled State.issued
  exact (State.coreMod_ag u k.num _).then (State.coreMod_ag _ k.num _) (by decide)

/-- An effect on the words of the clusters alone: the core falls through, and the words and clusters are as the effect leaves them. -/
theorem walso_stores (h : s.Runs k w) (he : eff (s.atIssue k w) = .ok u) (hag : Agree 2147483649 (s.atIssue k w) u) :
    let t := s.walso k w eff
    (t = { s with regs := t.regs, cores := t.cores, elems := t.elems } ∧ (∀ n, n ≠ k.num → t.core n = s.core n) ∧ WritesNone s t k) ∧
    (∀ a, t.rd a = u.rd a) ∧ ∀ d, t.elem d = u.elem d := by
  intro t
  have ht : t = u.settled k (s.timing k) w (s.issueCycle k w) (wIssue w).cost ((s.core k.num).pc + 1) := State.walso_ok h he
  have hcore : u.core = (s.atIssue k w).core := funext fun n => hag.core n (by decide)
  have hset := State.settled_only u k (s.timing k) w (s.issueCycle k w) (wIssue w).cost ((s.core k.num).pc + 1)
  clear_value t
  subst ht
  refine ⟨⟨?_, fun n hn => ?_, ?_⟩, hset.rd, hset.elem⟩
  · exact (((State.atIssue_ag s k w).mono (by decide)).then hag (by decide) |>.then (State.settled_ag u k _ w _ _ _) (by decide)).eq_regs_cores_elems
  · rw [hset.2 n hn, hcore]
    exact (s.atIssue_only k w).2 n hn
  · refine writesNone_settled ((s.atIssue_keeps k w).trans (.of_cores (hag.cores (by decide)))) ?_ ?_ ?_ <;> rw [hcore] <;> simp

end

section
variable {s : State} {c : Fin 16} {w : Word} {eff : State → WEff} {rd space a : Nat}

theorem walso_loadG (h : s.Runs (.elem c) w) (hrd : rd < 32) (ha : a % 4 = 0) (hs : inSpace space a = true)
    (hu : s.upset c.val (elemKey c.val a) = 0)
    (he : eff (s.atIssue (.elem c) w) = (s.atIssue (.elem c) w).loadG (.elem c) space rd a) :
    WritesG s (s.walso (.elem c) w eff) (.elem c) rd (s.rd (elemKey c.val a)) 0 :=
  walso_writesG h hrd (he.trans (loadG_clean rd ha hs hu))

theorem walso_loadZ (h : s.Runs (.elem c) w) (hrd : rd < 16) (ha : a % 8 = 0) (hs : inSpace space a = true)
    (hu : s.upset c.val (elemKey c.val a) = 0) (hv : s.upset c.val (elemKey c.val (a + 4)) = 0)
    (he : eff (s.atIssue (.elem c) w) = (s.atIssue (.elem c) w).loadZ (.elem c) space (rd % 16) a) :
    WritesZ s (s.walso (.elem c) w eff) (.elem c) rd (s.rd (elemKey c.val a), s.rd (elemKey c.val (a + 4))) 0 := by
  rw [Nat.mod_eq_of_lt hrd] at he
  exact walso_writesZ h hrd (he.trans (loadZ_clean rd ha hs hu hv))

/-- What a store of an element core leaves beside the words: the core falls through, and the stored words hold no error. -/
def Stored (s t : State) (c : Fin 16) (stored : Nat → Prop) : Prop :=
  t = { s with regs := t.regs, cores := t.cores, elems := t.elems } ∧ (∀ n, n ≠ (CoreId.elem c).num → t.core n = s.core n) ∧
  WritesNone s t (.elem c) ∧ (∀ d, t.elem d = { s.elem d with errs := (t.elem d).errs }) ∧
  (∀ key, stored key → t.upset c.val key = 0) ∧ ∀ d key, d ≠ c.val ∨ ¬ stored key → t.upset d key = s.upset d key

theorem walso_storeW {v : Word} (h : s.Runs (.elem c) w) (ha : a % 4 = 0) (hd : a < 0x20000)
    (he : eff (s.atIssue (.elem c) w) = (s.atIssue (.elem c) w).storeW (.elem c) a v) :
    let t := s.walso (.elem c) w eff
    t.rd (elemKey c.val a) = v ∧ (∀ key, key ≠ elemKey c.val a → t.rd key = s.rd key) ∧ Stored s t c (fun key => key = elemKey c.val a) := by
  obtain ⟨⟨hframe, hcores, hnone⟩, hrd, helem⟩ := walso_stores h (he.trans (storeW_dmem v ha hd)) (State.wrMem_ag _ _ _ _)
  refine ⟨?_, fun key hk => ?_, hframe, hcores, hnone, fun d => ?_, fun key hk => ?_, fun d key hk => ?_⟩
  · rw [hrd, State.rd_wrMem, State.rd_wr, if_pos rfl]
  · rw [hrd, State.rd_wrMem, State.rd_wr, if_neg (Ne.symm hk)]
    rfl
  · rw [helem, elem_wrMem, (s.atIssue_only _ w).elem]
  · rw [upset_of_elem (helem _), upset_wrMem, if_pos ⟨rfl, hk.symm⟩]
  · rw [upset_of_elem (helem _), upset_wrMem, if_neg (by rintro ⟨rfl, rfl⟩; simp at hk)]
    rfl

theorem walso_storeZ {v : Word × Word} (h : s.Runs (.elem c) w) (ha : a % 8 = 0) (hd : a < 0x20000)
    (he : eff (s.atIssue (.elem c) w) = (s.atIssue (.elem c) w).storeZ (.elem c) a v) :
    let t := s.walso (.elem c) w eff
    t.rd (elemKey c.val a) = v.1 ∧ t.rd (elemKey c.val (a + 4)) = v.2 ∧
    (∀ key, key ≠ elemKey c.val a → key ≠ elemKey c.val (a + 4) → t.rd key = s.rd key) ∧
    Stored s t c (fun key => key = elemKey c.val a ∨ key = elemKey c.val (a + 4)) := by
  have hne : elemKey c.val (a + 4) ≠ elemKey c.val a := by
    rw [elemKey_dmem (by omega), elemKey_dmem hd]
    unfold dmemKey clusterKey
    omega
  obtain ⟨⟨hframe, hcores, hnone⟩, hrd, helem⟩ := walso_stores h (he.trans (storeZ_dmem v ha hd))
    ((State.wrMem_ag _ _ _ _).then (State.wrMem_ag _ _ _ _) (by decide))
  refine ⟨?_, ?_, fun key hk hk' => ?_, hframe, hcores, hnone, fun d => ?_, fun key hk => ?_, fun d key hk => ?_⟩
  · rw [hrd, State.rd_wrMem, State.rd_wr, if_neg hne, State.rd_wrMem, State.rd_wr, if_pos rfl]
  · rw [hrd, State.rd_wrMem, State.rd_wr, if_pos rfl]
  · rw [hrd, State.rd_wrMem, State.rd_wr, if_neg (Ne.symm hk'), State.rd_wrMem, State.rd_wr, if_neg (Ne.symm hk)]
    rfl
  · rw [helem, elem_wrMem, elem_wrMem, (s.atIssue_only _ w).elem]
  · rw [upset_of_elem (helem _), upset_wrMem, upset_wrMem]
    rcases hk with rfl | rfl <;> simp
  · rw [upset_of_elem (helem _), upset_wrMem, upset_wrMem, if_neg (by rintro ⟨rfl, rfl⟩; simp at hk), if_neg (by rintro ⟨rfl, rfl⟩; simp at hk)]
    rfl

end

/-- Settles O16: an access without an error reads the word it names, and a store changes the words it names. -/
theorem walsoElementMemory : Obligations.WalsoElementMemory := by
  unfold Obligations.WalsoElementMemory
  refine ⟨fun s c pn ps rd ra rb off fn => ?_, fun s c pn ps rd ra rb off fn => ?_⟩
  · refine ⟨fun h ha hs hu => ⟨_, rfl, walso_loadG h rd.isLt ha hs hu ?_⟩, fun h ha hs hu => ⟨_, rfl, walso_loadG h rd.isLt ha hs hu ?_⟩,
      fun h ha hs hu => ⟨_, rfl, walso_loadG h rd.isLt ha hs hu ?_⟩, fun h ha hs hu => ⟨_, rfl, walso_loadG h rd.isLt ha hs hu ?_⟩,
      fun h ha hs hu hv => ⟨_, rfl, walso_loadZ h (zd_of_legal h.reaches.legal (by decide)) ha hs hu hv ?_⟩,
      fun h ha hs hu hv => ⟨_, rfl, walso_loadZ h (zd_of_legal h.reaches.legal (by decide)) ha hs hu hv ?_⟩⟩
    all_goals simp only [addrM_atIssue, addrX_atIssue]
  · refine ⟨fun i w a hi h ha hd => ?_, fun h ha hd => ⟨_, rfl, walso_storeZ h ha hd ?_⟩⟩
    · rcases hi with ⟨rfl, rfl, rfl⟩ | ⟨rfl, rfl, rfl⟩ <;> refine ⟨_, rfl, walso_storeW h ha hd ?_⟩ <;>
        simp only [addrM_atIssue, addrX_atIssue, State.atIssue_gr]
    · rw [← Nat.mod_eq_of_lt (zd_of_legal h.reaches.legal (by decide))]
      simp only [addrM_atIssue, State.atIssue_zr, Nat.mod_mod]

end Sys2Proof.Machine
end

section
/-!
Which registers an evaluation step of the trip lines writes, named closely enough that Lathe's block and the registers of the element cores stay
(chapter 08): `TripKeys` takes in both of them.
-/
namespace Sys2Proof.Machine
open Sys2Proof

/-- The keys an evaluation step may write beside those of interrupts and records: time I/O, trip lines, command image and drives,
configurations and groups of field channels, GOOSE publishers and CAN controllers, egress drops, fast-path states and CAN objects. -/
def LineKeys (a : Nat) : Prop :=
  (0x8000 ≤ a ∧ a < 0x9000) ∨ (0x18000 ≤ a ∧ a < 0x1C000) ∨ (0x1C020 ≤ a ∧ a < 0x1C030) ∨ (0x1C100 ≤ a ∧ a < 0x1C220) ∨
  (0x20900 ≤ a ∧ a < 0x40000) ∨ (∃ p, a = Reg.ETH_DROP p) ∨ (∃ c, a = Reg.FPD_STAT c) ∨ 0xA3000000 ≤ a

theorem lineKeys_block {a : Nat} (h : (0x8000 ≤ a ∧ a < 0x9000) ∨ (0x18000 ≤ a ∧ a < 0x1C000) ∨ (0x1C020 ≤ a ∧ a < 0x1C030) ∨
    (0x1C100 ≤ a ∧ a < 0x1C220) ∨ (0x20900 ≤ a ∧ a < 0x40000)) : LineKeys a := by
  unfold LineKeys
  tauto

theorem not_lineKeys_lthHalt : ¬ LineKeys Reg.LTH_HALT := by
  rintro (h | h | h | h | h | ⟨p, h⟩ | ⟨c, h⟩ | h) <;> simp only [Reg.LTH_HALT, Reg.ETH_DROP, Reg.FPD_STAT] at h <;> omega

theorem not_lineKeys_coreStat (c : Fin 16) : ¬ LineKeys (Reg.CORE_STAT c.val) := by
  have := c.isLt
  rintro (h | h | h | h | h | ⟨p, h⟩ | ⟨n, h⟩ | h) <;> simp only [Reg.CORE_STAT, Reg.ETH_DROP, Reg.FPD_STAT] at h <;> omega

/-! ### What the lines drive: CAN objects, GOOSE, field channels -/

section
variable (s : State)

theorem canQueue_lineKeys {c m : Nat} (hc : c < 4) (hm : m < 128) : Writes LineKeys s (s.canQueue c m) := by
  have hobj : ∀ w, LineKeys (canObj c m w) := fun w => by unfold LineKeys canObj; omega
  have hpend : LineKeys (Reg.CAN_PEND c (m / 32)) := lineKeys_block (by unfold Reg.CAN_PEND; omega)
  have hcnt : LineKeys (Reg.CAN_ECNT2 c) := lineKeys_block (by unfold Reg.CAN_ECNT2; omega)
  have hbit := (Writes.refl LineKeys s).putBit 28 false (hobj 3)
  unfold State.canQueue
  refine Writes.ite (fun _ => (Writes.refl _ s).count _ _ _ hcnt) (fun _ => Writes.ite (fun _ => Writes.refl _ s) (fun _ => ?_))
  dsimp only
  split
  · exact hbit
  · exact hbit
  · exact hbit.of_agree (State.setCan_ag _ _ _) (by decide)
  · unfold State.setObj
    exact (hbit.put _ _ _ (hobj 3)).putBit _ _ hpend

theorem ethPut_lineKeys (p pcp : Nat) (f : EFrame) : Writes LineKeys s (s.ethPut p pcp f) := by
  have hdrop : LineKeys (Reg.ETH_DROP p) := by unfold LineKeys; exact .inr (.inr (.inr (.inr (.inr (.inl ⟨p, rfl⟩)))))
  unfold State.ethPut
  refine Writes.ite (fun _ => Writes.refl _ s) (fun _ => ?_)
  refine Writes.ite (fun _ => Writes.ite (fun _ => Writes.refl _ s) (fun _ => (Writes.refl _ s).count _ _ _ hdrop)) (fun _ => ?_)
  exact (Writes.refl _ s).of_agree (State.setEthQ_ag _ _ _ _) (by decide)

theorem gpubQueue_lineKeys (g gapMs : Nat) : Writes LineKeys s (s.gpubQueue g gapMs) := by
  unfold State.gpubQueue
  split
  · exact Writes.refl _ s
  · unfold State.ethSend
    refine Writes.foldl ?_ (fun u lp _ hu => Writes.foldl hu (fun v p _ hv => hv.trans (ethPut_lineKeys v _ _ _)))
    unfold when
    exact Writes.ite (fun _ => (Writes.refl _ s).of_agree (State.ethMod_ag _ _) (by decide)) (fun _ => Writes.refl _ s)

theorem gooseChange_lineKeys {g : Nat} (hg : g < 8) : Writes LineKeys s (s.gooseChange g) := by
  have hst : LineKeys (Reg.GPUB_ST g) := lineKeys_block (by unfold Reg.GPUB_ST; omega)
  have hsq : LineKeys (Reg.GPUB_SQ g) := lineKeys_block (by unfold Reg.GPUB_SQ; omega)
  unfold State.gooseChange
  refine Writes.ite (fun _ => Writes.refl _ s) (fun _ => ?_)
  refine Writes.trans (Writes.of_agree (Writes.wr ?_ _ hsq) (State.setGpub_ag _ _ _) (by decide)) (gpubQueue_lineKeys _ _ _)
  refine Writes.ite (fun _ => ?_) (fun _ => (Writes.refl _ s).wr _ hst)
  unfold State.gpubDrop
  exact (Writes.refl _ s).of_agree (State.ethMod_ag _ _) (by decide)

theorem gooseLines_lineKeys (l : List Nat) : Writes LineKeys s (s.gooseLines l) := by
  unfold State.gooseLines
  refine (Writes.refl _ s).foldl (fun u g hg hu => Writes.ite (fun _ => hu.trans ?_) (fun _ => hu))
  exact gooseChange_lineKeys u (List.mem_range.mp hg)

theorem released_lineKeys (res : Nat) : Writes LineKeys s (s.released res) := by
  unfold State.released
  refine Writes.ite (fun _ => Writes.refl _ s) (fun hv => ?_)
  obtain ⟨h1, h3, -⟩ := resValid_index (res := res) (by simpa using hv)
  refine Writes.ite (fun e => ?_) (fun _ => Writes.ite (fun e => ?_) (fun _ => Writes.refl _ s))
  · have hcfg : LineKeys (Reg.TIO_CFG (res % 4096)) := by have := h1 e; exact lineKeys_block (by unfold Reg.TIO_CFG; omega)
    exact ((Writes.refl _ s).put _ _ _ hcfg).of_agree (State.setPin_ag _ _ _) (by decide)
  · have hk := h3 e
    have hcfg : LineKeys (Reg.FIO_CFG (res % 4096)) := lineKeys_block (by unfold Reg.FIO_CFG; omega)
    have hgrp : LineKeys (Reg.FIO_GRP (res % 4096 / 8)) := lineKeys_block (by unfold Reg.FIO_GRP; omega)
    unfold State.fioRelease
    exact (((Writes.refl _ s).wr _ hcfg).putPair _ _ (lineKeys_block (by decide)) (lineKeys_block (by decide))).wr _ hgrp

theorem settleEnded_lineKeys : Writes LineKeys s s.settleEnded := by
  unfold State.settleEnded
  refine Writes.of_agree (Writes.foldl (Writes.refl _ s) (fun u x _ hu => ?_)) (State.setEnded_ag _ _) (by decide)
  exact Writes.ite (fun _ => hu.trans (released_lineKeys u x)) (fun _ => hu)

theorem fioDrive_lineKeys : Writes LineKeys s s.fioDrive := by
  have himage (u : State) : Writes LineKeys u u.fioImage :=
    ((Writes.refl _ u).wr _ (lineKeys_block (by decide))).wr _ (lineKeys_block (by decide))
  unfold State.fioDrive
  exact Writes.ite (fun _ => himage s) (fun _ => ((himage s).trans (settleEnded_lineKeys _)).trans (himage _))

/-- Claims that end release their channels and pins. -/
theorem endClaims_lineKeys (owner : Nat) (l : List Nat) : Writes LineKeys s (s.endClaims owner l) := by
  unfold State.endClaims
  refine (Writes.refl _ s).foldl (fun u x _ hu => ?_)
  unfold State.endClaim
  have h := hu.of_agree (State.setClaim_ag u x Claim.free) (by decide)
  exact Writes.ite (fun _ => hu) (fun _ => Writes.ite (fun _ => h.of_agree (State.setEnded_ag _ _) (by decide))
    (fun _ => h.trans (released_lineKeys _ x)))

end

/-! ### The lines -/

section
variable (s : State) {n : Nat} (hn : n < 64)
include hn

/-- The registers of a line that an evaluation step may write. -/
theorem lineKeys_line : LineKeys (Reg.TL_STAT n) ∧ LineKeys (Reg.TL_FLAG n) ∧ LineKeys (Reg.TL_CNT n) := by
  refine ⟨lineKeys_block ?_, lineKeys_block ?_, lineKeys_block ?_⟩ <;> simp only [Reg.TL_STAT, Reg.TL_FLAG, Reg.TL_CNT] <;> omega

theorem tlDeny_lineKeys : Writes LineKeys s (s.tlDeny n) := by
  obtain ⟨hstat, hflag, hcnt⟩ := lineKeys_line hn
  unfold State.tlDeny State.tlLog State.setTl
  have h := ((Writes.refl LineKeys s).put 31 29 2 hstat).of_agree (State.setLine_ag _ n { s.line n with waitAt := s.tb.cnt }) (by decide)
  exact (((h.putBit 0 true hflag).putBit 0 true (lineKeys_block (by decide))).count 31 16 1 hcnt).irq _ |>.log _ _ _ _

theorem tlGrant_lineKeys (waited : Bool) : Writes LineKeys s (s.tlGrant n waited) := by
  obtain ⟨hstat, -, hcnt⟩ := lineKeys_line hn
  unfold State.tlGrant State.tlLog State.setTl
  have h := (((Writes.refl LineKeys s).put 31 29 3 hstat).of_agree (State.setLine_ag _ n { s.line n with grantAt := s.tb.cnt }) (by decide)).count
    15 0 1 hcnt
  exact Writes.log (Writes.irq (Writes.ite (fun _ => (h.put 28 27 1 hstat).put 12 0 0 hstat) (fun _ => h)) _) _ _ _ _

theorem tlRun_lineKeys (src fresh : Bool) : Writes LineKeys s (s.tlRun n src fresh) := by
  obtain ⟨hstat, hflag, -⟩ := lineKeys_line hn
  unfold State.tlRun
  split
  · next cause _ =>
    unfold State.tlEnd State.tlLog State.setTl
    have h := ((Writes.refl LineKeys s).put 31 29 (if src then 4 else 1) hstat).of_agree
      (State.setLine_ag _ n { s.line n with cause := cause }) (by decide)
    exact Writes.log (Writes.irq (Writes.ite (fun _ => h.putBit 3 true hflag)
      (fun _ => Writes.ite (fun _ => h.putBit 2 true hflag) (fun _ => h))) _) _ _ _ _
  · have hobj : s.fld (Reg.TL_DST1 n) 24 16 < 512 := Nat.mod_lt _ (by decide)
    exact Writes.ite (fun _ => canQueue_lineKeys s (by omega) (by omega)) (fun _ => Writes.refl _ s)

theorem tlLine_lineKeys : Writes LineKeys s (s.tlLine n) := by
  obtain ⟨hstat, -, -⟩ := lineKeys_line hn
  unfold State.tlLine
  refine Writes.ite (fun _ => Writes.refl _ s) (fun _ => ?_)
  have h := ((Writes.refl LineKeys s).putBit 24 (s.tlActive n).isSome hstat).putBit 25 (s.tlGuard n) hstat
  dsimp only
  split
  · exact Writes.ite (fun _ => h) (fun _ => Writes.ite (fun _ => (h.trans (tlGrant_lineKeys _ hn _)).trans (tlRun_lineKeys _ hn _ _))
      (fun _ => h.trans (tlDeny_lineKeys _ hn)))
  · exact Writes.ite (fun _ => h.put _ _ _ hstat) (fun _ => Writes.ite
      (fun _ => (h.trans (tlGrant_lineKeys _ hn _)).trans (tlRun_lineKeys _ hn _ _)) (fun _ => h))
  · exact h.trans (tlRun_lineKeys _ hn _ _)
  · exact Writes.ite (fun _ => h) (fun _ => h.put _ _ _ hstat)

end

section
variable (s : State)

theorem tlPass_lineKeys : Writes LineKeys s s.tlPass := by
  have hretire (u : State) : Writes LineKeys u u.tlRetire := by
    unfold State.tlRetire State.tlStop
    refine (Writes.refl _ u).foldl (fun v x _ hv => Writes.ite (fun h => ?_) (fun _ => hv))
    obtain ⟨hstat, -, -⟩ := lineKeys_line ((resValid_index h.1).2.2 h.2.1)
    exact ((hv.putPair _ _ (lineKeys_block (by decide)) (lineKeys_block (by decide))).put _ _ _ hstat).put _ _ _ hstat
  have hdrive (u : State) : Writes LineKeys u u.tlDrive := by
    have h (w x y z : Word) : Writes LineKeys u
        ((((u.wr Reg.TL_ENERG_LO w).wr Reg.TL_ENERG_HI x).wr Reg.TL_GOOSE_LO y).wr Reg.TL_GOOSE_HI z) :=
      ((((Writes.refl _ u).wr _ (lineKeys_block (by decide))).wr _ (lineKeys_block (by decide))).wr _ (lineKeys_block (by decide))).wr _
        (lineKeys_block (by decide))
    unfold State.tlDrive
    exact (Writes.ite (fun _ => h _ _ _ _) (fun _ => (h _ _ _ _).trans (gooseLines_lineKeys _ _))).trans (fioDrive_lineKeys _)
  unfold State.tlPass
  refine (Writes.trans ?_ (hretire _)).trans (hdrive _)
  exact (Writes.refl _ s).foldl (fun u n hn hu => hu.trans (tlLine_lineKeys u (List.mem_range.mp hn)))

/-- An evaluation step leaves Lathe's block and the registers of the element cores. -/
theorem tlStep_lineKeys : Writes LineKeys s s.tlStep := by
  have haf (u : State) (c : Nat) : Writes LineKeys u (u.afStep c) := by
    have hstat : LineKeys (Reg.FPD_STAT c) := by unfold LineKeys; exact .inr (.inr (.inr (.inr (.inr (.inr (.inl ⟨c, rfl⟩))))))
    unfold State.afStep
    refine Writes.ite (fun _ => Writes.log (Writes.irq ?_ _) _ _ _ _) (fun _ => ?_)
    all_goals exact ((((Writes.refl _ u).of_agree (State.detMod_ag _ _ _) (by decide)).putBit _ _ hstat).putBit _ _ hstat).putBit _ _ hstat
  have h := tlPass_lineKeys s
  unfold State.tlStep
  dsimp only
  split
  · exact h
  · exact (h.foldl (fun u c _ hu => hu.trans (haf u c))).trans (tlPass_lineKeys _)

end

end Sys2Proof.Machine
end

section
/-!
Exceptions and control flow (R157, R158, R168 to R172, R179, R226, R297): what an exception does on each profile, jumps, loop ends and the end of a
program's work.
-/
namespace Sys2Proof.Machine
open Sys2Proof

/-! ### A halt of Lathe -/

section
variable (s : State) (kind cause pc : Nat)

/-- A halt before Lathe's safe image drives the outputs. -/
def State.haltNoted (s : State) (kind h : Nat) : State :=
  (((s.coreMod 18 (fun k => { k with run := if kind = 2 then .faulted else .idle })).put Reg.LTH_STAT 31 30 2).wr Reg.LTH_HALT (w32 h)).lthMod
    (fun l => { l with phase := .none })

/-- The safe image of the active half drives the outputs (R298). -/
def State.safeDriven (s : State) : State :=
  match (s.lthImg s.lthHalf).map (·.tables) with
  | some t => s.lthDrive ((List.range 3).map (fun w =>
      (s.rd (lthOutKey w) &&& ~~~ t.safeMask.getD w 0) ||| (t.safeVal.getD w 0 &&& t.safeMask.getD w 0)))
  | none => s

theorem State.lthHalt_eq : ∃ turn, s.lthHalt kind cause pc =
    (((s.haltNoted kind (kind * 0x10000000 + cause % 256 * 0x100000 + pc % 131072)).safeDriven.lthLog 0x1A1 kind
      (kind * 0x10000000 + cause % 256 * 0x100000 + pc % 131072) turn).armCancel 2).revertClose 2 := ⟨_, rfl⟩

theorem State.safeDriven_ag : Agree 1426063516173 s s.safeDriven := by
  unfold State.safeDriven
  split
  · exact (State.lthDrive_ag s _).mono (by decide)
  · exact Agree.refl _ s

/-- The keys a halt may write beside those of interrupts and records, once LTH_STAT and LTH_HALT are written. -/
def HaltKeys (a : Nat) : Prop := LineKeys a ∨ a = Reg.LTH_RCK ∨ a = Reg.LTH_BITS ∨ ∃ w, a = lthOutKey w

theorem not_haltKeys_lthHalt : ¬ HaltKeys Reg.LTH_HALT := by
  rintro (h | h | h | ⟨w, h⟩)
  · exact not_lineKeys_lthHalt h
  · exact absurd h (by decide)
  · exact absurd h (by decide)
  · simp only [Reg.LTH_HALT, lthOutKey] at h
    omega

theorem State.lthDrive_haltKeys (ws : List Word) : Writes HaltKeys s (s.lthDrive ws) := by
  unfold State.lthDrive
  have hout : Writes HaltKeys s (ws.zipIdx.foldl (fun t p => t.wr (lthOutKey p.2) p.1) s) :=
    (Writes.refl _ s).foldl (fun u p _ hu => hu.wr _ (.inr (.inr (.inr ⟨p.2, rfl⟩))))
  have hbits := hout.wr ((ws.zipIdx.foldl (fun t p => t.wr (lthOutKey p.2) p.1) s).rd (lthOutKey 2)) (a := Reg.LTH_BITS) (.inr (.inr (.inl rfl)))
  exact (hbits.trans ((fioDrive_lineKeys _).mono fun _ => .inl)).trans ((tlStep_lineKeys _).mono fun _ => .inl)

theorem State.lthLog_haltKeys (code sparam p0 p1 : Nat) : Writes HaltKeys s (s.lthLog code sparam p0 p1) :=
  ((Writes.refl _ s).irq _).log _ _ _ _

theorem State.armCancel_haltKeys (why : Nat) : Writes HaltKeys s (s.armCancel why) := by
  unfold State.armCancel
  exact Writes.ite (fun _ => Writes.refl _ s) (fun _ => ((Writes.refl _ s).putBit _ _ (.inr (.inl rfl))).trans (State.lthLog_haltKeys _ _ _ _ _))

theorem State.revertClose_haltKeys (why : Nat) : Writes HaltKeys s (s.revertClose why) := by
  have hrck : HaltKeys Reg.LTH_RCK := .inr (.inl rfl)
  unfold State.revertClose
  refine Writes.ite (fun _ => Writes.refl _ s) (fun _ => ?_)
  have h := (((Writes.refl HaltKeys s).putBit 2 false hrck).putBit 4 false hrck).put 31 22 0 hrck
  refine Writes.trans ?_ (State.lthLog_haltKeys _ _ _ _ _)
  refine Writes.trans (Writes.of_agree ?_ (State.lthMod_ag _ _) (by decide)) ((fioDrive_lineKeys _).mono fun _ => .inl)
  exact h.trans ((endClaims_lineKeys _ _ _).mono fun _ => .inl)

theorem State.safeDriven_haltKeys : Writes HaltKeys s s.safeDriven := by
  unfold State.safeDriven
  split
  · exact State.lthDrive_haltKeys s _
  · exact Writes.refl _ s

/-- Behind what a halt notes, only what the safe image drives and cancelled requests follow. -/
theorem State.lthHalt_after {h : Nat} (hh : kind * 0x10000000 + cause % 256 * 0x100000 + pc % 131072 = h) :
    Agree 1426063516173 (s.haltNoted kind h) (s.lthHalt kind cause pc) ∧ Writes HaltKeys (s.haltNoted kind h) (s.lthHalt kind cause pc) := by
  obtain ⟨turn, he⟩ := s.lthHalt_eq kind cause pc
  rw [he, hh]
  exact ⟨(((State.safeDriven_ag _).then (State.lthLog_ag _ _ _ _ _) (by decide)).then (State.armCancel_ag _ _) (by decide)).then
      (State.revertClose_ag _ _) (by decide),
    (((State.safeDriven_haltKeys (s.haltNoted kind h)).trans (State.lthLog_haltKeys _ 0x1A1 kind h turn)).trans
      (State.armCancel_haltKeys _ 2)).trans (State.revertClose_haltKeys _ 2)⟩

theorem State.core_lthHalt (n : Nat) : (s.lthHalt kind cause pc).core n =
    if 18 = n then { s.core 18 with run := if kind = 2 then .faulted else .idle } else s.core n := by
  obtain ⟨h, hh⟩ : ∃ h, kind * 0x10000000 + cause % 256 * 0x100000 + pc % 131072 = h := ⟨_, rfl⟩
  rw [(s.lthHalt_after kind cause pc hh).1.core n (by decide)]
  simp [State.haltNoted, State.put]

theorem State.rd_lthHalt {h : Nat} (hh : kind * 0x10000000 + cause % 256 * 0x100000 + pc % 131072 = h) :
    (s.lthHalt kind cause pc).rd Reg.LTH_HALT = w32 h := by
  rw [(s.lthHalt_after kind cause pc hh).2.rd _ not_haltKeys_lthHalt (not_signals (by decide))]
  simp [State.haltNoted]

end

/-! ### Entry to a vector of a supervisor core -/

section
variable (s : State) (i n ret c : Nat)

theorem State.sup_supEnter : (s.supEnter i n ret c).sup i = { s.sup i with
    sstat := putField (putField (s.sup i).sstat 3 2 (field (s.sup i).sstat 1 0)) 1 0 2, epc := w32 ret,
    cause := w32 (if 64 ≤ n then 0x80000000 + n else n) } := by
  unfold State.supEnter State.coreMod
  simp

theorem State.core_supEnter (k : Nat) : (s.supEnter i n ret c).core k =
    if 16 + i = k then { s.core (16 + i) with pc := supPc ((s.sup i).vbase.toNat + 8 * n), waiting := false, cyc := c + 12 } else s.core k := by
  unfold State.supEnter
  simp

/-- An internal cause enters its vector with IE cleared, PRIV set, and both kept in PIE and PPRIV (R157, R226). -/
theorem State.supEnter_shows (e : Nat) : let t := s.supEnter i (64 + e) ret c
    (t.sup i).epc = w32 ret ∧ (t.sup i).cause = w32 (0x80000000 + (64 + e)) ∧
    (t.core (16 + i)).pc = supPc ((s.sup i).vbase.toNat + 8 * (64 + e)) ∧
    field (t.sup i).sstat 1 0 = 2 ∧ field (t.sup i).sstat 3 2 = field (s.sup i).sstat 1 0 := by
  intro t
  have hsup : t.sup i = _ := s.sup_supEnter i (64 + e) ret c
  have hcore : t.core (16 + i) = _ := s.core_supEnter i (64 + e) ret c (16 + i)
  rw [if_pos rfl] at hcore
  rw [if_pos (Nat.le_add_right 64 e)] at hsup
  rw [hsup, hcore]
  refine ⟨rfl, rfl, rfl, ?_, ?_⟩
  · exact field_putField_same _ _ _ _ (by decide) (by decide)
  · dsimp only
    rw [field_putField_ne _ _ _ _ _ _ (by decide) (by decide) (by decide) (by decide), field_putField_same _ _ _ _ (by decide) (by decide)]
    exact Nat.mod_eq_of_lt (Nat.mod_lt _ (by decide))

end

/-! ### An exception on each profile -/

/-- An exception leaves the registers of its core. -/
theorem State.wTrap_keeps (s : State) (k : CoreId) (cause addr pc c : Nat) : KeepsRegs s (s.wTrap k cause addr pc c) k := by
  cases k with
  | elem e => exact s.wTrap_keeps_elem cause pc addr e c
  | sup i =>
    have h : (s.wTrap (.sup i) cause addr pc c).core (16 + i.val) = _ := s.core_supEnter i.val (64 + cause) (4 * pc) c (16 + i.val)
    rw [if_pos rfl] at h
    exact .of_core (by rw [CoreId.num, h]) (by rw [CoreId.num, h]) (by rw [CoreId.num, h])
  | lathe =>
    have h : (s.wTrap .lathe cause addr pc c).core 18 = _ := s.core_lthHalt 2 cause pc 18
    rw [if_pos rfl] at h
    exact .of_core (by rw [CoreId.num, h]) (by rw [CoreId.num, h]) (by rw [CoreId.num, h])

theorem wCause_values {p : Prof} {w : Word} {e : Nat} (h : wCause p w = some e) : e = 1 ∨ e = 2 := by
  unfold wCause at h
  dsimp only at h
  split_ifs at h <;> simp only [Option.some.injEq] at h <;> omega

/-- The kind and the cause that a halt shows (R297). -/
theorem field_halt {e pc : Nat} (he : e < 256) :
    field (w32 (2 * 0x10000000 + e % 256 * 0x100000 + pc % 131072)) 31 28 = 2 ∧
    field (w32 (2 * 0x10000000 + e % 256 * 0x100000 + pc % 131072)) 27 20 = e := by
  simp only [field, w32, BitVec.toNat_ofNat]
  omega

section
variable {s : State} {k : CoreId} {w : Word}

theorem fetched_keeps (s : State) (k : CoreId) : KeepsRegs s ((s.woken k).fetched k) k :=
  (s.woken_keeps k).trans (.of_cores ((State.fetched_ag _ k).cores (by decide)))

end

/-- Settles O19: an illegal word raises its cause in place of executing, and each profile takes the exception in its own way. -/
theorem illegalWordRaisesItsCause : Obligations.IllegalWordRaisesItsCause := by
  unfold Obligations.IllegalWordRaisesItsCause
  refine fun s k w => ⟨fun h => congrArg Host.Outcome.next (if_pos h), fun e he ha hc hu hb => ?_⟩
  have hill : s.illegal k w = s.walso k w .ok := if_neg (by simp [he])
  have hcause : s.fetchCause k w = some e := (if_neg hu).trans he
  obtain ⟨hg, hz, hp⟩ := (fetched_keeps s k).trans (((s.woken k).fetched k).wTrap_keeps k e 0 (s.core k.num).pc (s.timing k).cyc)
  refine ⟨_, congrArg Host.Outcome.next (hill.trans (State.walso_raises ha hc hcause hb)), hg, hz, hp, ?_, ?_, ?_⟩
  · rintro c rfl
    obtain ⟨hfault, -⟩ := (((s.woken (.elem c)).fetched (.elem c))).coreFault_shows (c := c.val) e (s.core c.val).pc 0 c.isLt
    exact ⟨by rw [State.wTrap, State.core_coreFault, if_pos rfl], hfault⟩
  · rintro i rfl
    exact State.supEnter_shows (s.woken (.sup i)) i.val (4 * (s.core (16 + i.val)).pc) (s.timing (.sup i)).cyc e
  · rintro rfl
    have hlt : e < 256 := by have := wCause_values he; omega
    obtain ⟨hkind, hval⟩ := field_halt (pc := (s.core 18).pc) hlt
    refine ⟨?_, ?_, ?_⟩
    · rw [State.wTrap, State.core_lthHalt, if_pos rfl, if_pos rfl]
    · rw [State.wTrap, State.fld, State.rd_lthHalt _ _ _ _ rfl]
      exact hkind
    · rw [State.wTrap, State.fld, State.rd_lthHalt _ _ _ _ rfl]
      exact hval

end Sys2Proof.Machine
end

section
/-!
Control flow (R168 to R172, R292), and the returns and waits of a supervisor core (R157, R226).
-/
namespace Sys2Proof.Machine
open Sys2Proof

/-! ### What does not depend on the issue -/

section
variable (s : State) (k : CoreId) (w : Word)

@[simp] theorem codeLimit_atIssue : (s.atIssue k w).codeLimit k = s.codeLimit k := by cases k <;> rfl

@[simp] theorem sup_atIssue (i : Nat) : (s.atIssue k w).sup i = s.sup i := rfl

@[simp] theorem supReady_atIssue (i : Nat) : (s.atIssue k w).supReady i = s.supReady i := rfl

theorem core_atIssue : (s.atIssue k w).core k.num = { s.core k.num with waiting := false, cyc := s.issueCycle k w } := by
  simp [State.atIssue]

end

/-! ### Jumps -/

/-- From s to u nothing but core k changes, which keeps its registers and flags, and has the return addresses `rets` and the loops `loops`. -/
structure Redirects (s u : State) (k : CoreId) (rets : List Nat) (loops : List LoopFrame) : Prop where
  only : OnlyCore s u k
  keeps : KeepsRegs s u k
  fstat : (u.core k.num).fstat = (s.core k.num).fstat
  rets : (u.core k.num).rets = rets
  loops : (u.core k.num).loops = loops

section
variable {s u : State} {k : CoreId} {w : Word} {eff : State → WEff} {p cost : Nat} {rets : List Nat} {loops : List LoopFrame}

theorem redirects_atIssue (s : State) (k : CoreId) (w : Word) : Redirects s (s.atIssue k w) k (s.core k.num).rets (s.core k.num).loops :=
  ⟨s.atIssue_only k w, s.atIssue_keeps k w, by simp, by simp, by simp⟩

theorem redirects_setCore (s : State) (k : CoreId) (w : Word) (rets : List Nat) (loops : List LoopFrame) :
    Redirects s ((s.atIssue k w).setCore k.num { (s.atIssue k w).core k.num with rets := rets, loops := loops }) k rets loops := by
  refine ⟨(s.atIssue_only k w).trans (.coreMod (s.atIssue k w) k (fun x => { x with rets := rets, loops := loops })), .of_core ?_ ?_ ?_, ?_, ?_, ?_⟩ <;>
    rw [State.core_setCore, if_pos rfl]
  all_goals rw [core_atIssue]

theorem Redirects.keeps_settled (hu : Redirects s u k rets loops) (t : Timing) (c : Nat) : KeepsRegs s (u.settled k t w c cost p) k :=
  hu.keeps.trans State.settled_keeps

theorem walso_jumpsTo (h : s.Runs k w) (he : eff (s.atIssue k w) = .jump u p cost) (hu : Redirects s u k rets loops)
    (hl : (s.core k.num).loops = [] → loops = []) : JumpsTo s (s.walso k w eff) k rets p := by
  rw [State.walso_jump h he]
  obtain ⟨hg, hz, hp⟩ := hu.keeps_settled (w := w) (cost := cost) (p := p) (s.timing k) (s.issueCycle k w)
  exact ⟨hu.only.trans (State.settled_only _ _ _ _ _ _ _), hg, hz, hp, by rw [State.settled_fstat, hu.fstat],
    by rw [State.settled_rets, hu.rets], fun h => State.settled_falls u k _ w _ cost p (hu.loops.trans (hl h))⟩

theorem walso_br {off : Nat} (h : s.Runs k w) (ht : (s.core k.num).pc + 1 + off < s.codeLimit k)
    (he : eff (s.atIssue k w) = (s.atIssue k w).branch k off) :
    JumpsTo s (s.walso k w eff) k (s.core k.num).rets ((s.core k.num).pc + 1 + off) := by
  refine walso_jumpsTo (cost := 3) h (he.trans ?_) (redirects_atIssue s k w) id
  unfold State.branch
  rw [codeLimit_atIssue, State.atIssue_pc]
  exact if_neg (by omega)

theorem walso_jt {ra n : Nat} (h : s.Runs k w) (he : eff (s.atIssue k w) = (s.atIssue k w).jumpTable k ra n) :
    JumpsTo s (s.walso k w eff) k (s.core k.num).rets ((s.core k.num).pc + 1 + min (s.gr k ra).toNat n) := by
  refine walso_jumpsTo (cost := 3) h (he.trans ?_) (redirects_atIssue s k w) id
  unfold State.jumpTable
  rw [State.atIssue_pc, State.atIssue_gr]

theorem walso_call {target : Nat} (h : s.Runs k w) (hr : (s.core k.num).rets.length < 8) (ht : target < s.codeLimit k)
    (he : eff (s.atIssue k w) = (s.atIssue k w).call k target) :
    JumpsTo s (s.walso k w eff) k (((s.core k.num).pc + 1) :: (s.core k.num).rets) target := by
  refine walso_jumpsTo (cost := 3) h (he.trans ?_) (redirects_setCore s k w _ (s.core k.num).loops) id
  unfold State.call
  rw [codeLimit_atIssue, if_neg (by rw [State.atIssue_rets]; omega), if_neg (by omega), core_atIssue]

theorem walso_ret {p : Nat} {ps : List Nat} (h : s.Runs k w) (hr : (s.core k.num).rets = p :: ps)
    (he : eff (s.atIssue k w) = (s.atIssue k w).ret k) : JumpsTo s (s.walso k w eff) k ps p := by
  refine walso_jumpsTo (cost := 3) h (he.trans ?_) (redirects_setCore s k w ps
    ((s.core k.num).loops.filter (fun f => decide (f.depth ≤ ps.length)))) (fun hl => by rw [hl]; rfl)
  unfold State.ret
  dsimp only
  rw [State.atIssue_rets, hr]
  dsimp only
  rw [State.atIssue_loops]

end

/-! ### Loops -/

/-- A loop that is entered goes on at its first instruction. -/
theorem loopTurn_entered (f : LoopFrame) (fs : List LoopFrame) (depth p : Nat) (hp : p ≠ f.start + f.len) :
    loopTurn depth p (f :: fs) = (f :: fs, p) := if_pos (.inr hp)

/-- At the end of the only body the next iteration starts, or the loop is left. -/
theorem loopTurn_end (f : LoopFrame) (depth p : Nat) (hd : f.depth = depth) (hp : p = f.start + f.len) :
    loopTurn depth p [f] = if f.idx + 1 < f.trip then ([{ f with idx := f.idx + 1 }], f.start) else ([], p) := by
  unfold loopTurn
  rw [if_neg (by simp [hd, hp])]
  rfl

theorem core_settled_flow (u : State) (k : CoreId) (t : Timing) (w : Word) (c cost p : Nat) :
    ((u.settled k t w c cost p).core k.num).loops = (loopTurn (u.core k.num).rets.length p (u.core k.num).loops).1 ∧
    ((u.settled k t w c cost p).core k.num).pc = (loopTurn (u.core k.num).rets.length p (u.core k.num).loops).2 := by
  simp [State.settled, State.issued, Core.goTo]

section
variable {s : State} {k : CoreId} {w : Word} {eff : State → WEff}

theorem walso_loop {trip len : Nat} (h : s.Runs k w) (hl : (s.core k.num).loops.length < 4)
    (he : eff (s.atIssue k w) = (s.atIssue k w).loopEnter k trip len) : let t := s.walso k w eff
    OnlyCore s t k ∧ KeepsG s t k ∧ KeepsZ s t k ∧ KeepsP s t k ∧ (t.core k.num).pc = (s.core k.num).pc + 1 ∧
    (t.core k.num).rets = (s.core k.num).rets ∧ (t.core k.num).loops =
      { start := (s.core k.num).pc + 1, len := len + 1, trip := trip + 1, idx := 0, depth := (s.core k.num).rets.length } ::
        (s.core k.num).loops := by
  intro t
  let x := s.core k.num
  let f : LoopFrame := { start := x.pc + 1, len := len + 1, trip := trip + 1, idx := 0, depth := x.rets.length }
  have hu := redirects_setCore s k w x.rets (f :: x.loops)
  let u := (s.atIssue k w).setCore k.num { (s.atIssue k w).core k.num with rets := x.rets, loops := f :: x.loops }
  have heff : eff (s.atIssue k w) = .ok u := by
    rw [he]
    unfold State.loopEnter
    dsimp only
    rw [if_neg (by rw [State.atIssue_loops]; omega), State.atIssue_loops, State.atIssue_pc, State.atIssue_rets]
    unfold u
    rw [core_atIssue]
  obtain ⟨hg, hz, hp⟩ := hu.keeps_settled (w := w) (cost := (wIssue w).cost) (p := x.pc + 1) (s.timing k) (s.issueCycle k w)
  obtain ⟨hloops, hpc⟩ := core_settled_flow u k (s.timing k) w (s.issueCycle k w) (wIssue w).cost (x.pc + 1)
  rw [hu.loops, loopTurn_entered f _ _ _ (by unfold f; dsimp only; omega)] at hloops hpc
  have ht : t = _ := State.walso_ok h heff
  rw [ht]
  exact ⟨hu.only.trans (State.settled_only _ _ _ _ _ _ _), hg, hz, hp, hpc, (State.settled_rets _ _ _ _ _ _ _).trans hu.rets, hloops⟩

/-- The last instruction of the only open body, where it falls through (R169). -/
theorem walso_bodyEnd {f : LoopFrame} (h : s.Runs k w) (hl : (s.core k.num).loops = [f]) (hd : f.depth = (s.core k.num).rets.length)
    (hp : (s.core k.num).pc + 1 = f.start + f.len) : let t := s.walso k w .ok
    OnlyCore s t k ∧ (f.idx + 1 < f.trip → (t.core k.num).pc = f.start ∧ (t.core k.num).loops = [{ f with idx := f.idx + 1 }]) ∧
    (f.trip ≤ f.idx + 1 → (t.core k.num).pc = (s.core k.num).pc + 1 ∧ (t.core k.num).loops = []) := by
  intro t
  have ht : t = _ := State.walso_ok h rfl
  obtain ⟨hloops, hpc⟩ := core_settled_flow (s.atIssue k w) k (s.timing k) w (s.issueCycle k w) (wIssue w).cost ((s.core k.num).pc + 1)
  rw [State.atIssue_rets, State.atIssue_loops, hl, loopTurn_end f _ _ hd hp] at hloops hpc
  rw [ht, hloops, hpc]
  refine ⟨(s.atIssue_only k w).trans (State.settled_only _ _ _ _ _ _ _), fun hi => ?_, fun hi => ?_⟩
  · simp [hi]
  · simp [show ¬ f.idx + 1 < f.trip by omega]

/-- The end of a program's work, outside every loop and function (R172, R292). -/
theorem walso_workEnd {base : Nat} (h : s.Runs k w) (hl : (s.core k.num).loops = []) (hr : (s.core k.num).rets = [])
    (he : eff (s.atIssue k w) = (s.atIssue k w).workEnd k base) : let t := s.walso k w eff
    OnlyCore s t k ∧ KeepsG s t k ∧ KeepsZ s t k ∧ KeepsP s t k ∧ (t.core k.num).run = .ended ∧
    (t.core k.num).endCyc = base + s.issueCycle k w := by
  have hend : eff (s.atIssue k w) = .done ((s.atIssue k w).coreMod k.num (fun x => { x with endCyc := base + x.cyc })) := by
    rw [he]
    unfold State.workEnd
    dsimp only
    rw [if_neg (by rw [State.atIssue_loops, State.atIssue_rets, hl, hr]; simp)]
    rfl
  intro t
  have ht : t = _ := State.walso_done h hend
  obtain ⟨hg, hz, hp⟩ : KeepsRegs s t k := by
    rw [ht]
    unfold State.issued
    exact .of_core (by simp [core_atIssue]) (by simp [core_atIssue]) (by simp [core_atIssue])
  refine ⟨?_, hg, hz, hp, ?_⟩ <;> rw [ht] <;> unfold State.issued
  · exact (((s.atIssue_only k w).trans (.coreMod _ k _)).trans (.coreMod _ k _)).trans (.coreMod _ k _)
  · simp [core_atIssue]

end

/-- Settles O20: a jump redirects the core, a loop is pushed or turned, and the end of the work stops the core. -/
theorem walsoControlFlow : Obligations.WalsoControlFlow := by
  unfold Obligations.WalsoControlFlow
  refine ⟨fun s k pn ps ra z off low trip len n z9 target => ⟨fun h ht => ⟨_, rfl, walso_br h ht rfl⟩, fun h hl => ⟨_, rfl, walso_loop h hl rfl⟩,
      fun h => ⟨_, rfl, walso_jt h rfl⟩, fun h hr ht => ⟨_, rfl, walso_call h hr ht rfl⟩, fun p ps' h hr => ⟨_, rfl, walso_ret h hr rfl⟩⟩,
    fun s j ps pn z f h hl hd hp => ⟨_, rfl, walso_bodyEnd h hl hd hp⟩,
    fun s pn ps z => ⟨fun c h hl hr => ⟨_, rfl, walso_workEnd h hl hr rfl⟩, fun h hl hr => ⟨_, rfl, ?_⟩⟩⟩
  have hend := walso_workEnd (eff := fun t => t.workEnd .lathe 0) h hl hr rfl
  rwa [Nat.zero_add] at hend

/-! ### Privilege, returns and waits of a supervisor core -/

section
variable {s : State} {j : Fin 2} {w : Word} {eff : State → WEff}

theorem OnlyCore.sup {t : State} {k : CoreId} (h : OnlyCore s t k) (i : Nat) : t.sup i = s.sup i := by rw [h.1]; rfl

theorem privileged_atIssue (s : State) (j : Fin 2) (w : Word) :
    (s.atIssue (.sup j) w).privileged (.sup j) = bitAt (s.sup j.val).sstat 1 := rfl

/-- What needs the privileged level and does not have it enters vector 77 (R157, R226). -/
theorem walso_unprivileged (h : s.Runs (.sup j) w) (he : eff (s.atIssue (.sup j) w) = .trap 13 0) : let t := s.walso (.sup j) w eff
    (t.sup j.val).epc = w32 (4 * (s.core (16 + j.val)).pc) ∧ (t.sup j.val).cause = 0x8000004D ∧
    (t.core (16 + j.val)).pc = supPc ((s.sup j.val).vbase.toNat + 616) ∧ field (t.sup j.val).sstat 1 0 = 2 ∧
    field (t.sup j.val).sstat 3 2 = field (s.sup j.val).sstat 1 0 ∧ KeepsG s t (.sup j) ∧ t = { s with cores := t.cores, sups := t.sups } := by
  intro t
  have ht : t = (s.woken (.sup j)).wTrap (.sup j) 13 0 (s.core (16 + j.val)).pc (s.issueCycle (.sup j) w) := State.walso_trap h he
  obtain ⟨hepc, hcause, hpc, hie, hpie⟩ :=
    State.supEnter_shows (s.woken (.sup j)) j.val (4 * (s.core (16 + j.val)).pc) (s.issueCycle (.sup j) w) 13
  have hkeeps := (s.woken_keeps (.sup j)).trans (State.wTrap_keeps _ _ 13 0 (s.core (16 + j.val)).pc (s.issueCycle (.sup j) w))
  have hag : Agree 5368709120 s t := by
    rw [ht]
    exact ((Agree.refl _ s).then (State.coreMod_ag _ _ _) (by decide)).then (State.supEnter_ag _ _ _ _ _) (by decide)
  clear_value t
  subst ht
  exact ⟨hepc, hcause, hpc, hie, hpie, hkeeps.1, hag.eq_overlay⟩

/-- A return from an exception (R226). -/
theorem walso_eret (h : s.Runs (.sup j) w) (hp : bitAt (s.sup j.val).sstat 1 = true)
    (he : eff (s.atIssue (.sup j) w) = (s.atIssue (.sup j) w).eret (.sup j)) : let t := s.walso (.sup j) w eff
    let u := s.sup j.val
    t = { s with cores := t.cores, sups := t.sups } ∧ KeepsG s t (.sup j) ∧ KeepsZ s t (.sup j) ∧ KeepsP s t (.sup j) ∧
    field (t.sup j.val).sstat 1 0 = field u.sstat 3 2 ∧ field (t.sup j.val).sstat 3 2 = field u.sstat 3 2 ∧ (t.sup j.val).epc = u.epc ∧
    ((s.core (16 + j.val)).loops = [] → (t.core (16 + j.val)).pc = supPc u.epc.toNat) := by
  let x : SupU := { s.sup j.val with sstat := putField (s.sup j.val).sstat 1 0 (field (s.sup j.val).sstat 3 2) }
  let v := (s.atIssue (.sup j) w).setSup j.val x
  have heff : eff (s.atIssue (.sup j) w) = .jump v (supPc (s.sup j.val).epc.toNat) 3 := by
    rw [he]
    exact if_pos hp
  have hcore : v.core (16 + j.val) = (s.atIssue (.sup j) w).core (16 + j.val) := rfl
  obtain ⟨hg, hz, hpr⟩ : KeepsRegs s _ (.sup j) := ((s.atIssue_keeps (.sup j) w).trans (KeepsRegs.of_cores (t := v) rfl)).trans
    (State.settled_keeps (t := s.timing (.sup j)) (w := w) (c := s.issueCycle (.sup j) w) (cost := 3) (p := supPc (s.sup j.val).epc.toNat))
  intro t u
  have ht : t = _ := State.walso_jump h heff
  have hag : Agree 5368709120 s t := by
    rw [ht]
    exact (((State.atIssue_ag s (.sup j) w).mono (by decide)).then (State.setSup_ag _ _ _) (by decide)).then (State.settled_ag _ _ _ _ _ _ _) (by decide)
  have hsup : t.sup j.val = x := by
    rw [ht, (State.settled_only v _ _ _ _ _ _).sup]
    exact (State.sup_setSup _ _ _ _).trans (if_pos rfl)
  clear_value t
  rw [hsup]
  refine ⟨hag.eq_overlay, by rw [ht]; exact hg, by rw [ht]; exact hz, by rw [ht]; exact hpr, ?_, ?_, rfl, fun hl => ?_⟩
  · refine (field_putField_same _ _ _ _ (by decide) (by decide)).trans (Nat.mod_eq_of_lt (Nat.mod_lt _ (by decide)))
  · exact field_putField_ne _ _ _ _ _ _ (by decide) (by decide) (by decide) (by decide)
  · rw [ht]
    refine (State.settled_falls v (.sup j) _ w _ 3 _ ?_).2
    rw [← hl]
    exact (congrArg Core.loops hcore).trans (State.atIssue_loops s (.sup j) w)

/-- A wait falls through, and sleeps where no enabled source is pending (R226). -/
theorem walso_wfi (h : s.Runs (.sup j) w) (he : eff (s.atIssue (.sup j) w) = .ok ((s.atIssue (.sup j) w).wfi (.sup j))) :
    let t := s.walso (.sup j) w eff
    OnlyCore s t (.sup j) ∧ WritesNone s t (.sup j) ∧ (t.core (16 + j.val)).waiting = decide (s.supReady j.val = 0) := by
  have hat : (s.atIssue (.sup j) w).core (16 + j.val) = _ := core_atIssue s (.sup j) w
  have hwfi : OnlyCore s ((s.atIssue (.sup j) w).wfi (.sup j)) (.sup j) ∧ ((s.atIssue (.sup j) w).wfi (.sup j)).core (16 + j.val) =
      { s.core (16 + j.val) with waiting := decide (s.supReady j.val = 0), cyc := s.issueCycle (.sup j) w } := by
    unfold State.wfi
    dsimp only
    rw [supReady_atIssue]
    split
    next h0 => exact ⟨(s.atIssue_only _ w).trans (.coreMod _ (.sup j) _), by simp [h0, hat, CoreId.num]⟩
    next h0 => exact ⟨s.atIssue_only _ w, by rw [hat, decide_eq_false h0]; rfl⟩
  obtain ⟨honly, hshows⟩ := hwfi
  intro t
  have ht : t = _ := State.walso_ok h he
  rw [ht]
  refine ⟨honly.trans (State.settled_only _ _ _ _ _ _ _), writesNone_settled (.of_core ?_ ?_ ?_) ?_ ?_ ?_, ?_⟩
  iterate 6
    · rw [CoreId.num, hshows]
  simp [State.settled, State.issued, CoreId.num, hshows, Core.goTo]

/-- A fence is no more than its issue (R226). -/
theorem walso_fence (h : s.Runs (.sup j) w) : OnlyCore s (s.walso (.sup j) w .ok) (.sup j) ∧ WritesNone s (s.walso (.sup j) w .ok) (.sup j) := by
  rw [State.walso_ok h rfl]
  exact ⟨(s.atIssue_only _ w).trans (State.settled_only _ _ _ _ _ _ _), writesNone_settled (s.atIssue_keeps _ w) (by simp) (by simp) (by simp)⟩

end

/-- Settles O22: below the privileged level a vector is entered, and ERET, WFI and FENCE each do their own. -/
theorem supervisorPrivilegeReturnsWaits : Obligations.SupervisorPrivilegeReturnsWaits := by
  unfold Obligations.SupervisorPrivilegeReturnsWaits
  refine ⟨fun s j i w => ?_, fun s j pn ps z => ⟨fun h hp => ⟨_, rfl, walso_eret h hp rfl⟩, fun h => ⟨_, rfl, walso_wfi h rfl⟩,
    fun h => ⟨_, rfl, walso_fence h⟩⟩⟩
  dsimp only
  rintro (⟨pn, ps, rd, ra, n, rfl⟩ | ⟨pn, ps, z, rfl⟩) hw h hp <;> obtain ⟨-, rfl⟩ := Prod.mk.inj (Option.some.inj hw)
  · exact ⟨_, rfl, walso_unprivileged h (if_neg (by rw [privileged_atIssue, hp]; decide))⟩
  · exact ⟨_, rfl, walso_unprivileged h (if_neg (by rw [privileged_atIssue, hp]; decide))⟩

end Sys2Proof.Machine
end

section
/-!
Commands of the element cores: requests and their effect at a tick start (R188), the second ports (R166), refusals (R185, R627).
-/
namespace Sys2Proof.Machine
open Sys2Proof

/-! ### Words kept -/

section
variable {s t u : State} {xs : List Nat}

theorem OnlyRegs.refl (s : State) (xs : List Nat) : OnlyRegs s s xs := fun _ _ => rfl

theorem OnlyRegs.wr (h : OnlyRegs s t xs) {a : Nat} (v : Word) (ha : a ∈ xs) : OnlyRegs s (t.wr a v) xs := fun k hk => by
  rw [State.rd_wr, if_neg (fun e : a = k => hk (e ▸ ha)), h k hk]

theorem OnlyRegs.of_agree (h : OnlyRegs s t xs) {m : Nat} (k : Agree m t u) (hm : m.testBit 0 = false) : OnlyRegs s u xs := fun a ha =>
  (k.rd a hm).trans (h a ha)

end

/-! ### CORE_STAT -/

section
variable (s : State) (c i : Nat) (b : Bool)

theorem cstat_setCstat (j : Nat) (hi : i < 32) : (s.setCstat c i b).cstat c j = if i = j then b else s.cstat c j := by
  unfold State.cstat State.setCstat
  simp [State.bit_putBit _ _ _ _ _ _ hi]

@[simp] theorem elem_setCstat (k : Nat) : (s.setCstat c i b).elem k = s.elem k := (State.setCstat_ag s c i b).elem k (by decide)

/-- A command that is refused shows CMD_ERR and changes nothing else (R185, R627). -/
theorem coreCmdErr_shows : let t := s.coreCmdErr c
    t.cstat c csCMDERR = true ∧ OnlyRegs s t [Reg.CORE_STAT c] ∧ t = { s with regs := t.regs } :=
  ⟨cstat_setCstat s c csCMDERR true csCMDERR (by decide), (OnlyRegs.refl s _).wr _ (by simp), (State.coreCmdErr_ag s c).eq_regs⟩

/-- A command that changes the element record of a cluster and one bit of a register. -/
theorem elemBit_shows (a : Nat) (f : ElemU → ElemU) (hi : i < 32) : let t := (s.elemMod c f).putBit a i b
    t.bit a i = b ∧ t.elem c = f (s.elem c) ∧ (∀ n, n ≠ c → t.elem n = s.elem n) ∧ OnlyRegs s t [a] ∧
    t = { s with regs := t.regs, elems := t.elems } := by
  have helem (n : Nat) : ((s.elemMod c f).putBit a i b).elem n = if c = n then f (s.elem c) else s.elem n :=
    ((State.putBit_ag _ _ _ _).elem n (by decide)).trans (elem_elemMod s c f n)
  refine ⟨?_, (helem c).trans (if_pos rfl), fun n hn => (helem n).trans (if_neg (Ne.symm hn)),
    ((OnlyRegs.refl s _).of_agree (State.elemMod_ag s c f) (by decide)).wr _ (by simp), ?_⟩
  · rw [State.bit_putBit _ _ _ _ _ _ hi, if_pos ⟨rfl, rfl⟩]
  · exact (((Agree.refl 2147483649 s).then (State.elemMod_ag s c f) (by decide)).then (State.putBit_ag _ a i b) (by decide)).eq_overlay

end

/-! ### Run and stop -/

section
variable {s : State} {c : Fin 16}

/-- A core stops at the tick start: what it posted becomes 0 (R188). -/
theorem coreStopApply_shows (ht : s.atTickStart c.val = true) (hs : (s.elem c.val).stopReq = true) : let t := s.coreStopApply c.val
    (t.elem c.val).posted = 0 ∧ (t.elem c.val).flags = 0 ∧ (t.elem c.val).stopReq = false ∧ (t.core c.val).run = .idle ∧
    t.coreStopped c.val = true ∧ (∀ n, n ≠ c.val → t.core n = s.core n) ∧ (∀ n, n ≠ c.val → t.elem n = s.elem n) := by
  let f (e : ElemU) : ElemU := { e.postFlags 0 s.tickNo s.epoch with stopReq := false, posted := 0 }
  let g (k : Core) : Core := { k with run := .idle }
  let u := ((s.elemMod c.val f).coreMod c.val g).setCstat c.val csSTOPPED true
  intro t
  have htick : t = u.tlStep := if_pos (by rw [ht, hs]; rfl)
  have helem (n : Nat) : t.elem n = if c.val = n then f (s.elem c.val) else s.elem n := by
    rw [htick, (State.tlStep_ag u).elem n (by decide)]
    exact (elem_setCstat _ _ _ _ n).trans (((State.coreMod_ag _ _ _).elem n (by decide)).trans (elem_elemMod s c.val f n))
  have hcore (n : Nat) : t.core n = if c.val = n then g (s.core c.val) else s.core n := by
    rw [htick, (State.tlStep_ag u).core n (by decide), (State.setCstat_ag _ _ _ _).core n (by decide), State.core_coreMod]
    rfl
  have hstop : t.coreStopped c.val = true := by
    rw [htick]
    exact ((tlStep_lineKeys u).bit csSTOPPED (not_lineKeys_coreStat c) (not_signals (by unfold Reg.CORE_STAT; omega))).trans
      (cstat_setCstat _ _ _ _ _ (by decide))
  clear_value t
  rw [helem, if_pos rfl, hcore, if_pos rfl]
  exact ⟨rfl, rfl, rfl, rfl, hstop, fun n hn => (hcore n).trans (if_neg (Ne.symm hn)), fun n hn => (helem n).trans (if_neg (Ne.symm hn))⟩

end

/-! ### Second ports -/

section
variable (s : State) (r : Req) (c key : Nat) (v : Word)

/-- A refused access writes no register but the interrupt's (R166, R578). -/
theorem indFail_refuses (cause : Nat) : OnlyRegs s (s.indFail r cause) [Reg.INT_STAT_HI] ∧
    s.indFail r cause = { s with regs := (s.indFail r cause).regs, inds := (s.indFail r cause).inds, supPend := (s.indFail r cause).supPend } := by
  refine ⟨fun a ha => ?_, (State.indFail_ag s r cause).eq_overlay⟩
  unfold State.indFail State.irq
  rw [State.rd_raiseSup]
  exact State.rd_putBit_ne _ _ _ _ _ (by simpa [eq_comm] using ha)

/-- A written word of a cluster's memories (R165, R166). -/
theorem wrMem_shows : let t := s.wrMem c key v
    t.rd key = v ∧ OnlyRegs s t [key] ∧ t.upset c key = 0 ∧ (∀ n k, n ≠ c ∨ k ≠ key → t.upset n k = s.upset n k) ∧
    (∀ n, t.elem n = { s.elem n with errs := (t.elem n).errs }) ∧ t = { s with regs := t.regs, elems := t.elems } := by
  refine ⟨(State.rd_wr _ _ _ _).trans (if_pos rfl), (OnlyRegs.refl s _).wr v (by simp), (upset_wrMem s c key v c key).trans (if_pos ⟨rfl, rfl⟩),
    fun n k h => (upset_wrMem s c key v n k).trans (if_neg ?_), elem_wrMem s c key v, (State.wrMem_ag s c key v).eq_overlay⟩
  rintro ⟨rfl, rfl⟩
  exact h.elim (· rfl) (· rfl)

end

/-- Settles O37: requests are noted, applied at a tick start, and the second ports write a DMEM word of a stopped core or refuse. -/
theorem elementCoreRunStopAndPorts : Obligations.ElementCoreRunStopAndPorts := by
  unfold Obligations.ElementCoreRunStopAndPorts
  refine fun s c r addr v => ⟨?_, fun hl => ?_, fun hl => ?_, fun ht hs => ?_, fun ht hs => ?_, fun hs hr => ?_, fun hs hr => ?_, fun hr => ?_⟩
  · obtain ⟨hbit, helem, hothers, hregs, hframe⟩ := elemBit_shows s c.val 0 false (Reg.CORE_CTRL c.val)
      (fun e => { e with stopReq := !s.coreStopped c.val, startReq := false }) (by decide)
    exact ⟨_, rfl, hbit, congrArg ElemU.stopReq helem, congrArg ElemU.startReq helem, hothers, hregs, hframe⟩
  · obtain ⟨hbit, helem, hothers, hregs, hframe⟩ := elemBit_shows s c.val 0 true (Reg.CORE_CTRL c.val)
      (fun e => { e with startReq := s.coreStopped c.val, stopReq := false }) (by decide)
    exact ⟨_, congrArg Host.Outcome.next (if_neg (by simp [hl])), hbit, congrArg ElemU.startReq helem, congrArg ElemU.stopReq helem, hothers,
      hregs, hframe⟩
  · obtain ⟨herr, hregs, hframe⟩ := coreCmdErr_shows s c.val
    exact ⟨_, congrArg Host.Outcome.next (if_pos (by simp [hl])), herr, by rw [hframe], hregs⟩
  · obtain ⟨hposted, hflags, hreq, hrun, hstop, hcores, hothers⟩ := coreStopApply_shows ht hs
    exact ⟨_, rfl, hposted, hflags, hreq, hrun, hstop, hcores, hothers, (State.coreStopApply_ag s c.val).eq_overlay⟩
  · obtain ⟨hbit, helem, hothers, hregs, hframe⟩ := elemBit_shows s c.val csSTOPPED false (Reg.CORE_STAT c.val)
      (fun e => { e with startReq := false, first := true, prevOvr := false }) (by decide)
    exact ⟨_, congrArg Host.Outcome.next (if_pos (by rw [ht, hs]; rfl)), hbit, congrArg ElemU.startReq helem, congrArg ElemU.first helem, hothers,
      hregs, hframe⟩
  · obtain ⟨hrd, hregs, hup, hups, helems, hframe⟩ := wrMem_shows s c.val (dmemKey c.val (addr.toNat / 4 * 4)) v
    exact ⟨_, (access_served s r hr (f := fun s => s.dmemPort r c.val addr.toNat v)).trans (congrArg Host.Outcome.next (if_pos hs)), hrd, hregs, hup, hups, helems, hframe⟩
  · obtain ⟨herr, hcause, hint⟩ := indFail_shows s r 3
    obtain ⟨hregs, hframe⟩ := indFail_refuses s r 3
    exact ⟨_, (access_served s r hr (f := fun s => s.dmemPort r c.val addr.toNat v)).trans
      (congrArg Host.Outcome.next (if_neg (by simp [hs]))), herr, hcause, hint, hregs, hframe⟩
  · obtain ⟨herr, hcause, hint⟩ := indFail_shows s r 3
    obtain ⟨hregs, hframe⟩ := indFail_refuses s r 3
    exact ⟨_, access_served s r hr (f := fun s => s.imemPort r), herr, hcause, hint, hregs, hframe⟩

end Sys2Proof.Machine
end

section
/-!
Loading, validation, activation and revert of an element image (R182 to R187, R627).
-/
namespace Sys2Proof.Machine
open Sys2Proof

/-! ### Cluster records kept -/

/-- From s to t every cluster but c keeps its element record, and c its active image. -/
def KeepsActive (s t : State) (c : Nat) : Prop := (∀ n, n ≠ c → t.elem n = s.elem n) ∧ (t.elem c).active = (s.elem c).active

section
variable {s t u : State} {c : Nat}

theorem KeepsActive.refl (s : State) (c : Nat) : KeepsActive s s c := ⟨fun _ _ => rfl, rfl⟩

theorem KeepsActive.trans (h : KeepsActive s t c) (k : KeepsActive t u c) : KeepsActive s u c :=
  ⟨fun n hn => (k.1 n hn).trans (h.1 n hn), k.2.trans h.2⟩

theorem KeepsActive.of_agree {m : Nat} (h : KeepsActive s t c) (k : Agree m t u) (hm : m.testBit 31 = false) : KeepsActive s u c :=
  h.trans ⟨fun n _ => k.elem n hm, congrArg ElemU.active (k.elem c hm)⟩

theorem KeepsActive.elemMod (h : KeepsActive s t c) {f : ElemU → ElemU} (hf : ∀ e, (f e).active = e.active) : KeepsActive s (t.elemMod c f) c :=
  h.trans ⟨fun n hn => (elem_elemMod t c f n).trans (if_neg (Ne.symm hn)),
    (congrArg ElemU.active ((elem_elemMod t c f c).trans (if_pos rfl))).trans (hf _)⟩

theorem KeepsActive.wrMem (h : KeepsActive s t c) (k : Nat) (v : Word) : KeepsActive s (t.wrMem c k v) c :=
  (h.of_agree (t.wr_ag k v) (by decide)).elemMod (f := fun e => { e with errs := SMap.set (fun _ => 0) e.errs k 0 }) (fun _ => rfl)

theorem KeepsActive.wipe (h : KeepsActive s t c) (lo hi : Nat) : KeepsActive s (t.wipe c lo hi) c :=
  (h.of_agree (t.dropRegs_ag _) (by decide)).elemMod (f := fun e => { e with errs := SMap.drop _ e.errs }) (fun _ => rfl)

theorem KeepsActive.wrMems (h : KeepsActive s t c) (k : Nat) (ws : List Word) : KeepsActive s (t.wrMems c k ws) c := by
  induction ws generalizing t k with
  | nil => exact h
  | cons w ws ih => exact ih (h.wrMem k w) _

theorem KeepsActive.ite {p : Prop} [Decidable p] (ht : KeepsActive s t c) (hu : KeepsActive s u c) : KeepsActive s (if p then t else u) c := by
  split
  · exact ht
  · exact hu

theorem KeepsActive.foldl {α : Type} {f : State → α → State} {l : List α} (h : KeepsActive s t c)
    (hf : ∀ u x, KeepsActive s u c → KeepsActive s (f u x) c) : KeepsActive s (l.foldl f t) c :=
  List.foldlRecOn l f h (fun u hu x _ => hf u x hu)

/-! ### Words that a load and an activation write -/

variable {P : Nat → Prop}

theorem Writes.wipe (h : Writes P s t) {lo hi : Nat} (hp : ∀ a, clusterKey c lo ≤ a → a < clusterKey c hi → P a) : Writes P s (t.wipe c lo hi) := by
  refine (h.dropRegs (fun a ha => ?_)).of_agree (State.dropUpsets_ag _ _ _) (by decide)
  obtain ⟨hlo, hhi⟩ := Bool.and_eq_true_iff.mp ha
  exact hp a (of_decide_eq_true hlo) (of_decide_eq_true hhi)

theorem Writes.wrMem (h : Writes P s t) {k : Nat} (v : Word) (hk : P k) : Writes P s (t.wrMem c k v) :=
  (h.wr v hk).of_agree (State.setUpset_ag _ c k 0) (by decide)

theorem Writes.wrMems (h : Writes P s t) (k : Nat) (ws : List Word) (hp : ∀ i, i < ws.length → P (k + 4 * i)) : Writes P s (t.wrMems c k ws) := by
  induction ws generalizing t k with
  | nil => exact h
  | cons w ws ih =>
    refine ih (h.wrMem w (hp 0 (Nat.zero_lt_succ _))) _ (fun i hi => ?_)
    have := hp (i + 1) (Nat.succ_lt_succ hi)
    rwa [Nat.mul_succ, Nat.add_comm (4 * i), ← Nat.add_assoc] at this

end

/-! ### Loading -/

section
variable (s : State) (c : Nat)

/-- The code of the envelope at `env` replaces the bank that is not active. -/
def State.bankLoaded (env : Nat) : State :=
  let p := s.parts env 0
  let bankB := !s.cstat c csBANK
  (s.wipe c (if bankB then 0x20000 else 0x10000) (if bankB then 0x30000 else 0x20000)).wrMems c (imemKey c bankB 0)
    (s.mws (min p.codeWords 16384) p.codeAt)

variable {s c} in
theorem State.coreLoad_eq {env : Nat} (he : s.fld (Reg.CORE_IMG_ADDR c) 22 6 * 64 = env) (hv : s.cstat c csVALIDATING = false)
    (ha : s.cstat c csACT = false) : s.coreLoad c = ((((s.bankLoaded c env).elemMod c (fun e =>
      { e with other := none, pendingImg := false, revertible := false, loading := true, loadBase := env })).setCstat c csREVERTIBLE false).setCstat
        c csVALID false).setCstat c csVALIDATING true := by
  unfold State.coreLoad
  rw [if_neg (by simp [hv, ha]), he]
  rfl

/-- The keys of the bank that is not active. -/
def InactiveBank (a : Nat) : Prop := imemKey c (!s.cstat c csBANK) 0 ≤ a ∧ a < imemKey c (!s.cstat c csBANK) 16384

theorem State.bankLoaded_writes (env : Nat) : Writes (InactiveBank s c) s (s.bankLoaded c env) := by
  have hlen : (s.mws (min (s.parts env 0).codeWords 16384) (s.parts env 0).codeAt).length ≤ 16384 := by simp [State.mws]
  unfold State.bankLoaded
  unfold InactiveBank imemKey clusterKey
  dsimp only
  generalize (!s.cstat c csBANK) = bankB
  refine ((Writes.refl _ s).wipe (fun a hlo hhi => ?_)).wrMems _ _ (fun i hi => ?_)
  · unfold clusterKey at hlo hhi
    cases bankB <;> simp only [if_true, if_false, Bool.false_eq_true] at hlo hhi ⊢ <;> omega
  · omega

/-- A load leaves the words of the active bank. -/
theorem State.bankLoaded_active (env : Nat) {i : Nat} (hi : i < 16384) :
    (s.bankLoaded c env).rd (imemKey c (s.cstat c csBANK) i) = s.rd (imemKey c (s.cstat c csBANK) i) := by
  refine (s.bankLoaded_writes c env).rd _ (fun h => ?_) (not_signals (by unfold imemKey clusterKey; omega))
  unfold InactiveBank imemKey clusterKey at h
  generalize s.cstat c csBANK = bankB at h
  cases bankB <;> simp only [Bool.not_false, Bool.not_true, if_true, if_false, Bool.false_eq_true] at h <;> omega

theorem State.bankLoaded_keeps (env : Nat) : KeepsActive s (s.bankLoaded c env) c := ((KeepsActive.refl s c).wipe _ _).wrMems _ _

/-- What an accepted load leaves (R184). -/
theorem coreLoad_shows {env : Nat} (he : s.fld (Reg.CORE_IMG_ADDR c) 22 6 * 64 = env) (hv : s.cstat c csVALIDATING = false)
    (ha : s.cstat c csACT = false) : let t := s.coreLoad c
    (t.elem c).loading = true ∧ (t.elem c).loadBase = env ∧ (t.elem c).other = none ∧
    (t.elem c).active = (s.elem c).active ∧ t.cstat c csVALIDATING = true ∧ t.cstat c csVALID = false ∧ t.cstat c csREVERTIBLE = false ∧
    (∀ i, i < 16384 → t.rd (imemKey c (s.cstat c csBANK) i) = s.rd (imemKey c (s.cstat c csBANK) i)) ∧
    (∀ n, n ≠ c → t.elem n = s.elem n) ∧ t = { s with regs := t.regs, elems := t.elems } := by
  intro t
  have hag : Agree 2147483649 s t := State.coreLoad_ag s c
  let u := s.bankLoaded c env
  let f (e : ElemU) : ElemU := { e with other := none, pendingImg := false, revertible := false, loading := true, loadBase := env }
  have ht : t = (((u.elemMod c f).setCstat c csREVERTIBLE false).setCstat c csVALID false).setCstat c csVALIDATING true :=
    State.coreLoad_eq he hv ha
  clear_value t
  obtain ⟨hothers, hactive⟩ := s.bankLoaded_keeps c env
  have helem (n : Nat) : t.elem n = if c = n then f (u.elem c) else u.elem n := by
    rw [ht, elem_setCstat, elem_setCstat, elem_setCstat, elem_elemMod]
  have hstat : t.cstat c csVALIDATING = true ∧ t.cstat c csVALID = false ∧ t.cstat c csREVERTIBLE = false := by
    rw [ht]
    simp [cstat_setCstat, csREVERTIBLE, csVALID, csVALIDATING]
  obtain ⟨hvalidating, hvalid, hrevertible⟩ := hstat
  have hf (e : ElemU) : (f e).active = e.active := rfl
  rw [helem, if_pos rfl]
  refine ⟨rfl, rfl, rfl, (hf _).trans hactive, hvalidating, hvalid, hrevertible, fun i hi => ?_, fun n hn => ?_, hag.eq_overlay⟩
  · have hne : Reg.CORE_STAT c ≠ imemKey c (s.cstat c csBANK) i := by
      unfold Reg.CORE_STAT imemKey clusterKey
      split <;> omega
    rw [← s.bankLoaded_active c env hi, ht]
    unfold State.setCstat
    rw [State.rd_putBit_ne _ _ _ _ _ hne, State.rd_putBit_ne _ _ _ _ _ hne, State.rd_putBit_ne _ _ _ _ _ hne,
      (State.elemMod_ag _ _ _).rd _ (by decide)]
  · rw [helem, if_neg (Ne.symm hn), hothers n hn]

end

/-! ### Validation -/

theorem Agree.eq_signal_elems {s t : State} (h : Agree 2147508737 s t) :
    t = { s with regs := t.regs, supPend := t.supPend, tally := t.tally, buckets := t.buckets, elems := t.elems } := h.eq_overlay

section
variable (s : State) (c : Nat)

/-- An interrupt and a record leave a register behind the interrupt block and the queue. -/
theorem rd_signalled (n code sp p0 p1 : Nat) {k : Nat} (h : 0x10000 ≤ k) : ((s.irq n).log code sp p0 p1).rd k = s.rd k := by
  rw [State.rd_log _ _ _ _ _ _ (.inr h), State.rd_irq _ _ _ (by unfold Reg.INT_STAT_LO; omega) (by unfold Reg.INT_STAT_HI; omega)]

theorem cstat_signalled (n code sp p0 p1 i : Nat) : ((s.irq n).log code sp p0 p1).cstat c i = s.cstat c i := by
  unfold State.cstat State.bit
  rw [rd_signalled _ _ _ _ _ _ (by unfold Reg.CORE_STAT; omega)]

theorem cstat_wr {a : Nat} (v : Word) (i : Nat) (h : a ≠ Reg.CORE_STAT c) : (s.wr a v).cstat c i = s.cstat c i := by
  unfold State.cstat State.bit
  rw [State.rd_wr, if_neg h]

/-- The validation of the image of cluster c has ended, with no verdict shown yet. -/
def State.valClosed (wcet : Nat) : State :=
  ((s.elemMod c (fun e => { e with loading := false })).setCstat c csVALIDATING false).put (Reg.CORE_VAL_WCET c) 16 0 wcet

theorem elem_valClosed (wcet n : Nat) : (s.valClosed c wcet).elem n = if c = n then { s.elem c with loading := false } else s.elem n := by
  unfold State.valClosed
  rw [(State.put_ag _ _ _ _ _).elem n (by decide), elem_setCstat, elem_elemMod]

theorem cstat_valClosed (wcet i : Nat) : (s.valClosed c wcet).cstat c i = if i = csVALIDATING then false else s.cstat c i := by
  unfold State.valClosed State.put
  rw [cstat_wr _ _ _ _ (by unfold Reg.CORE_VAL_WCET Reg.CORE_STAT; omega), cstat_setCstat _ _ _ _ _ (by decide)]
  simp only [eq_comm (a := i)]
  rfl

variable {s c} {base : Nat} {v : Verdict}

/-- A validation without a refusal (R182 to R184). -/
theorem valEnd_accepts (hv : v.refusal = none) : let t := s.valEnd c base v
    t.cstat c csVALIDATING = false ∧ (∀ n, n ≠ c → t.elem n = s.elem n) ∧ t.cstat c csVALID = true ∧
    (t.elem c).other = some (s.elmImage base) ∧ (t.elem c).loading = false ∧ t.rd (Reg.CORE_VAL c) = 0 := by
  intro t
  let u := s.valClosed c (satTo 0x1FFFF (v.wcet.getD 0x1FFFF))
  let f (e : ElemU) : ElemU := { e with other := some (s.elmImage base), pendingImg := true }
  have ht : t = ((u.wr (Reg.CORE_VAL c) 0).elemMod c f).setCstat c csVALID true := by
    unfold t State.valEnd
    dsimp only
    rw [hv]
    rfl
  have helem (n : Nat) : t.elem n = if c = n then f (u.elem c) else u.elem n := by
    rw [ht, elem_setCstat, elem_elemMod]
    rfl
  have hne : Reg.CORE_VAL c ≠ Reg.CORE_STAT c := by unfold Reg.CORE_VAL Reg.CORE_STAT; omega
  refine ⟨?_, fun n hn => ?_, ?_, ?_, ?_, ?_⟩
  · rw [ht, cstat_setCstat _ _ _ _ _ (by decide)]
    exact (cstat_wr u c 0 csVALIDATING hne).trans (cstat_valClosed _ _ _ _)
  · rw [helem, if_neg (Ne.symm hn), elem_valClosed, if_neg (Ne.symm hn)]
  · rw [ht, cstat_setCstat _ _ _ _ _ (by decide)]
    rfl
  · rw [helem, if_pos rfl]
  · rw [helem, if_pos rfl, elem_valClosed, if_pos rfl]
  · rw [ht]
    unfold State.setCstat
    rw [State.rd_putBit_ne _ _ _ _ _ hne.symm]
    exact (State.rd_wr _ _ _ _).trans (if_pos rfl)

/-- A refused validation (R183). -/
theorem valEnd_refuses {r x : Nat} (hv : v.refusal = some (r, x)) : let t := s.valEnd c base v
    t.cstat c csVALIDATING = false ∧ (∀ n, n ≠ c → t.elem n = s.elem n) ∧ t.cstat c csREFUSED = true ∧
    t.cstat c csVALID = s.cstat c csVALID ∧ (t.elem c).other = (s.elem c).other ∧
    t.rd (Reg.CORE_VAL c) = w32 (r * 0x1000000 + x) ∧ t.bit Reg.INT_STAT_HI 26 = true := by
  intro t
  let u := s.valClosed c (satTo 0x1FFFF (v.wcet.getD 0x1FFFF))
  obtain ⟨ver, ht⟩ : ∃ ver, t = u.coreRefuse c r x ver := by
    refine ⟨u.mN (base + payloadOff + 8), ?_⟩
    unfold t State.valEnd
    dsimp only
    rw [hv]
    rfl
  have hne : Reg.CORE_VAL c ≠ Reg.CORE_STAT c := by unfold Reg.CORE_VAL Reg.CORE_STAT; omega
  have helem (n : Nat) : t.elem n = u.elem n := by rw [ht, (State.coreRefuse_ag _ _ _ _ _).elem n (by decide)]
  have hcstat (i : Nat) : t.cstat c i = if csREFUSED = i then true else u.cstat c i := by
    rw [ht]
    unfold State.coreRefuse
    rw [cstat_signalled, cstat_setCstat _ _ _ _ _ (by decide), cstat_wr _ _ _ _ hne]
  refine ⟨?_, fun n hn => ?_, ?_, ?_, ?_, ?_, ?_⟩
  · rw [hcstat]
    exact cstat_valClosed s c _ csVALIDATING
  · rw [helem, elem_valClosed, if_neg (Ne.symm hn)]
  · rw [hcstat, if_pos rfl]
  · rw [hcstat]
    exact cstat_valClosed s c _ csVALID
  · rw [helem, elem_valClosed, if_pos rfl]
  · rw [ht]
    unfold State.coreRefuse State.setCstat
    rw [rd_signalled _ _ _ _ _ _ (by unfold Reg.CORE_VAL; omega), State.rd_putBit_ne _ _ _ _ _ hne.symm, State.rd_wr, if_pos rfl]
  · rw [ht]
    exact (State.bit_log _ _ _ _ _ _ _ (by decide)).trans (State.bit_irq_hi _ _ _ (.inl (by decide)))

end

/-! ### Activation -/

/-- The keys that an activation writes before it shows the image: those of its sections, of the primitives and of channels whose claim ends. -/
def ImageKeys (c a : Nat) : Prop := LineKeys a ∨ clusterKey c 0x100 ≤ a

theorem not_imageKeys_coreStat (c : Fin 16) : ¬ ImageKeys c.val (Reg.CORE_STAT c.val) := by
  rintro (h | h)
  · exact not_lineKeys_coreStat c h
  · unfold clusterKey Reg.CORE_STAT at h
    omega

section
variable {P : Nat → Prop} {s t : State}

theorem Writes.when (h : Writes P s t) {b : Bool} {f : State → State} (hf : Writes P t (f t)) : Writes P s (when b f t) := by
  cases b
  · exact h
  · exact h.trans hf

theorem KeepsActive.when {c : Nat} (h : KeepsActive s t c) {b : Bool} {f : State → State} (hf : KeepsActive t (f t) c) :
    KeepsActive s (when b f t) c := by
  cases b
  · exact h
  · exact h.trans hf

end

section
variable (s : State) (c : Nat) (img : Image)

theorem writeSections_imageKeys (init : Bool) : Writes (ImageKeys c) s (s.writeSections c img init) := by
  have hkey (a : Nat) (h : clusterKey c 0x100 ≤ a) : ImageKeys c a := .inr h
  unfold State.writeSections
  refine Writes.foldl (Writes.ite (fun _ => ?_) (fun _ => Writes.refl _ s)) (fun u x _ hu => Writes.ite (fun _ => ?_) (fun _ => hu))
  · refine (Writes.refl _ s).wipe (fun a hlo _ => hkey a ?_)
    unfold clusterKey at hlo ⊢
    omega
  · refine hu.wrMems _ _ (fun i _ => hkey _ ?_)
    unfold dmemKey clusterKey
    omega

theorem writeSections_keeps (init : Bool) : KeepsActive s (s.writeSections c img init) c := by
  unfold State.writeSections
  exact (KeepsActive.ite ((KeepsActive.refl s c).wipe _ _) (KeepsActive.refl s c)).foldl fun u x hu => KeepsActive.ite (hu.wrMems _ _) hu

theorem primReset_imageKeys : Writes (ImageKeys c) s (s.primReset c) := by
  have hcrv (n : Nat) : ImageKeys c (Reg.CRV_INT c n) := .inr (by unfold clusterKey Reg.CRV_INT; omega)
  have hcmp (n : Nat) : ImageKeys c (Reg.CMP_ST c n) := .inr (by unfold clusterKey Reg.CMP_ST; omega)
  have htmr (n : Nat) : ImageKeys c (Reg.TMR_ST c n) := .inr (by unfold clusterKey Reg.TMR_ST; omega)
  unfold State.primReset
  refine Writes.of_agree (Writes.foldl (Writes.foldl (Writes.refl _ s) fun u n _ hu => ?_) fun u n _ hu => ?_) (State.elemMod_ag _ _ _) (by decide)
  · exact hu.wr 0 (hcrv n)
  · exact (hu.wr 0 (hcmp n)).wr 0 (htmr n)

theorem primReset_keeps : KeepsActive s (s.primReset c) c := by
  unfold State.primReset
  refine KeepsActive.elemMod (KeepsActive.foldl (KeepsActive.foldl (KeepsActive.refl s c) fun u n hu => ?_) fun u n hu => ?_) (fun _ => rfl)
  · exact hu.of_agree (u.wr_ag _ _) (by decide)
  · exact (hu.of_agree (u.wr_ag _ _) (by decide)).of_agree (State.wr_ag _ _ _) (by decide)

theorem moveClaims_lineKeys (owner : Nat) (new : List Nat) : Writes LineKeys s (s.moveClaims owner new) := by
  unfold State.moveClaims
  exact (((endClaims_lineKeys s owner _).of_agree (State.takeClaims_ag _ owner _) (by decide))).trans (fioDrive_lineKeys _)

/-- The sections of the image are written, the primitives reset where its layout is new, and its claims taken. -/
def State.imageWritten : State :=
  let e := s.elem c
  let init := decide (e.lastLayout ≠ some img.layout)
  (when init (fun t => t.primReset c) (if e.actSecs && !init then s else s.writeSections c img init)).moveClaims (0x10 + c) img.claims

theorem imageWritten_imageKeys : Writes (ImageKeys c) s (s.imageWritten c img) := by
  unfold State.imageWritten
  refine Writes.trans (Writes.when ?_ (primReset_imageKeys _ c)) ((moveClaims_lineKeys _ _ _).mono fun _ => .inl)
  exact Writes.ite (fun _ => Writes.refl _ s) (fun _ => writeSections_imageKeys s c img _)

theorem imageWritten_keeps : KeepsActive s (s.imageWritten c img) c := by
  unfold State.imageWritten
  refine KeepsActive.of_agree (KeepsActive.when ?_ (primReset_keeps _ c)) (State.moveClaims_ag _ _ _) (by decide)
  exact KeepsActive.ite (KeepsActive.refl s c) (writeSections_keeps s c img _)

/-- The element record behind an activation. -/
def activatedElem (init : Bool) (e : ElemU) : ElemU :=
  { e with
    active := some img, other := e.active, pendingImg := false, revertible := e.active.isSome, lastLayout := some img.layout,
    actWait := none, actIdx := none, actSecs := false, activated := true, first := e.first || init }

/-- The other bank is the active one, and CORE_STAT and the registers of the image show it. -/
def State.bankTurned (init live : Bool) : State :=
  let t := ((((s.elemMod c (activatedElem img init)).setCstat c csBANK (!s.cstat c csBANK)).setCstat c csLOADED true).setCstat
    c csVALID false).setCstat c csACT false
  ((((t.setCstat c csREVERTIBLE live).put (Reg.CORE_WCET c) 16 0 img.wcet).wr (Reg.CORE_IMG_VER c) (w32 img.ver)).wr (Reg.CORE_LAYOUT c)
    (w32 img.layout)).put (Reg.OVR_STAT c) 23 16 0

theorem State.coreActivate_eq (kind : Nat) (h : (s.elem c).other = some img) : ∃ p, s.coreActivate c kind =
    (((((s.imageWritten c img).bankTurned c img (decide ((s.elem c).lastLayout ≠ some img.layout)) (s.elem c).active.isSome).setExpect
      c img.expect).expectCheck c 0).irq c).log 0x172 c img.ver p := by
  unfold State.coreActivate
  dsimp only
  rw [h]
  exact ⟨_, rfl⟩

theorem elem_bankTurned (init live : Bool) (n : Nat) :
    (s.bankTurned c img init live).elem n = if c = n then activatedElem img init (s.elem c) else s.elem n := by
  unfold State.bankTurned State.put
  simp only [State.elem_wr, elem_setCstat, elem_elemMod]

theorem cstat_bankTurned (init live : Bool) : let t := s.bankTurned c img init live
    t.cstat c csBANK = (!s.cstat c csBANK) ∧ t.cstat c csLOADED = true ∧ t.cstat c csVALID = false ∧ t.cstat c csACT = false ∧
    t.cstat c csREVERTIBLE = live := by
  have hovr : Reg.OVR_STAT c ≠ Reg.CORE_STAT c := by unfold Reg.OVR_STAT Reg.CORE_STAT; omega
  have hlayout : Reg.CORE_LAYOUT c ≠ Reg.CORE_STAT c := by unfold Reg.CORE_LAYOUT Reg.CORE_STAT; omega
  have hver : Reg.CORE_IMG_VER c ≠ Reg.CORE_STAT c := by unfold Reg.CORE_IMG_VER Reg.CORE_STAT; omega
  have hwcet : Reg.CORE_WCET c ≠ Reg.CORE_STAT c := by unfold Reg.CORE_WCET Reg.CORE_STAT; omega
  unfold State.bankTurned State.put
  simp [cstat_wr, cstat_setCstat, hovr, hlayout, hver, hwcet, csBANK, csLOADED, csVALID, csACT, csREVERTIBLE]

theorem rd_bankTurned (init live : Bool) : let t := s.bankTurned c img init live
    t.rd (Reg.CORE_IMG_VER c) = w32 img.ver ∧ t.rd (Reg.CORE_LAYOUT c) = w32 img.layout := by
  have hovr : Reg.OVR_STAT c ≠ Reg.CORE_IMG_VER c ∧ Reg.OVR_STAT c ≠ Reg.CORE_LAYOUT c := by
    unfold Reg.OVR_STAT Reg.CORE_IMG_VER Reg.CORE_LAYOUT
    omega
  have hlayout : Reg.CORE_LAYOUT c ≠ Reg.CORE_IMG_VER c := by unfold Reg.CORE_LAYOUT Reg.CORE_IMG_VER; omega
  unfold State.bankTurned State.put
  simp [hovr, hlayout]

/-- The check of the expectations writes of the registers its own bit of CORE_STAT. -/
theorem cstat_expectCheck (was : Nat) {i : Nat} (hi : i ≠ 12) : (s.expectCheck c was).cstat c i = s.cstat c i := by
  have h : (s.putBit (Reg.CORE_STAT c) 12 (decide (s.expectDiff c ≠ 0))).cstat c i = s.cstat c i :=
    (cstat_setCstat s c 12 _ i (by decide)).trans (if_neg (Ne.symm hi))
  have hirq (u : State) : (u.irq c).cstat c i = u.cstat c i := by
    unfold State.cstat State.bit
    rw [State.rd_irq _ _ _ (by unfold Reg.CORE_STAT Reg.INT_STAT_LO; omega) (by unfold Reg.CORE_STAT Reg.INT_STAT_HI; omega)]
  unfold State.expectCheck when
  dsimp only
  split
  · exact (hirq _).trans h
  · exact h

theorem rd_expectCheck (was : Nat) {k : Nat} (hk : 0x10000 ≤ k) (hs : Reg.CORE_STAT c ≠ k) : (s.expectCheck c was).rd k = s.rd k := by
  unfold State.expectCheck when
  dsimp only
  split
  · rw [State.rd_irq _ _ _ (by unfold Reg.INT_STAT_LO; omega) (by unfold Reg.INT_STAT_HI; omega)]
    exact State.rd_putBit_ne _ _ _ _ _ hs
  · exact State.rd_putBit_ne _ _ _ _ _ hs

end

/-- What an activation leaves (R185). -/
theorem coreActivate_shows {s : State} {c : Fin 16} {img : Image} (kind : Nat) (h : (s.elem c.val).other = some img) : let t := s.coreActivate c.val kind
    let d := c.val
    (t.elem d).active = some img ∧ (t.elem d).other = (s.elem d).active ∧ t.cstat d csBANK = (!s.cstat d csBANK) ∧ t.cstat d csLOADED = true ∧
    t.cstat d csVALID = false ∧ t.cstat d csACT = false ∧ t.cstat d csREVERTIBLE = (s.elem d).active.isSome ∧
    t.rd (Reg.CORE_IMG_VER d) = w32 img.ver ∧ t.rd (Reg.CORE_LAYOUT d) = w32 img.layout ∧ t.bit Reg.INT_STAT_LO d = true ∧
    (∀ n, n ≠ d → t.elem n = s.elem n) ∧ t = { s with
      regs := t.regs, claims := t.claims, ended := t.ended, supPend := t.supPend, tally := t.tally, buckets := t.buckets, pins := t.pins,
      expect := t.expect, elems := t.elems } := by
  intro t d
  have hag : Agree 2156028429 s t := State.coreActivate_ag s c.val kind
  let init := decide ((s.elem d).lastLayout ≠ some img.layout)
  let u := s.imageWritten d img
  let v := u.bankTurned d img init (s.elem d).active.isSome
  obtain ⟨p, ht⟩ : ∃ p, t = ((((v.setExpect d img.expect).expectCheck d 0).irq d).log 0x172 d img.ver p) := State.coreActivate_eq s d img kind h
  clear_value t
  obtain ⟨hothers, hactive⟩ := imageWritten_keeps s d img
  have hbank : u.cstat d csBANK = s.cstat d csBANK :=
    (imageWritten_imageKeys s d img).bit csBANK (not_imageKeys_coreStat c) (not_signals (by unfold Reg.CORE_STAT; omega))
  have helem (n : Nat) : t.elem n = if d = n then activatedElem img init (u.elem d) else u.elem n := by
    rw [ht, (State.log_ag _ _ _ _ _).elem n (by decide), (State.irq_ag _ _).elem n (by decide), (State.expectCheck_ag _ _ _).elem n (by decide),
      (State.setExpect_ag _ _ _).elem n (by decide)]
    exact elem_bankTurned u d img init _ n
  have hcstat (i : Nat) (hi : i ≠ 12) : t.cstat d i = v.cstat d i := by
    rw [ht, cstat_signalled, cstat_expectCheck _ _ _ hi]
    exact (State.setExpect_ag v d img.expect).bit _ (by decide) i
  have hrd (k : Nat) (hk : 0x10000 ≤ k) (hs : Reg.CORE_STAT d ≠ k) : t.rd k = v.rd k := by
    rw [ht, rd_signalled _ _ _ _ _ _ hk, rd_expectCheck _ _ _ hk hs]
    exact (State.setExpect_ag v d img.expect).rd _ (by decide)
  obtain ⟨hturned, hloaded, hvalid, hact, hrevertible⟩ := cstat_bankTurned u d img init (s.elem d).active.isSome
  obtain ⟨hver, hlayout⟩ := rd_bankTurned u d img init (s.elem d).active.isSome
  have hother (e : ElemU) : (activatedElem img init e).other = e.active := rfl
  refine ⟨?_, ?_, ?_, ?_, ?_, ?_, ?_, ?_, ?_, ?_, fun n hn => ?_, hag.eq_overlay⟩
  · rw [helem, if_pos rfl]
    rfl
  · rw [helem, if_pos rfl, hother, hactive]
  · rw [hcstat _ (by decide), hturned, hbank]
  · exact (hcstat _ (by decide)).trans hloaded
  · exact (hcstat _ (by decide)).trans hvalid
  · exact (hcstat _ (by decide)).trans hact
  · exact (hcstat _ (by decide)).trans hrevertible
  · exact (hrd _ (by unfold Reg.CORE_IMG_VER; omega) (by unfold Reg.CORE_STAT Reg.CORE_IMG_VER; omega)).trans hver
  · exact (hrd _ (by unfold Reg.CORE_LAYOUT; omega) (by unfold Reg.CORE_STAT Reg.CORE_LAYOUT; omega)).trans hlayout
  · rw [ht, State.bit_log _ _ _ _ _ _ _ (by decide)]
    exact State.bit_irq_lo _ _ _ (.inl ⟨rfl, by have := c.isLt; omega⟩)
  · rw [helem, if_neg (Ne.symm hn), hothers n hn]

/-- What the start of a wait for a tick start leaves (R186). -/
theorem coreArm_shows (s : State) (c kind : Nat) : let t := s.coreArm c kind
    (t.elem c).actWait = some 2 ∧ (t.elem c).actKind = kind ∧ (t.elem c).active = (s.elem c).active ∧
    (t.elem c).actIdx = (if s.bit (Reg.CORE_ACT_AT c) 31 then some (s.fld (Reg.CORE_ACT_AT c) 12 0) else none) ∧
    t.cstat c csACT = true ∧ (∀ n, n ≠ c → t.elem n = s.elem n) ∧ OnlyRegs s t [Reg.CORE_STAT c] ∧
    t = { s with regs := t.regs, elems := t.elems } := by
  let f (e : ElemU) : ElemU := { e with
    actWait := some 2, actIdx := if s.bit (Reg.CORE_ACT_AT c) 31 then some (s.fld (Reg.CORE_ACT_AT c) 12 0) else none, actKind := kind }
  have hf (e : ElemU) : (f e).active = e.active := rfl
  obtain ⟨hact, helem, hothers, hregs, hframe⟩ := elemBit_shows s c csACT true (Reg.CORE_STAT c) f (by decide)
  exact ⟨congrArg ElemU.actWait helem, congrArg ElemU.actKind helem, (congrArg ElemU.active helem).trans (hf _), congrArg ElemU.actIdx helem, hact,
    hothers, hregs, hframe⟩

/-! ### Which commands are refused -/

section
variable {s : State} {c : Nat}

theorem coreActivateCmd_refused (h : s.cstat c csVALID = false ∨ s.cstat c csACT = true) : s.coreActivateCmd c = s.coreCmdErr c := by
  unfold State.coreActivateCmd
  rw [if_pos (by simpa using h)]

/-- A valid image activates at once while the core is stopped, waits where it may be activated live, and is refused else. -/
theorem coreActivateCmd_valid (hv : s.cstat c csVALID = true) (ha : s.cstat c csACT = false) :
    s.coreActivateCmd c = if s.coreStopped c then s.coreActivate c 2 else if s.liveOk c then s.coreArm c 1 else s.coreCmdErr c := by
  unfold State.coreActivateCmd
  rw [if_neg (by simp [hv, ha])]

theorem running_of_liveOk (h : s.liveOk c = true) : s.coreStopped c = false := by
  unfold State.liveOk at h
  dsimp only at h
  split at h
  · simp only [Bool.and_eq_true, Bool.not_eq_true'] at h
    exact h.1.1
  · exact absurd h (by decide)

theorem coreRevert_refused (h : (s.elem c).other = none ∨ (s.elem c).revertible = false ∨ s.cstat c csACT = true ∨ s.liveOk c = false) :
    s.coreRevert c = s.coreCmdErr c := by
  unfold State.coreRevert
  dsimp only
  split
  next img himg => rw [if_pos (by simpa [himg, or_assoc] using h)]
  next => rfl

theorem coreRevert_arms {img : Image} (ho : (s.elem c).other = some img) (hr : (s.elem c).revertible = true) (ha : s.cstat c csACT = false)
    (hl : s.liveOk c = true) (hc : s.claimRefusal (0x10 + c) img.claims = none) : s.coreRevert c = s.coreArm c 3 := by
  unfold State.coreRevert
  dsimp only
  rw [ho]
  dsimp only
  rw [if_neg (by simp [hr, ha, hl]), hc]

end

/-! ### CORE_ACT_AT -/

/-- The row of CORE_ACT_AT: plain read-write fields. -/
theorem regRow_coreActAt (c : Fin 16) : (regRow (Reg.CORE_ACT_AT c.val)).map (fun r => (r.rw, r.w1c, r.w1s)) = some (0x80001FFF, 0, 0) := by
  revert c
  decide +kernel

/-- A normal write puts the data into the read-write fields (R5). -/
theorem write_and_rw (r : RegRow) (old v : Word) (hc : r.w1c = 0) (hs : r.w1s = 0) :
    r.write old v &&& BitVec.ofNat 32 r.rw = v &&& BitVec.ofNat 32 r.rw := by
  unfold RegRow.write
  rw [hc, hs]
  ext i hi
  cases h : (BitVec.ofNat 32 r.rw)[i] <;> simp [h]

theorem actAtWrite_taken {s : State} {c : Fin 16} {v : Word} (h : field v 12 0 ≤ 4799) : ∃ w, s.actAtWrite c.val v = s.wr (Reg.CORE_ACT_AT c.val) w ∧
    w &&& 0x80001FFF = v &&& 0x80001FFF := by
  obtain ⟨r, hr, hf⟩ := Option.map_eq_some_iff.mp (regRow_coreActAt c)
  simp only [Prod.mk.injEq] at hf
  obtain ⟨hrw, hw1c, hw1s⟩ := hf
  refine ⟨r.write (s.rd (Reg.CORE_ACT_AT c.val)) v, ?_, ?_⟩
  · unfold State.actAtWrite State.regWrite
    rw [if_neg (by omega), hr]
  · have hmask := write_and_rw r (s.rd (Reg.CORE_ACT_AT c.val)) v hw1c hw1s
    rwa [hrw] at hmask

/-- Settles O36: each image command is refused with CMD_ERR and no more, or takes the step of the image that its rule gives. -/
theorem elementImageCommands : Obligations.ElementImageCommands := by
  unfold Obligations.ElementImageCommands
  intro s c v
  have hrefused {i : Instr} {t : State} (he : exec i s = .next t) (ht : t = s.coreCmdErr c.val) : ∃ t, exec i s = .next t ∧
      t.cstat c.val csCMDERR = true ∧ OnlyRegs s t [Reg.CORE_STAT c.val] ∧ t = { s with regs := t.regs } :=
    ⟨t, he, ht ▸ coreCmdErr_shows s c.val⟩
  refine ⟨fun h => hrefused rfl (if_pos (by simpa using h)), fun hv ha => ?_, fun hl => ?_, fun h => hrefused rfl (coreActivateCmd_refused h),
    fun img hv ha ho hs => ?_, fun hv ha hl => ?_, fun hv ha hs hl => hrefused rfl ?_, fun img ht hw hi ho => ?_, fun img ho hr ha hl hc => ?_,
    fun h => hrefused rfl (coreRevert_refused h), fun h => hrefused rfl (if_pos h), fun h => ?_⟩
  · exact ⟨_, rfl, coreLoad_shows s c.val rfl hv ha⟩
  · have he : s.coreValidated c.val = s.valEnd c.val (s.elem c.val).loadBase (s.elmVerdict (s.elem c.val).loadBase c.val) := if_neg (by simp [hl])
    cases hr : (s.elmVerdict (s.elem c.val).loadBase c.val).refusal with
    | none =>
      obtain ⟨hstat, hothers, hvalid, hother, hloading, hval⟩ := valEnd_accepts (s := s) (c := c.val) (base := (s.elem c.val).loadBase) hr
      exact ⟨_, congrArg Host.Outcome.next he, hstat, hothers, (State.valEnd_ag s c.val _ _).eq_signal_elems,
        fun _ => ⟨hvalid, hother, hloading, hval⟩, by simp⟩
    | some p =>
      obtain ⟨hstat, hothers, hshown⟩ := valEnd_refuses (s := s) (c := c.val) (base := (s.elem c.val).loadBase) hr
      refine ⟨_, congrArg Host.Outcome.next he, hstat, hothers, (State.valEnd_ag s c.val _ _).eq_signal_elems, by simp, fun r x h => ?_⟩
      obtain rfl := Option.some.inj h
      exact hshown
  · have he : s.coreActivateCmd c.val = s.coreActivate c.val 2 := by rw [coreActivateCmd_valid hv ha, if_pos hs]
    exact ⟨_, congrArg Host.Outcome.next he, coreActivate_shows 2 ho⟩
  · have he : s.coreActivateCmd c.val = s.coreArm c.val 1 := by
      rw [coreActivateCmd_valid hv ha, if_neg (by simp [running_of_liveOk hl]), if_pos hl]
    exact ⟨_, congrArg Host.Outcome.next he, coreArm_shows s c.val 1⟩
  · rw [coreActivateCmd_valid hv ha, if_neg (by simp [hs]), if_neg (by simp [hl])]
  · have he : s.coreActivationApply c.val = s.coreActivate c.val (s.elem c.val).actKind := if_pos (by simpa [ht, hw] using hi)
    exact ⟨_, congrArg Host.Outcome.next he, coreActivate_shows (s.elem c.val).actKind ho⟩
  · exact ⟨_, congrArg Host.Outcome.next (coreRevert_arms ho hr ha hl hc), coreArm_shows s c.val 3⟩
  · obtain ⟨w, he, hw⟩ := actAtWrite_taken (s := s) h
    exact ⟨_, congrArg Host.Outcome.next he, (congrArg (· &&& 0x80001FFF) ((State.rd_wr _ _ _ _).trans (if_pos rfl))).trans hw,
      (OnlyRegs.refl s _).wr w (by simp), (State.wr_ag s _ _).eq_regs⟩

end Sys2Proof.Machine
end

section
/-!
What the functions of the integer and binary32 instructions give, and that decoding finds an instruction for every legal word (R192, R194,
R198).
-/
namespace Sys2Proof

/-! ### Decoding -/

/-- An opcode that some profile has is none of the reserved ones (R192). -/
theorem opProfiles_of_legal {p : Prof} {w : Word} (h : wCause p w = none) : opProfiles (wOp w) ≠ [] := by
  intro hp
  simp [wCause, hp] at h

theorem wOp_lt (w : Word) : wOp w < 64 := by
  unfold wOp field
  omega

/-- Every opcode that some profile has stands for an instruction. -/
theorem walsoLegal_isSome {k : CoreId} {w : Word} (h : opProfiles (wOp w) ≠ []) : (walsoLegal k w).isSome = true := by
  unfold walsoLegal
  simp only
  split
  case h_14 | h_30 | h_32 | h_34 | h_47 | h_48 | h_49 => split <;> rfl
  case h_50 =>
    have := wOp_lt w
    refine absurd ?_ h
    unfold opProfiles
    refine if_pos ?_
    simp only [imp_false] at *
    omega
  all_goals rfl

/-- Settles O8: a legal word's opcode is none of the reserved ones, and each other opcode stands for an instruction. -/
theorem walsoDecodesLegalWords : Obligations.WalsoDecodesLegalWords := by
  unfold Obligations.WalsoDecodesLegalWords
  intro k w
  unfold walsoDecode
  by_cases h : wCause k.prof w = none
  · rw [if_pos h, h]
    exact walsoLegal_isSome (opProfiles_of_legal h)
  · rw [if_neg h]
    exact (Option.isNone_eq_false_iff.mpr (Option.isSome_iff_ne_none.mpr h)).symm

/-! ### The functions of ALU -/

section
variable (a b : Word)

/-- A word holds every number below 2^32. -/
theorem toNat_w32 (n : Nat) (h : n < 2 ^ 32) : (w32 n).toNat = n := by
  unfold w32
  rw [BitVec.toNat_ofNat, Nat.mod_eq_of_lt h]

theorem toNat_aluOp_sub : (aluOp 0x01 a b).toNat = (2 ^ 32 + a.toNat - b.toNat) % 2 ^ 32 := by
  change (a - b).toNat = _
  rw [BitVec.toNat_sub]
  have := b.isLt
  congr 1
  omega

theorem bitAt_aluOp_andn (n : Nat) (hn : n < 32) : bitAt (aluOp 0x05 a b) n = (bitAt a n && !bitAt b n) := by
  change (a &&& ~~~b).getLsbD n = (a.getLsbD n && !b.getLsbD n)
  simp [hn]

theorem toNat_aluOp_sll : (aluOp 0x06 a b).toNat = a.toNat * 2 ^ (b.toNat % 32) % 2 ^ 32 := by
  change (a <<< (b.toNat % 32)).toNat = _
  rw [BitVec.toNat_shiftLeft, Nat.shiftLeft_eq]

theorem toNat_aluOp_srl : (aluOp 0x07 a b).toNat = a.toNat / 2 ^ (b.toNat % 32) := by
  change (a >>> (b.toNat % 32)).toNat = _
  rw [BitVec.toNat_ushiftRight, Nat.shiftRight_eq_div_pow]

theorem toInt_aluOp_sra : (aluOp 0x08 a b).toInt = a.toInt / 2 ^ (b.toNat % 32) := by
  change (a.sshiftRight (b.toNat % 32)).toInt = _
  rw [BitVec.toInt_sshiftRight, Int.shiftRight_eq_div_pow]
  norm_cast

/-- The high word of a signed product lies within the signed words. -/
theorem toInt_aluOp_mulh : (aluOp 0x0A a b).toInt = a.toInt * b.toInt / 2 ^ 32 := by
  change (BitVec.ofInt 32 (a.toInt * b.toInt / 4294967296)).toInt = _
  have ha := a.toInt_lt
  have ha' := a.le_toInt
  have hb := b.toInt_lt
  have hb' := b.le_toInt
  obtain ⟨hge, hle⟩ : -(2 ^ 31 * 2 ^ 31) ≤ a.toInt * b.toInt ∧ a.toInt * b.toInt ≤ 2 ^ 31 * 2 ^ 31 := by
    rw [← abs_le, abs_mul]
    exact mul_le_mul (abs_le.mpr ⟨by omega, by omega⟩) (abs_le.mpr ⟨by omega, by omega⟩) (abs_nonneg _) (by decide)
  rw [BitVec.toInt_ofInt, Int.bmod_eq_of_le (by omega) (by omega)]
  rfl

theorem toNat_aluOp_mulhu : (aluOp 0x0B a b).toNat = a.toNat * b.toNat / 2 ^ 32 := by
  refine toNat_w32 _ ?_
  have h : a.toNat * b.toNat < 2 ^ 32 * 2 ^ 32 := Nat.mul_lt_mul'' a.isLt b.isLt
  omega

theorem toInt_aluOp_min : (aluOp 0x0C a b).toInt = min a.toInt b.toInt := by
  change (if a.toInt < b.toInt then a else b).toInt = _
  split <;> omega

theorem toInt_aluOp_max : (aluOp 0x0D a b).toInt = max a.toInt b.toInt := by
  change (if a.toInt < b.toInt then b else a).toInt = _
  split <;> omega

theorem toNat_aluOp_minu : (aluOp 0x0E a b).toNat = min a.toNat b.toNat := by
  change (if a.toNat < b.toNat then a else b).toNat = _
  split <;> omega

theorem toNat_aluOp_maxu : (aluOp 0x0F a b).toNat = max a.toNat b.toNat := by
  change (if a.toNat < b.toNat then b else a).toNat = _
  split <;> omega

/-- The magnitude of the least signed word is 2^31. -/
theorem toNat_aluOp_abs : (aluOp 0x10 a b).toNat = a.toInt.natAbs := by
  change (if a.getLsbD 31 then 0 - a else a).toNat = _
  have hm : a.getLsbD 31 = a.msb := rfl
  have := a.isLt
  rw [hm, BitVec.toInt_eq_msb_cond]
  by_cases h : a.msb = true
  · have := BitVec.toNat_ge_of_msb_true h
    rw [if_pos h, if_pos h, BitVec.toNat_sub, show (0 : Word).toNat = 0 from rfl]
    omega
  · rw [if_neg h, if_neg h]
    rfl

/-- The leading zeros of a word that is not 0 lie above its highest bit. -/
theorem toNat_aluOp_clz (h : a ≠ 0) : (aluOp 0x11 a b).toNat = 31 - a.toNat.log2 := by
  change (w32 (if a = 0 then 32 else 31 - a.toNat.log2)).toNat = _
  rw [if_neg h, toNat_w32 _ (by omega)]

theorem aluOp_clz_bounds (h : a ≠ 0) :
    2 ^ (31 - (aluOp 0x11 a b).toNat) ≤ a.toNat ∧ a.toNat < 2 ^ (32 - (aluOp 0x11 a b).toNat) := by
  have h0 : a.toNat ≠ 0 := fun e => h (BitVec.eq_of_toNat_eq e)
  have hl : a.toNat.log2 < 32 := (Nat.log2_lt h0).mpr a.isLt
  rw [toNat_aluOp_clz a b h, show 31 - (31 - a.toNat.log2) = a.toNat.log2 by omega,
    show 32 - (31 - a.toNat.log2) = a.toNat.log2 + 1 by omega]
  exact ⟨Nat.log2_self_le h0, Nat.lt_log2_self⟩

end

/-- Settles O11: each function by its own law. -/
theorem aluFunctionValues : Obligations.AluFunctionValues := by
  unfold Obligations.AluFunctionValues
  intro a b
  exact ⟨BitVec.toNat_add a b, toNat_aluOp_sub a b,
    fun n hn => ⟨BitVec.getLsbD_and, BitVec.getLsbD_or, BitVec.getLsbD_xor, bitAt_aluOp_andn a b n hn⟩,
    toNat_aluOp_sll a b, toNat_aluOp_srl a b, toInt_aluOp_sra a b, BitVec.toNat_mul a b, toInt_aluOp_mulh a b, toNat_aluOp_mulhu a b,
    toInt_aluOp_min a b, toInt_aluOp_max a b, toNat_aluOp_minu a b, toNat_aluOp_maxu a b, toNat_aluOp_abs a b,
    fun h => congrArg w32 (if_pos h), aluOp_clz_bounds a b⟩

/-! ### The comparisons of FCMP -/

/-- Beside a NaN no order holds (R198). -/
theorem flLt_of_isNan {x y : Fl} (h : x.isNan = true ∨ y.isNan = true) : flLt false x y = false := by
  cases x with
  | nan => rfl
  | inf => cases y with
    | nan => rfl
    | inf | fin => simp [Fl.isNan] at h
  | fin => cases y with
    | nan => rfl
    | inf | fin => simp [Fl.isNan] at h

theorem flEq_of_isNan {x y : Fl} (h : x.isNan = true ∨ y.isNan = true) : flEq x y = false := by
  unfold flEq
  rcases h with h | h <;> simp [h]

/-- What each comparison gives where an operand is a NaN (R198). -/
theorem fcmpOp_of_isNan {a b : Word} (h : (flOf a).isNan = true ∨ (flOf b).isNan = true) :
    (fcmpOp 0 a b).1 = false ∧ (fcmpOp 1 a b).1 = false ∧ (fcmpOp 2 a b).1 = false ∧ (fcmpOp 3 a b).1 = true ∧
    (fcmpOp 1 a b).2 = fInvalid ∧ (fcmpOp 2 a b).2 = fInvalid := by
  have hnan : ((flOf a).isNan || (flOf b).isNan) = true := Bool.or_eq_true_iff.mpr h
  refine ⟨flEq_of_isNan h, flLt_of_isNan h, ?_, hnan, if_pos hnan, if_pos hnan⟩
  change (flLt false (flOf a) (flOf b) || flEq (flOf a) (flOf b)) = false
  rw [flLt_of_isNan h, flEq_of_isNan h]
  rfl

end Sys2Proof
end

section
/-!
Instructions that complete: what stands in the registers of a core after a result, with the flags it adds (R159, R196 to R200, R203 to R205,
R213).
-/
namespace Sys2Proof.Machine
open Sys2Proof

/-! ### One kind of register is not touched by a write of another -/

section
variable (s : State) (k : CoreId) (i r : Nat)

theorem core_setPr (b : Bool) : (s.setPr k i b).core k.num = (s.core k.num).setPr i b := by simp [State.setPr]

theorem core_addFlags (f : BitVec 4) : (s.addFlags k f).core k.num = { s.core k.num with fstat := (s.core k.num).fstat ||| f } := by
  simp [State.addFlags]

/-- A write of a predicate leaves the rest of its core. -/
theorem setPr_rest (b : Bool) : let x := (s.setPr k i b).core k.num
    x.fstat = (s.core k.num).fstat ∧ x.rets = (s.core k.num).rets ∧ x.loops = (s.core k.num).loops ∧
    x.g = (s.core k.num).g ∧ x.z = (s.core k.num).z := by
  intro x
  have hx : x = _ := core_setPr s k i b
  rw [hx]
  unfold Core.setPr
  split <;> exact ⟨rfl, rfl, rfl, rfl, rfl⟩

@[simp] theorem zr_setGr (v : Word) : (s.setGr k i v).zr k r = s.zr k r := by
  obtain ⟨-, -, -, hz, -⟩ := setGr_rest s k i v
  simp only [State.zr, Core.zr, hz]
@[simp] theorem pr_setGr (v : Word) : (s.setGr k i v).pr k r = s.pr k r := by
  obtain ⟨-, -, -, -, hp⟩ := setGr_rest s k i v
  simp only [State.pr, Core.pr, hp]
@[simp] theorem gr_setZr (v : Word × Word) : (s.setZr k i v).gr k r = s.gr k r := by
  obtain ⟨-, -, -, hg, -⟩ := setZr_rest s k i v
  simp only [State.gr, Core.gr, hg]
@[simp] theorem pr_setZr (v : Word × Word) : (s.setZr k i v).pr k r = s.pr k r := by
  obtain ⟨-, -, -, -, hp⟩ := setZr_rest s k i v
  simp only [State.pr, Core.pr, hp]
@[simp] theorem gr_setPr (b : Bool) : (s.setPr k i b).gr k r = s.gr k r := by
  obtain ⟨-, -, -, hg, -⟩ := setPr_rest s k i b
  simp only [State.gr, Core.gr, hg]
@[simp] theorem zr_setPr (b : Bool) : (s.setPr k i b).zr k r = s.zr k r := by
  obtain ⟨-, -, -, -, hz⟩ := setPr_rest s k i b
  simp only [State.zr, Core.zr, hz]
@[simp] theorem gr_addFlags (f : BitVec 4) : (s.addFlags k f).gr k r = s.gr k r := by simp only [State.gr, Core.gr, core_addFlags]
@[simp] theorem zr_addFlags (f : BitVec 4) : (s.addFlags k f).zr k r = s.zr k r := by simp only [State.zr, Core.zr, core_addFlags]
@[simp] theorem pr_addFlags (f : BitVec 4) : (s.addFlags k f).pr k r = s.pr k r := by simp only [State.pr, Core.pr, core_addFlags]

theorem gr_setGr (v : Word) (hi : i < 32) : (s.setGr k i v).gr k r = if r = i ∧ r ≠ 0 then v else s.gr k r := by
  simp only [State.gr, core_setGr, Core.gr_setGr _ _ _ _ hi]
theorem zr_setZr (v : Word × Word) (hi : i < 16) : (s.setZr k i v).zr k r = if r = i then v else s.zr k r := by
  simp only [State.zr, core_setZr, Core.zr_setZr _ _ _ _ hi]
theorem pr_setPr (b : Bool) (hi : i < 8) : (s.setPr k i b).pr k r = if r = i ∧ r ≠ 0 then b else s.pr k r := by
  simp only [State.pr, core_setPr, Core.pr_setPr _ _ _ _ hi]

end

section
variable {s u : State} {k : CoreId} (i : Nat)

theorem OnlyCore.setGr (h : OnlyCore s u k) (v : Word) : OnlyCore s (u.setGr k i v) k := h.trans (.coreMod u k _)
theorem OnlyCore.setZr (h : OnlyCore s u k) (v : Word × Word) : OnlyCore s (u.setZr k i v) k := h.trans (.coreMod u k _)
theorem OnlyCore.setPr (h : OnlyCore s u k) (b : Bool) : OnlyCore s (u.setPr k i b) k := h.trans (.coreMod u k _)
theorem OnlyCore.addFlags (h : OnlyCore s u k) (f : BitVec 4) : OnlyCore s (u.addFlags k f) k := h.trans (.coreMod u k _)

end

/-! ### What an effect leaves of the flags, the return addresses and the loops -/

/-- From s to u core k keeps its return addresses and loops, and the flags f are added. -/
structure Flagged (s u : State) (k : CoreId) (f : BitVec 4) : Prop where
  fstat : (u.core k.num).fstat = (s.core k.num).fstat ||| f
  rets : (u.core k.num).rets = (s.core k.num).rets
  loops : (u.core k.num).loops = (s.core k.num).loops

section
variable {s u v : State} {k : CoreId} {f : BitVec 4}

theorem Flagged.atIssue (s : State) (k : CoreId) (w : Word) : Flagged s (s.atIssue k w) k 0 := ⟨by simp, by simp, by simp⟩

/-- A further change that keeps them all. -/
theorem Flagged.keep (h : Flagged s u k f) (hf : (v.core k.num).fstat = (u.core k.num).fstat) (hr : (v.core k.num).rets = (u.core k.num).rets)
    (hl : (v.core k.num).loops = (u.core k.num).loops) : Flagged s v k f := ⟨hf.trans h.fstat, hr.trans h.rets, hl.trans h.loops⟩

theorem Flagged.of_cores (h : Flagged s u k f) (hc : v.cores = u.cores) : Flagged s v k f := by
  have hk : v.core k.num = u.core k.num := by unfold State.core; rw [hc]
  exact h.keep (by rw [hk]) (by rw [hk]) (by rw [hk])

theorem Flagged.setGr (h : Flagged s u k f) (i : Nat) (x : Word) : Flagged s (u.setGr k i x) k f := by
  obtain ⟨hf, hr, hl, -, -⟩ := setGr_rest u k i x
  exact h.keep hf hr hl

theorem Flagged.setZr (h : Flagged s u k f) (i : Nat) (x : Word × Word) : Flagged s (u.setZr k i x) k f := by
  obtain ⟨hf, hr, hl, -, -⟩ := setZr_rest u k i x
  exact h.keep hf hr hl

theorem Flagged.setPr (h : Flagged s u k f) (i : Nat) (x : Bool) : Flagged s (u.setPr k i x) k f := by
  obtain ⟨hf, hr, hl, -, -⟩ := setPr_rest u k i x
  exact h.keep hf hr hl

theorem Flagged.addFlags (h : Flagged s u k 0) (f : BitVec 4) : Flagged s (u.addFlags k f) k f := by
  have hu := core_addFlags u k f
  refine ⟨?_, by rw [hu, h.rets], by rw [hu, h.loops]⟩
  rw [hu, h.fstat]
  simp

end

/-! ### Instructions that complete -/

section
variable {s u : State} {k : CoreId} {w : Word} {eff : State → WEff} {f : BitVec 4} {i j : Nat} {v : Word} {z : Word × Word} {b : Bool}

/-- Behind the effect of an instruction only its issue follows: its core keeps every register, and the flags are those of the effect. -/
theorem walso_completes (h : s.Runs k w) (he : eff (s.atIssue k w) = .ok u) (hf : Flagged s u k f) :
    let t := s.walso k w eff
    OnlyCore u t k ∧ KeepsRegs u t k ∧ AddsFlags s t k f := by
  rw [State.walso_ok h he]
  exact ⟨State.settled_only _ _ _ _ _ _ _, State.settled_keeps, addsFlags_settled hf.fstat hf.rets hf.loops⟩

/-- An effect on the core alone, as the statements see its registers. -/
theorem walso_onCore (h : s.Runs k w) (he : eff (s.atIssue k w) = .ok u) (hf : Flagged s u k f) (ho : OnlyCore s u k) :
    let t := s.walso k w eff
    OnlyCore s t k ∧ (∀ r, t.gr k r = u.gr k r) ∧ (∀ r, t.zr k r = u.zr k r) ∧ (∀ r, t.pr k r = u.pr k r) ∧ AddsFlags s t k f := by
  obtain ⟨honly, ⟨hg, hz, hp⟩, hadds⟩ := walso_completes h he hf
  exact ⟨ho.trans honly, hg, hz, hp, hadds⟩

/-- A g register and the flags of its value. -/
theorem walso_setRes {r : FRes} (h : s.Runs k w) (hi : i < 32) (he : eff (s.atIssue k w) = .ok ((s.atIssue k w).setRes k i r)) :
    WritesG s (s.walso k w eff) k i r.1 r.2 := by
  obtain ⟨ho, hg, hz, hp, ha⟩ := walso_onCore h he (((Flagged.atIssue s k w).setGr i r.1).addFlags r.2)
    (((s.atIssue_only k w).setGr i r.1).addFlags r.2)
  exact ⟨ho, fun n => by simp [hg, State.setRes, gr_setGr _ _ _ _ _ hi],
    fun n => by simp [hz, State.setRes], fun n => by simp [hp, State.setRes], ha⟩

/-- A z register and the flags of its value. -/
theorem walso_setCx {r : Cx × BitVec 4} (h : s.Runs k w) (hi : i < 16) (he : eff (s.atIssue k w) = .ok ((s.atIssue k w).setCx k i r)) :
    WritesZ s (s.walso k w eff) k i r.1 r.2 := by
  obtain ⟨ho, hg, hz, hp, ha⟩ := walso_onCore h he (((Flagged.atIssue s k w).setZr i r.1).addFlags r.2)
    (((s.atIssue_only k w).setZr i r.1).addFlags r.2)
  exact ⟨ho, fun n => by simp [hg, State.setCx], fun n => by simp [hz, State.setCx, zr_setZr _ _ _ _ _ hi],
    fun n => by simp [hp, State.setCx], ha⟩

/-- A predicate and the flags of the comparison. -/
theorem walso_setCmp {r : Bool × BitVec 4} (h : s.Runs k w) (hi : i < 8) (he : eff (s.atIssue k w) = .ok ((s.atIssue k w).setCmp k i r)) :
    WritesP s (s.walso k w eff) k i r.1 r.2 := by
  obtain ⟨ho, hg, hz, hp, ha⟩ := walso_onCore h he (((Flagged.atIssue s k w).setPr i r.1).addFlags r.2)
    (((s.atIssue_only k w).setPr i r.1).addFlags r.2)
  exact ⟨ho, fun n => by simp [hg, State.setCmp], fun n => by simp [hz, State.setCmp],
    fun n => by simp [hp, State.setCmp, pr_setPr _ _ _ _ _ hi], ha⟩

/-- A predicate without flags. -/
theorem walso_writesP (h : s.Runs k w) (hi : i < 8) (he : eff (s.atIssue k w) = .ok ((s.atIssue k w).setPr k i b)) :
    WritesP s (s.walso k w eff) k i b 0 := by
  obtain ⟨ho, hg, hz, hp, ha⟩ := walso_onCore h he ((Flagged.atIssue s k w).setPr i b) ((s.atIssue_only k w).setPr i b)
  exact ⟨ho, fun n => by simp [hg], fun n => by simp [hz], fun n => by simp [hp, pr_setPr _ _ _ _ _ hi], ha⟩

end

/-! ### Comparisons -/

theorem cmpCond_eq (a b : Word) : cmpCond 0 a b = decide (a = b) := beq_eq_decide a b

theorem cmpCond_ne (a b : Word) : cmpCond 1 a b = decide (a ≠ b) := by
  change (!(a == b)) = _
  rw [beq_eq_decide, decide_not]

section
variable {s : State} {k : CoreId} {pn : Bool} {ps : Fin 8} {rd ra rb : BitVec 5} {fn : BitVec 7} {imm : BitVec 12} {b : Bool}

theorem walso_cmp (h : s.Runs k (encR 0x09 pn ps rd ra rb fn)) (hb : s.cmpVal k ra.toNat rb.toNat fn.toNat = b) :
    ∃ t, exec (.cmp k pn ps rd ra rb fn) s = .next t ∧ WritesP s t k (rd.toNat % 8) b 0 := by
  refine ⟨_, rfl, walso_writesP h (Nat.mod_lt _ (by decide)) ?_⟩
  rw [← hb]
  simp only [State.cmpVal, State.atIssue_gr, State.atIssue_pr]

theorem walso_cmpi (h : s.Runs k (encI 0x0A pn ps rd ra imm)) (hb : cmpCond (rd.toNat / 8) (s.gr k ra.toNat) (sImm imm) = b) :
    ∃ t, exec (.cmpi k pn ps rd ra imm) s = .next t ∧ WritesP s t k (rd.toNat % 8) b 0 := by
  refine ⟨_, rfl, walso_writesP h (Nat.mod_lt _ (by decide)) ?_⟩
  rw [← hb]
  simp only [State.atIssue_gr]

end

/-- The predicate operations of CMP name predicates (R196). -/
theorem predOperands_of_legal {p : Prof} {pn : Bool} {ps : Fin 8} {rd ra rb : BitVec 5} {fn : BitVec 7}
    (h : wCause p (encR 0x09 pn ps rd ra rb fn) = none) (h8 : 8 ≤ fn.toNat) (hB : fn.toNat ≤ 0xB) : ra.toNat < 8 ∧ rb.toNat < 8 := by
  have hf := wFields_of_legal h
  have hop : wOp (encR 0x09 pn ps rd ra rb fn) = 0x09 := wOp_wEnc _ _ _ _
  have hfn : wFn (encR 0x09 pn ps rd ra rb fn) = fn.toNat := by
    unfold wFn encR
    simp (disch := omega) only [field_eq_toNat_extractLsb', extractLsb'_wEnc, BitVec.extractLsb'_append_eq_of_add_le, BitVec.extractLsb'_eq_self]
  have hra : wRa (encR 0x09 pn ps rd ra rb fn) = ra.toNat := by
    unfold wRa encR
    simp (disch := omega) only [field_eq_toNat_extractLsb', extractLsb'_wEnc, BitVec.extractLsb'_append_eq_of_add_le, extractLsb'_append_high]
  have hrb : wRb (encR 0x09 pn ps rd ra rb fn) = rb.toNat := by
    unfold wRb encR
    simp (disch := omega) only [field_eq_toNat_extractLsb', extractLsb'_wEnc, BitVec.extractLsb'_append_eq_of_add_le, extractLsb'_append_high]
  unfold wFields at hf
  simp [hop, hfn, hra, hrb] at hf
  omega

/-- Settles O12: a comparison writes the predicate by its condition, from operands as they stand before it. -/
theorem walsoPredicateResults : Obligations.WalsoPredicateResults := by
  unfold Obligations.WalsoPredicateResults
  intro s k pn ps rd ra rb imm P C a b p q
  have hpred : ∀ {fn : BitVec 7} {v : Bool}, 8 ≤ fn.toNat → fn.toNat ≤ 0xB → predOp fn.toNat p q = v → C fn v := fun h8 hB hv h => by
    obtain ⟨hra, hrb⟩ := predOperands_of_legal h.reaches.legal h8 hB
    refine walso_cmp h ?_
    unfold State.cmpVal
    rw [if_neg (by omega), if_pos hB, Nat.mod_eq_of_lt hra, Nat.mod_eq_of_lt hrb]
    exact hv
  refine ⟨fun h => walso_cmp h ?_, fun h => walso_cmp h ?_, fun h => walso_cmp h rfl, fun h => walso_cmp h rfl, fun h => walso_cmp h rfl,
    fun h => walso_cmp h rfl, hpred (by decide) (by decide) rfl, hpred (by decide) (by decide) rfl, hpred (by decide) (by decide) rfl,
    hpred (by decide) (by decide) rfl, fun h => walso_cmp h rfl, fun h => walso_cmp h rfl, ?_⟩
  · exact cmpCond_eq a b
  · exact cmpCond_ne a b
  · intro i w x
    refine ⟨fun hc h => walso_cmpi h ?_, fun hc h => walso_cmpi h ?_, fun hc h => walso_cmpi h ?_, fun hc h => walso_cmpi h ?_⟩ <;> rw [hc]
    · exact cmpCond_eq a x
    · exact cmpCond_ne a x
    · rfl
    · rfl

end Sys2Proof.Machine
end

section
/-!
Binary32 and complex results, and what instructions read of their core, of the windows and of the entry phase (R197 to R200, R203 to R205,
R209 to R214, R224, R225).
-/
namespace Sys2Proof.Machine
open Sys2Proof

/-! ### Binary32 and complex results -/

/-- Settles O14: results and flags of the three families, and the cases of FCMP. -/
theorem walsoFloatResults : Obligations.WalsoFloatResults := by
  unfold Obligations.WalsoFloatResults
  refine ⟨fun s k pn ps rd ra rb fn => ⟨fun h => ⟨_, rfl, walso_setRes h rd.isLt ?_⟩,
    fun h => ⟨_, rfl, walso_setCmp h (Nat.mod_lt _ (by decide)) ?_⟩, fun h => ⟨_, rfl, walso_setRes h rd.isLt ?_⟩⟩,
    fun a b => fcmpOp_of_isNan, fun a b ha hb => ?_, by decide, by decide, by decide⟩
  iterate 3 · simp only [State.atIssue_gr]
  · change ((flOf a).isNan || (flOf b).isNan) = false
    rw [ha, hb]
    rfl

section
variable {s : State} {k : CoreId} {w : Word} {eff : State → WEff} {zd za zb ga fn kind : Nat}

/-- The functions of CPX that write a g register (R203, R205). -/
theorem walso_cpxG (h : s.Runs k w) (hi : ga < 32) (hf : 8 ≤ fn ∧ fn ≤ 0xB)
    (he : eff (s.atIssue k w) = .ok ((s.atIssue k w).cpx k zd za zb ga fn)) :
    WritesG s (s.walso k w eff) k ga (cpxG fn (s.zr k za)).1 (cpxG fn (s.zr k za)).2 := by
  refine walso_setRes h hi (he.trans ?_)
  rw [State.cpx, if_pos hf, State.atIssue_zr]

/-- The functions of CPX that write a z register (R203, R204). -/
theorem walso_cpxZ (h : s.Runs k w) (hi : zd < 16) (hf : ¬ (8 ≤ fn ∧ fn ≤ 0xB))
    (he : eff (s.atIssue k w) = .ok ((s.atIssue k w).cpx k zd za zb ga fn)) :
    let r := cpxZ fn (s.zr k zd) (s.zr k za) (s.zr k zb) (s.gr k ga)
    WritesZ s (s.walso k w eff) k zd r.1 r.2 := by
  refine walso_setCx h hi (he.trans ?_)
  rw [State.cpx, if_neg hf]
  simp only [State.atIssue_zr, State.atIssue_gr]

theorem walso_seq (h : s.Runs k w) (hi : zd < 16) (he : eff (s.atIssue k w) = .ok ((s.atIssue k w).seq k zd za kind)) :
    let r := seqComp kind (s.zr k za) (s.zr k (za + 1)) (s.zr k (za + 2))
    WritesZ s (s.walso k w eff) k zd r.1 r.2 := by
  refine walso_setCx h hi (he.trans ?_)
  unfold State.seq
  simp only [State.atIssue_zr]
  rfl

end

/-- Settles O15: CPX by the kind of its destination, and SEQ. -/
theorem walsoComplexResults : Obligations.WalsoComplexResults := by
  unfold Obligations.WalsoComplexResults
  exact fun s k pn ps zd za zb ga fn z1 kind z => ⟨fun h => ⟨fun hf => ⟨_, rfl, walso_cpxG h ga.isLt hf rfl⟩,
    fun hf => ⟨_, rfl, walso_cpxZ h zd.isLt hf rfl⟩⟩, fun h => ⟨_, rfl, walso_seq h zd.isLt rfl⟩⟩

/-! ### Special registers (R200) -/

theorem packBits_succ (n : Nat) (p : Nat → Bool) : packBits (n + 1) p = if p n then packBits n p + 2 ^ n else packBits n p := by
  simp [packBits, List.range_succ]

theorem packBits_lt (n : Nat) (p : Nat → Bool) : packBits n p < 2 ^ n := by
  induction n with
  | zero => exact Nat.one_pos
  | succ n ih =>
    rw [packBits_succ, Nat.pow_succ]
    split <;> omega

/-- The bits of a packed number. -/
theorem testBit_packBits (n : Nat) (p : Nat → Bool) (i : Nat) : (packBits n p).testBit i = (decide (i < n) && p i) := by
  induction n with
  | zero => simp [packBits]
  | succ n ih =>
    have hor : packBits n p + 2 ^ n = 2 ^ n ||| packBits n p := by
      rw [Nat.add_comm]
      simpa using Nat.two_pow_add_eq_or_of_lt (packBits_lt n p) 1
    have hsucc : decide (i < n + 1) = (decide (i < n) || decide (n = i)) := by
      rw [← Bool.decide_or, decide_eq_decide]
      omega
    rw [packBits_succ, hsucc, apply_ite (Nat.testBit · i), hor, Nat.testBit_or, Nat.testBit_two_pow, ih]
    by_cases hn : n = i
    · subst hn
      cases p n <;> simp
    · simp [hn]

/-- RDP packs the predicates with p0 as 1. -/
theorem packBits_pr (s : State) (k : CoreId) : w32 (packBits 8 (fun i => s.pr k i)) = ((s.core k.num).p ||| 1).zeroExtend 32 := by
  refine BitVec.eq_of_getLsbD_eq fun i hi => ?_
  unfold w32
  rw [BitVec.getLsbD_ofNat, testBit_packBits]
  by_cases h8 : i < 8
  · by_cases h0 : i = 0 <;> simp [h8, hi, h0, State.pr, Core.pr, Bool.or_comm]
  · have hp : (s.core k.num).p.getLsbD i = false := BitVec.getLsbD_of_ge _ _ (by omega)
    have h0 : ¬ i = 0 := by omega
    simp [h8, hp, h0]

section
variable {s : State} {k : CoreId} {w : Word} {eff : State → WEff}

/-- FSTAT is cleared, and nothing else changes (R200). -/
theorem walso_clrfs (h : s.Runs k w) (he : eff (s.atIssue k w) = .ok ((s.atIssue k w).coreMod k.num (fun x => { x with fstat := 0 }))) :
    let t := s.walso k w eff
    OnlyCore s t k ∧ KeepsG s t k ∧ KeepsZ s t k ∧ KeepsP s t k ∧ (t.core k.num).fstat = 0 ∧ (t.core k.num).rets = (s.core k.num).rets ∧
    Falls s t k := by
  intro t
  have ht : t = _ := State.walso_ok h he
  obtain ⟨hg, hz, hp⟩ : KeepsRegs s ((s.atIssue k w).coreMod k.num (fun x => { x with fstat := 0 })) k :=
    .of_core (by simp [core_atIssue]) (by simp [core_atIssue]) (by simp [core_atIssue])
  rw [ht]
  exact ⟨((s.atIssue_only k w).trans (.coreMod _ k _)).trans (State.settled_only _ _ _ _ _ _ _), fun r => by rw [State.settled_gr, hg],
    fun r => by rw [State.settled_zr, hz], fun r => by rw [State.settled_pr, hp], by simp, by simp,
    fun hl => State.settled_falls _ k _ w _ _ _ (by simpa using hl)⟩

end

/-! ### The windows and the phasor RAM (R165, R209 to R212) -/

section
variable {s u t : State} {k : CoreId} {c : Fin 16} {w : Word} {eff : State → WEff} {i j : Nat} {v : Word} {z : Word × Word} {keys : List Nat}

theorem OnlyCore.agree (h : OnlyCore s t k) : Agree 1073741824 s t := by
  rw [h.1]
  exact Agree.up_cores _ _

theorem cores_setGr (h : u.cores = t.cores) : (u.setGr k i v).cores = (t.setGr k i v).cores := by
  unfold State.setGr State.coreMod State.setCore State.core
  rw [h]

/-- An effect whose cores are those of a write of a g register. -/
theorem walso_coresG (h : s.Runs k w) (hi : i < 32) (he : eff (s.atIssue k w) = .ok u) (hc : u.cores = ((s.atIssue k w).setGr k i v).cores) :
    let t := s.walso k w eff
    OnlyCore u t k ∧ PutsG s t k i v ∧ KeepsZ s t k ∧ KeepsP s t k ∧ AddsFlags s t k 0 := by
  obtain ⟨hug, huz, hup⟩ := KeepsRegs.of_cores (k := k) hc
  obtain ⟨ho, ⟨hg, hz, hp⟩, ha⟩ := walso_completes h he (((Flagged.atIssue s k w).setGr i v).of_cores hc)
  exact ⟨ho, fun r => by rw [hg, hug, gr_setGr _ _ _ _ _ hi, State.atIssue_gr], fun r => by rw [hz, huz, zr_setGr, State.atIssue_zr],
    fun r => by rw [hp, hup, pr_setGr, State.atIssue_pr], ha⟩

/-- A g register takes a value behind an operation that leaves the cores. -/
theorem walso_putsG (h : s.Runs k w) (hi : i < 32) (hc : u.cores = (s.atIssue k w).cores) (he : eff (s.atIssue k w) = .ok (u.setGr k i v)) :
    let t := s.walso k w eff
    OnlyCore u t k ∧ PutsG s t k i v ∧ KeepsZ s t k ∧ KeepsP s t k ∧ AddsFlags s t k 0 := by
  obtain ⟨ho, hrest⟩ := walso_coresG h hi he (cores_setGr hc)
  exact ⟨(OnlyCore.coreMod u k _).trans ho, hrest⟩

/-- A g and a z register take values behind an operation that leaves the cores. -/
theorem walso_putsGZ (h : s.Runs k w) (hi : i < 32) (hj : j < 16) (hc : u.cores = (s.atIssue k w).cores)
    (he : eff (s.atIssue k w) = .ok ((u.setGr k i v).setZr k j z)) :
    let t := s.walso k w eff
    OnlyCore u t k ∧ PutsG s t k i v ∧ PutsZ s t k j z ∧ KeepsP s t k ∧ AddsFlags s t k 0 := by
  obtain ⟨hug, huz, hup⟩ := (s.atIssue_keeps k w).trans (.of_cores hc)
  obtain ⟨ho, ⟨hg, hz, hp⟩, ha⟩ := walso_completes h he ((((Flagged.atIssue s k w).of_cores hc).setGr i v).setZr j z)
  exact ⟨((OnlyCore.coreMod u k _).trans (.coreMod _ k _)).trans ho, fun r => by rw [hg, gr_setZr, gr_setGr _ _ _ _ _ hi, hug],
    fun r => by rw [hz, zr_setZr _ _ _ _ _ hj, zr_setGr, huz], fun r => by rw [hp, pr_setZr, pr_setGr, hup], ha⟩

theorem winSeen_clean (h : ∀ key ∈ keys, u.upset c.val key = 0) : u.winSeen c.val keys = u := by
  unfold State.winSeen
  rw [if_neg]
  simpa using h

theorem winSeen_parity {key : Nat} (h : u.upset c.val key ≠ 0) : u.winSeen c.val [key] = u.putBit (Reg.CORE_STAT c.val) 13 true := by
  unfold State.winSeen
  rw [if_pos]
  simpa using h

theorem winWord_clean {key : Nat} (h : u.upset c.val key = 0) : u.winWord c.val key = u.rd key := if_pos h

theorem winWord_parity {key : Nat} (h : u.upset c.val key ≠ 0) : u.winWord c.val key = 0x80 := if_neg h

theorem upset_atIssue (d key : Nat) : (s.atIssue k w).upset d key = s.upset d key := rfl

/-- What a parity error of a word read leaves beside the core: WIN_PAR (R165). -/
theorem parity_shows (ho : OnlyCore ((s.atIssue k w).putBit (Reg.CORE_STAT c.val) 13 true) t k) :
    t.bit (Reg.CORE_STAT c.val) 13 = true ∧ OnlyRegs s t [Reg.CORE_STAT c.val] ∧ t = { s with regs := t.regs, cores := t.cores } := by
  refine ⟨?_, fun a ha => ?_, ?_⟩
  · rw [ho.bit, State.bit_putBit _ _ _ _ _ _ (by decide), if_pos ⟨rfl, rfl⟩]
  · rw [ho.rd, State.rd_putBit_ne _ _ _ _ _ (fun e => ha (by simp [e]))]
    exact (s.atIssue_only k w).rd a
  · have hag : Agree 1073741825 s t :=
      (((State.atIssue_ag s k w).mono (by decide)).then (State.putBit_ag _ _ _ _) (by decide)).then ho.agree (by decide)
    exact hag.eq_overlay

end

section
variable {s : State} {c : Fin 16} {w : Word} {eff : State → WEff} {rd zd lane age h : Nat} {str al half : Bool}

/-- Key of the sample that LDS reads (R209, R210). -/
def State.ldsKey (s : State) (c : Fin 16) (str : Bool) (lane : Nat) (al : Bool) (age : Nat) : Nat :=
  if str then s.trkKey c.val lane (s.ldsAge (.elem c) al age) else s.protKey c.val lane (s.ldsAge (.elem c) al age)

theorem ldsKey_atIssue : (s.atIssue (.elem c) w).ldsKey c str lane al age = s.ldsKey c str lane al age := by
  have hage : (s.atIssue (.elem c) w).ldsAge (.elem c) al age = s.ldsAge (.elem c) al age := by
    unfold State.ldsAge
    rw [State.atIssue_loops]
  unfold State.ldsKey
  rw [hage]
  rfl

/-- The effect of LDS by the word it reads. -/
theorem lds_atIssue : (s.atIssue (.elem c) w).lds (.elem c) rd zd str lane al age =
    (((s.atIssue (.elem c) w).winSeen c.val [s.ldsKey c str lane al age]).setGr (.elem c) rd
      (s.winWord c.val (s.ldsKey c str lane al age) &&& 0xFF)).setZr (.elem c) zd (ldsValue (s.winWord c.val (s.ldsKey c str lane al age)), 0) := by
  rw [← ldsKey_atIssue (w := w)]
  rfl

theorem walso_lds_clean (hr : s.Runs (.elem c) w) (hi : rd < 32) (hj : zd < 16) (hu : s.upset c.val (s.ldsKey c str lane al age) = 0)
    (he : eff (s.atIssue (.elem c) w) = .ok ((s.atIssue (.elem c) w).lds (.elem c) rd zd str lane al age)) :
    WritesGZ s (s.walso (.elem c) w eff) (.elem c) rd zd (s.rd (s.ldsKey c str lane al age) &&& 0xFF)
      (ldsValue (s.rd (s.ldsKey c str lane al age)), 0) := by
  rw [lds_atIssue, winWord_clean hu, winSeen_clean (by simpa [upset_atIssue] using hu)] at he
  obtain ⟨ho, hrest⟩ := walso_putsGZ hr hi hj rfl he
  exact ⟨(s.atIssue_only _ w).trans ho, hrest⟩

theorem walso_lds_parity (hr : s.Runs (.elem c) w) (hi : rd < 32) (hj : zd < 16) (hu : s.upset c.val (s.ldsKey c str lane al age) ≠ 0)
    (he : eff (s.atIssue (.elem c) w) = .ok ((s.atIssue (.elem c) w).lds (.elem c) rd zd str lane al age)) :
    let t := s.walso (.elem c) w eff
    PutsG s t (.elem c) rd 0x80 ∧ PutsZ s t (.elem c) zd (0, 0) ∧ KeepsP s t (.elem c) ∧ AddsFlags s t (.elem c) 0 ∧
    t.bit (Reg.CORE_STAT c.val) 13 = true ∧ OnlyRegs s t [Reg.CORE_STAT c.val] ∧ t = { s with regs := t.regs, cores := t.cores } := by
  rw [lds_atIssue, winWord_parity hu, winSeen_parity (by exact hu)] at he
  obtain ⟨ho, hg, hz, hp, ha⟩ := walso_putsGZ (u := (s.atIssue (.elem c) w).putBit (Reg.CORE_STAT c.val) 13 true) hr hi hj rfl he
  exact ⟨hg, hz, hp, ha, parity_shows ho⟩

/-- A word of phasor RAM without an error reads as it stands. -/
theorem winWord_phasor {off : Nat} (hclean : ∀ a, 0x30000 ≤ a → a < 0x38000 → s.upset c.val (elemKey c.val a) = 0) (h : off < 0x8000) :
    s.upset c.val (phasorKey c.val off) = 0 ∧ (s.atIssue (.elem c) w).winWord c.val (phasorKey c.val off) = s.rd (phasorKey c.val off) := by
  have hu := hclean (0x30000 + off) (by omega) (by omega)
  have hkey : elemKey c.val (0x30000 + off) = phasorKey c.val off := by
    unfold elemKey
    rw [if_neg (by omega), if_neg (by omega), Nat.add_sub_cancel_left]
  rw [hkey] at hu
  exact ⟨hu, winWord_clean (by exact hu)⟩

theorem walso_phs (hr : s.Runs (.elem c) w) (hi : rd < 32) (hj : zd < 16) (hl : lane < 8) (hh : h < 128)
    (hclean : ∀ a, 0x30000 ≤ a → a < 0x38000 → s.upset c.val (elemKey c.val a) = 0)
    (he : eff (s.atIssue (.elem c) w) = .ok ((s.atIssue (.elem c) w).phs (.elem c) rd zd lane half h)) :
    let st := s.fld (phasorKey c.val ((if half then 0x1060 else 0x1040) + 4 * lane)) 3 0
    let off := if half then 0x1000 + 8 * lane else lane * 0x200 + 8 * h
    let ok := half && decide (h = 1) || !half && decide (h < s.fld (phasorKey c.val 0x1088) 7 0 / 2)
    WritesGZ s (s.walso (.elem c) w eff) (.elem c) rd zd (w32 (st + 16 * b2n (!ok)))
      (if ok && decide (st % 2 = 0) then (s.rd (phasorKey c.val off), s.rd (phasorKey c.val (off + 4))) else (0, 0)) := by
  intro st off ok
  have hword : ∀ n, n < 0x8000 → s.upset c.val (phasorKey c.val n) = 0 ∧
      (s.atIssue (.elem c) w).winWord c.val (phasorKey c.val n) = s.rd (phasorKey c.val n) := fun n => winWord_phasor hclean
  have hstat : (if half then 0x1060 else 0x1040) + 4 * lane < 0x8000 := by split <;> omega
  have hoff : off + 4 < 0x8000 := by unfold off; split <;> omega
  have hphs : (s.atIssue (.elem c) w).phs (.elem c) rd zd lane half h = ((s.atIssue (.elem c) w).setGr (.elem c) rd (w32 (st + 16 * b2n (!ok)))).setZr
      (.elem c) zd (if ok && decide (st % 2 = 0) then (s.rd (phasorKey c.val off), s.rd (phasorKey c.val (off + 4))) else (0, 0)) := by
    have hharm : (s.atIssue (.elem c) w).harmonic c.val half h = ok := by
      unfold State.harmonic
      rw [(hword 0x1088 (by decide)).2]
      cases half with
      | false => rfl
      | true => simp [ok]
    have hst : field ((s.atIssue (.elem c) w).winWord c.val (phasorKey c.val ((if half then 0x1060 else 0x1040) + 4 * lane))) 3 0 = st := by
      rw [(hword _ hstat).2]
      rfl
    unfold State.phs
    simp only [CoreId_cl, CoreId.num, hharm, hst]
    rw [winSeen_clean, (hword off (by omega)).2, (hword (off + 4) hoff).2]
    intro key hk
    rw [List.mem_append, List.mem_append, List.mem_singleton] at hk
    rcases hk with (rfl | hk) | hk
    · exact (hword _ hstat).1
    · cases half with
      | false =>
        rw [List.mem_singleton.mp hk]
        exact (hword _ (by decide)).1
      | true => exact absurd hk List.not_mem_nil
    · split at hk
      · rcases List.mem_pair.mp hk with rfl | rfl
        · exact (hword off (by omega)).1
        · exact (hword (off + 4) hoff).1
      · exact absurd hk List.not_mem_nil
  rw [hphs] at he
  obtain ⟨ho, hrest⟩ := walso_putsGZ hr hi hj rfl he
  exact ⟨(s.atIssue_only _ w).trans ho, hrest⟩

end

/-- Settles O13: what each instruction reads, and that a parity error of a sample shows. -/
theorem walsoSpecialAndEntryReads : Obligations.WalsoSpecialAndEntryReads := by
  unfold Obligations.WalsoSpecialAndEntryReads
  refine ⟨fun s k pn ps rd ra rb => ?_, fun s c pn ps rd zd str lane al age w z2 h sel z14 z6 cc slot z1 => ?_⟩
  · refine ⟨fun h => ⟨_, rfl, walso_writesG h rd.isLt ?_⟩, fun h => ⟨_, rfl, walso_writesG h rd.isLt ?_⟩,
      fun h => ⟨_, rfl, walso_writesG h rd.isLt ?_⟩, fun h => ⟨_, rfl, walso_clrfs h rfl⟩⟩
    · rw [State.atIssue_fstat]
    · simp only [Core.lc, State.atIssue_loops]
    · simp only [State.atIssue_pr, packBits_pr]
  · refine ⟨fun hr => ⟨fun hu => ⟨_, rfl, walso_lds_clean hr rd.isLt zd.isLt hu rfl⟩,
        fun hu => ⟨_, rfl, walso_lds_parity hr rd.isLt zd.isLt hu rfl⟩⟩,
      fun hr hclean => ⟨_, rfl, walso_phs hr rd.isLt zd.isLt lane.isLt h.isLt hclean rfl⟩,
      fun hr => ⟨_, rfl, walso_writesG hr rd.isLt rfl⟩, fun hr => ⟨_, rfl, walso_writesG hr rd.isLt rfl⟩,
      fun hr => ⟨_, rfl, walso_writesG hr rd.isLt rfl⟩⟩

end Sys2Proof.Machine
end

section
/-!
What an element core stages in its cluster until the deadline, and the units of a cluster that step once per tick (R207, R208, R215 to R217, R219
to R225).
-/
namespace Sys2Proof.Machine
open Sys2Proof

/-! ### Effects on the clusters alone -/

theorem Agree.eq_cores_elems {s t : State} (h : Agree 3221225472 s t) : t = { s with cores := t.cores, elems := t.elems } := h.eq_overlay

section
variable {s u : State} {c : Fin 16} {w : Word} {eff : State → WEff} {f : ElemU → ElemU} {e : ElemU}

/-- What a cluster stages changes nothing else, and no register of the core (R219 to R224). -/
theorem walso_stages (h : s.Runs (.elem c) w) (he : eff (s.atIssue (.elem c) w) = .ok ((s.atIssue (.elem c) w).elemMod c.val f))
    (hf : f (s.elem c.val) = e) :
    let t := s.walso (.elem c) w eff
    t = { s with cores := t.cores, elems := t.elems } ∧ (∀ n, n ≠ (CoreId.elem c).num → t.core n = s.core n) ∧ WritesNone s t (.elem c) ∧
    t.elem c.val = e ∧ ∀ n, n ≠ c.val → t.elem n = s.elem n := by
  have hag := State.elemMod_ag (s.atIssue (.elem c) w) c.val f
  obtain ⟨⟨-, hcores, hnone⟩, -, helem⟩ := walso_stores h he (hag.mono (by decide))
  have hframe : Agree 3221225472 s (s.walso (.elem c) w eff) := by
    rw [State.walso_ok h he]
    exact (((State.atIssue_ag s _ w).mono (by decide)).then hag (by decide)).then (State.settled_ag _ _ _ _ _ _ _) (by decide)
  refine ⟨hframe.eq_cores_elems, hcores, hnone, ?_, fun n hn => ?_⟩
  · rw [helem, elem_elemMod, if_pos rfl]
    exact hf
  · rw [helem, elem_elemMod, if_neg (Ne.symm hn)]
    rfl

/-- The ninth and every later EVT of a tick counts and stages no record (R222). -/
theorem walso_evt_counts {ra rb code : Nat} (h : s.Runs (.elem c) w) (h8 : 8 ≤ (s.elem c.val).evts.length)
    (he : eff (s.atIssue (.elem c) w) = .ok ((s.atIssue (.elem c) w).evt (.elem c) ra rb code)) :
    let t := s.walso (.elem c) w eff
    t.elem c.val = s.elem c.val ∧ WritesNone s t (.elem c) ∧
    t.fld (Reg.EVT_STAT c.val) 31 16 = min 65535 (s.fld (Reg.EVT_STAT c.val) 31 16 + 1) ∧
    ∀ key, key ≠ Reg.EVT_STAT c.val → t.rd key = s.rd key := by
  have hcount : (s.atIssue (.elem c) w).evt (.elem c) ra rb code = (s.atIssue (.elem c) w).count (Reg.EVT_STAT c.val) 31 16 1 := if_pos h8
  rw [hcount] at he
  have hag := State.count_ag (s.atIssue (.elem c) w) (Reg.EVT_STAT c.val) 31 16 1
  obtain ⟨⟨-, -, hnone⟩, hrd, helem⟩ := walso_stores h he (hag.mono (by decide))
  refine ⟨(helem _).trans (hag.elem _ (by decide)), hnone, ?_, fun key hk => ?_⟩
  · rw [State.fld, hrd]
    exact State.fld_count_same _ _ _ _ _ (by decide) (by decide)
  · rw [hrd, State.rd_count_ne _ _ _ _ _ _ (Ne.symm hk)]
    rfl

end

/-- Bit RV of TRIPREQ (R219). -/
theorem tripReq_rv (x : BitVec 17) : bitAt (x.zeroExtend 32) 16 = decide (65536 ≤ x.toNat) := by
  have hx : bitAt (x.zeroExtend 32) 16 = x.msb := by
    unfold bitAt
    rw [BitVec.msb_eq_getLsbD_last, BitVec.getLsbD_setWidth]
    rfl
  rw [hx, BitVec.msb_eq_decide]

/-- What TRIPREQ stages (R219, R220). -/
theorem tripReq_atIssue (s : State) (k : CoreId) (w : Word) (ra x : Nat) : (s.atIssue k w).tripReq k ra x =
    (s.atIssue k w).elemMod (CoreId_cl k) (fun e => { e with
      req := (e.req &&& (15 - x / 16 % 16)) ||| ((if 65536 ≤ x then (s.gr k ra).toNat % 16 else x % 16) &&& (x / 16 % 16)) }) := by
  unfold State.tripReq
  rw [State.atIssue_gr]

/-- The tick whose time a record of EVT takes does not depend on the issue (R223). -/
theorem tickOf_atIssue (s : State) (k : CoreId) (w : Word) :
    (s.atIssue k w).ticks.headD (s.atIssue k w).tickSnap = s.ticks.headD s.tickSnap := by
  rw [(s.atIssue_only k w).1]
  rfl

theorem elem_atIssue (s : State) (k : CoreId) (w : Word) (c : Nat) : (s.atIssue k w).elem c = s.elem c :=
  (s.atIssue_only k w).elem c

/-- Settles O24: each instruction stages its own change of the cluster, and a full list of records only counts. -/
theorem walsoStagedEffects : Obligations.WalsoStagedEffects := by
  unfold Obligations.WalsoStagedEffects
  refine ⟨fun s c pn ps rd ra rb x z10 b code z6 cc slot z1 => ?_, fun s c pn ps ra rb code h h8 => ⟨_, rfl, walso_evt_counts h h8 rfl⟩⟩
  refine ⟨fun h => ⟨_, rfl, walso_stages h (congrArg WEff.ok (tripReq_atIssue _ _ _ _ _)) ?_⟩,
    fun h => ⟨_, rfl, walso_stages h rfl ?_⟩, fun h => ⟨_, rfl, walso_stages h rfl ?_⟩,
    fun h => ⟨_, rfl, walso_stages h rfl ?_⟩, fun h => ⟨_, rfl, walso_stages h rfl rfl⟩, fun h => ⟨_, rfl, walso_stages h rfl ?_⟩,
    fun hn h => ⟨_, rfl, walso_stages h (congrArg WEff.ok (if_neg (Nat.not_le_of_lt hn))) ?_⟩⟩
  · simp only [tripReq_rv, decide_eq_true_eq]
  iterate 4 · simp only [State.atIssue_gr]
  · simp only [State.atIssue_gr, tickOf_atIssue, elem_atIssue, tickNs, CoreId_cl, CoreId.num]

/-! ### Units that step once per tick -/

/-- The first operation of a tick on unit n of cluster c: it marks the unit, keeps the status it delivers, and changes registers and clusters
alone (R207, R208). -/
structure StepsUnit (s : State) (c n : Nat) (done : ElemU → Nat) (st : ElemU → SMap Nat) (r : State × Word) : Prop where
  agree : Agree 2147483649 s r.1
  marks : done (r.1.elem c) = done (s.elem c) ||| 2 ^ n
  status : r.2 = w32 (SMap.get (fun _ => 0) (st (r.1.elem c)) n)

section
variable {s : State} {c n a x : Nat} {v : Word} {f : ElemU → ElemU} {done : ElemU → Nat} {st : ElemU → SMap Nat} {e : ElemU}

theorem stepsUnit_store (hd : ∀ e, done (f e) = done e ||| 2 ^ n) (hs : ∀ e, SMap.get (fun _ => 0) (st (f e)) n = x) :
    StepsUnit s c n done st ((s.wr a v).elemMod c f, w32 x) := by
  have helem : ((s.wr a v).elemMod c f).elem c = f (s.elem c) := (elem_elemMod _ _ _ _).trans (if_pos rfl)
  refine ⟨(((State.wr_ag s a v).mono (by decide)).then (State.elemMod_ag _ _ _) (by decide)), ?_, ?_⟩
  · rw [helem, hd]
  · rw [helem, hs]

theorem crvStep_again (w : Word) (he : s.elem c = e) (h : e.crvDone.testBit n = true) :
    s.crvStep c n w = (s, w32 (SMap.get (fun _ => 0) e.crvSt n ||| 8)) := by
  subst he
  exact if_pos h

theorem crvStep_first (w : Word) (he : s.elem c = e) (h : e.crvDone.testBit n = false) :
    StepsUnit s c n (·.crvDone) (·.crvSt) (s.crvStep c n w) := by
  unfold State.crvStep
  dsimp only
  rw [if_neg (by simp [he, h])]
  exact stepsUnit_store (fun _ => rfl) (fun _ => by simp)

theorem crvClear_again (he : s.elem c = e) (h : e.crvDone.testBit n = true) :
    s.crvClear c n = (s, w32 (SMap.get (fun _ => 0) e.crvSt n ||| 8)) := by
  subst he
  exact if_pos h

/-- What CRV RESET leaves (R215). -/
theorem crvClear_eq (he : s.elem c = e) (h : e.crvDone.testBit n = false) : s.crvClear c n = ((s.wr (Reg.CRV_INT c n) 0).elemMod c (fun e => { e with
    crvDone := e.crvDone ||| 2 ^ n, crvCnt := SMap.set (fun _ => 0) e.crvCnt n 0, crvSt := SMap.set (fun _ => 0) e.crvSt n 0 }), w32 0) :=
  if_neg (by simp [he, h])

theorem crvClear_first (he : s.elem c = e) (h : e.crvDone.testBit n = false) :
    StepsUnit s c n (·.crvDone) (·.crvSt) (s.crvClear c n) := by
  rw [crvClear_eq he h]
  exact stepsUnit_store (fun _ => rfl) (fun _ => by simp)

theorem cmpEval_again (w : Word) (he : s.elem c = e) (h : e.cmpDone.testBit n = true) :
    s.cmpEval c n w = (s, w32 (SMap.get (fun _ => 0) e.cmpSt n ||| 8)) := by
  subst he
  exact if_pos h

theorem stepsUnit_cmpStore (w : Word) (x : Nat) : StepsUnit s c n (·.cmpDone) (·.cmpSt) (s.cmpStore c n w x) :=
  stepsUnit_store (fun _ => rfl) (fun _ => by simp)

theorem cmpEval_first (w : Word) (he : s.elem c = e) (h : e.cmpDone.testBit n = false) :
    StepsUnit s c n (·.cmpDone) (·.cmpSt) (s.cmpEval c n w) := by
  unfold State.cmpEval
  dsimp only
  rw [if_neg (by simp [he, h])]
  exact stepsUnit_cmpStore _ _

theorem cmpClear_again (he : s.elem c = e) (h : e.cmpDone.testBit n = true) :
    s.cmpClear c n = (s, w32 (SMap.get (fun _ => 0) e.cmpSt n ||| 8)) := by
  subst he
  exact if_pos h

/-- What CMPH RESET leaves (R216). -/
theorem cmpClear_eq (he : s.elem c = e) (h : e.cmpDone.testBit n = false) :
    s.cmpClear c n = s.cmpStore c n 0 (4 * b2n (s.bit (Reg.CMP_ST c n) 31)) := if_neg (by simp [he, h])

theorem cmpClear_first (he : s.elem c = e) (h : e.cmpDone.testBit n = false) :
    StepsUnit s c n (·.cmpDone) (·.cmpSt) (s.cmpClear c n) := by
  rw [cmpClear_eq he h]
  exact stepsUnit_cmpStore _ _

theorem stepsUnit_tmrStore (mode : Nat) (inp : Bool) (t : TmrVal) (x : Nat) :
    StepsUnit s c n (·.tmrDone) (·.tmrSt) (s.tmrStore c n mode inp t (some x), w32 x) :=
  stepsUnit_store (fun _ => rfl) (fun _ => by simp)

theorem tmrStep_again (w : Word) (he : s.elem c = e) (h : e.tmrDone.testBit n = true) :
    s.tmrStep c n w = (s, w32 (SMap.get (fun _ => 0) e.tmrSt n ||| 8)) := by
  subst he
  exact if_pos h

theorem tmrStep_first (w : Word) (he : s.elem c = e) (h : e.tmrDone.testBit n = false) :
    StepsUnit s c n (·.tmrDone) (·.tmrSt) (s.tmrStep c n w) := by
  have hstep : s.tmrStep c n w = s.tmrAdvance c n (decide (w ≠ 0)) true := if_neg (by simp [he, h])
  rw [hstep]
  exact stepsUnit_tmrStore _ _ _ _

theorem tmrClear_again (he : s.elem c = e) (h : e.tmrDone.testBit n = true) :
    s.tmrClear c n = (s, w32 (SMap.get (fun _ => 0) e.tmrSt n ||| 8)) := by
  subst he
  exact if_pos h

/-- What TMR RESET leaves (R217). -/
theorem tmrClear_eq (he : s.elem c = e) (h : e.tmrDone.testBit n = false) : s.tmrClear c n =
    (s.tmrStore c n 0 false { out := false, on := 0, off := 0 } (some (4 * b2n (s.bit (Reg.TMR_ST c n) 31))),
      w32 (4 * b2n (s.bit (Reg.TMR_ST c n) 31))) := if_neg (by simp [he, h])

theorem tmrClear_first (he : s.elem c = e) (h : e.tmrDone.testBit n = false) :
    StepsUnit s c n (·.tmrDone) (·.tmrSt) (s.tmrClear c n) := by
  rw [tmrClear_eq he h]
  exact stepsUnit_tmrStore _ _ _ _

end

/-- CHANGED alone in a status word. -/
theorem w32_changed (b : Bool) : w32 (4 * b2n b) = if b then 4 else 0 := by cases b <;> rfl

section
variable {s : State} {c : Fin 16} {w : Word} {eff : State → WEff} {rd n a : Nat} {v x : Word} {f : ElemU → ElemU} {done : ElemU → Nat}
  {st : ElemU → SMap Nat} {r : State × Word}

/-- What a unit delivers without a change of its own. -/
theorem walso_delivers (h : s.Runs (.elem c) w) (hi : rd < 32)
    (he : eff (s.atIssue (.elem c) w) = unitResult (.elem c) rd (s.atIssue (.elem c) w, x)) : WritesG s (s.walso (.elem c) w eff) (.elem c) rd x 0 :=
  walso_writesG h hi he

/-- The answer of a unit's first step of the tick, as the core receives it. -/
theorem walso_first (h : s.Runs (.elem c) w) (hi : rd < 32) (hr : StepsUnit (s.atIssue (.elem c) w) c.val n done st r)
    (he : eff (s.atIssue (.elem c) w) = unitResult (.elem c) rd r) :
    let t := s.walso (.elem c) w eff
    PutsG s t (.elem c) rd (w32 (SMap.get (fun _ => 0) (st (t.elem c.val)) n)) ∧ done (t.elem c.val) = done (s.elem c.val) ||| 2 ^ n ∧
    t = { s with regs := t.regs, cores := t.cores, elems := t.elems } := by
  obtain ⟨ho, hg, -⟩ := walso_putsG h hi (hr.agree.cores (by decide)) he
  have hag := (((State.atIssue_ag s (.elem c) w).mono (by decide)).then hr.agree (by decide)).then ho.agree (m := 3221225473) (by decide)
  intro t
  have hmarks := hr.marks
  rw [elem_atIssue] at hmarks
  rw [hr.status] at hg
  refine ⟨?_, ?_, hag.eq_regs_cores_elems⟩
  · rw [ho.elem]
    exact hg
  · rw [ho.elem]
    exact hmarks

/-- A unit brought to rest: its register, the status delivered, and no other word. -/
theorem walso_rests (h : s.Runs (.elem c) w) (hi : rd < 32)
    (he : eff (s.atIssue (.elem c) w) = unitResult (.elem c) rd (((s.atIssue (.elem c) w).wr a v).elemMod c.val f, x)) :
    let t := s.walso (.elem c) w eff
    t.rd a = v ∧ PutsG s t (.elem c) rd x ∧ ∀ key, key ≠ a → t.rd key = s.rd key := by
  obtain ⟨ho, hg, -⟩ := walso_putsG (u := ((s.atIssue (.elem c) w).wr a v).elemMod c.val f) h hi rfl he
  have hrd : ∀ key, (((s.atIssue (.elem c) w).wr a v).elemMod c.val f).rd key = if a = key then v else s.rd key := fun key => by
    rw [(State.elemMod_ag _ _ _).rd key (by decide), State.rd_wr]
    rfl
  exact ⟨by rw [ho.rd, hrd, if_pos rfl], hg, fun key hk => by rw [ho.rd, hrd, if_neg (Ne.symm hk)]⟩

/-- A timer reset holds no output and no input (R217). -/
theorem walso_tmrReset (h : s.Runs (.elem c) w) (hi : rd < 32) (hd : (s.elem c.val).tmrDone.testBit n = false)
    (he : eff (s.atIssue (.elem c) w) = unitResult (.elem c) rd ((s.atIssue (.elem c) w).tmrClear c.val n)) :
    let t := s.walso (.elem c) w eff
    t.bit (Reg.TMR_ST c.val n) 31 = false ∧ t.bit (Reg.TMR_ST c.val n) 30 = false ∧
    PutsG s t (.elem c) rd (if s.bit (Reg.TMR_ST c.val n) 31 then 4 else 0) ∧ ∀ key, key ≠ Reg.TMR_ST c.val n → t.rd key = s.rd key := by
  obtain ⟨hrd, hrest⟩ := walso_rests h hi (he.trans (congrArg _ (tmrClear_eq (elem_atIssue _ _ _ _) hd)))
  rw [← w32_changed]
  exact ⟨by rw [State.bit, hrd]; rfl, by rw [State.bit, hrd]; rfl, hrest⟩

end

/-- Settles O25: a second operation of the tick answers what the first kept, the first marks its unit, and a reset brings it to rest. -/
theorem walsoClusterUnits : Obligations.WalsoClusterUnits := by
  unfold Obligations.WalsoClusterUnits
  refine ⟨fun s c pn ps rd ra n5 z5 n z => ?_, fun s c pn ps rd ra n5 z5 n z => ?_⟩
  · exact ⟨⟨fun h hd => ⟨_, rfl, walso_delivers h rd.isLt (congrArg _ (crvStep_again _ (elem_atIssue _ _ _ _) hd))⟩,
        fun h hd => ⟨_, rfl, walso_first h rd.isLt (crvStep_first _ (elem_atIssue _ _ _ _) hd) rfl⟩⟩,
      ⟨fun h hd => ⟨_, rfl, walso_delivers h rd.isLt (congrArg _ (crvClear_again (elem_atIssue _ _ _ _) hd))⟩,
        fun h hd => ⟨_, rfl, walso_first h rd.isLt (crvClear_first (elem_atIssue _ _ _ _) hd) rfl⟩⟩,
      ⟨fun h hd => ⟨_, rfl, walso_delivers h rd.isLt (congrArg _ (cmpEval_again _ (elem_atIssue _ _ _ _) hd))⟩,
        fun h hd => ⟨_, rfl, walso_first h rd.isLt (cmpEval_first _ (elem_atIssue _ _ _ _) hd) rfl⟩⟩,
      ⟨fun h hd => ⟨_, rfl, walso_delivers h rd.isLt (congrArg _ (cmpClear_again (elem_atIssue _ _ _ _) hd))⟩,
        fun h hd => ⟨_, rfl, walso_first h rd.isLt (cmpClear_first (elem_atIssue _ _ _ _) hd) rfl⟩⟩,
      ⟨fun h hd => ⟨_, rfl, walso_delivers h rd.isLt (congrArg _ (tmrStep_again _ (elem_atIssue _ _ _ _) hd))⟩,
        fun h hd => ⟨_, rfl, walso_first h rd.isLt (tmrStep_first _ (elem_atIssue _ _ _ _) hd) rfl⟩⟩,
      ⟨fun h hd => ⟨_, rfl, walso_delivers h rd.isLt (congrArg _ (tmrClear_again (elem_atIssue _ _ _ _) hd))⟩,
        fun h hd => ⟨_, rfl, walso_first h rd.isLt (tmrClear_first (elem_atIssue _ _ _ _) hd) rfl⟩⟩⟩
  · refine ⟨fun h => ⟨_, rfl, walso_delivers h rd.isLt rfl⟩, fun h => ⟨_, rfl, walso_delivers h rd.isLt rfl⟩,
      fun h => ⟨_, rfl, walso_delivers h rd.isLt rfl⟩,
      fun h hd => ⟨_, rfl, walso_rests h rd.isLt (congrArg _ (crvClear_eq (elem_atIssue _ _ _ _) hd))⟩,
      fun h hd => ⟨_, rfl, ?_⟩, fun h hd => ⟨_, rfl, walso_tmrReset h rd.isLt hd rfl⟩⟩
    rw [← w32_changed]
    exact walso_rests h rd.isLt (congrArg _ (cmpClear_eq (elem_atIssue _ _ _ _) hd))

end Sys2Proof.Machine
end

section
/-!
Accesses of an element core that raise an exception or meet a memory error (R165, R178, R179, R202).
-/
namespace Sys2Proof.Machine
open Sys2Proof

/-! ### Causes of an access (R202) -/

section
variable {s : State} {c : Fin 16} {space a width : Nat} {store : Bool}

theorem memCause_misaligned (k : CoreId) (ha : a % width ≠ 0) : s.memCause k space store a width = some 3 := if_pos ha

theorem memCause_aligned (ha : a % width = 0) : s.memCause (.elem c) space store a width =
    if store && (inSpace 1 a || inSpace 2 a) then some 5 else if inSpace space a then none else some 4 := if_neg (by simp [ha])

end

/-! ### A load that does not read its word as it stands -/

section
variable {s : State} {c : Fin 16} {space rd a : Nat}

theorem loadG_trap {e : Nat} {k : CoreId} (he : s.memCause k space false a 4 = some e) : s.loadG k space rd a = .trap e a := by
  unfold State.loadG
  rw [he]

theorem loadG_doubleErr (ha : a % 4 = 0) (hd : a < 0x20000) (hu : s.upset c.val (elemKey c.val a) = 2) :
    s.loadG (.elem c) 0 rd a = .trap 9 a := by
  have herr : s.doubleErr (.elem c) a = true := by
    rw [elemKey_dmem hd] at hu
    simp [State.doubleErr, hd, hu]
  unfold State.loadG
  rw [memCause_load ha (by simpa [inSpace] using hd), herr]
  rfl

theorem loadG_singleErr (ha : a % 4 = 0) (hd : a < 0x20000) (hu : s.upset c.val (elemKey c.val a) = 1) :
    s.loadG (.elem c) 0 rd a = .ok ((s.eccFixed c.val false (a / 4)).setGr (.elem c) rd (s.rd (elemKey c.val a))) := by
  have herr : s.doubleErr (.elem c) a = false := by
    rw [elemKey_dmem hd] at hu
    simp [State.doubleErr, hu]
  have hread : s.memRead (.elem c) a = (s.eccFixed c.val false (a / 4), s.rd (elemKey c.val a)) := by
    unfold State.memRead
    dsimp only
    rw [if_pos hd, if_pos hu]
  unfold State.loadG
  rw [memCause_load ha (by simpa [inSpace] using hd), herr, hread]
  rfl

theorem loadG_parity (ha : a % 4 = 0) (hs : inSpace space a = true) (hd : 0x20000 ≤ a) (hu : s.upset c.val (elemKey c.val a) ≠ 0) :
    s.loadG (.elem c) space rd a = .ok ((s.putBit (Reg.CORE_STAT c.val) 13 true).setGr (.elem c) rd 0x80) := by
  have herr : s.doubleErr (.elem c) a = false := by simp [State.doubleErr, Nat.not_lt.mpr hd]
  have hread : s.memRead (.elem c) a = (s.putBit (Reg.CORE_STAT c.val) 13 true, 0x80) := by
    unfold State.memRead
    dsimp only
    rw [if_neg (Nat.not_lt.mpr hd), winSeen_parity hu, winWord_parity hu]
  unfold State.loadG
  rw [memCause_load ha hs, herr, hread]
  rfl

end

/-! ### What each leaves -/

section
variable {s : State} {c : Fin 16} {w : Word} {eff : State → WEff} {e addr rd space a : Nat}

/-- What an exception of an element core with a cause and an address leaves: its record, the core stopped for the tick with its registers as they
stood, and every other core and every memory (R178, R179). -/
structure FaultedWith (s t : State) (c : Fin 16) (e addr : Nat) : Prop where
  run : (t.core c.val).run = .faulted
  fault : t.rd (Reg.CORE_FAULT c.val) = w32 (e * 0x1000000 + (s.core c.val).pc % 16384)
  addr : t.rd (Reg.CORE_FADDR c.val) = w32 addr
  exc : t.bit (Reg.CORE_STAT c.val) 9 = true
  signal : t.bit Reg.INT_STAT_LO c.val = true
  keeps : KeepsRegs s t (.elem c)
  cores : ∀ n, n ≠ (CoreId.elem c).num → t.core n = s.core n
  mram : t.mram = s.mram
  elems : t.elems = s.elems

theorem walso_faults (h : s.Runs (.elem c) w) (he : eff (s.atIssue (.elem c) w) = .trap e addr) :
    FaultedWith s (s.walso (.elem c) w eff) c e addr := by
  have ht : s.walso (.elem c) w eff = (s.woken (.elem c)).coreFault c.val e (s.core c.val).pc addr := State.walso_trap h he
  obtain ⟨hfault, haddr, hexc, hint⟩ := (s.woken (.elem c)).coreFault_shows (c := c.val) e (s.core c.val).pc addr c.isLt
  have hag := State.coreFault_ag (s.woken (.elem c)) c.val e (s.core c.val).pc addr
  rw [ht]
  refine ⟨by rw [State.core_coreFault, if_pos rfl], hfault, haddr, hexc, hint,
    (s.woken_keeps _).trans (State.wTrap_keeps_elem _ e (s.core c.val).pc addr c 0), fun n hn => ?_, hag.mram (by decide), hag.elems (by decide)⟩
  rw [State.core_coreFault, if_neg (show c.val ≠ n from Ne.symm hn)]
  exact (s.woken_only _).2 n hn

/-- A corrected word of DMEM is counted, recorded and signalled (R165, R191). -/
theorem State.eccFixed_dmem_shows (s : State) (c : Fin 16) (word : Nat) : let t := s.eccFixed c.val false word
    t.elem c.val = { s.elem c.val with eccD := (s.elem c.val).eccD + 1 } ∧ t.bit Reg.INT_STAT_LO c.val = true ∧
    t.fld (Reg.CORE_ECC c.val) 15 0 = min 65535 (s.fld (Reg.CORE_ECC c.val) 15 0 + 1) ∧
    t.fld (Reg.CORE_ECC c.val) 31 16 = s.fld (Reg.CORE_ECC c.val) 31 16 := by
  have hs : ¬ Signals (Reg.CORE_ECC c.val) := not_signals (by unfold Reg.CORE_ECC; omega)
  let u := s.elemMod c.val (fun e => { e with eccD := e.eccD + 1 })
  obtain ⟨p1, ht⟩ : ∃ p1, s.eccFixed c.val false word =
      ((u.count (Reg.CORE_ECC c.val) 15 0 1).irq c.val).log 0x173 c.val (b2n false * 0x80000000 + word) p1 := ⟨_, rfl⟩
  have hw : Writes (fun _ => False) (u.count (Reg.CORE_ECC c.val) 15 0 1) (((u.count (Reg.CORE_ECC c.val) 15 0 1).irq c.val).log 0x173 c.val
    (b2n false * 0x80000000 + word) p1) := ((Writes.refl _ _).irq c.val).log _ _ _ _
  rw [ht]
  refine ⟨?_, ?_, ?_, ?_⟩
  · rw [(State.log_ag _ _ _ _ _).elem c.val (by decide), (State.irq_ag _ _).elem c.val (by decide),
      (State.count_ag _ _ _ _ _).elem c.val (by decide)]
    exact (elem_elemMod _ _ _ _).trans (if_pos rfl)
  · rw [State.bit_log _ _ _ _ _ _ _ (by decide)]
    exact State.bit_irq_lo _ _ _ (.inl ⟨rfl, by omega⟩)
  · rw [hw.fld _ _ (by simp) hs, State.fld_count_same _ _ _ _ _ (by decide) (by decide)]
    rfl
  · rw [hw.fld _ _ (by simp) hs, State.count, State.fld_put_apart _ _ _ _ _ _ _ _ (by decide) (by decide) (by decide) (by decide)]
    rfl

/-- A load of a DMEM word with a single-bit error (R165). -/
theorem walso_loadCorrected (h : s.Runs (.elem c) w) (hi : rd < 32) (ha : a % 4 = 0) (hd : a < 0x20000)
    (hu : s.upset c.val (elemKey c.val a) = 1) (he : eff (s.atIssue (.elem c) w) = (s.atIssue (.elem c) w).loadG (.elem c) 0 rd a) :
    let t := s.walso (.elem c) w eff
    PutsG s t (.elem c) rd (s.rd (elemKey c.val a)) ∧ KeepsZ s t (.elem c) ∧ KeepsP s t (.elem c) ∧ AddsFlags s t (.elem c) 0 ∧
    t.elem c.val = { s.elem c.val with eccD := (s.elem c.val).eccD + 1 } ∧ t.bit Reg.INT_STAT_LO c.val = true ∧
    t.fld (Reg.CORE_ECC c.val) 15 0 = min 65535 (s.fld (Reg.CORE_ECC c.val) 15 0 + 1) ∧
    t.fld (Reg.CORE_ECC c.val) 31 16 = s.fld (Reg.CORE_ECC c.val) 31 16 := by
  rw [loadG_singleErr ha hd (by exact hu)] at he
  obtain ⟨ho, hg, hz, hp, hadds⟩ := walso_putsG h hi ((State.eccFixed_ag _ _ _ _).cores (by decide)) he
  obtain ⟨helem, hint, hcnt, hhigh⟩ := (s.atIssue (.elem c) w).eccFixed_dmem_shows c (a / 4)
  rw [(s.atIssue_only _ w).elem] at helem
  rw [(s.atIssue_only _ w).fld] at hcnt hhigh
  exact ⟨hg, hz, hp, hadds, (ho.elem _).trans helem, (ho.bit _ _).trans hint, (ho.fld _ _ _).trans hcnt, (ho.fld _ _ _).trans hhigh⟩

/-- A load of a word of the windows or of phasor RAM with a parity error (R165). -/
theorem walso_loadParity (h : s.Runs (.elem c) w) (hi : rd < 32) (ha : a % 4 = 0) (hs : inSpace space a = true) (hd : 0x20000 ≤ a)
    (hu : s.upset c.val (elemKey c.val a) ≠ 0) (he : eff (s.atIssue (.elem c) w) = (s.atIssue (.elem c) w).loadG (.elem c) space rd a) :
    let t := s.walso (.elem c) w eff
    PutsG s t (.elem c) rd 0x80 ∧ KeepsZ s t (.elem c) ∧ KeepsP s t (.elem c) ∧ AddsFlags s t (.elem c) 0 ∧
    t.bit (Reg.CORE_STAT c.val) 13 = true ∧ OnlyRegs s t [Reg.CORE_STAT c.val] ∧ t = { s with regs := t.regs, cores := t.cores } := by
  rw [loadG_parity ha hs hd (by exact hu)] at he
  obtain ⟨ho, hg, hz, hp, hadds⟩ := walso_putsG (u := (s.atIssue (.elem c) w).putBit (Reg.CORE_STAT c.val) 13 true) h hi rfl he
  exact ⟨hg, hz, hp, hadds, parity_shows ho⟩

end

section
variable {s : State} {c : Fin 16} {pn : Bool} {ps : Fin 8} {rd ra : BitVec 5} {off : BitVec 12} {e : Nat}

theorem ld_faults (h : s.Runs (.elem c) (encI 0x10 pn ps rd ra off))
    (he : (s.atIssue (.elem c) (encI 0x10 pn ps rd ra off)).loadG (.elem c) 0 rd.toNat (s.addrM (.elem c) ra.toNat off 4) =
      .trap e (s.addrM (.elem c) ra.toNat off 4)) :
    ∃ t, exec (.ld (.elem c) pn ps rd ra off) s = .next t ∧ FaultedWith s t c e (s.addrM (.elem c) ra.toNat off 4) := by
  refine ⟨_, rfl, walso_faults h ?_⟩
  simp only [addrM_atIssue]
  exact he

end

/-- The windows and the phasor RAM lie behind DMEM (R163). -/
theorem le_of_inSpace {space a : Nat} (h : inSpace space a = true) (hs : space ≠ 0) : 0x20000 ≤ a := by
  unfold inSpace at h
  rw [if_neg hs] at h
  split at h <;> simp at h <;> omega

/-- Settles O18: the order of the causes, the record of an exception, and a load by the error of its word. -/
theorem walsoElementFaults : Obligations.WalsoElementFaults := by
  unfold Obligations.WalsoElementFaults
  refine ⟨fun s c space store a width _ => ⟨memCause_misaligned _, fun ha hs hro => ?_, fun ha hro => ⟨fun hs => ?_, fun hs => ?_⟩⟩,
    fun s c pn ps rd ra off h ha => ?_, fun s c pn ps rd ra off => ?_⟩
  · rw [memCause_aligned ha, if_pos (by simpa [hs] using hro)]
  · rw [memCause_aligned ha, if_neg (by simpa using hro), if_neg (by simp [hs])]
  · rw [memCause_aligned ha, if_neg (by simpa using hro), if_pos hs]
  · obtain ⟨t, ht, hrun, hfault, haddr, hexc, hint, ⟨hg, hz, hp⟩, hcores, hmram, helems⟩ :=
      ld_faults h (loadG_trap (memCause_misaligned _ ha))
    exact ⟨t, ht, hrun, hfault, haddr, hexc, hint, hg, hz, hp, hcores, hmram, helems⟩
  · intro k a e BadParity ha
    refine ⟨fun h hd => ⟨fun he => ?_, fun he => ⟨_, rfl, walso_loadCorrected h rd.isLt ha hd he ?_⟩⟩,
      fun hs h he => ⟨_, rfl, walso_loadParity h rd.isLt ha hs (le_of_inSpace hs (by decide)) he ?_⟩,
      fun hs h he => ⟨_, rfl, walso_loadParity h rd.isLt ha hs (le_of_inSpace hs (by decide)) he ?_⟩⟩
    · obtain ⟨t, ht, hrun, hfault, haddr, -, hint, ⟨hg, hz, hp⟩, -, hmram, helems⟩ :=
        ld_faults h (loadG_doubleErr ha hd (by exact he))
      exact ⟨t, ht, hrun, hfault, haddr, hint, hg, hz, hp, hmram, helems⟩
    all_goals simp only [addrM_atIssue, a, k]

end Sys2Proof.Machine
end

section
/-!
Control registers and interrupts of a supervisor core (R226, R575).
-/
namespace Sys2Proof.Machine
open Sys2Proof

/-! ### CSR -/

section
variable (s : State) (j : Fin 2) (rd ra n : Nat)

/-- The control registers after a read: a read of CYC_LO into a register takes the snapshot that CYC_HI shows (R226). -/
def State.csrSeen : SupU :=
  if rd ≠ 0 ∧ n = 0x40 then { s.sup j.val with cycHi := w32 ((s.core (16 + j.val)).cyc / 4294967296) } else s.sup j.val

theorem cores_csrOp : (s.csrOp j rd ra n).cores = (s.setGr (.sup j) rd (s.csrRead j.val n (s.core (16 + j.val)).cyc)).cores := by
  unfold State.csrOp
  dsimp only
  split <;> split <;> rfl

theorem sup_csrOp : (s.csrOp j rd ra n).sup j.val =
    if ra ≠ 0 then csrSet (s.csrSeen j rd n) n (s.gr (.sup j) ra) else s.csrSeen j rd n := by
  have hgr : ∀ (u : State) (v : Word), (u.setGr (.sup j) rd v).sup j.val = u.sup j.val := fun _ _ => rfl
  unfold State.csrOp State.csrSeen
  dsimp only
  by_cases hra : ra ≠ 0
  · rw [if_pos hra, if_pos hra, State.sup_setSup, if_pos rfl, hgr]
    split
    · rw [State.sup_setSup, if_pos rfl]
      rfl
    · rfl
  · rw [if_neg hra, if_neg hra, hgr]
    split
    · rw [State.sup_setSup, if_pos rfl]
      rfl
    · rfl

end

section
variable {s : State} {j : Fin 2} {w : Word} {eff : State → WEff} {rd ra n : Nat}

/-- CSR at the privileged level. -/
theorem walso_csr (h : s.Runs (.sup j) w) (hi : rd < 32) (hp : bitAt (s.sup j.val).sstat 1 = true)
    (he : eff (s.atIssue (.sup j) w) = (s.atIssue (.sup j) w).csr (.sup j) rd ra n) :
    let t := s.walso (.sup j) w eff
    let u := s.sup j.val
    t = { s with cores := t.cores, sups := t.sups } ∧ PutsG s t (.sup j) rd (s.csrRead j.val n (s.issueCycle (.sup j) w)) ∧
    KeepsZ s t (.sup j) ∧ KeepsP s t (.sup j) ∧ (ra = 0 → n ≠ 0x40 → t.sup j.val = u) ∧
    (ra ≠ 0 → n ≠ 0x40 → t.sup j.val = csrSet u n (s.gr (.sup j) ra)) ∧
    (rd ≠ 0 → n = 0x40 → (t.sup j.val).cycHi = w32 (s.issueCycle (.sup j) w / 4294967296)) := by
  have heff : eff (s.atIssue (.sup j) w) = .ok ((s.atIssue (.sup j) w).csrOp j rd ra n) := he.trans (if_pos hp)
  have hcyc : ((s.atIssue (.sup j) w).core (16 + j.val)).cyc = s.issueCycle (.sup j) w := congrArg Core.cyc (core_atIssue s (.sup j) w)
  have hcores := cores_csrOp (s.atIssue (.sup j) w) j rd ra n
  have hsup := sup_csrOp (s.atIssue (.sup j) w) j rd ra n
  rw [hcyc] at hcores
  rw [State.atIssue_gr] at hsup
  obtain ⟨ho, hg, hz, hpr, -⟩ := walso_coresG h hi heff hcores
  intro t u
  have hag : Agree 5368709120 s t :=
    (((State.atIssue_ag s _ w).mono (by decide)).then (State.csrOp_ag _ _ _ _ _) (by decide)).then ho.agree (by decide)
  rw [ho.sup, hsup]
  refine ⟨hag.eq_overlay, hg, hz, hpr, fun hra hn => ?_, fun hra hn => ?_, fun hrd hn => ?_⟩
  · rw [if_neg (by simp [hra])]
    exact if_neg (fun e => hn e.2)
  · rw [if_pos hra]
    exact congrArg (csrSet · _ _) (if_neg (fun e => hn e.2))
  · subst hn
    have hset : ∀ x v, csrSet x 0x40 v = x := fun _ _ => rfl
    rw [hset, ite_self]
    unfold State.csrSeen
    rw [if_pos ⟨hrd, rfl⟩, hcyc]

end

/-- Settles O21: the old value goes to its register, and the new one is written behind the snapshot that the read takes. -/
theorem supervisorControlRegisters : Obligations.SupervisorControlRegisters := by
  unfold Obligations.SupervisorControlRegisters
  exact fun s j pn ps rd ra n h hp => ⟨_, rfl, walso_csr h rd.isLt hp rfl⟩

/-! ### Interrupts -/

/-- The lowest source that is pending and enabled. -/
theorem find_lowest {r : BitVec 64} {n : Nat} (hn : n < 64) (hr : r.getLsbD n = true) (hlow : ∀ m, m < n → r.getLsbD m = false) :
    (List.range 64).find? (fun i => r.getLsbD i) = some n := by
  rw [List.find?_range_eq_some]
  exact ⟨hr, List.mem_range.mpr hn, fun m hm => by simp [hlow m hm]⟩

/-- A pending bit that is taken. -/
theorem getLsbD_taken (r : BitVec 64) (n m : Nat) : (r &&& ~~~ BitVec.ofNat 64 (2 ^ n)).getLsbD m = (r.getLsbD m && decide (m ≠ n)) := by
  rw [BitVec.getLsbD_and, BitVec.getLsbD_not, BitVec.getLsbD_ofNat, Nat.testBit_two_pow]
  by_cases hm : m < 64
  · simp [hm, eq_comm]
  · simp [BitVec.getLsbD_of_ge r m (by omega)]

/-- The entry to a vector clears IE, sets PRIV and keeps both in PIE and PPRIV (R226). -/
theorem supEnter_sstat (s : State) (i n ret c : Nat) :
    field ((s.supEnter i n ret c).sup i).sstat 1 0 = 2 ∧ field ((s.supEnter i n ret c).sup i).sstat 3 2 = field (s.sup i).sstat 1 0 := by
  rw [State.sup_supEnter]
  refine ⟨field_putField_same _ _ _ _ (by decide) (by decide), ?_⟩
  dsimp only
  rw [field_putField_ne _ _ _ _ _ _ (by decide) (by decide) (by decide) (by decide), field_putField_same _ _ _ _ (by decide) (by decide)]
  exact Nat.mod_eq_of_lt (Nat.mod_lt _ (by decide))

/-- What a core that takes source n does: the pending bit is taken, and the core enters the source's vector (R575). -/
theorem supInterrupt_takes {s : State} {i n : Nat} (hn : n < 64) (hrun : (s.core (16 + i)).run = .active) (hie : bitAt (s.sup i).sstat 0 = true)
    (hr : (s.supReady i).getLsbD n = true) (hlow : ∀ m, m < n → (s.supReady i).getLsbD m = false) :
    s.supInterrupt i = (s.setSupPend i (s.supBits i &&& ~~~ BitVec.ofNat 64 (2 ^ n))).supEnter i n (4 * (s.core (16 + i)).pc)
      (max (s.core (16 + i)).cyc s.supNow) := by
  unfold State.supInterrupt
  dsimp only
  rw [if_neg (by simp [hrun, hie]), find_lowest hn hr hlow]

/-- Settles O23: the lowest source is the first that the search finds, and its entry is that of every vector. -/
theorem supervisorTakesLowestInterrupt : Obligations.SupervisorTakesLowestInterrupt := by
  unfold Obligations.SupervisorTakesLowestInterrupt
  intro s j n hn hrun hie hr hlow
  refine ⟨_, congrArg Host.Outcome.next (supInterrupt_takes hn hrun hie hr hlow), ?_⟩
  set u := s.setSupPend j.val (s.supBits j.val &&& ~~~ BitVec.ofNat 64 (2 ^ n)) with hu
  have henter := State.supEnter_ag u j.val n (4 * (s.core (16 + j.val)).pc) (max (s.core (16 + j.val)).cyc s.supNow)
  have hag := ((State.setSupPend_ag s j.val (s.supBits j.val &&& ~~~ BitVec.ofNat 64 (2 ^ n))).mono (by decide)).then
    henter (m := 5368709632) (by decide)
  obtain ⟨hie', hpie⟩ := supEnter_sstat u j.val n (4 * (s.core (16 + j.val)).pc) (max (s.core (16 + j.val)).cyc s.supNow)
  refine ⟨hag.eq_overlay, ?_, ?_, ?_, ?_, hie', hpie, fun m => ?_⟩
  · rw [State.sup_supEnter]
  · rw [State.sup_supEnter, if_neg (Nat.not_le_of_lt hn)]
  · rw [State.core_supEnter, if_pos rfl]
    rfl
  · rw [State.core_supEnter, if_pos rfl]
  · rw [State.supBits, henter.supPend (by decide), ← State.supBits, hu, State.supBits_setSupPend, if_pos rfl, getLsbD_taken]

end Sys2Proof.Machine
end

section
/-!
A restart of the IFD while a key sequence is open (chapter 07, R248, R249).
-/
namespace Sys2Proof.Machine
open Sys2Proof

/-! ### The detectors after a restart -/

theorem Agree.det {m : Nat} {s t : State} (h : Agree m s t) (k : Nat) (hm : m.testBit 27 = false) : t.det k = s.det k := by
  unfold State.det
  rw [h.dets hm]

theorem State.det_detMod (s : State) (c k : Nat) (f : DetU → DetU) : (s.detMod c f).det k = if c = k then f (s.det c) else s.det k :=
  State.det_setDet _ _ _ _

/-- A restart ends the requests and clears the hold; whether 0xA5C3 was the last key is not among what it changes. -/
theorem State.det_ifdRestart (s : State) (c k : Nat) : (s.ifdRestart c).det k =
    if c = k then { s.det c with startReq := false, stopReq := false, lastTrue := none, crit := 0 } else s.det k := by
  unfold State.ifdRestart
  dsimp only
  rw [(State.log_ag _ _ _ _ _).det k (by decide), (State.irq_ag _ _).det k (by decide), (State.ifdPending_ag _ _).det k (by decide),
    State.det_detMod]
  simp only [State.det_setEff, (State.putBit_ag _ _ _ _).det _ (by decide : Nat.testBit 1 27 = false)]

theorem State.key_ifdRestart (s : State) (c : Nat) : ((s.ifdRestart c).det c).key = (s.det c).key := by
  rw [State.det_ifdRestart, if_pos rfl]

theorem exec_ifdRestartApply_waiting {s : State} {c : Fin 16} (h : (s.det c.val).startReq = true) :
    exec (.ifdRestartApply c) s = .next (s.ifdRestart c.val) :=
  congrArg Host.Outcome.next (if_pos h)

/-! ### The counterexample -/

/-- The state a command answers. -/
def State.after (s : State) (i : Instr) : State :=
  match exec i s with
  | .next t => t
  | _ => s

/-- From the reset on, the IFD of cluster 0 is unlocked and stopped, and its restart is asked for; 0xA5C3 then begins a new sequence before the
tick start at which the restart takes effect. -/
def restartInSequence : State :=
  [.ifdKeyWrite 0 0xA5C3, .ifdKeyWrite 0 0x3C5A, .ifdRunStop 0, .ifdStopApply 0, .ifdRunStart 0, .ifdKeyWrite 0 0xA5C3].foldl State.after
    State.reset

theorem restartInSequence_det : (restartInSequence.det 0).startReq = true ∧ (restartInSequence.det 0).key = true := by decide +kernel

/-- Refutes O38: a restart of the IFD is said to leave no key noted, but 0xA5C3 written while the restart waits is still the last key after it, so
that 0x3C5A as the next write would unlock. R248 ends a sequence by writes of IFD_KEY, and the restart of R249 only sets LOCKED. -/
theorem not_detectorsAndCoincidence : ¬ Obligations.DetectorsAndCoincidence := by
  unfold Obligations.DetectorsAndCoincidence
  rintro ⟨h, -⟩
  obtain ⟨-, -, -, -, -, -, -, -, -, -, -, -, -, -, hrestart⟩ := h restartInSequence 0 0
  obtain ⟨hasked, hkey⟩ := restartInSequence_det
  obtain ⟨t, ht, -, -, -, -, hforgotten, -⟩ := hrestart hasked
  rw [exec_ifdRestartApply_waiting (s := restartInSequence) (c := 0) hasked] at ht
  obtain rfl := Host.Outcome.next.inj ht
  exact Bool.false_ne_true (hforgotten.symm.trans ((State.key_ifdRestart restartInSequence 0).trans hkey))

end Sys2Proof.Machine
end

section
/-!
A light channel that becomes an input in the step that ends a pulse (chapters 07, 08 and 15: R255, R256, R267, R496).
-/
namespace Sys2Proof.Machine
open Sys2Proof

/-! ### The counterexample -/

/-- Lines 0 and 1 are energised by the same grant step, each with MIN = 1 ms in pulse mode 0, and their sources are gone. Line 0 is unguarded
and selects source 64, the group bit of cluster 0, which AF_CFG makes the coincidence of the operated FPD with the light at FIO_0. That channel
has light at its ball but is an output, the destination of line 1, so it gives none. The claims of an image on line 1 and on FIO_0 have ended,
and both wait for the line's return to IDLE (R283, R496). -/
def linesEndTogether : State :=
  { [(Reg.TL_STAT 0, 0x62000000), (Reg.TL_STAT 1, 0x60000000), (Reg.TL_RUN_LO, 3), (Reg.TL_ENERG_LO, 3),
      (Reg.TL_PULSE 0, 1), (Reg.TL_PULSE 1, 1), (Reg.TL_GUARD 0, 0x80000000), (Reg.TL_SRC2 0, 1), (Reg.TL_DST0 1, 1),
      (Reg.FIO_CFG 0, 0x80000000), (Reg.FIO_CMD_LO, 1), (Reg.AF_CFG 0, 0x80000000), (Reg.FPD_STAT 0, 1)].foldl
      (fun s (a, v) => s.wr a v) State.reset with
    light := 1, ended := [0x4001, 0x3000] }

/-- The state is settled: an evaluation step before MIN has passed changes nothing of it. -/
theorem linesEndTogether_settled : linesEndTogether.tlStep = linesEndTogether := by decide +kernel

/-- Line 0 is as the clause on TL_MIN_ELAPSED asks. -/
theorem linesEndTogether_minPending :
    0x4000 + (0 : Fin 64).val ∉ linesEndTogether.ended ∧ linesEndTogether.tlState 0 = 3 ∧
    linesEndTogether.fld (Reg.TL_PULSE 0) 31 30 = 0 ∧ linesEndTogether.tlActive 0 = none ∧ linesEndTogether.tlOpen 0 = false ∧
    linesEndTogether.tb.cnt ≤ (linesEndTogether.line 0).grantAt + linesEndTogether.tlMin 0 := by decide +kernel

/-- Once MIN has passed, line 1 has stopped, FIO_0 is an input, its light has raised the group bit, and line 0 is energised again. -/
theorem linesEndTogether_tlMinElapsed :
    (linesEndTogether.tlMinElapsed 0).tlState 1 = 0 ∧ (linesEndTogether.tlMinElapsed 0).fioIsOut 0 = false ∧
    (linesEndTogether.tlMinElapsed 0).tlSource 64 = true ∧ (linesEndTogether.tlMinElapsed 0).tlState 0 = 3 := by decide +kernel

/-- Refutes O39: the line whose pulse ends is said to be in IDLE after TL_MIN_ELAPSED. The pass that ends it can also end the last use of a
light channel whose claim has ended; the channel becomes an input, and the second pass of the same step (R267) finds the coincidence, which is
a source of the line, and grants the line anew. The clause asks for no active source before the command only. -/
theorem not_tripLines : ¬ Obligations.TripLines := by
  unfold Obligations.TripLines
  rintro ⟨hpulse, -⟩
  obtain ⟨hclaim, henergised, hmode, hsource, hopen, hmin⟩ := linesEndTogether_minPending
  obtain ⟨hends, -⟩ := hpulse linesEndTogether 0 hclaim
  obtain ⟨t, ht, hidle, -⟩ := hends henergised hmode hsource hopen hmin
  have hnext : linesEndTogether.tlMinElapsed 0 = t := Host.Outcome.next.inj ht
  obtain ⟨-, -, -, hagain⟩ := linesEndTogether_tlMinElapsed
  rw [← hnext] at hidle
  exact absurd (hidle.symm.trans hagain) (by decide)

end Sys2Proof.Machine
end

section
/-!
The instructions of Lathe's own profile (R300 to R303).
-/
namespace Sys2Proof.Machine
open Sys2Proof

/-! ### Timers and edge memories -/

section
variable (s : State) (half n : Nat)

theorem State.ltmr_setLtmr (t : LTmr) (h m : Nat) : (s.setLtmr half n t).ltmr h m = if half * 4096 + n = h * 4096 + m then t else s.ltmr h m :=
  SMap.get_set _ _ _ _ _

theorem State.ledge_setLedge (e : EdgeMem) (h m : Nat) : (s.setLedge half n e).ledge h m = if half * 4096 + n = h * 4096 + m then e else s.ledge h m :=
  SMap.get_set _ _ _ _ _

/-- What the first step or reset of a timer in a turn stores: the timer, and the status it delivers (R208, R302). -/
theorem State.ltmrStore_shows (t : LTmr) (st : Nat) :
    (s.ltmrStore n t st).ltmr s.lthHalf n = t ∧ (s.ltmrStore n t st).ltmrDone n = some st := by
  refine ⟨(s.ltmr_setLtmr s.lthHalf n t _ _).trans (if_pos rfl), ?_⟩
  unfold State.ltmrStore State.ltmrDone
  simp [State.lthMod, State.pairDirty]

theorem State.ltmrStep_again {x : Bool} {st : Nat} (h : s.ltmrDone n = some st) : s.ltmrStep n x = (s, w32 (st ||| 8)) := by
  unfold State.ltmrStep
  rw [h]

theorem State.ltmrClear_again {st : Nat} (h : s.ltmrDone n = some st) : s.ltmrClear n = (s, w32 (st ||| 8)) := by
  unfold State.ltmrClear
  rw [h]

theorem State.ltmrStep_first (x : Bool) (h : s.ltmrDone n = none) : ∃ st, s.ltmrStep n x =
    (s.ltmrStore n ((s.ltmr s.lthHalf n).step (s.ltmrCfg s.lthHalf n) x).1 st, w32 st) := by
  unfold State.ltmrStep
  rw [h]
  exact ⟨_, rfl⟩

theorem State.ltmrClear_first (h : s.ltmrDone n = none) : ∃ st, s.ltmrClear n = (s.ltmrStore n LTmr.init st, w32 st) := by
  unfold State.ltmrClear
  rw [h]
  exact ⟨_, rfl⟩

/-- What LEDG answers, and what it leaves in the edge memories (R303). -/
theorem State.ledg_shows (x : Bool) : let e := s.ledge s.lthHalf n
    (s.ledg n x).2 = w32 (b2n (!e.fresh && (x && !e.m)) + 2 * b2n (!e.fresh && (e.m && !x)) + 4 * b2n x) ∧
    (s.ledg n x).1.ledge s.lthHalf n = { fresh := false, m := x } ∧ ∀ j, j ≠ n → (s.ledg n x).1.ledge s.lthHalf j = s.ledge s.lthHalf j := by
  intro e
  have hmem (j : Nat) : (s.ledg n x).1.ledge s.lthHalf j = _ := s.ledge_setLedge s.lthHalf n { fresh := false, m := x } s.lthHalf j
  refine ⟨?_, (hmem n).trans (if_pos rfl), fun j hj => (hmem j).trans (if_neg (by omega))⟩
  change w32 (if e.fresh then 4 * b2n x else b2n (x && !e.m) + 2 * b2n (e.m && !x) + 4 * b2n x) = _
  cases e.fresh
  · rfl
  · simp [b2n]

end

/-! ### On Lathe's core -/

theorem Agree.eq_cores_lathe_pair {s t : State} (h : Agree 71469329547264 s t) :
    t = { s with cores := t.cores, lathe := t.lathe, pair := t.pair } := h.eq_overlay

section
variable {s t : State} {k : CoreId} (h : OnlyCore s t k) (half n : Nat)
include h

theorem OnlyCore.ltmr : t.ltmr half n = s.ltmr half n := by rw [h.1]; rfl
theorem OnlyCore.ltmrDone : t.ltmrDone n = s.ltmrDone n := by rw [h.1]; rfl
theorem OnlyCore.ledge : t.ledge half n = s.ledge half n := by rw [h.1]; rfl
theorem OnlyCore.regs : t.regs = s.regs := by rw [h.1]

end

section
variable {s : State} {w : Word} {eff : State → WEff} {rd n : Nat} {r : State × Word}

theorem lthHalf_atIssue (s : State) (k : CoreId) (w : Word) : (s.atIssue k w).lthHalf = s.lthHalf := rfl
theorem ltmrDone_atIssue (s : State) (k : CoreId) (w : Word) (n : Nat) : (s.atIssue k w).ltmrDone n = s.ltmrDone n := rfl

/-- LIMG with DIR 1 writes one output word, and no register (R300). -/
theorem walso_limgOut {word : Nat} (h : s.Runs .lathe w) (hw : word < 1024)
    (he : eff (s.atIssue .lathe w) = (s.atIssue .lathe w).limg .lathe rd true word) : let t := s.walso .lathe w eff
    t.rd (lthOut word) = s.gr .lathe rd ∧ (∀ key, key ≠ lthOut word → t.rd key = s.rd key) ∧ WritesNone s t .lathe := by
  have heff : eff (s.atIssue .lathe w) =
      .ok (((s.atIssue .lathe w).wr (lthOut word) (s.gr .lathe rd)).pairDirty (1033 + word / 256)) := by
    rw [he, State.limg, if_pos rfl, if_neg (by omega), State.atIssue_gr]
  have hcores : (((s.atIssue .lathe w).wr (lthOut word) (s.gr .lathe rd)).pairDirty (1033 + word / 256)).cores = (s.atIssue .lathe w).cores := rfl
  obtain ⟨ho, hk, ha⟩ := walso_completes h heff ((Flagged.atIssue s _ w).of_cores hcores)
  obtain ⟨hg, hz, hp⟩ := ((s.atIssue_keeps _ w).trans (.of_cores hcores)).trans hk
  have hrd (key : Nat) : (s.walso .lathe w eff).rd key = if lthOut word = key then s.gr .lathe rd else s.rd key :=
    (ho.rd key).trans (State.rd_wr _ _ _ _)
  exact ⟨(hrd _).trans (if_pos rfl), fun key hne => (hrd key).trans (if_neg hne.symm), hg, hz, hp, ha⟩

/-- The first step or reset of a timer in a turn, as the core receives it (R208, R302). -/
theorem walso_ltmrFirst {t' : LTmr} {st : Nat} (h : s.Runs .lathe w) (hi : rd < 32)
    (he : eff (s.atIssue .lathe w) = unitResult .lathe rd ((s.atIssue .lathe w).ltmrStore n t' st, w32 st)) : let t := s.walso .lathe w eff
    ∃ st, t.ltmrDone n = some st ∧ PutsG s t .lathe rd (w32 st) ∧ t.ltmr s.lthHalf n = t' ∧ t.regs = s.regs := by
  have hag := State.ltmrStore_ag (s.atIssue .lathe w) n t' st
  obtain ⟨htmr, hdone⟩ := (s.atIssue .lathe w).ltmrStore_shows n t' st
  obtain ⟨ho, hg, -⟩ := walso_putsG h hi (hag.cores (by decide)) he
  rw [lthHalf_atIssue] at htmr
  exact ⟨st, (ho.ltmrDone n).trans hdone, hg, (ho.ltmr _ n).trans htmr, ho.regs.trans (hag.regs (by decide))⟩

end

/-- Settles O26: an image word is read or written, and a timer delivers the status it keeps or takes its step or reset. -/
theorem latheInstructions : Obligations.LatheInstructions := by
  unfold Obligations.LatheInstructions
  intro s pn ps rd ra z4 word n k G lw x
  refine ⟨fun hw h => ⟨_, rfl, walso_writesG h rd.isLt ?_⟩, fun hw h => ⟨_, rfl, walso_limgOut h hw rfl⟩,
    fun h => ⟨_, rfl, walso_writesG h rd.isLt rfl⟩, fun st hst => ⟨fun h => ⟨_, rfl, walso_writesG h rd.isLt ?_⟩,
      fun h => ⟨_, rfl, walso_writesG h rd.isLt ?_⟩⟩, fun hnone => ⟨fun h => ⟨_, rfl, ?_⟩, fun h => ⟨_, rfl, ?_⟩⟩⟩
  · rw [State.limg, if_neg (by decide), if_neg (by omega)]
    rfl
  · exact congrArg (unitResult k rd.toNat) (State.ltmrStep_again _ _ ((ltmrDone_atIssue _ _ _ _).trans hst))
  · exact congrArg (unitResult k rd.toNat) (State.ltmrClear_again _ _ ((ltmrDone_atIssue _ _ _ _).trans hst))
  · obtain ⟨st, hst⟩ := State.ltmrStep_first (s.atIssue k (ltmrWord pn ps rd ra 0 n)) n.toNat x hnone
    refine walso_ltmrFirst h rd.isLt (.trans ?_ (congrArg (unitResult k rd.toNat) hst))
    rw [State.atIssue_gr]
  · obtain ⟨st, hst⟩ := State.ltmrClear_first (s.atIssue k (ltmrWord pn ps rd ra 1 n)) n.toNat hnone
    exact walso_ltmrFirst h rd.isLt (congrArg (unitResult k rd.toNat) hst)

/-- Settles O27: the memory of the edge and the answer are those of `ledg`, in the state at issue. -/
theorem latheEdgeMemory : Obligations.LatheEdgeMemory := by
  unfold Obligations.LatheEdgeMemory
  intro s pn ps rd ra n k half x e rise fall h
  let w := wEnc 0x2E pn ps (rd ++ (ra ++ n))
  obtain ⟨hval, hset, hothers⟩ := (s.atIssue k w).ledg_shows n.toNat x
  have hag := State.ledg_ag (s.atIssue k w) n.toNat x
  obtain ⟨ho, hg, hz, hp, ha⟩ := walso_putsG
    (eff := fun t => unitResult k rd.toNat (t.ledg n.toNat (decide (t.gr k ra.toNat ≠ 0)))) h rd.isLt (hag.cores (by decide))
    (by simp only [State.atIssue_gr]; rfl)
  refine ⟨_, rfl, ?_, (ho.ledge _ _).trans hset, fun j hj => (ho.ledge _ _).trans (hothers j hj), ?_, hp, ha, ?_⟩
  · rw [hval] at hg
    exact hg
  · exact hz
  · exact ((((State.atIssue_ag s k w).mono (by decide)).then hag (by decide)).then ho.agree (by decide)).eq_cores_lathe_pair

end Sys2Proof.Machine
end

section
/-!
The deadline of a turn that an overrun skipped, while a flush of the retained partition is in progress (chapter 09: R296, R306).
-/
namespace Sys2Proof.Machine
open Sys2Proof

/-! ### The counterexample -/

/-- An image of Lathe without a code word, a table or a claim. -/
def emptyImage : LImage :=
  { ver := 0, turnP := 1, codeWords := 0, entry := 0, wcet := 0, pages := 2, digest := [], claims := [], secs := [], carry := [], timers := [],
    edges := 0, tables := { bytes := 0, stations := [], rx := [], tx := [], safeMask := [], safeVal := [] } }

/-- From the reset on, half A holds an image, its turn is the one an overrun skips, and a flush into copy A has not finished. -/
def skippedDuringFlush : State :=
  { State.reset with lathe := { LatheU.init with
      phase := .skipped, imgs := [(0, some emptyImage)]
      flush := some { copy := 0, half := 0, ret := 2, digest := [], turn := 0, seq := 1, sec := 0, epoch := 0, pages := 3 } } }

theorem skippedDuringFlush_image : skippedDuringFlush.lthImg skippedDuringFlush.lthHalf = some emptyImage := by decide +kernel

/-- The deadline sets FLUSH_LATE, which was not set. -/
theorem skippedDuringFlush_deadline :
    skippedDuringFlush.bit Reg.LTH_STAT 23 = false ∧ skippedDuringFlush.turnDeadline.bit Reg.LTH_STAT 23 = true := by decide +kernel

/-- Refutes O40: the deadline of a skipped turn is said to change Lathe's phase alone, but R306 sets LTH_STAT.FLUSH_LATE at every deadline that
finds a flush in progress, and a skipped turn has a deadline too (R296). The clause does not ask that no
flush be in progress. -/
theorem not_latheTurns : ¬ Obligations.LatheTurns := by
  unfold Obligations.LatheTurns
  intro h
  obtain ⟨-, -, -, -, -, -, -, hskipped, -⟩ := h skippedDuringFlush emptyImage skippedDuringFlush_image
  obtain ⟨t, ht, hframe⟩ := hskipped rfl
  obtain ⟨hclear, hset⟩ := skippedDuringFlush_deadline
  have hnext : skippedDuringFlush.turnDeadline = t := Host.Outcome.next.inj ht
  have hstat : t.bit Reg.LTH_STAT 23 = skippedDuringFlush.bit Reg.LTH_STAT 23 := by rw [hframe]; rfl
  rw [← hnext, hset, hclear] at hstat
  exact Bool.noConfusion hstat

end Sys2Proof.Machine
end

section
/-!
Registers of Lathe's block, the end of a flush of the retained partition, the metering snapshot, LTH_CFG and METER_CFG, and the turn number
(chapter 09: R304 to R306, R317 to R319).
-/
namespace Sys2Proof.Machine
open Sys2Proof

/-! ### Fields, records and refusals -/

theorem Writes.lthLog {P : Nat → Prop} {s t : State} (h : Writes P s t) (code sp p0 p1 : Nat) : Writes P s (t.lthLog code sp p0 p1) :=
  (h.irq _).log _ _ _ _

section
variable (s : State) (a k : Nat)

theorem State.bit_put_apart (hi lo v i : Nat) (hh : hi < 32) (hl : lo ≤ hi) (h : a ≠ k ∨ i < lo ∨ hi < i) :
    (s.put a hi lo v).bit k i = s.bit k i := by
  unfold State.bit
  rw [State.rd_put]
  split
  · next e => rw [bitAt_putField _ _ _ _ _ hh hl, if_neg (by omega), e]
  · rfl

theorem State.fld_putBit_apart (i : Nat) (b : Bool) (hi lo : Nat) (hh : i < 32) (hl : lo ≤ hi) (h : a ≠ k ∨ hi < i ∨ i < lo) :
    (s.putBit a i b).fld k hi lo = s.fld k hi lo := by
  by_cases e : a = k
  · subst e
    exact State.fld_put_apart _ _ _ _ _ _ _ _ hh (Nat.le_refl i) (by omega) hl
  · exact State.fld_put_ne _ _ _ _ _ _ _ _ e

theorem State.bit_wr_ne (v : Word) (i : Nat) (h : a ≠ k) : (s.wr a v).bit k i = s.bit k i := by
  unfold State.bit
  rw [State.rd_wr, if_neg h]

theorem State.fld_wr_ne (v : Word) (hi lo : Nat) (h : a ≠ k) : (s.wr a v).fld k hi lo = s.fld k hi lo := by
  unfold State.fld
  rw [State.rd_wr, if_neg h]

/-- A record of the chapter leaves the registers behind the interrupt block and Tally's. -/
theorem State.rd_lthLog (code sp p0 p1 : Nat) (h : 0x10000 ≤ k) : (s.lthLog code sp p0 p1).rd k = s.rd k := rd_signalled _ _ _ _ _ _ h

theorem State.bit_lthLog (code sp p0 p1 i : Nat) (h : 0x10000 ≤ k) : (s.lthLog code sp p0 p1).bit k i = s.bit k i := by
  unfold State.bit
  rw [State.rd_lthLog _ _ _ _ _ _ h]

/-- A record of the chapter raises interrupt 31 or 30 by its code (R320). -/
theorem State.int_lthLog (code sp p0 p1 : Nat) :
    (s.lthLog code sp p0 p1).bit Reg.INT_STAT_LO (if 0x1A4 ≤ code ∧ code ≤ 0x1A8 then 31 else 30) = true :=
  (State.bit_log _ _ _ _ _ _ _ (by decide)).trans (State.bit_irq_lo _ _ _ (.inl ⟨rfl, by split <;> decide⟩))

/-- A refused command of Lathe shows CMD_ERR and changes nothing else. -/
theorem lthCmdErr_shows : s.lthCmdErr.bit Reg.LTH_STAT 21 = true ∧ OnlyRegs s s.lthCmdErr [Reg.LTH_STAT] ∧
    s.lthCmdErr = { s with regs := s.lthCmdErr.regs } :=
  ⟨(State.bit_putBit _ _ _ _ _ _ (by decide)).trans (if_pos ⟨rfl, rfl⟩), (OnlyRegs.refl s _).wr _ (by simp), s.lthCmdErr_ag.eq_regs⟩

end

/-! ### The end of a flush (R304 to R306) -/

section
variable (s : State) (f : Flush)

/-- LTH_RET shows no flush in progress. -/
def State.retShown : State := (s.put Reg.LTH_RET 23 16 0).putBit Reg.LTH_RET 2 false

theorem State.retShown_ag : Agree 1 s s.retShown := (State.put_ag s _ _ _ _).then (State.putBit_ag _ _ _ _) (by decide)

theorem State.retShown_shows : s.retShown.fld Reg.LTH_RET 23 16 = 0 ∧ s.retShown.bit Reg.LTH_RET 2 = false ∧
    s.retShown.fld Reg.LTH_RET 3 3 = s.fld Reg.LTH_RET 3 3 ∧ (∀ i, i < 2 → s.retShown.bit Reg.LTH_RET i = s.bit Reg.LTH_RET i) ∧
    ∀ k, k ≠ Reg.LTH_RET → s.retShown.rd k = s.rd k := by
  unfold State.retShown
  refine ⟨?_, ?_, ?_, fun i hi => ?_, fun k hk => ?_⟩
  · rw [State.fld_putBit_apart _ _ _ _ _ _ _ (by decide) (by decide) (by decide)]
    exact State.fld_put_same _ _ _ _ _ (by decide) (by decide)
  · exact (State.bit_putBit _ _ _ _ _ _ (by decide)).trans (if_pos ⟨rfl, rfl⟩)
  · rw [State.fld_putBit_apart _ _ _ _ _ _ _ (by decide) (by decide) (by decide),
      State.fld_put_apart _ _ _ _ _ _ _ _ (by decide) (by decide) (by decide) (by decide)]
  · rw [State.bit_putBit _ _ _ _ _ _ (by decide), if_neg (by omega), State.bit_put_apart _ _ _ _ _ _ _ (by decide) (by decide) (by omega)]
  · rw [State.rd_putBit_ne _ _ _ _ _ hk.symm, State.rd_put, if_neg hk.symm]

variable {s f}

theorem flushDone_written (hf : s.lathe.flush = some f) (hw : (s.flushWritten f).lathe.waiting = none) :
    s.flushDone none = (s.flushWritten f).retShown.lthMod (fun l => { l with flush := none }) := by
  have hu : (s.flushWritten f).retShown.lathe.waiting = none := by rw [(State.retShown_ag _).lathe (by decide), hw]
  unfold State.flushDone
  rw [hf]
  unfold State.retShown at hu ⊢
  dsimp only
  rw [hu]

theorem flushDone_failed {a : Nat} (hf : s.lathe.flush = some f) (hw : (s.flushFailed f a).lathe.waiting = none) :
    s.flushDone (some a) = (s.flushFailed f a).retShown.lthMod (fun l => { l with flush := none }) := by
  have hu : (s.flushFailed f a).retShown.lathe.waiting = none := by rw [(State.retShown_ag _).lathe (by decide), hw]
  unfold State.flushDone
  rw [hf]
  unfold State.retShown at hu ⊢
  dsimp only
  rw [hu]

theorem flushDone_next {a : Nat} {w : Flush} (hf : s.lathe.flush = some f) (hw : (s.flushFailed f a).lathe.waiting = some w) :
    s.flushDone (some a) = (s.flushFailed f a).retShown.flushBegin w := by
  have hu : (s.flushFailed f a).retShown.lathe.waiting = some w := by rw [(State.retShown_ag _).lathe (by decide), hw]
  unfold State.flushDone
  rw [hf]
  unfold State.retShown at hu ⊢
  dsimp only
  rw [hu]

variable (s f)

/-- The header of a flush lies in its copy, and in page 0 of the working copy where that half is active. -/
def State.headerWritten : State :=
  let h := s.retHeader f
  let s := s.mwr (retAddr f.copy) h
  let s := (List.range 256).foldl (fun (u : State) w => u.wr (lthDmem f.half (retBase + 4 * w)) (leWord (h.drop (4 * w)))) s
  if f.half = s.lthHalf then s.pairDirty 960 else s

theorem State.flushWritten_eq : s.flushWritten f = ((s.headerWritten f).putBit Reg.LTH_RET f.copy true).put Reg.LTH_RET 3 3 f.copy := rfl

theorem State.headerWritten_shows : (∀ a, (s.headerWritten f).mb a = (s.mwr (retAddr f.copy) (s.retHeader f)).mb a) ∧
    (s.headerWritten f).lathe = { s.lathe with pdirty := if f.half = s.lthHalf then s.lathe.pdirty ||| 2 ^ 960 else s.lathe.pdirty } := by
  have hmwr := State.mwr_ag s (retAddr f.copy) (s.retHeader f)
  obtain ⟨u, hu⟩ : ∃ u, u = (List.range 256).foldl (fun (u : State) w =>
      u.wr (lthDmem f.half (retBase + 4 * w)) (leWord ((s.retHeader f).drop (4 * w)))) (s.mwr (retAddr f.copy) (s.retHeader f)) := ⟨_, rfl⟩
  have hag : Agree 1 (s.mwr (retAddr f.copy) (s.retHeader f)) u := by
    rw [hu]
    exact (Agree.refl 1 _).foldl fun v w hv => hv.then (State.wr_ag _ _ _) (by decide)
  have hhalf : u.lthHalf = s.lthHalf := by
    have hw : Writes (fun k => 0xA0000000 ≤ k) s u := by
      rw [hu]
      refine ((Writes.refl _ s).of_agree hmwr (by decide)).foldl fun v w _ hv => hv.wr _ ?_
      unfold lthDmem
      omega
    exact hw.fld 25 25 (by decide) (not_signals (by decide))
  have hdef : s.headerWritten f = if f.half = u.lthHalf then u.pairDirty 960 else u := by rw [hu]; rfl
  have hmb (a : Nat) : u.mb a = (s.mwr (retAddr f.copy) (s.retHeader f)).mb a := by unfold State.mb; rw [hag.mram (by decide)]
  have hlathe : u.lathe = s.lathe := (hag.lathe (by decide)).trans (hmwr.lathe (by decide))
  rw [hdef, hhalf]
  split
  · exact ⟨hmb, by rw [← hlathe]; rfl⟩
  · exact ⟨hmb, hlathe⟩

theorem retHeader_length_le : (s.retHeader f).length ≤ 1024 := by
  have hw (w : Word) : (leBytes w).length = 4 := rfl
  simp only [State.retHeader, List.length_append, List.length_flatMap, hw, List.length_take, List.length_replicate, apply_ite List.length, ite_self,
    List.map_const', List.length_range, List.sum_replicate, smul_eq_mul]
  omega

end

section
variable {s : State} {f w : Flush} {a : Nat}

/-- A flush whose header is written, with none that waits (R305). -/
theorem flushDone_written_shows (hf : s.lathe.flush = some f) (hw : s.lathe.waiting = none) (hc : f.copy < 2) : let t := s.flushDone none
    t.bit Reg.LTH_RET f.copy = true ∧ t.fld Reg.LTH_RET 3 3 = f.copy ∧ t.fld Reg.LTH_RET 23 16 = 0 ∧ t.bit Reg.LTH_RET 2 = false ∧
    t.lathe = { s.lathe with flush := none, pdirty := if f.half = s.lthHalf then s.lathe.pdirty ||| 2 ^ 960 else s.lathe.pdirty } ∧
    (∀ j, j < (s.retHeader f).length → t.mb (retAddr f.copy + j) = (s.retHeader f).getD j 0) ∧
    ∀ a, a < retAddr f.copy ∨ retAddr f.copy + 1024 ≤ a → t.mb a = s.mb a := by
  intro t
  obtain ⟨hmb, hlathe⟩ := s.headerWritten_shows f
  have hag : Agree 1 (s.headerWritten f) (s.flushWritten f) := (State.putBit_ag _ _ _ _).then (State.put_ag _ _ _ _ _) (by decide)
  have hfw : (s.flushWritten f).lathe = _ := (hag.lathe (by decide)).trans hlathe
  have ht : t = (s.flushWritten f).retShown.lthMod (fun l => { l with flush := none }) :=
    flushDone_written hf ((congrArg LatheU.waiting hfw).trans hw)
  obtain ⟨hn, h2, h3, hbits, -⟩ := (s.flushWritten f).retShown_shows
  have hmem (a : Nat) : t.mb a = (s.mwr (retAddr f.copy) (s.retHeader f)).mb a := by
    rw [ht, ← hmb]
    unfold State.mb
    rw [State.lthMod_mram, (State.retShown_ag _).mram (by decide), hag.mram (by decide)]
  have haddr : retAddr f.copy ≤ 0x810000 := by unfold retAddr; omega
  have hlen := retHeader_length_le s f
  refine ⟨?_, ?_, ?_, ?_, ?_, fun j hj => ?_, fun a ha => ?_⟩
  · rw [ht]
    refine (hbits _ hc).trans ?_
    rw [State.flushWritten_eq, State.bit_put_apart _ _ _ _ _ _ _ (by decide) (by decide) (by omega)]
    exact (State.bit_putBit _ _ _ _ _ _ (by omega)).trans (if_pos ⟨rfl, rfl⟩)
  · rw [ht]
    refine h3.trans ?_
    rw [State.flushWritten_eq, State.fld_put_same _ _ _ _ _ (by decide) (by decide)]
    exact Nat.mod_eq_of_lt hc
  · rw [ht]
    exact hn
  · rw [ht]
    exact h2
  · have hshown : (s.flushWritten f).retShown.lathe = _ := ((State.retShown_ag _).lathe (by decide)).trans hfw
    rw [ht, State.lthMod, hshown]
  · rw [hmem]
    exact mb_mwr_in _ _ _ _ hj (by omega)
  · rw [hmem]
    exact State.mb_mwr_out _ _ _ _ (by omega)

/-- The account of the flushes behind a failed MRAM write (R306). -/
def failedLathe (f : Flush) (l : LatheU) : LatheU :=
  match l.waiting with
  | some w => if w.copy = f.copy then { l with waiting := some { w with pages := 2 ^ w.ret - 1 } } else { l with rewrite := l.rewrite ||| 2 ^ f.copy }
  | none => { l with rewrite := l.rewrite ||| 2 ^ f.copy }

theorem failedLathe_alone {f : Flush} {l : LatheU} (hw : l.waiting = none) :
    failedLathe f l = { l with rewrite := l.rewrite ||| 2 ^ f.copy } := by
  unfold failedLathe
  split
  · next w h => exact nomatch hw.symm.trans h
  · rfl

theorem failedLathe_waiting {f w : Flush} {l : LatheU} (hw : l.waiting = some w) (hc : w.copy = f.copy) :
    (failedLathe f l).waiting = some { w with pages := 2 ^ w.ret - 1 } := by
  unfold failedLathe
  rw [hw]
  exact congrArg LatheU.waiting (if_pos hc)

theorem flushFailed_eq (s : State) (f : Flush) (a : Nat) : ∃ turn, s.flushFailed f a =
    ((s.lthMod (failedLathe f)).putBit Reg.LTH_RET f.copy false).lthLog 0x1A3 f.copy a turn := ⟨_, rfl⟩

/-- What a failed MRAM write shows (R306). -/
theorem flushFailed_shows (s : State) (f : Flush) (a : Nat) : let t := s.flushFailed f a
    t.lathe = failedLathe f s.lathe ∧ t.mram = s.mram ∧ t.bit Reg.INT_STAT_LO 30 = true ∧ (f.copy < 2 → t.bit Reg.LTH_RET f.copy = false) := by
  intro t
  obtain ⟨turn, ht⟩ : ∃ turn, t = _ := flushFailed_eq s f a
  have hag : Agree 25089 (s.lthMod (failedLathe f)) t := by
    rw [ht]
    exact ((State.putBit_ag _ _ _ _).mono (by decide)).then (State.lthLog_ag _ _ _ _ _) (by decide)
  refine ⟨hag.lathe (by decide), hag.mram (by decide), ?_, fun hc => ?_⟩
  · rw [ht]
    exact State.int_lthLog _ _ _ _ _
  · rw [ht, State.bit_lthLog _ _ _ _ _ _ _ (by decide), State.bit_putBit _ _ _ _ _ _ (by omega), if_pos ⟨rfl, rfl⟩]

/-- A flush whose write has failed, with none that waits (R306). -/
theorem flushDone_failed_shows (hf : s.lathe.flush = some f) (hw : s.lathe.waiting = none) (hc : f.copy < 2) : let t := s.flushDone (some a)
    t.bit Reg.LTH_RET f.copy = false ∧ t.fld Reg.LTH_RET 23 16 = 0 ∧ t.bit Reg.LTH_RET 2 = false ∧
    t.lathe = { s.lathe with flush := none, rewrite := s.lathe.rewrite ||| 2 ^ f.copy } ∧ t.mram = s.mram ∧
    t.bit Reg.INT_STAT_LO 30 = true := by
  intro t
  obtain ⟨hlathe, hmram, hint, hinvalid⟩ := flushFailed_shows s f a
  have hl : failedLathe f s.lathe = { s.lathe with rewrite := s.lathe.rewrite ||| 2 ^ f.copy } := failedLathe_alone hw
  have ht : t = (s.flushFailed f a).retShown.lthMod (fun l => { l with flush := none }) :=
    flushDone_failed hf ((congrArg LatheU.waiting (hlathe.trans hl)).trans hw)
  obtain ⟨hn, h2, -, hbits, hrd⟩ := (s.flushFailed f a).retShown_shows
  have hshown : (s.flushFailed f a).retShown.lathe = _ := ((State.retShown_ag _).lathe (by decide)).trans (hlathe.trans hl)
  rw [ht]
  refine ⟨(hbits _ hc).trans (hinvalid hc), hn, h2, by rw [State.lthMod, hshown], ((State.retShown_ag _).mram (by decide)).trans hmram, ?_⟩
  exact (congrArg (bitAt · 30) (hrd Reg.INT_STAT_LO (by decide))).trans hint

theorem flushBegin_flush (s : State) (w : Flush) : (s.flushBegin w).lathe.flush = some w := rfl

/-- Behind a failed write the flush into the same copy that waits writes every page (R306). -/
theorem flushDone_next_shows (hf : s.lathe.flush = some f) (hw : s.lathe.waiting = some w) (hc : w.copy = f.copy) :
    (s.flushDone (some a)).lathe.flush = some { w with pages := 2 ^ w.ret - 1 } := by
  obtain ⟨hlathe, -⟩ := flushFailed_shows s f a
  rw [flushDone_next hf ((congrArg LatheU.waiting hlathe).trans (failedLathe_waiting hw hc))]
  exact flushBegin_flush _ _

end

/-! ### The metering snapshot (R317, R318) -/

theorem Agree.eq_signal_meter {s t : State} (h : Agree 140737488380417 s t) : t = { s with
    regs := t.regs, supPend := t.supPend, tally := t.tally, buckets := t.buckets, meter := t.meter } := h.eq_overlay

/-- The words of a snapshot: its number, the second and epoch of the instant, the slots that are stale, the pulse counts, and the slots. -/
def State.meterWords (s : State) (seq sec e stale : Nat) (slots : List Word) : List Word :=
  [w32 seq, w32 sec, w32 (e * 0x1000000), w32 stale] ++ (List.range 48).map (fun k => s.rd (Reg.FIO_PSNAP k)) ++ slots

theorem meterWords_pulses (s : State) (seq sec e stale : Nat) (slots : List Word) {k : Nat} (hk : k < 48) :
    (s.meterWords seq sec e stale slots).getD (4 + k) 0 = s.rd (Reg.FIO_PSNAP k) := by
  unfold State.meterWords
  rw [List.append_assoc, List.getD_append_right _ _ _ _ (Nat.le_add_right 4 k), List.getD_append _ _ _ _ (by simp; omega)]
  simp [hk]

section
variable {s : State} {sec x e last : Nat} (hr : s.meter.req = some (sec, x, e, last))
include hr

theorem meterSnapshot_early (hl : s.tickNo < last) : s.meterSnapshot = s := by
  unfold State.meterSnapshot
  rw [hr]
  exact if_pos hl

theorem meterSnapshot_eq (hl : last ≤ s.tickNo) : ∃ u stale slots, u = s.put Reg.METER_STAT 15 0 ((s.fld Reg.METER_STAT 15 0 + 1) % 65536) ∧
    s.meterSnapshot = (u.meterMod (fun _ => {
      req := none, words := u.meterWords ((s.fld Reg.METER_STAT 15 0 + 1) % 65536) sec e stale slots, ready := true })).lthLog 0x1AB e
        ((s.fld Reg.METER_STAT 15 0 + 1) % 65536) stale := by
  unfold State.meterSnapshot
  rw [hr]
  dsimp only
  rw [if_neg (by omega)]
  exact ⟨_, _, _, rfl, rfl⟩

theorem meterSnapshot_taken (hl : last ≤ s.tickNo) : let t := s.meterSnapshot
    let seq := (s.fld Reg.METER_STAT 15 0 + 1) % 65536
    t.fld Reg.METER_STAT 15 0 = seq ∧ t.meter.req = none ∧ t.meter.ready = true ∧
    t.meter.words.take 3 = [w32 seq, w32 sec, w32 (e * 0x1000000)] ∧
    (∀ k, k < 48 → t.meter.words.getD (4 + k) 0 = s.rd (Reg.FIO_PSNAP k)) ∧ OnlyRegsSig s t [Reg.METER_STAT] ∧
    t = { s with regs := t.regs, supPend := t.supPend, tally := t.tally, buckets := t.buckets, meter := t.meter } := by
  intro t seq
  have hag : Agree 140737488380417 s t := s.meterSnapshot_ag
  obtain ⟨u, stale, slots, hu, ht⟩ := meterSnapshot_eq hr hl
  have hmeter : t.meter = { req := none, words := u.meterWords seq sec e stale slots, ready := true } :=
    (congrArg State.meter ht).trans ((State.lthLog_ag _ _ _ _ _).meter (by decide))
  have hrd (k : Nat) (hk : 0x10000 ≤ k) : t.rd k = u.rd k := (congrArg (State.rd · k) ht).trans (State.rd_lthLog _ _ _ _ _ _ hk)
  have hw : Writes (fun k => k = Reg.METER_STAT) s t := by
    rw [show t = _ from ht, hu]
    exact (((Writes.refl (fun k => k = Reg.METER_STAT) s).put _ _ _ rfl).of_agree (State.meterMod_ag _ _) (by decide)).lthLog _ _ _ _
  refine ⟨?_, by rw [hmeter], by rw [hmeter], by rw [hmeter]; rfl, fun k hk => ?_, fun a ha hs => hw.rd a (by simpa using ha) hs,
    hag.eq_signal_meter⟩
  · unfold State.fld
    rw [hrd _ (by decide), hu]
    exact (State.fld_put_same _ _ _ _ _ (by decide) (by decide)).trans (Nat.mod_eq_of_lt (Nat.mod_lt _ (by decide)))
  · rw [hmeter, meterWords_pulses _ _ _ _ _ _ hk, hu, State.rd_put, if_neg (by unfold Reg.METER_STAT Reg.FIO_PSNAP; omega)]

end

/-! ### LTH_CFG and METER_CFG (R319) -/

/-- The rows of the two registers: plain read-write fields. -/
theorem regRow_lthCfg : (regRow Reg.LTH_CFG).map (fun r => (r.rw, r.w1c, r.w1s)) = some (0xCF000000, 0, 0) := by decide +kernel
theorem regRow_meterCfg : (regRow Reg.METER_CFG).map (fun r => (r.rw, r.w1c, r.w1s)) = some (0x8FF0FFFF, 0, 0) := by decide +kernel

/-- A normal write leaves what is no read-write field (R5). -/
theorem write_and_not_rw (r : RegRow) (old v : Word) (hc : r.w1c = 0) (hs : r.w1s = 0) :
    r.write old v &&& ~~~ BitVec.ofNat 32 r.rw = old &&& ~~~ BitVec.ofNat 32 r.rw := by
  simp only [RegRow.write, hc, hs, BitVec.and_zero, BitVec.not_zero, BitVec.and_allOnes, BitVec.or_zero]
  ext i hi
  cases h : (BitVec.ofNat 32 r.rw)[i] <;> simp [h]

theorem Agree.eq_regs_supPend {s t : State} (h : Agree 513 s t) : t = { s with regs := t.regs, supPend := t.supPend } := h.eq_overlay

section
variable {s : State} {a m : Nat} {v : Word}

/-- A write of a register whose fields are read-write, of the mask m. -/
theorem regWrite_stores (hr : (regRow a).map (fun r => (r.rw, r.w1c, r.w1s)) = some (m, 0, 0)) : let t := s.regWrite a v
    t.rd a &&& BitVec.ofNat 32 m = v &&& BitVec.ofNat 32 m ∧ t.rd a &&& ~~~ BitVec.ofNat 32 m = s.rd a &&& ~~~ BitVec.ofNat 32 m ∧
    OnlyRegs s t [a] ∧ t = { s with regs := t.regs } := by
  intro t
  obtain ⟨r, hrow, hf⟩ := Option.map_eq_some_iff.mp hr
  simp only [Prod.mk.injEq] at hf
  obtain ⟨rfl, hw1c, hw1s⟩ := hf
  have ht : t = s.wr a (r.write (s.rd a) v) := by
    unfold t State.regWrite
    rw [hrow]
  have hrd : t.rd a = r.write (s.rd a) v := by rw [ht, State.rd_wr, if_pos rfl]
  refine ⟨hrd ▸ write_and_rw r _ v hw1c hw1s, hrd ▸ write_and_not_rw r _ v hw1c hw1s, ?_, (State.regWrite_ag s a v).eq_regs⟩
  rw [ht]
  exact (OnlyRegs.refl s _).wr _ (by simp)

/-- A write that names an alarm of another owner is discarded, with CMD_ERR and interrupt 30. -/
theorem lthCfgWrite_denied (ho : s.owner (0x2000 + field v 27 24) ≠ 0x02) : let t := s.lthCfgWrite a true v
    t.bit Reg.LTH_STAT 21 = true ∧ t.bit Reg.INT_STAT_LO 30 = true ∧ OnlyRegs s t [Reg.LTH_STAT, Reg.INT_STAT_LO] ∧
    t = { s with regs := t.regs, supPend := t.supPend } := by
  intro t
  have ht : t = s.lthCmdErr.irq 30 := if_pos (by simpa using ho)
  have hrd (k : Nat) (hk : Reg.INT_STAT_LO ≠ k) : t.rd k = s.lthCmdErr.rd k := by
    rw [ht]
    exact State.rd_putBit_ne s.lthCmdErr Reg.INT_STAT_LO k 30 true hk
  obtain ⟨herr, hregs, -⟩ := lthCmdErr_shows s
  refine ⟨(congrArg (bitAt · 21) (hrd Reg.LTH_STAT (by decide))).trans herr, ?_, fun k hk => ?_, (State.lthCfgWrite_ag s a true v).eq_regs_supPend⟩
  · rw [ht]
    exact State.bit_irq_lo _ _ _ (.inl ⟨rfl, by decide⟩)
  · simp only [List.mem_cons, List.not_mem_nil, or_false, not_or] at hk
    exact (hrd k (Ne.symm hk.2)).trans (hregs k (by simpa using hk.1))

theorem lthCfgWrite_taken {names : Bool} (h : names = false ∨ s.owner (0x2000 + field v 27 24) = 0x02) : s.lthCfgWrite a names v = s.regWrite a v :=
  if_neg (by rcases h with h | h <;> simp [h])

end

/-! ### The turn number (R563) -/

theorem turnRead_shows (s : State) (r : Req) : let t := s.turnRead r
    t.answered r = w32 s.lathe.turn ∧ t.snap r Reg.LTH_TURN_HI = w32 (s.lathe.turn / 4294967296) ∧ t = { s with rsp := t.rsp, snaps := t.snaps } :=
  ⟨(State.answered_answer _ _ _ _).trans (if_pos rfl), (SMap.get_set _ _ _ _ _).trans (if_pos rfl), rfl⟩

/-- Settles O42: a flush ends written or failed and the next one begins, the snapshot is taken at its deadline, a write that names an alarm of
another owner is discarded, and a read of the turn number latches its upper word. -/
theorem latheFlushMeteringAndConfiguration : Obligations.LatheFlushMeteringAndConfiguration := by
  unfold Obligations.LatheFlushMeteringAndConfiguration
  intro s v r l
  refine ⟨fun f hf hw hc => ⟨?_, fun a => ⟨_, rfl, ?_⟩⟩, fun f w hf hw hcopy _ a => ⟨_, rfl, { w with pages := 2 ^ w.ret - 1 },
      flushDone_next_shows hf hw hcopy, rfl, fun p hp _ => ?_⟩, fun sec x e last hr hl => ⟨_, rfl, meterSnapshot_taken hr hl⟩,
    fun sec x e last hr hl => congrArg Host.Outcome.next (meterSnapshot_early hr hl), ?_,
    fun hs => ⟨_, access_served s r hs (f := fun s => s.turnRead r), turnRead_shows s r⟩⟩
  · obtain ⟨hvalid, hlast, hn, hbusy, hlathe, hmem⟩ := flushDone_written_shows hf hw hc
    exact ⟨_, rfl, hvalid, hlast, hn, hbusy, congrArg LatheU.flush hlathe, hlathe, hmem⟩
  · obtain ⟨hinvalid, hn, hbusy, hlathe, hrest⟩ := flushDone_failed_shows (a := a.toNat) hf hw hc
    exact ⟨hinvalid, hn, hbusy, congrArg LatheU.flush hlathe, hlathe, hrest⟩
  · exact (Nat.testBit_two_pow_sub_one w.ret p).trans (decide_eq_true hp)
  · intro Denied Stored own
    refine ⟨fun hn ho => ⟨_, congrArg (Host.Outcome.next ∘ (s.lthCfgWrite Reg.LTH_CFG · v)) (decide_eq_true hn), lthCfgWrite_denied ho⟩,
      fun h => ⟨_, congrArg Host.Outcome.next (lthCfgWrite_taken (h.imp_left fun hn => decide_eq_false hn)), regWrite_stores regRow_lthCfg⟩,
      fun ho => ⟨_, rfl, lthCfgWrite_denied ho⟩,
      fun ho => ⟨_, congrArg Host.Outcome.next (lthCfgWrite_taken (.inr ho)), regWrite_stores regRow_meterCfg⟩⟩

end Sys2Proof.Machine
end

section
/-!
Images of Lathe: loading, validation, the armed switch, the revert window, and the starts (chapter 09: R310 to R316).
-/
namespace Sys2Proof.Machine
open Sys2Proof

/-! ### Lathe's block and halves -/

/-- Lathe's block lies apart from what the lines drive. -/
theorem not_lineKeys_lathe {a : Nat} (h : 0x14000 ≤ a ∧ a < 0x14048) : ¬ LineKeys a := by
  have hdrop (p : Nat) : 0x14048 ≤ Reg.ETH_DROP p := by unfold Reg.ETH_DROP; omega
  have hfpd (c : Nat) : 0x14048 ≤ Reg.FPD_STAT c := by unfold Reg.FPD_STAT; omega
  rintro (e | e | e | e | e | ⟨p, rfl⟩ | ⟨c, rfl⟩ | e)
  case inr.inr.inr.inr.inr.inl => exact absurd (hdrop p) (Nat.not_le_of_lt h.2)
  case inr.inr.inr.inr.inr.inr.inl => exact absurd (hfpd c) (Nat.not_le_of_lt h.2)
  all_goals omega

theorem not_haltKeys_lathe {a : Nat} (h : 0x14000 ≤ a ∧ a < 0x14048) (hr : a ≠ Reg.LTH_RCK) (hb : a ≠ Reg.LTH_BITS) : ¬ HaltKeys a := by
  rintro (e | e | e | ⟨w, e⟩)
  · exact not_lineKeys_lathe h e
  · exact hr e
  · exact hb e
  · simp only [lthOutKey] at e
    omega

section
variable (s : State)

theorem lthHalf_lt : s.lthHalf < 2 := Nat.mod_lt _ (by decide)

theorem otherHalf_ne : 1 - s.lthHalf ≠ s.lthHalf := by
  have := lthHalf_lt s
  omega

theorem lthImg_setLthImg (h k : Nat) (i : Option LImage) : (s.setLthImg h i).lthImg k = if h = k then i else s.lthImg k := SMap.get_set _ _ _ _ _

theorem lthImg_of_imgs {s t : State} (h : t.lathe.imgs = s.lathe.imgs) (k : Nat) : t.lthImg k = s.lthImg k := by
  unfold State.lthImg
  rw [h]

theorem lthHalf_of_writes {P : Nat → Prop} {s t : State} (h : Writes P s t) (hp : ¬ P Reg.LTH_STAT) : t.lthHalf = s.lthHalf :=
  h.fld 25 25 hp (not_signals (by decide))

end

theorem Writes.wrWords {P : Nat → Prop} {s t : State} (h : Writes P s t) (k : Nat) (ws : List Word) (hp : ∀ a, k ≤ a → P a) :
    Writes P s (t.wrWords k ws) := by
  induction ws generalizing t k with
  | nil => exact h
  | cons w ws ih => exact ih (h.wr w (hp k (Nat.le_refl k))) _ (fun a ha => hp a (by omega))

/-! ### The end of a revert window (R314) -/

section
variable (s : State) (cause : Nat)

/-- The revert window is shown closed, and no revert pending. -/
def State.windowShut : State := ((s.putBit Reg.LTH_RCK 2 false).putBit Reg.LTH_RCK 4 false).put Reg.LTH_RCK 31 22 0

theorem windowShut_shows : s.windowShut.bit Reg.LTH_RCK 2 = false ∧ s.windowShut.bit Reg.LTH_RCK 4 = false := by
  unfold State.windowShut
  constructor
  · rw [State.bit_put_apart _ _ _ _ _ _ _ (by decide) (by decide) (by decide), State.bit_putBit _ _ _ _ _ _ (by decide), if_neg (by decide)]
    exact (State.bit_putBit _ _ _ _ _ _ (by decide)).trans (if_pos ⟨rfl, rfl⟩)
  · rw [State.bit_put_apart _ _ _ _ _ _ _ (by decide) (by decide) (by decide)]
    exact (State.bit_putBit _ _ _ _ _ _ (by decide)).trans (if_pos ⟨rfl, rfl⟩)

/-- The claims of the old image end, and what they drove follows. -/
def State.oldClaimsEnded : State := ((s.endClaims 2 s.lathe.oldClaims).lthMod (fun l => { l with oldClaims := [] })).fioDrive

theorem oldClaimsEnded_writes : Writes LineKeys s s.oldClaimsEnded :=
  ((endClaims_lineKeys s 2 _).of_agree (State.lthMod_ag _ _) (by decide)).trans (fioDrive_lineKeys _)

theorem lathe_oldClaimsEnded : s.oldClaimsEnded.lathe = { s.lathe with oldClaims := [] } := by
  have hend : (s.endClaims 2 s.lathe.oldClaims).lathe = s.lathe := (State.endClaims_ag s 2 _).lathe (by decide)
  unfold State.oldClaimsEnded
  rw [(State.fioDrive_ag _).lathe (by decide), State.lthMod, hend]

variable {s}

theorem revertClose_open (h : s.bit Reg.LTH_RCK 2 = true) : ∃ ver, s.revertClose cause = s.windowShut.oldClaimsEnded.lthLog 0x1A7 cause ver 0 := by
  unfold State.revertClose
  rw [if_neg (by simp [h])]
  exact ⟨_, rfl⟩

theorem revertClose_shut (h : s.bit Reg.LTH_RCK 2 = false) : s.revertClose cause = s := if_pos (by simp [h])

/-- The end of an open window (R314). -/
theorem revertClose_shows (h : s.bit Reg.LTH_RCK 2 = true) : let t := s.revertClose cause
    t.bit Reg.LTH_RCK 2 = false ∧ t.bit Reg.LTH_RCK 4 = false ∧ t.lathe = { s.lathe with oldClaims := [] } ∧ t.bit Reg.INT_STAT_LO 31 = true := by
  intro t
  obtain ⟨ver, ht⟩ : ∃ ver, t = _ := revertClose_open cause h
  obtain ⟨h2, h4⟩ := windowShut_shows s
  have hw : Writes LineKeys s.windowShut t := by
    rw [ht]
    exact (oldClaimsEnded_writes _).lthLog _ _ _ _
  have hrck (i : Nat) : t.bit Reg.LTH_RCK i = s.windowShut.bit Reg.LTH_RCK i :=
    hw.bit i (not_lineKeys_lathe (by decide)) (not_signals (by decide))
  refine ⟨(hrck 2).trans h2, (hrck 4).trans h4, ?_, ?_⟩
  · rw [ht, (State.lthLog_ag _ _ _ _ _).lathe (by decide), lathe_oldClaimsEnded]
    rfl
  · rw [ht]
    exact State.int_lthLog _ _ _ _ _

/-- The end of a window leaves the images. -/
theorem imgs_revertClose : (s.revertClose cause).lathe.imgs = s.lathe.imgs := by
  cases h : s.bit Reg.LTH_RCK 2 with
  | false => rw [revertClose_shut cause h]
  | true =>
    obtain ⟨-, -, hlathe, -⟩ := revertClose_shows cause h
    rw [hlathe]

theorem lthHalf_revertClose : (s.revertClose cause).lthHalf = s.lthHalf :=
  lthHalf_of_writes (State.revertClose_haltKeys s cause) (not_haltKeys_lathe (by decide) (by decide) (by decide))

end

/-! ### Loading and validation (R311) -/

section
variable (s : State) (half env : Nat)

/-- The code and the data sections of the program at `env` lie in a half, with zeros elsewhere. -/
def State.halfLoaded : State :=
  let s := (s.wipeKeys (lthImem half 0) (lthImem half 131072)).wipeKeys (lthDmem half 0) (lthDmem half 0x100000)
  let (p, _) := s.lthParts env
  let s := s.wrWords (lthImem half 0) (s.mws (min p.codeWords 131072) p.codeAt)
  ((s.dsecsOf p).filter (fun x => decide (x.off + x.len ≤ 0x100000))).foldl (fun u x => u.wrWords (lthDmem half x.off) x.data) s

theorem halfLoaded_ag : Agree 1 s (s.halfLoaded half env) := by
  unfold State.halfLoaded
  refine Agree.foldl ?_ fun u x hu => hu.then (State.wrWords_ag _ _ _) (by decide)
  exact ((State.wipeKeys_ag s _ _).then (State.wipeKeys_ag _ _ _) (by decide)).then (State.wrWords_ag _ _ _) (by decide)

/-- The record of Lathe when the validation of a loaded program begins. -/
def loadStarted (half env : Nat) (l : LatheU) : LatheU :=
  { l with
    loading := true, loadBase := env,
    timers := SMap.drop (fun k => decide (k / 4096 = half)) l.timers, edges := SMap.drop (fun k => decide (k / 4096 = half)) l.edges }

theorem lthLoad_eq (h0 : s.bit Reg.LTH_RCK 0 = false) (h3 : s.bit Reg.LTH_RCK 3 = false) : s.lthLoad =
    (((((s.revertClose 3).halfLoaded (1 - s.lthHalf) (s.fld Reg.LTH_IMG_ADDR 22 6 * 64)).setLthImg (1 - s.lthHalf) none).lthMod
      (loadStarted (1 - s.lthHalf) (s.fld Reg.LTH_IMG_ADDR 22 6 * 64))).putBit Reg.LTH_RCK 0 true).putBit Reg.LTH_RCK 1 false := by
  unfold State.lthLoad
  rw [if_neg (by simp [h0, h3])]
  rfl

theorem Agree.eq_claimsEnd {s t : State} (h : Agree 1099511783949 s t) : t = { s with
    regs := t.regs, claims := t.claims, ended := t.ended, supPend := t.supPend, tally := t.tally, buckets := t.buckets, pins := t.pins,
    lathe := t.lathe } := h.eq_overlay

/-- An accepted load: the half that is not active takes the program, and its image is gone. -/
theorem lthLoad_shows {env : Nat} (he : s.fld Reg.LTH_IMG_ADDR 22 6 * 64 = env) (h0 : s.bit Reg.LTH_RCK 0 = false)
    (h3 : s.bit Reg.LTH_RCK 3 = false) : let t := s.lthLoad
    t.lathe.loading = true ∧ t.lathe.loadBase = env ∧ t.bit Reg.LTH_RCK 0 = true ∧ t.bit Reg.LTH_RCK 1 = false ∧
    t.lthImg (1 - s.lthHalf) = none ∧ t.lthImg s.lthHalf = s.lthImg s.lthHalf := by
  intro t
  obtain ⟨u, hu⟩ : ∃ u, u = (s.revertClose 3).halfLoaded (1 - s.lthHalf) env := ⟨_, rfl⟩
  have ht : t = (((u.setLthImg (1 - s.lthHalf) none).lthMod (loadStarted (1 - s.lthHalf) env)).putBit Reg.LTH_RCK 0 true).putBit Reg.LTH_RCK 1 false := by
    rw [hu, ← he]
    exact lthLoad_eq s h0 h3
  have hlathe : t.lathe = loadStarted (1 - s.lthHalf) env (u.setLthImg (1 - s.lthHalf) none).lathe := by rw [ht]; rfl
  have himgs : u.lathe.imgs = s.lathe.imgs := by
    rw [hu, (halfLoaded_ag _ _ _).lathe (by decide)]
    exact imgs_revertClose 3
  have hset : t.lathe.imgs = (u.setLthImg (1 - s.lthHalf) none).lathe.imgs := by rw [hlathe]; rfl
  have himg (k : Nat) : t.lthImg k = if 1 - s.lthHalf = k then none else s.lthImg k := by
    rw [← lthImg_of_imgs himgs, ← lthImg_setLthImg u]
    exact lthImg_of_imgs hset k
  refine ⟨by rw [hlathe]; rfl, by rw [hlathe]; rfl, ?_, ?_, (himg _).trans (if_pos rfl), (himg _).trans (if_neg (otherHalf_ne s))⟩ <;> rw [ht]
  · rw [State.bit_putBit _ _ _ _ _ _ (by decide), if_neg (by decide)]
    exact (State.bit_putBit _ _ _ _ _ _ (by decide)).trans (if_pos ⟨rfl, rfl⟩)
  · exact (State.bit_putBit _ _ _ _ _ _ (by decide)).trans (if_pos ⟨rfl, rfl⟩)

theorem lthLoad_refused (h : s.bit Reg.LTH_RCK 0 = true ∨ s.bit Reg.LTH_RCK 3 = true) : s.lthLoad = s.lthCmdErr := if_pos (by simpa using h)

/-- The validation has ended, with no verdict shown yet. -/
def State.lthValClosed : State := (s.lthMod (fun l => { l with loading := false })).putBit Reg.LTH_RCK 0 false

theorem bit_lthValClosed (i : Nat) : s.lthValClosed.bit Reg.LTH_RCK i = if i = 0 then false else s.bit Reg.LTH_RCK i := by
  refine (State.bit_putBit _ _ _ _ _ _ (by decide)).trans ?_
  by_cases h : i = 0
  · rw [if_pos ⟨rfl, h.symm⟩, if_pos h]
  · rw [if_neg (fun e => h e.2.symm), if_neg h]
    rfl

theorem Writes.lthValClosed : Writes (fun a => a = Reg.LTH_RCK ∨ a = Reg.LTH_VAL) s s.lthValClosed :=
  ((Writes.refl _ s).of_agree (State.lthMod_ag _ _) (by decide)).putBit _ _ (.inl rfl)

theorem lthValEnd_accepts_eq : s.lthValEnd env none =
    ((s.lthValClosed.wr Reg.LTH_VAL 0).setLthImg (1 - s.lthValClosed.lthHalf) (some (s.lthImage env))).putBit Reg.LTH_RCK 1 true := rfl

theorem lathe_lthValClosed : s.lthValClosed.lathe = { s.lathe with loading := false } :=
  State.wr_lathe _ _ _

theorem lthValClosed_ag : Agree 1099511627777 s s.lthValClosed :=
  ((State.lthMod_ag s _).mono (by decide)).then (State.putBit_ag _ _ _ _) (by decide)

/-- A validation without a refusal: the image is pending (R311). -/
theorem lthValEnd_accepts : let t := s.lthValEnd env none
    t.lathe.loading = false ∧ t.bit Reg.LTH_RCK 0 = false ∧ t.bit Reg.LTH_RCK 1 = true ∧ t.lthImg (1 - s.lthHalf) = some (s.lthImage env) ∧
    t.lthImg s.lthHalf = s.lthImg s.lthHalf ∧ t.rd Reg.LTH_VAL = 0 ∧ OnlyRegs s t [Reg.LTH_RCK, Reg.LTH_VAL] ∧
    t = { s with regs := t.regs, lathe := t.lathe } := by
  intro t
  obtain ⟨u, hu⟩ : ∃ u, u = (s.lthValClosed.wr Reg.LTH_VAL 0).setLthImg (1 - s.lthHalf) (some (s.lthImage env)) := ⟨_, rfl⟩
  have hhalf : s.lthValClosed.lthHalf = s.lthHalf := lthHalf_of_writes (Writes.lthValClosed s) (by decide)
  have ht : t = u.putBit Reg.LTH_RCK 1 true := by
    rw [hu, ← hhalf]
    exact lthValEnd_accepts_eq s env
  have himg (k : Nat) : u.lthImg k = if 1 - s.lthHalf = k then some (s.lthImage env) else s.lthImg k := by
    rw [hu, lthImg_setLthImg, lthImg_of_imgs (t := s.lthValClosed.wr Reg.LTH_VAL 0) (s := s)]
    rw [State.wr_lathe, lathe_lthValClosed]
  have hload : u.lathe.loading = false := by
    rw [hu]
    exact congrArg LatheU.loading (lathe_lthValClosed s)
  have hag : Agree 1099511627777 s u := by
    rw [hu]
    exact ((lthValClosed_ag s).then (State.wr_ag _ _ _) (by decide)).then (State.setLthImg_ag _ _ _) (by decide)
  have hval : u.rd Reg.LTH_VAL = 0 := by
    rw [hu, (State.setLthImg_ag _ _ _).rd _ (by decide), State.rd_wr, if_pos rfl]
  have hrck : u.bit Reg.LTH_RCK 0 = false := by
    rw [hu, (State.setLthImg_ag _ _ _).bit _ (by decide) _, State.bit_wr_ne _ _ _ _ _ (by decide), bit_lthValClosed, if_pos rfl]
  have honly : OnlyRegs s u [Reg.LTH_RCK, Reg.LTH_VAL] := by
    have hclosed : OnlyRegs s s.lthValClosed [Reg.LTH_RCK, Reg.LTH_VAL] :=
      ((OnlyRegs.refl s _).of_agree (State.lthMod_ag _ _) (by decide)).wr _ (by simp)
    rw [hu]
    exact (hclosed.wr _ (by simp)).of_agree (State.setLthImg_ag _ _ _) (by decide)
  rw [ht]
  refine ⟨hload, ?_, (State.bit_putBit _ _ _ _ _ _ (by decide)).trans (if_pos ⟨rfl, rfl⟩), (himg _).trans (if_pos rfl),
    (himg _).trans (if_neg (otherHalf_ne s)), ?_, honly.wr _ (by simp), (hag.then (State.putBit_ag _ _ _ _) (by decide)).eq_overlay⟩
  · rw [State.bit_putBit _ _ _ _ _ _ (by decide), if_neg (by decide), hrck]
  · rw [State.rd_putBit_ne _ _ _ _ _ (by decide), hval]

theorem lthValEnd_refuses_eq (r d : Nat) : ∃ ver, s.lthValEnd env (some (r, d)) =
    (((when (decide (r = 0x0F) && resValid d) (fun t => t.irq 58) s.lthValClosed).wr Reg.LTH_VAL (w32 (r * 0x1000000 + d))).putBit
      Reg.LTH_RCK 5 true).lthLog 0x1A4 r d ver := ⟨_, rfl⟩

/-- A refused validation (R311). -/
theorem lthValEnd_refuses (r d : Nat) : let t := s.lthValEnd env (some (r, d))
    t.lathe = { s.lathe with loading := false } ∧ t.bit Reg.LTH_RCK 0 = false ∧ t.bit Reg.LTH_RCK 5 = true ∧
    t.bit Reg.LTH_RCK 1 = s.bit Reg.LTH_RCK 1 ∧ t.rd Reg.LTH_VAL = w32 (r * 0x1000000 + d) ∧ t.bit Reg.INT_STAT_LO 31 = true ∧
    OnlyRegsSig s t [Reg.LTH_RCK, Reg.LTH_VAL] := by
  intro t
  obtain ⟨ver, ht⟩ : ∃ ver, t = _ := lthValEnd_refuses_eq s env r d
  obtain ⟨u, hu⟩ : ∃ u, u = when (decide (r = 0x0F) && resValid d) (fun t => t.irq 58) s.lthValClosed := ⟨_, rfl⟩
  have hag : Agree 25089 s.lthValClosed u := by
    rw [hu]
    exact Agree.whenI (Agree.refl _ _) fun v hv => hv.then (State.irq_ag _ _) (by decide)
  have hw : Writes (fun a => a = Reg.LTH_RCK ∨ a = Reg.LTH_VAL) s.lthValClosed u := by
    rw [hu]
    exact (Writes.refl _ _).when ((Writes.refl _ _).irq _)
  have hrck (i : Nat) : u.bit Reg.LTH_RCK i = s.lthValClosed.bit Reg.LTH_RCK i := by
    have hsame : u.rd Reg.LTH_RCK = s.lthValClosed.rd Reg.LTH_RCK := by
      rw [hu]
      unfold when
      split
      · exact State.rd_irq _ _ _ (by decide) (by decide)
      · rfl
    unfold State.bit
    rw [hsame]
  have hbit (i : Nat) : t.bit Reg.LTH_RCK i = if 5 = i then true else s.lthValClosed.bit Reg.LTH_RCK i := by
    rw [ht, State.bit_lthLog _ _ _ _ _ _ _ (by decide), ← hu, State.bit_putBit _ _ _ _ _ _ (by decide),
      State.bit_wr_ne _ _ _ _ _ (by decide), hrck]
    simp
  refine ⟨?_, ?_, ?_, ?_, ?_, ?_, fun a ha hs => ?_⟩
  · rw [ht, (State.lthLog_ag _ _ _ _ _).lathe (by decide), (State.putBit_ag _ _ _ _).lathe (by decide), State.wr_lathe, ← hu,
      hag.lathe (by decide)]
    rfl
  · rw [hbit, if_neg (by decide), bit_lthValClosed, if_pos rfl]
  · rw [hbit, if_pos rfl]
  · rw [hbit, if_neg (by decide), bit_lthValClosed, if_neg (by decide)]
  · rw [ht, State.rd_lthLog _ _ _ _ _ _ (by decide), State.rd_putBit_ne _ _ _ _ _ (by decide), State.rd_wr, if_pos rfl]
  · rw [ht]
    exact State.int_lthLog _ _ _ _ _
  · have hall : Writes (fun a => a = Reg.LTH_RCK ∨ a = Reg.LTH_VAL) s t := by
      rw [ht, ← hu]
      exact ((((Writes.lthValClosed s).trans hw).wr _ (.inr rfl)).putBit _ _ (.inl rfl)).lthLog _ _ _ _
    exact hall.rd a (by simpa using ha) hs

end

/-! ### ARM, DISARM and REVERT (R312, R314) -/

section
variable {s : State}

/-- The tick number at which an ARM with an index in LTH_SW_AT switches (R312). -/
def State.armTick (s : State) : Option Nat :=
  if s.bit Reg.LTH_SW_AT 31 then some (s.tickNo + (s.fld Reg.LTH_SW_AT 12 0 + 4800 - s.tick.idx) % 4800) else none

theorem armTick_revertClose (cause : Nat) : (s.revertClose cause).armTick = s.armTick := by
  have hrd : (s.revertClose cause).rd Reg.LTH_SW_AT = s.rd Reg.LTH_SW_AT :=
    (State.revertClose_haltKeys s cause).rd _ (not_haltKeys_lathe (by decide) (by decide) (by decide)) (not_signals (by decide))
  unfold State.armTick State.bit State.fld State.tickNo
  rw [hrd, (State.revertClose_ag s cause).tick (by decide)]

theorem lthArm_accepted {i : LImage} (hi : s.lthImg (1 - s.lthHalf) = some i) (h1 : s.bit Reg.LTH_RCK 1 = true) (hr : s.lthRunning = true)
    (h4 : s.bit Reg.LTH_RCK 4 = false) (ha : s.fld Reg.LTH_CFG 31 30 ≠ 1 ∨ 4800 % i.turnP = 0) : s.lthArm =
    ((s.revertClose 4).lthMod (fun l => { l with armIdx := (s.revertClose 4).armTick })).putBit Reg.LTH_RCK 3 true := by
  unfold State.lthArm
  rw [hi]
  dsimp only
  rw [if_neg (by rcases ha with ha | ha <;> simp [h1, hr, h4, ha])]
  rfl

theorem lthArm_refused (h : s.lthImg (1 - s.lthHalf) = none ∨ s.bit Reg.LTH_RCK 1 = false ∨ s.lthRunning = false ∨ s.bit Reg.LTH_RCK 4 = true) :
    s.lthArm = s.lthCmdErr := by
  unfold State.lthArm
  cases hi : s.lthImg (1 - s.lthHalf) with
  | none => rfl
  | some i => exact if_pos (by simp [hi] at h; rcases h with h | h | h <;> simp [h])

/-- An accepted ARM: any revert window ends, and the switch is armed (R312). -/
theorem lthArm_shows {i : LImage} (hi : s.lthImg (1 - s.lthHalf) = some i) (h1 : s.bit Reg.LTH_RCK 1 = true) (hr : s.lthRunning = true)
    (h4 : s.bit Reg.LTH_RCK 4 = false) (ha : s.fld Reg.LTH_CFG 31 30 ≠ 1 ∨ 4800 % i.turnP = 0) : let t := s.lthArm
    t.bit Reg.LTH_RCK 3 = true ∧ t.lathe.armIdx = s.armTick ∧ t.lathe.imgs = s.lathe.imgs ∧ t.mram = s.mram := by
  intro t
  have ht : t = ((s.revertClose 4).lthMod (fun l => { l with armIdx := s.armTick })).putBit Reg.LTH_RCK 3 true := by
    rw [← armTick_revertClose 4]
    exact lthArm_accepted hi h1 hr h4 ha
  refine ⟨?_, by rw [ht]; rfl, ?_, s.lthArm_ag.mram (by decide)⟩
  · rw [ht]
    exact (State.bit_putBit _ _ _ _ _ _ (by decide)).trans (if_pos ⟨rfl, rfl⟩)
  · rw [ht]
    exact imgs_revertClose 4

/-- A pending ARM is cancelled (R312). -/
theorem armCancel_shows (cause : Nat) (h : s.bit Reg.LTH_RCK 3 = true) : let t := s.armCancel cause
    t.bit Reg.LTH_RCK 3 = false ∧ t.bit Reg.INT_STAT_LO 31 = true ∧ t.lathe = s.lathe ∧ OnlyRegsSig s t [Reg.LTH_RCK] := by
  intro t
  obtain ⟨ver, ht⟩ : ∃ ver, t = (s.putBit Reg.LTH_RCK 3 false).lthLog 0x1A8 cause ver 0 := by
    unfold t State.armCancel
    rw [if_neg (by simp [h])]
    exact ⟨_, rfl⟩
  refine ⟨?_, ?_, (s.armCancel_ag cause).lathe (by decide), fun a ha hs => ?_⟩
  · rw [ht, State.bit_lthLog _ _ _ _ _ _ _ (by decide)]
    exact (State.bit_putBit _ _ _ _ _ _ (by decide)).trans (if_pos ⟨rfl, rfl⟩)
  · rw [ht]
    exact State.int_lthLog _ _ _ _ _
  · rw [ht]
    exact (((Writes.refl (fun k => k = Reg.LTH_RCK) s).putBit _ _ rfl).lthLog _ _ _ _).rd a (by simpa using ha) hs

theorem armCancel_idle (cause : Nat) (h : s.bit Reg.LTH_RCK 3 = false) : s.armCancel cause = s := if_pos (by simp [h])

theorem lthRevert_accepted (h2 : s.bit Reg.LTH_RCK 2 = true) (hn : s.fld Reg.LTH_RCK 31 22 ≠ 0) (hr : s.lthRunning = true) :
    s.lthRevert = s.putBit Reg.LTH_RCK 4 true := if_pos (by simp [h2, hn, hr])

theorem lthRevert_refused (h : s.bit Reg.LTH_RCK 2 = false ∨ s.fld Reg.LTH_RCK 31 22 = 0 ∨ s.lthRunning = false) : s.lthRevert = s.lthCmdErr :=
  if_neg (by rcases h with h | h | h <;> simp [h])

theorem revertExpire_closes (h4 : s.bit Reg.LTH_RCK 4 = false) (hn : s.fld Reg.LTH_RCK 31 22 = 0) : s.revertExpire = s.revertClose 1 :=
  if_pos (by simp [h4, hn])

theorem revertExpire_waits (h : s.bit Reg.LTH_RCK 2 = false ∨ s.bit Reg.LTH_RCK 4 = true ∨ s.fld Reg.LTH_RCK 31 22 ≠ 0) : s.revertExpire = s := by
  rcases h with h | h
  · unfold State.revertExpire
    rw [revertClose_shut 1 h, ite_self]
  · exact if_neg (by rcases h with h | h <;> simp [h])

end

/-! ### Starts (R315, R316) -/

section
variable (s : State) (i : LImage) (warm : Option Nat)

/-- The keys of Lathe's memory and of the memories behind it. -/
def MemoryKeys (a : Nat) : Prop := 0xA0000000 ≤ a

theorem Writes.lthWipe {t : State} (h : Writes MemoryKeys s t) (half off hi : Nat) : Writes MemoryKeys s (t.wipeKeys (lthDmem half off) hi) :=
  h.dropRegs fun a ha => by
    have hlo : lthDmem half off ≤ a := of_decide_eq_true (Bool.and_eq_true_iff.mp ha).1
    unfold lthDmem at hlo
    unfold MemoryKeys
    omega

theorem Writes.lthWords {t : State} (h : Writes MemoryKeys s t) (half off : Nat) (ws : List Word) :
    Writes MemoryKeys s (t.wrWords (lthDmem half off) ws) :=
  h.wrWords _ _ fun a ha => by
    unfold lthDmem at ha
    unfold MemoryKeys
    omega

theorem startMemory_writes : Writes MemoryKeys s (s.startMemory i warm) := by
  have hsecs : Writes MemoryKeys s (i.secs.foldl (fun u x => u.wrWords (lthDmem s.lthHalf x.1) x.2)
      (s.wipeKeys (lthDmem s.lthHalf 0) (lthDmem s.lthHalf 0x100000))) :=
    ((Writes.refl _ s).lthWipe s _ _ _).foldl fun u x _ hu => hu.lthWords s _ _ _
  unfold State.startMemory
  cases warm with
  | none => exact hsecs.of_agree (State.lthMod_ag _ _) (by decide)
  | some c =>
    exact ((hsecs.of_agree (State.lthMod_ag _ _) (by decide)).lthWords s _ _ _).foldl fun u x _ hu => hu.of_agree (State.setLtmr_ag _ _ _ _) (by decide)

/-- No publisher has been seen since the start. -/
def State.gooseUnseen : State := (List.range 128).foldl (fun u e => u.putBit (gseKey e 6) 0 false) s

theorem gooseUnseen_writes : Writes MemoryKeys s s.gooseUnseen :=
  (Writes.refl _ s).foldl fun u e _ hu => hu.putBit _ _ (by unfold MemoryKeys gseKey; omega)

theorem gooseUnseen_ag : Agree 1 s s.gooseUnseen := (Agree.refl 1 s).foldl fun u e hu => hu.then (State.putBit_ag _ _ _ _) (by decide)

/-- LTH_STAT shows the start: running, its kind, and no reason for a halt. -/
def State.statStarted (kind : Nat) : State := ((s.put Reg.LTH_STAT 31 30 1).put Reg.LTH_STAT 29 28 kind).put Reg.LTH_STAT 27 26 0

/-- LTH_RET shows the size of the retained partition and which copies are valid. -/
def State.retStarted (va vb : Bool) : State := ((s.wr Reg.LTH_RET (w32 (i.pages * 256))).putBit Reg.LTH_RET 0 va).putBit Reg.LTH_RET 1 vb

theorem statStarted_shows {kind : Nat} (hk : kind < 4) : let t := s.statStarted kind
    t.lthState = 1 ∧ t.fld Reg.LTH_STAT 29 28 = kind ∧ t.fld Reg.LTH_STAT 27 26 = 0 ∧ t.lthHalf = s.lthHalf := by
  simp only [State.statStarted, State.lthState, State.lthHalf]
  have hstay (u : State) (hi lo v hi' lo' : Nat) (h : hi < 32 ∧ lo ≤ hi ∧ (hi' < lo ∨ hi < lo') ∧ lo' ≤ hi') :
      (u.put Reg.LTH_STAT hi lo v).fld Reg.LTH_STAT hi' lo' = u.fld Reg.LTH_STAT hi' lo' :=
    State.fld_put_apart _ _ _ _ _ _ _ _ h.1 h.2.1 h.2.2.1 h.2.2.2
  refine ⟨?_, ?_, State.fld_put_same _ _ _ _ _ (by decide) (by decide), ?_⟩
  · rw [hstay _ _ _ _ _ _ (by decide), hstay _ _ _ _ _ _ (by decide)]
    exact State.fld_put_same _ _ _ _ _ (by decide) (by decide)
  · rw [hstay _ _ _ _ _ _ (by decide)]
    exact (State.fld_put_same _ _ _ _ _ (by decide) (by decide)).trans (Nat.mod_eq_of_lt hk)
  · rw [hstay _ _ _ _ _ _ (by decide), hstay _ _ _ _ _ _ (by decide), hstay _ _ _ _ _ _ (by decide)]

/-- The output words at a start drive no Lathe bit. -/
theorem rd_lthBits_lthDrive (ws : List Word) : (s.lthDrive ws).rd Reg.LTH_BITS =
    (ws.zipIdx.foldl (fun t p => t.wr (lthOutKey p.2) p.1) s).rd (lthOutKey 2) := by
  have hline (u : State) : u.fioDrive.tlStep.rd Reg.LTH_BITS = u.rd Reg.LTH_BITS :=
    ((fioDrive_lineKeys u).trans (tlStep_lineKeys _)).rd _ (not_lineKeys_lathe (by decide)) (not_signals (by decide))
  unfold State.lthDrive
  rw [hline, State.rd_wr, if_pos rfl]

/-- What a start makes of Lathe's record: no turn has begun, and both copies are to be flushed whole. -/
def AtStart (l : LatheU) : Prop := l.turn = 0 ∧ l.ran = false ∧ l.phase = .none ∧ l.flushAll = 2

/-- The state in which a start drives its outputs. -/
def State.startShown (f : LatheU → LatheU) (kind : Nat) (va vb : Bool) : State :=
  ((((s.startMemory i warm).lthMod f).gooseUnseen.statStarted kind).retStarted i va vb).wr Reg.LTH_TURN_LO 0

theorem lthStartAs_eq : ∃ f va vb seq, (∀ l, AtStart (f l)) ∧ s.lthStartAs i warm =
    ((s.startShown i warm f (if warm.isSome then 1 else 2) va vb).lthDrive [0, 0, 0]).lthLog 0x1A2 (if warm.isSome then 1 else 2) i.ver seq :=
  ⟨_, _, _, _, fun _ => ⟨rfl, rfl, rfl, rfl⟩, rfl⟩

variable {s i warm}

theorem startShown_shows {f : LatheU → LatheU} (hf : ∀ l, AtStart (f l)) {kind : Nat} (hk : kind < 4) (va vb : Bool) :
    let t := s.startShown i warm f kind va vb
    t.lthState = 1 ∧ t.fld Reg.LTH_STAT 29 28 = kind ∧ t.fld Reg.LTH_STAT 27 26 = 0 ∧ t.lthHalf = s.lthHalf ∧ AtStart t.lathe ∧
    t.rd Reg.LTH_TURN_LO = 0 := by
  intro t
  obtain ⟨u, hu⟩ : ∃ u, u = ((s.startMemory i warm).lthMod f).gooseUnseen := ⟨_, rfl⟩
  have hmem : Writes MemoryKeys s u := by
    rw [hu]
    exact ((startMemory_writes s i warm).of_agree (State.lthMod_ag _ _) (by decide)).trans (gooseUnseen_writes _)
  have hlathe : u.lathe = f (s.startMemory i warm).lathe := by
    rw [hu]
    exact (gooseUnseen_ag _).lathe (by decide)
  have hkeep : Writes (fun a => a = Reg.LTH_RET ∨ a = Reg.LTH_TURN_LO) (u.statStarted kind) t := by
    unfold t State.startShown
    rw [← hu]
    exact ((((Writes.refl _ _).wr _ (.inl rfl)).putBit _ _ (.inl rfl)).putBit _ _ (.inl rfl)).wr _ (.inr rfl)
  have hfld (hi lo : Nat) : t.fld Reg.LTH_STAT hi lo = (u.statStarted kind).fld Reg.LTH_STAT hi lo :=
    hkeep.fld hi lo (by decide) (not_signals (by decide))
  obtain ⟨hrun, hkind, hcause, hhalf⟩ := statStarted_shows u hk
  refine ⟨(hfld 31 30).trans hrun, (hfld 29 28).trans hkind, (hfld 27 26).trans hcause,
    (hfld 25 25).trans (hhalf.trans (lthHalf_of_writes hmem (by unfold MemoryKeys; decide))), ?_, (State.rd_wr _ _ _ _).trans (if_pos rfl)⟩
  have ht : t.lathe = u.lathe := by
    unfold t State.startShown
    rw [← hu]
    rfl
  rw [ht, hlathe]
  exact hf _

/-- What a start shows (R315): Lathe runs from turn 0, its half stays, and its outputs are zero. -/
theorem lthStartAs_shows {kind : Nat} (hk : (if warm.isSome then 1 else 2) = kind) : let t := s.lthStartAs i warm
    t.lthState = 1 ∧ t.fld Reg.LTH_STAT 29 28 = kind ∧ t.fld Reg.LTH_STAT 27 26 = 0 ∧ t.lthHalf = s.lthHalf ∧
    t.lathe.turn = 0 ∧ t.lathe.ran = false ∧ t.lathe.phase = .none ∧ t.lathe.flushAll = 2 ∧ t.rd Reg.LTH_TURN_LO = 0 ∧
    t.rd Reg.LTH_BITS = 0 ∧ t.bit Reg.INT_STAT_LO 30 = true ∧ t.mram = s.mram := by
  intro t
  obtain ⟨f, va, vb, seq, hf, he⟩ := lthStartAs_eq s i warm
  rw [hk] at he
  have hk4 : kind < 4 := by
    rw [← hk]
    split <;> decide
  obtain ⟨u, hu⟩ : ∃ u, u = s.startShown i warm f kind va vb := ⟨_, rfl⟩
  have ht : t = (u.lthDrive [0, 0, 0]).lthLog 0x1A2 kind i.ver seq := by
    rw [hu]
    exact he
  obtain ⟨hrun, hkind, hcause, hhalf, hstart, hturn⟩ := startShown_shows (s := s) (i := i) (warm := warm) hf hk4 va vb
  rw [← hu] at hrun hkind hcause hhalf hstart hturn
  have hw : Writes HaltKeys u t := by
    rw [ht]
    exact (State.lthDrive_haltKeys u _).trans (State.lthLog_haltKeys _ _ _ _ _)
  have hfld (hi lo : Nat) : t.fld Reg.LTH_STAT hi lo = u.fld Reg.LTH_STAT hi lo :=
    hw.fld hi lo (not_haltKeys_lathe (by decide) (by decide) (by decide)) (not_signals (by decide))
  have hlathe : t.lathe = u.lathe := by
    rw [ht, (State.lthLog_ag _ _ _ _ _).lathe (by decide), (State.lthDrive_ag _ _).lathe (by decide)]
  obtain ⟨h0, hran, hphase, hall⟩ := hstart
  rw [hlathe]
  refine ⟨(hfld 31 30).trans hrun, (hfld 29 28).trans hkind, (hfld 27 26).trans hcause, (hfld 25 25).trans hhalf, h0, hran, hphase, hall,
    (hw.rd _ (not_haltKeys_lathe (by decide) (by decide) (by decide)) (not_signals (by decide))).trans hturn, ?_, ?_,
    (s.lthStartAs_ag i warm).mram (by decide)⟩
  · rw [ht, State.rd_lthLog _ _ _ _ _ _ (by decide), rd_lthBits_lthDrive]
    exact (State.rd_wr _ _ _ _).trans (if_pos rfl)
  · rw [ht]
    exact State.int_lthLog _ _ _ _ _

theorem lthStart_running (h : s.lthRunning = true) : s.lthStart = s := if_pos h

theorem lthStart_without_image (hr : s.lthRunning = false) (h1 : s.bit Reg.LTH_RCK 1 = false) (hi : s.lthImg s.lthHalf = none) :
    s.lthStart = s.lthCmdErr := by
  unfold State.lthStart
  simp only [hr, h1, hi, Bool.false_eq_true, if_false]

/-- A start of a stopped Lathe with an image in the active half, none pending, and a period that its alignment allows. -/
theorem lthStart_eq (hr : s.lthRunning = false) (h1 : s.bit Reg.LTH_RCK 1 = false) (hi : s.lthImg s.lthHalf = some i)
    (ha : s.fld Reg.LTH_CFG 31 30 ≠ 1 ∨ 4800 % i.turnP = 0) : s.lthStart =
    (s.warmCopy i).elim
      (if s.fld Reg.LTH_CTRL 31 30 = 1 then (s.putBit Reg.LTH_STAT 24 true).lthLog 0x1A2 0 i.ver 0 else s.lthStartAs i none)
      (fun c => s.lthStartAs i (if s.fld Reg.LTH_CTRL 31 30 = 2 then none else some c)) := by
  have ha' : ¬ (s.fld Reg.LTH_CFG 31 30 = 1 ∧ 4800 % i.turnP ≠ 0) := by tauto
  unfold State.lthStart
  simp only [hr, h1, hi, ha', Bool.false_eq_true, if_false]
  cases s.warmCopy i <;> rfl

/-- A warm start without a copy that fits is refused and recorded (R316). -/
theorem warmRefused_shows (ver : Nat) : let t := (s.putBit Reg.LTH_STAT 24 true).lthLog 0x1A2 0 ver 0
    t.bit Reg.LTH_STAT 24 = true ∧ t.lthState = s.lthState ∧ t.lathe = s.lathe ∧ OnlyRegsSig s t [Reg.LTH_STAT] := by
  intro t
  refine ⟨?_, ?_, (State.lthLog_ag _ _ _ _ _).lathe (by decide), fun a ha hs => ?_⟩
  · rw [State.bit_lthLog _ _ _ _ _ _ _ (by decide)]
    exact (State.bit_putBit _ _ _ _ _ _ (by decide)).trans (if_pos ⟨rfl, rfl⟩)
  · unfold State.lthState State.fld
    rw [State.rd_lthLog _ _ _ _ _ _ (by decide)]
    exact State.fld_putBit_apart s Reg.LTH_STAT Reg.LTH_STAT 24 true 31 30 (by decide) (by decide) (by decide)
  · exact (((Writes.refl (fun k => k = Reg.LTH_STAT) s).putBit _ _ rfl).lthLog _ _ _ _).rd a (by simpa using ha) hs

end

/-- Settles O41: each command of Rechuck and each start by the lemma of its outcome. -/
theorem latheImagesAndStarts : Obligations.LatheImagesAndStarts := by
  unfold Obligations.LatheImagesAndStarts
  intro s l h rck Refused Started
  have refused {i : Instr} (he : exec i s = .next s.lthCmdErr) : Refused i := ⟨_, he, lthCmdErr_shows s⟩
  refine ⟨fun hb => ?_, fun h0 h3 => ?_, fun hload => ?_, fun i hi h1 hr h4 ha => ?_, fun hb => ?_, fun h3 => ?_, fun h3 => ?_,
    fun h2 hn hr => ?_, fun hb => ?_, fun h2 h4 hn => ?_, fun hb => ?_, fun hr => ?_, fun hr h1 hi => ?_, fun i hr h1 hi ha => ?_⟩
  · exact refused (congrArg Host.Outcome.next (lthLoad_refused s hb))
  · obtain ⟨hl, hbase, hb0, hb1, hother, hthis⟩ := lthLoad_shows s rfl h0 h3
    exact ⟨_, rfl, hl, hbase, hb0, hb1, hother, hthis, (State.lthLoad_ag s).eq_claimsEnd⟩
  · have hv : s.lthValidated = s.lthValEnd l.loadBase (s.lthVerdict l.loadBase) := if_neg (by simpa [l] using hload)
    refine ⟨_, congrArg Host.Outcome.next hv, ?_⟩
    cases s.lthVerdict l.loadBase with
    | none =>
      obtain ⟨hl, hb0, hb1, hother, hthis, hval, honly, hframe⟩ := lthValEnd_accepts s l.loadBase
      exact ⟨hl, hb0, fun a ha _ => honly a ha, fun _ => ⟨hb1, hother, hthis, hval, honly, hframe⟩, fun _ _ e => nomatch e⟩
    | some v =>
      obtain ⟨hl, hb0, hb5, hb1, hval, hint, honly⟩ := lthValEnd_refuses s l.loadBase v.1 v.2
      refine ⟨congrArg LatheU.loading hl, hb0, honly, nofun, fun r d e => ?_⟩
      obtain rfl := Option.some.inj e
      exact ⟨hb5, hb1, hval, hint, (congrArg LatheU.imgs hl).trans rfl⟩
  · exact ⟨_, rfl, lthArm_shows hi h1 hr h4 ha⟩
  · exact refused (congrArg Host.Outcome.next (lthArm_refused hb))
  · exact ⟨_, rfl, armCancel_shows 1 h3⟩
  · exact congrArg Host.Outcome.next (armCancel_idle 1 h3)
  · exact ⟨_, congrArg Host.Outcome.next (lthRevert_accepted h2 hn hr), (State.bit_putBit _ _ _ _ _ _ (by decide)).trans (if_pos ⟨rfl, rfl⟩),
      (OnlyRegs.refl s _).wr _ (by simp), (State.putBit_ag _ _ _ _).eq_regs⟩
  · exact refused (congrArg Host.Outcome.next (lthRevert_refused hb))
  · obtain ⟨hb2, hb4, hl, hint⟩ := revertClose_shows 1 h2
    exact ⟨_, congrArg Host.Outcome.next (revertExpire_closes h4 hn), hb2, hb4, hl, hint, ((State.revertClose_ag s 1).mono (by decide)).eq_claimsEnd⟩
  · exact congrArg Host.Outcome.next (revertExpire_waits hb)
  · exact congrArg Host.Outcome.next (lthStart_running hr)
  · exact refused (congrArg Host.Outcome.next (lthStart_without_image hr h1 hi))
  · have he := lthStart_eq hr h1 hi ha
    refine ⟨fun c hc hm => ?_, fun hc hm => ?_, fun hc hm => ?_⟩ <;> rw [hc] at he
    · exact ⟨_, congrArg Host.Outcome.next (he.trans (congrArg (s.lthStartAs i) (if_neg hm))), lthStartAs_shows rfl⟩
    · exact ⟨_, congrArg Host.Outcome.next (he.trans (if_neg hm)), lthStartAs_shows rfl⟩
    · exact ⟨_, congrArg Host.Outcome.next (he.trans (if_pos hm)), warmRefused_shows i.ver⟩

end Sys2Proof.Machine
end

section
/-!
A record that stays unclosed at its REC_CLOSE (chapter 10: R327, R334, R338).
-/
namespace Sys2Proof.Machine
open Sys2Proof

/-! ### The close of a record with a failed header write -/

section
variable (s : State) (i : Nat)

theorem rcu_recShow (n : Nat) : (s.recShow i).rcu n = s.rcu n := by
  unfold State.rcu
  rw [(s.recShow_ag i).recs (by decide)]

/-- A record that stays unclosed is not held. -/
theorem held_recUnclosed (x : RecRec) : ((s.recUnclosed i x).rcu i).held = (s.rcu i).held := by
  simp [State.recUnclosed, State.rcuMod]

variable {s i} {x : RecRec}

theorem recClose_eq (h : (s.rcu i).recs.find? (fun r => r.wbWait.isEmpty) = some x) : s.recClose i true = s.recCloseIt i x := by
  unfold State.recClose
  simp only [h, if_true]

theorem recCloseIt_unclosed (hx : x.unclosed = true) : s.recCloseIt i x = (s.recUnclosed i x).recShow i := if_pos hx

/-- REC_CLOSE holds no further record where a header write of its record has failed. -/
theorem held_recClose_unclosed (h : (s.rcu i).recs.find? (fun r => r.wbWait.isEmpty) = some x) (hx : x.unclosed = true) :
    ((s.recClose i true).rcu i).held = (s.rcu i).held := by
  rw [recClose_eq h, recCloseIt_unclosed hx, rcu_recShow, held_recUnclosed]

end

/-! ### The counterexample -/

/-- A record of one frame in segment 0 whose trigger part could not be written (R327). -/
def headerlessRecord : RecRec :=
  { id := 1, start := 0, stop := 1, chain := [0], segOrd := 0, sf := 4678, retrig := 0, flags := 0, wbWait := [], wbHeld := [], unclosed := true }

/-- The window of REC_0's record has ended, and no WB copy is awaited: its close is due. -/
def closeDue : State := State.reset.setRcu 0 { RecU.init with use := [(0, 2)], openSeq := 2, next := 1, ord := 1, recs := [headerlessRecord] }

theorem closeDue_finds : (closeDue.rcu 0).recs.find? (fun r => r.wbWait.isEmpty) = some headerlessRecord := rfl

/-- Refutes O43: the clause on REC_CLOSE has every record whose window and WB copies have ended closed and held, with an interrupt. One of
whose header writes has failed stays unclosed until the recorder's next start (R327), and the clause does not ask that none has. -/
theorem not_recorderRecordsAndCopies : ¬ Obligations.RecorderRecordsAndCopies := by
  unfold Obligations.RecorderRecordsAndCopies
  rintro ⟨hrecords, -⟩
  obtain ⟨-, -, -, -, -, -, -, -, hclose, -⟩ := hrecords closeDue 0 .host
  obtain ⟨⟨t, ht, -, hheld, -⟩, -⟩ := hclose headerlessRecord closeDue_finds
  have hnext : closeDue.recClose 0 true = t := Host.Outcome.next.inj ht
  have hkeeps : (t.rcu 0).held = (closeDue.rcu 0).held := hnext ▸ held_recClose_unclosed closeDue_finds rfl
  exact List.cons_ne_nil _ _ (List.self_eq_append_right.mp (hkeeps.symm.trans hheld))

end Sys2Proof.Machine
end

section
/-!
The edge taps that a stop of a Blaze sequencer releases (chapter 10: R347, R353).
-/
namespace Sys2Proof

/-- In canonical form an entry is what its key reads as. -/
theorem SMap.get_of_mem {α : Type} (d : Nat → α) {m : SMap α} {lo k : Nat} {v : α} (hm : SMap.sortedFrom lo m = true) (h : (k, v) ∈ m) :
    SMap.get d m k = v := by
  induction m generalizing lo with
  | nil => cases h
  | cons e m ih =>
    obtain ⟨a, x⟩ := e
    simp only [SMap.sortedFrom, Bool.and_eq_true] at hm
    rcases List.mem_cons.mp h with he | h
    · obtain ⟨rfl, rfl⟩ := Prod.mk.inj he
      exact if_pos rfl
    · have hk : a + 1 ≤ k := SMap.sortedFrom_keys m _ hm.2 _ h
      exact (if_neg (by omega)).trans (ih hm.2 h)

/-- A value that an unlisted key does not have is listed. -/
theorem SMap.mem_of_get_ne {α : Type} (d : Nat → α) {m : SMap α} {k : Nat} (h : SMap.get d m k ≠ d k) : (k, SMap.get d m k) ∈ m := by
  induction m with
  | nil => exact absurd rfl h
  | cons e m ih =>
    obtain ⟨a, x⟩ := e
    by_cases ha : a = k
    · subst ha
      simp [SMap.get]
    · have hget : SMap.get d ((a, x) :: m) k = SMap.get d m k := if_neg ha
      rw [hget] at h ⊢
      exact List.mem_cons_of_mem _ (ih h)

end Sys2Proof

namespace Sys2Proof.Machine
open Sys2Proof

/-! ### The claims after a stop -/

section
variable (s : State) (i p : Nat)

theorem claim_foldl_free (l : List Nat) : (l.foldl (fun t r => t.setClaim r Claim.free) s).claim p = if p ∈ l then Claim.free else s.claim p := by
  induction l generalizing s with
  | nil => rfl
  | cons x l ih =>
    rw [List.foldl_cons, ih, State.claim_setClaim]
    by_cases hx : x = p
    · simp [hx]
    · simp [hx, Ne.symm hx]

/-- A stop frees every resource that an entry of the claims lists under the sequencer's owner. -/
theorem claim_blzStop : (s.blzStop i).claim p = if p ∈ s.ownedBy (0x20 + i) then Claim.free else s.claim p :=
  claim_foldl_free _ p _

variable {s p}

/-- Where the claims are in canonical form, these are the resources that the owner holds. -/
theorem mem_ownedBy_iff {owner : Nat} (hs : SMap.wf (fun _ => Claim.free) s.claims = true) (ho : owner ≠ 0) :
    p ∈ s.ownedBy owner ↔ s.owner p = owner := by
  have hsorted := (Bool.and_eq_true_iff.mp hs).1
  simp only [State.ownedBy, List.mem_map, List.mem_filter, decide_eq_true_eq]
  constructor
  · rintro ⟨⟨k, c⟩, ⟨hmem, hc⟩, rfl⟩
    exact (congrArg Claim.owner (SMap.get_of_mem _ hsorted hmem)).trans hc
  · intro hp
    refine ⟨(p, s.claim p), ⟨SMap.mem_of_get_ne _ fun hfree => ho ?_, hp⟩, rfl⟩
    exact hp.symm.trans (congrArg Claim.owner hfree)

/-- What the clause refuted below says of the claims holds where they are in canonical form: a stop frees the sequencer's own and no other. -/
theorem claim_blzStop_of_wf (hs : SMap.wf (fun _ => Claim.free) s.claims = true) :
    (s.blzStop i).claim p = if s.owner p = 0x20 + i then Claim.free else s.claim p := by
  rw [claim_blzStop]
  exact if_congr (mem_ownedBy_iff hs (by omega)) rfl rfl

end

/-! ### The counterexample -/

/-- The host owns REC_0 and the edge tap of FIO_0, and a second entry of the claims lists that tap under the owner code of the sequencer of
REC_0; a read of the claims finds the first. -/
def tapListedTwice : State :=
  { State.reset with
    hbiReady := true
    claims := [(0x5000, { owner := 0x04, tag := 0 }), (0x8000, { owner := 0x04, tag := 0 }), (0x8000, { owner := 0x20, tag := 0 })] }

/-- The host may stop the sequencer, the tap is the host's, and the stop frees it. -/
theorem tapListedTwice_stop : tapListedTwice.served .host = true ∧ tapListedTwice.mayWrite .host 0x5000 = true ∧
    tapListedTwice.claim 0x8000 = { owner := 0x04, tag := 0 } ∧ (tapListedTwice.blzStop 0).claim 0x8000 = Claim.free :=
  ⟨rfl, by decide, rfl, (claim_blzStop _ _ _).trans (if_pos (by decide))⟩

theorem exec_blzRunStop {s : State} {r : Req} {j : Fin 4} (hs : s.served r = true) (hm : s.mayWrite r (0x5000 + j.val) = true) :
    exec (.blzRunStop r j) s = .next (s.blzStop j.val) :=
  (access_served s r (f := fun s => s.recGuard r j.val 0x44 0 (fun s => s.blzStop j.val)) hs).trans (congrArg Host.Outcome.next (if_pos hm))

/-- Refutes O44: the clause on a stop of the sequencer has every claim of another owner kept, over all states. The claims of a state are a list, and
the stop frees what any entry lists under the sequencer; where a key is listed twice that can be a tap whose claim reads as another owner's.
No run from the reset reaches such a list, as `setClaim`, which alone writes claims, keeps the canonical form; but the clause does not ask for
that form, under which it holds (`claim_blzStop_of_wf`). -/
theorem not_blazeGaugesAndExport : ¬ Obligations.BlazeGaugesAndExport := by
  unfold Obligations.BlazeGaugesAndExport
  intro h
  obtain ⟨hserved, hmay, htap, hfreed⟩ := tapListedTwice_stop
  obtain ⟨-, -, -, -, hstop, -⟩ := h tapListedTwice 0 0 0 .host 0 0 0
  obtain ⟨t, ht, -, -, -, hkeeps, -⟩ := hstop hmay hserved
  have hnext : tapListedTwice.blzStop 0 = t := Host.Outcome.next.inj ((exec_blzRunStop (j := 0) hserved hmay).symm.trans ht)
  have hother : tapListedTwice.owner 0x8000 ≠ 0x20 := by rw [State.owner, htap]; decide
  have hkept : (tapListedTwice.blzStop 0).claim 0x8000 = tapListedTwice.claim 0x8000 := hnext ▸ hkeeps 0x8000 hother
  rw [hfreed, htap] at hkept
  exact absurd hkept (by decide)

end Sys2Proof.Machine
end

section
/-!
A request for a clear while an accepted clear waits for the start-up scan (chapter 11: R384 to R387, log entry 205).
-/
namespace Sys2Proof.Machine
open Sys2Proof

/-! ### What a REQUEST does with a key that is not revoked and no lockout -/

section
variable {s : State} {r : Req} {k : Nat} {rv : Bool}

/-- A clear that runs or waits refuses the REQUEST (log entry 205). -/
theorem clearRequest_clear_pending (hl : s.lockedOut = false) (hk : s.keyRevoked k = false)
    (hc : s.tally.front.isSome ∨ s.tally.clrWait.isSome) : s.clearRequest r k rv = s.clrCmdErr := by
  unfold State.clearRequest
  simp only [hl, hk, hc, Bool.false_eq_true, if_false, if_true]

/-- With no clear running or waiting, and another key left where it is a revocation, the REQUEST opens a nonce for ten seconds (R385, R388):
the clause refuted below, with what its hypotheses leave out. -/
theorem tally_clearRequest (hl : s.lockedOut = false) (hk : s.keyRevoked k = false) (hf : s.tally.front = none) (hw : s.tally.clrWait = none)
    (hrv : rv = false ∨ ∃ m, m < 4 ∧ m ≠ k ∧ s.keyRevoked m = false) :
    (s.clearRequest r k rv).tally =
      { s.tally with nonce := some { req := r, key := k, revoke := rv, expires := s.tb.cnt + 2500000000 } } := by
  have hidle : ¬ (s.tally.front.isSome ∨ s.tally.clrWait.isSome) := by simp [hf, hw]
  have hleft : ¬ (rv ∧ (List.range 4).all (fun j => decide (j = k) || s.keyRevoked j)) := by
    rintro ⟨hr, hall⟩
    obtain hno | ⟨m, hm, hne, hkept⟩ := hrv
    · exact Bool.false_ne_true (hno.symm.trans hr)
    · have := List.all_eq_true.mp hall m (List.mem_range.mpr hm)
      simp [hne, hkept] at this
  unfold State.clearRequest
  simp only [hl, hk, if_neg hidle, if_neg hleft, Bool.false_eq_true, if_false]
  rfl

theorem exec_tallyClearRequest {key : Fin 4} (hs : s.served r = true) :
    exec (.tallyClearRequest r key rv) s = .next (s.clearRequest r key.val rv) :=
  access_served s r (f := fun s => s.clearRequest r key.val rv) hs

end

/-! ### The counterexample -/

/-- What an accepted CONFIRM of the host with key 0 leaves while Tally still scans after a reset (R384): the clear waits for the scan. -/
def clearAwaitsScan : State := { State.reset with hbiReady := true }.clearAccept 0

/-- The host's REQUEST with key 0 meets every premise of the refuted clause, and its clear waits. -/
theorem clearAwaitsScan_shows : clearAwaitsScan.served .host = true ∧ clearAwaitsScan.lockedOut = false ∧
    clearAwaitsScan.keyRevoked 0 = false ∧ clearAwaitsScan.tally.front = none ∧ clearAwaitsScan.tally.clrWait = some 0 :=
  ⟨rfl, rfl, by decide, rfl, rfl⟩

/-- Refutes O45: the clause on an accepted REQUEST has the nonce opened wherever no lockout, no revoked key and no running erase stands against
it. A clear accepted during the start-up scan waits for the scan's end (R384) without an erase front, and a REQUEST meanwhile is refused with
CMD_ERR (log entry 205). The clause does not ask that no clear waits; where none does, the nonce is opened (`tally_clearRequest`). -/
theorem not_tallyRecordsScanClearing : ¬ Obligations.TallyRecordsScanClearing := by
  unfold Obligations.TallyRecordsScanClearing
  rintro ⟨-, hclearing⟩
  obtain ⟨hserved, hlock, hkey, hfront, hwait⟩ := clearAwaitsScan_shows
  obtain ⟨-, -, -, -, -, -, -, hrequest, -⟩ := hclearing clearAwaitsScan .host 0 false
  obtain ⟨t, ht, hnonce, -⟩ := hrequest hlock hkey hfront (.inl rfl) hserved
  have hexec : exec (.tallyClearRequest .host 0 false) clearAwaitsScan = .next clearAwaitsScan.clrCmdErr :=
    (exec_tallyClearRequest hserved).trans (congrArg Host.Outcome.next (clearRequest_clear_pending hlock hkey (.inr (by simp [hwait]))))
  have hrefused : clearAwaitsScan.clrCmdErr = t := Host.Outcome.next.inj (hexec.symm.trans ht)
  have hnone : t.tally.nonce = none := by
    rw [← hrefused, (State.clrCmdErr_ag _).tally (by decide)]
    rfl
  exact Option.some_ne_none _ ((congrArg TallyU.nonce hnonce).symm.trans hnone)

end Sys2Proof.Machine
end

section
/-!
What every step keeps (spec/95): the canonical form of memory, the queue behind the command taken, and that a next state is answered.
-/
namespace Sys2Proof.Machine
open Sys2Proof

/-- An outcome of a command on s answers a next state, in which memory stays canonical and the queue stays as it is. -/
structure Keeps (s : State) (o : Host.Outcome State Fault Refusal) : Prop where
  next : ∃ t, o = .next t
  wf : ∀ t, o = .next t → Memory.wf s = true → Memory.wf t = true
  pending : ∀ t, o = .next t → t.pending = s.pending

/-- Whether an outcome is a next state. -/
def answersNext : Host.Outcome State Fault Refusal → Bool
  | .next _ => true
  | _ => false

theorem Keeps.of_agree {m : Nat} {s : State} {o : Host.Outcome State Fault Refusal} (h : ∀ t, o = .next t → Agree m s t) (ho : answersNext o = true)
    (hm : m.testBit 50 = false) : Keeps s o where
  next := by
    cases o with
    | next t => exact ⟨t, rfl⟩
    | fault | refused => exact absurd ho Bool.false_ne_true
  wf t ht := (h t ht).wf
  pending t ht := (h t ht).pending hm

/-- Every command answers a next state with canonical memory and the same queue: each by the frame of its own operation. -/
theorem exec_keeps (i : Instr) (s : State) : Keeps s (exec i s) := by
  cases i with
  | aflFrame => exact .of_agree (execAflFrame_ag _ _ _ _ _) rfl rfl
  | dieLinkDown => exact .of_agree (execDieLinkDown_ag _ _) rfl rfl
  | mramAccessRequest => exact .of_agree (execMramAccessRequest_ag _ _ _ _ _ _ _) rfl rfl
  | mplTransferEnd => exact .of_agree (execMplTransferEnd_ag _ _ _ _ _) rfl rfl
  | flkFrameToField => exact .of_agree (execFlkFrameToField_ag _ _) rfl rfl
  | flkFrameFromField => exact .of_agree (execFlkFrameFromField_ag _ _ _) rfl rfl
  | flkDown => exact .of_agree (execFlkDown_ag _) rfl rfl
  | claimCmdClaim => exact .of_agree (execClaimCmdClaim_ag _ _ _) rfl rfl
  | claimCmdRelease => exact .of_agree (execClaimCmdRelease_ag _ _ _) rfl rfl
  | claimCmdQuery => exact .of_agree (execClaimCmdQuery_ag _ _ _) rfl rfl
  | tickStart => exact .of_agree (execTickStart_ag _) rfl rfl
  | regionTickArrival => exact .of_agree (execRegionTickArrival_ag _ _ _) rfl rfl
  | elementPhaseStart => exact .of_agree (execElementPhaseStart_ag _ _) rfl rfl
  | wtick => exact .of_agree (execWtick_ag _ _ _ _ _) rfl rfl
  | elementDeadline => exact .of_agree (execElementDeadline_ag _ _) rfl rfl
  | clusterFaultClearWrite => exact .of_agree (execClusterFaultClearWrite_ag _ _) rfl rfl
  | clusterFaultLift => exact .of_agree (execClusterFaultLift_ag _ _) rfl rfl
  | ovrCfgWrite => exact .of_agree (execOvrCfgWrite_ag _ _ _) rfl rfl
  | tickIdxRead => exact .of_agree (execTickIdxRead_ag _ _) rfl rfl
  | stitchSample => exact .of_agree (execStitchSample_ag _ _) rfl rfl
  | coarseOverload => exact .of_agree (execCoarseOverload_ag _ _ _ _ _) rfl rfl
  | afePllUnlock => exact .of_agree (execAfePllUnlock_ag _) rfl rfl
  | afePllRelock => exact .of_agree (execAfePllRelock_ag _) rfl rfl
  | afeRecheck => exact .of_agree (execAfeRecheck_ag _ _) rfl rfl
  | afeCheckDone => exact .of_agree (execAfeCheckDone_ag _ _ _ _ _ _) rfl rfl
  | calWindowEnd => exact .of_agree (execCalWindowEnd_ag _ _) rfl rfl
  | calUpdate => exact .of_agree (execCalUpdate_ag _ _) rfl rfl
  | calCfgWrite => exact .of_agree (execCalCfgWrite_ag _ _ _) rfl rfl
  | trimWrite => exact .of_agree (execTrimWrite_ag _ _ _ _) rfl rfl
  | trimApply => exact .of_agree (execTrimApply_ag _ _) rfl rfl
  | stcCtrlWrite => exact .of_agree (execStcCtrlWrite_ag _ _ _) rfl rfl
  | stcModeApply => exact .of_agree (execStcModeApply_ag _ _) rfl rfl
  | stcThrDnWrite => exact .of_agree (execStcThrDnWrite_ag _ _ _) rfl rfl
  | clSrcWrite => exact .of_agree (execClSrcWrite_ag _ _ _) rfl rfl
  | srcChange => exact .of_agree (execSrcChange_ag _ _) rfl rfl
  | recSampleComplete => exact .of_agree (execRecSampleComplete_ag _ _) rfl rfl
  | wbSample => exact .of_agree (execWbSample_ag _ _) rfl rfl
  | fpdStretchEnd => exact .of_agree (execFpdStretchEnd_ag _ _) rfl rfl
  | trkSample => exact .of_agree (execTrkSample_ag _ _) rfl rfl
  | trkCycleComplete => exact .of_agree (execTrkCycleComplete_ag _ _) rfl rfl
  | trkCfgWrite => exact .of_agree (execTrkCfgWrite_ag _ _ _) rfl rfl
  | trkCfgApply => exact .of_agree (execTrkCfgApply_ag _ _) rfl rfl
  | laneFadeRequest => exact .of_agree (execLaneFadeRequest_ag _ _ _) rfl rfl
  | laneFadeStart => exact .of_agree (execLaneFadeStart_ag _ _) rfl rfl
  | laneFadeEnd => exact .of_agree (execLaneFadeEnd_ag _ _) rfl rfl
  | coefWrite => exact .of_agree (execCoefWrite_ag _ _ _ _ _) rfl rfl
  | laneStructWrite => exact .of_agree (execLaneStructWrite_ag _ _ _ _) rfl rfl
  | laneRunStop => exact .of_agree (execLaneRunStop_ag _ _) rfl rfl
  | laneStopApply => exact .of_agree (execLaneStopApply_ag _ _) rfl rfl
  | laneRunStart => exact .of_agree (execLaneRunStart_ag _ _) rfl rfl
  | laneRestartApply => exact .of_agree (execLaneRestartApply_ag _ _) rfl rfl
  | laneLoadDef => exact .of_agree (execLaneLoadDef_ag _ _ _) rfl rfl
  | loadDefApply => exact .of_agree (execLoadDefApply_ag _ _) rfl rfl
  | chainRestart => exact .of_agree (execChainRestart_ag _ _) rfl rfl
  | laneSettleEnd => exact .of_agree (execLaneSettleEnd_ag _ _) rfl rfl
  | alu => exact .of_agree (execAlu_ag _ _ _ _ _ _ _ _) rfl rfl
  | addi => exact .of_agree (execAddi_ag _ _ _ _ _ _ _) rfl rfl
  | andi => exact .of_agree (execAndi_ag _ _ _ _ _ _ _) rfl rfl
  | ori => exact .of_agree (execOri_ag _ _ _ _ _ _ _) rfl rfl
  | xori => exact .of_agree (execXori_ag _ _ _ _ _ _ _) rfl rfl
  | shi => exact .of_agree (execShi_ag _ _ _ _ _ _ _) rfl rfl
  | movl => exact .of_agree (execMovl_ag _ _ _ _ _ _) rfl rfl
  | movh => exact .of_agree (execMovh_ag _ _ _ _ _ _) rfl rfl
  | cmp => exact .of_agree (execCmp_ag _ _ _ _ _ _ _ _) rfl rfl
  | cmpi => exact .of_agree (execCmpi_ag _ _ _ _ _ _ _) rfl rfl
  | fpu => exact .of_agree (execFpu_ag _ _ _ _ _ _ _ _) rfl rfl
  | fcmp => exact .of_agree (execFcmp_ag _ _ _ _ _ _ _ _) rfl rfl
  | fma => exact .of_agree (execFma_ag _ _ _ _ _ _ _ _) rfl rfl
  | rdfs => exact .of_agree (execRdfs_ag _ _ _ _ _ _ _) rfl rfl
  | clrfs => exact .of_agree (execClrfs_ag _ _ _ _ _ _ _) rfl rfl
  | rdlc => exact .of_agree (execRdlc_ag _ _ _ _ _ _ _) rfl rfl
  | rdp => exact .of_agree (execRdp_ag _ _ _ _ _ _ _) rfl rfl
  | ld => exact .of_agree (execLd_ag _ _ _ _ _ _ _) rfl rfl
  | st => exact .of_agree (execSt_ag _ _ _ _ _ _ _) rfl rfl
  | ldz => exact .of_agree (execLdz_ag _ _ _ _ _ _ _) rfl rfl
  | stz => exact .of_agree (execStz_ag _ _ _ _ _ _ _) rfl rfl
  | ldw => exact .of_agree (execLdw_ag _ _ _ _ _ _ _) rfl rfl
  | ldp => exact .of_agree (execLdp_ag _ _ _ _ _ _ _) rfl rfl
  | ldzp => exact .of_agree (execLdzp_ag _ _ _ _ _ _ _) rfl rfl
  | ldx => exact .of_agree (execLdx_ag _ _ _ _ _ _ _ _) rfl rfl
  | stx => exact .of_agree (execStx_ag _ _ _ _ _ _ _ _) rfl rfl
  | cpx => exact .of_agree (execCpx_ag _ _ _ _ _ _ _ _ _) rfl rfl
  | csr => exact .of_agree (execCsr_ag _ _ _ _ _ _ _) rfl rfl
  | eret => exact .of_agree (execEret_ag _ _ _ _ _) rfl rfl
  | wfi => exact .of_agree (execWfi_ag _ _ _ _ _) rfl rfl
  | fence => exact .of_agree (execFence_ag _ _ _ _ _) rfl rfl
  | supInterruptEntry => exact .of_agree (execSupInterruptEntry_ag _ _) rfl rfl
  | tripreq => exact .of_agree (execTripreq_ag _ _ _ _ _ _) rfl rfl
  | flagOr => exact .of_agree (execFlagOr_ag _ _ _ _ _ _ _) rfl rfl
  | flagAndn => exact .of_agree (execFlagAndn_ag _ _ _ _ _ _ _) rfl rfl
  | flagMov => exact .of_agree (execFlagMov_ag _ _ _ _ _ _ _) rfl rfl
  | flagBit => exact .of_agree (execFlagBit_ag _ _ _ _ _ _ _) rfl rfl
  | evt => exact .of_agree (execEvt_ag _ _ _ _ _ _ _) rfl rfl
  | xchPub => exact .of_agree (execXchPub_ag _ _ _ _ _ _ _ _ _) rfl rfl
  | xchRd => exact .of_agree (execXchRd_ag _ _ _ _ _ _ _ _ _) rfl rfl
  | xchTag => exact .of_agree (execXchTag_ag _ _ _ _ _ _ _ _ _) rfl rfl
  | br => exact .of_agree (execBr_ag _ _ _ _ _) rfl rfl
  | loop => exact .of_agree (execLoop_ag _ _ _ _ _ _) rfl rfl
  | jt => exact .of_agree (execJt_ag _ _ _ _ _ _ _) rfl rfl
  | call => exact .of_agree (execCall_ag _ _ _ _ _ _) rfl rfl
  | ret => exact .of_agree (execRet_ag _ _ _ _ _) rfl rfl
  | lds => exact .of_agree (execLds_ag _ _ _ _ _ _ _ _ _ _) rfl rfl
  | phs => exact .of_agree (execPhs_ag _ _ _ _ _ _ _ _ _ _) rfl rfl
  | seq => exact .of_agree (execSeq_ag _ _ _ _ _ _ _ _ _) rfl rfl
  | frq => exact .of_agree (execFrq_ag _ _ _ _ _ _ _) rfl rfl
  | crvStep => exact .of_agree (execCrvStep_ag _ _ _ _ _ _ _ _) rfl rfl
  | crvReset => exact .of_agree (execCrvReset_ag _ _ _ _ _ _ _ _) rfl rfl
  | crvRead => exact .of_agree (execCrvRead_ag _ _ _ _ _ _ _ _) rfl rfl
  | cmphEval => exact .of_agree (execCmphEval_ag _ _ _ _ _ _ _ _) rfl rfl
  | cmphReset => exact .of_agree (execCmphReset_ag _ _ _ _ _ _ _ _) rfl rfl
  | cmphRead => exact .of_agree (execCmphRead_ag _ _ _ _ _ _ _ _) rfl rfl
  | tmrStep => exact .of_agree (execTmrStep_ag _ _ _ _ _ _ _ _) rfl rfl
  | tmrReset => exact .of_agree (execTmrReset_ag _ _ _ _ _ _ _ _) rfl rfl
  | tmrRead => exact .of_agree (execTmrRead_ag _ _ _ _ _ _ _ _) rfl rfl
  | limg => exact .of_agree (execLimg_ag _ _ _ _ _ _ _ _) rfl rfl
  | ltmrStep => exact .of_agree (execLtmrStep_ag _ _ _ _ _ _ _) rfl rfl
  | ltmrReset => exact .of_agree (execLtmrReset_ag _ _ _ _ _ _ _) rfl rfl
  | ltmrRead => exact .of_agree (execLtmrRead_ag _ _ _ _ _ _ _) rfl rfl
  | ledg => exact .of_agree (execLedg_ag _ _ _ _ _ _ _) rfl rfl
  | wturn => exact .of_agree (execWturn_ag _ _ _ _ _) rfl rfl
  | coreLoadValidate => exact .of_agree (execCoreLoadValidate_ag _ _) rfl rfl
  | coreValidationDone => exact .of_agree (execCoreValidationDone_ag _ _) rfl rfl
  | coreActivate => exact .of_agree (execCoreActivate_ag _ _) rfl rfl
  | coreActivationApply => exact .of_agree (execCoreActivationApply_ag _ _) rfl rfl
  | coreRevert => exact .of_agree (execCoreRevert_ag _ _) rfl rfl
  | coreRunStop => exact .of_agree (execCoreRunStop_ag _ _) rfl rfl
  | coreStopApply => exact .of_agree (execCoreStopApply_ag _ _) rfl rfl
  | coreRunStart => exact .of_agree (execCoreRunStart_ag _ _) rfl rfl
  | coreStartApply => exact .of_agree (execCoreStartApply_ag _ _) rfl rfl
  | coreActAtWrite => exact .of_agree (execCoreActAtWrite_ag _ _ _) rfl rfl
  | coreDmemPortWrite => exact .of_agree (execCoreDmemPortWrite_ag _ _ _ _ _) rfl rfl
  | coreImemPortWrite r c a v => exact .of_agree (execCoreImemPortWrite_ag r c a v _) rfl rfl
  | ifdHoldExpiry => exact .of_agree (execIfdHoldExpiry_ag _ _) rfl rfl
  | cdDropout => exact .of_agree (execCdDropout_ag _ _) rfl rfl
  | ifdKeyWrite => exact .of_agree (execIfdKeyWrite_ag _ _ _) rfl rfl
  | ifdLockedWrite => exact .of_agree (execIfdLockedWrite_ag _ _ _ _) rfl rfl
  | ifdRunStop => exact .of_agree (execIfdRunStop_ag _ _) rfl rfl
  | ifdStopApply => exact .of_agree (execIfdStopApply_ag _ _) rfl rfl
  | ifdRunStart => exact .of_agree (execIfdRunStart_ag _ _) rfl rfl
  | ifdRestartApply => exact .of_agree (execIfdRestartApply_ag _ _) rfl rfl
  | lightInputEdge => exact .of_agree (execLightInputEdge_ag _ _ _) rfl rfl
  | coinWindowExpiry => exact .of_agree (execCoinWindowExpiry_ag _ _ _) rfl rfl
  | wfPop => exact .of_agree (execWfPop_ag _ _) rfl rfl
  | wfFlush => exact .of_agree (execWfFlush_ag _ _) rfl rfl
  | clRoleWrite => exact .of_agree (execClRoleWrite_ag _ _ _) rfl rfl
  | afCfgWrite => exact .of_agree (execAfCfgWrite_ag _ _ _) rfl rfl
  | crvSettingWrite => exact .of_agree (execCrvSettingWrite_ag _ _ _ _ _) rfl rfl
  | userTableWrite => exact .of_agree (execUserTableWrite_ag _ _ _ _ _) rfl rfl
  | primCfgWrite => exact .of_agree (execPrimCfgWrite_ag _ _ _ _) rfl rfl
  | primSettingsApply => exact .of_agree (execPrimSettingsApply_ag _ _) rfl rfl
  | tlMinElapsed => exact .of_agree (execTlMinElapsed_ag _ _) rfl rfl
  | tlMaxElapsed => exact .of_agree (execTlMaxElapsed_ag _ _) rfl rfl
  | bfTimerExpiry => exact .of_agree (execBfTimerExpiry_ag _ _) rfl rfl
  | tripKeyWrite => exact .of_agree (execTripKeyWrite_ag _ _ _) rfl rfl
  | tlRunSet => exact .of_agree (execTlRunSet_ag _ _ _) rfl rfl
  | tlRunClear => exact .of_agree (execTlRunClear_ag _ _ _) rfl rfl
  | tlConfigWrite => exact .of_agree (execTlConfigWrite_ag _ _ _ _ _) rfl rfl
  | turnStart => exact .of_agree (execTurnStart_ag _) rfl rfl
  | lthProgramStart => exact .of_agree (execLthProgramStart_ag _) rfl rfl
  | turnDeadline => exact .of_agree (execTurnDeadline_ag _) rfl rfl
  | lthHaltCmd => exact .of_agree (execLthHaltCmd_ag _) rfl rfl
  | lthLockstepMismatch => exact .of_agree (execLthLockstepMismatch_ag _) rfl rfl
  | retainedFlushDone => exact .of_agree (execRetainedFlushDone_ag _ _) rfl rfl
  | lthStart => exact .of_agree (execLthStart_ag _) rfl rfl
  | lthLoadValidate => exact .of_agree (execLthLoadValidate_ag _) rfl rfl
  | lthValidationDone => exact .of_agree (execLthValidationDone_ag _) rfl rfl
  | lthArm => exact .of_agree (execLthArm_ag _) rfl rfl
  | lthDisarm => exact .of_agree (execLthDisarm_ag _) rfl rfl
  | lthRevert => exact .of_agree (execLthRevert_ag _) rfl rfl
  | revertWindowClose => exact .of_agree (execRevertWindowClose_ag _) rfl rfl
  | meterSnapshot => exact .of_agree (execMeterSnapshot_ag _) rfl rfl
  | lthCfgWrite => exact .of_agree (execLthCfgWrite_ag _ _) rfl rfl
  | meterCfgWrite => exact .of_agree (execMeterCfgWrite_ag _ _) rfl rfl
  | lthTurnLoRead => exact .of_agree (execLthTurnLoRead_ag _ _) rfl rfl
  | recFrameWrite => exact .of_agree (execRecFrameWrite_ag _ _ _) rfl rfl
  | recHostTrigger => exact .of_agree (execRecHostTrigger_ag _ _ _) rfl rfl
  | recRelease => exact .of_agree (execRecRelease_ag _ _ _) rfl rfl
  | recClose => exact .of_agree (execRecClose_ag _ _ _) rfl rfl
  | wbFreeze => exact .of_agree (execWbFreeze_ag _ _) rfl rfl
  | wbCopyDone => exact .of_agree (execWbCopyDone_ag _ _ _) rfl rfl
  | recRunStart => exact .of_agree (execRecRunStart_ag _ _ _) rfl rfl
  | recScanDone => exact .of_agree (execRecScanDone_ag _ _) rfl rfl
  | recRunStop => exact .of_agree (execRecRunStop_ag _ _ _) rfl rfl
  | recStopApply => exact .of_agree (execRecStopApply_ag _ _) rfl rfl
  | recConfigWrite => exact .of_agree (execRecConfigWrite_ag _ _ _ _ _) rfl rfl
  | blzRunStart => exact .of_agree (execBlzRunStart_ag _ _ _) rfl rfl
  | blzRunStop => exact .of_agree (execBlzRunStop_ag _ _ _) rfl rfl
  | blazeStep => exact .of_agree (execBlazeStep_ag _ _) rfl rfl
  | blzTimerExpiry => exact .of_agree (execBlzTimerExpiry_ag _ _ _) rfl rfl
  | blzCounterLimit j c => exact .of_agree (execBlzCounterLimit_ag j c _) rfl rfl
  | gaugeArm => exact .of_agree (execGaugeArm_ag _ _ _ _) rfl rfl
  | gaugeDisarm => exact .of_agree (execGaugeDisarm_ag _ _ _ _) rfl rfl
  | gaugeViolation => exact .of_agree (execGaugeViolation_ag _ _ _) rfl rfl
  | gaugeTableWrite => exact .of_agree (execGaugeTableWrite_ag _ _ _ _ _) rfl rfl
  | comtradeExport => exact .of_agree (execComtradeExport_ag _ _ _ _ _ _ _) rfl rfl
  | tallyRaise => exact .of_agree (execTallyRaise_ag _ _ _ _ _) rfl rfl
  | tallySlotWrite => exact .of_agree (execTallySlotWrite_ag _ _ _) rfl rfl
  | bucketTokenGain => exact .of_agree (execBucketTokenGain_ag _ _) rfl rfl
  | tallyPost => exact .of_agree (execTallyPost_ag _ _ _) rfl rfl
  | tallyResume => exact .of_agree (execTallyResume_ag _) rfl rfl
  | tallyScanDone => exact .of_agree (execTallyScanDone_ag _) rfl rfl
  | tallyClearRequest => exact .of_agree (execTallyClearRequest_ag _ _ _ _) rfl rfl
  | tallyClearConfirm => exact .of_agree (execTallyClearConfirm_ag _ _) rfl rfl
  | tallyClearAbort => exact .of_agree (execTallyClearAbort_ag _ _) rfl rfl
  | tallyNonceExpiry => exact .of_agree (execTallyNonceExpiry_ag _) rfl rfl
  | tallyLockoutEnd => exact .of_agree (execTallyLockoutEnd_ag _) rfl rfl
  | tallyEraseDone => exact .of_agree (execTallyEraseDone_ag _ _) rfl rfl
  | tallyLrClear => exact .of_agree (execTallyLrClear_ag _) rfl rfl
  | tallyBucketWrite => exact .of_agree (execTallyBucketWrite_ag _ _ _ _) rfl rfl
  | tbCmdStart => exact .of_agree (execTbCmdStart_ag _ _) rfl rfl
  | tbStart => exact .of_agree (execTbStart_ag _) rfl rfl
  | tbCmdStep => exact .of_agree (execTbCmdStep_ag _ _) rfl rfl
  | timeStepApply => exact .of_agree (execTimeStepApply_ag _) rfl rfl
  | tbCmdAfeSync => exact .of_agree (execTbCmdAfeSync_ag _ _) rfl rfl
  | afeSyncApply => exact .of_agree (execAfeSyncApply_ag _) rfl rfl
  | tbCmdResetI => exact .of_agree (execTbCmdResetI_ag _ _) rfl rfl
  | tbModeWrite => exact .of_agree (execTbModeWrite_ag _ _) rfl rfl
  | tbModeApply => exact .of_agree (execTbModeApply_ag _) rfl rfl
  | tbAddendCommit => exact .of_agree (execTbAddendCommit_ag _ _ _) rfl rfl
  | tbOffsCommit => exact .of_agree (execTbOffsCommit_ag _ _ _) rfl rfl
  | servoHoldoutExpiry => exact .of_agree (execServoHoldoutExpiry_ag _) rfl rfl
  | tbServoWrite => exact .of_agree (execTbServoWrite_ag _ _) rfl rfl
  | leapApply => exact .of_agree (execLeapApply_ag _) rfl rfl
  | rtcAlign => exact .of_agree (execRtcAlign_ag _) rfl rfl
  | tbTimeFracRead => exact .of_agree (execTbTimeFracRead_ag _ _) rfl rfl
  | tbCntLoRead => exact .of_agree (execTbCntLoRead_ag _ _) rfl rfl
  | almArm => exact .of_agree (execAlmArm_ag _ _ _ _) rfl rfl
  | almDisarm => exact .of_agree (execAlmDisarm_ag _ _ _ _) rfl rfl
  | almWrite => exact .of_agree (execAlmWrite_ag _ _ _ _ _) rfl rfl
  | alarmFire => exact .of_agree (execAlarmFire_ag _ _) rfl rfl
  | almLastNsRead => exact .of_agree (execAlmLastNsRead_ag _ _ _) rfl rfl
  | tioModeWrite => exact .of_agree (execTioModeWrite_ag _ _ _ _) rfl rfl
  | tioCapture => exact .of_agree (execTioCapture_ag _ _ _ _ _) rfl rfl
  | ppsInEdge => exact .of_agree (execPpsInEdge_ag _ _ _ _) rfl rfl
  | tioPulseEdge => exact .of_agree (execTioPulseEdge_ag _ _) rfl rfl
  | tioCapNsRead => exact .of_agree (execTioCapNsRead_ag _ _ _) rfl rfl
  | ethFrameRx => exact .of_agree (execEthFrameRx_ag _ _ _ _ _ _) rfl rfl
  | ethFrameEgress => exact .of_agree (execEthFrameEgress_ag _ _ _ _) rfl rfl
  | prpSupervisionSend => exact .of_agree (execPrpSupervisionSend_ag _) rfl rfl
  | addressAgeing => exact .of_agree (execAddressAgeing_ag _ _) rfl rfl
  | ethLink => exact .of_agree (execEthLink_ag _ _ _ _) rfl rfl
  | redPathLost => exact .of_agree (execRedPathLost_ag _ _) rfl rfl
  | ethApply => exact .of_agree (execEthApply_ag _ _ _) rfl rfl
  | svLost => exact .of_agree (execSvLost_ag _ _) rfl rfl
  | svPubFrameSend => exact .of_agree (execSvPubFrameSend_ag _ _) rfl rfl
  | gooseExpiry => exact .of_agree (execGooseExpiry_ag _ _) rfl rfl
  | gpubCommit => exact .of_agree (execGpubCommit_ag _ _ _ _) rfl rfl
  | gooseRetransmit => exact .of_agree (execGooseRetransmit_ag _ _) rfl rfl
  | svSlotWrite => exact .of_agree (execSvSlotWrite_ag _ _ _ _ _) rfl rfl
  | ethTxtsNsRead => exact .of_agree (execEthTxtsNsRead_ag _ _) rfl rfl
  | ethTblDataRead => exact .of_agree (execEthTblDataRead_ag _ _) rfl rfl
  | ethTblDataWrite => exact .of_agree (execEthTblDataWrite_ag _ _ _) rfl rfl
  | canInitSet => exact .of_agree (execCanInitSet_ag _ _ _ _) rfl rfl
  | canInitApply => exact .of_agree (execCanInitApply_ag _ _) rfl rfl
  | canInitClear => exact .of_agree (execCanInitClear_ag _ _ _ _) rfl rfl
  | canBusJoin => exact .of_agree (execCanBusJoin_ag _ _) rfl rfl
  | canOcmdQueue => exact .of_agree (execCanOcmdQueue_ag _ _ _) rfl rfl
  | canOcmdCancel => exact .of_agree (execCanOcmdCancel_ag _ _ _ _) rfl rfl
  | canOcmdClearNew => exact .of_agree (execCanOcmdClearNew_ag _ _ _) rfl rfl
  | canBusoffRecover => exact .of_agree (execCanBusoffRecover_ag _ _ _) rfl rfl
  | canRecoveryDone => exact .of_agree (execCanRecoveryDone_ag _ _) rfl rfl
  | canFrameSelect => exact .of_agree (execCanFrameSelect_ag _ _) rfl rfl
  | canFrameTxDone => exact .of_agree (execCanFrameTxDone_ag _ _ _ _ _) rfl rfl
  | canTxLost => exact .of_agree (execCanTxLost_ag _ _ _ _) rfl rfl
  | canFrameRx => exact .of_agree (execCanFrameRx_ag _ _ _ _ _) rfl rfl
  | canOwinW3Read => exact .of_agree (execCanOwinW3Read_ag _ _ _) rfl rfl
  | canOwinWrite => exact .of_agree (execCanOwinWrite_ag _ _ _ _ _) rfl rfl
  | fioInputEdge => exact .of_agree (execFioInputEdge_ag _ _ _ _ _) rfl rfl
  | fioEvtNsRead => exact .of_agree (execFioEvtNsRead_ag _ _) rfl rfl
  | fioCfgWrite => exact .of_agree (execFioCfgWrite_ag _ _ _ _) rfl rfl
  | fioDrvWrite => exact .of_agree (execFioDrvWrite_ag _ _ _ _) rfl rfl
  | fioGrpWrite => exact .of_agree (execFioGrpWrite_ag _ _ _ _) rfl rfl
  | fioMismatch => exact .of_agree (execFioMismatch_ag _ _) rfl rfl
  | fioOvercurrent => exact .of_agree (execFioOvercurrent_ag _ _) rfl rfl
  | fioThermalOff => exact .of_agree (execFioThermalOff_ag _ _) rfl rfl
  | fioThermalOn => exact .of_agree (execFioThermalOn_ag _ _) rfl rfl
  | vfieldWarn => exact .of_agree (execVfieldWarn_ag _ _ _) rfl rfl
  | vfieldWarnClear => exact .of_agree (execVfieldWarnClear_ag _ _ _) rfl rfl
  | vfieldUvlo => exact .of_agree (execVfieldUvlo_ag _ _ _) rfl rfl
  | vfieldUvloRecover => exact .of_agree (execVfieldUvloRecover_ag _ _ _) rfl rfl
  | fieldLogicStop => exact .of_agree (execFieldLogicStop_ag _) rfl rfl
  | fieldLogicStart => exact .of_agree (execFieldLogicStart_ag _ _) rfl rfl
  | fieldSilence => exact .of_agree (execFieldSilence_ag _) rfl rfl
  | fioPulseSnapshot => exact .of_agree (execFioPulseSnapshot_ag _) rfl rfl
  | pairHbFrame => exact .of_agree (execPairHbFrame_ag _ _ _ _ _ _ _) rfl rfl
  | pairTlFrame => exact .of_agree (execPairTlFrame_ag _ _ _ _ _) rfl rfl
  | pairStateFrame => exact .of_agree (execPairStateFrame_ag _ _ _ _ _) rfl rfl
  | pairHbPinToggle => exact .of_agree (execPairHbPinToggle_ag _) rfl rfl
  | pairRoleInFall => exact .of_agree (execPairRoleInFall_ag _) rfl rfl
  | plinkDown => exact .of_agree (execPlinkDown_ag _ _) rfl rfl
  | pairDecisionPoint => exact .of_agree (execPairDecisionPoint_ag _ _) rfl rfl
  | handoverAssert => exact .of_agree (execHandoverAssert_ag _) rfl rfl
  | pairTlFrameTimeout => exact .of_agree (execPairTlFrameTimeout_ag _) rfl rfl
  | pairTlFrameSend => exact .of_agree (execPairTlFrameSend_ag _) rfl rfl
  | pairCmdSwapDrill => exact .of_agree (execPairCmdSwapDrill_ag _ _) rfl rfl
  | pairCmdRelease => exact .of_agree (execPairCmdRelease_ag _ _) rfl rfl
  | pairCmdResync => exact .of_agree (execPairCmdResync_ag _) rfl rfl
  | drillCheckEnd => exact .of_agree (execDrillCheckEnd_ag _ _ _) rfl rfl
  | drillDue => exact .of_agree (execDrillDue_ag _) rfl rfl
  | prefDwellExpiry => exact .of_agree (execPrefDwellExpiry_ag _) rfl rfl
  | startWaitExpiry => exact .of_agree (execStartWaitExpiry_ag _ _) rfl rfl
  | pairCfgWrite => exact .of_agree (execPairCfgWrite_ag _ _) rfl rfl
  | registerWrite => exact .of_agree (execRegisterWrite_ag _ _ _ _ _) rfl rfl
  | aliasWrite => exact .of_agree (execAliasWrite_ag _ _ _ _ _ _) rfl rfl
  | readClear => exact .of_agree (execReadClear_ag _ _ _) rfl rfl
  | unmappedAccess => exact .of_agree (execUnmappedAccess_ag _ _ _ _ _) rfl rfl
  | spiFrame => exact .of_agree (execSpiFrame_ag _ _ _) rfl rfl
  | hbiIndAddrWrite => exact .of_agree (execHbiIndAddrWrite_ag _ _ _) rfl rfl
  | hbiIndCtrlWrite => exact .of_agree (execHbiIndCtrlWrite_ag _ _ _) rfl rfl
  | hbiIndDataRead => exact .of_agree (execHbiIndDataRead_ag _ _) rfl rfl
  | hbiIndDataWrite => exact .of_agree (execHbiIndDataWrite_ag _ _ _ _) rfl rfl
  | indPrefetchDone => exact .of_agree (execIndPrefetchDone_ag _ _ _) rfl rfl
  | indQueuedWriteDone => exact .of_agree (execIndQueuedWriteDone_ag _ _ _) rfl rfl
  | intStatClear => exact .of_agree (execIntStatClear_ag _ _ _) rfl rfl
  | intForce => exact .of_agree (execIntForce_ag _ _ _) rfl rfl
  | mboxS2hWrite => exact .of_agree (execMboxS2hWrite_ag _ _ _ _) rfl rfl
  | mboxH2sWrite => exact .of_agree (execMboxH2sWrite_ag _ _ _ _) rfl rfl
  | mboxS2hRead => exact .of_agree (execMboxS2hRead_ag _ _ _) rfl rfl
  | mboxH2sRead => exact .of_agree (execMboxH2sRead_ag _ _ _) rfl rfl
  | sysRstSoftware => exact .of_agree (execSysRstSoftware_ag _ _) rfl rfl
  | sysRstRegion => exact .of_agree (execSysRstRegion_ag _ _) rfl rfl
  | regionResetRelease => exact .of_agree (execRegionResetRelease_ag _ _) rfl rfl
  | pwrDomWrite => exact .of_agree (execPwrDomWrite_ag _ _) rfl rfl
  | domainSwitchDone => exact .of_agree (execDomainSwitchDone_ag _ _) rfl rfl
  | pwrHalfWrite => exact .of_agree (execPwrHalfWrite_ag _ _) rfl rfl
  | halfApply => exact .of_agree (execHalfApply_ag _ _) rfl rfl
  | avsStep => exact .of_agree (execAvsStep_ag _ _ _) rfl rfl
  | holdupStart => exact .of_agree (execHoldupStart_ag _ _ _) rfl rfl
  | pdNetShed => exact .of_agree (execPdNetShed_ag _) rfl rfl
  | holdupStep3 => exact .of_agree (execHoldupStep3_ag _ _) rfl rfl
  | holdupStep4 => exact .of_agree (execHoldupStep4_ag _) rfl rfl
  | holdupEnd => exact .of_agree (execHoldupEnd_ag _ _ _) rfl rfl
  | vinOvervoltage => exact .of_agree (execVinOvervoltage_ag _ _ _) rfl rfl
  | thermalWarn => exact .of_agree (execThermalWarn_ag _ _ _) rfl rfl
  | thermalShutdown => exact .of_agree (execThermalShutdown_ag _ _ _) rfl rfl
  | thermalRestart => exact .of_agree (execThermalRestart_ag _) rfl rfl
  | wdtKick => exact .of_agree (execWdtKick_ag _ _) rfl rfl
  | wdtWarn => exact .of_agree (execWdtWarn_ag _) rfl rfl
  | wdtTimeout => exact .of_agree (execWdtTimeout_ag _) rfl rfl
  | powerOnReset => exact .of_agree (execPowerOnReset_ag _) rfl rfl
  | resetNAssert => exact .of_agree (execResetNAssert_ag _) rfl rfl
  | resetNRelease => exact .of_agree (execResetNRelease_ag _ _ _) rfl rfl
  | mainPllLoss => exact .of_agree (execMainPllLoss_ag _) rfl rfl
  | vkeepLoss => exact .of_agree (execVkeepLoss_ag _) rfl rfl
  | bootImageDone => exact .of_agree (execBootImageDone_ag _ _) rfl rfl
  | bootContinue => exact .of_agree (execBootContinue_ag _ _) rfl rfl
  | bootRaiseMin => exact .of_agree (execBootRaiseMin_ag _ _) rfl rfl
  | missedOwnDeadline => exact .of_agree (execMissedOwnDeadline_ag _) rfl rfl
  | canRxBusError => exact .of_agree (execCanRxBusError_ag _ _ _ _) rfl rfl
  | thermalWarnClear => exact .of_agree (execThermalWarnClear_ag _) rfl rfl
  | holdOkChange => exact .of_agree (execHoldOkChange_ag _ _) rfl rfl
  | wdtCountClear => exact .of_agree (execWdtCountClear_ag _) rfl rfl
  | hbiAccessReady => exact .of_agree (execHbiAccessReady_ag _) rfl rfl
  | illegalInstruction => exact .of_agree (execIllegalInstruction_ag _ _ _) rfl rfl

/-! ### One idle period -/

/-- A time value in units of 2^-32 ns. -/
def TimeBase.units (x : TimeBase) : Nat := (x.sec * 1000000000 + x.ns) * 4294967296 + x.frac

section
variable (s : State) (n : Nat)

/-- The time value, in units of 2^-32 ns above the second, n counter periods later. -/
def State.unitsAfter (s : State) (n : Nat) : Nat :=
  s.tb.ns * 4294967296 + s.tb.frac + (if s.started then n * s.addend else 0)

/-- The state in which the seconds that n counter periods complete have been counted by the RTC and the drill age. -/
def State.clockCounted (s : State) (n : Nat) : State :=
  let sub := s.tb.rtcSub + n
  let rtc := s.fld Reg.TB_RTC_SEC_HI 15 0 * 4294967296 + (s.rd Reg.TB_RTC_SEC_LO).toNat + sub / 250000000
  if sub < 250000000 then s
  else (s.count Reg.PAIR_DRILL_AGE 31 0 (sub / 250000000) |>.wr Reg.TB_RTC_SEC_LO (w32 rtc)).put Reg.TB_RTC_SEC_HI 15 0 (rtc / 4294967296)

theorem pass_eq : s.pass n = (s.clockCounted n).tbMod (fun u => { u with
    cnt := s.tb.cnt + n, rtcSub := (s.tb.rtcSub + n) % 250000000
    sec := s.tb.sec + s.unitsAfter n / 4294967296 / 1000000000
    ns := s.unitsAfter n / 4294967296 % 1000000000, frac := s.unitsAfter n % 4294967296 }) := rfl

theorem clockCounted_ag : Agree 1 s (s.clockCounted n) := by
  unfold State.clockCounted
  extract_lets sub rtc
  split
  · exact Agree.refl 1 s
  · exact ((s.count_ag _ _ _ _).then (State.wr_ag _ _ _) rfl).then (State.put_ag _ _ _ _ _) rfl

theorem tb_pass : (s.pass n).tb = { s.tb with
    cnt := s.tb.cnt + n, rtcSub := (s.tb.rtcSub + n) % 250000000
    sec := s.tb.sec + s.unitsAfter n / 4294967296 / 1000000000
    ns := s.unitsAfter n / 4294967296 % 1000000000, frac := s.unitsAfter n % 4294967296 } := by
  rw [pass_eq, State.tbMod_tb, (clockCounted_ag s n).tb rfl]

theorem cnt_pass : (s.pass n).tb.cnt = s.tb.cnt + n := by rw [tb_pass]

/-- A value carried into the next place. -/
theorem carry_eq (a q n : Nat) : (a + q / n) * n + q % n = a * n + q := by rw [Nat.add_mul, Nat.add_assoc, Nat.div_add_mod']

theorem units_pass : TimeBase.units (s.pass n).tb = TimeBase.units s.tb + (if s.started then n * s.addend else 0) ∧
    (s.pass n).tb.ns < 1000000000 ∧ (s.pass n).tb.frac < 4294967296 := by
  rw [tb_pass]
  refine ⟨?_, Nat.mod_lt _ (by decide), Nat.mod_lt _ (by decide)⟩
  unfold TimeBase.units
  dsimp only
  rw [carry_eq, carry_eq]
  unfold State.unitsAfter
  rw [Nat.add_mul _ s.tb.ns, Nat.add_assoc, Nat.add_assoc, Nat.add_assoc]

/-- The registers that passing time changes are the drill age and the RTC. -/
theorem pass_onlyRegs : OnlyRegs s (s.pass n) [Reg.PAIR_DRILL_AGE, Reg.TB_RTC_SEC_LO, Reg.TB_RTC_SEC_HI] := by
  intro a ha
  simp only [List.mem_cons, List.not_mem_nil, or_false, not_or] at ha
  obtain ⟨h0, h1, h2⟩ := ha
  rw [pass_eq, State.rd_tbMod]
  unfold State.clockCounted
  extract_lets sub rtc
  split
  · rfl
  · rw [State.rd_put, if_neg (Ne.symm h2), State.rd_wr, if_neg (Ne.symm h1), State.rd_count_ne _ _ _ _ _ _ (Ne.symm h0)]

/-- One period brings at most one error, into a word of a cluster's memories. -/
theorem upset_upsetNow (c key : Nat) : s.upsetNow.upset c key = s.upset c key ∨
    (memKeyOk c key = true ∧ (s.upsetNow.upset c key = 1 ∨ s.upsetNow.upset c key = 2)) := by
  unfold State.upsetNow
  split
  · next c' key' two _ =>
    split
    · next hk =>
      rw [upset_setUpset]
      split
      · next e =>
        obtain ⟨rfl, rfl⟩ := e
        cases two with
        | true => exact .inr ⟨hk, .inr rfl⟩
        | false =>
          by_cases hu : s.upset c'.val key' ≤ 1
          · exact .inr ⟨hk, .inl (Nat.max_eq_left hu)⟩
          · exact .inl (Nat.max_eq_right (by omega))
      · exact .inl rfl
    · exact .inl rfl
  · exact .inl rfl

/-- Of the clusters an error changes only the account of errors. -/
theorem upsetNow_elem (c : Nat) : s.upsetNow.elem c = { s.elem c with errs := (s.upsetNow.elem c).errs } := by
  unfold State.upsetNow
  split
  · split
    · rw [elem_setUpset]
      split
      · next h => rw [h]
      · rfl
    · rfl
  · rfl

end

theorem Agree.eq_regs_tb_elems {s t : State} (h : Agree 2147516417 s t) : t = { s with regs := t.regs, tb := t.tb, elems := t.elems } :=
  h.eq_overlay

/-! ### The statements of the step -/

/-- Settles O1: a step on a queue with a front is by definition the command there. -/
theorem stepRunsFront : Obligations.StepRunsFront := by
  intro s c cs
  rfl

/-- Settles O2: the idle step is one counter period, then at most one error. -/
theorem idleStepCountsOnePeriod : Obligations.IdleStepCountsOnePeriod := by
  intro s time hq
  have hidle : step s = .next (s.pass 1).upsetNow := by unfold step; rw [hq]
  have hpass := s.pass_ag 1
  have hups := (s.pass 1).upsetNow_ag
  obtain ⟨htime, hns, hfrac⟩ := units_pass s 1
  rw [Nat.one_mul] at htime
  have helem : ∀ c, (s.pass 1).elem c = s.elem c := fun c => by unfold State.elem; rw [hpass.elems rfl]
  have hupset : ∀ c key, (s.pass 1).upset c key = s.upset c key := fun c key => by unfold State.upset; rw [hpass.elems rfl]
  refine ⟨(s.pass 1).upsetNow, hidle, ?_, ?_, ?_, ?_, ?_, ?_, fun a ha => ?_, fun c => ?_, fun c key => ?_⟩
  · rw [hups.tb rfl, cnt_pass]
  · rw [hups.pending rfl, hpass.pending rfl, hq]
  · rw [hups.tb rfl]; exact htime
  · rw [hups.tb rfl]; exact hns
  · rw [hups.tb rfl]; exact hfrac
  · exact ((hpass.mono rfl).then hups rfl).eq_regs_tb_elems
  · rw [hups.rd _ rfl]; exact pass_onlyRegs s 1 a ha
  · rw [upsetNow_elem, helem]
  · rw [← hupset]; exact upset_upsetNow _ c key

/-- Settles O3: after reset neither map lists a word. -/
theorem memoryWellFormedAtReset : Obligations.MemoryWellFormedAtReset := by
  unfold Obligations.MemoryWellFormedAtReset Memory.wf
  rw [Bool.and_eq_true]
  exact ⟨SMap.wf_nil _, SMap.wf_nil _⟩

/-- Settles O4: an idle step by the frames of time passing and of an error, a command by `exec_keeps`. -/
theorem stepKeepsMemoryAndQueue : Obligations.StepKeepsMemoryAndQueue := by
  intro s t h
  unfold step at h
  split at h
  · next hq =>
    cases h
    have hidle := ((s.pass_ag 1).mono (m := 2147516417) rfl).then (s.pass 1).upsetNow_ag rfl
    rw [hq]
    exact ⟨hidle.wf, (hidle.pending rfl).trans hq⟩
  · next c cs hq =>
    have hkeeps := exec_keeps c { s with pending := cs }
    exact ⟨hkeeps.wf t h, by rw [hkeeps.pending t h, hq]; rfl⟩

/-- Settles O5: an idle step answers by definition, a command by `exec_keeps`. -/
theorem everyStepAnswers : Obligations.EveryStepAnswers := by
  intro s
  unfold SafeStep step
  split
  · exact ⟨_, rfl⟩
  · exact (exec_keeps _ _).next

end Sys2Proof.Machine
end

section
/-!
A resource of an element image and a supervisor core that writes its registers: the owners R280 names for the supervisor are 0x01 to 0x03 alone
(chapters 12 and 13: R413, R448).
-/
namespace Sys2Proof.Machine
open Sys2Proof

/-- A package that runs, in which the element image of cluster 0 (owner 0x10, R40) holds one resource. -/
def imageOwns (res : Nat) : State :=
  { State.reset with power := { PowerU.init with cause := 0 }, claims := [(res, { owner := 0x10, tag := 0 })] }

/-- What follows from a statement: the definitions inside the statement stay definitions in the proof. -/
theorem of_statement {P Q : Prop} (h : P) (hq : P → Q) : Q := hq h

/-! ### An alarm -/

/-- The alarm's image is not the host, so the supervisor core passes the test of the owner that the statement makes; yet its write sets CFG_DENY. -/
theorem imageOwns_alarm : let s := imageOwns 0x2000
    s.served .sup0 = true ∧ s.mayWrite .sup0 0x2000 = true ∧ s.armed 0 = false ∧ s.bit (Reg.ALM_STAT 0) 3 = false ∧
    (s.almWrite .sup0 0 1 0).bit (Reg.ALM_STAT 0) 3 = true := by decide +kernel

/-- The clause on a write of ALM_SEC_LO. -/
theorem almSecLo_clause (h : Obligations.AlarmsAndTimePins) (s : State) (r : Req) (n : Fin 16) (p : Fin 4) (v : Word) (rising : Bool) (sec : Nat)
    (ns : Fin 1000000000) : s.mayWrite r (0x2000 + n.val) = true → s.armed n.val = false → s.served r = true →
      ∃ t, exec (.almWrite r n 1 v) s = .next t ∧ t.regs = s.regs := by
  refine of_statement (h s r n p v rising sec ns) ?_
  extract_lets
  refine (fun hwrites hmay hidle hserved => ?_) ∘ And.left ∘ And.right ∘ And.right ∘ And.right ∘ And.right ∘ And.right ∘ And.right ∘ And.right
  exact ((hwrites hmay hidle).1 hserved).imp fun t => And.imp_right fun ht => by rw [ht.2]

/-- Refutes O47: a write of ALM_SEC_LO by a supervisor core is said to be taken whenever the alarm has an owner other than the host. R413 takes
the writes R280 names, and R280 names the supervisor for the owners 0x01 to 0x03 only: of an alarm of an element image the write is denied. -/
theorem not_alarmsAndTimePins : ¬ Obligations.AlarmsAndTimePins := by
  intro h
  obtain ⟨hserved, hmay, hidle, hclear, hdenied⟩ := imageOwns_alarm
  obtain ⟨t, ht, hregs⟩ := almSecLo_clause h (imageOwns 0x2000) .sup0 0 0 0 false 0 0 hmay hidle hserved
  have hnext : (imageOwns 0x2000).almWrite .sup0 0 1 0 = t :=
    Host.Outcome.next.inj ((access_served _ _ (f := fun s => s.almWrite .sup0 0 1 0) hserved).symm.trans ht)
  have hstat : t.bit (Reg.ALM_STAT 0) 3 = (imageOwns 0x2000).bit (Reg.ALM_STAT 0) 3 := by
    unfold State.bit State.rd
    rw [hregs]
  rw [← hnext, hdenied, hclear] at hstat
  exact Bool.noConfusion hstat

/-! ### A slot of sampled values -/

theorem imageOwns_slot : let s := imageOwns 0x7000
    s.served .sup0 = true ∧ s.mayWrite .sup0 0x7000 = true ∧ s.svHeld 0 = false ∧ s.bit Reg.ETH_ISTAT 4 = false ∧
    (s.svsWrite .sup0 0 1 0).bit Reg.ETH_ISTAT 4 = true := by decide +kernel

/-- The clause on a write of a slot. -/
theorem svSlot_clause (h : Obligations.SampledValuesAndGoose) (s : State) (n k c : Fin 16) (e : Fin 128) (g : Fin 8) (r : Req) (v : Word) :
    k.val = 1 → s.mayWrite r (0x7000 + n.val) = true → s.svHeld n.val = false → s.served r = true →
      ∃ t, exec (.svSlotWrite r n k v) s = .next t ∧ OnlyRegs s t [0x20300 + 0x40 * n.val + 4 * k.val] := by
  refine of_statement (h s n k c e g r v) ?_
  extract_lets +onlyGivenNames istat cnt Refused
  refine (fun hwrites hk hmay hfree hserved => ?_) ∘ And.right ∘ And.left ∘ And.right ∘ And.right
  have hne {m : Nat} (hm : 1 ≠ m) : k.val ≠ m := fun h => hm (hk.symm.trans h)
  exact (hwrites (hne (by decide)) (hne (by decide)) hmay (.inl hfree) (fun h0 => absurd h0 (hne (by decide))) hserved).imp
    fun t => And.imp_right fun ht => ht.2.1

/-- Refutes O51: a write of a slot's register by a supervisor core is said to be taken whenever the slot has an owner other than the host. R448
takes the writes R280 names, and of a slot of an element image R280 names no requester: the write is denied. -/
theorem not_sampledValuesAndGoose : ¬ Obligations.SampledValuesAndGoose := by
  intro h
  obtain ⟨hserved, hmay, hfree, hclear, hdenied⟩ := imageOwns_slot
  obtain ⟨t, ht, hregs⟩ := svSlot_clause h (imageOwns 0x7000) 0 1 0 0 0 .sup0 0 rfl hmay hfree hserved
  have hnext : (imageOwns 0x7000).svsWrite .sup0 0 1 0 = t :=
    Host.Outcome.next.inj ((access_served _ _ (f := fun s => s.svsWrite .sup0 0 1 0) hserved).symm.trans ht)
  have hstat : t.bit Reg.ETH_ISTAT 4 = (imageOwns 0x7000).bit Reg.ETH_ISTAT 4 := by
    unfold State.bit
    rw [hregs _ (by decide)]
  rw [← hnext, hdenied, hclear] at hstat
  exact Bool.noConfusion hstat

end Sys2Proof.Machine
end

section
/-!
What the statements about CAN transmissions, clearing reads, and hold-up leave out, shown on one package
each (chapters 14, 17 and 18).
-/
namespace Sys2Proof.Machine
open Sys2Proof

/-- A package that runs. -/
def running : State := { State.reset with power := { PowerU.init with cause := 0 } }

/-! ### A queue request that waits behind a frame of a package that has become the sapwood -/

def fillerFrame : CanFrame :=
  { ide := false, fdf := false, brs := false, esi := false, rtr := false, id := 0, dlc := 0, data := [] }

/-- Object 0 of CAN_0 is in IN_TX with a second request behind it, in the sapwood of a pair. -/
def requeuedSapwood : State :=
  { running with
      regs := [(0x10000, 0x80000000)],
      cans := [(0, { CanU.init with cur := some 0, out := some fillerFrame, requeue := true })] }

theorem requeuedSapwood_done : let s := requeuedSapwood
    s.bit (Reg.CAN_CTRL 0) 29 = false ∧ (s.canDone 0 0 0 0).objState 0 0 = 3 := by decide +kernel

/-- The clause on a completed frame. -/
theorem txDone_clause (h : Obligations.CanFramesAndErrors) (s : State) (c : Fin 4) (f : CanFrame) (sec : Nat) (ns : Fin 1000000000) (loop : BitVec 7)
    (why : CanErr) : ∀ m g, (s.can c.val).cur = some m → m < 128 → (s.can c.val).out = some g → (s.can c.val).held = [] →
      (g.brs && s.bit (Reg.CAN_CTRL c.val) 29) = false →
      ∃ t, exec (.canFrameTxDone c sec ns loop) s = .next t ∧ t.objState c.val m = (if (s.can c.val).requeue then 1 else 3) := by
  refine of_statement (h s c f sec ns loop why) ?_
  extract_lets +onlyGivenNames k u ctrl stat istat err ecnt2 active silent tec lost n
  refine (fun htx m g hcur hm hout hheld hbrs => ?_) ∘ And.left ∘ And.right ∘ And.right
  exact (htx m g hcur hm hout hheld hbrs).imp fun t => And.imp_right And.left

/-- Refutes O53: a completed frame with a request behind it is said to leave its object PENDING. In the sapwood the model leaves it DONE, since
R490 keeps no object pending there. -/
theorem not_canFramesAndErrors : ¬ Obligations.CanFramesAndErrors := by
  intro h
  obtain ⟨-, hdone⟩ := requeuedSapwood_done
  obtain ⟨t, ht, hstate⟩ := txDone_clause h requeuedSapwood 0 fillerFrame 0 0 0 .arb 0 fillerFrame rfl (by decide) rfl rfl rfl
  have hnext : requeuedSapwood.canDone 0 0 0 0 = t := Host.Outcome.next.inj ht
  have hwait : t.objState 0 0 = 1 := hstate
  rw [← hnext, hdone] at hwait
  exact absurd hwait (by decide)

/-! ### A read of PAIR_SHARE -/

/-- A package of a pair. -/
def pairedRunning : State := { running with regs := [(0x10000, 0x80000000)] }

theorem pairedRunning_share : let s := pairedRunning
    s.served .sup0 = true ∧ s.rd Reg.PAIR_SHARE = 0 ∧ (regRow Reg.PAIR_SHARE).isSome = true ∧ (s.busRead .sup0 Reg.PAIR_SHARE 15).answered .sup0 ≠ 0 := by
  decide +kernel

/-- The clause on a clearing read. -/
theorem readClear_clause (h : Obligations.HostBusInterruptsMailboxes) (s : State) (r : Req) (be : BitVec 4) (v w : Word) (hi : Bool) (n k : Fin 4)
    (a : BitVec 20) : s.served r = true → 0x10000 ≤ a.toNat ∧ a.toNat < 0x11000 → ∀ row, regRow (a.toNat / 4 * 4) = some row →
      ∃ t, exec (.readClear r a) s = .next t ∧ t.answered r = s.rd (a.toNat / 4 * 4) &&& ~~~ w32 row.wo := by
  refine of_statement (h s r be v w hi n k a) ?_
  extract_lets +onlyGivenNames served en errAddr stat mb BusError
  refine (fun hreads hserved ha row hrow => ?_) ∘ And.left ∘ And.right ∘ And.right ∘ And.right ∘ And.right
  exact ((hreads hserved (.inl ha)).1 row hrow).imp fun t => And.imp_right And.left

/-- Refutes O56: a read in the PAIR block is said to answer the register's stored word. PAIR_SHARE is computed from the images when it is read
(R535), and in a pair it is not 0. -/
theorem not_hostBusInterruptsMailboxes : ¬ Obligations.HostBusInterruptsMailboxes := by
  intro h
  obtain ⟨hserved, hstored, hrow, hshown⟩ := pairedRunning_share
  obtain ⟨row, hrow⟩ := Option.isSome_iff_exists.1 hrow
  obtain ⟨t, ht, hanswer⟩ := readClear_clause h pairedRunning .sup0 0 0 0 false 0 0 0x10020 hserved (by decide) row hrow
  have hnext : pairedRunning.busRead .sup0 Reg.PAIR_SHARE 15 = t := Host.Outcome.next.inj ht
  have hzero : t.answered .sup0 = pairedRunning.rd Reg.PAIR_SHARE &&& ~~~ w32 row.wo := hanswer
  rw [hstored, ← hnext] at hzero
  exact hshown (hzero.trans (BitVec.zero_and ..))

/-! ### A recorder whose last transfer failed, at the start of hold-up -/

/-- Recorder 0 runs with KEEP and a frame in its ring, after a failed transfer, and HOLD_OK is 0. -/
def recorderFailed : State :=
  { running with
      regs := [(0x34004, 0x80000000), (0x34018, 4), (0x34034, 2)], mramErr := [.recorder],
      recs := [(0, { RecU.init with ring := some 0, ord := 1 })] }

theorem recorderFailed_holdup : let s := recorderFailed
    s.sysRuns = true ∧ s.holdStep = 0 ∧ (s.holdStart 0 0).mramErr = [] := by decide +kernel

/-- The clause on the start of hold-up. -/
theorem holdup_clause (h : Obligations.PowerDomainsHoldUpThermal) (s : State) (r : Fin 4) (m : Fin 3) (b : Fin 7) (vhold vin temp : BitVec 16)
    (src : Fin 6) (v : Word) : s.sysRuns = true → s.holdStep = 0 → vin.toNat < 8500 →
      ∃ t, exec (.holdupStart vhold vin) s = .next t ∧ t.mramErr = s.mramErr := by
  refine of_statement (h s r m b vhold vin temp src v) ?_
  extract_lets +onlyGivenNames stat flag p k avs now back level refusedOff reading step Held
  refine (fun hheld hruns hstep hvin => ?_) ∘ And.left ∘ And.right ∘ And.right ∘ And.right ∘ And.right ∘ And.right
  exact ((hheld hruns hstep).1 hvin).imp fun t => And.imp_right ((fun ht => by rw [ht]) ∘ And.right ∘ And.right ∘ And.right ∘ And.right ∘ And.right ∘
    And.right ∘ And.right ∘ And.right ∘ And.right)

/-- Refutes O58: hold-up is said to leave the errors of MRAM accesses as they are. Without HOLD_OK its step 3 begins at once and
makes a record of the ring, and the recorder's access to its header ends the error of the last one. -/
theorem not_powerDomainsHoldUpThermal : ¬ Obligations.PowerDomainsHoldUpThermal := by
  intro h
  obtain ⟨hruns, hstep, hclear⟩ := recorderFailed_holdup
  obtain ⟨t, ht, hkept⟩ := holdup_clause h recorderFailed 0 0 0 0 0 0 0 0 hruns hstep (by decide)
  have hnext : recorderFailed.holdStart 0 0 = t := (if_pos (by decide)).symm.trans (Host.Outcome.next.inj ht)
  rw [← hnext, hclear] at hkept
  exact absurd hkept (by decide)

end Sys2Proof.Machine
end

section
/-!
The CAN controllers (chapter 14): what the shared operations of a controller leave in its registers and its objects.
-/
namespace Sys2Proof.Machine
open Sys2Proof

theorem Agree.eq_regs_cans {s t : State} (h : Agree 17179869185 s t) : t = { s with regs := t.regs, cans := t.cans } := h.eq_overlay
theorem Agree.eq_cans {s t : State} (h : Agree 17179869184 s t) : t = { s with cans := t.cans } := h.eq_overlay
theorem Agree.eq_canRecovered {s t : State} (h : Agree 57857 s t) :
    t = { s with tb := t.tb, regs := t.regs, supPend := t.supPend, tally := t.tally, buckets := t.buckets } := h.eq_overlay
theorem Agree.eq_regs_rsp {s t : State} (h : Agree 17 s t) : t = { s with regs := t.regs, rsp := t.rsp } := h.eq_overlay

theorem Agree.can {m : Nat} {s t : State} (h : Agree m s t) (k : Nat) (hm : m.testBit 34 = false) : t.can k = s.can k := by
  unfold State.can; rw [h.cans hm]

/-! ### Words that agree below bit 31, where INIT stands -/

/-- Two words agree in every bit but the highest. -/
def SameRest (x y : Word) : Prop := ∀ i, i < 31 → bitAt x i = bitAt y i

theorem sameRest_or (v : Word) : SameRest (v ||| 0x80000000) v := fun i hi => by
  have : (0x80000000 : Word).getLsbD i = false := by
    rw [show (0x80000000 : Word) = BitVec.ofNat 32 (2 ^ 31) from rfl, BitVec.getLsbD_ofNat, Nat.testBit_two_pow]
    rw [decide_eq_false (Nat.ne_of_gt hi), Bool.and_false]
  unfold bitAt
  rw [BitVec.getLsbD_or, this, Bool.or_false]

theorem sameRest_and (v : Word) : SameRest (v &&& 0x7FFFFFFF) v := fun i hi => by
  have : (0x7FFFFFFF : Word).getLsbD i = true := by
    rw [show (0x7FFFFFFF : Word) = BitVec.ofNat 32 (2 ^ 31 - 1) from rfl, BitVec.getLsbD_ofNat, Nat.testBit_two_pow_sub_one]
    simp [hi, show i < 32 by omega]
  unfold bitAt
  rw [BitVec.getLsbD_and, this, Bool.and_true]

theorem bitAt_or_top (v : Word) : bitAt (v ||| 0x80000000) 31 = true := by
  unfold bitAt; rw [BitVec.getLsbD_or, show (0x80000000 : Word).getLsbD 31 = true from rfl, Bool.or_true]

theorem bitAt_and_rest (v : Word) : bitAt (v &&& 0x7FFFFFFF) 31 = false := by
  unfold bitAt; rw [BitVec.getLsbD_and, show (0x7FFFFFFF : Word).getLsbD 31 = false from rfl, Bool.and_false]

/-- A mask without the highest bit does not tell such words apart. -/
theorem SameRest.and_eq {x y m : Word} (h : SameRest x y) (hm : m.getLsbD 31 = false) : x &&& m = y &&& m := by
  refine BitVec.eq_of_getLsbD_eq fun i hi => ?_
  rw [BitVec.getLsbD_and, BitVec.getLsbD_and]
  by_cases e : i = 31
  · rw [e, hm, Bool.and_false, Bool.and_false]
  · exact congrArg (· && m.getLsbD i) (h i (Nat.lt_of_le_of_ne (Nat.le_of_lt_succ hi) e))

theorem SameRest.xor {x y : Word} (h : SameRest x y) (w : Word) : SameRest (w ^^^ x) (w ^^^ y) := fun i hi => by
  unfold bitAt
  rw [BitVec.getLsbD_xor, BitVec.getLsbD_xor]
  exact congrArg (w.getLsbD i ^^ ·) (h i hi)

/-! ### Flags, records and refusals -/

section
variable {P : Nat → Prop} {s t : State}

theorem Writes.canFlag (h : Writes P s t) {c : Nat} (i : Nat) (hp : P (Reg.CAN_ISTAT c)) : Writes P s (t.canFlag c i) := by
  unfold State.canFlag
  dsimp only
  split
  · exact (h.putBit _ _ hp).irq _
  · exact h.putBit _ _ hp

theorem Writes.canLog (h : Writes P s t) (c code p0 p1 : Nat) : Writes P s (t.canLog c code p0 p1) := (h.irq _).log _ _ _ _

theorem Writes.canDeny (h : Writes P s t) {c : Nat} (off cause : Nat) (hp : P (Reg.CAN_ISTAT c)) : Writes P s (t.canDeny c off cause) :=
  (h.canFlag 7 hp).canLog _ _ _ _

end

section
variable (s : State) (c : Fin 4)

theorem istat_quiet : ¬ Signals (Reg.CAN_ISTAT c.val) := not_signals (Nat.le_add_right_of_le (by decide))

theorem canFlag_shows (i : Nat) (hi : i < 32) : (s.canFlag c.val i).bit (Reg.CAN_ISTAT c.val) i = true := by
  have hset : (s.putBit (Reg.CAN_ISTAT c.val) i true).bit (Reg.CAN_ISTAT c.val) i = true := by
    rw [State.bit_putBit _ _ _ _ _ _ hi, if_pos ⟨rfl, rfl⟩]
  unfold State.canFlag
  dsimp only
  split
  · exact ((Writes.refl (fun _ => False) _).irq _).bit _ id (istat_quiet c) |>.trans hset
  · exact hset

/-- A record of a controller raises its interrupt. -/
theorem canLog_raises (code p0 p1 : Nat) : (s.canLog c.val code p0 p1).bit Reg.INT_STAT_LO (20 + c.val) = true :=
  (State.bit_log _ _ _ _ _ _ _ (by decide)).trans (State.bit_irq_lo _ _ _ (.inl ⟨rfl, Nat.lt_trans (Nat.add_lt_add_left c.isLt 20) (by decide)⟩))

/-- A discarded write or command sets CFG_DENY, raises the controller's interrupt and changes nothing else (R474, R489). -/
theorem canDeny_shows (off cause : Nat) : let t := s.canDeny c.val off cause
    t.bit (Reg.CAN_ISTAT c.val) 7 = true ∧ t.bit Reg.INT_STAT_LO (20 + c.val) = true ∧ t.cans = s.cans ∧
    OnlyRegsSig s t [Reg.CAN_ISTAT c.val] :=
  ⟨(((Writes.refl (fun _ => False) _).canLog _ _ _ _).bit _ id (istat_quiet c)).trans
      (canFlag_shows s c 7 (by decide)),
    canLog_raises _ _ _ _ _, (State.canDeny_ag s _ _ _).cans rfl,
    ((Writes.refl (fun a => a ∈ [Reg.CAN_ISTAT c.val]) s).canDeny _ _ (by simp)).rd⟩

end

/-! ### Objects -/

/-- A number read in two places. -/
theorem places_inj {a b x y n : Nat} (hx : x < n) (hy : y < n) (h : a * n + x = b * n + y) : a = b ∧ x = y := by
  have hdiv := congrArg (· / n) h
  have hmod := congrArg (· % n) h
  simp only [Nat.mul_add_mod_self_right, Nat.mod_eq_of_lt hx, Nat.mod_eq_of_lt hy] at hmod
  rw [hmod] at h
  exact ⟨Nat.eq_of_mul_eq_mul_right (Nat.zero_lt_of_lt hx) (Nat.add_right_cancel h), hmod⟩

theorem canObj_inj {c m w d n x : Nat} (hm : m < 128) (hn : n < 128) (hw : w < 32) (hx : x < 32) (h : canObj c m w = canObj d n x) :
    c = d ∧ m = n ∧ w = x := by
  have hword {w : Nat} (hw : w < 32) : 4 * w < 128 := (Nat.mul_lt_mul_left (by decide)).2 hw
  have hlow {m w : Nat} (hm : m < 128) (hw : w < 32) : m * 128 + 4 * w < 32768 :=
    calc m * 128 + 4 * w < m * 128 + 128 := Nat.add_lt_add_left (hword hw) _
      _ = (m + 1) * 128 := (Nat.succ_mul m 128).symm
      _ ≤ 256 * 128 := Nat.mul_le_mul_right 128 (Nat.le_trans hm (by decide))
  unfold canObj at h
  rw [Nat.add_assoc _ (m * 128), Nat.add_assoc _ (n * 128), Nat.add_assoc, Nat.add_assoc] at h
  obtain ⟨hc, hrest⟩ := places_inj (hlow hm hw) (hlow hn hx) (Nat.add_left_cancel h)
  obtain ⟨hmn, hwx⟩ := places_inj (hword hw) (hword hx) hrest
  exact ⟨hc, hmn, Nat.eq_of_mul_eq_mul_left (by decide) hwx⟩

theorem canObj_high (c m w : Nat) : 0xA3000000 ≤ canObj c m w :=
  Nat.le_trans (Nat.le_trans (Nat.le_add_right _ _) (Nat.le_add_right _ _)) (Nat.le_add_right _ _)

theorem canPend_bounds (c : Fin 4) {i : Nat} (hi : i < 4) :
    Reg.CAN_PEND c.val 0 ≤ Reg.CAN_PEND c.val i ∧ Reg.CAN_PEND c.val i < Reg.CAN_NEW c.val 0 :=
  (by decide : ∀ c i : Fin 4, Reg.CAN_PEND c.val 0 ≤ Reg.CAN_PEND c.val i.val ∧ Reg.CAN_PEND c.val i.val < Reg.CAN_NEW c.val 0) c ⟨i, hi⟩

theorem canNew_low (c : Fin 4) {i : Nat} (hi : i < 4) : Reg.CAN_NEW c.val i < 0xA3000000 :=
  (by decide : ∀ c i : Fin 4, Reg.CAN_NEW c.val i.val < 0xA3000000) c ⟨i, hi⟩

theorem canPend_low (c : Fin 4) {i : Nat} (hi : i < 4) : Reg.CAN_PEND c.val i < 0xA3000000 :=
  Nat.lt_trans (canPend_bounds c hi).2 (canNew_low c (by decide))

theorem objWord_lt {m : Nat} (hm : m < 128) : m / 32 < 4 := Nat.div_lt_of_lt_mul hm

/-- The registers in which an object's state shows: W3 of the object and CAN_PEND. -/
def ObjKeys (c a : Nat) : Prop := 0xA3000000 ≤ a ∨ (Reg.CAN_PEND c 0 ≤ a ∧ a < Reg.CAN_NEW c 0)

section
variable (s : State) (c : Fin 4) {m n : Nat}

theorem rd_setObj (st k : Nat) (h : canObj c.val m 3 ≠ k) (h' : Reg.CAN_PEND c.val (m / 32) ≠ k) : (s.setObj c.val m st).rd k = s.rd k := by
  unfold State.setObj
  rw [State.rd_putBit_ne _ _ _ _ _ h', State.rd_put, if_neg h]

/-- No register below 0xA3000000 is a word of an object. -/
theorem ne_canObj {a d : Nat} (ha : a < 0xA3000000) (m w : Nat) : a ≠ canObj d m w := Nat.ne_of_lt (Nat.lt_of_lt_of_le ha (canObj_high d m w))

theorem canObj_ne_pend (m w i : Nat) (hi : i < 4) : Reg.CAN_PEND c.val i ≠ canObj c.val m w := ne_canObj (canPend_low c hi) m w

/-- An object put into a state shows it, and no other object does. -/
theorem objState_setObj (d : Fin 4) (st : Nat) (hst : st < 8) (hm : m < 128) (hn : n < 128) :
    (s.setObj c.val m st).objState d.val n = if c = d ∧ m = n then st else s.objState d.val n := by
  have hpend : Reg.CAN_PEND c.val (m / 32) ≠ canObj d.val n 3 := ne_canObj (canPend_low c (objWord_lt hm)) n 3
  unfold State.objState State.setObj
  rw [State.fld_putBit_apart _ _ _ _ _ _ _ (Nat.mod_lt _ (by decide)) (by decide) (.inl hpend)]
  split
  · next h =>
    rw [h.1, h.2, State.fld_put_same _ _ _ _ _ (by decide) (by decide)]
    exact Nat.mod_eq_of_lt hst
  · next h =>
    refine State.fld_put_ne _ _ _ _ _ _ _ _ fun e => h ?_
    obtain ⟨hc, hn, -⟩ := canObj_inj hm hn (by decide) (by decide) e
    exact ⟨Fin.ext hc, hn⟩

theorem pend_setObj (st : Nat) : (s.setObj c.val m st).bit (Reg.CAN_PEND c.val (m / 32)) (m % 32) = decide (st = 1 ∨ st = 2 ∨ st = 6) := by
  unfold State.setObj
  rw [State.bit_putBit _ _ _ _ _ _ (Nat.mod_lt _ (by decide)), if_pos ⟨rfl, rfl⟩]

theorem setObj_only (st : Nat) {t : State} {xs : List Nat} (h : OnlyRegs s t xs) (h0 : canObj c.val m 3 ∈ xs)
    (h1 : Reg.CAN_PEND c.val (m / 32) ∈ xs) : OnlyRegs s (t.setObj c.val m st) xs := (h.wr _ h0).wr _ h1

/-- Of objects put into one state each shows it. -/
theorem objState_setObjs (d : Fin 4) (st : Nat) (hst : st < 8) (hn : n < 128) (l : List Nat) (hl : ∀ m ∈ l, m < 128) :
    (l.foldl (fun t m => t.setObj c.val m st) s).objState d.val n = if c = d ∧ n ∈ l then st else s.objState d.val n := by
  induction l using List.reverseRecOn with
  | nil => exact (if_neg fun h => List.not_mem_nil h.2).symm
  | append_singleton l m ih =>
    rw [List.foldl_append, List.foldl_cons, List.foldl_nil, objState_setObj _ _ _ _ hst (hl m (List.mem_append_right _ (List.mem_singleton_self m))) hn,
      ih fun m hm => hl m (List.mem_append_left _ hm)]
    split
    · next h => exact (if_pos ⟨h.1, List.mem_append_right _ (List.mem_singleton.2 h.2.symm)⟩).symm
    · next h =>
      refine ite_congr (propext (and_congr_right fun hc => ?_)) (fun _ => rfl) fun _ => rfl
      rw [List.mem_append, List.mem_singleton, or_iff_left fun e => h ⟨hc, e.symm⟩]

theorem mem_objsIn (st : Nat) : n ∈ s.objsIn c.val st ↔ n < 128 ∧ s.objState c.val n = st := by
  unfold State.objsIn idxWhere
  simp

/-- Moving the objects of one state to another. -/
theorem objState_moveObjs (d : Fin 4) (a b : Nat) (hb : b < 8) (hn : n < 128) :
    (s.moveObjs c.val a b).objState d.val n = if c = d ∧ s.objState d.val n = a then b else s.objState d.val n := by
  unfold State.moveObjs
  rw [objState_setObjs _ _ _ _ hb hn _ fun m hm => ((mem_objsIn s c a).1 hm).1]
  refine ite_congr (propext (and_congr_right fun hc => ?_)) (fun _ => rfl) fun _ => rfl
  rw [mem_objsIn, ← hc, and_iff_right hn]

end

section
variable {P : Nat → Prop} {s t : State} (c : Fin 4)

theorem Writes.setObj (h : Writes P s t) {m : Nat} (st : Nat) (h0 : P (canObj c.val m 3)) (h1 : P (Reg.CAN_PEND c.val (m / 32))) :
    Writes P s (t.setObj c.val m st) := (h.put _ _ _ h0).putBit _ _ h1

theorem Writes.moveObjs (h : Writes P s t) (a b : Nat) (hp : ∀ k, ObjKeys c.val k → P k) : Writes P s (t.moveObjs c.val a b) := by
  unfold State.moveObjs
  refine h.foldl fun u m hm hu => hu.setObj c b (hp _ (.inl ?_)) (hp _ (.inr ?_))
  · exact canObj_high _ _ _
  · exact canPend_bounds c (objWord_lt ((mem_objsIn t c a).1 hm).1)

end

end Sys2Proof.Machine
end

section
/-!
A package that becomes a standby (chapter 16) and its CAN objects (R490).
-/
namespace Sys2Proof.Machine
open Sys2Proof

/-- What a change of the role does to one CAN controller. -/
def State.canRoleAt (t : State) (c : Nat) : State :=
  if t.sapwood then ((t.putBit (Reg.CAN_STAT c) 27 true).moveObjs c 1 0).moveObjs c 6 0 else when (!t.canBusBusy c) (fun u => u.canIdle c) t

theorem canRole_eq (s : State) : s.canRole = (((s.canRoleAt 0).canRoleAt 1).canRoleAt 2).canRoleAt 3 := rfl

section
variable (t : State) (c d : Fin 4)

theorem canRoleAt_of_sapwood (h : t.sapwood = true) :
    t.canRoleAt c.val = ((t.putBit (Reg.CAN_STAT c.val) 27 true).moveObjs c.val 1 0).moveObjs c.val 6 0 := if_pos h

theorem canStat_low : Reg.CAN_STAT c.val < 0xA3000000 := (by decide : ∀ c : Fin 4, Reg.CAN_STAT c.val < 0xA3000000) c

/-- A standby stays one. -/
theorem sapwood_canRoleAt (h : t.sapwood = true) : (t.canRoleAt c.val).sapwood = true := by
  have hw : Writes (fun k => 0x20000 ≤ k) t (t.canRoleAt c.val) := by
    have hkeys : ∀ k, ObjKeys c.val k → 0x20000 ≤ k := by
      rintro k (hk | ⟨hk, -⟩)
      · exact Nat.le_trans (by decide) hk
      · exact Nat.le_trans (Nat.le_add_right_of_le (Nat.le_add_right_of_le (by decide))) hk
    rw [canRoleAt_of_sapwood t c h]
    have hstat : 0x20000 ≤ Reg.CAN_STAT c.val := Nat.le_add_right_of_le (by decide)
    exact (((Writes.refl _ t).putBit 27 true hstat).moveObjs c 1 0 hkeys).moveObjs c 6 0 hkeys
  rw [← h]
  unfold State.sapwood State.heart State.paired State.role
  rw [hw.bit 31 (by decide) (not_signals (by decide)), hw.fld 31 29 (by decide) (not_signals (by decide))]

/-- A standby's objects that would be sent leave that state. -/
theorem objState_canRoleAt (h : t.sapwood = true) {n : Nat} (hn : n < 128) : (t.canRoleAt c.val).objState d.val n =
    if c = d ∧ (t.objState d.val n = 1 ∨ t.objState d.val n = 6) then 0 else t.objState d.val n := by
  have hstat : (t.putBit (Reg.CAN_STAT c.val) 27 true).objState d.val n = t.objState d.val n :=
    State.fld_putBit_apart _ _ _ _ _ _ _ (by decide) (by decide) (.inl (ne_canObj (canStat_low c) _ _))
  rw [canRoleAt_of_sapwood t c h, objState_moveObjs _ _ _ _ _ (by decide) hn, objState_moveObjs _ _ _ _ _ (by decide) hn, hstat]
  generalize t.objState d.val n = x
  by_cases hc : c = d
  · by_cases h1 : x = 1
    · simp [hc, h1]
    · simp [hc, h1]
  · simp [hc]

end

/-- In a package that has become a standby no object of CAN_0 is PENDING. -/
theorem objState_canRole (s : State) (h : s.sapwood = true) {n : Nat} (hn : n < 128) (hp : s.objState 0 n = 1) : s.canRole.objState 0 n = 0 := by
  have h0 := sapwood_canRoleAt s 0 h
  have h1 := sapwood_canRoleAt _ 1 h0
  have h2 := sapwood_canRoleAt _ 2 h1
  have e0 : (s.canRoleAt 0).objState 0 n = 0 := (objState_canRoleAt s 0 0 h hn).trans (if_pos ⟨rfl, .inl hp⟩)
  have e1 := (objState_canRoleAt _ 1 0 h0 hn).trans (if_neg (by simp))
  have e2 := (objState_canRoleAt _ 2 0 h1 hn).trans (if_neg (by simp))
  have e3 := (objState_canRoleAt _ 3 0 h2 hn).trans (if_neg (by simp))
  rw [canRole_eq]
  exact e3.trans (e2.trans (e1.trans e0))

/-! ### PAIRED written while an object is pending -/

/-- Object 0 of CAN_0 is PENDING in a single package before PROTECTION_READY. -/
def pendingSingle : State := { running with regs := [(0xA300000C, 0x20000000)] }

/-- The package with PAIRED written, before its CAN controllers follow. -/
def pendingPaired : State := (pendingSingle.wr Reg.PAIR_CFG 0x80000000).fioRole

theorem pendingSingle_paired :
    pendingSingle.bit Reg.BOOT_STAT 31 = false ∧ pendingSingle.rd Reg.PAIR_CFG &&& 0x40000000 = 0 ∧ pendingSingle.objState 0 0 = 1 ∧
    pendingPaired.sapwood = true ∧ pendingPaired.objState 0 0 = 1 := by decide +kernel

/-- The clause on PAIR_CFG before PROTECTION_READY. -/
theorem pairCfg_clause (h : Obligations.PairRolesAndCommands) (s : State) (roleIn fieldOk : Bool) (fail : Option (Fin 48)) (v : Word) :
    s.bit Reg.BOOT_STAT 31 = false → ∃ t, exec (.pairCfgWrite v) s = .next t ∧
      OnlyRegs s t [Reg.PAIR_CFG, Reg.FIO_STAT, Reg.CAN_STAT 0, Reg.CAN_STAT 1, Reg.CAN_STAT 2, Reg.CAN_STAT 3] := by
  refine of_statement (h s roleIn fieldOk fail v) ?_
  extract_lets +onlyGivenNames p stat now Drives beatHere free asked idx ahead swapOk stands Refused
  refine (fun hcfg hready => ?_) ∘ And.right ∘ And.right ∘ And.right ∘ And.right ∘ And.right ∘ And.right ∘ And.right ∘ And.right ∘ And.right ∘ And.right ∘ And.right ∘ And.right ∘
    And.right ∘ And.right ∘ And.right ∘ And.right ∘ And.right ∘ And.right ∘ And.right ∘ And.right ∘ And.right ∘ And.right ∘ And.right
  exact (hcfg.1 hready).imp fun t => And.imp_right (And.left ∘ And.right)

/-- Refutes O55: a write of PAIR_CFG that sets PAIRED is said to change CAN_STAT alone of the CAN controllers. The package becomes a standby, in
which no object stays pending (R490), and W3 of a pending object changes too. -/
theorem not_pairRolesAndCommands : ¬ Obligations.PairRolesAndCommands := by
  intro h
  obtain ⟨hready, hpref, hbefore, hsap, hpend⟩ := pendingSingle_paired
  obtain ⟨t, ht, honly⟩ := pairCfg_clause h pendingSingle false false none 0x80000000 hready
  have hnext : pendingSingle.pairCfgWrite 0x80000000 = t := Host.Outcome.next.inj ht
  have hwrite : pendingSingle.pairCfgWrite 0x80000000 = pendingPaired.canRole := by
    unfold State.pairCfgWrite pendingPaired
    simp only [hready, hpref, Bool.false_and, Bool.false_eq_true, if_false]
    rfl
  have hkept : t.objState 0 0 = pendingSingle.objState 0 0 := by
    unfold State.objState State.fld
    rw [honly _ (by decide)]
  rw [← hnext, hwrite, objState_canRole _ hsap (by decide) hpend, hbefore] at hkept
  exact absurd hkept (by decide)

end Sys2Proof.Machine
end

section
/-!
The release of a region whose part of the CFG image flushes a wavefront FIFO (R594, R598).
-/
namespace Sys2Proof.Machine
open Sys2Proof

/-! ### Reads of MRAM -/

section
variable {s t : State} (h : t.mram = s.mram)
include h

/-- What is read of MRAM rests on its bytes alone. -/
theorem mbs_congr (n a : Nat) : t.mbs n a = s.mbs n a := by
  induction n generalizing a with
  | zero => rfl
  | succ n ih => exact congrArg₂ List.cons (congrArg (SMap.get (fun _ => (0 : Byte)) · a) h) (ih (a + 1))

theorem mw_congr (a : Nat) : t.mw a = s.mw a := by
  unfold State.mw; rw [mbs_congr h]

theorem mN_congr (a : Nat) : t.mN a = s.mN a := congrArg BitVec.toNat (mw_congr h a)

theorem mB_congr (a : Nat) : t.mB a = s.mB a := by
  unfold State.mB State.mb; rw [h]

theorem mH_congr (a : Nat) : t.mH a = s.mH a := by
  unfold State.mH; rw [mN_congr h]

end

/-! ### A flushing write of CFG -/

/-- A wavefront FIFO that has become empty draws the free values of its head registers. -/
theorem freeCtr_wfShow (s : State) (c : Nat) (hwf : (s.det c).wf = []) (hcount : s.fld (Reg.WF_STAT c) 4 0 ≠ 0) :
    (s.wfShow c).freeCtr = s.freeCtr + 1 := by
  unfold State.wfShow
  simp only [hwf, hcount, if_false]
  exact congrArg (· + 1) (((Agree.refl 1 _).foldl (fun t i ht => ht.then (State.wr_ag t _ _) rfl)).freeCtr rfl)

/-- A write of WF_CMD of a cluster with FLUSH. -/
theorem freeCtr_flush (s : State) (c : Nat) (hcount : s.fld (Reg.WF_STAT c) 4 0 ≠ 0) :
    (s.clusterWrite .sup0 c 0x80144 4 2).freeCtr = s.freeCtr + 1 := by
  have hdet : s.clusterWrite .sup0 c 0x80144 4 2 = (s.detMod c (fun d => { d with wf := [], wfOver := false })).wfShow c := rfl
  rw [hdet]
  refine freeCtr_wfShow _ c ?_ hcount
  unfold State.detMod
  rw [State.det_setDet, if_pos rfl]

/-- A watched action draws what the action draws, from a state in which its flags are clear. -/
theorem freeCtr_watched (s : State) (fl : List (Nat × Word)) (f : State → State) {n : Nat}
    (hf : ∀ t : State, t.freeCtr = s.freeCtr → (∀ k, (∀ x ∈ fl, x.1 ≠ k) → t.rd k = s.rd k) → (f t).freeCtr = n) : (s.watched fl f).1.freeCtr = n := by
  unfold State.watched
  refine (((Agree.refl 1 _).foldl (fun t i ht => ht.then (State.wr_ag t _ _) rfl)).freeCtr rfl).trans (hf _ ?_ ?_)
  · exact ((Agree.refl 1 s).foldl (fun t i ht => ht.then (State.wr_ag t _ _) rfl)).freeCtr rfl
  · intro k hk
    exact List.foldlRecOn (motive := fun t : State => t.rd k = s.rd k) fl _ rfl fun t ht x hx => by
      rw [State.rd_wr, if_neg (hk x hx)]; exact ht

/-- Such a write of the CFG image, where the region of the cluster runs. -/
theorem freeCtr_cfgFlush (s : State) (hruns : s.regionRuns 0 = true) (hcount : s.fld (Reg.WF_STAT 0) 4 0 ≠ 0) :
    (s.cfgInd 0x10080144 2).1.freeCtr = s.freeCtr + 1 := by
  have hcause : s.indCause 0x10080144 0x10080144 4 = none := by
    unfold State.indCause
    rw [show indRange 0x10080144 = some (0x10080000, false) from rfl]
    simp [hruns]
  have hwrite : (s.cfgInd 0x10080144 2).1 = (s.watched (denyFlags (clusterKey 0 0)) (fun t => t.clusterWrite .sup0 0 0x80144 4 2)).1 := by
    unfold State.cfgInd
    rw [hcause]
    rfl
  rw [hwrite]
  refine freeCtr_watched s _ _ fun t hfree hrd => ?_
  rw [freeCtr_flush t 0 ?_, hfree]
  unfold State.fld
  rw [hrd _ (by decide)]
  exact hcount

/-! ### Region 0 leaves its reset -/

/-- The trims of a channel show in its stitch state and in the state of its die. -/
theorem Writes.loadTrim {P : Nat → Prop} {s t : State} (h : Writes P s t) (ch : Nat) (h0 : P (kSST ch)) (h1 : P (Reg.AFE_STAT (dieOf ch))) :
    Writes P s (t.loadTrim ch) := by
  unfold State.loadTrim
  dsimp only
  split
  · exact ((((h.putBit _ _ h0).putBit _ _ h0).putBit _ _ h1).irq _).log _ _ _ _
  · exact h.putBit _ _ h0

theorem Writes.loadTrims {P : Nat → Prop} {s t : State} (h : Writes P s t) (r : Nat) (hp : ∀ l, l < 32 → P (kSST (32 * r + l)))
    (hd : ∀ l, l < 32 → P (Reg.AFE_STAT (dieOf (32 * r + l)))) : Writes P s (t.loadTrims r) :=
  h.foldl fun _ _ hl hu => hu.loadTrim _ (hp _ (List.mem_range.1 hl)) (hd _ (List.mem_range.1 hl))

/-- The lanes of a region as its reset ends. -/
def State.regionLanes (s : State) (r : Nat) : State :=
  let per := s.diePeriod r
  let s := s.setHeldRegs (s.heldRegs.filter (fun x => decide (x ≠ r)))
  (List.range 32).foldl (fun t l =>
    let ch := 32 * r + l
    (t.laneMod ch (fun x => { x.lose (chainCfg (t.rd (kCFG ch))).p per with starts := (s.tick.runs :: x.starts).take 4096 })).requestChain ch 7) s

/-- The region's lanes and trims, before its part of CFG is applied. -/
def State.regionWoken (s : State) (r : Nat) : State := (s.regionLanes r).loadTrims r

theorem regionLanes_ag (s : State) (r : Nat) : Agree 2097152 (s.setHeldRegs (s.heldRegs.filter (fun x => decide (x ≠ r)))) (s.regionLanes r) :=
  (Agree.refl 2097152 _).foldl fun t _ ht => (ht.then (State.laneMod_ag t _ _) rfl).then (State.requestChain_ag _ _ _) rfl

theorem regionWoken_ag (s : State) (r : Nat) :
    Agree 2122241 (s.setHeldRegs (s.heldRegs.filter (fun x => decide (x ≠ r)))) (s.regionWoken r) :=
  (((Agree.refl 2122241 _).then (regionLanes_ag s r) rfl).then (State.loadTrims_ag _ r) rfl)

/-- CFG's writes for the region as it leaves its reset (R594). -/
def State.regionConfigured (u : State) (r : Nat) : State :=
  if u.power.boot.cfgDone then
    let b := u.power.boot.cfgEnv
    let at_ := b + 4 + 4 * u.mN b
    let ifds := (u.cfgIfds (at_ + 4) (u.mN at_)).filter (fun c => decide (c / 4 = r))
    ifds.foldl (fun t c => t.ifdRestart c) (u.cfgRegion r (at_ + 4) (u.mN at_))
  else u

/-- The images of the region are queued for the boot service, and the end of the reset is reported. -/
def State.regionReported (s : State) (r : Nat) : State :=
  let es := ((List.range 4).map (fun i => 4 + 4 * r + i)).filter (fun e => (s.dirEntry e).isSome && !s.power.boot.todo.contains e)
  let s := s.bootMod (fun b => { b with todo := b.todo ++ es, loaded := es.foldl (fun m e => if m.testBit e then m - 2 ^ e else m) b.loaded })
  (s.irq (16 + r)).log 0x217 r s.tick.idx 0

theorem regionRelease_eq (s : State) (r : Nat) : s.regionRelease r = ((s.regionWoken r).regionConfigured r).regionReported r := by
  unfold State.regionRelease State.regionWoken State.regionLanes State.regionConfigured State.regionReported
  rfl

theorem regionReported_ag (s : State) (r : Nat) : Agree 281474976735745 s (s.regionReported r) := by
  unfold State.regionReported
  extract_lets es u
  have hu : Agree 281474976735745 s u := (Agree.refl _ s).then (State.bootMod_ag s _) (by decide)
  clear_value u
  exact (hu.then (State.irq_ag u _) (by decide)).then (State.log_ag _ _ _ _ _) (by decide)

/-- The release draws what CFG's writes draw. -/
theorem freeCtr_regionRelease (s : State) (r : Nat) : (s.regionRelease r).freeCtr = ((s.regionWoken r).regionConfigured r).freeCtr := by
  rw [regionRelease_eq]
  exact (regionReported_ag _ r).freeCtr rfl

theorem regionConfigured_eq (u : State) (r : Nat) (hcfg : u.power.boot.cfgDone = true) :
    ∃ ifds : List Nat, u.regionConfigured r = ifds.foldl (fun t c => t.ifdRestart c)
      (u.cfgRegion r (u.power.boot.cfgEnv + 4 + 4 * u.mN u.power.boot.cfgEnv + 4)
        (u.mN (u.power.boot.cfgEnv + 4 + 4 * u.mN u.power.boot.cfgEnv))) := ⟨_, if_pos hcfg⟩

theorem freeCtr_ifdRestarts (u : State) (ifds : List Nat) : (ifds.foldl (fun t c => t.ifdRestart c) u).freeCtr = u.freeCtr :=
  ((Agree.refl 8724177409 u).foldl fun t c ht => ht.then (State.ifdRestart_ag t c) rfl).freeCtr rfl

/-- The words of the flushing image. -/
def flushMram : SMap Byte := [(4, 1), (8, 0x44), (9, 0x01), (10, 0x08), (11, 0x90), (12, 2)]

theorem flushMram_words (s : State) (h : s.mram = flushMram) : s.mN 0 = 0 ∧ s.mN 4 = 1 ∧ s.mw 8 = 0x90080144 ∧ s.mw 12 = 2 := by
  have hwords : let u : State := { State.reset with mram := flushMram }
      u.mN 0 = 0 ∧ u.mN 4 = 1 ∧ u.mw 8 = 0x90080144 ∧ u.mw 12 = 2 := by decide +kernel
  rw [mN_congr (s := { State.reset with mram := flushMram }) h, mN_congr (s := { State.reset with mram := flushMram }) h,
    mw_congr (s := { State.reset with mram := flushMram }) h, mw_congr (s := { State.reset with mram := flushMram }) h]
  exact hwords

/-- A register that no trim shows in. -/
theorem rd_regionWoken (s : State) (r : Nat) {k : Nat} (hs : ∀ ch, kSST ch ≠ k)
    (hd : ∀ l, l < 32 → Reg.AFE_STAT (dieOf (32 * r + l)) ≠ k) (hk : ¬ Signals k) :
    (s.regionWoken r).rd k = s.rd k :=
  (((Writes.refl (fun a => a ≠ k) _).loadTrims r (fun _ _ => hs _) hd).rd k (fun h => h rfl) hk).trans ((regionLanes_ag s r).rd k rfl)

/-- Within its 4 KB block a stitch state lies at 0x804. -/
theorem kSST_mod (ch : Nat) : kSST ch % 0x1000 = 0x804 := by
  have hblock : 0x1000 ∣ (0x90000000 + clOf ch * 0x200000) + (0x50000 + lnOf ch * 0x1000) :=
    Nat.dvd_add (Nat.dvd_add (by decide) (Nat.dvd_mul_left_of_dvd (by decide) _)) (Nat.dvd_add (by decide) (Nat.dvd_mul_left _ _))
  unfold kSST laneKey clusterKey
  rw [← Nat.add_assoc, Nat.add_mod, Nat.mod_eq_zero_of_dvd hblock]

theorem kSST_ne {k : Nat} (hk : k % 0x1000 ≠ 0x804) (ch : Nat) : kSST ch ≠ k := fun h => hk (h ▸ kSST_mod ch)

/-- Region 0 is held in reset; the CFG image at 0 has no claims and one write, of WF_CMD of cluster 0 with FLUSH; WF_STAT counts an entry. -/
def flushingConfig : State :=
  { running with
      regs := [(0x90080140, 1)], heldRegs := [0],
      mram := flushMram,
      power := { PowerU.init with cause := 0, boot := { BootU.init with cfgDone := true } } }

/-- CFG's flushing write is applied. -/
theorem freeCtr_flushingConfig (u : State) (hmram : u.mram = flushMram) (hcfg : u.power.boot.cfgDone = true) (hbase : u.power.boot.cfgEnv = 0)
    (hruns : u.regionRuns 0 = true) (hcount : u.fld (Reg.WF_STAT 0) 4 0 ≠ 0) : (u.regionConfigured 0).freeCtr = u.freeCtr + 1 := by
  obtain ⟨hnc, hnw, hw, hv⟩ := flushMram_words u hmram
  have happly : u.cfgRegion 0 8 1 = (u.cfgInd 0x10080144 2).1 := by
    unfold State.cfgRegion State.cfgRegion
    rw [hw, hv]
    exact if_pos (by decide)
  obtain ⟨ifds, hdone⟩ := regionConfigured_eq u 0 hcfg
  rw [hdone, freeCtr_ifdRestarts, hbase, hnc, hnw]
  exact (congrArg State.freeCtr happly).trans (freeCtr_cfgFlush u hruns hcount)

/-- The flushing write is applied as the region leaves its reset. -/
theorem freeCtr_flushingRelease (s : State) (hmram : s.mram = flushMram) (hcfg : s.power.boot.cfgDone = true) (hbase : s.power.boot.cfgEnv = 0)
    (hheld : s.heldRegs = [0]) (hon : s.bit (Reg.REG_STAT 0) 19 = false) (hcount : s.fld (Reg.WF_STAT 0) 4 0 ≠ 0) :
    (s.regionRelease 0).freeCtr = s.freeCtr + 1 := by
  have hag := regionWoken_ag s 0
  have hpower : (s.regionWoken 0).power = s.power := hag.power rfl
  have hstat : (s.regionWoken 0).bit (Reg.REG_STAT 0) 19 = s.bit (Reg.REG_STAT 0) 19 :=
    congrArg (bitAt · 19) (rd_regionWoken s 0 (kSST_ne (by decide)) (by decide) (by unfold Signals; decide))
  have hwf : (s.regionWoken 0).fld (Reg.WF_STAT 0) 4 0 = s.fld (Reg.WF_STAT 0) 4 0 :=
    congrArg (field · 4 0) (rd_regionWoken s 0 (kSST_ne (by decide)) (by decide) (not_signals (by decide)))
  have hfree : (s.regionWoken 0).heldRegs = [] := (hag.heldRegs rfl).trans (congrArg (List.filter _) hheld)
  refine (freeCtr_regionRelease s 0).trans ((freeCtr_flushingConfig _ ((hag.mram rfl).trans hmram) ?_ ?_ ?_ ?_).trans
    (congrArg (· + 1) (hag.freeCtr rfl)))
  · rw [hpower]; exact hcfg
  · rw [hpower]; exact hbase
  · unfold State.regionRuns
    rw [hstat, hon, hfree]
    rfl
  · rw [hwf]; exact hcount

/-- The clause on the end of a region's reset. -/
theorem regionRelease_clause (h : Obligations.ResetsAndWatchdog) (s : State) (r : Fin 4) (v : Word) (pref : RstPins) (spi : Bool) :
    r.val ∈ s.heldRegs → ∃ t, exec (.regionResetRelease r) s = .next t ∧ t.freeCtr = s.freeCtr := by
  refine of_statement (h s r v pref spi) ?_
  extract_lets +onlyGivenNames p rst Cleared Released Holds key
  refine (fun hrelease hheld => ?_) ∘ And.left ∘ And.right ∘ And.right ∘ And.right ∘ And.right ∘ And.right
  exact (hrelease hheld).imp fun t => And.imp_right ((fun ht => by rw [ht]) ∘ And.right ∘ And.right)

/-- Refutes O59: the release of a region's reset is said to draw no free value. The region's part of CFG is applied again, and a write of it
that flushes a wavefront FIFO leaves values in the head registers that the manual does not state. -/
theorem not_resetsAndWatchdog : ¬ Obligations.ResetsAndWatchdog := by
  intro h
  let u := flushingConfig.reachCnt (SMap.get (fun _ => 0) flushingConfig.power.heldAt 0 + 5000)
  have hag : Agree 32769 flushingConfig u := State.reachCnt_ag _ _
  have hclock : Writes ClockKeys flushingConfig u := pass_writes _ _
  obtain ⟨t, ht, hkept⟩ := regionRelease_clause h flushingConfig 0 0 { pref := false, testEn := false } false (by decide)
  have hnext : u.regionRelease 0 = t := (if_pos (by decide)).symm.trans (Host.Outcome.next.inj ht)
  have hdrawn : (u.regionRelease 0).freeCtr = u.freeCtr + 1 := by
    refine freeCtr_flushingRelease u ((hag.mram rfl).trans rfl) ?_ ?_ ((hag.heldRegs rfl).trans rfl) ?_ ?_
    · rw [hag.power rfl]; rfl
    · rw [hag.power rfl]; rfl
    · rw [hclock.bit 19 (by unfold ClockKeys; decide) (by unfold Signals; decide)]; decide +kernel
    · rw [hclock.fld 4 0 (by unfold ClockKeys; decide) (not_signals (by decide))]; decide +kernel
  rw [hnext, hkept, hag.freeCtr rfl] at hdrawn
  exact absurd hdrawn (by decide)

end Sys2Proof.Machine
end

section
/-!
CAN: INIT, joining the bus, bus-off recovery and the object windows (chapter 14).
-/
namespace Sys2Proof.Machine
open Sys2Proof

section
variable (s : State) (r : Req) (c : Fin 4) (v : Word)

theorem exec_canInitSet (h : s.served r = true) : exec (.canInitSet r c v) s = .next (s.canCtrlWrite c.val (v ||| 0x80000000)) :=
  access_served s r (f := fun s => s.canCtrlWrite c.val (v ||| 0x80000000)) h

theorem exec_canInitClear (h : s.served r = true) : exec (.canInitClear r c v) s = .next (s.canCtrlWrite c.val (v &&& 0x7FFFFFFF)) :=
  access_served s r (f := fun s => s.canCtrlWrite c.val (v &&& 0x7FFFFFFF)) h

theorem exec_canOcmdQueue (h : s.served r = true) : exec (.canOcmdQueue r c) s = .next (s.canOcmd r c.val r.window 1 false) :=
  access_served s r (f := fun s => s.canOcmd r c.val r.window 1 false) h

theorem exec_canOcmdCancel (sof : Bool) (h : s.served r = true) :
    exec (.canOcmdCancel r c sof) s = .next (s.canOcmd r c.val r.window 2 sof) :=
  access_served s r (f := fun s => s.canOcmd r c.val r.window 2 sof) h

theorem exec_canOcmdClearNew (h : s.served r = true) : exec (.canOcmdClearNew r c) s = .next (s.canOcmd r c.val r.window 3 false) :=
  access_served s r (f := fun s => s.canOcmd r c.val r.window 3 false) h

theorem exec_canOwinWrite (w : Fin 24) (h : s.served r = true) :
    exec (.canOwinWrite r c w v) s = .next (s.canOwinWrite r c.val r.window w.val v) :=
  access_served s r (f := fun s => s.canOwinWrite r c.val r.window w.val v) h

theorem exec_canOwinW3Read (h : s.served r = true) : exec (.canOwinW3Read r c) s = .next (s.canW3Read r c.val r.window) :=
  access_served s r (f := fun s => s.canW3Read r c.val r.window) h

theorem exec_canBusoffRecover (h : s.served r = true) : exec (.canBusoffRecover r c) s = .next (s.canRecover c.val) :=
  access_served s r (f := fun s => s.canRecover c.val) h

end

/-! ### A write of CAN_CTRL while INIT = 1 -/

theorem putField_top {x : Word} (h : bitAt x 31 = false) : putField (x ||| 0x80000000) 31 31 0 = x := by
  refine BitVec.eq_of_getLsbD_eq fun i hi => ?_
  have := bitAt_putField (x ||| 0x80000000) 31 31 0 i (by decide) (by decide)
  by_cases e : i = 31
  · subst e
    exact this.trans h.symm
  · have hlow : i < 31 := Nat.lt_of_le_of_ne (Nat.le_of_lt_succ hi) e
    exact this.trans ((if_neg fun hb => Nat.not_le.2 hlow hb.1).trans (sameRest_or x i hlow))

section
variable (s : State) (c : Fin 4) {v : Word}

/-- What the two timing registers of a controller say of leaving INIT. -/
def timingOf (n d : Word) : Bool :=
  let nt := (field n 7 0 + 1) * (3 + field n 17 10 + field n 24 18)
  let dt := (field d 4 0 + 1) * (3 + field d 12 8 + field d 19 16)
  decide (80 ≤ nt) && decide (10 ≤ dt) && decide (dt ≤ nt) && decide (1 ≤ field n 17 10) && decide (field n 31 25 ≤ field n 24 18) &&
    decide (field d 23 20 ≤ field d 19 16)

theorem canTimingOk_eq : s.canTimingOk c.val = timingOf (s.rd (Reg.CAN_NBT c.val)) (s.rd (Reg.CAN_DBT c.val)) := rfl

theorem canTimingOk_wr (w : Word) : (s.wr (Reg.CAN_CTRL c.val) w).canTimingOk c.val = s.canTimingOk c.val := by
  obtain ⟨hn, hd⟩ := (by decide : ∀ c : Fin 4, Reg.CAN_CTRL c.val ≠ Reg.CAN_NBT c.val ∧ Reg.CAN_CTRL c.val ≠ Reg.CAN_DBT c.val) c
  rw [canTimingOk_eq, State.rd_wr, State.rd_wr, if_neg hn, if_neg hd]
  rfl

/-- What such a write stores before INIT = 0 is tried. -/
def State.canCtrlStored (s : State) (c : Nat) (v : Word) : State := s.wr (Reg.CAN_CTRL c) ((v &&& 0x7E000000) ||| 0x80000000)

theorem canCtrlWrite_inInit (h : bitAt (s.rd (Reg.CAN_CTRL c.val)) 31 = true) : s.canCtrlWrite c.val v =
    if bitAt v 31 then s.canCtrlStored c.val v else if s.canTimingOk c.val then (s.canCtrlStored c.val v).putBit (Reg.CAN_CTRL c.val) 31 false
    else (s.canCtrlStored c.val v).canDeny c.val 0 2 := by
  unfold State.canCtrlWrite
  dsimp only
  rw [if_pos h, canTimingOk_wr]
  rfl

theorem canCtrlStored_rest {x y : Word} (h : SameRest x y) : s.canCtrlStored c.val x = s.canCtrlStored c.val y := by
  unfold State.canCtrlStored
  rw [h.and_eq (by decide)]

/-- INIT = 1 written while it stands: the mode bits take effect (R474). -/
theorem canInitSet_inInit (h : bitAt (s.rd (Reg.CAN_CTRL c.val)) 31 = true) : let t := s.canCtrlWrite c.val (v ||| 0x80000000)
    t.rd (Reg.CAN_CTRL c.val) = (v &&& 0x7E000000) ||| 0x80000000 ∧ OnlyRegs s t [Reg.CAN_CTRL c.val] ∧ t = { s with regs := t.regs } := by
  rw [canCtrlWrite_inInit s c h, if_pos (bitAt_or_top v), canCtrlStored_rest s c (sameRest_or v)]
  exact ⟨(State.rd_wr _ _ _ _).trans (if_pos rfl), (OnlyRegs.refl s _).wr _ (List.mem_singleton_self _), (State.wr_ag s _ _).eq_regs⟩

/-- INIT = 0 written with a timing that allows it. -/
theorem canInitClear_inInit (h : bitAt (s.rd (Reg.CAN_CTRL c.val)) 31 = true) (hok : s.canTimingOk c.val = true) :
    let t := s.canCtrlWrite c.val (v &&& 0x7FFFFFFF)
    t.rd (Reg.CAN_CTRL c.val) = v &&& 0x7E000000 ∧ OnlyRegs s t [Reg.CAN_CTRL c.val] ∧ t = { s with regs := t.regs } := by
  have htop : bitAt (v &&& 0x7E000000) 31 = false := by
    unfold bitAt; rw [BitVec.getLsbD_and, show (0x7E000000 : Word).getLsbD 31 = false from rfl, Bool.and_false]
  rw [canCtrlWrite_inInit s c h, if_neg (Bool.eq_false_iff.1 (bitAt_and_rest v)), if_pos hok, canCtrlStored_rest s c (sameRest_and v)]
  refine ⟨?_, ((OnlyRegs.refl s _).wr _ (List.mem_singleton_self _)).wr _ (List.mem_singleton_self _), ((Agree.refl 1 s).then (State.wr_ag s _ _) rfl |>.then (State.putBit_ag _ _ _ _) rfl).eq_regs⟩
  unfold State.canCtrlStored
  rw [State.rd_putBit, if_pos rfl, State.rd_wr, if_pos rfl]
  exact putField_top htop

/-- INIT = 0 written with a timing that does not allow it is denied. -/
theorem canInitClear_badTiming (h : bitAt (s.rd (Reg.CAN_CTRL c.val)) 31 = true) (hbad : s.canTimingOk c.val = false) :
    let t := s.canCtrlWrite c.val (v &&& 0x7FFFFFFF)
    t.bit (Reg.CAN_CTRL c.val) 31 = true ∧ t.bit (Reg.CAN_ISTAT c.val) 7 = true ∧ t.bit Reg.INT_STAT_LO (20 + c.val) = true ∧
    OnlyRegsSig s t [Reg.CAN_CTRL c.val, Reg.CAN_ISTAT c.val] := by
  rw [canCtrlWrite_inInit s c h, if_neg (Bool.eq_false_iff.1 (bitAt_and_rest v)), if_neg (Bool.eq_false_iff.1 hbad)]
  obtain ⟨hflag, hint, -, honly⟩ := canDeny_shows (s.canCtrlStored c.val (v &&& 0x7FFFFFFF)) c 0 2
  refine ⟨?_, hflag, hint, fun k hk hs => ?_⟩
  · unfold State.bit
    rw [honly _ ((by decide : ∀ c : Fin 4, Reg.CAN_CTRL c.val ∉ [Reg.CAN_ISTAT c.val]) c) (not_signals (Nat.le_add_right_of_le (by decide)))]
    unfold State.canCtrlStored
    rw [State.rd_wr, if_pos rfl]
    exact bitAt_or_top _
  · obtain ⟨hctrl, histat⟩ := not_or.1 (mt List.mem_cons.2 hk)
    exact (honly k histat hs).trans ((State.rd_wr _ _ _ _).trans (if_neg (Ne.symm hctrl)))

end

/-! ### A write of CAN_CTRL while INIT = 0 -/

section
variable (s : State) (c : Fin 4) {v : Word}

theorem canStat_ne : Reg.CAN_ERR c.val ≠ Reg.CAN_CTRL c.val ∧ Reg.CAN_STAT c.val ≠ Reg.CAN_ERR c.val ∧ Reg.CAN_STAT c.val ≠ Reg.CAN_CTRL c.val :=
  (by decide : ∀ c : Fin 4, Reg.CAN_ERR c.val ≠ Reg.CAN_CTRL c.val ∧ Reg.CAN_STAT c.val ≠ Reg.CAN_ERR c.val ∧
    Reg.CAN_STAT c.val ≠ Reg.CAN_CTRL c.val) c

/-- With bits 31 to 28 cleared, the field in bits 31 to 29 is 0. -/
theorem fld_put_zero (k : Nat) : (s.put k 31 28 0).fld k 31 29 = 0 := by
  unfold State.fld
  rw [State.rd_put, if_pos rfl]
  refine Nat.eq_of_testBit_eq fun i => ?_
  rw [testBit_field, bitAt_putField _ _ _ _ _ (by decide) (by decide)]
  by_cases hi : i < 3
  · rw [if_pos ⟨Nat.le_add_right_of_le (by decide), Nat.add_le_add_left (Nat.le_of_lt_succ hi) 29⟩, Nat.zero_testBit, Bool.and_false, Nat.zero_testBit]
  · rw [decide_eq_false hi, Bool.false_and, Nat.zero_testBit]

/-- INIT takes effect (R474). -/
theorem canInitNow_shows : let t := s.canInitNow c.val
    t.bit (Reg.CAN_CTRL c.val) 31 = true ∧ t.rd (Reg.CAN_ERR c.val) = 0 ∧ t.canState c.val = 0 ∧ (t.can c.val).initReq = false := by
  obtain ⟨hce, hse, hsc⟩ := canStat_ne c
  let u := (s.putBit (Reg.CAN_CTRL c.val) 31 true).wr (Reg.CAN_ERR c.val) 0
  have hag : Agree 17179869184 (u.put (Reg.CAN_STAT c.val) 31 28 0) (s.canInitNow c.val) := State.setCan_ag _ _ _
  have hbit : u.bit (Reg.CAN_CTRL c.val) 31 = true :=
    (State.bit_wr_ne _ _ _ _ _ hce).trans ((State.bit_putBit _ _ _ _ _ _ (by decide)).trans (if_pos ⟨rfl, rfl⟩))
  have herr : u.rd (Reg.CAN_ERR c.val) = 0 := (State.rd_wr _ _ _ _).trans (if_pos rfl)
  refine ⟨?_, ?_, ?_, congrArg CanU.initReq ((State.can_setCan _ _ _ _).trans (if_pos rfl))⟩
  · exact (hag.bit _ (by decide) _).trans ((State.bit_put_apart _ _ _ _ _ _ _ (by decide) (by decide) (.inl hsc)).trans hbit)
  · exact (hag.rd _ (by decide)).trans ((State.rd_put _ _ _ _ _ _).trans ((if_neg hse).trans herr))
  · exact (hag.fld _ (by decide) _ _).trans (fld_put_zero u (Reg.CAN_STAT c.val))

theorem canInitNow_only {t : State} {xs : List Nat} (h : OnlyRegs s t xs) (h0 : Reg.CAN_CTRL c.val ∈ xs) (h1 : Reg.CAN_ERR c.val ∈ xs)
    (h2 : Reg.CAN_STAT c.val ∈ xs) : OnlyRegs s (t.canInitNow c.val) xs :=
  (((h.wr _ h0).wr _ h1).wr _ h2).of_agree (State.setCan_ag _ _ _) (by decide)

/-- What a write that is taken while INIT = 0 does (R474, log entry 193). -/
def State.canCtrlTaken (s : State) (c : Nat) (v : Word) : State :=
  let wait := bitAt v 31 && ((s.can c).cur.isSome || s.canBusBusy c)
  let t := s.putBit (Reg.CAN_CTRL c) 26 (bitAt v 26)
  if bitAt v 31 && !wait then t.canInitNow c else t.setCan c { s.can c with initReq := wait }

theorem canCtrlWrite_eq (h : bitAt (s.rd (Reg.CAN_CTRL c.val)) 31 = false) : s.canCtrlWrite c.val v =
    if (s.rd (Reg.CAN_CTRL c.val) ^^^ v) &&& canModeBits ≠ 0 then s.canDeny c.val 0 3
    else if bitAt v 31 && s.canOff c.val then s.canDenyFree c.val 0 else s.canCtrlTaken c.val v := if_neg (Bool.eq_false_iff.1 h)

section
variable {s c} (h : bitAt (s.rd (Reg.CAN_CTRL c.val)) 31 = false)
include h

theorem canCtrlWrite_denied (hmode : (s.rd (Reg.CAN_CTRL c.val) ^^^ v) &&& canModeBits ≠ 0) : s.canCtrlWrite c.val v = s.canDeny c.val 0 3 :=
  (canCtrlWrite_eq s c h).trans (if_pos hmode)

variable (hmode : (s.rd (Reg.CAN_CTRL c.val) ^^^ v) &&& canModeBits = 0)
include hmode

theorem canCtrlWrite_off (htop : bitAt v 31 = true) (hoff : s.canOff c.val = true) : s.canCtrlWrite c.val v = s.canDenyFree c.val 0 :=
  (canCtrlWrite_eq s c h).trans ((if_neg (not_not.2 hmode)).trans (if_pos (by rw [htop, hoff]; rfl)))

theorem canCtrlWrite_taken (hon : (bitAt v 31 && s.canOff c.val) = false) : s.canCtrlWrite c.val v = s.canCtrlTaken c.val v :=
  (canCtrlWrite_eq s c h).trans ((if_neg (not_not.2 hmode)).trans (if_neg (Bool.eq_false_iff.1 hon)))

end

variable {s c}

/-- INIT = 1 that has to wait for the end of a frame. -/
theorem canCtrlTaken_waits (htop : bitAt v 31 = true) (hbusy : ((s.can c.val).cur.isSome || s.canBusBusy c.val) = true) :
    s.canCtrlTaken c.val v = (s.putBit (Reg.CAN_CTRL c.val) 26 (bitAt v 26)).setCan c.val { s.can c.val with initReq := true } := by
  unfold State.canCtrlTaken
  rw [htop, hbusy]
  rfl

theorem canCtrlTaken_inits (htop : bitAt v 31 = true) (hbusy : ((s.can c.val).cur.isSome || s.canBusBusy c.val) = false) :
    s.canCtrlTaken c.val v = (s.putBit (Reg.CAN_CTRL c.val) 26 (bitAt v 26)).canInitNow c.val := by
  unfold State.canCtrlTaken
  rw [htop, hbusy]
  rfl

theorem canCtrlTaken_clears (htop : bitAt v 31 = false) :
    s.canCtrlTaken c.val v = (s.putBit (Reg.CAN_CTRL c.val) 26 (bitAt v 26)).setCan c.val { s.can c.val with initReq := false } := by
  unfold State.canCtrlTaken
  rw [htop]
  rfl

variable (s c)

/-- A write of ONESHOT with a request for INIT or its withdrawal. -/
theorem canRequest_shows (h : bitAt (s.rd (Reg.CAN_CTRL c.val)) 31 = false) (one req : Bool) :
    let t := (s.putBit (Reg.CAN_CTRL c.val) 26 one).setCan c.val { s.can c.val with initReq := req }
    t.bit (Reg.CAN_CTRL c.val) 31 = false ∧ t.bit (Reg.CAN_CTRL c.val) 26 = one ∧ (t.can c.val).initReq = req ∧
    OnlyRegs s t [Reg.CAN_CTRL c.val] := by
  refine ⟨?_, ?_, ?_, ((OnlyRegs.refl s _).wr _ (List.mem_singleton_self _)).of_agree (State.setCan_ag _ _ _) (by decide)⟩
  · rw [(State.setCan_ag _ _ _).bit _ (by decide), State.bit_putBit _ _ _ _ _ _ (by decide), if_neg (by simp)]
    exact h
  · rw [(State.setCan_ag _ _ _).bit _ (by decide), State.bit_putBit _ _ _ _ _ _ (by decide), if_pos ⟨rfl, rfl⟩]
  · rw [State.can_setCan, if_pos rfl]

theorem sameMode_rest {w x y : Word} (h : SameRest x y) : (w ^^^ x) &&& canModeBits = (w ^^^ y) &&& canModeBits := (h.xor w).and_eq (by decide)

end

end Sys2Proof.Machine
end

section
/-!
CAN: what the object commands and windows do (chapter 14), and the statement about them and about INIT.
-/
namespace Sys2Proof.Machine
open Sys2Proof

/-! ### Joining the bus and bus-off recovery -/

section
variable (s : State) (c : Fin 4)

/-- A state put into CAN_STAT. -/
theorem canState_put {s : State} (st : Nat) (h : st < 8) : (s.put (Reg.CAN_STAT c.val) 31 29 st).canState c.val = st := by
  unfold State.canState
  rw [State.fld_put_same _ _ _ _ _ (by decide) (by decide)]
  exact Nat.mod_eq_of_lt h

/-- The wait for bus integration is over. -/
def State.canIntegrated (s : State) (c : Nat) : State := when (s.can c).integ (fun t => t.setCan c { t.can c with integ := false }) s

theorem canIntegrated_integ : ((s.canIntegrated c.val).can c.val).integ = false := by
  unfold State.canIntegrated when
  split
  · rw [State.can_setCan, if_pos rfl]
  · next h => simpa using h

theorem canIntegrated_ag : Agree 17179869184 s (s.canIntegrated c.val) := by
  unfold State.canIntegrated when
  split
  · exact State.setCan_ag _ _ _
  · exact Agree.refl _ s

theorem canJoin_eq : s.canJoin c.val = if s.canState c.val = 0 ∧ !s.bit (Reg.CAN_CTRL c.val) 31 then
    (s.canIntegrated c.val).put (Reg.CAN_STAT c.val) 31 29 1 else s.canIntegrated c.val := by
  have hstate : (s.canIntegrated c.val).canState c.val = s.canState c.val := (canIntegrated_ag s c).fld _ (by decide) _ _
  have hinit : (s.canIntegrated c.val).bit (Reg.CAN_CTRL c.val) 31 = s.bit (Reg.CAN_CTRL c.val) 31 := (canIntegrated_ag s c).bit _ (by decide) _
  rw [← hstate, ← hinit]
  rfl

theorem canRecovery_begins (h : s.canState c.val = 3) : let t := s.canRecover c.val
    t.canState c.val = 4 ∧ t.fld (Reg.CAN_STAT c.val) 7 0 = 128 ∧ OnlyRegs s t [Reg.CAN_STAT c.val] ∧ (t.can c.val).recAt = s.tb.cnt ∧
    t = { s with regs := t.regs, cans := t.cans } := by
  intro t
  let u := (s.put (Reg.CAN_STAT c.val) 31 29 4).put (Reg.CAN_STAT c.val) 7 0 128
  have ht : t = u.setCan c.val { u.can c.val with recAt := s.tb.cnt } := if_pos h
  have hag : Agree 17179869184 u t := by rw [ht]; exact State.setCan_ag _ _ _
  have honly : OnlyRegs s u [Reg.CAN_STAT c.val] := ((OnlyRegs.refl s _).wr _ (by simp)).wr _ (by simp)
  refine ⟨?_, ?_, honly.of_agree hag (by decide), ?_, ?_⟩
  · refine (hag.fld _ (by decide) _ _).trans ?_
    exact (State.fld_put_apart _ _ _ _ _ _ _ _ (by decide) (by decide) (by decide) (by decide)).trans (canState_put c 4 (by decide))
  · exact (hag.fld _ (by decide) _ _).trans (State.fld_put_same _ _ _ _ _ (by decide) (by decide))
  · rw [ht, State.can_setCan, if_pos rfl]
  · exact (((Agree.refl 17179869185 s).then (State.put_ag s _ _ _ _) rfl |>.then (State.put_ag _ _ _ _ _) rfl).then hag rfl).eq_regs_cans

theorem canRecover_refused (h : s.canState c.val ≠ 3) : s.canRecover c.val = s.canDeny c.val 0x28 5 := if_neg h

/-- The controller's registers as a recovery ends. -/
def State.canErrorFree (s : State) (c : Nat) : State :=
  (((s.wr (Reg.CAN_ERR c) 0).put (Reg.CAN_STAT c) 7 0 0).put (Reg.CAN_STAT c) 31 29 1).putBit (Reg.CAN_STAT c) 28 false

/-- The objects of state 6 wait again, and the change of the error state is recorded. -/
def State.canReported (u : State) (c : Nat) : State := (u.moveObjs c 6 1).canLogState c

theorem canRecovered_eq (h : s.canState c.val = 4) : s.canRecovered c.val =
    ((s.reachCnt ((s.can c.val).recAt + (1408 * s.canBit c.val * 25 + 7) / 8)).canErrorFree c.val).canReported c.val :=
  if_neg (not_not.2 h)

theorem canErrorFree_ag : Agree 1 s (s.canErrorFree c.val) :=
  (((Agree.refl 1 s).then (State.wr_ag s _ _) rfl |>.then (State.put_ag _ _ _ _ _) rfl).then (State.put_ag _ _ _ _ _) rfl).then
    (State.putBit_ag _ _ _ _) rfl

theorem canErrorFree_shows : let t := s.canErrorFree c.val
    t.canState c.val = 1 ∧ t.rd (Reg.CAN_ERR c.val) = 0 ∧ t.bit (Reg.CAN_STAT c.val) 28 = false := by
  have hne := (canStat_ne c).2.1
  unfold State.canErrorFree
  refine ⟨?_, ?_, ?_⟩
  · exact (State.fld_putBit_apart _ _ _ _ _ _ _ (by decide) (by decide) (.inr (.inr (by decide)))).trans (canState_put c 1 (by decide))
  · rw [State.rd_putBit_ne _ _ _ _ _ hne, State.rd_put, if_neg hne, State.rd_put, if_neg hne, State.rd_wr, if_pos rfl]
  · rw [State.bit_putBit _ _ _ _ _ _ (by decide), if_pos ⟨rfl, rfl⟩]

/-- The count has reached what it was waited for. -/
theorem reachCnt_reaches (n : Nat) : n ≤ (s.reachCnt n).tb.cnt :=
  Nat.le_trans le_add_tsub (Nat.le_of_eq (cnt_pass s (n - s.tb.cnt)).symm)

theorem canStat_objKeys : ¬ ObjKeys c.val (Reg.CAN_STAT c.val) ∧ ¬ ObjKeys c.val (Reg.CAN_ERR c.val) := by
  unfold ObjKeys
  exact (by decide : ∀ c : Fin 4, ¬ (0xA3000000 ≤ Reg.CAN_STAT c.val ∨ Reg.CAN_PEND c.val 0 ≤ Reg.CAN_STAT c.val ∧ Reg.CAN_STAT c.val < Reg.CAN_NEW c.val 0) ∧
    ¬ (0xA3000000 ≤ Reg.CAN_ERR c.val ∨ Reg.CAN_PEND c.val 0 ≤ Reg.CAN_ERR c.val ∧ Reg.CAN_ERR c.val < Reg.CAN_NEW c.val 0)) c

theorem clockKeys_low {a : Nat} (h : 0x20000 ≤ a) : ¬ ClockKeys a := by
  rintro (rfl | rfl | rfl)
  · exact absurd h (by decide)
  · exact absurd h (by decide)
  · exact absurd h (by decide)

section
variable (u : State)

theorem canReported_ag : Agree 25089 u (u.canReported c.val) :=
  ((Agree.refl 25089 u).then (State.moveObjs_ag _ _ _ _) (by decide)).then (State.canLogState_ag _ _) (by decide)

/-- Of the registers above the interrupts' only the objects' follow. -/
theorem rd_canReported {k : Nat} (hk : 0x10000 ≤ k) (hp : ¬ ObjKeys c.val k) : (u.canReported c.val).rd k = u.rd k :=
  (rd_signalled _ _ _ _ _ _ hk).trans (((Writes.refl (ObjKeys c.val) u).moveObjs c 6 1 fun _ h => h).rd k hp (not_signals hk))

theorem objState_canReported {n : Nat} (hn : n < 128) :
    (u.canReported c.val).objState c.val n = if u.objState c.val n = 6 then 1 else u.objState c.val n := by
  have hrd : (u.canReported c.val).rd (canObj c.val n 3) = (u.moveObjs c.val 6 1).rd (canObj c.val n 3) :=
    rd_signalled _ _ _ _ _ _ (Nat.le_trans (by decide) (canObj_high _ _ _))
  refine (congrArg (field · 31 29) hrd).trans ((objState_moveObjs u c c 6 1 (by decide) hn).trans ?_)
  exact if_congr (and_iff_right rfl) rfl rfl

end

/-- A controller's error registers and the time are no words of its objects. -/
theorem objState_canErrorFree (n m : Nat) : ((s.reachCnt n).canErrorFree c.val).objState c.val m = s.objState c.val m := by
  have hclock : Writes ClockKeys s (s.reachCnt n) := pass_writes _ _
  have hhigh := canObj_high c.val m 3
  have herr : Reg.CAN_ERR c.val ≠ canObj c.val m 3 := ne_canObj ((by decide : ∀ c : Fin 4, Reg.CAN_ERR c.val < 0xA3000000) c) m 3
  have hstat : Reg.CAN_STAT c.val ≠ canObj c.val m 3 := ne_canObj (canStat_low c) m 3
  refine congrArg (field · 31 29) (Eq.trans ?_ (hclock.rd _ (clockKeys_low (Nat.le_trans (by decide) hhigh)) (not_signals (Nat.le_trans (by decide) hhigh))))
  exact (State.rd_putBit_ne _ _ _ _ _ hstat).trans ((State.rd_put _ _ _ _ _ _).trans ((if_neg hstat).trans
    ((State.rd_put _ _ _ _ _ _).trans ((if_neg hstat).trans ((State.rd_wr _ _ _ _).trans (if_neg herr))))))

/-- The end of a bus-off recovery (R488). -/
theorem canRecovered_shows (h : s.canState c.val = 4) : let t := s.canRecovered c.val
    t.canState c.val = 1 ∧ t.rd (Reg.CAN_ERR c.val) = 0 ∧ t.bit (Reg.CAN_STAT c.val) 28 = false ∧
    (∀ n, n < 128 → t.objState c.val n = if s.objState c.val n = 6 then 1 else s.objState c.val n) ∧
    t.bit Reg.INT_STAT_LO (20 + c.val) = true ∧ (s.can c.val).recAt + (1408 * s.canBit c.val * 25 + 7) / 8 ≤ t.tb.cnt ∧
    t = { s with tb := t.tb, regs := t.regs, supPend := t.supPend, tally := t.tally, buckets := t.buckets } := by
  rw [canRecovered_eq s c h]
  generalize (s.can c.val).recAt + (1408 * s.canBit c.val * 25 + 7) / 8 = n
  obtain ⟨hstate, herr, hwarn⟩ := canErrorFree_shows (s.reachCnt n) c
  have hobj := objState_canErrorFree s c n
  have htb := (canErrorFree_ag (s.reachCnt n) c).tb rfl
  have hag := ((Agree.refl 57857 s).then (State.reachCnt_ag s n) (by decide)).then (canErrorFree_ag _ c) (by decide)
  generalize (s.reachCnt n).canErrorFree c.val = u at *
  have hstat := rd_canReported c u (Nat.le_add_right_of_le (by decide)) (canStat_objKeys c).1
  refine ⟨(congrArg (field · 31 29) hstat).trans hstate,
    (rd_canReported c u (Nat.le_add_right_of_le (by decide)) (canStat_objKeys c).2).trans herr, (congrArg (bitAt · 28) hstat).trans hwarn,
    fun m hm => ?_, canLog_raises _ _ _ _ _, ?_, (hag.then (canReported_ag c u) (by decide)).eq_canRecovered⟩
  · rw [← hobj m]
    exact objState_canReported c u hm
  · rw [(canReported_ag c u).tb rfl, htb]
    exact reachCnt_reaches s n

end

/-! ### Object commands -/

section
variable (s : State) (r : Req) (c : Fin 4) (m : Nat)

theorem canSel_lt (b : Nat) : s.canSel c.val b < 128 := by
  unfold State.canSel State.fld field
  exact Nat.mod_lt _ (by decide)

section
variable {s r c} {op : Nat} (sof : Bool) (hop : ¬ (op = 0 ∨ 3 < op))
include hop

/-- A command on an object that the requester may not command (R475). -/
theorem canOcmd_denied (h : s.canMay r c.val (s.canSel c.val r.window) = false) :
    s.canOcmd r c.val r.window op sof = s.canDeny c.val (0x104 + 0x80 * r.window) 1 :=
  (if_neg hop).trans (if_pos (by rw [h]; rfl))

theorem canOcmd_may (h : s.canMay r c.val (s.canSel c.val r.window) = true) : s.canOcmd r c.val r.window op sof =
    if op = 1 then s.canQueue c.val (s.canSel c.val r.window) else if op = 2 then s.canCancel c.val (s.canSel c.val r.window) sof
    else (s.setNew c.val (s.canSel c.val r.window) false).putBit (canObj c.val (s.canSel c.val r.window) 3) 26 false :=
  (if_neg hop).trans (if_neg (by rw [h]; decide))

end

variable {s r c} (h : s.canMay r c.val (s.canSel c.val r.window) = true)
include h

theorem canOcmd_queue : s.canOcmd r c.val r.window 1 false = s.canQueue c.val (s.canSel c.val r.window) := canOcmd_may false (by decide) h

theorem canOcmd_cancel (sof : Bool) : s.canOcmd r c.val r.window 2 sof = s.canCancel c.val (s.canSel c.val r.window) sof :=
  canOcmd_may sof (by decide) h

theorem canOcmd_clear : s.canOcmd r c.val r.window 3 false =
    (s.setNew c.val (s.canSel c.val r.window) false).putBit (canObj c.val (s.canSel c.val r.window) 3) 26 false := canOcmd_may false (by decide) h

end

section
variable (s : State) (c : Fin 4) {m : Nat}

/-- In the sapwood a queue request is only counted (R490). -/
theorem canQueue_sapwood (hs : s.sapwood = true) : let t := s.canQueue c.val m
    OnlyRegs s t [Reg.CAN_ECNT2 c.val] ∧ t = { s with regs := t.regs } ∧
    t.fld (Reg.CAN_ECNT2 c.val) 7 0 = min 255 (s.fld (Reg.CAN_ECNT2 c.val) 7 0 + 1) := by
  have ht : s.canQueue c.val m = s.count (Reg.CAN_ECNT2 c.val) 7 0 1 := if_pos hs
  rw [ht]
  exact ⟨(OnlyRegs.refl s _).wr _ (by simp), (State.count_ag s _ _ _ _).eq_regs, State.fld_count_same _ _ _ _ _ (by decide) (by decide)⟩

/-- The object of a queue request, its result of the last transmission cleared. -/
def State.objAsked (s : State) (c m : Nat) : State := s.putBit (canObj c m 3) 28 false

theorem objState_objAsked (n : Nat) : (s.objAsked c.val m).objState c.val n = s.objState c.val n :=
  State.fld_putBit_apart _ _ _ _ _ _ _ (by decide) (by decide) (.inr (.inr (by decide)))

/-- What a queue request does by the object's state. -/
def State.canQueued (s : State) (c m : Nat) : State :=
  if s.objState c m = 1 ∨ s.objState c m = 6 then s
  else if s.objState c m = 2 then s.setCan c { s.can c with requeue := true } else s.setObj c m (if s.canOff c then 6 else 1)

/-- The choice by an object's state as the model makes it. -/
theorem byState_eq {α : Sort _} (x : Nat) (a b d : α) :
    (match x with | 1 => a | 6 => a | 2 => b | _ => d) = if x = 1 ∨ x = 6 then a else if x = 2 then b else d := by
  split
  · rfl
  · rfl
  · rfl
  · next h1 h6 h2 => exact ((if_neg (not_or.2 ⟨h1, h6⟩)).trans (if_neg h2)).symm

theorem canQueue_eq (hs : s.sapwood = false) (htx : (s.bit (canObj c.val m 0) 31 && s.bit (canObj c.val m 0) 30) = true) :
    s.canQueue c.val m = (s.objAsked c.val m).canQueued c.val m :=
  (if_neg (Bool.eq_false_iff.1 hs)).trans ((if_neg (by rw [htx]; decide)).trans (byState_eq _ _ _ _))

theorem canOff_objAsked : (s.objAsked c.val m).canOff c.val = s.canOff c.val := by
  have hstate : (s.objAsked c.val m).canState c.val = s.canState c.val :=
    State.fld_putBit_apart _ _ _ _ _ _ _ (by decide) (by decide) (.inl (ne_canObj (canStat_low c) m 3).symm)
  unfold State.canOff
  rw [hstate]

/-- A queue request of an object that waits for nothing (R478). -/
theorem canQueue_pends (hs : s.sapwood = false) (htx : (s.bit (canObj c.val m 0) 31 && s.bit (canObj c.val m 0) 30) = true) (hm : m < 128)
    (h1 : s.objState c.val m ≠ 1) (h2 : s.objState c.val m ≠ 2) (h6 : s.objState c.val m ≠ 6) : let t := s.canQueue c.val m
    t.objState c.val m = (if s.canOff c.val then 6 else 1) ∧ t.bit (Reg.CAN_PEND c.val (m / 32)) (m % 32) = true ∧
    OnlyRegs s t [canObj c.val m 3, Reg.CAN_PEND c.val (m / 32)] ∧ t = { s with regs := t.regs } := by
  have hstate := objState_objAsked s c m (m := m)
  have ht : s.canQueue c.val m = (s.objAsked c.val m).setObj c.val m (if (s.objAsked c.val m).canOff c.val then 6 else 1) :=
    (canQueue_eq s c hs htx).trans ((if_neg (by rw [hstate]; exact not_or.2 ⟨h1, h6⟩)).trans (if_neg (by rw [hstate]; exact h2)))
  have hag : Agree 1 s (s.objAsked c.val m) := State.putBit_ag s _ _ _
  have honly : OnlyRegs s (s.objAsked c.val m) [canObj c.val m 3, Reg.CAN_PEND c.val (m / 32)] := (OnlyRegs.refl s _).wr _ List.mem_cons_self
  rw [ht, canOff_objAsked s c]
  generalize s.objAsked c.val m = u at *
  generalize hn : (if s.canOff c.val then 6 else 1) = n
  have hlt : n = 1 ∨ n = 6 := by rw [← hn]; split <;> simp
  refine ⟨?_, ?_, setObj_only s c _ honly List.mem_cons_self (List.mem_cons_of_mem _ List.mem_cons_self), (hag.then (State.setObj_ag _ _ _ _) rfl).eq_regs⟩
  · exact (objState_setObj u c c n (by rcases hlt with rfl | rfl <;> decide) hm hm).trans (if_pos ⟨rfl, rfl⟩)
  · exact (pend_setObj u c n).trans (decide_eq_true (hlt.imp_right .inr))

/-- A queue request of the object in IN_TX waits behind its frame. -/
theorem canQueue_requeues (hs : s.sapwood = false) (htx : (s.bit (canObj c.val m 0) 31 && s.bit (canObj c.val m 0) 30) = true)
    (h2 : s.objState c.val m = 2) : let t := s.canQueue c.val m
    (t.can c.val).requeue = true ∧ t.objState c.val m = 2 ∧ OnlyRegs s t [canObj c.val m 3] := by
  have hasked : (s.objAsked c.val m).objState c.val m = 2 := (objState_objAsked s c m).trans h2
  have hcan : (s.objAsked c.val m).can c.val = s.can c.val := (State.putBit_ag _ _ _ _).can _ (by decide)
  have ht : s.canQueue c.val m = (s.objAsked c.val m).setCan c.val { s.can c.val with requeue := true } := by
    rw [canQueue_eq s c hs htx, ← hcan]
    exact (if_neg (by rw [hasked]; decide)).trans (if_pos hasked)
  have hag : Agree 17179869184 (s.objAsked c.val m) ((s.objAsked c.val m).setCan c.val { s.can c.val with requeue := true }) :=
    State.setCan_ag _ _ _
  rw [ht]
  refine ⟨?_, ?_, ((OnlyRegs.refl s _).wr _ (by simp)).of_agree hag (by decide)⟩
  · rw [State.can_setCan, if_pos rfl]
  · exact (hag.fld _ (by decide) _ _).trans hasked

theorem canCancel_eq (sof : Bool) : s.canCancel c.val m sof =
    if s.objState c.val m = 1 ∨ s.objState c.val m = 6 then s.setObj c.val m 5
    else if s.objState c.val m = 2 then
      (if sof then s.setCan c.val { s.can c.val with cancel := true, requeue := false } else (s.canEndFrame c.val).setObj c.val m 5)
    else s := byState_eq _ _ _ _

/-- An object put into state 5 shows it, and waits no more. -/
theorem setObj_cancelled (u : State) (hm : m < 128) : (u.setObj c.val m 5).objState c.val m = 5 ∧
    (u.setObj c.val m 5).bit (Reg.CAN_PEND c.val (m / 32)) (m % 32) = false :=
  ⟨(objState_setObj u c c 5 (by decide) hm hm).trans (if_pos ⟨rfl, rfl⟩), pend_setObj u c 5⟩

/-- A waiting object is cancelled at once (R483). -/
theorem canCancel_waiting (sof : Bool) (hm : m < 128) (h : s.objState c.val m = 1 ∨ s.objState c.val m = 6) : let t := s.canCancel c.val m sof
    t.objState c.val m = 5 ∧ t.bit (Reg.CAN_PEND c.val (m / 32)) (m % 32) = false ∧
    OnlyRegs s t [canObj c.val m 3, Reg.CAN_PEND c.val (m / 32)] ∧ t = { s with regs := t.regs } := by
  rw [(canCancel_eq s c sof).trans (if_pos h)]
  obtain ⟨hstate, hpend⟩ := setObj_cancelled c s hm
  exact ⟨hstate, hpend, setObj_only s c 5 (OnlyRegs.refl s _) List.mem_cons_self (List.mem_cons_of_mem _ List.mem_cons_self),
    (State.setObj_ag s _ _ _).eq_regs⟩

section
variable {s c} (h : s.objState c.val m = 2)
include h

theorem canCancel_inTx (sof : Bool) : s.canCancel c.val m sof =
    if sof then s.setCan c.val { s.can c.val with cancel := true, requeue := false } else (s.canEndFrame c.val).setObj c.val m 5 :=
  (canCancel_eq s c sof).trans ((if_neg (by rw [h]; decide)).trans (if_pos h))

theorem canCancel_begun : let t := s.canCancel c.val m true
    t = { s with cans := t.cans } ∧ (t.can c.val).cancel = true ∧ (t.can c.val).requeue = false ∧ (t.can c.val).cur = (s.can c.val).cur := by
  rw [canCancel_inTx h true, if_pos rfl]
  have hcan := (State.can_setCan s c.val { s.can c.val with cancel := true, requeue := false } c.val).trans (if_pos rfl)
  exact ⟨(State.setCan_ag s _ _).eq_cans, (congrArg CanU.cancel hcan :), (congrArg CanU.requeue hcan :), (congrArg CanU.cur hcan :)⟩

omit h in
/-- The frame of a controller ends: it has none any more. -/
theorem cur_canEndFrame (s : State) : ((s.canEndFrame c.val).can c.val).cur = none := by
  unfold State.canEndFrame
  exact congrArg CanU.cur (((State.putBit_ag _ _ _ _).can _ (by decide)).trans ((State.can_setCan _ _ _ _).trans (if_pos rfl)))

theorem canCancel_unsent (hm : m < 128) : let t := s.canCancel c.val m false
    t.objState c.val m = 5 ∧ (t.can c.val).cur = none ∧ t.bit (Reg.CAN_PEND c.val (m / 32)) (m % 32) = false := by
  rw [canCancel_inTx h false]
  obtain ⟨hstate, hpend⟩ := setObj_cancelled c (s.canEndFrame c.val) hm
  exact ⟨hstate, (congrArg CanU.cur ((State.setObj_ag _ _ _ _).can _ (by decide))).trans (cur_canEndFrame s), hpend⟩

end

/-- NEW is cleared (R489). -/
theorem clearNew_shows (hm : m < 128) : let t := (s.setNew c.val m false).putBit (canObj c.val m 3) 26 false
    t.bit (canObj c.val m 3) 27 = false ∧ t.bit (canObj c.val m 3) 26 = false ∧ t.bit (Reg.CAN_NEW c.val (m / 32)) (m % 32) = false ∧
    OnlyRegs s t [canObj c.val m 3, Reg.CAN_NEW c.val (m / 32)] ∧ t = { s with regs := t.regs } := by
  have hne : Reg.CAN_NEW c.val (m / 32) ≠ canObj c.val m 3 := ne_canObj (canNew_low c (objWord_lt hm)) m 3
  have hnew (u : State) : (u.putBit (Reg.CAN_NEW c.val (m / 32)) (m % 32) false).bit (Reg.CAN_NEW c.val (m / 32)) (m % 32) = false :=
    (State.bit_putBit _ _ _ _ _ _ (Nat.mod_lt _ (by decide))).trans (if_pos ⟨rfl, rfl⟩)
  have hflag (u : State) (i : Nat) (hi : i < 32) : (u.putBit (canObj c.val m 3) i false).bit (canObj c.val m 3) i = false :=
    (State.bit_putBit _ _ _ _ _ _ hi).trans (if_pos ⟨rfl, rfl⟩)
  have hag : Agree 1 s (s.setNew c.val m false) := ((Agree.refl 1 s).then (State.putBit_ag s _ _ _) rfl).then (State.putBit_ag _ _ _ _) rfl
  have honly : OnlyRegs s (s.setNew c.val m false) [canObj c.val m 3, Reg.CAN_NEW c.val (m / 32)] :=
    ((OnlyRegs.refl s _).wr _ List.mem_cons_self).wr _ (List.mem_cons_of_mem _ List.mem_cons_self)
  refine ⟨?_, hflag _ 26 (by decide), ?_, honly.wr _ List.mem_cons_self, (hag.then (State.putBit_ag _ _ _ _) rfl).eq_regs⟩
  · refine (State.bit_putBit _ _ _ _ _ _ (by decide)).trans ((if_neg fun h => absurd h.2 (by decide)).trans ?_)
    exact (congrArg (bitAt · 27) (State.rd_putBit_ne _ _ _ _ _ hne)).trans (hflag s 27 (by decide))
  · exact (congrArg (bitAt · (m % 32)) (State.rd_putBit_ne _ _ _ _ _ hne.symm)).trans (hnew _)

end

/-! ### Object windows -/

section
variable (s : State) (r : Req) (c : Fin 4)

/-- The words of the selected object latched by a read of its W3. -/
def State.canLatched (s : State) (c b m : Nat) : State :=
  (List.range 20).foldl (fun t i => t.wr (canLatch c b (4 + i)) (s.rd (canObj c m (4 + i)))) s

theorem canLatch_high (k b w : Nat) : 0xA3100000 ≤ canLatch k b w :=
  Nat.le_trans (Nat.le_trans (Nat.le_add_right _ _) (Nat.le_add_right _ _)) (Nat.le_add_right _ _)

theorem rd_canLatched_below (b m : Nat) {a : Nat} (ha : a < 0xA3100000) : (s.canLatched c.val b m).rd a = s.rd a :=
  List.foldlRecOn (motive := fun t : State => t.rd a = s.rd a) _ _ rfl fun t ht i _ => by
    exact (State.rd_wr _ _ _ _).trans ((if_neg fun h : canLatch c.val b (4 + i) = a => Nat.not_le.2 ha (h ▸ canLatch_high _ _ _)).trans ht)

theorem rd_canLatched (b m i : Nat) (h4 : 4 ≤ i) (hi : i < 24) : (s.canLatched c.val b m).rd (canLatch c.val b i) = s.rd (canObj c.val m i) := by
  obtain ⟨j, rfl⟩ := Nat.exists_eq_add_of_le h4
  have hj : j ∈ List.range 20 := List.mem_range.2 (Nat.lt_of_add_lt_add_left hi)
  refine foldl_reaches (Q := fun t : State => t.rd (canLatch c.val b (4 + j)) = s.rd (canObj c.val m (4 + j))) hj (fun t => ?_) (fun t i hi ht => ?_) s
  · rw [State.rd_wr, if_pos rfl]
  · exact (State.rd_wr _ _ _ _).trans ((if_neg fun h : canLatch c.val b (4 + i) = canLatch c.val b (4 + j) =>
      hi (Nat.add_left_cancel (Nat.eq_of_mul_eq_mul_left (by decide) (Nat.add_left_cancel h)))).trans ht)

/-- A read of W3 (R489). -/
theorem canW3Read_shows : let t := s.canW3Read r c.val r.window
    t.answered r = s.rd (canObj c.val (s.canSel c.val r.window) 3) ∧
    (∀ i, 4 ≤ i → i < 24 → t.canOwin c.val r.window i = s.rd (canObj c.val (s.canSel c.val r.window) i)) ∧
    (∀ a, a < 0xA3100000 → t.rd a = s.rd a) ∧ t = { s with regs := t.regs, rsp := t.rsp } := by
  intro t
  have hag : Agree 16 (s.canLatched c.val r.window (s.canSel c.val r.window)) t := State.answer_ag _ _ _
  refine ⟨?_, fun i h4 hi => ?_, fun a ha => ?_, (State.canW3Read_ag s r _ _).eq_regs_rsp⟩
  · exact (State.answered_answer _ _ _ _).trans (if_pos rfl)
  · unfold State.canOwin
    rw [if_pos h4, hag.rd _ (by decide)]
    exact rd_canLatched s c _ _ i h4 hi
  · rw [hag.rd _ (by decide)]
    exact rd_canLatched_below s c _ _ ha

/-- A data word of an object (R479). -/
theorem objData_shows (m w : Nat) (v : Word) :
    ((s.can c.val).cur ≠ some m → s.objData c.val m w v = s.wr (canObj c.val m w) v) ∧
    ((s.can c.val).cur = some m → s.objData c.val m w v = s.setCan c.val { s.can c.val with held := (s.can c.val).held ++ [(w, v)] }) :=
  ⟨fun h => if_neg h, fun h => if_pos h⟩

/-- A write of W0 to W2 of an object by a requester that may configure it (R475 to R477). -/
def State.objConfig (s : State) (c m w off : Nat) (v : Word) : State :=
  if s.bit (canObj c m 0) 31 && !s.bit (Reg.CAN_CTRL c) 31 then s.canDeny c off 4
  else if w = 0 then
    if bitAt v 31 && bitAt v 28 && (bitAt v 26 || !s.bit (Reg.CAN_CTRL c) 30) then s.canDenyFree c off
    else when (!bitAt v 30) (fun t => t.setObj c m 0) (s.wr (canObj c m 0) (v &&& 0xFF00000F))
  else if w = 1 then s.wr (canObj c m 1) (v &&& 0x1FFFFFFF)
  else s.wr (canObj c m 2) (v &&& 0xDFFFFFFF)

variable {s r c} {w : Nat} {v : Word}

theorem canOwinWrite_denied (h : s.canMay r c.val (s.canSel c.val r.window) = false) :
    s.canOwinWrite r c.val r.window w v = s.canDeny c.val (0x120 + 0x80 * r.window + 4 * w) 1 := if_pos (by rw [h]; rfl)

section
variable (h : s.canMay r c.val (s.canSel c.val r.window) = true)
include h

theorem canOwinWrite_eq : s.canOwinWrite r c.val r.window w v =
    if w ≤ 2 then s.objConfig c.val (s.canSel c.val r.window) w (0x120 + 0x80 * r.window + 4 * w) v
    else if w ≤ 7 then s else s.objData c.val (s.canSel c.val r.window) w v := if_neg (by rw [h]; decide)

theorem canOwinWrite_data (hw : 8 ≤ w) : s.canOwinWrite r c.val r.window w v = s.objData c.val (s.canSel c.val r.window) w v :=
  (canOwinWrite_eq h).trans ((if_neg (Nat.not_le.2 (Nat.lt_of_lt_of_le (by decide) hw))).trans (if_neg (Nat.not_le.2 hw)))

theorem canOwinWrite_readOnly (h3 : 3 ≤ w) (h8 : w < 8) : s.canOwinWrite r c.val r.window w v = s :=
  (canOwinWrite_eq h).trans ((if_neg (Nat.not_le.2 h3)).trans (if_pos (Nat.le_of_lt_succ h8)))

theorem canOwinWrite_config (hw : w < 3) : s.canOwinWrite r c.val r.window w v =
    s.objConfig c.val (s.canSel c.val r.window) w (0x120 + 0x80 * r.window + 4 * w) v :=
  (canOwinWrite_eq h).trans (if_pos (Nat.le_of_lt_succ hw))

end

section
variable {m off : Nat}

theorem objConfig_inUse (hval : s.bit (canObj c.val m 0) 31 = true) (hinit : s.bit (Reg.CAN_CTRL c.val) 31 = false) :
    s.objConfig c.val m w off v = s.canDeny c.val off 4 := if_pos (by rw [hval, hinit]; rfl)

variable (hfree : s.bit (canObj c.val m 0) 31 = false ∨ s.bit (Reg.CAN_CTRL c.val) 31 = true)
include hfree

theorem objConfig_free : ¬ (s.bit (canObj c.val m 0) 31 && !s.bit (Reg.CAN_CTRL c.val) 31) = true := by
  rcases hfree with h | h
  · rw [h]; exact Bool.false_ne_true
  · rw [h, Bool.not_true, Bool.and_false]; exact Bool.false_ne_true

theorem objConfig_badControl (hbad : (bitAt v 31 && bitAt v 28 && (bitAt v 26 || !s.bit (Reg.CAN_CTRL c.val) 30)) = true) :
    s.objConfig c.val m 0 off v = s.canDenyFree c.val off := (if_neg (objConfig_free hfree)).trans ((if_pos rfl).trans (if_pos hbad))

/-- W0 of a free object; as a receive object it is in state 0 (R477). -/
theorem objConfig_control (hm : m < 128) (hok : (bitAt v 31 && bitAt v 28 && (bitAt v 26 || !s.bit (Reg.CAN_CTRL c.val) 30)) = false) :
    let t := s.objConfig c.val m 0 off v
    t.rd (canObj c.val m 0) = v &&& 0xFF00000F ∧
    (bitAt v 30 = false → t.objState c.val m = 0 ∧ t.bit (Reg.CAN_PEND c.val (m / 32)) (m % 32) = false) ∧
    OnlyRegs s t [canObj c.val m 0, canObj c.val m 3, Reg.CAN_PEND c.val (m / 32)] ∧ t = { s with regs := t.regs } := by
  have ht : s.objConfig c.val m 0 off v = when (!bitAt v 30) (fun t => t.setObj c.val m 0) (s.wr (canObj c.val m 0) (v &&& 0xFF00000F)) :=
    (if_neg (objConfig_free hfree)).trans ((if_pos rfl).trans (if_neg (Bool.eq_false_iff.1 hok)))
  rw [ht]
  have hrd : (s.wr (canObj c.val m 0) (v &&& 0xFF00000F)).rd (canObj c.val m 0) = v &&& 0xFF00000F := (State.rd_wr _ _ _ _).trans (if_pos rfl)
  have honly : OnlyRegs s (s.wr (canObj c.val m 0) (v &&& 0xFF00000F)) [canObj c.val m 0, canObj c.val m 3, Reg.CAN_PEND c.val (m / 32)] :=
    (OnlyRegs.refl s _).wr _ List.mem_cons_self
  have hag : Agree 1 s (s.wr (canObj c.val m 0) (v &&& 0xFF00000F)) := State.wr_ag s _ _
  generalize s.wr (canObj c.val m 0) (v &&& 0xFF00000F) = u at *
  cases hb : bitAt v 30 with
  | true => exact ⟨hrd, fun e => absurd e Bool.noConfusion, honly, hag.eq_regs⟩
  | false =>
    have h03 : canObj c.val m 3 ≠ canObj c.val m 0 := fun e => absurd (canObj_inj hm hm (by decide) (by decide) e).2.2 (by decide)
    refine ⟨(rd_setObj u c 0 _ h03 (canObj_ne_pend c m 0 _ (objWord_lt hm))).trans hrd, fun _ => ⟨?_, pend_setObj u c 0⟩,
      setObj_only s c 0 honly (List.mem_cons_of_mem _ List.mem_cons_self) (List.mem_cons_of_mem _ (List.mem_cons_of_mem _ List.mem_cons_self)),
      (hag.then (State.setObj_ag _ _ _ _) rfl).eq_regs⟩
    exact (objState_setObj u c c 0 (by decide) hm hm).trans (if_pos ⟨rfl, rfl⟩)

/-- W1 and W2 of a free object. -/
theorem objConfig_filter (hw : w = 1 ∨ w = 2) : let t := s.objConfig c.val m w off v
    t.rd (canObj c.val m w) = v &&& (if w = 1 then 0x1FFFFFFF else 0xDFFFFFFF) ∧ OnlyRegs s t [canObj c.val m w] ∧ t = { s with regs := t.regs } := by
  have ht : s.objConfig c.val m w off v = s.wr (canObj c.val m w) (v &&& (if w = 1 then 0x1FFFFFFF else 0xDFFFFFFF)) := by
    rcases hw with rfl | rfl
    · exact (if_neg (objConfig_free hfree)).trans ((if_neg (by decide)).trans (if_pos rfl))
    · exact (if_neg (objConfig_free hfree)).trans ((if_neg (by decide)).trans (if_neg (by decide)))
  rw [ht]
  exact ⟨(State.rd_wr _ _ _ _).trans (if_pos rfl), (OnlyRegs.refl s _).wr _ (List.mem_singleton_self _), (State.wr_ag s _ _).eq_regs⟩

end

end

end Sys2Proof.Machine
end

section
/-!
The statement about the settings and objects of the CAN controllers (chapter 14).
-/
namespace Sys2Proof.Machine
open Sys2Proof

section
variable (s : State) (c : Fin 4)

/-- A request for INIT takes effect while no frame is sent. -/
theorem exec_canInitApply (h : (s.can c.val).initReq = true) (hcur : (s.can c.val).cur = none) :
    exec (.canInitApply c) s = .next (s.canInitNow c.val) := congrArg Host.Outcome.next (if_pos (by simp [h, hcur]))

theorem exec_canInitApply_idle (h : (s.can c.val).initReq = false ∨ (s.can c.val).cur ≠ none) : exec (.canInitApply c) s = .next s := by
  refine congrArg Host.Outcome.next (if_neg ?_)
  rcases h with h | h <;> simp [h]

theorem exec_canBusJoin : exec (.canBusJoin c) s = .next (s.canJoin c.val) := rfl

/-- INIT takes effect, from a state in which only registers of the controller have changed. -/
theorem inits_shows {t : State} (ht : OnlyRegs s t [Reg.CAN_CTRL c.val, Reg.CAN_STAT c.val, Reg.CAN_ERR c.val]) :
    (t.canInitNow c.val).bit (Reg.CAN_CTRL c.val) 31 = true ∧ (t.canInitNow c.val).rd (Reg.CAN_ERR c.val) = 0 ∧
    (t.canInitNow c.val).canState c.val = 0 ∧ ((t.canInitNow c.val).can c.val).initReq = false ∧
    OnlyRegs s (t.canInitNow c.val) [Reg.CAN_CTRL c.val, Reg.CAN_STAT c.val, Reg.CAN_ERR c.val] := by
  obtain ⟨hbit, herr, hstate, hreq⟩ := canInitNow_shows t c
  exact ⟨hbit, herr, hstate, hreq, canInitNow_only s c ht List.mem_cons_self (List.mem_cons_of_mem _ (List.mem_cons_of_mem _ List.mem_cons_self))
    (List.mem_cons_of_mem _ List.mem_cons_self)⟩

variable {s c}

/-- What a command shows that ends in a refusal. -/
theorem denied_shows {r : Req} {i : Instr} {off cause : Nat} (h : s.served r = true → exec i s = .next (s.canDeny c.val off cause)) :
    s.served r = true → ∃ t, exec i s = .next t ∧ t.bit (Reg.CAN_ISTAT c.val) 7 = true ∧ t.bit Reg.INT_STAT_LO (20 + c.val) = true ∧ t.cans = s.cans ∧
      OnlyRegsSig s t [Reg.CAN_ISTAT c.val] := fun hs => ⟨_, h hs, canDeny_shows s c off cause⟩

section
variable {r : Req} {v : Word} (hold : bitAt (s.rd (Reg.CAN_CTRL c.val)) 31 = false)
  (hmode : (s.rd (Reg.CAN_CTRL c.val) ^^^ v) &&& canModeBits = 0)
include hold hmode

/-- INIT = 1 while a frame is on the bus. -/
theorem initSet_waits (hoff : s.canOff c.val = false) (hbusy : ((s.can c.val).cur.isSome || s.canBusBusy c.val) = true) :
    s.served r = true → ∃ t, exec (.canInitSet r c v) s = .next t ∧ t.bit (Reg.CAN_CTRL c.val) 31 = false ∧ t.bit (Reg.CAN_CTRL c.val) 26 = bitAt v 26 ∧
      (t.can c.val).initReq = true ∧ bitAt (t.canCtrl c.val) 31 = true ∧ OnlyRegs s t [Reg.CAN_CTRL c.val] := by
  intro hs
  obtain ⟨hinit, hone, hreq, honly⟩ := canRequest_shows s c hold (bitAt (v ||| 0x80000000) 26) true
  have hset := (sameMode_rest (w := s.rd (Reg.CAN_CTRL c.val)) (sameRest_or v)).trans hmode
  refine ⟨_, (exec_canInitSet s r c v hs).trans (congrArg _ ((canCtrlWrite_taken hold hset (by rw [hoff, Bool.and_false])).trans
    (canCtrlTaken_waits (bitAt_or_top v) hbusy))), hinit, hone.trans (sameRest_or v 26 (by decide)), hreq, ?_, honly⟩
  unfold State.canCtrl
  rw [if_pos hreq]
  exact bitAt_or_top _

/-- INIT = 1 while no frame is on the bus. -/
theorem initSet_inits (hoff : s.canOff c.val = false) (hbusy : ((s.can c.val).cur.isSome || s.canBusBusy c.val) = false) :
    s.served r = true → ∃ t, exec (.canInitSet r c v) s = .next t ∧ t.bit (Reg.CAN_CTRL c.val) 31 = true ∧ t.rd (Reg.CAN_ERR c.val) = 0 ∧ t.canState c.val = 0 ∧
      (t.can c.val).initReq = false ∧ OnlyRegs s t [Reg.CAN_CTRL c.val, Reg.CAN_STAT c.val, Reg.CAN_ERR c.val] := fun hs =>
  have hset := (sameMode_rest (w := s.rd (Reg.CAN_CTRL c.val)) (sameRest_or v)).trans hmode
  ⟨_, (exec_canInitSet s r c v hs).trans (congrArg _ ((canCtrlWrite_taken hold hset (by rw [hoff, Bool.and_false])).trans
    (canCtrlTaken_inits (bitAt_or_top v) hbusy))), inits_shows s c ((OnlyRegs.refl s _).wr _ List.mem_cons_self)⟩

/-- INIT = 0 takes a waiting request back. -/
theorem initClear_clears : s.served r = true → ∃ t, exec (.canInitClear r c v) s = .next t ∧ t.bit (Reg.CAN_CTRL c.val) 31 = false ∧
    t.bit (Reg.CAN_CTRL c.val) 26 = bitAt v 26 ∧ (t.can c.val).initReq = false ∧ OnlyRegs s t [Reg.CAN_CTRL c.val] := by
  intro hs
  obtain ⟨hinit, hone, hreq, honly⟩ := canRequest_shows s c hold (bitAt (v &&& 0x7FFFFFFF) 26) false
  have hclear := (sameMode_rest (w := s.rd (Reg.CAN_CTRL c.val)) (sameRest_and v)).trans hmode
  exact ⟨_, (exec_canInitClear s r c v hs).trans (congrArg _ ((canCtrlWrite_taken hold hclear (by rw [bitAt_and_rest, Bool.false_and])).trans
    (canCtrlTaken_clears (bitAt_and_rest v)))), hinit, hone.trans (sameRest_and v 26 (by decide)), hreq, honly⟩

end

/-- The bus is joined from state 0 with INIT = 0. -/
theorem busJoin_joins (h0 : s.canState c.val = 0) (hold : s.bit (Reg.CAN_CTRL c.val) 31 = false) : ∃ t, exec (.canBusJoin c) s = .next t ∧
    t.canState c.val = 1 ∧ OnlyRegs s t [Reg.CAN_STAT c.val] ∧ (t.can c.val).integ = false ∧ t = { s with regs := t.regs, cans := t.cans } :=
  ⟨_, (exec_canBusJoin s c).trans (congrArg _ ((canJoin_eq s c).trans (if_pos ⟨h0, by rw [hold]; rfl⟩))), canState_put c 1 (by decide),
    ((OnlyRegs.refl s _).of_agree (canIntegrated_ag s c) (by decide)).wr _ (List.mem_singleton_self _),
    (congrArg CanU.integ ((State.put_ag _ _ _ _ _).can _ (by decide))).trans (canIntegrated_integ s c),
    ((Agree.refl 17179869185 s).then (canIntegrated_ag s c) rfl |>.then (State.put_ag _ _ _ _ _) rfl).eq_regs_cans⟩

theorem busJoin_stays (h : s.canState c.val ≠ 0 ∨ s.bit (Reg.CAN_CTRL c.val) 31 = true) : ∃ t, exec (.canBusJoin c) s = .next t ∧
    (t.can c.val).integ = false ∧ t = { s with cans := t.cans } := by
  refine ⟨_, (exec_canBusJoin s c).trans (congrArg _ ((canJoin_eq s c).trans (if_neg ?_))), canIntegrated_integ s c, (canIntegrated_ag s c).eq_cans⟩
  rintro ⟨h0, hinit⟩
  rcases h with h | h
  · exact h h0
  · rw [h] at hinit
    exact absurd hinit (by decide)

/-- The end of a recovery. -/
theorem recoveryDone_shows (h : s.canState c.val = 4) : ∃ t, exec (.canRecoveryDone c) s = .next t ∧ t.canState c.val = 1 ∧ t.rd (Reg.CAN_ERR c.val) = 0 ∧
    t.bit (Reg.CAN_STAT c.val) 28 = false ∧ (∀ n, n < 128 → t.objState c.val n = if s.objState c.val n = 6 then 1 else s.objState c.val n) ∧
    t.bit Reg.INT_STAT_LO (20 + c.val) = true ∧ (s.can c.val).recAt + (1408 * s.canBit c.val * 25 + 7) / 8 ≤ t.tb.cnt ∧
    t = { s with tb := t.tb, regs := t.regs, supPend := t.supPend, tally := t.tally, buckets := t.buckets } :=
  ⟨_, rfl, canRecovered_shows s c h⟩

/-- A write of W0. -/
theorem exec_controlWrite {r : Req} {v : Word} {w : Fin 24} (hw : w.val = 0) (hmay : s.canMay r c.val (s.canSel c.val r.window) = true)
    (hs : s.served r = true) : exec (.canOwinWrite r c w v) s =
      .next (s.objConfig c.val (s.canSel c.val r.window) 0 (0x120 + 0x80 * r.window + 4 * 0) v) := by
  obtain rfl : w = 0 := Fin.ext hw
  exact (exec_canOwinWrite s r c v 0 hs).trans (congrArg _ (canOwinWrite_config hmay (by decide)))

/-- A data word of an object outside its frame and within it. -/
theorem dataWrite_stores {r : Req} {v : Word} {w : Fin 24} {m : Nat} (hexec : s.served r = true → exec (.canOwinWrite r c w v) s = .next (s.objData c.val m w.val v))
    (hcur : (s.can c.val).cur ≠ some m) : s.served r = true → ∃ t, exec (.canOwinWrite r c w v) s = .next t ∧ t.rd (canObj c.val m w.val) = v ∧
      OnlyRegs s t [canObj c.val m w.val] ∧ t = { s with regs := t.regs } := fun hs =>
  ⟨_, (hexec hs).trans (congrArg _ ((objData_shows s c m w.val v).1 hcur)), (State.rd_wr _ _ _ _).trans (if_pos rfl),
    (OnlyRegs.refl s _).wr _ (List.mem_singleton_self _), (State.wr_ag s _ _).eq_regs⟩

theorem dataWrite_holds {r : Req} {v : Word} {w : Fin 24} {m : Nat} (hexec : s.served r = true → exec (.canOwinWrite r c w v) s = .next (s.objData c.val m w.val v))
    (hcur : (s.can c.val).cur = some m) : s.served r = true → ∃ t, exec (.canOwinWrite r c w v) s = .next t ∧
      (t.can c.val).held = (s.can c.val).held ++ [(w.val, v)] ∧ t = { s with cans := t.cans } := fun hs =>
  ⟨_, (hexec hs).trans (congrArg _ ((objData_shows s c m w.val v).2 hcur)),
    (congrArg CanU.held ((State.can_setCan _ _ _ _).trans (if_pos rfl)) :), (State.setCan_ag s _ _).eq_cans⟩

end

/-- Settles O52, with one lemma for each outcome of a write of CAN_CTRL, of an object command and of a write in an object window. -/
theorem canSettingsAndObjects : Obligations.CanSettingsAndObjects := by
  unfold Obligations.CanSettingsAndObjects
  intro s c r v w sof
  extract_lets k ctrl stat istat old u m obj pend may sameMode Denied Inits Waits
  refine ⟨fun hold => ⟨fun hs => ⟨_, exec_canInitSet s r c v hs, canInitSet_inInit s c hold⟩,
      fun hok hs => ⟨_, exec_canInitClear s r c v hs, canInitClear_inInit s c hold hok⟩,
      fun hbad hs => ⟨_, exec_canInitClear s r c v hs, canInitClear_badTiming s c hold hbad⟩⟩,
    fun hold hmode => ⟨denied_shows fun hs => (exec_canInitSet s r c v hs).trans (congrArg _ (canCtrlWrite_denied hold ((sameMode_rest (sameRest_or v)).trans_ne hmode))),
      denied_shows fun hs => (exec_canInitClear s r c v hs).trans (congrArg _ (canCtrlWrite_denied hold ((sameMode_rest (sameRest_and v)).trans_ne hmode)))⟩,
    fun hold hmode hoff => denied_shows fun hs => (exec_canInitSet s r c v hs).trans
      (congrArg _ (canCtrlWrite_off hold ((sameMode_rest (sameRest_or v)).trans hmode) (bitAt_or_top v) hoff)),
    fun hold hmode hoff => ⟨fun hcur => initSet_waits hold hmode hoff (by rw [Option.isSome_iff_ne_none.2 hcur, Bool.true_or]), fun hcur => ?_⟩,
    fun hold hmode => initClear_clears hold hmode, fun hreq hcur _ => ⟨_, exec_canInitApply s c hreq hcur, inits_shows s c (OnlyRegs.refl s _)⟩,
    exec_canInitApply_idle s c, busJoin_joins, busJoin_stays,
    fun h hs => ⟨_, exec_canBusoffRecover s r c hs, canRecovery_begins s c h⟩,
    fun h => denied_shows fun hs => (exec_canBusoffRecover s r c hs).trans (congrArg _ (canRecover_refused s c h)),
    recoveryDone_shows, fun h => congrArg Host.Outcome.next (if_pos h),
    fun hno => ⟨denied_shows fun hs => (exec_canOcmdQueue s r c hs).trans (congrArg _ (canOcmd_denied false (by decide) hno)),
      denied_shows fun hs => (exec_canOcmdCancel s r c sof hs).trans (congrArg _ (canOcmd_denied sof (by decide) hno)),
      denied_shows fun hs => (exec_canOcmdClearNew s r c hs).trans (congrArg _ (canOcmd_denied false (by decide) hno)),
      denied_shows fun hs => (exec_canOwinWrite s r c v w hs).trans (congrArg _ (canOwinWrite_denied hno))⟩,
    fun hmay hsap hs => ⟨_, (exec_canOcmdQueue s r c hs).trans (congrArg _ (canOcmd_queue hmay)), canQueue_sapwood s c hsap⟩,
    fun hmay hsap htx => ⟨fun h1 h2 h6 hs => ⟨_, (exec_canOcmdQueue s r c hs).trans (congrArg _ (canOcmd_queue hmay)),
        canQueue_pends s c hsap htx (canSel_lt s c _) h1 h2 h6⟩,
      fun h2 hs => ⟨_, (exec_canOcmdQueue s r c hs).trans (congrArg _ (canOcmd_queue hmay)), canQueue_requeues s c hsap htx h2⟩⟩,
    fun hmay hst hs => ⟨_, (exec_canOcmdCancel s r c sof hs).trans (congrArg _ (canOcmd_cancel hmay sof)), canCancel_waiting s c sof (canSel_lt s c _) hst⟩,
    fun hmay hst => ⟨fun hs => ⟨_, (exec_canOcmdCancel s r c true hs).trans (congrArg _ (canOcmd_cancel hmay true)), canCancel_begun hst⟩,
      fun hs => ⟨_, (exec_canOcmdCancel s r c false hs).trans (congrArg _ (canOcmd_cancel hmay false)), canCancel_unsent hst (canSel_lt s c _)⟩⟩,
    fun hmay hs => ⟨_, (exec_canOcmdClearNew s r c hs).trans (congrArg _ (canOcmd_clear hmay)), clearNew_shows s c (canSel_lt s c _)⟩,
    fun hs => ⟨_, exec_canOwinW3Read s r c hs, canW3Read_shows s r c⟩,
    fun hmay hw => ⟨dataWrite_stores fun hs => (exec_canOwinWrite s r c v w hs).trans (congrArg _ (canOwinWrite_data hmay hw)),
      dataWrite_holds fun hs => (exec_canOwinWrite s r c v w hs).trans (congrArg _ (canOwinWrite_data hmay hw))⟩,
    fun hmay h3 h8 hs => (exec_canOwinWrite s r c v w hs).trans (congrArg _ (canOwinWrite_readOnly hmay h3 h8)),
    fun hmay hw hval hold => denied_shows fun hs => (exec_canOwinWrite s r c v w hs).trans
      (congrArg _ ((canOwinWrite_config hmay hw).trans (objConfig_inUse hval hold))),
    fun hmay hw hfree => ⟨fun hbad => denied_shows fun hs => (exec_controlWrite hw hmay hs).trans (congrArg _ (objConfig_badControl hfree hbad)),
      fun hok hs => ⟨_, exec_controlWrite hw hmay hs, objConfig_control hfree (canSel_lt s c _) hok⟩⟩,
    fun hmay hw hfree hs => ⟨_, (exec_canOwinWrite s r c v w hs).trans (congrArg _ (canOwinWrite_config hmay (by omega))), objConfig_filter hfree hw⟩⟩
  cases hbusy : s.canBusBusy k with
  | true => exact .inl ⟨rfl, initSet_waits hold hmode hoff (by rw [hbusy, Bool.or_true])⟩
  | false => exact .inr ⟨rfl, initSet_inits hold hmode hoff (by rw [hbusy, Bool.or_false, show (s.can c.val).cur = none from hcur]; rfl)⟩

end Sys2Proof.Machine
end

section
/-!
The boot service and the commands of BOOT_CMD (chapter 18).
-/
namespace Sys2Proof.Machine
open Sys2Proof

/-! ### Records, failures and stages -/

theorem Writes.pwrLog {P : Nat → Prop} {s t : State} (h : Writes P s t) (n code sp p0 p1 : Nat) : Writes P s (t.pwrLog n code sp p0 p1) :=
  (h.irq _).log _ _ _ _

section
variable (s : State)

/-- A record of the PMU raises its interrupt. -/
theorem pwrLog_raises (n code sp p0 p1 i : Nat) (h : n = i + 32 ∧ i < 32) : (s.pwrLog n code sp p0 p1).bit Reg.INT_STAT_HI i = true :=
  (State.bit_log _ _ _ _ _ _ _ (by decide)).trans (State.bit_irq_hi _ _ _ (.inl h))

theorem rd_pwrLog (n code sp p0 p1 : Nat) {k : Nat} (h : 0x10000 ≤ k) : (s.pwrLog n code sp p0 p1).rd k = s.rd k := rd_signalled _ _ _ _ _ _ h

theorem bit_pwrLog (n code sp p0 p1 i : Nat) {k : Nat} (h : 0x10000 ≤ k) : (s.pwrLog n code sp p0 p1).bit k i = s.bit k i := by
  unfold State.bit; rw [rd_pwrLog _ _ _ _ _ _ h]

theorem stage_pwrLog (n code sp p0 p1 : Nat) : (s.pwrLog n code sp p0 p1).stage = s.stage := by
  unfold State.stage State.fld; rw [rd_pwrLog _ _ _ _ _ _ (by decide)]

theorem stage_setStage (n : Nat) (h : n < 16) : (s.setStage n).stage = n :=
  (State.fld_put_same _ _ _ _ _ (by decide) (by decide)).trans (Nat.mod_eq_of_lt h)

/-- The stage stands above the entries' bits and below the flags. -/
theorem bit_setStage (n i k : Nat) (h : Reg.BOOT_STAT ≠ k ∨ i < 25 ∨ 28 < i) : (s.setStage n).bit k i = s.bit k i :=
  State.bit_put_apart _ _ _ _ _ _ _ (by decide) (by decide) h

/-- A failed entry shows its bit and is reported (R600). -/
theorem bootFail_shows (e reason detail : Nat) (he : e < 25) : let t := s.bootFail e reason detail
    (∀ i, i < 25 → t.bit Reg.BOOT_STAT i = if e = i then true else s.bit Reg.BOOT_STAT i) ∧ t.bit Reg.INT_STAT_HI 26 = true ∧ t.power = s.power := by
  refine ⟨fun i hi => ?_, pwrLog_raises _ _ _ _ _ _ _ (by decide), (State.bootFail_ag s _ _ _).power rfl⟩
  have hrecorded : 30 ≠ i := Nat.ne_of_gt (Nat.lt_trans hi (by decide))
  unfold State.bootFail
  rw [bit_pwrLog _ _ _ _ _ _ _ (by decide), State.bit_putBit _ _ _ _ _ _ (by decide), if_neg fun h => hrecorded h.2,
    State.bit_putBit _ _ _ _ _ _ (Nat.lt_trans he (by decide))]
  exact if_congr (and_iff_right rfl) rfl rfl

/-- The boot stops: nothing is left to load and the host is reported to (R601). -/
theorem waitHost_shows : let t := s.waitHost
    t.stage = 8 ∧ t.power.boot.todo = [] ∧ (∀ i, i < 25 → t.bit Reg.BOOT_STAT i = s.bit Reg.BOOT_STAT i) ∧ t.bit Reg.INT_STAT_HI 26 = true := by
  let u := s.bootMod (fun b => { b with todo := [] })
  have hu : u.power.boot.todo = [] := rfl
  have ht : s.waitHost = (u.setStage 8).pwrLog 58 0x224 0 ((u.setStage 8).fld Reg.BOOT_STAT 19 0) 0 := rfl
  rw [ht]
  refine ⟨?_, ?_, fun i hi => ?_, pwrLog_raises _ _ _ _ _ _ _ (by decide)⟩
  · rw [stage_pwrLog, stage_setStage _ _ (by decide)]
  · rw [(State.pwrLog_ag _ _ _ _ _ _).power rfl, (State.setStage_ag _ _).power rfl, hu]
  · rw [bit_pwrLog _ _ _ _ _ _ _ (by decide), bit_setStage _ _ _ _ (.inr (.inl hi))]
    rfl

end

/-! ### The boot goes on -/

/-- Where the check of a die shows. -/
def DieStat (a : Nat) : Prop := a = Reg.AFE_STAT 0 ∨ a = Reg.AFE_STAT 1

section
variable (s : State)

theorem recheck_writes (d : Nat) (h : d < 2) : Writes DieStat s (s.recheck d) := by
  unfold State.recheck
  exact .ite (fun _ => .refl _ s) fun _ => (Writes.refl _ s).putBit _ _ <| by
    unfold DieStat
    exact (by decide : ∀ d : Fin 2, Reg.AFE_STAT d.val = Reg.AFE_STAT 0 ∨ Reg.AFE_STAT d.val = Reg.AFE_STAT 1) ⟨d, h⟩

/-- The check of the dies: the registers of the dies alone, and what is still to be loaded stays. -/
theorem bootChecks_shows : let t := s.bootChecks
    Writes DieStat s t ∧ t.power.boot.todo = s.power.boot.todo ∧ t.power.boot.loaded = s.power.boot.loaded := by
  unfold State.bootChecks
  split
  · exact ⟨.refl _ s, rfl, rfl⟩
  · extract_lets u
    have hag : Agree 1 u ((List.range 2).foldl (fun t d => if t.dieOn d then t.recheck d else t) u) :=
      (Agree.refl 1 u).foldl fun t d ht => .ite (fun _ => ht.then (State.recheck_ag t d) rfl) fun _ => ht
    refine ⟨Writes.foldl (.of_regs (.refl _ s) rfl) fun t d hd ht => .ite (fun _ => ht.trans (recheck_writes t d (List.mem_range.1 hd))) fun _ => ht,
      ?_, ?_⟩
    · rw [hag.power rfl]; rfl
    · rw [hag.power rfl]; rfl

/-- While something is left to load, the boot at most checks the dies and returns to step 1. -/
theorem bootAdvance_of_todo (h : s.power.boot.todo ≠ []) : s.bootAdvance = s ∨ s.bootAdvance = s.bootChecks.setStage 1 := by
  unfold State.bootAdvance
  split
  · exact .inl rfl
  · refine .inr (if_pos ?_)
    rw [(bootChecks_shows s).2.1]
    simpa using h

/-- What stands while the boot has entries left to load. -/
structure Booting (s t : State) : Prop where
  todo : t.power.boot.todo = s.power.boot.todo
  loaded : t.power.boot.loaded = s.power.boot.loaded
  agree : Agree 281474976710657 s t
  bits : ∀ i, i < 25 → t.bit Reg.BOOT_STAT i = s.bit Reg.BOOT_STAT i
  raised : s.bit Reg.INT_STAT_HI 26 = true → t.bit Reg.INT_STAT_HI 26 = true

theorem bootAdvance_booting (h : s.power.boot.todo ≠ []) : Booting s s.bootAdvance := by
  rcases bootAdvance_of_todo s h with e | e <;> rw [e]
  · exact ⟨rfl, rfl, .refl _ s, fun _ _ => rfl, id⟩
  · obtain ⟨hw, htodo, hloaded⟩ := bootChecks_shows s
    have hpower : (s.bootChecks.setStage 1).power = s.bootChecks.power := (State.setStage_ag _ _).power rfl
    refine ⟨(congrArg _ (congrArg _ hpower)).trans htodo, (congrArg _ (congrArg _ hpower)).trans hloaded,
      (State.bootChecks_ag s).then (State.setStage_ag _ _) rfl, fun i hi => ?_, fun hi => ?_⟩
    · rw [bit_setStage _ _ _ _ (.inr (.inl hi))]
      exact hw.bit i (by unfold DieStat; decide) (not_signals (by decide))
    · rw [bit_setStage _ _ _ _ (.inl (by decide))]
      exact hw.raised (by unfold DieStat; decide) 26 hi

theorem bootAdvance_waiting (h : s.stage = 8) : s.bootAdvance = s := bootAdvance_done s (by omega)

end

/-! ### SUP -/

section
variable (s : State)

/-- A program begins on core 1. -/
def State.supBegun (s : State) (entry ver : Nat) : State :=
  (s.bootMod (fun x => { x with supEntry := some entry, vers := SMap.set (fun _ => 0) x.vers 1 ver })).supStart 1 entry

/-- The watchdog begins to count. -/
def State.wdtBegun (s : State) : State :=
  (s.putBit Reg.PWR_WDT 31 true).pwrMod (fun p => { p with wdtAt := s.tb.cnt, wdtWarned := false })

/-- The words of a program in the memories of both cores. -/
def State.supPlaced (s : State) (env : Nat) : State :=
  let b := env + payloadOff
  let code := s.mws ((s.payloadLen env - 8) / 4) (b + 8)
  (s.supLoad 0 (s.mN b) code).supLoad 1 (s.mN b) code

theorem supApply_eq (e env : Nat) : ∃ w x, s.supApply e env =
    (((s.supPlaced env).supBegun (s.mN (env + payloadOff + 4)) w).wdtBegun).bootLoaded e x env := by
  unfold State.supApply State.supPlaced State.supBegun State.wdtBegun
  exact ⟨_, _, rfl⟩

theorem supPlaced_ag (env : Nat) : Agree 1 s (s.supPlaced env) :=
  ((Agree.refl 1 s).then (State.supLoad_ag _ _ _ _) rfl).then (State.supLoad_ag _ _ _ _) rfl

theorem supBegun_shows (entry ver : Nat) : let t := s.supBegun entry ver
    t.power.boot.todo = s.power.boot.todo ∧ t.power.boot.loaded = s.power.boot.loaded ∧
    (t.core 17).run = .active ∧ (t.core 17).pc = supPc entry := by
  have hcore : ((s.supBegun entry ver).core 17) = { Core.init with pc := supPc entry, run := .active, cyc := s.tb.cnt * 16 / 5 } :=
    (State.core_setCore _ _ _ _).trans (if_pos rfl)
  exact ⟨rfl, rfl, by rw [hcore], by rw [hcore]⟩

theorem wdtBegun_shows : let t := s.wdtBegun
    t.power.boot = s.power.boot ∧ t.cores = s.cores := ⟨rfl, rfl⟩

theorem bootLoaded_shows (e ver env : Nat) : let t := s.bootLoaded e ver env
    t.power.boot.todo = s.power.boot.todo ∧ t.power.boot.loaded = s.power.boot.loaded ||| 2 ^ e ∧ t.cores = s.cores := by
  have hag : Agree 25089 (s.bootMod (fun b => { b with loaded := b.loaded ||| 2 ^ e })) (s.bootLoaded e ver env) := State.pwrLog_ag _ _ _ _ _ _
  have hpower := hag.power rfl
  intro t
  exact ⟨by rw [hpower]; rfl, by rw [hpower]; rfl, hag.cores rfl⟩

/-- A program loaded for SUP runs on core 1, and its entry is loaded (R598). -/
theorem supApply_shows (e env : Nat) : let t := s.supApply e env
    t.power.boot.todo = s.power.boot.todo ∧ t.power.boot.loaded = s.power.boot.loaded ||| 2 ^ e ∧
    (t.core 17).run = .active ∧ (t.core 17).pc = supPc (s.mN (env + payloadOff + 4)) := by
  obtain ⟨w, x, h⟩ := supApply_eq s e env
  let u := (s.supPlaced env).supBegun (s.mN (env + payloadOff + 4)) w
  have hplaced : (s.supPlaced env).power = s.power := (supPlaced_ag s env).power rfl
  obtain ⟨htodo, hloaded, hrun, hpc⟩ := supBegun_shows (s.supPlaced env) (s.mN (env + payloadOff + 4)) w
  obtain ⟨hboot, hcores⟩ := wdtBegun_shows u
  obtain ⟨htodo', hloaded', hcores'⟩ := bootLoaded_shows u.wdtBegun e x env
  have hcore : (s.supApply e env).core 17 = u.core 17 := by
    rw [h]
    unfold State.core
    rw [hcores', hcores]
  intro t
  refine ⟨?_, ?_, (congrArg Core.run hcore).trans hrun, (congrArg Core.pc hcore).trans hpc⟩
  · rw [show t = _ from h, htodo', hboot, htodo, hplaced]
  · rw [show t = _ from h, hloaded', hboot, hloaded, hplaced]

theorem bootSup_missing (e : Nat) (h : s.dirEntry e = none) : s.bootSup e = s.bootFail e 0x11 0 := by
  unfold State.bootSup; rw [h]; rfl

theorem bootSup_valid (e env : Nat) (h : s.dirEntry e = some env) (hok : s.envOk env 1 = true) : s.bootSup e = s.supApply e env := by
  unfold State.bootSup; rw [h, Option.filter_some, if_pos hok, Option.map_some, Option.getD_some]

theorem bootCfg_missing (h : s.dirEntry 2 = none) : s.bootCfg = (s.bootFail 2 0x11 0).waitHost := by
  unfold State.bootCfg; rw [h]; rfl

/-! ### BOOT_IMAGE_DONE -/

/-- Without an entry at the head of the list, or in reset, nothing is through. -/
theorem bootImageDone_idle (e : Nat) (h : s.sysRuns = false ∨ s.power.boot.todo.head? ≠ some e) : s.bootImageDone e = s := by
  unfold State.bootImageDone
  split
  · rfl
  · next hruns =>
    split
    · rfl
    · next x rest htodo =>
      refine if_pos fun hx => ?_
      rcases h with h | h
      · simp [h] at hruns
      · exact h (by rw [htodo, hx]; rfl)

/-- What follows of the entry of SUP or SUP_ALT (R600): the other one is tried, unless it has failed. -/
def State.supTried (u : State) (e : Nat) : State :=
  if u.power.boot.loaded.testBit e then u else if u.bit Reg.BOOT_STAT (1 - e) then u.waitHost
  else u.bootMod (fun b => { b with todo := (1 - e) :: b.todo })

/-- The entry at the head of the list is taken off it. -/
def State.todoTail (s : State) (rest : List Nat) : State := s.bootMod (fun b => { b with todo := rest })

/-- What the entry taken does. -/
def State.bootEntry (s : State) (e : Nat) : State :=
  if e ≤ 1 then (s.bootSup e).supTried e else if e = 2 then s.bootCfg else if e = 3 then s.bootLth else s.bootElm (e - 4)

variable {s} {e : Nat} {rest : List Nat} (hruns : s.sysRuns = true) (htodo : s.power.boot.todo = e :: rest)
include hruns htodo

theorem bootImageDone_head : s.bootImageDone e = ((s.todoTail rest).bootEntry e).bootAdvance := by
  unfold State.bootImageDone
  rw [if_neg (by rw [hruns]; decide), htodo]
  exact if_neg (not_not.2 rfl)

theorem bootImageDone_sup (he : e ≤ 1) : s.bootImageDone e = (((s.todoTail rest).bootSup e).supTried e).bootAdvance :=
  (bootImageDone_head hruns htodo).trans (congrArg State.bootAdvance (if_pos he))

theorem bootImageDone_cfg (h2 : e = 2) : s.bootImageDone e = ((s.todoTail rest).bootCfg).bootAdvance :=
  (bootImageDone_head hruns htodo).trans (congrArg State.bootAdvance ((if_neg (by rw [h2]; decide)).trans (if_pos h2)))

end

end Sys2Proof.Machine
end

section
/-!
The statement about the boot service and the commands of BOOT_CMD (chapter 18).
-/
namespace Sys2Proof.Machine
open Sys2Proof

/-! ### Outcomes of an entry -/

theorem Agree.eq_regs_power {s t : State} (h : Agree 281474976710657 s t) : t = { s with regs := t.regs, power := t.power } := h.eq_overlay
theorem Agree.eq_signal_power {s t : State} (h : Agree 281474976735745 s t) :
    t = { s with regs := t.regs, supPend := t.supPend, tally := t.tally, buckets := t.buckets, power := t.power } := h.eq_overlay

section
variable {s t : State} (h : t.mram = s.mram)
include h

theorem rootOk_congr (a : Nat) : t.rootOk a = s.rootOk a := by
  unfold State.rootOk; rw [mB_congr h, mbs_congr h]

theorem payloadLen_congr (a : Nat) : t.payloadLen a = s.payloadLen a := mN_congr h _

theorem envVersion_congr (a : Nat) : t.envVersion a = s.envVersion a := mN_congr h _

theorem dirOk_congr (a : Nat) : t.dirOk a = s.dirOk a := by
  unfold State.dirOk
  rw [mN_congr h, mN_congr h, mN_congr h, mbs_congr h, mbs_congr h]

/-- The kernel compares the definitions as functions: applied to a state they would be evaluated. -/
theorem bootDir_congr : t.bootDir = s.bootDir := by
  have hdef : @State.bootDir = @State.bootDir := rfl
  conv at hdef => rhs; delta State.bootDir
  rw [hdef]
  beta_reduce
  rw [dirOk_congr h, dirOk_congr h, mN_congr h, mN_congr h]

theorem dirEntry_congr (e : Nat) : t.dirEntry e = s.dirEntry e := by
  have hdef : @State.dirEntry = @State.dirEntry := rfl
  conv at hdef => rhs; delta State.dirEntry
  rw [hdef]
  beta_reduce
  rw [bootDir_congr h]
  generalize s.bootDir = o
  cases o with
  | none => rfl
  | some a => exact congrArg₂ (fun w n => if bitAt w 0 then some (n % 131072 * 64) else none) (mw_congr h _) (mN_congr h _)

theorem envOk_congr (hr : t.regs = s.regs) (a kind : Nat) : t.envOk a kind = s.envOk a kind := by
  have hmin : t.minVer kind = s.minVer kind := by unfold State.minVer State.rd; rw [hr]
  unfold State.envOk
  rw [show t.mbs = s.mbs from funext fun n => funext (mbs_congr h n), show t.mN = s.mN from funext (mN_congr h), payloadLen_congr h, rootOk_congr h,
    envVersion_congr h, hmin, mB_congr h, mH_congr h]

end

section
variable (s : State) (rest : List Nat)

theorem dirEntry_todoTail (e : Nat) : (s.todoTail rest).dirEntry e = s.dirEntry e := dirEntry_congr (s := s) (t := s.todoTail rest) rfl e

theorem envOk_todoTail (a kind : Nat) : (s.todoTail rest).envOk a kind = s.envOk a kind :=
  envOk_congr (s := s) (t := s.todoTail rest) rfl rfl a kind

theorem mN_todoTail (a : Nat) : (s.todoTail rest).mN a = s.mN a := mN_congr (s := s) (t := s.todoTail rest) rfl a

theorem todoTail_ag : Agree 281474976710656 s (s.todoTail rest) := State.bootMod_ag _ _

end

section
variable {u : State} {e : Nat} (hloaded : u.power.boot.loaded.testBit e = false)
include hloaded

theorem supTried_tries (h : u.bit Reg.BOOT_STAT (1 - e) = false) : u.supTried e = u.bootMod (fun b => { b with todo := (1 - e) :: b.todo }) :=
  (if_neg (Bool.eq_false_iff.1 hloaded)).trans (if_neg (Bool.eq_false_iff.1 h))

theorem supTried_waits (h : u.bit Reg.BOOT_STAT (1 - e) = true) : u.supTried e = u.waitHost :=
  (if_neg (Bool.eq_false_iff.1 hloaded)).trans (if_pos h)

end

section
variable {s : State} {e : Nat} {rest : List Nat} (hruns : s.sysRuns = true) (htodo : s.power.boot.todo = e :: rest)

include hruns htodo

omit hruns htodo in
theorem sup_other (he : e ≤ 1) : e < 25 ∧ 1 - e < 25 ∧ e ≠ 1 - e :=
  (by decide : ∀ e : Fin 2, e.val < 25 ∧ 1 - e.val < 25 ∧ e.val ≠ 1 - e.val) ⟨e, Nat.lt_succ_of_le he⟩

theorem supMissing_eq (he : e ≤ 1) (hno : s.dirEntry e = none) :
    s.bootImageDone e = (((s.todoTail rest).bootFail e 0x11 0).supTried e).bootAdvance := by
  rw [bootImageDone_sup hruns htodo he, bootSup_missing _ _ ((dirEntry_todoTail s rest e).trans hno)]

/-- A missing program: the other entry is tried (R600). -/
theorem supMissing_tries (he : e ≤ 1) (hnew : s.power.boot.loaded.testBit e = false) (hno : s.dirEntry e = none)
    (hother : s.bit Reg.BOOT_STAT (1 - e) = false) : let t := s.bootImageDone e
    t.bit Reg.BOOT_STAT e = true ∧ t.power.boot.todo = (1 - e) :: rest ∧ t.bit Reg.INT_STAT_HI 26 = true := by
  obtain ⟨h25, h25', hne⟩ := sup_other he
  obtain ⟨hbits, hint, hpower⟩ := bootFail_shows (s.todoTail rest) e 0x11 0 h25
  rw [supMissing_eq hruns htodo he hno]
  have hloaded : ((s.todoTail rest).bootFail e 0x11 0).power.boot.loaded.testBit e = false := (congrArg (·.boot.loaded.testBit e) hpower).trans hnew
  have htodo' : ((s.todoTail rest).bootFail e 0x11 0).power.boot.todo = rest := congrArg (·.boot.todo) hpower
  have hfree : ((s.todoTail rest).bootFail e 0x11 0).bit Reg.BOOT_STAT (1 - e) = false := (hbits _ h25').trans ((if_neg hne).trans hother)
  have hbit := (hbits e h25).trans (if_pos rfl)
  generalize (s.todoTail rest).bootFail e 0x11 0 = u at *
  have hnext := bootAdvance_booting (u.bootMod (fun b => { b with todo := (1 - e) :: b.todo })) (List.cons_ne_nil _ _)
  rw [supTried_tries hloaded hfree]
  exact ⟨(hnext.bits e h25).trans hbit, hnext.todo.trans (congrArg (List.cons (1 - e)) htodo'), hnext.raised hint⟩

/-- A missing program after the other one has failed: the boot waits for the host (R601). -/
theorem supMissing_waits (he : e ≤ 1) (hnew : s.power.boot.loaded.testBit e = false) (hno : s.dirEntry e = none)
    (hother : s.bit Reg.BOOT_STAT (1 - e) = true) : let t := s.bootImageDone e
    t.stage = 8 ∧ t.power.boot.todo = [] ∧ t.bit Reg.BOOT_STAT e = true := by
  obtain ⟨h25, h25', hne⟩ := sup_other he
  obtain ⟨hbits, -, hpower⟩ := bootFail_shows (s.todoTail rest) e 0x11 0 h25
  rw [supMissing_eq hruns htodo he hno]
  have hloaded : ((s.todoTail rest).bootFail e 0x11 0).power.boot.loaded.testBit e = false := (congrArg (·.boot.loaded.testBit e) hpower).trans hnew
  have hfailed : ((s.todoTail rest).bootFail e 0x11 0).bit Reg.BOOT_STAT (1 - e) = true := (hbits _ h25').trans ((if_neg hne).trans hother)
  have hbit := (hbits e h25).trans (if_pos rfl)
  generalize (s.todoTail rest).bootFail e 0x11 0 = u at *
  obtain ⟨hstage, hempty, hkept, -⟩ := waitHost_shows u
  rw [supTried_waits hloaded hfailed, bootAdvance_waiting _ hstage]
  exact ⟨hstage, hempty, (hkept e h25).trans hbit⟩

/-- A missing CFG: the boot waits for the host (R601). -/
theorem cfgMissing_waits (he : e = 2) (hno : s.dirEntry e = none) : let t := s.bootImageDone e
    t.stage = 8 ∧ t.power.boot.todo = [] ∧ t.bit Reg.BOOT_STAT 2 = true ∧ t.bit Reg.INT_STAT_HI 26 = true := by
  obtain ⟨hbits, -, -⟩ := bootFail_shows (s.todoTail rest) 2 0x11 0 (by decide)
  obtain ⟨hstage, hempty, hkept, hint⟩ := waitHost_shows ((s.todoTail rest).bootFail 2 0x11 0)
  rw [bootImageDone_cfg hruns htodo he, bootCfg_missing _ ((dirEntry_todoTail s rest 2).trans (he ▸ hno)), bootAdvance_waiting _ hstage]
  exact ⟨hstage, hempty, (hkept 2 (by decide)).trans ((hbits 2 (by decide)).trans (if_pos rfl)), hint⟩

omit hruns htodo in
theorem supTried_loaded (u : State) (h : u.power.boot.loaded.testBit e = true) : u.supTried e = u := by
  unfold State.supTried; rw [if_pos h]

omit hruns htodo in
theorem todo_todoTail : (s.todoTail rest).power.boot.todo = rest := rfl

omit hruns htodo in
theorem loaded_todoTail : (s.todoTail rest).power.boot.loaded = s.power.boot.loaded := rfl

/-- A program that is valid runs on core 1, and the boot has its other entries left (R598, R600). -/
theorem supValid_runs (he : e ≤ 1) (hrest : rest ≠ []) {env : Nat} (hat : s.dirEntry e = some env) (hok : s.envOk env 1 = true) :
    let t := s.bootImageDone e
    t.power.boot.todo = rest ∧ t.power.boot.loaded = s.power.boot.loaded ||| 2 ^ e ∧ (t.core 17).run = .active ∧
    (t.core 17).pc = supPc (s.mN (env + payloadOff + 4)) := by
  obtain ⟨htail, hloaded, hrun, hpc⟩ := supApply_shows (s.todoTail rest) e env
  rw [todo_todoTail] at htail
  rw [loaded_todoTail] at hloaded
  rw [mN_todoTail] at hpc
  rw [bootImageDone_sup hruns htodo he, bootSup_valid _ _ _ ((dirEntry_todoTail s rest e).trans hat) ((envOk_todoTail s rest env 1).trans hok)]
  generalize (s.todoTail rest).supApply e env = u at *
  rw [supTried_loaded u (by rw [hloaded, Nat.testBit_or, Nat.testBit_two_pow_self, Bool.or_true])]
  have hnext := bootAdvance_booting u (by rw [htail]; exact hrest)
  have hcore := hnext.agree.core 17 rfl
  exact ⟨hnext.todo.trans htail, hnext.loaded.trans hloaded, (congrArg Core.run hcore).trans hrun, (congrArg Core.pc hcore).trans hpc⟩

omit hruns htodo in
theorem todo_bootSup (u : State) : (u.bootSup e).power.boot.todo = u.power.boot.todo := by
  unfold State.bootSup
  generalize (u.dirEntry e).filter (fun env => u.envOk env 1) = o
  cases o with
  | none => rw [Option.map_none, Option.getD_none, (State.bootFail_ag _ _ _ _).power rfl]
  | some env => rw [Option.map_some, Option.getD_some]; exact (supApply_shows u e env).1

omit hruns htodo in
/-- After the entry of SUP the boot has entries left, or it waits for the host; MRAM stays. -/
theorem mram_supTried (u : State) (h : u.power.boot.todo ≠ []) : ((u.supTried e).bootAdvance).mram = u.mram := by
  unfold State.supTried
  split
  · exact (bootAdvance_booting u h).agree.mram rfl
  · split
    · rw [bootAdvance_waiting _ (waitHost_shows u).1]
      exact (State.waitHost_ag u).mram rfl
    · exact ((bootAdvance_booting _ (List.cons_ne_nil _ _)).agree.mram rfl).trans ((State.bootMod_ag u _).mram rfl)

theorem mram_bootImageDone_sup (he : e ≤ 1) (hrest : rest ≠ []) : (s.bootImageDone e).mram = s.mram := by
  rw [bootImageDone_sup hruns htodo he, mram_supTried _ (by rw [todo_bootSup, todo_todoTail]; exact hrest),
    (State.bootSup_ag _ _).mram rfl, (todoTail_ag s rest).mram rfl]

end

/-! ### The commands of BOOT_CMD -/

section
variable (s : State) (v : Word)

/-- A refused command sets its flag and is reported, and changes nothing else (R605). -/
theorem bootCmdErr_shows : let t := s.bootCmdErr v
    t.bit Reg.BOOT_STAT 29 = true ∧ t.bit Reg.INT_STAT_HI 12 = true ∧ t.power = s.power ∧ OnlyRegsSig s t [Reg.BOOT_STAT] := by
  refine ⟨?_, pwrLog_raises _ _ _ _ _ _ _ (by decide), (State.bootCmdErr_ag s v).power rfl,
    (((Writes.refl (fun a => a ∈ [Reg.BOOT_STAT]) s).putBit _ _ (by simp)).pwrLog _ _ _ _ _).rd⟩
  unfold State.bootCmdErr
  rw [bit_pwrLog _ _ _ _ _ _ _ (by decide), State.bit_putBit _ _ _ _ _ _ (by decide), if_pos ⟨rfl, rfl⟩]

theorem bootContinue_refused (h : s.stage ≠ 8) : s.bootContinue v = s.bootCmdErr v := if_pos h

/-- CONTINUE: step 1 is repeated for the entries not loaded (R601, R605). -/
theorem bootContinue_shows (h : s.stage = 8) : let t := s.bootContinue v
    t.power.boot.todo = s.bootTodo ∧ t.fld Reg.BOOT_STAT 19 0 = 0 ∧ t.bit Reg.BOOT_STAT 30 = false ∧
    t.stage = (if s.bootTodo = [] then 4 else 1) ∧ OnlyRegs s t [Reg.BOOT_STAT] ∧ t = { s with regs := t.regs, power := t.power } := by
  let u := (s.put Reg.BOOT_STAT 19 0 0).putBit Reg.BOOT_STAT 30 false
  let n := if s.bootTodo.isEmpty then 4 else 1
  have ht : s.bootContinue v = (u.bootMod (fun b => { b with todo := s.bootTodo })).setStage n := if_neg (not_not.2 h)
  have hag := State.setStage_ag (u.bootMod (fun b => { b with todo := s.bootTodo })) n
  have hn : n = if s.bootTodo = [] then 4 else 1 := by
    unfold n; simp only [List.isEmpty_iff]
  have hu : u.power = s.power := rfl
  have hstat (k : Nat) : ((u.bootMod (fun b => { b with todo := s.bootTodo })).setStage n).rd k = (u.setStage n).rd k := rfl
  rw [ht]
  refine ⟨?_, ?_, ?_, ?_, ?_, ?_⟩
  · rw [hag.power rfl]
    rfl
  · unfold State.fld
    rw [hstat]
    refine (State.fld_put_apart _ _ _ _ _ _ _ _ (by decide) (by decide) (by decide) (by decide)).trans ?_
    refine (State.fld_putBit_apart _ _ _ _ _ _ _ (by decide) (by decide) (by decide)).trans ?_
    exact State.fld_put_same _ _ _ _ _ (by decide) (by decide)
  · unfold State.bit
    rw [hstat]
    exact (bit_setStage _ _ _ _ (by decide)).trans ((State.bit_putBit _ _ _ _ _ _ (by decide)).trans (if_pos ⟨rfl, rfl⟩))
  · rw [stage_setStage _ _ (by rw [hn]; split <;> decide), hn]
  · exact fun k hk => (hstat k).trans ((((OnlyRegs.refl s _).wr _ (by simp)).wr _ (by simp)).wr _ (by simp) k hk)
  · exact ((((Agree.refl 281474976710657 s).then (State.put_ag s _ _ _ _) rfl |>.then (State.putBit_ag _ _ _ _) rfl).then
      (State.bootMod_ag _ _) rfl).then hag rfl).eq_regs_power

/-! #### RAISE_MIN -/

theorem bootRaise_refused (h : field v 2 0 = 0 ∨ 4 < field v 2 0 ∨ 8 ≤ SMap.get (fun _ => 0) s.power.otpRows (field v 2 0) ∨
    s.activeVersion (field v 2 0) = none) : s.bootRaise v = s.bootCmdErr v := by
  unfold State.bootRaise
  dsimp only
  split
  · next ver hver =>
    rw [hver] at h
    exact if_pos (by simpa using h)
  · rfl

/-- The next free OTP row of the kind takes the version (R605). -/
theorem bootRaise_shows {ver : Nat} (h1 : 1 ≤ field v 2 0) (h4 : field v 2 0 ≤ 4)
    (hfree : SMap.get (fun _ => 0) s.power.otpRows (field v 2 0) < 8) (hver : s.activeVersion (field v 2 0) = some ver) :
    let t := s.bootRaise v
    t.rd (Reg.BOOT_MINVER (field v 2 0 - 1)) = w32 (max (s.rd (Reg.BOOT_MINVER (field v 2 0 - 1))).toNat ver) ∧
    SMap.get (fun _ => 0) t.power.otpRows (field v 2 0) = SMap.get (fun _ => 0) s.power.otpRows (field v 2 0) + 1 ∧
    t.bit Reg.INT_STAT_HI 26 = true ∧ OnlyRegsSig s t [Reg.BOOT_MINVER (field v 2 0 - 1)] ∧
    t = { s with regs := t.regs, supPend := t.supPend, tally := t.tally, buckets := t.buckets, power := t.power } := by
  let k := field v 2 0
  let a := Reg.BOOT_MINVER (k - 1)
  let new := max (s.rd a).toNat ver
  let used := SMap.get (fun _ => 0) s.power.otpRows k
  let u := (s.wr a (w32 new)).pwrMod (fun p => { p with otpRows := SMap.set (fun _ => 0) p.otpRows k (used + 1) })
  have ht : s.bootRaise v = u.pwrLog 58 0x223 k new (7 - used) := by
    unfold State.bootRaise
    dsimp only
    rw [hver]
    exact if_neg (not_or.2 ⟨Nat.ne_of_gt h1, not_or.2 ⟨Nat.not_lt.2 h4, Nat.not_le.2 hfree⟩⟩)
  have ha : 0x10000 ≤ a := Nat.le_add_right_of_le (by decide)
  have hw : Writes (fun x => x ∈ [a]) s u := .of_regs (.wr (.refl _ s) _ (by simp)) rfl
  rw [ht]
  refine ⟨?_, ?_, pwrLog_raises _ _ _ _ _ _ _ (by decide), (hw.pwrLog _ _ _ _ _).rd, ?_⟩
  · rw [rd_pwrLog _ _ _ _ _ _ ha]
    exact (State.rd_wr _ _ _ _).trans (if_pos rfl)
  · rw [(State.pwrLog_ag _ _ _ _ _ _).power rfl]
    exact (SMap.get_set (fun _ => 0) s.power.otpRows k k (used + 1)).trans (if_pos rfl)
  · exact (((Agree.refl 281474976735745 s).then (State.wr_ag s _ _) rfl |>.then (State.pwrMod_ag _ _) rfl).then
      (State.pwrLog_ag _ _ _ _ _ _) rfl).eq_signal_power

end

/-- Settles O60: the head of the boot's list is loaded, failed or stops the boot; of the commands each outcome is one lemma. -/
theorem bootServiceAndCommands : Obligations.BootServiceAndCommands := by
  unfold Obligations.BootServiceAndCommands
  intro s e v
  extract_lets stat b n Refused
  have hrefused (i : Instr) (h : exec i s = .next (s.bootCmdErr v)) : Refused i := ⟨_, h, bootCmdErr_shows s v⟩
  refine ⟨fun h => congrArg Host.Outcome.next (bootImageDone_idle s n h), fun rest hruns htodo hnew hno => ⟨fun he hother _ => ?_, fun he hother => ?_,
    fun he => ?_⟩, fun rest env hruns htodo hrest he hnew hat => ?_, fun h => hrefused _ (congrArg Host.Outcome.next (bootContinue_refused s v h)),
    fun h => ⟨_, rfl, bootContinue_shows s v h⟩, ?_⟩
  · exact ⟨_, rfl, supMissing_tries hruns htodo he hnew hno hother⟩
  · exact ⟨_, rfl, supMissing_waits hruns htodo he hnew hno hother⟩
  · exact ⟨_, rfl, cfgMissing_waits hruns htodo he hno⟩
  · exact ⟨_, rfl, mram_bootImageDone_sup hruns htodo he hrest, supValid_runs hruns htodo he hrest hat⟩
  · exact ⟨fun h => hrefused _ (congrArg Host.Outcome.next (bootRaise_refused s v h)),
      fun ver h1 h4 hfree hver => ⟨_, rfl, bootRaise_shows s v h1 h4 hfree hver⟩⟩

end Sys2Proof.Machine
end

section
/-!
The indirect interface of a requester (chapter 17).
-/
namespace Sys2Proof.Machine
open Sys2Proof

theorem Agree.eq_inds {s t : State} (h : Agree 128 s t) : t = { s with inds := t.inds } := h.eq_overlay
theorem Agree.eq_rsp_inds {s t : State} (h : Agree 144 s t) : t = { s with rsp := t.rsp, inds := t.inds } := h.eq_overlay

/-! ### Address, control and data words -/

section
variable (s : State) (r : Req)

theorem ind_indMod (f : Ind → Ind) : (s.indMod r f).ind r.num = f (s.ind r.num) := (State.ind_setInd _ _ _ _).trans (if_pos rfl)

/-- A change of one interface leaves the others. -/
theorem indMod_others (f : Ind → Ind) (q : Nat) (hq : q ≠ r.num) : (s.indMod r f).ind q = s.ind q :=
  (State.ind_setInd _ _ _ _).trans (if_neg (Ne.symm hq))

theorem indMod_frame (f : Ind → Ind) : s.indMod r f = { s with inds := (s.indMod r f).inds } := (State.setInd_ag s _ _).eq_inds

theorem exec_indAddrWrite (v : Word) (h : s.served r = true) : exec (.hbiIndAddrWrite r v) s = .next (s.indAddrWrite r v) :=
  access_served s r (f := fun s => s.indAddrWrite r v) h

theorem exec_indCtrlWrite (v : Word) (h : s.served r = true) : exec (.hbiIndCtrlWrite r v) s = .next (s.indCtrlWrite r v) :=
  access_served s r (f := fun s => s.indCtrlWrite r v) h

theorem exec_indDataRead (h : s.served r = true) : exec (.hbiIndDataRead r) s = .next (s.indDataRead r) :=
  access_served s r (f := fun s => s.indDataRead r) h

theorem exec_indDataWrite (v : Word) (h : s.served r = true) : exec (.hbiIndDataWrite r 15 v) s = .next (s.indDataWrite r v) :=
  access_served s r (f := fun s => s.indDataWrite r v) h

theorem exec_indDataWrite_partial (be : BitVec 4) (v : Word) (h : s.served r = true) (hbe : be ≠ 15) :
    exec (.hbiIndDataWrite r be v) s = .next (s.hbiErr r 1 true Reg.HBI_IND_DATA be.toNat) :=
  (access_served s r (f := fun s => if be.toNat ≠ 15 then s.hbiErr r 1 true Reg.HBI_IND_DATA be.toNat else s.indDataWrite r v) h).trans
    (congrArg Host.Outcome.next (if_pos fun e => hbe (BitVec.eq_of_toNat_eq e)))

/-- An access that is not of a whole word is refused (R561). -/
theorem hbiErr_shows (addr be : Nat) : let t := s.hbiErr r 1 true addr be
    t.inds = s.inds ∧ t.bit Reg.HBI_STAT 1 = true ∧ t.bit Reg.INT_STAT_HI 13 = true := by
  refine ⟨(State.hbiErr_ag s _ _ _ _ _).inds rfl, ?_, State.bit_irq_hi _ _ _ (.inl (by decide))⟩
  unfold State.hbiErr
  extract_lets win w
  exact (((Writes.refl (fun _ => False) _).irq 45).bit 1 id (by unfold Signals; decide)).trans
    ((State.bit_putBit _ _ _ _ _ _ (by decide)).trans (if_pos ⟨rfl, rfl⟩))

theorem indAddrWrite_empty (v : Word) (h : Ind_queued (s.ind r.num) = 0) : s.indAddrWrite r v = s.indMod r (fun x => Ind_setAddr x v) :=
  congrArg (s.setInd r.num) (if_pos h)

theorem indAddrWrite_behind (v : Word) (h : Ind_queued (s.ind r.num) ≠ 0) :
    s.indAddrWrite r v = s.indMod r (fun x => { x with held := x.held ++ [.addr v] }) :=
  congrArg (s.setInd r.num) (if_neg h)

theorem indCtrlWrite_empty (v : Word) (h : Ind_queued (s.ind r.num) = 0) : s.indCtrlWrite r v = s.indMod r (fun x => Ind_setCtrl x v) :=
  congrArg (s.setInd r.num) (if_pos h)

theorem indCtrlWrite_behind (v : Word) (h : Ind_queued (s.ind r.num) ≠ 0) :
    s.indCtrlWrite r v = s.indMod r (fun x => { x with held := x.held ++ [.ctrl v] }) :=
  congrArg (s.setInd r.num) (if_neg h)

/-- The bits of HBI_IND_CTRL that are stored hold the mode. -/
theorem wr_setCtrl (x : Ind) (v : Word) : (Ind_setCtrl x v).live = !bitAt v 31 := by
  have : bitAt (v &&& 0xB0FFFFFF) 31 = bitAt v 31 := by
    unfold bitAt; rw [BitVec.getLsbD_and, show (0xB0FFFFFF : Word).getLsbD 31 = true from rfl, Bool.and_true]
  exact congrArg Bool.not this

/-- What a failure leaves of an interface (R569). -/
structure IndFailed (s t : State) (r : Req) (cause : Nat) : Prop where
  err : (t.ind r.num).err = true
  cause_eq : (t.ind r.num).cause = cause
  raised : t.bit Reg.INT_STAT_HI 14 = true
  mine : ∀ q, q ≠ r.num → t.ind q = s.ind q
  mram : t.mram = s.mram
  only : OnlyRegs s t [Reg.INT_STAT_HI]

theorem ind_indFail (cause q : Nat) : (s.indFail r cause).ind q = if r.num = q then { s.ind q with err := true, cause := cause } else s.ind q := by
  unfold State.indFail State.ind
  rw [(State.irq_ag _ _).inds (by decide)]
  refine (State.ind_setInd _ _ _ _).trans ?_
  split
  · next h => rw [h]
  · rfl

theorem indFail_failed (cause : Nat) : IndFailed s (s.indFail r cause) r cause := by
  obtain ⟨herr, hcause, hint⟩ := indFail_shows s r cause
  refine ⟨herr, hcause, hint, fun q hq => ?_, (State.indFail_ag s r cause).mram rfl, (indFail_refuses s r cause).1⟩
  rw [ind_indFail, if_neg (Ne.symm hq)]

/-- A later change of the interface that keeps the error. -/
theorem IndFailed.indMod {s t : State} {r : Req} {cause : Nat} (h : IndFailed s t r cause) {f : Ind → Ind}
    (he : (f (t.ind r.num)).err = (t.ind r.num).err) (hc : (f (t.ind r.num)).cause = (t.ind r.num).cause) :
    IndFailed s (t.indMod r f) r cause := by
  exact ⟨(congrArg Ind.err (ind_indMod t r f)).trans (he.trans h.err), (congrArg Ind.cause (ind_indMod t r f)).trans (hc.trans h.cause_eq), h.raised,
    fun q hq => (indMod_others t r f q hq).trans (h.mine q hq), h.mram, h.only⟩

/-- A read of HBI_IND_DATA in WR mode fails. -/
theorem indDataRead_failed (h : bitAt (s.ind r.num).ctrl 31 = true) : s.indDataRead r = (s.indFail r 5).answer r 0 := if_pos h

theorem IndFailed.answer {s t : State} {r : Req} {cause : Nat} (h : IndFailed s t r cause) (v : Word) : IndFailed s (t.answer r v) r cause :=
  ⟨h.err, h.cause_eq, h.raised, h.mine, h.mram, h.only⟩

/-- A word of the stream is delivered. -/
theorem indDataRead_word {w : Word} {ws : List Word} (h : bitAt (s.ind r.num).ctrl 31 = false) (hpf : (s.ind r.num).pf = w :: ws) :
    s.indDataRead r = (s.indMod r (fun x => { x with pf := ws, last := w, addr := x.addr + w32 (Ind_step x) })).answer r w := by
  unfold State.indDataRead Ind_wr
  dsimp only
  rw [if_neg (by simp [h]), hpf]
  rfl

/-- Without a word the last one is read again, and UNDERRUN shows. -/
theorem indDataRead_empty (h : bitAt (s.ind r.num).ctrl 31 = false) (hpf : (s.ind r.num).pf = []) :
    s.indDataRead r = (s.indMod r (fun x => { x with underrun := true })).answer r (s.ind r.num).last := by
  unfold State.indDataRead Ind_wr
  dsimp only
  rw [if_neg (by simp [h])]
  split
  · next hws => rw [hpf] at hws; cases hws
  · rfl

theorem indDataWrite_reading (v : Word) (h : bitAt (Ind_ahead (s.ind r.num)).ctrl 31 = false) : s.indDataWrite r v = s.indFail r 5 :=
  if_pos (by unfold Ind_wr; simp [h])

theorem indDataWrite_full (v : Word) (h : bitAt (Ind_ahead (s.ind r.num)).ctrl 31 = true) (hfull : 8 ≤ Ind_queued (s.ind r.num)) :
    s.indDataWrite r v = s.indFail r 7 :=
  (if_neg (by unfold Ind_wr; simp [h])).trans (if_pos hfull)

theorem indDataWrite_queues (v : Word) (h : bitAt (Ind_ahead (s.ind r.num)).ctrl 31 = true) (hroom : Ind_queued (s.ind r.num) < 8) :
    s.indDataWrite r v = s.indMod r (fun x => if x.held.isEmpty then Ind_queue x v else { x with held := x.held ++ [.data v] }) :=
  (if_neg (by unfold Ind_wr; simp [h])).trans (if_neg (Nat.not_le.2 hroom))

end

/-! ### Prefetched words -/

section
variable (s : State) (r : Req)

/-- No word of the stream is fetched: it has ended, it is full, or its count is through. -/
def Ind_still (x : Ind) : Prop := x.live = false ∨ 16 ≤ x.pf.length ∨ x.left = some 0

theorem prefetchOne_still (ok : Bool) (h : Ind_still (s.ind r.num)) : s.prefetchOne r ok = s := by
  unfold State.prefetchOne
  dsimp only
  refine if_pos ?_
  rcases h with h | h | h
  · exact .inl (by rw [h]; rfl)
  · exact .inr (.inl h)
  · exact .inr (.inr h)

theorem prefetchBlock_still (block n : Nat) (h : Ind_still (s.ind r.num)) : s.prefetchBlock r block n = s := by
  induction n with
  | zero => rfl
  | succ n ih =>
    unfold State.prefetchBlock
    dsimp only
    split
    · rw [prefetchOne_still s r true h, ih]
    · rfl

theorem prefetchDone_still (ok : Bool) (h : Ind_still (s.ind r.num)) : s.prefetchDone r ok = s := by
  unfold State.prefetchDone
  dsimp only
  rw [prefetchOne_still s r ok h]
  split
  · exact prefetchBlock_still s r _ _ h
  · rfl

def failedPush (y : Ind) : Ind := { Ind_push y 0 (Ind_step y) with live := false }

/-- A failed access of the stream: it delivers 0 and ends (R569). -/
def State.prefetchFailed (s : State) (r : Req) (cause : Nat) : State := (s.indFail r cause).indMod r failedPush

/-- A word is read for the stream, of MRAM or of a register. -/
def State.prefetchRead (s : State) (r : Req) : State :=
  let x := s.ind r.num
  let (t, w) := s.indRead x.next (Ind_width x)
  t.indMod r (fun y => Ind_push y w (Ind_step y))

/-- A word read of MRAM for the stream. -/
def State.prefetched (s : State) (r : Req) : State :=
  let x := s.ind r.num
  s.indMod r (fun y => Ind_push y (w32 (leWord (s.mbs (Ind_width x) x.next)).toNat) (Ind_step y))

theorem prefetchFailed_shows (cause : Nat) : IndFailed s (s.prefetchFailed r cause) r cause ∧
    ((s.prefetchFailed r cause).ind r.num).pf = (s.ind r.num).pf ++ [0] ∧ ((s.prefetchFailed r cause).ind r.num).live = false := by
  have hmine := ind_indMod (s.indFail r cause) r failedPush
  have hfail := (ind_indFail s r cause r.num).trans (if_pos rfl)
  exact ⟨(indFail_failed s r cause).indMod rfl rfl, (congrArg Ind.pf hmine).trans (congrArg (fun x : Ind => x.pf ++ [0]) hfail :), congrArg Ind.live hmine⟩

section
variable {s r} (h : ¬ Ind_still (s.ind r.num))
include h

/-- A word of the stream is fetched. -/
theorem prefetchOne_fetches (ok : Bool) : s.prefetchOne r ok =
    match s.indCause (s.ind r.num).base (s.ind r.num).next (Ind_width (s.ind r.num)) with
    | some c => s.prefetchFailed r c
    | none => if !ok && decide ((s.ind r.num).next < 0x4000000) then s.prefetchFailed r 6 else s.prefetchRead r :=
  if_neg fun e => h (e.imp_left fun e => (Bool.not_eq_true' _).mp e)

theorem prefetchOne_refused (ok : Bool) {c : Nat} (hc : s.indCause (s.ind r.num).base (s.ind r.num).next (Ind_width (s.ind r.num)) = some c) :
    s.prefetchOne r ok = s.prefetchFailed r c := by
  rw [prefetchOne_fetches h ok, hc]

variable (hc : s.indCause (s.ind r.num).base (s.ind r.num).next (Ind_width (s.ind r.num)) = none) (hm : (s.ind r.num).next < 0x4000000)
include hc hm

theorem prefetchOne_error : s.prefetchOne r false = s.prefetchFailed r 6 := by
  rw [prefetchOne_fetches h, hc]
  exact if_pos (by rw [decide_eq_true hm]; rfl)

theorem prefetchOne_word : s.prefetchOne r true = s.prefetched r := by
  rw [prefetchOne_fetches h, hc]
  refine (if_neg (by rw [Bool.not_true, Bool.false_and]; decide)).trans ?_
  have hread : s.indRead (s.ind r.num).next (Ind_width (s.ind r.num)) = _ := if_pos hm
  unfold State.prefetchRead
  dsimp only
  rw [hread]
  rfl

end

/-- What reading words of MRAM for a stream changes: words are added, and an error may show. -/
structure Streams (s t : State) (r : Req) : Prop where
  pf : ∃ ws, (t.ind r.num).pf = (s.ind r.num).pf ++ ws
  mine : ∀ q, q ≠ r.num → t.ind q = s.ind q
  mram : t.mram = s.mram
  only : OnlyRegs s t [Reg.INT_STAT_HI]

theorem Streams.refl : Streams s s r := ⟨⟨[], (List.append_nil _).symm⟩, fun _ _ => rfl, rfl, fun _ _ => rfl⟩

theorem Streams.trans {s t u : State} {r : Req} (h : Streams s t r) (k : Streams t u r) : Streams s u r := by
  obtain ⟨ws, hws⟩ := h.pf
  obtain ⟨vs, hvs⟩ := k.pf
  exact ⟨⟨ws ++ vs, by rw [hvs, hws, List.append_assoc]⟩, fun q hq => (k.mine q hq).trans (h.mine q hq), k.mram.trans h.mram,
    fun a ha => (k.only a ha).trans (h.only a ha)⟩

theorem prefetched_shows : ((s.prefetched r).ind r.num).pf =
      (s.ind r.num).pf ++ [w32 (leWord (s.mbs (Ind_width (s.ind r.num)) (s.ind r.num).next)).toNat] ∧ Streams s (s.prefetched r) r := by
  have hpf := congrArg Ind.pf (ind_indMod s r
    (fun y => Ind_push y (w32 (leWord (s.mbs (Ind_width (s.ind r.num)) (s.ind r.num).next)).toNat) (Ind_step y)))
  exact ⟨hpf, ⟨_, hpf⟩, indMod_others s r _, rfl, fun _ _ => rfl⟩

theorem prefetchFailed_streams (cause : Nat) : Streams s (s.prefetchFailed r cause) r := by
  obtain ⟨hfail, hpf, -⟩ := prefetchFailed_shows s r cause
  exact ⟨⟨_, hpf⟩, hfail.mine, hfail.mram, hfail.only⟩

theorem prefetchOne_streams (hm : (s.ind r.num).next < 0x4000000) : Streams s (s.prefetchOne r true) r := by
  by_cases h : Ind_still (s.ind r.num)
  · rw [prefetchOne_still s r true h]
    exact .refl s r
  · cases hc : s.indCause (s.ind r.num).base (s.ind r.num).next (Ind_width (s.ind r.num)) with
    | some c =>
      rw [prefetchOne_refused h true hc]
      exact prefetchFailed_streams s r c
    | none =>
      rw [prefetchOne_word h hc hm]
      exact (prefetched_shows s r).2

theorem prefetchBlock_streams (block n : Nat) : Streams s (s.prefetchBlock r block n) r := by
  induction n generalizing s with
  | zero => exact .refl s r
  | succ n ih =>
    unfold State.prefetchBlock
    dsimp only
    split
    · next h => exact (prefetchOne_streams s r h.2.1).trans (ih _)
    · exact .refl s r

/-- A stream that has ended fetches no further word of the block. -/
theorem prefetchDone_ended (ok : Bool) (h : ((s.prefetchOne r ok).ind r.num).live = false) : s.prefetchDone r ok = s.prefetchOne r ok := by
  unfold State.prefetchDone
  exact if_neg (by simp [h])

theorem prefetchDone_streams (ok : Bool) : Streams (s.prefetchOne r ok) (s.prefetchDone r ok) r := by
  unfold State.prefetchDone
  dsimp only
  split
  · exact prefetchBlock_streams _ r _ _
  · exact .refl _ r

end

end Sys2Proof.Machine
end

section
/-!
Queued writes of the indirect interface, and the statement about it (chapter 17).
-/
namespace Sys2Proof.Machine
open Sys2Proof

/-! ### Queued writes -/

/-- What a write that has left the queue does: it fails, or its word reaches its target. -/
def State.queuedRun (s : State) (r : Req) (ok : Bool) (q : QWord) : State :=
  match s.indCause q.base q.addr q.width with
  | some c => s.indFail r c
  | none => if !ok && decide (q.addr < 0x4000000) then s.indFail r 6 else s.indWrite r q.addr q.width q.val

/-- The writes held behind the queue take effect. -/
def State.indDrained (s : State) (r : Req) : State := s.indMod r (fun y => Ind_drain y.held y)

/-- The first write leaves the queue. -/
def State.queueTail (s : State) (r : Req) (qs : List QWord) : State := s.indMod r (fun x => { x with wq := qs })

section
variable (s : State) (r : Req) (ok : Bool)

theorem queuedDone_empty (h : (s.ind r.num).wq = []) : s.queuedDone r ok = s := by
  unfold State.queuedDone
  dsimp only
  split
  · rfl
  · next hq => rw [h] at hq; cases hq

theorem queuedDone_first {q : QWord} {qs : List QWord} (h : (s.ind r.num).wq = q :: qs) :
    s.queuedDone r ok = ((s.queueTail r qs).queuedRun r ok q).indDrained r := by
  unfold State.queuedDone
  dsimp only
  rw [h]
  rfl

theorem queuedRun_refused {q : QWord} {c : Nat} (h : s.indCause q.base q.addr q.width = some c) : s.queuedRun r ok q = s.indFail r c := by
  unfold State.queuedRun
  rw [h]

theorem queuedRun_error {q : QWord} (h : s.indCause q.base q.addr q.width = none) (hm : q.addr < 0x4000000) :
    s.queuedRun r false q = s.indFail r 6 := by
  unfold State.queuedRun
  rw [h]
  exact if_pos (by simpa using hm)

theorem queuedRun_written {q : QWord} (h : s.indCause q.base q.addr q.width = none) (hm : q.addr < 0x4000000) :
    s.queuedRun r true q = s.mramAccess (if r.isHost then .host else .supervisor) (some r) true q.addr q.width (leBytes q.val) := by
  unfold State.queuedRun
  rw [h]
  unfold State.indWrite
  rw [if_neg (by simp), if_pos hm]

theorem Ind_drain_nil {x : Ind} (h : x.held = []) : Ind_drain x.held x = x := by
  rw [h]
  exact congrArg (fun l => { x with held := l }) h.symm

/-- With nothing held only that is noted. -/
theorem ind_indDrained (h : (s.ind r.num).held = []) : (s.indDrained r).ind r.num = s.ind r.num :=
  (ind_indMod s r _).trans (Ind_drain_nil h)

theorem queueTail_shows (qs : List QWord) : let t := s.queueTail r qs
    (t.ind r.num).wq = qs ∧ (t.ind r.num).held = (s.ind r.num).held ∧ ∀ q, q ≠ r.num → t.ind q = s.ind q :=
  have hmine := ind_indMod s r (fun x => { x with wq := qs })
  ⟨congrArg Ind.wq hmine, (congrArg Ind.held hmine :), indMod_others s r _⟩

theorem indCause_queueTail (qs : List QWord) (base a width : Nat) : (s.queueTail r qs).indCause base a width = s.indCause base a width := rfl

/-- A write that fails leaves the queue and shows its cause (R569). -/
theorem queuedFailed_shows (qs : List QWord) (cause : Nat) (h : (s.ind r.num).held = []) :
    IndFailed s (((s.queueTail r qs).indFail r cause).indDrained r) r cause ∧
    ((((s.queueTail r qs).indFail r cause).indDrained r).ind r.num).wq = qs := by
  obtain ⟨hwq, hheld, hother⟩ := queueTail_shows s r qs
  have hfail := indFail_failed (s.queueTail r qs) r cause
  have hind : ((s.queueTail r qs).indFail r cause).ind r.num = { (s.queueTail r qs).ind r.num with err := true, cause := cause } :=
    (ind_indFail _ _ _ _).trans (if_pos rfl)
  have hdrained := ind_indDrained ((s.queueTail r qs).indFail r cause) r ((congrArg Ind.held hind).trans (hheld.trans h))
  have hkept := hdrained.symm.trans (ind_indMod ((s.queueTail r qs).indFail r cause) r (fun y => Ind_drain y.held y))
  have hdone := hfail.indMod (f := fun y => Ind_drain y.held y) (congrArg Ind.err hkept).symm (congrArg Ind.cause hkept).symm
  exact ⟨⟨hdone.err, hdone.cause_eq, hdone.raised, fun q hq => (hdone.mine q hq).trans (hother q hq), hdone.mram, hdone.only⟩,
    (congrArg Ind.wq (hdrained.trans hind)).trans hwq⟩

end

/-- A word is aligned to its width. -/
def Aligned (a width : Nat) : Prop := (width = 1 ∨ width = 2 ∨ width = 4) ∧ a % width = 0

/-- Its bytes lie in one block of four. -/
theorem Aligned.block {a width : Nat} (ha : Aligned a width) {i : Nat} (hi : i < width) : (a + i) / 4 = a / 4 := by
  obtain ⟨hw, hmod⟩ := ha
  obtain ⟨k, hk⟩ : ∃ k, 4 = width * k := by
    rcases hw with rfl | rfl | rfl
    · exact ⟨4, rfl⟩
    · exact ⟨2, rfl⟩
    · exact ⟨1, rfl⟩
  rw [hk, ← Nat.div_div_eq_div_mul, ← Nat.div_div_eq_div_mul, Nat.add_div_of_dvd_right (Nat.dvd_of_mod_eq_zero hmod), Nat.div_eq_of_lt hi, Nat.add_zero]

theorem Aligned.le_four {a width : Nat} (ha : Aligned a width) : width ≤ 4 := by
  rcases ha.1 with rfl | rfl | rfl
  · decide
  · decide
  · exact Nat.le_refl 4

/-- Two addresses in one block of four lie on the same side of every bound at a block. -/
theorem lt_block {a b : Nat} (h : a / 4 = b / 4) (n : Nat) : a < n * 4 ↔ b < n * 4 := by
  rw [← Nat.div_lt_iff_lt_mul (by decide), ← Nat.div_lt_iff_lt_mul (by decide), h]

theorem mramWriter_block {a b : Nat} (h : a / 4 = b / 4) (fn : MUser) : mramWriter fn a = mramWriter fn b := by
  unfold mramWriter
  exact ite_congr (propext (lt_block h 0x200000)) (fun _ => rfl) fun _ => ite_congr (propext (lt_block h 0x208000)) (fun _ => rfl) fun _ =>
    ite_congr (propext (lt_block h 0x400000)) (fun _ => rfl) fun _ => ite_congr (propext (lt_block h 0x600000)) (fun _ => rfl) fun _ => rfl

/-- An aligned word lies wholly in the range of its address (R37). -/
theorem mramWriter_word {fn : MUser} {a width : Nat} (ha : Aligned a width) (h : mramWriter fn a = true) {i : Nat} (hi : i < width) :
    mramWriter fn (a + i) = true := (mramWriter_block (ha.block hi) fn).trans h

/-- Its bytes lie within the MRAM where its address does. -/
theorem Aligned.in_mram {a width : Nat} (ha : Aligned a width) (h : a < 0x4000000) {i : Nat} (hi : i < width) : a + i < 0x4000000 :=
  (lt_block (ha.block hi) 0x1000000).2 h

/-- Of three refusals in a row none applies. -/
theorem not_third {p q r : Prop} [Decidable p] [Decidable q] [Decidable r] {α : Type} {a b c : α}
    (h : (if p then some a else if q then some b else if r then some c else none) = none) : ¬ r := by
  split_ifs at h
  assumption

/-- An access that has no cause to fail is aligned. -/
theorem aligned_of_indCause {s : State} {base a width : Nat} (h : s.indCause base a width = none)
    (hw : width = 1 ∨ width = 2 ∨ width = 4) : Aligned a width := by
  refine ⟨hw, Decidable.byContradiction fun hmod => ?_⟩
  unfold State.indCause at h
  revert h
  cases indRange a with
  | none => exact fun h => nomatch h
  | some p => exact fun h => not_third h (.inr (.inr hmod))

theorem getD_take {b : Bytes} {n m : Nat} (h : m < n) : (b.take n).getD m 0 = b.getD m 0 := by
  rw [List.getD_eq_getElem?_getD, List.getElem?_take_of_lt h, List.getD_eq_getElem?_getD]

section
variable (s : State) (r : Req) {q : QWord} {qs : List QWord}

/-- A write that reaches MRAM: its bytes stand there and nothing else of MRAM changes (R565, R567). -/
theorem queuedWritten_shows (hheld : (s.ind r.num).held = []) (hc : s.indCause q.base q.addr q.width = none) (hm : q.addr < 0x4000000)
    (hmay : mramWriter (if r.isHost then .host else .supervisor) q.addr = true) (hw : q.width = 1 ∨ q.width = 2 ∨ q.width = 4) :
    let t := ((s.queueTail r qs).queuedRun r true q).indDrained r
    (∀ m, m < q.width → t.mb (q.addr + m) = (leBytes q.val).getD m 0) ∧ (∀ m, m < q.addr ∨ q.addr + q.width ≤ m → t.mb m = s.mb m) ∧
    (t.ind r.num).wq = qs ∧ (∀ n, n ≠ r.num → t.ind n = s.ind n) ∧ t.regs = s.regs := by
  let fn : MUser := if r.isHost then .host else .supervisor
  have halign := aligned_of_indCause hc hw
  have hrun : (s.queueTail r qs).queuedRun r true q = ((s.queueTail r qs).forgetErr fn).mwr q.addr ((leBytes q.val).take q.width) :=
    (queuedRun_written _ r ((indCause_queueTail s r qs _ _ _).trans hc) hm).trans
      (mramAccess_write _ fn _ _ _ _ fun i hi => mramWriter_word halign hmay hi)
  have hlen : ((leBytes q.val).take q.width).length = q.width := by
    rw [List.length_take]
    exact Nat.min_eq_left halign.le_four
  obtain ⟨hwq, hheld', hother⟩ := queueTail_shows s r qs
  rw [hrun]
  have hmwr := State.mwr_ag ((s.queueTail r qs).forgetErr fn) q.addr ((leBytes q.val).take q.width)
  have hin := fun m hlt => mb_mwr_in ((s.queueTail r qs).forgetErr fn) q.addr ((leBytes q.val).take q.width) m hlt
  have hout := fun m hout => State.mb_mwr_out ((s.queueTail r qs).forgetErr fn) q.addr ((leBytes q.val).take q.width) m hout
  generalize ((s.queueTail r qs).forgetErr fn).mwr q.addr ((leBytes q.val).take q.width) = w at *
  have hind (n : Nat) : w.ind n = (s.queueTail r qs).ind n := congrArg (SMap.get _ · n) (hmwr.inds rfl)
  have hmine := ind_indDrained w r ((congrArg Ind.held (hind r.num)).trans (hheld'.trans hheld))
  exact ⟨fun m hlt => (hin m (by rw [hlen]; exact hlt) (halign.in_mram hm hlt)).trans (getD_take hlt), fun m hm => hout m (by rw [hlen]; exact hm),
    (congrArg Ind.wq (hmine.trans (hind r.num))).trans hwq, fun n hn => (indMod_others w r _ n hn).trans ((hind n).trans (hother n hn)), hmwr.regs rfl⟩

end

/-- A stream that goes on, with room for a word. -/
theorem Ind_fetching {x : Ind} (hlive : x.live = true) (hroom : x.pf.length < 16) (hleft : x.left ≠ some 0) : ¬ Ind_still x := by
  rintro (h | h | h)
  · rw [hlive] at h; cases h
  · omega
  · exact hleft h

/-! ### The outcomes of the commands -/

section
variable {s : State} {r : Req}

/-- What a command that fails shows. -/
theorem IndFailed.shows {t : State} {i : Instr} {cause : Nat} (h : IndFailed s t r cause) (hi : exec i s = .next t) :
    ∃ t, exec i s = .next t ∧ (t.ind r.num).err = true ∧ (t.ind r.num).cause = cause ∧ t.bit Reg.INT_STAT_HI 14 = true ∧
      (∀ q, q ≠ r.num → t.ind q = s.ind q) ∧ t.mram = s.mram ∧ OnlyRegs s t [Reg.INT_STAT_HI] :=
  ⟨t, hi, h.err, h.cause_eq, h.raised, h.mine, h.mram, h.only⟩

theorem ind_indAnswer (f : Ind → Ind) (w : Word) : ((s.indMod r f).answer r w).ind r.num = f (s.ind r.num) := ind_indMod s r f

theorem indAnswer_others (f : Ind → Ind) (w : Word) (q : Nat) (hq : q ≠ r.num) : ((s.indMod r f).answer r w).ind q = s.ind q :=
  indMod_others s r f q hq

/-- A change of the interface with an answer. -/
theorem eq_rsp_inds (f : Ind → Ind) (w : Word) :
    (s.indMod r f).answer r w = { s with rsp := ((s.indMod r f).answer r w).rsp, inds := ((s.indMod r f).answer r w).inds } :=
  (((Agree.refl 144 s).then (State.setInd_ag s _ _) rfl).then (State.answer_ag _ r w) rfl).eq_rsp_inds

section
variable {ok : Bool} (hlive : (s.ind r.num).live = true) (hroom : (s.ind r.num).pf.length < 16) (hleft : (s.ind r.num).left ≠ some 0)
include hlive hroom hleft

theorem exec_prefetch_refused {c : Nat} (hc : s.indCause (s.ind r.num).base (s.ind r.num).next (Ind_width (s.ind r.num)) = some c) :
    exec (.indPrefetchDone r ok) s = .next (s.prefetchFailed r c) := by
  have hone := prefetchOne_refused (Ind_fetching hlive hroom hleft) ok hc
  exact congrArg Host.Outcome.next ((prefetchDone_ended s r ok ((congrArg (fun t => (State.ind t r.num).live) hone).trans
    (prefetchFailed_shows s r c).2.2)).trans hone)

variable (hc : s.indCause (s.ind r.num).base (s.ind r.num).next (Ind_width (s.ind r.num)) = none) (hm : (s.ind r.num).next < 0x4000000)
include hc hm

theorem exec_prefetch_error : exec (.indPrefetchDone r false) s = .next (s.prefetchFailed r 6) := by
  have hone := prefetchOne_error (Ind_fetching hlive hroom hleft) hc hm
  exact congrArg Host.Outcome.next ((prefetchDone_ended s r false ((congrArg (fun t => (State.ind t r.num).live) hone).trans
    (prefetchFailed_shows s r 6).2.2)).trans hone)

/-- What a stream reads beyond its first word is added behind it. -/
theorem prefetch_reads : ((s.prefetchDone r true).ind r.num).pf.take ((s.ind r.num).pf.length + 1) =
      (s.ind r.num).pf ++ [w32 (leWord (s.mbs (Ind_width (s.ind r.num)) (s.ind r.num).next)).toNat] ∧
    (∀ q, q ≠ r.num → (s.prefetchDone r true).ind q = s.ind q) ∧ (s.prefetchDone r true).mram = s.mram ∧
    OnlyRegs s (s.prefetchDone r true) [Reg.INT_STAT_HI] := by
  obtain ⟨hpf, hword⟩ := prefetched_shows s r
  have hmore := prefetchDone_streams s r true
  rw [prefetchOne_word (Ind_fetching hlive hroom hleft) hc hm] at hmore
  obtain ⟨ws, hws⟩ := hmore.pf
  have hall := hword.trans hmore
  refine ⟨?_, hall.mine, hall.mram, hall.only⟩
  rw [hws, hpf]
  exact List.take_left' (by rw [List.length_append]; rfl)

end

section
variable {q : QWord} {qs : List QWord} (hwq : (s.ind r.num).wq = q :: qs)
include hwq

theorem exec_queued_refused {ok : Bool} {c : Nat} (hc : s.indCause q.base q.addr q.width = some c) :
    exec (.indQueuedWriteDone r ok) s = .next (((s.queueTail r qs).indFail r c).indDrained r) :=
  congrArg Host.Outcome.next ((queuedDone_first s r ok hwq).trans
    (congrArg (State.indDrained · r) (queuedRun_refused (s.queueTail r qs) r ok ((indCause_queueTail s r qs _ _ _).trans hc))))

theorem exec_queued_error (hc : s.indCause q.base q.addr q.width = none) (hm : q.addr < 0x4000000) :
    exec (.indQueuedWriteDone r false) s = .next (((s.queueTail r qs).indFail r 6).indDrained r) :=
  congrArg Host.Outcome.next ((queuedDone_first s r false hwq).trans
    (congrArg (State.indDrained · r) (queuedRun_error (s.queueTail r qs) r ((indCause_queueTail s r qs _ _ _).trans hc) hm)))

end

end

/-- Settles O57: each command's outcomes one by one; what a stream reads beyond its first word is an induction over the block. -/
theorem indirectInterface : Obligations.IndirectInterface := by
  unfold Obligations.IndirectInterface
  intro s r be v ok
  extract_lets x step Mine Fails
  refine ⟨fun hs h0 => ⟨⟨_, (exec_indAddrWrite s r v hs).trans (congrArg _ (indAddrWrite_empty s r v h0)), congrArg Ind.addr (ind_indMod s r _),
        congrArg Ind.base (ind_indMod s r _), congrArg Ind.pf (ind_indMod s r _), congrArg Ind.next (ind_indMod s r _),
        congrArg Ind.live (ind_indMod s r _), indMod_others s r _, indMod_frame s r _⟩,
      ⟨_, (exec_indCtrlWrite s r v hs).trans (congrArg _ (indCtrlWrite_empty s r v h0)), congrArg Ind.ctrl (ind_indMod s r _),
        congrArg Ind.pf (ind_indMod s r _), (congrArg Ind.live (ind_indMod s r _)).trans (wr_setCtrl _ v), indMod_others s r _, indMod_frame s r _⟩⟩,
    fun hs h0 => ⟨⟨_, (exec_indAddrWrite s r v hs).trans (congrArg _ (indAddrWrite_behind s r v h0)), ind_indMod s r _, indMod_others s r _,
        indMod_frame s r _⟩,
      ⟨_, (exec_indCtrlWrite s r v hs).trans (congrArg _ (indCtrlWrite_behind s r v h0)), ind_indMod s r _, indMod_others s r _, indMod_frame s r _⟩⟩,
    fun hs hwr => ⟨((indFail_failed s r 5).answer 0).shows ((exec_indDataRead s r hs).trans (congrArg _ (indDataRead_failed s r hwr))),
      _, (exec_indDataRead s r hs).trans (congrArg _ (indDataRead_failed s r hwr)), (State.answered_answer _ _ _ _).trans (if_pos rfl)⟩,
    fun hs hrd => ⟨fun w ws hpf => ⟨_, (exec_indDataRead s r hs).trans (congrArg _ (indDataRead_word s r hrd hpf)),
        (State.answered_answer _ _ _ _).trans (if_pos rfl), congrArg Ind.pf (ind_indAnswer _ _), congrArg Ind.addr (ind_indAnswer _ _),
        indAnswer_others _ _, eq_rsp_inds _ w⟩,
      fun hpf => ⟨_, (exec_indDataRead s r hs).trans (congrArg _ (indDataRead_empty s r hrd hpf)),
        (State.answered_answer _ _ _ _).trans (if_pos rfl), congrArg Ind.underrun (ind_indAnswer _ _), (congrArg Ind.addr (ind_indAnswer _ _) :),
        indAnswer_others _ _, eq_rsp_inds _ _⟩⟩,
    fun hs hbe => ⟨_, exec_indDataWrite_partial s r be v hs hbe, hbiErr_shows s r _ _⟩,
    fun hs hrd => (indFail_failed s r 5).shows ((exec_indDataWrite s r v hs).trans (congrArg _ (indDataWrite_reading s r v hrd))),
    fun hs hwr hfull => (indFail_failed s r 7).shows ((exec_indDataWrite s r v hs).trans (congrArg _ (indDataWrite_full s r v hwr hfull))),
    fun hs hwr hroom => ⟨_, (exec_indDataWrite s r v hs).trans (congrArg _ (indDataWrite_queues s r v hwr hroom)), fun hheld => ?_,
      fun hheld => (ind_indMod s r _).trans (if_neg (mt List.isEmpty_iff.1 hheld)), indMod_others s r _, indMod_frame s r _⟩,
    fun h => congrArg Host.Outcome.next (prefetchDone_still s r ok h),
    fun hlive hroom hleft => ⟨fun c hc => ⟨(prefetchFailed_shows s r c).1.shows (exec_prefetch_refused hlive hroom hleft hc),
        _, exec_prefetch_refused hlive hroom hleft hc, (prefetchFailed_shows s r c).2⟩,
      fun hc hm => ⟨(prefetchFailed_shows s r 6).1.shows (exec_prefetch_error hlive hroom hleft hc hm), _, rfl, prefetch_reads hlive hroom hleft hc hm⟩⟩,
    fun h => congrArg Host.Outcome.next (queuedDone_empty s r ok h),
    fun q qs hwq hheld => ⟨fun c hc => ⟨(queuedFailed_shows s r qs c hheld).1.shows (exec_queued_refused hwq hc),
        _, exec_queued_refused hwq hc, (queuedFailed_shows s r qs c hheld).2⟩,
      fun hc hm => ⟨(queuedFailed_shows s r qs 6 hheld).1.shows (exec_queued_error hwq hc hm),
        fun hmay hw => ⟨_, congrArg Host.Outcome.next (queuedDone_first s r true hwq), queuedWritten_shows s r hheld hc hm hmay hw⟩⟩⟩⟩
  have hq := (ind_indMod s r fun x => if x.held.isEmpty then Ind_queue x v else { x with held := x.held ++ [.data v] }).trans
    (if_pos (List.isEmpty_iff.2 hheld))
  exact ⟨congrArg Ind.wq hq, congrArg Ind.addr hq⟩

end Sys2Proof.Machine
end

section
/-!
Pair links and heartbeats (chapter 16): what each operation leaves of PAIR_STAT and of the pair unit.
-/
namespace Sys2Proof.Machine
open Sys2Proof

/-! ### What an operation of the pair changes -/

/-- A field of words with the same bits there. -/
theorem field_congr {x y : Word} {hi lo : Nat} (h : ∀ i, lo ≤ i → i ≤ hi → bitAt x i = bitAt y i) (hl : lo ≤ hi) : field x hi lo = field y hi lo := by
  refine Nat.eq_of_testBit_eq fun i => ?_
  rw [testBit_field, testBit_field]
  by_cases hi' : i < hi - lo + 1
  · exact congrArg _ (h (lo + i) (Nat.le_add_right lo i) ((Nat.le_sub_iff_add_le' hl).1 (Nat.le_of_lt_succ hi')))
  · rw [decide_eq_false hi', Bool.false_and, Bool.false_and]

theorem Writes.pairLog {P : Nat → Prop} {s t : State} (h : Writes P s t) (code sp p0 p1 : Nat) : Writes P s (t.pairLog code sp p0 p1) :=
  (h.irq _).log _ _ _ _

/-- Of PAIR_STAT only the bits of L may change, of the other registers PAIR_FLAG, those of P and those an interrupt or a record changes. -/
structure StatMoves (P : Nat → Prop) (L : List Nat) (s t : State) : Prop where
  writes : Writes (fun a => a = Reg.PAIR_STAT ∨ a = Reg.PAIR_FLAG ∨ P a) s t
  bits : ∀ i, i ∉ L → t.bit Reg.PAIR_STAT i = s.bit Reg.PAIR_STAT i

section
variable {P : Nat → Prop} {L : List Nat} {s t u : State}

theorem StatMoves.refl (P : Nat → Prop) (L : List Nat) (s : State) : StatMoves P L s s := ⟨.refl _ s, fun _ _ => rfl⟩

theorem StatMoves.trans (h : StatMoves P L s t) (k : StatMoves P L t u) : StatMoves P L s u :=
  ⟨h.writes.trans k.writes, fun i hi => (k.bits i hi).trans (h.bits i hi)⟩

theorem StatMoves.mono {Q : Nat → Prop} {M : List Nat} (h : StatMoves Q M s t) (hq : ∀ a, Q a → P a) (hm : ∀ i ∈ M, i ∈ L) : StatMoves P L s t :=
  ⟨h.writes.mono fun a ha => ha.imp_right fun h => h.imp_right (hq a), fun i hi => h.bits i fun e => hi (hm i e)⟩

theorem StatMoves.of_agree (h : StatMoves P L s t) {m : Nat} (k : Agree m t u) (hm : m.testBit 0 = false) : StatMoves P L s u :=
  ⟨h.writes.of_agree k hm, fun i hi => (k.bit _ hm i).trans (h.bits i hi)⟩

theorem StatMoves.putStat (h : StatMoves P L s t) (i : Nat) (b : Bool) (hi : i < 32) (hl : i ∈ L) : StatMoves P L s (t.putBit Reg.PAIR_STAT i b) :=
  ⟨h.writes.putBit _ _ (.inl rfl), fun j hj =>
    ((State.bit_putBit _ _ _ _ _ _ hi).trans (if_neg fun (e : _ ∧ i = j) => hj (e.2 ▸ hl))).trans (h.bits j hj)⟩

/-- A write of another register. -/
theorem StatMoves.of_writes (h : StatMoves P L s t) (k : Writes (fun a => a = Reg.PAIR_FLAG ∨ P a) t u) (hp : ¬ P Reg.PAIR_STAT) : StatMoves P L s u :=
  ⟨h.writes.trans (k.mono fun _ ha => .inr ha), fun i hi =>
    (k.bit i (by rintro (e | e); exacts [absurd e (by decide), hp e]) (not_signals (by decide))).trans (h.bits i hi)⟩

theorem StatMoves.fld (h : StatMoves P L s t) (hi lo : Nat) (hd : ∀ i ∈ L, i < lo ∨ hi < i) (hl : lo ≤ hi) :
    t.fld Reg.PAIR_STAT hi lo = s.fld Reg.PAIR_STAT hi lo :=
  field_congr (fun i h0 h1 => h.bits i fun e => (hd i e).elim (Nat.not_lt.2 h0) (Nat.not_lt.2 h1)) hl

theorem StatMoves.ite {c : Prop} [Decidable c] (ht : c → StatMoves P L s t) (hu : ¬ c → StatMoves P L s u) :
    StatMoves P L s (if c then t else u) := by
  split
  · exact ht ‹_›
  · exact hu ‹_›

end

/-- The parts of the pair unit that tell which frames have come. -/
structure PairKept (s t : State) : Prop where
  hb : t.pair.hb = s.pair.hb
  hbTicks : t.pair.hbTicks = s.pair.hbTicks
  missed : t.pair.missed = s.pair.missed
  seqRx : t.pair.seqRx = s.pair.seqRx
  rx : t.pair.rx = s.pair.rx

section
variable {s t u : State}

theorem PairKept.refl (s : State) : PairKept s s := ⟨rfl, rfl, rfl, rfl, rfl⟩

theorem PairKept.of_eq (h : t.pair = s.pair) : PairKept s t := by constructor <;> rw [h]

theorem PairKept.trans (h : PairKept s t) (k : PairKept t u) : PairKept s u :=
  ⟨k.hb.trans h.hb, k.hbTicks.trans h.hbTicks, k.missed.trans h.missed, k.seqRx.trans h.seqRx, k.rx.trans h.rx⟩

theorem PairKept.of_agree {m : Nat} (h : PairKept s t) (k : Agree m t u) (hm : m.testBit 46 = false) : PairKept s u :=
  h.trans (.of_eq (k.pair hm))

end

/-! ### Links -/

section
variable (s : State)

theorem pairLost_moves {P : Nat → Prop} {L : List Nat} (h : 22 ∈ L) : StatMoves P L s s.pairLost :=
  (StatMoves.refl P L s).putStat 22 _ (by decide) h

theorem pairBeat_moves {P : Nat → Prop} {L : List Nat} (h : 22 ∈ L) (h' : 27 ∈ L) : StatMoves P L s s.pairBeat :=
  ((StatMoves.refl P L s).putStat 27 _ (by decide) h').trans (pairLost_moves _ h)

theorem partnerAlive_pairBeat : s.pairBeat.partnerAlive = true :=
  ((pairLost_moves (P := fun _ => False) (L := [22]) _ (by decide)).bits 27 (by decide)).trans
    ((State.bit_putBit _ _ _ _ _ _ (by decide)).trans (if_pos ⟨rfl, rfl⟩))

theorem copyQueued_kept (q n : Nat) (b : Bool) : PairKept s (s.pairMod (fun p => { p with txq := q, txFull := b, txTurn := n })) :=
  ⟨rfl, rfl, rfl, rfl, rfl⟩

theorem pairFullCopy_kept : PairKept s s.pairFullCopy := copyQueued_kept s _ _ _

variable (l : Fin 2)

/-- A link's register is none of PAIR_STAT and PAIR_FLAG. -/
theorem plinkReg_ne : Reg.PAIR_STAT ≠ State.plinkReg l.val ∧ Reg.PAIR_FLAG ≠ State.plinkReg l.val :=
  (by decide : ∀ l : Fin 2, Reg.PAIR_STAT ≠ State.plinkReg l.val ∧ Reg.PAIR_FLAG ≠ State.plinkReg l.val) l

theorem plinkReg_high : 0x10000 ≤ State.plinkReg l.val := Nat.le_add_right_of_le (by decide)

/-- A link whose state has changed, reported, before LINKS_LOST follows. -/
def State.plinkReported (s : State) (l : Nat) (up : Bool) (d : Nat) : State :=
  ((((s.putBit (State.plinkReg l) 31 up).putBit Reg.PAIR_FLAG l true).irq 42).log 0x201 l (b2n up) d).pairMod
    (fun p => { p with discs := SMap.set (fun _ => 0) p.discs l 0 })

theorem plinkChange_eq (l : Nat) (up : Bool) : ∃ d, ∃ full : Bool,
    s.plinkChange l up = (if full then (s.plinkReported l up d).pairFullCopy else s.plinkReported l up d).pairLost :=
  ⟨_, _, rfl⟩

theorem plinkReported_writes (up : Bool) (d : Nat) :
    Writes (fun a => a = Reg.PAIR_FLAG ∨ a = State.plinkReg l.val) s (s.plinkReported l.val up d) :=
  .of_agree ((((Writes.refl _ s).putBit 31 up (.inr rfl)).putBit l.val true (.inl rfl)).irq 42 |>.log _ _ _ _) (State.pairMod_ag _ _) (by decide)

theorem bit_plinkReported (up : Bool) (d k i : Nat) (hk : 0x10000 ≤ k) : (s.plinkReported l.val up d).bit k i =
    ((s.putBit (State.plinkReg l.val) 31 up).putBit Reg.PAIR_FLAG l.val true).bit k i :=
  congrArg (bitAt · i) (rd_signalled _ _ _ _ _ _ hk)

theorem linkIndex_lt : l.val < 32 := Nat.lt_trans l.isLt (by decide)

/-- The link shows then, and its flag and the interrupt. -/
theorem plinkUp_plinkReported (up : Bool) (d : Nat) : (s.plinkReported l.val up d).plinkUp l.val = up :=
  ((bit_plinkReported s l up d _ _ (plinkReg_high l)).trans
    (State.bit_put_apart _ _ _ _ _ _ _ (linkIndex_lt l) (Nat.le_refl _) (.inl (plinkReg_ne l).2))).trans
    ((State.bit_putBit _ _ _ _ _ _ (by decide)).trans (if_pos ⟨rfl, rfl⟩))

theorem flag_plinkReported (up : Bool) (d : Nat) : (s.plinkReported l.val up d).bit Reg.PAIR_FLAG l.val = true :=
  (bit_plinkReported s l up d _ _ (by decide)).trans ((State.bit_putBit _ _ _ _ _ _ (linkIndex_lt l)).trans (if_pos ⟨rfl, rfl⟩))

theorem int_plinkReported (up : Bool) (d : Nat) : (s.plinkReported l.val up d).bit Reg.INT_STAT_HI 10 = true :=
  (State.bit_log _ _ _ _ _ _ _ (by decide)).trans (State.bit_irq_hi _ _ _ (.inl (by decide)))

/-- The same, a full copy queued where both links were down. -/
theorem plinkChange_from (up : Bool) : ∃ d u, s.plinkChange l.val up = u.pairLost ∧ u.regs = (s.plinkReported l.val up d).regs ∧
    PairKept (s.plinkReported l.val up d) u := by
  obtain ⟨d, full, h⟩ := plinkChange_eq s l.val up
  cases full with
  | true => exact ⟨d, _, h, rfl, pairFullCopy_kept _⟩
  | false => exact ⟨d, _, h, rfl, .refl _⟩

theorem plinkChange_moves (up : Bool) : StatMoves (· = State.plinkReg l.val) [22] s (s.plinkChange l.val up) := by
  obtain ⟨d, u, h, hregs, -⟩ := plinkChange_from s l up
  have hu : Writes (fun a => a = Reg.PAIR_FLAG ∨ a = State.plinkReg l.val) s u := (plinkReported_writes s l up d).of_regs hregs
  rw [h]
  exact ((StatMoves.refl _ _ s).of_writes hu (plinkReg_ne l).1).trans (pairLost_moves u (by decide))

theorem plinkChange_kept (up : Bool) : PairKept s (s.plinkChange l.val up) := by
  obtain ⟨d, u, h, -, hkept⟩ := plinkChange_from s l up
  have hreported : PairKept s (s.plinkReported l.val up d) := by
    have hag : Agree 25089 s ((((s.putBit (State.plinkReg l.val) 31 up).putBit Reg.PAIR_FLAG l.val true).irq 42).log 0x201 l.val (b2n up) d) :=
      (((Agree.refl 25089 s).then (State.putBit_ag s _ _ _) rfl).then (State.putBit_ag _ _ _ _) rfl).then (State.irq_ag _ _) rfl
        |>.then (State.log_ag _ _ _ _ _) rfl
    exact (PairKept.of_eq (hag.pair rfl)).trans ⟨rfl, rfl, rfl, rfl, rfl⟩
  rw [h]
  exact (hreported.trans hkept).trans (.of_eq rfl)

/-- LINKS_LOST follows and leaves the rest. -/
theorem bit_pairLost (u : State) (k i : Nat) (hk : Reg.PAIR_STAT ≠ k ∨ 22 ≠ i) : u.pairLost.bit k i = u.bit k i :=
  State.bit_put_apart _ _ _ _ _ _ _ (by decide) (by decide) (hk.imp_right fun h => Nat.lt_or_gt_of_ne h.symm)

theorem linksLost_pairLost (u : State) : u.pairLost.linksLost = (u.pairLost.partnerAlive && !u.pairLost.anyPlink) :=
  ((State.bit_putBit _ _ _ _ _ _ (by decide)).trans (if_pos ⟨rfl, rfl⟩)).trans (congrArg₂ (fun a b => a && !b)
    (bit_pairLost u _ _ (.inr (by decide))) (congrArg₂ (· || ·) (bit_pairLost u _ _ (.inl (plinkReg_ne 0).1)) (bit_pairLost u _ _ (.inl (plinkReg_ne 1).1)))).symm

theorem bit_plinkChange (up : Bool) (k i : Nat) (hk : Reg.PAIR_STAT ≠ k ∨ 22 ≠ i) :
    ∃ d, (s.plinkChange l.val up).bit k i = (s.plinkReported l.val up d).bit k i := by
  obtain ⟨d, u, h, hregs, -⟩ := plinkChange_from s l up
  exact ⟨d, h ▸ (bit_pairLost u k i hk).trans (congrArg (fun r => bitAt (SMap.get regReset r k) i) hregs)⟩

/-! A link comes up or goes down (R522). -/

theorem plinkUp_plinkChange (up : Bool) : (s.plinkChange l.val up).plinkUp l.val = up := by
  obtain ⟨d, h⟩ := bit_plinkChange s l up (State.plinkReg l.val) 31 (.inl (plinkReg_ne l).1)
  exact h.trans (plinkUp_plinkReported s l up d)

theorem flag_plinkChange (up : Bool) : (s.plinkChange l.val up).bit Reg.PAIR_FLAG l.val = true := by
  obtain ⟨d, h⟩ := bit_plinkChange s l up Reg.PAIR_FLAG l.val (.inl (by decide))
  exact h.trans (flag_plinkReported s l up d)

theorem int_plinkChange (up : Bool) : (s.plinkChange l.val up).bit Reg.INT_STAT_HI 10 = true := by
  obtain ⟨d, h⟩ := bit_plinkChange s l up Reg.INT_STAT_HI 10 (.inl (by decide))
  exact h.trans (int_plinkReported s l up d)

theorem linksLost_plinkChange (up : Bool) :
    (s.plinkChange l.val up).linksLost = ((s.plinkChange l.val up).partnerAlive && !(s.plinkChange l.val up).anyPlink) := by
  obtain ⟨d, u, h, -⟩ := plinkChange_from s l up
  rw [h]
  exact linksLost_pairLost u

end

end Sys2Proof.Machine
end

section
/-!
Frames of the pair links (chapter 16): a frame on a link and a heartbeat.
-/
namespace Sys2Proof.Machine
open Sys2Proof

theorem Agree.eq_regs_pair {s t : State} (h : Agree 70368744177665 s t) : t = { s with regs := t.regs, pair := t.pair } := h.eq_overlay

/-! ### A frame on a link -/

/-- Whether a frame with its CRC check and its sequence number is valid on a link (R521). -/
def State.plinkGood (s : State) (l : Nat) (ok : Bool) (seq : Nat) : Bool :=
  ok && (SMap.get (fun _ => none) s.pair.seqRx l).all (fun e => decide (e = seq))

/-- The sequence number a link expects behind a frame. -/
def State.plinkSeen (s : State) (l : Nat) (ok : Bool) (seq : Nat) : State :=
  let exp := SMap.get (fun _ => none) s.pair.seqRx l
  s.pairMod (fun p => { p with
    seqRx := SMap.set (fun _ => none) p.seqRx l (if ok then some ((seq + 1) % 65536) else exp.map (fun e => (e + 1) % 65536)) })

/-- A valid frame brings its link up. -/
def State.plinkRaised (s : State) (l : Nat) : State := if s.plinkUp l then s else s.plinkChange l true

/-- The counter of what failed. -/
def State.plinkCount (s : State) (l : Nat) (ok : Bool) : State :=
  if ok then s.count (State.plinkReg l) 15 8 1 else s.count (State.plinkReg l) 7 0 1

/-- Another frame is counted by what failed. -/
def State.plinkCounted (s : State) (l : Nat) (ok : Bool) : State :=
  (s.plinkCount l ok).pairMod (fun p => { p with discs := SMap.set (fun _ => 0) p.discs l (SMap.get (fun _ => 0) p.discs l + 1) })

/-- The state in which a valid frame has been taken on its link. -/
def State.plinkHeard (s : State) (l : Nat) (ok : Bool) (seq : Nat) : State := (s.plinkSeen l ok seq).plinkRaised l

/-- The state in which another one has been counted. -/
def State.plinkMissed (s : State) (l : Nat) (ok : Bool) (seq : Nat) : State := (s.plinkSeen l ok seq).plinkCounted l ok

section
variable (s : State) (l : Fin 2) (ok : Bool) (seq : Nat)

theorem plinkTake_eq : s.plinkTake l.val ok seq =
    if s.plinkGood l.val ok seq then (s.plinkHeard l.val ok seq, true) else (s.plinkMissed l.val ok seq, false) := rfl

theorem plinkTake_good (h : s.plinkGood l.val ok seq = true) : s.plinkTake l.val ok seq = (s.plinkHeard l.val ok seq, true) :=
  (plinkTake_eq s l ok seq).trans (if_pos h)

theorem plinkTake_bad (h : s.plinkGood l.val ok seq = false) : s.plinkTake l.val ok seq = (s.plinkMissed l.val ok seq, false) :=
  (plinkTake_eq s l ok seq).trans (if_neg (by rw [h]; decide))

theorem plinkSeen_ag : Agree 70368744177664 s (s.plinkSeen l.val ok seq) := by
  unfold State.plinkSeen
  exact State.pairMod_ag _ _

/-! ### A valid frame -/

theorem plinkUp_plinkHeard : (s.plinkHeard l.val ok seq).plinkUp l.val = true := by
  unfold State.plinkHeard State.plinkRaised
  split
  · next h => exact h
  · exact plinkUp_plinkChange _ l true

theorem plinkHeard_moves : StatMoves (· = State.plinkReg l.val) [22] s (s.plinkHeard l.val ok seq) :=
  ((StatMoves.refl _ _ s).of_agree (plinkSeen_ag s l ok seq) (by decide)).trans (.ite (fun _ => .refl _ _ _) fun _ => plinkChange_moves _ l true)

theorem plinkHeard_kept : PairKept (s.plinkSeen l.val ok seq) (s.plinkHeard l.val ok seq) := by
  unfold State.plinkHeard State.plinkRaised
  split
  · exact .refl _
  · exact plinkChange_kept _ l true

theorem plinkHeard_ag : Agree 70368744202753 s (s.plinkHeard l.val ok seq) :=
  Agree.then (a := 70368744202753) ((plinkSeen_ag s l ok seq).mono rfl) (.ite (fun _ => .refl _ _) fun _ => State.plinkChange_ag _ _ _) rfl

theorem seqRx_plinkHeard (h : ok = true) : SMap.get (fun _ => none) (s.plinkHeard l.val ok seq).pair.seqRx l.val = some ((seq + 1) % 65536) := by
  refine (congrArg (SMap.get (fun _ => none) · l.val) (plinkHeard_kept s l ok seq).seqRx).trans ?_
  refine (SMap.get_set (fun _ => none) s.pair.seqRx _ _ _).trans ((if_pos rfl).trans ?_)
  rw [h]
  rfl

/-! ### A frame that is counted -/

/-- What the statement says of a frame that is not valid (R521). -/
def CountedBy (s : State) (l : Fin 2) (ok : Bool) (t : State) : Prop :=
  t.pair.hb = s.pair.hb ∧ t.plinkUp l.val = s.plinkUp l.val ∧ t.lines = s.lines ∧
    (ok = false → t.fld (State.plinkReg l.val) 7 0 = min 255 (s.fld (State.plinkReg l.val) 7 0 + 1)) ∧
    (ok = true → t.fld (State.plinkReg l.val) 15 8 = min 255 (s.fld (State.plinkReg l.val) 15 8 + 1)) ∧
    OnlyRegs s t [State.plinkReg l.val] ∧ t = { s with regs := t.regs, pair := t.pair }

theorem plinkCount_ag : Agree 1 s (s.plinkCount l.val ok) := .ite (fun _ => State.count_ag s _ _ _ _) fun _ => State.count_ag s _ _ _ _

theorem plinkCounted_after : Agree 70368744177664 (s.plinkCount l.val ok) (s.plinkCounted l.val ok) := by
  unfold State.plinkCounted
  exact State.pairMod_ag _ _

theorem plinkUp_plinkCount : (s.plinkCount l.val ok).plinkUp l.val = s.plinkUp l.val := by
  cases ok with
  | true => exact State.bit_put_apart _ _ _ _ _ _ _ (by decide) (by decide) (.inr (.inr (by decide)))
  | false => exact State.bit_put_apart _ _ _ _ _ _ _ (by decide) (by decide) (.inr (.inr (by decide)))

theorem plinkCount_onlyRegs {t : State} (h : OnlyRegs s t [State.plinkReg l.val]) : OnlyRegs s (t.plinkCount l.val ok) [State.plinkReg l.val] := by
  cases ok with
  | true => exact h.wr _ (List.mem_singleton_self _)
  | false => exact h.wr _ (List.mem_singleton_self _)

theorem crc_plinkCount : (s.plinkCount l.val false).fld (State.plinkReg l.val) 7 0 = min 255 (s.fld (State.plinkReg l.val) 7 0 + 1) :=
  State.fld_count_same _ _ _ _ _ (by decide) (by decide)

theorem seq_plinkCount : (s.plinkCount l.val true).fld (State.plinkReg l.val) 15 8 = min 255 (s.fld (State.plinkReg l.val) 15 8 + 1) :=
  State.fld_count_same _ _ _ _ _ (by decide) (by decide)

theorem plinkMissed_kept : PairKept (s.plinkSeen l.val ok seq) (s.plinkMissed l.val ok seq) :=
  (PairKept.of_eq ((plinkCount_ag (s.plinkSeen l.val ok seq) l ok).pair rfl)).trans ⟨rfl, rfl, rfl, rfl, rfl⟩

theorem plinkMissed_ag : Agree 70368744177665 s (s.plinkMissed l.val ok seq) :=
  (((plinkSeen_ag s l ok seq).mono (m := 70368744177665) rfl).then (plinkCount_ag _ l ok) rfl).then
    (plinkCounted_after _ l ok) rfl

/-- A state that differs from the counted one in the pair unit alone, its heartbeat kept. -/
theorem countedBy_of_agree {t : State} (ht : Agree 70368744177664 (s.plinkMissed l.val ok seq) t) (hhb : t.pair.hb = s.pair.hb) : CountedBy s l ok t := by
  have hseen := plinkSeen_ag s l ok seq
  have hlast : Agree 70368744177664 ((s.plinkSeen l.val ok seq).plinkCount l.val ok) t := (plinkCounted_after _ l ok).then ht rfl
  have hag := (plinkMissed_ag s l ok seq).then ht rfl
  refine ⟨hhb, ((hlast.bit _ rfl _).trans (plinkUp_plinkCount _ l ok)).trans (hseen.bit _ rfl _), hag.lines rfl, fun e => ?_, fun e => ?_,
    (plinkCount_onlyRegs s l ok ((OnlyRegs.refl s _).of_agree hseen rfl)).of_agree hlast rfl, hag.eq_regs_pair⟩
  · subst e
    exact ((hlast.fld _ rfl _ _).trans (crc_plinkCount _ l)).trans (congrArg (fun x => min 255 (x + 1)) (hseen.fld _ rfl _ _))
  · subst e
    exact ((hlast.fld _ rfl _ _).trans (seq_plinkCount _ l)).trans (congrArg (fun x => min 255 (x + 1)) (hseen.fld _ rfl _ _))

end

theorem plinkMissed_counted (s : State) (l : Fin 2) (ok : Bool) (seq : Nat) : CountedBy s l ok (s.plinkMissed l.val ok seq) :=
  countedBy_of_agree s l ok seq (.refl _ _) (plinkMissed_kept s l ok seq).hb

theorem tickNo_plinkHeard (s : State) (l : Fin 2) (ok : Bool) (seq : Nat) : (s.plinkHeard l.val ok seq).tickNo = s.tickNo := by
  unfold State.tickNo
  rw [(plinkHeard_ag s l ok seq).tick rfl]

/-! ### What follows a heartbeat: a full copy, what it asks, and SYNC -/

/-- Of PAIR_STAT only HANDOVER and SYNC may change; the parts of the pair unit for frames and the time stay. -/
structure Answered (s t : State) : Prop where
  moves : StatMoves (fun _ => False) [17, 28] s t
  kept : PairKept s t
  tb : t.tb = s.tb

section
variable (s : State) (h : PairHb)

theorem Answered.refl : Answered s s := ⟨.refl _ _ s, .refl s, rfl⟩

theorem Answered.trans {s t u : State} (h : Answered s t) (k : Answered t u) : Answered s u :=
  ⟨h.moves.trans k.moves, h.kept.trans k.kept, k.tb.trans h.tb⟩

theorem pairFullCopy_answered : Answered s s.pairFullCopy :=
  ⟨(StatMoves.refl _ _ s).of_agree (State.pairFullCopy_ag s) (by decide), pairFullCopy_kept s, (State.pairFullCopy_ag s).tb rfl⟩

theorem prefCheck_moves : StatMoves (fun _ => False) [20] s (s.prefCheck h) := by
  unfold State.prefCheck
  refine .ite (fun _ => ?_) fun _ => (StatMoves.refl _ _ s).putStat 20 _ (by decide) (by decide)
  exact ((StatMoves.refl _ _ s).putStat 20 true (by decide) (by decide)).of_writes ((Writes.refl _ _).pairLog _ _ _ _) id

/-- HANDOVER shows what the pair unit then holds. -/
theorem handShow_answered (f : PairU → PairU) (hk : PairKept s (s.pairMod f)) : Answered s (s.pairMod f).handShow :=
  ⟨((StatMoves.refl _ _ s).of_agree (State.pairMod_ag s f) (by decide)).putStat 17 _ (by decide) (by decide), hk.trans (.of_eq rfl), rfl⟩

/-- What is asked or acknowledged shows in HANDOVER alone. -/
theorem pairAsk_answered : Answered s (s.pairAsk h) := by
  unfold State.pairAsk
  split
  · split
    · split
      · exact handShow_answered s _ ⟨rfl, rfl, rfl, rfl, rfl⟩
      · exact .refl s
    · exact .refl s
  · extract_lets grant
    split
    · exact handShow_answered s _ ⟨rfl, rfl, rfl, rfl, rfl⟩
    · exact .refl s

theorem syncShow_answered : Answered s s.syncShow := by
  unfold State.syncShow
  extract_lets now u v lag
  have hv : Answered s v := ⟨((StatMoves.refl _ _ s).putStat 28 _ (by decide) (by decide)).of_agree (State.pairMod_ag u _) (by decide),
    ⟨rfl, rfl, rfl, rfl, rfl⟩, rfl⟩
  clear_value v
  split
  · exact .refl s
  · split
    · exact hv.trans ⟨(StatMoves.refl _ _ v).of_writes ((Writes.refl _ v).log _ _ _ _) id, .of_eq ((State.log_ag v _ _ _ _).pair rfl),
        (State.log_ag v _ _ _ _).tb rfl⟩
    · have hag : Agree 25089 v ((v.putBit Reg.PAIR_FLAG 3 true).pairLog 0x204 0 (v.rd Reg.PAIR_NOSYNC).toNat lag) :=
        ((State.putBit_ag v _ _ _).mono rfl).then (State.pairLog_ag _ _ _ _ _) rfl
      exact hv.trans ⟨(StatMoves.refl _ _ v).of_writes (((Writes.refl _ v).putBit _ _ (.inl rfl)).pairLog _ _ _ _) id, .of_eq (hag.pair rfl), hag.tb rfl⟩

end

/-! ### The head of a heartbeat -/

/-- The frame is kept, and its tick noted for its decision point. -/
def State.hbNoted (s : State) (h : PairHb) : State := s.pairMod (fun p => { p with
  hb := some h, hbTicks := if tickAbs h.sec h.idx < s.tickNo then p.hbTicks else
    (tickAbs h.sec h.idx, h.role == 2) :: p.hbTicks.filter (fun x => x != (tickAbs h.sec h.idx, h.role == 2)) })

/-- The frame is kept, and the time and its sender's state are shown. -/
def State.hbShown (s : State) (h : PairHb) (tdly : Nat) : State :=
  ((((s.hbBeat h).hbTime h tdly).put Reg.PAIR_STAT 2 0 h.role).putBit Reg.PAIR_STAT 16 h.holdup).prefCheck h

section
variable (s : State) (h : PairHb) (tdly : Nat)

theorem hbBeat_eq : s.hbBeat h = if decide (tickAbs h.sec h.idx = s.tickNo) then (s.hbNoted h).pairBeat else s.hbNoted h := rfl

theorem hbBeat_pair : (s.hbBeat h).pair = (s.hbNoted h).pair := (apply_ite State.pair _ _ _).trans (ite_self _)

theorem hbBeat_tb : (s.hbBeat h).tb = s.tb := (apply_ite State.tb _ _ _).trans (ite_self _)

theorem hbBeat_moves : StatMoves (fun _ => False) [22, 27] s (s.hbBeat h) :=
  ((StatMoves.refl _ _ s).of_agree (State.pairMod_ag _ _) (by decide)).trans
    (.ite (fun _ => pairBeat_moves _ (by decide) (by decide)) fun _ => .refl _ _ _)

/-- A heartbeat of this tick shows the partner alive. -/
theorem partnerAlive_hbBeat (e : tickAbs h.sec h.idx = s.tickNo) : (s.hbBeat h).partnerAlive = true := by
  rw [hbBeat_eq, decide_eq_true e]
  exact partnerAlive_pairBeat _

theorem hbNoted_new (e : s.tickNo ≤ tickAbs h.sec h.idx) : (s.hbNoted h).pair.hbTicks.contains (tickAbs h.sec h.idx, h.role == 2) = true := by
  refine (congrArg (List.contains · (tickAbs h.sec h.idx, h.role == 2)) (if_neg (Nat.not_lt.2 e))).trans ?_
  rw [List.contains_cons, beq_self_eq_true, Bool.true_or]

theorem hbNoted_old (e : tickAbs h.sec h.idx < s.tickNo) : (s.hbNoted h).pair.hbTicks = s.pair.hbTicks := if_pos e

/-! PAIR_TOFFS, PAIR_TDLY and TIME_OK (R523). -/

theorem toffs_hbTime : (s.hbTime h tdly).rd Reg.PAIR_TOFFS = wInt (clampInt (-2147483648) 2147483647 ((tdly : Int) - s.hbAge h)) :=
  ((State.rd_putBit_ne _ _ _ _ _ (by decide)).trans ((State.rd_put _ _ _ _ _ _).trans (if_neg (by decide)))).trans
    ((State.rd_wr _ _ _ _).trans (if_pos rfl))

theorem tdly_hbTime (ht : tdly < 65536) : (s.hbTime h tdly).fld Reg.PAIR_TDLY 15 0 = tdly :=
  ((State.fld_put_ne _ _ _ _ _ _ _ _ (by decide)).trans (State.fld_put_same _ _ _ _ _ (by decide) (by decide))).trans (Nat.mod_eq_of_lt ht)

theorem timeOk_hbTime : (s.hbTime h tdly).timeOk = decide (((tdly : Int) - s.hbAge h).natAbs ≤ 1000) :=
  (State.bit_putBit _ _ _ _ _ _ (by decide)).trans (if_pos ⟨rfl, rfl⟩)

/-- The registers that show a heartbeat's time. -/
def TimeKeys (a : Nat) : Prop := a = Reg.PAIR_TOFFS ∨ a = Reg.PAIR_TDLY

theorem hbTime_moves : StatMoves TimeKeys [23] s (s.hbTime h tdly) :=
  ((StatMoves.refl _ _ s).of_writes (((Writes.refl _ s).wr _ (.inr (.inl rfl))).put _ _ _ (.inr (.inr rfl)))
    (by unfold TimeKeys; decide)).putStat 23 _ (by decide) (by decide)

theorem put_moves (r : Nat) : StatMoves (fun _ => False) [0, 1, 2, 16, 20] s (s.put Reg.PAIR_STAT 2 0 r) :=
  ⟨(Writes.refl _ s).put _ _ _ (.inl rfl), fun _ hi => State.bit_put_apart _ _ _ _ _ _ _ (by decide) (by decide)
    (.inr (.inr (Nat.lt_of_not_le fun h => hi ((by decide : ∀ i, i < 3 → i ∈ [0, 1, 2, 16, 20]) _ (Nat.lt_succ_of_le h)))))⟩

theorem hbShown_moves : StatMoves (fun _ => False) [0, 1, 2, 16, 20] ((s.hbBeat h).hbTime h tdly) (s.hbShown h tdly) :=
  ((put_moves _ h.role).putStat 16 _ (by decide) (by decide)).trans ((prefCheck_moves _ h).mono (fun _ h => h) (by decide))

theorem hbShown_ag : Agree 25089 (s.hbBeat h) (s.hbShown h tdly) :=
  ((((State.hbTime_ag _ h tdly).mono rfl).then (State.put_ag _ _ _ _ _) rfl).then (State.putBit_ag _ _ _ _) rfl).then (State.prefCheck_ag _ h) rfl

theorem hbShown_pair : (s.hbShown h tdly).pair = (s.hbNoted h).pair := ((hbShown_ag s h tdly).pair rfl).trans (hbBeat_pair s h)

theorem hbShown_tb : (s.hbShown h tdly).tb = s.tb := ((hbShown_ag s h tdly).tb rfl).trans (hbBeat_tb s h)

theorem role_hbShown (hrole : h.role < 8) : (s.hbShown h tdly).fld Reg.PAIR_STAT 2 0 = h.role :=
  ((prefCheck_moves _ h).fld 2 0 (by decide) (by decide)).trans
    (((State.fld_putBit_apart _ _ _ _ _ _ _ (by decide) (by decide) (by decide)).trans
      (State.fld_put_same _ _ _ _ _ (by decide) (by decide))).trans (Nat.mod_eq_of_lt hrole))

end

/-! ### Heartbeats -/

/-- A state in which a heartbeat has been shown, at the time it tells. -/
def State.hbHead (s : State) (h : PairHb) (toffs : Int) (tdly : Nat) : State :=
  (s.reachTime (inNs (s.tb.sec, s.tb.ns) + ((tdly : Int) - toffs - s.hbAge h).toNat)).hbShown h tdly

/-- The registers a heartbeat changes beside PAIR_STAT and PAIR_FLAG. -/
def HbKeys (a : Nat) : Prop := TimeKeys a ∨ ClockKeys a

section
variable (s : State) (h : PairHb) (toffs : Int) (tdly : Nat)

theorem hbTake_answered : Answered (s.hbHead h toffs tdly) (s.hbTake h toffs tdly) := by
  obtain ⟨u, hu, htake⟩ : ∃ u, (u = (s.hbHead h toffs tdly).pairFullCopy ∨ u = s.hbHead h toffs tdly) ∧
      s.hbTake h toffs tdly = (u.pairAsk h).syncShow := ⟨_, ite_eq_or_eq _ _ _, rfl⟩
  have hcopy : Answered (s.hbHead h toffs tdly) u := hu.elim (fun e => e ▸ pairFullCopy_answered _) fun e => e ▸ .refl _
  exact htake ▸ (hcopy.trans (pairAsk_answered u h)).trans (syncShow_answered _)

theorem hbAge_hbTake : (s.hbTake h toffs tdly).hbAge h =
    (s.reachTime (inNs (s.tb.sec, s.tb.ns) + ((tdly : Int) - toffs - s.hbAge h).toNat)).hbAge h :=
  congrArg (fun b : TimeBase => sext 32 ((b.sec + (4294967296 - h.sentSec % 4294967296)) % 4294967296) * 1000000000 + ((b.ns : Int) - h.sentNs))
    ((hbTake_answered s h toffs tdly).tb.trans (hbShown_tb _ h tdly))

theorem tickNo_reachTime (n : Nat) : (s.reachTime n).tickNo = s.tickNo := by
  unfold State.tickNo
  rw [(State.reachTime_ag s n).tick rfl]

theorem hbTake_moves : StatMoves HbKeys [0, 1, 2, 16, 17, 20, 22, 23, 27, 28] s (s.hbTake h toffs tdly) :=
  ((((StatMoves.refl _ _ s).of_writes ((reachTime_writes s _).mono fun _ e => .inr (.inr e)) (by unfold HbKeys TimeKeys ClockKeys; decide)).trans
    ((hbBeat_moves _ h).mono (fun _ e => e.elim) (by decide))).trans ((hbTime_moves _ h tdly).mono (fun _ e => .inl e) (by decide))).trans
      (((hbShown_moves _ h tdly).mono (fun _ e => e.elim) (by decide)).trans ((hbTake_answered s h toffs tdly).moves.mono (fun _ e => e.elim) (by decide)))

/-- From the head's time on the registers of the time stay. -/
theorem rd_hbTake (k : Nat) (hk : ¬ (k = Reg.PAIR_STAT ∨ k = Reg.PAIR_FLAG ∨ False)) (hs : 0x10000 ≤ k) :
    (s.hbTake h toffs tdly).rd k =
      (((s.reachTime (inNs (s.tb.sec, s.tb.ns) + ((tdly : Int) - toffs - s.hbAge h).toNat)).hbBeat h).hbTime h tdly).rd k :=
  ((hbTake_answered s h toffs tdly).moves.writes.rd k hk (not_signals hs)).trans ((hbShown_moves _ h tdly).writes.rd k hk (not_signals hs))

theorem bit_hbTake (i : Nat) (hi : i ∉ [17, 28]) (hj : i ∉ [0, 1, 2, 16, 20]) :
    (s.hbTake h toffs tdly).bit Reg.PAIR_STAT i =
      (((s.reachTime (inNs (s.tb.sec, s.tb.ns) + ((tdly : Int) - toffs - s.hbAge h).toNat)).hbBeat h).hbTime h tdly).bit Reg.PAIR_STAT i :=
  ((hbTake_answered s h toffs tdly).moves.bits i hi).trans ((hbShown_moves _ h tdly).bits i hj)

theorem hb_hbTake : (s.hbTake h toffs tdly).pair.hb = some h :=
  (hbTake_answered s h toffs tdly).kept.hb.trans (congrArg PairU.hb (hbShown_pair _ h tdly))

theorem hbTake_pair : (s.hbHead h toffs tdly).pair =
    ((s.reachTime (inNs (s.tb.sec, s.tb.ns) + ((tdly : Int) - toffs - s.hbAge h).toNat)).hbNoted h).pair := hbShown_pair _ h tdly

theorem missed_hbTake : (s.hbTake h toffs tdly).pair.missed = s.pair.missed :=
  ((hbTake_answered s h toffs tdly).kept.missed.trans (congrArg PairU.missed (hbTake_pair s h toffs tdly))).trans
    (congrArg PairU.missed ((State.reachTime_ag s _).pair rfl) :)

theorem seqRx_hbTake : (s.hbTake h toffs tdly).pair.seqRx = s.pair.seqRx :=
  ((hbTake_answered s h toffs tdly).kept.seqRx.trans (congrArg PairU.seqRx (hbTake_pair s h toffs tdly))).trans
    (congrArg PairU.seqRx ((State.reachTime_ag s _).pair rfl) :)

theorem alive_hbTake (e : tickAbs h.sec h.idx = s.tickNo) : (s.hbTake h toffs tdly).partnerAlive = true :=
  ((bit_hbTake s h toffs tdly 27 (by decide) (by decide)).trans ((hbTime_moves _ h tdly).bits 27 (by decide))).trans
    (partnerAlive_hbBeat _ h (e.trans (tickNo_reachTime s _).symm))

theorem hbTicks_hbTake_new (e : s.tickNo ≤ tickAbs h.sec h.idx) :
    (s.hbTake h toffs tdly).pair.hbTicks.contains (tickAbs h.sec h.idx, h.role == 2) = true :=
  (congrArg (List.contains · (tickAbs h.sec h.idx, h.role == 2)) ((hbTake_answered s h toffs tdly).kept.hbTicks.trans
    (congrArg PairU.hbTicks (hbTake_pair s h toffs tdly)))).trans (hbNoted_new _ h ((tickNo_reachTime s _).le.trans e))

theorem hbTicks_hbTake_old (e : tickAbs h.sec h.idx < s.tickNo) : (s.hbTake h toffs tdly).pair.hbTicks = s.pair.hbTicks :=
  ((hbTake_answered s h toffs tdly).kept.hbTicks.trans (congrArg PairU.hbTicks (hbTake_pair s h toffs tdly))).trans
    ((hbNoted_old _ h (lt_of_lt_of_eq e (tickNo_reachTime s _).symm)).trans (congrArg PairU.hbTicks ((State.reachTime_ag s _).pair rfl) :))

theorem toffs_hbTake : (s.hbTake h toffs tdly).rd Reg.PAIR_TOFFS =
    wInt (clampInt (-2147483648) 2147483647 ((tdly : Int) - (s.hbTake h toffs tdly).hbAge h)) := by
  rw [hbAge_hbTake, rd_hbTake s h toffs tdly _ (by decide) (by decide), toffs_hbTime]
  unfold State.hbAge
  rw [hbBeat_tb]

theorem tdly_hbTake (ht : tdly < 65536) : (s.hbTake h toffs tdly).fld Reg.PAIR_TDLY 15 0 = tdly :=
  (congrArg (field · 15 0) (rd_hbTake s h toffs tdly _ (by decide) (by decide))).trans (tdly_hbTime _ h tdly ht)

theorem timeOk_hbTake : (s.hbTake h toffs tdly).timeOk = decide (((tdly : Int) - (s.hbTake h toffs tdly).hbAge h).natAbs ≤ 1000) := by
  refine (bit_hbTake s h toffs tdly 23 (by decide) (by decide)).trans ((timeOk_hbTime _ h tdly).trans ?_)
  rw [hbAge_hbTake]
  unfold State.hbAge
  rw [hbBeat_tb]

theorem role_hbTake (hrole : h.role < 8) : (s.hbTake h toffs tdly).fld Reg.PAIR_STAT 2 0 = h.role :=
  ((hbTake_answered s h toffs tdly).moves.fld 2 0 (by decide) (by decide)).trans (role_hbShown _ h tdly hrole)

/-- A heartbeat leaves the links. -/
theorem plinkUp_hbTake (l : Fin 2) : (s.hbTake h toffs tdly).plinkUp l.val = s.plinkUp l.val :=
  (hbTake_moves s h toffs tdly).writes.bit 31 (by
    unfold HbKeys TimeKeys ClockKeys
    exact (by decide : ∀ l : Fin 2, ¬ (State.plinkReg l.val = Reg.PAIR_STAT ∨ State.plinkReg l.val = Reg.PAIR_FLAG ∨
      (State.plinkReg l.val = Reg.PAIR_TOFFS ∨ State.plinkReg l.val = Reg.PAIR_TDLY) ∨ State.plinkReg l.val = Reg.PAIR_DRILL_AGE ∨
      State.plinkReg l.val = Reg.TB_RTC_SEC_LO ∨ State.plinkReg l.val = Reg.TB_RTC_SEC_HI)) l) (not_signals (plinkReg_high l))

end

end Sys2Proof.Machine
end

section
/-!
Frames of the pair links (chapter 16): trip-line and STATE frames, and the statement about links and frames.
-/
namespace Sys2Proof.Machine
open Sys2Proof

/-! ### What the outputs of a standby write -/

/-- Keys that the outputs of a standby write: time I/O, energised and GOOSE lines, field I/O. -/
def StandbyKeys (a : Nat) : Prop := (0x8000 ≤ a ∧ a < 0xC000) ∨ (0x18C00 ≤ a ∧ a < 0x18D00) ∨ (0x1C000 ≤ a ∧ a < 0x20000)

section
variable (s : State)

/-- The register of an entry of a table of n lies in the table's block. -/
theorem within_block {b w i n lo hi : Nat} (h : i < n) (hlo : lo ≤ b) (hhi : b + w * n ≤ hi) (hw : 0 < w := by decide) :
    lo ≤ b + w * i ∧ b + w * i < hi :=
  ⟨Nat.le_add_right_of_le hlo, Nat.lt_of_lt_of_le (Nat.add_lt_add_left ((Nat.mul_lt_mul_left hw).2 h) b) hhi⟩

theorem released_standby (res : Nat) : Writes StandbyKeys s (s.released res) := by
  unfold State.released
  refine Writes.ite (fun _ => Writes.refl _ s) (fun hv => ?_)
  obtain ⟨h1, h3, -⟩ := resValid_index (res := res) (by simpa using hv)
  refine Writes.ite (fun e => ?_) (fun _ => Writes.ite (fun e => ?_) (fun _ => Writes.refl _ s))
  · exact ((Writes.refl _ s).put _ _ _ (.inl (within_block (h1 e) (by decide) (by decide)))).of_agree (State.setPin_ag _ _ _) (by decide)
  · have hgrp : res % 4096 / 8 < 6 := Nat.div_lt_of_lt_mul (h3 e)
    unfold State.fioRelease
    exact (((Writes.refl _ s).wr _ (.inr (.inr (within_block (h3 e) (by decide) (by decide))))).putPair _ _ (by unfold StandbyKeys; decide)
      (by unfold StandbyKeys; decide)).wr _ (.inr (.inr (within_block hgrp (by decide) (by decide))))

theorem fioDrive_standby : Writes StandbyKeys s s.fioDrive := by
  have himage (u : State) : Writes StandbyKeys u u.fioImage :=
    ((Writes.refl _ u).wr _ (by unfold StandbyKeys; decide)).wr _ (by unfold StandbyKeys; decide)
  have hsettle (u : State) : Writes StandbyKeys u u.settleEnded :=
    Writes.of_agree (Writes.foldl (.refl _ u) fun v x _ hv => .ite (fun _ => hv.trans (released_standby v x)) fun _ => hv)
      (State.setEnded_ag _ _) (by decide)
  unfold State.fioDrive
  exact .ite (fun _ => himage s) fun _ => ((himage s).trans (hsettle _)).trans (himage _)

theorem gooseLines_of_sapwood (l : List Nat) (h : s.sapwood = true) : s.gooseLines l = s := by
  unfold State.gooseLines
  refine List.foldlRecOn (motive := fun t : State => t = s) _ _ rfl fun t ht g _ => ?_
  have hsame : s.gooseChange g = s := if_pos (.inr (.inr h))
  rw [ht, hsame]
  exact ite_self _

theorem sapwood_of_writes {P : Nat → Prop} {t : State} (h : Writes P s t) (hc : ¬ P Reg.PAIR_CFG) (hs : ¬ P Reg.PAIR_STAT) : t.sapwood = s.sapwood := by
  unfold State.sapwood State.heart State.paired State.role
  rw [h.bit 31 hc (not_signals (by decide)), h.fld 31 29 hs (not_signals (by decide))]

theorem tlDrive_standby (h : s.sapwood = true) : Writes StandbyKeys s s.tlDrive := by
  unfold State.tlDrive
  extract_lets en go changed u v
  have hv : Writes StandbyKeys s v :=
    ((((Writes.refl _ s).wr _ (by unfold StandbyKeys; decide)).wr _ (by unfold StandbyKeys; decide)).wr _ (by unfold StandbyKeys; decide)).wr _
      (by unfold StandbyKeys; decide)
  have hsame : v.gooseLines changed = v :=
    gooseLines_of_sapwood v _ ((sapwood_of_writes s hv (by unfold StandbyKeys; decide) (by unfold StandbyKeys; decide)).trans h)
  rw [hsame, ite_self]
  exact hv.trans (fioDrive_standby v)

end

/-! ### TL frames -/

section
variable (s : State)

/-- The lines a frame carries energised. -/
def energised (es : List PairTl) : Nat := packBits 64 (fun n => es.any (fun e => decide (e.n = n) && decide (e.st = 3)))

/-- PAIR_RTL as a frame carries it. -/
def State.rtlShown (s : State) (es : List PairTl) : State :=
  (s.wr Reg.PAIR_RTL_LO (w32 (energised es))).wr Reg.PAIR_RTL_HI (w32 (energised es / 4294967296))

/-- The carried states of the lines with PAIR = 1 are taken. -/
def State.linesTaken (s : State) (es : List PairTl) : State := es.foldl (fun t e => if e.n < 64 && t.tlPair e.n then t.lineTake e else t) s

theorem rtlShown_writes (es : List PairTl) : Writes (fun a => a = Reg.PAIR_RTL_LO ∨ a = Reg.PAIR_RTL_HI) s (s.rtlShown es) :=
  ((Writes.refl _ s).wr _ (.inl rfl)).wr _ (.inr rfl)

theorem role_rtlShown (es : List PairTl) : (s.rtlShown es).role = s.role :=
  (rtlShown_writes s es).fld 31 29 (by decide) (not_signals (by decide))

theorem tlTake_heart (es : List PairTl) (h : s.role ≠ 1) : s.tlTake es = s.rtlShown es := if_neg (by rw [← role_rtlShown s es] at h; exact h)

theorem tlTake_standby (es : List PairTl) (h : s.role = 1) : s.tlTake es = ((s.rtlShown es).linesTaken es).tlDrive :=
  if_pos ((role_rtlShown s es).trans h)

theorem bitAt_w32 (x : Nat) {i : Nat} (h : i < 32) : bitAt (w32 x) i = x.testBit i :=
  (BitVec.getLsbD_ofNat 32 x i).trans (by rw [decide_eq_true h, Bool.true_and])

/-- A line's bit of PAIR_RTL tells whether the frame carries it energised. -/
theorem pairBit_rtlShown (es : List PairTl) (n : Nat) (hn : n < 64) : (s.rtlShown es).pairBit Reg.PAIR_RTL_LO n =
    es.any (fun e => decide (e.n = n) && decide (e.st = 3)) := by
  have hen : (energised es).testBit n = es.any (fun e => decide (e.n = n) && decide (e.st = 3)) := by
    rw [energised, testBit_packBits, decide_eq_true hn, Bool.true_and]
  have hlo : (s.rtlShown es).rd Reg.PAIR_RTL_LO = w32 (energised es) :=
    (State.rd_wr _ _ _ _).trans ((if_neg (by decide)).trans ((State.rd_wr _ _ _ _).trans (if_pos rfl)))
  have hhi : (s.rtlShown es).rd (Reg.PAIR_RTL_LO + 4) = w32 (energised es / 2 ^ 32) := (State.rd_wr _ _ _ _).trans (if_pos (by decide))
  refine Eq.trans ?_ hen
  by_cases h : n < 32
  · exact (if_pos h).trans ((congrArg (bitAt · n) hlo).trans (bitAt_w32 _ h))
  · refine (if_neg h).trans ((congrArg (bitAt · (n - 32)) hhi).trans ((bitAt_w32 _ (Nat.sub_lt_left_of_lt_add (Nat.le_of_not_lt h) hn)).trans ?_))
    exact (Nat.testBit_div_two_pow _ _).trans (congrArg (energised es).testBit (Nat.sub_add_cancel (Nat.le_of_not_lt h)))

theorem tlStat_block {n : Nat} (hn : n < 64) : 0x18900 ≤ Reg.TL_STAT n ∧ Reg.TL_STAT n < 0x18A00 :=
  within_block hn (by decide) (by decide)

/-- A line's own register and unit are all that its carried state changes. -/
theorem lineTake_writes (e : PairTl) (hn : e.n < 64) : Writes (fun a => 0x18900 ≤ a ∧ a < 0x18A00) s (s.lineTake e) := by
  have hstat : 0x18900 ≤ Reg.TL_STAT e.n ∧ Reg.TL_STAT e.n < 0x18A00 := tlStat_block hn
  unfold State.lineTake
  refine .ite (fun _ => .refl _ s) fun _ => .of_agree ?_ (State.setLine_ag _ _ _) (by decide)
  exact (((Writes.refl _ s).put _ _ _ hstat).put _ _ _ hstat).put _ _ _ hstat

theorem linesTaken_writes (es : List PairTl) : Writes (fun a => 0x18900 ≤ a ∧ a < 0x18A00) s (s.linesTaken es) := by
  refine Writes.foldl (.refl _ s) fun t e _ ht => ?_
  split
  · next h => exact ht.trans (lineTake_writes t e (by simpa using (Bool.and_eq_true_iff.1 h).1))
  · exact ht

/-- The registers a trip-line frame changes behind PAIR_RTL. -/
def TlTaken (a : Nat) : Prop := (0x18900 ≤ a ∧ a < 0x18A00) ∨ StandbyKeys a

theorem tlTake_after (es : List PairTl) (hsap : s.role = 1 → s.sapwood = true) : Writes TlTaken (s.rtlShown es) (s.tlTake es) := by
  by_cases h : s.role = 1
  · have hlines := linesTaken_writes (s.rtlShown es) es
    have htaken : ((s.rtlShown es).linesTaken es).sapwood = true :=
      (sapwood_of_writes _ hlines (by decide) (by decide)).trans ((sapwood_of_writes _ (rtlShown_writes s es) (by decide) (by decide)).trans (hsap h))
    rw [tlTake_standby s es h]
    exact (hlines.mono fun _ => .inl).trans ((tlDrive_standby _ htaken).mono fun _ => .inr)
  · rw [tlTake_heart s es h]
    exact .refl _ _

/-- What a frame's effects keep beside PAIR_RTL. -/
theorem rd_tlTake (es : List PairTl) (hsap : s.role = 1 → s.sapwood = true) (k : Nat) (hk : ¬ TlTaken k) (hr : k ≠ Reg.PAIR_RTL_LO ∧ k ≠ Reg.PAIR_RTL_HI)
    (hs : 0x10000 ≤ k) : (s.tlTake es).rd k = s.rd k :=
  ((tlTake_after s es hsap).rd k hk (not_signals hs)).trans ((rtlShown_writes s es).rd k (fun e => e.elim hr.1 hr.2) (not_signals hs))

/-- TL_STAT of a line with the state carried for it. -/
def State.lineShown (s : State) (e : PairTl) : State :=
  ((s.setTl e.n e.st).put (Reg.TL_STAT e.n) 28 27 e.bf).put (Reg.TL_STAT e.n) 12 0 e.cnt

theorem lineTake_eq (e : PairTl) (hrun : s.tlState e.n ≠ 0) (h0 : e.st ≠ 0) : ∃ g, s.lineTake e =
    (s.lineShown e).setLine e.n { (s.lineShown e).line e.n with grantAt := g, cause := e.cause } := by
  unfold State.lineTake State.lineShown
  rw [if_neg (by simp [hrun, h0])]
  exact ⟨_, rfl⟩

theorem tlState_lineShown (e : PairTl) (h8 : e.st < 8) : (s.lineShown e).tlState e.n = e.st := by
  unfold State.tlState State.lineShown State.setTl
  rw [State.fld_put_apart _ _ _ _ _ _ _ _ (by decide) (by decide) (by decide) (by decide),
    State.fld_put_apart _ _ _ _ _ _ _ _ (by decide) (by decide) (by decide) (by decide), State.fld_put_same _ _ _ _ _ (by decide) (by decide)]
  exact Nat.mod_eq_of_lt h8

/-- A line that runs takes the state carried for it (R537). -/
theorem lineTake_shows (e : PairTl) (hrun : s.tlState e.n ≠ 0) (h0 : e.st ≠ 0) (h8 : e.st < 8) :
    (s.lineTake e).tlState e.n = e.st ∧ ((s.lineTake e).line e.n).cause = e.cause := by
  obtain ⟨g, h⟩ := lineTake_eq s e hrun h0
  rw [h]
  refine ⟨((State.setLine_ag _ _ _).fld _ rfl _ _).trans (tlState_lineShown s e h8), ?_⟩
  rw [State.line_setLine, if_pos rfl]

/-! ### STATE frames -/

/-- Why a STATE frame is not used, or 0 (R533). -/
def stateReason (end_ good crc : Bool) : Nat := if !end_ then 1 else if !good || !crc then 2 else 0

theorem stateReason_zero (end_ good crc : Bool) : stateReason end_ good crc = 0 ↔ good = true ∧ end_ = true ∧ crc = true := by
  revert end_ good crc
  decide

def stateWhy (f : PairState) (good : Bool) : Nat :=
  stateReason (decide (leWord (f.bytes.drop (f.bytes.length - 4)) = 0x454E4421)) good
    (decide (leWord (f.bytes.drop (f.bytes.length - 8)) = w32 (crc32 (f.bytes.take (f.bytes.length - 8)))))

theorem stateWhy_zero (f : PairState) (good : Bool) : stateWhy f good = 0 ↔ good = true ∧ leWord (f.bytes.drop (f.bytes.length - 4)) = 0x454E4421 ∧
    leWord (f.bytes.drop (f.bytes.length - 8)) = w32 (crc32 (f.bytes.take (f.bytes.length - 8))) := by
  rw [stateWhy, stateReason_zero, decide_eq_true_eq, decide_eq_true_eq]

/-- The pair unit with a STATE frame and why it is not used: the first complete frame of a tick stays, any other one takes the place of the last. -/
def State.stateStored (s : State) (f : PairState) (why : Nat) : State :=
  s.pairMod (fun p => { p with rx := match p.rx with
    | some (g, 0) => some (g, 0)
    | _ => some (f, why) })

theorem stateTake_eq (l : Nat) (ok : Bool) (seq : Nat) (f : PairState) : s.stateTake l ok seq f =
    (s.plinkTake l ok seq).1.stateStored f (stateWhy f (s.plinkTake l ok seq).2) := rfl

theorem stateStored_ag (f : PairState) (why : Nat) : Agree 70368744177664 s (s.stateStored f why) := State.pairMod_ag _ _

theorem stateStored_rx (f : PairState) (why : Nat) : (s.stateStored f why).pair.rx = match s.pair.rx with
    | some (g, 0) => some (g, 0)
    | _ => some (f, why) := rfl

theorem stateStored_keeps (f : PairState) (why : Nat) (h : s.pair.rx.any (fun x => decide (x.2 = 0)) = true) :
    (s.stateStored f why).pair.rx = s.pair.rx := by
  rw [stateStored_rx]
  rcases hrx : s.pair.rx with _ | ⟨g, _ | n⟩
  · rw [hrx] at h
    cases h
  · rfl
  · rw [hrx] at h
    cases h

theorem stateStored_takes (f : PairState) (why : Nat) (h : s.pair.rx.all (fun x => decide (x.2 ≠ 0)) = true) :
    (s.stateStored f why).pair.rx = some (f, why) := by
  rw [stateStored_rx]
  rcases hrx : s.pair.rx with _ | ⟨g, _ | n⟩
  · rfl
  · rw [hrx] at h
    cases h
  · rfl

end

end Sys2Proof.Machine
end

section
/-!
Frames of the pair links as instructions (chapter 16): whether they are heard, and what a trip-line frame and a link's failure leave.
-/
namespace Sys2Proof.Machine
open Sys2Proof

theorem Agree.eq_signal_pair {s t : State} (h : Agree 70368744202753 s t) :
    t = { s with regs := t.regs, supPend := t.supPend, tally := t.tally, buckets := t.buckets, pair := t.pair } := h.eq_overlay
theorem Agree.eq_pair {s t : State} (h : Agree 70368744177664 s t) : t = { s with pair := t.pair } := h.eq_overlay
theorem Agree.eq_hbFrame {s t : State} (h : Agree 70368744235521 s t) :
    t = { s with tb := t.tb, regs := t.regs, supPend := t.supPend, tally := t.tally, buckets := t.buckets, pair := t.pair } := h.eq_overlay
theorem Agree.eq_tlFrame {s t : State} (h : Agree 70677981979145 s t) :
    t = { s with regs := t.regs, ended := t.ended, supPend := t.supPend, tally := t.tally, buckets := t.buckets, pins := t.pins, eth := t.eth, lines := t.lines, pair := t.pair } := h.eq_overlay

section
variable {s : State} {l : Fin 2} {ok roleIn : Bool} {seq tdly : BitVec 16} {h : PairHb} {toffs : BitVec 32} {es : List PairTl} {f : PairState}

/-! ### A package that takes no notice -/

theorem pairNet_of_single (h : s.paired = false) : s.pairNet = false := by
  unfold State.pairNet; rw [h, Bool.false_and]

/-- Frames need a pair whose links have power (R520). -/
theorem frames_unheard (hn : s.pairNet = false) (i : Instr) (hi : i = .pairHbFrame l ok seq h toffs tdly ∨ i = .pairTlFrame l ok seq es ∨
    i = .pairStateFrame l ok seq f ∨ i = .pairTlFrameSend) : exec i s = .next s := by
  have hnot : (!s.pairNet) = true := by rw [hn]; rfl
  rcases hi with rfl | rfl | rfl | rfl
  · exact congrArg Host.Outcome.next (if_pos hnot)
  · exact congrArg Host.Outcome.next (if_pos hnot)
  · exact congrArg Host.Outcome.next (if_neg (by rw [hn]; decide))
  · exact congrArg Host.Outcome.next (if_pos (.inl hnot))

/-- A package that is not paired takes no notice of the pair (R520). -/
theorem single_unmoved (hp : s.paired = false) (i : Instr) (hi : i = .pairHbFrame l ok seq h toffs tdly ∨ i = .pairTlFrame l ok seq es ∨
    i = .pairStateFrame l ok seq f ∨ i = .pairHbPinToggle ∨ i = .plinkDown l ∨ i = .pairTlFrameTimeout ∨ i = .pairTlFrameSend ∨ i = .pairRoleInFall ∨
    i = .pairDecisionPoint roleIn ∨ i = .handoverAssert ∨ i = .missedOwnDeadline) : exec i s = .next s := by
  have hn := pairNet_of_single hp
  have hnot : ¬ s.paired = true := by rw [hp]; decide
  have hnotAnd (b : Bool) : ¬ (s.paired && b) = true := by rw [hp]; exact Bool.false_ne_true
  rcases hi with rfl | rfl | rfl | rfl | rfl | rfl | rfl | rfl | rfl | rfl | rfl
  · exact frames_unheard (es := es) (f := f) hn _ (.inl rfl)
  · exact frames_unheard (h := h) (toffs := toffs) (tdly := tdly) (f := f) hn _ (.inr (.inl rfl))
  · exact frames_unheard (h := h) (toffs := toffs) (tdly := tdly) (es := es) hn _ (.inr (.inr (.inl rfl)))
  · exact congrArg Host.Outcome.next (if_neg hnot)
  · exact congrArg Host.Outcome.next (if_neg (hnotAnd _))
  · exact congrArg Host.Outcome.next (if_neg (hnotAnd _))
  · exact frames_unheard (l := l) (ok := ok) (seq := seq) (h := h) (toffs := toffs) (tdly := tdly) (es := es) (f := f) hn _ (.inr (.inr (.inr rfl)))
  · exact congrArg Host.Outcome.next (if_neg (hnotAnd _))
  · exact congrArg Host.Outcome.next (if_pos (by rw [hp]; rfl))
  · exact congrArg Host.Outcome.next (if_neg (hnotAnd _))
  · exact congrArg Host.Outcome.next (if_neg hnot)

/-! ### Frames that are valid, and others -/

section
variable (hn : s.pairNet = true)
include hn

theorem pairNet_heard : ¬ (!s.pairNet) = true := by rw [hn]; decide

theorem hbFrame_heard (hg : s.plinkGood l.val ok seq.toNat = true) :
    exec (.pairHbFrame l ok seq h toffs tdly) s = .next ((s.plinkHeard l.val ok seq.toNat).hbTake h toffs.toInt tdly.toNat) := by
  refine congrArg Host.Outcome.next ((if_neg (pairNet_heard hn)).trans ?_)
  rw [plinkTake_good s l ok seq.toNat hg]
  exact if_pos rfl

theorem tlFrame_heard (hg : s.plinkGood l.val ok seq.toNat = true) :
    exec (.pairTlFrame l ok seq es) s = .next ((s.plinkHeard l.val ok seq.toNat).tlTake es) := by
  refine congrArg Host.Outcome.next ((if_neg (pairNet_heard hn)).trans ?_)
  rw [plinkTake_good s l ok seq.toNat hg]
  exact if_pos rfl

theorem hbFrame_counted (hb : s.plinkGood l.val ok seq.toNat = false) :
    exec (.pairHbFrame l ok seq h toffs tdly) s = .next (s.plinkMissed l.val ok seq.toNat) := by
  refine congrArg Host.Outcome.next ((if_neg (pairNet_heard hn)).trans ?_)
  rw [plinkTake_bad s l ok seq.toNat hb]
  exact if_neg Bool.false_ne_true

theorem tlFrame_counted (hb : s.plinkGood l.val ok seq.toNat = false) :
    exec (.pairTlFrame l ok seq es) s = .next (s.plinkMissed l.val ok seq.toNat) := by
  refine congrArg Host.Outcome.next ((if_neg (pairNet_heard hn)).trans ?_)
  rw [plinkTake_bad s l ok seq.toNat hb]
  exact if_neg Bool.false_ne_true

theorem stateFrame_taken : exec (.pairStateFrame l ok seq f) s = .next (s.stateTake l.val ok seq.toNat f) :=
  congrArg Host.Outcome.next (if_pos hn)

end

/-! ### STATE frames -/

section
variable (s l ok) (seq : Nat) (f : PairState)

/-- A STATE frame that is not valid is counted as another one. -/
theorem stateTake_counted (hb : s.plinkGood l.val ok seq = false) : CountedBy s l ok (s.stateTake l.val ok seq f) := by
  refine countedBy_of_agree s l ok seq ?_ ?_
  · rw [stateTake_eq, plinkTake_bad s l ok seq hb]
    exact stateStored_ag _ _ _
  · rw [stateTake_eq, plinkTake_bad s l ok seq hb]
    exact (plinkMissed_kept s l ok seq).hb

/-- A frame on a link tells whether it is valid, and leaves the STATE frame that waits. -/
theorem plinkTake_good_eq : (s.plinkTake l.val ok seq).2 = s.plinkGood l.val ok seq := by
  rw [plinkTake_eq]
  cases s.plinkGood l.val ok seq <;> rfl

theorem plinkTake_rx : (s.plinkTake l.val ok seq).1.pair.rx = s.pair.rx := by
  rw [plinkTake_eq]
  exact (apply_ite (fun r : State × Bool => r.1.pair.rx) _ _ _).trans
    ((ite_congr rfl (fun _ => (plinkHeard_kept s l ok seq).rx) fun _ => (plinkMissed_kept s l ok seq).rx).trans (ite_self _))

theorem plinkTake_ag : Agree 70368744202753 s (s.plinkTake l.val ok seq).1 := by
  rw [plinkTake_eq]
  split
  · exact plinkHeard_ag s l ok seq
  · exact (plinkMissed_ag s l ok seq).mono rfl

theorem stateTake_keeps (hall : s.pair.rx.any (fun x => decide (x.2 = 0)) = true) : (s.stateTake l.val ok seq f).pair.rx = s.pair.rx := by
  have hrx := plinkTake_rx s l ok seq
  exact (stateStored_keeps _ f _ (hrx ▸ hall)).trans hrx

theorem stateTake_takes (hall : s.pair.rx.all (fun x => decide (x.2 ≠ 0)) = true) : ∃ why, (s.stateTake l.val ok seq f).pair.rx = some (f, why) ∧
    (why = 0 ↔ s.plinkGood l.val ok seq = true ∧ leWord (f.bytes.drop (f.bytes.length - 4)) = 0x454E4421 ∧
      leWord (f.bytes.drop (f.bytes.length - 8)) = w32 (crc32 (f.bytes.take (f.bytes.length - 8)))) := by
  rw [stateTake_eq, plinkTake_good_eq]
  exact ⟨_, stateStored_takes _ f _ ((plinkTake_rx s l ok seq).symm ▸ hall), stateWhy_zero f _⟩

theorem stateTake_frame : s.stateTake l.val ok seq f =
    { s with regs := (s.stateTake l.val ok seq f).regs, supPend := (s.stateTake l.val ok seq f).supPend, tally := (s.stateTake l.val ok seq f).tally,
             buckets := (s.stateTake l.val ok seq f).buckets, pair := (s.stateTake l.val ok seq f).pair } :=
  ((plinkTake_ag s l ok seq).then (stateStored_ag _ f _) rfl).eq_signal_pair

end

/-! ### Trip-line frames -/

section
variable (s l ok) (seq : Nat) (es : List PairTl)

theorem sapwood_of_role {s : State} (hp : s.paired = true) (h : s.role = 1) : s.sapwood = true := by
  unfold State.sapwood State.heart
  rw [hp, h]
  rfl

theorem role_plinkHeard : (s.plinkHeard l.val ok seq).role = s.role := (plinkHeard_moves s l ok seq).fld 31 29 (by decide) (by decide)

/-- A standby that has heard a frame is one. -/
theorem sapwood_plinkHeard (hn : s.pairNet = true) (h : (s.plinkHeard l.val ok seq).role = 1) : (s.plinkHeard l.val ok seq).sapwood = true :=
  sapwood_of_role (((plinkHeard_moves s l ok seq).writes.bit 31 ((by decide : ∀ l : Fin 2, ¬ (Reg.PAIR_CFG = Reg.PAIR_STAT ∨
    Reg.PAIR_CFG = Reg.PAIR_FLAG ∨ Reg.PAIR_CFG = State.plinkReg l.val)) l) (not_signals (by decide))).trans (Bool.and_eq_true_iff.1 hn).1) h

theorem plinkReg_notTaken : ¬ TlTaken (State.plinkReg l.val) := by
  unfold TlTaken StandbyKeys
  exact (by decide : ∀ l : Fin 2, ¬ ((0x18900 ≤ State.plinkReg l.val ∧ State.plinkReg l.val < 0x18A00) ∨
    (0x8000 ≤ State.plinkReg l.val ∧ State.plinkReg l.val < 0xC000) ∨ (0x18C00 ≤ State.plinkReg l.val ∧ State.plinkReg l.val < 0x18D00) ∨
    (0x1C000 ≤ State.plinkReg l.val ∧ State.plinkReg l.val < 0x20000))) l

theorem plinkUp_tlTake (hn : s.pairNet = true) : ((s.plinkHeard l.val ok seq).tlTake es).plinkUp l.val = true :=
  (congrArg (bitAt · 31) (rd_tlTake _ es (sapwood_plinkHeard s l ok seq hn) _ (plinkReg_notTaken l)
    ((by decide : ∀ l : Fin 2, State.plinkReg l.val ≠ Reg.PAIR_RTL_LO ∧ State.plinkReg l.val ≠ Reg.PAIR_RTL_HI) l) (plinkReg_high l))).trans
    (plinkUp_plinkHeard s l ok seq)

theorem pairBit_tlTake (hsap : s.role = 1 → s.sapwood = true) {n : Nat} (hn : n < 64) :
    (s.tlTake es).pairBit Reg.PAIR_RTL_LO n = es.any (fun e => decide (e.n = n) && decide (e.st = 3)) := by
  have hw := tlTake_after s es hsap
  refine Eq.trans (ite_congr rfl (fun _ => ?_) fun _ => ?_) (pairBit_rtlShown s es n hn)
  · exact hw.bit _ (by unfold TlTaken StandbyKeys; decide) (not_signals (by decide))
  · exact hw.bit _ (by unfold TlTaken StandbyKeys; decide) (not_signals (by decide))

theorem heard_below (k : Nat) (hk : 0x18000 ≤ k) : (s.plinkHeard l.val ok seq).rd k = s.rd k :=
  (plinkHeard_moves s l ok seq).writes.rd k (by
    rintro (rfl | rfl | rfl)
    · exact absurd hk (by decide)
    · exact absurd hk (by decide)
    · exact absurd hk ((by decide : ∀ l : Fin 2, ¬ 0x18000 ≤ State.plinkReg l.val) l)) (not_signals (Nat.le_trans (by decide) hk))

theorem rtlShown_below (k : Nat) (hk : 0x18000 ≤ k) : (s.rtlShown es).rd k = s.rd k :=
  (rtlShown_writes s es).rd k (by
    rintro (rfl | rfl)
    · exact absurd hk (by decide)
    · exact absurd hk (by decide)) (not_signals (Nat.le_trans (by decide) hk))

/-- A heartwood does not take the states a frame carries. -/
theorem tlTake_heart_lines (h : s.role ≠ 1) : ((s.plinkHeard l.val ok seq).tlTake es).lines = s.lines ∧
    ∀ n, ((s.plinkHeard l.val ok seq).tlTake es).rd (Reg.TL_STAT n) = s.rd (Reg.TL_STAT n) := by
  have hlow (n : Nat) : 0x18000 ≤ Reg.TL_STAT n := Nat.le_add_right_of_le (by decide)
  rw [tlTake_heart _ es ((role_plinkHeard s l ok seq).symm ▸ h)]
  exact ⟨(plinkHeard_ag s l ok seq).lines rfl, fun n => (rtlShown_below _ es _ (hlow n)).trans (heard_below s l ok seq _ (hlow n))⟩

/-- A running pair-signal line of a standby takes the state a frame carries (R537). -/
theorem tlTake_line (e : PairTl) (hlt : e.n < 64) (hrole : s.role = 1) (hsap : s.sapwood = true) (hpair : s.tlPair e.n = true)
    (hrun : s.tlState e.n ≠ 0) (h0 : e.st ≠ 0) (h8 : e.st < 8) :
    (s.tlTake [e]).tlState e.n = e.st ∧ ((s.tlTake [e]).line e.n).cause = e.cause := by
  have hstate : (s.rtlShown [e]).tlState e.n ≠ 0 :=
    ne_of_eq_of_ne (congrArg (field · 31 29) (rtlShown_below s [e] (Reg.TL_STAT e.n) (Nat.le_add_right_of_le (by decide)))) hrun
  have hpair' : (s.rtlShown [e]).tlPair e.n = true :=
    (congrArg (bitAt · 31) (rtlShown_below s [e] _ (Nat.le_add_right_of_le (by decide)))).trans hpair
  have htaken : (s.rtlShown [e]).linesTaken [e] = (s.rtlShown [e]).lineTake e := if_pos (by rw [hpair', decide_eq_true hlt]; rfl)
  obtain ⟨hshown, hcause⟩ := lineTake_shows _ e hstate h0 h8
  have hsap' : ((s.rtlShown [e]).lineTake e).sapwood = true :=
    (sapwood_of_writes _ (lineTake_writes _ e hlt) (by decide) (by decide)).trans ((sapwood_of_writes _ (rtlShown_writes s [e]) (by decide) (by decide)).trans hsap)
  obtain ⟨hlo, hhi⟩ := tlStat_block hlt
  have hkey : ¬ StandbyKeys (Reg.TL_STAT e.n) := by
    rintro (⟨-, h⟩ | ⟨h, -⟩ | ⟨h, -⟩)
    · exact absurd (Nat.lt_of_le_of_lt hlo h) (by decide)
    · exact absurd (Nat.lt_of_le_of_lt h hhi) (by decide)
    · exact absurd (Nat.lt_of_le_of_lt h hhi) (by decide)
  rw [tlTake_standby s [e] hrole, htaken]
  exact ⟨((tlDrive_standby _ hsap').fld 31 29 hkey (not_signals (Nat.le_trans (by decide) hlo))).trans hshown,
    (congrArg (fun m => (SMap.get (fun _ => TripLine.init) m e.n).cause) ((State.tlDrive_ag ((s.rtlShown [e]).lineTake e)).lines rfl)).trans hcause⟩

theorem tlFrame_line (hn : s.pairNet = true) (e : PairTl) (hlt : e.n < 64) (hrole : s.role = 1) (hpair : s.tlPair e.n = true)
    (hrun : s.tlState e.n ≠ 0) (h0 : e.st ≠ 0) (h8 : e.st < 8) :
    ((s.plinkHeard l.val ok seq).tlTake [e]).tlState e.n = e.st ∧ (((s.plinkHeard l.val ok seq).tlTake [e]).line e.n).cause = e.cause := by
  have hrole' := (role_plinkHeard s l ok seq).trans hrole
  exact tlTake_line _ e hlt hrole' (sapwood_plinkHeard s l ok seq hn hrole')
    ((congrArg (bitAt · 31) (heard_below s l ok seq _ (Nat.le_add_right_of_le (by decide)))).trans hpair)
    (ne_of_eq_of_ne (congrArg (field · 31 29) (heard_below s l ok seq (Reg.TL_STAT e.n) (Nat.le_add_right_of_le (by decide)))) hrun) h0 h8

end

end

end Sys2Proof.Machine
end

section
/-!
Links that go down, what a partner's pin and a TL frame to be sent leave, and the statement about pair links and their frames (chapter 16).
-/
namespace Sys2Proof.Machine
open Sys2Proof

section
variable (s : State) (l : Fin 2)

/-- Of two links the other one is left. -/
theorem anyPlink_plinkDown : (s.plinkChange l.val false).anyPlink = s.plinkUp (1 - l.val) := by
  have hdown := plinkUp_plinkChange s l false
  have hother : (s.plinkChange l.val false).plinkUp (1 - l.val) = s.plinkUp (1 - l.val) :=
    (plinkChange_moves s l false).writes.bit 31
      ((by decide : ∀ l : Fin 2, ¬ (State.plinkReg (1 - l.val) = Reg.PAIR_STAT ∨ State.plinkReg (1 - l.val) = Reg.PAIR_FLAG ∨
        State.plinkReg (1 - l.val) = State.plinkReg l.val)) l) (not_signals (Nat.le_add_right_of_le (by decide)))
  obtain rfl | rfl := (by decide : ∀ l : Fin 2, l = 0 ∨ l = 1) l
  · exact (congrArg₂ (· || ·) hdown hother).trans (Bool.false_or _)
  · exact (congrArg₂ (· || ·) hother hdown).trans (Bool.or_false _)

/-- Where the partner was alive, a failed link leaves LINKS_LOST by the other one (R522). -/
theorem linksLost_plinkDown : (s.plinkChange l.val false).linksLost = (s.partnerAlive && !s.plinkUp (1 - l.val)) :=
  (linksLost_plinkChange s l false).trans
    (congrArg₂ (fun a b => a && !b) ((plinkChange_moves s l false).bits 27 (by decide)) (anyPlink_plinkDown s l))

theorem plinkChange_onlyRegs (up : Bool) : OnlyRegsSig s (s.plinkChange l.val up) [State.plinkReg l.val, Reg.PAIR_FLAG, Reg.PAIR_STAT] :=
  fun a ha hs => (plinkChange_moves s l up).writes.rd a (by
    rintro (rfl | rfl | rfl)
    exacts [ha (.tail _ (.tail _ (.head _))), ha (.tail _ (.head _)), ha (.head _)]) hs

/-- The partner's pin shows it alive (R525). -/
def State.pinToggled (s : State) : State := (s.pairMod (fun p => { p with toggled := true })).pairBeat

theorem pinToggled_onlyRegs : OnlyRegs s s.pinToggled [Reg.PAIR_STAT] :=
  ((OnlyRegs.of_agree (.refl s _) (State.pairMod_ag s _) rfl).wr _ (List.mem_singleton_self _)).wr _ (List.mem_singleton_self _)

theorem pinToggled_frame : s.pinToggled = { s with regs := s.pinToggled.regs, pair := s.pinToggled.pair } :=
  (((Agree.refl 70368744177665 s).then (State.pairMod_ag s _) rfl).then (State.pairBeat_ag _) rfl).eq_regs_pair

/-! The heartwood's frame of its pair-signal lines (R521). -/

def State.tlWaits (s : State) : State := s.pairMod (fun p => { p with tlTx := ((List.range 64).filter (fun n => s.tlPair n)).map (fun n => s.lineEntry n) })

theorem tlSend_eq (hn : s.pairNet = true) (hrole : s.role = 2) : s.tlSend = s.tlWaits.pairSent :=
  if_neg fun e => e.elim (fun e => absurd e (by rw [hn]; decide)) (· hrole)

theorem seqTx_pairSent {m : Nat} (hm : m < 2) :
    SMap.get (fun _ => 0) s.pairSent.pair.seqTx m = (SMap.get (fun _ => 0) s.pair.seqTx m + 1) % 65536 := by
  have hseq : s.pairSent.pair.seqTx =
      [0, 1].foldl (fun m l => SMap.set (fun _ => 0) m l ((SMap.get (fun _ => 0) m l + 1) % 65536)) s.pair.seqTx := rfl
  rw [hseq, List.foldl_cons, List.foldl_cons, List.foldl_nil, SMap.get_set, SMap.get_set, SMap.get_set]
  obtain rfl | rfl := (by decide : ∀ m, m < 2 → m = 0 ∨ m = 1) m hm
  · rfl
  · rfl

theorem tlWaits_frame : s.tlWaits.pairSent = { s with pair := s.tlWaits.pairSent.pair } :=
  (Agree.then (a := 70368744177664) (State.pairMod_ag s _) (State.pairSent_ag s.tlWaits) rfl).eq_pair

theorem hbFrame_frame (ok : Bool) (seq : Nat) (h : PairHb) (toffs : Int) (tdly : Nat) : let t := (s.plinkHeard l.val ok seq).hbTake h toffs tdly
    t = { s with tb := t.tb, regs := t.regs, supPend := t.supPend, tally := t.tally, buckets := t.buckets, pair := t.pair } :=
  (((plinkHeard_ag s l ok seq).mono rfl).then (State.hbTake_ag _ _ _ _) rfl).eq_hbFrame

theorem tlFrame_frame (ok : Bool) (seq : Nat) (es : List PairTl) : let t := (s.plinkHeard l.val ok seq).tlTake es
    t = { s with regs := t.regs, ended := t.ended, supPend := t.supPend, tally := t.tally, buckets := t.buckets, pins := t.pins, eth := t.eth, lines := t.lines, pair := t.pair } :=
  (((plinkHeard_ag s l ok seq).mono rfl).then (State.tlTake_ag _ es) rfl).eq_tlFrame

theorem hbFrame_ticks (ok : Bool) (seq : Nat) (h : PairHb) (toffs : Int) (tdly : Nat) (e : tickAbs h.sec h.idx < s.tickNo) :
    ((s.plinkHeard l.val ok seq).hbTake h toffs tdly).pair.hbTicks = s.pair.hbTicks :=
  (hbTicks_hbTake_old _ h toffs tdly (lt_of_lt_of_eq e (tickNo_plinkHeard s l ok seq).symm)).trans (plinkHeard_kept s l ok seq).hbTicks

theorem hbFrame_role (ok : Bool) (seq : Nat) (h : PairHb) (toffs : Int) (tdly : Nat) :
    ((s.plinkHeard l.val ok seq).hbTake h toffs tdly).role = s.role :=
  ((hbTake_moves _ h toffs tdly).fld 31 29 (by decide) (by decide)).trans (role_plinkHeard s l ok seq)

end

/-- Settles O54: a frame is heard or counted; what a heard one does is one lemma for each kind of frame. -/
theorem pairLinksAndFrames : Obligations.PairLinksAndFrames := by
  unfold Obligations.PairLinksAndFrames
  intro s l ok roleIn seq tdly h toffs es e f
  extract_lets p reg stat expected good off at_ Counted
  refine ⟨fun hp => single_unmoved hp, fun hn => frames_unheard hn,
    fun hn hg hrole => ⟨_, hbFrame_heard hn hg, hb_hbTake _ _ _ _, (plinkUp_hbTake _ _ _ _ l).trans (plinkUp_plinkHeard s l ok _),
      (missed_hbTake _ _ _ _).trans (plinkHeard_kept s l ok _).missed, fun e => alive_hbTake _ _ _ _ (e.trans (tickNo_plinkHeard s l ok _).symm),
      fun e => hbTicks_hbTake_new _ _ _ _ ((tickNo_plinkHeard s l ok _).le.trans e), hbFrame_ticks s l ok _ h _ _, toffs_hbTake _ _ _ _,
      tdly_hbTake _ _ _ _ tdly.isLt, timeOk_hbTake _ _ _ _, role_hbTake _ _ _ _ hrole, hbFrame_role s l ok _ h _ _,
      (congrArg (SMap.get (fun _ => none) · l.val) (seqRx_hbTake _ _ _ _)).trans (seqRx_plinkHeard s l ok _ (Bool.and_eq_true_iff.1 hg).1),
      hbFrame_frame s l ok _ h _ _⟩,
    fun hn hg => ⟨⟨_, hbFrame_counted hn hg, plinkMissed_counted s l ok _⟩, ⟨_, tlFrame_counted hn hg, plinkMissed_counted s l ok _⟩,
      ⟨_, stateFrame_taken hn, stateTake_counted s l ok _ f hg⟩⟩,
    fun hn hg => ⟨_, tlFrame_heard hn hg, plinkUp_tlTake s l ok _ es hn, fun _ hlt => pairBit_tlTake _ es (sapwood_plinkHeard s l ok _ hn) hlt,
      tlTake_heart_lines s l ok _ es, tlFrame_frame s l ok _ es⟩,
    fun hn hg hlt hrole hpair hrun h0 h8 => ⟨_, tlFrame_heard hn hg, tlFrame_line s l ok _ hn e hlt hrole hpair hrun h0 h8⟩,
    fun hn => ⟨_, stateFrame_taken hn, stateTake_keeps s l ok _ f, stateTake_takes s l ok _ f, stateTake_frame s l ok _ f⟩,
    fun hp => ⟨_, congrArg Host.Outcome.next (if_pos hp), rfl, partnerAlive_pairBeat _, pinToggled_onlyRegs s, pinToggled_frame s⟩,
    fun hp hup => ⟨_, congrArg Host.Outcome.next (if_pos (Bool.and_eq_true_iff.2 ⟨hp, hup⟩)), plinkUp_plinkChange s l false, flag_plinkChange s l false,
      linksLost_plinkDown s l, int_plinkChange s l false, plinkChange_onlyRegs s l false, (State.plinkChange_ag s _ _).eq_signal_pair⟩,
    fun hup => congrArg Host.Outcome.next (if_neg fun e => absurd ((Bool.and_eq_true_iff.1 e).2.symm.trans hup) (by decide)),
    fun hp hrole => congrArg Host.Outcome.next (if_pos (Bool.and_eq_true_iff.2 ⟨hp, decide_eq_true hrole⟩)),
    fun hrole => congrArg Host.Outcome.next (if_neg fun e => hrole (of_decide_eq_true (Bool.and_eq_true_iff.1 e).2)),
    fun hn hrole => ⟨_, congrArg Host.Outcome.next (tlSend_eq s hn hrole), rfl, fun _ => seqTx_pairSent s.tlWaits, tlWaits_frame s⟩,
    fun hrole => congrArg Host.Outcome.next (if_pos (.inr hrole))⟩

end Sys2Proof.Machine
end

section
/-!
The switch (chapter 13): which registers the reception of a frame writes, and what it keeps of the switch.
-/
namespace Sys2Proof.Machine
open Sys2Proof

/-! ### Registers a received frame writes after it has been counted -/

/-- Every register but the port's word at offset 0x10: the reception counters lie at such offsets (R461). -/
def RxKeys (a : Nat) : Prop := a % 64 ≠ 16 ∨ 0xA0000000 ≤ a

theorem rxKeys_gse (e w : Nat) : RxKeys (gseKey e w) := .inr (Nat.le_add_right_of_le (Nat.le_add_right_of_le (by decide)))

theorem rxKeys_istat : RxKeys Reg.ETH_ISTAT := .inl (by decide)

/-- A word of a port's or a slot's block at another offset. -/
theorem rxKeys_block {b i : Nat} (h : b % 64 ≠ 16 := by decide) : RxKeys (b + 0x40 * i) := .inl ((Nat.add_mul_mod_self_left b 64 i).symm ▸ h)

section
variable {s t : State}

theorem Writes.ethFlag {P : Nat → Prop} (h : Writes P s t) (i p : Nat) (hp : P Reg.ETH_ISTAT) : Writes P s (t.ethFlag i p) :=
  (h.putBit _ _ hp).irq _

theorem Writes.ethMod {P : Nat → Prop} (h : Writes P s t) (f : EthU → EthU) : Writes P s (t.ethMod f) := h.of_regs rfl

end

section
variable (s : State)

theorem redAlive_rxKeys (p : Nat) : Writes RxKeys s (s.redAlive p) := by
  have hp : RxKeys (Reg.ETH_PSTAT p) := rxKeys_block
  unfold State.redAlive
  refine Writes.ite (fun _ => (Writes.refl _ s).ethMod _) (fun _ => ?_)
  exact ((((Writes.refl _ s).ethMod _).putBit _ _ hp).ethFlag _ _ rxKeys_istat).log _ _ _ _

theorem ethPut_rxKeys (p pcp : Nat) (f : EFrame) : Writes RxKeys s (s.ethPut p pcp f) := by
  have hp : RxKeys (Reg.ETH_DROP p) := rxKeys_block
  unfold State.ethPut
  refine Writes.ite (fun _ => Writes.refl _ s) (fun _ => ?_)
  refine Writes.ite (fun _ => Writes.ite (fun _ => Writes.refl _ s) (fun _ => (Writes.refl _ s).count _ _ _ hp)) (fun _ => ?_)
  exact (Writes.refl _ s).ethMod _

theorem ethSend_rxKeys (f : Eth) (outs : List Nat) (untag pcp vid : Nat) (src : EFrame) :
    Writes RxKeys s (s.ethSend f outs untag pcp vid src) := by
  unfold State.ethSend
  refine Writes.foldl ((Writes.refl _ s).when ((Writes.refl _ s).ethMod _)) (fun u lp _ hu => ?_)
  exact Writes.foldl hu (fun v p _ hv => hv.trans (ethPut_rxKeys v _ _ _))

theorem forward_rxKeys (p ta : Nat) (f : Eth) (pcp vid members untag : Nat) (toSup : Bool) :
    Writes RxKeys s (s.forward p ta f pcp vid members untag toSup) :=
  ((Writes.refl _ s).ethMod _).trans (ethSend_rxKeys _ _ _ _ _ _ _)

theorem ringForward_rxKeys (p ta : Nat) (raw : Bytes) (f : Eth) (pcp : Nat) : Writes RxKeys s (s.ringForward p ta raw f pcp) := by
  unfold State.ringForward
  split
  · exact Writes.refl _ s
  · exact Writes.ite (fun _ => Writes.refl _ s) (fun _ => ((Writes.refl _ s).ethMod _).trans (ethPut_rxKeys _ _ _ _))

theorem dupCheck_rxKeys (p : Nat) (f : Eth) : Writes RxKeys s (s.dupCheck p f).1 := by
  have hp : RxKeys (Reg.ETH_REDCNT p) := rxKeys_block
  unfold State.dupCheck
  split
  · exact Writes.refl _ s
  · split
    · exact Writes.refl _ s
    · split
      · exact (Writes.refl _ s).count _ _ _ hp
      · dsimp only
        exact (Writes.refl _ s).ethMod _

end

end Sys2Proof.Machine
end

section
/-!
The switch (chapter 13): what the reception of a frame keeps of the switch, its stages, and the address it learns.
-/
namespace Sys2Proof.Machine
open Sys2Proof

/-! ### Which parts of the switch a service changes -/

/-- From s to t nothing of the switch changes but its egress queues and its redundancy sequence number. -/
def OnlyQueues (s t : State) : Prop := ∃ q n, t.eth = { s.eth with queues := q, seq := n }

/-- From s to t nothing of the switch changes but the SV slots and the GOOSE entries. -/
def OnlyServices (s t : State) : Prop := ∃ v g, t.eth = { s.eth with svs := v, gse := g }

section
variable {s t u : State}

theorem OnlyQueues.of_eth (h : t.eth = s.eth) : OnlyQueues s t := ⟨s.eth.queues, s.eth.seq, h⟩

theorem OnlyQueues.trans (h : OnlyQueues s t) (k : OnlyQueues t u) : OnlyQueues s u := by
  obtain ⟨q, n, hq⟩ := h
  obtain ⟨q', n', hq'⟩ := k
  exact ⟨q', n', hq'.trans (congrArg (fun e : EthU => { e with queues := q', seq := n' }) hq)⟩

theorem OnlyServices.of_eth (h : t.eth = s.eth) : OnlyServices s t := ⟨s.eth.svs, s.eth.gse, h⟩

theorem OnlyServices.refl (s : State) : OnlyServices s s := .of_eth rfl

theorem OnlyServices.trans (h : OnlyServices s t) (k : OnlyServices t u) : OnlyServices s u := by
  obtain ⟨v, g, hv⟩ := h
  obtain ⟨v', g', hv'⟩ := k
  exact ⟨v', g', hv'.trans (congrArg (fun e : EthU => { e with svs := v', gse := g' }) hv)⟩

theorem OnlyServices.setGse (h : OnlyServices s t) (e : Nat) (x : GooseRx) : OnlyServices s (t.setGse e x) := h.trans ⟨_, _, rfl⟩

/-- A service takes a frame: of the registers a port's reception counter stays, of the switch all but the slots and the entries. -/
structure Serves (s t : State) : Prop where
  writes : Writes RxKeys s t
  services : OnlyServices s t

theorem Serves.refl (s : State) : Serves s s := ⟨.refl _ s, .of_eth rfl⟩

theorem Serves.trans (h : Serves s t) (k : Serves t u) : Serves s u := ⟨h.writes.trans k.writes, h.services.trans k.services⟩

theorem Serves.of_writes {m : Nat} (h : Serves s t) (hw : Writes RxKeys t u) (k : Agree m t u) (hm : m.testBit 35 = false) : Serves s u :=
  ⟨h.writes.trans hw, h.services.trans (.of_eth (k.eth hm))⟩

theorem Serves.setGse (h : Serves s t) (e : Nat) (x : GooseRx) : Serves s (t.setGse e x) := ⟨h.writes.ethMod _, h.services.setGse e x⟩
theorem Serves.setSvSlot (h : Serves s t) (n : Nat) (x : SvSlot) : Serves s (t.setSvSlot n x) := ⟨h.writes.ethMod _, h.services.trans ⟨_, _, rfl⟩⟩

theorem Serves.count (h : Serves s t) {a : Nat} (hi lo n : Nat) (ha : RxKeys a) : Serves s (t.count a hi lo n) :=
  h.of_writes ((Writes.refl _ t).count _ _ _ ha) (State.count_ag _ _ _ _ _) rfl
theorem Serves.putBit (h : Serves s t) {a : Nat} (i : Nat) (b : Bool) (ha : RxKeys a) : Serves s (t.putBit a i b) :=
  h.of_writes ((Writes.refl _ t).putBit _ _ ha) (State.putBit_ag _ _ _ _) rfl
theorem Serves.wr (h : Serves s t) {a : Nat} (v : Word) (ha : RxKeys a) : Serves s (t.wr a v) :=
  h.of_writes ((Writes.refl _ t).wr _ ha) (State.wr_ag _ _ _) rfl
theorem Serves.irq (h : Serves s t) (n : Nat) : Serves s (t.irq n) := h.of_writes ((Writes.refl _ t).irq _) (State.irq_ag _ _) rfl
theorem Serves.log (h : Serves s t) (code sp p0 p1 : Nat) : Serves s (t.log code sp p0 p1) :=
  h.of_writes ((Writes.refl _ t).log _ _ _ _) (State.log_ag _ _ _ _ _) rfl

/-- A condition of the switch with its record. -/
theorem Serves.flagged (h : Serves s t) (i p code sp p0 p1 : Nat) : Serves s ((t.ethFlag i p).log code sp p0 p1) :=
  (h.of_writes ((Writes.refl _ t).ethFlag _ _ rxKeys_istat) (State.ethFlag_ag _ _ _) rfl).log _ _ _ _

theorem Serves.ite {c : Prop} [Decidable c] (ht : Serves s t) (hu : Serves s u) : Serves s (if c then t else u) := by
  split
  · exact ht
  · exact hu

theorem Serves.flaggedIf {c : Prop} [Decidable c] (h : Serves s t) (i p code sp p0 p1 : Nat) :
    Serves s (if c then (t.ethFlag i p).log code sp p0 p1 else t) := .ite (h.flagged i p code sp p0 p1) h

theorem Serves.iteFst {c : Prop} [Decidable c] {a b : State × Bool} (ha : Serves s a.1) (hb : Serves s b.1) : Serves s (if c then a else b).1 := by
  split
  · exact ha
  · exact hb

theorem Serves.foldl {α : Type} {f : State → α → State} {l : List α} (h : Serves s t) (hf : ∀ u x, Serves s u → Serves s (f u x)) :
    Serves s (l.foldl f t) :=
  List.foldlRecOn l f h (fun u hu x _ => hf u x hu)

end

section
variable (s : State)

theorem ethPut_onlyQueues (p pcp : Nat) (f : EFrame) : OnlyQueues s (s.ethPut p pcp f) := by
  unfold State.ethPut
  split
  · exact .of_eth rfl
  · dsimp only
    split
    · split
      · exact .of_eth rfl
      · exact .of_eth ((State.count_ag _ _ _ _ _).eth rfl)
    · exact ⟨_, _, rfl⟩

theorem ethSend_onlyQueues (f : Eth) (outs : List Nat) (untag pcp vid : Nat) (src : EFrame) :
    OnlyQueues s (s.ethSend f outs untag pcp vid src) := by
  unfold State.ethSend
  refine List.foldlRecOn outs _ ?_ (fun u hu lp _ => ?_)
  · unfold when
    split
    · exact ⟨_, _, rfl⟩
    · exact .of_eth rfl
  · exact List.foldlRecOn (u.physPorts lp) _ hu (fun v hv p _ => hv.trans (ethPut_onlyQueues v _ _ _))

theorem svUsed_serves (n tick : Nat) : Serves s (s.svUsed n tick) :=
  .ite (((((Serves.refl s).setSvSlot _ _).putBit _ _ rxKeys_block).irq _).log _ _ _ _) ((Serves.refl s).setSvSlot _ _)

theorem svAsdu_serves (n ta : Nat) (a : List (Nat × Bytes)) : Serves s (s.svAsdu n ta a) := by
  unfold State.svAsdu
  extract_lets cnt rev x u v w y
  have hv : Serves s v := ((Serves.refl s).count _ _ _ rxKeys_block).setSvSlot _ _
  have hw : Serves s w := (Serves.refl s).setSvSlot _ _
  clear_value cnt rev v y w
  refine .ite (hv.flaggedIf _ _ _ _ _ _) ?_
  split
  · exact hw
  · exact .ite (hw.count _ _ _ rxKeys_block) (.ite (hw.count _ _ _ rxKeys_block) ((hw.setSvSlot _ _).trans (svUsed_serves _ _ _)))

theorem svFrame_serves (p ta : Nat) (f : Eth) : Serves s (s.svFrame p ta f) := by
  unfold State.svFrame
  split
  · exact .refl s
  · refine (Serves.refl s).foldl fun u n hu => .ite hu (.ite (hu.count _ _ _ rxKeys_block) ?_)
    exact hu.foldl fun v a hv => hv.trans (svAsdu_serves v n ta a)

theorem gseExpire_serves (e : Nat) : Serves s (s.gseExpire e) := by
  unfold State.gseExpire
  split
  · exact .refl s
  · exact (((Serves.refl s).setGse _ _).putBit _ _ (rxKeys_gse _ _)).flagged _ _ _ _ _ _

theorem gseAccept_serves (e ta : Nat) (sim : Bool) (m : GooseMsg) : Serves s (s.gseAccept e ta sim m) := by
  unfold State.gseAccept
  extract_lets x was ms t n bools w0 ws u v w
  have hu : Serves s u := (Serves.refl s).foldl fun u p hu => hu.wr _ (rxKeys_gse _ _)
  have hw : Serves s w := (hu.count _ _ _ (rxKeys_gse _ _)).setGse _ _
  clear_value w
  exact .ite ((hw.irq _).log _ _ _ _) hw

theorem gseTake_serves (e ta : Nat) (m : GooseMsg) : Serves s (s.gseTake e ta m).1 := by
  unfold State.gseTake
  extract_lets x u sim on
  have hu : Serves s u := by
    unfold u
    split
    · exact .ite (gseExpire_serves s e) (.refl s)
    · exact .refl s
  have hw (y : GooseRx) : Serves s (((u.count (gseKey e 14) 15 8 1).putBit (gseKey e 6) 3 true).setGse e y) :=
    ((hu.count _ _ _ (rxKeys_gse _ _)).putBit _ _ (rxKeys_gse _ _)).setGse _ _
  have hcount : Serves s (u.count (gseKey e 14) 7 0 1) := hu.count _ _ _ (rxKeys_gse _ _)
  have haccept : Serves s (u.gseAccept e ta sim m) := hu.trans (gseAccept_serves u e ta sim m)
  clear_value u
  refine .iteFst hcount (.iteFst hu ?_)
  split
  · exact (hw _).flaggedIf _ _ _ _ _ _
  · exact haccept

theorem gooseFrame_serves (p ta vid : Nat) (f : Eth) : Serves s (s.gooseFrame p ta vid f).1 := by
  unfold State.gooseFrame
  split
  · exact .refl s
  · refine List.foldlRecOn (motive := fun q : State × Bool => Serves s q.1) _ _ (Serves.refl s) fun q hq e _ => ?_
    dsimp only
    split
    · exact hq.trans (gseTake_serves q.1 e ta _)
    · exact hq

end

/-! ### The stages of a reception -/

/-- The frame has been counted at the time of its first octet. -/
def State.rxCounted (s : State) (p sec ns : Nat) : State :=
  let s := s.reachTime (sec * 1000000000 + ns)
  if p = 4 then s else s.count (Reg.ETH_RXCNT p) 31 0 1

/-- Its redundancy trailer or tag has been noted (R433, R467). -/
def State.rxNoted (s : State) (p red : Nat) (f : Eth) : State :=
  let s := if red ≠ 0 ∧ f.seq.isSome then s.redAlive p else s
  if red = 1 ∧ f.seq.isSome ∧ f.lan ≠ 10 + p then s.count (Reg.ETH_REDCNT p) 15 0 1 else s

/-- Its priority and VLAN (R438). -/
def State.rxPrio (s : State) (p : Nat) (f : Eth) : Nat × Nat :=
  (f.tag.filter (fun t => decide (t.2 ≠ 0))).getD (s.fld (Reg.ETH_PCFG p) 10 8, s.fld (Reg.ETH_PCFG p) 27 16)

/-- It has gone round the ring and been checked for a copy; the answer says whether it is discarded (R433, R434). -/
def State.rxChecked (s : State) (p ta : Nat) (raw : Bytes) (red : Nat) (f : Eth) (pcp : Nat) : State × Bool :=
  let own := decide (red = 2) && s.ownSrc f.src
  let s := if red = 2 then s.ringForward p ta raw f pcp else s
  if red ≠ 0 ∧ !own then s.dupCheck p f else (s, own)

/-- The slots and entries it serves have taken it, and it has been forwarded. -/
def State.rxServed (s : State) (p ta : Nat) (f : Eth) (pcp vid members untag : Nat) : State :=
  let s := if f.et = 0x88BA then s.svFrame p ta f else s
  let (s, sup) := if f.et = 0x88B8 then s.gooseFrame p ta vid f else (s, false)
  s.forward p ta f pcp vid members untag sup

/-- Its VLAN admits it, or not. -/
def State.rxAdmitted (s : State) (p ta : Nat) (f : Eth) (pcp vid : Nat) : State :=
  match s.vlanPorts vid with
  | none => s
  | some (members, untag) => if !members.testBit p then s else s.rxServed p ta f pcp vid members untag

/-- The redundancy mode the port takes part in. -/
def State.rxRed (s : State) (p : Nat) : Nat := if s.redPort p then s.eth.red else 0

/-- A frame that has been counted is taken apart, noted, checked and switched. -/
def State.rxSwitched (s : State) (p : Nat) (raw : Bytes) (t : Nat) : State :=
  let ta := ((t : Int) + s.inAdj p).toNat
  let red := s.rxRed p
  let f := ethParse (decide (red = 2)) (decide (red = 1) || (p == 2 && s.hsrPrp)) raw
  let s := s.rxNoted p red f
  let (pcp, vid) := s.rxPrio p f
  let (s, dup) := s.rxChecked p ta raw red f pcp
  if dup then s else s.rxAdmitted p ta f pcp vid

section
variable (s : State) (p : Nat) (raw : Bytes) (sec ns : Nat)

/-- A reception by its stages. -/
theorem ethRx_eq (ok : Bool) : s.ethRx p raw ok sec ns = if !s.portUp p then s else
    if !ok then (if p = 4 then s.reachTime (sec * 1000000000 + ns) else (s.reachTime (sec * 1000000000 + ns)).count (Reg.ETH_DROP p) 15 0 1)
    else (s.rxCounted p sec ns).rxSwitched p raw (sec * 1000000000 + ns) := rfl

theorem portUp_open (h : s.portUp p = true) : ¬ (!s.portUp p) = true := by rw [h]; decide

theorem ethRx_down (ok : Bool) (h : s.portUp p = false) : s.ethRx p raw ok sec ns = s := (ethRx_eq s p raw sec ns ok).trans (if_pos (by rw [h]; rfl))

theorem ethRx_good (h : s.portUp p = true) :
    s.ethRx p raw true sec ns = (s.rxCounted p sec ns).rxSwitched p raw (sec * 1000000000 + ns) :=
  (ethRx_eq s p raw sec ns true).trans ((if_neg (portUp_open s p h)).trans (if_neg (by decide)))

theorem ethRx_bad (h : s.portUp p = true) (h4 : p ≠ 4) :
    s.ethRx p raw false sec ns = (s.reachTime (sec * 1000000000 + ns)).count (Reg.ETH_DROP p) 15 0 1 :=
  (ethRx_eq s p raw sec ns false).trans ((if_neg (portUp_open s p h)).trans ((if_pos (by decide)).trans (if_neg h4)))

end

end Sys2Proof.Machine
end

section
/-!
The switch (chapter 13): what the reception of a frame shows.
-/
namespace Sys2Proof.Machine
open Sys2Proof

theorem Agree.eq_switch {s t : State} (h : Agree 34359796225 s t) :
    t = { s with regs := t.regs, supPend := t.supPend, tally := t.tally, buckets := t.buckets, tb := t.tb, eth := t.eth } := h.eq_overlay

/-! ### A frame's addresses and tag -/

theorem apply_ite_ite {α β : Type} {c d : Prop} [Decidable c] [Decidable d] (f : α → β) {x y z : α} {v : β} (hx : f x = v) (hy : f y = v) (hz : f z = v) :
    f (if c then x else if d then y else z) = v := by
  split
  · exact hx
  · split
    · exact hy
    · exact hz

theorem ethParse_src (hsr prp : Bool) (f : Bytes) : (ethParse hsr prp f).src = beAt f 6 6 := apply_ite_ite Eth.src rfl rfl rfl

theorem ethParse_tag (hsr prp : Bool) (f : Bytes) : (ethParse hsr prp f).tag = (ethTag (f.drop 12)).1 := apply_ite_ite Eth.tag rfl rfl rfl

section
variable (s : State)

/-- The VLAN of a frame: its tag's, or the port's for an untagged or priority-tagged one. -/
theorem rxPrio_vid (p : Nat) (f : Eth) : (s.rxPrio p f).2 = match f.tag with
    | some (_, x) => if x = 0 then s.fld (Reg.ETH_PCFG p) 27 16 else x
    | none => s.fld (Reg.ETH_PCFG p) 27 16 := by
  unfold State.rxPrio
  cases f.tag with
  | none => rfl
  | some t =>
    by_cases h : t.2 = 0
    · simp [Option.filter, h]
    · simp [Option.filter, h]

/-! ### The counters -/

theorem rxChecked_rxKeys (p ta : Nat) (raw : Bytes) (red : Nat) (f : Eth) (pcp : Nat) :
    Writes RxKeys s (s.rxChecked p ta raw red f pcp).1 := by
  unfold State.rxChecked
  extract_lets own u
  have hu : Writes RxKeys s u := Writes.ite (fun _ => ringForward_rxKeys s _ _ _ _ _) (fun _ => Writes.refl _ s)
  split
  · exact hu.trans (dupCheck_rxKeys u p f)
  · exact hu

theorem rxServed_rxKeys (p ta : Nat) (f : Eth) (pcp vid members untag : Nat) : Writes RxKeys s (s.rxServed p ta f pcp vid members untag) := by
  unfold State.rxServed
  extract_lets u
  have hu : Writes RxKeys s u := Writes.ite (fun _ => (svFrame_serves s _ _ _).writes) (fun _ => Writes.refl _ s)
  clear_value u
  split
  next v sup h =>
  refine Writes.trans (t := v) ?_ (forward_rxKeys v _ _ _ _ _ _ _ _)
  split at h
  · exact hu.trans (h ▸ (gooseFrame_serves u p ta vid f).writes :)
  · obtain ⟨rfl, -⟩ := Prod.mk.inj h
    exact hu

theorem rxAdmitted_rxKeys (p ta : Nat) (f : Eth) (pcp vid : Nat) : Writes RxKeys s (s.rxAdmitted p ta f pcp vid) := by
  unfold State.rxAdmitted
  split
  · exact Writes.refl _ s
  · exact Writes.ite (fun _ => Writes.refl _ s) (fun _ => rxServed_rxKeys s _ _ _ _ _ _ _)

theorem rxSwitched_rxKeys (p : Nat) (raw : Bytes) (t : Nat) : Writes RxKeys s (s.rxSwitched p raw t) := by
  unfold State.rxSwitched
  extract_lets ta red f u
  have hr : RxKeys (Reg.ETH_REDCNT p) := rxKeys_block
  have halive : Writes RxKeys s (if red ≠ 0 ∧ f.seq.isSome then s.redAlive p else s) :=
    Writes.ite (fun _ => redAlive_rxKeys s p) (fun _ => Writes.refl _ s)
  have hu : Writes RxKeys s u := Writes.ite (fun _ => halive.count _ _ _ hr) (fun _ => halive)
  clear_value u
  generalize u.rxPrio p f = q
  obtain ⟨pcp, vid⟩ := q
  dsimp only
  have hv := hu.trans (rxChecked_rxKeys u p ta raw red f pcp)
  generalize u.rxChecked p ta raw red f pcp = d at hv ⊢
  obtain ⟨v, dup⟩ := d
  exact Writes.ite (fun _ => hv) (fun _ => hv.trans (rxAdmitted_rxKeys v _ _ _ _ _))

theorem rxCounted_ag (p sec ns : Nat) : Agree 32769 s (s.rxCounted p sec ns) := by
  unfold State.rxCounted
  dsimp only
  split
  · exact State.reachTime_ag s _
  · exact (State.reachTime_ag s _).then (State.count_ag _ _ _ _ _) rfl

theorem rxCounted_writes (p sec ns : Nat) : Writes (fun a => ClockKeys a ∨ a = Reg.ETH_RXCNT p) s (s.rxCounted p sec ns) := by
  have h := (reachTime_writes s (sec * 1000000000 + ns)).mono (P := fun a => ClockKeys a ∨ a = Reg.ETH_RXCNT p) fun _ => .inl
  unfold State.rxCounted
  exact Writes.ite (fun _ => h) (fun _ => h.count _ _ _ (.inr rfl))

/-- A register of a port's block. -/
theorem portReg_high {b w i : Nat} (h : 0x20000 ≤ b) : 0x20000 ≤ b + w * i := Nat.le_add_right_of_le h

theorem portReg_quiet {b w i : Nat} (h : 0x20000 ≤ b) : ¬ Signals (b + w * i) := not_signals (Nat.le_add_right_of_le (Nat.le_trans (by decide) h))

theorem rxcnt_notRx {p : Nat} (h : p < 4) : ¬ RxKeys (Reg.ETH_RXCNT p) := by
  unfold RxKeys
  exact (by decide : ∀ p, p < 4 → ¬ (Reg.ETH_RXCNT p % 64 ≠ 16 ∨ 0xA0000000 ≤ Reg.ETH_RXCNT p)) p h

/-- A good frame on a port counts (R461). -/
theorem ethRx_counts (p : Nat) (raw : Bytes) (sec ns : Nat) (h : s.portUp p = true) (h4 : p < 4) : let t := s.ethRx p raw true sec ns
    t.fld (Reg.ETH_RXCNT p) 31 0 = min 4294967295 (s.fld (Reg.ETH_RXCNT p) 31 0 + 1) := by
  intro t
  have ht : t = (s.rxCounted p sec ns).rxSwitched p raw (sec * 1000000000 + ns) := ethRx_good s p raw sec ns h
  have hcount : s.rxCounted p sec ns = (s.reachTime (sec * 1000000000 + ns)).count (Reg.ETH_RXCNT p) 31 0 1 := if_neg (Nat.ne_of_lt h4)
  rw [ht]
  refine ((rxSwitched_rxKeys _ p raw _).fld 31 0 (rxcnt_notRx h4) (portReg_quiet (by decide))).trans ?_
  rw [hcount]
  exact (State.fld_count_same _ _ _ _ _ (by decide) (by decide)).trans
    (congrArg (fun x => min 4294967295 (x + 1)) ((reachTime_writes s _).fld 31 0 (clockKeys_low (portReg_high (by decide))) (portReg_quiet (by decide))))

/-- A frame with a bad FCS is discarded and counted (R461). -/
theorem ethRx_discards (p : Nat) (raw : Bytes) (sec ns : Nat) (h : s.portUp p = true) (h4 : p < 4) : let t := s.ethRx p raw false sec ns
    t.eth = s.eth ∧ t.fld (Reg.ETH_DROP p) 15 0 = min 65535 (s.fld (Reg.ETH_DROP p) 15 0 + 1) ∧ t.rd (Reg.ETH_RXCNT p) = s.rd (Reg.ETH_RXCNT p) := by
  intro t
  have ht : t = (s.reachTime (sec * 1000000000 + ns)).count (Reg.ETH_DROP p) 15 0 1 := ethRx_bad s p raw sec ns h (Nat.ne_of_lt h4)
  have hclock := reachTime_writes s (sec * 1000000000 + ns)
  have hne : Reg.ETH_DROP p ≠ Reg.ETH_RXCNT p := fun e => absurd (Nat.add_right_cancel e) (by decide)
  rw [ht]
  refine ⟨((State.reachTime_ag s _).then (State.count_ag _ _ _ _ _) rfl : Agree 32769 s _).eth rfl, ?_, ?_⟩
  · exact (State.fld_count_same _ _ _ _ _ (by decide) (by decide)).trans
      (congrArg (fun x => min 65535 (x + 1)) (hclock.fld 15 0 (clockKeys_low (portReg_high (by decide))) (portReg_quiet (by decide))))
  · exact (State.rd_count_ne _ _ _ _ _ _ hne).trans (hclock.rd _ (clockKeys_low (portReg_high (by decide))) (portReg_quiet (by decide)))

/-! ### The address learned -/

theorem logPort_single (h : s.eth.red = 0) (p : Nat) : s.logPort p = p := by
  unfold State.logPort State.redundant State.redPort
  rw [h]
  rfl

theorem lookup_congr {s t : State} (h : t.eth.fdb = s.eth.fdb) (hs : s.eth.red = 0) (ht : t.eth.red = 0) (mac : Nat) : t.lookup mac = s.lookup mac := by
  unfold State.lookup
  rw [h]
  exact Option.map_congr fun r _ => (logPort_single t ht r.x).trans (logPort_single s hs r.x).symm

/-! Rows of the address table. -/

section
variable (l : List MacRow) (mac x c n : Nat)

theorem find?_filter_same : (l.filter (fun r => r.mac ≠ mac)).find? (fun r => decide (r.mac = mac)) = none := by
  rw [List.find?_filter]
  exact List.find?_eq_none.2 fun r _ => by simp

theorem find?_filter_ne {m : Nat} (hm : m ≠ mac) :
    (l.filter (fun r => r.mac ≠ mac)).find? (fun r => decide (r.mac = m)) = l.find? (fun r => decide (r.mac = m)) := by
  rw [List.find?_filter]
  congr 1
  funext r
  by_cases e : r.mac = m
  · simp [e, hm]
  · simp [e]

theorem find?_addRow_same :
    (addRow (l.filter (fun r => r.mac ≠ mac)) mac x c n).find? (fun r => decide (r.mac = mac)) = some { mac := mac, x := x, cnt := c } := by
  have hnone (k : List MacRow) (hk : ∀ r ∈ k, r ∈ l.filter (fun r => r.mac ≠ mac)) : k.find? (fun r => decide (r.mac = mac)) = none :=
    List.find?_eq_none.2 fun r hr => List.find?_eq_none.1 (find?_filter_same l mac) r (hk r hr)
  unfold addRow
  rw [List.find?_append, hnone, Option.none_or, List.find?_cons, decide_eq_true rfl]
  intro r hr
  split at hr
  · exact List.mem_of_mem_drop hr
  · exact hr

theorem find?_addRow_ne {m : Nat} (hl : l.length < n) (hm : m ≠ mac) :
    (addRow (l.filter (fun r => r.mac ≠ mac)) mac x c n).find? (fun r => decide (r.mac = m)) = l.find? (fun r => decide (r.mac = m)) := by
  unfold addRow
  rw [if_neg (Nat.not_le.2 ((List.length_filter_le _ _).trans_lt hl)), List.find?_append, find?_filter_ne l mac hm, List.find?_cons,
    decide_eq_false (Ne.symm hm), List.find?_nil, Option.or_none]

end

theorem lookup_learn_same (h : s.eth.red = 0) (mac lp : Nat) : (s.learn mac lp).lookup mac = some lp :=
  (congrArg (Option.map fun r : MacRow => (s.learn mac lp).logPort r.x) (find?_addRow_same s.eth.fdb mac lp s.tb.cnt 4096)).trans
    (congrArg some (logPort_single (s.learn mac lp) h lp))

theorem lookup_learn_ne (h : s.eth.red = 0) (mac lp m : Nat) (hl : s.eth.fdb.length < 4096) (hm : m ≠ mac) : (s.learn mac lp).lookup m = s.lookup m :=
  (congrArg (Option.map fun r : MacRow => (s.learn mac lp).logPort r.x) (find?_addRow_ne s.eth.fdb mac lp s.tb.cnt 4096 hl hm)).trans
    (Option.map_congr fun r _ => (logPort_single (s.learn mac lp) h r.x).trans (logPort_single s h r.x).symm)

end

end Sys2Proof.Machine
end

section
/-!
The switch (chapter 13): a frame admitted outside a redundancy mode, and the head of a queue that leaves.
-/
namespace Sys2Proof.Machine
open Sys2Proof

section
variable (s : State)

/-! ### Reception without redundancy -/

theorem rxRed_single (h : s.eth.red = 0) (p : Nat) : s.rxRed p = 0 := by
  unfold State.rxRed
  rw [h, ite_self]

theorem rxNoted_zero (p : Nat) (f : Eth) : s.rxNoted p 0 f = s := by
  unfold State.rxNoted
  exact (if_neg fun e => absurd e.1 (by decide)).trans (if_neg fun e => e.1 rfl)

theorem rxChecked_zero (p ta : Nat) (raw : Bytes) (f : Eth) (pcp : Nat) : s.rxChecked p ta raw 0 f pcp = (s, false) := by
  unfold State.rxChecked
  exact (if_neg fun e => e.1 rfl).trans (congrArg (·, false) (if_neg (Nat.succ_ne_zero 1).symm))

theorem hsrPrp_single (h : s.eth.red = 0) : s.hsrPrp = false := by
  unfold State.hsrPrp
  rw [h]
  rfl

/-- Without redundancy a counted frame comes straight to its VLAN. -/
theorem rxSwitched_single (h : s.eth.red = 0) (p : Nat) (raw : Bytes) (t : Nat) : s.rxSwitched p raw t =
    s.rxAdmitted p ((t : Int) + s.inAdj p).toNat (ethParse false false raw) (s.rxPrio p (ethParse false false raw)).1
      (s.rxPrio p (ethParse false false raw)).2 := by
  unfold State.rxSwitched
  dsimp only
  rw [rxRed_single s h, hsrPrp_single s h, Bool.and_false, rxNoted_zero, rxChecked_zero]
  rfl

/-! What a frame that is served leaves of the address table. -/

/-- A frame's source is found at its port, and the other addresses where they were. -/
structure Learned (s : State) (mac p : Nat) (t : State) : Prop where
  found : t.lookup mac = some p
  others : s.eth.fdb.length < 4096 → ∀ m, m ≠ mac → t.lookup m = s.lookup m

theorem learn_learned (h : s.eth.red = 0) (mac p : Nat) : Learned s mac p (s.learn mac p) :=
  ⟨lookup_learn_same s h mac p, fun hl m hm => lookup_learn_ne s h mac p m hl hm⟩

theorem Learned.congr {s s' t t' : State} {mac p : Nat} (h : Learned s mac p t) (hs : s.eth.red = 0) (ht : t.eth.red = 0)
    (hs' : s'.eth.fdb = s.eth.fdb) (hr' : s'.eth.red = s.eth.red) (ht' : t'.eth.fdb = t.eth.fdb) (hq' : t'.eth.red = t.eth.red) : Learned s' mac p t' :=
  ⟨(lookup_congr ht' ht (hq'.trans ht) mac).trans h.found, fun hl m hm => (lookup_congr ht' ht (hq'.trans ht) m).trans
    ((h.others (hs' ▸ hl) m hm).trans (lookup_congr hs' hs (hr'.trans hs) m).symm)⟩

theorem forward_learned (h : s.eth.red = 0) (p ta : Nat) (f : Eth) (pcp vid members untag : Nat) (sup : Bool) :
    Learned s f.src p (s.forward p ta f pcp vid members untag sup) := by
  obtain ⟨q, n, hq⟩ : OnlyQueues (s.learn f.src (s.logPort p)) (s.forward p ta f pcp vid members untag sup) := ethSend_onlyQueues _ _ _ _ _ _ _
  have hlearn : Learned s f.src p (s.learn f.src (s.logPort p)) := (logPort_single s h p).symm ▸ learn_learned s h f.src p
  exact hlearn.congr h h rfl rfl (congrArg EthU.fdb hq :) (congrArg EthU.red hq :)

/-- A frame that is served is learned and forwarded; the switch keeps the other addresses. -/
theorem rxServed_learns (h : s.eth.red = 0) (p ta : Nat) (f : Eth) (pcp vid members untag : Nat) :
    Learned s f.src p (s.rxServed p ta f pcp vid members untag) := by
  have key (u : State) (sup : Bool) (hu : OnlyServices s u) : Learned s f.src p (u.forward p ta f pcp vid members untag sup) := by
    obtain ⟨v, g, hv⟩ := hu
    have hred : u.eth.red = s.eth.red := (congrArg EthU.red hv :)
    have hfdb : u.eth.fdb = s.eth.fdb := (congrArg EthU.fdb hv :)
    have hf := forward_learned u (hred.trans h) p ta f pcp vid members untag sup
    exact ⟨hf.found, fun hl m hm => (hf.others (hfdb ▸ hl) m hm).trans
      (lookup_congr hfdb h (hred.trans h) m)⟩
  have hsv : Serves s (if f.et = 0x88BA then s.svFrame p ta f else s) := .ite (svFrame_serves s p ta f) (.refl s)
  unfold State.rxServed
  dsimp only
  generalize (if f.et = 0x88BA then s.svFrame p ta f else s) = a at hsv
  split
  · exact key _ _ (hsv.trans (gooseFrame_serves a p ta vid f)).services
  · exact key a false hsv.services

theorem vlanPorts_congr {s t : State} (h : ∀ a, 0x20280 ≤ a ∨ a = Reg.ETH_CTRL → t.rd a = s.rd a) (vid : Nat) : t.vlanPorts vid = s.vlanPorts vid := by
  have hrd (v : Nat) : t.rd (Reg.ETH_VLAN v) = s.rd (Reg.ETH_VLAN v) := h _ (.inl (by unfold Reg.ETH_VLAN; omega))
  have hof : t.vlanOf vid = s.vlanOf vid := by
    unfold State.vlanOf
    refine List.find?_congr fun v _ => ?_
    unfold State.bit State.fld
    rw [hrd]
  unfold State.vlanPorts
  rw [hof]
  unfold State.bit State.fld
  rw [h _ (.inr rfl)]
  simp only [hrd]

section
variable (p sec ns : Nat)

theorem rd_rxCounted (a : Nat) (h0 : 0x20000 ≤ a) (h1 : a ≠ Reg.ETH_RXCNT p) : (s.rxCounted p sec ns).rd a = s.rd a :=
  (rxCounted_writes s p sec ns).rd a (fun e => e.elim (clockKeys_low h0) h1) (not_signals (Nat.le_trans (by decide) h0))

/-- The VLAN of a counted frame is its tag's or its port's, as it stood before. -/
theorem vid_rxCounted {f g : Eth} (h : g.tag = f.tag) : ((s.rxCounted p sec ns).rxPrio p g).2 = (s.rxPrio p f).2 := by
  have hne : Reg.ETH_PCFG p ≠ Reg.ETH_RXCNT p := fun e => absurd (Nat.add_right_cancel e) (by decide)
  have hcfg : (s.rxCounted p sec ns).fld (Reg.ETH_PCFG p) 27 16 = s.fld (Reg.ETH_PCFG p) 27 16 :=
    congrArg (field · 27 16) (rd_rxCounted s p sec ns _ (portReg_high (by decide)) hne)
  rw [rxPrio_vid, rxPrio_vid, h, hcfg]

theorem vlanPorts_rxCounted (hp : p < 5) (vid : Nat) : (s.rxCounted p sec ns).vlanPorts vid = s.vlanPorts vid := by
  have hlow : Reg.ETH_CTRL < Reg.ETH_RXCNT p ∧ Reg.ETH_RXCNT p < 0x20280 :=
    (by decide : ∀ p, p < 5 → Reg.ETH_CTRL < Reg.ETH_RXCNT p ∧ Reg.ETH_RXCNT p < 0x20280) p hp
  refine vlanPorts_congr (fun a ha => ha.elim (fun h => ?_) fun h => ?_) vid
  · exact rd_rxCounted s p sec ns a (Nat.le_trans (by decide) h) (Nat.ne_of_gt (Nat.lt_of_lt_of_le hlow.2 h))
  · exact rd_rxCounted s p sec ns a (h ▸ by decide) (h ▸ Nat.ne_of_lt hlow.1)

end

theorem rxAdmitted_some (p ta : Nat) (f : Eth) (pcp vid members untag : Nat) (h : s.vlanPorts vid = some (members, untag)) :
    s.rxAdmitted p ta f pcp vid = if !members.testBit p then s else s.rxServed p ta f pcp vid members untag := by
  unfold State.rxAdmitted
  rw [h]

section
variable (p : Nat) (hp : p < 5) (raw : Bytes) (sec ns : Nat) (prp : Bool) (members untag : Nat) (hup : s.portUp p = true) (hred : s.eth.red = 0)
  (hv : s.vlanPorts (s.rxPrio p (ethParse false prp raw)).2 = some (members, untag))
include hp hup hred hv

/-- A good frame on a port outside a redundancy mode comes to its VLAN's ports (R437, R438). -/
theorem ethRx_single : ∃ ta pcp vid, s.ethRx p raw true sec ns = if !members.testBit p then s.rxCounted p sec ns else
    (s.rxCounted p sec ns).rxServed p ta (ethParse false false raw) pcp vid members untag := by
  have hredu : (s.rxCounted p sec ns).eth.red = 0 := (congrArg EthU.red ((rxCounted_ag s p sec ns).eth rfl)).trans hred
  have htag : (ethParse false false raw).tag = (ethParse false prp raw).tag := (ethParse_tag _ _ raw).trans (ethParse_tag _ _ raw).symm
  have hports := (congrArg (s.rxCounted p sec ns).vlanPorts (vid_rxCounted s p sec ns htag)).trans ((vlanPorts_rxCounted s p sec ns hp _).trans hv)
  exact ⟨_, _, _, ((ethRx_good s p raw sec ns hup).trans (rxSwitched_single _ hredu p raw _)).trans (rxAdmitted_some _ _ _ _ _ _ _ _ hports)⟩

theorem ethRx_single_in (hm : members.testBit p = true) : Learned s (ethParse false prp raw).src p (s.ethRx p raw true sec ns) := by
  have heth : (s.rxCounted p sec ns).eth = s.eth := (rxCounted_ag s p sec ns).eth rfl
  have hredu : (s.rxCounted p sec ns).eth.red = 0 := (congrArg EthU.red heth).trans hred
  obtain ⟨ta, pcp, vid, ht⟩ := ethRx_single s p hp raw sec ns prp members untag hup hred hv
  have hl := rxServed_learns _ hredu p ta (ethParse false false raw) pcp vid members untag
  rw [ht, hm, show (ethParse false prp raw).src = (ethParse false false raw).src from (ethParse_src _ _ raw).trans (ethParse_src _ _ raw).symm]
  exact ⟨hl.found, fun h m hne => (hl.others (heth ▸ h) m hne).trans (lookup_congr (congrArg EthU.fdb heth) hred hredu m)⟩

theorem ethRx_single_out (hm : members.testBit p = false) : (s.ethRx p raw true sec ns).eth = s.eth := by
  obtain ⟨ta, pcp, vid, ht⟩ := ethRx_single s p hp raw sec ns prp members untag hup hred hv
  rw [ht, hm]
  exact (rxCounted_ag s p sec ns).eth rfl

end

end

end Sys2Proof.Machine
end

section
/-!
The switch (chapter 13): the head of a port's highest queue leaves.
-/
namespace Sys2Proof.Machine
open Sys2Proof

/-! ### What PTP and GOOSE do as a frame leaves -/

/-- The registers a frame's stamp and correction write (R441, R443). -/
def StampKeys (a : Nat) : Prop := a = Reg.ETH_PTP_CNT ∨ a = Reg.ETH_TXTS_STAT

/-- From s to t nothing of the switch changes but its follow-ups, its stamps and its publications, and no register but those of a stamp. -/
structure Stamped (s t : State) : Prop where
  eth : ∃ a b c, t.eth = { s.eth with fups := a, txts := b, gpub := c }
  writes : Writes StampKeys s t

section
variable {s t u : State}

theorem Stamped.refl (s : State) : Stamped s s := ⟨⟨s.eth.fups, s.eth.txts, s.eth.gpub, rfl⟩, .refl _ s⟩

theorem Stamped.trans (h : Stamped s t) (k : Stamped t u) : Stamped s u := by
  obtain ⟨a, b, c, hs⟩ := h.eth
  obtain ⟨a', b', c', ht⟩ := k.eth
  exact ⟨⟨a', b', c', ht.trans (congrArg (fun e : EthU => { e with fups := a', txts := b', gpub := c' }) hs)⟩, h.writes.trans k.writes⟩

theorem Stamped.queues (h : Stamped s t) : t.eth.queues = s.eth.queues := by
  obtain ⟨a, b, c, hs⟩ := h.eth
  exact (congrArg EthU.queues hs :)

theorem Stamped.wire (h : Stamped s t) : t.eth.wire = s.eth.wire := by
  obtain ⟨a, b, c, hs⟩ := h.eth
  exact (congrArg EthU.wire hs :)

theorem Stamped.iteFst {c : Prop} [Decidable c] {x y : State × Bytes} (hx : Stamped s x.1) (hy : Stamped s y.1) : Stamped s (if c then x else y).1 := by
  split
  · exact hx
  · exact hy

theorem Stamped.of_agree {m : Nat} (h : Stamped s t) (k : Agree m t u) (hm : m.testBit 35 = false) (hw : Writes StampKeys t u) : Stamped s u :=
  h.trans ⟨⟨t.eth.fups, t.eth.txts, t.eth.gpub, k.eth hm⟩, hw⟩

theorem Stamped.count (h : Stamped s t) {a : Nat} (hi lo n : Nat) (ha : StampKeys a) : Stamped s (t.count a hi lo n) :=
  h.of_agree (State.count_ag _ _ _ _ _) rfl ((Writes.refl _ t).count _ _ _ ha)

theorem Stamped.put (h : Stamped s t) {a : Nat} (hi lo n : Nat) (ha : StampKeys a) : Stamped s (t.put a hi lo n) :=
  h.of_agree (State.put_ag _ _ _ _ _) rfl ((Writes.refl _ t).put _ _ _ ha)

theorem Stamped.irq (h : Stamped s t) (n : Nat) : Stamped s (t.irq n) := h.of_agree (State.irq_ag _ _) rfl ((Writes.refl _ t).irq _)

theorem Stamped.log (h : Stamped s t) (code sp p0 p1 : Nat) : Stamped s (t.log code sp p0 p1) :=
  h.of_agree (State.log_ag _ _ _ _ _) rfl ((Writes.refl _ t).log _ _ _ _)

end

section
variable (s : State)

theorem fups_stamped (g : EthU → List FollowUp) : Stamped s (s.ethMod fun e => { e with fups := g e }) :=
  ⟨⟨_, _, _, rfl⟩, (Writes.refl _ s).ethMod _⟩

theorem corrPatch_stamped (f : Bytes) (off kind : Nat) (add : Int) : Stamped s (s.corrPatch f off kind add).1 := by
  unfold State.corrPatch
  dsimp only
  split
  · exact (Stamped.refl s).count _ _ _ (.inl rfl)
  · exact .refl s

theorem txPush_stamped (x : TxStamp) : Stamped s (s.txPush x) := by
  unfold State.txPush
  dsimp only
  split
  · exact ((Stamped.refl s).count _ _ _ (.inr rfl)).log _ _ _ _
  · have htaken : Stamped s (s.ethMod fun e => { e with txts := e.txts ++ [x] }) := ⟨⟨_, _, _, rfl⟩, (Writes.refl _ s).ethMod _⟩
    split
    · exact (htaken.put _ _ _ (.inr rfl)).irq _
    · exact htaken.put _ _ _ (.inr rfl)

theorem gpubBegun_stamped (f : EFrame) : Stamped s (s.gpubBegun f) := by
  unfold State.gpubBegun when
  split
  · split
    · exact ⟨⟨_, _, _, rfl⟩, (Writes.refl _ s).ethMod _⟩
    · exact .refl s
  · exact .refl s

theorem ptpEgress_plain (p sec ns : Nat) (f : EFrame) (h : ptpAt f.bytes = none) : s.ptpEgress p sec ns f = (s, f.bytes) := by
  unfold State.ptpEgress
  rw [h]

theorem ptpEgress_stamped (p sec ns : Nat) (f : EFrame) : Stamped s (s.ptpEgress p sec ns f).1 := by
  unfold State.ptpEgress
  split
  · exact .refl s
  · extract_lets mt twoStep seq ident c kept new
    refine .iteFst (.iteFst (.refl s) ?_) (.iteFst (.refl s) (.iteFst (.iteFst (fups_stamped s fun _ => kept ++ [new]) (corrPatch_stamped s _ _ _ c))
      (.iteFst ?_ (.refl s))))
    · exact .iteFst (txPush_stamped s _) (.refl s)
    · split
      · exact (fups_stamped s fun e => e.fups.filter _).trans (corrPatch_stamped _ _ _ _ _)
      · exact (Stamped.refl s).count _ _ _ (.inl rfl)

/-! ### The head of a queue -/

theorem ethEgress_down (p sec ns : Nat) (h : s.portUp p = false) : s.ethEgress p sec ns = s := by
  exact if_pos (by rw [h]; rfl)

theorem ethEgress_empty (p sec ns : Nat) (h : s.ethHeadOf p = none) : s.ethEgress p sec ns = s := by
  unfold State.ethEgress
  rw [h]
  exact ite_self s

/-- The head has left its queue at the time of its first octet. -/
def State.txTaken (s : State) (p q sec ns : Nat) : State :=
  let s := s.reachTime (sec * 1000000000 + ns)
  s.setEthQ p q (s.ethQ p q).tail

/-- What goes out, and the state that has stamped it. -/
def State.txStamped (s : State) (p sec ns : Nat) (f : EFrame) : State × Bytes :=
  if p = 4 then (s, f.bytes) else s.ptpEgress p sec ns f

/-- The octets are on the wire. -/
def State.txSent (s : State) (p : Nat) (f : EFrame) (b : Bytes) : State :=
  (s.ethMod (fun e => { e with wire := SMap.set (fun _ => []) e.wire p b })).gpubBegun f

/-- The frame has been counted, or its stamp passed on to the supervisors. -/
def State.txCounted (s : State) (p : Nat) (f : EFrame) : State :=
  if p = 4 then s.ethMod (fun e => { e with supStamp := supStampOf f }) else s.count (Reg.ETH_TXCNT p) 31 0 1

theorem ethEgress_eq (p sec ns q : Nat) (f : EFrame) (hup : s.portUp p = true) (hf : s.ethHeadOf p = some (q, f)) :
    s.ethEgress p sec ns = (((s.txTaken p q sec ns).txStamped p sec ns f).1.txSent p f ((s.txTaken p q sec ns).txStamped p sec ns f).2).txCounted p f := by
  unfold State.ethEgress
  rw [hf]
  exact if_neg (portUp_open s p hup)

theorem txStamped_plain (p sec ns : Nat) (f : EFrame) (h : ptpAt f.bytes = none ∨ p = 4) : s.txStamped p sec ns f = (s, f.bytes) := by
  unfold State.txStamped
  split
  · rfl
  · exact ptpEgress_plain s p sec ns f (h.resolve_right ‹_›)

theorem txStamped_stamped (p sec ns : Nat) (f : EFrame) : Stamped s (s.txStamped p sec ns f).1 := by
  unfold State.txStamped
  split
  · exact .refl s
  · exact ptpEgress_stamped s p sec ns f

theorem txTaken_queues (p q sec ns : Nat) :
    (s.txTaken p q sec ns).eth.queues = SMap.set (fun _ => []) s.eth.queues (8 * p + q) (s.ethQ p q).tail :=
  congrArg (fun e : EthU => SMap.set (fun _ => []) e.queues (8 * p + q) (SMap.get (fun _ => []) e.queues (8 * p + q)).tail)
    ((State.reachTime_ag s (sec * 1000000000 + ns)).eth rfl)

theorem txSent_stamped (p : Nat) (f : EFrame) (b : Bytes) :
    Stamped (s.ethMod fun e => { e with wire := SMap.set (fun _ => []) e.wire p b }) (s.txSent p f b) := gpubBegun_stamped _ f

theorem txSent_wire (p : Nat) (f : EFrame) (b : Bytes) : SMap.get (fun _ => []) (s.txSent p f b).eth.wire p = b :=
  (congrArg (SMap.get (fun _ => []) · p) (txSent_stamped s p f b).wire).trans ((SMap.get_set _ _ _ _ _).trans (if_pos rfl))

theorem txCounted_eth (p : Nat) (f : EFrame) : (s.txCounted p f).eth.queues = s.eth.queues ∧ (s.txCounted p f).eth.wire = s.eth.wire := by
  unfold State.txCounted
  split
  · exact ⟨rfl, rfl⟩
  · have h := (State.count_ag s (Reg.ETH_TXCNT p) 31 0 1).eth rfl
    exact ⟨congrArg EthU.queues h, congrArg EthU.wire h⟩

theorem txcnt_notStamp {p : Nat} (h : p < 5) : ¬ StampKeys (Reg.ETH_TXCNT p) := by
  unfold StampKeys
  exact (by decide : ∀ p, p < 5 → ¬ (Reg.ETH_TXCNT p = Reg.ETH_PTP_CNT ∨ Reg.ETH_TXCNT p = Reg.ETH_TXTS_STAT)) p h

/-! The head of a port's highest queue leaves (R439 to R441, R461). -/

section
variable (p sec ns q : Nat) (f : EFrame) (hup : s.portUp p = true) (hf : s.ethHeadOf p = some (q, f))
include hup hf

theorem ethEgress_queues : (s.ethEgress p sec ns).eth.queues = SMap.set (fun _ => []) s.eth.queues (8 * p + q) (s.ethQ p q).tail := by
  rw [ethEgress_eq s p sec ns q f hup hf]
  exact (txCounted_eth _ p f).1.trans ((txSent_stamped _ p f _).queues.trans ((txStamped_stamped _ p sec ns f).queues.trans (txTaken_queues s p q sec ns)))

theorem ethEgress_tail : (s.ethEgress p sec ns).ethQ p q = (s.ethQ p q).tail :=
  (congrArg (SMap.get (fun _ => []) · (8 * p + q)) (ethEgress_queues s p sec ns q f hup hf)).trans ((SMap.get_set _ _ _ _ _).trans (if_pos rfl))

theorem ethEgress_others (n : Nat) (hn : n ≠ 8 * p + q) :
    SMap.get (fun _ => []) (s.ethEgress p sec ns).eth.queues n = SMap.get (fun _ => []) s.eth.queues n :=
  (congrArg (SMap.get (fun _ => []) · n) (ethEgress_queues s p sec ns q f hup hf)).trans ((SMap.get_set _ _ _ _ _).trans (if_neg (Ne.symm hn)))

theorem ethEgress_wire (h : ptpAt f.bytes = none ∨ p = 4) : SMap.get (fun _ => []) (s.ethEgress p sec ns).eth.wire p = f.bytes := by
  rw [ethEgress_eq s p sec ns q f hup hf, txStamped_plain _ p sec ns f h]
  exact (congrArg (SMap.get (fun _ => []) · p) (txCounted_eth _ p f).2).trans (txSent_wire _ p f _)

theorem ethEgress_counts (hp : p < 5) (h4 : p ≠ 4) :
    (s.ethEgress p sec ns).fld (Reg.ETH_TXCNT p) 31 0 = min 4294967295 (s.fld (Reg.ETH_TXCNT p) 31 0 + 1) := by
  have hkey := txcnt_notStamp hp
  have hquiet : ¬ Signals (Reg.ETH_TXCNT p) := portReg_quiet (by decide)
  rw [ethEgress_eq s p sec ns q f hup hf]
  refine (congrArg (State.fld · (Reg.ETH_TXCNT p) 31 0) (if_neg h4)).trans ((State.fld_count_same _ _ _ _ _ (by decide) (by decide)).trans ?_)
  refine congrArg (fun x => min 4294967295 (x + 1)) (((txSent_stamped _ p f _).writes.fld 31 0 hkey hquiet).trans ?_)
  exact ((txStamped_stamped _ p sec ns f).writes.fld 31 0 hkey hquiet).trans
    ((reachTime_writes s (sec * 1000000000 + ns)).fld 31 0 (clockKeys_low (portReg_high (by decide))) hquiet)

end

end

end Sys2Proof.Machine
end

section
/-!
The switch (chapter 13): supervision, ageing, links, paths, settings and the stamp FIFO, and the statement about the switch.
-/
namespace Sys2Proof.Machine
open Sys2Proof

theorem Agree.eq_regs_tb_eth {s t : State} (h : Agree 34359771137 s t) : t = { s with regs := t.regs, tb := t.tb, eth := t.eth } := h.eq_overlay
theorem Agree.eq_signal_eth {s t : State} (h : Agree 34359763457 s t) :
    t = { s with regs := t.regs, supPend := t.supPend, tally := t.tally, buckets := t.buckets, eth := t.eth } := h.eq_overlay
theorem Agree.eq_signal_tb {s t : State} (h : Agree 57857 s t) :
    t = { s with regs := t.regs, supPend := t.supPend, tally := t.tally, buckets := t.buckets, tb := t.tb } := h.eq_overlay
theorem Agree.eq_rsp_free {s t : State} (h : Agree 562949953421328 s t) : t = { s with rsp := t.rsp, freeCtr := t.freeCtr } := h.eq_overlay
theorem Agree.eq_txts {s t : State} (h : Agree 562984313159729 s t) :
    t = { s with regs := t.regs, rsp := t.rsp, snaps := t.snaps, eth := t.eth, freeCtr := t.freeCtr } := h.eq_overlay

theorem Writes.onlyRegsSig {xs : List Nat} {s t : State} (h : Writes (· ∈ xs) s t) : OnlyRegsSig s t xs := h.rd

section
variable (s : State)

/-! ### Supervision frames (R433) -/

theorem reachCnt_cnt (n : Nat) : (s.reachCnt n).tb.cnt = max s.tb.cnt n := (cnt_pass s (n - s.tb.cnt)).trans add_tsub_eq_max

theorem ethPut_onlyRegs {t : State} {xs : List Nat} (h : OnlyRegs s t xs) (p pcp : Nat) (f : EFrame) (hp : Reg.ETH_DROP p ∈ xs) :
    OnlyRegs s (t.ethPut p pcp f) xs := by
  unfold State.ethPut
  split
  · exact h
  · dsimp only
    split
    · split
      · exact h
      · exact h.wr _ hp
    · exact h.of_agree (State.setEthQ_ag _ _ _ _) rfl

/-- The physical ports of the redundant ports are those two. -/
theorem drop_physPorts {lp p : Nat} (h : lp < 2) (hp : p ∈ s.physPorts lp) : Reg.ETH_DROP p ∈ [Reg.ETH_DROP 0, Reg.ETH_DROP 1] := by
  have htwo : p < 2 := by
    unfold State.physPorts at hp
    split at hp
    · exact (by decide : ∀ p ∈ [0, 1], p < 2) p hp
    · exact (List.mem_singleton.1 hp).trans_lt h
  exact (by decide : ∀ p, p < 2 → Reg.ETH_DROP p ∈ [Reg.ETH_DROP 0, Reg.ETH_DROP 1]) p htwo

theorem ethSend_onlyRegs (f : Eth) (outs : List Nat) (untag pcp vid : Nat) (src : EFrame) (hl : ∀ p ∈ outs, p < 2) :
    OnlyRegs s (s.ethSend f outs untag pcp vid src) [Reg.ETH_DROP 0, Reg.ETH_DROP 1] := by
  unfold State.ethSend
  extract_lets seq u
  have hu : OnlyRegs s u [Reg.ETH_DROP 0, Reg.ETH_DROP 1] := by
    unfold u when
    split
    · exact (OnlyRegs.refl s _).of_agree (State.ethMod_ag s _) rfl
    · exact .refl s _
  clear_value u
  refine List.foldlRecOn (motive := fun t => OnlyRegs s t [Reg.ETH_DROP 0, Reg.ETH_DROP 1]) outs _ hu fun u hu lp hlp => ?_
  exact List.foldlRecOn (motive := fun t => OnlyRegs s t [Reg.ETH_DROP 0, Reg.ETH_DROP 1]) (u.physPorts lp) _ hu
    fun v hv p hp => ethPut_onlyRegs s hv _ _ _ (drop_physPorts u (hl lp hlp) hp)

/-- A supervision frame is numbered and timed. -/
def State.supMarked (s : State) : State := s.ethMod (fun e => { e with supSeq := (e.supSeq + 1) % 65536, supAt := s.tb.cnt })

/-- The time at which a supervision frame falls due has come. -/
def State.supTimed (s : State) : State := s.reachCnt (s.eth.supAt + s.fld Reg.ETH_RED_CFG 31 16 * 250000)

theorem prpSupervision_off (h : s.eth.red ≠ 1 ∨ s.netOn = false) : s.prpSupervision = s := if_pos (h.imp_right fun e => by rw [e]; rfl)

/-- Its ports are those of the redundancy. -/
def State.supPorts (s : State) : List Nat := if s.redundant then [0] else idxWhere 2 s.redPort

theorem supPorts_lt (p : Nat) (hp : p ∈ s.supPorts) : p < 2 := by
  unfold State.supPorts at hp
  split at hp
  · exact (List.mem_singleton.1 hp).trans_lt (by decide)
  · exact List.mem_range.1 (List.mem_filter.1 hp).1

theorem prpSupervision_sends (h : s.eth.red = 1) (hn : s.netOn = true) :
    ∃ f src, s.prpSupervision = s.supTimed.supMarked.ethSend f s.supTimed.supMarked.supPorts 31 0 0 src :=
  ⟨_, _, if_neg fun e => e.elim (· h) fun e => absurd (hn ▸ e) (by decide)⟩

section
variable (f : Eth) (outs : List Nat) (src : EFrame)

theorem ethSend_supMarked : ∃ q n, (s.supMarked.ethSend f outs 31 0 0 src).eth = { s.supMarked.eth with queues := q, seq := n } :=
  ethSend_onlyQueues _ f outs 31 0 0 src

theorem supSeq_supMarked : (s.supMarked.ethSend f outs 31 0 0 src).eth.supSeq = (s.eth.supSeq + 1) % 65536 := by
  obtain ⟨q, n, hq⟩ := ethSend_supMarked s f outs src
  exact (congrArg EthU.supSeq hq :)

theorem fdb_supMarked : (s.supMarked.ethSend f outs 31 0 0 src).eth.fdb = s.eth.fdb := by
  obtain ⟨q, n, hq⟩ := ethSend_supMarked s f outs src
  exact (congrArg EthU.fdb hq :)

theorem supAt_supMarked : (s.supMarked.ethSend f outs 31 0 0 src).eth.supAt = s.tb.cnt := by
  obtain ⟨q, n, hq⟩ := ethSend_supMarked s f outs src
  exact (congrArg EthU.supAt hq :)

theorem tb_supMarked : (s.supMarked.ethSend f outs 31 0 0 src).tb = s.tb := (State.ethSend_ag _ f outs 31 0 0 src).tb rfl

theorem supMarked_onlyRegs (hl : ∀ p ∈ outs, p < 2) :
    OnlyRegs s (s.supMarked.ethSend f outs 31 0 0 src) [Reg.ETH_DROP 0, Reg.ETH_DROP 1] :=
  fun a ha => (ethSend_onlyRegs s.supMarked f outs 31 0 0 src hl a ha).trans ((State.ethMod_ag s _).rd a rfl)

end

theorem OnlyRegs.append {s t u : State} {xs ys : List Nat} (h : OnlyRegs s t ys) (k : OnlyRegs t u xs) : OnlyRegs s u (xs ++ ys) :=
  fun a ha => (k a fun e => ha (List.mem_append_left _ e)).trans (h a fun e => ha (List.mem_append_right _ e))

theorem prpSupervision_shows (h : s.eth.red = 1) (hn : s.netOn = true) : let t := s.prpSupervision
    t.eth.supSeq = (s.eth.supSeq + 1) % 65536 ∧ t.eth.fdb = s.eth.fdb ∧
    t.tb.cnt = max s.tb.cnt (s.eth.supAt + s.fld Reg.ETH_RED_CFG 31 16 * 250000) ∧ t.eth.supAt = t.tb.cnt ∧
    OnlyRegs s t [Reg.ETH_DROP 0, Reg.ETH_DROP 1, Reg.PAIR_DRILL_AGE, Reg.TB_RTC_SEC_LO, Reg.TB_RTC_SEC_HI] ∧
    t = { s with regs := t.regs, tb := t.tb, eth := t.eth } := by
  have hag := (State.prpSupervision_ag s).eq_regs_tb_eth
  obtain ⟨f, src, ht⟩ := prpSupervision_sends s h hn
  have heth : s.supTimed.eth = s.eth := (State.reachCnt_ag s _).eth rfl
  have hcnt : s.supTimed.tb.cnt = max s.tb.cnt (s.eth.supAt + s.fld Reg.ETH_RED_CFG 31 16 * 250000) := reachCnt_cnt s _
  have hclock : OnlyRegs s s.supTimed [Reg.PAIR_DRILL_AGE, Reg.TB_RTC_SEC_LO, Reg.TB_RTC_SEC_HI] := pass_onlyRegs s _
  rw [ht] at hag ⊢
  generalize s.supTimed = u at heth hcnt hclock hag
  have htb := tb_supMarked u f u.supMarked.supPorts src
  exact ⟨(supSeq_supMarked _ f _ src).trans (congrArg (fun e : EthU => (e.supSeq + 1) % 65536) heth), (fdb_supMarked _ f _ src).trans (congrArg EthU.fdb heth),
    (congrArg TimeBase.cnt htb).trans hcnt, (supAt_supMarked _ f _ src).trans (congrArg TimeBase.cnt htb).symm,
    OnlyRegs.append hclock (supMarked_onlyRegs u f _ src (supPorts_lt _)), hag⟩

/-! ### Addresses (R437) -/

theorem ageing_unknown (mac : Nat) (h : s.lookup mac = none) : s.ageing mac = s := by
  have hnone : s.eth.fdb.find? (fun r => r.mac = mac) = none := Option.map_eq_none_iff.1 h
  unfold State.ageing
  rw [hnone]

section
variable {s t : State} (hred : t.eth.red = s.eth.red) (h : ∀ a, 0x20000 ≤ a → t.rd a = s.rd a)
include h

theorem portSlow_congr (p : Nat) : t.portSlow p = s.portSlow p := by
  unfold State.portSlow State.portMode State.bit State.fld
  rw [h (Reg.ETH_PCFG p) (portReg_high (by decide)), h (Reg.ETH_PSTAT p) (portReg_high (by decide)), h Reg.ETH_STAT (by decide)]

include hred

theorem redPort_congr (p : Nat) : t.redPort p = s.redPort p := by
  unfold State.redPort
  rw [hred, portSlow_congr h]

theorem logPort_congr (p : Nat) : t.logPort p = s.logPort p := by
  unfold State.logPort State.redundant
  rw [redPort_congr hred h, redPort_congr hred h]

end

/-- An address is dropped from the table. -/
def State.forgotten (s : State) (mac : Nat) : State := s.ethMod (fun e => { e with fdb := e.fdb.filter (fun x => x.mac ≠ mac) })

theorem logPort_forgotten (mac p : Nat) : (s.forgotten mac).logPort p = s.logPort p := logPort_congr rfl (fun _ _ => rfl) p

theorem lookup_forgotten_same (mac : Nat) : (s.forgotten mac).lookup mac = none := Option.map_eq_none_iff.2 (find?_filter_same s.eth.fdb mac)

theorem lookup_forgotten_ne (mac m : Nat) (hm : m ≠ mac) : (s.forgotten mac).lookup m = s.lookup m :=
  (congrArg (Option.map fun r : MacRow => (s.forgotten mac).logPort r.x) (find?_filter_ne s.eth.fdb mac hm)).trans
    (Option.map_congr fun x _ => logPort_forgotten s mac x.x)

theorem lookup_reachCnt (n m : Nat) : (s.reachCnt n).lookup m = s.lookup m := by
  have heth : (s.reachCnt n).eth = s.eth := (State.reachCnt_ag s n).eth rfl
  have hw : Writes ClockKeys s (s.reachCnt n) := pass_writes s _
  have hrd (a : Nat) (ha : 0x20000 ≤ a) : (s.reachCnt n).rd a = s.rd a := hw.rd a (clockKeys_low ha) (not_signals (Nat.le_trans (by decide) ha))
  exact (congrArg (fun e : EthU => (e.fdb.find? fun r => r.mac = m).map fun r => (s.reachCnt n).logPort r.x) heth).trans
    (Option.map_congr fun x _ => logPort_congr (congrArg EthU.red heth) hrd x.x)

theorem ageing_forgets (mac d : Nat) (h : s.lookup mac = some d) : (s.ageing mac).lookup mac = none ∧ ∀ m, m ≠ mac → (s.ageing mac).lookup m = s.lookup m := by
  obtain ⟨row, hrow, -⟩ := Option.map_eq_some_iff.1 h
  have ht : s.ageing mac = (s.reachCnt (row.cnt + 75000000000)).forgotten mac := by
    unfold State.ageing
    rw [hrow]
    rfl
  rw [ht]
  exact ⟨lookup_forgotten_same _ mac, fun m hm => (lookup_forgotten_ne _ mac m hm).trans (lookup_reachCnt s _ m)⟩

/-! ### Conditions of the switch -/

section
variable (i p code sp p0 p1 : Nat)

/-- A condition of the switch sets its flag and its interrupt. -/
theorem flag_flagged (hi : i < 32) : ((s.ethFlag i p).log code sp p0 p1).bit Reg.ETH_ISTAT i = true :=
  (congrArg (bitAt · i) (rd_signalled (s.putBit Reg.ETH_ISTAT i true) _ _ _ _ _ (by decide))).trans
    ((State.bit_putBit _ _ _ _ _ _ hi).trans (if_pos ⟨rfl, rfl⟩))

theorem int_flagged (hp : p < 8) : ((s.ethFlag i p).log code sp p0 p1).bit Reg.INT_STAT_LO (24 + p) = true :=
  (State.bit_log _ _ _ _ _ _ _ (.inl (by decide))).trans (State.bit_irq_lo _ _ _ (.inl ⟨rfl, Nat.add_lt_add_left hp 24⟩))

theorem rd_flagged (a : Nat) (h : Reg.ETH_ISTAT ≠ a) (ha : 0x10000 ≤ a) : ((s.ethFlag i p).log code sp p0 p1).rd a = s.rd a :=
  (rd_signalled (s.putBit Reg.ETH_ISTAT i true) _ _ _ _ _ ha).trans (State.rd_putBit_ne _ _ _ _ _ h)

end

/-! ### Links and paths (R430, R467) -/

/-- The registers of a link that has changed. -/
def State.linkSet (s : State) (p : Nat) (up : Bool) (speed : Nat) : State :=
  ((s.putBit Reg.ETH_STAT p up).putBit (Reg.ETH_PSTAT p) 0 up).put (Reg.ETH_PSTAT p) 2 1 speed

def State.linkShown (s : State) (p : Nat) (up : Bool) (speed : Nat) : State :=
  ((s.linkSet p up speed).ethFlag (12 + p) p).log 0x1D0 p (b2n up + 2 * speed) 0

/-- Whether a link that comes up or goes down is then up. -/
def State.linkOn (s : State) (p : Nat) (up : Bool) : Bool := up && s.netOn && decide (s.portMode p ≠ 0)

theorem ethLink_same (p : Nat) (up : Bool) (partner : Nat) (h : s.bit Reg.ETH_STAT p = s.linkOn p up) : s.ethLink p up partner = s := if_pos h

/-- A link's change shows in the registers before the paths follow. -/
theorem ethLink_after (p : Nat) (up : Bool) (partner : Nat) (h : s.bit Reg.ETH_STAT p ≠ s.linkOn p up) :
    Agree 34359738368 (s.linkShown p (s.linkOn p up) (portSpeed (s.portMode p) partner)) (s.ethLink p up partner) := by
  have heq : s.ethLink p up partner = if s.linkOn p up then s.linkShown p (s.linkOn p up) (portSpeed (s.portMode p) partner)
      else (s.linkShown p (s.linkOn p up) (portSpeed (s.portMode p) partner)).markPaths s := if_neg h
  exact heq ▸ .ite (fun _ => .refl _ _) fun _ => State.markPaths_ag _ s

theorem portSpeed_lt (mode : Nat) {partner : Nat} (h : partner < 3) : portSpeed mode partner < 4 := by
  unfold portSpeed
  split
  · decide
  · split
    · decide
    · split
      · decide
      · exact Nat.lt_succ_of_lt h

/-- A port's status word is none of the switch's own. -/
theorem pstat_ne {p : Nat} (h : p < 4) : Reg.ETH_PSTAT p ≠ Reg.ETH_STAT ∧ Reg.ETH_ISTAT ≠ Reg.ETH_PSTAT p :=
  (by decide : ∀ p, p < 4 → Reg.ETH_PSTAT p ≠ Reg.ETH_STAT ∧ Reg.ETH_ISTAT ≠ Reg.ETH_PSTAT p) p h

section
variable {p : Nat} (hp : p < 4) (up : Bool) (speed : Nat)
include hp

theorem stat_linkShown : (s.linkShown p up speed).bit Reg.ETH_STAT p = up := by
  refine (congrArg (bitAt · p) (rd_flagged _ _ _ _ _ _ _ _ (by decide) (by decide))).trans ?_
  refine (State.bit_put_apart _ _ _ _ _ _ _ (by decide) (by decide) (.inl (pstat_ne hp).1)).trans ?_
  exact ((State.bit_putBit _ _ _ _ _ _ (by decide)).trans (if_neg fun e => (pstat_ne hp).1 e.1)).trans
    ((State.bit_putBit _ _ _ _ _ _ (Nat.lt_trans hp (by decide))).trans (if_pos ⟨rfl, rfl⟩))

theorem pstat_linkShown : (s.linkShown p up speed).rd (Reg.ETH_PSTAT p) = (s.linkSet p up speed).rd (Reg.ETH_PSTAT p) :=
  rd_flagged _ _ _ _ _ _ _ _ (pstat_ne hp).2 (Nat.le_trans (by decide) (portReg_high (b := 0x20104) (w := 0x40) (i := p) (by decide)))

theorem up_linkShown : (s.linkShown p up speed).bit (Reg.ETH_PSTAT p) 0 = up :=
  ((congrArg (bitAt · 0) (pstat_linkShown s hp up speed)).trans
    (State.bit_put_apart _ _ _ _ _ _ _ (by decide) (by decide) (.inr (.inl (by decide))))).trans
    ((State.bit_putBit _ _ _ _ _ _ (by decide)).trans (if_pos ⟨rfl, rfl⟩))

theorem speed_linkShown (hs : speed < 4) : (s.linkShown p up speed).fld (Reg.ETH_PSTAT p) 2 1 = speed :=
  ((congrArg (field · 2 1) (pstat_linkShown s hp up speed)).trans (State.fld_put_same _ _ _ _ _ (by decide) (by decide))).trans (Nat.mod_eq_of_lt hs)

end

theorem linkShown_writes (p : Nat) (up : Bool) (speed : Nat) :
    Writes (· ∈ [Reg.ETH_STAT, Reg.ETH_PSTAT p, Reg.ETH_ISTAT]) s (s.linkShown p up speed) :=
  (((((Writes.refl _ s).putBit _ _ (.head _)).putBit _ _ (.tail _ (.head _))).put _ _ _ (.tail _ (.head _))).ethFlag _ _
    (.tail _ (.tail _ (.head _)))).log _ _ _ _

theorem ethLink_shows {p : Nat} (hp : p < 4) (up : Bool) {partner : Nat} (hs : partner < 3) (h : s.bit Reg.ETH_STAT p ≠ s.linkOn p up) :
    let t := s.ethLink p up partner
    t.bit Reg.ETH_STAT p = s.linkOn p up ∧ t.bit (Reg.ETH_PSTAT p) 0 = s.linkOn p up ∧ t.fld (Reg.ETH_PSTAT p) 2 1 = portSpeed (s.portMode p) partner ∧
    t.bit Reg.ETH_ISTAT (12 + p) = true ∧ t.bit Reg.INT_STAT_LO (24 + p) = true ∧ OnlyRegsSig s t [Reg.ETH_STAT, Reg.ETH_PSTAT p, Reg.ETH_ISTAT] ∧
    t = { s with regs := t.regs, supPend := t.supPend, tally := t.tally, buckets := t.buckets, eth := t.eth } :=
  ⟨((ethLink_after s p up partner h).bit _ rfl _).trans (stat_linkShown s hp _ _), ((ethLink_after s p up partner h).bit _ rfl _).trans (up_linkShown s hp _ _),
    ((ethLink_after s p up partner h).fld _ rfl _ _).trans (speed_linkShown s hp _ _ (portSpeed_lt _ hs)),
    ((ethLink_after s p up partner h).bit _ rfl _).trans (flag_flagged _ _ _ _ _ _ _ (Nat.lt_trans (Nat.add_lt_add_left hp 12) (by decide))),
    ((ethLink_after s p up partner h).bit _ rfl _).trans (int_flagged _ _ _ _ _ _ _ (Nat.lt_trans hp (by decide))),
    ((linkShown_writes s p _ _).of_agree (ethLink_after s p up partner h) rfl).onlyRegsSig, (State.ethLink_ag s p up partner).eq_signal_eth⟩

theorem redPathLost_off (p : Nat) (h : s.bit (Reg.ETH_PSTAT p) 3 = false) : s.redPathLost p = s := if_pos (by rw [h]; rfl)

theorem redPathLost_eq (p : Nat) (h : s.bit (Reg.ETH_PSTAT p) 3 = true) :
    ∃ n, s.redPathLost p = (((s.reachCnt n).putBit (Reg.ETH_PSTAT p) 3 false).ethFlag (16 + p) p).log 0x1D1 p 0 0 :=
  ⟨_, if_neg (by rw [h]; decide)⟩

theorem redPathLost_shows {p : Nat} (hp : p < 2) (h : s.bit (Reg.ETH_PSTAT p) 3 = true) : let t := s.redPathLost p
    t.bit (Reg.ETH_PSTAT p) 3 = false ∧ t.bit Reg.ETH_ISTAT (16 + p) = true ∧ t.bit Reg.INT_STAT_LO (24 + p) = true ∧
    t = { s with regs := t.regs, supPend := t.supPend, tally := t.tally, buckets := t.buckets, tb := t.tb } := by
  refine ⟨?_, ?_, ?_, (State.redPathLost_ag s p).eq_signal_tb⟩
  · obtain ⟨n, ht⟩ := redPathLost_eq s p h
    have hrd := rd_flagged ((s.reachCnt n).putBit (Reg.ETH_PSTAT p) 3 false) (16 + p) p 0x1D1 p 0 0 _ (pstat_ne (Nat.lt_trans hp (by decide))).2
      (Nat.le_trans (by decide) (portReg_high (b := 0x20104) (w := 0x40) (i := p) (by decide)))
    rw [ht]
    exact (congrArg (bitAt · 3) hrd).trans ((State.bit_putBit _ _ _ _ _ _ (by decide)).trans (if_pos ⟨rfl, rfl⟩))
  · obtain ⟨n, ht⟩ := redPathLost_eq s p h
    exact ht ▸ flag_flagged _ _ _ _ _ _ _ (Nat.lt_trans (Nat.add_lt_add_left hp 16) (by decide))
  · obtain ⟨n, ht⟩ := redPathLost_eq s p h
    exact ht ▸ int_flagged _ _ _ _ _ _ _ (Nat.lt_trans hp (by decide))

/-! ### Settings (R432) -/

section
variable (v : Word)

/-- The settings of a write of ETH_CTRL with its APPLY bit. -/
theorem field_apply {hi lo : Nat} (hh : hi < 31) (hl : lo ≤ hi) : field (v ||| 0x80000000) hi lo = field v hi lo :=
  field_congr (fun i _ h => sameRest_or v i (Nat.lt_of_le_of_lt h hh)) hl

theorem ethCtrl_denied (h : field v 1 0 = 3 ∨ field v 5 4 = 3) : s.ethCtrlWrite (v ||| 0x80000000) = (s.ethFlag 4 0).log 0x1D8 0 0 2 :=
  if_pos (h.imp (field_apply v (by decide) (by decide)).trans (field_apply v (by decide) (by decide)).trans)

theorem ethCtrl_refused (h : field v 1 0 = 3 ∨ field v 5 4 = 3) : let t := s.ethCtrlWrite (v ||| 0x80000000)
    t.bit Reg.ETH_ISTAT 4 = true ∧ t.bit Reg.INT_STAT_LO 24 = true ∧ t.eth = s.eth ∧ OnlyRegsSig s t [Reg.ETH_ISTAT] := by
  rw [ethCtrl_denied s v h]
  exact ⟨flag_flagged s 4 0 _ _ _ _ (by decide), int_flagged s 4 0 _ _ _ _ (by decide), (State.ethDeny_ag s 0 2).eth rfl,
    Writes.onlyRegsSig (((Writes.refl _ s).ethFlag _ _ (.head _)).log _ _ _ _)⟩

/-- ETH_CTRL as written, and the entries that have taken simulated frames forgotten with SIM = 0. -/
def State.ethCtrlStored (s : State) (v : Word) : State :=
  let s := s.wr Reg.ETH_CTRL (v &&& 0x337)
  if bitAt v 8 then s else (List.range 128).foldl (fun t e => t.setGse e { t.gse e with sim := false }) s

theorem ethCtrlStored_ag : Agree 34359738368 (s.wr Reg.ETH_CTRL (v &&& 0x337)) (s.ethCtrlStored v) :=
  .ite (fun _ => .refl _ _) fun _ => (Agree.refl _ _).foldl fun _ _ ht => ht.then (State.setGse_ag _ _ _) rfl

theorem ethCtrlStored_services : OnlyServices s (s.ethCtrlStored v) := by
  unfold State.ethCtrlStored
  dsimp only
  split
  · exact .of_eth rfl
  · exact List.foldlRecOn (motive := OnlyServices s) _ _ (.of_eth rfl) fun t ht e _ => ht.setGse _ _

theorem ctrl_ethCtrlStored : (s.ethCtrlStored v).rd Reg.ETH_CTRL = v &&& 0x337 :=
  ((ethCtrlStored_ag s v).rd _ rfl).trans ((State.rd_wr _ _ _ _).trans (if_pos rfl))

/-- What a write of ETH_CTRL with APPLY stores of the value without it. -/
theorem ctrl_apply : (s.ethCtrlStored (v ||| 0x80000000)).rd Reg.ETH_CTRL = v &&& 0x337 :=
  (ctrl_ethCtrlStored s _).trans ((sameRest_or v).and_eq (by decide))

theorem field_and_337 {hi lo : Nat} (hl : lo ≤ hi) (h : ∀ i, i ≤ hi → lo ≤ i → (0x337 : Word).getLsbD i = true) :
    field (v &&& 0x337) hi lo = field v hi lo :=
  field_congr (fun i h0 h1 => (BitVec.getLsbD_and).trans ((congrArg (v.getLsbD i && ·) (h i h1 h0)).trans (Bool.and_true _))) hl

theorem ethCtrl_applies (h0 : field v 1 0 ≠ 3) (h1 : field v 5 4 ≠ 3) :
    s.ethCtrlWrite (v ||| 0x80000000) = (s.ethCtrlStored (v ||| 0x80000000)).redApply := by
  have hok : ¬ (field (v ||| 0x80000000) 1 0 = 3 ∨ field (v ||| 0x80000000) 5 4 = 3) := fun e =>
    e.elim (fun e => h0 ((field_apply v (by decide) (by decide)).symm.trans e)) fun e => h1 ((field_apply v (by decide) (by decide)).symm.trans e)
  exact (if_neg hok).trans (if_pos (by rw [bitAt_or_top]; rfl))

theorem ethCtrl_shows (h0 : field v 1 0 ≠ 3) (h1 : field v 5 4 ≠ 3) : let t := s.ethCtrlWrite (v ||| 0x80000000)
    t.rd Reg.ETH_CTRL = v &&& 0x337 ∧ t.eth.red = field v 1 0 ∧ t.eth.redbox = bitAt v 2 ∧ t.eth.kind = field v 5 4 ∧ t.eth.dup = [] ∧ t.eth.fwd = [] ∧
    t.eth.queues = s.eth.queues ∧ OnlyRegs s t [Reg.ETH_CTRL] := by
  obtain ⟨x, y, heth⟩ := ethCtrlStored_services s (v ||| 0x80000000)
  have hctrl := ctrl_apply s v
  have honly : OnlyRegs s (s.ethCtrlStored (v ||| 0x80000000)) [Reg.ETH_CTRL] :=
    ((OnlyRegs.refl s _).wr _ (.head _)).of_agree (ethCtrlStored_ag s _) rfl
  have hqueues : (s.ethCtrlStored (v ||| 0x80000000)).eth.queues = s.eth.queues := (congrArg EthU.queues heth :)
  rw [ethCtrl_applies s v h0 h1]
  generalize s.ethCtrlStored (v ||| 0x80000000) = u at hctrl honly hqueues ⊢
  exact ⟨hctrl, (congrArg (field · 1 0) hctrl).trans (field_and_337 v (by decide) (by decide)),
    (congrArg (bitAt · 2) hctrl).trans ((BitVec.getLsbD_and).trans (Bool.and_true _)),
    (congrArg (field · 5 4) hctrl).trans (field_and_337 v (by decide) (by decide)), rfl, rfl, hqueues, honly.of_agree (State.redApply_ag u) rfl⟩

end

/-! ### The stamp FIFO (R462) -/

/-- The head of the stamp FIFO has been taken. -/
def State.stampTaken (s : State) (xs : List TxStamp) : State := (s.ethMod (fun e => { e with txts := xs })).put Reg.ETH_TXTS_STAT 6 0 xs.length

def State.stampLatched (s : State) (r : Req) (x : TxStamp) : State :=
  (((s.latch r Reg.ETH_TXTS_SEC (w32 x.sec)).latch r Reg.ETH_TXTS_TAG (w32 (x.seq * 65536 + x.mtype * 256 + x.port))).headTaken Reg.ETH_TXTS_NS).answer r (w32 x.ns)

section
variable (r : Req) (x : TxStamp) (xs : List TxStamp)

theorem txtsRead_eq (h : s.eth.txts = x :: xs) : s.txtsRead r = (s.stampTaken xs).stampLatched r x := by
  unfold State.txtsRead
  rw [h]
  rfl

theorem stampLatched_snaps : (s.stampLatched r x).snap r Reg.ETH_TXTS_SEC = w32 x.sec ∧
    (s.stampLatched r x).snap r Reg.ETH_TXTS_TAG = w32 (x.seq * 65536 + x.mtype * 256 + x.port) :=
  ⟨(SMap.get_set _ _ _ _ _).trans ((if_neg fun e => absurd (Nat.add_left_cancel e) (by decide)).trans ((SMap.get_set _ _ _ _ _).trans (if_pos rfl))),
    (SMap.get_set _ _ _ _ _).trans (if_pos rfl)⟩

theorem stampLatched_rd (k : Nat) (hk : Reg.ETH_TXTS_NS ≠ k) : (s.stampLatched r x).rd k = s.rd k :=
  (State.rd_wr _ Reg.ETH_TXTS_NS 1 k).trans (if_neg hk)

theorem txtsRead_head (h : s.eth.txts = x :: xs) (hl : xs.length < 64) : let t := s.txtsRead r
    t.eth.txts = xs ∧ t.answered r = w32 x.ns ∧ t.snap r Reg.ETH_TXTS_SEC = w32 x.sec ∧
    t.snap r Reg.ETH_TXTS_TAG = w32 (x.seq * 65536 + x.mtype * 256 + x.port) ∧ t.fld Reg.ETH_TXTS_STAT 6 0 = xs.length ∧
    OnlyRegs s t [Reg.ETH_TXTS_STAT, Reg.ETH_TXTS_NS] ∧
    t = { s with regs := t.regs, rsp := t.rsp, snaps := t.snaps, eth := t.eth, freeCtr := t.freeCtr } := by
  have hag := (State.txtsRead_ag s r).eq_txts
  rw [txtsRead_eq s r x xs h] at hag ⊢
  exact ⟨rfl, (State.answered_answer _ _ _ _).trans (if_pos rfl), (stampLatched_snaps _ r x).1, (stampLatched_snaps _ r x).2,
    (congrArg (field · 6 0) (stampLatched_rd _ r x Reg.ETH_TXTS_STAT (by decide))).trans
      ((State.fld_put_same _ _ _ _ _ (by decide) (by decide)).trans (Nat.mod_eq_of_lt (Nat.lt_trans hl (by decide)))),
    fun k hk => (stampLatched_rd _ r x k fun e : Reg.ETH_TXTS_NS = k => hk (e ▸ .tail _ (.head _))).trans
      ((State.rd_put _ _ _ _ _ _).trans (if_neg fun e : Reg.ETH_TXTS_STAT = k => hk (e ▸ .head _))), hag⟩

theorem emptyRead_shows (a : Nat) (h : s.rd a = 0) : (s.emptyRead r a).answered r = 0 :=
  (congrArg (State.answered · r) (if_pos h)).trans ((State.answered_answer _ _ _ _).trans (if_pos rfl))

theorem txtsRead_empty (h : s.eth.txts = []) : s.txtsRead r = s.emptyRead r Reg.ETH_TXTS_NS := by
  unfold State.txtsRead
  rw [h]

end

end

end Sys2Proof.Machine
end

section
/-!
The statement about the switch (chapter 13).
-/
namespace Sys2Proof.Machine
open Sys2Proof

section
variable {s : State}

theorem exec_ethApply {r : Req} (v : Word) (h : s.served r = true) : exec (.ethApply r v) s = .next (s.ethCtrlWrite (v ||| 0x80000000)) :=
  access_served s r (f := fun s => s.ethCtrlWrite (v ||| 0x80000000)) h

theorem exec_ethTxtsNsRead {r : Req} (h : s.served r = true) : exec (.ethTxtsNsRead r) s = .next (s.txtsRead r) :=
  access_served s r (f := fun s => s.txtsRead r) h

/-- The read of an empty stamp FIFO. -/
theorem exec_ethTxtsNsRead_empty {r : Req} (hx : s.eth.txts = []) (h : s.served r = true) :
    exec (.ethTxtsNsRead r) s = .next (s.emptyRead r Reg.ETH_TXTS_NS) :=
  (exec_ethTxtsNsRead h).trans (congrArg Host.Outcome.next (txtsRead_empty s r hx))

end

/-- Settles O50: a received frame is counted, and outside redundancy learned where its VLAN admits it; the head of a queue leaves and is
counted; supervision, ageing, links, paths, settings and the stamp FIFO each change what they must. -/
theorem ethernetSwitch : Obligations.EthernetSwitch := by
  unfold Obligations.EthernetSwitch
  intro s p pl pr r frame sec ns mac up speed v port istat
  refine ⟨fun h => ⟨fun ok => congrArg Host.Outcome.next (ethRx_down s port frame sec ns.val ok h), congrArg Host.Outcome.next (ethEgress_down s port sec ns.val h)⟩,
    fun h h4 => ⟨⟨_, rfl, ethRx_counts s port frame sec ns.val h (Nat.lt_of_le_of_ne (Nat.le_of_lt_succ p.isLt) h4),
        (State.ethRx_ag s port frame true sec ns.val).eq_switch⟩,
      ⟨_, rfl, ethRx_discards s port frame sec ns.val h (Nat.lt_of_le_of_ne (Nat.le_of_lt_succ p.isLt) h4)⟩⟩,
    fun members untag hup hred hv =>
      ⟨fun hm => ⟨_, rfl, (ethRx_single_in s port p.isLt frame sec ns.val _ members untag hup hred ((congrArg s.vlanPorts (rxPrio_vid s port _)).trans hv) hm).found,
        (ethRx_single_in s port p.isLt frame sec ns.val _ members untag hup hred ((congrArg s.vlanPorts (rxPrio_vid s port _)).trans hv) hm).others⟩,
        fun hm => ⟨_, rfl, ethRx_single_out s port p.isLt frame sec ns.val _ members untag hup hred ((congrArg s.vlanPorts (rxPrio_vid s port _)).trans hv) hm⟩⟩,
    fun h => congrArg Host.Outcome.next (ethEgress_empty s port sec ns.val h),
    fun q f hup hf => ⟨_, rfl, ethEgress_tail s port sec ns.val q f hup hf, ethEgress_others s port sec ns.val q f hup hf, ethEgress_wire s port sec ns.val q f hup hf,
      ethEgress_counts s port sec ns.val q f hup hf p.isLt, (State.ethEgress_ag s port sec ns.val).eq_switch⟩,
    fun h => congrArg Host.Outcome.next (prpSupervision_off s h),
    fun h hn => ⟨_, rfl, prpSupervision_shows s h hn⟩,
    fun h => congrArg Host.Outcome.next (ageing_unknown s mac.toNat h),
    fun d h => ⟨_, rfl, (ageing_forgets s mac.toNat d h).1, (ageing_forgets s mac.toNat d h).2, (State.ageing_ag s mac.toNat).eq_regs_tb_eth⟩,
    ⟨fun h => congrArg Host.Outcome.next (ethLink_same s pl.val up speed.val h), fun h => ⟨_, rfl, ethLink_shows s pl.isLt up speed.isLt h⟩⟩,
    fun h => congrArg Host.Outcome.next (redPathLost_off s pr.val h),
    fun h => ⟨_, rfl, redPathLost_shows s pr.isLt h⟩,
    fun h hs => ⟨_, exec_ethApply v hs, ethCtrl_refused s v h⟩,
    fun h0 h1 hs => ⟨_, exec_ethApply v hs, ethCtrl_shows s v h0 h1⟩,
    fun x xs hx hl hs => ⟨_, exec_ethTxtsNsRead hs, txtsRead_head s r x xs hx hl⟩,
    fun hx hs => ⟨_, exec_ethTxtsNsRead_empty hx hs, emptyRead_shows s r _, (State.emptyRead_ag s r _).eq_rsp_free⟩⟩

end Sys2Proof.Machine
end
